-- ==== Sys2Proof/Word.lean ====
section
/-!
DEFINITION. The register word and the byte of the device (R7: all registers are 32 bits wide, little-endian).
-/
namespace Sys2Proof

/-- A 32-bit register word (R7). -/
abbrev Word := BitVec 32

/-- One byte of DDR-4, of a packet or of a record. -/
abbrev Byte := BitVec 8

end Sys2Proof
end

