-- ==== Sys2Proof/Machine/Bits.lean ====
section
/-!
DEFINITION. Arithmetic helpers shared by every block: two's-complement readings (R8), rounding, clamping,
saturation (R9), little-endian bytes (R7) and the CRCs the spec names.
-/
namespace Sys2Proof.Machine

/-- Two's-complement reading of the low `w` bits of `x` (R8). -/
def toSigned (w x : Nat) : Int :=
  let m := x % 2 ^ w
  if m < 2 ^ (w - 1) then (m : Int) else (m : Int) - (2 ^ w : Nat)

/-- The low `w` bits of an integer, as an unsigned value (R8). -/
def wrapTo (w : Nat) (x : Int) : Nat := (x % ((2 ^ w : Nat) : Int)).toNat

/-- Clamp to a closed range. -/
def clampI (x lo hi : Int) : Int := if x < lo then lo else if hi < x then hi else x

/-- Clamp an integer into the unsigned range 0..hi. -/
def clampN (x : Int) (hi : Nat) : Nat := (clampI x 0 hi).toNat

/-- ceil(a / b). -/
def ceilDiv (a b : Nat) : Nat := (a + b - 1) / b

/-- Bit `k` of a natural number. -/
def bitN (x k : Nat) : Bool := x / 2 ^ k % 2 == 1

/-- 1 for true, 0 for false. -/
def b2n (b : Bool) : Nat := if b then 1 else 0

/-- The bit field `[lo + w - 1 : lo]` of a natural number. -/
def fieldN (x lo w : Nat) : Nat := x / 2 ^ lo % 2 ^ w

/-- Arithmetic shift right, `>>` of the spec's procedures: floor division by a power of two. -/
def asr (x : Int) (k : Nat) : Int := x.fdiv ((2 ^ k : Nat) : Int)

/-- Round half away from zero of `num / den`, for a positive `den`. -/
def roundHalfAway (num : Int) (den : Nat) : Int :=
  if 0 ≤ num then ((2 * num.toNat + den) / (2 * den) : Nat)
  else -((2 * (-num).toNat + den) / (2 * den) : Nat)

/-- Saturating increment of a counter of `w` bits (R9). -/
def satInc (w x : Nat) : Nat := if x + 1 < 2 ^ w then x + 1 else 2 ^ w - 1

/-- Number of ones among the low `n` bits. -/
def popcount (n x : Nat) : Nat := ((List.range n).filter (bitN x)).length

/-- Little-endian bytes of a value (R7). -/
def leBytes : Nat → Nat → List Byte
  | 0, _ => []
  | k + 1, x => BitVec.ofNat 8 x :: leBytes k (x / 256)

/-- The value of little-endian bytes (R7). -/
def leVal : List Byte → Nat
  | [] => 0
  | b :: bs => b.toNat + 256 * leVal bs

/-- Words to bytes, little-endian. -/
def wordsBytes (ws : List Nat) : List Byte := ws.flatMap (leBytes 4)

/-- `n` zero bytes. -/
def zeros (n : Nat) : List Byte := List.replicate n 0

/-- Pad with zeros to a multiple of `k`. -/
def padTo (k : Nat) (bs : List Byte) : List Byte :=
  bs ++ zeros ((k - bs.length % k) % k)

/-- One bit step of a reflected CRC. -/
def crcStep (poly c : Nat) : Nat :=
  if c % 2 == 1 then Nat.xor (c / 2) poly else c / 2

/-- Eight bit steps of a reflected CRC. -/
def crcByte (poly c : Nat) : Nat :=
  crcStep poly (crcStep poly (crcStep poly (crcStep poly
    (crcStep poly (crcStep poly (crcStep poly (crcStep poly c)))))))

/-- The register of a reflected CRC after a byte string. The match only has the register evaluated byte by byte. -/
def crcBytes (poly : Nat) : List Byte → Nat → Nat
  | [], c => c
  | b :: bs, c =>
    match crcByte poly (Nat.xor c b.toNat) with
    | 0 => crcBytes poly bs 0
    | n + 1 => crcBytes poly bs (n + 1)

/-- CRC-32C (Castagnoli), reflected, initial value and final inversion all ones. -/
def crc32c (bs : List Byte) : Nat := Nat.xor (crcBytes 0x82F63B78 bs 0xFFFFFFFF) 0xFFFFFFFF

/-- CRC-32 of IEEE 802.3, the frame check sequence the device appends (R368). -/
def crc32e (bs : List Byte) : Nat := Nat.xor (crcBytes 0xEDB88320 bs 0xFFFFFFFF) 0xFFFFFFFF

/-- Big-endian bytes of a value, as network headers hold them. -/
def beBytes (k x : Nat) : List Byte := (leBytes k x).reverse

/-- The value of big-endian bytes. -/
def beVal (bs : List Byte) : Nat := leVal bs.reverse

/-- Bytes `[i, i + n)` of a byte string. -/
def slice {α : Type} (bs : List α) (i n : Nat) : List α := (bs.drop i).take n

/-- A byte string with `new` written over it from byte `i`. -/
def splice {α : Type} (bs : List α) (i : Nat) (new : List α) : List α :=
  bs.take i ++ new ++ bs.drop (i + new.length)

/-- One bit step of the SMBus packet error code, polynomial x^8 + x^2 + x + 1. -/
def crc8Step (c : Nat) : Nat :=
  if bitN c 7 then Nat.xor (c * 2 % 256) 0x07 else c * 2 % 256

/-- The SMBus packet error code (CRC-8) of a byte string. -/
def crc8 (bs : List Byte) : Nat :=
  bs.foldl (fun c b => crc8Step (crc8Step (crc8Step (crc8Step
    (crc8Step (crc8Step (crc8Step (crc8Step (Nat.xor c b.toNat))))))))) 0

/-- Replace element `i` of a list; the list is unchanged when `i` is outside it. -/
def setAt {α : Type} (l : List α) (i : Nat) (a : α) : List α := l.set i a

/-- Map element `i` of a list. -/
def modAt {α : Type} (l : List α) (i : Nat) (f : α → α) : List α := l.modify i f

/-- Integer square root from bit `k` down, starting at `r`. -/
def isqrtGo (n : Nat) : Nat → Nat → Nat
  | 0, r => r
  | k + 1, r =>
    let t := r + 2 ^ k
    isqrtGo n k (if t * t ≤ n then t else r)

/-- Integer square root, floor, of a value below 2^80. -/
def isqrt (n : Nat) : Nat := isqrtGo n 40 0

/-- The index of the first least element under a strict order test. -/
def argBest {α : Type} (better : α → α → Bool) : List α → Option α
  | [] => none
  | a :: as => some (as.foldl (fun m x => if better x m then x else m) a)

end Sys2Proof.Machine
end

