-- ==== Sys2Proof/Syntax.lean ====
section
/-!
DEFINITION. The commands of the block, one constructor per row of the opcode table, and their operand types.
A command is what reaches the block from outside (a register access, a packet, a pin, a frame) or the end of a time the spec
names; times are not operands (assumption 5).
-/
namespace Sys2Proof

/-! ### Lines, tags and samples -/

/-- A tag (R140). `cu` is the compare unit ENC_POS and FRAC came from, if any (R141). -/
structure Tag where
  seq    : Nat := 0
  encPos : Nat := 0
  frac   : Nat := 0
  ts     : Nat := 0
  /-- BANK: true is bank B. -/
  bank   : Bool := false
  cu     : Option Nat := none
  deriving DecidableEq, Repr

/-- The descriptor flags of a camera line (R146). -/
structure LFlags where
  short : Bool := false
  long  : Bool := false
  stale : Bool := false
  clamp : Bool := false
  repl  : Bool := false
  deriving DecidableEq, Repr

/-- A line of samples: one list per channel. -/
abbrev Pix := List (List Nat)

/-! ### PCIe -/

/-- What the host has written into the endpoint's configuration space (R354, R376). -/
structure PcieCfg where
  /-- Where BAR0 stands. -/
  bar0     : BitVec 64
  msixEn   : Bool
  /-- MSI-X function mask. -/
  msixMask : Bool
  /-- Max payload size: 128, 256 or 512 bytes. -/
  payload  : Fin 3
  /-- Max read request size: 128 bytes doubled this many times, up to 4,096. -/
  readReq  : Fin 6
  tag10    : Bool
  aspmL1   : Bool
  /-- AER reports uncorrectable errors. -/
  aer      : Bool
  deriving DecidableEq, Repr

/-! ### Pairing -/

/-- What the primary sends in step 3 of a resynchronisation (R440). -/
structure Captures where
  pos    : List Word
  half   : List (BitVec 16)
  /-- Points N of the enabled compare units. -/
  points : List (Fin 32 × BitVec 48)
  org    : Word
  ls     : List Word
  lbl    : List Word
  b0     : BitVec 24
  /-- The reference compare point of B_0's first line and its unit. -/
  refPt  : BitVec 48
  refCu  : Fin 32
  deriving DecidableEq, Repr

/-- The payload of a SHADOW frame (R438, R442). -/
inductive Shadow where
  /-- Up to four records of the primary. -/
  | records (rs : List (List Word))
  /-- The reseed values of step 6: SEG_OBJ_NEXT, seam errors, tile words, takeover entries (port, nozzle, source). -/
  | reseed (objNext : BitVec 40) (seams : List (BitVec 16 × BitVec 16)) (tiles : List (Fin 768 × Word))
      (tks : List (Fin 8 × BitVec 12 × Fin 3))
  deriving DecidableEq, Repr

/-! ### Requests to DDR-4 -/

/-- Who makes a DDR-4 request: it fixes the page hint (R320) and the class (R323). -/
inductive DdrWho where
  /-- The owner of real-time port `p`, whose level grew by `moved` units since its last request (R324). -/
  | port (p : Fin 32) (moved : BitVec 12)
  /-- Print fetch of port `n`. -/
  | print (n : Fin 8)
  /-- SEG spill. -/
  | spill
  /-- DMA channel `n`. -/
  | dma (n : Fin 32)
  /-- The host or the ISP, whose hint the spec does not give. -/
  | other (openRow : Bool)
  deriving DecidableEq, Repr

/-- The commands: one constructor per row of the opcode table, in its order. -/
inductive Instr where
  /-- A write to a register that has no row of its own takes effect according to the access code of each field.
  (R5) -/
  | registerWrite (off : BitVec 26) (val : Word) (be : Bool)
  /-- An access to a reserved offset reads 0 or is ignored; the first such access is captured in TOP_ACC_ERR.
  (R27) -/
  | reservedAccess (off : BitVec 26) (write : Bool) (val : Word)
  /-- A gated block finishes waking after its WAKE delay, and the access or work that waited for it completes.
  (R397) -/
  | blockWakeDone (b : Fin 32)
  /-- A packet write of TOP_DEVID.DEV_ID sets the device ID; it is refused while any Nimeb port is up. (R29) -/
  | devIdWrite (id : BitVec 18)
  /-- A CFG_LOAD packet chunk writes bit-stream bytes into the staging area and may begin a load (START) or mark
  its end (LAST). (R365) -/
  | cfgLoad (q : Fin 32) (pkt : List Byte)
  /-- Once every chunk of a load has been written, the loader checks the stream in order and either accepts or
  rejects it. (R48) -/
  | loadValidate
  /-- A STRUCT finishes applying: APPLYING falls, and the event matrix, LD registers, encoder modes and job
  banks take their new state on that edge. (R51) -/
  | structApplyDone
  /-- A write of CFG_CTL.LOAD_ABORT discards a load under validation; the load is rejected with 0x37. (R50) -/
  | loadAbort
  /-- A write that changes CFG_CTL.RUN from 1 to 0 starts the stop of the pixel pipeline and disarms any armed
  swap. (R51) -/
  | pipelineStop
  /-- Once lines in flight have drained and the last record has been posted, PIPE_STOPPED is set. (R51) -/
  | pipelineDrained
  /-- A write of CFG_CTL.RUN = 1 makes a READY bank RUNNING if no bank runs, wakes table-class blocks, and
  starts the pipeline. (R65) -/
  | pipelineRun
  /-- CFG_SWAP_CTL.ARM arms the READY bank against the target count on the named channel, subject to the margin
  checks. (R57) -/
  | swapArm (chan : Fin 4)
  /-- CFG_SWAP_CTL.DISARM returns an ARMED bank to READY, or completes with 0x3C or 0x39. (R64) -/
  | swapDisarm (chan : Fin 4)
  /-- CFG_SWAP_CTL.NOW, with the pipeline stopped, makes the READY bank RUNNING at once and posts JOB_SWAP.
  (R65) -/
  | swapNow (chan : Fin 4)
  /-- When the last line and record tagged with a DRAINING bank have left the device, that bank becomes EMPTY.
  (R63) -/
  | bankDrainDone (bankB : Bool)
  /-- A valid single-line change of A or B counts one step forward or backward on the channel's position
  counter. (R67) -/
  | encoderStep (n : Fin 4) (lineB : Bool)
  /-- Accepted changes of A and B in the same sample count no step and raise ENCn_QERR. (R69) -/
  | quadratureError (n : Fin 4)
  /-- At the end of a dead time, a sampled level that still differs is accepted as a change of its own. (R68) -/
  | deadTimeEnd (n : Fin 4) (line : Fin 3)
  /-- No step for the STILL_TO time sets STILL, sets ENCn_PERIOD to all ones and raises ENCn_STILL. (R74) -/
  | standstill (n : Fin 4)
  /-- An accepted Z rising edge raises ENCn_IDX and, when moving forward, is captured and checked against the
  revolution. (R75) -/
  | indexEdge (n : Fin 4) (level : Bool)
  /-- With INTERP = 1, a delayed hit is taken when its interpolation delay D expires. (R80) -/
  | interpolatedHit (us : List (Fin 32))
  /-- A point loaded in a cycle in which the unit already took a hit is hit in the next EVT_CLK cycle. (R81) -/
  | deferredHit (us : List (Fin 32))
  /-- A write of CUnn_SPACING sets the spacing together with any held SPACING_HI, refused below 1.0 count. (R78) -/
  | cuSpacingWrite (u : Fin 32) (val : Word)
  /-- A write of CUnn_SPACING_HI is held until the next write of CUnn_SPACING. (R78) -/
  | cuSpacingHiWrite (u : Fin 32) (val : Word)
  /-- The TIMER period of an absolute input expires and starts an SSI or BiSS-C cycle. (R86) -/
  | absTimerStart (n : Fin 2)
  /-- An absolute cycle completes: ABSn_POS is updated and ABSn_DONE raised, or ABSn_FAIL on a fault. (R86) -/
  | absCycleDone (n : Fin 2) (raw : Word) (errLow warnLow : Bool) (crc : BitVec 6)
  /-- No start bit within 20 µs sets TIMEOUT and raises ABSn_FAIL. (R86) -/
  | absStartTimeout (n : Fin 2)
  /-- A switch input differs from its accepted level and starts its debounce run. (R87) -/
  | switchInputChange (n : Fin 8) (pin : Bool)
  /-- A switch level that has held for the debounce time is accepted; SWn_CAP, CHG and SWn_RISE or SWn_FALL
  follow. (R87) -/
  | switchAccept (n : Fin 8)
  /-- After 40 cycles the pulse pin returns inactive. (R92) -/
  | pulsePinEnd (c : Fin 64)
  /-- The busy time of a consumer ends and it accepts activations again. (R98) -/
  | consumerBusyEnd (c : Fin 64)
  /-- HQn_ITIME expires since the oldest unsignalled entry of a queue, and its MSI-X vector is signalled. (R376) -/
  | irqHoldoffTimer (q : Fin 32)
  /-- An EVENT packet raises sources HOST0 and HOST1 in one FAB_CLK cycle. (R366) -/
  | event (q : Fin 32) (pkt : List Byte)
  /-- A serial lane aligns on commas or sync headers and enters LOCK. (R110) -/
  | laneLock (ln : Fin 114) (skew : BitVec 8)
  /-- Too many code or header errors make a lane leave LOCK, set LOCK_LOST and hunt again. (R110) -/
  | laneLockLoss (ln : Fin 114) (code disp : BitVec 16)
  /-- A camera lane in HUNT ends its 200 µs dwell at one rate and tries the next. (R112) -/
  | rateHuntDwell (ln : Fin 114)
  /-- A CXP packet between start and end markers is received, checked and aggregated by tag, or discarded.
  (R111) -/
  | cxpPacket (n : Fin 12) (link : Fin 8) (late : Bool) (tag stream : BitVec 8) (crcOk first : Bool) (fmt : Fin 8) (line : BitVec 16) (ofs : BitVec 16) (pix : List (List Nat))
  /-- A downlink trigger marker from a camera is discarded, counted and flagged in ING. (R136) -/
  | downlinkTrigger (n : Fin 12)
  /-- A control or heartbeat packet from a camera's master connection is tunnelled to the host queue. (R116) -/
  | cxpCtrlReceived (n : Fin 12) (heartbeat : Bool) (bytes : List Byte)
  /-- A camera's master connection out of IN_SERVICE for more than 100 µs lowers the camera's ready bit. (R112) -/
  | masterLossTimeout (n : Fin 12)
  /-- A lane that stays out of LOCK for 100 µs or passes its error threshold is retired and a FAULT record
  queued. (R132) -/
  | laneRetire (ln : Fin 114) (code disp : BitVec 16)
  /-- The camera acknowledges or refuses the reduced connection configuration; aggregation switches to the new
  set. (R134) -/
  | cameraLinkAck (n : Fin 12) (ok : Bool)
  /-- A write to LANEi_EQ sets the equaliser seed, applied when the lane next enters HUNT. (R120) -/
  | laneEqSeedWrite (ln : Fin 114) (val : Word)
  /-- A write of LOOP or PRBS puts a permitted lane into TEST, or is refused. (R121) -/
  | laneCtlWrite (ln : Fin 114) (val : Word)
  /-- LANEi_EYE_CTL.START starts or restarts an eye scan at the given offsets. (R123) -/
  | eyeScanStart (ln : Fin 114) (val : Word)
  /-- The dwell of an eye scan ends and DONE is set with the disagreement count. (R123) -/
  | eyeScanDone (ln : Fin 114) (errors : Word)
  /-- Every 10 µs a port in IDENT sends an IDENT frame until it has received one. (R126) -/
  | identTimer (p : Fin 4)
  /-- A received IDENT frame brings the port UP, or to HELD with DUP_ID if it carries the port's own DEV_ID.
  (R126) -/
  | identFrame (p : Fin 4) (devId : BitVec 18) (ack : Option (BitVec 12))
  /-- NPp_CTL.RETRAIN returns a Nimeb port to TRAIN. (R126) -/
  | npRetrain (p : Fin 4)
  /-- A credited Nimeb frame is received in SEQ order and consumed or forwarded, or discarded with a NAK. (R130) -/
  | nimebDataFrame (p : Fin 4) (vc : Fin 4) (dst src : BitVec 18) (seq : BitVec 12) (ack : Option (BitVec 12)) (fcrcOk : Bool) (payload : List Byte)
  /-- A NAK makes the transmitter resend every kept frame after ACK_SEQ. (R130) -/
  | nakReceived (p : Fin 4) (ackSeq : BitVec 12)
  /-- A CREDIT frame returns receive credits to the transmitter. (R129) -/
  | creditFrame (p : Fin 4) (c0 c1 c2 c3 : BitVec 8) (ack : Option (BitVec 12))
  /-- At least every 1 µs while credit is owed, the receiver sends a CREDIT frame. (R129) -/
  | creditReturnTimer (p : Fin 4)
  /-- A LANE_SWAP frame names the marker count at which a logical lane moves to the spare. (R133) -/
  | laneSwapFrame (p : Fin 4) (logical : Fin 3) (lane : Fin 4) (marker : BitVec 16) (ack : Option (BitVec 12))
  /-- At the named marker both sides move the logical lane to the spare and update NPp_MAP. (R133) -/
  | laneSwapApply (p : Fin 4) (tx : Bool)
  /-- The line-end marker closes a camera line: pixel count check, tag matching, correction and release to
  stitching. (R137) -/
  | lineEnd (n : Fin 12) (stagFull : Bool)
  /-- A tag that waits MISS_TO line periods without a line receives a substitute line. (R143) -/
  | tagTimeout (n : Fin 12) (stagFull : Bool)
  /-- INGn_CTL.DARK_CAPT copies every channel's DARK_MEAS into DARK_REF. (R150) -/
  | darkCapt (n : Fin 12)
  /-- INGn_CTL.FLIP checks the shadow defect map and sets FLIP_PEND, or is refused with MAP_BAD. (R157) -/
  | ingFlip (n : Fin 12)
  /-- The first line to enter step 3 after the flip uses the new table set, and TBL_SET toggles. (R157) -/
  | ingFlipApply (n : Fin 12)
  /-- A delayed line returns from its stagger slot and joins the line store, or takes FILL on a fault. (R166) -/
  | staggerReadReturn (n : Fin 12)
  /-- Once reference line k + 4 is present and WAIT has passed, stitched line k is paired, blended, merged and
  cut into strips. (R169) -/
  | stitchLineForm
  /-- At the end of each block every seam is measured and its candidate confirmed or rejected and a new offset
  applied. (R175) -/
  | seamRegistration
  /-- A write of STI_SEAMs_SEED sets the seam's offsets at the next block boundary. (R178) -/
  | seamSeedWrite (k : Fin 11) (val : Word)
  /-- STI_UMAP_CTL.FLIP requests a flip of the µm table set. (R179) -/
  | umapFlip
  /-- A VU runs its operator chain over one line of its strip. (R192) -/
  | vuLineProcess (vu : Fin 512) (ce : BitVec 8)
  /-- An uncorrectable memory error or residue mismatch in a VU makes its region replay the block. (R184) -/
  | vuFault (pu : Fin 576) (kind : Fin 3) (word : BitVec 14)
  /-- A line not finished after 4 × CL cycles fires the sequencer watchdog as a VU fault. (R184) -/
  | vuWatchdog (vu : Fin 512)
  /-- A spare loaded from the restore area takes the logical index and becomes ACTIVE. (R423) -/
  | spareLoadDone (n : Fin 8)
  /-- 1,024 committed blocks after a window opened, it closes and FAULTS is cleared. (R421) -/
  | retireWindowClose (pu : Fin 576)
  /-- A replaying region catches up with the newest line in its ring and REPLAYING falls. (R198) -/
  | replayCaughtUp (n : Fin 8)
  /-- Every VU has finished the block's last line without fault; the region sends COMMIT. (R199) -/
  | blockCommit (n : Fin 8)
  /-- SEG resolves a block after the last region's commit: joins partials, closes objects, classifies and posts
  records. (R225) -/
  | segResolve
  /-- As credit returns, spilled records leave the spill area in order. (R239) -/
  | spillDrain
  /-- The gathering time of a record frame ends and the frame is queued for timed launch. (R240) -/
  | ethGatherTimer (port : Fin 2)
  /-- The master fetch reads and expands the master tiles for the next block. (R216) -/
  | masterFetch (bankB : Bool) (idx : Fin 4) (tile : BitVec 24) (block : BitVec 32)
  /-- After FIRE_W cycles HPn_FIRE returns inactive. (R248) -/
  | firePulseEnd (n : Fin 8)
  /-- The waveform window of a line cycle ends after WAVE cycles. (R248) -/
  | waveWindowEnd (n : Fin 8)
  /-- When no window runs, the latched line is stale and a line is shifted, HPn_LATCH pulses and WS takes the
  line's select. (R249) -/
  | latchPulse (n : Fin 8)
  /-- The LATCH pulse ends and the shift of the next prefetched line starts. (R249) -/
  | latchPulseEnd (n : Fin 8)
  /-- The shift of a line into the head completes. (R247) -/
  | shiftDone (n : Fin 8)
  /-- The busy time of a line cycle ends and HPn_LINE is raised. (R248) -/
  | lineCycleEnd (n : Fin 8)
  /-- A print-data line fetched from DDR-4 enters the prefetch buffer. (R255) -/
  | printFetchDone (n : Fin 8)
  /-- A change of HEAT_OK held for 80 cycles is accepted; a fall raises HPn_HOT and enters HOT. (R261) -/
  | heatOkAccept (n : Fin 8) (level : Bool)
  /-- HPn_TK_CMD with OP add puts a nozzle in the takeover table. (R265) -/
  | takeoverAdd (n : Fin 8) (nozzle : BitVec 12)
  /-- HPn_TK_CMD with OP remove takes a nozzle out of the table and posts REMOVED if it was confirmed. (R268) -/
  | takeoverRemove (n : Fin 8) (nozzle : BitVec 12)
  /-- A VSYNC active edge raises PPn_FS, captures a frame tag and takes a capture buffer, or drops the frame.
  (R274) -/
  | frameStart (p : Fin 2)
  /-- A received area-camera line is checked against WIDTH and written through the port's line queue. (R273) -/
  | ppLineEnd (p : Fin 2) (pix : List (BitVec 16)) (qFull : Bool)
  /-- The VSYNC inactive edge closes the frame with its geometry flags. (R273) -/
  | frameEnd (p : Fin 2)
  /-- The ISP takes up the next stored frame in notice order and copies its context. (R276) -/
  | ispFrameTakeup
  /-- The ISP finishes a frame, writes its slot and posts a frame notice. (R282) -/
  | ispFrameDone
  /-- A write of ISP_CTXc_CROP0 or CROP1 sets the crop window, or is refused. (R279) -/
  | ispCropWrite (c : Fin 4) (second : Bool) (val : Word)
  /-- TS_NS wraps: TS_WRAP is raised and a time EPOCH record queued. (R286) -/
  | tsWrap
  /-- The TS count reaches a whole second and TS_PPS is raised. (R286) -/
  | tsPps
  /-- TIME_ADJ_TICKS reaches 0 and the adjustment stops. (R284) -/
  | timeAdjEnd
  /-- A write of TIME_RATE changes the counter rate from the next TS_CLK edge, or is refused beyond ±1,000 ppm.
  (R284) -/
  | timeRateWrite (val : Word)
  /-- A write of TIME_ADJ_TICKS restarts the adjustment with the current TIME_ADJ_RATE. (R284) -/
  | timeAdjTicksWrite (val : Word)
  /-- A read of TIME_NOW_LO latches TIME_NOW_HI and TIME_NOW_FRAC from the same edge. (R288) -/
  | timeNowRead
  /-- On the first RTC tick after the calendar is ready, the TS counter is seeded if the calendar is valid.
  (R290) -/
  | tsSeed
  /-- A write of TIME_STEP_HI steps the counter once by the signed step, or is refused. (R291) -/
  | timeStep (hi : Word)
  /-- TIME_CTL.STEP_FROM_UP steps the counter by TIME_UP_OFS. (R291) -/
  | timeStepFromUp
  /-- A received Ethernet frame with good FCS passing the filter is stamped if an event message and posted to
  the host. (R369) -/
  | ethRx (port : Fin 2) (frame : List Byte) (fcsOk : Bool)
  /-- An ETH_TX packet sends a frame, ordinary or through the launch queue, with optional stamp and one-step
  insertion. (R368) -/
  | ethTx (q : Fin 32) (pkt : List Byte)
  /-- The head frame of a launch queue starts at its launch time, or is sent late or dropped. (R296) -/
  | launch (port : Fin 2)
  /-- Every PERIOD µs with UP_EN the device sends a TIME REQ on UP_PORT. (R298) -/
  | timeReqSend
  /-- A TIME REQ is answered with a RESP, or a matching RESP updates TIME_UP_OFS and TIME_UP_DLY. (R298) -/
  | timeFrame (port : Fin 4) (payload : List Byte) (ack : Option (BitVec 12))
  /-- No matching RESP within 100 µs loses the exchange. (R298) -/
  | timeExchangeTimeout
  /-- RTC_CTL.SET requests loading of RTC_SET at the next RTC tick. (R301) -/
  | rtcSet
  /-- At the next tick the calendar count is loaded from RTC_SET and VALID set. (R301) -/
  | rtcSetApply
  /-- RTC_CTL.SYNC requests loading of the calendar from TS at the next TS_PPS. (R301) -/
  | rtcSync
  /-- Every 2²⁰ ticks the calendar adds TRIM ticks. (R302) -/
  | rtcTrim
  /-- No RTC tick for 4 ms sets OSC_STOP and clears VALID. (R302) -/
  | oscStop
  /-- VBAT falling below 2.0 V clears VALID. (R302) -/
  | vbatLoss
  /-- A filter chain completes a decimated sample, stamps it and offers it to ING. (R306) -/
  | sdfSample (n : Fin 16) (bits : List Bool)
  /-- After each 1,024 modulator periods the group updates PER, and RUN rises the first time. (R305) -/
  | sdfPeriodUpdate (g : Fin 4) (per : Word)
  /-- No SDCK edge for 2 µs clears RUN and puts the group's channels into SETTLING. (R305) -/
  | sdfClockLost (g : Fin 4)
  /-- Edges return to a lost group; PER is measured afresh and channels reset as for a sync. (R305) -/
  | sdfClockReturn (g : Fin 4)
  /-- An active FSYNC edge requests a sync of all enabled channels. (R311) -/
  | sdfFsync (rising : Bool) (joined : Bool)
  /-- SDF_CTL.SW_SYNC requests a sync of all enabled channels. (R311) -/
  | swSync (joined : Bool)
  /-- Each group applies a sync on its first modulator edge after it arrives. (R311) -/
  | sdfSyncApply (g : Fin 4)
  /-- A write of SDF_CHn_CTL.EN = 1 starts the channel as after a sync, or is refused. (R314) -/
  | sdfChannelEnable (n : Fin 16) (val : BitVec 18)
  /-- A write of EN = 0 stops the channel and empties its samples. (R314) -/
  | sdfChannelDisable (n : Fin 16) (val : BitVec 18)
  /-- A 64-byte DDR-4 request is scheduled by class and served, forwarded or poisoned. (R320) -/
  | ddrRequest (a : BitVec 38) (wr : Option (List Byte)) (ofs : Fin 64) (who : DdrWho) (err : Fin 3) (syn : BitVec 8)
  /-- A row copy ends and the remap table switches. (R327) -/
  | rowCopyDone (c : Fin 8)
  /-- The copy of rank 0 to rank 1 ends and rank 1 serves alone. (R329) -/
  | rankCopyDone (c : Fin 8)
  /-- DMC_CFG.DONE checks that all channels match and fixes the installed size. (R318) -/
  | dmcConfigDone (nch8 : Bool)
  /-- DMC_CHc_CTL.INIT starts the JEDEC bring-up sequence of a channel. (R331) -/
  | dmcInit (c : Fin 8) (val : Word)
  /-- The init sequence ends with the channel IN_SERVICE or FAILED. (R331) -/
  | dmcInitDone (c : Fin 8) (ok : Bool)
  /-- DMC_CHc_CTL.DLY_APPLY marks shadow delays to be taken at each rank's next refresh. (R332) -/
  | dlyApply (c : Fin 8) (val : Word)
  /-- A rank is refreshed at tREFI, taking any pending delays. (R330) -/
  | refresh (c : Fin 8) (rank : Fin 2)
  /-- A rank idle for PD_TIMER × 16 cycles enters precharge power-down. (R330) -/
  | powerDownEntry (c : Fin 8) (rank : Fin 2)
  /-- Patrol scrub reads the next line and writes back a corrected one. (R326) -/
  | patrolScrub (c : Fin 8) (err : Fin 3) (syn : BitVec 8)
  /-- DMn_CTL.START starts a transfer, or is refused. (R335) -/
  | dmaStart (n : Fin 32) (val : Word)
  /-- DMn_CTL.ABORT stops a busy transfer or lets it stand as late. (R340) -/
  | dmaAbort (n : Fin 32) (acc : Word) (host : List Byte)
  /-- All writes of a transfer are accepted and its single completion is posted. (R339) -/
  | dmaComplete (n : Fin 32) (host : List Byte)
  /-- A READ_REQ or LAST write without response in 100 µs stops the channel. (R343) -/
  | remoteTimeout (n : Fin 32)
  /-- An FLR disables all queues, aborts host-side DMA and masks MSI-X. (R355) -/
  | functionLevelReset
  /-- A low PERST_N resets the PCIe endpoint and HOSTQ and takes the link down. (R472) -/
  | perst
  /-- A write of HQn_CFG.EN = 1 resets HEAD and TAIL and clears HALT. (R356) -/
  | queueEnable (q : Fin 64)
  /-- A write of HQn_CFG.EN = 0 takes the queue out of use. (R362) -/
  | queueDisable (q : Fin 64)
  /-- A write of HQn_TAIL on a host-to-device queue exposes new packets. (R357) -/
  | queueDoorbell (q : Fin 32) (tail : BitVec 26)
  /-- A write of HQn_HEAD on a device-to-host queue returns ring space. (R357) -/
  | queueHeadWrite (q : Fin 32) (head : BitVec 26)
  /-- A device-to-host queue full for more than 10 ms sets CRED_LATE. (R359) -/
  | creditLateTimeout (q : Fin 32)
  /-- A packet whose header CRC fails halts its queue and posts one completion with 0x01. (R362) -/
  | packetHcrcFail (q : Fin 32)
  /-- A NOP packet does nothing but complete. (R363) -/
  | nop (q : Fin 32) (pkt : List Byte)
  /-- A REG_WRITE packet writes words to ascending offsets with packet rights. (R364) -/
  | regWrite (q : Fin 32) (pkt : List Byte)
  /-- A REG_READ packet reads ascending offsets and returns one REG_DATA packet. (R364) -/
  | regRead (q : Fin 32) (pkt : List Byte)
  /-- A REG_RMW packet performs an atomic masked read-modify-write. (R364) -/
  | regRmw (q : Fin 32) (pkt : List Byte)
  /-- A MEM_WRITE packet writes bytes into DDR-4. (R364) -/
  | memWrite (q : Fin 32) (pkt : List Byte)
  /-- A MEM_READ packet reads DDR-4 and returns a MEM_DATA packet. (R364) -/
  | memRead (q : Fin 32) (pkt : List Byte)
  /-- A host CXP_CTRL packet is sent on the camera's master uplink. (R370) -/
  | cxpCtrl (q : Fin 32) (pkt : List Byte)
  /-- TWn_XFER.GO starts a controller transfer once the bus is free. (R381) -/
  | twGo (n : Fin 4) (val : Word)
  /-- A two-wire transfer ends, BUSY falls and RESULT is set. (R382) -/
  | twTransferDone (n : Fin 4) (addrAck rdAck : Bool) (acked : Fin 34) (rd : List Byte)
  /-- TWn_CTL.ABORT ends a busy transfer with a STOP and RESULT 0x7. (R383) -/
  | twAbort (n : Fin 4) (stopBegun : Bool)
  /-- A controller reads SDA low while releasing it, stops driving and ends with RESULT 0x3. (R384) -/
  | arbLost (n : Fin 4) (addr : BitVec 7) (read : Bool) (bytes : List Byte) (count : BitVec 12)
  /-- SCL low for more than 25 ms ends the transfer and releases the lines. (R385) -/
  | sclTo (n : Fin 4)
  /-- SDA low for more than 35 ms ends the transfer and may start a bus clear. (R385) -/
  | sdaTo (n : Fin 4) (began : Bool)
  /-- TWn_CTL.BUSCLR starts a bus clear of up to nine SCL pulses. (R386) -/
  | busclr (n : Fin 4)
  /-- A bus clear ends with BUS_CLEARED or STUCK_SDA. (R386) -/
  | busClearDone (n : Fin 4) (freed : Bool)
  /-- TW3 recognises its own address and serves the transfer from a snapshot of the target file. (R387) -/
  | targetAddressMatch (addr : BitVec 7) (read : Bool) (bytes : List Byte) (count : BitVec 12)
  /-- At STOP or repeated START the staged bytes reach the IN area and TGT_WR is set. (R389) -/
  | targetStop
  /-- A START or STOP in a byte's acknowledge slot discards that byte. (R390) -/
  | srInAck (stop : Bool)
  /-- TW3_NOTIFY.GO sends an SMBus Host Notify on a free bus. (R391) -/
  | hostNotify (data : BitVec 16)
  /-- A Host Notify ends after success or a ninth lost arbitration. (R391) -/
  | notifyDone (addrAck : Bool) (acked : Fin 4)
  /-- Every POLL µs the engine reads READ_VOUT and checks it against the command. (R392) -/
  | pmbusPoll (vout : BitVec 16) (ok : Bool)
  /-- The voltage is confirmed and STATUS_WORD checked, or FAIL is set. (R392) -/
  | pmbusSetDone (status : BitVec 16) (ok : Bool)
  /-- LIMIT µs without success sets TW0_PMB_STAT.FAIL. (R392) -/
  | pmbusTimeout
  /-- PWR_CMD requests Summer: wakes gated blocks, or brings the device out of Winter. (R402) -/
  | pwrSummer (ddrFail : BitVec 8)
  /-- PWR_CMD requests Autumn: idle gateable blocks are gated as they fall idle. (R402) -/
  | pwrAutumn (ddrFail : BitVec 8)
  /-- PWR_CMD requests Winter: blocks are checked or asked in order and the compute dies powered off. (R402) -/
  | pwrWinter
  /-- On the W0648 a block answers ACCEPT, DELAY or REFUSE to a state entry. (R404) -/
  | blockAnswer (answer : Fin 3) (code : Fin 4)
  /-- 100 µs after a DELAY the same block is asked again. (R404) -/
  | delayRetry
  /-- In Autumn a block idle for IDLE_US without access is clock-gated. (R396) -/
  | blockGate (b : Fin 32)
  /-- A table-class block's WAKE delay ends and the next is woken, or the camera triggers are released. (R398) -/
  | tableWakeStep
  /-- A compute die finishes restore and raises TOP_READY.CD, or fails with a FAULT record. (R401) -/
  | dieRestoreDone (d : Fin 4) (crcOk : Bool)
  /-- A write of PWR_DVFSd.TARGET starts a move of the die to its effective target. (R408) -/
  | dvfsTargetWrite (d : Fin 4) (v : BitVec 3)
  /-- At the next line boundary the die's VU_CLK changes and the VUs stall briefly. (R409) -/
  | dvfsFreqSwitch (d : Fin 4)
  /-- Every 10 ms each sensor is sampled and may trigger a calibration run. (R412) -/
  | tempSample (k : Fin 20) (raw : BitVec 16)
  /-- CAL_CTL.RUN_NOW runs calibration on every powered die. (R413) -/
  | runNow
  /-- A calibration run ends; proposed values are applied or rejected and CAL records posted. (R413) -/
  | calRunDone (d : Fin 5) (trim : BitVec 8) (ofs : Vector (BitVec 8) 4) (won : List (Fin 4 × Fin 114))
  /-- Every 20 µs a paired device sends a heartbeat pulse and HEARTBEAT frame. (R429) -/
  | heartbeatSend
  /-- A received heartbeat restarts the partner timer and may trigger UNSYNC or a handover claim. (R430) -/
  | heartbeatReceived (frame : Option (List Byte × Option (BitVec 12)))
  /-- The heartbeat timer reaches 100 µs and the partner is LOST. (R430) -/
  | partnerLost
  /-- A CLAIM frame from the partner is received. (R434) -/
  | claimFrame (newC oldC : BitVec 8) (ack : Option (BitVec 12))
  /-- The 100 µs frost hold after a claim ends and outputs resume. (R435) -/
  | frostEnd
  /-- A primary reading a higher valid claim on DCL_RD demotes to standby. (R436) -/
  | demote
  /-- A primary with GEN above 1 lowers it to 1 after the partner has read GEN 0 for 1 ms. (R431) -/
  | genLower
  /-- FLT_PAIR_CMD PROMOTE makes a standby primary with GEN 1. (R437) -/
  | promote
  /-- FLT_PAIR_CMD HANDOVER sends HANDOVER in the next heartbeat and demotes the primary. (R437) -/
  | handover
  /-- FLT_PAIR_CMD RESYNC starts the resynchronisation of a standby. (R437) -/
  | resync
  /-- At the first edge with TS ≥ T_CAP both devices capture encoder and compare state. (R440) -/
  | resyncCapture (b0 : BitVec 24)
  /-- The standby receives the primary's captures and aligns its encoders, compare units and origins. (R441) -/
  | resyncAlign (c : Captures)
  /-- A resync step not arrived 20 ms after it was due fails the resynchronisation. (R440) -/
  | resyncTimeout
  /-- A SHADOW frame of the primary's records is compared with the standby's own. (R438) -/
  | shadowFrame (p : Fin 4) (dst src : BitVec 18) (seq : BitVec 12) (ack : Option (BitVec 12)) (fcrcOk : Bool) (body : Shadow)
  /-- A record still unpaired after 10 ms counts as UNMATCHED. (R439) -/
  | shadowUnmatchedTimeout (own : Bool)
  /-- A fatal fault stops heartbeats and claim words, enters frost hold and queues a FATAL record. (R427) -/
  | fatalFault (what : Fin 7)
  /-- FLT_CTL.FORCE_FATAL causes a fatal fault. (R427) -/
  | forceFatal
  /-- FLT_CTL.RELEASE ends frost hold after a fatal fault when pairing is off and the cause is gone. (R427) -/
  | release
  /-- PORST_N low or a supply out of range resets the device; its rise samples straps and starts boot. (R460) -/
  | coldReset (tsSrc pairRank : Bool) (boot : Fin 4)
  /-- WRST_N low for 1 µs resets all but the kept state, stops the pipeline without draining and disarms a swap.
  (R461) -/
  | warmReset (ddrFail : BitVec 8)
  /-- The boot image is read from QSPI; the first accepted copy sets the subsystem IDs and raises BOOT. (R470) -/
  | bootImageRead (copyA copyB : List Byte)
  /-- A wait entry of the boot script expires and the script continues. (R471) -/
  | bootWaitEnd
  /-- A poll entry not satisfied within 10 ms ends the script with POLL_TO. (R471) -/
  | bootPollTimeout
  /-- PCIe link training starts when the script ends or 50 ms after reset release. (R472) -/
  | pcieTrainStart
  /-- A compute die's rail comes in range; the die is brought to its floor point and its ready bit raised.
  (R459) -/
  | dieRailUp (d : Fin 4)
  /-- A boundary-scan instruction is loaded into the 6-bit instruction register. (R473) -/
  | jtagInstruction (code : Option (BitVec 6)) (tdi : List Bool)
  /-- After cold reset the EVT_CLK, FAB_CLK and TS_CLK PLLs lock; the TS counter starts running and
  TOP_READY.EVT and TOP_READY.TIME rise. (R289) -/
  | pllLock (k : Fin 3)
  /-- PCIe link training completes and BAR0 is enabled, raising TOP_READY.PCIE, or the link goes down and the
  bit falls. (R354) -/
  | pcieLinkUp (up : Bool) (speed : Fin 6) (width : Fin 17) (bme : Bool) (space : PcieCfg)
  /-- A host-memory access receives no completion within 50 ms, or receives Unsupported Request or Completer
  Abort, and the DMA ends with HOST_MEM_ERR. (R372) -/
  | completionTimeout (n : Fin 32) (queue : Bool)
  /-- A read of RTC_SEC_LO latches RTC_SEC_HI, so the two halves come from one count. (R303) -/
  | rtcSecRead
  /-- An open DRAM row with no hit for PG_IDLE DDR clock cycles is closed. (R320) -/
  | openPageIdleClose (c : Fin 8) (bank : Fin 32)
  /-- A two-wire port that finds SDA low with SCL high for tBUF after a warm reset, an abort or an SCL_TO starts
  a bus clear by itself. (R386) -/
  | busClearAfterTbuf (n : Fin 4)
  /-- The partner's claim line DCL_RD gains or loses a valid claim word, which updates PEER_C and PEER_VALID and
  changes gate G13. (R434) -/
  | dclRdWord (w : Option (BitVec 16))
  deriving DecidableEq, Repr

end Sys2Proof
end

