-- ==== Sys2Proof/Config.lean ====
section
/-!
DEFINITION. What one board and one package fix (variant, straps, fuses) and the free values: constants with no body, of
which nothing can be proved, one for each value the spec leaves open.
-/
namespace Sys2Proof

/-- The two parts (R1, R3). -/
inductive Variant where
  | w1296
  | w0648
  deriving DecidableEq, Repr

/-- Straps and fuses (TOP_STRAP, R463; CFG_SIG_SLOT; TOP_CAPS.AUTH; R417). -/
structure Board where
  /-- The part fitted. -/
  variant    : Variant := .w1296
  /-- Strap TS_SRC. -/
  tsSrc      : Bool := false
  /-- Strap PAIR_RANK. -/
  pairRank   : Bool := false
  /-- Straps BOOT[1:0]. -/
  boot       : Nat := 0
  /-- Fuse AUTH. -/
  auth       : Bool := false
  /-- Fused CFG_SIG_SLOT.PROG. -/
  sigProg    : Nat := 0
  /-- Fused CFG_SIG_SLOT.REVOKED. -/
  sigRevoked : Nat := 0
  /-- Fused SHA-384 digests of the public keys, slots 0 to 3 (R45). -/
  sigHash    : List Nat := []
  /-- Fused CAL_SOFSs, sensors 0 to 19. -/
  sofs       : List Nat := []
  /-- Fused CAL_TRIMd, dies 0 to 4. -/
  trim       : List Nat := []
  deriving DecidableEq, Repr

/-- What may reach the device beside the commands, in one clock period (assumption 186): things that go on by themselves and whose moments
and amounts the spec leaves open. -/
inductive Ambient where
  | quiet
  /-- Code errors or invalid headers, and disparity errors, of a lane that stays in LOCK (R110, R117). -/
  | laneErrors (ln : Fin 114) (code disp : BitVec 16)
  /-- The high-BER monitor of an Ethernet lane (R117). -/
  | hiBer (p : Fin 2) (on : Bool)
  /-- RS-FEC codewords corrected and not correctable (R118). -/
  | fec (p : Fin 2) (corr uncorr : BitVec 16)
  /-- A lane's taps after a step of adaptation (R119). -/
  | taps (ln : Fin 114) (w : BitVec 32)
  /-- Bit errors the pattern checker sees (R122). -/
  | prbs (ln : Fin 114) (errors : BitVec 31)
  /-- A Nimeb lane's skew in blocks (R125). -/
  | skew (ln : Fin 16) (blocks : BitVec 8)
  /-- A Nimeb frame that fails FCRC, or has an unknown TYPE or a LEN above 256 (R127). -/
  | badFrame (p : Fin 4) (fcrcOk : Bool)
  /-- An uncorrectable error of the stitch memory at a camera's line, or at a stitched line, by index (R180). -/
  | stitchEcc (n : Option (Fin 12)) (k : BitVec 32)
  /-- VBAT comes to lie below or above 2.2 V (R302). -/
  | vbat (low : Bool)
  /-- The level of the TW0_ALERT pin (R392). -/
  | pmbAlert (low : Bool)
  deriving DecidableEq, Repr, Inhabited

namespace Config

/-- The n-th free value of a run, for a value the spec leaves open (`State.freeCtr` counts them).
Nothing is provable of it. -/
opaque freeWord : Nat → BitVec 32

/-- The distance of the on-die DE2000 result from the reference formula, which the spec only bounds (R204): a function of the
operands, packed into one number. -/
opaque deDelta : Nat → Int

/-- Idle blocks that fill the lanes of port `p` ahead of its n-th frame (R125, assumption 192). -/
opaque idleBlocks : Nat → Nat → Nat

/-- What reaches the device in the clock period in which the n-th free value is due. -/
opaque ambient : Nat → Ambient

end Config
end Sys2Proof
end

