-- ==== Sys2Proof/Machine/RegMap.lean ====
section
/-!
DEFINITION. The register map (R26, R474 and each chapter's register rule): for every register its instances, its access
codes as masks (R5) and its reset value. A table row of the spec is a row here.
-/
namespace Sys2Proof.Machine

/-- The blocks of BAR0 (R26). -/
inductive Block where
  | top | cfg | hostq | lane | nim | eth | ing | sti | vg | seg | prt | enc | evt | time | sdf | dmc
  | dma | cmp | tw | pwr | cal | flt | isp
  deriving DecidableEq, Repr

/-- What an instance index counts, for the instances absent on the W0648 (R3). -/
inductive InstKind where
  | any | cam | lane | nport | head | pport | region | ddr | die | sdi | sdg | sensor | trim | seam | pblock
  deriving DecidableEq, Repr

/-- One register of the index (R474): base, strides, access masks (R5), the counters its SAT bit clears (R9), reset. -/
structure RegRow where
  /-- The spec's name. -/
  name : String
  /-- Offset of instance 0. -/
  base : Nat
  /-- Outer stride and count. -/
  s1 : Nat := 0
  c1 : Nat := 1
  /-- Inner stride and count. -/
  s2 : Nat := 0
  c2 : Nat := 1
  /-- What the outer index counts. -/
  kind : InstKind := .any
  /-- Access masks (R5). -/
  rw : Nat := 0
  pk : Nat := 0
  w1c : Nat := 0
  ld : Nat := 0
  ro : Nat := 0
  wo : Nat := 0
  /-- The SAT bit, and the counters a write of 1 to it clears (R9). -/
  sat : Nat := 0
  cnt : Nat := 0
  /-- Reset value, where it does not depend on the instance. -/
  reset : Nat := 0

/-- The registers of TOP. -/
def topRows : List RegRow :=
  [ { name := "TOP_ID", base := 0x00000000, ro := 0xFFFFFFFF, reset := 0x4DB01296 },
    { name := "TOP_CAPS", base := 0x00000004, ro := 0x0001FFFF, reset := 0x00003FFF },
    { name := "TOP_DEVID", base := 0x00000008, pk := 0x0003FFFF, w1c := 0x40000000, ro := 0x80000000 },
    { name := "TOP_READY", base := 0x0000000C, ro := 0xFFFF3FFF },
    { name := "TOP_READY_IO", base := 0x00000010, ro := 0xFFFF0FFF },
    { name := "TOP_FAULT_SUM", base := 0x00000020, ro := 0x3FFFFFFF },
    { name := "TOP_ACC_ERR", base := 0x00000024, w1c := 0x80000000, ro := 0x63FFFFFF },
    { name := "TOP_STRAP", base := 0x00000018, ro := 0x0000000F },
    { name := "TOP_BOOT", base := 0x00000014, ro := 0x3FFFFFFF } ]

/-- The registers of CFG. -/
def cfgRows : List RegRow :=
  [ { name := "CFG_CTL", base := 0x00100000, pk := 0x00000003 },
    { name := "CFG_STAT", base := 0x00100004, w1c := 0x00000070, ro := 0x0003FF0F, reset := 0x00000002 },
    { name := "CFG_ERR_OFS", base := 0x00100008, ro := 0x03FFFFFF },
    { name := "CFG_STAGE_BASE_LO", base := 0x0010000C, pk := 0xFC000000 },
    { name := "CFG_STAGE_BASE_HI", base := 0x00100010, pk := 0x8000003F },
    { name := "CFG_STRUCT_ID", base := 0x00100014, ld := 0xFFFFFFFF },
    { name := "CFG_BUILD_LO", base := 0x00100018, ld := 0xFFFFFFFF },
    { name := "CFG_BUILD_HI", base := 0x0010001C, ld := 0xFFFFFFFF },
    { name := "CFG_BANK", base := 0x00100020, ro := 0x00000377 },
    { name := "CFG_JOBA", base := 0x00100024, ro := 0x0000FFFF },
    { name := "CFG_JOBB", base := 0x00100028, ro := 0x0000FFFF },
    { name := "CFG_SWAP_POS", base := 0x00100030, pk := 0xFFFFFFFF },
    { name := "CFG_SWAP_CTL", base := 0x00100034, pk := 0x00000703 },
    { name := "CFG_SWAP_MARGIN", base := 0x00100038, pk := 0x00FFFFFF, reset := 0x00001000 },
    { name := "CFG_SWAP_CAP_POS", base := 0x00100040, ro := 0xFFFFFFFF },
    { name := "CFG_SWAP_CAP_TS", base := 0x00100044, ro := 0xFFFFFFFF },
    { name := "CFG_SWAP_CNT", base := 0x00100048, ro := 0x0000FFFF },
    { name := "CFG_REJ_CNT", base := 0x0010004C, w1c := 0x80000000, ro := 0x0000FFFF, sat := 0x80000000, cnt := 0x0000FFFF },
    { name := "CFG_SIG_SLOT", base := 0x00100050, ro := 0x000003FF } ]

/-- The registers of HOSTQ. -/
def hostqRows : List RegRow :=
  [ { name := "HQn_BASE_LO", base := 0x00200000, s1 := 0x40, c1 := 64, rw := 0xFFFFF000 },
    { name := "HQn_BASE_HI", base := 0x00200004, s1 := 0x40, c1 := 64, rw := 0xFFFFFFFF },
    { name := "HQn_CFG", base := 0x00200008, s1 := 0x40, c1 := 64, rw := 0x01FFFFFF, reset := 0x00000011 },
    { name := "HQn_HEAD", base := 0x0020000C, s1 := 0x40, c1 := 64, rw := 0x03FFFFFF },
    { name := "HQn_TAIL", base := 0x00200010, s1 := 0x40, c1 := 64, rw := 0x03FFFFFF },
    { name := "HQn_WB_LO", base := 0x00200014, s1 := 0x40, c1 := 64, rw := 0xFFFFFFF8 },
    { name := "HQn_WB_HI", base := 0x00200018, s1 := 0x40, c1 := 64, rw := 0xFFFFFFFF },
    { name := "HQn_ITIME", base := 0x0020001C, s1 := 0x40, c1 := 64, rw := 0x0000FFFF },
    { name := "HQn_STAT", base := 0x00200020, s1 := 0x40, c1 := 64, w1c := 0x80000032, ro := 0x7FFF000D, sat := 0x80000000, cnt := 0x7FFF0000 },
    { name := "HQ_EVT_VEC", base := 0x00201000, rw := 0x3F3F3F3F },
    { name := "HQ_EVT_CFG", base := 0x00201004, rw := 0x0000007F },
    { name := "HQ_EVT_PEND", base := 0x00201008, w1c := 0x0000001F },
    { name := "HQ_PK_IGN", base := 0x0020100C, w1c := 0x80000000, ro := 0x0000FFFF, sat := 0x80000000, cnt := 0x0000FFFF },
    { name := "HQ_PK_IGN_OFS", base := 0x00201010, ro := 0x03FFFFFF },
    { name := "HQ_CXP_CFG", base := 0x00201014, rw := 0x0000003F },
    { name := "HQ_PCIE", base := 0x00201018, ro := 0x000001FF },
    { name := "MSIX_TBL", base := 0x00300000, s1 := 16, c1 := 64, s2 := 4, c2 := 4, rw := 0xFFFFFFFF },
    { name := "MSIX_PBA", base := 0x00301000, s1 := 4, c1 := 2, ro := 0xFFFFFFFF } ]

/-- The registers of LANE. -/
def laneRows : List RegRow :=
  [ { name := "LANEi_CTL", base := 0x00400000, s1 := 0x100, c1 := 114, kind := .lane, pk := 0x0000FF3F, ld := 0x00010000, reset := 0x00004020 },
    { name := "LANEi_STAT", base := 0x00400004, s1 := 0x100, c1 := 114, kind := .lane, w1c := 0x00000080, ro := 0x0000037F },
    { name := "LANEi_ERR", base := 0x00400008, s1 := 0x100, c1 := 114, kind := .lane, w1c := 0x80000000, ro := 0x7FFFFFFF, sat := 0x80000000, cnt := 0x7FFFFFFF },
    { name := "LANEi_EQ", base := 0x0040000C, s1 := 0x100, c1 := 114, kind := .lane, pk := 0x3FFFFFFF, reset := 0x00000008 },
    { name := "LANEi_EYE_CTL", base := 0x00400010, s1 := 0x100, c1 := 114, kind := .lane, pk := 0x801F7F3F },
    { name := "LANEi_EYE_RES", base := 0x00400014, s1 := 0x100, c1 := 114, kind := .lane, w1c := 0xC0000000, ro := 0x20FFFFFF },
    { name := "LANEi_PRBS_ERR", base := 0x00400018, s1 := 0x100, c1 := 114, kind := .lane, w1c := 0x80000000, ro := 0x7FFFFFFF, sat := 0x80000000, cnt := 0x7FFFFFFF },
    { name := "LANEi_FEC", base := 0x0040001C, s1 := 0x100, c1 := 114, kind := .lane, w1c := 0x80000000, ro := 0x7FFFFFFF, sat := 0x80000000, cnt := 0x7FFFFFFF },
    { name := "CAMn_LINK", base := 0x00408000, s1 := 0x20, c1 := 12, kind := .cam, pk := 0x00008000, w1c := 0x00007000, ld := 0x00000F0F, ro := 0x00FF00F0 } ]

/-- The registers of NIM. -/
def nimRows : List RegRow :=
  [ { name := "NPp_CTL", base := 0x00600000, s1 := 0x100, c1 := 4, kind := .nport, pk := 0x00000002, ld := 0x00000001 },
    { name := "NPp_STAT", base := 0x00600004, s1 := 0x100, c1 := 4, kind := .nport, ro := 0x03FFFF3F },
    { name := "NPp_MAP", base := 0x00600008, s1 := 0x100, c1 := 4, kind := .nport, ro := 0x000000FF, reset := 0x000000E4 },
    { name := "NPp_CNT", base := 0x0060000C, s1 := 0x100, c1 := 4, kind := .nport, w1c := 0x80000000, ro := 0x7FFFFFFF, sat := 0x80000000, cnt := 0x7FFFFFFF },
    { name := "NPp_CREDIT", base := 0x00600010, s1 := 0x100, c1 := 4, kind := .nport, ro := 0xFFFFFFFF },
    { name := "NIM_ROUTEk", base := 0x00601000, s1 := 0x4, c1 := 16, pk := 0x837FFFFF },
    { name := "NIM_NOROUTE", base := 0x00601040, w1c := 0x80000000, ro := 0x0000FFFF, sat := 0x80000000, cnt := 0x0000FFFF } ]

/-- The registers of ETH. -/
def ethRows : List RegRow :=
  [ { name := "ETH_EPn_MAC_LO", base := 0x00700000, s1 := 0x40, c1 := 2, pk := 0xFFFFFFFF },
    { name := "ETH_EPn_MAC_HI", base := 0x00700004, s1 := 0x40, c1 := 2, pk := 0x0000FFFF },
    { name := "ETH_EPn_RX", base := 0x00700008, s1 := 0x40, c1 := 2, pk := 0x000000FF },
    { name := "ETH_EPn_RXCNT", base := 0x0070000C, s1 := 0x40, c1 := 2, w1c := 0x80000000, ro := 0x7FFFFFFF, sat := 0x80000000, cnt := 0x7FFFFFFF } ]

/-- The registers of ING. -/
def ingRows : List RegRow :=
  [ { name := "INGn_CTL", base := 0x00800000, s1 := 0x100, c1 := 12, kind := .cam, pk := 0x00FF7FFE, ld := 0x00000001, ro := 0x00008000, reset := 0x00080004 },
    { name := "INGn_STAT", base := 0x00800004, s1 := 0x100, c1 := 12, kind := .cam, w1c := 0x00007FFF, ro := 0x00010000 },
    { name := "INGn_GEOM", base := 0x00800008, s1 := 0x100, c1 := 12, kind := .cam, pk := 0x3FFF0000, ld := 0x00007FFF },
    { name := "INGn_FMT", base := 0x0080000C, s1 := 0x100, c1 := 12, kind := .cam, pk := 0x0000FF00, ld := 0xFFFF00FF },
    { name := "INGn_CNT0", base := 0x00800010, s1 := 0x100, c1 := 12, kind := .cam, w1c := 0x80000000, ro := 0x7FFFFFFF, sat := 0x80000000, cnt := 0x7FFFFFFF },
    { name := "INGn_CNT1", base := 0x00800014, s1 := 0x100, c1 := 12, kind := .cam, w1c := 0x80000000, ro := 0x7FFFFFFF, sat := 0x80000000, cnt := 0x7FFFFFFF },
    { name := "INGn_CNT2", base := 0x00800018, s1 := 0x100, c1 := 12, kind := .cam, w1c := 0x80000000, ro := 0x7FFFFFFF, sat := 0x80000000, cnt := 0x7FFFFFFF },
    { name := "INGn_CNT3", base := 0x0080001C, s1 := 0x100, c1 := 12, kind := .cam, w1c := 0x80000000, ro := 0x7FFFFFFF, sat := 0x80000000, cnt := 0x7FFFFFFF },
    { name := "INGn_SEQ", base := 0x00800020, s1 := 0x100, c1 := 12, kind := .cam, ro := 0xFFFFFFFF },
    { name := "INGn_ROWDLY", base := 0x00800024, s1 := 0x100, c1 := 12, kind := .cam, pk := 0x003F3F3F },
    { name := "INGn_LAT", base := 0x00800028, s1 := 0x100, c1 := 12, kind := .cam, pk := 0x3FFFFFFF },
    { name := "INGn_DEFCNT", base := 0x0080002C, s1 := 0x100, c1 := 12, kind := .cam, pk := 0x00001FFF },
    { name := "INGn_CM0", base := 0x00800030, s1 := 0x100, c1 := 12, kind := .cam, pk := 0xFFFFFFFF, reset := 0x00004000 },
    { name := "INGn_CM1", base := 0x00800034, s1 := 0x100, c1 := 12, kind := .cam, pk := 0xFFFFFFFF },
    { name := "INGn_CM2", base := 0x00800038, s1 := 0x100, c1 := 12, kind := .cam, pk := 0xFFFFFFFF, reset := 0x00004000 },
    { name := "INGn_CM3", base := 0x0080003C, s1 := 0x100, c1 := 12, kind := .cam, pk := 0xFFFFFFFF },
    { name := "INGn_CM4", base := 0x00800040, s1 := 0x100, c1 := 12, kind := .cam, pk := 0x0000FFFF, reset := 0x00004000 },
    { name := "INGn_CMOFS0", base := 0x00800044, s1 := 0x100, c1 := 12, kind := .cam, pk := 0xFFFFFFFF },
    { name := "INGn_CMOFS1", base := 0x00800048, s1 := 0x100, c1 := 12, kind := .cam, pk := 0x0000FFFF },
    { name := "INGn_FLUX_REF", base := 0x00800050, s1 := 0x100, c1 := 12, kind := .cam, pk := 0x00FFFFFF },
    { name := "INGn_FLUX_LIM", base := 0x00800054, s1 := 0x100, c1 := 12, kind := .cam, pk := 0xFFFFFFFF, reset := 0x50003000 },
    { name := "INGn_FLUX_TIME", base := 0x00800058, s1 := 0x100, c1 := 12, kind := .cam, pk := 0xFFFFFFFF, reset := 0x00140000 },
    { name := "INGn_FLUX_FACT", base := 0x0080005C, s1 := 0x100, c1 := 12, kind := .cam, ro := 0x0000FFFF, reset := 0x00004000 },
    { name := "INGn_DARK_MEAS0", base := 0x00800060, s1 := 0x100, c1 := 12, kind := .cam, ro := 0xFFFFFFFF },
    { name := "INGn_DARK_REF0", base := 0x00800068, s1 := 0x100, c1 := 12, kind := .cam, pk := 0xFFFFFFFF },
    { name := "INGn_DARK_OFS0", base := 0x00800070, s1 := 0x100, c1 := 12, kind := .cam, pk := 0xFFFFFFFF },
    { name := "INGn_DARK_MEAS1", base := 0x00800064, s1 := 0x100, c1 := 12, kind := .cam, ro := 0x0000FFFF },
    { name := "INGn_DARK_REF1", base := 0x0080006C, s1 := 0x100, c1 := 12, kind := .cam, pk := 0x0000FFFF },
    { name := "INGn_DARK_OFS1", base := 0x00800074, s1 := 0x100, c1 := 12, kind := .cam, pk := 0x0000FFFF },
    { name := "ING_RSMP", base := 0x00808000, s1 := 4, c1 := 256, pk := 0xFFFFFFFF },
    { name := "INGn_TBL", base := 0x00810000, s1 := 0x20000, c1 := 12, s2 := 4, c2 := 24576, kind := .cam, pk := 0xFFFFFFFF },
    { name := "INGn_MAP", base := 0x00828000, s1 := 0x20000, c1 := 12, s2 := 4, c2 := 4096, kind := .cam, pk := 0x0003FFFF },
    { name := "INGn_WARP", base := 0x0082C000, s1 := 0x20000, c1 := 12, s2 := 4, c2 := 257, kind := .cam, pk := 0x0000FFFF } ]

/-- The registers of STI. -/
def stiRows : List RegRow :=
  [ { name := "STI_CTL", base := 0x00A00000, pk := 0x00000360, ld := 0x0000001F, reset := 0x00000220 },
    { name := "STI_STAT", base := 0x00A00004, w1c := 0x000003FF, ro := 0x00030000 },
    { name := "STI_WIDTH", base := 0x00A00008, ld := 0xFFFFFFFF },
    { name := "STI_SLINE", base := 0x00A0000C, ro := 0xFFFFFFFF },
    { name := "STI_REG_CFG0", base := 0x00A00010, pk := 0xFFFF00FF, reset := 0x40000014 },
    { name := "STI_REG_CFG1", base := 0x00A00014, pk := 0x01FF01FF, reset := 0x00400040 },
    { name := "STI_REG_CFG2", base := 0x00A00018, pk := 0xFFFFFFFF, reset := 0x04080810 },
    { name := "STI_REG_MINVAR", base := 0x00A0001C, pk := 0xFFFFFFFF, reset := 0x00010000 },
    { name := "STI_UMAP_CTL", base := 0x00A00020, pk := 0x00010000, ro := 0x000603FF },
    { name := "STI_OUTCOME", base := 0x00A00024, ro := 0x03FFFFFF },
    { name := "STI_CAMn_GEOM", base := 0x00A01000, s1 := 0x40, c1 := 12, kind := .cam, ld := 0x3FFF7FFF },
    { name := "STI_CAMn_X0", base := 0x00A01004, s1 := 0x40, c1 := 12, kind := .cam, ld := 0x00FFFFFF },
    { name := "STI_CAMn_OFS", base := 0x00A01008, s1 := 0x40, c1 := 12, kind := .cam, ro := 0x03FFFFFF },
    { name := "STI_CAMn_SPAN0", base := 0x00A0100C, s1 := 0x40, c1 := 12, kind := .cam, ro := 0x0003FFFF },
    { name := "STI_CAMn_SPAN1", base := 0x00A01010, s1 := 0x40, c1 := 12, kind := .cam, ro := 0x0003FFFF },
    { name := "STI_CAMn_SLOT", base := 0x00A01014, s1 := 0x40, c1 := 12, kind := .cam, ld := 0x3FFF03FF },
    { name := "STI_CAMn_CNT", base := 0x00A01018, s1 := 0x40, c1 := 12, kind := .cam, w1c := 0x80000000, ro := 0x7FFFFFFF, sat := 0x80000000, cnt := 0x7FFFFFFF },
    { name := "STI_CAMn_STAT", base := 0x00A0101C, s1 := 0x40, c1 := 12, kind := .cam, ro := 0x3FFF0001 },
    { name := "STI_SEAMs_CFG", base := 0x00A02000, s1 := 0x40, c1 := 11, kind := .seam, pk := 0x1FFFFFFF },
    { name := "STI_SEAMs_WIN", base := 0x00A02004, s1 := 0x40, c1 := 11, kind := .seam, pk := 0x000007FF },
    { name := "STI_SEAMs_MEAS", base := 0x00A02008, s1 := 0x40, c1 := 11, kind := .seam, ro := 0xFFFFFFFF },
    { name := "STI_SEAMs_EST", base := 0x00A0200C, s1 := 0x40, c1 := 11, kind := .seam, ro := 0xFFFFFFFF },
    { name := "STI_SEAMs_CAND", base := 0x00A02010, s1 := 0x40, c1 := 11, kind := .seam, ro := 0xFFFFFFFF },
    { name := "STI_SEAMs_SEED", base := 0x00A02014, s1 := 0x40, c1 := 11, kind := .seam, pk := 0xFFFFFFFF, wo := 0xFFFFFFFF },
    { name := "STI_SEAMs_SCORE", base := 0x00A02018, s1 := 0x40, c1 := 11, kind := .seam, ro := 0x00FFFFFF },
    { name := "STI_SEAMs_CNT", base := 0x00A0201C, s1 := 0x40, c1 := 11, kind := .seam, w1c := 0x80000000, ro := 0x7FFFFFFF, sat := 0x80000000, cnt := 0x7FFFFFFF },
    { name := "STI_UMAP", base := 0x00A10000, s1 := 4, c1 := 257, pk := 0xFFFFFFFF } ]

/-- The registers of VG. -/
def vgRows : List RegRow :=
  [ { name := "VGn_INFO", base := 0x01000000, s1 := 0x200000, c1 := 8, kind := .region, ro := 0x00FF1F03 },
    { name := "VGn_STAT", base := 0x01000004, s1 := 0x200000, c1 := 8, kind := .region, w1c := 0x0000003F, ro := 0x000F0000 },
    { name := "VGn_LOAD", base := 0x01000008, s1 := 0x200000, c1 := 8, kind := .region, ld := 0x01FFFFFF },
    { name := "VGn_BLOCK", base := 0x0100000C, s1 := 0x200000, c1 := 8, kind := .region, ro := 0x03FFFFFF },
    { name := "VGn_REPLAY_CNT", base := 0x01000010, s1 := 0x200000, c1 := 8, kind := .region, w1c := 0x80000000, ro := 0x0000FFFF, sat := 0x80000000, cnt := 0x0000FFFF },
    { name := "VGn_ECC_CNT", base := 0x01000014, s1 := 0x200000, c1 := 8, kind := .region, w1c := 0x80000000, ro := 0x7FFFFFFF, sat := 0x80000000, cnt := 0x7FFFFFFF },
    { name := "VGn_LBL_CNT", base := 0x01000018, s1 := 0x200000, c1 := 8, kind := .region, w1c := 0x80000000, ro := 0x7FFFFFFF, sat := 0x80000000, cnt := 0x7FFFFFFF },
    { name := "VGn_VUj_MAP", base := 0x01001000, s1 := 0x200000, c1 := 8, s2 := 0x10, c2 := 64, kind := .region, ld := 0x80000000, ro := 0x000003FF },
    { name := "VGn_VUj_ASSIGN0", base := 0x01001004, s1 := 0x200000, c1 := 8, s2 := 0x10, c2 := 64, kind := .region, ld := 0x3FFFFFFF },
    { name := "VGn_VUj_ASSIGN1", base := 0x01001008, s1 := 0x200000, c1 := 8, s2 := 0x10, c2 := 64, kind := .region, ld := 0x01FFFFFF },
    { name := "VGn_VUj_CYC", base := 0x0100100C, s1 := 0x200000, c1 := 8, s2 := 0x10, c2 := 64, kind := .region, ld := 0x0000FFFF, ro := 0xFFFF0000 },
    { name := "VGn_PUk_STAT", base := 0x01002000, s1 := 0x200000, c1 := 8, s2 := 0x4, c2 := 72, kind := .region, ro := 0x000000FF } ]

/-- The registers of SEG. -/
def segRows : List RegRow :=
  [ { name := "SEG_CTL", base := 0x02000000, pk := 0x000003FE, ld := 0x00000001, reset := 0x00000002 },
    { name := "SEG_STAT", base := 0x02000004, w1c := 0x000001FF, ro := 0x00010000 },
    { name := "SEG_OBJ_LIVE", base := 0x02000008, ro := 0xFFFFFFFF },
    { name := "SEG_OBJ_NEXT_LO", base := 0x0200000C, ro := 0xFFFFFFFF },
    { name := "SEG_OBJ_NEXT_HI", base := 0x02000010, ro := 0x000000FF },
    { name := "SEG_REC_CNT", base := 0x02000014, ro := 0xFFFFFFFF },
    { name := "SEG_LOSS_CNT", base := 0x02000018, w1c := 0x80000000, ro := 0x7FFFFFFF, sat := 0x80000000, cnt := 0x7FFFFFFF },
    { name := "SEG_MREG_CFG0", base := 0x0200001C, pk := 0xFFFF01FF, reset := 0x10100040 },
    { name := "SEG_MREG_CFG1", base := 0x02000020, pk := 0x0000FFFF, reset := 0x00000010 },
    { name := "SEG_REPEAT_ORG", base := 0x02000024, ro := 0xFFFFFFFF },
    { name := "SEG_REPEAT_ADJ", base := 0x02000028, pk := 0xFFFFFFFF },
    { name := "SEG_CROP_CTL", base := 0x0200002C, pk := 0x00000FFF, reset := 0x00000010 },
    { name := "SEG_CROP_BASE_LO", base := 0x02000030, pk := 0xFFF00000 },
    { name := "SEG_CROP_BASE_HI", base := 0x02000034, pk := 0x80FF003F },
    { name := "SEG_CROP_WR", base := 0x02000038, ro := 0xFFFFFFFF },
    { name := "SEG_CROP_RD", base := 0x0200003C, pk := 0xFFFFFFFF },
    { name := "SEG_SPILL_CTL", base := 0x02000040, pk := 0x80003FFF },
    { name := "SEG_ETH_CTL", base := 0x02000044, pk := 0xFFFFFFFF, reset := 0x000088B5 },
    { name := "SEG_ETH_DST_LO", base := 0x02000048, pk := 0xFFFFFFFF },
    { name := "SEG_ETH_DST_HI", base := 0x0200004C, pk := 0x0000FFFF },
    { name := "SEG_REJ_CNT", base := 0x02000050, ro := 0xFFFFFFFF },
    { name := "SEG_ROUTEr", base := 0x02000080, s1 := 0x4, c1 := 6, pk := 0x000007FF, reset := 0x00000020 },
    { name := "SEG_TILEt", base := 0x02010000, s1 := 0x4, c1 := 768, ro := 0x3FFFFFFF } ]

/-- The registers of PRT. -/
def prtRows : List RegRow :=
  [ { name := "HPn_CTL", base := 0x02200000, s1 := 0x100, c1 := 8, kind := .head, pk := 0x000001FC, ld := 0x1FFF0003, reset := 0x00000060 },
    { name := "HPn_STAT", base := 0x02200004, s1 := 0x100, c1 := 8, kind := .head, w1c := 0x000007F1, ro := 0x0000000E },
    { name := "HPn_TIM0", base := 0x02200008, s1 := 0x100, c1 := 8, kind := .head, pk := 0x00FFFFFF, reset := 0x00080808 },
    { name := "HPn_TIM1", base := 0x0220000C, s1 := 0x100, c1 := 8, kind := .head, pk := 0xFFFFFFFF, reset := 0x00100320 },
    { name := "HPn_CNT", base := 0x02200010, s1 := 0x100, c1 := 8, kind := .head, w1c := 0x80000000, ro := 0x7FFFFFFF, sat := 0x80000000, cnt := 0x7FFFFFFF },
    { name := "HPn_FIRED", base := 0x02200014, s1 := 0x100, c1 := 8, kind := .head, ro := 0xFFFFFFFF },
    { name := "HPn_LBL", base := 0x02200018, s1 := 0x100, c1 := 8, kind := .head, ro := 0xFFFFFFFF },
    { name := "HPn_REP_WR", base := 0x0220001C, s1 := 0x100, c1 := 8, kind := .head, pk := 0xFFFFFFFF },
    { name := "HPn_LS", base := 0x02200020, s1 := 0x100, c1 := 8, kind := .head, ro := 0xFFFFFFFF },
    { name := "HPn_ORG_ADJ", base := 0x02200024, s1 := 0x100, c1 := 8, kind := .head, pk := 0xFFFFFFFF },
    { name := "HPn_WS", base := 0x02200028, s1 := 0x100, c1 := 8, kind := .head, pk := 0x0000000F, ro := 0x000000F0 },
    { name := "HPn_NMAP0", base := 0x0220002C, s1 := 0x100, c1 := 8, kind := .head, pk := 0x00FFFFFF },
    { name := "HPn_NMAP1", base := 0x02200030, s1 := 0x100, c1 := 8, kind := .head, pk := 0xFFFFFFFF },
    { name := "HPn_NZ_CFG0", base := 0x02200034, s1 := 0x100, c1 := 8, kind := .head, pk := 0xFFFFFFFF, reset := 0x08030800 },
    { name := "HPn_NZ_CFG1", base := 0x02200038, s1 := 0x100, c1 := 8, kind := .head, pk := 0xFFFFFF0F, reset := 0x00010003 },
    { name := "HPn_TK_CNT", base := 0x0220003C, s1 := 0x100, c1 := 8, kind := .head, ro := 0xFFFF01FF },
    { name := "HPn_TK_CMD", base := 0x02200040, s1 := 0x100, c1 := 8, kind := .head, pk := 0x00003FFF },
    { name := "HPn_SH_CTL", base := 0x02200044, s1 := 0x100, c1 := 8, kind := .head, pk := 0xFFFF03FF },
    { name := "HPn_SH_START", base := 0x02200048, s1 := 0x100, c1 := 8, kind := .head, pk := 0xFFFFFFFF },
    { name := "HPn_SH_LIM", base := 0x0220004C, s1 := 0x100, c1 := 8, kind := .head, pk := 0xFFFFFFFF, reset := 0x00040040 },
    { name := "HPn_SH_ABS", base := 0x02200050, s1 := 0x100, c1 := 8, kind := .head, pk := 0xFFFFFFFF },
    { name := "HPn_FEEDf_X", base := 0x02200080, s1 := 0x100, c1 := 8, s2 := 0x8, c2 := 16, kind := .head, pk := 0xFFFFFFFF },
    { name := "HPn_FEEDf_M", base := 0x02200084, s1 := 0x100, c1 := 8, s2 := 0x8, c2 := 16, kind := .head, pk := 0xFFFFFFFF },
    { name := "HPn_TK", base := 0x02210000, s1 := 0x400, c1 := 8, s2 := 4, c2 := 256, kind := .head, ro := 0xFFFFFFFF } ]

/-- The registers of ENC. -/
def encRows : List RegRow :=
  [ { name := "ENCn_CTL", base := 0x02400000, s1 := 0x100, c1 := 4, pk := 0xFFFFFF18, ld := 0x00000007, reset := 0x0C043000 },
    { name := "ENCn_POS", base := 0x02400004, s1 := 0x100, c1 := 4, ro := 0xFFFFFFFF },
    { name := "ENCn_STAT", base := 0x02400008, s1 := 0x100, c1 := 4, w1c := 0x00000007, ro := 0x00000038 },
    { name := "ENCn_QERR_CNT", base := 0x0240000C, s1 := 0x100, c1 := 4, w1c := 0x80000000, ro := 0x0000FFFF, sat := 0x80000000, cnt := 0x0000FFFF },
    { name := "ENCn_IDX_CAP", base := 0x02400010, s1 := 0x100, c1 := 4, ro := 0xFFFFFFFF },
    { name := "ENCn_IDX_ERR", base := 0x02400014, s1 := 0x100, c1 := 4, ro := 0xFFFFFFFF },
    { name := "ENCn_IDX_PERIOD", base := 0x02400018, s1 := 0x100, c1 := 4, pk := 0xFFFFFFFF },
    { name := "ENCn_IDX_CFG", base := 0x0240001C, s1 := 0x100, c1 := 4, pk := 0x0000FFFF, reset := 0x00001000 },
    { name := "ENCn_PERIOD", base := 0x02400020, s1 := 0x100, c1 := 4, ro := 0xFFFFFFFF, reset := 0xFFFFFFFF },
    { name := "ENCn_EPOCH", base := 0x02400024, s1 := 0x100, c1 := 4, ro := 0xFFFFFFFF },
    { name := "CUnn_CTL", base := 0x02401000, s1 := 0x40, c1 := 32, pk := 0x0000001F, ro := 0x00000060 },
    { name := "CUnn_SPACING", base := 0x02401004, s1 := 0x40, c1 := 32, pk := 0xFFFFFFFF, reset := 0x00010000 },
    { name := "CUnn_NEXT_INT", base := 0x02401008, s1 := 0x40, c1 := 32, pk := 0xFFFFFFFF },
    { name := "CUnn_NEXT_FRAC", base := 0x0240100C, s1 := 0x40, c1 := 32, pk := 0x0000FFFF },
    { name := "CUnn_HIT_POS", base := 0x02401010, s1 := 0x40, c1 := 32, ro := 0xFFFFFFFF },
    { name := "CUnn_HIT_TS", base := 0x02401014, s1 := 0x40, c1 := 32, ro := 0xFFFFFFFF },
    { name := "CUnn_HIT_FRAC", base := 0x02401018, s1 := 0x40, c1 := 32, ro := 0x0000FFFF },
    { name := "CUnn_STAT", base := 0x0240101C, s1 := 0x40, c1 := 32, w1c := 0x00000003, ro := 0xFFFF0000 },
    { name := "CUnn_SPACING_HI", base := 0x02401020, s1 := 0x40, c1 := 32, pk := 0x00007FFF },
    { name := "ABSn_CTL", base := 0x02402000, s1 := 0x40, c1 := 2, pk := 0xFFFFFFFF },
    { name := "ABSn_POS", base := 0x02402004, s1 := 0x40, c1 := 2, ro := 0xFFFFFFFF },
    { name := "ABSn_TS", base := 0x02402008, s1 := 0x40, c1 := 2, ro := 0xFFFFFFFF },
    { name := "ABSn_STAT", base := 0x0240200C, s1 := 0x40, c1 := 2, w1c := 0x0000000F, ro := 0xFFFF0000 },
    { name := "SW_CTL", base := 0x02403000, pk := 0x0003FFFF },
    { name := "SW_STAT", base := 0x02403004, w1c := 0x0000FF00, ro := 0x000000FF },
    { name := "SWn_CAP", base := 0x02403010, s1 := 0x4, c1 := 8, ro := 0xFFFFFFFF } ]

/-- The registers of EVT. -/
def evtRows : List RegRow :=
  [ { name := "EVTc_SRC0", base := 0x02500000, s1 := 0x20, c1 := 64, ld := 0xFFFFFFFF },
    { name := "EVTc_SRC1", base := 0x02500004, s1 := 0x20, c1 := 64, ld := 0xFFFFFFFF },
    { name := "EVTc_SRC2", base := 0x02500008, s1 := 0x20, c1 := 64, ld := 0xFFFFFFFF },
    { name := "EVTc_CFG", base := 0x0250000C, s1 := 0x20, c1 := 64, ld := 0x0000001F, ro := 0x00070700 },
    { name := "EVTc_ACT", base := 0x02500010, s1 := 0x20, c1 := 64, ro := 0xFFFFFFFF },
    { name := "EVTc_LOSS", base := 0x02500014, s1 := 0x20, c1 := 64, ro := 0xFFFFFFFF },
    { name := "EVT_INFO", base := 0x02501000, ro := 0x0000FFFF, reset := 0x00004060 },
    { name := "EVT_GATE", base := 0x02501004, ro := 0x0000FFFF, reset := 0x0000A000 },
    { name := "EVT_CAPn_TS", base := 0x02502000, s1 := 0x20, c1 := 3, ro := 0xFFFFFFFF },
    { name := "EVT_CAPn_POS0", base := 0x02502004, s1 := 0x20, c1 := 3, ro := 0xFFFFFFFF },
    { name := "EVT_CAPn_POS1", base := 0x02502008, s1 := 0x20, c1 := 3, ro := 0xFFFFFFFF },
    { name := "EVT_CAPn_POS2", base := 0x0250200C, s1 := 0x20, c1 := 3, ro := 0xFFFFFFFF },
    { name := "EVT_CAPn_POS3", base := 0x02502010, s1 := 0x20, c1 := 3, ro := 0xFFFFFFFF },
    { name := "EVT_CAPn_SEQ", base := 0x02502014, s1 := 0x20, c1 := 3, ro := 0x0000FFFF } ]

/-- The registers of TIME. -/
def timeRows : List RegRow :=
  [ { name := "TIME_CTL", base := 0x02600000, pk := 0x0000FF17, reset := 0x00006400 },
    { name := "TIME_STAT", base := 0x02600004, w1c := 0x00000080, ro := 0x0000007F },
    { name := "TIME_NOW_LO", base := 0x02600008, ro := 0xFFFFFFFF },
    { name := "TIME_NOW_HI", base := 0x0260000C, ro := 0xFFFFFFFF },
    { name := "TIME_NOW_FRAC", base := 0x02600010, ro := 0x0000FFFF },
    { name := "TIME_STEP_LO", base := 0x02600014, pk := 0xFFFFFFFF },
    { name := "TIME_STEP_HI", base := 0x02600018, pk := 0xFFFFFFFF },
    { name := "TIME_RATE", base := 0x0260001C, pk := 0xFFFFFFFF },
    { name := "TIME_ADJ_RATE", base := 0x02600020, pk := 0xFFFFFFFF },
    { name := "TIME_ADJ_TICKS", base := 0x02600024, pk := 0xFFFFFFFF },
    { name := "TIME_UP_OFS_LO", base := 0x02600028, ro := 0xFFFFFFFF },
    { name := "TIME_UP_OFS_HI", base := 0x0260002C, ro := 0xFFFFFFFF },
    { name := "TIME_UP_DLY", base := 0x02600030, ro := 0xFFFFFFFF },
    { name := "TIME_UP_CNT", base := 0x02600034, w1c := 0x80000000, ro := 0x7FFFFFFF, sat := 0x80000000, cnt := 0x7FFF0000 },
    { name := "TIME_EPn_LAT", base := 0x02600100, s1 := 0x40, c1 := 2, pk := 0xFFFFFFFF },
    { name := "TIME_EPn_PTP", base := 0x02600104, s1 := 0x40, c1 := 2, pk := 0x00000007, reset := 0x00000007 },
    { name := "TIME_EPn_LCTL", base := 0x02600108, s1 := 0x40, c1 := 2, pk := 0xFFFF0001, reset := 0x00400000 },
    { name := "TIME_EPn_LSTAT", base := 0x0260010C, s1 := 0x40, c1 := 2, w1c := 0x00000700, ro := 0x0000007F },
    { name := "TIME_EPn_LCNT", base := 0x02600110, s1 := 0x40, c1 := 2, w1c := 0x80000000, ro := 0x7FFFFFFF, sat := 0x80000000, cnt := 0x7FFFFFFF },
    { name := "RTC_SEC_LO", base := 0x02600200, ro := 0xFFFFFFFF },
    { name := "RTC_SEC_HI", base := 0x02600204, ro := 0x7FFF00FF },
    { name := "RTC_CTL", base := 0x02600208, pk := 0x0000FF03 },
    { name := "RTC_SET_LO", base := 0x0260020C, pk := 0xFFFFFFFF },
    { name := "RTC_SET_HI", base := 0x02600210, pk := 0x7FFF00FF },
    { name := "RTC_STAT", base := 0x02600214, w1c := 0x00000002, ro := 0x00000005 } ]

/-- The registers of SDF. -/
def sdfRows : List RegRow :=
  [ { name := "SDF_CTL", base := 0x02700000, pk := 0x00000007 },
    { name := "SDF_STAT", base := 0x02700004, w1c := 0x00000001, ro := 0xFFFF0000 },
    { name := "SDF_GRPg_CTL", base := 0x02700100, s1 := 0x10, c1 := 4, kind := .sdg, pk := 0x00000004, ld := 0x0000FF03 },
    { name := "SDF_GRPg_PER", base := 0x02700104, s1 := 0x10, c1 := 4, kind := .sdg, ro := 0xFFFFFFFF },
    { name := "SDF_GRPg_STAT", base := 0x02700108, s1 := 0x10, c1 := 4, kind := .sdg, w1c := 0x00000006, ro := 0x00000001 },
    { name := "SDF_CHn_CTL", base := 0x02701000, s1 := 0x40, c1 := 16, kind := .sdi, pk := 0x0003FFFF, reset := 0x00000040 },
    { name := "SDF_CHn_SH", base := 0x02701004, s1 := 0x40, c1 := 16, kind := .sdi, pk := 0x1F1F1F1F },
    { name := "SDF_CHn_FIR", base := 0x02701008, s1 := 0x40, c1 := 16, kind := .sdi, pk := 0x00007F7F, reset := 0x00000001 },
    { name := "SDF_CHn_GD", base := 0x0270100C, s1 := 0x40, c1 := 16, kind := .sdi, ro := 0x0003FFFF, reset := 0x00000003 },
    { name := "SDF_CHn_DATA", base := 0x02701010, s1 := 0x40, c1 := 16, kind := .sdi, ro := 0xFFFFFFFF },
    { name := "SDF_CHn_TS", base := 0x02701014, s1 := 0x40, c1 := 16, kind := .sdi, ro := 0xFFFFFFFF },
    { name := "SDF_CHn_SEQ", base := 0x02701018, s1 := 0x40, c1 := 16, kind := .sdi, ro := 0x0000FFFF },
    { name := "SDF_CHn_STAT", base := 0x0270101C, s1 := 0x40, c1 := 16, kind := .sdi, w1c := 0x8000000F, ro := 0x7FFF0010, sat := 0x80000000, cnt := 0x7FFF0000, reset := 0x00000010 },
    { name := "SDF_COEF", base := 0x02710000, s1 := 0x100, c1 := 16, s2 := 4, c2 := 64, kind := .sdi, pk := 0x0003FFFF } ]

/-- The registers of DMC. -/
def dmcRows : List RegRow :=
  [ { name := "DMC_CFG", base := 0x02800000, pk := 0x00000003 },
    { name := "DMC_INSTALLED", base := 0x02800004, ro := 0x8007FFFF },
    { name := "DMC_CHc_CFG", base := 0x02801000, s1 := 0x100, c1 := 8, kind := .ddr, pk := 0x0000001F },
    { name := "DMC_CHc_CTL", base := 0x02801004, s1 := 0x100, c1 := 8, kind := .ddr, pk := 0x00FFFFFF, reset := 0x00401010 },
    { name := "DMC_CHc_STAT", base := 0x02801008, s1 := 0x100, c1 := 8, kind := .ddr, w1c := 0x000003F8, ro := 0x00000407 },
    { name := "DMC_CHc_TIM0", base := 0x0280100C, s1 := 0x100, c1 := 8, kind := .ddr, pk := 0x7FFFFFFF },
    { name := "DMC_CHc_TIM1", base := 0x02801010, s1 := 0x100, c1 := 8, kind := .ddr, pk := 0xFFFFFFFF },
    { name := "DMC_CHc_TIM2", base := 0x02801014, s1 := 0x100, c1 := 8, kind := .ddr, pk := 0x0001FFFF },
    { name := "DMC_CHc_MR0", base := 0x02801018, s1 := 0x100, c1 := 8, kind := .ddr, pk := 0x0003FFFF },
    { name := "DMC_CHc_MR1", base := 0x0280101C, s1 := 0x100, c1 := 8, kind := .ddr, pk := 0x0003FFFF },
    { name := "DMC_CHc_MR2", base := 0x02801020, s1 := 0x100, c1 := 8, kind := .ddr, pk := 0x0003FFFF },
    { name := "DMC_CHc_MR3", base := 0x02801024, s1 := 0x100, c1 := 8, kind := .ddr, pk := 0x0003FFFF },
    { name := "DMC_CHc_MR4", base := 0x02801028, s1 := 0x100, c1 := 8, kind := .ddr, pk := 0x0003FFFF },
    { name := "DMC_CHc_MR5", base := 0x0280102C, s1 := 0x100, c1 := 8, kind := .ddr, pk := 0x0003FFFF },
    { name := "DMC_CHc_MR6", base := 0x02801030, s1 := 0x100, c1 := 8, kind := .ddr, pk := 0xFFFFFFFF },
    { name := "DMC_CHc_ECC_CNT", base := 0x02801034, s1 := 0x100, c1 := 8, kind := .ddr, w1c := 0x80000000, ro := 0x7FFFFFFF, sat := 0x80000000, cnt := 0x7FFFFFFF },
    { name := "DMC_CHc_ERR_ADDR_LO", base := 0x02801038, s1 := 0x100, c1 := 8, kind := .ddr, ro := 0xFFFFFFFF },
    { name := "DMC_CHc_ERR_ADDR_HI", base := 0x0280103C, s1 := 0x100, c1 := 8, kind := .ddr, w1c := 0x80000000, ro := 0x0000003F },
    { name := "DMC_CHc_ERR_SYN", base := 0x02801040, s1 := 0x100, c1 := 8, kind := .ddr, ro := 0x000000FF },
    { name := "DMC_CHc_SCRUB", base := 0x02801044, s1 := 0x100, c1 := 8, kind := .ddr, pk := 0x000000FF, ro := 0xFFFFFF00, reset := 0x00000018 },
    { name := "DMC_CHc_SPARE", base := 0x02801048, s1 := 0x100, c1 := 8, kind := .ddr, pk := 0x0FFFFFFF, reset := 0x08400008 },
    { name := "DMC_CHc_USE", base := 0x0280104C, s1 := 0x100, c1 := 8, kind := .ddr, ro := 0xFFFF03FF },
    { name := "DMC_RTp_CFG", base := 0x02802000, s1 := 0x10, c1 := 32, ld := 0xFFFFFFFF },
    { name := "DMC_RTp_STAT", base := 0x02802004, s1 := 0x10, c1 := 32, ro := 0xFFFF3FFF },
    { name := "DMC_DLY0", base := 0x02810000, s1 := 0x1000, c1 := 8, s2 := 4, c2 := 36, kind := .ddr, pk := 0x000003FF },
    { name := "DMC_DLY1", base := 0x02810100, s1 := 0x1000, c1 := 8, s2 := 4, c2 := 36, kind := .ddr, pk := 0x000003FF },
    { name := "DMC_VREF", base := 0x02810200, s1 := 0x1000, c1 := 8, s2 := 4, c2 := 2, kind := .ddr, pk := 0x0000007F } ]

/-- The registers of DMA. -/
def dmaRows : List RegRow :=
  [ { name := "DMn_SRC_LO", base := 0x02A00000, s1 := 0x40, c1 := 32, pk := 0xFFFFFFFF },
    { name := "DMn_SRC_HI", base := 0x02A00004, s1 := 0x40, c1 := 32, pk := 0xFFFFFFFF },
    { name := "DMn_DST_LO", base := 0x02A00008, s1 := 0x40, c1 := 32, pk := 0xFFFFFFFF },
    { name := "DMn_DST_HI", base := 0x02A0000C, s1 := 0x40, c1 := 32, pk := 0xFFFFFFFF },
    { name := "DMn_CNT", base := 0x02A00010, s1 := 0x40, c1 := 32, pk := 0xFFFFFFFF },
    { name := "DMn_CTL", base := 0x02A00014, s1 := 0x40, c1 := 32, pk := 0x0000007F },
    { name := "DMn_CFG", base := 0x02A00018, s1 := 0x40, c1 := 32, pk := 0x0FF7FFFF, reset := 0x0FF00081 },
    { name := "DMn_STAT", base := 0x02A0001C, s1 := 0x40, c1 := 32, w1c := 0x0000001E, ro := 0x00000F01 },
    { name := "DMn_XFER", base := 0x02A00020, s1 := 0x40, c1 := 32, ro := 0xFFFFFFFF },
    { name := "DMn_DEV", base := 0x02A00024, s1 := 0x40, c1 := 32, pk := 0x0003FFFF },
    { name := "DMA_RWIN_LO", base := 0x02A01000, pk := 0xFFF00000 },
    { name := "DMA_RWIN_HI", base := 0x02A01004, pk := 0x00FFFF3F },
    { name := "DMA_SHARE", base := 0x02A01008, ro := 0x000001FF },
    { name := "DMA_RSTAT", base := 0x02A0100C, w1c := 0x80000000, ro := 0x0000FFFF, sat := 0x80000000, cnt := 0x0000FFFF } ]

/-- The registers of CMP. -/
def cmpRows : List RegRow :=
  [ { name := "CMP_CCn_CFG0", base := 0x02B00000, s1 := 0x40, c1 := 16, pk := 0x000F011F, reset := 0x00080108 },
    { name := "CMP_CCn_FILL", base := 0x02B00004, s1 := 0x40, c1 := 16, pk := 0x0000FFFF },
    { name := "CMP_CCn_GEOM0", base := 0x02B00008, s1 := 0x40, c1 := 16, pk := 0x0003FFFF },
    { name := "CMP_CCn_GEOM1", base := 0x02B0000C, s1 := 0x40, c1 := 16, pk := 0x001FFFFF },
    { name := "CMP_CCn_STAT", base := 0x02B00010, s1 := 0x40, c1 := 16, w1c := 0x80000001, ro := 0x7FFF0006, sat := 0x80000000, cnt := 0x7FFF0000 },
    { name := "CMP_CCn_RAW", base := 0x02B00014, s1 := 0x40, c1 := 16, ro := 0xFFFFFFFF },
    { name := "CMP_CCn_COD", base := 0x02B00018, s1 := 0x40, c1 := 16, ro := 0xFFFFFFFF },
    { name := "CMP_MX_CNT", base := 0x02B01000, w1c := 0x80000000, ro := 0x7FFFFFFF, sat := 0x80000000, cnt := 0x7FFF0000 } ]

/-- The registers of TW. -/
def twRows : List RegRow :=
  [ { name := "TWn_CTL", base := 0x02C00000, s1 := 0x100, c1 := 4, rw := 0x00000030, ld := 0x0000000F, reset := 0x00000001 },
    { name := "TWn_XFER", base := 0x02C00004, s1 := 0x100, c1 := 4, rw := 0x873F3F7F },
    { name := "TWn_STAT", base := 0x02C00008, s1 := 0x100, c1 := 4, w1c := 0x000FF002, ro := 0x00000FFD, reset := 0x00000800 },
    { name := "TWn_TXD0", base := 0x02C00010, s1 := 0x100, c1 := 4, rw := 0xFFFFFFFF },
    { name := "TWn_TXD1", base := 0x02C00014, s1 := 0x100, c1 := 4, rw := 0xFFFFFFFF },
    { name := "TWn_TXD2", base := 0x02C00018, s1 := 0x100, c1 := 4, rw := 0xFFFFFFFF },
    { name := "TWn_TXD3", base := 0x02C0001C, s1 := 0x100, c1 := 4, rw := 0xFFFFFFFF },
    { name := "TWn_TXD4", base := 0x02C00020, s1 := 0x100, c1 := 4, rw := 0xFFFFFFFF },
    { name := "TWn_TXD5", base := 0x02C00024, s1 := 0x100, c1 := 4, rw := 0xFFFFFFFF },
    { name := "TWn_TXD6", base := 0x02C00028, s1 := 0x100, c1 := 4, rw := 0xFFFFFFFF },
    { name := "TWn_TXD7", base := 0x02C0002C, s1 := 0x100, c1 := 4, rw := 0xFFFFFFFF },
    { name := "TWn_RXD0", base := 0x02C00030, s1 := 0x100, c1 := 4, ro := 0xFFFFFFFF },
    { name := "TWn_RXD1", base := 0x02C00034, s1 := 0x100, c1 := 4, ro := 0xFFFFFFFF },
    { name := "TWn_RXD2", base := 0x02C00038, s1 := 0x100, c1 := 4, ro := 0xFFFFFFFF },
    { name := "TWn_RXD3", base := 0x02C0003C, s1 := 0x100, c1 := 4, ro := 0xFFFFFFFF },
    { name := "TWn_RXD4", base := 0x02C00040, s1 := 0x100, c1 := 4, ro := 0xFFFFFFFF },
    { name := "TWn_RXD5", base := 0x02C00044, s1 := 0x100, c1 := 4, ro := 0xFFFFFFFF },
    { name := "TWn_RXD6", base := 0x02C00048, s1 := 0x100, c1 := 4, ro := 0xFFFFFFFF },
    { name := "TWn_RXD7", base := 0x02C0004C, s1 := 0x100, c1 := 4, ro := 0xFFFFFFFF },
    { name := "TWn_CNT", base := 0x02C00050, s1 := 0x100, c1 := 4, w1c := 0x80000000, ro := 0x7FFFFFFF, sat := 0x80000000, cnt := 0x7FFFFFFF },
    { name := "TW3_TGT_CFG", base := 0x02C01000, rw := 0x0000FF7F, reset := 0x00000800 },
    { name := "TW3_NOTIFY", base := 0x02C01004, rw := 0x8000FFFF },
    { name := "TW3_TGT_CNT", base := 0x02C01008, w1c := 0x80000000, ro := 0x7FFFFFFF, sat := 0x80000000, cnt := 0x7FFFFFFF },
    { name := "TW0_PMBd", base := 0x02C02000, s1 := 0x4, c1 := 4, kind := .die, pk := 0x801FFFFF, reset := 0x0000FF00 },
    { name := "TW0_PMB_CFG", base := 0x02C02010, pk := 0xFFFFFFFF, reset := 0x03E80A0A },
    { name := "TW0_PMB_STAT", base := 0x02C02014, w1c := 0x00000002, ro := 0x0000001D },
    { name := "TW3_FILE", base := 0x02C01100, s1 := 4, c1 := 64, rw := 0xFFFFFFFF } ]

/-- The registers of PWR. -/
def pwrRows : List RegRow :=
  [ { name := "PWR_CMD", base := 0x02D00000, pk := 0x80000003 },
    { name := "PWR_STAT", base := 0x02D00004, w1c := 0x00000030, ro := 0x0000000F },
    { name := "PWR_REFUSE", base := 0x02D00008, ro := 0xFFFF0F3F },
    { name := "PWR_CTL", base := 0x02D0000C, pk := 0x0001FFFF, reset := 0x00000064 },
    { name := "PWR_RESTORE_LO", base := 0x02D00010, pk := 0xFF800000 },
    { name := "PWR_RESTORE_HI", base := 0x02D00014, pk := 0x8000003F },
    { name := "PWR_CLASSb", base := 0x02D00040, s1 := 0x4, c1 := 32, kind := .pblock, ld := 0x00000003, ro := 0xFFFF0004 },
    { name := "PWR_RET_MASK_LOn", base := 0x02D00100, s1 := 0x8, c1 := 8, kind := .region, pk := 0xFFFFFFFF },
    { name := "PWR_RET_MASK_HIn", base := 0x02D00104, s1 := 0x8, c1 := 8, kind := .region, pk := 0x000000FF },
    { name := "PWR_DVFSd", base := 0x02D00200, s1 := 0x10, c1 := 4, kind := .die, pk := 0x00000007, ld := 0x00007000, ro := 0x00008770, reset := 0x00007007 },
    { name := "PWR_OPk", base := 0x02D00300, s1 := 0x4, c1 := 8, ro := 0xFFFFFFFF } ]

/-- The registers of CAL. -/
def calRows : List RegRow :=
  [ { name := "CAL_CTL", base := 0x02E00000, pk := 0x000FFF03, reset := 0x000F4001 },
    { name := "CAL_STAT", base := 0x02E00004, w1c := 0x00000060, ro := 0x0000001F },
    { name := "CAL_CNT", base := 0x02E00008, w1c := 0x80000000, ro := 0x7FFFFFFF, sat := 0x80000000, cnt := 0x7FFF0000 },
    { name := "CAL_BNDk", base := 0x02E00010, s1 := 0x8, c1 := 4, pk := 0xFFFFFFFF },
    { name := "CAL_STEPk", base := 0x02E00014, s1 := 0x8, c1 := 4, pk := 0x0000FFFF },
    { name := "CAL_TEMPs", base := 0x02E00100, s1 := 0x4, c1 := 20, kind := .sensor, ro := 0x0001FFFF },
    { name := "CAL_REFs", base := 0x02E00180, s1 := 0x4, c1 := 20, kind := .sensor, ro := 0x0001FFFF },
    { name := "CAL_SOFSs", base := 0x02E00200, s1 := 0x4, c1 := 20, kind := .sensor, pk := 0x000000FF },
    { name := "CAL_TRIMd", base := 0x02E00280, s1 := 0x4, c1 := 5, kind := .trim, pk := 0x000000FF } ]

/-- The registers of FLT. -/
def fltRows : List RegRow :=
  [ { name := "FLT_CTL", base := 0x02F00000, pk := 0x0000000F },
    { name := "FLT_STAT", base := 0x02F00004, w1c := 0x00000060, ro := 0x0000009F },
    { name := "FLT_DEG", base := 0x02F00008, ro := 0x000000FF },
    { name := "FLT_COND", base := 0x02F0000C, ro := 0x0000000F, reset := 0x00000001 },
    { name := "FLT_CNT", base := 0x02F00010, w1c := 0x80000000, ro := 0x7FFFFFFF, sat := 0x80000000, cnt := 0x7FFFFFFF },
    { name := "FLT_PAIR_CFG", base := 0x02F00100, pk := 0x0000000F, ro := 0x00000010 },
    { name := "FLT_PAIR_CMD", base := 0x02F00104, pk := 0x00000003 },
    { name := "FLT_PAIR_STAT", base := 0x02F00108, ro := 0x00FFFF7F },
    { name := "FLT_HB_CNT", base := 0x02F0010C, w1c := 0x80000000, ro := 0x7FFFFFFF, sat := 0x80000000, cnt := 0x7FFFFFFF },
    { name := "FLT_SHADOW_CNT", base := 0x02F00110, w1c := 0x80000000, ro := 0x7FFFFFFF, sat := 0x80000000, cnt := 0x7FFFFFFF },
    { name := "FLT_SHADOW_MATCH", base := 0x02F00114, ro := 0xFFFFFFFF },
    { name := "FLT_SYNC_BLK", base := 0x02F00118, ro := 0x00FFFFFF } ]

/-- The registers of ISP. -/
def ispRows : List RegRow :=
  [ { name := "PPn_CTL", base := 0x03000000, s1 := 0x40, c1 := 2, kind := .pport, pk := 0x00001FF0, ld := 0x0000000F },
    { name := "PPn_GEOM", base := 0x03000004, s1 := 0x40, c1 := 2, kind := .pport, pk := 0x3FFF3FFF },
    { name := "PPn_BUF0", base := 0x03000008, s1 := 0x40, c1 := 2, kind := .pport, pk := 0xFFFFFFFF },
    { name := "PPn_BUF1", base := 0x0300000C, s1 := 0x40, c1 := 2, kind := .pport, pk := 0xFFFFFFFF },
    { name := "PPn_STAT", base := 0x03000010, s1 := 0x40, c1 := 2, kind := .pport, w1c := 0x0000001F, ro := 0x00030000 },
    { name := "PPn_CNT", base := 0x03000014, s1 := 0x40, c1 := 2, kind := .pport, w1c := 0x80000000, ro := 0x7FFFFFFF, sat := 0x80000000, cnt := 0x7FFFFFFF },
    { name := "PPn_FRAMES", base := 0x03000018, s1 := 0x40, c1 := 2, kind := .pport, ro := 0xFFFFFFFF },
    { name := "ISP_CTL", base := 0x03001000, pk := 0x0000003F },
    { name := "ISP_STAT", base := 0x03001004, w1c := 0x00000009, ro := 0x00000006 },
    { name := "ISP_CTXc_CTL", base := 0x03002000, s1 := 0x100, c1 := 4, pk := 0x00003FFF, reset := 0x0000001C },
    { name := "ISP_CTXc_BLK", base := 0x03002004, s1 := 0x100, c1 := 4, pk := 0x0000FFFF },
    { name := "ISP_CTXc_WB0", base := 0x03002008, s1 := 0x100, c1 := 4, pk := 0xFFFFFFFF, reset := 0x40004000 },
    { name := "ISP_CTXc_WB1", base := 0x0300200C, s1 := 0x100, c1 := 4, pk := 0x0000FFFF, reset := 0x00004000 },
    { name := "ISP_CTXc_CM0", base := 0x03002010, s1 := 0x100, c1 := 4, pk := 0xFFFFFFFF, reset := 0x00004000 },
    { name := "ISP_CTXc_CM1", base := 0x03002014, s1 := 0x100, c1 := 4, pk := 0xFFFFFFFF },
    { name := "ISP_CTXc_CM2", base := 0x03002018, s1 := 0x100, c1 := 4, pk := 0xFFFFFFFF, reset := 0x00004000 },
    { name := "ISP_CTXc_CM3", base := 0x0300201C, s1 := 0x100, c1 := 4, pk := 0xFFFFFFFF },
    { name := "ISP_CTXc_CM4", base := 0x03002020, s1 := 0x100, c1 := 4, pk := 0x0000FFFF, reset := 0x00004000 },
    { name := "ISP_CTXc_CROP0", base := 0x03002024, s1 := 0x100, c1 := 4, pk := 0x1FFF1FFF },
    { name := "ISP_CTXc_CROP1", base := 0x03002028, s1 := 0x100, c1 := 4, pk := 0x1FFF1FFF },
    { name := "ISP_CTXc_OUTB", base := 0x0300202C, s1 := 0x100, c1 := 4, pk := 0xFFFFFFFF },
    { name := "ISP_CTXc_SLOT", base := 0x03002030, s1 := 0x100, c1 := 4, ro := 0xFFFFFFFF },
    { name := "ISP_CTXc_WR", base := 0x03002034, s1 := 0x100, c1 := 4, ro := 0x0000001F },
    { name := "ISP_CTXc_RD", base := 0x03002038, s1 := 0x100, c1 := 4, pk := 0x0000001F },
    { name := "ISP_LUT", base := 0x03008000, s1 := 0x800, c1 := 4, s2 := 4, c2 := 257, pk := 0x0000FFFF } ]


/-- Phases 0 to 7. -/
def rsmpDefault0 : List (List Int) :=
  [ [0, 0, 0, 16384, 0, 0, 0, 0],
    [-25, 80, -226, 16377, 235, -83, 26, 0],
    [-49, 158, -443, 16356, 478, -168, 53, -1],
    [-71, 232, -651, 16319, 730, -255, 82, -2],
    [-93, 304, -850, 16271, 990, -345, 111, -4],
    [-113, 373, -1040, 16207, 1257, -436, 142, -6],
    [-132, 438, -1220, 16130, 1533, -529, 173, -9],
    [-149, 501, -1390, 16038, 1815, -623, 205, -13] ]

/-- Phases 8 to 15. -/
def rsmpDefault1 : List (List Int) :=
  [ [-165, 560, -1551, 15933, 2105, -719, 238, -17],
    [-180, 615, -1703, 15817, 2401, -816, 271, -21],
    [-193, 668, -1845, 15685, 2703, -913, 305, -26],
    [-205, 717, -1977, 15540, 3012, -1011, 339, -31],
    [-216, 762, -2100, 15385, 3326, -1110, 374, -37],
    [-226, 804, -2213, 15216, 3646, -1208, 409, -44],
    [-234, 842, -2316, 15034, 3970, -1307, 445, -50],
    [-241, 877, -2410, 14841, 4299, -1405, 480, -57] ]

/-- Phases 16 to 23. -/
def rsmpDefault2 : List (List Int) :=
  [ [-247, 908, -2495, 14638, 4631, -1502, 516, -65],
    [-251, 936, -2571, 14422, 4968, -1598, 551, -73],
    [-255, 961, -2638, 14196, 5308, -1693, 586, -81],
    [-257, 982, -2695, 13960, 5650, -1786, 620, -90],
    [-258, 1000, -2744, 13711, 5995, -1877, 655, -98],
    [-258, 1014, -2785, 13458, 6341, -1967, 688, -107],
    [-258, 1025, -2816, 13193, 6689, -2053, 721, -117],
    [-256, 1034, -2840, 12919, 7038, -2138, 753, -126] ]

/-- Phases 24 to 31. -/
def rsmpDefault3 : List (List Int) :=
  [ [-253, 1039, -2856, 12635, 7388, -2218, 784, -135],
    [-250, 1041, -2863, 12347, 7737, -2296, 813, -145],
    [-246, 1040, -2864, 12050, 8086, -2370, 842, -154],
    [-241, 1036, -2857, 11746, 8434, -2440, 869, -163],
    [-235, 1030, -2842, 11435, 8780, -2506, 894, -172],
    [-229, 1021, -2821, 11119, 9124, -2567, 918, -181],
    [-222, 1009, -2794, 10797, 9466, -2623, 941, -190],
    [-215, 995, -2760, 10472, 9804, -2674, 961, -199] ]

/-- Phases 32 to 39. -/
def rsmpDefault4 : List (List Int) :=
  [ [-207, 979, -2720, 10140, 10140, -2720, 979, -207],
    [-199, 961, -2674, 9804, 10472, -2760, 995, -215],
    [-190, 941, -2623, 9466, 10797, -2794, 1009, -222],
    [-181, 918, -2567, 9124, 11119, -2821, 1021, -229],
    [-172, 894, -2506, 8780, 11435, -2842, 1030, -235],
    [-163, 869, -2440, 8434, 11746, -2857, 1036, -241],
    [-154, 842, -2370, 8086, 12050, -2864, 1040, -246],
    [-145, 813, -2296, 7737, 12347, -2863, 1041, -250] ]

/-- Phases 40 to 47. -/
def rsmpDefault5 : List (List Int) :=
  [ [-135, 784, -2218, 7388, 12635, -2856, 1039, -253],
    [-126, 753, -2138, 7038, 12919, -2840, 1034, -256],
    [-117, 721, -2053, 6689, 13193, -2816, 1025, -258],
    [-107, 688, -1967, 6341, 13458, -2785, 1014, -258],
    [-98, 655, -1877, 5995, 13711, -2744, 1000, -258],
    [-90, 620, -1786, 5650, 13960, -2695, 982, -257],
    [-81, 586, -1693, 5308, 14196, -2638, 961, -255],
    [-73, 551, -1598, 4968, 14422, -2571, 936, -251] ]

/-- Phases 48 to 55. -/
def rsmpDefault6 : List (List Int) :=
  [ [-65, 516, -1502, 4631, 14638, -2495, 908, -247],
    [-57, 480, -1405, 4299, 14841, -2410, 877, -241],
    [-50, 445, -1307, 3970, 15034, -2316, 842, -234],
    [-44, 409, -1208, 3646, 15216, -2213, 804, -226],
    [-37, 374, -1110, 3326, 15385, -2100, 762, -216],
    [-31, 339, -1011, 3012, 15540, -1977, 717, -205],
    [-26, 305, -913, 2703, 15685, -1845, 668, -193],
    [-21, 271, -816, 2401, 15817, -1703, 615, -180] ]

/-- Phases 56 to 63. -/
def rsmpDefault7 : List (List Int) :=
  [ [-17, 238, -719, 2105, 15933, -1551, 560, -165],
    [-13, 205, -623, 1815, 16038, -1390, 501, -149],
    [-9, 173, -529, 1533, 16130, -1220, 438, -132],
    [-6, 142, -436, 1257, 16207, -1040, 373, -113],
    [-4, 111, -345, 990, 16271, -850, 304, -93],
    [-2, 82, -255, 730, 16319, -651, 232, -71],
    [-1, 53, -168, 478, 16356, -443, 158, -49],
    [0, 26, -83, 235, 16377, -226, 80, -25] ]

/-- The on-die default resampler (R154), 64 phases of 8 taps.
PRESUMED: rounding and the tap that takes the remainder are not in the spec (assumption 3). -/
def rsmpDefault : List (List Int) :=
  rsmpDefault0 ++ rsmpDefault1 ++ rsmpDefault2 ++ rsmpDefault3
    ++ rsmpDefault4 ++ rsmpDefault5 ++ rsmpDefault6 ++ rsmpDefault7

/-- The rows of a block. -/
def blockRows : Block → List RegRow
  | .top => topRows | .cfg => cfgRows | .hostq => hostqRows | .lane => laneRows | .nim => nimRows
  | .eth => ethRows | .ing => ingRows | .sti => stiRows | .vg => vgRows | .seg => segRows
  | .prt => prtRows | .enc => encRows | .evt => evtRows | .time => timeRows | .sdf => sdfRows
  | .dmc => dmcRows | .dma => dmaRows | .cmp => cmpRows | .tw => twRows | .pwr => pwrRows
  | .cal => calRows | .flt => fltRows | .isp => ispRows

/-- The layout of BAR0 (R26): the block an offset lies in. -/
def blockOf (off : Nat) : Option Block :=
  if off < 0x00100000 then some .top
  else if off < 0x00200000 then some .cfg
  else if off < 0x00400000 then some .hostq
  else if off < 0x00600000 then some .lane
  else if off < 0x00700000 then some .nim
  else if off < 0x00800000 then some .eth
  else if off < 0x00A00000 then some .ing
  else if off < 0x01000000 then some .sti
  else if off < 0x02000000 then some .vg
  else if off < 0x02200000 then some .seg
  else if off < 0x02400000 then some .prt
  else if off < 0x02500000 then some .enc
  else if off < 0x02600000 then some .evt
  else if off < 0x02700000 then some .time
  else if off < 0x02800000 then some .sdf
  else if off < 0x02A00000 then some .dmc
  else if off < 0x02B00000 then some .dma
  else if off < 0x02C00000 then some .cmp
  else if off < 0x02D00000 then some .tw
  else if off < 0x02E00000 then some .pwr
  else if off < 0x02F00000 then some .cal
  else if off < 0x03000000 then some .flt
  else if off < 0x03100000 then some .isp
  else none

/-- A register found in the map: its row and its two instance indices. -/
structure RegRef where
  /-- The row of the index. -/
  row : RegRow
  /-- Outer instance. -/
  i : Nat
  /-- Inner instance. -/
  j : Nat

/-- The instance indices of `off` in a row, if it lies there. -/
def RegRow.locate (r : RegRow) (off : Nat) : Option (Nat × Nat) :=
  if off < r.base then none
  else
    let d := off - r.base
    let i := if r.s1 = 0 then 0 else d / r.s1
    let e := d - i * r.s1
    let j := if r.s2 = 0 then 0 else e / r.s2
    if i < r.c1 ∧ j < r.c2 ∧ e = j * r.s2 then some (i, j) else none

/-- First row of a list that holds `off`. -/
def locateIn (off : Nat) : List RegRow → Option RegRef
  | [] => none
  | r :: rs =>
    match r.locate off with
    | some (i, j) => some ⟨r, i, j⟩
    | none => locateIn off rs

/-- The register at an offset; none where the offset is reserved (R27). -/
def findReg (off : Nat) : Option RegRef :=
  match blockOf off with
  | none => none
  | some b => locateIn off (blockRows b)

/-- Does instance `i` of a kind exist on the part (R3)? -/
def present (v : Variant) (k : InstKind) (i : Nat) : Bool :=
  match v with
  | .w1296 => true
  | .w0648 =>
    match k with
    | .any | .seam => true
    | .sdg => i < 2
    | .cam => i < 6
    | .lane => i < 48 || (96 ≤ i && i < 104) || 112 ≤ i
    | .nport => i < 2
    | .head => i < 4
    | .pport => i < 1
    | .region => i < 4
    | .ddr => i < 4
    | .die => i < 2
    | .sdi => i < 8
    | .sensor => i < 8 || 16 ≤ i
    | .trim => i < 2 || i == 4
    | .pblock => !(28 ≤ i && i < 32)

/-- EVTc_CFG.KIND of consumer `c` (R91). -/
def evtKind (c : Nat) : Nat :=
  if c < 12 then 0 else if c < 20 then 1 else if c < 32 then 0 else if c < 48 then 2
  else if c < 50 then 3 else if c < 52 then 0 else if c = 52 then 7 else if c < 56 then 4
  else if c < 60 then 5 else 6

/-- Is block `b` of the PWR_CLASS table gateable (R395)? -/
def gateable (b : Nat) : Bool :=
  b == 0x06 || b == 0x07 || b == 0x08 || b == 0x0D || b == 0x0F || b == 0x10 || b == 0x15
    || (0x18 ≤ b && b < 0x20)

/-- WAKE delay in microseconds (R395). -/
def wakeUs (b : Nat) : Nat :=
  if b = 0x0F ∨ b = 0x15 then 1
  else if b = 0x06 ∨ b = 0x07 ∨ b = 0x08 ∨ b = 0x0D ∨ b = 0x10 then 2
  else if 0x18 ≤ b ∧ b < 0x20 then 10 else 0

/-- VU_CLK of operating point `k` in MHz (R407). -/
def opMhz (k : Nat) : Nat := [600, 750, 900, 1000, 1100, 1200, 1350, 1500].getD k 0

/-- Voltage of operating point `k` in mV (R407). -/
def opMv (k : Nat) : Nat := [680, 700, 720, 740, 760, 780, 810, 850].getD k 0

/-- Physical VU of logical VU `l` at cold reset (R12). -/
def physOf (l : Nat) : Nat := 18 * (l / 16) + l % 16

/-- One word of the default resampler table. -/
def rsmpWord (k : Nat) : Nat :=
  let ph := rsmpDefault.getD (k / 4) []
  wrapTo 16 (ph.getD (2 * (k % 4)) 0) + 65536 * wrapTo 16 (ph.getD (2 * (k % 4) + 1) 0)

/-- The reset value of a register that exists on the part. -/
def resetNat (b : Board) (r : RegRef) : Nat :=
  let off := r.row.base
  if off = 0x00000000 then
    match b.variant with
    | .w1296 => 0x4DB01296
    | .w0648 => 0x4DB00648
  else if off = 0x00000004 then
    (match b.variant with
      | .w1296 => 0x3FFF
      | .w0648 => 0x30F3) + 65536 * b2n b.auth
  else if off = 0x00000018 then b2n b.tsSrc + 2 * b2n b.pairRank + 4 * (b.boot % 4)
  else if off = 0x00100050 then b.sigProg % 16 + 16 * (b.sigRevoked % 16)
  else if off = 0x0250000C then 256 * evtKind r.i
  else if off = 0x00808000 then rsmpWord r.i
  else if off = 0x01000000 then 0x00080000 + 256 * (4 * r.i) + r.i / 2
  else if off = 0x01001000 then physOf (64 * r.i + r.j)
  else if off = 0x01002000 then (if r.j % 18 < 16 then 1 else 2)
  else if off = 0x02600004 then b2n b.tsSrc
  else if off = 0x02710000 then (if r.j = 0 then 0x00010000 else 0)
  else if off = 0x02D00040 then 65536 * wakeUs r.i
  else if off = 0x02D00300 then opMhz r.i + 65536 * opMv r.i
  else if off = 0x02E00010 then [0x001FFFE1, 0x0800F800, 0x007FFF80, 0x007FFF80].getD r.i 0
  else if off = 0x02E00014 then [0x00000006, 0x00000200, 0x00000004, 0x00000010].getD r.i 0
  else if off = 0x02E00200 then b.sofs.getD r.i 0 % 256
  else if off = 0x02E00280 then b.trim.getD r.i 0 % 256
  else if off = 0x02F00100 then 16 * b2n b.pairRank
  else if off = 0x03008000 then min (256 * r.j) 65535
  else if off = 0x00300000 then (if r.j = 3 then 1 else 0)
  else r.row.reset

/-- The reset value read at an offset: 0 where nothing stands there (R3, R27). -/
def resetVal (b : Board) (off : Nat) : Word :=
  match findReg off with
  | none => 0
  | some r => if present b.variant r.row.kind r.i then BitVec.ofNat 32 (resetNat b r) else 0

end Sys2Proof.Machine
end

