-- ==== Sys2Proof/Machine/Package.lean ====
section
/-!
DEFINITION. The package: row names, the ball map, the balls a W0648 does not connect, the boundary-scan cells, the supplies, their groups and
their ranges (R448 to R458, R473). Positions are a row index and a column, each from 1 to 68.
-/
namespace Sys2Proof.Machine

/-- Supply rails (R456). -/
inductive Rail where
  | cd (die : Nat)
  | xd | ret | sds | sdt | ddq | vpp | io18 | io33 | pll | vbat
  deriving DecidableEq, Repr

/-- Signals of a DDR-4 channel (R453). -/
inductive DdrPin where
  | dq (bit : Nat) | dqs (byteLane : Nat) (upper neg : Bool) | ck (rank : Nat) (neg : Bool)
  | addr (bit : Nat) | ba (bit : Nat) | bg (bit : Nat) | cs (rank : Nat) | cke (rank : Nat) | odt (rank : Nat)
  | act | par | alert | drst
  deriving DecidableEq, Repr

/-- Signals of a print port (R454). -/
inductive HpPin where
  | data (bit : Nat) | wave (bit : Nat) | sclk | latch | fire | heatOk
  deriving DecidableEq, Repr

/-- Signals of an area-camera port (R454). -/
inductive PpPin where
  | data (bit : Nat) | pclk | hsync | vsync | de
  deriving DecidableEq, Repr

/-- Kinds of numbered pins (R454). -/
inductive IoKind where
  | encA | encAN | encB | encBN | encZ | encZN | absMa | absSlo | sw | sdi | sdck | trig | rej | stb | ppTrig | lvl | twScl | twSda
  | strapBoot | qspiDq
  deriving DecidableEq, Repr

/-- Pins of which there is one (R452, R454). -/
inductive OnePin where
  | perst | pcieRefclk | pcieRefclkN | fsync | pairHbo | pairHbi | dclCk | dclD | dclRck | dclRd | tw0Alert
  | refSys | refSysN | refEvt | refTs | xtal32In | xtal32Out | porst | wrst | strapTsSrc | strapPairRank
  | tck | tms | tdi | tdo | trst | qspiClk | qspiCs
  deriving DecidableEq, Repr

/-- What a ball carries. `neg` marks the N ball of a pair; serial lanes have the numbers of the LANE block (R107). -/
inductive Ball where
  | absent | vss
  | rail (r : Rail)
  | cx (lane : Nat) (neg : Bool) | cxUp (lane : Nat)
  | pcie (lane : Nat) (rx neg : Bool)
  | serial (lane : Nat) (rx neg : Bool)
  | ddr (ch : Nat) (p : DdrPin) | hp (port : Nat) (p : HpPin) | pp (port : Nat) (p : PpPin)
  | io (k : IoKind) (n : Nat) | one (p : OnePin)
  deriving DecidableEq, Repr

/-! ### Names of rows (R449) -/

/-- The letters of row names, in order. -/
def rowLetters : List Char :=
  ['A', 'B', 'C', 'D', 'E', 'F', 'G', 'H', 'J', 'K', 'L', 'M', 'N', 'P', 'T', 'U', 'V', 'W', 'Y']

/-- Name of the row with index `row`. -/
def rowName (row : Nat) : List Char :=
  let i := row - 1
  let last := (rowLetters.drop (i % 19)).take 1
  if i < 19 then last else (rowLetters.drop (i / 19 - 1)).take 1 ++ last

/-- Index of the row with a name. -/
def rowIndex (name : List Char) : Option Nat := (List.range' 1 68).find? (fun r => rowName r == name)

/-! ### The map (R450 to R454) -/

/-- The depopulated 2 × 2 corners (R448). -/
def cornerAbsent (row col : Nat) : Bool := (row ≤ 2 || 67 ≤ row) && (col ≤ 2 || 67 ≤ col)

/-- Fields F1 to F8 (R450). -/
def fieldOf (row col : Nat) : Nat :=
  if row ≤ 8 then 1 else if 61 ≤ row then 2 else if col ≤ 8 then 3 else if 61 ≤ col then 4
  else if row ≤ 22 then 5 else if 47 ≤ row then 6 else if row ≤ 26 || 43 ≤ row then 7 else 8

/-- F1 and F2: `d` counts rows from the package edge, from 0; `first` is the first lane of the field (R451). -/
def ballCx (d first col : Nat) : Ball :=
  let k := fun (x : Nat) => first + 12 * (d / 2) + x / 5
  if col < 5 || 65 ≤ col then .rail .sdt
  else if d % 2 = 0 then
    if 6 ≤ col && col < 66 && (col - 6) % 5 == 0 && (col - 6) / 5 < 12 then .cx (k (col - 6)) false
    else if 7 ≤ col && (col - 7) % 5 == 0 && (col - 7) / 5 < 12 then .cx (k (col - 7)) true
    else .vss
  else if 6 ≤ col && (col - 6) % 5 == 0 && (col - 6) / 5 < 12 then .cxUp (k (col - 6))
  else if 8 ≤ col && (col - 8) % 5 == 0 && (col - 8) / 5 < 12 then .rail .sds
  else .vss

/-- Lanes of F3 and F4: `x` counts columns from the package edge, from 1; `lanes` is the number of lanes there, `sds` the first of the two columns
with VDD_SDS (R452). -/
def ballLane (lane : Nat → Bool → Bool → Ball) (lanes sds row x : Nat) : Ball :=
  let m := (row - 10) / 6
  let r := (row - 10) % 6
  if row < 10 || lanes ≤ 2 * m then .vss
  else if r = 1 then (if x = sds ∨ x = sds + 1 then .rail .sds else .vss)
  else if r = 0 ∨ r = 2 then
    if 2 ≤ x && (x - 2) % 4 < 2 && (x - 2) / 4 < 2 then lane (2 * m + (x - 2) / 4) (r == 2) ((x - 2) % 4 == 1) else .vss
  else .vss

/-- The 36 command and address signals of a channel, in order (R453). -/
def ddrSignals : List DdrPin := List.flatten [
  [.ck 0 false, .ck 0 true, .ck 1 false, .ck 1 true], (List.range 18).map .addr, [.ba 0, .ba 1, .bg 0, .bg 1, .act, .cs 0, .cs 1],
  [.cke 0, .cke 1, .odt 0, .odt 1, .par, .alert, .drst]]

/-- Row `u` from the package edge and column `v` of a channel's field (R453). DQ[64] to DQ[71] are CB0 to CB7. -/
def ballDdr (c u v : Nat) : Ball :=
  if u < 9 then
    if v < 4 then .ddr c (.dq (8 * u + v))
    else if v < 6 then .ddr c (.dqs u false (v == 5))
    else if v < 10 then .ddr c (.dq (8 * u + v - 2))
    else if v < 12 then .ddr c (.dqs u true (v == 11))
    else .vss
  else if u < 12 then ((ddrSignals[13 * (u - 9) + v]?).map (.ddr c)).getD .vss
  else if u = 13 ∧ v = 12 then .rail .vpp
  else if v % 2 = 0 then .rail .ddq else .vss

/-- A print port in column `v` of its part: rows 23 and 46 are the outer rows, 24 and 45 the inner ones (R454). -/
def ballHp (port v : Nat) (outer : Bool) : Ball :=
  if outer then
    if 1 ≤ v && v ≤ 8 then .hp port (.data (v - 1)) else if v = 10 then .hp port .sclk else if v = 12 then .hp port .latch else .vss
  else if v = 1 then .hp port .fire
  else if 3 ≤ v && v ≤ 6 then .hp port (.wave (v - 3))
  else if v = 7 then .hp port .heatOk
  else .vss

/-- Pins 0 to `n` - 1 of a kind, one per column. -/
def pins (k : IoKind) (n : Nat) : List Ball := (List.range n).map (.io k)

/-- Row 25 of F7, from column 9 (R454). -/
def row25 : List Ball := List.flatten [
  (List.range 4).flatMap (fun n => [.io .encA n, .io .encAN n, .io .encB n, .io .encBN n, .io .encZ n, .io .encZN n]),
  [.io .absMa 0, .io .absSlo 0, .io .absMa 1, .io .absSlo 1], pins .sw 8, pins .sdi 16]

/-- Row 26 of F7, from column 9 (R454). -/
def row26 : List Ball := List.flatten [
  pins .trig 12, pins .rej 4, pins .stb 8, pins .ppTrig 2, pins .lvl 2, pins .sdck 4,
  [.one .fsync, .one .pairHbo, .one .pairHbi, .one .dclCk, .one .dclD, .one .dclRck, .one .dclRd],
  [.io .twScl 0, .io .twSda 0, .one .tw0Alert, .io .twScl 1, .io .twSda 1, .io .twScl 2, .io .twSda 2, .io .twScl 3, .io .twSda 3],
  List.replicate 4 (.rail .io33)]

/-- Row 43 of F7, columns 9 to 33 (R454). -/
def row43 : List Ball := List.flatten [
  [.one .refSys, .one .refSysN, .vss, .one .refEvt, .vss, .one .refTs, .vss, .one .xtal32In, .one .xtal32Out, .rail .vbat],
  [.one .porst, .one .wrst, .one .strapTsSrc, .one .strapPairRank, .io .strapBoot 0, .io .strapBoot 1],
  [.one .tck, .one .tms, .one .tdi, .one .tdo, .one .trst], List.replicate 4 (.rail .pll)]

/-- Row 44 of F7, from column 9 (R454). -/
def row44 : List Ball := List.flatten [
  (List.range 2).flatMap (fun p => List.flatten [(List.range 16).map (fun b => .pp p (.data b)),
    [.pp p .pclk, .pp p .hsync, .pp p .vsync, .pp p .de]]),
  [.one .qspiClk, .one .qspiCs], pins .qspiDq 4, List.replicate 6 (.rail .io33)]

/-- F7 (R454). -/
def ballF7 (row col : Nat) : Ball :=
  let x := col - 9
  if row = 23 then ballHp (x / 13) (x % 13) true
  else if row = 24 then ballHp (x / 13) (x % 13) false
  else if row = 25 then (row25[x]?).getD .vss
  else if row = 26 then (row26[x]?).getD .vss
  else if row = 43 then (row43[x]?).getD (if col % 2 = 0 then .rail .io18 else .vss)
  else if row = 44 then (row44[x]?).getD .vss
  else if row = 45 then ballHp (4 + x / 13) (x % 13) false
  else ballHp (4 + x / 13) (x % 13) true

/-- F8: a position whose row and column sum is odd carries the supply of its part (R454). -/
def ballF8 (row col : Nat) : Ball :=
  let below := if 35 ≤ row then 2 else 0
  if (row + col) % 2 = 0 then .vss
  else if col ≤ 27 then .rail (.cd below)
  else if 42 ≤ col then .rail (.cd (below + 1))
  else if col = 28 ∨ col = 41 then .rail .ret
  else .rail .xd

/-- What the ball at a position carries; a position no rule assigns is VSS (R450). -/
def ballAt (row col : Nat) : Ball :=
  if row < 1 || 68 < row || col < 1 || 68 < col || cornerAbsent row col then .absent
  else match fieldOf row col with
  | 1 => if (col ≤ 4 || 65 ≤ col) && col % 2 == 0 then .vss else ballCx (row - 1) 0 col
  | 2 => if (col ≤ 4 || 65 ≤ col) && col % 2 == 0 then .vss else ballCx (68 - row) 48 col
  | 3 =>
    if row = 58 ∧ (col = 2 ∨ col = 3) then .one (if col = 2 then .pcieRefclk else .pcieRefclkN)
    else if row = 58 ∧ col = 6 then .one .perst
    else ballLane .pcie 16 4 row col
  | 4 => ballLane (fun l => .serial (96 + l)) 18 5 row (69 - col)
  | 5 => ballDdr ((col - 9) / 13) (row - 9) ((col - 9) % 13)
  | 6 => ballDdr (4 + (col - 9) / 13) (60 - row) ((col - 9) % 13)
  | 7 => ballF7 row col
  | _ => ballF8 row col

/-- Is a ball left without an internal connection on the W0648 wherever it stands (R455)? -/
def openOnSmall : Ball → Bool
  | .cx k _ | .cxUp k => 48 ≤ k
  | .pcie l _ _ => 8 ≤ l
  | .serial l _ _ => 104 ≤ l && l < 112
  | .ddr c _ | .hp c _ => 4 ≤ c
  | .pp p _ => p == 1
  | .io .sdi n => 8 ≤ n
  | .rail (.cd d) => 2 ≤ d
  | _ => false

/-- Is the ball at a position connected inside the package (R455)? On the W0648 the whole of F6 is not. -/
def ballConnected (v : Variant) (row col : Nat) : Bool :=
  ballAt row col != .absent &&
    match v with
    | .w1296 => true
    | .w0648 => fieldOf row col != 6 && !openOnSmall (ballAt row col)

/-- Does a ball carry a boundary-scan cell (R473)? Every signal ball does but the CML lanes, three clocks and VBAT. -/
def scanCell : Ball → Bool
  | .cxUp _ | .ddr .. | .hp .. | .pp .. | .io .. => true
  | .one p => !([OnePin.pcieRefclk, .pcieRefclkN, .refSys, .refSysN, .xtal32In, .xtal32Out].contains p)
  | .absent | .vss | .rail _ | .cx .. | .pcie .. | .serial .. => false

/-! ### Supplies (R456 to R458) -/

/-- Operating range of a supply in µV, where `op` is the operating point of the die for its own rail (R407, R456). -/
def railRange (op : Nat) : Rail → Nat × Nat
  | .cd _ => (opMv op * 980, opMv op * 1030)
  | .xd => (776000, 824000)
  | .ret => (728000, 773000)
  | .sds => (873000, 927000)
  | .sdt => (1164000, 1236000)
  | .ddq => (1140000, 1260000)
  | .vpp => (2375000, 2750000)
  | .io18 => (1710000, 1890000)
  | .io33 => (3135000, 3465000)
  | .pll => (1746000, 1854000)
  | .vbat => (2000000, 3600000)

/-- Largest voltage in mV that a supply withstands; each withstands 300 mV below 0 too (R457). -/
def railStress : Rail → Nat
  | .cd _ | .xd | .ret => 1000
  | .sds => 1100
  | .sdt | .ddq => 1500
  | .vpp => 3000
  | .io18 | .pll => 2100
  | .io33 => 3900
  | .vbat => 4000

/-- Group in which a supply comes up: 1 to 3, or none for the die rails, which follow group 2, and VBAT (R458, R459). -/
def railGroup : Rail → Option Nat
  | .io18 | .io33 | .pll => some 1
  | .xd | .ret | .sds => some 2
  | .vpp | .sdt | .ddq => some 3
  | .cd _ | .vbat => none

/-- May a supply start once those of `up` have reached 90 % of their nominal value (R458, R459)? VPP leads VDD_SDT and VDDQ. -/
def railMayStart (r : Rail) (up : List Rail) : Bool :=
  let g1 := [Rail.io18, .io33, .pll].all up.contains
  let g2 := [Rail.xd, .ret, .sds].all up.contains
  match r with
  | .io18 | .io33 | .pll | .vbat => true
  | .xd | .ret | .sds => g1
  | .vpp => g1 && g2
  | .sdt | .ddq => g1 && g2 && up.contains .vpp
  | .cd _ => g1 && g2

end Sys2Proof.Machine
end

