-- ==== Sys2Proof/Machine/Fields.lean ====
section
/-!
DEFINITION. The names of the registers: `R.X i` is the BAR0 offset of register `X`, instance `i` (R474, R66, R89, R106, R135,
R158, R181, R212, R245, R271, R283, R303, R316, R333, R353, R377, R393, R418, R447); `F.X_FIELD i` is its field.
-/
namespace Sys2Proof.Machine

/-- A bit field of a register: BAR0 offset, lowest bit, width. -/
structure Fld where
  /-- BAR0 offset of the register. -/
  off : Nat
  /-- Lowest bit of the field. -/
  lo  : Nat
  /-- Width in bits. -/
  w   : Nat
  deriving DecidableEq, Repr

namespace R
def TOP_ID : Nat := 0x00000000
def TOP_CAPS : Nat := 0x00000004
def TOP_DEVID : Nat := 0x00000008
def TOP_READY : Nat := 0x0000000C
def TOP_READY_IO : Nat := 0x00000010
def TOP_FAULT_SUM : Nat := 0x00000020
def TOP_ACC_ERR : Nat := 0x00000024
def CFG_CTL : Nat := 0x00100000
def CFG_STAT : Nat := 0x00100004
def CFG_ERR_OFS : Nat := 0x00100008
def CFG_STAGE_BASE_LO : Nat := 0x0010000C
def CFG_STAGE_BASE_HI : Nat := 0x00100010
def CFG_STRUCT_ID : Nat := 0x00100014
def CFG_BUILD_LO : Nat := 0x00100018
def CFG_BUILD_HI : Nat := 0x0010001C
def CFG_BANK : Nat := 0x00100020
def CFG_JOBA : Nat := 0x00100024
def CFG_JOBB : Nat := 0x00100028
def CFG_SWAP_POS : Nat := 0x00100030
def CFG_SWAP_CTL : Nat := 0x00100034
def CFG_SWAP_MARGIN : Nat := 0x00100038
def CFG_SWAP_CAP_POS : Nat := 0x00100040
def CFG_SWAP_CAP_TS : Nat := 0x00100044
def CFG_SWAP_CNT : Nat := 0x00100048
def CFG_REJ_CNT : Nat := 0x0010004C
def CFG_SIG_SLOT : Nat := 0x00100050
def ENC_CTL (n : Nat) : Nat := 0x02400000 + n * 0x100
def ENC_POS (n : Nat) : Nat := 0x02400004 + n * 0x100
def ENC_STAT (n : Nat) : Nat := 0x02400008 + n * 0x100
def ENC_QERR_CNT (n : Nat) : Nat := 0x0240000C + n * 0x100
def ENC_IDX_CAP (n : Nat) : Nat := 0x02400010 + n * 0x100
def ENC_IDX_ERR (n : Nat) : Nat := 0x02400014 + n * 0x100
def ENC_IDX_PERIOD (n : Nat) : Nat := 0x02400018 + n * 0x100
def ENC_IDX_CFG (n : Nat) : Nat := 0x0240001C + n * 0x100
def ENC_PERIOD (n : Nat) : Nat := 0x02400020 + n * 0x100
def ENC_EPOCH (n : Nat) : Nat := 0x02400024 + n * 0x100
def CU_CTL (n : Nat) : Nat := 0x02401000 + n * 0x40
def CU_SPACING (n : Nat) : Nat := 0x02401004 + n * 0x40
def CU_NEXT_INT (n : Nat) : Nat := 0x02401008 + n * 0x40
def CU_NEXT_FRAC (n : Nat) : Nat := 0x0240100C + n * 0x40
def CU_HIT_POS (n : Nat) : Nat := 0x02401010 + n * 0x40
def CU_HIT_TS (n : Nat) : Nat := 0x02401014 + n * 0x40
def CU_HIT_FRAC (n : Nat) : Nat := 0x02401018 + n * 0x40
def CU_STAT (n : Nat) : Nat := 0x0240101C + n * 0x40
def CU_SPACING_HI (n : Nat) : Nat := 0x02401020 + n * 0x40
def ABS_CTL (n : Nat) : Nat := 0x02402000 + n * 0x40
def ABS_POS (n : Nat) : Nat := 0x02402004 + n * 0x40
def ABS_TS (n : Nat) : Nat := 0x02402008 + n * 0x40
def ABS_STAT (n : Nat) : Nat := 0x0240200C + n * 0x40
def SW_CTL : Nat := 0x02403000
def SW_STAT : Nat := 0x02403004
def SW_CAP (n : Nat) : Nat := 0x02403010 + n * 0x4
def EVT_SRC0 (c : Nat) : Nat := 0x02500000 + c * 0x20
def EVT_SRC1 (c : Nat) : Nat := 0x02500004 + c * 0x20
def EVT_SRC2 (c : Nat) : Nat := 0x02500008 + c * 0x20
def EVT_CFG (c : Nat) : Nat := 0x0250000C + c * 0x20
def EVT_ACT (c : Nat) : Nat := 0x02500010 + c * 0x20
def EVT_LOSS (c : Nat) : Nat := 0x02500014 + c * 0x20
def EVT_INFO : Nat := 0x02501000
def EVT_GATE : Nat := 0x02501004
def EVT_CAP_TS (n : Nat) : Nat := 0x02502000 + n * 0x20
def EVT_CAP_POS0 (n : Nat) : Nat := 0x02502004 + n * 0x20
def EVT_CAP_POS1 (n : Nat) : Nat := 0x02502008 + n * 0x20
def EVT_CAP_POS2 (n : Nat) : Nat := 0x0250200C + n * 0x20
def EVT_CAP_POS3 (n : Nat) : Nat := 0x02502010 + n * 0x20
def EVT_CAP_SEQ (n : Nat) : Nat := 0x02502014 + n * 0x20
def LANE_CTL (i : Nat) : Nat := 0x00400000 + i * 0x100
def LANE_STAT (i : Nat) : Nat := 0x00400004 + i * 0x100
def LANE_ERR (i : Nat) : Nat := 0x00400008 + i * 0x100
def LANE_EQ (i : Nat) : Nat := 0x0040000C + i * 0x100
def LANE_EYE_CTL (i : Nat) : Nat := 0x00400010 + i * 0x100
def LANE_EYE_RES (i : Nat) : Nat := 0x00400014 + i * 0x100
def LANE_PRBS_ERR (i : Nat) : Nat := 0x00400018 + i * 0x100
def LANE_FEC (i : Nat) : Nat := 0x0040001C + i * 0x100
def CAM_LINK (n : Nat) : Nat := 0x00408000 + n * 0x20
def NP_CTL (p : Nat) : Nat := 0x00600000 + p * 0x100
def NP_STAT (p : Nat) : Nat := 0x00600004 + p * 0x100
def NP_MAP (p : Nat) : Nat := 0x00600008 + p * 0x100
def NP_CNT (p : Nat) : Nat := 0x0060000C + p * 0x100
def NP_CREDIT (p : Nat) : Nat := 0x00600010 + p * 0x100
def NIM_ROUTE (k : Nat) : Nat := 0x00601000 + k * 0x4
def NIM_NOROUTE : Nat := 0x00601040
def ING_CTL (n : Nat) : Nat := 0x00800000 + n * 0x100
def ING_STAT (n : Nat) : Nat := 0x00800004 + n * 0x100
def ING_GEOM (n : Nat) : Nat := 0x00800008 + n * 0x100
def ING_FMT (n : Nat) : Nat := 0x0080000C + n * 0x100
def ING_CNT0 (n : Nat) : Nat := 0x00800010 + n * 0x100
def ING_CNT1 (n : Nat) : Nat := 0x00800014 + n * 0x100
def ING_CNT2 (n : Nat) : Nat := 0x00800018 + n * 0x100
def ING_CNT3 (n : Nat) : Nat := 0x0080001C + n * 0x100
def ING_SEQ (n : Nat) : Nat := 0x00800020 + n * 0x100
def ING_ROWDLY (n : Nat) : Nat := 0x00800024 + n * 0x100
def ING_LAT (n : Nat) : Nat := 0x00800028 + n * 0x100
def ING_DEFCNT (n : Nat) : Nat := 0x0080002C + n * 0x100
def ING_CM0 (n : Nat) : Nat := 0x00800030 + n * 0x100
def ING_CM1 (n : Nat) : Nat := 0x00800034 + n * 0x100
def ING_CM2 (n : Nat) : Nat := 0x00800038 + n * 0x100
def ING_CM3 (n : Nat) : Nat := 0x0080003C + n * 0x100
def ING_CM4 (n : Nat) : Nat := 0x00800040 + n * 0x100
def ING_CMOFS0 (n : Nat) : Nat := 0x00800044 + n * 0x100
def ING_CMOFS1 (n : Nat) : Nat := 0x00800048 + n * 0x100
def ING_FLUX_REF (n : Nat) : Nat := 0x00800050 + n * 0x100
def ING_FLUX_LIM (n : Nat) : Nat := 0x00800054 + n * 0x100
def ING_FLUX_TIME (n : Nat) : Nat := 0x00800058 + n * 0x100
def ING_FLUX_FACT (n : Nat) : Nat := 0x0080005C + n * 0x100
def ING_DARK_MEAS0 (n : Nat) : Nat := 0x00800060 + n * 0x100
def ING_DARK_REF0 (n : Nat) : Nat := 0x00800068 + n * 0x100
def ING_DARK_OFS0 (n : Nat) : Nat := 0x00800070 + n * 0x100
def ING_DARK_MEAS1 (n : Nat) : Nat := 0x00800064 + n * 0x100
def ING_DARK_REF1 (n : Nat) : Nat := 0x0080006C + n * 0x100
def ING_DARK_OFS1 (n : Nat) : Nat := 0x00800074 + n * 0x100
def STI_CTL : Nat := 0x00A00000
def STI_STAT : Nat := 0x00A00004
def STI_WIDTH : Nat := 0x00A00008
def STI_SLINE : Nat := 0x00A0000C
def STI_REG_CFG0 : Nat := 0x00A00010
def STI_REG_CFG1 : Nat := 0x00A00014
def STI_REG_CFG2 : Nat := 0x00A00018
def STI_REG_MINVAR : Nat := 0x00A0001C
def STI_UMAP_CTL : Nat := 0x00A00020
def STI_OUTCOME : Nat := 0x00A00024
def STI_CAM_GEOM (n : Nat) : Nat := 0x00A01000 + n * 0x40
def STI_CAM_X0 (n : Nat) : Nat := 0x00A01004 + n * 0x40
def STI_CAM_OFS (n : Nat) : Nat := 0x00A01008 + n * 0x40
def STI_CAM_SPAN0 (n : Nat) : Nat := 0x00A0100C + n * 0x40
def STI_CAM_SPAN1 (n : Nat) : Nat := 0x00A01010 + n * 0x40
def STI_CAM_SLOT (n : Nat) : Nat := 0x00A01014 + n * 0x40
def STI_CAM_CNT (n : Nat) : Nat := 0x00A01018 + n * 0x40
def STI_CAM_STAT (n : Nat) : Nat := 0x00A0101C + n * 0x40
def STI_SEAM_CFG (s : Nat) : Nat := 0x00A02000 + s * 0x40
def STI_SEAM_WIN (s : Nat) : Nat := 0x00A02004 + s * 0x40
def STI_SEAM_MEAS (s : Nat) : Nat := 0x00A02008 + s * 0x40
def STI_SEAM_EST (s : Nat) : Nat := 0x00A0200C + s * 0x40
def STI_SEAM_CAND (s : Nat) : Nat := 0x00A02010 + s * 0x40
def STI_SEAM_SEED (s : Nat) : Nat := 0x00A02014 + s * 0x40
def STI_SEAM_SCORE (s : Nat) : Nat := 0x00A02018 + s * 0x40
def STI_SEAM_CNT (s : Nat) : Nat := 0x00A0201C + s * 0x40
def VG_INFO (n : Nat) : Nat := 0x01000000 + n * 0x200000
def VG_STAT (n : Nat) : Nat := 0x01000004 + n * 0x200000
def VG_LOAD (n : Nat) : Nat := 0x01000008 + n * 0x200000
def VG_BLOCK (n : Nat) : Nat := 0x0100000C + n * 0x200000
def VG_REPLAY_CNT (n : Nat) : Nat := 0x01000010 + n * 0x200000
def VG_ECC_CNT (n : Nat) : Nat := 0x01000014 + n * 0x200000
def VG_LBL_CNT (n : Nat) : Nat := 0x01000018 + n * 0x200000
def VG_VU_MAP (n : Nat) (j : Nat) : Nat := 0x01001000 + n * 0x200000 + j * 0x10
def VG_VU_ASSIGN0 (n : Nat) (j : Nat) : Nat := 0x01001004 + n * 0x200000 + j * 0x10
def VG_VU_ASSIGN1 (n : Nat) (j : Nat) : Nat := 0x01001008 + n * 0x200000 + j * 0x10
def VG_VU_CYC (n : Nat) (j : Nat) : Nat := 0x0100100C + n * 0x200000 + j * 0x10
def VG_PU_STAT (n : Nat) (k : Nat) : Nat := 0x01002000 + n * 0x200000 + k * 0x4
def SEG_CTL : Nat := 0x02000000
def SEG_STAT : Nat := 0x02000004
def SEG_OBJ_LIVE : Nat := 0x02000008
def SEG_OBJ_NEXT_LO : Nat := 0x0200000C
def SEG_OBJ_NEXT_HI : Nat := 0x02000010
def SEG_REC_CNT : Nat := 0x02000014
def SEG_LOSS_CNT : Nat := 0x02000018
def SEG_MREG_CFG0 : Nat := 0x0200001C
def SEG_MREG_CFG1 : Nat := 0x02000020
def SEG_REPEAT_ORG : Nat := 0x02000024
def SEG_REPEAT_ADJ : Nat := 0x02000028
def SEG_CROP_CTL : Nat := 0x0200002C
def SEG_CROP_BASE_LO : Nat := 0x02000030
def SEG_CROP_BASE_HI : Nat := 0x02000034
def SEG_CROP_WR : Nat := 0x02000038
def SEG_CROP_RD : Nat := 0x0200003C
def SEG_SPILL_CTL : Nat := 0x02000040
def SEG_ETH_CTL : Nat := 0x02000044
def SEG_ETH_DST_LO : Nat := 0x02000048
def SEG_ETH_DST_HI : Nat := 0x0200004C
def SEG_REJ_CNT : Nat := 0x02000050
def SEG_ROUTE (r : Nat) : Nat := 0x02000080 + r * 0x4
def SEG_TILE (t : Nat) : Nat := 0x02010000 + t * 0x4
def HP_CTL (n : Nat) : Nat := 0x02200000 + n * 0x100
def HP_STAT (n : Nat) : Nat := 0x02200004 + n * 0x100
def HP_TIM0 (n : Nat) : Nat := 0x02200008 + n * 0x100
def HP_TIM1 (n : Nat) : Nat := 0x0220000C + n * 0x100
def HP_CNT (n : Nat) : Nat := 0x02200010 + n * 0x100
def HP_FIRED (n : Nat) : Nat := 0x02200014 + n * 0x100
def HP_LBL (n : Nat) : Nat := 0x02200018 + n * 0x100
def HP_REP_WR (n : Nat) : Nat := 0x0220001C + n * 0x100
def HP_LS (n : Nat) : Nat := 0x02200020 + n * 0x100
def HP_ORG_ADJ (n : Nat) : Nat := 0x02200024 + n * 0x100
def HP_WS (n : Nat) : Nat := 0x02200028 + n * 0x100
def HP_NMAP0 (n : Nat) : Nat := 0x0220002C + n * 0x100
def HP_NMAP1 (n : Nat) : Nat := 0x02200030 + n * 0x100
def HP_NZ_CFG0 (n : Nat) : Nat := 0x02200034 + n * 0x100
def HP_NZ_CFG1 (n : Nat) : Nat := 0x02200038 + n * 0x100
def HP_TK_CNT (n : Nat) : Nat := 0x0220003C + n * 0x100
def HP_TK_CMD (n : Nat) : Nat := 0x02200040 + n * 0x100
def HP_SH_CTL (n : Nat) : Nat := 0x02200044 + n * 0x100
def HP_SH_START (n : Nat) : Nat := 0x02200048 + n * 0x100
def HP_SH_LIM (n : Nat) : Nat := 0x0220004C + n * 0x100
def HP_SH_ABS (n : Nat) : Nat := 0x02200050 + n * 0x100
def HP_FEED_X (n : Nat) (f : Nat) : Nat := 0x02200080 + n * 0x100 + f * 0x8
def HP_FEED_M (n : Nat) (f : Nat) : Nat := 0x02200084 + n * 0x100 + f * 0x8
def PP_CTL (n : Nat) : Nat := 0x03000000 + n * 0x40
def PP_GEOM (n : Nat) : Nat := 0x03000004 + n * 0x40
def PP_BUF0 (n : Nat) : Nat := 0x03000008 + n * 0x40
def PP_BUF1 (n : Nat) : Nat := 0x0300000C + n * 0x40
def PP_STAT (n : Nat) : Nat := 0x03000010 + n * 0x40
def PP_CNT (n : Nat) : Nat := 0x03000014 + n * 0x40
def PP_FRAMES (n : Nat) : Nat := 0x03000018 + n * 0x40
def ISP_CTL : Nat := 0x03001000
def ISP_STAT : Nat := 0x03001004
def ISP_CTX_CTL (c : Nat) : Nat := 0x03002000 + c * 0x100
def ISP_CTX_BLK (c : Nat) : Nat := 0x03002004 + c * 0x100
def ISP_CTX_WB0 (c : Nat) : Nat := 0x03002008 + c * 0x100
def ISP_CTX_WB1 (c : Nat) : Nat := 0x0300200C + c * 0x100
def ISP_CTX_CM0 (c : Nat) : Nat := 0x03002010 + c * 0x100
def ISP_CTX_CM1 (c : Nat) : Nat := 0x03002014 + c * 0x100
def ISP_CTX_CM2 (c : Nat) : Nat := 0x03002018 + c * 0x100
def ISP_CTX_CM3 (c : Nat) : Nat := 0x0300201C + c * 0x100
def ISP_CTX_CM4 (c : Nat) : Nat := 0x03002020 + c * 0x100
def ISP_CTX_CROP0 (c : Nat) : Nat := 0x03002024 + c * 0x100
def ISP_CTX_CROP1 (c : Nat) : Nat := 0x03002028 + c * 0x100
def ISP_CTX_OUTB (c : Nat) : Nat := 0x0300202C + c * 0x100
def ISP_CTX_SLOT (c : Nat) : Nat := 0x03002030 + c * 0x100
def ISP_CTX_WR (c : Nat) : Nat := 0x03002034 + c * 0x100
def ISP_CTX_RD (c : Nat) : Nat := 0x03002038 + c * 0x100
def TIME_CTL : Nat := 0x02600000
def TIME_STAT : Nat := 0x02600004
def TIME_NOW_LO : Nat := 0x02600008
def TIME_NOW_HI : Nat := 0x0260000C
def TIME_NOW_FRAC : Nat := 0x02600010
def TIME_STEP_LO : Nat := 0x02600014
def TIME_STEP_HI : Nat := 0x02600018
def TIME_RATE : Nat := 0x0260001C
def TIME_ADJ_RATE : Nat := 0x02600020
def TIME_ADJ_TICKS : Nat := 0x02600024
def TIME_UP_OFS_LO : Nat := 0x02600028
def TIME_UP_OFS_HI : Nat := 0x0260002C
def TIME_UP_DLY : Nat := 0x02600030
def TIME_UP_CNT : Nat := 0x02600034
def TIME_EP_LAT (n : Nat) : Nat := 0x02600100 + n * 0x40
def TIME_EP_PTP (n : Nat) : Nat := 0x02600104 + n * 0x40
def TIME_EP_LCTL (n : Nat) : Nat := 0x02600108 + n * 0x40
def TIME_EP_LSTAT (n : Nat) : Nat := 0x0260010C + n * 0x40
def TIME_EP_LCNT (n : Nat) : Nat := 0x02600110 + n * 0x40
def RTC_SEC_LO : Nat := 0x02600200
def RTC_SEC_HI : Nat := 0x02600204
def RTC_CTL : Nat := 0x02600208
def RTC_SET_LO : Nat := 0x0260020C
def RTC_SET_HI : Nat := 0x02600210
def RTC_STAT : Nat := 0x02600214
def SDF_CTL : Nat := 0x02700000
def SDF_STAT : Nat := 0x02700004
def SDF_GRP_CTL (g : Nat) : Nat := 0x02700100 + g * 0x10
def SDF_GRP_PER (g : Nat) : Nat := 0x02700104 + g * 0x10
def SDF_GRP_STAT (g : Nat) : Nat := 0x02700108 + g * 0x10
def SDF_CH_CTL (n : Nat) : Nat := 0x02701000 + n * 0x40
def SDF_CH_SH (n : Nat) : Nat := 0x02701004 + n * 0x40
def SDF_CH_FIR (n : Nat) : Nat := 0x02701008 + n * 0x40
def SDF_CH_GD (n : Nat) : Nat := 0x0270100C + n * 0x40
def SDF_CH_DATA (n : Nat) : Nat := 0x02701010 + n * 0x40
def SDF_CH_TS (n : Nat) : Nat := 0x02701014 + n * 0x40
def SDF_CH_SEQ (n : Nat) : Nat := 0x02701018 + n * 0x40
def SDF_CH_STAT (n : Nat) : Nat := 0x0270101C + n * 0x40
def DMC_CFG : Nat := 0x02800000
def DMC_INSTALLED : Nat := 0x02800004
def DMC_CH_CFG (c : Nat) : Nat := 0x02801000 + c * 0x100
def DMC_CH_CTL (c : Nat) : Nat := 0x02801004 + c * 0x100
def DMC_CH_STAT (c : Nat) : Nat := 0x02801008 + c * 0x100
def DMC_CH_TIM0 (c : Nat) : Nat := 0x0280100C + c * 0x100
def DMC_CH_TIM1 (c : Nat) : Nat := 0x02801010 + c * 0x100
def DMC_CH_TIM2 (c : Nat) : Nat := 0x02801014 + c * 0x100
def DMC_CH_MR0 (c : Nat) : Nat := 0x02801018 + c * 0x100
def DMC_CH_MR1 (c : Nat) : Nat := 0x0280101C + c * 0x100
def DMC_CH_MR2 (c : Nat) : Nat := 0x02801020 + c * 0x100
def DMC_CH_MR3 (c : Nat) : Nat := 0x02801024 + c * 0x100
def DMC_CH_MR4 (c : Nat) : Nat := 0x02801028 + c * 0x100
def DMC_CH_MR5 (c : Nat) : Nat := 0x0280102C + c * 0x100
def DMC_CH_MR6 (c : Nat) : Nat := 0x02801030 + c * 0x100
def DMC_CH_ECC_CNT (c : Nat) : Nat := 0x02801034 + c * 0x100
def DMC_CH_ERR_ADDR_LO (c : Nat) : Nat := 0x02801038 + c * 0x100
def DMC_CH_ERR_ADDR_HI (c : Nat) : Nat := 0x0280103C + c * 0x100
def DMC_CH_ERR_SYN (c : Nat) : Nat := 0x02801040 + c * 0x100
def DMC_CH_SCRUB (c : Nat) : Nat := 0x02801044 + c * 0x100
def DMC_CH_SPARE (c : Nat) : Nat := 0x02801048 + c * 0x100
def DMC_CH_USE (c : Nat) : Nat := 0x0280104C + c * 0x100
def DMC_RT_CFG (p : Nat) : Nat := 0x02802000 + p * 0x10
def DMC_RT_STAT (p : Nat) : Nat := 0x02802004 + p * 0x10
def DM_SRC_LO (n : Nat) : Nat := 0x02A00000 + n * 0x40
def DM_SRC_HI (n : Nat) : Nat := 0x02A00004 + n * 0x40
def DM_DST_LO (n : Nat) : Nat := 0x02A00008 + n * 0x40
def DM_DST_HI (n : Nat) : Nat := 0x02A0000C + n * 0x40
def DM_CNT (n : Nat) : Nat := 0x02A00010 + n * 0x40
def DM_CTL (n : Nat) : Nat := 0x02A00014 + n * 0x40
def DM_CFG (n : Nat) : Nat := 0x02A00018 + n * 0x40
def DM_STAT (n : Nat) : Nat := 0x02A0001C + n * 0x40
def DM_XFER (n : Nat) : Nat := 0x02A00020 + n * 0x40
def DM_DEV (n : Nat) : Nat := 0x02A00024 + n * 0x40
def DMA_RWIN_LO : Nat := 0x02A01000
def DMA_RWIN_HI : Nat := 0x02A01004
def DMA_SHARE : Nat := 0x02A01008
def DMA_RSTAT : Nat := 0x02A0100C
def CMP_CC_CFG0 (n : Nat) : Nat := 0x02B00000 + n * 0x40
def CMP_CC_FILL (n : Nat) : Nat := 0x02B00004 + n * 0x40
def CMP_CC_GEOM0 (n : Nat) : Nat := 0x02B00008 + n * 0x40
def CMP_CC_GEOM1 (n : Nat) : Nat := 0x02B0000C + n * 0x40
def CMP_CC_STAT (n : Nat) : Nat := 0x02B00010 + n * 0x40
def CMP_CC_RAW (n : Nat) : Nat := 0x02B00014 + n * 0x40
def CMP_CC_COD (n : Nat) : Nat := 0x02B00018 + n * 0x40
def CMP_MX_CNT : Nat := 0x02B01000
def HQ_BASE_LO (n : Nat) : Nat := 0x00200000 + n * 0x40
def HQ_BASE_HI (n : Nat) : Nat := 0x00200004 + n * 0x40
def HQ_CFG (n : Nat) : Nat := 0x00200008 + n * 0x40
def HQ_HEAD (n : Nat) : Nat := 0x0020000C + n * 0x40
def HQ_TAIL (n : Nat) : Nat := 0x00200010 + n * 0x40
def HQ_WB_LO (n : Nat) : Nat := 0x00200014 + n * 0x40
def HQ_WB_HI (n : Nat) : Nat := 0x00200018 + n * 0x40
def HQ_ITIME (n : Nat) : Nat := 0x0020001C + n * 0x40
def HQ_STAT (n : Nat) : Nat := 0x00200020 + n * 0x40
def HQ_EVT_VEC : Nat := 0x00201000
def HQ_EVT_CFG : Nat := 0x00201004
def HQ_EVT_PEND : Nat := 0x00201008
def HQ_PK_IGN : Nat := 0x0020100C
def HQ_PK_IGN_OFS : Nat := 0x00201010
def HQ_CXP_CFG : Nat := 0x00201014
def HQ_PCIE : Nat := 0x00201018
def ETH_EP_MAC_LO (n : Nat) : Nat := 0x00700000 + n * 0x40
def ETH_EP_MAC_HI (n : Nat) : Nat := 0x00700004 + n * 0x40
def ETH_EP_RX (n : Nat) : Nat := 0x00700008 + n * 0x40
def ETH_EP_RXCNT (n : Nat) : Nat := 0x0070000C + n * 0x40
def TW_CTL (n : Nat) : Nat := 0x02C00000 + n * 0x100
def TW_XFER (n : Nat) : Nat := 0x02C00004 + n * 0x100
def TW_STAT (n : Nat) : Nat := 0x02C00008 + n * 0x100
def TW_TXD0 (n : Nat) : Nat := 0x02C00010 + n * 0x100
def TW_TXD1 (n : Nat) : Nat := 0x02C00014 + n * 0x100
def TW_TXD2 (n : Nat) : Nat := 0x02C00018 + n * 0x100
def TW_TXD3 (n : Nat) : Nat := 0x02C0001C + n * 0x100
def TW_TXD4 (n : Nat) : Nat := 0x02C00020 + n * 0x100
def TW_TXD5 (n : Nat) : Nat := 0x02C00024 + n * 0x100
def TW_TXD6 (n : Nat) : Nat := 0x02C00028 + n * 0x100
def TW_TXD7 (n : Nat) : Nat := 0x02C0002C + n * 0x100
def TW_RXD0 (n : Nat) : Nat := 0x02C00030 + n * 0x100
def TW_RXD1 (n : Nat) : Nat := 0x02C00034 + n * 0x100
def TW_RXD2 (n : Nat) : Nat := 0x02C00038 + n * 0x100
def TW_RXD3 (n : Nat) : Nat := 0x02C0003C + n * 0x100
def TW_RXD4 (n : Nat) : Nat := 0x02C00040 + n * 0x100
def TW_RXD5 (n : Nat) : Nat := 0x02C00044 + n * 0x100
def TW_RXD6 (n : Nat) : Nat := 0x02C00048 + n * 0x100
def TW_RXD7 (n : Nat) : Nat := 0x02C0004C + n * 0x100
def TW_CNT (n : Nat) : Nat := 0x02C00050 + n * 0x100
def TW3_TGT_CFG : Nat := 0x02C01000
def TW3_NOTIFY : Nat := 0x02C01004
def TW3_TGT_CNT : Nat := 0x02C01008
def TW0_PMB (d : Nat) : Nat := 0x02C02000 + d * 0x4
def TW0_PMB_CFG : Nat := 0x02C02010
def TW0_PMB_STAT : Nat := 0x02C02014
def PWR_CMD : Nat := 0x02D00000
def PWR_STAT : Nat := 0x02D00004
def PWR_REFUSE : Nat := 0x02D00008
def PWR_CTL : Nat := 0x02D0000C
def PWR_RESTORE_LO : Nat := 0x02D00010
def PWR_RESTORE_HI : Nat := 0x02D00014
def PWR_CLASS (b : Nat) : Nat := 0x02D00040 + b * 0x4
def PWR_RET_MASK_LO (n : Nat) : Nat := 0x02D00100 + n * 0x8
def PWR_RET_MASK_HI (n : Nat) : Nat := 0x02D00104 + n * 0x8
def PWR_DVFS (d : Nat) : Nat := 0x02D00200 + d * 0x10
def PWR_OP (k : Nat) : Nat := 0x02D00300 + k * 0x4
def CAL_CTL : Nat := 0x02E00000
def CAL_STAT : Nat := 0x02E00004
def CAL_CNT : Nat := 0x02E00008
def CAL_BND (k : Nat) : Nat := 0x02E00010 + k * 0x8
def CAL_STEP (k : Nat) : Nat := 0x02E00014 + k * 0x8
def CAL_TEMP (s : Nat) : Nat := 0x02E00100 + s * 0x4
def CAL_REF (s : Nat) : Nat := 0x02E00180 + s * 0x4
def CAL_SOFS (s : Nat) : Nat := 0x02E00200 + s * 0x4
def CAL_TRIM (d : Nat) : Nat := 0x02E00280 + d * 0x4
def FLT_CTL : Nat := 0x02F00000
def FLT_STAT : Nat := 0x02F00004
def FLT_DEG : Nat := 0x02F00008
def FLT_COND : Nat := 0x02F0000C
def FLT_CNT : Nat := 0x02F00010
def FLT_PAIR_CFG : Nat := 0x02F00100
def FLT_PAIR_CMD : Nat := 0x02F00104
def FLT_PAIR_STAT : Nat := 0x02F00108
def FLT_HB_CNT : Nat := 0x02F0010C
def FLT_SHADOW_CNT : Nat := 0x02F00110
def FLT_SHADOW_MATCH : Nat := 0x02F00114
def FLT_SYNC_BLK : Nat := 0x02F00118
def TOP_STRAP : Nat := 0x00000018
def TOP_BOOT : Nat := 0x00000014
def ING_RSMP (k : Nat) : Nat := 0x00808000 + k * 4
def ING_TBL (n k : Nat) : Nat := 0x00810000 + n * 0x20000 + k * 4
def STI_UMAP (j : Nat) : Nat := 0x00A10000 + j * 4
def HP_TK (n k : Nat) : Nat := 0x02210000 + n * 0x400 + k * 4
def SDF_COEF (n k : Nat) : Nat := 0x02710000 + n * 0x100 + k * 4
def DMC_DLY (c k : Nat) : Nat := 0x02810000 + c * 0x1000 + k * 4
def TW3_FILE (k : Nat) : Nat := 0x02C01100 + k * 4
def ISP_LUT (c k : Nat) : Nat := 0x03008000 + c * 0x800 + k * 4
def MSIX_TBL (v k : Nat) : Nat := 0x00300000 + v * 16 + k * 4
def MSIX_PBA (k : Nat) : Nat := 0x00301000 + k * 4
end R

namespace F
def TOP_ID_PART : Fld := ⟨R.TOP_ID, 0, 16⟩
def TOP_ID_STEP : Fld := ⟨R.TOP_ID, 16, 8⟩
def TOP_ID_VENDOR : Fld := ⟨R.TOP_ID, 24, 8⟩
def TOP_CAPS_CD_PRESENT : Fld := ⟨R.TOP_CAPS, 0, 4⟩
def TOP_CAPS_VG_PRESENT : Fld := ⟨R.TOP_CAPS, 4, 8⟩
def TOP_CAPS_CAT_VER : Fld := ⟨R.TOP_CAPS, 12, 4⟩
def TOP_CAPS_AUTH : Fld := ⟨R.TOP_CAPS, 16, 1⟩
def TOP_DEVID_DEV_ID : Fld := ⟨R.TOP_DEVID, 0, 18⟩
def TOP_DEVID_DUP_ID : Fld := ⟨R.TOP_DEVID, 30, 1⟩
def TOP_DEVID_VALID : Fld := ⟨R.TOP_DEVID, 31, 1⟩
def TOP_READY_BOOT : Fld := ⟨R.TOP_READY, 0, 1⟩
def TOP_READY_TW : Fld := ⟨R.TOP_READY, 1, 1⟩
def TOP_READY_PCIE : Fld := ⟨R.TOP_READY, 2, 1⟩
def TOP_READY_RTC : Fld := ⟨R.TOP_READY, 3, 1⟩
def TOP_READY_TIME : Fld := ⟨R.TOP_READY, 4, 1⟩
def TOP_READY_EVT : Fld := ⟨R.TOP_READY, 5, 1⟩
def TOP_READY_ENC : Fld := ⟨R.TOP_READY, 6, 1⟩
def TOP_READY_CFG : Fld := ⟨R.TOP_READY, 7, 1⟩
def TOP_READY_JOBA : Fld := ⟨R.TOP_READY, 8, 1⟩
def TOP_READY_JOBB : Fld := ⟨R.TOP_READY, 9, 1⟩
def TOP_READY_SDF : Fld := ⟨R.TOP_READY, 10, 1⟩
def TOP_READY_ISP : Fld := ⟨R.TOP_READY, 11, 1⟩
def TOP_READY_EP0 : Fld := ⟨R.TOP_READY, 12, 1⟩
def TOP_READY_EP1 : Fld := ⟨R.TOP_READY, 13, 1⟩
def TOP_READY_NP : Fld := ⟨R.TOP_READY, 16, 4⟩
def TOP_READY_CD : Fld := ⟨R.TOP_READY, 20, 4⟩
def TOP_READY_VG : Fld := ⟨R.TOP_READY, 24, 8⟩
def TOP_READY_IO_CAM : Fld := ⟨R.TOP_READY_IO, 0, 12⟩
def TOP_READY_IO_DC : Fld := ⟨R.TOP_READY_IO, 16, 8⟩
def TOP_READY_IO_HP : Fld := ⟨R.TOP_READY_IO, 24, 8⟩
def TOP_FAULT_SUM_CFG : Fld := ⟨R.TOP_FAULT_SUM, 0, 1⟩
def TOP_FAULT_SUM_HOSTQ : Fld := ⟨R.TOP_FAULT_SUM, 1, 1⟩
def TOP_FAULT_SUM_LANE : Fld := ⟨R.TOP_FAULT_SUM, 2, 1⟩
def TOP_FAULT_SUM_NIM : Fld := ⟨R.TOP_FAULT_SUM, 3, 1⟩
def TOP_FAULT_SUM_ETH : Fld := ⟨R.TOP_FAULT_SUM, 4, 1⟩
def TOP_FAULT_SUM_ING : Fld := ⟨R.TOP_FAULT_SUM, 5, 1⟩
def TOP_FAULT_SUM_STI : Fld := ⟨R.TOP_FAULT_SUM, 6, 1⟩
def TOP_FAULT_SUM_SEG : Fld := ⟨R.TOP_FAULT_SUM, 7, 1⟩
def TOP_FAULT_SUM_PRT : Fld := ⟨R.TOP_FAULT_SUM, 8, 1⟩
def TOP_FAULT_SUM_ENC : Fld := ⟨R.TOP_FAULT_SUM, 9, 1⟩
def TOP_FAULT_SUM_TIME : Fld := ⟨R.TOP_FAULT_SUM, 10, 1⟩
def TOP_FAULT_SUM_SDF : Fld := ⟨R.TOP_FAULT_SUM, 11, 1⟩
def TOP_FAULT_SUM_DMC : Fld := ⟨R.TOP_FAULT_SUM, 12, 1⟩
def TOP_FAULT_SUM_DMA : Fld := ⟨R.TOP_FAULT_SUM, 13, 1⟩
def TOP_FAULT_SUM_CMP : Fld := ⟨R.TOP_FAULT_SUM, 14, 1⟩
def TOP_FAULT_SUM_TW : Fld := ⟨R.TOP_FAULT_SUM, 15, 1⟩
def TOP_FAULT_SUM_PWR : Fld := ⟨R.TOP_FAULT_SUM, 16, 1⟩
def TOP_FAULT_SUM_CAL : Fld := ⟨R.TOP_FAULT_SUM, 17, 1⟩
def TOP_FAULT_SUM_ISP : Fld := ⟨R.TOP_FAULT_SUM, 18, 1⟩
def TOP_FAULT_SUM_VG : Fld := ⟨R.TOP_FAULT_SUM, 19, 8⟩
def TOP_FAULT_SUM_FLT : Fld := ⟨R.TOP_FAULT_SUM, 27, 1⟩
def TOP_FAULT_SUM_DEGRADED : Fld := ⟨R.TOP_FAULT_SUM, 28, 1⟩
def TOP_FAULT_SUM_ACC : Fld := ⟨R.TOP_FAULT_SUM, 29, 1⟩
def TOP_ACC_ERR_OFFSET : Fld := ⟨R.TOP_ACC_ERR, 0, 26⟩
def TOP_ACC_ERR_WRITE : Fld := ⟨R.TOP_ACC_ERR, 29, 1⟩
def TOP_ACC_ERR_OFF_DOM : Fld := ⟨R.TOP_ACC_ERR, 30, 1⟩
def TOP_ACC_ERR_VALID : Fld := ⟨R.TOP_ACC_ERR, 31, 1⟩
def CFG_CTL_RUN : Fld := ⟨R.CFG_CTL, 0, 1⟩
def CFG_CTL_LOAD_ABORT : Fld := ⟨R.CFG_CTL, 1, 1⟩
def CFG_STAT_STRUCT_VALID : Fld := ⟨R.CFG_STAT, 0, 1⟩
def CFG_STAT_PIPE_STOPPED : Fld := ⟨R.CFG_STAT, 1, 1⟩
def CFG_STAT_LOADING : Fld := ⟨R.CFG_STAT, 2, 1⟩
def CFG_STAT_APPLYING : Fld := ⟨R.CFG_STAT, 3, 1⟩
def CFG_STAT_REJECT : Fld := ⟨R.CFG_STAT, 4, 1⟩
def CFG_STAT_DISARMED_BY_STOP : Fld := ⟨R.CFG_STAT, 5, 1⟩
def CFG_STAT_SWAP_SHIFTED : Fld := ⟨R.CFG_STAT, 6, 1⟩
def CFG_STAT_LAST_ERR : Fld := ⟨R.CFG_STAT, 8, 8⟩
def CFG_STAT_ERR_SECTION : Fld := ⟨R.CFG_STAT, 16, 2⟩
def CFG_ERR_OFS_OFS : Fld := ⟨R.CFG_ERR_OFS, 0, 26⟩
def CFG_STAGE_BASE_LO_ADDR_LO : Fld := ⟨R.CFG_STAGE_BASE_LO, 26, 6⟩
def CFG_STAGE_BASE_HI_ADDR_HI : Fld := ⟨R.CFG_STAGE_BASE_HI, 0, 6⟩
def CFG_STAGE_BASE_HI_EN : Fld := ⟨R.CFG_STAGE_BASE_HI, 31, 1⟩
def CFG_STRUCT_ID_STRUCT_ID : Fld := ⟨R.CFG_STRUCT_ID, 0, 32⟩
def CFG_BUILD_LO_BUILD : Fld := ⟨R.CFG_BUILD_LO, 0, 32⟩
def CFG_BUILD_HI_BUILD : Fld := ⟨R.CFG_BUILD_HI, 0, 32⟩
def CFG_BANK_A_STATE : Fld := ⟨R.CFG_BANK, 0, 3⟩
def CFG_BANK_B_STATE : Fld := ⟨R.CFG_BANK, 4, 3⟩
def CFG_BANK_RUN_BANK : Fld := ⟨R.CFG_BANK, 8, 1⟩
def CFG_BANK_LAST_LOAD : Fld := ⟨R.CFG_BANK, 9, 1⟩
def CFG_JOBA_JOB_ID : Fld := ⟨R.CFG_JOBA, 0, 16⟩
def CFG_JOBB_JOB_ID : Fld := ⟨R.CFG_JOBB, 0, 16⟩
def CFG_SWAP_POS_POS : Fld := ⟨R.CFG_SWAP_POS, 0, 32⟩
def CFG_SWAP_CTL_CHAN : Fld := ⟨R.CFG_SWAP_CTL, 0, 2⟩
def CFG_SWAP_CTL_ARM : Fld := ⟨R.CFG_SWAP_CTL, 8, 1⟩
def CFG_SWAP_CTL_DISARM : Fld := ⟨R.CFG_SWAP_CTL, 9, 1⟩
def CFG_SWAP_CTL_NOW : Fld := ⟨R.CFG_SWAP_CTL, 10, 1⟩
def CFG_SWAP_MARGIN_MARGIN : Fld := ⟨R.CFG_SWAP_MARGIN, 0, 24⟩
def CFG_SWAP_CAP_POS_VALUE : Fld := ⟨R.CFG_SWAP_CAP_POS, 0, 32⟩
def CFG_SWAP_CAP_TS_VALUE : Fld := ⟨R.CFG_SWAP_CAP_TS, 0, 32⟩
def CFG_SWAP_CNT_CNT : Fld := ⟨R.CFG_SWAP_CNT, 0, 16⟩
def CFG_REJ_CNT_CNT : Fld := ⟨R.CFG_REJ_CNT, 0, 16⟩
def CFG_REJ_CNT_SAT : Fld := ⟨R.CFG_REJ_CNT, 31, 1⟩
def CFG_SIG_SLOT_PROG : Fld := ⟨R.CFG_SIG_SLOT, 0, 4⟩
def CFG_SIG_SLOT_REVOKED : Fld := ⟨R.CFG_SIG_SLOT, 4, 4⟩
def CFG_SIG_SLOT_LAST : Fld := ⟨R.CFG_SIG_SLOT, 8, 2⟩
def ENC_CTL_EN (n : Nat) : Fld := ⟨R.ENC_CTL n, 0, 1⟩
def ENC_CTL_DIFF (n : Nat) : Fld := ⟨R.ENC_CTL n, 1, 1⟩
def ENC_CTL_DIR_INV (n : Nat) : Fld := ⟨R.ENC_CTL n, 2, 1⟩
def ENC_CTL_IDX_EN (n : Nat) : Fld := ⟨R.ENC_CTL n, 3, 1⟩
def ENC_CTL_IDX_SNAP (n : Nat) : Fld := ⟨R.ENC_CTL n, 4, 1⟩
def ENC_CTL_DEAD (n : Nat) : Fld := ⟨R.ENC_CTL n, 8, 4⟩
def ENC_CTL_AVG (n : Nat) : Fld := ⟨R.ENC_CTL n, 12, 4⟩
def ENC_CTL_BACKLASH (n : Nat) : Fld := ⟨R.ENC_CTL n, 16, 8⟩
def ENC_CTL_STILL_TO (n : Nat) : Fld := ⟨R.ENC_CTL n, 24, 8⟩
def ENC_POS_POS (n : Nat) : Fld := ⟨R.ENC_POS n, 0, 32⟩
def ENC_STAT_QERR (n : Nat) : Fld := ⟨R.ENC_STAT n, 0, 1⟩
def ENC_STAT_IDX_MISMATCH (n : Nat) : Fld := ⟨R.ENC_STAT n, 1, 1⟩
def ENC_STAT_IDX_BIG (n : Nat) : Fld := ⟨R.ENC_STAT n, 2, 1⟩
def ENC_STAT_STILL (n : Nat) : Fld := ⟨R.ENC_STAT n, 3, 1⟩
def ENC_STAT_DIR (n : Nat) : Fld := ⟨R.ENC_STAT n, 4, 1⟩
def ENC_STAT_IDX_REF (n : Nat) : Fld := ⟨R.ENC_STAT n, 5, 1⟩
def ENC_QERR_CNT_CNT (n : Nat) : Fld := ⟨R.ENC_QERR_CNT n, 0, 16⟩
def ENC_QERR_CNT_SAT (n : Nat) : Fld := ⟨R.ENC_QERR_CNT n, 31, 1⟩
def ENC_IDX_CAP_VALUE (n : Nat) : Fld := ⟨R.ENC_IDX_CAP n, 0, 32⟩
def ENC_IDX_ERR_VALUE (n : Nat) : Fld := ⟨R.ENC_IDX_ERR n, 0, 32⟩
def ENC_IDX_PERIOD_P (n : Nat) : Fld := ⟨R.ENC_IDX_PERIOD n, 0, 32⟩
def ENC_IDX_CFG_IDX_TOL (n : Nat) : Fld := ⟨R.ENC_IDX_CFG n, 0, 8⟩
def ENC_IDX_CFG_SNAP_MAX (n : Nat) : Fld := ⟨R.ENC_IDX_CFG n, 8, 8⟩
def ENC_PERIOD_PERIOD (n : Nat) : Fld := ⟨R.ENC_PERIOD n, 0, 32⟩
def ENC_EPOCH_HALF (n : Nat) : Fld := ⟨R.ENC_EPOCH n, 0, 16⟩
def ENC_EPOCH_SNAP_CNT (n : Nat) : Fld := ⟨R.ENC_EPOCH n, 16, 16⟩
def CU_CTL_EN (n : Nat) : Fld := ⟨R.CU_CTL n, 0, 1⟩
def CU_CTL_CHAN (n : Nat) : Fld := ⟨R.CU_CTL n, 1, 2⟩
def CU_CTL_MODE (n : Nat) : Fld := ⟨R.CU_CTL n, 3, 1⟩
def CU_CTL_INTERP (n : Nat) : Fld := ⟨R.CU_CTL n, 4, 1⟩
def CU_CTL_ARMED (n : Nat) : Fld := ⟨R.CU_CTL n, 5, 1⟩
def CU_CTL_JOB (n : Nat) : Fld := ⟨R.CU_CTL n, 6, 1⟩
def CU_SPACING_S (n : Nat) : Fld := ⟨R.CU_SPACING n, 0, 32⟩
def CU_NEXT_INT_N (n : Nat) : Fld := ⟨R.CU_NEXT_INT n, 0, 32⟩
def CU_NEXT_FRAC_N (n : Nat) : Fld := ⟨R.CU_NEXT_FRAC n, 0, 16⟩
def CU_HIT_POS_VALUE (n : Nat) : Fld := ⟨R.CU_HIT_POS n, 0, 32⟩
def CU_HIT_TS_VALUE (n : Nat) : Fld := ⟨R.CU_HIT_TS n, 0, 32⟩
def CU_HIT_FRAC_FRAC (n : Nat) : Fld := ⟨R.CU_HIT_FRAC n, 0, 16⟩
def CU_STAT_LATE (n : Nat) : Fld := ⟨R.CU_STAT n, 0, 1⟩
def CU_STAT_SKIP (n : Nat) : Fld := ⟨R.CU_STAT n, 1, 1⟩
def CU_STAT_SKIP_CNT (n : Nat) : Fld := ⟨R.CU_STAT n, 16, 16⟩
def CU_SPACING_HI_S_HI (n : Nat) : Fld := ⟨R.CU_SPACING_HI n, 0, 15⟩
def ABS_CTL_PROTO (n : Nat) : Fld := ⟨R.ABS_CTL n, 0, 2⟩
def ABS_CTL_BITS (n : Nat) : Fld := ⟨R.ABS_CTL n, 2, 6⟩
def ABS_CTL_CLKDIV (n : Nat) : Fld := ⟨R.ABS_CTL n, 8, 12⟩
def ABS_CTL_TIMER (n : Nat) : Fld := ⟨R.ABS_CTL n, 20, 12⟩
def ABS_POS_VALUE (n : Nat) : Fld := ⟨R.ABS_POS n, 0, 32⟩
def ABS_TS_VALUE (n : Nat) : Fld := ⟨R.ABS_TS n, 0, 32⟩
def ABS_STAT_CRC_ERR (n : Nat) : Fld := ⟨R.ABS_STAT n, 0, 1⟩
def ABS_STAT_TIMEOUT (n : Nat) : Fld := ⟨R.ABS_STAT n, 1, 1⟩
def ABS_STAT_ERR_BIT (n : Nat) : Fld := ⟨R.ABS_STAT n, 2, 1⟩
def ABS_STAT_WARN_BIT (n : Nat) : Fld := ⟨R.ABS_STAT n, 3, 1⟩
def ABS_STAT_FAIL_CNT (n : Nat) : Fld := ⟨R.ABS_STAT n, 16, 16⟩
def SW_CTL_INV : Fld := ⟨R.SW_CTL, 0, 8⟩
def SW_CTL_DEB : Fld := ⟨R.SW_CTL, 8, 8⟩
def SW_CTL_CHAN : Fld := ⟨R.SW_CTL, 16, 2⟩
def SW_STAT_LEVEL : Fld := ⟨R.SW_STAT, 0, 8⟩
def SW_STAT_CHG : Fld := ⟨R.SW_STAT, 8, 8⟩
def SW_CAP_POS (n : Nat) : Fld := ⟨R.SW_CAP n, 0, 32⟩
def EVT_SRC0_EN (c : Nat) : Fld := ⟨R.EVT_SRC0 c, 0, 32⟩
def EVT_SRC1_EN (c : Nat) : Fld := ⟨R.EVT_SRC1 c, 0, 32⟩
def EVT_SRC2_EN (c : Nat) : Fld := ⟨R.EVT_SRC2 c, 0, 32⟩
def EVT_CFG_GATE (c : Nat) : Fld := ⟨R.EVT_CFG c, 0, 4⟩
def EVT_CFG_GATE_EN (c : Nat) : Fld := ⟨R.EVT_CFG c, 4, 1⟩
def EVT_CFG_KIND (c : Nat) : Fld := ⟨R.EVT_CFG c, 8, 3⟩
def EVT_CFG_BUSY (c : Nat) : Fld := ⟨R.EVT_CFG c, 16, 1⟩
def EVT_CFG_COINC (c : Nat) : Fld := ⟨R.EVT_CFG c, 17, 1⟩
def EVT_CFG_OVR (c : Nat) : Fld := ⟨R.EVT_CFG c, 18, 1⟩
def EVT_ACT_CNT (c : Nat) : Fld := ⟨R.EVT_ACT c, 0, 32⟩
def EVT_LOSS_COINC_CNT (c : Nat) : Fld := ⟨R.EVT_LOSS c, 0, 16⟩
def EVT_LOSS_OVR_CNT (c : Nat) : Fld := ⟨R.EVT_LOSS c, 16, 16⟩
def EVT_INFO_NSRC : Fld := ⟨R.EVT_INFO, 0, 8⟩
def EVT_INFO_NCONS : Fld := ⟨R.EVT_INFO, 8, 8⟩
def EVT_GATE_LEVEL : Fld := ⟨R.EVT_GATE, 0, 16⟩
def EVT_CAP_TS_VALUE (n : Nat) : Fld := ⟨R.EVT_CAP_TS n, 0, 32⟩
def EVT_CAP_POS0_VALUE (n : Nat) : Fld := ⟨R.EVT_CAP_POS0 n, 0, 32⟩
def EVT_CAP_POS1_VALUE (n : Nat) : Fld := ⟨R.EVT_CAP_POS1 n, 0, 32⟩
def EVT_CAP_POS2_VALUE (n : Nat) : Fld := ⟨R.EVT_CAP_POS2 n, 0, 32⟩
def EVT_CAP_POS3_VALUE (n : Nat) : Fld := ⟨R.EVT_CAP_POS3 n, 0, 32⟩
def EVT_CAP_SEQ_SEQ (n : Nat) : Fld := ⟨R.EVT_CAP_SEQ n, 0, 16⟩
def LANE_CTL_LOOP (i : Nat) : Fld := ⟨R.LANE_CTL i, 0, 2⟩
def LANE_CTL_PRBS (i : Nat) : Fld := ⟨R.LANE_CTL i, 2, 2⟩
def LANE_CTL_EQ_FREEZE (i : Nat) : Fld := ⟨R.LANE_CTL i, 4, 1⟩
def LANE_CTL_RET_EN (i : Nat) : Fld := ⟨R.LANE_CTL i, 5, 1⟩
def LANE_CTL_RET_THR (i : Nat) : Fld := ⟨R.LANE_CTL i, 8, 8⟩
def LANE_CTL_EN (i : Nat) : Fld := ⟨R.LANE_CTL i, 16, 1⟩
def LANE_STAT_STATE (i : Nat) : Fld := ⟨R.LANE_STAT i, 0, 3⟩
def LANE_STAT_RATE (i : Nat) : Fld := ⟨R.LANE_STAT i, 3, 4⟩
def LANE_STAT_LOCK_LOST (i : Nat) : Fld := ⟨R.LANE_STAT i, 7, 1⟩
def LANE_STAT_EYE_BUSY (i : Nat) : Fld := ⟨R.LANE_STAT i, 8, 1⟩
def LANE_STAT_HI_BER (i : Nat) : Fld := ⟨R.LANE_STAT i, 9, 1⟩
def LANE_ERR_CODE_CNT (i : Nat) : Fld := ⟨R.LANE_ERR i, 0, 16⟩
def LANE_ERR_DISP_CNT (i : Nat) : Fld := ⟨R.LANE_ERR i, 16, 15⟩
def LANE_ERR_SAT (i : Nat) : Fld := ⟨R.LANE_ERR i, 31, 1⟩
def LANE_EQ_CTLE (i : Nat) : Fld := ⟨R.LANE_EQ i, 0, 4⟩
def LANE_EQ_TAP1 (i : Nat) : Fld := ⟨R.LANE_EQ i, 4, 6⟩
def LANE_EQ_TAP2 (i : Nat) : Fld := ⟨R.LANE_EQ i, 10, 5⟩
def LANE_EQ_TAP3 (i : Nat) : Fld := ⟨R.LANE_EQ i, 15, 5⟩
def LANE_EQ_TAP4 (i : Nat) : Fld := ⟨R.LANE_EQ i, 20, 5⟩
def LANE_EQ_TAP5 (i : Nat) : Fld := ⟨R.LANE_EQ i, 25, 5⟩
def LANE_EYE_CTL_PHASE (i : Nat) : Fld := ⟨R.LANE_EYE_CTL i, 0, 6⟩
def LANE_EYE_CTL_VOLT (i : Nat) : Fld := ⟨R.LANE_EYE_CTL i, 8, 7⟩
def LANE_EYE_CTL_DWELL (i : Nat) : Fld := ⟨R.LANE_EYE_CTL i, 16, 5⟩
def LANE_EYE_CTL_START (i : Nat) : Fld := ⟨R.LANE_EYE_CTL i, 31, 1⟩
def LANE_EYE_RES_ERR_CNT (i : Nat) : Fld := ⟨R.LANE_EYE_RES i, 0, 24⟩
def LANE_EYE_RES_SAT (i : Nat) : Fld := ⟨R.LANE_EYE_RES i, 29, 1⟩
def LANE_EYE_RES_ABORT (i : Nat) : Fld := ⟨R.LANE_EYE_RES i, 30, 1⟩
def LANE_EYE_RES_DONE (i : Nat) : Fld := ⟨R.LANE_EYE_RES i, 31, 1⟩
def LANE_PRBS_ERR_CNT (i : Nat) : Fld := ⟨R.LANE_PRBS_ERR i, 0, 31⟩
def LANE_PRBS_ERR_SAT (i : Nat) : Fld := ⟨R.LANE_PRBS_ERR i, 31, 1⟩
def LANE_FEC_CORR_CNT (i : Nat) : Fld := ⟨R.LANE_FEC i, 0, 16⟩
def LANE_FEC_UNCORR_CNT (i : Nat) : Fld := ⟨R.LANE_FEC i, 16, 15⟩
def LANE_FEC_SAT (i : Nat) : Fld := ⟨R.LANE_FEC i, 31, 1⟩
def CAM_LINK_CFG_LINKS (n : Nat) : Fld := ⟨R.CAM_LINK n, 0, 4⟩
def CAM_LINK_ACT_LINKS (n : Nat) : Fld := ⟨R.CAM_LINK n, 4, 4⟩
def CAM_LINK_RATE (n : Nat) : Fld := ⟨R.CAM_LINK n, 8, 4⟩
def CAM_LINK_REDUCED (n : Nat) : Fld := ⟨R.CAM_LINK n, 12, 1⟩
def CAM_LINK_SKEW (n : Nat) : Fld := ⟨R.CAM_LINK n, 13, 1⟩
def CAM_LINK_NO_REDUCE (n : Nat) : Fld := ⟨R.CAM_LINK n, 14, 1⟩
def CAM_LINK_TRIG_BOTH (n : Nat) : Fld := ⟨R.CAM_LINK n, 15, 1⟩
def CAM_LINK_LANE_MASK (n : Nat) : Fld := ⟨R.CAM_LINK n, 16, 8⟩
def NP_CTL_EN (p : Nat) : Fld := ⟨R.NP_CTL p, 0, 1⟩
def NP_CTL_RETRAIN (p : Nat) : Fld := ⟨R.NP_CTL p, 1, 1⟩
def NP_STAT_STATE (p : Nat) : Fld := ⟨R.NP_STAT p, 0, 3⟩
def NP_STAT_LANES (p : Nat) : Fld := ⟨R.NP_STAT p, 3, 2⟩
def NP_STAT_SPARE_USED (p : Nat) : Fld := ⟨R.NP_STAT p, 5, 1⟩
def NP_STAT_PEER_ID (p : Nat) : Fld := ⟨R.NP_STAT p, 8, 18⟩
def NP_MAP_L0 (p : Nat) : Fld := ⟨R.NP_MAP p, 0, 2⟩
def NP_MAP_L1 (p : Nat) : Fld := ⟨R.NP_MAP p, 2, 2⟩
def NP_MAP_L2 (p : Nat) : Fld := ⟨R.NP_MAP p, 4, 2⟩
def NP_MAP_SPARE (p : Nat) : Fld := ⟨R.NP_MAP p, 6, 2⟩
def NP_CNT_CRC_CNT (p : Nat) : Fld := ⟨R.NP_CNT p, 0, 16⟩
def NP_CNT_REPLAY_CNT (p : Nat) : Fld := ⟨R.NP_CNT p, 16, 15⟩
def NP_CNT_SAT (p : Nat) : Fld := ⟨R.NP_CNT p, 31, 1⟩
def NP_CREDIT_VC0 (p : Nat) : Fld := ⟨R.NP_CREDIT p, 0, 8⟩
def NP_CREDIT_VC1 (p : Nat) : Fld := ⟨R.NP_CREDIT p, 8, 8⟩
def NP_CREDIT_VC2 (p : Nat) : Fld := ⟨R.NP_CREDIT p, 16, 8⟩
def NP_CREDIT_VC3 (p : Nat) : Fld := ⟨R.NP_CREDIT p, 24, 8⟩
def NIM_ROUTE_ID (k : Nat) : Fld := ⟨R.NIM_ROUTE k, 0, 18⟩
def NIM_ROUTE_PLEN (k : Nat) : Fld := ⟨R.NIM_ROUTE k, 18, 5⟩
def NIM_ROUTE_PORT (k : Nat) : Fld := ⟨R.NIM_ROUTE k, 24, 2⟩
def NIM_ROUTE_VALID (k : Nat) : Fld := ⟨R.NIM_ROUTE k, 31, 1⟩
def NIM_NOROUTE_CNT : Fld := ⟨R.NIM_NOROUTE, 0, 16⟩
def NIM_NOROUTE_SAT : Fld := ⟨R.NIM_NOROUTE, 31, 1⟩
def ING_CTL_EN (n : Nat) : Fld := ⟨R.ING_CTL n, 0, 1⟩
def ING_CTL_FLIP (n : Nat) : Fld := ⟨R.ING_CTL n, 1, 1⟩
def ING_CTL_SEQ_CHK (n : Nat) : Fld := ⟨R.ING_CTL n, 2, 1⟩
def ING_CTL_FLUX_EN (n : Nat) : Fld := ⟨R.ING_CTL n, 3, 1⟩
def ING_CTL_FLUX_SRC (n : Nat) : Fld := ⟨R.ING_CTL n, 4, 4⟩
def ING_CTL_DARK_MODE (n : Nat) : Fld := ⟨R.ING_CTL n, 8, 2⟩
def ING_CTL_DAVG (n : Nat) : Fld := ⟨R.ING_CTL n, 10, 4⟩
def ING_CTL_DARK_CAPT (n : Nat) : Fld := ⟨R.ING_CTL n, 14, 1⟩
def ING_CTL_TBL_SET (n : Nat) : Fld := ⟨R.ING_CTL n, 15, 1⟩
def ING_CTL_MISS_TO (n : Nat) : Fld := ⟨R.ING_CTL n, 16, 6⟩
def ING_CTL_TAG_CHAN (n : Nat) : Fld := ⟨R.ING_CTL n, 22, 2⟩
def ING_STAT_LINE_SHORT (n : Nat) : Fld := ⟨R.ING_STAT n, 0, 1⟩
def ING_STAT_LINE_LONG (n : Nat) : Fld := ⟨R.ING_STAT n, 1, 1⟩
def ING_STAT_SUBST (n : Nat) : Fld := ⟨R.ING_STAT n, 2, 1⟩
def ING_STAT_DUP (n : Nat) : Fld := ⟨R.ING_STAT n, 3, 1⟩
def ING_STAT_ORPHAN (n : Nat) : Fld := ⟨R.ING_STAT n, 4, 1⟩
def ING_STAT_RESYNC (n : Nat) : Fld := ⟨R.ING_STAT n, 5, 1⟩
def ING_STAT_CRC_ERR (n : Nat) : Fld := ⟨R.ING_STAT n, 6, 1⟩
def ING_STAT_STREAM_ERR (n : Nat) : Fld := ⟨R.ING_STAT n, 7, 1⟩
def ING_STAT_DL_TRIG (n : Nat) : Fld := ⟨R.ING_STAT n, 8, 1⟩
def ING_STAT_RATE_HI (n : Nat) : Fld := ⟨R.ING_STAT n, 9, 1⟩
def ING_STAT_FLUX_STALE (n : Nat) : Fld := ⟨R.ING_STAT n, 10, 1⟩
def ING_STAT_FLUX_CLAMP (n : Nat) : Fld := ⟨R.ING_STAT n, 11, 1⟩
def ING_STAT_REPL_FILL (n : Nat) : Fld := ⟨R.ING_STAT n, 12, 1⟩
def ING_STAT_TAG_OVF (n : Nat) : Fld := ⟨R.ING_STAT n, 13, 1⟩
def ING_STAT_MAP_BAD (n : Nat) : Fld := ⟨R.ING_STAT n, 14, 1⟩
def ING_STAT_FLIP_PEND (n : Nat) : Fld := ⟨R.ING_STAT n, 16, 1⟩
def ING_GEOM_PPL (n : Nat) : Fld := ⟨R.ING_GEOM n, 0, 15⟩
def ING_GEOM_MASK_L (n : Nat) : Fld := ⟨R.ING_GEOM n, 16, 7⟩
def ING_GEOM_MASK_R (n : Nat) : Fld := ⟨R.ING_GEOM n, 23, 7⟩
def ING_FMT_FMT (n : Nat) : Fld := ⟨R.ING_FMT n, 0, 3⟩
def ING_FMT_B (n : Nat) : Fld := ⟨R.ING_FMT n, 3, 5⟩
def ING_FMT_STREAM_ID (n : Nat) : Fld := ⟨R.ING_FMT n, 8, 8⟩
def ING_FMT_FILL (n : Nat) : Fld := ⟨R.ING_FMT n, 16, 16⟩
def ING_CNT0_A (n : Nat) : Fld := ⟨R.ING_CNT0 n, 0, 16⟩
def ING_CNT0_B (n : Nat) : Fld := ⟨R.ING_CNT0 n, 16, 15⟩
def ING_CNT0_SAT (n : Nat) : Fld := ⟨R.ING_CNT0 n, 31, 1⟩
def ING_CNT1_A (n : Nat) : Fld := ⟨R.ING_CNT1 n, 0, 16⟩
def ING_CNT1_B (n : Nat) : Fld := ⟨R.ING_CNT1 n, 16, 15⟩
def ING_CNT1_SAT (n : Nat) : Fld := ⟨R.ING_CNT1 n, 31, 1⟩
def ING_CNT2_A (n : Nat) : Fld := ⟨R.ING_CNT2 n, 0, 16⟩
def ING_CNT2_B (n : Nat) : Fld := ⟨R.ING_CNT2 n, 16, 15⟩
def ING_CNT2_SAT (n : Nat) : Fld := ⟨R.ING_CNT2 n, 31, 1⟩
def ING_CNT3_A (n : Nat) : Fld := ⟨R.ING_CNT3 n, 0, 16⟩
def ING_CNT3_B (n : Nat) : Fld := ⟨R.ING_CNT3 n, 16, 15⟩
def ING_CNT3_SAT (n : Nat) : Fld := ⟨R.ING_CNT3 n, 31, 1⟩
def ING_SEQ_LINE_SEQ (n : Nat) : Fld := ⟨R.ING_SEQ n, 0, 32⟩
def ING_ROWDLY_DLY_R (n : Nat) : Fld := ⟨R.ING_ROWDLY n, 0, 6⟩
def ING_ROWDLY_DLY_G (n : Nat) : Fld := ⟨R.ING_ROWDLY n, 8, 6⟩
def ING_ROWDLY_DLY_B (n : Nat) : Fld := ⟨R.ING_ROWDLY n, 16, 6⟩
def ING_LAT_LAT0 (n : Nat) : Fld := ⟨R.ING_LAT n, 0, 10⟩
def ING_LAT_LAT1 (n : Nat) : Fld := ⟨R.ING_LAT n, 10, 10⟩
def ING_LAT_LAT2 (n : Nat) : Fld := ⟨R.ING_LAT n, 20, 10⟩
def ING_DEFCNT_CNT (n : Nat) : Fld := ⟨R.ING_DEFCNT n, 0, 13⟩
def ING_CM0_LO (n : Nat) : Fld := ⟨R.ING_CM0 n, 0, 16⟩
def ING_CM0_HI (n : Nat) : Fld := ⟨R.ING_CM0 n, 16, 16⟩
def ING_CM1_LO (n : Nat) : Fld := ⟨R.ING_CM1 n, 0, 16⟩
def ING_CM1_HI (n : Nat) : Fld := ⟨R.ING_CM1 n, 16, 16⟩
def ING_CM2_LO (n : Nat) : Fld := ⟨R.ING_CM2 n, 0, 16⟩
def ING_CM2_HI (n : Nat) : Fld := ⟨R.ING_CM2 n, 16, 16⟩
def ING_CM3_LO (n : Nat) : Fld := ⟨R.ING_CM3 n, 0, 16⟩
def ING_CM3_HI (n : Nat) : Fld := ⟨R.ING_CM3 n, 16, 16⟩
def ING_CM4_LO (n : Nat) : Fld := ⟨R.ING_CM4 n, 0, 16⟩
def ING_CMOFS0_LO (n : Nat) : Fld := ⟨R.ING_CMOFS0 n, 0, 16⟩
def ING_CMOFS0_HI (n : Nat) : Fld := ⟨R.ING_CMOFS0 n, 16, 16⟩
def ING_CMOFS1_LO (n : Nat) : Fld := ⟨R.ING_CMOFS1 n, 0, 16⟩
def ING_FLUX_REF_REF (n : Nat) : Fld := ⟨R.ING_FLUX_REF n, 0, 24⟩
def ING_FLUX_LIM_MIN (n : Nat) : Fld := ⟨R.ING_FLUX_LIM n, 0, 16⟩
def ING_FLUX_LIM_MAX (n : Nat) : Fld := ⟨R.ING_FLUX_LIM n, 16, 16⟩
def ING_FLUX_TIME_EXP_MID (n : Nat) : Fld := ⟨R.ING_FLUX_TIME n, 0, 16⟩
def ING_FLUX_TIME_AGE (n : Nat) : Fld := ⟨R.ING_FLUX_TIME n, 16, 16⟩
def ING_FLUX_FACT_F (n : Nat) : Fld := ⟨R.ING_FLUX_FACT n, 0, 16⟩
def ING_DARK_MEAS0_CH0 (n : Nat) : Fld := ⟨R.ING_DARK_MEAS0 n, 0, 16⟩
def ING_DARK_MEAS0_CH1 (n : Nat) : Fld := ⟨R.ING_DARK_MEAS0 n, 16, 16⟩
def ING_DARK_REF0_CH0 (n : Nat) : Fld := ⟨R.ING_DARK_REF0 n, 0, 16⟩
def ING_DARK_REF0_CH1 (n : Nat) : Fld := ⟨R.ING_DARK_REF0 n, 16, 16⟩
def ING_DARK_OFS0_CH0 (n : Nat) : Fld := ⟨R.ING_DARK_OFS0 n, 0, 16⟩
def ING_DARK_OFS0_CH1 (n : Nat) : Fld := ⟨R.ING_DARK_OFS0 n, 16, 16⟩
def ING_DARK_MEAS1_CH2 (n : Nat) : Fld := ⟨R.ING_DARK_MEAS1 n, 0, 16⟩
def ING_DARK_REF1_CH2 (n : Nat) : Fld := ⟨R.ING_DARK_REF1 n, 0, 16⟩
def ING_DARK_OFS1_CH2 (n : Nat) : Fld := ⟨R.ING_DARK_OFS1 n, 0, 16⟩
def STI_CTL_EN : Fld := ⟨R.STI_CTL, 0, 1⟩
def STI_CTL_REF_CAM : Fld := ⟨R.STI_CTL, 1, 4⟩
def STI_CTL_REG_EN : Fld := ⟨R.STI_CTL, 5, 1⟩
def STI_CTL_FREEZE : Fld := ⟨R.STI_CTL, 6, 1⟩
def STI_CTL_WAIT : Fld := ⟨R.STI_CTL, 8, 2⟩
def STI_STAT_TAG_MISS : Fld := ⟨R.STI_STAT, 0, 1⟩
def STI_STAT_CAM_LATE : Fld := ⟨R.STI_STAT, 1, 1⟩
def STI_STAT_STAG_LATE : Fld := ⟨R.STI_STAT, 2, 1⟩
def STI_STAT_STAG_OVF : Fld := ⟨R.STI_STAT, 3, 1⟩
def STI_STAT_STAG_CRC : Fld := ⟨R.STI_STAT, 4, 1⟩
def STI_STAT_STAG_HDR : Fld := ⟨R.STI_STAT, 5, 1⟩
def STI_STAT_SEAM_EDGE : Fld := ⟨R.STI_STAT, 6, 1⟩
def STI_STAT_REG_LIMIT : Fld := ⟨R.STI_STAT, 7, 1⟩
def STI_STAT_REG_REJECT : Fld := ⟨R.STI_STAT, 8, 1⟩
def STI_STAT_MEM_ECC : Fld := ⟨R.STI_STAT, 9, 1⟩
def STI_STAT_PRIMING : Fld := ⟨R.STI_STAT, 16, 1⟩
def STI_STAT_PROV : Fld := ⟨R.STI_STAT, 17, 1⟩
def STI_WIDTH_VALUE : Fld := ⟨R.STI_WIDTH, 0, 32⟩
def STI_SLINE_VALUE : Fld := ⟨R.STI_SLINE, 0, 32⟩
def STI_REG_CFG0_SX : Fld := ⟨R.STI_REG_CFG0, 0, 3⟩
def STI_REG_CFG0_SY : Fld := ⟨R.STI_REG_CFG0, 3, 3⟩
def STI_REG_CFG0_CORR_CH : Fld := ⟨R.STI_REG_CFG0, 6, 2⟩
def STI_REG_CFG0_MIN_CORR : Fld := ⟨R.STI_REG_CFG0, 16, 16⟩
def STI_REG_CFG1_K_X : Fld := ⟨R.STI_REG_CFG1, 0, 9⟩
def STI_REG_CFG1_K_Y : Fld := ⟨R.STI_REG_CFG1, 16, 9⟩
def STI_REG_CFG2_STEP_X : Fld := ⟨R.STI_REG_CFG2, 0, 8⟩
def STI_REG_CFG2_STEP_Y : Fld := ⟨R.STI_REG_CFG2, 8, 8⟩
def STI_REG_CFG2_CONF_TOL : Fld := ⟨R.STI_REG_CFG2, 16, 8⟩
def STI_REG_CFG2_PROV_TOL : Fld := ⟨R.STI_REG_CFG2, 24, 8⟩
def STI_REG_MINVAR_MINVAR : Fld := ⟨R.STI_REG_MINVAR, 0, 32⟩
def STI_UMAP_CTL_KS : Fld := ⟨R.STI_UMAP_CTL, 0, 10⟩
def STI_UMAP_CTL_FLIP : Fld := ⟨R.STI_UMAP_CTL, 16, 1⟩
def STI_UMAP_CTL_SET : Fld := ⟨R.STI_UMAP_CTL, 17, 1⟩
def STI_UMAP_CTL_FLIP_PEND : Fld := ⟨R.STI_UMAP_CTL, 18, 1⟩
def STI_OUTCOME_BLOCK : Fld := ⟨R.STI_OUTCOME, 0, 24⟩
def STI_OUTCOME_RESULT : Fld := ⟨R.STI_OUTCOME, 24, 2⟩
def STI_CAM_GEOM_STAG (n : Nat) : Fld := ⟨R.STI_CAM_GEOM n, 0, 14⟩
def STI_CAM_GEOM_ROW (n : Nat) : Fld := ⟨R.STI_CAM_GEOM n, 14, 1⟩
def STI_CAM_GEOM_ORDER (n : Nat) : Fld := ⟨R.STI_CAM_GEOM n, 16, 4⟩
def STI_CAM_GEOM_Y0 (n : Nat) : Fld := ⟨R.STI_CAM_GEOM n, 20, 10⟩
def STI_CAM_X0_X0 (n : Nat) : Fld := ⟨R.STI_CAM_X0 n, 0, 24⟩
def STI_CAM_OFS_OX (n : Nat) : Fld := ⟨R.STI_CAM_OFS n, 0, 16⟩
def STI_CAM_OFS_OY (n : Nat) : Fld := ⟨R.STI_CAM_OFS n, 16, 10⟩
def STI_CAM_SPAN0_X (n : Nat) : Fld := ⟨R.STI_CAM_SPAN0 n, 0, 18⟩
def STI_CAM_SPAN1_X (n : Nat) : Fld := ⟨R.STI_CAM_SPAN1 n, 0, 18⟩
def STI_CAM_SLOT_SLOT (n : Nat) : Fld := ⟨R.STI_CAM_SLOT n, 0, 10⟩
def STI_CAM_SLOT_NSLOT (n : Nat) : Fld := ⟨R.STI_CAM_SLOT n, 16, 14⟩
def STI_CAM_CNT_LOSS_CNT (n : Nat) : Fld := ⟨R.STI_CAM_CNT n, 0, 16⟩
def STI_CAM_CNT_RAW_CNT (n : Nat) : Fld := ⟨R.STI_CAM_CNT n, 16, 15⟩
def STI_CAM_CNT_SAT (n : Nat) : Fld := ⟨R.STI_CAM_CNT n, 31, 1⟩
def STI_CAM_STAT_PRIMING (n : Nat) : Fld := ⟨R.STI_CAM_STAT n, 0, 1⟩
def STI_CAM_STAT_PRIME_LEFT (n : Nat) : Fld := ⟨R.STI_CAM_STAT n, 16, 14⟩
def STI_SEAM_CFG_XC (s : Nat) : Fld := ⟨R.STI_SEAM_CFG s, 0, 18⟩
def STI_SEAM_CFG_RW (s : Nat) : Fld := ⟨R.STI_SEAM_CFG s, 18, 11⟩
def STI_SEAM_WIN_CW (s : Nat) : Fld := ⟨R.STI_SEAM_WIN s, 0, 11⟩
def STI_SEAM_MEAS_X (s : Nat) : Fld := ⟨R.STI_SEAM_MEAS s, 0, 16⟩
def STI_SEAM_MEAS_Y (s : Nat) : Fld := ⟨R.STI_SEAM_MEAS s, 16, 16⟩
def STI_SEAM_EST_X (s : Nat) : Fld := ⟨R.STI_SEAM_EST s, 0, 16⟩
def STI_SEAM_EST_Y (s : Nat) : Fld := ⟨R.STI_SEAM_EST s, 16, 16⟩
def STI_SEAM_CAND_X (s : Nat) : Fld := ⟨R.STI_SEAM_CAND s, 0, 16⟩
def STI_SEAM_CAND_Y (s : Nat) : Fld := ⟨R.STI_SEAM_CAND s, 16, 16⟩
def STI_SEAM_SEED_X (s : Nat) : Fld := ⟨R.STI_SEAM_SEED s, 0, 16⟩
def STI_SEAM_SEED_Y (s : Nat) : Fld := ⟨R.STI_SEAM_SEED s, 16, 16⟩
def STI_SEAM_SCORE_PEAK (s : Nat) : Fld := ⟨R.STI_SEAM_SCORE s, 0, 16⟩
def STI_SEAM_SCORE_WHY (s : Nat) : Fld := ⟨R.STI_SEAM_SCORE s, 16, 4⟩
def STI_SEAM_SCORE_VALID (s : Nat) : Fld := ⟨R.STI_SEAM_SCORE s, 20, 1⟩
def STI_SEAM_SCORE_PEND (s : Nat) : Fld := ⟨R.STI_SEAM_SCORE s, 21, 1⟩
def STI_SEAM_SCORE_LAST (s : Nat) : Fld := ⟨R.STI_SEAM_SCORE s, 22, 2⟩
def STI_SEAM_CNT_CONF_CNT (s : Nat) : Fld := ⟨R.STI_SEAM_CNT s, 0, 16⟩
def STI_SEAM_CNT_REJ_CNT (s : Nat) : Fld := ⟨R.STI_SEAM_CNT s, 16, 15⟩
def STI_SEAM_CNT_SAT (s : Nat) : Fld := ⟨R.STI_SEAM_CNT s, 31, 1⟩
def VG_INFO_DIE (n : Nat) : Fld := ⟨R.VG_INFO n, 0, 2⟩
def VG_INFO_CL_FIRST (n : Nat) : Fld := ⟨R.VG_INFO n, 8, 5⟩
def VG_INFO_SPARES (n : Nat) : Fld := ⟨R.VG_INFO n, 16, 8⟩
def VG_STAT_ECC_CE (n : Nat) : Fld := ⟨R.VG_STAT n, 0, 1⟩
def VG_STAT_ECC_UE (n : Nat) : Fld := ⟨R.VG_STAT n, 1, 1⟩
def VG_STAT_RESIDUE (n : Nat) : Fld := ⟨R.VG_STAT n, 2, 1⟩
def VG_STAT_WDOG (n : Nat) : Fld := ⟨R.VG_STAT n, 3, 1⟩
def VG_STAT_REPLAY (n : Nat) : Fld := ⟨R.VG_STAT n, 4, 1⟩
def VG_STAT_LBL_OVF (n : Nat) : Fld := ⟨R.VG_STAT n, 5, 1⟩
def VG_STAT_REPLAYING (n : Nat) : Fld := ⟨R.VG_STAT n, 16, 1⟩
def VG_STAT_DEGRADED (n : Nat) : Fld := ⟨R.VG_STAT n, 17, 1⟩
def VG_STAT_ATTEMPT (n : Nat) : Fld := ⟨R.VG_STAT n, 18, 2⟩
def VG_LOAD_CL_MAX (n : Nat) : Fld := ⟨R.VG_LOAD n, 0, 16⟩
def VG_LOAD_PREROLL (n : Nat) : Fld := ⟨R.VG_LOAD n, 16, 6⟩
def VG_LOAD_OP_REQ (n : Nat) : Fld := ⟨R.VG_LOAD n, 22, 3⟩
def VG_BLOCK_BLOCK (n : Nat) : Fld := ⟨R.VG_BLOCK n, 0, 24⟩
def VG_BLOCK_ATTEMPT (n : Nat) : Fld := ⟨R.VG_BLOCK n, 24, 2⟩
def VG_REPLAY_CNT_CNT (n : Nat) : Fld := ⟨R.VG_REPLAY_CNT n, 0, 16⟩
def VG_REPLAY_CNT_SAT (n : Nat) : Fld := ⟨R.VG_REPLAY_CNT n, 31, 1⟩
def VG_ECC_CNT_CE_CNT (n : Nat) : Fld := ⟨R.VG_ECC_CNT n, 0, 16⟩
def VG_ECC_CNT_UE_CNT (n : Nat) : Fld := ⟨R.VG_ECC_CNT n, 16, 15⟩
def VG_ECC_CNT_SAT (n : Nat) : Fld := ⟨R.VG_ECC_CNT n, 31, 1⟩
def VG_LBL_CNT_OVF_CNT (n : Nat) : Fld := ⟨R.VG_LBL_CNT n, 0, 16⟩
def VG_LBL_CNT_WDOG_CNT (n : Nat) : Fld := ⟨R.VG_LBL_CNT n, 16, 15⟩
def VG_LBL_CNT_SAT (n : Nat) : Fld := ⟨R.VG_LBL_CNT n, 31, 1⟩
def VG_VU_MAP_PHYS (n : Nat) (j : Nat) : Fld := ⟨R.VG_VU_MAP n j, 0, 10⟩
def VG_VU_MAP_ASSIGNED (n : Nat) (j : Nat) : Fld := ⟨R.VG_VU_MAP n j, 31, 1⟩
def VG_VU_ASSIGN0_START (n : Nat) (j : Nat) : Fld := ⟨R.VG_VU_ASSIGN0 n j, 0, 18⟩
def VG_VU_ASSIGN0_WIDTH (n : Nat) (j : Nat) : Fld := ⟨R.VG_VU_ASSIGN0 n j, 18, 12⟩
def VG_VU_ASSIGN1_CHAIN_ID (n : Nat) (j : Nat) : Fld := ⟨R.VG_VU_ASSIGN1 n j, 0, 16⟩
def VG_VU_ASSIGN1_OVERLAP (n : Nat) (j : Nat) : Fld := ⟨R.VG_VU_ASSIGN1 n j, 16, 9⟩
def VG_VU_CYC_CL (n : Nat) (j : Nat) : Fld := ⟨R.VG_VU_CYC n j, 0, 16⟩
def VG_VU_CYC_LAST (n : Nat) (j : Nat) : Fld := ⟨R.VG_VU_CYC n j, 16, 16⟩
def VG_PU_STAT_STATE (n : Nat) (k : Nat) : Fld := ⟨R.VG_PU_STAT n k, 0, 2⟩
def VG_PU_STAT_FAULTS (n : Nat) (k : Nat) : Fld := ⟨R.VG_PU_STAT n k, 2, 2⟩
def VG_PU_STAT_CAUSE (n : Nat) (k : Nat) : Fld := ⟨R.VG_PU_STAT n k, 4, 4⟩
def SEG_CTL_EN : Fld := ⟨R.SEG_CTL, 0, 1⟩
def SEG_CTL_REC_EN : Fld := ⟨R.SEG_CTL, 1, 1⟩
def SEG_CTL_CROP_EN : Fld := ⟨R.SEG_CTL, 2, 1⟩
def SEG_CTL_DEF_CLASS : Fld := ⟨R.SEG_CTL, 3, 4⟩
def SEG_CTL_DEF_SEV : Fld := ⟨R.SEG_CTL, 7, 3⟩
def SEG_STAT_OBJ_OVF : Fld := ⟨R.SEG_STAT, 0, 1⟩
def SEG_STAT_REC_DROP : Fld := ⟨R.SEG_STAT, 1, 1⟩
def SEG_STAT_CROP_DROP : Fld := ⟨R.SEG_STAT, 2, 1⟩
def SEG_STAT_CROP_MISS : Fld := ⟨R.SEG_STAT, 3, 1⟩
def SEG_STAT_CROP_TRUNC : Fld := ⟨R.SEG_STAT, 4, 1⟩
def SEG_STAT_MASTER_CRC : Fld := ⟨R.SEG_STAT, 5, 1⟩
def SEG_STAT_TILE_ACQ : Fld := ⟨R.SEG_STAT, 6, 1⟩
def SEG_STAT_TILE_LOST : Fld := ⟨R.SEG_STAT, 7, 1⟩
def SEG_STAT_NO_REF : Fld := ⟨R.SEG_STAT, 8, 1⟩
def SEG_STAT_SPILL_ACT : Fld := ⟨R.SEG_STAT, 16, 1⟩
def SEG_OBJ_LIVE_LIVE : Fld := ⟨R.SEG_OBJ_LIVE, 0, 16⟩
def SEG_OBJ_LIVE_PEAK : Fld := ⟨R.SEG_OBJ_LIVE, 16, 16⟩
def SEG_OBJ_NEXT_LO_ID : Fld := ⟨R.SEG_OBJ_NEXT_LO, 0, 32⟩
def SEG_OBJ_NEXT_HI_ID : Fld := ⟨R.SEG_OBJ_NEXT_HI, 0, 8⟩
def SEG_REC_CNT_CNT : Fld := ⟨R.SEG_REC_CNT, 0, 32⟩
def SEG_LOSS_CNT_OBJ_CNT : Fld := ⟨R.SEG_LOSS_CNT, 0, 16⟩
def SEG_LOSS_CNT_DROP_CNT : Fld := ⟨R.SEG_LOSS_CNT, 16, 15⟩
def SEG_LOSS_CNT_SAT : Fld := ⟨R.SEG_LOSS_CNT, 31, 1⟩
def SEG_MREG_CFG0_K : Fld := ⟨R.SEG_MREG_CFG0, 0, 9⟩
def SEG_MREG_CFG0_STEP : Fld := ⟨R.SEG_MREG_CFG0, 16, 8⟩
def SEG_MREG_CFG0_MIN_N : Fld := ⟨R.SEG_MREG_CFG0, 24, 7⟩
def SEG_MREG_CFG0_KEEP_ON_SWAP : Fld := ⟨R.SEG_MREG_CFG0, 31, 1⟩
def SEG_MREG_CFG1_COARSE_MAX : Fld := ⟨R.SEG_MREG_CFG1, 0, 16⟩
def SEG_REPEAT_ORG_VALUE : Fld := ⟨R.SEG_REPEAT_ORG, 0, 32⟩
def SEG_REPEAT_ADJ_VALUE : Fld := ⟨R.SEG_REPEAT_ADJ, 0, 32⟩
def SEG_CROP_CTL_MARGIN : Fld := ⟨R.SEG_CROP_CTL, 0, 8⟩
def SEG_CROP_CTL_CC : Fld := ⟨R.SEG_CROP_CTL, 8, 4⟩
def SEG_CROP_BASE_LO_ADDR : Fld := ⟨R.SEG_CROP_BASE_LO, 20, 12⟩
def SEG_CROP_BASE_HI_ADDR : Fld := ⟨R.SEG_CROP_BASE_HI, 0, 6⟩
def SEG_CROP_BASE_HI_SIZE : Fld := ⟨R.SEG_CROP_BASE_HI, 16, 8⟩
def SEG_CROP_BASE_HI_EN : Fld := ⟨R.SEG_CROP_BASE_HI, 31, 1⟩
def SEG_CROP_WR_OFS : Fld := ⟨R.SEG_CROP_WR, 0, 32⟩
def SEG_CROP_RD_OFS : Fld := ⟨R.SEG_CROP_RD, 0, 32⟩
def SEG_SPILL_CTL_ADDR : Fld := ⟨R.SEG_SPILL_CTL, 0, 14⟩
def SEG_SPILL_CTL_EN : Fld := ⟨R.SEG_SPILL_CTL, 31, 1⟩
def SEG_ETH_CTL_ETYPE : Fld := ⟨R.SEG_ETH_CTL, 0, 16⟩
def SEG_ETH_CTL_GATHER : Fld := ⟨R.SEG_ETH_CTL, 16, 8⟩
def SEG_ETH_CTL_LAUNCH : Fld := ⟨R.SEG_ETH_CTL, 24, 8⟩
def SEG_ETH_DST_LO_MAC : Fld := ⟨R.SEG_ETH_DST_LO, 0, 32⟩
def SEG_ETH_DST_HI_MAC : Fld := ⟨R.SEG_ETH_DST_HI, 0, 16⟩
def SEG_REJ_CNT_CNT : Fld := ⟨R.SEG_REJ_CNT, 0, 32⟩
def SEG_ROUTE_QID (r : Nat) : Fld := ⟨R.SEG_ROUTE r, 0, 5⟩
def SEG_ROUTE_Q_EN (r : Nat) : Fld := ⟨R.SEG_ROUTE r, 5, 1⟩
def SEG_ROUTE_EP0_EN (r : Nat) : Fld := ⟨R.SEG_ROUTE r, 6, 1⟩
def SEG_ROUTE_EP1_EN (r : Nat) : Fld := ⟨R.SEG_ROUTE r, 7, 1⟩
def SEG_ROUTE_MIN_SEV (r : Nat) : Fld := ⟨R.SEG_ROUTE r, 8, 3⟩
def SEG_TILE_AX (t : Nat) : Fld := ⟨R.SEG_TILE t, 0, 14⟩
def SEG_TILE_AY (t : Nat) : Fld := ⟨R.SEG_TILE t, 14, 14⟩
def SEG_TILE_STATE (t : Nat) : Fld := ⟨R.SEG_TILE t, 28, 2⟩
def HP_CTL_EN (n : Nat) : Fld := ⟨R.HP_CTL n, 0, 1⟩
def HP_CTL_BPN (n : Nat) : Fld := ⟨R.HP_CTL n, 1, 1⟩
def HP_CTL_MODE (n : Nat) : Fld := ⟨R.HP_CTL n, 2, 1⟩
def HP_CTL_ORDER (n : Nat) : Fld := ⟨R.HP_CTL n, 3, 1⟩
def HP_CTL_DIR (n : Nat) : Fld := ⟨R.HP_CTL n, 4, 1⟩
def HP_CTL_TK_EN (n : Nat) : Fld := ⟨R.HP_CTL n, 5, 1⟩
def HP_CTL_KEEP_DEAD (n : Nat) : Fld := ⟨R.HP_CTL n, 6, 1⟩
def HP_CTL_WS_SRC (n : Nat) : Fld := ⟨R.HP_CTL n, 7, 1⟩
def HP_CTL_NZ_EN (n : Nat) : Fld := ⟨R.HP_CTL n, 8, 1⟩
def HP_CTL_NOZ (n : Nat) : Fld := ⟨R.HP_CTL n, 16, 13⟩
def HP_STAT_DATA_LATE (n : Nat) : Fld := ⟨R.HP_STAT n, 0, 1⟩
def HP_STAT_LATE_CAUSE (n : Nat) : Fld := ⟨R.HP_STAT n, 1, 2⟩
def HP_STAT_HOT (n : Nat) : Fld := ⟨R.HP_STAT n, 3, 1⟩
def HP_STAT_HOT_SEEN (n : Nat) : Fld := ⟨R.HP_STAT n, 4, 1⟩
def HP_STAT_STRAY (n : Nat) : Fld := ⟨R.HP_STAT n, 5, 1⟩
def HP_STAT_PAST_LPR (n : Nat) : Fld := ⟨R.HP_STAT n, 6, 1⟩
def HP_STAT_FEED_ERR (n : Nat) : Fld := ⟨R.HP_STAT n, 7, 1⟩
def HP_STAT_ABS_ERR (n : Nat) : Fld := ⟨R.HP_STAT n, 8, 1⟩
def HP_STAT_TK_FULL (n : Nat) : Fld := ⟨R.HP_STAT n, 9, 1⟩
def HP_STAT_NZ_OVF (n : Nat) : Fld := ⟨R.HP_STAT n, 10, 1⟩
def HP_TIM0_SDIV (n : Nat) : Fld := ⟨R.HP_TIM0 n, 0, 8⟩
def HP_TIM0_FIRE_W (n : Nat) : Fld := ⟨R.HP_TIM0 n, 8, 8⟩
def HP_TIM0_LATCH_W (n : Nat) : Fld := ⟨R.HP_TIM0 n, 16, 8⟩
def HP_TIM1_WAVE (n : Nat) : Fld := ⟨R.HP_TIM1 n, 0, 16⟩
def HP_TIM1_HOT_HYST (n : Nat) : Fld := ⟨R.HP_TIM1 n, 16, 16⟩
def HP_CNT_LATE_CNT (n : Nat) : Fld := ⟨R.HP_CNT n, 0, 16⟩
def HP_CNT_HOT_BLANK_CNT (n : Nat) : Fld := ⟨R.HP_CNT n, 16, 15⟩
def HP_CNT_SAT (n : Nat) : Fld := ⟨R.HP_CNT n, 31, 1⟩
def HP_FIRED_CNT (n : Nat) : Fld := ⟨R.HP_FIRED n, 0, 32⟩
def HP_LBL_VALUE (n : Nat) : Fld := ⟨R.HP_LBL n, 0, 32⟩
def HP_REP_WR_VALUE (n : Nat) : Fld := ⟨R.HP_REP_WR n, 0, 32⟩
def HP_LS_VALUE (n : Nat) : Fld := ⟨R.HP_LS n, 0, 32⟩
def HP_ORG_ADJ_VALUE (n : Nat) : Fld := ⟨R.HP_ORG_ADJ n, 0, 32⟩
def HP_WS_SET (n : Nat) : Fld := ⟨R.HP_WS n, 0, 4⟩
def HP_WS_CUR (n : Nat) : Fld := ⟨R.HP_WS n, 4, 4⟩
def HP_NMAP0_X0 (n : Nat) : Fld := ⟨R.HP_NMAP0 n, 0, 24⟩
def HP_NMAP1_PITCH (n : Nat) : Fld := ⟨R.HP_NMAP1 n, 0, 32⟩
def HP_NZ_CFG0_THR (n : Nat) : Fld := ⟨R.HP_NZ_CFG0 n, 0, 16⟩
def HP_NZ_CFG0_CONFIRM (n : Nat) : Fld := ⟨R.HP_NZ_CFG0 n, 16, 4⟩
def HP_NZ_CFG0_MINN (n : Nat) : Fld := ⟨R.HP_NZ_CFG0 n, 20, 12⟩
def HP_NZ_CFG1_NBR (n : Nat) : Fld := ⟨R.HP_NZ_CFG1 n, 0, 4⟩
def HP_NZ_CFG1_VAR_MAX (n : Nat) : Fld := ⟨R.HP_NZ_CFG1 n, 8, 24⟩
def HP_TK_CNT_USED (n : Nat) : Fld := ⟨R.HP_TK_CNT n, 0, 9⟩
def HP_TK_CNT_CONF_CNT (n : Nat) : Fld := ⟨R.HP_TK_CNT n, 16, 16⟩
def HP_TK_CMD_NOZZLE (n : Nat) : Fld := ⟨R.HP_TK_CMD n, 0, 12⟩
def HP_TK_CMD_OP (n : Nat) : Fld := ⟨R.HP_TK_CMD n, 12, 2⟩
def HP_SH_CTL_CHAN (n : Nat) : Fld := ⟨R.HP_SH_CTL n, 0, 2⟩
def HP_SH_CTL_WEB_CHAN (n : Nat) : Fld := ⟨R.HP_SH_CTL n, 2, 2⟩
def HP_SH_CTL_NPASS (n : Nat) : Fld := ⟨R.HP_SH_CTL n, 4, 4⟩
def HP_SH_CTL_ABS_CHK (n : Nat) : Fld := ⟨R.HP_SH_CTL n, 8, 1⟩
def HP_SH_CTL_ABS_SEL (n : Nat) : Fld := ⟨R.HP_SH_CTL n, 9, 1⟩
def HP_SH_CTL_ABS_WIN (n : Nat) : Fld := ⟨R.HP_SH_CTL n, 16, 16⟩
def HP_SH_START_SH_START (n : Nat) : Fld := ⟨R.HP_SH_START n, 0, 32⟩
def HP_SH_LIM_SH_BACK (n : Nat) : Fld := ⟨R.HP_SH_LIM n, 0, 16⟩
def HP_SH_LIM_FEED_TOL (n : Nat) : Fld := ⟨R.HP_SH_LIM n, 16, 16⟩
def HP_SH_ABS_REF (n : Nat) : Fld := ⟨R.HP_SH_ABS n, 0, 32⟩
def HP_FEED_X_X_OFS (n : Nat) (f : Nat) : Fld := ⟨R.HP_FEED_X n f, 0, 32⟩
def HP_FEED_M_MASK (n : Nat) (f : Nat) : Fld := ⟨R.HP_FEED_M n f, 0, 16⟩
def HP_FEED_M_FEED (n : Nat) (f : Nat) : Fld := ⟨R.HP_FEED_M n f, 16, 16⟩
def PP_CTL_EN (n : Nat) : Fld := ⟨R.PP_CTL n, 0, 1⟩
def PP_CTL_FMT (n : Nat) : Fld := ⟨R.PP_CTL n, 1, 3⟩
def PP_CTL_EDGE (n : Nat) : Fld := ⟨R.PP_CTL n, 4, 1⟩
def PP_CTL_HS_POL (n : Nat) : Fld := ⟨R.PP_CTL n, 5, 1⟩
def PP_CTL_VS_POL (n : Nat) : Fld := ⟨R.PP_CTL n, 6, 1⟩
def PP_CTL_DE_POL (n : Nat) : Fld := ⟨R.PP_CTL n, 7, 1⟩
def PP_CTL_SYNC_MODE (n : Nat) : Fld := ⟨R.PP_CTL n, 8, 1⟩
def PP_CTL_CTX (n : Nat) : Fld := ⟨R.PP_CTL n, 9, 2⟩
def PP_CTL_TAG_CHAN (n : Nat) : Fld := ⟨R.PP_CTL n, 11, 2⟩
def PP_GEOM_WIDTH (n : Nat) : Fld := ⟨R.PP_GEOM n, 0, 14⟩
def PP_GEOM_HEIGHT (n : Nat) : Fld := ⟨R.PP_GEOM n, 16, 14⟩
def PP_BUF0_ADDR (n : Nat) : Fld := ⟨R.PP_BUF0 n, 0, 32⟩
def PP_BUF1_ADDR (n : Nat) : Fld := ⟨R.PP_BUF1 n, 0, 32⟩
def PP_STAT_FRAME_DROP (n : Nat) : Fld := ⟨R.PP_STAT n, 0, 1⟩
def PP_STAT_SHORT_FRAME (n : Nat) : Fld := ⟨R.PP_STAT n, 1, 1⟩
def PP_STAT_LONG_FRAME (n : Nat) : Fld := ⟨R.PP_STAT n, 2, 1⟩
def PP_STAT_LINE_ERR (n : Nat) : Fld := ⟨R.PP_STAT n, 3, 1⟩
def PP_STAT_OVF (n : Nat) : Fld := ⟨R.PP_STAT n, 4, 1⟩
def PP_STAT_HELD0 (n : Nat) : Fld := ⟨R.PP_STAT n, 16, 1⟩
def PP_STAT_HELD1 (n : Nat) : Fld := ⟨R.PP_STAT n, 17, 1⟩
def PP_CNT_DROP_CNT (n : Nat) : Fld := ⟨R.PP_CNT n, 0, 16⟩
def PP_CNT_ERR_CNT (n : Nat) : Fld := ⟨R.PP_CNT n, 16, 15⟩
def PP_CNT_SAT (n : Nat) : Fld := ⟨R.PP_CNT n, 31, 1⟩
def PP_FRAMES_CNT (n : Nat) : Fld := ⟨R.PP_FRAMES n, 0, 32⟩
def ISP_CTL_EN : Fld := ⟨R.ISP_CTL, 0, 1⟩
def ISP_CTL_QID : Fld := ⟨R.ISP_CTL, 1, 5⟩
def ISP_STAT_OUT_SKIP : Fld := ⟨R.ISP_STAT, 0, 1⟩
def ISP_STAT_BUSY : Fld := ⟨R.ISP_STAT, 1, 1⟩
def ISP_STAT_PORT : Fld := ⟨R.ISP_STAT, 2, 1⟩
def ISP_STAT_CROP_CLIP : Fld := ⟨R.ISP_STAT, 3, 1⟩
def ISP_CTX_CTL_CFA (c : Nat) : Fld := ⟨R.ISP_CTX_CTL c, 0, 2⟩
def ISP_CTX_CTL_OUT_EN (c : Nat) : Fld := ⟨R.ISP_CTX_CTL c, 2, 3⟩
def ISP_CTX_CTL_DS (c : Nat) : Fld := ⟨R.ISP_CTX_CTL c, 5, 2⟩
def ISP_CTX_CTL_GAMMA_EN (c : Nat) : Fld := ⟨R.ISP_CTX_CTL c, 7, 1⟩
def ISP_CTX_CTL_NSLOT (c : Nat) : Fld := ⟨R.ISP_CTX_CTL c, 8, 4⟩
def ISP_CTX_CTL_HIST_SRC (c : Nat) : Fld := ⟨R.ISP_CTX_CTL c, 12, 2⟩
def ISP_CTX_BLK_BLK (c : Nat) : Fld := ⟨R.ISP_CTX_BLK c, 0, 16⟩
def ISP_CTX_WB0_WB_R (c : Nat) : Fld := ⟨R.ISP_CTX_WB0 c, 0, 16⟩
def ISP_CTX_WB0_WB_G (c : Nat) : Fld := ⟨R.ISP_CTX_WB0 c, 16, 16⟩
def ISP_CTX_WB1_WB_B (c : Nat) : Fld := ⟨R.ISP_CTX_WB1 c, 0, 16⟩
def ISP_CTX_CM0_LO (c : Nat) : Fld := ⟨R.ISP_CTX_CM0 c, 0, 16⟩
def ISP_CTX_CM0_HI (c : Nat) : Fld := ⟨R.ISP_CTX_CM0 c, 16, 16⟩
def ISP_CTX_CM1_LO (c : Nat) : Fld := ⟨R.ISP_CTX_CM1 c, 0, 16⟩
def ISP_CTX_CM1_HI (c : Nat) : Fld := ⟨R.ISP_CTX_CM1 c, 16, 16⟩
def ISP_CTX_CM2_LO (c : Nat) : Fld := ⟨R.ISP_CTX_CM2 c, 0, 16⟩
def ISP_CTX_CM2_HI (c : Nat) : Fld := ⟨R.ISP_CTX_CM2 c, 16, 16⟩
def ISP_CTX_CM3_LO (c : Nat) : Fld := ⟨R.ISP_CTX_CM3 c, 0, 16⟩
def ISP_CTX_CM3_HI (c : Nat) : Fld := ⟨R.ISP_CTX_CM3 c, 16, 16⟩
def ISP_CTX_CM4_LO (c : Nat) : Fld := ⟨R.ISP_CTX_CM4 c, 0, 16⟩
def ISP_CTX_CROP0_X0 (c : Nat) : Fld := ⟨R.ISP_CTX_CROP0 c, 0, 13⟩
def ISP_CTX_CROP0_Y0 (c : Nat) : Fld := ⟨R.ISP_CTX_CROP0 c, 16, 13⟩
def ISP_CTX_CROP1_W (c : Nat) : Fld := ⟨R.ISP_CTX_CROP1 c, 0, 13⟩
def ISP_CTX_CROP1_H (c : Nat) : Fld := ⟨R.ISP_CTX_CROP1 c, 16, 13⟩
def ISP_CTX_OUTB_ADDR (c : Nat) : Fld := ⟨R.ISP_CTX_OUTB c, 0, 32⟩
def ISP_CTX_SLOT_SIZE (c : Nat) : Fld := ⟨R.ISP_CTX_SLOT c, 0, 32⟩
def ISP_CTX_WR_SLOT (c : Nat) : Fld := ⟨R.ISP_CTX_WR c, 0, 5⟩
def ISP_CTX_RD_SLOT (c : Nat) : Fld := ⟨R.ISP_CTX_RD c, 0, 5⟩
def TIME_CTL_UP_PORT : Fld := ⟨R.TIME_CTL, 0, 2⟩
def TIME_CTL_UP_EN : Fld := ⟨R.TIME_CTL, 2, 1⟩
def TIME_CTL_STEP_FROM_UP : Fld := ⟨R.TIME_CTL, 4, 1⟩
def TIME_CTL_PERIOD : Fld := ⟨R.TIME_CTL, 8, 8⟩
def TIME_STAT_SRC : Fld := ⟨R.TIME_STAT, 0, 1⟩
def TIME_STAT_PLL_LOCK : Fld := ⟨R.TIME_STAT, 1, 1⟩
def TIME_STAT_SEED_DONE : Fld := ⟨R.TIME_STAT, 2, 1⟩
def TIME_STAT_SEEDED : Fld := ⟨R.TIME_STAT, 3, 1⟩
def TIME_STAT_STEP_LOCKED : Fld := ⟨R.TIME_STAT, 4, 1⟩
def TIME_STAT_ADJ_BUSY : Fld := ⟨R.TIME_STAT, 5, 1⟩
def TIME_STAT_UP_VALID : Fld := ⟨R.TIME_STAT, 6, 1⟩
def TIME_STAT_UP_LOST : Fld := ⟨R.TIME_STAT, 7, 1⟩
def TIME_NOW_LO_VALUE : Fld := ⟨R.TIME_NOW_LO, 0, 32⟩
def TIME_NOW_HI_VALUE : Fld := ⟨R.TIME_NOW_HI, 0, 32⟩
def TIME_NOW_FRAC_VALUE : Fld := ⟨R.TIME_NOW_FRAC, 0, 16⟩
def TIME_STEP_LO_VALUE : Fld := ⟨R.TIME_STEP_LO, 0, 32⟩
def TIME_STEP_HI_VALUE : Fld := ⟨R.TIME_STEP_HI, 0, 32⟩
def TIME_RATE_VALUE : Fld := ⟨R.TIME_RATE, 0, 32⟩
def TIME_ADJ_RATE_VALUE : Fld := ⟨R.TIME_ADJ_RATE, 0, 32⟩
def TIME_ADJ_TICKS_TICKS : Fld := ⟨R.TIME_ADJ_TICKS, 0, 32⟩
def TIME_UP_OFS_LO_VALUE : Fld := ⟨R.TIME_UP_OFS_LO, 0, 32⟩
def TIME_UP_OFS_HI_VALUE : Fld := ⟨R.TIME_UP_OFS_HI, 0, 32⟩
def TIME_UP_DLY_VALUE : Fld := ⟨R.TIME_UP_DLY, 0, 32⟩
def TIME_UP_CNT_OK_CNT : Fld := ⟨R.TIME_UP_CNT, 0, 16⟩
def TIME_UP_CNT_LOST_CNT : Fld := ⟨R.TIME_UP_CNT, 16, 15⟩
def TIME_UP_CNT_SAT : Fld := ⟨R.TIME_UP_CNT, 31, 1⟩
def TIME_EP_LAT_RX_LAT (n : Nat) : Fld := ⟨R.TIME_EP_LAT n, 0, 16⟩
def TIME_EP_LAT_TX_LAT (n : Nat) : Fld := ⟨R.TIME_EP_LAT n, 16, 16⟩
def TIME_EP_PTP_L2 (n : Nat) : Fld := ⟨R.TIME_EP_PTP n, 0, 1⟩
def TIME_EP_PTP_UDP4 (n : Nat) : Fld := ⟨R.TIME_EP_PTP n, 1, 1⟩
def TIME_EP_PTP_UDP6 (n : Nat) : Fld := ⟨R.TIME_EP_PTP n, 2, 1⟩
def TIME_EP_LCTL_DROP_LATE (n : Nat) : Fld := ⟨R.TIME_EP_LCTL n, 0, 1⟩
def TIME_EP_LCTL_LATE_TOL (n : Nat) : Fld := ⟨R.TIME_EP_LCTL n, 16, 16⟩
def TIME_EP_LSTAT_DEPTH (n : Nat) : Fld := ⟨R.TIME_EP_LSTAT n, 0, 7⟩
def TIME_EP_LSTAT_LATE_LAUNCH (n : Nat) : Fld := ⟨R.TIME_EP_LSTAT n, 8, 1⟩
def TIME_EP_LSTAT_LATE_DROP (n : Nat) : Fld := ⟨R.TIME_EP_LSTAT n, 9, 1⟩
def TIME_EP_LSTAT_FULL (n : Nat) : Fld := ⟨R.TIME_EP_LSTAT n, 10, 1⟩
def TIME_EP_LCNT_LATE_CNT (n : Nat) : Fld := ⟨R.TIME_EP_LCNT n, 0, 16⟩
def TIME_EP_LCNT_DROP_CNT (n : Nat) : Fld := ⟨R.TIME_EP_LCNT n, 16, 15⟩
def TIME_EP_LCNT_SAT (n : Nat) : Fld := ⟨R.TIME_EP_LCNT n, 31, 1⟩
def RTC_SEC_LO_SEC : Fld := ⟨R.RTC_SEC_LO, 0, 32⟩
def RTC_SEC_HI_SEC : Fld := ⟨R.RTC_SEC_HI, 0, 8⟩
def RTC_SEC_HI_SUB : Fld := ⟨R.RTC_SEC_HI, 16, 15⟩
def RTC_CTL_SET : Fld := ⟨R.RTC_CTL, 0, 1⟩
def RTC_CTL_SYNC : Fld := ⟨R.RTC_CTL, 1, 1⟩
def RTC_CTL_TRIM : Fld := ⟨R.RTC_CTL, 8, 8⟩
def RTC_SET_LO_SEC : Fld := ⟨R.RTC_SET_LO, 0, 32⟩
def RTC_SET_HI_SEC : Fld := ⟨R.RTC_SET_HI, 0, 8⟩
def RTC_SET_HI_SUB : Fld := ⟨R.RTC_SET_HI, 16, 15⟩
def RTC_STAT_VALID : Fld := ⟨R.RTC_STAT, 0, 1⟩
def RTC_STAT_OSC_STOP : Fld := ⟨R.RTC_STAT, 1, 1⟩
def RTC_STAT_VBAT_LOW : Fld := ⟨R.RTC_STAT, 2, 1⟩
def SDF_CTL_FSYNC_EN : Fld := ⟨R.SDF_CTL, 0, 1⟩
def SDF_CTL_FSYNC_POL : Fld := ⟨R.SDF_CTL, 1, 1⟩
def SDF_CTL_SW_SYNC : Fld := ⟨R.SDF_CTL, 2, 1⟩
def SDF_STAT_SYNC_SEEN : Fld := ⟨R.SDF_STAT, 0, 1⟩
def SDF_STAT_SYNC_CNT : Fld := ⟨R.SDF_STAT, 16, 16⟩
def SDF_GRP_CTL_MODE (g : Nat) : Fld := ⟨R.SDF_GRP_CTL g, 0, 2⟩
def SDF_GRP_CTL_EDGE (g : Nat) : Fld := ⟨R.SDF_GRP_CTL g, 2, 1⟩
def SDF_GRP_CTL_DIV (g : Nat) : Fld := ⟨R.SDF_GRP_CTL g, 8, 8⟩
def SDF_GRP_PER_PER (g : Nat) : Fld := ⟨R.SDF_GRP_PER g, 0, 32⟩
def SDF_GRP_STAT_RUN (g : Nat) : Fld := ⟨R.SDF_GRP_STAT g, 0, 1⟩
def SDF_GRP_STAT_CLK_LOST (g : Nat) : Fld := ⟨R.SDF_GRP_STAT g, 1, 1⟩
def SDF_GRP_STAT_CLK_RANGE (g : Nat) : Fld := ⟨R.SDF_GRP_STAT g, 2, 1⟩
def SDF_CH_CTL_EN (n : Nat) : Fld := ⟨R.SDF_CH_CTL n, 0, 1⟩
def SDF_CH_CTL_INV (n : Nat) : Fld := ⟨R.SDF_CH_CTL n, 1, 1⟩
def SDF_CH_CTL_K (n : Nat) : Fld := ⟨R.SDF_CH_CTL n, 2, 2⟩
def SDF_CH_CTL_M (n : Nat) : Fld := ⟨R.SDF_CH_CTL n, 4, 9⟩
def SDF_CH_CTL_NHB (n : Nat) : Fld := ⟨R.SDF_CH_CTL n, 13, 2⟩
def SDF_CH_CTL_FIR_EN (n : Nat) : Fld := ⟨R.SDF_CH_CTL n, 15, 1⟩
def SDF_CH_CTL_FD (n : Nat) : Fld := ⟨R.SDF_CH_CTL n, 16, 2⟩
def SDF_CH_SH_SH0 (n : Nat) : Fld := ⟨R.SDF_CH_SH n, 0, 5⟩
def SDF_CH_SH_SH1 (n : Nat) : Fld := ⟨R.SDF_CH_SH n, 8, 5⟩
def SDF_CH_SH_SH2 (n : Nat) : Fld := ⟨R.SDF_CH_SH n, 16, 5⟩
def SDF_CH_SH_SH3 (n : Nat) : Fld := ⟨R.SDF_CH_SH n, 24, 5⟩
def SDF_CH_FIR_NT (n : Nat) : Fld := ⟨R.SDF_CH_FIR n, 0, 7⟩
def SDF_CH_FIR_GD (n : Nat) : Fld := ⟨R.SDF_CH_FIR n, 8, 7⟩
def SDF_CH_GD_G2 (n : Nat) : Fld := ⟨R.SDF_CH_GD n, 0, 18⟩
def SDF_CH_DATA_VALUE (n : Nat) : Fld := ⟨R.SDF_CH_DATA n, 0, 32⟩
def SDF_CH_TS_VALUE (n : Nat) : Fld := ⟨R.SDF_CH_TS n, 0, 32⟩
def SDF_CH_SEQ_SEQ (n : Nat) : Fld := ⟨R.SDF_CH_SEQ n, 0, 16⟩
def SDF_CH_STAT_SAT0_SAT3 (n : Nat) : Fld := ⟨R.SDF_CH_STAT n, 0, 4⟩
def SDF_CH_STAT_SETTLING (n : Nat) : Fld := ⟨R.SDF_CH_STAT n, 4, 1⟩
def SDF_CH_STAT_SAT_CNT (n : Nat) : Fld := ⟨R.SDF_CH_STAT n, 16, 15⟩
def SDF_CH_STAT_SAT (n : Nat) : Fld := ⟨R.SDF_CH_STAT n, 31, 1⟩
def DMC_CFG_NCH : Fld := ⟨R.DMC_CFG, 0, 1⟩
def DMC_CFG_DONE : Fld := ⟨R.DMC_CFG, 1, 1⟩
def DMC_INSTALLED_MIB : Fld := ⟨R.DMC_INSTALLED, 0, 19⟩
def DMC_INSTALLED_VALID : Fld := ⟨R.DMC_INSTALLED, 31, 1⟩
def DMC_CH_CFG_X4 (c : Nat) : Fld := ⟨R.DMC_CH_CFG c, 0, 1⟩
def DMC_CH_CFG_D16 (c : Nat) : Fld := ⟨R.DMC_CH_CFG c, 1, 1⟩
def DMC_CH_CFG_RANKS2 (c : Nat) : Fld := ⟨R.DMC_CH_CFG c, 2, 1⟩
def DMC_CH_CFG_RDIMM (c : Nat) : Fld := ⟨R.DMC_CH_CFG c, 3, 1⟩
def DMC_CH_CFG_SPARE_RANK (c : Nat) : Fld := ⟨R.DMC_CH_CFG c, 4, 1⟩
def DMC_CH_CTL_INIT (c : Nat) : Fld := ⟨R.DMC_CH_CTL c, 0, 1⟩
def DMC_CH_CTL_DLY_APPLY (c : Nat) : Fld := ⟨R.DMC_CH_CTL c, 1, 1⟩
def DMC_CH_CTL_REF2X (c : Nat) : Fld := ⟨R.DMC_CH_CTL c, 2, 1⟩
def DMC_CH_CTL_DEMAND_WB (c : Nat) : Fld := ⟨R.DMC_CH_CTL c, 3, 1⟩
def DMC_CH_CTL_PD_TIMER (c : Nat) : Fld := ⟨R.DMC_CH_CTL c, 4, 8⟩
def DMC_CH_CTL_PG_IDLE (c : Nat) : Fld := ⟨R.DMC_CH_CTL c, 12, 12⟩
def DMC_CH_STAT_STATE (c : Nat) : Fld := ⟨R.DMC_CH_STAT c, 0, 3⟩
def DMC_CH_STAT_CHK_FAIL (c : Nat) : Fld := ⟨R.DMC_CH_STAT c, 3, 1⟩
def DMC_CH_STAT_UE (c : Nat) : Fld := ⟨R.DMC_CH_STAT c, 4, 1⟩
def DMC_CH_STAT_PG_RET (c : Nat) : Fld := ⟨R.DMC_CH_STAT c, 5, 1⟩
def DMC_CH_STAT_SPARE_FULL (c : Nat) : Fld := ⟨R.DMC_CH_STAT c, 6, 1⟩
def DMC_CH_STAT_RANK_FAIL (c : Nat) : Fld := ⟨R.DMC_CH_STAT c, 7, 1⟩
def DMC_CH_STAT_RANK_RET (c : Nat) : Fld := ⟨R.DMC_CH_STAT c, 8, 1⟩
def DMC_CH_STAT_THERM (c : Nat) : Fld := ⟨R.DMC_CH_STAT c, 9, 1⟩
def DMC_CH_STAT_DLY_PEND (c : Nat) : Fld := ⟨R.DMC_CH_STAT c, 10, 1⟩
def DMC_CH_TIM0_tCL (c : Nat) : Fld := ⟨R.DMC_CH_TIM0 c, 0, 6⟩
def DMC_CH_TIM0_tCWL (c : Nat) : Fld := ⟨R.DMC_CH_TIM0 c, 6, 6⟩
def DMC_CH_TIM0_tRCD (c : Nat) : Fld := ⟨R.DMC_CH_TIM0 c, 12, 6⟩
def DMC_CH_TIM0_tRP (c : Nat) : Fld := ⟨R.DMC_CH_TIM0 c, 18, 6⟩
def DMC_CH_TIM0_tRAS (c : Nat) : Fld := ⟨R.DMC_CH_TIM0 c, 24, 7⟩
def DMC_CH_TIM1_tRFC (c : Nat) : Fld := ⟨R.DMC_CH_TIM1 c, 0, 11⟩
def DMC_CH_TIM1_tFAW (c : Nat) : Fld := ⟨R.DMC_CH_TIM1 c, 11, 7⟩
def DMC_CH_TIM1_tRRD_S (c : Nat) : Fld := ⟨R.DMC_CH_TIM1 c, 18, 4⟩
def DMC_CH_TIM1_tRRD_L (c : Nat) : Fld := ⟨R.DMC_CH_TIM1 c, 22, 4⟩
def DMC_CH_TIM1_tWR (c : Nat) : Fld := ⟨R.DMC_CH_TIM1 c, 26, 6⟩
def DMC_CH_TIM2_tWTR_S (c : Nat) : Fld := ⟨R.DMC_CH_TIM2 c, 0, 4⟩
def DMC_CH_TIM2_tWTR_L (c : Nat) : Fld := ⟨R.DMC_CH_TIM2 c, 4, 4⟩
def DMC_CH_TIM2_tCCD_L (c : Nat) : Fld := ⟨R.DMC_CH_TIM2 c, 8, 4⟩
def DMC_CH_TIM2_tRTP (c : Nat) : Fld := ⟨R.DMC_CH_TIM2 c, 12, 5⟩
def DMC_CH_MR0_VALUE (c : Nat) : Fld := ⟨R.DMC_CH_MR0 c, 0, 18⟩
def DMC_CH_MR1_VALUE (c : Nat) : Fld := ⟨R.DMC_CH_MR1 c, 0, 18⟩
def DMC_CH_MR2_VALUE (c : Nat) : Fld := ⟨R.DMC_CH_MR2 c, 0, 18⟩
def DMC_CH_MR3_VALUE (c : Nat) : Fld := ⟨R.DMC_CH_MR3 c, 0, 18⟩
def DMC_CH_MR4_VALUE (c : Nat) : Fld := ⟨R.DMC_CH_MR4 c, 0, 18⟩
def DMC_CH_MR5_VALUE (c : Nat) : Fld := ⟨R.DMC_CH_MR5 c, 0, 18⟩
def DMC_CH_MR6_VALUE (c : Nat) : Fld := ⟨R.DMC_CH_MR6 c, 0, 18⟩
def DMC_CH_MR6_RCW (c : Nat) : Fld := ⟨R.DMC_CH_MR6 c, 18, 14⟩
def DMC_CH_ECC_CNT_CE_CNT (c : Nat) : Fld := ⟨R.DMC_CH_ECC_CNT c, 0, 16⟩
def DMC_CH_ECC_CNT_UE_CNT (c : Nat) : Fld := ⟨R.DMC_CH_ECC_CNT c, 16, 15⟩
def DMC_CH_ECC_CNT_SAT (c : Nat) : Fld := ⟨R.DMC_CH_ECC_CNT c, 31, 1⟩
def DMC_CH_ERR_ADDR_LO_VALUE (c : Nat) : Fld := ⟨R.DMC_CH_ERR_ADDR_LO c, 0, 32⟩
def DMC_CH_ERR_ADDR_HI_VALUE (c : Nat) : Fld := ⟨R.DMC_CH_ERR_ADDR_HI c, 0, 6⟩
def DMC_CH_ERR_ADDR_HI_VALID (c : Nat) : Fld := ⟨R.DMC_CH_ERR_ADDR_HI c, 31, 1⟩
def DMC_CH_ERR_SYN_VALUE (c : Nat) : Fld := ⟨R.DMC_CH_ERR_SYN c, 0, 8⟩
def DMC_CH_SCRUB_HOURS (c : Nat) : Fld := ⟨R.DMC_CH_SCRUB c, 0, 8⟩
def DMC_CH_SCRUB_POS (c : Nat) : Fld := ⟨R.DMC_CH_SCRUB c, 8, 24⟩
def DMC_CH_SPARE_MIB (c : Nat) : Fld := ⟨R.DMC_CH_SPARE c, 0, 8⟩
def DMC_CH_SPARE_PG_THR (c : Nat) : Fld := ⟨R.DMC_CH_SPARE c, 8, 6⟩
def DMC_CH_SPARE_COPY_SHARE (c : Nat) : Fld := ⟨R.DMC_CH_SPARE c, 14, 8⟩
def DMC_CH_SPARE_RANK_THR (c : Nat) : Fld := ⟨R.DMC_CH_SPARE c, 22, 6⟩
def DMC_CH_USE_USED (c : Nat) : Fld := ⟨R.DMC_CH_USE c, 0, 10⟩
def DMC_CH_USE_FWD_CNT (c : Nat) : Fld := ⟨R.DMC_CH_USE c, 16, 16⟩
def DMC_RT_CFG_PANIC1 (p : Nat) : Fld := ⟨R.DMC_RT_CFG p, 0, 12⟩
def DMC_RT_CFG_PANIC2 (p : Nat) : Fld := ⟨R.DMC_RT_CFG p, 12, 12⟩
def DMC_RT_CFG_OWNER (p : Nat) : Fld := ⟨R.DMC_RT_CFG p, 24, 4⟩
def DMC_RT_CFG_CAM (p : Nat) : Fld := ⟨R.DMC_RT_CFG p, 28, 4⟩
def DMC_RT_STAT_LEVEL (p : Nat) : Fld := ⟨R.DMC_RT_STAT p, 0, 12⟩
def DMC_RT_STAT_CLASS (p : Nat) : Fld := ⟨R.DMC_RT_STAT p, 12, 2⟩
def DMC_RT_STAT_P2_CNT (p : Nat) : Fld := ⟨R.DMC_RT_STAT p, 16, 16⟩
def DM_SRC_LO_ADDR (n : Nat) : Fld := ⟨R.DM_SRC_LO n, 0, 32⟩
def DM_SRC_HI_ADDR (n : Nat) : Fld := ⟨R.DM_SRC_HI n, 0, 32⟩
def DM_DST_LO_ADDR (n : Nat) : Fld := ⟨R.DM_DST_LO n, 0, 32⟩
def DM_DST_HI_ADDR (n : Nat) : Fld := ⟨R.DM_DST_HI n, 0, 32⟩
def DM_CNT_CNT (n : Nat) : Fld := ⟨R.DM_CNT n, 0, 32⟩
def DM_CTL_START (n : Nat) : Fld := ⟨R.DM_CTL n, 0, 1⟩
def DM_CTL_ABORT (n : Nat) : Fld := ⟨R.DM_CTL n, 1, 1⟩
def DM_CTL_QID (n : Nat) : Fld := ⟨R.DM_CTL n, 2, 5⟩
def DM_CFG_MODE (n : Nat) : Fld := ⟨R.DM_CFG n, 0, 1⟩
def DM_CFG_SW (n : Nat) : Fld := ⟨R.DM_CFG n, 1, 3⟩
def DM_CFG_DW (n : Nat) : Fld := ⟨R.DM_CFG n, 4, 3⟩
def DM_CFG_SRC_INC (n : Nat) : Fld := ⟨R.DM_CFG n, 7, 1⟩
def DM_CFG_SRC_SPACE (n : Nat) : Fld := ⟨R.DM_CFG n, 8, 2⟩
def DM_CFG_DST_SPACE (n : Nat) : Fld := ⟨R.DM_CFG n, 10, 2⟩
def DM_CFG_HINT (n : Nat) : Fld := ⟨R.DM_CFG n, 12, 1⟩
def DM_CFG_COMP (n : Nat) : Fld := ⟨R.DM_CFG n, 13, 2⟩
def DM_CFG_CC (n : Nat) : Fld := ⟨R.DM_CFG n, 15, 4⟩
def DM_CFG_SHARE_M1 (n : Nat) : Fld := ⟨R.DM_CFG n, 20, 8⟩
def DM_STAT_BUSY (n : Nat) : Fld := ⟨R.DM_STAT n, 0, 1⟩
def DM_STAT_DONE (n : Nat) : Fld := ⟨R.DM_STAT n, 1, 1⟩
def DM_STAT_ABORTED (n : Nat) : Fld := ⟨R.DM_STAT n, 2, 1⟩
def DM_STAT_ABORT_LATE (n : Nat) : Fld := ⟨R.DM_STAT n, 3, 1⟩
def DM_STAT_ERR (n : Nat) : Fld := ⟨R.DM_STAT n, 4, 1⟩
def DM_STAT_CAUSE (n : Nat) : Fld := ⟨R.DM_STAT n, 8, 4⟩
def DM_XFER_XFER (n : Nat) : Fld := ⟨R.DM_XFER n, 0, 32⟩
def DM_DEV_DEV_ID (n : Nat) : Fld := ⟨R.DM_DEV n, 0, 18⟩
def DMA_RWIN_LO_BASE : Fld := ⟨R.DMA_RWIN_LO, 20, 12⟩
def DMA_RWIN_HI_BASE : Fld := ⟨R.DMA_RWIN_HI, 0, 6⟩
def DMA_RWIN_HI_SIZE : Fld := ⟨R.DMA_RWIN_HI, 8, 16⟩
def DMA_SHARE_SUM : Fld := ⟨R.DMA_SHARE, 0, 9⟩
def DMA_RSTAT_REFUSED : Fld := ⟨R.DMA_RSTAT, 0, 16⟩
def DMA_RSTAT_SAT : Fld := ⟨R.DMA_RSTAT, 31, 1⟩
def CMP_CC_CFG0_D (n : Nat) : Fld := ⟨R.CMP_CC_CFG0 n, 0, 5⟩
def CMP_CC_CFG0_CHANS3 (n : Nat) : Fld := ⟨R.CMP_CC_CFG0 n, 8, 1⟩
def CMP_CC_CFG0_NSEG (n : Nat) : Fld := ⟨R.CMP_CC_CFG0 n, 16, 4⟩
def CMP_CC_FILL_FILL (n : Nat) : Fld := ⟨R.CMP_CC_FILL n, 0, 16⟩
def CMP_CC_GEOM0_WIDTH (n : Nat) : Fld := ⟨R.CMP_CC_GEOM0 n, 0, 18⟩
def CMP_CC_GEOM1_ROWS (n : Nat) : Fld := ⟨R.CMP_CC_GEOM1 n, 0, 21⟩
def CMP_CC_STAT_CRC_BAD (n : Nat) : Fld := ⟨R.CMP_CC_STAT n, 0, 1⟩
def CMP_CC_STAT_RESERVED_BY (n : Nat) : Fld := ⟨R.CMP_CC_STAT n, 1, 1⟩
def CMP_CC_STAT_BUSY (n : Nat) : Fld := ⟨R.CMP_CC_STAT n, 2, 1⟩
def CMP_CC_STAT_BAD_CNT (n : Nat) : Fld := ⟨R.CMP_CC_STAT n, 16, 15⟩
def CMP_CC_STAT_SAT (n : Nat) : Fld := ⟨R.CMP_CC_STAT n, 31, 1⟩
def CMP_CC_RAW_UNITS (n : Nat) : Fld := ⟨R.CMP_CC_RAW n, 0, 32⟩
def CMP_CC_COD_UNITS (n : Nat) : Fld := ⟨R.CMP_CC_COD n, 0, 32⟩
def CMP_MX_CNT_TILES : Fld := ⟨R.CMP_MX_CNT, 0, 16⟩
def CMP_MX_CNT_BAD : Fld := ⟨R.CMP_MX_CNT, 16, 15⟩
def CMP_MX_CNT_SAT : Fld := ⟨R.CMP_MX_CNT, 31, 1⟩
def HQ_BASE_LO_ADDR (n : Nat) : Fld := ⟨R.HQ_BASE_LO n, 12, 20⟩
def HQ_BASE_HI_ADDR (n : Nat) : Fld := ⟨R.HQ_BASE_HI n, 0, 32⟩
def HQ_CFG_SIZE (n : Nat) : Fld := ⟨R.HQ_CFG n, 0, 5⟩
def HQ_CFG_EN (n : Nat) : Fld := ⟨R.HQ_CFG n, 5, 1⟩
def HQ_CFG_VEC (n : Nat) : Fld := ⟨R.HQ_CFG n, 6, 6⟩
def HQ_CFG_CQ (n : Nat) : Fld := ⟨R.HQ_CFG n, 12, 5⟩
def HQ_CFG_ITHR (n : Nat) : Fld := ⟨R.HQ_CFG n, 17, 8⟩
def HQ_HEAD_OFS (n : Nat) : Fld := ⟨R.HQ_HEAD n, 0, 26⟩
def HQ_TAIL_OFS (n : Nat) : Fld := ⟨R.HQ_TAIL n, 0, 26⟩
def HQ_WB_LO_ADDR (n : Nat) : Fld := ⟨R.HQ_WB_LO n, 3, 29⟩
def HQ_WB_HI_ADDR (n : Nat) : Fld := ⟨R.HQ_WB_HI n, 0, 32⟩
def HQ_ITIME_US (n : Nat) : Fld := ⟨R.HQ_ITIME n, 0, 16⟩
def HQ_STAT_HALT (n : Nat) : Fld := ⟨R.HQ_STAT n, 0, 1⟩
def HQ_STAT_HDR_ERR (n : Nat) : Fld := ⟨R.HQ_STAT n, 1, 1⟩
def HQ_STAT_CQ_WAIT (n : Nat) : Fld := ⟨R.HQ_STAT n, 2, 1⟩
def HQ_STAT_FULL (n : Nat) : Fld := ⟨R.HQ_STAT n, 3, 1⟩
def HQ_STAT_CRED_LATE (n : Nat) : Fld := ⟨R.HQ_STAT n, 4, 1⟩
def HQ_STAT_DROP (n : Nat) : Fld := ⟨R.HQ_STAT n, 5, 1⟩
def HQ_STAT_DROP_CNT (n : Nat) : Fld := ⟨R.HQ_STAT n, 16, 15⟩
def HQ_STAT_SAT (n : Nat) : Fld := ⟨R.HQ_STAT n, 31, 1⟩
def HQ_EVT_VEC_IRQ0 : Fld := ⟨R.HQ_EVT_VEC, 0, 6⟩
def HQ_EVT_VEC_IRQ1 : Fld := ⟨R.HQ_EVT_VEC, 8, 6⟩
def HQ_EVT_VEC_IRQ2 : Fld := ⟨R.HQ_EVT_VEC, 16, 6⟩
def HQ_EVT_VEC_IRQ3 : Fld := ⟨R.HQ_EVT_VEC, 24, 6⟩
def HQ_EVT_CFG_FLT_VEC : Fld := ⟨R.HQ_EVT_CFG, 0, 6⟩
def HQ_EVT_CFG_FLT_EN : Fld := ⟨R.HQ_EVT_CFG, 6, 1⟩
def HQ_EVT_PEND_IRQ : Fld := ⟨R.HQ_EVT_PEND, 0, 4⟩
def HQ_EVT_PEND_FLT : Fld := ⟨R.HQ_EVT_PEND, 4, 1⟩
def HQ_PK_IGN_CNT : Fld := ⟨R.HQ_PK_IGN, 0, 16⟩
def HQ_PK_IGN_SAT : Fld := ⟨R.HQ_PK_IGN, 31, 1⟩
def HQ_PK_IGN_OFS_OFFSET : Fld := ⟨R.HQ_PK_IGN_OFS, 0, 26⟩
def HQ_CXP_CFG_QID : Fld := ⟨R.HQ_CXP_CFG, 0, 5⟩
def HQ_CXP_CFG_EN : Fld := ⟨R.HQ_CXP_CFG, 5, 1⟩
def HQ_PCIE_SPEED : Fld := ⟨R.HQ_PCIE, 0, 3⟩
def HQ_PCIE_WIDTH : Fld := ⟨R.HQ_PCIE, 3, 5⟩
def HQ_PCIE_BME : Fld := ⟨R.HQ_PCIE, 8, 1⟩
def ETH_EP_MAC_LO_MAC (n : Nat) : Fld := ⟨R.ETH_EP_MAC_LO n, 0, 32⟩
def ETH_EP_MAC_HI_MAC (n : Nat) : Fld := ⟨R.ETH_EP_MAC_HI n, 0, 16⟩
def ETH_EP_RX_QID (n : Nat) : Fld := ⟨R.ETH_EP_RX n, 0, 5⟩
def ETH_EP_RX_EN (n : Nat) : Fld := ⟨R.ETH_EP_RX n, 5, 1⟩
def ETH_EP_RX_MC_ALL (n : Nat) : Fld := ⟨R.ETH_EP_RX n, 6, 1⟩
def ETH_EP_RX_PROMISC (n : Nat) : Fld := ⟨R.ETH_EP_RX n, 7, 1⟩
def ETH_EP_RXCNT_FCS_CNT (n : Nat) : Fld := ⟨R.ETH_EP_RXCNT n, 0, 16⟩
def ETH_EP_RXCNT_FILT_CNT (n : Nat) : Fld := ⟨R.ETH_EP_RXCNT n, 16, 15⟩
def ETH_EP_RXCNT_SAT (n : Nat) : Fld := ⟨R.ETH_EP_RXCNT n, 31, 1⟩
def TW_CTL_EN (n : Nat) : Fld := ⟨R.TW_CTL n, 0, 1⟩
def TW_CTL_SPEED (n : Nat) : Fld := ⟨R.TW_CTL n, 1, 2⟩
def TW_CTL_MC (n : Nat) : Fld := ⟨R.TW_CTL n, 3, 1⟩
def TW_CTL_BUSCLR (n : Nat) : Fld := ⟨R.TW_CTL n, 4, 1⟩
def TW_CTL_ABORT (n : Nat) : Fld := ⟨R.TW_CTL n, 5, 1⟩
def TW_XFER_ADDR (n : Nat) : Fld := ⟨R.TW_XFER n, 0, 7⟩
def TW_XFER_WLEN (n : Nat) : Fld := ⟨R.TW_XFER n, 8, 6⟩
def TW_XFER_RLEN (n : Nat) : Fld := ⟨R.TW_XFER n, 16, 6⟩
def TW_XFER_NOSTOP (n : Nat) : Fld := ⟨R.TW_XFER n, 24, 1⟩
def TW_XFER_PEC (n : Nat) : Fld := ⟨R.TW_XFER n, 25, 1⟩
def TW_XFER_BLOCK (n : Nat) : Fld := ⟨R.TW_XFER n, 26, 1⟩
def TW_XFER_GO (n : Nat) : Fld := ⟨R.TW_XFER n, 31, 1⟩
def TW_STAT_BUSY (n : Nat) : Fld := ⟨R.TW_STAT n, 0, 1⟩
def TW_STAT_DONE (n : Nat) : Fld := ⟨R.TW_STAT n, 1, 1⟩
def TW_STAT_RESULT (n : Nat) : Fld := ⟨R.TW_STAT n, 2, 4⟩
def TW_STAT_NACK_IDX (n : Nat) : Fld := ⟨R.TW_STAT n, 6, 5⟩
def TW_STAT_READY (n : Nat) : Fld := ⟨R.TW_STAT n, 11, 1⟩
def TW_STAT_BUS_CLEARED (n : Nat) : Fld := ⟨R.TW_STAT n, 12, 1⟩
def TW_STAT_STUCK_SDA (n : Nat) : Fld := ⟨R.TW_STAT n, 13, 1⟩
def TW_STAT_SCL_TO (n : Nat) : Fld := ⟨R.TW_STAT n, 14, 1⟩
def TW_STAT_SDA_TO (n : Nat) : Fld := ⟨R.TW_STAT n, 15, 1⟩
def TW_STAT_ARB_LOST (n : Nat) : Fld := ⟨R.TW_STAT n, 16, 1⟩
def TW_STAT_TGT_WR (n : Nat) : Fld := ⟨R.TW_STAT n, 17, 1⟩
def TW_STAT_SR_IN_ACK (n : Nat) : Fld := ⟨R.TW_STAT n, 18, 1⟩
def TW_STAT_NOTIFY_DONE (n : Nat) : Fld := ⟨R.TW_STAT n, 19, 1⟩
def TW_TXD0_DATA (n : Nat) : Fld := ⟨R.TW_TXD0 n, 0, 32⟩
def TW_TXD1_DATA (n : Nat) : Fld := ⟨R.TW_TXD1 n, 0, 32⟩
def TW_TXD2_DATA (n : Nat) : Fld := ⟨R.TW_TXD2 n, 0, 32⟩
def TW_TXD3_DATA (n : Nat) : Fld := ⟨R.TW_TXD3 n, 0, 32⟩
def TW_TXD4_DATA (n : Nat) : Fld := ⟨R.TW_TXD4 n, 0, 32⟩
def TW_TXD5_DATA (n : Nat) : Fld := ⟨R.TW_TXD5 n, 0, 32⟩
def TW_TXD6_DATA (n : Nat) : Fld := ⟨R.TW_TXD6 n, 0, 32⟩
def TW_TXD7_DATA (n : Nat) : Fld := ⟨R.TW_TXD7 n, 0, 32⟩
def TW_RXD0_DATA (n : Nat) : Fld := ⟨R.TW_RXD0 n, 0, 32⟩
def TW_RXD1_DATA (n : Nat) : Fld := ⟨R.TW_RXD1 n, 0, 32⟩
def TW_RXD2_DATA (n : Nat) : Fld := ⟨R.TW_RXD2 n, 0, 32⟩
def TW_RXD3_DATA (n : Nat) : Fld := ⟨R.TW_RXD3 n, 0, 32⟩
def TW_RXD4_DATA (n : Nat) : Fld := ⟨R.TW_RXD4 n, 0, 32⟩
def TW_RXD5_DATA (n : Nat) : Fld := ⟨R.TW_RXD5 n, 0, 32⟩
def TW_RXD6_DATA (n : Nat) : Fld := ⟨R.TW_RXD6 n, 0, 32⟩
def TW_RXD7_DATA (n : Nat) : Fld := ⟨R.TW_RXD7 n, 0, 32⟩
def TW_CNT_ERR_CNT (n : Nat) : Fld := ⟨R.TW_CNT n, 0, 16⟩
def TW_CNT_CLR_CNT (n : Nat) : Fld := ⟨R.TW_CNT n, 16, 15⟩
def TW_CNT_SAT (n : Nat) : Fld := ⟨R.TW_CNT n, 31, 1⟩
def TW3_TGT_CFG_TGT_ADDR : Fld := ⟨R.TW3_TGT_CFG, 0, 7⟩
def TW3_TGT_CFG_NOTIFY_ADDR : Fld := ⟨R.TW3_TGT_CFG, 8, 7⟩
def TW3_TGT_CFG_TGT_EN : Fld := ⟨R.TW3_TGT_CFG, 15, 1⟩
def TW3_NOTIFY_DATA : Fld := ⟨R.TW3_NOTIFY, 0, 16⟩
def TW3_NOTIFY_GO : Fld := ⟨R.TW3_NOTIFY, 31, 1⟩
def TW3_TGT_CNT_SR_CNT : Fld := ⟨R.TW3_TGT_CNT, 0, 16⟩
def TW3_TGT_CNT_DISC_CNT : Fld := ⟨R.TW3_TGT_CNT, 16, 15⟩
def TW3_TGT_CNT_SAT : Fld := ⟨R.TW3_TGT_CNT, 31, 1⟩
def TW0_PMB_ADDR (d : Nat) : Fld := ⟨R.TW0_PMB d, 0, 7⟩
def TW0_PMB_PEC (d : Nat) : Fld := ⟨R.TW0_PMB d, 7, 1⟩
def TW0_PMB_PAGE (d : Nat) : Fld := ⟨R.TW0_PMB d, 8, 8⟩
def TW0_PMB_EXP (d : Nat) : Fld := ⟨R.TW0_PMB d, 16, 5⟩
def TW0_PMB_EN (d : Nat) : Fld := ⟨R.TW0_PMB d, 31, 1⟩
def TW0_PMB_CFG_POLL : Fld := ⟨R.TW0_PMB_CFG, 0, 8⟩
def TW0_PMB_CFG_VTOL : Fld := ⟨R.TW0_PMB_CFG, 8, 8⟩
def TW0_PMB_CFG_LIMIT : Fld := ⟨R.TW0_PMB_CFG, 16, 16⟩
def TW0_PMB_STAT_BUSY : Fld := ⟨R.TW0_PMB_STAT, 0, 1⟩
def TW0_PMB_STAT_FAIL : Fld := ⟨R.TW0_PMB_STAT, 1, 1⟩
def TW0_PMB_STAT_ALERT : Fld := ⟨R.TW0_PMB_STAT, 2, 1⟩
def TW0_PMB_STAT_DIE : Fld := ⟨R.TW0_PMB_STAT, 3, 2⟩
def PWR_CMD_STATE : Fld := ⟨R.PWR_CMD, 0, 2⟩
def PWR_CMD_GO : Fld := ⟨R.PWR_CMD, 31, 1⟩
def PWR_STAT_STATE : Fld := ⟨R.PWR_STAT, 0, 2⟩
def PWR_STAT_BUSY : Fld := ⟨R.PWR_STAT, 2, 1⟩
def PWR_STAT_WAKING : Fld := ⟨R.PWR_STAT, 3, 1⟩
def PWR_STAT_ABORTED : Fld := ⟨R.PWR_STAT, 4, 1⟩
def PWR_STAT_DVFS_FAIL : Fld := ⟨R.PWR_STAT, 5, 1⟩
def PWR_REFUSE_BLOCK : Fld := ⟨R.PWR_REFUSE, 0, 6⟩
def PWR_REFUSE_CODE : Fld := ⟨R.PWR_REFUSE, 8, 4⟩
def PWR_REFUSE_HOLDOFF : Fld := ⟨R.PWR_REFUSE, 16, 16⟩
def PWR_CTL_IDLE_US : Fld := ⟨R.PWR_CTL, 0, 16⟩
def PWR_CTL_WINTER_NET : Fld := ⟨R.PWR_CTL, 16, 1⟩
def PWR_RESTORE_LO_ADDR : Fld := ⟨R.PWR_RESTORE_LO, 23, 9⟩
def PWR_RESTORE_HI_ADDR : Fld := ⟨R.PWR_RESTORE_HI, 0, 6⟩
def PWR_RESTORE_HI_EN : Fld := ⟨R.PWR_RESTORE_HI, 31, 1⟩
def PWR_CLASS_CLASS (b : Nat) : Fld := ⟨R.PWR_CLASS b, 0, 2⟩
def PWR_CLASS_GATED (b : Nat) : Fld := ⟨R.PWR_CLASS b, 2, 1⟩
def PWR_CLASS_WAKE (b : Nat) : Fld := ⟨R.PWR_CLASS b, 16, 16⟩
def PWR_RET_MASK_LO_BANKS (n : Nat) : Fld := ⟨R.PWR_RET_MASK_LO n, 0, 32⟩
def PWR_RET_MASK_HI_BANKS (n : Nat) : Fld := ⟨R.PWR_RET_MASK_HI n, 0, 8⟩
def PWR_DVFS_TARGET (d : Nat) : Fld := ⟨R.PWR_DVFS d, 0, 3⟩
def PWR_DVFS_CUR (d : Nat) : Fld := ⟨R.PWR_DVFS d, 4, 3⟩
def PWR_DVFS_FLOOR (d : Nat) : Fld := ⟨R.PWR_DVFS d, 8, 3⟩
def PWR_DVFS_OP_MAX (d : Nat) : Fld := ⟨R.PWR_DVFS d, 12, 3⟩
def PWR_DVFS_MOVING (d : Nat) : Fld := ⟨R.PWR_DVFS d, 15, 1⟩
def PWR_OP_MHZ (k : Nat) : Fld := ⟨R.PWR_OP k, 0, 16⟩
def PWR_OP_MV (k : Nat) : Fld := ⟨R.PWR_OP k, 16, 16⟩
def CAL_CTL_EN : Fld := ⟨R.CAL_CTL, 0, 1⟩
def CAL_CTL_RUN_NOW : Fld := ⟨R.CAL_CTL, 1, 1⟩
def CAL_CTL_DT : Fld := ⟨R.CAL_CTL, 8, 8⟩
def CAL_CTL_ITEM_EN : Fld := ⟨R.CAL_CTL, 16, 4⟩
def CAL_STAT_RUNNING : Fld := ⟨R.CAL_STAT, 0, 5⟩
def CAL_STAT_CAL_REJECT : Fld := ⟨R.CAL_STAT, 5, 1⟩
def CAL_STAT_HOT : Fld := ⟨R.CAL_STAT, 6, 1⟩
def CAL_CNT_RUN_CNT : Fld := ⟨R.CAL_CNT, 0, 16⟩
def CAL_CNT_REJ_CNT : Fld := ⟨R.CAL_CNT, 16, 15⟩
def CAL_CNT_SAT : Fld := ⟨R.CAL_CNT, 31, 1⟩
def CAL_BND_LO (k : Nat) : Fld := ⟨R.CAL_BND k, 0, 16⟩
def CAL_BND_HI (k : Nat) : Fld := ⟨R.CAL_BND k, 16, 16⟩
def CAL_STEP_STEP (k : Nat) : Fld := ⟨R.CAL_STEP k, 0, 16⟩
def CAL_TEMP_TEMP (s : Nat) : Fld := ⟨R.CAL_TEMP s, 0, 16⟩
def CAL_TEMP_VALID (s : Nat) : Fld := ⟨R.CAL_TEMP s, 16, 1⟩
def CAL_REF_TEMP (s : Nat) : Fld := ⟨R.CAL_REF s, 0, 16⟩
def CAL_REF_VALID (s : Nat) : Fld := ⟨R.CAL_REF s, 16, 1⟩
def CAL_SOFS_VALUE (s : Nat) : Fld := ⟨R.CAL_SOFS s, 0, 8⟩
def CAL_TRIM_VALUE (d : Nat) : Fld := ⟨R.CAL_TRIM d, 0, 8⟩
def FLT_CTL_DEG_FATAL : Fld := ⟨R.FLT_CTL, 0, 1⟩
def FLT_CTL_HOT_FATAL : Fld := ⟨R.FLT_CTL, 1, 1⟩
def FLT_CTL_FORCE_FATAL : Fld := ⟨R.FLT_CTL, 2, 1⟩
def FLT_CTL_RELEASE : Fld := ⟨R.FLT_CTL, 3, 1⟩
def FLT_STAT_FATAL : Fld := ⟨R.FLT_STAT, 0, 1⟩
def FLT_STAT_FATAL_CAUSE : Fld := ⟨R.FLT_STAT, 1, 3⟩
def FLT_STAT_DEGRADED : Fld := ⟨R.FLT_STAT, 4, 1⟩
def FLT_STAT_BLK_LOST : Fld := ⟨R.FLT_STAT, 5, 1⟩
def FLT_STAT_RETIRED : Fld := ⟨R.FLT_STAT, 6, 1⟩
def FLT_STAT_FROST : Fld := ⟨R.FLT_STAT, 7, 1⟩
def FLT_DEG_REGION : Fld := ⟨R.FLT_DEG, 0, 8⟩
def FLT_COND_NO_STRUCT : Fld := ⟨R.FLT_COND, 0, 1⟩
def FLT_COND_LINE_RATE : Fld := ⟨R.FLT_COND, 1, 1⟩
def FLT_COND_HOST_CREDIT : Fld := ⟨R.FLT_COND, 2, 1⟩
def FLT_COND_NO_PANIC : Fld := ⟨R.FLT_COND, 3, 1⟩
def FLT_CNT_RETIRE_CNT : Fld := ⟨R.FLT_CNT, 0, 16⟩
def FLT_CNT_BLK_LOST_CNT : Fld := ⟨R.FLT_CNT, 16, 15⟩
def FLT_CNT_SAT : Fld := ⟨R.FLT_CNT, 31, 1⟩
def FLT_PAIR_CFG_PAIR_EN : Fld := ⟨R.FLT_PAIR_CFG, 0, 1⟩
def FLT_PAIR_CFG_PORT : Fld := ⟨R.FLT_PAIR_CFG, 1, 2⟩
def FLT_PAIR_CFG_CLAIM_UNSYNC : Fld := ⟨R.FLT_PAIR_CFG, 3, 1⟩
def FLT_PAIR_CFG_RANK : Fld := ⟨R.FLT_PAIR_CFG, 4, 1⟩
def FLT_PAIR_CMD_CMD : Fld := ⟨R.FLT_PAIR_CMD, 0, 2⟩
def FLT_PAIR_STAT_ROLE : Fld := ⟨R.FLT_PAIR_STAT, 0, 1⟩
def FLT_PAIR_STAT_SYNC : Fld := ⟨R.FLT_PAIR_STAT, 1, 2⟩
def FLT_PAIR_STAT_MISSED : Fld := ⟨R.FLT_PAIR_STAT, 3, 3⟩
def FLT_PAIR_STAT_PEER_VALID : Fld := ⟨R.FLT_PAIR_STAT, 6, 1⟩
def FLT_PAIR_STAT_OWN_C : Fld := ⟨R.FLT_PAIR_STAT, 8, 8⟩
def FLT_PAIR_STAT_PEER_C : Fld := ⟨R.FLT_PAIR_STAT, 16, 8⟩
def FLT_HB_CNT_LOST_CNT : Fld := ⟨R.FLT_HB_CNT, 0, 16⟩
def FLT_HB_CNT_CLAIM_CNT : Fld := ⟨R.FLT_HB_CNT, 16, 15⟩
def FLT_HB_CNT_SAT : Fld := ⟨R.FLT_HB_CNT, 31, 1⟩
def FLT_SHADOW_CNT_MISMATCH_CNT : Fld := ⟨R.FLT_SHADOW_CNT, 0, 16⟩
def FLT_SHADOW_CNT_UNMATCHED_CNT : Fld := ⟨R.FLT_SHADOW_CNT, 16, 15⟩
def FLT_SHADOW_CNT_SAT : Fld := ⟨R.FLT_SHADOW_CNT, 31, 1⟩
def FLT_SHADOW_MATCH_MATCH : Fld := ⟨R.FLT_SHADOW_MATCH, 0, 32⟩
def FLT_SYNC_BLK_B_R : Fld := ⟨R.FLT_SYNC_BLK, 0, 24⟩
def TOP_STRAP_TS_SRC : Fld := ⟨R.TOP_STRAP, 0, 1⟩
def TOP_STRAP_PAIR_RANK : Fld := ⟨R.TOP_STRAP, 1, 1⟩
def TOP_STRAP_BOOT : Fld := ⟨R.TOP_STRAP, 2, 2⟩
def TOP_BOOT_DONE : Fld := ⟨R.TOP_BOOT, 0, 1⟩
def TOP_BOOT_COPY : Fld := ⟨R.TOP_BOOT, 1, 1⟩
def TOP_BOOT_FAIL_A : Fld := ⟨R.TOP_BOOT, 2, 2⟩
def TOP_BOOT_FAIL_B : Fld := ⟨R.TOP_BOOT, 4, 2⟩
def TOP_BOOT_POLL_TO : Fld := ⟨R.TOP_BOOT, 6, 1⟩
def TOP_BOOT_REFUSED : Fld := ⟨R.TOP_BOOT, 7, 1⟩
def TOP_BOOT_STATUS : Fld := ⟨R.TOP_BOOT, 8, 8⟩
def TOP_BOOT_ENTRY : Fld := ⟨R.TOP_BOOT, 16, 14⟩
end F

end Sys2Proof.Machine
end

