-- ==== Sys2Proof/Machine/Stream.lean ====
section
/-!
DEFINITION. A bit-stream as the loader reads it (R32 to R45): header, sections, tables, entries. The state holds the applied STRUCT and each bank's
JOB in this form.
-/
namespace Sys2Proof

/-! ### Bit-stream contents (R32 to R45) -/

/-- The 8-byte header of a table (R35, R43). -/
structure TabHdr where
  ttype : Nat
  rsvd  : Nat := 0
  esize : Nat
  count : Nat
  deriving DecidableEq, Repr

/-- A slot record of a chain's parameter block (R185). -/
structure SlotRec where
  opc    : Nat
  srcA   : Nat := 0xFF
  srcB   : Nat := 0xFF
  srcC   : Nat := 0xFF
  out    : Nat := 0xFF
  plen   : Nat := 0
  /-- Parameter bytes, PLEN of them. -/
  params : List Byte := []
  deriving DecidableEq, Repr

/-- A CHAIN entry (R37) with its parameter block (R185). -/
structure ChainE where
  id      : Nat
  nops    : Nat
  ops     : List Nat
  parOfs  : Nat := 0
  parLen  : Nat := 0
  jobmask : Nat := 0
  /-- The slot records of the parameter block; none where the block leaves the body. -/
  slots   : List SlotRec
  deriving DecidableEq, Repr

/-- A VU_ASSIGN entry (R37). -/
structure AssignE where
  vu      : Nat
  chain   : Nat := 0xFFFF
  start   : Nat := 0
  width   : Nat := 0
  overlap : Nat := 0
  rsvd    : Nat := 0
  deriving DecidableEq, Repr

/-- A LINK entry (R38). -/
structure LinkE where
  src   : Nat
  dst   : Nat
  buf   : Nat
  flow  : Nat := 1
  width : Nat := 16
  place : Nat := 0
  deriving DecidableEq, Repr

/-- An EVT entry (R39). -/
structure EvtE where
  src0   : Nat := 0
  src1   : Nat := 0
  src2   : Nat := 0
  gate   : Nat := 0
  gateEn : Bool := false
  deriving DecidableEq, Repr

/-- PIN_LANE entries 0 to 11: a camera (R40), with its place in the stitched line (R159, R168): ORDER, X0 (18.6 pixels), Y0 (1/64 line) and
whether it is the reference camera, which no other table holds (assumption 9). -/
structure CamE where
  firstLane : Nat := 0
  links     : Nat := 0
  rate      : Nat := 0
  /-- Pixel format: 0 mono 8, 1 mono 10, 2 mono 12, 3 RGB 24, 4 RGB 30. -/
  fmt       : Nat := 0
  ppl       : Nat := 0
  maxHz     : Nat := 0
  fill      : Nat := 0
  /-- Row: 0 trailing, 1 leading. -/
  row       : Nat := 0
  stagger   : Nat := 0
  order     : Nat := 0
  x0        : Nat := 0
  y0        : Int := 0
  ref       : Bool := false
  deriving DecidableEq, Repr

/-- A camera in the leading row. -/
def CamE.leading (c : CamE) : Bool := c.row == 1

/-- PIN_LANE entries 12 to 27: encoder, absolute, switch and area-camera inputs (R40). MODE is DIFF of an encoder and FMT of an area-camera port
(R272). -/
structure InE where
  en     : Bool := false
  mode   : Nat := 0
  dirInv : Bool := false
  deriving DecidableEq, Repr

/-- PIN_LANE entries 28 to 35: a print port (R40, R250). -/
structure PrintE where
  en    : Bool := false
  noz   : Nat := 0
  bpn   : Nat := 0
  maxHz : Nat := 0
  deriving DecidableEq, Repr

/-- PIN_LANE entries 40, 41: an Ethernet port (R118). -/
structure EthE where
  en   : Bool := false
  /-- true: 25GBASE-R, false: 10GBASE-R. -/
  g25  : Bool := false
  fec  : Bool := false
  deriving DecidableEq, Repr

/-- PIN_LANE entries 42 to 45: a sigma-delta clock group (R304). -/
structure SdgE where
  mode : Nat := 0
  div  : Nat := 0
  deriving DecidableEq, Repr

/-- PIN_LANE entries 46 to 49: a two-wire port (R379). -/
structure TwE where
  en    : Bool := false
  speed : Nat := 0
  mc    : Bool := false
  deriving DecidableEq, Repr

/-- A MEM entry (R40, R324): region-memory banks, or a DDR-4 real-time port. -/
inductive MemE where
  /-- Banks of a region. use: 0 replay ring, 1 stream buffer, 2 label table, 3 accumulators. -/
  | banks (region first count use : Nat)
  /-- A DDR-4 real-time port: owner code, owner instance, base, size and thresholds. -/
  | rtPort (owner inst base size panic1 panic2 : Nat)
  /-- A kind the table does not have. -/
  | other
  deriving DecidableEq, Repr

/-- A FALLBACK entry (R40): code, partner, and the entry's other bytes. -/
structure FallE where
  code    : Nat := 0
  partner : Nat := 0
  rest    : Nat := 0
  deriving DecidableEq, Repr

/-- A STRUCT section's body (R36). -/
structure StructData where
  chains   : List ChainE := []
  assigns  : List AssignE := []
  links    : List LinkE := []
  evts     : List EvtE := []
  cams     : List CamE := []
  encs     : List InE := []
  abss     : List InE := []
  sws      : List InE := []
  pps      : List InE := []
  prints   : List PrintE := []
  nps      : List Bool := []
  eths     : List EthE := []
  sdgs     : List SdgE := []
  tws      : List TwE := []
  dvfs     : List (Nat × Nat) := []
  classes  : List (Nat × Nat) := []
  mems     : List MemE := []
  fallback : List FallE := []
  /-- CRC-32C of the body: its STRUCT_ID (R42). -/
  crc      : Nat := 0
  deriving DecidableEq, Repr

/-- Cameras a STRUCT uses, by number. -/
def structUsed (d : StructData) : List (Nat × CamE) := (d.cams.zipIdx.map (fun e => (e.2, e.1))).filter (fun e => e.2.links != 0)

/-- A camera's entry. -/
def structCam (d : StructData) (n : Nat) : CamE := (d.cams[n]?).getD {}

/-- The reference camera (R159); 12 where not exactly one entry names itself. -/
def StructData.refCam (d : StructData) : Nat := match (d.cams.zipIdx).filter (fun e => e.1.ref) with
  | [e] => e.2
  | _ => 12

/-- STI_WIDTH: where the rightmost camera ends (assumption 9). -/
def StructData.width (d : StructData) : Nat := (structUsed d).foldl (fun m c => max m ((c.2.x0 + 63) / 64 + c.2.ppl)) 0

/-- A THRESH entry (R221). -/
structure ThreshE where
  cls   : Nat
  dmode : Nat
  tol   : Nat
  rsvd  : Nat := 0
  deriving DecidableEq, Repr

/-- A RULES entry (R230). -/
structure RuleE where
  areaMin  : Nat := 0
  areaMax  : Nat := 0xFFFFFFFF
  yextMin  : Nat := 0
  yextMax  : Nat := 0xFFFFFFFF
  xextMin  : Nat := 0
  xextMax  : Nat := 0xFFFFFFFF
  peakMin  : Nat := 0
  meanMin  : Nat := 0
  elongMin : Nat := 0
  elongMax : Nat := 0xFFFF
  clsAny   : Nat := 0
  rposMin  : Nat := 0
  rposMax  : Nat := 0xFFFFFFFF
  pol      : Nat := 0
  out      : Nat := 0
  action   : Nat := 0
  /-- Bytes 34 to 35 and 47, which are 0. -/
  rsvd     : Nat := 0
  rsvd2    : Nat := 0
  deriving DecidableEq, Repr

/-- A MASTER entry (R213). -/
structure MasterE where
  idx       : Nat
  format    : Nat
  base      : Nat
  clen      : Nat
  width     : Nat
  height    : Nat
  indexBase : Nat
  classBase : Nat
  x0        : Nat
  /-- Bytes 2 to 3 and 44 to 47, which are 0. -/
  rsvd      : Nat := 0
  rsvd2     : Nat := 0
  deriving DecidableEq, Repr

/-- A PRINT entry (R251). -/
structure PrtE where
  port   : Nat
  cu     : Nat
  bpn    : Nat
  wsel   : Nat
  base   : Nat
  stride : Nat
  lpr    : Nat
  nrep   : Nat
  flags  : Nat := 0
  orgOfs : Nat := 0
  /-- Bytes 23 and 28 to 31, which are 0. -/
  rsvd   : Nat := 0
  rsvd2  : Nat := 0
  deriving DecidableEq, Repr

/-- A COMPARE entry (R43, R62): unit, SPACING 16.16, PHASE 16.16. -/
structure CmpE where
  cu      : Nat
  spacing : Nat
  phase   : Nat
  deriving DecidableEq, Repr

/-- A TAKEOVER entry (R264). -/
structure TkE where
  port   : Nat
  nozzle : Nat
  /-- Byte 1 and bytes 4 to 7, which are 0. -/
  rsvd   : Nat := 0
  rsvd2  : Nat := 0
  deriving DecidableEq, Repr

/-- An OP_PARAM entry (R43, R190): the parameters of one marked slot. -/
structure OpParE where
  chain  : Nat
  slot   : Nat
  plen   : Nat
  /-- Parameter bytes, PLEN of them where the entry holds as many. -/
  params : List Byte
  deriving DecidableEq, Repr

/-- A JOB section's body (R43). -/
structure JobData where
  jobId     : Nat := 0
  repeatLen : Nat := 1
  thresh    : List ThreshE := []
  rules     : List RuleE := []
  masters   : List MasterE := []
  prints    : List PrtE := []
  compares  : List CmpE := []
  takeovers : List TkE := []
  opParams  : List OpParE := []
  deriving DecidableEq, Repr

/-- A SIG section (R45), with the SHA-384 digest of the message it signs. -/
structure SigData where
  slot   : Nat := 0
  /-- The public key, 97 bytes. -/
  key    : List Byte := []
  r      : Nat := 0
  s      : Nat := 0
  digest : Nat := 0
  deriving DecidableEq, Repr

/-- The body of a section. -/
inductive SecBody where
  | struct (d : StructData)
  | job (d : JobData)
  | sig (d : SigData)
  /-- A type a section may not have. -/
  | other
  deriving DecidableEq, Repr

/-- A section: its header (R34), whether its two CRCs match, its tables and its content. -/
structure Section where
  /-- TYPE: 1 STRUCT, 2 JOB, 3 SIG. -/
  ty     : Nat
  rsvd   : Nat := 0
  len    : Nat
  scrcOk : Bool := true
  bcrcOk : Bool := true
  /-- Table headers in stream order (STRUCT and JOB). -/
  tabs   : List TabHdr := []
  body   : SecBody
  deriving DecidableEq, Repr

/-- The HDR (R33). -/
structure Hdr where
  magic    : Nat := 0x4D574253
  fmtMin   : Nat := 0
  fmtMaj   : Nat := 3
  variant  : Nat := 0x1296
  catVer   : Nat := 3
  nsec     : Nat := 1
  flags    : Nat := 0
  totalLen : Nat := 0
  buildId  : Nat := 0
  structId : Nat := 0
  /-- HCRC is the CRC-32C of bytes 0 to 27. -/
  hcrcOk   : Bool := true
  deriving DecidableEq, Repr

/-- A whole bit-stream as the loader reads it. -/
structure Stream where
  hdr      : Hdr
  sections : List Section
  deriving DecidableEq, Repr

end Sys2Proof
end

