-- ==== Sys2Proof/Machine/State.lean ====
section
/-!
DEFINITION. The machine's state: every register of the index as one sparse store, and the state the spec describes but no
register shows.
-/
namespace Sys2Proof.Machine

/-- Why the model stops with a fault. The device takes no command that stops it, so no meaning raises one
(a command on an absent instance has no effect, R3). -/
inductive Fault where
  /-- Raised by no meaning; kept so that the type has a name for a broken invariant of the model. Safe. -/
  | broken (reason : String)
  deriving DecidableEq, Repr

/-- Why the model refuses a command. -/
inductive Refusal where
  /-- The dispatch has no meaning yet for this command. Safe: nothing follows from it. -/
  | notModelled (mnemonic : String)
  deriving DecidableEq, Repr

/-! ### HOSTQ and ETH -/

/-- A completion (R371), without its CRC. -/
structure Completion where
  src    : Nat
  status : Nat
  tag    : Nat := 0
  flags  : Nat := 0
  result : Nat := 0
  deriving DecidableEq, Repr

/-- A device-to-host packet (R360), without its CRCs. -/
structure OutPkt where
  opc    : Nat
  flags  : Nat := 0
  tag    : Nat := 0
  target : Nat := 0
  param0 : Nat := 0
  data   : List Byte := []
  deriving DecidableEq, Repr

/-- An entry of a device-to-host ring (R371). -/
inductive HostEntry where
  | comp (c : Completion)
  | pkt (p : OutPkt)
  deriving DecidableEq, Repr

/-- A completion a packet of a host-to-device queue still owes, in ring order (R358, R373). -/
structure Slot where
  /-- Key by which a later event finds it. -/
  key     : Nat
  /-- Doorbell that exposed its packet. -/
  bell    : Nat
  /-- Ring bytes reserved for it. -/
  room    : Nat
  /-- The entries to post, once known. -/
  entries : Option (List HostEntry)
  /-- The packet carried the IRQ flag. -/
  irq     : Bool
  /-- Its completion queue, named when the room was reserved (R358). -/
  cq      : Nat
  deriving DecidableEq, Repr

/-- A doorbell of a host-to-device queue whose packets are not all taken yet (R373). -/
structure Bell where
  q    : Nat
  tail : Nat
  no   : Nat
  deriving DecidableEq, Repr

/-- HOSTQ state that no register shows. -/
structure HostqS where
  /-- Per device-to-host queue: entries not yet signalled (R376). -/
  unsig   : Vector Nat 32
  /-- Per host-to-device queue: completions owed, oldest first (R373). -/
  slots   : Vector (List Slot) 32
  bells   : List Bell
  bellCtr : Nat
  slotCtr : Nat
  /-- Entries written to the device-to-host rings, oldest first, with their queue (0 to 31 for Q32 to Q63). -/
  posted  : List (Nat × HostEntry)
  /-- Per port: records gathered for the next Ethernet record frame (R240). -/
  gather  : Vector (List (List Nat)) 2
  /-- Per port: time of the first gathered record, ns. -/
  gatherT : Vector Nat 2
  /-- Per port: frame sequence (R240). -/
  frameSeq : Vector Nat 2
  /-- Bus mastering and BAR0 enabled (R354). -/
  linkUp  : Bool
  /-- The configuration space while the link is up (R354). -/
  pcie    : Option PcieCfg
  deriving DecidableEq, Repr

/-! ### What leaves the device -/

/-- A thing the device has driven or sent. -/
inductive Out where
  /-- MSI-X message of a vector (R376). -/
  | msix (vec : Nat)
  /-- An index write-back to host memory (R357). -/
  | writeBack (addr value : Nat)
  /-- A trigger packet on camera n's uplink: edge and delay field (R115). -/
  | camTrigger (cam : Nat) (rising : Bool) (delay : Word)
  /-- A control packet on camera n's uplink (R370, R134). -/
  | camCtrl (cam : Nat) (bytes : List Byte)
  /-- The link count and rate written to camera n's connection configuration (R134). -/
  | camLinks (cam links rate : Nat)
  /-- An Ethernet frame with its egress stamp in ns (R368). -/
  | eth (port : Nat) (frame : List Byte) (stamp : Nat)
  /-- The blocks of a Nimeb frame, in order: lane within the port, block type (0 for a data block), data bytes (R125, R127). -/
  | nimeb (port idle : Nat) (blocks : List (Nat × Nat × List Byte))
  /-- An alignment block on each lane: marker count, lanes within the port of logical lanes 0 to 2 and the spare (R125). -/
  | nimAlign (port marker : Nat) (lanes : List Nat)
  /-- The bits shifted on HPn_D0 to HPn_D7 for a line, first bit first (R247). -/
  | headShift (port : Nat) (bits : List (List Bool))
  /-- A LATCH pulse starts; the waveform select on the pins (R249). -/
  | headLatch (port ws : Nat)
  /-- HPn_FIRE becomes active or inactive (R248). -/
  | headFire (port : Nat) (active : Bool)
  /-- A pulse pin becomes active or inactive: event consumer (R92). -/
  | pulse (consumer : Nat) (active : Bool)
  /-- A level pin takes a level (R91). -/
  | level (pin : Nat) (high : Bool)
  /-- A two-wire START, or with `again` a repeated START, with its address byte, or a STOP (R380, R381). -/
  | twStart (port addr : Nat) (again : Bool)
  | twStop (port : Nat)
  /-- Data bytes shifted out on a two-wire port. -/
  | twData (port : Nat) (bytes : List Byte)
  /-- SCL pulses of a bus clear (R386). -/
  | twClear (port : Nat)
  /-- A line or table sent from STI or SEG to a region's units (R172, R241). -/
  | crop (objId : Nat) (bytes : List Byte)
  /-- What a read through BAR0 answers (R375). -/
  | barRead (off : Nat) (value : Word)
  /-- What the endpoint shows of itself once its link is up: Device ID, class code, subsystem vendor and subsystem ID (R354). -/
  | pcieIds (device classCode ssvid ssid : Nat)
  /-- Bytes written to host memory: by a DMA channel (R334), or an entry's part in a queue's ring (R356). -/
  | hostWrite (addr : Nat) (bytes : List Byte)
  /-- What INIT drives on DDR-4 channel `chan` (R331): reset and CKE, the RDIMM control word, a mode register, ZQ calibration. -/
  | ddrReset (chan : Nat)
  | ddrRcw (chan value : Nat)
  | ddrMode (chan mr value : Nat)
  | ddrZq (chan : Nat)
  /-- A read of the boot flash (R470): command, address, dummy clocks, clock in MHz, bytes. -/
  | qspi (cmd addr dummy mhz bytes : Nat)
  /-- The bits TDO shifts out of the selected data register, first bit first (R473). -/
  | tdo (bits : List Bool)
  /-- The boundary-scan instruction in effect from now on, and with EXTEST or CLAMP the levels the chain drives, the cell nearest TDO first; cells
  not listed drive 0. HIGHZ drives nothing (R473). -/
  | scanChain (code : Nat) (cells : List Bool)
  /-- A heartbeat pulse on PAIR_HBO (R429). -/
  | heartbeat
  /-- What DCL_D carries from now on: a claim word over and over, or nothing (R427, R428, R432). -/
  | claim (word : Option Nat)
  deriving DecidableEq, Repr

/-! ### TIME -/

/-- A frame in a launch queue (R295). -/
structure LaunchE where
  launch : Nat
  frame  : List Byte
  /-- Completion slot of the ETH_TX packet: queue and key; none for a SEG record frame. -/
  owner  : Option (Nat × Nat)
  tag    : Nat
  stamp  : Bool
  oneStep : Bool
  t2     : Nat
  deriving DecidableEq, Repr

/-- TIME state that no register shows. -/
structure TimeS where
  /-- The TS counter, 96 bits: 64-bit ns and a 32-bit fraction (R284). -/
  ts       : Nat
  /-- EVT_CLK cycles since cold reset, in fifths of a cycle (one TS_CLK edge is 3.2 EVT_CLK cycles). -/
  evt5     : Nat
  launch   : Vector (List LaunchE) 2
  /-- Ordinary frames held back for a queued launch time, oldest first (R296). -/
  heldTx   : Vector (List LaunchE) 2
  /-- The ns at which the frame a port is sending ends (R296). -/
  txEnd    : Vector Nat 2
  /-- SEQ of the last REQ (R298). -/
  reqSeq   : Nat
  reqWait  : Bool
  /-- The exchange spans a LANE_SWAP marker (R298). -/
  reqSpoil : Bool
  /-- Requests not answered and not timed out. -/
  reqOut   : Nat
  /-- Periods since the last success, saturating at 4. -/
  upAge    : Nat
  /-- Calendar count in 1/32,768 s (R300). -/
  rtc      : Nat
  /-- Part of a 32.768 kHz period passed, in units of 1/32,768 ns (assumption 4). -/
  rtcAcc   : Nat
  /-- Ticks since the last trim (R302). -/
  rtcTrim  : Nat
  /-- TOP_READY.RTC has risen since the cold reset (R290). -/
  rtcRose  : Bool
  /-- The tick that seeds has come, and the TS_CLK edge that samples it has not: the seed, or none where VALID was 0 (R290). -/
  seedWait : Option (Option Nat)
  deriving DecidableEq, Repr

/-! ### CFG -/

/-- A chunk-wise load in progress (R365). -/
structure LoadS where
  /-- A load is in progress. -/
  active   : Bool
  /-- Bytes written by chunks so far. -/
  bytes    : Nat
  /-- Queue, slot key and TAG of the LAST chunk's completion; validation has begun. -/
  last     : Option (Nat × Nat × Nat)
  deriving DecidableEq, Repr

/-- CFG state that no register shows. -/
structure CfgS where
  load     : LoadS
  /-- The applied STRUCT. -/
  struct   : Option StructData
  /-- A STRUCT accepted and being applied, with the JOB that came with it. -/
  applying : Option (StructData × Option JobData)
  /-- HDR.BUILD_ID of the STRUCT being applied. -/
  build    : Nat
  jobA     : Option JobData
  jobB     : Option JobData
  /-- STRUCT_ID each bank's JOB was validated against (R53). -/
  sidA     : Nat
  sidB     : Nat
  /-- The last accepted ARM ended in a swap edge, and no ARM or DISARM was accepted since (R64). -/
  swapDone : Bool
  /-- EVT_CLK cycle at which the last accepted ARM or DISARM has crossed (R21, R64). -/
  crossAt  : Nat
  /-- A stop has been requested and waits for the block boundary (R51). -/
  stopReq  : Bool
  /-- Camera-trigger consumers disabled (R51, R398). -/
  trigDis  : Bool
  /-- Reversal point of the swap comparator while disarmed (R58, R83). -/
  swapRev  : Option Nat
  /-- A warm reset waits for the STRUCT being applied (R462): the DDR-4 channels that will not return, as a mask. -/
  warmPend : Option Nat
  deriving DecidableEq, Repr

/-! ### ENC and EVT -/

/-- Quadrature decoder state of a channel (R67, R68, R73). -/
structure EncS where
  /-- Accepted levels. -/
  a        : Bool
  b        : Bool
  z        : Bool
  /-- Sampled levels. -/
  sa       : Bool
  sb       : Bool
  sz       : Bool
  /-- Dead times running. -/
  deadA    : Bool
  deadB    : Bool
  deadZ    : Bool
  /-- Intervals measured in the present direction, newest first. -/
  hist     : List Nat
  /-- EVT_CLK cycle of the last step the next interval may start at. -/
  last     : Option Nat
  /-- Index reference L (R75). -/
  idxL     : Nat
  deriving DecidableEq, Repr

/-- Compare-unit state that no register shows (R78 to R84). -/
structure CuS where
  /-- Held SPACING_HI. -/
  hiHold   : Option Nat
  /-- Event arm (R82). -/
  evArm    : Bool
  /-- Reversal point V while disarmed (R83). -/
  rev      : Option Nat
  /-- A delayed hit waits (R80). -/
  delayed  : Bool
  /-- A loaded point is hit in the next cycle (R81). -/
  deferred : Bool
  deriving DecidableEq, Repr

/-- Absolute input (R86): a cycle is under way. -/
structure AbsS where
  busy : Bool
  deriving DecidableEq, Repr

/-- Switch input (R87): level of the run not yet accepted and the position at its first sample. -/
structure SwS where
  run : Option (Bool × Nat)
  deriving DecidableEq, Repr

/-- Event-matrix state that no register shows (R91, R92, R98). -/
structure EvtS where
  /-- Per consumer: busy time of a pulse pin running. -/
  busy  : Vector Bool 64
  /-- Per consumer: pulse pin active. -/
  pin   : Vector Bool 64
  lvl0  : Bool
  lvl1  : Bool
  /-- G12, G13 and G15 as synchronised into EVT_CLK, by gate number (R95). -/
  slow  : Nat
  deriving DecidableEq, Repr

/-! ### PRT -/

/-- Identity of a print line (R252, R262). -/
inductive LineId where
  | before
  | line (bank : Bool) (lbl l : Nat)
  deriving DecidableEq, Repr

/-- A print line on hand (R249, R255). -/
structure PLine where
  id    : LineId
  /-- The compare point it was fetched for, 32.16. -/
  pt    : Nat
  /-- Nozzle values. -/
  vals  : List Nat
  ws    : Nat
  hot   : Bool
  /-- Uncorrectable ECC error in its data. -/
  err   : Bool
  deriving DecidableEq, Repr

/-- A takeover-table entry (R265, R266). src: 0 seed, 1 confirmed, 2 software. -/
structure TkS where
  nozzle : Nat
  src    : Nat
  e      : Nat
  p      : Nat
  objId  : Option Nat
  /-- Words of the CONFIRMED record last posted (R269). -/
  last   : List Nat
  deriving DecidableEq, Repr

/-- A nozzle the monitor follows (R268). -/
structure NzS where
  nozzle : Nat
  count  : Nat
  objId  : Nat
  deriving DecidableEq, Repr

/-- Print-port state that no register shows. -/
structure PrtS where
  /-- Line cycle and waveform window running; HPn_FIRE and HPn_LATCH active (R248, R249). -/
  busy     : Bool
  window   : Bool
  fire     : Bool
  latching : Bool
  latched  : Option PLine
  /-- LBL of the kept state (R252). -/
  lbl      : Nat
  shifting : Option PLine
  shifted  : Option PLine
  prefetch : List PLine
  /-- Accepted HEAT_OK, and the line cycles still to pass before HOT is left (R261). -/
  heatOk   : Bool
  hotLeft  : Option Nat
  /-- The running line cycle started after HEAT_OK was accepted high again. -/
  cycHot   : Bool
  /-- Shuttle: pass number, point P0, count at the last pass start, pass verdict (R262, R263). -/
  pass     : Option Nat
  p0       : Nat
  /-- Counts of the encoder channels at the last pass start (R263). -/
  webAt    : Vector Nat 4
  passBad  : Bool
  /-- The carriage has been at or below SH_START − SH_BACK since the last pass start. -/
  backOk   : Bool
  /-- Inputs whose ABSn_DONE arrived since the last pass start. -/
  absSeen  : Vector Bool 2
  /-- The identity of the unit's hit taken in this command, if any (R257). -/
  hitId    : Option LineId
  tk       : List TkS
  nz       : List NzS
  deriving DecidableEq, Repr

/-! ### ING and STI -/

/-- A corrected camera line with its tag and descriptor flags (R146). -/
structure CamLine where
  tag  : Tag
  pix  : Pix
  fl   : LFlags
  deriving DecidableEq, Repr

/-- A packet that waits for its turn in tag order (R113). -/
structure HeldPkt where
  tag   : Nat
  /-- Line number where the packet opens a line (R142). -/
  opens : Option Nat
  ofs   : Nat
  pix   : List (List Nat)
  deriving DecidableEq, Repr

/-- Ingest state of a camera that no register shows. -/
structure IngS where
  /-- Tag queue, oldest first (R140). -/
  tags     : List Tag
  /-- LINE_SEQ of the next tag. -/
  seqNext  : Nat
  /-- Expected line number e; none until the first line after IN_SERVICE (R142). -/
  expect   : Option Nat
  /-- Packets received of the line under way: line offset and pixels (R137). -/
  rx       : List (Nat × List (List Nat))
  /-- Line number in the image header of the line under way (R142). -/
  rxLine   : Option Nat
  /-- Packet tag that is next in order; none until the first packet (R113). -/
  nextTag  : Option Nat
  /-- Packets ahead of it, in tag order (R113). -/
  ahead    : List HeldPkt
  /-- EVT_CLK cycle of the last tag (R145). -/
  lastTag  : Option Nat
  /-- Words of the table set in use that differ from reset, by register offset (R157). -/
  act      : List (Nat × Word)
  /-- Warped lines for row alignment, newest first: LINE_SEQ, samples, flags (R155). -/
  rows     : List (Nat × Pix × LFlags)
  /-- Lines since the lane set became IN_SERVICE (R155). -/
  since    : Nat
  deriving DecidableEq, Repr

/-- Seam state (R175 to R178). -/
structure SeamS where
  e     : Int × Int
  c     : Int × Int
  a     : Int × Int
  pend  : Bool
  mprev : Int × Int
  /-- The pending candidate made the next block provisional (R177). -/
  prov  : Bool
  seed  : Option (Int × Int)
  /-- Geometry in use: STI_SEAMs_CFG as of the block's first line (R171). -/
  cfg   : Word
  deriving DecidableEq, Repr

/-- The descriptor of a stitched line (R162). -/
structure SDesc where
  sline  : Nat
  tag    : Tag
  short  : Nat
  long   : Nat
  stale  : Bool
  clamp  : Bool
  repl   : Bool
  prov   : Bool
  /-- Master row and repeat index (R215); no row for a line whose tag names no unit of the swap channel. -/
  row    : Option Nat
  rep    : Nat
  deriving DecidableEq, Repr

/-- A line of the stagger ring on its way back (R166). -/
structure StagS where
  /-- Slots written and not yet due, oldest first: the slot's LINE_SEQ, and whether the staging buffer lost the line to an uncorrectable
  error (R180). -/
  lines : List (Nat × Bool)
  deriving DecidableEq, Repr

/-- STI state that no register shows. -/
structure StiS where
  /-- Reference tags T(k), newest first, at most 8,256 (R161). -/
  refTags : List (Nat × Tag)
  /-- Index of the next reference tag. -/
  refNext : Nat
  /-- Per camera: lines by index, newest first; none stands for FILL (R161). -/
  store   : Vector (List (Nat × Option CamLine)) 12
  /-- Per camera: lowest index not yet filled. -/
  nextK   : Vector Nat 12
  /-- Per camera: lines written to the stagger ring and not yet read back, oldest first. -/
  stag    : Vector StagS 12
  /-- Index of the next stitched line, which is its SLINE before the wrap (R162). -/
  formed  : Nat
  seams   : Vector SeamS 11
  /-- A block's last line has been formed and its seams are not registered yet (R175). -/
  regDue  : Bool
  /-- SHORT_MASK of the lines of the present block, newest first (R174). -/
  shorts  : List Nat
  /-- The block registered last was provisional (R177). -/
  provBlk : Bool
  /-- The µm set in use (R179), as words that differ from reset. -/
  umap    : List (Nat × Word)
  deriving DecidableEq, Repr

/-! ### VG and SEG -/

/-- Accumulators of a label (R209) with its boundary runs (R222): edge, start, end. Lines are indices of stitched lines. -/
structure Acc where
  label   : Nat
  area    : Nat
  xmin    : Nat
  xmax    : Nat
  ymin    : Nat
  ymax    : Nat
  sx      : Nat
  /-- Sum of lines: from the block's first line in a partial, from line 0 in an object. -/
  sy      : Nat
  sd      : Nat
  peak    : Nat
  peakNeg : Bool
  cls     : Nat
  dark    : Nat
  runs    : List (Nat × Nat × Nat)
  /-- The label has a run on the line last taken. -/
  live    : Bool
  deriving DecidableEq, Repr

/-- A partial (R222). kind: 1 closed, 2 open, 3 overflow. `cut` marks one that was open at the last line of the old bank (R61). -/
structure Partial where
  kind    : Nat
  attempt : Nat
  vu      : Nat
  block   : Nat
  acc     : Acc
  bank    : Bool
  cut     : Bool
  deriving DecidableEq, Repr

/-- An MREG table of a tile (R205). -/
structure TileTab where
  tile : Nat
  nc   : Nat
  nf   : Nat
  /-- 289 coarse sums, v then u. -/
  sadc : List Nat
  /-- 25 fine sums, v then u. -/
  sadf : List Nat
  deriving DecidableEq, Repr

/-- A block-end table (R210, R205) with the attempt that formed it (R199). -/
inductive BlkTab where
  | colprof (attempt vu start : Nat) (vals : List Nat)
  | hist (attempt vu : Nat) (bins : List Nat)
  | noz (attempt vu start : Nat) (cols : List (Int × Nat × Nat))
  | mreg (attempt vu : Nat) (tiles : List TileTab)
  deriving DecidableEq, Repr

/-- A line of LABEL (R208): runs with their labels (first pixel, last pixel, label), and the labels united into others. -/
structure LabLine where
  line   : Nat
  runs   : List (Nat × Nat × Nat)
  unions : List (Nat × Nat)
  deriving DecidableEq, Repr

/-- What a slot of a chain carries from line to line within a block (R208 to R210). -/
inductive SlotSt where
  | none
  | colprof (sums : List Nat)
  | hist (bins : List Nat)
  | noz (cols : List (Int × Nat × Nat))
  | mreg (tiles : List TileTab)
  /-- The next line to label, and the lines labelled, newest first. -/
  | label (next : Nat) (lines : List LabLine)
  | accum (accs : List Acc)
  deriving DecidableEq, Repr

/-- A crop window of a VU (R211): object, columns, lines. -/
structure CropWin where
  obj : Nat
  x0  : Nat
  x1  : Nat
  y0  : Nat
  y1  : Nat
  deriving DecidableEq, Repr

/-- A logical VU at work (R182 to R192). -/
structure VuS where
  vu    : Nat
  /-- The line it takes next. -/
  next  : Nat
  slots : List SlotSt
  /-- Lines sent on the chain output ports: port, line, pixels of containers; newest first. -/
  outs  : List (Nat × Nat × List (List Nat))
  wins  : List CropWin
  deriving DecidableEq, Repr

/-- A spare or slack VU being loaded from the restore area (R423, R424): logical index, physical VU, slack. -/
structure LoadVu where
  logical : Nat
  phys    : Nat
  slack   : Bool
  deriving DecidableEq, Repr

/-- A region at work (R198, R199, R420 to R425). -/
structure RegionS where
  /-- Block under way (line index div 256); its attempt is in VGn_STAT. -/
  block     : Nat
  /-- Partials and tables of the running attempt. -/
  partials  : List Partial
  tables    : List BlkTab
  /-- SEG_TILEt words in use, where not 0, by the block whose lines they move; newest block first (R216, R219). -/
  offs      : List (Nat × List (Nat × Word))
  loading   : Option LoadVu
  /-- Loads that wait behind it (R422). -/
  loadNext  : List LoadVu
  /-- Fallback code in force, and the one that takes effect at the next block (R424, R425). -/
  fallback  : Option Nat
  fallNext  : Option Nat
  /-- Only lines with even SLINE are processed in the block under way (R425). -/
  even      : Bool
  /-- Logical VUs of the region that are lost. -/
  gone      : List Nat
  /-- Stitched lines below this index have left the replay ring with the power of its banks (R399). -/
  ringFrom  : Nat
  deriving DecidableEq, Repr

/-- Retirement state of a physical VU (R421, R422). -/
structure PuS where
  pu     : Nat
  /-- Committed blocks until the window closes. -/
  window : Nat
  /-- Local-memory word of the last uncorrectable error and its block and attempt. -/
  ueAt   : Option (Nat × Nat × Nat)
  deriving DecidableEq, Repr

/-- VG state that no register shows. -/
structure VgS where
  /-- Stitched lines with their index, newest first: as far back as a replay ring of 288 even lines and the histories behind it reach (R14, R425). -/
  lines   : List (Nat × SDesc × Pix)
  /-- Index of the first line after the STRUCT was applied (R189). -/
  first   : Nat
  units   : List VuS
  regions : Vector RegionS 8
  /-- Sparse: physical VU and its retirement state. -/
  pus     : List PuS
  deriving DecidableEq, Repr

/-- A live object (R224). -/
structure Obj where
  id       : Nat
  acc      : Acc
  bank     : Bool
  /-- Tag, repeat index and master row of its first line. -/
  tag      : Tag
  rep      : Nat
  row      : Option Nat
  /-- Last-line runs of its partials in its last block. -/
  openRuns : List (Nat × Nat)
  /-- The last block with a partial of it, and the units of its partials there. -/
  lastBlk  : Nat
  lastVus  : List Nat
  /-- It has an open partial in that block. -/
  isOpen   : Bool
  cut      : Bool
  /-- RUNNING records posted, records posted at all, REJECT raised. -/
  running  : Nat
  posted   : Bool
  rejected : Bool
  lblOvf   : Bool
  noMaster : Bool
  prov     : Bool
  pixFlag  : Bool
  /-- SHORT_MASK and LONG_MASK over its lines. -/
  short    : Nat
  long     : Nat
  /-- Provisional blocks it touches. -/
  provBlks : List Nat
  /-- Its classification so far asks for a crop (R241). -/
  crop     : Bool
  deriving DecidableEq, Repr

/-- A closed record that waits for its registration outcome (R237). -/
structure WaitRec where
  words : List Nat
  blks  : List Nat
  deriving DecidableEq, Repr

/-- What a region sends with COMMIT (R199). -/
structure Commit where
  block  : Nat
  region : Nat
  parts  : List Partial
  tabs   : List BlkTab
  /-- The block was committed as LOST (R420). -/
  lost   : Bool
  deriving DecidableEq, Repr

/-- A master tile the fetch delivers for a block (R216, R217): its rows of sample pixels and rows of classes, or none where it failed. -/
structure MTile where
  bank  : Bool
  idx   : Nat
  tile  : Nat
  block : Nat
  data  : Option (List (List (List Nat)) × List (List Nat))
  /-- The regions it has been delivered to, one bit each; a replay takes the region out (R216). -/
  rgs   : Nat
  deriving DecidableEq, Repr

/-- Samples CROP has sent for an object (R211), with the depth of CROP's input (R242). -/
structure CropRun where
  obj   : Nat
  line  : Nat
  x     : Nat
  depth : Nat
  px    : List (List Nat)
  deriving DecidableEq, Repr

/-- SEG state that no register shows. -/
structure SegS where
  objs    : List Obj
  /-- Descriptors of the last lines with their index, newest first. -/
  descs   : List (Nat × SDesc)
  /-- Committed blocks not resolved yet. -/
  commits : List Commit
  /-- The next block to resolve. -/
  nextBlk : Nat
  /-- Blocks whose registration outcome is known: block and REJECTED. -/
  outcomes : List (Nat × Bool)
  waiting : List WaitRec
  /-- Spilled records, oldest first: their route, and the DDR-4 address that holds their words (R239). -/
  spill   : List (Nat × Nat)
  /-- The place in the spill area that the next record takes. -/
  spillWr : Nat
  /-- Records dropped since the last FAULT record about them, by route (R239). -/
  dropped : List (Nat × Nat)
  /-- The next stitched line sets the repeat origin (R215). -/
  orgNext : Bool
  /-- Repeat origins of lines of bank A and of bank B (R60, R215). -/
  orgA : Nat
  orgB : Nat
  /-- B_R and the object number that blocks before it go on from, once B_R's first line has set SEG_OBJ_NEXT to V; the live objects are cut
  when B_R is reached (R442). -/
  cutAt : Option (Nat × Nat)
  master  : List MTile
  crops   : List CropRun
  deriving DecidableEq, Repr


/-! ### SDF -/

/-- Filter chain of a channel (R306, R307): each stage's inputs, newest first, with whether they are settled, and its phase. -/
structure SdfCh where
  /-- Modulator bits as +1 and -1, newest first. -/
  h0 : List Int
  c0 : Nat
  h1 : List (Int × Bool)
  c1 : Nat
  h2 : List (Int × Bool)
  c2 : Nat
  h3 : List (Int × Bool)
  c3 : Nat
  /-- The last 16 samples with their stamps, newest first (R313). -/
  samples : List (Nat × Int)
  deriving DecidableEq, Repr

/-- SDF state that no register shows. -/
structure SdfS where
  ch   : Vector SdfCh 16
  /-- A sync waits for the group's next modulator edge (R311). -/
  sync : Vector Bool 4
  /-- The group's edges stay away: no edge for 2 µs, and none since (R305). -/
  gone : Vector Bool 4
  deriving DecidableEq, Repr

/-! ### FLT -/

/-- The values the primary sends for the reseed (R442). -/
structure Reseed where
  objNext : Nat
  seams   : List (Int × Int)
  tiles   : List (Nat × Word)
  /-- Port, nozzle, source. -/
  tks     : List (Nat × Nat × Nat)
  deriving DecidableEq, Repr

/-- A resynchronisation under way (R440 to R442). -/
structure ResyncS where
  /-- 0 none, 1 asked, 2 captured, 3 aligned and waiting for B_0, 4 running to B_R. On the primary: 5 asked by its partner,
  6 captured. -/
  phase  : Nat
  tcap   : Nat
  pos    : List Nat
  half   : List Nat
  /-- Enabled compare units and their points. -/
  points : List (Nat × Nat)
  b0     : Nat
  refPt  : Nat
  refCu  : Nat
  blk    : Nat
  seed   : Option Reseed
  deriving DecidableEq, Repr

/-- FLT state that no register shows. -/
structure FltS where
  gen      : Nat
  /-- The next heartbeat carries HANDOVER (R437). -/
  handover : Bool
  hbSeq    : Nat
  /-- A heartbeat of the partner has been received and the partner is not LOST. -/
  heard    : Bool
  /-- GEN, FLAGS, STRUCT_ID and JOB_ID of the partner's last heartbeat. -/
  peerGen  : Nat
  peerFl   : Nat
  /-- HB_SEQ of the last HEARTBEAT frame heard (R429, R440). -/
  peerSeq  : Option Nat
  /-- The device demoted and has not been resynchronised since (R436). -/
  demoted  : Bool
  resync   : ResyncS
  /-- Records of the compared types not yet paired: the device's own and the primary's, oldest first (R439). -/
  own      : List (List Nat)
  peer     : List (List Nat)
  /-- The pair compares records, those of objects from this OBJ_ID on (R438, R442). -/
  cmpOn    : Bool
  cmpFrom  : Nat
  /-- EVT_CLK cycle of the last heartbeat received (R430). -/
  hbT      : Nat
  /-- PLLs out of lock: 0 EVT_CLK, 1 FAB_CLK, 2 TS_CLK (R427). -/
  plls     : List Nat
  deriving DecidableEq, Repr


/-! ### LANE and NIM -/

/-- A host control packet that waits for a camera (R116): its queue, slot, TAG and FLAGS, and its bytes. -/
structure CtrlPkt where
  q     : Nat
  key   : Nat
  tag   : Nat
  flags : Nat
  bytes : List Byte
  deriving DecidableEq, Repr

/-- LANE state that no register shows; sparse lists by lane index. -/
structure LaneS where
  /-- Equaliser seeds that have been written (R120). -/
  seeds : List (Nat × Word)
  /-- Index of the rate a camera lane tries in HUNT (R112). -/
  tries : List (Nat × Nat)
  /-- Lanes that were in service and have lost LOCK (R132). -/
  lost  : List Nat
  /-- State of a lane before TEST (R121). -/
  tests : List (Nat × Nat)
  /-- Lane sets written to a camera and not yet acknowledged, oldest first, as masks (R134). -/
  red   : Vector (List Nat) 12
  /-- The lane set a camera was reduced to, as a mask; 0 while it is not reduced (R134). -/
  set   : Vector Nat 12
  /-- Skew of Nimeb lanes in blocks, as their markers show it (R125). -/
  skew  : List (Nat × Nat)
  /-- Host control packets held for a camera meanwhile (R116). -/
  ctrl  : Vector (List CtrlPkt) 12
  deriving DecidableEq, Repr

/-- A credited Nimeb frame (R127, R128). -/
structure NFrame where
  ty   : Nat
  vc   : Nat
  dst  : Nat
  src  : Nat
  data : List Byte
  deriving DecidableEq, Repr

/-- Nimeb port state that no register shows. -/
structure NpS where
  /-- An IDENT has been received since training (R126). -/
  ident  : Bool
  /-- DEV_ID has been rewritten since the port is HELD (R29). -/
  rewritten : Bool
  /-- Last SEQ received in order, and the SEQ of the next frame sent (R130). -/
  rxSeq  : Nat
  txSeq  : Nat
  /-- Frames sent and not acknowledged, oldest first, with their SEQ. -/
  kept   : List (Nat × NFrame)
  /-- Frames waiting for credits, oldest first. -/
  wait   : List NFrame
  /-- Credits owed to the peer per virtual channel (R129). -/
  owed   : List Nat
  /-- Lanes within the port that carry logical lanes 0 to 2, and the spare: received and transmitted (R124, R133). -/
  rxMap  : List Nat
  txMap  : List Nat
  /-- Marker counts of the alignment blocks received and transmitted, 16 bits (R125). -/
  rxMark : Nat
  txMark : Nat
  /-- Blocks of the present alignment period, in sixteenths (R125). -/
  blocks : Nat
  /-- Place in the round of data lanes of the next block sent (R125). -/
  next   : Nat
  /-- Frames sent (the model's own: it numbers the idle stretches between them). -/
  count  : Nat
  /-- Lane swaps under way by direction: logical lane, new lane within the port, marker of the switch (R133). -/
  swapRx : Option (Nat × Nat × Nat)
  swapTx : Option (Nat × Nat × Nat)
  deriving DecidableEq, Repr

/-- A Nimeb port at cold reset. -/
def NpS.init : NpS :=
  { ident := false, rewritten := false, rxSeq := 4095, txSeq := 0, kept := [], wait := [], owed := [0, 0, 0, 0], rxMap := [0, 1, 2, 3],
    txMap := [0, 1, 2, 3], rxMark := 0, txMark := 0, blocks := 0, next := 0, count := 0, swapRx := none, swapTx := none }

/-! ### ISP and DMC -/

/-- A frame an area-camera port has started (R274, R275). -/
structure PpFrame where
  port  : Nat
  buf   : Nat
  seq   : Nat
  ts    : Nat
  pos   : Nat
  ctx   : Nat
  w     : Nat
  h     : Nat
  fmt   : Nat
  /-- Lines received, excess lines not counted. -/
  lines : Nat
  short : Bool
  long  : Bool
  lerr  : Bool
  ovf   : Bool
  /-- VSYNC has returned inactive. -/
  ended : Bool
  deriving DecidableEq, Repr

/-- ISP state that no register shows. -/
structure IspS where
  /-- Per port: VSYNC is active, and whether its frame is stored. -/
  vs     : Vector (Option Bool) 2
  /-- Stored frames in the order of their notices; the first one is being processed while BUSY is 1 (R276). -/
  frames : List PpFrame
  /-- The context copied at take-up, as words that differ from reset (R277). -/
  work   : List (Nat × Word)
  /-- Slot size of the frame taken up, in 64-byte units (R281). -/
  slot   : Nat
  /-- The frame taken up found its ring full (R281). -/
  skip   : Bool
  /-- Per context: WR and RD go to 0 at the next take-up (R281). -/
  again  : Vector Bool 4
  deriving DecidableEq, Repr

/-- A DDR-4 request that waits (R320 to R323). -/
structure DdrReq where
  /-- Its line: channel address and device address. -/
  ca   : Nat
  addr : Nat
  /-- A write: offset within the line and bytes. -/
  wr   : Option (Nat × List Byte)
  who  : DdrWho
  /-- What a DRAM read of the line finds: 0 no error, 1 corrected, 2 uncorrectable, and the syndrome. -/
  err  : Nat
  syn  : Nat
  /-- Grants given to other requests of the channel since it entered (R15). -/
  seen : Nat
  deriving DecidableEq, Repr

/-- DMC channel state that no register shows. Rows are 8 KiB pages of the channel address space (R319). -/
structure DmcS where
  /-- Requests that wait for a grant, oldest first (R323). -/
  waiting : List DdrReq
  /-- Lines written and still in the write queue, newest first: channel address, and whether the row is left open (R320, R322). -/
  wq     : List (Nat × Bool)
  /-- Open rows: bank (rank × 16 + bank) and row page. -/
  rows   : List (Nat × Nat)
  /-- Ranks in precharge power-down (R330). -/
  down   : List Nat
  /-- Refreshes postponed, per rank (R324). -/
  post   : List (Nat × Nat)
  /-- Rows being copied to a spare row, oldest first, and the remap table: each with its spare row (R327). -/
  copies : List (Nat × Nat)
  remap  : List (Nat × Nat)
  /-- Rank 1 has replaced rank 0 (R329). -/
  rank1  : Bool
  /-- Corrected errors per row, rows with an uncorrectable error, and retirements per rank, within this scrub pass. -/
  ce     : List (Nat × Nat)
  ue     : List Nat
  ret    : List (Nat × Nat)
  /-- Next line of patrol scrub, by channel address / 64 (R326). -/
  scrub  : Nat
  /-- Ranks that have failed (R328). -/
  failed : List Nat
  /-- Delays in use, where not 0, and the ranks that still take the new ones (R332). -/
  dly    : List (Nat × Word)
  take   : List Nat
  deriving DecidableEq, Repr

/-! ### DMA -/

/-- DMA channel state that no register shows. -/
structure DmaS where
  /-- Bytes read from the remote device so far, each with its POISON flag (R343). -/
  got  : List (Byte × Bool)
  /-- Tag of the transfer's remote requests. -/
  tag  : Nat
  /-- The remote writes have been sent: bytes, and 0 none, 1 poisoned, 2 not decodable. Their WRITE_ACK has come. -/
  sent : Option (Nat × Nat)
  ack  : Bool
  /-- The transfer has ended and its completion waits for room (R359): status and late flag. -/
  fin  : Option (Nat × Bool)
  deriving DecidableEq, Repr

/-! ### TW, PWR and CAL -/

/-- Two-wire port state that no register shows. -/
structure TwS where
  /-- What keeps the port BUSY: 0 nothing, 1 a transfer, 2 a Host Notify (R381, R391). -/
  op     : Nat
  /-- A bus clear runs (R386). -/
  clear  : Bool
  /-- A warm reset, an abort or an SCL_TO since the last transfer (R386). -/
  after  : Bool
  /-- The last transfer kept the bus (NOSTOP, R381). -/
  held   : Bool
  /-- Arbitrations the Host Notify has lost (R391). -/
  losses : Nat
  /-- TW3 target: serving a read or a write, the pointer, staged bytes and the snapshot (R388, R389). -/
  tgt    : Option Bool
  ptr    : Nat
  staged : List (Nat × Byte)
  snap   : List Byte
  deriving DecidableEq, Repr

/-- What waits for a power transition to end, in order of arrival (R406). A sensor or 255 started the calibration. -/
inductive PwrHeld where
  | target (die value : Nat)
  | cal (die sensor : Nat)
  | run
  deriving DecidableEq, Repr

/-- A DVFS move (R409, R410). phase: 0 voltage up, 1 frequency, 2 voltage down, 3 voltage of the old point again. -/
structure Move where
  die   : Nat
  goal  : Nat
  phase : Nat
  /-- TARGET was written during the move (R411). -/
  again : Bool
  deriving DecidableEq, Repr

/-- PWR state that no register shows. -/
structure PwrS where
  /-- Compute dies with their rail up. -/
  powered : List Nat
  /-- An entry by handshake: DELAY answers of the block asked, and whether it waits to be asked again (R404). -/
  asking  : Bool
  delays  : Nat
  retry   : Bool
  /-- Blocks stopped, newest first; while a rollback runs, those still to restart (R405). -/
  stopped : List Nat
  rolling : Bool
  /-- Block, code and hold-off of the refusal being rolled back. -/
  refusal : Nat × Nat × Nat
  /-- Refusals are final until this EVT_CLK cycle (R402). -/
  hold    : Nat
  /-- Winter is being left for this state, and the dies not restored yet (R401). -/
  leaving : Option Nat
  dies    : List Nat
  moves   : List Move
  /-- Voltages to set: die and millivolts, the one under way first; its command is confirmed (R392). -/
  volts   : List (Nat × Nat)
  inRange : Bool
  /-- PAGE and VOUT_COMMAND of the voltage at the front have been sent (R392). -/
  wrote   : Bool
  held    : List PwrHeld
  /-- The two-wire pins have been sampled (R379). -/
  twUp    : Bool
  deriving DecidableEq, Repr

/-- CAL state that no register shows: runs under way and waiting, with the sensor that started them or 255 (R413). -/
structure CalS where
  runs : List (Nat × Nat)
  /-- Reading of the triggering sensor of the run under way. -/
  trig : Nat
  deriving DecidableEq, Repr


/-- What the boot script is doing (R471). -/
inductive BootWait where
  /-- Running entries, or no script under way. -/
  | run
  /-- In a wait entry. -/
  | wait
  /-- In a poll entry. -/
  | poll
  deriving DecidableEq, Repr

/-- Boot (R470 to R472). -/
structure BootS where
  /-- The boot image has been read, or none is read. -/
  image    : Bool
  /-- Entries still to run, as first and second word; none once the script has ended. -/
  script   : List (Nat × Nat)
  /-- Index of the entry at the front. -/
  idx      : Nat
  wait     : BootWait
  /-- PCIe subsystem vendor and subsystem ID. -/
  ssvid    : Nat
  ssid     : Nat
  /-- PCIe link training has started. -/
  training : Bool
  deriving DecidableEq, Repr


/-! ### The whole machine -/

/-- The state of the device. -/
structure State where
  /-- Variant, straps and fuses. -/
  board      : Board
  /-- Every register whose value differs from its reset value, by BAR0 offset, rising. -/
  regs       : List (Nat × Word)
  hq         : HostqS
  time       : TimeS
  cfg        : CfgS
  enc        : Vector EncS 4
  cu         : Vector CuS 32
  absIn      : Vector AbsS 2
  sw         : Vector SwS 8
  evt        : EvtS
  prt        : Vector PrtS 8
  ing        : Vector IngS 12
  sti        : StiS
  vg         : VgS
  seg        : SegS
  sdf        : SdfS
  flt        : FltS
  lane       : LaneS
  np         : Vector NpS 4
  isp        : IspS
  dmc        : Vector DmcS 8
  dma        : Vector DmaS 32
  tw         : Vector TwS 4
  pwr        : PwrS
  cal        : CalS
  boot       : BootS
  /-- Boundary-scan instruction in effect (R473). -/
  jtag       : Nat
  /-- What the cells of the boundary register hold, the one nearest TDO first (R473). -/
  scan       : List Bool
  /-- DDR-4 contents: every byte that is not 0, by device address, rising (R318). -/
  ddr        : List Host.Cell
  /-- 64-byte lines that hold POISON (R325), rising. -/
  poison     : List Nat
  /-- Status of the last register write or command (R10, R372). -/
  lastStatus : BitVec 8
  /-- Free values taken so far (the model's own). -/
  freeCtr    : Nat
  /-- What the device has driven and sent, oldest first (the model's own). -/
  out        : List Out
  /-- Commands waiting, first in, first out. -/
  pending    : List Instr
  deriving DecidableEq, Repr

/-! ### Reset -/

/-- Print-port state at reset. -/
def PrtS.init : PrtS :=
  { busy := false, window := false, fire := false, latching := false, latched := none, lbl := 0,
    shifting := none, shifted := none, prefetch := [], heatOk := false, hotLeft := none, cycHot := false,
    pass := none, p0 := 0,
    webAt := Vector.replicate 4 0, passBad := false, backOk := false, absSeen := Vector.replicate 2 false, hitId := none, tk := [], nz := [] }

/-- Ingest state at reset: the first LINE_SEQ is 0 (assumption 196). -/
def IngS.init : IngS :=
  { tags := [], seqNext := 0, expect := none, rx := [], rxLine := none, nextTag := none, ahead := [], lastTag := none, act := [], rows := [],
    since := 0 }

/-- Seam state at reset. -/
def SeamS.init : SeamS :=
  { e := (0, 0), c := (0, 0), a := (0, 0), pend := false, mprev := (0, 0), prov := false, seed := none, cfg := 0 }

/-- Region state at reset. -/
def RegionS.init : RegionS :=
  { block := 0, partials := [], tables := [], offs := [], loading := none, loadNext := [], fallback := none, fallNext := none, even := false, gone := [], ringFrom := 0 }

/-- The machine right after a cold reset of a board. -/
def State.cold (b : Board) : State :=
  { board := b, regs := [],
    hq :=
      { unsig := Vector.replicate 32 0, slots := Vector.replicate 32 [], bells := [], bellCtr := 0, slotCtr := 0,
        posted := [], gather := Vector.replicate 2 [], gatherT := Vector.replicate 2 0,
        frameSeq := Vector.replicate 2 0, linkUp := false, pcie := none },
    time :=
      { ts := 0, evt5 := 0, launch := Vector.replicate 2 [], heldTx := Vector.replicate 2 [], txEnd := Vector.replicate 2 0, reqSeq := 0, reqWait := false,
        reqSpoil := false, reqOut := 0, upAge := 5, rtc := 0, rtcAcc := 0, rtcTrim := 0, rtcRose := false, seedWait := none },
    cfg :=
      { load := { active := false, bytes := 0, last := none }, struct := none, applying := none,
        build := 0, jobA := none, jobB := none, sidA := 0, sidB := 0, swapDone := false, crossAt := 0,
        stopReq := false, trigDis := true, swapRev := none, warmPend := none },
    enc := Vector.replicate 4
      { a := false, b := false, z := false, sa := false, sb := false, sz := false, deadA := false, deadB := false, deadZ := false,
        hist := [], last := none, idxL := 0 },
    cu := Vector.replicate 32 { hiHold := none, evArm := false, rev := none, delayed := false, deferred := false },
    absIn := Vector.replicate 2 { busy := false },
    sw := Vector.replicate 8 { run := none },
    evt := { busy := Vector.replicate 64 false, pin := Vector.replicate 64 false, lvl0 := false, lvl1 := false, slow := 2 ^ 13 + 2 ^ 15 },
    prt := Vector.replicate 8 PrtS.init,
    ing := Vector.replicate 12 IngS.init,
    sti :=
      { refTags := [], refNext := 0, store := Vector.replicate 12 [], nextK := Vector.replicate 12 0,
        stag := Vector.replicate 12 { lines := [] }, formed := 0, seams := Vector.replicate 11 SeamS.init,
        regDue := false, shorts := [], provBlk := false, umap := [] },
    vg := { lines := [], first := 0, units := [], regions := Vector.replicate 8 RegionS.init, pus := [] },
    seg :=
      { objs := [], descs := [], commits := [], nextBlk := 0, outcomes := [], waiting := [], spill := [], spillWr := 0, dropped := [],
        orgNext := false, orgA := 0, orgB := 0, cutAt := none, master := [], crops := [] },
    sdf := { ch := Vector.replicate 16 { h0 := [], c0 := 0, h1 := [], c1 := 0, h2 := [], c2 := 0, h3 := [], c3 := 0, samples := [] }, sync := Vector.replicate 4 false, gone := Vector.replicate 4 false },
    flt := { gen := 0, handover := false, hbSeq := 0, heard := false, peerGen := 0, peerFl := 0, peerSeq := none, demoted := false, resync := { phase := 0, tcap := 0, pos := [], half := [], points := [], b0 := 0, refPt := 0, refCu := 0, blk := 0, seed := none }, own := [], peer := [], cmpOn := false, cmpFrom := 0, hbT := 0, plls := [] },
    lane := { seeds := [], tries := [], lost := [], tests := [], red := Vector.replicate 12 [], set := Vector.replicate 12 0, skew := [], ctrl := Vector.replicate 12 [] },
    np := Vector.replicate 4 NpS.init,
    isp := { vs := Vector.replicate 2 none, frames := [], work := [], slot := 0, skip := false, again := Vector.replicate 4 false },
    dmc := Vector.replicate 8 { waiting := [], wq := [], rows := [], down := [], post := [], copies := [], remap := [], rank1 := false, ce := [], ue := [], ret := [], scrub := 0, failed := [], dly := [], take := [] },
    dma := Vector.replicate 32 { got := [], tag := 0, sent := none, ack := false, fin := none },
    tw := Vector.replicate 4 { op := 0, clear := false, after := false, held := false, losses := 0, tgt := none, ptr := 0, staged := [], snap := [] },
    pwr := { powered := [], asking := false, delays := 0, retry := false, stopped := [], rolling := false, refusal := (0, 0, 0), hold := 0, leaving := none, dies := [], moves := [], volts := [], inRange := false, wrote := false, held := [], twUp := false },
    cal := { runs := [], trig := 0 },
    boot := { image := false, script := [], idx := 0, wait := .run, ssvid := 0, ssid := 0, training := false },
    jtag := 1,
    scan := [],
    ddr := [], poison := [], lastStatus := 0, freeCtr := 0, out := [], pending := [] }

/-- The machine right after reset: a W1296 with every strap and fuse at 0, after a cold reset (assumption 1). -/
def State.reset : State := State.cold { variant := .w1296 }

end Sys2Proof.Machine
end

