-- ==== Sys2Proof/Machine/Ops.lean ====
section
/-!
DEFINITION. The named operations over the register store: read, write, fields, counters (R5, R6, R9), the computed views
(R31), ready bits (R30), fault notices (R376), and what leaves the device.
-/
namespace Sys2Proof.Machine

/-! ### The register store -/

/-- Look up an offset in the sparse store. -/
def regsGet : List (Nat × Word) → Nat → Option Word
  | [], _ => none
  | (a, w) :: rest, off => if a = off then some w else regsGet rest off

/-- Remove an offset. -/
def regsErase (l : List (Nat × Word)) (off : Nat) : List (Nat × Word) := l.filter (fun e => e.1 != off)

/-- Insert in rising order of offsets. -/
def regsInsert : List (Nat × Word) → Nat → Word → List (Nat × Word)
  | [], off, w => [(off, w)]
  | (a, v) :: rest, off, w => if off < a then (off, w) :: (a, v) :: rest else (a, v) :: regsInsert rest off w

/-- Offsets strictly rise, and no entry equals its reset value. -/
def regsWf (b : Board) (l : List (Nat × Word)) : Bool :=
  decide (l.Pairwise (fun x y => x.1 < y.1)) && l.all (fun e => e.2 != resetVal b e.1)

/-- The value of a register (its reset value where the store has no entry). -/
def State.rd (s : State) (off : Nat) : Word := (regsGet s.regs off).getD (resetVal s.board off)

/-- Set a register. -/
def State.put (s : State) (off : Nat) (w : Word) : State :=
  { s with regs :=
      if w = resetVal s.board off then regsErase s.regs off
      else regsInsert (regsErase s.regs off) off w }

/-- A register as a number. -/
def State.rdN (s : State) (off : Nat) : Nat := (s.rd off).toNat

/-- Set a register from a number, modulo 2^32. -/
def State.putN (s : State) (off : Nat) (v : Nat) : State := s.put off (BitVec.ofNat 32 v)

/-- The mask of a field. -/
def Fld.mask (f : Fld) : Word := BitVec.ofNat 32 ((2 ^ f.w - 1) * 2 ^ f.lo)

/-- A field's value. -/
def State.fld (s : State) (f : Fld) : Nat := fieldN (s.rdN f.off) f.lo f.w

/-- A one-bit field. -/
def State.bit (s : State) (f : Fld) : Bool := s.fld f != 0

/-- A field read as two's complement (R8). -/
def State.sfld (s : State) (f : Fld) : Int := toSigned f.w (s.fld f)

/-- A word with a field replaced by the low bits of `v`. -/
def Fld.ins (f : Fld) (w : Word) (v : Nat) : Word :=
  (w &&& ~~~f.mask) ||| BitVec.ofNat 32 (v % 2 ^ f.w * 2 ^ f.lo)

/-- Set a field; the register's other bits keep their value. -/
def State.setFld (s : State) (f : Fld) (v : Nat) : State := s.put f.off (f.ins (s.rd f.off) v)

/-- Set a one-bit field. -/
def State.setBit (s : State) (f : Fld) (b : Bool) : State := s.setFld f (b2n b)

/-- Raise a flag. -/
def State.flag (s : State) (f : Fld) : State := s.setFld f 1

/-- Set a field from a signed value, wrapping (R8). -/
def State.setSfld (s : State) (f : Fld) (v : Int) : State := s.setFld f (wrapTo f.w v)

/-- One count of a wrapping counter. -/
def State.incWrap (s : State) (f : Fld) : State := s.setFld f (s.fld f + 1)

/-- One count of a saturating counter without a SAT bit (R9). -/
def State.incSat (s : State) (f : Fld) : State := s.setFld f (satInc f.w (s.fld f))

/-- One count of a saturating counter; SAT is set as it reaches its largest value (R9). -/
def State.incCnt (s : State) (f sat : Fld) : State :=
  let v := satInc f.w (s.fld f)
  let s := s.setFld f v
  if v + 1 = 2 ^ f.w then s.flag sat else s

/-- Add `k` to a saturating counter with a SAT bit (R9). -/
def State.addCnt (s : State) (f sat : Fld) (k : Nat) : State :=
  let v := min (s.fld f + k) (2 ^ f.w - 1)
  let s := s.setFld f v
  if v + 1 = 2 ^ f.w ∧ 0 < k then s.flag sat else s

/-! ### Presence, free values, fixed numbers of things -/

/-- Does the instance exist on the part fitted (R3)? -/
def State.has (s : State) (k : InstKind) (i : Nat) : Bool := present s.board.variant k i

/-- A fresh free value of 32 bits for a value the spec leaves open. -/
def State.free (s : State) : Word × State := (Config.freeWord s.freeCtr, { s with freeCtr := s.freeCtr + 1 })

/-- Element `i` of a vector, or a default outside it. -/
def vget {α : Type} {n : Nat} (v : Vector α n) (i : Nat) (d : α) : α := v[i]?.getD d

/-- Set element `i` of a vector; unchanged outside it. -/
def vput {α : Type} {n : Nat} (v : Vector α n) (i : Nat) (a : α) : Vector α n :=
  if h : i < n then v.set i a h else v

/-- Does an output leave by balls of the scan chain (R473)? The CML lanes and PCIe have no cells. -/
def scanned : Out → Bool
  | .camTrigger .. | .camCtrl .. | .camLinks .. | .headShift .. | .headLatch .. | .headFire .. | .pulse .. | .level .. | .twStart ..
  | .twStop .. | .twData .. | .twClear .. | .heartbeat | .claim .. | .qspi .. | .ddrReset .. | .ddrRcw .. | .ddrMode .. | .ddrZq .. => true
  | .msix .. | .writeBack .. | .barRead .. | .pcieIds .. | .eth .. | .nimeb .. | .nimAlign .. | .crop .. | .hostWrite .. | .tdo .. | .scanChain .. => false

/-- EXTEST, CLAMP or HIGHZ is in effect: the scan chain alone drives the balls (R473). -/
def State.scanDrives (s : State) : Bool := s.jtag == 0 || s.jtag == 4 || s.jtag == 5

/-- What the device drives or sends, oldest first. While the scan chain drives the balls, nothing reaches them (R473). -/
def State.emit (s : State) (o : Out) : State :=
  if s.scanDrives && scanned o then s else { s with out := s.out ++ [o] }

/-- Remember the status of the last write or command (R10, R372). -/
def State.status (s : State) (st : Nat) : State := { s with lastStatus := BitVec.ofNat 8 st }

/-! ### Time and position as captures see them -/

/-- The TS counter in whole nanoseconds, 64 bits (R284). -/
def State.ns (s : State) : Nat := s.time.ts / 2 ^ 32 % 2 ^ 64

/-- TS_NS. -/
def State.tsNs (s : State) : Nat := s.ns % 2 ^ 32

/-- EVT_CLK cycles since cold reset. -/
def State.evtNow (s : State) : Nat := s.time.evt5 / 5

/-- Position of encoder channel n (R70). -/
def State.pos (s : State) (n : Nat) : Nat := s.rdN (R.ENC_POS n)

/-! ### The fault summary (R31) and its notice (R376) -/

/-- The bit of TOP_FAULT_SUM a block's sticky flags are OR-ed into (R31); VG regions follow their instance. -/
def sumBit (b : Block) (i : Nat) : Option Nat :=
  match b with
  | .cfg => some 0 | .hostq => some 1 | .lane => some 2 | .nim => some 3 | .eth => some 4 | .ing => some 5
  | .sti => some 6 | .seg => some 7 | .prt => some 8 | .enc => some 9 | .time => some 10 | .sdf => some 11
  | .dmc => some 12 | .dma => some 13 | .cmp => some 14 | .tw => some 15 | .pwr => some 16 | .cal => some 17
  | .isp => some 18 | .vg => some (19 + i) | .flt => some 27
  | .top => none | .evt => none

/-- The summary bits one stored register raises: a W1C flag that is set. HQ_EVT_PEND holds notices, not flags. -/
def sumOf (off : Nat) (w : Word) : Nat :=
  match findReg off, blockOf off with
  | some r, some b =>
    if off != R.HQ_EVT_PEND && (w &&& BitVec.ofNat 32 r.row.w1c) != 0 then
      match sumBit b r.i with
      | some k => 2 ^ k
      | none => 0
    else 0
  | _, _ => 0

/-- TOP_FAULT_SUM (R31); a fatal fault is a device-level fault pending in FLT. -/
def State.faultSum (s : State) : Nat :=
  let base := s.regs.foldl (fun a e => Nat.lor a (sumOf e.1 e.2)) 0
  let ft := if s.bit F.FLT_STAT_FATAL then 2 ^ 27 else 0
  let dg := if s.bit F.FLT_STAT_DEGRADED then 2 ^ 28 else 0
  let ac := if s.bit F.TOP_ACC_ERR_VALID then 2 ^ 29 else 0
  Nat.lor base (Nat.lor ft (Nat.lor dg ac))

/-- MSI-X message of a vector, or its pending bit while the vector or the function is masked; nothing while the host has not enabled MSI-X
(R376, assumption 232). -/
def State.msix (s : State) (vec : Nat) : State :=
  match s.hq.pcie with
  | none => s
  | some c =>
    if !c.msixEn then s
    else if c.msixMask || (s.rdN (R.MSIX_TBL vec 3)) % 2 = 1 then
      let o := R.MSIX_PBA (vec / 32)
      s.put o (s.rd o ||| BitVec.ofNat 32 (2 ^ (vec % 32)))
    else s.emit (.msix vec)

/-- A vector that nothing masks any longer and that is pending sends its message (R376). -/
def State.msixUnmask (s : State) (vec : Nat) : State :=
  let o := R.MSIX_PBA (vec / 32)
  if bitN (s.rdN o) (vec % 32) && (s.rdN (R.MSIX_TBL vec 3)) % 2 = 0 && s.hq.pcie.any (fun c => c.msixEn && !c.msixMask) then
    (s.putN o (s.rdN o - 2 ^ (vec % 32))).emit (.msix vec)
  else s

/-- The notice of a fault-summary rise (R376). -/
def State.faultNotice (s : State) : State :=
  if s.bit F.HQ_EVT_PEND_FLT then s
  else
    let s := s.flag F.HQ_EVT_PEND_FLT
    if s.bit F.HQ_EVT_CFG_FLT_EN then s.msix (s.fld F.HQ_EVT_CFG_FLT_VEC) else s

/-- The gates formed outside EVT_CLK, by gate number (R95, R434): RUN, PRIMARY, NOT_DEGRADED. -/
def State.slowNow (s : State) : Nat :=
  2 ^ 12 * b2n (s.bit F.CFG_CTL_RUN && !s.bit F.CFG_STAT_APPLYING)
    + 2 ^ 13 * b2n (!s.bit F.FLT_PAIR_CFG_PAIR_EN || !s.bit F.FLT_PAIR_STAT_PEER_VALID
        || s.fld F.FLT_PAIR_STAT_PEER_C < s.fld F.FLT_PAIR_STAT_OWN_C)
    + 2 ^ 15 * b2n (!s.bit F.FLT_STAT_DEGRADED)

/-- End of every command: the gates formed outside EVT_CLK take their new level, which the command's own activations do not see (R95, assumption
184), and a rise of any TOP_FAULT_SUM bit since `old` gives its notice (R376). -/
def State.settle (s old : State) : State :=
  let s := { s with evt := { s.evt with slow := s.slowNow } }
  let n := s.faultSum
  if Nat.lor n old.faultSum = old.faultSum then s else s.faultNotice

/-- A command's outcome: the device goes on with the state the meaning gives, fault notices included. -/
def done (old s : State) : Host.Outcome State Fault Refusal := .next (s.settle old)

end Sys2Proof.Machine
end

