-- ==== Sys2Proof/Machine/Memory.lean ====
section
/-!
DEFINITION. DDR-4 contents as bytes (R318): a sparse list in one canonical form, addresses rising and no entry 0.
A byte nothing has written reads as 0 (assumption 2).
-/
namespace Sys2Proof.Machine

/-- A byte of the list. -/
def memGet : List Host.Cell → Nat → Byte
  | [], _ => 0
  | (a, b) :: rest, x => if a = x then b else memGet rest x

/-- Insert a byte in rising order. -/
def memInsert : List Host.Cell → Nat → Byte → List Host.Cell
  | [], x, v => [(x, v)]
  | (a, b) :: rest, x, v => if x < a then (x, v) :: (a, b) :: rest else (a, b) :: memInsert rest x v

/-- Write one byte; a byte written as 0 leaves the list. -/
def memSet (m : List Host.Cell) (x : Nat) (v : Byte) : List Host.Cell :=
  let m := m.filter (fun c => c.1 != x)
  if v = 0 then m else memInsert m x v

/-- Addresses rise and no entry reads as an unlisted byte. -/
def memWf (m : List Host.Cell) : Bool :=
  decide (m.Pairwise (fun x y => x.1 < y.1)) && m.all (fun c => c.2 != 0)

/-- Write a byte string from address `x` up. -/
def memSetAll (m : List Host.Cell) (x : Nat) : List Byte → List Host.Cell
  | [] => m
  | b :: bs => memSetAll (memSet m x b) (x + 1) bs

/-- `n` bytes from address `x` up. -/
def memRange (m : List Host.Cell) (x : Nat) : Nat → List Byte
  | 0 => []
  | n + 1 => memGet m x :: memRange m (x + 1) n

/-- Read DDR-4. -/
def State.memRead (s : State) (a n : Nat) : List Byte := memRange s.ddr a n

/-- Put bytes into DDR-4; a line written whole loses its POISON (R325). -/
def State.memPut (s : State) (a : Nat) (bs : List Byte) : State :=
  { s with
    ddr := memSetAll s.ddr a bs,
    poison := s.poison.filter (fun l => !(a ≤ 64 * l && 64 * l + 64 ≤ a + bs.length)) }

/-- Write DDR-4. While installed DDR-4 does not exist, the request is not executed (R318). -/
def State.memWrite (s : State) (a : Nat) (bs : List Byte) : State :=
  if !s.bit F.DMC_INSTALLED_VALID then s else s.memPut a bs

/-- The 64-byte lines a range touches (R325). -/
def lineRange (a n : Nat) : List Nat :=
  if n = 0 then [] else (List.range ((a + n - 1) / 64 - a / 64 + 1)).map (· + a / 64)

/-- Is a 64-byte line read with POISON: it holds it (R325), or installed DDR-4 does not exist (R318)? -/
def State.badLine (s : State) (l : Nat) : Bool := !s.bit F.DMC_INSTALLED_VALID || s.poison.contains l

/-- Does a range meet POISON (R318, R325)? -/
def State.poisoned (s : State) (a n : Nat) : Bool := (lineRange a n).any s.badLine

/-- Read DDR-4 with zeros for the poisoned lines (R364). -/
def State.memReadZ (s : State) (a n : Nat) : List Byte :=
  (List.range n).map (fun i => if s.badLine ((a + i) / 64) then 0 else memGet s.ddr (a + i))

/-- Read DDR-4 for a requester the spec gives no POISON rule: a poisoned line's bytes are free values (assumption 90). -/
def State.memReadFree (s : State) (a n : Nat) : List Byte :=
  (List.range n).map (fun i =>
    if s.badLine ((a + i) / 64) then BitVec.ofNat 8 (Config.freeWord (s.freeCtr + i)).toNat else memGet s.ddr (a + i))

end Sys2Proof.Machine
end

