-- ==== Sys2Proof/Machine/Operands.lean ====
section
/-!
DEFINITION. Operand forms several blocks share: counts compared across the wrap (R72), 32.16 compare points and spacings (R78),
and the jobs of the two banks (R55).
-/
namespace Sys2Proof.Machine

/-- "a ≤ b" between two counts, across a wrap (R72). -/
def cntLe (a b : Nat) : Bool := (b + 2 ^ 32 - a % 2 ^ 32) % 2 ^ 32 < 2 ^ 31

/-- Signed distance b - a of two counts. -/
def cntDiff (a b : Nat) : Int := toSigned 32 ((b + 2 ^ 32 - a % 2 ^ 32) % 2 ^ 32)

/-- Next compare point of a unit, 32.16 (R78). -/
def State.cuN (s : State) (u : Nat) : Nat := s.fld (F.CU_NEXT_INT_N u) * 65536 + s.fld (F.CU_NEXT_FRAC_N u)

/-- Set a unit's next compare point, modulo 2^48. -/
def State.setCuN (s : State) (u n : Nat) : State :=
  (s.setFld (F.CU_NEXT_INT_N u) (n / 65536)).setFld (F.CU_NEXT_FRAC_N u) n

/-- Spacing of a unit, 32.16 (R78). -/
def State.cuS (s : State) (u : Nat) : Nat := s.fld (F.CU_SPACING_HI_S_HI u) * 2 ^ 32 + s.fld (F.CU_SPACING_S u)

/-- ceil of a 32.16 point, as a count (R80). -/
def ptCeil (n : Nat) : Nat := (n + 65535) / 65536 % 2 ^ 32

/-- floor of a 32.16 point, as a count (R80). -/
def ptFloor (n : Nat) : Nat := n / 65536 % 2 ^ 32

/-- A 32.16 point moved by a signed count, modulo 2^48. -/
def ptMove (n : Nat) (d : Int) : Nat := wrapTo 48 ((n : Int) + d * 65536)

/-- The job of a bank, true for B (R55). -/
def State.job (s : State) (b : Bool) : Option JobData := if b then s.cfg.jobB else s.cfg.jobA

/-- State code of a bank (R55). -/
def State.bankState (s : State) (b : Bool) : Nat :=
  if b then s.fld F.CFG_BANK_B_STATE else s.fld F.CFG_BANK_A_STATE

/-- Set a bank's state code. -/
def State.setBank (s : State) (b : Bool) (v : Nat) : State :=
  if b then s.setFld F.CFG_BANK_B_STATE v else s.setFld F.CFG_BANK_A_STATE v

/-- Some bank is RUNNING. -/
def State.anyRunning (s : State) : Bool := s.bankState false == 4 || s.bankState true == 4

/-- The bank that is ARMED. -/
def State.armedBank (s : State) : Option Bool :=
  if s.bankState false = 3 then some false else if s.bankState true = 3 then some true else none

/-- The PRINT entry of a port in a bank (R251). -/
def State.prtEntry (s : State) (b : Bool) (n : Nat) : Option PrtE :=
  match s.job b with
  | none => none
  | some j => j.prints.find? (fun e => e.port == n)

/-- The same, where the bank is RUNNING, or DRAINING with lines of its own in flight: the port uses no other (R44, R55). -/
def State.workEntry (s : State) (b : Bool) (n : Nat) : Option PrtE :=
  if s.bankState b = 4 ∨ s.bankState b = 5 then s.prtEntry b n else none

/-- The COMPARE entry of a unit in a bank (R62). -/
def State.cmpEntry (s : State) (b : Bool) (u : Nat) : Option CmpE :=
  match s.job b with
  | none => none
  | some j => j.compares.find? (fun e => e.cu == u)

/-- DDR-4 is installed where a byte range lies (R318): DMC_INSTALLED.VALID and its size. -/
def State.inDdr (s : State) (a n : Nat) : Bool :=
  s.bit F.DMC_INSTALLED_VALID && a + n ≤ s.fld F.DMC_INSTALLED_MIB * 2 ^ 20

/-- Gate or wake a block (R395). -/
def State.gateSet (s : State) (b : Nat) (g : Bool) : State := s.setBit (F.PWR_CLASS_GATED b) g

/-- A register access wakes the block it reaches, where gated (R397). -/
def State.wakeBlock (s : State) (b : Nat) : State := if s.bit (F.PWR_CLASS_GATED b) then s.gateSet b false else s

end Sys2Proof.Machine
end

