-- ==== Sys2Proof/Machine/Hostq.lean ====
section
/-!
DEFINITION. The device-to-host side of HOSTQ: rings (R356 to R359), completions in ring order (R373), MSI-X (R376), records
(R233 to R240, R445, R446), Ethernet record frames and launch queues (R240, R295).
-/
namespace Sys2Proof.Machine

/-! ### Rings -/

/-- Ring bytes of an entry: a multiple of 16 (R356, R360, R361, R371). -/
def HostEntry.ringBytes : HostEntry → Nat
  | .comp _ => 16
  | .pkt p =>
    let n := p.data.length
    let body := if n = 0 then 0 else (n + 3) / 4 * 4 + 4
    (32 + body + 15) / 16 * 16

/-- The bytes of an entry without its ring padding (R360, R361, R371). -/
def HostEntry.toBytes (q : Nat) : HostEntry → List Byte
  | .comp c =>
    let b := leBytes 2 0xC001 ++ leBytes 1 c.src ++ leBytes 1 c.status ++ leBytes 2 c.tag ++ leBytes 1 c.flags
      ++ leBytes 1 0 ++ leBytes 4 c.result
    b ++ leBytes 4 (crc32c b)
  | .pkt p =>
    let h := leBytes 2 p.opc ++ leBytes 1 (32 + q) ++ leBytes 1 p.flags ++ leBytes 2 p.tag ++ leBytes 2 0
      ++ leBytes 4 p.data.length ++ leBytes 8 p.target ++ leBytes 4 p.param0 ++ leBytes 4 0
    let body := padTo 4 p.data
    h ++ leBytes 4 (crc32c h) ++ (if p.data.isEmpty then [] else body ++ leBytes 4 (crc32c body))

/-- Ring size of queue `n` (0 to 63). -/
def State.ringSize (s : State) (n : Nat) : Nat := 2 ^ s.fld (F.HQ_CFG_SIZE n)

/-- Bytes between HEAD and TAIL of queue `n`. -/
def State.ringUsed (s : State) (n : Nat) : Nat :=
  (s.fld (F.HQ_TAIL_OFS n) + s.ringSize n - s.fld (F.HQ_HEAD_OFS n)) % s.ringSize n

/-- Bytes reserved in completion queue Q(32 + c) for packets under way (R358). -/
def State.reserved (s : State) (c : Nat) : Nat :=
  ((List.range 32).map (fun q => (((vget s.hq.slots q []).filter (·.cq == c)).map (·.room)).sum)).sum

/-- Queue Q(32 + c) has room for `n` more bytes: TAIL never comes within 16 bytes of HEAD (R356). -/
def State.hasRoom (s : State) (c n : Nat) : Bool :=
  s.bit (F.HQ_CFG_EN (32 + c)) && s.ringUsed (32 + c) + s.reserved c + n + 16 ≤ s.ringSize (32 + c)

/-- FULL of a device-to-host queue: not even a completion fits (R356). -/
def State.updFull (s : State) (c : Nat) : State :=
  s.setBit (F.HQ_STAT_FULL (32 + c))
    (s.bit (F.HQ_CFG_EN (32 + c)) && s.ringSize (32 + c) < s.ringUsed (32 + c) + 32)

/-- Index write-back of queue `n` (R357). -/
def State.writeBack (s : State) (n v : Nat) : State :=
  let a := s.rdN (R.HQ_WB_LO n) + 2 ^ 32 * s.rdN (R.HQ_WB_HI n)
  if a = 0 then s else s.emit (.writeBack a v)

/-- Signal the entries of Q(32 + c) not yet signalled (R376). -/
def State.signalQ (s : State) (c : Nat) : State :=
  if vget s.hq.unsig c 0 = 0 then s
  else
    let s := { s with hq := { s.hq with unsig := vput s.hq.unsig c 0 } }
    s.msix (s.fld (F.HQ_CFG_VEC (32 + c)))

/-- Bytes written to a ring at offset `t`: they continue at its byte 0 where they reach its end (R356). -/
def ringWrites (base size t : Nat) (bs : List Byte) : List Out :=
  let a := bs.take (size - t)
  let b := bs.drop (size - t)
  .hostWrite (base + t) a :: (if b.isEmpty then [] else [.hostWrite base b])

/-- Host address of ring `n` (R356). -/
def State.ringBase (s : State) (n : Nat) : Nat := s.rdN (R.HQ_BASE_LO n) + 2 ^ 32 * s.rdN (R.HQ_BASE_HI n)

/-- Write an entry, padded with zeros, at TAIL of Q(32 + c), then its index write-back, then its interrupt (R356, R374). A queue out of use takes
none. -/
def State.pushEntry (s : State) (c : Nat) (e : HostEntry) (irq : Bool) : State :=
  if !s.bit (F.HQ_CFG_EN (32 + c)) then s else
  let n := 32 + c
  let t0 := s.fld (F.HQ_TAIL_OFS n)
  let t := (t0 + e.ringBytes) % s.ringSize n
  let bs := e.toBytes c
  let s := (ringWrites (s.ringBase n) (s.ringSize n) t0 (bs ++ zeros (e.ringBytes - bs.length))).foldl State.emit s
  let s := s.setFld (F.HQ_TAIL_OFS n) t
  let u := vget s.hq.unsig c 0 + 1
  let s := { s with hq := { s.hq with posted := s.hq.posted ++ [(c, e)], unsig := vput s.hq.unsig c u } }
  let s := (s.updFull c).writeBack n t
  let ith := s.fld (F.HQ_CFG_ITHR n)
  if irq || ith = 0 || ith ≤ u then s.signalQ c else s

/-- Post an entry that may be dropped for want of room (R359). -/
def State.postOrDrop (s : State) (c : Nat) (e : HostEntry) : State :=
  if s.hasRoom c e.ringBytes then s.pushEntry c e false
  else (s.flag (F.HQ_STAT_DROP (32 + c))).incCnt (F.HQ_STAT_DROP_CNT (32 + c)) (F.HQ_STAT_SAT (32 + c))

/-! ### Completions in ring order -/

/-- Is an entry a completion (R371)? -/
def HostEntry.isComp : HostEntry → Bool
  | .comp _ => true
  | .pkt _ => false

/-- Post the entries of every slot at the front that is complete, oldest first (R373); the IRQ flag is the completion's (R376). -/
def flushList (s : State) : List Slot → State × List Slot
  | [] => (s, [])
  | t :: rest =>
    match t.entries with
    | none => (s, t :: rest)
    | some es => flushList (es.foldl (fun s e => s.pushEntry t.cq e (t.irq && e.isComp)) s) rest

/-- Flush host-to-device queue `q`'s completions. -/
def State.flushSlots (s : State) (q : Nat) : State :=
  let (s', rest) := flushList s (vget s.hq.slots q [])
  { s' with hq := { s'.hq with slots := vput s'.hq.slots q rest } }

/-- Reserve a completion's place for a packet of queue `q` in the queue's completion queue, which a later write of CQ does not change
(R358). Answers its key. -/
def State.openSlot (s : State) (q room bell : Nat) (irq : Bool) : Nat × State :=
  let k := s.hq.slotCtr
  let t : Slot := { key := k, bell := bell, room := room, entries := none, irq := irq, cq := s.fld (F.HQ_CFG_CQ q) }
  (k, { s with hq := { s.hq with slotCtr := k + 1, slots := vput s.hq.slots q (vget s.hq.slots q [] ++ [t]) } })

/-- A packet has completed: its entries are known, and what is in order is posted. -/
def State.closeSlot (s : State) (q key : Nat) (es : List HostEntry) : State :=
  let l := (vget s.hq.slots q []).map (fun t => if t.key = key then { t with entries := some es } else t)
  ({ s with hq := { s.hq with slots := vput s.hq.slots q l } }).flushSlots q

/-! ### Launch queues (R295) and frames -/

/-- The link of Ethernet port `p` is up. -/
def State.epUp (s : State) (p : Nat) : Bool := if p = 0 then s.bit F.TOP_READY_EP0 else s.bit F.TOP_READY_EP1

/-- Own address of a port, first octet in bits [7:0] (R7, assumption 12). -/
def State.macBytes (s : State) (p : Nat) : List Byte :=
  leBytes 4 (s.fld (F.ETH_EP_MAC_LO_MAC p)) ++ leBytes 2 (s.fld (F.ETH_EP_MAC_HI_MAC p))

/-- Insert by launch time; equal times keep their order of arrival (R295). -/
def launchInsert (e : LaunchE) : List LaunchE → List LaunchE
  | [] => [e]
  | x :: xs => if e.launch < x.launch then e :: x :: xs else x :: launchInsert e xs

/-- Replace a port's launch queue; DEPTH follows. -/
def State.setLaunch (s : State) (p : Nat) (l : List LaunchE) : State :=
  ({ s with time := { s.time with launch := vput s.time.launch p l } }).setFld (F.TIME_EP_LSTAT_DEPTH p) l.length

/-- A refused or dropped launch frame: FULL and DROP_CNT of the port (R295). -/
def State.launchDrop (s : State) (p : Nat) : State :=
  (s.flag (F.TIME_EP_LSTAT_FULL p)).incCnt (F.TIME_EP_LCNT_DROP_CNT p) (F.TIME_EP_LCNT_SAT p)

/-- Queue a SEG record frame for launch, or drop it (R240, R295). -/
def State.launchSeg (s : State) (p : Nat) (frame : List Byte) (l : Nat) : State :=
  let q := vget s.time.launch p []
  if 64 ≤ q.length then
    (s.launchDrop p).incCnt F.SEG_LOSS_CNT_DROP_CNT F.SEG_LOSS_CNT_SAT
  else
    s.setLaunch p (launchInsert
      { launch := l, frame := frame, owner := none, tag := 0, stamp := false, oneStep := false, t2 := 0 } q)

/-- An Ethernet record frame (R240). -/
def State.recordFrame (s : State) (p : Nat) (recs : List (List Nat)) : List Byte :=
  leBytes 4 (s.fld F.SEG_ETH_DST_LO_MAC) ++ leBytes 2 (s.fld F.SEG_ETH_DST_HI_MAC) ++ s.macBytes p
    ++ beBytes 2 (s.fld F.SEG_ETH_CTL_ETYPE) ++ leBytes 4 (s.fld F.TOP_DEVID_DEV_ID)
    ++ leBytes 4 (vget s.hq.frameSeq p 0) ++ leBytes 2 recs.length ++ zeros 6 ++ recs.flatMap wordsBytes

/-- Close the frame being gathered on port `p` and queue it for launch (R240). -/
def State.closeGather (s : State) (p : Nat) : State :=
  let recs := vget s.hq.gather p []
  if recs.isEmpty then s
  else
    let f := s.recordFrame p recs
    let l := (vget s.hq.gatherT p 0 + 1000 * s.fld F.SEG_ETH_CTL_LAUNCH) % 2 ^ 64
    let s := { s with hq := { s.hq with
      gather := vput s.hq.gather p [], frameSeq := vput s.hq.frameSeq p ((vget s.hq.frameSeq p 0 + 1) % 2 ^ 32) } }
    s.launchSeg p f l

/-- Add a record to the frame being gathered on port `p` (R240). -/
def State.gatherRec (s : State) (p : Nat) (ws : List Nat) : State :=
  let old := vget s.hq.gather p []
  let t := if old.isEmpty then s.ns else vget s.hq.gatherT p 0
  let s := { s with hq := { s.hq with
    gather := vput s.hq.gather p (old ++ [ws]), gatherT := vput s.hq.gatherT p t } }
  if s.fld F.SEG_ETH_CTL_GATHER = 0 ∨ 16 ≤ old.length + 1 then s.closeGather p else s

/-! ### Records (R233 to R239) -/

/-- The RECORDS packet of one record (R363, R374). -/
def recordsPkt (ws : List Nat) : HostEntry :=
  .pkt { opc := 0x8001, param0 := 1, data := wordsBytes ws }

/-- Records the spill area holds (R239). -/
def spillMax : Nat := 262144

/-- The DDR-4 address of place `k` of the spill area (R239). -/
def State.spillAddr (s : State) (k : Nat) : Nat := 2 ^ 24 * s.fld F.SEG_SPILL_CTL_ADDR + 64 * (k % spillMax)

/-- A record of route `r` can go to its queue at once: there is credit, and no spilled record of the queue goes before it (R238, R239). -/
def State.recCredit (s : State) (r : Nat) : Bool :=
  let c := s.fld (F.SEG_ROUTE_QID r)
  s.hasRoom c (HostEntry.pkt { opc := 0x8001, param0 := 1, data := zeros 64 }).ringBytes && !s.seg.spill.any (fun x => s.fld (F.SEG_ROUTE_QID x.1) = c)

/-- The spill takes a record: it is in use, its memory serves (R318), and it is not full (R239). -/
def State.spillRoom (s : State) : Bool :=
  s.bit F.SEG_SPILL_CTL_EN && s.seg.spill.length < spillMax && s.inDdr (s.spillAddr s.seg.spillWr) 64

/-- Post a complete record of 16 words to its queue, or to the spill in DDR-4, or drop it (R238, R239). -/
def State.postRecQ (s : State) (r : Nat) (ws : List Nat) : State :=
  let c := s.fld (F.SEG_ROUTE_QID r)
  if s.recCredit r then (s.pushEntry c (recordsPkt ws) false).incWrap F.SEG_REC_CNT_CNT
  else if s.spillRoom then
    let a := s.spillAddr s.seg.spillWr
    let s := s.memWrite a (wordsBytes ws)
    let q := { s.seg with spill := s.seg.spill ++ [(r, a)], spillWr := (s.seg.spillWr + 1) % spillMax }
    ({ s with seg := q }).flag F.SEG_STAT_SPILL_ACT
  else
    let d := if s.seg.dropped.any (·.1 = r)
      then s.seg.dropped.map (fun x => if x.1 = r then (x.1, x.2 + 1) else x)
      else s.seg.dropped ++ [(r, 1)]
    (({ s with seg := { s.seg with dropped := d } }).flag F.SEG_STAT_REC_DROP).incCnt
      F.SEG_LOSS_CNT_DROP_CNT F.SEG_LOSS_CNT_SAT

/-- OBJ_ID of a record (R233). -/
def recObj (ws : List Nat) : Nat := ws.getD 10 0 + 2 ^ 32 * fieldN (ws.getD 9 0) 12 8

/-- Types of record that shadow compare covers (R438). -/
def shadowType (ws : List Nat) : Bool := [1, 2, 3, 0x12].contains (ws.getD 0 0 % 256)

/-- Is a record of a type that shadow compare covers compared: JOB_SWAP always, an object's from B_R on (R438, R442)? -/
def State.compared (s : State) (ws : List Nat) : Bool := ws.getD 0 0 % 256 == 0x12 || s.flt.cmpFrom ≤ recObj ws

/-- A record of a type that shadow compare covers is kept: every one for the partner on the primary, on the standby those that are compared
(R438). -/
def State.shadowKeep (s : State) (ws : List Nat) : State :=
  if s.flt.cmpOn && s.bit F.FLT_PAIR_CFG_PAIR_EN && shadowType ws && (s.bit F.FLT_PAIR_STAT_ROLE || s.compared ws) then
    { s with flt := { s.flt with own := s.flt.own ++ [ws] } }
  else s

/-- Send a record of route `r` (words 0 to 14) to its queue and its Ethernet ports (R238). -/
def State.record (s : State) (r : Nat) (ws : List Nat) : State :=
  let ws := ws ++ [crc32c (wordsBytes ws)]
  let s := s.shadowKeep ws
  let s := if s.bit (F.SEG_ROUTE_Q_EN r) then s.postRecQ r ws else s
  let sevOk := r != 0 || s.fld (F.SEG_ROUTE_MIN_SEV r) ≤ fieldN (ws.getD 0 0) 12 3
  let s := if s.bit (F.SEG_ROUTE_EP0_EN r) && sevOk then s.gatherRec 0 ws else s
  if s.bit (F.SEG_ROUTE_EP1_EN r) && sevOk then s.gatherRec 1 ws else s

/-- JOB_ID of a bank (R56). -/
def State.jobId (s : State) (b : Bool) : Nat := if b then s.fld F.CFG_JOBB_JOB_ID else s.fld F.CFG_JOBA_JOB_ID

/-- The running bank, true for B. -/
def State.runBank (s : State) : Bool := s.bit F.CFG_BANK_RUN_BANK

/-- A system record (R235): type, position, time, words 4 to 8. -/
def State.sysRec (s : State) (ty enc ts w4 w5 w6 w7 : Nat) : List Nat :=
  [ty, s.jobId s.runBank, enc, ts, w4, w5 % 2 ^ 32, w6 % 2 ^ 32, w7 % 2 ^ 32, 0, 0, 0, 0, 0, 0, 0]

/-- Post a FAULT record (R445, R446). -/
def State.fault (s : State) (src cause inst : Nat) (w5 w6 w7 : Nat := 0) (fatal : Bool := false) : State :=
  let w4 := src + 256 * cause + 65536 * (inst % 1024) + 2 ^ 26 * b2n fatal + 2 ^ 27 * b2n (s.bit F.FLT_STAT_DEGRADED)
  s.record 4 (s.sysRec 0x20 (s.pos 0) s.tsNs w4 w5 w6 w7)

/-- Set a ready bit; a fall queues a FAULT record that names it (R30, R446). `k` counts TOP_READY's bits, and 32 + b those
of TOP_READY_IO. -/
def State.setReady (s : State) (k : Nat) (b : Bool) : State :=
  let f : Fld := ⟨if k < 32 then R.TOP_READY else R.TOP_READY_IO, k % 32, 1⟩
  if b then s.flag f
  else if s.bit f then (s.setFld f 0).fault 0x07 0x1 k
  else s

/-- TOP_READY.ENC: inputs are enabled, and EVT_CLK samples them (R30). -/
def State.encReady (s : State) : State :=
  s.setReady 6 (s.bit ⟨R.TOP_READY, 5, 1⟩ && (List.range 4).any (fun n => s.bit (F.ENC_CTL_EN n)))

end Sys2Proof.Machine
end

