-- ==== Sys2Proof/Machine/Sdf.lean ====
section
/-!
DEFINITION. The sigma-delta sensor filter chain (R304 to R316).
-/
namespace Sys2Proof.Machine

/-- A chain right after a reset of its decimators, its samples kept (R307, R311). -/
def SdfCh.cleared (c : SdfCh) : SdfCh :=
  { c with h0 := [], c0 := 0, h1 := [], c1 := 0, h2 := [], c2 := 0, h3 := [], c3 := 0 }

/-- A chain that has never run. -/
def SdfCh.init : SdfCh :=
  { h0 := [], c0 := 0, h1 := [], c1 := 0, h2 := [], c2 := 0, h3 := [], c3 := 0, samples := [] }

/-- The chain of channel `n`. -/
def State.sdfCh (s : State) (n : Nat) : SdfCh := vget s.sdf.ch n SdfCh.init

/-- Replace the chain of channel `n`. -/
def State.setSdfCh (s : State) (n : Nat) (c : SdfCh) : State :=
  { s with sdf := { s.sdf with ch := vput s.sdf.ch n c } }

/-- Product of two tap lists, as polynomials. -/
def polyMul (a : List Int) : List Int → List Int
  | [] => []
  | b :: bs =>
    let rest := 0 :: polyMul a bs
    let here := a.map (· * b)
    (List.range (max here.length rest.length)).map (fun i => here.getD i 0 + rest.getD i 0)

/-- K-fold convolution of M ones (R306). -/
def sincTaps (m : Nat) : Nat → List Int
  | 0 => [1]
  | k + 1 => polyMul (sincTaps m k) (List.replicate m 1)

/-- The half-band taps (R306). -/
def halfTaps : List Int := [3, 0, -18, 0, 79, 128, 79, 0, -18, 0, 3]

/-- Sum of products of taps with a history, newest first. -/
def dot (taps xs : List Int) : Int := ((taps.zip xs).map (fun p => p.1 * p.2)).sum

/-- The rounding shift r(v, s) (R306). -/
def rshift (v : Int) (k : Nat) : Int := if k = 0 then v else asr (v + (2 ^ (k - 1) : Nat)) k

/-- sat24 (R306). -/
def sat24 (v : Int) : Int := clampI v (-8388608) 8388607

/-- Shift and saturate after stage `i`; a limited value sets SATi and counts (R306). -/
def State.stageOut (s : State) (n i sh : Nat) (v : Int) : Int × State :=
  let r := rshift v sh
  let y := sat24 r
  if y = r then (y, s)
  else
    let f := F.SDF_CH_STAT_SAT0_SAT3 n
    (y, (s.setFld f (Nat.lor (s.fld f) (2 ^ i))).incCnt (F.SDF_CH_STAT_SAT_CNT n) (F.SDF_CH_STAT_SAT n))

/-- Group of a channel (R304). -/
def sdfGroup (n : Nat) : Nat := n / 4

/-- Total group delay in half modulator clocks (R309). -/
def State.groupDelay (s : State) (n : Nat) : Nat :=
  let m := s.fld (F.SDF_CH_CTL_M n)
  let nhb := s.fld (F.SDF_CH_CTL_NHB n)
  (s.fld (F.SDF_CH_CTL_K n) + 1) * (m - 1)
    + ((List.range nhb).map (fun j => 10 * m * 2 ^ j)).sum
    + (if s.bit (F.SDF_CH_CTL_FIR_EN n) then s.fld (F.SDF_CH_FIR_GD n) * m * 2 ^ nhb else 0)

/-- SDF_CHn_GD follows the channel's settings (R309). -/
def State.updGd (s : State) (n : Nat) : State := s.setFld (F.SDF_CH_GD_G2 n) (s.groupDelay n)

/-- Emit a sample: stamp, history of 16, newest in DATA and TS (R310, R313). -/
def State.sdfEmit (s : State) (n : Nat) (v : Int) (tLast : Nat) : State :=
  let per := s.rdN (R.SDF_GRP_PER (sdfGroup n))
  if per = 0 then s
  else
    let corr : Nat := (s.groupDelay n * per + 2 ^ 16) / 2 ^ 17
    let st := wrapTo 32 ((tLast : Int) - corr)
    let c := s.sdfCh n
    let s := s.setSdfCh n { c with samples := ((st, v) :: c.samples).take 16 }
    let s := (s.putN (R.SDF_CH_DATA n) (wrapTo 32 v)).putN (R.SDF_CH_TS n) st
    (s.incWrap (F.SDF_CH_SEQ_SEQ n)).setFld (F.SDF_CH_STAT_SETTLING n) 0

/-- The FIR stage takes one input (R306, R307). -/
def State.firStage (s : State) (n : Nat) (x : Int × Bool) (tLast : Nat) : State :=
  let c := s.sdfCh n
  let nt := s.fld (F.SDF_CH_FIR_NT n)
  let h := (x :: c.h3).take 64
  let fd := 2 ^ s.fld (F.SDF_CH_CTL_FD n)
  if c.c3 + 1 < fd then s.setSdfCh n { c with h3 := h, c3 := c.c3 + 1 }
  else
    let s := s.setSdfCh n { c with h3 := h, c3 := 0 }
    let taps := (List.range nt).map (fun t => toSigned 18 (s.rdN (R.SDF_COEF n t)))
    let y := asr (dot taps (h.map (·.1)) + 2 ^ 15) 16
    let r := s.stageOut n 3 (s.fld (F.SDF_CH_SH_SH3 n)) y
    if nt ≤ h.length && (h.take nt).all (·.2) then r.2.sdfEmit n r.1 tLast else r.2

/-- The end of the half-bands: the FIR, or the sample itself. -/
def State.afterHalf (s : State) (n : Nat) (x : Int × Bool) (tLast : Nat) : State :=
  if s.bit (F.SDF_CH_CTL_FIR_EN n) then s.firStage n x tLast
  else if x.2 then s.sdfEmit n x.1 tLast else s

/-- The second half-band takes one input. -/
def State.half2 (s : State) (n : Nat) (x : Int × Bool) (tLast : Nat) : State :=
  if s.fld (F.SDF_CH_CTL_NHB n) < 2 then s.afterHalf n x tLast
  else
    let c := s.sdfCh n
    let h := (x :: c.h2).take 11
    if c.c2 = 0 then s.setSdfCh n { c with h2 := h, c2 := 1 }
    else
      let s := s.setSdfCh n { c with h2 := h, c2 := 0 }
      let r := s.stageOut n 2 (s.fld (F.SDF_CH_SH_SH2 n)) (asr (dot halfTaps (h.map (·.1)) + 128) 8)
      r.2.afterHalf n (r.1, h.length == 11 && h.all (·.2)) tLast

/-- The first half-band takes one input. -/
def State.half1 (s : State) (n : Nat) (x : Int × Bool) (tLast : Nat) : State :=
  if s.fld (F.SDF_CH_CTL_NHB n) < 1 then s.afterHalf n x tLast
  else
    let c := s.sdfCh n
    let h := (x :: c.h1).take 11
    if c.c1 = 0 then s.setSdfCh n { c with h1 := h, c1 := 1 }
    else
      let s := s.setSdfCh n { c with h1 := h, c1 := 0 }
      let r := s.stageOut n 1 (s.fld (F.SDF_CH_SH_SH1 n)) (asr (dot halfTaps (h.map (·.1)) + 128) 8)
      r.2.half2 n (r.1, h.length == 11 && h.all (·.2)) tLast

/-- One modulator bit (R306). -/
def State.sdfBit (s : State) (n : Nat) (x : Bool) (tLast : Nat) : State :=
  let c := s.sdfCh n
  let v : Int := if x != s.bit (F.SDF_CH_CTL_INV n) then 1 else -1
  let k := s.fld (F.SDF_CH_CTL_K n) + 1
  let m := s.fld (F.SDF_CH_CTL_M n)
  let h := (v :: c.h0).take (k * (m - 1) + 1)
  if c.c0 + 1 < m then s.setSdfCh n { c with h0 := h, c0 := c.c0 + 1 }
  else
    let s := s.setSdfCh n { c with h0 := h, c0 := 0 }
    let r := s.stageOut n 0 (s.fld (F.SDF_CH_SH_SH0 n)) (dot (sincTaps m k) h)
    r.2.half1 n (r.1, h.length == k * (m - 1) + 1) tLast

/-- A run of modulator bits, the last of them sampled now; earlier ones one clock period apart. -/
def sdfBits (s : State) (n : Nat) : List Bool → State
  | [] => s
  | x :: xs =>
    let back : Nat := xs.length * s.rdN (R.SDF_GRP_PER (sdfGroup n)) / 65536
    sdfBits (s.sdfBit n x (wrapTo 32 ((s.tsNs : Int) - back))) n xs

/-- Reset the decimators of a channel (R307). -/
def State.sdfReset (s : State) (n : Nat) : State :=
  (s.setSdfCh n (s.sdfCh n).cleared).setFld (F.SDF_CH_STAT_SETTLING n) 1

/-- Reset every enabled channel of a group. -/
def State.sdfResetGroup (s : State) (g : Nat) : State :=
  (List.range 4).foldl (fun s k => if s.bit (F.SDF_CH_CTL_EN (4 * g + k)) then s.sdfReset (4 * g + k) else s) s

/-- TOP_READY.SDF (R315). -/
def State.updSdf (s : State) : State :=
  let anyEn := (List.range 16).any (fun n => s.bit (F.SDF_CH_CTL_EN n))
  let allRun := (List.range 4).all (fun g => s.fld (F.SDF_GRP_CTL_MODE g) = 0 || s.bit (F.SDF_GRP_STAT_RUN g))
  s.setReady 10 (anyEn && allRun)

/-- A sync is counted and waits for the next modulator edge of each group that is not off; while RUN is 0 it is held (R311, R312, assumption
200). -/
def State.sdfSync (s : State) : State :=
  let s := (s.flag F.SDF_STAT_SYNC_SEEN).incWrap F.SDF_STAT_SYNC_CNT
  { s with sdf := { s.sdf with sync := Vector.ofFn (fun g => vget s.sdf.sync g false || s.fld (F.SDF_GRP_CTL_MODE g) != 0) } }

/-- The group's modulator edges stay away (R305). -/
def State.sdfGone (s : State) (g : Nat) : Bool := vget s.sdf.gone g false

/-- Note whether the group's modulator edges stay away. -/
def State.setGone (s : State) (g : Nat) (b : Bool) : State :=
  { s with sdf := { s.sdf with gone := vput s.sdf.gone g b } }

/-- Forget a group's waiting sync. -/
def State.clearSync (s : State) (g : Nat) : State :=
  { s with sdf := { s.sdf with sync := vput s.sdf.sync g false } }

/-- A packet write of SDF_CHn_CTL: the settings that may not change while EN is 1, and starting and stopping (R314).
Answers the status; 0x40 leaves the register unchanged. -/
def State.sdfCtlWrite (s : State) (n : Nat) (val : Nat) : State :=
  let off := R.SDF_CH_CTL n
  let old := s.rdN off
  let new := val % 2 ^ 18
  let en := bitN new 0
  let was := bitN old 0
  let g := sdfGroup n
  if was && old / 2 ≠ new / 2 then s.status 0x40
  else if fieldN new 13 2 = 3 then s.status 0x40
  else if en && !was then
    let m := fieldN new 4 9
    let nt := s.fld (F.SDF_CH_FIR_NT n)
    if s.fld (F.SDF_GRP_CTL_MODE g) = 0 ∨ m < 4 ∨ 256 < m ∨ (bitN new 15 ∧ (nt = 0 ∨ 64 < nt))
        ∨ 126 < s.fld (F.SDF_CH_FIR_GD n) then s.status 0x40
    else ((((s.putN off new).updGd n).sdfReset n).updSdf).status 0
  else if !en && was then
    let s := (s.putN off new).updGd n
    ((s.setSdfCh n { (s.sdfCh n).cleared with samples := [] }).updSdf).status 0
  else ((s.putN off new).updGd n).status 0

/-- The samples a channel offers ING, newest first (R313). -/
def State.sdfSamples (s : State) (n : Nat) : List (Nat × Int) :=
  if s.bit (F.SDF_CH_CTL_EN n) then (s.sdfCh n).samples else []

/-! ### Meanings -/

/-- SDF_SAMPLE (R306, R307): modulator bits of a channel, in order. They count from the last reset, also while PER is measured; no sample is
made while PER is 0 (R310). -/
def execSdfSample (n : Fin 16) (bits : List Bool) (s : State) : Host.Outcome State Fault Refusal :=
  let g := sdfGroup n
  if s.bit (F.SDF_CH_CTL_EN n) && s.fld (F.SDF_GRP_CTL_MODE g) != 0 && !s.sdfGone g && !s.bit (F.PWR_CLASS_GATED 0x0D) then
    done s (sdfBits s n bits)
  else done s s

/-- SDF_PERIOD_UPDATE (R305): the mean of 1,024 periods, 16.16 ns; there is none while the edges stay away. -/
def execSdfPeriodUpdate (g : Fin 4) (per : Word) (s : State) : Host.Outcome State Fault Refusal :=
  if s.fld (F.SDF_GRP_CTL_MODE g) = 0 ∨ s.sdfGone g then done s s
  else
    let s' := (s.put (R.SDF_GRP_PER g) per).flag (F.SDF_GRP_STAT_RUN g)
    let s' := if per.toNat < 38 * 65536 ∨ 210 * 65536 < per.toNat then s'.flag (F.SDF_GRP_STAT_CLK_RANGE g) else s'
    done s s'.updSdf

/-- SDF_CLOCK_LOST (R305): no edge for 2 µs. -/
def execSdfClockLost (g : Fin 4) (s : State) : Host.Outcome State Fault Refusal :=
  if s.fld (F.SDF_GRP_CTL_MODE g) = 0 then done s s
  else
    let s' := ((s.setFld (F.SDF_GRP_STAT_RUN g) 0).flag (F.SDF_GRP_STAT_CLK_LOST g)).putN (R.SDF_GRP_PER g) 0
    let s' := (List.range 4).foldl (fun s k => s.setFld (F.SDF_CH_STAT_SETTLING (4 * g + k)) 1) s'
    done s (s'.setGone g true).updSdf

/-- SDF_CLOCK_RETURN (R305): PER is measured afresh and the group's channels reset as for a sync; a held sync is spent. -/
def execSdfClockReturn (g : Fin 4) (s : State) : Host.Outcome State Fault Refusal :=
  if s.fld (F.SDF_GRP_CTL_MODE g) = 0 then done s s
  else done s ((((s.putN (R.SDF_GRP_PER g) 0).sdfResetGroup g).clearSync g).setGone g false)

/-- SDF_FSYNC (R311, R312): an edge of the FSYNC pin, active by FSYNC_EN and FSYNC_POL; `joined` says that it reaches SDF on the FAB_CLK edge
of a sync already counted, with which it counts as one (assumption 200). -/
def execSdfFsync (rising joined : Bool) (s : State) : Host.Outcome State Fault Refusal :=
  if s.bit F.SDF_CTL_FSYNC_EN && rising != s.bit F.SDF_CTL_FSYNC_POL && !joined then done s s.sdfSync else done s s

/-- SW_SYNC (R311, R312): a write of 1 to SDF_CTL.SW_SYNC, which wakes the block (R397); `joined` as at SDF_FSYNC. -/
def execSwSync (joined : Bool) (s : State) : Host.Outcome State Fault Refusal :=
  let s' := s.wakeBlock 0x0D
  done s ((if joined then s' else s'.sdfSync).status 0)

/-- SDF_SYNC_APPLY (R311): the group's next modulator edge after a sync; with RUN 0 the sync stays held (R312). -/
def execSdfSyncApply (g : Fin 4) (s : State) : Host.Outcome State Fault Refusal :=
  if vget s.sdf.sync g false && s.bit (F.SDF_GRP_STAT_RUN g) then done s ((s.clearSync g).sdfResetGroup g) else done s s

/-- SDF_CHANNEL_ENABLE (R314): a packet write of SDF_CHn_CTL with EN = 1, which wakes the block (R397). -/
def execSdfChannelEnable (n : Fin 16) (val : BitVec 18) (s : State) : Host.Outcome State Fault Refusal :=
  if s.has .sdi n then done s ((s.wakeBlock 0x0D).sdfCtlWrite n (val.toNat / 2 * 2 + 1)) else done s s

/-- SDF_CHANNEL_DISABLE (R314): a packet write of SDF_CHn_CTL with EN = 0. -/
def execSdfChannelDisable (n : Fin 16) (val : BitVec 18) (s : State) : Host.Outcome State Fault Refusal :=
  if s.has .sdi n then done s ((s.wakeBlock 0x0D).sdfCtlWrite n (val.toNat / 2 * 2)) else done s s

end Sys2Proof.Machine
end

