-- ==== Sys2Proof/Machine/Codec.lean ====
section
/-!
DEFINITION. The two lossless codes (R346 to R349) and when a decoder fails (R351), as functions on bytes.
A picture is a list of rows, a row a list of pixels, a pixel a list of channel samples.
-/
namespace Sys2Proof.Machine

/-- `k` bits of a value, most significant first. -/
def msbBits (k v : Nat) : List Bool := (List.range k).reverse.map (bitN v)

/-- Bytes from bits, most significant bit first, the last byte filled with zeros (R346). -/
def packBits : Nat → List Bool → List Byte
  | 0, _ => []
  | k + 1, bs =>
    let b := (bs.take 8).foldl (fun a x => 2 * a + b2n x) 0 * 2 ^ (8 - (bs.take 8).length)
    BitVec.ofNat 8 b :: packBits k (bs.drop 8)

/-- Bits of bytes, most significant bit first. -/
def unpackBits (bs : List Byte) : List Bool := bs.flatMap (fun b => msbBits 8 b.toNat)

/-- A segment's bytes: a multiple of 4 (R346). -/
def segBytes (bits : List Bool) : List Byte := padTo 4 (packBits ((bits.length + 7) / 8) bits)

/-- The coder's state of one channel (R348). -/
structure CodeSt where
  a : Nat
  n : Nat
  deriving DecidableEq, Repr

/-- The state a segment starts with (R348). -/
def CodeSt.start (d : Nat) : CodeSt := { a := max 2 (2 ^ d / 32), n := 1 }

/-- The Golomb parameter (R348). -/
def codeKGo (a n d : Nat) : Nat → Nat → Nat
  | 0, k => k
  | f + 1, k => if n * 2 ^ k < a ∧ k < d then codeKGo a n d f (k + 1) else k

/-- The Golomb parameter of a state (R348). -/
def CodeSt.k (c : CodeSt) (d : Nat) : Nat := codeKGo c.a c.n d d 0

/-- The state after a mapped error (R348). -/
def CodeSt.next (c : CodeSt) (m : Nat) : CodeSt :=
  if c.n + 1 = 64 then { a := (c.a + m + 1) / 2, n := 32 } else { a := c.a + m, n := c.n + 1 }

/-- Prediction from left, above and above-left (R347); none where there is no such neighbour. -/
def predict (d : Nat) (left up upLeft : Option Nat) : Nat :=
  match left, up with
  | none, none => 2 ^ (d - 1)
  | some a, none => a
  | none, some b => b
  | some a, some b =>
    let c := upLeft.getD b
    if max a b ≤ c then min a b else if c ≤ min a b then max a b else a + b - c

/-- Mapped prediction error (R348). -/
def mapErr (d x p : Nat) : Nat :=
  let e : Int := (x : Int) - p
  let e := if (2 ^ (d - 1) : Nat) ≤ e then e - (2 ^ d : Nat) else e
  let e := if e < -((2 ^ (d - 1) : Nat) : Int) then e + (2 ^ d : Nat) else e
  if 0 ≤ e then (2 * e).toNat else (-2 * e - 1).toNat

/-- The error of a mapped value. -/
def unmapErr (m : Nat) : Int := if m % 2 = 0 then ((m / 2 : Nat) : Int) else -(((m + 1) / 2 : Nat) : Int)

/-- The bits of one mapped error (R348). -/
def codeBits (d k m : Nat) : List Bool :=
  let q := m / 2 ^ k
  if q < 24 then List.replicate q true ++ [false] ++ msbBits k m
  else List.replicate 24 true ++ msbBits d m

/-- Code the channels of one pixel. -/
def codePixel (d : Nat) (px : List Nat) (left up upLeft : Option (List Nat)) (sts : List CodeSt) :
    List Bool × List CodeSt :=
  (List.range sts.length).foldl (fun acc ch =>
    let g (o : Option (List Nat)) : Option Nat := o.map (fun l => l.getD ch 0)
    let st := sts.getD ch (CodeSt.start d)
    let m := mapErr d (px.getD ch 0) (predict d (g left) (g up) (g upLeft))
    (acc.1 ++ codeBits d (st.k d) m, acc.2 ++ [st.next m])) ([], [])

/-- Code one row of a segment. `ups` is the row above, if there is one. -/
def codeRow (d : Nat) : List (List Nat) → Option (List (List Nat)) → Option (List Nat) → Option (List Nat) →
    List CodeSt → List Bool × List CodeSt
  | [], _, _, _, sts => ([], sts)
  | px :: rest, ups, left, upLeft, sts =>
    let up := match ups with
      | some (u :: _) => some u
      | _ => none
    let r := codePixel d px left up upLeft sts
    let r' := codeRow d rest (ups.map List.tail) (some px) up r.2
    (r.1 ++ r'.1, r'.2)

/-- Code the rows of a segment. -/
def codeRows (d : Nat) : List (List (List Nat)) → Option (List (List Nat)) → List CodeSt → List Bool
  | [], _, _ => []
  | row :: rest, ups, sts =>
    let r := codeRow d row ups none none sts
    r.1 ++ codeRows d rest (some row) r.2

/-- Width of every segment but perhaps the last (R346). -/
def segWidth (width nseg : Nat) : Nat := (width + nseg - 1) / nseg

/-- A predictive stream of a picture (R346). -/
def encPred (d chans nseg width : Nat) (rows : List (List (List Nat))) : List Byte :=
  let sw := segWidth width nseg
  let segs := (List.range nseg).map (fun i =>
    segBytes (codeRows d (rows.map (fun r => slice r (i * sw) (min ((i + 1) * sw) width - i * sw))) none
      (List.replicate chans (CodeSt.start d))))
  let body := leBytes 1 1 ++ leBytes 1 d ++ leBytes 1 chans ++ leBytes 1 nseg ++ leBytes 4 width
    ++ leBytes 4 rows.length ++ zeros 4 ++ segs.flatMap (fun g => leBytes 4 g.length) ++ segs.flatten
  body ++ leBytes 4 (crc32c body)

/-- Exp-Golomb code of order 0 (R349). -/
def expGolomb (n : Nat) : List Bool :=
  let z := Nat.log2 (n + 1)
  List.replicate z false ++ msbBits (z + 1) (n + 1)

/-- Runs of equal values in a row. -/
def runsOf : List Nat → List (Nat × Nat)
  | [] => []
  | x :: xs =>
    match runsOf xs with
    | (y, k) :: rest => if x = y then (y, k + 1) :: rest else (x, 1) :: (y, k) :: rest
    | [] => [(x, 1)]

/-- A run-length stream of a one-channel picture (R349). -/
def encRun (vbits width : Nat) (rows : List (List Nat)) : List Byte :=
  let bits := rows.flatMap (fun r => (runsOf r).flatMap (fun t => msbBits vbits t.1 ++ expGolomb (t.2 - 1)))
  let body := leBytes 1 2 ++ leBytes 1 vbits ++ zeros 2 ++ leBytes 4 width ++ leBytes 4 rows.length ++ zeros 4
    ++ segBytes bits
  body ++ leBytes 4 (crc32c body)

/-! ### Decoding -/

/-- The header of a stream (R346, R349). -/
structure StreamHdr where
  kind  : Nat
  /-- D, or VBITS of a run-length stream. -/
  depth : Nat
  chans : Nat
  nseg  : Nat
  width : Nat
  rows  : Nat
  deriving DecidableEq, Repr

/-- What a decoder makes of a stream (R351). -/
inductive Decoded where
  | ok (h : StreamHdr) (rows : List (List (List Nat)))
  /-- Fails, with a header that gives the geometry. -/
  | bad (h : StreamHdr)
  /-- The header itself fails. -/
  | badHdr
  deriving DecidableEq, Repr

/-- Parse and check the header (R346, R349, R351). -/
def parseHdr (bs : List Byte) : Option StreamHdr :=
  if bs.length < 20 then none
  else
    let b := fun i => (bs.getD i 0).toNat
    let w := leVal (slice bs 4 4)
    let r := leVal (slice bs 8 4)
    let z := leVal (slice bs 12 4)
    if z ≠ 0 ∨ w = 0 ∨ 2 ^ 18 ≤ w ∨ r = 0 ∨ 2 ^ 21 ≤ r then none
    else if b 0 = 1 then
      if 8 ≤ b 1 ∧ b 1 ≤ 16 ∧ (b 2 = 1 ∨ b 2 = 3) ∧ 1 ≤ b 3 ∧ b 3 ≤ 8 then
        some { kind := 1, depth := b 1, chans := b 2, nseg := b 3, width := w, rows := r }
      else none
    else if b 0 = 2 then
      if 1 ≤ b 1 ∧ b 1 ≤ 16 ∧ b 2 = 0 ∧ b 3 = 0 then
        some { kind := 2, depth := b 1, chans := 1, nseg := 1, width := w, rows := r }
      else none
    else none

/-- Leading ones of a code, at most `f`, and what follows. -/
def countOnes : Nat → List Bool → Nat × List Bool
  | 0, bs => (0, bs)
  | _ + 1, [] => (0, [])
  | f + 1, b :: bs => if b then let r := countOnes f bs; (r.1 + 1, r.2) else (0, b :: bs)

/-- Read `k` bits, most significant first. -/
def takeBits (k : Nat) (bs : List Bool) : Option (Nat × List Bool) :=
  if bs.length < k then none else some ((bs.take k).foldl (fun a x => 2 * a + b2n x) 0, bs.drop k)

/-- Read one mapped error (R348). -/
def readCode (d k : Nat) (bs : List Bool) : Option (Nat × List Bool) :=
  let r := countOnes 24 bs
  if r.1 = 24 then takeBits d r.2
  else
    match r.2 with
    | [] => none
    | _ :: rest => (takeBits k rest).map (fun x => (r.1 * 2 ^ k + x.1, x.2))

/-- Decode the channels of one pixel: samples so far, states so far, remaining bits. -/
def decPixel (d : Nat) (left up upLeft : Option (List Nat)) (sts : List CodeSt) (bs : List Bool) :
    Option (List Nat × List CodeSt × List Bool) :=
  (List.range sts.length).foldl (fun acc ch =>
    match acc with
    | none => none
    | some (px, st', bs) =>
      let g (o : Option (List Nat)) : Option Nat := o.map (fun l => l.getD ch 0)
      let st := sts.getD ch (CodeSt.start d)
      match readCode d (st.k d) bs with
      | none => none
      | some (m, bs) =>
        let x := wrapTo d ((predict d (g left) (g up) (g upLeft) : Int) + unmapErr m)
        some (px ++ [x], st' ++ [st.next m], bs)) (some ([], [], bs))

/-- Decode one row of `w` pixels. -/
def decRow (d : Nat) : Nat → Option (List (List Nat)) → Option (List Nat) → Option (List Nat) → List CodeSt →
    List Bool → Option (List (List Nat) × List CodeSt × List Bool)
  | 0, _, _, _, sts, bs => some ([], sts, bs)
  | w + 1, ups, left, upLeft, sts, bs =>
    let up := match ups with
      | some (u :: _) => some u
      | _ => none
    match decPixel d left up upLeft sts bs with
    | none => none
    | some (px, sts, bs) =>
      match decRow d w (ups.map List.tail) (some px) up sts bs with
      | none => none
      | some (rest, sts, bs) => some (px :: rest, sts, bs)

/-- Decode `r` rows of `w` pixels; answers the bits left over. -/
def decRows (d w : Nat) : Nat → Option (List (List Nat)) → List CodeSt → List Bool →
    Option (List (List (List Nat)) × List Bool)
  | 0, _, _, bs => some ([], bs)
  | r + 1, ups, sts, bs =>
    match decRow d w ups none none sts bs with
    | none => none
    | some (row, sts, bs) =>
      match decRows d w r (some row) sts bs with
      | none => none
      | some (rest, bs) => some (row :: rest, bs)

/-- What is left of a segment is padding: fewer than 32 bits, all zero (R351). -/
def isPad (bs : List Bool) : Bool := bs.length < 32 && !bs.contains true

/-- Decode the segments of a predictive stream, one after the other; the bytes must end with the last. -/
def decSegs (h : StreamHdr) : Nat → List Nat → List Byte → Option (List (List (List (List Nat))))
  | _, [], bs => if bs.isEmpty then some [] else none
  | i, len :: lens, bs =>
    if bs.length < len ∨ len % 4 ≠ 0 then none
    else
      let sw := segWidth h.width h.nseg
      let w := min ((i + 1) * sw) h.width - i * sw
      match decRows h.depth w h.rows none (List.replicate h.chans (CodeSt.start h.depth)) (unpackBits (bs.take len)) with
      | none => none
      | some (rows, left) =>
        if isPad left then (decSegs h (i + 1) lens (bs.drop len)).map (fun r => rows :: r) else none

/-- Put segments side by side. -/
def joinSegs (rows : Nat) (segs : List (List (List (List Nat)))) : List (List (List Nat)) :=
  (List.range rows).map (fun r => segs.flatMap (fun g => g.getD r []))

/-- One row of run-length tokens: at most `f` tokens fill `w` samples. -/
def decRunRow (vbits : Nat) : Nat → Nat → List Bool → Option (List Nat × List Bool)
  | _, 0, bs => some ([], bs)
  | 0, _ + 1, _ => none
  | f + 1, w + 1, bs =>
    match takeBits vbits bs with
    | none => none
    | some (v, bs) =>
      let z := (bs.takeWhile (fun b => !b)).length
      match takeBits (z + 1) (bs.drop z) with
      | none => none
      | some (n1, bs) =>
        if w + 1 < n1 then none
        else (decRunRow vbits f (w + 1 - n1) bs).map (fun r => (List.replicate n1 v ++ r.1, r.2))

/-- The rows of a run-length stream. -/
def decRunRows (vbits w : Nat) : Nat → List Bool → Option (List (List Nat) × List Bool)
  | 0, bs => some ([], bs)
  | r + 1, bs =>
    match decRunRow vbits w w bs with
    | none => none
    | some (row, bs) => (decRunRows vbits w r bs).map (fun x => (row :: x.1, x.2))

/-- Decode a stream (R346 to R351). -/
def decStream (bs : List Byte) : Decoded :=
  match parseHdr bs with
  | none => .badHdr
  | some h =>
    let body := bs.take (bs.length - 4)
    if crc32c body ≠ leVal (bs.drop (bs.length - 4)) then .bad h
    else if h.kind = 1 then
      if body.length < 16 + 4 * h.nseg then .bad h
      else
        let lens := (List.range h.nseg).map (fun i => leVal (slice body (16 + 4 * i) 4))
        match decSegs h 0 lens (body.drop (16 + 4 * h.nseg)) with
        | some segs => .ok h (joinSegs h.rows segs)
        | none => .bad h
    else
      if body.length % 4 ≠ 0 then .bad h
      else
        match decRunRows h.depth h.width h.rows (unpackBits (body.drop 16)) with
        | some (rows, left) => if isPad left then .ok h (rows.map (fun r => r.map (fun x => [x]))) else .bad h
        | none => .bad h

end Sys2Proof.Machine
end

