-- ==== Sys2Proof/Machine/Ddr.lean ====
section
/-!
DEFINITION. DDR-4 below its requesters: channels, the address mapping (R317 to R319, R327), errors and sparing (R325 to R329), what a block's
own read or write does to the controller (R321, R322), and the spill that drains from it (R239).
-/
namespace Sys2Proof.Machine

/-- A channel that has never run. -/
def DmcS.init : DmcS :=
  { waiting := [], wq := [], rows := [], down := [], post := [], copies := [], remap := [], rank1 := false, ce := [], ue := [], ret := [],
    scrub := 0, failed := [], dly := [], take := [] }

/-- Hidden state of channel `c`. -/
def State.dmcS (s : State) (c : Nat) : DmcS := vget s.dmc c DmcS.init

/-- Change the hidden state of channel `c`. -/
def State.modDmc (s : State) (c : Nat) (f : DmcS → DmcS) : State := { s with dmc := vput s.dmc c (f (s.dmcS c)) }

/-! ### Capacity and mapping (R317 to R319) -/

/-- Channels in use. -/
def State.nch (s : State) : Nat := if s.bit F.DMC_CFG_NCH then 8 else 4

/-- Two ranks that both hold data (R319, R329). -/
def State.twoRanks (s : State) (c : Nat) : Bool := s.bit (F.DMC_CH_CFG_RANKS2 c) && !s.bit (F.DMC_CH_CFG_SPARE_RANK c)

/-- Capacity of a channel in MiB, spare area included (R317). -/
def State.chanMib (s : State) (c : Nat) : Nat :=
  8192 * (1 + b2n (s.bit (F.DMC_CH_CFG_X4 c))) * (1 + b2n (s.bit (F.DMC_CH_CFG_D16 c))) * (1 + b2n (s.twoRanks c))

/-- Spare area of a channel in MiB (R327). -/
def State.spareMib (s : State) (c : Nat) : Nat := 8 * min 128 (s.fld (F.DMC_CH_SPARE_MIB c))

/-- A channel serves traffic: IN_SERVICE or COPY (R329). -/
def State.chanServes (s : State) (c : Nat) : Bool :=
  s.fld (F.DMC_CH_STAT_STATE c) == 2 || s.fld (F.DMC_CH_STAT_STATE c) == 3

/-- Winter holds every rank in self-refresh (R330, R399), until the exit from it starts (R401). -/
def State.selfRefresh (s : State) : Bool := s.fld F.PWR_STAT_STATE == 2 && s.pwr.leaving.isNone

/-- DMC_INSTALLED.VALID (R318, R399). -/
def State.dmcValid (s : State) : State :=
  s.setBit F.DMC_INSTALLED_VALID (s.bit F.DMC_CFG_DONE && !s.selfRefresh && (List.range s.nch).all s.chanServes)

/-- Channel and channel address of a device address (R319). -/
def ddrLoc (nch a : Nat) : Nat × Nat :=
  if nch = 8 then (fieldN a 8 3 ^^^ fieldN a 13 3 ^^^ fieldN a 18 3, a / 2 ^ 11 * 256 + a % 256)
  else (fieldN a 8 2 ^^^ fieldN a 13 2 ^^^ fieldN a 18 2, a / 2 ^ 10 * 256 + a % 256)

/-- Device address of a channel address: the inverse of `ddrLoc`. -/
def ddrAddr (nch ch ca : Nat) : Nat :=
  if nch = 8 then
    let a := ca / 256 * 2 ^ 11 + ca % 256
    a + 256 * (ch ^^^ fieldN a 13 3 ^^^ fieldN a 18 3)
  else
    let a := ca / 256 * 2 ^ 10 + ca % 256
    a + 256 * (ch ^^^ fieldN a 13 2 ^^^ fieldN a 18 2)

/-- Where the remap table sends a channel address: a retired row lies in its spare row (R327). -/
def State.ddrPhys (s : State) (c ca : Nat) : Nat :=
  match (s.dmcS c).remap.find? (fun e => e.1 == ca / 8192) with
  | some e => 8192 * e.2 + ca % 8192
  | none => ca

/-- Rank and row of a channel address (R319, R327); with rank sparing the rank that serves (R329). -/
def State.ddrRow (s : State) (c ca : Nat) : Nat × Nat :=
  let p := s.ddrPhys c ca
  if s.twoRanks c then (p / 2 ^ 17 % 2, p / 2 ^ 18) else (b2n (s.dmcS c).rank1, p / 2 ^ 17)

/-- Bank of a channel address, with its rank: rank × 16 + 4 × ba + bg (R319). -/
def State.ddrBank (s : State) (c ca : Nat) : Nat :=
  let p := s.ddrPhys c ca
  let r := s.ddrRow c ca
  16 * r.1 + 4 * (fieldN p 15 2 ^^^ r.2 / 4 % 4) + (fieldN p 13 2 ^^^ r.2 % 4)

/-! ### Errors and sparing (R325, R327, R328) -/

/-- A count in a sparse list of counts. -/
def cntGet (l : List (Nat × Nat)) (k : Nat) : Nat := ((l.find? (fun e => e.1 == k)).map (·.2)).getD 0

/-- One more in a sparse list of counts. -/
def cntInc (l : List (Nat × Nat)) (k : Nat) : List (Nat × Nat) :=
  (k, cntGet l k + 1) :: l.filter (fun e => e.1 != k)

/-- A DDR-4 FAULT record (R428). -/
def State.ddrFault (s : State) (c cause a : Nat) : State :=
  s.fault 0x05 cause c (w5 := a % 2 ^ 32) (w6 := a / 2 ^ 32)

/-- A rank fails (R328); with a spare rank, the copy of rank 0 starts (R329). -/
def State.rankFail (s : State) (c rank a : Nat) : State :=
  if (s.dmcS c).failed.contains rank then s
  else
    let s := ((s.modDmc c (fun d => { d with failed := rank :: d.failed })).flag (F.DMC_CH_STAT_RANK_FAIL c)).ddrFault c 4 a
    if rank = 0 ∧ s.bit (F.DMC_CH_CFG_SPARE_RANK c) ∧ s.bit (F.DMC_CH_CFG_RANKS2 c) ∧ s.fld (F.DMC_CH_STAT_STATE c) = 2 then
      s.setFld (F.DMC_CH_STAT_STATE c) 3
    else s

/-- The spare row the next retirement takes: the lowest that is free (R327, assumption 203). -/
def State.spareRow (s : State) (c : Nat) : Nat :=
  128 * (s.chanMib c - s.spareMib c) + s.fld (F.DMC_CH_USE_USED c)

/-- A row is retired: its copy to a spare row starts (R327). -/
def State.rowRetire (s : State) (c ca a : Nat) : State :=
  let row := ca / 8192
  let rank := (s.ddrRow c ca).1
  let d := s.dmcS c
  if (d.copies ++ d.remap).any (fun e => e.1 == row) then s
  else if min 512 (s.spareMib c * 128) ≤ s.fld (F.DMC_CH_USE_USED c) then
    ((s.flag (F.DMC_CH_STAT_SPARE_FULL c)).ddrFault c 3 a).rankFail c rank a
  else
    let ret := cntInc d.ret rank
    let s := s.modDmc c (fun d => { d with copies := d.copies ++ [(row, s.spareRow c)], ret := ret })
    let s := ((s.setFld (F.DMC_CH_USE_USED c) (s.fld (F.DMC_CH_USE_USED c) + 1)).flag (F.DMC_CH_STAT_PG_RET c)).ddrFault c 2 a
    if s.fld (F.DMC_CH_SPARE_RANK_THR c) ≤ cntGet ret rank then s.rankFail c rank a else s

/-- An uncorrectable error of a line (R325, R327, R328). -/
def State.ueLine (s : State) (c ca a syn : Nat) : State :=
  let row := ca / 8192
  let rank := (s.ddrRow c ca).1
  let l := a / 64
  let s := { s with poison := s.poison.filter (fun x => x < l) ++ l :: s.poison.filter (fun x => l < x) }
  let s := (s.flag (F.DMC_CH_STAT_UE c)).incCnt (F.DMC_CH_ECC_CNT_UE_CNT c) (F.DMC_CH_ECC_CNT_SAT c)
  let s :=
    if s.bit (F.DMC_CH_ERR_ADDR_HI_VALID c) then s
    else
      let s := (s.putN (R.DMC_CH_ERR_ADDR_LO c) a).setFld (F.DMC_CH_ERR_ADDR_HI_VALUE c) (a / 2 ^ 32)
      (s.flag (F.DMC_CH_ERR_ADDR_HI_VALID c)).setFld (F.DMC_CH_ERR_SYN_VALUE c) syn
  let s := s.ddrFault c 1 a
  let ue := row :: (s.dmcS c).ue.filter (fun r => r != row)
  let s := (s.modDmc c (fun d => { d with ue := ue })).rowRetire c ca a
  let hit := ue.filter (fun r => (s.ddrRow c (r * 8192)).1 == rank)
  if 4 ≤ hit.length then s.rankFail c rank a else s

/-- A corrected error of a line (R325, R327). -/
def State.ceLine (s : State) (c ca a : Nat) : State :=
  let s := s.incCnt (F.DMC_CH_ECC_CNT_CE_CNT c) (F.DMC_CH_ECC_CNT_SAT c)
  let ce := cntInc (s.dmcS c).ce (ca / 8192)
  let s := s.modDmc c (fun d => { d with ce := ce })
  let thr := s.fld (F.DMC_CH_SPARE_PG_THR c)
  if thr ≠ 0 ∧ thr ≤ cntGet ce (ca / 8192) then s.rowRetire c ca a else s

/-- A read of a line from DRAM (R325): 0 no error, 1 corrected, 2 uncorrectable. A line that holds POISON reads as uncorrectable. With
`wb` a corrected line is written back, through the write queue, with the read's page hint. -/
def State.eccRead (s : State) (c ca a err syn : Nat) (wb openRow : Bool) : State :=
  if err = 2 ∨ a / 64 ∈ s.poison then s.ueLine c ca a syn
  else if err = 1 then
    let s := s.ceLine c ca a
    if wb then s.modDmc c (fun d => { d with wq := (ca, openRow) :: d.wq }) else s
  else s

/-! ### Reads by the device's own blocks (R322, R325) -/

/-- A block reads a line: from the write queue, or from DRAM, where POISON counts as an uncorrectable error whose syndrome is free. -/
def State.ddrReadLine (s : State) (l : Nat) : State :=
  let p := ddrLoc s.nch (64 * l)
  if !s.bit F.DMC_INSTALLED_VALID then s
  else if (s.dmcS p.1).wq.any (fun e => e.1 == p.2) then s.incWrap (F.DMC_CH_USE_FWD_CNT p.1)
  else if s.poison.contains l then s.free.2.ueLine p.1 p.2 (64 * l) (s.free.1.toNat % 256)
  else s

/-- A block reads a byte range. -/
def State.ddrRead (s : State) (a n : Nat) : State := (lineRange a n).foldl State.ddrReadLine s

/-- A block writes a byte string: a line written in part is read first (R321). -/
def State.memStore (s : State) (a : Nat) (bs : List Byte) : State :=
  let part := (lineRange a bs.length).filter (fun l => !(a ≤ 64 * l && 64 * l + 64 ≤ a + bs.length))
  (part.foldl State.ddrReadLine s).memWrite a bs

/-! ### The spill drains (R239) -/

/-- Move spilled records out while the queue of the oldest has room and its memory serves (R239, R318). A record whose line is poisoned leaves
with zeros in its place (assumption 90). -/
def drainGo : Nat → State → State
  | 0, s => s
  | k + 1, s =>
    match s.seg.spill with
    | [] => s
    | (r, a) :: rest =>
      let c := s.fld (F.SEG_ROUTE_QID r)
      let e := HostEntry.pkt { opc := 0x8001, param0 := 1, data := s.memReadZ a 64 }
      if s.hasRoom c e.ringBytes && s.inDdr a 64 then
        let s := { s with seg := { s.seg with spill := rest } }
        drainGo k (((s.ddrRead a 64).pushEntry c e false).incWrap F.SEG_REC_CNT_CNT)
      else s

/-- The FAULT records about dropped records, once there is space for the route that dropped them and for the notice (R239). -/
def State.dropNotices (s : State) : State :=
  let space := fun (s : State) (r : Nat) => !s.bit (F.SEG_ROUTE_Q_EN r) || s.recCredit r || s.spillRoom
  s.seg.dropped.foldl (fun s x =>
    if space s x.1 && space s 4 then
      ({ s with seg := { s.seg with dropped := s.seg.dropped.filter (fun y => y.1 != x.1) } }).fault 0x08 0x1 x.1 (w7 := x.2)
    else s) s

/-- Credit has returned: the spill drains in order (R239). -/
def State.drainSpill (s : State) : State :=
  let s := drainGo s.seg.spill.length s
  let s := s.setBit F.SEG_STAT_SPILL_ACT (!s.seg.spill.isEmpty)
  s.dropNotices

end Sys2Proof.Machine
end

