-- ==== Sys2Proof/Machine/StiStore.lean ====
section
/-!
DEFINITION. The stitch block's line stores: reference tags, pairing by tag (R159 to R162) and the stagger delay (R163 to R167).
-/
namespace Sys2Proof.Machine

/-- Sample depth of camera `n`. -/
def State.depth (s : State) (n : Nat) : Nat := s.fld (F.ING_FMT_B n)

/-- Is camera `n`'s format RGB (R148)? -/
def State.isRgb (s : State) (n : Nat) : Bool := s.fld (F.ING_FMT_FMT n) == 3 || s.fld (F.ING_FMT_FMT n) == 4

/-- Channels of camera `n`. -/
def State.chans (s : State) (n : Nat) : Nat := if s.isRgb n then 3 else 1

/-- Active width of camera `n` (R147). -/
def State.actW (s : State) (n : Nat) : Nat :=
  s.fld (F.ING_GEOM_PPL n) - s.fld (F.ING_GEOM_MASK_L n) - s.fld (F.ING_GEOM_MASK_R n)

/-- Camera `n` is in the stitch group and the STRUCT uses it (R159). -/
def State.camUsed (s : State) (n : Nat) : Bool := s.bit (F.ING_CTL_EN n)

/-- The reference camera (R159). -/
def State.refCam (s : State) : Nat := s.fld F.STI_CTL_REF_CAM

/-- Is camera `n` in the leading row? -/
def State.leading (s : State) (n : Nat) : Bool := s.bit (F.STI_CAM_GEOM_ROW n)

/-- T(k) (R161). -/
def State.refTag (s : State) (k : Nat) : Option Tag := (s.sti.refTags.find? (fun x => x.1 == k)).map (·.2)

/-- Expected tag of camera `n` at index `k` (R161). -/
def State.expTag (s : State) (n k : Nat) : Option Tag :=
  if s.leading n then
    let g := s.fld (F.STI_CAM_GEOM_STAG n)
    if k < g then none else s.refTag (k - g)
  else s.refTag k

/-- Put a line, or FILL, at camera `n`'s lowest open index. Lines older than the registration needs are forgotten. -/
def State.storeLine (s : State) (n : Nat) (l : Option CamLine) : State :=
  let k := vget s.sti.nextK n 0
  { s with sti := { s.sti with
      store := vput s.sti.store n (((k, l) :: vget s.sti.store n []).take 288),
      nextK := vput s.sti.nextK n (k + 1) } }

/-- An index takes FILL and the loss is counted (R161, R166). -/
def State.storeLoss (s : State) (n : Nat) : State :=
  (s.storeLine n none).incCnt (F.STI_CAM_CNT_LOSS_CNT n) (F.STI_CAM_CNT_SAT n)

/-- Two tags are equal when ENC_POS and TS_NS are (R161). -/
def tagEq (a b : Tag) : Bool := a.encPos == b.encPos && a.ts == b.ts

/-- Compare an arriving line with the expected tags from the lowest open index on, at most `f` of them (R161). -/
def pairGo (n : Nat) (l : CamLine) : Nat → State → State
  | 0, s => (s.flag F.STI_STAT_TAG_MISS).incCnt (F.STI_CAM_CNT_LOSS_CNT n) (F.STI_CAM_CNT_SAT n)
  | f + 1, s =>
    match s.expTag n (vget s.sti.nextK n 0) with
    | none => (s.flag F.STI_STAT_TAG_MISS).incCnt (F.STI_CAM_CNT_LOSS_CNT n) (F.STI_CAM_CNT_SAT n)
    | some t =>
      if tagEq l.tag t then s.storeLine n (some l)
      else
        let d := (t.ts + 2 ^ 32 - l.tag.ts) % 2 ^ 32
        if 0 < d ∧ d < 2 ^ 31 then
          (s.flag F.STI_STAT_TAG_MISS).incCnt (F.STI_CAM_CNT_LOSS_CNT n) (F.STI_CAM_CNT_SAT n)
        else pairGo n l f (s.storeLoss n)

/-- A line of camera `n` reaches the line store (R161). A line for whose index no reference tag exists is discarded
(assumption 24). -/
def State.pairLine (s : State) (n : Nat) (l : CamLine) : State :=
  pairGo n l (s.sti.refNext + 1 - vget s.sti.nextK n 0) s

/-- A reference tag is pushed: index k gets T(k), and priming leading cameras take FILL for an index (R161, R167). -/
def State.pushRef (s : State) (t : Tag) : State :=
  let k := s.sti.refNext
  let s := { s with sti := { s.sti with refTags := ((k, t) :: s.sti.refTags).take 8256, refNext := k + 1 } }
  let s := (List.range 12).foldl (fun s c =>
    let left := s.fld (F.STI_CAM_STAT_PRIME_LEFT c)
    if s.camUsed c && s.leading c && 0 < left then
      let s := (s.storeLine c none).setFld (F.STI_CAM_STAT_PRIME_LEFT c) (left - 1)
      if left = 1 then s.setFld (F.STI_CAM_STAT_PRIMING c) 0 else s
    else s) s
  s.setBit F.STI_STAT_PRIMING ((List.range 12).any (fun c => s.bit (F.STI_CAM_STAT_PRIMING c)))

/-- STI_STAT.PRIMING while any camera is priming. -/
def State.showPriming (s : State) : State := s.setBit F.STI_STAT_PRIMING ((List.range 12).any (fun c => s.bit (F.STI_CAM_STAT_PRIMING c)))

/-- Begin priming a leading camera: its first STAG indices take FILL and are not counted, those that are open already at once (R167). -/
def State.prime (s : State) (n : Nat) : State :=
  if s.camUsed n && s.leading n then
    let s := { s with sti := { s.sti with stag := vput s.sti.stag n { lines := [] } } }
    let stag := s.fld (F.STI_CAM_GEOM_STAG n)
    let now := min stag (s.sti.refNext - vget s.sti.nextK n 0)
    let s := (List.range now).foldl (fun s _ => s.storeLine n none) s
    ((s.setFld (F.STI_CAM_STAT_PRIME_LEFT n) (stag - now)).setBit (F.STI_CAM_STAT_PRIMING n) (now < stag)).showPriming
  else s

/-! ### Stagger slots (R163 to R166) -/

/-- The DDR-4 real-time port of a stagger ring: its base (R324). -/
def State.stagBase (s : State) (n : Nat) : Nat :=
  match s.cfg.struct with
  | none => 0
  | some d =>
    match d.mems.findSome? (fun m => match m with
      | .rtPort 1 i b _ _ _ => if i = n then some b else none
      | _ => none) with
    | some b => b
    | none => 0

/-- Address of the slot of line `l` (R163). -/
def State.slotAddr (s : State) (n l : Nat) : Nat :=
  let ns := max 1 (s.fld (F.STI_CAM_SLOT_NSLOT n))
  s.stagBase n + (l % ns) * (64 * s.fld (F.STI_CAM_SLOT_SLOT n))

/-- Pixels of a line, one list of channels each. -/
def pixelsOf (w : Nat) (p : Pix) : List (List Nat) := (List.range w).map (fun x => p.map (fun c => c.getD x 0))

/-- Channels of a line of pixels. -/
def channelsOf (chans : Nat) (px : List (List Nat)) : Pix :=
  (List.range chans).map (fun c => px.map (fun p => p.getD c 0))

/-- Raw samples of a line packed at depth B, least significant bit first (R163, assumption 25). -/
def rawPack (b : Nat) (px : List (List Nat)) : List Byte :=
  let v := (px.flatten).reverse.foldl (fun a x => a * 2 ^ b + x % 2 ^ b) 0
  leBytes ((px.flatten.length * b + 7) / 8) v

/-- Samples of raw bytes at depth B. -/
def rawUnpack (b chans w : Nat) (bs : List Byte) : List (List Nat) :=
  let v := leVal bs
  (List.range w).map (fun x => (List.range chans).map (fun c => fieldN v ((x * chans + c) * b) b))

/-- The 64-byte header of a slot (R164). -/
def slotHdr (t : Tag) (fl : LFlags) (mode blen : Nat) : List Byte :=
  let flags := b2n t.bank + 2 * b2n fl.short + 4 * b2n fl.long + 8 * b2n fl.stale + 16 * b2n fl.clamp + 32 * b2n fl.repl
  let h := leBytes 4 t.seq ++ leBytes 4 t.encPos ++ leBytes 2 t.frac ++ leBytes 1 flags ++ leBytes 1 mode
    ++ leBytes 4 t.ts ++ leBytes 4 blen ++ zeros 40
  h ++ leBytes 4 (crc32c h)

/-- Write a leading camera's corrected line to its slot, coded or raw, or lose it to a full staging buffer (R165). -/
def State.stagWrite (s : State) (n : Nat) (l : CamLine) (full : Bool) : State :=
  let g := vget s.sti.stag n { lines := [] }
  let s := { s with sti := { s.sti with stag := vput s.sti.stag n { lines := g.lines ++ [(l.tag.seq, false)] } } }
  if full then s.flag F.STI_STAT_STAG_OVF
  else
    let s := s.wakeBlock 0x10
    let w := s.actW n
    let px := pixelsOf w l.pix
    let r := (w * s.chans n * s.depth n + 7) / 8
    let coded := encPred (s.depth n) (s.chans n) (max 1 (s.fld (F.CMP_CC_CFG0_NSEG n))) w [px]
    let raw := rawPack (s.depth n) px
    let useRaw := r + 4 < coded.length
    let body := if useRaw then raw ++ leBytes 4 (crc32c raw) else coded
    let s := (s.setFld (F.CMP_CC_RAW_UNITS n) (s.fld (F.CMP_CC_RAW_UNITS n) + (r + 63) / 64)).setFld
      (F.CMP_CC_COD_UNITS n) (s.fld (F.CMP_CC_COD_UNITS n) + (coded.length + 63) / 64)
    let s := if useRaw then s.incCnt (F.STI_CAM_CNT_RAW_CNT n) (F.STI_CAM_CNT_SAT n) else s
    s.memWrite (s.slotAddr n l.tag.seq) (slotHdr l.tag l.fl (if useRaw then 2 else 1) body.length ++ padTo 64 body)

/-- A released line of camera `n` goes to its stagger slot or to the line store (R161, R165). -/
def State.releaseLine (s : State) (n : Nat) (l : CamLine) (full : Bool) : State :=
  let s := s.putN (R.ING_SEQ n) l.tag.seq
  if s.leading n then s.stagWrite n l full else s.pairLine n l

/-- A decoded stream failed in channel `n`: CRC_BAD, BAD_CNT and a FAULT record (R351). -/
def State.decodeFault (s : State) (n : Nat) : State :=
  ((s.flag (F.CMP_CC_STAT_CRC_BAD n)).incCnt (F.CMP_CC_STAT_BAD_CNT n) (F.CMP_CC_STAT_SAT n)).fault 0x06 0x3 n (w5 := n)

/-- The one row a staged line's stream decodes to, if its KIND and geometry are those its camera's channel expects (R351). -/
def Decoded.lineOf (d : Decoded) (depth chans width : Nat) : Option (List (List Nat)) :=
  match d with
  | .ok h rows =>
    if h.kind = 1 ∧ h.depth = depth ∧ h.chans = chans ∧ h.width = width ∧ h.rows = 1 then rows.head? else none
  | _ => none

/-- STAGGER_READ_RETURN (R166): the line that arrived STAG lines ago is read from its slot and joins the line store, or takes FILL. -/
def execStaggerReadReturn (n : Fin 12) (s : State) : Host.Outcome State Fault Refusal :=
  let g := vget s.sti.stag n { lines := [] }
  match g.lines with
  | [] => done s s
  | (q, hit) :: rest =>
    if g.lines.length ≤ s.fld (F.STI_CAM_GEOM_STAG n) then done s s
    else
      let s' := { s with sti := { s.sti with stag := vput s.sti.stag n { lines := rest } } }
      let a := s.slotAddr n q
      let h := s.memRead a 64
      let s' := s'.ddrRead a 64
      if hit then done s (s'.storeLine n none)
      else if s.poisoned a 64 then done s ((s'.flag F.STI_STAT_STAG_CRC).storeLoss n)
      else if crc32c (h.take 60) ≠ leVal (h.drop 60) ∨ leVal (h.take 4) ≠ q then
        done s ((s'.flag F.STI_STAT_STAG_HDR).storeLoss n)
      else
        let blen := leVal (slice h 16 4)
        let body := s.memRead (a + 64) blen
        let s' := s'.ddrRead (a + 64) blen
        let f := leVal (slice h 10 1)
        let t : Tag := { seq := q, encPos := leVal (slice h 4 4), frac := leVal (slice h 8 2), ts := leVal (slice h 12 4),
                         bank := bitN f 0, cu := none }
        let fl : LFlags := { short := bitN f 1, long := bitN f 2, stale := bitN f 3, clamp := bitN f 4, repl := bitN f 5 }
        if s.poisoned (a + 64) blen then done s ((s'.flag F.STI_STAT_STAG_CRC).storeLoss n)
        else if leVal (slice h 11 1) = 2 then
          let raw := body.take (blen - 4)
          if crc32c raw ≠ leVal (body.drop (blen - 4)) then done s ((s'.flag F.STI_STAT_STAG_CRC).storeLoss n)
          else
            let px := rawUnpack (s.depth n) (s.chans n) (s.actW n) raw
            done s (s'.pairLine n { tag := t, pix := channelsOf (s.chans n) px, fl := fl })
        else
          match (decStream body).lineOf (s.depth n) (s.chans n) (s.actW n) with
          | some row => done s (s'.pairLine n { tag := t, pix := channelsOf (s.chans n) row, fl := fl })
          | none => done s (((s'.decodeFault n).flag F.STI_STAT_STAG_CRC).storeLoss n)

end Sys2Proof.Machine
end

