-- ==== Sys2Proof/Machine/Ing.lean ====
section
/-!
DEFINITION. Line ingest and pixel correction (R136 to R158).
-/
namespace Sys2Proof.Machine

/-- The ingest state of camera `n`. -/
def State.ingS (s : State) (n : Nat) : IngS := vget s.ing n IngS.init

/-- Change the ingest state of camera `n`. -/
def State.modIng (s : State) (n : Nat) (f : IngS → IngS) : State := { s with ing := vput s.ing n (f (s.ingS n)) }

/-- FILL at the camera's depth (R138). -/
def State.fillOf (s : State) (n : Nat) : Nat := s.fld (F.ING_FMT_FILL n)

/-! ### Table sets (R157) -/

/-- The offsets a table set of camera `n` holds: the window and the shadowed registers. -/
def ingShadow (n off : Nat) : Bool :=
  (R.ING_TBL n 0 ≤ off && off < R.ING_TBL n 28929)
    || (R.ING_LAT n ≤ off && off ≤ R.ING_CMOFS1 n)

/-- A word of the table set in use. -/
def State.ingAct (s : State) (n off : Nat) : Nat :=
  ((regsGet (s.ingS n).act off).getD (resetVal s.board off)).toNat

/-- The sets change places: the window shows the set that was in use (R157). -/
def State.ingSwapSets (s : State) (n : Nat) : State :=
  let shown := s.regs.filter (fun e => ingShadow n e.1)
  let act := (s.ingS n).act
  let s := { s with regs := s.regs.filter (fun e => !ingShadow n e.1) }
  let s := act.foldl (fun s e => s.put e.1 e.2) s
  s.modIng n (fun g => { g with act := shown })

/-- A pending flip takes effect at a line (R157). -/
def State.ingFlipApply (s : State) (n : Nat) : State :=
  if s.bit (F.ING_STAT_FLIP_PEND n) then
    let s := (s.ingSwapSets n).setFld (F.ING_STAT_FLIP_PEND n) 0
    s.setFld (F.ING_CTL_TBL_SET n) (s.fld (F.ING_CTL_TBL_SET n) + 1)
  else s

/-- A 16-bit entry of a part of the window in use: `base` is the part's first word, `e` the entry. -/
def State.ingEntry (s : State) (n base e : Nat) : Nat :=
  fieldN (s.ingAct n (R.ING_TBL n (base + e / 2))) (16 * (e % 2)) 16

/-- Keys (channel, index) of the shadow defect map, in order. -/
def State.shadowMap (s : State) (n : Nat) : List Nat :=
  (List.range (min 4096 (s.rdN (R.ING_DEFCNT n)))).map (fun i =>
    let w := s.rdN (R.ING_TBL n (0x6000 + i))
    fieldN w 14 2 * 16384 + fieldN w 0 14)

/-- Does the shadow defect map pass (R157)? -/
def State.mapOk (s : State) (n : Nat) : Bool :=
  let m := s.shadowMap n
  s.rdN (R.ING_DEFCNT n) ≤ 4096 && (m.zip m.tail).all (fun p => p.1 < p.2)
    && m.all (fun k => k % 16384 < s.actW n)

/-- INGn_CTL.FLIP = 1: check the shadow map and set FLIP_PEND, or refuse (R157). -/
def State.ingFlip (s : State) (n : Nat) : State :=
  if s.bit (F.ING_STAT_FLIP_PEND n) then s.status 0x40
  else if s.mapOk n then (s.flag (F.ING_STAT_FLIP_PEND n)).status 0
  else (s.flag (F.ING_STAT_MAP_BAD n)).status 0x40

/-! ### Correction steps (R147 to R156) -/

/-- Field of a per-channel 16-bit register pair: measure, reference or offset. -/
def chan16 (r0 r1 : Nat) (c : Nat) : Fld := ⟨if c < 2 then r0 else r1, 16 * (c % 2), 16⟩

/-- INGn_DARK_MEAS of a channel. -/
def measF (n c : Nat) : Fld := chan16 (R.ING_DARK_MEAS0 n) (R.ING_DARK_MEAS1 n) c
/-- INGn_DARK_REF of a channel. -/
def refF (n c : Nat) : Fld := chan16 (R.ING_DARK_REF0 n) (R.ING_DARK_REF1 n) c
/-- INGn_DARK_OFS of a channel. -/
def ofsF (n c : Nat) : Fld := chan16 (R.ING_DARK_OFS0 n) (R.ING_DARK_OFS1 n) c

/-- Mean of samples, rounded half up (R149). -/
def meanHalfUp (xs : List Nat) : Nat := (2 * xs.sum + xs.length) / (2 * xs.length)

/-- Step 1: the running dark measure of a line's masked pixels (R149). -/
def State.darkMeas (s : State) (n : Nat) (scaled : Pix) : State :=
  let l := s.fld (F.ING_GEOM_MASK_L n)
  let r := s.fld (F.ING_GEOM_MASK_R n)
  if l + r = 0 then s
  else
    (List.range scaled.length).foldl (fun s c =>
      let ch := scaled.getD c []
      let m := meanHalfUp (ch.take l ++ ch.drop (ch.length - r))
      let old := s.fld (measF n c)
      s.setSfld (measF n c) ((old : Int) + asr ((m : Int) - old) (min 12 (s.fld (F.ING_CTL_DAVG n))))) s

/-- TRACK: OFS := MEAS - REF, clamped (R150). -/
def State.darkTrack (s : State) (n seq : Nat) : State :=
  if s.fld (F.ING_CTL_DARK_MODE n) = 2 ∧ seq % 256 = 0 then
    (List.range (s.chans n)).foldl (fun s c =>
      s.setSfld (ofsF n c) (clampI ((s.fld (measF n c) : Int) - s.fld (refF n c)) (-32767) 32767)) s
  else s

/-- Steps 3 and 4 of one channel (R147). -/
def State.darkGain (s : State) (n c : Nat) (ch : List Nat) : List Nat :=
  let o : Int := if s.fld (F.ING_CTL_DARK_MODE n) = 0 then 0 else s.sfld (ofsF n c)
  let e0 := if s.isRgb n then c * 8192 else 0
  ch.zipIdx.map (fun p =>
    let d := s.ingEntry n 0 (e0 + p.2)
    let g := s.ingEntry n 0x3000 (e0 + p.2)
    min ((clampN ((p.1 : Int) - d - o) 65535 * g + 8192) / 16384) 65535)

/-- Step 5's factor and its flags STALE and CLAMP (R151). -/
def State.fluxFactor (s : State) (n ts : Nat) : Nat × Bool × Bool :=
  let lim := (ts + s.fld (F.ING_FLUX_TIME_EXP_MID n)) % 2 ^ 32
  let mn := s.fld (F.ING_FLUX_LIM_MIN n)
  let mx := s.fld (F.ING_FLUX_LIM_MAX n)
  match (s.sdfSamples (s.fld (F.ING_CTL_FLUX_SRC n))).find? (fun x => cntLe x.1 lim) with
  | none => (16384, true, false)
  | some (st, v) =>
    if ((s.fld (F.ING_FLUX_TIME_AGE n) * 1000 : Nat) : Int) < cntDiff st ts then (16384, true, false)
    else if v ≤ 0 then (mx, false, true)
    else
      let q := v.toNat
      let f := (s.fld (F.ING_FLUX_REF_REF n) * 16384 + q / 2) / q
      if f < mn then (mn, false, true) else if mx < f then (mx, false, true) else (f, false, false)

/-- Nearest good pixel within 4 places on one side (R152): its distance. -/
def nearGood (bad : List Nat) (w x : Nat) (left : Bool) : Option Nat :=
  ([1, 2, 3, 4] : List Nat).find? (fun d =>
    if left then d ≤ x && !bad.contains (x - d) else x + d < w && !bad.contains (x + d))

/-- Step 6 on one channel: the line and how many pixels took FILL for want of neighbours (R152). -/
def State.defects (s : State) (n c : Nat) (fill : Nat) (ch : List Nat) : List Nat × Nat :=
  let ents := (List.range (min 4096 (s.ingAct n (R.ING_DEFCNT n)))).filterMap (fun i =>
    let w := s.ingAct n (R.ING_TBL n (0x6000 + i))
    if fieldN w 14 2 = c then some (fieldN w 0 14, fieldN w 16 2) else none)
  let bad := ents.map (·.1)
  let a := ch.toArray
  ents.foldl (fun acc e =>
    let x := e.1
    let dl := nearGood bad ch.length x true
    let dr := nearGood bad ch.length x false
    let vl := fun d => a.getD (x - d) 0
    let vr := fun d => a.getD (x + d) 0
    let r : Nat × Nat :=
      if e.2 = 3 then (fill, 0)
      else
        match dl, dr with
        | none, none => (fill, 1)
        | some l, none => (vl l, 0)
        | none, some r => (vr r, 0)
        | some l, some r =>
          if e.2 = 1 then (vl l, 0) else if e.2 = 2 then (vr r, 0)
          else ((vl l * r + vr r * l + (l + r) / 2) / (l + r), 0)
    (acc.1.set x r.1, acc.2 + r.2)) (ch, 0)

/-- A tap of the shared resampler (R154). -/
def State.rsmpTap (s : State) (ph t : Nat) : Int :=
  toSigned 16 (fieldN (s.rdN (R.ING_RSMP (4 * ph + t / 2))) (16 * (t % 2)) 16)

/-- Step 7 on one channel (R153). -/
def State.warp (s : State) (n c : Nat) (ch : List Nat) : List Nat :=
  let w := ch.length
  let ks := (w + 255) / 256
  let a := ch.toArray
  let lat := toSigned 10 (fieldN (s.ingAct n (R.ING_LAT n)) (10 * c) 10)
  let knot := fun k => toSigned 16 (fieldN (s.ingAct n (R.ING_TBL n (0x7000 + k))) 0 16)
  (List.range w).map (fun x =>
    let k := x / ks
    let r := x % ks
    let num := knot k * ks + (knot (k + 1) - knot k) * r
    let dx := (2 * num + ks).fdiv (2 * ks)
    let p := 64 * (x : Int) + dx + lat
    let i := p.fdiv 64
    let ph := (p - 64 * i).toNat
    let acc := ((List.range 8).map (fun t =>
      s.rsmpTap ph t * (a.getD (clampN (i - 3 + (t : Int)) (w - 1)) 0 : Nat))).sum
    clampN (asr (acc + 8192) 14) 65535)

/-- Coefficient `k` of the colour matrix in use (R156). -/
def State.cmCoef (s : State) (n k : Nat) : Int :=
  toSigned 16 (fieldN (s.ingAct n (R.ING_CM0 n + 4 * (k / 2))) (16 * (k % 2)) 16)

/-- Step 9 (R156). -/
def State.colour (s : State) (n : Nat) (p : Pix) : Pix :=
  let ofs := fun c => toSigned 16 (fieldN (s.ingAct n (R.ING_CMOFS0 n + 4 * (c / 2))) (16 * (c % 2)) 16)
  let w := (p.getD 0 []).length
  let px := pixelsOf w p
  (List.range 3).map (fun c => px.map (fun v =>
    let acc := ((List.range 3).map (fun d => s.cmCoef n (3 * c + d) * (v.getD d 0 : Nat))).sum
    clampN (asr (acc + 8192) 14 + ofs c) 65535))

/-- Step 10 (R147, R148). -/
def outRound (b v : Nat) : Nat := min ((v + 2 ^ (15 - b)) / 2 ^ (16 - b)) (2 ^ b - 1)

/-- OR of descriptor flags. -/
def orFlags (a b : LFlags) : LFlags :=
  { short := a.short || b.short, long := a.long || b.long, stale := a.stale || b.stale, clamp := a.clamp || b.clamp,
    repl := a.repl || b.repl }

/-- Step 8: channels from delayed lines (R155). -/
def State.rowAlign (s : State) (n seq fill : Nat) (cur : Pix) (fl : LFlags) : Pix × LFlags :=
  let g := s.ingS n
  let w := (cur.getD 0 []).length
  let dly := fun c => if c = 0 then s.fld (F.ING_ROWDLY_DLY_R n)
    else if c = 1 then s.fld (F.ING_ROWDLY_DLY_G n) else s.fld (F.ING_ROWDLY_DLY_B n)
  (List.range 3).foldl (fun acc c =>
    let d := dly c
    if d = 0 then (acc.1 ++ [cur.getD c []], orFlags acc.2 fl)
    else
      match g.rows.find? (fun r => r.1 == (seq + 2 ^ 32 - d) % 2 ^ 32) with
      | some r => if d ≤ g.since then (acc.1 ++ [r.2.1.getD c []], orFlags acc.2 r.2.2)
                  else (acc.1 ++ [List.replicate w fill], { acc.2 with short := true })
      | none => (acc.1 ++ [List.replicate w fill], { acc.2 with short := true })) ([], fl)

/-- The whole correction chain of a line with its tag, and its release (R144, R146, R147). TRACK uses the measure that the line itself has
moved, and its offset applies from that line on (R150, assumption 195). -/
def State.correct (s : State) (n : Nat) (t : Tag) (raw : Pix) (fl : LFlags) (subst full : Bool) : State :=
  let b := s.depth n
  let fill := s.fillOf n * 2 ^ (16 - b)
  let scaled := raw.map (fun c => c.map (· * 2 ^ (16 - b)))
  let s := if subst then s else s.darkMeas n scaled
  let l := s.fld (F.ING_GEOM_MASK_L n)
  let act := scaled.map (fun c => slice c l (s.actW n))
  let s := (s.ingFlipApply n).darkTrack n t.seq
  let v := act.zipIdx.map (fun p => s.darkGain n p.2 p.1)
  let fx := if s.bit (F.ING_CTL_FLUX_EN n) then s.fluxFactor n t.ts else (16384, false, false)
  let v := if s.bit (F.ING_CTL_FLUX_EN n) then v.map (fun c => c.map (fun x => min ((x * fx.1 + 8192) / 16384) 65535)) else v
  let s := if s.bit (F.ING_CTL_FLUX_EN n) then s.setFld (F.ING_FLUX_FACT_F n) fx.1 else s
  let s := if fx.2.1 then s.flag (F.ING_STAT_FLUX_STALE n) else s
  let s := if fx.2.2 then s.flag (F.ING_STAT_FLUX_CLAMP n) else s
  let df := v.zipIdx.map (fun p => s.defects n p.2 fill p.1)
  let repl := (df.map (·.2)).sum
  let s := if 0 < repl then (s.flag (F.ING_STAT_REPL_FILL n)).addCnt (F.ING_CNT3_B n) (F.ING_CNT3_SAT n) repl else s
  let wp := df.zipIdx.map (fun p => s.warp n p.2 p.1.1)
  let fl := { fl with stale := fx.2.1, clamp := fx.2.2, repl := 0 < repl }
  let al := if s.isRgb n then s.rowAlign n t.seq fill wp fl else (wp, fl)
  let s := s.modIng n (fun g => { g with rows := ((t.seq, wp, fl) :: g.rows).take 41, since := min 64 (g.since + 1) })
  let col := if s.isRgb n then s.colour n al.1 else al.1
  let out := col.map (fun c => c.map (outRound b))
  let s := if al.2.short then s.flag (F.ING_STAT_LINE_SHORT n) else s
  s.releaseLine n { tag := t, pix := out, fl := al.2 } full

/-- A substitute line for a tag (R144); `full` says that a leading-row camera's staging buffer has no room for it (R165). SHORT_CNT counts the
lines that LINE_END finds short, and no substitute (assumption 222). -/
def State.substLine (s : State) (n : Nat) (t : Tag) (full : Bool) : State :=
  let s := (s.flag (F.ING_STAT_SUBST n)).incCnt (F.ING_CNT1_A n) (F.ING_CNT1_SAT n)
  let raw := List.replicate (s.chans n) (List.replicate (s.fld (F.ING_GEOM_PPL n)) (s.fillOf n))
  s.correct n t raw { short := true } true full

/-- The oldest tag receives a substitute line. -/
def State.substOldest (s : State) (n : Nat) (full : Bool) : State :=
  match (s.ingS n).tags with
  | [] => s
  | t :: rest => (s.modIng n (fun g => { g with tags := rest })).substLine n t full

/-- The `k` oldest tags receive substitute lines (R142). -/
def substMany (n : Nat) (full : Bool) : Nat → State → State
  | 0, s => s
  | k + 1, s => substMany n full k (s.substOldest n full)

/-! ### Tags (R140 to R143, R145) -/

/-- Camera `n`'s configured maximum line rate in Hz. -/
def State.camHz (s : State) (n : Nat) : Nat :=
  match s.cfg.struct with
  | none => 0
  | some d => ((d.cams[n]?).map (·.maxHz)).getD 0

/-- Push a tag for an activation of TRIGn. `cu` is the lowest-numbered compare unit active in it (R140, R141). Whether the staging buffer has
room for the substitute line of a 65th tag is a free value (R165). -/
def State.pushTag (s : State) (n : Nat) (cu : Option Nat) : State :=
  if !s.camUsed n then s
  else
    let g := s.ingS n
    let t : Tag := match cu with
      | some u => { seq := g.seqNext, encPos := s.rdN (R.CU_HIT_POS u), frac := s.fld (F.CU_HIT_FRAC_FRAC u),
                    ts := s.rdN (R.CU_HIT_TS u), bank := s.runBank, cu := some u }
      | none => { seq := g.seqNext, encPos := s.pos (s.fld (F.ING_CTL_TAG_CHAN n)), frac := 0, ts := s.tsNs,
                  bank := s.runBank, cu := none }
    let s := if 64 ≤ g.tags.length then
        let r := if s.leading n then s.free else (0, s)
        (r.2.flag (F.ING_STAT_TAG_OVF n)).substOldest n (bitN r.1.toNat 0)
      else s
    let fast := match g.lastTag with
      | none => false
      | some c => ((s.evtNow - c) + 2) * s.camHz n < 800000000
    let s := if fast then (s.flag (F.ING_STAT_RATE_HI n)).incCnt (F.ING_CNT3_A n) (F.ING_CNT3_SAT n) else s
    let now := s.evtNow
    let s := s.modIng n (fun g => { g with tags := g.tags ++ [t], seqNext := (g.seqNext + 1) % 2 ^ 32, lastTag := some now })
    if n = s.refCam ∧ s.bit F.STI_CTL_EN then s.pushRef t else s

/-! ### Packets in tag order (R113) -/

/-- The next packet in tag order joins the line under way, or opens one (R113, R137). -/
def IngS.takePkt (g : IngS) (k : HeldPkt) : IngS :=
  { g with rx := g.rx ++ [(k.ofs, k.pix)], rxLine := if k.opens.isSome then k.opens else g.rxLine,
           nextTag := some ((k.tag + 1) % 256) }

/-- A line is under way. -/
def IngS.lineOpen (g : IngS) : Bool := g.rxLine.isSome || !g.rx.isEmpty

/-- Packets ahead join the line while they are next in tag order; one that opens a line waits for the end of the line under way. -/
def takeAhead : Nat → IngS → IngS
  | 0, g => g
  | n + 1, g =>
    match g.ahead with
    | [] => g
    | k :: rest =>
      if some k.tag ≠ g.nextTag ∨ (k.opens.isSome ∧ g.lineOpen) then g else takeAhead n ({ g with ahead := rest }.takePkt k)

/-- How far a tag lies ahead of another, modulo 256; 128 and more is behind. -/
def tagAhead (a b : Nat) : Nat := (a + 256 - b) % 256

/-- A packet in its place in tag order (R113). -/
def IngS.order (g : IngS) (k : HeldPkt) : IngS :=
  let at_ := g.nextTag.getD k.tag
  let ahead := g.ahead.takeWhile (fun e => tagAhead e.tag at_ < tagAhead k.tag at_) ++ [k]
    ++ g.ahead.dropWhile (fun e => tagAhead e.tag at_ < tagAhead k.tag at_)
  takeAhead ahead.length { g with nextTag := some at_, ahead := ahead }

/-- The packet that is next in tag order is taken as passed by: the packets behind it go on without it. -/
def IngS.passTag (g : IngS) (tag : Nat) : IngS :=
  if g.nextTag = some tag then takeAhead g.ahead.length { g with nextTag := some ((tag + 1) % 256) } else g

/-- The line under way ends: the packets ahead that belong to it join it, without those that are missing (R113, R137). -/
def IngS.flush (g : IngS) : IngS :=
  let k := if g.lineOpen then 0 else 1
  let part := g.ahead.take k ++ (g.ahead.drop k).takeWhile (fun e => e.opens.isNone)
  part.foldl IngS.takePkt { g with ahead := g.ahead.drop part.length }

/-- The next line begins with the packets that wait. -/
def IngS.nextLine (g : IngS) : IngS := takeAhead g.ahead.length { g with rx := [], rxLine := none }

/-! ### The end of a line (R137, R142) -/

/-- Pixels of a line by position, none where not received, and whether any lay beyond. -/
def gather (ppl : Nat) (rx : List (Nat × List (List Nat))) : List (Option (List Nat)) × Bool :=
  rx.foldl (fun acc p =>
    ((splice acc.1 p.1 (p.2.map some)).take ppl, acc.2 || ppl < p.1 + p.2.length)) (List.replicate ppl none, false)

/-- A line takes the oldest tag and is corrected. -/
def State.takeTag (s : State) (n : Nat) (raw : Pix) (fl : LFlags) (full : Bool) : State :=
  match (s.ingS n).tags with
  | [] => s
  | t :: rest => (s.modIng n (fun g => { g with tags := rest })).correct n t raw fl false full

/-- A line without a tag is discarded (R142). -/
def State.orphan (s : State) (n : Nat) : State :=
  (s.flag (F.ING_STAT_ORPHAN n)).incCnt (F.ING_CNT1_B n) (F.ING_CNT1_SAT n)

/-- Match a line to a tag by its number and correct it, or discard it (R142). A line with d < 0 that finds no tag is an orphan, and the first
line after IN_SERVICE, once it has set e, goes on as a line with d = 0 (assumption 194). -/
def State.matchLine (s : State) (n nr : Nat) (raw : Pix) (fl : LFlags) (full : Bool) : State :=
  let g := s.ingS n
  let q := g.tags.length
  let setE := fun (s : State) (e : Nat) => s.modIng n (fun g => { g with expect := some (e % 65536) })
  if !s.bit (F.ING_CTL_SEQ_CHK n) then if q = 0 then s.orphan n else s.takeTag n raw fl full
  else
    let e := g.expect.getD nr
    let d := toSigned 16 (nr + 65536 - e)
    if q = 0 then (setE s e).orphan n
    else if d < 0 then ((setE s e).flag (F.ING_STAT_DUP n)).incCnt (F.ING_CNT1_B n) (F.ING_CNT1_SAT n)
    else if d.toNat < q then (setE (substMany n full d.toNat s) (nr + 1)).takeTag n raw fl full
    else ((setE s (nr + 1)).flag (F.ING_STAT_RESYNC n)).takeTag n raw fl full

/-- LINE_END (R137): the line-end marker closes a camera line. `stagFull` says that a leading-row camera's staging buffer has
no room for the line and for the substitutes it makes (R165). A line whose header was lost has a free line number. -/
def execLineEnd (n : Fin 12) (stagFull : Bool) (s : State) : Host.Outcome State Fault Refusal :=
  if !s.camUsed n then done s s
  else
    let s := s.wakeBlock 0x06
    let g := (s.ingS n).flush
    let ppl := s.fld (F.ING_GEOM_PPL n)
    let r := gather ppl g.rx
    let short := r.1.any Option.isNone
    let fillPx := List.replicate (s.chans n) (s.fillOf n)
    let raw := channelsOf (s.chans n) (r.1.map (fun o => o.getD fillPx))
    let s' := s.modIng n (fun _ => g.nextLine)
    let s' := if short then
      (s'.flag (F.ING_STAT_LINE_SHORT n)).incCnt (F.ING_CNT0_A n) (F.ING_CNT0_SAT n) else s'
    let s' := if r.2 then
      (s'.flag (F.ING_STAT_LINE_LONG n)).incCnt (F.ING_CNT0_B n) (F.ING_CNT0_SAT n) else s'
    let nrs := match g.rxLine with
      | some x => (x % 65536, s')
      | none => (s'.free.1.toNat % 65536, s'.free.2)
    done s (nrs.2.matchLine n nrs.1 raw { short := short, long := r.2 } stagFull)

/-- TAG_TIMEOUT (R143): a tag that has waited MISS_TO line periods receives a substitute line; `stagFull` as for
LINE_END. -/
def execTagTimeout (n : Fin 12) (stagFull : Bool) (s : State) : Host.Outcome State Fault Refusal := done s (s.substOldest n stagFull)

/-- DARK_MEAS is copied into DARK_REF for every channel (R150). -/
def State.darkCapt (s : State) (n : Nat) : State :=
  (s.put (R.ING_DARK_REF0 n) (s.rd (R.ING_DARK_MEAS0 n))).put (R.ING_DARK_REF1 n) (s.rd (R.ING_DARK_MEAS1 n))

/-- DARK_CAPT (R150): a packet writes INGn_CTL.DARK_CAPT = 1. -/
def execDarkCapt (n : Fin 12) (s : State) : Host.Outcome State Fault Refusal :=
  if s.has .cam n then done s (((s.wakeBlock 0x06).darkCapt n).status 0) else done s s

/-- ING_FLIP (R157): a packet writes INGn_CTL.FLIP = 1. -/
def execIngFlip (n : Fin 12) (s : State) : Host.Outcome State Fault Refusal :=
  if s.has .cam n then done s ((s.wakeBlock 0x06).ingFlip n) else done s s

/-- ING_FLIP_APPLY (R157): the first line to enter step 3 after the flip uses the new set. -/
def execIngFlipApply (n : Fin 12) (s : State) : Host.Outcome State Fault Refusal := done s (s.ingFlipApply n)

end Sys2Proof.Machine
end

