-- ==== Sys2Proof/Machine/Prt.lean ====
section
/-!
DEFINITION. Print ports (R246 to R266): line identities, prefetch, shift, latch and fire, takeover, HOT, and the meanings of
the print-port commands that raise no event. Events are raised in Evt.lean's meanings.
-/
namespace Sys2Proof.Machine

/-- The hidden state of port `n`. -/
def State.prtS (s : State) (n : Nat) : PrtS := vget s.prt n PrtS.init

/-- Change the hidden state of port `n`. -/
def State.modPrt (s : State) (n : Nat) (f : PrtS → PrtS) : State := { s with prt := vput s.prt n (f (s.prtS n)) }

/-! ### Line identities (R252, R262) -/

/-- Advance the kept label state to a point and name the point's line: line mode (R252). -/
def identify (bank : Bool) (ls lbl rep pt sp : Nat) : LineId × Nat × Nat :=
  let d := (pt / 65536 + 2 ^ 32 - ls % 2 ^ 32) % 2 ^ 32
  if 2 ^ 31 ≤ d then (.before, ls, lbl)
  else
    let k := d / rep
    let ls' := (ls + k * rep) % 2 ^ 32
    (.line bank (lbl + k) (((d - k * rep) * 65536 + pt % 65536) / sp), ls', lbl + k)

/-- Column identity in shuttle mode (R262). -/
def columnId (bank : Bool) (pass : Option Nat) (p0 pt sp : Nat) : LineId :=
  match pass with
  | none => .before
  | some p =>
    let d := (pt + 2 ^ 48 - p0 % 2 ^ 48) % 2 ^ 48
    if 2 ^ 47 ≤ d then .before else .line bank p (d / sp)

/-- Points of spacing `sp` from a point to the first one at or beyond another, at least one. -/
def ptSteps (sp pt goal : Nat) : Nat := max 1 (ceilDiv ((goal + 2 ^ 48 - pt % 2 ^ 48) % 2 ^ 48) sp)

/-- Is a point at or beyond a limit? -/
def ptBeyond (lim : Option Nat) (pt : Nat) : Bool := match lim with
  | none => false
  | some t => (pt + 2 ^ 48 - t % 2 ^ 48) % 2 ^ 48 < 2 ^ 47

/-- The lines to be fetched that a unit's points give, from point `pt` on and short of a limit, in the order the unit reaches them (R252, R254);
points ahead of the first label or beyond LPR are passed over. `f` bounds points and leaps. -/
def comingLines (bank : Bool) (e : PrtE) (sp rep : Nat) (lim : Option Nat) : Nat → Nat → Nat → Nat → List (Nat × LineId × PrtE)
  | 0, _, _, _ => []
  | f + 1, pt, ls, lbl =>
    if ptBeyond lim pt then []
    else
      let r := identify bank ls lbl rep pt sp
      match r.1 with
      | .before => comingLines bank e sp rep lim f ((pt + ptSteps sp pt (ls * 65536) * sp) % 2 ^ 48) ls lbl
      | .line _ _ l =>
        if l < e.lpr then (pt, r.1, e) :: comingLines bank e sp rep lim f ((pt + sp) % 2 ^ 48) r.2.1 r.2.2
        else comingLines bank e sp rep lim f ((pt + ptSteps sp pt ((r.2.1 + rep) * 65536) * sp) % 2 ^ 48) r.2.1 r.2.2

/-- The same in shuttle mode: the columns of the pass under way (R262). -/
def comingColumns (bank : Bool) (e : PrtE) (pass : Option Nat) (p0 sp : Nat) (lim : Option Nat) : Nat → Nat → List (Nat × LineId × PrtE)
  | 0, _ => []
  | f + 1, pt =>
    if ptBeyond lim pt then []
    else match columnId bank pass p0 pt sp with
      | .before => if pass.isNone then [] else comingColumns bank e pass p0 sp lim f ((pt + ptSteps sp pt p0 * sp) % 2 ^ 48)
      | .line b k l =>
        if l < e.lpr then (pt, .line b k l, e) :: comingColumns bank e pass p0 sp lim f ((pt + sp) % 2 ^ 48) else []

/-- The PRINT entry of a port in the RUNNING bank. -/
def State.runEntry (s : State) (n : Nat) : Option PrtE := if s.anyRunning then s.prtEntry s.runBank n else none

/-- REPEAT_LEN of a bank's JOB. -/
def State.repLen (s : State) (b : Bool) : Nat := match s.job b with
  | some j => j.repeatLen
  | none => 1

/-- The target of the swap armed on the channel of unit `u`, in 32.16 (R256). -/
def State.swapTarget (s : State) (u : Nat) : Option Nat :=
  if s.armedBank.isSome && s.fld F.CFG_SWAP_CTL_CHAN == s.fld (F.CU_CTL_CHAN u) then some (s.rdN R.CFG_SWAP_POS * 65536) else none

/-- Lines of port `n` under the running bank. -/
def State.comingNow (s : State) (n : Nat) : List (Nat × LineId × PrtE) :=
  match s.runEntry n with
  | none => []
  | some e =>
    let p := s.prtS n
    let sp := max 1 (s.cuS e.cu)
    if s.bit (F.HP_CTL_MODE n) then comingColumns s.runBank e p.pass p.p0 sp (s.swapTarget e.cu) 24 (s.cuN e.cu)
    else comingLines s.runBank e sp (max 1 (s.repLen s.runBank)) (s.swapTarget e.cu) 24 (s.cuN e.cu) (s.rdN (R.HP_LS n)) p.lbl

/-- Lines of port `n` after the armed swap, predicted from the target with the new bank's entries (R256); a pass in shuttle mode has not started. -/
def State.comingNew (s : State) (n : Nat) : List (Nat × LineId × PrtE) :=
  match s.armedBank with
  | none => []
  | some b =>
    match s.prtEntry b n with
    | none => []
    | some e =>
      let old := match s.runEntry n with
        | some o => o.cu
        | none => e.cu
      match s.swapTarget old, s.cmpEntry b e.cu with
      | some t, some c =>
        if s.bit (F.HP_CTL_MODE n) then []
        else comingLines b e (max 1 c.spacing) (max 1 (s.repLen b)) none 24 ((t + c.phase) % 2 ^ 48) ((s.rdN R.CFG_SWAP_POS + e.orgOfs) % 2 ^ 32) 0
      | _, _ => []

/-- The next ten lines port `n` has to fetch, of which at most seven are on hand, with their points and PRINT entries (R255, R256). -/
def State.upcoming (s : State) (n : Nat) : List (Nat × LineId × PrtE) := (s.comingNow n ++ s.comingNew n).take 10

/-- The VAR rule: the slot of the line has been written (R254). -/
def State.varOk (s : State) (n : Nat) (id : LineId) (e : PrtE) : Bool :=
  match id with
  | .before => true
  | .line _ lbl _ => !bitN e.flags 0 || lbl < s.rdN (R.HP_REP_WR n)

/-- DDR-4 address of a line (R254, R262). -/
def lineAddr (id : LineId) (e : PrtE) : Nat :=
  match id with
  | .before => 0
  | .line _ lbl l => e.base + ((lbl % e.nrep) * e.lpr + l) * e.stride

/-- Nozzle values of a line's bytes (R254). -/
def nozzleVals (bs : List Byte) (noz bpn : Nat) : List Nat :=
  (List.range noz).map (fun i => fieldN (bs.getD (bpn * i / 8) 0).toNat (bpn * i % 8) bpn)

/-- The points and identities of the lines on hand in the buffer, the shift register and the latch. -/
def PrtS.onHand (p : PrtS) : List (Nat × LineId) :=
  let o (x : Option PLine) : List (Nat × LineId) := match x with
    | some l => [(l.pt, l.id)]
    | none => []
  o p.latched ++ o p.shifted ++ o p.shifting ++ p.prefetch.map (fun l => (l.pt, l.id))

/-- The next line to fetch, if the buffer of 4 lines has room (R255). -/
def State.nextFetch (s : State) (n : Nat) : Option (Nat × LineId × PrtE) :=
  let p := s.prtS n
  if 4 ≤ p.prefetch.length then none
  else
    match (s.upcoming n).find? (fun x => !p.onHand.contains (x.1, x.2.1)) with
    | some x => if s.varOk n x.2.1 x.2.2 then some x else none
    | none => none

/-- Discard buffered lines whose point and identity are no longer coming (R255, R256). -/
def State.prune (s : State) (n : Nat) : State :=
  let up := (s.upcoming n).map (fun x => (x.1, x.2.1))
  s.modPrt n (fun p => { p with prefetch := p.prefetch.filter (fun l => up.contains (l.pt, l.id)) })

/-- Prune every port. -/
def State.pruneAll (s : State) : State := (List.range 8).foldl (fun s n => s.prune n) s

/-! ### Takeover (R265, R266) -/

/-- One table nozzle's share moved to its neighbours (R266). -/
def takeoverOne (noz cap : Nat) (inTab masked : Nat → Bool) (g : List Nat) (st : List Nat × List TkS) (t : TkS) :
    List Nat × List TkS :=
  let out := st.1
  let i := t.nozzle
  let v := g.getD i 0 + t.e
  if v = 0 then (out, st.2 ++ [t])
  else
    let l := 0 < i && !inTab (i - 1) && !masked (i - 1)
    let r := i + 1 < noz && !inTab (i + 1) && !masked (i + 1)
    let aL := if l && r then (v + t.p) / 2 else if l then v else 0
    let aR := if l && r then v - (v + t.p) / 2 else if l then 0 else if r then v else 0
    let oL := out.getD (i - 1) 0
    let dL := if l then min (oL + aL) cap - oL else 0
    let out := if l then out.set (i - 1) (oL + dL) else out
    let oR := out.getD (i + 1) 0
    let dR := if r then min (oR + aR) cap - oR else 0
    let out := if r then out.set (i + 1) (oR + dR) else out
    (out, st.2 ++ [{ t with e := min (v - dL - dR) cap, p := if v % 2 = 1 then 1 - t.p else t.p }])

/-- Takeover over a whole line: the line driven and the table with its carries (R266). -/
def takeover (noz bpn : Nat) (masked : Nat → Bool) (g : List Nat) (tab : List TkS) : List Nat × List TkS :=
  let inTab := fun i => tab.any (fun t => t.nozzle == i)
  let out0 := tab.foldl (fun o t => o.set t.nozzle 0) g
  tab.foldl (takeoverOne noz (2 ^ bpn - 1) inTab masked g) (out0, [])

/-- Insert a nozzle in ascending order; an entry already there keeps its place. -/
def tkInsert (t : TkS) : List TkS → List TkS
  | [] => [t]
  | x :: xs => if t.nozzle < x.nozzle then t :: x :: xs else if t.nozzle = x.nozzle then x :: xs else x :: tkInsert t xs

/-- Replace a port's takeover table; USED follows. -/
def State.setTk (s : State) (n : Nat) (l : List TkS) : State :=
  (s.modPrt n (fun p => { p with tk := l })).setFld (F.HP_TK_CNT_USED n) l.length

/-- Add a nozzle to a port's table; a table that is full stays and sets TK_FULL (R265). Answers whether it is in. -/
def State.tkAdd (s : State) (n : Nat) (t : TkS) : Bool × State :=
  let l := (s.prtS n).tk
  if l.any (fun x => x.nozzle == t.nozzle) then (true, s)
  else if 256 ≤ l.length then (false, s.flag (F.HP_STAT_TK_FULL n))
  else (true, s.setTk n (tkInsert t l))

/-! ### Shift, latch and fire -/

/-- The bits a line puts on the eight data lines, first bit first (R247). -/
def serialBits (noz bpn : Nat) (blocked dir : Bool) (vals : List Nat) : List (List Bool) :=
  (List.range 8).map (fun j =>
    let on := (List.range noz).filter (fun i => if blocked then i / ((noz + 7) / 8) == j else i % 8 == j)
    let ord := if dir then on else on.reverse
    ord.flatMap (fun i => (List.range bpn).reverse.map (fun b => bitN (vals.getD i 0) b)))

/-- Bits per nozzle of a port. -/
def State.bpn (s : State) (n : Nat) : Nat := 1 + s.fld (F.HP_CTL_BPN n)

/-- Is nozzle `i` of a line masked by the pass's interlace mask (R262)? -/
def State.maskedAt (s : State) (n : Nat) (id : LineId) (i : Nat) : Bool :=
  if s.bit (F.HP_CTL_MODE n) then
    match id with
    | .line _ p k =>
      let f := p % (s.fld (F.HP_SH_CTL_NPASS n) + 1)
      !bitN (s.fld (F.HP_FEED_M_MASK n f)) (4 * (i % 4) + k % 4)
    | .before => false
  else false

/-- The next buffered line enters the shift register, with mask and takeover applied (R249, R255, R266). -/
def State.startShift (s : State) (n : Nat) : State :=
  let s := s.prune n
  let p := s.prtS n
  match p.latching, p.shifting, p.shifted, p.prefetch with
  | false, none, none, l :: rest =>
    let noz := s.fld (F.HP_CTL_NOZ n)
    let masked := s.maskedAt n l.id
    let g := (List.range noz).map (fun i => if masked i then 0 else l.vals.getD i 0)
    let r := if s.bit (F.HP_CTL_TK_EN n) then takeover noz (s.bpn n) masked g p.tk else (g, p.tk)
    let l' := { l with vals := r.1, hot := s.bit (F.HP_STAT_HOT n) }
    let s := s.modPrt n (fun p => { p with shifting := some l', prefetch := rest, tk := r.2 })
    s.emit (.headShift n (serialBits noz (s.bpn n) (s.bit (F.HP_CTL_ORDER n)) (s.bit (F.HP_CTL_DIR n)) r.1))
  | _, _, _, _ => s

/-- Is this line one of bank `b`? -/
def ofBank (b : Bool) (l : PLine) : Bool :=
  match l.id with
  | .line c _ _ => c == b
  | .before => false

/-- A swap to bank `b` is disarmed: the port discards that bank's lines and goes on with the old points (R256). -/
def State.unpredict (s : State) (b : Bool) (n : Nat) : State :=
  let keep := fun (x : Option PLine) => x.filter (fun l => !ofBank b l)
  (s.modPrt n (fun p => { p with latched := keep p.latched, shifting := keep p.shifting, shifted := keep p.shifted,
                                 prefetch := p.prefetch.filter (fun l => !ofBank b l) })).startShift n

/-- The latched line is stale or absent: its own point is no longer to come (R249, assumption 20). -/
def State.latchFree (s : State) (n : Nat) : Bool :=
  match (s.prtS n).latched with
  | none => true
  | some l => !(s.upcoming n).any (fun x => x.1 == l.pt && x.2.1 == l.id)

/-- TOP_READY_IO.HP: enabled, a PRINT entry in the running bank, not in HOT (R270). -/
def State.updHp (s : State) (n : Nat) : State :=
  s.setReady (32 + 24 + n)
    (s.bit (F.HP_CTL_EN n) && (s.runEntry n).isSome && !s.bit (F.HP_STAT_HOT n))

/-- A line is blanked as late (R259 row 4). -/
def State.lateLine (s : State) (n cause : Nat) : State :=
  ((s.flag (F.HP_STAT_DATA_LATE n)).setFld (F.HP_STAT_LATE_CAUSE n) cause).incCnt
    (F.HP_CNT_LATE_CNT n) (F.HP_CNT_SAT n)

/-- Fire or blank the line of an accepted activation (R259); nothing fires in Winter (R399). `own` is the identity of the unit's own hit. -/
def State.decideLine (s : State) (n : Nat) (own : Option LineId) : State :=
  let p := s.prtS n
  match own with
  | none => s.flag (F.HP_STAT_STRAY n)
  | some .before => s
  | some (.line b lbl l) =>
    match s.workEntry b n with
    | none => s
    | some e =>
      if e.lpr ≤ l then s.flag (F.HP_STAT_PAST_LPR n)
      else
        let id := LineId.line b lbl l
        let mine (x : Option PLine) : Option PLine := x.filter (fun y => y.id == id)
        let started : Option PLine := mine p.latched <|> mine p.shifted <|> mine p.shifting
        let hot := match started with
          | some x => x.hot
          | none => s.bit (F.HP_STAT_HOT n)
        if hot then s.incCnt (F.HP_CNT_HOT_BLANK_CNT n) (F.HP_CNT_SAT n)
        else if p.passBad then s.lateLine n 3
        else if !s.varOk n id e then s.lateLine n 1
        else
          match mine p.latched with
          | none => s.lateLine n 0
          | some x =>
            if p.latching then s.lateLine n 0
            else if x.err then s.lateLine n 2
            else if s.fld F.PWR_STAT_STATE = 2 then s
            else ((s.incWrap (F.HP_FIRED_CNT n)).modPrt n (fun p => { p with fire := true })).emit (.headFire n true)

/-- An accepted activation of FIREn starts the port's line cycle (R248). -/
def State.startLine (s : State) (n : Nat) (own : Option LineId) : State :=
  let s := match own with
    | some (.line _ lbl _) => s.setFld (F.HP_LBL_VALUE n) lbl
    | _ => s
  let s := s.decideLine n own
  let p := s.prtS n
  s.modPrt n (fun _ => { p with busy := true, window := true, cycHot := p.hotLeft.isSome })

/-- The port's unit takes a hit at a point: its identity, the kept state, and a pending origin adjustment (R252, R253). -/
def State.prtPoint (s : State) (n : Nat) (pt : Nat) : State :=
  match s.runEntry n with
  | none => s
  | some e =>
    let p := s.prtS n
    let rep := s.repLen s.runBank
    let shut := s.bit (F.HP_CTL_MODE n)
    let r := if shut then (columnId s.runBank p.pass p.p0 pt (max 1 (s.cuS e.cu)), s.rdN (R.HP_LS n), p.lbl)
      else identify s.runBank (s.rdN (R.HP_LS n)) p.lbl rep pt (max 1 (s.cuS e.cu))
    let s := (s.putN (R.HP_LS n) r.2.1).modPrt n (fun p => { p with lbl := r.2.2, hitId := some r.1 })
    let adj := s.rdN (R.HP_ORG_ADJ n)
    if adj = 0 then s
    else ((s.putN (R.HP_LS n) (s.rdN (R.HP_LS n) + adj)).putN (R.HP_ORG_ADJ n) 0)

/-- The ports whose unit is `u` in the running bank. -/
def State.portsOf (s : State) (u : Nat) : List Nat :=
  (List.range 8).filter (fun n => match s.runEntry n with
    | some e => e.cu == u
    | none => false)

/-- Entries added one by one to a takeover table; one that would exceed 256 is not added (R265). Answers whether all are in. -/
def tkFill : List TkS → List TkS → Bool × List TkS
  | [], l => (true, l)
  | t :: ts, l =>
    if l.any (fun x => x.nozzle == t.nozzle) || l.length < 256 then tkFill ts (tkInsert t l) else (false, (tkFill ts l).2)

/-- A port takes up a bank at a swap edge or a swap by NOW: label origin, slots, takeover table (R252, R262, R265). A hit the port's unit has taken on
this edge lies short of the new bank's first point and belongs to the new bank (R60): its line is BEFORE. -/
def State.prtSwap (s : State) (b : Bool) (pos n : Nat) : State :=
  let seeds : List TkS := match s.job b with
    | some j => (j.takeovers.filter (fun t => t.port == n)).map
        (fun t => { nozzle := t.nozzle, src := 0, e := 0, p := 0, objId := none, last := [] })
    | none => []
  let keep := if s.bit (F.HP_CTL_KEEP_DEAD n)
    then ((s.prtS n).tk.filter (fun t => t.src != 0)).map (fun t => { t with e := 0, p := 0 }) else []
  let all := tkFill keep (seeds.foldl (fun l t => tkInsert t l) [])
  let s := (s.setTk n all.2).modPrt n (fun p => { p with lbl := 0, pass := none, passBad := false, hitId := p.hitId.map (fun _ => .before) })
  let s := if all.1 then s else s.flag (F.HP_STAT_TK_FULL n)
  let s := match s.prtEntry b n with
    | some e => s.putN (R.HP_LS n) (pos + e.orgOfs)
    | none => s
  ((s.putN (R.HP_LBL n) 0).putN (R.HP_REP_WR n) 0)

/-! ### Shuttle passes (R262, R263) -/

/-- Carriage channel reached a count on a forward step: a pass may start (R262). -/
def State.passStart (s : State) (n : Nat) : State :=
  match s.runEntry n with
  | none => s
  | some e =>
    let p := s.prtS n
    let np := s.fld (F.HP_SH_CTL_NPASS n) + 1
    let pass := match p.pass with
      | some k => k + 1
      | none => 0
    let prevFeed := s.fld (F.HP_FEED_M_FEED n ((pass - 1) % np))
    let ch := s.fld (F.HP_SH_CTL_WEB_CHAN n)
    let adv := cntDiff (vget p.webAt ch 0) (s.pos ch)
    let webs := Vector.ofFn (fun (i : Fin 4) => s.pos i)
    let feedBad := 0 < pass && s.fld (F.HP_SH_LIM_FEED_TOL n) < (adv - prevFeed).natAbs
    let ab := s.fld (F.HP_SH_CTL_ABS_SEL n)
    let absBad := 0 < pass && s.bit (F.HP_SH_CTL_ABS_CHK n)
      && (!vget p.absSeen ab false || s.fld (F.HP_SH_CTL_ABS_WIN n) < (cntDiff (s.rdN (R.HP_SH_ABS n)) (s.rdN (R.ABS_POS ab))).natAbs)
    let s := if feedBad then s.flag (F.HP_STAT_FEED_ERR n) else s
    let s := if absBad then s.flag (F.HP_STAT_ABS_ERR n) else s
    let p0 := (s.rdN (R.HP_SH_START n) * 65536 + s.rdN (R.HP_FEED_X n (pass % np))) % 2 ^ 48
    let s := s.modPrt n (fun p => { p with pass := some pass, p0 := p0, webAt := webs, backOk := false,
                                           absSeen := Vector.replicate 2 false,
                                           passBad := feedBad || absBad })
    let c := vget s.cu e.cu { hiHold := none, evArm := false, rev := none, delayed := false, deferred := false }
    let s := { s with cu := vput s.cu e.cu { c with rev := none, delayed := false } }
    (s.setCuN e.cu p0).prune n

/-- A step of channel `ch` as port `n` in shuttle mode sees it; `fwd` is a forward step (R262). -/
def State.shuttleStep (s : State) (ch : Nat) (fwd : Bool) (n : Nat) : State :=
  if s.bit (F.HP_CTL_EN n) && s.bit (F.HP_CTL_MODE n) && s.fld (F.HP_SH_CTL_CHAN n) == ch then
    let start := s.rdN (R.HP_SH_START n)
    let back := (start + 2 ^ 32 - s.fld (F.HP_SH_LIM_SH_BACK n)) % 2 ^ 32
    let s := if cntLe (s.pos ch) back then s.modPrt n (fun p => { p with backOk := true }) else s
    if fwd && s.pos ch = start && (s.prtS n).backOk then s.passStart n else s
  else s

/-! ### HOT (R261) -/

/-- The port leaves HOT. -/
def State.leaveHot (s : State) (n : Nat) : State :=
  ((s.setFld (F.HP_STAT_HOT n) 0).modPrt n (fun p => { p with hotLeft := none })).updHp n

/-- The port enters HOT. -/
def State.enterHot (s : State) (n : Nat) : State :=
  (((s.flag (F.HP_STAT_HOT n)).flag (F.HP_STAT_HOT_SEEN n)).modPrt n (fun p => { p with hotLeft := none, cycHot := false })).updHp n

/-- The busy time of a line cycle ends; with HOT counting it may end HOT (R248, R261). -/
def State.endLine (s : State) (n : Nat) : State :=
  let p := s.prtS n
  let s := s.modPrt n (fun p => { p with busy := false, cycHot := false })
  match p.hotLeft with
  | some k =>
    if p.cycHot then
      if k ≤ 1 then s.leaveHot n else s.modPrt n (fun p => { p with hotLeft := some (k - 1) })
    else s
  | none => s

/-! ### Meanings -/

/-- FIRE_PULSE_END (R248): HPn_FIRE returns inactive after FIRE_W cycles. -/
def execFirePulseEnd (n : Fin 8) (s : State) : Host.Outcome State Fault Refusal :=
  if (s.prtS n).fire then done s ((s.modPrt n (fun p => { p with fire := false })).emit (.headFire n false))
  else done s s

/-- WAVE_WINDOW_END (R248): the waveform window ends after WAVE cycles. -/
def execWaveWindowEnd (n : Fin 8) (s : State) : Host.Outcome State Fault Refusal :=
  done s (s.modPrt n (fun p => { p with window := false }))

/-- LATCH_PULSE (R249): with no window running, the latched line stale or absent and a line wholly shifted, the line moves
into the latch and the waveform select takes its value (R258). -/
def execLatchPulse (n : Fin 8) (s : State) : Host.Outcome State Fault Refusal :=
  let p := s.prtS n
  match p.shifted with
  | some l =>
    if !p.window && !p.latching && s.latchFree n then
      let ws := if s.bit (F.HP_CTL_WS_SRC n) then s.fld (F.HP_WS_SET n) else l.ws
      let s' := s.modPrt n (fun p => { p with latching := true, latched := some l, shifted := none })
      done s ((s'.setFld (F.HP_WS_CUR n) ws).emit (.headLatch n ws))
    else done s s
  | none => done s s

/-- LATCH_PULSE_END (R249): the pulse ends and the shift of the next buffered line starts. -/
def execLatchPulseEnd (n : Fin 8) (s : State) : Host.Outcome State Fault Refusal :=
  done s ((s.modPrt n (fun p => { p with latching := false })).startShift n)

/-- SHIFT_DONE (R247): the line is wholly shifted. -/
def execShiftDone (n : Fin 8) (s : State) : Host.Outcome State Fault Refusal :=
  let p := s.prtS n
  match p.shifting with
  | some l => done s (s.modPrt n (fun p => { p with shifted := some l, shifting := none }))
  | none => done s s

/-- PRINT_FETCH_DONE (R254, R255): the next line in point order enters the prefetch buffer, from DDR-4. -/
def execPrintFetchDone (n : Fin 8) (s : State) : Host.Outcome State Fault Refusal :=
  if s.bit (F.HP_CTL_EN n) then
    let s' := s.prune n
    match s'.nextFetch n with
    | some (pt, id, e) =>
      let noz := s.fld (F.HP_CTL_NOZ n)
      let len := (noz * s.bpn n + 7) / 8
      let a := lineAddr id e
      let l : PLine := { id := id, pt := pt, vals := nozzleVals (s.memReadZ a len) noz (s.bpn n), ws := e.wsel % 16,
                         hot := false, err := s.poisoned a len }
      done s (((s'.ddrRead a len).modPrt n (fun p => { p with prefetch := p.prefetch ++ [l] })).startShift n)
    | none => done s s'
  else done s s

/-- HPn_TK_CMD with OP add (R265). A nozzle of NOZ or more is refused. -/
def State.tkAddCmd (s : State) (n nozzle : Nat) : State :=
  if nozzle < s.fld (F.HP_CTL_NOZ n) then
    (s.tkAdd n { nozzle := nozzle, src := 2, e := 0, p := 0, objId := none, last := [] }).2.status 0
  else s.status 0x40

/-- TAKEOVER_ADD (R265). -/
def execTakeoverAdd (n : Fin 8) (nozzle : BitVec 12) (s : State) : Host.Outcome State Fault Refusal :=
  if s.has .head n then done s (s.tkAddCmd n nozzle.toNat) else done s s

/-- A write of HPn_CTL (R262, R268, R271): MODE only while the pipeline is stopped, no nozzle monitor in shuttle mode. -/
def State.hpCtl (s : State) (n v : Nat) : State :=
  let old := s.rdN (R.HP_CTL n)
  if (bitN v 2 != bitN old 2 && !s.bit F.CFG_STAT_PIPE_STOPPED) || (bitN v 8 && bitN v 2) then s.status 0x40
  else (s.putN (R.HP_CTL n) (old / 512 * 512 + v / 4 % 128 * 4 + old % 4)).status 0

/-- The period of a port's maximum line rate in EVT_CLK cycles, where the applied STRUCT gives one (R250). -/
def State.hpPeriod (s : State) (n : Nat) : Option Nat :=
  match s.cfg.struct with
  | none => none
  | some d => match d.prints[n]? with
    | none => none
    | some e => if e.en && e.maxHz != 0 then some (800000000 / e.maxHz) else none

/-- May HPn_TIM0 and HPn_TIM1 hold these values (R250)? A port without a configured rate has no period to keep (assumption 140). -/
def State.hpTimOk (s : State) (n t0 t1 : Nat) : Bool :=
  let w := fieldN t1 0 16
  let l := fieldN t0 16 8
  let bytes := ceilDiv (s.fld (F.HP_CTL_NOZ n) * s.bpn n) 8
  fieldN t0 8 8 ≤ w && (match s.hpPeriod n with
    | none => true
    | some p => 1 + w + l ≤ p && bytes * fieldN t0 0 8 + l + 8 ≤ p)

/-- A write of HPn_TIM0 or HPn_TIM1 (R250). -/
def State.hpTim (s : State) (n : Nat) (second : Bool) (v : Nat) : State :=
  let t0 := if second then s.rdN (R.HP_TIM0 n) else v % 2 ^ 24
  let t1 := if second then v else s.rdN (R.HP_TIM1 n)
  if s.hpTimOk n t0 t1 then (if second then s.putN (R.HP_TIM1 n) t1 else s.putN (R.HP_TIM0 n) t0).status 0 else s.status 0x40

end Sys2Proof.Machine
end

