-- ==== Sys2Proof/Machine/Evt.lean ====
section
/-!
DEFINITION. The event matrix (R90 to R106): sources, gates, activations, merges and drops, and the actions of the 64 consumers.
-/
namespace Sys2Proof.Machine

/-! ### Compare-unit state the matrix reads -/

/-- Compare-unit state at reset. -/
def CuS.init : CuS := { hiHold := none, evArm := false, rev := none, delayed := false, deferred := false }

/-- Hidden state of compare unit `u`. -/
def State.cuSt (s : State) (u : Nat) : CuS := vget s.cu u CuS.init

/-- Change the hidden state of compare unit `u`. -/
def State.modCu (s : State) (u : Nat) (f : CuS → CuS) : State := { s with cu := vput s.cu u (f (s.cuSt u)) }

/-- Unit `u` waits for or holds an event arm: EN 1 and MODE 1 (R82). -/
def State.cuEvMode (s : State) (u : Nat) : Bool := s.bit (F.CU_CTL_EN u) && s.bit (F.CU_CTL_MODE u)

/-- CUnn_CTL.ARMED (R82). -/
def State.cuArmed (s : State) (u : Nat) : Bool :=
  s.bit (F.CU_CTL_EN u) && (s.cuSt u).rev.isNone && (!s.bit (F.CU_CTL_MODE u) || (s.cuSt u).evArm)

/-! ### Gates (R95, R434) -/

/-- Level of gate `g`. `bankB` is the level of G14, which follows a change one cycle later; G12, G13 and G15 follow later still (R95). -/
def State.gate (s : State) (bankB : Bool) (g : Nat) : Bool :=
  if g < 4 then s.bit (F.ENC_CTL_EN g) && !s.bit (F.ENC_STAT_STILL g) && !s.bit (F.ENC_STAT_DIR g)
  else if g < 12 then bitN (s.fld F.SW_STAT_LEVEL) (g - 4)
  else if g = 14 then bankB
  else bitN s.evt.slow g

/-- Bank B is RUNNING. -/
def State.bankBRuns (s : State) : Bool := s.bankState true == 4

/-- EVT_GATE.LEVEL. -/
def State.gateLevels (s : State) : Nat :=
  ((List.range 16).map (fun g => if s.gate s.bankBRuns g then 2 ^ g else 0)).sum

/-! ### Consumers (R91) -/

/-- Consumer `c` is busy (R91). -/
def State.evtBusy (s : State) (c : Nat) : Bool :=
  if evtKind c = 0 then vget s.evt.busy c false
  else if evtKind c = 1 then (s.prtS (c - 12)).busy
  else if evtKind c = 2 then s.cuEvMode (c - 16) && (s.cuSt (c - 16)).evArm
  else if evtKind c = 3 then (vget s.absIn (c - 48) { busy := false }).busy
  else false

/-- Enabled sources of consumer `c` among those raised (R94). -/
def State.evtHits (s : State) (srcs : List Nat) (c : Nat) : List Nat :=
  srcs.filter (fun k => bitN (s.rdN (R.EVT_SRC0 c + 4 * (k / 32))) (k % 32))

/-- A pulse pin starts (R92). -/
def State.pulse (s : State) (c : Nat) : State :=
  ({ s with evt := { s.evt with busy := vput s.evt.busy c true, pin := vput s.evt.pin c true } }).emit (.pulse c true)

/-- An absolute cycle starts (R86); PROTO 0 starts none. -/
def State.absStart (s : State) (n : Nat) : State :=
  if s.fld (F.ABS_CTL_PROTO n) = 0 then s
  else ({ s with absIn := vput s.absIn n { busy := true } }).putN (R.ABS_TS n) s.tsNs

/-- CAPn (R101). -/
def State.capture (s : State) (n : Nat) : State :=
  let s := s.putN (R.EVT_CAP_TS n) s.tsNs
  let s := (List.range 4).foldl (fun s k => s.putN (R.EVT_CAP_POS0 n + 4 * k) (s.pos k)) s
  s.incWrap (F.EVT_CAP_SEQ_SEQ n)

/-- IRQn (R102, R376): a notice whose pending bit is set sends no further message. -/
def State.irqNotice (s : State) (n : Nat) : State :=
  let f : Fld := ⟨R.HQ_EVT_PEND, n, 1⟩
  if s.bit f then s else (s.flag f).msix (s.fld ⟨R.HQ_EVT_VEC, 8 * n, 6⟩)

/-- LVLn toggles (R91). -/
def State.levelToggle (s : State) (n : Nat) : State :=
  if n = 0 then ({ s with evt := { s.evt with lvl0 := !s.evt.lvl0 } }).emit (.level 0 (!s.evt.lvl0))
  else ({ s with evt := { s.evt with lvl1 := !s.evt.lvl1 } }).emit (.level 1 (!s.evt.lvl1))

/-- Pulses and FIRE rest: frost hold or APPLYING (R104). -/
def State.held (s : State) : Bool := s.bit F.FLT_STAT_FROST || s.bit F.CFG_STAT_APPLYING

/-- A trigger packet on camera n's uplink: the edge, and the delay from it to the packet's start at the next uplink bit boundary, whose
phase and resolution are not the spec's (R115, assumption 187). -/
def State.camTrigger (s : State) (n : Nat) (rising : Bool) : State :=
  let f := s.free
  f.2.emit (.camTrigger n rising f.1)

/-- A TRIGn activation (R91, R115, R140). The activation that triggers a block's last line makes a waiting stop take effect
after it (R51). -/
def State.trigger (s : State) (n : Nat) (hits : List Nat) : State :=
  let k := s.sti.refNext
  let cu := (hits.filter (· < 32)).foldl (fun m x => match m with
    | none => some x
    | some y => some (min x y)) none
  let s := ((s.pulse n).camTrigger n true).pushTag n cu
  if n = s.refCam && s.camUsed n && s.cfg.stopReq && k % 256 = 255 then
    { s with cfg := { s.cfg with trigDis := true, stopReq := false } }
  else s

/-- The action of an accepted activation (R91). `first` is false for an activation through a relay. -/
def State.evtAct (s : State) (c : Nat) (hits : List Nat) (first : Bool) : State :=
  if c < 12 then s.trigger c hits
  else if c < 20 then s.startLine (c - 12) (if first then (s.prtS (c - 12)).hitId else none)
  else if c < 32 then s.pulse c
  else if c < 48 then if s.cuEvMode (c - 16) then s.modCu (c - 16) (fun u => { u with evArm := true }) else s
  else if c < 50 then s.absStart (c - 48)
  else if c < 52 then s.pulse c
  else if c = 52 then s.sdfSync
  else if c < 56 then s.capture (c - 53)
  else if c < 60 then s.irqNotice (c - 56)
  else if c < 62 then if s.held then s else s.levelToggle (c - 60)
  else s

/-- Consumer `c` in a cycle in which `srcs` are active at the matrix output (R94, R97, R98, R104). Answers whether a relay was
activated. -/
def State.evtConsumer (s : State) (srcs : List Nat) (bankB trigDis first : Bool) (c : Nat) : Bool × State :=
  let hits := s.evtHits srcs c
  let open_ := !s.bit (F.EVT_CFG_GATE_EN c) || s.gate bankB (s.fld (F.EVT_CFG_GATE c))
  let supp := (evtKind c ≤ 1 && s.held) || (c < 12 && trigDis)
  if hits.isEmpty || !open_ || supp then (false, s)
  else
    let merged := 2 ≤ hits.length
    let s := s.setBit (F.EVT_CFG_COINC c) merged
    let s := if merged then s.incWrap (F.EVT_LOSS_COINC_CNT c) else s
    if s.evtBusy c then (false, (s.flag (F.EVT_CFG_OVR c)).incWrap (F.EVT_LOSS_OVR_CNT c))
    else
      let s := (s.setFld (F.EVT_CFG_OVR c) 0).incWrap (F.EVT_ACT_CNT c)
      (62 ≤ c, s.evtAct c hits first)

/-- All consumers in order; the relays activated are sources of the next cycle (R100). -/
def State.evtPass (s : State) (srcs : List Nat) (bankB first : Bool) : List Nat × State :=
  let td := s.cfg.trigDis
  (List.range 64).foldl (fun acc c =>
    let r := acc.2.evtConsumer srcs bankB td first c
    (if r.1 then acc.1 ++ [c + 31] else acc.1, r.2)) ([], s)

/-- Passes through the relays; a chain of the two relays has at most two (R49, R100). -/
def evtPasses (bankB first : Bool) : Nat → List Nat → State → State
  | 0, _, s => s
  | f + 1, srcs, s =>
    if srcs.isEmpty then s
    else
      let r := s.evtPass srcs bankB first
      evtPasses r.2.bankBRuns false f r.1 r.2

/-- Sources raised in one cycle reach the matrix (R90, R94); `bankB` is the level of G14 that the activations see. -/
def State.raiseG (s : State) (srcs : List Nat) (bankB : Bool) : State :=
  let s := if srcs.isEmpty then s else evtPasses bankB true 3 srcs s
  (List.range 8).foldl (fun s n => if (s.prtS n).hitId.isSome then s.modPrt n (fun p => { p with hitId := none }) else s) s

/-- Sources raised in one cycle. -/
def State.raise (s : State) (srcs : List Nat) : State := s.raiseG srcs s.bankBRuns

/-! ### Frost hold (R427, R435) -/

/-- Frost hold is entered: source FROST is raised (R435). It reaches EVT_CLK on the same edge as the gates G12, G13 and G15 that changed with
it, so its activations see their new level (R94, R95). -/
def State.frostOn (s : State) : State :=
  if s.bit F.FLT_STAT_FROST then s
  else
    let s := s.flag F.FLT_STAT_FROST
    { s with evt := { s.evt with slow := s.slowNow } }.raise [89]

/-- The claim word of claim number `c`: sync, C and check (R432). -/
def claimBits (c : Nat) : Nat := 0xA000 + 16 * c + Nat.xor (Nat.xor (c / 16) (c % 16)) 5

/-- DCL_D carries the own claim word, or nothing while the device is unpaired or a fatal fault holds it (R427, R428, R432). -/
def State.claimLine (s : State) : State :=
  s.emit (.claim (if s.bit F.FLT_PAIR_CFG_PAIR_EN && !s.bit F.FLT_STAT_FATAL then some (claimBits (s.fld F.FLT_PAIR_STAT_OWN_C)) else none))

/-- A fatal fault (R427): the FATAL record, frost hold, no more heartbeats or claim words. -/
def State.fatal (s : State) (cause : Nat) : State :=
  if s.bit F.FLT_STAT_FATAL then s
  else
    (((s.flag F.FLT_STAT_FATAL).setFld F.FLT_STAT_FATAL_CAUSE cause).claimLine.frostOn).fault 0x0B cause 0 (fatal := true)

/-! ### Meanings -/

/-- PULSE_PIN_END (R92): the pin returns inactive; with TRIG_BOTH a second trigger packet marks the edge (R115). -/
def execPulsePinEnd (c : Fin 64) (s : State) : Host.Outcome State Fault Refusal :=
  if vget s.evt.pin c false then
    let s' := ({ s with evt := { s.evt with pin := vput s.evt.pin c false } }).emit (.pulse c false)
    done s (if c.val < 12 && s.bit (F.CAM_LINK_TRIG_BOTH c) then s'.camTrigger c false else s')
  else done s s

/-- CONSUMER_BUSY_END (R98): 80 cycles after its activation a pulse-pin consumer accepts activations again. -/
def execConsumerBusyEnd (c : Fin 64) (s : State) : Host.Outcome State Fault Refusal :=
  if vget s.evt.busy c false && !vget s.evt.pin c false then
    done s { s with evt := { s.evt with busy := vput s.evt.busy c false } }
  else done s s

/-- LINE_CYCLE_END (R248): the busy time ends and HPn_LINE is raised. -/
def execLineCycleEnd (n : Fin 8) (s : State) : Host.Outcome State Fault Refusal :=
  if (s.prtS n).busy then done s ((s.endLine n).raise [68 + n]) else done s s

/-- HEAT_OK_ACCEPT (R261): a change of HEAT_OK is accepted; a fall raises HPn_HOT and enters HOT. -/
def execHeatOkAccept (n : Fin 8) (level : Bool) (s : State) : Host.Outcome State Fault Refusal :=
  if !s.has .head n || level = (s.prtS n).heatOk then done s s
  else
    let s' := s.modPrt n (fun p => { p with heatOk := level })
    if level then
      if s.bit (F.HP_STAT_HOT n) then
        let h := s.fld (F.HP_TIM1_HOT_HYST n)
        done s (if h = 0 then s'.leaveHot n else s'.modPrt n (fun p => { p with hotLeft := some h }))
      else done s s'
    else done s ((if s.bit (F.HP_CTL_EN n) then s'.enterHot n else s').raise [76 + n])

end Sys2Proof.Machine
end

