-- ==== Sys2Proof/Machine/Frames.lean ====
section
/-!
DEFINITION. Nimeb frames as they leave a port: their bytes (R127) and the blocks that carry them (R125).
-/
namespace Sys2Proof.Machine

/-- Nimeb state of port p. -/
def State.npS (s : State) (p : Nat) : NpS := vget s.np p NpS.init

/-- Change port p's state. -/
def State.modNp (s : State) (p : Nat) (f : NpS → NpS) : State := { s with np := vput s.np p (f (s.npS p)) }

/-- State of port p. -/
def State.npSt (s : State) (p : Nat) : Nat := s.fld (F.NP_STAT_STATE p)

/-- State code UP of NPp_STAT.STATE. -/
def npStUp : Nat := 3

/-- Own device ID. -/
def State.devId (s : State) : Nat := s.fld F.TOP_DEVID_DEV_ID

/-- Zero bytes up to a multiple of 8, as a payload needs (R127). -/
def padTo8 (bs : List Byte) : List Byte := bs ++ zeros (8 * ceilDiv bs.length 8 - bs.length)

/-- Header, payload, FCRC and padding of a frame (R127). -/
def frameBytes (ty flags dst src seq ack : Nat) (payload : List Byte) : List Byte :=
  let body := leBytes 1 ty ++ leBytes 1 flags ++ leBytes 2 payload.length ++ leBytes 4 dst ++ leBytes 4 src ++ leBytes 2 seq
    ++ leBytes 2 ack ++ payload
  body ++ leBytes 4 (crc32c body) ++ zeros 4

/-- A frame's blocks on `lanes`, from place `k` of the round: a start block, its bytes by eights, an end block (R125). -/
def frameBlocks (lanes : List Nat) (k : Nat) (bytes : List Byte) : List (Nat × Nat × List Byte) :=
  let data : List (Nat × List Byte) := (List.range (bytes.length / 8)).map (fun i => (0, slice bytes (8 * i) 8))
  ([(0x78, [])] ++ data ++ [(0x87, [])]).zipIdx.map (fun (e : (Nat × List Byte) × Nat) => (lanes.getD ((k + e.2) % lanes.length) 0, e.1.1, e.1.2))

/-- Has the receiver of lane l within port p been retired for good: it carries a logical lane still, and no swap of it is under way (R133)? -/
def State.laneGone (s : State) (p l : Nat) : Bool :=
  let x := s.npS p
  s.fld (F.LANE_STAT_STATE (96 + 4 * p + l)) == 5 && (x.rxMap.take 3).contains l &&
    !x.swapRx.any (fun w => x.rxMap.getD w.1 w.1 == l)

/-- Lanes within port p that carry its data blocks, in logical order: the lanes the neighbour's swaps have named. The port goes on without a
lane that was retired with no spare left; a swap of the other direction changes nothing (R125, R133, assumption 208). -/
def State.txLanes (s : State) (p : Nat) : List Nat := ((s.npS p).txMap.take 3).filter (fun l => !s.laneGone p l)

/-- A frame leaves port p (R125, R127), behind the idle blocks that have filled the lanes since the frame before (assumption 192). While the port is UP it also tells the last SEQ received in order (R130). -/
def State.nimSend (s : State) (p ty vc : Nat) (nak : Bool) (dst src seq : Nat) (payload : List Byte) : State :=
  let x := s.npS p
  let up := s.npSt p == npStUp
  let bytes := frameBytes ty (vc + 4 * b2n up + 8 * b2n nak) dst src seq (if up then x.rxSeq else 0) payload
  let lanes := s.txLanes p
  let idle := Config.idleBlocks p x.count
  let blocks := frameBlocks lanes (x.next + idle) bytes
  (s.modNp p (fun x => { x with next := (x.next + idle + blocks.length) % max 1 lanes.length, count := x.count + 1 })).emit
    (.nimeb p idle blocks)

/-- A control frame to the neighbour (R128). -/
def State.nimCtrl (s : State) (p ty : Nat) (payload : List Byte) : State := s.nimSend p ty 0 false 0x3FFFF s.devId 0 payload

/-! ### Credited frames (R129, R130) -/

/-- Credits a frame of `len` payload bytes consumes (R129). -/
def frameCredits (len : Nat) : Nat := ceilDiv (len + 24) 64

/-- Transmit-credit field of a virtual channel. -/
def creditF (p v : Nat) : Fld := ⟨R.NP_CREDIT p, 8 * v, 8⟩

/-- A credited frame leaves with its SEQ (R130). -/
def State.nimCredited (s : State) (p seq : Nat) (f : NFrame) : State := s.nimSend p f.ty f.vc false f.dst f.src seq f.data

/-- A NAK with the last good SEQ (R130): a CREDIT frame that returns no credit, with the NAK flag (assumption 188). -/
def State.nimNak (s : State) (p : Nat) : State := s.nimSend p 0x02 0 true 0x3FFFF s.devId 0 (zeros 8)

/-- Send the waiting frames that have credits, oldest first; a virtual channel that waits holds its later frames back
(R129, R130). -/
def npPump (p : Nat) : List NFrame → List Nat → State → State
  | [], _, s => s
  | f :: fs, stuck, s =>
    let need := frameCredits f.data.length
    let have_ := s.fld (creditF p f.vc)
    let x := s.npS p
    if stuck.contains f.vc || have_ < need || 1024 ≤ x.kept.length || s.npSt p != npStUp then
      npPump p fs (f.vc :: stuck) (s.modNp p (fun x => { x with wait := x.wait ++ [f] }))
    else
      let s := s.modNp p (fun x => { x with kept := x.kept ++ [(x.txSeq, f)], txSeq := (x.txSeq + 1) % 4096 })
      npPump p fs stuck ((s.setFld (creditF p f.vc) (have_ - need)).nimCredited p x.txSeq f)

/-- Send what waits on port p. -/
def State.npSend (s : State) (p : Nat) : State :=
  npPump p (s.npS p).wait [] (s.modNp p (fun x => { x with wait := [] }))

/-- Queue a credited frame on port p. -/
def State.sendFrameNp (s : State) (p : Nat) (f : NFrame) : State :=
  (s.modNp p (fun x => { x with wait := x.wait ++ [f] })).npSend p

/-- Frames up to ACK_SEQ are acknowledged (R130). -/
def State.npAck (s : State) (p : Nat) (ack : Option (BitVec 12)) : State :=
  match ack with
  | none => s
  | some a => (s.modNp p (fun x => { x with kept := x.kept.filter (fun e => 2048 ≤ (a.toNat + 4096 - e.1) % 4096) })).npSend p

end Sys2Proof.Machine
end

