-- ==== Sys2Proof/Machine/Pkt.lean ====
section
/-!
DEFINITION. How a host-to-device packet is taken in: room, fence, the checks of R362 in their order, and its completion
(R356 to R363, R367, R371 to R373).
-/
namespace Sys2Proof.Machine

/-- The header fields of a host-to-device packet (R360) and the outcomes of its CRC checks (R361). -/
structure PktHdr where
  /-- OPC. -/
  opc     : Nat := 0
  /-- QID as the header carries it. -/
  qid     : Nat := 0
  /-- FLAGS: bit 0 FENCE, bit 1 NO_COMP, bit 2 IRQ. -/
  flags   : Nat := 0
  /-- TAG. -/
  tag     : Nat := 0
  /-- Bytes 6 and 7, which must be 0. -/
  rsvd    : Nat := 0
  /-- LEN. -/
  len     : Nat := 0
  /-- TARGET, 64 bits. -/
  target  : Nat := 0
  /-- PARAM0. -/
  param0  : Nat := 0
  /-- PARAM1. -/
  param1  : Nat := 0
  /-- HCRC and, with a payload, PCRC match. -/
  hcrcOk  : Bool := true
  pcrcOk  : Bool := true
  deriving DecidableEq, Repr

/-- The header of a packet's bytes, multi-byte fields little-endian (R7, R360), with its CRC checks (R361). -/
def pktHdr (pkt : List Byte) : PktHdr :=
  let b := fun i n => leVal (slice pkt i n)
  let body := (b 8 4 + 3) / 4 * 4
  { opc := b 0 2, qid := b 2 1, flags := b 3 1, tag := b 4 2, rsvd := b 6 2, len := b 8 4, target := b 12 8, param0 := b 20 4,
    param1 := b 24 4, hcrcOk := crc32c (pkt.take 28) == b 28 4, pcrcOk := crc32c (slice pkt 32 body) == leVal (slice pkt (32 + body) 4) }

/-- The data bytes of a packet (R361). -/
def pktData (pkt : List Byte) : List Byte := slice pkt 32 (leVal (slice pkt 8 4))

/-- The data words of a packet, little-endian (R7). -/
def pktWords (pkt : List Byte) : List Word :=
  let d := pktData pkt
  (List.range (d.length / 4)).map (fun i => BitVec.ofNat 32 (leVal (slice d (4 * i) 4)))

/-- Bytes a packet with `len` data bytes takes in a ring (R356, R360, R361). -/
def pktBytes (len : Nat) : Nat := (32 + (if len = 0 then 0 else (len + 3) / 4 * 4 + 4) + 15) / 16 * 16

/-- FENCE of FLAGS (R360). -/
def hFence (h : PktHdr) : Bool := bitN h.flags 0
/-- NO_COMP of FLAGS. -/
def hNoComp (h : PktHdr) : Bool := bitN h.flags 1
/-- IRQ of FLAGS. -/
def hIrq (h : PktHdr) : Bool := bitN h.flags 2

/-- The doorbell number that exposed the packet at HEAD of queue `q`, if a doorbell is open. -/
def State.bellOf (s : State) (q : Nat) : Option Bell := s.hq.bells.find? (fun b => b.q == q)

/-- The queue offers a packet to the device: link up, in use, not halted, HEAD short of TAIL (R356, R362). -/
def State.offers (s : State) (q : Nat) : Bool :=
  s.hq.linkUp && s.bit (F.HQ_CFG_EN q) && !s.bit (F.HQ_STAT_HALT q) && s.fld (F.HQ_HEAD_OFS q) != s.fld (F.HQ_TAIL_OFS q)

/-- A fence packet may start: every packet of an earlier doorbell has completed (R373). -/
def State.fenceOk (s : State) (q : Nat) : Bool :=
  match s.bellOf q with
  | none => true
  | some b => !s.hq.bells.any (fun x => x.no < b.no)
      && (List.range 32).all (fun k => !(vget s.hq.slots k []).any (fun t => t.bell < b.no))

/-- HEAD passes the packet (R357); the doorbells it has served are closed. -/
def State.advance (s : State) (q len : Nat) : State :=
  let old := s.fld (F.HQ_HEAD_OFS q)
  let size := s.ringSize q
  let n := pktBytes len
  let s := s.setFld (F.HQ_HEAD_OFS q) ((old + n) % size)
  let left := s.hq.bells.filter (fun b => b.q != q || n < (b.tail + size - old) % size)
  ({ s with hq := { s.hq with bells := left } }).writeBack q ((old + n) % size)

/-- A packet ends: its status, RESULT and data packets, in ring order (R367, R371, R373). -/
def State.finish (s : State) (q : Nat) (h : PktHdr) (key st result : Nat) (data : List OutPkt := []) (late : Bool := false) :
    State :=
  let c : HostEntry := .comp { src := q, status := st, tag := h.tag, flags := b2n late, result := result }
  let es := if hNoComp h && st = 0 then [] else data.map HostEntry.pkt ++ [c]
  (s.closeSlot q key es).status st

/-- The first failure of R362's checks 2 to 4; 0 where none fails. `opc` is the row's opcode, `lt` and `pa` the failures of its
LEN and TARGET rules and of its PARAM rules. -/
def hdrStatus (q opc : Nat) (h : PktHdr) (mayNoComp : Bool) (lt pa : Nat) : Nat :=
  if h.qid ≠ q then 0x07
  else if h.rsvd ≠ 0 then 0x08
  else if h.len ≠ 0 && !h.pcrcOk then 0x02
  else if h.opc ≠ opc then 0x03
  else if 65532 < h.len then 0x04
  else if lt ≠ 0 then lt
  else if 8 ≤ h.flags || (hNoComp h && !mayNoComp) then 0x08
  else pa

/-- The packet at HEAD cannot be read: the queue halts with HEAD at it, and one completion with status `st` and TAG 0xFFFF is posted. -/
def State.haltQueue (s : State) (q st : Nat) : State :=
  if !s.hasRoom (s.fld (F.HQ_CFG_CQ q)) 16 then s.flag (F.HQ_STAT_CQ_WAIT q)
  else
    let s := (s.setFld (F.HQ_STAT_CQ_WAIT q) 0).flag (F.HQ_STAT_HALT q)
    let s := if st = 1 then s.flag (F.HQ_STAT_HDR_ERR q) else s
    let o := s.openSlot q 16 0 false
    o.2.finish q { tag := 0xFFFF } o.1 st 0

/-- The header of the packet at HEAD is bad (R362). -/
def State.hcrcFail (s : State) (q : Nat) : State := s.haltQueue q 1

/-- The packet leaves the ring: HEAD passes it and its completion's place is reserved (R357, R358, R373). Answers the completion's key. -/
def State.takeIn (s : State) (q : Nat) (h : PktHdr) (room : Nat) : Nat × State :=
  let s := s.setFld (F.HQ_STAT_CQ_WAIT q) 0
  let bell := match s.bellOf q with
    | some b => b.no
    | none => 0
  (s.advance q h.len).openSlot q room bell (hIrq h)

/-- Take in the packet at HEAD of queue `q` (R358, R362, R373). `extra` is the room for the data packet it returns, `lenTarget` and `param` the
opcode's own rules of check 4, `body` its effect, which ends by `State.finish`. Without room the queue waits (CQ_WAIT). -/
def State.packet (s : State) (q opc : Nat) (h : PktHdr) (mayNoComp : Bool) (extra : Nat)
    (lenTarget param : State → Nat) (body : State → Nat → State) : State :=
  if !s.offers q then s
  else if !h.hcrcOk then s.hcrcFail q
  else if hFence h && !s.fenceOk q then s
  else if !s.hasRoom (s.fld (F.HQ_CFG_CQ q)) (16 + extra) then s.flag (F.HQ_STAT_CQ_WAIT q)
  else
    let o := s.takeIn q h (16 + extra)
    let st := hdrStatus q opc h mayNoComp (lenTarget o.2) (param o.2)
    if st = 0 then body o.2 o.1 else o.2.finish q h o.1 st 0

/-- NOP (R363). A packet whose OPC the device does not know, or of the wrong direction, is taken in here and ends with 0x03. -/
def execNop (q : Fin 32) (pkt : List Byte) (s : State) : Host.Outcome State Fault Refusal :=
  let h := pktHdr pkt
  done s (s.packet q 0x0000 h true 0
    (fun _ => if h.len ≠ 0 then 0x04 else if h.target ≠ 0 then 0x08 else 0)
    (fun _ => if h.param0 ≠ 0 ∨ h.param1 ≠ 0 then 0x08 else 0)
    (fun s k => s.finish q h k 0 0))

/-- EVENT (R366): HOST0 and HOST1 in one FAB_CLK cycle. -/
def execEvent (q : Fin 32) (pkt : List Byte) (s : State) : Host.Outcome State Fault Refusal :=
  let h := pktHdr pkt
  done s (s.packet q 0x0030 h true 0
    (fun _ => if h.len ≠ 0 then 0x04 else if h.target ≠ 0 then 0x08 else 0)
    (fun _ => if 4 ≤ h.param0 ∨ h.param1 ≠ 0 then 0x08 else 0)
    (fun s k => (s.raise ((if bitN h.param0 0 then [91] else []) ++ if bitN h.param0 1 then [92] else [])).finish q h k 0 0))

/-- PACKET_HCRC_FAIL (R362): the packet at HEAD has a bad HCRC. -/
def execPacketHcrcFail (q : Fin 32) (s : State) : Host.Outcome State Fault Refusal :=
  if s.offers q then done s (s.hcrcFail q) else done s s

end Sys2Proof.Machine
end

