-- ==== Sys2Proof/Machine/Time.lean ====
section
/-!
DEFINITION. Network time (R284 to R299), timed launch and Ethernet frames (R292 to R296, R368, R369) and the calendar clock
(R300 to R302).
-/
namespace Sys2Proof.Machine

/-! ### The counter -/

/-- What one TS_CLK edge adds without an adjustment, in 2^-32 ns (R284). -/
def State.tsInc (s : State) : Nat := (4 * 2 ^ 32 + s.sfld F.TIME_RATE_VALUE).toNat

/-- What one TS_CLK edge adds with the adjustment (R284). -/
def State.tsIncAdj (s : State) : Nat := (4 * 2 ^ 32 + s.sfld F.TIME_RATE_VALUE + s.sfld F.TIME_ADJ_RATE_VALUE).toNat

/-- `k` TS_CLK edges pass (R284). EVT_CLK makes 3.2 cycles in each. -/
def State.tsEdges (s : State) (k : Nat) : State :=
  let t := s.rdN R.TIME_ADJ_TICKS
  let a := min k t
  let ts := (s.time.ts + a * s.tsIncAdj + (k - a) * s.tsInc) % 2 ^ 96
  let s := { s with time := { s.time with ts := ts, evt5 := s.time.evt5 + 16 * k, rtcAcc := s.time.rtcAcc + k * 131072 } }
  (s.putN R.TIME_ADJ_TICKS (t - a)).setBit F.TIME_STAT_ADJ_BUSY (t - a != 0)

/-- Edges until the counter has advanced by at least `d`, in 2^-32 ns. -/
def State.edgesFor (s : State) (d : Nat) : Nat :=
  let t := s.rdN R.TIME_ADJ_TICKS
  let a := ceilDiv d (max 1 s.tsIncAdj)
  if a ≤ t then a else t + ceilDiv (d - t * s.tsIncAdj) (max 1 s.tsInc)

/-- TS_NS has wrapped: a time EPOCH record (R286). -/
def State.wrapRec (s : State) : State := s.record 2 (s.sysRec 0x10 0 s.tsNs 16 (s.ns / 2 ^ 32 % 65536) 0 0)

/-- The calendar count takes a value in 1/32,768 s; VALID is set (R301). -/
def State.rtcLoad (s : State) (v : Nat) : State :=
  ({ s with time := { s.time with rtc := v % 2 ^ 55, rtcAcc := 0 } }).flag F.RTC_STAT_VALID

/-- The count has passed a whole second: a pending SYNC of the calendar (R286, R301). -/
def State.ppsLoad (s : State) : State :=
  if s.bit F.RTC_CTL_SYNC then
    ((s.rtcLoad (s.ns / 1000000000 * 32768)).setFld F.RTC_CTL_SYNC 0).setFld F.RTC_CTL_SET 0
  else s

/-- What a TS_CLK edge from the count `ns` to the present one does beside counting: TS_WRAP with its record and TS_PPS, raised in one cycle where
both fall on the edge (R97, R286). -/
def State.edgeEffects (s : State) (ns : Nat) : State :=
  let wrap := decide (ns / 2 ^ 32 ≠ s.ns / 2 ^ 32)
  let pps := decide (ns / 1000000000 ≠ s.ns / 1000000000)
  let s := if wrap then s.wrapRec else s
  let s := if pps then s.ppsLoad else s
  if wrap || pps then s.raise ((if wrap then [84] else []) ++ if pps then [85] else []) else s

/-- Edges to the first one at or past the next multiple of `u` ns; 0 follows the last count below 2^64 and is a multiple too. -/
def State.edgesTo (s : State) (u : Nat) : Nat :=
  s.edgesFor (min ((s.ns / u + 1) * u) (2 ^ 64) * 2 ^ 32 - s.time.ts % 2 ^ 96)

/-- `k` TS_CLK edges pass with what each does; `f` bounds the wraps and whole seconds met. -/
def runEdges : Nat → Nat → State → State
  | 0, k, s => (s.tsEdges k).edgeEffects s.ns
  | f + 1, k, s =>
    let d := min (s.edgesTo (2 ^ 32)) (s.edgesTo 1000000000)
    if k < d then s.tsEdges k
    else
      let n := (s.tsEdges d).edgeEffects s.ns
      if k = d then n else runEdges f (k - d) n

/-- The TS_CLK edge that samples the seeding tick: the seed is loaded where VALID was 1 (R290). -/
def State.seedEdge (s : State) : State :=
  match s.time.seedWait with
  | none => s
  | some v =>
    let s := { s with time := { s.time with seedWait := none, ts := (v.map (fun n => n * 2 ^ 32)).getD s.time.ts, txEnd := Vector.replicate 2 0 } }
    (if v.isSome then s.flag F.TIME_STAT_SEEDED else s).flag F.TIME_STAT_SEED_DONE

/-- The first RTC tick after TOP_READY.RTC first rose takes the seed; a TS_CLK edge loads it, once the PLL has locked (R289, R290). -/
def State.seed (s : State) : State :=
  if s.bit F.TIME_STAT_SEED_DONE || s.time.seedWait.isSome then s
  else
    let r := s.time.rtc
    let v := (r / 32768 * 1000000000 + r % 32768 * 1000000000 / 32768) % 2 ^ 64
    let s := { s with time := { s.time with seedWait := some (if s.bit F.RTC_STAT_VALID then some v else none) } }
    if s.bit F.TIME_STAT_PLL_LOCK then s.seedEdge else s

/-- One tick of the calendar clock: a pending SET loads the count, else it counts; the trim every 2^20 ticks; the first one reloads the
shadow register, the next one seeds (R290, R301, R302). -/
def State.rtcTick (s : State) : State :=
  let n := s.time.rtcTrim + 1
  let trim : Int := if n = 2 ^ 20 then s.sfld F.RTC_CTL_TRIM else 0
  let s := { s with time := { s.time with rtcTrim := n % 2 ^ 20 } }
  let s := if s.bit F.RTC_CTL_SET && !s.bit F.RTC_CTL_SYNC then
      let v := (s.rdN R.RTC_SET_LO + 2 ^ 32 * s.fld F.RTC_SET_HI_SEC) * 32768 + s.fld F.RTC_SET_HI_SUB
      (s.rtcLoad v).setFld F.RTC_CTL_SET 0
    else { s with time := { s.time with rtc := wrapTo 55 ((s.time.rtc : Int) + 1 + trim) } }
  let s := s.setReady 3 true
  if s.time.rtcRose then s.seed else { s with time := { s.time with rtcRose := true } }

/-- Calendar ticks that are due (assumption 4): at most one per TS_CLK edge. -/
def State.rtcDue (s : State) : State :=
  if 1000000000 ≤ s.time.rtcAcc then
    ({ s with time := { s.time with rtcAcc := s.time.rtcAcc - 1000000000 } }).rtcTick
  else s

/-- One TS_CLK edge while no command waits (assumption 6): count, wrap, whole second, calendar. -/
def State.tick (s : State) : State :=
  if s.bit F.TIME_STAT_PLL_LOCK then
    let s := s.seedEdge
    ((s.tsEdges 1).edgeEffects s.ns).rtcDue
  else ({ s with time := { s.time with rtcAcc := s.time.rtcAcc + 131072, evt5 := s.time.evt5 + 16 } }).rtcDue

/-- Edges pass up to the first one at or past the next multiple of `u` ns. -/
def State.toMultiple (s : State) (u : Nat) : State :=
  let s := s.seedEdge
  runEdges 64 (s.edgesTo u) s

/-- A step by a signed count of ns, or its refusal (R291). -/
def State.timeStep (s : State) (d : Int) : Nat × State :=
  if !s.bit F.TIME_STAT_SEED_DONE then (0x40, s)
  else if !s.bit F.CFG_STAT_PIPE_STOPPED then (0x40, s)
  else if s.bit F.TIME_STAT_STEP_LOCKED then (0x41, s)
  else
    let v := wrapTo 64 ((s.ns : Int) + d) * 2 ^ 32 + s.time.ts % 2 ^ 32
    (0, ({ s with time := { s.time with ts := v, txEnd := Vector.replicate 2 0 } }).flag F.TIME_STAT_STEP_LOCKED)

/-- Is a rate word within 1,000 ppm (R284)? -/
def rateOk (v : Nat) : Bool := (toSigned 32 v).natAbs ≤ 17179869

/-- A write of TIME_RATE (R284). -/
def State.rateWrite (s : State) (v : Nat) : State :=
  if rateOk v then (s.putN R.TIME_RATE v).status 0 else s.status 0x40

/-- A write of TIME_ADJ_TICKS (R284). -/
def State.adjTicksWrite (s : State) (v : Nat) : State :=
  ((s.putN R.TIME_ADJ_TICKS v).setBit F.TIME_STAT_ADJ_BUSY (v % 2 ^ 32 != 0)).status 0

/-- A write of TIME_STEP_HI applies the step (R291). -/
def State.stepHiWrite (s : State) (hi : Nat) : State :=
  let r := s.timeStep (toSigned 64 (hi * 2 ^ 32 + s.rdN R.TIME_STEP_LO))
  if r.1 = 0 then (r.2.putN R.TIME_STEP_HI hi).status 0 else s.status r.1

/-- TIME_CTL.STEP_FROM_UP (R291). -/
def State.stepFromUp (s : State) : State :=
  let r := s.timeStep (toSigned 64 (s.rdN R.TIME_UP_OFS_HI * 2 ^ 32 + s.rdN R.TIME_UP_OFS_LO))
  r.2.status r.1

/-- A read of TIME_NOW_LO (R288). -/
def State.nowRead (s : State) : State :=
  ((s.putN R.TIME_NOW_LO s.tsNs).putN R.TIME_NOW_HI (s.ns / 2 ^ 32)).setFld F.TIME_NOW_FRAC_VALUE (s.time.ts / 2 ^ 16)

/-- A read of RTC_SEC_LO (R300, R303). -/
def State.rtcRead (s : State) : State :=
  let sec := s.time.rtc / 32768
  ((s.putN R.RTC_SEC_LO sec).setFld F.RTC_SEC_HI_SEC (sec / 2 ^ 32)).setFld F.RTC_SEC_HI_SUB s.time.rtc

/-! ### PTP messages (R292, R294) -/

/-- Where the PTP message of a frame starts, its transport enabled by `l2`, `u4`, `u6`: 0 none. -/
def ptpStart (fr : List Byte) (l2 u4 u6 : Bool) : Nat :=
  let et := beVal (slice fr 12 2)
  let g := fun i => (fr.getD i 0).toNat
  let port := fun i => beVal (slice fr i 2)
  if et = 0x88F7 && l2 then 14
  else if et = 0x0800 && u4 then
    let u := 14 + 4 * (g 14 % 16)
    if g 23 = 17 ∧ (port (u + 2) = 319 ∨ port (u + 2) = 320) then u + 8 else 0
  else if et = 0x86DD && u6 then
    if g 20 = 17 ∧ (port 56 = 319 ∨ port 56 = 320) then 62 else 0
  else 0

/-- The message type of a PTP version 2 message at `o`, if it is one (R292). -/
def ptpType (fr : List Byte) (o : Nat) : Option Nat :=
  let v := (fr.getD (o + 1) 0).toNat
  if o ≠ 0 ∧ o + 34 ≤ fr.length ∧ v % 16 = 2 ∧ v / 16 ≤ 1 then some ((fr.getD o 0).toNat % 16) else none

/-- Is a received frame stamped: Sync, Delay_Req, Pdelay_Req or Pdelay_Resp of an enabled transport (R292)? -/
def State.isEvent (s : State) (p : Nat) (fr : List Byte) : Bool :=
  match ptpType fr (ptpStart fr (s.bit (F.TIME_EP_PTP_L2 p)) (s.bit (F.TIME_EP_PTP_UDP4 p)) (s.bit (F.TIME_EP_PTP_UDP6 p))) with
  | some t => t ≤ 3
  | none => false

/-- correctionField of a message at `o` with a signed amount in 2^-16 ns added. -/
def addCorrection (fr : List Byte) (o : Nat) (d : Int) : List Byte :=
  splice fr (o + 8) (beBytes 8 (wrapTo 64 (toSigned 64 (beVal (slice fr (o + 8) 8)) + d)))

/-- One-step insertion with egress stamp `t` in 2^-16 ns (R294). -/
def oneStepInsert (fr : List Byte) (t t2 : Nat) : List Byte :=
  let o := ptpStart fr true true false
  let ns := t / 65536
  let fr' := match ptpType fr o with
    | some 0 =>
      let f := splice fr (o + 34) (beBytes 6 (ns / 1000000000) ++ beBytes 4 (ns % 1000000000))
      addCorrection f o ((t % 65536 : Nat) : Int)
    | some 3 => addCorrection fr o (((ns : Int) - t2) * 65536)
    | _ => fr
  if o ≠ 0 ∧ beVal (slice fr 12 2) = 0x0800 then splice fr' (o - 2) [0, 0] else fr'

/-! ### Transmission (R295, R296, R368) -/

/-- The port runs 25GBASE-R (R118). -/
def State.ep25 (s : State) (p : Nat) : Bool :=
  match s.cfg.struct with
  | none => false
  | some d => ((d.eths[p]?).map (·.g25)).getD false

/-- ns a frame takes on the wire, rounded up. -/
def State.frameNs (s : State) (p n : Nat) : Nat := ceilDiv (8 * (max 60 n + 12)) (if s.ep25 p then 25 else 10)

/-- A frame leaves, its source the port's own address (R377), with egress stamp `t` in 2^-16 ns (R293, R294, R368); the port sends until its end, and its transmit completion follows. -/
def State.sendFrame (s : State) (p : Nat) (e : LaunchE) (t : Nat) (late : Bool) : State :=
  let s := { s with time := { s.time with txEnd := vput s.time.txEnd p (t / 65536 + s.frameNs p e.frame.length) } }
  let f := if e.oneStep then oneStepInsert e.frame t e.t2 else e.frame
  let f := f.take 6 ++ s.macBytes p ++ f.drop 12
  let f := f ++ zeros (60 - f.length)
  let s := s.emit (.eth p (f ++ leBytes 4 (crc32e f)) (t / 65536))
  match e.owner with
  | none => s
  | some (q, key) =>
    let st : List OutPkt := if e.stamp then
      [{ opc := 0x8041, tag := e.tag, target := t / 65536 % 2 ^ 64, param0 := t % 65536 }] else []
    s.finish q { tag := e.tag } key 0 0 st late

/-- Present time in 2^-16 ns. -/
def State.now16 (s : State) : Nat := s.time.ts / 2 ^ 16

/-- A frame starts as soon as the port can send, stamped as it crosses the pins: `late` or not (R293, R296). -/
def State.sendNow (s : State) (p : Nat) (e : LaunchE) (late : Bool) : State :=
  s.sendFrame p e (max s.now16 (vget s.time.txEnd p 0 * 65536) + s.fld (F.TIME_EP_LAT_TX_LAT p) * 65536) late

/-- May an ordinary frame start now: no frame is still being sent, and it would end by the earliest queued launch time (R296)? -/
def State.ordinaryOk (s : State) (p n : Nat) : Bool :=
  vget s.time.txEnd p 0 ≤ s.ns &&
  match vget s.time.launch p [] with
  | [] => true
  | e :: _ => s.ns + s.fld (F.TIME_EP_LAT_TX_LAT p) + s.frameNs p n ≤ e.launch

/-- Send the held ordinary frames that may start, one after the other: none has started while it waits, so a launch time queued meanwhile
still holds it back (R296). -/
def releaseHeld (p : Nat) : Nat → State → State
  | 0, s => s
  | k + 1, s =>
    match vget s.time.heldTx p [] with
    | [] => s
    | e :: rest =>
      if s.epUp p && s.ordinaryOk p e.frame.length then
        let s := { s with time := { s.time with heldTx := vput s.time.heldTx p rest } }
        releaseHeld p k (s.sendNow p e false)
      else s

/-- The effect of an ETH_TX packet (R295, R296, R368). -/
def State.ethTx (s : State) (q : Nat) (h : PktHdr) (key : Nat) (bytes : List Byte) : State :=
  let p := h.param0 % 2
  let one := bitN h.param0 2
  let e : LaunchE :=
    { launch := h.target, frame := if one then bytes.drop 8 else bytes, owner := some (q, key), tag := h.tag,
      stamp := bitN h.param0 1, oneStep := one, t2 := if one then leVal (bytes.take 8) else 0 }
  let l := vget s.time.launch p []
  if h.target = 2 ^ 64 - 1 then
    if !s.epUp p then s.finish q h key 0x42 0
    else if s.ordinaryOk p e.frame.length && (vget s.time.heldTx p []).isEmpty then s.sendNow p e false
    else { s with time := { s.time with heldTx := vput s.time.heldTx p (vget s.time.heldTx p [] ++ [e]) } }
  else if 64 ≤ l.length then (s.launchDrop p).finish q h key 0x43 0
  else if s.ns + 2 ^ 32 < h.target then (s.launchDrop p).finish q h key 0x44 0
  else s.setLaunch p (launchInsert e l)

/-- A late frame (R296). -/
def State.lateFrame (s : State) (p : Nat) (e : LaunchE) : State :=
  if s.bit (F.TIME_EP_LCTL_DROP_LATE p) then
    let s := (s.flag (F.TIME_EP_LSTAT_LATE_DROP p)).incCnt (F.TIME_EP_LCNT_DROP_CNT p) (F.TIME_EP_LCNT_SAT p)
    match e.owner with
    | some (q, key) => s.finish q { tag := e.tag } key 0x45 0
    | none => s
  else
    let s := (s.flag (F.TIME_EP_LSTAT_LATE_LAUNCH p)).incCnt (F.TIME_EP_LCNT_LATE_CNT p) (F.TIME_EP_LCNT_SAT p)
    s.sendNow p e true

/-- The head of a launch queue (R296): nothing before its launch time, and nothing while the frame before it is still being sent, which may
make it late. -/
def State.launch (s : State) (p : Nat) : State :=
  match vget s.time.launch p [] with
  | [] => s
  | e :: rest =>
    let free := vget s.time.txEnd p 0
    let late := e.launch + s.fld (F.TIME_EP_LCTL_LATE_TOL p) < max s.ns free
    let drop := s.bit (F.TIME_EP_LCTL_DROP_LATE p)
    let s' := s.setLaunch p rest
    if s.ns < e.launch then s
    else if !s.epUp p then
      if late && drop then s'.lateFrame p e else s
    else if late && drop then s'.lateFrame p e
    else if s.ns < free then s
    else if late then s'.lateFrame p e
    else if e.launch < free then s'.sendNow p e false
    else
      let r := s'.free
      r.2.sendFrame p e (e.launch * 65536 + r.1.toNat % (if s.ep25 p then 167773 else 419431)) false

/-! ### Meanings -/

/-- TS_WRAP (R286): edges pass up to the one on which TS_NS wraps. -/
def execTsWrap (s : State) : Host.Outcome State Fault Refusal :=
  if s.bit F.TIME_STAT_PLL_LOCK then done s (s.toMultiple (2 ^ 32)) else done s s

/-- TS_PPS (R286): edges pass up to the one on which the count reaches a whole second. -/
def execTsPps (s : State) : Host.Outcome State Fault Refusal :=
  if s.bit F.TIME_STAT_PLL_LOCK then done s (s.toMultiple 1000000000) else done s s

/-- TIME_ADJ_END (R284): the edges of the adjustment pass, TIME_ADJ_TICKS reaches 0. -/
def execTimeAdjEnd (s : State) : Host.Outcome State Fault Refusal :=
  if s.bit F.TIME_STAT_PLL_LOCK then done s (runEdges 64 (s.rdN R.TIME_ADJ_TICKS) s.seedEdge) else done s s

/-- TIME_RATE_WRITE (R284). -/
def execTimeRateWrite (val : Word) (s : State) : Host.Outcome State Fault Refusal := done s (s.rateWrite val.toNat)

/-- TIME_ADJ_TICKS_WRITE (R284): the adjustment restarts. -/
def execTimeAdjTicksWrite (val : Word) (s : State) : Host.Outcome State Fault Refusal := done s (s.adjTicksWrite val.toNat)

/-- TIME_NOW_READ (R288): a read of TIME_NOW_LO latches the other two. -/
def execTimeNowRead (s : State) : Host.Outcome State Fault Refusal := done s s.nowRead

/-- TS_SEED (R290): the first RTC tick after the calendar is ready. -/
def execTsSeed (s : State) : Host.Outcome State Fault Refusal :=
  if s.time.rtcRose && s.time.seedWait.isNone && !s.bit F.TIME_STAT_SEED_DONE then done s s.rtcTick else done s s

/-- TIME_STEP (R291): the write of TIME_STEP_HI. -/
def execTimeStep (hi : Word) (s : State) : Host.Outcome State Fault Refusal := done s (s.stepHiWrite hi.toNat)

/-- TIME_STEP_FROM_UP (R291). -/
def execTimeStepFromUp (s : State) : Host.Outcome State Fault Refusal := done s s.stepFromUp

/-- A free stamp of 64 bits and 16 fraction bits, for a frame that is not stamped. -/
def State.freeStamp (s : State) : Nat × State :=
  let a := s.free
  let b := a.2.free
  let c := b.2.free
  ((a.1.toNat + 2 ^ 32 * b.1.toNat) * 65536 + c.1.toNat % 65536, c.2)

/-- ETH_RX (R293, R369): a received frame, without its FCS; `fcsOk` says whether the FCS matched. -/
def execEthRx (port : Fin 2) (frame : List Byte) (fcsOk : Bool) (s : State) : Host.Outcome State Fault Refusal :=
  let p := port.val
  if !s.epUp p then done s s
  else if !fcsOk then done s (s.incCnt (F.ETH_EP_RXCNT_FCS_CNT p) (F.ETH_EP_RXCNT_SAT p))
  else
    let d := frame.take 6
    let multi := bitN (d.getD 0 0).toNat 0
    let ok := d = s.macBytes p || d = List.replicate 6 0xFF || (multi && s.bit (F.ETH_EP_RX_MC_ALL p)) || s.bit (F.ETH_EP_RX_PROMISC p)
    if !ok then done s (s.incCnt (F.ETH_EP_RXCNT_FILT_CNT p) (F.ETH_EP_RXCNT_SAT p))
    else if !s.bit (F.ETH_EP_RX_EN p) then done s s
    else
      let ev := s.isEvent p frame
      let st := if ev then ((s.now16 + 2 ^ 80 - s.fld (F.TIME_EP_LAT_RX_LAT p) * 65536) % 2 ^ 80, s) else s.freeStamp
      done s (st.2.postOrDrop (s.fld (F.ETH_EP_RX_QID p))
        (.pkt { opc := 0x8040, target := st.1 / 65536 % 2 ^ 64, param0 := st.1 % 65536 + 65536 * p + 131072 * b2n ev,
                data := frame }))

/-- ETH_TX (R295, R368). -/
def execEthTx (q : Fin 32) (pkt : List Byte) (s : State) : Host.Outcome State Fault Refusal :=
  let h := pktHdr pkt
  let bytes := pktData pkt
  let x := if bitN h.param0 2 then 8 else 0
  done s (s.packet q 0x0040 h false (if bitN h.param0 1 then 32 else 0)
    (fun _ => if h.len < 14 + x ∨ 1514 + x < h.len then 0x04 else 0)
    (fun _ => if 8 ≤ h.param0 ∨ h.param1 ≠ 0 then 0x08 else 0)
    (fun s k => s.ethTx q h k bytes))

/-- LAUNCH (R296): the head of a port's launch queue. -/
def execLaunch (port : Fin 2) (s : State) : Host.Outcome State Fault Refusal :=
  done s (releaseHeld port (vget s.time.heldTx port []).length (s.launch port))

/-- An exchange is lost (R298). -/
def State.upLost (s : State) : State :=
  (s.flag F.TIME_STAT_UP_LOST).incCnt F.TIME_UP_CNT_LOST_CNT F.TIME_UP_CNT_SAT

/-- The Nimeb port is UP (R126). -/
def State.npUp (s : State) (p : Nat) : Bool := bitN (s.fld F.TOP_READY_NP) p

/-- TIME_REQ_SEND (R298): a period has passed; UP_VALID ages, and with UP_EN = 1 a REQ is sent. -/
def execTimeReqSend (s : State) : Host.Outcome State Fault Refusal :=
  let age := min 5 (s.time.upAge + 1)
  let s' := { s with time := { s.time with upAge := age } }
  let s' := if 4 < age then s'.setFld F.TIME_STAT_UP_VALID 0 else s'
  let p := s.fld F.TIME_CTL_UP_PORT
  if !s.npUp p || !s.bit F.TIME_CTL_UP_EN then done s s'
  else
    let q := (s.time.reqSeq + 1) % 256
    let s' := { s' with time :=
      { s'.time with reqSeq := q, reqWait := true, reqSpoil := false, reqOut := s.time.reqOut + 1 } }
    done s (s'.nimCtrl p 0x05 (leBytes 1 1 ++ leBytes 1 q ++ zeros 6 ++ leBytes 8 s.ns ++ zeros 16))

/-- A RESP on the upstream port with the last SEQ (R298). -/
def State.upResp (s : State) (pl : List Byte) : State :=
  let t1 := toSigned 64 (leVal (slice pl 8 8))
  let t2 := toSigned 64 (leVal (slice pl 16 8))
  let t3 := toSigned 64 (leVal (slice pl 24 8))
  let t4 := toSigned 64 s.ns
  let spoil := s.time.reqSpoil
  let s := { s with time := { s.time with reqWait := false, reqOut := s.time.reqOut - 1, upAge := if spoil then s.time.upAge else 0 } }
  if spoil then s.upLost
  else
    let ofs := wrapTo 64 (asr ((t2 - t1) - (t4 - t3)) 1)
    let dly := wrapTo 32 (asr ((t4 - t1) - (t3 - t2)) 1)
    let s := ((s.putN R.TIME_UP_OFS_LO ofs).putN R.TIME_UP_OFS_HI (ofs / 2 ^ 32)).putN R.TIME_UP_DLY dly
    (s.incWrap F.TIME_UP_CNT_OK_CNT).flag F.TIME_STAT_UP_VALID

/-- TIME_FRAME (R297, R298): a TIME frame arrives on a Nimeb port; it may acknowledge (R130). -/
def execTimeFrame (port : Fin 4) (payload : List Byte) (ack : Option (BitVec 12)) (old : State) : Host.Outcome State Fault Refusal :=
  let p := port.val
  let s := if old.npUp p then old.npAck p ack else old
  let kind := leVal (payload.take 1)
  let seq := leVal (slice payload 1 1)
  if !s.npUp p || payload.length != 32 then done old s
  else if kind = 1 then
    done old (s.nimCtrl p 0x05 (leBytes 1 2 ++ leBytes 1 seq ++ zeros 6 ++ slice payload 8 8 ++ leBytes 8 s.ns ++ leBytes 8 s.ns))
  else if kind = 2 && p = s.fld F.TIME_CTL_UP_PORT && s.bit F.TIME_CTL_UP_EN && s.time.reqWait && seq = s.time.reqSeq then
    done old (s.upResp payload)
  else done old s

/-- TIME_EXCHANGE_TIMEOUT (R298): a REQ has gone 100 µs without a matching RESP. -/
def execTimeExchangeTimeout (s : State) : Host.Outcome State Fault Refusal :=
  if s.time.reqOut = 0 then done s s
  else
    let w := s.time.reqWait && s.time.reqOut != 1
    done s ({ s with time := { s.time with reqOut := s.time.reqOut - 1, reqWait := w } }).upLost

/-- RTC_SET (R301): a packet writes RTC_CTL.SET = 1. -/
def execRtcSet (s : State) : Host.Outcome State Fault Refusal := done s ((s.flag F.RTC_CTL_SET).status 0)

/-- RTC_SET_APPLY (R301): the next tick of the calendar with SET pending. -/
def execRtcSetApply (s : State) : Host.Outcome State Fault Refusal :=
  if s.bit F.RTC_CTL_SET && !s.bit F.RTC_CTL_SYNC then done s s.rtcTick else done s s

/-- RTC_SYNC (R301): a packet writes RTC_CTL.SYNC = 1. -/
def execRtcSync (s : State) : Host.Outcome State Fault Refusal := done s ((s.flag F.RTC_CTL_SYNC).status 0)

/-- RTC_TRIM (R302): the tick that completes 2^20 ticks. -/
def execRtcTrim (s : State) : Host.Outcome State Fault Refusal :=
  done s ({ s with time := { s.time with rtcTrim := 2 ^ 20 - 1 } }).rtcTick

/-- OSC_STOP (R302): no tick for 4 ms. -/
def execOscStop (s : State) : Host.Outcome State Fault Refusal :=
  done s (((s.flag F.RTC_STAT_OSC_STOP).setFld F.RTC_STAT_VALID 0).setReady 3 false)

/-- VBAT_LOSS (R300, R302): VBAT falls below 2.0 V; the calendar's registers are reset and VALID is 0. -/
def execVbatLoss (s : State) : Host.Outcome State Fault Refusal :=
  let s' := ([R.RTC_SEC_LO, R.RTC_SEC_HI, R.RTC_CTL, R.RTC_SET_LO, R.RTC_SET_HI, R.RTC_STAT].foldl (fun s o => s.putN o 0) s).flag F.RTC_STAT_VBAT_LOW
  done s { s' with time := { s'.time with rtc := 0, rtcAcc := 0, rtcTrim := 0 } }

/-- RTC_SEC_READ (R300, R303): a read of RTC_SEC_LO latches RTC_SEC_HI. -/
def execRtcSecRead (s : State) : Host.Outcome State Fault Refusal := done s s.rtcRead

end Sys2Proof.Machine
end

