-- ==== Sys2Proof/Machine/Lane.lean ====
section
/-!
DEFINITION. The serial lanes (R107 to R123, R132, R134): lock, loss, camera aggregation, retirement, test modes, and the
camera control channel (R116, R370).
-/
namespace Sys2Proof.Machine

/-! ### Lanes -/

/-- State codes of LANEi_STAT.STATE. -/
def lsOff : Nat := 0
def lsHunt : Nat := 1
def lsLock : Nat := 2
def lsServ : Nat := 3
def lsSpare : Nat := 4
def lsRetired : Nat := 5
def lsTest : Nat := 6

/-- State of lane i. -/
def State.lst (s : State) (i : Nat) : Nat := s.fld (F.LANE_STAT_STATE i)

/-- Look up a lane in a sparse list. -/
def laneGet {α : Type} (l : List (Nat × α)) (i : Nat) : Option α := (l.find? (fun e => e.1 == i)).map (·.2)

/-- Set or remove a lane's entry. -/
def lanePut {α : Type} (l : List (Nat × α)) (i : Nat) (v : Option α) : List (Nat × α) :=
  l.filter (fun e => e.1 != i) ++ (match v with
    | some x => [(i, x)]
    | none => [])

/-- The rates a camera lane tries, from CXP-12 down (R112). -/
def huntRates : List Nat := [12, 10, 6, 5, 3, 2, 1]

/-- Line rate of CXP-n in Mb/s (R108). -/
def cxpMbps (n : Nat) : Nat :=
  if n = 1 then 1250 else if n = 2 then 2500 else if n = 3 then 3125 else if n = 5 then 5000
  else if n = 6 then 6250 else if n = 10 then 10000 else if n = 12 then 12500 else 0

/-- A dwell's count of disagreements is shown, saturated (R9, R123). -/
def State.eyeCount (s : State) (i errors : Nat) : State :=
  let e := min errors (2 ^ 24 - 1)
  let s := (s.setFld (F.LANE_STAT_EYE_BUSY i) 0).setFld (F.LANE_EYE_RES_ERR_CNT i) e
  if e = 2 ^ 24 - 1 then s.flag (F.LANE_EYE_RES_SAT i) else s

/-- An eye scan stops early where its lane leaves LOCK, IN_SERVICE, SPARE or TEST, with the count so far, which is open (R123). -/
def State.eyeAbort (s : State) (i : Nat) : State :=
  if s.bit (F.LANE_STAT_EYE_BUSY i) then
    let f := s.free
    (f.2.eyeCount i f.1.toNat).flag (F.LANE_EYE_RES_ABORT i)
  else s

/-- Lane i enters HUNT: a camera lane starts at CXP-12 (R112). A seed that was written is applied, at this entry and at every later one;
a lane without one keeps its values (R120, assumption 185). -/
def State.toHunt (s : State) (i : Nat) : State :=
  let s := (s.eyeAbort i).setFld (F.LANE_STAT_STATE i) lsHunt
  let s := s.setFld (F.LANE_STAT_RATE i) 0
  let s := if 112 ≤ i then s.setFld (F.LANE_STAT_HI_BER i) 0 else s
  let s := { s with lane := { s.lane with tries := lanePut s.lane.tries i none } }
  match laneGet s.lane.seeds i with
  | some w => s.put (R.LANE_EQ i) w
  | none => s

/-- Lane i has aligned and carries data or idles. -/
def State.aligned (s : State) (i : Nat) : Bool := s.lst i == lsLock || s.lst i == lsServ || s.lst i == lsSpare

/-- Lane i is OFF: an eye scan of it ends, and it shows no rate and no high BER (R107, R117, R123, R135). -/
def State.toOff (s : State) (i : Nat) : State :=
  let s := ((s.eyeAbort i).setFld (F.LANE_STAT_STATE i) lsOff).setFld (F.LANE_STAT_RATE i) 0
  if 112 ≤ i then s.setFld (F.LANE_STAT_HI_BER i) 0 else s

/-- Is lane i retired, a test of it put aside (R132)? -/
def State.isRetired (s : State) (i : Nat) : Bool :=
  s.lst i == lsRetired || (s.lst i == lsTest && laneGet s.lane.tests i == some lsRetired)

/-- A STRUCT ends the retirement of lane i (R132). -/
def State.unretire (s : State) (i : Nat) : State :=
  if s.lst i = lsRetired then s.toOff i
  else if s.isRetired i then { s with lane := { s.lane with tests := lanePut s.lane.tests i (some lsOff) } }
  else s

/-- A step of a lane's continuous adaptation (R119): the taps change, the CTLE setting does not. -/
def State.adapts (s : State) (i : Nat) (w : Word) : State :=
  if !s.aligned i || s.bit (F.LANE_CTL_EQ_FREEZE i) then s
  else s.put (R.LANE_EQ i) ((s.rd (R.LANE_EQ i) &&& 0xF) ||| (w &&& 0x3FFFFFF0))

/-- The pattern checker counts bit errors of a lane under test (R122). -/
def State.prbsCount (s : State) (i errors : Nat) : State :=
  if s.lst i = lsTest ∧ s.fld (F.LANE_CTL_PRBS i) ≠ 0 then s.addCnt (F.LANE_PRBS_ERR_CNT i) (F.LANE_PRBS_ERR_SAT i) errors else s

/-- RS-FEC counts of an Ethernet lane at 25G with FEC (R118). -/
def State.fecCount (s : State) (p corr uncorr : Nat) : State :=
  let on := (s.cfg.struct.bind (fun d => d.eths[p]?)).any (fun e => e.en && e.g25 && e.fec)
  if on && s.lst (112 + p) == lsServ then
    (s.addCnt (F.LANE_FEC_CORR_CNT (112 + p)) (F.LANE_FEC_SAT (112 + p)) corr).addCnt (F.LANE_FEC_UNCORR_CNT (112 + p))
      (F.LANE_FEC_SAT (112 + p)) uncorr
  else s

/-- The camera lanes IN_SERVICE of camera n, as a mask. -/
def State.camMask (s : State) (n : Nat) : Nat :=
  ((List.range 8).map (fun k => if s.lst (8 * n + k) = lsServ then 2 ^ k else 0)).sum

/-- ACT_LINKS and LANE_MASK follow the lanes IN_SERVICE (R134, R135). -/
def State.camCount (s : State) (n : Nat) : State :=
  let m := s.camMask n
  (s.setFld (F.CAM_LINK_LANE_MASK n) m).setFld (F.CAM_LINK_ACT_LINKS n) (popcount 8 m)

/-- The lane set of camera n becomes IN_SERVICE: its ready bit rises (R112), priming (R167), row alignment (R155), the expected line
number (R142) and the order of packet tags (R113) start afresh. -/
def State.camUp (s : State) (n : Nat) : State :=
  if s.bit ⟨R.TOP_READY_IO, n, 1⟩ then s
  else ((s.setReady (32 + n) true).prime n).modIng n (fun g => { g with since := 0, expect := none, nextTag := none, ahead := [] })

/-- A camera lane has locked (R110, R112). With a reduced lane set only that set's lanes join (R134). -/
def State.cxLock (s : State) (i : Nat) : State :=
  let n := i / 8
  let rate := huntRates.getD ((laneGet s.lane.tries i).getD 0) 12
  let s := s.setFld (F.LANE_STAT_RATE i) rate
  let links := s.fld (F.CAM_LINK_CFG_LINKS n)
  let joins := rate == s.fld (F.CAM_LINK_RATE n) && i % 8 < links
    && (vget s.lane.set n 0 == 0 || bitN (vget s.lane.set n 0) (i % 8))
  if joins then
    let s := (s.setFld (F.LANE_STAT_STATE i) lsServ).camCount n
    if s.fld (F.CAM_LINK_ACT_LINKS n) = links then s.camUp n else s
  else s.setFld (F.LANE_STAT_STATE i) lsLock

/-- Physical lane of logical lane j of port p. -/
def State.npLane (s : State) (p j : Nat) : Nat := 96 + 4 * p + (s.npS p).rxMap.getD j j

/-- The logical lane that physical lane i of a port carries, if any; 3 is the spare position. -/
def State.npLogical (s : State) (i : Nat) : Nat :=
  let p := (i - 96) / 4
  ((List.range 4).find? (fun j => s.npLane p j == i)).getD 3

/-- Data lanes in a state from `ok`. -/
def State.npDataIn (s : State) (p : Nat) (ok : List Nat) : List Nat :=
  ((List.range 3).map (s.npLane p)).filter (fun i => ok.contains (s.lst i))

/-- Lanes are within 64 blocks of one another (R125). -/
def State.deskewed (s : State) (lanes : List Nat) : Bool :=
  lanes.all (fun i => lanes.all (fun j => (laneGet s.lane.skew i).getD 0 ≤ (laneGet s.lane.skew j).getD 0 + 64))

/-- A port in TRAIN whose lanes have locked and deskewed enters IDENT (R125, R126). Lanes that are retired take no part (R133), nor
does the spare (assumption 221). The marker count its lanes carry is the neighbour's. -/
def State.npTrained (s : State) (p : Nat) : State :=
  let live := s.npDataIn p [lsHunt, lsLock, lsServ]
  if s.npSt p = 1 && !live.isEmpty && live.all (fun i => s.lst i == lsLock || s.lst i == lsServ) && s.deskewed live then
    let s := live.foldl (fun s i => s.setFld (F.LANE_STAT_STATE i) lsServ) s
    let s := (s.setFld (F.NP_STAT_STATE p) 2).setFld (F.NP_STAT_LANES p) live.length
    let f := s.free
    f.2.modNp p (fun x => { x with ident := false, rxMark := f.1.toNat % 65536 })
  else s

/-- A Nimeb lane has locked (R117, R124). -/
def State.nlLock (s : State) (i : Nat) : State :=
  let p := (i - 96) / 4
  let s := s.setFld (F.LANE_STAT_RATE i) 0xF
  if s.npLogical i = 3 then s.setFld (F.LANE_STAT_STATE i) lsSpare
  else if s.fld (F.NP_STAT_STATE p) = 1 then (s.setFld (F.LANE_STAT_STATE i) lsLock).npTrained p
  else
    let s := s.setFld (F.LANE_STAT_STATE i) lsServ
    s.setFld (F.NP_STAT_LANES p) (s.npDataIn p [lsServ]).length

/-- The ready bit of an Ethernet port follows the PCS link status: block lock without high BER (R117, R118). -/
def State.epReady (s : State) (p : Nat) : State :=
  s.setReady (12 + p) (s.lst (112 + p) == lsServ && !s.bit (F.LANE_STAT_HI_BER (112 + p)))

/-- An Ethernet lane has locked (R117, R118); it carries traffic at once, as state IN_SERVICE (assumption 220). -/
def State.epLock (s : State) (i : Nat) : State :=
  let p := i - 112
  ((s.setFld (F.LANE_STAT_RATE i) (if s.ep25 p then 0xF else 0xA)).setFld (F.LANE_STAT_STATE i) lsServ).epReady p

/-- The high-BER monitor of an Ethernet lane that is locked changes (R117). -/
def State.hiBer (s : State) (p : Nat) (on : Bool) : State :=
  if s.lst (112 + p) = lsServ then (s.setBit (F.LANE_STAT_HI_BER (112 + p)) on).epReady p else s

/-- A Nimeb port drops to TRAIN (R126); a HELD port stays HELD (R29). Its lanes in service hunt again where `hunt` says so. -/
def State.npDown (s : State) (p : Nat) (hunt : Bool) : State :=
  let s := (if s.fld (F.NP_STAT_STATE p) = 4 then s else s.setFld (F.NP_STAT_STATE p) 1).setReady (16 + p) false
  let s := if hunt then (s.npDataIn p [lsLock, lsServ]).foldl (fun s i => s.toHunt i) s else s
  s.setFld (F.NP_STAT_LANES p) (s.npDataIn p [lsServ]).length

/-- A lane's markers show its skew: a port that loses deskew by it returns to TRAIN (R125, R126). -/
def State.laneSkew (s : State) (i blocks : Nat) : State :=
  let p := (i - 96) / 4
  let s := { s with lane := { s.lane with skew := lanePut s.lane.skew i (some blocks) } }
  if s.npSt p = 1 then s.npTrained p
  else if (s.npSt p = 2 ∨ s.npSt p = 3) ∧ !s.deskewed (s.npDataIn p [lsServ]) then s.npDown p true
  else s

/-- Errors of lane i are counted while it is in LOCK, IN_SERVICE or SPARE (R110, R117). -/
def State.laneErrs (s : State) (i code disp : Nat) : State :=
  (s.addCnt (F.LANE_ERR_CODE_CNT i) (F.LANE_ERR_SAT i) code).addCnt (F.LANE_ERR_DISP_CNT i) (F.LANE_ERR_SAT i) (if i < 96 then disp else 0)

/-- Lane i loses LOCK (R110, R117). -/
def State.lockLoss (s : State) (i code disp : Nat) : State :=
  let serv := s.lst i == lsServ || s.lst i == lsSpare
  let s := ((s.laneErrs i code disp).flag (F.LANE_STAT_LOCK_LOST i)).toHunt i
  let s := if serv then { s with lane := { s.lane with lost := i :: s.lane.lost } } else s
  if i < 96 then s.camCount (i / 8)
  else if i < 112 then
    let p := (i - 96) / 4
    let k := (s.npDataIn p [lsServ]).length
    let s := s.setFld (F.NP_STAT_LANES p) k
    if k = 0 && s.fld (F.NP_STAT_STATE p) != 0 && s.npLogical i < 3 then s.npDown p false else s
  else s.epReady (i - 112)

/-! ### Retirement (R132 to R134) -/

/-- Q of camera n in bits per second (R114). -/
def State.camNeed (s : State) (n : Nat) : Nat :=
  match (s.cfg.struct.bind (fun d => d.cams[n]?)) with
  | some c => c.ppl * ([8, 10, 12, 24, 30].getD c.fmt 8) * c.maxHz
  | none => 0

/-- C of `links` lanes at CXP-`rate`, times 1,000 (R114): line rate × 8/10 × 0.96. -/
def linkCap1000 (links rate : Nat) : Nat := links * cxpMbps rate * 1000000 * 768

/-- Rounded down to 4, 2 or 1 (R134). -/
def linkRound (k : Nat) : Nat := if 4 ≤ k then 4 else if 2 ≤ k then 2 else k

/-- The master and the lowest-numbered of the other lanes in a mask, `k` in all (R134). -/
def keepLanes (mask k : Nat) : Nat :=
  1 + ((((List.range 8).filter (fun j => j ≠ 0 && bitN mask j)).take (k - 1)).map (2 ^ ·)).sum

/-- A connection of a camera other than its master is retired (R134). -/
def State.reduce (s : State) (n i : Nat) : State :=
  let left := popcount 8 (s.camMask n)
  let k := linkRound left
  if 0 < k ∧ s.camNeed n * 1000 ≤ linkCap1000 k (s.fld (F.CAM_LINK_RATE n)) then
    let m := keepLanes (s.camMask n) k
    ({ s with lane := { s.lane with red := vput s.lane.red n (vget s.lane.red n [] ++ [m]) } }).emit (.camLinks n k (s.fld (F.CAM_LINK_RATE n)))
  else (s.flag (F.CAM_LINK_NO_REDUCE n)).fault 0x04 0x3 i (w5 := n) (w6 := left)

/-- A data lane of port p is retired (R133): a swap to the spare is announced, two alignment periods ahead, or the port goes on with fewer
lanes. A swap already under way has taken the spare. -/
def State.npRetire (s : State) (p j : Nat) : State :=
  let spare := s.npLane p 3
  let k := (s.npDataIn p [lsServ]).length
  let s := s.setFld (F.NP_STAT_LANES p) k
  if s.lst spare = lsSpare ∧ 0 < k ∧ (s.npS p).swapRx.isNone then
    let m := ((s.npS p).rxMark + 2) % 65536
    let l := spare - 96 - 4 * p
    (s.nimCtrl p 0x07 (leBytes 1 j ++ leBytes 1 l ++ leBytes 2 m ++ zeros 4)).modNp p (fun x => { x with swapRx := some (j, l, m) })
  else if k = 0 then s.npDown p false
  else s

/-- Lane i is retired (R132). -/
def State.retire (s : State) (i : Nat) : State :=
  let s := ((s.eyeAbort i).setFld (F.LANE_STAT_STATE i) lsRetired).setFld (F.LANE_STAT_RATE i) 0
  let s := { s with lane := { s.lane with lost := s.lane.lost.filter (· != i) } }
  if i < 96 then
    let n := i / 8
    let s := s.camCount n
    let s := s.fault 0x04 0x1 i (w5 := n) (w6 := s.fld (F.CAM_LINK_ACT_LINKS n))
    if i % 8 = 0 then (s.fault 0x04 0x4 i (w5 := n) (w6 := s.fld (F.CAM_LINK_ACT_LINKS n))).setReady (32 + n) false
    else s.reduce n i
  else
    let p := (i - 96) / 4
    let j := s.npLogical i
    let s := s.fault 0x04 0x1 i (w5 := p) (w6 := (s.npDataIn p [lsServ]).length)
    if j = 3 then s else s.npRetire p j

/-! ### Meanings -/

/-- LANE_LOCK (R110, R112, R117, R125): the lane has aligned; `skew` is what a Nimeb lane's markers show. -/
def execLaneLock (i : Fin 114) (skew : BitVec 8) (s : State) : Host.Outcome State Fault Refusal :=
  if s.lst i != lsHunt then done s s
  else
    let s' := { s with lane := { s.lane with lost := s.lane.lost.filter (· != i.val) } }
    done s (if i.val < 96 then s'.cxLock i
      else if i.val < 112 then { s' with lane := { s'.lane with skew := lanePut s'.lane.skew i (some skew.toNat) } }.nlLock i
      else s'.epLock i)

/-- LANE_LOCK_LOSS (R110, R117): the errors since the last command are counted, and the lane hunts again. -/
def execLaneLockLoss (i : Fin 114) (code disp : BitVec 16) (s : State) : Host.Outcome State Fault Refusal :=
  if s.aligned i then done s (s.lockLoss i code.toNat disp.toNat) else done s s

/-- RATE_HUNT_DWELL (R112): the next rate is tried. -/
def execRateHuntDwell (i : Fin 114) (s : State) : Host.Outcome State Fault Refusal :=
  if i.val < 96 && s.lst i = lsHunt then
    let k := ((laneGet s.lane.tries i).getD 0 + 1) % 7
    done s { s with lane := { s.lane with tries := lanePut s.lane.tries i (if k = 0 then none else some k) } }
  else done s s

/-- One discarded packet of camera n (R136). -/
def State.pktDrop (s : State) (n : Nat) (f : Fld) : State := (s.flag f).incCnt (F.ING_CNT2_A n) (F.ING_CNT2_SAT n)

/-- CXP_PACKET (R111, R113, R136, R137): a packet of a lane IN_SERVICE. One that is late, or whose place in tag order has passed, is
discarded; the others are checked, and join the line in tag order. A packet that fails a check leaves its place in the order empty. -/
def execCxpPacket (n : Fin 12) (link : Fin 8) (late : Bool) (tag stream : BitVec 8) (crcOk first : Bool) (fmt : Fin 8)
    (line : BitVec 16) (ofs : BitVec 16) (pix : List (List Nat)) (s : State) : Host.Outcome State Fault Refusal :=
  let t := tag.toNat
  let behind := 128 ≤ tagAhead t ((s.ingS n).nextTag.getD t)
  if s.lst (8 * n + link) != lsServ || !s.camUsed n then done s s
  else if late || behind then done s ((s.flag (F.CAM_LINK_SKEW n)).modIng n (fun g => g.passTag t))
  else if stream.toNat ≠ s.fld (F.ING_FMT_STREAM_ID n) then done s ((s.wakeBlock 0x06).pktDrop n (F.ING_STAT_STREAM_ERR n))
  else
    let bad := !crcOk || (first && fmt.val != s.fld (F.ING_FMT_FMT n))
    let s := s.wakeBlock 0x06
    let s' := if !crcOk then s.pktDrop n (F.ING_STAT_CRC_ERR n) else if bad then s.pktDrop n (F.ING_STAT_STREAM_ERR n) else s
    let k : HeldPkt := { tag := t, opens := if first && !bad then some line.toNat else none,
                         ofs := if bad then 0 else ofs.toNat, pix := if bad then [] else pix }
    done s (s'.modIng n (fun g => g.order k))

/-- DOWNLINK_TRIGGER (R136). -/
def execDownlinkTrigger (n : Fin 12) (s : State) : Host.Outcome State Fault Refusal :=
  if s.has .cam n then done s ((s.flag (F.ING_STAT_DL_TRIG n)).incCnt (F.ING_CNT2_B n) (F.ING_CNT2_SAT n)) else done s s

/-- The master connection of camera n carries control packets (R112, R370). -/
def State.masterUp (s : State) (n : Nat) : Bool := s.lst (8 * n) == lsLock || s.lst (8 * n) == lsServ

/-- CXP_CTRL_RECEIVED (R116, R370): a control or heartbeat packet is posted to Q32 + HQ_CXP_CFG.QID. -/
def execCxpCtrlReceived (n : Fin 12) (heartbeat : Bool) (bytes : List Byte) (s : State) : Host.Outcome State Fault Refusal :=
  if s.masterUp n && s.bit F.HQ_CXP_CFG_EN then
    done s (s.postOrDrop (s.fld F.HQ_CXP_CFG_QID) (.pkt { opc := 0x8050, param0 := n + 256 * b2n heartbeat, data := bytes }))
  else done s s

/-- MASTER_LOSS_TIMEOUT (R112): the master connection has been out of IN_SERVICE for more than 100 µs. -/
def execMasterLossTimeout (n : Fin 12) (s : State) : Host.Outcome State Fault Refusal :=
  if s.bit ⟨R.TOP_READY_IO, n, 1⟩ && s.lst (8 * n) != lsServ then
    done s ((s.fault 0x04 0x4 (8 * n) (w5 := n) (w6 := s.fld (F.CAM_LINK_ACT_LINKS n))).setReady (32 + n) false)
  else done s s

/-- LANE_RETIRE (R132): 100 µs out of LOCK, or more errors than RET_THR within 2^20 code groups or blocks. -/
def execLaneRetire (i : Fin 114) (code disp : BitVec 16) (s : State) : Host.Outcome State Fault Refusal :=
  let serv := s.lst i == lsServ || s.lst i == lsSpare || s.lane.lost.contains i.val
  if 112 ≤ i.val || !s.bit (F.LANE_CTL_RET_EN i) || !serv || s.lst i == lsTest || (i.val < 96 && s.fld F.PWR_STAT_STATE == 2) then done s s
  else done s ((s.laneErrs i code.toNat disp.toNat).retire i)

/-- A host control packet goes out on the master's uplink, if it is up (R116, R370). -/
def State.ctrlSend (s : State) (n : Nat) (e : CtrlPkt) : State :=
  let h : PktHdr := { tag := e.tag, flags := e.flags }
  if s.masterUp n then (s.emit (.camCtrl n e.bytes)).finish e.q h e.key 0 0 else s.finish e.q h e.key 0x42 0

/-- Send the control packets held for camera n, oldest first (R116). -/
def State.ctrlRelease (s : State) (n : Nat) : State :=
  let l := vget s.lane.ctrl n []
  l.foldl (fun s e => s.ctrlSend n e)
    { s with lane := { s.lane with ctrl := vput s.lane.ctrl n [] } }

/-- Aggregation uses a new lane set (R134): lanes outside it stay in LOCK, and lanes of it that an earlier set left there join again. -/
def State.camReduce (s : State) (n m : Nat) : State :=
  let s := { s with lane := { s.lane with set := vput s.lane.set n m } }
  let s := (List.range 8).foldl (fun s j =>
    let i := 8 * n + j
    if s.lst i = lsServ ∧ !bitN m j then s.setFld (F.LANE_STAT_STATE i) lsLock
    else if s.lst i = lsLock ∧ bitN m j ∧ s.fld (F.LANE_STAT_RATE i) = s.fld (F.CAM_LINK_RATE n) then s.setFld (F.LANE_STAT_STATE i) lsServ
    else s) s
  let s := (s.camCount n).flag (F.CAM_LINK_REDUCED n)
  s.fault 0x04 0x2 (8 * n) (w5 := n) (w6 := s.fld (F.CAM_LINK_ACT_LINKS n))

/-- CAMERA_LINK_ACK (R134): the camera answers its oldest link-reduction write. The host's control packets go on when none is left. -/
def execCameraLinkAck (n : Fin 12) (ok : Bool) (s : State) : Host.Outcome State Fault Refusal :=
  match vget s.lane.red n [] with
  | [] => done s s
  | m :: rest =>
    let s' := { s with lane := { s.lane with red := vput s.lane.red n rest } }
    let s' := if ok then s'.camReduce n m
      else (s'.flag (F.CAM_LINK_NO_REDUCE n)).fault 0x04 0x3 (8 * n) (w5 := n) (w6 := s'.fld (F.CAM_LINK_ACT_LINKS n))
    done s (if rest.isEmpty then s'.ctrlRelease n else s')

/-- CXP_CTRL (R116, R370): a control packet goes out on the master's uplink; it is held while a reduction is under way. -/
def execCxpCtrl (q : Fin 32) (pkt : List Byte) (s : State) : Host.Outcome State Fault Refusal :=
  let h := pktHdr pkt
  let bytes := pktData pkt
  let n := h.param0
  done s (s.packet q 0x0050 h true 0
    (fun _ => if h.target ≠ 0 then 0x08 else 0)
    (fun _ => if 12 ≤ h.param0 ∨ h.param1 ≠ 0 then 0x08 else 0)
    (fun s k =>
      let e : CtrlPkt := { q := q, key := k, tag := h.tag, flags := h.flags, bytes := bytes }
      if s.masterUp n && !(vget s.lane.red n []).isEmpty then
        { s with lane := { s.lane with ctrl := vput s.lane.ctrl n (vget s.lane.ctrl n [] ++ [e]) } }
      else s.ctrlSend n e))

/-- LANE_EQ_SEED_WRITE (R120): the seed; a lane in LOCK, IN_SERVICE or SPARE keeps its present values. -/
def State.eqSeed (s : State) (i : Nat) (val : Word) : State :=
  ({ s with lane := { s.lane with seeds := lanePut s.lane.seeds i (some (val &&& 0x3FFFFFFF)) } }).status 0

/-- LANE_EQ_SEED_WRITE. -/
def execLaneEqSeedWrite (i : Fin 114) (val : Word) (s : State) : Host.Outcome State Fault Refusal :=
  if s.has .lane i then done s (s.eqSeed i val) else done s s

/-- Does lane i belong to an unused camera or a disabled port? A used camera uses its master lane (R40, R121). -/
def State.laneUnused (s : State) (i : Nat) : Bool := !s.bit (F.LANE_CTL_EN (if i < 96 then 8 * (i / 8) else i))

/-- May LOOP and PRBS of lane i be set (R121)? -/
def State.testable (s : State) (i : Nat) : Bool :=
  [lsOff, lsHunt, lsSpare, lsRetired].contains (s.lst i) || s.laneUnused i

/-- Lane i has no power: in Winter, a camera lane, or any without WINTER_NET (R399). -/
def State.laneOff (s : State) (i : Nat) : Bool := s.fld F.PWR_STAT_STATE == 2 && (i < 96 || !s.bit F.PWR_CTL_WINTER_NET)

/-- A write of LANEi_CTL (R121, R135). -/
def State.laneCtl (s : State) (i : Nat) (val : Word) : State :=
  let loop := val.toNat % 4
  let prbs := val.toNat / 4 % 4
  let on := loop != 0 || prbs != 0
  let set := (loop != s.fld (F.LANE_CTL_LOOP i) && loop != 0) || (prbs != s.fld (F.LANE_CTL_PRBS i) && prbs != 0)
  if (set && !s.testable i) || (loop = 3 && i < 96) then s.status 0x40
  else
    let s := (s.put (R.LANE_CTL i) ((s.rd (R.LANE_CTL i) &&& ~~~0xFF3F) ||| (val &&& 0xFF3F))).status 0
    if on && s.lst i != lsTest then
      let s := { s with lane := { s.lane with tests := lanePut s.lane.tests i (some (s.lst i)), lost := s.lane.lost.filter (· != i) } }
      s.setFld (F.LANE_STAT_STATE i) lsTest
    else if !on && s.lst i = lsTest then
      let p := (laneGet s.lane.tests i).getD lsOff
      let s := { s with lane := { s.lane with tests := lanePut s.lane.tests i none } }
      if p = lsRetired then (s.eyeAbort i).setFld (F.LANE_STAT_STATE i) p
      else if !s.bit (F.LANE_CTL_EN i) || s.laneOff i || (96 ≤ i && i < 112 && s.npSt ((i - 96) / 4) == 0) then s.toOff i
      else s.toHunt i
    else s

/-- LANE_CTL_WRITE. -/
def execLaneCtlWrite (i : Fin 114) (val : Word) (s : State) : Host.Outcome State Fault Refusal :=
  if s.has .lane i then done s (s.laneCtl i val) else done s s

/-- A write of LANEi_EYE_CTL (R123): START starts or restarts a scan. -/
def State.eyeCtl (s : State) (i : Nat) (val : Word) : State :=
  if val.toNat % 64 = 32 ∨ val.toNat / 256 % 128 = 64 then s.status 0x40
  else
    let s := (s.put (R.LANE_EYE_CTL i) (val &&& 0x001F7F3F)).status 0
    if !bitN val.toNat 31 then s
    else
      let s := (s.setFld (F.LANE_EYE_RES_SAT i) 0).setFld (F.LANE_EYE_RES_ERR_CNT i) 0
      if [lsLock, lsServ, lsSpare, lsTest].contains (s.lst i) then s.flag (F.LANE_STAT_EYE_BUSY i)
      else (s.setFld (F.LANE_STAT_EYE_BUSY i) 0).flag (F.LANE_EYE_RES_ABORT i)

/-- EYE_SCAN_START. -/
def execEyeScanStart (i : Fin 114) (val : Word) (s : State) : Host.Outcome State Fault Refusal :=
  if s.has .lane i then done s (s.eyeCtl i val) else done s s

/-- EYE_SCAN_DONE (R123): the dwell ends with its count of disagreements. -/
def execEyeScanDone (i : Fin 114) (errors : Word) (s : State) : Host.Outcome State Fault Refusal :=
  if s.bit (F.LANE_STAT_EYE_BUSY i) then
    done s ((s.eyeCount i errors.toNat).flag (F.LANE_EYE_RES_DONE i))
  else done s s

end Sys2Proof.Machine
end

