-- ==== Sys2Proof/Machine/Tw.lean ====
section
/-!
DEFINITION. Two-wire ports (R378 to R391, R393): controller transfers, timeouts and bus clears, the TW3 target and its file, Host
Notify.
-/
namespace Sys2Proof.Machine

/-- A port that is idle. -/
def TwS.init : TwS :=
  { op := 0, clear := false, after := false, held := false, losses := 0, tgt := none, ptr := 0, staged := [], snap := [] }

/-- Hidden state of port n. -/
def State.twS (s : State) (n : Nat) : TwS := vget s.tw n TwS.init

/-- Change the hidden state of port n. -/
def State.modTw (s : State) (n : Nat) (f : TwS → TwS) : State := { s with tw := vput s.tw n (f (s.twS n)) }

/-- BUSY of a port (R382). -/
def State.twBusy (s : State) (n : Nat) : State :=
  s.setBit (F.TW_STAT_BUSY n) ((s.twS n).op != 0 || (s.twS n).clear)

/-- TOP_READY.TW (R379). -/
def State.twReady (s : State) : State :=
  s.setReady 1 (s.pwr.twUp && (List.range 4).all (fun n => !(s.bit (F.TW_CTL_EN n) && s.bit (F.TW_STAT_STUCK_SDA n))))

/-- The pins have been sampled once (R379); part of what an idle device does (assumption 104). -/
def State.twSample (s : State) : State :=
  if s.pwr.twUp then s else { s with pwr := { s.pwr with twUp := true } }.twReady

/-- Byte `i` of the data registers from `base`. -/
def State.twByte (s : State) (base i : Nat) : Byte := BitVec.ofNat 8 (s.rdN (base + 4 * (i / 4)) / 2 ^ (8 * (i % 4)))

/-- Store bytes into the receive registers (R381). -/
def State.twStore (s : State) (n : Nat) (bs : List Byte) : State :=
  bs.zipIdx.foldl (fun s b => s.setFld ⟨R.TW_RXD0 n + 4 * (b.2 / 4), 8 * (b.2 % 4), 8⟩ b.1.toNat) s

/-! ### Controller transfers (R381 to R383) -/

/-- End what the port does with a result (R382, R391). -/
def State.twEnd (s : State) (n result : Nat) : State :=
  let op := (s.twS n).op
  let s := (s.setFld (F.TW_STAT_RESULT n) result).flag (if op = 2 then F.TW_STAT_NOTIFY_DONE n else F.TW_STAT_DONE n)
  let s := if (1 ≤ result ∧ result ≤ 6) ∨ result = 8 then s.incCnt (F.TW_CNT_ERR_CNT n) (F.TW_CNT_SAT n) else s
  (s.modTw n (fun t => { t with op := 0, losses := 0 })).twBusy n

/-- A write of TWn_XFER (R381, R382). A GO during a bus clear waits for it (R386, assumption 205). -/
def State.twXfer (s : State) (n : Nat) (val : Word) : State :=
  let v := val.toNat
  let waits := bitN v 31 && (s.twS n).clear && (s.twS n).op == 0
  if s.bit (F.TW_STAT_BUSY n) && !waits then s.status 0x40
  else
    let s' := s.put (R.TW_XFER n) (val &&& 0x073F3F7F)
    if !bitN v 31 then s'.status 0
    else if 32 < fieldN v 8 6 || 32 < fieldN v 16 6 || !s.bit (F.TW_CTL_EN n) then s.status 0x40
    else if s.bit (F.TW_STAT_STUCK_SDA n) then s.status 0x42
    else ((s'.modTw n (fun t => { t with op := 1 })).twBusy n).status 0

/-- TW_GO (R381): a write of TWn_XFER with GO = 1. -/
def execTwGo (n : Fin 4) (val : Word) (s : State) : Host.Outcome State Fault Refusal :=
  done s (s.twXfer n (val ||| 0x80000000))

/-- The bytes a target puts on the bus, 0xFF where none drives it. -/
def rdByte (rd : List Byte) (i : Nat) : Byte := rd.getD i 0xFF

/-- The read part of a transfer (R381): the bytes stored and the result. `sent` is what the PEC already covers. -/
def readPart (block pec : Bool) (rlen : Nat) (sent rd : List Byte) : List Byte × Nat :=
  let c := (rdByte rd 0).toNat
  if block && (c == 0 || 31 < c) then ([rdByte rd 0], 8)
  else
    let k := if block then c + 1 else rlen
    let bs := (List.range k).map (rdByte rd)
    (bs, if pec && crc8 (sent ++ bs) != (rdByte rd k).toNat then 6 else 0)

/-- The bytes that go out after an address byte: none where it is not acknowledged, and none after the first byte that is not (R382). -/
def sentBytes (addrAck : Bool) (acked : Nat) (bs : List Byte) : List Byte := if addrAck then bs.take (acked + 1) else []

/-- TW_TRANSFER_DONE (R381, R382): what the bus answered: the address acknowledges, how many written bytes were acknowledged, and
the bytes read. -/
def execTwTransferDone (n : Fin 4) (addrAck rdAck : Bool) (acked : Fin 34) (rd : List Byte) (s : State) :
    Host.Outcome State Fault Refusal :=
  let p := n.val
  let t := s.twS p
  if t.op ≠ 1 || t.clear || s.bit (F.TW_STAT_STUCK_SDA p) then done s s
  else
    let a := s.fld (F.TW_XFER_ADDR p)
    let wlen := s.fld (F.TW_XFER_WLEN p)
    let rlen := s.fld (F.TW_XFER_RLEN p)
    let block := s.bit (F.TW_XFER_BLOCK p)
    let pec := s.bit (F.TW_XFER_PEC p)
    let reads := rlen != 0 || block
    let wr := (List.range wlen).map (s.twByte (R.TW_TXD0 p))
    let wAddr : Byte := BitVec.ofNat 8 (2 * a)
    let rAddr : Byte := BitVec.ofNat 8 (2 * a + 1)
    let head := if wlen != 0 || !reads then wAddr :: wr else []
    let out := if pec && !reads && wlen != 0 then wr ++ [BitVec.ofNat 8 (crc8 head)] else wr
    let s0 := s.modTw p (fun t => { t with after := false })
    let s' := if wlen != 0 || !reads then (s0.emit (.twStart p (2 * a) t.held)).emit (.twData p (sentBytes addrAck acked out)) else s0
    let stop := fun (s : State) (r : Nat) =>
      let keep := s.bit (F.TW_XFER_NOSTOP p) && r != 2 && r != 1
      let s := if keep then s else s.emit (.twStop p)
      (s.modTw p (fun t => { t with held := keep })).twEnd p r
    if (wlen != 0 || !reads) && !addrAck then done s (stop s' 1)
    else if acked.val < out.length then done s (stop (s'.setFld (F.TW_STAT_NACK_IDX p) acked.val) 2)
    else if !reads then done s (stop s' 0)
    else
      let s' := s'.emit (.twStart p (2 * a + 1) (wlen != 0 || t.held))
      if !rdAck then done s (stop s' 1)
      else
        let r := readPart block pec rlen (head ++ [rAddr]) rd
        done s (stop (s'.twStore p r.1) r.2)

/-- Abort the transfer or Host Notify (R383): nothing where its STOP has begun, or where neither is under way. -/
def State.twAbort (s : State) (n : Nat) (stopBegun : Bool) : State :=
  if (s.twS n).op = 0 || stopBegun then s
  else ((s.emit (.twStop n)).modTw n (fun t => { t with after := true, held := false })).twEnd n 7

/-- TW_ABORT (R383). -/
def execTwAbort (n : Fin 4) (stopBegun : Bool) (s : State) : Host.Outcome State Fault Refusal :=
  done s ((s.twAbort n stopBegun).status 0)

/-! ### Bus clear and timeouts (R385, R386) -/

/-- A bus clear starts (R386). -/
def State.busClear (s : State) (n : Nat) : State :=
  if (s.twS n).clear || s.bit (F.TW_STAT_STUCK_SDA n) then s
  else (((s.modTw n (fun t => { t with clear := true, after := false })).incCnt (F.TW_CNT_CLR_CNT n) (F.TW_CNT_SAT n)).twBusy n).emit
    (.twClear n)

/-- A write of TWn_CTL: BUSCLR and ABORT (R383, R386). -/
def State.twCtl (s : State) (n : Nat) (val : Word) : State :=
  let s := if bitN val.toNat 5 then s.twAbort n false else s
  (if bitN val.toNat 4 then s.busClear n else s).status 0

/-- BUSCLR (R386). -/
def execBusclr (n : Fin 4) (s : State) : Host.Outcome State Fault Refusal := done s (s.twCtl n 0x10)

/-- BUS_CLEAR_DONE (R386): SDA is high again and the port has sent a STOP, or it is stuck after nine pulses. -/
def execBusClearDone (n : Fin 4) (freed : Bool) (s : State) : Host.Outcome State Fault Refusal :=
  if !(s.twS n).clear then done s s
  else
    let s' := (s.modTw n (fun t => { t with clear := false })).twBusy n
    if freed then done s ((s'.emit (.twStop n)).flag (F.TW_STAT_BUS_CLEARED n))
    else done s (((s'.flag (F.TW_STAT_STUCK_SDA n)).setFld (F.TW_STAT_READY n) 0).twReady)

/-- BUS_CLEAR_AFTER_TBUF (R386). -/
def execBusClearAfterTbuf (n : Fin 4) (s : State) : Host.Outcome State Fault Refusal :=
  done s (if (s.twS n).after then s.busClear n else s)

/-- The TW3 target returns to idle and discards its staged bytes (R385). -/
def State.tgtIdle (s : State) (n : Nat) : State := s.modTw n (fun t => { t with tgt := none, staged := [] })

/-- SCL_TO (R385). -/
def execSclTo (n : Fin 4) (s : State) : Host.Outcome State Fault Refusal :=
  let s' := ((s.flag (F.TW_STAT_SCL_TO n)).tgtIdle n).modTw n (fun t => { t with after := true, held := false })
  done s (if (s.twS n).op = 0 then s' else s'.twEnd n 4)

/-- SDA_TO (R385): also starts a bus clear with MC = 0, or where the port was controller: its transfer has begun, which the command says, or it
holds the bus after one (NOSTOP). -/
def execSdaTo (n : Fin 4) (began : Bool) (s : State) : Host.Outcome State Fault Refusal :=
  let op := (s.twS n).op
  let was := (op ≠ 0 && began) || (s.twS n).held
  let s' := ((s.flag (F.TW_STAT_SDA_TO n)).tgtIdle n).modTw n (fun t => { t with held := false })
  let s' := if op = 0 then s' else s'.twEnd n 5
  done s (if !s.bit (F.TW_CTL_MC n) || was then s'.busClear n else s')

/-! ### The TW3 target (R387 to R390) -/

/-- The target file: its first 12 bytes are kept current by hardware (R387). -/
def State.tgtFile (s : State) : List Byte :=
  leBytes 4 (s.rdN R.TOP_ID) ++ leBytes 4 (s.rdN R.TOP_READY) ++ leBytes 4 s.faultSum ++
    (List.range 244).map (fun i => s.twByte (R.TW3_FILE 0) (i + 12))

/-- The target serves bytes a controller has written (R388): the first sets the pointer where it is `fresh`. -/
def tgtBytes : List Byte → Bool → State → State
  | [], _, s => s
  | b :: bs, true, s => tgtBytes bs false (s.modTw 3 (fun t => { t with ptr := b.toNat }))
  | b :: bs, false, s =>
    let a := (s.twS 3).ptr
    let s := s.modTw 3 (fun t => { t with ptr := (a + 1) % 256 })
    tgtBytes bs false
      (if a < 0x80 then s.incCnt F.TW3_TGT_CNT_DISC_CNT F.TW3_TGT_CNT_SAT
       else s.modTw 3 (fun t => { t with staged := t.staged ++ [(a, b)] }))

/-- The target serves a transfer from its address match on (R387 to R389): the bytes written, or the count of bytes read. -/
def State.tgtServe (s : State) (read : Bool) (bytes : List Byte) (count : Nat) : State :=
  if read then
    let f := s.tgtFile
    let p := (s.twS 3).ptr
    let out := (List.range count).map (fun i => f.getD ((p + i) % 256) 0)
    (s.modTw 3 (fun t => { t with tgt := some true, snap := f, ptr := (p + count) % 256 })).emit (.twData 3 out)
  else tgtBytes bytes true (s.modTw 3 (fun t => { t with tgt := some false }))

/-- TARGET_ADDRESS_MATCH (R387); a port with SDA stuck drives nothing, so it acknowledges nothing (R386). -/
def execTargetAddressMatch (addr : BitVec 7) (read : Bool) (bytes : List Byte) (count : BitVec 12) (s : State) :
    Host.Outcome State Fault Refusal :=
  if s.bit F.TW3_TGT_CFG_TGT_EN && addr.toNat == s.fld F.TW3_TGT_CFG_TGT_ADDR && (s.twS 3).tgt.isNone && !s.bit (F.TW_STAT_STUCK_SDA 3) then
    done s (s.tgtServe read bytes count.toNat)
  else done s s

/-- STOP or repeated START: the staged bytes reach the IN area together (R389). -/
def State.tgtCommit (s : State) : State :=
  let t := s.twS 3
  let s := t.staged.foldl (fun s e => s.setFld ⟨R.TW3_FILE (e.1 / 4), 8 * (e.1 % 4), 8⟩ e.2.toNat) s
  let s := if t.staged.isEmpty then s else s.flag (F.TW_STAT_TGT_WR 3)
  s.tgtIdle 3

/-- TARGET_STOP (R389). -/
def execTargetStop (s : State) : Host.Outcome State Fault Refusal :=
  if (s.twS 3).tgt.isSome then done s s.tgtCommit else done s s

/-- SR_IN_ACK (R390): a START or STOP in a byte's acknowledge slot discards that byte. -/
def execSrInAck (stop : Bool) (s : State) : Host.Outcome State Fault Refusal :=
  if (s.twS 3).tgt.isNone then done s s
  else
    let s' := s.incCnt F.TW3_TGT_CNT_DISC_CNT F.TW3_TGT_CNT_SAT
    let s' := if stop then s' else (s'.flag (F.TW_STAT_SR_IN_ACK 3)).incCnt F.TW3_TGT_CNT_SR_CNT F.TW3_TGT_CNT_SAT
    done s s'.tgtCommit

/-- ARB_LOST (R384, R391): the own transfer ends with RESULT 0x3; a Host Notify tries again up to 8 times; TW3 serves the winner
where it addressed the target. -/
def execArbLost (n : Fin 4) (addr : BitVec 7) (read : Bool) (bytes : List Byte) (count : BitVec 12) (s : State) :
    Host.Outcome State Fault Refusal :=
  let p := n.val
  let t := s.twS p
  if t.op = 0 then done s s
  else
    let s' := (s.flag (F.TW_STAT_ARB_LOST p)).modTw p (fun t => { t with held := false })
    let s' := if t.op = 2 && t.losses < 8 then s'.modTw p (fun t => { t with losses := t.losses + 1 }) else s'.twEnd p 3
    if p = 3 ∧ s.bit (F.TW_CTL_MC 3) ∧ s.bit F.TW3_TGT_CFG_TGT_EN ∧ addr.toNat = s.fld F.TW3_TGT_CFG_TGT_ADDR ∧ t.tgt.isNone then
      done s (s'.tgtServe read bytes count.toNat)
    else done s s'

/-- A write of TW3_TGT_CFG (R387). -/
def State.tgtCfg (s : State) (val : Word) : State :=
  let a := val.toNat % 128
  if bitN val.toNat 15 && (a < 8 || 0x78 ≤ a) then s.status 0x40
  else
    let s' := (s.put R.TW3_TGT_CFG (val &&& 0xFF7F)).status 0
    if bitN val.toNat 15 then s' else s'.tgtIdle 3

/-! ### Host Notify (R391) -/

/-- A write of TW3_NOTIFY (R391). -/
def State.notifyWrite (s : State) (val : Word) : State :=
  let s' := s.put R.TW3_NOTIFY (val &&& 0xFFFF)
  if !bitN val.toNat 31 then s'.status 0
  else if s.bit (F.TW_STAT_BUSY 3) then s.status 0x40
  else ((s'.modTw 3 (fun t => { t with op := 2, losses := 0 })).twBusy 3).status 0

/-- HOST_NOTIFY (R391): a write of TW3_NOTIFY with GO = 1. -/
def execHostNotify (data : BitVec 16) (s : State) : Host.Outcome State Fault Refusal :=
  done s (s.notifyWrite (BitVec.ofNat 32 (data.toNat + 2 ^ 31)))

/-- NOTIFY_DONE (R391): the frame has been sent, with the acknowledges it met. -/
def execNotifyDone (addrAck : Bool) (acked : Fin 4) (s : State) : Host.Outcome State Fault Refusal :=
  if (s.twS 3).op ≠ 2 || (s.twS 3).clear || s.bit (F.TW_STAT_STUCK_SDA 3) then done s s
  else
    let bytes := leBytes 1 (2 * s.fld F.TW3_TGT_CFG_TGT_ADDR) ++ leBytes 2 (s.fld F.TW3_NOTIFY_DATA)
    let s0 := s.modTw 3 (fun t => { t with after := false, held := false })
    let s' := ((s0.emit (.twStart 3 (2 * s.fld F.TW3_TGT_CFG_NOTIFY_ADDR) (s.twS 3).held)).emit (.twData 3 (sentBytes addrAck acked bytes))).emit
      (.twStop 3)
    if !addrAck then done s (s'.twEnd 3 1)
    else if acked.val < 3 then done s ((s'.setFld (F.TW_STAT_NACK_IDX 3) acked.val).twEnd 3 2)
    else done s (s'.twEnd 3 0)

/-- A warm reset ends a transfer at once and releases both lines (R383). -/
def State.twWarm (s : State) : State :=
  (List.range 4).foldl (fun s n =>
    (s.modTw n (fun t => { TwS.init with after := true, ptr := t.ptr })).twBusy n) s

end Sys2Proof.Machine
end

