-- ==== Sys2Proof/Machine/Cal.lean ====
section
/-!
DEFINITION. CAL: temperatures, calibration runs and their records (R412 to R417).
-/
namespace Sys2Proof.Machine

/-- Die of a sensor; 4 is XD (R412). -/
def sensorDie (k : Nat) : Nat := k / 4

/-- A die is powered: XD always, a compute die once its rail is up. -/
def State.diePowered (s : State) (d : Nat) : Bool := d == 4 || s.pwr.powered.contains d

/-- A CAL record (R416). -/
def State.calRec (s : State) (w4 cur prop w7 : Nat) : State := s.record 5 (s.sysRec 0x21 (s.pos 0) s.tsNs w4 cur prop w7)

/-- Word 7 of a run's records (R416). -/
def State.calTrig (s : State) : Nat := match s.cal.runs with
  | [] => 0
  | r :: _ => s.cal.trig % 65536 + 65536 * r.2

/-- The run at the front starts: the references take the present readings, and a run of XD notes its thermal trigger
(R332, R413, R416). -/
def State.calBegin (s : State) : State :=
  match s.cal.runs with
  | [] => s
  | (d, k) :: _ =>
    let trig := if k = 255 then 0 else s.fld (F.CAL_TEMP_TEMP k)
    let s := { s with cal := { s.cal with trig := trig } }
    let s := s.setFld F.CAL_STAT_RUNNING (2 ^ d)
    let s := (List.range 4).foldl (fun s j => s.put (R.CAL_REF (4 * d + j)) (s.rd (R.CAL_TEMP (4 * d + j)))) s
    if d = 4 then
      let s := (List.range 8).foldl (fun s c =>
        let st := s.fld (F.DMC_CH_STAT_STATE c)
        if st = 2 ∨ st = 3 then s.flag (F.DMC_CH_STAT_THERM c) else s) s
      s.calRec (0x10 + 256 * d) 0 0 s.calTrig
    else s

/-- Put a run in die order behind the one under way; a die has at most one run waiting (R413). -/
def runInsert (r : Nat × Nat) (l : List (Nat × Nat)) : List (Nat × Nat) :=
  if l.any (fun x => x.1 == r.1) then l
  else l.filter (fun x => x.1 < r.1) ++ r :: l.filter (fun x => r.1 < x.1)

/-- A trigger for die `d` by sensor `k`, or 255 (R413). -/
def State.calTrigger (s : State) (d k : Nat) : State :=
  if !s.bit F.CAL_CTL_EN || !s.diePowered d then s
  else match s.cal.runs with
  | [] => { s with cal := { s.cal with runs := [(d, k)] } }.calBegin
  | cur :: rest => { s with cal := { s.cal with runs := cur :: runInsert (d, k) rest } }

/-- A trigger, held while a power transition is under way (R406). -/
def State.calAsk (s : State) (d k : Nat) : State :=
  if s.bit F.PWR_STAT_BUSY then { s with pwr := { s.pwr with held := s.pwr.held ++ [PwrHeld.cal d k] } } else s.calTrigger d k

/-- RUN_NOW (R413): every powered die, in die order. -/
def State.runNow (s : State) : State :=
  (List.range 5).foldl (fun s d => if s.has .die d || d == 4 then s.calAsk d 255 else s) s

/-- A write of CAL_CTL. -/
def State.calCtl (s : State) (val : Word) : State :=
  let s := (s.put R.CAL_CTL (val &&& 0x000FFF01)).status 0
  if bitN val.toNat 1 then s.runNow else s

/-- RUN_NOW (R413). -/
def execRunNow (s : State) : Host.Outcome State Fault Refusal := done s (s.runNow.status 0)

/-- TEMP_SAMPLE (R412, R413): a sensor's raw reading, its offset added. -/
def execTempSample (k : Fin 20) (raw : BitVec 16) (s : State) : Host.Outcome State Fault Refusal :=
  let n := k.val
  let d := sensorDie n
  if !s.has .sensor n then done s s
  else if !s.diePowered d then done s (s.setFld (F.CAL_TEMP_VALID n) 0)
  else
    let v := toSigned 16 raw.toNat + s.sfld (F.CAL_SOFS_VALUE n)
    let s' := (s.setSfld (F.CAL_TEMP_TEMP n) v).flag (F.CAL_TEMP_VALID n)
    let v := s'.sfld (F.CAL_TEMP_TEMP n)
    let hot := decide (1680 < v) && !s'.bit F.CAL_STAT_HOT
    let s' := if hot then s'.flag F.CAL_STAT_HOT else s'
    let s' := if hot && s'.bit F.FLT_CTL_HOT_FATAL then s'.fatal 4 else s'
    let far := (v - s.sfld (F.CAL_REF_TEMP n)).natAbs > s.fld F.CAL_CTL_DT
    done s (if !s.bit (F.CAL_REF_VALID n) || far then s'.calAsk d n else s')

/-! ### Items (R414, R415) -/

/-- An item's kind, instance, and its fields as current and proposed values with the register words they come from. -/
structure CalItem where
  kind  : Nat
  inst  : Nat
  cur   : Nat
  prop  : Nat
  pairs : List (Int × Int)

/-- CTLE and taps of an equaliser word (R119). -/
def eqParts (w : Nat) : List Int :=
  [(fieldN w 0 4 : Int), toSigned 6 (fieldN w 4 6), toSigned 5 (fieldN w 10 5), toSigned 5 (fieldN w 15 5),
   toSigned 5 (fieldN w 20 5), toSigned 5 (fieldN w 25 5)]

/-- Seed of a lane: the one written, else its reset value (R120). -/
def State.eqSeedOf (s : State) (i : Nat) : Nat := ((laneGet s.lane.seeds i).getD (resetVal s.board (R.LANE_EQ i))).toNat

/-- Dark registers of a camera's channel: measured, reference, offset (R414). -/
def darkFlds (n c : Nat) : Fld × Fld × Fld :=
  if c = 0 then (F.ING_DARK_MEAS0_CH0 n, F.ING_DARK_REF0_CH0 n, F.ING_DARK_OFS0_CH0 n)
  else if c = 1 then (F.ING_DARK_MEAS0_CH1 n, F.ING_DARK_REF0_CH1 n, F.ING_DARK_OFS0_CH1 n)
  else (F.ING_DARK_MEAS1_CH2 n, F.ING_DARK_REF1_CH2 n, F.ING_DARK_OFS1_CH2 n)

/-- The items a run of die `d` treats, with the trim and the sensor offsets it has measured (R414). -/
def State.calItems (s : State) (d : Nat) (trim : Nat) (ofs : List Nat) : List CalItem :=
  let on := fun k => bitN (s.fld F.CAL_CTL_ITEM_EN) k
  let lanes := if d = 4 ∧ on 0 then
      (List.range 114).filter (fun i => s.has .lane i && [lsLock, lsServ, lsSpare].contains (s.lst i)) else []
  let cams := if d = 4 ∧ on 1 then
      (List.range 12).filter (fun n => s.has .cam n && s.fld (F.ING_CTL_DARK_MODE n) == 1 &&
        0 < s.fld (F.ING_GEOM_MASK_L n) + s.fld (F.ING_GEOM_MASK_R n)) else []
  let k0 := lanes.map (fun i =>
    let c := s.eqSeedOf i
    let p := s.rdN (R.LANE_EQ i)
    { kind := 0, inst := i, cur := c, prop := p, pairs := (eqParts c).zip (eqParts p) : CalItem })
  let k1 := cams.flatMap (fun n => (List.range (s.chans n)).map (fun c =>
    let f := darkFlds n c
    let p := clampI ((s.fld f.1 : Int) - s.fld f.2.1) (-32767) 32767
    { kind := 1, inst := 4 * n + c, cur := s.fld f.2.2, prop := wrapTo 16 p, pairs := [(s.sfld f.2.2, p)] : CalItem }))
  let k2 := if on 2 then
      [{ kind := 2, inst := d, cur := s.fld (F.CAL_TRIM_VALUE d), prop := trim,
         pairs := [(s.sfld (F.CAL_TRIM_VALUE d), toSigned 8 trim)] : CalItem }] else []
  let k3 := if on 3 then
      (List.range 4).map (fun j =>
        let f := F.CAL_SOFS_VALUE (4 * d + j)
        { kind := 3, inst := 4 * d + j, cur := s.fld f, prop := ofs.getD j 0,
          pairs := [(s.sfld f, toSigned 8 (ofs.getD j 0))] : CalItem }) else []
  k0 ++ k1 ++ k2 ++ k3

/-- The proposed value of an item becomes its value (R415, R120). -/
def State.calApply (s : State) (i : CalItem) : State :=
  if i.kind = 0 then s.eqSeed i.inst (BitVec.ofNat 32 i.prop)
  else if i.kind = 1 then s.setFld (darkFlds (i.inst / 4) (i.inst % 4)).2.2 i.prop
  else if i.kind = 2 then s.setFld (F.CAL_TRIM_VALUE i.inst) i.prop
  else s.setFld (F.CAL_SOFS_VALUE i.inst) i.prop

/-- Bound and step tests of an item: within bounds, within the step (R415). -/
def State.calTest (s : State) (i : CalItem) : Bool × Bool :=
  let lo := s.sfld (F.CAL_BND_LO i.kind)
  let hi := s.sfld (F.CAL_BND_HI i.kind)
  (i.pairs.all (fun p => decide (lo ≤ p.2) && decide (p.2 ≤ hi)),
   i.pairs.all (fun p => decide ((p.2 - p.1).natAbs ≤ s.fld (F.CAL_STEP_STEP i.kind))))

/-- Treat an item: applied, or rejected with its record (R415, R416). A software write of the item on the same edge wins (`won`): the
value is discarded without a record (R417). Counts applied and rejected items. -/
def State.calItem (acc : Nat × Nat × State) (d : Nat) (won : Bool) (i : CalItem) : Nat × Nat × State :=
  let s := acc.2.2
  let t := s.calTest i
  if t.1 && t.2 then (if won then acc else (acc.1 + 1, acc.2.1, s.calApply i))
  else
    let s := (s.flag F.CAL_STAT_CAL_REJECT).incCnt F.CAL_CNT_REJ_CNT F.CAL_CNT_SAT
    let w4 := i.kind + 1 + 256 * d + 65536 * i.inst + 2 ^ 28 + 2 ^ 29 * b2n t.1
    (acc.1, acc.2.1 + 1, s.calRec w4 i.cur i.prop s.calTrig)

/-- Waiting runs that may start: none with EN = 0, and none of a die without power (R413, assumption 215). -/
def State.calWaiting (s : State) (rest : List (Nat × Nat)) : List (Nat × Nat) :=
  if s.bit F.CAL_CTL_EN then rest.filter (fun r => s.diePowered r.1) else []

/-- CAL_RUN_DONE (R413 to R417): the items are treated, the DONE record is posted and the next run starts. `trim` and `ofs` are what
the run measured; `won` names the items, by kind and instance, that software writes on the edge of the update. -/
def execCalRunDone (d : Fin 5) (trim : BitVec 8) (ofs : Vector (BitVec 8) 4) (won : List (Fin 4 × Fin 114)) (s : State) :
    Host.Outcome State Fault Refusal :=
  match s.cal.runs with
  | [] => done s s
  | (c, _) :: rest =>
    if c ≠ d.val then done s s
    else
      let st := s.lastStatus
      let r := (s.calItems c trim.toNat (ofs.toList.map (·.toNat))).foldl
        (fun a i => State.calItem a c (won.any (fun w => w.1.val == i.kind && w.2.val == i.inst)) i) (0, 0, s)
      let s' := { r.2.2.calRec (0x11 + 256 * c) r.1 r.2.1 s.calTrig with lastStatus := st }
      let s' := (s'.incWrap F.CAL_CNT_RUN_CNT).setFld F.CAL_STAT_RUNNING 0
      done s { s' with cal := { s'.cal with runs := s'.calWaiting rest } }.calBegin

end Sys2Proof.Machine
end

