-- ==== Sys2Proof/Machine/Isp.lean ====
section
/-!
DEFINITION. ISP: the area-camera ports (R272 to R275) and the shared image pipeline (R276 to R283).
-/
namespace Sys2Proof.Machine

/-! ### Ports -/

/-- Sample depth of a format (R272). -/
def ppDepth (fmt : Nat) : Nat := if fmt = 3 then 16 else [8, 10, 12].getD (if fmt < 4 then fmt else fmt - 4) 16

/-- Is a format Bayer (R272)? -/
def ppBayer (fmt : Nat) : Bool := 4 ≤ fmt

/-- Bytes stored per pixel (R272). -/
def ppBytes (fmt : Nat) : Nat := if ppDepth fmt = 8 then 1 else 2

/-- Address of a capture buffer (R275). -/
def State.ppBuf (s : State) (p b : Nat) : Nat := 64 * s.rdN (if b = 0 then R.PP_BUF0 p else R.PP_BUF1 p)

/-- The HELD flag of a buffer. -/
def heldFld (p b : Nat) : Fld := if b = 0 then F.PP_STAT_HELD0 p else F.PP_STAT_HELD1 p

/-- Is VSYNC of a port active, and is its frame stored? -/
def State.ppVs (s : State) (p : Nat) : Option Bool := vget s.isp.vs p none

/-- Set the port's frame state. -/
def State.setPpVs (s : State) (p : Nat) (v : Option Bool) : State := { s with isp := { s.isp with vs := vput s.isp.vs p v } }

/-- Change the frame a port is receiving. -/
def modCapt (p : Nat) (f : PpFrame → PpFrame) (l : List PpFrame) : List PpFrame :=
  l.map (fun fr => if fr.port = p ∧ !fr.ended then f fr else fr)

/-- The frame a port is receiving. -/
def State.capt (s : State) (p : Nat) : Option PpFrame := s.isp.frames.find? (fun fr => fr.port == p && !fr.ended)

/-- FRAME_START (R274, R275): PPn_FS is raised, the tag is captured, and the frame takes a free buffer or is dropped. -/
def execFrameStart (p : Fin 2) (s : State) : Host.Outcome State Fault Refusal :=
  let n := p.val
  if !s.has .pport n || !s.bit (F.PP_CTL_EN n) || (s.ppVs n).isSome then done s s
  else
    let s' := s.raise [86 + n]
    let seq := s.rdN (R.PP_FRAMES n)
    let s' := s'.incWrap (F.PP_FRAMES_CNT n)
    let buf := if !s.bit (F.PP_STAT_HELD0 n) then some 0 else if !s.bit (F.PP_STAT_HELD1 n) then some 1 else none
    match buf with
    | none =>
      done s ((((s'.setPpVs n (some false)).flag (F.PP_STAT_FRAME_DROP n)).incCnt (F.PP_CNT_DROP_CNT n) (F.PP_CNT_SAT n)))
    | some b =>
      let fr : PpFrame :=
        { port := n, buf := b, seq := seq, ts := s.tsNs, pos := s.pos (s.fld (F.PP_CTL_TAG_CHAN n)),
          ctx := s.fld (F.PP_CTL_CTX n), w := s.fld (F.PP_GEOM_WIDTH n), h := s.fld (F.PP_GEOM_HEIGHT n),
          fmt := s.fld (F.PP_CTL_FMT n), lines := 0, short := false, long := false, lerr := false, ovf := false,
          ended := false }
      let s' := (s'.setPpVs n (some true)).flag (heldFld n b)
      done s { s' with isp := { s'.isp with frames := s'.isp.frames ++ [fr] } }

/-- PP_LINE_END (R273, R275): a line is cut or padded to WIDTH and written; a full queue stores 0. -/
def execPpLineEnd (p : Fin 2) (pix : List (BitVec 16)) (qFull : Bool) (s : State) : Host.Outcome State Fault Refusal :=
  let n := p.val
  match s.capt n with
  | none => done s s
  | some fr =>
    if fr.h ≤ fr.lines then
      done s ({ s with isp := { s.isp with frames := modCapt n (fun f => { f with long := true }) s.isp.frames } }.flag
        (F.PP_STAT_LONG_FRAME n))
    else
      let bad := pix.length != fr.w || qFull
      let px := (List.range fr.w).map (fun x => if qFull then 0 else (pix.getD x 0).toNat % 2 ^ ppDepth fr.fmt)
      let bpp := ppBytes fr.fmt
      let a := s.ppBuf n fr.buf + fr.lines * fr.w * bpp
      let s' := if s.inDdr a (fr.w * bpp) then s.memStore a (px.flatMap (leBytes bpp)) else s
      let upd := fun (f : PpFrame) => { f with lines := f.lines + 1, lerr := f.lerr || bad, ovf := f.ovf || qFull }
      let s' := { s' with isp := { s'.isp with frames := modCapt n upd s'.isp.frames } }
      let s' := if bad then s'.flag (F.PP_STAT_LINE_ERR n) else s'
      done s (if qFull then s'.flag (F.PP_STAT_OVF n) else s')

/-- FRAME_END (R273): the frame closes at the VSYNC inactive edge with its geometry flags. -/
def execFrameEnd (p : Fin 2) (s : State) : Host.Outcome State Fault Refusal :=
  let n := p.val
  let s' := s.setPpVs n none
  match s.capt n with
  | none => done s s'
  | some fr =>
    let short := fr.lines < fr.h
    let s' := { s' with isp := { s'.isp with frames := modCapt n (fun f => { f with short := short, ended := true }) s'.isp.frames } }
    let s' := if short then s'.flag (F.PP_STAT_SHORT_FRAME n) else s'
    done s (if short || fr.long || fr.lerr then s'.incCnt (F.PP_CNT_ERR_CNT n) (F.PP_CNT_SAT n) else s')

/-! ### Contexts -/

/-- Does an offset belong to context `c` (R283)? -/
def inCtx (c off : Nat) : Bool :=
  (R.ISP_CTX_CTL c ≤ off && off ≤ R.ISP_CTX_OUTB c) || (R.ISP_LUT c 0 ≤ off && off ≤ R.ISP_LUT c 256)

/-- A register of the context being processed (R277). -/
def State.ispW (s : State) (off : Nat) : Nat := ((regsGet s.isp.work off).getD (resetVal s.board off)).toNat

/-- A field of the context being processed. -/
def State.ispF (s : State) (f : Fld) : Nat := fieldN (s.ispW f.off) f.lo f.w

/-- Bytes of the parts of a slot, header first (R281): `ch` channels, window, scale, outputs. -/
def slotParts (ch w h ds out : Nat) : List Nat :=
  let pad := fun n => 64 * ceilDiv n 64
  [64, 1024, 512, if bitN out 0 then pad (2 * ch * w * h) else 0, if bitN out 1 then pad (w * h) else 0,
   if bitN out 2 then pad (ch * (w / ds) * (h / ds)) else 0]

/-- ISP_CTXc_SLOT from the context's settings and the formats of the ports that name it, or of a frame of the context that runs (R281). -/
def State.ispSlot (s : State) (c : Nat) (frame : Bool := false) : State :=
  let bayer := frame || (List.range 2).any (fun p =>
    s.bit (F.PP_CTL_EN p) && s.fld (F.PP_CTL_CTX p) == c && ppBayer (s.fld (F.PP_CTL_FMT p)))
  let parts := slotParts (if bayer then 3 else 1) (s.fld (F.ISP_CTX_CROP1_W c)) (s.fld (F.ISP_CTX_CROP1_H c))
    (2 ^ s.fld (F.ISP_CTX_CTL_DS c)) (s.fld (F.ISP_CTX_CTL_OUT_EN c))
  s.putN (R.ISP_CTX_SLOT c) (parts.sum / 64)

/-- TOP_READY.ISP (R282). -/
def State.ispReady (s : State) : State :=
  s.setReady 11 (s.bit F.ISP_CTL_EN && (List.range 2).any (fun p => s.has .pport p && s.bit (F.PP_CTL_EN p)))

/-- Slots of a context. -/
def State.nslot (s : State) (c : Nat) : Nat := s.fld (F.ISP_CTX_CTL_NSLOT c) + 1

/-- Slots between RD and WR (R281). -/
def ringCount (wr rd n : Nat) : Nat := (wr + 2 * n - rd % (2 * n)) % (2 * n)

/-- A crop window the ISP accepts for context `c` (R279). -/
def State.cropOk (s : State) (c x0 y0 w h ds : Nat) : Bool :=
  let ports := (List.range 2).filter (fun p => s.has .pport p && s.bit (F.PP_CTL_EN p) && s.fld (F.PP_CTL_CTX p) == c)
  let fits := fun pw ph => x0 + w ≤ pw && y0 + h ≤ ph
  16 ≤ w && 16 ≤ h && w % ds == 0 && h % ds == 0 &&
    (if ports.isEmpty then fits 8192 8192
     else ports.all (fun p => fits (s.fld (F.PP_GEOM_WIDTH p)) (s.fld (F.PP_GEOM_HEIGHT p))))

/-- WR and RD of context `c` go to 0 at its next take-up (R281). -/
def State.ispAgain (s : State) (c : Nat) : State := { s with isp := { s.isp with again := vput s.isp.again c true } }

/-- A write of ISP_CTXc_CROP0 or CROP1 (R279). -/
def State.ispCrop (s : State) (c : Nat) (second : Bool) (val : Word) : State :=
  let v := val.toNat % 2 ^ 29
  let s' := s.put (if second then R.ISP_CTX_CROP1 c else R.ISP_CTX_CROP0 c) (val &&& 0x1FFF1FFF)
  let a := if second then s.rdN (R.ISP_CTX_CROP0 c) else v
  let b := if second then v else s.rdN (R.ISP_CTX_CROP1 c)
  if s.cropOk c (fieldN a 0 13) (fieldN a 16 13) (fieldN b 0 13) (fieldN b 16 13) (2 ^ s.fld (F.ISP_CTX_CTL_DS c)) then
    ((s'.ispAgain c).ispSlot c).status 0
  else s.status 0x40

/-- ISP_CROP_WRITE (R279). -/
def execIspCropWrite (c : Fin 4) (second : Bool) (val : Word) (s : State) : Host.Outcome State Fault Refusal :=
  done s ((s.wakeBlock 0x15).ispCrop c second val)

/-! ### Take-up and processing -/

/-- ISP_FRAME_TAKEUP (R276, R277, R281): the next frame in notice order, with its context copied. -/
def execIspFrameTakeup (s : State) : Host.Outcome State Fault Refusal :=
  if !s.bit F.ISP_CTL_EN || s.bit F.ISP_STAT_BUSY then done s s
  else match s.isp.frames with
  | [] => done s s
  | fr :: _ =>
    let c := fr.ctx
    let s' := if vget s.isp.again c false then (s.setFld (F.ISP_CTX_WR_SLOT c) 0).setFld (F.ISP_CTX_RD_SLOT c) 0 else s
    let s' := s'.ispSlot c (ppBayer fr.fmt)
    let full := ringCount (s'.fld (F.ISP_CTX_WR_SLOT c)) (s'.fld (F.ISP_CTX_RD_SLOT c)) (s'.nslot c) == s'.nslot c
    let s' := { s' with isp := { s'.isp with work := s'.regs.filter (fun e => inCtx c e.1), skip := full, slot := s'.rdN (R.ISP_CTX_SLOT c),
                                             again := vput s'.isp.again c false } }
    let s' := if full then s'.flag F.ISP_STAT_OUT_SKIP else s'
    done s ((s'.flag F.ISP_STAT_BUSY).setFld F.ISP_STAT_PORT fr.port)

/-- Mirror a coordinate into 0 to n − 1 (R278). -/
def mirror (n : Nat) (x : Int) : Nat :=
  let m := if x < 0 then -x else if (n : Int) ≤ x then 2 * (n : Int) - 2 - x else x
  clampN m (n - 1)

/-- Colour of frame pixel (x, y): 0 R, 1 G, 2 B (R278). -/
def cfaAt (cfa x y : Nat) : Nat :=
  let k := (x % 2 + 2 * (y % 2)) ^^^ cfa
  if k = 0 then 0 else if k = 3 then 2 else 1

/-- The step-5 value of a pixel of a frame (R278): three channels for Bayer, one for mono. `v` is the step-2 value at a
coordinate. -/
def State.ispPixel (s : State) (fr : PpFrame) (v : Nat → Nat → Nat) (x y : Nat) : List Nat :=
  let c := fr.ctx
  let gain := fun ch => if ch = 0 then s.ispF (F.ISP_CTX_WB0_WB_R c) else if ch = 1 then s.ispF (F.ISP_CTX_WB0_WB_G c)
    else s.ispF (F.ISP_CTX_WB1_WB_B c)
  let bal := fun ch u => min ((u * gain ch + 8192) / 2 ^ 14) 65535
  if !ppBayer fr.fmt then [bal 1 (v x y)]
  else
    let cfa := s.ispF (F.ISP_CTX_CTL_CFA c)
    let chan := fun ch =>
      if cfaAt cfa x y = ch then v x y
      else
        let near := (List.range 9).filterMap (fun k =>
          let mx := mirror fr.w ((x : Int) + (k % 3 : Nat) - 1)
          let my := mirror fr.lines ((y : Int) + (k / 3 : Nat) - 1)
          if cfaAt cfa mx my = ch then some (v mx my) else none)
        (near.sum + near.length / 2) / near.length
    let p := (List.range 3).map (fun ch => bal ch (chan ch))
    let coef := fun k => toSigned 16 (fieldN (s.ispW (R.ISP_CTX_CM0 c + 4 * (k / 2))) (16 * (k % 2)) 16)
    (List.range 3).map (fun i =>
      clampN (asr (((List.range 3).map (fun d => coef (3 * i + d) * (p.getD d 0 : Nat))).sum + 8192) 14) 65535)

/-- Luma of a step-5 value (R279). -/
def ispLuma : List Nat → Nat
  | [v] => v
  | p => (77 * p.getD 0 0 + 150 * p.getD 1 0 + 29 * p.getD 2 0 + 128) / 256

/-- LUT(v) of the context (R279). -/
def State.ispLut (s : State) (c v : Nat) : Nat :=
  if s.ispF (F.ISP_CTX_CTL_GAMMA_EN c) = 0 then v
  else
    let t := fun i => s.ispW (R.ISP_LUT c i) % 65536
    (t (v / 256) * (256 - v % 256) + t (v / 256 + 1) * (v % 256) + 128) / 256

/-- Flags of the slot header (R282). -/
def frameFlags (fr : PpFrame) (skip clip : Bool) : Nat :=
  b2n fr.short + 2 * b2n fr.long + 4 * b2n fr.lerr + 8 * b2n fr.short + 16 * b2n skip + 32 * b2n fr.ovf + 64 * b2n clip

/-- Bytes 0 to 31 of the slot header (R282). -/
def frameHdr (fr : PpFrame) (flags w h ds slot : Nat) : List Byte :=
  let b := leBytes 1 fr.port ++ leBytes 1 fr.ctx ++ leBytes 2 flags ++ leBytes 4 fr.seq ++ leBytes 4 fr.ts ++ leBytes 4 fr.pos ++
    leBytes 2 fr.lines ++ leBytes 2 w ++ leBytes 2 h ++ leBytes 1 ds ++ zeros 1 ++ leBytes 4 slot
  b ++ leBytes 4 (crc32c b)

/-- A window's W′ and H′ (R279): one that leaves the frame is cut to it, and both are rounded down to whole cells. -/
def clipTo (x0 y0 w h fw fh ds : Nat) : Nat × Nat :=
  if x0 + w ≤ fw ∧ y0 + h ≤ fh then (w, h) else (min w (fw - x0) / ds * ds, min h (fh - y0) / ds * ds)

/-- The parts of a slot with their byte offsets (R279 to R281); rows that need a line not received are not written. -/
def State.ispOutputs (s : State) (fr : PpFrame) (w h : Nat) : List (Nat × List Byte) :=
  let c := fr.ctx
  let x0 := s.ispF (F.ISP_CTX_CROP0_X0 c)
  let y0 := s.ispF (F.ISP_CTX_CROP0_Y0 c)
  let ds := 2 ^ s.ispF (F.ISP_CTX_CTL_DS c)
  let out := s.ispF (F.ISP_CTX_CTL_OUT_EN c)
  let ch := if ppBayer fr.fmt then 3 else 1
  let bpp := ppBytes fr.fmt
  let raw := s.memReadFree (s.ppBuf fr.port fr.buf) (fr.w * fr.lines * bpp)
  let blk := s.ispF (F.ISP_CTX_BLK_BLK c)
  let v := fun x y => clampN ((leVal (slice raw ((y * fr.w + x) * bpp) bpp) * 2 ^ (16 - ppDepth fr.fmt) : Nat) - (blk : Int)) 65535
  let rows := min h (fr.lines - y0)
  let px := (List.range rows).map (fun y => (List.range w).map (fun x => s.ispPixel fr v (x0 + x) (y0 + y)))
  let all := px.flatten
  let parts := slotParts ch w h ds out
  let ofs := fun k => (parts.take k).sum
  -- R280
  let src := s.ispF (F.ISP_CTX_CTL_HIST_SRC c)
  let pick := fun p => if ch = 1 ∨ src = 0 then ispLuma p else p.getD (src - 1) 0
  let bins := all.map (fun p => pick p / 256)
  let hist := (List.range 256).flatMap (fun k => leBytes 4 (bins.filter (· == k)).length)
  let zone := (List.range 256).flatMap (fun k =>
    let i := k % 16
    let j := k / 16
    let xs := fun (l : List (List Nat)) => slice l (i * w / 16) ((i + 1) * w / 16 - i * w / 16)
    let ys := slice px (j * h / 16) ((j + 1) * h / 16 - j * h / 16)
    let lum := (ys.flatMap xs).map ispLuma
    leBytes 2 (if lum.isEmpty then 0 else (lum.sum + lum.length / 2) / lum.length))
  let mv := all.flatMap (fun p => p.flatMap (leBytes 2))
  let code := all.flatMap (fun p => leBytes 1 (s.ispLut c (ispLuma p) / 256))
  let disp := (List.range (rows / ds)).flatMap (fun y => (List.range (w / ds)).flatMap (fun x =>
    let cell := (slice px (y * ds) ds).flatMap (fun r => slice r (x * ds) ds)
    (List.range ch).flatMap (fun k =>
      leBytes 1 (s.ispLut c (((cell.map (fun p => p.getD k 0)).sum + ds * ds / 2) / (ds * ds)) / 256))))
  [(ofs 1, hist), (ofs 2, zone)] ++ (if bitN out 0 then [(ofs 3, mv)] else []) ++ (if bitN out 1 then [(ofs 4, code)] else []) ++
    (if bitN out 2 then [(ofs 5, disp)] else [])

/-- ISP_FRAME_DONE (R276, R279 to R282): the outputs and the header are written, the buffer is free, the notice is posted. -/
def execIspFrameDone (s : State) : Host.Outcome State Fault Refusal :=
  match s.isp.frames with
  | [] => done s s
  | fr :: rest =>
    if !s.bit F.ISP_STAT_BUSY || !fr.ended then done s s
    else
      let c := fr.ctx
      let ds := 2 ^ s.ispF (F.ISP_CTX_CTL_DS c)
      let w0 := s.ispF (F.ISP_CTX_CROP1_W c)
      let h0 := s.ispF (F.ISP_CTX_CROP1_H c)
      let e := clipTo (s.ispF (F.ISP_CTX_CROP0_X0 c)) (s.ispF (F.ISP_CTX_CROP0_Y0 c)) w0 h0 fr.w fr.h ds
      let w := e.1
      let h := e.2
      let tiny := w < 16 || h < 16
      let clip := w != w0 || h != h0 || tiny
      let skip := s.isp.skip || tiny
      let ns := s.ispF (F.ISP_CTX_CTL_NSLOT c) + 1
      let wr := s.fld (F.ISP_CTX_WR_SLOT c)
      let slot := if skip then 0xFFFFFFFF else wr % ns
      let hdr := frameHdr fr (frameFlags fr skip clip) w h ds slot
      let base := 64 * s.ispW (R.ISP_CTX_OUTB c) + wr % ns * (64 * s.isp.slot)
      let rd := s.ddrRead (s.ppBuf fr.port fr.buf) (fr.w * fr.lines * ppBytes fr.fmt)
      let s' :=
        if skip then s
        else
          let put := fun (st : State) (p : Nat × List Byte) =>
            if st.inDdr (base + p.1) p.2.length then st.memStore (base + p.1) p.2 else st
          ((s.ispOutputs fr w h).foldl put (put rd (0, hdr ++ zeros 32))).setFld (F.ISP_CTX_WR_SLOT c) ((wr + 1) % (2 * ns))
      let s' := if clip then s'.flag F.ISP_STAT_CROP_CLIP else s'
      let s' := ((s'.setFld F.ISP_STAT_BUSY 0).setFld (heldFld fr.port fr.buf) 0)
      let s' := { s' with isp := { s'.isp with frames := rest, work := [], skip := false },
                          freeCtr := s'.freeCtr + fr.w * fr.lines * ppBytes fr.fmt }
      done s (s'.postOrDrop (s.fld F.ISP_CTL_QID) (.pkt { opc := 0x8060, data := hdr }))

end Sys2Proof.Machine
end

