-- ==== Sys2Proof/Machine/Dmc.lean ====
section
/-!
DEFINITION. DMC: the DDR-4 memory controller's ports, requests, refresh and bring-up (R317 to R333).
-/
namespace Sys2Proof.Machine

/-! ### Real-time ports (R324) -/

/-- A port's level, its class, and the count of entries into PANIC2 (R324). -/
def State.rtLevel (s : State) (p level : Nat) : State :=
  let p1 := s.fld (F.DMC_RT_CFG_PANIC1 p)
  let p2 := s.fld (F.DMC_RT_CFG_PANIC2 p)
  let cls := if p1 = 0 ∧ p2 = 0 then 0 else if p2 ≤ level then 2 else if p1 ≤ level then 1 else 0
  let s' := (s.setFld (F.DMC_RT_STAT_LEVEL p) level).setFld (F.DMC_RT_STAT_CLASS p) cls
  if cls = 2 ∧ s.fld (F.DMC_RT_STAT_CLASS p) ≠ 2 then s'.incWrap (F.DMC_RT_STAT_P2_CNT p) else s'

/-- Some port is at PANIC2 (R324). -/
def State.panic2 (s : State) : Bool := (List.range 32).any (fun p => s.fld (F.DMC_RT_STAT_CLASS p) == 2)

/-- The owner's buffer in 64-byte units (R324). -/
def ownerBuf (o : Nat) : Nat := if o = 1 ∨ o = 2 then 1024 else if o = 3 then 2048 else 512

/-- The level a port starts with: a read port's whole buffer is not yet filled, a write port's is empty (R324). -/
def rtStart (o : Nat) : Nat := if o = 2 ∨ o = 3 then ownerBuf o else 0

/-! ### Commands -/

/-- An access to DRAM opens and closes rows (R320) and wakes its rank (R330). -/
def State.ddrAccess (s : State) (c ca : Nat) (openRow : Bool) : State :=
  let b := s.ddrBank c ca
  let row := s.ddrPhys c ca / 8192
  s.modDmc c (fun d =>
    let rows := d.rows.filter (fun e => e.1 != b)
    { d with rows := if openRow then (b, row) :: rows else rows, down := d.down.filter (· != b / 16) })

/-- A write to DRAM; during a rank copy it goes to both ranks (R329). -/
def State.ddrWrite (s : State) (c ca : Nat) (openRow : Bool) : State :=
  let s := s.ddrAccess c ca openRow
  if s.fld (F.DMC_CH_STAT_STATE c) ≠ 3 then s
  else
    let b := s.ddrBank c ca + 16
    let row := s.ddrPhys c ca / 8192
    s.modDmc c (fun d =>
      let rows := d.rows.filter (fun e => e.1 != b)
      { d with rows := if openRow then (b, row) :: rows else rows, down := d.down.filter (· != b / 16) })

/-- The page hint of a request: true is OPEN (R320). -/
def State.hintOpen (s : State) : DdrWho → Bool
  | .port p _ => s.fld (F.DMC_RT_CFG_OWNER p) != 4
  | .print _ => false
  | .spill => false
  | .dma n => !s.bit (F.DM_CFG_HINT n)
  | .other o => o

/-- The class of a request (R323). -/
def State.reqClass (s : State) : DdrWho → Nat
  | .port p _ => s.fld (F.DMC_RT_STAT_CLASS p)
  | .print n => if (s.prtS n).prefetch.length < 2 then 2 else 1
  | .spill => 0
  | .dma _ => 0
  | .other _ => 0

/-- Does a request find its row open (R323)? -/
def State.rowHit (s : State) (c ca : Nat) : Bool := (s.dmcS c).rows.contains (s.ddrBank c ca, s.ddrPhys c ca / 8192)

/-- The requests of a channel that may be granted, with their places: not to a row being copied (R327), and none before an older one to its own
line (R322). -/
def State.mayGrant (s : State) (c : Nat) : List (DdrReq × Nat) :=
  let d := s.dmcS c
  d.waiting.zipIdx.filter (fun e =>
    !d.copies.any (fun x => x.1 == e.1.ca / 8192) && !(d.waiting.take e.2).any (fun r => r.ca == e.1.ca))

/-- The request granted next (R15, R323): one that has seen 64 grants, else by class, row hits first, then age. -/
def State.nextGrant (s : State) (c : Nat) : Option (DdrReq × Nat) :=
  let l := s.mayGrant c
  let key := fun (r : DdrReq) => 2 * s.reqClass r.who + b2n (s.rowHit c r.ca)
  match l.find? (fun e => 64 ≤ e.1.seen) with
  | some e => some e
  | none => l.foldl (fun (b : Option (DdrReq × Nat)) e => match b with
    | some x => if key x.1 < key e.1 then some e else b
    | none => some e) none

/-- A line is read for a request: forwarded from the write queue, or from DRAM (R320, R322, R325). -/
def State.reqRead (s : State) (c : Nat) (r : DdrReq) : State :=
  if (s.dmcS c).wq.any (fun e => e.1 == r.ca) then s.incWrap (F.DMC_CH_USE_FWD_CNT c)
  else (s.ddrAccess c r.ca (s.hintOpen r.who)).eccRead c r.ca r.addr r.err r.syn (s.bit (F.DMC_CH_CTL_DEMAND_WB c)) (s.hintOpen r.who)

/-- A granted request is served: one unit leaves its port's level, a read is made, a write enters the write queue (R318, R321, R322, R324). -/
def State.serve (s : State) (c : Nat) (r : DdrReq) : State :=
  if !s.inDdr r.addr 64 then s
  else
    let open_ := s.hintOpen r.who
    let s := match r.who with
      | .port p _ => s.rtLevel p (s.fld (F.DMC_RT_STAT_LEVEL p) - 1)
      | .print _ | .spill | .dma _ | .other _ => s
    match r.wr with
    | none => s.reqRead c r
    | some (ofs, bs) =>
      let s := if bs.length = 64 then s else s.reqRead c r
      (s.memWrite (r.addr + ofs) bs).modDmc c (fun d => { d with wq := (r.ca, open_) :: d.wq })

/-- One grant of a channel; the others have seen one more (R15). -/
def State.grant (s : State) (c : Nat) : State :=
  match s.nextGrant c with
  | none => s
  | some (r, i) =>
    (s.modDmc c (fun d => { d with waiting := (d.waiting.eraseIdx i).map (fun x => { x with seen := x.seen + 1 }) })).serve c r

/-- DDR_REQUEST (R318 to R324): a request for one aligned 64-byte line enters its channel, a read, or a write of the line in full or in part; its
port's level grows. One that leaves installed DDR-4 completes with POISON and is not executed. -/
def execDdrRequest (a : BitVec 38) (wr : Option (List Byte)) (ofs : Fin 64) (who : DdrWho) (err : Fin 3) (syn : BitVec 8) (s : State) :
    Host.Outcome State Fault Refusal :=
  let line := a.toNat / 64 * 64
  let s' := match who with
    | .port p moved =>
      let o := s.fld (F.DMC_RT_CFG_OWNER p)
      if o = 0 then s else s.rtLevel p (min (ownerBuf o) (s.fld (F.DMC_RT_STAT_LEVEL p) + moved.toNat))
    | .print _ | .spill | .dma _ | .other _ => s
  if !s.inDdr line 64 then done s s'
  else
    let l := ddrLoc s.nch line
    let r : DdrReq := { ca := l.2, addr := line, wr := wr.map (fun bs => (ofs.val, bs.take (64 - ofs.val))), who := who, err := err.val,
                        syn := syn.toNat, seen := 0 }
    done s (s'.modDmc l.1 (fun d => { d with waiting := d.waiting ++ [r] }))

/-- The oldest line of a channel's write queue goes to DRAM (R320, R322). -/
def State.drainLine (s : State) (c : Nat) : State :=
  match (s.dmcS c).wq.getLast? with
  | none => s
  | some e => (s.ddrWrite c e.1 e.2).modDmc c (fun d => { d with wq := d.wq.dropLast })

/-- In each clock period with no command waiting, every channel grants a request, or, with none to grant, writes a line to DRAM (assumption 94). -/
def State.dmcDrain (s : State) : State :=
  (List.range 8).foldl (fun s c => if (s.nextGrant c).isSome then s.grant c else s.drainLine c) s

/-- ROW_COPY_DONE (R327): the remap table switches; not while a port is at PANIC2, which suspends the copy (R324). -/
def execRowCopyDone (c : Fin 8) (s : State) : Host.Outcome State Fault Refusal :=
  match (s.dmcS c.val).copies with
  | [] => done s s
  | row :: rest =>
    if s.panic2 || s.selfRefresh then done s s
    else done s (s.modDmc c.val (fun d => { d with copies := rest, remap := d.remap ++ [row] }))

/-- RANK_COPY_DONE (R329): rank 1 serves alone from now on. -/
def execRankCopyDone (c : Fin 8) (s : State) : Host.Outcome State Fault Refusal :=
  let n := c.val
  if s.fld (F.DMC_CH_STAT_STATE n) ≠ 3 ∨ s.panic2 ∨ s.selfRefresh then done s s
  else done s ((((s.setFld (F.DMC_CH_STAT_STATE n) 2).flag (F.DMC_CH_STAT_RANK_RET n)).modDmc n
    (fun d => { d with rows := [], rank1 := true })).ddrFault n 5 0)

/-- A write of DMC_CFG (R318): DONE = 1 checks that the channels in use match and fixes the installed size. -/
def State.dmcCfgWrite (s : State) (val : Word) : State :=
  let n8 := bitN val.toNat 0
  let s' := s.put R.DMC_CFG (val &&& 3)
  let n := if n8 then 8 else 4
  if s.bit F.DMC_CFG_DONE || (n8 && s.board.variant == .w0648) then s.status 0x40
  else if !bitN val.toNat 1 then s'.status 0
  else if !(List.range n).all (fun c => s.rd (R.DMC_CH_CFG c) == s.rd (R.DMC_CH_CFG 0)) then s.status 0x40
  else
    let spare := (List.range n).foldl (fun m c => max m (s.spareMib c)) 0
    ((s'.setFld F.DMC_INSTALLED_MIB (n * (s.chanMib 0 - spare))).dmcValid).status 0

/-- DMC_CONFIG_DONE (R318). -/
def execDmcConfigDone (nch8 : Bool) (s : State) : Host.Outcome State Fault Refusal :=
  done s (s.dmcCfgWrite (if nch8 then 3 else 2))

/-- Every timing field of a channel is set (R331). -/
def State.timingsSet (s : State) (c : Nat) : Bool :=
  [F.DMC_CH_TIM0_tCL c, F.DMC_CH_TIM0_tCWL c, F.DMC_CH_TIM0_tRCD c, F.DMC_CH_TIM0_tRP c, F.DMC_CH_TIM0_tRAS c,
   F.DMC_CH_TIM1_tRFC c, F.DMC_CH_TIM1_tFAW c, F.DMC_CH_TIM1_tRRD_S c, F.DMC_CH_TIM1_tRRD_L c, F.DMC_CH_TIM1_tWR c,
   F.DMC_CH_TIM2_tWTR_S c, F.DMC_CH_TIM2_tWTR_L c, F.DMC_CH_TIM2_tCCD_L c, F.DMC_CH_TIM2_tRTP c].all (fun f => s.fld f != 0)

/-- What the controller sends when INIT is accepted (R331): the JEDEC reset and CKE sequence, the RDIMM control word where there is a register,
the mode registers in their order, ZQ calibration. -/
def State.initSeq (s : State) (c : Nat) : State :=
  let mr := [(3, F.DMC_CH_MR3_VALUE c), (6, F.DMC_CH_MR6_VALUE c), (5, F.DMC_CH_MR5_VALUE c), (4, F.DMC_CH_MR4_VALUE c),
    (2, F.DMC_CH_MR2_VALUE c), (1, F.DMC_CH_MR1_VALUE c), (0, F.DMC_CH_MR0_VALUE c)]
  let s := s.emit (.ddrReset c)
  let s := if s.bit (F.DMC_CH_CFG_RDIMM c) then s.emit (.ddrRcw c (s.fld (F.DMC_CH_MR6_RCW c))) else s
  (mr.foldl (fun s e => s.emit (.ddrMode c e.1 (s.fld e.2))) s).emit (.ddrZq c)

/-- A write of DMC_CHc_CTL: INIT (R331), DLY_APPLY (R332), and the settings. -/
def State.dmcCtl (s : State) (c : Nat) (val : Word) : State :=
  let init := bitN val.toNat 0
  if init && (!s.timingsSet c || s.chanServes c) then s.status 0x40
  else
    let s := s.put (R.DMC_CH_CTL c) (val &&& 0xFFFFFC)
    let s := if init then ((s.setFld (F.DMC_CH_STAT_STATE c) 1).dmcValid).initSeq c else s
    let s :=
      if bitN val.toNat 1 then
        (s.flag (F.DMC_CH_STAT_DLY_PEND c)).modDmc c (fun d =>
          { d with take := if s.bit (F.DMC_CH_CFG_RANKS2 c) then [0, 1] else [0] })
      else s
    s.status 0

/-- DMC_INIT (R331): a write of DMC_CHc_CTL with INIT = 1. -/
def execDmcInit (c : Fin 8) (val : Word) (s : State) : Host.Outcome State Fault Refusal :=
  if s.has .ddr c.val then done s (s.dmcCtl c.val (val ||| 1)) else done s s

/-- DLY_APPLY (R332): a write of DMC_CHc_CTL with DLY_APPLY = 1. -/
def execDlyApply (c : Fin 8) (val : Word) (s : State) : Host.Outcome State Fault Refusal :=
  if s.has .ddr c.val then done s (s.dmcCtl c.val (val ||| 2)) else done s s

/-- The delay window of a channel for one rank, where not 0 (R332, R333). -/
def State.dlyWindow (s : State) (c rank : Nat) : List (Nat × Word) :=
  (List.range 37).filterMap (fun j =>
    let k := if j < 36 then 64 * rank + j else 128 + rank
    let w := s.rd (R.DMC_DLY c k)
    if w = 0 then none else some (k, w))

/-- Does a delay word belong to a rank? -/
def dlyOf (rank k : Nat) : Bool := (64 * rank ≤ k && k < 64 * rank + 36) || k == 128 + rank

/-- A rank takes the delays of the window. -/
def State.takeDly (s : State) (c rank : Nat) : State :=
  s.modDmc c (fun d => { d with dly := d.dly.filter (fun e => !dlyOf rank e.1) ++ s.dlyWindow c rank,
                                take := d.take.filter (· != rank) })

/-- DMC_INIT_DONE (R331): the delays are applied, the check lines of each rank are cleared, and the channel serves, or it has failed. -/
def execDmcInitDone (c : Fin 8) (ok : Bool) (s : State) : Host.Outcome State Fault Refusal :=
  let n := c.val
  if s.fld (F.DMC_CH_STAT_STATE n) ≠ 1 then done s s
  else
    let s' := ((s.takeDly n 0).takeDly n 1).setFld (F.DMC_CH_STAT_DLY_PEND n) 0
    let s' := s'.modDmc n (fun d => { d with wq := [], rows := [], down := [], post := [] })
    let clear := fun (s : State) (ca : Nat) => s.memPut (ddrAddr s.nch n ca) (zeros 64)
    let ranks := if s.twoRanks n then [0, 1] else [0]
    let s' := ranks.foldl (fun s r => (List.range 64).foldl (fun s i => clear s (r * 2 ^ 17 + 64 * i)) s) s'
    if ok then done s (((s'.setFld (F.DMC_CH_STAT_STATE n) 2).dmcValid).setReady (32 + 16 + n) true)
    else done s ((s'.setFld (F.DMC_CH_STAT_STATE n) 4).flag (F.DMC_CH_STAT_CHK_FAIL n))

/-- REFRESH (R330, R324, R332): all banks of the rank close and pending delays are taken; PANIC2 postpones up to 8 of them. -/
def execRefresh (c : Fin 8) (rank : Fin 2) (s : State) : Host.Outcome State Fault Refusal :=
  let n := c.val
  let d := s.dmcS n
  let r := rank.val
  let late := cntGet d.post r
  if !s.chanServes n || s.selfRefresh then done s s
  else if s.panic2 && late < 8 then done s (s.modDmc n (fun d => { d with post := cntInc d.post r }))
  else
    let s' := s.modDmc n (fun d => { d with rows := d.rows.filter (fun e => e.1 / 16 != r),
                                            post := if s.panic2 then d.post else d.post.filter (fun e => e.1 != r) })
    if d.take.contains r then
      let s' := s'.takeDly n r
      done s (if (s'.dmcS n).take.isEmpty then s'.setFld (F.DMC_CH_STAT_DLY_PEND n) 0 else s')
    else done s s'

/-- POWER_DOWN_ENTRY (R330): an idle rank closes its rows and enters precharge power-down. -/
def execPowerDownEntry (c : Fin 8) (rank : Fin 2) (s : State) : Host.Outcome State Fault Refusal :=
  let n := c.val
  if !s.chanServes n || s.selfRefresh || s.fld (F.DMC_CH_CTL_PD_TIMER n) = 0 then done s s
  else done s (s.modDmc n (fun d => { d with rows := d.rows.filter (fun e => e.1 / 16 != rank.val),
                                             down := rank.val :: d.down.filter (· != rank.val) }))

/-- OPEN_PAGE_IDLE_CLOSE (R320). -/
def execOpenPageIdleClose (c : Fin 8) (bank : Fin 32) (s : State) : Host.Outcome State Fault Refusal :=
  done s (s.modDmc c.val (fun d => { d with rows := d.rows.filter (fun e => e.1 != bank.val) }))

/-- PATROL_SCRUB (R322, R326): the next line is read and written back corrected; at the end of a pass its counts start again. -/
def execPatrolScrub (c : Fin 8) (err : Fin 3) (syn : BitVec 8) (s : State) : Host.Outcome State Fault Refusal :=
  let n := c.val
  if !s.chanServes n || s.selfRefresh || s.fld (F.DMC_CH_SCRUB_HOURS n) = 0 || s.panic2 then done s s
  else
    let ca := 64 * (s.dmcS n).scrub
    let r := s.ddrRow n ca
    let s' := s.setFld (F.DMC_CH_SCRUB_POS n) (r.2 % 2 ^ 23 + 2 ^ 23 * r.1)
    let s' :=
      if (s.dmcS n).wq.any (fun e => e.1 == ca) then s'.incWrap (F.DMC_CH_USE_FWD_CNT n)
      else (s'.ddrAccess n ca false).eccRead n ca (ddrAddr s.nch n ca) err.val syn.toNat true false
    let next := (s.dmcS n).scrub + 1
    done s (s'.modDmc n (fun d =>
      if s.chanMib n * 2 ^ 14 ≤ next then { d with scrub := 0, ce := [], ue := [], ret := [] } else { d with scrub := next }))

end Sys2Proof.Machine
end

