-- ==== Sys2Proof/Machine/Sha.lean ====
section
/-!
DEFINITION. What the loader computes over a signed bit-stream (R45): the SHA-384 digest (FIPS 180-4) and the verification of an
ECDSA P-384 signature (FIPS 186-4); R45 names both and the standards give them (assumption 8).
-/
namespace Sys2Proof.Machine

/-! ### SHA-384 -/

/-- The 80 constants of SHA-384. -/
def shaK : List (BitVec 64) :=
  [0x428A2F98D728AE22, 0x7137449123EF65CD, 0xB5C0FBCFEC4D3B2F, 0xE9B5DBA58189DBBC,
   0x3956C25BF348B538, 0x59F111F1B605D019, 0x923F82A4AF194F9B, 0xAB1C5ED5DA6D8118,
   0xD807AA98A3030242, 0x12835B0145706FBE, 0x243185BE4EE4B28C, 0x550C7DC3D5FFB4E2,
   0x72BE5D74F27B896F, 0x80DEB1FE3B1696B1, 0x9BDC06A725C71235, 0xC19BF174CF692694,
   0xE49B69C19EF14AD2, 0xEFBE4786384F25E3, 0x0FC19DC68B8CD5B5, 0x240CA1CC77AC9C65,
   0x2DE92C6F592B0275, 0x4A7484AA6EA6E483, 0x5CB0A9DCBD41FBD4, 0x76F988DA831153B5,
   0x983E5152EE66DFAB, 0xA831C66D2DB43210, 0xB00327C898FB213F, 0xBF597FC7BEEF0EE4,
   0xC6E00BF33DA88FC2, 0xD5A79147930AA725, 0x06CA6351E003826F, 0x142929670A0E6E70,
   0x27B70A8546D22FFC, 0x2E1B21385C26C926, 0x4D2C6DFC5AC42AED, 0x53380D139D95B3DF,
   0x650A73548BAF63DE, 0x766A0ABB3C77B2A8, 0x81C2C92E47EDAEE6, 0x92722C851482353B] ++
  [0xA2BFE8A14CF10364, 0xA81A664BBC423001, 0xC24B8B70D0F89791, 0xC76C51A30654BE30,
   0xD192E819D6EF5218, 0xD69906245565A910, 0xF40E35855771202A, 0x106AA07032BBD1B8,
   0x19A4C116B8D2D0C8, 0x1E376C085141AB53, 0x2748774CDF8EEB99, 0x34B0BCB5E19B48A8,
   0x391C0CB3C5C95A63, 0x4ED8AA4AE3418ACB, 0x5B9CCA4F7763E373, 0x682E6FF3D6B2B8A3,
   0x748F82EE5DEFB2FC, 0x78A5636F43172F60, 0x84C87814A1F0AB72, 0x8CC702081A6439EC,
   0x90BEFFFA23631E28, 0xA4506CEBDE82BDE9, 0xBEF9A3F7B2C67915, 0xC67178F2E372532B,
   0xCA273ECEEA26619C, 0xD186B8C721C0C207, 0xEADA7DD6CDE0EB1E, 0xF57D4F7FEE6ED178,
   0x06F067AA72176FBA, 0x0A637DC5A2C898A6, 0x113F9804BEF90DAE, 0x1B710B35131C471B,
   0x28DB77F523047D84, 0x32CAAB7B40C72493, 0x3C9EBE0A15C9BEBC, 0x431D67C49C100D4C,
   0x4CC5D4BECB3E42B6, 0x597F299CFC657E2A, 0x5FCB6FAB3AD6FAEC, 0x6C44198C4A475817]

/-- The start value of SHA-384. -/
def shaInit : List (BitVec 64) :=
  [0xCBBB9D5DC1059ED8, 0x629A292A367CD507, 0x9159015A3070DD17, 0x152FECD8F70E5939,
   0x67332667FFC00B31, 0x8EB44A8768581511, 0xDB0C2E0D64F98FA7, 0x47B5481DBEFA4FA4]

/-- Big-endian 64-bit words of a block. -/
def shaWords : Nat → List Byte → List (BitVec 64)
  | 0, _ => []
  | k + 1, bs => BitVec.ofNat 64 (beVal (bs.take 8)) :: shaWords k (bs.drop 8)

/-- The message schedule, newest word first: `k` more words. -/
def shaSchedule : Nat → List (BitVec 64) → List (BitVec 64)
  | 0, ws => ws
  | k + 1, ws =>
    let a := ws.getD 14 0
    let b := ws.getD 1 0
    let s0 := a.rotateRight 1 ^^^ a.rotateRight 8 ^^^ (a >>> 7)
    let s1 := b.rotateRight 19 ^^^ b.rotateRight 61 ^^^ (b >>> 6)
    shaSchedule k ((ws.getD 15 0 + s0 + ws.getD 6 0 + s1) :: ws)

/-- One round on the eight working words. -/
def shaRound (v : List (BitVec 64)) (kw : BitVec 64 × BitVec 64) : List (BitVec 64) :=
  match v with
  | [a, b, c, d, e, f, g, h] =>
    let t1 := h + (e.rotateRight 14 ^^^ e.rotateRight 18 ^^^ e.rotateRight 41) + ((e &&& f) ^^^ (~~~e &&& g)) + kw.1 + kw.2
    let t2 := (a.rotateRight 28 ^^^ a.rotateRight 34 ^^^ a.rotateRight 39) + ((a &&& b) ^^^ (a &&& c) ^^^ (b &&& c))
    [t1 + t2, a, b, c, d + t1, e, f, g]
  | _ => v

/-- One block of 128 bytes. -/
def shaBlock (hs : List (BitVec 64)) (block : List Byte) : List (BitVec 64) :=
  let ws := (shaSchedule 64 (shaWords 16 block).reverse).reverse
  List.zipWith (· + ·) hs ((shaK.zip ws).foldl shaRound hs)

/-- Blocks one after the other; `k` of them. -/
def shaBlocks : Nat → List (BitVec 64) → List Byte → List (BitVec 64)
  | 0, hs, _ => hs
  | k + 1, hs, bs => shaBlocks k (shaBlock hs (bs.take 128)) (bs.drop 128)

/-- The SHA-384 digest, as a big-endian number. -/
def sha384 (m : List Byte) : Nat :=
  let fill := (111 + 128 - m.length % 128) % 128
  let p := m ++ [0x80#8] ++ zeros fill ++ beBytes 16 (8 * m.length)
  ((shaBlocks (p.length / 128) shaInit p).take 6).foldl (fun a w => a * 2 ^ 64 + w.toNat) 0

/-! ### ECDSA P-384 -/

/-- The field of P-384. -/
def p384P : Nat := 2 ^ 384 - 2 ^ 128 - 2 ^ 96 + 2 ^ 32 - 1

/-- The order of P-384's base point. -/
def p384N : Nat := 0xFFFFFFFFFFFFFFFFFFFFFFFFFFFFFFFFFFFFFFFFFFFFFFFFC7634D81F4372DDF581A0DB248B0A77AECEC196ACCC52973

/-- The coefficient b of P-384. -/
def p384B : Nat := 0xB3312FA7E23EE7E4988E056BE3F82D19181D9C6EFE8141120314088F5013875AC656398D8A2ED19D2A85C8EDD3EC2AEF

/-- The base point of P-384. -/
def p384G : Nat × Nat :=
  (0xAA87CA22BE8B05378EB1C71EF320AD746E1D3B628BA79B9859F741E082542A385502F25DBF55296C3A545E3872760AB7,
   0x3617DE4A96262C6F5D9E98BF9292DC29F8F41DBD289A147CE9DA3113B5F0B8C00A60B1CE1D7E819D7A431D7C90EA0E5F)

/-- `x` to the power `e` modulo `m`; `k` bits of `e`. -/
def powMod (m : Nat) : Nat → Nat → Nat → Nat
  | 0, _, _ => 1
  | k + 1, x, e =>
    let h := powMod m k (x * x % m) (e / 2)
    if e % 2 = 1 then h * x % m else h

/-- The inverse modulo a prime. -/
def invMod (m x : Nat) : Nat := powMod m 384 (x % m) (m - 2)

/-- `a - b` in the field. -/
def subP (a b : Nat) : Nat := (a + p384P - b % p384P) % p384P

/-- A point of the curve; none is the point at infinity. -/
abbrev EcPoint := Option (Nat × Nat)

/-- The sum of two points. -/
def ecAdd (u v : EcPoint) : EcPoint :=
  match u, v with
  | none, v => v
  | u, none => u
  | some (x1, y1), some (x2, y2) =>
    if x1 = x2 ∧ (y1 + y2) % p384P = 0 then none
    else
      let l := if x1 = x2 then (3 * x1 * x1 + p384P - 3) * invMod p384P (2 * y1) % p384P
        else subP y2 y1 * invMod p384P (subP x2 x1) % p384P
      let x := subP (subP (l * l % p384P) x1) x2
      some (x, subP (l * subP x1 x % p384P) y1)

/-- A multiple of a point; `k` bits of the factor. -/
def ecMul : Nat → Nat → EcPoint → EcPoint
  | 0, _, _ => none
  | k + 1, e, u =>
    let h := ecMul k (e / 2) (ecAdd u u)
    if e % 2 = 1 then ecAdd h u else h

/-- The point an uncompressed key of 97 bytes names, where it lies on the curve. -/
def ecKey (key : List Byte) : EcPoint :=
  let x := beVal (slice key 1 48)
  let y := beVal (slice key 49 48)
  if key.head? = some 4 ∧ x < p384P ∧ y < p384P ∧ y * y % p384P = (x * x * x + (p384P - 3) * x + p384B) % p384P then some (x, y) else none

/-- Does a signature of a digest verify under a key? -/
def ecdsaOk (key : List Byte) (digest r s : Nat) : Bool :=
  match ecKey key with
  | none => false
  | some q =>
    if r = 0 ∨ p384N ≤ r ∨ s = 0 ∨ p384N ≤ s then false
    else
      let w := invMod p384N s
      match ecAdd (ecMul 384 (digest % p384N * w % p384N) (some p384G)) (ecMul 384 (r * w % p384N) (some q)) with
      | none => false
      | some pt => pt.1 % p384N == r

end Sys2Proof.Machine
end

