-- ==== Sys2Proof/Machine/Parse.lean ====
section
/-!
DEFINITION. The bytes of a bit-stream (R32 to R45, R185, R213, R221, R230, R251, R264), all little-endian (R7). Where the spec names a table's fields
and not their places, the places are the model's (assumption 9).
-/
namespace Sys2Proof.Machine

/-- The `n` bytes from byte `i` as a value (R7). -/
def leAt (bs : List Byte) (i n : Nat) : Nat := leVal (slice bs i n)

/-- Cut a byte string into entries of `k` bytes, at most `n` of them; the last one may be short. -/
def chop (k : Nat) : Nat → List Byte → List (List Byte)
  | 0, _ => []
  | n + 1, bs => if bs.isEmpty then [] else bs.take k :: chop k n (bs.drop k)

/-! ### STRUCT tables -/

/-- Slot records of a parameter block, at most `n` (R185). -/
def parseSlots : Nat → List Byte → List SlotRec
  | 0, _ => []
  | n + 1, bs =>
    if bs.length < 8 then []
    else
      let plen := leAt bs 6 2
      { opc := leAt bs 0 2, srcA := leAt bs 2 1, srcB := leAt bs 3 1, srcC := leAt bs 4 1, out := leAt bs 5 1, plen := plen,
        params := slice bs 8 plen } :: parseSlots n (bs.drop (8 + plen))

/-- A CHAIN entry (R37) with its parameter block in the STRUCT body. -/
def parseChain (body e : List Byte) : ChainE :=
  let n := leAt e 2 1
  let ofs := leAt e 20 4
  let len := leAt e 24 4
  { id := leAt e 0 2, nops := n, ops := (List.range 8).map (fun k => leAt e (4 + 2 * k) 2), parOfs := ofs, parLen := len,
    jobmask := leAt e 28 4, slots := if ofs + len ≤ body.length then parseSlots n (slice body ofs len) else [] }

/-- A VU_ASSIGN entry (R37). -/
def parseAssign (e : List Byte) : AssignE :=
  { vu := leAt e 0 2, chain := leAt e 2 2, start := leAt e 4 4, width := leAt e 8 4, overlap := leAt e 12 2, rsvd := leAt e 14 2 }

/-- A LINK entry (R38). -/
def parseLink (e : List Byte) : LinkE :=
  { src := leAt e 0 4, dst := leAt e 4 4, buf := leAt e 8 2, flow := leAt e 10 1, width := leAt e 11 1, place := leAt e 12 1 }

/-- An EVT entry (R39). -/
def parseEvt (e : List Byte) : EvtE :=
  { src0 := leAt e 0 4, src1 := leAt e 4 4, src2 := leAt e 8 4, gate := leAt e 12 1 % 16, gateEn := leAt e 13 1 % 2 == 1 }

/-- PIN_LANE, a camera (R40, assumption 9). -/
def parseCam (e : List Byte) : CamE :=
  { firstLane := leAt e 0 1, links := leAt e 1 1, rate := leAt e 2 1, fmt := leAt e 3 1, ppl := leAt e 4 4, maxHz := leAt e 8 4,
    fill := leAt e 12 2, row := leAt e 14 1, order := leAt e 15 1, stagger := leAt e 16 2, y0 := toSigned 16 (leAt e 18 2),
    x0 := leAt e 20 4, ref := leAt e 24 1 % 2 == 1 }

/-- PIN_LANE, an encoder, absolute, switch or area-camera input (R40, assumption 9). -/
def parseIn (e : List Byte) : InE := { en := leAt e 0 1 % 2 == 1, mode := leAt e 1 1, dirInv := leAt e 2 1 % 2 == 1 }

/-- PIN_LANE, a print port (R40, assumption 9). -/
def parsePrint (e : List Byte) : PrintE :=
  { en := leAt e 0 1 % 2 == 1, bpn := leAt e 1 1, noz := leAt e 2 2, maxHz := leAt e 4 4 }

/-- PIN_LANE, an Ethernet port (R40, R118, assumption 9). -/
def parseEth (e : List Byte) : EthE := { en := leAt e 0 1 % 2 == 1, g25 := leAt e 1 1 % 2 == 1, fec := leAt e 2 1 % 2 == 1 }

/-- PIN_LANE, a sigma-delta clock group (R40, R304, assumption 9). -/
def parseSdg (e : List Byte) : SdgE := { mode := leAt e 0 1, div := leAt e 1 1 }

/-- PIN_LANE, a two-wire port (R40, R379, assumption 9). -/
def parseTw (e : List Byte) : TwE := { en := leAt e 0 1 % 2 == 1, speed := leAt e 1 1, mc := leAt e 2 1 % 2 == 1 }

/-- A MEM entry (R40, assumption 9): banks of a region, or a DDR-4 real-time port. -/
def parseMem (e : List Byte) : MemE :=
  let k := leAt e 0 1
  if k = 1 then .banks (leAt e 1 1) (leAt e 4 2) (leAt e 6 2) (leAt e 2 1)
  else if k = 2 then .rtPort (leAt e 1 1) (leAt e 2 1) (64 * leAt e 8 4) (64 * leAt e 12 4) (leAt e 4 2) (leAt e 6 2)
  else .other

/-- A FALLBACK entry (R40, assumption 9). -/
def parseFall (e : List Byte) : FallE := { code := leAt e 0 1, partner := leAt e 1 1, rest := leAt e 2 14 }

/-! ### JOB tables -/

/-- A THRESH entry (R221). -/
def parseThresh (e : List Byte) : ThreshE := { cls := leAt e 0 1, dmode := leAt e 1 1, tol := leAt e 2 2, rsvd := leAt e 4 4 }

/-- A RULES entry (R230). -/
def parseRule (e : List Byte) : RuleE :=
  { areaMin := leAt e 0 4, areaMax := leAt e 4 4, yextMin := leAt e 8 4, yextMax := leAt e 12 4, xextMin := leAt e 16 4,
    xextMax := leAt e 20 4, peakMin := leAt e 24 2, meanMin := leAt e 26 2, elongMin := leAt e 28 2, elongMax := leAt e 30 2,
    clsAny := leAt e 32 2, rsvd := leAt e 34 2, rposMin := leAt e 36 4, rposMax := leAt e 40 4, pol := leAt e 44 1, out := leAt e 45 1,
    action := leAt e 46 1, rsvd2 := leAt e 47 1 }

/-- A MASTER entry (R213). -/
def parseMaster (e : List Byte) : MasterE :=
  { idx := leAt e 0 1, format := leAt e 1 1, rsvd := leAt e 2 2, base := leAt e 4 8, clen := leAt e 12 4, width := leAt e 16 4,
    height := leAt e 20 4, indexBase := leAt e 24 8, classBase := leAt e 32 8, x0 := leAt e 40 4, rsvd2 := leAt e 44 4 }

/-- A PRINT entry (R251). -/
def parsePrt (e : List Byte) : PrtE :=
  { port := leAt e 0 1, cu := leAt e 1 1, bpn := leAt e 2 1, wsel := leAt e 3 1, base := leAt e 4 8, stride := leAt e 12 4,
    lpr := leAt e 16 4, nrep := leAt e 20 2, flags := leAt e 22 1, rsvd := leAt e 23 1, orgOfs := leAt e 24 4, rsvd2 := leAt e 28 4 }

/-- A COMPARE entry (R43, assumption 9). -/
def parseCmp (e : List Byte) : CmpE := { cu := leAt e 0 1, spacing := leAt e 4 4, phase := leAt e 8 4 }

/-- A TAKEOVER entry (R264). -/
def parseTk (e : List Byte) : TkE := { port := leAt e 0 1, rsvd := leAt e 1 1, nozzle := leAt e 2 2, rsvd2 := leAt e 4 4 }

/-- An OP_PARAM entry (R43, assumption 9). -/
def parseOpPar (e : List Byte) : OpParE :=
  let plen := leAt e 4 2
  { chain := leAt e 0 2, slot := leAt e 2 1, plen := plen, params := slice e 8 plen }

/-! ### Sections -/

/-- A table: its header and its entries' bytes. -/
abbrev TabBytes := TabHdr × List (List Byte)

/-- The tables of a body, at most `n` (R35, R43). The rest of a body, shorter than a table header, is no table. -/
def parseTabs : Nat → List Byte → List TabBytes
  | 0, _ => []
  | n + 1, bs =>
    if bs.length < 8 then []
    else
      let h : TabHdr := { ttype := leAt bs 0 1, rsvd := leAt bs 1 1, esize := leAt bs 2 2, count := leAt bs 4 4 }
      let len := h.esize * h.count
      let es := bs.drop 8
      (h, if h.esize = 0 then [] else chop h.esize h.count (es.take len)) :: parseTabs n (es.drop len)

/-- The entries of the first table of a type. -/
def entriesOf (ts : List TabBytes) (ttype : Nat) : List (List Byte) := ((ts.find? (fun t => t.1.ttype == ttype)).map (·.2)).getD []

/-- The content of a STRUCT body. -/
def parseStruct (body : List Byte) (ts : List TabBytes) : StructData :=
  let e := entriesOf ts
  let pin := fun (i n : Nat) => slice (e 5) i n
  { chains := (e 1).map (parseChain body), assigns := (e 2).map parseAssign, links := (e 3).map parseLink, evts := (e 4).map parseEvt,
    cams := (pin 0 12).map parseCam, encs := (pin 12 4).map parseIn, abss := (pin 16 2).map parseIn, sws := (pin 18 8).map parseIn,
    pps := (pin 26 2).map parseIn, prints := (pin 28 8).map parsePrint, nps := (pin 36 4).map (fun e => leAt e 0 1 % 2 == 1),
    eths := (pin 40 2).map parseEth, sdgs := (pin 42 4).map parseSdg, tws := (pin 46 4).map parseTw,
    dvfs := (e 6).map (fun e => (leAt e 0 1, leAt e 1 1)), classes := (e 7).map (fun e => (leAt e 0 1, leAt e 1 1)), mems := (e 8).map parseMem,
    fallback := (e 9).map parseFall, crc := crc32c body }

/-- The content of a JOB body. -/
def parseJob (ts : List TabBytes) : JobData :=
  let e := entriesOf ts
  let h := ((e 0x41).head?).getD []
  { jobId := leAt h 0 2, repeatLen := leAt h 4 4, thresh := (e 0x42).map parseThresh, rules := (e 0x43).map parseRule,
    masters := (e 0x44).map parseMaster, prints := (e 0x45).map parsePrt, compares := (e 0x46).map parseCmp, takeovers := (e 0x47).map parseTk,
    opParams := (e 0x48).map parseOpPar }

/-- A SIG body (R45); `msg` is every byte before its section header. -/
def parseSig (msg body : List Byte) : SigData :=
  { slot := leAt body 0 1, key := slice body 8 97, r := beVal (slice body 112 48), s := beVal (slice body 160 48), digest := sha384 msg }

/-- A section (R34) from its 16-byte header on; `msg` is what precedes it. -/
def parseSection (msg bs : List Byte) : Section :=
  let ty := leAt bs 0 1
  let len := leAt bs 4 4
  let body := slice bs 16 len
  let ts := if ty = 1 then parseTabs 9 body else if ty = 2 then parseTabs (body.length / 8) body else []
  { ty := ty, rsvd := leAt bs 1 3, len := len, scrcOk := leAt bs 12 4 == crc32c (bs.take 12), bcrcOk := leAt bs 8 4 == crc32c body,
    tabs := ts.map (·.1),
    body := if ty = 1 then .struct (parseStruct body ts) else if ty = 2 then .job (parseJob ts) else if ty = 3 then .sig (parseSig msg body)
      else .other }

/-- The sections from byte `o` on, at most `n`; fewer than 16 bytes are no section. -/
def parseSections (all : List Byte) : Nat → Nat → List Section
  | 0, _ => []
  | n + 1, o =>
    let bs := all.drop o
    if bs.length < 16 then [] else
      let x := parseSection (all.take o) bs
      x :: parseSections all n (o + 16 + x.len)

/-- The HDR (R33). -/
def parseStreamHdr (bs : List Byte) : Hdr :=
  { magic := leAt bs 0 4, fmtMin := leAt bs 4 1, fmtMaj := leAt bs 5 1, variant := leAt bs 6 2, catVer := leAt bs 8 1, nsec := leAt bs 9 1,
    flags := leAt bs 10 2, totalLen := leAt bs 12 4, buildId := leAt bs 16 8, structId := leAt bs 24 4,
    hcrcOk := leAt bs 28 4 == crc32c (bs.take 28) }

/-- The bit-stream a byte string holds. -/
def parseStream (bs : List Byte) : Stream := { hdr := parseStreamHdr bs, sections := parseSections bs (bs.length / 16) 32 }

/-- Address of the staging area (R47). -/
def State.stageBase (s : State) : Nat :=
  2 ^ 26 * s.fld F.CFG_STAGE_BASE_LO_ADDR_LO + 2 ^ 32 * s.fld F.CFG_STAGE_BASE_HI_ADDR_HI

/-- The bit-stream the chunks have put into the staging area (R47, R365); a poisoned line reads as zeros (assumption 231). -/
def State.staged (s : State) : Stream := parseStream (s.memReadZ s.stageBase s.cfg.load.bytes)

end Sys2Proof.Machine
end

