-- ==== Sys2Proof/Machine/Swap.lean ====
section
/-!
DEFINITION. Compare units (R78 to R84), the change of job bank (R57 to R65) and the start of the pipeline (R51, R65, R398).
-/
namespace Sys2Proof.Machine

/-! ### Compare units -/

/-- How many points of a unit have been reached: `n` the next point, `lim` the position in 32.16 (with 65,535/65,536 added for
INTERP = 1, so that floor and ceil of R80 are one comparison), `sp` the spacing. -/
def ptReached (n lim sp : Nat) : Nat :=
  let d := (lim + 2 ^ 48 - n % 2 ^ 48) % 2 ^ 48
  if d < 2 ^ 47 then d / max 1 sp + 1 else 0

/-- The limit a unit compares its points with at position `pos` (R80). -/
def State.cuLim (s : State) (u pos : Nat) : Nat := pos * 65536 + if s.bit (F.CU_CTL_INTERP u) then 65535 else 0

/-- `k` points are skipped (R81). -/
def State.cuSkip (s : State) (u k : Nat) : State :=
  if k = 0 then s
  else
    let n := s.cuN u
    let sp := s.cuS u
    let s := s.flag (F.CU_STAT_SKIP u)
    let s := s.setFld (F.CU_STAT_SKIP_CNT u) (min (s.fld (F.CU_STAT_SKIP_CNT u) + k) 65535)
    s.setCuN u (n + k * sp)

/-- A unit takes a hit at position `pos` (R81, R84): capture, next point, skips up to `lim`. -/
def State.cuHit (s : State) (u pos lim : Nat) (late : Bool) : State :=
  let n := s.cuN u
  let s := (s.portsOf u).foldl (fun s p => s.prtPoint p n) s
  let s := ((s.putN (R.CU_HIT_POS u) pos).putN (R.CU_HIT_TS u) s.tsNs).setFld (F.CU_HIT_FRAC_FRAC u) n
  let s := if late then s.flag (F.CU_STAT_LATE u) else s
  let arm := s.bit (F.CU_CTL_MODE u)
  let s := s.modCu u (fun c => { c with delayed := false, deferred := false, evArm := c.evArm && !arm })
  let s := s.setCuN u (n + s.cuS u)
  s.cuSkip u (ptReached (s.cuN u) lim (s.cuS u))

/-- The interpolation delay D of the next point, in EVT_CLK cycles (R80); 0 with no speed measured. -/
def State.cuDelay (s : State) (u : Nat) : Nat :=
  let p := s.rdN (R.ENC_PERIOD (s.fld (F.CU_CTL_CHAN u)))
  if p = 0xFFFFFFFF then 0 else s.fld (F.CU_NEXT_FRAC_N u) * p / 2 ^ 24

/-- A unit that is not disarmed meets its points up to `lim` (R80 to R82, R84). Answers whether it takes a hit now. -/
def State.cuEval (s : State) (u pos lim : Nat) (late : Bool) : Bool × State :=
  if !s.bit (F.CU_CTL_EN u) then (false, s)
  else if (s.cuSt u).delayed then (true, s.cuHit u pos lim false)
  else
    let r := ptReached (s.cuN u) lim (s.cuS u)
    if r = 0 then (false, s)
    else if s.bit (F.CU_CTL_MODE u) && !(s.cuSt u).evArm then (false, s.cuSkip u r)
    else if late || !s.bit (F.CU_CTL_INTERP u) || s.cuDelay u = 0 then (true, s.cuHit u pos lim late)
    else (false, s.modCu u (fun c => { c with delayed := true }))

/-- A forward step to `pos` as unit `u` of the channel sees it: re-arm (R84), then its points up to `lim`. -/
def State.cuStep (s : State) (u pos lim : Nat) : Bool × State :=
  match (s.cuSt u).rev with
  | none => s.cuEval u pos lim false
  | some v =>
    let arm := (v + s.fld (F.ENC_CTL_BACKLASH (s.fld (F.CU_CTL_CHAN u)))) % 2 ^ 32
    if cntLe arm pos then (s.modCu u (fun c => { c with rev := none })).cuEval u pos lim true else (false, s)

/-- A point has just been loaded into unit `u` (R62, R65, R441): it is hit at once where it is reached, late where the step re-armed the
unit (R84), or in the next cycle where the unit has taken a hit in this one (R81). -/
def State.cuLoaded (s : State) (u : Nat) (hitNow late : Bool) : Bool × State :=
  let pos := s.pos (s.fld (F.CU_CTL_CHAN u))
  if (s.cuSt u).rev.isSome then (false, s)
  else if hitNow then
    if s.bit (F.CU_CTL_EN u) && 0 < ptReached (s.cuN u) (s.cuLim u pos) (s.cuS u)
    then (false, s.modCu u (fun c => { c with deferred := true })) else (false, s)
  else s.cuEval u pos (s.cuLim u pos) late

/-! ### Change of job bank -/

/-- A bank becomes EMPTY (R55, R66). -/
def State.emptyBank (s : State) (b : Bool) : State :=
  let s := (s.setBank b 0).setReady (if b then 9 else 8) false
  if b then ({ s with cfg := { s.cfg with jobB := none } }).setFld F.CFG_JOBB_JOB_ID 0
  else ({ s with cfg := { s.cfg with jobA := none } }).setFld F.CFG_JOBA_JOB_ID 0

/-- Units named in a bank's COMPARE table (R62). -/
def State.jobUnits (s : State) (b : Bool) : List CmpE :=
  match s.job b with
  | none => []
  | some j => j.compares

/-- A unit takes its COMPARE entry at position `p` (R62, R65, R79); a CUnn_SPACING_HI value held for it is gone (assumption 219). -/
def State.loadUnit (s : State) (p : Nat) (c : CmpE) : State :=
  let s := (s.putN (R.CU_SPACING c.cu) c.spacing).setFld (F.CU_SPACING_HI_S_HI c.cu) 0
  (s.setCuN c.cu (p * 65536 + c.phase)).modCu c.cu (fun u => { u with delayed := false, deferred := false, hiHold := none })

/-- JOB bits of all units (R79). -/
def State.jobBits (s : State) (b : Bool) : State :=
  (List.range 32).foldl (fun s u => s.setBit (F.CU_CTL_JOB u) ((s.jobUnits b).any (fun c => c.cu == u))) s

/-- The repeat origin of a bank's lines (R215). -/
def State.setOrg (s : State) (b : Bool) (v : Nat) : State :=
  let s := s.putN R.SEG_REPEAT_ORG v
  { s with seg := if b then { s.seg with orgB := v % 2 ^ 32 } else { s.seg with orgA := v % 2 ^ 32 } }

/-- Every tile offset is 0 and INIT (R220). -/
def State.clearTiles (s : State) : State :=
  { s with regs := s.regs.filter (fun e => !(R.SEG_TILE 0 ≤ e.1 && e.1 < R.SEG_TILE 768)) }

/-- Bank `b` becomes the running bank at swap count `p`, with the position at `pos` (R59 to R65): units, ports, captures and the JOB_SWAP
record, which holds the swap count (R235). `old` is the JOB_ID that ran before, `hit` the units that have already taken a hit in this cycle, `late` those the step re-armed.
Answers the units hit by a loaded point. -/
def State.takeBank (s : State) (b : Bool) (p pos : Nat) (now : Bool) (old : Nat) (hit late : List Nat) : List Nat × State :=
  let s := (s.setBank b 4).setBit F.CFG_BANK_RUN_BANK b
  let s := ((s.putN R.CFG_SWAP_CAP_POS pos).putN R.CFG_SWAP_CAP_TS s.tsNs).incWrap F.CFG_SWAP_CNT_CNT
  let s := (s.jobUnits b).foldl (fun s c => s.loadUnit p c) (s.jobBits b)
  let s := (List.range 8).foldl (fun s n => s.prtSwap b p n) s
  let s := if now then { s with seg := { s.seg with orgNext := true } } else s.setOrg b p
  let s := if s.bit F.SEG_MREG_CFG0_KEEP_ON_SWAP then s else s.clearTiles
  let s := s.record 3 (s.sysRec 0x12 p s.tsNs (old + 2 ^ 16 * b2n b + 2 ^ 17 * b2n now) 0 0 0)
  let r := (s.jobUnits b).foldl (fun acc c =>
    let e := acc.2.cuLoaded c.cu (hit.contains c.cu) (late.contains c.cu)
    (if e.1 then acc.1 ++ [c.cu] else acc.1, e.2)) (([] : List Nat), s)
  (r.1, ((List.range 8).foldl (fun s n => s.updHp n) r.2).pruneAll)

/-- The READY bank that NOW or a rise of RUN takes (R65). -/
def State.readyBank (s : State) : Option Bool :=
  let a := s.bankState false == 2
  let b := s.bankState true == 2
  if a && b then some (s.bit F.CFG_BANK_LAST_LOAD) else if a then some false else if b then some true else none

/-- The bank that runs, if any. -/
def State.runningBank (s : State) : Option Bool :=
  if s.bankState false = 4 then some false else if s.bankState true = 4 then some true else none

/-- A swap without a target count: by NOW, or by a rise of RUN (R65). The hits of loaded points see G14 of the new bank, for which the spec gives no
timing (DESIGN CHOICE, assumption 183). -/
def State.swapNow (s : State) (b : Bool) : State :=
  let old := match s.runningBank with
    | some o => s.jobId o
    | none => 0
  let s := match s.runningBank with
    | some o => s.emptyBank o
    | none => s
  let p := s.pos (s.fld F.CFG_SWAP_CTL_CHAN)
  let r := s.takeBank b p p true old [] []
  r.2.raise r.1

/-! ### Start of the pipeline -/

/-- Blocks of class 0b10 that are gated (R398), in ascending order. -/
def State.wakeTable (s : State) : List Nat :=
  (List.range 32).filter (fun b => s.fld (F.PWR_CLASS_CLASS b) == 2 && s.bit (F.PWR_CLASS_GATED b))

/-- Is a region configured and processing: the pipeline is not stopped, a unit is assigned, its die is ready and no fallback stops it
(TOP_READY.VG, R30, R425, assumption 126)? -/
def State.vgUp (s : State) (n : Nat) : Bool :=
  let fb := (vget s.vg.regions n RegionS.init).fallback
  !s.bit F.CFG_STAT_PIPE_STOPPED && (List.range 64).any (fun j => s.bit (F.VG_VU_MAP_ASSIGNED n j)) &&
    s.bit ⟨R.TOP_READY, 20 + n / 2, 1⟩ && !(fb == some 0 || fb == some 3)

/-- TOP_READY.VG follows the regions. -/
def State.vgReady (s : State) : State := (List.range 8).foldl (fun s n => s.setReady (24 + n) (s.vgUp n)) s

/-- RUN rises with a bank RUNNING (R51, R65, R167, R215, R398): leading cameras prime; in Autumn the triggers wait for the blocks of
class 0b10. -/
def State.runRise (s : State) : State :=
  let s := ((s.flag F.CFG_CTL_RUN).setFld F.CFG_STAT_PIPE_STOPPED 0).vgReady
  let s := (List.range 12).foldl (fun s n => s.prime n) s
  let s := { s with seg := { s.seg with orgNext := true } }
  let wait := s.fld F.PWR_STAT_STATE = 1 && !s.wakeTable.isEmpty
  let s := if wait then s.flag F.PWR_STAT_WAKING else s
  { s with cfg := { s.cfg with trigDis := wait, stopReq := false } }

/-- A write of RUN = 1 where no refusal of R51 applies: NOW first where no bank runs; 0x39 with no bank (R53, R65). -/
def State.runStart (s : State) : State :=
  match s.runningBank with
  | some _ => s.runRise.status 0
  | none =>
    match s.readyBank with
    | some b => ((s.swapNow b).runRise).status 0
    | none => s.status 0x39

end Sys2Proof.Machine
end

