-- ==== Sys2Proof/Machine/Stitch.lean ====
section
/-!
DEFINITION. The stitched line (R160 to R162, R168 to R172), seam registration (R173 to R178) and cross-web micrometres (R179).
The block boundary's whole effect and the command that forms a line stand in Line.lean.
-/
namespace Sys2Proof.Machine

/-! ### Cameras of the group, in order (R159) -/

/-- Cameras of the group by ORDER. -/
def State.group (s : State) : List Nat :=
  let n := ((List.range 12).filter (fun c => s.camUsed c)).length
  (List.range n).filterMap (fun o => (List.range 12).find? (fun c => s.camUsed c && s.fld (F.STI_CAM_GEOM_ORDER c) == o))

/-- Hidden state of seam `k`. -/
def State.seamS (s : State) (k : Nat) : SeamS := vget s.sti.seams k SeamS.init

/-- Change the hidden state of seam `k`. -/
def State.modSeam (s : State) (k : Nat) (f : SeamS → SeamS) : State :=
  { s with sti := { s.sti with seams := vput s.sti.seams k (f (s.seamS k)) } }

/-- A line of free values: the spec gives camera lines before index 0, and beyond those in the store, no content. One block of
free values per camera and line. -/
def State.freeLine (s : State) (c : Nat) (j : Int) : Pix :=
  let base := s.freeCtr + 1024 + (c * 512 + (j % 512).toNat) * 65536
  (List.range (s.chans c)).map (fun ch =>
    (List.range (s.actW c)).map (fun i => (Config.freeWord (base + ch * s.actW c + i)).toNat % 2 ^ s.depth c))

/-- The free values a stitched line or a registration may have drawn are used up. -/
def State.usedFree (s : State) : State := { s with freeCtr := s.freeCtr + 2 ^ 29 }

/-- Camera `c`'s line at index `j`: its pixels, FILL, or free values where the store has no line for it. -/
def State.lineAt (s : State) (c : Nat) (j : Int) : Pix :=
  let found := if j < 0 then none else (vget s.sti.store c []).find? (fun x => x.1 == j.toNat)
  match found with
  | some (_, some l) => l.pix
  | some (_, none) => List.replicate (s.chans c) (List.replicate (s.actW c) (s.fillOf c))
  | none => s.freeLine c j

/-- Camera `c` of stitched line `k` with registration offset (ox, oy): its rows at fraction f, as arrays (R170). -/
def State.camRow (s : State) (c : Nat) (k : Nat) (oy : Int) : List (Array Nat) :=
  let y := s.sfld (F.STI_CAM_GEOM_Y0 c) + oy
  let j := (k : Int) + y.fdiv 64
  let f := (y - 64 * y.fdiv 64).toNat
  let a := s.lineAt c j
  let b := if f = 0 then a else s.lineAt c (j + 1)
  (a.zip b).map (fun p => ((p.1.zip p.2).map (fun v => (v.1 * (64 - f) + v.2 * f + 32) / 64)).toArray)

/-- g_c(x) of one channel, and whether a tap fell outside (R170). -/
def State.camPix (s : State) (c : Nat) (row : Array Nat) (x : Int) (ox : Int) : Nat × Bool :=
  let w := s.actW c
  let q := 64 * x - s.fld (F.STI_CAM_X0_X0 c) - ox
  let i0 := q.fdiv 64
  let ph := (q - 64 * i0).toNat
  let acc := ((List.range 8).map (fun t =>
    s.rsmpTap ph t * (row.getD (clampN (i0 - 3 + (t : Int)) (w - 1)) 0 : Nat))).sum
  (clampN (asr (acc + 8192) 14) (2 ^ s.depth c - 1), i0 - 3 < 0 || (w : Int) ≤ i0 + 4)

/-- Which cameras give stitched pixel `x` (R171): places in the group and the weight of the right one of 256; none for one camera. -/
def State.blendAt (s : State) (n x : Nat) : Nat × Option Nat :=
  let seam := (List.range (n - 1)).find? (fun k =>
    let g := (s.seamS k).cfg.toNat
    let xc := fieldN g 0 18
    let rw := fieldN g 18 11
    (x : Int) < (xc : Int) - (rw / 2 : Nat) + rw)
  match seam with
  | none => (n - 1, none)
  | some k =>
    let g := (s.seamS k).cfg.toNat
    let rw := fieldN g 18 11
    let xs := (fieldN g 0 18 : Int) - (rw / 2 : Nat)
    if rw = 0 ∨ (x : Int) < xs then (k, none)
    else (k, some ((2 * ((x : Int) - xs).toNat + 1) * 256 / (2 * rw)))

/-- Registration offset of camera `c` in use (R168). -/
def State.camOfs (s : State) (c : Nat) : Int × Int := (s.sfld (F.STI_CAM_OFS_OX c), s.sfld (F.STI_CAM_OFS_OY c))

/-- The pixels of stitched line `k`, and whether a tap fell outside a camera (R170, R171). -/
def State.stitch (s : State) (k : Nat) : Pix × Bool :=
  let g := s.group
  let n := g.length
  let rows := g.map (fun c => s.camRow c k (s.camOfs c).2)
  let at_ := fun (p ch x : Nat) =>
    let c := g.getD p 0
    s.camPix c ((rows.getD p []).getD ch #[]) x (s.camOfs c).1
  let px := (List.range (s.chans s.refCam)).map (fun ch => (List.range (s.rdN R.STI_WIDTH)).map (fun x =>
    match s.blendAt n x with
    | (p, none) => at_ p ch x
    | (p, some w) =>
      let l := at_ p ch x
      let r := at_ (p + 1) ch x
      ((l.1 * (256 - w) + r.1 * w + 128) / 256, l.2 || r.2)))
  (px.map (fun c => c.map (·.1)), px.any (fun c => c.any (·.2)))

/-! ### Placement at a block's first line (R171, R176) -/

/-- STI_CAMn_SPAN0 and SPAN1 from the seams in use, within the stitched line (R171, assumption 223). -/
def State.setSpans (s : State) : State :=
  let g := s.group
  let n := g.length
  g.zipIdx.foldl (fun s p =>
    let edge := fun (k : Nat) (hi : Bool) =>
      let w := (s.seamS k).cfg.toNat
      let rw := fieldN w 18 11
      clampN ((fieldN w 0 18 : Int) - (rw / 2 : Nat) + (if hi then (rw : Int) - 1 else 0)) (s.rdN R.STI_WIDTH - 1)
    let lo := if p.2 = 0 then 0 else edge (p.2 - 1) false
    let hi := if p.2 + 1 = n then s.rdN R.STI_WIDTH - 1 else edge p.2 true
    (s.setFld (F.STI_CAM_SPAN0_X p.1) lo).setFld (F.STI_CAM_SPAN1_X p.1) hi) s

/-- One camera takes its offset from its neighbour's, held within R168. -/
def State.placeCam (s : State) (c : Nat) (o : Int × Int) : State :=
  let y0 := s.sfld (F.STI_CAM_GEOM_Y0 c)
  let ox := clampI o.1 (-8192) 8192
  let oy := clampI o.2 (-256 - y0) (256 - y0)
  let s := if ox = o.1 ∧ oy = o.2 then s else s.flag F.STI_STAT_REG_LIMIT
  (s.setSfld (F.STI_CAM_OFS_OX c) ox).setSfld (F.STI_CAM_OFS_OY c) oy

/-- Camera offsets from the applied seam offsets, outwards from the reference camera (R176). -/
def State.place (s : State) : State :=
  let g := s.group
  let r := g.findIdx (· == s.refCam)
  let s := s.placeCam s.refCam (0, 0)
  let s := (List.range (g.length - (r + 1))).foldl (fun s i =>
    let p := r + i
    let a := (s.seamS p).a
    let o := s.camOfs (g.getD p 0)
    s.placeCam (g.getD (p + 1) 0) (o.1 + a.1, o.2 + a.2)) s
  (List.range r).foldl (fun s i =>
    let p := r - i
    let a := (s.seamS (p - 1)).a
    let o := s.camOfs (g.getD p 0)
    s.placeCam (g.getD (p - 1) 0) (o.1 - a.1, o.2 - a.2)) s

/-! ### Seam registration -/

/-- The visible registers of a seam follow its state. -/
def State.showSeam (s : State) (k : Nat) : State :=
  let g := s.seamS k
  let pk := fun (o : Int × Int) => BitVec.ofNat 32 (wrapTo 16 o.1 + 65536 * wrapTo 16 o.2)
  ((s.put (R.STI_SEAM_EST k) (pk g.e)).put (R.STI_SEAM_CAND k) (pk g.c)).setBit (F.STI_SEAM_SCORE_PEND k) g.pend

/-- A correlation sample of camera `c` at stitched pixel `x`, scaled to 16 bits (R173). `rows` are its rows by channel. -/
def State.corrPix (s : State) (c : Nat) (rows : List (Array Nat)) (x ox : Int) : Nat :=
  let v := fun ch => (s.camPix c (rows.getD ch #[]) x ox).1 * 2 ^ (16 - s.depth c)
  if !s.isRgb c then v 0
  else
    let m := s.fld F.STI_REG_CFG0_CORR_CH
    if m < 3 then v m else (77 * v 0 + 150 * v 1 + 29 * v 2 + 128) / 256

/-- A window of camera `c` over a block from line `k0`: `ox`, `oy` its offset in 1/64 (R173). -/
def State.corrWin (s : State) (c k0 : Nat) (x0 : Int) (cw : Nat) (ox oy : Int) : List Nat :=
  (List.range 256).flatMap (fun i =>
    let rows := s.camRow c (k0 + i) oy
    (List.range cw).map (fun (x : Nat) => s.corrPix c rows (x0 + (x : Int)) ox))

/-- The normalised cross-correlation in signed 1.15, truncated; none where its denominator is 0 (R173). -/
def ncc (l r : List Nat) : Option Int :=
  let n := l.length
  let sl := l.sum
  let sr := r.sum
  let num : Int := (n * ((l.zip r).map (fun p => p.1 * p.2)).sum : Nat) - (sl * sr : Nat)
  let d := (n * (l.map (fun v => v * v)).sum - sl * sl) * (n * (r.map (fun v => v * v)).sum - sr * sr)
  if d = 0 then none
  else
    let m : Int := isqrt (num.natAbs * num.natAbs * 2 ^ 30 / d)
    some (clampI (if num < 0 then -m else m) (-32768) 32767)

/-- The fraction of an axis from the scores of the peak and its neighbours (R173). -/
def axisFrac (sm s0 sp : Int) : Int :=
  let den := sm - 2 * s0 + sp
  if den = 0 then 0
  else
    let num := 32 * (sm - sp)
    clampI (roundHalfAway (if den < 0 then -num else num) den.natAbs) (-32) 32

/-- What a seam's measurement gives: m, peak, WHY (R173, R174). -/
structure SeamMeas where
  m    : Int × Int
  peak : Int
  why  : Nat

/-- Measure seam `k` over the block that starts at line `k0` (R173, R174); none where CW is 0. A score with a zero denominator,
the choice between equal peaks, and a fraction beside the border of the search are free values. -/
def State.measure (s : State) (k k0 : Nat) : Option SeamMeas × State :=
  let cw := s.fld (F.STI_SEAM_WIN_CW k)
  if cw = 0 then (none, s)
  else
    let g := s.group
    let cl := g.getD k 0
    let cr := g.getD (k + 1) 0
    let xc : Int := fieldN (s.seamS k).cfg.toNat 0 18
    let x0 := xc - (cw / 2 : Nat)
    let a := (s.seamS k).a
    let cu := (a.1 + 32).fdiv 64
    let cv := (a.2 + 32).fdiv 64
    let sx := s.fld F.STI_REG_CFG0_SX
    let sy := s.fld F.STI_REG_CFG0_SY
    let l := s.corrWin cl k0 x0 cw 0 0
    let us := (List.range (2 * sx + 1)).map (fun (i : Nat) => (i : Int) - sx)
    let vs := (List.range (2 * sy + 1)).map (fun (i : Nat) => (i : Int) - sy)
    let cand := vs.flatMap (fun v => us.map (fun u => (u, v)))
    let raw := cand.map (fun o => (o, ncc l (s.corrWin cr k0 x0 cw (64 * (cu + o.1)) (64 * (cv + o.2)))))
    let fr := s.free
    let sc := raw.map (fun o => (o.1, o.2.getD (toSigned 16 fr.1.toNat)))
    let best := sc.foldl (fun m o => max m o.2) (-32768)
    let tops := sc.filter (fun o => o.2 == best)
    let f2 := fr.2.free
    let pk := tops.getD (f2.1.toNat % max 1 tops.length) ((0, 0), best)
    let at_ := fun (u v : Int) => (sc.find? (fun o => o.1 == (u, v))).map (·.2)
    let f3 := f2.2.free
    let frac := fun (m p : Option Int) (w : Nat) => match m, p with
      | some m, some p => axisFrac m best p
      | _, _ => ((f3.1.toNat / 2 ^ w % 65 : Nat) : Int) - 32
    let u := pk.1.1
    let v := pk.1.2
    let fx := frac (at_ (u - 1) v) (at_ (u + 1) v) 0
    let fy := if sy = 0 then 0 else frac (at_ u (v - 1)) (at_ u (v + 1)) 8
    let n := 256 * cw
    let var := n * (l.map (fun x => x * x)).sum - l.sum * l.sum
    let flagged := (s.sti.shorts.filter (fun m => bitN m cl || bitN m cr)).length
    let why := b2n (best < s.sfld F.STI_REG_CFG0_MIN_CORR)
      + 2 * b2n (u.natAbs = sx || (0 < sy && v.natAbs = sy))
      + 4 * b2n (var < s.rdN R.STI_REG_MINVAR * n * n)
      + 8 * b2n (32 < flagged)
    (some { m := (64 * (cu + u) + fx, 64 * (cv + v) + fy), peak := best, why := why }, f3.2)

/-- A pending candidate resolves (R175, R177, R178): confirmed or rejected, with its counts. -/
def State.resolveSeam (s : State) (k : Nat) (ok : Bool) : State :=
  let s := s.modSeam k (fun g => { g with e := if ok then g.c else g.e, pend := false })
  if ok then (s.setFld (F.STI_SEAM_SCORE_LAST k) 1).incCnt (F.STI_SEAM_CNT_CONF_CNT k) (F.STI_SEAM_CNT_SAT k)
  else ((s.setFld (F.STI_SEAM_SCORE_LAST k) 2).flag F.STI_STAT_REG_REJECT).incCnt (F.STI_SEAM_CNT_REJ_CNT k)
    (F.STI_SEAM_CNT_SAT k)

/-- One seam's update at a block end (R175). Answers whether a candidate that made the block provisional was not confirmed. -/
def State.updateSeam (s : State) (k k0 : Nat) : Bool × State :=
  let r := s.measure k k0
  let ok := match r.1 with
    | some m => m.why == 0
    | none => false
  let mm : Int × Int := match r.1 with
    | some m => m.m
    | none => (0, 0)
  let s := r.2
  let s := match r.1 with
    | some m =>
      let s := s.put (R.STI_SEAM_MEAS k) (BitVec.ofNat 32 (wrapTo 16 m.m.1 + 65536 * wrapTo 16 m.m.2))
      ((s.setSfld (F.STI_SEAM_SCORE_PEAK k) m.peak).setFld (F.STI_SEAM_SCORE_WHY k) m.why)
    | none => s
  let s := s.setBit (F.STI_SEAM_SCORE_VALID k) ok
  let g := s.seamS k
  let tol := s.fld F.STI_REG_CFG2_CONF_TOL
  let conf := ok && (mm.1 - g.mprev.1).natAbs ≤ tol && (mm.2 - g.mprev.2).natAbs ≤ tol
  let bad := g.pend && g.prov && !conf
  let s := if g.pend then s.resolveSeam k conf else s
  let e := (s.seamS k).e
  let step := fun (m e : Int) (kk st : Nat) => e + clampI (asr (kk * (m - e) + 128) 8) (-st) st
  let s := if ok && !s.bit F.STI_CTL_FREEZE && s.bit F.STI_CTL_REG_EN then
      s.modSeam k (fun g => { g with
        c := (step mm.1 e.1 (s.fld F.STI_REG_CFG1_K_X) (s.fld F.STI_REG_CFG2_STEP_X),
              step mm.2 e.2 (s.fld F.STI_REG_CFG1_K_Y) (s.fld F.STI_REG_CFG2_STEP_Y)),
        pend := true, mprev := mm })
    else s.modSeam k (fun g => { g with c := e })
  (bad, (s.modSeam k (fun g => { g with a := g.c })).showSeam k)

/-- The outcomes of every block of a list are known; whether one was REJECTED (R237). -/
def State.outcomesOf (s : State) (blks : List Nat) : Option Bool :=
  let os := blks.map (fun b => (s.seg.outcomes.find? (fun o => o.1 == b)).map (·.2))
  if os.all (·.isSome) then some (os.any (· == some true)) else none

/-- The copy of a provisional record (R237): PROVISIONAL_REG cleared, SUPERSEDES set, REG_REJ as the outcomes were. -/
def finalCopy (words : List Nat) (rej : Bool) : List Nat :=
  let w := words.getD 0 0
  let w := if bitN w 16 then w - 2 ^ 16 else w
  let w := if bitN w 21 then w else w + 2 ^ 21
  (w + (if rej && !bitN w 23 then 2 ^ 23 else 0)) :: words.drop 1

/-- Copies whose outcomes are now known are posted (R237). -/
def State.postWaiting (s : State) : State :=
  let due := s.seg.waiting.filter (fun w => (s.outcomesOf w.blks).isSome)
  let rest := s.seg.waiting.filter (fun w => (s.outcomesOf w.blks).isNone)
  due.foldl (fun s w => s.record 0 (finalCopy w.words ((s.outcomesOf w.blks).getD false))) { s with seg := { s.seg with waiting := rest } }

/-- The outcome of a provisional block goes to SEG and STI_OUTCOME (R177). -/
def State.outcome (s : State) (b : Nat) (rejected : Bool) : State :=
  let s := { s with seg := { s.seg with outcomes := (b, rejected) :: s.seg.outcomes } }
  let s := s.postWaiting
  (s.setFld F.STI_OUTCOME_BLOCK b).setFld F.STI_OUTCOME_RESULT (if rejected then 2 else 1)

/-- Which pending candidates make the next block provisional (R177). -/
def State.markProv (s : State) : State :=
  let tol := s.fld F.STI_REG_CFG2_PROV_TOL
  let s := (List.range 11).foldl (fun s k => s.modSeam k (fun g =>
    { g with prov := g.pend && (tol < (g.c.1 - g.e.1).natAbs || tol < (g.c.2 - g.e.2).natAbs) })) s
  let any := (List.range 11).any (fun k => (s.seamS k).prov)
  { s with sti := { s.sti with provBlk := any } }

/-- The seam updates at the end of the block whose last line has been formed (R175 to R177). -/
def State.register (s : State) : State :=
  if !s.sti.regDue then s
  else
    let k0 := s.sti.formed - 256
    let was := s.sti.provBlk
    let r := (List.range (s.group.length - 1)).foldl (fun acc k =>
      let u := acc.2.updateSeam k k0
      (acc.1 || u.1, u.2)) (false, s)
    let s := { r.2.usedFree with sti := { r.2.sti with regDue := false } }
    let s := if was then s.outcome (k0 / 256) r.1 else s
    s.markProv.place

/-- A stop resolves pending seams as REJECTED, before the last records are posted (R177); the last block's own update comes first. A block
that has begun gets its outcome; one of which no line has been formed gets none. -/
def State.rejectSeams (s : State) : State :=
  let s := s.register
  let b := s.sti.formed / 256
  let any := (List.range 11).any (fun k => (s.seamS k).pend && (s.seamS k).prov)
  let s := (List.range 11).foldl (fun s k => if (s.seamS k).pend then (s.resolveSeam k false).showSeam k else s) s
  let s := if s.sti.formed % 256 ≠ 0 ∧ s.sti.provBlk ∧ any then s.outcome b true else s
  s.markProv

/-! ### The stitch memory's ECC (R180) -/

/-- What an uncorrectable error of the stitch memory sets and queues; INSTANCE is the line block (R180, R446, assumption 197). -/
def State.stitchEccNote (s : State) (k c : Nat) : State := (s.flag F.STI_STAT_MEM_ECC).fault 0x06 0x1 (k / 256) (w5 := c)

/-- An uncorrectable error of the stitch memory gives FILL for the camera line it hits: the stored line of index `k`, else the one in the stagger
staging buffers whose LINE_SEQ is `k`. -/
def State.stitchEccCam (s : State) (c k : Nat) : State :=
  let l := vget s.sti.store c []
  let g := vget s.sti.stag c { lines := [] }
  if l.any (fun e => e.1 == k) then
    let s := { s with sti := { s.sti with store := vput s.sti.store c (l.map (fun (e : Nat × Option CamLine) => if e.1 == k then (k, none) else e)) } }
    s.stitchEccNote k c
  else if g.lines.any (fun e => e.1 == k) then
    let s := { s with sti := { s.sti with stag := vput s.sti.stag c { lines := g.lines.map (fun (e : Nat × Bool) => (e.1, e.2 || e.1 == k)) } } }
    s.stitchEccNote k c
  else s

/-- The same for a stitched line that waits for its regions: every sample takes the reference camera's FILL, and the mask bits of all the group's
cameras are set (assumption 197). -/
def State.stitchEccOut (s : State) (k : Nat) : State :=
  if s.vg.lines.any (fun e => e.1 == k) then
    let fill := s.fillOf s.refCam
    let all := (s.group.map (2 ^ ·)).sum
    let mark := fun (d : SDesc) => { d with short := all, long := all }
    let s := { s with
      vg := { s.vg with lines := s.vg.lines.map (fun (e : Nat × SDesc × Pix) =>
        if e.1 == k then (e.1, mark e.2.1, e.2.2.map (fun (ch : List Nat) => ch.map (fun _ => fill))) else e) },
      seg := { s.seg with descs := s.seg.descs.map (fun (e : Nat × SDesc) => if e.1 == k then (e.1, mark e.2) else e) } }
    s.stitchEccNote k 0
  else s

/-! ### Block boundary (R171, R178, R179, R215) -/

/-- Seeds written take effect (R178). -/
def State.applySeeds (s : State) : State :=
  (List.range 11).foldl (fun s k =>
    match (s.seamS k).seed with
    | none => s
    | some v =>
      let s := if (s.seamS k).pend then s.resolveSeam k false else s
      (s.modSeam k (fun g => { g with e := v, c := v, a := v, seed := none })).showSeam k) s

/-- A pending flip of the µm table (R179). -/
def State.umapApply (s : State) : State :=
  if s.bit F.STI_UMAP_CTL_FLIP_PEND then
    let inWin := fun (o : Nat) => R.STI_UMAP 0 ≤ o && o < R.STI_UMAP 257
    let shown := s.regs.filter (fun e => inWin e.1)
    let used := s.sti.umap
    let s := { s with regs := s.regs.filter (fun e => !inWin e.1), sti := { s.sti with umap := shown } }
    let s := used.foldl (fun s e => s.put e.1 e.2) s
    (s.setFld F.STI_UMAP_CTL_FLIP_PEND 0).setFld F.STI_UMAP_CTL_SET (s.fld F.STI_UMAP_CTL_SET + 1)
  else s

/-- A pending SEG_REPEAT_ADJ (R215). -/
def State.applyAdj (s : State) : State :=
  let a := s.rdN R.SEG_REPEAT_ADJ
  if a = 0 then s
  else (s.setOrg s.runBank (s.rdN R.SEG_REPEAT_ORG + a)).putN R.SEG_REPEAT_ADJ 0

/-- STI's part of a block boundary: seeds, seam geometry, placement, µm table, repeat origin. -/
def State.stiBoundary (s : State) : State :=
  let s := s.register.applySeeds
  let s := (List.range 11).foldl (fun s k => let w := s.rd (R.STI_SEAM_CFG k); s.modSeam k (fun g => { g with cfg := w })) s
  let s := (s.markProv.place).setSpans
  let s := { s with sti := { s.sti with shorts := [] } }
  (s.setBit F.STI_STAT_PROV s.sti.provBlk).umapApply.applyAdj

/-! ### Forming a line (R161, R162, R169, R215) -/

/-- May stitched line `formed` be formed: reference line k + 4 is in the store; at a stop, the last lines follow without it. -/
def State.mayForm (s : State) : Bool :=
  let k := s.sti.formed
  let nr := vget s.sti.nextK s.refCam 0
  s.bit F.STI_CTL_EN && (k + 4 < nr || (!s.bit F.CFG_CTL_RUN && s.cfg.trigDis && nr = s.sti.refNext && k < nr))

/-- Indices still empty when line `formed` is formed take FILL up to k + 4 (R161, R166). -/
def fillTo (c lim : Nat) : Nat → State → State
  | 0, s => s
  | f + 1, s =>
    if vget s.sti.nextK c 0 ≤ lim then
      let g := vget s.sti.stag c { lines := [] }
      let s := if s.leading c && !g.lines.isEmpty then
          { s.flag F.STI_STAT_STAG_LATE with sti := { s.sti with stag := vput s.sti.stag c { lines := g.lines.tail } } }
        else s
      fillTo c lim f ((s.flag F.STI_STAT_CAM_LATE).storeLoss c)
    else s

/-- The spacing S of the unit that produced a tag, for a line of bank `b` (R79, R215). -/
def State.tagSpacing (s : State) (b : Bool) (u : Nat) : Nat :=
  match s.cmpEntry b u with
  | some c => c.spacing
  | none => s.cuS u

/-- Repeat index and master row of a stitched line's tag (R215). -/
def State.repRow (s : State) (t : Tag) : Nat × Option Nat :=
  let o := if t.bank then s.seg.orgB else s.seg.orgA
  let q := (t.encPos + 2 ^ 32 - o % 2 ^ 32) % 2 ^ 32
  let rl := match s.job t.bank with
    | some j => max 1 j.repeatLen
    | none => 1
  let row := match t.cu with
    | none => none
    | some u =>
      if s.fld (F.CU_CTL_CHAN u) = s.fld F.CFG_SWAP_CTL_CHAN
      then some (((q % rl) * 65536 + t.frac) / max 1 (s.tagSpacing t.bank u)) else none
  (q / rl % 65536, row)

/-- The camera lines of index `k` and whether each was flagged (R162). -/
def State.lineFlags (s : State) (k : Nat) : SDesc → SDesc := fun d =>
  s.group.foldl (fun d c =>
    match (vget s.sti.store c []).find? (fun x => x.1 == k) with
    | some (_, some l) =>
      { d with short := d.short + (if l.fl.short then 2 ^ c else 0), long := d.long + (if l.fl.long then 2 ^ c else 0),
               stale := d.stale || l.fl.stale, clamp := d.clamp || l.fl.clamp, repl := d.repl || l.fl.repl }
    | _ => { d with short := d.short + 2 ^ c, long := d.long + 2 ^ c }) d

/-- Stitched line `formed` is paired, blended and merged; the block boundary has been taken before its first line. -/
def State.formLine (s : State) : State :=
  let s := (s.wakeBlock 0x07).wakeBlock 0x08
  let k := s.sti.formed
  let s := s.group.foldl (fun s c => if c = s.refCam then s else fillTo c (min (k + 4) (s.sti.refNext - 1)) 64 s) s
  let t := (s.refTag k).getD {}
  let s := if s.seg.orgNext then
      { s.setOrg t.bank t.encPos with seg := { (s.setOrg t.bank t.encPos).seg with orgNext := false } }
    else s
  let st := s.stitch k
  let s := s.usedFree
  let s := if st.2 then s.flag F.STI_STAT_SEAM_EDGE else s
  let rr := s.repRow t
  let d : SDesc := s.lineFlags k
    { sline := k % 2 ^ 32, tag := t, short := 0, long := 0, stale := false, clamp := false, repl := false,
      prov := s.sti.provBlk, row := rr.2, rep := rr.1 }
  let s := if rr.2.isNone then s.flag F.SEG_STAT_NO_REF else s
  let s := { s with
    vg := { s.vg with lines := ((k, d, st.1) :: s.vg.lines).take 640 },
    sti := { s.sti with formed := k + 1, shorts := d.short :: s.sti.shorts,
                        regDue := s.sti.regDue || k % 256 == 255 },
    seg := { s.seg with descs := ((k, d) :: s.seg.descs).take 1024 } }
  s.putN R.STI_SLINE k

/-! ### Micrometres (R179) -/

/-- U[j] of the set in use. -/
def State.uKnot (s : State) (j : Nat) : Int := toSigned 32 ((regsGet s.sti.umap (R.STI_UMAP j)).getD 0).toNat

/-- X_UM of a position in 18.6 stitched pixels (R179). -/
def State.xUm (s : State) (xq : Nat) : Int :=
  let ks := max 1 (s.fld F.STI_UMAP_CTL_KS)
  let k := min (xq / (64 * ks)) 255
  let r := xq - 64 * ks * k
  let num := s.uKnot k * (64 * ks : Nat) + (s.uKnot (k + 1) - s.uKnot k) * r
  (2 * num + (1024 * ks : Nat)).fdiv (2048 * ks : Nat)

/-- STI_UMAP_CTL.FLIP = 1 (R179). -/
def State.umapFlip (s : State) : State :=
  if s.bit F.STI_UMAP_CTL_FLIP_PEND then s.status 0x40 else (s.flag F.STI_UMAP_CTL_FLIP_PEND).status 0

/-- A write of STI_SEAMs_SEED (R178). -/
def State.seedWrite (s : State) (k v : Nat) : State :=
  (s.modSeam k (fun g => { g with seed := some (toSigned 16 v, toSigned 16 (v / 65536)) })).status 0

/-! ### Meanings -/

/-- SEAM_REGISTRATION (R175): the block whose last line has been formed is measured and every seam updated. -/
def execSeamRegistration (s : State) : Host.Outcome State Fault Refusal := done s s.register

/-- SEAM_SEED_WRITE (R178): the seam takes the value at the next block boundary. -/
def execSeamSeedWrite (k : Fin 11) (val : Word) (s : State) : Host.Outcome State Fault Refusal :=
  if s.has .seam k then done s ((s.wakeBlock 0x07).seedWrite k val.toNat) else done s s

/-- UMAP_FLIP (R179): the µm table flips at the next block boundary. -/
def execUmapFlip (s : State) : Host.Outcome State Fault Refusal := done s (s.wakeBlock 0x07).umapFlip

end Sys2Proof.Machine
end

