-- ==== Sys2Proof/Machine/De2000.lean ====
section
/-!
DEFINITION. DE2000 (R204): the colour difference of CIE (ISO/CIE 11664-6) in fixed point with 32 fraction bits, and the device's
result, which the spec bounds to within 2 of it.
-/
namespace Sys2Proof.Machine

/-- One, with 32 fraction bits. -/
def fxOne : Int := 4294967296
/-- A half turn in radians. -/
def fxPi : Int := 13493037705
/-- Degrees to radians. -/
def fxDeg (d : Int) : Int := (d * fxPi).fdiv 180
/-- Product. -/
def fxMul (a b : Int) : Int := (a * b).fdiv fxOne
/-- Quotient; 0 for a divisor of 0. -/
def fxDiv (a b : Int) : Int := if b = 0 then 0 else (a * fxOne).fdiv b
/-- Square root of a value that is not negative. -/
def fxSqrt (a : Int) : Int := (isqrt (a.toNat * fxOne.toNat) : Nat)

/-- Σ of a Taylor series by its term ratio: `step k` gives the divisor of term k after multiplication by `x`. -/
def fxSeries (x : Int) (den : Nat → Int) : Nat → Nat → Int → Int
  | 0, _, _ => 0
  | f + 1, k, t => t + fxSeries x den f (k + 1) (fxMul t x / den k)

/-- atan of 0 to 1, by two halvings and its series. -/
def fxAtan1 (z : Int) : Int :=
  let half := fun z => fxDiv z (fxOne + fxSqrt (fxOne + fxMul z z))
  let u := half (half z)
  let u2 := fxMul u u
  let terms := (List.range 14).foldl (fun (acc : Int × Int) (k : Nat) =>
    (acc.1 + (if k % 2 = 0 then acc.2 else -acc.2) / (2 * (k : Int) + 1), fxMul acc.2 u2)) ((0 : Int), u)
  4 * terms.1

/-- Hue angle of (a, b) in 0 to a full turn; 0 at the origin. -/
def fxHue (a b : Int) : Int :=
  let x : Int := a.natAbs
  let y : Int := b.natAbs
  let t := if x = 0 ∧ y = 0 then 0 else if y ≤ x then fxAtan1 (fxDiv y x) else fxPi / 2 - fxAtan1 (fxDiv x y)
  if 0 ≤ a then (if 0 ≤ b then t else 2 * fxPi - t) else (if 0 ≤ b then fxPi - t else fxPi + t)

/-- Cosine. -/
def fxCos (x : Int) : Int :=
  let r := x.fmod (2 * fxPi)
  let y := if fxPi < r then r - 2 * fxPi else r
  fxSeries (fxMul y y) (fun k => -((2 * (k : Int) + 1) * (2 * k + 2))) 18 0 fxOne

/-- Sine. -/
def fxSin (x : Int) : Int := fxCos (x - fxPi / 2)

/-- exp of minus `y`. -/
def fxExpNeg (y : Int) : Int :=
  let e := fxSeries (-(y / 64)) (fun k => (k : Int) + 1) 30 0 fxOne
  let sq := fun v => fxMul v v
  sq (sq (sq (sq (sq (sq e)))))

/-- x^7 / (x^7 + 25^7). -/
def fxC7 (x : Int) : Int :=
  let t := x / 25
  let t2 := fxMul t t
  let t7 := fxMul (fxMul (fxMul t2 t2) t2) t
  fxDiv t7 (t7 + fxOne)

/-- ΔE00 with 32 fraction bits, of two colours (L*, a*, b*) with weights. -/
def fxDe2000 (kl kc kh : Int) (p q : Int × Int × Int) : Int :=
  let c := fun (v : Int × Int × Int) => (isqrt (v.2.1 * v.2.1 + v.2.2 * v.2.2).toNat : Int)
  let g := (fxOne - fxSqrt (fxC7 ((c p + c q) / 2))) / 2
  let adj := fun (v : Int × Int × Int) => (v.1, fxMul (fxOne + g) v.2.1, v.2.2)
  let p := adj p
  let q := adj q
  let c1 := c p
  let c2 := c q
  let h1 := fxHue p.2.1 p.2.2
  let h2 := fxHue q.2.1 q.2.2
  let grey := c1 = 0 || c2 = 0
  let dh0 := h2 - h1
  let dh := if grey then 0 else if dh0 > fxPi then dh0 - 2 * fxPi else if dh0 < -fxPi then dh0 + 2 * fxPi else dh0
  let dH := 2 * fxMul (fxSqrt (fxMul c1 c2)) (fxSin (dh / 2))
  let lm := (p.1 + q.1) / 2 - 50 * fxOne
  let cm := (c1 + c2) / 2
  let hm := if grey then h1 + h2 else if (dh0.natAbs : Int) ≤ fxPi then (h1 + h2) / 2
    else if h1 + h2 < 2 * fxPi then (h1 + h2 + 2 * fxPi) / 2 else (h1 + h2 - 2 * fxPi) / 2
  let t := fxOne - 17 * fxCos (hm - fxDeg 30) / 100 + 24 * fxCos (2 * hm) / 100 + 32 * fxCos (3 * hm + fxDeg 6) / 100
    - 20 * fxCos (4 * hm - fxDeg 63) / 100
  let z := fxDiv (hm - fxDeg 275) (fxDeg 25)
  let dt := fxMul (fxDeg 30) (fxExpNeg (fxMul z z))
  let l2 := fxMul lm lm
  let sl := fxOne + fxDiv (15 * l2 / 1000) (fxSqrt (20 * fxOne + l2))
  let sc := fxOne + 45 * cm / 1000
  let sh := fxOne + 15 * fxMul cm t / 1000
  let rt := -fxMul (fxSin (2 * dt)) (2 * fxSqrt (fxC7 cm))
  let x := fxDiv (q.1 - p.1) (fxMul kl sl)
  let y := fxDiv (c2 - c1) (fxMul kc sc)
  let w := fxDiv dH (fxMul kh sh)
  let sum := fxMul x x + fxMul y y + fxMul w w + fxMul rt (fxMul y w)
  fxSqrt (if sum < 0 then 0 else sum)

/-- DE2000 of two Lab pixels in 8.8 (R204): the device's value of ΔE00 × 256, saturated: an integer of its own choice at a distance of at most
2 from the exact one. -/
def de2000 (kl kc kh : Nat) (a b : List Nat) : Nat :=
  let w := fun (k : Nat) => (k : Int) * 262144
  let lab := fun (v : List Nat) =>
    (((v.getD 0 0 : Nat) : Int) * 100 * fxOne / 65280, ((v.getD 1 0 : Nat) : Int) * fxOne / 256 - 128 * fxOne,
     ((v.getD 2 0 : Nat) : Int) * fxOne / 256 - 128 * fxOne)
  let x := fxDe2000 (w kl) (w kc) (w kh) (lab a) (lab b)
  let unit : Int := 16777216
  let lo := -((2 * unit - x).fdiv unit)
  let hi := (x + 2 * unit).fdiv unit
  let key := ([kl, kc, kh] ++ a.take 3 ++ b.take 3).foldl (fun x v => x * 65536 + v % 65536) 1
  clampN (clampI ((x + 8388608).fdiv unit + Config.deDelta key) lo hi) 65535

end Sys2Proof.Machine
end

