-- ==== Sys2Proof/Machine/Vop.lean ====
section
/-!
DEFINITION. The operators of catalogue version 3 as functions of pixels (R187, R200 to R207), their costs (R201), and the chain's
slot records (R185).
-/
namespace Sys2Proof.Machine

/-! ### Pixels (R187) -/

/-- One container of a pixel. -/
def px1 (p : List Nat) : Nat := p.getD 0 0

/-- Three containers of a pixel. -/
def px3 (p : List Nat) : List Nat := if 3 ≤ p.length then p.take 3 else [px1 p, px1 p, px1 p]

/-- S16 reading. -/
def s16 (v : Nat) : Int := toSigned 16 v

/-- clampU. -/
def clampU (v : Int) : Nat := clampN v 65535

/-- clampS, as a container. -/
def clampS (v : Int) : Nat := wrapTo 16 (clampI v (-32767) 32767)

/-- Parameter word `i` of a parameter block (R185). -/
def parW (bs : List Byte) (i : Nat) : Nat := leVal (slice bs (2 * i) 2)

/-- Parameter words `i` to `i + n - 1`. -/
def parWs (bs : List Byte) (i n : Nat) : List Nat := (List.range n).map (fun k => parW bs (i + k))

/-! ### Operator codes and figures (R201) -/

/-- Vertical radius of an operator. -/
def opRadius (opc : Nat) (ps : List Byte) : Nat :=
  if opc = 0x08 then (parW ps 0 - 1) / 2 else if opc = 0x09 then 2 else if opc = 0x0A ∨ opc = 0x0C ∨ opc = 0x15 then 1
  else if opc = 0x0B then (if parW ps 0 < 2 then 1 else 2) else 0

/-- Lane-operations per pixel. -/
def opCost (opc : Nat) (ps : List Byte) : Nat :=
  if opc = 0x04 then (if parW ps 0 = 6 then 2 else 1)
  else if opc = 0x09 then (if parW ps 0 = 0 then 27 else 12)
  else if opc = 0x0B then (if parW ps 0 < 2 then 4 else 8)
  else if opc = 0x15 then (if parW ps 0 = 0 then 8 else 24)
  else [0, 1, 3, 4, 1, 3, 1, 1, 4, 27, 38, 4, 12, 2, 1, 4, 12, 24, 10, 64, 20, 8, 2, 3, 16, 20, 3, 3, 2].getD opc 0

/-- Block-end cost in cycles. -/
def opEnd (opc : Nat) (ps : List Byte) : Nat :=
  if opc = 0x0E ∨ opc = 0x1A then 512 else if opc = 0x14 ∨ opc = 0x1B then 1024 else if opc = 0x19 then 8 * parW ps 0 else 0

/-- Local memory of an operator for P pixels. -/
def opMem (opc : Nat) (ps : List Byte) (p : Nat) : Nat :=
  if opc = 0x03 then 2050
  else if opc = 0x08 then (2 * parW ps 0 + 4) * p
  else if opc = 0x09 then (if parW ps 0 = 0 then 10 * p else 16 * p)
  else if opc = 0x0A ∨ opc = 0x0C then 6 * p
  else if opc = 0x0B then (if parW ps 0 < 2 then 6 * p else 12 * p)
  else if opc = 0x0D ∨ opc = 0x0E then 4 * p
  else if opc = 0x11 then 6168
  else if opc = 0x13 then 8192
  else if opc = 0x14 then 4096 + 2 * p
  else if opc = 0x15 then (if parW ps 0 = 0 then 2 * p else 6 * p)
  else if opc = 0x18 then 8 * parW ps 0 + 4 * p
  else if opc = 0x19 then 40 * parW ps 0
  else if opc = 0x1A then 1024
  else if opc = 0x1B then 12 * p
  else if opc = 0x1C then 256
  else 0

/-- Parameter words an operator has. -/
def opParams (opc : Nat) (ps : List Byte) : Nat :=
  if opc = 0x09 then (if parW ps 0 = 0 then 27 else 12)
  else [0, 0, 5, 1025, 1, 1, 4, 1, 1, 27, 0, 1, 1, 1, 0, 0, 12, 3085, 0, 3, 1, 1, 1, 1, 1, 1, 1, 0, 0].getD opc 0

/-- Inputs an operator needs: the least number of its sources that must be given (R186). -/
def opNeeds (opc : Nat) (ps : List Byte) : List Nat :=
  if opc = 0x04 ∨ opc = 0x05 ∨ opc = 0x07 ∨ opc = 0x12 ∨ opc = 0x13 ∨ opc = 0x16 then [0, 1]
  else if opc = 0x06 then (if parW ps 2 = 1 then [0] else [0, 1])
  else if opc = 0x14 ∨ opc = 0x19 then [0, 1, 2]
  else [0]

/-- Per-line output (R191). -/
def opLineOut (opc : Nat) : Bool := !(opc == 0x0E || opc == 0x14 || opc == 0x19 || opc == 0x1A || opc == 0x1B)

/-- Parameters within their ranges (R186, R200, R201). -/
def opRange (opc : Nat) (ps : List Byte) : Bool :=
  let w := parW ps
  let depth := fun v => 8 ≤ v && v ≤ 16
  if opc = 0x04 then w 0 ≤ 7
  else if opc = 0x05 then w 0 ≤ 256
  else if opc = 0x06 then w 0 ≤ 5 && w 1 ≤ 1 && w 2 ≤ 1
  else if opc = 0x08 then [3, 5, 7, 9].contains (w 0)
  else if opc = 0x09 then w 0 ≤ 1 && w 1 ≤ 1
  else if opc = 0x0B then w 0 ≤ 3
  else if opc = 0x0C then w 0 ≤ 15
  else if opc = 0x0D then [2, 4, 8].contains (w 0)
  else if opc = 0x11 ∨ opc = 0x14 ∨ opc = 0x16 then depth (w 0)
  else if opc = 0x15 ∨ opc = 0x17 then w 0 ≤ 1
  else if opc = 0x18 ∨ opc = 0x19 then 64 ≤ w 0 && w 0 ≤ 4096
  else if opc = 0x1A then w 0 ≤ 8
  else true

/-! ### Pointwise operators -/

/-- SCALE. -/
def opScale (ps : List Byte) (a : Nat) : Nat :=
  let w := parW ps
  let v := asr (((a : Int) - w 0) * s16 (w 1) + 8192) 14 + s16 (w 2)
  (min (max v (w 3 : Nat)) (w 4 : Nat)).toNat

/-- Interpolation in a table of 1,025 entries (R201). -/
def lutAt (t : List Nat) (a : Nat) : Nat :=
  let i := a / 64 % 1024
  let f := a % 64
  (t.getD i 0 * (64 - f) + t.getD (i + 1) 0 * f + 32) / 64

/-- ARITH. -/
def opArith (mode a b : Nat) : Nat :=
  let x : Int := a
  let y : Int := b
  if mode = 0 then clampU (x + y) else if mode = 1 then clampU (x - y) else if mode = 2 then clampS (x - y)
  else if mode = 3 then (x - y).natAbs else if mode = 4 then min a b else if mode = 5 then max a b
  else if mode = 6 then (a + b + 1) / 2 else clampS (s16 a + s16 b)

/-- BLEND. -/
def opBlend (w a b : Nat) : Nat := (a * (256 - w) + b * w + 128) / 256

/-- CMPSEL. -/
def opCmp (op : Nat) (sgn : Bool) (a b : Nat) : Nat :=
  let x := if sgn then s16 a else (a : Int)
  let y := if sgn then s16 b else (b : Int)
  b2n (if op = 0 then x < y else if op = 1 then x ≤ y else if op = 2 then x = y else if op = 3 then x ≠ y
    else if op = 4 then y ≤ x else y < x)

/-- LUMA. -/
def opLuma (p : List Nat) : Nat :=
  let q := px3 p
  (77 * q.getD 0 0 + 150 * q.getD 1 0 + 29 * q.getD 2 0 + 128) / 256

/-- A row of a 3 × 3 matrix in S2.14 times a pixel. -/
def matRow (m : List Nat) (r : Nat) (q : List Nat) : Int :=
  ((List.range 3).map (fun c => s16 (m.getD (3 * r + c) 0) * (q.getD c 0 : Nat))).sum

/-- CMAT3. -/
def opCmat (ps : List Byte) (p : List Nat) : List Nat :=
  let m := parWs ps 0 9
  let o := parWs ps 9 3
  (List.range 3).map (fun r => clampU (asr (matRow m r (px3 p) + 8192) 14 + s16 (o.getD r 0)))

/-- Integer cube root from bit `k` down. -/
def icbrtGo (n : Nat) : Nat → Nat → Nat
  | 0, r => r
  | k + 1, r =>
    let t := r + 2 ^ k
    icbrtGo n k (if t * t * t ≤ n then t else r)

/-- Entry i of the on-die table F (R202). -/
def labF (i : Nat) : Nat :=
  if 3 ≤ i then
    let n := icbrtGo (2 ^ 34 * i) 16 0
    if (2 * n + 1) ^ 3 ≤ 8 * (2 ^ 34 * i) then n + 1 else n
  else (2 * (i * 64 * 841 * 29 + 65536 * 108) + 108 * 29) / (2 * (108 * 29))

/-- LAB8 (R202). -/
def opLab8 (ps : List Byte) (p : List Nat) : List Nat :=
  let b := parW ps 0
  let q := px3 p
  let lin := (List.range 3).map (fun c => lutAt (parWs ps (1 + 1025 * c) 1025) (q.getD c 0 * 2 ^ (16 - b) % 65536))
  let m := parWs ps 3076 9
  let f := (List.range 3).map (fun r =>
    let v := clampU (asr (matRow m r lin + 8192) 14)
    let i := v / 64
    let g := v % 64
    (((labF i * (64 - g) + labF (i + 1) * g + 32) / 64 : Nat) : Int))
  let fx := f.getD 0 0
  let fy := f.getD 1 0
  let fz := f.getD 2 0
  let l := clampN ((29580 * fy - 66027520).fdiv 1638400) 255
  let a := clampN ((500 * (fx - fy) + 8192).fdiv 16384 + 128) 255
  let bb := clampN ((200 * (fy - fz) + 8192).fdiv 16384 + 128) 255
  [l * 256, a * 256, bb * 256]

/-- DE76 (R203). -/
def opDe76 (p q : List Nat) : Nat :=
  let d := fun i => ((p.getD i 0 : Nat) : Int) - (q.getD i 0 : Nat)
  let v := (100 * d 0) * (100 * d 0) + 65025 * (d 1 * d 1 + d 2 * d 2)
  min ((isqrt (4 * v.toNat) + 255) / 510) 65535

/-- MDIFF. -/
def opMdiff (b a m : Nat) : Nat := clampS (((a * 2 ^ (16 - b) : Nat) : Int) - m)

/-- THRESH (R207): deviation `d`, class `k`, tolerance `tol`. -/
def opThresh (mode d k tol : Nat) : Nat :=
  let never := decide (tol = 0xFFFF)
  if mode = 0 then b2n (!never && decide (tol < (s16 d).natAbs)) + 2 * b2n (decide (s16 d < 0)) + 16 * k
  else b2n (!never && decide (tol < d)) + 16 * k

/-! ### Neighbourhood operators. `r dx dy` reads the input at an offset from the pixel. -/

/-- Offsets of a square of radius `r`, row by row. -/
def sq (r : Nat) : List (Int × Int) :=
  (List.range (2 * r + 1)).flatMap (fun (j : Nat) => (List.range (2 * r + 1)).map (fun (i : Nat) => ((i : Int) - r, (j : Int) - r)))

/-- BOX. -/
def opBox (k : Nat) (rd : Int → Int → Nat) : Nat :=
  let sum := ((sq ((k - 1) / 2)).map (fun o => rd o.1 o.2)).sum
  (sum + k * k / 2) / (k * k)

/-- CONV5. -/
def opConv5 (ps : List Byte) (rd : Int → Int → Nat) : Nat :=
  let sgn := parW ps 1 = 1
  let v := fun dx dy => if sgn then s16 (rd dx dy) else ((rd dx dy : Nat) : Int)
  let cl := fun x => if sgn then clampS x else clampU x
  let off : List Int := [-2, -1, 0, 1, 2]
  if parW ps 0 = 0 then
    let acc := ((sq 2).zipIdx.map (fun e => s16 (parW ps (2 + e.2)) * v e.1.1 e.1.2)).sum
    cl (asr (acc + 8192) 14)
  else
    let t := fun dy => clampI (asr ((off.zipIdx.map (fun e => s16 (parW ps (2 + e.2)) * v e.1 dy)).sum + 8192) 14) (-131072) 131071
    cl (asr ((off.zipIdx.map (fun e => s16 (parW ps (7 + e.2)) * t e.1)).sum + 8192) 14)

/-- Insert into a rising list. -/
def insSorted (x : Nat) : List Nat → List Nat
  | [] => [x]
  | y :: ys => if x ≤ y then x :: y :: ys else y :: insSorted x ys

/-- MEDIAN3. -/
def opMedian (rd : Int → Int → Nat) : Nat := (((sq 1).map (fun o => rd o.1 o.2)).foldr insSorted []).getD 4 0

/-- Least or greatest of the 3 × 3 neighbourhood. -/
def opMinMax (mx : Bool) (rd : Int → Int → Nat) : Nat :=
  let l := (sq 1).map (fun o => rd o.1 o.2)
  if mx then l.foldl max 0 else l.foldl min 65535

/-- SOBEL. -/
def opSobel (sh : Nat) (rd : Int → Int → Nat) : Nat :=
  let v := fun dx dy => ((rd dx dy : Nat) : Int)
  let gx := v 1 (-1) + 2 * v 1 0 + v 1 1 - v (-1) (-1) - 2 * v (-1) 0 - v (-1) 1
  let gy := v (-1) 1 + 2 * v 0 1 + v 1 1 - v (-1) (-1) - 2 * v 0 (-1) - v 1 (-1)
  min ((gx.natAbs + gy.natAbs) / 2 ^ sh) 65535

/-- MWARP of one channel (R206) with fractions in 1/64 pixel. -/
def opWarp (fx fy m00 m10 m01 m11 : Nat) : Nat :=
  ((m00 * (64 - fx) + m10 * fx) * (64 - fy) + (m01 * (64 - fx) + m11 * fx) * fy + 8) / 16 % 65536

end Sys2Proof.Machine
end

