-- ==== Sys2Proof/Machine/Vu.lean ====
section
/-!
DEFINITION. A vision unit at work: its strip (R188), its inputs from the stitched line, the master fetch and other units (R186,
R196, R216), and the evaluation of its chain on a line (R189, R190).
-/
namespace Sys2Proof.Machine

/-! ### The applied STRUCT -/

/-- VU_ASSIGN entry of a logical VU, where it has a chain (R37). -/
def State.assignOf (s : State) (v : Nat) : Option AssignE :=
  match s.cfg.struct with
  | none => none
  | some d => d.assigns.find? (fun a => a.vu == v && a.chain != 0xFFFF)

/-- CHAIN entry by its ID. -/
def State.chainOf (s : State) (id : Nat) : Option ChainE :=
  match s.cfg.struct with
  | none => none
  | some d => d.chains.find? (fun c => c.id == id)

/-- Parameters of slot `k` of a chain for a line of bank `b` (R190). -/
def State.slotPar (s : State) (c : ChainE) (k : Nat) (b : Bool) : List Byte :=
  let own := ((c.slots[k]?).map (·.params)).getD []
  if bitN c.jobmask k then
    match (s.job b).bind (fun j => j.opParams.find? (fun e => e.chain == c.id && e.slot == k)) with
    | some e => e.params
    | none => own
  else own

/-! ### Stitched lines on hand (R14, R188, R189) -/

/-- Index of the newest stitched line on hand. -/
def State.newest (s : State) : Nat := (s.vg.lines.head?.map (·.1)).getD 0

/-- No further line follows: the pipeline stops and every line with a tag has been formed. -/
def State.lastFormed (s : State) : Bool :=
  !s.bit F.CFG_CTL_RUN && s.cfg.trigDis && s.sti.formed == s.sti.refNext

/-- Stitched line y; rows above the first line take the first line's value (R189), rows below the last of a stopped pipeline the last one's. -/
def State.vgLine (s : State) (y : Int) : Option (Nat × SDesc × Pix) :=
  let k := (clampI y s.vg.first s.newest).toNat
  s.vg.lines.find? (fun e => e.1 == k)

/-! ### Master data (R213 to R218) -/

/-- A master pixel and its class, as the fetch delivers them. -/
abbrev MPix := List Nat × Nat

/-- Samples 0 and class 15 (R216). -/
def mNone : MPix := ([0], 15)

/-- The master of a bank that covers stitched pixel x. -/
def State.masterAt (s : State) (b : Bool) (x : Nat) : Option MasterE :=
  (s.job b).bind (fun j => j.masters.find? (fun m => m.x0 ≤ x && x < m.x0 + m.width))

/-- SEG_TILEt words as they stand, where not 0 (R219). -/
def State.tileWords (s : State) : List (Nat × Word) :=
  s.regs.filterMap (fun e => if R.SEG_TILE 0 ≤ e.1 ∧ e.1 < R.SEG_TILE 768 then some ((e.1 - R.SEG_TILE 0) / 4, e.2) else none)

/-- The tile offsets a region uses for the lines of block `blk`: those taken for it, else those that stand now (R216, R219, assumption 77). -/
def State.blkOffs (s : State) (rg blk : Nat) : List (Nat × Word) :=
  match (vget s.vg.regions rg RegionS.init).offs.find? (fun e => e.1 == blk) with
  | some e => e.2
  | none => s.tileWords

/-- Whole part and fraction of the offset of tile `t` that a region uses for block `blk`: (wx, wy, fx, fy) (R219). -/
def State.tileOffs (s : State) (rg blk t : Nat) : Int × Int × Nat × Nat :=
  let w := ((s.blkOffs rg blk).find? (fun e => e.1 == t)).map (fun e => e.2.toNat) |>.getD 0
  let ax := toSigned 14 w
  let ay := toSigned 14 (w / 2 ^ 14)
  (ax.fdiv 64, ay.fdiv 64, (ax.fmod 64).toNat, (ay.fmod 64).toNat)

/-- Column and row of the master under stitched pixel x on a line of block `blk`, moved by (dx, dy), and the tile that holds them. -/
def State.masterPos (s : State) (rg blk : Nat) (nominal : Bool) (d : SDesc) (x : Nat) (dx dy : Int) :
    Option (MasterE × Nat × Nat × Nat) :=
  match d.row, s.masterAt d.tag.bank x with
  | some r, some m =>
    let o := if nominal then (0, 0, 0, 0) else s.tileOffs rg blk (x / 256)
    let col := ((x - m.x0 : Nat) : Int) + o.1 + dx
    if col < 0 ∨ (m.width : Int) ≤ col then none
    else
      let row := (((min r (m.height - 1) : Nat) : Int) + o.2.1 + dy).emod (max 1 m.height : Nat)
      some (m, col.toNat, row.toNat, row.toNat / 256 * ((m.width + 255) / 256) + col.toNat / 256)
  | _, _ => none

/-- The tile delivered to a region for a block, once fetched. -/
def State.mtile (s : State) (rg : Nat) (b : Bool) (idx tile block : Nat) : Option MTile :=
  s.seg.master.find? (fun t => t.bank == b && t.idx == idx && t.tile == tile && t.block == block && bitN t.rgs rg)

/-- A region in fallback code 0x1 gets class 15 everywhere (R425). -/
def State.class15 (s : State) (rg : Nat) : Bool := (vget s.vg.regions rg RegionS.init).fallback == some 1

/-- The master pixel under stitched pixel x on line k, moved by (dx, dy). -/
def State.mpix (s : State) (rg : Nat) (nominal : Bool) (k : Nat) (d : SDesc) (x : Nat) (dx dy : Int) : MPix :=
  match s.masterPos rg (k / 256) nominal d x dx dy with
  | none => mNone
  | some (m, col, row, tile) =>
    match (s.mtile rg d.tag.bank m.idx tile (k / 256)).bind (·.data) with
    | none => mNone
    | some (px, cls) =>
      ((px.getD (row % 256) []).getD (col % 256) [0],
        if s.class15 rg then 15 else if m.classBase = 0 then 0 else (cls.getD (row % 256) []).getD (col % 256) 15)

/-- The tiles a strip of stitched pixels needs for line k, as (master, tile); `coarse` where it ends a row of cells that the chain reads. -/
def State.tilesFor (s : State) (rg k : Nat) (d : SDesc) (xs : List Nat) (fine coarse : Bool) : List (Nat × Nat) :=
  let f := if fine then xs.flatMap (fun x => [(-3, -2), (3, -2), (-3, 2), (3, 2)].map (fun o => s.masterPos rg (k / 256) false d x o.1 o.2)) else []
  let c := if coarse then
      xs.flatMap (fun x => [(-71, -71), (71, -71), (-71, 0), (71, 0), (-71, 71), (71, 71)].map (fun o => s.masterPos rg (k / 256) true d x o.1 o.2))
    else []
  ((f ++ c).filterMap (fun p => p.map (fun e => (e.1.idx, e.2.2.2)))).eraseDups

/-! ### Units and their chains (R185, R425) -/

/-- A unit's running state. -/
def State.vuS (s : State) (v : Nat) : Option VuS := s.vg.units.find? (fun u => u.vu == v)

/-- Change a unit's running state. -/
def State.modVu (s : State) (v : Nat) (f : VuS → VuS) : State :=
  { s with vg := { s.vg with units := s.vg.units.map (fun u => if u.vu = v then f u else u) } }

/-- Region state. -/
def State.region (s : State) (n : Nat) : RegionS := vget s.vg.regions n RegionS.init

/-- Change a region. -/
def State.modRegion (s : State) (n : Nat) (f : RegionS → RegionS) : State :=
  { s with vg := { s.vg with regions := vput s.vg.regions n (f (s.region n)) } }

/-- A unit's place: itself, its strip, its chain. -/
structure Place where
  vu : Nat
  a  : AssignE
  c  : ChainE

/-- Pixels of the strip with its overlaps (R188). -/
def Place.p (u : Place) : Nat := u.a.width + 2 * u.a.overlap

/-- Stitched pixel of position i of P, and clamped into the stitched line. -/
def Place.x (u : Place) (i : Nat) : Int := (u.a.start : Int) - u.a.overlap + i

/-- Logical VUs of region n with a chain, in order. -/
def State.assigned (s : State) (n : Nat) : List Nat := ((List.range 64).map (fun j => 64 * n + j)).filter (fun v => (s.assignOf v).isSome)

/-- The region that takes over region n's strips under fallback code 0x3 (R425). -/
def State.partnerOf (s : State) (n : Nat) : Option Nat :=
  if (s.region n).fallback = some 3 then (s.cfg.struct.bind (fun d => d.fallback[n]?)).map (·.partner) else none

/-- The VUs of a partner region that take strips over, in order. -/
def State.takers (s : State) (p : Nat) : List Nat := (s.assigned p).filter (fun w => !(s.region p).gone.contains w)

/-- The partner's VU that runs its chain over the strip of logical VU v too: the strips and the VUs are taken in order (R425, assumption 80). -/
def State.takerOf (s : State) (v : Nat) : Option Nat :=
  (s.partnerOf (v / 64)).bind (fun p => (s.takers p)[(s.assigned (v / 64)).findIdx (· == v)]?)

/-- The VU whose chain and links work on the strip of logical VU v: its own, but for a strip that is taken over. -/
def State.runVu (s : State) (v : Nat) : Nat := (s.takerOf v).getD v

/-- A VU of the region that runs v's chain, as v's chain sees it: where v's strip is taken over, the strip that VU takes over. -/
def State.sibling (s : State) (v x : Nat) : Nat :=
  match s.takerOf v with
  | none => x
  | some w => if x / 64 = w / 64 then ((s.assigned (v / 64))[(s.takers (w / 64)).findIdx (· == x)]?).getD x else x

/-- The unit has a strip of its own and a chain that works on it. -/
def State.vuPlace (s : State) (v : Nat) : Option Place :=
  match s.assignOf v, s.assignOf (s.runVu v) with
  | some a, some b => (s.chainOf b.chain).map (fun c => { vu := v, a := a, c := c })
  | _, _ => none

/-- Is the strip of logical unit v worked on: its region runs and it is not lost, or a partner's VU takes it over (R424, R425)? -/
def State.unitRuns (s : State) (v : Nat) : Bool :=
  let r := s.region (v / 64)
  match r.fallback with
  | none => true
  | some 0 => false
  | some 3 => (s.takerOf v).isSome
  | some _ => !r.gone.contains v

/-! ### Inputs (R38, R186, R196, R199) -/

/-- What feeds a chain input port. -/
inductive Feed where
  | live | fine | coarse | cls
  | unit (vu port : Nat)
  deriving DecidableEq, Repr

/-- A fixed stream by its kind. -/
def feedOf (k : Nat) : Feed := if k = 1 then .fine else if k = 2 then .coarse else if k = 3 then .cls else .live

/-- What a LINK's source feeds: OUT0 to OUT3 of a unit are ports 8 to 11 (R186); fixed ports 1 to 4 of kind 0x2 are the live line, the fine and the
coarse master and the class plane (assumption 72); any other source feeds what the port reads without a LINK. -/
def feedOfSrc (src p : Nat) : Feed :=
  if src / 2 ^ 28 = 1 then .unit (src / 2 ^ 16 % 4096) (src % 16 - 8)
  else if src / 2 ^ 28 = 2 && 1 ≤ src % 2 ^ 28 && src % 2 ^ 28 ≤ 4 then feedOf (src % 2 ^ 28 - 1)
  else feedOf p

/-- The feed of input port p of a logical VU: its LINK, else the order live, fine, coarse, class (assumption 72). -/
def State.feed (s : State) (v p : Nat) : Feed :=
  match s.cfg.struct with
  | none => feedOf p
  | some d =>
    match d.links.find? (fun l => l.dst / 2 ^ 28 == 1 && l.dst / 2 ^ 16 % 4096 == s.runVu v && l.dst % 16 == p) with
    | none => feedOf p
    | some l => match feedOfSrc l.src p with
      | .unit x q => .unit (s.sibling v x) q
      | f => f

/-- The units that LINKs feed from a unit, each with its LINK's BUF (R38). -/
def State.consumers (s : State) (v : Nat) : List (Nat × Nat) :=
  match s.cfg.struct with
  | none => []
  | some d => (d.links.filter (fun l => l.src / 2 ^ 28 == 1 && l.dst / 2 ^ 28 == 1 && l.src / 2 ^ 16 % 4096 == s.runVu v)).map
      (fun l => (s.sibling v (l.dst / 2 ^ 16 % 4096), l.buf))

/-- The stitched line's pixels over P (R187, R188). -/
def liveLine (u : Place) (w : Nat) (p : Pix) : List (List Nat) :=
  let chans := p.map (fun c => c.toArray)
  (List.range u.p).map (fun i =>
    let x := (clampI (u.x i) 0 ((w : Int) - 1)).toNat
    chans.map (fun c => c.getD x 0))

/-- A line another unit has sent on an output port; between regions only once its block is committed (R199). -/
def State.unitLine (s : State) (v y src port : Nat) : Option (List (List Nat)) :=
  match s.vuS src with
  | none => none
  | some x =>
    if src / 64 ≠ v / 64 && (s.region (src / 64)).block ≤ y / 256 then none
    else (x.outs.find? (fun o => o.1 == port && o.2.1 == y)).map (·.2.2)

/-- Does another unit keep no one waiting for line y: it has taken the line, and committed its block where it lies in another region (R199); a unit
that is lost or stopped sends nothing and is not waited for (R425)? -/
def State.unitDone (s : State) (v y src : Nat) : Bool :=
  !s.unitRuns src ||
  match s.vuS src with
  | none => false
  | some x => y < x.next && (src / 64 == v / 64 || y / 256 < (s.region (src / 64)).block)

/-- Does an output port carry one pixel per stitched column: not DECIM's cells, nor CROP's runs (R187)? -/
def Place.grid (u : Place) (q : Nat) : Bool := u.c.slots.all (fun r => r.out != q || (r.opc != 0x0D && r.opc != 0x1C))

/-- A line of unit `w` as unit `u` reads it: column by column, past the ends of w's P its nearest pixel (R187, R188, assumption 227). -/
def Place.regrid (u w : Place) (l : List (List Nat)) : List (List Nat) :=
  let a := l.toArray
  if l.isEmpty then [] else (List.range u.p).map (fun i => a.getD (clampI (u.x i - w.x 0) 0 ((a.size : Int) - 1)).toNat [])

/-- The line that stands for line y in a region: where only even lines are processed, an odd one reads as the even one before it (assumption 80). -/
def State.lineOf (s : State) (rg : Nat) (y : Int) : Int := if (s.region rg).even then 2 * y.fdiv 2 else y

/-- The cell mean of the master's first channel that stands under the cell of stitched pixel x on line y, moved by (u, v) cells, at the nominal
position (R205, R216). A line not formed yet reads as the newest one. -/
def State.coarseAt (s : State) (rg x y : Nat) (u v : Int) : Nat :=
  let sum := ((List.range 8).map (fun (j : Nat) =>
    match s.vgLine (s.lineOf rg (y / 8 * 8 + j : Nat)) with
    | none => 0
    | some (k, d, _) => ((List.range 8).map (fun c => px1 (s.mpix rg true k d (x / 8 * 8 + c) (8 * u) (8 * v)).1)).sum)).sum
  (sum + 32) / 64

/-- The line an input port of a unit delivers for stitched line y. -/
def State.portLine (s : State) (u : Place) (p : Nat) (y : Int) : List (List Nat) :=
  match s.vgLine (s.lineOf (u.vu / 64) y) with
  | none => []
  | some (k, d, pix) =>
    let w := s.fld F.STI_WIDTH_VALUE
    let rg := u.vu / 64
    let xs := (List.range u.p).map (fun i => (clampI (u.x i) 0 ((w : Int) - 1)).toNat)
    match s.feed u.vu p with
    | .live => liveLine u w pix
    | .fine => xs.map (fun x => (s.mpix rg false k d x 0 0).1)
    | .coarse => xs.map (fun x => [s.coarseAt rg x k 0 0])
    | .cls => xs.map (fun x => [(s.mpix rg false k d x 0 0).2])
    | .unit v q =>
      let l := (s.unitLine u.vu k v q).getD []
      match s.vuPlace v with
      | some w => if w.grid q then u.regrid w l else l
      | none => l

/-! ### Slots (R186, R189) -/

/-- The opcode of a slot. -/
def Place.opc (u : Place) (k : Nat) : Nat := ((u.c.slots[k]?).map (·.opc)).getD 0

/-- The slot record. -/
def Place.slot (u : Place) (k : Nat) : SlotRec := (u.c.slots[k]?).getD { opc := 0 }

/-- Largest sum of radii on a path from a port that `port` picks up to an input code, none where no path leads there; `rad` gives the radius of
a slot, and `f` bounds the slots followed. -/
def pathRadius (u : Place) (rad : Nat → Nat) (port : Nat → Bool) : Nat → Nat → Option Nat
  | 0, _ => none
  | f + 1, code =>
    if code < 4 then (if port code then some 0 else none)
    else if code = 0xFF then none
    else
      let r := u.slot (code - 16)
      (([r.srcA, r.srcB, r.srcC].filterMap (pathRadius u rad port f)).max?).map (· + rad (code - 16))

/-- Does an input code name a port the master fetch's fine data feeds? -/
def State.isFine (s : State) (u : Place) (code : Nat) : Bool := code < 4 && s.feed u.vu code == .fine

/-- Does an input code name a port the master fetch's cell means feed? -/
def State.isCoarse (s : State) (u : Place) (code : Nat) : Bool := code < 4 && s.feed u.vu code == .coarse

/-- The radius of a slot as its chain waits for it: the largest its parameters give in STRUCT and in both banks (R190). MWARP on the master fetch
itself waits for nothing: its row y + 1 comes with line y, as the halo (R216). -/
def State.slotRad (s : State) (u : Place) (k : Nat) : Nat :=
  let r := u.slot k
  if r.opc = 0x15 ∧ s.isFine u r.srcA then 0
  else max (opRadius r.opc r.params) (max (opRadius r.opc (s.slotPar u.c k false)) (opRadius r.opc (s.slotPar u.c k true)))

/-- Lines below y that slot k reads of the chain's inputs for line y (R189). -/
def State.slotRv (s : State) (u : Place) (k : Nat) : Nat := (pathRadius u (s.slotRad u) (fun _ => true) 9 (16 + k)).getD 0

/-- Lines the chain waits for below the line it takes (R189). -/
def State.chainRv (s : State) (u : Place) : Nat := ((List.range u.c.slots.length).map (s.slotRv u)).foldl max 0

/-- Lines below the line taken for which the chain reads the master's fine data or classes. -/
def State.fineRv (s : State) (u : Place) : Nat :=
  let port := fun p => s.feed u.vu p == .fine || s.feed u.vu p == .cls
  ((List.range u.c.slots.length).map (fun k => (pathRadius u (s.slotRad u) port 9 (16 + k)).getD 0)).foldl max 0

/-- T[k] of a class for a bank (R207, R218, R221). -/
def State.tolOf (s : State) (b : Bool) (k : Nat) : Nat :=
  if k = 15 then 0xFFFF
  else ((s.job b).bind (fun j => j.thresh.find? (fun e => e.cls == k))).map (·.tol) |>.getD 0xFFFF

/-- The runs of a labelled line as a line of pixels. -/
def planeOf (u : Place) (runs : List (Nat × Nat × Nat)) : List (List Nat) :=
  (List.range u.p).map (fun i =>
    match runs.find? (fun r => (r.1 : Int) ≤ u.x i && u.x i ≤ (r.2.1 : Int)) with
    | some r => [r.2.2]
    | none => [0])

/-- The label line of slot `k` for line y. -/
def State.labLine (s : State) (u : Place) (k : Nat) (y : Int) : Option LabLine :=
  match (s.vuS u.vu).bind (fun v => v.slots[k]?) with
  | some (.label _ ls) => ls.find? (fun l => (l.line : Int) == y)
  | _ => none

/-- CROP's output on a line: the samples inside open windows, each run prefixed with its x and SLINE, low half first (R211, assumption 198). -/
def cropLine (u : Place) (wins : List CropWin) (y : Nat) (px : List (List Nat)) : List (List Nat) :=
  (wins.filter (fun w => w.y0 ≤ y && y ≤ w.y1)).flatMap (fun w =>
    [[w.x0 % 65536], [w.x0 / 65536], [y % 65536], [y / 65536 % 65536]] ++ (px.drop (w.x0 - u.a.start)).take (w.x1 + 1 - w.x0))

/-- The per-line output of slot `k` for line y, from its inputs' lines (`inp code y`). -/
def State.slotLine (s : State) (u : Place) (k : Nat) (y : Int) (inp : Nat → Int → List (List Nat)) : List (List Nat) :=
  match s.vgLine (s.lineOf (u.vu / 64) y) with
  | none => []
  | some (ky, d, _) =>
    let r := u.slot k
    let ps := s.slotPar u.c k d.tag.bank
    let a := inp r.srcA y
    let b := inp r.srcB y
    let n := u.p
    let one := fun (f : Nat → Nat) => a.map (fun p => [f (px1 p)])
    let two := fun (f : Nat → Nat → Nat) => a.zipWith (fun p q => [f (px1 p) (px1 q)]) b
    -- Neighbourhoods: taps outside P read the nearest end (R188).
    let rad := opRadius r.opc ps
    let rows := ((List.range (2 * rad + 1)).map (fun (j : Nat) => (inp r.srcA (y + j - rad)).toArray)).toArray
    let at_ := fun (i : Nat) (dx dy : Int) =>
      (rows.getD (dy + rad).toNat #[]).getD (clampI ((i : Int) + dx) 0 ((n : Int) - 1)).toNat []
    let nb := fun (f : (Int → Int → Nat) → Nat) =>
      (List.range n).map (fun i => [f (fun dx dy => px1 (at_ i dx dy))])
    let opc := r.opc
    if opc = 0x01 then one id
    else if opc = 0x02 then one (opScale ps)
    else if opc = 0x03 then let t := parWs ps 0 1025; one (lutAt t)
    else if opc = 0x04 then two (opArith (parW ps 0))
    else if opc = 0x05 then
      if r.srcC = 0xFF then two (opBlend (parW ps 0))
      else ((a.zip b).zip (inp r.srcC y)).map (fun e => [opBlend (min 256 (px1 e.2 % 512)) (px1 e.1.1) (px1 e.1.2)])
    else if opc = 0x06 then
      if parW ps 2 = 1 then one (fun v => opCmp (parW ps 0) (parW ps 1 = 1) v (parW ps 3))
      else two (opCmp (parW ps 0) (parW ps 1 = 1))
    else if opc = 0x07 then a.zipWith (fun p q => if px1 q ≠ 0 then p else p.map (fun _ => parW ps 0)) b
    else if opc = 0x08 then nb (opBox (parW ps 0))
    else if opc = 0x09 then nb (opConv5 ps)
    else if opc = 0x0A then nb opMedian
    else if opc = 0x0B then
      let m := parW ps 0
      if m < 2 then nb (opMinMax (m = 1))
      else (List.range n).map (fun (i : Nat) => [opMinMax (m = 2) (fun dx dy =>
        let j := (clampI ((i : Int) + dx) 0 ((n : Int) - 1)).toNat
        opMinMax (m = 3) (fun ex ey => px1 (at_ j ex (dy + ey))))])
    else if opc = 0x0C then nb (opSobel (parW ps 0))
    else if opc = 0x0F then a.map (fun p => [opLuma p])
    else if opc = 0x10 then a.map (opCmat ps)
    else if opc = 0x11 then a.map (opLab8 ps)
    else if opc = 0x12 then a.zipWith (fun p q => [opDe76 (px3 p) (px3 q)]) b
    else if opc = 0x13 then
      a.zipWith (fun p q => [de2000 (max 1 (parW ps 0)) (max 1 (parW ps 1)) (max 1 (parW ps 2)) (px3 p) (px3 q)]) b
    else if opc = 0x15 then
      let lab := parW ps 0 = 1
      let fine := s.isFine u r.srcA
      (List.range n).map (fun i =>
        let x := (clampI (u.x i) 0 ((s.fld F.STI_WIDTH_VALUE : Int) - 1)).toNat
        let o := s.tileOffs (u.vu / 64) (ky / 256) (x / 256)
        let m := fun (dx dy : Int) => if fine then (s.mpix (u.vu / 64) false ky d x dx dy).1 else at_ i dx dy
        let ch := fun (c : Nat) =>
          let g := fun (dx dy : Int) => if lab then (px3 (m dx dy)).getD c 0 else px1 (m dx dy)
          opWarp o.2.2.1 o.2.2.2 (g 0 0) (g 1 0) (g 0 1) (g 1 1)
        if lab then [ch 0, ch 1, ch 2] else [ch 0])
    else if opc = 0x16 then two (opMdiff (parW ps 0))
    else if opc = 0x17 then
      let cls := if r.srcB = 0xFF then List.replicate n [0] else b
      a.zipWith (fun p q => [opThresh (parW ps 0) (px1 p) (px1 q % 16) (s.tolOf d.tag.bank (px1 q % 16))]) cls
    else if opc = 0x18 then
      match s.labLine u k ky with
      | some l => planeOf u l.runs
      | none => []
    else if opc = 0x1C then cropLine u (((s.vuS u.vu).map (·.wins)).getD []) ky ((a.drop u.a.overlap).take u.a.width)
    else []

/-- The line an input code delivers for stitched line y; `f` bounds the slots followed. -/
def State.codeLine (s : State) (u : Place) : Nat → Nat → Int → List (List Nat)
  | 0, _, _ => []
  | f + 1, code, y =>
    if code < 4 then s.portLine u code y
    else if code = 0xFF then []
    else s.slotLine u (code - 16) y (fun c yy => s.codeLine u f c yy)

/-- Input line of a slot's source. -/
def State.srcLine (s : State) (u : Place) (code : Nat) (y : Int) : List (List Nat) := s.codeLine u 9 code y

/-- The strip proper of a line over P. -/
def Place.proper {α : Type} (u : Place) (l : List α) : List α := (l.drop u.a.overlap).take u.a.width

end Sys2Proof.Machine
end

