-- ==== Sys2Proof/Machine/Lbl.lean ====
section
/-!
DEFINITION. LABEL and ACCUM (R208, R209), and the block-end tables of COLPROF, HIST, NOZPROF and MREG (R205, R210).
-/
namespace Sys2Proof.Machine

/-! ### LABEL (R208) -/

/-- The overflow label. -/
def lblOvf : Nat := 0xFFFF

/-- Runs of positions whose value is not 0, as stitched pixels: first, last, value. `same` splits runs of different values. -/
def valueRuns (x0 : Nat) (l : List Nat) : List (Nat × Nat × Nat) :=
  (l.zipIdx.foldl (fun (acc : List (Nat × Nat × Nat)) e =>
    let x := x0 + e.2
    if e.1 = 0 then acc
    else match acc with
      | (a, b, v) :: rest => if b + 1 = x ∧ v = e.1 then (a, x, v) :: rest else (x, x, e.1) :: acc
      | [] => [(x, x, e.1)]) []).reverse

/-- The label a label stands for. -/
def repOf (rep : List (Nat × Nat)) (l : Nat) : Nat := ((rep.find? (fun e => e.1 == l)).map (·.2)).getD l

/-- One line of LABEL: `prev` holds the runs of the line before with their labels, `runs` those of this line. Answers the line and the runs
that found no free label. -/
def labelLine (lmax y : Nat) (prev : List (Nat × Nat × Nat)) (runs : List (Nat × Nat)) : LabLine × Nat :=
  let used := prev.map (·.2.2)
  let r := runs.foldl (fun (acc : List (Nat × Nat × Nat) × List (Nat × Nat) × List Nat × Nat) r =>
    let (out, rep, fresh, ovf) := acc
    let joined := (prev.filter (fun p => r.1 ≤ p.2.1 + 1 && p.1 ≤ r.2 + 1)).map (·.2.2)
    let real := joined.filter (· != lblOvf)
    if joined.isEmpty then
      match (List.range lmax).find? (fun k => !used.contains (k + 1) && !fresh.contains (k + 1)) with
      | some k => (out ++ [(r.1, r.2, k + 1)], rep, (k + 1) :: fresh, ovf)
      | none => (out ++ [(r.1, r.2, lblOvf)], rep, fresh, ovf + 1)
    else match real with
      | [] => (out ++ [(r.1, r.2, lblOvf)], rep, fresh, ovf)
      | x :: _ =>
        let roots := real.map (repOf rep)
        let m := roots.foldl min (repOf rep x)
        (out ++ [(r.1, r.2, m)], rep.map (fun e => if roots.contains e.2 then (e.1, m) else e), fresh, ovf))
    ([], (used.filter (· != lblOvf)).eraseDups.map (fun l => (l, l)), [], 0)
  let rep := r.2.1
  ({ line := y, runs := r.1.map (fun e => (e.1, e.2.1, repOf rep e.2.2)), unions := rep.filter (fun e => e.1 != e.2) }, r.2.2.2)

/-- Lines from one that a region processes to the next: 2 where it processes even lines only (R425). -/
def State.lineStep (s : State) (rg : Nat) : Nat := if (s.region rg).even then 2 else 1

/-- Is line y the last of its block that a region processes? -/
def State.lastLine (s : State) (rg y : Nat) : Bool := y % 256 + s.lineStep rg == 256

/-- Does line y begin a new bank inside its block, in a region (R61)? -/
def State.bankTurn (s : State) (rg y : Nat) : Bool :=
  y % 256 != 0 && (match s.vgLine y, s.vgLine ((y : Int) - s.lineStep rg) with
    | some (_, d, _), some (_, e, _) => d.tag.bank != e.tag.bank
    | _, _ => false)

/-- LABEL slot `k` takes its next line, where that is at most `lim`. On pre-roll lines it counts no overflow (R198). -/
def State.labelStep (s : State) (u : Place) (k lim : Nat) : State :=
  match (s.vuS u.vu).bind (fun v => v.slots[k]?) with
  | some (.label y ls) =>
    if lim < y then s
    else
      let ps := s.slotPar u.c k ((s.vgLine y).map (fun e => e.2.1.tag.bank) |>.getD false)
      let mask := (u.proper (s.srcLine u (u.slot k).srcA y)).map (fun p => px1 p % 2)
      let runs := (valueRuns u.a.start mask).map (fun r => (r.1, r.2.1))
      let prev := if y % 256 = 0 || s.bankTurn (u.vu / 64) y then [] else ((ls.head?.map (·.runs)).getD [])
      let r := labelLine (parW ps 0) y prev runs
      let s := s.modVu u.vu (fun v => { v with slots := v.slots.set k (.label (y + s.lineStep (u.vu / 64)) ((r.1 :: ls).take 80)) })
      if r.2 = 0 || y / 256 < (s.region (u.vu / 64)).block then s
      else (s.flag (F.VG_STAT_LBL_OVF (u.vu / 64))).addCnt (F.VG_LBL_CNT_OVF_CNT (u.vu / 64)) (F.VG_LBL_CNT_SAT (u.vu / 64)) r.2
  | _ => s

/-! ### ACCUM (R209) -/

/-- A label's accumulators before its first pixel. -/
def Acc.empty (l y : Nat) : Acc :=
  { label := l, area := 0, xmin := 2 ^ 18, xmax := 0, ymin := y, ymax := y, sx := 0, sy := 0, sd := 0, peak := 0,
    peakNeg := false, cls := 0, dark := 0, runs := [], live := true }

/-- One pixel: position, line, line of the block's start, |d|, d negative, class, dark. -/
def Acc.add (a : Acc) (x y y0 d : Nat) (neg : Bool) (k dark : Nat) : Acc :=
  { a with
    area := a.area + 1, xmin := min a.xmin x, xmax := max a.xmax x, ymin := min a.ymin y, ymax := max a.ymax y, sx := a.sx + x,
    sy := a.sy + (y - y0), sd := a.sd + d, peak := max a.peak d, peakNeg := if a.peak < d then neg else a.peakNeg,
    cls := Nat.lor a.cls (2 ^ k), dark := a.dark + dark, live := true }

/-- Two labels unite (R209): the sign of the larger peak survives, of the smaller label on a tie. -/
def Acc.merge (a b : Acc) : Acc :=
  let lo := if a.label ≤ b.label then a else b
  { label := min a.label b.label, area := a.area + b.area, xmin := min a.xmin b.xmin, xmax := max a.xmax b.xmax,
    ymin := min a.ymin b.ymin, ymax := max a.ymax b.ymax, sx := a.sx + b.sx, sy := a.sy + b.sy, sd := a.sd + b.sd,
    peak := max a.peak b.peak,
    peakNeg := if a.peak = b.peak then lo.peakNeg else if b.peak < a.peak then a.peakNeg else b.peakNeg,
    cls := Nat.lor a.cls b.cls, dark := a.dark + b.dark, runs := a.runs ++ b.runs, live := a.live || b.live }

/-- Unite label `e.1` into `e.2`. -/
def accUnite (accs : List Acc) (e : Nat × Nat) : List Acc :=
  match accs.find? (fun a => a.label == e.1) with
  | none => accs
  | some x =>
    let rest := accs.filter (fun a => a.label != e.1)
    if rest.any (fun a => a.label == e.2) then rest.map (fun a => if a.label = e.2 then a.merge x else a)
    else rest ++ [{ x with label := e.2 }]

/-- Change a label's accumulators, made where the label is new. -/
def accMod (accs : List Acc) (l y : Nat) (f : Acc → Acc) : List Acc :=
  if accs.any (fun a => a.label == l) then accs.map (fun a => if a.label = l then f a else a) else accs ++ [f (Acc.empty l y)]

/-- A run on a boundary column grows by line offset `off`, `st` lines after the line before. -/
def colRun (st edge off : Nat) (a : Acc) : Acc :=
  if a.runs.any (fun r => r.1 == edge && r.2.2 + st == off) then
    { a with runs := a.runs.map (fun r => if r.1 = edge ∧ r.2.2 + st = off then (edge, r.2.1, off) else r) }
  else { a with runs := a.runs ++ [(edge, off, off)] }

/-- One line of ACCUM: labels, magnitudes with signs, masks of the strip proper; `st` lines after the line before. -/
def accLine (st x0 w y : Nat) (unions : List (Nat × Nat)) (labs : List Nat) (devs : List (Nat × Bool)) (masks : List Nat)
    (accs : List Acc) : List Acc :=
  let off := y % 256
  let accs := (unions.foldl accUnite accs).map (fun a => { a with live := false })
  let accs := ((labs.zip devs).zip masks).zipIdx.foldl (fun accs e =>
    let l := e.1.1.1
    if l = 0 then accs
    else accMod accs l y (fun a => a.add (x0 + e.2) y (y - off) e.1.1.2.1 e.1.1.2.2 (e.1.2 / 16 % 16) (e.1.2 / 2 % 2))) accs
  let first := labs.getD 0 0
  let last := labs.getD (w - 1) 0
  let accs := if first = 0 then accs else accMod accs first y (colRun st 0 off)
  let accs := if last = 0 then accs else accMod accs last y (colRun st 1 off)
  let edge := fun (k : Nat) (accs : List Acc) =>
    (valueRuns x0 labs).foldl (fun accs r => accMod accs r.2.2 y (fun a => { a with runs := a.runs ++ [(k, r.1, r.2.1)] })) accs
  let accs := if off = 0 then edge 2 accs else accs
  if off + st = 256 then edge 3 accs else accs

/-- The partials that leave after a line: closed labels, and at a block end or a change of bank (`flush`) every label; the rest stays. -/
def accFlush (at_ vu blk : Nat) (bank flush cut : Bool) (accs : List Acc) : List Partial × List Acc :=
  let mk := fun (kind : Nat) (c : Bool) (a : Acc) =>
    ({ kind := kind, attempt := at_, vu := vu, block := blk, acc := a, bank := bank, cut := c } : Partial)
  let ps := accs.filterMap (fun a =>
    if a.label = lblOvf then (if flush then some (mk 3 cut a) else none)
    else if !a.live then some (mk 1 false a)
    else if flush then some (mk (if cut then 1 else 2) cut a) else none)
  (ps, if flush then [] else accs.filter (fun a => a.live || a.label == lblOvf))

/-- Send partials to the region's merge node. -/
def State.addPartials (s : State) (rg : Nat) (ps : List Partial) : State :=
  s.modRegion rg (fun r => { r with partials := r.partials ++ ps })

/-- ACCUM slot `k` takes line y. -/
def State.accumStep (s : State) (u : Place) (k y : Nat) (accs : List Acc) : State :=
  let rg := u.vu / 64
  let r := u.slot k
  let att := s.fld (F.VG_STAT_ATTEMPT rg)
  let bank := (s.vgLine y).map (fun e => e.2.1.tag.bank) |>.getD false
  -- R61: at the first line of the new bank, what was open at the last line of the old one is closed.
  let turn := s.bankTurn rg y
  let f0 := if turn then accFlush att u.vu (y / 256) (!bank) true true accs else ([], accs)
  let labs := (u.proper (s.srcLine u r.srcA y)).map px1
  let de := if 16 ≤ r.srcB ∧ r.srcB < 24 then u.opc (r.srcB - 16) = 0x12 ∨ u.opc (r.srcB - 16) = 0x13 else False
  let devs := (u.proper (s.srcLine u r.srcB y)).map (fun p =>
    if de then (px1 p, false) else ((s16 (px1 p)).natAbs, decide (s16 (px1 p) < 0)))
  let masks := (u.proper (s.srcLine u r.srcC y)).map px1
  let unions := if 16 ≤ r.srcA ∧ r.srcA < 24 then ((s.labLine u (r.srcA - 16) y).map (·.unions)).getD [] else []
  let accs := accLine (s.lineStep rg) u.a.start u.a.width y unions labs devs masks f0.2
  let f1 := accFlush att u.vu (y / 256) bank (s.lastLine rg y) false accs
  (s.addPartials rg (f0.1 ++ f1.1)).modVu u.vu (fun v => { v with slots := v.slots.set k (.accum f1.2) })

/-! ### Block-end tables (R205, R210) -/

/-- Add to element `i` of a list. -/
def addAt (l : List Nat) (i d : Nat) : List Nat := l.modify i (· + d)

/-- The camera whose span holds stitched pixel x (R168, R210). -/
def State.camAt (s : State) (x : Nat) : Option Nat :=
  (List.range 12).find? (fun c => s.camUsed c && s.fld (F.STI_CAM_SPAN0_X c) ≤ x && x ≤ s.fld (F.STI_CAM_SPAN1_X c))

/-- NOZPROF takes a line. -/
def State.nozStep (s : State) (x0 short : Nat) (ds : List Nat) (cols : List (Int × Nat × Nat)) : List (Int × Nat × Nat) :=
  ((cols.zip ds).zipIdx).map (fun e =>
    let c := e.1.1
    let d := s16 e.1.2
    match s.camAt (x0 + e.2) with
    | some n => if bitN short n then c else (c.1 + d, c.2.1 + d.natAbs * d.natAbs, c.2.2 + 1)
    | none => (c.1 + d, c.2.1 + d.natAbs * d.natAbs, c.2.2 + 1))

/-- Live sample of MREG in 8 bits (R205). -/
def mreg8 (b a : Nat) : Nat := if b ≤ 8 then a else min ((a + 2 ^ (b - 9)) / 2 ^ (b - 8)) 255

/-- Change a tile's tables, made where the tile is new. -/
def tileMod (ts : List TileTab) (t : Nat) (f : TileTab → TileTab) : List TileTab :=
  if ts.any (fun x => x.tile == t) then ts.map (fun x => if x.tile = t then f x else x)
  else ts ++ [f { tile := t, nc := 0, nf := 0, sadc := List.replicate 289 0, sadf := List.replicate 25 0 }]

/-- MREG takes line y (R205). -/
def State.mregStep (s : State) (u : Place) (k y : Nat) (ts : List TileTab) : List TileTab :=
  match s.vgLine y with
  | none => ts
  | some (ky, d, _) =>
    let r := u.slot k
    let rg := u.vu / 64
    let b := parW (s.slotPar u.c k d.tag.bank) 0
    let live := fun (yy : Nat) => ((u.proper (s.srcLine u r.srcA yy)).map (fun p => mreg8 b (px1 p))).toArray
    let x0 := u.a.start
    let xs := List.range u.a.width
    let fineAt := fun (x : Nat) (dx dy : Int) =>
      if s.isFine u r.srcB then px1 (s.mpix rg false ky d x dx dy).1
      else
        let i := (clampI ((x : Int) + dx - x0 + u.a.overlap) 0 ((u.p : Int) - 1)).toNat
        px1 ((s.srcLine u r.srcB (min ((y : Int) + dy) y)).getD i [])
    let ts := if y % 4 = 0 then
        let l := live y
        (xs.filter (fun i => (x0 + i) % 4 == 0)).foldl (fun ts i =>
          let x := x0 + i
          tileMod ts (x / 256) (fun t => { t with
            nf := t.nf + 1,
            sadf := t.sadf.zipWith (· + ·) ((sq 2).map (fun o =>
              (((l.getD i 0 : Nat) : Int) - (fineAt x o.1 o.2 : Nat)).natAbs)) })) ts
      else ts
    if y % 8 + s.lineStep rg = 8 then
      let ls := (List.range 8).map (fun j => live (y / 8 * 8 + j))
      let coarse := fun (x : Nat) (u8 v8 : Int) =>
        if s.isCoarse u r.srcC then s.coarseAt rg x y u8 v8
        else
          let i := (clampI ((x : Int) + 8 * u8 - x0 + u.a.overlap) 0 ((u.p : Int) - 1)).toNat
          px1 ((s.srcLine u r.srcC (min (((y / 8 * 8 : Nat) : Int) + 8 * v8) y)).getD i [])
      (xs.filter (fun i => (x0 + i) % 8 == 0 && i + 8 ≤ u.a.width)).foldl (fun ts i =>
        let x := x0 + i
        let c := ((ls.map (fun l => ((List.range 8).map (fun q => l.getD (i + q) 0)).sum)).sum + 32) / 64
        tileMod ts (x / 256) (fun t => { t with
          nc := t.nc + 1,
          sadc := t.sadc.zipWith (· + ·) ((sq 8).map (fun o => ((c : Int) - (coarse x o.1 o.2 : Nat)).natAbs)) })) ts
    else ts

/-- A table leaves for SEG at the block's end. -/
def State.addTable (s : State) (rg : Nat) (t : BlkTab) : State := s.modRegion rg (fun r => { r with tables := r.tables ++ [t] })

/-- A slot that keeps something over the lines of a block takes line y (R205, R208 to R210). -/
def State.slotStep (s : State) (u : Place) (k y : Nat) : State :=
  match (s.vuS u.vu).bind (fun v => v.slots[k]?) with
  | none => s
  | some st =>
    let r := u.slot k
    let rg := u.vu / 64
    let last := s.lastLine rg y
    let att := s.fld (F.VG_STAT_ATTEMPT rg)
    let a := fun () => (u.proper (s.srcLine u r.srcA y)).map px1
    let keep := fun (s : State) (x : SlotSt) => s.modVu u.vu (fun v => { v with slots := v.slots.set k x })
    match st with
    | .none => s
    | .label _ _ => s
    | .accum accs => s.accumStep u k y accs
    | .colprof sums =>
      let n := sums.zipWith (· + ·) (a ())
      if last then (keep s (.colprof (List.replicate u.a.width 0))).addTable rg
        (.colprof att u.vu u.a.start (n.map (fun v => (v + 128) / 256 % 65536)))
      else keep s (.colprof n)
    | .hist bins =>
      let sh := parW (s.slotPar u.c k ((s.vgLine y).map (fun e => e.2.1.tag.bank) |>.getD false)) 0
      let n := (a ()).foldl (fun b v => addAt b (min (v / 2 ^ sh) 255) 1) bins
      if last then (keep s (.hist (List.replicate 256 0))).addTable rg (.hist att u.vu n) else keep s (.hist n)
    | .noz cols =>
      let n := s.nozStep u.a.start ((s.vgLine y).map (fun e => e.2.1.short) |>.getD 0) (a ()) cols
      if last then (keep s (.noz (List.replicate u.a.width (0, 0, 0)))).addTable rg (.noz att u.vu u.a.start n) else keep s (.noz n)
    | .mreg ts =>
      let n := s.mregStep u k y ts
      if last then (keep s (.mreg [])).addTable rg (.mreg att u.vu n) else keep s (.mreg n)

/-- LABEL's state at the first line y of a block, in a region that takes every `st`-th line. It may have run ahead into the block already; after a
restart it starts at the pre-roll line `from_`, so that the lines above the block are there for the slots that read them (R198). -/
def labelInit (st y from_ : Nat) (old : SlotSt) : SlotSt :=
  let up := fun (k : Nat) => st * ceilDiv k st
  match old with
  | .label next ls => .label (up (max y next)) ls
  | _ => .label (up from_) []

/-- A slot's state at the first line of a block (R198, R205, R208 to R210). -/
def slotInit (st : Nat) (u : Place) (k y from_ : Nat) (old : SlotSt) : SlotSt :=
  let o := u.opc k
  if o = 0x0E then .colprof (List.replicate u.a.width 0)
  else if o = 0x14 then .mreg []
  else if o = 0x18 then labelInit st y from_ old
  else if o = 0x19 then .accum []
  else if o = 0x1A then .hist (List.replicate 256 0)
  else if o = 0x1B then .noz (List.replicate u.a.width (0, 0, 0))
  else .none

end Sys2Proof.Machine
end

