-- ==== Sys2Proof/Machine/Region.lean ====
section
/-!
DEFINITION. Regions at work: units taking lines (R188 to R192), crop windows (R211, R241), commit (R199), replay, retirement and
degraded regions (R184, R198, R420 to R425) and the nozzle monitor (R267 to R269).
-/
namespace Sys2Proof.Machine

/-! ### Units of a region -/

/-- Units of region n that run. -/
def State.runUnits (s : State) (n : Nat) : List VuS := s.vg.units.filter (fun u => u.vu / 64 == n && s.unitRuns u.vu)

/-- Does region n go over to even lines: its strips are in a partner, or it is one (R425)? -/
def State.evenOnly (s : State) (n : Nat) : Bool :=
  (List.range 8).any (fun m => ((s.region m).fallback == some 3 || (m == n && (s.region m).fallNext == some 3)) &&
    (m == n || (match s.cfg.struct with
      | none => false
      | some d => ((d.fallback[m]?).map (·.partner)).getD 8 == n)))

/-- Physical unit that holds a logical one. -/
def State.physOfVu (s : State) (v : Nat) : Nat := s.fld (F.VG_VU_MAP_PHYS (v / 64) (v % 64))

/-- Logical unit of a physical one in its region, if any. -/
def State.logicalOf (s : State) (pu : Nat) : Option Nat :=
  ((List.range 64).map (fun j => 64 * (pu / 72) + j)).find? (fun v => s.physOfVu v == pu)

/-- PUk_STAT.STATE of a physical unit. -/
def puState (pu : Nat) : Fld := F.VG_PU_STAT_STATE (pu / 72) (pu % 72)

/-! ### Crop windows (R211, R241) -/

/-- The windows of a unit with CROP for objects in order of their IDs, each with its columns and lines: widened by MARGIN in x, cut to the
strip, at most 16; and whether some object found no place (R211, R241). -/
def State.cropWins (s : State) (u : Place) (l : List (Nat × Nat × Nat × Nat × Nat)) : List CropWin × Bool :=
  let m := s.fld F.SEG_CROP_CTL_MARGIN
  let ws := l.filterMap (fun e =>
    let w : CropWin := { obj := e.1, x0 := max (e.2.1 - m) u.a.start, x1 := min (e.2.2.1 + m) (u.a.start + u.a.width - 1), y0 := e.2.2.2.1, y1 := e.2.2.2.2 }
    if w.x0 ≤ w.x1 then some w else none)
  (ws.take 16, 16 < ws.length)

/-- Does CROP's input come through a LINK with BUF of 17 or more, and so after its block's resolution (R241)? -/
def State.cropLate (s : State) (u : Place) (k : Nat) : Bool :=
  let p := (u.slot k).srcA
  match s.cfg.struct with
  | none => false
  | some d => p < 4 && d.links.any (fun l => l.dst / 2 ^ 28 == 1 && l.dst / 2 ^ 16 % 4096 == s.runVu u.vu && l.dst % 16 == p && 17 ≤ l.buf)

/-- Does CROP's output port lead to SEG's crop writer: a port without a LINK, or with one that does not end at a unit (assumption 198)? Internal
results (OUT = 0xFF) leave nowhere. -/
def State.cropLeaves (s : State) (u : Place) (k : Nat) : Bool :=
  let q := (u.slot k).out
  q < 4 && (match s.cfg.struct with
    | none => true
    | some d =>
      let ls := d.links.filter (fun l => l.src / 2 ^ 28 == 1 && l.src / 2 ^ 16 % 4096 == s.runVu u.vu && l.src % 16 == 8 + q)
      ls.isEmpty || ls.any (fun l => l.dst / 2 ^ 28 != 1))

/-- Depth B of CROP's input (R242): the group's for the stitched line, 8 for master data, 16 for an operator's output. -/
def State.cropDepth (s : State) (u : Place) (k : Nat) : Nat :=
  let p := (u.slot k).srcA
  if 4 ≤ p then 16
  else match s.feed u.vu p with
    | .live => s.depth s.refCam
    | .unit _ _ => 16
    | _ => 8

/-- The samples of line y inside windows leave for SEG (R211). -/
def State.cropRuns (s : State) (u : Place) (k y : Nat) (ws : List CropWin) : State :=
  let px := u.proper (s.srcLine u (u.slot k).srcA y)
  let runs := ws.filterMap (fun w =>
    if w.y0 ≤ y ∧ y ≤ w.y1 ∧ !px.isEmpty then
      some ({ obj := w.obj, line := y, x := w.x0, depth := s.cropDepth u k, px := (px.drop (w.x0 - u.a.start)).take (w.x1 + 1 - w.x0) } : CropRun)
    else none)
  { s with seg := { s.seg with crops := s.seg.crops ++ runs } }

/-- CROP units whose input comes late. -/
def State.lateCrops (s : State) (n : Nat) (p : Place × Nat → State → State) : State :=
  (s.vg.units.filter (fun u => u.vu / 64 == n)).foldl (fun s v =>
    match s.vuPlace v.vu with
    | none => s
    | some u => (List.range u.c.slots.length).foldl (fun s k =>
        if u.opc k = 0x1C && s.cropLate u k then p (u, k) s else s) s) s

/-- CROP's output for line y leaves: on its port, and to SEG where the port leads there (R211). -/
def State.cropSend (s : State) (u : Place) (k y : Nat) (ws : List CropWin) : State :=
  let r := u.slot k
  let l := cropLine u ws y (u.proper (s.srcLine u r.srcA y))
  let s := if r.out < 4 && !l.isEmpty then s.modVu u.vu (fun v => { v with outs := ((r.out, y, l) :: v.outs).take 17408 }) else s
  if s.cropLeaves u k then s.cropRuns u k y ws else s

/-- CROP takes a line: at a block's first line SEG writes the windows of the live objects (R241); the samples inside open windows leave on the
output port (R211), and nothing does in a region under fallback code 0x2 (R425). A late input waits for its block's resolution. -/
def State.cropStep (s : State) (u : Place) (k y : Nat) : State :=
  if !s.bit F.SEG_CTL_CROP_EN || s.cropLate u k then s
  else
    let s := if y % 256 = 0 then
        let w := s.cropWins u ((s.seg.objs.filter (·.crop)).map (fun o => (o.id, o.acc.xmin, o.acc.xmax, y, y + 255)))
        let s := s.modVu u.vu (fun v => { v with wins := w.1 ++ v.wins.filter (fun x => y ≤ x.y0 + 256) })
        if w.2 then s.flag F.SEG_STAT_CROP_MISS else s
      else s
    if (s.region (u.vu / 64)).fallback == some 2 then s
    else s.cropSend u k y (((s.vuS u.vu).map (·.wins)).getD [])

/-- Late CROP inputs meet the windows of a block just resolved: `l` gives each CROP object's ID and its columns and lines in the block
(R241). The boxes are widened by MARGIN and cut to the block. -/
def State.cropBlock (s : State) (b : Nat) (l : List (Nat × Nat × Nat × Nat × Nat)) : State :=
  let m := s.fld F.SEG_CROP_CTL_MARGIN
  let l := l.map (fun e => (e.1, e.2.1, e.2.2.1, max (256 * b) (e.2.2.2.1 - m), min (256 * b + 255) (e.2.2.2.2 + m)))
  (List.range 8).foldl (fun s n =>
    if (s.region n).fallback == some 2 then s
    else s.lateCrops n (fun p s =>
      let w := s.cropWins p.1 l
      let s := if w.2 then s.flag F.SEG_STAT_CROP_MISS else s
      (List.range 256).foldl (fun s j => if j % s.lineStep n = 0 then s.cropSend p.1 p.2 (256 * b + j) w.1 else s) s)) s

/-! ### A unit takes a line (R189, R192) -/

/-- DECIM (R201): a line of cells leaves with the last line of a row of cells. -/
def State.decim (s : State) (u : Place) (k y : Nat) : Option (List (List Nat)) :=
  let f := parW (s.slotPar u.c k ((s.vgLine y).map (fun e => e.2.1.tag.bank) |>.getD false)) 0
  let y := if (s.region (u.vu / 64)).even then y + 1 else y
  if (y + 1) % f ≠ 0 then none
  else
    let rows := (List.range f).map (fun (j : Nat) => ((s.srcLine u (u.slot k).srcA ((y : Int) - j)).map px1).toArray)
    let skip := ((u.x 0 + f - 1).fdiv f * f - u.x 0).toNat
    some ((List.range ((u.p - skip) / f)).map (fun c =>
      let sum := (rows.map (fun r => ((List.range f).map (fun i => r.getD (skip + c * f + i) 0)).sum)).sum
      [(sum + f * f / 2) / (f * f)]))

/-- The result of a slot that leaves on an output port (R185). -/
def State.outStep (s : State) (u : Place) (k y : Nat) : State :=
  let r := u.slot k
  let send := fun (s : State) (l : List (List Nat)) => s.modVu u.vu (fun v => { v with outs := ((r.out, y, l) :: v.outs).take 17408 })
  if r.opc = 0x1C then s.cropStep u k y
  else if r.opc = 0x0D then
    match s.decim u k y with
    | some l => if r.out < 4 then send s l else s
    | none => s
  else if r.out < 4 && opLineOut r.opc then send s (s.srcLine u (16 + k) y)
  else s

/-- LABEL runs ahead by what the chain's radius leaves after it, so that later slots find its lines. -/
def labelAhead (u : Place) (k lim : Nat) : Nat → State → State
  | 0, s => s
  | f + 1, s => labelAhead u k lim f (s.labelStep u k lim)

/-- Line cost of a chain for the strip, without block-end work (R192). -/
def Place.lineCost (u : Place) : Nat :=
  48 + (u.c.slots.map (fun r => 8 + ceilDiv (u.p * opCost r.opc r.params) 32)).sum

/-- CL of a unit (R192). -/
def Place.cl (u : Place) : Nat := u.lineCost + ceilDiv ((u.c.slots.map (fun r => opEnd r.opc r.params)).sum) 256

/-- Does a slot other than MREG read the cell means line by line? -/
def State.coarseLine (s : State) (u : Place) : Bool :=
  u.c.slots.any (fun r => s.isCoarse u r.srcA || s.isCoarse u r.srcB || (r.opc != 0x14 && s.isCoarse u r.srcC))

/-- Do the inputs of lines y to y + RV stand ready: stitched lines, master tiles, lines of other units? -/
def State.lineReady (s : State) (u : Place) (y : Nat) : Bool :=
  let rv := s.chainRv u
  let have_ := y ≤ s.newest && (y + rv ≤ s.newest || s.lastFormed)
    && (y / 8 * 8 + 7 ≤ s.newest || s.lastFormed || !s.coarseLine u)
  let feeds := (List.range 4).filter (fun p => u.c.slots.any (fun r => r.srcA == p || r.srcB == p || r.srcC == p))
  let fs := feeds.map (s.feed u.vu)
  let tiles := fun (y : Nat) => match s.vgLine y with
      | none => false
      | some (k, d, _) =>
        let xs := (List.range u.p).map (fun i => (clampI (u.x i) 0 ((s.fld F.STI_WIDTH_VALUE : Int) - 1)).toNat)
        (s.tilesFor (u.vu / 64) k d xs (fs.contains .fine || fs.contains .cls)
            (fs.contains .coarse && (s.coarseLine u || k % 8 + s.lineStep (u.vu / 64) == 8))).all
          (fun t => (s.mtile (u.vu / 64) d.tag.bank t.1 t.2 (k / 256)).isSome)
  let last := min (y + rv) s.newest
  have_ && !s.vg.lines.isEmpty && (List.range (last + 1 - y)).all (fun j => tiles (y + j))
    && fs.all (fun f => match f with
      | .unit v _ => s.unitDone u.vu last v
      | _ => true)

/-- Has a unit credit to send line y: each running unit that its LINKs feed lags no more than the LINK's buffer behind the line it needs, BUF in
sixteenths of a line block (R38, R196)? -/
def State.hasCredit (s : State) (v y : Nat) : Bool :=
  (s.consumers v).all (fun c => !s.unitRuns c.1 || (match s.vuPlace c.1, s.vuS c.1 with
    | some w, some x => y ≤ x.next + s.chainRv w + 16 * c.2
    | _, _ => true))

/-- Stitched lines that a region's replay ring reaches back over: 288 lines, of which a region under code 0x3 stores the even ones only
(R14, R425). -/
def State.ringSpan (s : State) (n : Nat) : Nat := 288 * s.lineStep n

/-- Has a region's ring lost line y, to newer ones or with the power of its banks (R399, R420)? -/
def State.ringLost (s : State) (n y : Nat) : Bool :=
  !s.vg.lines.isEmpty && (y + s.ringSpan n ≤ s.newest || y < (s.region n).ringFrom)

/-- The first line of a region's block less its pre-roll (R198). -/
def State.prerollFrom (s : State) (n blk : Nat) : Nat := max s.vg.first (256 * blk - s.fld (F.VG_LOAD_PREROLL n))

/-- The region takes the tile offsets of block `blk` as its first line reaches a unit; a replay keeps those of attempt 0 (R216, R219). -/
def State.takeOffs (s : State) (n blk : Nat) : State :=
  if (s.region n).offs.any (fun e => e.1 == blk) then s
  else s.modRegion n (fun r => { r with offs := ((blk, s.tileWords) :: r.offs).take 3 })

/-- The unit takes line y (R192). -/
def State.takeLine (s : State) (u : Place) (y : Nat) : State :=
  let n := u.vu / 64
  let k := u.c.slots.length
  let s := s.takeOffs n (y / 256)
  let s := if s.fineRv u = 0 then s else s.takeOffs n (min (y + s.fineRv u) s.newest / 256)
  let from_ := s.prerollFrom n (y / 256)
  let s := if y % 256 = 0 then
      s.modVu u.vu (fun v => { v with slots := (List.range k).map (fun k => slotInit (s.lineStep n) u k y from_ ((v.slots[k]?).getD .none)) })
    else s
  let s := if (s.region n).even && y % 2 = 1 then s
    else (List.range k).foldl (fun s k =>
      let s := if u.opc k = 0x18 then labelAhead u k (min (y + s.chainRv u - s.slotRv u k) s.newest) 128 s else s
      (s.slotStep u k y).outStep u k y) s
  (s.modVu u.vu (fun v => { v with next := y + 1 })).setFld (F.VG_VU_CYC_LAST n (u.vu % 64)) (min u.lineCost 65535)

/-! ### Nozzle monitor (R267 to R269) -/

/-- Σd, Σd² and n of a stitched column in the block's tables. -/
def nozCol (tabs : List BlkTab) (x : Nat) : Option (Int × Nat × Nat) :=
  tabs.findSome? (fun t => match t with
    | .noz _ _ start cols => if start ≤ x && x < start + cols.length then cols[x - start]? else none
    | _ => none)

/-- Nozzle position in 18.6 (R267). -/
def State.nozX (s : State) (n i : Nat) : Int := (s.fld (F.HP_NMAP0_X0 n) : Int) + asr ((i : Int) * s.sfld (F.HP_NMAP1_PITCH n) + 512) 10

/-- A NOZZLE record (R269). -/
def State.nozRec (s : State) (n i st fl cnt id c blk : Nat) (con : Int) (num : Nat) (m : Int) : List Nat :=
  let d := (s.seg.descs.find? (fun e => e.1 == 256 * blk)).map (·.2)
  let enc := (d.map (fun d => d.tag.encPos)).getD 0
  let ts := (d.map (fun d => d.tag.ts)).getD 0
  let mask := match s.camAt c with
    | some k => 2 ^ k
    | none => 0
  [0x03 + fl, s.jobId s.runBank, enc, ts, n + 16 * i + 65536 * min cnt 255 + 2 ^ 24 * st, c, wrapTo 16 con + 65536 * min num 65535, blk % 2 ^ 24,
   wrapTo 16 m, mask + 4096 * (id / 2 ^ 32 % 256), id % 2 ^ 32, 0, 0, 0, wrapTo 32 (s.xUm (s.nozX n i).toNat)]

/-- SEG_OBJ_NEXT. -/
def State.objNext (s : State) : Nat := s.rdN R.SEG_OBJ_NEXT_LO + 2 ^ 32 * s.fld F.SEG_OBJ_NEXT_HI_ID

/-- Set it. -/
def State.setObjNext (s : State) (n : Nat) : State := (s.putN R.SEG_OBJ_NEXT_LO n).setFld F.SEG_OBJ_NEXT_HI_ID (n / 2 ^ 32)

/-- A new OBJ_ID for what block b shows (R224). After a reseed at a later block it goes on from the numbers before V (R442). -/
def State.newObjId (s : State) (b : Nat) : Nat × State :=
  match s.seg.cutAt.filter (fun c => b < c.1) with
  | some c => (c.2, { s with seg := { s.seg with cutAt := some (c.1, (c.2 + 1) % 2 ^ 40) } })
  | none => (s.objNext, s.setObjNext ((s.objNext + 1) % 2 ^ 40))

/-- Set a nozzle's count. -/
def State.setNz (s : State) (n i : Nat) (e : Option NzS) : State :=
  s.modPrt n (fun p => { p with nz := p.nz.filter (fun x => x.nozzle != i) ++ (match e with
    | some x => [x]
    | none => []) })

/-- A candidate reaches CONFIRM (R268): the entry is added, or the record carries TK_FULL (R265). -/
def State.nozConfirm (s : State) (recd : State → Nat → Nat → Nat → Nat → List Nat) (n i cnt id : Nat) : State :=
  let fl := 2 ^ 20 + 2 ^ 21
  let full := 256 ≤ (s.prtS n).tk.length
  let ws := recd s (if full then 4 else 2) fl cnt id
  let r := s.tkAdd n { nozzle := i, src := 1, e := 0, p := 0, objId := some id, last := ws }
  ((r.2.setNz n i none).incWrap (F.HP_TK_CNT_CONF_CNT n)).record 1 ws

/-- The REMOVED record of a confirmed nozzle (R268, R269, assumption 21): the words of its CONFIRMED record with STATE 0x05 and the running bank's
JOB_ID. An entry that a reseed brought has no such record here, so what the monitor would have measured is a free value. -/
def State.removedRec (s : State) (n : Nat) (t : TkS) : List Nat × State :=
  let fl := 2 ^ 20 + 2 ^ 21
  if t.last.isEmpty then
    let w := fun (k : Nat) => (Config.freeWord (s.freeCtr + k)).toNat
    let c := (asr (s.nozX n t.nozzle + 32) 6).toNat
    let id := t.objId.getD (w 0 + 2 ^ 32 * (w 1 % 256))
    let ws := s.nozRec n t.nozzle 5 fl (w 1 / 256) id c (w 2) (toSigned 16 (w 3)) (w 3 / 65536) (toSigned 16 (w 4))
    (((ws.set 2 (w 5)).set 3 (w 6)), { s with freeCtr := s.freeCtr + 7 })
  else
    let l := t.last
    ((((l.set 0 (0x03 + fl)).set 1 (s.jobId s.runBank)).set 4 (l.getD 4 0 % 2 ^ 24 + 2 ^ 24 * 5)), s)

/-- HPn_TK_CMD with OP remove (R268); a confirmed nozzle posts a REMOVED record. -/
def State.tkRemoveCmd (s : State) (n nozzle : Nat) : State :=
  let l := (s.prtS n).tk
  let s' := s.setTk n (l.filter (fun t => t.nozzle != nozzle))
  match l.find? (fun t => t.nozzle == nozzle && t.src == 1) with
  | some t =>
    let r := s'.removedRec n t
    (r.2.record 1 r.1).status 0
  | none => s'.status 0

/-- One nozzle is evaluated on a committed block (R268). -/
def State.nozEval (s : State) (tabs : List BlkTab) (blk n i : Nat) : State :=
  let c := asr (s.nozX n i + 32) 6
  let nbr : Int := s.fld (F.HP_NZ_CFG1_NBR n)
  let w : Int := s.fld F.STI_WIDTH_VALUE
  let minn := s.fld (F.HP_NZ_CFG0_MINN n)
  let col := fun (x : Int) => if x < 0 ∨ w ≤ x then none
    else (nozCol tabs x.toNat).bind (fun e => if e.2.2 < minn ∨ e.2.2 = 0 then none else some e)
  match col c, col (c - nbr), col (c + nbr) with
  | some a, some l, some r =>
    let m := fun (e : Int × Nat × Nat) => e.1.fdiv (e.2.2 : Nat)
    let con := m a - asr (m l + m r) 1
    let var := ((a.2.1 / a.2.2 : Nat) : Int) - m a * m a
    let cand := decide ((s.fld (F.HP_NZ_CFG0_THR n) : Int) ≤ con) && decide (var ≤ (s.fld (F.HP_NZ_CFG1_VAR_MAX n) * 65536 : Nat))
    let old := (s.prtS n).nz.find? (fun x => x.nozzle == i)
    let recd := fun (s : State) (st fl cnt id : Nat) => s.nozRec n i st fl cnt id c.toNat blk con a.2.2 (m a)
    match cand, old with
    | false, none => s
    | false, some e =>
      (s.setNz n i none).record 1 (recd s 3 (2 ^ 20 + 2 ^ 21) 0 e.objId)
    | true, none =>
      if 64 ≤ (s.prtS n).nz.length then s.flag (F.HP_STAT_NZ_OVF n)
      else
        let o := s.newObjId blk
        let s := (o.2.setNz n i (some { nozzle := i, count := 1, objId := o.1 })).record 1 (recd s 1 (2 ^ 15) 1 o.1)
        if s.fld (F.HP_NZ_CFG0_CONFIRM n) ≤ 1 then s.nozConfirm recd n i 1 o.1 else s
    | true, some e =>
      if e.count + 1 < s.fld (F.HP_NZ_CFG0_CONFIRM n) then s.setNz n i (some { e with count := e.count + 1 })
      else s.nozConfirm recd n i (e.count + 1) e.objId
  | _, _, _ => s

/-- The monitor after a committed block (R268). -/
def State.nozMonitor (s : State) (tabs : List BlkTab) (blk : Nat) : State :=
  (List.range 8).foldl (fun s n =>
    if s.bit (F.HP_CTL_NZ_EN n) && s.bit (F.HP_CTL_EN n) then
      (List.range (s.fld (F.HP_CTL_NOZ n))).foldl (fun s i =>
        if (s.prtS n).tk.any (fun t => t.nozzle == i) then s else s.nozEval tabs blk n i) s
    else s) s

/-! ### Commit, loss and replay (R198, R199, R420) -/

/-- Region n goes on to its next block (R199, R425). -/
def State.nextBlock (s : State) (n : Nat) : State :=
  let r := s.region n
  let s := s.modRegion n (fun r => { r with block := r.block + 1, partials := [], tables := [],
                                            fallback := if r.fallNext.isSome then r.fallNext else r.fallback, fallNext := none, even := s.evenOnly n })
  let s := s.setFld (F.VG_STAT_ATTEMPT n) 0
  if r.fallNext = some 0 ∨ r.fallNext = some 3 then s.setReady (24 + n) false else s

/-- Regions that commit blocks. -/
def State.liveRegions (s : State) : List Nat := (List.range 8).filter (fun n => !(s.runUnits n).isEmpty)

/-- Every region that commits has committed block b. -/
def State.blockIn (s : State) (b : Nat) : Bool := s.liveRegions.all (fun n => b < (s.region n).block)

/-- With the last region's commit of block b, lost or not, the nozzle monitor evaluates the block (R268, R420). -/
def State.commitEnd (s : State) (b : Nat) : State :=
  if s.blockIn b then s.nozMonitor ((s.seg.commits.filter (fun c => c.block == b)).flatMap (·.tabs)) b else s

/-- Region n commits its block (R199); the monitor follows where it was the last region. -/
def State.commit (s : State) (n : Nat) (lost : Bool) : State :=
  let r := s.region n
  let c : Commit := { block := r.block, region := n, parts := if lost then [] else r.partials, tabs := if lost then [] else r.tables, lost := lost }
  let s := (s.setFld (F.VG_BLOCK_BLOCK n) r.block).setFld (F.VG_BLOCK_ATTEMPT n) (s.fld (F.VG_STAT_ATTEMPT n))
  let pus := s.vg.pus.map (fun p => if p.pu / 72 = n then { p with window := p.window - 1 } else p)
  ({ s with vg := { s.vg with pus := pus }, seg := { s.seg with commits := s.seg.commits ++ [c] } }).nextBlock n |>.commitEnd r.block

/-- Every unit of region n starts the block of index `blk` afresh: what it held is discarded, and its master data is to be read again (R14, R198, R216). -/
def State.restart (s : State) (n blk : Nat) : State :=
  let us := s.vg.units.map (fun u =>
    if u.vu / 64 = n then
      { u with next := 256 * blk, slots := [], outs := u.outs.filter (fun o => o.2.1 < 256 * blk), wins := u.wins.filter (fun w => w.y0 < 256 * blk) }
    else u)
  let master := s.seg.master.map (fun t => if blk ≤ t.block && bitN t.rgs n then { t with rgs := t.rgs - 2 ^ n } else t)
  let crops := s.seg.crops.filter (fun c => c.line < 256 * blk ||
    !(s.vg.units.any (fun u => u.vu / 64 == n && (match s.vuPlace u.vu with
      | some p => p.a.start ≤ c.x && c.x < p.a.start + p.a.width
      | none => false))))
  ({ s with vg := { s.vg with units := us }, seg := { s.seg with crops := crops, master := master.filter (fun t => t.rgs != 0) } }).modRegion n
    (fun r => { r with partials := [], tables := [] })

/-- A block is lost (R420): cause 1 attempts exhausted, 2 ring overrun. -/
def State.loseBlock (s : State) (n cause : Nat) : State :=
  let b := (s.region n).block
  let s := ((s.flag F.FLT_STAT_BLK_LOST).incCnt F.FLT_CNT_BLK_LOST_CNT F.FLT_CNT_SAT).fault 0x02 cause n (w5 := b)
  (s.commit n true).restart n (b + 1)

/-- Do the block's lines with its pre-roll still stand in the region's ring (R14, R198)? -/
def State.ringHolds (s : State) (n : Nat) : Bool := !s.ringLost n (s.prerollFrom n (s.region n).block)

/-- Region n replays its block, or loses it (R198, R420). -/
def State.replay (s : State) (n : Nat) : State :=
  let a := s.fld (F.VG_STAT_ATTEMPT n)
  if a = 3 then s.loseBlock n 1
  else if !s.ringHolds n then s.loseBlock n 2
  else
    let s := ((s.setFld (F.VG_STAT_ATTEMPT n) (a + 1)).flag (F.VG_STAT_REPLAY n)).setBit (F.VG_STAT_REPLAYING n) true
    (s.incCnt (F.VG_REPLAY_CNT_CNT n) (F.VG_REPLAY_CNT_SAT n)).restart n (s.region n).block

/-! ### VU faults and retirement (R184, R421 to R424) -/

/-- A region enters DEGRADED (R424, R425). -/
def State.degrade (s : State) (n v : Nat) : State :=
  let fb : FallE := match s.cfg.struct with
    | none => {}
    | some d => (d.fallback[n]?).getD {}
  let s := (s.setBit (F.VG_STAT_DEGRADED n) true).setFld ⟨R.FLT_DEG, n, 1⟩ 1
  let s := (s.flag F.FLT_STAT_DEGRADED).fault 0x03 fb.code n (w5 := if fb.code = 3 then fb.partner else 0)
  let s := s.modRegion n (fun r => { r with fallNext := some fb.code, gone := v :: r.gone })
  if s.bit F.FLT_CTL_DEG_FATAL then s.fatal 3 else s

/-- The loads of a region, the one under way first. -/
def State.loads (s : State) (n : Nat) : List LoadVu := (s.region n).loading.toList ++ (s.region n).loadNext

/-- Set them. -/
def State.setLoads (s : State) (n : Nat) (l : List LoadVu) : State := s.modRegion n (fun r => { r with loading := l.head?, loadNext := l.tail })

/-- Slack for logical unit v: an ACTIVE unit of the region without a chain, where every LINK of v has PLACE 1 or 2 (R424). -/
def State.slackFor (s : State) (v : Nat) : Option Nat :=
  let n := v / 64
  let taken := (s.loads n).map (·.phys)
  let links : List LinkE := match s.cfg.struct with
    | none => []
    | some d => d.links.filter (fun (l : LinkE) => (l.src / 2 ^ 28 == 1 && l.src / 2 ^ 16 % 4096 == v) || (l.dst / 2 ^ 28 == 1 && l.dst / 2 ^ 16 % 4096 == v))
  if !links.all (fun l => l.place == 1 || l.place == 2) then none
  else ((List.range 64).map (fun j => 64 * n + j)).find? (fun w =>
    w != v && (s.assignOf w).isNone && s.fld (puState (s.physOfVu w)) == 1 && !taken.contains (s.physOfVu w))

/-- What takes the place of logical unit v: the lowest spare of the cluster of physical unit `pu`, else slack, where the restore area is there to
load it from (R423, R424). -/
def State.takeover (s : State) (pu v : Nat) : Option LoadVu :=
  let c := pu / 18
  let taken := (s.loads (v / 64)).map (·.phys)
  if !s.bit F.PWR_RESTORE_HI_EN then none
  else match [18 * c + 16, 18 * c + 17].find? (fun k => s.fld (puState k) == 2 && !taken.contains k) with
  | some k => some { logical := v, phys := k, slack := false }
  | none => (s.slackFor v).map (fun w => { logical := v, phys := s.physOfVu w, slack := true })

/-- A physical unit is retired (R423, R424). `v` is the logical unit it held at work, if any. -/
def State.retireVu (s : State) (pu : Nat) (v : Option Nat) (cause : Nat) : State :=
  let n := pu / 72
  let blk := (s.region n).block
  let s := ((s.setFld (puState pu) 3).flag F.FLT_STAT_RETIRED).incCnt F.FLT_CNT_RETIRE_CNT F.FLT_CNT_SAT
  -- A unit that fails while it is being loaded leaves its logical unit to another.
  let v := v.or (((s.loads n).find? (fun l => l.phys == pu)).map (·.logical))
  let ls := (s.loads n).filter (fun l => l.phys != pu)
  let next := v.bind (s.takeover pu)
  -- The record tells whether the device is degraded after the fault (R445).
  let s := if v.isSome && next.isNone then s.flag F.FLT_STAT_DEGRADED else s
  let s := s.fault 0x01 cause pu (w5 := blk) (w6 := 1) (w7 := s.fld (F.VG_STAT_ATTEMPT n))
  match v, next with
  | none, _ => s
  | some _, some l => s.setLoads n (ls ++ [l])
  | some v, none => let s := (s.setLoads n ls).degrade n v; if ls.isEmpty then s.replay n else s

/-- The retirement entry of a physical unit. -/
def State.puS (s : State) (pu : Nat) : PuS := (s.vg.pus.find? (fun p => p.pu == pu)).getD { pu := pu, window := 0, ueAt := none }

/-- Set it. -/
def State.setPuS (s : State) (p : PuS) : State := { s with vg := { s.vg with pus := s.vg.pus.filter (fun x => x.pu != p.pu) ++ [p] } }

/-- A VU fault (R184, R421, R422): cause 1 ECC_UE at a local-memory word, 2 RESIDUE, 3 WDOG, 4 self-test. While the region loads a unit none of its VUs works,
so only a self-test can fail. -/
def State.vuFault (s : State) (pu cause : Nat) (word : Option Nat) : State :=
  let n := pu / 72
  let v := (s.logicalOf pu).filter (fun v => s.vg.units.any (fun u => u.vu == v) && s.unitRuns v)
  if s.fld (puState pu) = 3 || (cause != 4 && (v.isNone || (s.region n).loading.isSome)) then s
  else
    let blk := (s.region n).block
    let att := s.fld (F.VG_STAT_ATTEMPT n)
    let s := if cause = 1 then (s.flag (F.VG_STAT_ECC_UE n)).incCnt (F.VG_ECC_CNT_UE_CNT n) (F.VG_ECC_CNT_SAT n)
      else if cause = 2 then s.flag (F.VG_STAT_RESIDUE n)
      else if cause = 3 then (s.flag (F.VG_STAT_WDOG n)).incCnt (F.VG_LBL_CNT_WDOG_CNT n) (F.VG_LBL_CNT_SAT n)
      else s
    let st := F.VG_PU_STAT_FAULTS n (pu % 72)
    let s := s.setFld (F.VG_PU_STAT_CAUSE n (pu % 72)) cause
    let p := s.puS pu
    let p := if s.fld st = 0 then { p with window := 1024 } else p
    let same := match word, p.ueAt with
      | some w, some (w', b', a') => w == w' && b' == blk && a' + 1 == att
      | _, _ => false
    let p := { p with ueAt := match word with
      | some w => some (w, blk, att)
      | none => p.ueAt }
    let f := min 3 (s.fld st + 1)
    let s := (s.setFld st f).setPuS p
    if f == 3 || cause == 4 || same then s.retireVu pu v cause
    else (s.fault 0x01 cause pu (w5 := blk) (w6 := 0) (w7 := att)).replay n

/-- A spare or slack unit has been loaded (R423, R424); the region replays once no load is left (assumption 228). -/
def State.spareLoaded (s : State) (n : Nat) : State :=
  match (s.region n).loading with
  | none => s
  | some l =>
    let j := l.logical
    let old := s.physOfVu j
    let blk := (s.region n).block
    let cause := s.fld (F.VG_PU_STAT_CAUSE n (old % 72))
    let s := if l.slack then
        match s.logicalOf l.phys with
        | some w => s.setFld (F.VG_VU_MAP_PHYS n (w % 64)) old
        | none => s
      else (s.setFld (puState l.phys) 1).setFld (F.VG_INFO_SPARES n) (s.fld (F.VG_INFO_SPARES n) - 1)
    let s := (s.setFld (F.VG_VU_MAP_PHYS n (j % 64)) l.phys).setLoads n (s.loads n).tail
    let s := s.fault 0x01 cause old (w5 := blk) (w6 := if l.slack then 3 else 2 + 65536 * l.phys) (w7 := s.fld (F.VG_STAT_ATTEMPT n))
    if (s.region n).loading.isSome then s else s.replay n

/-! ### Meanings -/

/-- TAKEOVER_REMOVE (R268). -/
def execTakeoverRemove (n : Fin 8) (nozzle : BitVec 12) (s : State) : Host.Outcome State Fault Refusal :=
  if s.has .head n then done s (s.tkRemoveCmd n nozzle.toNat) else done s s

/-- VU_LINE_PROCESS (R192): unit `vu` takes its next line; `ce` local-memory errors were corrected (R183). A unit whose inputs are not ready,
or that has finished its region's block, stalls, and so does one whose output has no credit (R196); where its next line has left the ring, the block
is lost (R420). -/
def execVuLineProcess (vu : Fin 512) (ce : BitVec 8) (s : State) : Host.Outcome State Fault Refusal :=
  match s.vuPlace vu, s.vuS vu with
  | some u, some v =>
    let n := vu.val / 64
    let r := s.region n
    if !s.unitRuns vu || r.loading.isSome || v.next / 256 != r.block then done s s
    else if s.ringLost n v.next then done s (s.loseBlock n 2)
    else if !s.lineReady u v.next || !s.hasCredit vu v.next then done s s
    else
      let s' := if ce = 0 then s
        else (s.flag (F.VG_STAT_ECC_CE n)).addCnt (F.VG_ECC_CNT_CE_CNT n) (F.VG_ECC_CNT_SAT n) ce.toNat
      done s ((s'.wakeBlock (0x18 + n)).takeLine u v.next)
  | _, _ => done s s

/-- VU_FAULT (R184, R421, R422): an uncorrectable error at word `word` (kind 0), a residue mismatch (1) or a failed self-test (2). -/
def execVuFault (pu : Fin 576) (kind : Fin 3) (word : BitVec 14) (s : State) : Host.Outcome State Fault Refusal :=
  if s.has .region (pu / 72) then
    done s (s.vuFault pu (if kind = 0 then 1 else if kind = 1 then 2 else 4) (if kind = 0 then some word.toNat else none))
  else done s s

/-- VU_WATCHDOG (R184): a line has not finished in 4 × CL cycles. -/
def execVuWatchdog (vu : Fin 512) (s : State) : Host.Outcome State Fault Refusal :=
  if s.has .region (vu / 64) then done s (s.vuFault (s.physOfVu vu) 3 none) else done s s

/-- SPARE_LOAD_DONE (R423, R424). -/
def execSpareLoadDone (n : Fin 8) (s : State) : Host.Outcome State Fault Refusal := done s (s.spareLoaded n)

/-- RETIRE_WINDOW_CLOSE (R421): 1,024 committed blocks after it opened. -/
def execRetireWindowClose (pu : Fin 576) (s : State) : Host.Outcome State Fault Refusal :=
  let p := s.puS pu
  if s.fld (F.VG_PU_STAT_FAULTS (pu / 72) (pu % 72)) ≠ 0 ∧ p.window = 0 then
    done s ((s.setFld (F.VG_PU_STAT_FAULTS (pu / 72) (pu % 72)) 0).setPuS { p with ueAt := none })
  else done s s

/-- REPLAY_CAUGHT_UP (R198): the region's units have taken the newest line in the ring. -/
def execReplayCaughtUp (n : Fin 8) (s : State) : Host.Outcome State Fault Refusal :=
  if s.bit (F.VG_STAT_REPLAYING n) && (s.runUnits n).all (fun u => s.newest < u.next) then
    done s (s.setBit (F.VG_STAT_REPLAYING n) false)
  else done s s

/-- BLOCK_COMMIT (R199, R268): every unit of the region has finished the block's last line. With the last region's commit the nozzle monitor
evaluates the block. -/
def execBlockCommit (n : Fin 8) (s : State) : Host.Outcome State Fault Refusal :=
  let b := (s.region n).block
  let us := s.runUnits n
  if us.isEmpty || (s.region n).loading.isSome || !us.all (fun u => 256 * (b + 1) ≤ u.next) then done s s
  else done s ((s.wakeBlock 0x08).commit n false)

end Sys2Proof.Machine
end

