-- ==== Sys2Proof/Machine/Loader.lean ====
section
/-!
DEFINITION. What the loader checks, in its order (R32 to R54): the stream, its sections and tables, the signature, the STRUCT's
instances and resources, its pins, its graph, and the JOB.
-/
namespace Sys2Proof.Machine

/-- A failure: status (R54), section (0 HDR, 1 STRUCT, 2 JOB, 3 SIG), byte offset of the failing field or entry from the HDR, where there is
one. -/
structure LoadErr where
  code : Nat
  sec  : Nat
  ofs  : Option Nat
  deriving DecidableEq, Repr

/-- A failure where a condition holds. -/
def bad (c : Bool) (code sec : Nat) (ofs : Option Nat) : Option LoadErr :=
  if c then some { code := code, sec := sec, ofs := ofs } else none

/-- The first failure of a list of checks. -/
def firstErr (l : List (Option LoadErr)) : Option LoadErr := l.findSome? id

/-- The first failure over the entries of a table. -/
def eachErr {α : Type} (l : List α) (f : Nat → α → Option LoadErr) : Option LoadErr := l.zipIdx.findSome? (fun e => f e.2 e.1)

/-- Does an element occur twice? -/
def repeats {α : Type} [BEq α] (l : List α) (i : Nat) : Bool := match l[i]? with
  | some x => (l.take i).contains x
  | none => false

/-! ### Offsets -/

/-- Offset of section `k`'s header. -/
def secOfs (ss : List Section) (k : Nat) : Nat := 32 + ((ss.take k).map (fun x => 16 + x.len)).sum

/-- Offset of table header `j` of section `k`. -/
def tabOfs (ss : List Section) (k j : Nat) : Nat :=
  secOfs ss k + 16 + ((((ss[k]?).map (·.tabs)).getD []).take j |>.map (fun t => 8 + t.esize * t.count)).sum

/-- Offset of entry `i` of the table of a type, in the section of kind `sec` (1 STRUCT, 2 JOB). -/
def entOfs (ss : List Section) (sec ttype i : Nat) : Option Nat :=
  match ss.findIdx? (fun x => x.ty == sec) with
  | none => none
  | some k =>
    let ts := ((ss[k]?).map (·.tabs)).getD []
    match ts.findIdx? (fun t => t.ttype == ttype) with
    | none => none
    | some j => some (tabOfs ss k j + 8 + i * ((ts[j]?).map (·.esize)).getD 0)

/-! ### Steps 1 to 4 -/

/-- Step 2: the HDR (R33, R48). `got` is the number of bytes received. -/
def hdrCheck (b : Board) (got : Nat) (h : Hdr) : Option LoadErr :=
  firstErr [
    bad (h.magic != 0x4D574253) 0x20 0 (some 0),
    bad (!h.hcrcOk) 0x23 0 (some 28),
    bad (h.fmtMaj != 3) 0x21 0 (some 5),
    bad (2 < h.fmtMin) 0x21 0 (some 4),
    bad (h.variant != (match b.variant with
      | .w1296 => 0x1296
      | .w0648 => 0x0648)) 0x22 0 (some 6),
    bad (h.catVer != 3) 0x21 0 (some 8),
    bad (h.nsec == 0 || 3 < h.nsec) 0x23 0 (some 9),
    bad (8 ≤ h.flags) 0x23 0 (some 10),
    bad (h.totalLen != got) 0x23 0 (some 12)]

/-- ERR_SECTION of a section type. -/
def secNo (ty : Nat) : Nat := if ty ≤ 3 then ty else 0

/-- Step 3: every section header and its body CRC, then the number of sections (R34, R48). -/
def sectionCheck (st : Stream) : Option LoadErr :=
  let ss := st.sections
  firstErr [
    eachErr ss (fun k x =>
      let o := secOfs ss k
      firstErr [
        bad (!x.scrcOk) 0x24 (secNo x.ty) (some (o + 12)),
        bad (x.rsvd != 0) 0x23 (secNo x.ty) (some (o + 1)),
        bad (x.len % 8 != 0 || st.hdr.totalLen < o + 16 + x.len || (x.ty == 3 && x.len != 208)) 0x23 (secNo x.ty) (some (o + 4)),
        bad (!x.bcrcOk) 0x24 (secNo x.ty) (some (o + 8))]),
    bad (ss.length != st.hdr.nsec) 0x23 0 (some 9),
    bad (secOfs ss ss.length != st.hdr.totalLen) 0x23 0 (some 12)]

/-- Entry size and count of the STRUCT tables; none where the count is only bounded (R36). -/
def structTab (t : Nat) : Nat × Option Nat :=
  [(0, none), (64, none), (16, some 512), (16, none), (16, some 64), (32, some 50), (4, some 4), (4, none), (16, none),
   (16, some 8)].getD t (0, none)

/-- Does a JOB table's header fit its type? The rules give the entry sizes of five tables (R213, R221, R230, R251, R264), the model those of
the others (assumption 9), and one JOB_HDR. -/
def jobTabOk (t : TabHdr) : Bool :=
  let k := t.ttype
  if k = 0x41 then t.esize == 8 && t.count == 1
  else if k = 0x42 ∨ k = 0x47 then t.esize == 8
  else if k = 0x43 ∨ k = 0x44 then t.esize == 48
  else if k = 0x45 then t.esize == 32
  else if k = 0x46 then t.esize == 12
  else 8 ≤ t.esize

/-- The table headers of section `k` (R35, R43): type, size, count, and an end within the body. -/
def tableCheck (ss : List Section) (k : Nat) (x : Section) : Option LoadErr :=
  let no := secNo x.ty
  let leaves := fun (j : Nat) => secOfs ss k + 16 + x.len < tabOfs ss k (j + 1)
  if x.ty = 1 then
    firstErr [
      eachErr x.tabs (fun j t =>
        let o := some (tabOfs ss k j)
        let e := structTab t.ttype
        firstErr [
          bad (t.ttype != j + 1 || 9 < t.ttype || t.rsvd != 0) 0x23 no o,
          bad (t.esize != e.1) 0x23 no o,
          bad (match e.2 with
            | some n => t.count != n
            | none => false) 0x23 no o,
          bad (leaves j) 0x23 no o]),
      bad (x.tabs.length != 9) 0x23 no (some (tabOfs ss k x.tabs.length))]
  else if x.ty = 2 then
    firstErr [
      eachErr x.tabs (fun j t =>
        let o := some (tabOfs ss k j)
        let prev := if j = 0 then 0x40 else ((x.tabs[j - 1]?).map (·.ttype)).getD 0
        firstErr [
          bad (t.ttype ≤ prev || 0x48 < t.ttype || t.rsvd != 0) 0x23 no o,
          bad (j == 0 && t.ttype != 0x41) 0x23 no o,
          bad (!jobTabOk t) 0x23 no o,
          bad (leaves j) 0x23 no o]),
      bad x.tabs.isEmpty 0x23 no (some (tabOfs ss k 0))]
  else none

/-- The compositions a stream may have (R32). -/
def compositions : List (List Nat) := [[1], [1, 2], [1, 3], [1, 2, 3], [2], [2, 3]]

/-- Step 4: order and composition, FLAGS, table headers (R32, R33, R48). -/
def orderCheck (st : Stream) : Option LoadErr :=
  let ss := st.sections
  let tys := ss.map (·.ty)
  let flags := b2n (tys.contains 1) + 2 * b2n (tys.contains 2) + 4 * b2n (tys.contains 3)
  firstErr [
    eachErr ss (fun k x =>
      bad (!compositions.any (fun c => c.take (k + 1) == tys.take (k + 1))) 0x25 (secNo x.ty) (some (secOfs ss k))),
    bad (!compositions.contains tys) 0x25 0 none,
    bad (st.hdr.flags != flags) 0x25 0 (some 10),
    eachErr ss (fun k x => tableCheck ss k x)]

/-- Step 5: the signature (R45, R46). -/
def sigCheck (b : Board) (ss : List Section) : Option LoadErr :=
  match ss.findIdx? (fun x => x.ty == 3) with
  | none => bad b.auth 0x26 3 none
  | some k =>
    let o := secOfs ss k + 16
    match (ss[k]?).map (·.body) with
    | some (SecBody.sig g) =>
      firstErr [
        bad (3 < g.slot || !bitN b.sigProg g.slot || bitN b.sigRevoked g.slot) 0x28 3 (some o),
        bad (b.sigHash[g.slot]? != some (sha384 g.key)) 0x27 3 (some (o + 8)),
        bad (!ecdsaOk g.key g.digest g.r g.s) 0x27 3 (some (o + 112))]
    | _ => none

/-- The STRUCT of a stream. -/
def streamStruct (st : Stream) : Option StructData := st.sections.findSome? (fun x => match x.body with
  | SecBody.struct d => some d
  | _ => none)

/-- The JOB of a stream. -/
def streamJob (st : Stream) : Option JobData := st.sections.findSome? (fun x => match x.body with
  | SecBody.job d => some d
  | _ => none)

/-- The signing slot of a stream. -/
def streamSlot (st : Stream) : Option Nat := st.sections.findSome? (fun x => match x.body with
  | SecBody.sig g => some g.slot
  | _ => none)

/-! ### Figures of a STRUCT -/

/-- Sample depth of a pixel format (R40, R148). -/
def fmtDepth (f : Nat) : Nat := if f = 1 ∨ f = 4 then 10 else if f = 2 then 12 else 8

/-- Channels of a pixel format. -/
def fmtChans (f : Nat) : Nat := if f = 3 ∨ f = 4 then 3 else 1

/-- Bits per pixel of a format. -/
def fmtBits (f : Nat) : Nat := fmtDepth f * fmtChans f

/-- Pixel format of the group. -/
def structFmt (d : StructData) : Nat := (structCam d d.refCam).fmt

/-- Assigned logical units with their places in a STRUCT. -/
def structPlaces (d : StructData) : List Place :=
  (d.assigns.filter (fun a => a.chain != 0xFFFF)).filterMap (fun a =>
    (d.chains.find? (fun c => c.id == a.chain)).map (fun c => { vu := a.vu, a := a, c := c }))

/-- RV of a chain (R189). -/
def Place.rv (u : Place) : Nat :=
  let rad := fun k => opRadius (u.slot k).opc (u.slot k).params
  ((List.range u.c.slots.length).map (fun k => (pathRadius u rad (fun _ => true) 9 (16 + k)).getD 0)).foldl max 0

/-- The unit with P doubled (R425). -/
def Place.twice (u : Place) : Place := { u with a := { u.a with width := 2 * u.a.width, overlap := 2 * u.a.overlap } }

/-- Chain ports in use. -/
def Place.ports (u : Place) : Nat :=
  let ins := (List.range 4).filter (fun p => u.c.slots.any (fun r => r.srcA == p || r.srcB == p || r.srcC == p))
  let outs := (List.range 4).filter (fun p => u.c.slots.any (fun r => r.out == p))
  ins.length + outs.length

/-- Local memory of a unit (R197). -/
def Place.mem (u : Place) : Nat :=
  (u.c.slots.map (fun r => opMem r.opc r.params u.p)).sum + 8 * u.p * u.ports + 2 * u.c.parLen + 4096

/-- VU_CLK of an operating point in 10 MHz (R193). -/
def opFreq (k : Nat) : Nat := [60, 75, 90, 100, 110, 120, 135, 150].getD k 150

/-- Does a line cost meet point `k` at a line rate in Hz; `m` multiplies the line period (R194, R425)? -/
def meets (cl k hz m : Nat) : Bool := hz == 0 || cl ≤ opFreq k * 10000000 * m / (2 * hz)

/-- OP_REQ of die `n`; none where no point meets the condition (R194). -/
def structOpReq (d : StructData) (n : Nat) : Option Nat :=
  if (structUsed d).isEmpty then some 0
  else
    let hz := (structCam d d.refCam).maxHz
    (List.range 8).find? (fun k => ((structPlaces d).filter (fun u => u.vu / 128 == n)).all (fun u => meets u.cl k hz 1))

/-- Slot size of a leading camera in 64-byte units (R163); `masked` pixels of a line are not active. -/
def structSlotUnits (d : StructData) (n masked : Nat) : Nat :=
  let c := structCam d n
  1 + ceilDiv (ceilDiv ((c.ppl - masked) * fmtBits c.fmt) 8 + 4) 64

/-- Region-memory bytes of a region's ring (R14). -/
def structRingBytes (d : StructData) (n : Nat) : Nat :=
  (d.mems.map (fun m => match m with
    | .banks r _ k 0 => if r = n then k * 262144 else 0
    | _ => 0)).sum

/-- Bytes of one line of a region's ring (R14). -/
def structRingLine (d : StructData) (n : Nat) : Nat :=
  let us := (structPlaces d).filter (fun u => u.vu / 64 == n)
  let lo := us.foldl (fun m u => min m (u.a.start - u.a.overlap)) d.width
  let hi := us.foldl (fun m u => max m (min d.width (u.a.start + u.a.width + u.a.overlap))) 0
  ceilDiv ((hi - lo) * fmtBits (structFmt d)) 8

/-! ### Step 7: instances, ranges, resources -/

/-- A chain and its parameter block (R37, R185, R186). -/
def chainBad (c : ChainE) : Bool :=
  let n := c.nops
  n == 0 || 8 < n || c.slots.length < n || c.parLen < ((c.slots.map (fun r => 8 + r.plen)).sum)
    || (c.slots.zipIdx).any (fun e =>
      let r := e.1
      let k := e.2
      let src := fun v => v == 0xFF || v < 4 || (16 ≤ v && v < 16 + k && opLineOut ((c.ops[v - 16]?).getD 0))
      let given := fun i => (if i = 0 then r.srcA else if i = 1 then r.srcB else r.srcC) != 0xFF
      k < n && (
        r.opc == 0 || 0x1C < r.opc || (c.ops[k]?).getD 0 != r.opc
          || !src r.srcA || !src r.srcB || !src r.srcC
          || !(opNeeds r.opc r.params).all given
          || !(r.out < 4 || r.out == 0xFF)
          || r.plen % 8 != 0 || r.plen < 2 * opParams r.opc r.params || r.params.length != r.plen
          || (r.opc == 0x0D && k + 1 != n)
          || !opRange r.opc r.params))

/-- A unit a LINK names is absent, or its port does not fit its side (R38, R186). -/
def linkEndBad (s : State) (code : Nat) (isSrc : Bool) : Bool :=
  let k := code / 2 ^ 28
  if k = 1 then
    let v := code / 2 ^ 16 % 4096
    let p := code % 16
    512 ≤ v || !s.has .region (v / 64) || (if isSrc then p < 8 || 11 < p else 4 ≤ p)
  else if k = 3 then 32 ≤ code % 2 ^ 28
  else k != 2

/-- Sources absent on the part (R105). -/
def absentSrc (s : State) (k : Nat) : Bool :=
  (68 ≤ k && k < 76 && !s.has .head (k - 68)) || (76 ≤ k && k < 84 && !s.has .head (k - 76)) || (k == 87 && !s.has .pport 1)

/-- Consumers absent on the part (R105). -/
def absentCons (s : State) (c : Nat) : Bool :=
  (c < 12 && !s.has .cam c) || (12 ≤ c && c < 20 && !s.has .head (c - 12)) || (c == 51 && !s.has .pport 1)

/-- Source mask of an EVT entry, 96 bits. -/
def evtMask (e : EvtE) : Nat := e.src0 + 2 ^ 32 * e.src1 + 2 ^ 64 * e.src2

/-- Real-time ports in table order. -/
def structRtPorts (d : StructData) : List (Nat × Nat × Nat × Nat × Nat × Nat) := d.mems.filterMap (fun m => match m with
  | .rtPort o i b z p1 p2 => some (o, i, b, z, p1, p2)
  | _ => none)

/-- A MEM entry (R40, R163, R324). -/
def memErr (s : State) (d : StructData) (masked : Nat → Nat) (o : Option Nat) (i : Nat) : MemE → Option LoadErr
  | .banks r f n u =>
    let other := (d.mems.take i).any (fun m => match m with
      | .banks r' f' n' _ => r' == r && f < f' + n' && f' < f + n
      | _ => false)
    firstErr [
      bad (8 ≤ r || !s.has .region r || 3 < u) 0x29 1 o,
      bad (40 < f + n || other) 0x2A 1 o]
  | .rtPort w c b z p1 p2 =>
    let stag := w == 1 || w == 2
    firstErr [
      bad (w == 0 || 4 < w || (stag && (12 ≤ c || !s.has .cam c))) 0x29 1 o,
      bad (!s.inDdr b z) 0x2A 1 o,
      bad (stag && (structCam d c).leading && z < ((structCam d c).stagger + 64) * 64 * structSlotUnits d c (masked c)) 0x2A 1 o,
      bad (!((p1 == 0 && p2 == 0) || (0 < p1 && p1 < p2 && p2 ≤ ownerBuf w))) 0x2A 1 o,
      bad (32 ≤ ((d.mems.take i).filter (fun m => match m with
        | .rtPort _ _ _ _ _ _ => true
        | _ => false)).length) 0x2A 1 o]
  | .other => bad true 0x29 1 o

/-- Instances absent on the W0648 that a PIN_LANE entry declares in use (R3, R41), and fields outside the ranges R40 states. -/
def pinAbsent (s : State) (d : StructData) (o : Nat → Option Nat) : Option LoadErr :=
  firstErr [
    eachErr d.cams (fun n c => bad (c.links != 0 && !s.has .cam n) 0x29 1 (o n)),
    eachErr d.cams (fun n c => bad (c.links != 0 && c.firstLane < 96 && !s.has .lane c.firstLane) 0x29 1 (o n)),
    eachErr d.cams (fun n c => bad (!([0, 1, 2, 4, 8].contains c.links)
      || (c.links != 0 && (4 < c.fmt || 2 ^ fmtDepth c.fmt ≤ c.fill || 1 < c.row || 2 ^ 24 ≤ c.x0))) 0x29 1 (o n)),
    eachErr d.encs (fun n c => bad (1 < c.mode) 0x29 1 (o (12 + n))),
    eachErr d.pps (fun n c => bad (if s.has .pport n then 7 < c.mode && c.mode % 8 != 7 else c.en) 0x29 1 (o (26 + n))),
    eachErr d.prints (fun n c => bad (c.en && (!s.has .head n || c.noz == 0)) 0x29 1 (o (28 + n))),
    eachErr d.nps (fun n c => bad (c && !s.has .nport n) 0x29 1 (o (36 + n))),
    eachErr d.sdgs (fun n c => bad (c.mode != 0 && (3 ≤ c.mode || !s.has .sdi (4 * n))) 0x29 1 (o (42 + n)))]

/-- Step 7 (R36, R37, R41, R48): ranges and instances in table order, then the resources of the mapping. -/
def resourceCheck (s : State) (ss : List Section) (d : StructData) (masked : Nat → Nat) : Option LoadErr :=
  let e := entOfs ss 1
  let us := (structPlaces d)
  let absentVg := fun n => !s.has .region n
  firstErr [
    bad (1024 < d.chains.length) 0x29 1 (e 1 1024),
    eachErr d.chains (fun i c => bad (chainBad c) 0x29 1 (e 1 i)),
    eachErr d.assigns (fun i a => firstErr [
      bad (a.vu != i) 0x23 1 (e 2 i),
      bad (absentVg (i / 64) && a != { vu := i }) 0x29 1 (e 2 i),
      bad (a.chain != 0xFFFF && (!d.chains.any (fun c => c.id == a.chain) || a.width == 0 || a.width % 32 != 0 || 256 < a.overlap
        || d.width < a.start + a.width)) 0x29 1 (e 2 i)]),
    bad (4096 < d.links.length) 0x29 1 (e 3 4096),
    eachErr d.links (fun i l => bad (linkEndBad s l.src true || linkEndBad s l.dst false || !(l.width == 8 || l.width == 16)) 0x29 1 (e 3 i)),
    eachErr d.evts (fun i v =>
      bad (((evtMask v) != 0 && absentCons s i) || (List.range 96).any (fun k => bitN (evtMask v) k && absentSrc s k)) 0x29 1 (e 4 i)),
    pinAbsent s d (e 5),
    eachErr d.dvfs (fun i v => firstErr [
      bad (!s.has .die i && v != (0, 0)) 0x29 1 (e 6 i),
      bad (7 < v.2 || v.2 < v.1) 0x2F 1 (e 6 i)]),
    bad (32 < d.classes.length) 0x29 1 (e 7 32),
    eachErr d.classes (fun i c =>
      bad (2 < c.2 || 0x1F < c.1 || c.1 == 0x16 || c.1 == 0x17 || (0x18 ≤ c.1 && absentVg (c.1 - 0x18))) 0x29 1 (e 7 i)),
    bad (512 < d.mems.length) 0x29 1 (e 8 512),
    eachErr d.mems (fun i m => memErr s d masked (e 8 i) i m),
    eachErr d.fallback (fun i f => firstErr [
      bad (absentVg i && f != {}) 0x29 1 (e 9 i),
      bad (3 < f.code || (f.code == 3 && (8 ≤ f.partner || absentVg f.partner || f.partner == i))) 0x29 1 (e 9 i)]),
    -- the mapping: radius, local memory, clusters, rings, stagger ports, links out of a region, operating points, partners
    us.findSome? (fun u => bad (32 < u.rv) 0x2A 1 (e 2 u.vu)),
    us.findSome? (fun u => bad (131072 < u.mem) 0x2A 1 (e 2 u.vu)),
    (List.range 32).findSome? (fun c =>
      let have_ := ((List.range 18).filter (fun k =>
        let st := s.fld (puState (18 * c + k))
        st == 1 || st == 2)).length
      bad (have_ < (us.filter (fun u => u.vu / 16 == c)).length) 0x2A 1 (e 2 (16 * c))),
    (List.range 8).findSome? (fun n =>
      bad (!(structUsed d).isEmpty && us.any (fun u => u.vu / 64 == n) && structRingBytes d n < 288 * structRingLine d n) 0x2A 1 (e 2 (64 * n))),
    (structUsed d).findSome? (fun c => bad (c.2.leading && !(structRtPorts d).any (fun p => p.1 == 1 && p.2.1 == c.1)) 0x2A 1 (e 5 c.1)),
    eachErr d.links (fun i l =>
      let vs := l.src / 2 ^ 16 % 4096
      let out := l.src / 2 ^ 28 == 1 && !(l.dst / 2 ^ 28 == 1 && l.dst / 2 ^ 16 % 4096 / 64 == vs / 64)
      bad (out && l.buf < 16) 0x2A 1 (e 3 i)),
    eachErr d.dvfs (fun i v =>
      if s.has .die i then match structOpReq d i with
        | some k => bad (v.2 < k) 0x2F 1 (e 6 i)
        | none => bad true 0x2F 1 (e 6 i)
      else none),
    eachErr d.fallback (fun i f =>
      bad (f.code == 3 && s.has .region i && !(structUsed d).isEmpty && (us.filter (fun u => u.vu / 64 == f.partner)).any (fun u =>
        131072 < u.twice.mem || !meets u.twice.cl ((d.dvfs[f.partner / 2]?).map (·.2) |>.getD 0) (structCam d d.refCam).maxHz 2)) 0x2A 1 (e 9 i))]

/-! ### Step 8: pins and lanes -/

/-- A camera's lanes and rates (R4, R40, R108, R114, R159). -/
def camPinErr (n : Nat) (c : CamE) : Bool :=
  let rgb := fmtChans c.fmt == 3
  c.links != 0 && (
    c.firstLane != 8 * n || !([1, 2, 3, 5, 6, 10, 12].contains c.rate)
      || (if rgb then 8192 else 16384) < c.ppl || (if rgb then 300000 else 400000) < c.maxHz
      || linkCap1000 c.links c.rate < c.ppl * fmtBits c.fmt * c.maxHz * 1000
      || (if c.leading then c.stagger < 16 || 8192 < c.stagger else c.stagger != 0))

/-- The stitch group (R159). -/
def groupBad (s : State) (d : StructData) : Bool :=
  let us := (structUsed d)
  let n := us.length
  !us.isEmpty && (
    !(List.range n).all (fun k => us.any (fun c => c.2.order == k))
      || us.any (fun c => c.2.fmt != (structFmt d))
      || !us.any (fun c => c.1 == d.refCam && !c.2.leading)
      || (if s.board.variant = .w1296 then 196608 else 98304) < d.width)

/-- A print port (R250). -/
def printPinErr (p : PrintE) : Bool :=
  p.en && (4096 < p.noz || !(p.bpn == 1 || p.bpn == 2) || 80000 < p.maxHz
    || (p.maxHz != 0 && 800000000 / p.maxHz < ceilDiv (p.noz * p.bpn) 8 * 8 + 24))

/-- PLACE a LINK must have (R38). -/
def linkPlace (l : LinkE) : Nat :=
  if l.src / 2 ^ 28 = 1 ∧ l.dst / 2 ^ 28 = 1 then
    let a := l.src / 2 ^ 16 % 4096
    let b := l.dst / 2 ^ 16 % 4096
    if a / 16 = b / 16 then 0 else if a / 128 = b / 128 then 1 else 2
  else 2

/-- Step 8 (R48): all 0x2E. -/
def pinCheck (s : State) (ss : List Section) (d : StructData) : Option LoadErr :=
  let e := entOfs ss 1
  firstErr [
    eachErr d.links (fun i l => bad (l.place != linkPlace l) 0x2E 1 (e 3 i)),
    eachErr d.cams (fun n c => bad (camPinErr n c) 0x2E 1 (e 5 n)),
    bad (groupBad s d) 0x2E 1 (e 5 d.refCam),
    eachErr d.pps (fun n c => bad (s.has .pport n && c.mode % 8 == 7) 0x2E 1 (e 5 (26 + n))),
    eachErr d.prints (fun n p => bad (printPinErr p) 0x2E 1 (e 5 (28 + n))),
    eachErr d.sdgs (fun n g => bad (g.mode == 2 && (g.div < 40 || 200 < g.div)) 0x2E 1 (e 5 (42 + n))),
    eachErr d.tws (fun n t => bad (3 ≤ t.speed || (t.mc && n != 3)) 0x2E 1 (e 5 (46 + n)))]

/-! ### Step 9: graph -/

/-- The node of a LINK's end: the unit's chain, or the fixed port. -/
def linkNode (code : Nat) : Nat := if code / 2 ^ 28 = 1 then 2 ^ 28 + code / 2 ^ 16 % 4096 else code

/-- Take away, `f` times, the edges that lead from a node no edge leads to: what stays lies on or behind a cycle. -/
def peel : Nat → List (Nat × Nat) → List (Nat × Nat)
  | 0, es => es
  | f + 1, es => peel f (es.filter (fun e => es.any (fun x => x.2 == e.1)))

/-- A cycle of LINKs without a buffer of two line blocks (R49). Every LINK end is a node here, a DDR-4 real-time port (kind 0x3) too, which R49 does
not name (DESIGN CHOICE, assumption 181). -/
def cycleBad (ls : List LinkE) : Bool :=
  let es := (ls.filter (fun l => l.buf < 32)).map (fun l => (linkNode l.src, linkNode l.dst))
  !(peel es.length es).isEmpty

/-- An event-only loop through the relays (R49, R100). -/
def evtLoop (es : List EvtE) : Option Nat :=
  let on := fun (c k : Nat) => bitN (((es[c]?).map evtMask).getD 0) k
  if on 62 93 then some 62 else if on 63 94 then some 63 else if on 62 94 && on 63 93 then some 62 else none

/-- Step 9 (R49), and a STRUCT while the pipeline runs (R51). -/
def graphCheck (s : State) (ss : List Section) (d : StructData) : Option LoadErr :=
  let e := entOfs ss 1
  firstErr [
    eachErr d.links (fun i l => bad (l.flow != 1) 0x2B 1 (e 3 i)),
    bad (cycleBad d.links) 0x2D 1 none,
    match evtLoop d.evts with
    | some c => bad true 0x2C 1 (e 4 c)
    | none => none,
    bad (!s.bit F.CFG_STAT_PIPE_STOPPED) 0x30 1 none]

/-! ### Step 10: the JOB -/

/-- Do two byte ranges overlap? -/
def rangesMeet (a an b bn : Nat) : Bool := 0 < an && 0 < bn && a < b + bn && b < a + an

/-- Bytes of a master's tile index (R214). -/
def masterIndexLen (m : MasterE) : Nat := 8 * (ceilDiv m.width 256 * ceilDiv m.height 256)

/-- DDR-4 ranges of a master (R213). -/
def masterRanges (m : MasterE) : List (Nat × Nat) :=
  [(m.base, m.clen), (m.indexBase, masterIndexLen m)] ++ (if m.classBase = 0 then [] else [(m.classBase, masterIndexLen m)])

/-- DDR-4 range of a PRINT entry's data (R251). -/
def prtRange (p : PrtE) : Nat × Nat := (p.base, p.nrep * p.lpr * p.stride)

/-- DDR-4 ranges of the running bank's JOB, which no new JOB may overlap (R213, R251, R54). -/
def State.busyRanges (s : State) : List (Nat × Nat) :=
  match (s.runningBank).bind s.job with
  | none => []
  | some j => j.masters.flatMap masterRanges ++ j.prints.map prtRange

/-- A range leaves installed DDR-4 or meets memory of the running bank (0x35). -/
def State.rangeBad (s : State) (r : Nat × Nat) : Bool := !s.inDdr r.1 r.2 || s.busyRanges.any (fun b => rangesMeet r.1 r.2 b.1 b.2)

/-- The difference paths of a STRUCT's chains (R213): grey, Lab. -/
def structPaths (d : StructData) : Bool × Bool :=
  (d.chains.any (fun c => c.slots.any (fun r => r.opc == 0x16)), d.chains.any (fun c => c.slots.any (fun r => r.opc == 0x12 || r.opc == 0x13)))

/-- Is a THRESH entry's difference mode evaluated by a slot of the STRUCT (R221)? -/
def structEvaluates (d : StructData) (dmode : Nat) : Bool :=
  d.chains.any (fun c => c.slots.any (fun r =>
    let from_ := ((c.slots[r.srcA - 16]?).map (·.opc)).getD 0
    r.opc == 0x17 && 16 ≤ r.srcA
      && (if dmode = 0 then parW r.params 0 == 0 && from_ == 0x16
        else parW r.params 0 == 1 && from_ == (if dmode = 1 then 0x12 else 0x13))))

/-- One MASTER entry (R213). -/
def masterErr (s : State) (d : StructData) (ms : List MasterE) (o : Option Nat) (i : Nat) (m : MasterE) : Option LoadErr :=
  let p := (structPaths d)
  firstErr [
    bad (3 < m.idx || repeats (ms.map (·.idx)) i) 0x34 2 o,
    bad (1 < m.format || ((p.1 || p.2) && !(if m.format = 0 then p.1 else p.2))) 0x34 2 o,
    bad (m.rsvd != 0) 0x34 2 o,
    bad (m.base % 64 != 0 || s.rangeBad (m.base, m.clen)) 0x35 2 o,
    bad (m.width < 256 || 196608 < m.width || m.height < 256 || 2 ^ 20 < m.height) 0x34 2 o,
    bad (m.indexBase % 8 != 0 || s.rangeBad (m.indexBase, masterIndexLen m)) 0x35 2 o,
    bad (m.classBase != 0 && s.rangeBad (m.classBase, masterIndexLen m)) 0x35 2 o,
    bad (d.width < m.x0 + m.width || (ms.take i).any (fun x => rangesMeet m.x0 m.width x.x0 x.width)) 0x34 2 o,
    bad (m.rsvd2 != 0) 0x34 2 o]

/-- One PRINT entry (R251, R262). -/
def printErr (s : State) (d : StructData) (j : JobData) (o : Option Nat) (i : Nat) (p : PrtE) : Option LoadErr :=
  let en := (d.prints[p.port]?).getD {}
  firstErr [
    bad (7 < p.port || repeats (j.prints.map (·.port)) i) 0x34 2 o,
    bad (!en.en) 0x36 2 o,
    bad (!j.compares.any (fun c => c.cu == p.cu) || repeats (j.prints.map (·.cu)) i
      || (s.bit (F.HP_CTL_MODE p.port) && s.fld (F.CU_CTL_CHAN p.cu) != s.fld (F.HP_SH_CTL_CHAN p.port))) 0x36 2 o,
    bad (p.bpn != en.bpn) 0x36 2 o,
    bad (16 ≤ p.wsel) 0x34 2 o,
    bad (p.base % 64 != 0) 0x35 2 o,
    bad (p.stride % 64 != 0) 0x34 2 o,
    bad (p.stride < ceilDiv (en.noz * en.bpn) 8) 0x36 2 o,
    bad (p.lpr == 0 || 2 ^ 20 < p.lpr) 0x34 2 o,
    bad (p.nrep == 0 || 4096 < p.nrep) 0x34 2 o,
    bad (s.rangeBad (prtRange p)) 0x35 2 o,
    bad (2 ≤ p.flags || p.rsvd != 0 || 2 ^ 31 ≤ p.orgOfs || p.rsvd2 != 0) 0x34 2 o]

/-- The section has a table of this type. -/
def hasTab (ss : List Section) (ty ttype : Nat) : Bool := ss.any (fun x => x.ty == ty && x.tabs.any (fun t => t.ttype == ttype))

/-- The JOB's tables, in ascending type order (R43, R48). -/
def jobCheck (s : State) (ss : List Section) (d : StructData) (j : JobData) : Option LoadErr :=
  let e := entOfs ss 2
  firstErr [
    bad (j.repeatLen == 0 || 2 ^ 31 ≤ j.repeatLen) 0x34 2 (e 0x41 0),
    bad (15 < j.thresh.length) 0x34 2 (e 0x42 15),
    eachErr j.thresh (fun i t =>
      bad (14 < t.cls || repeats (j.thresh.map (·.cls)) i || 2 < t.dmode || (t.tol != 0xFFFF && !structEvaluates d t.dmode) || t.rsvd != 0) 0x34 2 (e 0x42 i)),
    bad (64 < j.rules.length) 0x34 2 (e 0x43 64),
    eachErr j.rules (fun i r => bad (r.rsvd != 0 || 3 < r.pol || 128 ≤ r.out || 16 ≤ r.action || r.rsvd2 != 0) 0x34 2 (e 0x43 i)),
    bad (4 < j.masters.length || (hasTab ss 2 0x44 && j.masters.isEmpty)) 0x34 2 (e 0x44 (min 4 j.masters.length)),
    eachErr j.masters (fun i m => masterErr s d j.masters (e 0x44 i) i m),
    eachErr j.prints (fun i p => printErr s d j (e 0x45 i) i p),
    bad (16 < j.compares.length) 0x34 2 (e 0x46 16),
    eachErr j.compares (fun i c => bad (31 < c.cu || repeats (j.compares.map (·.cu)) i || c.spacing < 65536) 0x34 2 (e 0x46 i)),
    eachErr j.takeovers (fun i t =>
      bad (7 < t.port || t.rsvd != 0 || t.rsvd2 != 0 || ((d.prints[t.port]?).getD {}).noz ≤ t.nozzle || repeats (j.takeovers.map (fun t => (t.port, t.nozzle))) i
        || 64 ≤ ((j.takeovers.take i).filter (fun x => x.port == t.port)).length) 0x34 2 (e 0x47 i)),
    eachErr j.opParams (fun i p =>
      match (d.chains.find? (fun c => c.id == p.chain)).bind (fun c => if bitN c.jobmask p.slot then c.slots[p.slot]? else none) with
      | none => bad true 0x34 2 (e 0x48 i)
      | some r => bad (p.params.length != p.plen || p.params.length < 2 * opParams r.opc p.params || !opRange r.opc p.params) 0x34 2 (e 0x48 i))]

/-- The bank a JOB-only stream takes (R56); none where no bank will do. -/
def State.jobBank (s : State) : Option Bool :=
  let ok := fun b => s.bankState b == 0 || s.bankState b == 2
  match s.runningBank with
  | some r => if ok (!r) then some (!r) else none
  | none =>
    if s.bankState false = 0 then some false
    else if s.bankState true = 0 then some true
    else if s.bankState false = 2 ∧ s.bankState true = 2 then some (!s.bit F.CFG_BANK_LAST_LOAD)
    else if s.bankState false = 2 then some false
    else if s.bankState true = 2 then some true
    else none

/-- Bank B keeps its JOB when a STRUCT of this ID is applied (R53). -/
def State.keepsB (s : State) (sid : Nat) : Bool := s.bankState true != 0 && s.cfg.jobB.isSome && s.cfg.sidB == sid

/-- Ports a JOB names that the part does not have (R3, step 7 of R48). -/
def jobPorts (s : State) (ss : List Section) (j : JobData) : Option LoadErr :=
  let gone := fun (n : Nat) => n < 8 && !s.has .head n
  firstErr [
    eachErr j.prints (fun i p => bad (gone p.port) 0x29 2 (entOfs ss 2 0x45 i)),
    eachErr j.takeovers (fun i t => bad (gone t.port) 0x29 2 (entOfs ss 2 0x47 i))]

/-- Steps 2 to 9 (R48) for a stream of `got` bytes. -/
def State.streamRules (s : State) (st : Stream) (got : Nat) : Option LoadErr :=
  let ss := st.sections
  let masked := fun n => s.fld (F.ING_GEOM_MASK_L n) + s.fld (F.ING_GEOM_MASK_R n)
  firstErr [
    hdrCheck s.board got st.hdr,
    sectionCheck st,
    orderCheck st,
    sigCheck s.board ss,
    (streamStruct st).bind (fun d => firstErr [
      bad (d.crc != st.hdr.structId) 0x24 0 (some 24),
      resourceCheck s ss d masked]),
    (streamJob st).bind (jobPorts s ss),
    (streamStruct st).bind (fun d => firstErr [
      pinCheck s ss d,
      graphCheck s ss d])]

/-- Steps 1 to 9 (R48) for the staged stream. -/
def State.streamCheck (s : State) : Option LoadErr :=
  let got := s.cfg.load.bytes
  if 2 ^ 26 < got || !s.bit F.CFG_STAGE_BASE_HI_EN then some { code := 0x37, sec := 0, ofs := none }
  else s.streamRules s.staged got

/-- Step 10 up to the choice of bank, for a JOB-only stream. -/
def State.bankCheck (s : State) (st : Stream) : Option LoadErr :=
  firstErr [
    bad (s.cfg.struct.isNone || st.hdr.structId != s.rdN R.CFG_STRUCT_ID) 0x31 0 (some 24),
    bad s.jobBank.isNone 0x32 2 none]

/-- Step 10 from the JOB_ID on. -/
def State.jobRules (s : State) (st : Stream) (j : JobData) : Option LoadErr :=
  let ss := st.sections
  match streamStruct st with
  | some d => firstErr [
      bad (j.jobId == 0 || (s.keepsB st.hdr.structId && j.jobId == s.jobId true)) 0x33 2 (entOfs ss 2 0x41 0),
      jobCheck s ss d j]
  | none =>
    let other := (s.runningBank).filter (fun r => j.jobId == s.jobId r)
    firstErr [
      bad (j.jobId == 0 || other.isSome) 0x33 2 (entOfs ss 2 0x41 0),
      jobCheck s ss (s.cfg.struct.getD {}) j]

/-- The bank in LOADING (R55). -/
def State.loadingBank (s : State) : Option Bool :=
  if s.bankState false = 1 then some false else if s.bankState true = 1 then some true else none

end Sys2Proof.Machine
end

