-- ==== Sys2Proof/Machine/Nim.lean ====
section
/-!
DEFINITION. Nimeb ports (R124 to R131, R133): training, IDENT, credited frames with credits and replay, routes, lane swaps, and
the device ID (R29).
-/
namespace Sys2Proof.Machine

/-- State codes of NPp_STAT.STATE. -/
def npTrain : Nat := 1
def npIdent : Nat := 2
def npHeld : Nat := 4

/-- The entry of the route table that matches a destination: the longest PLEN, the lowest k (R131). -/
def State.route (s : State) (dst : Nat) : Option Nat :=
  let hits := (List.range 16).filter (fun k => s.bit (F.NIM_ROUTE_VALID k) &&
    (let l := s.fld (F.NIM_ROUTE_PLEN k)
     s.fld (F.NIM_ROUTE_ID k) / 2 ^ (18 - l) == dst / 2 ^ (18 - l)))
  (argBest (fun a b => s.fld (F.NIM_ROUTE_PLEN b) < s.fld (F.NIM_ROUTE_PLEN a)) hits).map (fun k => s.fld (F.NIM_ROUTE_PORT k))

/-- Frames without a route, or routed back, are counted (R131). -/
def State.noRoute (s : State) : State := s.incCnt F.NIM_NOROUTE_CNT F.NIM_NOROUTE_SAT

/-- Send a credited frame towards a device by the route table (R131). -/
def State.sendRouted (s : State) (f : NFrame) : State :=
  match s.route f.dst with
  | some p => s.sendFrameNp p f
  | none => s.noRoute

/-- A frame is discarded and counted (R127); one that fails FCRC causes a NAK (R130). -/
def State.nimBad (s : State) (p : Nat) (nak : Bool) : State :=
  let s := s.incCnt (F.NP_CNT_CRC_CNT p) (F.NP_CNT_SAT p)
  if nak then s.nimNak p else s

/-- Acceptance of a credited frame on port p (R127, R129, R130): FCRC, then SEQ order; a failure is answered by a NAK. An
accepted frame's buffer is freed and its credits are owed. -/
def State.npAccept (s : State) (p vc seq : Nat) (ack : Option (BitVec 12)) (fcrcOk : Bool) (len : Nat) : Bool × State :=
  if s.npSt p != npStUp then (false, s)
  else if !fcrcOk ∨ 256 < len then (false, s.nimBad p (!fcrcOk))
  else
    let s := s.npAck p ack
    if seq ≠ ((s.npS p).rxSeq + 1) % 4096 then (false, s.nimNak p)
    else (true, s.modNp p (fun x => { x with rxSeq := seq, owed := modAt x.owed vc (· + frameCredits len) }))

/-- Is an accepted frame consumed here (R131)? -/
def State.ownDst (s : State) (dst : Nat) : Bool := dst == s.devId || dst == 0x3FFFF

/-- Forward a frame that is for another device (R131). -/
def State.forward (s : State) (inPort : Nat) (f : NFrame) : State :=
  match s.route f.dst with
  | some p => if p = inPort then s.noRoute else s.sendFrameNp p f
  | none => s.noRoute

/-- Port p starts training (R126): its lanes hunt. A port coming up from DOWN owes its peer the credits of its whole buffer
(R129). -/
def State.npStart (s : State) (p : Nat) : State :=
  let s := if s.npSt p = 0 then s.modNp p (fun x => { x with owed := [128, 128, 128, 128] }) else s
  let s := s.setFld (F.NP_STAT_STATE p) npTrain
  (List.range 4).foldl (fun s k =>
    let i := 96 + 4 * p + k
    if s.lst i = lsRetired ∨ s.lst i = lsTest then s else s.toHunt i) (s.setFld (F.NP_STAT_LANES p) 0)

/-- Ports that may train now do (R29, R126): those STRUCT enables, with a valid device ID. A HELD port waits until DUP_ID is cleared and
DEV_ID has been rewritten since the port is held, in either order (assumption 189). -/
def State.npReady (s : State) : State :=
  if !s.bit F.TOP_DEVID_VALID then s
  else (List.range 4).foldl (fun s p =>
    if s.bit (F.NP_CTL_EN p) && (s.npSt p == 0 || (s.npSt p == npHeld && !s.bit F.TOP_DEVID_DUP_ID && (s.npS p).rewritten)) then s.npStart p
    else s) s

/-- A write of TOP_DEVID.DEV_ID (R29). -/
def State.devIdWrite (s : State) (id : Nat) : State :=
  if s.fld F.TOP_READY_NP ≠ 0 then s.status 0x40
  else
    let s := (s.setFld F.TOP_DEVID_DEV_ID id).flag F.TOP_DEVID_VALID
    let s := (List.range 4).foldl (fun s p => if s.npSt p = npHeld then s.modNp p (fun x => { x with rewritten := true }) else s) s
    s.npReady.status 0

/-- NPp_CTL.RETRAIN (R126). -/
def State.npRetrain (s : State) (p : Nat) : State :=
  if s.npSt p = 0 ∨ s.npSt p = npHeld then s else s.npDown p true

/-! ### Alignment markers and lane swaps (R125, R133) -/

/-- A direction's map: the logical lane moves to lane `l`, and the lane it leaves is the spare. -/
def swapMap (m : List Nat) (j l : Nat) : List Nat := (m.set j l).set 3 (m.getD j j)

/-- NPp_MAP shows a map; the last direction that moved (R124, assumption 191). -/
def State.showMap (s : State) (p : Nat) (m : List Nat) : State :=
  (s.putN (R.NP_MAP p) ((m.zipIdx.map (fun e => e.1 * 4 ^ e.2)).sum)).flag (F.NP_STAT_SPARE_USED p)

/-- At the marker a swap names, the logical lane moves to the spare in that direction (R133). An exchange of time frames on the port that
spans it is discarded (R298). -/
def State.swapAt (s : State) (p : Nat) (tx : Bool) : State :=
  let x := s.npS p
  match if tx then x.swapTx else x.swapRx with
  | none => s
  | some (j, l, m) =>
    let map := swapMap (if tx then x.txMap else x.rxMap) j l
    let s := s.modNp p (fun x => if tx then { x with swapTx := none, txMap := map, txMark := m }
      else { x with swapRx := none, rxMap := map, rxMark := m })
    let s := s.showMap p map
    let i := 96 + 4 * p + l
    let s := if tx then s
      else
        let s := if s.lst i = lsSpare then s.setFld (F.LANE_STAT_STATE i) lsServ else s
        s.setFld (F.NP_STAT_LANES p) (s.npDataIn p [lsServ]).length
    if s.fld F.TIME_CTL_UP_PORT = p && s.time.reqWait then { s with time := { s.time with reqSpoil := true } } else s

/-- An alignment period ends: every lane of the port carries an alignment block with the next marker count, and so does the neighbour;
a swap that names the marker takes place (R125, R133). -/
def State.npAlign (s : State) (p : Nat) : State :=
  let s := s.modNp p (fun x => { x with txMark := (x.txMark + 1) % 65536, rxMark := (x.rxMark + 1) % 65536 })
  let x := s.npS p
  let s := s.emit (.nimAlign p x.txMark x.txMap)
  let due := fun (w : Option (Nat × Nat × Nat)) (m : Nat) => w.any (fun e => e.2.2 == m)
  let s := if due x.swapRx x.rxMark then s.swapAt p false else s
  if due x.swapTx x.txMark then s.swapAt p true else s

/-- One TS_CLK period of the ports that transmit: 25/16 blocks on each lane (R125, assumption 192). -/
def State.nimTick (s : State) : State :=
  (List.range 4).foldl (fun s p =>
    if s.npSt p = 0 ∨ s.npSt p = npHeld then s
    else
      let b := (s.npS p).blocks + 25
      let s := s.modNp p (fun x => { x with blocks := b % 16384 })
      if b < 16384 then s else s.npAlign p) s

/-! ### Meanings -/

/-- DEV_ID_WRITE (R29). -/
def execDevIdWrite (id : BitVec 18) (s : State) : Host.Outcome State Fault Refusal := done s (s.devIdWrite id.toNat)

/-- IDENT_TIMER (R126): a port in IDENT sends an IDENT frame every 10 µs until it has received one. -/
def execIdentTimer (p : Fin 4) (s : State) : Host.Outcome State Fault Refusal :=
  if s.npSt p = npIdent && !(s.npS p).ident then
    done s (s.nimCtrl p 0x06 (leBytes 4 s.devId ++ leBytes 2 (s.fld F.TOP_ID_PART) ++ leBytes 1 p ++ zeros 1))
  else done s s

/-- IDENT_FRAME (R126); like every frame it may acknowledge (R127, R130). -/
def execIdentFrame (p : Fin 4) (devId : BitVec 18) (ack : Option (BitVec 12)) (s : State) : Host.Outcome State Fault Refusal :=
  if s.npSt p != npIdent then done s (s.npAck p ack)
  else
    let s' := (s.npAck p ack).modNp p (fun x => { x with ident := true, rewritten := false })
    if devId.toNat = s.devId then done s ((s'.setFld (F.NP_STAT_STATE p) npHeld).flag F.TOP_DEVID_DUP_ID)
    else done s ((((s'.setFld (F.NP_STAT_STATE p) npStUp).setFld (F.NP_STAT_PEER_ID p) devId.toNat).setReady (16 + p) true).npSend p)

/-- NP_RETRAIN (R126). -/
def execNpRetrain (p : Fin 4) (s : State) : Host.Outcome State Fault Refusal :=
  if s.has .nport p then done s ((s.npRetrain p).status 0) else done s s

/-- NAK_RECEIVED (R130): every kept frame after ACK_SEQ is sent again. Frames that waited, and which the acknowledgement lets go, leave
first; they are not sent twice (assumption 190). -/
def execNakReceived (p : Fin 4) (ackSeq : BitVec 12) (s : State) : Host.Outcome State Fault Refusal :=
  if s.npSt p != npStUp then done s s
  else
    let s' := s.npAck p (some ackSeq)
    let s' := (s.npS p).kept.foldl (fun t e =>
      if 2048 ≤ (ackSeq.toNat + 4096 - e.1) % 4096 then t.nimCredited p e.1 e.2 else t) s'
    done s (s'.incCnt (F.NP_CNT_REPLAY_CNT p) (F.NP_CNT_SAT p))

/-- CREDIT_FRAME (R129): credits return; frames that waited for them leave. -/
def execCreditFrame (p : Fin 4) (c0 c1 c2 c3 : BitVec 8) (ack : Option (BitVec 12)) (s : State) :
    Host.Outcome State Fault Refusal :=
  if s.npSt p != npStUp then done s s
  else
    let s' := [c0, c1, c2, c3].zipIdx.foldl (fun s e =>
      s.setFld (creditF p e.2) (min 255 (s.fld (creditF p e.2) + e.1.toNat))) s
    done s ((s'.npAck p ack).npSend p)

/-- CREDIT_RETURN_TIMER (R129): the credits owed go out in a CREDIT frame. -/
def execCreditReturnTimer (p : Fin 4) (s : State) : Host.Outcome State Fault Refusal :=
  let o := (s.npS p).owed
  if s.npSt p = npStUp && o.any (· != 0) then
    done s ((s.nimCtrl p 0x02 (o.flatMap (fun c => leBytes 1 (min 255 c)) ++ zeros 4)).modNp p
      (fun x => { x with owed := x.owed.map (· - 255) }))
  else done s s

/-- LANE_SWAP_FRAME (R133): the other side names the logical lane, the new lane and the marker at which this side's transmitter moves to
it. It is taken while the port is UP, as other frames are (assumption 133). -/
def execLaneSwapFrame (p : Fin 4) (logical : Fin 3) (lane : Fin 4) (marker : BitVec 16) (ack : Option (BitVec 12)) (s : State) :
    Host.Outcome State Fault Refusal :=
  if s.npSt p = npStUp then done s ((s.npAck p ack).modNp p (fun x => { x with swapTx := some (logical, lane, marker.toNat) }))
  else done s s

/-- LANE_SWAP_APPLY (R133): the marker a swap of one direction names is reached. -/
def execLaneSwapApply (p : Fin 4) (tx : Bool) (s : State) : Host.Outcome State Fault Refusal := done s (s.swapAt p tx)

end Sys2Proof.Machine
end

