-- ==== Sys2Proof/Machine/Restore.lean ====
section
/-!
DEFINITION. What Winter loses and what it brings back: the retention of region memory (R399) and the restore area, into which the loader writes each
assigned VU's chain, strip and both parameter copies (R400, R401). The area's layout is the model's (assumption 110).
-/
namespace Sys2Proof.Machine

/-! ### Retention (R394, R399) -/

/-- Are a region's banks of one use (R40) all in its retention mask? Where MEM names none for that use, the whole mask must be set. -/
def State.retains (s : State) (n use : Nat) : Bool :=
  let m := s.fld (F.PWR_RET_MASK_LO_BANKS n) + 2 ^ 32 * s.fld (F.PWR_RET_MASK_HI_BANKS n)
  let bs := ((s.cfg.struct.map (·.mems)).getD []).filterMap (fun e => match e with
    | .banks r f k u => if r = n ∧ u = use then some (f, k) else none
    | _ => none)
  if bs.isEmpty then m == 2 ^ 40 - 1 else bs.all (fun e => (List.range e.2).all (fun j => bitN m (e.1 + j)))

/-- What a region without power loses (R399): the lines of its replay ring, its label tables and its accumulators, where their banks are not
retained. -/
def State.regionOff (s : State) (n : Nat) : State :=
  s.modRegion n (fun r =>
    { r with ringFrom := if s.retains n 0 || s.vg.lines.isEmpty then r.ringFrom else s.newest + 1,
             tables := if s.retains n 2 then r.tables else [],
             partials := if s.retains n 3 then r.partials else [] })

/-! ### The restore area (R400, R401) -/

/-- Where the area is. -/
def State.restoreBase (s : State) : Nat :=
  2 ^ 23 * s.fld F.PWR_RESTORE_LO_ADDR + 2 ^ 32 * s.fld F.PWR_RESTORE_HI_ADDR

/-- Bytes of the area that one logical VU has: 8 MiB over 512. -/
def restoreStep : Nat := 16384

/-- A VU's image: its strip, its chain, and each operator's parameters in both banks. -/
def State.restoreBody (s : State) (a : AssignE) (c : ChainE) : List Byte :=
  let slot := fun (k : Nat) (r : SlotRec) =>
    let pa := s.slotPar c k false
    let pb := s.slotPar c k true
    List.flatten [leBytes 2 r.opc, leBytes 1 r.srcA, leBytes 1 r.srcB, leBytes 1 r.srcC, leBytes 1 r.out, leBytes 2 pa.length, pa, leBytes 2 pb.length, pb]
  List.flatten [leBytes 4 a.vu, leBytes 4 a.chain, leBytes 4 a.start, leBytes 4 a.width, leBytes 4 a.overlap, leBytes 2 c.nops, leBytes 2 c.jobmask,
    (c.slots.mapIdx slot).flatten]

/-- An image as it stands in DDR-4: its length, its bytes, their CRC-32C, in whole lines. -/
def restoreImage (body : List Byte) : List Byte := padTo 64 (List.flatten [leBytes 4 body.length, body, leBytes 4 (crc32c body)])

/-- The assigned VUs with their chains. -/
def State.restoreVus (s : State) : List (AssignE × ChainE) :=
  (List.range 512).filterMap (fun v => match s.assignOf v with
    | none => none
    | some a => (s.chainOf a.chain).map (fun c => (a, c)))

/-- The loader writes the restore area, at every STRUCT application and JOB load (R400). -/
def State.restoreWrite (s : State) : State :=
  if !s.bit F.PWR_RESTORE_HI_EN then s
  else s.restoreVus.foldl (fun s e => s.memWrite (s.restoreBase + restoreStep * e.1.vu) (restoreImage (s.restoreBody e.1 e.2))) s

/-- Does a VU's image stand in the area, unspoiled and with a good CRC-32C (R401)? An image of no bytes is none. -/
def State.restoreGood (s : State) (v : Nat) : Bool :=
  let a := s.restoreBase + restoreStep * v
  let n := leAt (s.memRead a 4) 0 4
  if n = 0 ∨ restoreStep < n + 8 then false
  else !s.poisoned a (n + 8) && leAt (s.memRead (a + 4 + n) 4) 0 4 == crc32c (s.memRead (a + 4) n)

/-- The images of a die's assigned VUs are good (R401). -/
def State.dieImage (s : State) (d : Nat) : Bool := (s.restoreVus.filter (fun e => e.1.vu / 128 == d)).all (fun e => s.restoreGood e.1.vu)

end Sys2Proof.Machine
end

