-- ==== Sys2Proof/Machine/Pwr.lean ====
section
/-!
DEFINITION. PWR: states, gating and wake (R394 to R406), the PMBus engine (R392) and DVFS (R407 to R411).
-/
namespace Sys2Proof.Machine

/-! ### RUN = 1 (R51, R65, R406) -/

/-- A write of CFG_CTL.RUN = 1 (R51, R53, R65): a rise during a power transition is held (R406). -/
def State.runOne (s : State) : State :=
  if s.bit F.CFG_STAT_LOADING || s.bit F.CFG_STAT_APPLYING || (!s.bit F.CFG_CTL_RUN && !s.bit F.CFG_STAT_PIPE_STOPPED) then s.status 0x40
  else if s.bit F.CFG_CTL_RUN then s.status 0
  else if s.bit F.PWR_STAT_BUSY then { s with pwr := { s.pwr with held := s.pwr.held ++ [PwrHeld.run] } }.status 0
  else s.runStart

/-- A write of CFG_CTL.RUN = 0 (R51, R65): an armed swap is disarmed, and the camera triggers stop at the next block boundary, at
once where no camera is used or the next activation would begin a block. -/
def State.runZero (s : State) : State :=
  if !s.bit F.CFG_CTL_RUN then s
  else
    let s := s.setFld F.CFG_CTL_RUN 0
    let s := match s.armedBank with
      | some b => (List.range 8).foldl (fun (s : State) n => s.unpredict b n)
          (((s.setBank b 2).setFld F.CFG_SWAP_CTL_ARM 0).flag F.CFG_STAT_DISARMED_BY_STOP)
      | none => s
    let now := s.group.isEmpty || s.sti.refNext % 256 == 0 || s.cfg.trigDis
    { s with cfg := { s.cfg with trigDis := now, stopReq := !now } }

/-! ### PMBus engine (R392) -/

/-- VOUT_COMMAND for a voltage (R392): LINEAR16 with a signed exponent. -/
def voutWord (mv : Nat) (e : Int) : Nat :=
  if e ≤ 0 then (2 * mv * 2 ^ e.natAbs + 1000) / 2000 else (2 * mv + 1000 * 2 ^ e.natAbs) / (2000 * 2 ^ e.natAbs)

/-- Is a READ_VOUT within VTOL millivolts of the command (R392)? -/
def voutNear (a b : Nat) (e : Int) (vtol : Nat) : Bool :=
  let d := ((a : Int) - b).natAbs * 1000
  if e ≤ 0 then d ≤ vtol * 2 ^ e.natAbs else d * 2 ^ e.natAbs ≤ vtol

/-- One write transfer of the engine on TW0, with its PEC (R392). -/
def State.pmbWrite (s : State) (d : Nat) (bs : List Byte) : State :=
  let a := 2 * s.fld (F.TW0_PMB_ADDR d)
  let out := if s.bit (F.TW0_PMB_PEC d) then bs ++ [BitVec.ofNat 8 (crc8 (BitVec.ofNat 8 a :: bs))] else bs
  ((s.emit (.twStart 0 a false)).emit (.twData 0 out)).emit (.twStop 0)

/-- One Read Word of the engine on TW0: the command, a repeated START to read, the STOP (R392). -/
def State.pmbRead (s : State) (d : Nat) (cmd : Byte) : State :=
  let a := 2 * s.fld (F.TW0_PMB_ADDR d)
  (((s.emit (.twStart 0 a false)).emit (.twData 0 [cmd])).emit (.twStart 0 (a + 1) true)).emit (.twStop 0)

/-- Command of the voltage under way. -/
def State.pmbCmd (s : State) : Nat := match s.pwr.volts with
  | [] => 0
  | (d, mv) :: _ => voutWord mv (s.sfld (F.TW0_PMB_EXP d)) % 65536

/-- May the engine drive TW0: no bus clear runs, and SDA is not stuck (R386)? -/
def State.pmbFree (s : State) : Bool := !(s.twS 0).clear && !s.bit (F.TW_STAT_STUCK_SDA 0)

/-- The engine sends PAGE and VOUT_COMMAND for the voltage at the front, once, as soon as it may drive TW0 (R386, R392). -/
def State.pmbSend (s : State) : State :=
  match s.pwr.volts with
  | [] => s
  | (d, _) :: _ =>
    if s.pwr.wrote || !s.pmbFree then s
    else
      let page := s.fld (F.TW0_PMB_PAGE d)
      let s := if page = 0xFF then s else s.pmbWrite d [0x00, BitVec.ofNat 8 page]
      { (s.pmbWrite d ((0x21 : Byte) :: leBytes 2 s.pmbCmd)) with pwr := { s.pwr with wrote := true } }

/-- The engine starts the voltage at the front (R392). -/
def State.pmbBegin (s : State) : State :=
  match s.pwr.volts with
  | [] => s
  | (d, _) :: _ =>
    let s := (s.flag F.TW0_PMB_STAT_BUSY).setFld F.TW0_PMB_STAT_DIE d
    { s with pwr := { s.pwr with inRange := false, wrote := false } }.pmbSend

/-- Ask the engine for a voltage of a die. -/
def State.pmbAsk (s : State) (d mv : Nat) : State :=
  let idle := s.pwr.volts.isEmpty
  let s := { s with pwr := { s.pwr with volts := s.pwr.volts ++ [(d, mv)] } }
  if idle then s.pmbBegin else s

/-! ### DVFS (R408 to R411) -/

/-- The effective target of a die (R408). -/
def State.dvfsGoal (s : State) (d : Nat) : Nat :=
  min (max (s.fld (F.PWR_DVFS_TARGET d)) (s.fld (F.PWR_DVFS_FLOOR d))) (s.fld (F.PWR_DVFS_OP_MAX d))

/-- The move of a die, if one is under way. -/
def State.moveOf (s : State) (d : Nat) : Option Move := s.pwr.moves.find? (fun m => m.die == d)

/-- Replace the move of a die. -/
def State.setMove (s : State) (d : Nat) (m : Option Move) : State :=
  let rest := s.pwr.moves.filter (fun x => x.die != d)
  { s with pwr := { s.pwr with moves := match m with
                                        | some m => rest ++ [m]
                                        | none => rest } }

/-- The sequencer moves a die to its effective target (R409). -/
def State.dvfsGo (s : State) (d : Nat) : State :=
  let t := s.dvfsGoal d
  let c := s.fld (F.PWR_DVFS_CUR d)
  if (s.moveOf d).isSome || !s.pwr.powered.contains d || t = c then s
  else
    let s := s.flag (F.PWR_DVFS_MOVING d)
    if c < t && s.bit (F.TW0_PMB_EN d) then (s.setMove d (some { die := d, goal := t, phase := 0, again := false })).pmbAsk d (opMv t)
    else s.setMove d (some { die := d, goal := t, phase := 1, again := false })

/-- TOP_READY.CD of a die: powered, and at its floor (R410); its fall outside Winter is fatal (R427). The ready bits of
its regions follow (R30). -/
def State.dieReady (s : State) (d : Nat) : State :=
  let up := s.pwr.powered.contains d && s.fld (F.PWR_DVFS_FLOOR d) ≤ s.fld (F.PWR_DVFS_CUR d)
  let fell := !up && s.bit ⟨R.TOP_READY, 20 + d, 1⟩
  let s := s.setReady (20 + d) up
  if fell then s.vgReady.fatal 2 else s.vgReady

/-- TOP_READY.CFG rises once the STRUCT is applied and the dies stand at their targets (R408). -/
def State.cfgReady (s : State) : State :=
  if s.bit F.CFG_STAT_STRUCT_VALID && !s.bit F.CFG_STAT_APPLYING && s.pwr.moves.isEmpty then s.setReady 7 true else s

/-- A move ends (R409 to R411): after a failure the sequencer tries again only where TARGET was written meanwhile. -/
def State.moveEnd (s : State) (d : Nat) (m : Move) (failed : Bool) : State :=
  let s := ((s.setMove d none).setFld (F.PWR_DVFS_MOVING d) 0).dieReady d
  (if failed && !m.again then s else s.dvfsGo d).cfgReady

/-- A voltage of a die is confirmed, or has failed (R409, R410). -/
def State.voltDone (s : State) (d : Nat) (ok : Bool) : State :=
  let note := fun (s : State) => (s.flag F.PWR_STAT_DVFS_FAIL).fault 0x09 0x3 d
  match s.moveOf d with
  | none => s
  | some m =>
    if m.phase = 0 then
      if ok then s.setMove d (some { m with phase := 1 })
      else ((note s).setMove d (some { m with phase := 3 })).pmbAsk d (opMv (s.fld (F.PWR_DVFS_CUR d)))
    else if m.phase = 2 then
      let s := s.setFld (F.PWR_DVFS_CUR d) m.goal
      (if ok then s else note s).moveEnd d m (!ok)
    else s.moveEnd d m true

/-- DVFS_FREQ_SWITCH (R409): the die's clock changes at a line boundary. -/
def execDvfsFreqSwitch (d : Fin 4) (s : State) : Host.Outcome State Fault Refusal :=
  match s.moveOf d with
  | none => done s s
  | some m =>
    if m.phase ≠ 1 then done s s
    else if m.goal < s.fld (F.PWR_DVFS_CUR d) && s.bit (F.TW0_PMB_EN d) then
      done s ((s.setMove d (some { m with phase := 2 })).pmbAsk d (opMv m.goal))
    else done s ((s.setFld (F.PWR_DVFS_CUR d) m.goal).moveEnd d m false)

/-- A write of PWR_DVFSd.TARGET (R406, R408, R411). -/
def State.targetWrite (s : State) (d v : Nat) : State :=
  if s.bit F.PWR_STAT_BUSY then { s with pwr := { s.pwr with held := s.pwr.held ++ [PwrHeld.target d v] } }.status 0
  else
    let s := (s.setFld (F.PWR_DVFS_TARGET d) v).status 0
    match s.moveOf d with
    | some m => s.setMove d (some { m with again := true })
    | none => s.dvfsGo d

/-- DVFS_TARGET_WRITE (R408). -/
def execDvfsTargetWrite (d : Fin 4) (v : BitVec 3) (s : State) : Host.Outcome State Fault Refusal :=
  if s.has .die d then done s (s.targetWrite d v.toNat) else done s s

/-- What was held while a transition ran takes effect in its order of arrival (R406). -/
def State.pwrRelease (s : State) : State :=
  let l := s.pwr.held
  l.foldl (fun s h => match h with
    | .target d v => { (s.targetWrite d v) with lastStatus := s.lastStatus }
    | .cal d k => s.calTrigger d k
    | .run => { s.runOne with lastStatus := s.lastStatus }) { s with pwr := { s.pwr with held := [] } }

/-! ### Gating (R395 to R398) -/

/-- Gateable blocks the part has, in ascending ID order (R395). -/
def State.gateables (s : State) : List Nat := (List.range 32).filter (fun b => gateable b && s.has .pblock b)

/-- Is a region without an assigned VU? -/
def State.regionEmpty (s : State) (n : Nat) : Bool :=
  !(List.range 64).any (fun j => s.bit (F.VG_VU_MAP_ASSIGNED n j))

/-- Is a gateable block idle (R396)? -/
def State.blockIdle (s : State) (b : Nat) : Bool :=
  let stopped := s.bit F.CFG_STAT_PIPE_STOPPED
  if b = 0x0F then (List.range 32).all (fun n => !s.bit (F.DM_STAT_BUSY n))
  else if b = 0x10 then stopped && (List.range 16).all (fun n => !s.bit (F.CMP_CC_STAT_BUSY n))
  else if b = 0x0D then (List.range 16).all (fun n => !s.bit (F.SDF_CH_CTL_EN n))
  else if b = 0x15 then (List.range 2).all (fun p => !s.bit (F.PP_CTL_EN p) && !s.bit (F.PP_STAT_HELD0 p) && !s.bit (F.PP_STAT_HELD1 p))
  else if 0x18 ≤ b then stopped || s.regionEmpty (b - 0x18)
  else stopped

/-- In Summer the regions without an assigned VU are clock-gated, and every other block runs (R394). -/
def State.summerGate (s : State) : State :=
  if s.fld F.PWR_STAT_STATE ≠ 0 then s
  else s.gateables.foldl (fun s b => s.gateSet b (decide (0x18 ≤ b) && s.regionEmpty (b - 0x18))) s

/-- BLOCK_GATE (R394, R396): in Autumn a block of class 0b01 or 0b10 that has been idle is gated; in Summer a region without an assigned VU is,
once the access that woke it is over. -/
def execBlockGate (b : Fin 32) (s : State) : Host.Outcome State Fault Refusal :=
  let cls := s.fld (F.PWR_CLASS_CLASS b)
  let autumn := s.fld F.PWR_STAT_STATE = 1 && (cls == 1 || cls == 2) && s.blockIdle b
  let summer := s.fld F.PWR_STAT_STATE = 0 && decide (0x18 ≤ b.val) && s.regionEmpty (b - 0x18)
  if s.gateables.contains b && (autumn || summer) then done s (s.gateSet b true)
  else done s s

/-- TABLE_WAKE_STEP (R398): the block under way is awake; the next one follows, or the camera triggers are released. -/
def execTableWakeStep (s : State) : Host.Outcome State Fault Refusal :=
  if !s.bit F.PWR_STAT_WAKING then done s s
  else
    let s' := match s.wakeTable with
      | [] => s
      | b :: _ => s.gateSet b false
    if s'.wakeTable.isEmpty then
      let s' := s'.setFld F.PWR_STAT_WAKING 0
      done s (if s'.bit F.CFG_CTL_RUN then { s' with cfg := { s'.cfg with trigDis := false } } else s')
    else done s s'

/-! ### Winter (R399 to R401) -/

/-- Lanes that go down in Winter (R399). -/
def State.winterLanes (s : State) : List Nat :=
  (List.range 114).filter (fun i => s.has .lane i && (i < 96 || !s.bit F.PWR_CTL_WINTER_NET))

/-- A lane loses power in Winter (R399): an eye scan of it ends, and what waits for its LOCK. A lane in RETIRED or TEST keeps its state
(R121, R132, assumption 193). -/
def State.laneDown (s : State) (i : Nat) : State :=
  let s := { s with lane := { s.lane with lost := s.lane.lost.filter (· != i) } }
  if s.lst i = lsRetired ∨ s.lst i = lsTest then s
  else s.toOff i

/-- A Nimeb port loses its lanes in Winter (R399); a HELD port stays HELD (R29). -/
def State.npOff (s : State) (p : Nat) : State :=
  ((if s.npSt p = npHeld then s else s.setFld (F.NP_STAT_STATE p) 0).setFld (F.NP_STAT_LANES p) 0).setReady (16 + p) false

/-- Winter is entered (R399): the dies and the lanes lose power, every gateable block stops, DDR-4 is held in self-refresh. -/
def State.enterWinter (s : State) : State :=
  let s := s.setFld F.PWR_STAT_STATE 2
  let s := s.gateables.foldl (fun s b => s.gateSet b true) s
  let net := s.bit F.PWR_CTL_WINTER_NET
  let s := (List.range 12).foldl (fun s n => s.camCount n) (s.winterLanes.foldl (fun s i => s.laneDown i) s)
  let s := if net then s else (List.range 2).foldl (fun s p => s.setReady (12 + p) false) s
  let s := if net then s else (List.range 4).foldl (fun s p => s.npOff p) s
  let s := (List.range 4).foldl (fun s d => s.setReady (20 + d) false) s
  let s := (List.range 8).foldl (fun s n => s.setReady (24 + n) false) s
  let s := (List.range 12).foldl (fun s n => s.setReady (32 + n) false) s
  let s := (List.range 16).foldl (fun s k => s.setFld (F.CAL_TEMP_VALID k) 0) s
  -- DDR-4 in self-refresh (R330): the write queues are emptied first, and every row is closed.
  let s := (List.range 8).foldl (fun s c => s.modDmc c (fun d => { d with wq := [], rows := [], down := [], post := [] })) s
  let s := s.dmcValid
  let s := (List.range 8).foldl (fun s n => s.regionOff n) s
  { s with pwr := { s.pwr with powered := [] },
           vg := { s.vg with units := s.vg.units.map (fun u => { u with slots := u.slots.map (fun _ => .none), outs := if s.retains (u.vu / 64) 1 then u.outs else [] }) } }

/-- Bring up the die at the front of the restore list (R401): its floor voltage first. -/
def State.dieBegin (s : State) : State :=
  match s.pwr.dies with
  | [] => s
  | d :: _ => if s.bit (F.TW0_PMB_EN d) then s.pmbAsk d (opMv (s.fld (F.PWR_DVFS_FLOOR d))) else s

/-- The last die is done: the new state holds, and what was held takes effect (R401, R406, R411). -/
def State.winterLeft (s : State) : State :=
  match s.pwr.leaving with
  | none => s
  | some t =>
    let s := (s.setFld F.PWR_STAT_STATE t).setFld F.PWR_STAT_BUSY 0
    let s := (s.gateables.foldl (fun s b => if s.fld (F.PWR_CLASS_CLASS b) == 0 then s.gateSet b false else s) s).summerGate
    let s := { s with pwr := { s.pwr with leaving := none } }
    ((List.range 4).foldl (fun s d => s.dvfsGo d) s).pwrRelease

/-- A die of the restore list is up, or has failed (R401). -/
def State.dieDone (s : State) (d : Nat) (ok : Bool) : State :=
  let s := { s with pwr := { s.pwr with dies := s.pwr.dies.filter (· != d) } }
  let s :=
    if ok then
      let s := { s with pwr := { s.pwr with powered := s.pwr.powered ++ [d] } }
      let s := (s.setFld (F.PWR_DVFS_CUR d) (s.fld (F.PWR_DVFS_FLOOR d))).dieReady d
      s.calAsk d 255
    else s.fault 0x09 0x1 d
  if s.pwr.dies.isEmpty then s.winterLeft else s.dieBegin

/-- Winter is left for `t` (R401). `ddrFail` marks the DDR-4 channels that do not return. -/
def State.leaveWinter (s : State) (t : Nat) (ddrFail : Nat) : State :=
  let s := s.flag F.PWR_STAT_BUSY
  let s := { s with pwr := { s.pwr with leaving := some t, dies := (List.range 4).filter (fun d => s.has .die d) } }
  let s := (List.range s.nch).foldl (fun s c =>
    if bitN ddrFail c && s.chanServes c then
      ((s.setFld (F.DMC_CH_STAT_STATE c) 4).flag (F.DMC_CH_STAT_CHK_FAIL c)).setReady (48 + c) false
    else s) s
  let s := s.dmcValid
  let s := s.winterLanes.foldl (fun s i =>
    if s.bit (F.LANE_CTL_EN i) && s.lst i == lsOff && !(96 ≤ i && i < 112) then s.toHunt i else s) s
  let s := if s.bit F.PWR_CTL_WINTER_NET then s else s.npReady
  s.dieBegin

/-- DIE_RESTORE_DONE (R401): the die's PLL has locked and its restore image is read back. `crcOk` false says that the reading spoiled it on its
way; what stands in the area is checked in any case. -/
def execDieRestoreDone (d : Fin 4) (crcOk : Bool) (s : State) : Host.Outcome State Fault Refusal :=
  match s.pwr.dies with
  | [] => done s s
  | c :: _ =>
    if c ≠ d.val || s.pwr.leaving.isNone || s.pwr.volts.any (fun v => v.1 == c) then done s s
    else done s (s.dieDone c (crcOk && s.bit F.DMC_INSTALLED_VALID && s.dieImage c))

/-! ### The engine's events (R392) -/

/-- The voltage at the front ends; what waited for it goes on, then the next voltage (R392, R401, R409). -/
def State.pmbEnd (s : State) (ok : Bool) : State :=
  match s.pwr.volts with
  | [] => s
  | (d, _) :: rest =>
    let s := { s with pwr := { s.pwr with volts := rest, inRange := false } }.setFld F.TW0_PMB_STAT_BUSY 0
    let s := if ok then s else s.flag F.TW0_PMB_STAT_FAIL
    let s := s.pmbBegin
    if s.pwr.leaving.isSome && s.pwr.dies.head? == some d then (if ok then s else s.dieDone d false) else s.voltDone d ok

/-- PMBUS_POLL (R392): a READ_VOUT transfer, held against the command; a NACK or PEC mismatch fails. Once the voltage was in range there is no
further poll, and none while the engine may not drive TW0 (R386); what it could not send before goes first. -/
def execPmbusPoll (vout : BitVec 16) (ok : Bool) (s : State) : Host.Outcome State Fault Refusal :=
  match s.pwr.volts with
  | [] => done s s
  | (d, _) :: _ =>
    if s.pwr.inRange || !s.pmbFree then done s s
    else
      let s' := s.pmbSend.pmbRead d 0x8B
      if !ok then done s (s'.pmbEnd false)
      else if voutNear vout.toNat s.pmbCmd (s.sfld (F.TW0_PMB_EXP d)) (s.fld F.TW0_PMB_CFG_VTOL) then
        done s { s' with pwr := { s'.pwr with inRange := true } }
      else done s s'

/-- PMBUS_SET_DONE (R392): a STATUS_WORD transfer; its bits [6:1] must be 0. Before the voltage was in range, `ok` = 0 says that the PAGE or
VOUT_COMMAND write was not acknowledged. -/
def execPmbusSetDone (status : BitVec 16) (ok : Bool) (s : State) : Host.Outcome State Fault Refusal :=
  match s.pwr.volts with
  | [] => done s s
  | (d, _) :: _ =>
    if !s.pmbFree || !s.pwr.wrote then done s s
    else if !s.pwr.inRange then done s (if ok then s else s.pmbEnd false)
    else done s ((s.pmbRead d 0x79).pmbEnd (ok && fieldN status.toNat 1 6 == 0))

/-- PMBUS_TIMEOUT (R392): LIMIT µs without success. -/
def execPmbusTimeout (s : State) : Host.Outcome State Fault Refusal :=
  if s.pwr.volts.isEmpty then done s s else done s (s.pmbEnd false)

/-! ### State requests (R402 to R406) -/

/-- Blocks an entry into Winter has yet to ask. -/
def State.toAsk (s : State) : List Nat := s.gateables.filter (fun b => !s.pwr.stopped.contains b)

/-- Hold-off of a refusal in µs (R404). -/
def holdOff (b code : Nat) : Nat :=
  if code = 0xF then 2000 else if code = 3 then 1000 else if code = 2 then 100
  else if b = 0x0F then 1000 else if b = 0x15 then 20000 else 100

/-- The rollback is over (R405). -/
def State.rollEnd (s : State) : State :=
  let r := s.pwr.refusal
  let s := (s.flag F.PWR_STAT_ABORTED).setFld F.PWR_STAT_BUSY 0
  let s := ((s.setFld F.PWR_REFUSE_BLOCK r.1).setFld F.PWR_REFUSE_CODE r.2.1).setFld F.PWR_REFUSE_HOLDOFF r.2.2
  let s := s.fault 0x09 0x2 r.1 (w5 := r.2.1) (w6 := r.2.2)
  { s with pwr := { s.pwr with asking := false, rolling := false, hold := s.evtNow + 800 * r.2.2 } }.pwrRelease

/-- Block `b` refuses (R405): the stopped blocks restart in reverse order. -/
def State.refuse (s : State) (b code : Nat) : State :=
  let s := { s with pwr := { s.pwr with rolling := true, asking := false, retry := false, refusal := (b, code, holdOff b code) } }
  if s.pwr.stopped.isEmpty then s.rollEnd else s

/-- A state request (R402, R403, R404). `ddrFail` as in `leaveWinter`. -/
def State.pwrCmd (s : State) (st ddrFail : Nat) : State :=
  let cur := s.fld F.PWR_STAT_STATE
  let s' := (s.setFld F.PWR_CMD_STATE st).status 0
  if s.bit F.PWR_STAT_BUSY || st = cur || 2 < st || s.evtNow < s.pwr.hold then s.status 0x40
  else if st = 2 then
    if !s.bit F.CFG_STAT_PIPE_STOPPED || !s.bit F.PWR_RESTORE_HI_EN then s.status 0x40
    else if s.board.variant = .w1296 then
      match s.gateables.find? (fun b => !s.blockIdle b) with
      | some b =>
        (((s.setFld F.PWR_REFUSE_BLOCK b).setFld F.PWR_REFUSE_CODE 1).setFld F.PWR_REFUSE_HOLDOFF 0).status 0x40
      | none => s'.enterWinter
    else { s' with pwr := { s'.pwr with asking := true, delays := 0, retry := false, stopped := [], rolling := false } }.flag
      F.PWR_STAT_BUSY
  else if cur = 2 then s'.leaveWinter st ddrFail
  else if st = 1 then s'.setFld F.PWR_STAT_STATE 1
  else (s'.setFld F.PWR_STAT_STATE 0).summerGate

/-- A write of PWR_CMD (R402). -/
def State.pwrCmdWrite (s : State) (val : Word) : State :=
  if bitN val.toNat 31 then s.pwrCmd (val.toNat % 4) 0
  else if val.toNat % 4 = 3 then s.status 0x40
  else (s.setFld F.PWR_CMD_STATE val.toNat).status 0

/-- PWR_SUMMER (R402, R401). -/
def execPwrSummer (ddrFail : BitVec 8) (s : State) : Host.Outcome State Fault Refusal := done s (s.pwrCmd 0 ddrFail.toNat)

/-- PWR_AUTUMN (R402, R401). -/
def execPwrAutumn (ddrFail : BitVec 8) (s : State) : Host.Outcome State Fault Refusal := done s (s.pwrCmd 1 ddrFail.toNat)

/-- PWR_WINTER (R402 to R404, R399). -/
def execPwrWinter (s : State) : Host.Outcome State Fault Refusal := done s (s.pwrCmd 2 0)

/-- BLOCK_ANSWER (R404, R405): 0 ACCEPT, 1 DELAY, 2 REFUSE with a code. -/
def execBlockAnswer (answer : Fin 3) (code : Fin 4) (s : State) : Host.Outcome State Fault Refusal :=
  if !s.pwr.asking || s.pwr.retry then done s s
  else match s.toAsk with
  | [] => done s s
  | b :: rest =>
    if answer.val = 2 then done s (s.refuse b (max 1 code.val))
    else if answer.val = 1 then
      if 16 ≤ s.pwr.delays then done s (s.refuse b 0xF)
      else done s { s with pwr := { s.pwr with delays := s.pwr.delays + 1, retry := true } }
    else
      let s' := (s.gateSet b true)
      let s' := { s' with pwr := { s'.pwr with stopped := b :: s'.pwr.stopped, delays := 0 } }
      if rest.isEmpty then
        let s' := { s' with pwr := { s'.pwr with asking := false, stopped := [] } }
        done s ((s'.enterWinter.setFld F.PWR_STAT_BUSY 0).pwrRelease)
      else done s s'

/-- DELAY_RETRY (R404): the same block is asked again. -/
def execDelayRetry (s : State) : Host.Outcome State Fault Refusal :=
  if s.pwr.asking then done s { s with pwr := { s.pwr with retry := false } } else done s s

/-- BLOCK_WAKE_DONE (R397, R405): a block is awake; in a rollback the next one restarts. -/
def execBlockWakeDone (b : Fin 32) (s : State) : Host.Outcome State Fault Refusal :=
  if s.pwr.rolling then
    match s.pwr.stopped with
    | [] => done s s
    | x :: rest =>
      if x ≠ b.val then done s s
      else
        let s' := { (s.gateSet x false) with pwr := { s.pwr with stopped := rest } }
        done s (if rest.isEmpty then s'.rollEnd else s')
  else if s.fld F.PWR_STAT_STATE = 2 && 0x18 ≤ b.val then done s s
  else if s.gateables.contains b then done s (s.gateSet b false)
  else done s s

end Sys2Proof.Machine
end

