-- ==== Sys2Proof/Machine/Seg.lean ====
section
/-!
DEFINITION. SEG: the master fetch (R213 to R217, R352), tile registration (R219, R220), objects (R222 to R229), the classifier (R230 to
R232), records (R233 to R240) and crops (R241 to R243).
-/
namespace Sys2Proof.Machine

/-! ### Master fetch (R214, R216, R217, R352) -/

/-- Read a stream by its entry in a tile index: none where the memory or the stream fails. -/
def State.tileStream (s : State) (index base tile : Nat) : Option (StreamHdr × List (List (List Nat))) :=
  let e := leVal (s.memRead (index + 8 * tile) 8)
  let a := base + e % 2 ^ 40
  let len := e / 2 ^ 40
  if !s.inDdr (index + 8 * tile) 8 || s.poisoned (index + 8 * tile) 8 || !s.inDdr a len || s.poisoned a len then none
  else match decStream (s.memRead a len) with
    | .ok h rows => some (h, rows)
    | _ => none

/-- Reading a stream by its entry in a tile index (R322, R325). -/
def State.tileRead (s : State) (index base tile : Nat) : State :=
  let e := leVal (s.memRead (index + 8 * tile) 8)
  let a := base + e % 2 ^ 40
  let len := e / 2 ^ 40
  if !s.inDdr (index + 8 * tile) 8 then s
  else
    let s' := s.ddrRead (index + 8 * tile) 8
    if s.poisoned (index + 8 * tile) 8 || !s.inDdr a len then s' else s'.ddrRead a len

/-- The rows of samples and of classes of a tile of a master, or none where one of its streams fails (R352). -/
def State.tileData (s : State) (m : MasterE) (tile : Nat) : Option (List (List (List Nat)) × List (List Nat)) :=
  match s.tileStream m.indexBase m.base tile with
  | none => none
  | some (h, rows) =>
    if h.kind ≠ 1 ∨ h.depth ≠ 8 ∨ h.width ≠ 256 ∨ h.rows ≠ 256 ∨ h.chans ≠ (if m.format = 1 then 3 else 1) then none
    else if m.classBase = 0 then some (rows, [])
    else match s.tileStream m.classBase m.classBase tile with
      | none => none
      | some (c, crows) =>
        if c.kind ≠ 2 ∨ c.depth ≠ 4 ∨ c.width ≠ 256 ∨ c.rows ≠ 256 then none
        else some (rows, crows.map (fun r => r.map px1))

/-- MASTER_FETCH (R216, R217): one tile of a bank's master is read and expanded for a block, for the regions that do not hold it yet. -/
def execMasterFetch (bankB : Bool) (idx : Fin 4) (tile : BitVec 24) (block : BitVec 32) (s : State) :
    Host.Outcome State Fault Refusal :=
  match (s.job bankB).bind (fun j => j.masters.find? (fun m => m.idx == idx.val)) with
  | none => done s s
  | some m =>
    let t := tile.toNat
    if ceilDiv m.width 256 * ceilDiv m.height 256 ≤ t then done s s
    else
      let d := s.tileData m t
      -- A region keeps what has been delivered to it for the block (R217); one that replays reads it again (R216).
      let lack := ((List.range 8).filter (fun n => (s.mtile n bankB idx t block.toNat).isNone)).foldl (fun a n => a + 2 ^ n) 0
      let e : MTile := { bank := bankB, idx := idx.val, tile := t, block := block.toNat, data := d, rgs := lack }
      let s' := (s.wakeBlock 0x10).tileRead m.indexBase m.base t
      let s' := if m.classBase = 0 then s' else s'.tileRead m.classBase m.classBase t
      let s' := { s' with seg := { s'.seg with master := e :: s'.seg.master } }
      if lack = 0 then done s s
      else if d.isSome then done s (s'.incWrap F.CMP_MX_CNT_TILES)
      else
        done s (((s'.flag F.SEG_STAT_MASTER_CRC).incCnt F.CMP_MX_CNT_BAD F.CMP_MX_CNT_SAT).fault 0x06 0x2 block.toNat (w5 := t))

/-! ### Tile registration (R219, R220) -/

/-- Sum of the tables of one tile. -/
def sumTabs (a b : TileTab) : TileTab :=
  { tile := a.tile, nc := a.nc + b.nc, nf := a.nf + b.nf, sadc := a.sadc.zipWith (· + ·) b.sadc, sadf := a.sadf.zipWith (· + ·) b.sadf }

/-- argmin of a table over offsets −r to r: ties take the least u² + v², then the least v, then the least u (R219). -/
def argMin (r : Nat) (l : List Nat) : Int × Int × Nat :=
  let c := (sq r).zip l
  let less := fun (a b : (Int × Int) × Nat) =>
    let n := fun (o : Int × Int) => o.1 * o.1 + o.2 * o.2
    if a.2 ≠ b.2 then decide (a.2 < b.2)
    else if n a.1 ≠ n b.1 then decide (n a.1 < n b.1)
    else if a.1.2 ≠ b.1.2 then decide (a.1.2 < b.1.2) else decide (a.1.1 < b.1.1)
  match argBest less c with
  | some e => (e.1.1, e.1.2, e.2)
  | none => (0, 0, 0)

/-- Update of one tile's offset (R219). -/
def State.tileUpdate (s : State) (t : TileTab) : State :=
  let fx := F.SEG_TILE_AX t.tile
  let fy := F.SEG_TILE_AY t.tile
  let ax := s.sfld fx
  let ay := s.sfld fy
  let minN := s.fld F.SEG_MREG_CFG0_MIN_N
  let step : Int := s.fld F.SEG_MREG_CFG0_STEP
  let k : Int := s.fld F.SEG_MREG_CFG0_K
  let lim := fun (v : Int) => clampI v (-4096) 4096
  let put := fun (s : State) (x y : Int) (st : Nat) =>
    ((s.setSfld fx (lim x)).setSfld fy (lim y)).setFld (F.SEG_TILE_STATE t.tile) st
  let f := argMin 2 t.sadf
  if 64 * minN ≤ t.nf ∧ f.1.natAbs ≤ 1 ∧ f.2.1.natAbs ≤ 1 then
    let at_ := fun (u v : Int) => ((t.sadf.getD ((v + 2) * 5 + (u + 2)).toNat 0 : Nat) : Int)
    let axis := fun (a w u sm s0 sp : Int) =>
      let den := sm - 2 * s0 + sp
      let fr := if den ≤ 0 then 0 else clampI (roundHalfAway (64 * (sm - sp)) (2 * den).toNat) (-32) 32
      a + clampI (asr (k * (64 * (w + u) + fr - a) + 128) 8) (-step) step
    let u := f.1
    let v := f.2.1
    put s (axis ax (asr ax 6) u (at_ (u - 1) v) (at_ u v) (at_ (u + 1) v))
      (axis ay (asr ay 6) v (at_ u (v - 1)) (at_ u v) (at_ u (v + 1))) 1
  else
    let c := argMin 8 t.sadc
    if minN ≤ t.nc ∧ c.2.2 ≤ t.nc * s.fld F.SEG_MREG_CFG1_COARSE_MAX then
      (put s (512 * c.1) (512 * c.2.1) 2).flag F.SEG_STAT_TILE_ACQ
    else (put s ax ay 3).flag F.SEG_STAT_TILE_LOST

/-- The tiles of a resolved block are updated from the summed tables (R219, R220, R425). -/
def State.tilesResolve (s : State) (b : Nat) (cs : List Commit) : State :=
  let banks := (s.seg.descs.filter (fun e => e.1 / 256 == b)).map (fun e => e.2.tag.bank)
  if banks.contains true && banks.contains false then s
  else
    let tabs := ((cs.filter (fun c => !s.class15 c.region)).flatMap (·.tabs)).flatMap (fun t => match t with
      | .mreg _ _ ts => ts
      | _ => [])
    let ids := (tabs.map (·.tile)).eraseDups
    ids.foldl (fun s t =>
      match tabs.filter (fun x => x.tile == t) with
      | [] => s
      | x :: xs => s.tileUpdate (xs.foldl sumTabs x)) s

/-! ### Joining (R222, R223) -/

/-- Boundary runs of an edge. -/
def edgeRuns (a : Acc) (edge : Nat) : List (Nat × Nat) := (a.runs.filter (fun r => r.1 == edge)).map (fun r => (r.2.1, r.2.2))

/-- Two runs meet (R223). -/
def runsMeet (p q : List (Nat × Nat)) : Bool := p.any (fun a => q.any (fun b => a.1 ≤ b.2 + 1 && b.1 ≤ a.2 + 1))

/-- Strip p ends where strip q begins. -/
def State.leftOf (s : State) (p q : Nat) : Bool :=
  match s.assignOf p, s.assignOf q with
  | some a, some b => a.start + a.width == b.start
  | _, _ => false

/-- Two partials of a block belong to one object (R223). A closed label has been freed (R208) and may name another component on later lines: a
closed partial shares its label with those that meet it in their lines (assumption 199). -/
def State.partsJoin (s : State) (p q : Partial) : Bool :=
  p.bank == q.bank && ((s.leftOf p.vu q.vu && runsMeet (edgeRuns p.acc 1) (edgeRuns q.acc 0))
    || (s.leftOf q.vu p.vu && runsMeet (edgeRuns q.acc 1) (edgeRuns p.acc 0))
    || (p.vu == q.vu && p.acc.label == q.acc.label
      && ((p.kind != 1 && q.kind != 1) || (p.acc.ymin ≤ q.acc.ymax && q.acc.ymin ≤ p.acc.ymax))))

/-- An object of the block before and a partial belong together (R223). -/
def objJoins (b : Nat) (o : Obj) (p : Partial) : Bool :=
  o.bank == p.bank && o.lastBlk + 1 == b && runsMeet o.openRuns (edgeRuns p.acc 2)

/-- What belongs together: partials of the block and objects that were live. -/
structure Comp where
  ps : List Partial
  os : List Obj

/-- Add a partial: everything it touches becomes one. -/
def State.compAdd (s : State) (b : Nat) (cs : List Comp) (p : Partial) : List Comp :=
  let touch := fun (c : Comp) => c.os.any (fun o => objJoins b o p) || c.ps.any (fun q => s.partsJoin p q)
  let t := cs.filter touch
  cs.filter (fun c => !touch c) ++ [{ ps := t.flatMap (·.ps) ++ [p], os := t.flatMap (·.os) }]

/-! ### Measures (R229) -/

/-- X_CENTRE. -/
def Acc.xCentre (a : Acc) : Nat := (64 * a.sx + a.area / 2) / max 1 a.area
/-- Y_EXTENT. -/
def Acc.yExt (a : Acc) : Nat := min (a.ymax - a.ymin + 1) 0xFFFFFF
/-- Y_CENT, with `sy` from line 0. -/
def Acc.yCent (a : Acc) : Nat := min (256 * (a.sy - a.area * a.ymin) / (max 1 a.area * a.yExt)) 255
/-- MEAN_DEV. -/
def Acc.mean (a : Acc) : Nat := min ((a.sd + a.area / 2) / max 1 a.area) 65535
/-- ELONG. -/
def Acc.elong (a : Acc) : Nat :=
  let w := a.xmax - a.xmin + 1
  min (max w a.yExt * 256 / min w a.yExt) 65535
/-- POL. -/
def Acc.pol (a : Acc) : Nat := if a.dark = 0 then 0 else if a.dark = a.area then 1 else 2

/-- CAM_MASK. -/
def State.camMaskOf (s : State) (a : Acc) : Nat :=
  ((List.range 12).map (fun c =>
    if s.camUsed c && a.xmin ≤ s.fld (F.STI_CAM_SPAN1_X c) && s.fld (F.STI_CAM_SPAN0_X c) ≤ a.xmax then 2 ^ c else 0)).sum

/-! ### Classification (R230 to R232) -/

/-- What a rule gives: class, severity, action, index. -/
structure Verdict where
  cls    : Nat
  sev    : Nat
  action : Nat
  rule   : Nat
  none_  : Bool

/-- Do a rule's conditions hold (R230)? -/
def State.ruleHolds (s : State) (o : Obj) (r : RuleE) : Bool :=
  let a := o.acc
  let le := fun (v lim none_ : Nat) => lim == none_ || v ≤ lim
  let ge := fun (v lim none_ : Nat) => lim == none_ || lim ≤ v
  let none32 := 0xFFFFFFFF
  let xe := a.xmax - a.xmin + 1
  let y := o.row.map (fun y => match s.masterAt o.bank (a.xCentre / 64) with
    | some m => min y (m.height - 1)
    | none => y)
  let pos := if r.rposMin = none32 ∧ r.rposMax = none32 then true
    else match y with
      | none => r.rposMin == 0 && r.rposMax == none32
      | some y =>
        if r.rposMin = none32 ∨ r.rposMax = none32 ∨ r.rposMin ≤ r.rposMax then ge y r.rposMin none32 && le y r.rposMax none32
        else y ≤ r.rposMax || r.rposMin ≤ y
  bitN r.action 3
    && ge a.area r.areaMin none32 && le a.area r.areaMax none32
    && ge a.yExt r.yextMin none32 && le a.yExt r.yextMax none32
    && ge xe r.xextMin none32 && le xe r.xextMax none32
    && ge a.peak r.peakMin 0xFFFF && ge a.mean r.meanMin 0xFFFF
    && ge a.elong r.elongMin 0xFFFF && le a.elong r.elongMax 0xFFFF
    && (r.clsAny == 0 || Nat.land a.cls r.clsAny != 0)
    && pos
    && (r.pol == 0 || (r.pol == 1 && a.pol == 1) || (r.pol == 2 && a.pol == 0) || (r.pol == 3 && a.pol == 2))

/-- The classifier (R231). -/
def State.classify (s : State) (o : Obj) : Verdict :=
  let rules := ((s.job o.bank).map (·.rules)).getD []
  match rules.zipIdx.find? (fun e => s.ruleHolds o e.1) with
  | some (r, i) => { cls := r.out % 16, sev := r.out / 16 % 8, action := r.action, rule := i, none_ := false }
  | none => { cls := s.fld F.SEG_CTL_DEF_CLASS, sev := s.fld F.SEG_CTL_DEF_SEV, action := 0, rule := 0, none_ := true }

/-! ### Crops (R241 to R243) -/

/-- Free bytes of the crop ring: WR never reaches RD from behind. -/
def State.cropFits (s : State) (n : Nat) : Bool :=
  let size := 2 ^ 24 * s.fld F.SEG_CROP_BASE_HI_SIZE
  let used := (s.rdN R.SEG_CROP_WR + size - s.rdN R.SEG_CROP_RD) % max 1 size
  s.bit F.SEG_CROP_BASE_HI_EN && 0 < size && used + n < size

/-- Write bytes into the crop ring at an offset; they wrap at its end. -/
def State.cropWrite (s : State) (o : Nat) (bs : List Byte) : State :=
  let size := 2 ^ 24 * s.fld F.SEG_CROP_BASE_HI_SIZE
  let base := 2 ^ 20 * s.fld F.SEG_CROP_BASE_LO_ADDR + 2 ^ 32 * s.fld F.SEG_CROP_BASE_HI_ADDR
  let first := bs.take (size - o)
  (s.memStore (base + o) first).memStore base (bs.drop first.length)

/-- SEG sets the geometry of its compression channel for a crop (R344); the encoder's volume counts (R353). -/
def State.cropCc (s : State) (cc ch d w h coded : Nat) : State :=
  let s := (((s.wakeBlock 0x10).setFld (F.CMP_CC_CFG0_D cc) d).setBit (F.CMP_CC_CFG0_CHANS3 cc) (ch == 3)).setFld (F.CMP_CC_GEOM0_WIDTH cc) w
  let s := (s.setFld (F.CMP_CC_GEOM1_ROWS cc) h).setFld (F.CMP_CC_RAW_UNITS cc) (s.fld (F.CMP_CC_RAW_UNITS cc) + ((w * h * ch * d + 7) / 8 + 63) / 64)
  s.setFld (F.CMP_CC_COD_UNITS cc) (s.fld (F.CMP_CC_COD_UNITS cc) + (coded + 63) / 64)

/-- The crop of a closing object: pointer, length, CROP_TRUNC, CROP_DROP (R242, R243). Channels and depth are those of CROP's input. -/
def State.crop (s : State) (o : Obj) : (Nat × Nat × Bool × Bool) × State :=
  let runs := s.seg.crops.filter (fun c => c.obj == o.id)
  let s := { s with seg := { s.seg with crops := s.seg.crops.filter (fun c => c.obj != o.id) } }
  match runs with
  | [] => ((0, 0, false, false), s)
  | r0 :: _ =>
    let x0 := runs.foldl (fun m r => min m r.x) r0.x
    let x1 := runs.foldl (fun m r => max m (r.x + r.px.length)) 0
    let y0 := runs.foldl (fun m r => min m r.line) r0.line
    let y1 := runs.foldl (fun m r => max m r.line) 0
    let wide := 1024 < x1 - x0
    let xs := if wide then min (max x0 (o.acc.xCentre / 64 - 512)) (x1 - 1024) else x0
    let w := min 1024 (x1 - x0)
    let h := min 1024 (y1 + 1 - y0)
    let trunc := wide || 1024 < y1 + 1 - y0
    let ch := min 3 (max 1 ((r0.px.head?.map (·.length)).getD 1))
    let d := runs.foldl (fun m r => max m r.depth) r0.depth
    let fit := fun (p : List Nat) => (if ch = 3 then px3 p else [px1 p]).map (fun v => v % 2 ^ d)
    let zero := List.replicate ch 0
    let rows := (List.range h).map (fun j =>
      let line := runs.filter (fun r => r.line == y0 + j)
      (List.range w).map (fun i =>
        let x := xs + i
        match line.find? (fun r => r.x ≤ x && x < r.x + r.px.length) with
        | some r => fit (r.px.getD (x - r.x) zero)
        | none => zero))
    let cc := s.fld F.SEG_CROP_CTL_CC
    let coded := encPred d ch (max 1 (s.fld (F.CMP_CC_CFG0_NSEG cc))) w rows
    let rawBody := rawPack d rows.flatten
    let raw := rawBody ++ leBytes 4 (crc32c rawBody)
    let useRaw := raw.length < coded.length
    let body := if useRaw then raw else coded
    let hdr := leBytes 5 o.id ++ leBytes 1 ch ++ leBytes 1 d ++ leBytes 1 (if useRaw then 2 else 1) ++ leBytes 4 xs ++ leBytes 4 y0
      ++ leBytes 2 w ++ leBytes 2 h ++ leBytes 4 body.length ++ zeros 36
    let all_ := hdr ++ leBytes 4 (crc32c hdr) ++ padTo 64 body
    let s := if trunc then s.flag F.SEG_STAT_CROP_TRUNC else s
    let s := s.cropCc cc ch d w h coded.length
    if s.cropFits all_.length then
      let size := 2 ^ 24 * s.fld F.SEG_CROP_BASE_HI_SIZE
      let wr := s.rdN R.SEG_CROP_WR
      let base := 2 ^ 20 * s.fld F.SEG_CROP_BASE_LO_ADDR + 2 ^ 32 * s.fld F.SEG_CROP_BASE_HI_ADDR
      ((base + wr, all_.length, trunc, false), (s.cropWrite wr all_).putN R.SEG_CROP_WR ((wr + all_.length) % size))
    else ((0, 0, trunc, true), s.flag F.SEG_STAT_CROP_DROP)

/-! ### Records (R233 to R237) -/

/-- Kind of a DEFECT-family record. -/
inductive RecKind where
  | running | closed
  /-- Merged into the surviving ID (R227). -/
  | merged (into : Nat)
  deriving DecidableEq, Repr

/-- The words 0 to 14 of a record of an object (R233, R234). -/
def State.objWords (s : State) (o : Obj) (k : RecKind) (v : Verdict) (ptr len : Nat) (trunc drop : Bool) : List Nat :=
  let a := o.acc
  let mask := s.camMaskOf a
  let fl := fun (bit : Nat) (c : Bool) => if c then 2 ^ bit else 0
  let flags := fl 15 (k == .running) + fl 16 o.prov + fl 17 (Nat.land o.short mask != 0) + fl 18 (Nat.land o.long mask != 0)
    + fl 19 (k == .running) + fl 20 (k == .closed) + fl 21 o.posted + fl 22 o.pixFlag
    + fl 23 (s.seg.outcomes.any (fun e => e.2 && o.provBlks.contains e.1)) + fl 24 o.lblOvf
    + fl 25 (k != .running && k != .closed) + fl 26 trunc + fl 27 drop + fl 28 o.noMaster + fl 29 (o.cut && k == .closed)
  let rej := bitN v.action 0
  let mi := match s.masterAt o.bank (a.xCentre / 64) with
    | some m => m.idx
    | none => 0
  [(if k = .running then 2 else 1) + 256 * v.cls + 4096 * v.sev + flags, s.jobId o.bank + 65536 * o.rep, o.tag.encPos, o.tag.ts,
   a.xCentre % 2 ^ 24 + 2 ^ 24 * mi, a.yExt + 2 ^ 24 * a.yCent, a.xmin / 4 % 65536 + 65536 * (a.xmax / 4 % 65536), a.area % 2 ^ 32,
   a.peak + 65536 * a.mean,
   mask + 4096 * (o.id / 2 ^ 32) + 2 ^ 20 * v.rule + fl 26 v.none_ + 2 ^ 27 * a.pol + fl 29 rej,
   o.id % 2 ^ 32, ptr % 2 ^ 32, ptr / 2 ^ 32, len, wrapTo 32 (s.xUm a.xCentre)]

/-- REJECT acts once per object (R232). -/
def State.rejectOnce (s : State) (o : Obj) (v : Verdict) : State :=
  if bitN v.action 0 && !o.rejected then (s.incWrap F.SEG_REJ_CNT_CNT).raise [90] else s

/-- Form and post a record of an object (R226, R227, R231, R232, R237); answers the object as it then stands. -/
def State.objRecord (s : State) (o : Obj) (k : RecKind) : Obj × State :=
  let v := s.classify o
  let s := s.rejectOnce o v
  let o := { o with rejected := o.rejected || bitN v.action 0 }
  let suppressed := bitN v.action 2 && (!o.posted || k == .running)
  if !s.bit F.SEG_CTL_REC_EN || suppressed then (o, s)
  else
    let c := if k = .closed && bitN v.action 1 && !bitN v.action 2 && s.bit F.SEG_CTL_CROP_EN then s.crop o else ((0, 0, false, false), s)
    let s := c.2
    let deg := (List.range 8).any (fun n => (s.region n).fallback == some 2 && o.lastVus.any (fun u => u / 64 == n))
    let ptr := match k with
      | .merged id => id
      | _ => c.1.1
    let ws := s.objWords o k v ptr c.1.2.1 c.1.2.2.1 (c.1.2.2.2 || deg)
    let s := s.record 0 ws
    let s := if k != .running && o.prov then
        match s.outcomesOf o.provBlks with
        | some rej => s.record 0 (finalCopy ws rej)
        | none => { s with seg := { s.seg with waiting := s.seg.waiting ++ [{ words := ws, blks := o.provBlks }] } }
      else s
    ({ o with posted := true, running := if k = .running then o.running + 1 else o.running }, s)

/-! ### Resolution (R224 to R228) -/

/-- Objects in rising order of a key. -/
def objInsert (key : Obj → Nat) (o : Obj) : List Obj → List Obj
  | [] => [o]
  | x :: xs => if key o < key x then o :: x :: xs else x :: objInsert key o xs

/-- Pairs in rising order of the object's ID. -/
def byId {α : Type} (l : List (Obj × α)) : List (Obj × α) :=
  l.foldr (fun e acc => acc.takeWhile (fun x => x.1.id < e.1.id) ++ e :: acc.dropWhile (fun x => x.1.id < e.1.id)) []

/-- The live-object count registers (R224). -/
def State.setObjs (s : State) (os : List Obj) : State :=
  let s := { s with seg := { s.seg with objs := os.foldr (objInsert (·.id)) [] } }
  let s := s.setFld F.SEG_OBJ_LIVE_LIVE os.length
  s.setFld F.SEG_OBJ_LIVE_PEAK (max (s.fld F.SEG_OBJ_LIVE_PEAK) (min os.length 65535))

/-- The merged accumulators of a list of partials, with `sy` from line 0. -/
def accOfParts (ps : List Partial) : Option Acc :=
  match ps.map (fun p => { p.acc with sy := p.acc.sy + p.acc.area * (256 * p.block) }) with
  | [] => none
  | a :: as => some (as.foldl Acc.merge a)

/-- What the lines of a block add to an object's flags (R229, R234). -/
def State.objLines (s : State) (b lo hi : Nat) (o : Obj) : Obj :=
  let ds := (s.seg.descs.filter (fun e => lo ≤ e.1 && e.1 ≤ hi)).map (·.2)
  let bad := s.seg.master.any (fun t => t.block == b && t.bank == o.bank && t.data.isNone &&
    (match (s.job o.bank).bind (fun j => j.masters.find? (fun m => m.idx == t.idx)) with
      | some m =>
        let nc := max 1 (ceilDiv m.width 256)
        let c := m.x0 + 256 * (t.tile % nc)
        c ≤ o.acc.xmax && o.acc.xmin < c + 256 && ds.any (fun d => match d.row with
          | some y => min y (m.height - 1) / 256 == t.tile / nc
          | none => false)
      | none => false))
  { o with
    short := ds.foldl (fun a d => Nat.lor a d.short) o.short, long := ds.foldl (fun a d => Nat.lor a d.long) o.long,
    prov := o.prov || ds.any (·.prov), pixFlag := o.pixFlag || ds.any (fun d => d.stale || d.clamp || d.repl),
    noMaster := o.noMaster || bad || ds.any (fun d => d.row.isNone),
    provBlks := if ds.any (·.prov) && !o.provBlks.contains b then o.provBlks ++ [b] else o.provBlks }

/-- Unite two objects under the smaller ID (R227). The first line's tag is that of the earlier first line. -/
def Obj.unite (a b : Obj) : Obj :=
  let lo := if a.id ≤ b.id then a else b
  let first := if a.acc.ymin ≤ b.acc.ymin then a else b
  { lo with
    acc := a.acc.merge b.acc, tag := first.tag, rep := first.rep, row := first.row, lblOvf := a.lblOvf || b.lblOvf,
    noMaster := a.noMaster || b.noMaster, prov := a.prov || b.prov, pixFlag := a.pixFlag || b.pixFlag, short := Nat.lor a.short b.short,
    long := Nat.lor a.long b.long, provBlks := (a.provBlks ++ b.provBlks).eraseDups, crop := a.crop || b.crop,
    rejected := lo.rejected, running := lo.running, posted := lo.posted, openRuns := a.openRuns ++ b.openRuns,
    lastVus := a.lastVus ++ b.lastVus, isOpen := a.isOpen || b.isOpen, cut := a.cut || b.cut }

/-- A new object of a block (R224): its ID is given later. -/
def State.freshObj (s : State) (b : Nat) (a : Acc) (bank : Bool) : Obj :=
  let d := (s.seg.descs.find? (fun e => e.1 == a.ymin)).map (·.2)
  { id := 0, acc := a, bank := bank, tag := (d.map (·.tag)).getD {}, rep := (d.map (·.rep)).getD 0, row := d.bind (·.row), openRuns := [],
    lastBlk := b, lastVus := [], isOpen := false, cut := false, running := 0, posted := false, rejected := false, lblOvf := false,
    noMaster := false, prov := false, pixFlag := false, short := 0, long := 0, provBlks := [], crop := false }

/-- An object takes the partials of a block. -/
def State.objTake (s : State) (b : Nat) (o : Obj) (ps : List Partial) (add : Bool) : Obj :=
  match accOfParts ps with
  | none => o
  | some a =>
    let runs := ps.flatMap (fun p => edgeRuns p.acc 3)
    let o := { o with
      acc := if add then o.acc.merge a else a, openRuns := runs, lastBlk := b, lastVus := (ps.map (·.vu)).eraseDups, isOpen := !runs.isEmpty,
      cut := o.cut || ps.any (·.cut), lblOvf := o.lblOvf || ps.any (·.kind == 3) }
    s.objLines b a.ymin a.ymax o

/-- Close objects with CUT, in order of their IDs (R228). -/
def State.cutObjs (s : State) (sel : Obj → Bool) : State :=
  let gone := s.seg.objs.filter sel
  let s := gone.foldl (fun s o => (s.objRecord { o with cut := true } .closed).2) s
  s.setObjs (s.seg.objs.filter (fun o => !sel o))

/-- What a resolution does with an object: it closes with CUT, it ends in another, or it goes its way (R225 to R228). -/
inductive Fate where
  | cut
  | into (id : Nat)
  | on
  deriving DecidableEq, Repr

/-- Objects that a resolution cuts before it takes the block's partials: those of the bank that ended with the block before (R61, R228), those
with a partial in a lost region's strips there (R420), and all of them at the takeover of the primary's object numbers (R442). -/
def State.cutAtResolve (s : State) (b : Nat) (cs : List Commit) (o : Obj) : Bool :=
  let lost := (cs.filter (·.lost)).map (·.region)
  let turn := match (s.seg.descs.find? (fun e => e.1 == 256 * b)).map (fun e => e.2.tag.bank) with
    | some bk => o.bank != bk
    | none => false
  let handed := match s.seg.cutAt with
    | some (k, _) => k ≤ b
    | none => false
  turn || handed || o.lastVus.any (fun v => lost.contains (v / 64))

/-- New objects in order of YMIN, then XMIN, as far as the table has room (R224). -/
def State.newObjs (s : State) (live : Nat) (b : Nat) (cs : List Comp) : List Obj × State :=
  let os := cs.filterMap (fun c => (accOfParts c.ps).map (fun a =>
    s.objTake b (s.freshObj b a ((c.ps.head?.map (·.bank)).getD false)) c.ps false))
  let sorted := os.foldr (objInsert (fun o => o.acc.ymin * 2 ^ 18 + o.acc.xmin)) []
  sorted.foldl (fun acc o =>
    if 16384 ≤ live + acc.1.length then (acc.1, (acc.2.flag F.SEG_STAT_OBJ_OVF).incCnt F.SEG_LOSS_CNT_OBJ_CNT F.SEG_LOSS_CNT_SAT)
    else
      let i := acc.2.newObjId b
      (acc.1 ++ [{ o with id := i.1 }], i.2)) (([] : List Obj), s)

/-- An object with a CROP action whose action is not suppressed (R232, R241). -/
def State.wantsCrop (s : State) (o : Obj) : Bool :=
  let v := s.classify o
  bitN v.action 1 && !bitN v.action 2

/-- The records of one object at a resolution: closing, or RUNNING at each further 4,096 lines (R225, R226). Answers it where it stays live. -/
def State.objPost (s : State) (o : Obj) : Option Obj × State :=
  if !o.isOpen then (none, (s.objRecord o .closed).2)
  else
    let r := if 4096 * (o.running + 1) ≤ o.acc.ymax - o.acc.ymin + 1 then s.objRecord o .running else (o, s)
    (some { r.1 with crop := r.2.wantsCrop r.1 }, r.2)

/-- CROP at a resolution: late inputs meet the block's windows, and an object that asks for a crop and has no samples of the block has been
resolved too late for its windows (R241). `l` gives the objects with their measures in the block. -/
def State.cropResolve (s : State) (b : Nat) (l : List (Obj × Acc)) : State :=
  if !s.bit F.SEG_CTL_CROP_EN then s
  else
    let want := l.filter (fun e => s.wantsCrop e.1)
    let s := s.cropBlock b (want.map (fun e => (e.1.id, e.2.xmin, e.2.xmax, e.2.ymin, e.2.ymax)))
    let quiet := fun (o : Obj) => (List.range 8).any (fun n => (s.region n).fallback == some 2 && o.lastVus.any (fun u => u / 64 == n))
    if want.any (fun e => !quiet e.1 && !s.seg.crops.any (fun c => c.obj == e.1.id && c.line / 256 == b)) then s.flag F.SEG_STAT_CROP_MISS else s

/-- The samples of an object that ends in another are the survivor's (R227). -/
def State.cropInto (s : State) (l : List (Nat × Nat)) : State :=
  { s with seg := { s.seg with crops := s.seg.crops.map (fun c =>
      match l.find? (fun e => e.1 == c.obj) with
      | some e => { c with obj := e.2 }
      | none => c) } }

/-- Block b is resolved (R225). -/
def State.segResolve (s : State) (b : Nat) : State :=
  let cs := s.seg.commits.filter (fun c => c.block == b)
  let gone := s.seg.objs.filter (s.cutAtResolve b cs)
  let live := s.seg.objs.filter (fun o => !s.cutAtResolve b cs o)
  -- B_R is reached: from here on every number is drawn from V (R442).
  let s := { s with seg := { s.seg with cutAt := s.seg.cutAt.filter (fun c => b < c.1) } }
  let s := s.tilesResolve b cs
  let comps := (cs.flatMap (·.parts)).foldl (fun c p => s.compAdd b c p) (live.map (fun o => ({ ps := [], os := [o] } : Comp)))
  let old := comps.filter (fun c => !c.os.isEmpty)
  let fresh := s.newObjs live.length b (comps.filter (fun c => c.os.isEmpty))
  -- The table holds the block's new objects beside the old ones before any of them closes.
  let s := fresh.2.setFld F.SEG_OBJ_LIVE_PEAK (max (fresh.2.fld F.SEG_OBJ_LIVE_PEAK) (min (live.length + fresh.1.length) 65535))
  -- Joined objects survive under the smallest ID; the others end with a MERGED record (R227).
  let uni := old.filterMap (fun c => match c.os with
    | [] => none
    | o :: os =>
      let u := os.foldl Obj.unite o
      let u := if c.ps.isEmpty then { u with isOpen := false } else s.objTake b u c.ps true
      some (u, (o :: os).filter (fun x => x.id != u.id), accOfParts c.ps))
  let merged := uni.flatMap (fun e => e.2.1.map (fun x => (x, e.1.id)))
  let s := s.cropInto (merged.map (fun m => (m.1.id, m.2)))
  let boxes := uni.filterMap (fun e => e.2.2.map (fun a => (e.1, a))) ++ fresh.1.map (fun o => (o, o.acc))
  let s := s.cropResolve b (byId boxes)
  -- The records of one resolution come in ascending OBJ_ID (R238).
  let todo := gone.map (fun o => ({ o with cut := true }, Fate.cut)) ++ merged.map (fun m => (m.1, Fate.into m.2))
    ++ (uni.map (·.1) ++ fresh.1).map (fun o => (o, Fate.on))
  let r := (byId todo).foldl (fun acc e =>
    match e.2 with
    | .cut => (acc.1, (acc.2.objRecord e.1 .closed).2)
    | .into id => (acc.1, if e.1.posted then (acc.2.objRecord e.1 (.merged id)).2 else acc.2)
    | .on =>
      let p := acc.2.objPost e.1
      (match p.1 with
        | some x => acc.1 ++ [x]
        | none => acc.1, p.2)) (([] : List Obj), s)
  let s := r.2.setObjs r.1
  { s with seg := { s.seg with
      commits := s.seg.commits.filter (fun c => b < c.block), nextBlk := b + 1, master := s.seg.master.filter (fun t => b ≤ t.block),
      crops := s.seg.crops.filter (fun c => r.1.any (fun o => o.id == c.obj)) } }

/-! ### Meanings -/

/-- SEG_RESOLVE (R225): the next block, once every region has committed it. -/
def execSegResolve (s : State) : Host.Outcome State Fault Refusal :=
  let b := s.seg.nextBlk
  if s.bit F.SEG_CTL_EN && s.blockIn b && s.seg.commits.any (fun c => c.block == b) then done s (s.segResolve b) else done s s

/-- SPILL_DRAIN (R239): as credit returns, spilled records leave the spill in order. -/
def execSpillDrain (s : State) : Host.Outcome State Fault Refusal := done s s.drainSpill

/-- ETH_GATHER_TIMER (R240): the frame being gathered on a port is queued for its timed launch. -/
def execEthGatherTimer (port : Fin 2) (s : State) : Host.Outcome State Fault Refusal := done s (s.closeGather port)

/-- Is a camera line, a stitched line, an object or a print line under way of a bank still in the device (R63)? -/
def State.bankInFlight (s : State) (b : Bool) : Bool :=
  (List.range 12).any (fun n => s.camUsed n && (s.ingS n).tags.any (fun t => t.bank == b))
    || s.sti.refTags.any (fun e => s.sti.formed ≤ e.1 && e.2.bank == b)
    || (s.bit F.SEG_CTL_EN && !s.liveRegions.isEmpty
        && s.seg.descs.any (fun e => 256 * s.seg.nextBlk ≤ e.1 && e.2.tag.bank == b))
    || s.seg.objs.any (fun o => o.bank == b)
    || (List.range 8).any (fun n => (s.prtS n).busy && ((s.prtS n).latched.map (ofBank b)).getD false)

/-- BANK_DRAIN_DONE (R63): a DRAINING bank whose last line and record have left becomes EMPTY. -/
def execBankDrainDone (bankB : Bool) (s : State) : Host.Outcome State Fault Refusal :=
  if s.bankState bankB = 5 && !s.bankInFlight bankB then done s (s.emptyBank bankB) else done s s

end Sys2Proof.Machine
end

