-- ==== Sys2Proof/Machine/Cfg.lean ====
section
/-!
DEFINITION. CFG: chunk-wise loads (R365), acceptance and rejection (R48 to R56), the application of a STRUCT (R51 to R53, R103), the stop of the
pipeline (R51), and the swap controls (R57, R64, R65).
-/
namespace Sys2Proof.Machine

/-! ### Loads -/

/-- Change the load in progress. -/
def State.setLoad (s : State) (l : LoadS) : State := { s with cfg := { s.cfg with load := l } }

/-- The load ends with a status: its LAST chunk completes, with CFG_ERR_OFS on a rejection (R365, R371, R373). -/
def State.loadEnd (s : State) (st : Nat) : State :=
  let res := if st = 0 then 0 else s.rdN R.CFG_ERR_OFS
  let l := s.cfg.load
  let s := (s.setLoad { active := false, bytes := 0, last := none }).setFld F.CFG_STAT_LOADING 0
  match l.last with
  | none => s
  | some (q, key, tag) => s.closeSlot q key [.comp { src := q, status := st, tag := tag, result := res }]

/-- A bank in LOADING becomes EMPTY (R56). -/
def State.endLoading (s : State) : State := match s.loadingBank with
  | some b => s.emptyBank b
  | none => s

/-- A load is rejected (R50, R54); a bank in LOADING becomes EMPTY (R56). -/
def State.reject (s : State) (e : LoadErr) : State :=
  let s := (((s.endLoading.setFld F.CFG_STAT_LAST_ERR e.code).setFld F.CFG_STAT_ERR_SECTION e.sec).flag F.CFG_STAT_REJECT).incCnt
    F.CFG_REJ_CNT_CNT F.CFG_REJ_CNT_SAT
  (match e.ofs with
    | some o => s.setFld F.CFG_ERR_OFS_OFS o
    | none => s).loadEnd e.code

/-- A chunk is written to the staging area and counted (R47, R365). -/
def State.chunk (s : State) (l : LoadS) (ofs : Nat) (bs : List Byte) : State :=
  let fits := ofs + bs.length ≤ 2 ^ 26
  let s := if fits && s.bit F.CFG_STAGE_BASE_HI_EN then s.memStore (s.stageBase + ofs) bs else s
  s.setLoad { l with active := true, bytes := if fits then l.bytes + bs.length else 2 ^ 26 + 1 + l.bytes }

/-- A bank takes an accepted JOB (R56). -/
def State.putJob (s : State) (b : Bool) (j : JobData) (sid : Nat) : State :=
  let s := { s with cfg := if b then { s.cfg with jobB := some j, sidB := sid } else { s.cfg with jobA := some j, sidA := sid },
                    seg := { s.seg with master := s.seg.master.filter (fun t => t.bank != b) } }
  let s := (s.setFld (if b then F.CFG_JOBB_JOB_ID else F.CFG_JOBA_JOB_ID) j.jobId).setBit F.CFG_BANK_LAST_LOAD b
  s.setReady (if b then 9 else 8) true

/-- A stream is accepted: the status of the load, and the slot that verified it (R54, R66). -/
def State.accept (s : State) (st : Stream) : State :=
  let s := match streamSlot st with
    | some k => s.setFld F.CFG_SIG_SLOT_LAST k
    | none => s
  (s.setFld F.CFG_STAT_LAST_ERR 0).loadEnd 0

/-- The bank a JOB-only stream takes, once steps 1 to 9 and the choice of bank have passed (R48, R56). -/
def State.chosenBank (s : State) : Option Bool :=
  let st := s.staged
  if s.streamCheck.isNone && (streamStruct st).isNone && (s.bankCheck st).isNone then s.jobBank else none

/-- A bank enters LOADING (R55): what it held is gone. -/
def State.bankLoads (s : State) (b : Bool) : State := (s.emptyBank b).setBank b 1

/-- The last chunk has come: validation begins (R56). The model runs steps 1 to 9 and the choice of bank here, so that a JOB-only stream's bank is in
LOADING until LOAD_VALIDATE (assumption 129). -/
def State.loadLast (s : State) (q key tag : Nat) : State :=
  let s := (s.setLoad { s.cfg.load with last := some (q, key, tag) }).flag F.CFG_STAT_LOADING
  if s.bit F.CFG_STAT_APPLYING then s
  else match s.chosenBank with
    | some b => s.bankLoads b
    | none => s

/-- CFG_LOAD (R365, R406). -/
def execCfgLoad (q : Fin 32) (pkt : List Byte) (s : State) : Host.Outcome State Fault Refusal :=
  let h := pktHdr pkt
  let bytes := pktData pkt
  let start := bitN h.param1 0
  let last := bitN h.param1 1
  done s (s.packet q 0x0020 h (!last) 0
    (fun _ => if h.target ≠ 0 then 0x08 else 0)
    (fun _ => if 4 ≤ h.param1 then 0x08 else 0)
    (fun s k =>
      let l := s.cfg.load
      if s.bit F.PWR_STAT_BUSY then s.finish q h k 0x40 0
      else if (start && l.active) || l.last.isSome then s.finish q h k 0x3B 0
      else if !start && !l.active then s.finish q h k 0x37 0
      else
        let s := s.chunk (if start then { active := true, bytes := 0, last := none } else l) h.param0 bytes
        if last then (s.loadLast q.val k h.tag).status 0
        else s.finish q h k 0 bytes.length))

/-- The JOB of a JOB-only stream is checked and goes into its bank, which is in LOADING meanwhile (R48, R56). -/
def State.loadJob (s : State) (st : Stream) (j : JobData) (b : Bool) : State :=
  match s.jobRules st j with
  | some e => s.reject e
  | none => ((s.putJob b j st.hdr.structId).restoreWrite.setBank b 2).accept st

/-- A STRUCT is accepted (R48): it begins to be applied, and TOP_READY.CFG falls until it has been. -/
def State.loadStruct (s : State) (st : Stream) (d : StructData) (j : Option JobData) : State :=
  match j.bind (s.jobRules st) with
  | some e => s.reject e
  | none =>
    let s := ((s.flag F.CFG_STAT_APPLYING).setReady 7 false).accept st
    { s with cfg := { s.cfg with applying := some (d, j), build := st.hdr.buildId } }

/-- What a stream that passes steps 1 to 9 does: its STRUCT begins to be applied, or its JOB goes into a bank (R48, R56). -/
def State.takeStream (s : State) (st : Stream) : State :=
  match streamStruct st, streamJob st, s.loadingBank with
  | some d, j, _ => s.endLoading.loadStruct st d j
  | none, some j, some b => s.loadJob st j b
  | none, some j, none =>
    match s.bankCheck st, s.jobBank with
    | none, some b => (s.bankLoads b).loadJob st j b
    | some e, _ => s.reject e
    | none, none => s
  | none, none, _ => s

/-- The loader reads the staged stream (R322, R325), checks it and accepts or rejects it (R48 to R56). -/
def State.validate (s0 : State) : State :=
  let s := s0.ddrRead s0.stageBase s0.cfg.load.bytes
  match s.streamCheck with
  | some e => s.reject e
  | none => s.takeStream s.staged

/-- LOAD_VALIDATE (R48). -/
def execLoadValidate (s : State) : Host.Outcome State Fault Refusal :=
  if s.cfg.load.last.isSome && !s.bit F.CFG_STAT_APPLYING then done s s.validate else done s s

/-- A write of 1 to CFG_CTL.LOAD_ABORT (R50, R66). -/
def State.loadAbort (s : State) : State :=
  if s.cfg.load.active then s.reject { code := 0x37, sec := 0, ofs := none } else s

/-- LOAD_ABORT (R50). -/
def execLoadAbort (s : State) : Host.Outcome State Fault Refusal := done s (s.loadAbort.status 0)

/-! ### What a STRUCT sets, table by table -/

/-- EVT (R39, R103). -/
def State.applyEvt (s : State) (d : StructData) : State :=
  d.evts.zipIdx.foldl (fun s e =>
    let c := e.2
    if absentCons s c then s
    else
      let s := ((s.putN (R.EVT_SRC0 c) e.1.src0).putN (R.EVT_SRC1 c) e.1.src1).putN (R.EVT_SRC2 c) e.1.src2
      (s.setFld (F.EVT_CFG_GATE c) e.1.gate).setBit (F.EVT_CFG_GATE_EN c) e.1.gateEn) s

/-- A lane is used or not (R132): an unused one goes OFF, a used one that was OFF or RETIRED hunts. -/
def State.applyLane (s : State) (i : Nat) (en : Bool) : State :=
  if !s.has .lane i then s
  else
    let s := s.setBit (F.LANE_CTL_EN i) en
    let st := s.lst i
    if st = lsTest then s.unretire i
    else if !en then s.toOff i
    else if st = lsOff ∨ st = lsRetired then
      if s.laneOff i then s.toOff i else s.toHunt i
    else s

/-- The lanes of camera `n` under its new links and rate (R112, R134). -/
def State.applyLinks (s : State) (d : StructData) (n : Nat) : State :=
  let c := structCam d n
  let s := ((s.setFld (F.CAM_LINK_CFG_LINKS n) c.links).setFld (F.CAM_LINK_RATE n) c.rate).setFld (F.CAM_LINK_REDUCED n) 0
  let s := { s with lane := { s.lane with red := vput s.lane.red n [], set := vput s.lane.set n 0 } }.ctrlRelease n
  let s := (List.range 8).foldl (fun s k =>
    let i := 8 * n + k
    let s := s.applyLane i (k < c.links)
    if s.lst i = lsLock ∨ s.lst i = lsServ then
      s.setFld (F.LANE_STAT_STATE i) (if s.fld (F.LANE_STAT_RATE i) = c.rate then lsServ else lsLock)
    else s) s
  let s := s.camCount n
  if c.links ≠ 0 && s.fld (F.CAM_LINK_ACT_LINKS n) = c.links then s.camUp n
  else if s.lst (8 * n) = lsServ then s
  else s.setReady (32 + n) false

/-- A camera's ingest settings (R40, R138, R148): a change of format or length drops what the row delay holds. The
tag queue and the line under way start empty, and LINE_SEQ goes on (assumption 196). -/
def State.applyCam (s : State) (d : StructData) (n : Nat) : State :=
  if !s.has .cam n then s
  else
    let c := structCam d n
    let same := s.fld (F.ING_GEOM_PPL n) == c.ppl && s.fld (F.ING_FMT_FMT n) == c.fmt
    let s := (s.setBit (F.ING_CTL_EN n) (c.links != 0)).setFld (F.ING_GEOM_PPL n) c.ppl
    let s := ((s.setFld (F.ING_FMT_FMT n) c.fmt).setFld (F.ING_FMT_B n) (fmtDepth c.fmt)).setFld (F.ING_FMT_FILL n) c.fill
    let s := s.modIng n (fun g => { g with tags := [], rx := [], rxLine := none, ahead := [], nextTag := none,
                                           rows := if same then g.rows else [], since := if same then g.since else 0 })
    s.applyLinks d n

/-- A camera's place (R159, R163, R168). -/
def State.applyPlace (s : State) (d : StructData) (n : Nat) : State :=
  if !s.has .cam n then s
  else
    let c := structCam d n
    let lead := c.links != 0 && c.leading
    let masked := s.fld (F.ING_GEOM_MASK_L n) + s.fld (F.ING_GEOM_MASK_R n)
    let s := (s.setFld (F.STI_CAM_GEOM_STAG n) c.stagger).setBit (F.STI_CAM_GEOM_ROW n) c.leading
    let s := ((s.setFld (F.STI_CAM_GEOM_ORDER n) c.order).setSfld (F.STI_CAM_GEOM_Y0 n) c.y0).setFld (F.STI_CAM_X0_X0 n) c.x0
    (s.setFld (F.STI_CAM_SLOT_SLOT n) (if lead then structSlotUnits d n masked else 0)).setFld (F.STI_CAM_SLOT_NSLOT n)
      (if lead then c.stagger + 64 else 0)

/-- A leading camera's coder context is reserved and loaded (R344). -/
def State.applyCode (s : State) (d : StructData) (n : Nat) : State :=
  let c := structCam d n
  let crop := s.bit F.SEG_CTL_CROP_EN && s.fld F.SEG_CROP_CTL_CC == n
  let lead := c.links != 0 && c.leading
  let s := s.setBit (F.CMP_CC_STAT_RESERVED_BY n) (lead || crop)
  if lead then
    let s := (s.setFld (F.CMP_CC_CFG0_NSEG n) 8).setFld (F.CMP_CC_CFG0_D n) (fmtDepth c.fmt)
    let s := (s.setBit (F.CMP_CC_CFG0_CHANS3 n) (fmtChans c.fmt == 3)).setFld (F.CMP_CC_FILL_FILL n) c.fill
    (s.setFld (F.CMP_CC_GEOM0_WIDTH n) (s.actW n)).setFld (F.CMP_CC_GEOM1_ROWS n) 1
  else s

/-- Stitching starts afresh (R162, R167, R171, R175, R179): SLINE 0, empty stores, no offset and nothing pending on any seam. -/
def State.applySti (s : State) (d : StructData) : State :=
  let s := (s.setBit F.STI_CTL_EN (!(structUsed d).isEmpty)).setFld F.STI_CTL_REF_CAM d.refCam
  let s := ((s.putN R.STI_WIDTH d.width).putN R.STI_SLINE 0).setFld F.STI_UMAP_CTL_KS (ceilDiv d.width 256)
  let s := (List.range 12).foldl (fun s n => s.applyPlace d n) s
  let s := { s with sti := { s.sti with
    refTags := [], refNext := 0, store := Vector.replicate 12 [], nextK := Vector.replicate 12 0,
    stag := Vector.replicate 12 { lines := [] }, formed := 0, regDue := false, shorts := [], provBlk := false } }
  let s := (List.range 11).foldl (fun s k =>
    let cfg := s.rd (R.STI_SEAM_CFG k)
    (s.modSeam k (fun g => { SeamS.init with seed := g.seed, cfg := cfg })).showSeam k) s
  let s := (List.range 12).foldl (fun s n => (s.setFld (F.STI_CAM_STAT_PRIMING n) 0).setFld (F.STI_CAM_STAT_PRIME_LEFT n) 0) s
  let s := (s.setFld F.STI_STAT_PRIMING 0).setFld F.STI_STAT_PROV 0
  (List.range 12).foldl (fun s n => s.prime n) s.place.setSpans

/-- An assigned logical VU on a retired physical one moves to a spare of its cluster, else changes places with an ACTIVE one that has no
chain (R184, R426). -/
def State.remapVu (s : State) (v : Nat) : State :=
  let pu := s.physOfVu v
  let c := v / 16
  let mapF := fun (w : Nat) => F.VG_VU_MAP_PHYS (w / 64) (w % 64)
  if s.fld (puState pu) != 3 then s
  else match ((List.range 18).map (18 * c + ·)).find? (fun k => s.fld (puState k) == 2) with
    | some k => (s.setFld (mapF v) k).setFld (puState k) 1
    | none =>
      match ((List.range 16).map (16 * c + ·)).find? (fun w =>
        w != v && (s.assignOf w).isNone && s.fld (puState (s.physOfVu w)) == 1) with
      | some w => (s.setFld (mapF v) (s.physOfVu w)).setFld (mapF w) pu
      | none => s

/-- The registers of logical VU `v` (R37, R192). -/
def State.applyVu (s : State) (d : StructData) (us : List Place) (v : Nat) : State :=
  let n := v / 64
  let j := v % 64
  if !s.has .region n then s
  else
    let a := (d.assigns[v]?).getD { vu := v }
    let u := us.find? (fun u => u.vu == v)
    let s := s.setBit (F.VG_VU_MAP_ASSIGNED n j) u.isSome
    let s := (s.setFld (F.VG_VU_ASSIGN0_START n j) a.start).setFld (F.VG_VU_ASSIGN0_WIDTH n j) a.width
    let s := (s.setFld (F.VG_VU_ASSIGN1_CHAIN_ID n j) a.chain).setFld (F.VG_VU_ASSIGN1_OVERLAP n j) a.overlap
    let s := s.setFld (F.VG_VU_CYC_CL n j) (match u with
      | some u => min u.cl 65535
      | none => 0)
    if u.isSome then s.remapVu v else s

/-- A region's registers (R189, R192, R194); it leaves DEGRADED (R426). -/
def State.applyRegion (s : State) (d : StructData) (us : List Place) (n : Nat) : State :=
  if !s.has .region n then s
  else
    let mine := us.filter (fun u => u.vu / 64 == n)
    let s := s.setFld (F.VG_LOAD_CL_MAX n) (min 65535 (mine.foldl (fun m u => max m u.cl) 0))
    let s := s.setFld (F.VG_LOAD_PREROLL n) (mine.foldl (fun m u => max m u.rv) 0)
    let s := s.setFld (F.VG_LOAD_OP_REQ n) ((structOpReq d (n / 2)).getD 7)
    let s := ((s.setFld (F.VG_STAT_REPLAYING n) 0).setFld (F.VG_STAT_DEGRADED n) 0).setFld (F.VG_STAT_ATTEMPT n) 0
    if mine.isEmpty then s.setReady (24 + n) false else s

/-- The vision units (R37, R182 to R195). -/
def State.applyVg (s : State) (d : StructData) : State :=
  let us := structPlaces d
  let s := { s with vg := { s.vg with
    lines := [], first := 0, regions := Vector.replicate 8 RegionS.init,
    units := us.map (fun (u : Place) => { vu := u.vu, next := 0, slots := [], outs := [], wins := [] }) } }
  let s := (List.range 512).foldl (fun s v => s.applyVu d us v) s
  let s := (List.range 8).foldl (fun s n => s.applyRegion d us n) s
  (s.setFld F.FLT_DEG_REGION 0).setFld F.FLT_STAT_DEGRADED 0

/-- Segmentation starts afresh (R220). -/
def State.applySeg (s : State) (d : StructData) : State :=
  let s := (s.setBit F.SEG_CTL_EN (!(structPlaces d).isEmpty)).clearTiles
  { s with seg := { s.seg with
    objs := [], descs := [], commits := [], nextBlk := 0, outcomes := [], waiting := [], cutAt := none, master := [], crops := [] } }

/-- A print port (R40, R247, R261): what it had on hand is gone; enabled while HEAT_OK is low it starts in HOT. -/
def State.applyPrint (s : State) (d : StructData) (n : Nat) : State :=
  if !s.has .head n then s
  else
    let p := (d.prints[n]?).getD {}
    let was := s.bit (F.HP_CTL_EN n)
    let s := ((s.setBit (F.HP_CTL_EN n) p.en).setBit (F.HP_CTL_BPN n) (p.bpn == 2)).setFld (F.HP_CTL_NOZ n) p.noz
    let s := s.modPrt n (fun x => { x with latched := none, shifting := none, shifted := none, prefetch := [] })
    if p.en && !was && !(s.prtS n).heatOk then s.enterHot n else s.updHp n

/-- Encoder inputs (R52, R67); TOP_READY.ENC. -/
def State.applyEnc (s : State) (d : StructData) : State :=
  let s := (List.range 4).foldl (fun s n =>
    let e := (d.encs[n]?).getD {}
    ((s.setBit (F.ENC_CTL_EN n) e.en).setBit (F.ENC_CTL_DIFF n) (e.mode == 1)).setBit (F.ENC_CTL_DIR_INV n) e.dirInv) s
  s.encReady

/-- Area-camera ports (R272, R281, R282). -/
def State.applyPp (s : State) (d : StructData) : State :=
  let s := (List.range 2).foldl (fun s n =>
    if !s.has .pport n then s
    else
      let p := (d.pps[n]?).getD {}
      (s.setBit (F.PP_CTL_EN n) p.en).setFld (F.PP_CTL_FMT n) p.mode) s
  ((List.range 4).foldl (fun s c => s.ispSlot c) s).ispReady

/-- A Nimeb port (R124, R126, R132): its mapping is the default one again, and a port whose mapping changes or that had a retired lane
trains afresh. -/
def State.applyNp (s : State) (d : StructData) (p : Nat) : State :=
  if !s.has .nport p then s
  else
    let en := (d.nps[p]?).getD false
    let lanes := (List.range 4).map (96 + 4 * p + ·)
    let x := s.npS p
    let same := x.rxMap == [0, 1, 2, 3] && x.txMap == [0, 1, 2, 3] && lanes.all (fun i => !s.isRetired i)
    let s := (s.setBit (F.NP_CTL_EN p) en).put (R.NP_MAP p) (resetVal s.board (R.NP_MAP p))
    let s := if same then s else (s.setFld (F.NP_STAT_SPARE_USED p) 0).modNp p (fun x =>
      { x with swapRx := none, swapTx := none, rxMap := [0, 1, 2, 3], txMap := [0, 1, 2, 3] })
    let s := lanes.foldl (fun s i => s.setBit (F.LANE_CTL_EN i) en) s
    if !en then
      let s := lanes.foldl (fun s i => if s.lst i = lsTest then s.unretire i else s.toOff i) s
      ((s.setFld (F.NP_STAT_STATE p) 0).setFld (F.NP_STAT_LANES p) 0).setReady (16 + p) false
    else if same || s.npSt p = 0 || s.npSt p = npHeld then
      lanes.foldl (fun s i => s.unretire i) s
    else
      let s := lanes.foldl (fun s i => s.unretire i) s
      (s.npDown p false).npStart p

/-- An Ethernet port (R118, R293): a change of its mode makes it hunt again; its stamp latencies are the device's own, which the spec
does not state. -/
def State.applyEth (s : State) (old : Option StructData) (d : StructData) (p : Nat) : State :=
  let e := (d.eths[p]?).getD {}
  let was := (old.bind (fun o => o.eths[p]?)).getD {}
  let i := 112 + p
  let s := s.applyLane i e.en
  let s := if !e.en then s.setReady (12 + p) false
    else if was.en && was != e && s.lst i = lsServ then (s.toHunt i).setReady (12 + p) false else s
  let f := s.free
  if e.en then f.2.put (R.TIME_EP_LAT p) f.1 else s

/-- A sigma-delta clock group (R304, R305): a changed clock is measured afresh. -/
def State.applySdg (s : State) (d : StructData) (g : Nat) : State :=
  if !s.has .sdg g then s
  else
    let e := (d.sdgs[g]?).getD {}
    let same := s.fld (F.SDF_GRP_CTL_MODE g) == e.mode && s.fld (F.SDF_GRP_CTL_DIV g) == e.div
    if same then s
    else
      let s := (s.setFld (F.SDF_GRP_CTL_MODE g) e.mode).setFld (F.SDF_GRP_CTL_DIV g) e.div
      ((((s.setFld (F.SDF_GRP_STAT_RUN g) 0).putN (R.SDF_GRP_PER g) 0).clearSync g).setGone g false).sdfResetGroup g

/-- Two-wire ports (R379). -/
def State.applyTw (s : State) (d : StructData) : State :=
  ((List.range 4).foldl (fun s n =>
    let t := (d.tws[n]?).getD {}
    ((s.setBit (F.TW_CTL_EN n) t.en).setFld (F.TW_CTL_SPEED n) t.speed).setBit (F.TW_CTL_MC n) t.mc) s).twReady

/-- Power classes (R395): a block no entry names is always on. -/
def State.applyClass (s : State) (d : StructData) (b : Nat) : State :=
  if gateable b && s.has .pblock b then
    let c := ((d.classes.find? (fun e => e.1 == b)).map (·.2)).getD 0
    let s := s.setFld (F.PWR_CLASS_CLASS b) c
    if c = 0 && s.fld F.PWR_STAT_STATE != 2 then s.gateSet b false else s
  else s

/-- Operating points of a die (R194, R408). -/
def State.applyDvfs (s : State) (d : StructData) (n : Nat) : State :=
  if !s.has .die n then s
  else
    let v := (d.dvfs[n]?).getD (0, 7)
    (s.setFld (F.PWR_DVFS_FLOOR n) (max v.1 ((structOpReq d n).getD 0))).setFld (F.PWR_DVFS_OP_MAX n) v.2

/-- DDR-4 real-time ports (R324). -/
def State.applyRt (s : State) (d : StructData) (p : Nat) : State :=
  let e := (structRtPorts d).getD p (0, 0, 0, 0, 0, 0)
  let s := (s.setFld (F.DMC_RT_CFG_OWNER p) e.1).setFld (F.DMC_RT_CFG_CAM p) (if e.1 = 1 ∨ e.1 = 2 then e.2.1 else 0)
  ((s.setFld (F.DMC_RT_CFG_PANIC1 p) e.2.2.2.2.1).setFld (F.DMC_RT_CFG_PANIC2 p) e.2.2.2.2.2).rtLevel p (rtStart e.1)

/-- The job banks (R53). Answers the units hit by a loaded point. -/
def State.applyBanks (s : State) (sid : Nat) (j : Option JobData) : List Nat × State :=
  let old := match s.runningBank with
    | some o => s.jobId o
    | none => 0
  let s := [false, true].foldl (fun s b =>
    if (s.job b).isNone || (!b && j.isSome) then s
    else if (if b then s.cfg.sidB else s.cfg.sidA) = sid then (if s.bankState b = 4 then s.setBank b 2 else s)
    else s.emptyBank b) s
  let s := (List.range 32).foldl (fun s u => s.setFld (F.CU_CTL_JOB u) 0) s
  match j with
  | none => ([], s.setBit F.CFG_SWAP_CTL_ARM s.armedBank.isSome)
  | some job =>
    let s := s.putJob false job sid
    let s := s.setBank false 4
    let s := s.setBit F.CFG_SWAP_CTL_ARM s.armedBank.isSome
    let p := s.pos (s.fld F.CFG_SWAP_CTL_CHAN)
    s.takeBank false p p true old [] []

/-- The STRUCT being applied takes effect on one edge: APPLYING falls, every LD register shows it, and the banks follow (R51 to R53, R103). -/
def State.applyStruct (s : State) : State :=
  match s.cfg.applying with
  | none => s
  | some (d, j) =>
    let old := s.cfg.struct
    let s := { s with cfg := { s.cfg with struct := some d, applying := none } }
    let s := (s.flag F.CFG_STAT_STRUCT_VALID).setFld F.CFG_STAT_APPLYING 0
    let s := ((s.putN R.CFG_STRUCT_ID d.crc).putN R.CFG_BUILD_LO s.cfg.build).putN R.CFG_BUILD_HI (s.cfg.build / 2 ^ 32)
    let s := s.applyEvt d
    let s := (List.range 12).foldl (fun s n => s.applyCam d n) s
    let s := s.applySti d
    let s := (List.range 12).foldl (fun s n => s.applyCode d n) s
    let s := (s.applyVg d).applySeg d
    let s := (List.range 8).foldl (fun s n => s.applyPrint d n) (s.applyEnc d)
    let s := (List.range 4).foldl (fun s p => s.applyNp d p) (s.applyPp d)
    let s := ((List.range 2).foldl (fun s p => s.applyEth old d p) s).npReady
    let s := ((List.range 4).foldl (fun s g => s.applySdg d g) s).updSdf
    let s := (List.range 32).foldl (fun s b => s.applyClass d b) (s.applyTw d)
    let s := (List.range 4).foldl (fun s n => s.applyDvfs d n) s
    let s := (List.range 32).foldl (fun s p => s.applyRt d p) s
    let r := s.applyBanks d.crc j
    let s := (List.range 8).foldl (fun s n => s.updHp n) r.2.restoreWrite.summerGate
    let s := (List.range 4).foldl (fun s n => s.dvfsGo n) s
    (s.raise r.1).cfgReady

/-! ### Stop and run (R51, R65) -/

/-- PIPELINE_STOP: a write of RUN = 0 (R51). -/
def execPipelineStop (s : State) : Host.Outcome State Fault Refusal := done s (s.runZero.status 0)

/-- PIPELINE_RUN: a write of RUN = 1 (R51, R65). -/
def execPipelineRun (s : State) : Host.Outcome State Fault Refusal := done s s.runOne

/-- No line is in flight after a stop: every tag has its line, every stitched line has been formed, processed and resolved. -/
def State.drained (s : State) : Bool :=
  !s.bit F.CFG_CTL_RUN && !s.bit F.CFG_STAT_PIPE_STOPPED && s.cfg.trigDis
    && (List.range 12).all (fun n => !s.camUsed n || (s.ingS n).tags.isEmpty)
    && s.sti.formed == s.sti.refNext
    && (s.liveRegions).all (fun n => (s.runUnits n).all (fun u => u.next == s.sti.formed))
    && s.seg.commits.isEmpty

/-- PIPELINE_DRAINED (R51, R177, R228): pending registrations are rejected, open objects closed, and once the last record has been posted
PIPE_STOPPED is set and no region is processing any longer (R30). -/
def execPipelineDrained (s : State) : Host.Outcome State Fault Refusal :=
  if s.drained then
    let s' := s.rejectSeams.cutObjs (fun _ => true)
    done s (if s'.seg.spill.isEmpty then (s'.flag F.CFG_STAT_PIPE_STOPPED).vgReady else s')
  else done s s

/-- A write of CFG_CTL (R51, R65, R66): a refused RUN leaves the abort undone. -/
def State.cfgCtl (s : State) (val : Word) : State :=
  let r := if bitN val.toNat 0 then s.runOne else s.runZero.status 0
  if r.lastStatus != 0 then r else if bitN val.toNat 1 then r.loadAbort.status 0 else r

/-! ### Swap controls (R57, R64, R65) -/

/-- Status of an arm or disarm: CFG_STAT.LAST_ERR shows the codes of R54. -/
def State.swapStat (s : State) (st : Nat) : State := (s.setFld F.CFG_STAT_LAST_ERR st).status st

/-- Name the swap channel; a reversal of another channel is none of it. -/
def State.swapChan (s : State) (c : Nat) : State :=
  if s.fld F.CFG_SWAP_CTL_CHAN = c then s
  else { (s.setFld F.CFG_SWAP_CTL_CHAN c) with cfg := { s.cfg with swapRev := none } }

/-- ARM on channel `c` (R57). -/
def State.swapArm (s : State) (c : Nat) : State :=
  let a := s.bankState false == 2
  let b := s.bankState true == 2
  let dist := (s.rdN R.CFG_SWAP_POS + 2 ^ 32 - s.pos c % 2 ^ 32) % 2 ^ 32
  if a == b then s.swapStat 0x39
  else if !s.bit (F.ENC_CTL_EN c) then s.swapStat 0x3A
  else if dist < s.fld F.CFG_SWAP_MARGIN_MARGIN || 2 ^ 31 ≤ dist then s.swapStat 0x38
  else
    let s := ((s.swapChan c).setBank b 3).flag F.CFG_SWAP_CTL_ARM
    { s with cfg := { s.cfg with swapDone := false, crossAt := s.evtNow + 2 } }.swapStat 0

/-- DISARM (R64). -/
def State.swapDisarm (s : State) : State :=
  match s.armedBank with
  | none => s.swapStat (if s.cfg.swapDone then 0x3C else 0x39)
  | some b =>
    let s := (s.setBank b 2).setFld F.CFG_SWAP_CTL_ARM 0
    let s := (List.range 8).foldl (fun s n => s.unpredict b n) s
    { s with cfg := { s.cfg with swapDone := false, crossAt := s.evtNow + 2 } }.swapStat 0

/-- NOW with channel `c` (R65). -/
def State.swapAtOnce (s : State) (c : Nat) : State :=
  if !s.bit F.CFG_STAT_PIPE_STOPPED || s.bit F.CFG_STAT_LOADING || s.bit F.CFG_STAT_APPLYING then s.status 0x40
  else match s.readyBank with
    | none => s.status 0x39
    | some b => ((s.swapChan c).swapNow b).status 0

/-- Has the last ARM or DISARM yet to cross into EVT_CLK (R21, R64)? -/
def State.swapCrossing (s : State) : Bool := decide (s.evtNow < s.cfg.crossAt)

/-- A write of CFG_SWAP_CTL (R64, R65). -/
def State.swapCtl (s : State) (val : Word) : State :=
  let v := val.toNat
  let c := v % 4
  let arm := bitN v 8
  let dis := bitN v 9
  let now := bitN v 10
  if s.swapCrossing || 1 < b2n arm + b2n dis + b2n now then s.status 0x40
  else if s.armedBank.isSome then
    if c = s.fld F.CFG_SWAP_CTL_CHAN && dis then s.swapDisarm else s.status 0x40
  else if arm then s.swapArm c
  else if dis then s.swapDisarm
  else if now then s.swapAtOnce c
  else (s.swapChan c).status 0

/-- A write of CFG_SWAP_POS (R64). -/
def State.swapPos (s : State) (val : Word) : State :=
  if s.swapCrossing || s.armedBank.isSome then s.status 0x40 else (s.put R.CFG_SWAP_POS val).status 0

/-- SWAP_ARM (R57). -/
def execSwapArm (chan : Fin 4) (s : State) : Host.Outcome State Fault Refusal :=
  done s (s.swapCtl (BitVec.ofNat 32 (2 ^ 8 + chan.val)))

/-- SWAP_DISARM (R64). -/
def execSwapDisarm (chan : Fin 4) (s : State) : Host.Outcome State Fault Refusal :=
  done s (s.swapCtl (BitVec.ofNat 32 (2 ^ 9 + chan.val)))

/-- SWAP_NOW (R65). -/
def execSwapNow (chan : Fin 4) (s : State) : Host.Outcome State Fault Refusal :=
  done s (s.swapCtl (BitVec.ofNat 32 (2 ^ 10 + chan.val)))

end Sys2Proof.Machine
end

