-- ==== Sys2Proof/Machine/Dma.lean ====
section
/-!
DEFINITION. DMA channels (R334 to R341), remote memory over Nimeb (R342, R343) and their compression (R344 to R351).
-/
namespace Sys2Proof.Machine

/-- A channel that has never run. -/
def DmaS.init : DmaS := { got := [], tag := 0, sent := none, ack := false, fin := none }

/-- Hidden state of channel n. -/
def State.dmaS (s : State) (n : Nat) : DmaS := vget s.dma n DmaS.init

/-- Change the hidden state of channel n. -/
def State.modDma (s : State) (n : Nat) (f : DmaS → DmaS) : State := { s with dma := vput s.dma n (f (s.dmaS n)) }

/-- Source address of a channel (R334). -/
def State.dmaSrc (s : State) (n : Nat) : Nat := s.rdN (R.DM_SRC_LO n) + 2 ^ 32 * s.rdN (R.DM_SRC_HI n)

/-- Destination address of a channel (R334). -/
def State.dmaDst (s : State) (n : Nat) : Nat := s.rdN (R.DM_DST_LO n) + 2 ^ 32 * s.rdN (R.DM_DST_HI n)

/-- SHARE total of the BUSY channels (R335). -/
def State.shareSum (s : State) : Nat :=
  ((List.range 32).map (fun n => if s.bit (F.DM_STAT_BUSY n) then s.fld (F.DM_CFG_SHARE_M1 n) + 1 else 0)).sum

/-- DMA_SHARE.SUM (R335). -/
def State.updShare (s : State) : State := s.setFld F.DMA_SHARE_SUM s.shareSum

/-- Bytes of a container (R345). -/
def contBytes (d : Nat) : Nat := if d ≤ 8 then 1 else 2

/-- Is a compression channel predictive (R344)? -/
def ccPred (c : Nat) : Bool := c < 12

/-- Channels per pixel of a compression channel (R345). -/
def State.ccChans (s : State) (c : Nat) : Nat := if ccPred c && s.bit (F.CMP_CC_CFG0_CHANS3 c) then 3 else 1

/-! ### Moving bytes -/

/-- Bytes of a channel's local or host source, each with its POISON flag (R336, R337, R341). -/
def State.dmaRead (s : State) (n : Nat) (host : List Byte) : List (Byte × Bool) :=
  let a := s.dmaSrc n
  let at_ := fun i => if s.bit (F.DM_CFG_SRC_INC n) then i else i % 2 ^ s.fld (F.DM_CFG_SW n)
  (List.range (s.fld (F.DM_CNT_CNT n))).map (fun i =>
    if s.fld (F.DM_CFG_SRC_SPACE n) = 2 then (host.getD (at_ i) 0, false)
    else (memGet s.ddr (a + at_ i), s.poison.contains ((a + at_ i) / 64) || !s.bit F.DMC_INSTALLED_VALID))

/-- What a transfer's read of local DDR-4 does to the controller (R322, R325). -/
def State.dmaNote (s : State) (n : Nat) : State :=
  if s.fld (F.DM_CFG_SRC_SPACE n) ≠ 0 then s
  else s.ddrRead (s.dmaSrc n) (if s.bit (F.DM_CFG_SRC_INC n) then s.fld (F.DM_CNT_CNT n) else 2 ^ s.fld (F.DM_CFG_SW n))

/-- Insert a line into the rising list of poisoned lines. -/
def State.poisonLine (s : State) (l : Nat) : State :=
  { s with poison := s.poison.filter (fun x => x < l) ++ l :: s.poison.filter (fun x => l < x) }

/-- Write bytes into local DDR-4; lines with a byte of a poisoned source are poisoned (R341). -/
def State.localWrite (s : State) (a : Nat) (bs : List (Byte × Bool)) : State :=
  if !s.inDdr a bs.length then s
  else
    let bad := ((bs.zipIdx.filter (fun e => e.1.2)).map (fun e => (a + e.2) / 64)).eraseDups
    bad.foldl State.poisonLine (s.memStore a (bs.map (·.1)))

/-- Split a list into pieces of at most `k`. -/
def chunks {α : Type} (k : Nat) (l : List α) : List (List α) :=
  (List.range (ceilDiv l.length k)).map (fun i => slice l (i * k) k)

/-- The remote-memory header (R342). -/
def remoteHdr (op status dlen tag chan flags addr : Nat) : List Byte :=
  leBytes 1 op ++ leBytes 1 status ++ leBytes 2 dlen ++ leBytes 2 tag ++ leBytes 1 chan ++ leBytes 1 flags ++ leBytes 8 addr

/-- A DATA frame to a device (R128, R342). -/
def State.sendData (s : State) (vc dst : Nat) (payload : List Byte) : State :=
  s.sendRouted { ty := 0x01, vc := vc, dst := dst, src := s.devId, data := payload }

/-- Place of the first byte of WRITE `k` of `len` bytes: every 240 bytes; the last one, whose data are a multiple of 8 (R342), goes back over
bytes already sent rather than past the range (R337, assumption 100). -/
def writeFrom (len k : Nat) : Nat :=
  if len < 240 * (k + 1) then min (240 * k) (len - 8 * ceilDiv (len - 240 * k) 8) else 240 * k

/-- The WRITE frames of a transfer, the last one with LAST (R342, R343). -/
def State.remoteWrites (s : State) (n kind : Nat) (bs : List (Byte × Bool)) : State :=
  let k := ceilDiv bs.length 240
  let s := (List.range k).foldl (fun s i =>
    let c := slice bs (writeFrom bs.length i) (min 240 (bs.length - writeFrom bs.length i))
    let flags := b2n (i + 1 == k) + 2 * b2n (c.any (·.2))
    s.sendData 0 (s.fld (F.DM_DEV_DEV_ID n))
      (padTo8 (remoteHdr 1 0 c.length (s.dmaS n).tag n flags (s.dmaDst n + writeFrom bs.length i) ++ c.map (·.1)))) s
  s.modDma n (fun d => { d with sent := some (bs.length, kind) })

/-- Bytes the next READ_REQ of a remote source is to bring: with SRC_INC = 0 one access of SW bytes (R336). -/
def State.remoteAsk (s : State) (n : Nat) : Nat :=
  min (s.fld (F.DM_CNT_CNT n) - (s.dmaS n).got.length) (if s.bit (F.DM_CFG_SRC_INC n) then 240 else 2 ^ s.fld (F.DM_CFG_SW n))

/-- The next READ_REQ of a transfer with a remote source; one is out at a time (R336, R342, R343). -/
def State.remoteRead (s : State) (n : Nat) : State :=
  let d := s.dmaS n
  let at_ := s.dmaSrc n + (if s.bit (F.DM_CFG_SRC_INC n) then d.got.length else 0)
  if s.remoteAsk n = 0 then s
  else s.sendData 1 (s.fld (F.DM_DEV_DEV_ID n)) (remoteHdr 2 0 (8 * ceilDiv (s.remoteAsk n) 8) d.tag n 0 at_)

/-! ### The end of a transfer (R339 to R341) -/

/-- Post the completion of a channel that has ended once its queue has room; BUSY falls then (R340, R359). -/
def State.dmaPost (s : State) (n : Nat) : State :=
  match (s.dmaS n).fin with
  | none => s
  | some (st, late) =>
    let q := s.fld (F.DM_CTL_QID n)
    let e := HostEntry.comp { src := 0x40 + n, status := st, flags := b2n late, result := s.rdN (R.DM_XFER n) }
    if !s.hasRoom q e.ringBytes then s
    else
      let s := (s.pushEntry q e false).setFld (F.DM_STAT_BUSY n) 0
      let s := if s.fld (F.DM_CFG_COMP n) = 0 then s else s.setFld (F.CMP_CC_STAT_BUSY (s.fld (F.DM_CFG_CC n))) 0
      (s.modDma n (fun _ => { DmaS.init with tag := (s.dmaS n).tag })).updShare

/-- Post what waits, lowest channel first. -/
def State.dmaPostAll (s : State) : State := (List.range 32).foldl State.dmaPost s

/-- End a transfer: its flags, its cause, its count and its completion. -/
def State.dmaEnd (s : State) (n st cause xfer : Nat) (flags : List Fld) (late : Bool := false) : State :=
  let s := ((s.putN (R.DM_XFER n) xfer).setFld (F.DM_STAT_CAUSE n) cause)
  let s := flags.foldl State.flag s
  (s.modDma n (fun d => { d with fin := some (st, late) })).dmaPost n

/-- Write the destination of a transfer that is local or host memory. -/
def State.dmaPut (s : State) (n : Nat) (bs : List (Byte × Bool)) : State :=
  if s.fld (F.DM_CFG_DST_SPACE n) = 2 then
    if bs.isEmpty then s else s.emit (.hostWrite (s.dmaDst n) (bs.map (fun b => if b.2 then 0 else b.1)))
  else s.localWrite (s.dmaDst n) bs

/-- Rows of pixels from containers (R345). -/
def rowsOf (bs : List Byte) (cont chans width rows d : Nat) : List (List (List Nat)) :=
  (List.range rows).map (fun y => (List.range width).map (fun x => (List.range chans).map (fun k =>
    leVal (slice bs (((y * width + x) * chans + k) * cont) cont) % 2 ^ d)))

/-- Encode a transfer's bytes through its compression channel (R345, R346, R349). -/
def State.ccEncode (s : State) (c : Nat) (bs : List Byte) : List Byte :=
  let d := s.fld (F.CMP_CC_CFG0_D c)
  let w := s.fld (F.CMP_CC_GEOM0_WIDTH c)
  let ch := s.ccChans c
  let rows := rowsOf bs (contBytes d) ch w (s.fld (F.CMP_CC_GEOM1_ROWS c)) d
  if ccPred c then encPred d ch (s.fld (F.CMP_CC_CFG0_NSEG c)) w rows
  else encRun d w (rows.map (fun r => r.map px1))

/-- Containers of decoded rows (R345). -/
def contOf (d : Nat) (rows : List (List (List Nat))) : List Byte := rows.flatMap (fun r => r.flatMap (fun p => p.flatMap (leBytes (contBytes d))))

/-- A decode failure is noted on its channel (R351). -/
def State.ccBad (s : State) (c n : Nat) : State :=
  ((s.flag (F.CMP_CC_STAT_CRC_BAD c)).incCnt (F.CMP_CC_STAT_BAD_CNT c) (F.CMP_CC_STAT_SAT c)).fault 0x06 0x3 c (w5 := n)

/-- What a channel writes for the bytes it read, whether decoding failed, and the state with the compression channel's counts
(R345, R351). -/
def State.dmaCode (s : State) (n : Nat) (bs : List (Byte × Bool)) : List (Byte × Bool) × Bool × State :=
  let c := s.fld (F.DM_CFG_CC n)
  let comp := s.fld (F.DM_CFG_COMP n)
  let bad := bs.any (·.2)
  let raw := bs.map (·.1)
  if comp = 0 then (bs, false, s)
  else if comp = 1 then
    let o := s.ccEncode c raw
    let s := (s.setFld (F.CMP_CC_RAW_UNITS c) (s.fld (F.CMP_CC_RAW_UNITS c) + (raw.length + 63) / 64)).setFld
      (F.CMP_CC_COD_UNITS c) (s.fld (F.CMP_CC_COD_UNITS c) + (o.length + 63) / 64)
    (o.map (fun b => (b, bad)), false, s)
  else
    let fillOut := fun (h : StreamHdr) =>
      contOf h.depth (List.replicate h.rows (List.replicate h.width (List.replicate h.chans (s.fld (F.CMP_CC_FILL_FILL c)))))
    match decStream (bs.map (fun b => if b.2 then 0 else b.1)) with
    | .ok h rows =>
      if (h.kind = 1) = (ccPred c = true) then ((contOf h.depth rows).map (fun b => (b, bad)), false, s)
      else ((fillOut h).map (fun b => (b, false)), true, s.ccBad c n)
    | .bad h => ((fillOut h).map (fun b => (b, false)), true, s.ccBad c n)
    | .badHdr => ([], true, s.ccBad c n)

/-- The end of a transfer that moved all it could: 0 good, 1 poisoned, 2 not decodable; with `late`, an abort came too late for it
(R339 to R341, R351, assumption 211). -/
def State.dmaOver (s : State) (n x kind : Nat) (late : Bool := false) : State :=
  let fl := if late then [F.DM_STAT_ABORT_LATE n] else []
  if kind = 1 then s.dmaEnd n 0x60 2 x (F.DM_STAT_ERR n :: fl) late
  else if kind = 2 then s.dmaEnd n 0x64 4 x (F.DM_STAT_ERR n :: fl) late
  else s.dmaEnd n 0 0 x (F.DM_STAT_DONE n :: fl) late

/-- How a transfer of these bytes ends once they are moved: 0 good, 1 poisoned, 2 not decodable. -/
def overKind (bs : List (Byte × Bool)) (undec : Bool) : Nat := if bs.any (·.2) then 1 else if undec then 2 else 0

/-- Move the bytes of a transfer: to local or host memory at once, to a remote device as WRITE frames (R339, R341, R351). -/
def State.dmaFinish (s : State) (n : Nat) (bs : List (Byte × Bool)) : State :=
  let r := (s.dmaNote n).dmaCode n bs
  let kind := overKind bs r.2.1
  if s.fld (F.DM_CFG_DST_SPACE n) = 1 then
    if r.1.isEmpty then r.2.2.dmaOver n 0 kind else r.2.2.remoteWrites n kind r.1
  else (r.2.2.dmaPut n r.1).dmaOver n r.1.length kind

/-- The host's bytes a transfer needs. -/
def State.hostNeed (s : State) (n : Nat) : Nat :=
  if s.fld (F.DM_CFG_SRC_SPACE n) ≠ 2 then 0
  else if s.bit (F.DM_CFG_SRC_INC n) then s.fld (F.DM_CNT_CNT n) else 2 ^ s.fld (F.DM_CFG_SW n)

/-- All the source bytes of a channel, where they are there. -/
def State.dmaSource (s : State) (n : Nat) (host : List Byte) : Option (List (Byte × Bool)) :=
  if s.fld (F.DM_CFG_SRC_SPACE n) = 1 then
    if (s.dmaS n).got.length = s.fld (F.DM_CNT_CNT n) then some (s.dmaS n).got else none
  else if s.hostNeed n ≤ host.length then some (s.dmaRead n host)
  else none

/-- DMA_COMPLETE (R339): what can still move moves; once every write is accepted, the one completion is posted. -/
def execDmaComplete (n : Fin 32) (host : List Byte) (s : State) : Host.Outcome State Fault Refusal :=
  if !s.bit (F.DM_STAT_BUSY n) then done s s
  else if (s.dmaS n).fin.isSome then done s (s.dmaPost n)
  else match (s.dmaS n).sent with
  | some (x, kind) => done s (if (s.dmaS n).ack then s.dmaOver n x kind else s)
  | none =>
    match s.dmaSource n host with
    | none => done s s
    | some bs => done s (s.dmaFinish n bs)

/-! ### START and ABORT (R335, R340) -/

/-- The mode rules (R336, R337). -/
def State.dmaModeOk (s : State) (n : Nat) : Bool :=
  let sw := 2 ^ s.fld (F.DM_CFG_SW n)
  let dw := 2 ^ s.fld (F.DM_CFG_DW n)
  if s.bit (F.DM_CFG_MODE n) then s.bit (F.DM_CFG_SRC_INC n)
  else s.dmaSrc n % sw == 0 && s.dmaDst n % dw == 0 && s.fld (F.DM_CNT_CNT n) % max sw dw == 0 && s.fld (F.DM_CFG_COMP n) == 0

/-- May a side of a transfer stand (R334, R335)? -/
def State.dmaSideOk (s : State) (space a len : Nat) : Bool :=
  if space = 0 then s.inDdr a len else if space = 1 then decide (a < 2 ^ 38) else space == 2

/-- The compression rules of R335 and R345. -/
def State.dmaCompOk (s : State) (n : Nat) : Bool :=
  let c := s.fld (F.DM_CFG_CC n)
  let comp := s.fld (F.DM_CFG_COMP n)
  comp == 0 ||
    (!s.bit (F.CMP_CC_STAT_RESERVED_BY c) && !s.bit (F.CMP_CC_STAT_BUSY c) &&
      (comp != 1 || s.fld (F.DM_CNT_CNT n) ==
        s.fld (F.CMP_CC_GEOM0_WIDTH c) * s.fld (F.CMP_CC_GEOM1_ROWS c) * s.ccChans c * contBytes (s.fld (F.CMP_CC_CFG0_D c))))

/-- The conditions of a START (R335). -/
def State.dmaStartOk (s : State) (n : Nat) : Bool :=
  let src := s.fld (F.DM_CFG_SRC_SPACE n)
  let dst := s.fld (F.DM_CFG_DST_SPACE n)
  let cnt := s.fld (F.DM_CNT_CNT n)
  let slen := if s.bit (F.DM_CFG_SRC_INC n) then cnt else 2 ^ s.fld (F.DM_CFG_SW n)
  !s.bit (F.DM_STAT_BUSY n) && cnt != 0 && !(src == 1 && dst == 1) && s.dmaSideOk src (s.dmaSrc n) slen &&
    s.dmaSideOk dst (s.dmaDst n) (if s.fld (F.DM_CFG_COMP n) = 0 then cnt else 1) && s.dmaModeOk n && s.dmaCompOk n &&
    decide (s.shareSum + s.fld (F.DM_CFG_SHARE_M1 n) + 1 ≤ 256)

/-- Start a channel (R335). -/
def State.dmaStart (s : State) (n : Nat) : State :=
  let s := ((s.flag (F.DM_STAT_BUSY n)).putN (R.DM_XFER n) 0).setFld (F.DM_STAT_CAUSE n) 0
  let s := if s.fld (F.DM_CFG_COMP n) = 0 then s else (s.wakeBlock 0x10).flag (F.CMP_CC_STAT_BUSY (s.fld (F.DM_CFG_CC n)))
  let s := (s.modDma n (fun d => { DmaS.init with tag := (d.tag + 1) % 65536 })).updShare
  if s.fld (F.DM_CFG_SRC_SPACE n) = 1 then s.remoteRead n
  else if s.fld (F.DM_CFG_DST_SPACE n) = 1 && s.fld (F.DM_CFG_SRC_SPACE n) == 0 then s.dmaFinish n (s.dmaRead n [])
  else s

/-- The source bytes of a plain transfer that are there so far: the responses' data, or what the host has delivered. -/
def State.dmaThere (s : State) (n : Nat) (host : List Byte) : List (Byte × Bool) :=
  if s.fld (F.DM_CFG_COMP n) ≠ 0 then []
  else if s.fld (F.DM_CFG_SRC_SPACE n) = 1 then (s.dmaS n).got
  else (host.map (fun b => (b, false))).take (s.fld (F.DM_CNT_CNT n))

/-- Abort a busy channel with `acc` destination bytes accepted (R340). Where every byte was accepted and only the completion waits, the
abort is late; where the transfer was stopped already it changes nothing. -/
def State.dmaAbort (s : State) (n acc : Nat) (host : List Byte) : State :=
  let stop := fun (s : State) (x : Nat) => s.dmaEnd n 0x61 6 x [F.DM_STAT_ABORTED n]
  if !s.bit (F.DM_STAT_BUSY n) then s
  else match (s.dmaS n).fin with
  | some (st, _) =>
    if s.fld (F.DM_STAT_CAUSE n) = 3 ∨ 5 ≤ s.fld (F.DM_STAT_CAUSE n) then s
    else (s.flag (F.DM_STAT_ABORT_LATE n)).modDma n (fun d => { d with fin := some (st, true) })
  | none =>
    if s.fld (F.DM_CFG_DST_SPACE n) = 1 then
      match (s.dmaS n).sent with
      | some (x, kind) => if (s.dmaS n).ack then s.dmaOver n x kind true else stop s 0
      | none => stop s 0
    else match s.dmaSource n host with
    | none =>
      let bs := (s.dmaThere n host).take acc
      stop (s.dmaPut n bs) bs.length
    | some bs =>
      let s := s.dmaNote n
      let r := s.dmaCode n bs
      if r.1.length ≤ acc then
        (r.2.2.dmaPut n r.1).dmaOver n r.1.length (overKind bs r.2.1) true
      else stop (s.dmaPut n (r.1.take acc)) acc

/-- A write of DMn_CTL (R335, R340). -/
def State.dmaCtl (s : State) (n : Nat) (val : Word) : State :=
  let s' := s.setFld (F.DM_CTL_QID n) (val.toNat / 4)
  if bitN val.toNat 0 then
    if s.dmaStartOk n then (s'.dmaStart n).status 0 else s.status 0x40
  else if bitN val.toNat 1 then (s'.dmaAbort n (s.rdN (R.DM_XFER n)) []).status 0
  else s'.status 0

/-- DMA_START (R335). -/
def execDmaStart (n : Fin 32) (val : Word) (s : State) : Host.Outcome State Fault Refusal :=
  done s ((s.wakeBlock 0x0F).dmaCtl n (val ||| 1))

/-- DMA_ABORT (R340): `acc` destination bytes were accepted at tA. -/
def execDmaAbort (n : Fin 32) (acc : Word) (host : List Byte) (s : State) : Host.Outcome State Fault Refusal :=
  done s (((s.wakeBlock 0x0F).dmaAbort n acc.toNat host).status 0)

/-- A remote error or timeout stops a channel (R341, R343); the bytes of the responses before it have been accepted. -/
def State.remoteStop (s : State) (n st cause : Nat) : State :=
  if s.bit (F.DM_STAT_BUSY n) && (s.dmaS n).fin.isNone then
    let bs := if s.fld (F.DM_CFG_SRC_SPACE n) = 1 then s.dmaThere n [] else []
    (s.dmaPut n bs).dmaEnd n st cause bs.length [F.DM_STAT_ERR n]
  else s

/-- REMOTE_TIMEOUT (R343): a READ_REQ or LAST write without response in 100 µs. -/
def execRemoteTimeout (n : Fin 32) (s : State) : Host.Outcome State Fault Refusal :=
  let d := s.dmaS n
  let out := (s.fld (F.DM_CFG_SRC_SPACE n) == 1 && d.got.length < s.fld (F.DM_CNT_CNT n)) || (d.sent.isSome && !d.ack)
  done s (if out then s.remoteStop n 0x63 5 else s)

/-! ### The target and the requester (R343) -/

/-- Does a range lie in the remote window? -/
def State.inWindow (s : State) (a n : Nat) : Bool :=
  let base := s.fld F.DMA_RWIN_LO_BASE * 2 ^ 20 + s.fld F.DMA_RWIN_HI_BASE * 2 ^ 32
  base ≤ a && a + n ≤ base + s.fld F.DMA_RWIN_HI_SIZE * 2 ^ 20

/-- Is a DATA frame's length one R342 allows? A READ_RESP that tells an error and a WRITE_ACK carry none; a WRITE of less than 8 bytes in all
keeps its count (assumption 100). -/
def dlenOk (op status dlen have_ : Nat) : Bool :=
  let fits := dlen % 8 == 0 && 8 ≤ dlen && dlen ≤ 240
  if op = 1 then (fits || (0 < dlen && dlen < 8)) && have_ == 8 * ceilDiv dlen 8
  else if op = 2 then fits && have_ == 0
  else if op = 3 then if status = 0 then fits && have_ == dlen else dlen == 0 && have_ == 0
  else dlen == 0 && have_ == 0

/-- Consume a DATA frame (R342, R343). A request whose length is not allowed is refused as one outside the window is, and a response of that
kind is ignored (assumption 100). -/
def State.remoteFrame (s : State) (src : Nat) (pl : List Byte) : State :=
  let b := fun i n => leVal (slice pl i n)
  let op := b 0 1
  let dlen := b 2 2
  let tag := b 4 2
  let chan := b 6 1 % 32
  let addr := b 8 8
  let data := pl.drop 16
  let answer := fun (s : State) (op st dlen flags : Nat) (d : List Byte) =>
    s.sendData 2 src (remoteHdr op st dlen tag (b 6 1) flags addr ++ d)
  if op = 1 ∨ op = 2 then
    let st := if !dlenOk op 0 dlen data.length || !s.inWindow addr dlen then 1 else if !s.inDdr addr dlen then 2 else 0
    let resp := if op = 1 then 4 else 3
    if st ≠ 0 then answer (s.incCnt F.DMA_RSTAT_REFUSED F.DMA_RSTAT_SAT) resp st 0 0 []
    else if op = 1 then
      let s := s.localWrite addr ((data.take dlen).map (fun x => (x, bitN (b 7 1) 1)))
      if bitN (b 7 1) 0 then answer s 4 0 0 0 [] else s
    else answer (s.ddrRead addr dlen) 3 0 dlen (2 * b2n (s.poisoned addr dlen)) (s.memRead addr dlen)
  else
    let d := s.dmaS chan
    if !s.bit (F.DM_STAT_BUSY chan) || d.fin.isSome || d.tag != tag || !dlenOk op (b 1 1) dlen data.length then s
    else if op = 3 && s.fld (F.DM_CFG_SRC_SPACE chan) == 1 then
      if b 1 1 ≠ 0 then s.remoteStop chan 0x62 3
      else
        let more := (data.take (s.remoteAsk chan)).map (fun x => (x, bitN (b 7 1) 1))
        (s.modDma chan (fun d => { d with got := d.got ++ more })).remoteRead chan
    else if op = 4 && s.fld (F.DM_CFG_DST_SPACE chan) == 1 then
      if b 1 1 ≠ 0 then s.remoteStop chan 0x62 3
      else s.modDma chan (fun d => { d with ack := true })
    else s

/-- NIMEB_DATA_FRAME (R130, R131, R343): a DATA frame is accepted in SEQ order and consumed or forwarded, or refused by a
NAK. -/
def execNimebDataFrame (p : Fin 4) (vc : Fin 4) (dst src : BitVec 18) (seq : BitVec 12) (ack : Option (BitVec 12))
    (fcrcOk : Bool) (payload : List Byte) (s : State) : Host.Outcome State Fault Refusal :=
  let r := s.npAccept p vc seq.toNat ack fcrcOk payload.length
  if !r.1 then done s r.2
  else if r.2.ownDst dst.toNat then done s (r.2.remoteFrame src.toNat payload)
  else done s (r.2.forward p { ty := 0x01, vc := vc, dst := dst.toNat, src := src.toNat, data := payload })

end Sys2Proof.Machine
end

