-- ==== Sys2Proof/Machine/Enc.lean ====
section
/-!
DEFINITION. Encoders, index, absolute and switch inputs (R67 to R77, R85 to R87), the swap comparator (R58, R59) and the meanings
of the ENC commands.
-/
namespace Sys2Proof.Machine

/-- Encoder state at reset. The levels of A, B and Z start low: the spec gives none (DESIGN CHOICE, assumption 182). -/
def EncS.init : EncS :=
  { a := false, b := false, z := false, sa := false, sb := false, sz := false, deadA := false, deadB := false, deadZ := false, hist := [], last := none, idxL := 0 }

/-- Hidden state of channel `n`. -/
def State.encSt (s : State) (n : Nat) : EncS := vget s.enc n EncS.init

/-- Change the hidden state of channel `n`. -/
def State.modEnc (s : State) (n : Nat) (f : EncS → EncS) : State := { s with enc := vput s.enc n (f (s.encSt n)) }

/-! ### Position, epoch, speed -/

/-- The counter takes a new value; a change of bit 31 is an epoch (R72). `dn` is a backward change, `snap` its cause. Answers
whether ENCn_EPOCH is raised. -/
def State.encMove (s : State) (n new : Nat) (dn snap : Bool) : Bool × State :=
  let old := s.pos n
  let s := s.putN (R.ENC_POS n) new
  if bitN old 31 = bitN (new % 2 ^ 32) 31 then (false, s)
  else
    let h := (s.fld (F.ENC_EPOCH_HALF n) + if dn then 65535 else 1) % 65536
    let s := s.setFld (F.ENC_EPOCH_HALF n) h
    (true, s.record 2 (s.sysRec 0x10 (new % 2 ^ 32) s.tsNs (n + 4 * b2n dn + 8 * b2n snap) h 0 0))

/-- Interval measurement at a step (R73, R74). -/
def State.encSpeed (s : State) (n : Nat) (back : Bool) : State :=
  let g := s.encSt n
  let now := s.evtNow
  let k := 2 ^ min 8 (s.fld (F.ENC_CTL_AVG n))
  let turned := s.bit (F.ENC_STAT_DIR n) != back
  let hist := if turned then [] else match g.last with
    | none => g.hist
    | some t => ((now - t) :: g.hist).take 256
  let per := if hist.length < k then 0xFFFFFFFF else min ((hist.take k).sum * 256 / k) 0xFFFFFFFE
  let s := s.modEnc n (fun g => { g with hist := hist, last := some now })
  ((s.putN (R.ENC_PERIOD n) per).setBit (F.ENC_STAT_DIR n) back).setFld (F.ENC_STAT_STILL n) 0

/-- Compare units that follow channel `n`. -/
def State.unitsOf (s : State) (n : Nat) : List Nat :=
  (List.range 32).filter (fun u => s.fld (F.CU_CTL_CHAN u) == n)

/-! ### Steps -/

/-- The bank a forward step to `pos` of channel `n` swaps to, if the comparator fires; and the comparator's reversal point after
the step (R58). -/
def State.swapHit (s : State) (n pos : Nat) : Option Bool × Option Nat :=
  if s.fld F.CFG_SWAP_CTL_CHAN != n then (none, s.cfg.swapRev)
  else
    let rev := match s.cfg.swapRev with
      | none => none
      | some v => if cntLe ((v + s.fld (F.ENC_CTL_BACKLASH n)) % 2 ^ 32) pos then none else some v
    if rev.isNone && cntLe (s.rdN R.CFG_SWAP_POS) pos then (s.armedBank, rev) else (none, rev)

/-- The equinox swap edge (R59 to R63); the bank that was RUNNING, if any, is DRAINING. The target is the swap count, also where a reversal postponed the swap (R58). Answers the units
hit by a loaded point. -/
def State.swapEdge (s : State) (b : Bool) (n : Nat) (hit late : List Nat) : List Nat × State :=
  let ran := s.bankState (!b) == 4
  let old := if ran then s.jobId (!b) else 0
  let s := if ran then s.setBank (!b) 5 else s
  let s := { s.setFld F.CFG_SWAP_CTL_ARM 0 with cfg := { s.cfg with swapDone := true } }
  s.takeBank b (s.rdN R.CFG_SWAP_POS) (s.pos n) false old hit late

/-- The standby's pipeline starts on the step of B_0's reference point (R440 step 5), and that line gets SLINE 256 B_0: the units,
the regions and SEG go on from block B_0. -/
def State.resyncStart (s : State) (n pos : Nat) : State :=
  let r0 := s.flt.resync
  if r0.phase = 3 ∧ s.fld (F.CU_CTL_CHAN r0.refCu) = n ∧ 0 < ptReached r0.refPt (s.cuLim r0.refCu pos) 1 then
    let k := 256 * r0.b0
    let s := { s with
      sti := { s.sti with refTags := [], refNext := k, formed := k, nextK := Vector.replicate 12 k },
      vg := { s.vg with
        lines := [], first := k, units := s.vg.units.map (fun (u : VuS) => { u with next := k, slots := u.slots.map (fun _ => .none), outs := [] }),
        regions := s.vg.regions.map (fun (r : RegionS) => { r with block := r0.b0, partials := [], tables := [], ringFrom := 0 }) },
      seg := { s.seg with descs := [], commits := [], nextBlk := r0.b0 },
      flt := { s.flt with resync := { s.flt.resync with phase := 4 } } }
    let s := s.runRise
    { s with seg := { s.seg with orgNext := false } }
  else s

/-- A forward step of channel `n` (R67, R80, R84). Source SWAP is raised with the step's compare hits, so that they merge and see the old G14; R90 and the
table of R59 leave its cycle open (DESIGN CHOICE, assumption 183). -/
def State.encForward (s : State) (n : Nat) : State :=
  let s := s.encSpeed n false
  let bankB := s.bankBRuns
  let m := s.encMove n (s.pos n + 1) false false
  let s := m.2
  let pos := s.pos n
  let s := s.resyncStart n pos
  let s := (List.range 8).foldl (fun s p => s.shuttleStep n true p) s
  let sw := s.swapHit n pos
  let s := { s with cfg := { s.cfg with swapRev := sw.2 } }
  let named : List Nat := match sw.1 with
    | some b => (s.jobUnits b).map (fun c => c.cu)
    | none => []
  let before := (s.rdN R.CFG_SWAP_POS * 65536 + (2 ^ 48 - 1)) % 2 ^ 48
  let held := (s.unitsOf n).filter (fun u => (s.cuSt u).rev.isSome)
  let r := (s.unitsOf n).foldl (fun acc u =>
    let e := acc.2.cuStep u pos (if named.contains u then before else acc.2.cuLim u pos)
    (if e.1 then acc.1 ++ [u] else acc.1, e.2)) (([] : List Nat), s)
  let w := match sw.1 with
    | some b => let x := r.2.swapEdge b n r.1 held
                (r.1 ++ x.1 ++ [88], x.2)
    | none => r
  w.2.raiseG (w.1 ++ if m.1 then [36 + n] else []) bankB

/-- A backward step of channel `n` (R67, R83). -/
def State.encBackward (s : State) (n : Nat) : State :=
  let s := s.encSpeed n true
  let v := s.pos n
  let m := s.encMove n (s.pos n + (2 ^ 32 - 1)) true false
  let s := (List.range 8).foldl (fun s p => s.shuttleStep n false p) m.2
  let s := (s.unitsOf n).foldl (fun s u =>
    s.modCu u (fun c => { c with rev := some (c.rev.getD v), delayed := false, deferred := false })) s
  let s := if s.fld F.CFG_SWAP_CTL_CHAN = n
    then { s with cfg := { s.cfg with swapRev := some (s.cfg.swapRev.getD v) } } else s
  s.raise (if m.1 then [36 + n] else [])

/-- Accepted changes of A, B or both (R67 to R69). -/
def State.encAccept (s : State) (n : Nat) (chA chB : Bool) : State :=
  let dead := s.fld (F.ENC_CTL_DEAD n) != 0
  let s := s.modEnc n (fun g => { g with a := g.a != chA, b := g.b != chB,
                                         deadA := if chA then dead else g.deadA, deadB := if chB then dead else g.deadB })
  if !s.bit (F.ENC_CTL_EN n) then s
  else if chA && chB then
    ((s.incCnt (F.ENC_QERR_CNT_CNT n) (F.ENC_QERR_CNT_SAT n)).flag (F.ENC_STAT_QERR n)).raise [32 + n]
  else if chA || chB then
    let g := s.encSt n
    let fwd := (if chA then g.a != g.b else g.a == g.b) != s.bit (F.ENC_CTL_DIR_INV n)
    if fwd then s.encForward n else s.encBackward n
  else s

/-- The sampled level of one line changes: a change in the line's dead time is not accepted (R68). -/
def State.encSample (s : State) (n : Nat) (lineB : Bool) : State :=
  let s := s.modEnc n (fun g => if lineB then { g with sb := !g.sb } else { g with sa := !g.sa })
  let g := s.encSt n
  s.encAccept n (!lineB && !g.deadA && g.sa != g.a) (lineB && !g.deadB && g.sb != g.b)

/-! ### Index (R75 to R77) -/

/-- Move a line on hand by a signed count. -/
def moveLine (d : Int) (l : PLine) : PLine := { l with pt := ptMove l.pt d }

/-- A snap by `e` of channel `n` (R77): counter, points, reversal points, armed target and print-port points move by -e. Answers
whether ENCn_EPOCH is raised. -/
def State.snapMove (s : State) (n : Nat) (e : Int) : Bool × State :=
  let old := s.pos n
  let mv := fun (v : Nat) => wrapTo 32 ((v : Int) - e)
  let m := s.encMove n (mv old) (0 < e) true
  let s := m.2
  let s := (s.unitsOf n).foldl (fun s u =>
    (s.setCuN u (ptMove (s.cuN u) (-e))).modCu u (fun c => { c with rev := c.rev.map mv })) s
  let s := if s.fld F.CFG_SWAP_CTL_CHAN = n then
      let s := { s with cfg := { s.cfg with swapRev := s.cfg.swapRev.map mv } }
      if s.armedBank.isSome then (s.putN R.CFG_SWAP_POS (mv (s.rdN R.CFG_SWAP_POS))).flag F.CFG_STAT_SWAP_SHIFTED else s
    else s
  let s := (List.range 8).foldl (fun (s : State) (p : Nat) =>
    let onCh : Bool → Bool := fun b => (s.prtEntry b p).any (fun en => s.fld (F.CU_CTL_CHAN en.cu) == n)
    let a := onCh false
    let b := onCh true
    -- Each line on hand goes with the unit its own bank names: lines of an armed bank too (R256).
    let ml := fun (l : PLine) => if (ofBank false l && a) || (ofBank true l && b) then moveLine (-e) l else l
    let s := s.modPrt p (fun g => { g with latched := g.latched.map ml, shifting := g.shifting.map ml, shifted := g.shifted.map ml,
                                           prefetch := g.prefetch.map ml })
    if onCh s.runBank then (s.putN (R.HP_LS p) (mv (s.rdN (R.HP_LS p)))).modPrt p (fun g => { g with p0 := ptMove g.p0 (-e) }) else s) s
  let s := s.incWrap (F.ENC_EPOCH_SNAP_CNT n)
  (m.1, s.record 2 (s.sysRec 0x11 (s.pos n) s.tsNs n old (wrapTo 32 e) 0))

/-- The check of a forward capture `c` (R75, R76). Answers whether a snap raised ENCn_EPOCH. -/
def State.idxCheck (s : State) (n c : Nat) : Bool × State :=
  let s := s.putN (R.ENC_IDX_CAP n) c
  if !s.bit (F.ENC_STAT_IDX_REF n) then
    (false, (s.modEnc n (fun g => { g with idxL := c })).flag (F.ENC_STAT_IDX_REF n))
  else
    let p := s.rdN (R.ENC_IDX_PERIOD n)
    let d := cntDiff (s.encSt n).idxL c
    let k := roundHalfAway d p
    if k = 0 then (false, s)
    else
      let e := d - k * p
      let s := (s.modEnc n (fun g => { g with idxL := wrapTo 32 ((c : Int) - e) })).putN (R.ENC_IDX_ERR n) (wrapTo 32 e)
      if s.fld (F.ENC_IDX_CFG_IDX_TOL n) < e.natAbs then
        let s := s.flag (F.ENC_STAT_IDX_MISMATCH n)
        if s.bit (F.ENC_CTL_IDX_SNAP n) then
          if e.natAbs ≤ s.fld (F.ENC_IDX_CFG_SNAP_MAX n) then s.snapMove n e
          else (false, s.flag (F.ENC_STAT_IDX_BIG n))
        else (false, s)
      else (false, s)

/-! ### Absolute inputs (R85, R86) -/

/-- Gray code to binary. -/
def grayToBin : Nat → Nat → Nat
  | 0, _ => 0
  | k + 1, g => Nat.xor g (grayToBin k (g / 2))

/-- One bit of the BiSS-C CRC, x^6 + x + 1 (R85). -/
def bissStep (c : Nat) (b : Bool) : Nat :=
  let c' := c * 2 % 64
  if bitN c 5 != b then Nat.xor c' 3 else c'

/-- The CRC as transmitted: over position, error and warning bits, most significant bit first, inverted (R85). -/
def bissCrc (bits pos : Nat) (errLow warnLow : Bool) : Nat :=
  let ps := (List.range bits).reverse.map (bitN pos)
  Nat.xor ((ps ++ [!errLow, !warnLow]).foldl bissStep 0) 63

/-- A faulted cycle (R86): one more in FAIL_CNT, and ABSn_FAIL. -/
def State.absFail (s : State) (n : Nat) : State := (s.incSat (F.ABS_STAT_FAIL_CNT n)).raise [66 + n]

/-- The cycle under way ends. -/
def State.absEnd (s : State) (n : Nat) : State := { s with absIn := vput s.absIn n { busy := false } }

/-- ABSn_DONE; the ports note it (R263). -/
def State.absDone (s : State) (n : Nat) : State :=
  let s := (List.range 8).foldl (fun s p => s.modPrt p (fun g => { g with absSeen := vput g.absSeen n true })) s
  s.raise [64 + n]

/-- A complete cycle (R86). -/
def State.absCycle (s : State) (n raw : Nat) (errLow warnLow : Bool) (crc : Nat) : State :=
  let s := s.absEnd n
  let bits := s.fld (F.ABS_CTL_BITS n)
  let pos := raw % 2 ^ bits
  if s.fld (F.ABS_CTL_PROTO n) = 3 then
    if crc != bissCrc bits pos errLow warnLow then (s.flag (F.ABS_STAT_CRC_ERR n)).absFail n
    else
      let s := s.putN (R.ABS_POS n) pos
      let s := if errLow then s.flag (F.ABS_STAT_ERR_BIT n) else s
      let s := if warnLow then s.flag (F.ABS_STAT_WARN_BIT n) else s
      if errLow || warnLow then s.absFail n else s.absDone n
  else (s.putN (R.ABS_POS n) (if s.fld (F.ABS_CTL_PROTO n) = 2 then grayToBin bits pos else pos)).absDone n

/-! ### Meanings -/

/-- ENCODER_STEP (R67): a single-line change of A or B is sampled. -/
def execEncoderStep (n : Fin 4) (lineB : Bool) (s : State) : Host.Outcome State Fault Refusal :=
  done s (s.encSample n lineB)

/-- QUADRATURE_ERROR (R69): changes of A and B are accepted in one sample, each a change seen in it or one that waited for the end of
its line's dead time. -/
def execQuadratureError (n : Fin 4) (s : State) : Host.Outcome State Fault Refusal :=
  done s ((s.modEnc n (fun g => { g with sa := !g.a, sb := !g.b, deadA := false, deadB := false })).encAccept n true true)

/-- A change of Z is accepted (R68): a rising edge raises ENCn_IDX and, moving forward, is captured and checked (R75). Captures that ENCn_IDX
activates see the position before a snap of that check (assumption 218). -/
def State.zAccept (s : State) (n : Nat) (change : Bool) : State :=
  if !change then s
  else
    let s := s.modEnc n (fun g => { g with z := !g.z, deadZ := s.fld (F.ENC_CTL_DEAD n) != 0 })
    if (s.encSt n).z && s.bit (F.ENC_CTL_EN n) && s.bit (F.ENC_CTL_IDX_EN n) then
      let s := s.raise [44 + n]
      if s.bit (F.ENC_STAT_DIR n) then s
      else
        let r := s.idxCheck n (s.pos n)
        r.2.raise (if r.1 then [36 + n] else [])
    else s

/-- DEAD_TIME_END (R68): the dead time of a line (0 A, 1 B, 2 Z) ends; a sampled level that still differs is a change of its own. -/
def execDeadTimeEnd (n : Fin 4) (line : Fin 3) (s : State) : Host.Outcome State Fault Refusal :=
  let g := s.encSt n
  if line.val = 2 then
    if g.deadZ then done s ((s.modEnc n (fun g => { g with deadZ := false })).zAccept n (g.sz != g.z)) else done s s
  else if line.val = 1 then
    if g.deadB then done s ((s.modEnc n (fun g => { g with deadB := false })).encAccept n false (g.sb != g.b)) else done s s
  else
    if g.deadA then done s ((s.modEnc n (fun g => { g with deadA := false })).encAccept n (g.sa != g.a) false) else done s s

/-- STANDSTILL (R74). -/
def execStandstill (n : Fin 4) (s : State) : Host.Outcome State Fault Refusal :=
  if s.bit (F.ENC_CTL_EN n) && s.fld (F.ENC_CTL_STILL_TO n) != 0 && !s.bit (F.ENC_STAT_STILL n) then
    let s' := (s.modEnc n (fun g => { g with hist := [], last := none })).flag (F.ENC_STAT_STILL n)
    done s ((s'.putN (R.ENC_PERIOD n) 0xFFFFFFFF).raise [40 + n])
  else done s s

/-- INDEX_EDGE (R68, R75): the sampled level of Z; a change in Z's dead time is not accepted. -/
def execIndexEdge (n : Fin 4) (level : Bool) (s : State) : Host.Outcome State Fault Refusal :=
  let g := s.encSt n
  done s ((s.modEnc n (fun g => { g with sz := level })).zAccept n (!g.deadZ && level != g.z))

/-- The delay D of unit `u`'s delayed hit expires (R80). -/
def State.cuExpire (s : State) (u : Nat) : Bool × State :=
  let pos := s.pos (s.fld (F.CU_CTL_CHAN u))
  if (s.cuSt u).delayed && s.bit (F.CU_CTL_EN u) then (true, s.cuHit u pos (s.cuLim u pos) false) else (false, s)

/-- A point loaded in a cycle in which unit `u` had taken a hit is met (R81). -/
def State.cuDeferred (s : State) (u : Nat) : Bool × State :=
  if (s.cuSt u).deferred && s.bit (F.CU_CTL_EN u) then
    let pos := s.pos (s.fld (F.CU_CTL_CHAN u))
    let s' := s.modCu u (fun c => { c with deferred := false })
    if s.bit (F.CU_CTL_MODE u) && !(s.cuSt u).evArm then (false, s'.cuSkip u (ptReached (s.cuN u) (s.cuLim u pos) (s.cuS u)))
    else (true, s'.cuHit u pos (s.cuLim u pos) false)
  else (false, s)

/-- Units whose hits fall in one cycle; what they raise reaches the matrix together (R94, R97). -/
def State.cuTogether (s : State) (f : State → Nat → Bool × State) (us : List Nat) : State :=
  let r := us.foldl (fun acc u =>
    let e := f acc.2 u
    (if e.1 then acc.1 ++ [u] else acc.1, e.2)) ([], s)
  r.2.raise r.1

/-- INTERPOLATED_HIT (R80): the delays of the units' hits expire in one cycle. -/
def execInterpolatedHit (us : List (Fin 32)) (s : State) : Host.Outcome State Fault Refusal := done s (s.cuTogether State.cuExpire (us.map (·.val)))

/-- DEFERRED_HIT (R81): the units' loaded points, in one cycle. -/
def execDeferredHit (us : List (Fin 32)) (s : State) : Host.Outcome State Fault Refusal := done s (s.cuTogether State.cuDeferred (us.map (·.val)))

/-- A write of CUnn_SPACING (R78, R79). -/
def State.cuSpacing (s : State) (u v : Nat) : State :=
  let hi := (s.cuSt u).hiHold.getD (s.fld (F.CU_SPACING_HI_S_HI u))
  if s.bit (F.CU_CTL_JOB u) || (hi = 0 && v < 65536) then s.status 0x40
  else (((s.putN (R.CU_SPACING u) v).setFld (F.CU_SPACING_HI_S_HI u) hi).modCu u (fun c => { c with hiHold := none })).status 0

/-- CU_SPACING_WRITE (R78): a write of CUnn_SPACING takes any held high half with it; below 1.0 count it is refused. -/
def execCuSpacingWrite (u : Fin 32) (val : Word) (s : State) : Host.Outcome State Fault Refusal :=
  done s (s.cuSpacing u val.toNat)

/-- A write of CUnn_SPACING_HI (R78, R79). -/
def State.cuSpacingHi (s : State) (u v : Nat) : State :=
  if s.bit (F.CU_CTL_JOB u) then s.status 0x40
  else (s.modCu u (fun c => { c with hiHold := some (v % 2 ^ 15) })).status 0

/-- A write of CUnn_CTL (R78, R82, R93): CHAN, MODE and INTERP only while EN is 0, MODE 1 only on CU16 to CU31. -/
def State.cuCtl (s : State) (u v : Nat) : State :=
  let old := s.rdN (R.CU_CTL u)
  let en := bitN v 0
  if (bitN old 0 && fieldN v 1 4 != fieldN old 1 4) || (bitN v 3 && u < 16) then s.status 0x40
  else
    let move := fieldN v 1 2 != fieldN old 1 2
    let s := (s.putN (R.CU_CTL u) (old / 32 * 32 + v % 32)).status 0
    if en && bitN old 0 then s
    else s.modCu u (fun c => { c with evArm := false, delayed := false, deferred := false,
                                      rev := if move then none else c.rev })

/-- A write of CUnn_NEXT_INT or CUnn_NEXT_FRAC (R78, R79): only while EN is 0 and the unit is not the JOB's. -/
def State.cuNext (s : State) (u : Nat) (frac : Bool) (v : Nat) : State :=
  if s.bit (F.CU_CTL_EN u) || s.bit (F.CU_CTL_JOB u) then s.status 0x40
  else (s.putN (if frac then R.CU_NEXT_FRAC u else R.CU_NEXT_INT u) (if frac then v % 65536 else v)).status 0

/-- A write of ENCn_CTL (R75, R89): IDX_EN needs an IDX_PERIOD of at least 16; clearing it forgets the reference. -/
def State.encCtl (s : State) (n v : Nat) : State :=
  if bitN v 3 && s.rdN (R.ENC_IDX_PERIOD n) < 16 then s.status 0x40
  else
    let s := (s.putN (R.ENC_CTL n) (s.rdN (R.ENC_CTL n) % 8 + v / 8 % 4 * 8 + v / 256 * 256)).status 0
    if bitN v 3 then s else s.setFld (F.ENC_STAT_IDX_REF n) 0

/-- CU_SPACING_HI_WRITE (R78): the write is held until the next write of CUnn_SPACING. -/
def execCuSpacingHiWrite (u : Fin 32) (val : Word) (s : State) : Host.Outcome State Fault Refusal :=
  done s (s.cuSpacingHi u val.toNat)

/-- ABS_TIMER_START (R86): the TIMER period expires; a start while a cycle is under way is a busy-consumer event. -/
def execAbsTimerStart (n : Fin 2) (s : State) : Host.Outcome State Fault Refusal :=
  if s.fld (F.ABS_CTL_TIMER n) = 0 ∨ s.fld (F.ABS_CTL_PROTO n) = 0 then done s s
  else if (vget s.absIn n { busy := false }).busy then
    done s ((s.flag (F.EVT_CFG_OVR (48 + n))).incWrap (F.EVT_LOSS_OVR_CNT (48 + n)))
  else done s (s.absStart n)

/-- ABS_CYCLE_DONE (R86). -/
def execAbsCycleDone (n : Fin 2) (raw : Word) (errLow warnLow : Bool) (crc : BitVec 6) (s : State) :
    Host.Outcome State Fault Refusal :=
  if (vget s.absIn n { busy := false }).busy then done s (s.absCycle n raw.toNat errLow warnLow crc.toNat) else done s s

/-- ABS_START_TIMEOUT (R86): no start bit within 20 µs. -/
def execAbsStartTimeout (n : Fin 2) (s : State) : Host.Outcome State Fault Refusal :=
  if (vget s.absIn n { busy := false }).busy then done s (((s.absEnd n).flag (F.ABS_STAT_TIMEOUT n)).absFail n) else done s s

/-- Accept the level of a switch's run (R87). -/
def State.swAccept (s : State) (n : Nat) : State :=
  match (vget s.sw n { run := none }).run with
  | none => s
  | some (lv, pos) =>
    let s := { s with sw := vput s.sw n { run := none } }
    let s := (s.putN (R.SW_CAP n) pos).setBit ⟨R.SW_STAT, n, 1⟩ lv
    (s.flag ⟨R.SW_STAT, 8 + n, 1⟩).raise [if lv then 48 + n else 56 + n]

/-- The sampled level of a switch input, after inversion: a level that differs from the accepted one starts its run (R87). -/
def State.swSample (s : State) (n : Nat) (lv : Bool) : State :=
  let run := (vget s.sw n { run := none }).run
  if lv = bitN (s.fld F.SW_STAT_LEVEL) n then { s with sw := vput s.sw n { run := none } }
  else if run.isSome then s
  else
    let s' := { s with sw := vput s.sw n { run := some (lv, s.pos (s.fld F.SW_CTL_CHAN)) } }
    if s.fld F.SW_CTL_DEB = 0 then s'.swAccept n else s'

/-- SWITCH_INPUT_CHANGE (R87): an input's sampled pin level. -/
def execSwitchInputChange (n : Fin 8) (pin : Bool) (s : State) : Host.Outcome State Fault Refusal :=
  done s (s.swSample n (pin != bitN (s.fld F.SW_CTL_INV) n))

/-- A write of SW_CTL: an input whose INV bit changes is sampled at its other level (R87). -/
def State.swCtl (s : State) (v : Nat) : State :=
  let d := v % 256 ^^^ s.fld F.SW_CTL_INV
  let lv := fun n => match (vget s.sw n { run := none }).run with
    | some (l, _) => !l
    | none => !bitN (s.fld F.SW_STAT_LEVEL) n
  let s' := (s.putN R.SW_CTL (v % 2 ^ 18)).status 0
  (List.range 8).foldl (fun s n => if bitN d n then s.swSample n (lv n) else s) s'

/-- SWITCH_ACCEPT (R87): a level has held for the debounce time. -/
def execSwitchAccept (n : Fin 8) (s : State) : Host.Outcome State Fault Refusal := done s (s.swAccept n)

end Sys2Proof.Machine
end

