-- ==== Sys2Proof/Machine/Flt.lean ====
section
/-!
DEFINITION. FLT: fatal faults (R427), the pair protocol (R428 to R437), shadow compare (R438, R439), resynchronisation (R440 to
R443), and the forming of a stitched line, at whose block boundary the reseed takes effect.
-/
namespace Sys2Proof.Machine

/-! ### Small parts -/

/-- Change FLT's hidden state. -/
def State.modFlt (s : State) (f : FltS → FltS) : State := { s with flt := f s.flt }

/-- Change the resynchronisation under way. -/
def State.modResync (s : State) (f : ResyncS → ResyncS) : State := s.modFlt (fun x => { x with resync := f x.resync })

/-- No resynchronisation. -/
def ResyncS.none : ResyncS :=
  { phase := 0, tcap := 0, pos := [], half := [], points := [], b0 := 0, refPt := 0, refCu := 0, blk := 0, seed := Option.none }

/-- The device is primary. -/
def State.primary (s : State) : Bool := s.bit F.FLT_PAIR_STAT_ROLE

/-- The device is SYNCED. -/
def State.synced (s : State) : Bool := s.fld F.FLT_PAIR_STAT_SYNC == 2

/-- The port that joins the pair (R428). -/
def State.pairPort (s : State) : Nat := s.fld F.FLT_PAIR_CFG_PORT

/-- The claim number of a GEN (R431). -/
def State.claimOf (s : State) (gen : Nat) : Nat := 2 * gen + s.fld F.FLT_PAIR_CFG_RANK

/-- GEN changes, and the claim number and the claim line with it (R431, R434). -/
def State.setGen (s : State) (gen : Nat) : State :=
  ((s.modFlt (fun x => { x with gen := gen })).setFld F.FLT_PAIR_STAT_OWN_C (s.claimOf gen)).claimLine

/-- A FAULT record of the pair (R446). -/
def State.pairFault (s : State) (cause : Nat) (w5 w6 : Nat := 0) : State :=
  s.fault 0x0A cause 0 (w5 := w5) (w6 := w6) (w7 := s.fld F.FLT_PAIR_STAT_MISSED)

/-- A control frame on the pair's port while its link is up. -/
def State.pairCtrl (s : State) (ty : Nat) (payload : List Byte) : State :=
  if s.npUp s.pairPort then s.nimCtrl s.pairPort ty payload else s

/-- The port's neighbour, whose device ID its IDENT gave. -/
def State.partnerId (s : State) : Nat := s.fld (F.NP_STAT_PEER_ID s.pairPort)

/-- Credited SHADOW frames to the partner (R438). -/
def State.shadowSend (s : State) (data : List Byte) : State :=
  if s.npUp s.pairPort then
    s.sendFrameNp s.pairPort { ty := 0x08, vc := 3, dst := s.partnerId, src := s.devId, data := data }
  else s

/-- A long SHADOW unit: pieces of at most 246 bytes, each behind its kind and number; the last is padded to whole blocks (R127,
assumption 116). -/
def State.shadowUnit (s : State) (kind : Nat) (bytes : List Byte) : State :=
  (List.range (ceilDiv bytes.length 246)).foldl (fun s k =>
    s.shadowSend (padTo8 (leBytes 1 kind ++ leBytes 1 k ++ slice bytes (246 * k) 246))) s

/-- Shadow compare ends with the pair's being SYNCED (R438). -/
def State.cmpOff (s : State) : State := s.modFlt (fun x => { x with cmpOn := false, own := [], peer := [] })

/-- A resynchronisation fails (R440): the standby stops its pipeline. -/
def State.resyncFail (s : State) : State :=
  if s.flt.resync.phase = 0 then s
  else if s.primary then s.modResync (fun _ => ResyncS.none)
  else
    let s := (s.modResync (fun _ => ResyncS.none)).setFld F.FLT_PAIR_STAT_SYNC 3
    s.runZero.pairFault 0x08

/-! ### Heartbeats (R429, R430) -/

/-- Payload of the heartbeat the device sends now (R429). -/
def State.heartbeatBytes (s : State) : List Byte :=
  let req := s.fld F.FLT_PAIR_STAT_SYNC == 1
  let fl := b2n s.flt.handover + 2 * b2n s.synced + 4 * b2n req + 8 * b2n (s.bit F.FLT_STAT_DEGRADED)
  leBytes 1 (b2n s.primary) ++ leBytes 1 fl ++ leBytes 1 (s.fld F.FLT_PAIR_STAT_OWN_C) ++ leBytes 1 s.flt.hbSeq
    ++ leBytes 4 (s.rdN R.CFG_STRUCT_ID) ++ leBytes 2 (s.jobId s.runBank) ++ leBytes 2 (s.fld F.CFG_SWAP_CNT_CNT)
    ++ leBytes 4 (s.rdN R.TOP_READY) ++ leBytes 8 (if req then s.flt.resync.tcap else 0) ++ zeros 8

/-- HEARTBEAT_SEND (R429): each 20 µs, while paired and free of fatal faults. After a heartbeat with HANDOVER the device is standby
and stays SYNCED, as the partner reported the pair to be (R437). -/
def execHeartbeatSend (s : State) : Host.Outcome State Fault Refusal :=
  if !s.bit F.FLT_PAIR_CFG_PAIR_EN || s.bit F.FLT_STAT_FATAL then done s s
  else
    let s' := (s.emit .heartbeat).pairCtrl 0x03 s.heartbeatBytes
    let s' := s'.modFlt (fun x => { x with hbSeq := (x.hbSeq + 1) % 256, handover := false })
    done s (if s.flt.handover then ((s'.setGen 0).setFld F.FLT_PAIR_STAT_ROLE 0).setFld F.FLT_PAIR_STAT_SYNC 2 else s')

/-- A standby claims (R434): withheld where it is not SYNCED, unless CLAIM_UNSYNC is set, and always after a demotion until it is
resynchronised (R436). -/
def State.claim (s : State) : State :=
  if s.flt.demoted || !(s.synced || s.bit F.FLT_PAIR_CFG_CLAIM_UNSYNC) then s.pairFault 0x07
  else
    let old := s.fld F.FLT_PAIR_STAT_OWN_C
    let s := (s.setGen (min 127 (1 + s.flt.peerGen))).flag F.FLT_PAIR_STAT_ROLE
    let s := s.pairCtrl 0x04 (leBytes 1 (s.fld F.FLT_PAIR_STAT_OWN_C) ++ leBytes 1 old ++ zeros 6)
    let s := s.frostOn.incCnt F.FLT_HB_CNT_CLAIM_CNT F.FLT_HB_CNT_SAT
    (s.modFlt (fun x => { x with own := [], peer := [] })).pairFault 0x02

/-- What a HEARTBEAT frame tells (R430, R434, R438, R440): a gap in HB_SEQ is a lost heartbeat, and a primary whose partner is no longer SYNCED
ends shadow compare. -/
def State.heartbeatFrame (s : State) (f : List Byte) : State :=
  let fl := leVal (slice f 1 1)
  let seq := leVal (slice f 3 1)
  let gap := s.flt.peerSeq.any (fun q => seq != (q + 1) % 256)
  let s := if s.primary && bitN s.flt.peerFl 1 && !bitN fl 1 then s.cmpOff else s
  let s := s.modFlt (fun x => { x with peerGen := leVal (slice f 2 1) / 2, peerFl := fl, peerSeq := some seq })
  let s := if gap then s.resyncFail else s
  let differs := leVal (slice f 4 4) != s.rdN R.CFG_STRUCT_ID || leVal (slice f 8 2) != s.jobId s.runBank
  let s := if !s.primary && differs then
      if s.fld F.FLT_PAIR_STAT_SYNC = 1 then (s.pairFault 0x06).resyncFail
      else (s.cmpOff.setFld F.FLT_PAIR_STAT_SYNC 0).pairFault 0x06
    else s
  let t := leVal (slice f 16 8)
  let s := if s.primary && bitN fl 2 && (s.flt.resync.phase == 0 || s.flt.resync.tcap != t) then
      s.modResync (fun _ => { ResyncS.none with phase := 5, tcap := t })
    else s
  if bitN fl 0 && !s.primary then s.claim else s

/-- HEARTBEAT_RECEIVED (R430): a pulse on PAIR_HBI, or a HEARTBEAT frame with its payload, which may acknowledge (R130). Without pairing a
heartbeat means nothing (R428). -/
def execHeartbeatReceived (frame : Option (List Byte × Option (BitVec 12))) (s : State) : Host.Outcome State Fault Refusal :=
  let s' := match frame with
    | some f => s.npAck s.pairPort f.2
    | none => s
  if !s.bit F.FLT_PAIR_CFG_PAIR_EN then done s s'
  else
    let s' := (s'.setFld F.FLT_PAIR_STAT_MISSED 0).modFlt (fun x => { x with heard := true, hbT := s.evtNow })
    match frame with
    | none => done s s'
    | some f => done s (s'.heartbeatFrame f.1)

/-- PARTNER_LOST (R430): 100 µs without a heartbeat. -/
def execPartnerLost (s : State) : Host.Outcome State Fault Refusal :=
  if !s.bit F.FLT_PAIR_CFG_PAIR_EN || s.fld F.FLT_PAIR_STAT_MISSED == 5 then done s s
  else
    let s' := (s.cmpOff.setFld F.FLT_PAIR_STAT_MISSED 5).modFlt (fun x => { x with heard := false, peerSeq := none })
    let s' := (s'.incCnt F.FLT_HB_CNT_LOST_CNT F.FLT_HB_CNT_SAT).pairFault 0x01
    let s' := s'.resyncFail
    done s (if s.primary then s' else s'.claim)

/-- The heartbeat timer in periods while no command waits (R430); the fifth is PARTNER_LOST's. In the second a heartbeat is lost, and a
resynchronisation under way fails (R440, assumption 234). -/
def State.fltTick (s : State) : State :=
  if s.bit F.FLT_PAIR_CFG_PAIR_EN && s.fld F.FLT_PAIR_STAT_MISSED < 5 then
    let k := min 4 ((s.evtNow - s.flt.hbT) / 16000)
    let s := s.setFld F.FLT_PAIR_STAT_MISSED k
    if 2 ≤ k then s.resyncFail else s
  else s

/-! ### Claims (R431 to R437) -/

/-- CLAIM_FRAME (R434): the frame names the partner's new and old claim numbers; the spec gives their receipt no effect, since the claim is
read on DCL_RD (R436). It may acknowledge (R130). -/
def execClaimFrame (_newC _oldC : BitVec 8) (ack : Option (BitVec 12)) (s : State) : Host.Outcome State Fault Refusal :=
  done s (s.npAck s.pairPort ack)

/-- FROST_END (R435): 100 µs after a claim; a fatal fault keeps the device in frost hold (R427). -/
def execFrostEnd (s : State) : Host.Outcome State Fault Refusal :=
  if s.bit F.FLT_STAT_FATAL then done s s else done s (s.setFld F.FLT_STAT_FROST 0)

/-- The claim number of a word with sync and check (R432). -/
def claimWord (w : Nat) : Option Nat :=
  let c := fieldN w 4 8
  if fieldN w 12 4 = 0xA ∧ fieldN w 0 4 = Nat.xor (Nat.xor (c / 16) (c % 16)) 5 then some c else none

/-- DCL_RD_WORD (R432, R434): the partner's claim line gives a word, or none. -/
def execDclRdWord (w : Option (BitVec 16)) (s : State) : Host.Outcome State Fault Refusal :=
  match w.bind (fun x => claimWord x.toNat) with
  | some c => done s ((s.flag F.FLT_PAIR_STAT_PEER_VALID).setFld F.FLT_PAIR_STAT_PEER_C c)
  | none => done s (s.setFld F.FLT_PAIR_STAT_PEER_VALID 0)

/-- DEMOTE (R436). -/
def execDemote (s : State) : Host.Outcome State Fault Refusal :=
  let c := s.fld F.FLT_PAIR_STAT_PEER_C
  if s.primary && s.bit F.FLT_PAIR_STAT_PEER_VALID && 2 ≤ c && s.fld F.FLT_PAIR_STAT_OWN_C < c then
    let s' := ((s.setGen 0).setFld F.FLT_PAIR_STAT_ROLE 0).setFld F.FLT_PAIR_STAT_SYNC 0
    done s ((s'.cmpOff.modFlt (fun x => { x with demoted := true, handover := false, resync := ResyncS.none })).pairFault 0x03)
  else done s s

/-- GEN_LOWER (R431): the partner's claim word has read GEN 0 for 1 ms. -/
def execGenLower (s : State) : Host.Outcome State Fault Refusal :=
  if s.primary && 1 < s.flt.gen && s.bit F.FLT_PAIR_STAT_PEER_VALID && s.fld F.FLT_PAIR_STAT_PEER_C < 2 then done s (s.setGen 1)
  else done s s

/-- FLT_PAIR_CMD = PROMOTE (R437). -/
def State.promote (s : State) : State :=
  if !s.primary && !(s.bit F.FLT_PAIR_STAT_PEER_VALID && 2 ≤ s.fld F.FLT_PAIR_STAT_PEER_C)
  then ((s.setGen 1).flag F.FLT_PAIR_STAT_ROLE).status 0 else s.status 0x40

/-- FLT_PAIR_CMD = HANDOVER (R437). -/
def State.handover (s : State) : State :=
  if s.primary && bitN s.flt.peerFl 1 then (s.modFlt (fun x => { x with handover := true })).status 0 else s.status 0x40

/-- FLT_PAIR_CMD = RESYNC (R437, R440 step 1). -/
def State.resyncAsk (s : State) : State :=
  if !s.primary && s.bit F.CFG_STAT_PIPE_STOPPED && s.flt.heard then
    ((s.setFld F.FLT_PAIR_STAT_SYNC 1).modResync (fun _ =>
      { ResyncS.none with phase := 1, tcap := (s.ns + 1000000) % 2 ^ 64 })).status 0
  else s.status 0x40

/-- A write of FLT_PAIR_CMD (R437). -/
def State.pairCmd (s : State) (cmd : Nat) : State :=
  if cmd = 1 then s.promote else if cmd = 2 then s.handover else if cmd = 3 then s.resyncAsk else s.status 0

/-- A write of FLT_PAIR_CFG, only while the pipeline is stopped (R428). -/
def State.pairCfg (s : State) (v : Nat) : State :=
  if s.bit F.CFG_STAT_PIPE_STOPPED then
    (((if bitN v 0 then s else s.cmpOff).setFld ⟨R.FLT_PAIR_CFG, 0, 4⟩ v).setGen s.flt.gen).status 0
  else s.status 0x40

/-- PROMOTE (R437). -/
def execPromote (s : State) : Host.Outcome State Fault Refusal := done s s.promote

/-- HANDOVER (R437). -/
def execHandover (s : State) : Host.Outcome State Fault Refusal := done s s.handover

/-- RESYNC (R437, R440). -/
def execResync (s : State) : Host.Outcome State Fault Refusal := done s s.resyncAsk

/-! ### Shadow compare (R438, R439) -/

/-- The record words that are compared (R438). -/
def comparedWords : List Nat := [0, 1, 2, 4, 5, 6, 7, 8, 9, 10, 14]

/-- A word as it is compared: bits 26 and 27 of word 0 are masked. -/
def cmpWord (r : List Nat) (k : Nat) : Nat :=
  let w := r.getD k 0
  if k = 0 then w - (if bitN w 26 then 2 ^ 26 else 0) - (if bitN w 27 then 2 ^ 27 else 0) else w

/-- Two records are of one type and one object. -/
def sameRec (a b : List Nat) : Bool := a.getD 0 0 % 256 == b.getD 0 0 % 256 && recObj a == recObj b

/-- `k` records without a partner (R439). -/
def State.unmatched (s : State) (k : Nat) : State := s.addCnt F.FLT_SHADOW_CNT_UNMATCHED_CNT F.FLT_SHADOW_CNT_SAT k

/-- A pair is compared (R439). -/
def State.comparePair (s : State) (a b : List Nat) : State :=
  match comparedWords.find? (fun k => cmpWord a k != cmpWord b k) with
  | none => s.incWrap F.FLT_SHADOW_MATCH_MATCH
  | some k => (s.incCnt F.FLT_SHADOW_CNT_MISMATCH_CNT F.FLT_SHADOW_CNT_SAT).pairFault 0x04 (recObj a) k

/-- Pair the records of both sides, oldest first (R439). Where the first two differ in type or object, each side's next 64 are searched
for the other's first; the nearer partner is taken (assumption 117). -/
def comparePairs : Nat → List (List Nat) → List (List Nat) → State → State
  | 0, own, peer, s => s.modFlt (fun x => { x with own := own, peer := peer })
  | f + 1, a :: own, b :: peer, s =>
    if sameRec a b then comparePairs f own peer (s.comparePair a b)
    else
      let i := (peer.take 64).findIdx? (sameRec a)
      let j := (own.take 64).findIdx? (sameRec b)
      let skipPeer := fun (i : Nat) (s : State) => comparePairs f (a :: own) (peer.drop i) (s.unmatched (i + 1))
      let skipOwn := fun (j : Nat) (s : State) => comparePairs f (own.drop j) (b :: peer) (s.unmatched (j + 1))
      match i, j with
      | some i, some j => if i ≤ j then skipPeer i s else skipOwn j s
      | some i, none => skipPeer i s
      | none, some j => skipOwn j s
      | none, none =>
        if peer.length < 64 ∨ own.length < 64 then s.modFlt (fun x => { x with own := a :: own, peer := b :: peer })
        else comparePairs f own peer (s.unmatched 2)
  | _ + 1, own, peer, s => s.modFlt (fun x => { x with own := own, peer := peer })

/-- The primary's kept records leave in groups of four (R438). -/
def sendRecords : Nat → State → State
  | 0, s => s
  | f + 1, s =>
    if s.flt.own.isEmpty then s
    else
      let g := s.flt.own.take 4
      sendRecords f ((s.modFlt (fun x => { x with own := x.own.drop 4 })).shadowSend (g.flatMap wordsBytes))

/-- Records formed since: the primary sends them, the standby compares them (R438). -/
def State.shadowStep (s : State) : State :=
  if !s.flt.cmpOn || s.flt.own.isEmpty then s
  else if s.primary then sendRecords s.flt.own.length s
  else if s.synced then comparePairs (s.flt.own.length + s.flt.peer.length) s.flt.own s.flt.peer s
  else s.modFlt (fun x => { x with own := [] })

/-- The standby takes the records of the primary that are compared; beyond 1,024 the oldest is UNMATCHED (R438, R439). -/
def State.shadowTake (s : State) (rs : List (List Nat)) : State :=
  if s.primary || !s.synced || !s.flt.cmpOn then s
  else
    let all := s.flt.peer ++ rs.filter s.compared
    let excess := all.length - 1024
    let s := (s.modFlt (fun x => { x with peer := all.drop excess })).unmatched excess
    comparePairs (s.flt.own.length + s.flt.peer.length) s.flt.own s.flt.peer s

/-- Bytes of a reseed unit (assumption 116). -/
def Reseed.toBytes (r : Reseed) : List Byte :=
  leBytes 8 r.objNext
    ++ r.seams.flatMap (fun e => leBytes 2 (wrapTo 16 e.1) ++ leBytes 2 (wrapTo 16 e.2))
    ++ leBytes 2 r.tiles.length ++ r.tiles.flatMap (fun t => leBytes 2 t.1 ++ leBytes 4 t.2.toNat)
    ++ leBytes 2 r.tks.length ++ r.tks.flatMap (fun t => leBytes 1 t.1 ++ leBytes 2 t.2.1 ++ leBytes 1 t.2.2)

/-- The reseed a SHADOW frame carries. -/
def shadowSeed (objNext : BitVec 40) (seams : List (BitVec 16 × BitVec 16)) (tiles : List (Fin 768 × Word))
    (tks : List (Fin 8 × BitVec 12 × Fin 3)) : Reseed :=
  { objNext := objNext.toNat, seams := seams.map (fun e => (e.1.toInt, e.2.toInt)), tiles := tiles.map (fun t => (t.1.val, t.2)),
    tks := tks.map (fun t => (t.1.val, t.2.1.toNat, t.2.2.val)) }

/-- Payload bytes of a SHADOW frame. -/
def shadowBytes : Shadow → List Byte
  | .records rs => rs.flatMap (fun r => wordsBytes (r.map (·.toNat)))
  | .reseed o e t k => (leBytes 1 0xF1 ++ leBytes 1 0 ++ (shadowSeed o e t k).toBytes)

/-- What an accepted SHADOW frame of the pair's port does (R438, R440 step 6). -/
def State.shadowBody (s : State) : Shadow → State
  | .records rs => s.shadowTake (rs.map (fun r => r.map (·.toNat)))
  | .reseed o e t k =>
    if !s.primary && (s.flt.resync.phase == 3 || s.flt.resync.phase == 4) then
      s.modResync (fun r => { r with seed := some (shadowSeed o e t k) })
    else s

/-- SHADOW_FRAME (R127, R130, R438). A reseed unit comes as one command however many frames carry it. -/
def execShadowFrame (p : Fin 4) (dst src : BitVec 18) (seq : BitVec 12) (ack : Option (BitVec 12)) (fcrcOk : Bool) (body : Shadow)
    (s : State) : Host.Outcome State Fault Refusal :=
  let bs := shadowBytes body
  let r := s.npAccept p 3 seq.toNat ack fcrcOk (min 256 bs.length)
  if !r.1 then done s r.2
  else if r.2.ownDst dst.toNat then
    done s (if s.bit F.FLT_PAIR_CFG_PAIR_EN && p.val == s.pairPort then r.2.shadowBody body else r.2)
  else done s (r.2.forward p { ty := 0x08, vc := 3, dst := dst.toNat, src := src.toNat, data := bs })

/-- SHADOW_UNMATCHED_TIMEOUT (R439): the oldest record of one side is unpaired for 10 ms. -/
def execShadowUnmatchedTimeout (own : Bool) (s : State) : Host.Outcome State Fault Refusal :=
  let l := if own then s.flt.own else s.flt.peer
  if s.primary || l.isEmpty then done s s
  else
    let s' := s.modFlt (fun x => if own then { x with own := x.own.drop 1 } else { x with peer := x.peer.drop 1 })
    done s (s'.unmatched 1)

/-! ### Resynchronisation (R440 to R442) -/

/-- Enabled compare units. -/
def State.enabledUnits (s : State) : List Nat := (List.range 32).filter (fun u => s.bit (F.CU_CTL_EN u))

/-- The reference unit: the lowest enabled source of the reference camera's trigger consumer (assumption 115). -/
def State.refUnit (s : State) : Nat := (s.enabledUnits.find? (fun u => bitN (s.rdN (R.EVT_SRC0 s.refCam)) u)).getD 0

/-- Largest STAG of the leading cameras in use. -/
def State.maxStag (s : State) : Nat :=
  (s.group.filter (fun c => s.leading c)).foldl (fun m c => max m (s.fld (F.STI_CAM_GEOM_STAG c))) 0

/-- B_R for a B_0 (R442). -/
def State.reseedBlk (s : State) (b0 : Nat) : Nat := b0 + ceilDiv (s.maxStag + 64) 256 + 1

/-- FLT_SYNC_BLK shows B_R (R442). -/
def State.showBlk (s : State) (blk : Nat) : State := s.setFld F.FLT_SYNC_BLK_B_R blk

/-- The captures of step 2 (R440). -/
def State.captures (s : State) : ResyncS :=
  { s.flt.resync with
    pos := (List.range 4).map s.pos, half := (List.range 4).map (fun n => s.fld (F.ENC_EPOCH_HALF n)),
    points := s.enabledUnits.map (fun u => (u, s.cuN u)) }

/-- Bytes of the unit of step 3 behind its first two (R440, assumption 116). -/
def State.captureBytes (s : State) (r : ResyncS) : List Byte :=
  r.pos.flatMap (leBytes 4) ++ r.half.flatMap (leBytes 2) ++ leBytes 1 r.points.length
    ++ r.points.flatMap (fun p => leBytes 1 p.1 ++ leBytes 6 p.2) ++ leBytes 4 (s.rdN R.SEG_REPEAT_ORG)
    ++ (List.range 8).flatMap (fun n => leBytes 4 (s.rdN (R.HP_LS n)))
    ++ (List.range 8).flatMap (fun n => leBytes 4 (s.prtS n).lbl)
    ++ leBytes 3 r.b0 ++ leBytes 6 r.refPt ++ leBytes 1 r.refCu

/-- RESYNC_CAPTURE (R440 steps 2 and 3): the first edge with TS ≥ T_CAP. On the primary `b0` is its first block that starts at least
1 ms later. -/
def execResyncCapture (b0 : BitVec 24) (s : State) : Host.Outcome State Fault Refusal :=
  let r := s.captures
  if s.ns < r.tcap then done s s
  else if r.phase = 1 then done s (s.modResync (fun _ => { r with phase := 2 }))
  else if r.phase = 5 then
    let u := s.refUnit
    let b := b0.toNat
    let pt := wrapTo 48 ((s.cuN u : Int) + ((256 * b : Nat) - (s.sti.refNext : Int)) * (s.cuS u : Nat))
    let r := { r with phase := 6, b0 := b, refPt := pt, refCu := u, blk := s.reseedBlk b }
    done s (((s.modResync (fun _ => r)).showBlk r.blk).shadowUnit 0xF0 (s.captureBytes r))
  else done s s

/-- A channel is aligned by d (R441). Answers whether ENCn_EPOCH is raised. -/
def State.alignEnc (s : State) (n : Nat) (d : Int) (half : Nat) : Bool × State :=
  let r := s.snapMove n (-d)
  (r.1, r.2.setFld (F.ENC_EPOCH_HALF n) half)

/-- A unit takes the primary's point, advanced by whole spacings beyond its position (R441). -/
def State.alignUnit (s : State) (u pt : Nat) : State :=
  if !s.bit (F.CU_CTL_EN u) then s
  else
    let k := ptReached pt (s.cuLim u (s.pos (s.fld (F.CU_CTL_CHAN u)))) (s.cuS u)
    (s.setCuN u ((pt + k * s.cuS u) % 2 ^ 48)).modCu u (fun c => { c with rev := none, delayed := false, deferred := false })

/-- A port takes the primary's label state, advanced to its unit's point (R252, R441). -/
def State.alignPort (s : State) (n ls lbl : Nat) : State :=
  let rep := match s.job s.runBank with
    | some j => max 1 j.repeatLen
    | none => 1
  match s.prtEntry s.runBank n with
  | none => ((s.putN (R.HP_LS n) ls).modPrt n (fun p => { p with lbl := lbl })).updHp n
  | some e =>
    let i := identify s.runBank ls lbl rep (s.cuN e.cu) (max 1 (s.cuS e.cu))
    ((s.putN (R.HP_LS n) i.2.1).modPrt n (fun p => { p with lbl := i.2.2 })).updHp n

/-- RESYNC_ALIGN (R441): step 3's unit reaches the standby. -/
def execResyncAlign (c : Captures) (s : State) : Host.Outcome State Fault Refusal :=
  let q := s.flt.resync
  if q.phase ≠ 2 then done s s
  else
    let r := (List.range 4).foldl (fun (acc : List Nat × State) n =>
      let d := ((c.pos.getD n 0).toNat : Int) - (q.pos.getD n 0 : Nat)
      let e := acc.2.alignEnc n d (c.half.getD n 0).toNat
      (if e.1 then acc.1 ++ [36 + n] else acc.1, e.2)) ([], s)
    let s' := c.points.foldl (fun s p => s.alignUnit p.1 p.2.toNat) r.2
    let s' := (List.range 8).foldl (fun s n => s.alignPort n (c.ls.getD n 0).toNat (c.lbl.getD n 0).toNat) s'
    let s' := (s'.setOrg s'.runBank c.org.toNat).pruneAll
    let b := c.b0.toNat
    let s' := s'.modResync (fun r => { r with phase := 3, b0 := b, refPt := c.refPt.toNat, refCu := c.refCu, blk := s'.reseedBlk b })
    done s ((s'.showBlk (s'.reseedBlk b)).raise r.1)

/-- RESYNC_TIMEOUT (R440): step 3 or step 6 has not arrived 20 ms after it was due. -/
def execResyncTimeout (s : State) : Host.Outcome State Fault Refusal :=
  let r := s.flt.resync
  if s.primary ∨ r.phase = 2 ∨ ((r.phase = 3 ∨ r.phase = 4) ∧ r.seed = none) then done s s.resyncFail else done s s

/-- The values of step 6 (R440, R442). -/
def State.makeSeed (s : State) : Reseed :=
  { objNext := (s.objNext + 2 ^ 24) % 2 ^ 40,
    seams := (List.range 11).map (fun k => (s.seamS k).e),
    tiles := (List.range 768).filterMap (fun t =>
      let w := s.rd (R.SEG_TILE t)
      if w = 0 then none else some (t, w)),
    tks := (List.range 8).flatMap (fun n => (s.prtS n).tk.map (fun t => (n, t.nozzle, t.src))) }

/-- A nozzle with a count is cleared (R442). No block clears it, so the measured words of its record are free values. -/
def State.reseedNozzle (s : State) (n blk : Nat) (e : NzS) : State :=
  let a := s.free
  let b := a.2.free
  let w := a.1.toNat
  let c := (asr (s.nozX n e.nozzle + 32) 6).toNat
  let ws := b.2.nozRec n e.nozzle 3 (2 ^ 20 + 2 ^ 21) 0 e.objId c blk (toSigned 16 w) (w / 65536) (toSigned 16 b.1.toNat)
  (b.2.setNz n e.nozzle none).record 1 ws

/-- The live objects close with CUT on B_R's first line, and SEG_OBJ_NEXT takes V (R442). While blocks before B_R are still to be resolved, the
objects stay live for them: they close when B_R is reached, and what those blocks find goes on from the numbers before V (assumption 234). -/
def State.reseedObjs (s : State) (v blk : Nat) : State :=
  let old := s.objNext
  let s := s.setObjNext v
  if s.seg.nextBlk < blk then { s with seg := { s.seg with cutAt := some (blk, old) } }
  else
    let s := (byId (s.seg.objs.map (fun o => (o, ())))).foldl (fun s e => (s.objRecord { e.1 with cut := true } .closed).2) s
    { (s.setObjs []) with seg := { (s.setObjs []).seg with crops := [] } }

/-- The reseed before the first line of B_R: objects, seams, tiles, takeover tables (R442). -/
def State.reseed (s : State) (r : Reseed) (blk : Nat) : State :=
  let s := s.reseedObjs r.objNext blk
  let s := (List.range 11).foldl (fun s k => s.modSeam k (fun g => { g with seed := some (r.seams.getD k (0, 0)) })) s
  let s := r.tiles.foldl (fun s t => s.put (R.SEG_TILE t.1) t.2) s.clearTiles
  (List.range 8).foldl (fun s n =>
    let old := (s.prtS n).tk
    let l := (r.tks.filter (fun t => t.1 == n)).map (fun t =>
      match old.find? (fun o => o.nozzle == t.2.1) with
      | some o => { o with src := t.2.2, e := 0, p := 0 }
      | none => { nozzle := t.2.1, src := t.2.2, e := 0, p := 0, objId := none, last := [] })
    s.setTk n (l.foldl (fun l t => tkInsert t l) [])) s

/-- The reseed on the first line of B_R: nozzle counts, and the pair is in step (R440 step 7, R442). -/
def State.reseedEnd (s : State) (r : Reseed) (blk : Nat) : State :=
  let s := (List.range 8).foldl (fun s n => ((s.prtS n).nz).foldl (fun s e => s.reseedNozzle n blk e) s) s
  let s := s.modFlt (fun x => { x with
    resync := ResyncS.none, own := [], peer := [], cmpOn := true, cmpFrom := r.objNext, demoted := x.demoted && s.primary })
  let s := if s.primary then s else s.setFld F.FLT_PAIR_STAT_SYNC 2
  s.pairFault 0x05 blk

/-- The reseed that takes effect before line `formed`, if any. -/
def State.reseedDue (s : State) : Option Reseed :=
  let r := s.flt.resync
  if s.sti.formed = 256 * r.blk ∧ (r.phase = 4 ∨ r.phase = 6) then r.seed else none

/-- Step 6 on the primary, at the boundary one block before B_R (R440). -/
def State.sendSeed (s : State) : State :=
  let r := s.flt.resync
  if r.phase = 6 ∧ r.seed = none ∧ s.sti.formed + 256 = 256 * r.blk then
    let v := s.makeSeed
    (s.modResync (fun r => { r with seed := some v })).shadowUnit 0xF1 v.toBytes
  else s

/-- STITCH_LINE_FORM (R161, R162, R169, R172): the block boundary before a block's first line, the line, and STI_BLOCK. At B_R the reseed
takes effect on the line (R442). -/
def execStitchLineForm (s : State) : Host.Outcome State Fault Refusal :=
  if !s.mayForm then done s s
  else if s.sti.formed % 256 ≠ 0 then done s s.formLine
  else
    let blk := s.flt.resync.blk
    match s.reseedDue with
    | some r => done s ((((s.reseed r blk).stiBoundary.formLine).reseedEnd r blk).raise [95])
    | none => done s ((s.sendSeed.stiBoundary.formLine).raise [95])

/-! ### Fatal faults (R427) -/

/-- The cause of the fatal fault that holds the device no longer holds (R427). -/
def State.causeGone (s : State) : Bool :=
  let c := s.fld F.FLT_STAT_FATAL_CAUSE
  if c = 1 then s.flt.plls.isEmpty
  else if c = 2 then (List.range 4).all (fun d => !s.has .die d || bitN (s.fld F.TOP_READY_CD) d)
  else if c = 3 then !s.bit F.FLT_STAT_DEGRADED
  else if c = 4 then !s.bit F.CAL_STAT_HOT
  else true

/-- FLT_CTL.RELEASE = 1 (R427). -/
def State.release (s : State) : State :=
  if s.bit F.FLT_STAT_FATAL && !s.bit F.FLT_PAIR_CFG_PAIR_EN && s.causeGone then
    ((s.setFld F.FLT_STAT_FATAL 0).setFld F.FLT_STAT_FROST 0).status 0
  else s.status 0

/-- A write of FLT_CTL (R427, R447). -/
def State.fltCtl (s : State) (v : Nat) : State :=
  let s := s.setFld ⟨R.FLT_CTL, 0, 2⟩ v
  let s := if bitN v 2 then s.fatal 5 else s
  (if bitN v 3 then s.release else s).status 0

/-- A compute die is lost outside Winter: its ready bits fall (R30, R427). -/
def State.dieLost (s : State) (d : Nat) : State :=
  let s := { s with pwr := { s.pwr with powered := s.pwr.powered.filter (· != d) } }
  let s := [2 * d, 2 * d + 1].foldl (fun s n => s.setReady (24 + n) false) (s.setReady (20 + d) false)
  ((List.range 4).foldl (fun s k => s.setFld (F.CAL_TEMP_VALID (4 * d + k)) 0) s).fatal 2

/-- FATAL_FAULT (R427): a PLL loses lock (0 EVT_CLK, 1 FAB_CLK, 2 TS_CLK) or, outside Winter, die `what` − 3 is lost. The other causes are
effects of commands of their own. -/
def execFatalFault (what : Fin 7) (s : State) : Host.Outcome State Fault Refusal :=
  if what.val < 3 then
    let s' := s.modFlt (fun x => { x with plls := what.val :: x.plls.filter (· != what.val) })
    let s' := if what.val = 0 then (s'.setReady 5 false).encReady
      else if what.val = 2 then (s'.setFld F.TIME_STAT_PLL_LOCK 0).setReady 4 false else s'
    done s (s'.fatal 1)
  else
    let d := what.val - 3
    if s.has .die d && s.fld F.PWR_STAT_STATE != 2 && bitN (s.fld F.TOP_READY_CD) d then done s (s.dieLost d) else done s s

/-- FORCE_FATAL (R427). -/
def execForceFatal (s : State) : Host.Outcome State Fault Refusal := done s ((s.fatal 5).status 0)

/-- RELEASE (R427). -/
def execRelease (s : State) : Host.Outcome State Fault Refusal := done s s.release

/-! ### The output stage (R433), which stands outside both devices -/

/-- What the output stage holds of one side: the last 16 samples, the samples since the last word boundary, the aligned words on consecutive
boundaries (3 at most), and the claim number of the newest word. -/
structure StageSide where
  shift : Nat
  since : Nat
  words : Nat
  claim : Nat
  deriving DecidableEq, Repr

/-- A side before its first sample. -/
def StageSide.init : StageSide := { shift := 0, since := 0, words := 0, claim := 0 }

/-- One sample of DCL_D on a rising edge of the side's DCL_CK. Out of step, a word is looked for at every sample. -/
def StageSide.sample (t : StageSide) (d : Bool) : StageSide :=
  let sh := (2 * t.shift + b2n d) % 65536
  if t.words ≠ 0 ∧ t.since + 1 < 16 then { t with shift := sh, since := t.since + 1 }
  else match claimWord sh with
  | some c => { shift := sh, since := 0, words := min 3 (t.words + 1), claim := c }
  | none => { t with shift := sh, since := 0, words := 0 }

/-- DCL_CK of the side has been absent for 400 ns or more. -/
def StageSide.clockAbsent (t : StageSide) : StageSide := { t with words := 0 }

/-- May the side be selected: its word is valid and its GEN is at least 1? -/
def StageSide.eligible (t : StageSide) : Bool := t.words == 3 && decide (2 ≤ t.claim)

/-- The side the output stage selects: none, A (`false`) or B (`true`). -/
def stageSel (a b : StageSide) : Option Bool :=
  if a.eligible && (!b.eligible || b.claim < a.claim) then some false
  else if b.eligible && (!a.eligible || a.claim < b.claim) then some true
  else none

/-- What the stage drives for a pulse output: the selected side's, or inactive. -/
def stagePulse (sel : Option Bool) (a b : Bool) : Bool := match sel with
  | some side => if side then b else a
  | none => false

/-- What the stage drives for a level output: the selected side's, or the last value it passed. -/
def stageLevel (sel : Option Bool) (a b last : Bool) : Bool := match sel with
  | some side => if side then b else a
  | none => last

/-! ### FLT_COND (R444, R447) -/

/-- FLT_COND as it reads. -/
def State.fltCond (s : State) : Nat :=
  b2n s.cfg.struct.isNone
    + 2 * b2n ((List.range 12).any (fun n => s.bit (F.ING_STAT_RATE_HI n)))
    + 4 * b2n ((List.range 64).any (fun n => s.bit (F.HQ_STAT_CRED_LATE n)))
    + 8 * b2n (match s.cfg.struct with
      | none => false
      | some d => d.mems.any (fun m => match m with
        | .rtPort _ _ _ _ p1 p2 => p1 == 0 && p2 == 0
        | _ => false))

end Sys2Proof.Machine
end

