-- ==== Sys2Proof/Machine/RegWrite.lean ====
section
/-!
DEFINITION. Register accesses: the access codes (R5, R6, R9), reserved offsets (R27), gated blocks (R28, R397), the direct window
and its ignored packet-only writes (R375), and what each register's own rule adds to a write of it.
-/
namespace Sys2Proof.Machine

/-! ### Reaching a register -/

/-- The gateable block an offset's block is (R395). -/
def gateId (b : Block) (i : Nat) : Option Nat :=
  match b with
  | .ing => some 0x06 | .sti => some 0x07 | .seg => some 0x08 | .sdf => some 0x0D | .dma => some 0x0F | .cmp => some 0x10
  | .isp => some 0x15 | .vg => some (0x18 + i)
  | .top | .cfg | .hostq | .lane | .nim | .eth | .prt | .enc | .evt | .time | .dmc | .tw | .pwr | .cal | .flt => none

/-- The first access to a reserved offset since VALID was cleared is captured (R27). -/
def State.accErr (s : State) (off : Nat) (write offDom : Bool) : State :=
  if s.bit F.TOP_ACC_ERR_VALID then s
  else (((s.setFld F.TOP_ACC_ERR_OFFSET off).setBit F.TOP_ACC_ERR_WRITE write).setBit F.TOP_ACC_ERR_OFF_DOM offDom).flag
    F.TOP_ACC_ERR_VALID

/-- Does the register exist on the part (R3, R105)? -/
def State.regHere (s : State) (off : Nat) (r : RegRef) : Bool :=
  s.has r.row.kind r.i && !(blockOf off == some .evt && r.row.base < R.EVT_INFO && absentCons s r.i)

/-- A register access reaches its register, or an absent instance (none), or a reserved offset, which is captured (none). A gated
block wakes (R3, R27, R28, R397). -/
def State.reach (s : State) (off : Nat) (write : Bool) : Option RegRef × State :=
  let vg := off / 0x200000 - 8
  if blockOf off = some .vg ∧ s.has .region vg ∧ s.fld F.PWR_STAT_STATE = 2 then (none, s.accErr off write true)
  else match findReg off, blockOf off with
  | some r, some b =>
    if !s.regHere off r then (none, s)
    else
      let i := if b = .vg then vg else 0
      (some r, match gateId b i with
        | some g => s.wakeBlock g
        | none => s)
  | _, _ => (none, s.accErr off write false)

/-! ### Reads -/

/-- A takeover-table word (R271). -/
def State.tkWord (s : State) (n k : Nat) : Nat :=
  match (s.prtS n).tk[k]? with
  | some t => t.nozzle + 4096 * t.src + 16384 * t.e + 65536 * t.p
  | none => 0

/-- What a register reads as. Most read as stored; the others follow the state they name. -/
def State.readVal (s : State) (r : RegRef) (off : Nat) : Word :=
  let b := r.row.base
  let w := s.rd off &&& ~~~(BitVec.ofNat 32 r.row.wo)
  if b = R.TOP_FAULT_SUM then BitVec.ofNat 32 s.faultSum
  else if b = R.EVT_CFG 0 then (F.EVT_CFG_BUSY r.i).ins w (b2n (s.evtBusy r.i))
  else if b = R.EVT_GATE then BitVec.ofNat 32 s.gateLevels
  else if b = R.CU_CTL 0 then (F.CU_CTL_ARMED r.i).ins w (b2n (s.cuArmed r.i))
  else if b = R.FLT_COND then BitVec.ofNat 32 s.fltCond
  else if b = R.HP_TK 0 0 then BitVec.ofNat 32 (s.tkWord r.i r.j)
  else if b = R.TW3_FILE 0 ∧ r.i < 3 then BitVec.ofNat 32 (leVal (slice s.tgtFile (4 * r.i) 4))
  else w

/-- A read of a register (R5, R27). The read of TIME_NOW_LO or RTC_SEC_LO latches the registers beside it (R288, R303). -/
def State.readReg (s : State) (off : Nat) : Word × State :=
  let o := s.reach off false
  match o.1 with
  | none => (0, o.2)
  | some r =>
    let s := if r.row.base = R.TIME_NOW_LO then o.2.nowRead else if r.row.base = R.RTC_SEC_LO then o.2.rtcRead else o.2
    (s.readVal r off, s)

/-! ### Writes by access code -/

/-- A write by access code (R5, R6, R9): the bits of `m` take the value, W1C bits written 1 clear, and a SAT bit written 1 clears
its counters. -/
def State.store (s : State) (r : RegRef) (off : Nat) (v : Word) (m : Nat) : State :=
  let keep := (s.rd off &&& ~~~(BitVec.ofNat 32 m)) ||| (v &&& BitVec.ofNat 32 m)
  let clr := v &&& BitVec.ofNat 32 r.row.w1c
  let cnt := if v &&& BitVec.ofNat 32 r.row.sat = 0 then 0 else BitVec.ofNat 32 r.row.cnt
  (s.put off (keep &&& ~~~clr &&& ~~~cnt)).status 0

/-- What else a W1C write does: counters cleared with their flag (CUnn_STAT, ABSn_STAT), READY of a two-wire port (R386), a HELD Nimeb port
(R29). -/
def State.cleared (s : State) (r : RegRef) (v : Nat) : State :=
  let b := r.row.base
  if b = R.CU_STAT 0 then (if bitN v 1 then s.setFld (F.CU_STAT_SKIP_CNT r.i) 0 else s)
  else if b = R.ABS_STAT 0 then
    (if s.rdN (R.ABS_STAT r.i) % 16 = 0 ∧ s.fld (F.ABS_STAT_FAIL_CNT r.i) = 65535 then s.setFld (F.ABS_STAT_FAIL_CNT r.i) 0 else s)
  else if b = R.TOP_DEVID then (if bitN v 30 then s.npReady else s)
  else if b = R.TW_STAT 0 then (if bitN v 13 then (s.flag (F.TW_STAT_READY r.i)).twReady else s)
  else s

/-- The plain write of a packet (R5). -/
def State.pkStore (s : State) (r : RegRef) (off : Nat) (v : Word) : State :=
  (s.store r off v (Nat.lor r.row.rw r.row.pk)).cleared r v.toNat

/-- Store some bits of a value only: strobes read 0. -/
def State.pkStoreBut (s : State) (r : RegRef) (off : Nat) (v : Word) (strobes : Nat) : State :=
  s.pkStore r off (v &&& ~~~(BitVec.ofNat 32 strobes))

/-! ### HOSTQ (R356, R357, R362, R376, R377) -/

/-- Room has returned on a device-to-host queue, or the queue is in use again (R239, R340, R359). -/
def State.credit (s : State) (c : Nat) : State := ((s.updFull c).drainSpill).dmaPostAll

/-- A write of HQn_CFG: EN rises with the ring empty and HALT cleared, where SIZE is in range (R356, R362, R377). -/
def State.hqCfg (s : State) (n v : Nat) : State :=
  let was := s.bit (F.HQ_CFG_EN n)
  let size := if was then s.fld (F.HQ_CFG_SIZE n) else v % 32
  let en := bitN v 5 && 17 ≤ size && size ≤ 26
  let cq := if n < 32 then fieldN v 12 5 else 0
  let s := s.putN (R.HQ_CFG n) (size + 32 * b2n en + 64 * fieldN v 6 6 + 4096 * cq + 2 ^ 17 * fieldN v 17 8)
  let s := if en && !was then
      let moved := (if n < 32 then s.fld (F.HQ_HEAD_OFS n) else s.fld (F.HQ_TAIL_OFS n)) != 0
      let s := ((s.setFld (F.HQ_HEAD_OFS n) 0).setFld (F.HQ_TAIL_OFS n) 0).setFld (F.HQ_STAT_HALT n) 0
      let s := if moved then s.writeBack n 0 else s
      if n < 32 then s
      else ({ s with hq := { s.hq with unsig := vput s.hq.unsig (n - 32) 0 } }).credit (n - 32)
    else if !en && was then
      let s := (s.setFld (F.HQ_STAT_CQ_WAIT n) 0).setFld (F.HQ_STAT_FULL n) 0
      { s with hq := { s.hq with bells := s.hq.bells.filter (fun b => b.q != n) } }
    else s
  s.status 0

/-- A write of HQn_TAIL of a host-to-device queue: the doorbell (R357, R373). -/
def State.doorbell (s : State) (q v : Nat) : State :=
  let t := v % 2 ^ 26 / 16 * 16
  if s.ringSize q ≤ t then s.status 0
  else
    let new := s.bit (F.HQ_CFG_EN q) && t != s.fld (F.HQ_TAIL_OFS q)
    let s := (s.setFld (F.HQ_TAIL_OFS q) t).status 0
    if new then
      { s with hq := { s.hq with bells := s.hq.bells ++ [{ q := q, tail := t, no := s.hq.bellCtr }], bellCtr := s.hq.bellCtr + 1 } }
    else s

/-- A write of HQn_HEAD of device-to-host queue Q(32 + c): space returns (R357, R359). -/
def State.headWrite (s : State) (c v : Nat) : State :=
  let h := v % 2 ^ 26 / 16 * 16
  if s.ringSize (32 + c) ≤ h then s.status 0
  else ((s.setFld (F.HQ_HEAD_OFS (32 + c)) h).credit c).status 0

/-- A write of an MSI-X table word; an unmasked vector with its pending bit set sends its message (R376). -/
def State.msixWrite (s : State) (vec k : Nat) (v : Word) : State :=
  ((s.put (R.MSIX_TBL vec k) (if k = 3 then v &&& 1 else v)).status 0).msixUnmask vec

/-- A write of a HOSTQ register; all are RW (R375). -/
def State.hostqWrite (s : State) (r : RegRef) (off : Nat) (v : Word) : State :=
  let b := r.row.base
  if b = R.HQ_CFG 0 then s.hqCfg r.i v.toNat
  else if b = R.HQ_TAIL 0 then (if r.i < 32 then s.doorbell r.i v.toNat else s.status 0)
  else if b = R.HQ_HEAD 0 then (if 32 ≤ r.i then s.headWrite (r.i - 32) v.toNat else s.status 0)
  else if (b = R.HQ_BASE_LO 0 ∨ b = R.HQ_BASE_HI 0) ∧ s.bit (F.HQ_CFG_EN r.i) then s.status 0
  else if b = R.MSIX_TBL 0 0 then s.msixWrite r.i r.j v
  else s.pkStore r off v

/-! ### Two-wire (R381 to R391) -/

/-- A write of a TW register. -/
def State.twWrite (s : State) (r : RegRef) (off : Nat) (v : Word) : State :=
  let b := r.row.base
  if b = R.TW_CTL 0 then s.twCtl r.i v
  else if b = R.TW_XFER 0 then s.twXfer r.i v
  else if R.TW_TXD0 0 ≤ b ∧ b ≤ R.TW_TXD7 0 then (if s.bit (F.TW_STAT_BUSY r.i) then s.status 0x40 else s.pkStore r off v)
  else if b = R.TW3_TGT_CFG then s.tgtCfg v
  else if b = R.TW3_NOTIFY then s.notifyWrite v
  else if b = R.TW3_FILE 0 then (if 3 ≤ r.i ∧ r.i < 32 then s.pkStore r off v else s.status 0)
  else s.pkStore r off v

/-! ### Configuration, lanes, fabric -/

/-- A packet write of a TOP register: TOP_DEVID (R29). -/
def State.topWrite (s : State) (r : RegRef) (off : Nat) (v : Word) : State :=
  if r.row.base = R.TOP_DEVID then
    if s.fld F.TOP_READY_NP ≠ 0 then s.status 0x40
    else (s.store r off v 0).devIdWrite (v.toNat % 2 ^ 18)
  else s.pkStore r off v

/-- A packet write of a CFG register (R47, R51, R64). -/
def State.cfgWrite (s : State) (r : RegRef) (off : Nat) (v : Word) : State :=
  let b := r.row.base
  if b = R.CFG_CTL then s.cfgCtl v
  else if b = R.CFG_SWAP_CTL then s.swapCtl v
  else if b = R.CFG_SWAP_POS then s.swapPos v
  else if b = R.CFG_STAGE_BASE_HI ∧ bitN v.toNat 31
    ∧ !s.inDdr (v.toNat % 64 * 2 ^ 32 + s.rdN R.CFG_STAGE_BASE_LO) (2 ^ 26) then s.status 0x2A
  else if b = R.CFG_STAGE_BASE_LO ∧ s.bit F.CFG_STAGE_BASE_HI_EN
    ∧ !s.inDdr (s.fld F.CFG_STAGE_BASE_HI_ADDR_HI * 2 ^ 32 + v.toNat / 2 ^ 26 * 2 ^ 26) (2 ^ 26) then s.status 0x2A
  else s.pkStore r off v

/-- A packet write of a LANE register (R120, R121, R123). -/
def State.laneWrite (s : State) (r : RegRef) (off : Nat) (v : Word) : State :=
  let b := r.row.base
  if b = R.LANE_CTL 0 then s.laneCtl r.i v
  else if b = R.LANE_EQ 0 then s.eqSeed r.i v
  else if b = R.LANE_EYE_CTL 0 then s.eyeCtl r.i v
  else s.pkStore r off v

/-- A packet write of a NIM register (R126, R131). -/
def State.nimWrite (s : State) (r : RegRef) (off : Nat) (v : Word) : State :=
  let b := r.row.base
  if b = R.NP_CTL 0 then (if bitN v.toNat 1 then s.npRetrain r.i else s).status 0
  else if b = R.NIM_ROUTE 0 ∧ 18 < fieldN v.toNat 18 5 then s.status 0x40
  else s.pkStore r off v

/-! ### Ingest and stitching -/

/-- A write of INGn_CTL (R150, R151, R157, R158). -/
def State.ingCtl (s : State) (r : RegRef) (off : Nat) (v : Word) : State :=
  let n := r.i
  let w := v.toNat
  let mt := fieldN w 16 6
  if fieldN w 8 2 = 3 || mt < 2 || 62 < mt || (s.board.variant == .w0648 && 8 ≤ fieldN w 4 4) then s.status 0x40
  else
    let s' := if bitN w 1 then s.ingFlip n else s.status 0
    if s'.lastStatus ≠ 0 then s'
    else
      let s' := s'.pkStoreBut r off v 0x4002
      if bitN w 14 then s'.darkCapt n else s'

/-- A packet write of an ING register (R149, R151, R154, R155, R157). -/
def State.ingWrite (s : State) (r : RegRef) (off : Nat) (v : Word) : State :=
  let b := r.row.base
  let w := v.toNat
  let stopped := s.bit F.CFG_STAT_PIPE_STOPPED
  let dly := [fieldN w 0 6, fieldN w 8 6, fieldN w 16 6]
  if b = R.ING_CTL 0 then s.ingCtl r off v
  else if b = R.ING_GEOM 0 ∧ (!stopped ∨ 64 < fieldN w 16 7 ∨ 64 < fieldN w 23 7) then s.status 0x40
  else if b = R.ING_ROWDLY 0 ∧ (!stopped ∨ !dly.contains 0 ∨ dly.any (40 < ·)) then s.status 0x40
  else if b = R.ING_FLUX_LIM 0 ∧ w / 65536 < w % 65536 then s.status 0x40
  else if b = R.ING_RSMP 0 ∧ !stopped then s.status 0x40
  else if ingShadow r.i off ∧ s.bit (F.ING_STAT_FLIP_PEND r.i) then s.status 0x40
  else s.pkStore r off v

/-- A packet write of an STI register (R169, R171, R175, R178, R179). -/
def State.stiWrite (s : State) (r : RegRef) (off : Nat) (v : Word) : State :=
  let b := r.row.base
  let w := v.toNat
  let cw := fieldN w 0 11
  let bad :=
    (b == R.STI_CTL && fieldN w 8 2 == 3)
    || (b == R.STI_REG_CFG0 && (fieldN w 0 3 == 0 || 4 < fieldN w 0 3 || 4 < fieldN w 3 3))
    || (b == R.STI_REG_CFG1 && (256 < fieldN w 0 9 || 256 < fieldN w 16 9))
    || (b == R.STI_REG_CFG2 && 64 < fieldN w 8 8)
    || (b == R.STI_SEAM_CFG 0 && 1024 < fieldN w 18 11)
    || (b == R.STI_SEAM_WIN 0 && (cw % 16 != 0 || 1024 < cw))
    || (b == R.STI_UMAP 0 && s.bit F.STI_UMAP_CTL_FLIP_PEND)
  if bad then s.status 0x40
  else if b = R.STI_SEAM_SEED 0 then s.seedWrite r.i w
  else if b = R.STI_UMAP_CTL then (if bitN w 16 then s.umapFlip else s.status 0)
  else s.pkStore r off v

/-! ### Segmentation, print, area cameras -/

/-- Channels reserved to crops or to leading-row cameras (R344). -/
def State.cmpReserve (s : State) : State :=
  (List.range 12).foldl (fun s n =>
    let lead := match s.cfg.struct with
      | some d => (structCam d n).links != 0 && (structCam d n).leading
      | none => false
    let crop := s.bit F.SEG_CTL_CROP_EN && s.fld F.SEG_CROP_CTL_CC == n
    s.setBit (F.CMP_CC_STAT_RESERVED_BY n) (lead || crop)) s

/-- A packet write of a SEG register (R215, R219, R241, R344). -/
def State.segWrite (s : State) (r : RegRef) (off : Nat) (v : Word) : State :=
  let b := r.row.base
  let w := v.toNat
  let cc := fieldN w 8 4
  let lead := match s.cfg.struct with
    | some d => (structCam d cc).links != 0 && (structCam d cc).leading
    | none => false
  if b = R.SEG_MREG_CFG0 ∧ 256 < fieldN w 0 9 then s.status 0x40
  else if b = R.SEG_CROP_CTL then
    if 12 ≤ cc || lead then s.status 0x40 else (s.pkStore r off v).cmpReserve
  else if b = R.SEG_CTL then (s.pkStore r off v).cmpReserve
  else if b = R.SEG_CROP_BASE_HI ∧ bitN w 31
    ∧ !s.inDdr (w % 64 * 2 ^ 32 + s.rdN R.SEG_CROP_BASE_LO) (fieldN w 16 8 * 2 ^ 24) then s.status 0x40
  else if b = R.SEG_CROP_BASE_LO ∧ s.bit F.SEG_CROP_BASE_HI_EN
    ∧ !s.inDdr (s.fld F.SEG_CROP_BASE_HI_ADDR * 2 ^ 32 + w / 2 ^ 20 * 2 ^ 20) (s.fld F.SEG_CROP_BASE_HI_SIZE * 2 ^ 24) then s.status 0x40
  else if b = R.SEG_SPILL_CTL ∧ bitN w 31 ∧ !s.inDdr (w % 2 ^ 14 * 2 ^ 24) (2 ^ 24) then s.status 0x40
  else if b = R.SEG_CROP_RD then s.pkStoreBut r off v 0x3F
  else s.pkStore r off v

/-- A packet write of a PRT register (R250, R253, R262, R268). -/
def State.prtWrite (s : State) (r : RegRef) (off : Nat) (v : Word) : State :=
  let b := r.row.base
  let w := v.toNat
  if b = R.HP_CTL 0 then s.hpCtl r.i w
  else if b = R.HP_TIM0 0 then s.hpTim r.i false w
  else if b = R.HP_TIM1 0 then s.hpTim r.i true w
  else if (b = R.HP_NZ_CFG0 0 ∧ fieldN w 16 4 = 0) ∨ (b = R.HP_NZ_CFG1 0 ∧ fieldN w 0 4 = 0) then s.status 0x40
  else if b = R.HP_TK_CMD 0 then
    if fieldN w 12 2 = 1 then s.tkAddCmd r.i (w % 4096)
    else if fieldN w 12 2 = 2 then s.tkRemoveCmd r.i (w % 4096) else s.status 0
  else s.pkStore r off v

/-- A packet write of a PP or ISP register (R275, R277, R279, R281, R282). -/
def State.ispWrite (s : State) (r : RegRef) (off : Nat) (v : Word) : State :=
  let b := r.row.base
  let w := v.toNat
  let n := r.i
  let held := fun k => s.bit (heldFld n k)
  let area := fun (_ : Unit) =>
    s.inDdr (64 * w) (s.fld (F.PP_GEOM_WIDTH n) * s.fld (F.PP_GEOM_HEIGHT n) * ppBytes (s.fld (F.PP_CTL_FMT n)))
  let slots := fun (s : State) => (List.range 4).foldl (fun s c => s.ispSlot c) s
  if b = R.PP_CTL 0 then slots (s.pkStore r off v)
  else if b = R.PP_GEOM 0 ∧ s.bit (F.PP_CTL_EN n) ∧ (held 0 ∨ held 1) then s.status 0x40
  else if (b = R.PP_BUF0 0 ∧ held 0) ∨ (b = R.PP_BUF1 0 ∧ held 1) then s.status 0x40
  else if (b = R.PP_BUF0 0 ∨ b = R.PP_BUF1 0) ∧ s.bit (F.PP_CTL_EN n) ∧ !area () then s.status 0x40
  else if b = R.ISP_CTL then (s.pkStore r off v).ispReady
  else if b = R.ISP_CTX_CTL 0 then
    if fieldN w 5 2 = 3 then s.status 0x40
    else
      ((s.pkStore r off v).ispAgain n).ispSlot n
  else if b = R.ISP_CTX_CROP0 0 then s.ispCrop n false v
  else if b = R.ISP_CTX_CROP1 0 then s.ispCrop n true v
  else if b = R.ISP_CTX_OUTB 0 then
    if s.inDdr (64 * w) (s.nslot n * (64 * s.rdN (R.ISP_CTX_SLOT n))) then (s.pkStore r off v).ispAgain n else s.status 0x40
  else if b = R.ISP_CTX_RD 0 then
    if 2 * s.nslot n ≤ w % 32 ∨ s.nslot n < ringCount (s.fld (F.ISP_CTX_WR_SLOT n)) (w % 32) (s.nslot n) then s.status 0x40
    else s.pkStore r off v
  else s.pkStore r off v

/-! ### Position, time, sensors -/

/-- A packet write of an ENC register (R75, R78, R79, R82, R85, R87, R93). -/
def State.encWrite (s : State) (r : RegRef) (off : Nat) (v : Word) : State :=
  let b := r.row.base
  let w := v.toNat
  let n := r.i
  if b = R.ENC_CTL 0 then s.encCtl n w
  else if b = R.ENC_IDX_PERIOD 0 ∧ s.bit (F.ENC_CTL_IDX_EN n) ∧ w < 16 then s.status 0x40
  else if b = R.CU_CTL 0 then s.cuCtl n w
  else if b = R.CU_SPACING 0 then s.cuSpacing n w
  else if b = R.CU_SPACING_HI 0 then s.cuSpacingHi n w
  else if b = R.CU_NEXT_INT 0 then s.cuNext n false w
  else if b = R.CU_NEXT_FRAC 0 then s.cuNext n true w
  else if b = R.ABS_CTL 0 ∧ (fieldN w 8 12 < 39 ∨ 3999 < fieldN w 8 12) then s.status 0x40
  else if b = R.SW_CTL then s.swCtl w
  else s.pkStore r off v

/-- A packet write of a TIME register (R284, R291, R298, R301). -/
def State.timeWrite (s : State) (r : RegRef) (off : Nat) (v : Word) : State :=
  let b := r.row.base
  let w := v.toNat
  if b = R.TIME_CTL then
    if fieldN w 8 8 = 0 then s.status 0x40
    else
      let s' := if bitN w 4 then s.stepFromUp else s.status 0
      if s'.lastStatus ≠ 0 then s' else s'.pkStoreBut r off v 0x10
  else if b = R.TIME_STEP_HI then s.stepHiWrite w
  else if b = R.TIME_RATE then s.rateWrite w
  else if b = R.TIME_ADJ_RATE ∧ !rateOk w then s.status 0x40
  else if b = R.TIME_ADJ_TICKS then s.adjTicksWrite w
  else if b = R.RTC_CTL then s.pkStore r off (v ||| (s.rd off &&& 3))
  else s.pkStore r off v

/-- A packet write of an SDF register (R311, R314). -/
def State.sdfWrite (s : State) (r : RegRef) (off : Nat) (v : Word) : State :=
  let b := r.row.base
  let n := r.i
  if b = R.SDF_CTL then
    let s' := s.pkStoreBut r off v 4
    if bitN v.toNat 2 then s'.sdfSync else s'
  else if b = R.SDF_CH_CTL 0 then s.sdfCtlWrite n v.toNat
  else if (b = R.SDF_CH_SH 0 ∨ b = R.SDF_CH_FIR 0 ∨ b = R.SDF_COEF 0 0) ∧ s.bit (F.SDF_CH_CTL_EN n) then s.status 0x40
  else if b = R.SDF_CH_FIR 0 then (s.pkStore r off v).updGd n
  else s.pkStore r off v

/-! ### Memory, DMA, power, faults -/

/-- A packet write of a DMC register (R318, R327, R331 to R333). -/
def State.dmcWrite (s : State) (r : RegRef) (off : Nat) (v : Word) : State :=
  let b := r.row.base
  let w := v.toNat
  let c := r.i
  let st := s.fld (F.DMC_CH_STAT_STATE c)
  if b = R.DMC_CFG then s.dmcCfgWrite v
  else if b = R.DMC_CH_CFG 0 ∧ ((st ≠ 0 ∧ st ≠ 4) ∨ (bitN w 0 ∧ bitN w 1 ∧ bitN w 2) ∨ (bitN w 4 ∧ !bitN w 2)) then s.status 0x40
  else if b = R.DMC_CH_CTL 0 then s.dmcCtl c v
  else if (b = R.DMC_DLY 0 0 ∨ b = R.DMC_DLY 0 64 ∨ b = R.DMC_DLY 0 128) ∧ s.bit (F.DMC_CH_STAT_DLY_PEND c) then s.status 0x40
  else if b = R.DMC_CH_SPARE 0 ∧ st ≠ 0 ∧ w % 256 ≠ s.fld (F.DMC_CH_SPARE_MIB c) then s.status 0x40
  else s.pkStore r off v

/-- A packet write of a DMA or CMP register (R335, R344 to R346). -/
def State.dmaWrite (s : State) (r : RegRef) (off : Nat) (v : Word) : State :=
  let b := r.row.base
  let w := v.toNat
  let n := r.i
  if b = R.DM_CTL 0 then s.dmaCtl n v
  else if (b ≤ R.DM_CNT 0 ∨ b = R.DM_CFG 0 ∨ b = R.DM_DEV 0) ∧ s.bit (F.DM_STAT_BUSY n) then s.status 0x40
  else if b = R.DM_CFG 0
    ∧ (fieldN w 1 3 = 7 ∨ fieldN w 4 3 = 7 ∨ fieldN w 8 2 = 3 ∨ fieldN w 10 2 = 3 ∨ fieldN w 13 2 = 3) then s.status 0x40
  else if R.CMP_CC_CFG0 0 ≤ b ∧ b ≤ R.CMP_CC_GEOM1 0
    ∧ (s.bit (F.CMP_CC_STAT_RESERVED_BY n) ∨ s.bit (F.CMP_CC_STAT_BUSY n)) then s.status 0x40
  else if b = R.CMP_CC_CFG0 0 ∧ (fieldN w 16 4 = 0 ∨ 8 < fieldN w 16 4) then s.status 0x40
  else s.pkStore r off v

/-- A packet write of a PWR, CAL or FLT register (R399, R400, R402, R408, R413, R427, R428, R437). -/
def State.pwrWrite (s : State) (r : RegRef) (off : Nat) (v : Word) : State :=
  let b := r.row.base
  let w := v.toNat
  if b = R.PWR_CMD then s.pwrCmdWrite v
  else if b = R.PWR_RESTORE_LO ∧ s.bit F.PWR_RESTORE_HI_EN ∧ !s.inDdr (s.rdN R.PWR_RESTORE_HI % 64 * 2 ^ 32 + w / 2 ^ 23 * 2 ^ 23) (2 ^ 23) then
    s.status 0x40
  else if b = R.PWR_RESTORE_HI ∧ bitN w 31 ∧ !s.inDdr (w % 64 * 2 ^ 32 + s.rdN R.PWR_RESTORE_LO) (2 ^ 23) then s.status 0x40
  else if (b = R.PWR_RET_MASK_LO 0 ∨ b = R.PWR_RET_MASK_HI 0) ∧ s.fld F.PWR_STAT_STATE = 2 then s.status 0x40
  else if b = R.PWR_DVFS 0 then s.targetWrite r.i (w % 8)
  else if b = R.CAL_CTL then s.calCtl v
  else if b = R.FLT_CTL then s.fltCtl w
  else if b = R.FLT_PAIR_CFG then s.pairCfg (w % 16)
  else if b = R.FLT_PAIR_CMD then s.pairCmd (w % 4)
  else s.pkStore r off v

/-! ### The whole register space -/

/-- A packet write of a register that exists. -/
def State.regWrite (s : State) (b : Block) (r : RegRef) (off : Nat) (v : Word) : State :=
  match b with
  | .top => s.topWrite r off v
  | .cfg => s.cfgWrite r off v
  | .hostq => s.hostqWrite r off v
  | .lane => s.laneWrite r off v
  | .nim => s.nimWrite r off v
  | .eth => s.pkStore r off v
  | .ing => s.ingWrite r off v
  | .sti => s.stiWrite r off v
  | .vg => s.pkStore r off v
  | .seg => s.segWrite r off v
  | .prt => s.prtWrite r off v
  | .enc => s.encWrite r off v
  | .evt => s.pkStore r off v
  | .time => s.timeWrite r off v
  | .sdf => s.sdfWrite r off v
  | .dmc => s.dmcWrite r off v
  | .dma => s.dmaWrite r off v
  | .cmp => s.dmaWrite r off v
  | .tw => s.twWrite r off v
  | .pwr => s.pwrWrite r off v
  | .cal => s.pwrWrite r off v
  | .flt => s.pwrWrite r off v
  | .isp => s.ispWrite r off v

/-- A packet write of one register (R5, R27, R364); its status is in `lastStatus`. -/
def State.pkWrite (s : State) (off : Nat) (v : Word) : State :=
  let o := s.reach off true
  match o.1, blockOf off with
  | some r, some b => o.2.regWrite b r off v
  | _, _ => o.2.status 0

/-- A write of one DW through BAR0 (R375): only RW and W1C fields take it, with all byte enables set; one that would change a PK
field is counted. -/
def State.barWrite (s : State) (off : Nat) (v : Word) (be : Bool) : State :=
  let o := s.reach off true
  match o.1, blockOf off with
  | some r, some b =>
    let s := o.2
    if !be then s.status 0
    else
      let s := if (v ^^^ s.readVal r off) &&& BitVec.ofNat 32 r.row.pk = 0 then s
        else (s.incCnt F.HQ_PK_IGN_CNT F.HQ_PK_IGN_SAT).setFld F.HQ_PK_IGN_OFS_OFFSET off
      if r.row.rw ≠ 0 then s.regWrite b r off v
      else (s.store r off v 0).cleared r v.toNat
  | _, _ => o.2.status 0

/-- REGISTER_WRITE (R5, R375): a DW write through the direct window; `be` says that all its byte enables are set. -/
def execRegisterWrite (off : BitVec 26) (val : Word) (be : Bool) (s : State) : Host.Outcome State Fault Refusal :=
  done s (s.barWrite (off.toNat / 4 * 4) val be)

/-- RESERVED_ACCESS (R27, R375): an access through the direct window; a read answers the register. At a reserved offset it reads 0 or is ignored,
and the first one is captured. -/
def execReservedAccess (off : BitVec 26) (write : Bool) (val : Word) (s : State) : Host.Outcome State Fault Refusal :=
  let o := off.toNat / 4 * 4
  let r := s.readReg o
  done s (if write then s.barWrite o val true else r.2.emit (.barRead o r.1))

/-- QUEUE_ENABLE (R356): a write of HQn_CFG with EN = 1. -/
def execQueueEnable (q : Fin 64) (s : State) : Host.Outcome State Fault Refusal :=
  done s (s.hqCfg q (s.rd (R.HQ_CFG q) ||| 0x20).toNat)

/-- QUEUE_DISABLE (R362): a write of HQn_CFG with EN = 0. -/
def execQueueDisable (q : Fin 64) (s : State) : Host.Outcome State Fault Refusal :=
  done s (s.hqCfg q (s.rd (R.HQ_CFG q) &&& ~~~0x20).toNat)

/-- QUEUE_DOORBELL (R357). -/
def execQueueDoorbell (q : Fin 32) (tail : BitVec 26) (s : State) : Host.Outcome State Fault Refusal :=
  done s (s.doorbell q tail.toNat)

/-- QUEUE_HEAD_WRITE (R357): HQn_HEAD of Q(32 + q). -/
def execQueueHeadWrite (q : Fin 32) (head : BitVec 26) (s : State) : Host.Outcome State Fault Refusal :=
  done s (s.headWrite q head.toNat)

end Sys2Proof.Machine
end

