-- ==== Sys2Proof/Machine/Hostrows.lean ====
section
/-!
DEFINITION. The host link and its resets (R354, R355, R472), timers of the queues (R359, R376), failed host-memory accesses (R372), clocks
(R289), die rails (R459) and boundary scan (R473).
-/
namespace Sys2Proof.Machine

/-! ### Timers of the queues -/

/-- IRQ_HOLDOFF_TIMER (R376): HQn_ITIME has passed since the oldest entry of Q(32 + q) not signalled; an ITIME of 0 is no wait that ends. -/
def execIrqHoldoffTimer (q : Fin 32) (s : State) : Host.Outcome State Fault Refusal :=
  done s (if s.rdN (R.HQ_ITIME (32 + q.val)) % 65536 = 0 then s else s.signalQ q)

/-- CREDIT_LATE_TIMEOUT (R359): Q(32 + q) has been full for more than 10 ms. -/
def execCreditLateTimeout (q : Fin 32) (s : State) : Host.Outcome State Fault Refusal :=
  done s (if s.bit (F.HQ_STAT_FULL (32 + q.val)) then s.flag (F.HQ_STAT_CRED_LATE (32 + q.val)) else s)

/-! ### Resets of the endpoint -/

/-- A channel with a host-space side (R355). -/
def State.hostSide (s : State) (n : Nat) : Bool :=
  s.fld (F.DM_CFG_SRC_SPACE n) = 2 || s.fld (F.DM_CFG_DST_SPACE n) = 2

/-- A Function Level Reset (R355): queues out of use, host-side transfers aborted, MSI-X masked. -/
def State.flr (s : State) : State :=
  let s := (List.range 64).foldl (fun s n => s.hqCfg n (s.rd (R.HQ_CFG n) &&& ~~~0x20).toNat) s
  let s := { s with hq := { s.hq with slots := Vector.replicate 32 [], bells := [] } }
  let s := (List.range 32).foldl (fun s n => if s.hostSide n then s.dmaAbort n 0 [] else s) s
  (List.range 64).foldl (fun s v => s.put (R.MSIX_TBL v 3) 1) s

/-- FUNCTION_LEVEL_RESET (R355). -/
def execFunctionLevelReset (s : State) : Host.Outcome State Fault Refusal := done s (s.flr.status 0)

/-- The link goes down (R30, R354). -/
def State.linkDown (s : State) : State :=
  ({ s.putN R.HQ_PCIE 0 with hq := { s.hq with linkUp := false, pcie := none } }).setReady 2 false

/-- The boot script has ended, or none was run (R472). -/
def State.scriptEnded (s : State) : Bool := s.boot.image && s.boot.script.isEmpty && s.boot.wait == .run

/-- PERST (R472): endpoint and HOSTQ are reset and the link goes down. Training starts again at once where the boot script has ended,
else with its end or 50 ms later. -/
def execPerst (s : State) : Host.Outcome State Fault Refusal :=
  let s' := s.flr.linkDown
  done s ({ s' with boot := { s'.boot with training := s'.scriptEnded } }.status 0)

/-- PCIE_TRAIN_START (R472). -/
def execPcieTrainStart (s : State) : Host.Outcome State Fault Refusal :=
  done s { s with boot := { s.boot with training := true } }

/-- A link width the part has (R354). -/
def State.widthOk (s : State) (w : Nat) : Bool :=
  [1, 2, 4, 8, 16].contains w && (w ≤ 8 || s.board.variant == .w1296)

/-- Device ID (R354). -/
def deviceId (b : Board) : Nat :=
  match b.variant with
  | .w1296 => 0x1296
  | .w0648 => 0x0648

/-- Class code: co-processor (R354). -/
def classCode : Nat := 0x0B4000

/-- PCIE_LINK_UP (R354): the link trains and the host has set up the configuration space with BAR0 enabled, or the link goes down. Vectors that
are unmasked by it send what is pending (R376). -/
def execPcieLinkUp (up : Bool) (speed : Fin 6) (width : Fin 17) (bme : Bool) (space : PcieCfg) (s : State) :
    Host.Outcome State Fault Refusal :=
  if !up then done s s.linkDown
  else if !s.boot.training || speed.val = 0 || !s.widthOk width then done s s
  else
    let s' := s.putN R.HQ_PCIE (speed.val + 8 * width.val + 256 * b2n bme)
    let s' := { s' with hq := { s'.hq with linkUp := bme, pcie := some space } }
    let s' := s'.emit (.pcieIds (deviceId s.board) classCode s.boot.ssvid s.boot.ssid)
    done s ((List.range 64).foldl State.msixUnmask (s'.setReady 2 true))

/-- COMPLETION_TIMEOUT (R372): a host-memory access of channel `n` receives no completion, Unsupported Request or Completer Abort; or, with
`queue`, the fetch of the packet at HEAD of queue `n` does, which halts the queue (assumption 148). -/
def execCompletionTimeout (n : Fin 32) (queue : Bool) (s : State) : Host.Outcome State Fault Refusal :=
  if queue then done s (if s.offers n then s.haltQueue n 0x66 else s)
  else done s (if s.hostSide n then s.remoteStop n 0x66 3 else s)

/-! ### Clocks, rails, boundary scan -/

/-- PLL_LOCK (R289): 0 EVT_CLK, 1 FAB_CLK, 2 TS_CLK. -/
def execPllLock (k : Fin 3) (s : State) : Host.Outcome State Fault Refusal :=
  let s' := s.modFlt (fun x => { x with plls := x.plls.filter (· != k.val) })
  done s (if k.val = 0 then (s'.setReady 5 true).encReady
    else if k.val = 2 then (s'.flag F.TIME_STAT_PLL_LOCK).setReady 4 true else s')

/-- DIE_RAIL_UP (R459): the die leaves reset and goes to its floor point as R408 and R409 state; in Winter the dies are gated. -/
def execDieRailUp (d : Fin 4) (s : State) : Host.Outcome State Fault Refusal :=
  let n := d.val
  if !s.has .die n || s.pwr.powered.contains n || s.fld F.PWR_STAT_STATE = 2 then done s s
  else
    let s' := { s with pwr := { s.pwr with powered := s.pwr.powered ++ [n] } }
    let floor := s.fld (F.PWR_DVFS_FLOOR n)
    if s.bit (F.TW0_PMB_EN n) then
      done s (((s'.setMove n (some { die := n, goal := floor, phase := 0, again := false })).flag (F.PWR_DVFS_MOVING n)).pmbAsk n (opMv floor))
    else done s (((s'.setFld (F.PWR_DVFS_CUR n) floor).dieReady n).dvfsGo n)

/-- What IDCODE shifts out (R473). -/
def idcode (b : Board) : Nat :=
  match b.variant with
  | .w1296 => 0x1129609B
  | .w0648 => 0x1064809B

/-- The instruction a 6-bit code selects; every other code acts as BYPASS, 0x3F (R473). -/
def jtagOf (code : Nat) : Nat := if [0x00, 0x01, 0x02, 0x04, 0x05].contains code then code else 0x3F

/-- Cells of the scan chain: one for each ball that has one and is connected (R455, R473). -/
def scanLength (v : Variant) : Nat :=
  ((List.range 68).map (fun r => (List.range 68).countP (fun c => ballConnected v (r + 1) (c + 1) && scanCell (ballAt (r + 1) (c + 1))))).sum

/-- Does the instruction select the boundary register: EXTEST or SAMPLE/PRELOAD? -/
def scanData (code : Nat) : Bool := code == 0 || code == 2

/-- The data register the instruction selects, as it captures, the bit nearest TDO first (R473): IDCODE, the boundary cells, or the one bit of
BYPASS, which CLAMP and HIGHZ select too. The order of the cells along the chain is not given, so what they capture is free (assumption 158). -/
def State.captured (s : State) : List Bool :=
  if s.jtag = 1 then (List.range 32).map (fun i => (idcode s.board).testBit i)
  else if scanData s.jtag then (List.range (scanLength s.board.variant)).map (fun i => (Config.freeWord (s.freeCtr + i)).getLsbD 0)
  else [false]

/-- The bits of TDI go through the selected data register; the boundary cells keep what was shifted in (R473). -/
def State.scanShift (s : State) (tdi : List Bool) : State :=
  if tdi.isEmpty then s
  else
    let all := s.captured ++ tdi
    let s := s.emit (.tdo (all.take tdi.length))
    if scanData s.jtag then { s with scan := all.drop tdi.length, freeCtr := s.freeCtr + scanLength s.board.variant } else s

/-- What the chain drives. -/
def State.scanOut (s : State) : State := s.emit (.scanChain s.jtag (if s.jtag = 0 ∨ s.jtag = 4 then s.scan else []))

/-- JTAG_INSTRUCTION (R473): an instruction is loaded, or the TAP is reset by TRST_N or TMS, which selects IDCODE; then the bits `tdi` are shifted
through the selected data register. With EXTEST, CLAMP or HIGHZ the scan chain alone drives the outputs. -/
def execJtagInstruction (code : Option (BitVec 6)) (tdi : List Bool) (s : State) : Host.Outcome State Fault Refusal :=
  let s' := { s with jtag := match code with
    | some c => jtagOf c.toNat
    | none => 1 }
  done s (s'.scanShift tdi).scanOut

end Sys2Proof.Machine
end

