-- ==== Sys2Proof/Machine/Boot.lean ====
section
/-!
DEFINITION. Cold reset (R460, R463), boot image and script (R470 to R472), warm reset (R461, R462) and the end of a STRUCT
application that holds one up.
-/
namespace Sys2Proof.Machine

/-! ### Outputs at a reset -/

/-- Pulse pins, heads and the claim line go inactive (R428, R461, R464). -/
def State.pinsOff (s : State) : State :=
  let s := if s.bit F.FLT_PAIR_CFG_PAIR_EN && !s.bit F.FLT_STAT_FATAL then s.emit (.claim none) else s
  let s := (List.range 64).foldl (fun s c => if vget s.evt.pin c false then s.emit (.pulse c false) else s) s
  (List.range 8).foldl (fun s n => if (s.prtS n).fire then s.emit (.headFire n false) else s) s

/-- Level pins fall (R464). -/
def State.levelsOff (s : State) : State :=
  let s := if s.evt.lvl0 then s.emit (.level 0 false) else s
  if s.evt.lvl1 then s.emit (.level 1 false) else s

/-! ### Cold reset -/

/-- A register of the calendar clock, which a warm reset leaves alone (R461); of them, a cold reset gives RTC_SET_LO and RTC_SET_HI their value 0
(R303), and only a loss of VBAT resets the others (R300). -/
def rtcReg (off : Nat) : Bool := R.RTC_SEC_LO ≤ off && off ≤ R.RTC_STAT

/-- COLD_RESET (R460, R463): the straps are sampled; with BOOT 0b11 no image is read and training starts at once (R472). -/
def execColdReset (tsSrc pairRank : Bool) (boot : Fin 4) (s : State) : Host.Outcome State Fault Refusal :=
  let s' := s.pinsOff.levelsOff
  let c := State.cold { s.board with tsSrc := tsSrc, pairRank := pairRank, boot := boot.val }
  let none := boot.val == 3
  let c := { c with
    regs := s.regs.filter (fun e => rtcReg e.1 && e.1 != R.RTC_SET_LO && e.1 != R.RTC_SET_HI),
    time := { c.time with rtc := s.time.rtc, rtcAcc := s.time.rtcAcc, rtcTrim := s.time.rtcTrim },
    hq := { c.hq with posted := s.hq.posted },
    boot := { c.boot with image := none, training := none },
    jtag := s.jtag, scan := s.scan, freeCtr := s.freeCtr, out := s'.out, pending := s.pending }
  done s (c.setBit F.TOP_BOOT_DONE none)

/-! ### Boot (R470 to R472) -/

/-- An accepted boot image. -/
structure BootImg where
  ssvid : Nat
  ssid  : Nat
  /-- First and second word of each entry. -/
  ents  : List (Nat × Nat)
  deriving DecidableEq, Repr

/-- The two words of each 8-byte entry. -/
def bootEntries (bs : List Byte) : Nat → List (Nat × Nat)
  | 0 => []
  | n + 1 => (leVal (bs.take 4), leVal (slice bs 4 4)) :: bootEntries (bs.drop 8) n

/-- Check one copy (R470, R471): its FAIL code, or the image. -/
def bootCheck (part : Nat) (bs : List Byte) : Nat × Option BootImg :=
  let nent := leVal (slice bs 12 4)
  let ents := slice bs 32 (8 * nent)
  let ecrc := leVal (slice bs (32 + 8 * nent) 4)
  let var := leVal (slice bs 6 2)
  if bs.length < 32 || leVal (bs.take 4) != 0x4D57424F || crc32c (bs.take 28) != leVal (slice bs 28 4) then (1, none)
  else if 16384 < nent || bs.length < 36 + 8 * nent || ecrc != (if nent = 0 then 0 else crc32c ents) then (2, none)
  else if var != 0 && var != part then (3, none)
  else (0, some { ssvid := leVal (slice bs 8 2), ssid := leVal (slice bs 10 2), ents := bootEntries ents nent })

/-- TOP_ID.PART (R3). -/
def partNo (v : Variant) : Nat :=
  match v with
  | .w1296 => 0x1296
  | .w0648 => 0x0648

/-- The script has ended, or there is none: DONE, and link training starts (R472). -/
def State.bootEnd (s : State) (entry : Nat) : State :=
  let s := (s.flag F.TOP_BOOT_DONE).setFld F.TOP_BOOT_ENTRY entry
  { s with boot := { s.boot with image := true, script := [], idx := 0, wait := .run, training := true } }

/-- A write entry was refused (R472). -/
def State.bootRefused (s : State) (entry st : Nat) : State :=
  ((s.flag F.TOP_BOOT_REFUSED).setFld F.TOP_BOOT_STATUS st).bootEnd entry

/-- Run script entries, the first with index `i`, to a wait, an unsatisfied poll, or the end (R471, R472). -/
def bootRun (s : State) (i : Nat) : List (Nat × Nat) → State
  | [] => s.bootEnd 0
  | (a, v) :: rest =>
    let off := a % 2 ^ 26
    let op := a / 2 ^ 30 % 4
    if op = 0 then
      if off % 4 ≠ 0 then s.bootRefused i 0x05
      else
        let s := s.pkWrite off (BitVec.ofNat 32 v)
        if s.lastStatus.toNat ≠ 0 then s.bootRefused i s.lastStatus.toNat else bootRun s (i + 1) rest
    else if op = 1 then { s with boot := { s.boot with script := rest, idx := i + 1, wait := .wait } }
    else if op = 2 then
      let o := s.readReg (off / 4 * 4)
      if o.1 &&& BitVec.ofNat 32 v = BitVec.ofNat 32 v then bootRun o.2 (i + 1) rest
      else { o.2 with boot := { o.2.boot with script := (a, v) :: rest, idx := i, wait := .poll } }
    else s.bootEnd i

/-- The flash reads of one copy at `base`, as the straps select (R460, R470): its header, and behind a good one its entries and their CRC
(assumption 235). -/
def State.bootReads (s : State) (base : Nat) (bs : List Byte) : State :=
  let quad := s.board.boot ≠ 0
  let mhz := if s.board.boot = 0 then 25 else 50 * s.board.boot
  let rd := fun (s : State) (a n : Nat) => s.emit (.qspi (if quad then 0x6B else 0x03) a (if quad then 8 else 0) mhz n)
  let s := rd s base 32
  if (bootCheck 0 bs).1 = 1 then s else rd s (base + 32) (8 * leVal (slice bs 12 4) + 4)

/-- BOOT_IMAGE_READ (R470, R472): the bytes of both copies as the flash holds them; the second one is read where the first fails. -/
def execBootImageRead (copyA copyB : List Byte) (s : State) : Host.Outcome State Fault Refusal :=
  if s.boot.image then done s s
  else
    let part := partNo s.board.variant
    let a := bootCheck part copyA
    let b := bootCheck part copyB
    let s := s.bootReads 0 copyA
    let s := if a.2.isSome then s else s.bootReads 0x100000 copyB
    let s' := s.setFld F.TOP_BOOT_FAIL_A a.1
    let go := fun (s : State) (m : BootImg) =>
      let s := { s with boot := { s.boot with image := true, ssvid := m.ssvid, ssid := m.ssid } }
      bootRun (s.setReady 0 true) 0 m.ents
    match a.2, b.2 with
    | some m, _ => done s (go s' m)
    | none, some m => done s (go (s'.flag F.TOP_BOOT_COPY) m)
    | none, none => done s ((s'.setFld F.TOP_BOOT_FAIL_B b.1).bootEnd 0)

/-- BOOT_WAIT_END (R471). -/
def execBootWaitEnd (s : State) : Host.Outcome State Fault Refusal :=
  done s (if s.boot.wait = .wait then bootRun { s with boot := { s.boot with wait := .run } } s.boot.idx s.boot.script else s)

/-- The poll entry under way reads its register again; part of what an idle device does. -/
def State.bootPoll (s : State) : State :=
  if s.boot.wait = .poll then bootRun { s with boot := { s.boot with wait := .run } } s.boot.idx s.boot.script else s

/-- BOOT_POLL_TIMEOUT (R471, R472): 10 ms have passed. -/
def execBootPollTimeout (s : State) : Host.Outcome State Fault Refusal :=
  done s (if s.boot.wait = .poll then (s.flag F.TOP_BOOT_POLL_TO).bootEnd s.boot.idx else s)

/-! ### Warm reset (R461, R462) -/

/-- Registers a warm reset keeps whole, by the base of their row (R71, R124, R224, R289, R461, R417, R423, R426). -/
def warmWhole : List Nat :=
  [R.CFG_SWAP_CNT, R.NP_MAP 0, R.SEG_OBJ_NEXT_LO, R.SEG_OBJ_NEXT_HI, R.CFG_BANK, R.CFG_JOBA, R.CFG_JOBB, R.ENC_POS 0, R.ENC_EPOCH 0, R.TIME_RATE, R.LANE_EQ 0, R.ING_DARK_OFS0 0, R.ING_DARK_OFS1 0,
   R.CAL_SOFS 0, R.CAL_TRIM 0, R.VG_VU_MAP 0 0, R.VG_INFO 0, R.FLT_DEG]

/-- Bits of a register that a warm reset keeps (R461, R462): LD fields and the kept state of the rules. `w` is its value. -/
def warmKeep (off : Nat) (w : Word) : Nat :=
  match findReg off, blockOf off with
  | some r, some b =>
    let base := r.row.base
    if b = .hostq ∨ b = .dmc ∨ rtcReg off ∨ warmWhole.contains base then 0xFFFFFFFF
    else if base = R.CFG_STAT then 0x1
    else if base = R.TIME_STAT then 0x1F
    else if base = R.TOP_DEVID then 0x80000000
    else if base = R.LANE_STAT 0 then (if w.toNat % 8 = lsRetired then 7 else 0)
    else if base = R.NP_STAT 0 then (F.NP_STAT_SPARE_USED 0).mask.toNat
    else if base = R.SEG_OBJ_LIVE ∨ base = R.HP_TK_CNT 0 then 0xFFFF0000
    else if base = R.VG_STAT 0 then 0x20000
    else if base = R.VG_PU_STAT 0 0 then (if w.toNat % 4 = 3 then 0xFFFFFFFF else 3)
    else if base = R.FLT_STAT then (if w.toNat % 2 = 1 then 0x9F else 0x10)
    else if base = R.TOP_READY then 0x33D
    else if base = R.TOP_READY_IO then 0x00FF0000
    else r.row.ld
  | _, _ => 0

/-- The register store after a warm reset. -/
def warmRegs (b : Board) (l : List (Nat × Word)) : List (Nat × Word) :=
  l.filterMap (fun e =>
    let m := BitVec.ofNat 32 (warmKeep e.1 e.2)
    let w := (e.2 &&& m) ||| (resetVal b e.1 &&& ~~~m)
    if w = resetVal b e.1 then none else some (e.1, w))

/-- What the applied STRUCT fixes beside its LD registers starts as after its application; RETIRED lanes stay so (R132, R461). -/
def State.warmStruct (s : State) (d : StructData) : State :=
  let retired := (List.range 114).filter (fun i => s.lst i == lsRetired)
  let s := (List.range 12).foldl (fun s n => s.applyCam d n) s
  let s := retired.foldl (fun s i => s.setFld (F.LANE_STAT_STATE i) lsRetired) s
  let s := s.applySti d
  let s := (List.range 12).foldl (fun s n => s.applyCode d n) s
  let s := { s with vg := { s.vg with
    units := (structPlaces d).map (fun (u : Place) => { vu := u.vu, next := 0, slots := [], outs := [], wins := [] }) } }
  let s := s.applySeg d
  let s := (List.range 8).foldl (fun s n => if s.bit (F.HP_CTL_EN n) then s.enterHot n else s) s
  let s := (s.applyEnc d).applyPp d
  let s := (List.range 2).foldl (fun s p => s.applyLane (112 + p) ((d.eths[p]?).getD {}).en) s
  let s := (List.range 4).foldl (fun s n => ((s.applyDvfs d n).dieReady n).dvfsGo n) s
  s.npReady.cfgReady

/-- Banks after a warm reset (R462): ARMED becomes READY, LOADING and DRAINING become EMPTY. -/
def State.warmBanks (s : State) : State :=
  [false, true].foldl (fun s b =>
    let k := s.bankState b
    if k = 3 then (s.setBank b 2).flag F.CFG_STAT_DISARMED_BY_STOP
    else if k = 1 ∨ k = 5 then s.emptyBank b else s) s

/-- DDR-4 held in self-refresh returns, but for the channels of the mask (R401, R462). -/
def State.warmDdr (s : State) (ddrFail : Nat) : State :=
  ((List.range s.nch).foldl (fun s c =>
    if bitN ddrFail c && s.chanServes c then
      ((s.setFld (F.DMC_CH_STAT_STATE c) 4).flag (F.DMC_CH_STAT_CHK_FAIL c)).setReady (48 + c) false
    else s) s).dmcValid

/-- A warm reset takes effect (R461, R462). `ddrFail` marks the DDR-4 channels in self-refresh that do not return. -/
def State.warmReset (s : State) (ddrFail : Nat) : State :=
  let winter := s.fld F.PWR_STAT_STATE = 2
  let s := s.flr.pinsOff.twWarm
  let c := State.cold s.board
  let s := { c with
    regs := warmRegs s.board s.regs,
    hq := { c.hq with posted := s.hq.posted, linkUp := s.hq.linkUp, pcie := s.hq.pcie, bellCtr := s.hq.bellCtr, slotCtr := s.hq.slotCtr },
    time := { c.time with ts := s.time.ts, evt5 := s.time.evt5, rtc := s.time.rtc, rtcAcc := s.time.rtcAcc,
                          rtcTrim := s.time.rtcTrim, rtcRose := s.time.rtcRose, seedWait := s.time.seedWait },
    cfg := { s.cfg with load := c.cfg.load, swapDone := false, crossAt := 0, stopReq := false, trigDis := true, swapRev := none,
                        warmPend := none },
    enc := s.enc.map (fun (e : EncS) => { e with hist := [], last := none, idxL := 0 }),
    evt := { c.evt with lvl0 := s.evt.lvl0, lvl1 := s.evt.lvl1 },
    vg := { c.vg with regions := s.vg.regions.map (fun (r : RegionS) => { RegionS.init with fallback := r.fallback, gone := r.gone }) },
    flt := { c.flt with plls := s.flt.plls },
    lane := { c.lane with seeds := s.lane.seeds },
    np := s.np.map (fun (x : NpS) => { NpS.init with rxMap := x.rxMap, txMap := x.txMap, count := x.count }),
    dmc := s.dmc.map (fun (d : DmcS) => { d with waiting := [] }), tw := s.tw,
    pwr := { c.pwr with powered := if winter then [] else s.pwr.powered, twUp := s.pwr.twUp },
    boot := s.boot, jtag := s.jtag, scan := s.scan, ddr := s.ddr, poison := s.poison,
    freeCtr := s.freeCtr, out := s.out, pending := s.pending }
  let s := s.warmBanks
  let s := match s.runningBank with
    | some b => s.jobBits b
    | none => s
  let s := if winter then s.warmDdr ddrFail else s
  let s := match s.cfg.struct with
    | some d => s.warmStruct d
    | none => (List.range 4).foldl (fun s n => (s.dieReady n).dvfsGo n) s
  s.twReady

/-- WARM_RESET (R461, R462): one that meets a STRUCT being applied waits for its end. -/
def execWarmReset (ddrFail : BitVec 8) (s : State) : Host.Outcome State Fault Refusal :=
  if s.bit F.CFG_STAT_APPLYING then done s { s with cfg := { s.cfg with warmPend := some ddrFail.toNat } }
  else done s (s.warmReset ddrFail.toNat)

/-- STRUCT_APPLY_DONE (R51, R462). -/
def execStructApplyDone (s : State) : Host.Outcome State Fault Refusal :=
  match s.cfg.warmPend with
  | some m => if s.bit F.CFG_STAT_APPLYING then done s (s.applyStruct.warmReset m) else done s s
  | none => if s.bit F.CFG_STAT_APPLYING then done s s.applyStruct else done s s

end Sys2Proof.Machine
end

