-- ==== Sys2Proof/Machine/Packets.lean ====
section
/-!
DEFINITION. The register and memory packets (R363, R364, R371, R372).
-/
namespace Sys2Proof.Machine

/-- Size of BAR0: 64 MiB (R26). -/
def barBytes : Nat := 2 ^ 26

/-- TARGET rules of the register opcodes for `n` bytes: 4-aligned, and inside BAR0 (R363, R372). -/
def barTarget (target n : Nat) : Nat :=
  if target % 4 ≠ 0 then 0x05 else if barBytes < target + n then 0x06 else 0

/-- TARGET rule of the memory opcodes for `n` bytes: inside installed DDR-4, once DMC_CFG.DONE has fixed it (R318, R363). -/
def State.memTarget (s : State) (target n : Nat) : Nat :=
  if s.bit F.DMC_INSTALLED_VALID && !s.inDdr target n then 0x06 else 0

/-- Ring bytes of the data packet a read of `n` bytes returns, where `n` is allowed (R358). -/
def dataRoom (n max : Nat) : Nat := if 1 ≤ n ∧ n ≤ max then pktBytes n else 0

/-- A data packet that answers a request (R363, R371). -/
def answer (h : PktHdr) (opc flags : Nat) (data : List Byte) : OutPkt :=
  { opc := opc, flags := flags, tag := h.tag, target := h.target, param0 := h.param0, data := data }

/-! ### Registers -/

/-- Write words to ascending offsets until one is refused: the state, the status and the words written (R364). -/
def State.writeWords (s : State) (off n : Nat) : List Word → State × Nat × Nat
  | [] => (s, 0, n)
  | w :: ws =>
    let s := s.pkWrite off w
    if s.lastStatus.toNat = 0 then s.writeWords (off + 4) (n + 1) ws else (s, s.lastStatus.toNat, n)

/-- Read `n` words from ascending offsets (R364). -/
def State.readWords (s : State) (off : Nat) : Nat → List Byte × State
  | 0 => ([], s)
  | n + 1 =>
    let o := s.readReg off
    let r := o.2.readWords (off + 4) n
    (leBytes 4 o.1.toNat ++ r.1, r.2)

/-- The value a read-modify-write stores (R364). -/
def rmwVal (old mask val : Word) : Word := (old &&& ~~~mask) ||| (val &&& mask)

/-- REG_WRITE (R364). -/
def execRegWrite (q : Fin 32) (pkt : List Byte) (s : State) : Host.Outcome State Fault Refusal :=
  let h := pktHdr pkt
  let ws := pktWords pkt
  done s (s.packet q 0x0001 h true 0
    (fun _ => if h.len % 4 ≠ 0 then 0x04 else barTarget h.target h.len)
    (fun _ => if h.param0 ≠ 0 ∨ h.param1 ≠ 0 then 0x08 else 0)
    (fun s k =>
      let r := s.writeWords h.target 0 ws
      r.1.finish q h k r.2.1 r.2.2))

/-- REG_READ (R364). -/
def execRegRead (q : Fin 32) (pkt : List Byte) (s : State) : Host.Outcome State Fault Refusal :=
  let h := pktHdr pkt
  done s (s.packet q 0x0002 h false (dataRoom (4 * h.param0) 65532)
    (fun _ => if h.len ≠ 0 then 0x04 else barTarget h.target (4 * h.param0))
    (fun _ => if h.param0 = 0 ∨ 16383 < h.param0 then 0x04 else if h.param1 ≠ 0 then 0x08 else 0)
    (fun s k =>
      let r := s.readWords h.target h.param0
      r.2.finish q h k 0 h.param0 [answer h 0x8002 0 r.1]))

/-- REG_RMW (R364): PARAM0 is the mask, PARAM1 the value; RESULT is the old value. -/
def execRegRmw (q : Fin 32) (pkt : List Byte) (s : State) : Host.Outcome State Fault Refusal :=
  let h := pktHdr pkt
  done s (s.packet q 0x0003 h true 0
    (fun _ => if h.len ≠ 0 then 0x04 else barTarget h.target 4)
    (fun _ => 0)
    (fun s k =>
      let o := s.readReg h.target
      let s := o.2.pkWrite h.target (rmwVal o.1 (BitVec.ofNat 32 h.param0) (BitVec.ofNat 32 h.param1))
      s.finish q h k s.lastStatus.toNat o.1.toNat))

/-! ### DDR-4 -/

/-- MEM_WRITE (R364, R321). -/
def execMemWrite (q : Fin 32) (pkt : List Byte) (s : State) : Host.Outcome State Fault Refusal :=
  let h := pktHdr pkt
  let bytes := pktData pkt
  done s (s.packet q 0x0010 h true 0
    (fun s => s.memTarget h.target h.len)
    (fun _ => if h.param0 ≠ 0 ∨ h.param1 ≠ 0 then 0x08 else 0)
    (fun s k =>
      if !s.bit F.DMC_INSTALLED_VALID then s.finish q h k 0x65 0
      else (s.memStore h.target bytes).finish q h k 0 bytes.length))

/-- MEM_READ (R364): poisoned lines read as zeros, with POISON in FLAGS and status 0x60. -/
def execMemRead (q : Fin 32) (pkt : List Byte) (s : State) : Host.Outcome State Fault Refusal :=
  let h := pktHdr pkt
  done s (s.packet q 0x0011 h false (dataRoom h.param0 65532)
    (fun s => if h.len ≠ 0 then 0x04 else s.memTarget h.target h.param0)
    (fun _ => if h.param0 = 0 ∨ 65532 < h.param0 then 0x04 else if h.param1 ≠ 0 then 0x08 else 0)
    (fun s k =>
      let bad := s.poisoned h.target h.param0
      if !s.bit F.DMC_INSTALLED_VALID then s.finish q h k 0x65 0
      else (s.ddrRead h.target h.param0).finish q h k (if bad then 0x60 else 0) h.param0
        [answer h 0x8011 (b2n bad) (s.memReadZ h.target h.param0)]))

end Sys2Proof.Machine
end

