-- ==== Sys2Proof/Machine/Dispatch.lean ====
section
/-!
DEFINITION. One arm per command: each calls its meaning, which does everything but the queue (R1 to R474).
-/
namespace Sys2Proof.Machine

/-- The effect of a command on everything but the queue. -/
def exec (i : Instr) (s : State) : Host.Outcome State Fault Refusal :=
  match i with
  | .registerWrite off val be => Sys2Proof.Machine.execRegisterWrite off val be s
  | .reservedAccess off write val => Sys2Proof.Machine.execReservedAccess off write val s
  | .blockWakeDone b => Sys2Proof.Machine.execBlockWakeDone b s
  | .devIdWrite id => Sys2Proof.Machine.execDevIdWrite id s
  | .cfgLoad q pkt => Sys2Proof.Machine.execCfgLoad q pkt s
  | .loadValidate => Sys2Proof.Machine.execLoadValidate s
  | .structApplyDone => Sys2Proof.Machine.execStructApplyDone s
  | .loadAbort => Sys2Proof.Machine.execLoadAbort s
  | .pipelineStop => Sys2Proof.Machine.execPipelineStop s
  | .pipelineDrained => Sys2Proof.Machine.execPipelineDrained s
  | .pipelineRun => Sys2Proof.Machine.execPipelineRun s
  | .swapArm chan => Sys2Proof.Machine.execSwapArm chan s
  | .swapDisarm chan => Sys2Proof.Machine.execSwapDisarm chan s
  | .swapNow chan => Sys2Proof.Machine.execSwapNow chan s
  | .bankDrainDone bankB => Sys2Proof.Machine.execBankDrainDone bankB s
  | .encoderStep n lineB => Sys2Proof.Machine.execEncoderStep n lineB s
  | .quadratureError n => Sys2Proof.Machine.execQuadratureError n s
  | .deadTimeEnd n line => Sys2Proof.Machine.execDeadTimeEnd n line s
  | .standstill n => Sys2Proof.Machine.execStandstill n s
  | .indexEdge n level => Sys2Proof.Machine.execIndexEdge n level s
  | .interpolatedHit us => Sys2Proof.Machine.execInterpolatedHit us s
  | .deferredHit us => Sys2Proof.Machine.execDeferredHit us s
  | .cuSpacingWrite u val => Sys2Proof.Machine.execCuSpacingWrite u val s
  | .cuSpacingHiWrite u val => Sys2Proof.Machine.execCuSpacingHiWrite u val s
  | .absTimerStart n => Sys2Proof.Machine.execAbsTimerStart n s
  | .absCycleDone n raw errLow warnLow crc => Sys2Proof.Machine.execAbsCycleDone n raw errLow warnLow crc s
  | .absStartTimeout n => Sys2Proof.Machine.execAbsStartTimeout n s
  | .switchInputChange n pin => Sys2Proof.Machine.execSwitchInputChange n pin s
  | .switchAccept n => Sys2Proof.Machine.execSwitchAccept n s
  | .pulsePinEnd c => Sys2Proof.Machine.execPulsePinEnd c s
  | .consumerBusyEnd c => Sys2Proof.Machine.execConsumerBusyEnd c s
  | .irqHoldoffTimer q => Sys2Proof.Machine.execIrqHoldoffTimer q s
  | .event q pkt => Sys2Proof.Machine.execEvent q pkt s
  | .laneLock ln skew => Sys2Proof.Machine.execLaneLock ln skew s
  | .laneLockLoss ln code disp => Sys2Proof.Machine.execLaneLockLoss ln code disp s
  | .rateHuntDwell ln => Sys2Proof.Machine.execRateHuntDwell ln s
  | .cxpPacket n link late tag stream crcOk first fmt line ofs pix => Sys2Proof.Machine.execCxpPacket n link late tag stream crcOk first fmt line ofs pix s
  | .downlinkTrigger n => Sys2Proof.Machine.execDownlinkTrigger n s
  | .cxpCtrlReceived n heartbeat bytes => Sys2Proof.Machine.execCxpCtrlReceived n heartbeat bytes s
  | .masterLossTimeout n => Sys2Proof.Machine.execMasterLossTimeout n s
  | .laneRetire ln code disp => Sys2Proof.Machine.execLaneRetire ln code disp s
  | .cameraLinkAck n ok => Sys2Proof.Machine.execCameraLinkAck n ok s
  | .laneEqSeedWrite ln val => Sys2Proof.Machine.execLaneEqSeedWrite ln val s
  | .laneCtlWrite ln val => Sys2Proof.Machine.execLaneCtlWrite ln val s
  | .eyeScanStart ln val => Sys2Proof.Machine.execEyeScanStart ln val s
  | .eyeScanDone ln errors => Sys2Proof.Machine.execEyeScanDone ln errors s
  | .identTimer p => Sys2Proof.Machine.execIdentTimer p s
  | .identFrame p devId ack => Sys2Proof.Machine.execIdentFrame p devId ack s
  | .npRetrain p => Sys2Proof.Machine.execNpRetrain p s
  | .nimebDataFrame p vc dst src seq ack fcrcOk payload => Sys2Proof.Machine.execNimebDataFrame p vc dst src seq ack fcrcOk payload s
  | .nakReceived p ackSeq => Sys2Proof.Machine.execNakReceived p ackSeq s
  | .creditFrame p c0 c1 c2 c3 ack => Sys2Proof.Machine.execCreditFrame p c0 c1 c2 c3 ack s
  | .creditReturnTimer p => Sys2Proof.Machine.execCreditReturnTimer p s
  | .laneSwapFrame p logical lane marker ack => Sys2Proof.Machine.execLaneSwapFrame p logical lane marker ack s
  | .laneSwapApply p tx => Sys2Proof.Machine.execLaneSwapApply p tx s
  | .lineEnd n stagFull => Sys2Proof.Machine.execLineEnd n stagFull s
  | .tagTimeout n stagFull => Sys2Proof.Machine.execTagTimeout n stagFull s
  | .darkCapt n => Sys2Proof.Machine.execDarkCapt n s
  | .ingFlip n => Sys2Proof.Machine.execIngFlip n s
  | .ingFlipApply n => Sys2Proof.Machine.execIngFlipApply n s
  | .staggerReadReturn n => Sys2Proof.Machine.execStaggerReadReturn n s
  | .stitchLineForm => Sys2Proof.Machine.execStitchLineForm s
  | .seamRegistration => Sys2Proof.Machine.execSeamRegistration s
  | .seamSeedWrite k val => Sys2Proof.Machine.execSeamSeedWrite k val s
  | .umapFlip => Sys2Proof.Machine.execUmapFlip s
  | .vuLineProcess vu ce => Sys2Proof.Machine.execVuLineProcess vu ce s
  | .vuFault pu kind word => Sys2Proof.Machine.execVuFault pu kind word s
  | .vuWatchdog vu => Sys2Proof.Machine.execVuWatchdog vu s
  | .spareLoadDone n => Sys2Proof.Machine.execSpareLoadDone n s
  | .retireWindowClose pu => Sys2Proof.Machine.execRetireWindowClose pu s
  | .replayCaughtUp n => Sys2Proof.Machine.execReplayCaughtUp n s
  | .blockCommit n => Sys2Proof.Machine.execBlockCommit n s
  | .segResolve => Sys2Proof.Machine.execSegResolve s
  | .spillDrain => Sys2Proof.Machine.execSpillDrain s
  | .ethGatherTimer port => Sys2Proof.Machine.execEthGatherTimer port s
  | .masterFetch bankB idx tile block => Sys2Proof.Machine.execMasterFetch bankB idx tile block s
  | .firePulseEnd n => Sys2Proof.Machine.execFirePulseEnd n s
  | .waveWindowEnd n => Sys2Proof.Machine.execWaveWindowEnd n s
  | .latchPulse n => Sys2Proof.Machine.execLatchPulse n s
  | .latchPulseEnd n => Sys2Proof.Machine.execLatchPulseEnd n s
  | .shiftDone n => Sys2Proof.Machine.execShiftDone n s
  | .lineCycleEnd n => Sys2Proof.Machine.execLineCycleEnd n s
  | .printFetchDone n => Sys2Proof.Machine.execPrintFetchDone n s
  | .heatOkAccept n level => Sys2Proof.Machine.execHeatOkAccept n level s
  | .takeoverAdd n nozzle => Sys2Proof.Machine.execTakeoverAdd n nozzle s
  | .takeoverRemove n nozzle => Sys2Proof.Machine.execTakeoverRemove n nozzle s
  | .frameStart p => Sys2Proof.Machine.execFrameStart p s
  | .ppLineEnd p pix qFull => Sys2Proof.Machine.execPpLineEnd p pix qFull s
  | .frameEnd p => Sys2Proof.Machine.execFrameEnd p s
  | .ispFrameTakeup => Sys2Proof.Machine.execIspFrameTakeup s
  | .ispFrameDone => Sys2Proof.Machine.execIspFrameDone s
  | .ispCropWrite c second val => Sys2Proof.Machine.execIspCropWrite c second val s
  | .tsWrap => Sys2Proof.Machine.execTsWrap s
  | .tsPps => Sys2Proof.Machine.execTsPps s
  | .timeAdjEnd => Sys2Proof.Machine.execTimeAdjEnd s
  | .timeRateWrite val => Sys2Proof.Machine.execTimeRateWrite val s
  | .timeAdjTicksWrite val => Sys2Proof.Machine.execTimeAdjTicksWrite val s
  | .timeNowRead => Sys2Proof.Machine.execTimeNowRead s
  | .tsSeed => Sys2Proof.Machine.execTsSeed s
  | .timeStep hi => Sys2Proof.Machine.execTimeStep hi s
  | .timeStepFromUp => Sys2Proof.Machine.execTimeStepFromUp s
  | .ethRx port frame fcsOk => Sys2Proof.Machine.execEthRx port frame fcsOk s
  | .ethTx q pkt => Sys2Proof.Machine.execEthTx q pkt s
  | .launch port => Sys2Proof.Machine.execLaunch port s
  | .timeReqSend => Sys2Proof.Machine.execTimeReqSend s
  | .timeFrame port payload ack => Sys2Proof.Machine.execTimeFrame port payload ack s
  | .timeExchangeTimeout => Sys2Proof.Machine.execTimeExchangeTimeout s
  | .rtcSet => Sys2Proof.Machine.execRtcSet s
  | .rtcSetApply => Sys2Proof.Machine.execRtcSetApply s
  | .rtcSync => Sys2Proof.Machine.execRtcSync s
  | .rtcTrim => Sys2Proof.Machine.execRtcTrim s
  | .oscStop => Sys2Proof.Machine.execOscStop s
  | .vbatLoss => Sys2Proof.Machine.execVbatLoss s
  | .sdfSample n bits => Sys2Proof.Machine.execSdfSample n bits s
  | .sdfPeriodUpdate g per => Sys2Proof.Machine.execSdfPeriodUpdate g per s
  | .sdfClockLost g => Sys2Proof.Machine.execSdfClockLost g s
  | .sdfClockReturn g => Sys2Proof.Machine.execSdfClockReturn g s
  | .sdfFsync rising joined => Sys2Proof.Machine.execSdfFsync rising joined s
  | .swSync joined => Sys2Proof.Machine.execSwSync joined s
  | .sdfSyncApply g => Sys2Proof.Machine.execSdfSyncApply g s
  | .sdfChannelEnable n val => Sys2Proof.Machine.execSdfChannelEnable n val s
  | .sdfChannelDisable n val => Sys2Proof.Machine.execSdfChannelDisable n val s
  | .ddrRequest a wr ofs who err syn => Sys2Proof.Machine.execDdrRequest a wr ofs who err syn s
  | .rowCopyDone c => Sys2Proof.Machine.execRowCopyDone c s
  | .rankCopyDone c => Sys2Proof.Machine.execRankCopyDone c s
  | .dmcConfigDone nch8 => Sys2Proof.Machine.execDmcConfigDone nch8 s
  | .dmcInit c val => Sys2Proof.Machine.execDmcInit c val s
  | .dmcInitDone c ok => Sys2Proof.Machine.execDmcInitDone c ok s
  | .dlyApply c val => Sys2Proof.Machine.execDlyApply c val s
  | .refresh c rank => Sys2Proof.Machine.execRefresh c rank s
  | .powerDownEntry c rank => Sys2Proof.Machine.execPowerDownEntry c rank s
  | .patrolScrub c err syn => Sys2Proof.Machine.execPatrolScrub c err syn s
  | .dmaStart n val => Sys2Proof.Machine.execDmaStart n val s
  | .dmaAbort n acc host => Sys2Proof.Machine.execDmaAbort n acc host s
  | .dmaComplete n host => Sys2Proof.Machine.execDmaComplete n host s
  | .remoteTimeout n => Sys2Proof.Machine.execRemoteTimeout n s
  | .functionLevelReset => Sys2Proof.Machine.execFunctionLevelReset s
  | .perst => Sys2Proof.Machine.execPerst s
  | .queueEnable q => Sys2Proof.Machine.execQueueEnable q s
  | .queueDisable q => Sys2Proof.Machine.execQueueDisable q s
  | .queueDoorbell q tail => Sys2Proof.Machine.execQueueDoorbell q tail s
  | .queueHeadWrite q head => Sys2Proof.Machine.execQueueHeadWrite q head s
  | .creditLateTimeout q => Sys2Proof.Machine.execCreditLateTimeout q s
  | .packetHcrcFail q => Sys2Proof.Machine.execPacketHcrcFail q s
  | .nop q pkt => Sys2Proof.Machine.execNop q pkt s
  | .regWrite q pkt => Sys2Proof.Machine.execRegWrite q pkt s
  | .regRead q pkt => Sys2Proof.Machine.execRegRead q pkt s
  | .regRmw q pkt => Sys2Proof.Machine.execRegRmw q pkt s
  | .memWrite q pkt => Sys2Proof.Machine.execMemWrite q pkt s
  | .memRead q pkt => Sys2Proof.Machine.execMemRead q pkt s
  | .cxpCtrl q pkt => Sys2Proof.Machine.execCxpCtrl q pkt s
  | .twGo n val => Sys2Proof.Machine.execTwGo n val s
  | .twTransferDone n addrAck rdAck acked rd => Sys2Proof.Machine.execTwTransferDone n addrAck rdAck acked rd s
  | .twAbort n stopBegun => Sys2Proof.Machine.execTwAbort n stopBegun s
  | .arbLost n addr read bytes count => Sys2Proof.Machine.execArbLost n addr read bytes count s
  | .sclTo n => Sys2Proof.Machine.execSclTo n s
  | .sdaTo n began => Sys2Proof.Machine.execSdaTo n began s
  | .busclr n => Sys2Proof.Machine.execBusclr n s
  | .busClearDone n freed => Sys2Proof.Machine.execBusClearDone n freed s
  | .targetAddressMatch addr read bytes count => Sys2Proof.Machine.execTargetAddressMatch addr read bytes count s
  | .targetStop => Sys2Proof.Machine.execTargetStop s
  | .srInAck stop => Sys2Proof.Machine.execSrInAck stop s
  | .hostNotify data => Sys2Proof.Machine.execHostNotify data s
  | .notifyDone addrAck acked => Sys2Proof.Machine.execNotifyDone addrAck acked s
  | .pmbusPoll vout ok => Sys2Proof.Machine.execPmbusPoll vout ok s
  | .pmbusSetDone status ok => Sys2Proof.Machine.execPmbusSetDone status ok s
  | .pmbusTimeout => Sys2Proof.Machine.execPmbusTimeout s
  | .pwrSummer ddrFail => Sys2Proof.Machine.execPwrSummer ddrFail s
  | .pwrAutumn ddrFail => Sys2Proof.Machine.execPwrAutumn ddrFail s
  | .pwrWinter => Sys2Proof.Machine.execPwrWinter s
  | .blockAnswer answer code => Sys2Proof.Machine.execBlockAnswer answer code s
  | .delayRetry => Sys2Proof.Machine.execDelayRetry s
  | .blockGate b => Sys2Proof.Machine.execBlockGate b s
  | .tableWakeStep => Sys2Proof.Machine.execTableWakeStep s
  | .dieRestoreDone d crcOk => Sys2Proof.Machine.execDieRestoreDone d crcOk s
  | .dvfsTargetWrite d v => Sys2Proof.Machine.execDvfsTargetWrite d v s
  | .dvfsFreqSwitch d => Sys2Proof.Machine.execDvfsFreqSwitch d s
  | .tempSample k raw => Sys2Proof.Machine.execTempSample k raw s
  | .runNow => Sys2Proof.Machine.execRunNow s
  | .calRunDone d trim ofs won => Sys2Proof.Machine.execCalRunDone d trim ofs won s
  | .heartbeatSend => Sys2Proof.Machine.execHeartbeatSend s
  | .heartbeatReceived frame => Sys2Proof.Machine.execHeartbeatReceived frame s
  | .partnerLost => Sys2Proof.Machine.execPartnerLost s
  | .claimFrame newC oldC ack => Sys2Proof.Machine.execClaimFrame newC oldC ack s
  | .frostEnd => Sys2Proof.Machine.execFrostEnd s
  | .demote => Sys2Proof.Machine.execDemote s
  | .genLower => Sys2Proof.Machine.execGenLower s
  | .promote => Sys2Proof.Machine.execPromote s
  | .handover => Sys2Proof.Machine.execHandover s
  | .resync => Sys2Proof.Machine.execResync s
  | .resyncCapture b0 => Sys2Proof.Machine.execResyncCapture b0 s
  | .resyncAlign c => Sys2Proof.Machine.execResyncAlign c s
  | .resyncTimeout => Sys2Proof.Machine.execResyncTimeout s
  | .shadowFrame p dst src seq ack fcrcOk body => Sys2Proof.Machine.execShadowFrame p dst src seq ack fcrcOk body s
  | .shadowUnmatchedTimeout own => Sys2Proof.Machine.execShadowUnmatchedTimeout own s
  | .fatalFault what => Sys2Proof.Machine.execFatalFault what s
  | .forceFatal => Sys2Proof.Machine.execForceFatal s
  | .release => Sys2Proof.Machine.execRelease s
  | .coldReset tsSrc pairRank boot => Sys2Proof.Machine.execColdReset tsSrc pairRank boot s
  | .warmReset ddrFail => Sys2Proof.Machine.execWarmReset ddrFail s
  | .bootImageRead copyA copyB => Sys2Proof.Machine.execBootImageRead copyA copyB s
  | .bootWaitEnd => Sys2Proof.Machine.execBootWaitEnd s
  | .bootPollTimeout => Sys2Proof.Machine.execBootPollTimeout s
  | .pcieTrainStart => Sys2Proof.Machine.execPcieTrainStart s
  | .dieRailUp d => Sys2Proof.Machine.execDieRailUp d s
  | .jtagInstruction code tdi => Sys2Proof.Machine.execJtagInstruction code tdi s
  | .pllLock k => Sys2Proof.Machine.execPllLock k s
  | .pcieLinkUp up speed width bme space => Sys2Proof.Machine.execPcieLinkUp up speed width bme space s
  | .completionTimeout n queue => Sys2Proof.Machine.execCompletionTimeout n queue s
  | .rtcSecRead => Sys2Proof.Machine.execRtcSecRead s
  | .openPageIdleClose c bank => Sys2Proof.Machine.execOpenPageIdleClose c bank s
  | .busClearAfterTbuf n => Sys2Proof.Machine.execBusClearAfterTbuf n s
  | .dclRdWord w => Sys2Proof.Machine.execDclRdWord w s

end Sys2Proof.Machine
end

