-- ==== Sys2Proof/Machine/Idle.lean ====
section
/-!
DEFINITION. What the device does with no command waiting (assumption 6): one TS_CLK edge, what its engines do of themselves, and what
reaches it beside the commands (assumption 186).
-/
namespace Sys2Proof.Machine

/-- What reaches the device beside the commands in one clock period: nothing, or one thing whose moment and amount are open (assumption
186). -/
def State.ambient (s : State) : State :=
  let a := Config.ambient s.freeCtr
  let s := { s with freeCtr := s.freeCtr + 1 }
  match a with
  | .quiet => s
  | .laneErrors i code disp => if s.aligned i then s.laneErrs i code.toNat disp.toNat else s
  | .hiBer p on => s.hiBer p on
  | .fec p corr uncorr => s.fecCount p corr.toNat uncorr.toNat
  | .taps i w => s.adapts i w
  | .prbs i errors => s.prbsCount i errors.toNat
  | .skew i blocks => s.laneSkew (96 + i.val) blocks.toNat
  | .stitchEcc (some c) k => s.stitchEccCam c k.toNat
  | .stitchEcc none k => s.stitchEccOut k.toNat
  | .vbat low => s.setBit F.RTC_STAT_VBAT_LOW low
  | .pmbAlert low => s.setBit F.TW0_PMB_STAT_ALERT low
  | .badFrame p fcrcOk => if s.npSt p = npIdent ∨ s.npSt p = npStUp then s.nimBad p (!fcrcOk && s.npSt p == npStUp) else s

/-- One TS_CLK edge, the Nimeb blocks, the write queues, the two-wire pins, the fault and pairing engines, the boot script's poll, and what
reaches the device beside the commands; a rise of the fault summary gives its notice, as at the end of a command (R376). -/
def State.idle (s : State) : State := (s.tick.nimTick.dmcDrain.twSample.fltTick.shadowStep.bootPoll.ambient).settle s

end Sys2Proof.Machine
end

