-- ==== Sys2Proof/Safety.lean ====
section
/-!
DEFINITION. What claims mean by a good state and a good step: the stores are in canonical form, the device goes on, a command
completes, and what it may change.
-/
namespace Sys2Proof.Machine

/-- The register store, DDR-4 and the poisoned lines are in their one canonical form: addresses rise, and nothing is listed that reads
as an unlisted entry does. -/
def Canon (s : State) : Prop :=
  regsWf s.board s.regs = true ∧ memWf s.ddr = true ∧ s.poison.Pairwise (· < ·)

/-- The machine's own order: at most one bank is ARMED and one RUNNING, and a bank that is loaded holds its JOB (R44, R55, R57); launch queues stand
by launch time (R295), takeover tables by nozzle (R264, R265); a fatal fault keeps the device in frost hold (R427, R435). -/
structure InOrder (s : State) : Prop where
  armed    : ¬ (s.bankState false = 3 ∧ s.bankState true = 3)
  running  : ¬ (s.bankState false = 4 ∧ s.bankState true = 4)
  loaded   : ∀ b, 2 ≤ s.bankState b → (s.job b).isSome = true
  launches : ∀ p : Fin 2, (s.time.launch[p].map (·.launch)).Pairwise (· ≤ ·)
  nozzles  : ∀ n : Fin 8, (s.prt[n].tk.map (·.nozzle)).Pairwise (· < ·)
  frost    : s.bit F.FLT_STAT_FATAL = true → s.bit F.FLT_STAT_FROST = true

/-- RELEASE, and the commands that may write one register: FLT_CTL among them (R427). -/
def mayRelease : Instr → Bool
  | .release | .registerWrite .. | .reservedAccess .. | .regRmw .. => true
  | _ => false

/-- The commands that reset registers, or write many of them in a row. -/
def writesMany : Instr → Bool
  | .coldReset .. | .regWrite .. | .bootImageRead .. | .bootWaitEnd => true
  | _ => false

/-- The step from `s` ends in a next state. -/
def GoesOn (s : State) : Prop := ∃ t, step s = .next t

/-- The bits of a register that the listed fields cover. -/
def fieldBits : List Fld → Nat → Word
  | [], _ => 0
  | f :: fs, off => (if f.off = off then f.mask else 0) ||| fieldBits fs off

/-- All 32 bits of a register, as a field. -/
def whole (off : Nat) : Fld := ⟨off, 0, 32⟩

/-- Everything in the state but the registers and the bytes of DDR-4. -/
def State.rest (s : State) : State := { s with regs := [], ddr := [] }

/-- From `s` to `v` nothing changes but the listed fields: no other bit of a register, no byte of DDR-4, nothing no register shows, and
nothing is sent. -/
structure Frame (s v : State) (fs : List Fld) : Prop where
  regs : ∀ off, v.rd off &&& ~~~fieldBits fs off = s.rd off &&& ~~~fieldBits fs off
  mem  : ∀ a, memGet v.ddr a = memGet s.ddr a
  rest : v.rest = s.rest

/-- As `Frame`, but the DDR-4 bytes `a` to `a + n - 1` may change too. -/
structure FrameStore (s v : State) (a n : Nat) (fs : List Fld) : Prop where
  regs : ∀ off, v.rd off &&& ~~~fieldBits fs off = s.rd off &&& ~~~fieldBits fs off
  mem  : ∀ x, x < a ∨ a + n ≤ x → memGet v.ddr x = memGet s.ddr x
  rest : v.rest = s.rest

/-- No register changes but those for which `w` holds. -/
def FrameRegs (s v : State) (w : Nat → Bool) : Prop := ∀ off, w off = false → v.rd off = s.rd off

/-- The bytes of DDR-4 that the spill area takes (R239): a record, and so a fault record, may go there. -/
def State.spillByte (s : State) (a : Nat) : Bool := decide (s.spillAddr 0 ≤ a) && decide (a < s.spillAddr 0 + 64 * spillMax)

/-- No byte of DDR-4 changes but those for which `w` holds. -/
def FrameMem (s v : State) (w : Nat → Bool) : Prop := ∀ a, w a = false → memGet v.ddr a = memGet s.ddr a

/-- Does an offset lie in one of the blocks? -/
def inBlocks (bs : List Block) (off : Nat) : Bool :=
  match blockOf off with
  | some b => bs.contains b
  | none => false

/-- `v` comes of the operation `op` from a state that `Q` describes: so a command's own effect is said apart from what the event matrix
(`State.raise`) or the record output (`State.record`) then does with it. -/
def After (op : State → State) (Q : State → Prop) (v : State) : Prop := ∃ u, v = op u ∧ Q u

/-- Command `c` completes from `s`: exec answers a next state. It is the state `v` that `P` describes, after `State.settle`: the gates formed
outside EVT_CLK follow (R95), and a rise of a fault-summary bit gives its notice (R376). -/
def Completes (c : Instr) (s : State) (P : State → Prop) : Prop :=
  ∃ v, exec c s = .next (v.settle s) ∧ P v


/-- A rise of channel `n`'s Z is accepted (R68). -/
def State.zRisen (s : State) (n : Fin 4) : State :=
  { s with enc := vput s.enc n { (s.encSt n) with sz := true, z := true, deadZ := s.fld (F.ENC_CTL_DEAD n) != 0 } }

/-- What leaves port `p` for a frame sent from `s` (R125, R127), whatever the number of idle blocks ahead of it. -/
def sentFrame (s : State) (p : Fin 4) (ty flags dst src seq ack : Nat) (payload : List Byte) : Out :=
  let idle := Config.idleBlocks p (s.npS p).count
  .nimeb p idle (frameBlocks (s.txLanes p) ((s.npS p).next + idle) (frameBytes ty flags dst src seq ack payload))

/-- What DCL_D is told from `s` with claim number `c` (R427, R432), where the scan chain does not hold it (R473). -/
def claimOut (s : State) (c : Nat) : List Out :=
  if s.scanDrives then [] else [.claim (if s.bit F.FLT_PAIR_CFG_PAIR_EN && !s.bit F.FLT_STAT_FATAL then some (claimBits c) else none)]

/-! ### Packets -/

/-- The bytes are a packet of opcode `opc` for queue `q` that passes the checks of R362 common to all opcodes, with FENCE and NO_COMP clear
(R360, R361). -/
structure Plain (q : Fin 32) (opc : Nat) (pkt : List Byte) : Prop where
  opc   : (pktHdr pkt).opc = opc
  qid   : (pktHdr pkt).qid = q
  flags : (pktHdr pkt).flags = 0 ∨ (pktHdr pkt).flags = 4
  rsvd  : (pktHdr pkt).rsvd = 0
  hcrc  : (pktHdr pkt).hcrcOk = true
  pcrc  : (pktHdr pkt).len ≠ 0 → (pktHdr pkt).pcrcOk = true
  data  : (pktData pkt).length = (pktHdr pkt).len

/-- The completion of a packet of queue `q` (R371). -/
def compOf (q : Fin 32) (pkt : List Byte) (st result : Nat) : HostEntry :=
  .comp { src := q, status := st, tag := (pktHdr pkt).tag, result := result }

/-- Queue `q` offers a packet and its completion queue has room for `n` bytes (R356, R358, R362); no completion is owed before it. -/
structure Offered (s : State) (q : Fin 32) (n : Nat) : Prop where
  offers : s.offers q = true
  room   : s.hasRoom (s.fld (F.HQ_CFG_CQ q)) n = true
  first  : s.hq.slots[q] = []

/-- Registers of TOP, NIM, ENC, TIME and FLT whose write does more than store, or may be refused. -/
def ownWrites : List Nat :=
  [R.NP_CTL 0, R.NIM_ROUTE 0, R.ENC_CTL 0, R.ENC_IDX_PERIOD 0, R.CU_CTL 0, R.CU_SPACING 0, R.CU_SPACING_HI 0, R.CU_NEXT_INT 0, R.CU_NEXT_FRAC 0,
   R.CU_STAT 0, R.ABS_CTL 0, R.ABS_STAT 0, R.SW_CTL, R.TIME_CTL, R.TIME_STEP_HI, R.TIME_RATE, R.TIME_ADJ_RATE, R.TIME_ADJ_TICKS, R.RTC_CTL,
   R.FLT_CTL, R.FLT_PAIR_CFG, R.FLT_PAIR_CMD, R.TOP_DEVID]

/-- The commands by which a packet of queue `q` is taken in. -/
def packetCommands (q : Fin 32) (pkt : List Byte) : List Instr :=
  [.nop q pkt, .event q pkt, .regRead q pkt, .regRmw q pkt, .regWrite q pkt, .memRead q pkt, .memWrite q pkt, .cfgLoad q pkt,
   .cxpCtrl q pkt, .ethTx q pkt]

/-- The counts of reads that the write queues answered (R322). -/
def fwdCounts : List Fld := (List.range 8).map (fun c => F.DMC_CH_USE_FWD_CNT c)

/-- The registers that taking in a packet of queue `q` changes for its own sake: HEAD and CQ_WAIT of the queue, TAIL and FULL of its
completion queue, and the pending bits of MSI-X. -/
def packetFields (s : State) (q : Fin 32) : List Fld :=
  let c := 32 + s.fld (F.HQ_CFG_CQ q)
  [F.HQ_HEAD_OFS q, F.HQ_STAT_CQ_WAIT q, F.HQ_TAIL_OFS c, F.HQ_STAT_FULL c, whole (R.MSIX_PBA 0), whole (R.MSIX_PBA 1)]

/-- A packet of queue `q` with `len` data bytes was taken in and the entries `es` were posted for it, with the last status `st`: HEAD passes
the packet, the entries stand at the end of what was posted to its completion queue, TAIL passes them, and nothing is owed. -/
structure Answered (s v : State) (q : Fin 32) (len st : Nat) (es : List HostEntry) : Prop where
  head   : s.fld (F.HQ_CFG_SIZE q) ≤ 26 →
    v.fld (F.HQ_HEAD_OFS q) = (s.fld (F.HQ_HEAD_OFS q) + pktBytes len) % 2 ^ s.fld (F.HQ_CFG_SIZE q)
  posted : v.hq.posted = s.hq.posted ++ es.map (fun e => (s.fld (F.HQ_CFG_CQ q), e))
  tail   : let c := 32 + s.fld (F.HQ_CFG_CQ q)
    es ≠ [] → s.fld (F.HQ_CFG_SIZE c) ≤ 26 →
    v.fld (F.HQ_TAIL_OFS c) = (s.fld (F.HQ_TAIL_OFS c) + (es.map HostEntry.ringBytes).sum) % 2 ^ s.fld (F.HQ_CFG_SIZE c)
  slots  : v.hq.slots = s.hq.slots
  status : v.lastStatus = BitVec.ofNat 8 st
  sent   : s.out <+: v.out

/-! ### DMA transfers -/

/-- The fields that the end of channel `n`'s transfer changes, but for the flag that says how it ended: its own, its compression
channel's BUSY, and what posting the completion changes. -/
def endFields (s : State) (n : Nat) : List Fld :=
  let q := 32 + s.fld (F.DM_CTL_QID n)
  [F.DM_STAT_BUSY n, F.DM_STAT_CAUSE n, whole (R.DM_XFER n), F.DMA_SHARE_SUM, F.HQ_TAIL_OFS q, F.HQ_STAT_FULL q,
   whole (R.MSIX_PBA 0), whole (R.MSIX_PBA 1)] ++
    if s.fld (F.DM_CFG_COMP n) = 0 then [] else [F.CMP_CC_STAT_BUSY (s.fld (F.DM_CFG_CC n))]

/-- Channel `n` has ended with status `st`, cause `cause` and `x` bytes: one completion is posted, the channel is idle, and nothing
hidden is left of the transfer but its tag. -/
structure Ended (s v : State) (n : Fin 32) (st cause x : Nat) (late : Bool) : Prop where
  posted : v.hq.posted = s.hq.posted ++
    [(s.fld (F.DM_CTL_QID n), .comp { src := 0x40 + n, status := st, flags := b2n late, result := x })]
  busy   : v.bit (F.DM_STAT_BUSY n) = false
  cause  : v.fld (F.DM_STAT_CAUSE n) = cause
  xfer   : v.rdN (R.DM_XFER n) = x
  hidden : v.dma = s.dma.set n { DmaS.init with tag := s.dma[n].tag }

end Sys2Proof.Machine
end

