-- ==== Sys2Proof/Certificates/Slice0/Obligations.lean ====
section
/-!
DEFINITION. The statements for the provers: what each command does to the registers, the queues, the engines' state and DDR-4, and what it
leaves unchanged; how a step runs a command; what every step keeps. `Completes`, `Frame` and their kin stand in Safety.
-/
open Sys2Proof Sys2Proof.Machine

set_option Elab.async false

/-- A step runs the command at the front of the queue with the queue's rest, and idles on an empty queue (after 00_scope.md, 01_architecture.md). -/
def Obligations.StepTakesTheFrontCommand : Prop :=
  (∀ (c : Instr) (rest : List Instr) (s : State), step { s with pending := c :: rest } = exec c { s with pending := rest }) ∧
  (∀ (s : State), step { s with pending := [] } = .next (State.idle { s with pending := [] }))

/-- No command stops the device: exec answers a next state for every command and state (after 00_scope.md, 01_architecture.md, 21_register_index.md). -/
def Obligations.NoCommandStops : Prop :=
  (∀ (c : Instr) (s : State), ∃ t, exec c s = .next t) ∧ (∀ (s : State), GoesOn s)

/-- The machine right after reset is canonical, in order, and reads its reset values (after R460). The model's choice: DDR-4 reads 0 at power-on, and the straps at reset and the reset values the spec does not give (assumptions 1, 2, 173). -/
def Obligations.ResetIsCanonical : Prop :=
  Canon State.reset ∧ InOrder State.reset ∧ (∀ off, State.reset.rd off = resetVal State.reset.board off) ∧ (∀ a, memGet State.reset.ddr a = 0) ∧
    State.reset.pending = [] ∧ State.reset.out = [] ∧ State.reset.hq.posted = []

/-- Every step keeps the register store, DDR-4 and the poisoned lines in canonical form (after 01_architecture.md, 14_ddr_memory.md, 21_register_index.md). -/
def Obligations.StepsKeepTheStoresCanonical : Prop :=
  ∀ (s t : State), Canon s → step s = .next t → Canon t

/-- A rise of any fault-summary bit in any step leaves the fault notice pending (after R31, R376). -/
def Obligations.FaultSummaryRisesAreNoticed : Prop :=
  ∀ (s t : State) (k : Nat), step s = .next t → bitN t.faultSum k = true → bitN s.faultSum k = false → t.bit F.HQ_EVT_PEND_FLT = true

/-- Every step keeps the banks, queues and tables in order, and what only its own command or a reset ends (after R44, R55, R57, R264, R265, R291, R295, R318, R427, R435, R470). -/
def Obligations.StepsKeepTheMachineInOrder : Prop :=
  (∀ (s t : State), InOrder s → step s = .next t → InOrder t) ∧
  (∀ (s t : State), s.bit F.FLT_STAT_FATAL = true → (∀ c, s.pending.head? = some c → mayRelease c = false ∧ writesMany c = false) →
    step s = .next t → t.bit F.FLT_STAT_FATAL = true) ∧
  (∀ (s t : State), s.bit F.FLT_STAT_FATAL = true → s.bit F.FLT_PAIR_CFG_PAIR_EN = true ∨ s.causeGone = false →
    (∀ c, s.pending.head? = some c → writesMany c = false) → step s = .next t → t.bit F.FLT_STAT_FATAL = true) ∧
  (∀ (s t : State), (∀ a b d, s.pending.head? ≠ some (.coldReset a b d)) → step s = .next t →
    (s.bit F.TIME_STAT_STEP_LOCKED = true → t.bit F.TIME_STAT_STEP_LOCKED = true) ∧
    (s.bit F.DMC_CFG_DONE = true → t.bit F.DMC_CFG_DONE = true) ∧ (s.boot.image = true → t.boot.image = true))

/-- A direct write clears W1C bits and leaves what only packets may write, and a direct read answers the register (after R3, R5, R9, R375). -/
def Obligations.DirectWriteByAccessCode : Prop :=
  (∀ (off : BitVec 26), let o := off.toNat / 4 * 4
    ∀ r, findReg o = some r → ∀ b, blockOf o = some b → ∀ (val : Word) (s : State),
    gateId b 0 = none → b ≠ .vg → s.regHere o r = true → r.row.rw = 0 →
    r.row.base ∉ [R.CU_STAT 0, R.ABS_STAT 0, R.TW_STAT 0, R.HQ_PK_IGN, R.HQ_PK_IGN_OFS] → (r.row.base = R.TOP_DEVID → bitN val.toNat 30 = false) →
    (val ^^^ s.readVal r o) &&& BitVec.ofNat 32 r.row.pk = 0 →
    Completes (.registerWrite off val true) s (fun v =>
      v.rd o = s.rd o &&& ~~~(val &&& BitVec.ofNat 32 r.row.w1c) &&&
        ~~~(if val &&& BitVec.ofNat 32 r.row.sat = 0 then 0 else BitVec.ofNat 32 r.row.cnt) ∧
      Frame { s with lastStatus := 0 } v [whole o])) ∧
  (∀ (off : BitVec 26), let o := off.toNat / 4 * 4
    ∀ r, findReg o = some r → ∀ b, blockOf o = some b → ∀ (val : Word) (s : State),
    gateId b 0 = none → b ≠ .vg → s.regHere o r = true → r.row.rw = 0 →
    r.row.base ∉ [R.CU_STAT 0, R.ABS_STAT 0, R.TW_STAT 0, R.HQ_PK_IGN, R.HQ_PK_IGN_OFS] → (r.row.base = R.TOP_DEVID → bitN val.toNat 30 = false) →
    (val ^^^ s.readVal r o) &&& BitVec.ofNat 32 r.row.pk ≠ 0 →
    Completes (.registerWrite off val true) s (fun v =>
      v.rd o = s.rd o &&& ~~~(val &&& BitVec.ofNat 32 r.row.w1c) &&&
        ~~~(if val &&& BitVec.ofNat 32 r.row.sat = 0 then 0 else BitVec.ofNat 32 r.row.cnt) ∧
      v.fld F.HQ_PK_IGN_CNT = min (s.fld F.HQ_PK_IGN_CNT + 1) 65535 ∧ v.fld F.HQ_PK_IGN_OFS_OFFSET = o ∧
      Frame { s with lastStatus := 0 } v [whole o, F.HQ_PK_IGN_CNT, F.HQ_PK_IGN_SAT, F.HQ_PK_IGN_OFS_OFFSET])) ∧
  (∀ (off : BitVec 26), let o := off.toNat / 4 * 4
    ∀ r, findReg o = some r → ∀ b, blockOf o = some b → ∀ (val : Word) (s : State),
    gateId b 0 = none → b ≠ .vg → s.regHere o r = true →
    Completes (.registerWrite off val false) s (fun v => v = { s with lastStatus := 0 })) ∧
  (∀ (off : BitVec 26), let o := off.toNat / 4 * 4
    ∀ r, findReg o = some r → ∀ b, blockOf o = some b → ∀ (val : Word) (be : Bool) (s : State),
    b ≠ .vg → s.regHere o r = false →
    Completes (.registerWrite off val be) s (fun v => v = { s with lastStatus := 0 })) ∧
  (∀ (off : BitVec 26), let o := off.toNat / 4 * 4
    ∀ r, findReg o = some r → ∀ b, blockOf o = some b → ∀ (val : Word) (s : State),
    gateId b 0 = none → b ≠ .vg → b ≠ .hostq → s.regHere o r = true →
    r.row.base ∉ [R.TOP_FAULT_SUM, R.EVT_CFG 0, R.EVT_GATE, R.CU_CTL 0, R.FLT_COND, R.HP_TK 0 0, R.TW3_FILE 0, R.TIME_NOW_LO, R.RTC_SEC_LO] →
    Completes (.reservedAccess off false val) s (fun v => v = { s with out := s.out ++ [.barRead o (s.rd o &&& ~~~(BitVec.ofNat 32 r.row.wo))] }))

/-- A reserved offset reads 0 and ignores writes; the first access to one is captured, an absent instance's is not (formalises R27). -/
def Obligations.ReservedAccessIsCaptured : Prop :=
  (∀ (off : BitVec 26) (s : State), let o := off.toNat / 4 * 4
    findReg o = none ∨ (∀ r, findReg o = some r → s.regHere o r = false) → (s.readReg o).1 = 0) ∧
  (∀ (off : BitVec 26) (write : Bool) (val : Word) (s : State),
    let o := off.toNat / 4 * 4
    findReg o = none → blockOf o ≠ some .vg ∨ s.fld F.PWR_STAT_STATE ≠ 2 → s.bit F.TOP_ACC_ERR_VALID = false →
    Completes (.reservedAccess off write val) s (fun v =>
      v.fld F.TOP_ACC_ERR_OFFSET = o ∧ v.bit F.TOP_ACC_ERR_WRITE = write ∧ v.bit F.TOP_ACC_ERR_OFF_DOM = false ∧
      v.bit F.TOP_ACC_ERR_VALID = true ∧
      Frame { s with lastStatus := if write then 0 else s.lastStatus, out := if write then s.out else s.out ++ [.barRead o 0] } v
        [F.TOP_ACC_ERR_OFFSET, F.TOP_ACC_ERR_WRITE, F.TOP_ACC_ERR_OFF_DOM, F.TOP_ACC_ERR_VALID])) ∧
  (∀ (off : BitVec 26) (write : Bool) (val : Word) (s : State),
    let o := off.toNat / 4 * 4
    findReg o = none → blockOf o ≠ some .vg ∨ s.fld F.PWR_STAT_STATE ≠ 2 → s.bit F.TOP_ACC_ERR_VALID = true →
    Completes (.reservedAccess off write val) s (fun v =>
      v = { s with lastStatus := if write then 0 else s.lastStatus, out := if write then s.out else s.out ++ [.barRead o 0] })) ∧
  (∀ (off : BitVec 26), let o := off.toNat / 4 * 4
    ∀ r, findReg o = some r → ∀ (write : Bool) (val : Word) (s : State), s.regHere o r = false → blockOf o ≠ some .vg ∨ s.fld F.PWR_STAT_STATE ≠ 2 →
    Completes (.reservedAccess off write val) s (fun v =>
      v = { s with lastStatus := if write then 0 else s.lastStatus, out := if write then s.out else s.out ++ [.barRead o 0] }))

/-- Queues start empty, doorbells expose packets, and entries not yet signalled are signalled (after R356, R357, R359, R362, R376). The model's choice: that enabling empties the ring with HEAD and TAIL 0, and that a doorbell with an unchanged TAIL or beyond the ring exposes nothing (assumptions 144, 145). -/
def Obligations.QueueControl : Prop :=
  (∀ (q : Fin 64) (s : State), q.val < 32 → s.bit (F.HQ_CFG_EN q) = false →
    17 ≤ s.fld (F.HQ_CFG_SIZE q) → s.fld (F.HQ_CFG_SIZE q) ≤ 26 →
    Completes (.queueEnable q) s (fun v => v.bit (F.HQ_CFG_EN q) = true ∧ v.fld (F.HQ_HEAD_OFS q) = 0 ∧
      v.fld (F.HQ_TAIL_OFS q) = 0 ∧ v.bit (F.HQ_STAT_HALT q) = false ∧
      v.fld (F.HQ_CFG_SIZE q) = s.fld (F.HQ_CFG_SIZE q) ∧ v.fld (F.HQ_CFG_CQ q) = s.fld (F.HQ_CFG_CQ q) ∧
      (let wb := s.rdN (R.HQ_WB_LO q) + 2 ^ 32 * s.rdN (R.HQ_WB_HI q)
       Frame { s with lastStatus := 0, out := s.out ++ if s.fld (F.HQ_HEAD_OFS q) = 0 ∨ wb = 0 then [] else [.writeBack wb 0] } v
        [whole (R.HQ_CFG q), F.HQ_HEAD_OFS q, F.HQ_TAIL_OFS q, F.HQ_STAT_HALT q]))) ∧
  (∀ (c : Fin 32) (s0 : State),
    let s := { s0 with dma := s0.dma.map (fun d => { d with fin := none }), seg := { s0.seg with spill := [], dropped := [] } }
    let q := 32 + c.val
    s.bit (F.HQ_CFG_EN q) = false → 17 ≤ s.fld (F.HQ_CFG_SIZE q) → s.fld (F.HQ_CFG_SIZE q) ≤ 26 →
    Completes (.queueEnable (Fin.ofNat 64 q)) s (fun v => v.bit (F.HQ_CFG_EN q) = true ∧ v.fld (F.HQ_HEAD_OFS q) = 0 ∧
      v.fld (F.HQ_TAIL_OFS q) = 0 ∧ v.bit (F.HQ_STAT_FULL q) = false ∧ v.bit (F.HQ_STAT_HALT q) = false ∧ v.bit F.SEG_STAT_SPILL_ACT = false ∧
      v.fld (F.HQ_CFG_SIZE q) = s.fld (F.HQ_CFG_SIZE q) ∧ v.fld (F.HQ_CFG_VEC q) = s.fld (F.HQ_CFG_VEC q) ∧ v.fld (F.HQ_CFG_ITHR q) = s.fld (F.HQ_CFG_ITHR q) ∧
      (let wb := s.rdN (R.HQ_WB_LO q) + 2 ^ 32 * s.rdN (R.HQ_WB_HI q)
       Frame { s with lastStatus := 0, hq := { s.hq with unsig := s.hq.unsig.set c 0 },
                      out := s.out ++ if s.fld (F.HQ_TAIL_OFS q) = 0 ∨ wb = 0 then [] else [.writeBack wb 0] } v
        [whole (R.HQ_CFG q), F.HQ_HEAD_OFS q, F.HQ_TAIL_OFS q, F.HQ_STAT_FULL q, F.HQ_STAT_HALT q, F.SEG_STAT_SPILL_ACT]))) ∧
  (∀ (q : Fin 64) (s : State), s.bit (F.HQ_CFG_EN q) = false →
    s.fld (F.HQ_CFG_SIZE q) < 17 ∨ 26 < s.fld (F.HQ_CFG_SIZE q) →
    Completes (.queueEnable q) s (fun v => v.bit (F.HQ_CFG_EN q) = false ∧
      Frame { s with lastStatus := 0 } v [whole (R.HQ_CFG q)])) ∧
  (∀ (q : Fin 64) (s : State), s.bit (F.HQ_CFG_EN q) = true →
    Completes (.queueDisable q) s (fun v => v.bit (F.HQ_CFG_EN q) = false ∧ v.bit (F.HQ_STAT_CQ_WAIT q) = false ∧
      v.bit (F.HQ_STAT_FULL q) = false ∧ v.hq.bells = s.hq.bells.filter (fun b => b.q != q.val) ∧
      Frame { s with lastStatus := 0, hq := { s.hq with bells := v.hq.bells } } v
        [whole (R.HQ_CFG q), F.HQ_STAT_CQ_WAIT q, F.HQ_STAT_FULL q])) ∧
  (∀ (q : Fin 32) (tail : BitVec 26) (s : State), s.fld (F.HQ_CFG_SIZE q) ≤ 26 →
    let t := tail.toNat / 16 * 16
    t < s.ringSize q →
    Completes (.queueDoorbell q tail) s (fun v => v.fld (F.HQ_TAIL_OFS q) = t ∧
      v.hq.bells = s.hq.bells ++ (if s.bit (F.HQ_CFG_EN q) = true ∧ t ≠ s.fld (F.HQ_TAIL_OFS q)
        then [{ q := q, tail := t, no := s.hq.bellCtr }] else []) ∧
      Frame { s with lastStatus := 0, hq := { s.hq with bells := v.hq.bells, bellCtr := v.hq.bellCtr } } v [F.HQ_TAIL_OFS q])) ∧
  (∀ (q : Fin 32) (tail : BitVec 26) (s : State), s.ringSize q ≤ tail.toNat / 16 * 16 →
    Completes (.queueDoorbell q tail) s (fun v => v = { s with lastStatus := 0 })) ∧
  (∀ (q : Fin 32) (s : State), s.hq.unsig[q] = 0 ∨ s.rdN (R.HQ_ITIME (32 + q)) % 65536 = 0 → Completes (.irqHoldoffTimer q) s (fun v => v = s)) ∧
  (∀ (q : Fin 32) (s : State), s.hq.unsig[q] ≠ 0 → s.rdN (R.HQ_ITIME (32 + q)) % 65536 ≠ 0 →
    let vec := s.fld (F.HQ_CFG_VEC (32 + q))
    let u := { s with hq := { s.hq with unsig := s.hq.unsig.set q 0 } }
    (s.hq.pcie = none → Completes (.irqHoldoffTimer q) s (fun v => v = u)) ∧
    (∀ c : PcieCfg, s.hq.pcie = some c →
      (c.msixEn = false → Completes (.irqHoldoffTimer q) s (fun v => v = u)) ∧
      (c.msixEn = true → c.msixMask = false → (s.rdN (R.MSIX_TBL vec 3)) % 2 = 0 →
        Completes (.irqHoldoffTimer q) s (fun v => v = { u with out := s.out ++ [.msix vec] })) ∧
      (c.msixEn = true → c.msixMask = true ∨ (s.rdN (R.MSIX_TBL vec 3)) % 2 = 1 →
        Completes (.irqHoldoffTimer q) s (fun v => bitN (v.rdN (R.MSIX_PBA (vec / 32))) (vec % 32) = true ∧
          Frame u v [⟨R.MSIX_PBA (vec / 32), vec % 32, 1⟩])))) ∧
  (∀ (q : Fin 32) (s : State), Completes (.creditLateTimeout q) s (fun v =>
      v.bit (F.HQ_STAT_CRED_LATE (32 + q)) = (s.bit (F.HQ_STAT_CRED_LATE (32 + q)) || s.bit (F.HQ_STAT_FULL (32 + q))) ∧
      Frame s v [F.HQ_STAT_CRED_LATE (32 + q)]))

/-- A packet that passes its checks takes effect and is completed with its status and result (after R322, R356, R357, R362, R363, R364, R366, R370, R371). -/
def Obligations.PacketsCompleteInOrder : Prop :=
  (∀ (q : Fin 32) (pkt : List Byte), Plain q 0 pkt → ∀ (s : State), Offered s q 16 →
    let h := pktHdr pkt
    h.len = 0 → h.target = 0 → h.param0 = 0 → h.param1 = 0 →
    Completes (.nop q pkt) s (fun v => Answered s v q 0 0 [compOf q pkt 0 0] ∧
      (let c := s.fld (F.HQ_CFG_CQ q)
       let t := s.fld (F.HQ_TAIL_OFS (32 + c))
       t + 32 ≤ s.ringSize (32 + c) →
        .hostWrite (s.rdN (R.HQ_BASE_LO (32 + c)) + 2 ^ 32 * s.rdN (R.HQ_BASE_HI (32 + c)) + t) ((compOf q pkt 0 0).toBytes c) ∈ v.out) ∧
      Frame { s with hq := v.hq, out := v.out, lastStatus := 0 } v (packetFields s q))) ∧
  (∀ (q : Fin 32) (pkt : List Byte), Plain q 0x10 pkt → ∀ (s : State), Offered s q 16 →
    let h := pktHdr pkt
    s.bit F.DMC_INSTALLED_VALID = true → s.inDdr h.target h.len = true → h.len ≤ 65532 → h.param0 = 0 → h.param1 = 0 →
    s.poisoned h.target h.len = false →
    Completes (.memWrite q pkt) s (fun v => Answered s v q h.len 0 [compOf q pkt 0 h.len] ∧
      v.memRead h.target h.len = pktData pkt ∧
      FrameStore { s with hq := v.hq, out := v.out, lastStatus := 0 } v h.target h.len (packetFields s q ++ fwdCounts))) ∧
  (∀ (q : Fin 32) (pkt : List Byte), Plain q 0x11 pkt → ∀ (s : State),
    let h := pktHdr pkt
    Offered s q (16 + dataRoom h.param0 65532) →
    s.bit F.DMC_INSTALLED_VALID = true → s.inDdr h.target h.param0 = true → 1 ≤ h.param0 → h.param0 ≤ 65532 → h.len = 0 → h.param1 = 0 →
    s.poisoned h.target h.param0 = false →
    Completes (.memRead q pkt) s (fun v =>
      Answered s v q 0 0 [.pkt (answer h 0x8011 0 (s.memRead h.target h.param0)), compOf q pkt 0 h.param0] ∧
      Frame { s with hq := v.hq, out := v.out, lastStatus := 0 } v (packetFields s q ++ fwdCounts))) ∧
  (∀ (q : Fin 32) (pkt : List Byte), Plain q 0x11 pkt → ∀ (s : State),
    let h := pktHdr pkt
    Offered s q (16 + dataRoom h.param0 65532) →
    s.bit F.DMC_INSTALLED_VALID = true → s.inDdr h.target h.param0 = true → 1 ≤ h.param0 → h.param0 ≤ 65532 → h.len = 0 → h.param1 = 0 →
    s.poisoned h.target h.param0 = true →
    let es : List (Nat × HostEntry) := [(s.fld (F.HQ_CFG_CQ q), .pkt (answer h 0x8011 1 (s.memReadZ h.target h.param0))),
      (s.fld (F.HQ_CFG_CQ q), compOf q pkt 0x60 h.param0)]
    Completes (.memRead q pkt) s (fun v =>
      s.hq.posted <+: v.hq.posted ∧ es <:+ v.hq.posted ∧ (s.bit (F.SEG_ROUTE_Q_EN 4) = false → v.hq.posted = s.hq.posted ++ es) ∧ v.lastStatus = 0x60 ∧
      (s.fld (F.HQ_CFG_SIZE q) ≤ 26 → v.fld (F.HQ_HEAD_OFS q) = (s.fld (F.HQ_HEAD_OFS q) + 32) % 2 ^ s.fld (F.HQ_CFG_SIZE q)) ∧
      FrameMem s v s.spillByte ∧ FrameRegs s v (fun off => inBlocks [.hostq, .dmc, .seg, .time] off))) ∧
  (∀ (q : Fin 32) (pkt : List Byte), Plain q 2 pkt → let h := pktHdr pkt
    ∀ r, findReg h.target = some r → ∀ b, blockOf h.target = some b → ∀ (s : State),
    Offered s q (16 + dataRoom 4 65532) → h.len = 0 → h.param0 = 1 → h.param1 = 0 →
    gateId b 0 = none → b ≠ .vg → b ≠ .hostq → s.regHere h.target r = true →
    r.row.base ∉ [R.TOP_FAULT_SUM, R.EVT_CFG 0, R.EVT_GATE, R.CU_CTL 0, R.FLT_COND, R.HP_TK 0 0, R.TW3_FILE 0, R.TIME_NOW_LO,
      R.RTC_SEC_LO] →
    Completes (.regRead q pkt) s (fun v =>
      Answered s v q 0 0 [.pkt (answer h 0x8002 0 (leBytes 4 (s.rd h.target &&& ~~~(BitVec.ofNat 32 r.row.wo)).toNat)),
        compOf q pkt 0 1] ∧
      Frame { s with hq := v.hq, out := v.out, lastStatus := 0 } v (packetFields s q))) ∧
  (∀ (q : Fin 32) (pkt : List Byte), Plain q 1 pkt → let h := pktHdr pkt
    ∀ r, findReg h.target = some r → ∀ b, blockOf h.target = some b → b ∈ [.top, .nim, .eth, .enc, .evt, .time, .flt] → r.row.base ∉ ownWrites → ∀ (s : State),
    Offered s q 16 → s.regHere h.target r = true → h.len = 4 → h.param0 = 0 → h.param1 = 0 →
    let val := BitVec.ofNat 32 (leVal (pktData pkt))
    Completes (.regWrite q pkt) s (fun v =>
      Answered s v q 4 0 [compOf q pkt 0 1] ∧
      (let m := BitVec.ofNat 32 (Nat.lor r.row.rw r.row.pk)
       v.rd h.target = ((s.rd h.target &&& ~~~m) ||| (val &&& m)) &&& ~~~(val &&& BitVec.ofNat 32 r.row.w1c) &&&
        ~~~(if val &&& BitVec.ofNat 32 r.row.sat = 0 then 0 else BitVec.ofNat 32 r.row.cnt)) ∧
      Frame { s with hq := v.hq, out := v.out, lastStatus := 0 } v (whole h.target :: packetFields s q))) ∧
  (∀ (q : Fin 32) (pkt : List Byte), Plain q 3 pkt → let h := pktHdr pkt
    ∀ r, findReg h.target = some r → ∀ b, blockOf h.target = some b → b ∈ [.top, .nim, .eth, .enc, .evt, .time, .flt] → r.row.base ∉ ownWrites → ∀ (s : State),
    Offered s q 16 → s.regHere h.target r = true →
    r.row.base ∉ [R.TOP_FAULT_SUM, R.EVT_CFG 0, R.EVT_GATE, R.FLT_COND, R.TIME_NOW_LO, R.RTC_SEC_LO] → r.row.w1c = 0 → r.row.wo = 0 → h.len = 0 →
    let mask := BitVec.ofNat 32 h.param0
    let val := BitVec.ofNat 32 h.param1
    Completes (.regRmw q pkt) s (fun v =>
      Answered s v q 0 0 [compOf q pkt 0 (s.rd h.target).toNat] ∧
      (let m := BitVec.ofNat 32 (Nat.lor r.row.rw r.row.pk) &&& mask
       v.rd h.target &&& ~~~(if r.row.sat = 0 then 0 else BitVec.allOnes 32) =
        ((s.rd h.target &&& ~~~m) ||| (val &&& m)) &&& ~~~(if r.row.sat = 0 then 0 else BitVec.allOnes 32)) ∧
      Frame { s with hq := v.hq, out := v.out, lastStatus := 0 } v (whole h.target :: packetFields s q))) ∧
  (∀ (q : Fin 32) (pkt : List Byte), Plain q 0x30 pkt → ∀ (s : State), Offered s q 16 →
    let h := pktHdr pkt
    h.len = 0 → h.target = 0 → h.param0 < 4 → h.param1 = 0 →
    let u := (s.takeIn q h 16).2
    (s.fld (F.HQ_CFG_SIZE q) ≤ 26 → u.fld (F.HQ_HEAD_OFS q) = (s.fld (F.HQ_HEAD_OFS q) + 32) % 2 ^ s.fld (F.HQ_CFG_SIZE q)) ∧
    (∀ t ∈ u.hq.slots[q], t.key = s.hq.slotCtr ∧ t.entries = none) ∧ u.hq.posted = s.hq.posted ∧
    Frame { s with hq := u.hq, out := u.out } u [F.HQ_HEAD_OFS q, F.HQ_STAT_CQ_WAIT q] ∧
    Completes (.event q pkt) s (fun v =>
      v = (u.raise ((if bitN h.param0 0 then [91] else []) ++ if bitN h.param0 1 then [92] else [])).finish q h s.hq.slotCtr 0 0)) ∧
  (∀ (q : Fin 32) (pkt : List Byte), Plain q 0x50 pkt → ∀ (n : Fin 12) (s : State), Offered s q 16 →
    let h := pktHdr pkt
    h.len ≤ 65532 → h.target = 0 → h.param0 = n → h.param1 = 0 → s.masterUp n = true → s.lane.red[n] = [] →
    Completes (.cxpCtrl q pkt) s (fun v =>
      Answered s v q h.len 0 [compOf q pkt 0 0] ∧ (s.scanDrives = false → .camCtrl n (pktData pkt) ∈ v.out) ∧
      Frame { s with hq := v.hq, out := v.out, lastStatus := 0 } v (packetFields s q)))

/-- A packet with a bad header is completed with its error and does nothing (after R358, R361, R362, R373). -/
def Obligations.PacketsAreCheckedInOrder : Prop :=
  (∀ (q : Fin 32) (pkt : List Byte) (s : State), s.offers q = false →
    ∀ c ∈ .packetHcrcFail q :: packetCommands q pkt, Completes c s (fun v => v = s)) ∧
  (∀ (q : Fin 32) (pkt : List Byte) (s : State), s.offers q = true → hFence (pktHdr pkt) = false →
    s.hasRoom (s.fld (F.HQ_CFG_CQ q)) 16 = false →
    ∀ c ∈ .packetHcrcFail q :: packetCommands q pkt,
      Completes c s (fun v => v.bit (F.HQ_STAT_CQ_WAIT q) = true ∧ Frame s v [F.HQ_STAT_CQ_WAIT q])) ∧
  (∀ (q : Fin 32) (pkt : List Byte) (s : State), Offered s q 65600 → hFence (pktHdr pkt) = false → (pktHdr pkt).hcrcOk = true →
    ∀ c ∈ packetCommands q pkt,
      let h := pktHdr pkt
      let fails := fun (st : Nat) => Completes c s (fun v => Answered s v q h.len st [compOf q pkt st 0] ∧
        Frame { s with hq := v.hq, out := v.out, lastStatus := BitVec.ofNat 8 st } v (packetFields s q))
      (h.qid ≠ q.val → fails 7) ∧
      (h.qid = q.val → h.rsvd ≠ 0 → fails 8) ∧
      (h.qid = q.val → h.rsvd = 0 → h.len ≠ 0 → h.pcrcOk = false → fails 2) ∧
      (h.qid = q.val → h.rsvd = 0 → (h.len ≠ 0 → h.pcrcOk = true) → h.opc ∉ [0, 1, 2, 3, 0x10, 0x11, 0x20, 0x30, 0x40, 0x50] →
        fails 3)) ∧
  (∀ (q : Fin 32) (pkt : List Byte) (s : State), Offered s q 16 → (pktHdr pkt).hcrcOk = false →
    ∀ c ∈ .packetHcrcFail q :: packetCommands q pkt,
      Completes c s (fun v => v.bit (F.HQ_STAT_HALT q) = true ∧ v.bit (F.HQ_STAT_HDR_ERR q) = true ∧
        v.hq.posted = s.hq.posted ++ [(s.fld (F.HQ_CFG_CQ q), .comp { src := q, status := 1, tag := 0xFFFF })] ∧
        v.fld (F.HQ_HEAD_OFS q) = s.fld (F.HQ_HEAD_OFS q) ∧
        Frame { s with hq := v.hq, out := v.out, lastStatus := 1 } v
          (F.HQ_STAT_HALT q :: F.HQ_STAT_HDR_ERR q :: packetFields s q)))

/-- RUN stops at a block boundary, and starts only from a stopped pipeline (after R51, R53, R65). The model's choice: that a write of RUN = 1 while RUN is 1 and nothing loads or applies does nothing, and that the last lines form without the four behind them (assumptions 50, 136). -/
def Obligations.PipelineStopAndRun : Prop :=
  (∀ s : State, s.bit F.CFG_CTL_RUN = true → s.armedBank = none →
    let now := s.group.isEmpty || s.sti.refNext % 256 == 0 || s.cfg.trigDis
    Completes .pipelineStop s (fun v => v.bit F.CFG_CTL_RUN = false ∧
      Frame { s with lastStatus := 0, cfg := { s.cfg with trigDis := now, stopReq := !now } } v [F.CFG_CTL_RUN])) ∧
  (∀ (s : State) (b : Bool), s.bit F.CFG_CTL_RUN = true → s.armedBank = some b →
    Completes .pipelineStop s (fun v => v.bit F.CFG_CTL_RUN = false ∧ v.bankState b = 2 ∧ v.armedBank ≠ some b ∧
      v.bit F.CFG_SWAP_CTL_ARM = false ∧ v.bit F.CFG_STAT_DISARMED_BY_STOP = true ∧
      Frame { s with lastStatus := 0, cfg := { s.cfg with trigDis := v.cfg.trigDis, stopReq := v.cfg.stopReq },
                     prt := v.prt, out := v.out } v
        [F.CFG_CTL_RUN, if b then F.CFG_BANK_B_STATE else F.CFG_BANK_A_STATE, F.CFG_SWAP_CTL_ARM, F.CFG_STAT_DISARMED_BY_STOP])) ∧
  (∀ s : State, s.bit F.CFG_CTL_RUN = false → Completes .pipelineStop s (fun v => v = { s with lastStatus := 0 })) ∧
  (∀ s : State, s.bit F.CFG_CTL_RUN = true → s.bit F.CFG_STAT_LOADING = false → s.bit F.CFG_STAT_APPLYING = false →
    Completes .pipelineRun s (fun v => v = { s with lastStatus := 0 })) ∧
  (∀ s : State, s.bit F.CFG_STAT_LOADING = true ∨ s.bit F.CFG_STAT_APPLYING = true ∨
      (s.bit F.CFG_CTL_RUN = false ∧ s.bit F.CFG_STAT_PIPE_STOPPED = false) →
    Completes .pipelineRun s (fun v => v = { s with lastStatus := 0x40 })) ∧
  (∀ s : State, s.bit F.CFG_CTL_RUN = false → s.bit F.CFG_STAT_LOADING = false → s.bit F.CFG_STAT_APPLYING = false →
    s.bit F.CFG_STAT_PIPE_STOPPED = true → s.bit F.PWR_STAT_BUSY = true →
    Completes .pipelineRun s (fun v => v = { s with lastStatus := 0, pwr := { s.pwr with held := s.pwr.held ++ [.run] } })) ∧
  (∀ s : State, s.bit F.CFG_CTL_RUN = false → s.bit F.CFG_STAT_LOADING = false → s.bit F.CFG_STAT_APPLYING = false →
    s.bit F.CFG_STAT_PIPE_STOPPED = true → s.bit F.PWR_STAT_BUSY = false →
    s.bankState false ∉ [2, 4] → s.bankState true ∉ [2, 4] →
    Completes .pipelineRun s (fun v => v = { s with lastStatus := 0x39 })) ∧
  (∀ (s : State) (b : Bool), s.bit F.CFG_CTL_RUN = false → s.bit F.CFG_STAT_LOADING = false → s.bit F.CFG_STAT_APPLYING = false →
    s.bit F.CFG_STAT_PIPE_STOPPED = true → s.bit F.PWR_STAT_BUSY = false → s.runningBank = some b →
    Completes .pipelineRun s (fun v => v.bit F.CFG_CTL_RUN = true ∧ v.bit F.CFG_STAT_PIPE_STOPPED = false ∧
      v.cfg.trigDis = (s.fld F.PWR_STAT_STATE == 1 && !s.wakeTable.isEmpty) ∧ v.bankState b = 4 ∧ v.lastStatus = 0 ∧
      FrameRegs s v (fun off => inBlocks [.cfg, .top, .sti, .pwr] off))) ∧
  (∀ s : State, s.drained = false → Completes .pipelineDrained s (fun v => v = s)) ∧
  (∀ s : State, s.drained = true → s.seg.spill = [] → s.seg.objs = [] → (∀ k : Fin 11, (s.seamS k).pend = false) →
    Completes .pipelineDrained s (fun v => v.bit F.CFG_STAT_PIPE_STOPPED = true ∧ (∀ n : Fin 8, v.bit ⟨R.TOP_READY, 24 + n, 1⟩ = false) ∧
      FrameMem s v s.spillByte ∧ FrameRegs s v (fun off => off == R.TOP_READY || inBlocks [.cfg, .sti, .seg, .hostq, .time] off)))

/-- The swap controls arm the one READY bank, disarm it, or swap at once (after R57, R64, R65, R235). The model's choice: which refusals LAST_ERR shows, and that a refused write leaves CHAN (assumptions 135, 136). -/
def Obligations.SwapIsArmedDisarmedAndTaken : Prop :=
  (∀ (c : Fin 4) (b : Bool) (s : State), s.swapCrossing = false → s.armedBank = none → s.bankState b = 2 → s.bankState (!b) ≠ 2 →
    s.bit (F.ENC_CTL_EN c) = true →
    let dist := (s.rdN R.CFG_SWAP_POS + 2 ^ 32 - s.pos c) % 2 ^ 32
    s.fld F.CFG_SWAP_MARGIN_MARGIN ≤ dist → dist < 2 ^ 31 →
    Completes (.swapArm c) s (fun v => v.armedBank = some b ∧ v.bit F.CFG_SWAP_CTL_ARM = true ∧
      v.fld F.CFG_SWAP_CTL_CHAN = c ∧ v.fld F.CFG_STAT_LAST_ERR = 0 ∧ v.cfg.swapDone = false ∧
      Frame { s with lastStatus := 0, cfg := { s.cfg with swapDone := false, swapRev := v.cfg.swapRev, crossAt := s.evtNow + 2 } } v
        [if b then F.CFG_BANK_B_STATE else F.CFG_BANK_A_STATE, F.CFG_SWAP_CTL_ARM, F.CFG_SWAP_CTL_CHAN, F.CFG_STAT_LAST_ERR])) ∧
  (∀ (c : Fin 4) (s : State), s.swapCrossing = false → s.armedBank = none →
    let one := (s.bankState false == 2) != (s.bankState true == 2)
    let dist := (s.rdN R.CFG_SWAP_POS + 2 ^ 32 - s.pos c) % 2 ^ 32
    let st := if !one then 0x39 else if !s.bit (F.ENC_CTL_EN c) then 0x3A else 0x38
    one = false ∨ s.bit (F.ENC_CTL_EN c) = false ∨ dist < s.fld F.CFG_SWAP_MARGIN_MARGIN ∨ 2 ^ 31 ≤ dist →
    Completes (.swapArm c) s (fun v => v.fld F.CFG_STAT_LAST_ERR = st ∧
      Frame { s with lastStatus := BitVec.ofNat 8 st } v [F.CFG_STAT_LAST_ERR])) ∧
  (∀ (c : Fin 4) (b : Bool) (s : State), s.swapCrossing = false → s.armedBank = some b → s.fld F.CFG_SWAP_CTL_CHAN = c →
    Completes (.swapDisarm c) s (fun v => v.bankState b = 2 ∧ v.bankState (!b) = s.bankState (!b) ∧
      v.bit F.CFG_SWAP_CTL_ARM = false ∧ v.fld F.CFG_STAT_LAST_ERR = 0 ∧
      Frame { s with lastStatus := 0, cfg := { s.cfg with swapDone := false, crossAt := s.evtNow + 2 }, prt := v.prt, out := v.out } v
        [if b then F.CFG_BANK_B_STATE else F.CFG_BANK_A_STATE, F.CFG_SWAP_CTL_ARM, F.CFG_STAT_LAST_ERR])) ∧
  (∀ (c : Fin 4) (s : State), s.swapCrossing = false → s.armedBank = none →
    let st := if s.cfg.swapDone then 0x3C else 0x39
    Completes (.swapDisarm c) s (fun v => v.fld F.CFG_STAT_LAST_ERR = st ∧
      Frame { s with lastStatus := BitVec.ofNat 8 st } v [F.CFG_STAT_LAST_ERR])) ∧
  (∀ (c : Fin 4) (s : State), s.swapCrossing = true →
    ∀ i ∈ [Instr.swapArm c, .swapDisarm c, .swapNow c], Completes i s (fun v => v = { s with lastStatus := 0x40 })) ∧
  (∀ (c : Fin 4) (b : Bool) (s : State), s.armedBank = some b →
    Completes (.swapArm c) s (fun v => v = { s with lastStatus := 0x40 }) ∧
    Completes (.swapNow c) s (fun v => v = { s with lastStatus := 0x40 }) ∧
    (s.fld F.CFG_SWAP_CTL_CHAN ≠ c → Completes (.swapDisarm c) s (fun v => v = { s with lastStatus := 0x40 }))) ∧
  (∀ (c : Fin 4) (s : State), s.armedBank = none →
    s.bit F.CFG_STAT_PIPE_STOPPED = false ∨ s.bit F.CFG_STAT_LOADING = true ∨ s.bit F.CFG_STAT_APPLYING = true →
    Completes (.swapNow c) s (fun v => v = { s with lastStatus := 0x40 })) ∧
  (∀ (c : Fin 4) (s : State), s.swapCrossing = false → s.armedBank = none → s.bit F.CFG_STAT_PIPE_STOPPED = true → s.bit F.CFG_STAT_LOADING = false →
    s.bit F.CFG_STAT_APPLYING = false → s.bankState false ≠ 2 → s.bankState true ≠ 2 →
    Completes (.swapNow c) s (fun v => v = { s with lastStatus := 0x39 })) ∧
  (∀ (c : Fin 4) (b : Bool) (s : State), s.swapCrossing = false → s.armedBank = none → s.bit F.CFG_STAT_PIPE_STOPPED = true →
    s.bit F.CFG_STAT_LOADING = false → s.bit F.CFG_STAT_APPLYING = false → s.bankState b = 2 →
    s.bankState (!b) = 2 ∧ s.bit F.CFG_BANK_LAST_LOAD = b ∨ s.bankState (!b) ≠ 2 →
    Completes (.swapNow c) s (fun v => v.bankState b = 4 ∧ v.bit F.CFG_BANK_RUN_BANK = b ∧
      v.bankState (!b) = (if s.bankState (!b) = 4 then 0 else s.bankState (!b)) ∧
      v.rdN R.CFG_SWAP_CAP_POS = s.pos c ∧ v.rdN R.CFG_SWAP_CAP_TS = s.tsNs ∧ v.fld F.CFG_SWAP_CTL_CHAN = c ∧
      v.fld F.CFG_SWAP_CNT_CNT = (s.fld F.CFG_SWAP_CNT_CNT + 1) % 65536 ∧ v.lastStatus = 0)) ∧
  (∀ (c : Fin 4) (b : Bool) (s : State), s.swapCrossing = false → s.armedBank = none → s.bit F.CFG_STAT_PIPE_STOPPED = true →
    s.bit F.CFG_STAT_LOADING = false → s.bit F.CFG_STAT_APPLYING = false → s.bankState b = 2 → s.bankState (!b) ≠ 2 → s.runningBank = none →
    s.bit (F.SEG_ROUTE_Q_EN 3) = true → s.recCredit 3 = true →
    let ws := [0x12, s.jobId b, s.pos c, s.tsNs, 2 ^ 16 * b2n b + 2 ^ 17, 0, 0, 0, 0, 0, 0, 0, 0, 0, 0]
    Completes (.swapNow c) s (fun v =>
      v.hq.posted[s.hq.posted.length]? = some (s.fld (F.SEG_ROUTE_QID 3), recordsPkt (ws ++ [crc32c (wordsBytes ws)]))))

/-- A load's chunks fill the staging area; a rejected load changes no bank; an applied STRUCT becomes the active one on one edge (after R47, R50, R51, R53, R54, R55, R56, R365). The model's choice: when TOP_READY.CFG falls, how the bytes of the chunks are counted, what an abort ends, and that the checks read the staged bytes (assumptions 127, 128, 129). -/
def Obligations.LoadsAreCountedRejectedAndApplied : Prop :=
  (∀ (q : Fin 32) (pkt : List Byte), Plain q 0x20 pkt → ∀ (s : State), Offered s q 16 →
    let h := pktHdr pkt
    h.target = 0 → h.param1 = 1 → h.len ≤ 65532 → h.param0 + h.len ≤ 2 ^ 26 →
    s.bit F.PWR_STAT_BUSY = false → s.cfg.load.active = false → s.cfg.load.last = none →
    s.bit F.CFG_STAGE_BASE_HI_EN = true → s.bit F.DMC_INSTALLED_VALID = true → s.poisoned (s.stageBase + h.param0) h.len = false →
    Completes (.cfgLoad q pkt) s (fun v => Answered s v q h.len 0 [compOf q pkt 0 h.len] ∧
      v.memRead (s.stageBase + h.param0) h.len = pktData pkt ∧ v.cfg.load = { active := true, bytes := h.len, last := none } ∧
      FrameStore { s with hq := v.hq, out := v.out, lastStatus := 0, cfg := { s.cfg with load := v.cfg.load }, poison := v.poison } v
        (s.stageBase + h.param0) h.len (packetFields s q ++ fwdCounts))) ∧
  (∀ (q : Fin 32) (pkt : List Byte), Plain q 0x20 pkt → ∀ (s : State), Offered s q 16 →
    let h := pktHdr pkt
    h.target = 0 → h.param1 < 2 → h.len ≤ 65532 →
    s.bit F.PWR_STAT_BUSY = false → s.cfg.load.active = decide (h.param1 = 1) → s.cfg.load.last = none →
    let st := if h.param1 = 1 then 0x3B else 0x37
    Completes (.cfgLoad q pkt) s (fun v => Answered s v q h.len st [compOf q pkt st 0] ∧
      Frame { s with hq := v.hq, out := v.out, lastStatus := BitVec.ofNat 8 st } v (packetFields s q))) ∧
  (∀ (q : Fin 32) (pkt : List Byte), Plain q 0x20 pkt → ∀ (s : State), Offered s q 16 →
    let h := pktHdr pkt
    h.target = 0 → h.param1 < 4 → h.len ≤ 65532 → s.bit F.PWR_STAT_BUSY = true →
    Completes (.cfgLoad q pkt) s (fun v => Answered s v q h.len 0x40 [compOf q pkt 0x40 0] ∧
      Frame { s with hq := v.hq, out := v.out, lastStatus := 0x40 } v (packetFields s q))) ∧
  (∀ s : State, s.cfg.load.active = true → s.cfg.load.last = none → s.loadingBank = none →
    Completes .loadAbort s (fun v => v.fld F.CFG_STAT_LAST_ERR = 0x37 ∧ v.fld F.CFG_STAT_ERR_SECTION = 0 ∧
      v.bit F.CFG_STAT_REJECT = true ∧ v.fld F.CFG_REJ_CNT_CNT = min (s.fld F.CFG_REJ_CNT_CNT + 1) 65535 ∧
      v.bit F.CFG_STAT_LOADING = false ∧
      Frame { s with lastStatus := 0, cfg := { s.cfg with load := { active := false, bytes := 0, last := none } } } v
        [F.CFG_STAT_LAST_ERR, F.CFG_STAT_ERR_SECTION, F.CFG_STAT_REJECT, F.CFG_REJ_CNT_CNT, F.CFG_REJ_CNT_SAT, F.CFG_STAT_LOADING])) ∧
  (∀ s : State, s.cfg.load.active = false → Completes .loadAbort s (fun v => v = { s with lastStatus := 0 })) ∧
  (∀ s : State, s.cfg.load.last.isSome = true → s.bit F.CFG_STAT_APPLYING = false → ∀ e, s.streamCheck = some e →
    Completes .loadValidate s (fun v => v.fld F.CFG_STAT_LAST_ERR = e.code % 2 ^ F.CFG_STAT_LAST_ERR.w ∧
      v.fld F.CFG_STAT_ERR_SECTION = e.sec % 2 ^ F.CFG_STAT_ERR_SECTION.w ∧ v.bit F.CFG_STAT_REJECT = true ∧
      v.fld F.CFG_REJ_CNT_CNT = min (s.fld F.CFG_REJ_CNT_CNT + 1) 65535 ∧ v.bit F.CFG_STAT_LOADING = false ∧
      v.cfg.struct = s.cfg.struct ∧ v.cfg.build = s.cfg.build ∧ v.cfg.load = { active := false, bytes := 0, last := none } ∧
      (∀ b, v.bankState b = if s.loadingBank = some b then 0 else s.bankState b) ∧
      (∀ b, s.loadingBank ≠ some b → v.job b = s.job b) ∧ v.rd R.CFG_STRUCT_ID = s.rd R.CFG_STRUCT_ID)) ∧
  (∀ s : State, s.cfg.load.last = none ∨ s.bit F.CFG_STAT_APPLYING = true → Completes .loadValidate s (fun v => v = s)) ∧
  (∀ s : State, s.cfg.load.last.isSome = true → s.bit F.CFG_STAT_APPLYING = false → s.loadingBank = none →
    s.streamCheck = none → ∀ d, streamStruct s.staged = some d → streamJob s.staged = none →
    Completes .loadValidate s (fun v => v.bit F.CFG_STAT_APPLYING = true ∧ v.bit F.TOP_READY_CFG = false ∧
      v.cfg.applying = some (d, none) ∧ v.cfg.struct = s.cfg.struct ∧ v.cfg.build = s.staged.hdr.buildId ∧
      v.fld F.CFG_STAT_LAST_ERR = 0 ∧ v.bit F.CFG_STAT_LOADING = false ∧ v.rd R.CFG_BANK = s.rd R.CFG_BANK)) ∧
  (∀ s : State, s.cfg.load.last.isSome = true → s.bit F.CFG_STAT_APPLYING = false → ∀ b, s.loadingBank = some b →
    s.streamCheck = none → streamStruct s.staged = none → ∀ j, streamJob s.staged = some j → s.jobRules s.staged j = none →
    Completes .loadValidate s (fun v => v.bankState b = 2 ∧ v.job b = some j ∧ v.jobId b = j.jobId % 65536 ∧
      v.bit F.CFG_BANK_LAST_LOAD = b ∧ v.bankState (!b) = s.bankState (!b) ∧ v.job (!b) = s.job (!b) ∧ v.cfg.struct = s.cfg.struct ∧
      v.fld F.CFG_STAT_LAST_ERR = 0 ∧ v.bit F.CFG_STAT_LOADING = false)) ∧
  (∀ s : State, s.bit F.CFG_STAT_APPLYING = false → Completes .structApplyDone s (fun v => v = s)) ∧
  ∀ s : State, s.cfg.warmPend = none → s.bit F.CFG_STAT_APPLYING = true → ∀ d j, s.cfg.applying = some (d, j) →
    Completes .structApplyDone s (fun v => v.bit F.CFG_STAT_APPLYING = false ∧ v.bit F.CFG_STAT_STRUCT_VALID = true ∧
      v.cfg.struct = some d ∧ v.cfg.applying = none ∧ v.rdN R.CFG_STRUCT_ID = d.crc % 2 ^ 32 ∧
      v.rdN R.CFG_BUILD_LO = s.cfg.build % 2 ^ 32 ∧ v.rdN R.CFG_BUILD_HI = s.cfg.build / 2 ^ 32 % 2 ^ 32)

/-- A quadrature step moves the position by one and nothing else (after R67, R68, R75). -/
def Obligations.EncoderStepMovesPosition : Prop :=
  (∀ (n : Fin 4) (lineB : Bool) (s : State),
    s.bit (F.ENC_CTL_EN n) = true → s.unitsOf n = [] → s.fld F.CFG_SWAP_CTL_CHAN ≠ n → s.flt.resync.phase ≠ 3 →
    (∀ p : Fin 8, s.bit (F.HP_CTL_MODE p) = false) →
    (s.encSt n).sa = (s.encSt n).a → (s.encSt n).sb = (s.encSt n).b →
    (if lineB then (s.encSt n).deadB else (s.encSt n).deadA) = false →
    let fwd := (if lineB then (s.encSt n).a != (s.encSt n).b else (s.encSt n).a == (s.encSt n).b) != s.bit (F.ENC_CTL_DIR_INV n)
    let new := (s.pos n + if fwd then 1 else 2 ^ 32 - 1) % 2 ^ 32
    bitN new 31 = bitN (s.pos n) 31 →
    Completes (.encoderStep n lineB) s (After (fun u => u.raise []) (fun u =>
      u.pos n = new ∧ u.bit (F.ENC_STAT_DIR n) = !fwd ∧ u.fld (F.ENC_STAT_STILL n) = 0 ∧
      (lineB = false → (u.encSt n).a = !(s.encSt n).a ∧ (u.encSt n).b = (s.encSt n).b ∧
        (u.encSt n).deadA = (s.fld (F.ENC_CTL_DEAD n) != 0)) ∧
      (lineB = true → (u.encSt n).b = !(s.encSt n).b ∧ (u.encSt n).a = (s.encSt n).a ∧
        (u.encSt n).deadB = (s.fld (F.ENC_CTL_DEAD n) != 0)) ∧
      Frame { s with enc := vput s.enc n (u.encSt n) } u
        [whole (R.ENC_POS n), whole (R.ENC_PERIOD n), F.ENC_STAT_DIR n, F.ENC_STAT_STILL n]))) ∧
  (∀ (n : Fin 4) (lineB : Bool) (s : State),
    s.bit (F.ENC_CTL_EN n) = true → s.unitsOf n = [] → s.fld F.CFG_SWAP_CTL_CHAN ≠ n → s.flt.resync.phase ≠ 3 →
    (∀ p : Fin 8, s.bit (F.HP_CTL_MODE p) = false) →
    (if lineB then (s.encSt n).deadB = true ∧ (s.encSt n).sb ≠ (s.encSt n).b else (s.encSt n).deadA = true ∧ (s.encSt n).sa ≠ (s.encSt n).a) →
    let fwd := (if lineB then (s.encSt n).a != (s.encSt n).b else (s.encSt n).a == (s.encSt n).b) != s.bit (F.ENC_CTL_DIR_INV n)
    let new := (s.pos n + if fwd then 1 else 2 ^ 32 - 1) % 2 ^ 32
    bitN new 31 = bitN (s.pos n) 31 →
    Completes (.deadTimeEnd n (if lineB then 1 else 0)) s (After (fun u => u.raise []) (fun u =>
      u.pos n = new ∧ (u.encSt n).a = ((s.encSt n).a != !lineB) ∧ (u.encSt n).b = ((s.encSt n).b != lineB) ∧
      (if lineB then (u.encSt n).deadB else (u.encSt n).deadA) = (s.fld (F.ENC_CTL_DEAD n) != 0) ∧
      Frame { s with enc := vput s.enc n (u.encSt n) } u
        [whole (R.ENC_POS n), whole (R.ENC_PERIOD n), F.ENC_STAT_DIR n, F.ENC_STAT_STILL n]))) ∧
  (∀ (n : Fin 4) (lineB : Bool) (s : State),
    (if lineB then (s.encSt n).deadB else (s.encSt n).deadA) = true →
    Completes (.encoderStep n lineB) s (fun v =>
      (if lineB then (v.encSt n).sb = !(s.encSt n).sb else (v.encSt n).sa = !(s.encSt n).sa) ∧
      (v.encSt n).a = (s.encSt n).a ∧ (v.encSt n).b = (s.encSt n).b ∧
      Frame { s with enc := vput s.enc n (v.encSt n) } v [])) ∧
  (∀ (n : Fin 4) (lineB : Bool) (s : State), s.bit (F.ENC_CTL_EN n) = false →
    Completes (.encoderStep n lineB) s (fun v => Frame { s with enc := vput s.enc n (v.encSt n) } v [])) ∧
  (∀ (n : Fin 4) (line : Fin 3) (s : State), [(s.encSt n).deadA, (s.encSt n).deadB, (s.encSt n).deadZ][line] = false →
    Completes (.deadTimeEnd n line) s (fun v => v = s)) ∧
  (∀ (n : Fin 4) (s : State), (s.encSt n).deadB = true → (s.encSt n).sb = (s.encSt n).b →
    Completes (.deadTimeEnd n 1) s (fun v => (v.encSt n).deadB = false ∧ (v.encSt n).b = (s.encSt n).b ∧
      Frame { s with enc := vput s.enc n (v.encSt n) } v [])) ∧
  (∀ (n : Fin 4) (s : State), (s.encSt n).deadZ = true → (s.encSt n).sz = (s.encSt n).z →
    Completes (.deadTimeEnd n 2) s (fun v => (v.encSt n).deadZ = false ∧ (v.encSt n).z = (s.encSt n).z ∧
      Frame { s with enc := vput s.enc n (v.encSt n) } v [])) ∧
  (∀ (n : Fin 4) (s : State), (s.encSt n).deadZ = true → (s.encSt n).sz = false → (s.encSt n).z = true →
    Completes (.deadTimeEnd n 2) s (fun v =>
      v = { s with enc := vput s.enc n { (s.encSt n) with z := false, deadZ := s.fld (F.ENC_CTL_DEAD n) != 0 } })) ∧
  (∀ (n : Fin 4) (s : State), (s.encSt n).deadZ = true → (s.encSt n).sz = true → (s.encSt n).z = false →
    s.bit (F.ENC_CTL_EN n) = true → s.bit (F.ENC_CTL_IDX_EN n) = true → s.bit (F.ENC_STAT_DIR n) = true →
    Completes (.deadTimeEnd n 2) s (fun v => v = (s.zRisen n).raise [44 + n.val]))

/-- Accepted changes of both lines count an error and move no position (formalises R69). -/
def Obligations.QuadratureErrorCounts : Prop :=
  (∀ (n : Fin 4) (s : State), s.bit (F.ENC_CTL_EN n) = true →
    Completes (.quadratureError n) s (After (fun u => u.raise [32 + n.val]) (fun u =>
      u.pos n = s.pos n ∧
      u.fld (F.ENC_QERR_CNT_CNT n) = min (s.fld (F.ENC_QERR_CNT_CNT n) + 1) (2 ^ (F.ENC_QERR_CNT_CNT n).w - 1) ∧
      (u.bit (F.ENC_QERR_CNT_SAT n) = (s.bit (F.ENC_QERR_CNT_SAT n) ||
        2 ^ (F.ENC_QERR_CNT_CNT n).w ≤ s.fld (F.ENC_QERR_CNT_CNT n) + 2)) ∧
      u.bit (F.ENC_STAT_QERR n) = true ∧
      (u.encSt n).a = !(s.encSt n).a ∧ (u.encSt n).b = !(s.encSt n).b ∧
      Frame { s with enc := vput s.enc n (u.encSt n) } u
        [F.ENC_QERR_CNT_CNT n, F.ENC_QERR_CNT_SAT n, F.ENC_STAT_QERR n]))) ∧
  (∀ (n : Fin 4) (s : State), s.bit (F.ENC_CTL_EN n) = false →
    Completes (.quadratureError n) s (fun v => Frame { s with enc := vput s.enc n (v.encSt n) } v []))

/-- Standstill ends the speed measurement, and an index edge captures its reference (after R68, R74, R75, R76, R77). The model's choice: that a standstill ends the interval under way, and that what ENCn_INDEX activates sees the position before a snap (assumptions 31, 218). -/
def Obligations.StandstillAndIndexReference : Prop :=
  (∀ (n : Fin 4) (s : State), s.bit (F.ENC_CTL_EN n) = true → s.fld (F.ENC_CTL_STILL_TO n) ≠ 0 →
    s.bit (F.ENC_STAT_STILL n) = false →
    Completes (.standstill n) s (After (fun u => u.raise [40 + n.val]) (fun u =>
      u.bit (F.ENC_STAT_STILL n) = true ∧ u.rdN (R.ENC_PERIOD n) = 0xFFFFFFFF ∧
      (u.encSt n).hist = [] ∧ (u.encSt n).last = none ∧
      Frame { s with enc := vput s.enc n (u.encSt n) } u [F.ENC_STAT_STILL n, whole (R.ENC_PERIOD n)]))) ∧
  (∀ (n : Fin 4) (s : State), s.bit (F.ENC_CTL_EN n) = false ∨ s.fld (F.ENC_CTL_STILL_TO n) = 0 ∨
    s.bit (F.ENC_STAT_STILL n) = true → Completes (.standstill n) s (fun v => v = s)) ∧
  (∀ (n : Fin 4) (s : State), s.bit (F.ENC_CTL_EN n) = true → s.bit (F.ENC_CTL_IDX_EN n) = true →
    s.bit (F.ENC_STAT_DIR n) = true → (s.encSt n).deadZ = false → (s.encSt n).z = false →
    Completes (.indexEdge n true) s (fun v => v = (s.zRisen n).raise [44 + n.val])) ∧
  (∀ (n : Fin 4) (s : State), s.bit (F.ENC_CTL_EN n) = true → s.bit (F.ENC_CTL_IDX_EN n) = true →
    (s.encSt n).deadZ = false → (s.encSt n).z = false →
    let s1 := (s.zRisen n).raise [44 + n.val]
    s1.bit (F.ENC_STAT_DIR n) = false → s1.bit (F.ENC_STAT_IDX_REF n) = false →
    Completes (.indexEdge n true) s (After (fun u => u.raise []) (fun u =>
      u.rdN (R.ENC_IDX_CAP n) = s.pos n ∧ (u.encSt n).idxL = s.pos n ∧ u.bit (F.ENC_STAT_IDX_REF n) = true ∧
      Frame { s1 with enc := vput s1.enc n (u.encSt n) } u [whole (R.ENC_IDX_CAP n), F.ENC_STAT_IDX_REF n]))) ∧
  (∀ (n : Fin 4) (level : Bool) (s : State), (s.encSt n).deadZ = true ∨ (s.encSt n).z = level →
    Completes (.indexEdge n level) s (fun v =>
      v = { s with enc := vput s.enc n { (s.encSt n) with sz := level } })) ∧
  (∀ (n : Fin 4) (s : State), (s.encSt n).deadZ = false → (s.encSt n).z = true →
    Completes (.indexEdge n false) s (fun v =>
      let e := { (s.encSt n) with sz := false, z := false, deadZ := s.fld (F.ENC_CTL_DEAD n) != 0 }
      v = { s with enc := vput s.enc n e })) ∧
  (∀ (n : Fin 4) (s : State), s.bit (F.ENC_CTL_EN n) = true → s.bit (F.ENC_CTL_IDX_EN n) = true →
    (s.encSt n).deadZ = false → (s.encSt n).z = false →
    let s1 := (s.zRisen n).raise [44 + n.val]
    s1.bit (F.ENC_STAT_DIR n) = false → s1.bit (F.ENC_STAT_IDX_REF n) = true → s1.bit (F.ENC_CTL_IDX_SNAP n) = false →
    let d := cntDiff (s1.encSt n).idxL (s.pos n)
    let k := roundHalfAway d (s1.rdN (R.ENC_IDX_PERIOD n))
    let e := d - k * s1.rdN (R.ENC_IDX_PERIOD n)
    k ≠ 0 →
    Completes (.indexEdge n true) s (After (fun u => u.raise []) (fun u =>
      u.rdN (R.ENC_IDX_CAP n) = s.pos n ∧ u.rdN (R.ENC_IDX_ERR n) = wrapTo 32 e ∧
      (u.encSt n).idxL = wrapTo 32 ((s.pos n : Int) - e) ∧
      u.bit (F.ENC_STAT_IDX_MISMATCH n) = (s1.bit (F.ENC_STAT_IDX_MISMATCH n) || s1.fld (F.ENC_IDX_CFG_IDX_TOL n) < e.natAbs) ∧
      Frame { s1 with enc := vput s1.enc n (u.encSt n) } u
        [whole (R.ENC_IDX_CAP n), whole (R.ENC_IDX_ERR n), F.ENC_STAT_IDX_MISMATCH n]))) ∧
  (∀ (n : Fin 4) (s : State), s.bit (F.ENC_CTL_EN n) = false ∨ s.bit (F.ENC_CTL_IDX_EN n) = false → (s.encSt n).deadZ = false → (s.encSt n).z = false →
    Completes (.indexEdge n true) s (fun v => v = s.zRisen n)) ∧
  (∀ (n : Fin 4) (s : State), s.bit (F.ENC_CTL_EN n) = true → s.bit (F.ENC_CTL_IDX_EN n) = true →
    (s.encSt n).deadZ = false → (s.encSt n).z = false →
    let s1 := (s.zRisen n).raise [44 + n.val]
    s1.bit (F.ENC_STAT_DIR n) = false → s1.bit (F.ENC_STAT_IDX_REF n) = true → s1.bit (F.ENC_CTL_IDX_SNAP n) = true →
    let d := cntDiff (s1.encSt n).idxL (s.pos n)
    let k := roundHalfAway d (s1.rdN (R.ENC_IDX_PERIOD n))
    let e := d - k * s1.rdN (R.ENC_IDX_PERIOD n)
    k ≠ 0 → s1.fld (F.ENC_IDX_CFG_IDX_TOL n) < e.natAbs →
    let new := wrapTo 32 ((s.pos n : Int) - e)
    if s1.fld (F.ENC_IDX_CFG_SNAP_MAX n) < e.natAbs then
      Completes (.indexEdge n true) s (After (fun u => u.raise []) (fun u =>
        u.rdN (R.ENC_IDX_CAP n) = s.pos n ∧ u.rdN (R.ENC_IDX_ERR n) = wrapTo 32 e ∧ (u.encSt n).idxL = new ∧
        u.bit (F.ENC_STAT_IDX_MISMATCH n) = true ∧ u.bit (F.ENC_STAT_IDX_BIG n) = true ∧
        Frame { s1 with enc := vput s1.enc n (u.encSt n) } u
          [whole (R.ENC_IDX_CAP n), whole (R.ENC_IDX_ERR n), F.ENC_STAT_IDX_MISMATCH n, F.ENC_STAT_IDX_BIG n]))
    else
      Completes (.indexEdge n true) s (After (fun u => u.raise (if bitN new 31 = bitN (s.pos n) 31 then [] else [36 + n.val])) (fun u =>
        u.pos n = new ∧ u.rdN (R.ENC_IDX_CAP n) = s.pos n ∧ u.rdN (R.ENC_IDX_ERR n) = wrapTo 32 e ∧ (u.encSt n).idxL = new ∧
        u.bit (F.ENC_STAT_IDX_MISMATCH n) = true ∧ u.fld (F.ENC_EPOCH_SNAP_CNT n) = (s1.fld (F.ENC_EPOCH_SNAP_CNT n) + 1) % 2 ^ (F.ENC_EPOCH_SNAP_CNT n).w ∧
        (∀ w : Fin 32, u.cuN w = if w.val ∈ s1.unitsOf n then wrapTo 48 ((s1.cuN w : Int) - e * 65536) else s1.cuN w) ∧
        u.rdN R.CFG_SWAP_POS = (if s1.fld F.CFG_SWAP_CTL_CHAN = n ∧ s1.armedBank.isSome = true then wrapTo 32 ((s1.rdN R.CFG_SWAP_POS : Int) - e) else s1.rdN R.CFG_SWAP_POS) ∧
        FrameMem s1 u s1.spillByte ∧
        FrameRegs s1 u (fun off => inBlocks [.enc, .prt, .hostq, .seg, .time] off || off == R.CFG_SWAP_POS || off == R.CFG_STAT))))

/-- A waiting compare hit captures position and time and moves the point by the spacing, whose writes are held and checked (after R78, R79, R80, R81). -/
def Obligations.ComparePointsAdvanceBySpacings : Prop :=
  (∀ (us : List (Fin 32)) (defer : Bool) (s : State), us.Nodup →
    (∀ w ∈ us, s.bit (F.CU_CTL_EN w) = true ∧ s.portsOf w = [] ∧
      if defer then (s.cuSt w).deferred = true ∧ s.bit (F.CU_CTL_MODE w) = false else (s.cuSt w).delayed = true) →
    Completes (if defer then .deferredHit us else .interpolatedHit us) s (After (fun u => u.raise (us.map (·.val))) (fun u =>
     (∀ w ∈ us,
      let pos := s.pos (s.fld (F.CU_CTL_CHAN w))
      let k := ptReached ((s.cuN w + s.cuS w) % 2 ^ 48) (s.cuLim w pos) (s.cuS w)
      u.rdN (R.CU_HIT_POS w) = pos ∧ u.rdN (R.CU_HIT_TS w) = s.tsNs ∧ u.fld (F.CU_HIT_FRAC_FRAC w) = s.cuN w % 65536 ∧
      u.cuN w = (s.cuN w + (1 + k) * s.cuS w) % 2 ^ 48 ∧
      u.bit (F.CU_STAT_SKIP w) = (s.bit (F.CU_STAT_SKIP w) || 0 < k) ∧
      u.fld (F.CU_STAT_SKIP_CNT w) = min (s.fld (F.CU_STAT_SKIP_CNT w) + k) 65535 ∧
      (u.cuSt w).delayed = false ∧ (u.cuSt w).deferred = false ∧
      (u.cuSt w).evArm = ((s.cuSt w).evArm && !s.bit (F.CU_CTL_MODE w))) ∧
     Frame { s with cu := u.cu } u (us.flatMap (fun (w : Fin 32) =>
        [whole (R.CU_HIT_POS w), whole (R.CU_HIT_TS w), F.CU_HIT_FRAC_FRAC w, whole (R.CU_NEXT_INT w),
         F.CU_NEXT_FRAC_N w, F.CU_STAT_SKIP w, F.CU_STAT_SKIP_CNT w])) ∧
     ∀ w, w ∉ us → u.cuSt w.val = s.cuSt w.val))) ∧
  (∀ (us : List (Fin 32)) (s : State), (∀ w ∈ us, (s.cuSt w).delayed = false) →
    Completes (.interpolatedHit us) s (fun v => v = s.raise [])) ∧
  (∀ (us : List (Fin 32)) (s : State), (∀ w ∈ us, (s.cuSt w).deferred = false) →
    Completes (.deferredHit us) s (fun v => v = s.raise [])) ∧
  (∀ (w : Fin 32) (val : Word) (s : State), s.bit (F.CU_CTL_JOB w) = false →
    Completes (.cuSpacingHiWrite w val) s (fun v => (v.cuSt w).hiHold = some (val.toNat % 2 ^ 15) ∧
      Frame { s with cu := vput s.cu w (v.cuSt w), lastStatus := 0 } v [])) ∧
  (∀ (w : Fin 32) (val : Word) (s : State), s.bit (F.CU_CTL_JOB w) = false →
    let hi := (s.cuSt w).hiHold.getD (s.fld (F.CU_SPACING_HI_S_HI w))
    65536 ≤ hi * 2 ^ 32 + val.toNat →
    Completes (.cuSpacingWrite w val) s (fun v => v.cuS w = hi % 2 ^ 15 * 2 ^ 32 + val.toNat ∧ (v.cuSt w).hiHold = none ∧
      Frame { s with cu := vput s.cu w (v.cuSt w), lastStatus := 0 } v [whole (R.CU_SPACING w), F.CU_SPACING_HI_S_HI w])) ∧
  (∀ (w : Fin 32) (val : Word) (s : State),
    s.bit (F.CU_CTL_JOB w) = true ∨
      (s.cuSt w).hiHold.getD (s.fld (F.CU_SPACING_HI_S_HI w)) * 2 ^ 32 + val.toNat < 65536 →
    Completes (.cuSpacingWrite w val) s (fun v => v = { s with lastStatus := 0x40 })) ∧
  (∀ (w : Fin 32) (val : Word) (s : State), s.bit (F.CU_CTL_JOB w) = true →
    Completes (.cuSpacingHiWrite w val) s (fun v => v = { s with lastStatus := 0x40 }))

/-- An absolute-encoder cycle starts, ends with a position, or fails and is counted (after R85, R86, R98). The model's choice: the order of the bits under the BiSS-C CRC (assumption 38). -/
def Obligations.AbsoluteInputCycles : Prop :=
  (∀ (n : Fin 2) (s : State), s.fld (F.ABS_CTL_TIMER n) ≠ 0 → s.fld (F.ABS_CTL_PROTO n) ≠ 0 → (s.absIn[n]).busy = false →
    Completes (.absTimerStart n) s (fun v => v.rdN (R.ABS_TS n) = s.tsNs ∧
      Frame { s with absIn := s.absIn.set n { busy := true } } v [whole (R.ABS_TS n)])) ∧
  (∀ (n : Fin 2) (s : State), s.fld (F.ABS_CTL_TIMER n) ≠ 0 → s.fld (F.ABS_CTL_PROTO n) ≠ 0 → (s.absIn[n]).busy = true →
    Completes (.absTimerStart n) s (fun v => v.bit (F.EVT_CFG_OVR (48 + n)) = true ∧
      v.fld (F.EVT_LOSS_OVR_CNT (48 + n)) = (s.fld (F.EVT_LOSS_OVR_CNT (48 + n)) + 1) % 2 ^ (F.EVT_LOSS_OVR_CNT (48 + n)).w ∧
      Frame s v [F.EVT_CFG_OVR (48 + n), F.EVT_LOSS_OVR_CNT (48 + n)])) ∧
  (∀ (n : Fin 2) (raw : Word) (e w : Bool) (crc : BitVec 6) (s : State), (s.absIn[n]).busy = true →
    s.fld (F.ABS_CTL_PROTO n) ≠ 3 →
    let pos := raw.toNat % 2 ^ s.fld (F.ABS_CTL_BITS n)
    Completes (.absCycleDone n raw e w crc) s (After (fun u => u.raise [64 + n.val]) (fun u =>
      u.rdN (R.ABS_POS n) = (if s.fld (F.ABS_CTL_PROTO n) = 2 then grayToBin (s.fld (F.ABS_CTL_BITS n)) pos else pos) % 2 ^ 32 ∧
      (∀ p : Fin 8, (u.prtS p).absSeen = (s.prtS p).absSeen.set n true) ∧
      Frame { s with absIn := s.absIn.set n { busy := false }, prt := u.prt } u [whole (R.ABS_POS n)]))) ∧
  (∀ (n : Fin 2) (raw : Word) (e w : Bool) (crc : BitVec 6) (s : State), (s.absIn[n]).busy = true →
    s.fld (F.ABS_CTL_PROTO n) = 3 →
    crc.toNat ≠ bissCrc (s.fld (F.ABS_CTL_BITS n)) (raw.toNat % 2 ^ s.fld (F.ABS_CTL_BITS n)) e w →
    Completes (.absCycleDone n raw e w crc) s (After (fun u => u.raise [66 + n.val]) (fun u =>
      u.bit (F.ABS_STAT_CRC_ERR n) = true ∧
      u.fld (F.ABS_STAT_FAIL_CNT n) = min (s.fld (F.ABS_STAT_FAIL_CNT n) + 1) 65535 ∧
      Frame { s with absIn := s.absIn.set n { busy := false } } u [F.ABS_STAT_CRC_ERR n, F.ABS_STAT_FAIL_CNT n]))) ∧
  (∀ (n : Fin 2) (s : State), (s.absIn[n]).busy = true →
    Completes (.absStartTimeout n) s (After (fun u => u.raise [66 + n.val]) (fun u =>
      u.bit (F.ABS_STAT_TIMEOUT n) = true ∧
      u.fld (F.ABS_STAT_FAIL_CNT n) = min (s.fld (F.ABS_STAT_FAIL_CNT n) + 1) 65535 ∧
      Frame { s with absIn := s.absIn.set n { busy := false } } u [F.ABS_STAT_TIMEOUT n, F.ABS_STAT_FAIL_CNT n]))) ∧
  (∀ (n : Fin 2) (raw : Word) (e w : Bool) (crc : BitVec 6) (s : State), (s.absIn[n]).busy = false →
    Completes (.absCycleDone n raw e w crc) s (fun v => v = s) ∧ Completes (.absStartTimeout n) s (fun v => v = s))

/-- A switch level is accepted after its debounce time, captured, flagged, raised, and captured by what selects it (after R87, R94, R97, R98, R101). -/
def Obligations.SwitchLevelsAndTheirEvents : Prop :=
  (∀ (n : Fin 8) (lv : Bool) (pos : Nat) (s : State), s.sw[n] = { run := some (lv, pos) } →
    Completes (.switchAccept n) s (After (fun u => u.raise [if lv then 48 + n.val else 56 + n.val]) (fun u =>
      u.rdN (R.SW_CAP n) = pos % 2 ^ 32 ∧ bitN (u.fld F.SW_STAT_LEVEL) n = lv ∧ bitN (u.fld F.SW_STAT_CHG) n = true ∧
      Frame { s with sw := s.sw.set n { run := none } } u [whole (R.SW_CAP n), ⟨R.SW_STAT, n, 1⟩, ⟨R.SW_STAT, 8 + n, 1⟩]))) ∧
  (∀ (n : Fin 8) (s : State), (s.sw[n]).run = none → Completes (.switchAccept n) s (fun v => v = s)) ∧
  (∀ (n : Fin 8) (pin : Bool) (s : State), (pin != bitN (s.fld F.SW_CTL_INV) n) = bitN (s.fld F.SW_STAT_LEVEL) n →
    Completes (.switchInputChange n pin) s (fun v => v = { s with sw := s.sw.set n { run := none } })) ∧
  (∀ (n : Fin 8) (pin : Bool) (s : State),
    let lv := pin != bitN (s.fld F.SW_CTL_INV) n
    lv ≠ bitN (s.fld F.SW_STAT_LEVEL) n → (s.sw[n]).run = none → s.fld F.SW_CTL_DEB ≠ 0 →
    Completes (.switchInputChange n pin) s (fun v =>
      v = { s with sw := s.sw.set n { run := some (lv, s.pos (s.fld F.SW_CTL_CHAN)) } })) ∧
  (∀ (n : Fin 8) (pin : Bool) (s : State),
    let lv := pin != bitN (s.fld F.SW_CTL_INV) n
    lv ≠ bitN (s.fld F.SW_STAT_LEVEL) n → (s.sw[n]).run = none → s.fld F.SW_CTL_DEB = 0 →
    Completes (.switchInputChange n pin) s (After (fun u => u.raise [if lv then 48 + n.val else 56 + n.val]) (fun u =>
      u.rdN (R.SW_CAP n) = s.pos (s.fld F.SW_CTL_CHAN) ∧ bitN (u.fld F.SW_STAT_LEVEL) n = lv ∧
      bitN (u.fld F.SW_STAT_CHG) n = true ∧
      Frame { s with sw := s.sw.set n { run := none } } u [whole (R.SW_CAP n), ⟨R.SW_STAT, n, 1⟩, ⟨R.SW_STAT, 8 + n, 1⟩]))) ∧
  (∀ (n : Fin 8) (j : Fin 3) (lv : Bool) (pos : Nat) (s : State), s.sw[n] = { run := some (lv, pos) } →
    s.bit (F.EVT_CFG_GATE_EN (53 + j)) = false →
    (∀ c : Fin 64, s.evtHits [if lv then 48 + n.val else 56 + n.val] c = [] ↔ c.val ≠ 53 + j.val) →
    Completes (.switchAccept n) s (fun v =>
      v.fld (F.EVT_ACT_CNT (53 + j)) = (s.fld (F.EVT_ACT_CNT (53 + j)) + 1) % 2 ^ (F.EVT_ACT_CNT (53 + j)).w ∧
      v.fld (F.EVT_CFG_OVR (53 + j)) = 0 ∧ v.fld (F.EVT_CFG_COINC (53 + j)) = 0 ∧
      v.rdN (R.EVT_CAP_TS j) = s.tsNs ∧ (∀ k : Fin 4, v.rdN (R.EVT_CAP_POS0 j + 4 * k) = s.pos k) ∧
      v.fld (F.EVT_CAP_SEQ_SEQ j) = (s.fld (F.EVT_CAP_SEQ_SEQ j) + 1) % 2 ^ (F.EVT_CAP_SEQ_SEQ j).w ∧
      Frame { s with sw := s.sw.set n { run := none }, prt := v.prt } v
        ([F.EVT_ACT_CNT (53 + j), F.EVT_CFG_OVR (53 + j), F.EVT_CFG_COINC (53 + j), whole (R.EVT_CAP_TS j),
          F.EVT_CAP_SEQ_SEQ j, whole (R.SW_CAP n), ⟨R.SW_STAT, n, 1⟩, ⟨R.SW_STAT, 8 + n, 1⟩] ++
         (List.range 4).map (fun k => whole (R.EVT_CAP_POS0 j + 4 * k)))))

/-- A pulse pin returns inactive and its consumer becomes free (after R92, R98, R115). -/
def Obligations.PulsePinsEndAndConsumersFree : Prop :=
  (∀ (c : Fin 64) (s : State), s.evt.pin[c] = true →
    Completes (.pulsePinEnd c) s (fun v =>
      let e := { s with evt := { s.evt with pin := s.evt.pin.set c false } }.emit (.pulse c false)
      v = if c.val < 12 ∧ s.bit (F.CAM_LINK_TRIG_BOTH c) = true then e.camTrigger c false else e)) ∧
  (∀ (c : Fin 64) (s : State), s.evt.pin[c] = false → Completes (.pulsePinEnd c) s (fun v => v = s)) ∧
  (∀ (c : Fin 64) (s : State), s.evt.busy[c] = true → s.evt.pin[c] = false →
    Completes (.consumerBusyEnd c) s (fun v => v = { s with evt := { s.evt with busy := s.evt.busy.set c false } })) ∧
  (∀ (c : Fin 64) (s : State), s.evt.busy[c] = false ∨ s.evt.pin[c] = true → Completes (.consumerBusyEnd c) s (fun v => v = s))

/-- A lane that aligns joins its camera, port or link, and one that loses lock hunts again (after R110, R112, R117, R118, R123, R125, R134). The model's choice: the rate a hunting lane tries, and that a lane outside a reduced set waits (assumptions 60, 63). -/
def Obligations.LanesLockAndAreLost : Prop :=
  (∀ (i : Fin 114) (skew : BitVec 8) (s : State), s.lst i = lsHunt → i.val < 96 →
    let rate := huntRates.getD ((laneGet s.lane.tries i).getD 0) 12
    rate ≠ s.fld (F.CAM_LINK_RATE (i / 8)) →
    Completes (.laneLock i skew) s (fun v => v.lst i = lsLock ∧ v.fld (F.LANE_STAT_RATE i) = rate ∧
      Frame { s with lane := { s.lane with lost := s.lane.lost.filter (· != i.val) } } v
        [F.LANE_STAT_STATE i, F.LANE_STAT_RATE i])) ∧
  (∀ (i : Fin 114) (skew : BitVec 8) (s : State), s.lst i = lsHunt → i.val < 96 →
    huntRates.getD ((laneGet s.lane.tries i).getD 0) 12 = s.fld (F.CAM_LINK_RATE (i / 8)) →
    i.val % 8 < s.fld (F.CAM_LINK_CFG_LINKS (i / 8)) →
    (∀ n : Fin 12, n.val = i.val / 8 → s.lane.set[n] = 0 ∨ bitN s.lane.set[n] (i % 8) = true) →
    s.bit ⟨R.TOP_READY_IO, i / 8, 1⟩ = true →
    Completes (.laneLock i skew) s (fun v => v.lst i = lsServ ∧ bitN (v.fld (F.CAM_LINK_LANE_MASK (i / 8))) (i % 8) = true ∧
      v.fld (F.CAM_LINK_ACT_LINKS (i / 8)) = popcount 8 (v.fld (F.CAM_LINK_LANE_MASK (i / 8))) ∧
      Frame { s with lane := { s.lane with lost := s.lane.lost.filter (· != i.val) } } v
        [F.LANE_STAT_STATE i, F.LANE_STAT_RATE i, F.CAM_LINK_LANE_MASK (i / 8), F.CAM_LINK_ACT_LINKS (i / 8)])) ∧
  (∀ (i : Fin 114) (skew : BitVec 8) (s : State), s.lst i = lsHunt → 96 ≤ i.val → i.val < 112 → s.npLogical i = 3 →
    Completes (.laneLock i skew) s (fun v => v.lst i = lsSpare ∧ laneGet v.lane.skew i = some skew.toNat ∧
      Frame { s with lane := { s.lane with lost := s.lane.lost.filter (· != i.val), skew := v.lane.skew } } v
        [F.LANE_STAT_STATE i, F.LANE_STAT_RATE i])) ∧
  (∀ (i : Fin 114) (skew : BitVec 8) (s : State), s.lst i = lsHunt → 112 ≤ i.val → s.bit (F.LANE_STAT_HI_BER i) = false →
    Completes (.laneLock i skew) s (fun v => v.lst i = lsServ ∧ v.bit ⟨R.TOP_READY, 12 + (i.val - 112), 1⟩ = true ∧
      v.fld (F.LANE_STAT_RATE i) = (if s.ep25 (i.val - 112) then 0xF else 0xA) ∧
      Frame { s with lane := { s.lane with lost := s.lane.lost.filter (· != i.val) } } v
        [F.LANE_STAT_STATE i, F.LANE_STAT_RATE i, ⟨R.TOP_READY, 12 + (i.val - 112), 1⟩])) ∧
  (∀ (i : Fin 114) (skew : BitVec 8) (s : State), s.lst i ≠ lsHunt → Completes (.laneLock i skew) s (fun v => v = s)) ∧
  (∀ (i : Fin 114) (code disp : BitVec 16) (s : State), i.val < 96 → s.lst i = lsLock ∨ s.lst i = lsServ →
    Completes (.laneLockLoss i code disp) s (fun v => v.lst i = lsHunt ∧ v.fld (F.LANE_STAT_RATE i) = 0 ∧
      v.bit (F.LANE_STAT_LOCK_LOST i) = true ∧ v.bit (F.LANE_STAT_EYE_BUSY i) = false ∧
      v.bit (F.LANE_EYE_RES_ABORT i) = (s.bit (F.LANE_EYE_RES_ABORT i) || s.bit (F.LANE_STAT_EYE_BUSY i)) ∧
      v.fld (F.LANE_ERR_CODE_CNT i) = min (s.fld (F.LANE_ERR_CODE_CNT i) + code.toNat) 65535 ∧
      v.fld (F.LANE_ERR_DISP_CNT i) = min (s.fld (F.LANE_ERR_DISP_CNT i) + disp.toNat) 32767 ∧
      Frame { s with lane := v.lane, freeCtr := v.freeCtr } v
        [F.LANE_STAT_STATE i, F.LANE_STAT_RATE i, F.LANE_STAT_LOCK_LOST i, F.LANE_STAT_EYE_BUSY i, whole (R.LANE_EYE_RES i),
         whole (R.LANE_EQ i), whole (R.LANE_ERR i), F.CAM_LINK_LANE_MASK (i / 8), F.CAM_LINK_ACT_LINKS (i / 8)])) ∧
  (∀ (i : Fin 114) (code disp : BitVec 16) (s : State), s.lst i ∉ [lsLock, lsServ, lsSpare] →
    Completes (.laneLockLoss i code disp) s (fun v => v = s)) ∧
  (∀ (i : Fin 114) (s : State), i.val < 96 → s.lst i = lsHunt →
    Completes (.rateHuntDwell i) s (fun v =>
      (laneGet v.lane.tries i).getD 0 = ((laneGet s.lane.tries i).getD 0 + 1) % 7 ∧
      Frame { s with lane := { s.lane with tries := v.lane.tries } } v []))

/-- A camera packet is discarded and counted by its first fault, or joins the line in tag order (after R111, R112, R113, R116, R136, R137, R370). The model's choice: the order of a packet's checks, the faults of a lost master, and how 8-bit tags order the packets (assumptions 61, 64, 207). -/
def Obligations.CameraPacketsAreCheckedAndKept : Prop :=
  (∀ (n : Fin 12) (link fmt : Fin 8) (late : Bool) (tag stream : BitVec 8) (crcOk first : Bool) (line ofs : BitVec 16)
    (pix : List (List Nat)) (s : State), s.lst (8 * n + link) = lsServ → s.camUsed n = true →
    late = true ∨ 128 ≤ tagAhead tag.toNat (s.ing[n].nextTag.getD tag.toNat) →
    Completes (.cxpPacket n link late tag stream crcOk first fmt line ofs pix) s (fun v =>
      v.bit (F.CAM_LINK_SKEW n) = true ∧ Frame { s with ing := s.ing.set n (s.ing[n].passTag tag.toNat) } v [F.CAM_LINK_SKEW n])) ∧
  (∀ (n : Fin 12) (link fmt : Fin 8) (tag stream : BitVec 8) (crcOk first : Bool) (line ofs : BitVec 16)
    (pix : List (List Nat)) (s : State), s.lst (8 * n + link) = lsServ → s.camUsed n = true →
    tagAhead tag.toNat (s.ing[n].nextTag.getD tag.toNat) < 128 →
    let wrong := stream.toNat ≠ s.fld (F.ING_FMT_STREAM_ID n)
    wrong ∨ crcOk = false ∨ (first = true ∧ fmt.val ≠ s.fld (F.ING_FMT_FMT n)) →
    let flag := if !decide wrong && !crcOk then F.ING_STAT_CRC_ERR n else F.ING_STAT_STREAM_ERR n
    let g := if wrong then s.ing[n] else s.ing[n].order { tag := tag.toNat, opens := none, ofs := 0, pix := [] }
    Completes (.cxpPacket n link false tag stream crcOk first fmt line ofs pix) s (fun v =>
      v.bit flag = true ∧ v.fld (F.ING_CNT2_A n) = min (s.fld (F.ING_CNT2_A n) + 1) (2 ^ (F.ING_CNT2_A n).w - 1) ∧
      Frame { s.wakeBlock 0x06 with ing := s.ing.set n g } v [flag, F.ING_CNT2_A n, F.ING_CNT2_SAT n])) ∧
  (∀ (n : Fin 12) (link fmt : Fin 8) (tag stream : BitVec 8) (first : Bool) (line ofs : BitVec 16) (pix : List (List Nat)) (s : State),
    s.lst (8 * n + link) = lsServ → s.camUsed n = true → stream.toNat = s.fld (F.ING_FMT_STREAM_ID n) →
    first = false ∨ fmt.val = s.fld (F.ING_FMT_FMT n) →
    let g := s.ing[n]
    g.ahead = [] → g.nextTag = none ∨ g.nextTag = some tag.toNat → first = false ∨ (g.rxLine = none ∧ g.rx = []) →
    Completes (.cxpPacket n link false tag stream true first fmt line ofs pix) s (fun v =>
      v = { s.wakeBlock 0x06 with ing := s.ing.set n { g with
        rx := g.rx ++ [(ofs.toNat, pix)], rxLine := if first then some line.toNat else g.rxLine, nextTag := some ((tag.toNat + 1) % 256) } })) ∧
  (∀ (n : Fin 12) (link fmt : Fin 8) (tag stream : BitVec 8) (first : Bool) (line ofs : BitVec 16) (pix : List (List Nat)) (s : State),
    s.lst (8 * n + link) = lsServ → s.camUsed n = true → stream.toNat = s.fld (F.ING_FMT_STREAM_ID n) →
    first = false ∨ fmt.val = s.fld (F.ING_FMT_FMT n) →
    let g := s.ing[n]
    g.ahead = [] → (∀ x, g.nextTag = some x → 0 < tagAhead tag.toNat x ∧ tagAhead tag.toNat x < 128) → g.nextTag.isSome = true →
    Completes (.cxpPacket n link false tag stream true first fmt line ofs pix) s (fun v =>
      v = { s.wakeBlock 0x06 with ing := s.ing.set n { g with
        ahead := [{ tag := tag.toNat, opens := if first then some line.toNat else none, ofs := ofs.toNat, pix := pix }] } })) ∧
  (∀ (n : Fin 12) (link fmt : Fin 8) (late : Bool) (tag stream : BitVec 8) (crcOk first : Bool) (line ofs : BitVec 16)
    (pix : List (List Nat)) (s : State), s.lst (8 * n + link) ≠ lsServ ∨ s.camUsed n = false →
    Completes (.cxpPacket n link late tag stream crcOk first fmt line ofs pix) s (fun v => v = s)) ∧
  (∀ (n : Fin 12) (s : State), s.has .cam n = true →
    Completes (.downlinkTrigger n) s (fun v => v.bit (F.ING_STAT_DL_TRIG n) = true ∧
      v.fld (F.ING_CNT2_B n) = min (s.fld (F.ING_CNT2_B n) + 1) (2 ^ (F.ING_CNT2_B n).w - 1) ∧
      Frame s v [F.ING_STAT_DL_TRIG n, F.ING_CNT2_B n, F.ING_CNT2_SAT n])) ∧
  (∀ (n : Fin 12) (s : State), s.has .cam n = false → Completes (.downlinkTrigger n) s (fun v => v = s)) ∧
  (∀ (n : Fin 12) (hb : Bool) (bs : List Byte) (s : State), s.masterUp n = true → s.bit F.HQ_CXP_CFG_EN = true →
    let c := s.fld F.HQ_CXP_CFG_QID
    let e : HostEntry := .pkt { opc := 0x8050, param0 := n + 256 * b2n hb, data := bs }
    s.hasRoom c e.ringBytes = true →
    Completes (.cxpCtrlReceived n hb bs) s (fun v => v.hq.posted = s.hq.posted ++ [(c, e)] ∧
      Frame { s with hq := v.hq, out := v.out } v
        [F.HQ_TAIL_OFS (32 + c), F.HQ_STAT_FULL (32 + c), whole (R.MSIX_PBA 0), whole (R.MSIX_PBA 1)])) ∧
  (∀ (n : Fin 12) (hb : Bool) (bs : List Byte) (s : State), s.masterUp n = false ∨ s.bit F.HQ_CXP_CFG_EN = false →
    Completes (.cxpCtrlReceived n hb bs) s (fun v => v = s)) ∧
  (∀ (n : Fin 12) (s : State), s.bit ⟨R.TOP_READY_IO, n, 1⟩ = true → s.lst (8 * n) ≠ lsServ →
    Completes (.masterLossTimeout n) s (After (fun u => u.fault 0x07 0x1 (32 + n)) (fun u =>
      u.bit ⟨R.TOP_READY_IO, n, 1⟩ = false ∧
      Frame (s.fault 0x04 0x4 (8 * n) (w5 := n) (w6 := s.fld (F.CAM_LINK_ACT_LINKS n))) u [⟨R.TOP_READY_IO, n, 1⟩]))) ∧
  (∀ (n : Fin 12) (s : State), s.bit ⟨R.TOP_READY_IO, n, 1⟩ = false ∨ s.lst (8 * n) = lsServ →
    Completes (.masterLossTimeout n) s (fun v => v = s))

/-- A lane is retired only where its register allows it, and its camera goes on with fewer links (after R132, R134). The model's choice: the lanes a reduction leaves and those that join again, the faults and their words, and which lanes count as in service (assumptions 63, 64, 70). -/
def Obligations.LaneRetirementAndReduction : Prop :=
  (∀ (i : Fin 114) (code disp : BitVec 16) (s : State), i.val < 112 → s.bit (F.LANE_CTL_RET_EN i) = true →
    s.lst i = lsServ ∨ s.lst i = lsSpare ∨ (i.val ∈ s.lane.lost ∧ s.lst i ≠ lsTest) → s.fld F.PWR_STAT_STATE ≠ 2 ∨ 96 ≤ i.val →
    Completes (.laneRetire i code disp) s (fun v => v.lst i = lsRetired ∧ i.val ∉ v.lane.lost ∧
      v.fld (F.LANE_ERR_CODE_CNT i) = min (s.fld (F.LANE_ERR_CODE_CNT i) + code.toNat) 65535 ∧
      FrameRegs s v (fun off => inBlocks [.lane, .nim, .top, .hostq, .seg, .time] off))) ∧
  (∀ (i : Fin 114) (code disp : BitVec 16) (s : State), i.val < 112 → s.bit (F.LANE_CTL_RET_EN i) = true →
    s.lst i = lsServ ∨ s.lst i = lsSpare ∨ (i.val ∈ s.lane.lost ∧ s.lst i ≠ lsTest) → s.fld F.PWR_STAT_STATE ≠ 2 ∨ 96 ≤ i.val →
    let n := if i.val < 96 then i.val / 8 else (i.val - 96) / 4
    let links := fun (u : State) => if i.val < 96 then u.fld (F.CAM_LINK_ACT_LINKS n) else (u.npDataIn n [lsServ]).length
    let next := fun (u : State) =>
      if 96 ≤ i.val then (if s.npLogical i = 3 then u else u.npRetire n (s.npLogical i))
      else if i.val % 8 = 0 then (u.fault 0x04 0x4 i (w5 := n) (w6 := links u)).setReady (32 + n) false else u.reduce n i
    Completes (.laneRetire i code disp) s (After (fun u => next (u.fault 0x04 0x1 i (w5 := n) (w6 := links u))) (fun u =>
      u.lst i = lsRetired ∧ u.fld (F.LANE_STAT_RATE i) = 0 ∧ u.bit (F.LANE_STAT_EYE_BUSY i) = false ∧
      Frame { s with lane := { s.lane with lost := s.lane.lost.filter (· != i.val) }, freeCtr := u.freeCtr } u
        ([F.LANE_STAT_STATE i, F.LANE_STAT_RATE i, F.LANE_STAT_EYE_BUSY i, whole (R.LANE_EYE_RES i), whole (R.LANE_ERR i)] ++
          if i.val < 96 then [F.CAM_LINK_LANE_MASK n, F.CAM_LINK_ACT_LINKS n] else [])))) ∧
  (∀ (i : Fin 114) (code disp : BitVec 16) (s : State), 112 ≤ i.val ∨ s.bit (F.LANE_CTL_RET_EN i) = false ∨
    (s.fld F.PWR_STAT_STATE = 2 ∧ i.val < 96) ∨ (s.lst i ≠ lsServ ∧ s.lst i ≠ lsSpare ∧ (i.val ∉ s.lane.lost ∨ s.lst i = lsTest)) →
    Completes (.laneRetire i code disp) s (fun v => v = s)) ∧
  (∀ (n : Fin 12) (s : State), s.lane.ctrl[n] = [] → ∀ m rest, s.lane.red[n] = m :: rest →
    Completes (.cameraLinkAck n true) s (After (fun u => { u with lane := { u.lane with ctrl := u.lane.ctrl.set n [] } })
      (After (fun u => u.fault 0x04 0x2 (8 * n) (w5 := n) (w6 := u.fld (F.CAM_LINK_ACT_LINKS n)))
        (fun u => u.bit (F.CAM_LINK_REDUCED n) = true ∧ u.fld (F.CAM_LINK_LANE_MASK n) = u.camMask n ∧
          u.fld (F.CAM_LINK_ACT_LINKS n) = popcount 8 (u.camMask n) ∧
          (∀ j : Fin 8, u.lst (8 * n + j) = if bitN m j = true
            then (if s.lst (8 * n + j) = lsLock ∧ s.fld (F.LANE_STAT_RATE (8 * n + j)) = s.fld (F.CAM_LINK_RATE n) then lsServ else s.lst (8 * n + j))
            else if s.lst (8 * n + j) = lsServ then lsLock else s.lst (8 * n + j)) ∧
          Frame { s with lane := { s.lane with red := s.lane.red.set n rest, set := s.lane.set.set n m } } u
            ([F.CAM_LINK_REDUCED n, F.CAM_LINK_LANE_MASK n, F.CAM_LINK_ACT_LINKS n] ++ (List.range 8).map (fun j => F.LANE_STAT_STATE (8 * n + j))))))) ∧
  (∀ (n : Fin 12) (s : State), s.lane.ctrl[n] = [] → ∀ m rest, s.lane.red[n] = m :: rest →
    Completes (.cameraLinkAck n false) s (After (fun u => { u with lane := { u.lane with ctrl := u.lane.ctrl.set n [] } })
      (After (fun u => u.fault 0x04 0x3 (8 * n) (w5 := n) (w6 := s.fld (F.CAM_LINK_ACT_LINKS n)))
        (fun u => u.bit (F.CAM_LINK_NO_REDUCE n) = true ∧
          Frame { s with lane := { s.lane with red := s.lane.red.set n rest } } u [F.CAM_LINK_NO_REDUCE n])))) ∧
  (∀ (n : Fin 12) (ok : Bool) (s : State), s.lane.red[n] = [] → Completes (.cameraLinkAck n ok) s (fun v => v = s))

/-- Lane controls are checked, seeds are kept, eye scans count (after R120, R121, R123). The model's choice: when a scan is aborted at once and what START clears (assumption 68). -/
def Obligations.LaneControlsAndEyeScans : Prop :=
  (∀ (i : Fin 114) (val : Word) (s : State), s.has .lane i = true →
    Completes (.laneEqSeedWrite i val) s (fun v => laneGet v.lane.seeds i = some (val &&& 0x3FFFFFFF) ∧
      Frame { s with lastStatus := 0, lane := { s.lane with seeds := v.lane.seeds } } v [])) ∧
  (∀ (i : Fin 114) (val : Word) (s : State), s.has .lane i = true → i.val < 96 → val.toNat % 4 = 3 →
    Completes (.laneCtlWrite i val) s (fun v => v = { s with lastStatus := 0x40 })) ∧
  (∀ (i : Fin 114) (val : Word) (s : State), s.has .lane i = true → s.bit (F.LANE_CTL_EN (if i.val < 96 then 8 * (i / 8) else i)) = true →
    s.lst i ∈ [lsLock, lsServ, lsTest] → val.toNat % 4 ≠ s.fld (F.LANE_CTL_LOOP i) → val.toNat % 4 ≠ 0 →
    Completes (.laneCtlWrite i val) s (fun v => v = { s with lastStatus := 0x40 })) ∧
  (∀ (i : Fin 114) (val : Word) (s : State), s.has .lane i = true → s.lst i ∈ [lsOff, lsHunt, lsSpare, lsRetired] →
    val.toNat % 16 ≠ 0 → val.toNat % 4 ≠ 3 →
    Completes (.laneCtlWrite i val) s (fun v => v.lst i = lsTest ∧ v.fld (F.LANE_CTL_LOOP i) = val.toNat % 4 ∧
      v.fld (F.LANE_CTL_PRBS i) = val.toNat / 4 % 4 ∧ v.fld (F.LANE_CTL_RET_THR i) = val.toNat / 256 % 256 ∧
      laneGet v.lane.tests i = some (s.lst i) ∧
      Frame { s with lastStatus := 0, lane := { s.lane with tests := v.lane.tests } } v
        [F.LANE_STAT_STATE i, F.LANE_CTL_LOOP i, F.LANE_CTL_PRBS i, F.LANE_CTL_EQ_FREEZE i, F.LANE_CTL_RET_EN i,
         F.LANE_CTL_RET_THR i])) ∧
  (∀ (i : Fin 114) (val : Word) (s : State), s.has .lane i = true →
    val.toNat % 64 = 32 ∨ val.toNat / 256 % 128 = 64 →
    Completes (.eyeScanStart i val) s (fun v => v = { s with lastStatus := 0x40 })) ∧
  (∀ (i : Fin 114) (val : Word) (s : State), s.has .lane i = true → val.toNat % 64 ≠ 32 → val.toNat / 256 % 128 ≠ 64 →
    bitN val.toNat 31 = true →
    let runs := [lsLock, lsServ, lsSpare, lsTest].contains (s.lst i)
    Completes (.eyeScanStart i val) s (fun v => v.bit (F.LANE_STAT_EYE_BUSY i) = runs ∧ v.fld (F.LANE_EYE_RES_ERR_CNT i) = 0 ∧
      v.bit (F.LANE_EYE_RES_SAT i) = false ∧ (runs = false → v.bit (F.LANE_EYE_RES_ABORT i) = true) ∧
      v.rd (R.LANE_EYE_CTL i) = val &&& 0x001F7F3F ∧
      Frame { s with lastStatus := 0 } v [whole (R.LANE_EYE_CTL i), F.LANE_EYE_RES_SAT i, F.LANE_EYE_RES_ERR_CNT i,
        F.LANE_STAT_EYE_BUSY i, F.LANE_EYE_RES_ABORT i])) ∧
  (∀ (i : Fin 114) (errors : Word) (s : State), s.bit (F.LANE_STAT_EYE_BUSY i) = true →
    Completes (.eyeScanDone i errors) s (fun v => v.bit (F.LANE_STAT_EYE_BUSY i) = false ∧
      v.fld (F.LANE_EYE_RES_ERR_CNT i) = min errors.toNat (2 ^ 24 - 1) ∧ v.bit (F.LANE_EYE_RES_DONE i) = true ∧
      v.bit (F.LANE_EYE_RES_SAT i) = (s.bit (F.LANE_EYE_RES_SAT i) || 2 ^ 24 - 1 ≤ errors.toNat) ∧
      Frame s v [F.LANE_STAT_EYE_BUSY i, F.LANE_EYE_RES_ERR_CNT i, F.LANE_EYE_RES_DONE i, F.LANE_EYE_RES_SAT i])) ∧
  (∀ (i : Fin 114) (val : Word) (s : State), s.has .lane i = false →
    ∀ c ∈ [Instr.laneEqSeedWrite i val, .laneCtlWrite i val, .eyeScanStart i val], Completes c s (fun v => v = s))

/-- Nimeb ports identify, send in order, and go by their credits (after R29, R126, R127, R128, R129, R130, R131, R133). The model's choice: how bad frames are counted and answered, the frame a NAK is, when a HELD port goes on, and which direction NPp_MAP shows (assumptions 69, 188, 189, 191). -/
def Obligations.NimebPortsIdentifyAndReplay : Prop :=
  (∀ (id : BitVec 18) (s : State), s.fld F.TOP_READY_NP = 0 → (∀ p : Fin 4, s.bit (F.NP_CTL_EN p) = false) →
    Completes (.devIdWrite id) s (fun v => v.fld F.TOP_DEVID_DEV_ID = id.toNat ∧ v.bit F.TOP_DEVID_VALID = true ∧
      (∀ p : Fin 4, v.np[p] = { s.np[p] with rewritten := s.np[p].rewritten || s.npSt p == npHeld }) ∧
      Frame { s with lastStatus := 0, np := v.np } v [F.TOP_DEVID_DEV_ID, F.TOP_DEVID_VALID])) ∧
  (∀ (id : BitVec 18) (p : Fin 4) (s : State), s.fld F.TOP_READY_NP = 0 → s.bit (F.NP_CTL_EN p) = true → s.npSt p = npHeld →
    Completes (.devIdWrite id) s (fun v => v.npSt p = if s.bit F.TOP_DEVID_DUP_ID then npHeld else npTrain)) ∧
  (∀ (id : BitVec 18) (s : State), s.fld F.TOP_READY_NP ≠ 0 →
    Completes (.devIdWrite id) s (fun v => v = { s with lastStatus := 0x40 })) ∧
  (∀ (p : Fin 4) (s : State), s.npSt p = npIdent → (s.npS p).ident = false →
    Completes (.identTimer p) s (fun v => v.out = s.out ++ [sentFrame s p 6 0 0x3FFFF s.devId 0 0
        (leBytes 4 s.devId ++ leBytes 2 (s.fld F.TOP_ID_PART) ++ leBytes 1 p ++ [0])] ∧
      Frame { s with out := v.out, np := s.np.set p { s.np[p] with next := v.np[p].next, count := s.np[p].count + 1 } } v [])) ∧
  (∀ (p : Fin 4) (s : State), s.npSt p ≠ npIdent ∨ (s.npS p).ident = true → Completes (.identTimer p) s (fun v => v = s)) ∧
  (∀ (p : Fin 4) (id : BitVec 18) (ack : Option (BitVec 12)) (s : State), s.npSt p = npIdent → id.toNat ≠ s.devId → (s.npS p).wait = [] →
    let t := s.npAck p ack
    Completes (.identFrame p id ack) s (fun v => v.npSt p = npStUp ∧ v.fld (F.NP_STAT_PEER_ID p) = id.toNat ∧
      v.bit ⟨R.TOP_READY, 16 + p, 1⟩ = true ∧
      Frame { t with np := t.np.set p { t.np[p] with ident := true, rewritten := false } } v
        [F.NP_STAT_STATE p, F.NP_STAT_PEER_ID p, ⟨R.TOP_READY, 16 + p, 1⟩])) ∧
  (∀ (p : Fin 4) (id : BitVec 18) (ack : Option (BitVec 12)) (s : State), s.npSt p = npIdent → id.toNat = s.devId →
    let t := s.npAck p ack
    Completes (.identFrame p id ack) s (fun v => v.npSt p = npHeld ∧ v.bit F.TOP_DEVID_DUP_ID = true ∧
      Frame { t with np := t.np.set p { t.np[p] with ident := true, rewritten := false } } v [F.NP_STAT_STATE p, F.TOP_DEVID_DUP_ID])) ∧
  (∀ (p : Fin 4) (id : BitVec 18) (ack : Option (BitVec 12)) (s : State), s.npSt p ≠ npIdent →
    Completes (.identFrame p id ack) s (fun v => v = s.npAck p ack)) ∧
  (∀ (p : Fin 4) (a : BitVec 12) (s : State), s.npSt p ≠ npIdent → (s.npS p).wait = [] →
    ∀ i ∈ [Instr.identFrame p 0 (some a), .identFrame p 1 (some a)], Completes i s (fun v =>
      v = { s with np := s.np.set p { s.np[p] with kept := (s.npS p).kept.filter (fun e => 2048 ≤ (a.toNat + 4096 - e.1) % 4096) } })) ∧
  (∀ (p : Fin 4) (s : State), s.has .nport p = true → s.npSt p ∉ [0, npHeld] →
    Completes (.npRetrain p) s (fun v => v.npSt p = npTrain ∧ v.bit ⟨R.TOP_READY, 16 + p, 1⟩ = false ∧ v.lastStatus = 0 ∧ FrameMem s v s.spillByte ∧
      FrameRegs s v (fun off => inBlocks [.nim, .lane] off || s.bit ⟨R.TOP_READY, 16 + p, 1⟩ && (off == R.TOP_READY || inBlocks [.hostq, .seg, .time] off)))) ∧
  (∀ (p : Fin 4) (s : State), s.has .nport p = true → s.npSt p ∈ [0, npHeld] →
    Completes (.npRetrain p) s (fun v => v = { s with lastStatus := 0 })) ∧
  (∀ (p : Fin 4) (s : State), s.has .nport p = false → Completes (.npRetrain p) s (fun v => v = s)) ∧
  (∀ (p : Fin 4) (c : Fin 4 → BitVec 8) (ack : Option (BitVec 12)) (s : State), s.npSt p = npStUp → (s.npS p).wait = [] →
    Completes (.creditFrame p (c 0) (c 1) (c 2) (c 3) ack) s (fun v =>
      (∀ k : Fin 4, v.fld (creditF p k) = min 255 (s.fld (creditF p k) + (c k).toNat)) ∧
      Frame (s.npAck p ack) v ((List.range 4).map (creditF p)))) ∧
  (∀ (p : Fin 4) (s : State), s.npSt p = npStUp → (s.npS p).owed.any (· != 0) = true →
    Completes (.creditReturnTimer p) s (fun v => v.out = s.out ++ [sentFrame s p 2 4 0x3FFFF s.devId 0 s.np[p].rxSeq
        ((s.npS p).owed.flatMap (fun c => leBytes 1 (min 255 c)) ++ zeros 4)] ∧
      (let x := { s.np[p] with owed := s.np[p].owed.map (· - 255), next := v.np[p].next, count := s.np[p].count + 1 }
       Frame { s with out := v.out, np := s.np.set p x } v []))) ∧
  (∀ (p : Fin 4) (s : State), s.npSt p ≠ npStUp ∨ (s.npS p).owed.any (· != 0) = false →
    Completes (.creditReturnTimer p) s (fun v => v = s)) ∧
  (∀ (p : Fin 4) (ack : BitVec 12) (s : State), s.npSt p = npStUp → (s.npS p).wait = [] →
    let k := (s.npS p).kept.filter (fun e => 2048 ≤ (ack.toNat + 4096 - e.1) % 4096)
    Completes (.nakReceived p ack) s (fun v =>
      v.fld (F.NP_CNT_REPLAY_CNT p) = min (s.fld (F.NP_CNT_REPLAY_CNT p) + 1) 32767 ∧
      v.out = (k.foldl (fun (t : State) e => t.nimCredited p e.1 e.2) s).out ∧
      Frame { s with np := s.np.set p { s.np[p] with kept := k, next := v.np[p].next, count := s.np[p].count + k.length }, out := v.out } v
        [F.NP_CNT_REPLAY_CNT p, F.NP_CNT_SAT p])) ∧
  (∀ (p : Fin 4) (ack : BitVec 12) (a : Option (BitVec 12)) (c : BitVec 8) (s : State), s.npSt p ≠ npStUp →
    ∀ i ∈ [Instr.nakReceived p ack, .creditFrame p c c c c a, .laneSwapFrame p 0 1 0 a], Completes i s (fun v => v = s)) ∧
  (∀ (p : Fin 4) (j : Fin 3) (l : Fin 4) (m : BitVec 16) (ack : Option (BitVec 12)) (s : State), s.npSt p = npStUp →
    let t := s.npAck p ack
    Completes (.laneSwapFrame p j l m ack) s (fun v =>
      v = { t with np := t.np.set p { t.np[p] with swapTx := some (j.val, l.val, m.toNat) } })) ∧
  (∀ (p : Fin 4) (j : Fin 3) (l : Fin 4) (m : Nat) (s : State), s.np[p].swapRx = some (j.val, l.val, m) →
    let map := swapMap s.np[p].rxMap j l
    let lane := 96 + 4 * p.val + l.val
    Completes (.laneSwapApply p false) s (fun v => v.rdN (R.NP_MAP p) = (map.zipIdx.map (fun e => e.1 * 4 ^ e.2)).sum % 2 ^ 32 ∧
      v.bit (F.NP_STAT_SPARE_USED p) = true ∧ v.lst lane = (if s.lst lane = lsSpare then lsServ else s.lst lane) ∧
      v.fld (F.NP_STAT_LANES p) = (v.npDataIn p [lsServ]).length ∧
      Frame { s with np := s.np.set p { s.np[p] with swapRx := none, rxMap := map, rxMark := m },
                     time := { s.time with reqSpoil := v.time.reqSpoil } } v
        [whole (R.NP_MAP p), F.NP_STAT_SPARE_USED p, F.LANE_STAT_STATE lane, F.NP_STAT_LANES p])) ∧
  (∀ (p : Fin 4) (j : Fin 3) (l : Fin 4) (m : Nat) (s : State), s.np[p].swapTx = some (j.val, l.val, m) →
    let map := swapMap s.np[p].txMap j l
    Completes (.laneSwapApply p true) s (fun v => v.rdN (R.NP_MAP p) = (map.zipIdx.map (fun e => e.1 * 4 ^ e.2)).sum % 2 ^ 32 ∧
      v.bit (F.NP_STAT_SPARE_USED p) = true ∧
      Frame { s with np := s.np.set p { s.np[p] with swapTx := none, txMap := map, txMark := m },
                     time := { s.time with reqSpoil := v.time.reqSpoil } } v
        [whole (R.NP_MAP p), F.NP_STAT_SPARE_USED p])) ∧
  (∀ (p : Fin 4) (tx : Bool) (s : State), (if tx then s.np[p].swapTx else s.np[p].swapRx) = none →
    Completes (.laneSwapApply p tx) s (fun v => v = s)) ∧
  (∀ (p vc : Fin 4) (dst src : BitVec 18) (seq : BitVec 12) (ack : Option (BitVec 12)) (bs : List Byte) (s : State),
    s.npSt p = npStUp →
    Completes (.nimebDataFrame p vc dst src seq ack false bs) s (fun v =>
      v.fld (F.NP_CNT_CRC_CNT p) = min (s.fld (F.NP_CNT_CRC_CNT p) + 1) 65535 ∧
      v.out = s.out ++ [sentFrame s p 2 12 0x3FFFF s.devId 0 s.np[p].rxSeq (zeros 8)] ∧
      Frame { s with out := v.out, np := s.np.set p { s.np[p] with next := v.np[p].next, count := s.np[p].count + 1 } } v [F.NP_CNT_CRC_CNT p, F.NP_CNT_SAT p])) ∧
  (∀ (p vc : Fin 4) (dst src : BitVec 18) (seq : BitVec 12) (bs : List Byte) (s : State),
    s.npSt p = npStUp → bs.length ≤ 256 → seq.toNat ≠ (s.np[p].rxSeq + 1) % 4096 →
    Completes (.nimebDataFrame p vc dst src seq none true bs) s (fun v =>
      v.out = s.out ++ [sentFrame s p 2 12 0x3FFFF s.devId 0 s.np[p].rxSeq (zeros 8)] ∧
      Frame { s with out := v.out, np := s.np.set p { s.np[p] with next := v.np[p].next, count := s.np[p].count + 1 } } v [])) ∧
  (∀ (p vc : Fin 4) (dst src : BitVec 18) (seq : BitVec 12) (bs : List Byte) (s : State),
    s.npSt p = npStUp → bs.length ≤ 256 → seq.toNat = (s.np[p].rxSeq + 1) % 4096 → s.ownDst dst.toNat = false →
    s.route dst.toNat = none →
    Completes (.nimebDataFrame p vc dst src seq none true bs) s (fun v =>
      v.fld F.NIM_NOROUTE_CNT = min (s.fld F.NIM_NOROUTE_CNT + 1) 65535 ∧
      (let x := { s.np[p] with rxSeq := seq.toNat, owed := s.np[p].owed.modify vc (· + frameCredits bs.length) }
       Frame { s with np := s.np.set p x } v [F.NIM_NOROUTE_CNT, F.NIM_NOROUTE_SAT]))) ∧
  (∀ (p vc : Fin 4) (dst src : BitVec 18) (seq : BitVec 12) (ack : Option (BitVec 12)) (ok : Bool) (bs : List Byte) (s : State),
    s.npSt p ≠ npStUp → Completes (.nimebDataFrame p vc dst src seq ack ok bs) s (fun v => v = s))

/-- A camera line takes the oldest tag or is an orphan, and a tag without a line gets a substitute (after R137, R141, R142, R143, R144, R163). -/
def Obligations.CameraLinesTakeTheirTags : Prop :=
  (∀ (n : Fin 12) (full : Bool) (s : State), s.camUsed n = false → Completes (.lineEnd n full) s (fun v => v = s)) ∧
  (∀ (n : Fin 12) (full : Bool) (s : State), s.camUsed n = true → s.ing[n].tags = [] → s.bit (F.ING_CTL_SEQ_CHK n) = false →
    let g := s.ing[n].flush
    let short := (gather (s.fld (F.ING_GEOM_PPL n)) g.rx).1.any Option.isNone
    Completes (.lineEnd n full) s (fun v => v.bit (F.ING_STAT_ORPHAN n) = true ∧
      v.fld (F.ING_CNT1_B n) = min (s.fld (F.ING_CNT1_B n) + 1) (2 ^ (F.ING_CNT1_B n).w - 1) ∧
      v.bit (F.ING_STAT_LINE_SHORT n) =
        (s.bit (F.ING_STAT_LINE_SHORT n) || short) ∧
      v.fld (F.ING_CNT0_A n) = min (s.fld (F.ING_CNT0_A n) + b2n short) (2 ^ (F.ING_CNT0_A n).w - 1) ∧
      Frame { s.wakeBlock 0x06 with ing := s.ing.set n g.nextLine, freeCtr := v.freeCtr } v
        [F.ING_STAT_ORPHAN n, F.ING_CNT1_B n, F.ING_CNT1_SAT n, F.ING_STAT_LINE_SHORT n, F.ING_STAT_LINE_LONG n,
         F.ING_CNT0_A n, F.ING_CNT0_B n, F.ING_CNT0_SAT n])) ∧
  (∀ (n : Fin 12) (full : Bool) (t : Tag) (rest : List Tag) (s0 : State),
    let s : State := { s0 with ing := s0.ing.set n { s0.ing[n] with tags := t :: rest } }
    s.camUsed n = true → s.bit (F.ING_CTL_SEQ_CHK n) = false →
    let size := 64 + 64 * (((s.actW n * s.chans n * s.depth n + 7) / 8 + 4 + 63) / 64)
    let a := s.slotAddr n t.seq
    let g := s.ing[n].flush.nextLine
    let short := (gather (s.fld (F.ING_GEOM_PPL n)) s.ing[n].flush.rx).1.any Option.isNone
    Completes (.lineEnd n full) s (fun v => (short = true → v.bit (F.ING_STAT_LINE_SHORT n) = true) ∧
      v.fld (F.ING_CNT0_A n) = min (s.fld (F.ING_CNT0_A n) + b2n short) (2 ^ (F.ING_CNT0_A n).w - 1) ∧ v.ing[n].tags = rest ∧ v.ing[n].rx = g.rx ∧ v.ing[n].rxLine = g.rxLine ∧
      v.ing[n].ahead = g.ahead ∧
      v.rdN (R.ING_SEQ n) = t.seq % 2 ^ 32 ∧ FrameMem s v (fun x => s.leading n && decide (a ≤ x) && decide (x < a + size)) ∧
      FrameRegs s v (fun off => inBlocks [.ing, .sti, .cmp] off || off == R.PWR_CLASS 0x06 || off == R.PWR_CLASS 0x10 || s.ing[n].act.any (fun e => e.1 == off)))) ∧
  (∀ (n : Fin 12) (full : Bool) (t : Tag) (rest : List Tag) (x : Nat) (d : Fin 32768) (s0 : State),
    let s : State := { s0 with ing := s0.ing.set n { s0.ing[n] with
      tags := t :: rest, expect := some ((x + 1 + d.val) % 65536) } }
    let g := s.ing[n].flush
    let short := (gather (s.fld (F.ING_GEOM_PPL n)) g.rx).1.any Option.isNone
    s.camUsed n = true → s.bit (F.ING_CTL_SEQ_CHK n) = true → g.rxLine = some x →
    Completes (.lineEnd n full) s (fun v => v.bit (F.ING_STAT_DUP n) = true ∧
      v.fld (F.ING_CNT1_B n) = min (s.fld (F.ING_CNT1_B n) + 1) (2 ^ (F.ING_CNT1_B n).w - 1) ∧
      v.bit (F.ING_STAT_LINE_SHORT n) = (s.bit (F.ING_STAT_LINE_SHORT n) || short) ∧
      v.fld (F.ING_CNT0_A n) = min (s.fld (F.ING_CNT0_A n) + b2n short) (2 ^ (F.ING_CNT0_A n).w - 1) ∧
      Frame { s.wakeBlock 0x06 with ing := s.ing.set n g.nextLine } v
        [F.ING_STAT_DUP n, F.ING_CNT1_B n, F.ING_CNT1_SAT n, F.ING_STAT_LINE_SHORT n, F.ING_STAT_LINE_LONG n,
         F.ING_CNT0_A n, F.ING_CNT0_B n, F.ING_CNT0_SAT n])) ∧
  (∀ (n : Fin 12) (full : Bool) (t : Tag) (rest : List Tag) (s0 : State),
    let s : State := { s0 with ing := s0.ing.set n { s0.ing[n] with tags := t :: rest } }
    let size := 64 + 64 * (((s.actW n * s.chans n * s.depth n + 7) / 8 + 4 + 63) / 64)
    let a := s.slotAddr n t.seq
    Completes (.tagTimeout n full) s (fun v => v.ing[n].tags = rest ∧ v.bit (F.ING_STAT_SUBST n) = true ∧
      v.fld (F.ING_CNT1_A n) = min (s.fld (F.ING_CNT1_A n) + 1) (2 ^ (F.ING_CNT1_A n).w - 1) ∧
      v.rdN (R.ING_SEQ n) = t.seq % 2 ^ 32 ∧ FrameMem s v (fun x => s.leading n && decide (a ≤ x) && decide (x < a + size)) ∧
      FrameRegs s v (fun off => inBlocks [.ing, .sti, .cmp] off || off == R.PWR_CLASS 0x10 || s.ing[n].act.any (fun e => e.1 == off)))) ∧
  (∀ (n : Fin 12) (full : Bool) (s : State), s.ing[n].tags = [] → Completes (.tagTimeout n full) s (fun v => v = s))

/-- A correction table set is checked, flips at a line, and the dark reference is captured (after R3, R150, R157). The model's choice: that a FLIP while one waits is refused with 0x40 (assumption 56). -/
def Obligations.CorrectionTablesFlip : Prop :=
  (∀ (n : Fin 12) (s : State), s.has .cam n = true →
    Completes (.darkCapt n) s (fun v => v.rd (R.ING_DARK_REF0 n) = s.rd (R.ING_DARK_MEAS0 n) ∧
      v.rd (R.ING_DARK_REF1 n) = s.rd (R.ING_DARK_MEAS1 n) ∧
      Frame { s.wakeBlock 0x06 with lastStatus := 0 } v [whole (R.ING_DARK_REF0 n), whole (R.ING_DARK_REF1 n)])) ∧
  (∀ (n : Fin 12) (s : State), s.has .cam n = false →
    Completes (.darkCapt n) s (fun v => v = s) ∧ Completes (.ingFlip n) s (fun v => v = s)) ∧
  (∀ (n : Fin 12) (s : State), s.has .cam n = true → s.bit (F.ING_STAT_FLIP_PEND n) = true →
    Completes (.ingFlip n) s (fun v => v = { s.wakeBlock 0x06 with lastStatus := 0x40 })) ∧
  (∀ (n : Fin 12) (s : State), s.has .cam n = true → s.bit (F.ING_STAT_FLIP_PEND n) = false →
    Completes (.ingFlip n) s (fun v =>
      v.bit (if s.mapOk n then F.ING_STAT_FLIP_PEND n else F.ING_STAT_MAP_BAD n) = true ∧
      Frame { s.wakeBlock 0x06 with lastStatus := if s.mapOk n then 0 else 0x40 } v
        [if s.mapOk n then F.ING_STAT_FLIP_PEND n else F.ING_STAT_MAP_BAD n])) ∧
  (∀ (n : Fin 12) (off : Nat) (s : State), s.bit (F.ING_STAT_FLIP_PEND n) = true →
    s.ing[n].act.Pairwise (fun x y => x.1 < y.1) → (∀ e ∈ s.ing[n].act, ingShadow n e.1 = true) →
    Completes (.ingFlipApply n) s (fun v => v.bit (F.ING_STAT_FLIP_PEND n) = false ∧
      v.fld (F.ING_CTL_TBL_SET n) = (s.fld (F.ING_CTL_TBL_SET n) + 1) % 2 ∧
      (ingShadow n off = true → v.rdN off = s.ingAct n off ∧ v.ingAct n off = s.rdN off) ∧
      (ingShadow n off = false → off ≠ R.ING_STAT n → off ≠ R.ING_CTL n → v.rd off = s.rd off) ∧
      v.ddr = s.ddr ∧ v.rest = { s with ing := s.ing.set n { s.ing[n] with act := v.ing[n].act } }.rest)) ∧
  (∀ (n : Fin 12) (s : State), s.bit (F.ING_STAT_FLIP_PEND n) = false → Completes (.ingFlipApply n) s (fun v => v = s))

/-- A leading camera's line returns from its slot STAG lines later, or takes FILL and is counted lost (after R161, R163, R164, R166). The model's choice: the order of raw samples in a slot, and that the line STAG later brings the delayed one back (assumptions 25, 177). -/
def Obligations.StaggeredLinesReturn : Prop :=
  (∀ (n : Fin 12) (s : State), s.sti.stag[n].lines.length ≤ s.fld (F.STI_CAM_GEOM_STAG n) →
    Completes (.staggerReadReturn n) s (fun v => v = s)) ∧
  (∀ (n : Fin 12) (q : Nat) (rest : List (Nat × Bool)) (s0 : State),
    let s : State := { s0 with sti := { s0.sti with stag := s0.sti.stag.set n { lines := (q, false) :: rest } } }
    s.fld (F.STI_CAM_GEOM_STAG n) ≤ rest.length →
    let a := s.slotAddr n q
    let h := s.memRead a 64
    s.poisoned a 64 = true ∨ crc32c (h.take 60) ≠ leVal (h.drop 60) ∨ leVal (h.take 4) ≠ q →
    let f := if s.poisoned a 64 then F.STI_STAT_STAG_CRC else F.STI_STAT_STAG_HDR
    Completes (.staggerReadReturn n) s (fun v => v.bit f = true ∧
      v.fld (F.STI_CAM_CNT_LOSS_CNT n) = min (s.fld (F.STI_CAM_CNT_LOSS_CNT n) + 1) (2 ^ (F.STI_CAM_CNT_LOSS_CNT n).w - 1) ∧
      v.sti.stag[n].lines = rest ∧ v.sti.nextK[n] = s.sti.nextK[n] + 1 ∧
      v.sti.store[n] = ((s.sti.nextK[n], none) :: s.sti.store[n]).take 288 ∧
      Frame { s with sti := v.sti } v [f, F.STI_CAM_CNT_LOSS_CNT n, F.STI_CAM_CNT_SAT n])) ∧
  (∀ (n : Fin 12) (q : Nat) (rest : List (Nat × Bool)) (s0 : State),
    let s : State := { s0 with sti := { s0.sti with stag := s0.sti.stag.set n { lines := (q, true) :: rest } } }
    s.fld (F.STI_CAM_GEOM_STAG n) ≤ rest.length →
    Completes (.staggerReadReturn n) s (fun v => v.sti.stag[n].lines = rest ∧ v.sti.nextK[n] = s.sti.nextK[n] + 1 ∧
      v.sti.store[n] = ((s.sti.nextK[n], none) :: s.sti.store[n]).take 288 ∧ Frame { s with sti := v.sti } v fwdCounts)) ∧
  (∀ (n : Fin 12) (t : Tag) (fl : LFlags) (raw : List Byte) (rest : List (Nat × Bool)) (s0 : State),
    let s : State := { s0 with sti := { s0.sti with stag := s0.sti.stag.set n { lines := (t.seq, false) :: rest } } }
    s.fld (F.STI_CAM_GEOM_STAG n) ≤ rest.length →
    t.seq < 2 ^ 32 → t.encPos < 2 ^ 32 → t.frac < 2 ^ 16 → t.ts < 2 ^ 32 → raw.length + 4 < 2 ^ 32 →
    let a := s.slotAddr n t.seq
    s.poisoned a 64 = false → s.poisoned (a + 64) (raw.length + 4) = false →
    s.memRead a 64 = slotHdr t fl 2 (raw.length + 4) →
    s.memRead (a + 64) (raw.length + 4) = raw ++ leBytes 4 (crc32c raw) →
    ∀ e, s.expTag n s.sti.nextK[n] = some e → e.encPos = t.encPos → e.ts = t.ts → s.sti.nextK[n] ≤ s.sti.refNext →
    let k := s.sti.nextK[n]
    let pix := channelsOf (s.chans n) (rawUnpack (s.depth n) (s.chans n) (s.actW n) raw)
    let l : CamLine := { tag := { t with cu := none }, pix := pix, fl := fl }
    Completes (.staggerReadReturn n) s (fun v => v.sti.stag[n].lines = rest ∧ v.sti.nextK[n] = k + 1 ∧
      v.sti.store[n] = ((k, some l) :: s.sti.store[n]).take 288 ∧ Frame { s with sti := v.sti } v []))

/-- A stitched line forms with the reference tag of its index once four more are in the store (after R3, R161, R162, R169, R174, R175, R178, R179). The model's choice: that the last lines form without line k + 4, that a seam without a window rejects, and that a FLIP while one waits is refused (assumptions 50, 54, 56). -/
def Obligations.StitchedLinesForm : Prop :=
  (∀ (s : State), s.mayForm = false → Completes .stitchLineForm s (fun v => v = s)) ∧
  (∀ (s : State), s.mayForm = true → s.sti.formed % 256 ≠ 0 →
    let k := s.sti.formed
    Completes .stitchLineForm s (fun v => v.sti.formed = k + 1 ∧ v.rdN R.STI_SLINE = k % 2 ^ 32 ∧
      (v.seg.descs.head?.map (fun x => (x.1, x.2.sline, x.2.tag))) = some (k, k % 2 ^ 32, (s.refTag k).getD {}) ∧
      v.sti.regDue = (s.sti.regDue || k % 256 == 255) ∧
      v.vg.lines.head?.map (fun x => (x.1, x.2.1)) = v.seg.descs.head? ∧ v.vg.lines.tail = s.vg.lines.take 639 ∧
      v.ddr = s.ddr ∧ v.out = s.out ∧ FrameRegs s v (fun off => inBlocks [.sti, .seg] off || off == R.PWR_CLASS 0x07 || off == R.PWR_CLASS 0x08))) ∧
  (∀ (s : State), s.mayForm = true → s.sti.formed % 256 = 0 → s.reseedDue = none → s.flt.resync.phase ≠ 6 →
    let k := s.sti.formed
    Completes .stitchLineForm s (After (fun u => u.raise [95]) (fun u => u.sti.formed = k + 1 ∧ u.rdN R.STI_SLINE = k % 2 ^ 32 ∧
      (u.seg.descs.head?.map (fun x => (x.1, x.2.sline, x.2.tag))) = some (k, k % 2 ^ 32, (s.refTag k).getD {}) ∧
      (∀ i : Fin 11, u.sti.seams[i].seed = none ∧ u.sti.seams[i].cfg = s.rd (R.STI_SEAM_CFG i)) ∧
      FrameMem s u s.spillByte ∧ FrameRegs s u (fun off => inBlocks [.sti, .seg, .hostq] off || off == R.PWR_CLASS 0x07 || off == R.PWR_CLASS 0x08 || s.sti.umap.any (fun e => e.1 == off))))) ∧
  (∀ (s : State), s.sti.regDue = false → Completes .seamRegistration s (fun v => v = s)) ∧
  (∀ (s : State), s.sti.regDue = true →
    Completes .seamRegistration s (fun v => v.sti.regDue = false ∧ FrameMem s v s.spillByte ∧
      (∀ i : Fin 11, i.val + 1 < s.group.length → v.sti.seams[i].a = v.sti.seams[i].c) ∧
      (∀ i : Fin 11, i.val + 1 < s.group.length → s.fld (F.STI_SEAM_WIN_CW i) = 0 → s.sti.seams[i].pend = true →
        v.sti.seams[i].pend = false ∧ v.sti.seams[i].e = s.sti.seams[i].e ∧ v.sti.seams[i].c = s.sti.seams[i].e ∧
        v.fld (F.STI_SEAM_SCORE_LAST i) = 2 ∧ v.bit F.STI_STAT_REG_REJECT = true) ∧
      FrameRegs s v (fun off => inBlocks [.sti, .hostq, .seg] off))) ∧
  (∀ (k : Fin 11) (val : Word) (s : State), s.has .seam k = true →
    Completes (.seamSeedWrite k val) s (fun v =>
      v.sti.seams[k].seed = some ((val.setWidth 16).toInt, ((val >>> 16).setWidth 16).toInt) ∧
      Frame { s.wakeBlock 0x07 with lastStatus := 0, sti := { s.sti with seams := s.sti.seams.set k { s.sti.seams[k] with seed := v.sti.seams[k].seed } } }
        v [])) ∧
  (∀ (s : State), s.bit F.STI_UMAP_CTL_FLIP_PEND = false →
    Completes .umapFlip s (fun v => v.bit F.STI_UMAP_CTL_FLIP_PEND = true ∧
      Frame { s.wakeBlock 0x07 with lastStatus := 0 } v [F.STI_UMAP_CTL_FLIP_PEND])) ∧
  (∀ (s : State), s.bit F.STI_UMAP_CTL_FLIP_PEND = true → Completes .umapFlip s (fun v => v = { s.wakeBlock 0x07 with lastStatus := 0x40 }))

/-- A vision unit takes lines in order while its inputs stand ready, and a region commits a block once (after R14, R188, R192, R198, R199, R420). The model's choice: how a linked line is read by column (assumption 227). -/
def Obligations.UnitsTakeTheirLines : Prop :=
  (∀ (vu : Fin 512) (ce : BitVec 8) (s : State), s.vuPlace vu = none → Completes (.vuLineProcess vu ce) s (fun v => v = s)) ∧
  (∀ (vu : Fin 512) (ce : BitVec 8) (s : State), ∀ x, s.vuS vu = some x →
    s.unitRuns vu = false ∨ (s.region (vu / 64)).loading.isSome = true ∨ x.next / 256 ≠ (s.region (vu / 64)).block ∨
      (s.ringLost (vu / 64) x.next = false ∧ (s.newest < x.next ∨ s.hasCredit vu x.next = false)) →
    Completes (.vuLineProcess vu ce) s (fun v => v = s)) ∧
  (∀ (vu : Fin 512) (ce : BitVec 8) (s : State), ∀ u, s.vuPlace vu = some u → ∀ x, s.vuS vu = some x →
    s.unitRuns vu = true → (s.region (vu / 64)).loading = none → x.next / 256 = (s.region (vu / 64)).block →
    s.ringLost (vu / 64) x.next = false → s.lineReady u x.next = true → s.hasCredit vu x.next = true →
    Completes (.vuLineProcess vu ce) s (fun v => (v.vuS vu).map (·.next) = some (x.next + 1) ∧
      v.fld (F.VG_VU_CYC_LAST (vu / 64) (vu % 64)) = min u.lineCost 65535 ∧
      v.fld (F.VG_ECC_CNT_CE_CNT (vu / 64)) = min (s.fld (F.VG_ECC_CNT_CE_CNT (vu / 64)) + ce.toNat) 65535 ∧
      v.ddr = s.ddr ∧ v.out = s.out ∧ v.hq = s.hq ∧ FrameRegs s v (fun off => inBlocks [.vg, .seg] off || off == R.PWR_CLASS (0x18 + vu / 64)))) ∧
  (∀ (vu : Fin 512) (ce : BitVec 8) (s : State), ∀ u, s.vuPlace vu = some u → ∀ x, s.vuS vu = some x →
    s.unitRuns vu = true → (s.region (vu / 64)).loading = none → x.next / 256 = (s.region (vu / 64)).block →
    s.ringLost (vu / 64) x.next = true →
    let n := vu.val / 64
    let b := (s.region n).block
    Completes (.vuLineProcess vu ce) s (fun v => (v.region n).block = b + 1 ∧ v.bit F.FLT_STAT_BLK_LOST = true ∧
      v.fld F.FLT_CNT_BLK_LOST_CNT = min (s.fld F.FLT_CNT_BLK_LOST_CNT + 1) (2 ^ F.FLT_CNT_BLK_LOST_CNT.w - 1) ∧
      v.seg.commits = s.seg.commits ++ [{ block := b, region := n, parts := [], tabs := [], lost := true }] ∧
      (v.vuS vu).map (·.next) = some (256 * (b + 1)) ∧
      FrameMem s v s.spillByte ∧ FrameRegs s v (fun off => inBlocks [.vg, .seg, .flt, .top, .hostq, .time] off))) ∧
  (∀ (n : Fin 8) (s : State), s.runUnits n ≠ [] → (s.region n).loading = none →
    (∀ u ∈ s.runUnits n, 256 * ((s.region n).block + 1) ≤ u.next) →
    let r := s.region n
    Completes (.blockCommit n) s (fun v => v.fld (F.VG_BLOCK_BLOCK n) = r.block % 2 ^ 24 ∧
      v.fld (F.VG_BLOCK_ATTEMPT n) = s.fld (F.VG_STAT_ATTEMPT n) ∧ v.fld (F.VG_STAT_ATTEMPT n) = 0 ∧
      (v.region n).block = r.block + 1 ∧ (v.region n).partials = [] ∧ (v.region n).tables = [] ∧
      v.seg.commits = s.seg.commits ++ [{ block := r.block, region := n, parts := r.partials, tabs := r.tables, lost := false }] ∧
      FrameMem s v s.spillByte ∧ FrameRegs s v (fun off => inBlocks [.vg, .seg, .prt, .top, .hostq, .time] off || off == R.PWR_CLASS 0x08))) ∧
  (∀ (n : Fin 8) (s : State), s.runUnits n = [] ∨ (s.region n).loading.isSome = true ∨
    (∃ u ∈ s.runUnits n, u.next < 256 * ((s.region n).block + 1)) → Completes (.blockCommit n) s (fun v => v = s)) ∧
  (∀ (n : Fin 8) (s : State), s.bit (F.VG_STAT_REPLAYING n) = true → (∀ u ∈ s.runUnits n, s.newest < u.next) →
    Completes (.replayCaughtUp n) s (fun v => v.bit (F.VG_STAT_REPLAYING n) = false ∧ Frame s v [F.VG_STAT_REPLAYING n])) ∧
  (∀ (n : Fin 8) (s : State), s.bit (F.VG_STAT_REPLAYING n) = false ∨ (∃ u ∈ s.runUnits n, u.next ≤ s.newest) →
    Completes (.replayCaughtUp n) s (fun v => v = s))

/-- A unit's fault is counted and the block replays; the third one, or a failed self-test, retires the unit (after R184, R198, R421, R422, R423). The model's choice: that a self-test fails while the region loads, and that it replays after the last load (assumption 228). -/
def Obligations.UnitFaultsReplayOrRetire : Prop :=
  (∀ (pu : Fin 576) (kind : Fin 3) (word : BitVec 14) (s : State),
    s.has .region (pu / 72) = false ∨ s.fld (puState pu) = 3 ∨
      (kind ≠ 2 ∧ (s.logicalOf pu = none ∨ (s.region (pu / 72)).loading.isSome = true)) →
    Completes (.vuFault pu kind word) s (fun v => v = s)) ∧
  (∀ (pu : Fin 576) (kind : Fin 3) (word : BitVec 14) (s : State), ∀ lv, s.logicalOf pu = some lv →
    let n := pu.val / 72
    s.has .region n = true → s.fld (puState pu) ≠ 3 → (s.region n).loading = none → (s.vuS lv).isSome = true → s.unitRuns lv = true →
    kind ≠ 2 → s.fld (F.VG_PU_STAT_FAULTS n (pu % 72)) < 2 → (s.puS pu).ueAt = none → s.fld (F.VG_STAT_ATTEMPT n) < 3 →
    s.ringHolds n = true →
    Completes (.vuFault pu kind word) s (fun v =>
      v.fld (F.VG_PU_STAT_CAUSE n (pu % 72)) = kind + 1 ∧
      v.fld (F.VG_PU_STAT_FAULTS n (pu % 72)) = s.fld (F.VG_PU_STAT_FAULTS n (pu % 72)) + 1 ∧
      v.bit (if kind = 0 then F.VG_STAT_ECC_UE n else F.VG_STAT_RESIDUE n) = true ∧
      v.fld (F.VG_STAT_ATTEMPT n) = s.fld (F.VG_STAT_ATTEMPT n) + 1 ∧ v.bit (F.VG_STAT_REPLAYING n) = true ∧
      (v.region n).partials = [] ∧ (v.vuS lv).map (·.next) = some (256 * (s.region n).block) ∧
      FrameMem s v s.spillByte ∧ FrameRegs s v (fun off => inBlocks [.vg, .seg, .hostq, .time] off))) ∧
  (∀ (pu : Fin 576) (kind : Fin 3) (word : BitVec 14) (s : State), ∀ lv, s.logicalOf pu = some lv →
    let n := pu.val / 72
    s.has .region n = true → s.fld (puState pu) ≠ 3 → s.loads n = [] → (s.vuS lv).isSome = true → s.unitRuns lv = true →
    kind = 2 ∨ s.fld (F.VG_PU_STAT_FAULTS n (pu % 72)) = 2 →
    Completes (.vuFault pu kind word) s (fun v => v.fld (puState pu) = 3 ∧ v.bit F.FLT_STAT_RETIRED = true ∧
      v.fld (F.VG_PU_STAT_CAUSE n (pu % 72)) = (if kind = 2 then 4 else kind.val + 1) ∧
      v.fld (F.VG_PU_STAT_FAULTS n (pu % 72)) = min 3 (s.fld (F.VG_PU_STAT_FAULTS n (pu % 72)) + 1) ∧
      v.fld F.FLT_CNT_RETIRE_CNT = min (s.fld F.FLT_CNT_RETIRE_CNT + 1) (2 ^ F.FLT_CNT_RETIRE_CNT.w - 1) ∧
      (∀ l, s.takeover pu lv = some l → v.region n = { s.region n with loading := some l } ∧
        v.bit (F.VG_STAT_DEGRADED n) = s.bit (F.VG_STAT_DEGRADED n)) ∧
      (s.takeover pu lv = none → v.bit (F.VG_STAT_DEGRADED n) = true ∧ v.bit F.FLT_STAT_DEGRADED = true ∧ lv ∈ (v.region n).gone) ∧
      FrameMem s v s.spillByte)) ∧
  (∀ (pu : Fin 576) (word : BitVec 14) (s : State), s.logicalOf pu = none →
    let n := pu.val / 72
    s.has .region n = true → s.fld (puState pu) ≠ 3 → (∀ l ∈ s.loads n, l.phys ≠ pu) →
    Completes (.vuFault pu 2 word) s
      (After (fun u => u.fault 0x01 4 pu (w5 := (s.region n).block) (w6 := 1) (w7 := s.fld (F.VG_STAT_ATTEMPT n))) (fun u =>
        u.fld (puState pu) = 3 ∧ u.fld (F.VG_PU_STAT_CAUSE n (pu % 72)) = 4 ∧
        u.fld (F.VG_PU_STAT_FAULTS n (pu % 72)) = min 3 (s.fld (F.VG_PU_STAT_FAULTS n (pu % 72)) + 1) ∧
        u.bit F.FLT_STAT_RETIRED = true ∧
        u.fld F.FLT_CNT_RETIRE_CNT = min (s.fld F.FLT_CNT_RETIRE_CNT + 1) (2 ^ F.FLT_CNT_RETIRE_CNT.w - 1) ∧
        Frame { s with vg := { s.vg with pus := u.vg.pus } } u
          [puState pu, F.VG_PU_STAT_CAUSE n (pu % 72), F.VG_PU_STAT_FAULTS n (pu % 72), F.FLT_STAT_RETIRED, F.FLT_CNT_RETIRE_CNT,
           F.FLT_CNT_SAT]))) ∧
  (∀ (vu : Fin 512) (s : State), s.has .region (vu / 64) = false ∨ (s.region (s.physOfVu vu / 72)).loading.isSome = true →
    Completes (.vuWatchdog vu) s (fun v => v = s)) ∧
  (∀ (vu : Fin 512) (s : State),
    let pu := s.physOfVu vu
    let n := pu / 72
    s.logicalOf pu = some vu.val → s.has .region (vu / 64) = true → s.fld (puState pu) ≠ 3 → (s.region n).loading = none →
    (s.vuS vu).isSome = true → s.unitRuns vu = true → s.fld (F.VG_PU_STAT_FAULTS n (pu % 72)) < 2 →
    s.fld (F.VG_STAT_ATTEMPT n) < 3 → s.ringHolds n = true →
    Completes (.vuWatchdog vu) s (fun v => v.bit (F.VG_STAT_WDOG n) = true ∧ v.fld (F.VG_PU_STAT_CAUSE n (pu % 72)) = 3 ∧
      v.fld (F.VG_LBL_CNT_WDOG_CNT n) = min (s.fld (F.VG_LBL_CNT_WDOG_CNT n) + 1) (2 ^ (F.VG_LBL_CNT_WDOG_CNT n).w - 1) ∧
      v.fld (F.VG_PU_STAT_FAULTS n (pu % 72)) = s.fld (F.VG_PU_STAT_FAULTS n (pu % 72)) + 1 ∧
      v.fld (F.VG_STAT_ATTEMPT n) = s.fld (F.VG_STAT_ATTEMPT n) + 1 ∧ v.bit (F.VG_STAT_REPLAYING n) = true ∧
      FrameMem s v s.spillByte ∧ FrameRegs s v (fun off => inBlocks [.vg, .seg, .hostq, .time] off))) ∧
  (∀ (n : Fin 8) (s : State), (s.region n).loading = none → Completes (.spareLoadDone n) s (fun v => v = s)) ∧
  (∀ (n : Fin 8) (j : Fin 64) (p : Fin 72) (s0 : State),
    let s := s0.modRegion n (fun r => { r with loading := some { logical := 64 * n + j, phys := 72 * n + p, slack := false }, loadNext := [] })
    s.fld (F.VG_STAT_ATTEMPT n) < 3 → s.ringHolds n = true →
    Completes (.spareLoadDone n) s (fun v => v.physOfVu (64 * n + j) = 72 * n + p ∧ v.fld (F.VG_PU_STAT_STATE n p) = 1 ∧
      (v.region n).loading = none ∧ v.fld (F.VG_STAT_ATTEMPT n) = s.fld (F.VG_STAT_ATTEMPT n) + 1 ∧
      v.bit (F.VG_STAT_REPLAYING n) = true ∧ FrameMem s v s.spillByte ∧ FrameRegs s v (fun off => inBlocks [.vg, .seg, .hostq, .time] off))) ∧
  (∀ (n : Fin 8) (j : Fin 64) (p : Fin 72) (l : LoadVu) (ls : List LoadVu) (s0 : State),
    let s := s0.modRegion n (fun r => { r with loading := some { logical := 64 * n + j, phys := 72 * n + p, slack := false }, loadNext := l :: ls })
    Completes (.spareLoadDone n) s (fun v => v.physOfVu (64 * n + j) = 72 * n + p ∧ v.fld (F.VG_PU_STAT_STATE n p) = 1 ∧
      (v.region n).loading = some l ∧ (v.region n).loadNext = ls ∧ v.fld (F.VG_STAT_ATTEMPT n) = s.fld (F.VG_STAT_ATTEMPT n) ∧
      FrameMem s v s.spillByte ∧ FrameRegs s v (fun off => inBlocks [.vg, .hostq, .time] off))) ∧
  (∀ (pu : Fin 576) (s : State), s.fld (F.VG_PU_STAT_FAULTS (pu / 72) (pu % 72)) ≠ 0 → (s.puS pu).window = 0 →
    Completes (.retireWindowClose pu) s (fun v => v.fld (F.VG_PU_STAT_FAULTS (pu / 72) (pu % 72)) = 0 ∧ (v.puS pu).ueAt = none ∧
      Frame { s with vg := { s.vg with pus := v.vg.pus } } v [F.VG_PU_STAT_FAULTS (pu / 72) (pu % 72)])) ∧
  (∀ (pu : Fin 576) (s : State), s.fld (F.VG_PU_STAT_FAULTS (pu / 72) (pu % 72)) = 0 ∨ (s.puS pu).window ≠ 0 →
    Completes (.retireWindowClose pu) s (fun v => v = s))

/-- A block resolves once every region has committed it; records leave the spill in order (after R220, R224, R225, R226, R238, R239, R240, R242, R295, R318). -/
def Obligations.BlocksResolveAndRecordsDrain : Prop :=
  (∀ (s : State), s.bit F.SEG_CTL_EN = false ∨ s.blockIn s.seg.nextBlk = false ∨ (s.seg.commits.any (fun c => c.block == s.seg.nextBlk)) = false →
    Completes .segResolve s (fun v => v = s)) ∧
  (∀ (s : State), s.bit F.SEG_CTL_EN = true → s.blockIn s.seg.nextBlk = true → s.seg.commits.any (fun c => c.block == s.seg.nextBlk) = true →
    (List.range 64).all (fun c => (s.evtHits [90] c).isEmpty) = true →
    let b := s.seg.nextBlk
    let size := 2 ^ 24 * s.fld F.SEG_CROP_BASE_HI_SIZE
    let base := 2 ^ 20 * s.fld F.SEG_CROP_BASE_LO_ADDR + 2 ^ 32 * s.fld F.SEG_CROP_BASE_HI_ADDR
    Completes .segResolve s (fun v => v.seg.nextBlk = b + 1 ∧ (∀ c ∈ v.seg.commits, b < c.block) ∧
      (∀ o ∈ v.seg.objs, o.isOpen = true) ∧ v.fld F.SEG_OBJ_LIVE_LIVE = v.seg.objs.length % 65536 ∧
      FrameMem s v (fun a => (decide (base ≤ a) && decide (a < base + size)) || s.spillByte a) ∧
      FrameRegs s v (fun off => inBlocks [.seg, .hostq, .time, .cmp, .dmc] off || off == R.PWR_CLASS 0x10 || (s.seg.commits.flatMap (·.tabs)).any (fun t => match t with
        | .mreg _ _ ts => ts.any (fun x => R.SEG_TILE x.tile == off)
        | _ => false)))) ∧
  (∀ (s : State), s.seg.spill = [] → s.seg.dropped = [] →
    Completes .spillDrain s (fun v => v.bit F.SEG_STAT_SPILL_ACT = false ∧ Frame s v [F.SEG_STAT_SPILL_ACT])) ∧
  (∀ (r : Fin 6) (a : Nat) (s0 : State), let s : State := { s0 with seg := { s0.seg with spill := [(r.val, a)], dropped := [] } }
    let c := s.fld (F.SEG_ROUTE_QID r)
    let e := HostEntry.pkt { opc := 0x8001, param0 := 1, data := s.memRead a 64 }
    s.hasRoom c e.ringBytes = true → s.inDdr a 64 = true → s.poisoned a 64 = false →
    Completes .spillDrain s (fun v => v.hq.posted = s.hq.posted ++ [(c, e)] ∧ v.seg.spill = [] ∧
      v.fld F.SEG_REC_CNT_CNT = (s.fld F.SEG_REC_CNT_CNT + 1) % 2 ^ 32 ∧ v.bit F.SEG_STAT_SPILL_ACT = false ∧
      Frame { s with hq := v.hq, out := v.out, seg := { s.seg with spill := [] } } v
        ([F.SEG_REC_CNT_CNT, F.SEG_STAT_SPILL_ACT, F.HQ_TAIL_OFS (32 + c), F.HQ_STAT_FULL (32 + c), whole (R.MSIX_PBA 0), whole (R.MSIX_PBA 1)]
          ++ fwdCounts))) ∧
  (∀ (r : Fin 6) (a : Nat) (rest : List (Nat × Nat)) (s0 : State),
    let s : State := { s0 with seg := { s0.seg with spill := (r.val, a) :: rest, dropped := [] } }
    s.hasRoom (s.fld (F.SEG_ROUTE_QID r)) 112 = false ∨ s.inDdr a 64 = false →
    Completes .spillDrain s (fun v => v.bit F.SEG_STAT_SPILL_ACT = true ∧ Frame s v [F.SEG_STAT_SPILL_ACT])) ∧
  (∀ (port : Fin 2) (s : State), s.hq.gather[port] = [] → Completes (.ethGatherTimer port) s (fun v => v = s)) ∧
  (∀ (port : Fin 2) (s : State), s.hq.gather[port] ≠ [] → s.time.launch[port].length < 64 →
    let e : LaunchE := { launch := (s.hq.gatherT[port] + 1000 * s.fld F.SEG_ETH_CTL_LAUNCH) % 2 ^ 64, frame := s.recordFrame port s.hq.gather[port], owner := none, tag := 0, stamp := false, oneStep := false, t2 := 0 }
    Completes (.ethGatherTimer port) s (fun v => v.time.launch[port] = launchInsert e s.time.launch[port] ∧
      v.fld (F.TIME_EP_LSTAT_DEPTH port) = s.time.launch[port].length + 1 ∧
      v.hq.gather[port] = [] ∧ v.hq.frameSeq[port] = (s.hq.frameSeq[port] + 1) % 2 ^ 32 ∧
      Frame { s with time := v.time, hq := v.hq } v [F.TIME_EP_LSTAT_DEPTH port]))

/-- A master tile is read for a block or counted bad, and a drained bank becomes EMPTY (after R30, R63, R214, R216, R217, R352). The model's choice: that one fetch serves every region that lacks the tile, and what a bank must no longer have in the device to be drained (assumptions 76, 87). -/
def Obligations.MasterTilesAreFetchedAndBanksDrain : Prop :=
  (∀ (b : Bool) (idx : Fin 4) (tile : BitVec 24) (block : Word) (s : State),
    (s.job b).bind (fun j => j.masters.find? (fun m => m.idx == idx.val)) = none →
    Completes (.masterFetch b idx tile block) s (fun v => v = s)) ∧
  (∀ (b : Bool) (idx : Fin 4) (tile : BitVec 24) (block : Word) (s : State),
    ∀ m, (s.job b).bind (fun j => j.masters.find? (fun m => m.idx == idx.val)) = some m →
    ceilDiv m.width 256 * ceilDiv m.height 256 ≤ tile.toNat →
    Completes (.masterFetch b idx tile block) s (fun v => v = s)) ∧
  (∀ (b : Bool) (idx : Fin 4) (tile : BitVec 24) (block : Word) (s : State),
    (∀ rg : Fin 8, (s.mtile rg b idx tile.toNat block.toNat).isSome = true) → Completes (.masterFetch b idx tile block) s (fun v => v = s)) ∧
  (∀ (b : Bool) (idx : Fin 4) (tile : BitVec 24) (block : Word) (s : State),
    ∀ m, (s.job b).bind (fun j => j.masters.find? (fun m => m.idx == idx.val)) = some m →
    tile.toNat < ceilDiv m.width 256 * ceilDiv m.height 256 → (∃ rg : Fin 8, (s.mtile rg b idx tile.toNat block.toNat).isNone = true) →
    let r := (s.wakeBlock 0x10).tileRead m.indexBase m.base tile.toNat
    let r := if m.classBase = 0 then r else r.tileRead m.classBase m.classBase tile.toNat
    if (s.tileData m tile.toNat).isSome then
      Completes (.masterFetch b idx tile block) s (fun v =>
        (∃ e, v.seg.master = e :: s.seg.master ∧ e.bank = b ∧ e.idx = idx ∧ e.tile = tile.toNat ∧ e.block = block.toNat ∧
          e.data = s.tileData m tile.toNat ∧
          ∀ rg : Fin 8, bitN e.rgs rg = (s.mtile rg b idx tile.toNat block.toNat).isNone) ∧
        v.fld F.CMP_MX_CNT_TILES = (s.fld F.CMP_MX_CNT_TILES + 1) % 65536 ∧
        Frame { r with seg := { r.seg with master := v.seg.master } } v [F.CMP_MX_CNT_TILES])
    else
      Completes (.masterFetch b idx tile block) s (After (fun u => u.fault 0x06 0x2 block.toNat (w5 := tile.toNat)) (fun u =>
        (∃ e, u.seg.master = e :: r.seg.master ∧ e.bank = b ∧ e.idx = idx ∧ e.tile = tile.toNat ∧ e.block = block.toNat ∧ e.data = none) ∧
        u.bit F.SEG_STAT_MASTER_CRC = true ∧ u.fld F.CMP_MX_CNT_BAD = min (s.fld F.CMP_MX_CNT_BAD + 1) 32767 ∧
        Frame { r with seg := { r.seg with master := u.seg.master } } u [F.SEG_STAT_MASTER_CRC, F.CMP_MX_CNT_BAD, F.CMP_MX_CNT_SAT]))) ∧
  (∀ (b : Bool) (s : State), s.bankState b ≠ 5 ∨ s.bankInFlight b = true → Completes (.bankDrainDone b) s (fun v => v = s)) ∧
  (∀ (b : Bool) (s : State), s.bankState b = 5 → s.bankInFlight b = false →
    Completes (.bankDrainDone b) s (fun v => v.bankState b = 0 ∧ v.job b = none ∧ v.bit ⟨R.TOP_READY, if b then 9 else 8, 1⟩ = false ∧
      v.fld (if b then F.CFG_JOBB_JOB_ID else F.CFG_JOBA_JOB_ID) = 0 ∧ FrameMem s v s.spillByte ∧
      FrameRegs s v (fun off => off == R.CFG_BANK || off == R.CFG_JOBA || off == R.CFG_JOBB || off == R.TOP_READY || inBlocks [.hostq, .seg, .time] off)))

/-- A print line cycle ends, the head's pulses end, lines move into the latch and heads go in and out of HOT (after R3, R247, R248, R249, R258, R261, R270). The model's choice: which bank the points to come are of, and the accepted level of HEAT_OK at reset and of a port that is off (assumptions 20, 39). -/
def Obligations.PrintLineCycles : Prop :=
  (∀ (n : Fin 8) (s : State), s.prt[n].busy = false → Completes (.lineCycleEnd n) s (fun v => v = s)) ∧
  (∀ (n : Fin 8) (s : State), s.prt[n].busy = true → s.prt[n].hotLeft = none ∨ s.prt[n].cycHot = false →
    Completes (.lineCycleEnd n) s (After (fun u => u.raise [68 + n])
      (fun u => u = { s with prt := s.prt.set n { s.prt[n] with busy := false, cycHot := false } }))) ∧
  (∀ (n : Fin 8) (k : Nat) (s0 : State),
    let s : State := { s0 with prt := s0.prt.set n { s0.prt[n] with busy := true, cycHot := true, hotLeft := some (k + 2) } }
    Completes (.lineCycleEnd n) s (After (fun u => u.raise [68 + n])
      (fun u => u = { s with prt := s.prt.set n { s.prt[n] with busy := false, cycHot := false, hotLeft := some (k + 1) } }))) ∧
  (∀ (n : Fin 8) (s0 : State),
    let s : State := { s0 with prt := s0.prt.set n { s0.prt[n] with busy := true, cycHot := true, hotLeft := some 1 } }
    Completes (.lineCycleEnd n) s (After (fun u => u.raise [68 + n]) (fun u => u.bit (F.HP_STAT_HOT n) = false ∧
      u.prt = s.prt.set n { s.prt[n] with busy := false, cycHot := false, hotLeft := none } ∧
      u.bit ⟨R.TOP_READY_IO, 24 + n, 1⟩ = (s.bit (F.HP_CTL_EN n) && s.anyRunning && (s.prtEntry s.runBank n).isSome) ∧ FrameMem s u s.spillByte ∧
      FrameRegs s u (fun off => off == R.HP_STAT n || off == R.TOP_READY_IO || inBlocks [.hostq, .seg, .time] off)))) ∧
  (∀ (n : Fin 8) (s : State), s.prt[n].fire = true →
    Completes (.firePulseEnd n) s (fun v => v = ({ s with prt := s.prt.set n { s.prt[n] with fire := false } }).emit (.headFire n false))) ∧
  (∀ (n : Fin 8) (s : State), s.prt[n].fire = false → Completes (.firePulseEnd n) s (fun v => v = s)) ∧
  (∀ (n : Fin 8) (s : State), Completes (.waveWindowEnd n) s (fun v => v = { s with prt := s.prt.set n { s.prt[n] with window := false } })) ∧
  (∀ (n : Fin 8) (s : State), Completes (.shiftDone n) s (fun v => v = match s.prt[n].shifting with
    | some l => { s with prt := s.prt.set n { s.prt[n] with shifted := some l, shifting := none } }
    | none => s)) ∧
  (∀ (n : Fin 8) (l : PLine) (s0 : State), let s : State := { s0 with prt := s0.prt.set n { s0.prt[n] with shifted := some l } }
    s.prt[n].window = false → s.prt[n].latching = false → s.latchFree n = true →
    let ws := if s.bit (F.HP_CTL_WS_SRC n) then s.fld (F.HP_WS_SET n) else l.ws
    Completes (.latchPulse n) s (fun v => v.fld (F.HP_WS_CUR n) = ws % 16 ∧
      Frame (({ s with prt := s.prt.set n { s.prt[n] with latching := true, latched := some l, shifted := none } }).emit (.headLatch n ws)) v
        [F.HP_WS_CUR n])) ∧
  (∀ (n : Fin 8) (s : State), s.prt[n].shifted = none ∨ s.prt[n].window = true ∨ s.prt[n].latching = true ∨ s.latchFree n = false →
    Completes (.latchPulse n) s (fun v => v = s)) ∧
  (∀ (n : Fin 8) (level : Bool) (s : State), s.has .head n = false ∨ level = s.prt[n].heatOk →
    Completes (.heatOkAccept n level) s (fun v => v = s)) ∧
  (∀ (n : Fin 8) (s : State), s.has .head n = true → s.prt[n].heatOk = true → s.bit (F.HP_CTL_EN n) = true →
    Completes (.heatOkAccept n false) s (After (fun u => u.raise [76 + n]) (fun u => u.bit (F.HP_STAT_HOT n) = true ∧
      u.bit (F.HP_STAT_HOT_SEEN n) = true ∧ u.bit ⟨R.TOP_READY_IO, 24 + n, 1⟩ = false ∧
      u.prt = s.prt.set n { s.prt[n] with heatOk := false, hotLeft := none, cycHot := false } ∧ FrameMem s u s.spillByte ∧
      FrameRegs s u (fun off => off == R.HP_STAT n || off == R.TOP_READY_IO || inBlocks [.hostq, .seg, .time] off)))) ∧
  (∀ (n : Fin 8) (s : State), s.has .head n = true → s.prt[n].heatOk = false → s.bit (F.HP_STAT_HOT n) = true →
    s.fld (F.HP_TIM1_HOT_HYST n) ≠ 0 →
    Completes (.heatOkAccept n true) s (fun v =>
      v = { s with prt := s.prt.set n { s.prt[n] with heatOk := true, hotLeft := some (s.fld (F.HP_TIM1_HOT_HYST n)) } }))

/-- The next line is fetched from DDR-4 in point order, and the next buffered line is shifted out (after R247, R249, R254, R255, R256, R262, R266). The model's choice: which bank the points to come are of, and that a line whose point no longer comes is dropped before the next is shifted or fetched (assumptions 20, 178). -/
def Obligations.PrintLinesAreFetchedAndShifted : Prop :=
  (∀ (n : Fin 8) (s : State), s.bit (F.HP_CTL_EN n) = false → Completes (.printFetchDone n) s (fun v => v = s)) ∧
  (∀ (n : Fin 8) (s : State), s.bit (F.HP_CTL_EN n) = true → (s.prune n).nextFetch n = none →
    Completes (.printFetchDone n) s (fun v => v.prt[n].prefetch =
        s.prt[n].prefetch.filter (fun l => ((s.upcoming n).map (fun x => (x.1, x.2.1))).contains (l.pt, l.id)) ∧
      Frame { s with prt := s.prt.set n { s.prt[n] with prefetch := v.prt[n].prefetch } } v [])) ∧
  (∀ (n : Fin 8) (s : State), s.bit (F.HP_CTL_EN n) = true → s.prt[n].shifting.isSome = true ∨ s.prt[n].shifted.isSome = true →
    ∀ x, (s.prune n).nextFetch n = some x →
    let noz := s.fld (F.HP_CTL_NOZ n)
    let len := (noz * s.bpn n + 7) / 8
    let a := lineAddr x.2.1 x.2.2
    let l : PLine := { id := x.2.1, pt := x.1, vals := nozzleVals (s.memReadZ a len) noz (s.bpn n), ws := x.2.2.wsel % 16, hot := false, err := s.poisoned a len }
    Completes (.printFetchDone n) s (fun v => v.prt[n].prefetch =
        s.prt[n].prefetch.filter (fun l => ((s.upcoming n).map (fun x => (x.1, x.2.1))).contains (l.pt, l.id)) ++ [l] ∧
      Frame { s.ddrRead a len with prt := s.prt.set n { s.prt[n] with prefetch := v.prt[n].prefetch } } v [])) ∧
  (∀ (n : Fin 8) (s : State), s.prt[n].shifting.isSome = true ∨ s.prt[n].shifted.isSome = true →
    Completes (.latchPulseEnd n) s (fun v => v.prt[n].latching = false ∧
      Frame { s with prt := s.prt.set n { s.prt[n] with latching := false, prefetch := v.prt[n].prefetch } } v [])) ∧
  (∀ (n : Fin 8) (s : State), s.prt[n].shifting = none → s.prt[n].shifted = none → ∀ l, s.prt[n].prefetch.head? = some l →
    let up := (s.upcoming n).map (fun x => (x.1, x.2.1))
    up.contains (l.pt, l.id) = true →
    let noz := s.fld (F.HP_CTL_NOZ n)
    let g := (List.range noz).map (fun i => if s.maskedAt n l.id i then 0 else l.vals.getD i 0)
    let r := if s.bit (F.HP_CTL_TK_EN n) then takeover noz (s.bpn n) (s.maskedAt n l.id) g s.prt[n].tk else (g, s.prt[n].tk)
    Completes (.latchPulseEnd n) s (fun v =>
      v = ({ s with prt := s.prt.set n { s.prt[n] with latching := false, tk := r.2, shifting := some { l with vals := r.1, hot := s.bit (F.HP_STAT_HOT n) }, prefetch := s.prt[n].prefetch.tail.filter (fun l => up.contains (l.pt, l.id)) } }).emit
          (.headShift n (serialBits noz (s.bpn n) (s.bit (F.HP_CTL_ORDER n)) (s.bit (F.HP_CTL_DIR n)) r.1))))

/-- A nozzle joins or leaves a port's takeover table, which USED counts (after R3, R264, R265, R268, R269). The model's choice: that a nozzle beyond the head is refused (assumption 161). -/
def Obligations.TakeoverTablesAreKept : Prop :=
  (∀ (n : Fin 8) (z : BitVec 12) (s : State), s.has .head n = false →
    Completes (.takeoverAdd n z) s (fun v => v = s) ∧ Completes (.takeoverRemove n z) s (fun v => v = s)) ∧
  (∀ (n : Fin 8) (z : BitVec 12) (s : State), s.has .head n = true → s.fld (F.HP_CTL_NOZ n) ≤ z.toNat →
    Completes (.takeoverAdd n z) s (fun v => v = { s with lastStatus := 0x40 })) ∧
  (∀ (n : Fin 8) (z : BitVec 12) (s : State), s.has .head n = true → z.toNat < s.fld (F.HP_CTL_NOZ n) →
    s.prt[n].tk.any (fun t => t.nozzle == z.toNat) = true →
    Completes (.takeoverAdd n z) s (fun v => v = { s with lastStatus := 0 })) ∧
  (∀ (n : Fin 8) (z : BitVec 12) (t : TkS) (s0 : State),
    let s : State := { s0 with prt := s0.prt.set n { s0.prt[n] with tk := List.replicate 256 t } }
    s.has .head n = true → z.toNat < s.fld (F.HP_CTL_NOZ n) → t.nozzle ≠ z.toNat →
    Completes (.takeoverAdd n z) s (fun v => v.bit (F.HP_STAT_TK_FULL n) = true ∧
      Frame { s with lastStatus := 0 } v [F.HP_STAT_TK_FULL n])) ∧
  (∀ (n : Fin 8) (z : BitVec 12) (s : State), s.has .head n = true → z.toNat < s.fld (F.HP_CTL_NOZ n) →
    s.prt[n].tk.any (fun t => t.nozzle == z.toNat) = false → s.prt[n].tk.length < 256 →
    Completes (.takeoverAdd n z) s (fun v =>
      v.prt[n].tk = tkInsert { nozzle := z.toNat, src := 2, e := 0, p := 0, objId := none, last := [] } s.prt[n].tk ∧
      v.fld (F.HP_TK_CNT_USED n) = s.prt[n].tk.length + 1 ∧
      Frame { s with lastStatus := 0, prt := s.prt.set n { s.prt[n] with tk := v.prt[n].tk } } v [F.HP_TK_CNT_USED n])) ∧
  (∀ (n : Fin 8) (z : BitVec 12) (s : State), s.has .head n = true → s.prt[n].tk.any (fun t => t.nozzle == z.toNat && t.src == 1) = false →
    Completes (.takeoverRemove n z) s (fun v => v.prt[n].tk = s.prt[n].tk.filter (fun t => t.nozzle != z.toNat) ∧
      v.fld (F.HP_TK_CNT_USED n) = v.prt[n].tk.length % 512 ∧
      Frame { s with lastStatus := 0, prt := s.prt.set n { s.prt[n] with tk := v.prt[n].tk } } v [F.HP_TK_CNT_USED n])) ∧
  (∀ (n : Fin 8) (z : BitVec 12) (t : TkS) (rest : List TkS) (s0 : State),
    let s : State := { s0 with prt := s0.prt.set n { s0.prt[n] with tk := { t with nozzle := z.toNat, src := 1 } :: rest } }
    s.has .head n = true →
    let t' := { t with nozzle := z.toNat, src := 1 }
    let ws := fun (u : State) => if t.last.isEmpty then (u.removedRec n t').1 else
      ((t.last.set 0 0x300003).set 1 (u.jobId u.runBank)).set 4 (t.last.getD 4 0 % 2 ^ 24 + 2 ^ 24 * 5)
    Completes (.takeoverRemove n z) s (After (fun u => (({ u with freeCtr := u.freeCtr + if t.last.isEmpty then 7 else 0 }).record 1 (ws u)).status 0)
      (fun u => u.prt[n].tk = rest.filter (fun t => t.nozzle != z.toNat) ∧ u.ddr = s.ddr ∧
        FrameRegs s u (fun off => off == R.HP_TK_CNT n || inBlocks [.hostq, .seg, .time] off))))

/-- An area-camera port takes a frame into a free buffer line by line and closes it with its flags (after R3, R272, R273, R274, R275). -/
def Obligations.AreaPortsReceiveFrames : Prop :=
  (∀ (p : Fin 2) (s : State), s.has .pport p = false ∨ s.bit (F.PP_CTL_EN p) = false ∨ s.isp.vs[p] ≠ none →
    Completes (.frameStart p) s (fun v => v = s)) ∧
  (∀ (p : Fin 2) (s : State), s.has .pport p = true → s.bit (F.PP_CTL_EN p) = true → s.isp.vs[p] = none →
    s.bit (F.PP_STAT_HELD0 p) = true → s.bit (F.PP_STAT_HELD1 p) = true →
    let u := s.raise [86 + p]
    Completes (.frameStart p) s (fun v => v.fld (F.PP_FRAMES_CNT p) = (u.fld (F.PP_FRAMES_CNT p) + 1) % 2 ^ (F.PP_FRAMES_CNT p).w ∧
      v.bit (F.PP_STAT_FRAME_DROP p) = true ∧ v.fld (F.PP_CNT_DROP_CNT p) = min (u.fld (F.PP_CNT_DROP_CNT p) + 1) (2 ^ (F.PP_CNT_DROP_CNT p).w - 1) ∧
      Frame { u with isp := { u.isp with vs := u.isp.vs.set p (some false) } } v
        [F.PP_FRAMES_CNT p, F.PP_STAT_FRAME_DROP p, F.PP_CNT_DROP_CNT p, F.PP_CNT_SAT p])) ∧
  (∀ (p : Fin 2) (s : State), s.has .pport p = true → s.bit (F.PP_CTL_EN p) = true → s.isp.vs[p] = none →
    s.bit (F.PP_STAT_HELD0 p) = false ∨ s.bit (F.PP_STAT_HELD1 p) = false →
    let u := s.raise [86 + p]
    let b := b2n (s.bit (F.PP_STAT_HELD0 p))
    let fr : PpFrame := { port := p, buf := b, seq := s.rdN (R.PP_FRAMES p), ts := s.tsNs, pos := s.pos (s.fld (F.PP_CTL_TAG_CHAN p)), ctx := s.fld (F.PP_CTL_CTX p), w := s.fld (F.PP_GEOM_WIDTH p), h := s.fld (F.PP_GEOM_HEIGHT p), fmt := s.fld (F.PP_CTL_FMT p), lines := 0, short := false, long := false, lerr := false, ovf := false, ended := false }
    Completes (.frameStart p) s (fun v => v.fld (F.PP_FRAMES_CNT p) = (u.fld (F.PP_FRAMES_CNT p) + 1) % 2 ^ (F.PP_FRAMES_CNT p).w ∧
      v.bit (heldFld p b) = true ∧
      Frame { u with isp := { u.isp with vs := u.isp.vs.set p (some true), frames := u.isp.frames ++ [fr] } } v [F.PP_FRAMES_CNT p, heldFld p b])) ∧
  (∀ (p : Fin 2) (pix : List (BitVec 16)) (full : Bool) (s : State), s.capt p = none →
    Completes (.ppLineEnd p pix full) s (fun v => v = s) ∧
    Completes (.frameEnd p) s (fun v => v = { s with isp := { s.isp with vs := s.isp.vs.set p none } })) ∧
  (∀ (p : Fin 2) (pix : List (BitVec 16)) (full : Bool) (s : State), ∀ fr, s.capt p = some fr → fr.h ≤ fr.lines →
    Completes (.ppLineEnd p pix full) s (fun v => v.bit (F.PP_STAT_LONG_FRAME p) = true ∧
      Frame { s with isp := { s.isp with frames := modCapt p (fun f => { f with long := true }) s.isp.frames } } v [F.PP_STAT_LONG_FRAME p])) ∧
  (∀ (p : Fin 2) (pix : List (BitVec 16)) (full : Bool) (s : State), ∀ fr, s.capt p = some fr → fr.lines < fr.h →
    let bad := pix.length ≠ fr.w ∨ full = true
    let px := (List.range fr.w).map (fun x => if full then 0 else (pix.getD x 0).toNat % 2 ^ ppDepth fr.fmt)
    let n := fr.w * ppBytes fr.fmt
    let a := s.ppBuf p fr.buf + fr.lines * n
    (lineRange a n).all (fun l => !s.poison.contains l) = true →
    Completes (.ppLineEnd p pix full) s (fun v =>
      v.bit (F.PP_STAT_LINE_ERR p) = (s.bit (F.PP_STAT_LINE_ERR p) || decide bad) ∧ v.bit (F.PP_STAT_OVF p) = (s.bit (F.PP_STAT_OVF p) || full) ∧
      (s.inDdr a n = true → v.memRead a n = px.flatMap (leBytes (ppBytes fr.fmt))) ∧
      FrameStore { s with isp := { s.isp with frames := modCapt p (fun f => { f with lines := f.lines + 1, lerr := f.lerr || decide bad, ovf := f.ovf || full }) s.isp.frames } }
        v a (if s.inDdr a n then n else 0) ([F.PP_STAT_LINE_ERR p, F.PP_STAT_OVF p] ++ fwdCounts))) ∧
  (∀ (p : Fin 2) (s : State), ∀ fr, s.capt p = some fr →
    let short := decide (fr.lines < fr.h)
    Completes (.frameEnd p) s (fun v => v.bit (F.PP_STAT_SHORT_FRAME p) = (s.bit (F.PP_STAT_SHORT_FRAME p) || short) ∧
      v.fld (F.PP_CNT_ERR_CNT p) = min (s.fld (F.PP_CNT_ERR_CNT p) + b2n (short || fr.long || fr.lerr)) (2 ^ (F.PP_CNT_ERR_CNT p).w - 1) ∧
      Frame { s with isp := { s.isp with vs := s.isp.vs.set p none, frames := modCapt p (fun f => { f with short := short, ended := true }) s.isp.frames } } v
        [F.PP_STAT_SHORT_FRAME p, F.PP_CNT_ERR_CNT p, F.PP_CNT_SAT p]))

/-- The image pipeline takes frames in notice order, writes its slot only, and frees the buffer (after R276, R277, R279, R280, R281, R282). The model's choice: that a window below 16 by 16 is skipped as clipped, and that a running frame keeps its slot, size and place (assumptions 89, 210). -/
def Obligations.ImagePipelineTakesFrames : Prop :=
  (∀ (c : Fin 4) (second : Bool) (val : Word) (s : State),
    let a := (if second then s.rd (R.ISP_CTX_CROP0 c) else val).toNat
    let b := (if second then val else s.rd (R.ISP_CTX_CROP1 c)).toNat
    s.cropOk c (a % 8192) (a / 65536 % 8192) (b % 8192) (b / 65536 % 8192) (2 ^ s.fld (F.ISP_CTX_CTL_DS c)) = true →
    Completes (.ispCropWrite c second val) s (fun v => v.rd (if second then R.ISP_CTX_CROP1 c else R.ISP_CTX_CROP0 c) = val &&& 0x1FFF1FFF ∧
      v.isp.again[c] = true ∧
      Frame { s.wakeBlock 0x15 with lastStatus := 0, isp := { s.isp with again := s.isp.again.set c true } } v
        [whole (if second then R.ISP_CTX_CROP1 c else R.ISP_CTX_CROP0 c), whole (R.ISP_CTX_SLOT c)])) ∧
  (∀ (c : Fin 4) (second : Bool) (val : Word) (s : State),
    let a := (if second then s.rd (R.ISP_CTX_CROP0 c) else val).toNat
    let b := (if second then val else s.rd (R.ISP_CTX_CROP1 c)).toNat
    s.cropOk c (a % 8192) (a / 65536 % 8192) (b % 8192) (b / 65536 % 8192) (2 ^ s.fld (F.ISP_CTX_CTL_DS c)) = false →
    Completes (.ispCropWrite c second val) s (fun v => v = { s.wakeBlock 0x15 with lastStatus := 0x40 })) ∧
  (∀ (s : State), s.bit F.ISP_CTL_EN = false ∨ s.bit F.ISP_STAT_BUSY = true ∨ s.isp.frames = [] →
    Completes .ispFrameTakeup s (fun v => v = s)) ∧
  (∀ (s : State), ∀ fr, s.isp.frames.head? = some fr → s.bit F.ISP_CTL_EN = true → s.bit F.ISP_STAT_BUSY = false → ∀ c : Fin 4, c = fr.ctx →
    Completes .ispFrameTakeup s (fun v => v.bit F.ISP_STAT_BUSY = true ∧ v.fld F.ISP_STAT_PORT = fr.port % 2 ∧ v.isp.again[c] = false ∧
      (s.isp.again[c] = true → v.fld (F.ISP_CTX_WR_SLOT c) = 0 ∧ v.fld (F.ISP_CTX_RD_SLOT c) = 0) ∧
      v.bit F.ISP_STAT_OUT_SKIP = (s.bit F.ISP_STAT_OUT_SKIP || v.isp.skip) ∧
      v.isp.skip = (ringCount (v.fld (F.ISP_CTX_WR_SLOT c)) (v.fld (F.ISP_CTX_RD_SLOT c)) (s.nslot c) == s.nslot c) ∧
      Frame { s with isp := { s.isp with work := v.isp.work, skip := v.isp.skip, slot := v.rdN (R.ISP_CTX_SLOT c), again := s.isp.again.set c false } } v
        [F.ISP_STAT_BUSY, F.ISP_STAT_PORT, F.ISP_STAT_OUT_SKIP, F.ISP_CTX_WR_SLOT c, F.ISP_CTX_RD_SLOT c, whole (R.ISP_CTX_SLOT c)])) ∧
  (∀ (s : State), s.isp.frames = [] ∨ s.bit F.ISP_STAT_BUSY = false ∨ (s.isp.frames.head?.any (fun fr => fr.ended)) = false →
    Completes .ispFrameDone s (fun v => v = s)) ∧
  (∀ (s : State), ∀ fr, s.isp.frames.head? = some fr → s.bit F.ISP_STAT_BUSY = true → fr.ended = true →
    let c := fr.ctx
    let ds := 2 ^ s.ispF (F.ISP_CTX_CTL_DS c)
    let x0 := s.ispF (F.ISP_CTX_CROP0_X0 c)
    let y0 := s.ispF (F.ISP_CTX_CROP0_Y0 c)
    let w0 := s.ispF (F.ISP_CTX_CROP1_W c)
    let h0 := s.ispF (F.ISP_CTX_CROP1_H c)
    let fits := x0 + w0 ≤ fr.w ∧ y0 + h0 ≤ fr.h
    let w := if fits then w0 else min w0 (fr.w - x0) / ds * ds
    let h := if fits then h0 else min h0 (fr.h - y0) / ds * ds
    let clip := w != w0 || h != h0 || w < 16 || h < 16
    let skip := s.isp.skip || w < 16 || h < 16
    let ns := s.ispF (F.ISP_CTX_CTL_NSLOT c) + 1
    let wr := s.fld (F.ISP_CTX_WR_SLOT c)
    let base := 64 * s.ispW (R.ISP_CTX_OUTB c) + wr % ns * (64 * s.isp.slot)
    let size := (slotParts (if ppBayer fr.fmt then 3 else 1) w h ds (s.ispF (F.ISP_CTX_CTL_OUT_EN c))).sum
    let hdr := frameHdr fr (frameFlags fr skip clip) w h ds (if skip then 0xFFFFFFFF else wr % ns)
    let q := s.fld F.ISP_CTL_QID
    let e : HostEntry := .pkt { opc := 0x8060, data := hdr }
    let r := if skip then s else s.ddrRead (s.ppBuf fr.port fr.buf) (fr.w * fr.lines * ppBytes fr.fmt)
    (lineRange base size).all (fun l => !s.poison.contains l) = true →
    Completes .ispFrameDone s (fun u => u.hq.posted = r.hq.posted ++ (if r.hasRoom q e.ringBytes then [(q, e)] else []) ∧
      u.bit F.ISP_STAT_BUSY = false ∧ u.bit (heldFld fr.port fr.buf) = false ∧ u.isp.frames = s.isp.frames.tail ∧
      u.bit F.ISP_STAT_CROP_CLIP = (s.bit F.ISP_STAT_CROP_CLIP || clip) ∧
      (skip = false → s.inDdr base 64 = true → u.memRead base 64 = hdr ++ zeros 32) ∧
      (skip = false → ∀ p ∈ s.ispOutputs fr w h, s.inDdr (base + p.1) p.2.length = true → u.memRead (base + p.1) p.2.length = p.2) ∧
      (skip = false → u.fld (F.ISP_CTX_WR_SLOT c) = (wr + 1) % (2 * ns) % 2 ^ (F.ISP_CTX_WR_SLOT c).w) ∧
      FrameStore { r with freeCtr := u.freeCtr, isp := { r.isp with frames := u.isp.frames, work := [], skip := false }, hq := u.hq, out := u.out }
        u base (if skip then 0 else size) ([F.HQ_TAIL_OFS (32 + q), F.HQ_STAT_FULL (32 + q), F.HQ_STAT_DROP (32 + q), F.HQ_STAT_DROP_CNT (32 + q), F.HQ_STAT_SAT (32 + q), whole (R.MSIX_PBA 0), whole (R.MSIX_PBA 1), F.ISP_STAT_BUSY, heldFld fr.port fr.buf, F.ISP_STAT_CROP_CLIP] ++ if skip then [] else F.ISP_CTX_WR_SLOT c :: fwdCounts)))

/-- The network counter advances by 4 ns plus its rate and adjustment on each edge, and its wraps raise their events (after R97, R284, R286, R290, R301). The model's choice: that the commands of an edge advance the counter to it (assumption 40). -/
def Obligations.NetworkTimeRunsAndWraps : Prop :=
  (∀ (s : State), s.bit F.TIME_STAT_PLL_LOCK = false →
    Completes .tsWrap s (fun v => v = s) ∧ Completes .tsPps s (fun v => v = s) ∧ Completes .timeAdjEnd s (fun v => v = s)) ∧
  (∀ (s : State), s.bit F.TIME_STAT_PLL_LOCK = true →
    let e := s.seedEdge
    let k := e.edgesTo (2 ^ 32)
    let u := e.tsEdges k
    k < e.edgesTo (10 ^ 9) →
    u.ns / 2 ^ 32 = (e.ns / 2 ^ 32 + 1) % 2 ^ 32 ∧ u.tsNs ≤ 5 ∧
      Completes .tsWrap s (fun v => v = (u.record 2 (u.sysRec 0x10 0 u.tsNs 16 (u.ns / 2 ^ 32 % 65536) 0 0)).raise [84])) ∧
  (∀ (s : State), s.bit F.TIME_STAT_PLL_LOCK = true →
    let e := s.seedEdge
    let k := e.edgesTo (10 ^ 9)
    let u := e.tsEdges k
    k < e.edgesTo (2 ^ 32) →
    u.ns / 10 ^ 9 = e.ns / 10 ^ 9 + 1 ∧ u.ns % 10 ^ 9 ≤ 5 ∧
      Completes .tsPps s (fun v => if s.bit F.RTC_CTL_SYNC = false then v = u.raise [85] else
        let l := (u.ns / 10 ^ 9 * 32768) % 2 ^ 55
        v = (((({ u with time := { u.time with rtc := l, rtcAcc := 0 } }).setFld F.RTC_STAT_VALID 1).setFld F.RTC_CTL_SYNC 0).setFld F.RTC_CTL_SET 0).raise
          [85])) ∧
  (∀ (s : State), s.bit F.TIME_STAT_PLL_LOCK = true →
    let e := s.seedEdge
    let k := e.edgesTo (10 ^ 9)
    let u := e.tsEdges k
    k = e.edgesTo (2 ^ 32) →
    u.ns / 10 ^ 9 = (if (e.ns / 10 ^ 9 + 1) * 10 ^ 9 < 2 ^ 64 then e.ns / 10 ^ 9 + 1 else 0) ∧ u.ns / 2 ^ 32 = (e.ns / 2 ^ 32 + 1) % 2 ^ 32 ∧
      Completes .tsPps s (fun v => v = u.wrapRec.ppsLoad.raise [84, 85]) ∧ Completes .tsWrap s (fun v => v = u.wrapRec.ppsLoad.raise [84, 85])) ∧
  (∀ (s : State), s.bit F.TIME_STAT_PLL_LOCK = true →
    let e := s.seedEdge
    let k := s.rdN R.TIME_ADJ_TICKS
    k < e.edgesTo (10 ^ 9) → k < e.edgesTo (2 ^ 32) →
    Completes .timeAdjEnd s (fun v =>
      v.time.ts = (e.time.ts + k * (4 * 2 ^ 32 + s.sfld F.TIME_RATE_VALUE + s.sfld F.TIME_ADJ_RATE_VALUE).toNat) % 2 ^ 96 ∧
      v.rdN R.TIME_ADJ_TICKS = 0 ∧ v.bit F.TIME_STAT_ADJ_BUSY = false ∧
      Frame { e with time := { e.time with ts := v.time.ts, evt5 := s.time.evt5 + 16 * k, rtcAcc := v.time.rtcAcc } } v
        [whole R.TIME_ADJ_TICKS, F.TIME_STAT_ADJ_BUSY])) ∧
  (∀ (s : State), s.bit F.TIME_STAT_PLL_LOCK = true →
    let e := s.seedEdge
    let k := s.rdN R.TIME_ADJ_TICKS
    k = e.edgesTo (2 ^ 32) → k < e.edgesTo (10 ^ 9) →
    Completes .timeAdjEnd s (fun v => v = (e.tsEdges k).wrapRec.raise [84])) ∧
  (∀ (s : State),
    let u := s.tsEdges 1
    let adj := if s.rdN R.TIME_ADJ_TICKS = 0 then 0 else s.sfld F.TIME_ADJ_RATE_VALUE
    (u.time.ts : Int) = (s.time.ts + (4 * 2 ^ 32 + s.sfld F.TIME_RATE_VALUE + adj)) % 2 ^ 96 ∧
      u.rdN R.TIME_ADJ_TICKS = s.rdN R.TIME_ADJ_TICKS - 1 ∧ u.bit F.TIME_STAT_ADJ_BUSY = decide (1 < s.rdN R.TIME_ADJ_TICKS))

/-- Rates are checked, steps are allowed once while the pipeline is stopped, and reading the low word latches the rest (after R284, R288, R291). The model's choice: that the end of a frame under way is forgotten at a step (assumption 209). -/
def Obligations.TimeIsSetAndRead : Prop :=
  (∀ (val : Word) (s : State), val.toInt.natAbs ≤ 17179869 →
    Completes (.timeRateWrite val) s (fun v => v.rd R.TIME_RATE = val ∧ Frame { s with lastStatus := 0 } v [whole R.TIME_RATE])) ∧
  (∀ (val : Word) (s : State), 17179869 < val.toInt.natAbs →
    Completes (.timeRateWrite val) s (fun v => v = { s with lastStatus := 0x40 })) ∧
  (∀ (val : Word) (s : State), Completes (.timeAdjTicksWrite val) s (fun v => v.rd R.TIME_ADJ_TICKS = val ∧
      v.bit F.TIME_STAT_ADJ_BUSY = (val != 0) ∧ Frame { s with lastStatus := 0 } v [whole R.TIME_ADJ_TICKS, F.TIME_STAT_ADJ_BUSY])) ∧
  (∀ (s : State), Completes .timeNowRead s (fun v => v.rdN R.TIME_NOW_LO = s.ns % 2 ^ 32 ∧ v.rdN R.TIME_NOW_HI = s.ns / 2 ^ 32 ∧
      v.fld F.TIME_NOW_FRAC_VALUE = s.time.ts / 2 ^ 16 % 2 ^ F.TIME_NOW_FRAC_VALUE.w ∧
      Frame s v [whole R.TIME_NOW_LO, whole R.TIME_NOW_HI, F.TIME_NOW_FRAC_VALUE])) ∧
  (∀ (hi : Word) (s : State), s.bit F.TIME_STAT_SEED_DONE = true → s.bit F.CFG_STAT_PIPE_STOPPED = true → s.bit F.TIME_STAT_STEP_LOCKED = false →
    Completes (.timeStep hi) s (fun v => (v.ns : Int) = (s.ns + toSigned 64 (hi.toNat * 2 ^ 32 + s.rdN R.TIME_STEP_LO)) % 2 ^ 64 ∧
      v.time.ts % 2 ^ 32 = s.time.ts % 2 ^ 32 ∧ v.bit F.TIME_STAT_STEP_LOCKED = true ∧ v.rd R.TIME_STEP_HI = hi ∧
      Frame { s with lastStatus := 0, time := { s.time with ts := v.time.ts, txEnd := Vector.replicate 2 0 } } v [F.TIME_STAT_STEP_LOCKED, whole R.TIME_STEP_HI])) ∧
  (∀ (s : State), s.bit F.TIME_STAT_SEED_DONE = true → s.bit F.CFG_STAT_PIPE_STOPPED = true → s.bit F.TIME_STAT_STEP_LOCKED = false →
    Completes .timeStepFromUp s (fun v =>
      (v.ns : Int) = (s.ns + toSigned 64 (s.rdN R.TIME_UP_OFS_HI * 2 ^ 32 + s.rdN R.TIME_UP_OFS_LO)) % 2 ^ 64 ∧
      v.time.ts % 2 ^ 32 = s.time.ts % 2 ^ 32 ∧ v.bit F.TIME_STAT_STEP_LOCKED = true ∧
      Frame { s with lastStatus := 0, time := { s.time with ts := v.time.ts, txEnd := Vector.replicate 2 0 } } v [F.TIME_STAT_STEP_LOCKED])) ∧
  (∀ (hi : Word) (s : State), s.bit F.TIME_STAT_SEED_DONE = false ∨ s.bit F.CFG_STAT_PIPE_STOPPED = false →
    Completes (.timeStep hi) s (fun v => v = { s with lastStatus := 0x40 }) ∧ Completes .timeStepFromUp s (fun v => v = { s with lastStatus := 0x40 })) ∧
  (∀ (hi : Word) (s : State), s.bit F.TIME_STAT_SEED_DONE = true → s.bit F.CFG_STAT_PIPE_STOPPED = true → s.bit F.TIME_STAT_STEP_LOCKED = true →
    Completes (.timeStep hi) s (fun v => v = { s with lastStatus := 0x41 }) ∧ Completes .timeStepFromUp s (fun v => v = { s with lastStatus := 0x41 }))

/-- The calendar counts, is set, trimmed and lost, and seeds the network counter once (after R290, R300, R301, R302, R303). The model's choice: what a loss of VBAT resets and when TOP_READY.RTC rises and the seed is taken (assumptions 45, 157). -/
def Obligations.CalendarCountsAndSeeds : Prop :=
  (∀ (s : State), s.time.rtcRose = true → s.time.seedWait = none → s.bit F.TIME_STAT_SEED_DONE = false → s.bit F.RTC_CTL_SET = false →
    s.time.rtc + 1 < 2 ^ 55 → s.time.rtcTrim + 1 < 2 ^ 20 →
    let r := s.time.rtc + 1
    let ns := (r / 32768 * 1000000000 + r % 32768 * 1000000000 / 32768) % 2 ^ 64
    let val := s.bit F.RTC_STAT_VALID
    let u := { s with time := { s.time with rtc := r, rtcTrim := s.time.rtcTrim + 1 } }
    Completes .tsSeed s (fun v => v.bit F.TOP_READY_RTC = true ∧
      (s.bit F.TIME_STAT_PLL_LOCK = true → v.bit F.TIME_STAT_SEED_DONE = true ∧ v.bit F.TIME_STAT_SEEDED = (s.bit F.TIME_STAT_SEEDED || val) ∧
        v.time.ts = (if val then ns * 2 ^ 32 else s.time.ts) ∧
        Frame { u with time := { u.time with ts := v.time.ts, txEnd := Vector.replicate 2 0 } } v
          [F.TIME_STAT_SEEDED, F.TIME_STAT_SEED_DONE, F.TOP_READY_RTC]) ∧
      (s.bit F.TIME_STAT_PLL_LOCK = false →
        Frame { u with time := { u.time with seedWait := some (if val then some ns else none) } } v [F.TOP_READY_RTC]))) ∧
  (∀ (s : State), s.time.rtcRose = false ∨ s.time.seedWait.isSome = true ∨ s.bit F.TIME_STAT_SEED_DONE = true → Completes .tsSeed s (fun v => v = s)) ∧
  (∀ (s : State), Completes .rtcSet s (fun v => v.bit F.RTC_CTL_SET = true ∧ Frame { s with lastStatus := 0 } v [F.RTC_CTL_SET]) ∧
    Completes .rtcSync s (fun v => v.bit F.RTC_CTL_SYNC = true ∧ Frame { s with lastStatus := 0 } v [F.RTC_CTL_SYNC])) ∧
  (∀ (s : State), s.bit F.RTC_CTL_SET = true → s.bit F.RTC_CTL_SYNC = false → s.bit F.TIME_STAT_SEED_DONE = true →
    Completes .rtcSetApply s (fun v =>
      v.time.rtc = (s.rdN R.RTC_SET_LO + 2 ^ 32 * s.fld F.RTC_SET_HI_SEC) * 32768 + s.fld F.RTC_SET_HI_SUB ∧
      v.bit F.RTC_STAT_VALID = true ∧ v.bit F.RTC_CTL_SET = false ∧ v.bit F.TOP_READY_RTC = true ∧
      Frame { s with time := { s.time with rtc := v.time.rtc, rtcAcc := 0, rtcTrim := (s.time.rtcTrim + 1) % 2 ^ 20, rtcRose := true } } v
        [F.RTC_STAT_VALID, F.RTC_CTL_SET, F.TOP_READY_RTC])) ∧
  (∀ (s : State), s.bit F.RTC_CTL_SET = false ∨ s.bit F.RTC_CTL_SYNC = true → Completes .rtcSetApply s (fun v => v = s)) ∧
  (∀ (s : State), s.bit F.RTC_CTL_SET = false ∨ s.bit F.RTC_CTL_SYNC = true → s.bit F.TIME_STAT_SEED_DONE = true →
    Completes .rtcTrim s (fun v => (v.time.rtc : Int) = (s.time.rtc + 1 + s.sfld F.RTC_CTL_TRIM) % 2 ^ 55 ∧ v.bit F.TOP_READY_RTC = true ∧
      Frame { s with time := { s.time with rtc := v.time.rtc, rtcTrim := 0, rtcRose := true } } v [F.TOP_READY_RTC])) ∧
  (∀ (s : State), s.bit F.TOP_READY_RTC = true →
    Completes .oscStop s (After (fun u => u.fault 0x07 0x1 3) (fun u => u.bit F.RTC_STAT_OSC_STOP = true ∧ u.bit F.RTC_STAT_VALID = false ∧
      u.bit F.TOP_READY_RTC = false ∧ Frame s u [F.RTC_STAT_OSC_STOP, F.RTC_STAT_VALID, F.TOP_READY_RTC]))) ∧
  (∀ (s : State), s.bit F.TOP_READY_RTC = false →
    Completes .oscStop s (fun u => u.bit F.RTC_STAT_OSC_STOP = true ∧ u.bit F.RTC_STAT_VALID = false ∧ Frame s u [F.RTC_STAT_OSC_STOP, F.RTC_STAT_VALID])) ∧
  (∀ (s : State), Completes .vbatLoss s (fun v => v.bit F.RTC_STAT_VBAT_LOW = true ∧ v.bit F.RTC_STAT_VALID = false ∧ v.rd R.RTC_CTL = 0 ∧
      v.rd R.RTC_SET_LO = 0 ∧ v.rd R.RTC_SET_HI = 0 ∧
      v.time.rtc = 0 ∧ Frame { s with time := { s.time with rtc := 0, rtcAcc := 0, rtcTrim := 0 } } v
        [whole R.RTC_SEC_LO, whole R.RTC_SEC_HI, whole R.RTC_CTL, whole R.RTC_SET_LO, whole R.RTC_SET_HI, whole R.RTC_STAT])) ∧
  (∀ (s : State), Completes .rtcSecRead s (fun v => v.rdN R.RTC_SEC_LO = s.time.rtc / 32768 % 2 ^ 32 ∧
      v.fld F.RTC_SEC_HI_SUB = s.time.rtc % 32768 ∧ v.fld F.RTC_SEC_HI_SEC = s.time.rtc / 2 ^ 47 % 2 ^ F.RTC_SEC_HI_SEC.w ∧
      Frame s v [whole R.RTC_SEC_LO, F.RTC_SEC_HI_SUB, F.RTC_SEC_HI_SEC]))

/-- The device asks upstream for time each period, answers requests, and takes a matching answer (after R297, R298, R299). The model's choice: how an odd offset or delay is halved and when a frame is stamped (assumption 42). -/
def Obligations.UpstreamTimeExchange : Prop :=
  (∀ (s : State), s.bit F.TIME_CTL_UP_EN = true → s.npUp (s.fld F.TIME_CTL_UP_PORT) = true →
    let q := (s.time.reqSeq + 1) % 256
    let age := min 5 (s.time.upAge + 1)
    Completes .timeReqSend s (fun v => v.bit F.TIME_STAT_UP_VALID = (s.bit F.TIME_STAT_UP_VALID && decide (age ≤ 4)) ∧
      Frame { s with time := { s.time with reqSeq := q, reqWait := true, reqSpoil := false, reqOut := s.time.reqOut + 1, upAge := age }, np := v.np, out := v.out } v [F.TIME_STAT_UP_VALID] ∧ (∀ p : Fin 4, p.val = s.fld F.TIME_CTL_UP_PORT →
        v.out = s.out ++ [sentFrame s p 5 (4 * b2n (s.npSt p == npStUp)) 0x3FFFF s.devId 0 (if s.npSt p = npStUp then s.np[p].rxSeq else 0) (leBytes 1 1 ++ leBytes 1 q ++ zeros 6 ++ leBytes 8 s.ns ++ zeros 16)] ∧
        v.np = s.np.set p { s.np[p] with next := v.np[p].next, count := s.np[p].count + 1 }))) ∧
  (∀ (s : State), s.bit F.TIME_CTL_UP_EN = false ∨ s.npUp (s.fld F.TIME_CTL_UP_PORT) = false →
    let age := min 5 (s.time.upAge + 1)
    Completes .timeReqSend s (fun v => v.bit F.TIME_STAT_UP_VALID = (s.bit F.TIME_STAT_UP_VALID && decide (age ≤ 4)) ∧
      Frame { s with time := { s.time with upAge := age } } v [F.TIME_STAT_UP_VALID])) ∧
  (∀ (p : Fin 4) (seq : BitVec 8) (t1 t2 t3 : BitVec 64) (ack : Option (BitVec 12)) (s : State), s.npUp p = true →
    let t := s.npAck p ack
    Completes (.timeFrame p (leBytes 1 1 ++ leBytes 1 seq.toNat ++ zeros 6 ++ leBytes 8 t1.toNat ++ leBytes 8 t2.toNat ++ leBytes 8 t3.toNat) ack) s (fun v =>
      v.out = t.out ++ [sentFrame t p 5 (4 * b2n (s.npSt p == npStUp)) 0x3FFFF s.devId 0 (if s.npSt p = npStUp then s.np[p].rxSeq else 0) (leBytes 1 2 ++ leBytes 1 seq.toNat ++ zeros 6 ++ leBytes 8 t1.toNat ++ leBytes 8 s.ns ++ leBytes 8 s.ns)] ∧
      v.np = t.np.set p { t.np[p] with next := v.np[p].next, count := t.np[p].count + 1 } ∧ v = { t with np := v.np, out := v.out })) ∧
  (∀ (p : Fin 4) (seq : BitVec 8) (t1 t2 t3 : BitVec 64) (ack : Option (BitVec 12)) (s0 : State),
    let s : State := { s0 with time := { s0.time with reqSeq := seq.toNat, reqWait := true, reqSpoil := false } }
    s.npUp p = true → s.fld F.TIME_CTL_UP_PORT = p → s.bit F.TIME_CTL_UP_EN = true →
    let t4 := BitVec.ofNat 64 s.ns
    let ofs := (((t2.toInt - t1.toInt) - (t4.toInt - t3.toInt)).fdiv 2) % 2 ^ 64
    let dly := (((t4.toInt - t1.toInt) - (t3.toInt - t2.toInt)).fdiv 2) % 2 ^ 32
    Completes (.timeFrame p (leBytes 1 2 ++ leBytes 1 seq.toNat ++ zeros 6 ++ leBytes 8 t1.toNat ++ leBytes 8 t2.toNat ++ leBytes 8 t3.toNat) ack) s (fun v =>
      ((v.rdN R.TIME_UP_OFS_LO + 2 ^ 32 * v.rdN R.TIME_UP_OFS_HI : Nat) : Int) = ofs ∧ (v.rdN R.TIME_UP_DLY : Int) = dly ∧
      v.bit F.TIME_STAT_UP_VALID = true ∧ v.fld F.TIME_UP_CNT_OK_CNT = (s.fld F.TIME_UP_CNT_OK_CNT + 1) % 2 ^ F.TIME_UP_CNT_OK_CNT.w ∧
      Frame { s.npAck p ack with time := { s.time with reqWait := false, reqOut := s.time.reqOut - 1, upAge := 0 } } v
        [whole R.TIME_UP_OFS_LO, whole R.TIME_UP_OFS_HI, whole R.TIME_UP_DLY, F.TIME_STAT_UP_VALID, F.TIME_UP_CNT_OK_CNT])) ∧
  (∀ (p : Fin 4) (seq : BitVec 8) (body : Vector Byte 30) (s0 : State),
    let s : State := { s0 with time := { s0.time with reqSeq := seq.toNat, reqWait := true, reqSpoil := true } }
    s.npUp p = true → s.fld F.TIME_CTL_UP_PORT = p → s.bit F.TIME_CTL_UP_EN = true →
    Completes (.timeFrame p (leBytes 1 2 ++ leBytes 1 seq.toNat ++ body.toList) none) s (fun v => v.bit F.TIME_STAT_UP_LOST = true ∧
      v.fld F.TIME_UP_CNT_LOST_CNT = min (s.fld F.TIME_UP_CNT_LOST_CNT + 1) (2 ^ F.TIME_UP_CNT_LOST_CNT.w - 1) ∧
      Frame { s with time := { s.time with reqWait := false, reqOut := s.time.reqOut - 1 } } v
        [F.TIME_STAT_UP_LOST, F.TIME_UP_CNT_LOST_CNT, F.TIME_UP_CNT_SAT])) ∧
  (∀ (p : Fin 4) (pl : List Byte) (ack : Option (BitVec 12)) (s : State), s.npUp p = false → Completes (.timeFrame p pl ack) s (fun v => v = s)) ∧
  (∀ (p : Fin 4) (kind seq : Byte) (body : Vector Byte 30) (ack : Option (BitVec 12)) (s : State), s.npUp p = true → kind.toNat ≠ 1 →
    kind.toNat ≠ 2 ∨ s.time.reqWait = false ∨ seq.toNat ≠ s.time.reqSeq ∨ s.fld F.TIME_CTL_UP_PORT ≠ p ∨ s.bit F.TIME_CTL_UP_EN = false →
    Completes (.timeFrame p (kind :: seq :: body.toList) ack) s (fun v => v = s.npAck p ack)) ∧
  (∀ (p : Fin 4) (pl : List Byte) (ack : Option (BitVec 12)) (s : State), s.npUp p = true → pl.length ≠ 32 →
    Completes (.timeFrame p pl ack) s (fun v => v = s.npAck p ack)) ∧
  (∀ (s : State), s.time.reqOut ≠ 0 →
    Completes .timeExchangeTimeout s (fun v => v.bit F.TIME_STAT_UP_LOST = true ∧
      v.fld F.TIME_UP_CNT_LOST_CNT = min (s.fld F.TIME_UP_CNT_LOST_CNT + 1) (2 ^ F.TIME_UP_CNT_LOST_CNT.w - 1) ∧
      Frame { s with time := { s.time with reqOut := s.time.reqOut - 1, reqWait := s.time.reqWait && s.time.reqOut != 1 } } v
        [F.TIME_STAT_UP_LOST, F.TIME_UP_CNT_LOST_CNT, F.TIME_UP_CNT_SAT])) ∧
  (∀ (s : State), s.time.reqOut = 0 → Completes .timeExchangeTimeout s (fun v => v = s))

/-- A received frame is checked, filtered and stamped; a frame to send is queued for its launch time and leaves then (after R292, R293, R295, R296, R368, R369, R377). The model's choice: which octet is which byte of an address, the delay within a launch's block and the time a frame takes, what RX counts while it is off, and the frame check sequence (assumptions 12, 44, 46, 47). -/
def Obligations.EthernetFramesComeAndGo : Prop :=
  (∀ (p : Fin 2) (f : List Byte) (ok : Bool) (s : State), s.epUp p = false → Completes (.ethRx p f ok) s (fun v => v = s)) ∧
  (∀ (p : Fin 2) (f : List Byte) (s : State), s.epUp p = true →
    Completes (.ethRx p f false) s (fun v => v.fld (F.ETH_EP_RXCNT_FCS_CNT p) = min (s.fld (F.ETH_EP_RXCNT_FCS_CNT p) + 1) (2 ^ (F.ETH_EP_RXCNT_FCS_CNT p).w - 1) ∧
      Frame s v [F.ETH_EP_RXCNT_FCS_CNT p, F.ETH_EP_RXCNT_SAT p])) ∧
  (∀ (p : Fin 2) (f : List Byte) (s : State), s.epUp p = true →
    f.take 6 ≠ s.macBytes p → f.take 6 ≠ List.replicate 6 0xFF → s.bit (F.ETH_EP_RX_PROMISC p) = false →
    s.bit (F.ETH_EP_RX_MC_ALL p) = false ∨ bitN (f.headD 0).toNat 0 = false →
    Completes (.ethRx p f true) s (fun v => v.fld (F.ETH_EP_RXCNT_FILT_CNT p) = min (s.fld (F.ETH_EP_RXCNT_FILT_CNT p) + 1) (2 ^ (F.ETH_EP_RXCNT_FILT_CNT p).w - 1) ∧
      Frame s v [F.ETH_EP_RXCNT_FILT_CNT p, F.ETH_EP_RXCNT_SAT p])) ∧
  (∀ (p : Fin 2) (src : List Byte) (s : State), s.epUp p = true → s.bit (F.ETH_EP_RX_EN p) = false →
    Completes (.ethRx p (s.macBytes p ++ src) true) s (fun v => v = s)) ∧
  (∀ (p : Fin 2) (src : Vector Byte 6) (ptp : Vector Byte 32) (rest : List Byte) (s : State), s.epUp p = true → s.bit (F.ETH_EP_RX_EN p) = true →
    let f := List.replicate 6 0xFF ++ src.toList ++ [0x88, 0xF7, 0x00, 0x02] ++ ptp.toList ++ rest
    s.isEvent p f = true →
    let c := s.fld (F.ETH_EP_RX_QID p)
    let t := (s.time.ts / 2 ^ 16 + 2 ^ 80 - s.fld (F.TIME_EP_LAT_RX_LAT p) * 65536) % 2 ^ 80
    let e : HostEntry := .pkt { opc := 0x8040, target := t / 65536, param0 := t % 65536 + 65536 * p + 131072, data := f }
    s.hasRoom c e.ringBytes = true →
    Completes (.ethRx p f true) s (fun v => v.hq.posted = s.hq.posted ++ [(c, e)] ∧
      Frame { s with hq := v.hq, out := v.out } v
        [F.HQ_TAIL_OFS (32 + c), F.HQ_STAT_FULL (32 + c), whole (R.MSIX_PBA 0), whole (R.MSIX_PBA 1)])) ∧
  (∀ (q : Fin 32) (pkt : List Byte), Plain q 0x40 pkt → ∀ (p : Fin 2) (s : State), Offered s q 16 → let h := pktHdr pkt
    14 ≤ h.len → h.len ≤ 1514 → h.param0 = p → h.param1 = 0 → h.target = 2 ^ 64 - 1 → s.epUp p = false →
    Completes (.ethTx q pkt) s (fun v => Answered s v q h.len 0x42 [compOf q pkt 0x42 0] ∧
      Frame { s with hq := v.hq, out := v.out, lastStatus := 0x42 } v (packetFields s q))) ∧
  (∀ (q : Fin 32) (pkt : List Byte), Plain q 0x40 pkt → ∀ (p : Fin 2) (s : State), Offered s q 16 → let h := pktHdr pkt
    14 ≤ h.len → h.len ≤ 1514 → h.param0 = p → h.param1 = 0 → h.target = 2 ^ 64 - 1 → s.epUp p = true →
    s.time.launch[p] = [] → s.time.heldTx[p] = [] → s.time.txEnd[p] ≤ s.ns →
    let t := s.time.ts / 2 ^ 16 + s.fld (F.TIME_EP_LAT_TX_LAT p) * 65536
    let g := (pktData pkt).take 6 ++ s.macBytes p ++ (pktData pkt).drop 12 ++ zeros (60 - h.len)
    Completes (.ethTx q pkt) s (fun v => Answered s v q h.len 0 [compOf q pkt 0 0] ∧
      .eth p (g ++ leBytes 4 (crc32e g)) (t / 65536) ∈ v.out ∧ v.time.txEnd[p] = t / 65536 + s.frameNs p h.len ∧
      Frame { s with hq := v.hq, out := v.out, lastStatus := 0, time := { s.time with txEnd := s.time.txEnd.set p v.time.txEnd[p] } } v
        (packetFields s q))) ∧
  (∀ (q : Fin 32) (pkt : List Byte), Plain q 0x40 pkt → ∀ (p : Fin 2) (s : State), Offered s q 16 → let h := pktHdr pkt
    14 ≤ h.len → h.len ≤ 1514 → h.param0 = p → h.param1 = 0 → h.target = 2 ^ 64 - 1 → s.epUp p = true →
    s.ns < s.time.txEnd[p] ∨ s.time.heldTx[p] ≠ [] ∨ s.time.launch[p].any (fun e => e.launch < s.ns + s.frameNs p h.len) = true ∧ (s.time.launch[p].map (·.launch)).Pairwise (· ≤ ·) →
    let e : LaunchE := { launch := h.target, frame := pktData pkt, owner := some (q.val, s.hq.slotCtr), tag := h.tag, stamp := false, oneStep := false, t2 := 0 }
    Completes (.ethTx q pkt) s (fun v =>
      v.time.heldTx[p] = s.time.heldTx[p] ++ [e] ∧ v.hq.posted = s.hq.posted ∧ v.hq.slots[q].map (fun t => (t.key, t.entries)) = [(s.hq.slotCtr, none)] ∧
      Frame { s with hq := v.hq, out := v.out, time := { s.time with heldTx := s.time.heldTx.set p v.time.heldTx[p] } } v (packetFields s q))) ∧
  (∀ (q : Fin 32) (pkt : List Byte), Plain q 0x40 pkt → ∀ (p : Fin 2) (s : State), Offered s q 16 → let h := pktHdr pkt
    14 ≤ h.len → h.len ≤ 1514 → h.param0 = p → h.param1 = 0 → h.target ≠ 2 ^ 64 - 1 → s.time.launch[p].length < 64 → h.target ≤ s.ns + 2 ^ 32 →
    let e : LaunchE := { launch := h.target, frame := pktData pkt, owner := some (q.val, s.hq.slotCtr), tag := h.tag, stamp := false, oneStep := false, t2 := 0 }
    Completes (.ethTx q pkt) s (fun v =>
      v.time.launch[p] = launchInsert e s.time.launch[p] ∧ v.fld (F.TIME_EP_LSTAT_DEPTH p) = s.time.launch[p].length + 1 ∧
      v.hq.posted = s.hq.posted ∧ v.hq.slots[q].map (fun t => (t.key, t.entries)) = [(s.hq.slotCtr, none)] ∧
      Frame { s with hq := v.hq, out := v.out, time := { s.time with launch := s.time.launch.set p v.time.launch[p] } } v
        (F.TIME_EP_LSTAT_DEPTH p :: packetFields s q))) ∧
  (∀ (q : Fin 32) (pkt : List Byte), Plain q 0x40 pkt → ∀ (p : Fin 2) (s : State), Offered s q 16 → let h := pktHdr pkt
    14 ≤ h.len → h.len ≤ 1514 → h.param0 = p → h.param1 = 0 → h.target ≠ 2 ^ 64 - 1 →
    64 ≤ s.time.launch[p].length ∨ s.ns + 2 ^ 32 < h.target →
    let st := if 64 ≤ s.time.launch[p].length then 0x43 else 0x44
    Completes (.ethTx q pkt) s (fun v =>
      Answered s v q h.len st [compOf q pkt st 0] ∧ v.bit (F.TIME_EP_LSTAT_FULL p) = true ∧
      v.fld (F.TIME_EP_LCNT_DROP_CNT p) = min (s.fld (F.TIME_EP_LCNT_DROP_CNT p) + 1) (2 ^ (F.TIME_EP_LCNT_DROP_CNT p).w - 1) ∧
      Frame { s with hq := v.hq, out := v.out, lastStatus := BitVec.ofNat 8 st } v
        ([F.TIME_EP_LSTAT_FULL p, F.TIME_EP_LCNT_DROP_CNT p, F.TIME_EP_LCNT_SAT p] ++ packetFields s q))) ∧
  (∀ (p : Fin 2) (s : State), s.time.heldTx[p] = [] → s.time.launch[p] = [] → Completes (.launch p) s (fun v => v = s)) ∧
  (∀ (p : Fin 2) (e : LaunchE) (rest : List LaunchE) (s0 : State),
    let s : State := { s0 with time := { s0.time with launch := s0.time.launch.set p (e :: rest), heldTx := s0.time.heldTx.set p [] } }
    s.ns < e.launch → Completes (.launch p) s (fun v => v = s)) ∧
  (∀ (p : Fin 2) (f : List Byte) (past : Fin 1000) (rest : List LaunchE) (s0 : State),
    let s : State := { s0 with time := { s0.time with launch := s0.time.launch.set p ({ launch := s0.ns - past, frame := f, owner := none, tag := 0, stamp := false, oneStep := false, t2 := 0 } :: rest), heldTx := s0.time.heldTx.set p [] } }
    s.epUp p = true → past ≤ s.ns → past ≤ s.fld (F.TIME_EP_LCTL_LATE_TOL p) → s.time.txEnd[p] ≤ s.ns - past →
    let t := (s.ns - past) * 65536 + (Config.freeWord s.freeCtr).toNat % (if s.ep25 p then 167773 else 419431)
    let g := f.take 6 ++ s.macBytes p ++ f.drop 12 ++ zeros (60 - (f.take 6 ++ s.macBytes p ++ f.drop 12).length)
    Completes (.launch p) s (fun v => v.fld (F.TIME_EP_LSTAT_DEPTH p) = rest.length % 2 ^ (F.TIME_EP_LSTAT_DEPTH p).w ∧
      Frame { s with freeCtr := s.freeCtr + 1, out := s.out ++ [.eth p (g ++ leBytes 4 (crc32e g)) (t / 65536)], time := { s.time with launch := s.time.launch.set p rest, txEnd := s.time.txEnd.set p (t / 65536 + s.frameNs p f.length) } }
        v [F.TIME_EP_LSTAT_DEPTH p])) ∧
  (∀ (p : Fin 2) (f : List Byte) (past : Nat) (rest : List LaunchE) (s0 : State),
    let s : State := { s0 with time := { s0.time with launch := s0.time.launch.set p ({ launch := s0.ns - past, frame := f, owner := none, tag := 0, stamp := false, oneStep := false, t2 := 0 } :: rest), heldTx := s0.time.heldTx.set p [] } }
    past ≤ s.ns → s.fld (F.TIME_EP_LCTL_LATE_TOL p) < past ∨ s.ns - past + s.fld (F.TIME_EP_LCTL_LATE_TOL p) < s.time.txEnd[p] → s.bit (F.TIME_EP_LCTL_DROP_LATE p) = true →
    Completes (.launch p) s (fun v => v.bit (F.TIME_EP_LSTAT_LATE_DROP p) = true ∧ v.fld (F.TIME_EP_LSTAT_DEPTH p) = rest.length % 2 ^ (F.TIME_EP_LSTAT_DEPTH p).w ∧
      v.fld (F.TIME_EP_LCNT_DROP_CNT p) = min (s.fld (F.TIME_EP_LCNT_DROP_CNT p) + 1) (2 ^ (F.TIME_EP_LCNT_DROP_CNT p).w - 1) ∧
      Frame { s with time := { s.time with launch := s.time.launch.set p rest } } v
        [F.TIME_EP_LSTAT_LATE_DROP p, F.TIME_EP_LSTAT_DEPTH p, F.TIME_EP_LCNT_DROP_CNT p, F.TIME_EP_LCNT_SAT p]))

/-- A sensor channel filters its bits by decimation and emits a stamped sample once its history is full (after R305, R306, R307, R309, R310). The model's choice: that a gated block takes no bit (assumption 111). -/
def Obligations.SensorFilterDecimates : Prop :=
  (∀ (n : Fin 16) (bits : List Bool) (s : State), s.bit (F.SDF_CH_CTL_EN n) = false ∨ s.fld (F.SDF_GRP_CTL_MODE (n / 4)) = 0 ∨
    s.sdfGone (n / 4) = true ∨ s.bit (F.PWR_CLASS_GATED 0x0D) = true → Completes (.sdfSample n bits) s (fun v => v = s)) ∧
  (∀ (n : Fin 16) (x : Bool) (s : State), s.bit (F.SDF_CH_CTL_EN n) = true → s.fld (F.SDF_GRP_CTL_MODE (n / 4)) ≠ 0 → s.sdfGone (n / 4) = false →
    s.bit (F.PWR_CLASS_GATED 0x0D) = false → s.sdf.ch[n].c0 + 1 < s.fld (F.SDF_CH_CTL_M n) →
    let b : Int := if x != s.bit (F.SDF_CH_CTL_INV n) then 1 else -1
    let len := (s.fld (F.SDF_CH_CTL_K n) + 1) * (s.fld (F.SDF_CH_CTL_M n) - 1) + 1
    Completes (.sdfSample n [x]) s (fun v =>
      v = { s with sdf := { s.sdf with ch := s.sdf.ch.set n { s.sdf.ch[n] with h0 := (b :: s.sdf.ch[n].h0).take len, c0 := s.sdf.ch[n].c0 + 1 } } })) ∧
  (∀ (n : Fin 16) (x : Bool) (s : State), s.bit (F.SDF_CH_CTL_EN n) = true → s.fld (F.SDF_GRP_CTL_MODE (n / 4)) ≠ 0 → s.sdfGone (n / 4) = false →
    s.bit (F.PWR_CLASS_GATED 0x0D) = false → s.fld (F.SDF_CH_CTL_M n) ≤ s.sdf.ch[n].c0 + 1 → 1 ≤ s.fld (F.SDF_CH_CTL_M n) →
    s.fld (F.SDF_CH_CTL_NHB n) = 0 → s.bit (F.SDF_CH_CTL_FIR_EN n) = false → s.rd (R.SDF_GRP_PER (n / 4)) ≠ 0 →
    let k := s.fld (F.SDF_CH_CTL_K n) + 1
    let m := s.fld (F.SDF_CH_CTL_M n)
    k * (m - 1) ≤ s.sdf.ch[n].h0.length →
    let b : Int := if x != s.bit (F.SDF_CH_CTL_INV n) then 1 else -1
    let h := (b :: s.sdf.ch[n].h0).take (k * (m - 1) + 1)
    let r := rshift (dot (sincTaps m k) h) (s.fld (F.SDF_CH_SH_SH0 n))
    let y := clampI r (-8388608) 8388607
    let corr : Nat := (s.groupDelay n * s.rdN (R.SDF_GRP_PER (n / 4)) + 2 ^ 16) / 2 ^ 17
    Completes (.sdfSample n [x]) s (fun v => v.rdN (R.SDF_CH_DATA n) = wrapTo 32 y ∧ (v.rdN (R.SDF_CH_TS n) : Int) = ((s.tsNs : Int) - corr) % 2 ^ 32 ∧
      v.fld (F.SDF_CH_SEQ_SEQ n) = (s.fld (F.SDF_CH_SEQ_SEQ n) + 1) % 65536 ∧ v.bit (F.SDF_CH_STAT_SETTLING n) = false ∧
      bitN (v.fld (F.SDF_CH_STAT_SAT0_SAT3 n)) 0 = (bitN (s.fld (F.SDF_CH_STAT_SAT0_SAT3 n)) 0 || decide (y ≠ r)) ∧
      v.fld (F.SDF_CH_STAT_SAT0_SAT3 n) / 2 = s.fld (F.SDF_CH_STAT_SAT0_SAT3 n) / 2 ∧
      v.fld (F.SDF_CH_STAT_SAT_CNT n) = min (s.fld (F.SDF_CH_STAT_SAT_CNT n) + b2n (decide (y ≠ r))) 32767 ∧
      v.sdf.ch[n].h0 = h ∧ v.sdf.ch[n].c0 = 0 ∧ v.sdf.ch[n].samples = ((v.rdN (R.SDF_CH_TS n), y) :: s.sdf.ch[n].samples).take 16 ∧
      Frame { s with sdf := { s.sdf with ch := s.sdf.ch.set n v.sdf.ch[n] } } v
        [whole (R.SDF_CH_DATA n), whole (R.SDF_CH_TS n), F.SDF_CH_SEQ_SEQ n, F.SDF_CH_STAT_SETTLING n, F.SDF_CH_STAT_SAT0_SAT3 n,
         F.SDF_CH_STAT_SAT_CNT n, F.SDF_CH_STAT_SAT n])) ∧
  (∀ (n : Fin 16) (x : Bool) (s : State), s.bit (F.SDF_CH_CTL_EN n) = true → s.fld (F.SDF_GRP_CTL_MODE (n / 4)) ≠ 0 → s.sdfGone (n / 4) = false →
    s.bit (F.PWR_CLASS_GATED 0x0D) = false → s.rd (R.SDF_GRP_PER (n / 4)) = 0 →
    Completes (.sdfSample n [x]) s (fun v => v.sdf.ch[n].samples = s.sdf.ch[n].samples ∧ v.rd (R.SDF_CH_DATA n) = s.rd (R.SDF_CH_DATA n) ∧
      v.fld (F.SDF_CH_SEQ_SEQ n) = s.fld (F.SDF_CH_SEQ_SEQ n) ∧
      Frame { s with sdf := { s.sdf with ch := s.sdf.ch.set n v.sdf.ch[n] } } v
        [F.SDF_CH_STAT_SAT0_SAT3 n, F.SDF_CH_STAT_SAT_CNT n, F.SDF_CH_STAT_SAT n]))

/-- Sensor clocks are measured and lost, syncs reset their groups, and channels are configured only while off (after R3, R305, R307, R309, R311, R312, R314, R315). -/
def Obligations.SensorGroupsRunAndSync : Prop :=
  (∀ (g : Fin 4) (per : Word) (s : State), s.fld (F.SDF_GRP_CTL_MODE g) = 0 ∨ s.sdfGone g = true →
    Completes (.sdfPeriodUpdate g per) s (fun v => v = s)) ∧
  (∀ (g : Fin 4) (s : State), s.fld (F.SDF_GRP_CTL_MODE g) = 0 →
    Completes (.sdfClockLost g) s (fun v => v = s) ∧
    Completes (.sdfClockReturn g) s (fun v => v = s)) ∧
  (∀ (g : Fin 4) (per : Word) (s : State), s.fld (F.SDF_GRP_CTL_MODE g) ≠ 0 → s.sdfGone g = false →
    Completes (.sdfPeriodUpdate g per) s (fun v => v.rd (R.SDF_GRP_PER g) = per ∧ v.bit (F.SDF_GRP_STAT_RUN g) = true ∧
      v.bit (F.SDF_GRP_STAT_CLK_RANGE g) = (s.bit (F.SDF_GRP_STAT_CLK_RANGE g) || decide (per.toNat < 38 * 65536 ∨ 210 * 65536 < per.toNat)) ∧
      v.sdf = s.sdf ∧ FrameMem s v s.spillByte ∧
      FrameRegs s v (fun off => off == R.SDF_GRP_PER g || off == R.SDF_GRP_STAT g || off == R.TOP_READY || off == R.PWR_CLASS 0x0D || inBlocks [.hostq, .seg, .time] off))) ∧
  (∀ (g : Fin 4) (s : State), s.fld (F.SDF_GRP_CTL_MODE g) ≠ 0 →
    Completes (.sdfClockLost g) s (fun v => v.rd (R.SDF_GRP_PER g) = 0 ∧ v.bit (F.SDF_GRP_STAT_RUN g) = false ∧
      v.bit (F.SDF_GRP_STAT_CLK_LOST g) = true ∧ (∀ k : Fin 4, v.bit (F.SDF_CH_STAT_SETTLING (4 * g + k)) = true) ∧ v.bit ⟨R.TOP_READY, 10, 1⟩ = false ∧
      v.sdf = { s.sdf with gone := s.sdf.gone.set g true } ∧ FrameMem s v s.spillByte ∧
      FrameRegs s v (fun off => off == R.SDF_GRP_PER g || off == R.SDF_GRP_STAT g || off == R.TOP_READY || (List.range 4).any (fun k => off == R.SDF_CH_STAT (4 * g + k)) || inBlocks [.hostq, .seg, .time] off))) ∧
  (∀ (g : Fin 4) (s : State), s.fld (F.SDF_GRP_CTL_MODE g) ≠ 0 →
    Completes (.sdfClockReturn g) s (fun v => v.rd (R.SDF_GRP_PER g) = 0 ∧ v.sdf.sync[g] = false ∧ v.sdf.gone[g] = false ∧
      (∀ n : Fin 16, v.sdf.ch[n] = if n.val / 4 = g.val ∧ s.bit (F.SDF_CH_CTL_EN n) = true then s.sdf.ch[n].cleared else s.sdf.ch[n]) ∧
      (∀ n : Fin 16, v.bit (F.SDF_CH_STAT_SETTLING n) = (s.bit (F.SDF_CH_STAT_SETTLING n) || (decide (n.val / 4 = g.val) && s.bit (F.SDF_CH_CTL_EN n)))) ∧
      Frame { s with sdf := { s.sdf with ch := v.sdf.ch, sync := s.sdf.sync.set g false, gone := s.sdf.gone.set g false } } v
        (whole (R.SDF_GRP_PER g) :: (List.range 16).map F.SDF_CH_STAT_SETTLING))) ∧
  (∀ (s : State), let w := s.wakeBlock 0x0D
    (s.bit F.SDF_CTL_FSYNC_EN = true → Completes (.sdfFsync (!s.bit F.SDF_CTL_FSYNC_POL) false) s (fun v =>
      v.bit F.SDF_STAT_SYNC_SEEN = true ∧ v.fld F.SDF_STAT_SYNC_CNT = (s.fld F.SDF_STAT_SYNC_CNT + 1) % 65536 ∧
      (∀ g : Fin 4, v.sdf.sync[g] = (s.sdf.sync[g] || s.fld (F.SDF_GRP_CTL_MODE g) != 0)) ∧
      Frame { s with sdf := { s.sdf with sync := v.sdf.sync } } v [F.SDF_STAT_SYNC_SEEN, F.SDF_STAT_SYNC_CNT])) ∧
    Completes (.swSync false) s (fun v =>
      v.bit F.SDF_STAT_SYNC_SEEN = true ∧ v.fld F.SDF_STAT_SYNC_CNT = (s.fld F.SDF_STAT_SYNC_CNT + 1) % 65536 ∧
      (∀ g : Fin 4, v.sdf.sync[g] = (s.sdf.sync[g] || s.fld (F.SDF_GRP_CTL_MODE g) != 0)) ∧
      Frame { w with sdf := { s.sdf with sync := v.sdf.sync }, lastStatus := 0 } v [F.SDF_STAT_SYNC_SEEN, F.SDF_STAT_SYNC_CNT]) ∧
    Completes (.swSync true) s (fun v => v = { w with lastStatus := 0 })) ∧
  (∀ (rising joined : Bool) (s : State), s.bit F.SDF_CTL_FSYNC_EN = false ∨ rising = s.bit F.SDF_CTL_FSYNC_POL ∨ joined = true →
    Completes (.sdfFsync rising joined) s (fun v => v = s)) ∧
  (∀ (g : Fin 4) (s : State), s.sdf.sync[g] = true → s.bit (F.SDF_GRP_STAT_RUN g) = true →
    Completes (.sdfSyncApply g) s (fun v => v.sdf.sync[g] = false ∧
      (∀ n : Fin 16, v.sdf.ch[n] = if n.val / 4 = g.val ∧ s.bit (F.SDF_CH_CTL_EN n) = true then s.sdf.ch[n].cleared else s.sdf.ch[n]) ∧
      Frame { s with sdf := { s.sdf with ch := v.sdf.ch, sync := s.sdf.sync.set g false } } v ((List.range 16).map F.SDF_CH_STAT_SETTLING))) ∧
  (∀ (g : Fin 4) (s : State), s.sdf.sync[g] = false ∨ s.bit (F.SDF_GRP_STAT_RUN g) = false → Completes (.sdfSyncApply g) s (fun v => v = s)) ∧
  (∀ (n : Fin 16) (val : BitVec 18) (s : State), s.has .sdi n = false →
    Completes (.sdfChannelEnable n val) s (fun v => v = s) ∧ Completes (.sdfChannelDisable n val) s (fun v => v = s)) ∧
  (∀ (n : Fin 16) (val : BitVec 18) (s : State), s.has .sdi n = true → s.bit (F.SDF_CH_CTL_EN n) = true → s.rdN (R.SDF_CH_CTL n) / 2 ≠ val.toNat / 2 →
    Completes (.sdfChannelEnable n val) s (fun v => v = { s.wakeBlock 0x0D with lastStatus := 0x40 }) ∧
    Completes (.sdfChannelDisable n val) s (fun v => v = { s.wakeBlock 0x0D with lastStatus := 0x40 })) ∧
  (∀ (n : Fin 16) (val : BitVec 18) (s : State), s.has .sdi n = true → s.bit (F.SDF_CH_CTL_EN n) = false →
    s.fld (F.SDF_GRP_CTL_MODE (n / 4)) = 0 ∨ val.toNat / 16 % 512 < 4 ∨ 256 < val.toNat / 16 % 512 →
    Completes (.sdfChannelEnable n val) s (fun v => v = { s.wakeBlock 0x0D with lastStatus := 0x40 })) ∧
  (∀ (n : Fin 16) (val : BitVec 18) (s : State), s.has .sdi n = true → s.bit (F.SDF_CH_CTL_EN n) = false →
    s.fld (F.SDF_GRP_CTL_MODE (n / 4)) ≠ 0 → 4 ≤ val.toNat / 16 % 512 → val.toNat / 16 % 512 ≤ 256 → val.toNat / 2 ^ 13 % 4 ≠ 3 →
    val.toNat / 2 ^ 15 % 2 = 0 → s.fld (F.SDF_CH_FIR_GD n) ≤ 126 →
    Completes (.sdfChannelEnable n val) s (fun v => v.rdN (R.SDF_CH_CTL n) = val.toNat / 2 * 2 + 1 ∧ v.bit (F.SDF_CH_STAT_SETTLING n) = true ∧
      v.fld (F.SDF_CH_GD_G2 n) = v.groupDelay n % 2 ^ (F.SDF_CH_GD_G2 n).w ∧
      v.sdf.ch[n] = s.sdf.ch[n].cleared ∧ FrameMem s v s.spillByte ∧
      FrameRegs s v (fun off => off == R.SDF_CH_CTL n || off == R.SDF_CH_GD n || off == R.SDF_CH_STAT n || off == R.TOP_READY || off == R.PWR_CLASS 0x0D || inBlocks [.hostq, .seg, .time] off))) ∧
  (∀ (n : Fin 16) (s : State), s.has .sdi n = true → s.bit (F.SDF_CH_CTL_EN n) = true → s.rdN (R.SDF_CH_CTL n) < 2 ^ 18 →
    s.fld (F.SDF_CH_CTL_NHB n) ≠ 3 →
    Completes (.sdfChannelDisable n (BitVec.ofNat 18 (s.rdN (R.SDF_CH_CTL n)))) s (fun v => v.rdN (R.SDF_CH_CTL n) = s.rdN (R.SDF_CH_CTL n) / 2 * 2 ∧
      v.sdf.ch[n] = { s.sdf.ch[n].cleared with samples := [] } ∧ FrameMem s v s.spillByte ∧
      FrameRegs s v (fun off => off == R.SDF_CH_CTL n || off == R.SDF_CH_GD n || off == R.TOP_READY || off == R.PWR_CLASS 0x0D || inBlocks [.hostq, .seg, .time] off)))

/-- A DDR-4 request waits for its grant, which takes it by class, row and age, and then reads or writes exactly its line (after R15, R318, R319, R320, R322, R323, R324, R325). -/
def Obligations.MemoryRequestsReadAndWrite : Prop :=
  (∀ (a : BitVec 38) (wr : Option (List Byte)) (ofs : Fin 64) (who : DdrWho) (err : Fin 3) (syn : BitVec 8) (s : State),
    s.inDdr (a.toNat / 64 * 64) 64 = false → (match who with | .port p _ => s.fld (F.DMC_RT_CFG_OWNER p) == 0 | _ => true) = true →
    Completes (.ddrRequest a wr ofs who err syn) s (fun v => v = s)) ∧
  (∀ (a : BitVec 38) (wr : Option (List Byte)) (ofs : Fin 64) (who : DdrWho) (err : Fin 3) (syn : BitVec 8) (c : Fin 8) (s : State),
    let l := a.toNat / 64 * 64
    s.inDdr l 64 = true → (match who with | .port p _ => s.fld (F.DMC_RT_CFG_OWNER p) == 0 | _ => true) = true → (ddrLoc s.nch l).1 = c →
    let r : DdrReq := { ca := (ddrLoc s.nch l).2, addr := l, wr := wr.map (fun bs => (ofs.val, bs.take (64 - ofs))), who := who, err := err.val, syn := syn.toNat, seen := 0 }
    Completes (.ddrRequest a wr ofs who err syn) s (fun v =>
      v = { s with dmc := s.dmc.set c { s.dmc[c] with waiting := s.dmc[c].waiting ++ [r] } })) ∧
  (∀ (a : BitVec 38) (wr : Option (List Byte)) (ofs : Fin 64) (p : Fin 32) (moved : BitVec 12) (err : Fin 3) (syn : BitVec 8) (c : Fin 8) (s : State),
    let l := a.toNat / 64 * 64
    s.fld (F.DMC_RT_CFG_OWNER p) ≠ 0 → (ddrLoc s.nch l).1 = c →
    let p1 := s.fld (F.DMC_RT_CFG_PANIC1 p)
    let p2 := s.fld (F.DMC_RT_CFG_PANIC2 p)
    let lvl := min (ownerBuf (s.fld (F.DMC_RT_CFG_OWNER p))) (s.fld (F.DMC_RT_STAT_LEVEL p) + moved.toNat)
    let r : DdrReq := { ca := (ddrLoc s.nch l).2, addr := l, wr := wr.map (fun bs => (ofs.val, bs.take (64 - ofs))), who := .port p moved, err := err.val, syn := syn.toNat, seen := 0 }
    Completes (.ddrRequest a wr ofs (.port p moved) err syn) s (fun v => v.fld (F.DMC_RT_STAT_LEVEL p) = lvl ∧
      v.fld (F.DMC_RT_STAT_CLASS p) = (if p1 = 0 ∧ p2 = 0 then 0 else if p2 ≤ lvl then 2 else if p1 ≤ lvl then 1 else 0) ∧
      Frame { s with dmc := s.dmc.set c { s.dmc[c] with waiting := s.dmc[c].waiting ++ (if s.inDdr l 64 then [r] else []) } } v
        [F.DMC_RT_STAT_LEVEL p, F.DMC_RT_STAT_CLASS p, F.DMC_RT_STAT_P2_CNT p])) ∧
  (∀ (c : Fin 8) (s : State), ∀ x, s.nextGrant c = some x →
    x ∈ s.mayGrant c ∧ (64 ≤ x.1.seen ∨ ∀ e ∈ s.mayGrant c, e.1.seen < 64 ∧ (s.reqClass e.1.who < s.reqClass x.1.who ∨
      s.reqClass e.1.who = s.reqClass x.1.who ∧ (s.rowHit c e.1.ca = true → s.rowHit c x.1.ca = true) ∧
        (s.rowHit c e.1.ca = s.rowHit c x.1.ca → x.2 ≤ e.2))) ∧
    s.grant c = State.serve { s with dmc := s.dmc.set c { s.dmc[c] with waiting := (s.dmc[c].waiting.eraseIdx x.2).map (fun r => { r with seen := r.seen + 1 }) } } c x.1) ∧
  (∀ (c : Fin 8) (r : DdrReq) (ofs : Fin 64) (bs : List Byte) (o : Bool) (s : State), s.inDdr r.addr 64 = true → ofs + bs.length ≤ 64 →
    s.poison.contains (r.addr / 64) = false →
    let v := s.serve c { r with wr := some (ofs.val, bs), who := .other o, err := 0 }
    v.memRead (r.addr + ofs) bs.length = bs ∧ (v.dmcS c).wq = (r.ca, o) :: (s.dmcS c).wq ∧ (v.dmcS c).waiting = (s.dmcS c).waiting ∧
      FrameStore { s with dmc := s.dmc.set c v.dmc[c] } v (r.addr + ofs) bs.length [F.DMC_CH_USE_FWD_CNT c]) ∧
  (∀ (c : Fin 8) (r : DdrReq) (o : Bool) (s : State), s.inDdr r.addr 64 = true →
    let q := (s.dmcS c).wq.any (fun e => e.1 == r.ca)
    s.poison.contains (r.addr / 64) = false ∨ q = true →
    let v := s.serve c { r with wr := none, who := .other o, err := 0 }
    v.fld (F.DMC_CH_USE_FWD_CNT c) = (s.fld (F.DMC_CH_USE_FWD_CNT c) + b2n q) % 2 ^ (F.DMC_CH_USE_FWD_CNT c).w ∧
      (q = false → ((s.ddrBank c r.ca, s.ddrPhys c r.ca / 8192) ∈ (v.dmcS c).rows ↔ o = true)) ∧
      Frame { s with dmc := s.dmc.set c { s.dmc[c] with rows := v.dmc[c].rows, down := v.dmc[c].down } } v [F.DMC_CH_USE_FWD_CNT c]) ∧
  (∀ (c : Fin 8) (r : DdrReq) (o : Bool) (s : State), s.inDdr r.addr 64 = true → (s.dmcS c).wq.any (fun e => e.1 == r.ca) = false →
    s.poison.contains (r.addr / 64) = false → s.fld (F.DMC_CH_SPARE_PG_THR c) = 0 →
    let v := s.serve c { r with wr := none, who := .other o, err := 1 }
    v.fld (F.DMC_CH_ECC_CNT_CE_CNT c) = min (s.fld (F.DMC_CH_ECC_CNT_CE_CNT c) + 1) (2 ^ (F.DMC_CH_ECC_CNT_CE_CNT c).w - 1) ∧
      (v.dmcS c).wq = (if s.bit (F.DMC_CH_CTL_DEMAND_WB c) then [(r.ca, o)] else []) ++ (s.dmcS c).wq ∧
      Frame { s with dmc := s.dmc.set c v.dmc[c] } v [F.DMC_CH_ECC_CNT_CE_CNT c, F.DMC_CH_ECC_CNT_SAT c]) ∧
  (∀ (c : Fin 8) (r : DdrReq) (o : Bool) (s : State), s.inDdr r.addr 64 = true → (s.dmcS c).wq.any (fun e => e.1 == r.ca) = false →
    let v := s.serve c { r with wr := none, who := .other o, err := 2 }
    r.addr / 64 ∈ v.poison ∧ v.bit (F.DMC_CH_STAT_UE c) = true ∧
      v.fld (F.DMC_CH_ECC_CNT_UE_CNT c) = min (s.fld (F.DMC_CH_ECC_CNT_UE_CNT c) + 1) (2 ^ (F.DMC_CH_ECC_CNT_UE_CNT c).w - 1) ∧
      v.bit (F.DMC_CH_ERR_ADDR_HI_VALID c) = true ∧
      (s.bit (F.DMC_CH_ERR_ADDR_HI_VALID c) = false →
        v.rdN (R.DMC_CH_ERR_ADDR_LO c) = r.addr % 2 ^ 32 ∧ v.fld (F.DMC_CH_ERR_ADDR_HI_VALUE c) = r.addr / 2 ^ 32 % 2 ^ (F.DMC_CH_ERR_ADDR_HI_VALUE c).w ∧
        v.fld (F.DMC_CH_ERR_SYN_VALUE c) = r.syn % 2 ^ (F.DMC_CH_ERR_SYN_VALUE c).w) ∧
      FrameMem s v s.spillByte ∧ FrameRegs s v (fun off => inBlocks [.dmc, .hostq, .seg, .time] off)) ∧
  (∀ (c : Fin 8) (p : Fin 32) (m : BitVec 12) (r : DdrReq) (s : State), s.inDdr r.addr 64 = true →
    (s.dmcS c).wq.any (fun e => e.1 == r.ca) = true →
    (s.serve c { r with wr := none, who := .port p m }).fld (F.DMC_RT_STAT_LEVEL p) = s.fld (F.DMC_RT_STAT_LEVEL p) - 1)

/-- A DDR-4 channel is configured, initialised and kept: refresh, power-down, delays, scrubbing and copies (after R318, R320, R324, R326, R327, R329, R330, R331, R332). The model's choice: when a row copy starts to count, which 64 lines a rank's check lines are, that a second DMC_CFG after DONE is refused, and that boundary scan swallows what INIT sends (assumptions 93, 97, 98, 158). -/
def Obligations.MemoryChannelsStartAndStay : Prop :=
  (∀ (n8 : Bool) (s : State), s.bit F.DMC_CFG_DONE = true ∨ (n8 = true ∧ s.board.variant = .w0648) ∨
    (List.range (if n8 then 8 else 4)).all (fun c => s.rd (R.DMC_CH_CFG c) == s.rd (R.DMC_CH_CFG 0)) = false →
    Completes (.dmcConfigDone n8) s (fun v => v = { s with lastStatus := 0x40 })) ∧
  (∀ (n8 : Bool) (cfg : Word) (s0 : State), let s := (List.range 8).foldl (fun (s : State) c => s.put (R.DMC_CH_CFG c) cfg) s0
    s.bit F.DMC_CFG_DONE = false → n8 = false ∨ s.board.variant ≠ .w0648 →
    let n := if n8 then 8 else 4
    let spare := (List.range n).foldl (fun m c => max m (s.spareMib c)) 0
    Completes (.dmcConfigDone n8) s (fun v => v.bit F.DMC_CFG_DONE = true ∧ v.bit F.DMC_CFG_NCH = n8 ∧
      v.fld F.DMC_INSTALLED_MIB = n * (s.chanMib 0 - spare) % 2 ^ F.DMC_INSTALLED_MIB.w ∧
      v.bit F.DMC_INSTALLED_VALID = (!s.selfRefresh && (List.range n).all s.chanServes) ∧
      Frame { s with lastStatus := 0 } v [whole R.DMC_CFG, F.DMC_INSTALLED_MIB, F.DMC_INSTALLED_VALID])) ∧
  (∀ (c : Fin 8) (val : Word) (s : State), s.has .ddr c = false →
    Completes (.dmcInit c val) s (fun v => v = s) ∧ Completes (.dlyApply c val) s (fun v => v = s)) ∧
  (∀ (c : Fin 8) (val : Word) (s : State), s.has .ddr c = true → s.timingsSet c = false ∨ s.chanServes c = true →
    Completes (.dmcInit c val) s (fun v => v = { s with lastStatus := 0x40 })) ∧
  (∀ (c : Fin 8) (val : Word) (s : State), s.has .ddr c = true → s.timingsSet c = true → s.chanServes c = false → bitN val.toNat 1 = false →
    Completes (.dmcInit c val) s (fun v => v.fld (F.DMC_CH_STAT_STATE c) = 1 ∧ v.rd (R.DMC_CH_CTL c) = val &&& 0xFFFFFC ∧
      (s.scanDrives = false → v.out = s.out ++ [.ddrReset c] ++ (if s.bit (F.DMC_CH_CFG_RDIMM c) then [.ddrRcw c (s.fld (F.DMC_CH_MR6_RCW c))] else []) ++
        [.ddrMode c 3 (s.fld (F.DMC_CH_MR3_VALUE c)), .ddrMode c 6 (s.fld (F.DMC_CH_MR6_VALUE c)), .ddrMode c 5 (s.fld (F.DMC_CH_MR5_VALUE c)),
         .ddrMode c 4 (s.fld (F.DMC_CH_MR4_VALUE c)), .ddrMode c 2 (s.fld (F.DMC_CH_MR2_VALUE c)), .ddrMode c 1 (s.fld (F.DMC_CH_MR1_VALUE c)),
         .ddrMode c 0 (s.fld (F.DMC_CH_MR0_VALUE c)), .ddrZq c]) ∧
      Frame { s with lastStatus := 0, out := v.out } v [F.DMC_CH_STAT_STATE c, whole (R.DMC_CH_CTL c), F.DMC_INSTALLED_VALID])) ∧
  (∀ (c : Fin 8) (val : Word) (s : State), s.has .ddr c = true → bitN val.toNat 0 = false →
    Completes (.dlyApply c val) s (fun v => v.bit (F.DMC_CH_STAT_DLY_PEND c) = true ∧
      v.dmc[c].take = (if s.bit (F.DMC_CH_CFG_RANKS2 c) then [0, 1] else [0]) ∧
      v.rd (R.DMC_CH_CTL c) = (val ||| 2) &&& 0xFFFFFC ∧
      Frame { s with lastStatus := 0, dmc := s.dmc.set c { s.dmc[c] with take := v.dmc[c].take } } v [F.DMC_CH_STAT_DLY_PEND c, whole (R.DMC_CH_CTL c)])) ∧
  (∀ (c : Fin 8) (ok : Bool) (s : State), s.fld (F.DMC_CH_STAT_STATE c) ≠ 1 → Completes (.dmcInitDone c ok) s (fun v => v = s)) ∧
  (∀ (c : Fin 8) (ok : Bool) (s : State), s.fld (F.DMC_CH_STAT_STATE c) = 1 →
    let check := (if s.twoRanks c then [0, 1] else [0]).flatMap (fun r => (List.range 64).map (fun i => ddrAddr s.nch c (r * 2 ^ 17 + 64 * i)))
    Completes (.dmcInitDone c ok) s (fun v => v.fld (F.DMC_CH_STAT_STATE c) = (if ok then 2 else 4) ∧ v.bit (F.DMC_CH_STAT_DLY_PEND c) = false ∧
      (ok = true → v.bit ⟨R.TOP_READY_IO, 16 + c, 1⟩ = true) ∧ (ok = false → v.bit (F.DMC_CH_STAT_CHK_FAIL c) = true) ∧
      (∀ a ∈ check, v.memRead a 64 = zeros 64) ∧ FrameMem s v (fun x => check.any (fun a => decide (a ≤ x) && decide (x < a + 64))) ∧
      v.dmc[c].wq = [] ∧ v.dmc[c].rows = [] ∧ v.dmc[c].take.all (fun r => decide (2 ≤ r)) = true ∧
      FrameRegs s v (fun off => off == R.DMC_CH_STAT c || (ok && (off == R.DMC_INSTALLED || off == R.TOP_READY_IO))))) ∧
  (∀ (c : Fin 8) (r : Fin 2) (s : State), s.chanServes c = false ∨ s.selfRefresh = true → Completes (.refresh c r) s (fun v => v = s)) ∧
  (∀ (c : Fin 8) (r : Fin 2) (s : State), s.chanServes c = true → s.selfRefresh = false → s.panic2 = true → cntGet s.dmc[c].post r < 8 →
    Completes (.refresh c r) s (fun v => cntGet v.dmc[c].post r = cntGet s.dmc[c].post r + 1 ∧
      v = { s with dmc := s.dmc.set c { s.dmc[c] with post := v.dmc[c].post } })) ∧
  (∀ (c : Fin 8) (r : Fin 2) (s : State), s.chanServes c = true → s.selfRefresh = false → s.panic2 = false →
    Completes (.refresh c r) s (fun v => (∀ e ∈ v.dmc[c].rows, e.1 / 16 ≠ r) ∧ cntGet v.dmc[c].post r = 0 ∧ r.val ∉ v.dmc[c].take ∧
      Frame { s with dmc := s.dmc.set c v.dmc[c] } v [F.DMC_CH_STAT_DLY_PEND c])) ∧
  (∀ (c : Fin 8) (r : Fin 2) (s : State), s.chanServes c = true → s.selfRefresh = false → s.fld (F.DMC_CH_CTL_PD_TIMER c) ≠ 0 →
    Completes (.powerDownEntry c r) s (fun v => r.val ∈ v.dmc[c].down ∧
      v = { s with dmc := s.dmc.set c { s.dmc[c] with rows := s.dmc[c].rows.filter (fun e => e.1 / 16 != r.val), down := v.dmc[c].down } })) ∧
  (∀ (c : Fin 8) (r : Fin 2) (s : State), s.chanServes c = false ∨ s.selfRefresh = true ∨ s.fld (F.DMC_CH_CTL_PD_TIMER c) = 0 →
    Completes (.powerDownEntry c r) s (fun v => v = s)) ∧
  (∀ (c : Fin 8) (b : Fin 32) (s : State), Completes (.openPageIdleClose c b) s (fun v =>
      v = { s with dmc := s.dmc.set c { s.dmc[c] with rows := s.dmc[c].rows.filter (fun e => e.1 != b.val) } })) ∧
  (∀ (c : Fin 8) (err : Fin 3) (syn : BitVec 8) (s : State), s.chanServes c = false ∨ s.selfRefresh = true ∨ s.fld (F.DMC_CH_SCRUB_HOURS c) = 0 ∨ s.panic2 = true →
    Completes (.patrolScrub c err syn) s (fun v => v = s)) ∧
  (∀ (c : Fin 8) (syn : BitVec 8) (s : State), s.chanServes c = true → s.selfRefresh = false → s.fld (F.DMC_CH_SCRUB_HOURS c) ≠ 0 → s.panic2 = false →
    let ca := 64 * s.dmc[c].scrub
    ddrAddr s.nch c ca / 64 ∉ s.poison →
    Completes (.patrolScrub c 0 syn) s (fun v =>
      v.dmc[c].scrub = (if s.chanMib c * 2 ^ 14 ≤ s.dmc[c].scrub + 1 then 0 else s.dmc[c].scrub + 1) ∧
      v.fld (F.DMC_CH_SCRUB_POS c) = ((s.ddrRow c ca).2 % 2 ^ 23 + 2 ^ 23 * (s.ddrRow c ca).1) % 2 ^ 24 ∧
      Frame { s with dmc := s.dmc.set c v.dmc[c] } v [F.DMC_CH_SCRUB_POS c, F.DMC_CH_USE_FWD_CNT c])) ∧
  (∀ (c : Fin 8) (row : Nat × Nat) (rest : List (Nat × Nat)) (s0 : State), let s := s0.modDmc c (fun d => { d with copies := row :: rest })
    Completes (.rowCopyDone c) s (fun v => v = if s.panic2 || s.selfRefresh then s else s.modDmc c (fun d => { d with copies := rest, remap := d.remap ++ [row] }))) ∧
  (∀ (c : Fin 8) (s : State), s.fld (F.DMC_CH_STAT_STATE c) = 3 → s.panic2 = false → s.selfRefresh = false →
    Completes (.rankCopyDone c) s (After (fun u => u.ddrFault c 5 0) (fun u => u.fld (F.DMC_CH_STAT_STATE c) = 2 ∧
      u.bit (F.DMC_CH_STAT_RANK_RET c) = true ∧
      Frame { s with dmc := s.dmc.set c { s.dmc[c] with rows := [], rank1 := true } } u [F.DMC_CH_STAT_STATE c, F.DMC_CH_STAT_RANK_RET c]))) ∧
  (∀ (c : Fin 8) (s : State), s.fld (F.DMC_CH_STAT_STATE c) ≠ 3 ∨ s.panic2 = true ∨ s.selfRefresh = true → Completes (.rankCopyDone c) s (fun v => v = s))

/-- A DMA channel starts only as the rules allow, moves its bytes to the destination and nowhere else, and ends with one completion (after R335, R336, R339, R340, R341, R343, R372). The model's choice: XFER of a channel ended with HOST_MEM_ERR, a queue whose packet cannot be fetched, and an abort that comes while only the completion waits (assumptions 148, 211). -/
def Obligations.DmaTransfersStartAndEnd : Prop :=
  (∀ (n : Fin 32) (val : Word) (s : State), s.dmaStartOk n = false →
    Completes (.dmaStart n val) s (fun v => v = { s.wakeBlock 0x0F with lastStatus := 0x40 })) ∧
  (∀ (n : Fin 32) (val : Word) (s : State), s.dmaStartOk n = true → s.fld (F.DM_CFG_SRC_SPACE n) ≠ 1 →
    ¬ (s.fld (F.DM_CFG_SRC_SPACE n) = 0 ∧ s.fld (F.DM_CFG_DST_SPACE n) = 1) →
    Completes (.dmaStart n val) s (fun v => v.bit (F.DM_STAT_BUSY n) = true ∧ v.rdN (R.DM_XFER n) = 0 ∧ v.fld (F.DM_STAT_CAUSE n) = 0 ∧
      v.fld (F.DM_CTL_QID n) = val.toNat / 4 % 32 ∧
      v.fld F.DMA_SHARE_SUM = (s.shareSum + s.fld (F.DM_CFG_SHARE_M1 n) + 1) % 2 ^ F.DMA_SHARE_SUM.w ∧
      (s.fld (F.DM_CFG_COMP n) ≠ 0 → v.bit (F.CMP_CC_STAT_BUSY (s.fld (F.DM_CFG_CC n))) = true) ∧
      Frame { (if s.fld (F.DM_CFG_COMP n) = 0 then s.wakeBlock 0x0F else (s.wakeBlock 0x0F).wakeBlock 0x10) with
          lastStatus := 0, dma := s.dma.set n { DmaS.init with tag := (s.dma[n].tag + 1) % 65536 } } v
        ([F.DM_STAT_BUSY n, F.DM_STAT_CAUSE n, whole (R.DM_XFER n), F.DM_CTL_QID n, F.DMA_SHARE_SUM] ++
          if s.fld (F.DM_CFG_COMP n) = 0 then [] else [F.CMP_CC_STAT_BUSY (s.fld (F.DM_CFG_CC n))]))) ∧
  (∀ (n : Fin 32) (host : List Byte) (acc : Word) (s : State), s.bit (F.DM_STAT_BUSY n) = false →
    Completes (.dmaComplete n host) s (fun v => v = s) ∧ Completes (.dmaAbort n acc host) s (fun v => v = { s.wakeBlock 0x0F with lastStatus := 0 }) ∧
    Completes (.completionTimeout n false) s (fun v => v = s) ∧ Completes (.remoteTimeout n) s (fun v => v = s)) ∧
  (∀ (n : Fin 32) (host : List Byte) (acc : Word) (s : State) (st : Nat) (l : Bool), s.bit (F.DM_STAT_BUSY n) = true → s.dma[n].fin = some (st, l) →
    s.fld (F.DM_STAT_CAUSE n) = 0 → Completes (.dmaAbort n acc host) s (fun v => v.bit (F.DM_STAT_ABORT_LATE n) = true ∧
      Frame { s.wakeBlock 0x0F with lastStatus := 0, dma := s.dma.set n { s.dma[n] with fin := some (st, true) } } v [F.DM_STAT_ABORT_LATE n])) ∧
  (∀ (n : Fin 32) (host : List Byte) (s : State), s.bit (F.DM_STAT_BUSY n) = true → s.dma[n].fin = none → s.dma[n].sent = none →
    s.fld (F.DM_CFG_SRC_SPACE n) ≠ 1 → host.length < s.hostNeed n → Completes (.dmaComplete n host) s (fun v => v = s)) ∧
  (∀ (n : Fin 32) (host : List Byte) (s : State), s.bit (F.DM_STAT_BUSY n) = true → s.dma[n].fin = none → s.dma[n].sent = none →
    s.fld (F.DM_CFG_COMP n) = 0 → s.fld (F.DM_CFG_SRC_SPACE n) ≠ 1 → s.hostNeed n ≤ host.length → s.fld (F.DM_CFG_DST_SPACE n) = 0 →
    let bs := s.dmaRead n host
    let r := s.dmaNote n
    bs.any (·.2) = false → s.inDdr (s.dmaDst n) bs.length = true → r.hasRoom (s.fld (F.DM_CTL_QID n)) 16 = true →
    (lineRange (s.dmaDst n) bs.length).all (fun l => !s.poison.contains l) = true →
    Completes (.dmaComplete n host) s (fun v => v.memRead (s.dmaDst n) bs.length = bs.map (·.1) ∧ v.bit (F.DM_STAT_DONE n) = true ∧
      Ended r v n 0 0 bs.length false ∧
      FrameStore { r with dma := v.dma, hq := v.hq, out := v.out } v (s.dmaDst n) bs.length (F.DM_STAT_DONE n :: (endFields s n ++ fwdCounts)))) ∧
  (∀ (n : Fin 32) (host : List Byte) (s : State), s.bit (F.DM_STAT_BUSY n) = true → s.dma[n].fin = none → s.dma[n].sent = none →
    s.fld (F.DM_CFG_COMP n) = 0 → s.fld (F.DM_CFG_SRC_SPACE n) ≠ 1 → s.hostNeed n ≤ host.length → s.fld (F.DM_CFG_DST_SPACE n) = 2 →
    let bs := s.dmaRead n host
    let r := s.dmaNote n
    bs.any (·.2) = false → bs ≠ [] → r.hasRoom (s.fld (F.DM_CTL_QID n)) 16 = true →
    Completes (.dmaComplete n host) s (fun v => Out.hostWrite (s.dmaDst n) (bs.map (·.1)) ∈ v.out ∧ v.bit (F.DM_STAT_DONE n) = true ∧
      Ended r v n 0 0 bs.length false ∧ Frame { r with dma := v.dma, hq := v.hq, out := v.out } v (F.DM_STAT_DONE n :: endFields s n))) ∧
  (∀ (n : Fin 32) (host : List Byte) (s : State), s.bit (F.DM_STAT_BUSY n) = true → s.dma[n].fin = none → s.dma[n].sent = none →
    s.fld (F.DM_CFG_COMP n) = 0 → s.fld (F.DM_CFG_SRC_SPACE n) ≠ 1 → s.hostNeed n ≤ host.length → s.fld (F.DM_CFG_DST_SPACE n) = 0 →
    let bs := s.dmaRead n host
    let r := s.dmaNote n
    bs.any (·.2) = true → s.inDdr (s.dmaDst n) bs.length = true → r.hasRoom (s.fld (F.DM_CTL_QID n)) 16 = true →
    (lineRange (s.dmaDst n) bs.length).all (fun l => !s.poison.contains l) = true →
    Completes (.dmaComplete n host) s (fun v => v.memRead (s.dmaDst n) bs.length = bs.map (·.1) ∧ v.bit (F.DM_STAT_ERR n) = true ∧
      (∀ e ∈ bs.zipIdx, e.1.2 = true → (s.dmaDst n + e.2) / 64 ∈ v.poison) ∧ Ended r v n 0x60 2 bs.length false ∧
      FrameStore { r with dma := v.dma, hq := v.hq, out := v.out, poison := v.poison } v (s.dmaDst n) bs.length
        (F.DM_STAT_ERR n :: (endFields s n ++ fwdCounts)))) ∧
  (∀ (n : Fin 32) (host : List Byte) (acc : Word) (s : State), s.bit (F.DM_STAT_BUSY n) = true → s.dma[n].fin = none →
    s.fld (F.DM_CFG_COMP n) = 0 → s.fld (F.DM_CFG_SRC_SPACE n) ≠ 1 → s.hostNeed n ≤ host.length → s.fld (F.DM_CFG_DST_SPACE n) = 0 →
    let bs := s.dmaRead n host
    let r := (s.wakeBlock 0x0F).dmaNote n
    acc.toNat < bs.length → bs.any (·.2) = false → s.inDdr (s.dmaDst n) acc.toNat = true → r.hasRoom (s.fld (F.DM_CTL_QID n)) 16 = true →
    (lineRange (s.dmaDst n) bs.length).all (fun l => !s.poison.contains l) = true →
    Completes (.dmaAbort n acc host) s (fun v => v.memRead (s.dmaDst n) acc.toNat = (bs.take acc.toNat).map (·.1) ∧
      v.bit (F.DM_STAT_ABORTED n) = true ∧ Ended r v n 0x61 6 acc.toNat false ∧
      FrameStore { r with dma := v.dma, hq := v.hq, out := v.out, lastStatus := 0 } v (s.dmaDst n) acc.toNat
        (F.DM_STAT_ABORTED n :: (endFields s n ++ fwdCounts)))) ∧
  (∀ (n : Fin 32) (host : List Byte) (acc : Word) (s : State), s.bit (F.DM_STAT_BUSY n) = true → s.dma[n].fin = none →
    s.fld (F.DM_CFG_COMP n) = 0 → s.fld (F.DM_CFG_SRC_SPACE n) ≠ 1 → s.hostNeed n ≤ host.length → s.fld (F.DM_CFG_DST_SPACE n) = 0 →
    let bs := s.dmaRead n host
    let r := (s.wakeBlock 0x0F).dmaNote n
    bs.length ≤ acc.toNat → bs.any (·.2) = false → s.inDdr (s.dmaDst n) bs.length = true → r.hasRoom (s.fld (F.DM_CTL_QID n)) 16 = true →
    (lineRange (s.dmaDst n) bs.length).all (fun l => !s.poison.contains l) = true →
    Completes (.dmaAbort n acc host) s (fun v => v.memRead (s.dmaDst n) bs.length = bs.map (·.1) ∧
      v.bit (F.DM_STAT_DONE n) = true ∧ v.bit (F.DM_STAT_ABORT_LATE n) = true ∧ Ended r v n 0 0 bs.length true ∧
      FrameStore { r with dma := v.dma, hq := v.hq, out := v.out, lastStatus := 0 } v (s.dmaDst n) bs.length
        (F.DM_STAT_DONE n :: F.DM_STAT_ABORT_LATE n :: (endFields s n ++ fwdCounts)))) ∧
  (∀ (n : Fin 32) (host : List Byte) (acc : Word) (s : State), s.bit (F.DM_STAT_BUSY n) = true → s.dma[n].fin = none →
    s.fld (F.DM_CFG_SRC_SPACE n) ≠ 1 → host.length < s.hostNeed n → s.fld (F.DM_CFG_DST_SPACE n) ≠ 1 →
    let bs := if s.fld (F.DM_CFG_COMP n) ≠ 0 then [] else host.take (min acc.toNat (s.fld (F.DM_CNT_CNT n)))
    s.hasRoom (s.fld (F.DM_CTL_QID n)) 16 = true → s.fld (F.DM_CFG_DST_SPACE n) = 2 ∨ s.inDdr (s.dmaDst n) bs.length = true →
    (lineRange (s.dmaDst n) bs.length).all (fun l => !s.poison.contains l) = true →
    Completes (.dmaAbort n acc host) s (fun v => v.bit (F.DM_STAT_ABORTED n) = true ∧ Ended s v n 0x61 6 bs.length false ∧
      (bs ≠ [] → if s.fld (F.DM_CFG_DST_SPACE n) = 2 then Out.hostWrite (s.dmaDst n) bs ∈ v.out else v.memRead (s.dmaDst n) bs.length = bs) ∧
      FrameStore { s.wakeBlock 0x0F with dma := v.dma, hq := v.hq, out := v.out, lastStatus := 0 } v (s.dmaDst n)
        (if s.fld (F.DM_CFG_DST_SPACE n) = 2 then 0 else bs.length) (F.DM_STAT_ABORTED n :: (endFields s n ++ fwdCounts)))) ∧
  (∀ (n : Fin 32) (s : State), s.bit (F.DM_STAT_BUSY n) = true → s.dma[n].fin = none →
    let bs := if s.fld (F.DM_CFG_SRC_SPACE n) = 1 ∧ s.fld (F.DM_CFG_COMP n) = 0 then s.dma[n].got else []
    s.hasRoom (s.fld (F.DM_CTL_QID n)) 16 = true → s.fld (F.DM_CFG_DST_SPACE n) ≠ 2 → s.inDdr (s.dmaDst n) bs.length = true →
    bs.any (·.2) = false → (lineRange (s.dmaDst n) bs.length).all (fun l => !s.poison.contains l) = true →
    let Q := fun (st cause : Nat) (v : State) => v.bit (F.DM_STAT_ERR n) = true ∧ Ended s v n st cause bs.length false ∧
      v.memRead (s.dmaDst n) bs.length = bs.map (·.1) ∧
      FrameStore { s with dma := v.dma, hq := v.hq, out := v.out } v (s.dmaDst n) bs.length (F.DM_STAT_ERR n :: (endFields s n ++ fwdCounts))
    (s.fld (F.DM_CFG_SRC_SPACE n) = 1 ∧ s.dma[n].got.length < s.fld (F.DM_CNT_CNT n) ∨ s.dma[n].sent.isSome = true ∧ s.dma[n].ack = false →
      Completes (.remoteTimeout n) s (Q 0x63 5)) ∧
    (s.hostSide n = true → Completes (.completionTimeout n false) s (Q 0x66 3))) ∧
  (∀ (n : Fin 32) (s : State), s.bit (F.DM_STAT_BUSY n) = true → s.dma[n].fin = none → s.fld (F.DM_CFG_SRC_SPACE n) ≠ 1 →
    s.fld (F.DM_CFG_DST_SPACE n) = 2 → s.hasRoom (s.fld (F.DM_CTL_QID n)) 16 = true →
    Completes (.completionTimeout n false) s (fun v => v.bit (F.DM_STAT_ERR n) = true ∧ Ended s v n 0x66 3 0 false ∧
      Frame { s with dma := v.dma, hq := v.hq, out := v.out } v (F.DM_STAT_ERR n :: endFields s n))) ∧
  (∀ (n : Fin 32) (s : State), s.hostSide n = false → Completes (.completionTimeout n false) s (fun v => v = s)) ∧
  (∀ (q : Fin 32) (s : State), s.offers q = false → Completes (.completionTimeout q true) s (fun v => v = s)) ∧
  (∀ (q : Fin 32) (s : State), s.offers q = true → s.hasRoom (s.fld (F.HQ_CFG_CQ q)) 16 = false →
    Completes (.completionTimeout q true) s (fun v => v.bit (F.HQ_STAT_CQ_WAIT q) = true ∧ Frame s v [F.HQ_STAT_CQ_WAIT q])) ∧
  (∀ (q : Fin 32) (s : State), s.offers q = true → s.hasRoom (s.fld (F.HQ_CFG_CQ q)) 16 = true → s.hq.slots[q] = [] →
    s.bit (F.HQ_CFG_EN (32 + s.fld (F.HQ_CFG_CQ q))) = true →
    Completes (.completionTimeout q true) s (fun v => v.bit (F.HQ_STAT_HALT q) = true ∧ v.bit (F.HQ_STAT_CQ_WAIT q) = false ∧
      v.fld (F.HQ_HEAD_OFS q) = s.fld (F.HQ_HEAD_OFS q) ∧
      v.hq.posted = s.hq.posted ++ [(s.fld (F.HQ_CFG_CQ q), .comp { src := q, status := 0x66, flags := 0, tag := 0xFFFF })]))

/-- The host link trains, opens BAR0 and goes down; its resets put the queues out of use; HEAD writes return room (after R30, R289, R354, R355, R357, R359, R472, R473). The model's choice: that a Function Level Reset drops completions still owed, what HQ_PCIE reads with the link down, that training starts again after PERST, and what the cells capture (assumptions 146, 147, 152, 158). -/
def Obligations.HostLinkComesAndGoes : Prop :=
  (∀ (s : State), Completes .functionLevelReset s (fun v => (∀ n : Fin 64, v.bit (F.HQ_CFG_EN n) = false) ∧
      (∀ n : Fin 64, v.rd (R.MSIX_TBL n 3) = 1) ∧ v.hq.slots = Vector.replicate 32 [] ∧ v.hq.bells = [] ∧ v.lastStatus = 0 ∧ FrameMem s v s.spillByte ∧
      FrameRegs s v (fun off => inBlocks [.hostq, .dma, .cmp, .seg, .time, .dmc] off))) ∧
  (∀ (s : State), Completes .perst s (fun v => (∀ n : Fin 64, v.bit (F.HQ_CFG_EN n) = false) ∧
      (∀ n : Fin 64, v.rd (R.MSIX_TBL n 3) = 1) ∧ v.hq.linkUp = false ∧ v.rd R.HQ_PCIE = 0 ∧ v.bit ⟨R.TOP_READY, 2, 1⟩ = false ∧
      v.boot.training = s.scriptEnded ∧ FrameMem s v s.spillByte ∧
      FrameRegs s v (fun off => inBlocks [.hostq, .dma, .cmp, .seg, .time, .dmc] off || off == R.TOP_READY))) ∧
  (∀ (s : State), Completes .pcieTrainStart s (fun v => v = { s with boot := { s.boot with training := true } })) ∧
  (∀ (speed : Fin 6) (width : Fin 17) (bme : Bool) (space : PcieCfg) (s : State), Completes (.pcieLinkUp false speed width bme space) s (fun v =>
      v.rd R.HQ_PCIE = 0 ∧ v.bit ⟨R.TOP_READY, 2, 1⟩ = false ∧
      Frame { s with hq := { s.hq with linkUp := false, pcie := none } } v [whole R.HQ_PCIE, ⟨R.TOP_READY, 2, 1⟩])) ∧
  (∀ (speed : Fin 6) (width : Fin 17) (bme : Bool) (space : PcieCfg) (s : State),
    s.boot.training = false ∨ speed = 0 ∨ width.val ∉ [1, 2, 4, 8, 16] ∨ (width = 16 ∧ s.board.variant = .w0648) →
    Completes (.pcieLinkUp true speed width bme space) s (fun v => v = s)) ∧
  (∀ (speed : Fin 6) (k : Fin 5) (bme : Bool) (space : PcieCfg) (s : State),
    space.msixEn = false ∨ space.msixMask = true ∨ (s.rd (R.MSIX_PBA 0) = 0 ∧ s.rd (R.MSIX_PBA 1) = 0) → s.boot.training = true → speed ≠ 0 → k.val < 4 ∨ s.board.variant = .w1296 →
    Completes (.pcieLinkUp true speed (Fin.ofNat 17 (2 ^ k.val)) bme space) s (fun v => v.fld F.HQ_PCIE_SPEED = speed ∧ v.fld F.HQ_PCIE_WIDTH = 2 ^ k.val ∧
      v.bit F.HQ_PCIE_BME = bme ∧ v.bit ⟨R.TOP_READY, 2, 1⟩ = true ∧
      Frame { s with hq := { s.hq with linkUp := bme, pcie := some space },
                     out := s.out ++ [.pcieIds (if s.board.variant = .w1296 then 0x1296 else 0x0648) 0x0B4000 s.boot.ssvid s.boot.ssid] } v [whole R.HQ_PCIE, ⟨R.TOP_READY, 2, 1⟩])) ∧
  (∀ (q : Fin 32) (head : BitVec 26) (s : State), s.ringSize (32 + q) ≤ head.toNat / 16 * 16 →
    Completes (.queueHeadWrite q head) s (fun v => v = { s with lastStatus := 0 })) ∧
  (∀ (q : Fin 32) (head : BitVec 26) (s0 : State),
    let s := { s0 with dma := s0.dma.map (fun d => { d with fin := none }), seg := { s0.seg with spill := [], dropped := [] } }
    head.toNat / 16 * 16 < s.ringSize (32 + q) →
    Completes (.queueHeadWrite q head) s (fun v => v.fld (F.HQ_HEAD_OFS (32 + q)) = head.toNat / 16 * 16 ∧
      v.bit (F.HQ_STAT_FULL (32 + q)) = (s.bit (F.HQ_CFG_EN (32 + q)) && decide (s.ringSize (32 + q) < v.ringUsed (32 + q) + 32)) ∧
      v.bit F.SEG_STAT_SPILL_ACT = false ∧
      Frame { s with lastStatus := 0 } v [F.HQ_HEAD_OFS (32 + q), F.HQ_STAT_FULL (32 + q), F.SEG_STAT_SPILL_ACT])) ∧
  (∀ (k : Fin 3) (s : State), Completes (.pllLock k) s (fun v => v.flt.plls = s.flt.plls.filter (· != k.val) ∧
      (k = 0 → v.bit ⟨R.TOP_READY, 5, 1⟩ = true ∧ v.bit ⟨R.TOP_READY, 6, 1⟩ = (List.range 4).any (fun n => s.bit (F.ENC_CTL_EN n))) ∧ (k = 2 → v.bit F.TIME_STAT_PLL_LOCK = true ∧ v.bit ⟨R.TOP_READY, 4, 1⟩ = true) ∧
      Frame { s with flt := { s.flt with plls := v.flt.plls } } v
        (if k = 0 then [⟨R.TOP_READY, 5, 2⟩] else if k = 2 then [⟨R.TOP_READY, 4, 1⟩, F.TIME_STAT_PLL_LOCK] else []))) ∧
  (∀ (code : Option (BitVec 6)) (tdi : List Bool) (s : State),
    let j := match code with
      | some c => if c.toNat ∈ [0x00, 0x01, 0x02, 0x04, 0x05] then c.toNat else 0x3F
      | none => 1
    Completes (.jtagInstruction code tdi) s (fun v => v.jtag = j ∧
      (j ≠ 0 → j ≠ 2 → tdi ≠ [] →
        let id : BitVec 32 := if s.board.variant = .w1296 then 0x1129609B else 0x1064809B
        let data := if j = 1 then (List.range 32).map (fun i => id.getLsbD i) else [false]
        v = { s with jtag := j, out := s.out ++ [.tdo ((data ++ tdi).take tdi.length), .scanChain j (if j = 4 then s.scan else [])] }) ∧
      (j = 0 ∨ j = 2 → tdi ≠ [] → let cells := ({ s with jtag := j } : State).captured
        cells.length = scanLength s.board.variant ∧ v.scan = (cells ++ tdi).drop tdi.length ∧
        v = { s with jtag := j, scan := v.scan, freeCtr := v.freeCtr,
                     out := s.out ++ [.tdo ((cells ++ tdi).take tdi.length), .scanChain j (if j = 0 then v.scan else [])] }) ∧
      (tdi = [] → v = { s with jtag := j, out := s.out ++ [.scanChain j (if j = 0 ∨ j = 4 then s.scan else [])] })))

/-- A two-wire port runs the transfer it was told to, ends it with the result the bus gave, and counts what failed (after R378, R381, R382, R383, R384, R385, R386, R391). -/
def Obligations.TwoWireControllers : Prop :=
  (∀ (n : Fin 4) (val : Word) (s : State),
    s.bit (F.TW_STAT_BUSY n) = true ∧ (s.tw[n].clear = false ∨ s.tw[n].op ≠ 0) ∨ 32 < fieldN val.toNat 8 6 ∨ 32 < fieldN val.toNat 16 6 ∨ s.bit (F.TW_CTL_EN n) = false →
    Completes (.twGo n val) s (fun v => v = { s with lastStatus := 0x40 })) ∧
  (∀ (n : Fin 4) (val : Word) (s : State),
    s.bit (F.TW_STAT_BUSY n) = false ∨ s.tw[n].clear = true ∧ s.tw[n].op = 0 → fieldN val.toNat 8 6 ≤ 32 → fieldN val.toNat 16 6 ≤ 32 → s.bit (F.TW_CTL_EN n) = true →
    Completes (.twGo n val) s (fun v => if s.bit (F.TW_STAT_STUCK_SDA n) then v = { s with lastStatus := 0x42 }
      else v.bit (F.TW_STAT_BUSY n) = true ∧ v.rd (R.TW_XFER n) = val &&& 0x073F3F7F ∧
        Frame { s with lastStatus := 0, tw := s.tw.set n { s.tw[n] with op := 1 } } v [F.TW_STAT_BUSY n, whole (R.TW_XFER n)])) ∧
  (∀ (n : Fin 4) (a b : Bool) (k : Fin 34) (rd : List Byte) (s : State),
    s.tw[n].op ≠ 1 ∨ s.tw[n].clear = true ∨ s.bit (F.TW_STAT_STUCK_SDA n) = true → Completes (.twTransferDone n a b k rd) s (fun v => v = s)) ∧
  (∀ (n : Fin 4) (addrAck b : Bool) (acked : Fin 34) (rd : List Byte) (s : State),
    s.tw[n].op = 1 → s.tw[n].clear = false → s.bit (F.TW_STAT_STUCK_SDA n) = false →
    s.fld (F.TW_XFER_RLEN n) = 0 → s.bit (F.TW_XFER_BLOCK n) = false →
    let a := s.fld (F.TW_XFER_ADDR n)
    let w := (List.range (s.fld (F.TW_XFER_WLEN n))).map (s.twByte (R.TW_TXD0 n))
    let out := w ++ if s.bit (F.TW_XFER_PEC n) ∧ w ≠ [] then [BitVec.ofNat 8 (crc8 (BitVec.ofNat 8 (2 * a) :: w))] else []
    let r := if addrAck = false then 1 else if acked.val < out.length then 2 else 0
    let keep := s.bit (F.TW_XFER_NOSTOP n) && r == 0
    let put := if addrAck = false then [] else if acked.val < out.length then out.take (acked.val + 1) else out
    let u := (s.emit (.twStart n (2 * a) s.tw[n].held)).emit (.twData n put)
    Completes (.twTransferDone n addrAck b acked rd) s (fun v => v.fld (F.TW_STAT_RESULT n) = r ∧ v.bit (F.TW_STAT_DONE n) = true ∧
      v.bit (F.TW_STAT_BUSY n) = false ∧ (r = 2 → v.fld (F.TW_STAT_NACK_IDX n) = acked.val % 32) ∧
      (r ≠ 0 → v.fld (F.TW_CNT_ERR_CNT n) = min (s.fld (F.TW_CNT_ERR_CNT n) + 1) (2 ^ (F.TW_CNT_ERR_CNT n).w - 1)) ∧
      Frame { (if keep then u else u.emit (.twStop n)) with tw := s.tw.set n { s.tw[n] with op := 0, losses := 0, held := keep, after := false } } v
        ([F.TW_STAT_RESULT n, F.TW_STAT_DONE n, F.TW_STAT_BUSY n] ++ (if r = 2 then [F.TW_STAT_NACK_IDX n] else []) ++
          if r = 0 then [] else [F.TW_CNT_ERR_CNT n, F.TW_CNT_SAT n]))) ∧
  (∀ (n : Fin 4) (addrAck rdAck : Bool) (acked : Fin 34) (rd : List Byte) (s : State),
    s.tw[n].op = 1 → s.tw[n].clear = false → s.bit (F.TW_STAT_STUCK_SDA n) = false → s.fld (F.TW_XFER_WLEN n) = 0 →
    s.bit (F.TW_XFER_BLOCK n) = false → s.bit (F.TW_XFER_PEC n) = false → s.bit (F.TW_XFER_NOSTOP n) = false →
    let k := s.fld (F.TW_XFER_RLEN n)
    k ≠ 0 → k ≤ 32 →
    let u := (s.emit (.twStart n (2 * s.fld (F.TW_XFER_ADDR n) + 1) s.tw[n].held)).emit (.twStop n)
    Completes (.twTransferDone n addrAck rdAck acked rd) s (fun v => v.fld (F.TW_STAT_RESULT n) = b2n (!rdAck) ∧ v.bit (F.TW_STAT_DONE n) = true ∧
      v.bit (F.TW_STAT_BUSY n) = false ∧ (∀ i : Fin 32, rdAck = true → i < k → v.twByte (R.TW_RXD0 n) i = rd.getD i 0xFF) ∧
      (rdAck = false → v.fld (F.TW_CNT_ERR_CNT n) = min (s.fld (F.TW_CNT_ERR_CNT n) + 1) (2 ^ (F.TW_CNT_ERR_CNT n).w - 1)) ∧
      Frame { u with tw := s.tw.set n { s.tw[n] with op := 0, losses := 0, held := false, after := false } } v
        ([F.TW_STAT_RESULT n, F.TW_STAT_DONE n, F.TW_STAT_BUSY n] ++
          if rdAck then (List.range k).map (fun i => ⟨R.TW_RXD0 n + 4 * (i / 4), 8 * (i % 4), 8⟩) else [F.TW_CNT_ERR_CNT n, F.TW_CNT_SAT n]))) ∧
  (∀ (n : Fin 4) (addrAck : Bool) (acked : Fin 34) (c : Byte) (rd : List Byte) (s : State),
    s.tw[n].op = 1 → s.tw[n].clear = false → s.bit (F.TW_STAT_STUCK_SDA n) = false → s.fld (F.TW_XFER_WLEN n) = 0 →
    s.bit (F.TW_XFER_BLOCK n) = true → s.bit (F.TW_XFER_NOSTOP n) = false → c = 0 ∨ 31 < c.toNat →
    let u := (s.emit (.twStart n (2 * s.fld (F.TW_XFER_ADDR n) + 1) s.tw[n].held)).emit (.twStop n)
    Completes (.twTransferDone n addrAck true acked (c :: rd)) s (fun v => v.fld (F.TW_STAT_RESULT n) = 8 ∧ v.bit (F.TW_STAT_DONE n) = true ∧
      v.bit (F.TW_STAT_BUSY n) = false ∧ v.twByte (R.TW_RXD0 n) 0 = c ∧
      v.fld (F.TW_CNT_ERR_CNT n) = min (s.fld (F.TW_CNT_ERR_CNT n) + 1) (2 ^ (F.TW_CNT_ERR_CNT n).w - 1) ∧
      Frame { u with tw := s.tw.set n { s.tw[n] with op := 0, losses := 0, held := false, after := false } } v
        [F.TW_STAT_RESULT n, F.TW_STAT_DONE n, F.TW_STAT_BUSY n, F.TW_CNT_ERR_CNT n, F.TW_CNT_SAT n, ⟨R.TW_RXD0 n, 0, 8⟩])) ∧
  (∀ (n : Fin 4) (begun : Bool) (s : State), s.tw[n].op = 0 ∨ begun = true → Completes (.twAbort n begun) s (fun v => v = { s with lastStatus := 0 })) ∧
  (∀ (n : Fin 4) (s : State), s.tw[n].op ≠ 0 → let d := if s.tw[n].op = 2 then F.TW_STAT_NOTIFY_DONE n else F.TW_STAT_DONE n
    Completes (.twAbort n false) s (fun v => v.fld (F.TW_STAT_RESULT n) = 7 ∧ v.bit d = true ∧ v.bit (F.TW_STAT_BUSY n) = s.tw[n].clear ∧
      Frame { s.emit (.twStop n) with lastStatus := 0, tw := s.tw.set n { s.tw[n] with op := 0, losses := 0, held := false, after := true } } v
        [F.TW_STAT_RESULT n, d, F.TW_STAT_BUSY n])) ∧
  (∀ (n : Fin 4) (s : State), s.tw[n].clear = true ∨ s.bit (F.TW_STAT_STUCK_SDA n) = true →
    Completes (.busclr n) s (fun v => v = { s with lastStatus := 0 }) ∧ Completes (.busClearAfterTbuf n) s (fun v => v = s)) ∧
  (∀ (n : Fin 4) (s : State), s.tw[n].after = false → Completes (.busClearAfterTbuf n) s (fun v => v = s)) ∧
  (∀ (n : Fin 4) (s : State), s.tw[n].clear = false → s.bit (F.TW_STAT_STUCK_SDA n) = false →
    let started := fun (v : State) (st : BitVec 8) => v.bit (F.TW_STAT_BUSY n) = true ∧
      v.fld (F.TW_CNT_CLR_CNT n) = min (s.fld (F.TW_CNT_CLR_CNT n) + 1) (2 ^ (F.TW_CNT_CLR_CNT n).w - 1) ∧
      Frame { s.emit (.twClear n) with lastStatus := st, tw := s.tw.set n { s.tw[n] with clear := true, after := false } } v
        [F.TW_STAT_BUSY n, F.TW_CNT_CLR_CNT n, F.TW_CNT_SAT n]
    Completes (.busclr n) s (fun v => started v 0) ∧ (s.tw[n].after = true → Completes (.busClearAfterTbuf n) s (fun v => started v s.lastStatus))) ∧
  (∀ (n : Fin 4) (freed : Bool) (s : State), s.tw[n].clear = false → Completes (.busClearDone n freed) s (fun v => v = s)) ∧
  (∀ (n : Fin 4) (s : State), s.tw[n].clear = true →
    Completes (.busClearDone n true) s (fun v => v.bit (F.TW_STAT_BUS_CLEARED n) = true ∧ v.bit (F.TW_STAT_BUSY n) = (s.tw[n].op != 0) ∧
      Frame { s.emit (.twStop n) with tw := s.tw.set n { s.tw[n] with clear := false } } v [F.TW_STAT_BUS_CLEARED n, F.TW_STAT_BUSY n])) ∧
  (∀ (n : Fin 4) (s : State), s.tw[n].clear = true →
    Completes (.busClearDone n false) s (fun v => v.bit (F.TW_STAT_STUCK_SDA n) = true ∧ v.bit (F.TW_STAT_READY n) = false ∧
      v.bit (F.TW_STAT_BUSY n) = (s.tw[n].op != 0) ∧ (s.bit (F.TW_CTL_EN n) = true → v.bit ⟨R.TOP_READY, 1, 1⟩ = false) ∧
      Frame { s with tw := s.tw.set n { s.tw[n] with clear := false } } v
        [F.TW_STAT_STUCK_SDA n, F.TW_STAT_READY n, F.TW_STAT_BUSY n, ⟨R.TOP_READY, 1, 1⟩])) ∧
  (∀ (n : Fin 4) (s : State), Completes (.sclTo n) s (fun v => v.bit (F.TW_STAT_SCL_TO n) = true ∧
      (s.tw[n].op ≠ 0 → v.fld (F.TW_STAT_RESULT n) = 4 ∧ v.bit (F.TW_STAT_BUSY n) = s.tw[n].clear ∧
        v.bit (if s.tw[n].op = 2 then F.TW_STAT_NOTIFY_DONE n else F.TW_STAT_DONE n) = true ∧
        v.fld (F.TW_CNT_ERR_CNT n) = min (s.fld (F.TW_CNT_ERR_CNT n) + 1) (2 ^ (F.TW_CNT_ERR_CNT n).w - 1)) ∧
      Frame { s with tw := s.tw.set n { s.tw[n] with tgt := none, staged := [], after := true, held := false, op := 0, losses := if s.tw[n].op = 0 then s.tw[n].losses else 0 } } v
        (F.TW_STAT_SCL_TO n :: if s.tw[n].op = 0 then [] else
          [F.TW_STAT_RESULT n, F.TW_STAT_BUSY n, if s.tw[n].op = 2 then F.TW_STAT_NOTIFY_DONE n else F.TW_STAT_DONE n, F.TW_CNT_ERR_CNT n, F.TW_CNT_SAT n]))) ∧
  (∀ (n : Fin 4) (began : Bool) (s : State), s.bit (F.TW_CTL_MC n) = true → (s.tw[n].op = 0 ∨ began = false) → s.tw[n].held = false →
    Completes (.sdaTo n began) s (fun v => v.bit (F.TW_STAT_SDA_TO n) = true ∧
      (s.tw[n].op ≠ 0 → v.fld (F.TW_STAT_RESULT n) = 5 ∧ v.bit (F.TW_STAT_BUSY n) = s.tw[n].clear ∧
        v.bit (if s.tw[n].op = 2 then F.TW_STAT_NOTIFY_DONE n else F.TW_STAT_DONE n) = true ∧
        v.fld (F.TW_CNT_ERR_CNT n) = min (s.fld (F.TW_CNT_ERR_CNT n) + 1) (2 ^ (F.TW_CNT_ERR_CNT n).w - 1)) ∧
      Frame { s with tw := s.tw.set n { s.tw[n] with tgt := none, staged := [], op := 0, losses := if s.tw[n].op = 0 then s.tw[n].losses else 0 } } v
        (F.TW_STAT_SDA_TO n :: if s.tw[n].op = 0 then [] else
          [F.TW_STAT_RESULT n, F.TW_STAT_BUSY n, if s.tw[n].op = 2 then F.TW_STAT_NOTIFY_DONE n else F.TW_STAT_DONE n, F.TW_CNT_ERR_CNT n, F.TW_CNT_SAT n]))) ∧
  (∀ (n : Fin 4) (began : Bool) (s : State), s.tw[n].clear = false → s.bit (F.TW_STAT_STUCK_SDA n) = false →
    s.bit (F.TW_CTL_MC n) = false ∨ (s.tw[n].op ≠ 0 ∧ began = true) ∨ s.tw[n].held = true →
    let d := if s.tw[n].op = 2 then F.TW_STAT_NOTIFY_DONE n else F.TW_STAT_DONE n
    Completes (.sdaTo n began) s (fun v => v.bit (F.TW_STAT_SDA_TO n) = true ∧ v.bit (F.TW_STAT_BUSY n) = true ∧
      (s.tw[n].op ≠ 0 → v.fld (F.TW_STAT_RESULT n) = 5 ∧ v.bit d = true ∧
        v.fld (F.TW_CNT_ERR_CNT n) = min (s.fld (F.TW_CNT_ERR_CNT n) + 1) (2 ^ (F.TW_CNT_ERR_CNT n).w - 1)) ∧
      v.fld (F.TW_CNT_CLR_CNT n) = min (s.fld (F.TW_CNT_CLR_CNT n) + 1) (2 ^ (F.TW_CNT_CLR_CNT n).w - 1) ∧
      Frame { s.emit (.twClear n) with tw := s.tw.set n { s.tw[n] with
          tgt := none, staged := [], held := false, op := 0, losses := if s.tw[n].op = 0 then s.tw[n].losses else 0, clear := true, after := false } } v
        ([F.TW_STAT_SDA_TO n, F.TW_STAT_BUSY n, F.TW_CNT_CLR_CNT n, F.TW_CNT_SAT n] ++
          if s.tw[n].op = 0 then [] else [F.TW_STAT_RESULT n, d, F.TW_CNT_ERR_CNT n]))) ∧
  (∀ (n : Fin 4) (addr : BitVec 7) (read : Bool) (bs : List Byte) (count : BitVec 12) (s : State), s.tw[n].op = 0 →
    Completes (.arbLost n addr read bs count) s (fun v => v = s)) ∧
  (∀ (n : Fin 4) (addr : BitVec 7) (read : Bool) (bs : List Byte) (count : BitVec 12) (s : State),
    s.tw[n].op = 1 ∨ (s.tw[n].op = 2 ∧ 8 ≤ s.tw[n].losses) → n ≠ 3 ∨ s.bit F.TW3_TGT_CFG_TGT_EN = false ∨ addr.toNat ≠ s.fld F.TW3_TGT_CFG_TGT_ADDR →
    let d := if s.tw[n].op = 2 then F.TW_STAT_NOTIFY_DONE n else F.TW_STAT_DONE n
    Completes (.arbLost n addr read bs count) s (fun v => v.bit (F.TW_STAT_ARB_LOST n) = true ∧ v.fld (F.TW_STAT_RESULT n) = 3 ∧ v.bit d = true ∧
      v.bit (F.TW_STAT_BUSY n) = s.tw[n].clear ∧
      v.fld (F.TW_CNT_ERR_CNT n) = min (s.fld (F.TW_CNT_ERR_CNT n) + 1) (2 ^ (F.TW_CNT_ERR_CNT n).w - 1) ∧
      Frame { s with tw := s.tw.set n { s.tw[n] with held := false, op := 0, losses := 0 } } v
        [F.TW_STAT_ARB_LOST n, F.TW_STAT_RESULT n, d, F.TW_STAT_BUSY n, F.TW_CNT_ERR_CNT n, F.TW_CNT_SAT n])) ∧
  (∀ (n : Fin 4) (addr : BitVec 7) (read : Bool) (bs : List Byte) (count : BitVec 12) (s : State),
    s.tw[n].op = 2 → s.tw[n].losses < 8 → n ≠ 3 ∨ s.bit F.TW3_TGT_CFG_TGT_EN = false ∨ addr.toNat ≠ s.fld F.TW3_TGT_CFG_TGT_ADDR →
    Completes (.arbLost n addr read bs count) s (fun v => v.bit (F.TW_STAT_ARB_LOST n) = true ∧
      Frame { s with tw := s.tw.set n { s.tw[n] with held := false, losses := s.tw[n].losses + 1 } } v [F.TW_STAT_ARB_LOST n]))

/-- The TW3 target answers its own address alone, keeps its pointer, stages what is written and stores it at the STOP; Host Notify (after R382, R387, R388, R389, R390, R391). The model's choice: what ends a Host Notify and when the target takes a transfer's bytes (assumptions 106, 107). -/
def Obligations.TwoWireTarget : Prop :=
  (∀ (addr : BitVec 7) (read : Bool) (bs : List Byte) (count : BitVec 12) (s : State),
    s.bit F.TW3_TGT_CFG_TGT_EN = false ∨ addr.toNat ≠ s.fld F.TW3_TGT_CFG_TGT_ADDR ∨ s.tw[3].tgt.isSome = true ∨
      s.bit (F.TW_STAT_STUCK_SDA 3) = true →
    Completes (.targetAddressMatch addr read bs count) s (fun v => v = s)) ∧
  (∀ (bs : List Byte) (count : BitVec 12) (s : State), s.bit F.TW3_TGT_CFG_TGT_EN = true → s.tw[3].tgt = none → s.bit (F.TW_STAT_STUCK_SDA 3) = false →
    let p := s.tw[3].ptr
    let file := leBytes 4 (s.rdN R.TOP_ID) ++ leBytes 4 (s.rdN R.TOP_READY) ++ leBytes 4 s.faultSum ++
      (List.range 244).map (fun i => s.twByte (R.TW3_FILE 0) (i + 12))
    Completes (.targetAddressMatch (BitVec.ofNat 7 (s.fld F.TW3_TGT_CFG_TGT_ADDR)) true bs count) s (fun v =>
      v = { s.emit (.twData 3 ((List.range count.toNat).map (fun i => file.getD ((p + i) % 256) 0))) with
              tw := s.tw.set 3 { s.tw[3] with tgt := some true, snap := file, ptr := (p + count.toNat) % 256 } })) ∧
  (∀ (p : Byte) (ds : List Byte) (count : BitVec 12) (s : State), s.bit F.TW3_TGT_CFG_TGT_EN = true → s.tw[3].tgt = none → s.bit (F.TW_STAT_STUCK_SDA 3) = false →
    let es := ds.zipIdx.map (fun e => ((p.toNat + e.2) % 256, e.1))
    let lost := (es.filter (fun e => e.1 < 0x80)).length
    Completes (.targetAddressMatch (BitVec.ofNat 7 (s.fld F.TW3_TGT_CFG_TGT_ADDR)) false (p :: ds) count) s (fun v =>
      v.fld F.TW3_TGT_CNT_DISC_CNT = min (s.fld F.TW3_TGT_CNT_DISC_CNT + lost) (2 ^ F.TW3_TGT_CNT_DISC_CNT.w - 1) ∧
      Frame { s with tw := s.tw.set 3 { s.tw[3] with tgt := some false, ptr := (p.toNat + ds.length) % 256, staged := s.tw[3].staged ++ es.filter (fun e => 0x80 ≤ e.1) } } v
        (if lost = 0 then [] else [F.TW3_TGT_CNT_DISC_CNT, F.TW3_TGT_CNT_SAT]))) ∧
  (∀ (stop : Bool) (s : State), s.tw[3].tgt = none → Completes .targetStop s (fun v => v = s) ∧ Completes (.srInAck stop) s (fun v => v = s)) ∧
  (∀ (k : Bool) (es : List (Byte × Byte)) (s0 : State),
    let staged := es.map (fun e => (e.1.toNat, e.2))
    let s := { s0 with tw := s0.tw.set 3 { s0.tw[3] with tgt := some k, staged := staged } }
    Completes .targetStop s (fun v => (staged ≠ [] → v.bit (F.TW_STAT_TGT_WR 3) = true) ∧
      (∀ a : Fin 256, v.twByte (R.TW3_FILE 0) a = ((staged.reverse.find? (fun e => e.1 == a.val)).map (·.2)).getD (s.twByte (R.TW3_FILE 0) a)) ∧
      Frame { s with tw := s.tw.set 3 { s.tw[3] with tgt := none, staged := [] } } v
        ((if staged = [] then [] else [F.TW_STAT_TGT_WR 3]) ++ staged.map (fun e => ⟨R.TW3_FILE (e.1 / 4), 8 * (e.1 % 4), 8⟩)))) ∧
  (∀ (k stop : Bool) (es : List (Byte × Byte)) (s0 : State),
    let staged := es.map (fun e => (e.1.toNat, e.2))
    let s := { s0 with tw := s0.tw.set 3 { s0.tw[3] with tgt := some k, staged := staged } }
    Completes (.srInAck stop) s (fun v =>
      v.fld F.TW3_TGT_CNT_DISC_CNT = min (s.fld F.TW3_TGT_CNT_DISC_CNT + 1) (2 ^ F.TW3_TGT_CNT_DISC_CNT.w - 1) ∧
      (stop = false → v.bit (F.TW_STAT_SR_IN_ACK 3) = true ∧
        v.fld F.TW3_TGT_CNT_SR_CNT = min (s.fld F.TW3_TGT_CNT_SR_CNT + 1) (2 ^ F.TW3_TGT_CNT_SR_CNT.w - 1)) ∧
      (∀ a : Fin 256, v.twByte (R.TW3_FILE 0) a = ((staged.reverse.find? (fun e => e.1 == a.val)).map (·.2)).getD (s.twByte (R.TW3_FILE 0) a)) ∧
      Frame { s with tw := s.tw.set 3 { s.tw[3] with tgt := none, staged := [] } } v
        ([F.TW3_TGT_CNT_DISC_CNT, F.TW3_TGT_CNT_SAT] ++ (if stop then [] else [F.TW3_TGT_CNT_SR_CNT, F.TW_STAT_SR_IN_ACK 3]) ++
          (if staged = [] then [] else [F.TW_STAT_TGT_WR 3]) ++ staged.map (fun e => ⟨R.TW3_FILE (e.1 / 4), 8 * (e.1 % 4), 8⟩)))) ∧
  (∀ (read : Bool) (ptr : Byte) (count : BitVec 12) (s : State),
    s.tw[3].op = 1 → s.bit (F.TW_CTL_MC 3) = true → s.bit F.TW3_TGT_CFG_TGT_EN = true → s.tw[3].tgt = none →
    Completes (.arbLost 3 (BitVec.ofNat 7 (s.fld F.TW3_TGT_CFG_TGT_ADDR)) read [ptr] count) s (fun v => v.bit (F.TW_STAT_ARB_LOST 3) = true ∧
      v.fld (F.TW_STAT_RESULT 3) = 3 ∧ v.bit (F.TW_STAT_DONE 3) = true ∧ v.tw[3].tgt = some read ∧
      v.tw[3].ptr = (if read then (s.tw[3].ptr + count.toNat) % 256 else ptr.toNat) ∧
      Frame { s with tw := v.tw, out := v.out } v
        [F.TW_STAT_ARB_LOST 3, F.TW_STAT_RESULT 3, F.TW_STAT_DONE 3, F.TW_STAT_BUSY 3, F.TW_CNT_ERR_CNT 3, F.TW_CNT_SAT 3])) ∧
  (∀ (data : BitVec 16) (s : State), Completes (.hostNotify data) s (fun v => if s.bit (F.TW_STAT_BUSY 3) then v = { s with lastStatus := 0x40 }
      else v.bit (F.TW_STAT_BUSY 3) = true ∧ v.rd R.TW3_NOTIFY = data.zeroExtend 32 ∧
        Frame { s with lastStatus := 0, tw := s.tw.set 3 { s.tw[3] with op := 2, losses := 0 } } v [F.TW_STAT_BUSY 3, whole R.TW3_NOTIFY])) ∧
  (∀ (ack : Bool) (acked : Fin 4) (s : State), s.tw[3].op ≠ 2 ∨ s.tw[3].clear = true ∨ s.bit (F.TW_STAT_STUCK_SDA 3) = true →
    Completes (.notifyDone ack acked) s (fun v => v = s)) ∧
  (∀ (ack : Bool) (acked : Fin 4) (s : State), s.tw[3].op = 2 → s.tw[3].clear = false → s.bit (F.TW_STAT_STUCK_SDA 3) = false →
    let r := if ack = false then 1 else if acked < 3 then 2 else 0
    let bytes := leBytes 1 (2 * s.fld F.TW3_TGT_CFG_TGT_ADDR) ++ leBytes 2 (s.fld F.TW3_NOTIFY_DATA)
    let put := if ack = false then [] else bytes.take (acked + 1)
    let u := ((s.emit (.twStart 3 (2 * s.fld F.TW3_TGT_CFG_NOTIFY_ADDR) s.tw[3].held)).emit (.twData 3 put)).emit (.twStop 3)
    Completes (.notifyDone ack acked) s (fun v => v.fld (F.TW_STAT_RESULT 3) = r ∧ v.bit (F.TW_STAT_NOTIFY_DONE 3) = true ∧
      v.bit (F.TW_STAT_BUSY 3) = false ∧ (r = 2 → v.fld (F.TW_STAT_NACK_IDX 3) = acked) ∧
      (r ≠ 0 → v.fld (F.TW_CNT_ERR_CNT 3) = min (s.fld (F.TW_CNT_ERR_CNT 3) + 1) (2 ^ (F.TW_CNT_ERR_CNT 3).w - 1)) ∧
      Frame { u with tw := s.tw.set 3 { s.tw[3] with op := 0, losses := 0, held := false, after := false } } v
        ([F.TW_STAT_RESULT 3, F.TW_STAT_NOTIFY_DONE 3, F.TW_STAT_BUSY 3] ++ (if r = 2 then [F.TW_STAT_NACK_IDX 3] else []) ++
          if r = 0 then [] else [F.TW_CNT_ERR_CNT 3, F.TW_CNT_SAT 3])))

/-- A power state is entered only where the rules allow it, by command on the large part and block by block on the small one (after R395, R396, R397, R398, R399, R401, R402, R403, R404, R405). The model's choice: when GATED is shown of a region in Summer, and which contents of a region a retention mask keeps (assumptions 108, 109). -/
def Obligations.PowerStatesAreEntered : Prop :=
  (∀ (m : BitVec 8) (s : State),
    (s.bit F.PWR_STAT_BUSY = true ∨ s.evtNow < s.pwr.hold ∨ s.fld F.PWR_STAT_STATE = 0 → Completes (.pwrSummer m) s (fun v => v = { s with lastStatus := 0x40 })) ∧
    (s.bit F.PWR_STAT_BUSY = true ∨ s.evtNow < s.pwr.hold ∨ s.fld F.PWR_STAT_STATE = 1 → Completes (.pwrAutumn m) s (fun v => v = { s with lastStatus := 0x40 })) ∧
    (s.bit F.PWR_STAT_BUSY = true ∨ s.evtNow < s.pwr.hold ∨ s.fld F.PWR_STAT_STATE = 2 ∨ s.bit F.CFG_STAT_PIPE_STOPPED = false ∨ s.bit F.PWR_RESTORE_HI_EN = false →
      Completes .pwrWinter s (fun v => v = { s with lastStatus := 0x40 }))) ∧
  (∀ (m : BitVec 8) (s : State), s.bit F.PWR_STAT_BUSY = false → s.pwr.hold ≤ s.evtNow → s.fld F.PWR_STAT_STATE = 0 →
    Completes (.pwrAutumn m) s (fun v => v.fld F.PWR_STAT_STATE = 1 ∧ v.fld F.PWR_CMD_STATE = 1 ∧
      Frame { s with lastStatus := 0 } v [F.PWR_STAT_STATE, F.PWR_CMD_STATE])) ∧
  (∀ (m : BitVec 8) (s : State), s.bit F.PWR_STAT_BUSY = false → s.pwr.hold ≤ s.evtNow → s.fld F.PWR_STAT_STATE = 1 →
    Completes (.pwrSummer m) s (fun v => v.fld F.PWR_STAT_STATE = 0 ∧ v.fld F.PWR_CMD_STATE = 0 ∧
      (∀ b : Fin 32, s.gateables.contains b.val = true → v.bit (F.PWR_CLASS_GATED b) = (decide (0x18 ≤ b.val) && s.regionEmpty (b - 0x18))) ∧
      Frame { s with lastStatus := 0 } v (F.PWR_STAT_STATE :: F.PWR_CMD_STATE :: s.gateables.map F.PWR_CLASS_GATED))) ∧
  (∀ (s : State), s.bit F.PWR_STAT_BUSY = false → s.pwr.hold ≤ s.evtNow → s.fld F.PWR_STAT_STATE < 2 → s.bit F.CFG_STAT_PIPE_STOPPED = true →
    s.bit F.PWR_RESTORE_HI_EN = true → s.board.variant = .w1296 → ∀ b : Nat, s.gateables.find? (fun b => !s.blockIdle b) = some b →
    Completes .pwrWinter s (fun v => v.fld F.PWR_REFUSE_BLOCK = b ∧ v.fld F.PWR_REFUSE_CODE = 1 ∧ v.fld F.PWR_REFUSE_HOLDOFF = 0 ∧
      Frame { s with lastStatus := 0x40 } v [F.PWR_REFUSE_BLOCK, F.PWR_REFUSE_CODE, F.PWR_REFUSE_HOLDOFF])) ∧
  (∀ (s : State), s.bit F.PWR_STAT_BUSY = false → s.pwr.hold ≤ s.evtNow → s.fld F.PWR_STAT_STATE < 2 → s.bit F.CFG_STAT_PIPE_STOPPED = true →
    s.bit F.PWR_RESTORE_HI_EN = true → s.board.variant = .w1296 → s.gateables.all s.blockIdle = true →
    Completes .pwrWinter s (fun v => v.fld F.PWR_STAT_STATE = 2 ∧ v.fld F.PWR_CMD_STATE = 2 ∧ v.pwr.powered = [] ∧
      (∀ b : Fin 32, s.gateables.contains b.val = true → v.bit (F.PWR_CLASS_GATED b) = true) ∧
      (∀ d : Fin 12, v.bit ⟨R.TOP_READY, 20 + d, 1⟩ = false) ∧ v.bit F.DMC_INSTALLED_VALID = false ∧
      (∀ i : Fin 96, s.has .lane i = true → v.lst i = if s.lst i = lsRetired ∨ s.lst i = lsTest then s.lst i else lsOff) ∧
      (s.bit F.PWR_CTL_WINTER_NET = true → ∀ i : Fin 18, v.rd (R.LANE_STAT (96 + i)) = s.rd (R.LANE_STAT (96 + i))) ∧
      (∀ n : Fin 8, (∀ use : Fin 4, s.retains n use = true) → v.vg.regions[n] = s.vg.regions[n]) ∧ v.vg.lines = s.vg.lines ∧
      FrameMem s v s.spillByte ∧ v.lastStatus = 0 ∧
      FrameRegs s v (fun off => inBlocks [.pwr, .lane, .nim, .cal, .dmc, .hostq, .seg, .time, .top] off))) ∧
  (∀ (s : State), s.bit F.PWR_STAT_BUSY = false → s.pwr.hold ≤ s.evtNow → s.fld F.PWR_STAT_STATE < 2 → s.bit F.CFG_STAT_PIPE_STOPPED = true →
    s.bit F.PWR_RESTORE_HI_EN = true → s.board.variant = .w0648 →
    Completes .pwrWinter s (fun v => v.bit F.PWR_STAT_BUSY = true ∧ v.fld F.PWR_CMD_STATE = 2 ∧
      Frame { s with lastStatus := 0, pwr := { s.pwr with asking := true, delays := 0, retry := false, stopped := [], rolling := false } } v
        [F.PWR_STAT_BUSY, F.PWR_CMD_STATE])) ∧
  (∀ (m : BitVec 8) (s : State), s.bit F.PWR_STAT_BUSY = false → s.pwr.hold ≤ s.evtNow → s.fld F.PWR_STAT_STATE = 2 →
    Completes (.pwrSummer m) s (fun v => v.bit F.PWR_STAT_BUSY = true ∧ v.fld F.PWR_STAT_STATE = 2 ∧ v.pwr.leaving = some 0 ∧
      v.pwr.dies = (List.range 4).filter (fun d => s.has .die d) ∧ v.pwr.powered = s.pwr.powered ∧ FrameMem s v s.spillByte ∧ v.lastStatus = 0 ∧
      FrameRegs s v (fun off => inBlocks [.pwr, .lane, .nim, .dmc, .hostq, .seg, .time, .top, .tw, .flt] off))) ∧
  (∀ (a : Fin 3) (c : Fin 4) (s : State), s.pwr.asking = false ∨ s.pwr.retry = true → Completes (.blockAnswer a c) s (fun v => v = s)) ∧
  (∀ (c : Fin 4) (s : State), s.pwr.asking = true → s.pwr.retry = false → s.pwr.delays < 16 → s.toAsk ≠ [] →
    Completes (.blockAnswer 1 c) s (fun v => v = { s with pwr := { s.pwr with delays := s.pwr.delays + 1, retry := true } })) ∧
  (∀ (c : Fin 4) (s : State), s.pwr.asking = true → s.pwr.retry = false → ∀ (b : Nat), s.toAsk.head? = some b → s.toAsk.length ≠ 1 →
    Completes (.blockAnswer 0 c) s (fun v => v.bit (F.PWR_CLASS_GATED b) = true ∧
      Frame { s with pwr := { s.pwr with stopped := b :: s.pwr.stopped, delays := 0 } } v [F.PWR_CLASS_GATED b])) ∧
  (∀ (c : Fin 4) (s : State), s.pwr.asking = true → s.pwr.retry = false → s.pwr.held = [] → ∀ (b : Nat), s.toAsk.head? = some b → s.toAsk.length = 1 →
    Completes (.blockAnswer 0 c) s (fun v => v.fld F.PWR_STAT_STATE = 2 ∧ v.bit F.PWR_STAT_BUSY = false ∧ v.pwr.powered = [] ∧ v.pwr.asking = false ∧
      (∀ b : Fin 32, s.gateables.contains b.val = true → v.bit (F.PWR_CLASS_GATED b) = true) ∧ FrameMem s v s.spillByte)) ∧
  (∀ (a : Fin 3) (c : Fin 4) (x : Nat) (s0 : State), let s := { s0 with pwr := { s0.pwr with stopped := x :: s0.pwr.stopped } }
    s.pwr.asking = true → s.pwr.retry = false → ∀ (b : Nat), s.toAsk.head? = some b → a = 2 ∨ (a = 1 ∧ 16 ≤ s.pwr.delays) →
    let code := if a = 2 then max 1 c.val else 0xF
    Completes (.blockAnswer a c) s (fun v => v = { s with pwr := { s.pwr with rolling := true, asking := false, retry := false, refusal := (b, code, holdOff b code) } })) ∧
  (∀ (c : Fin 4) (s0 : State), let s := { s0 with pwr := { s0.pwr with stopped := [], held := [] } }
    s.pwr.asking = true → s.pwr.retry = false → ∀ (b : Nat), s.toAsk.head? = some b →
    let h := holdOff b (max 1 c.val)
    Completes (.blockAnswer 2 c) s (fun v => v.bit F.PWR_STAT_ABORTED = true ∧ v.bit F.PWR_STAT_BUSY = false ∧ v.fld F.PWR_REFUSE_BLOCK = b ∧
      v.fld F.PWR_REFUSE_CODE = max 1 c.val ∧ v.fld F.PWR_REFUSE_HOLDOFF = h ∧ v.pwr.hold = s.evtNow + 800 * h ∧ FrameMem s v s.spillByte ∧
      v.fld F.PWR_STAT_STATE = s.fld F.PWR_STAT_STATE ∧
      FrameRegs s v (fun off => off == R.PWR_STAT || off == R.PWR_REFUSE || inBlocks [.hostq, .seg, .time] off))) ∧
  (∀ (s : State), Completes .delayRetry s (fun v => v = if s.pwr.asking then { s with pwr := { s.pwr with retry := false } } else s)) ∧
  (∀ (b : Fin 32) (rest : List Nat) (s0 : State), let s := { s0 with pwr := { s0.pwr with rolling := true, stopped := b :: rest } }
    rest ≠ [] → Completes (.blockWakeDone b) s (fun v => v.bit (F.PWR_CLASS_GATED b) = false ∧
      Frame { s with pwr := { s.pwr with stopped := rest } } v [F.PWR_CLASS_GATED b])) ∧
  (∀ (b : Fin 32) (s : State), s.pwr.rolling = true → s.pwr.stopped.head? ≠ some b.val → Completes (.blockWakeDone b) s (fun v => v = s)) ∧
  (∀ (b : Fin 32) (s : State), s.pwr.rolling = false →
    Completes (.blockWakeDone b) s (fun v =>
      if (s.fld F.PWR_STAT_STATE = 2 ∧ 0x18 ≤ b.val) ∨ s.gateables.contains b.val = false then v = s
      else v.bit (F.PWR_CLASS_GATED b) = false ∧ Frame s v [F.PWR_CLASS_GATED b])) ∧
  (∀ (b : Fin 32) (s : State), Completes (.blockGate b) s (fun v =>
      if s.gateables.contains b.val = true ∧ ((s.fld F.PWR_STAT_STATE = 1 ∧ (s.fld (F.PWR_CLASS_CLASS b) = 1 ∨ s.fld (F.PWR_CLASS_CLASS b) = 2) ∧ s.blockIdle b = true) ∨
        (s.fld F.PWR_STAT_STATE = 0 ∧ 0x18 ≤ b.val ∧ s.regionEmpty (b - 0x18) = true))
      then v.bit (F.PWR_CLASS_GATED b) = true ∧ Frame s v [F.PWR_CLASS_GATED b] else v = s)) ∧
  (∀ (s : State), s.bit F.PWR_STAT_WAKING = false → Completes .tableWakeStep s (fun v => v = s)) ∧
  (∀ (s : State), s.bit F.PWR_STAT_WAKING = true → ∀ (b : Nat), s.wakeTable.head? = some b →
    Completes .tableWakeStep s (fun v => v.bit (F.PWR_CLASS_GATED b) = false ∧ v.bit F.PWR_STAT_WAKING = !v.wakeTable.isEmpty ∧
      v.cfg.trigDis = (if v.wakeTable = [] ∧ s.bit F.CFG_CTL_RUN = true then false else s.cfg.trigDis) ∧
      Frame { s with cfg := { s.cfg with trigDis := v.cfg.trigDis } } v [F.PWR_CLASS_GATED b, F.PWR_STAT_WAKING]))

/-- A die's clock rises only after its voltage is confirmed; a failed voltage leaves the die where the rules say (after R392, R401, R406, R408, R409, R410, R411, R459). The model's choice: the layout of the restore image that is checked (assumption 110). -/
def Obligations.OperatingPointsFollowVoltages : Prop :=
  (∀ (d : Fin 4) (x : BitVec 3) (s : State), s.has .die d = false → Completes (.dvfsTargetWrite d x) s (fun v => v = s) ∧ Completes (.dieRailUp d) s (fun v => v = s)) ∧
  (∀ (d : Fin 4) (x : BitVec 3) (s : State), s.has .die d = true → s.bit F.PWR_STAT_BUSY = true →
    Completes (.dvfsTargetWrite d x) s (fun v => v = { s with lastStatus := 0, pwr := { s.pwr with held := s.pwr.held ++ [.target d x.toNat] } })) ∧
  (∀ (d : Fin 4) (x : BitVec 3) (s : State), s.has .die d = true → s.bit F.PWR_STAT_BUSY = false → ∀ (m : Move), s.moveOf d = some m →
    Completes (.dvfsTargetWrite d x) s (fun v => v.fld (F.PWR_DVFS_TARGET d) = x.toNat ∧
      v.pwr.moves = s.pwr.moves.filter (fun y => y.die != d.val) ++ [{ m with again := true }] ∧
      Frame { s with lastStatus := 0, pwr := { s.pwr with moves := v.pwr.moves } } v [F.PWR_DVFS_TARGET d])) ∧
  (∀ (d : Fin 4) (x : BitVec 3) (s : State), s.has .die d = true → s.bit F.PWR_STAT_BUSY = false → s.moveOf d = none →
    let t := min (max x.toNat (s.fld (F.PWR_DVFS_FLOOR d))) (s.fld (F.PWR_DVFS_OP_MAX d))
    s.pwr.powered.contains d.val = false ∨ t = s.fld (F.PWR_DVFS_CUR d) →
    Completes (.dvfsTargetWrite d x) s (fun v => v.fld (F.PWR_DVFS_TARGET d) = x.toNat ∧ Frame { s with lastStatus := 0 } v [F.PWR_DVFS_TARGET d])) ∧
  (∀ (d : Fin 4) (x : BitVec 3) (s : State), s.has .die d = true → s.bit F.PWR_STAT_BUSY = false → s.moveOf d = none → s.pwr.powered.contains d.val = true →
    let t := min (max x.toNat (s.fld (F.PWR_DVFS_FLOOR d))) (s.fld (F.PWR_DVFS_OP_MAX d))
    t < s.fld (F.PWR_DVFS_CUR d) ∨ (t ≠ s.fld (F.PWR_DVFS_CUR d) ∧ s.bit (F.TW0_PMB_EN d) = false) →
    Completes (.dvfsTargetWrite d x) s (fun v => v.fld (F.PWR_DVFS_TARGET d) = x.toNat ∧ v.bit (F.PWR_DVFS_MOVING d) = true ∧
      v.moveOf d = some { die := d, goal := t, phase := 1, again := false } ∧
      Frame { s with lastStatus := 0, pwr := { s.pwr with moves := v.pwr.moves } } v [F.PWR_DVFS_TARGET d, F.PWR_DVFS_MOVING d])) ∧
  (∀ (d : Fin 4) (x : BitVec 3) (s : State), s.has .die d = true → s.bit F.PWR_STAT_BUSY = false → s.moveOf d = none → s.pwr.powered.contains d.val = true →
    let t := min (max x.toNat (s.fld (F.PWR_DVFS_FLOOR d))) (s.fld (F.PWR_DVFS_OP_MAX d))
    s.fld (F.PWR_DVFS_CUR d) < t → s.bit (F.TW0_PMB_EN d) = true → s.pwr.volts = [] → s.pmbFree = true → s.fld (F.TW0_PMB_PAGE d) = 0xFF → s.bit (F.TW0_PMB_PEC d) = false →
    let cmd := voutWord (opMv t) (s.sfld (F.TW0_PMB_EXP d)) % 65536
    let u := ((s.emit (.twStart 0 (2 * s.fld (F.TW0_PMB_ADDR d)) false)).emit (.twData 0 ((0x21 : Byte) :: leBytes 2 cmd))).emit (.twStop 0)
    Completes (.dvfsTargetWrite d x) s (fun v => v.fld (F.PWR_DVFS_TARGET d) = x.toNat ∧ v.bit (F.PWR_DVFS_MOVING d) = true ∧
      v.moveOf d = some { die := d, goal := t, phase := 0, again := false } ∧ v.pwr.volts = [(d.val, opMv t)] ∧ v.pwr.inRange = false ∧ v.pwr.wrote = true ∧
      v.bit F.TW0_PMB_STAT_BUSY = true ∧ v.fld F.TW0_PMB_STAT_DIE = d ∧
      Frame { u with lastStatus := 0, pwr := { s.pwr with moves := v.pwr.moves, volts := v.pwr.volts, inRange := false, wrote := true } } v
        [F.PWR_DVFS_TARGET d, F.PWR_DVFS_MOVING d, F.TW0_PMB_STAT_BUSY, F.TW0_PMB_STAT_DIE])) ∧
  (∀ (d : Fin 4) (s : State), (∀ m : Move, s.moveOf d = some m → m.phase ≠ 1) → Completes (.dvfsFreqSwitch d) s (fun v => v = s)) ∧
  (∀ (d : Fin 4) (s : State), ∀ m : Move, s.moveOf d = some m → m.phase = 1 → m.goal < s.fld (F.PWR_DVFS_CUR d) → s.bit (F.TW0_PMB_EN d) = true →
    s.pwr.volts ≠ [] → Completes (.dvfsFreqSwitch d) s (fun v => v.fld (F.PWR_DVFS_CUR d) = s.fld (F.PWR_DVFS_CUR d) ∧
      v = { s with pwr := { s.pwr with moves := s.pwr.moves.filter (fun y => y.die != d.val) ++ [{ m with phase := 2 }], volts := s.pwr.volts ++ [(d.val, opMv m.goal)] } })) ∧
  (∀ (d : Fin 4) (s : State), ∀ m : Move, s.moveOf d = some m → m.phase = 1 → m.goal = s.dvfsGoal d → s.fld (F.PWR_DVFS_FLOOR d) ≤ m.goal →
    (∀ n : Fin 8, s.bit ⟨R.TOP_READY, 24 + n, 1⟩ = true → s.vgUp n = true) →
    s.pwr.powered.contains d.val = true → s.fld (F.PWR_DVFS_CUR d) ≤ m.goal ∨ s.bit (F.TW0_PMB_EN d) = false →
    Completes (.dvfsFreqSwitch d) s (fun v => v.fld (F.PWR_DVFS_CUR d) = m.goal ∧ v.bit (F.PWR_DVFS_MOVING d) = false ∧ v.moveOf d = none ∧
      v.bit ⟨R.TOP_READY, 20 + d, 1⟩ = true ∧ (∀ n : Fin 8, v.bit ⟨R.TOP_READY, 24 + n, 1⟩ = v.vgUp n) ∧
      Frame { s with pwr := { s.pwr with moves := s.pwr.moves.filter (fun y => y.die != d.val) } } v
        [F.PWR_DVFS_CUR d, F.PWR_DVFS_MOVING d, ⟨R.TOP_READY, 20 + d, 1⟩, ⟨R.TOP_READY, 7, 1⟩, ⟨R.TOP_READY, 24, 8⟩])) ∧
  (∀ (x : BitVec 16) (ok : Bool) (s : State), s.pwr.volts = [] → Completes (.pmbusPoll x ok) s (fun v => v = s) ∧
    Completes .pmbusTimeout s (fun v => v = s) ∧ Completes (.pmbusSetDone x ok) s (fun v => v = s)) ∧
  (∀ (x : BitVec 16) (ok : Bool) (s : State), s.pwr.wrote = false ∨ s.pmbFree = false ∨ (s.pwr.inRange = false ∧ ok = true) → Completes (.pmbusSetDone x ok) s (fun v => v = s)) ∧
  (∀ (x : BitVec 16) (d mv : Nat) (rest : List (Nat × Nat)) (s0 : State), let s := { s0 with pwr := { s0.pwr with volts := (d, mv) :: rest } }
    s.pmbFree = false ∨ s.pwr.inRange = true → Completes (.pmbusPoll x true) s (fun v => v = s)) ∧
  (∀ (x : BitVec 16) (d mv : Nat) (rest : List (Nat × Nat)) (s0 : State), let s := { s0 with pwr := { s0.pwr with volts := (d, mv) :: rest, inRange := false, wrote := true } }
    s.pmbFree = true →
    let a := 2 * s.fld (F.TW0_PMB_ADDR d)
    let u := (((s.emit (.twStart 0 a false)).emit (.twData 0 [0x8B])).emit (.twStart 0 (a + 1) true)).emit (.twStop 0)
    Completes (.pmbusPoll x true) s (fun v =>
      v = if voutNear x.toNat (voutWord mv (s.sfld (F.TW0_PMB_EXP d)) % 65536) (s.sfld (F.TW0_PMB_EXP d)) (s.fld F.TW0_PMB_CFG_VTOL)
        then { u with pwr := { s.pwr with inRange := true } } else u)) ∧
  (∀ (x : BitVec 16) (d : Fin 4) (m : Move) (s0 : State),
    let s := { s0 with pwr := { s0.pwr with leaving := none, inRange := true, wrote := true, volts := [(d.val, opMv m.goal)], moves := [{ m with die := d, phase := 0 }] } }
    s.pmbFree = true → fieldN x.toNat 1 6 = 0 →
    let a := 2 * s.fld (F.TW0_PMB_ADDR d)
    let u := (((s.emit (.twStart 0 a false)).emit (.twData 0 [0x79])).emit (.twStart 0 (a + 1) true)).emit (.twStop 0)
    Completes (.pmbusSetDone x true) s (fun v => v.bit F.TW0_PMB_STAT_BUSY = false ∧
      Frame { u with pwr := { s.pwr with inRange := false, volts := [], moves := [{ m with die := d, phase := 1 }] } } v [F.TW0_PMB_STAT_BUSY])) ∧
  (∀ (x : BitVec 16) (g : Bool) (d : Fin 4) (m : Move) (s0 : State),
    let s := { s0 with pwr := { s0.pwr with leaving := none, inRange := g, wrote := true, volts := [(d.val, opMv m.goal)], moves := [{ m with die := d, phase := 0 }] } }
    let failed := fun (v : State) => v.bit F.TW0_PMB_STAT_FAIL = true ∧ v.bit F.PWR_STAT_DVFS_FAIL = true ∧
      v.rd (R.PWR_DVFS d) = s.rd (R.PWR_DVFS d) ∧ v.pwr.volts = [(d.val, opMv (s.fld (F.PWR_DVFS_CUR d)))] ∧ v.pwr.moves = [{ m with die := d, phase := 3 }] ∧
      FrameMem s v s.spillByte ∧ FrameRegs s v (fun off => off == R.PWR_STAT || off == R.TW0_PMB_STAT || inBlocks [.hostq, .seg, .time] off)
    s.pmbFree = true → (g = false → Completes (.pmbusPoll x false) s failed) ∧ Completes .pmbusTimeout s failed ∧ Completes (.pmbusSetDone x false) s failed ∧
      (g = true → fieldN x.toNat 1 6 ≠ 0 → Completes (.pmbusSetDone x true) s failed)) ∧
  (∀ (d : Fin 4) (s : State), s.pwr.powered.contains d.val = true ∨ s.fld F.PWR_STAT_STATE = 2 → Completes (.dieRailUp d) s (fun v => v = s)) ∧
  (∀ (d : Fin 4) (s : State), s.has .die d = true → s.pwr.powered.contains d.val = false → s.fld F.PWR_STAT_STATE ≠ 2 → s.bit (F.TW0_PMB_EN d) = false →
    s.moveOf d = none → (∀ n : Fin 8, s.bit ⟨R.TOP_READY, 24 + n, 1⟩ = true → s.vgUp n = true) →
    let floor := s.fld (F.PWR_DVFS_FLOOR d)
    let t := min (max (s.fld (F.PWR_DVFS_TARGET d)) floor) (s.fld (F.PWR_DVFS_OP_MAX d))
    Completes (.dieRailUp d) s (fun v => v.fld (F.PWR_DVFS_CUR d) = floor ∧ v.bit ⟨R.TOP_READY, 20 + d, 1⟩ = true ∧
      (∀ n : Fin 8, v.bit ⟨R.TOP_READY, 24 + n, 1⟩ = v.vgUp n) ∧ v.pwr.powered = s.pwr.powered ++ [d.val] ∧ v.moveOf d = (if t = floor then none else some { die := d, goal := t, phase := 1, again := false }) ∧
      Frame { s with pwr := { s.pwr with powered := v.pwr.powered, moves := v.pwr.moves } } v
        [F.PWR_DVFS_CUR d, ⟨R.TOP_READY, 20 + d, 1⟩, F.PWR_DVFS_MOVING d, ⟨R.TOP_READY, 24, 8⟩])) ∧
  (∀ (d : Fin 4) (s : State), s.has .die d = true → s.pwr.powered.contains d.val = false → s.fld F.PWR_STAT_STATE ≠ 2 → s.bit (F.TW0_PMB_EN d) = true →
    s.pwr.volts ≠ [] →
    Completes (.dieRailUp d) s (fun v => v.bit (F.PWR_DVFS_MOVING d) = true ∧
      Frame { s with pwr := { s.pwr with powered := s.pwr.powered ++ [d.val], volts := s.pwr.volts ++ [(d.val, opMv (s.fld (F.PWR_DVFS_FLOOR d)))], moves := s.pwr.moves.filter (fun y => y.die != d.val) ++ [{ die := d, goal := s.fld (F.PWR_DVFS_FLOOR d), phase := 0, again := false }] } } v
        [F.PWR_DVFS_MOVING d])) ∧
  (∀ (d : Fin 4) (ok : Bool) (s : State), s.pwr.dies.head? ≠ some d.val ∨ s.pwr.leaving = none ∨ s.pwr.volts.any (fun v => v.1 == d.val) = true →
    Completes (.dieRestoreDone d ok) s (fun v => v = s)) ∧
  (∀ (d : Fin 4) (ok : Bool) (st : Fin 2) (s0 : State),
    let s := { s0 with pwr := { s0.pwr with dies := [d.val], leaving := some st.val, volts := [], held := [], moves := [], powered := [] } }
    let good := ok && s.bit F.DMC_INSTALLED_VALID && s.dieImage d
    Completes (.dieRestoreDone d ok) s (fun v => v.fld F.PWR_STAT_STATE = st.val ∧ v.pwr.leaving = none ∧ v.pwr.dies = [] ∧
      v.pwr.powered = (if good then [d.val] else []) ∧ (good = true → v.fld (F.PWR_DVFS_CUR d) = s.fld (F.PWR_DVFS_FLOOR d) ∧ v.bit ⟨R.TOP_READY, 20 + d, 1⟩ = true) ∧
      v.bit F.PWR_STAT_BUSY = false ∧ FrameMem s v s.spillByte ∧
      FrameRegs s v (fun off => inBlocks [.pwr, .tw, .cal, .hostq, .seg, .time] off || off == R.TOP_READY)))

/-- Temperatures start calibration runs, and a run applies a value only within its bounds and its step (after R412, R413, R414, R415, R416). -/
def Obligations.CalibrationKeepsGoodValues : Prop :=
  (∀ (k : Fin 20) (raw : BitVec 16) (s : State), s.has .sensor k = false → Completes (.tempSample k raw) s (fun v => v = s)) ∧
  (∀ (k : Fin 20) (raw : BitVec 16) (s : State), s.has .sensor k = true → s.diePowered (k / 4) = false →
    Completes (.tempSample k raw) s (fun v => v.bit (F.CAL_TEMP_VALID k) = false ∧ Frame s v [F.CAL_TEMP_VALID k])) ∧
  (∀ (k : Fin 20) (raw : BitVec 16) (s : State), s.has .sensor k = true → s.diePowered (k / 4) = true →
    let t := raw + BitVec.ofInt 16 (s.sfld (F.CAL_SOFS_VALUE k))
    s.bit F.FLT_CTL_HOT_FATAL = false →
    s.bit F.CAL_CTL_EN = false ∨ (s.bit (F.CAL_REF_VALID k) = true ∧ (t.toInt - s.sfld (F.CAL_REF_TEMP k)).natAbs ≤ s.fld F.CAL_CTL_DT) → s.bit F.PWR_STAT_BUSY = false →
    Completes (.tempSample k raw) s (fun v => v.fld (F.CAL_TEMP_TEMP k) = t.toNat ∧ v.bit (F.CAL_TEMP_VALID k) = true ∧
      v.bit F.CAL_STAT_HOT = (decide (1680 < t.toInt) || s.bit F.CAL_STAT_HOT) ∧
      Frame s v [F.CAL_TEMP_TEMP k, F.CAL_TEMP_VALID k, F.CAL_STAT_HOT])) ∧
  (∀ (k : Fin 20) (raw : BitVec 16) (s0 : State), let s := { s0 with cal := { s0.cal with runs := [] } }
    k.val < 16 → s.has .sensor k = true → s.diePowered (k / 4) = true →
    let t := raw + BitVec.ofInt 16 (s.sfld (F.CAL_SOFS_VALUE k))
    t.toInt ≤ 1680 → s.bit F.CAL_CTL_EN = true → s.bit F.PWR_STAT_BUSY = false →
    s.bit (F.CAL_REF_VALID k) = false ∨ s.fld F.CAL_CTL_DT < (t.toInt - s.sfld (F.CAL_REF_TEMP k)).natAbs →
    Completes (.tempSample k raw) s (fun v => v.fld (F.CAL_TEMP_TEMP k) = t.toNat ∧ v.bit (F.CAL_TEMP_VALID k) = true ∧
      v.fld F.CAL_STAT_RUNNING = 2 ^ (k.val / 4) ∧ (∀ j : Fin 4, v.rd (R.CAL_REF (4 * (k / 4) + j)) = v.rd (R.CAL_TEMP (4 * (k / 4) + j))) ∧
      Frame { s with cal := { s.cal with runs := [(k.val / 4, k.val)], trig := t.toNat } } v
        ([F.CAL_TEMP_TEMP k, F.CAL_TEMP_VALID k, F.CAL_STAT_RUNNING] ++ (List.range 4).map (fun j => whole (R.CAL_REF (4 * (k / 4) + j)))))) ∧
  (∀ (s : State), s.bit F.CAL_CTL_EN = false → s.bit F.PWR_STAT_BUSY = false → Completes .runNow s (fun v => v = { s with lastStatus := 0 })) ∧
  (∀ (s0 : State), let s := { s0 with pwr := { s0.pwr with powered := [] }, cal := { s0.cal with runs := [] } }
    s.bit F.CAL_CTL_EN = true → s.bit F.PWR_STAT_BUSY = false →
    Completes .runNow s (fun v => v.fld F.CAL_STAT_RUNNING = 16 ∧ v.cal = { s.cal with runs := [(4, 255)], trig := 0 } ∧
      (∀ j : Fin 4, v.rd (R.CAL_REF (16 + j)) = s.rd (R.CAL_TEMP (16 + j))) ∧ FrameMem s v s.spillByte ∧ v.lastStatus = 0 ∧
      (∀ c : Fin 8, s.fld (F.DMC_CH_STAT_STATE c) = 2 → v.bit (F.DMC_CH_STAT_THERM c) = true) ∧
      FrameRegs s v (fun off => off == R.CAL_STAT || (List.range 4).any (fun j => off == R.CAL_REF (16 + j)) ||
        (List.range 8).any (fun c => off == R.DMC_CH_STAT c) || inBlocks [.hostq, .seg, .time] off))) ∧
  (∀ (d : Fin 5) (trim : BitVec 8) (ofs : Vector (BitVec 8) 4) (won : List (Fin 4 × Fin 114)) (s : State), (∀ x : Nat × Nat, s.cal.runs.head? = some x → x.1 ≠ d.val) →
    Completes (.calRunDone d trim ofs won) s (fun v => v = s)) ∧
  (∀ (d : Fin 5) (k : Nat) (trim : BitVec 8) (ofs : Vector (BitVec 8) 4) (won : List (Fin 4 × Fin 114)) (s0 : State), let s := { s0 with cal := { s0.cal with runs := [(d.val, k)] } }
    s.fld F.CAL_CTL_ITEM_EN = 0 →
    Completes (.calRunDone d trim ofs won) s (fun v => v.fld F.CAL_CNT_RUN_CNT = (s.fld F.CAL_CNT_RUN_CNT + 1) % 2 ^ F.CAL_CNT_RUN_CNT.w ∧
      v.fld F.CAL_STAT_RUNNING = 0 ∧ v.cal.runs = [] ∧ FrameMem s v s.spillByte ∧ v.lastStatus = s.lastStatus ∧
      FrameRegs s v (fun off => off == R.CAL_STAT || off == R.CAL_CNT || inBlocks [.hostq, .seg, .time] off))) ∧
  (∀ (d : Fin 5) (k : Nat) (trim : BitVec 8) (ofs : Vector (BitVec 8) 4) (s0 : State), let s := { s0 with cal := { s0.cal with runs := [(d.val, k)] } }
    s.fld F.CAL_CTL_ITEM_EN = 4 →
    let cur := s.sfld (F.CAL_TRIM_VALUE d)
    let ok := decide (s.sfld (F.CAL_BND_LO 2) ≤ trim.toInt ∧ trim.toInt ≤ s.sfld (F.CAL_BND_HI 2) ∧ (trim.toInt - cur).natAbs ≤ s.fld (F.CAL_STEP_STEP 2))
    Completes (.calRunDone d trim ofs []) s (fun v => v.fld (F.CAL_TRIM_VALUE d) = (if ok then trim.toNat else s.fld (F.CAL_TRIM_VALUE d)) ∧
      (ok = false → v.bit F.CAL_STAT_CAL_REJECT = true ∧ v.fld F.CAL_CNT_REJ_CNT = min (s.fld F.CAL_CNT_REJ_CNT + 1) (2 ^ F.CAL_CNT_REJ_CNT.w - 1)) ∧
      (ok = true → v.bit F.CAL_STAT_CAL_REJECT = s.bit F.CAL_STAT_CAL_REJECT ∧ v.fld F.CAL_CNT_REJ_CNT = s.fld F.CAL_CNT_REJ_CNT) ∧
      v.fld F.CAL_STAT_RUNNING = 0 ∧ v.cal.runs = [] ∧ FrameMem s v s.spillByte ∧
      FrameRegs s v (fun off => off == R.CAL_TRIM d || off == R.CAL_STAT || off == R.CAL_CNT || inBlocks [.hostq, .seg, .time] off))) ∧
  (∀ (d : Fin 5) (k : Nat) (trim : BitVec 8) (ofs : Vector (BitVec 8) 4) (s0 : State), let s := { s0 with cal := { s0.cal with runs := [(d.val, k)] } }
    s.fld F.CAL_CTL_ITEM_EN = 4 →
    s.sfld (F.CAL_BND_LO 2) ≤ trim.toInt → trim.toInt ≤ s.sfld (F.CAL_BND_HI 2) → (trim.toInt - s.sfld (F.CAL_TRIM_VALUE d)).natAbs ≤ s.fld (F.CAL_STEP_STEP 2) →
    Completes (.calRunDone d trim ofs [(2, Fin.ofNat 114 d.val)]) s (fun v => v.fld (F.CAL_TRIM_VALUE d) = s.fld (F.CAL_TRIM_VALUE d) ∧
      v.bit F.CAL_STAT_CAL_REJECT = s.bit F.CAL_STAT_CAL_REJECT ∧ v.fld F.CAL_CNT_REJ_CNT = s.fld F.CAL_CNT_REJ_CNT ∧
      v.fld F.CAL_STAT_RUNNING = 0 ∧ v.cal.runs = [] ∧ FrameMem s v s.spillByte))

/-- A pair beats, a standby claims only in step or when told to, and a primary demotes before a higher claim (after R429, R430, R431, R432, R434, R435, R436, R437). The model's choice: that a missing HB_SEQ is a lost heartbeat, that a handover leaves the device SYNCED, and when a primary's shadow compare ends (assumption 234). -/
def Obligations.PairsBeatClaimAndDemote : Prop :=
  (∀ (s : State), s.bit F.FLT_PAIR_CFG_PAIR_EN = false ∨ s.bit F.FLT_STAT_FATAL = true → Completes .heartbeatSend s (fun v => v = s)) ∧
  (∀ (s : State), s.bit F.FLT_PAIR_CFG_PAIR_EN = true → s.bit F.FLT_STAT_FATAL = false →
    let flags := b2n s.flt.handover + 2 * b2n (s.fld F.FLT_PAIR_STAT_SYNC == 2) + 4 * b2n (s.fld F.FLT_PAIR_STAT_SYNC == 1) + 8 * b2n (s.bit F.FLT_STAT_DEGRADED)
    let job := if s.runBank then s.fld F.CFG_JOBB_JOB_ID else s.fld F.CFG_JOBA_JOB_ID
    let payload := leBytes 1 (s.fld F.FLT_PAIR_STAT_ROLE) ++ leBytes 1 flags ++ leBytes 1 (s.fld F.FLT_PAIR_STAT_OWN_C) ++ leBytes 1 s.flt.hbSeq ++
      leBytes 4 (s.rdN R.CFG_STRUCT_ID) ++ leBytes 2 job ++ leBytes 2 (s.fld F.CFG_SWAP_CNT_CNT) ++ leBytes 4 (s.rdN R.TOP_READY) ++
      leBytes 8 (if s.fld F.FLT_PAIR_STAT_SYNC = 1 then s.flt.resync.tcap else 0) ++ zeros 8
    let u := s.emit .heartbeat
    let claim := if s.flt.handover then claimOut s (s.fld F.FLT_PAIR_CFG_RANK) else []
    let up := fun (p : Fin 4) => s.npSt p == npStUp
    Completes .heartbeatSend s (fun v => payload.length = 32 ∧ v.flt.hbSeq = (s.flt.hbSeq + 1) % 256 ∧
      (s.flt.handover = true → v.fld F.FLT_PAIR_STAT_ROLE = 0 ∧ v.flt.gen = 0 ∧ v.fld F.FLT_PAIR_STAT_OWN_C = s.fld F.FLT_PAIR_CFG_RANK ∧
        v.fld F.FLT_PAIR_STAT_SYNC = 2) ∧
      (s.npUp (s.fld F.FLT_PAIR_CFG_PORT) = false → v.out = u.out ++ claim ∧ v.np = s.np) ∧
      (∀ p : Fin 4, p.val = s.fld F.FLT_PAIR_CFG_PORT → s.npUp p = true →
        v.out = u.out ++ [sentFrame s p 3 (4 * b2n (up p)) 0x3FFFF s.devId 0 (if up p then s.np[p].rxSeq else 0) payload] ++ claim ∧
        v.np = s.np.set p { s.np[p] with next := v.np[p].next, count := s.np[p].count + 1 }) ∧
      Frame { s with np := v.np, out := v.out, flt := { s.flt with hbSeq := v.flt.hbSeq, handover := false, gen := if s.flt.handover then 0 else s.flt.gen } } v
        (if s.flt.handover then [F.FLT_PAIR_STAT_ROLE, F.FLT_PAIR_STAT_OWN_C, F.FLT_PAIR_STAT_SYNC] else []))) ∧
  (∀ (a b : BitVec 8) (bs : List Byte) (s : State), s.bit F.FLT_PAIR_CFG_PAIR_EN = false →
    ∀ i ∈ [Instr.heartbeatReceived none, .heartbeatReceived (some (bs, none)), .claimFrame a b none], Completes i s (fun v => v = s)) ∧
  (∀ (a b : BitVec 8) (bs : List Byte) (k : BitVec 12) (p : Fin 4) (s : State), s.bit F.FLT_PAIR_CFG_PAIR_EN = false → p.val = s.fld F.FLT_PAIR_CFG_PORT → (s.npS p).wait = [] →
    ∀ i ∈ [Instr.heartbeatReceived (some (bs, some k)), .claimFrame a b (some k)], Completes i s (fun v =>
      v = { s with np := s.np.set p { s.np[p] with kept := (s.npS p).kept.filter (fun e => 2048 ≤ (k.toNat + 4096 - e.1) % 4096) } })) ∧
  (∀ (s : State), s.bit F.FLT_PAIR_CFG_PAIR_EN = true → Completes (.heartbeatReceived none) s (fun v => v.fld F.FLT_PAIR_STAT_MISSED = 0 ∧
      Frame { s with flt := { s.flt with heard := true, hbT := s.evtNow } } v [F.FLT_PAIR_STAT_MISSED])) ∧
  (∀ (role fl c seq : Byte) (id : Vector Byte 4) (job : Vector Byte 2) (rest : Vector Byte 22) (ack : Option (BitVec 12)) (s : State),
    s.bit F.FLT_PAIR_CFG_PAIR_EN = true → bitN fl.toNat 2 = false →
    s.flt.resync.phase = 0 ∨ (∀ q, s.flt.peerSeq = some q → seq.toNat = (q + 1) % 256) →
    s.primary = true ∨ (bitN fl.toNat 0 = false ∧ leVal id.toList = s.rdN R.CFG_STRUCT_ID ∧ leVal job.toList = s.jobId s.runBank) →
    let t := s.npAck (s.fld F.FLT_PAIR_CFG_PORT) ack
    let f := { s.flt with heard := true, hbT := s.evtNow, peerGen := c.toNat / 2, peerFl := fl.toNat, peerSeq := some seq.toNat }
    Completes (.heartbeatReceived (some ([role, fl, c, seq] ++ id.toList ++ job.toList ++ rest.toList, ack))) s (fun v => v.fld F.FLT_PAIR_STAT_MISSED = 0 ∧
      Frame { t with flt := if s.primary = true ∧ bitN s.flt.peerFl 1 = true ∧ bitN fl.toNat 1 = false then { f with cmpOn := false, own := [], peer := [] } else f } v
        [F.FLT_PAIR_STAT_MISSED])) ∧
  (∀ (role fl c seq : Byte) (id : Vector Byte 4) (job : Vector Byte 2) (rest : Vector Byte 22) (ack : Option (BitVec 12)) (s : State),
    s.bit F.FLT_PAIR_CFG_PAIR_EN = true → bitN fl.toNat 0 = false → s.primary = false → s.flt.resync.phase = 0 →
    s.fld F.FLT_PAIR_STAT_SYNC ≠ 1 → leVal id.toList ≠ s.rdN R.CFG_STRUCT_ID ∨ leVal job.toList ≠ s.jobId s.runBank →
    Completes (.heartbeatReceived (some ([role, fl, c, seq] ++ id.toList ++ job.toList ++ rest.toList, ack))) s (After (fun u => u.pairFault 0x06) (fun u =>
      u.fld F.FLT_PAIR_STAT_MISSED = 0 ∧ u.fld F.FLT_PAIR_STAT_SYNC = 0 ∧
      Frame { s.npAck (s.fld F.FLT_PAIR_CFG_PORT) ack with
          flt := { s.flt with heard := true, hbT := s.evtNow, peerGen := c.toNat / 2, peerFl := fl.toNat, peerSeq := some seq.toNat, cmpOn := false, own := [], peer := [] } } u
        [F.FLT_PAIR_STAT_MISSED, F.FLT_PAIR_STAT_SYNC]))) ∧
  (∀ (role fl c seq : Byte) (id : Vector Byte 4) (job : Vector Byte 2) (rest : Vector Byte 22) (q : Nat) (s : State),
    s.bit F.FLT_PAIR_CFG_PAIR_EN = true → bitN fl.toNat 0 = false → s.primary = false → s.flt.resync.phase ≠ 0 → s.bit F.CFG_CTL_RUN = false →
    s.flt.peerSeq = some q → seq.toNat ≠ (q + 1) % 256 → leVal id.toList = s.rdN R.CFG_STRUCT_ID → leVal job.toList = s.jobId s.runBank →
    Completes (.heartbeatReceived (some ([role, fl, c, seq] ++ id.toList ++ job.toList ++ rest.toList, none))) s (After (fun u => u.pairFault 0x08) (fun u =>
      u.fld F.FLT_PAIR_STAT_MISSED = 0 ∧ u.fld F.FLT_PAIR_STAT_SYNC = 3 ∧
      Frame { s with flt := { s.flt with heard := true, hbT := s.evtNow, peerGen := c.toNat / 2, peerFl := fl.toNat, peerSeq := some seq.toNat, resync := ResyncS.none } } u
        [F.FLT_PAIR_STAT_MISSED, F.FLT_PAIR_STAT_SYNC]))) ∧
  (∀ (s : State), s.bit F.FLT_PAIR_CFG_PAIR_EN = false ∨ s.fld F.FLT_PAIR_STAT_MISSED = 5 → Completes .partnerLost s (fun v => v = s)) ∧
  (∀ (s : State), s.bit F.FLT_PAIR_CFG_PAIR_EN = true → s.fld F.FLT_PAIR_STAT_MISSED ≠ 5 → s.flt.resync.phase = 0 →
    s.primary = true ∨ s.flt.demoted = true ∨ (s.synced = false ∧ s.bit F.FLT_PAIR_CFG_CLAIM_UNSYNC = false) →
    Completes .partnerLost s (fun v => v.fld F.FLT_PAIR_STAT_MISSED = 5 ∧ v.flt.heard = false ∧ v.flt.peerSeq = none ∧ v.flt.cmpOn = false ∧ v.flt.gen = s.flt.gen ∧ v.primary = s.primary ∧
      v.fld F.FLT_HB_CNT_LOST_CNT = min (s.fld F.FLT_HB_CNT_LOST_CNT + 1) (2 ^ F.FLT_HB_CNT_LOST_CNT.w - 1) ∧
      v.fld F.FLT_HB_CNT_CLAIM_CNT = s.fld F.FLT_HB_CNT_CLAIM_CNT ∧ FrameMem s v s.spillByte ∧
      FrameRegs s v (fun off => off == R.FLT_PAIR_STAT || off == R.FLT_HB_CNT || inBlocks [.hostq, .seg, .time] off))) ∧
  (∀ (s : State), s.bit F.FLT_PAIR_CFG_PAIR_EN = true → s.fld F.FLT_PAIR_STAT_MISSED ≠ 5 → s.flt.resync.phase = 0 →
    s.primary = false → s.flt.demoted = false → s.synced = true ∨ s.bit F.FLT_PAIR_CFG_CLAIM_UNSYNC = true →
    let gen := min 127 (1 + s.flt.peerGen)
    Completes .partnerLost s (fun v => v.fld F.FLT_PAIR_STAT_MISSED = 5 ∧ v.flt.gen = gen ∧ v.primary = true ∧
      v.fld F.FLT_PAIR_STAT_OWN_C = 2 * gen + s.fld F.FLT_PAIR_CFG_RANK ∧ v.bit F.FLT_STAT_FROST = true ∧
      v.fld F.FLT_HB_CNT_LOST_CNT = min (s.fld F.FLT_HB_CNT_LOST_CNT + 1) (2 ^ F.FLT_HB_CNT_LOST_CNT.w - 1) ∧
      v.fld F.FLT_HB_CNT_CLAIM_CNT = min (s.fld F.FLT_HB_CNT_CLAIM_CNT + 1) (2 ^ F.FLT_HB_CNT_CLAIM_CNT.w - 1))) ∧
  (∀ (s : State), s.bit F.FLT_PAIR_CFG_PAIR_EN = true → s.fld F.FLT_PAIR_STAT_MISSED ≠ 5 → s.flt.resync.phase = 0 →
    s.primary = false → s.flt.demoted = false → s.synced = true ∨ s.bit F.FLT_PAIR_CFG_CLAIM_UNSYNC = true → s.bit F.FLT_STAT_FROST = true →
    let gen := min 127 (1 + s.flt.peerGen)
    Completes .partnerLost s (fun v => v.fld F.FLT_PAIR_STAT_MISSED = 5 ∧ v.flt.gen = gen ∧ v.primary = true ∧
      v.fld F.FLT_PAIR_STAT_OWN_C = 2 * gen + s.fld F.FLT_PAIR_CFG_RANK ∧ v.bit F.FLT_STAT_FROST = true ∧
      v.fld F.FLT_HB_CNT_LOST_CNT = min (s.fld F.FLT_HB_CNT_LOST_CNT + 1) (2 ^ F.FLT_HB_CNT_LOST_CNT.w - 1) ∧
      v.fld F.FLT_HB_CNT_CLAIM_CNT = min (s.fld F.FLT_HB_CNT_CLAIM_CNT + 1) (2 ^ F.FLT_HB_CNT_CLAIM_CNT.w - 1) ∧ FrameMem s v s.spillByte ∧
      FrameRegs s v (fun off => off == R.FLT_PAIR_STAT || off == R.FLT_HB_CNT || inBlocks [.hostq, .seg, .time] off))) ∧
  (∀ (a b : BitVec 8) (ack : Option (BitVec 12)) (s : State), Completes (.claimFrame a b ack) s (fun v => v = s.npAck (s.fld F.FLT_PAIR_CFG_PORT) ack)) ∧
  (∀ (c : BitVec 8) (s : State), Completes (.dclRdWord (some (0xA#4 ++ c ++ (c.extractLsb' 4 4 ^^^ c.extractLsb' 0 4 ^^^ 5#4)))) s (fun v =>
      v.bit F.FLT_PAIR_STAT_PEER_VALID = true ∧ v.fld F.FLT_PAIR_STAT_PEER_C = c.toNat ∧
      Frame s v [F.FLT_PAIR_STAT_PEER_VALID, F.FLT_PAIR_STAT_PEER_C])) ∧
  (∀ (w : BitVec 16) (b : Bool) (s : State), w.extractLsb' 12 4 ≠ 0xA#4 ∨ w.extractLsb' 0 4 ≠ w.extractLsb' 8 4 ^^^ w.extractLsb' 4 4 ^^^ 5#4 →
    Completes (.dclRdWord (if b then some w else none)) s (fun v => v.bit F.FLT_PAIR_STAT_PEER_VALID = false ∧ Frame s v [F.FLT_PAIR_STAT_PEER_VALID])) ∧
  (∀ (s : State), s.primary = false ∨ s.bit F.FLT_PAIR_STAT_PEER_VALID = false ∨ s.fld F.FLT_PAIR_STAT_PEER_C < 2 ∨ s.fld F.FLT_PAIR_STAT_PEER_C ≤ s.fld F.FLT_PAIR_STAT_OWN_C →
    Completes .demote s (fun v => v = s)) ∧
  (∀ (s : State), s.primary = true → s.bit F.FLT_PAIR_STAT_PEER_VALID = true → 2 ≤ s.fld F.FLT_PAIR_STAT_PEER_C →
    s.fld F.FLT_PAIR_STAT_OWN_C < s.fld F.FLT_PAIR_STAT_PEER_C →
    Completes .demote s (After (fun u => u.pairFault 0x03) (fun u => u.fld F.FLT_PAIR_STAT_ROLE = 0 ∧ u.fld F.FLT_PAIR_STAT_SYNC = 0 ∧
      u.fld F.FLT_PAIR_STAT_OWN_C = s.fld F.FLT_PAIR_CFG_RANK ∧
      Frame { s with out := s.out ++ claimOut s (s.fld F.FLT_PAIR_CFG_RANK), flt := { s.flt with gen := 0, demoted := true, handover := false, resync := ResyncS.none, cmpOn := false, own := [], peer := [] } } u
        [F.FLT_PAIR_STAT_ROLE, F.FLT_PAIR_STAT_SYNC, F.FLT_PAIR_STAT_OWN_C]))) ∧
  (∀ (s : State), Completes .genLower s (fun v =>
      if s.primary = true ∧ 1 < s.flt.gen ∧ s.bit F.FLT_PAIR_STAT_PEER_VALID = true ∧ s.fld F.FLT_PAIR_STAT_PEER_C < 2
      then v.fld F.FLT_PAIR_STAT_OWN_C = 2 + s.fld F.FLT_PAIR_CFG_RANK ∧ Frame { s with out := s.out ++ claimOut s (2 + s.fld F.FLT_PAIR_CFG_RANK), flt := { s.flt with gen := 1 } } v [F.FLT_PAIR_STAT_OWN_C] else v = s)) ∧
  (∀ (s : State), Completes .promote s (fun v =>
      if s.primary = true ∨ (s.bit F.FLT_PAIR_STAT_PEER_VALID = true ∧ 2 ≤ s.fld F.FLT_PAIR_STAT_PEER_C) then v = { s with lastStatus := 0x40 }
      else v.fld F.FLT_PAIR_STAT_OWN_C = 2 + s.fld F.FLT_PAIR_CFG_RANK ∧ v.primary = true ∧
        Frame { s with lastStatus := 0, out := s.out ++ claimOut s (2 + s.fld F.FLT_PAIR_CFG_RANK), flt := { s.flt with gen := 1 } } v [F.FLT_PAIR_STAT_OWN_C, F.FLT_PAIR_STAT_ROLE])) ∧
  (∀ (s : State), Completes .handover s (fun v =>
      v = if s.primary = true ∧ bitN s.flt.peerFl 1 = true then { s with lastStatus := 0, flt := { s.flt with handover := true } } else { s with lastStatus := 0x40 })) ∧
  (∀ (s : State), Completes .frostEnd s (fun v => if s.bit F.FLT_STAT_FATAL then v = s
      else v.bit F.FLT_STAT_FROST = false ∧ Frame s v [F.FLT_STAT_FROST]))

/-- Resynchronisation goes through its steps, and shadow compare counts what agrees and what has no partner (after R437, R438, R439, R440, R441, R442). The model's choice: that a frame with a bad FCRC counts and is answered by a NAK, the frame a NAK is, that B_0 comes with the capture, and that a primary gives up at the timeout (assumptions 69, 115, 121, 188). -/
def Obligations.PairsComeIntoStep : Prop :=
  (∀ (s : State), s.primary = true ∨ s.bit F.CFG_STAT_PIPE_STOPPED = false ∨ s.flt.heard = false → Completes .resync s (fun v => v = { s with lastStatus := 0x40 })) ∧
  (∀ (s : State), s.primary = false → s.bit F.CFG_STAT_PIPE_STOPPED = true → s.flt.heard = true →
    Completes .resync s (fun v => v.fld F.FLT_PAIR_STAT_SYNC = 1 ∧
      Frame { s with lastStatus := 0, flt := { s.flt with resync := { ResyncS.none with phase := 1, tcap := (s.ns + 1000000) % 2 ^ 64 } } } v [F.FLT_PAIR_STAT_SYNC])) ∧
  (∀ (b0 : BitVec 24) (s : State), s.ns < s.flt.resync.tcap ∨ (s.flt.resync.phase ≠ 1 ∧ s.flt.resync.phase ≠ 5) → Completes (.resyncCapture b0) s (fun v => v = s)) ∧
  (∀ (b0 : BitVec 24) (s : State), s.flt.resync.tcap ≤ s.ns → s.flt.resync.phase = 1 →
    Completes (.resyncCapture b0) s (fun v => v.flt.resync.phase = 2 ∧ v.flt.resync.pos = (List.range 4).map (fun n => s.rdN (R.ENC_POS n)) ∧
      v.flt.resync.half = (List.range 4).map (fun n => s.fld (F.ENC_EPOCH_HALF n)) ∧
      v.flt.resync.points = ((List.range 32).filter (fun u => s.bit (F.CU_CTL_EN u))).map (fun u => (u, s.cuN u)) ∧
      v = { s with flt := { s.flt with resync := { s.flt.resync with phase := 2, pos := v.flt.resync.pos, half := v.flt.resync.half, points := v.flt.resync.points } } })) ∧
  (∀ (b0 : BitVec 24) (s : State), s.flt.resync.tcap ≤ s.ns → s.flt.resync.phase = 5 → s.npUp (s.fld F.FLT_PAIR_CFG_PORT) = false →
    let br := b0.toNat + (s.maxStag + 64 + 255) / 256 + 1
    Completes (.resyncCapture b0) s (fun v => v.flt.resync.phase = 6 ∧ v.flt.resync.b0 = b0.toNat ∧ v.flt.resync.blk = br ∧
      v.flt.resync.pos = (List.range 4).map (fun n => s.rdN (R.ENC_POS n)) ∧ v.fld F.FLT_SYNC_BLK_B_R = br % 2 ^ F.FLT_SYNC_BLK_B_R.w ∧
      Frame { s with flt := { s.flt with resync := v.flt.resync } } v [F.FLT_SYNC_BLK_B_R])) ∧
  (∀ (c : Captures) (s : State), s.flt.resync.phase ≠ 2 → Completes (.resyncAlign c) s (fun v => v = s)) ∧
  (∀ (c : Captures) (s : State), s.flt.resync.phase = 2 →
    let new := fun (n : Nat) => (s.pos n + (c.pos.getD n 0).toNat + 2 ^ 32 - s.flt.resync.pos.getD n 0 % 2 ^ 32) % 2 ^ 32
    (∀ n : Fin 4, bitN (new n) 31 = bitN (s.pos n) 31) →
    Completes (.resyncAlign c) s (After (fun u => u.raise []) (fun u => (∀ n : Fin 4, u.pos n = new n ∧ u.fld (F.ENC_EPOCH_HALF n) = (c.half.getD n 0).toNat) ∧
      u.rd R.SEG_REPEAT_ORG = c.org ∧ u.flt.resync.phase = 3 ∧ u.flt.resync.b0 = c.b0.toNat ∧
      u.fld F.FLT_SYNC_BLK_B_R = (c.b0.toNat + (s.maxStag + 64 + 255) / 256 + 1) % 2 ^ F.FLT_SYNC_BLK_B_R.w ∧ u.ddr = s.ddr ∧
      FrameRegs s u (fun off => inBlocks [.enc, .prt, .top, .hostq, .seg, .time] off || off == R.FLT_SYNC_BLK || off == R.CFG_SWAP_POS || off == R.CFG_STAT)))) ∧
  (∀ (s : State), s.primary = true → s.flt.resync.phase ≠ 0 → Completes .resyncTimeout s (fun v => v = { s with flt := { s.flt with resync := ResyncS.none } })) ∧
  (∀ (s : State), s.primary = false → s.flt.resync.phase < 2 → Completes .resyncTimeout s (fun v => v = s)) ∧
  (∀ (s : State), s.primary = false → s.flt.resync.phase = 2 → s.bit F.CFG_CTL_RUN = false →
    Completes .resyncTimeout s (After (fun u => u.pairFault 0x08) (fun u => u.fld F.FLT_PAIR_STAT_SYNC = 3 ∧
      Frame { s with flt := { s.flt with resync := ResyncS.none } } u [F.FLT_PAIR_STAT_SYNC]))) ∧
  (∀ (p : Fin 4) (dst src : BitVec 18) (seq : BitVec 12) (ack : Option (BitVec 12)) (ok : Bool) (b : Shadow) (s : State), s.npSt p ≠ npStUp →
    Completes (.shadowFrame p dst src seq ack ok b) s (fun v => v = s)) ∧
  (∀ (p : Fin 4) (dst src : BitVec 18) (seq : BitVec 12) (ack : Option (BitVec 12)) (b : Shadow) (s : State), s.npSt p = npStUp →
    Completes (.shadowFrame p dst src seq ack false b) s (fun v =>
      v.fld (F.NP_CNT_CRC_CNT p) = min (s.fld (F.NP_CNT_CRC_CNT p) + 1) (2 ^ (F.NP_CNT_CRC_CNT p).w - 1) ∧
      v.out = s.out ++ [sentFrame s p 2 12 0x3FFFF s.devId 0 s.np[p].rxSeq (zeros 8)] ∧
      Frame { s with out := v.out, np := s.np.set p { s.np[p] with next := v.np[p].next, count := s.np[p].count + 1 } } v [F.NP_CNT_CRC_CNT p, F.NP_CNT_SAT p])) ∧
  (∀ (p : Fin 4) (src : BitVec 18) (r : Vector Word 16) (s0 : State),
    let s := { s0 with flt := { s0.flt with own := [r.toList.map (·.toNat)], peer := [], cmpOn := true } }
    (r[0].toNat % 256 = 0x12 ∨ s0.flt.cmpFrom ≤ recObj (r.toList.map (·.toNat))) →
    s.npSt p = npStUp → s.bit F.FLT_PAIR_CFG_PAIR_EN = true → s.fld F.FLT_PAIR_CFG_PORT = p.val → s.primary = false → s.synced = true →
    let seq := BitVec.ofNat 12 (s.np[p].rxSeq + 1)
    Completes (.shadowFrame p 0x3FFFF src seq none true (.records [r.toList])) s (fun v =>
      v.fld F.FLT_SHADOW_MATCH_MATCH = (s.fld F.FLT_SHADOW_MATCH_MATCH + 1) % 2 ^ 32 ∧ v.flt.own = [] ∧ v.flt.peer = [] ∧ v.np[p].rxSeq = seq.toNat ∧
      Frame { s with flt := { s.flt with own := [], peer := [] }, np := s.np.set p { s.np[p] with rxSeq := seq.toNat, owed := s.np[p].owed.modify 3 (· + 2) } } v
        [F.FLT_SHADOW_MATCH_MATCH])) ∧
  (∀ (own : Bool) (s : State), s.primary = true ∨ (if own then s.flt.own else s.flt.peer) = [] → Completes (.shadowUnmatchedTimeout own) s (fun v => v = s)) ∧
  (∀ (own : Bool) (s : State), s.primary = false → (if own then s.flt.own else s.flt.peer) ≠ [] →
    Completes (.shadowUnmatchedTimeout own) s (fun v =>
      v.fld F.FLT_SHADOW_CNT_UNMATCHED_CNT = min (s.fld F.FLT_SHADOW_CNT_UNMATCHED_CNT + 1) (2 ^ F.FLT_SHADOW_CNT_UNMATCHED_CNT.w - 1) ∧
      Frame { s with flt := { s.flt with own := if own then s.flt.own.tail else s.flt.own, peer := if own then s.flt.peer else s.flt.peer.tail } } v
        [F.FLT_SHADOW_CNT_UNMATCHED_CNT, F.FLT_SHADOW_CNT_SAT]))

/-- A fatal fault sets FATAL and its cause and puts the device in frost hold, and an allowed RELEASE ends it (after R30, R427, R435, R446). -/
def Obligations.FatalFaultsHoldTheDevice : Prop :=
  (∀ (s : State), s.bit F.FLT_STAT_FATAL = true → Completes .forceFatal s (fun v => v = { s with lastStatus := 0 })) ∧
  (∀ (s : State), s.bit F.FLT_STAT_FATAL = false → s.bit F.FLT_STAT_FROST = true →
    Completes .forceFatal s (fun v => v.bit F.FLT_STAT_FATAL = true ∧ v.fld F.FLT_STAT_FATAL_CAUSE = 5 ∧ v.bit F.FLT_STAT_FROST = true ∧
      v.lastStatus = 0 ∧ FrameMem s v s.spillByte ∧ FrameRegs s v (fun off => off == R.FLT_STAT || inBlocks [.hostq, .seg, .time] off))) ∧
  (∀ (s : State), s.bit F.FLT_STAT_FATAL = false →
    Completes .forceFatal s (fun v => v.bit F.FLT_STAT_FATAL = true ∧ v.fld F.FLT_STAT_FATAL_CAUSE = 5 ∧ v.bit F.FLT_STAT_FROST = true ∧ v.lastStatus = 0)) ∧
  (∀ (k : Fin 7) (s : State), k.val < 3 →
    Completes (.fatalFault k) s (fun v => k.val ∈ v.flt.plls ∧ v.bit F.FLT_STAT_FATAL = true ∧
      (s.bit F.FLT_STAT_FATAL = false → v.fld F.FLT_STAT_FATAL_CAUSE = 1 ∧ v.bit F.FLT_STAT_FROST = true) ∧
      (k = 0 → v.bit ⟨R.TOP_READY, 5, 1⟩ = false) ∧ (k = 2 → v.bit ⟨R.TOP_READY, 4, 1⟩ = false ∧ v.bit F.TIME_STAT_PLL_LOCK = false))) ∧
  (∀ (k : Fin 7) (s : State), k.val < 3 → s.bit F.FLT_STAT_FROST = true →
    Completes (.fatalFault k) s (fun v => FrameMem s v s.spillByte ∧
      FrameRegs s v (fun off => off == R.FLT_STAT || off == R.TOP_READY || inBlocks [.hostq, .seg, .time] off))) ∧
  (∀ (d : Fin 4) (s : State), s.has .die d = false ∨ s.fld F.PWR_STAT_STATE = 2 ∨ bitN (s.fld F.TOP_READY_CD) d = false →
    Completes (.fatalFault (Fin.ofNat 7 (3 + d.val))) s (fun v => v = s)) ∧
  (∀ (d : Fin 4) (s : State), s.has .die d = true → s.fld F.PWR_STAT_STATE ≠ 2 → bitN (s.fld F.TOP_READY_CD) d = true →
    Completes (.fatalFault (Fin.ofNat 7 (3 + d.val))) s (fun v => v.bit ⟨R.TOP_READY, 20 + d, 1⟩ = false ∧ v.bit F.FLT_STAT_FATAL = true ∧
      (s.bit F.FLT_STAT_FATAL = false → v.fld F.FLT_STAT_FATAL_CAUSE = 2 ∧ v.bit F.FLT_STAT_FROST = true) ∧ d.val ∉ v.pwr.powered)) ∧
  (∀ (s : State), s.bit F.FLT_STAT_FATAL = false ∨ s.bit F.FLT_PAIR_CFG_PAIR_EN = true ∨ s.causeGone = false →
    Completes .release s (fun v => v = { s with lastStatus := 0 })) ∧
  (∀ (s : State), s.bit F.FLT_STAT_FATAL = true → s.bit F.FLT_PAIR_CFG_PAIR_EN = false →
    let c := s.fld F.FLT_STAT_FATAL_CAUSE
    (c = 1 → s.flt.plls = []) → (c = 2 → ∀ d : Fin 4, s.has .die d = true → bitN (s.fld F.TOP_READY_CD) d = true) →
    (c = 3 → s.bit F.FLT_STAT_DEGRADED = false) → (c = 4 → s.bit F.CAL_STAT_HOT = false) →
    Completes .release s (fun v => v.bit F.FLT_STAT_FATAL = false ∧ v.bit F.FLT_STAT_FROST = false ∧
      Frame { s with lastStatus := 0 } v [F.FLT_STAT_FATAL, F.FLT_STAT_FROST]))

/-- A cold reset leaves reset values but the calendar clock; a warm reset keeps configuration, banks, positions and DDR-4 (after R71, R289, R300, R355, R428, R460, R461, R462, R463). -/
def Obligations.ResetsKeepWhatTheyMust : Prop :=
  (∀ (ts pair : Bool) (boot : Fin 4) (off : Nat) (s : State),
    let b : Board := { s.board with tsSrc := ts, pairRank := pair, boot := boot.val }
    Completes (.coldReset ts pair boot) s (fun v =>
      v.rd off = (if rtcReg off then s.rd off else if off = R.TOP_BOOT ∧ boot = 3 then F.TOP_BOOT_DONE.ins (resetVal b off) 1 else resetVal b off) ∧
      s.out <+: v.out ∧ v.ddr = [] ∧
      v.rest = { State.cold b with time := { (State.cold b).time with rtc := s.time.rtc, rtcAcc := s.time.rtcAcc, rtcTrim := s.time.rtcTrim }, hq := { (State.cold b).hq with posted := s.hq.posted }, boot := { (State.cold b).boot with image := boot == 3, training := boot == 3 }, jtag := s.jtag, scan := s.scan, freeCtr := s.freeCtr, out := v.out, pending := s.pending } ∧
      (s.bit F.FLT_PAIR_CFG_PAIR_EN = true → s.bit F.FLT_STAT_FATAL = false → s.scanDrives = false → v.out[s.out.length]? = some (.claim none)))) ∧
  (∀ (m : BitVec 8) (s : State), s.bit F.CFG_STAT_APPLYING = true →
    Completes (.warmReset m) s (fun v => v = { s with cfg := { s.cfg with warmPend := some m.toNat } })) ∧
  (∀ (m : BitVec 8) (s : State), s.bit F.CFG_STAT_APPLYING = false →
    Completes (.warmReset m) s (fun v => v.bit F.CFG_CTL_RUN = false ∧ v.bit F.CFG_STAT_PIPE_STOPPED = true ∧ v.bit F.CFG_STAT_LOADING = false ∧
      v.bit F.CFG_STAT_APPLYING = false ∧ v.bit F.CFG_STAT_STRUCT_VALID = s.bit F.CFG_STAT_STRUCT_VALID ∧
      (∀ b : Bool, v.bankState b = (if s.bankState b = 3 then 2 else if s.bankState b = 1 ∨ s.bankState b = 5 then 0 else s.bankState b)) ∧
      v.bit F.CFG_STAT_DISARMED_BY_STOP = (s.bankState false == 3 || s.bankState true == 3) ∧
      v.fld F.CFG_BANK_LAST_LOAD = s.fld F.CFG_BANK_LAST_LOAD ∧
      v.cfg.struct = s.cfg.struct ∧ (s.bankState false ∉ [1, 5] → v.cfg.jobA = s.cfg.jobA) ∧ (s.bankState true ∉ [1, 5] → v.cfg.jobB = s.cfg.jobB) ∧
      (∀ n : Fin 4, v.rd (R.ENC_POS n) = s.rd (R.ENC_POS n) ∧ v.fld (F.ENC_EPOCH_HALF n) = s.fld (F.ENC_EPOCH_HALF n)) ∧
      v.time.ts = s.time.ts ∧ v.time.rtc = s.time.rtc ∧ v.evt.lvl0 = s.evt.lvl0 ∧ v.evt.lvl1 = s.evt.lvl1 ∧ v.ddr = s.ddr ∧ v.poison = s.poison ∧
      (∀ n : Fin 64, v.bit (F.HQ_CFG_EN n) = false) ∧ v.hq.slots = Vector.replicate 32 [] ∧ v.pending = s.pending)) ∧
  (∀ (m : BitVec 8) (off : Nat) (s : State), s.bit F.CFG_STAT_APPLYING = false → rtcReg off = true →
    Completes (.warmReset m) s (fun v => v.rd off = s.rd off)) ∧
  (∀ (m : BitVec 8) (off : Nat) (s : State), s.bit F.CFG_STAT_APPLYING = false → s.fld F.PWR_STAT_STATE ≠ 2 → blockOf off = some .dmc →
    Completes (.warmReset m) s (fun v => v.rd off = s.rd off)) ∧
  (∀ (m : BitVec 8) (off : Nat) (s : State), s.bit F.CFG_STAT_APPLYING = false → ∀ r : RegRef, findReg off = some r → r.row.ld = 0 →
    inBlocks [.sdf, .dma, .cmp, .isp] off = true → s.cfg.struct = none →
    Completes (.warmReset m) s (fun v => v.rd off = resetVal s.board off))

/-- Boot takes the first accepted copy of the image, runs its script, and trains the link at its end (after R470, R471, R472). The model's choice: the code of a copy that is too short, the end of a script, the training after it, and the pieces in which a copy is read (assumptions 151, 152, 235). -/
def Obligations.BootRunsTheFirstGoodCopy : Prop :=
  (∀ (a b : List Byte) (s : State), s.boot.image = true → Completes (.bootImageRead a b) s (fun v => v = s)) ∧
  (∀ (anyVar : Bool) (ssv ss : BitVec 16) (short : Vector Byte 20) (ones : Bool) (tl b : List Byte) (s : State), s.boot.image = false →
    let rd := fun (a n : Nat) => Out.qspi (if s.board.boot = 0 then 0x03 else 0x6B) a (if s.board.boot = 0 then 0 else 8) (if s.board.boot = 0 then 25 else 50 * s.board.boot) n
    let var := if anyVar then 0 else if s.board.variant = .w1296 then 0x1296 else 0x0648
    let h := leBytes 4 0x4D57424F ++ leBytes 2 1 ++ leBytes 2 var ++ leBytes 2 ssv.toNat ++ leBytes 2 ss.toNat ++ leBytes 4 0 ++ zeros 12
    let img := h ++ leBytes 4 (crc32c h) ++ leBytes 4 0 ++ tl
    Completes (if ones then .bootImageRead img b else .bootImageRead short.toList img) s (fun v =>
      v.boot = { s.boot with image := true, ssvid := ssv.toNat, ssid := ss.toNat, script := [], idx := 0, wait := .run, training := true } ∧
      v.bit ⟨R.TOP_READY, 0, 1⟩ = true ∧ v.bit F.TOP_BOOT_DONE = true ∧ v.fld F.TOP_BOOT_ENTRY = 0 ∧ v.fld F.TOP_BOOT_FAIL_A = (if ones then 0 else 1) ∧
      (ones = false → v.bit F.TOP_BOOT_COPY = true) ∧
      v.out = s.out ++ (if s.scanDrives then [] else if ones then [rd 0 32, rd 32 4] else [rd 0 32, rd 0x100000 32, rd 0x100020 4]) ∧
      Frame { s with boot := v.boot, out := v.out } v ([⟨R.TOP_READY, 0, 1⟩, F.TOP_BOOT_DONE, F.TOP_BOOT_ENTRY, F.TOP_BOOT_FAIL_A] ++ if ones then [] else [F.TOP_BOOT_COPY]))) ∧
  (∀ (a b : Vector Byte 20) (s : State), s.boot.image = false →
    let rd := fun (a n : Nat) => Out.qspi (if s.board.boot = 0 then 0x03 else 0x6B) a (if s.board.boot = 0 then 0 else 8) (if s.board.boot = 0 then 25 else 50 * s.board.boot) n
    Completes (.bootImageRead a.toList b.toList) s (fun v =>
      v.boot = { s.boot with image := true, script := [], idx := 0, wait := .run, training := true } ∧
      v.bit F.TOP_BOOT_DONE = true ∧ v.fld F.TOP_BOOT_ENTRY = 0 ∧ v.fld F.TOP_BOOT_FAIL_A = 1 ∧ v.fld F.TOP_BOOT_FAIL_B = 1 ∧
      v.out = s.out ++ (if s.scanDrives then [] else [rd 0 32, rd 0x100000 32]) ∧
      Frame { s with boot := v.boot, out := v.out } v [F.TOP_BOOT_DONE, F.TOP_BOOT_ENTRY, F.TOP_BOOT_FAIL_A, F.TOP_BOOT_FAIL_B])) ∧
  (∀ (e0 e1 : Word) (ssv ss : BitVec 16) (s : State), s.boot.image = false →
    let h := leBytes 4 0x4D57424F ++ leBytes 2 1 ++ leBytes 2 0 ++ leBytes 2 ssv.toNat ++ leBytes 2 ss.toNat ++ leBytes 4 1 ++ zeros 12
    let ent := leBytes 4 (e0.toNat % 2 ^ 26 / 4 * 4 + 2 ^ 30) ++ leBytes 4 e1.toNat
    Completes (.bootImageRead (h ++ leBytes 4 (crc32c h) ++ ent ++ leBytes 4 (crc32c ent)) []) s (fun v =>
      v.boot = { s.boot with image := true, ssvid := ssv.toNat, ssid := ss.toNat, script := [], idx := 1, wait := .wait } ∧
      v.bit ⟨R.TOP_READY, 0, 1⟩ = true ∧ v.fld F.TOP_BOOT_FAIL_A = 0 ∧ Frame { s with boot := v.boot, out := v.out } v [⟨R.TOP_READY, 0, 1⟩, F.TOP_BOOT_FAIL_A])) ∧
  (∀ (e0 e1 : Word) (ssv ss : BitVec 16) (s : State), s.boot.image = false → e0.toNat % 4 ≠ 0 →
    let h := leBytes 4 0x4D57424F ++ leBytes 2 1 ++ leBytes 2 0 ++ leBytes 2 ssv.toNat ++ leBytes 2 ss.toNat ++ leBytes 4 1 ++ zeros 12
    let ent := leBytes 4 (e0.toNat % 2 ^ 26) ++ leBytes 4 e1.toNat
    Completes (.bootImageRead (h ++ leBytes 4 (crc32c h) ++ ent ++ leBytes 4 (crc32c ent)) []) s (fun v =>
      v.boot = { s.boot with image := true, ssvid := ssv.toNat, ssid := ss.toNat, script := [], idx := 0, wait := .run, training := true } ∧
      v.bit F.TOP_BOOT_REFUSED = true ∧ v.fld F.TOP_BOOT_STATUS = 5 ∧ v.fld F.TOP_BOOT_ENTRY = 0 ∧ v.bit F.TOP_BOOT_DONE = true ∧
      Frame { s with boot := v.boot, out := v.out } v [⟨R.TOP_READY, 0, 1⟩, F.TOP_BOOT_FAIL_A, F.TOP_BOOT_REFUSED, F.TOP_BOOT_STATUS, F.TOP_BOOT_ENTRY, F.TOP_BOOT_DONE])) ∧
  (∀ (s : State), s.boot.wait ≠ .wait → Completes .bootWaitEnd s (fun v => v = s)) ∧
  (∀ (s0 : State), let s := { s0 with boot := { s0.boot with wait := .wait, script := [] } }
    Completes .bootWaitEnd s (fun v => v.boot = { s.boot with image := true, script := [], idx := 0, wait := .run, training := true } ∧
      v.bit F.TOP_BOOT_DONE = true ∧ v.fld F.TOP_BOOT_ENTRY = 0 ∧ Frame { s with boot := v.boot } v [F.TOP_BOOT_DONE, F.TOP_BOOT_ENTRY])) ∧
  (∀ (s : State), s.boot.wait ≠ .poll → Completes .bootPollTimeout s (fun v => v = s)) ∧
  (∀ (s : State), s.boot.wait = .poll →
    Completes .bootPollTimeout s (fun v => v.boot = { s.boot with image := true, script := [], idx := 0, wait := .run, training := true } ∧
      v.bit F.TOP_BOOT_POLL_TO = true ∧ v.bit F.TOP_BOOT_DONE = true ∧ v.fld F.TOP_BOOT_ENTRY = s.boot.idx % 2 ^ F.TOP_BOOT_ENTRY.w ∧
      Frame { s with boot := v.boot } v [F.TOP_BOOT_POLL_TO, F.TOP_BOOT_DONE, F.TOP_BOOT_ENTRY]))
end

