-- ==== Sys2Proof/Laws/Regs.lean ====
section
/-!
SUPPORT. The register store: what a read gives after a write, at the register and at the others, and what a field reads after it has
been set.
-/
namespace Sys2Proof.Machine

theorem regsGet_erase_self (l : List (Nat × Word)) (off : Nat) : regsGet (regsErase l off) off = none := by
  induction l with
  | nil => rfl
  | cons e l ih =>
    obtain ⟨a, w⟩ := e
    unfold regsErase at ih ⊢
    by_cases h : a = off <;> simp [h, regsGet, ih]

theorem regsGet_erase_ne (l : List (Nat × Word)) {off x : Nat} (h : x ≠ off) :
    regsGet (regsErase l off) x = regsGet l x := by
  induction l with
  | nil => rfl
  | cons e l ih =>
    obtain ⟨a, w⟩ := e
    unfold regsErase at ih ⊢
    by_cases ha : a = off
    · subst ha
      simp [regsGet, ih, Ne.symm h]
    · simp [ha, regsGet, ih]

theorem regsGet_insert_ne (l : List (Nat × Word)) {off x : Nat} (w : Word) (h : x ≠ off) :
    regsGet (regsInsert l off w) x = regsGet l x := by
  induction l with
  | nil => simp [regsInsert, regsGet, Ne.symm h]
  | cons e l ih =>
    obtain ⟨a, v⟩ := e
    unfold regsInsert
    split <;> simp [regsGet, ih, Ne.symm h]

theorem regsGet_insert_self (l : List (Nat × Word)) {off : Nat} (w : Word) (h : regsGet l off = none) :
    regsGet (regsInsert l off w) off = some w := by
  induction l with
  | nil => simp [regsInsert, regsGet]
  | cons e l ih =>
    obtain ⟨a, v⟩ := e
    have ha : a ≠ off := by
      intro ha
      simp [regsGet, ha] at h
    simp only [regsGet, ha, if_false] at h
    unfold regsInsert
    split <;> simp [regsGet, ha, ih h]

@[simp] theorem rd_put_self (s : State) (off : Nat) (w : Word) : (s.put off w).rd off = w := by
  unfold State.put State.rd
  split
  · rename_i h
    simp [regsGet_erase_self, ← h]
  · simp [regsGet_insert_self _ _ (regsGet_erase_self _ _)]

theorem rd_put_ne (s : State) {off x : Nat} (w : Word) (h : x ≠ off) : (s.put off w).rd x = s.rd x := by
  unfold State.put State.rd
  split
  · simp [regsGet_erase_ne _ h]
  · simp [regsGet_insert_ne _ _ h, regsGet_erase_ne _ h]

theorem rd_put (s : State) (off x : Nat) (w : Word) : (s.put off w).rd x = if x = off then w else s.rd x := by
  split
  · rename_i h
    subst h
    simp
  · rename_i h
    exact rd_put_ne s w h

/-- A write of a register touches only the register store. -/
theorem put_eq (s : State) (off : Nat) (w : Word) : ∃ l, s.put off w = { s with regs := l } := ⟨_, rfl⟩

theorem fld_of_rd_eq {s t : State} (f : Fld) (h : t.rd f.off = s.rd f.off) : t.fld f = s.fld f := by
  simp [State.fld, State.rdN, h]

theorem rd_setFld_ne (s : State) (f : Fld) (v : Nat) {x : Nat} (h : x ≠ f.off) : (s.setFld f v).rd x = s.rd x :=
  rd_put_ne s _ h

theorem fld_setFld_ne (s : State) (f g : Fld) (v : Nat) (h : g.off ≠ f.off) : (s.setFld f v).fld g = s.fld g :=
  fld_of_rd_eq g (rd_setFld_ne s f v h)

theorem fld_put_ne (s : State) (off : Nat) (w : Word) (g : Fld) (h : g.off ≠ off) : (s.put off w).fld g = s.fld g :=
  fld_of_rd_eq g (rd_put_ne s w h)

theorem testBit_mask (f : Fld) (h : f.lo + f.w ≤ 32) (i : Nat) :
    f.mask.toNat.testBit i = (decide (f.lo ≤ i) && decide (i < f.lo + f.w)) := by
  have hlt : (2 ^ f.w - 1) * 2 ^ f.lo < 2 ^ 32 := by
    have h1 : (2 ^ f.w - 1) * 2 ^ f.lo < 2 ^ f.w * 2 ^ f.lo :=
      Nat.mul_lt_mul_of_pos_right (by have := Nat.two_pow_pos f.w; omega) (Nat.two_pow_pos _)
    rw [← Nat.pow_add] at h1
    exact lt_of_lt_of_le h1 (Nat.pow_le_pow_right (by omega) (by omega))
  rw [Fld.mask, BitVec.toNat_ofNat, Nat.mod_eq_of_lt hlt, Nat.testBit_mul_two_pow, Nat.testBit_two_pow_sub_one]
  by_cases h1 : f.lo ≤ i <;> simp [h1] <;> omega

theorem testBit_ins (f : Fld) (h : f.lo + f.w ≤ 32) (w : Word) (v i : Nat) :
    (f.ins w v).toNat.testBit i =
      if f.lo ≤ i ∧ i < f.lo + f.w then v.testBit (i - f.lo) else w.toNat.testBit i := by
  have hlt : v % 2 ^ f.w * 2 ^ f.lo < 2 ^ 32 := by
    have h1 : v % 2 ^ f.w * 2 ^ f.lo < 2 ^ f.w * 2 ^ f.lo :=
      Nat.mul_lt_mul_of_pos_right (Nat.mod_lt _ (Nat.two_pow_pos _)) (Nat.two_pow_pos _)
    rw [← Nat.pow_add] at h1
    exact lt_of_lt_of_le h1 (Nat.pow_le_pow_right (by omega) (by omega))
  have hm := testBit_mask f h i
  rw [Fld.ins, BitVec.toNat_or, Nat.testBit_or, BitVec.toNat_and, Nat.testBit_and, BitVec.toNat_ofNat,
    Nat.mod_eq_of_lt hlt, Nat.testBit_mul_two_pow, Nat.testBit_mod_two_pow]
  by_cases hi : i < 32
  · rw [show (~~~f.mask).toNat.testBit i = !f.mask.toNat.testBit i by
      rw [← BitVec.getLsbD, ← BitVec.getLsbD, BitVec.getLsbD_not]; simp [hi], hm]
    by_cases h1 : f.lo ≤ i <;> by_cases h2 : i < f.lo + f.w <;> simp [h1, h2] <;> omega
  · have hw : w.toNat.testBit i = false := Nat.testBit_lt_two_pow (lt_of_lt_of_le w.isLt (Nat.pow_le_pow_right (by omega) (by omega)))
    have h2 : ¬ i < f.lo + f.w := by omega
    by_cases h1 : f.lo ≤ i
    · simp [hw, h1, h2]
      omega
    · simp [hw, h1]

theorem testBit_fieldN (x lo w i : Nat) : (fieldN x lo w).testBit i = (decide (i < w) && x.testBit (lo + i)) := by
  rw [fieldN, Nat.testBit_mod_two_pow, Nat.testBit_div_two_pow, Nat.add_comm]

/-- A field reads what it was set to, modulo its width. -/
theorem fld_setFld_self (s : State) (f : Fld) (v : Nat) (h : f.lo + f.w ≤ 32) :
    (s.setFld f v).fld f = v % 2 ^ f.w := by
  apply Nat.eq_of_testBit_eq
  intro i
  simp only [State.fld, State.rdN, State.setFld, rd_put_self, testBit_fieldN, testBit_ins f h, Nat.testBit_mod_two_pow]
  by_cases hi : i < f.w <;> simp [hi]

/-- Setting a field leaves a field of the same register that does not meet it. -/
theorem fld_setFld_disjoint (s : State) (f g : Fld) (v : Nat) (h : f.lo + f.w ≤ 32)
    (hd : g.lo + g.w ≤ f.lo ∨ f.lo + f.w ≤ g.lo) : (s.setFld f v).fld g = s.fld g := by
  by_cases ho : g.off = f.off
  · apply Nat.eq_of_testBit_eq
    intro i
    simp only [State.fld, State.rdN, State.setFld, testBit_fieldN, ho, rd_put_self, testBit_ins f h]
    by_cases hi : i < g.w
    · simp [hi]
      intro h1 h2
      omega
    · simp [hi]
  · exact fld_setFld_ne s f g v ho

/-- The bits of a word outside a mask that covers a field do not change when the field is set. -/
theorem ins_outside (f : Fld) (w : Word) (v : Nat) (m : Word) (hf : f.lo + f.w ≤ 32)
    (h : f.mask &&& ~~~m = 0) : f.ins w v &&& ~~~m = w &&& ~~~m := by
  apply BitVec.eq_of_getLsbD_eq
  intro i hi
  have hm := congrArg (fun x : Word => x.getLsbD i) h
  have h1 := testBit_ins f hf w v i
  have h2 := testBit_mask f hf i
  rw [BitVec.testBit_toNat] at h1 h2
  simp only [BitVec.getLsbD_and, h2] at hm
  simp only [BitVec.getLsbD_and, h1, BitVec.testBit_toNat]
  by_cases hin : f.lo ≤ i ∧ i < f.lo + f.w
  · simp [hin.1, hin.2] at hm
    simp [hm hi]
  · simp [hin]

end Sys2Proof.Machine
end

