-- ==== Sys2Proof/Laws/Frame.lean ====
section
/-!
SUPPORT. Frames: they hold of a state and itself, and each operation on registers keeps the frame that lists what it writes.
-/
namespace Sys2Proof.Machine

theorem Frame.refl (s : State) (fs : List Fld) : Frame s s fs := ⟨fun _ => rfl, fun _ => rfl, rfl⟩

/-- A frame's bits cover each field it lists. -/
theorem fieldBits_covers {f : Fld} {fs : List Fld} (h : f ∈ fs) : f.mask &&& ~~~fieldBits fs f.off = 0 := by
  induction fs with
  | nil => cases h
  | cons g fs ih =>
    apply BitVec.eq_of_getLsbD_eq
    intro i hi
    rcases List.mem_cons.mp h with rfl | h'
    · simp [fieldBits]
      intros
      simp_all
    · have := congrArg (fun x : Word => x.getLsbD i) (ih h')
      simp [fieldBits] at this ⊢
      intro a b
      have := this a b
      simp_all

/-- A change of what no register shows moves both ends of a frame. -/
theorem Frame.of_eq {s t u v : State} {fs : List Fld} (h : Frame s t fs) (h1 : u.regs = t.regs) (h2 : u.ddr = t.ddr)
    (h3 : u.board = t.board) (h4 : v.regs = s.regs) (h5 : v.ddr = s.ddr) (h6 : v.board = s.board) (h7 : u.rest = v.rest) :
    Frame v u fs := by
  refine ⟨fun off => ?_, fun a => ?_, h7⟩
  · have := h.regs off
    simpa [State.rd, h1, h3, h4, h6] using this
  · have := h.mem a
    simpa [h2, h5] using this

theorem Frame.put {s v : State} {fs : List Fld} (h : Frame s v fs) {off : Nat} (w : Word)
    (hw : w &&& ~~~fieldBits fs off = v.rd off &&& ~~~fieldBits fs off) : Frame s (v.put off w) fs := by
  refine ⟨fun x => ?_, fun a => h.mem a, h.rest⟩
  rw [← h.regs x, rd_put]
  split
  · rename_i hx
    subst hx
    exact hw
  · rfl

/-- Setting a listed field keeps the frame. -/
theorem Frame.setFld {s v : State} {fs : List Fld} (h : Frame s v fs) {f : Fld} (x : Nat) (hf : f ∈ fs) (hw : f.lo + f.w ≤ 32) :
    Frame s (v.setFld f x) fs :=
  h.put _ (ins_outside f _ _ _ hw (fieldBits_covers hf))

/-- Setting a register that is listed whole keeps the frame. -/
theorem Frame.putN {s v : State} {fs : List Fld} (h : Frame s v fs) {off : Nat} (x : Nat) (hf : whole off ∈ fs) :
    Frame s (v.putN off x) fs := by
  refine h.put _ ?_
  have hc := fieldBits_covers hf
  have hm : (whole off).mask = BitVec.allOnes 32 := by
    change BitVec.ofNat 32 ((2 ^ 32 - 1) * 2 ^ 0) = _
    decide
  rw [hm, BitVec.allOnes_and] at hc
  have hz : ~~~fieldBits fs off = 0 := hc
  simp [hz]

theorem Frame.flag {s v : State} {fs : List Fld} (h : Frame s v fs) {f : Fld} (hf : f ∈ fs) (hw : f.lo + f.w ≤ 32) :
    Frame s (v.flag f) fs := h.setFld 1 hf hw

theorem Frame.setBit {s v : State} {fs : List Fld} (h : Frame s v fs) {f : Fld} (b : Bool) (hf : f ∈ fs) (hw : f.lo + f.w ≤ 32) :
    Frame s (v.setBit f b) fs := h.setFld (b2n b) hf hw

theorem Frame.incWrap {s v : State} {fs : List Fld} (h : Frame s v fs) {f : Fld} (hf : f ∈ fs) (hw : f.lo + f.w ≤ 32) :
    Frame s (v.incWrap f) fs := h.setFld _ hf hw

theorem Frame.incSat {s v : State} {fs : List Fld} (h : Frame s v fs) {f : Fld} (hf : f ∈ fs) (hw : f.lo + f.w ≤ 32) :
    Frame s (v.incSat f) fs := h.setFld _ hf hw

theorem Frame.incCnt {s v : State} {fs : List Fld} (h : Frame s v fs) {f g : Fld} (hf : f ∈ fs) (hw : f.lo + f.w ≤ 32)
    (hg : g ∈ fs) (hv : g.lo + g.w ≤ 32) : Frame s (v.incCnt f g) fs := by
  unfold State.incCnt
  dsimp only
  split
  · exact (h.setFld _ hf hw).flag hg hv
  · exact h.setFld _ hf hw

theorem Frame.addCnt {s v : State} {fs : List Fld} (h : Frame s v fs) {f g : Fld} (k : Nat) (hf : f ∈ fs) (hw : f.lo + f.w ≤ 32)
    (hg : g ∈ fs) (hv : g.lo + g.w ≤ 32) : Frame s (v.addCnt f g k) fs := by
  unfold State.addCnt
  dsimp only
  split
  · exact (h.setFld _ hf hw).flag hg hv
  · exact h.setFld _ hf hw

/-- Frames compose. -/
theorem Frame.trans {s t u : State} {fs : List Fld} (h : Frame s t fs) (k : Frame t u fs) : Frame s u fs :=
  ⟨fun off => (k.regs off).trans (h.regs off), fun a => (k.mem a).trans (h.mem a), k.rest.trans h.rest⟩

/-- A register whose bits the frame does not list reads as before. -/
theorem Frame.rd {s v : State} {fs : List Fld} (h : Frame s v fs) {off : Nat} (hz : fieldBits fs off = 0) : v.rd off = s.rd off := by
  have hm : ~~~(0 : Word) = BitVec.allOnes 32 := by decide
  have := h.regs off
  rw [hz, hm, BitVec.and_allOnes, BitVec.and_allOnes] at this
  exact this

theorem fieldBits_eq_zero {fs : List Fld} {off : Nat} (h : ∀ f ∈ fs, f.off ≠ off) : fieldBits fs off = 0 := by
  induction fs with
  | nil => rfl
  | cons f fs ih =>
    have h1 := h f (by simp)
    have h2 := ih (fun g hg => h g (by simp [hg]))
    simp [fieldBits, h1, h2]

/-- A field of a register the frame does not list reads as before. -/
theorem Frame.fld {s v : State} {fs : List Fld} (h : Frame s v fs) (f : Fld) (hz : ∀ g ∈ fs, g.off ≠ f.off) : v.fld f = s.fld f :=
  fld_of_rd_eq f (h.rd (fieldBits_eq_zero hz))

end Sys2Proof.Machine
end

