-- ==== Sys2Proof/Laws/Memory.lean ====
section
/-!
SUPPORT. DDR-4 and the register store keep their canonical forms under every operation; a byte reads as it was last written.
-/
namespace Sys2Proof.Machine

/-! ### One byte -/

theorem memGet_filter_ne (m : List Host.Cell) (x y : Nat) :
    memGet (m.filter (fun c => c.1 != x)) y = if y = x then 0 else memGet m y := by
  induction m with
  | nil => simp [memGet]
  | cons c m ih =>
    obtain ⟨a, b⟩ := c
    by_cases h : a = x
    · subst h
      by_cases hy : y = a
      · subst hy
        simpa using ih
      · simp [hy, ih, memGet, Ne.symm hy]
    · by_cases hy : a = y
      · subst hy
        simp [h, memGet]
      · simp [h, hy, memGet, ih]

theorem memGet_insert (m : List Host.Cell) (x : Nat) (v : Byte) (y : Nat) (h : memGet m x = 0 ∧ ∀ c ∈ m, c.1 ≠ x) :
    memGet (memInsert m x v) y = if y = x then v else memGet m y := by
  induction m with
  | nil => simp [memInsert, memGet, eq_comm]
  | cons c m ih =>
    obtain ⟨a, b⟩ := c
    have ha : a ≠ x := h.2 (a, b) (by simp)
    have ht : memGet m x = 0 ∧ ∀ c ∈ m, c.1 ≠ x :=
      ⟨by simpa [memGet, ha] using h.1, fun c hc => h.2 c (by simp [hc])⟩
    unfold memInsert
    split
    · by_cases hy : y = x
      · simp [memGet, hy]
      · simp [memGet, hy, Ne.symm hy]
    · by_cases hy : a = y
      · subst hy
        simp [memGet, ha]
      · simp [memGet, hy, ih ht]

/-- A byte reads as it was written; the others are as before. -/
theorem memGet_memSet (m : List Host.Cell) (x : Nat) (v : Byte) (y : Nat) :
    memGet (memSet m x v) y = if y = x then v else memGet m y := by
  unfold memSet
  dsimp only
  split
  · rename_i h
    rw [memGet_filter_ne, h]
  · rw [memGet_insert _ _ _ _ ⟨by simp [memGet_filter_ne], by simp⟩, memGet_filter_ne]
    split <;> rfl

/-- A byte string reads as it was written; the bytes beside it are as before. -/
theorem memGet_memSetAll (bs : List Byte) (m : List Host.Cell) (x y : Nat) :
    memGet (memSetAll m x bs) y = if x ≤ y ∧ y < x + bs.length then bs.getD (y - x) 0 else memGet m y := by
  induction bs generalizing m x with
  | nil => simp [memSetAll]
  | cons b bs ih =>
    rw [memSetAll, ih, memGet_memSet]
    by_cases h1 : y = x
    · subst h1
      simp
    · by_cases h2 : x + 1 ≤ y ∧ y < x + 1 + bs.length
      · have h3 : x ≤ y ∧ y < x + (b :: bs).length := by simp; omega
        obtain ⟨k, hk⟩ : ∃ k, y = x + 1 + k := ⟨y - (x + 1), by omega⟩
        subst hk
        rw [if_pos h2, if_pos h3, show x + 1 + k - x = k + 1 by omega, show x + 1 + k - (x + 1) = k by omega]
        simp
      · have h3 : ¬ (x ≤ y ∧ y < x + (b :: bs).length) := by simp; omega
        rw [if_neg h2, if_neg h1, if_neg h3]

/-! ### Canonical form -/

theorem memInsert_mem (m : List Host.Cell) (x : Nat) (v : Byte) (c : Host.Cell) :
    c ∈ memInsert m x v ↔ c = (x, v) ∨ c ∈ m := by
  induction m with
  | nil => simp [memInsert]
  | cons d m ih =>
    unfold memInsert
    split
    · simp
    · simp only [List.mem_cons, ih]
      tauto

theorem memWf_memInsert {m : List Host.Cell} {x : Nat} {v : Byte} (h : memWf m = true) (hv : v ≠ 0) (hx : ∀ c ∈ m, c.1 ≠ x) :
    memWf (memInsert m x v) = true := by
  simp only [memWf, Bool.and_eq_true, decide_eq_true_eq, List.all_eq_true, bne_iff_ne, ne_eq] at h ⊢
  refine ⟨?_, fun c hc => ?_⟩
  · induction m with
    | nil => simp [memInsert]
    | cons d m ih =>
      obtain ⟨a, b⟩ := d
      have hp := List.pairwise_cons.mp h.1
      unfold memInsert
      split
      · rename_i hlt
        refine List.pairwise_cons.mpr ⟨fun c hc => ?_, h.1⟩
        rcases List.mem_cons.mp hc with rfl | hc
        · exact hlt
        · exact lt_trans hlt (hp.1 c hc)
      · rename_i hge
        refine List.pairwise_cons.mpr ⟨fun c hc => ?_, ih (fun c hc => hx c (by simp [hc])) ⟨hp.2, fun c hc => h.2 c (by simp [hc])⟩⟩
        rcases (memInsert_mem m x v c).mp hc with rfl | hc
        · have := hx (a, b) (by simp)
          simp at this ⊢
          omega
        · exact hp.1 c hc
  · rcases (memInsert_mem m x v c).mp hc with rfl | hc
    · exact hv
    · exact h.2 c hc

theorem memWf_filter {m : List Host.Cell} (p : Host.Cell → Bool) (h : memWf m = true) : memWf (m.filter p) = true := by
  simp only [memWf, Bool.and_eq_true, decide_eq_true_eq, List.all_eq_true] at h ⊢
  exact ⟨h.1.filter p, fun c hc => h.2 c (List.mem_of_mem_filter hc)⟩

/-- Writing a byte keeps the canonical form. -/
theorem memWf_memSet {m : List Host.Cell} (x : Nat) (v : Byte) (h : memWf m = true) : memWf (memSet m x v) = true := by
  unfold memSet
  dsimp only
  split
  · exact memWf_filter _ h
  · rename_i hv
    exact memWf_memInsert (memWf_filter _ h) hv (by simp)

/-- Writing a byte string keeps the canonical form. -/
theorem memWf_memSetAll (bs : List Byte) {m : List Host.Cell} (x : Nat) (h : memWf m = true) : memWf (memSetAll m x bs) = true := by
  induction bs generalizing m x with
  | nil => exact h
  | cons b bs ih => exact ih (x + 1) (memWf_memSet x b h)

/-! ### The device's own operations -/

theorem memWf_memPut {s : State} (a : Nat) (bs : List Byte) (h : memWf s.ddr = true) : memWf (s.memPut a bs).ddr = true :=
  memWf_memSetAll bs a h

theorem memWf_memWrite {s : State} (a : Nat) (bs : List Byte) (h : memWf s.ddr = true) : memWf (s.memWrite a bs).ddr = true := by
  unfold State.memWrite
  split
  · exact h
  · exact memWf_memPut a bs h

/-- Poisoned lines stay in rising order under a write. -/
theorem poison_memPut {s : State} (a : Nat) (bs : List Byte) (h : s.poison.Pairwise (· < ·)) :
    (s.memPut a bs).poison.Pairwise (· < ·) := h.filter _

/-- While installed DDR-4 exists, a byte reads as a write left it, and the bytes beside the write are as before. -/
theorem memGet_memWrite (s : State) (a : Nat) (bs : List Byte) (y : Nat) (hv : s.bit F.DMC_INSTALLED_VALID = true) :
    memGet (s.memWrite a bs).ddr y = if a ≤ y ∧ y < a + bs.length then bs.getD (y - a) 0 else memGet s.ddr y := by
  have : s.memWrite a bs = s.memPut a bs := by simp [State.memWrite, hv]
  rw [this]
  exact memGet_memSetAll bs s.ddr a y

/-- A byte range reads byte by byte. -/
theorem memRange_eq (m : List Host.Cell) (x n : Nat) : memRange m x n = (List.range n).map (fun i => memGet m (x + i)) := by
  induction n generalizing x with
  | zero => rfl
  | succ n ih =>
    rw [memRange, ih, List.range_succ_eq_map]
    simp only [List.map_cons, List.map_map, Nat.add_zero]
    congr 1
    apply List.map_congr_left
    intro i _
    simp only [Function.comp_apply]
    congr 1
    omega

/-- A byte string reads back whole. -/
theorem memRange_memSetAll (m : List Host.Cell) (x : Nat) (bs : List Byte) : memRange (memSetAll m x bs) x bs.length = bs := by
  rw [memRange_eq]
  apply List.ext_getElem (by simp)
  intro i h1 h2
  simp [memGet_memSetAll, h2]

/-! ### The register store -/

theorem regsInsert_mem (l : List (Nat × Word)) (off : Nat) (w : Word) (e : Nat × Word) :
    e ∈ regsInsert l off w ↔ e = (off, w) ∨ e ∈ l := by
  induction l with
  | nil => simp [regsInsert]
  | cons d l ih =>
    unfold regsInsert
    split
    · simp
    · simp only [List.mem_cons, ih]
      tauto

theorem regsInsert_sorted {l : List (Nat × Word)} {off : Nat} {w : Word} (h : l.Pairwise (fun x y => x.1 < y.1))
    (hx : ∀ e ∈ l, e.1 ≠ off) : (regsInsert l off w).Pairwise (fun x y => x.1 < y.1) := by
  induction l with
  | nil => simp [regsInsert]
  | cons d l ih =>
    obtain ⟨a, b⟩ := d
    have hp := List.pairwise_cons.mp h
    unfold regsInsert
    split
    · rename_i hlt
      refine List.pairwise_cons.mpr ⟨fun c hc => ?_, h⟩
      rcases List.mem_cons.mp hc with rfl | hc
      · exact hlt
      · exact lt_trans hlt (hp.1 c hc)
    · rename_i hge
      refine List.pairwise_cons.mpr ⟨fun c hc => ?_, ih hp.2 (fun e he => hx e (by simp [he]))⟩
      rcases (regsInsert_mem l off w c).mp hc with rfl | hc
      · have := hx (a, b) (by simp)
        simp at this ⊢
        omega
      · exact hp.1 c hc

/-- Setting a register keeps the store's canonical form. -/
theorem regsWf_put {s : State} (off : Nat) (w : Word) (h : regsWf s.board s.regs = true) :
    regsWf (s.put off w).board (s.put off w).regs = true := by
  simp only [regsWf, Bool.and_eq_true, decide_eq_true_eq, List.all_eq_true] at h ⊢
  have he : (regsErase s.regs off).Pairwise (fun x y => x.1 < y.1) := h.1.filter _
  have hn : ∀ e ∈ regsErase s.regs off, e.1 ≠ off := by simp [regsErase]
  have hm : ∀ e ∈ regsErase s.regs off, e ∈ s.regs := fun e hx => List.mem_of_mem_filter hx
  unfold State.put
  dsimp only
  split
  · exact ⟨he, fun e hx => h.2 e (hm e hx)⟩
  · rename_i hw
    refine ⟨regsInsert_sorted he hn, fun e hx => ?_⟩
    rcases (regsInsert_mem _ _ _ e).mp hx with rfl | hx
    · simpa using hw
    · exact h.2 e (hm e hx)

end Sys2Proof.Machine
end

