-- ==== Sys2Proof/Laws/State.lean ====
section
/-!
SUPPORT. What each small update of the state leaves as it was: one lemma for each field. Updates of registers are put in terms of
`State.put` and `State.setFld`; counters and outputs, which branch, follow.
-/
namespace Sys2Proof.Machine

/-! ### Register updates in terms of two -/

@[simp] theorem putN_eq (s : State) (off v : Nat) : s.putN off v = s.put off (BitVec.ofNat 32 v) := rfl
@[simp] theorem setBit_eq (s : State) (f : Fld) (b : Bool) : s.setBit f b = s.setFld f (b2n b) := rfl
@[simp] theorem flag_eq (s : State) (f : Fld) : s.flag f = s.setFld f 1 := rfl
@[simp] theorem setSfld_eq (s : State) (f : Fld) (v : Int) : s.setSfld f v = s.setFld f (wrapTo f.w v) := rfl
@[simp] theorem incWrap_eq (s : State) (f : Fld) : s.incWrap f = s.setFld f (s.fld f + 1) := rfl
@[simp] theorem incSat_eq (s : State) (f : Fld) : s.incSat f = s.setFld f (satInc f.w (s.fld f)) := rfl

/-! ### State.put -/

@[simp] theorem put_board (s : State) (off : Nat) (w : Word) : (s.put off w).board = s.board := rfl
@[simp] theorem put_hq (s : State) (off : Nat) (w : Word) : (s.put off w).hq = s.hq := rfl
@[simp] theorem put_time (s : State) (off : Nat) (w : Word) : (s.put off w).time = s.time := rfl
@[simp] theorem put_cfg (s : State) (off : Nat) (w : Word) : (s.put off w).cfg = s.cfg := rfl
@[simp] theorem put_enc (s : State) (off : Nat) (w : Word) : (s.put off w).enc = s.enc := rfl
@[simp] theorem put_cu (s : State) (off : Nat) (w : Word) : (s.put off w).cu = s.cu := rfl
@[simp] theorem put_absIn (s : State) (off : Nat) (w : Word) : (s.put off w).absIn = s.absIn := rfl
@[simp] theorem put_sw (s : State) (off : Nat) (w : Word) : (s.put off w).sw = s.sw := rfl
@[simp] theorem put_evt (s : State) (off : Nat) (w : Word) : (s.put off w).evt = s.evt := rfl
@[simp] theorem put_prt (s : State) (off : Nat) (w : Word) : (s.put off w).prt = s.prt := rfl
@[simp] theorem put_ing (s : State) (off : Nat) (w : Word) : (s.put off w).ing = s.ing := rfl
@[simp] theorem put_sti (s : State) (off : Nat) (w : Word) : (s.put off w).sti = s.sti := rfl
@[simp] theorem put_vg (s : State) (off : Nat) (w : Word) : (s.put off w).vg = s.vg := rfl
@[simp] theorem put_seg (s : State) (off : Nat) (w : Word) : (s.put off w).seg = s.seg := rfl
@[simp] theorem put_sdf (s : State) (off : Nat) (w : Word) : (s.put off w).sdf = s.sdf := rfl
@[simp] theorem put_flt (s : State) (off : Nat) (w : Word) : (s.put off w).flt = s.flt := rfl
@[simp] theorem put_lane (s : State) (off : Nat) (w : Word) : (s.put off w).lane = s.lane := rfl
@[simp] theorem put_np (s : State) (off : Nat) (w : Word) : (s.put off w).np = s.np := rfl
@[simp] theorem put_isp (s : State) (off : Nat) (w : Word) : (s.put off w).isp = s.isp := rfl
@[simp] theorem put_dmc (s : State) (off : Nat) (w : Word) : (s.put off w).dmc = s.dmc := rfl
@[simp] theorem put_dma (s : State) (off : Nat) (w : Word) : (s.put off w).dma = s.dma := rfl
@[simp] theorem put_tw (s : State) (off : Nat) (w : Word) : (s.put off w).tw = s.tw := rfl
@[simp] theorem put_pwr (s : State) (off : Nat) (w : Word) : (s.put off w).pwr = s.pwr := rfl
@[simp] theorem put_cal (s : State) (off : Nat) (w : Word) : (s.put off w).cal = s.cal := rfl
@[simp] theorem put_boot (s : State) (off : Nat) (w : Word) : (s.put off w).boot = s.boot := rfl
@[simp] theorem put_jtag (s : State) (off : Nat) (w : Word) : (s.put off w).jtag = s.jtag := rfl
@[simp] theorem put_scan (s : State) (off : Nat) (w : Word) : (s.put off w).scan = s.scan := rfl
@[simp] theorem put_ddr (s : State) (off : Nat) (w : Word) : (s.put off w).ddr = s.ddr := rfl
@[simp] theorem put_poison (s : State) (off : Nat) (w : Word) : (s.put off w).poison = s.poison := rfl
@[simp] theorem put_lastStatus (s : State) (off : Nat) (w : Word) : (s.put off w).lastStatus = s.lastStatus := rfl
@[simp] theorem put_freeCtr (s : State) (off : Nat) (w : Word) : (s.put off w).freeCtr = s.freeCtr := rfl
@[simp] theorem put_out (s : State) (off : Nat) (w : Word) : (s.put off w).out = s.out := rfl
@[simp] theorem put_pending (s : State) (off : Nat) (w : Word) : (s.put off w).pending = s.pending := rfl

/-! ### State.setFld -/

@[simp] theorem setFld_board (s : State) (f : Fld) (v : Nat) : (s.setFld f v).board = s.board := rfl
@[simp] theorem setFld_hq (s : State) (f : Fld) (v : Nat) : (s.setFld f v).hq = s.hq := rfl
@[simp] theorem setFld_time (s : State) (f : Fld) (v : Nat) : (s.setFld f v).time = s.time := rfl
@[simp] theorem setFld_cfg (s : State) (f : Fld) (v : Nat) : (s.setFld f v).cfg = s.cfg := rfl
@[simp] theorem setFld_enc (s : State) (f : Fld) (v : Nat) : (s.setFld f v).enc = s.enc := rfl
@[simp] theorem setFld_cu (s : State) (f : Fld) (v : Nat) : (s.setFld f v).cu = s.cu := rfl
@[simp] theorem setFld_absIn (s : State) (f : Fld) (v : Nat) : (s.setFld f v).absIn = s.absIn := rfl
@[simp] theorem setFld_sw (s : State) (f : Fld) (v : Nat) : (s.setFld f v).sw = s.sw := rfl
@[simp] theorem setFld_evt (s : State) (f : Fld) (v : Nat) : (s.setFld f v).evt = s.evt := rfl
@[simp] theorem setFld_prt (s : State) (f : Fld) (v : Nat) : (s.setFld f v).prt = s.prt := rfl
@[simp] theorem setFld_ing (s : State) (f : Fld) (v : Nat) : (s.setFld f v).ing = s.ing := rfl
@[simp] theorem setFld_sti (s : State) (f : Fld) (v : Nat) : (s.setFld f v).sti = s.sti := rfl
@[simp] theorem setFld_vg (s : State) (f : Fld) (v : Nat) : (s.setFld f v).vg = s.vg := rfl
@[simp] theorem setFld_seg (s : State) (f : Fld) (v : Nat) : (s.setFld f v).seg = s.seg := rfl
@[simp] theorem setFld_sdf (s : State) (f : Fld) (v : Nat) : (s.setFld f v).sdf = s.sdf := rfl
@[simp] theorem setFld_flt (s : State) (f : Fld) (v : Nat) : (s.setFld f v).flt = s.flt := rfl
@[simp] theorem setFld_lane (s : State) (f : Fld) (v : Nat) : (s.setFld f v).lane = s.lane := rfl
@[simp] theorem setFld_np (s : State) (f : Fld) (v : Nat) : (s.setFld f v).np = s.np := rfl
@[simp] theorem setFld_isp (s : State) (f : Fld) (v : Nat) : (s.setFld f v).isp = s.isp := rfl
@[simp] theorem setFld_dmc (s : State) (f : Fld) (v : Nat) : (s.setFld f v).dmc = s.dmc := rfl
@[simp] theorem setFld_dma (s : State) (f : Fld) (v : Nat) : (s.setFld f v).dma = s.dma := rfl
@[simp] theorem setFld_tw (s : State) (f : Fld) (v : Nat) : (s.setFld f v).tw = s.tw := rfl
@[simp] theorem setFld_pwr (s : State) (f : Fld) (v : Nat) : (s.setFld f v).pwr = s.pwr := rfl
@[simp] theorem setFld_cal (s : State) (f : Fld) (v : Nat) : (s.setFld f v).cal = s.cal := rfl
@[simp] theorem setFld_boot (s : State) (f : Fld) (v : Nat) : (s.setFld f v).boot = s.boot := rfl
@[simp] theorem setFld_jtag (s : State) (f : Fld) (v : Nat) : (s.setFld f v).jtag = s.jtag := rfl
@[simp] theorem setFld_scan (s : State) (f : Fld) (v : Nat) : (s.setFld f v).scan = s.scan := rfl
@[simp] theorem setFld_ddr (s : State) (f : Fld) (v : Nat) : (s.setFld f v).ddr = s.ddr := rfl
@[simp] theorem setFld_poison (s : State) (f : Fld) (v : Nat) : (s.setFld f v).poison = s.poison := rfl
@[simp] theorem setFld_lastStatus (s : State) (f : Fld) (v : Nat) : (s.setFld f v).lastStatus = s.lastStatus := rfl
@[simp] theorem setFld_freeCtr (s : State) (f : Fld) (v : Nat) : (s.setFld f v).freeCtr = s.freeCtr := rfl
@[simp] theorem setFld_out (s : State) (f : Fld) (v : Nat) : (s.setFld f v).out = s.out := rfl
@[simp] theorem setFld_pending (s : State) (f : Fld) (v : Nat) : (s.setFld f v).pending = s.pending := rfl

/-! ### State.status -/

@[simp] theorem status_board (s : State) (st : Nat) : (s.status st).board = s.board := rfl
@[simp] theorem status_regs (s : State) (st : Nat) : (s.status st).regs = s.regs := rfl
@[simp] theorem status_hq (s : State) (st : Nat) : (s.status st).hq = s.hq := rfl
@[simp] theorem status_time (s : State) (st : Nat) : (s.status st).time = s.time := rfl
@[simp] theorem status_cfg (s : State) (st : Nat) : (s.status st).cfg = s.cfg := rfl
@[simp] theorem status_enc (s : State) (st : Nat) : (s.status st).enc = s.enc := rfl
@[simp] theorem status_cu (s : State) (st : Nat) : (s.status st).cu = s.cu := rfl
@[simp] theorem status_absIn (s : State) (st : Nat) : (s.status st).absIn = s.absIn := rfl
@[simp] theorem status_sw (s : State) (st : Nat) : (s.status st).sw = s.sw := rfl
@[simp] theorem status_evt (s : State) (st : Nat) : (s.status st).evt = s.evt := rfl
@[simp] theorem status_prt (s : State) (st : Nat) : (s.status st).prt = s.prt := rfl
@[simp] theorem status_ing (s : State) (st : Nat) : (s.status st).ing = s.ing := rfl
@[simp] theorem status_sti (s : State) (st : Nat) : (s.status st).sti = s.sti := rfl
@[simp] theorem status_vg (s : State) (st : Nat) : (s.status st).vg = s.vg := rfl
@[simp] theorem status_seg (s : State) (st : Nat) : (s.status st).seg = s.seg := rfl
@[simp] theorem status_sdf (s : State) (st : Nat) : (s.status st).sdf = s.sdf := rfl
@[simp] theorem status_flt (s : State) (st : Nat) : (s.status st).flt = s.flt := rfl
@[simp] theorem status_lane (s : State) (st : Nat) : (s.status st).lane = s.lane := rfl
@[simp] theorem status_np (s : State) (st : Nat) : (s.status st).np = s.np := rfl
@[simp] theorem status_isp (s : State) (st : Nat) : (s.status st).isp = s.isp := rfl
@[simp] theorem status_dmc (s : State) (st : Nat) : (s.status st).dmc = s.dmc := rfl
@[simp] theorem status_dma (s : State) (st : Nat) : (s.status st).dma = s.dma := rfl
@[simp] theorem status_tw (s : State) (st : Nat) : (s.status st).tw = s.tw := rfl
@[simp] theorem status_pwr (s : State) (st : Nat) : (s.status st).pwr = s.pwr := rfl
@[simp] theorem status_cal (s : State) (st : Nat) : (s.status st).cal = s.cal := rfl
@[simp] theorem status_boot (s : State) (st : Nat) : (s.status st).boot = s.boot := rfl
@[simp] theorem status_jtag (s : State) (st : Nat) : (s.status st).jtag = s.jtag := rfl
@[simp] theorem status_scan (s : State) (st : Nat) : (s.status st).scan = s.scan := rfl
@[simp] theorem status_ddr (s : State) (st : Nat) : (s.status st).ddr = s.ddr := rfl
@[simp] theorem status_poison (s : State) (st : Nat) : (s.status st).poison = s.poison := rfl
@[simp] theorem status_freeCtr (s : State) (st : Nat) : (s.status st).freeCtr = s.freeCtr := rfl
@[simp] theorem status_out (s : State) (st : Nat) : (s.status st).out = s.out := rfl
@[simp] theorem status_pending (s : State) (st : Nat) : (s.status st).pending = s.pending := rfl
@[simp] theorem status_rd (s : State) (st : Nat) (off : Nat) : (s.status st).rd off = s.rd off := rfl
@[simp] theorem status_fld (s : State) (st : Nat) (g : Fld) : (s.status st).fld g = s.fld g := rfl
@[simp] theorem status_bit (s : State) (st : Nat) (g : Fld) : (s.status st).bit g = s.bit g := rfl

/-! ### State.modEnc -/

@[simp] theorem modEnc_board (s : State) (n : Nat) (f : EncS → EncS) : (s.modEnc n f).board = s.board := rfl
@[simp] theorem modEnc_regs (s : State) (n : Nat) (f : EncS → EncS) : (s.modEnc n f).regs = s.regs := rfl
@[simp] theorem modEnc_hq (s : State) (n : Nat) (f : EncS → EncS) : (s.modEnc n f).hq = s.hq := rfl
@[simp] theorem modEnc_time (s : State) (n : Nat) (f : EncS → EncS) : (s.modEnc n f).time = s.time := rfl
@[simp] theorem modEnc_cfg (s : State) (n : Nat) (f : EncS → EncS) : (s.modEnc n f).cfg = s.cfg := rfl
@[simp] theorem modEnc_cu (s : State) (n : Nat) (f : EncS → EncS) : (s.modEnc n f).cu = s.cu := rfl
@[simp] theorem modEnc_absIn (s : State) (n : Nat) (f : EncS → EncS) : (s.modEnc n f).absIn = s.absIn := rfl
@[simp] theorem modEnc_sw (s : State) (n : Nat) (f : EncS → EncS) : (s.modEnc n f).sw = s.sw := rfl
@[simp] theorem modEnc_evt (s : State) (n : Nat) (f : EncS → EncS) : (s.modEnc n f).evt = s.evt := rfl
@[simp] theorem modEnc_prt (s : State) (n : Nat) (f : EncS → EncS) : (s.modEnc n f).prt = s.prt := rfl
@[simp] theorem modEnc_ing (s : State) (n : Nat) (f : EncS → EncS) : (s.modEnc n f).ing = s.ing := rfl
@[simp] theorem modEnc_sti (s : State) (n : Nat) (f : EncS → EncS) : (s.modEnc n f).sti = s.sti := rfl
@[simp] theorem modEnc_vg (s : State) (n : Nat) (f : EncS → EncS) : (s.modEnc n f).vg = s.vg := rfl
@[simp] theorem modEnc_seg (s : State) (n : Nat) (f : EncS → EncS) : (s.modEnc n f).seg = s.seg := rfl
@[simp] theorem modEnc_sdf (s : State) (n : Nat) (f : EncS → EncS) : (s.modEnc n f).sdf = s.sdf := rfl
@[simp] theorem modEnc_flt (s : State) (n : Nat) (f : EncS → EncS) : (s.modEnc n f).flt = s.flt := rfl
@[simp] theorem modEnc_lane (s : State) (n : Nat) (f : EncS → EncS) : (s.modEnc n f).lane = s.lane := rfl
@[simp] theorem modEnc_np (s : State) (n : Nat) (f : EncS → EncS) : (s.modEnc n f).np = s.np := rfl
@[simp] theorem modEnc_isp (s : State) (n : Nat) (f : EncS → EncS) : (s.modEnc n f).isp = s.isp := rfl
@[simp] theorem modEnc_dmc (s : State) (n : Nat) (f : EncS → EncS) : (s.modEnc n f).dmc = s.dmc := rfl
@[simp] theorem modEnc_dma (s : State) (n : Nat) (f : EncS → EncS) : (s.modEnc n f).dma = s.dma := rfl
@[simp] theorem modEnc_tw (s : State) (n : Nat) (f : EncS → EncS) : (s.modEnc n f).tw = s.tw := rfl
@[simp] theorem modEnc_pwr (s : State) (n : Nat) (f : EncS → EncS) : (s.modEnc n f).pwr = s.pwr := rfl
@[simp] theorem modEnc_cal (s : State) (n : Nat) (f : EncS → EncS) : (s.modEnc n f).cal = s.cal := rfl
@[simp] theorem modEnc_boot (s : State) (n : Nat) (f : EncS → EncS) : (s.modEnc n f).boot = s.boot := rfl
@[simp] theorem modEnc_jtag (s : State) (n : Nat) (f : EncS → EncS) : (s.modEnc n f).jtag = s.jtag := rfl
@[simp] theorem modEnc_scan (s : State) (n : Nat) (f : EncS → EncS) : (s.modEnc n f).scan = s.scan := rfl
@[simp] theorem modEnc_ddr (s : State) (n : Nat) (f : EncS → EncS) : (s.modEnc n f).ddr = s.ddr := rfl
@[simp] theorem modEnc_poison (s : State) (n : Nat) (f : EncS → EncS) : (s.modEnc n f).poison = s.poison := rfl
@[simp] theorem modEnc_lastStatus (s : State) (n : Nat) (f : EncS → EncS) : (s.modEnc n f).lastStatus = s.lastStatus := rfl
@[simp] theorem modEnc_freeCtr (s : State) (n : Nat) (f : EncS → EncS) : (s.modEnc n f).freeCtr = s.freeCtr := rfl
@[simp] theorem modEnc_out (s : State) (n : Nat) (f : EncS → EncS) : (s.modEnc n f).out = s.out := rfl
@[simp] theorem modEnc_pending (s : State) (n : Nat) (f : EncS → EncS) : (s.modEnc n f).pending = s.pending := rfl
@[simp] theorem modEnc_rd (s : State) (n : Nat) (f : EncS → EncS) (off : Nat) : (s.modEnc n f).rd off = s.rd off := rfl
@[simp] theorem modEnc_fld (s : State) (n : Nat) (f : EncS → EncS) (g : Fld) : (s.modEnc n f).fld g = s.fld g := rfl
@[simp] theorem modEnc_bit (s : State) (n : Nat) (f : EncS → EncS) (g : Fld) : (s.modEnc n f).bit g = s.bit g := rfl

/-! ### State.modCu -/

@[simp] theorem modCu_board (s : State) (n : Nat) (f : CuS → CuS) : (s.modCu n f).board = s.board := rfl
@[simp] theorem modCu_regs (s : State) (n : Nat) (f : CuS → CuS) : (s.modCu n f).regs = s.regs := rfl
@[simp] theorem modCu_hq (s : State) (n : Nat) (f : CuS → CuS) : (s.modCu n f).hq = s.hq := rfl
@[simp] theorem modCu_time (s : State) (n : Nat) (f : CuS → CuS) : (s.modCu n f).time = s.time := rfl
@[simp] theorem modCu_cfg (s : State) (n : Nat) (f : CuS → CuS) : (s.modCu n f).cfg = s.cfg := rfl
@[simp] theorem modCu_enc (s : State) (n : Nat) (f : CuS → CuS) : (s.modCu n f).enc = s.enc := rfl
@[simp] theorem modCu_absIn (s : State) (n : Nat) (f : CuS → CuS) : (s.modCu n f).absIn = s.absIn := rfl
@[simp] theorem modCu_sw (s : State) (n : Nat) (f : CuS → CuS) : (s.modCu n f).sw = s.sw := rfl
@[simp] theorem modCu_evt (s : State) (n : Nat) (f : CuS → CuS) : (s.modCu n f).evt = s.evt := rfl
@[simp] theorem modCu_prt (s : State) (n : Nat) (f : CuS → CuS) : (s.modCu n f).prt = s.prt := rfl
@[simp] theorem modCu_ing (s : State) (n : Nat) (f : CuS → CuS) : (s.modCu n f).ing = s.ing := rfl
@[simp] theorem modCu_sti (s : State) (n : Nat) (f : CuS → CuS) : (s.modCu n f).sti = s.sti := rfl
@[simp] theorem modCu_vg (s : State) (n : Nat) (f : CuS → CuS) : (s.modCu n f).vg = s.vg := rfl
@[simp] theorem modCu_seg (s : State) (n : Nat) (f : CuS → CuS) : (s.modCu n f).seg = s.seg := rfl
@[simp] theorem modCu_sdf (s : State) (n : Nat) (f : CuS → CuS) : (s.modCu n f).sdf = s.sdf := rfl
@[simp] theorem modCu_flt (s : State) (n : Nat) (f : CuS → CuS) : (s.modCu n f).flt = s.flt := rfl
@[simp] theorem modCu_lane (s : State) (n : Nat) (f : CuS → CuS) : (s.modCu n f).lane = s.lane := rfl
@[simp] theorem modCu_np (s : State) (n : Nat) (f : CuS → CuS) : (s.modCu n f).np = s.np := rfl
@[simp] theorem modCu_isp (s : State) (n : Nat) (f : CuS → CuS) : (s.modCu n f).isp = s.isp := rfl
@[simp] theorem modCu_dmc (s : State) (n : Nat) (f : CuS → CuS) : (s.modCu n f).dmc = s.dmc := rfl
@[simp] theorem modCu_dma (s : State) (n : Nat) (f : CuS → CuS) : (s.modCu n f).dma = s.dma := rfl
@[simp] theorem modCu_tw (s : State) (n : Nat) (f : CuS → CuS) : (s.modCu n f).tw = s.tw := rfl
@[simp] theorem modCu_pwr (s : State) (n : Nat) (f : CuS → CuS) : (s.modCu n f).pwr = s.pwr := rfl
@[simp] theorem modCu_cal (s : State) (n : Nat) (f : CuS → CuS) : (s.modCu n f).cal = s.cal := rfl
@[simp] theorem modCu_boot (s : State) (n : Nat) (f : CuS → CuS) : (s.modCu n f).boot = s.boot := rfl
@[simp] theorem modCu_jtag (s : State) (n : Nat) (f : CuS → CuS) : (s.modCu n f).jtag = s.jtag := rfl
@[simp] theorem modCu_scan (s : State) (n : Nat) (f : CuS → CuS) : (s.modCu n f).scan = s.scan := rfl
@[simp] theorem modCu_ddr (s : State) (n : Nat) (f : CuS → CuS) : (s.modCu n f).ddr = s.ddr := rfl
@[simp] theorem modCu_poison (s : State) (n : Nat) (f : CuS → CuS) : (s.modCu n f).poison = s.poison := rfl
@[simp] theorem modCu_lastStatus (s : State) (n : Nat) (f : CuS → CuS) : (s.modCu n f).lastStatus = s.lastStatus := rfl
@[simp] theorem modCu_freeCtr (s : State) (n : Nat) (f : CuS → CuS) : (s.modCu n f).freeCtr = s.freeCtr := rfl
@[simp] theorem modCu_out (s : State) (n : Nat) (f : CuS → CuS) : (s.modCu n f).out = s.out := rfl
@[simp] theorem modCu_pending (s : State) (n : Nat) (f : CuS → CuS) : (s.modCu n f).pending = s.pending := rfl
@[simp] theorem modCu_rd (s : State) (n : Nat) (f : CuS → CuS) (off : Nat) : (s.modCu n f).rd off = s.rd off := rfl
@[simp] theorem modCu_fld (s : State) (n : Nat) (f : CuS → CuS) (g : Fld) : (s.modCu n f).fld g = s.fld g := rfl
@[simp] theorem modCu_bit (s : State) (n : Nat) (f : CuS → CuS) (g : Fld) : (s.modCu n f).bit g = s.bit g := rfl

/-! ### State.modIng -/

@[simp] theorem modIng_board (s : State) (n : Nat) (f : IngS → IngS) : (s.modIng n f).board = s.board := rfl
@[simp] theorem modIng_regs (s : State) (n : Nat) (f : IngS → IngS) : (s.modIng n f).regs = s.regs := rfl
@[simp] theorem modIng_hq (s : State) (n : Nat) (f : IngS → IngS) : (s.modIng n f).hq = s.hq := rfl
@[simp] theorem modIng_time (s : State) (n : Nat) (f : IngS → IngS) : (s.modIng n f).time = s.time := rfl
@[simp] theorem modIng_cfg (s : State) (n : Nat) (f : IngS → IngS) : (s.modIng n f).cfg = s.cfg := rfl
@[simp] theorem modIng_enc (s : State) (n : Nat) (f : IngS → IngS) : (s.modIng n f).enc = s.enc := rfl
@[simp] theorem modIng_cu (s : State) (n : Nat) (f : IngS → IngS) : (s.modIng n f).cu = s.cu := rfl
@[simp] theorem modIng_absIn (s : State) (n : Nat) (f : IngS → IngS) : (s.modIng n f).absIn = s.absIn := rfl
@[simp] theorem modIng_sw (s : State) (n : Nat) (f : IngS → IngS) : (s.modIng n f).sw = s.sw := rfl
@[simp] theorem modIng_evt (s : State) (n : Nat) (f : IngS → IngS) : (s.modIng n f).evt = s.evt := rfl
@[simp] theorem modIng_prt (s : State) (n : Nat) (f : IngS → IngS) : (s.modIng n f).prt = s.prt := rfl
@[simp] theorem modIng_sti (s : State) (n : Nat) (f : IngS → IngS) : (s.modIng n f).sti = s.sti := rfl
@[simp] theorem modIng_vg (s : State) (n : Nat) (f : IngS → IngS) : (s.modIng n f).vg = s.vg := rfl
@[simp] theorem modIng_seg (s : State) (n : Nat) (f : IngS → IngS) : (s.modIng n f).seg = s.seg := rfl
@[simp] theorem modIng_sdf (s : State) (n : Nat) (f : IngS → IngS) : (s.modIng n f).sdf = s.sdf := rfl
@[simp] theorem modIng_flt (s : State) (n : Nat) (f : IngS → IngS) : (s.modIng n f).flt = s.flt := rfl
@[simp] theorem modIng_lane (s : State) (n : Nat) (f : IngS → IngS) : (s.modIng n f).lane = s.lane := rfl
@[simp] theorem modIng_np (s : State) (n : Nat) (f : IngS → IngS) : (s.modIng n f).np = s.np := rfl
@[simp] theorem modIng_isp (s : State) (n : Nat) (f : IngS → IngS) : (s.modIng n f).isp = s.isp := rfl
@[simp] theorem modIng_dmc (s : State) (n : Nat) (f : IngS → IngS) : (s.modIng n f).dmc = s.dmc := rfl
@[simp] theorem modIng_dma (s : State) (n : Nat) (f : IngS → IngS) : (s.modIng n f).dma = s.dma := rfl
@[simp] theorem modIng_tw (s : State) (n : Nat) (f : IngS → IngS) : (s.modIng n f).tw = s.tw := rfl
@[simp] theorem modIng_pwr (s : State) (n : Nat) (f : IngS → IngS) : (s.modIng n f).pwr = s.pwr := rfl
@[simp] theorem modIng_cal (s : State) (n : Nat) (f : IngS → IngS) : (s.modIng n f).cal = s.cal := rfl
@[simp] theorem modIng_boot (s : State) (n : Nat) (f : IngS → IngS) : (s.modIng n f).boot = s.boot := rfl
@[simp] theorem modIng_jtag (s : State) (n : Nat) (f : IngS → IngS) : (s.modIng n f).jtag = s.jtag := rfl
@[simp] theorem modIng_scan (s : State) (n : Nat) (f : IngS → IngS) : (s.modIng n f).scan = s.scan := rfl
@[simp] theorem modIng_ddr (s : State) (n : Nat) (f : IngS → IngS) : (s.modIng n f).ddr = s.ddr := rfl
@[simp] theorem modIng_poison (s : State) (n : Nat) (f : IngS → IngS) : (s.modIng n f).poison = s.poison := rfl
@[simp] theorem modIng_lastStatus (s : State) (n : Nat) (f : IngS → IngS) : (s.modIng n f).lastStatus = s.lastStatus := rfl
@[simp] theorem modIng_freeCtr (s : State) (n : Nat) (f : IngS → IngS) : (s.modIng n f).freeCtr = s.freeCtr := rfl
@[simp] theorem modIng_out (s : State) (n : Nat) (f : IngS → IngS) : (s.modIng n f).out = s.out := rfl
@[simp] theorem modIng_pending (s : State) (n : Nat) (f : IngS → IngS) : (s.modIng n f).pending = s.pending := rfl
@[simp] theorem modIng_rd (s : State) (n : Nat) (f : IngS → IngS) (off : Nat) : (s.modIng n f).rd off = s.rd off := rfl
@[simp] theorem modIng_fld (s : State) (n : Nat) (f : IngS → IngS) (g : Fld) : (s.modIng n f).fld g = s.fld g := rfl
@[simp] theorem modIng_bit (s : State) (n : Nat) (f : IngS → IngS) (g : Fld) : (s.modIng n f).bit g = s.bit g := rfl

/-! ### State.modPrt -/

@[simp] theorem modPrt_board (s : State) (n : Nat) (f : PrtS → PrtS) : (s.modPrt n f).board = s.board := rfl
@[simp] theorem modPrt_regs (s : State) (n : Nat) (f : PrtS → PrtS) : (s.modPrt n f).regs = s.regs := rfl
@[simp] theorem modPrt_hq (s : State) (n : Nat) (f : PrtS → PrtS) : (s.modPrt n f).hq = s.hq := rfl
@[simp] theorem modPrt_time (s : State) (n : Nat) (f : PrtS → PrtS) : (s.modPrt n f).time = s.time := rfl
@[simp] theorem modPrt_cfg (s : State) (n : Nat) (f : PrtS → PrtS) : (s.modPrt n f).cfg = s.cfg := rfl
@[simp] theorem modPrt_enc (s : State) (n : Nat) (f : PrtS → PrtS) : (s.modPrt n f).enc = s.enc := rfl
@[simp] theorem modPrt_cu (s : State) (n : Nat) (f : PrtS → PrtS) : (s.modPrt n f).cu = s.cu := rfl
@[simp] theorem modPrt_absIn (s : State) (n : Nat) (f : PrtS → PrtS) : (s.modPrt n f).absIn = s.absIn := rfl
@[simp] theorem modPrt_sw (s : State) (n : Nat) (f : PrtS → PrtS) : (s.modPrt n f).sw = s.sw := rfl
@[simp] theorem modPrt_evt (s : State) (n : Nat) (f : PrtS → PrtS) : (s.modPrt n f).evt = s.evt := rfl
@[simp] theorem modPrt_ing (s : State) (n : Nat) (f : PrtS → PrtS) : (s.modPrt n f).ing = s.ing := rfl
@[simp] theorem modPrt_sti (s : State) (n : Nat) (f : PrtS → PrtS) : (s.modPrt n f).sti = s.sti := rfl
@[simp] theorem modPrt_vg (s : State) (n : Nat) (f : PrtS → PrtS) : (s.modPrt n f).vg = s.vg := rfl
@[simp] theorem modPrt_seg (s : State) (n : Nat) (f : PrtS → PrtS) : (s.modPrt n f).seg = s.seg := rfl
@[simp] theorem modPrt_sdf (s : State) (n : Nat) (f : PrtS → PrtS) : (s.modPrt n f).sdf = s.sdf := rfl
@[simp] theorem modPrt_flt (s : State) (n : Nat) (f : PrtS → PrtS) : (s.modPrt n f).flt = s.flt := rfl
@[simp] theorem modPrt_lane (s : State) (n : Nat) (f : PrtS → PrtS) : (s.modPrt n f).lane = s.lane := rfl
@[simp] theorem modPrt_np (s : State) (n : Nat) (f : PrtS → PrtS) : (s.modPrt n f).np = s.np := rfl
@[simp] theorem modPrt_isp (s : State) (n : Nat) (f : PrtS → PrtS) : (s.modPrt n f).isp = s.isp := rfl
@[simp] theorem modPrt_dmc (s : State) (n : Nat) (f : PrtS → PrtS) : (s.modPrt n f).dmc = s.dmc := rfl
@[simp] theorem modPrt_dma (s : State) (n : Nat) (f : PrtS → PrtS) : (s.modPrt n f).dma = s.dma := rfl
@[simp] theorem modPrt_tw (s : State) (n : Nat) (f : PrtS → PrtS) : (s.modPrt n f).tw = s.tw := rfl
@[simp] theorem modPrt_pwr (s : State) (n : Nat) (f : PrtS → PrtS) : (s.modPrt n f).pwr = s.pwr := rfl
@[simp] theorem modPrt_cal (s : State) (n : Nat) (f : PrtS → PrtS) : (s.modPrt n f).cal = s.cal := rfl
@[simp] theorem modPrt_boot (s : State) (n : Nat) (f : PrtS → PrtS) : (s.modPrt n f).boot = s.boot := rfl
@[simp] theorem modPrt_jtag (s : State) (n : Nat) (f : PrtS → PrtS) : (s.modPrt n f).jtag = s.jtag := rfl
@[simp] theorem modPrt_scan (s : State) (n : Nat) (f : PrtS → PrtS) : (s.modPrt n f).scan = s.scan := rfl
@[simp] theorem modPrt_ddr (s : State) (n : Nat) (f : PrtS → PrtS) : (s.modPrt n f).ddr = s.ddr := rfl
@[simp] theorem modPrt_poison (s : State) (n : Nat) (f : PrtS → PrtS) : (s.modPrt n f).poison = s.poison := rfl
@[simp] theorem modPrt_lastStatus (s : State) (n : Nat) (f : PrtS → PrtS) : (s.modPrt n f).lastStatus = s.lastStatus := rfl
@[simp] theorem modPrt_freeCtr (s : State) (n : Nat) (f : PrtS → PrtS) : (s.modPrt n f).freeCtr = s.freeCtr := rfl
@[simp] theorem modPrt_out (s : State) (n : Nat) (f : PrtS → PrtS) : (s.modPrt n f).out = s.out := rfl
@[simp] theorem modPrt_pending (s : State) (n : Nat) (f : PrtS → PrtS) : (s.modPrt n f).pending = s.pending := rfl
@[simp] theorem modPrt_rd (s : State) (n : Nat) (f : PrtS → PrtS) (off : Nat) : (s.modPrt n f).rd off = s.rd off := rfl
@[simp] theorem modPrt_fld (s : State) (n : Nat) (f : PrtS → PrtS) (g : Fld) : (s.modPrt n f).fld g = s.fld g := rfl
@[simp] theorem modPrt_bit (s : State) (n : Nat) (f : PrtS → PrtS) (g : Fld) : (s.modPrt n f).bit g = s.bit g := rfl

/-! ### State.modNp -/

@[simp] theorem modNp_board (s : State) (n : Nat) (f : NpS → NpS) : (s.modNp n f).board = s.board := rfl
@[simp] theorem modNp_regs (s : State) (n : Nat) (f : NpS → NpS) : (s.modNp n f).regs = s.regs := rfl
@[simp] theorem modNp_hq (s : State) (n : Nat) (f : NpS → NpS) : (s.modNp n f).hq = s.hq := rfl
@[simp] theorem modNp_time (s : State) (n : Nat) (f : NpS → NpS) : (s.modNp n f).time = s.time := rfl
@[simp] theorem modNp_cfg (s : State) (n : Nat) (f : NpS → NpS) : (s.modNp n f).cfg = s.cfg := rfl
@[simp] theorem modNp_enc (s : State) (n : Nat) (f : NpS → NpS) : (s.modNp n f).enc = s.enc := rfl
@[simp] theorem modNp_cu (s : State) (n : Nat) (f : NpS → NpS) : (s.modNp n f).cu = s.cu := rfl
@[simp] theorem modNp_absIn (s : State) (n : Nat) (f : NpS → NpS) : (s.modNp n f).absIn = s.absIn := rfl
@[simp] theorem modNp_sw (s : State) (n : Nat) (f : NpS → NpS) : (s.modNp n f).sw = s.sw := rfl
@[simp] theorem modNp_evt (s : State) (n : Nat) (f : NpS → NpS) : (s.modNp n f).evt = s.evt := rfl
@[simp] theorem modNp_prt (s : State) (n : Nat) (f : NpS → NpS) : (s.modNp n f).prt = s.prt := rfl
@[simp] theorem modNp_ing (s : State) (n : Nat) (f : NpS → NpS) : (s.modNp n f).ing = s.ing := rfl
@[simp] theorem modNp_sti (s : State) (n : Nat) (f : NpS → NpS) : (s.modNp n f).sti = s.sti := rfl
@[simp] theorem modNp_vg (s : State) (n : Nat) (f : NpS → NpS) : (s.modNp n f).vg = s.vg := rfl
@[simp] theorem modNp_seg (s : State) (n : Nat) (f : NpS → NpS) : (s.modNp n f).seg = s.seg := rfl
@[simp] theorem modNp_sdf (s : State) (n : Nat) (f : NpS → NpS) : (s.modNp n f).sdf = s.sdf := rfl
@[simp] theorem modNp_flt (s : State) (n : Nat) (f : NpS → NpS) : (s.modNp n f).flt = s.flt := rfl
@[simp] theorem modNp_lane (s : State) (n : Nat) (f : NpS → NpS) : (s.modNp n f).lane = s.lane := rfl
@[simp] theorem modNp_isp (s : State) (n : Nat) (f : NpS → NpS) : (s.modNp n f).isp = s.isp := rfl
@[simp] theorem modNp_dmc (s : State) (n : Nat) (f : NpS → NpS) : (s.modNp n f).dmc = s.dmc := rfl
@[simp] theorem modNp_dma (s : State) (n : Nat) (f : NpS → NpS) : (s.modNp n f).dma = s.dma := rfl
@[simp] theorem modNp_tw (s : State) (n : Nat) (f : NpS → NpS) : (s.modNp n f).tw = s.tw := rfl
@[simp] theorem modNp_pwr (s : State) (n : Nat) (f : NpS → NpS) : (s.modNp n f).pwr = s.pwr := rfl
@[simp] theorem modNp_cal (s : State) (n : Nat) (f : NpS → NpS) : (s.modNp n f).cal = s.cal := rfl
@[simp] theorem modNp_boot (s : State) (n : Nat) (f : NpS → NpS) : (s.modNp n f).boot = s.boot := rfl
@[simp] theorem modNp_jtag (s : State) (n : Nat) (f : NpS → NpS) : (s.modNp n f).jtag = s.jtag := rfl
@[simp] theorem modNp_scan (s : State) (n : Nat) (f : NpS → NpS) : (s.modNp n f).scan = s.scan := rfl
@[simp] theorem modNp_ddr (s : State) (n : Nat) (f : NpS → NpS) : (s.modNp n f).ddr = s.ddr := rfl
@[simp] theorem modNp_poison (s : State) (n : Nat) (f : NpS → NpS) : (s.modNp n f).poison = s.poison := rfl
@[simp] theorem modNp_lastStatus (s : State) (n : Nat) (f : NpS → NpS) : (s.modNp n f).lastStatus = s.lastStatus := rfl
@[simp] theorem modNp_freeCtr (s : State) (n : Nat) (f : NpS → NpS) : (s.modNp n f).freeCtr = s.freeCtr := rfl
@[simp] theorem modNp_out (s : State) (n : Nat) (f : NpS → NpS) : (s.modNp n f).out = s.out := rfl
@[simp] theorem modNp_pending (s : State) (n : Nat) (f : NpS → NpS) : (s.modNp n f).pending = s.pending := rfl
@[simp] theorem modNp_rd (s : State) (n : Nat) (f : NpS → NpS) (off : Nat) : (s.modNp n f).rd off = s.rd off := rfl
@[simp] theorem modNp_fld (s : State) (n : Nat) (f : NpS → NpS) (g : Fld) : (s.modNp n f).fld g = s.fld g := rfl
@[simp] theorem modNp_bit (s : State) (n : Nat) (f : NpS → NpS) (g : Fld) : (s.modNp n f).bit g = s.bit g := rfl

/-! ### State.modSeam -/

@[simp] theorem modSeam_board (s : State) (n : Nat) (f : SeamS → SeamS) : (s.modSeam n f).board = s.board := rfl
@[simp] theorem modSeam_regs (s : State) (n : Nat) (f : SeamS → SeamS) : (s.modSeam n f).regs = s.regs := rfl
@[simp] theorem modSeam_hq (s : State) (n : Nat) (f : SeamS → SeamS) : (s.modSeam n f).hq = s.hq := rfl
@[simp] theorem modSeam_time (s : State) (n : Nat) (f : SeamS → SeamS) : (s.modSeam n f).time = s.time := rfl
@[simp] theorem modSeam_cfg (s : State) (n : Nat) (f : SeamS → SeamS) : (s.modSeam n f).cfg = s.cfg := rfl
@[simp] theorem modSeam_enc (s : State) (n : Nat) (f : SeamS → SeamS) : (s.modSeam n f).enc = s.enc := rfl
@[simp] theorem modSeam_cu (s : State) (n : Nat) (f : SeamS → SeamS) : (s.modSeam n f).cu = s.cu := rfl
@[simp] theorem modSeam_absIn (s : State) (n : Nat) (f : SeamS → SeamS) : (s.modSeam n f).absIn = s.absIn := rfl
@[simp] theorem modSeam_sw (s : State) (n : Nat) (f : SeamS → SeamS) : (s.modSeam n f).sw = s.sw := rfl
@[simp] theorem modSeam_evt (s : State) (n : Nat) (f : SeamS → SeamS) : (s.modSeam n f).evt = s.evt := rfl
@[simp] theorem modSeam_prt (s : State) (n : Nat) (f : SeamS → SeamS) : (s.modSeam n f).prt = s.prt := rfl
@[simp] theorem modSeam_ing (s : State) (n : Nat) (f : SeamS → SeamS) : (s.modSeam n f).ing = s.ing := rfl
@[simp] theorem modSeam_vg (s : State) (n : Nat) (f : SeamS → SeamS) : (s.modSeam n f).vg = s.vg := rfl
@[simp] theorem modSeam_seg (s : State) (n : Nat) (f : SeamS → SeamS) : (s.modSeam n f).seg = s.seg := rfl
@[simp] theorem modSeam_sdf (s : State) (n : Nat) (f : SeamS → SeamS) : (s.modSeam n f).sdf = s.sdf := rfl
@[simp] theorem modSeam_flt (s : State) (n : Nat) (f : SeamS → SeamS) : (s.modSeam n f).flt = s.flt := rfl
@[simp] theorem modSeam_lane (s : State) (n : Nat) (f : SeamS → SeamS) : (s.modSeam n f).lane = s.lane := rfl
@[simp] theorem modSeam_np (s : State) (n : Nat) (f : SeamS → SeamS) : (s.modSeam n f).np = s.np := rfl
@[simp] theorem modSeam_isp (s : State) (n : Nat) (f : SeamS → SeamS) : (s.modSeam n f).isp = s.isp := rfl
@[simp] theorem modSeam_dmc (s : State) (n : Nat) (f : SeamS → SeamS) : (s.modSeam n f).dmc = s.dmc := rfl
@[simp] theorem modSeam_dma (s : State) (n : Nat) (f : SeamS → SeamS) : (s.modSeam n f).dma = s.dma := rfl
@[simp] theorem modSeam_tw (s : State) (n : Nat) (f : SeamS → SeamS) : (s.modSeam n f).tw = s.tw := rfl
@[simp] theorem modSeam_pwr (s : State) (n : Nat) (f : SeamS → SeamS) : (s.modSeam n f).pwr = s.pwr := rfl
@[simp] theorem modSeam_cal (s : State) (n : Nat) (f : SeamS → SeamS) : (s.modSeam n f).cal = s.cal := rfl
@[simp] theorem modSeam_boot (s : State) (n : Nat) (f : SeamS → SeamS) : (s.modSeam n f).boot = s.boot := rfl
@[simp] theorem modSeam_jtag (s : State) (n : Nat) (f : SeamS → SeamS) : (s.modSeam n f).jtag = s.jtag := rfl
@[simp] theorem modSeam_scan (s : State) (n : Nat) (f : SeamS → SeamS) : (s.modSeam n f).scan = s.scan := rfl
@[simp] theorem modSeam_ddr (s : State) (n : Nat) (f : SeamS → SeamS) : (s.modSeam n f).ddr = s.ddr := rfl
@[simp] theorem modSeam_poison (s : State) (n : Nat) (f : SeamS → SeamS) : (s.modSeam n f).poison = s.poison := rfl
@[simp] theorem modSeam_lastStatus (s : State) (n : Nat) (f : SeamS → SeamS) : (s.modSeam n f).lastStatus = s.lastStatus := rfl
@[simp] theorem modSeam_freeCtr (s : State) (n : Nat) (f : SeamS → SeamS) : (s.modSeam n f).freeCtr = s.freeCtr := rfl
@[simp] theorem modSeam_out (s : State) (n : Nat) (f : SeamS → SeamS) : (s.modSeam n f).out = s.out := rfl
@[simp] theorem modSeam_pending (s : State) (n : Nat) (f : SeamS → SeamS) : (s.modSeam n f).pending = s.pending := rfl
@[simp] theorem modSeam_rd (s : State) (n : Nat) (f : SeamS → SeamS) (off : Nat) : (s.modSeam n f).rd off = s.rd off := rfl
@[simp] theorem modSeam_fld (s : State) (n : Nat) (f : SeamS → SeamS) (g : Fld) : (s.modSeam n f).fld g = s.fld g := rfl
@[simp] theorem modSeam_bit (s : State) (n : Nat) (f : SeamS → SeamS) (g : Fld) : (s.modSeam n f).bit g = s.bit g := rfl

/-! ### State.modVu -/

@[simp] theorem modVu_board (s : State) (n : Nat) (f : VuS → VuS) : (s.modVu n f).board = s.board := rfl
@[simp] theorem modVu_regs (s : State) (n : Nat) (f : VuS → VuS) : (s.modVu n f).regs = s.regs := rfl
@[simp] theorem modVu_hq (s : State) (n : Nat) (f : VuS → VuS) : (s.modVu n f).hq = s.hq := rfl
@[simp] theorem modVu_time (s : State) (n : Nat) (f : VuS → VuS) : (s.modVu n f).time = s.time := rfl
@[simp] theorem modVu_cfg (s : State) (n : Nat) (f : VuS → VuS) : (s.modVu n f).cfg = s.cfg := rfl
@[simp] theorem modVu_enc (s : State) (n : Nat) (f : VuS → VuS) : (s.modVu n f).enc = s.enc := rfl
@[simp] theorem modVu_cu (s : State) (n : Nat) (f : VuS → VuS) : (s.modVu n f).cu = s.cu := rfl
@[simp] theorem modVu_absIn (s : State) (n : Nat) (f : VuS → VuS) : (s.modVu n f).absIn = s.absIn := rfl
@[simp] theorem modVu_sw (s : State) (n : Nat) (f : VuS → VuS) : (s.modVu n f).sw = s.sw := rfl
@[simp] theorem modVu_evt (s : State) (n : Nat) (f : VuS → VuS) : (s.modVu n f).evt = s.evt := rfl
@[simp] theorem modVu_prt (s : State) (n : Nat) (f : VuS → VuS) : (s.modVu n f).prt = s.prt := rfl
@[simp] theorem modVu_ing (s : State) (n : Nat) (f : VuS → VuS) : (s.modVu n f).ing = s.ing := rfl
@[simp] theorem modVu_sti (s : State) (n : Nat) (f : VuS → VuS) : (s.modVu n f).sti = s.sti := rfl
@[simp] theorem modVu_seg (s : State) (n : Nat) (f : VuS → VuS) : (s.modVu n f).seg = s.seg := rfl
@[simp] theorem modVu_sdf (s : State) (n : Nat) (f : VuS → VuS) : (s.modVu n f).sdf = s.sdf := rfl
@[simp] theorem modVu_flt (s : State) (n : Nat) (f : VuS → VuS) : (s.modVu n f).flt = s.flt := rfl
@[simp] theorem modVu_lane (s : State) (n : Nat) (f : VuS → VuS) : (s.modVu n f).lane = s.lane := rfl
@[simp] theorem modVu_np (s : State) (n : Nat) (f : VuS → VuS) : (s.modVu n f).np = s.np := rfl
@[simp] theorem modVu_isp (s : State) (n : Nat) (f : VuS → VuS) : (s.modVu n f).isp = s.isp := rfl
@[simp] theorem modVu_dmc (s : State) (n : Nat) (f : VuS → VuS) : (s.modVu n f).dmc = s.dmc := rfl
@[simp] theorem modVu_dma (s : State) (n : Nat) (f : VuS → VuS) : (s.modVu n f).dma = s.dma := rfl
@[simp] theorem modVu_tw (s : State) (n : Nat) (f : VuS → VuS) : (s.modVu n f).tw = s.tw := rfl
@[simp] theorem modVu_pwr (s : State) (n : Nat) (f : VuS → VuS) : (s.modVu n f).pwr = s.pwr := rfl
@[simp] theorem modVu_cal (s : State) (n : Nat) (f : VuS → VuS) : (s.modVu n f).cal = s.cal := rfl
@[simp] theorem modVu_boot (s : State) (n : Nat) (f : VuS → VuS) : (s.modVu n f).boot = s.boot := rfl
@[simp] theorem modVu_jtag (s : State) (n : Nat) (f : VuS → VuS) : (s.modVu n f).jtag = s.jtag := rfl
@[simp] theorem modVu_scan (s : State) (n : Nat) (f : VuS → VuS) : (s.modVu n f).scan = s.scan := rfl
@[simp] theorem modVu_ddr (s : State) (n : Nat) (f : VuS → VuS) : (s.modVu n f).ddr = s.ddr := rfl
@[simp] theorem modVu_poison (s : State) (n : Nat) (f : VuS → VuS) : (s.modVu n f).poison = s.poison := rfl
@[simp] theorem modVu_lastStatus (s : State) (n : Nat) (f : VuS → VuS) : (s.modVu n f).lastStatus = s.lastStatus := rfl
@[simp] theorem modVu_freeCtr (s : State) (n : Nat) (f : VuS → VuS) : (s.modVu n f).freeCtr = s.freeCtr := rfl
@[simp] theorem modVu_out (s : State) (n : Nat) (f : VuS → VuS) : (s.modVu n f).out = s.out := rfl
@[simp] theorem modVu_pending (s : State) (n : Nat) (f : VuS → VuS) : (s.modVu n f).pending = s.pending := rfl
@[simp] theorem modVu_rd (s : State) (n : Nat) (f : VuS → VuS) (off : Nat) : (s.modVu n f).rd off = s.rd off := rfl
@[simp] theorem modVu_fld (s : State) (n : Nat) (f : VuS → VuS) (g : Fld) : (s.modVu n f).fld g = s.fld g := rfl
@[simp] theorem modVu_bit (s : State) (n : Nat) (f : VuS → VuS) (g : Fld) : (s.modVu n f).bit g = s.bit g := rfl

/-! ### State.modRegion -/

@[simp] theorem modRegion_board (s : State) (n : Nat) (f : RegionS → RegionS) : (s.modRegion n f).board = s.board := rfl
@[simp] theorem modRegion_regs (s : State) (n : Nat) (f : RegionS → RegionS) : (s.modRegion n f).regs = s.regs := rfl
@[simp] theorem modRegion_hq (s : State) (n : Nat) (f : RegionS → RegionS) : (s.modRegion n f).hq = s.hq := rfl
@[simp] theorem modRegion_time (s : State) (n : Nat) (f : RegionS → RegionS) : (s.modRegion n f).time = s.time := rfl
@[simp] theorem modRegion_cfg (s : State) (n : Nat) (f : RegionS → RegionS) : (s.modRegion n f).cfg = s.cfg := rfl
@[simp] theorem modRegion_enc (s : State) (n : Nat) (f : RegionS → RegionS) : (s.modRegion n f).enc = s.enc := rfl
@[simp] theorem modRegion_cu (s : State) (n : Nat) (f : RegionS → RegionS) : (s.modRegion n f).cu = s.cu := rfl
@[simp] theorem modRegion_absIn (s : State) (n : Nat) (f : RegionS → RegionS) : (s.modRegion n f).absIn = s.absIn := rfl
@[simp] theorem modRegion_sw (s : State) (n : Nat) (f : RegionS → RegionS) : (s.modRegion n f).sw = s.sw := rfl
@[simp] theorem modRegion_evt (s : State) (n : Nat) (f : RegionS → RegionS) : (s.modRegion n f).evt = s.evt := rfl
@[simp] theorem modRegion_prt (s : State) (n : Nat) (f : RegionS → RegionS) : (s.modRegion n f).prt = s.prt := rfl
@[simp] theorem modRegion_ing (s : State) (n : Nat) (f : RegionS → RegionS) : (s.modRegion n f).ing = s.ing := rfl
@[simp] theorem modRegion_sti (s : State) (n : Nat) (f : RegionS → RegionS) : (s.modRegion n f).sti = s.sti := rfl
@[simp] theorem modRegion_seg (s : State) (n : Nat) (f : RegionS → RegionS) : (s.modRegion n f).seg = s.seg := rfl
@[simp] theorem modRegion_sdf (s : State) (n : Nat) (f : RegionS → RegionS) : (s.modRegion n f).sdf = s.sdf := rfl
@[simp] theorem modRegion_flt (s : State) (n : Nat) (f : RegionS → RegionS) : (s.modRegion n f).flt = s.flt := rfl
@[simp] theorem modRegion_lane (s : State) (n : Nat) (f : RegionS → RegionS) : (s.modRegion n f).lane = s.lane := rfl
@[simp] theorem modRegion_np (s : State) (n : Nat) (f : RegionS → RegionS) : (s.modRegion n f).np = s.np := rfl
@[simp] theorem modRegion_isp (s : State) (n : Nat) (f : RegionS → RegionS) : (s.modRegion n f).isp = s.isp := rfl
@[simp] theorem modRegion_dmc (s : State) (n : Nat) (f : RegionS → RegionS) : (s.modRegion n f).dmc = s.dmc := rfl
@[simp] theorem modRegion_dma (s : State) (n : Nat) (f : RegionS → RegionS) : (s.modRegion n f).dma = s.dma := rfl
@[simp] theorem modRegion_tw (s : State) (n : Nat) (f : RegionS → RegionS) : (s.modRegion n f).tw = s.tw := rfl
@[simp] theorem modRegion_pwr (s : State) (n : Nat) (f : RegionS → RegionS) : (s.modRegion n f).pwr = s.pwr := rfl
@[simp] theorem modRegion_cal (s : State) (n : Nat) (f : RegionS → RegionS) : (s.modRegion n f).cal = s.cal := rfl
@[simp] theorem modRegion_boot (s : State) (n : Nat) (f : RegionS → RegionS) : (s.modRegion n f).boot = s.boot := rfl
@[simp] theorem modRegion_jtag (s : State) (n : Nat) (f : RegionS → RegionS) : (s.modRegion n f).jtag = s.jtag := rfl
@[simp] theorem modRegion_scan (s : State) (n : Nat) (f : RegionS → RegionS) : (s.modRegion n f).scan = s.scan := rfl
@[simp] theorem modRegion_ddr (s : State) (n : Nat) (f : RegionS → RegionS) : (s.modRegion n f).ddr = s.ddr := rfl
@[simp] theorem modRegion_poison (s : State) (n : Nat) (f : RegionS → RegionS) : (s.modRegion n f).poison = s.poison := rfl
@[simp] theorem modRegion_lastStatus (s : State) (n : Nat) (f : RegionS → RegionS) : (s.modRegion n f).lastStatus = s.lastStatus := rfl
@[simp] theorem modRegion_freeCtr (s : State) (n : Nat) (f : RegionS → RegionS) : (s.modRegion n f).freeCtr = s.freeCtr := rfl
@[simp] theorem modRegion_out (s : State) (n : Nat) (f : RegionS → RegionS) : (s.modRegion n f).out = s.out := rfl
@[simp] theorem modRegion_pending (s : State) (n : Nat) (f : RegionS → RegionS) : (s.modRegion n f).pending = s.pending := rfl
@[simp] theorem modRegion_rd (s : State) (n : Nat) (f : RegionS → RegionS) (off : Nat) : (s.modRegion n f).rd off = s.rd off := rfl
@[simp] theorem modRegion_fld (s : State) (n : Nat) (f : RegionS → RegionS) (g : Fld) : (s.modRegion n f).fld g = s.fld g := rfl
@[simp] theorem modRegion_bit (s : State) (n : Nat) (f : RegionS → RegionS) (g : Fld) : (s.modRegion n f).bit g = s.bit g := rfl

/-! ### State.modDmc -/

@[simp] theorem modDmc_board (s : State) (n : Nat) (f : DmcS → DmcS) : (s.modDmc n f).board = s.board := rfl
@[simp] theorem modDmc_regs (s : State) (n : Nat) (f : DmcS → DmcS) : (s.modDmc n f).regs = s.regs := rfl
@[simp] theorem modDmc_hq (s : State) (n : Nat) (f : DmcS → DmcS) : (s.modDmc n f).hq = s.hq := rfl
@[simp] theorem modDmc_time (s : State) (n : Nat) (f : DmcS → DmcS) : (s.modDmc n f).time = s.time := rfl
@[simp] theorem modDmc_cfg (s : State) (n : Nat) (f : DmcS → DmcS) : (s.modDmc n f).cfg = s.cfg := rfl
@[simp] theorem modDmc_enc (s : State) (n : Nat) (f : DmcS → DmcS) : (s.modDmc n f).enc = s.enc := rfl
@[simp] theorem modDmc_cu (s : State) (n : Nat) (f : DmcS → DmcS) : (s.modDmc n f).cu = s.cu := rfl
@[simp] theorem modDmc_absIn (s : State) (n : Nat) (f : DmcS → DmcS) : (s.modDmc n f).absIn = s.absIn := rfl
@[simp] theorem modDmc_sw (s : State) (n : Nat) (f : DmcS → DmcS) : (s.modDmc n f).sw = s.sw := rfl
@[simp] theorem modDmc_evt (s : State) (n : Nat) (f : DmcS → DmcS) : (s.modDmc n f).evt = s.evt := rfl
@[simp] theorem modDmc_prt (s : State) (n : Nat) (f : DmcS → DmcS) : (s.modDmc n f).prt = s.prt := rfl
@[simp] theorem modDmc_ing (s : State) (n : Nat) (f : DmcS → DmcS) : (s.modDmc n f).ing = s.ing := rfl
@[simp] theorem modDmc_sti (s : State) (n : Nat) (f : DmcS → DmcS) : (s.modDmc n f).sti = s.sti := rfl
@[simp] theorem modDmc_vg (s : State) (n : Nat) (f : DmcS → DmcS) : (s.modDmc n f).vg = s.vg := rfl
@[simp] theorem modDmc_seg (s : State) (n : Nat) (f : DmcS → DmcS) : (s.modDmc n f).seg = s.seg := rfl
@[simp] theorem modDmc_sdf (s : State) (n : Nat) (f : DmcS → DmcS) : (s.modDmc n f).sdf = s.sdf := rfl
@[simp] theorem modDmc_flt (s : State) (n : Nat) (f : DmcS → DmcS) : (s.modDmc n f).flt = s.flt := rfl
@[simp] theorem modDmc_lane (s : State) (n : Nat) (f : DmcS → DmcS) : (s.modDmc n f).lane = s.lane := rfl
@[simp] theorem modDmc_np (s : State) (n : Nat) (f : DmcS → DmcS) : (s.modDmc n f).np = s.np := rfl
@[simp] theorem modDmc_isp (s : State) (n : Nat) (f : DmcS → DmcS) : (s.modDmc n f).isp = s.isp := rfl
@[simp] theorem modDmc_dma (s : State) (n : Nat) (f : DmcS → DmcS) : (s.modDmc n f).dma = s.dma := rfl
@[simp] theorem modDmc_tw (s : State) (n : Nat) (f : DmcS → DmcS) : (s.modDmc n f).tw = s.tw := rfl
@[simp] theorem modDmc_pwr (s : State) (n : Nat) (f : DmcS → DmcS) : (s.modDmc n f).pwr = s.pwr := rfl
@[simp] theorem modDmc_cal (s : State) (n : Nat) (f : DmcS → DmcS) : (s.modDmc n f).cal = s.cal := rfl
@[simp] theorem modDmc_boot (s : State) (n : Nat) (f : DmcS → DmcS) : (s.modDmc n f).boot = s.boot := rfl
@[simp] theorem modDmc_jtag (s : State) (n : Nat) (f : DmcS → DmcS) : (s.modDmc n f).jtag = s.jtag := rfl
@[simp] theorem modDmc_scan (s : State) (n : Nat) (f : DmcS → DmcS) : (s.modDmc n f).scan = s.scan := rfl
@[simp] theorem modDmc_ddr (s : State) (n : Nat) (f : DmcS → DmcS) : (s.modDmc n f).ddr = s.ddr := rfl
@[simp] theorem modDmc_poison (s : State) (n : Nat) (f : DmcS → DmcS) : (s.modDmc n f).poison = s.poison := rfl
@[simp] theorem modDmc_lastStatus (s : State) (n : Nat) (f : DmcS → DmcS) : (s.modDmc n f).lastStatus = s.lastStatus := rfl
@[simp] theorem modDmc_freeCtr (s : State) (n : Nat) (f : DmcS → DmcS) : (s.modDmc n f).freeCtr = s.freeCtr := rfl
@[simp] theorem modDmc_out (s : State) (n : Nat) (f : DmcS → DmcS) : (s.modDmc n f).out = s.out := rfl
@[simp] theorem modDmc_pending (s : State) (n : Nat) (f : DmcS → DmcS) : (s.modDmc n f).pending = s.pending := rfl
@[simp] theorem modDmc_rd (s : State) (n : Nat) (f : DmcS → DmcS) (off : Nat) : (s.modDmc n f).rd off = s.rd off := rfl
@[simp] theorem modDmc_fld (s : State) (n : Nat) (f : DmcS → DmcS) (g : Fld) : (s.modDmc n f).fld g = s.fld g := rfl
@[simp] theorem modDmc_bit (s : State) (n : Nat) (f : DmcS → DmcS) (g : Fld) : (s.modDmc n f).bit g = s.bit g := rfl

/-! ### State.modDma -/

@[simp] theorem modDma_board (s : State) (n : Nat) (f : DmaS → DmaS) : (s.modDma n f).board = s.board := rfl
@[simp] theorem modDma_regs (s : State) (n : Nat) (f : DmaS → DmaS) : (s.modDma n f).regs = s.regs := rfl
@[simp] theorem modDma_hq (s : State) (n : Nat) (f : DmaS → DmaS) : (s.modDma n f).hq = s.hq := rfl
@[simp] theorem modDma_time (s : State) (n : Nat) (f : DmaS → DmaS) : (s.modDma n f).time = s.time := rfl
@[simp] theorem modDma_cfg (s : State) (n : Nat) (f : DmaS → DmaS) : (s.modDma n f).cfg = s.cfg := rfl
@[simp] theorem modDma_enc (s : State) (n : Nat) (f : DmaS → DmaS) : (s.modDma n f).enc = s.enc := rfl
@[simp] theorem modDma_cu (s : State) (n : Nat) (f : DmaS → DmaS) : (s.modDma n f).cu = s.cu := rfl
@[simp] theorem modDma_absIn (s : State) (n : Nat) (f : DmaS → DmaS) : (s.modDma n f).absIn = s.absIn := rfl
@[simp] theorem modDma_sw (s : State) (n : Nat) (f : DmaS → DmaS) : (s.modDma n f).sw = s.sw := rfl
@[simp] theorem modDma_evt (s : State) (n : Nat) (f : DmaS → DmaS) : (s.modDma n f).evt = s.evt := rfl
@[simp] theorem modDma_prt (s : State) (n : Nat) (f : DmaS → DmaS) : (s.modDma n f).prt = s.prt := rfl
@[simp] theorem modDma_ing (s : State) (n : Nat) (f : DmaS → DmaS) : (s.modDma n f).ing = s.ing := rfl
@[simp] theorem modDma_sti (s : State) (n : Nat) (f : DmaS → DmaS) : (s.modDma n f).sti = s.sti := rfl
@[simp] theorem modDma_vg (s : State) (n : Nat) (f : DmaS → DmaS) : (s.modDma n f).vg = s.vg := rfl
@[simp] theorem modDma_seg (s : State) (n : Nat) (f : DmaS → DmaS) : (s.modDma n f).seg = s.seg := rfl
@[simp] theorem modDma_sdf (s : State) (n : Nat) (f : DmaS → DmaS) : (s.modDma n f).sdf = s.sdf := rfl
@[simp] theorem modDma_flt (s : State) (n : Nat) (f : DmaS → DmaS) : (s.modDma n f).flt = s.flt := rfl
@[simp] theorem modDma_lane (s : State) (n : Nat) (f : DmaS → DmaS) : (s.modDma n f).lane = s.lane := rfl
@[simp] theorem modDma_np (s : State) (n : Nat) (f : DmaS → DmaS) : (s.modDma n f).np = s.np := rfl
@[simp] theorem modDma_isp (s : State) (n : Nat) (f : DmaS → DmaS) : (s.modDma n f).isp = s.isp := rfl
@[simp] theorem modDma_dmc (s : State) (n : Nat) (f : DmaS → DmaS) : (s.modDma n f).dmc = s.dmc := rfl
@[simp] theorem modDma_tw (s : State) (n : Nat) (f : DmaS → DmaS) : (s.modDma n f).tw = s.tw := rfl
@[simp] theorem modDma_pwr (s : State) (n : Nat) (f : DmaS → DmaS) : (s.modDma n f).pwr = s.pwr := rfl
@[simp] theorem modDma_cal (s : State) (n : Nat) (f : DmaS → DmaS) : (s.modDma n f).cal = s.cal := rfl
@[simp] theorem modDma_boot (s : State) (n : Nat) (f : DmaS → DmaS) : (s.modDma n f).boot = s.boot := rfl
@[simp] theorem modDma_jtag (s : State) (n : Nat) (f : DmaS → DmaS) : (s.modDma n f).jtag = s.jtag := rfl
@[simp] theorem modDma_scan (s : State) (n : Nat) (f : DmaS → DmaS) : (s.modDma n f).scan = s.scan := rfl
@[simp] theorem modDma_ddr (s : State) (n : Nat) (f : DmaS → DmaS) : (s.modDma n f).ddr = s.ddr := rfl
@[simp] theorem modDma_poison (s : State) (n : Nat) (f : DmaS → DmaS) : (s.modDma n f).poison = s.poison := rfl
@[simp] theorem modDma_lastStatus (s : State) (n : Nat) (f : DmaS → DmaS) : (s.modDma n f).lastStatus = s.lastStatus := rfl
@[simp] theorem modDma_freeCtr (s : State) (n : Nat) (f : DmaS → DmaS) : (s.modDma n f).freeCtr = s.freeCtr := rfl
@[simp] theorem modDma_out (s : State) (n : Nat) (f : DmaS → DmaS) : (s.modDma n f).out = s.out := rfl
@[simp] theorem modDma_pending (s : State) (n : Nat) (f : DmaS → DmaS) : (s.modDma n f).pending = s.pending := rfl
@[simp] theorem modDma_rd (s : State) (n : Nat) (f : DmaS → DmaS) (off : Nat) : (s.modDma n f).rd off = s.rd off := rfl
@[simp] theorem modDma_fld (s : State) (n : Nat) (f : DmaS → DmaS) (g : Fld) : (s.modDma n f).fld g = s.fld g := rfl
@[simp] theorem modDma_bit (s : State) (n : Nat) (f : DmaS → DmaS) (g : Fld) : (s.modDma n f).bit g = s.bit g := rfl

/-! ### State.modTw -/

@[simp] theorem modTw_board (s : State) (n : Nat) (f : TwS → TwS) : (s.modTw n f).board = s.board := rfl
@[simp] theorem modTw_regs (s : State) (n : Nat) (f : TwS → TwS) : (s.modTw n f).regs = s.regs := rfl
@[simp] theorem modTw_hq (s : State) (n : Nat) (f : TwS → TwS) : (s.modTw n f).hq = s.hq := rfl
@[simp] theorem modTw_time (s : State) (n : Nat) (f : TwS → TwS) : (s.modTw n f).time = s.time := rfl
@[simp] theorem modTw_cfg (s : State) (n : Nat) (f : TwS → TwS) : (s.modTw n f).cfg = s.cfg := rfl
@[simp] theorem modTw_enc (s : State) (n : Nat) (f : TwS → TwS) : (s.modTw n f).enc = s.enc := rfl
@[simp] theorem modTw_cu (s : State) (n : Nat) (f : TwS → TwS) : (s.modTw n f).cu = s.cu := rfl
@[simp] theorem modTw_absIn (s : State) (n : Nat) (f : TwS → TwS) : (s.modTw n f).absIn = s.absIn := rfl
@[simp] theorem modTw_sw (s : State) (n : Nat) (f : TwS → TwS) : (s.modTw n f).sw = s.sw := rfl
@[simp] theorem modTw_evt (s : State) (n : Nat) (f : TwS → TwS) : (s.modTw n f).evt = s.evt := rfl
@[simp] theorem modTw_prt (s : State) (n : Nat) (f : TwS → TwS) : (s.modTw n f).prt = s.prt := rfl
@[simp] theorem modTw_ing (s : State) (n : Nat) (f : TwS → TwS) : (s.modTw n f).ing = s.ing := rfl
@[simp] theorem modTw_sti (s : State) (n : Nat) (f : TwS → TwS) : (s.modTw n f).sti = s.sti := rfl
@[simp] theorem modTw_vg (s : State) (n : Nat) (f : TwS → TwS) : (s.modTw n f).vg = s.vg := rfl
@[simp] theorem modTw_seg (s : State) (n : Nat) (f : TwS → TwS) : (s.modTw n f).seg = s.seg := rfl
@[simp] theorem modTw_sdf (s : State) (n : Nat) (f : TwS → TwS) : (s.modTw n f).sdf = s.sdf := rfl
@[simp] theorem modTw_flt (s : State) (n : Nat) (f : TwS → TwS) : (s.modTw n f).flt = s.flt := rfl
@[simp] theorem modTw_lane (s : State) (n : Nat) (f : TwS → TwS) : (s.modTw n f).lane = s.lane := rfl
@[simp] theorem modTw_np (s : State) (n : Nat) (f : TwS → TwS) : (s.modTw n f).np = s.np := rfl
@[simp] theorem modTw_isp (s : State) (n : Nat) (f : TwS → TwS) : (s.modTw n f).isp = s.isp := rfl
@[simp] theorem modTw_dmc (s : State) (n : Nat) (f : TwS → TwS) : (s.modTw n f).dmc = s.dmc := rfl
@[simp] theorem modTw_dma (s : State) (n : Nat) (f : TwS → TwS) : (s.modTw n f).dma = s.dma := rfl
@[simp] theorem modTw_pwr (s : State) (n : Nat) (f : TwS → TwS) : (s.modTw n f).pwr = s.pwr := rfl
@[simp] theorem modTw_cal (s : State) (n : Nat) (f : TwS → TwS) : (s.modTw n f).cal = s.cal := rfl
@[simp] theorem modTw_boot (s : State) (n : Nat) (f : TwS → TwS) : (s.modTw n f).boot = s.boot := rfl
@[simp] theorem modTw_jtag (s : State) (n : Nat) (f : TwS → TwS) : (s.modTw n f).jtag = s.jtag := rfl
@[simp] theorem modTw_scan (s : State) (n : Nat) (f : TwS → TwS) : (s.modTw n f).scan = s.scan := rfl
@[simp] theorem modTw_ddr (s : State) (n : Nat) (f : TwS → TwS) : (s.modTw n f).ddr = s.ddr := rfl
@[simp] theorem modTw_poison (s : State) (n : Nat) (f : TwS → TwS) : (s.modTw n f).poison = s.poison := rfl
@[simp] theorem modTw_lastStatus (s : State) (n : Nat) (f : TwS → TwS) : (s.modTw n f).lastStatus = s.lastStatus := rfl
@[simp] theorem modTw_freeCtr (s : State) (n : Nat) (f : TwS → TwS) : (s.modTw n f).freeCtr = s.freeCtr := rfl
@[simp] theorem modTw_out (s : State) (n : Nat) (f : TwS → TwS) : (s.modTw n f).out = s.out := rfl
@[simp] theorem modTw_pending (s : State) (n : Nat) (f : TwS → TwS) : (s.modTw n f).pending = s.pending := rfl
@[simp] theorem modTw_rd (s : State) (n : Nat) (f : TwS → TwS) (off : Nat) : (s.modTw n f).rd off = s.rd off := rfl
@[simp] theorem modTw_fld (s : State) (n : Nat) (f : TwS → TwS) (g : Fld) : (s.modTw n f).fld g = s.fld g := rfl
@[simp] theorem modTw_bit (s : State) (n : Nat) (f : TwS → TwS) (g : Fld) : (s.modTw n f).bit g = s.bit g := rfl

/-! ### State.modFlt -/

@[simp] theorem modFlt_board (s : State) (f : FltS → FltS) : (s.modFlt f).board = s.board := rfl
@[simp] theorem modFlt_regs (s : State) (f : FltS → FltS) : (s.modFlt f).regs = s.regs := rfl
@[simp] theorem modFlt_hq (s : State) (f : FltS → FltS) : (s.modFlt f).hq = s.hq := rfl
@[simp] theorem modFlt_time (s : State) (f : FltS → FltS) : (s.modFlt f).time = s.time := rfl
@[simp] theorem modFlt_cfg (s : State) (f : FltS → FltS) : (s.modFlt f).cfg = s.cfg := rfl
@[simp] theorem modFlt_enc (s : State) (f : FltS → FltS) : (s.modFlt f).enc = s.enc := rfl
@[simp] theorem modFlt_cu (s : State) (f : FltS → FltS) : (s.modFlt f).cu = s.cu := rfl
@[simp] theorem modFlt_absIn (s : State) (f : FltS → FltS) : (s.modFlt f).absIn = s.absIn := rfl
@[simp] theorem modFlt_sw (s : State) (f : FltS → FltS) : (s.modFlt f).sw = s.sw := rfl
@[simp] theorem modFlt_evt (s : State) (f : FltS → FltS) : (s.modFlt f).evt = s.evt := rfl
@[simp] theorem modFlt_prt (s : State) (f : FltS → FltS) : (s.modFlt f).prt = s.prt := rfl
@[simp] theorem modFlt_ing (s : State) (f : FltS → FltS) : (s.modFlt f).ing = s.ing := rfl
@[simp] theorem modFlt_sti (s : State) (f : FltS → FltS) : (s.modFlt f).sti = s.sti := rfl
@[simp] theorem modFlt_vg (s : State) (f : FltS → FltS) : (s.modFlt f).vg = s.vg := rfl
@[simp] theorem modFlt_seg (s : State) (f : FltS → FltS) : (s.modFlt f).seg = s.seg := rfl
@[simp] theorem modFlt_sdf (s : State) (f : FltS → FltS) : (s.modFlt f).sdf = s.sdf := rfl
@[simp] theorem modFlt_lane (s : State) (f : FltS → FltS) : (s.modFlt f).lane = s.lane := rfl
@[simp] theorem modFlt_np (s : State) (f : FltS → FltS) : (s.modFlt f).np = s.np := rfl
@[simp] theorem modFlt_isp (s : State) (f : FltS → FltS) : (s.modFlt f).isp = s.isp := rfl
@[simp] theorem modFlt_dmc (s : State) (f : FltS → FltS) : (s.modFlt f).dmc = s.dmc := rfl
@[simp] theorem modFlt_dma (s : State) (f : FltS → FltS) : (s.modFlt f).dma = s.dma := rfl
@[simp] theorem modFlt_tw (s : State) (f : FltS → FltS) : (s.modFlt f).tw = s.tw := rfl
@[simp] theorem modFlt_pwr (s : State) (f : FltS → FltS) : (s.modFlt f).pwr = s.pwr := rfl
@[simp] theorem modFlt_cal (s : State) (f : FltS → FltS) : (s.modFlt f).cal = s.cal := rfl
@[simp] theorem modFlt_boot (s : State) (f : FltS → FltS) : (s.modFlt f).boot = s.boot := rfl
@[simp] theorem modFlt_jtag (s : State) (f : FltS → FltS) : (s.modFlt f).jtag = s.jtag := rfl
@[simp] theorem modFlt_scan (s : State) (f : FltS → FltS) : (s.modFlt f).scan = s.scan := rfl
@[simp] theorem modFlt_ddr (s : State) (f : FltS → FltS) : (s.modFlt f).ddr = s.ddr := rfl
@[simp] theorem modFlt_poison (s : State) (f : FltS → FltS) : (s.modFlt f).poison = s.poison := rfl
@[simp] theorem modFlt_lastStatus (s : State) (f : FltS → FltS) : (s.modFlt f).lastStatus = s.lastStatus := rfl
@[simp] theorem modFlt_freeCtr (s : State) (f : FltS → FltS) : (s.modFlt f).freeCtr = s.freeCtr := rfl
@[simp] theorem modFlt_out (s : State) (f : FltS → FltS) : (s.modFlt f).out = s.out := rfl
@[simp] theorem modFlt_pending (s : State) (f : FltS → FltS) : (s.modFlt f).pending = s.pending := rfl
@[simp] theorem modFlt_rd (s : State) (f : FltS → FltS) (off : Nat) : (s.modFlt f).rd off = s.rd off := rfl
@[simp] theorem modFlt_fld (s : State) (f : FltS → FltS) (g : Fld) : (s.modFlt f).fld g = s.fld g := rfl
@[simp] theorem modFlt_bit (s : State) (f : FltS → FltS) (g : Fld) : (s.modFlt f).bit g = s.bit g := rfl

/-! ### State.free -/

@[simp] theorem free_val (s : State) : s.free.1 = Config.freeWord s.freeCtr := rfl
@[simp] theorem free_board (s : State) : s.free.2.board = s.board := rfl
@[simp] theorem free_regs (s : State) : s.free.2.regs = s.regs := rfl
@[simp] theorem free_hq (s : State) : s.free.2.hq = s.hq := rfl
@[simp] theorem free_time (s : State) : s.free.2.time = s.time := rfl
@[simp] theorem free_cfg (s : State) : s.free.2.cfg = s.cfg := rfl
@[simp] theorem free_enc (s : State) : s.free.2.enc = s.enc := rfl
@[simp] theorem free_cu (s : State) : s.free.2.cu = s.cu := rfl
@[simp] theorem free_absIn (s : State) : s.free.2.absIn = s.absIn := rfl
@[simp] theorem free_sw (s : State) : s.free.2.sw = s.sw := rfl
@[simp] theorem free_evt (s : State) : s.free.2.evt = s.evt := rfl
@[simp] theorem free_prt (s : State) : s.free.2.prt = s.prt := rfl
@[simp] theorem free_ing (s : State) : s.free.2.ing = s.ing := rfl
@[simp] theorem free_sti (s : State) : s.free.2.sti = s.sti := rfl
@[simp] theorem free_vg (s : State) : s.free.2.vg = s.vg := rfl
@[simp] theorem free_seg (s : State) : s.free.2.seg = s.seg := rfl
@[simp] theorem free_sdf (s : State) : s.free.2.sdf = s.sdf := rfl
@[simp] theorem free_flt (s : State) : s.free.2.flt = s.flt := rfl
@[simp] theorem free_lane (s : State) : s.free.2.lane = s.lane := rfl
@[simp] theorem free_np (s : State) : s.free.2.np = s.np := rfl
@[simp] theorem free_isp (s : State) : s.free.2.isp = s.isp := rfl
@[simp] theorem free_dmc (s : State) : s.free.2.dmc = s.dmc := rfl
@[simp] theorem free_dma (s : State) : s.free.2.dma = s.dma := rfl
@[simp] theorem free_tw (s : State) : s.free.2.tw = s.tw := rfl
@[simp] theorem free_pwr (s : State) : s.free.2.pwr = s.pwr := rfl
@[simp] theorem free_cal (s : State) : s.free.2.cal = s.cal := rfl
@[simp] theorem free_boot (s : State) : s.free.2.boot = s.boot := rfl
@[simp] theorem free_jtag (s : State) : s.free.2.jtag = s.jtag := rfl
@[simp] theorem free_scan (s : State) : s.free.2.scan = s.scan := rfl
@[simp] theorem free_ddr (s : State) : s.free.2.ddr = s.ddr := rfl
@[simp] theorem free_poison (s : State) : s.free.2.poison = s.poison := rfl
@[simp] theorem free_lastStatus (s : State) : s.free.2.lastStatus = s.lastStatus := rfl
@[simp] theorem free_freeCtr (s : State) : s.free.2.freeCtr = s.freeCtr + 1 := rfl
@[simp] theorem free_out (s : State) : s.free.2.out = s.out := rfl
@[simp] theorem free_pending (s : State) : s.free.2.pending = s.pending := rfl
@[simp] theorem free_rd (s : State) (off : Nat) : s.free.2.rd off = s.rd off := rfl
@[simp] theorem free_fld (s : State) (g : Fld) : s.free.2.fld g = s.fld g := rfl

/-! ### Counters with a SAT bit, and outputs -/

/-- A counter with a SAT bit changes the register store alone. -/
theorem incCnt_eq (s : State) (f g : Fld) : ∃ l, s.incCnt f g = { s with regs := l } := by
  unfold State.incCnt
  dsimp only
  split <;> exact ⟨_, rfl⟩

/-- Adding to a counter with a SAT bit changes the register store alone. -/
theorem addCnt_eq (s : State) (f g : Fld) (k : Nat) : ∃ l, s.addCnt f g k = { s with regs := l } := by
  unfold State.addCnt
  dsimp only
  split <;> exact ⟨_, rfl⟩

/-- An output changes the trace alone: it stands at the end, or, where the scan chain drives its balls, nowhere. -/
theorem emit_eq (s : State) (o : Out) :
    s.emit o = { s with out := s.out ++ if s.scanDrives && scanned o then [] else [o] } := by
  unfold State.emit
  split <;> simp

@[simp] theorem incCnt_board (s : State) (f g : Fld) : (s.incCnt f g).board = s.board := by obtain ⟨_, h⟩ := incCnt_eq s f g; rw [h]
@[simp] theorem incCnt_hq (s : State) (f g : Fld) : (s.incCnt f g).hq = s.hq := by obtain ⟨_, h⟩ := incCnt_eq s f g; rw [h]
@[simp] theorem incCnt_time (s : State) (f g : Fld) : (s.incCnt f g).time = s.time := by obtain ⟨_, h⟩ := incCnt_eq s f g; rw [h]
@[simp] theorem incCnt_cfg (s : State) (f g : Fld) : (s.incCnt f g).cfg = s.cfg := by obtain ⟨_, h⟩ := incCnt_eq s f g; rw [h]
@[simp] theorem incCnt_enc (s : State) (f g : Fld) : (s.incCnt f g).enc = s.enc := by obtain ⟨_, h⟩ := incCnt_eq s f g; rw [h]
@[simp] theorem incCnt_cu (s : State) (f g : Fld) : (s.incCnt f g).cu = s.cu := by obtain ⟨_, h⟩ := incCnt_eq s f g; rw [h]
@[simp] theorem incCnt_absIn (s : State) (f g : Fld) : (s.incCnt f g).absIn = s.absIn := by obtain ⟨_, h⟩ := incCnt_eq s f g; rw [h]
@[simp] theorem incCnt_sw (s : State) (f g : Fld) : (s.incCnt f g).sw = s.sw := by obtain ⟨_, h⟩ := incCnt_eq s f g; rw [h]
@[simp] theorem incCnt_evt (s : State) (f g : Fld) : (s.incCnt f g).evt = s.evt := by obtain ⟨_, h⟩ := incCnt_eq s f g; rw [h]
@[simp] theorem incCnt_prt (s : State) (f g : Fld) : (s.incCnt f g).prt = s.prt := by obtain ⟨_, h⟩ := incCnt_eq s f g; rw [h]
@[simp] theorem incCnt_ing (s : State) (f g : Fld) : (s.incCnt f g).ing = s.ing := by obtain ⟨_, h⟩ := incCnt_eq s f g; rw [h]
@[simp] theorem incCnt_sti (s : State) (f g : Fld) : (s.incCnt f g).sti = s.sti := by obtain ⟨_, h⟩ := incCnt_eq s f g; rw [h]
@[simp] theorem incCnt_vg (s : State) (f g : Fld) : (s.incCnt f g).vg = s.vg := by obtain ⟨_, h⟩ := incCnt_eq s f g; rw [h]
@[simp] theorem incCnt_seg (s : State) (f g : Fld) : (s.incCnt f g).seg = s.seg := by obtain ⟨_, h⟩ := incCnt_eq s f g; rw [h]
@[simp] theorem incCnt_sdf (s : State) (f g : Fld) : (s.incCnt f g).sdf = s.sdf := by obtain ⟨_, h⟩ := incCnt_eq s f g; rw [h]
@[simp] theorem incCnt_flt (s : State) (f g : Fld) : (s.incCnt f g).flt = s.flt := by obtain ⟨_, h⟩ := incCnt_eq s f g; rw [h]
@[simp] theorem incCnt_lane (s : State) (f g : Fld) : (s.incCnt f g).lane = s.lane := by obtain ⟨_, h⟩ := incCnt_eq s f g; rw [h]
@[simp] theorem incCnt_np (s : State) (f g : Fld) : (s.incCnt f g).np = s.np := by obtain ⟨_, h⟩ := incCnt_eq s f g; rw [h]
@[simp] theorem incCnt_isp (s : State) (f g : Fld) : (s.incCnt f g).isp = s.isp := by obtain ⟨_, h⟩ := incCnt_eq s f g; rw [h]
@[simp] theorem incCnt_dmc (s : State) (f g : Fld) : (s.incCnt f g).dmc = s.dmc := by obtain ⟨_, h⟩ := incCnt_eq s f g; rw [h]
@[simp] theorem incCnt_dma (s : State) (f g : Fld) : (s.incCnt f g).dma = s.dma := by obtain ⟨_, h⟩ := incCnt_eq s f g; rw [h]
@[simp] theorem incCnt_tw (s : State) (f g : Fld) : (s.incCnt f g).tw = s.tw := by obtain ⟨_, h⟩ := incCnt_eq s f g; rw [h]
@[simp] theorem incCnt_pwr (s : State) (f g : Fld) : (s.incCnt f g).pwr = s.pwr := by obtain ⟨_, h⟩ := incCnt_eq s f g; rw [h]
@[simp] theorem incCnt_cal (s : State) (f g : Fld) : (s.incCnt f g).cal = s.cal := by obtain ⟨_, h⟩ := incCnt_eq s f g; rw [h]
@[simp] theorem incCnt_boot (s : State) (f g : Fld) : (s.incCnt f g).boot = s.boot := by obtain ⟨_, h⟩ := incCnt_eq s f g; rw [h]
@[simp] theorem incCnt_jtag (s : State) (f g : Fld) : (s.incCnt f g).jtag = s.jtag := by obtain ⟨_, h⟩ := incCnt_eq s f g; rw [h]
@[simp] theorem incCnt_scan (s : State) (f g : Fld) : (s.incCnt f g).scan = s.scan := by obtain ⟨_, h⟩ := incCnt_eq s f g; rw [h]
@[simp] theorem incCnt_ddr (s : State) (f g : Fld) : (s.incCnt f g).ddr = s.ddr := by obtain ⟨_, h⟩ := incCnt_eq s f g; rw [h]
@[simp] theorem incCnt_poison (s : State) (f g : Fld) : (s.incCnt f g).poison = s.poison := by obtain ⟨_, h⟩ := incCnt_eq s f g; rw [h]
@[simp] theorem incCnt_lastStatus (s : State) (f g : Fld) : (s.incCnt f g).lastStatus = s.lastStatus := by obtain ⟨_, h⟩ := incCnt_eq s f g; rw [h]
@[simp] theorem incCnt_freeCtr (s : State) (f g : Fld) : (s.incCnt f g).freeCtr = s.freeCtr := by obtain ⟨_, h⟩ := incCnt_eq s f g; rw [h]
@[simp] theorem incCnt_out (s : State) (f g : Fld) : (s.incCnt f g).out = s.out := by obtain ⟨_, h⟩ := incCnt_eq s f g; rw [h]
@[simp] theorem incCnt_pending (s : State) (f g : Fld) : (s.incCnt f g).pending = s.pending := by obtain ⟨_, h⟩ := incCnt_eq s f g; rw [h]

@[simp] theorem addCnt_board (s : State) (f g : Fld) (k : Nat) : (s.addCnt f g k).board = s.board := by obtain ⟨_, h⟩ := addCnt_eq s f g k; rw [h]
@[simp] theorem addCnt_hq (s : State) (f g : Fld) (k : Nat) : (s.addCnt f g k).hq = s.hq := by obtain ⟨_, h⟩ := addCnt_eq s f g k; rw [h]
@[simp] theorem addCnt_time (s : State) (f g : Fld) (k : Nat) : (s.addCnt f g k).time = s.time := by obtain ⟨_, h⟩ := addCnt_eq s f g k; rw [h]
@[simp] theorem addCnt_cfg (s : State) (f g : Fld) (k : Nat) : (s.addCnt f g k).cfg = s.cfg := by obtain ⟨_, h⟩ := addCnt_eq s f g k; rw [h]
@[simp] theorem addCnt_enc (s : State) (f g : Fld) (k : Nat) : (s.addCnt f g k).enc = s.enc := by obtain ⟨_, h⟩ := addCnt_eq s f g k; rw [h]
@[simp] theorem addCnt_cu (s : State) (f g : Fld) (k : Nat) : (s.addCnt f g k).cu = s.cu := by obtain ⟨_, h⟩ := addCnt_eq s f g k; rw [h]
@[simp] theorem addCnt_absIn (s : State) (f g : Fld) (k : Nat) : (s.addCnt f g k).absIn = s.absIn := by obtain ⟨_, h⟩ := addCnt_eq s f g k; rw [h]
@[simp] theorem addCnt_sw (s : State) (f g : Fld) (k : Nat) : (s.addCnt f g k).sw = s.sw := by obtain ⟨_, h⟩ := addCnt_eq s f g k; rw [h]
@[simp] theorem addCnt_evt (s : State) (f g : Fld) (k : Nat) : (s.addCnt f g k).evt = s.evt := by obtain ⟨_, h⟩ := addCnt_eq s f g k; rw [h]
@[simp] theorem addCnt_prt (s : State) (f g : Fld) (k : Nat) : (s.addCnt f g k).prt = s.prt := by obtain ⟨_, h⟩ := addCnt_eq s f g k; rw [h]
@[simp] theorem addCnt_ing (s : State) (f g : Fld) (k : Nat) : (s.addCnt f g k).ing = s.ing := by obtain ⟨_, h⟩ := addCnt_eq s f g k; rw [h]
@[simp] theorem addCnt_sti (s : State) (f g : Fld) (k : Nat) : (s.addCnt f g k).sti = s.sti := by obtain ⟨_, h⟩ := addCnt_eq s f g k; rw [h]
@[simp] theorem addCnt_vg (s : State) (f g : Fld) (k : Nat) : (s.addCnt f g k).vg = s.vg := by obtain ⟨_, h⟩ := addCnt_eq s f g k; rw [h]
@[simp] theorem addCnt_seg (s : State) (f g : Fld) (k : Nat) : (s.addCnt f g k).seg = s.seg := by obtain ⟨_, h⟩ := addCnt_eq s f g k; rw [h]
@[simp] theorem addCnt_sdf (s : State) (f g : Fld) (k : Nat) : (s.addCnt f g k).sdf = s.sdf := by obtain ⟨_, h⟩ := addCnt_eq s f g k; rw [h]
@[simp] theorem addCnt_flt (s : State) (f g : Fld) (k : Nat) : (s.addCnt f g k).flt = s.flt := by obtain ⟨_, h⟩ := addCnt_eq s f g k; rw [h]
@[simp] theorem addCnt_lane (s : State) (f g : Fld) (k : Nat) : (s.addCnt f g k).lane = s.lane := by obtain ⟨_, h⟩ := addCnt_eq s f g k; rw [h]
@[simp] theorem addCnt_np (s : State) (f g : Fld) (k : Nat) : (s.addCnt f g k).np = s.np := by obtain ⟨_, h⟩ := addCnt_eq s f g k; rw [h]
@[simp] theorem addCnt_isp (s : State) (f g : Fld) (k : Nat) : (s.addCnt f g k).isp = s.isp := by obtain ⟨_, h⟩ := addCnt_eq s f g k; rw [h]
@[simp] theorem addCnt_dmc (s : State) (f g : Fld) (k : Nat) : (s.addCnt f g k).dmc = s.dmc := by obtain ⟨_, h⟩ := addCnt_eq s f g k; rw [h]
@[simp] theorem addCnt_dma (s : State) (f g : Fld) (k : Nat) : (s.addCnt f g k).dma = s.dma := by obtain ⟨_, h⟩ := addCnt_eq s f g k; rw [h]
@[simp] theorem addCnt_tw (s : State) (f g : Fld) (k : Nat) : (s.addCnt f g k).tw = s.tw := by obtain ⟨_, h⟩ := addCnt_eq s f g k; rw [h]
@[simp] theorem addCnt_pwr (s : State) (f g : Fld) (k : Nat) : (s.addCnt f g k).pwr = s.pwr := by obtain ⟨_, h⟩ := addCnt_eq s f g k; rw [h]
@[simp] theorem addCnt_cal (s : State) (f g : Fld) (k : Nat) : (s.addCnt f g k).cal = s.cal := by obtain ⟨_, h⟩ := addCnt_eq s f g k; rw [h]
@[simp] theorem addCnt_boot (s : State) (f g : Fld) (k : Nat) : (s.addCnt f g k).boot = s.boot := by obtain ⟨_, h⟩ := addCnt_eq s f g k; rw [h]
@[simp] theorem addCnt_jtag (s : State) (f g : Fld) (k : Nat) : (s.addCnt f g k).jtag = s.jtag := by obtain ⟨_, h⟩ := addCnt_eq s f g k; rw [h]
@[simp] theorem addCnt_scan (s : State) (f g : Fld) (k : Nat) : (s.addCnt f g k).scan = s.scan := by obtain ⟨_, h⟩ := addCnt_eq s f g k; rw [h]
@[simp] theorem addCnt_ddr (s : State) (f g : Fld) (k : Nat) : (s.addCnt f g k).ddr = s.ddr := by obtain ⟨_, h⟩ := addCnt_eq s f g k; rw [h]
@[simp] theorem addCnt_poison (s : State) (f g : Fld) (k : Nat) : (s.addCnt f g k).poison = s.poison := by obtain ⟨_, h⟩ := addCnt_eq s f g k; rw [h]
@[simp] theorem addCnt_lastStatus (s : State) (f g : Fld) (k : Nat) : (s.addCnt f g k).lastStatus = s.lastStatus := by obtain ⟨_, h⟩ := addCnt_eq s f g k; rw [h]
@[simp] theorem addCnt_freeCtr (s : State) (f g : Fld) (k : Nat) : (s.addCnt f g k).freeCtr = s.freeCtr := by obtain ⟨_, h⟩ := addCnt_eq s f g k; rw [h]
@[simp] theorem addCnt_out (s : State) (f g : Fld) (k : Nat) : (s.addCnt f g k).out = s.out := by obtain ⟨_, h⟩ := addCnt_eq s f g k; rw [h]
@[simp] theorem addCnt_pending (s : State) (f g : Fld) (k : Nat) : (s.addCnt f g k).pending = s.pending := by obtain ⟨_, h⟩ := addCnt_eq s f g k; rw [h]

@[simp] theorem emit_board (s : State) (o : Out) : (s.emit o).board = s.board := by rw [emit_eq]
@[simp] theorem emit_regs (s : State) (o : Out) : (s.emit o).regs = s.regs := by rw [emit_eq]
@[simp] theorem emit_hq (s : State) (o : Out) : (s.emit o).hq = s.hq := by rw [emit_eq]
@[simp] theorem emit_time (s : State) (o : Out) : (s.emit o).time = s.time := by rw [emit_eq]
@[simp] theorem emit_cfg (s : State) (o : Out) : (s.emit o).cfg = s.cfg := by rw [emit_eq]
@[simp] theorem emit_enc (s : State) (o : Out) : (s.emit o).enc = s.enc := by rw [emit_eq]
@[simp] theorem emit_cu (s : State) (o : Out) : (s.emit o).cu = s.cu := by rw [emit_eq]
@[simp] theorem emit_absIn (s : State) (o : Out) : (s.emit o).absIn = s.absIn := by rw [emit_eq]
@[simp] theorem emit_sw (s : State) (o : Out) : (s.emit o).sw = s.sw := by rw [emit_eq]
@[simp] theorem emit_evt (s : State) (o : Out) : (s.emit o).evt = s.evt := by rw [emit_eq]
@[simp] theorem emit_prt (s : State) (o : Out) : (s.emit o).prt = s.prt := by rw [emit_eq]
@[simp] theorem emit_ing (s : State) (o : Out) : (s.emit o).ing = s.ing := by rw [emit_eq]
@[simp] theorem emit_sti (s : State) (o : Out) : (s.emit o).sti = s.sti := by rw [emit_eq]
@[simp] theorem emit_vg (s : State) (o : Out) : (s.emit o).vg = s.vg := by rw [emit_eq]
@[simp] theorem emit_seg (s : State) (o : Out) : (s.emit o).seg = s.seg := by rw [emit_eq]
@[simp] theorem emit_sdf (s : State) (o : Out) : (s.emit o).sdf = s.sdf := by rw [emit_eq]
@[simp] theorem emit_flt (s : State) (o : Out) : (s.emit o).flt = s.flt := by rw [emit_eq]
@[simp] theorem emit_lane (s : State) (o : Out) : (s.emit o).lane = s.lane := by rw [emit_eq]
@[simp] theorem emit_np (s : State) (o : Out) : (s.emit o).np = s.np := by rw [emit_eq]
@[simp] theorem emit_isp (s : State) (o : Out) : (s.emit o).isp = s.isp := by rw [emit_eq]
@[simp] theorem emit_dmc (s : State) (o : Out) : (s.emit o).dmc = s.dmc := by rw [emit_eq]
@[simp] theorem emit_dma (s : State) (o : Out) : (s.emit o).dma = s.dma := by rw [emit_eq]
@[simp] theorem emit_tw (s : State) (o : Out) : (s.emit o).tw = s.tw := by rw [emit_eq]
@[simp] theorem emit_pwr (s : State) (o : Out) : (s.emit o).pwr = s.pwr := by rw [emit_eq]
@[simp] theorem emit_cal (s : State) (o : Out) : (s.emit o).cal = s.cal := by rw [emit_eq]
@[simp] theorem emit_boot (s : State) (o : Out) : (s.emit o).boot = s.boot := by rw [emit_eq]
@[simp] theorem emit_jtag (s : State) (o : Out) : (s.emit o).jtag = s.jtag := by rw [emit_eq]
@[simp] theorem emit_scan (s : State) (o : Out) : (s.emit o).scan = s.scan := by rw [emit_eq]
@[simp] theorem emit_ddr (s : State) (o : Out) : (s.emit o).ddr = s.ddr := by rw [emit_eq]
@[simp] theorem emit_poison (s : State) (o : Out) : (s.emit o).poison = s.poison := by rw [emit_eq]
@[simp] theorem emit_lastStatus (s : State) (o : Out) : (s.emit o).lastStatus = s.lastStatus := by rw [emit_eq]
@[simp] theorem emit_freeCtr (s : State) (o : Out) : (s.emit o).freeCtr = s.freeCtr := by rw [emit_eq]
@[simp] theorem emit_pending (s : State) (o : Out) : (s.emit o).pending = s.pending := by rw [emit_eq]
@[simp] theorem emit_rd (s : State) (o : Out) (off : Nat) : (s.emit o).rd off = s.rd off := by simp [State.rd]
@[simp] theorem emit_fld (s : State) (o : Out) (g : Fld) : (s.emit o).fld g = s.fld g := by simp [State.fld, State.rdN]
@[simp] theorem emit_bit (s : State) (o : Out) (g : Fld) : (s.emit o).bit g = s.bit g := by simp [State.bit]

end Sys2Proof.Machine
end

