-- ==== Sys2Proof/Laws/Step.lean ====
section
/-!
SUPPORT. The end of a command and of a step: what `State.settle` leaves, and what an idle device and a command answer.
-/
namespace Sys2Proof.Machine

/-- With nothing waiting the step is one idle clock period. -/
theorem step_idle {s : State} (h : s.pending = []) : step s = .next s.idle := by simp [step, h]

/-- Every command's meaning ends in `done`, and so in a next state. -/
theorem done_eq (old s : State) : done old s = .next (s.settle old) := rfl

/-- An MSI-X message is sent, or its pending bit is set. -/
theorem msix_eq (s : State) (vec : Nat) : ∃ l o, s.msix vec = { s with regs := l, out := s.out ++ o } := by
  unfold State.msix
  split
  · exact ⟨s.regs, [], by simp⟩
  · split
    · exact ⟨s.regs, [], by simp⟩
    · split
      · exact ⟨_, [], by rw [List.append_nil]; rfl⟩
      · exact ⟨s.regs, _, emit_eq s _⟩

/-- The notice of a rise of the fault summary changes the register store and may send one message. -/
theorem faultNotice_eq (s : State) : ∃ l o, s.faultNotice = { s with regs := l, out := s.out ++ o } := by
  unfold State.faultNotice
  dsimp only
  split
  · exact ⟨s.regs, [], by simp⟩
  · split
    · obtain ⟨l, o, h⟩ := msix_eq (s.flag F.HQ_EVT_PEND_FLT) ((s.flag F.HQ_EVT_PEND_FLT).fld F.HQ_EVT_CFG_FLT_VEC)
      exact ⟨l, o, h⟩
    · exact ⟨_, [], by rw [List.append_nil]; rfl⟩

/-- The end of a command: the gates formed outside EVT_CLK follow, and the notice may change the register store and send one message. -/
theorem settle_eq (s old : State) :
    ∃ l o, s.settle old = { s with evt := { s.evt with slow := s.slowNow }, regs := l, out := s.out ++ o } := by
  unfold State.settle
  dsimp only
  split
  · exact ⟨s.regs, [], by simp⟩
  · obtain ⟨l, o, h⟩ := faultNotice_eq { s with evt := { s.evt with slow := s.slowNow } }
    exact ⟨l, o, by rw [h]⟩

end Sys2Proof.Machine
end

