-- ==== Sys2Proof/WellFormed.lean ====
section
/-!
DEFINITION. Well-formed commands: a packet has the length its header says. Every other operand's type bounds it.
-/
namespace Sys2Proof

/-- A packet has its header, and the payload LEN announces with its PCRC; one above 65,532 bytes is not read (R360, R361). -/
def pktWf (pkt : List Byte) : Bool :=
  let len := Machine.leVal (Machine.slice pkt 8 4)
  32 ≤ pkt.length && (65532 < len || pkt.length == 32 + (if len = 0 then 0 else (len + 3) / 4 * 4 + 4))

/-- A request stays in its line of 64 bytes (R320). -/
def ddrOk (a : Nat) (ofs : Nat) (wr : Option (List Byte)) : Bool :=
  a % 64 == 0 && (match wr with
    | none => true
    | some bs => !bs.isEmpty && ofs + bs.length ≤ 64)

/-- Is a command well formed? -/
def Instr.wf (i : Instr) : Bool :=
  match i with
  | .cfgLoad _ pkt => pktWf pkt
  | .event _ pkt => pktWf pkt
  | .cxpPacket _ _ _ _ _ _ _ _ _ _ pix => pix.all (fun p => p.all (· < 65536))
  | .nimebDataFrame _ _ _ _ _ _ _ payload => payload.length ≤ 256
  | .ethRx _ frame _ => 14 ≤ frame.length && frame.length ≤ 1514
  | .ethTx _ pkt => pktWf pkt
  | .timeFrame _ payload _ => payload.length == 32
  | .sdfSample _ bits => !bits.isEmpty
  | .ddrRequest a wr ofs _ _ _ => ddrOk a.toNat ofs wr
  | .nop _ pkt => pktWf pkt
  | .regWrite _ pkt => pktWf pkt
  | .regRead _ pkt => pktWf pkt
  | .regRmw _ pkt => pktWf pkt
  | .memWrite _ pkt => pktWf pkt
  | .memRead _ pkt => pktWf pkt
  | .cxpCtrl _ pkt => pktWf pkt
  | .twTransferDone _ _ _ _ rd => rd.length ≤ 34
  | .registerWrite .. | .reservedAccess .. | .blockWakeDone .. | .devIdWrite .. | .loadValidate ..
  | .structApplyDone .. | .loadAbort .. | .pipelineStop .. | .pipelineDrained .. | .pipelineRun .. | .swapArm ..
  | .swapDisarm .. | .swapNow .. | .bankDrainDone .. | .encoderStep .. | .quadratureError .. | .deadTimeEnd ..
  | .standstill .. | .indexEdge .. | .interpolatedHit .. | .deferredHit .. | .cuSpacingWrite .. | .cuSpacingHiWrite ..
  | .absTimerStart .. | .absCycleDone .. | .absStartTimeout .. | .switchInputChange .. | .switchAccept ..
  | .pulsePinEnd .. | .consumerBusyEnd .. | .irqHoldoffTimer .. | .laneLock .. | .laneLockLoss .. | .rateHuntDwell ..
  | .downlinkTrigger .. | .cxpCtrlReceived .. | .masterLossTimeout .. | .laneRetire .. | .cameraLinkAck ..
  | .laneEqSeedWrite .. | .laneCtlWrite .. | .eyeScanStart .. | .eyeScanDone .. | .identTimer .. | .identFrame ..
  | .npRetrain .. | .nakReceived .. | .creditFrame .. | .creditReturnTimer .. | .laneSwapFrame .. | .laneSwapApply ..
  | .lineEnd .. | .tagTimeout .. | .darkCapt .. | .ingFlip .. | .ingFlipApply .. | .staggerReadReturn ..
  | .stitchLineForm .. | .seamRegistration .. | .seamSeedWrite .. | .umapFlip .. | .vuLineProcess .. | .vuFault ..
  | .vuWatchdog .. | .spareLoadDone .. | .retireWindowClose .. | .replayCaughtUp .. | .blockCommit .. | .segResolve ..
  | .spillDrain .. | .ethGatherTimer .. | .masterFetch .. | .firePulseEnd .. | .waveWindowEnd .. | .latchPulse ..
  | .latchPulseEnd .. | .shiftDone .. | .lineCycleEnd .. | .printFetchDone .. | .heatOkAccept .. | .takeoverAdd ..
  | .takeoverRemove .. | .frameStart .. | .ppLineEnd .. | .frameEnd .. | .ispFrameTakeup .. | .ispFrameDone ..
  | .ispCropWrite .. | .tsWrap .. | .tsPps .. | .timeAdjEnd .. | .timeRateWrite .. | .timeAdjTicksWrite ..
  | .timeNowRead .. | .tsSeed .. | .timeStep .. | .timeStepFromUp .. | .launch .. | .timeReqSend ..
  | .timeExchangeTimeout .. | .rtcSet .. | .rtcSetApply .. | .rtcSync .. | .rtcTrim .. | .oscStop .. | .vbatLoss ..
  | .sdfPeriodUpdate .. | .sdfClockLost .. | .sdfClockReturn .. | .sdfFsync .. | .swSync .. | .sdfSyncApply ..
  | .sdfChannelEnable .. | .sdfChannelDisable .. | .rowCopyDone .. | .rankCopyDone .. | .dmcConfigDone .. | .dmcInit ..
  | .dmcInitDone .. | .dlyApply .. | .refresh .. | .powerDownEntry .. | .patrolScrub .. | .dmaStart .. | .dmaAbort ..
  | .dmaComplete .. | .remoteTimeout .. | .functionLevelReset .. | .perst .. | .queueEnable .. | .queueDisable ..
  | .queueDoorbell .. | .queueHeadWrite .. | .creditLateTimeout .. | .packetHcrcFail .. | .twGo .. | .twAbort ..
  | .arbLost .. | .sclTo .. | .sdaTo .. | .busclr .. | .busClearDone .. | .targetAddressMatch .. | .targetStop ..
  | .srInAck .. | .hostNotify .. | .notifyDone .. | .pmbusPoll .. | .pmbusSetDone .. | .pmbusTimeout .. | .pwrSummer ..
  | .pwrAutumn .. | .pwrWinter .. | .blockAnswer .. | .delayRetry .. | .blockGate .. | .tableWakeStep ..
  | .dieRestoreDone .. | .dvfsTargetWrite .. | .dvfsFreqSwitch .. | .tempSample .. | .runNow .. | .calRunDone ..
  | .heartbeatSend .. | .heartbeatReceived .. | .partnerLost .. | .claimFrame .. | .frostEnd .. | .demote ..
  | .genLower .. | .promote .. | .handover .. | .resync .. | .resyncCapture .. | .resyncAlign .. | .resyncTimeout ..
  | .shadowFrame .. | .shadowUnmatchedTimeout .. | .fatalFault .. | .forceFatal .. | .release .. | .coldReset ..
  | .warmReset .. | .bootImageRead .. | .bootWaitEnd .. | .bootPollTimeout .. | .pcieTrainStart .. | .dieRailUp ..
  | .jtagInstruction .. | .pllLock .. | .pcieLinkUp .. | .completionTimeout .. | .rtcSecRead .. | .openPageIdleClose ..
  | .busClearAfterTbuf .. | .dclRdWord .. => true

end Sys2Proof
end

