-- ==== Sys2Proof/Tests/Slice0.lean ====
section
/-!
SUPPORT. Tests: ill-formed commands are refused, the spec's worked examples come out, and for every statement with hypotheses there are a state
and operands that meet them (test_witness_<statement>, clause by clause).
-/
open Sys2Proof Sys2Proof.Machine
set_option maxRecDepth 8000
set_option Elab.async false

namespace Sys2Proof.Tests

/-! ### Helpers -/

/-- The state after reset with some registers written. -/
def withRegs (l : List (Nat × Nat)) : State := l.foldl (fun s e => s.putN e.1 e.2) State.reset

/-- The bytes of a packet (R360, R361). -/
def packetBytes (opc qid flags tag target p0 p1 : Nat) (data : List Byte) : List Byte :=
  let h := leBytes 2 opc ++ leBytes 1 qid ++ leBytes 1 flags ++ leBytes 2 tag ++ zeros 2 ++ leBytes 4 data.length ++ leBytes 8 target
    ++ leBytes 4 p0 ++ leBytes 4 p1
  let body := data ++ zeros ((4 - data.length % 4) % 4)
  h ++ leBytes 4 (crc32c h) ++ (if data.length = 0 then [] else body ++ leBytes 4 (crc32c body))

/-- A table of a section body: its header and its entries (R35). -/
def tableBytes (ty esize : Nat) (ents : List (List Byte)) : List Byte :=
  leBytes 1 ty ++ [0] ++ leBytes 2 esize ++ leBytes 4 ents.length ++ ents.flatten

/-- A section: header with its CRCs, and body (R34). -/
def sectionBytes (ty : Nat) (body : List Byte) : List Byte :=
  let h := leBytes 4 ty ++ leBytes 4 body.length ++ leBytes 4 (crc32c body)
  h ++ leBytes 4 (crc32c h) ++ body

/-- A bit-stream: HDR and sections (R33). -/
def streamBytes (variant flags structId nsec : Nat) (secs : List Byte) : List Byte :=
  let h := leBytes 4 0x4D574253 ++ [0, 3] ++ leBytes 2 variant ++ leBytes 1 3 ++ leBytes 1 nsec ++ leBytes 2 flags
    ++ leBytes 4 (32 + secs.length) ++ leBytes 8 77 ++ leBytes 4 structId
  h ++ leBytes 4 (crc32c h) ++ secs

/-- The smallest STRUCT body the loader takes: nine tables, with no chain, link, class or memory entry and every unit unused (R35 to R37). -/
def smallBody : List Byte :=
  tableBytes 1 64 [] ++ tableBytes 2 16 ((List.range 512).map (fun k => leBytes 2 k ++ leBytes 2 0xFFFF ++ zeros 12))
    ++ tableBytes 3 16 [] ++ tableBytes 4 16 (List.replicate 64 (zeros 16)) ++ tableBytes 5 32 (List.replicate 50 (zeros 32))
    ++ tableBytes 6 4 (List.replicate 4 [0, 7, 0, 0]) ++ tableBytes 7 4 [] ++ tableBytes 8 16 [] ++ tableBytes 9 16 (List.replicate 8 (zeros 16))

/-- A STRUCT-only bit-stream with that body. -/
def smallStream (variant : Nat) : List Byte := streamBytes variant 1 (crc32c smallBody) 1 (sectionBytes 1 smallBody)

/-- A JOB-only bit-stream with job `id` and no table but JOB_HDR (R43). -/
def smallJob (variant sid id : Nat) : List Byte :=
  streamBytes variant 2 sid 1 (sectionBytes 2 (tableBytes 0x41 8 [leBytes 2 id ++ zeros 2 ++ leBytes 4 1000]))

/-- DDR-4 with `bs` from byte `a` on, all else 0. -/
def ddrWith (a : Nat) (bs : List Byte) : List Host.Cell :=
  (bs.zipIdx.filter (fun e => e.1 != 0)).map (fun e => (a + e.2, e.1))
/-! ### Well-formed and ill-formed commands -/

/-- A packet of 44 bytes with LEN 8 is well formed, one byte short is not, nor is one without a header (R360). -/
theorem test_wf_packet :
    (Instr.nop 0 (leBytes 8 0 ++ leBytes 4 8 ++ zeros 20 ++ zeros 12)).wf = true ∧ (Instr.nop 0 (leBytes 8 0 ++ leBytes 4 8 ++ zeros 31)).wf = false ∧
    (Instr.nop 0 (zeros 31)).wf = false := by decide +kernel
/-- Every packet command is held to the packet's form. -/
theorem test_wf_packet_commands :
    (packetCommands 0 (zeros 31)).all (fun c => !c.wf) = true ∧ (packetCommands 0 (zeros 32)).all Instr.wf = true := by decide +kernel
/-- A sample is at most 16 bits. -/
theorem test_wf_cxp_packet :
    (Instr.cxpPacket 0 0 false 0 0 true true 0 0 0 [[65536]]).wf = false ∧ (Instr.cxpPacket 0 0 false 0 0 true true 0 0 0 [[65535]]).wf = true := by decide +kernel
/-- A Nimeb frame carries at most 256 bytes (R127). -/
theorem test_wf_nimeb :
    (Instr.nimebDataFrame 0 0 0 0 0 none true (zeros 257)).wf = false ∧ (Instr.nimebDataFrame 0 0 0 0 0 none true (zeros 256)).wf = true := by decide +kernel
/-- An Ethernet frame has at least a header and at most 1,514 bytes. -/
theorem test_wf_eth_rx : (Instr.ethRx 0 (zeros 13) true).wf = false ∧ (Instr.ethRx 0 (zeros 1515) true).wf = false := by decide +kernel
/-- A TIME frame has 32 bytes (R298). -/
theorem test_wf_time_frame : (Instr.timeFrame 0 (zeros 31) none).wf = false ∧ (Instr.timeFrame 0 (zeros 32) none).wf = true := by decide +kernel
/-- Modulator bits come one or more at a time. -/
theorem test_wf_sdf_sample : (Instr.sdfSample 0 []).wf = false := by decide +kernel
/-- A DDR-4 request is for one aligned line (R319, R321). -/
theorem test_wf_ddr_request :
    (Instr.ddrRequest 32 none 0 .spill 0 0).wf = false ∧ (Instr.ddrRequest 64 (some []) 0 .spill 0 0).wf = false ∧
    (Instr.ddrRequest 64 (some (zeros 9)) 56 .spill 0 0).wf = false ∧ (Instr.ddrRequest 64 (some (zeros 8)) 56 .spill 0 0).wf = true := by decide +kernel
/-- A target answers at most 34 bytes (R381). -/
theorem test_wf_tw_transfer : (Instr.twTransferDone 0 true true 0 (zeros 35)).wf = false := by decide +kernel

/-! ### The spec's worked examples -/

/-- 21_register_index.md: the spacing of CU17. -/
theorem test_cu17_spacing : R.CU_SPACING 17 = 0x02401444 := by decide +kernel
/-- R27: logical VU 200 is physical VU 224 at cold reset. -/
theorem test_logical_vu_200 : State.reset.physOfVu 200 = 224 := by decide +kernel
/-- R8: the check value of CRC-32C over "123456789". -/
theorem test_crc32c : crc32c [0x31, 0x32, 0x33, 0x34, 0x35, 0x36, 0x37, 0x38, 0x39] = 0xE3069283 := by decide +kernel
/-- FIPS 180-4's example: the digest of "abc" begins CB00753F and ends 58BAECA134C825A7. -/
theorem test_sha384_abc :
    sha384 [0x61, 0x62, 0x63] / 2 ^ 352 = 0xCB00753F ∧ sha384 [0x61, 0x62, 0x63] % 2 ^ 64 = 0x58BAECA134C825A7 := by decide +kernel

/-- Press B's compare unit 0 at N = 1,000,000 with S = 0x0003_74BC, without interpolation. -/
def pressB : State := withRegs [(R.CU_CTL 0, 1), (R.CU_SPACING 0, 0x374BC), (R.CU_NEXT_INT 0, 1000000), (R.ENC_CTL 0, 1)]
/-- 03_web_position.md, Press B, hit 0: the unit hits at count 1,000,000, and its next point is 1,000,003 + 29,884. -/
theorem test_press_b_hit_1 :
    (pressB.cuStep 0 1000000 (1000000 * 65536)).1 = true ∧
    (pressB.cuStep 0 1000000 (1000000 * 65536)).2.cuN 0 = 1000003 * 65536 + 29884 ∧
    (pressB.cuStep 0 999999 (999999 * 65536)).1 = false := by decide +kernel
/-- The same table, hit 1: not at count 1,000,003 but at 1,000,004. -/
theorem test_press_b_hit_1_count :
    ((pressB.setCuN 0 (1000003 * 65536 + 29884)).cuStep 0 1000003 (1000003 * 65536)).1 = false ∧
    ((pressB.setCuN 0 (1000003 * 65536 + 29884)).cuStep 0 1000004 (1000004 * 65536)).1 = true := by decide +kernel
/-- 03_web_position.md, with interpolation: D of hit 1 is 273, of hit 2 547. -/
theorem test_press_b_delay :
    ((pressB.putN (R.ENC_PERIOD 0) 153600).setCuN 0 (1000003 * 65536 + 29884)).cuDelay 0 = 273 ∧
    ((pressB.putN (R.ENC_PERIOD 0) 153600).setCuN 0 (1000006 * 65536 + 59768)).cuDelay 0 = 547 := by decide +kernel

/-- CAM4 with the dark value 3,008 and the gain 0x4400 at pixel 0. -/
def cam4 : State :=
  { withRegs [(R.ING_CTL 4, 0x10)] with ing := State.reset.ing.set 4 { State.reset.ing[4] with act := [(R.ING_TBL 4 0, 3008), (R.ING_TBL 4 0x3000, 0x4400)] } }
/-- 06_line_ingest.md, the example of CAM4's pixel 8,000 (here at place 0): dark 3,008 and gain 0x4400 take 39,168 to 38,420. -/
theorem test_cam4_dark_gain : cam4.darkGain 4 0 [612 * 2 ^ 6] = [38420] := by decide +kernel
/-- 07_stitching.md, Position: 18.6 pixel 6,400,032 lies at 38,985 µm. -/
def knots : State :=
  { withRegs [(R.STI_UMAP_CTL, 746)] with
    sti := { State.reset.sti with umap := [(R.STI_UMAP 134, 618710), (R.STI_UMAP 135, 721830)] } }
theorem test_x_um : knots.fld F.STI_UMAP_CTL_KS = 746 ∧ knots.xUm 6400032 = 38985 := by decide +kernel
/-- 15_dma_compression.md, CC01: the segment of 612, 615, 611, 640 begins 0xFC, 0x80, 0x60, 0x77. -/
theorem test_cc01 : ((encPred 10 1 1 4 [[[612], [615], [611], [640]]]).drop 20).take 4 = [0xFC, 0x80, 0x60, 0x77] := by decide +kernel
/-- 13_sensor_filter_chain.md, Timing: K = 4, M = 64 at PER 0x0028_0000 stamps a sample of TS_NS 1,000,000,000 with 999,994,960. -/
def sdi0 : State := withRegs [(R.SDF_CH_CTL 0, 0), (R.SDF_GRP_PER 0, 0x280000)]
theorem test_sdf_stamp :
    let s := (sdi0.setFld (F.SDF_CH_CTL_K 0) 3).setFld (F.SDF_CH_CTL_M 0) 64
    s.groupDelay 0 = 252 ∧ (s.sdfEmit 0 3080000 1000000000).rdN (R.SDF_CH_TS 0) = 999994960 := by decide +kernel
/-- 14_ddr_memory.md, Press B: eight channels, each with two ranks of x8 16 Gb devices, install 261,632 MiB. -/
theorem test_press_b_ddr :
    let s := (List.range 8).foldl (fun (s : State) c => (s.setFld (F.DMC_CH_CFG_RANKS2 c) 1).setFld (F.DMC_CH_CFG_D16 c) 1) State.reset
    (s.dmcCfgWrite 3).fld F.DMC_INSTALLED_MIB = 261632 := by decide +kernel
/-- CIEDE2000 test data of Sharma, Wu and Dalal, pairs 1 and 17: 2.0425 and 27.1492 (in 2^-32). -/
theorem test_de2000_pairs :
    let f := fun (x : Int) => x * 4294967296 / 10000
    let d := fun (p q : Int × Int × Int) => (fxDe2000 fxOne fxOne fxOne (f p.1, f p.2.1, f p.2.2) (f q.1, f q.2.1, f q.2.2) * 10000 + 2147483648) / 4294967296
    d (500000, 26772, -797751) (500000, 0, -827485) = 20425 ∧ d (500000, 25000, 0) (730000, 250000, -180000) = 271492 := by decide +kernel
/-- 10_print_firing.md, Press A: the point at count 453,504 with fraction 0x8000 is line 3,543 of label 2, and LS becomes 353,504 (R252). -/
theorem test_press_a_line :
    identify true 109504 0 122000 (453504 * 65536 + 0x8000) 1849572 = (.line true 2 3543, 353504, 2) := by decide +kernel
/-- The same example: the line is read from DATA_BASE + 0x005F_3A00 (R254). -/
theorem test_press_a_line_address :
    lineAddr (.line true 2 3543) { port := 0, cu := 16, bpn := 2, wsel := 0, base := 0, stride := 512, lpr := 4323, nrep := 64, flags := 1, orgOfs := 0 }
      = 0x005F3A00 := by decide +kernel
/-- R33, R34, R43: a JOB-only stream of bytes reads with its checks good, and a changed byte of its body fails BCRC. -/
theorem test_job_stream :
    let ok := fun (x : Section) => (x.scrcOk, x.bcrcOk)
    let bs := smallJob 2 0xABCD 0x142
    (parseStream bs).hdr.hcrcOk = true ∧ (parseStream bs).hdr.structId = 0xABCD ∧ ((parseStream bs).sections.map ok) = [(true, true)] ∧
    (streamJob (parseStream bs)).map (·.jobId) = some 0x142 ∧ ((parseStream (bs.set 60 9)).sections.map ok) = [(true, false)] := by decide +kernel

/-! ### Witnesses -/

/-- A packet is plain where each of its checks passes. -/
theorem plain_of {q : Fin 32} {opc : Nat} {x : List Byte}
    (h : (pktHdr x).opc = opc ∧ (pktHdr x).qid = q ∧ ((pktHdr x).flags = 0 ∨ (pktHdr x).flags = 4) ∧ (pktHdr x).rsvd = 0 ∧
      (pktHdr x).hcrcOk = true ∧ ((pktHdr x).len ≠ 0 → (pktHdr x).pcrcOk = true) ∧ (pktData x).length = (pktHdr x).len) : Plain q opc x :=
  ⟨h.1, h.2.1, h.2.2.1, h.2.2.2.1, h.2.2.2.2.1, h.2.2.2.2.2.1, h.2.2.2.2.2.2⟩

/-- States and operands that meet the hypotheses of each clause of `Obligations.DirectWriteByAccessCode`. -/
theorem test_witness_DirectWriteByAccessCode :
    (∃ (off : BitVec 26), let o := off.toNat / 4 * 4; ∃ r, findReg o = some r ∧ ∃ b, blockOf o = some b ∧ ∃ (val : Word) (s : State), gateId b 0 = none ∧ b ≠ .vg ∧ s.regHere o r = true ∧ r.row.rw = 0 ∧ r.row.base ∉ [R.CU_STAT 0, R.ABS_STAT 0, R.TW_STAT 0, R.HQ_PK_IGN, R.HQ_PK_IGN_OFS] ∧ (r.row.base = R.TOP_DEVID → bitN val.toNat 30 = false) ∧ (val ^^^ s.readVal r o) &&& BitVec.ofNat 32 r.row.pk = 0) ∧
    (∃ (off : BitVec 26), let o := off.toNat / 4 * 4; ∃ r, findReg o = some r ∧ ∃ b, blockOf o = some b ∧ ∃ (val : Word) (s : State), gateId b 0 = none ∧ b ≠ .vg ∧ s.regHere o r = true ∧ r.row.rw = 0 ∧ r.row.base ∉ [R.CU_STAT 0, R.ABS_STAT 0, R.TW_STAT 0, R.HQ_PK_IGN, R.HQ_PK_IGN_OFS] ∧ (r.row.base = R.TOP_DEVID → bitN val.toNat 30 = false) ∧ (val ^^^ s.readVal r o) &&& BitVec.ofNat 32 r.row.pk ≠ 0) ∧
    (∃ (off : BitVec 26), let o := off.toNat / 4 * 4; ∃ r, findReg o = some r ∧ ∃ b, blockOf o = some b ∧ ∃ (s : State), gateId b 0 = none ∧ b ≠ .vg ∧ s.regHere o r = true) ∧
    (∃ (off : BitVec 26), let o := off.toNat / 4 * 4; ∃ r, findReg o = some r ∧ ∃ b, blockOf o = some b ∧ ∃ (s : State), b ≠ .vg ∧ s.regHere o r = false) ∧
    (∃ (off : BitVec 26), let o := off.toNat / 4 * 4; ∃ r, findReg o = some r ∧ ∃ b, blockOf o = some b ∧ ∃ (s : State), gateId b 0 = none ∧ b ≠ .vg ∧ b ≠ .hostq ∧ s.regHere o r = true ∧ r.row.base ∉ [R.TOP_FAULT_SUM, R.EVT_CFG 0, R.EVT_GATE, R.CU_CTL 0, R.FLT_COND, R.HP_TK 0 0, R.TW3_FILE 0, R.TIME_NOW_LO, R.RTC_SEC_LO]) :=
  ⟨⟨0#26, _, rfl, _, rfl, 0#32, State.reset, by decide +kernel⟩,
    ⟨0x700000#26, _, rfl, _, rfl, 1#32, State.reset, by decide +kernel⟩,
    ⟨0#26, _, rfl, _, rfl, State.reset, by decide +kernel⟩,
    ⟨0x900000#26, _, rfl, _, rfl, { State.reset with board := { State.reset.board with variant := .w0648 } }, by decide +kernel⟩,
    ⟨0#26, _, rfl, _, rfl, State.reset, by decide +kernel⟩⟩

/-- States and operands that meet the hypotheses of each clause of `Obligations.ReservedAccessIsCaptured`. -/
theorem test_witness_ReservedAccessIsCaptured :
    (∃ (off : BitVec 26) (s : State), let o := off.toNat / 4 * 4; (findReg o = none ∨ (∀ r, findReg o = some r → s.regHere o r = false))) ∧
    (∃ (off : BitVec 26) (s : State), let o := off.toNat / 4 * 4; findReg o = none ∧ (blockOf o ≠ some .vg ∨ s.fld F.PWR_STAT_STATE ≠ 2) ∧ s.bit F.TOP_ACC_ERR_VALID = false) ∧
    (∃ (off : BitVec 26) (s : State), let o := off.toNat / 4 * 4; findReg o = none ∧ (blockOf o ≠ some .vg ∨ s.fld F.PWR_STAT_STATE ≠ 2) ∧ s.bit F.TOP_ACC_ERR_VALID = true) ∧
    (∃ (off : BitVec 26), let o := off.toNat / 4 * 4; ∃ r, findReg o = some r ∧ ∃ (s : State), s.regHere o r = false ∧ (blockOf o ≠ some .vg ∨ s.fld F.PWR_STAT_STATE ≠ 2)) :=
  ⟨⟨0x30#26, State.reset, by decide +kernel⟩,
    ⟨0x80#26, State.reset, by decide +kernel⟩,
    ⟨0x80#26, { State.reset with regs := [(0x24, 0x80000000#32)] }, by decide +kernel⟩,
    ⟨0x2500100#26, _, rfl, { State.reset with board := { State.reset.board with variant := .w0648 } }, by decide +kernel⟩⟩

/-- States and operands that meet the hypotheses of each clause of `Obligations.QueueControl`. -/
theorem test_witness_QueueControl :
    (∃ (q : Fin 64) (s : State), q.val < 32 ∧ s.bit (F.HQ_CFG_EN q) = false ∧ 17 ≤ s.fld (F.HQ_CFG_SIZE q) ∧ s.fld (F.HQ_CFG_SIZE q) ≤ 26) ∧
    (∃ (c : Fin 32) (s0 : State), let s : State := { s0 with dma := s0.dma.map (fun d => { d with fin := none }), seg := { s0.seg with spill := [], dropped := [] } }; let q := 32 + c.val; s.bit (F.HQ_CFG_EN q) = false ∧ 17 ≤ s.fld (F.HQ_CFG_SIZE q) ∧ s.fld (F.HQ_CFG_SIZE q) ≤ 26) ∧
    (∃ (q : Fin 64) (s : State), s.bit (F.HQ_CFG_EN q) = false ∧ (s.fld (F.HQ_CFG_SIZE q) < 17 ∨ 26 < s.fld (F.HQ_CFG_SIZE q))) ∧
    (∃ (q : Fin 64) (s : State), s.bit (F.HQ_CFG_EN q) = true) ∧
    (∃ (q : Fin 32) (tail : BitVec 26) (s : State), s.fld (F.HQ_CFG_SIZE q) ≤ 26 ∧ (let t := tail.toNat / 16 * 16; t < s.ringSize q)) ∧
    (∃ (q : Fin 32) (tail : BitVec 26) (s : State), s.ringSize q ≤ tail.toNat / 16 * 16) ∧
    (∃ (q : Fin 32) (s : State), (s.hq.unsig[q] = 0 ∨ s.rdN (R.HQ_ITIME (32 + q)) % 65536 = 0)) ∧
    (∃ (q : Fin 32) (s : State), s.hq.unsig[q] ≠ 0 ∧ s.rdN (R.HQ_ITIME (32 + q)) % 65536 ≠ 0) :=
  ⟨⟨0, State.reset, by decide +kernel⟩,
    ⟨0, State.reset, by decide +kernel⟩,
    ⟨0, { State.reset with regs := [(0x200008, 1#32)] }, by decide +kernel⟩,
    ⟨0, { State.reset with regs := [(0x200008, 0x31#32)] }, by decide +kernel⟩,
    ⟨15, 0#26, State.reset, by decide +kernel⟩,
    ⟨0, 0x100000#26, State.reset, by decide +kernel⟩,
    ⟨0, State.reset, by decide +kernel⟩,
    ⟨0, { State.reset with hq := { State.reset.hq with unsig := (State.reset.hq.unsig).set 0 (1) }, regs := [(0x20081c, 0x800#32)] }, by decide +kernel⟩⟩

/-- States and operands that meet the hypotheses of each clause of `Obligations.PacketsCompleteInOrder`. -/
theorem test_witness_PacketsCompleteInOrder :
    (∃ (q : Fin 32) (pkt : List Byte), Plain q 0 pkt ∧ ∃ (s : State), Offered s q 16 ∧ (let h := pktHdr pkt; h.len = 0 ∧ h.target = 0 ∧ h.param0 = 0 ∧ h.param1 = 0)) ∧
    (∃ (q : Fin 32) (pkt : List Byte), Plain q 0x10 pkt ∧ ∃ (s : State), Offered s q 16 ∧ (let h := pktHdr pkt; s.bit F.DMC_INSTALLED_VALID = true ∧ s.inDdr h.target h.len = true ∧ h.len ≤ 65532 ∧ h.param0 = 0 ∧ h.param1 = 0 ∧ s.poisoned h.target h.len = false)) ∧
    (∃ (q : Fin 32) (pkt : List Byte), Plain q 0x11 pkt ∧ ∃ (s : State), let h := pktHdr pkt; Offered s q (16 + dataRoom h.param0 65532) ∧ s.bit F.DMC_INSTALLED_VALID = true ∧ s.inDdr h.target h.param0 = true ∧ 1 ≤ h.param0 ∧ h.param0 ≤ 65532 ∧ h.len = 0 ∧ h.param1 = 0 ∧ s.poisoned h.target h.param0 = false) ∧
    (∃ (q : Fin 32) (pkt : List Byte), Plain q 0x11 pkt ∧ ∃ (s : State), let h := pktHdr pkt; Offered s q (16 + dataRoom h.param0 65532) ∧ s.bit F.DMC_INSTALLED_VALID = true ∧ s.inDdr h.target h.param0 = true ∧ 1 ≤ h.param0 ∧ h.param0 ≤ 65532 ∧ h.len = 0 ∧ h.param1 = 0 ∧ s.poisoned h.target h.param0 = true) ∧
    (∃ (q : Fin 32) (pkt : List Byte), Plain q 2 pkt ∧ (let h := pktHdr pkt; ∃ r, findReg h.target = some r ∧ ∃ b, blockOf h.target = some b ∧ ∃ (s : State), Offered s q (16 + dataRoom 4 65532) ∧ h.len = 0 ∧ h.param0 = 1 ∧ h.param1 = 0 ∧ gateId b 0 = none ∧ b ≠ .vg ∧ b ≠ .hostq ∧ s.regHere h.target r = true ∧ r.row.base ∉ [R.TOP_FAULT_SUM, R.EVT_CFG 0, R.EVT_GATE, R.CU_CTL 0, R.FLT_COND, R.HP_TK 0 0, R.TW3_FILE 0, R.TIME_NOW_LO, R.RTC_SEC_LO])) ∧
    (∃ (q : Fin 32) (pkt : List Byte), Plain q 1 pkt ∧ (let h := pktHdr pkt; ∃ r, findReg h.target = some r ∧ ∃ b, blockOf h.target = some b ∧ b ∈ [.top, .nim, .eth, .enc, .evt, .time, .flt] ∧ r.row.base ∉ ownWrites ∧ ∃ (s : State), Offered s q 16 ∧ s.regHere h.target r = true ∧ h.len = 4 ∧ h.param0 = 0 ∧ h.param1 = 0)) ∧
    (∃ (q : Fin 32) (pkt : List Byte), Plain q 3 pkt ∧ (let h := pktHdr pkt; ∃ r, findReg h.target = some r ∧ ∃ b, blockOf h.target = some b ∧ b ∈ [.top, .nim, .eth, .enc, .evt, .time, .flt] ∧ r.row.base ∉ ownWrites ∧ ∃ (s : State), Offered s q 16 ∧ s.regHere h.target r = true ∧ r.row.base ∉ [R.TOP_FAULT_SUM, R.EVT_CFG 0, R.EVT_GATE, R.FLT_COND, R.TIME_NOW_LO, R.RTC_SEC_LO] ∧ r.row.w1c = 0 ∧ r.row.wo = 0 ∧ h.len = 0)) ∧
    (∃ (q : Fin 32) (pkt : List Byte), Plain q 0x30 pkt ∧ ∃ (s : State), Offered s q 16 ∧ (let h := pktHdr pkt; h.len = 0 ∧ h.target = 0 ∧ h.param0 < 4 ∧ h.param1 = 0)) ∧
    (∃ (q : Fin 32) (pkt : List Byte), Plain q 0x50 pkt ∧ ∃ (n : Fin 12) (s : State), Offered s q 16 ∧ (let h := pktHdr pkt; h.len ≤ 65532 ∧ h.target = 0 ∧ h.param0 = n ∧ h.param1 = 0 ∧ s.masterUp n = true ∧ s.lane.red[n] = [])) :=
  ⟨⟨28, (packetBytes 0 28 0 0 0 0 0 []), plain_of (by decide +kernel), { State.reset with hq := { State.reset.hq with linkUp := true }, regs := [(0x200708, 0x2031#32), (0x200710, 8#32), (0x200888, 0x31#32)] }, ⟨by decide +kernel, by decide +kernel, by decide +kernel⟩, by decide +kernel⟩,
    ⟨24, (packetBytes 0x10 24 0 0 0 0 0 []), plain_of (by decide +kernel), { State.reset with hq := { State.reset.hq with linkUp := true }, regs := [(0x200608, 0xe031#32), (0x200610, 2#32), (0x200b88, 0x31#32), (0x2800004, 0x80000000#32)] }, ⟨by decide +kernel, by decide +kernel, by decide +kernel⟩, by decide +kernel⟩,
    ⟨24, (packetBytes 0x11 24 0 0 0 1 0 []), plain_of (by decide +kernel), { State.reset with hq := { State.reset.hq with linkUp := true }, regs := [(0x200608, 0xe031#32), (0x200610, 2#32), (0x200b88, 0x31#32), (0x2800004, 0x80000008#32)] }, ⟨by decide +kernel, by decide +kernel, by decide +kernel⟩, by decide +kernel⟩,
    ⟨28, (packetBytes 0x11 28 0 0 0 1 0 []), plain_of (by decide +kernel), { State.reset with hq := { State.reset.hq with linkUp := true }, poison := [0], regs := [(0x200708, 0x2031#32), (0x200710, 8#32), (0x200888, 0x31#32), (0x2800004, 0x80000002#32)] }, ⟨by decide +kernel, by decide +kernel, by decide +kernel⟩, by decide +kernel⟩,
    ⟨28, (packetBytes 2 28 0 0 0 1 0 []), plain_of (by decide +kernel), _, rfl, _, rfl, { State.reset with hq := { State.reset.hq with linkUp := true }, regs := [(0x200708, 0x2031#32), (0x200710, 8#32), (0x200888, 0x31#32)] }, ⟨by decide +kernel, by decide +kernel, by decide +kernel⟩, by decide +kernel⟩,
    ⟨28, (packetBytes 1 28 0 0 0 0 0 [0xd3#8, 0x3a#8, 0#8, 0x33#8]), plain_of (by decide +kernel), _, rfl, _, rfl, by decide +kernel, by decide +kernel, { State.reset with hq := { State.reset.hq with linkUp := true }, regs := [(0x200708, 0x31#32), (0x200710, 1#32), (0x200808, 0x31#32)] }, ⟨by decide +kernel, by decide +kernel, by decide +kernel⟩, by decide +kernel⟩,
    ⟨28, (packetBytes 3 28 0 0 0 0 0x3c []), plain_of (by decide +kernel), _, rfl, _, rfl, by decide +kernel, by decide +kernel, { State.reset with hq := { State.reset.hq with linkUp := true }, regs := [(0x200708, 0x31#32), (0x200710, 1#32), (0x200808, 0x31#32)] }, ⟨by decide +kernel, by decide +kernel, by decide +kernel⟩, by decide +kernel⟩,
    ⟨28, (packetBytes 0x30 28 0 0 0 0 0 []), plain_of (by decide +kernel), { State.reset with hq := { State.reset.hq with linkUp := true }, regs := [(0x200708, 0x2031#32), (0x200710, 8#32), (0x200888, 0x31#32)] }, ⟨by decide +kernel, by decide +kernel, by decide +kernel⟩, by decide +kernel⟩,
    ⟨5, (packetBytes 0x50 5 0 0 0 6 0 []), plain_of (by decide +kernel), 6, { State.reset with hq := { State.reset.hq with linkUp := true }, regs := [(0x200148, 0x19031#32), (0x200150, 2#32), (0x200e48, 0x31#32), (0x403004, 2#32)] }, ⟨by decide +kernel, by decide +kernel, by decide +kernel⟩, by decide +kernel⟩⟩

/-- States and operands that meet the hypotheses of each clause of `Obligations.PacketsAreCheckedInOrder`. -/
theorem test_witness_PacketsAreCheckedInOrder :
    (∃ (q : Fin 32) (s : State), s.offers q = false) ∧
    (∃ (q : Fin 32) (pkt : List Byte) (s : State), s.offers q = true ∧ hFence (pktHdr pkt) = false ∧ s.hasRoom (s.fld (F.HQ_CFG_CQ q)) 16 = false) ∧
    (∃ (q : Fin 32) (pkt : List Byte) (s : State), Offered s q 65600 ∧ hFence (pktHdr pkt) = false ∧ (pktHdr pkt).hcrcOk = true) ∧
    (∃ (q : Fin 32) (pkt : List Byte) (s : State), Offered s q 16 ∧ (pktHdr pkt).hcrcOk = false) :=
  ⟨⟨30, State.reset, by decide +kernel⟩,
    ⟨20, (packetBytes 0x11 20 0 30233 0x380 0xb0 0 []), { State.reset with hq := { State.reset.hq with linkUp := true }, regs := [(0x200508, 0x31#32), (0x20050c, 2#32)] }, by decide +kernel⟩,
    ⟨24, [0x50#8, 0#8, 0xe#8, 0#8, 0xb8#8, 0x90#8, 0#8, 0#8, 0x53#8, 0#8, 0#8, 0#8, 0#8, 0#8, 0#8, 0#8, 0#8, 0#8, 0#8, 0#8, 0xb#8, 0#8, 0#8, 0#8, 0#8, 0#8, 0#8, 0#8, 0x22#8, 0xc5#8, 0xc2#8, 0x2c#8, 0xbc#8, 3#8, 0x57#8, 0x36#8, 0xe0#8, 0#8, 0xf5#8, 3#8, 0#8, 0xfd#8, 0x71#8, 0x6f#8, 0#8, 0x46#8, 0xd1#8, 3#8, 0x54#8, 0x73#8], { State.reset with hq := { State.reset.hq with linkUp := true }, regs := [(0x200608, 0x31#32), (0x20060c, 2#32), (0x200808, 0x31#32)] }, ⟨by decide +kernel, by decide +kernel, by decide +kernel⟩, by decide +kernel⟩,
    ⟨30, [0x30#8, 0#8, 0x1e#8, 0#8, 0x66#8, 0xd#8, 0#8, 0#8, 0#8, 0#8, 0#8, 0#8, 0#8, 0#8, 0#8, 0#8, 0#8, 0#8, 0#8, 0#8, 2#8, 0#8, 0#8, 0#8, 0#8, 0#8, 0#8, 0#8, 0x24#8, 0x2f#8, 0x5b#8, 0#8], { State.reset with hq := { State.reset.hq with linkUp := true }, regs := [(0x200788, 0x1c031#32), (0x20078c, 1#32), (0x200f08, 0x31#32)] }, ⟨by decide +kernel, by decide +kernel, by decide +kernel⟩, by decide +kernel⟩⟩

/-- States and operands that meet the hypotheses of each clause of `Obligations.PipelineStopAndRun`. -/
theorem test_witness_PipelineStopAndRun :
    (∃ s : State, s.bit F.CFG_CTL_RUN = true ∧ s.armedBank = none) ∧
    (∃ (s : State) (b : Bool), s.bit F.CFG_CTL_RUN = true ∧ s.armedBank = some b) ∧
    (∃ s : State, s.bit F.CFG_CTL_RUN = false) ∧
    (∃ s : State, s.bit F.CFG_CTL_RUN = true ∧ s.bit F.CFG_STAT_LOADING = false ∧ s.bit F.CFG_STAT_APPLYING = false) ∧
    (∃ s : State, (s.bit F.CFG_STAT_LOADING = true ∨ s.bit F.CFG_STAT_APPLYING = true ∨ (s.bit F.CFG_CTL_RUN = false ∧ s.bit F.CFG_STAT_PIPE_STOPPED = false))) ∧
    (∃ s : State, s.bit F.CFG_CTL_RUN = false ∧ s.bit F.CFG_STAT_LOADING = false ∧ s.bit F.CFG_STAT_APPLYING = false ∧ s.bit F.CFG_STAT_PIPE_STOPPED = true ∧ s.bit F.PWR_STAT_BUSY = true) ∧
    (∃ s : State, s.bit F.CFG_CTL_RUN = false ∧ s.bit F.CFG_STAT_LOADING = false ∧ s.bit F.CFG_STAT_APPLYING = false ∧ s.bit F.CFG_STAT_PIPE_STOPPED = true ∧ s.bit F.PWR_STAT_BUSY = false ∧ s.bankState false ∉ [2, 4] ∧ s.bankState true ∉ [2, 4]) ∧
    (∃ (s : State) (b : Bool), s.bit F.CFG_CTL_RUN = false ∧ s.bit F.CFG_STAT_LOADING = false ∧ s.bit F.CFG_STAT_APPLYING = false ∧ s.bit F.CFG_STAT_PIPE_STOPPED = true ∧ s.bit F.PWR_STAT_BUSY = false ∧ s.runningBank = some b) ∧
    (∃ s : State, s.drained = false) ∧
    (∃ s : State, s.drained = true ∧ s.seg.spill = [] ∧ s.seg.objs = [] ∧ (∀ k : Fin 11, (s.seamS k).pend = false)) :=
  ⟨⟨{ State.reset with regs := [(0x100000, 1#32)] }, by decide +kernel⟩,
    ⟨{ State.reset with regs := [(0x100000, 1#32), (0x100020, 0x30#32)] }, true, by decide +kernel⟩,
    ⟨State.reset, by decide +kernel⟩,
    ⟨{ State.reset with regs := [(0x100000, 1#32)] }, by decide +kernel⟩,
    ⟨{ State.reset with regs := [(0x100004, 0#32)] }, by decide +kernel⟩,
    ⟨{ State.reset with regs := [(0x2d00004, 4#32)] }, by decide +kernel⟩,
    ⟨State.reset, by decide +kernel⟩,
    ⟨{ State.reset with regs := [(0x100020, 0x40#32)] }, true, by decide +kernel⟩,
    ⟨State.reset, by decide +kernel⟩,
    ⟨{ State.reset with regs := [(0x100004, 0#32)] }, by decide +kernel⟩⟩

/-- States and operands that meet the hypotheses of each clause of `Obligations.SwapIsArmedDisarmedAndTaken`. -/
theorem test_witness_SwapIsArmedDisarmedAndTaken :
    (∃ (c : Fin 4) (b : Bool) (s : State), s.swapCrossing = false ∧ s.armedBank = none ∧ s.bankState b = 2 ∧ s.bankState (!b) ≠ 2 ∧ s.bit (F.ENC_CTL_EN c) = true ∧ (let dist := (s.rdN R.CFG_SWAP_POS + 2 ^ 32 - s.pos c) % 2 ^ 32; s.fld F.CFG_SWAP_MARGIN_MARGIN ≤ dist ∧ dist < 2 ^ 31)) ∧
    (∃ (c : Fin 4) (s : State), s.swapCrossing = false ∧ s.armedBank = none ∧ (let one := (s.bankState false == 2) != (s.bankState true == 2); let dist := (s.rdN R.CFG_SWAP_POS + 2 ^ 32 - s.pos c) % 2 ^ 32; let st := if !one then 0x39 else if !s.bit (F.ENC_CTL_EN c) then 0x3A else 0x38; (one = false ∨ s.bit (F.ENC_CTL_EN c) = false ∨ dist < s.fld F.CFG_SWAP_MARGIN_MARGIN ∨ 2 ^ 31 ≤ dist))) ∧
    (∃ (c : Fin 4) (b : Bool) (s : State), s.swapCrossing = false ∧ s.armedBank = some b ∧ s.fld F.CFG_SWAP_CTL_CHAN = c) ∧
    (∃ (s : State), s.swapCrossing = false ∧ s.armedBank = none) ∧
    (∃ (s : State), s.swapCrossing = true) ∧
    (∃ (b : Bool) (s : State), s.armedBank = some b) ∧
    (∃ (s : State), s.armedBank = none ∧ (s.bit F.CFG_STAT_PIPE_STOPPED = false ∨ s.bit F.CFG_STAT_LOADING = true ∨ s.bit F.CFG_STAT_APPLYING = true)) ∧
    (∃ (s : State), s.swapCrossing = false ∧ s.armedBank = none ∧ s.bit F.CFG_STAT_PIPE_STOPPED = true ∧ s.bit F.CFG_STAT_LOADING = false ∧ s.bit F.CFG_STAT_APPLYING = false ∧ s.bankState false ≠ 2 ∧ s.bankState true ≠ 2) ∧
    (∃ (b : Bool) (s : State), s.swapCrossing = false ∧ s.armedBank = none ∧ s.bit F.CFG_STAT_PIPE_STOPPED = true ∧ s.bit F.CFG_STAT_LOADING = false ∧ s.bit F.CFG_STAT_APPLYING = false ∧ s.bankState b = 2 ∧ (s.bankState (!b) = 2 ∧ s.bit F.CFG_BANK_LAST_LOAD = b ∨ s.bankState (!b) ≠ 2)) ∧
    (∃ (b : Bool) (s : State), s.swapCrossing = false ∧ s.armedBank = none ∧ s.bit F.CFG_STAT_PIPE_STOPPED = true ∧ s.bit F.CFG_STAT_LOADING = false ∧ s.bit F.CFG_STAT_APPLYING = false ∧ s.bankState b = 2 ∧ s.bankState (!b) ≠ 2 ∧ s.runningBank = none ∧ s.bit (F.SEG_ROUTE_Q_EN 3) = true ∧ s.recCredit 3 = true) :=
  ⟨⟨1, false, { State.reset with regs := [(0x100020, 2#32), (0x2400100, 0xc043001#32), (0x2400104, 0x80000002#32)] }, by decide +kernel⟩,
    ⟨0, State.reset, by decide +kernel⟩,
    ⟨0, false, { State.reset with regs := [(0x100020, 3#32)] }, by decide +kernel⟩,
    ⟨State.reset, by decide +kernel⟩,
    ⟨{ State.reset with cfg := { State.reset.cfg with crossAt := 1 } }, by decide +kernel⟩,
    ⟨true, { State.reset with regs := [(0x100020, 0x30#32)] }, by decide +kernel⟩,
    ⟨{ State.reset with regs := [(0x100004, 6#32)] }, by decide +kernel⟩,
    ⟨State.reset, by decide +kernel⟩,
    ⟨false, { State.reset with regs := [(0x100020, 2#32)] }, by decide +kernel⟩,
    ⟨false, { State.reset with regs := [(0x100020, 2#32), (0x200808, 0x31#32)] }, by decide +kernel⟩⟩

/-- States and operands that meet the hypotheses of each clause of `Obligations.LoadsAreCountedRejectedAndApplied`. -/
theorem test_witness_LoadsAreCountedRejectedAndApplied :
    (∃ (q : Fin 32) (pkt : List Byte), Plain q 0x20 pkt ∧ ∃ (s : State), Offered s q 16 ∧ (let h := pktHdr pkt; h.target = 0 ∧ h.param1 = 1 ∧ h.len ≤ 65532 ∧ h.param0 + h.len ≤ 2 ^ 26 ∧ s.bit F.PWR_STAT_BUSY = false ∧ s.cfg.load.active = false ∧ s.cfg.load.last = none ∧ s.bit F.CFG_STAGE_BASE_HI_EN = true ∧ s.bit F.DMC_INSTALLED_VALID = true ∧ s.poisoned (s.stageBase + h.param0) h.len = false)) ∧
    (∃ (q : Fin 32) (pkt : List Byte), Plain q 0x20 pkt ∧ ∃ (s : State), Offered s q 16 ∧ (let h := pktHdr pkt; h.target = 0 ∧ h.param1 < 2 ∧ h.len ≤ 65532 ∧ s.bit F.PWR_STAT_BUSY = false ∧ s.cfg.load.active = decide (h.param1 = 1) ∧ s.cfg.load.last = none)) ∧
    (∃ (q : Fin 32) (pkt : List Byte), Plain q 0x20 pkt ∧ ∃ (s : State), Offered s q 16 ∧ (let h := pktHdr pkt; h.target = 0 ∧ h.param1 < 4 ∧ h.len ≤ 65532 ∧ s.bit F.PWR_STAT_BUSY = true)) ∧
    (∃ s : State, s.cfg.load.active = true ∧ s.cfg.load.last = none ∧ s.loadingBank = none) ∧
    (∃ s : State, s.cfg.load.active = false) ∧
    (∃ s : State, s.cfg.load.last.isSome = true ∧ s.bit F.CFG_STAT_APPLYING = false ∧ ∃ e, s.streamCheck = some e) ∧
    (∃ s : State, (s.cfg.load.last = none ∨ s.bit F.CFG_STAT_APPLYING = true)) ∧
    (∃ s : State, s.bit F.CFG_STAT_APPLYING = false) ∧
    (∃ s : State, s.cfg.warmPend = none ∧ s.bit F.CFG_STAT_APPLYING = true ∧ ∃ d j, s.cfg.applying = some (d, j)) :=
  ⟨⟨16, (packetBytes 0x20 16 0 0 0 0 1 []), plain_of (by decide +kernel), { State.reset with hq := { State.reset.hq with linkUp := true }, regs := [(0x100010, 0x80000000#32), (0x200408, 0x3031#32), (0x200410, 8#32), (0x2008c8, 0x31#32), (0x2800004, 0x80000000#32)] }, ⟨by decide +kernel, by decide +kernel, by decide +kernel⟩, by decide +kernel⟩,
    ⟨10, (packetBytes 0x20 10 0 0 0 0 1 []), plain_of (by decide +kernel), { State.reset with hq := { State.reset.hq with linkUp := true }, cfg := { State.reset.cfg with load := { State.reset.cfg.load with active := true } }, regs := [(0x200288, 0x31#32), (0x20028c, 8#32), (0x200808, 0x31#32)] }, ⟨by decide +kernel, by decide +kernel, by decide +kernel⟩, by decide +kernel⟩,
    ⟨31, (packetBytes 0x20 31 0 0 0 0 1 []), plain_of (by decide +kernel), { State.reset with hq := { State.reset.hq with linkUp := true }, regs := [(0x2007c8, 0x15031#32), (0x2007d0, 0x20#32), (0x200d48, 0x31#32), (0x2d00004, 4#32)] }, ⟨by decide +kernel, by decide +kernel, by decide +kernel⟩, by decide +kernel⟩,
    ⟨{ State.reset with cfg := { State.reset.cfg with load := { State.reset.cfg.load with active := true } } }, by decide +kernel⟩,
    ⟨State.reset, by decide +kernel⟩,
    ⟨{ State.reset with cfg := { State.reset.cfg with load := { State.reset.cfg.load with last := (some (0, (0, 0))) } } }, by decide +kernel, by decide +kernel, _, rfl⟩,
    ⟨State.reset, by decide +kernel⟩,
    ⟨State.reset, by decide +kernel⟩,
    ⟨{ State.reset with cfg := { State.reset.cfg with applying := (some ({ chains := [], assigns := [], links := [], evts := [], cams := [], encs := [], abss := [], sws := [], pps := [], prints := [], nps := [], eths := [], sdgs := [], tws := [], dvfs := [], classes := [], mems := [], fallback := [], crc := 0 }, none)) }, regs := [(0x100004, 0xa#32)] }, by decide +kernel, by decide +kernel, _, _, rfl⟩⟩

/-- States and operands that meet the hypotheses of each clause of `Obligations.EncoderStepMovesPosition`. -/
theorem test_witness_EncoderStepMovesPosition :
    (∃ (n : Fin 4) (lineB : Bool) (s : State), s.bit (F.ENC_CTL_EN n) = true ∧ s.unitsOf n = [] ∧ s.fld F.CFG_SWAP_CTL_CHAN ≠ n ∧ s.flt.resync.phase ≠ 3 ∧ (∀ p : Fin 8, s.bit (F.HP_CTL_MODE p) = false) ∧ (s.encSt n).sa = (s.encSt n).a ∧ (s.encSt n).sb = (s.encSt n).b ∧ (if lineB then (s.encSt n).deadB else (s.encSt n).deadA) = false ∧ (let fwd := (if lineB then (s.encSt n).a != (s.encSt n).b else (s.encSt n).a == (s.encSt n).b) != s.bit (F.ENC_CTL_DIR_INV n); let new := (s.pos n + if fwd then 1 else 2 ^ 32 - 1) % 2 ^ 32; bitN new 31 = bitN (s.pos n) 31)) ∧
    (∃ (n : Fin 4) (lineB : Bool) (s : State), s.bit (F.ENC_CTL_EN n) = true ∧ s.unitsOf n = [] ∧ s.fld F.CFG_SWAP_CTL_CHAN ≠ n ∧ s.flt.resync.phase ≠ 3 ∧ (∀ p : Fin 8, s.bit (F.HP_CTL_MODE p) = false) ∧ (if lineB then (s.encSt n).deadB = true ∧ (s.encSt n).sb ≠ (s.encSt n).b else (s.encSt n).deadA = true ∧ (s.encSt n).sa ≠ (s.encSt n).a) ∧ (let fwd := (if lineB then (s.encSt n).a != (s.encSt n).b else (s.encSt n).a == (s.encSt n).b) != s.bit (F.ENC_CTL_DIR_INV n); let new := (s.pos n + if fwd then 1 else 2 ^ 32 - 1) % 2 ^ 32; bitN new 31 = bitN (s.pos n) 31)) ∧
    (∃ (n : Fin 4) (lineB : Bool) (s : State), (if lineB then (s.encSt n).deadB else (s.encSt n).deadA) = true) ∧
    (∃ (n : Fin 4) (s : State), s.bit (F.ENC_CTL_EN n) = false) ∧
    (∃ (n : Fin 4) (line : Fin 3) (s : State), [(s.encSt n).deadA, (s.encSt n).deadB, (s.encSt n).deadZ][line] = false) ∧
    (∃ (n : Fin 4) (s : State), (s.encSt n).deadB = true ∧ (s.encSt n).sb = (s.encSt n).b) ∧
    (∃ (n : Fin 4) (s : State), (s.encSt n).deadZ = true ∧ (s.encSt n).sz = (s.encSt n).z) ∧
    (∃ (n : Fin 4) (s : State), (s.encSt n).deadZ = true ∧ (s.encSt n).sz = false ∧ (s.encSt n).z = true) ∧
    (∃ (n : Fin 4) (s : State), (s.encSt n).deadZ = true ∧ (s.encSt n).sz = true ∧ (s.encSt n).z = false ∧ s.bit (F.ENC_CTL_EN n) = true ∧ s.bit (F.ENC_CTL_IDX_EN n) = true ∧ s.bit (F.ENC_STAT_DIR n) = true) :=
  ⟨⟨2, false, { State.reset with regs := [(0x2400200, 0xc043001#32)] }, by decide +kernel⟩,
    ⟨1, false, { State.reset with enc := (State.reset.enc).set 1 ({ State.reset.enc[1] with sa := true, deadA := true }), regs := [(0x2400100, 0xc043001#32)] }, by decide +kernel⟩,
    ⟨0, true, { State.reset with enc := (State.reset.enc).set 0 ({ State.reset.enc[0] with deadB := true }) }, by decide +kernel⟩,
    ⟨0, State.reset, by decide +kernel⟩,
    ⟨1, 0, State.reset, by decide +kernel⟩,
    ⟨0, { State.reset with enc := (State.reset.enc).set 0 ({ State.reset.enc[0] with deadB := true }) }, by decide +kernel⟩,
    ⟨0, { State.reset with enc := (State.reset.enc).set 0 ({ State.reset.enc[0] with deadZ := true }) }, by decide +kernel⟩,
    ⟨2, { State.reset with enc := (State.reset.enc).set 2 ({ State.reset.enc[2] with z := true, deadZ := true }) }, by decide +kernel⟩,
    ⟨1, { State.reset with enc := (State.reset.enc).set 1 ({ State.reset.enc[1] with sz := true, deadZ := true }), regs := [(0x2400100, 0xc043009#32), (0x2400108, 0x10#32)] }, by decide +kernel⟩⟩

/-- States and operands that meet the hypotheses of each clause of `Obligations.QuadratureErrorCounts`. -/
theorem test_witness_QuadratureErrorCounts :
    (∃ (n : Fin 4) (s : State), s.bit (F.ENC_CTL_EN n) = true) ∧
    (∃ (n : Fin 4) (s : State), s.bit (F.ENC_CTL_EN n) = false) :=
  ⟨⟨0, { State.reset with regs := [(0x2400000, 0xc043001#32)] }, by decide +kernel⟩,
    ⟨0, State.reset, by decide +kernel⟩⟩

/-- States and operands that meet the hypotheses of each clause of `Obligations.StandstillAndIndexReference`. -/
theorem test_witness_StandstillAndIndexReference :
    (∃ (n : Fin 4) (s : State), s.bit (F.ENC_CTL_EN n) = true ∧ s.fld (F.ENC_CTL_STILL_TO n) ≠ 0 ∧ s.bit (F.ENC_STAT_STILL n) = false) ∧
    (∃ (n : Fin 4) (s : State), (s.bit (F.ENC_CTL_EN n) = false ∨ s.fld (F.ENC_CTL_STILL_TO n) = 0 ∨ s.bit (F.ENC_STAT_STILL n) = true)) ∧
    (∃ (n : Fin 4) (s : State), s.bit (F.ENC_CTL_EN n) = true ∧ s.bit (F.ENC_CTL_IDX_EN n) = true ∧ s.bit (F.ENC_STAT_DIR n) = true ∧ (s.encSt n).deadZ = false ∧ (s.encSt n).z = false) ∧
    (∃ (n : Fin 4) (s : State), s.bit (F.ENC_CTL_EN n) = true ∧ s.bit (F.ENC_CTL_IDX_EN n) = true ∧ (s.encSt n).deadZ = false ∧ (s.encSt n).z = false ∧ (let s1 := (s.zRisen n).raise [44 + n.val]; s1.bit (F.ENC_STAT_DIR n) = false ∧ s1.bit (F.ENC_STAT_IDX_REF n) = false)) ∧
    (∃ (n : Fin 4) (level : Bool) (s : State), ((s.encSt n).deadZ = true ∨ (s.encSt n).z = level)) ∧
    (∃ (n : Fin 4) (s : State), (s.encSt n).deadZ = false ∧ (s.encSt n).z = true) ∧
    (∃ (n : Fin 4) (s : State), s.bit (F.ENC_CTL_EN n) = true ∧ s.bit (F.ENC_CTL_IDX_EN n) = true ∧ (s.encSt n).deadZ = false ∧ (s.encSt n).z = false ∧ (let s1 := (s.zRisen n).raise [44 + n.val]; s1.bit (F.ENC_STAT_DIR n) = false ∧ s1.bit (F.ENC_STAT_IDX_REF n) = true ∧ s1.bit (F.ENC_CTL_IDX_SNAP n) = false ∧ (let d := cntDiff (s1.encSt n).idxL (s.pos n); let k := roundHalfAway d (s1.rdN (R.ENC_IDX_PERIOD n)); let e := d - k * s1.rdN (R.ENC_IDX_PERIOD n); k ≠ 0))) ∧
    (∃ (n : Fin 4) (s : State), (s.bit (F.ENC_CTL_EN n) = false ∨ s.bit (F.ENC_CTL_IDX_EN n) = false) ∧ (s.encSt n).deadZ = false ∧ (s.encSt n).z = false) ∧
    (∃ (n : Fin 4) (s : State), s.bit (F.ENC_CTL_EN n) = true ∧ s.bit (F.ENC_CTL_IDX_EN n) = true ∧ (s.encSt n).deadZ = false ∧ (s.encSt n).z = false ∧ (let s1 := (s.zRisen n).raise [44 + n.val]; s1.bit (F.ENC_STAT_DIR n) = false ∧ s1.bit (F.ENC_STAT_IDX_REF n) = true ∧ s1.bit (F.ENC_CTL_IDX_SNAP n) = true ∧ (let d := cntDiff (s1.encSt n).idxL (s.pos n); let k := roundHalfAway d (s1.rdN (R.ENC_IDX_PERIOD n)); let e := d - k * s1.rdN (R.ENC_IDX_PERIOD n); k ≠ 0 ∧ s1.fld (F.ENC_IDX_CFG_IDX_TOL n) < e.natAbs))) :=
  ⟨⟨2, { State.reset with regs := [(0x2400200, 0xc043001#32)] }, by decide +kernel⟩,
    ⟨0, State.reset, by decide +kernel⟩,
    ⟨3, { State.reset with regs := [(0x2400300, 0xc043009#32), (0x2400308, 0x10#32)] }, by decide +kernel⟩,
    ⟨2, { State.reset with regs := [(0x2400200, 0xc043009#32)] }, by decide +kernel⟩,
    ⟨0, false, State.reset, by decide +kernel⟩,
    ⟨2, { State.reset with enc := (State.reset.enc).set 2 ({ State.reset.enc[2] with z := true }) }, by decide +kernel⟩,
    ⟨3, { State.reset with regs := [(0x2400300, 0xc043009#32), (0x2400304, 0x20000#32), (0x2400308, 0x20#32), (0x2400318, 1#32)] }, by decide +kernel⟩,
    ⟨0, State.reset, by decide +kernel⟩,
    ⟨1, { State.reset with enc := (State.reset.enc).set 1 ({ State.reset.enc[1] with idxL := 1 }), regs := [(0x2400100, 0xc043019#32), (0x2400104, 0x2000000#32), (0x2400108, 0x20#32), (0x2400118, 0x10#32)] }, by decide +kernel⟩⟩

/-- States and operands that meet the hypotheses of each clause of `Obligations.ComparePointsAdvanceBySpacings`. -/
theorem test_witness_ComparePointsAdvanceBySpacings :
    (∃ (us : List (Fin 32)) (defer : Bool) (s : State), us.Nodup ∧ (∀ w ∈ us, s.bit (F.CU_CTL_EN w) = true ∧ s.portsOf w = [] ∧ if defer then (s.cuSt w).deferred = true ∧ s.bit (F.CU_CTL_MODE w) = false else (s.cuSt w).delayed = true)) ∧
    (∃ (us : List (Fin 32)) (s : State), (∀ w ∈ us, (s.cuSt w).delayed = false)) ∧
    (∃ (us : List (Fin 32)) (s : State), (∀ w ∈ us, (s.cuSt w).deferred = false)) ∧
    (∃ (w : Fin 32) (s : State), s.bit (F.CU_CTL_JOB w) = false) ∧
    (∃ (w : Fin 32) (val : Word) (s : State), s.bit (F.CU_CTL_JOB w) = false ∧ (let hi := (s.cuSt w).hiHold.getD (s.fld (F.CU_SPACING_HI_S_HI w)); 65536 ≤ hi * 2 ^ 32 + val.toNat)) ∧
    (∃ (w : Fin 32) (val : Word) (s : State), (s.bit (F.CU_CTL_JOB w) = true ∨ (s.cuSt w).hiHold.getD (s.fld (F.CU_SPACING_HI_S_HI w)) * 2 ^ 32 + val.toNat < 65536)) ∧
    (∃ (w : Fin 32) (s : State), s.bit (F.CU_CTL_JOB w) = true) :=
  ⟨⟨[], false, State.reset, by decide +kernel⟩,
    ⟨[], State.reset, by decide +kernel⟩,
    ⟨[], State.reset, by decide +kernel⟩,
    ⟨0, State.reset, by decide +kernel⟩,
    ⟨1, 0#32, { State.reset with cu := (State.reset.cu).set 1 ({ State.reset.cu[1] with hiHold := (some 1) }) }, by decide +kernel⟩,
    ⟨0, 0#32, State.reset, by decide +kernel⟩,
    ⟨28, { State.reset with regs := [(0x2401700, 0x40#32)] }, by decide +kernel⟩⟩

/-- States and operands that meet the hypotheses of each clause of `Obligations.AbsoluteInputCycles`. -/
theorem test_witness_AbsoluteInputCycles :
    (∃ (n : Fin 2) (s : State), s.fld (F.ABS_CTL_TIMER n) ≠ 0 ∧ s.fld (F.ABS_CTL_PROTO n) ≠ 0 ∧ (s.absIn[n]).busy = false) ∧
    (∃ (n : Fin 2) (s : State), s.fld (F.ABS_CTL_TIMER n) ≠ 0 ∧ s.fld (F.ABS_CTL_PROTO n) ≠ 0 ∧ (s.absIn[n]).busy = true) ∧
    (∃ (n : Fin 2) (s : State), (s.absIn[n]).busy = true ∧ s.fld (F.ABS_CTL_PROTO n) ≠ 3) ∧
    (∃ (n : Fin 2) (raw : Word) (e w : Bool) (crc : BitVec 6) (s : State), (s.absIn[n]).busy = true ∧ s.fld (F.ABS_CTL_PROTO n) = 3 ∧ crc.toNat ≠ bissCrc (s.fld (F.ABS_CTL_BITS n)) (raw.toNat % 2 ^ s.fld (F.ABS_CTL_BITS n)) e w) ∧
    (∃ (n : Fin 2) (s : State), (s.absIn[n]).busy = true) ∧
    (∃ (n : Fin 2) (s : State), (s.absIn[n]).busy = false) :=
  ⟨⟨0, { State.reset with regs := [(0x2402000, 0x100002#32)] }, by decide +kernel⟩,
    ⟨0, { State.reset with absIn := (State.reset.absIn).set 0 ({ State.reset.absIn[0] with busy := true }), regs := [(0x2402000, 0x100001#32)] }, by decide +kernel⟩,
    ⟨0, { State.reset with absIn := (State.reset.absIn).set 0 ({ State.reset.absIn[0] with busy := true }) }, by decide +kernel⟩,
    ⟨1, 0#32, false, false, 0#6, { State.reset with absIn := (State.reset.absIn).set 1 ({ State.reset.absIn[1] with busy := true }), regs := [(0x2402040, 3#32)] }, by decide +kernel⟩,
    ⟨0, { State.reset with absIn := (State.reset.absIn).set 0 ({ State.reset.absIn[0] with busy := true }) }, by decide +kernel⟩,
    ⟨1, State.reset, by decide +kernel⟩⟩

/-- States and operands that meet the hypotheses of each clause of `Obligations.SwitchLevelsAndTheirEvents`. -/
theorem test_witness_SwitchLevelsAndTheirEvents :
    (∃ (n : Fin 8) (lv : Bool) (pos : Nat) (s : State), s.sw[n] = { run := some (lv, pos) }) ∧
    (∃ (n : Fin 8) (s : State), (s.sw[n]).run = none) ∧
    (∃ (n : Fin 8) (pin : Bool) (s : State), (pin != bitN (s.fld F.SW_CTL_INV) n) = bitN (s.fld F.SW_STAT_LEVEL) n) ∧
    (∃ (n : Fin 8) (pin : Bool) (s : State), let lv := pin != bitN (s.fld F.SW_CTL_INV) n; lv ≠ bitN (s.fld F.SW_STAT_LEVEL) n ∧ (s.sw[n]).run = none ∧ s.fld F.SW_CTL_DEB ≠ 0) ∧
    (∃ (n : Fin 8) (pin : Bool) (s : State), let lv := pin != bitN (s.fld F.SW_CTL_INV) n; lv ≠ bitN (s.fld F.SW_STAT_LEVEL) n ∧ (s.sw[n]).run = none ∧ s.fld F.SW_CTL_DEB = 0) ∧
    (∃ (n : Fin 8) (j : Fin 3) (lv : Bool) (pos : Nat) (s : State), s.sw[n] = { run := some (lv, pos) } ∧ s.bit (F.EVT_CFG_GATE_EN (53 + j)) = false ∧ (∀ c : Fin 64, s.evtHits [if lv then 48 + n.val else 56 + n.val] c = [] ↔ c.val ≠ 53 + j.val)) :=
  ⟨⟨0, true, 5, { State.reset with sw := (State.reset.sw).set 0 ({ State.reset.sw[0] with run := (some (true, 5)) }) }, by decide +kernel⟩,
    ⟨0, State.reset, by decide +kernel⟩,
    ⟨0, false, State.reset, by decide +kernel⟩,
    ⟨3, true, { State.reset with regs := [(0x2403000, 0x200#32)] }, by decide +kernel⟩,
    ⟨0, true, State.reset, by decide +kernel⟩,
    ⟨0, 0, true, 5, { State.reset with sw := (State.reset.sw).set 0 ({ State.reset.sw[0] with run := (some (true, 5)) }), regs := [(0x25006a4, 0x10000#32)] }, by decide +kernel⟩⟩

/-- States and operands that meet the hypotheses of each clause of `Obligations.PulsePinsEndAndConsumersFree`. -/
theorem test_witness_PulsePinsEndAndConsumersFree :
    (∃ (c : Fin 64) (s : State), s.evt.pin[c] = true) ∧
    (∃ (c : Fin 64) (s : State), s.evt.pin[c] = false) ∧
    (∃ (c : Fin 64) (s : State), s.evt.busy[c] = true ∧ s.evt.pin[c] = false) ∧
    (∃ (c : Fin 64) (s : State), (s.evt.busy[c] = false ∨ s.evt.pin[c] = true)) :=
  ⟨⟨0, { State.reset with evt := { State.reset.evt with pin := (State.reset.evt.pin).set 0 (true) } }, by decide +kernel⟩,
    ⟨1, State.reset, by decide +kernel⟩,
    ⟨62, { State.reset with evt := { State.reset.evt with busy := (State.reset.evt.busy).set 62 (true) } }, by decide +kernel⟩,
    ⟨0, State.reset, by decide +kernel⟩⟩

/-- States and operands that meet the hypotheses of each clause of `Obligations.LanesLockAndAreLost`. -/
theorem test_witness_LanesLockAndAreLost :
    (∃ (i : Fin 114) (s : State), s.lst i = lsHunt ∧ i.val < 96 ∧ (let rate := huntRates.getD ((laneGet s.lane.tries i).getD 0) 12; rate ≠ s.fld (F.CAM_LINK_RATE (i / 8)))) ∧
    (∃ (i : Fin 114) (s : State), s.lst i = lsHunt ∧ i.val < 96 ∧ huntRates.getD ((laneGet s.lane.tries i).getD 0) 12 = s.fld (F.CAM_LINK_RATE (i / 8)) ∧ i.val % 8 < s.fld (F.CAM_LINK_CFG_LINKS (i / 8)) ∧ (∀ n : Fin 12, n.val = i.val / 8 → s.lane.set[n] = 0 ∨ bitN s.lane.set[n] (i % 8) = true) ∧ s.bit ⟨R.TOP_READY_IO, i / 8, 1⟩ = true) ∧
    (∃ (i : Fin 114) (s : State), s.lst i = lsHunt ∧ 96 ≤ i.val ∧ i.val < 112 ∧ s.npLogical i = 3) ∧
    (∃ (i : Fin 114) (s : State), s.lst i = lsHunt ∧ 112 ≤ i.val ∧ s.bit (F.LANE_STAT_HI_BER i) = false) ∧
    (∃ (i : Fin 114) (s : State), s.lst i ≠ lsHunt) ∧
    (∃ (i : Fin 114) (s : State), i.val < 96 ∧ (s.lst i = lsLock ∨ s.lst i = lsServ)) ∧
    (∃ (i : Fin 114) (s : State), s.lst i ∉ [lsLock, lsServ, lsSpare]) ∧
    (∃ (i : Fin 114) (s : State), i.val < 96 ∧ s.lst i = lsHunt) :=
  ⟨⟨1, { State.reset with regs := [(0x400104, 1#32)] }, by decide +kernel⟩,
    ⟨74, { State.reset with regs := [(0x10, 0x200#32), (0x404a04, 1#32), (0x408120, 0xc08#32)] }, by decide +kernel⟩,
    ⟨111, { State.reset with regs := [(0x406f04, 1#32)] }, by decide +kernel⟩,
    ⟨112, { State.reset with regs := [(0x407004, 1#32)] }, by decide +kernel⟩,
    ⟨0, State.reset, by decide +kernel⟩,
    ⟨25, { State.reset with regs := [(0x401904, 2#32)] }, by decide +kernel⟩,
    ⟨0, State.reset, by decide +kernel⟩,
    ⟨0, { State.reset with regs := [(0x400004, 1#32)] }, by decide +kernel⟩⟩

/-- States and operands that meet the hypotheses of each clause of `Obligations.CameraPacketsAreCheckedAndKept`. -/
theorem test_witness_CameraPacketsAreCheckedAndKept :
    (∃ (n : Fin 12) (link : Fin 8) (late : Bool) (tag : BitVec 8) (s : State), s.lst (8 * n + link) = lsServ ∧ s.camUsed n = true ∧ (late = true ∨ 128 ≤ tagAhead tag.toNat (s.ing[n].nextTag.getD tag.toNat))) ∧
    (∃ (n : Fin 12) (link fmt : Fin 8) (tag stream : BitVec 8) (crcOk first : Bool) (s : State), s.lst (8 * n + link) = lsServ ∧ s.camUsed n = true ∧ tagAhead tag.toNat (s.ing[n].nextTag.getD tag.toNat) < 128 ∧ (let wrong := stream.toNat ≠ s.fld (F.ING_FMT_STREAM_ID n); (wrong ∨ crcOk = false ∨ (first = true ∧ fmt.val ≠ s.fld (F.ING_FMT_FMT n))))) ∧
    (∃ (n : Fin 12) (link fmt : Fin 8) (tag stream : BitVec 8) (first : Bool) (s : State), s.lst (8 * n + link) = lsServ ∧ s.camUsed n = true ∧ stream.toNat = s.fld (F.ING_FMT_STREAM_ID n) ∧ (first = false ∨ fmt.val = s.fld (F.ING_FMT_FMT n)) ∧ (let g := s.ing[n]; g.ahead = [] ∧ (g.nextTag = none ∨ g.nextTag = some tag.toNat) ∧ (first = false ∨ (g.rxLine = none ∧ g.rx = [])))) ∧
    (∃ (n : Fin 12) (link fmt : Fin 8) (tag stream : BitVec 8) (first : Bool) (s : State), s.lst (8 * n + link) = lsServ ∧ s.camUsed n = true ∧ stream.toNat = s.fld (F.ING_FMT_STREAM_ID n) ∧ (first = false ∨ fmt.val = s.fld (F.ING_FMT_FMT n)) ∧ (let g := s.ing[n]; g.ahead = [] ∧ (∀ x, g.nextTag = some x → 0 < tagAhead tag.toNat x ∧ tagAhead tag.toNat x < 128) ∧ g.nextTag.isSome = true)) ∧
    (∃ (n : Fin 12) (link : Fin 8) (s : State), (s.lst (8 * n + link) ≠ lsServ ∨ s.camUsed n = false)) ∧
    (∃ (n : Fin 12) (s : State), s.has .cam n = true) ∧
    (∃ (n : Fin 12) (s : State), s.has .cam n = false) ∧
    (∃ (n : Fin 12) (hb : Bool) (bs : List Byte) (s : State), s.masterUp n = true ∧ s.bit F.HQ_CXP_CFG_EN = true ∧ (let c := s.fld F.HQ_CXP_CFG_QID; let e : HostEntry := .pkt { opc := 0x8050, param0 := n + 256 * b2n hb, data := bs }; s.hasRoom c e.ringBytes = true)) ∧
    (∃ (n : Fin 12) (s : State), (s.masterUp n = false ∨ s.bit F.HQ_CXP_CFG_EN = false)) ∧
    (∃ (n : Fin 12) (s : State), s.bit ⟨R.TOP_READY_IO, n, 1⟩ = true ∧ s.lst (8 * n) ≠ lsServ) ∧
    (∃ (n : Fin 12) (s : State), (s.bit ⟨R.TOP_READY_IO, n, 1⟩ = false ∨ s.lst (8 * n) = lsServ)) :=
  ⟨⟨7, 1, false, 0#8, { State.reset with ing := (State.reset.ing).set 7 ({ State.reset.ing[7] with nextTag := (some 1) }), regs := [(0x403904, 3#32), (0x800700, 0x80005#32)] }, by decide +kernel⟩,
    ⟨1, 0, 0, 0#8, 0#8, false, false, { State.reset with regs := [(0x400804, 3#32), (0x800100, 0x80005#32)] }, by decide +kernel⟩,
    ⟨1, 0, 0, 3#8, 2#8, false, { State.reset with regs := [(0x400804, 3#32), (0x800100, 0x80005#32), (0x80010c, 0x200#32)] }, by decide +kernel⟩,
    ⟨3, 0, 0, 1#8, 1#8, false, { State.reset with ing := State.reset.ing.set 3 { State.reset.ing[3] with nextTag := some 0 }, regs := [(0x401804, 3#32), (0x800300, 0x80005#32), (0x80030c, 0x100#32)] }, by decide +kernel⟩,
    ⟨0, 0, State.reset, by decide +kernel⟩,
    ⟨0, State.reset, by decide +kernel⟩,
    ⟨9, { State.reset with board := { State.reset.board with variant := .w0648 } }, by decide +kernel⟩,
    ⟨0, false, [], { State.reset with regs := [(0x200d88, 0x31#32), (0x201014, 0x36#32), (0x400004, 2#32)] }, by decide +kernel⟩,
    ⟨0, State.reset, by decide +kernel⟩,
    ⟨9, { State.reset with regs := [(0x10, 0x200#32)] }, by decide +kernel⟩,
    ⟨0, State.reset, by decide +kernel⟩⟩

/-- States and operands that meet the hypotheses of each clause of `Obligations.LaneRetirementAndReduction`. -/
theorem test_witness_LaneRetirementAndReduction :
    (∃ (i : Fin 114) (s : State), i.val < 112 ∧ s.bit (F.LANE_CTL_RET_EN i) = true ∧ (s.lst i = lsServ ∨ s.lst i = lsSpare ∨ (i.val ∈ s.lane.lost ∧ s.lst i ≠ lsTest)) ∧ (s.fld F.PWR_STAT_STATE ≠ 2 ∨ 96 ≤ i.val)) ∧
    (∃ (i : Fin 114) (s : State), i.val < 112 ∧ s.bit (F.LANE_CTL_RET_EN i) = true ∧ (s.lst i = lsServ ∨ s.lst i = lsSpare ∨ (i.val ∈ s.lane.lost ∧ s.lst i ≠ lsTest)) ∧ (s.fld F.PWR_STAT_STATE ≠ 2 ∨ 96 ≤ i.val)) ∧
    (∃ (i : Fin 114) (s : State), (112 ≤ i.val ∨ s.bit (F.LANE_CTL_RET_EN i) = false ∨ (s.fld F.PWR_STAT_STATE = 2 ∧ i.val < 96) ∨ (s.lst i ≠ lsServ ∧ s.lst i ≠ lsSpare ∧ (i.val ∉ s.lane.lost ∨ s.lst i = lsTest)))) ∧
    (∃ (n : Fin 12) (s : State), s.lane.ctrl[n] = [] ∧ ∃ m rest, s.lane.red[n] = m :: rest) ∧
    (∃ (n : Fin 12) (s : State), s.lane.ctrl[n] = [] ∧ ∃ m rest, s.lane.red[n] = m :: rest) ∧
    (∃ (n : Fin 12) (s : State), s.lane.red[n] = []) :=
  ⟨⟨101, { State.reset with regs := [(0x406504, 4#32)] }, by decide +kernel⟩,
    ⟨101, { State.reset with regs := [(0x406504, 4#32)] }, by decide +kernel⟩,
    ⟨0, State.reset, by decide +kernel⟩,
    ⟨6, { State.reset with lane := { State.reset.lane with red := (State.reset.lane.red).set 6 ([3]) } }, by decide +kernel, 3, [], by decide +kernel⟩,
    ⟨6, { State.reset with lane := { State.reset.lane with red := (State.reset.lane.red).set 6 ([3]) } }, by decide +kernel, 3, [], by decide +kernel⟩,
    ⟨0, State.reset, by decide +kernel⟩⟩

/-- States and operands that meet the hypotheses of each clause of `Obligations.LaneControlsAndEyeScans`. -/
theorem test_witness_LaneControlsAndEyeScans :
    (∃ (i : Fin 114) (s : State), s.has .lane i = true) ∧
    (∃ (i : Fin 114) (val : Word) (s : State), s.has .lane i = true ∧ i.val < 96 ∧ val.toNat % 4 = 3) ∧
    (∃ (i : Fin 114) (val : Word) (s : State), s.has .lane i = true ∧ s.bit (F.LANE_CTL_EN (if i.val < 96 then 8 * (i / 8) else i)) = true ∧ s.lst i ∈ [lsLock, lsServ, lsTest] ∧ val.toNat % 4 ≠ s.fld (F.LANE_CTL_LOOP i) ∧ val.toNat % 4 ≠ 0) ∧
    (∃ (i : Fin 114) (val : Word) (s : State), s.has .lane i = true ∧ s.lst i ∈ [lsOff, lsHunt, lsSpare, lsRetired] ∧ val.toNat % 16 ≠ 0 ∧ val.toNat % 4 ≠ 3) ∧
    (∃ (i : Fin 114) (val : Word) (s : State), s.has .lane i = true ∧ (val.toNat % 64 = 32 ∨ val.toNat / 256 % 128 = 64)) ∧
    (∃ (i : Fin 114) (val : Word) (s : State), s.has .lane i = true ∧ val.toNat % 64 ≠ 32 ∧ val.toNat / 256 % 128 ≠ 64 ∧ bitN val.toNat 31 = true) ∧
    (∃ (i : Fin 114) (s : State), s.bit (F.LANE_STAT_EYE_BUSY i) = true) ∧
    (∃ (i : Fin 114) (s : State), s.has .lane i = false) :=
  ⟨⟨0, State.reset, by decide +kernel⟩,
    ⟨0, 3#32, State.reset, by decide +kernel⟩,
    ⟨3, 2#32, { State.reset with regs := [(0x400000, 0x14020#32), (0x400304, 2#32)] }, by decide +kernel⟩,
    ⟨0, 1#32, State.reset, by decide +kernel⟩,
    ⟨0, 0x20#32, State.reset, by decide +kernel⟩,
    ⟨0, 0x80000000#32, State.reset, by decide +kernel⟩,
    ⟨1, { State.reset with regs := [(0x400104, 0x100#32)] }, by decide +kernel⟩,
    ⟨82, { State.reset with board := { State.reset.board with variant := .w0648 } }, by decide +kernel⟩⟩

/-- States and operands that meet the hypotheses of each clause of `Obligations.NimebPortsIdentifyAndReplay`. -/
theorem test_witness_NimebPortsIdentifyAndReplay :
    (∃ (s : State), s.fld F.TOP_READY_NP = 0 ∧ (∀ p : Fin 4, s.bit (F.NP_CTL_EN p) = false)) ∧
    (∃ (p : Fin 4) (s : State), s.fld F.TOP_READY_NP = 0 ∧ s.bit (F.NP_CTL_EN p) = true ∧ s.npSt p = npHeld) ∧
    (∃ (s : State), s.fld F.TOP_READY_NP ≠ 0) ∧
    (∃ (p : Fin 4) (s : State), s.npSt p = npIdent ∧ (s.npS p).ident = false) ∧
    (∃ (p : Fin 4) (s : State), (s.npSt p ≠ npIdent ∨ (s.npS p).ident = true)) ∧
    (∃ (p : Fin 4) (id : BitVec 18) (s : State), s.npSt p = npIdent ∧ id.toNat ≠ s.devId ∧ (s.npS p).wait = []) ∧
    (∃ (p : Fin 4) (id : BitVec 18) (s : State), s.npSt p = npIdent ∧ id.toNat = s.devId) ∧
    (∃ (p : Fin 4) (s : State), s.npSt p ≠ npIdent) ∧
    (∃ (p : Fin 4) (s : State), s.npSt p ≠ npIdent ∧ (s.npS p).wait = []) ∧
    (∃ (p : Fin 4) (s : State), s.has .nport p = true ∧ s.npSt p ∉ [0, npHeld]) ∧
    (∃ (p : Fin 4) (s : State), s.has .nport p = true ∧ s.npSt p ∈ [0, npHeld]) ∧
    (∃ (p : Fin 4) (s : State), s.has .nport p = false) ∧
    (∃ (p : Fin 4) (s : State), s.npSt p = npStUp ∧ (s.npS p).wait = []) ∧
    (∃ (p : Fin 4) (s : State), s.npSt p = npStUp ∧ (s.npS p).owed.any (· != 0) = true) ∧
    (∃ (p : Fin 4) (s : State), (s.npSt p ≠ npStUp ∨ (s.npS p).owed.any (· != 0) = false)) ∧
    (∃ (p : Fin 4) (s : State), s.npSt p = npStUp ∧ (s.npS p).wait = []) ∧
    (∃ (p : Fin 4) (s : State), s.npSt p ≠ npStUp) ∧
    (∃ (p : Fin 4) (s : State), s.npSt p = npStUp) ∧
    (∃ (p : Fin 4) (j : Fin 3) (l : Fin 4) (m : Nat) (s : State), s.np[p].swapRx = some (j.val, l.val, m)) ∧
    (∃ (p : Fin 4) (j : Fin 3) (l : Fin 4) (m : Nat) (s : State), s.np[p].swapTx = some (j.val, l.val, m)) ∧
    (∃ (p : Fin 4) (tx : Bool) (s : State), (if tx then s.np[p].swapTx else s.np[p].swapRx) = none) ∧
    (∃ (p : Fin 4) (s : State), s.npSt p = npStUp) ∧
    (∃ (p : Fin 4) (seq : BitVec 12) (bs : List Byte) (s : State), s.npSt p = npStUp ∧ bs.length ≤ 256 ∧ seq.toNat ≠ (s.np[p].rxSeq + 1) % 4096) ∧
    (∃ (p : Fin 4) (dst : BitVec 18) (seq : BitVec 12) (bs : List Byte) (s : State), s.npSt p = npStUp ∧ bs.length ≤ 256 ∧ seq.toNat = (s.np[p].rxSeq + 1) % 4096 ∧ s.ownDst dst.toNat = false ∧ s.route dst.toNat = none) ∧
    (∃ (p : Fin 4) (s : State), s.npSt p ≠ npStUp) :=
  ⟨⟨State.reset, by decide +kernel⟩,
    ⟨1, { State.reset with regs := [(0x600100, 1#32), (0x600104, 4#32)] }, by decide +kernel⟩,
    ⟨{ State.reset with regs := [(0xc, 0x20000#32)] }, by decide +kernel⟩,
    ⟨2, { State.reset with regs := [(0x600204, 2#32)] }, by decide +kernel⟩,
    ⟨0, State.reset, by decide +kernel⟩,
    ⟨0, 0#18, { State.reset with regs := [(0x8, 1#32), (0x600004, 2#32)] }, by decide +kernel⟩,
    ⟨3, 1#18, { State.reset with regs := [(0x8, 1#32), (0x600304, 2#32)] }, by decide +kernel⟩,
    ⟨0, State.reset, by decide +kernel⟩,
    ⟨0, State.reset, by decide +kernel⟩,
    ⟨2, { State.reset with regs := [(0x600204, 1#32)] }, by decide +kernel⟩,
    ⟨0, State.reset, by decide +kernel⟩,
    ⟨2, { State.reset with board := { State.reset.board with variant := .w0648 } }, by decide +kernel⟩,
    ⟨0, { State.reset with regs := [(0x600004, 3#32)] }, by decide +kernel⟩,
    ⟨1, { State.reset with np := (State.reset.np).set 1 ({ State.reset.np[1] with owed := [1] }), regs := [(0x600104, 3#32)] }, by decide +kernel⟩,
    ⟨0, State.reset, by decide +kernel⟩,
    ⟨0, { State.reset with regs := [(0x600004, 3#32)] }, by decide +kernel⟩,
    ⟨0, State.reset, by decide +kernel⟩,
    ⟨0, { State.reset with regs := [(0x600004, 3#32)] }, by decide +kernel⟩,
    ⟨0, 2, 2, 3, { State.reset with np := (State.reset.np).set 0 ({ State.reset.np[0] with swapRx := (some (2, (2, 3))) }) }, by decide +kernel⟩,
    ⟨3, 0, 3, 2, { State.reset with np := (State.reset.np).set 3 ({ State.reset.np[3] with swapTx := (some (0, (3, 2))) }) }, by decide +kernel⟩,
    ⟨2, true, State.reset, by decide +kernel⟩,
    ⟨0, { State.reset with regs := [(0x600004, 3#32)] }, by decide +kernel⟩,
    ⟨0, 1#12, [], { State.reset with regs := [(0x600004, 3#32)] }, by decide +kernel⟩,
    ⟨0, 1#18, 0#12, [], { State.reset with regs := [(0x600004, 3#32)] }, by decide +kernel⟩,
    ⟨0, State.reset, by decide +kernel⟩⟩

/-- States and operands that meet the hypotheses of each clause of `Obligations.CameraLinesTakeTheirTags`. -/
theorem test_witness_CameraLinesTakeTheirTags :
    (∃ (n : Fin 12) (s : State), s.camUsed n = false) ∧
    (∃ (n : Fin 12) (s : State), s.camUsed n = true ∧ s.ing[n].tags = [] ∧ s.bit (F.ING_CTL_SEQ_CHK n) = false) ∧
    (∃ (n : Fin 12) (t : Tag) (rest : List Tag) (s0 : State), let s : State := { s0 with ing := s0.ing.set n { s0.ing[n] with tags := t :: rest } }; s.camUsed n = true ∧ s.bit (F.ING_CTL_SEQ_CHK n) = false) ∧
    (∃ (n : Fin 12) (t : Tag) (rest : List Tag) (x : Nat) (d : Fin 32768) (s0 : State), let s : State := { s0 with ing := s0.ing.set n { s0.ing[n] with tags := t :: rest, expect := some ((x + 1 + d.val) % 65536) } }; let g := s.ing[n].flush; let short := (gather (s.fld (F.ING_GEOM_PPL n)) g.rx).1.any Option.isNone; s.camUsed n = true ∧ s.bit (F.ING_CTL_SEQ_CHK n) = true ∧ g.rxLine = some x) ∧
    (∃ (n : Fin 12) (s : State), s.ing[n].tags = []) :=
  ⟨⟨0, State.reset, by decide +kernel⟩,
    ⟨8, { State.reset with regs := [(0x800800, 0x80001#32)] }, by decide +kernel⟩,
    ⟨8, { seq := 0, encPos := 0, frac := 0, ts := 0, bank := false, cu := none }, [], { State.reset with regs := [(0x800800, 0x80001#32)] }, by decide +kernel⟩,
    ⟨9, { seq := 0, encPos := 0, frac := 0, ts := 0, bank := false, cu := none }, [], 2, 0, { State.reset with ing := (State.reset.ing).set 9 ({ State.reset.ing[9] with rxLine := (some 2) }), regs := [(0x800900, 0x80005#32)] }, by decide +kernel⟩,
    ⟨0, State.reset, by decide +kernel⟩⟩

/-- States and operands that meet the hypotheses of each clause of `Obligations.CorrectionTablesFlip`. -/
theorem test_witness_CorrectionTablesFlip :
    (∃ (n : Fin 12) (s : State), s.has .cam n = true) ∧
    (∃ (n : Fin 12) (s : State), s.has .cam n = false) ∧
    (∃ (n : Fin 12) (s : State), s.has .cam n = true ∧ s.bit (F.ING_STAT_FLIP_PEND n) = true) ∧
    (∃ (n : Fin 12) (s : State), s.has .cam n = true ∧ s.bit (F.ING_STAT_FLIP_PEND n) = false) ∧
    (∃ (n : Fin 12) (s : State), s.bit (F.ING_STAT_FLIP_PEND n) = true ∧ s.ing[n].act.Pairwise (fun x y => x.1 < y.1) ∧ (∀ e ∈ s.ing[n].act, ingShadow n e.1 = true)) ∧
    (∃ (n : Fin 12) (s : State), s.bit (F.ING_STAT_FLIP_PEND n) = false) :=
  ⟨⟨0, State.reset, by decide +kernel⟩,
    ⟨10, { State.reset with board := { State.reset.board with variant := .w0648 } }, by decide +kernel⟩,
    ⟨0, { State.reset with regs := [(0x800004, 0x10000#32)] }, by decide +kernel⟩,
    ⟨2, State.reset, by decide +kernel⟩,
    ⟨4, { State.reset with regs := [(0x800404, 0x10000#32)] }, by decide +kernel⟩,
    ⟨2, State.reset, by decide +kernel⟩⟩

/-- States and operands that meet the hypotheses of each clause of `Obligations.StaggeredLinesReturn`. -/
theorem test_witness_StaggeredLinesReturn :
    (∃ (n : Fin 12) (s : State), s.sti.stag[n].lines.length ≤ s.fld (F.STI_CAM_GEOM_STAG n)) ∧
    (∃ (n : Fin 12) (q : Nat) (rest : List (Nat × Bool)) (s0 : State), let s : State := { s0 with sti := { s0.sti with stag := s0.sti.stag.set n { lines := (q, false) :: rest } } }; s.fld (F.STI_CAM_GEOM_STAG n) ≤ rest.length ∧ (let a := s.slotAddr n q; let h := s.memRead a 64; (s.poisoned a 64 = true ∨ crc32c (h.take 60) ≠ leVal (h.drop 60) ∨ leVal (h.take 4) ≠ q))) ∧
    (∃ (n : Fin 12) (q : Nat) (rest : List (Nat × Bool)) (s0 : State), let s : State := { s0 with sti := { s0.sti with stag := s0.sti.stag.set n { lines := (q, true) :: rest } } }; s.fld (F.STI_CAM_GEOM_STAG n) ≤ rest.length) ∧
    (∃ (n : Fin 12) (t : Tag) (fl : LFlags) (raw : List Byte) (rest : List (Nat × Bool)) (s0 : State), let s : State := { s0 with sti := { s0.sti with stag := s0.sti.stag.set n { lines := (t.seq, false) :: rest } } }; (s.fld (F.STI_CAM_GEOM_STAG n) ≤ rest.length ∧ t.seq < 2 ^ 32 ∧ t.encPos < 2 ^ 32 ∧ t.frac < 2 ^ 16 ∧ t.ts < 2 ^ 32 ∧ raw.length + 4 < 2 ^ 32) ∧ (let a := s.slotAddr n t.seq; (s.poisoned a 64 = false ∧ s.poisoned (a + 64) (raw.length + 4) = false ∧ s.memRead a 64 = slotHdr t fl 2 (raw.length + 4) ∧ s.memRead (a + 64) (raw.length + 4) = raw ++ leBytes 4 (crc32c raw)) ∧ ∃ e, s.expTag n s.sti.nextK[n] = some e ∧ e.encPos = t.encPos ∧ e.ts = t.ts ∧ s.sti.nextK[n] ≤ s.sti.refNext)) :=
  ⟨⟨0, State.reset, by decide +kernel⟩,
    ⟨0, 0, [], State.reset, by decide +kernel⟩,
    ⟨0, 0, [], State.reset, by decide +kernel⟩,
    ⟨0, {}, {}, [], [], { State.reset with sti := { State.reset.sti with refTags := [(0, {})], refNext := 1 }, regs := [(0x2800004, 0x80000000#32)], ddr := [(11, 2#8), (16, 4#8), (60, 201#8), (61, 233#8), (62, 66#8), (63, 84#8)] }, by decide +kernel, by decide +kernel, _, rfl, by decide +kernel⟩⟩

/-- States and operands that meet the hypotheses of each clause of `Obligations.StitchedLinesForm`. -/
theorem test_witness_StitchedLinesForm :
    (∃ (s : State), s.mayForm = false) ∧
    (∃ (s : State), s.mayForm = true ∧ s.sti.formed % 256 ≠ 0) ∧
    (∃ (s : State), s.mayForm = true ∧ s.sti.formed % 256 = 0 ∧ s.reseedDue = none ∧ s.flt.resync.phase ≠ 6) ∧
    (∃ (s : State), s.sti.regDue = false) ∧
    (∃ (s : State), s.sti.regDue = true) ∧
    (∃ (k : Fin 11) (s : State), s.has .seam k = true) ∧
    (∃ (s : State), s.bit F.STI_UMAP_CTL_FLIP_PEND = false) ∧
    (∃ (s : State), s.bit F.STI_UMAP_CTL_FLIP_PEND = true) :=
  ⟨⟨State.reset, by decide +kernel⟩,
    ⟨{ State.reset with sti := { State.reset.sti with nextK := (State.reset.sti.nextK).set 0 (15), formed := 1 }, regs := [(0xa00000, 0x221#32)] }, by decide +kernel⟩,
    ⟨{ State.reset with sti := { State.reset.sti with nextK := (State.reset.sti.nextK).set 4 (519) }, regs := [(0xa00000, 0x229#32)] }, by decide +kernel⟩,
    ⟨State.reset, by decide +kernel⟩,
    ⟨{ State.reset with sti := { State.reset.sti with regDue := true } }, by decide +kernel⟩,
    ⟨0, State.reset, by decide +kernel⟩,
    ⟨State.reset, by decide +kernel⟩,
    ⟨{ State.reset with regs := [(0xa00020, 0x40000#32)] }, by decide +kernel⟩⟩

/-- States and operands that meet the hypotheses of each clause of `Obligations.UnitsTakeTheirLines`. -/
theorem test_witness_UnitsTakeTheirLines :
    (∃ (vu : Fin 512) (s : State), s.vuPlace vu = none) ∧
    (∃ (vu : Fin 512) (s : State), ∃ x, s.vuS vu = some x ∧ (s.unitRuns vu = false ∨ (s.region (vu / 64)).loading.isSome = true ∨ x.next / 256 ≠ (s.region (vu / 64)).block ∨ (s.ringLost (vu / 64) x.next = false ∧ (s.newest < x.next ∨ s.hasCredit vu x.next = false)))) ∧
    (∃ (vu : Fin 512) (s : State), ∃ u, s.vuPlace vu = some u ∧ ∃ x, s.vuS vu = some x ∧ s.unitRuns vu = true ∧ (s.region (vu / 64)).loading = none ∧ x.next / 256 = (s.region (vu / 64)).block ∧ s.ringLost (vu / 64) x.next = false ∧ s.lineReady u x.next = true ∧ s.hasCredit vu x.next = true) ∧
    (∃ (vu : Fin 512) (s : State), ∃ u, s.vuPlace vu = some u ∧ ∃ x, s.vuS vu = some x ∧ s.unitRuns vu = true ∧ (s.region (vu / 64)).loading = none ∧ x.next / 256 = (s.region (vu / 64)).block ∧ s.ringLost (vu / 64) x.next = true) ∧
    (∃ (n : Fin 8) (s : State), s.runUnits n ≠ [] ∧ (s.region n).loading = none ∧ (∀ u ∈ s.runUnits n, 256 * ((s.region n).block + 1) ≤ u.next)) ∧
    (∃ (n : Fin 8) (s : State), (s.runUnits n = [] ∨ (s.region n).loading.isSome = true ∨ (∃ u ∈ s.runUnits n, u.next < 256 * ((s.region n).block + 1)))) ∧
    (∃ (n : Fin 8) (s : State), s.bit (F.VG_STAT_REPLAYING n) = true ∧ (∀ u ∈ s.runUnits n, s.newest < u.next)) ∧
    (∃ (n : Fin 8) (s : State), (s.bit (F.VG_STAT_REPLAYING n) = false ∨ (∃ u ∈ s.runUnits n, u.next ≤ s.newest))) :=
  ⟨⟨17, State.reset, by decide +kernel⟩,
    ⟨0, { State.reset with vg := { State.reset.vg with units := [{ vu := 0, next := 0, slots := [], outs := [], wins := [] }], regions := (State.reset.vg.regions).set 0 ({ State.reset.vg.regions[0] with block := 1 }) } }, _, rfl, by decide +kernel⟩,
    ⟨0, { State.reset with cfg := { State.reset.cfg with struct := (some { chains := [{ id := 1, nops := 0, ops := [], parOfs := 0, parLen := 0, jobmask := 0, slots := [] }], assigns := [{ vu := 0, chain := 1, start := 0, width := 0, overlap := 0, rsvd := 0 }], links := [], evts := [], cams := [], encs := [], abss := [], sws := [], pps := [], prints := [], nps := [], eths := [], sdgs := [], tws := [], dvfs := [], classes := [], mems := [], fallback := [], crc := 0 }) }, vg := { State.reset.vg with lines := [(256, ({ sline := 0, tag := { seq := 0, encPos := 0, frac := 0, ts := 0, bank := false, cu := none }, short := 0, long := 0, stale := false, clamp := false, repl := false, prov := false, row := none, rep := 0 }, []))], units := [{ vu := 0, next := 256, slots := [], outs := [], wins := [] }], regions := (State.reset.vg.regions).set 0 ({ State.reset.vg.regions[0] with block := 1 }) } }, _, rfl, _, rfl, by decide +kernel⟩,
    ⟨419, { State.reset with cfg := { State.reset.cfg with struct := (some { chains := [{ id := 1, nops := 0, ops := [], parOfs := 0, parLen := 0, jobmask := 0, slots := [] }], assigns := [{ vu := 419, chain := 1, start := 0, width := 0, overlap := 0, rsvd := 0 }], links := [], evts := [], cams := [], encs := [], abss := [], sws := [], pps := [], prints := [], nps := [], eths := [], sdgs := [], tws := [], dvfs := [], classes := [], mems := [], fallback := [], crc := 0 }) }, vg := { State.reset.vg with lines := [(0, ({ sline := 0, tag := { seq := 0, encPos := 0, frac := 0, ts := 0, bank := false, cu := none }, short := 0, long := 0, stale := false, clamp := false, repl := false, prov := false, row := none, rep := 0 }, []))], units := [{ vu := 419, next := 0, slots := [], outs := [], wins := [] }], regions := (State.reset.vg.regions).set 6 ({ State.reset.vg.regions[6] with ringFrom := 1 }) } }, _, rfl, _, rfl, by decide +kernel⟩,
    ⟨0, { State.reset with vg := { State.reset.vg with units := [{ vu := 0, next := 513, slots := [], outs := [], wins := [] }] } }, by decide +kernel⟩,
    ⟨0, State.reset, by decide +kernel⟩,
    ⟨0, { State.reset with regs := [(0x1000004, 0x10000#32)] }, by decide +kernel⟩,
    ⟨0, State.reset, by decide +kernel⟩⟩

/-- States and operands that meet the hypotheses of each clause of `Obligations.UnitFaultsReplayOrRetire`. -/
theorem test_witness_UnitFaultsReplayOrRetire :
    (∃ (pu : Fin 576) (kind : Fin 3) (s : State), (s.has .region (pu / 72) = false ∨ s.fld (puState pu) = 3 ∨ (kind ≠ 2 ∧ (s.logicalOf pu = none ∨ (s.region (pu / 72)).loading.isSome = true)))) ∧
    (∃ (pu : Fin 576) (kind : Fin 3) (s : State), ∃ lv, s.logicalOf pu = some lv ∧ (let n := pu.val / 72; s.has .region n = true ∧ s.fld (puState pu) ≠ 3 ∧ (s.region n).loading = none ∧ (s.vuS lv).isSome = true ∧ s.unitRuns lv = true ∧ kind ≠ 2 ∧ s.fld (F.VG_PU_STAT_FAULTS n (pu % 72)) < 2 ∧ (s.puS pu).ueAt = none ∧ s.fld (F.VG_STAT_ATTEMPT n) < 3 ∧ s.ringHolds n = true)) ∧
    (∃ (pu : Fin 576) (kind : Fin 3) (s : State), ∃ lv, s.logicalOf pu = some lv ∧ (let n := pu.val / 72; s.has .region n = true ∧ s.fld (puState pu) ≠ 3 ∧ s.loads n = [] ∧ (s.vuS lv).isSome = true ∧ s.unitRuns lv = true ∧ (kind = 2 ∨ s.fld (F.VG_PU_STAT_FAULTS n (pu % 72)) = 2))) ∧
    (∃ (pu : Fin 576) (s : State), s.logicalOf pu = none ∧ (let n := pu.val / 72; s.has .region n = true ∧ s.fld (puState pu) ≠ 3 ∧ (∀ l ∈ s.loads n, l.phys ≠ pu))) ∧
    (∃ (vu : Fin 512) (s : State), (s.has .region (vu / 64) = false ∨ (s.region (s.physOfVu vu / 72)).loading.isSome = true)) ∧
    (∃ (vu : Fin 512) (s : State), let pu := s.physOfVu vu; let n := pu / 72; s.logicalOf pu = some vu.val ∧ s.has .region (vu / 64) = true ∧ s.fld (puState pu) ≠ 3 ∧ (s.region n).loading = none ∧ (s.vuS vu).isSome = true ∧ s.unitRuns vu = true ∧ s.fld (F.VG_PU_STAT_FAULTS n (pu % 72)) < 2 ∧ s.fld (F.VG_STAT_ATTEMPT n) < 3 ∧ s.ringHolds n = true) ∧
    (∃ (n : Fin 8) (s : State), (s.region n).loading = none) ∧
    (∃ (n : Fin 8) (j : Fin 64) (p : Fin 72) (s0 : State), let s := s0.modRegion n (fun r => { r with loading := some { logical := 64 * n + j, phys := 72 * n + p, slack := false }, loadNext := [] }); s.fld (F.VG_STAT_ATTEMPT n) < 3 ∧ s.ringHolds n = true) ∧
    (∃ (pu : Fin 576) (s : State), s.fld (F.VG_PU_STAT_FAULTS (pu / 72) (pu % 72)) ≠ 0 ∧ (s.puS pu).window = 0) ∧
    (∃ (pu : Fin 576) (s : State), (s.fld (F.VG_PU_STAT_FAULTS (pu / 72) (pu % 72)) = 0 ∨ (s.puS pu).window ≠ 0)) :=
  ⟨⟨1, 0, { State.reset with regs := [(0x1001010, 0#32)] }, by decide +kernel⟩,
    ⟨0, 0, { State.reset with vg := { State.reset.vg with units := [{ vu := 0, next := 0, slots := [], outs := [], wins := [] }] } }, _, rfl, by decide +kernel⟩,
    ⟨229, 2, { State.reset with vg := { State.reset.vg with units := [{ vu := 205, next := 0, slots := [], outs := [], wins := [] }] } }, _, rfl, by decide +kernel⟩,
    ⟨0, { State.reset with regs := [(0x1001000, 1#32)] }, by decide +kernel⟩,
    ⟨449, { State.reset with board := { State.reset.board with variant := .w0648 } }, by decide +kernel⟩,
    ⟨0, { State.reset with vg := { State.reset.vg with units := [{ vu := 0, next := 0, slots := [], outs := [], wins := [] }] } }, by decide +kernel⟩,
    ⟨0, State.reset, by decide +kernel⟩,
    ⟨0, 0, 0, State.reset, by decide +kernel⟩,
    ⟨0, { State.reset with regs := [(0x1002000, 5#32)] }, by decide +kernel⟩,
    ⟨0, State.reset, by decide +kernel⟩⟩

/-- States and operands that meet the hypotheses of each clause of `Obligations.BlocksResolveAndRecordsDrain`. -/
theorem test_witness_BlocksResolveAndRecordsDrain :
    (∃ (s : State), (s.bit F.SEG_CTL_EN = false ∨ s.blockIn s.seg.nextBlk = false ∨ (s.seg.commits.any (fun c => c.block == s.seg.nextBlk)) = false)) ∧
    (∃ (s : State), s.bit F.SEG_CTL_EN = true ∧ s.blockIn s.seg.nextBlk = true ∧ s.seg.commits.any (fun c => c.block == s.seg.nextBlk) = true ∧ (List.range 64).all (fun c => (s.evtHits [90] c).isEmpty) = true) ∧
    (∃ (s : State), s.seg.spill = [] ∧ s.seg.dropped = []) ∧
    (∃ (r : Fin 6) (a : Nat) (s0 : State), let s : State := { s0 with seg := { s0.seg with spill := [(r.val, a)], dropped := [] } }; let c := s.fld (F.SEG_ROUTE_QID r); let e := HostEntry.pkt { opc := 0x8001, param0 := 1, data := s.memRead a 64 }; s.hasRoom c e.ringBytes = true ∧ s.inDdr a 64 = true ∧ s.poisoned a 64 = false) ∧
    (∃ (r : Fin 6) (a : Nat) (rest : List (Nat × Nat)) (s0 : State), let s : State := { s0 with seg := { s0.seg with spill := (r.val, a) :: rest, dropped := [] } }; (s.hasRoom (s.fld (F.SEG_ROUTE_QID r)) 112 = false ∨ s.inDdr a 64 = false)) ∧
    (∃ (port : Fin 2) (s : State), s.hq.gather[port] = []) ∧
    (∃ (port : Fin 2) (s : State), s.hq.gather[port] ≠ [] ∧ s.time.launch[port].length < 64) :=
  ⟨⟨State.reset, by decide +kernel⟩,
    ⟨{ State.reset with seg := { State.reset.seg with commits := [{ block := 1, region := 0, parts := [], tabs := [], lost := false }], nextBlk := 1 }, regs := [(0x2000000, 3#32)] }, by decide +kernel⟩,
    ⟨State.reset, by decide +kernel⟩,
    ⟨0, 0, { State.reset with regs := [(0x200808, 0x31#32), (0x2800004, 0x80000002#32)] }, by decide +kernel⟩,
    ⟨0, 0, [], State.reset, by decide +kernel⟩,
    ⟨0, State.reset, by decide +kernel⟩,
    ⟨0, { State.reset with hq := { State.reset.hq with gather := (State.reset.hq.gather).set 0 ([[]]) } }, by decide +kernel⟩⟩

/-- States and operands that meet the hypotheses of each clause of `Obligations.MasterTilesAreFetchedAndBanksDrain`. -/
theorem test_witness_MasterTilesAreFetchedAndBanksDrain :
    (∃ (b : Bool) (idx : Fin 4) (s : State), (s.job b).bind (fun j => j.masters.find? (fun m => m.idx == idx.val)) = none) ∧
    (∃ (b : Bool) (idx : Fin 4) (tile : BitVec 24) (s : State), ∃ m, (s.job b).bind (fun j => j.masters.find? (fun m => m.idx == idx.val)) = some m ∧ ceilDiv m.width 256 * ceilDiv m.height 256 ≤ tile.toNat) ∧
    (∃ (b : Bool) (idx : Fin 4) (tile : BitVec 24) (block : Word) (s : State), (∀ rg : Fin 8, (s.mtile rg b idx tile.toNat block.toNat).isSome = true)) ∧
    (∃ (b : Bool) (idx : Fin 4) (tile : BitVec 24) (block : Word) (s : State), ∃ m, (s.job b).bind (fun j => j.masters.find? (fun m => m.idx == idx.val)) = some m ∧ tile.toNat < ceilDiv m.width 256 * ceilDiv m.height 256 ∧ (∃ rg : Fin 8, (s.mtile rg b idx tile.toNat block.toNat).isNone = true)) ∧
    (∃ (b : Bool) (s : State), (s.bankState b ≠ 5 ∨ s.bankInFlight b = true)) ∧
    (∃ (b : Bool) (s : State), s.bankState b = 5 ∧ s.bankInFlight b = false) :=
  ⟨⟨false, 0, State.reset, by decide +kernel⟩,
    ⟨false, 1, 8#24, { State.reset with cfg := { State.reset.cfg with jobA := (some { jobId := 0, repeatLen := 0, thresh := [], rules := [], masters := [{ idx := 1, format := 0, base := 0, clen := 0, width := 0, height := 0, indexBase := 0, classBase := 0, x0 := 0, rsvd := 0, rsvd2 := 0 }], prints := [], compares := [], takeovers := [], opParams := [] }) } }, _, rfl, by decide +kernel⟩,
    ⟨true, 2, 0#24, 0#32, { State.reset with seg := { State.reset.seg with master := [{ bank := true, idx := 2, tile := 0, block := 0, data := none, rgs := 255 }] } }, by decide +kernel⟩,
    ⟨false, 0, 0#24, 0#32, { State.reset with cfg := { State.reset.cfg with jobA := (some { jobId := 0, repeatLen := 0, thresh := [], rules := [], masters := [{ idx := 0, format := 0, base := 0, clen := 0, width := 1, height := 1, indexBase := 0, classBase := 0, x0 := 0, rsvd := 0, rsvd2 := 0 }], prints := [], compares := [], takeovers := [], opParams := [] }) } }, _, rfl, by decide +kernel⟩,
    ⟨false, State.reset, by decide +kernel⟩,
    ⟨false, { State.reset with regs := [(0x100020, 5#32)] }, by decide +kernel⟩⟩

/-- States and operands that meet the hypotheses of each clause of `Obligations.PrintLineCycles`. -/
theorem test_witness_PrintLineCycles :
    (∃ (n : Fin 8) (s : State), s.prt[n].busy = false) ∧
    (∃ (n : Fin 8) (s : State), s.prt[n].busy = true ∧ (s.prt[n].hotLeft = none ∨ s.prt[n].cycHot = false)) ∧
    (∃ (n : Fin 8) (s : State), s.prt[n].fire = true) ∧
    (∃ (n : Fin 8) (s : State), s.prt[n].fire = false) ∧
    (∃ (n : Fin 8) (l : PLine) (s0 : State), let s : State := { s0 with prt := s0.prt.set n { s0.prt[n] with shifted := some l } }; s.prt[n].window = false ∧ s.prt[n].latching = false ∧ s.latchFree n = true) ∧
    (∃ (n : Fin 8) (s : State), (s.prt[n].shifted = none ∨ s.prt[n].window = true ∨ s.prt[n].latching = true ∨ s.latchFree n = false)) ∧
    (∃ (n : Fin 8) (level : Bool) (s : State), (s.has .head n = false ∨ level = s.prt[n].heatOk)) ∧
    (∃ (n : Fin 8) (s : State), s.has .head n = true ∧ s.prt[n].heatOk = true ∧ s.bit (F.HP_CTL_EN n) = true) ∧
    (∃ (n : Fin 8) (s : State), s.has .head n = true ∧ s.prt[n].heatOk = false ∧ s.bit (F.HP_STAT_HOT n) = true ∧ s.fld (F.HP_TIM1_HOT_HYST n) ≠ 0) :=
  ⟨⟨0, State.reset, by decide +kernel⟩,
    ⟨0, { State.reset with prt := (State.reset.prt).set 0 ({ State.reset.prt[0] with busy := true }) }, by decide +kernel⟩,
    ⟨0, { State.reset with prt := (State.reset.prt).set 0 ({ State.reset.prt[0] with fire := true }) }, by decide +kernel⟩,
    ⟨0, State.reset, by decide +kernel⟩,
    ⟨1, { id := .before, pt := 0, vals := [], ws := 0, hot := false, err := false }, State.reset, by decide +kernel⟩,
    ⟨0, State.reset, by decide +kernel⟩,
    ⟨0, true, { State.reset with prt := (State.reset.prt).set 0 ({ State.reset.prt[0] with heatOk := true }) }, by decide +kernel⟩,
    ⟨2, { State.reset with prt := (State.reset.prt).set 2 ({ State.reset.prt[2] with heatOk := true }), regs := [(0x2200200, 0x61#32)] }, by decide +kernel⟩,
    ⟨5, { State.reset with regs := [(0x2200504, 8#32)] }, by decide +kernel⟩⟩

/-- States and operands that meet the hypotheses of each clause of `Obligations.PrintLinesAreFetchedAndShifted`. -/
theorem test_witness_PrintLinesAreFetchedAndShifted :
    (∃ (n : Fin 8) (s : State), s.bit (F.HP_CTL_EN n) = false) ∧
    (∃ (n : Fin 8) (s : State), s.bit (F.HP_CTL_EN n) = true ∧ (s.prune n).nextFetch n = none) ∧
    (∃ (n : Fin 8) (s : State), s.bit (F.HP_CTL_EN n) = true ∧ (s.prt[n].shifting.isSome = true ∨ s.prt[n].shifted.isSome = true) ∧ ∃ x, (s.prune n).nextFetch n = some x) ∧
    (∃ (n : Fin 8) (s : State), (s.prt[n].shifting.isSome = true ∨ s.prt[n].shifted.isSome = true)) ∧
    (∃ (n : Fin 8) (s : State), s.prt[n].shifting = none ∧ s.prt[n].shifted = none ∧ ∃ l, s.prt[n].prefetch.head? = some l ∧ (let up := (s.upcoming n).map (fun x => (x.1, x.2.1)); up.contains (l.pt, l.id) = true)) :=
  ⟨⟨0, State.reset, by decide +kernel⟩,
    ⟨0, { State.reset with regs := [(0x2200000, 0x61#32)] }, by decide +kernel⟩,
    ⟨0, { State.reset with cfg := { State.reset.cfg with jobA := (some { jobId := 0, repeatLen := 0, thresh := [], rules := [], masters := [], prints := [{ port := 0, cu := 0, bpn := 0, wsel := 0, base := 0, stride := 0, lpr := 1, nrep := 0, flags := 0, orgOfs := 0, rsvd := 0, rsvd2 := 0 }], compares := [], takeovers := [], opParams := [] }) }, prt := (State.reset.prt).set 0 ({ State.reset.prt[0] with shifting := (some { id := .before, pt := 0, vals := [], ws := 0, hot := false, err := false }) }), regs := [(0x100020, 0x40#32), (0x2200000, 0x61#32)] }, by decide +kernel, by decide +kernel, _, rfl⟩,
    ⟨0, { State.reset with prt := (State.reset.prt).set 0 ({ State.reset.prt[0] with shifted := (some { id := .before, pt := 0, vals := [], ws := 0, hot := false, err := false }) }) }, by decide +kernel⟩,
    ⟨1, { State.reset with cfg := { State.reset.cfg with jobB := (some { jobId := 0, repeatLen := 0, thresh := [], rules := [], masters := [], prints := [{ port := 1, cu := 0, bpn := 0, wsel := 0, base := 0, stride := 0, lpr := 1, nrep := 0, flags := 0, orgOfs := 0, rsvd := 0, rsvd2 := 0 }], compares := [{ cu := 0, spacing := 0, phase := 0 }], takeovers := [], opParams := [] }) }, prt := (State.reset.prt).set 1 ({ State.reset.prt[1] with prefetch := [{ id := (.line true 0 0), pt := 0, vals := [], ws := 0, hot := false, err := false }] }), regs := [(0x100020, 0x30#32)] }, by decide +kernel, by decide +kernel, _, rfl, by decide +kernel⟩⟩

/-- States and operands that meet the hypotheses of each clause of `Obligations.TakeoverTablesAreKept`. -/
theorem test_witness_TakeoverTablesAreKept :
    (∃ (n : Fin 8) (s : State), s.has .head n = false) ∧
    (∃ (n : Fin 8) (z : BitVec 12) (s : State), s.has .head n = true ∧ s.fld (F.HP_CTL_NOZ n) ≤ z.toNat) ∧
    (∃ (n : Fin 8) (z : BitVec 12) (s : State), s.has .head n = true ∧ z.toNat < s.fld (F.HP_CTL_NOZ n) ∧ s.prt[n].tk.any (fun t => t.nozzle == z.toNat) = true) ∧
    (∃ (n : Fin 8) (z : BitVec 12) (t : TkS) (s0 : State), let s : State := { s0 with prt := s0.prt.set n { s0.prt[n] with tk := List.replicate 256 t } }; s.has .head n = true ∧ z.toNat < s.fld (F.HP_CTL_NOZ n) ∧ t.nozzle ≠ z.toNat) ∧
    (∃ (n : Fin 8) (z : BitVec 12) (s : State), s.has .head n = true ∧ z.toNat < s.fld (F.HP_CTL_NOZ n) ∧ s.prt[n].tk.any (fun t => t.nozzle == z.toNat) = false ∧ s.prt[n].tk.length < 256) ∧
    (∃ (n : Fin 8) (z : BitVec 12) (s : State), s.has .head n = true ∧ s.prt[n].tk.any (fun t => t.nozzle == z.toNat && t.src == 1) = false) ∧
    (∃ (n : Fin 8) (z : BitVec 12) (t : TkS) (rest : List TkS) (s0 : State), let s : State := { s0 with prt := s0.prt.set n { s0.prt[n] with tk := { t with nozzle := z.toNat, src := 1 } :: rest } }; s.has .head n = true) :=
  ⟨⟨4, { State.reset with board := { State.reset.board with variant := .w0648 } }, by decide +kernel⟩,
    ⟨0, 0#12, State.reset, by decide +kernel⟩,
    ⟨5, 1#12, { State.reset with prt := (State.reset.prt).set 5 ({ State.reset.prt[5] with tk := [{ nozzle := 1, src := 0, e := 0, p := 0, objId := none, last := [] }] }), regs := [(0x2200500, 0x40060#32)] }, by decide +kernel⟩,
    ⟨1, 0#12, { nozzle := 1, src := 0, e := 0, p := 0, objId := none, last := [] }, { State.reset with regs := [(0x2200100, 0x10060#32)] }, by decide +kernel⟩,
    ⟨0, 0#12, { State.reset with regs := [(0x2200000, 0x20060#32)] }, by decide +kernel⟩,
    ⟨0, 0#12, State.reset, by decide +kernel⟩,
    ⟨0, 0#12, { nozzle := 0, src := 0, e := 0, p := 0, objId := none, last := [] }, [], State.reset, by decide +kernel⟩⟩

/-- States and operands that meet the hypotheses of each clause of `Obligations.AreaPortsReceiveFrames`. -/
theorem test_witness_AreaPortsReceiveFrames :
    (∃ (p : Fin 2) (s : State), (s.has .pport p = false ∨ s.bit (F.PP_CTL_EN p) = false ∨ s.isp.vs[p] ≠ none)) ∧
    (∃ (p : Fin 2) (s : State), s.has .pport p = true ∧ s.bit (F.PP_CTL_EN p) = true ∧ s.isp.vs[p] = none ∧ s.bit (F.PP_STAT_HELD0 p) = true ∧ s.bit (F.PP_STAT_HELD1 p) = true) ∧
    (∃ (p : Fin 2) (s : State), s.has .pport p = true ∧ s.bit (F.PP_CTL_EN p) = true ∧ s.isp.vs[p] = none ∧ (s.bit (F.PP_STAT_HELD0 p) = false ∨ s.bit (F.PP_STAT_HELD1 p) = false)) ∧
    (∃ (p : Fin 2) (s : State), s.capt p = none) ∧
    (∃ (p : Fin 2) (s : State), ∃ fr, s.capt p = some fr ∧ fr.h ≤ fr.lines) ∧
    (∃ (p : Fin 2) (pix : List (BitVec 16)) (full : Bool) (s : State), ∃ fr, s.capt p = some fr ∧ fr.lines < fr.h ∧ (let bad := pix.length ≠ fr.w ∨ full = true; let px := (List.range fr.w).map (fun x => if full then 0 else (pix.getD x 0).toNat % 2 ^ ppDepth fr.fmt); let n := fr.w * ppBytes fr.fmt; let a := s.ppBuf p fr.buf + fr.lines * n; (lineRange a n).all (fun l => !s.poison.contains l) = true)) ∧
    (∃ (p : Fin 2) (s : State), ∃ fr, s.capt p = some fr) :=
  ⟨⟨0, State.reset, by decide +kernel⟩,
    ⟨0, { State.reset with regs := [(0x3000000, 1#32), (0x3000010, 0x30000#32)] }, by decide +kernel⟩,
    ⟨1, { State.reset with regs := [(0x3000040, 1#32)] }, by decide +kernel⟩,
    ⟨0, State.reset, by decide +kernel⟩,
    ⟨0, { State.reset with isp := { State.reset.isp with frames := [{ port := 0, buf := 0, seq := 0, ts := 0, pos := 0, ctx := 0, w := 0, h := 0, fmt := 0, lines := 0, short := false, long := false, lerr := false, ovf := false, ended := false }] } }, _, rfl, by decide +kernel⟩,
    ⟨0, [], false, { State.reset with isp := { State.reset.isp with frames := [{ port := 0, buf := 0, seq := 0, ts := 0, pos := 0, ctx := 0, w := 0, h := 15, fmt := 0, lines := 0, short := false, long := false, lerr := false, ovf := false, ended := false }] } }, _, rfl, by decide +kernel⟩,
    ⟨0, { State.reset with isp := { State.reset.isp with frames := [{ port := 0, buf := 0, seq := 0, ts := 0, pos := 0, ctx := 0, w := 0, h := 0, fmt := 0, lines := 0, short := false, long := false, lerr := false, ovf := false, ended := false }] } }, _, rfl⟩⟩

/-- States and operands that meet the hypotheses of each clause of `Obligations.ImagePipelineTakesFrames`. -/
theorem test_witness_ImagePipelineTakesFrames :
    (∃ (c : Fin 4) (second : Bool) (val : Word) (s : State), let a := (if second then s.rd (R.ISP_CTX_CROP0 c) else val).toNat; let b := (if second then val else s.rd (R.ISP_CTX_CROP1 c)).toNat; s.cropOk c (a % 8192) (a / 65536 % 8192) (b % 8192) (b / 65536 % 8192) (2 ^ s.fld (F.ISP_CTX_CTL_DS c)) = true) ∧
    (∃ (c : Fin 4) (second : Bool) (val : Word) (s : State), let a := (if second then s.rd (R.ISP_CTX_CROP0 c) else val).toNat; let b := (if second then val else s.rd (R.ISP_CTX_CROP1 c)).toNat; s.cropOk c (a % 8192) (a / 65536 % 8192) (b % 8192) (b / 65536 % 8192) (2 ^ s.fld (F.ISP_CTX_CTL_DS c)) = false) ∧
    (∃ (s : State), (s.bit F.ISP_CTL_EN = false ∨ s.bit F.ISP_STAT_BUSY = true ∨ s.isp.frames = [])) ∧
    (∃ (s : State), ∃ fr, s.isp.frames.head? = some fr ∧ s.bit F.ISP_CTL_EN = true ∧ s.bit F.ISP_STAT_BUSY = false ∧ ∃ c : Fin 4, c = fr.ctx) ∧
    (∃ (s : State), (s.isp.frames = [] ∨ s.bit F.ISP_STAT_BUSY = false ∨ (s.isp.frames.head?.any (fun fr => fr.ended)) = false)) ∧
    (∃ (s : State), ∃ fr, s.isp.frames.head? = some fr ∧ s.bit F.ISP_STAT_BUSY = true ∧ fr.ended = true ∧ (let c := fr.ctx; let ds := 2 ^ s.ispF (F.ISP_CTX_CTL_DS c); let x0 := s.ispF (F.ISP_CTX_CROP0_X0 c); let y0 := s.ispF (F.ISP_CTX_CROP0_Y0 c); let w0 := s.ispF (F.ISP_CTX_CROP1_W c); let h0 := s.ispF (F.ISP_CTX_CROP1_H c); let fits := x0 + w0 ≤ fr.w ∧ y0 + h0 ≤ fr.h; let w := if fits then w0 else min w0 (fr.w - x0) / ds * ds; let h := if fits then h0 else min h0 (fr.h - y0) / ds * ds; let clip := w != w0 || h != h0 || w < 16 || h < 16; let skip := s.isp.skip || w < 16 || h < 16; let ns := s.ispF (F.ISP_CTX_CTL_NSLOT c) + 1; let wr := s.fld (F.ISP_CTX_WR_SLOT c); let base := 64 * s.ispW (R.ISP_CTX_OUTB c) + wr % ns * (64 * s.isp.slot); let size := (slotParts (if ppBayer fr.fmt then 3 else 1) w h ds (s.ispF (F.ISP_CTX_CTL_OUT_EN c))).sum; let hdr := frameHdr fr (frameFlags fr skip clip) w h ds (if skip then 0xFFFFFFFF else wr % ns); let q := s.fld F.ISP_CTL_QID; let e : HostEntry := .pkt { opc := 0x8060, data := hdr }; let r := if skip then s else s.ddrRead (s.ppBuf fr.port fr.buf) (fr.w * fr.lines * ppBytes fr.fmt); (lineRange base size).all (fun l => !s.poison.contains l) = true)) :=
  ⟨⟨1, true, 0x400010#32, State.reset, by decide +kernel⟩,
    ⟨0, false, 0#32, State.reset, by decide +kernel⟩,
    ⟨State.reset, by decide +kernel⟩,
    ⟨{ State.reset with isp := { State.reset.isp with frames := [{ port := 0, buf := 0, seq := 0, ts := 0, pos := 0, ctx := 1, w := 0, h := 0, fmt := 0, lines := 0, short := false, long := false, lerr := false, ovf := false, ended := false }] }, regs := [(0x3001000, 1#32)] }, _, rfl, by decide +kernel, by decide +kernel, 1, by decide +kernel⟩,
    ⟨State.reset, by decide +kernel⟩,
    ⟨{ State.reset with isp := { State.reset.isp with frames := [{ port := 0, buf := 0, seq := 0, ts := 0, pos := 0, ctx := 0, w := 0, h := 0, fmt := 0, lines := 0, short := false, long := false, lerr := false, ovf := false, ended := true }] }, regs := [(0x3001004, 2#32)] }, _, rfl, by decide +kernel⟩⟩

/-- States and operands that meet the hypotheses of each clause of `Obligations.NetworkTimeRunsAndWraps`. -/
theorem test_witness_NetworkTimeRunsAndWraps :
    (∃ (s : State), s.bit F.TIME_STAT_PLL_LOCK = false) ∧
    (∃ (s : State), s.bit F.TIME_STAT_PLL_LOCK = true ∧ (let e := s.seedEdge; let k := e.edgesTo (2 ^ 32); let u := e.tsEdges k; k < e.edgesTo (10 ^ 9))) ∧
    (∃ (s : State), s.bit F.TIME_STAT_PLL_LOCK = true ∧ (let e := s.seedEdge; let k := e.edgesTo (10 ^ 9); let u := e.tsEdges k; k < e.edgesTo (2 ^ 32))) ∧
    (∃ (s : State), s.bit F.TIME_STAT_PLL_LOCK = true ∧ (let e := s.seedEdge; let k := e.edgesTo (10 ^ 9); let u := e.tsEdges k; k = e.edgesTo (2 ^ 32))) ∧
    (∃ (s : State), s.bit F.TIME_STAT_PLL_LOCK = true ∧ (let e := s.seedEdge; let k := s.rdN R.TIME_ADJ_TICKS; k < e.edgesTo (10 ^ 9) ∧ k < e.edgesTo (2 ^ 32))) ∧
    (∃ (s : State), s.bit F.TIME_STAT_PLL_LOCK = true ∧ (let e := s.seedEdge; let k := s.rdN R.TIME_ADJ_TICKS; k = e.edgesTo (2 ^ 32) ∧ k < e.edgesTo (10 ^ 9))) :=
  ⟨⟨State.reset, by decide +kernel⟩,
    ⟨{ State.reset with time := { State.reset.time with ts := 2508757194024499019640 }, regs := [(0x2600004, 2#32)] }, by decide +kernel⟩,
    ⟨{ State.reset with regs := [(0x2600004, 2#32)] }, by decide +kernel⟩,
    ⟨{ State.reset with time := { State.reset.time with ts := 79228162514264337593543950335 }, regs := [(0x2600004, 2#32)] }, by decide +kernel⟩,
    ⟨{ State.reset with regs := [(0x2600004, 2#32)] }, by decide +kernel⟩,
    ⟨{ State.reset with time := { State.reset.time with ts := 2508757194024499019640 }, regs := [(0x2600004, 2#32), (0x2600024, 1#32)] }, by decide +kernel⟩⟩

/-- States and operands that meet the hypotheses of each clause of `Obligations.TimeIsSetAndRead`. -/
theorem test_witness_TimeIsSetAndRead :
    (∃ (val : Word), val.toInt.natAbs ≤ 17179869) ∧
    (∃ (val : Word), 17179869 < val.toInt.natAbs) ∧
    (∃ (s : State), s.bit F.TIME_STAT_SEED_DONE = true ∧ s.bit F.CFG_STAT_PIPE_STOPPED = true ∧ s.bit F.TIME_STAT_STEP_LOCKED = false) ∧
    (∃ (s : State), s.bit F.TIME_STAT_SEED_DONE = true ∧ s.bit F.CFG_STAT_PIPE_STOPPED = true ∧ s.bit F.TIME_STAT_STEP_LOCKED = false) ∧
    (∃ (s : State), (s.bit F.TIME_STAT_SEED_DONE = false ∨ s.bit F.CFG_STAT_PIPE_STOPPED = false)) ∧
    (∃ (s : State), s.bit F.TIME_STAT_SEED_DONE = true ∧ s.bit F.CFG_STAT_PIPE_STOPPED = true ∧ s.bit F.TIME_STAT_STEP_LOCKED = true) :=
  ⟨⟨0#32, by decide +kernel⟩,
    ⟨0x8000000#32, by decide +kernel⟩,
    ⟨{ State.reset with regs := [(0x2600004, 4#32)] }, by decide +kernel⟩,
    ⟨{ State.reset with regs := [(0x2600004, 4#32)] }, by decide +kernel⟩,
    ⟨State.reset, by decide +kernel⟩,
    ⟨{ State.reset with regs := [(0x2600004, 0x14#32)] }, by decide +kernel⟩⟩

/-- States and operands that meet the hypotheses of each clause of `Obligations.CalendarCountsAndSeeds`. -/
theorem test_witness_CalendarCountsAndSeeds :
    (∃ (s : State), s.time.rtcRose = true ∧ s.time.seedWait = none ∧ s.bit F.TIME_STAT_SEED_DONE = false ∧ s.bit F.RTC_CTL_SET = false ∧ s.time.rtc + 1 < 2 ^ 55 ∧ s.time.rtcTrim + 1 < 2 ^ 20) ∧
    (∃ (s : State), (s.time.rtcRose = false ∨ s.time.seedWait.isSome = true ∨ s.bit F.TIME_STAT_SEED_DONE = true)) ∧
    (∃ (s : State), s.bit F.RTC_CTL_SET = true ∧ s.bit F.RTC_CTL_SYNC = false ∧ s.bit F.TIME_STAT_SEED_DONE = true) ∧
    (∃ (s : State), (s.bit F.RTC_CTL_SET = false ∨ s.bit F.RTC_CTL_SYNC = true)) ∧
    (∃ (s : State), (s.bit F.RTC_CTL_SET = false ∨ s.bit F.RTC_CTL_SYNC = true) ∧ s.bit F.TIME_STAT_SEED_DONE = true) ∧
    (∃ (s : State), s.bit F.TOP_READY_RTC = true) ∧
    (∃ (s : State), s.bit F.TOP_READY_RTC = false) :=
  ⟨⟨{ State.reset with time := { State.reset.time with rtcRose := true } }, by decide +kernel⟩,
    ⟨State.reset, by decide +kernel⟩,
    ⟨{ State.reset with regs := [(0x2600004, 4#32), (0x2600208, 1#32)] }, by decide +kernel⟩,
    ⟨State.reset, by decide +kernel⟩,
    ⟨{ State.reset with regs := [(0x2600004, 4#32)] }, by decide +kernel⟩,
    ⟨{ State.reset with regs := [(0xc, 8#32)] }, by decide +kernel⟩,
    ⟨State.reset, by decide +kernel⟩⟩

/-- States and operands that meet the hypotheses of each clause of `Obligations.UpstreamTimeExchange`. -/
theorem test_witness_UpstreamTimeExchange :
    (∃ (s : State), s.bit F.TIME_CTL_UP_EN = true ∧ s.npUp (s.fld F.TIME_CTL_UP_PORT) = true) ∧
    (∃ (s : State), (s.bit F.TIME_CTL_UP_EN = false ∨ s.npUp (s.fld F.TIME_CTL_UP_PORT) = false)) ∧
    (∃ (p : Fin 4) (s : State), s.npUp p = true) ∧
    (∃ (p : Fin 4) (seq : BitVec 8) (s0 : State), let s : State := { s0 with time := { s0.time with reqSeq := seq.toNat, reqWait := true, reqSpoil := false } }; s.npUp p = true ∧ s.fld F.TIME_CTL_UP_PORT = p ∧ s.bit F.TIME_CTL_UP_EN = true) ∧
    (∃ (p : Fin 4) (seq : BitVec 8) (s0 : State), let s : State := { s0 with time := { s0.time with reqSeq := seq.toNat, reqWait := true, reqSpoil := true } }; s.npUp p = true ∧ s.fld F.TIME_CTL_UP_PORT = p ∧ s.bit F.TIME_CTL_UP_EN = true) ∧
    (∃ (p : Fin 4) (s : State), s.npUp p = false) ∧
    (∃ (p : Fin 4) (kind seq : Byte) (s : State), s.npUp p = true ∧ kind.toNat ≠ 1 ∧ (kind.toNat ≠ 2 ∨ s.time.reqWait = false ∨ seq.toNat ≠ s.time.reqSeq ∨ s.fld F.TIME_CTL_UP_PORT ≠ p ∨ s.bit F.TIME_CTL_UP_EN = false)) ∧
    (∃ (p : Fin 4) (pl : List Byte) (s : State), s.npUp p = true ∧ pl.length ≠ 32) ∧
    (∃ (s : State), s.time.reqOut ≠ 0) ∧
    (∃ (s : State), s.time.reqOut = 0) :=
  ⟨⟨{ State.reset with regs := [(0xc, 0x80000#32), (0x2600000, 0x6407#32)] }, by decide +kernel⟩,
    ⟨State.reset, by decide +kernel⟩,
    ⟨0, { State.reset with regs := [(0xc, 0x10000#32)] }, by decide +kernel⟩,
    ⟨3, 0#8, { State.reset with regs := [(0xc, 0x80000#32), (0x2600000, 0x6407#32)] }, by decide +kernel⟩,
    ⟨3, 0#8, { State.reset with regs := [(0xc, 0x80000#32), (0x2600000, 0x6407#32)] }, by decide +kernel⟩,
    ⟨0, State.reset, by decide +kernel⟩,
    ⟨0, 0#8, 0#8, { State.reset with regs := [(0xc, 0x10000#32)] }, by decide +kernel⟩,
    ⟨0, [], { State.reset with regs := [(0xc, 0x10000#32)] }, by decide +kernel⟩,
    ⟨{ State.reset with time := { State.reset.time with reqOut := 1 } }, by decide +kernel⟩,
    ⟨State.reset, by decide +kernel⟩⟩

/-- States and operands that meet the hypotheses of each clause of `Obligations.EthernetFramesComeAndGo`. -/
theorem test_witness_EthernetFramesComeAndGo :
    (∃ (p : Fin 2) (s : State), s.epUp p = false) ∧
    (∃ (p : Fin 2) (s : State), s.epUp p = true) ∧
    (∃ (p : Fin 2) (f : List Byte) (s : State), s.epUp p = true ∧ f.take 6 ≠ s.macBytes p ∧ f.take 6 ≠ List.replicate 6 0xFF ∧ s.bit (F.ETH_EP_RX_PROMISC p) = false ∧ (s.bit (F.ETH_EP_RX_MC_ALL p) = false ∨ bitN (f.headD 0).toNat 0 = false)) ∧
    (∃ (p : Fin 2) (s : State), s.epUp p = true ∧ s.bit (F.ETH_EP_RX_EN p) = false) ∧
    (∃ (p : Fin 2) (src : Vector Byte 6) (ptp : Vector Byte 32) (rest : List Byte) (s : State), s.epUp p = true ∧ s.bit (F.ETH_EP_RX_EN p) = true ∧ (let f := List.replicate 6 0xFF ++ src.toList ++ [0x88, 0xF7, 0x00, 0x02] ++ ptp.toList ++ rest; s.isEvent p f = true ∧ (let c := s.fld (F.ETH_EP_RX_QID p); let t := (s.time.ts / 2 ^ 16 + 2 ^ 80 - s.fld (F.TIME_EP_LAT_RX_LAT p) * 65536) % 2 ^ 80; let e : HostEntry := .pkt { opc := 0x8040, target := t / 65536, param0 := t % 65536 + 65536 * p + 131072, data := f }; s.hasRoom c e.ringBytes = true))) ∧
    (∃ (q : Fin 32) (pkt : List Byte), Plain q 0x40 pkt ∧ ∃ (p : Fin 2) (s : State), Offered s q 16 ∧ (let h := pktHdr pkt; 14 ≤ h.len ∧ h.len ≤ 1514 ∧ h.param0 = p ∧ h.param1 = 0 ∧ h.target = 2 ^ 64 - 1 ∧ s.epUp p = false)) ∧
    (∃ (q : Fin 32) (pkt : List Byte), Plain q 0x40 pkt ∧ ∃ (p : Fin 2) (s : State), Offered s q 16 ∧ (let h := pktHdr pkt; 14 ≤ h.len ∧ h.len ≤ 1514 ∧ h.param0 = p ∧ h.param1 = 0 ∧ h.target = 2 ^ 64 - 1 ∧ s.epUp p = true ∧ s.time.launch[p] = [] ∧ s.time.heldTx[p] = [] ∧ s.time.txEnd[p] ≤ s.ns)) ∧
    (∃ (q : Fin 32) (pkt : List Byte), Plain q 0x40 pkt ∧ ∃ (p : Fin 2) (s : State), Offered s q 16 ∧ (let h := pktHdr pkt; 14 ≤ h.len ∧ h.len ≤ 1514 ∧ h.param0 = p ∧ h.param1 = 0 ∧ h.target = 2 ^ 64 - 1 ∧ s.epUp p = true ∧ (s.ns < s.time.txEnd[p] ∨ s.time.heldTx[p] ≠ [] ∨ s.time.launch[p].any (fun e => e.launch < s.ns + s.frameNs p h.len) = true ∧ (s.time.launch[p].map (·.launch)).Pairwise (· ≤ ·)))) ∧
    (∃ (q : Fin 32) (pkt : List Byte), Plain q 0x40 pkt ∧ ∃ (p : Fin 2) (s : State), Offered s q 16 ∧ (let h := pktHdr pkt; 14 ≤ h.len ∧ h.len ≤ 1514 ∧ h.param0 = p ∧ h.param1 = 0 ∧ h.target ≠ 2 ^ 64 - 1 ∧ s.time.launch[p].length < 64 ∧ h.target ≤ s.ns + 2 ^ 32)) ∧
    (∃ (q : Fin 32) (pkt : List Byte), Plain q 0x40 pkt ∧ ∃ (p : Fin 2) (s : State), Offered s q 16 ∧ (let h := pktHdr pkt; 14 ≤ h.len ∧ h.len ≤ 1514 ∧ h.param0 = p ∧ h.param1 = 0 ∧ h.target ≠ 2 ^ 64 - 1 ∧ (64 ≤ s.time.launch[p].length ∨ s.ns + 2 ^ 32 < h.target))) ∧
    (∃ (p : Fin 2) (s : State), s.time.heldTx[p] = [] ∧ s.time.launch[p] = []) ∧
    (∃ (p : Fin 2) (e : LaunchE) (rest : List LaunchE) (s0 : State), let s : State := { s0 with time := { s0.time with launch := s0.time.launch.set p (e :: rest), heldTx := s0.time.heldTx.set p [] } }; s.ns < e.launch) ∧
    (∃ (p : Fin 2) (f : List Byte) (past : Fin 1000) (rest : List LaunchE) (s0 : State), let s : State := { s0 with time := { s0.time with launch := s0.time.launch.set p ({ launch := s0.ns - past, frame := f, owner := none, tag := 0, stamp := false, oneStep := false, t2 := 0 } :: rest), heldTx := s0.time.heldTx.set p [] } }; s.epUp p = true ∧ past ≤ s.ns ∧ past ≤ s.fld (F.TIME_EP_LCTL_LATE_TOL p) ∧ s.time.txEnd[p] ≤ s.ns - past) ∧
    (∃ (p : Fin 2) (f : List Byte) (past : Nat) (rest : List LaunchE) (s0 : State), let s : State := { s0 with time := { s0.time with launch := s0.time.launch.set p ({ launch := s0.ns - past, frame := f, owner := none, tag := 0, stamp := false, oneStep := false, t2 := 0 } :: rest), heldTx := s0.time.heldTx.set p [] } }; past ≤ s.ns ∧ (s.fld (F.TIME_EP_LCTL_LATE_TOL p) < past ∨ s.ns - past + s.fld (F.TIME_EP_LCTL_LATE_TOL p) < s.time.txEnd[p]) ∧ s.bit (F.TIME_EP_LCTL_DROP_LATE p) = true) :=
  ⟨⟨0, State.reset, by decide +kernel⟩,
    ⟨0, { State.reset with regs := [(0xc, 0x1000#32)] }, by decide +kernel⟩,
    ⟨0, [], { State.reset with regs := [(0xc, 0x1000#32)] }, by decide +kernel⟩,
    ⟨0, { State.reset with regs := [(0xc, 0x1000#32)] }, by decide +kernel⟩,
    ⟨1, #v[0#8, 0#8, 0#8, 0#8, 0#8, 0#8], #v[0#8, 0#8, 0#8, 0#8, 0#8, 0#8, 0#8, 0#8, 0#8, 0#8, 0#8, 0#8, 0#8, 0#8, 0#8, 0#8, 0#8, 0#8, 0#8, 0#8, 0#8, 0#8, 0#8, 0#8, 0#8, 0#8, 0#8, 0#8, 0#8, 0#8, 0#8, 0#8], [], { State.reset with regs := [(0xc, 0x2000#32), (0x200f08, 0x31#32), (0x700048, 0x3c#32)] }, by decide +kernel⟩,
    ⟨31, (packetBytes 0x40 31 0 0 0xffffffffffffffff 0 0 [0xbd#8, 8#8, 0x16#8, 0x5b#8, 0xcd#8, 2#8, 1#8, 0x29#8, 0xaa#8, 2#8, 0xab#8, 3#8, 0x12#8, 0x7b#8, 0xdc#8, 0#8]), plain_of (by decide +kernel), 0, { State.reset with hq := { State.reset.hq with linkUp := true }, regs := [(0x2007c8, 0x31#32), (0x2007cc, 0x20#32), (0x200808, 0x31#32)] }, ⟨by decide +kernel, by decide +kernel, by decide +kernel⟩, by decide +kernel⟩,
    ⟨24, (packetBytes 0x40 24 0 0 0xffffffffffffffff 1 0 [0x61#8, 0x83#8, 1#8, 0x38#8, 0#8, 0xc2#8, 3#8, 0xd3#8, 0x14#8, 0xad#8, 0x99#8, 0x94#8, 1#8, 0xfe#8, 0xbc#8, 0#8]), plain_of (by decide +kernel), 1, { State.reset with hq := { State.reset.hq with linkUp := true }, regs := [(0xc, 0x2000#32), (0x200608, 0xe031#32), (0x20060c, 2#32), (0x200b88, 0x31#32)] }, ⟨by decide +kernel, by decide +kernel, by decide +kernel⟩, by decide +kernel⟩,
    ⟨0, (packetBytes 0x40 0 0 0 0xffffffffffffffff 1 0 [0x28#8, 0x13#8, 0x31#8, 0x12#8, 0xd3#8, 0xe1#8, 3#8, 1#8, 0xd3#8, 0#8, 0#8, 0x52#8, 0x79#8, 0x5c#8, 0#8, 0x49#8]), plain_of (by decide +kernel), 1, { State.reset with hq := { State.reset.hq with linkUp := true }, time := { State.reset.time with txEnd := (State.reset.time.txEnd).set 1 (1) }, regs := [(0xc, 0x2000#32), (0x200008, 0x31#32), (0x200010, 1#32), (0x200808, 0x31#32)] }, ⟨by decide +kernel, by decide +kernel, by decide +kernel⟩, by decide +kernel⟩,
    ⟨31, (packetBytes 0x40 31 0 0 0 0 0 [2#8, 0x77#8, 2#8, 0#8, 0x40#8, 0xbc#8, 0xf7#8, 0xa1#8, 0#8, 0x59#8, 0x7c#8, 1#8, 0x9c#8, 0xb5#8, 0x54#8, 0xd8#8]), plain_of (by decide +kernel), 0, { State.reset with hq := { State.reset.hq with linkUp := true }, regs := [(0x2007c8, 0x11031#32), (0x2007cc, 1#32), (0x200c48, 0x31#32)] }, ⟨by decide +kernel, by decide +kernel, by decide +kernel⟩, by decide +kernel⟩,
    ⟨2, (packetBytes 0x40 2 0 0 0x1ce06a054 0 0 [2#8, 0xd0#8, 2#8, 0xfe#8, 2#8, 0xe1#8, 0x83#8, 1#8, 0xb1#8, 0x77#8, 0x80#8, 0x69#8, 0x7c#8, 0xd8#8, 0x38#8, 1#8]), plain_of (by decide +kernel), 0, { State.reset with hq := { State.reset.hq with linkUp := true }, regs := [(0x200088, 0x31#32), (0x200090, 1#32), (0x200808, 0x31#32)] }, ⟨by decide +kernel, by decide +kernel, by decide +kernel⟩, by decide +kernel⟩,
    ⟨0, State.reset, by decide +kernel⟩,
    ⟨0, { launch := 1, frame := [], owner := none, tag := 0, stamp := false, oneStep := false, t2 := 0 }, [], State.reset, by decide +kernel⟩,
    ⟨0, [], 0, [], { State.reset with regs := [(0xc, 0x1000#32)] }, by decide +kernel⟩,
    ⟨0, [], 1, [], { State.reset with time := { State.reset.time with ts := 36893487936065530434 }, regs := [(0x2600108, 1#32)] }, by decide +kernel⟩⟩

/-- States and operands that meet the hypotheses of each clause of `Obligations.SensorFilterDecimates`. -/
theorem test_witness_SensorFilterDecimates :
    (∃ (n : Fin 16) (s : State), (s.bit (F.SDF_CH_CTL_EN n) = false ∨ s.fld (F.SDF_GRP_CTL_MODE (n / 4)) = 0 ∨ s.sdfGone (n / 4) = true ∨ s.bit (F.PWR_CLASS_GATED 0x0D) = true)) ∧
    (∃ (n : Fin 16) (s : State), s.bit (F.SDF_CH_CTL_EN n) = true ∧ s.fld (F.SDF_GRP_CTL_MODE (n / 4)) ≠ 0 ∧ s.sdfGone (n / 4) = false ∧ s.bit (F.PWR_CLASS_GATED 0x0D) = false ∧ s.sdf.ch[n].c0 + 1 < s.fld (F.SDF_CH_CTL_M n)) ∧
    (∃ (n : Fin 16) (s : State), s.bit (F.SDF_CH_CTL_EN n) = true ∧ s.fld (F.SDF_GRP_CTL_MODE (n / 4)) ≠ 0 ∧ s.sdfGone (n / 4) = false ∧ s.bit (F.PWR_CLASS_GATED 0x0D) = false ∧ s.fld (F.SDF_CH_CTL_M n) ≤ s.sdf.ch[n].c0 + 1 ∧ 1 ≤ s.fld (F.SDF_CH_CTL_M n) ∧ s.fld (F.SDF_CH_CTL_NHB n) = 0 ∧ s.bit (F.SDF_CH_CTL_FIR_EN n) = false ∧ s.rd (R.SDF_GRP_PER (n / 4)) ≠ 0 ∧ (let k := s.fld (F.SDF_CH_CTL_K n) + 1; let m := s.fld (F.SDF_CH_CTL_M n); k * (m - 1) ≤ s.sdf.ch[n].h0.length)) ∧
    (∃ (n : Fin 16) (s : State), s.bit (F.SDF_CH_CTL_EN n) = true ∧ s.fld (F.SDF_GRP_CTL_MODE (n / 4)) ≠ 0 ∧ s.sdfGone (n / 4) = false ∧ s.bit (F.PWR_CLASS_GATED 0x0D) = false ∧ s.rd (R.SDF_GRP_PER (n / 4)) = 0) :=
  ⟨⟨0, State.reset, by decide +kernel⟩,
    ⟨15, { State.reset with regs := [(0x2700130, 1#32), (0x27013c0, 0x41#32)] }, by decide +kernel⟩,
    ⟨1, { State.reset with regs := [(0x2700100, 1#32), (0x2700104, 0x10#32), (0x2701040, 0x11#32)] }, by decide +kernel⟩,
    ⟨11, { State.reset with regs := [(0x2700120, 1#32), (0x27012c0, 0x41#32)] }, by decide +kernel⟩⟩

/-- States and operands that meet the hypotheses of each clause of `Obligations.SensorGroupsRunAndSync`. -/
theorem test_witness_SensorGroupsRunAndSync :
    (∃ (g : Fin 4) (s : State), (s.fld (F.SDF_GRP_CTL_MODE g) = 0 ∨ s.sdfGone g = true)) ∧
    (∃ (g : Fin 4) (s : State), s.fld (F.SDF_GRP_CTL_MODE g) = 0) ∧
    (∃ (g : Fin 4) (s : State), s.fld (F.SDF_GRP_CTL_MODE g) ≠ 0 ∧ s.sdfGone g = false) ∧
    (∃ (g : Fin 4) (s : State), s.fld (F.SDF_GRP_CTL_MODE g) ≠ 0) ∧
    (∃ (g : Fin 4) (s : State), s.fld (F.SDF_GRP_CTL_MODE g) ≠ 0) ∧
    (∃ (rising joined : Bool) (s : State), (s.bit F.SDF_CTL_FSYNC_EN = false ∨ rising = s.bit F.SDF_CTL_FSYNC_POL ∨ joined = true)) ∧
    (∃ (g : Fin 4) (s : State), s.sdf.sync[g] = true ∧ s.bit (F.SDF_GRP_STAT_RUN g) = true) ∧
    (∃ (g : Fin 4) (s : State), (s.sdf.sync[g] = false ∨ s.bit (F.SDF_GRP_STAT_RUN g) = false)) ∧
    (∃ (n : Fin 16) (s : State), s.has .sdi n = false) ∧
    (∃ (n : Fin 16) (val : BitVec 18) (s : State), s.has .sdi n = true ∧ s.bit (F.SDF_CH_CTL_EN n) = true ∧ s.rdN (R.SDF_CH_CTL n) / 2 ≠ val.toNat / 2) ∧
    (∃ (n : Fin 16) (val : BitVec 18) (s : State), s.has .sdi n = true ∧ s.bit (F.SDF_CH_CTL_EN n) = false ∧ (s.fld (F.SDF_GRP_CTL_MODE (n / 4)) = 0 ∨ val.toNat / 16 % 512 < 4 ∨ 256 < val.toNat / 16 % 512)) ∧
    (∃ (n : Fin 16) (val : BitVec 18) (s : State), s.has .sdi n = true ∧ s.bit (F.SDF_CH_CTL_EN n) = false ∧ s.fld (F.SDF_GRP_CTL_MODE (n / 4)) ≠ 0 ∧ 4 ≤ val.toNat / 16 % 512 ∧ val.toNat / 16 % 512 ≤ 256 ∧ val.toNat / 2 ^ 13 % 4 ≠ 3 ∧ val.toNat / 2 ^ 15 % 2 = 0 ∧ s.fld (F.SDF_CH_FIR_GD n) ≤ 126) ∧
    (∃ (n : Fin 16) (s : State), s.has .sdi n = true ∧ s.bit (F.SDF_CH_CTL_EN n) = true ∧ s.rdN (R.SDF_CH_CTL n) < 2 ^ 18 ∧ s.fld (F.SDF_CH_CTL_NHB n) ≠ 3) :=
  ⟨⟨0, State.reset, by decide +kernel⟩,
    ⟨0, State.reset, by decide +kernel⟩,
    ⟨2, { State.reset with regs := [(0x2700120, 1#32)] }, by decide +kernel⟩,
    ⟨0, { State.reset with regs := [(0x2700100, 1#32)] }, by decide +kernel⟩,
    ⟨0, { State.reset with regs := [(0x2700100, 1#32)] }, by decide +kernel⟩,
    ⟨false, false, State.reset, by decide +kernel⟩,
    ⟨0, { State.reset with sdf := { State.reset.sdf with sync := (State.reset.sdf.sync).set 0 (true) }, regs := [(0x2700108, 1#32)] }, by decide +kernel⟩,
    ⟨0, State.reset, by decide +kernel⟩,
    ⟨15, { State.reset with board := { State.reset.board with variant := .w0648 } }, by decide +kernel⟩,
    ⟨0, 0#18, { State.reset with regs := [(0x2701000, 0x41#32)] }, by decide +kernel⟩,
    ⟨0, 0#18, State.reset, by decide +kernel⟩,
    ⟨11, 0x400#18, { State.reset with regs := [(0x2700120, 1#32)] }, by decide +kernel⟩,
    ⟨15, { State.reset with regs := [(0x27013c0, 0x41#32)] }, by decide +kernel⟩⟩

/-- States and operands that meet the hypotheses of each clause of `Obligations.MemoryRequestsReadAndWrite`. -/
theorem test_witness_MemoryRequestsReadAndWrite :
    (∃ (a : BitVec 38) (who : DdrWho) (s : State), s.inDdr (a.toNat / 64 * 64) 64 = false ∧ (match who with | .port p _ => s.fld (F.DMC_RT_CFG_OWNER p) == 0 | _ => true) = true) ∧
    (∃ (a : BitVec 38) (who : DdrWho) (c : Fin 8) (s : State), let l := a.toNat / 64 * 64; s.inDdr l 64 = true ∧ (match who with | .port p _ => s.fld (F.DMC_RT_CFG_OWNER p) == 0 | _ => true) = true ∧ (ddrLoc s.nch l).1 = c) ∧
    (∃ (a : BitVec 38) (p : Fin 32) (c : Fin 8) (s : State), let l := a.toNat / 64 * 64; s.fld (F.DMC_RT_CFG_OWNER p) ≠ 0 ∧ (ddrLoc s.nch l).1 = c) ∧
    (∃ (c : Fin 8) (s : State), ∃ x, s.nextGrant c = some x) ∧
    (∃ (r : DdrReq) (ofs : Fin 64) (bs : List Byte) (s : State), s.inDdr r.addr 64 = true ∧ ofs + bs.length ≤ 64 ∧ s.poison.contains (r.addr / 64) = false) ∧
    (∃ (c : Fin 8) (r : DdrReq) (s : State), s.inDdr r.addr 64 = true ∧ (let q := (s.dmcS c).wq.any (fun e => e.1 == r.ca); (s.poison.contains (r.addr / 64) = false ∨ q = true))) ∧
    (∃ (c : Fin 8) (r : DdrReq) (s : State), s.inDdr r.addr 64 = true ∧ (s.dmcS c).wq.any (fun e => e.1 == r.ca) = false ∧ s.poison.contains (r.addr / 64) = false ∧ s.fld (F.DMC_CH_SPARE_PG_THR c) = 0) ∧
    (∃ (c : Fin 8) (r : DdrReq) (s : State), s.inDdr r.addr 64 = true ∧ (s.dmcS c).wq.any (fun e => e.1 == r.ca) = false) ∧
    (∃ (c : Fin 8) (r : DdrReq) (s : State), s.inDdr r.addr 64 = true ∧ (s.dmcS c).wq.any (fun e => e.1 == r.ca) = true) :=
  ⟨⟨0#38, .spill, State.reset, by decide +kernel⟩,
    ⟨0x42300#38, .spill, 3, { State.reset with regs := [(0x2800004, 0x80008000#32)] }, by decide +kernel⟩,
    ⟨0#38, 1, 0, { State.reset with regs := [(0x2802010, 0x1000000#32)] }, by decide +kernel⟩,
    ⟨0, { State.reset with dmc := (State.reset.dmc).set 0 ({ State.reset.dmc[0] with waiting := [{ ca := 0, addr := 0, wr := none, who := .spill, err := 0, syn := 0, seen := 0 }] }) }, _, rfl⟩,
    ⟨{ ca := 0, addr := 0, wr := none, who := .spill, err := 0, syn := 0, seen := 0 }, 0, [], { State.reset with regs := [(0x2800004, 0x80000004#32)] }, by decide +kernel⟩,
    ⟨0, { ca := 0, addr := 0, wr := none, who := .spill, err := 0, syn := 0, seen := 0 }, { State.reset with regs := [(0x2800004, 0x80000001#32)] }, by decide +kernel⟩,
    ⟨0, { ca := 0, addr := 0, wr := none, who := .spill, err := 0, syn := 0, seen := 0 }, { State.reset with regs := [(0x2800004, 0x80000001#32)] }, by decide +kernel⟩,
    ⟨0, { ca := 0, addr := 0, wr := none, who := .spill, err := 0, syn := 0, seen := 0 }, { State.reset with regs := [(0x2800004, 0x80000001#32)] }, by decide +kernel⟩,
    ⟨3, { ca := 2, addr := 0, wr := none, who := .spill, err := 0, syn := 0, seen := 0 }, { State.reset with dmc := (State.reset.dmc).set 3 ({ State.reset.dmc[3] with wq := [(2, false)] }), regs := [(0x2800004, 0x80000004#32)] }, by decide +kernel⟩⟩

/-- States and operands that meet the hypotheses of each clause of `Obligations.MemoryChannelsStartAndStay`. -/
theorem test_witness_MemoryChannelsStartAndStay :
    (∃ (n8 : Bool) (s : State), (s.bit F.DMC_CFG_DONE = true ∨ (n8 = true ∧ s.board.variant = .w0648) ∨ (List.range (if n8 then 8 else 4)).all (fun c => s.rd (R.DMC_CH_CFG c) == s.rd (R.DMC_CH_CFG 0)) = false)) ∧
    (∃ (n8 : Bool) (cfg : Word) (s0 : State), let s := (List.range 8).foldl (fun (s : State) c => s.put (R.DMC_CH_CFG c) cfg) s0; s.bit F.DMC_CFG_DONE = false ∧ (n8 = false ∨ s.board.variant ≠ .w0648)) ∧
    (∃ (c : Fin 8) (s : State), s.has .ddr c = false) ∧
    (∃ (c : Fin 8) (s : State), s.has .ddr c = true ∧ (s.timingsSet c = false ∨ s.chanServes c = true)) ∧
    (∃ (c : Fin 8) (val : Word) (s : State), s.has .ddr c = true ∧ s.timingsSet c = true ∧ s.chanServes c = false ∧ bitN val.toNat 1 = false) ∧
    (∃ (c : Fin 8) (val : Word) (s : State), s.has .ddr c = true ∧ bitN val.toNat 0 = false) ∧
    (∃ (c : Fin 8) (s : State), s.fld (F.DMC_CH_STAT_STATE c) ≠ 1) ∧
    (∃ (c : Fin 8) (s : State), s.fld (F.DMC_CH_STAT_STATE c) = 1) ∧
    (∃ (c : Fin 8) (s : State), (s.chanServes c = false ∨ s.selfRefresh = true)) ∧
    (∃ (c : Fin 8) (r : Fin 2) (s : State), s.chanServes c = true ∧ s.selfRefresh = false ∧ s.panic2 = true ∧ cntGet s.dmc[c].post r < 8) ∧
    (∃ (c : Fin 8) (s : State), s.chanServes c = true ∧ s.selfRefresh = false ∧ s.panic2 = false) ∧
    (∃ (c : Fin 8) (s : State), s.chanServes c = true ∧ s.selfRefresh = false ∧ s.fld (F.DMC_CH_CTL_PD_TIMER c) ≠ 0) ∧
    (∃ (c : Fin 8) (s : State), (s.chanServes c = false ∨ s.selfRefresh = true ∨ s.fld (F.DMC_CH_CTL_PD_TIMER c) = 0)) ∧
    (∃ (c : Fin 8) (s : State), (s.chanServes c = false ∨ s.selfRefresh = true ∨ s.fld (F.DMC_CH_SCRUB_HOURS c) = 0 ∨ s.panic2 = true)) ∧
    (∃ (c : Fin 8) (s : State), s.chanServes c = true ∧ s.selfRefresh = false ∧ s.fld (F.DMC_CH_SCRUB_HOURS c) ≠ 0 ∧ s.panic2 = false ∧ (let ca := 64 * s.dmc[c].scrub; ddrAddr s.nch c ca / 64 ∉ s.poison)) ∧
    (∃ (c : Fin 8) (s : State), s.fld (F.DMC_CH_STAT_STATE c) = 3 ∧ s.panic2 = false ∧ s.selfRefresh = false) ∧
    (∃ (c : Fin 8) (s : State), (s.fld (F.DMC_CH_STAT_STATE c) ≠ 3 ∨ s.panic2 = true ∨ s.selfRefresh = true)) :=
  ⟨⟨false, { State.reset with regs := [(0x2801300, 2#32)] }, by decide +kernel⟩,
    ⟨false, 0#32, State.reset, by decide +kernel⟩,
    ⟨7, { State.reset with board := { State.reset.board with variant := .w0648 } }, by decide +kernel⟩,
    ⟨0, State.reset, by decide +kernel⟩,
    ⟨0, 0#32, { State.reset with regs := [(0x280100c, 0x1102081#32), (0x2801010, 0x4482001#32), (0x2801014, 0x1221#32)] }, by decide +kernel⟩,
    ⟨0, 0#32, State.reset, by decide +kernel⟩,
    ⟨0, State.reset, by decide +kernel⟩,
    ⟨1, { State.reset with regs := [(0x2801108, 1#32)] }, by decide +kernel⟩,
    ⟨1, State.reset, by decide +kernel⟩,
    ⟨0, 0, { State.reset with regs := [(0x2801008, 2#32), (0x2802084, 0x2000#32)] }, by decide +kernel⟩,
    ⟨6, { State.reset with regs := [(0x2801608, 2#32)] }, by decide +kernel⟩,
    ⟨6, { State.reset with regs := [(0x2801608, 2#32)] }, by decide +kernel⟩,
    ⟨1, State.reset, by decide +kernel⟩,
    ⟨0, State.reset, by decide +kernel⟩,
    ⟨1, { State.reset with regs := [(0x2801108, 2#32)] }, by decide +kernel⟩,
    ⟨1, { State.reset with regs := [(0x2801108, 3#32)] }, by decide +kernel⟩,
    ⟨0, State.reset, by decide +kernel⟩⟩

/-- States and operands that meet the hypotheses of each clause of `Obligations.DmaTransfersStartAndEnd`. -/
theorem test_witness_DmaTransfersStartAndEnd :
    (∃ (n : Fin 32) (s : State), s.dmaStartOk n = false) ∧
    (∃ (n : Fin 32) (s : State), s.dmaStartOk n = true ∧ s.fld (F.DM_CFG_SRC_SPACE n) ≠ 1 ∧ (¬ (s.fld (F.DM_CFG_SRC_SPACE n) = 0 ∧ s.fld (F.DM_CFG_DST_SPACE n) = 1))) ∧
    (∃ (n : Fin 32) (s : State), s.bit (F.DM_STAT_BUSY n) = false) ∧
    (∃ (n : Fin 32) (s : State) (st : Nat) (l : Bool), s.bit (F.DM_STAT_BUSY n) = true ∧ s.dma[n].fin = some (st, l) ∧ s.fld (F.DM_STAT_CAUSE n) = 0) ∧
    (∃ (n : Fin 32) (host : List Byte) (s : State), s.bit (F.DM_STAT_BUSY n) = true ∧ s.dma[n].fin = none ∧ s.dma[n].sent = none ∧ s.fld (F.DM_CFG_SRC_SPACE n) ≠ 1 ∧ host.length < s.hostNeed n) ∧
    (∃ (n : Fin 32) (host : List Byte) (s : State), s.bit (F.DM_STAT_BUSY n) = true ∧ s.dma[n].fin = none ∧ s.dma[n].sent = none ∧ s.fld (F.DM_CFG_COMP n) = 0 ∧ s.fld (F.DM_CFG_SRC_SPACE n) ≠ 1 ∧ s.hostNeed n ≤ host.length ∧ s.fld (F.DM_CFG_DST_SPACE n) = 0 ∧ (let bs := s.dmaRead n host; let r := s.dmaNote n; bs.any (·.2) = false ∧ s.inDdr (s.dmaDst n) bs.length = true ∧ r.hasRoom (s.fld (F.DM_CTL_QID n)) 16 = true ∧ (lineRange (s.dmaDst n) bs.length).all (fun l => !s.poison.contains l) = true)) ∧
    (∃ (n : Fin 32) (host : List Byte) (s : State), s.bit (F.DM_STAT_BUSY n) = true ∧ s.dma[n].fin = none ∧ s.dma[n].sent = none ∧ s.fld (F.DM_CFG_COMP n) = 0 ∧ s.fld (F.DM_CFG_SRC_SPACE n) ≠ 1 ∧ s.hostNeed n ≤ host.length ∧ s.fld (F.DM_CFG_DST_SPACE n) = 2 ∧ (let bs := s.dmaRead n host; let r := s.dmaNote n; bs.any (·.2) = false ∧ bs ≠ [] ∧ r.hasRoom (s.fld (F.DM_CTL_QID n)) 16 = true)) ∧
    (∃ (n : Fin 32) (host : List Byte) (s : State), s.bit (F.DM_STAT_BUSY n) = true ∧ s.dma[n].fin = none ∧ s.dma[n].sent = none ∧ s.fld (F.DM_CFG_COMP n) = 0 ∧ s.fld (F.DM_CFG_SRC_SPACE n) ≠ 1 ∧ s.hostNeed n ≤ host.length ∧ s.fld (F.DM_CFG_DST_SPACE n) = 0 ∧ (let bs := s.dmaRead n host; let r := s.dmaNote n; bs.any (·.2) = true ∧ s.inDdr (s.dmaDst n) bs.length = true ∧ r.hasRoom (s.fld (F.DM_CTL_QID n)) 16 = true ∧ (lineRange (s.dmaDst n) bs.length).all (fun l => !s.poison.contains l) = true)) ∧
    (∃ (n : Fin 32) (host : List Byte) (acc : Word) (s : State), s.bit (F.DM_STAT_BUSY n) = true ∧ s.dma[n].fin = none ∧ s.fld (F.DM_CFG_COMP n) = 0 ∧ s.fld (F.DM_CFG_SRC_SPACE n) ≠ 1 ∧ s.hostNeed n ≤ host.length ∧ s.fld (F.DM_CFG_DST_SPACE n) = 0 ∧ (let bs := s.dmaRead n host; let r := (s.wakeBlock 0x0F).dmaNote n; acc.toNat < bs.length ∧ bs.any (·.2) = false ∧ s.inDdr (s.dmaDst n) acc.toNat = true ∧ r.hasRoom (s.fld (F.DM_CTL_QID n)) 16 = true ∧ (lineRange (s.dmaDst n) bs.length).all (fun l => !s.poison.contains l) = true)) ∧
    (∃ (n : Fin 32) (host : List Byte) (acc : Word) (s : State), s.bit (F.DM_STAT_BUSY n) = true ∧ s.dma[n].fin = none ∧ s.fld (F.DM_CFG_COMP n) = 0 ∧ s.fld (F.DM_CFG_SRC_SPACE n) ≠ 1 ∧ s.hostNeed n ≤ host.length ∧ s.fld (F.DM_CFG_DST_SPACE n) = 0 ∧ (let bs := s.dmaRead n host; let r := (s.wakeBlock 0x0F).dmaNote n; bs.length ≤ acc.toNat ∧ bs.any (·.2) = false ∧ s.inDdr (s.dmaDst n) bs.length = true ∧ r.hasRoom (s.fld (F.DM_CTL_QID n)) 16 = true ∧ (lineRange (s.dmaDst n) bs.length).all (fun l => !s.poison.contains l) = true)) ∧
    (∃ (n : Fin 32) (host : List Byte) (acc : Word) (s : State), s.bit (F.DM_STAT_BUSY n) = true ∧ s.dma[n].fin = none ∧ s.fld (F.DM_CFG_SRC_SPACE n) ≠ 1 ∧ host.length < s.hostNeed n ∧ s.fld (F.DM_CFG_DST_SPACE n) ≠ 1 ∧ (let bs := if s.fld (F.DM_CFG_COMP n) ≠ 0 then [] else host.take (min acc.toNat (s.fld (F.DM_CNT_CNT n))); s.hasRoom (s.fld (F.DM_CTL_QID n)) 16 = true ∧ (s.fld (F.DM_CFG_DST_SPACE n) = 2 ∨ s.inDdr (s.dmaDst n) bs.length = true) ∧ (lineRange (s.dmaDst n) bs.length).all (fun l => !s.poison.contains l) = true)) ∧
    (∃ (n : Fin 32) (s : State), s.bit (F.DM_STAT_BUSY n) = true ∧ s.dma[n].fin = none ∧ (let bs := if s.fld (F.DM_CFG_SRC_SPACE n) = 1 ∧ s.fld (F.DM_CFG_COMP n) = 0 then s.dma[n].got else []; s.hasRoom (s.fld (F.DM_CTL_QID n)) 16 = true ∧ s.fld (F.DM_CFG_DST_SPACE n) ≠ 2 ∧ s.inDdr (s.dmaDst n) bs.length = true ∧ bs.any (·.2) = false ∧ (lineRange (s.dmaDst n) bs.length).all (fun l => !s.poison.contains l) = true)) ∧
    (∃ (n : Fin 32) (s : State), s.bit (F.DM_STAT_BUSY n) = true ∧ s.dma[n].fin = none ∧ s.fld (F.DM_CFG_SRC_SPACE n) ≠ 1 ∧ s.fld (F.DM_CFG_DST_SPACE n) = 2 ∧ s.hasRoom (s.fld (F.DM_CTL_QID n)) 16 = true) ∧
    (∃ (n : Fin 32) (s : State), s.hostSide n = false) ∧
    (∃ (q : Fin 32) (s : State), s.offers q = false) ∧
    (∃ (q : Fin 32) (s : State), s.offers q = true ∧ s.hasRoom (s.fld (F.HQ_CFG_CQ q)) 16 = false) ∧
    (∃ (q : Fin 32) (s : State), s.offers q = true ∧ s.hasRoom (s.fld (F.HQ_CFG_CQ q)) 16 = true ∧ s.hq.slots[q] = [] ∧ s.bit (F.HQ_CFG_EN (32 + s.fld (F.HQ_CFG_CQ q))) = true) :=
  ⟨⟨30, State.reset, by decide +kernel⟩,
    ⟨2, { State.reset with regs := [(0x2800004, 0x80000004#32), (0x2a00090, 1#32)] }, by decide +kernel⟩,
    ⟨30, State.reset, by decide +kernel⟩,
    ⟨0, { State.reset with regs := [(0x2a0001c, 1#32)], dma := State.reset.dma.set 0 { DmaS.init with fin := some (0, false) } }, 0, false, by decide +kernel⟩,
    ⟨17, [2#8, 0#8, 0xc#8, 0xd#8, 0#8, 0xdf#8, 0#8, 0#8, 0#8, 0#8, 0#8, 0#8, 0x80#8, 0#8, 0xd0#8, 2#8, 0#8, 0#8, 0#8, 0#8, 1#8, 0#8, 0#8, 0#8, 0#8, 0#8, 0#8, 0#8, 0x57#8, 0x8f#8, 0x89#8, 0x7d#8], { State.reset with regs := [(0x2a00458, 0xff0020d#32), (0x2a0045c, 1#32)] }, by decide +kernel⟩,
    ⟨1, [2#8, 0#8, 0x16#8, 0#8, 0x84#8, 0xce#8, 0#8, 0#8, 0#8, 0#8, 0#8, 0#8, 0x78#8, 1#8, 0x81#8, 2#8, 0#8, 0#8, 0#8, 0#8, 1#8, 0#8, 0#8, 0#8, 0#8, 0#8, 0#8, 0#8, 0xcd#8, 0x95#8, 0x3d#8, 0x20#8], { State.reset with regs := [(0x200fc8, 0x31#32), (0x2800004, 0x80000000#32), (0x2a00054, 0x7c#32), (0x2a0005c, 1#32)] }, by decide +kernel⟩,
    ⟨25, (packetBytes 0x20 25 4 59107 0 0x3ae 1 []), { State.reset with regs := [(0x200808, 0x31#32), (0x2a00650, 1#32), (0x2a00658, 0xff00a81#32), (0x2a0065c, 1#32)] }, by decide +kernel⟩,
    ⟨20, (zeros 1), { State.reset with poison := [0], regs := [(0x200b88, 0x31#32), (0x2800004, 0x80000001#32), (0x280103c, 0x80000000#32), (0x2a00508, 0x40#32), (0x2a00510, 1#32), (0x2a00514, 0x38#32), (0x2a0051c, 1#32)] }, by decide +kernel⟩,
    ⟨5, [3#8, 0#8, 5#8, 4#8, 0x59#8, 0xf0#8, 2#8, 0#8, 0#8, 0#8, 0#8, 0#8, 4#8, 1#8, 0xa0#8, 2#8, 0#8, 0#8, 0#8, 0#8, 0x85#8, 0x9c#8, 0x52#8, 0x23#8, 3#8, 0#8, 0#8, 0#8, 0xe9#8, 0x97#8, 0x80#8, 0x9d#8], 0#32, { State.reset with regs := [(0x200808, 0x31#32), (0x2800004, 0x80000000#32), (0x2a00150, 4#32), (0x2a0015c, 1#32)] }, by decide +kernel⟩,
    ⟨8, (packetBytes 1 8 0 28620 0x2a00248 0 0 [0xcc#8, 0xb9#8, 3#8, 2#8]), 1#32, { State.reset with regs := [(0x200808, 0x31#32), (0x2800004, 0x80000000#32), (0x2a0021c, 1#32)] }, by decide +kernel⟩,
    ⟨10, (packetBytes 0x897f 10 0 51234 0 0 0 []), 0#32, { State.reset with regs := [(0x200808, 0x31#32), (0x2a00298, 0xff00a0d#32), (0x2a0029c, 1#32)] }, by decide +kernel⟩,
    ⟨0, { State.reset with regs := [(0x200808, 0x31#32), (0x2800004, 0x80000000#32), (0x2a0001c, 1#32)] }, by decide +kernel⟩,
    ⟨2, { State.reset with regs := [(0x200d88, 0x31#32), (0x2a00094, 0x58#32), (0x2a00098, 0xff00881#32), (0x2a0009c, 1#32)] }, by decide +kernel⟩,
    ⟨0, State.reset, by decide +kernel⟩,
    ⟨0, State.reset, by decide +kernel⟩,
    ⟨0, { State.reset with hq := { State.reset.hq with linkUp := true }, regs := [(0x200008, 0x31#32), (0x20000c, 1#32)] }, by decide +kernel⟩,
    ⟨0, { State.reset with hq := { State.reset.hq with linkUp := true }, regs := [(0x200008, 0x31#32), (0x20000c, 1#32), (0x200808, 0x31#32)] }, by decide +kernel⟩⟩

/-- States and operands that meet the hypotheses of each clause of `Obligations.HostLinkComesAndGoes`. -/
theorem test_witness_HostLinkComesAndGoes :
    (∃ (speed : Fin 6) (width : Fin 17) (s : State), (s.boot.training = false ∨ speed = 0 ∨ width.val ∉ [1, 2, 4, 8, 16] ∨ (width = 16 ∧ s.board.variant = .w0648))) ∧
    (∃ (speed : Fin 6) (k : Fin 5) (space : PcieCfg) (s : State), (space.msixEn = false ∨ space.msixMask = true ∨ (s.rd (R.MSIX_PBA 0) = 0 ∧ s.rd (R.MSIX_PBA 1) = 0)) ∧ s.boot.training = true ∧ speed ≠ 0 ∧ (k.val < 4 ∨ s.board.variant = .w1296)) ∧
    (∃ (q : Fin 32) (head : BitVec 26) (s : State), s.ringSize (32 + q) ≤ head.toNat / 16 * 16) ∧
    (∃ (q : Fin 32) (head : BitVec 26) (s0 : State), let s : State := { s0 with dma := s0.dma.map (fun d => { d with fin := none }), seg := { s0.seg with spill := [], dropped := [] } }; head.toNat / 16 * 16 < s.ringSize (32 + q)) :=
  ⟨⟨0, 0, State.reset, by decide +kernel⟩,
    ⟨1, 0, { bar0 := 0#64, msixEn := false, msixMask := false, payload := 0, readReq := 0, tag10 := false, aspmL1 := false, aer := false }, { State.reset with boot := { State.reset.boot with training := true } }, by decide +kernel⟩,
    ⟨0, 0x200000#26, State.reset, by decide +kernel⟩,
    ⟨0, 0#26, State.reset, by decide +kernel⟩⟩

/-- States and operands that meet the hypotheses of each clause of `Obligations.TwoWireControllers`. -/
theorem test_witness_TwoWireControllers :
    (∃ (n : Fin 4) (val : Word) (s : State), (s.bit (F.TW_STAT_BUSY n) = true ∧ (s.tw[n].clear = false ∨ s.tw[n].op ≠ 0) ∨ 32 < fieldN val.toNat 8 6 ∨ 32 < fieldN val.toNat 16 6 ∨ s.bit (F.TW_CTL_EN n) = false)) ∧
    (∃ (n : Fin 4) (val : Word) (s : State), (s.bit (F.TW_STAT_BUSY n) = false ∨ s.tw[n].clear = true ∧ s.tw[n].op = 0) ∧ fieldN val.toNat 8 6 ≤ 32 ∧ fieldN val.toNat 16 6 ≤ 32 ∧ s.bit (F.TW_CTL_EN n) = true) ∧
    (∃ (n : Fin 4) (s : State), (s.tw[n].op ≠ 1 ∨ s.tw[n].clear = true ∨ s.bit (F.TW_STAT_STUCK_SDA n) = true)) ∧
    (∃ (n : Fin 4) (s : State), s.tw[n].op = 1 ∧ s.tw[n].clear = false ∧ s.bit (F.TW_STAT_STUCK_SDA n) = false ∧ s.fld (F.TW_XFER_RLEN n) = 0 ∧ s.bit (F.TW_XFER_BLOCK n) = false) ∧
    (∃ (n : Fin 4) (s : State), s.tw[n].op = 1 ∧ s.tw[n].clear = false ∧ s.bit (F.TW_STAT_STUCK_SDA n) = false ∧ s.fld (F.TW_XFER_WLEN n) = 0 ∧ s.bit (F.TW_XFER_BLOCK n) = false ∧ s.bit (F.TW_XFER_PEC n) = false ∧ s.bit (F.TW_XFER_NOSTOP n) = false ∧ (let k := s.fld (F.TW_XFER_RLEN n); k ≠ 0 ∧ k ≤ 32)) ∧
    (∃ (n : Fin 4) (c : Byte) (s : State), s.tw[n].op = 1 ∧ s.tw[n].clear = false ∧ s.bit (F.TW_STAT_STUCK_SDA n) = false ∧ s.fld (F.TW_XFER_WLEN n) = 0 ∧ s.bit (F.TW_XFER_BLOCK n) = true ∧ s.bit (F.TW_XFER_NOSTOP n) = false ∧ (c = 0 ∨ 31 < c.toNat)) ∧
    (∃ (n : Fin 4) (begun : Bool) (s : State), (s.tw[n].op = 0 ∨ begun = true)) ∧
    (∃ (n : Fin 4) (s : State), s.tw[n].op ≠ 0) ∧
    (∃ (n : Fin 4) (s : State), (s.tw[n].clear = true ∨ s.bit (F.TW_STAT_STUCK_SDA n) = true)) ∧
    (∃ (n : Fin 4) (s : State), s.tw[n].after = false) ∧
    (∃ (n : Fin 4) (s : State), s.tw[n].clear = false ∧ s.bit (F.TW_STAT_STUCK_SDA n) = false) ∧
    (∃ (n : Fin 4) (s : State), s.tw[n].clear = false) ∧
    (∃ (n : Fin 4) (s : State), s.tw[n].clear = true) ∧
    (∃ (n : Fin 4) (s : State), s.tw[n].clear = true) ∧
    (∃ (n : Fin 4) (began : Bool) (s : State), s.bit (F.TW_CTL_MC n) = true ∧ (s.tw[n].op = 0 ∨ began = false) ∧ s.tw[n].held = false) ∧
    (∃ (n : Fin 4) (began : Bool) (s : State), s.tw[n].clear = false ∧ s.bit (F.TW_STAT_STUCK_SDA n) = false ∧ (s.bit (F.TW_CTL_MC n) = false ∨ (s.tw[n].op ≠ 0 ∧ began = true) ∨ s.tw[n].held = true)) ∧
    (∃ (n : Fin 4) (s : State), s.tw[n].op = 0) ∧
    (∃ (n : Fin 4) (addr : BitVec 7) (s : State), (s.tw[n].op = 1 ∨ (s.tw[n].op = 2 ∧ 8 ≤ s.tw[n].losses)) ∧ (n ≠ 3 ∨ s.bit F.TW3_TGT_CFG_TGT_EN = false ∨ addr.toNat ≠ s.fld F.TW3_TGT_CFG_TGT_ADDR)) ∧
    (∃ (n : Fin 4) (addr : BitVec 7) (s : State), s.tw[n].op = 2 ∧ s.tw[n].losses < 8 ∧ (n ≠ 3 ∨ s.bit F.TW3_TGT_CFG_TGT_EN = false ∨ addr.toNat ≠ s.fld F.TW3_TGT_CFG_TGT_ADDR)) :=
  ⟨⟨1, 0#32, { State.reset with regs := [(0x2c00108, 0x801#32)] }, by decide +kernel⟩,
    ⟨1, 0#32, State.reset, by decide +kernel⟩,
    ⟨0, State.reset, by decide +kernel⟩,
    ⟨2, { State.reset with tw := (State.reset.tw).set 2 ({ State.reset.tw[2] with op := 1 }) }, by decide +kernel⟩,
    ⟨2, { State.reset with tw := (State.reset.tw).set 2 ({ State.reset.tw[2] with op := 1 }), regs := [(0x2c00204, 0x80000#32)] }, by decide +kernel⟩,
    ⟨1, 0#8, { State.reset with tw := (State.reset.tw).set 1 ({ State.reset.tw[1] with op := 1 }), regs := [(0x2c00104, 0x4000000#32)] }, by decide +kernel⟩,
    ⟨0, false, State.reset, by decide +kernel⟩,
    ⟨2, { State.reset with tw := (State.reset.tw).set 2 ({ State.reset.tw[2] with op := 1 }) }, by decide +kernel⟩,
    ⟨2, { State.reset with tw := (State.reset.tw).set 2 ({ State.reset.tw[2] with clear := true }) }, by decide +kernel⟩,
    ⟨0, State.reset, by decide +kernel⟩,
    ⟨0, State.reset, by decide +kernel⟩,
    ⟨0, State.reset, by decide +kernel⟩,
    ⟨2, { State.reset with tw := (State.reset.tw).set 2 ({ State.reset.tw[2] with clear := true }) }, by decide +kernel⟩,
    ⟨2, { State.reset with tw := (State.reset.tw).set 2 ({ State.reset.tw[2] with clear := true }) }, by decide +kernel⟩,
    ⟨2, false, { State.reset with regs := [(0x2c00200, 9#32)] }, by decide +kernel⟩,
    ⟨0, false, State.reset, by decide +kernel⟩,
    ⟨0, State.reset, by decide +kernel⟩,
    ⟨2, 0#7, { State.reset with tw := (State.reset.tw).set 2 ({ State.reset.tw[2] with op := 1 }) }, by decide +kernel⟩,
    ⟨0, 0#7, { State.reset with tw := (State.reset.tw).set 0 ({ State.reset.tw[0] with op := 2 }) }, by decide +kernel⟩⟩

/-- States and operands that meet the hypotheses of each clause of `Obligations.TwoWireTarget`. -/
theorem test_witness_TwoWireTarget :
    (∃ (addr : BitVec 7) (s : State), (s.bit F.TW3_TGT_CFG_TGT_EN = false ∨ addr.toNat ≠ s.fld F.TW3_TGT_CFG_TGT_ADDR ∨ s.tw[3].tgt.isSome = true ∨ s.bit (F.TW_STAT_STUCK_SDA 3) = true)) ∧
    (∃ (s : State), s.bit F.TW3_TGT_CFG_TGT_EN = true ∧ s.tw[3].tgt = none ∧ s.bit (F.TW_STAT_STUCK_SDA 3) = false) ∧
    (∃ (s : State), s.bit F.TW3_TGT_CFG_TGT_EN = true ∧ s.tw[3].tgt = none ∧ s.bit (F.TW_STAT_STUCK_SDA 3) = false) ∧
    (∃ (s : State), s.tw[3].tgt = none) ∧
    (∃ (s : State), s.tw[3].op = 1 ∧ s.bit (F.TW_CTL_MC 3) = true ∧ s.bit F.TW3_TGT_CFG_TGT_EN = true ∧ s.tw[3].tgt = none) ∧
    (∃ (s : State), (s.tw[3].op ≠ 2 ∨ s.tw[3].clear = true ∨ s.bit (F.TW_STAT_STUCK_SDA 3) = true)) ∧
    (∃ (s : State), s.tw[3].op = 2 ∧ s.tw[3].clear = false ∧ s.bit (F.TW_STAT_STUCK_SDA 3) = false) :=
  ⟨⟨0#7, State.reset, by decide +kernel⟩,
    ⟨{ State.reset with regs := [(0x2c01000, 0x8800#32)] }, by decide +kernel⟩,
    ⟨{ State.reset with regs := [(0x2c01000, 0x8800#32)] }, by decide +kernel⟩,
    ⟨State.reset, by decide +kernel⟩,
    ⟨{ State.reset with tw := (State.reset.tw).set 3 ({ State.reset.tw[3] with op := 1 }), regs := [(0x2c00300, 9#32), (0x2c01000, 0x8800#32)] }, by decide +kernel⟩,
    ⟨State.reset, by decide +kernel⟩,
    ⟨{ State.reset with tw := (State.reset.tw).set 3 ({ State.reset.tw[3] with op := 2 }) }, by decide +kernel⟩⟩

/-- States and operands that meet the hypotheses of each clause of `Obligations.PowerStatesAreEntered`. -/
theorem test_witness_PowerStatesAreEntered :
    (∃ (s : State), s.bit F.PWR_STAT_BUSY = false ∧ s.pwr.hold ≤ s.evtNow ∧ s.fld F.PWR_STAT_STATE = 0) ∧
    (∃ (s : State), s.bit F.PWR_STAT_BUSY = false ∧ s.pwr.hold ≤ s.evtNow ∧ s.fld F.PWR_STAT_STATE = 1) ∧
    (∃ (s : State), (s.bit F.PWR_STAT_BUSY = false ∧ s.pwr.hold ≤ s.evtNow ∧ s.fld F.PWR_STAT_STATE < 2 ∧ s.bit F.CFG_STAT_PIPE_STOPPED = true ∧ s.bit F.PWR_RESTORE_HI_EN = true ∧ s.board.variant = .w1296) ∧ ∃ b : Nat, s.gateables.find? (fun b => !s.blockIdle b) = some b) ∧
    (∃ (s : State), s.bit F.PWR_STAT_BUSY = false ∧ s.pwr.hold ≤ s.evtNow ∧ s.fld F.PWR_STAT_STATE < 2 ∧ s.bit F.CFG_STAT_PIPE_STOPPED = true ∧ s.bit F.PWR_RESTORE_HI_EN = true ∧ s.board.variant = .w1296 ∧ s.gateables.all s.blockIdle = true) ∧
    (∃ (s : State), s.bit F.PWR_STAT_BUSY = false ∧ s.pwr.hold ≤ s.evtNow ∧ s.fld F.PWR_STAT_STATE < 2 ∧ s.bit F.CFG_STAT_PIPE_STOPPED = true ∧ s.bit F.PWR_RESTORE_HI_EN = true ∧ s.board.variant = .w0648) ∧
    (∃ (s : State), s.bit F.PWR_STAT_BUSY = false ∧ s.pwr.hold ≤ s.evtNow ∧ s.fld F.PWR_STAT_STATE = 2) ∧
    (∃ (s : State), (s.pwr.asking = false ∨ s.pwr.retry = true)) ∧
    (∃ (s : State), s.pwr.asking = true ∧ s.pwr.retry = false ∧ s.pwr.delays < 16 ∧ s.toAsk ≠ []) ∧
    (∃ (s : State), s.pwr.asking = true ∧ s.pwr.retry = false ∧ ∃ (b : Nat), s.toAsk.head? = some b ∧ s.toAsk.length ≠ 1) ∧
    (∃ (s : State), (s.pwr.asking = true ∧ s.pwr.retry = false ∧ s.pwr.held = []) ∧ ∃ (b : Nat), s.toAsk.head? = some b ∧ s.toAsk.length = 1) ∧
    (∃ (a : Fin 3) (x : Nat) (s0 : State), let s : State := { s0 with pwr := { s0.pwr with stopped := x :: s0.pwr.stopped } }; s.pwr.asking = true ∧ s.pwr.retry = false ∧ ∃ (b : Nat), s.toAsk.head? = some b ∧ (a = 2 ∨ (a = 1 ∧ 16 ≤ s.pwr.delays))) ∧
    (∃ (s0 : State), let s : State := { s0 with pwr := { s0.pwr with stopped := [], held := [] } }; s.pwr.asking = true ∧ s.pwr.retry = false ∧ ∃ (b : Nat), s.toAsk.head? = some b) ∧
    (∃ (b : Fin 32) (rest : List Nat) (s0 : State), let s : State := { s0 with pwr := { s0.pwr with rolling := true, stopped := b :: rest } }; rest ≠ []) ∧
    (∃ (b : Fin 32) (s : State), s.pwr.rolling = true ∧ s.pwr.stopped.head? ≠ some b.val) ∧
    (∃ (s : State), s.pwr.rolling = false) ∧
    (∃ (s : State), s.bit F.PWR_STAT_WAKING = false) ∧
    (∃ (s : State), s.bit F.PWR_STAT_WAKING = true ∧ ∃ (b : Nat), s.wakeTable.head? = some b) :=
  ⟨⟨State.reset, by decide +kernel⟩,
    ⟨{ State.reset with regs := [(0x2d00004, 1#32)] }, by decide +kernel⟩,
    ⟨{ State.reset with regs := [(0x2b000d0, 4#32), (0x2d00014, 0x80000000#32)] }, by decide +kernel, _, rfl⟩,
    ⟨{ State.reset with regs := [(0x2d00014, 0x80000000#32)] }, by decide +kernel⟩,
    ⟨{ State.reset with board := { State.reset.board with variant := .w0648 }, regs := [(0x2d00014, 0x80000000#32)] }, by decide +kernel⟩,
    ⟨{ State.reset with regs := [(0x2d00004, 2#32)] }, by decide +kernel⟩,
    ⟨State.reset, by decide +kernel⟩,
    ⟨{ State.reset with pwr := { State.reset.pwr with asking := true } }, by decide +kernel⟩,
    ⟨{ State.reset with pwr := { State.reset.pwr with asking := true } }, by decide +kernel, by decide +kernel, _, rfl, by decide +kernel⟩,
    ⟨{ State.reset with pwr := { State.reset.pwr with asking := true, stopped := [6, 7, 8, 13, 15, 16, 21, 24, 25, 26, 27, 28, 29, 30] } }, by decide +kernel, _, rfl, by decide +kernel⟩,
    ⟨1, 0, { State.reset with pwr := { State.reset.pwr with asking := true, delays := 16 } }, by decide +kernel, by decide +kernel, _, rfl, by decide +kernel⟩,
    ⟨{ State.reset with pwr := { State.reset.pwr with asking := true } }, by decide +kernel, by decide +kernel, _, rfl⟩,
    ⟨0, [0], State.reset, by decide +kernel⟩,
    ⟨0, { State.reset with pwr := { State.reset.pwr with rolling := true } }, by decide +kernel⟩,
    ⟨State.reset, by decide +kernel⟩,
    ⟨State.reset, by decide +kernel⟩,
    ⟨{ State.reset with regs := [(0x2d00004, 8#32), (0x2d00048, 6#32)] }, by decide +kernel, _, rfl⟩⟩

/-- States and operands that meet the hypotheses of each clause of `Obligations.OperatingPointsFollowVoltages`. -/
theorem test_witness_OperatingPointsFollowVoltages :
    (∃ (d : Fin 4) (s : State), s.has .die d = false) ∧
    (∃ (d : Fin 4) (s : State), s.has .die d = true ∧ s.bit F.PWR_STAT_BUSY = true) ∧
    (∃ (d : Fin 4) (s : State), s.has .die d = true ∧ s.bit F.PWR_STAT_BUSY = false ∧ ∃ (m : Move), s.moveOf d = some m) ∧
    (∃ (d : Fin 4) (x : BitVec 3) (s : State), s.has .die d = true ∧ s.bit F.PWR_STAT_BUSY = false ∧ s.moveOf d = none ∧ (let t := min (max x.toNat (s.fld (F.PWR_DVFS_FLOOR d))) (s.fld (F.PWR_DVFS_OP_MAX d)); (s.pwr.powered.contains d.val = false ∨ t = s.fld (F.PWR_DVFS_CUR d)))) ∧
    (∃ (d : Fin 4) (x : BitVec 3) (s : State), s.has .die d = true ∧ s.bit F.PWR_STAT_BUSY = false ∧ s.moveOf d = none ∧ s.pwr.powered.contains d.val = true ∧ (let t := min (max x.toNat (s.fld (F.PWR_DVFS_FLOOR d))) (s.fld (F.PWR_DVFS_OP_MAX d)); (t < s.fld (F.PWR_DVFS_CUR d) ∨ (t ≠ s.fld (F.PWR_DVFS_CUR d) ∧ s.bit (F.TW0_PMB_EN d) = false)))) ∧
    (∃ (d : Fin 4) (x : BitVec 3) (s : State), s.has .die d = true ∧ s.bit F.PWR_STAT_BUSY = false ∧ s.moveOf d = none ∧ s.pwr.powered.contains d.val = true ∧ (let t := min (max x.toNat (s.fld (F.PWR_DVFS_FLOOR d))) (s.fld (F.PWR_DVFS_OP_MAX d)); s.fld (F.PWR_DVFS_CUR d) < t ∧ s.bit (F.TW0_PMB_EN d) = true ∧ s.pwr.volts = [] ∧ s.pmbFree = true ∧ s.fld (F.TW0_PMB_PAGE d) = 0xFF ∧ s.bit (F.TW0_PMB_PEC d) = false)) ∧
    (∃ (d : Fin 4) (s : State), (∀ m : Move, s.moveOf d = some m → m.phase ≠ 1)) ∧
    (∃ (d : Fin 4) (s : State), ∃ m : Move, s.moveOf d = some m ∧ m.phase = 1 ∧ m.goal < s.fld (F.PWR_DVFS_CUR d) ∧ s.bit (F.TW0_PMB_EN d) = true ∧ s.pwr.volts ≠ []) ∧
    (∃ (d : Fin 4) (s : State), ∃ m : Move, s.moveOf d = some m ∧ m.phase = 1 ∧ m.goal = s.dvfsGoal d ∧ s.fld (F.PWR_DVFS_FLOOR d) ≤ m.goal ∧ (∀ n : Fin 8, s.bit ⟨R.TOP_READY, 24 + n, 1⟩ = true → s.vgUp n = true) ∧ s.pwr.powered.contains d.val = true ∧ (s.fld (F.PWR_DVFS_CUR d) ≤ m.goal ∨ s.bit (F.TW0_PMB_EN d) = false)) ∧
    (∃ (s : State), s.pwr.volts = []) ∧
    (∃ (ok : Bool) (s : State), (s.pwr.wrote = false ∨ s.pmbFree = false ∨ (s.pwr.inRange = false ∧ ok = true))) ∧
    (∃ (d mv : Nat) (rest : List (Nat × Nat)) (s0 : State), let s : State := { s0 with pwr := { s0.pwr with volts := (d, mv) :: rest } }; (s.pmbFree = false ∨ s.pwr.inRange = true)) ∧
    (∃ (d mv : Nat) (rest : List (Nat × Nat)) (s0 : State), let s : State := { s0 with pwr := { s0.pwr with volts := (d, mv) :: rest, inRange := false, wrote := true } }; s.pmbFree = true) ∧
    (∃ (x : BitVec 16) (d : Fin 4) (m : Move) (s0 : State), let s : State := { s0 with pwr := { s0.pwr with leaving := none, inRange := true, wrote := true, volts := [(d.val, opMv m.goal)], moves := [{ m with die := d, phase := 0 }] } }; s.pmbFree = true ∧ fieldN x.toNat 1 6 = 0) ∧
    (∃ (g : Bool) (d : Fin 4) (m : Move) (s0 : State), let s : State := { s0 with pwr := { s0.pwr with leaving := none, inRange := g, wrote := true, volts := [(d.val, opMv m.goal)], moves := [{ m with die := d, phase := 0 }] } }; let failed := fun (v : State) => v.bit F.TW0_PMB_STAT_FAIL = true ∧ v.bit F.PWR_STAT_DVFS_FAIL = true ∧ v.rd (R.PWR_DVFS d) = s.rd (R.PWR_DVFS d) ∧ v.pwr.volts = [(d.val, opMv (s.fld (F.PWR_DVFS_CUR d)))] ∧ v.pwr.moves = [{ m with die := d, phase := 3 }] ∧ FrameMem s v s.spillByte ∧ FrameRegs s v (fun off => off == R.PWR_STAT || off == R.TW0_PMB_STAT || inBlocks [.hostq, .seg, .time] off); s.pmbFree = true) ∧
    (∃ (d : Fin 4) (s : State), (s.pwr.powered.contains d.val = true ∨ s.fld F.PWR_STAT_STATE = 2)) ∧
    (∃ (d : Fin 4) (s : State), s.has .die d = true ∧ s.pwr.powered.contains d.val = false ∧ s.fld F.PWR_STAT_STATE ≠ 2 ∧ s.bit (F.TW0_PMB_EN d) = false ∧ s.moveOf d = none ∧ (∀ n : Fin 8, s.bit ⟨R.TOP_READY, 24 + n, 1⟩ = true → s.vgUp n = true)) ∧
    (∃ (d : Fin 4) (s : State), s.has .die d = true ∧ s.pwr.powered.contains d.val = false ∧ s.fld F.PWR_STAT_STATE ≠ 2 ∧ s.bit (F.TW0_PMB_EN d) = true ∧ s.pwr.volts ≠ []) ∧
    (∃ (d : Fin 4) (s : State), (s.pwr.dies.head? ≠ some d.val ∨ s.pwr.leaving = none ∨ s.pwr.volts.any (fun v => v.1 == d.val) = true)) :=
  ⟨⟨2, { State.reset with board := { State.reset.board with variant := .w0648 } }, by decide +kernel⟩,
    ⟨0, { State.reset with regs := [(0x2d00004, 4#32)] }, by decide +kernel⟩,
    ⟨3, { State.reset with pwr := { State.reset.pwr with moves := [{ die := 3, goal := 0, phase := 0, again := false }] } }, by decide +kernel, by decide +kernel, _, rfl⟩,
    ⟨0, 0#3, State.reset, by decide +kernel⟩,
    ⟨0, 1#3, { State.reset with pwr := { State.reset.pwr with powered := [0] } }, by decide +kernel⟩,
    ⟨2, 0#3, { State.reset with pwr := { State.reset.pwr with powered := [2] }, regs := [(0x2c02008, 0x8000ff00#32), (0x2d00220, 0x7407#32)] }, by decide +kernel⟩,
    ⟨0, State.reset, by decide +kernel⟩,
    ⟨1, { State.reset with pwr := { State.reset.pwr with moves := [{ die := 1, goal := 0, phase := 1, again := false }], volts := [(0, 0)] }, regs := [(0x2c02004, 0x8000ff00#32), (0x2d00210, 0x7017#32)] }, _, rfl, by decide +kernel⟩,
    ⟨3, { State.reset with pwr := { State.reset.pwr with powered := [3], moves := [{ die := 3, goal := 7, phase := 1, again := false }] } }, _, rfl, by decide +kernel⟩,
    ⟨State.reset, by decide +kernel⟩,
    ⟨false, State.reset, by decide +kernel⟩,
    ⟨0, 0, [], { State.reset with pwr := { State.reset.pwr with inRange := true } }, by decide +kernel⟩,
    ⟨0, 0, [], State.reset, by decide +kernel⟩,
    ⟨0#16, 0, { die := 0, goal := 0, phase := 0, again := false }, State.reset, by decide +kernel⟩,
    ⟨false, 0, { die := 0, goal := 0, phase := 0, again := false }, State.reset, by decide +kernel⟩,
    ⟨0, { State.reset with pwr := { State.reset.pwr with powered := [0] } }, by decide +kernel⟩,
    ⟨0, State.reset, by decide +kernel⟩,
    ⟨1, { State.reset with pwr := { State.reset.pwr with volts := [(0, 0)] }, regs := [(0x2c02004, 0x8000ff00#32)] }, by decide +kernel⟩,
    ⟨0, State.reset, by decide +kernel⟩⟩

/-- States and operands that meet the hypotheses of each clause of `Obligations.CalibrationKeepsGoodValues`. -/
theorem test_witness_CalibrationKeepsGoodValues :
    (∃ (k : Fin 20) (s : State), s.has .sensor k = false) ∧
    (∃ (k : Fin 20) (s : State), s.has .sensor k = true ∧ s.diePowered (k / 4) = false) ∧
    (∃ (k : Fin 20) (raw : BitVec 16) (s : State), s.has .sensor k = true ∧ s.diePowered (k / 4) = true ∧ (let t := raw + BitVec.ofInt 16 (s.sfld (F.CAL_SOFS_VALUE k)); s.bit F.FLT_CTL_HOT_FATAL = false ∧ (s.bit F.CAL_CTL_EN = false ∨ (s.bit (F.CAL_REF_VALID k) = true ∧ (t.toInt - s.sfld (F.CAL_REF_TEMP k)).natAbs ≤ s.fld F.CAL_CTL_DT)) ∧ s.bit F.PWR_STAT_BUSY = false)) ∧
    (∃ (k : Fin 20) (raw : BitVec 16) (s0 : State), let s : State := { s0 with cal := { s0.cal with runs := [] } }; k.val < 16 ∧ s.has .sensor k = true ∧ s.diePowered (k / 4) = true ∧ (let t := raw + BitVec.ofInt 16 (s.sfld (F.CAL_SOFS_VALUE k)); t.toInt ≤ 1680 ∧ s.bit F.CAL_CTL_EN = true ∧ s.bit F.PWR_STAT_BUSY = false ∧ (s.bit (F.CAL_REF_VALID k) = false ∨ s.fld F.CAL_CTL_DT < (t.toInt - s.sfld (F.CAL_REF_TEMP k)).natAbs))) ∧
    (∃ (s : State), s.bit F.CAL_CTL_EN = false ∧ s.bit F.PWR_STAT_BUSY = false) ∧
    (∃ (s0 : State), let s : State := { s0 with pwr := { s0.pwr with powered := [] }, cal := { s0.cal with runs := [] } }; s.bit F.CAL_CTL_EN = true ∧ s.bit F.PWR_STAT_BUSY = false) ∧
    (∃ (d : Fin 5) (s : State), (∀ x : Nat × Nat, s.cal.runs.head? = some x → x.1 ≠ d.val)) ∧
    (∃ (d : Fin 5) (k : Nat) (s0 : State), let s : State := { s0 with cal := { s0.cal with runs := [(d.val, k)] } }; s.fld F.CAL_CTL_ITEM_EN = 0) ∧
    (∃ (d : Fin 5) (k : Nat) (s0 : State), let s : State := { s0 with cal := { s0.cal with runs := [(d.val, k)] } }; s.fld F.CAL_CTL_ITEM_EN = 4) ∧
    (∃ (d : Fin 5) (k : Nat) (trim : BitVec 8) (s0 : State), let s : State := { s0 with cal := { s0.cal with runs := [(d.val, k)] } }; s.fld F.CAL_CTL_ITEM_EN = 4 ∧ s.sfld (F.CAL_BND_LO 2) ≤ trim.toInt ∧ trim.toInt ≤ s.sfld (F.CAL_BND_HI 2) ∧ (trim.toInt - s.sfld (F.CAL_TRIM_VALUE d)).natAbs ≤ s.fld (F.CAL_STEP_STEP 2)) :=
  ⟨⟨8, { State.reset with board := { State.reset.board with variant := .w0648 } }, by decide +kernel⟩,
    ⟨0, State.reset, by decide +kernel⟩,
    ⟨16, 0#16, { State.reset with regs := [(0x2e00000, 0xf4000#32)] }, by decide +kernel⟩,
    ⟨0, 0#16, { State.reset with pwr := { State.reset.pwr with powered := [0] } }, by decide +kernel⟩,
    ⟨{ State.reset with regs := [(0x2e00000, 0xf4000#32)] }, by decide +kernel⟩,
    ⟨State.reset, by decide +kernel⟩,
    ⟨0, State.reset, by decide +kernel⟩,
    ⟨0, 0, { State.reset with regs := [(0x2e00000, 0x4001#32)] }, by decide +kernel⟩,
    ⟨0, 0, { State.reset with regs := [(0x2e00000, 0x44001#32)] }, by decide +kernel⟩,
    ⟨0, 0, 0#8, { State.reset with regs := [(0x2e00000, 0x44001#32)] }, by decide +kernel⟩⟩

/-- States and operands that meet the hypotheses of each clause of `Obligations.PairsBeatClaimAndDemote`. -/
theorem test_witness_PairsBeatClaimAndDemote :
    (∃ (s : State), (s.bit F.FLT_PAIR_CFG_PAIR_EN = false ∨ s.bit F.FLT_STAT_FATAL = true)) ∧
    (∃ (s : State), s.bit F.FLT_PAIR_CFG_PAIR_EN = true ∧ s.bit F.FLT_STAT_FATAL = false) ∧
    (∃ (s : State), s.bit F.FLT_PAIR_CFG_PAIR_EN = false) ∧
    (∃ (p : Fin 4) (s : State), s.bit F.FLT_PAIR_CFG_PAIR_EN = false ∧ p.val = s.fld F.FLT_PAIR_CFG_PORT ∧ (s.npS p).wait = []) ∧
    (∃ (s : State), s.bit F.FLT_PAIR_CFG_PAIR_EN = true) ∧
    (∃ (fl seq : Byte) (id : Vector Byte 4) (job : Vector Byte 2) (s : State), s.bit F.FLT_PAIR_CFG_PAIR_EN = true ∧ bitN fl.toNat 2 = false ∧ (s.flt.resync.phase = 0 ∨ (∀ q, s.flt.peerSeq = some q → seq.toNat = (q + 1) % 256)) ∧ (s.primary = true ∨ (bitN fl.toNat 0 = false ∧ leVal id.toList = s.rdN R.CFG_STRUCT_ID ∧ leVal job.toList = s.jobId s.runBank))) ∧
    (∃ (fl : Byte) (id : Vector Byte 4) (job : Vector Byte 2) (s : State), s.bit F.FLT_PAIR_CFG_PAIR_EN = true ∧ bitN fl.toNat 0 = false ∧ s.primary = false ∧ s.flt.resync.phase = 0 ∧ s.fld F.FLT_PAIR_STAT_SYNC ≠ 1 ∧ (leVal id.toList ≠ s.rdN R.CFG_STRUCT_ID ∨ leVal job.toList ≠ s.jobId s.runBank)) ∧
    (∃ (fl seq : Byte) (id : Vector Byte 4) (job : Vector Byte 2) (q : Nat) (s : State), s.bit F.FLT_PAIR_CFG_PAIR_EN = true ∧ bitN fl.toNat 0 = false ∧ s.primary = false ∧ s.flt.resync.phase ≠ 0 ∧ s.bit F.CFG_CTL_RUN = false ∧ s.flt.peerSeq = some q ∧ seq.toNat ≠ (q + 1) % 256 ∧ leVal id.toList = s.rdN R.CFG_STRUCT_ID ∧ leVal job.toList = s.jobId s.runBank) ∧
    (∃ (s : State), (s.bit F.FLT_PAIR_CFG_PAIR_EN = false ∨ s.fld F.FLT_PAIR_STAT_MISSED = 5)) ∧
    (∃ (s : State), s.bit F.FLT_PAIR_CFG_PAIR_EN = true ∧ s.fld F.FLT_PAIR_STAT_MISSED ≠ 5 ∧ s.flt.resync.phase = 0 ∧ (s.primary = true ∨ s.flt.demoted = true ∨ (s.synced = false ∧ s.bit F.FLT_PAIR_CFG_CLAIM_UNSYNC = false))) ∧
    (∃ (s : State), s.bit F.FLT_PAIR_CFG_PAIR_EN = true ∧ s.fld F.FLT_PAIR_STAT_MISSED ≠ 5 ∧ s.flt.resync.phase = 0 ∧ s.primary = false ∧ s.flt.demoted = false ∧ (s.synced = true ∨ s.bit F.FLT_PAIR_CFG_CLAIM_UNSYNC = true)) ∧
    (∃ (s : State), s.bit F.FLT_PAIR_CFG_PAIR_EN = true ∧ s.fld F.FLT_PAIR_STAT_MISSED ≠ 5 ∧ s.flt.resync.phase = 0 ∧ s.primary = false ∧ s.flt.demoted = false ∧ (s.synced = true ∨ s.bit F.FLT_PAIR_CFG_CLAIM_UNSYNC = true) ∧ s.bit F.FLT_STAT_FROST = true) ∧
    (∃ (w : BitVec 16), (w.extractLsb' 12 4 ≠ 0xA#4 ∨ w.extractLsb' 0 4 ≠ w.extractLsb' 8 4 ^^^ w.extractLsb' 4 4 ^^^ 5#4)) ∧
    (∃ (s : State), (s.primary = false ∨ s.bit F.FLT_PAIR_STAT_PEER_VALID = false ∨ s.fld F.FLT_PAIR_STAT_PEER_C < 2 ∨ s.fld F.FLT_PAIR_STAT_PEER_C ≤ s.fld F.FLT_PAIR_STAT_OWN_C)) ∧
    (∃ (s : State), s.primary = true ∧ s.bit F.FLT_PAIR_STAT_PEER_VALID = true ∧ 2 ≤ s.fld F.FLT_PAIR_STAT_PEER_C ∧ s.fld F.FLT_PAIR_STAT_OWN_C < s.fld F.FLT_PAIR_STAT_PEER_C) :=
  ⟨⟨State.reset, by decide +kernel⟩,
    ⟨{ State.reset with regs := [(0x2f00100, 1#32)] }, by decide +kernel⟩,
    ⟨State.reset, by decide +kernel⟩,
    ⟨0, State.reset, by decide +kernel⟩,
    ⟨{ State.reset with regs := [(0x2f00100, 1#32)] }, by decide +kernel⟩,
    ⟨0#8, 0#8, #v[0#8, 0#8, 0#8, 0#8], #v[0#8, 0#8], { State.reset with regs := [(0x2f00100, 1#32)] }, by decide +kernel⟩,
    ⟨0#8, #v[0#8, 0#8, 0#8, 0#8], #v[0#8, 0#8], { State.reset with regs := [(0x100014, 4#32), (0x2f00100, 1#32)] }, by decide +kernel⟩,
    ⟨0#8, 5#8, (Vector.replicate 4 0), (Vector.replicate 2 0), 0, { State.reset with flt := { State.reset.flt with peerSeq := some 0, resync := { ResyncS.none with phase := 1 } }, regs := [(0x2f00100, 1#32)] }, by decide +kernel⟩,
    ⟨State.reset, by decide +kernel⟩,
    ⟨{ State.reset with regs := [(0x2f00100, 1#32)] }, by decide +kernel⟩,
    ⟨{ State.reset with regs := [(0x2f00100, 9#32)] }, by decide +kernel⟩,
    ⟨{ State.reset with regs := [(0x2f00004, 0x80#32), (0x2f00100, 1#32), (0x2f00108, 4#32)] }, by decide +kernel⟩,
    ⟨0#16, by decide +kernel⟩,
    ⟨State.reset, by decide +kernel⟩,
    ⟨{ State.reset with regs := [(0x2f00108, 0x400041#32)] }, by decide +kernel⟩⟩

/-- States and operands that meet the hypotheses of each clause of `Obligations.PairsComeIntoStep`. -/
theorem test_witness_PairsComeIntoStep :
    (∃ (s : State), (s.primary = true ∨ s.bit F.CFG_STAT_PIPE_STOPPED = false ∨ s.flt.heard = false)) ∧
    (∃ (s : State), s.primary = false ∧ s.bit F.CFG_STAT_PIPE_STOPPED = true ∧ s.flt.heard = true) ∧
    (∃ (s : State), (s.ns < s.flt.resync.tcap ∨ (s.flt.resync.phase ≠ 1 ∧ s.flt.resync.phase ≠ 5))) ∧
    (∃ (s : State), s.flt.resync.tcap ≤ s.ns ∧ s.flt.resync.phase = 1) ∧
    (∃ (s : State), s.flt.resync.tcap ≤ s.ns ∧ s.flt.resync.phase = 5 ∧ s.npUp (s.fld F.FLT_PAIR_CFG_PORT) = false) ∧
    (∃ (s : State), s.flt.resync.phase ≠ 2) ∧
    (∃ (c : Captures) (s : State), s.flt.resync.phase = 2 ∧ (let new := fun (n : Nat) => (s.pos n + (c.pos.getD n 0).toNat + 2 ^ 32 - s.flt.resync.pos.getD n 0 % 2 ^ 32) % 2 ^ 32; (∀ n : Fin 4, bitN (new n) 31 = bitN (s.pos n) 31))) ∧
    (∃ (s : State), s.primary = true ∧ s.flt.resync.phase ≠ 0) ∧
    (∃ (s : State), s.primary = false ∧ s.flt.resync.phase < 2) ∧
    (∃ (s : State), s.primary = false ∧ s.flt.resync.phase = 2 ∧ s.bit F.CFG_CTL_RUN = false) ∧
    (∃ (p : Fin 4) (s : State), s.npSt p ≠ npStUp) ∧
    (∃ (p : Fin 4) (s : State), s.npSt p = npStUp) ∧
    (∃ (p : Fin 4) (r : Vector Word 16) (s0 : State), let s : State := { s0 with flt := { s0.flt with own := [r.toList.map (·.toNat)], peer := [], cmpOn := true } }; (r[0].toNat % 256 = 0x12 ∨ s0.flt.cmpFrom ≤ recObj (r.toList.map (·.toNat))) ∧ s.npSt p = npStUp ∧ s.bit F.FLT_PAIR_CFG_PAIR_EN = true ∧ s.fld F.FLT_PAIR_CFG_PORT = p.val ∧ s.primary = false ∧ s.synced = true) ∧
    (∃ (own : Bool) (s : State), (s.primary = true ∨ (if own then s.flt.own else s.flt.peer) = [])) ∧
    (∃ (own : Bool) (s : State), s.primary = false ∧ (if own then s.flt.own else s.flt.peer) ≠ []) :=
  ⟨⟨State.reset, by decide +kernel⟩,
    ⟨{ State.reset with flt := { State.reset.flt with heard := true } }, by decide +kernel⟩,
    ⟨State.reset, by decide +kernel⟩,
    ⟨{ State.reset with flt := { State.reset.flt with resync := { State.reset.flt.resync with phase := 1 } } }, by decide +kernel⟩,
    ⟨{ State.reset with flt := { State.reset.flt with resync := { State.reset.flt.resync with phase := 5 } } }, by decide +kernel⟩,
    ⟨State.reset, by decide +kernel⟩,
    ⟨{ pos := [], half := [], points := [], org := 0#32, ls := [], lbl := [], b0 := 0#24, refPt := 0#48, refCu := 0 }, { State.reset with flt := { State.reset.flt with resync := { State.reset.flt.resync with phase := 2 } } }, by decide +kernel⟩,
    ⟨{ State.reset with flt := { State.reset.flt with resync := { State.reset.flt.resync with phase := 1 } }, regs := [(0x2f00108, 1#32)] }, by decide +kernel⟩,
    ⟨State.reset, by decide +kernel⟩,
    ⟨{ State.reset with flt := { State.reset.flt with resync := { State.reset.flt.resync with phase := 2 } } }, by decide +kernel⟩,
    ⟨0, State.reset, by decide +kernel⟩,
    ⟨2, { State.reset with regs := [(0x600204, 3#32)] }, by decide +kernel⟩,
    ⟨0, #v[0#32, 0#32, 0#32, 0#32, 0#32, 0#32, 0#32, 0#32, 0#32, 0#32, 0xa0#32, 0#32, 0#32, 0#32, 0#32, 0#32], { State.reset with regs := [(0x600004, 3#32), (0x2f00100, 1#32), (0x2f00108, 4#32)] }, by decide +kernel⟩,
    ⟨false, State.reset, by decide +kernel⟩,
    ⟨false, { State.reset with flt := { State.reset.flt with peer := [[]] } }, by decide +kernel⟩⟩

/-- States and operands that meet the hypotheses of each clause of `Obligations.FatalFaultsHoldTheDevice`. -/
theorem test_witness_FatalFaultsHoldTheDevice :
    (∃ (s : State), s.bit F.FLT_STAT_FATAL = true) ∧
    (∃ (s : State), s.bit F.FLT_STAT_FATAL = false ∧ s.bit F.FLT_STAT_FROST = true) ∧
    (∃ (s : State), s.bit F.FLT_STAT_FATAL = false) ∧
    (∃ (k : Fin 7), k.val < 3) ∧
    (∃ (k : Fin 7) (s : State), k.val < 3 ∧ s.bit F.FLT_STAT_FROST = true) ∧
    (∃ (d : Fin 4) (s : State), (s.has .die d = false ∨ s.fld F.PWR_STAT_STATE = 2 ∨ bitN (s.fld F.TOP_READY_CD) d = false)) ∧
    (∃ (d : Fin 4) (s : State), s.has .die d = true ∧ s.fld F.PWR_STAT_STATE ≠ 2 ∧ bitN (s.fld F.TOP_READY_CD) d = true) ∧
    (∃ (s : State), (s.bit F.FLT_STAT_FATAL = false ∨ s.bit F.FLT_PAIR_CFG_PAIR_EN = true ∨ s.causeGone = false)) ∧
    (∃ (s : State), s.bit F.FLT_STAT_FATAL = true ∧ s.bit F.FLT_PAIR_CFG_PAIR_EN = false ∧ (let c := s.fld F.FLT_STAT_FATAL_CAUSE; (c = 1 → s.flt.plls = []) ∧ (c = 2 → ∀ d : Fin 4, s.has .die d = true → bitN (s.fld F.TOP_READY_CD) d = true) ∧ (c = 3 → s.bit F.FLT_STAT_DEGRADED = false) ∧ (c = 4 → s.bit F.CAL_STAT_HOT = false))) :=
  ⟨⟨{ State.reset with regs := [(0x2f00004, 1#32)] }, by decide +kernel⟩,
    ⟨{ State.reset with regs := [(0x2f00004, 0x80#32)] }, by decide +kernel⟩,
    ⟨State.reset, by decide +kernel⟩,
    ⟨0, by decide +kernel⟩,
    ⟨0, { State.reset with regs := [(0x2f00004, 0x80#32)] }, by decide +kernel⟩,
    ⟨0, State.reset, by decide +kernel⟩,
    ⟨0, { State.reset with regs := [(0xc, 0x100000#32)] }, by decide +kernel⟩,
    ⟨State.reset, by decide +kernel⟩,
    ⟨{ State.reset with regs := [(0x2f00004, 1#32)] }, by decide +kernel⟩⟩

/-- States and operands that meet the hypotheses of each clause of `Obligations.ResetsKeepWhatTheyMust`. -/
theorem test_witness_ResetsKeepWhatTheyMust :
    (∃ (s : State), s.bit F.CFG_STAT_APPLYING = true) ∧
    (∃ (s : State), s.bit F.CFG_STAT_APPLYING = false) ∧
    (∃ (off : Nat) (s : State), s.bit F.CFG_STAT_APPLYING = false ∧ rtcReg off = true) ∧
    (∃ (off : Nat) (s : State), s.bit F.CFG_STAT_APPLYING = false ∧ s.fld F.PWR_STAT_STATE ≠ 2 ∧ blockOf off = some .dmc) ∧
    (∃ (off : Nat) (s : State), s.bit F.CFG_STAT_APPLYING = false ∧ ∃ r : RegRef, findReg off = some r ∧ r.row.ld = 0 ∧ inBlocks [.sdf, .dma, .cmp, .isp] off = true ∧ s.cfg.struct = none) :=
  ⟨⟨{ State.reset with regs := [(0x100004, 0xa#32)] }, by decide +kernel⟩,
    ⟨State.reset, by decide +kernel⟩,
    ⟨39846416, State.reset, by decide +kernel⟩,
    ⟨42037344, State.reset, by decide +kernel⟩,
    ⟨40960116, State.reset, by decide +kernel, _, rfl, by decide +kernel⟩⟩

/-- States and operands that meet the hypotheses of each clause of `Obligations.BootRunsTheFirstGoodCopy`. -/
theorem test_witness_BootRunsTheFirstGoodCopy :
    (∃ (s : State), s.boot.image = true) ∧
    (∃ (s : State), s.boot.image = false) ∧
    (∃ (s : State), s.boot.image = false) ∧
    (∃ (s : State), s.boot.image = false) ∧
    (∃ (e0 : Word) (s : State), s.boot.image = false ∧ e0.toNat % 4 ≠ 0) ∧
    (∃ (s : State), s.boot.wait ≠ .wait) ∧
    (∃ (s : State), s.boot.wait ≠ .poll) ∧
    (∃ (s : State), s.boot.wait = .poll) :=
  ⟨⟨{ State.reset with boot := { State.reset.boot with image := true } }, by decide +kernel⟩,
    ⟨State.reset, by decide +kernel⟩,
    ⟨State.reset, by decide +kernel⟩,
    ⟨State.reset, by decide +kernel⟩,
    ⟨1#32, State.reset, by decide +kernel⟩,
    ⟨State.reset, by decide +kernel⟩,
    ⟨State.reset, by decide +kernel⟩,
    ⟨{ State.reset with boot := { State.reset.boot with wait := .poll } }, by decide +kernel⟩⟩

/-- A state whose staging area, from address 0, holds the whole of `bs`, with the last chunk in; STRUCT 7 is active and bank A LOADING. -/
def stagedState (bs : List Byte) (bank : Nat) : State :=
  let s := withRegs [(R.CFG_STAGE_BASE_HI, 0x80000000), (R.CFG_STRUCT_ID, 7), (R.CFG_BANK, bank), (R.DMC_INSTALLED, 0x80000000)]
  { s with ddr := memSetAll [] 0 bs, cfg := { s.cfg with struct := some {}, load := { active := true, bytes := bs.length, last := some (0, 0, 0) } } }

/-- Where no line is bad, a read that gives zeros for bad lines is a plain read. -/
theorem memReadZ_eq (s : State) (h : ∀ l, s.badLine l = false) (a n : Nat) : s.memReadZ a n = memRange s.ddr a n := by
  induction n generalizing a with
  | zero => rfl
  | succ n ih =>
    have := ih (a + 1)
    simp only [State.memReadZ, h, List.range_succ_eq_map, List.map_cons, List.map_map, memRange, Bool.false_eq_true, if_false, Nat.add_zero] at this ⊢
    rw [← this]
    congr 1
    exact List.map_congr_left fun i _ => by simp [Nat.add_comm, Nat.add_left_comm]

theorem staged_stagedState (bs : List Byte) (bank : Nat) (h : (stagedState [] bank).stageBase = 0)
    (hv : (stagedState bs bank).bit F.DMC_INSTALLED_VALID = true) : (stagedState bs bank).staged = parseStream bs := by
  have h' : (stagedState bs bank).stageBase = 0 := h
  have hb : ∀ l, (stagedState bs bank).badLine l = false := fun l => by
    simp [State.badLine, hv, show (stagedState bs bank).poison = [] from rfl]
  show parseStream ((stagedState bs bank).memReadZ (stagedState bs bank).stageBase bs.length) = _
  rw [memReadZ_eq _ hb, h', show (stagedState bs bank).ddr = memSetAll [] 0 bs from rfl, memRange_memSetAll]

theorem streamCheck_stagedState (bs : List Byte) (bank : Nat) (h : (stagedState [] bank).stageBase = 0)
    (hv : (stagedState bs bank).bit F.DMC_INSTALLED_VALID = true) (hb : (decide (2 ^ 26 < bs.length) || !(stagedState bs bank).bit F.CFG_STAGE_BASE_HI_EN) = false) :
    (stagedState bs bank).streamCheck = (stagedState bs bank).streamRules (parseStream bs) bs.length := by
  rw [← staged_stagedState bs bank h hv]
  unfold State.streamCheck
  exact if_neg (by rw [show (stagedState bs bank).cfg.load.bytes = bs.length from rfl, hb]; decide)

/-- The clauses of `Obligations.LoadsAreCountedRejectedAndApplied` for a STRUCT and for a JOB that pass (R48): hypotheses met. -/
theorem test_witness_stream_struct : ∃ s : State, s.cfg.load.last.isSome = true ∧ s.bit F.CFG_STAT_APPLYING = false ∧ s.loadingBank = none ∧
    s.streamCheck = none ∧ ∃ d, streamStruct s.staged = some d ∧ streamJob s.staged = none := by
  have h0 : (stagedState [] 0).stageBase = 0 := by decide +kernel
  refine ⟨stagedState (smallStream 0x1296) 0, rfl, by decide +kernel, by decide +kernel, ?_, ?_⟩
  · rw [streamCheck_stagedState _ _ h0 (by decide +kernel) (by decide +kernel)]; decide +kernel
  · rw [staged_stagedState _ _ h0 (by decide +kernel)]
    exact ⟨_, (Option.some_get (show (streamStruct (parseStream (smallStream 0x1296))).isSome = true by decide +kernel)).symm, by decide +kernel⟩
theorem test_witness_stream_job : ∃ s : State, s.cfg.load.last.isSome = true ∧ s.bit F.CFG_STAT_APPLYING = false ∧ ∃ b, s.loadingBank = some b ∧
    s.streamCheck = none ∧ streamStruct s.staged = none ∧ ∃ j, streamJob s.staged = some j ∧ s.jobRules s.staged j = none := by
  have h0 : (stagedState [] 1).stageBase = 0 := by decide +kernel
  refine ⟨stagedState (smallJob 0x1296 7 5) 1, rfl, by decide +kernel, false, by decide +kernel, ?_, ?_⟩
  · rw [streamCheck_stagedState _ _ h0 (by decide +kernel) (by decide +kernel)]; decide +kernel
  · rw [staged_stagedState _ _ h0 (by decide +kernel)]
    exact ⟨by decide +kernel, { jobId := 5, repeatLen := 1000, thresh := [], rules := [], masters := [], prints := [], compares := [], takeovers := [], opParams := [] },
      by decide +kernel, by decide +kernel⟩

/-- A command from a canonical state. -/
theorem test_witness_StepsKeepTheStoresCanonical : ∃ s t : State, Canon s ∧ step s = .next t :=
  ⟨{ State.reset with pending := [.nop 0 (zeros 32)] }, _, ⟨by decide +kernel, by decide +kernel, by decide +kernel⟩, rfl⟩
/-- A machine in order that takes a command, and one in a fatal fault whose front command is no RELEASE (R427). -/
theorem test_witness_StepsKeepTheMachineInOrder : (∃ s t : State, InOrder s ∧ step s = .next t) ∧
    (∃ s t : State, s.bit F.FLT_STAT_FATAL = true ∧ (∀ c, s.pending.head? = some c → mayRelease c = false ∧ writesMany c = false) ∧ step s = .next t) ∧
    (∃ s t : State, s.bit F.FLT_STAT_FATAL = true ∧ (s.bit F.FLT_PAIR_CFG_PAIR_EN = true ∨ s.causeGone = false) ∧
      (∀ c, s.pending.head? = some c → writesMany c = false) ∧ step s = .next t) ∧
    (∃ s t : State, (∀ a b d, s.pending.head? ≠ some (.coldReset a b d)) ∧ step s = .next t ∧ s.bit F.TIME_STAT_STEP_LOCKED = true) :=
  ⟨⟨State.reset, _, ⟨by decide +kernel, by decide +kernel, by decide +kernel, by decide +kernel, by decide +kernel, by decide +kernel⟩, rfl⟩,
    ⟨{ withRegs [(R.FLT_STAT, F.FLT_STAT_FATAL.mask.toNat)] with pending := [.rtcSet] }, _, by decide +kernel, by decide +kernel, rfl⟩,
    ⟨{ withRegs [(R.FLT_STAT, F.FLT_STAT_FATAL.mask.toNat), (R.FLT_PAIR_CFG, 1)] with pending := [.release] }, _, by decide +kernel,
      Or.inl (by decide +kernel), by decide +kernel, rfl⟩,
    ⟨withRegs [(R.TIME_STAT, F.TIME_STAT_STEP_LOCKED.mask.toNat)], _, by decide +kernel, rfl, by decide +kernel⟩⟩
/-- A reserved access raises bit 29, ACC (R31). -/
theorem test_witness_FaultSummaryRisesAreNoticed :
    ∃ (s t : State) (k : Nat), step s = .next t ∧ bitN t.faultSum k = true ∧ bitN s.faultSum k = false :=
  ⟨{ State.reset with pending := [.reservedAccess 0x80 true 0] }, _, 29, rfl, by decide +kernel, by decide +kernel⟩

/-- The examples of R451 and R452: CX37 and NL05. -/
theorem test_ball_lanes :
    [ballAt 7 11, ballAt 7 12, ballAt 8 11] = [.cx 37 false, .cx 37 true, .cxUp 37] ∧
    [ballAt 22 63, ballAt 22 62, ballAt 24 63, ballAt 24 62] =
      [.serial 101 false false, .serial 101 false true, .serial 101 true false, .serial 101 true true] := by decide +kernel
/-- The samples of three words of a claim number (R432). -/
def claimSamples (c : Nat) : List Bool :=
  let w := 0xA000 + 16 * c + Nat.xor (Nat.xor (c / 16) (c % 16)) 5
  (List.range 48).map (fun k => bitN w (15 - k % 16))
/-- The fail-over on Press B (R433): A has stopped and B has claimed with C = 5; before B's third word nothing is selected. -/
theorem test_stage_press_b :
    let side := fun (l : List Bool) => l.foldl StageSide.sample StageSide.init
    stageSel (side (claimSamples 2)).clockAbsent (side (claimSamples 5)) = some true ∧
    stageSel (side (claimSamples 2)).clockAbsent (side ((claimSamples 5).take 47)) = none ∧
    stageSel (side (claimSamples 2)) (side (claimSamples 1)) = some false := by decide +kernel
/-- Row names of R449 and R452: G, AC and CA. -/
theorem test_ball_rows : rowIndex ['G'] = some 7 ∧ rowIndex ['A', 'C'] = some 22 ∧ rowIndex ['C', 'A'] = some 58 := by decide +kernel
/-- Balls of R448, R453, R454 and R455. -/
theorem test_ball_kinds : ballAt 68 67 = .absent ∧ ballAt 9 9 = .ddr 0 (.dq 0) ∧ ballAt 43 19 = .one .porst ∧ ballAt 27 28 = .rail .ret ∧
    ballConnected .w0648 68 6 = false ∧ ballConnected .w0648 1 6 = true := by decide +kernel

end Sys2Proof.Tests
end

section
/-!
SUPPORT. Facts the statements of scope share: what a fixed-size vector holds at one of its places, what a field reads after a write of another
one, how a register access reaches its register, and the frames of whole registers.
-/
namespace Sys2Proof.Machine

/-! ### Places of a vector -/

@[simp] theorem vget_fin {α : Type} {k : Nat} (v : Vector α k) (i : Fin k) (d : α) : vget v i d = v[i] := by
  simp [vget]

@[simp] theorem vput_fin {α : Type} {k : Nat} (v : Vector α k) (i : Fin k) (a : α) : vput v i a = v.set i a := by
  simp [vput]

/-! ### Completion -/

/-- A command whose meaning ends in `done` completes with the state it hands over. -/
theorem completes_of_done {c : Instr} {s v : State} {P : State → Prop} (h : exec c s = done s v) (hv : P v) : Completes c s P :=
  ⟨v, h, hv⟩

/-! ### Fields -/

theorem fld_lt (s : State) (f : Fld) : s.fld f < 2 ^ f.w := Nat.mod_lt _ (Nat.two_pow_pos _)

theorem bit_of_rd_eq {s t : State} (f : Fld) (h : t.rd f.off = s.rd f.off) : t.bit f = s.bit f := by
  rw [State.bit, State.bit, fld_of_rd_eq f h]

/-- Two fields have no bit in common. -/
def Fld.Apart (f g : Fld) : Prop := f.off ≠ g.off ∨ g.lo + g.w ≤ f.lo ∨ f.lo + f.w ≤ g.lo

theorem fld_setFld_apart (s : State) {f g : Fld} (v : Nat) (h : f.lo + f.w ≤ 32) (hd : f.Apart g) : (s.setFld f v).fld g = s.fld g := by
  rcases hd with ho | hd
  · exact fld_setFld_ne s f g v ho.symm
  · exact fld_setFld_disjoint s f g v h hd

theorem bit_setFld_apart (s : State) {f g : Fld} (v : Nat) (h : f.lo + f.w ≤ 32) (hd : f.Apart g) : (s.setFld f v).bit g = s.bit g := by
  rw [State.bit, fld_setFld_apart s v h hd, State.bit]

/-- A one-bit field reads the parity of what it was set to. -/
theorem bit_setFld_self (s : State) (f : Fld) (v : Nat) (h : f.lo + f.w ≤ 32) (hw : f.w = 1) : (s.setFld f v).bit f = (v % 2 != 0) := by
  rw [State.bit, fld_setFld_self s f v h, hw, pow_one]

/-! ### A flag raised on a condition -/

theorem bit_ite_flag_self (s : State) (f : Fld) (b : Bool) (h : f.lo + f.w ≤ 32) (hw : f.w = 1) :
    (if b then s.flag f else s).bit f = (s.bit f || b) := by
  cases b with
  | true => simp [bit_setFld_self s f 1 h hw]
  | false => simp

theorem fld_ite_flag_apart (s : State) {f g : Fld} (b : Bool) (h : f.lo + f.w ≤ 32) (hd : f.Apart g) :
    (if b then s.flag f else s).fld g = s.fld g := by
  cases b with
  | true => exact fld_setFld_apart s 1 h hd
  | false => rfl

theorem bit_ite_flag_apart (s : State) {f g : Fld} (b : Bool) (h : f.lo + f.w ≤ 32) (hd : f.Apart g) :
    (if b then s.flag f else s).bit g = s.bit g := by
  cases b with
  | true => exact bit_setFld_apart s 1 h hd
  | false => rfl

theorem Frame.ite_flag {s v : State} {fs : List Fld} (h : Frame s v fs) {f : Fld} (b : Bool) (hf : f ∈ fs) (hw : f.lo + f.w ≤ 32) :
    Frame s (if b then v.flag f else v) fs := by
  cases b with
  | true => exact h.flag hf hw
  | false => exact h

/-! ### Counters -/

/-- A counter with a SAT bit apart from it counts up to its largest value (R9). -/
theorem fld_incCnt_self (s : State) (f g : Fld) (hf : f.lo + f.w ≤ 32) (hg : g.lo + g.w ≤ 32) (hd : g.Apart f) :
    (s.incCnt f g).fld f = min (s.fld f + 1) (2 ^ f.w - 1) := by
  have hlt := fld_lt s f
  have hsat : satInc f.w (s.fld f) = min (s.fld f + 1) (2 ^ f.w - 1) := by
    unfold satInc
    split <;> omega
  have hset : (s.setFld f (satInc f.w (s.fld f))).fld f = min (s.fld f + 1) (2 ^ f.w - 1) := by
    rw [fld_setFld_self s f _ hf, hsat, Nat.mod_eq_of_lt (by omega)]
  unfold State.incCnt
  dsimp only
  split
  · rw [flag_eq, fld_setFld_apart _ _ hg hd, hset]
  · exact hset

theorem fld_incCnt_apart (s : State) {f g k : Fld} (hf : f.lo + f.w ≤ 32) (hg : g.lo + g.w ≤ 32) (hfk : f.Apart k) (hgk : g.Apart k) :
    (s.incCnt f g).fld k = s.fld k := by
  unfold State.incCnt
  dsimp only
  split
  · rw [flag_eq, fld_setFld_apart _ _ hg hgk, fld_setFld_apart _ _ hf hfk]
  · exact fld_setFld_apart _ _ hf hfk

theorem rd_incCnt_ne (s : State) (f g : Fld) {off : Nat} (hf : off ≠ f.off) (hg : off ≠ g.off) : (s.incCnt f g).rd off = s.rd off := by
  unfold State.incCnt
  dsimp only
  split
  · rw [flag_eq, rd_setFld_ne _ _ _ hg, rd_setFld_ne _ _ _ hf]
  · exact rd_setFld_ne _ _ _ hf

/-! ### Blocks by their range of offsets (R26) -/

theorem blockOf_hostq {off : Nat} (h1 : 0x00200000 ≤ off) (h2 : off < 0x00400000) : blockOf off = some .hostq := by
  simp (disch := omega) only [blockOf, if_neg, if_pos]

theorem blockOf_ing {off : Nat} (h1 : 0x00800000 ≤ off) (h2 : off < 0x00A00000) : blockOf off = some .ing := by
  simp (disch := omega) only [blockOf, if_neg, if_pos]

theorem blockOf_prt {off : Nat} (h1 : 0x02200000 ≤ off) (h2 : off < 0x02400000) : blockOf off = some .prt := by
  simp (disch := omega) only [blockOf, if_neg, if_pos]

theorem blockOf_sdf {off : Nat} (h1 : 0x02700000 ≤ off) (h2 : off < 0x02800000) : blockOf off = some .sdf := by
  simp (disch := omega) only [blockOf, if_neg, if_pos]

theorem blockOf_time {off : Nat} (h1 : 0x02600000 ≤ off) (h2 : off < 0x02700000) : blockOf off = some .time := by
  simp (disch := omega) only [blockOf, if_neg, if_pos]

theorem blockOf_pwr {off : Nat} (h1 : 0x02D00000 ≤ off) (h2 : off < 0x02E00000) : blockOf off = some .pwr := by
  simp (disch := omega) only [blockOf, if_neg, if_pos]

/-! ### Blocks that wake (R397) -/

/-- Waking a block changes the register store alone. -/
theorem wakeBlock_eq (s : State) (b : Nat) : ∃ l, s.wakeBlock b = { s with regs := l } := by
  unfold State.wakeBlock
  split
  · exact ⟨_, rfl⟩
  · exact ⟨s.regs, rfl⟩

theorem rd_wakeBlock_ne (s : State) (b : Nat) {off : Nat} (h : off ≠ R.PWR_CLASS b) : (s.wakeBlock b).rd off = s.rd off := by
  unfold State.wakeBlock
  split
  · exact rd_setFld_ne s _ _ h
  · rfl

theorem fld_wakeBlock_ne (s : State) (b : Nat) (f : Fld) (h : f.off ≠ R.PWR_CLASS b) : (s.wakeBlock b).fld f = s.fld f :=
  fld_of_rd_eq f (rd_wakeBlock_ne s b h)

theorem bit_wakeBlock_ne (s : State) (b : Nat) (f : Fld) (h : f.off ≠ R.PWR_CLASS b) : (s.wakeBlock b).bit f = s.bit f :=
  bit_of_rd_eq f (rd_wakeBlock_ne s b h)

/-- Waking a block changes no register but one of PWR. -/
theorem rd_wakeBlock_of_block (s : State) {b off : Nat} {k : Block} (hb : b < 0x40) (h : blockOf off = some k) (hk : k ≠ .pwr) :
    (s.wakeBlock b).rd off = s.rd off := by
  refine rd_wakeBlock_ne s b (fun he => hk ?_)
  have hp : blockOf (R.PWR_CLASS b) = some .pwr := blockOf_pwr (by simp only [R.PWR_CLASS]; omega) (by simp only [R.PWR_CLASS]; omega)
  simpa [he, hp] using h.symm

/-! ### Frames of whole registers -/

/-- A register listed whole has no bit outside the frame's fields. -/
theorem fieldBits_whole {off : Nat} {fs : List Fld} (h : whole off ∈ fs) : ~~~fieldBits fs off = 0 := by
  have hc : (whole off).mask &&& ~~~fieldBits fs off = 0 := fieldBits_covers h
  rwa [show (whole off).mask = BitVec.allOnes 32 from by simp only [whole, Fld.mask]; decide, BitVec.allOnes_and] at hc

/-- Writing a register that is listed whole keeps the frame. -/
theorem Frame.putWord {s v : State} {fs : List Fld} (h : Frame s v fs) {off : Nat} (w : Word) (hf : whole off ∈ fs) :
    Frame s (v.put off w) fs := h.put w (by simp [fieldBits_whole hf])

theorem fieldBits_append (l fs : List Fld) (off : Nat) : fieldBits (l ++ fs) off = fieldBits l off ||| fieldBits fs off := by
  induction l with
  | nil => simp [fieldBits]
  | cons f l ih => simp [fieldBits, ih, BitVec.or_assoc]

/-- More fields may be listed. -/
theorem Frame.append {s v : State} {fs : List Fld} (h : Frame s v fs) (l : List Fld) : Frame s v (l ++ fs) := by
  refine ⟨fun off => ?_, h.mem, h.rest⟩
  have hsplit : ~~~fieldBits (l ++ fs) off = ~~~fieldBits fs off &&& ~~~fieldBits l off := by
    rw [fieldBits_append, BitVec.not_or, BitVec.and_comm]
  rw [hsplit, ← BitVec.and_assoc, h.regs off, BitVec.and_assoc]

/-- The last status moves at both ends of a frame. -/
theorem Frame.withStatus {s v : State} {fs : List Fld} (h : Frame s v fs) (st : BitVec 8) :
    Frame { s with lastStatus := st } { v with lastStatus := st } fs :=
  h.of_eq rfl rfl rfl rfl rfl rfl (congrArg (fun x : State => { x with lastStatus := st }) h.rest)

/-- DDR-4 moves at both ends of a frame. -/
theorem Frame.withDdr {s v : State} {fs : List Fld} (h : Frame s v fs) (d : List Host.Cell) : Frame { s with ddr := d } { v with ddr := d } fs :=
  ⟨h.regs, fun _ => rfl, h.rest⟩

/-- What ISP hides moves at both ends of a frame. -/
theorem Frame.withIsp {s v : State} {fs : List Fld} (h : Frame s v fs) (x : IspS) : Frame { s with isp := x } { v with isp := x } fs :=
  h.of_eq rfl rfl rfl rfl rfl rfl (congrArg (fun y : State => { y with isp := x }) h.rest)

/-- A frame up to DDR-4 is one of a store that changes the bytes given. -/
theorem FrameStore.of_frame {s v : State} {fs : List Fld} {a n : Nat} (h : Frame { s with ddr := v.ddr } v fs)
    (hm : ∀ x, x < a ∨ a + n ≤ x → memGet v.ddr x = memGet s.ddr x) : FrameStore s v a n fs := ⟨h.regs, hm, h.rest⟩

theorem setFld_emit (s : State) (f : Fld) (v : Nat) (o : Out) : (s.setFld f v).emit o = (s.emit o).setFld f v := by
  simp only [emit_eq]
  rfl

end Sys2Proof.Machine
end

section
/-!
PROOFS. Register accesses through the direct window (R5, R9, R27, R375).
-/
namespace Sys2Proof.Machine

/-! ### Reaching a register -/

theorem reach_present {s : State} {off : Nat} {r : RegRef} {b : Block} (hr : findReg off = some r) (hb : blockOf off = some b)
    (hg : gateId b 0 = none) (hvg : b ≠ .vg) (hh : s.regHere off r = true) (write : Bool) : s.reach off write = (some r, s) := by
  simp [State.reach, hr, hb, hvg, hh, hg]

theorem reach_absent {s : State} {off : Nat} {r : RegRef} {b : Block} (hr : findReg off = some r) (hb : blockOf off = some b)
    (hvg : b ≠ .vg) (hh : s.regHere off r = false) (write : Bool) : s.reach off write = (none, s) := by
  simp [State.reach, hr, hb, hvg, hh]

/-- The bases of the registers that read otherwise than as stored, or whose read latches others (R288, R303). -/
def computedReads : List Nat :=
  [R.TOP_FAULT_SUM, R.EVT_CFG 0, R.EVT_GATE, R.CU_CTL 0, R.FLT_COND, R.HP_TK 0 0, R.TW3_FILE 0, R.TIME_NOW_LO, R.RTC_SEC_LO]

theorem readVal_stored (s : State) {r : RegRef} (off : Nat) (h : r.row.base ∉ computedReads) :
    s.readVal r off = s.rd off &&& ~~~(BitVec.ofNat 32 r.row.wo) := by
  simp only [computedReads, List.mem_cons, List.not_mem_nil, or_false, not_or] at h
  obtain ⟨h1, h2, h3, h4, h5, h6, h7, -, -⟩ := h
  simp [State.readVal, h1, h2, h3, h4, h5, h6, h7]

theorem readReg_stored {s : State} {off : Nat} {r : RegRef} (hreach : s.reach off false = (some r, s)) (h : r.row.base ∉ computedReads) :
    s.readReg off = (s.rd off &&& ~~~(BitVec.ofNat 32 r.row.wo), s) := by
  have hrd := readVal_stored s off h
  simp only [computedReads, List.mem_cons, List.not_mem_nil, or_false, not_or] at h
  obtain ⟨-, -, -, -, -, -, -, h8, h9⟩ := h
  simp [State.readReg, hreach, h8, h9, hrd]

/-! ### A direct write of a register without RW bits -/

/-- The bits of a register that a written value clears: W1C bits written 1, and the counters of a SAT bit written 1 (R5, R9). -/
theorem rd_store_none (s : State) (r : RegRef) (off : Nat) (v : Word) :
    (s.store r off v 0).rd off = s.rd off &&& ~~~(v &&& BitVec.ofNat 32 r.row.w1c) &&&
      ~~~(if v &&& BitVec.ofNat 32 r.row.sat = 0 then 0 else BitVec.ofNat 32 r.row.cnt) := by
  simp only [State.store, status_rd, rd_put_self, BitVec.ofNat_eq_ofNat, BitVec.not_zero, BitVec.and_allOnes, BitVec.and_zero, BitVec.or_zero]

theorem fld_store_ne (s : State) (r : RegRef) {off : Nat} (v : Word) (m : Nat) (g : Fld) (h : g.off ≠ off) :
    (s.store r off v m).fld g = s.fld g := fld_put_ne s off _ g h

/-- A write by access code changes its register and the last status. -/
theorem frame_store {s : State} (r : RegRef) (off : Nat) (v : Word) (m : Nat) {fs : List Fld} (hf : whole off ∈ fs) :
    Frame { s with lastStatus := 0 } (s.store r off v m) fs :=
  (Frame.refl { s with lastStatus := 0 } fs).putWord _ hf

/-- The bases of the registers whose W1C write does more than clear, but for TOP_DEVID (R29, R386). -/
def clearsMore : List Nat := [R.CU_STAT 0, R.ABS_STAT 0, R.TW_STAT 0]

theorem cleared_self (s : State) {r : RegRef} {v : Nat} (h : r.row.base ∉ clearsMore) (hd : r.row.base = R.TOP_DEVID → bitN v 30 = false) :
    s.cleared r v = s := by
  simp only [clearsMore, List.mem_cons, List.not_mem_nil, or_false, not_or] at h
  obtain ⟨h1, h2, h3⟩ := h
  simp only [State.cleared, h1, h2, h3, if_false]
  split
  · rename_i h4
    rw [hd h4]
    rfl
  · rfl

theorem barWrite_without_enables {s : State} {off : Nat} {r : RegRef} {b : Block} (hreach : s.reach off true = (some r, s))
    (hb : blockOf off = some b) (v : Word) : s.barWrite off v false = { s with lastStatus := 0 } := by
  simp [State.barWrite, hreach, hb, State.status]

theorem barWrite_absent {s : State} {off : Nat} (hreach : s.reach off true = (none, s)) (v : Word) (be : Bool) :
    s.barWrite off v be = { s with lastStatus := 0 } := by
  simp [State.barWrite, hreach, State.status]

/-- A packet-only field that a direct write would change is counted, and its register's offset noted (R375). -/
def State.notePk (s : State) (off : Nat) : State :=
  (s.incCnt F.HQ_PK_IGN_CNT F.HQ_PK_IGN_SAT).setFld F.HQ_PK_IGN_OFS_OFFSET off

theorem barWrite_no_rw {s : State} {off : Nat} {r : RegRef} {b : Block} (hreach : s.reach off true = (some r, s)) (hb : blockOf off = some b)
    (hrw : r.row.rw = 0) (v : Word) : s.barWrite off v true =
      ((if (v ^^^ s.readVal r off) &&& BitVec.ofNat 32 r.row.pk = 0 then s else s.notePk off).store r off v 0).cleared r v.toNat := by
  simp [State.barWrite, hreach, hb, hrw, State.notePk]

/-! ### The count of ignored writes -/

/-- The register of the count is none other than its own row of the index. -/
theorem off_ne_of_base_ne {off : Nat} {r : RegRef} (hr : findReg off = some r) {x : Nat} (hx : (findReg x).map (·.row.base) = some x)
    (h : r.row.base ≠ x) : off ≠ x := by
  rintro rfl
  simp [hr] at hx
  exact h hx

theorem findReg_pkIgn : (findReg R.HQ_PK_IGN).map (·.row.base) = some R.HQ_PK_IGN := by decide +kernel

theorem findReg_pkIgnOfs : (findReg R.HQ_PK_IGN_OFS).map (·.row.base) = some R.HQ_PK_IGN_OFS := by decide +kernel

theorem fld_notePk_cnt (s : State) (off : Nat) : (s.notePk off).fld F.HQ_PK_IGN_CNT = min (s.fld F.HQ_PK_IGN_CNT + 1) 65535 := by
  rw [State.notePk, fld_setFld_ne _ _ _ _ (by decide), fld_incCnt_self s _ _ (by decide) (by decide) (.inr (by decide))]
  rfl

theorem fld_notePk_ofs (s : State) {off : Nat} (h : off < 2 ^ 26) : (s.notePk off).fld F.HQ_PK_IGN_OFS_OFFSET = off := by
  rw [State.notePk, fld_setFld_self _ _ _ (by decide)]
  exact Nat.mod_eq_of_lt h

theorem rd_notePk_ne (s : State) (off : Nat) {x : Nat} (h1 : x ≠ R.HQ_PK_IGN) (h2 : x ≠ R.HQ_PK_IGN_OFS) : (s.notePk off).rd x = s.rd x := by
  rw [State.notePk, rd_setFld_ne _ _ _ h2, rd_incCnt_ne s _ _ h1 h1]

theorem frame_notePk (s : State) (off : Nat) {fs : List Fld} (h1 : F.HQ_PK_IGN_CNT ∈ fs) (h2 : F.HQ_PK_IGN_SAT ∈ fs)
    (h3 : F.HQ_PK_IGN_OFS_OFFSET ∈ fs) : Frame s (s.notePk off) fs :=
  ((Frame.refl s fs).incCnt h1 (by decide) h2 (by decide)).setFld off h3 (by decide)

/-! ### O7 -/

/-- Settles O7: each access reaches its register or none, a write without RW bits is `store` with no bit taken, after the count of ignored
packet-only bits. -/
theorem directWriteByAccessCode : Obligations.DirectWriteByAccessCode := by
  unfold Obligations.DirectWriteByAccessCode
  refine ⟨?matching, ?ignored, ?noEnables, ?absent, ?read⟩
  case matching =>
    intro off o r hr b hb val s hg hvg hh hrw hbase hdev hpk
    simp only [List.mem_cons, List.not_mem_nil, or_false, not_or] at hbase
    obtain ⟨hcu, habs, htw, -, -⟩ := hbase
    have hw : s.barWrite o val true = s.store r o val 0 := by
      rw [barWrite_no_rw (reach_present hr hb hg hvg hh true) hb hrw, if_pos hpk, cleared_self _ (by simp [clearsMore, *]) hdev]
    exact completes_of_done (congrArg (done s) hw) ⟨rd_store_none s r o val, frame_store r o val 0 (by simp)⟩
  case ignored =>
    intro off o r hr b hb val s hg hvg hh hrw hbase hdev hpk
    simp only [List.mem_cons, List.not_mem_nil, or_false, not_or] at hbase
    obtain ⟨hcu, habs, htw, hcnt, hofs⟩ := hbase
    have hw : s.barWrite o val true = (s.notePk o).store r o val 0 := by
      rw [barWrite_no_rw (reach_present hr hb hg hvg hh true) hb hrw, if_neg hpk, cleared_self _ (by simp [clearsMore, *]) hdev]
    have ho1 : o ≠ R.HQ_PK_IGN := off_ne_of_base_ne hr findReg_pkIgn hcnt
    have ho2 : o ≠ R.HQ_PK_IGN_OFS := off_ne_of_base_ne hr findReg_pkIgnOfs hofs
    have holt : o < 2 ^ 26 := lt_of_le_of_lt (Nat.div_mul_le_self off.toNat 4) off.isLt
    refine completes_of_done (congrArg (done s) hw) ⟨?_, ?_, ?_, ?_⟩
    · rw [rd_store_none, rd_notePk_ne s o ho1 ho2]
    · rw [fld_store_ne _ r val 0 _ (Ne.symm ho1), fld_notePk_cnt]
    · rw [fld_store_ne _ r val 0 _ (Ne.symm ho2), fld_notePk_ofs s holt]
    · have hn := frame_notePk s o (fs := [whole o, F.HQ_PK_IGN_CNT, F.HQ_PK_IGN_SAT, F.HQ_PK_IGN_OFS_OFFSET])
        (by simp) (by simp) (by simp)
      exact (hn.withStatus 0).trans (frame_store r o val 0 (by simp))
  case noEnables =>
    intro off o r hr b hb val s hg hvg hh
    exact completes_of_done (congrArg (done s) (barWrite_without_enables (reach_present hr hb hg hvg hh true) hb val)) rfl
  case absent =>
    intro off o r hr b hb val be s hvg hh
    exact completes_of_done (congrArg (done s) (barWrite_absent (reach_absent hr hb hvg hh true) val be)) rfl
  case read =>
    intro off o r hr b hb val s hg hvg _ hh hbase
    have hread := readReg_stored (reach_present hr hb hg hvg hh false) (by simpa [computedReads] using hbase)
    have hx : exec (.reservedAccess off false val) s = done s (s.emit (.barRead o (s.rd o &&& ~~~(BitVec.ofNat 32 r.row.wo)))) := by
      simp only [exec, execReservedAccess]
      rw [hread]
      rfl
    exact completes_of_done hx (by simp [emit_eq, scanned])

end Sys2Proof.Machine
end

section
/-!
PROOFS. Table sets of the line ingest: the check of the shadow map, the flip, and the capture of the dark reference (R150, R157).
-/
namespace Sys2Proof.Machine

/-! ### Registers put one after another, and registers filtered -/

theorem foldl_put_eq (l : List (Nat × Word)) (s : State) : ∃ r, l.foldl (fun s e => s.put e.1 e.2) s = { s with regs := r } := by
  induction l generalizing s with
  | nil => exact ⟨s.regs, rfl⟩
  | cons e l ih =>
    obtain ⟨r, h⟩ := ih (s.put e.1 e.2)
    exact ⟨r, h⟩

theorem regsGet_eq_none {l : List (Nat × Word)} {off : Nat} (h : ∀ e ∈ l, e.1 ≠ off) : regsGet l off = none := by
  induction l with
  | nil => rfl
  | cons e l ih =>
    obtain ⟨a, w⟩ := e
    have ha : a ≠ off := h (a, w) (by simp)
    simp [regsGet, ha, ih (fun e he => h e (by simp [he]))]

/-- Registers put in rising order read as listed, the others as before. -/
theorem rd_foldl_put {l : List (Nat × Word)} (hl : l.Pairwise (fun x y => x.1 < y.1)) (s : State) (off : Nat) :
    (l.foldl (fun s e => s.put e.1 e.2) s).rd off = (regsGet l off).getD (s.rd off) := by
  induction l generalizing s with
  | nil => rfl
  | cons e l ih =>
    obtain ⟨a, w⟩ := e
    obtain ⟨hlt, hl⟩ := List.pairwise_cons.mp hl
    rw [List.foldl_cons, ih hl]
    by_cases ha : a = off
    · subst ha
      have hn : regsGet l a = none := regsGet_eq_none (fun e he => (hlt e he).ne')
      simp [regsGet, hn]
    · simp [regsGet, ha, rd_put_ne s w (Ne.symm ha)]

theorem regsGet_filter (l : List (Nat × Word)) (p : Nat → Bool) (off : Nat) :
    regsGet (l.filter (fun e => p e.1)) off = if p off then regsGet l off else none := by
  induction l with
  | nil => simp [regsGet]
  | cons e l ih =>
    obtain ⟨a, w⟩ := e
    by_cases hp : p a <;> by_cases ha : a = off
    · subst ha
      simp [hp, regsGet]
    · simp [hp, regsGet, ha, ih]
    · subst ha
      simp [hp, ih]
    · simp [hp, regsGet, ha, ih]

/-! ### The sets change places -/

/-- In its window a camera shows the set that was in use; elsewhere nothing changes. -/
theorem rd_ingSwapSets {s : State} {n : Fin 12} (hs : s.ing[n].act.Pairwise (fun x y => x.1 < y.1))
    (hw : ∀ e ∈ s.ing[n].act, ingShadow n e.1 = true) (off : Nat) :
    (s.ingSwapSets n).rd off = if ingShadow n off then (regsGet s.ing[n].act off).getD (resetVal s.board off) else s.rd off := by
  have hread : (s.ingSwapSets n).rd off = (regsGet s.ing[n].act off).getD
      ((regsGet (s.regs.filter (fun e => !ingShadow n e.1)) off).getD (resetVal s.board off)) := by
    rw [State.ingSwapSets, modIng_rd, State.ingS, vget_fin]
    exact rd_foldl_put hs _ off
  rw [hread, regsGet_filter s.regs (fun x => !ingShadow n x) off]
  cases hin : ingShadow n off with
  | true => simp
  | false =>
    have hn : regsGet s.ing[n].act off = none := regsGet_eq_none (fun e he ho => by simp [← ho, hw e he] at hin)
    rw [hn]
    simp [State.rd]

/-- The set that was shown is kept as the one in use, and besides only registers change. -/
theorem ingSwapSets_eq (s : State) (n : Fin 12) : ∃ l, s.ingSwapSets n =
    { s with regs := l, ing := s.ing.set n { s.ing[n] with act := s.regs.filter (fun e => ingShadow n e.1) } } := by
  obtain ⟨l, h⟩ := foldl_put_eq s.ing[n].act { s with regs := s.regs.filter (fun e => !ingShadow n e.1) }
  refine ⟨l, ?_⟩
  simp only [State.ingSwapSets, State.ingS, State.modIng, vget_fin, vput_fin, h]

theorem ingShadow_stat (n : Nat) : ingShadow n (R.ING_STAT n) = false := by
  simp [ingShadow, R.ING_TBL, R.ING_LAT, R.ING_STAT, R.ING_CMOFS1]
  omega

theorem ingShadow_ctl (n : Nat) : ingShadow n (R.ING_CTL n) = false := by
  simp [ingShadow, R.ING_TBL, R.ING_LAT, R.ING_CTL, R.ING_CMOFS1]
  omega

/-- With a flip waiting, the sets change places, TBL_SET counts and FLIP_PEND falls. -/
theorem ingFlipApply_of_pending {s : State} {n : Nat} (h : s.bit (F.ING_STAT_FLIP_PEND n) = true) :
    s.ingFlipApply n = ((s.ingSwapSets n).setFld (F.ING_STAT_FLIP_PEND n) 0).setFld (F.ING_CTL_TBL_SET n)
      (((s.ingSwapSets n).setFld (F.ING_STAT_FLIP_PEND n) 0).fld (F.ING_CTL_TBL_SET n) + 1) := by
  simp [State.ingFlipApply, h]

/-- Beside FLIP_PEND and TBL_SET the registers read as after the exchange. -/
theorem rd_ingFlipApply {s : State} {n off : Nat} (h : s.bit (F.ING_STAT_FLIP_PEND n) = true) (h1 : off ≠ R.ING_STAT n) (h2 : off ≠ R.ING_CTL n) :
    (s.ingFlipApply n).rd off = (s.ingSwapSets n).rd off := by
  rw [ingFlipApply_of_pending h, rd_setFld_ne _ (F.ING_CTL_TBL_SET n) _ h2, rd_setFld_ne _ (F.ING_STAT_FLIP_PEND n) _ h1]

/-- Beside registers only the set kept as the one in use changes. -/
theorem ingFlipApply_eq {s : State} {n : Fin 12} (h : s.bit (F.ING_STAT_FLIP_PEND n) = true) : ∃ l, s.ingFlipApply n =
    { s with regs := l, ing := s.ing.set n { s.ing[n] with act := s.regs.filter (fun e => ingShadow n e.1) } } := by
  obtain ⟨l, hl⟩ := ingSwapSets_eq s n
  exact ⟨_, by rw [ingFlipApply_of_pending h, hl]; rfl⟩

theorem ingCtl_ne_stat (n : Nat) : R.ING_CTL n ≠ R.ING_STAT n := by simp [R.ING_CTL, R.ING_STAT]

theorem bit_ingFlipApply_pend {s : State} {n : Nat} (h : s.bit (F.ING_STAT_FLIP_PEND n) = true) :
    (s.ingFlipApply n).bit (F.ING_STAT_FLIP_PEND n) = false := by
  rw [ingFlipApply_of_pending h, bit_setFld_apart _ _ (Nat.le_of_ble_eq_true rfl) (.inl (ingCtl_ne_stat n)),
    bit_setFld_self _ _ _ (Nat.le_of_ble_eq_true rfl) rfl]
  rfl

/-- TBL_SET lies in no shadow window, so it counts from where it stood. -/
theorem fld_ingFlipApply_set {s : State} {n : Fin 12} (h : s.bit (F.ING_STAT_FLIP_PEND n) = true)
    (hs : s.ing[n].act.Pairwise (fun x y => x.1 < y.1)) (hw : ∀ e ∈ s.ing[n].act, ingShadow n e.1 = true) :
    (s.ingFlipApply n).fld (F.ING_CTL_TBL_SET n) = (s.fld (F.ING_CTL_TBL_SET n) + 1) % 2 := by
  have hset : (s.ingSwapSets n).fld (F.ING_CTL_TBL_SET n) = s.fld (F.ING_CTL_TBL_SET n) :=
    fld_of_rd_eq _ (by rw [rd_ingSwapSets hs hw]; simp [F.ING_CTL_TBL_SET, ingShadow_ctl])
  rw [ingFlipApply_of_pending h, fld_setFld_self _ _ _ (Nat.le_of_ble_eq_true rfl), fld_setFld_ne _ _ _ _ (ingCtl_ne_stat n), hset]
  rfl

/-! ### The shadow map -/

/-- The check of a shadow map reads registers of its camera only. -/
theorem mapOk_of_rd_eq {s t : State} (n : Nat) (h : ∀ off, blockOf off = some .ing → t.rd off = s.rd off) (hn : n < 12) : t.mapOk n = s.mapOk n := by
  have hcnt : t.rd (R.ING_DEFCNT n) = s.rd (R.ING_DEFCNT n) := h _ (blockOf_ing (by simp only [R.ING_DEFCNT]; omega) (by simp only [R.ING_DEFCNT]; omega))
  have hgeom : t.rd (R.ING_GEOM n) = s.rd (R.ING_GEOM n) := h _ (blockOf_ing (by simp only [R.ING_GEOM]; omega) (by simp only [R.ING_GEOM]; omega))
  have htbl : ∀ i, i < 4096 → t.rd (R.ING_TBL n (0x6000 + i)) = s.rd (R.ING_TBL n (0x6000 + i)) := fun i hi =>
    h _ (blockOf_ing (by simp only [R.ING_TBL]; omega) (by simp only [R.ING_TBL]; omega))
  have hmap : t.shadowMap n = s.shadowMap n := by
    simp only [State.shadowMap, State.rdN, hcnt]
    refine List.map_congr_left (fun i hi => ?_)
    rw [htbl i (by simp at hi; omega)]
  have hact : t.actW n = s.actW n := by simp [State.actW, State.fld, State.rdN, F.ING_GEOM_PPL, F.ING_GEOM_MASK_L, F.ING_GEOM_MASK_R, hgeom]
  rw [State.mapOk, State.mapOk, hmap, hact, State.rdN, State.rdN, hcnt]

/-! ### O28 -/

/-- Settles O28: the flip is a swap of the two sets read through the register store; the check reads no register that waking changes. -/
theorem correctionTablesFlip : Obligations.CorrectionTablesFlip := by
  unfold Obligations.CorrectionTablesFlip
  refine ⟨?dark, ?absent, ?waits, ?flip, ?apply, ?idle⟩
  case dark =>
    intro n s hcam
    have hx : exec (.darkCapt n) s = done s (((s.wakeBlock 0x06).darkCapt n).status 0) := by simp [exec, execDarkCapt, hcam]
    have hmeas : ∀ off, blockOf off = some .ing → (s.wakeBlock 0x06).rd off = s.rd off := fun off h =>
      rd_wakeBlock_of_block s (by decide) h (by decide)
    refine completes_of_done hx ⟨?_, ?_, ?_⟩
    · rw [status_rd, State.darkCapt, rd_put_ne _ _ (by simp [R.ING_DARK_REF0, R.ING_DARK_REF1]), rd_put_self]
      exact hmeas _ (blockOf_ing (by simp only [R.ING_DARK_MEAS0]; omega) (by simp only [R.ING_DARK_MEAS0]; omega))
    · rw [status_rd, State.darkCapt, rd_put_self]
      exact hmeas _ (blockOf_ing (by simp only [R.ING_DARK_MEAS1]; omega) (by simp only [R.ING_DARK_MEAS1]; omega))
    · exact (((Frame.refl (s.wakeBlock 0x06) _).putWord _ (by simp)).putWord _ (by simp)).withStatus 0
  case absent =>
    intro n s hcam
    exact ⟨completes_of_done (by simp [exec, execDarkCapt, hcam]) rfl, completes_of_done (by simp [exec, execIngFlip, hcam]) rfl⟩
  case waits =>
    intro n s hcam hpend
    have hp : (s.wakeBlock 0x06).bit (F.ING_STAT_FLIP_PEND n) = true :=
      (bit_wakeBlock_ne s 0x06 _ (by simp [F.ING_STAT_FLIP_PEND, R.ING_STAT, R.PWR_CLASS]; omega)).trans hpend
    exact completes_of_done (v := (s.wakeBlock 0x06).status 0x40) (by simp [exec, execIngFlip, hcam, State.ingFlip, hp]) rfl
  case flip =>
    intro n s hcam hpend
    have hp : (s.wakeBlock 0x06).bit (F.ING_STAT_FLIP_PEND n) = false :=
      (bit_wakeBlock_ne s 0x06 _ (by simp [F.ING_STAT_FLIP_PEND, R.ING_STAT, R.PWR_CLASS]; omega)).trans hpend
    have hok : (s.wakeBlock 0x06).mapOk n = s.mapOk n :=
      mapOk_of_rd_eq n (fun off h => rd_wakeBlock_of_block s (by decide) h (by decide)) n.isLt
    cases hm : s.mapOk n with
    | true =>
      simp only [if_true]
      refine completes_of_done (v := ((s.wakeBlock 0x06).flag (F.ING_STAT_FLIP_PEND n)).status 0)
        (by simp [exec, execIngFlip, hcam, State.ingFlip, hp, hok, hm]) ⟨?_, ?_⟩
      · rw [status_bit, flag_eq, bit_setFld_self _ _ _ (Nat.le_of_ble_eq_true rfl) rfl]
        rfl
      · exact ((Frame.refl (s.wakeBlock 0x06) _).flag (by simp) (Nat.le_of_ble_eq_true rfl)).withStatus 0
    | false =>
      simp only [Bool.false_eq_true, if_false]
      refine completes_of_done (v := ((s.wakeBlock 0x06).flag (F.ING_STAT_MAP_BAD n)).status 0x40)
        (by simp [exec, execIngFlip, hcam, State.ingFlip, hp, hok, hm]) ⟨?_, ?_⟩
      · rw [status_bit, flag_eq, bit_setFld_self _ _ _ (Nat.le_of_ble_eq_true rfl) rfl]
        rfl
      · exact ((Frame.refl (s.wakeBlock 0x06) _).flag (by simp) (Nat.le_of_ble_eq_true rfl)).withStatus 0x40
  case apply =>
    intro n off s hpend hs hw
    have hrd := rd_ingSwapSets hs hw off
    obtain ⟨l, hl⟩ := ingFlipApply_eq hpend
    refine completes_of_done rfl ⟨bit_ingFlipApply_pend hpend, fld_ingFlipApply_set hpend hs hw, fun hin => ⟨?_, ?_⟩, fun hin h1 h2 => ?_, ?_, ?_⟩
    · have h1 : off ≠ R.ING_STAT n := fun h => by simp [h, ingShadow_stat] at hin
      have h2 : off ≠ R.ING_CTL n := fun h => by simp [h, ingShadow_ctl] at hin
      simp [State.rdN, rd_ingFlipApply hpend h1 h2, hrd, hin, State.ingAct, State.ingS]
    · simp [hl, State.ingAct, State.ingS, regsGet_filter, hin, State.rdN, State.rd]
    · rw [rd_ingFlipApply hpend h1 h2, hrd, hin]
      rfl
    · rw [hl]
    · rw [hl]
      simp [State.rest]
  case idle =>
    intro n s hpend
    exact completes_of_done (by simp [exec, execIngFlipApply, State.ingFlipApply, hpend]) rfl

end Sys2Proof.Machine
end

section
/-!
SUPPORT. What posting a record changes (R233 to R240, R376): registers of HOSTQ and TIME and three of SEG, bytes of the spill area, and the state
of the queues, of the spill, of the launch queues and of shadow compare. A fault record and a ready bit that falls do no more.
-/
namespace Sys2Proof.Machine

/-- The registers that posting a record may change: HOSTQ's, the launch queues' of TIME, and SEG's flags and counts of records. -/
def recordReg (off : Nat) : Bool :=
  inBlocks [.hostq, .time] off || off == R.SEG_STAT || off == R.SEG_REC_CNT || off == R.SEG_LOSS_CNT

/-- The state without what posting a record may change. -/
def State.offRecord (s : State) : State :=
  { s with regs := [], ddr := [], poison := [], out := [],
           hq := { s.hq with unsig := Vector.replicate 32 0, posted := [], gather := Vector.replicate 2 [], gatherT := Vector.replicate 2 0,
                             frameSeq := Vector.replicate 2 0 },
           seg := { s.seg with spill := [], spillWr := 0, dropped := [] },
           time := { s.time with launch := Vector.replicate 2 [] },
           flt := { s.flt with own := [] } }

/-- From `s` to `v` nothing changes but what posting records changes. -/
structure RecordFrame (s v : State) : Prop where
  regs : FrameRegs s v recordReg
  mem  : FrameMem s v s.spillByte
  rest : v.offRecord = s.offRecord

/-! ### Which registers -/

theorem recordReg_of_hostq {off : Nat} (h1 : 0x00200000 ≤ off) (h2 : off < 0x00400000) : recordReg off = true := by
  simp [recordReg, inBlocks, blockOf_hostq h1 h2]

theorem recordReg_of_time {off : Nat} (h1 : 0x02600000 ≤ off) (h2 : off < 0x02700000) : recordReg off = true := by
  simp [recordReg, inBlocks, blockOf_time h1 h2]

/-- No register of another block is among them. -/
theorem recordReg_of_block {off : Nat} {b : Block} (hb : blockOf off = some b) (h : b ∉ [.hostq, .time, .seg]) : recordReg off = false := by
  simp only [List.mem_cons, List.not_mem_nil, or_false, not_or] at h
  obtain ⟨h1, h2, h3⟩ := h
  have hseg : ∀ x, blockOf x = some .seg → off ≠ x := fun x hx he => h3 (by simpa [he, hx] using hb.symm)
  simp [recordReg, inBlocks, hb, h1, h2, hseg R.SEG_STAT (by decide), hseg R.SEG_REC_CNT (by decide), hseg R.SEG_LOSS_CNT (by decide)]

/-- They lie in HOSTQ, SEG and TIME. -/
theorem inBlocks_of_recordReg {off : Nat} (h : recordReg off = true) : inBlocks [.hostq, .seg, .time] off = true := by
  simp only [recordReg, Bool.or_eq_true, beq_iff_eq] at h
  rcases h with ((h | rfl) | rfl) | rfl
  · unfold inBlocks at h ⊢
    cases hb : blockOf off with
    | none => simp [hb] at h
    | some b =>
      simp only [hb, List.contains_cons, List.contains_nil, Bool.or_false, Bool.or_eq_true] at h ⊢
      tauto
  all_goals decide

/-! ### Frames of records compose -/

theorem prt_of_offRecord {s v : State} (h : v.offRecord = s.offRecord) : v.prt = s.prt := by
  rw [show v.prt = v.offRecord.prt from rfl, h]
  rfl

theorem sdf_of_offRecord {s v : State} (h : v.offRecord = s.offRecord) : v.sdf = s.sdf := by
  rw [show v.sdf = v.offRecord.sdf from rfl, h]
  rfl

theorem RecordFrame.refl (s : State) : RecordFrame s s := ⟨fun _ _ => rfl, fun _ _ => rfl, rfl⟩

/-- The spill area stays where it is while SEG_SPILL_CTL does. -/
theorem spillByte_of_rd_eq {s t : State} (h : t.rd R.SEG_SPILL_CTL = s.rd R.SEG_SPILL_CTL) : t.spillByte = s.spillByte := by
  have hf : t.fld F.SEG_SPILL_CTL_ADDR = s.fld F.SEG_SPILL_CTL_ADDR := fld_of_rd_eq _ h
  funext a
  simp [State.spillByte, State.spillAddr, hf]

theorem RecordFrame.spillByte {s v : State} (h : RecordFrame s v) : v.spillByte = s.spillByte :=
  spillByte_of_rd_eq (h.regs _ (by decide))

theorem RecordFrame.trans {s t u : State} (h : RecordFrame s t) (k : RecordFrame t u) : RecordFrame s u :=
  ⟨fun off ho => (k.regs off ho).trans (h.regs off ho),
    fun a ha => (k.mem a (by rw [h.spillByte]; exact ha)).trans (h.mem a ha), k.rest.trans h.rest⟩

/-- An update of what posting a record may change, but for registers and DDR-4, is framed. -/
theorem RecordFrame.of_offRecord {s v : State} (hr : v.regs = s.regs) (hd : v.ddr = s.ddr) (h : v.offRecord = s.offRecord) : RecordFrame s v := by
  have hb : v.offRecord.board = s.offRecord.board := by rw [h]
  exact ⟨fun off _ => by simp only [State.rd, hr]; rw [show v.board = s.board from hb], fun a _ => by rw [hd], h⟩

theorem recordFrame_put (s : State) {off : Nat} (w : Word) (h : recordReg off = true) : RecordFrame s (s.put off w) :=
  ⟨fun x hx => rd_put_ne s w (fun he => by simp [he, h] at hx), fun _ _ => rfl, rfl⟩

theorem recordFrame_setFld (s : State) {f : Fld} (v : Nat) (h : recordReg f.off = true) : RecordFrame s (s.setFld f v) :=
  recordFrame_put s _ h

theorem recordFrame_incCnt (s : State) {f g : Fld} (hf : recordReg f.off = true) (hg : recordReg g.off = true) : RecordFrame s (s.incCnt f g) := by
  unfold State.incCnt
  dsimp only
  split
  · exact (recordFrame_setFld s _ hf).trans (recordFrame_setFld _ _ hg)
  · exact recordFrame_setFld s _ hf

theorem recordFrame_emit (s : State) (o : Out) : RecordFrame s (s.emit o) := by
  rw [emit_eq]
  exact RecordFrame.of_offRecord rfl rfl rfl

theorem recordFrame_emits (s : State) (l : List Out) : RecordFrame s (l.foldl State.emit s) := by
  induction l generalizing s with
  | nil => exact RecordFrame.refl s
  | cons o l ih => exact (recordFrame_emit s o).trans (ih _)

/-! ### Queues (R356, R357, R376) -/

theorem recordReg_msixPba {vec : Nat} (h : vec < 64) : recordReg (R.MSIX_PBA (vec / 32)) = true :=
  recordReg_of_hostq (by simp only [R.MSIX_PBA]; omega) (by simp only [R.MSIX_PBA]; omega)

theorem recordFrame_msix (s : State) {vec : Nat} (h : vec < 64) : RecordFrame s (s.msix vec) := by
  unfold State.msix
  split
  · exact RecordFrame.refl s
  · split
    · exact RecordFrame.refl s
    · split
      · exact recordFrame_put s _ (recordReg_msixPba h)
      · exact recordFrame_emit s _

theorem recordFrame_signalQ (s : State) (c : Nat) : RecordFrame s (s.signalQ c) := by
  unfold State.signalQ
  split
  · exact RecordFrame.refl s
  · extract_lets src s1
    have h1 : RecordFrame s s1 := RecordFrame.of_offRecord rfl rfl rfl
    exact h1.trans (recordFrame_msix s1 (fld_lt s1 (F.HQ_CFG_VEC (32 + c))))

theorem recordFrame_updFull (s : State) {c : Nat} (h : c < 32) : RecordFrame s (s.updFull c) :=
  recordFrame_setFld s _ (recordReg_of_hostq (by simp only [F.HQ_STAT_FULL, R.HQ_STAT]; omega) (by simp only [F.HQ_STAT_FULL, R.HQ_STAT]; omega))

theorem recordFrame_writeBack (s : State) (n v : Nat) : RecordFrame s (s.writeBack n v) := by
  unfold State.writeBack
  dsimp only
  split
  · exact RecordFrame.refl s
  · exact recordFrame_emit s _

theorem recordReg_hqTail {c : Nat} (h : c < 32) : recordReg (R.HQ_TAIL (32 + c)) = true :=
  recordReg_of_hostq (by simp only [R.HQ_TAIL]; omega) (by simp only [R.HQ_TAIL]; omega)

theorem recordFrame_pushEntry (s : State) {c : Nat} (e : HostEntry) (irq : Bool) (h : c < 32) : RecordFrame s (s.pushEntry c e irq) := by
  unfold State.pushEntry
  split
  · exact RecordFrame.refl s
  · extract_lets n t0 t bs s1 s2 u src s3 s4 ith
    have h1 : RecordFrame s s1 := recordFrame_emits s _
    have h2 : RecordFrame s s2 := h1.trans (recordFrame_setFld s1 t (recordReg_hqTail h))
    have h3 : RecordFrame s s3 := h2.trans (RecordFrame.of_offRecord rfl rfl rfl)
    have h4 : RecordFrame s s4 := (h3.trans (recordFrame_updFull s3 h)).trans (recordFrame_writeBack _ n t)
    split
    · exact h4.trans (recordFrame_signalQ s4 c)
    · exact h4

/-! ### The spill (R239) -/

theorem length_leBytes (k x : Nat) : (leBytes k x).length = k := by
  induction k generalizing x with
  | zero => rfl
  | succ k ih => simp [leBytes, ih]

theorem length_wordsBytes (ws : List Nat) : (wordsBytes ws).length = 4 * ws.length := by
  simp [wordsBytes, length_leBytes, List.length_flatMap, Nat.mul_comm]

/-- A line written at a place of the spill area touches the area only. -/
theorem recordFrame_spillWrite (s : State) (k : Nat) {bs : List Byte} (h : bs.length ≤ 64) : RecordFrame s (s.memWrite (s.spillAddr k) bs) := by
  unfold State.memWrite
  split
  · exact RecordFrame.refl s
  · refine ⟨fun _ _ => rfl, fun a ha => ?_, rfl⟩
    have hk : k % spillMax < spillMax := Nat.mod_lt _ (by decide)
    have hin : s.spillAddr k ≤ a ∧ a < s.spillAddr k + bs.length → s.spillByte a = true := by
      simp only [State.spillByte, State.spillAddr, spillMax, Bool.and_eq_true] at hk ⊢
      exact fun hx => ⟨decide_eq_true (by omega), decide_eq_true (by omega)⟩
    rw [State.memPut, memGet_memSetAll, if_neg (fun hx => by simp [hin hx] at ha)]

theorem recordFrame_postRecQ (s : State) (r : Nat) {ws : List Nat} (h : ws.length ≤ 16) : RecordFrame s (s.postRecQ r ws) := by
  unfold State.postRecQ
  extract_lets c a s1 src q d
  have hc : c < 32 := fld_lt s (F.SEG_ROUTE_QID r)
  split
  · exact (recordFrame_pushEntry s _ _ hc).trans (recordFrame_setFld _ (f := F.SEG_REC_CNT_CNT) _ (by decide))
  · split
    · have h1 : RecordFrame s s1 := recordFrame_spillWrite s _ (by rw [length_wordsBytes]; omega)
      have h2 : RecordFrame s { s1 with seg := q } := h1.trans (RecordFrame.of_offRecord rfl rfl rfl)
      exact h2.trans (recordFrame_setFld _ (f := F.SEG_STAT_SPILL_ACT) 1 (by decide))
    · have h1 : RecordFrame s { s with seg := { s.seg with dropped := d } } := RecordFrame.of_offRecord rfl rfl rfl
      exact (h1.trans (recordFrame_setFld _ (f := F.SEG_STAT_REC_DROP) 1 (by decide))).trans
        (recordFrame_incCnt _ (f := F.SEG_LOSS_CNT_DROP_CNT) (g := F.SEG_LOSS_CNT_SAT) (by decide) (by decide))

/-! ### Ethernet record frames (R240, R295) -/

theorem recordReg_lstat {p : Nat} (h : p < 2) : recordReg (R.TIME_EP_LSTAT p) = true :=
  recordReg_of_time (by simp only [R.TIME_EP_LSTAT]; omega) (by simp only [R.TIME_EP_LSTAT]; omega)

theorem recordReg_lcnt {p : Nat} (h : p < 2) : recordReg (R.TIME_EP_LCNT p) = true :=
  recordReg_of_time (by simp only [R.TIME_EP_LCNT]; omega) (by simp only [R.TIME_EP_LCNT]; omega)

theorem recordFrame_launchDrop (s : State) {p : Nat} (h : p < 2) : RecordFrame s (s.launchDrop p) :=
  (recordFrame_setFld s (f := F.TIME_EP_LSTAT_FULL p) 1 (recordReg_lstat h)).trans
    (recordFrame_incCnt _ (f := F.TIME_EP_LCNT_DROP_CNT p) (g := F.TIME_EP_LCNT_SAT p) (recordReg_lcnt h) (recordReg_lcnt h))

theorem recordFrame_setLaunch (s : State) {p : Nat} (l : List LaunchE) (h : p < 2) : RecordFrame s (s.setLaunch p l) := by
  have h1 : RecordFrame s { s with time := { s.time with launch := vput s.time.launch p l } } := RecordFrame.of_offRecord rfl rfl rfl
  exact h1.trans (recordFrame_setFld _ (f := F.TIME_EP_LSTAT_DEPTH p) l.length (recordReg_lstat h))

theorem recordFrame_launchSeg (s : State) {p : Nat} (frame : List Byte) (l : Nat) (h : p < 2) : RecordFrame s (s.launchSeg p frame l) := by
  unfold State.launchSeg
  extract_lets q
  split
  · exact (recordFrame_launchDrop s h).trans (recordFrame_incCnt _ (f := F.SEG_LOSS_CNT_DROP_CNT) (g := F.SEG_LOSS_CNT_SAT) (by decide) (by decide))
  · exact recordFrame_setLaunch s _ h

theorem recordFrame_closeGather (s : State) {p : Nat} (h : p < 2) : RecordFrame s (s.closeGather p) := by
  unfold State.closeGather
  extract_lets recs f l src s1
  split
  · exact RecordFrame.refl s
  · have h1 : RecordFrame s s1 := RecordFrame.of_offRecord rfl rfl rfl
    exact h1.trans (recordFrame_launchSeg s1 f l h)

theorem recordFrame_gatherRec (s : State) {p : Nat} (ws : List Nat) (h : p < 2) : RecordFrame s (s.gatherRec p ws) := by
  unfold State.gatherRec
  extract_lets old t src s1
  have h1 : RecordFrame s s1 := RecordFrame.of_offRecord rfl rfl rfl
  split
  · exact h1.trans (recordFrame_closeGather s1 h)
  · exact h1

/-! ### Records, faults and ready bits -/

theorem recordFrame_shadowKeep (s : State) (ws : List Nat) : RecordFrame s (s.shadowKeep ws) := by
  unfold State.shadowKeep
  split
  · exact RecordFrame.of_offRecord rfl rfl rfl
  · exact RecordFrame.refl s

/-- A record of at most 15 words is posted within its frame. -/
theorem recordFrame_record (s : State) (r : Nat) {ws : List Nat} (h : ws.length ≤ 15) : RecordFrame s (s.record r ws) := by
  unfold State.record
  extract_lets ws' s1 s2 sevOk s3
  have hws : ws'.length ≤ 16 := by simp [ws']; omega
  have h1 : RecordFrame s s1 := recordFrame_shadowKeep s ws'
  have h2 : RecordFrame s s2 := by
    unfold s2
    split
    · exact h1.trans (recordFrame_postRecQ _ _ hws)
    · exact h1
  have h3 : RecordFrame s s3 := by
    unfold s3
    split
    · exact h2.trans (recordFrame_gatherRec _ _ (by decide))
    · exact h2
  split
  · exact h3.trans (recordFrame_gatherRec _ _ (by decide))
  · exact h3

theorem recordFrame_fault (s : State) (src cause inst w5 w6 w7 : Nat) (fatal : Bool) :
    RecordFrame s (s.fault src cause inst w5 w6 w7 fatal) := recordFrame_record s 4 (by simp [State.sysRec])

/-- The field of ready bit `k`. -/
def readyFld (k : Nat) : Fld := ⟨if k < 32 then R.TOP_READY else R.TOP_READY_IO, k % 32, 1⟩

theorem setReady_false (s : State) (k : Nat) :
    s.setReady k false = if s.bit (readyFld k) then (s.setFld (readyFld k) 0).fault 0x07 0x1 k else s := rfl

/-- A ready bit takes its new level; besides, its fall posts a record (R30, R446). -/
theorem setReady_eq (s : State) (k : Nat) (b : Bool) :
    ∃ u, (u = s ∨ ∃ x, u = s.setFld (readyFld k) x) ∧ u.bit (readyFld k) = b ∧ RecordFrame u (s.setReady k b) := by
  have hfits : (readyFld k).lo + (readyFld k).w ≤ 32 := by simp only [readyFld]; omega
  have hself : ∀ x, (s.setFld (readyFld k) x).bit (readyFld k) = (x % 2 != 0) := fun x => bit_setFld_self s _ x hfits rfl
  cases b with
  | true => exact ⟨_, .inr ⟨1, rfl⟩, hself 1, RecordFrame.refl _⟩
  | false =>
    rw [setReady_false]
    split
    · exact ⟨_, .inr ⟨0, rfl⟩, hself 0, recordFrame_fault _ _ _ _ _ _ _ _⟩
    · rename_i hb
      exact ⟨s, .inl rfl, by simpa using hb, RecordFrame.refl s⟩

theorem recordReg_readyFld (k : Nat) : recordReg (readyFld k).off = false := by
  simp only [readyFld]
  split <;> decide

/-- From `s` to `v` ready bit `k` takes the level `b`; besides, nothing changes but what posting records changes and the bit's register. -/
structure ReadyFrame (s v : State) (k : Nat) (b : Bool) : Prop where
  ready : v.bit (readyFld k) = b
  regs  : FrameRegs s v (fun off => off == (readyFld k).off || recordReg off)
  mem   : FrameMem s v s.spillByte
  rest  : v.offRecord = s.offRecord

theorem setReady_frame (s : State) (k : Nat) (b : Bool) : ReadyFrame s (s.setReady k b) k b := by
  obtain ⟨u, hu, hb, hr⟩ := setReady_eq s k b
  have hregs : ∀ off, off ≠ (readyFld k).off → u.rd off = s.rd off := by
    rcases hu with rfl | ⟨x, rfl⟩
    · exact fun _ _ => rfl
    · exact fun off ho => rd_setFld_ne s _ x ho
  have hspill : u.spillByte = s.spillByte := spillByte_of_rd_eq (hregs _ (by simp only [readyFld]; split <;> decide))
  have hddr : u.ddr = s.ddr := by rcases hu with rfl | ⟨x, rfl⟩ <;> rfl
  have hrest : u.offRecord = s.offRecord := by rcases hu with rfl | ⟨x, rfl⟩ <;> rfl
  refine ⟨(bit_of_rd_eq _ (hr.regs _ (recordReg_readyFld k))).trans hb, fun off ho => ?_, fun a ha => ?_, hr.rest.trans hrest⟩
  · simp only [Bool.or_eq_false_iff, beq_eq_false_iff_ne] at ho
    exact (hr.regs off ho.2).trans (hregs off ho.1)
  · exact (hr.mem a (by rw [hspill]; exact ha)).trans (by rw [hddr])

end Sys2Proof.Machine
end

section
/-!
PROOFS. A seam registration that resolves a block posts the block's waiting records (R177, R233, R240): one routed to an Ethernet port goes to the
port's launch queue, whose depth TIME_EP_LSTAT shows.
-/
namespace Sys2Proof.Machine

/-! ### What the end of a command changes (R376) -/

theorem rd_msix_ne (s : State) {vec off : Nat} (h : off ≠ R.MSIX_PBA (vec / 32)) : (s.msix vec).rd off = s.rd off := by
  unfold State.msix
  split
  · rfl
  · split
    · rfl
    · split
      · exact rd_put_ne s _ h
      · rw [emit_eq]
        rfl

theorem rd_faultNotice_ne (s : State) {off : Nat} (h : blockOf off ≠ some .hostq) : s.faultNotice.rd off = s.rd off := by
  have hpend : off ≠ F.HQ_EVT_PEND_FLT.off := fun he => h (by rw [he]; decide)
  unfold State.faultNotice
  split
  · rfl
  · extract_lets t
    have ht : t.rd off = s.rd off := rd_setFld_ne s _ 1 hpend
    have hvec : t.fld F.HQ_EVT_CFG_FLT_VEC < 64 := fld_lt t F.HQ_EVT_CFG_FLT_VEC
    have hpba : off ≠ R.MSIX_PBA (t.fld F.HQ_EVT_CFG_FLT_VEC / 32) := fun he =>
      h (by rw [he]; exact blockOf_hostq (by simp only [R.MSIX_PBA]; omega) (by simp only [R.MSIX_PBA]; omega))
    split
    · exact (rd_msix_ne t hpba).trans ht
    · exact ht

/-- The end of a command changes no register but those of HOSTQ. -/
theorem rd_settle_ne (s old : State) {off : Nat} (h : blockOf off ≠ some .hostq) : (s.settle old).rd off = s.rd off := by
  unfold State.settle
  extract_lets src t n
  split
  · rfl
  · exact rd_faultNotice_ne t h

/-! ### The counterexample to O30 -/

/-- Block 0 is formed and provisional, its seams are due, one record of it waits, and records of output type 0 are routed to Ethernet port 0 alone. -/
def routedBlockDue : State :=
  let s := State.reset.putN (R.SEG_ROUTE 0) 0x40
  { s with sti := { s.sti with regDue := true, provBlk := true, formed := 256 },
           seg := { s.seg with waiting := [{ words := List.replicate 15 0, blks := [0] }] } }

/-- The launch queue of port 0 is empty before, and holds the record after. -/
theorem lstat_routedBlockDue : routedBlockDue.rd (R.TIME_EP_LSTAT 0) = 0 := by decide +kernel

theorem lstat_register_routedBlockDue : routedBlockDue.register.rd (R.TIME_EP_LSTAT 0) = 1 := by decide +kernel

/-- Refutes O30: the record that `SEAM_REGISTRATION` posts joins the launch queue of an Ethernet port, and TIME_EP_LSTAT, of block TIME, counts it;
the clause of a block due allows registers of STI, HOSTQ and SEG alone. -/
theorem not_stitchedLinesForm : ¬ Obligations.StitchedLinesForm := by
  unfold Obligations.StitchedLinesForm
  rintro ⟨-, -, -, -, hdue, -⟩
  obtain ⟨v, hexec, -, -, -, -, hregs⟩ := hdue routedBlockDue rfl
  have hkept : v.rd (R.TIME_EP_LSTAT 0) = 0 := (hregs _ (by decide)).trans lstat_routedBlockDue
  have hsettled : v.settle routedBlockDue = routedBlockDue.register.settle routedBlockDue :=
    (Host.Outcome.next.inj hexec).symm
  have hnot : blockOf (R.TIME_EP_LSTAT 0) ≠ some .hostq := by decide
  have hsame : v.rd (R.TIME_EP_LSTAT 0) = routedBlockDue.register.rd (R.TIME_EP_LSTAT 0) := by
    rw [← rd_settle_ne v routedBlockDue hnot, hsettled, rd_settle_ne _ _ hnot]
  rw [hkept, lstat_register_routedBlockDue] at hsame
  exact absurd hsame (by decide)

end Sys2Proof.Machine
end

section
/-!
PROOFS. Line cycles, latch and HOT of the print ports (R247 to R249, R258, R261).
-/
namespace Sys2Proof.Machine

theorem prtS_fin (s : State) (n : Fin 8) : s.prtS n = s.prt[n] := vget_fin _ _ _

theorem modPrt_fin (s : State) (n : Fin 8) (f : PrtS → PrtS) : s.modPrt n f = { s with prt := s.prt.set n (f s.prt[n]) } := by
  rw [State.modPrt, prtS_fin, vput_fin]

theorem modPrt_modPrt (s : State) (n : Fin 8) (f g : PrtS → PrtS) : (s.modPrt n f).modPrt n g = s.modPrt n (fun p => g (f p)) := by
  simp [modPrt_fin]

theorem setFld_modPrt (s : State) (n : Nat) (f : PrtS → PrtS) (x : Fld) (v : Nat) :
    (s.modPrt n f).setFld x v = (s.setFld x v).modPrt n f := rfl

/-! ### The ready bit of a head -/

theorem readyFld_head (n : Fin 8) : readyFld (32 + 24 + n) = ⟨R.TOP_READY_IO, 24 + n, 1⟩ := by
  simp only [readyFld]
  rw [if_neg (by omega), show (32 + 24 + n.val) % 32 = 24 + n.val by omega]

/-- The PRINT entry in use follows the banks. -/
theorem runEntry_of_eq {s t : State} (n : Nat) (hr : t.rd R.CFG_BANK = s.rd R.CFG_BANK) (hc : t.cfg = s.cfg) : t.runEntry n = s.runEntry n := by
  have hf : ∀ f : Fld, f.off = R.CFG_BANK → t.fld f = s.fld f := fun f hf => fld_of_rd_eq f (by rw [hf, hr])
  have hany : t.anyRunning = s.anyRunning := by simp [State.anyRunning, State.bankState, hf F.CFG_BANK_A_STATE rfl, hf F.CFG_BANK_B_STATE rfl]
  have hrun : t.runBank = s.runBank := by simp [State.runBank, State.bit, hf F.CFG_BANK_RUN_BANK rfl]
  have hjob : t.job s.runBank = s.job s.runBank := by simp [State.job, hc]
  rw [State.runEntry, State.runEntry, hany, hrun, State.prtEntry, State.prtEntry, hjob]

theorem isSome_runEntry (s : State) (n : Nat) : (s.runEntry n).isSome = (s.anyRunning && (s.prtEntry s.runBank n).isSome) := by
  unfold State.runEntry
  split <;> simp [*]

/-- What the ready bit of a head leaves, after a change of port `n`'s flags from `s` to `t`. -/
structure HeadReady (s t v : State) (n : Fin 8) : Prop where
  prt   : v.prt = t.prt
  hot   : ∀ f : Fld, f.off = R.HP_STAT n → v.bit f = t.bit f
  ready : v.bit ⟨R.TOP_READY_IO, 24 + n, 1⟩ =
    (s.bit (F.HP_CTL_EN n) && (s.anyRunning && (s.prtEntry s.runBank n).isSome) && !t.bit (F.HP_STAT_HOT n))
  mem   : FrameMem s v s.spillByte
  regs  : FrameRegs s v (fun off => off == R.HP_STAT n || off == R.TOP_READY_IO || inBlocks [.hostq, .seg, .time] off)

/-- The ready bit of a head is 1 while its port is on, its bank runs an entry for it and it is not HOT (R30). -/
theorem updHp_headReady {s t : State} (n : Fin 8) (hregs : ∀ off, off ≠ R.HP_STAT n → t.rd off = s.rd off) (hd : t.ddr = s.ddr)
    (hc : t.cfg = s.cfg) : HeadReady s t (t.updHp n) n := by
  have hf := setReady_frame t (32 + 24 + n) (t.bit (F.HP_CTL_EN n) && (t.runEntry n).isSome && !t.bit (F.HP_STAT_HOT n))
  have hne : ∀ off, off < 0x02000000 ∨ 0x02300000 ≤ off → off ≠ R.HP_STAT n := fun off ho => by simp only [R.HP_STAT]; omega
  have hen : t.bit (F.HP_CTL_EN n) = s.bit (F.HP_CTL_EN n) := bit_of_rd_eq _ (hregs _ (by simp [F.HP_CTL_EN, R.HP_CTL, R.HP_STAT]))
  have hrun : t.runEntry n = s.runEntry n := runEntry_of_eq n (hregs _ (hne _ (by decide))) hc
  have hspill : t.spillByte = s.spillByte := spillByte_of_rd_eq (hregs _ (by simp [R.HP_STAT, R.SEG_SPILL_CTL]; omega))
  have hstat : recordReg (R.HP_STAT n) = false :=
    recordReg_of_block (blockOf_prt (by simp only [R.HP_STAT]; omega) (by simp only [R.HP_STAT]; omega)) (by decide)
  have hoff : (readyFld (32 + 24 + n)).off = R.TOP_READY_IO := by rw [readyFld_head]
  refine ⟨prt_of_offRecord hf.rest, fun f ho => ?_, ?_, fun a ha => ?_, fun off ho => ?_⟩
  · refine bit_of_rd_eq f (hf.regs _ ?_)
    simp only [ho, hstat, hoff, Bool.or_false, beq_eq_false_iff_ne]
    exact (hne _ (by decide)).symm
  · rw [← readyFld_head, ← isSome_runEntry, ← hrun, ← hen]
    exact hf.ready
  · exact (hf.mem a (by rw [hspill]; exact ha)).trans (by rw [hd])
  · simp only [Bool.or_eq_false_iff, beq_eq_false_iff_ne] at ho
    obtain ⟨⟨h1, h2⟩, h3⟩ := ho
    refine (hf.regs off ?_).trans (hregs off h1)
    rw [hoff, Bool.or_eq_false_iff, beq_eq_false_iff_ne]
    exact ⟨h2, Bool.eq_false_iff.mpr (fun h => by simp [inBlocks_of_recordReg h] at h3)⟩

/-! ### HOT ends and begins -/

/-- The line cycle that counts HOT down to its end leaves it (R261). -/
theorem endLine_of_last {s : State} {n : Fin 8} (hh : s.prt[n].hotLeft = some 1) (hc : s.prt[n].cycHot = true) :
    s.endLine n =
      ((s.setFld (F.HP_STAT_HOT n) 0).modPrt n (fun p => { p with busy := false, cycHot := false, hotLeft := none })).updHp n := by
  simp only [State.endLine, prtS_fin, hh, hc, if_true, le_refl, State.leaveHot]
  rw [setFld_modPrt, modPrt_modPrt]

/-- An earlier line cycle that HOT has seen counts it down (R261). -/
theorem endLine_of_more {s : State} {n : Fin 8} {k : Nat} (hh : s.prt[n].hotLeft = some (k + 2)) (hc : s.prt[n].cycHot = true) :
    s.endLine n = s.modPrt n (fun p => { p with busy := false, cycHot := false, hotLeft := some (k + 1) }) := by
  simp only [State.endLine, prtS_fin, hh, hc, if_true, modPrt_modPrt]
  rw [if_neg (by omega)]
  rfl

/-- A line cycle that HOT has not seen only ends (R248). -/
theorem endLine_of_cold {s : State} {n : Fin 8} (h : s.prt[n].hotLeft = none ∨ s.prt[n].cycHot = false) :
    s.endLine n = s.modPrt n (fun p => { p with busy := false, cycHot := false }) := by
  rcases h with h | h
  · simp only [State.endLine, prtS_fin, h]
  · simp only [State.endLine, prtS_fin, h]
    split <;> rfl

/-- HEAT_OK falls on a port that is on: it enters HOT (R261). -/
theorem enterHot_of_fall (s : State) (n : Fin 8) :
    (s.modPrt n (fun p => { p with heatOk := false })).enterHot n =
      (((s.setFld (F.HP_STAT_HOT n) 1).setFld (F.HP_STAT_HOT_SEEN n) 1).modPrt n
        (fun p => { p with heatOk := false, hotLeft := none, cycHot := false })).updHp n := by
  rw [State.enterHot, flag_eq, flag_eq, setFld_modPrt, setFld_modPrt, modPrt_modPrt]

/-! ### O35 -/

/-- Settles O35: each command changes one port's state and its flags; the ready bit of the head is a lemma of its own. -/
theorem printLineCycles : Obligations.PrintLineCycles := by
  unfold Obligations.PrintLineCycles
  refine ⟨?idle, ?cold, ?counted, ?last, ?fireEnd, ?noFire, ?window, ?shift, ?latch, ?noLatch, ?accepted, ?fall, ?rise⟩
  case idle =>
    intro n s hb
    exact completes_of_done (by simp only [exec, execLineCycleEnd, prtS_fin, hb, Bool.false_eq_true, if_false]) rfl
  case cold =>
    intro n s hb hcold
    refine completes_of_done (v := (s.endLine n).raise [68 + n]) (by simp only [exec, execLineCycleEnd, prtS_fin, hb, if_true]) ⟨_, rfl, ?_⟩
    rw [endLine_of_cold hcold, modPrt_fin]
  case counted =>
    intro n k s0 s
    have hp : s.prt[n] = { s0.prt[n] with busy := true, cycHot := true, hotLeft := some (k + 2) } := by simp [s]
    refine completes_of_done (v := (s.endLine n).raise [68 + n]) (by simp only [exec, execLineCycleEnd, prtS_fin, hp, if_true]) ⟨_, rfl, ?_⟩
    rw [endLine_of_more (k := k) (by rw [hp]) (by rw [hp]), modPrt_fin]
  case last =>
    intro n s0 s
    have hp : s.prt[n] = { s0.prt[n] with busy := true, cycHot := true, hotLeft := some 1 } := by simp [s]
    refine completes_of_done (v := (s.endLine n).raise [68 + n]) (by simp only [exec, execLineCycleEnd, prtS_fin, hp, if_true]) ⟨_, rfl, ?_⟩
    rw [endLine_of_last (by rw [hp]) (by rw [hp])]
    have hr := updHp_headReady (s := s) (t := (s.setFld (F.HP_STAT_HOT n) 0).modPrt n (fun p => { p with busy := false, cycHot := false, hotLeft := none }))
      n (fun off ho => by rw [modPrt_rd, rd_setFld_ne s (F.HP_STAT_HOT n) 0 ho]) rfl rfl
    have hcold : ((s.setFld (F.HP_STAT_HOT n) 0).modPrt n (fun p => { p with busy := false, cycHot := false, hotLeft := none })).bit (F.HP_STAT_HOT n) = false := by
      rw [modPrt_bit, bit_setFld_self _ _ _ (Nat.le_of_ble_eq_true rfl) rfl]
      rfl
    refine ⟨(hr.hot _ rfl).trans hcold, hr.prt.trans (by rw [modPrt_fin]; rfl), ?_, hr.mem, hr.regs⟩
    rw [hr.ready, hcold, Bool.not_false, Bool.and_true, Bool.and_assoc]
  case fireEnd =>
    intro n s hf
    refine completes_of_done (v := (s.modPrt n (fun p => { p with fire := false })).emit (.headFire n false))
      (by simp only [exec, execFirePulseEnd, prtS_fin, hf, if_true]) ?_
    rw [modPrt_fin]
  case noFire =>
    intro n s hf
    exact completes_of_done (by simp only [exec, execFirePulseEnd, prtS_fin, hf, Bool.false_eq_true, if_false]) rfl
  case window =>
    intro n s
    exact completes_of_done (v := s.modPrt n (fun p => { p with window := false })) rfl (modPrt_fin _ _ _)
  case shift =>
    intro n s
    cases hs : s.prt[n].shifting with
    | none => exact completes_of_done (by simp only [exec, execShiftDone, prtS_fin, hs]) rfl
    | some l =>
      exact completes_of_done (v := s.modPrt n (fun p => { p with shifted := some l, shifting := none }))
        (by simp only [exec, execShiftDone, prtS_fin, hs]) (modPrt_fin _ _ _)
  case latch =>
    intro n l s0 s hw hl hfree ws
    have hs : s.prt[n].shifted = some l := by simp [s]
    let t := s.modPrt n (fun p => { p with latching := true, latched := some l, shifted := none })
    have ht : t = { s with prt := s.prt.set n { s.prt[n] with latching := true, latched := some l, shifted := none } } := modPrt_fin _ _ _
    refine completes_of_done (v := (t.setFld (F.HP_WS_CUR n) ws).emit (.headLatch n ws))
      (by simp only [exec, execLatchPulse, prtS_fin, hs, hw, hl, hfree, Bool.not_false, Bool.and_true, if_true, t, ws]) ⟨?_, ?_⟩
    · rw [emit_fld, fld_setFld_self _ _ _ (Nat.le_of_ble_eq_true rfl)]
      rfl
    · rw [setFld_emit, ← ht]
      exact (Frame.refl _ _).setFld ws (by simp) (Nat.le_of_ble_eq_true rfl)
  case noLatch =>
    intro n s h
    refine completes_of_done (v := s) ?_ rfl
    simp only [exec, execLatchPulse, prtS_fin]
    split
    · rename_i l hl
      rw [if_neg]
      rcases h with h | h | h | h <;> simp_all
    · rfl
  case accepted =>
    intro n level s h
    refine completes_of_done (v := s) ?_ rfl
    rcases h with h | h <;> simp [-Fin.getElem_fin, exec, execHeatOkAccept, prtS_fin, h]
  case fall =>
    intro n s hhead hheat hen
    refine completes_of_done (v := ((s.modPrt n (fun p => { p with heatOk := false })).enterHot n).raise [76 + n])
      (by simp [-Fin.getElem_fin, exec, execHeatOkAccept, prtS_fin, hhead, hheat, hen]) ⟨_, rfl, ?_⟩
    rw [enterHot_of_fall]
    have hr := updHp_headReady (s := s) (t := ((s.setFld (F.HP_STAT_HOT n) 1).setFld (F.HP_STAT_HOT_SEEN n) 1).modPrt n
        (fun p => { p with heatOk := false, hotLeft := none, cycHot := false })) n
      (fun off ho => by rw [modPrt_rd, rd_setFld_ne _ (F.HP_STAT_HOT_SEEN n) 1 ho, rd_setFld_ne s (F.HP_STAT_HOT n) 1 ho]) rfl rfl
    have hhot : (((s.setFld (F.HP_STAT_HOT n) 1).setFld (F.HP_STAT_HOT_SEEN n) 1).modPrt n
        (fun p => { p with heatOk := false, hotLeft := none, cycHot := false })).bit (F.HP_STAT_HOT n) = true := by
      rw [modPrt_bit, bit_setFld_apart _ _ (Nat.le_of_ble_eq_true rfl) (.inr (.inl (Nat.le_of_ble_eq_true rfl))),
        bit_setFld_self _ _ _ (Nat.le_of_ble_eq_true rfl) rfl]
      rfl
    refine ⟨(hr.hot _ rfl).trans hhot, ?_, ?_, hr.prt.trans (by rw [modPrt_fin]; rfl), hr.mem, hr.regs⟩
    · rw [hr.hot _ rfl, modPrt_bit, bit_setFld_self _ _ _ (Nat.le_of_ble_eq_true rfl) rfl]
      rfl
    · rw [hr.ready, hhot, Bool.not_true, Bool.and_false]
  case rise =>
    intro n s hhead hheat hhot hh
    refine completes_of_done (v := s.modPrt n (fun p => { p with heatOk := true, hotLeft := some (s.fld (F.HP_TIM1_HOT_HYST n)) }))
      (by simp [-Fin.getElem_fin, exec, execHeatOkAccept, prtS_fin, hhead, hheat, hhot, hh, modPrt_modPrt]) (modPrt_fin _ _ _)

end Sys2Proof.Machine
end

section
/-!
PROOFS. The area-camera ports (R272 to R275): the start of a frame, its lines in DDR-4, and its end.
-/
namespace Sys2Proof.Machine

/-! ### Reads of lines without POISON (R322, R325) -/

theorem ddrLoc_lt (nch a : Nat) : (ddrLoc nch a).1 < 8 := by
  have h3 : ∀ x k, fieldN x k 3 < 2 ^ 3 := fun x k => Nat.mod_lt _ (by decide)
  have h2 : ∀ x k, fieldN x k 2 < 2 ^ 3 := fun x k => lt_of_lt_of_le (Nat.mod_lt _ (by decide)) (by decide)
  unfold ddrLoc
  split
  · exact Nat.xor_lt_two_pow (Nat.xor_lt_two_pow (h3 _ _) (h3 _ _)) (h3 _ _)
  · exact Nat.xor_lt_two_pow (Nat.xor_lt_two_pow (h2 _ _) (h2 _ _)) (h2 _ _)

/-- A read of a line without POISON counts at most one answer of its channel's write queue. -/
theorem ddrReadLine_eq (s : State) {l : Nat} (h : s.poison.contains l = false) :
    s.ddrReadLine l = s ∨ ∃ f ∈ fwdCounts, s.ddrReadLine l = s.incWrap f := by
  unfold State.ddrReadLine
  extract_lets p
  split
  · exact .inl rfl
  · split
    · exact .inr ⟨_, List.mem_map.mpr ⟨p.1, List.mem_range.mpr (ddrLoc_lt _ _), rfl⟩, rfl⟩
    · rw [h]
      exact .inl rfl

theorem fwdCounts_fits {f : Fld} (h : f ∈ fwdCounts) : f.lo + f.w ≤ 32 ∧ blockOf f.off = some .dmc := by
  obtain ⟨c, hc, rfl⟩ := List.mem_map.mp h
  have hc : c < 8 := List.mem_range.mp hc
  exact ⟨Nat.le_of_ble_eq_true rfl, by simp (disch := simp only [F.DMC_CH_USE_FWD_CNT, R.DMC_CH_USE]; omega) only [blockOf, if_neg, if_pos]⟩

theorem fwdCounts_off : ∀ f ∈ fwdCounts, f.off ≠ F.DMC_INSTALLED_VALID.off := by decide

/-- Reads of lines without POISON change the counts of the write queues' answers only. -/
theorem foldl_ddrReadLine (ls : List Nat) (s : State)
    (h : ∀ l ∈ ls, s.poison.contains l = false) :
    ∃ r, ls.foldl State.ddrReadLine s = { s with regs := r } ∧ Frame s (ls.foldl State.ddrReadLine s) fwdCounts := by
  induction ls generalizing s with
  | nil => exact ⟨s.regs, rfl, Frame.refl s _⟩
  | cons l ls ih =>
    have hl : ∃ r, s.ddrReadLine l = { s with regs := r } ∧ Frame s (s.ddrReadLine l) fwdCounts := by
      rcases ddrReadLine_eq s (h l (by simp)) with he | ⟨f, hf, he⟩
      · exact ⟨s.regs, he, by rw [he]; exact Frame.refl s _⟩
      · exact ⟨_, he, by rw [he]; exact (Frame.refl s _).incWrap hf (fwdCounts_fits hf).1⟩
    obtain ⟨r, hr, hfr⟩ := hl
    obtain ⟨r', hr', hfr'⟩ := ih (s.ddrReadLine l) (fun x hx => by rw [hr]; exact h x (by simp [hx]))
    exact ⟨r', by rw [List.foldl_cons, hr', hr], hfr.trans hfr'⟩

/-! ### A byte string stored where nothing is poisoned (R321, R325) -/

/-- A line covered whole by a byte range is one of those the range touches. -/
theorem mem_lineRange_of_covered {a n l : Nat} (h1 : a ≤ 64 * l) (h2 : 64 * l + 64 ≤ a + n) : l ∈ lineRange a n := by
  rw [lineRange, if_neg (by omega), List.mem_map]
  exact ⟨l - a / 64, List.mem_range.mpr (by omega), by omega⟩

theorem poison_filter_covered {p : List Nat} {a n : Nat} (h : ∀ l ∈ lineRange a n, p.contains l = false) :
    p.filter (fun l => !(a ≤ 64 * l && 64 * l + 64 ≤ a + n)) = p := by
  refine List.filter_eq_self.mpr (fun l hl => ?_)
  simp only [Bool.not_eq_true', Bool.and_eq_false_iff, decide_eq_false_iff_not]
  by_contra hc
  simp only [not_or, not_not] at hc
  have := h l (mem_lineRange_of_covered hc.1 hc.2)
  simp_all

/-- A store where nothing is poisoned writes its bytes, and beside them counts answers of the write queues only. -/
theorem memStore_unpoisoned {s : State} {a : Nat} {bs : List Byte} (hv : s.bit F.DMC_INSTALLED_VALID = true)
    (h : ∀ l ∈ lineRange a bs.length, s.poison.contains l = false) :
    ∃ r, Frame s { s with regs := r } fwdCounts ∧ s.memStore a bs = { s with regs := r, ddr := memSetAll s.ddr a bs } := by
  unfold State.memStore
  extract_lets part
  obtain ⟨r, hr, hf⟩ := foldl_ddrReadLine part s (fun l hl => h l (List.mem_of_mem_filter hl))
  have hvalid : (part.foldl State.ddrReadLine s).bit F.DMC_INSTALLED_VALID = true := by
    rw [State.bit, hf.fld F.DMC_INSTALLED_VALID fwdCounts_off, ← State.bit, hv]
  refine ⟨r, hr ▸ hf, ?_⟩
  rw [State.memWrite, hvalid, Bool.not_true, if_neg Bool.false_ne_true, State.memPut, hr, poison_filter_covered h]

/-! ### FRAME_START (R274, R275) -/

/-- The registers of a port are three. -/
theorem ppFrames_ne_stat (p : Fin 2) : R.PP_FRAMES p ≠ R.PP_STAT p := by simp only [R.PP_FRAMES, R.PP_STAT]; omega

theorem ppFrames_ne_cnt (p : Fin 2) : R.PP_FRAMES p ≠ R.PP_CNT p := by simp only [R.PP_FRAMES, R.PP_CNT]; omega

theorem ppCnt_ne_stat (p : Fin 2) : R.PP_CNT p ≠ R.PP_STAT p := by simp only [R.PP_CNT, R.PP_STAT]; omega

theorem heldFld_off (p b : Nat) : (heldFld p b).off = R.PP_STAT p := by unfold heldFld; split <;> rfl

theorem heldFld_fits (p b : Nat) : (heldFld p b).lo + (heldFld p b).w ≤ 32 ∧ (heldFld p b).w = 1 := by
  unfold heldFld; split <;> exact ⟨Nat.le_of_ble_eq_true rfl, rfl⟩

/-- The frame that starts on port `p` into buffer `b`, with its tag of the moment (R274). -/
def State.ppFrame (s : State) (p b : Nat) : PpFrame :=
  { port := p, buf := b, seq := s.rdN (R.PP_FRAMES p), ts := s.tsNs, pos := s.pos (s.fld (F.PP_CTL_TAG_CHAN p)),
    ctx := s.fld (F.PP_CTL_CTX p), w := s.fld (F.PP_GEOM_WIDTH p), h := s.fld (F.PP_GEOM_HEIGHT p), fmt := s.fld (F.PP_CTL_FMT p),
    lines := 0, short := false, long := false, lerr := false, ovf := false, ended := false }

/-- A frame is counted and dropped. -/
def State.ppDropped (u : State) (p : Fin 2) : State :=
  (((u.incWrap (F.PP_FRAMES_CNT p)).setPpVs p (some false)).flag (F.PP_STAT_FRAME_DROP p)).incCnt (F.PP_CNT_DROP_CNT p) (F.PP_CNT_SAT p)

/-- A frame is counted and takes buffer `b`. -/
def State.ppTaken (u : State) (p : Fin 2) (b : Nat) (fr : PpFrame) : State :=
  let v := ((u.incWrap (F.PP_FRAMES_CNT p)).setPpVs p (some true)).flag (heldFld p b)
  { v with isp := { v.isp with frames := v.isp.frames ++ [fr] } }

theorem exec_frameStart_idle {p : Fin 2} {s : State}
    (h : s.has .pport p = false ∨ s.bit (F.PP_CTL_EN p) = false ∨ s.isp.vs[p] ≠ none) : exec (.frameStart p) s = done s s := by
  have hc : (!s.has .pport p || !s.bit (F.PP_CTL_EN p) || (s.ppVs p).isSome) = true := by
    rw [State.ppVs, vget_fin]
    rcases h with h | h | h
    · rw [h]; rfl
    · rw [h]; simp
    · simp only [Option.isSome_iff_ne_none.mpr h, Bool.or_true]
  rw [show exec (.frameStart p) s = execFrameStart p s from rfl, execFrameStart]
  exact if_pos hc

section
variable {p : Fin 2} {s : State} (hh : s.has .pport p = true) (he : s.bit (F.PP_CTL_EN p) = true) (hv : s.isp.vs[p] = none)
include hh he hv

theorem frameStart_guard : ¬ (!s.has .pport p || !s.bit (F.PP_CTL_EN p) || (s.ppVs p).isSome) = true := by
  rw [State.ppVs, vget_fin, hh, he, hv]
  decide

/-- With both buffers held the frame is dropped and counted. -/
theorem exec_frameStart_dropped (h0 : s.bit (F.PP_STAT_HELD0 p) = true) (h1 : s.bit (F.PP_STAT_HELD1 p) = true) :
    exec (.frameStart p) s = done s ((s.raise [86 + p]).ppDropped p) := by
  simp only [exec, execFrameStart, if_neg (frameStart_guard hh he hv), h0, h1, Bool.not_true, Bool.false_eq_true, if_false]
  rfl

/-- Otherwise it takes the first buffer not held. -/
theorem exec_frameStart_taken (h : s.bit (F.PP_STAT_HELD0 p) = false ∨ s.bit (F.PP_STAT_HELD1 p) = false) :
    exec (.frameStart p) s = done s ((s.raise [86 + p]).ppTaken p (b2n (s.bit (F.PP_STAT_HELD0 p)))
      (s.ppFrame p (b2n (s.bit (F.PP_STAT_HELD0 p))))) := by
  simp only [exec, execFrameStart, if_neg (frameStart_guard hh he hv)]
  cases h0 : s.bit (F.PP_STAT_HELD0 p) with
  | false => rfl
  | true =>
    have h1 : s.bit (F.PP_STAT_HELD1 p) = false := by simpa [h0] using h
    simp only [h1, Bool.not_true, Bool.false_eq_true, if_false, Bool.not_false, if_true]
    rfl

end

theorem setPpVs_eq (s : State) (p : Fin 2) (x : Option Bool) : s.setPpVs p x = { s with isp := { s.isp with vs := s.isp.vs.set p x } } := by
  rw [State.setPpVs, vput_fin]

/-- The frame is counted, whatever becomes of the port's state. -/
theorem fld_ppCounted (u : State) (p : Fin 2) (x : Option Bool) :
    ((u.incWrap (F.PP_FRAMES_CNT p)).setPpVs p x).fld (F.PP_FRAMES_CNT p) = (u.fld (F.PP_FRAMES_CNT p) + 1) % 2 ^ (F.PP_FRAMES_CNT p).w :=
  fld_setFld_self u (F.PP_FRAMES_CNT p) _ (Nat.le_of_ble_eq_true rfl)

/-- FRAMES_CNT and the port's state move. -/
theorem frame_ppCounted (u : State) (p : Fin 2) (x : Option Bool) {fs : List Fld} (h : F.PP_FRAMES_CNT p ∈ fs) :
    Frame { u with isp := { u.isp with vs := u.isp.vs.set p x } } ((u.incWrap (F.PP_FRAMES_CNT p)).setPpVs p x) fs := by
  rw [setPpVs_eq]
  exact ((Frame.refl u fs).incWrap h (Nat.le_of_ble_eq_true rfl)).withIsp _

theorem ppDropped_spec (u : State) (p : Fin 2) :
    (u.ppDropped p).fld (F.PP_FRAMES_CNT p) = (u.fld (F.PP_FRAMES_CNT p) + 1) % 2 ^ (F.PP_FRAMES_CNT p).w ∧
      (u.ppDropped p).bit (F.PP_STAT_FRAME_DROP p) = true ∧
      (u.ppDropped p).fld (F.PP_CNT_DROP_CNT p) = min (u.fld (F.PP_CNT_DROP_CNT p) + 1) (2 ^ (F.PP_CNT_DROP_CNT p).w - 1) ∧
      Frame { u with isp := { u.isp with vs := u.isp.vs.set p (some false) } } (u.ppDropped p)
        [F.PP_FRAMES_CNT p, F.PP_STAT_FRAME_DROP p, F.PP_CNT_DROP_CNT p, F.PP_CNT_SAT p] := by
  have hn : (F.PP_FRAMES_CNT p).lo + (F.PP_FRAMES_CNT p).w ≤ 32 := Nat.le_of_ble_eq_true rfl
  have hf : (F.PP_STAT_FRAME_DROP p).lo + (F.PP_STAT_FRAME_DROP p).w ≤ 32 := Nat.le_of_ble_eq_true rfl
  have hc : (F.PP_CNT_DROP_CNT p).lo + (F.PP_CNT_DROP_CNT p).w ≤ 32 := Nat.le_of_ble_eq_true rfl
  have hs : (F.PP_CNT_SAT p).lo + (F.PP_CNT_SAT p).w ≤ 32 := Nat.le_of_ble_eq_true rfl
  have hsc : (F.PP_CNT_SAT p).Apart (F.PP_CNT_DROP_CNT p) := .inr (.inl (Nat.le_of_ble_eq_true rfl))
  have hfc : (F.PP_STAT_FRAME_DROP p).Apart (F.PP_CNT_DROP_CNT p) := .inl (ppCnt_ne_stat p).symm
  have hfn : (F.PP_STAT_FRAME_DROP p).Apart (F.PP_FRAMES_CNT p) := .inl (ppFrames_ne_stat p).symm
  have hcn : (F.PP_CNT_DROP_CNT p).Apart (F.PP_FRAMES_CNT p) := .inl (ppFrames_ne_cnt p).symm
  have hsn : (F.PP_CNT_SAT p).Apart (F.PP_FRAMES_CNT p) := .inl (ppFrames_ne_cnt p).symm
  have hcf : (F.PP_CNT_DROP_CNT p).Apart (F.PP_STAT_FRAME_DROP p) := .inl (ppCnt_ne_stat p)
  have hsf : (F.PP_CNT_SAT p).Apart (F.PP_STAT_FRAME_DROP p) := .inl (ppCnt_ne_stat p)
  have hnc : (F.PP_FRAMES_CNT p).Apart (F.PP_CNT_DROP_CNT p) := .inl (ppFrames_ne_cnt p)
  unfold State.ppDropped
  refine ⟨?_, ?_, ?_, ((frame_ppCounted u p (some false) (by simp)).flag (by simp) hf).incCnt (by simp) hc (by simp) hs⟩
  · rw [fld_incCnt_apart _ hc hs hcn hsn, flag_eq, fld_setFld_apart _ _ hf hfn, fld_ppCounted]
  · rw [State.bit, fld_incCnt_apart _ hc hs hcf hsf, ← State.bit, flag_eq, bit_setFld_self _ _ _ hf rfl]
    rfl
  · rw [fld_incCnt_self _ _ _ hc hs hsc, flag_eq, fld_setFld_apart _ _ hf hfc]
    exact congrArg (fun x => min (x + 1) _) (fld_setFld_apart u _ hn hnc)

theorem ppTaken_spec (u : State) (p : Fin 2) (b : Nat) (fr : PpFrame) :
    (u.ppTaken p b fr).fld (F.PP_FRAMES_CNT p) = (u.fld (F.PP_FRAMES_CNT p) + 1) % 2 ^ (F.PP_FRAMES_CNT p).w ∧
      (u.ppTaken p b fr).bit (heldFld p b) = true ∧
      Frame { u with isp := { u.isp with vs := u.isp.vs.set p (some true), frames := u.isp.frames ++ [fr] } } (u.ppTaken p b fr)
        [F.PP_FRAMES_CNT p, heldFld p b] := by
  obtain ⟨hf, hw⟩ := heldFld_fits p b
  have hoff : (heldFld p b).off ≠ R.PP_FRAMES p := by rw [heldFld_off]; exact (ppFrames_ne_stat p).symm
  refine ⟨?_, bit_setFld_self ((u.incWrap (F.PP_FRAMES_CNT p)).setPpVs p (some true)) _ 1 hf hw, ?_⟩
  · exact (fld_setFld_apart _ _ hf (.inl hoff)).trans (fld_ppCounted u p (some true))
  · have h := (frame_ppCounted u p (some true) (fs := [F.PP_FRAMES_CNT p, heldFld p b]) (by simp)).flag (f := heldFld p b) (by simp) hf
    rw [State.ppTaken, setPpVs_eq]
    rw [setPpVs_eq] at h
    exact h.withIsp { u.isp with vs := u.isp.vs.set p (some true), frames := u.isp.frames ++ [fr] }

/-! ### PP_LINE_END (R273, R275) -/

/-- A line ends that no frame receives. -/
theorem exec_ppLineEnd_none {p : Fin 2} {s : State} (pix : List (BitVec 16)) (full : Bool) (h : s.capt p = none) :
    exec (.ppLineEnd p pix full) s = done s s := by
  simp only [exec, execPpLineEnd, h]

theorem exec_frameEnd_none {p : Fin 2} {s : State} (h : s.capt p = none) :
    exec (.frameEnd p) s = done s { s with isp := { s.isp with vs := s.isp.vs.set p none } } := by
  simp only [exec, execFrameEnd, h, setPpVs_eq]

/-- A line beyond the frame's height marks the frame long. -/
theorem ppLineEnd_long {p : Fin 2} {s : State} {fr : PpFrame} (pix : List (BitVec 16)) (full : Bool) (hc : s.capt p = some fr) (hl : fr.h ≤ fr.lines) :
    Completes (.ppLineEnd p pix full) s (fun v => v.bit (F.PP_STAT_LONG_FRAME p) = true ∧
      Frame { s with isp := { s.isp with frames := modCapt p (fun f => { f with long := true }) s.isp.frames } } v [F.PP_STAT_LONG_FRAME p]) := by
  have he : exec (.ppLineEnd p pix full) s = done s
      ({ s with isp := { s.isp with frames := modCapt p (fun f => { f with long := true }) s.isp.frames } }.flag (F.PP_STAT_LONG_FRAME p)) := by
    simp only [exec, execPpLineEnd, hc, if_pos hl]
  have hf : (F.PP_STAT_LONG_FRAME p).lo + (F.PP_STAT_LONG_FRAME p).w ≤ 32 := Nat.le_of_ble_eq_true rfl
  exact completes_of_done he ⟨bit_setFld_self _ (F.PP_STAT_LONG_FRAME p) 1 hf rfl, (Frame.refl _ _).flag (by simp) hf⟩

/-- A line stored as its pixels are: cut or padded to the width, and 0 where the queue was full (R273). -/
def ppLineBytes (fr : PpFrame) (pix : List (BitVec 16)) (full : Bool) : List Byte :=
  ((List.range fr.w).map (fun x => if full then 0 else (pix.getD x 0).toNat % 2 ^ ppDepth fr.fmt)).flatMap (leBytes (ppBytes fr.fmt))

theorem length_ppLineBytes (fr : PpFrame) (pix : List (BitVec 16)) (full : Bool) :
    (ppLineBytes fr pix full).length = fr.w * ppBytes fr.fmt := by
  have hl : (fun x => (leBytes (ppBytes fr.fmt) x).length) = fun _ => ppBytes fr.fmt := funext (length_leBytes _)
  simp [ppLineBytes, List.length_flatMap, hl, Function.comp_def]

/-- One more line counted, with its errors, in the frame a port receives. -/
def State.ppLineCounted (s : State) (p : Fin 2) (bad full : Bool) : State :=
  { s with isp := { s.isp with frames := modCapt p (fun f => { f with lines := f.lines + 1, lerr := f.lerr || bad, ovf := f.ovf || full }) s.isp.frames } }

/-- The flags of a line that came with the wrong length or found the queue full. -/
def State.ppLineFlags (u : State) (p : Fin 2) (bad full : Bool) : State :=
  let v := if bad then u.flag (F.PP_STAT_LINE_ERR p) else u
  if full then v.flag (F.PP_STAT_OVF p) else v

theorem fwdCounts_ne_ppStat (p : Fin 2) : ∀ f ∈ fwdCounts, f.off ≠ R.PP_STAT p := by
  intro f hf he
  have hb := (fwdCounts_fits hf).2
  simp (disch := simp only [R.PP_STAT]; omega) only [he, blockOf, if_neg, if_pos] at hb
  exact absurd hb (by decide)

theorem exec_ppLineEnd_line {p : Fin 2} {s : State} {fr : PpFrame} (pix : List (BitVec 16)) (full : Bool) (hc : s.capt p = some fr)
    (hl : fr.lines < fr.h) :
    exec (.ppLineEnd p pix full) s = done s
      (((if s.inDdr (s.ppBuf p fr.buf + fr.lines * (fr.w * ppBytes fr.fmt)) (fr.w * ppBytes fr.fmt) then
          s.memStore (s.ppBuf p fr.buf + fr.lines * (fr.w * ppBytes fr.fmt)) (ppLineBytes fr pix full) else s).ppLineCounted p
        (pix.length != fr.w || full) full).ppLineFlags p (pix.length != fr.w || full) full) := by
  simp only [exec, execPpLineEnd, hc, if_neg (not_le.mpr hl), ← Nat.mul_assoc]
  rfl

theorem ppLineFlags_spec (u : State) (p : Fin 2) (bad full : Bool) :
    (u.ppLineFlags p bad full).bit (F.PP_STAT_LINE_ERR p) = (u.bit (F.PP_STAT_LINE_ERR p) || bad) ∧
      (u.ppLineFlags p bad full).bit (F.PP_STAT_OVF p) = (u.bit (F.PP_STAT_OVF p) || full) ∧
      (u.ppLineFlags p bad full).ddr = u.ddr ∧ ∀ {s : State} {fs : List Fld}, F.PP_STAT_LINE_ERR p ∈ fs → F.PP_STAT_OVF p ∈ fs → Frame s u fs →
        Frame s (u.ppLineFlags p bad full) fs := by
  have he : (F.PP_STAT_LINE_ERR p).lo + (F.PP_STAT_LINE_ERR p).w ≤ 32 := Nat.le_of_ble_eq_true rfl
  have ho : (F.PP_STAT_OVF p).lo + (F.PP_STAT_OVF p).w ≤ 32 := Nat.le_of_ble_eq_true rfl
  have heo : (F.PP_STAT_LINE_ERR p).Apart (F.PP_STAT_OVF p) := .inr (.inr (Nat.le_of_ble_eq_true rfl))
  have hoe : (F.PP_STAT_OVF p).Apart (F.PP_STAT_LINE_ERR p) := .inr (.inl (Nat.le_of_ble_eq_true rfl))
  unfold State.ppLineFlags
  refine ⟨?_, ?_, ?_, fun hme hmo h => (h.ite_flag bad hme he).ite_flag full hmo ho⟩
  · rw [bit_ite_flag_apart _ full ho hoe, bit_ite_flag_self _ _ bad he rfl]
  · rw [bit_ite_flag_self _ _ full ho rfl, bit_ite_flag_apart _ bad he heo]
  · cases bad <;> cases full <;> rfl

/-- What storing a line does: its bytes, where DDR-4 is installed there, and nothing else but counts of the write queues' answers. -/
theorem ppLine_stored {s : State} {a : Nat} {bs : List Byte} (h : ∀ l ∈ lineRange a bs.length, s.poison.contains l = false) :
    let u := if s.inDdr a bs.length then s.memStore a bs else s
    (s.inDdr a bs.length = true → u.memRead a bs.length = bs) ∧ Frame { s with ddr := u.ddr } u fwdCounts ∧ u.isp = s.isp ∧
      ∀ x, x < a ∨ a + (if s.inDdr a bs.length then bs.length else 0) ≤ x → memGet u.ddr x = memGet s.ddr x := by
  cases hin : s.inDdr a bs.length with
  | false => exact ⟨fun h => absurd h Bool.false_ne_true, Frame.refl s _, rfl, fun _ _ => rfl⟩
  | true =>
    have hv : s.bit F.DMC_INSTALLED_VALID = true := by
      rw [State.inDdr, Bool.and_eq_true] at hin
      exact hin.1
    obtain ⟨r, hf, he⟩ := memStore_unpoisoned hv h
    simp only [if_true]
    rw [he]
    exact ⟨fun _ => memRange_memSetAll _ _ _, hf.withDdr _, rfl, fun x hx => (memGet_memSetAll bs s.ddr a x).trans (if_neg (by omega))⟩

/-- A line below the frame's height is stored at its place, where nothing is poisoned. -/
theorem ppLineEnd_line {p : Fin 2} {s : State} {fr : PpFrame} (pix : List (BitVec 16)) (full : Bool) (hc : s.capt p = some fr)
    (hl : fr.lines < fr.h) :
    let bad := pix.length ≠ fr.w ∨ full = true
    let n := fr.w * ppBytes fr.fmt
    let a := s.ppBuf p fr.buf + fr.lines * n
    (lineRange a n).all (fun l => !s.poison.contains l) = true →
    Completes (.ppLineEnd p pix full) s (fun v =>
      v.bit (F.PP_STAT_LINE_ERR p) = (s.bit (F.PP_STAT_LINE_ERR p) || decide bad) ∧ v.bit (F.PP_STAT_OVF p) = (s.bit (F.PP_STAT_OVF p) || full) ∧
      (s.inDdr a n = true → v.memRead a n = ppLineBytes fr pix full) ∧
      FrameStore (s.ppLineCounted p (decide bad) full) v a (if s.inDdr a n then n else 0) ([F.PP_STAT_LINE_ERR p, F.PP_STAT_OVF p] ++ fwdCounts)) := by
  intro bad n a hp
  have hbad : decide bad = (pix.length != fr.w || full) := by
    simp only [bad, Bool.decide_or, ne_eq, decide_not, Bool.decide_eq_true]
    rfl
  have hp' : ∀ l ∈ lineRange a (ppLineBytes fr pix full).length, s.poison.contains l = false := by
    rw [length_ppLineBytes]
    simpa using hp
  have hst := ppLine_stored hp'
  rw [length_ppLineBytes] at hst
  extract_lets u at hst
  obtain ⟨hread, hframe, hisp, hmem⟩ := hst
  have hbits : ∀ f : Fld, f.off = R.PP_STAT p → u.bit f = s.bit f := fun f hf =>
    bit_of_rd_eq f (hframe.rd (fieldBits_eq_zero (fun g hg => by rw [hf]; exact fwdCounts_ne_ppStat p g hg)))
  have hcounted : Frame { s.ppLineCounted p (decide bad) full with ddr := u.ddr } (u.ppLineCounted p (decide bad) full)
      ([F.PP_STAT_LINE_ERR p, F.PP_STAT_OVF p] ++ fwdCounts) := by
    have he : u.ppLineCounted p (decide bad) full = { u with isp := (s.ppLineCounted p (decide bad) full).isp } := by
      rw [State.ppLineCounted, State.ppLineCounted, hisp]
    rw [he]
    exact (hframe.withIsp (s.ppLineCounted p (decide bad) full).isp).append _
  obtain ⟨herr, hovf, hddr, hflags⟩ := ppLineFlags_spec (u.ppLineCounted p (decide bad) full) p (decide bad) full
  refine completes_of_done (exec_ppLineEnd_line pix full hc hl) ?_
  rw [← hbad]
  refine ⟨herr.trans ?_, hovf.trans ?_, fun hin => ?_, FrameStore.of_frame ?_ ?_⟩
  · exact congrArg (· || decide bad) (hbits _ rfl)
  · exact congrArg (· || full) (hbits _ rfl)
  · rw [State.memRead, hddr]
    exact hread hin
  · rw [hddr]
    exact hflags (by simp) (by simp) hcounted
  · rw [hddr]
    exact hmem

/-! ### FRAME_END (R273) -/

/-- The frame a port receives is closed; `short` says whether lines were missing. -/
def State.ppClosed (s : State) (p : Fin 2) (short : Bool) : State :=
  { s with isp := { s.isp with vs := s.isp.vs.set p none, frames := modCapt p (fun f => { f with short := short, ended := true }) s.isp.frames } }

theorem exec_frameEnd_some {p : Fin 2} {s : State} {fr : PpFrame} (h : s.capt p = some fr) :
    exec (.frameEnd p) s = done s
      (let u := if decide (fr.lines < fr.h) then (s.ppClosed p (decide (fr.lines < fr.h))).flag (F.PP_STAT_SHORT_FRAME p)
                else s.ppClosed p (decide (fr.lines < fr.h))
       if decide (fr.lines < fr.h) || fr.long || fr.lerr then u.incCnt (F.PP_CNT_ERR_CNT p) (F.PP_CNT_SAT p) else u) := by
  simp only [exec, execFrameEnd, h, setPpVs_eq, decide_eq_true_eq]
  rfl

theorem frameEnd_closes {p : Fin 2} {s : State} {fr : PpFrame} (h : s.capt p = some fr) :
    let short := decide (fr.lines < fr.h)
    Completes (.frameEnd p) s (fun v => v.bit (F.PP_STAT_SHORT_FRAME p) = (s.bit (F.PP_STAT_SHORT_FRAME p) || short) ∧
      v.fld (F.PP_CNT_ERR_CNT p) = min (s.fld (F.PP_CNT_ERR_CNT p) + b2n (short || fr.long || fr.lerr)) (2 ^ (F.PP_CNT_ERR_CNT p).w - 1) ∧
      Frame (s.ppClosed p short) v [F.PP_STAT_SHORT_FRAME p, F.PP_CNT_ERR_CNT p, F.PP_CNT_SAT p]) := by
  intro short
  have hf : (F.PP_STAT_SHORT_FRAME p).lo + (F.PP_STAT_SHORT_FRAME p).w ≤ 32 := Nat.le_of_ble_eq_true rfl
  have hc : (F.PP_CNT_ERR_CNT p).lo + (F.PP_CNT_ERR_CNT p).w ≤ 32 := Nat.le_of_ble_eq_true rfl
  have hs : (F.PP_CNT_SAT p).lo + (F.PP_CNT_SAT p).w ≤ 32 := Nat.le_of_ble_eq_true rfl
  have hsc : (F.PP_CNT_SAT p).Apart (F.PP_CNT_ERR_CNT p) := .inr (.inl (Nat.le_of_ble_eq_true rfl))
  have hfc : (F.PP_STAT_SHORT_FRAME p).Apart (F.PP_CNT_ERR_CNT p) := .inl (ppCnt_ne_stat p).symm
  have hcf : (F.PP_CNT_ERR_CNT p).Apart (F.PP_STAT_SHORT_FRAME p) := .inl (ppCnt_ne_stat p)
  have hsf : (F.PP_CNT_SAT p).Apart (F.PP_STAT_SHORT_FRAME p) := .inl (ppCnt_ne_stat p)
  refine completes_of_done (exec_frameEnd_some h) ?_
  extract_lets u
  have hbit : u.bit (F.PP_STAT_SHORT_FRAME p) = (s.bit (F.PP_STAT_SHORT_FRAME p) || short) :=
    bit_ite_flag_self (s.ppClosed p short) _ short hf rfl
  have hcnt : u.fld (F.PP_CNT_ERR_CNT p) = s.fld (F.PP_CNT_ERR_CNT p) := fld_ite_flag_apart (s.ppClosed p short) short hf hfc
  have hframe : Frame (s.ppClosed p short) u [F.PP_STAT_SHORT_FRAME p, F.PP_CNT_ERR_CNT p, F.PP_CNT_SAT p] :=
    (Frame.refl _ _).ite_flag short (by simp) hf
  cases short || fr.long || fr.lerr with
  | true =>
    rw [if_pos rfl, fld_incCnt_self _ _ _ hc hs hsc, hcnt, State.bit,
      fld_incCnt_apart _ hc hs hcf hsf, ← State.bit]
    exact ⟨hbit, rfl, hframe.incCnt (by simp) hc (by simp) hs⟩
  | false =>
    have hlt := fld_lt s (F.PP_CNT_ERR_CNT p)
    rw [if_neg Bool.false_ne_true, hcnt]
    exact ⟨hbit, (Nat.min_eq_left (Nat.le_sub_one_of_lt hlt)).symm, hframe⟩

/-- Settles O38: a frame starts, its lines are stored or refused, and it closes, each by the lemma that says what the command does to its port. -/
theorem areaPortsReceiveFrames : Obligations.AreaPortsReceiveFrames := by
  unfold Obligations.AreaPortsReceiveFrames
  refine ⟨fun p s h => ?idle, fun p s hh he hv h0 h1 => ?dropped, fun p s hh he hv h => ?taken, fun p pix full s h => ?none,
    fun p pix full s fr h hl => ?long, fun p pix full s fr h hl => ?line, fun p s fr h => ?ended⟩
  case idle => exact completes_of_done (exec_frameStart_idle h) rfl
  case dropped => exact completes_of_done (exec_frameStart_dropped hh he hv h0 h1) (ppDropped_spec _ p)
  case taken => exact completes_of_done (exec_frameStart_taken hh he hv h) (ppTaken_spec _ p _ _)
  case none => exact ⟨completes_of_done (exec_ppLineEnd_none pix full h) rfl, completes_of_done (exec_frameEnd_none h) rfl⟩
  case long => exact ppLineEnd_long pix full h hl
  case line => exact ppLineEnd_line pix full h hl
  case ended => exact frameEnd_closes h

end Sys2Proof.Machine
end

section
/-!
PROOFS. The sensor groups: clocks measured, lost and returned, syncs, and channels started and stopped (R305, R307, R309, R311, R312, R314, R315).
-/
namespace Sys2Proof.Machine

/-! ### Resets of a group's channels (R307, R311) -/

/-- From `s` to `v` the enabled ones of the channels `c` are reset. -/
structure SdfResets (s v : State) (c : Nat → Bool) : Prop where
  ch       : ∀ n : Fin 16, v.sdf.ch[n] = if (c n && s.bit (F.SDF_CH_CTL_EN n)) = true then s.sdf.ch[n].cleared else s.sdf.ch[n]
  settling : ∀ n : Fin 16, v.bit (F.SDF_CH_STAT_SETTLING n) = (s.bit (F.SDF_CH_STAT_SETTLING n) || (c n && s.bit (F.SDF_CH_CTL_EN n)))
  sdf      : v.sdf = { s.sdf with ch := v.sdf.ch }
  frame    : Frame { s with sdf := v.sdf } v ((List.range 16).map F.SDF_CH_STAT_SETTLING)

theorem settling_ne {off : Nat} (h : ∀ m, off ≠ R.SDF_CH_STAT m) : ∀ f ∈ (List.range 16).map F.SDF_CH_STAT_SETTLING, f.off ≠ off := by
  intro f hf
  obtain ⟨m, -, rfl⟩ := List.mem_map.mp hf
  exact (h m).symm

theorem SdfResets.en {s v : State} {c : Nat → Bool} (h : SdfResets s v c) (n : Nat) : v.bit (F.SDF_CH_CTL_EN n) = s.bit (F.SDF_CH_CTL_EN n) :=
  bit_of_rd_eq _ (h.frame.rd (fieldBits_eq_zero (settling_ne (fun m => by simp only [F.SDF_CH_CTL_EN, R.SDF_CH_CTL, R.SDF_CH_STAT]; omega))))

theorem SdfResets.refl (s : State) : SdfResets s s (fun _ => false) :=
  ⟨fun _ => rfl, fun _ => by simp, rfl, Frame.refl s _⟩

/-- What SDF hides moves at both ends of a frame. -/
theorem Frame.withSdf {s v : State} {fs : List Fld} (h : Frame s v fs) (x : SdfS) : Frame { s with sdf := x } { v with sdf := x } fs :=
  h.of_eq rfl rfl rfl rfl rfl rfl (congrArg (fun y : State => { y with sdf := x }) h.rest)

theorem SdfResets.trans {s t v : State} {c d : Nat → Bool} (h : SdfResets s t c) (k : SdfResets t v d) : SdfResets s v (fun n => c n || d n) := by
  refine ⟨fun n => ?_, fun n => ?_, ?_, ?_⟩
  · rw [k.ch, h.ch, h.en]
    cases c n <;> cases d n <;> cases s.bit (F.SDF_CH_CTL_EN n) <;> rfl
  · rw [k.settling, h.settling, h.en]
    cases c n <;> cases d n <;> simp
  · rw [k.sdf, h.sdf]
  · exact (h.frame.withSdf v.sdf).trans k.frame

theorem sdfCh_fin (s : State) (n : Fin 16) : s.sdfCh n = s.sdf.ch[n] := vget_fin _ _ _

theorem setSdfCh_fin (s : State) (n : Fin 16) (c : SdfCh) : s.setSdfCh n c = { s with sdf := { s.sdf with ch := s.sdf.ch.set n c } } := by
  rw [State.setSdfCh, vput_fin]

theorem sdfReset_fin (s : State) (n : Fin 16) : s.sdfReset n =
    { s with sdf := { s.sdf with ch := s.sdf.ch.set n s.sdf.ch[n].cleared } }.setFld (F.SDF_CH_STAT_SETTLING n) 1 := by
  rw [State.sdfReset, sdfCh_fin, setSdfCh_fin]

theorem ch_set (v : Vector SdfCh 16) (m n : Fin 16) (c : SdfCh) : (v.set m c)[n] = if n = m then c else v[n] := by
  simp [Vector.getElem_set, Fin.ext_iff, eq_comm]

/-- SETTLING set on one channel, and kept on the others. -/
theorem bit_settling (s : State) (m n : Nat) :
    (s.setFld (F.SDF_CH_STAT_SETTLING m) 1).bit (F.SDF_CH_STAT_SETTLING n) = (s.bit (F.SDF_CH_STAT_SETTLING n) || n == m) := by
  by_cases hnm : n = m
  · subst hnm
    rw [bit_setFld_self _ _ _ (Nat.le_of_ble_eq_true rfl) rfl]
    simp
  · rw [bit_setFld_apart _ _ (Nat.le_of_ble_eq_true rfl) (.inl (by simp only [F.SDF_CH_STAT_SETTLING, R.SDF_CH_STAT]; omega))]
    simp [hnm]

/-- One channel that is enabled is reset. -/
theorem sdfReset_resets {s : State} {m : Fin 16} (h : s.bit (F.SDF_CH_CTL_EN m) = true) : SdfResets s (s.sdfReset m) (fun n => n == m) := by
  rw [sdfReset_fin]
  have hlist : F.SDF_CH_STAT_SETTLING m ∈ (List.range 16).map F.SDF_CH_STAT_SETTLING := List.mem_map.mpr ⟨m, List.mem_range.mpr m.isLt, rfl⟩
  refine ⟨fun n => ?_, fun n => (bit_settling _ m n).trans ?_, rfl, (Frame.refl _ _).setFld 1 hlist (Nat.le_of_ble_eq_true rfl)⟩
  · refine (ch_set s.sdf.ch m n _).trans ?_
    by_cases hnm : n = m
    · subst hnm
      rw [if_pos rfl, if_pos (by simp [h])]
    · rw [if_neg hnm, if_neg (by simp [Fin.val_inj, hnm])]
  · by_cases hnm : n = m
    · subst hnm
      rw [h, Bool.and_true]
      rfl
    · rw [show (n.val == m.val) = false by simp [Fin.val_inj, hnm], Bool.false_and]
      rfl

/-- A channel is reset where it is enabled. -/
def State.sdfResetEn (s : State) (m : Nat) : State := if s.bit (F.SDF_CH_CTL_EN m) then s.sdfReset m else s

theorem sdfResetEn_resets (s : State) (m : Fin 16) : SdfResets s (s.sdfResetEn m) (fun n => n == m) := by
  unfold State.sdfResetEn
  split
  · rename_i h
    exact sdfReset_resets h
  · rename_i h
    have hoff : ∀ n : Fin 16, (n.val == m.val && s.bit (F.SDF_CH_CTL_EN n)) = false := by
      intro n
      by_cases hnm : n = m
      · subst hnm
        simp [h]
      · simp [Fin.val_inj, hnm]
    exact ⟨fun n => by rw [if_neg (by rw [hoff]; decide)], fun n => by rw [hoff, Bool.or_false], rfl, Frame.refl s _⟩

theorem foldl_sdfResetEn (l : List Nat) (h : ∀ m ∈ l, m < 16) (s : State) :
    SdfResets s (l.foldl State.sdfResetEn s) (fun n => l.contains n) := by
  induction l generalizing s with
  | nil => exact SdfResets.refl s
  | cons m l ih =>
    have hm := sdfResetEn_resets s ⟨m, h m (by simp)⟩
    have hl := ih (fun x hx => h x (by simp [hx])) (s.sdfResetEn m)
    have hc : (fun n => (m :: l).contains n) = fun n => n == m || l.contains n := by
      funext n
      rw [List.contains_cons]
    rw [hc]
    exact hm.trans hl

/-- The enabled channels of a group are reset. -/
theorem sdfResetGroup_resets (s : State) (g : Fin 4) : SdfResets s (s.sdfResetGroup g) (fun n => n / 4 == g) := by
  have hfold : s.sdfResetGroup g = ((List.range 4).map (4 * g.val + ·)).foldl State.sdfResetEn s := by
    rw [List.foldl_map]
    rfl
  have hmem : ∀ n, ((List.range 4).map (4 * g.val + ·)).contains n = (n / 4 == g) := by
    intro n
    rw [Bool.eq_iff_iff]
    simp only [List.contains_iff_mem, List.mem_map, List.mem_range, beq_iff_eq]
    exact ⟨fun ⟨k, hk, he⟩ => by omega, fun he => ⟨n % 4, by omega, by omega⟩⟩
  rw [hfold, ← funext hmem]
  refine foldl_sdfResetEn _ (fun m hm => ?_) s
  have := hmem m
  simp only [List.contains_iff_mem.mpr hm] at this
  simp only [Bool.true_eq, beq_iff_eq] at this
  omega

/-! ### The ready bit of SDF (R315) -/

theorem setGone_fin (s : State) (g : Fin 4) (b : Bool) : s.setGone g b = { s with sdf := { s.sdf with gone := s.sdf.gone.set g b } } := by
  rw [State.setGone, vput_fin]

theorem clearSync_fin (s : State) (g : Fin 4) : s.clearSync g = { s with sdf := { s.sdf with sync := s.sdf.sync.set g false } } := by
  rw [State.clearSync, vput_fin]

/-- What the ready bit of SDF leaves, after a change of the registers `w` from `s` to `t`. -/
structure SdfReady (s t v : State) (w : Nat → Bool) : Prop where
  own   : ∀ off, blockOf off = some .sdf → v.rd off = t.rd off
  sdf   : v.sdf = t.sdf
  ready : v.bit ⟨R.TOP_READY, 10, 1⟩ = ((List.range 16).any (fun n => t.bit (F.SDF_CH_CTL_EN n)) &&
    (List.range 4).all (fun g => t.fld (F.SDF_GRP_CTL_MODE g) = 0 || t.bit (F.SDF_GRP_STAT_RUN g)))
  mem   : FrameMem s v s.spillByte
  regs  : FrameRegs s v (fun off => w off || off == R.TOP_READY || inBlocks [.hostq, .seg, .time] off)

theorem updSdf_ready {s t : State} {w : Nat → Bool} (hw : FrameRegs s t w) (hs : w R.SEG_SPILL_CTL = false) (hd : t.ddr = s.ddr) :
    SdfReady s t t.updSdf w := by
  have hf : ReadyFrame t t.updSdf 10 _ := setReady_frame t 10 _
  have hspill : t.spillByte = s.spillByte := spillByte_of_rd_eq (hw _ hs)
  have hoff : (readyFld 10).off = R.TOP_READY := rfl
  refine ⟨fun off ho => hf.regs off ?_, sdf_of_offRecord hf.rest, hf.ready, fun a ha => ?_, fun off ho => ?_⟩
  · have hne : off ≠ R.TOP_READY := fun he => absurd ho (by rw [he]; decide)
    simp [hoff, hne, recordReg_of_block ho (by decide)]
  · exact (hf.mem a (by rw [hspill]; exact ha)).trans (by rw [hd])
  · simp only [Bool.or_eq_false_iff] at ho
    obtain ⟨⟨h1, h2⟩, h3⟩ := ho
    refine (hf.regs off ?_).trans (hw off h1)
    rw [Bool.or_eq_false_iff]
    exact ⟨h2, Bool.eq_false_iff.mpr (fun h => by simp [inBlocks_of_recordReg h] at h3)⟩

/-! ### Registers of SDF -/

theorem blockOf_sdfGrpPer (g : Fin 4) : blockOf (R.SDF_GRP_PER g) = some .sdf :=
  blockOf_sdf (by simp only [R.SDF_GRP_PER]; omega) (by simp only [R.SDF_GRP_PER]; omega)

theorem blockOf_sdfGrpStat (g : Fin 4) : blockOf (R.SDF_GRP_STAT g) = some .sdf :=
  blockOf_sdf (by simp only [R.SDF_GRP_STAT]; omega) (by simp only [R.SDF_GRP_STAT]; omega)

theorem blockOf_sdfChCtl (n : Fin 16) : blockOf (R.SDF_CH_CTL n) = some .sdf :=
  blockOf_sdf (by simp only [R.SDF_CH_CTL]; omega) (by simp only [R.SDF_CH_CTL]; omega)

theorem blockOf_sdfChFir (n : Fin 16) : blockOf (R.SDF_CH_FIR n) = some .sdf :=
  blockOf_sdf (by simp only [R.SDF_CH_FIR]; omega) (by simp only [R.SDF_CH_FIR]; omega)

theorem blockOf_sdfChGd (n : Fin 16) : blockOf (R.SDF_CH_GD n) = some .sdf :=
  blockOf_sdf (by simp only [R.SDF_CH_GD]; omega) (by simp only [R.SDF_CH_GD]; omega)

theorem blockOf_sdfChStat {n : Nat} (h : n < 16) : blockOf (R.SDF_CH_STAT n) = some .sdf :=
  blockOf_sdf (by simp only [R.SDF_CH_STAT]; omega) (by simp only [R.SDF_CH_STAT]; omega)

theorem sdfGrpPer_ne_stat (g : Nat) : R.SDF_GRP_PER g ≠ R.SDF_GRP_STAT g := by simp only [R.SDF_GRP_PER, R.SDF_GRP_STAT]; omega

/-! ### Clocks (R305) -/

/-- A clock out of range: under 38 ns or over 210 ns. -/
def clockOff (per : Word) : Bool := decide (per.toNat < 38 * 65536 ∨ 210 * 65536 < per.toNat)

/-- The state with a measured period. -/
def State.sdfMeasured (s : State) (g : Fin 4) (per : Word) : State :=
  let t := (s.put (R.SDF_GRP_PER g) per).flag (F.SDF_GRP_STAT_RUN g)
  if clockOff per then t.flag (F.SDF_GRP_STAT_CLK_RANGE g) else t

theorem exec_sdfPeriodUpdate {s : State} {g : Fin 4} (per : Word) (hm : s.fld (F.SDF_GRP_CTL_MODE g) ≠ 0) (hg : s.sdfGone g = false) :
    exec (.sdfPeriodUpdate g per) s = done s (s.sdfMeasured g per).updSdf := by
  simp only [exec, execSdfPeriodUpdate, if_neg (show ¬ (s.fld (F.SDF_GRP_CTL_MODE g) = 0 ∨ s.sdfGone g = true) by simp [hm, hg]),
    State.sdfMeasured, clockOff, decide_eq_true_eq]

theorem sdfPeriodUpdate_measures {s : State} {g : Fin 4} (per : Word) (hm : s.fld (F.SDF_GRP_CTL_MODE g) ≠ 0) (hg : s.sdfGone g = false) :
    Completes (.sdfPeriodUpdate g per) s (fun v => v.rd (R.SDF_GRP_PER g) = per ∧ v.bit (F.SDF_GRP_STAT_RUN g) = true ∧
      v.bit (F.SDF_GRP_STAT_CLK_RANGE g) = (s.bit (F.SDF_GRP_STAT_CLK_RANGE g) || clockOff per) ∧
      v.sdf = s.sdf ∧ FrameMem s v s.spillByte ∧
      FrameRegs s v (fun off => off == R.SDF_GRP_PER g || off == R.SDF_GRP_STAT g || off == R.TOP_READY || off == R.PWR_CLASS 0x0D || inBlocks [.hostq, .seg, .time] off)) := by
  let t := s.sdfMeasured g per
  have hrun : (F.SDF_GRP_STAT_RUN g).lo + (F.SDF_GRP_STAT_RUN g).w ≤ 32 := Nat.le_of_ble_eq_true rfl
  have hrange : (F.SDF_GRP_STAT_CLK_RANGE g).lo + (F.SDF_GRP_STAT_CLK_RANGE g).w ≤ 32 := Nat.le_of_ble_eq_true rfl
  have hrr : (F.SDF_GRP_STAT_CLK_RANGE g).Apart (F.SDF_GRP_STAT_RUN g) := .inr (.inl (Nat.le_of_ble_eq_true rfl))
  have hrr' : (F.SDF_GRP_STAT_RUN g).Apart (F.SDF_GRP_STAT_CLK_RANGE g) := .inr (.inr (Nat.le_of_ble_eq_true rfl))
  have hstat : ∀ off, off ≠ R.SDF_GRP_STAT g → t.rd off = (s.put (R.SDF_GRP_PER g) per).rd off := by
    intro off ho
    simp only [t, State.sdfMeasured]
    split
    · exact (rd_setFld_ne _ (F.SDF_GRP_STAT_CLK_RANGE g) 1 ho).trans (rd_setFld_ne _ (F.SDF_GRP_STAT_RUN g) 1 ho)
    · exact rd_setFld_ne _ (F.SDF_GRP_STAT_RUN g) 1 ho
  have hregs : FrameRegs s t (fun off => off == R.SDF_GRP_PER g || off == R.SDF_GRP_STAT g) := by
    intro off ho
    simp only [Bool.or_eq_false_iff, beq_eq_false_iff_ne] at ho
    exact (hstat off ho.2).trans (rd_put_ne s per ho.1)
  have hdata : t.ddr = s.ddr ∧ t.sdf = s.sdf := by
    simp only [t, State.sdfMeasured]
    split <;> exact ⟨rfl, rfl⟩
  have hr := updSdf_ready hregs (by simp [R.SEG_SPILL_CTL, R.SDF_GRP_PER, R.SDF_GRP_STAT]; omega) hdata.1
  refine completes_of_done (exec_sdfPeriodUpdate per hm hg) ⟨?_, ?_, ?_, hr.sdf.trans hdata.2, hr.mem, fun off ho => hr.regs off ?_⟩
  · rw [hr.own _ (blockOf_sdfGrpPer g), hstat _ (sdfGrpPer_ne_stat g), rd_put_self]
  · rw [bit_of_rd_eq (s := t) _ (hr.own _ (blockOf_sdfGrpStat g))]
    exact (bit_ite_flag_apart _ (clockOff per) hrange hrr).trans (bit_setFld_self _ (F.SDF_GRP_STAT_RUN g) 1 hrun rfl)
  · rw [bit_of_rd_eq (s := t) _ (hr.own _ (blockOf_sdfGrpStat g))]
    refine (bit_ite_flag_self _ _ (clockOff per) hrange rfl).trans (congrArg (· || clockOff per) ?_)
    exact (bit_setFld_apart _ 1 hrun hrr').trans (bit_of_rd_eq _ (rd_put_ne s per (sdfGrpPer_ne_stat g).symm))
  · simp only [Bool.or_eq_false_iff] at ho ⊢
    tauto

/-- The channels of a list settle, and besides nothing changes. -/
theorem foldl_settling (l : List Nat) (s : State) :
    let v := l.foldl (fun s m => s.setFld (F.SDF_CH_STAT_SETTLING m) 1) s
    (∃ r, v = { s with regs := r }) ∧ FrameRegs s v (fun off => l.any (fun m => off == R.SDF_CH_STAT m)) ∧
      ∀ n, v.bit (F.SDF_CH_STAT_SETTLING n) = (s.bit (F.SDF_CH_STAT_SETTLING n) || l.contains n) := by
  induction l generalizing s with
  | nil => exact ⟨⟨s.regs, rfl⟩, fun _ _ => rfl, fun _ => by simp⟩
  | cons m l ih =>
    obtain ⟨⟨r, hr⟩, hregs, hbit⟩ := ih (s.setFld (F.SDF_CH_STAT_SETTLING m) 1)
    refine ⟨⟨r, hr⟩, fun off ho => ?_, fun n => ?_⟩
    · simp only [List.any_cons, Bool.or_eq_false_iff, beq_eq_false_iff_ne] at ho
      exact (hregs off ho.2).trans (rd_setFld_ne s (F.SDF_CH_STAT_SETTLING m) 1 ho.1)
    · rw [List.contains_cons, ← Bool.or_assoc, ← bit_settling s m n]
      exact hbit n

/-- The group's own flags once its clock is lost. -/
def State.sdfStopped (s : State) (g : Fin 4) : State :=
  ((s.setFld (F.SDF_GRP_STAT_RUN g) 0).flag (F.SDF_GRP_STAT_CLK_LOST g)).putN (R.SDF_GRP_PER g) 0

/-- The state without the group's clock. -/
def State.sdfLost (s : State) (g : Fin 4) : State :=
  (((List.range 4).map (4 * g.val + ·)).foldl (fun s m => s.setFld (F.SDF_CH_STAT_SETTLING m) 1) (s.sdfStopped g)).setGone g true

theorem exec_sdfClockLost {s : State} {g : Fin 4} (hm : s.fld (F.SDF_GRP_CTL_MODE g) ≠ 0) :
    exec (.sdfClockLost g) s = done s (s.sdfLost g).updSdf := by
  simp only [exec, execSdfClockLost, if_neg hm, State.sdfLost, List.foldl_map]
  rfl

/-- Which registers the loss of group `g`'s clock changes of itself. -/
def sdfLostReg (g off : Nat) : Bool :=
  off == R.SDF_GRP_PER g || off == R.SDF_GRP_STAT g || (List.range 4).any (fun k => off == R.SDF_CH_STAT (4 * g + k))

theorem sdfLostReg_eq_false {g off : Nat} (h1 : off ≠ R.SDF_GRP_PER g) (h2 : off ≠ R.SDF_GRP_STAT g) (h3 : ∀ m, off ≠ R.SDF_CH_STAT m) :
    sdfLostReg g off = false := by simp [sdfLostReg, h1, h2, h3]

theorem rd_setGone (s : State) (g : Nat) (b : Bool) (off : Nat) : (s.setGone g b).rd off = s.rd off := rfl

theorem rd_sdfLost (s : State) (g : Fin 4) {off : Nat} (h : (List.range 4).any (fun k => off == R.SDF_CH_STAT (4 * g + k)) = false) :
    (s.sdfLost g).rd off = (s.sdfStopped g).rd off := by
  obtain ⟨-, hsettled, -⟩ := foldl_settling ((List.range 4).map (4 * g.val + ·)) (s.sdfStopped g)
  rw [State.sdfLost, rd_setGone]
  refine hsettled off ?_
  dsimp only
  rw [List.any_map]
  exact h

theorem rd_sdfLost_group (s : State) (g : Fin 4) {off : Nat} (h : ∀ m, off ≠ R.SDF_CH_STAT m) : (s.sdfLost g).rd off = (s.sdfStopped g).rd off :=
  rd_sdfLost s g (by simp [h])

theorem sdfLost_ddr_sdf (s : State) (g : Fin 4) :
    (s.sdfLost g).ddr = s.ddr ∧ (s.sdfLost g).sdf = { s.sdf with gone := s.sdf.gone.set g true } := by
  obtain ⟨⟨r, hfold⟩, -, -⟩ := foldl_settling ((List.range 4).map (4 * g.val + ·)) (s.sdfStopped g)
  rw [State.sdfLost, hfold, setGone_fin]
  exact ⟨rfl, rfl⟩

theorem bit_sdfLost_settling (s : State) (g k : Fin 4) : (s.sdfLost g).bit (F.SDF_CH_STAT_SETTLING (4 * g + k)) = true := by
  obtain ⟨-, -, hbit⟩ := foldl_settling ((List.range 4).map (4 * g.val + ·)) (s.sdfStopped g)
  rw [State.sdfLost, bit_of_rd_eq _ (rd_setGone _ _ _ _), hbit]
  simp

theorem sdfLost_regs (s : State) (g : Fin 4) : FrameRegs s (s.sdfLost g) (sdfLostReg g) := by
  intro off ho
  simp only [sdfLostReg, Bool.or_eq_false_iff, beq_eq_false_iff_ne] at ho
  obtain ⟨⟨h1, h2⟩, h3⟩ := ho
  rw [rd_sdfLost s g h3, State.sdfStopped, putN_eq, rd_put_ne _ _ h1, flag_eq, rd_setFld_ne _ (F.SDF_GRP_STAT_CLK_LOST g) 1 h2,
    rd_setFld_ne s (F.SDF_GRP_STAT_RUN g) 0 h2]

theorem sdfLost_group (s : State) (g : Fin 4) : (s.sdfLost g).rd (R.SDF_GRP_PER g) = 0 ∧ (s.sdfLost g).bit (F.SDF_GRP_STAT_RUN g) = false ∧
    (s.sdfLost g).bit (F.SDF_GRP_STAT_CLK_LOST g) = true := by
  have hrun : (F.SDF_GRP_STAT_RUN g).lo + (F.SDF_GRP_STAT_RUN g).w ≤ 32 := Nat.le_of_ble_eq_true rfl
  have hlost : (F.SDF_GRP_STAT_CLK_LOST g).lo + (F.SDF_GRP_STAT_CLK_LOST g).w ≤ 32 := Nat.le_of_ble_eq_true rfl
  have hlr : (F.SDF_GRP_STAT_CLK_LOST g).Apart (F.SDF_GRP_STAT_RUN g) := .inr (.inl (Nat.le_of_ble_eq_true rfl))
  have hstat : (s.sdfLost g).rd (R.SDF_GRP_STAT g) =
      ((s.setFld (F.SDF_GRP_STAT_RUN g) 0).setFld (F.SDF_GRP_STAT_CLK_LOST g) 1).rd (R.SDF_GRP_STAT g) := by
    rw [rd_sdfLost_group s g (fun m => by simp only [R.SDF_GRP_STAT, R.SDF_CH_STAT]; omega), State.sdfStopped, putN_eq,
      rd_put_ne _ _ (sdfGrpPer_ne_stat g).symm, flag_eq]
  refine ⟨?_, ?_, ?_⟩
  · rw [rd_sdfLost_group s g (fun m => by simp only [R.SDF_GRP_PER, R.SDF_CH_STAT]; omega), State.sdfStopped, putN_eq, rd_put_self]
    rfl
  · rw [bit_of_rd_eq (F.SDF_GRP_STAT_RUN g) hstat, bit_setFld_apart _ 1 hlost hlr, bit_setFld_self s _ 0 hrun rfl]
    rfl
  · rw [bit_of_rd_eq (F.SDF_GRP_STAT_CLK_LOST g) hstat, bit_setFld_self _ _ 1 hlost rfl]
    rfl

theorem sdfClockLost_stops {s : State} {g : Fin 4} (hm : s.fld (F.SDF_GRP_CTL_MODE g) ≠ 0) :
    Completes (.sdfClockLost g) s (fun v => v.rd (R.SDF_GRP_PER g) = 0 ∧ v.bit (F.SDF_GRP_STAT_RUN g) = false ∧
      v.bit (F.SDF_GRP_STAT_CLK_LOST g) = true ∧ (∀ k : Fin 4, v.bit (F.SDF_CH_STAT_SETTLING (4 * g + k)) = true) ∧ v.bit ⟨R.TOP_READY, 10, 1⟩ = false ∧
      v.sdf = { s.sdf with gone := s.sdf.gone.set g true } ∧ FrameMem s v s.spillByte ∧
      FrameRegs s v (fun off => off == R.SDF_GRP_PER g || off == R.SDF_GRP_STAT g || off == R.TOP_READY || (List.range 4).any (fun k => off == R.SDF_CH_STAT (4 * g + k)) || inBlocks [.hostq, .seg, .time] off)) := by
  obtain ⟨hddr, hsdf⟩ := sdfLost_ddr_sdf s g
  obtain ⟨hper, hrun, hlost⟩ := sdfLost_group s g
  have hspill : sdfLostReg g R.SEG_SPILL_CTL = false := sdfLostReg_eq_false (by simp only [R.SEG_SPILL_CTL, R.SDF_GRP_PER]; omega)
    (by simp only [R.SEG_SPILL_CTL, R.SDF_GRP_STAT]; omega) (fun m => by simp only [R.SEG_SPILL_CTL, R.SDF_CH_STAT]; omega)
  have hmode : (s.sdfLost g).fld (F.SDF_GRP_CTL_MODE g) = s.fld (F.SDF_GRP_CTL_MODE g) :=
    fld_of_rd_eq _ (sdfLost_regs s g _ (sdfLostReg_eq_false (by simp only [F.SDF_GRP_CTL_MODE, R.SDF_GRP_CTL, R.SDF_GRP_PER]; omega)
      (by simp only [F.SDF_GRP_CTL_MODE, R.SDF_GRP_CTL, R.SDF_GRP_STAT]; omega)
      (fun m => by simp only [F.SDF_GRP_CTL_MODE, R.SDF_GRP_CTL, R.SDF_CH_STAT]; omega)))
  have hr := updSdf_ready (sdfLost_regs s g) hspill hddr
  have hstat : ∀ f : Fld, f.off = R.SDF_GRP_STAT g → (s.sdfLost g).updSdf.bit f = (s.sdfLost g).bit f :=
    fun f hf => bit_of_rd_eq f (by rw [hf]; exact hr.own _ (blockOf_sdfGrpStat g))
  refine completes_of_done (exec_sdfClockLost hm) ⟨?_, ?_, ?_, fun k => ?_, ?_, hr.sdf.trans hsdf, hr.mem, fun off ho => hr.regs off ?_⟩
  · exact (hr.own _ (blockOf_sdfGrpPer g)).trans hper
  · exact (hstat _ rfl).trans hrun
  · exact (hstat _ rfl).trans hlost
  · exact (bit_of_rd_eq _ (hr.own _ (blockOf_sdfChStat (by omega)))).trans (bit_sdfLost_settling s g k)
  · rw [hr.ready, Bool.and_eq_false_iff]
    refine .inr (List.all_eq_false.mpr ⟨g, List.mem_range.mpr g.isLt, ?_⟩)
    simp [hmode, hm, hrun]
  · simp only [sdfLostReg, Bool.or_eq_false_iff] at ho ⊢
    tauto

/-- The clock is back: PER is measured afresh, and the group's channels reset. -/
theorem sdfClockReturn_resets {s : State} {g : Fin 4} (hm : s.fld (F.SDF_GRP_CTL_MODE g) ≠ 0) :
    Completes (.sdfClockReturn g) s (fun v => v.rd (R.SDF_GRP_PER g) = 0 ∧ v.sdf.sync[g] = false ∧ v.sdf.gone[g] = false ∧
      (∀ n : Fin 16, v.sdf.ch[n] = if n.val / 4 = g.val ∧ s.bit (F.SDF_CH_CTL_EN n) = true then s.sdf.ch[n].cleared else s.sdf.ch[n]) ∧
      (∀ n : Fin 16, v.bit (F.SDF_CH_STAT_SETTLING n) = (s.bit (F.SDF_CH_STAT_SETTLING n) || (decide (n.val / 4 = g.val) && s.bit (F.SDF_CH_CTL_EN n)))) ∧
      Frame { s with sdf := { s.sdf with ch := v.sdf.ch, sync := s.sdf.sync.set g false, gone := s.sdf.gone.set g false } } v
        (whole (R.SDF_GRP_PER g) :: (List.range 16).map F.SDF_CH_STAT_SETTLING)) := by
  let p := s.putN (R.SDF_GRP_PER g) 0
  have hr := sdfResetGroup_resets p g
  have hp : ∀ f : Fld, f.off ≠ R.SDF_GRP_PER g → p.bit f = s.bit f := fun f hf => bit_of_rd_eq f (rd_put_ne s _ hf)
  have hen : ∀ n, p.bit (F.SDF_CH_CTL_EN n) = s.bit (F.SDF_CH_CTL_EN n) :=
    fun n => hp _ (by simp only [F.SDF_CH_CTL_EN, R.SDF_CH_CTL, R.SDF_GRP_PER]; omega)
  have hset : ∀ n, p.bit (F.SDF_CH_STAT_SETTLING n) = s.bit (F.SDF_CH_STAT_SETTLING n) :=
    fun n => hp _ (by simp only [F.SDF_CH_STAT_SETTLING, R.SDF_CH_STAT, R.SDF_GRP_PER]; omega)
  have hper : (p.sdfResetGroup g).rd (R.SDF_GRP_PER g) = 0 :=
    (hr.frame.rd (fieldBits_eq_zero (settling_ne (fun m => by simp only [R.SDF_GRP_PER, R.SDF_CH_STAT]; omega)))).trans (rd_put_self s _ _)
  have hexec : exec (.sdfClockReturn g) s = done s ((((p.sdfResetGroup g).clearSync g)).setGone g false) := by
    simp only [exec, execSdfClockReturn, if_neg hm, p]
  have hsdf : (((p.sdfResetGroup g).clearSync g).setGone g false) = { p.sdfResetGroup g with
      sdf := { s.sdf with ch := (p.sdfResetGroup g).sdf.ch, sync := s.sdf.sync.set g false, gone := s.sdf.gone.set g false } } := by
    rw [setGone_fin, clearSync_fin, hr.sdf]
    rfl
  refine completes_of_done hexec ?_
  rw [hsdf]
  refine ⟨hper, Vector.getElem_set_self _, Vector.getElem_set_self _, fun n => ?_, fun n => ?_, ?_⟩
  · refine (hr.ch n).trans ?_
    simp only [hen, Bool.and_eq_true, beq_iff_eq]
    rfl
  · refine (hr.settling n).trans ?_
    rw [hen, hset]
    rfl
  · have h1 : Frame s p (whole (R.SDF_GRP_PER g) :: (List.range 16).map F.SDF_CH_STAT_SETTLING) := (Frame.refl s _).putWord _ List.mem_cons_self
    exact (h1.withSdf _).trans ((hr.frame.append [whole (R.SDF_GRP_PER g)]).withSdf _)

/-! ### Syncs (R311, R312) -/

/-- A sync is seen and counted, and marks every group in use. -/
theorem sdfSync_spec (s : State) :
    s.sdfSync.bit F.SDF_STAT_SYNC_SEEN = true ∧ s.sdfSync.fld F.SDF_STAT_SYNC_CNT = (s.fld F.SDF_STAT_SYNC_CNT + 1) % 65536 ∧
      (∀ g : Fin 4, s.sdfSync.sdf.sync[g] = (s.sdf.sync[g] || s.fld (F.SDF_GRP_CTL_MODE g) != 0)) ∧
      s.sdfSync.sdf = { s.sdf with sync := s.sdfSync.sdf.sync } ∧
      Frame { s with sdf := s.sdfSync.sdf } s.sdfSync [F.SDF_STAT_SYNC_SEEN, F.SDF_STAT_SYNC_CNT] := by
  have hseen : F.SDF_STAT_SYNC_SEEN.lo + F.SDF_STAT_SYNC_SEEN.w ≤ 32 := by decide
  have hcnt : F.SDF_STAT_SYNC_CNT.lo + F.SDF_STAT_SYNC_CNT.w ≤ 32 := by decide
  have hsc : F.SDF_STAT_SYNC_SEEN.Apart F.SDF_STAT_SYNC_CNT := .inr (.inr (by decide))
  have hcs : F.SDF_STAT_SYNC_CNT.Apart F.SDF_STAT_SYNC_SEEN := .inr (.inl (by decide))
  let t := (s.flag F.SDF_STAT_SYNC_SEEN).incWrap F.SDF_STAT_SYNC_CNT
  have ht : t.fld F.SDF_STAT_SYNC_CNT = (s.fld F.SDF_STAT_SYNC_CNT + 1) % 65536 := by
    simp only [t]
    rw [incWrap_eq, fld_setFld_self _ _ _ hcnt, flag_eq, fld_setFld_apart _ _ hseen hsc]
    rfl
  have hframe : Frame s t [F.SDF_STAT_SYNC_SEEN, F.SDF_STAT_SYNC_CNT] := ((Frame.refl s _).flag (by simp) hseen).incWrap (by simp) hcnt
  refine ⟨?_, ht, fun g => ?_, rfl, hframe.withSdf _⟩
  · exact (bit_setFld_apart _ _ hcnt hcs).trans (bit_setFld_self s _ 1 hseen rfl)
  · have hmode : t.fld (F.SDF_GRP_CTL_MODE g) = s.fld (F.SDF_GRP_CTL_MODE g) := hframe.fld _ (fun f hf => by
      simp only [List.mem_cons, List.not_mem_nil, or_false] at hf
      rcases hf with rfl | rfl <;> simp only [F.SDF_STAT_SYNC_SEEN, F.SDF_STAT_SYNC_CNT, F.SDF_GRP_CTL_MODE, R.SDF_STAT, R.SDF_GRP_CTL] <;> omega)
    rw [← hmode]
    exact (Vector.getElem_ofFn _).trans (congrArg (· || _) (vget_fin s.sdf.sync g false))

theorem sdfSyncApply_resets {s : State} {g : Fin 4} (hs : s.sdf.sync[g] = true) (hrun : s.bit (F.SDF_GRP_STAT_RUN g) = true) :
    Completes (.sdfSyncApply g) s (fun v => v.sdf.sync[g] = false ∧
      (∀ n : Fin 16, v.sdf.ch[n] = if n.val / 4 = g.val ∧ s.bit (F.SDF_CH_CTL_EN n) = true then s.sdf.ch[n].cleared else s.sdf.ch[n]) ∧
      Frame { s with sdf := { s.sdf with ch := v.sdf.ch, sync := s.sdf.sync.set g false } } v ((List.range 16).map F.SDF_CH_STAT_SETTLING)) := by
  have hr := sdfResetGroup_resets (s.clearSync g) g
  have hexec : exec (.sdfSyncApply g) s = done s ((s.clearSync g).sdfResetGroup g) := by
    simp only [exec, execSdfSyncApply, vget_fin, hs, hrun, Bool.and_self, if_true]
  have hsync : (s.clearSync g).sdf = { s.sdf with sync := s.sdf.sync.set g false } := by rw [clearSync_fin]
  have hsdf : ((s.clearSync g).sdfResetGroup g).sdf = { s.sdf with ch := ((s.clearSync g).sdfResetGroup g).sdf.ch, sync := s.sdf.sync.set g false } :=
    hr.sdf.trans (by rw [hsync])
  refine completes_of_done hexec ⟨?_, fun n => ?_, ?_⟩
  · rw [hsdf]
    exact Vector.getElem_set_self _
  · refine (hr.ch n).trans ?_
    simp only [Bool.and_eq_true, beq_iff_eq]
    rfl
  · rw [← hsdf]
    exact hr.frame

/-- A write of SW_SYNC wakes the block, and its sync is as any other. -/
theorem swSync_syncs (s : State) : Completes (.swSync false) s (fun v =>
    v.bit F.SDF_STAT_SYNC_SEEN = true ∧ v.fld F.SDF_STAT_SYNC_CNT = (s.fld F.SDF_STAT_SYNC_CNT + 1) % 65536 ∧
      (∀ g : Fin 4, v.sdf.sync[g] = (s.sdf.sync[g] || s.fld (F.SDF_GRP_CTL_MODE g) != 0)) ∧
      Frame { s.wakeBlock 0x0D with sdf := { s.sdf with sync := v.sdf.sync }, lastStatus := 0 } v [F.SDF_STAT_SYNC_SEEN, F.SDF_STAT_SYNC_CNT]) := by
  have hexec : exec (.swSync false) s = done s ((s.wakeBlock 0x0D).sdfSync.status 0) := by
    simp only [exec, execSwSync, Bool.false_eq_true, if_false]
  obtain ⟨hseen, hcnt, hmark, hsdf, hframe⟩ := sdfSync_spec (s.wakeBlock 0x0D)
  have hw : (s.wakeBlock 0x0D).sdf = s.sdf := by
    obtain ⟨l, hl⟩ := wakeBlock_eq s 0x0D
    rw [hl]
  have hfld : ∀ f : Fld, f.off ≠ R.PWR_CLASS 0x0D → (s.wakeBlock 0x0D).fld f = s.fld f := fun f hf => fld_wakeBlock_ne s 0x0D f hf
  refine completes_of_done hexec ⟨hseen, hcnt.trans ?_, fun g => (hmark g).trans ?_, ?_⟩
  · rw [hfld _ (by decide)]
  · rw [hw, hfld _ (by simp only [F.SDF_GRP_CTL_MODE, R.SDF_GRP_CTL, R.PWR_CLASS]; omega)]
  · rw [hsdf, hw] at hframe
    exact hframe.withStatus 0

/-! ### Channels started and stopped (R307, R309, R314) -/

theorem bit_sdfEn (s : State) (n : Nat) : s.bit (F.SDF_CH_CTL_EN n) = bitN (s.rdN (R.SDF_CH_CTL n)) 0 := by
  have h : s.fld (F.SDF_CH_CTL_EN n) = s.rdN (R.SDF_CH_CTL n) % 2 := by
    simp [State.fld, fieldN, F.SDF_CH_CTL_EN]
  rw [State.bit, h, bitN, pow_zero, Nat.div_one]
  rcases Nat.mod_two_eq_zero_or_one (s.rdN (R.SDF_CH_CTL n)) with h | h <;> rw [h] <;> rfl

/-- An enabled channel keeps its other settings. -/
theorem sdfCtlWrite_of_changed {s : State} {n val : Nat} (he : s.bit (F.SDF_CH_CTL_EN n) = true) (hv : val < 2 ^ 18)
    (h : s.rdN (R.SDF_CH_CTL n) / 2 ≠ val / 2) : s.sdfCtlWrite n val = s.status 0x40 := by
  rw [bit_sdfEn] at he
  rw [State.sdfCtlWrite]
  simp only [Nat.mod_eq_of_lt hv]
  exact if_pos (by simpa [he] using h)

/-- A channel does not start in a group that is off, nor with M out of range. -/
theorem sdfCtlWrite_of_refused {s : State} {n val : Nat} (he : s.bit (F.SDF_CH_CTL_EN n) = false) (hv : val < 2 ^ 18) (hen : bitN val 0 = true)
    (h : s.fld (F.SDF_GRP_CTL_MODE (n / 4)) = 0 ∨ fieldN val 4 9 < 4 ∨ 256 < fieldN val 4 9) : s.sdfCtlWrite n val = s.status 0x40 := by
  rw [bit_sdfEn] at he
  rw [State.sdfCtlWrite]
  simp only [Nat.mod_eq_of_lt hv, he, hen, Bool.false_and, Bool.false_eq_true, if_false, Bool.not_false, Bool.and_self, if_true]
  split
  · rfl
  · exact if_pos (by rw [sdfGroup]; tauto)

/-- A channel that is off starts with settings the block takes. -/
theorem sdfCtlWrite_of_start {s : State} {n val : Nat} (he : s.bit (F.SDF_CH_CTL_EN n) = false) (hv : val < 2 ^ 18) (hen : bitN val 0 = true)
    (hm : s.fld (F.SDF_GRP_CTL_MODE (n / 4)) ≠ 0) (h4 : 4 ≤ fieldN val 4 9) (h256 : fieldN val 4 9 ≤ 256) (hnhb : fieldN val 13 2 ≠ 3)
    (hfir : bitN val 15 = false) (hgd : s.fld (F.SDF_CH_FIR_GD n) ≤ 126) :
    s.sdfCtlWrite n val = ((((s.putN (R.SDF_CH_CTL n) val).updGd n).sdfReset n).updSdf).status 0 := by
  rw [bit_sdfEn] at he
  rw [State.sdfCtlWrite]
  simp only [Nat.mod_eq_of_lt hv, he, hen, hfir, Bool.false_and, Bool.false_eq_true, if_false, if_neg hnhb, Bool.not_false, Bool.and_self, if_true]
  exact if_neg (by rw [sdfGroup]; simp only [false_and, false_or, not_or]; omega)

/-- An enabled channel stops. -/
theorem sdfCtlWrite_of_stop {s : State} {n val : Nat} (he : s.bit (F.SDF_CH_CTL_EN n) = true) (hv : val < 2 ^ 18) (hen : bitN val 0 = false)
    (hsame : s.rdN (R.SDF_CH_CTL n) / 2 = val / 2) (hnhb : fieldN val 13 2 ≠ 3) :
    s.sdfCtlWrite n val = (((((s.putN (R.SDF_CH_CTL n) val).updGd n).setSdfCh n
      { ((s.putN (R.SDF_CH_CTL n) val).updGd n |>.sdfCh n).cleared with samples := [] }).updSdf).status 0) := by
  rw [bit_sdfEn] at he
  rw [State.sdfCtlWrite]
  simp only [Nat.mod_eq_of_lt hv, he, hen, hsame, ne_eq, not_true_eq_false, decide_false, Bool.and_false, Bool.false_eq_true, if_false, if_neg hnhb,
    Bool.not_true, Bool.not_false, Bool.and_self, if_true]

/-- The group delay follows from the channel's own settings. -/
theorem groupDelay_of_rd_eq {s t : State} (n : Nat) (h1 : t.rd (R.SDF_CH_CTL n) = s.rd (R.SDF_CH_CTL n))
    (h2 : t.rd (R.SDF_CH_FIR n) = s.rd (R.SDF_CH_FIR n)) : t.groupDelay n = s.groupDelay n := by
  have hctl : ∀ f : Fld, f.off = R.SDF_CH_CTL n → t.fld f = s.fld f := fun f hf => fld_of_rd_eq f (by rw [hf, h1])
  have hfir : t.fld (F.SDF_CH_FIR_GD n) = s.fld (F.SDF_CH_FIR_GD n) := fld_of_rd_eq _ h2
  rw [State.groupDelay, State.groupDelay, hctl (F.SDF_CH_CTL_M n) rfl, hctl (F.SDF_CH_CTL_NHB n) rfl, hctl (F.SDF_CH_CTL_K n) rfl, State.bit,
    hctl (F.SDF_CH_CTL_FIR_EN n) rfl, hfir, State.bit]

/-- The settings of a channel written, and the group delay that follows from them. -/
def State.sdfSettings (s : State) (n val : Nat) : State := ((s.wakeBlock 0x0D).putN (R.SDF_CH_CTL n) val).updGd n

theorem sdfSettings_ddr_sdf (s : State) (n val : Nat) : (s.sdfSettings n val).ddr = s.ddr ∧ (s.sdfSettings n val).sdf = s.sdf := by
  obtain ⟨l, hl⟩ := wakeBlock_eq s 0x0D
  rw [State.sdfSettings, hl]
  exact ⟨rfl, rfl⟩

theorem sdfChCtl_ne_gd (n : Nat) : R.SDF_CH_CTL n ≠ R.SDF_CH_GD n := by simp only [R.SDF_CH_CTL, R.SDF_CH_GD]; omega

/-- The registers they are written to, and the gate of the block. -/
def sdfSetReg (n off : Nat) : Bool := off == R.SDF_CH_CTL n || off == R.SDF_CH_GD n || off == R.PWR_CLASS 0x0D

theorem sdfSettings_regs (s : State) (n val : Nat) : FrameRegs s (s.sdfSettings n val) (sdfSetReg n) := by
  intro off ho
  simp only [sdfSetReg, Bool.or_eq_false_iff, beq_eq_false_iff_ne] at ho
  obtain ⟨⟨h1, h2⟩, h3⟩ := ho
  rw [State.sdfSettings, State.updGd, rd_setFld_ne _ (F.SDF_CH_GD_G2 n) _ h2, putN_eq, rd_put_ne _ _ h1, rd_wakeBlock_ne s 0x0D h3]

theorem rd_sdfSettings_ctl (s : State) (n val : Nat) : (s.sdfSettings n val).rd (R.SDF_CH_CTL n) = BitVec.ofNat 32 val := by
  rw [State.sdfSettings, State.updGd, rd_setFld_ne _ (F.SDF_CH_GD_G2 n) _ (sdfChCtl_ne_gd n), putN_eq, rd_put_self]

theorem fld_sdfSettings_gd (s : State) (n val : Nat) :
    (s.sdfSettings n val).fld (F.SDF_CH_GD_G2 n) = (s.sdfSettings n val).groupDelay n % 2 ^ (F.SDF_CH_GD_G2 n).w := by
  have hgd : (s.sdfSettings n val).groupDelay n = ((s.wakeBlock 0x0D).putN (R.SDF_CH_CTL n) val).groupDelay n :=
    groupDelay_of_rd_eq n (rd_setFld_ne _ (F.SDF_CH_GD_G2 n) _ (sdfChCtl_ne_gd n))
      (rd_setFld_ne _ (F.SDF_CH_GD_G2 n) _ (by simp only [F.SDF_CH_GD_G2, R.SDF_CH_FIR, R.SDF_CH_GD]; omega))
  rw [hgd, State.sdfSettings, State.updGd, fld_setFld_self _ _ _ (Nat.le_of_ble_eq_true rfl)]

theorem sdfSetReg_spill (n : Nat) : sdfSetReg n R.SEG_SPILL_CTL = false := by
  simp only [sdfSetReg, Bool.or_eq_false_iff, beq_eq_false_iff_ne, R.SEG_SPILL_CTL, R.SDF_CH_CTL, R.SDF_CH_GD, R.PWR_CLASS]
  omega

theorem SdfReady.status {s t v : State} {w : Nat → Bool} (h : SdfReady s t v w) (st : Nat) : SdfReady s t (v.status st) w :=
  ⟨fun off ho => (status_rd v st off).trans (h.own off ho), h.sdf, (status_bit v st _).trans h.ready, h.mem, fun off ho => (status_rd v st off).trans (h.regs off ho)⟩

theorem rd_sdfReset_ne (u : State) (n : Nat) {off : Nat} (h : off ≠ R.SDF_CH_STAT n) : (u.sdfReset n).rd off = u.rd off := by
  rw [State.sdfReset, rd_setFld_ne _ (F.SDF_CH_STAT_SETTLING n) 1 h]
  rfl

theorem bit_sdfReset_settling (u : State) (n : Nat) : (u.sdfReset n).bit (F.SDF_CH_STAT_SETTLING n) = true := by
  rw [State.sdfReset, bit_setFld_self _ _ 1 (Nat.le_of_ble_eq_true rfl) rfl]
  rfl

theorem ch_sdfReset (u : State) (n : Fin 16) : (u.sdfReset n).sdf.ch[n] = u.sdf.ch[n].cleared := by
  rw [sdfReset_fin, setFld_sdf]
  exact (ch_set u.sdf.ch n n _).trans (if_pos rfl)

theorem ddr_sdfReset (u : State) (n : Nat) : (u.sdfReset n).ddr = u.ddr := rfl

/-- A channel started changes its flags too. -/
def sdfStartReg (n off : Nat) : Bool := sdfSetReg n off || off == R.SDF_CH_STAT n

theorem sdfStartReg_spill (n : Nat) : sdfStartReg n R.SEG_SPILL_CTL = false := by
  rw [sdfStartReg, sdfSetReg_spill, Bool.false_or, beq_eq_false_iff_ne]
  simp only [R.SEG_SPILL_CTL, R.SDF_CH_STAT]
  omega

theorem sdfReset_regs (s : State) (n val : Nat) : FrameRegs s ((s.sdfSettings n val).sdfReset n) (sdfStartReg n) := by
  intro off ho
  simp only [sdfStartReg, Bool.or_eq_false_iff, beq_eq_false_iff_ne] at ho
  exact (rd_sdfReset_ne _ n ho.2).trans (sdfSettings_regs s n val off ho.1)

theorem sdfStart_ready (s : State) (n val : Nat) :
    SdfReady s ((s.sdfSettings n val).sdfReset n) (((s.sdfSettings n val).sdfReset n).updSdf.status 0) (sdfStartReg n) :=
  (updSdf_ready (sdfReset_regs s n val) (sdfStartReg_spill n) ((ddr_sdfReset _ n).trans (sdfSettings_ddr_sdf s n val).1)).status 0

/-- What starting a channel leaves. -/
theorem sdfStart_spec {s v : State} {n : Fin 16} {val : Nat} (hv : val < 2 ^ 18)
    (hr : SdfReady s ((s.sdfSettings n val).sdfReset n) v (sdfStartReg n)) :
    v.rdN (R.SDF_CH_CTL n) = val ∧ v.bit (F.SDF_CH_STAT_SETTLING n) = true ∧
      v.fld (F.SDF_CH_GD_G2 n) = v.groupDelay n % 2 ^ (F.SDF_CH_GD_G2 n).w ∧
      v.sdf.ch[n] = s.sdf.ch[n].cleared ∧ FrameMem s v s.spillByte ∧
      FrameRegs s v (fun off => off == R.SDF_CH_CTL n || off == R.SDF_CH_GD n || off == R.SDF_CH_STAT n || off == R.TOP_READY || off == R.PWR_CLASS 0x0D || inBlocks [.hostq, .seg, .time] off) := by
  obtain ⟨-, hsdf⟩ := sdfSettings_ddr_sdf s n val
  have hctl : v.rd (R.SDF_CH_CTL n) = (s.sdfSettings n val).rd (R.SDF_CH_CTL n) :=
    (hr.own _ (blockOf_sdfChCtl n)).trans (rd_sdfReset_ne _ _ (by simp only [R.SDF_CH_CTL, R.SDF_CH_STAT]; omega))
  have hfir : v.rd (R.SDF_CH_FIR n) = (s.sdfSettings n val).rd (R.SDF_CH_FIR n) :=
    (hr.own _ (blockOf_sdfChFir n)).trans (rd_sdfReset_ne _ _ (by simp only [R.SDF_CH_FIR, R.SDF_CH_STAT]; omega))
  have hgd : v.rd (R.SDF_CH_GD n) = (s.sdfSettings n val).rd (R.SDF_CH_GD n) :=
    (hr.own _ (blockOf_sdfChGd n)).trans (rd_sdfReset_ne _ _ (by simp only [R.SDF_CH_GD, R.SDF_CH_STAT]; omega))
  refine ⟨?_, ?_, ?_, ?_, hr.mem, fun off ho => hr.regs off ?_⟩
  · rw [State.rdN, hctl, rd_sdfSettings_ctl, BitVec.toNat_ofNat, Nat.mod_eq_of_lt (by omega)]
  · rw [bit_of_rd_eq _ (hr.own _ (blockOf_sdfChStat n.isLt)), bit_sdfReset_settling]
  · rw [groupDelay_of_rd_eq n hctl hfir, fld_of_rd_eq (F.SDF_CH_GD_G2 n) hgd, fld_sdfSettings_gd]
  · rw [hr.sdf, ch_sdfReset, hsdf]
  · simp only [sdfStartReg, sdfSetReg, Bool.or_eq_false_iff] at ho ⊢
    tauto

/-- Channel `n` forgets what it has taken in, its samples too. -/
def State.sdfForget (u : State) (n : Nat) : State := u.setSdfCh n { (u.sdfCh n).cleared with samples := [] }

theorem rd_sdfForget (u : State) (n off : Nat) : (u.sdfForget n).rd off = u.rd off := rfl

theorem ddr_sdfForget (u : State) (n : Nat) : (u.sdfForget n).ddr = u.ddr := rfl

theorem ch_sdfForget (u : State) (n : Fin 16) : (u.sdfForget n).sdf.ch[n] = { u.sdf.ch[n].cleared with samples := [] } := by
  rw [State.sdfForget, sdfCh_fin, setSdfCh_fin]
  exact (ch_set u.sdf.ch n n _).trans (if_pos rfl)

theorem sdfStop_ready (s : State) (n val : Nat) :
    SdfReady s ((s.sdfSettings n val).sdfForget n) (((s.sdfSettings n val).sdfForget n).updSdf.status 0) (sdfSetReg n) := by
  have hregs : FrameRegs s ((s.sdfSettings n val).sdfForget n) (sdfSetReg n) :=
    fun off ho => (rd_sdfForget _ n off).trans (sdfSettings_regs s n val off ho)
  exact (updSdf_ready hregs (sdfSetReg_spill n) ((ddr_sdfForget _ n).trans (sdfSettings_ddr_sdf s n val).1)).status 0

/-- What stopping a channel leaves. -/
theorem sdfStop_spec {s v : State} {n : Fin 16} {val : Nat} (hv : val < 2 ^ 18)
    (hr : SdfReady s ((s.sdfSettings n val).sdfForget n) v (sdfSetReg n)) :
    v.rdN (R.SDF_CH_CTL n) = val ∧ v.sdf.ch[n] = { s.sdf.ch[n].cleared with samples := [] } ∧ FrameMem s v s.spillByte ∧
      FrameRegs s v (fun off => off == R.SDF_CH_CTL n || off == R.SDF_CH_GD n || off == R.TOP_READY || off == R.PWR_CLASS 0x0D || inBlocks [.hostq, .seg, .time] off) := by
  obtain ⟨-, hsdf⟩ := sdfSettings_ddr_sdf s n val
  refine ⟨?_, ?_, hr.mem, fun off ho => hr.regs off ?_⟩
  · rw [State.rdN, hr.own _ (blockOf_sdfChCtl n), rd_sdfForget, rd_sdfSettings_ctl, BitVec.toNat_ofNat, Nat.mod_eq_of_lt (by omega)]
  · rw [hr.sdf, ch_sdfForget, hsdf]
  · simp only [sdfSetReg, Bool.or_eq_false_iff] at ho ⊢
    tauto

/-! ### Writes of a channel's settings wake the block (R397) -/

section
variable {n : Fin 16} (val : BitVec 18) {s : State}

theorem exec_sdfChannel_absent (h : s.has .sdi n = false) :
    exec (.sdfChannelEnable n val) s = done s s ∧ exec (.sdfChannelDisable n val) s = done s s := by
  constructor <;> simp only [exec, execSdfChannelEnable, execSdfChannelDisable, h, Bool.false_eq_true, if_false]

theorem exec_sdfChannelEnable (h : s.has .sdi n = true) :
    exec (.sdfChannelEnable n val) s = done s ((s.wakeBlock 0x0D).sdfCtlWrite n (val.toNat / 2 * 2 + 1)) := by
  simp only [exec, execSdfChannelEnable, h, if_true]

theorem exec_sdfChannelDisable (h : s.has .sdi n = true) :
    exec (.sdfChannelDisable n val) s = done s ((s.wakeBlock 0x0D).sdfCtlWrite n (val.toNat / 2 * 2)) := by
  simp only [exec, execSdfChannelDisable, h, if_true]

end

theorem fld_wake_sdf {s : State} {f : Fld} (h : blockOf f.off = some .sdf) : (s.wakeBlock 0x0D).fld f = s.fld f :=
  fld_of_rd_eq f (rd_wakeBlock_of_block s (by decide) h (by decide))

theorem bit_wake_sdf {s : State} {f : Fld} (h : blockOf f.off = some .sdf) : (s.wakeBlock 0x0D).bit f = s.bit f :=
  bit_of_rd_eq f (rd_wakeBlock_of_block s (by decide) h (by decide))

theorem blockOf_sdfGrpCtl {g : Nat} (h : g < 4) : blockOf (R.SDF_GRP_CTL g) = some .sdf :=
  blockOf_sdf (by simp only [R.SDF_GRP_CTL]; omega) (by simp only [R.SDF_GRP_CTL]; omega)

/-- EN set or cleared beside settings of 18 bits. -/
theorem bitN_zero_odd (x : Nat) : bitN (x / 2 * 2 + 1) 0 = true := by
  rw [bitN, pow_zero, Nat.div_one, show (x / 2 * 2 + 1) % 2 = 1 by omega]
  rfl

theorem bitN_zero_even (x : Nat) : bitN (x / 2 * 2) 0 = false := by
  rw [bitN, pow_zero, Nat.div_one, Nat.mul_mod_left]
  rfl

/-- The other settings are as they are given. -/
theorem fieldN_odd (x lo w : Nat) : fieldN (x / 2 * 2 + 1) (lo + 1) w = fieldN x (lo + 1) w := by
  have h : (x / 2 * 2 + 1) / 2 = x / 2 := by omega
  rw [fieldN, fieldN, Nat.pow_succ', ← Nat.div_div_eq_div_mul, ← Nat.div_div_eq_div_mul, h]

theorem fieldN_even (x lo w : Nat) : fieldN (x / 2 * 2) (lo + 1) w = fieldN x (lo + 1) w := by
  have h : x / 2 * 2 / 2 = x / 2 := by omega
  rw [fieldN, fieldN, Nat.pow_succ', ← Nat.div_div_eq_div_mul, ← Nat.div_div_eq_div_mul, h]

/-- A write that would change other settings of an enabled channel is refused. -/
theorem sdfChannel_changed {n : Fin 16} {val : BitVec 18} {s : State} (hh : s.has .sdi n = true) (he : s.bit (F.SDF_CH_CTL_EN n) = true)
    (h : s.rdN (R.SDF_CH_CTL n) / 2 ≠ val.toNat / 2) :
    Completes (.sdfChannelEnable n val) s (fun v => v = { s.wakeBlock 0x0D with lastStatus := 0x40 }) ∧
    Completes (.sdfChannelDisable n val) s (fun v => v = { s.wakeBlock 0x0D with lastStatus := 0x40 }) := by
  have hlt := val.isLt
  have hen : (s.wakeBlock 0x0D).bit (F.SDF_CH_CTL_EN n) = true := (bit_wake_sdf (blockOf_sdfChCtl n)).trans he
  have hctl : (s.wakeBlock 0x0D).rdN (R.SDF_CH_CTL n) = s.rdN (R.SDF_CH_CTL n) := by
    rw [State.rdN, rd_wakeBlock_of_block s (by decide) (blockOf_sdfChCtl n) (by decide), State.rdN]
  refine ⟨completes_of_done (exec_sdfChannelEnable val hh) (sdfCtlWrite_of_changed hen (by omega) ?_),
    completes_of_done (exec_sdfChannelDisable val hh) (sdfCtlWrite_of_changed hen (by omega) ?_)⟩ <;> rw [hctl] <;> omega

/-- A start in a group that is off, or with M out of range, is refused. -/
theorem sdfChannelEnable_refused {n : Fin 16} {val : BitVec 18} {s : State} (hh : s.has .sdi n = true) (he : s.bit (F.SDF_CH_CTL_EN n) = false)
    (h : s.fld (F.SDF_GRP_CTL_MODE (n / 4)) = 0 ∨ val.toNat / 16 % 512 < 4 ∨ 256 < val.toNat / 16 % 512) :
    Completes (.sdfChannelEnable n val) s (fun v => v = { s.wakeBlock 0x0D with lastStatus := 0x40 }) := by
  have hlt := val.isLt
  have hen : (s.wakeBlock 0x0D).bit (F.SDF_CH_CTL_EN n) = false := (bit_wake_sdf (blockOf_sdfChCtl n)).trans he
  have hmode : (s.wakeBlock 0x0D).fld (F.SDF_GRP_CTL_MODE (n / 4)) = s.fld (F.SDF_GRP_CTL_MODE (n / 4)) :=
    fld_wake_sdf (blockOf_sdfGrpCtl (by omega))
  refine completes_of_done (exec_sdfChannelEnable val hh) (sdfCtlWrite_of_refused hen (by omega) (bitN_zero_odd _) ?_)
  rw [hmode, fieldN_odd]
  exact h

/-- A valid start of a channel that is off. -/
theorem exec_sdfChannelEnable_starts {n : Fin 16} {val : BitVec 18} {s : State} (hh : s.has .sdi n = true) (he : s.bit (F.SDF_CH_CTL_EN n) = false)
    (hm : s.fld (F.SDF_GRP_CTL_MODE (n / 4)) ≠ 0) (h4 : 4 ≤ val.toNat / 16 % 512) (h256 : val.toNat / 16 % 512 ≤ 256)
    (hnhb : val.toNat / 2 ^ 13 % 4 ≠ 3) (hfir : val.toNat / 2 ^ 15 % 2 = 0) (hgd : s.fld (F.SDF_CH_FIR_GD n) ≤ 126) :
    exec (.sdfChannelEnable n val) s = done s (((s.sdfSettings n (val.toNat / 2 * 2 + 1)).sdfReset n).updSdf.status 0) := by
  have hlt := val.isLt
  have hen : (s.wakeBlock 0x0D).bit (F.SDF_CH_CTL_EN n) = false := (bit_wake_sdf (blockOf_sdfChCtl n)).trans he
  have hmode : (s.wakeBlock 0x0D).fld (F.SDF_GRP_CTL_MODE (n / 4)) = s.fld (F.SDF_GRP_CTL_MODE (n / 4)) :=
    fld_wake_sdf (blockOf_sdfGrpCtl (by omega))
  have hfirGd : (s.wakeBlock 0x0D).fld (F.SDF_CH_FIR_GD n) = s.fld (F.SDF_CH_FIR_GD n) := fld_wake_sdf (blockOf_sdfChFir n)
  have hfirOff : bitN (val.toNat / 2 * 2 + 1) 15 = false := by
    rw [bitN, show (val.toNat / 2 * 2 + 1) / 2 ^ 15 = val.toNat / 2 ^ 15 by omega, hfir]
    rfl
  rw [exec_sdfChannelEnable val hh, sdfCtlWrite_of_start hen (by omega) (bitN_zero_odd _) (by rw [hmode]; exact hm)
    (by rw [fieldN_odd]; exact h4) (by rw [fieldN_odd]; exact h256) (by rw [fieldN_odd]; exact hnhb) hfirOff (by rw [hfirGd]; exact hgd)]
  rfl

/-- An enabled channel stopped, its other settings kept. -/
theorem exec_sdfChannelDisable_stops {n : Fin 16} {s : State} (hh : s.has .sdi n = true) (he : s.bit (F.SDF_CH_CTL_EN n) = true)
    (hlt : s.rdN (R.SDF_CH_CTL n) < 2 ^ 18) (hnhb : s.fld (F.SDF_CH_CTL_NHB n) ≠ 3) :
    exec (.sdfChannelDisable n (BitVec.ofNat 18 (s.rdN (R.SDF_CH_CTL n)))) s =
      done s (((s.sdfSettings n (s.rdN (R.SDF_CH_CTL n) / 2 * 2)).sdfForget n).updSdf.status 0) := by
  have hen : (s.wakeBlock 0x0D).bit (F.SDF_CH_CTL_EN n) = true := (bit_wake_sdf (blockOf_sdfChCtl n)).trans he
  have hctl : (s.wakeBlock 0x0D).rdN (R.SDF_CH_CTL n) = s.rdN (R.SDF_CH_CTL n) := by
    rw [State.rdN, rd_wakeBlock_of_block s (by decide) (blockOf_sdfChCtl n) (by decide), State.rdN]
  rw [exec_sdfChannelDisable _ hh, BitVec.toNat_ofNat, Nat.mod_eq_of_lt hlt,
    sdfCtlWrite_of_stop hen (by omega) (bitN_zero_even _) (by rw [hctl]; omega) (by rw [fieldN_even]; exact hnhb)]
  rfl

/-! ### O46 -/

/-- Settles O46: a fold over a group's channels says what a reset does, the ready bit posts at most one record, and a channel's settings are written
by one of four cases. -/
theorem sensorGroupsRunAndSync : Obligations.SensorGroupsRunAndSync := by
  unfold Obligations.SensorGroupsRunAndSync
  refine ⟨fun g per s h => ?noPeriod, fun g s h => ?off, fun g per s hm hg => ?period, fun g s hm => ?lost, fun g s hm => ?returned, fun s => ?sync,
    fun rising joined s h => ?noSync, fun g s hs hr => ?apply, fun g s h => ?noApply, fun n val s h => ?absent,
    fun n val s hh he h => ?changed, fun n val s hh he h => ?refused, fun n val s hh he hm h4 h256 hn hf hg => ?start, fun n s hh he hlt hn => ?stop⟩
  case noPeriod => exact completes_of_done (by simp only [exec, execSdfPeriodUpdate, if_pos h]) rfl
  case off =>
    exact ⟨completes_of_done (by simp only [exec, execSdfClockLost, if_pos h]) rfl,
      completes_of_done (by simp only [exec, execSdfClockReturn, if_pos h]) rfl⟩
  case period => exact sdfPeriodUpdate_measures per hm hg
  case lost => exact sdfClockLost_stops hm
  case returned => exact sdfClockReturn_resets hm
  case sync =>
    refine ⟨fun hen => ?_, swSync_syncs s, completes_of_done (v := (s.wakeBlock 0x0D).status 0) rfl rfl⟩
    obtain ⟨hseen, hcnt, hmark, hsdf, hframe⟩ := sdfSync_spec s
    have hexec : exec (.sdfFsync (!s.bit F.SDF_CTL_FSYNC_POL) false) s = done s s.sdfSync := by
      cases hpol : s.bit F.SDF_CTL_FSYNC_POL <;> simp [exec, execSdfFsync, hen, hpol]
    rw [hsdf] at hframe
    exact completes_of_done hexec ⟨hseen, hcnt, hmark, hframe⟩
  case noSync =>
    refine completes_of_done (v := s) ?_ rfl
    rcases h with h | h | h <;> simp [exec, execSdfFsync, h]
  case apply => exact sdfSyncApply_resets hs hr
  case noApply =>
    refine completes_of_done (v := s) ?_ rfl
    rcases h with h | h <;> simp only [exec, execSdfSyncApply, vget_fin, h, Bool.false_and, Bool.and_false, Bool.false_eq_true, if_false]
  case absent =>
    obtain ⟨h1, h2⟩ := exec_sdfChannel_absent val h
    exact ⟨completes_of_done h1 rfl, completes_of_done h2 rfl⟩
  case changed => exact sdfChannel_changed hh he h
  case refused => exact sdfChannelEnable_refused hh he h
  case start =>
    have hlt := val.isLt
    exact completes_of_done (exec_sdfChannelEnable_starts hh he hm h4 h256 hn hf hg) (sdfStart_spec (by omega) (sdfStart_ready s n _))
  case stop => exact completes_of_done (exec_sdfChannelDisable_stops hh he hlt hn) (sdfStop_spec (by omega) (sdfStop_ready s n _))

end Sys2Proof.Machine
end

section
/-!
PROOFS. Every step ends in `State.settle` against the fault summary it began with, so no rise of the summary goes without its notice (R31, R376).
-/
namespace Sys2Proof.Machine

/-! ### The summary and the register store (R31) -/

/-- What a list of stored registers raises, over what is raised already. -/
def sumFrom (l : List (Nat × Word)) (a : Nat) : Nat := l.foldl (fun a e => Nat.lor a (sumOf e.1 e.2)) a

theorem sumFrom_cons (e : Nat × Word) (l : List (Nat × Word)) (a : Nat) : sumFrom (e :: l) a = sumFrom l (Nat.lor a (sumOf e.1 e.2)) := rfl

theorem lor_sumOf_zero {off : Nat} {w : Word} (h : sumOf off w = 0) (a : Nat) : Nat.lor a (sumOf off w) = a := by
  rw [h]
  exact Nat.or_zero a

theorem sumFrom_erase {off : Nat} (h : ∀ w, sumOf off w = 0) (l : List (Nat × Word)) (a : Nat) : sumFrom (regsErase l off) a = sumFrom l a := by
  induction l generalizing a with
  | nil => rfl
  | cons e l ih =>
    obtain ⟨x, w⟩ := e
    unfold regsErase at ih ⊢
    by_cases hx : x = off
    · subst hx
      simp [sumFrom_cons, h, ih]
    · simp [hx, sumFrom_cons, ih]

theorem sumFrom_insert {off : Nat} {w : Word} (h : sumOf off w = 0) (l : List (Nat × Word)) (a : Nat) : sumFrom (regsInsert l off w) a = sumFrom l a := by
  induction l generalizing a with
  | nil => exact lor_sumOf_zero h a
  | cons e l ih =>
    unfold regsInsert
    split
    · rw [sumFrom_cons, lor_sumOf_zero h]
    · exact ih _

theorem faultSum_eq (s : State) : s.faultSum = Nat.lor (sumFrom s.regs 0)
    (Nat.lor (if s.bit F.FLT_STAT_FATAL then 2 ^ 27 else 0)
      (Nat.lor (if s.bit F.FLT_STAT_DEGRADED then 2 ^ 28 else 0) (if s.bit F.TOP_ACC_ERR_VALID then 2 ^ 29 else 0))) := rfl

/-- A register without sticky flags, which holds none of the summary's own three, does not reach the summary. -/
theorem faultSum_put (s : State) {off : Nat} (w : Word) (h : ∀ w, sumOf off w = 0) (hf : off ≠ R.FLT_STAT) (ha : off ≠ R.TOP_ACC_ERR) :
    (s.put off w).faultSum = s.faultSum := by
  have hsum : sumFrom (s.put off w).regs 0 = sumFrom s.regs 0 := by
    unfold State.put
    dsimp only
    split
    · exact sumFrom_erase h _ _
    · rw [sumFrom_insert (h w), sumFrom_erase h]
  have hflt : ∀ f : Fld, f.off = R.FLT_STAT → (s.put off w).bit f = s.bit f := fun f hx =>
    bit_of_rd_eq f (rd_put_ne s w (by rw [hx]; exact hf.symm))
  have hacc : (s.put off w).bit F.TOP_ACC_ERR_VALID = s.bit F.TOP_ACC_ERR_VALID := bit_of_rd_eq _ (rd_put_ne s w ha.symm)
  rw [faultSum_eq, faultSum_eq, hsum, hflt _ rfl, hflt _ rfl, hacc]

/-- The summary is formed of registers alone. -/
theorem faultSum_congr {s t : State} (hr : t.regs = s.regs) (hb : t.board = s.board) : t.faultSum = s.faultSum := by
  have hrd : ∀ off, t.rd off = s.rd off := fun off => by simp only [State.rd, hr, hb]
  have hbit : ∀ f, t.bit f = s.bit f := fun f => bit_of_rd_eq f (hrd _)
  rw [faultSum_eq, faultSum_eq, hr, hbit, hbit, hbit]

theorem findReg_pwrClass6_w1c : (findReg (R.PWR_CLASS 0x06)).map (·.row.w1c) = some 0 := by decide +kernel

/-- PWR_CLASS has no W1C flag. -/
theorem sumOf_pwrClass6 (w : Word) : sumOf (R.PWR_CLASS 0x06) w = 0 := by
  obtain ⟨r, hr, hw⟩ := Option.map_eq_some_iff.mp findReg_pwrClass6_w1c
  simp [sumOf, hr, hw, show blockOf (R.PWR_CLASS 0x06) = some .pwr from by decide]

theorem faultSum_wake_ing (s : State) : (s.wakeBlock 0x06).faultSum = s.faultSum := by
  unfold State.wakeBlock
  split
  · exact faultSum_put s _ sumOf_pwrClass6 (by decide) (by decide)
  · rfl

theorem faultSum_bootReads (s : State) (base : Nat) (bs : List Byte) : (s.bootReads base bs).faultSum = s.faultSum := by
  have h : (s.bootReads base bs).regs = s.regs ∧ (s.bootReads base bs).board = s.board := by
    unfold State.bootReads
    extract_lets quad mhz rd s1
    have h1 : s1.regs = s.regs ∧ s1.board = s.board := ⟨emit_regs s _, emit_board s _⟩
    split
    · exact h1
    · exact ⟨(emit_regs s1 _).trans h1.1, (emit_board s1 _).trans h1.2⟩
  exact faultSum_congr h.1 h.2

/-! ### Every command ends in `done` (R376) -/

/-- The outcome ends a command, and the notice compares with a state whose summary is that of `s`. -/
def EndsFrom (s : State) (o : Host.Outcome State Fault Refusal) : Prop := ∃ old v, o = done old v ∧ old.faultSum = s.faultSum

theorem endsFrom_done (s v : State) : EndsFrom s (done s v) := ⟨s, v, rfl, rfl⟩

theorem endsFrom_ite {s : State} {p : Prop} [Decidable p] {a b : Host.Outcome State Fault Refusal} (ha : EndsFrom s a) (hb : EndsFrom s b) :
    EndsFrom s (if p then a else b) := by
  split
  · exact ha
  · exact hb

/-- A line and a packet of a camera wake ING before their work begins (R397). -/
theorem endsFrom_wake_ing (s v : State) : EndsFrom s (done (s.wakeBlock 0x06) v) := ⟨_, v, rfl, faultSum_wake_ing s⟩

/-- The reads of the boot flash come before the image's work (R470). -/
theorem execBootImageRead_endsFrom (a b : List Byte) (s : State) : EndsFrom s (execBootImageRead a b s) := by
  unfold execBootImageRead
  extract_lets part x y s1 s2 s3 go
  have h1 : s1.faultSum = s.faultSum := faultSum_bootReads s _ _
  have h2 : s2.faultSum = s.faultSum := by
    unfold s2
    split
    · exact h1
    · exact (faultSum_bootReads s1 _ _).trans h1
  split
  · exact endsFrom_done s s
  · split <;> exact ⟨s2, _, rfl, h2⟩

theorem execLineEnd_endsFrom (n : Fin 12) (full : Bool) (s : State) : EndsFrom s (execLineEnd n full s) :=
  endsFrom_ite (endsFrom_done s s) (endsFrom_wake_ing s _)

theorem execCxpPacket_endsFrom (n : Fin 12) (link : Fin 8) (late : Bool) (tag stream : BitVec 8) (ok first : Bool) (fmt : Fin 8)
    (line ofs : BitVec 16) (pix : List (List Nat)) (s : State) :
    EndsFrom s (execCxpPacket n link late tag stream ok first fmt line ofs pix s) :=
  endsFrom_ite (endsFrom_done s _) (endsFrom_ite (endsFrom_done s _) (endsFrom_ite (endsFrom_done s _) (endsFrom_wake_ing s _)))

/-- Every command ends in `done`: most name it at once or behind conditions, those listed below choose by what a match finds. -/
theorem exec_endsFrom (c : Instr) (s : State) : EndsFrom s (exec c s) := by
  cases c
  case lineEnd n full => exact execLineEnd_endsFrom n full s
  case cxpPacket n link late tag stream ok first fmt line ofs pix => exact execCxpPacket_endsFrom n link late tag stream ok first fmt line ofs pix s
  case bootImageRead a b => exact execBootImageRead_endsFrom a b s
  case' blockWakeDone | structApplyDone | cameraLinkAck | staggerReadReturn | stitchLineForm | vuLineProcess | masterFetch | latchPulse | shiftDone
    | printFetchDone | frameStart | ppLineEnd | frameEnd | ispFrameTakeup | ispFrameDone | rowCopyDone | dmaComplete | pmbusPoll | pmbusSetDone
    | blockAnswer | dieRestoreDone | dvfsFreqSwitch | calRunDone | heartbeatReceived | dclRdWord =>
    dsimp only [exec, execBlockWakeDone, execStructApplyDone, execCameraLinkAck, execStaggerReadReturn, execStitchLineForm, execVuLineProcess,
      execMasterFetch, execLatchPulse, execShiftDone, execPrintFetchDone, execFrameStart, execPpLineEnd, execFrameEnd, execIspFrameTakeup,
      execIspFrameDone, execRowCopyDone, execDmaComplete, execPmbusPoll, execPmbusSetDone, execBlockAnswer, execDieRestoreDone, execDvfsFreqSwitch,
      execCalRunDone, execHeartbeatReceived, execDclRdWord]
  all_goals repeat' first | exact endsFrom_done s _ | apply endsFrom_ite | split

/-! ### The notice -/

theorem bitN_eq_testBit (x k : Nat) : bitN x k = x.testBit k := by
  rw [Nat.testBit_eq_decide_div_mod_eq]
  rfl

theorem bit_msix_pend (s : State) (vec : Nat) : (s.msix vec).bit F.HQ_EVT_PEND_FLT = s.bit F.HQ_EVT_PEND_FLT :=
  bit_of_rd_eq _ (rd_msix_ne s (by simp only [F.HQ_EVT_PEND_FLT, R.HQ_EVT_PEND, R.MSIX_PBA]; omega))

theorem bit_faultNotice_pend (s : State) : s.faultNotice.bit F.HQ_EVT_PEND_FLT = true := by
  unfold State.faultNotice
  split
  · assumption
  · extract_lets t
    have ht : t.bit F.HQ_EVT_PEND_FLT = true := bit_setFld_self s _ 1 (by decide) rfl
    split
    · exact (bit_msix_pend t _).trans ht
    · exact ht

/-- The end of a command leaves the notice pending where a summary bit has risen. -/
theorem settle_notices (v old : State) {k : Nat} (h1 : bitN (v.settle old).faultSum k = true) (h0 : bitN old.faultSum k = false) :
    (v.settle old).bit F.HQ_EVT_PEND_FLT = true := by
  revert h1
  unfold State.settle
  extract_lets src t n
  split
  · rename_i hsame
    intro h1
    have hbit : (Nat.lor n old.faultSum).testBit k = (n.testBit k || old.faultSum.testBit k) := Nat.testBit_or ..
    rw [bitN_eq_testBit] at h1 h0
    rw [hsame, h0, h1] at hbit
    exact absurd hbit (by decide)
  · exact fun _ => bit_faultNotice_pend t

/-! ### O5 -/

/-- Settles O5: every step, idle or not, ends in `State.settle` against the summary it began with, and that leaves the notice of any rise. -/
theorem faultSummaryRisesAreNoticed : Obligations.FaultSummaryRisesAreNoticed := by
  unfold Obligations.FaultSummaryRisesAreNoticed
  intro s t k hstep h1 h0
  unfold step at hstep
  split at hstep
  · obtain rfl := Host.Outcome.next.inj hstep
    exact settle_notices _ s h1 h0
  · rename_i c rest _
    obtain ⟨old, v, hv, hold⟩ := exec_endsFrom c { s with pending := rest }
    rw [hv] at hstep
    obtain rfl := Host.Outcome.next.inj hstep
    exact settle_notices v old h1 (by rw [hold]; exact h0)

end Sys2Proof.Machine
end

section
/-!
PROOFS. Accesses to reserved offsets and to registers the part lacks (R3, R27).
-/
namespace Sys2Proof.Machine

/-! ### Accesses that reach no register -/

/-- An access outside a region powered off in Winter (R28) finds a reserved offset, which is captured. -/
theorem reach_reserved {s : State} {off : Nat} (hr : findReg off = none) (hvg : blockOf off ≠ some .vg ∨ s.fld F.PWR_STAT_STATE ≠ 2) (write : Bool) :
    s.reach off write = (none, s.accErr off write false) := by
  rcases hvg with h | h <;> simp [State.reach, hr, h]

/-- It finds a register that the part lacks, and nothing is captured. -/
theorem reach_absentInstance {s : State} {off : Nat} {r : RegRef} (hr : findReg off = some r) (hh : s.regHere off r = false)
    (hvg : blockOf off ≠ some .vg ∨ s.fld F.PWR_STAT_STATE ≠ 2) (write : Bool) : s.reach off write = (none, s) := by
  obtain ⟨b, hb⟩ : ∃ b, blockOf off = some b := Option.ne_none_iff_exists'.mp (fun hn => by simp [findReg, hn] at hr)
  rw [hb] at hvg
  rcases hvg with h | h <;> simp [State.reach, hr, hb, hh, h]

/-- In Winter or not, an access to no register of the part reaches none. -/
theorem reach_fst_none {s : State} {off : Nat} (h : findReg off = none ∨ ∀ r, findReg off = some r → s.regHere off r = false) (write : Bool) :
    (s.reach off write).1 = none := by
  unfold State.reach
  extract_lets vg
  split
  · rfl
  · split
    · rename_i r b hr hb
      have hh : s.regHere off r = false := h.elim (fun hn => by simp [hn] at hr) (fun ha => ha r hr)
      simp [hh]
    · rfl

/-- What an access that reaches no register answers: a write ends with status 0, a read reads 0. -/
def State.unreached (s : State) (off : Nat) (write : Bool) : State := if write then s.status 0 else s.emit (.barRead off 0)

theorem unreached_eq (s : State) (off : Nat) (write : Bool) : s.unreached off write =
    { s with lastStatus := if write then 0 else s.lastStatus, out := if write then s.out else s.out ++ [.barRead off 0] } := by
  cases write
  · simp [State.unreached, emit_eq, scanned]
  · rfl

theorem readReg_of_reach_none {s t : State} {off : Nat} (h : s.reach off false = (none, t)) : s.readReg off = (0, t) := by
  simp [State.readReg, h]

theorem exec_reservedAccess_of_reach_none {s t : State} {off : BitVec 26} {write : Bool} (val : Word)
    (h : s.reach (off.toNat / 4 * 4) write = (none, t)) :
    exec (.reservedAccess off write val) s = done s (t.unreached (off.toNat / 4 * 4) write) := by
  cases write with
  | false => simp [exec, execReservedAccess, readReg_of_reach_none h, State.unreached]
  | true => simp [exec, execReservedAccess, State.barWrite, h, State.unreached]

/-! ### The capture -/

/-- TOP_ACC_ERR as the first reserved access fills it. -/
def State.noteReserved (s : State) (off : Nat) (write : Bool) : State :=
  (((s.setFld F.TOP_ACC_ERR_OFFSET off).setFld F.TOP_ACC_ERR_WRITE (b2n write)).setFld F.TOP_ACC_ERR_OFF_DOM 0).setFld F.TOP_ACC_ERR_VALID 1

theorem accErr_first {s : State} (h : s.bit F.TOP_ACC_ERR_VALID = false) (off : Nat) (write : Bool) : s.accErr off write false = s.noteReserved off write := by
  simp [State.accErr, State.noteReserved, h, b2n]

theorem accErr_later {s : State} (h : s.bit F.TOP_ACC_ERR_VALID = true) (off : Nat) (write offDom : Bool) : s.accErr off write offDom = s := by
  simp [State.accErr, h]

theorem fld_noteReserved_offset (s : State) {off : Nat} (write : Bool) (h : off < 2 ^ 26) : (s.noteReserved off write).fld F.TOP_ACC_ERR_OFFSET = off := by
  rw [State.noteReserved, fld_setFld_apart _ _ (by decide) (.inr (by decide)), fld_setFld_apart _ _ (by decide) (.inr (by decide)),
    fld_setFld_apart _ _ (by decide) (.inr (by decide)), fld_setFld_self _ _ _ (by decide)]
  exact Nat.mod_eq_of_lt h

theorem bit_noteReserved_write (s : State) (off : Nat) (write : Bool) : (s.noteReserved off write).bit F.TOP_ACC_ERR_WRITE = write := by
  rw [State.noteReserved, bit_setFld_apart _ _ (by decide) (.inr (by decide)), bit_setFld_apart _ _ (by decide) (.inr (by decide)),
    bit_setFld_self _ _ _ (by decide) rfl]
  cases write <;> rfl

theorem bit_noteReserved_offDom (s : State) (off : Nat) (write : Bool) : (s.noteReserved off write).bit F.TOP_ACC_ERR_OFF_DOM = false := by
  rw [State.noteReserved, bit_setFld_apart _ _ (by decide) (.inr (by decide)), bit_setFld_self _ _ _ (by decide) rfl]
  rfl

theorem bit_noteReserved_valid (s : State) (off : Nat) (write : Bool) : (s.noteReserved off write).bit F.TOP_ACC_ERR_VALID = true :=
  bit_setFld_self _ _ 1 (by decide) rfl

theorem frame_noteReserved (s : State) (off : Nat) (write : Bool) :
    Frame s (s.noteReserved off write) [F.TOP_ACC_ERR_OFFSET, F.TOP_ACC_ERR_WRITE, F.TOP_ACC_ERR_OFF_DOM, F.TOP_ACC_ERR_VALID] :=
  ((((Frame.refl s _).setFld off (by simp) (by decide)).setFld (b2n write) (by simp) (by decide)).setFld 0 (by simp) (by decide)).setFld 1
    (by simp) (by decide)

theorem unreached_fld (s : State) (off : Nat) (write : Bool) (f : Fld) : (s.unreached off write).fld f = s.fld f := by
  cases write <;> simp [State.unreached]

theorem unreached_bit (s : State) (off : Nat) (write : Bool) (f : Fld) : (s.unreached off write).bit f = s.bit f := by
  rw [State.bit, unreached_fld, State.bit]

/-- The answer moves at both ends of a frame. -/
theorem Frame.unreached {s v : State} {fs : List Fld} (h : Frame s v fs) (off : Nat) (write : Bool) :
    Frame (s.unreached off write) (v.unreached off write) fs := by
  cases write with
  | true => exact h.withStatus 0
  | false =>
    have hout : v.out = s.out := show v.rest.out = s.rest.out by rw [h.rest]
    rw [unreached_eq, unreached_eq, hout]
    exact h.of_eq rfl rfl rfl rfl rfl rfl (congrArg (fun x : State => { x with out := s.out ++ [Out.barRead off 0] }) h.rest)

/-! ### O8 -/

/-- Settles O8: an access reaches no register in each of its cases; what differs is whether TOP_ACC_ERR is filled on the way. -/
theorem reservedAccessIsCaptured : Obligations.ReservedAccessIsCaptured := by
  unfold Obligations.ReservedAccessIsCaptured
  refine ⟨?reads, ?first, ?later, ?absent⟩
  case reads =>
    intro off s o h
    exact congrArg Prod.fst (readReg_of_reach_none (Prod.ext (reach_fst_none h false) rfl))
  case first =>
    intro off write val s o hr hvg hvalid
    have hx : exec (.reservedAccess off write val) s = done s ((s.noteReserved o write).unreached o write) := by
      rw [exec_reservedAccess_of_reach_none val (reach_reserved hr hvg write), accErr_first hvalid]
    have ho : o < 2 ^ 26 := lt_of_le_of_lt (Nat.div_mul_le_self off.toNat 4) off.isLt
    refine completes_of_done hx ⟨?_, ?_, ?_, ?_, ?_⟩
    · rw [unreached_fld, fld_noteReserved_offset s write ho]
    · rw [unreached_bit, bit_noteReserved_write]
    · rw [unreached_bit, bit_noteReserved_offDom]
    · rw [unreached_bit, bit_noteReserved_valid]
    · rw [← unreached_eq]
      exact (frame_noteReserved s o write).unreached o write
  case later =>
    intro off write val s o hr hvg hvalid
    refine completes_of_done (exec_reservedAccess_of_reach_none val (reach_reserved hr hvg write)) ?_
    rw [accErr_later hvalid, unreached_eq]
  case absent =>
    intro off o r hr write val s hh hvg
    exact completes_of_done (exec_reservedAccess_of_reach_none val (reach_absentInstance hr hh hvg write)) (unreached_eq s o write)

end Sys2Proof.Machine
end

section
/-!
PROOFS. EVT_CLK locks on a device whose ENC ready bit stands although no encoder channel is enabled: the bit falls, and its fall posts a FAULT record
(R30, R446), which the statement's clause of PLL_LOCK does not allow.
-/
namespace Sys2Proof.Machine

/-- Whatever state a completed command is described by, outside HOSTQ its registers read as in the state that the command's meaning hands over. -/
theorem rd_of_completed {c : Instr} {s v t : State} {off : Nat} (hv : exec c s = .next (v.settle s)) (ht : exec c s = done s t)
    (h : blockOf off ≠ some .hostq) : v.rd off = t.rd off := by
  have hsettled : t.settle s = v.settle s := Host.Outcome.next.inj (ht.symm.trans hv)
  rw [← rd_settle_ne v s h, ← hsettled, rd_settle_ne t s h]

/-- After reset, but TOP_READY.ENC is 1. -/
def encReadyWithoutEncoder : State := State.reset.putN R.TOP_READY 0x40

theorem segStat_encReadyWithoutEncoder : encReadyWithoutEncoder.rd R.SEG_STAT = 0 := by decide +kernel

/-- EVT_CLK locks: EVT is ready, and ENC follows its channels (R30, R289). -/
def State.evtLocks (s : State) : State := ((s.modFlt (fun x => { x with plls := x.plls.filter (· != 0) })).setReady 5 true).encReady

theorem exec_pllLock_evt (s : State) : exec (.pllLock 0) s = done s s.evtLocks := rfl

/-- The record of the fall goes to a queue that is not in use, and so is dropped. -/
theorem segStat_evtLocks : encReadyWithoutEncoder.evtLocks.rd R.SEG_STAT = 2 := by decide +kernel

/-- Refutes O50: `PLL_LOCK` of EVT_CLK lets TOP_READY.ENC follow the encoder channels; where it falls, a FAULT record names it, and SEG_STAT notes
that the record was dropped. The clause frames the command by two ready bits alone. -/
theorem not_hostLinkComesAndGoes : ¬ Obligations.HostLinkComesAndGoes := by
  unfold Obligations.HostLinkComesAndGoes
  rintro ⟨-, -, -, -, -, -, -, -, hlock, -⟩
  obtain ⟨v, hexec, -, -, -, hframe⟩ := hlock 0 encReadyWithoutEncoder
  have hkept : v.rd R.SEG_STAT = 0 := (hframe.rd (by decide)).trans segStat_encReadyWithoutEncoder
  have hsame : v.rd R.SEG_STAT = encReadyWithoutEncoder.evtLocks.rd R.SEG_STAT := rd_of_completed hexec (exec_pllLock_evt _) (by decide)
  rw [hkept, segStat_evtLocks] at hsame
  exact absurd hsame (by decide)

end Sys2Proof.Machine
end

section
/-!
PROOFS. An uncorrectable error of a line of the spill area, whose FAULT record is spilled into that very line: the record's 64 bytes take its POISON
away (R239, R325).
-/
namespace Sys2Proof.Machine

/-- DDR-4 is installed, the spill is in use from address 0, and the queue of FAULT records is not in use. -/
def spillAtZero : State := ((State.reset.setFld F.SEG_SPILL_CTL_EN 1).setFld F.DMC_INSTALLED_VALID 1).setFld F.DMC_INSTALLED_MIB 1

/-- A read of the line at address 0 that finds an uncorrectable error. -/
def spillLineRead : DdrReq := { ca := 0, addr := 0, wr := none, who := .other false, err := 2, syn := 0, seen := 0 }

theorem inDdr_spillAtZero : spillAtZero.inDdr 0 64 = true := by decide +kernel

theorem poison_serve_spillLineRead : (spillAtZero.serve 0 spillLineRead).poison = [] := by decide +kernel

/-- Refutes O47: the line read is poisoned at first, but the FAULT record of the error is spilled, and takes the line whole. -/
theorem not_memoryRequestsReadAndWrite : ¬ Obligations.MemoryRequestsReadAndWrite := by
  unfold Obligations.MemoryRequestsReadAndWrite
  rintro ⟨-, -, -, -, -, -, -, huncorrectable, -⟩
  obtain ⟨hpoison, -⟩ := huncorrectable 0 spillLineRead false spillAtZero inDdr_spillAtZero (by decide)
  have hnone : 0 ∈ (spillAtZero.serve 0 spillLineRead).poison := hpoison
  rw [poison_serve_spillLineRead] at hnone
  exact absurd hnone (List.not_mem_nil)

end Sys2Proof.Machine
end

section
/-!
PROOFS. A block that a region loses is committed too, and with the last region's commit the nozzle monitor judges the block from the other regions'
tables (R268, R420): it confirms a missing nozzle, and the print port's takeover table takes it.
-/
namespace Sys2Proof.Machine

/-- One running unit, 419 of region 6, at line 0. -/
def oneUnitAssigned : StructData :=
  { chains := [{ id := 1, nops := 0, ops := [], parOfs := 0, parLen := 0, jobmask := 0, slots := [] }],
    assigns := [{ vu := 419, chain := 1, start := 0, width := 0, overlap := 0, rsvd := 0 }],
    links := [], evts := [], cams := [], encs := [], abss := [], sws := [], pps := [], prints := [], nps := [], eths := [], sdgs := [], tws := [],
    dvfs := [], classes := [], mems := [], fallback := [], crc := 0 }

/-- Print port 0 has one nozzle, at column 0 of a web one column wide; its monitor takes every column as a candidate and confirms
one at once. -/
def monitorsOneNozzle : State :=
  let s := ((State.reset.setFld (F.HP_CTL_EN 0) 1).setFld (F.HP_CTL_NZ_EN 0) 1).setFld (F.HP_CTL_NOZ 0) 1
  ((s.putN (R.HP_NZ_CFG0 0) 0x10000).putN (R.HP_NZ_CFG1 0) 0).putN R.STI_WIDTH 1

/-- The ring of region 6 has lost line 0 of block 0; region 0 has committed the block, with the nozzle table of its one column. -/
def ringLostBeforeMonitor : State :=
  let s := monitorsOneNozzle
  { s with
    cfg := { s.cfg with struct := some oneUnitAssigned },
    vg := { s.vg with
      lines := [(0, ({ sline := 0, tag := { seq := 0, encPos := 0, frac := 0, ts := 0, bank := false, cu := none }, short := 0, long := 0,
                       stale := false, clamp := false, repl := false, prov := false, row := none, rep := 0 }, []))],
      units := [{ vu := 419, next := 0, slots := [], outs := [], wins := [] }],
      regions := s.vg.regions.set 6 { s.vg.regions[6] with ringFrom := 1 } },
    seg := { s.seg with commits := [{ block := 0, region := 0, parts := [], tabs := [.noz 0 0 0 [(0, 0, 1)]], lost := false }] } }

/-- The unit's next line has left the ring, and nothing else stands against it: what the clause of a lost line supposes. -/
theorem ringLostBeforeMonitor_loses :
    ringLostBeforeMonitor.unitRuns 419 = true ∧ (ringLostBeforeMonitor.region 6).loading = none ∧
      0 = (ringLostBeforeMonitor.region 6).block ∧ ringLostBeforeMonitor.ringLost 6 0 = true := by decide +kernel

theorem tkCnt_ringLostBeforeMonitor : ringLostBeforeMonitor.rd (R.HP_TK_CNT 0) = 0 := by decide +kernel

/-- One nozzle is in the table, and one was confirmed. -/
theorem tkCnt_loseBlock : (ringLostBeforeMonitor.loseBlock 6 2).rd (R.HP_TK_CNT 0) = 0x10001 := by decide +kernel

/-- VU_LINE_PROCESS of a unit whose next line has left the ring loses its region's block (R420). -/
theorem exec_vuLineProcess_ringLost {vu : Fin 512} {ce : BitVec 8} {s : State} {u : Place} {x : VuS} (hu : s.vuPlace vu = some u)
    (hx : s.vuS vu = some x) (hruns : s.unitRuns vu = true) (hload : (s.region (vu / 64)).loading = none)
    (hblock : x.next / 256 = (s.region (vu / 64)).block) (hlost : s.ringLost (vu / 64) x.next = true) :
    exec (.vuLineProcess vu ce) s = done s (s.loseBlock (vu / 64) 2) := by
  change execVuLineProcess vu ce s = _
  simp [execVuLineProcess, hu, hx, hruns, hload, hblock, hlost]

/-- Refutes O31: with the lost block the monitor writes the print port's table count, a register of block PRT, which the clause of a lost line does
not allow (the clause of BLOCK_COMMIT does). -/
theorem not_unitsTakeTheirLines : ¬ Obligations.UnitsTakeTheirLines := by
  unfold Obligations.UnitsTakeTheirLines
  rintro ⟨-, -, -, hlose, -⟩
  obtain ⟨hruns, hload, hblock, hlost⟩ := ringLostBeforeMonitor_loses
  obtain ⟨v, hexec, -, -, -, -, -, -, hregs⟩ := hlose 419 0 ringLostBeforeMonitor _ rfl _ rfl hruns hload hblock hlost
  have hkept : v.rd (R.HP_TK_CNT 0) = 0 := (hregs _ (by decide)).trans tkCnt_ringLostBeforeMonitor
  have hlost : exec (.vuLineProcess 419 0) ringLostBeforeMonitor = done ringLostBeforeMonitor (ringLostBeforeMonitor.loseBlock 6 2) :=
    exec_vuLineProcess_ringLost (vu := 419) (s := ringLostBeforeMonitor) rfl rfl hruns hload hblock hlost
  have hsame : v.rd (R.HP_TK_CNT 0) = (ringLostBeforeMonitor.loseBlock 6 2).rd (R.HP_TK_CNT 0) := rd_of_completed hexec hlost (by decide)
  rw [hkept, tkCnt_loseBlock] at hsame
  exact absurd hsame (by decide)

end Sys2Proof.Machine
end

section
/-!
PROOFS. A port whose receive map names a lane that is none of its own: NP_RETRAIN sends that lane to HUNT, and its LANE_STAT lies in another block.
The statement speaks of every state, and bounds the map by nothing; lane swaps keep it within the port.
-/
namespace Sys2Proof.Machine

/-- Port 0 trains; its logical lane 0 is mapped to lane 122,880, whose LANE_STAT stands at the offset of HP0_STAT and shows IN_SERVICE. -/
def laneOutsidePort : State :=
  let s := State.reset.modNp 0 (fun x => { x with rxMap := [122784, 1, 2, 3] })
  (s.putN (R.NP_STAT 0) npTrain).putN (R.HP_STAT 0) lsServ

theorem laneOutsidePort_trains : laneOutsidePort.has .nport 0 = true ∧ laneOutsidePort.npSt 0 ∉ [0, npHeld] ∧
    laneOutsidePort.bit ⟨R.TOP_READY, 16, 1⟩ = false := by decide +kernel

theorem hpStat_laneOutsidePort : laneOutsidePort.rd (R.HP_STAT 0) = 3 := by decide +kernel

theorem hpStat_npRetrain : ((laneOutsidePort.npRetrain 0).status 0).rd (R.HP_STAT 0) = 1 := by decide +kernel

theorem exec_npRetrain_present {p : Fin 4} {s : State} (h : s.has .nport p = true) : exec (.npRetrain p) s = done s ((s.npRetrain p).status 0) := by
  change execNpRetrain p s = _
  simp [execNpRetrain, h]

/-- Refutes O26: the lane's state is HP0_STAT, a register of neither NIM nor LANE, and it goes from IN_SERVICE (3) to HUNT (1). -/
theorem not_nimebPortsIdentifyAndReplay : ¬ Obligations.NimebPortsIdentifyAndReplay := by
  unfold Obligations.NimebPortsIdentifyAndReplay
  rintro ⟨-, -, -, -, -, -, -, -, -, hretrain, -⟩
  obtain ⟨hhas, hst, hready⟩ := laneOutsidePort_trains
  obtain ⟨v, hexec, -, -, -, -, hregs⟩ := hretrain 0 laneOutsidePort hhas hst
  have hnotReady : laneOutsidePort.bit ⟨R.TOP_READY, 16 + (0 : Fin 4), 1⟩ = false := hready
  have hkept : v.rd (R.HP_STAT 0) = 3 := (hregs _ (by rw [hnotReady]; decide)).trans hpStat_laneOutsidePort
  have hsame : v.rd (R.HP_STAT 0) = ((laneOutsidePort.npRetrain 0).status 0).rd (R.HP_STAT 0) :=
    rd_of_completed hexec (exec_npRetrain_present (p := 0) hhas) (by decide)
  rw [hkept, hpStat_npRetrain] at hsame
  exact absurd hsame (by decide)

end Sys2Proof.Machine
end

section
/-!
PROOFS. Master tiles and drained banks: what reading a tile's streams leaves of the state (R216, R217, R322, R325, R352), the regions a fetch serves,
and a bank that becomes EMPTY (R63).
-/
namespace Sys2Proof.Machine

/-! ### A block's reads of DDR-4 (R322, R325) -/

/-- From `s` to `v` only registers of DMC and those of records change, and no master tile. -/
structure ReadFrame (s v : State) : Prop where
  regs   : FrameRegs s v (fun off => blockOf off == some .dmc || recordReg off)
  master : v.seg.master = s.seg.master

theorem ReadFrame.refl (s : State) : ReadFrame s s := ⟨fun _ _ => rfl, rfl⟩

theorem ReadFrame.trans {s t u : State} (h : ReadFrame s t) (k : ReadFrame t u) : ReadFrame s u :=
  ⟨fun off ho => (k.regs off ho).trans (h.regs off ho), k.master.trans h.master⟩

/-- Records touch no master tile. -/
theorem RecordFrame.reads {s v : State} (h : RecordFrame s v) : ReadFrame s v := by
  refine ⟨fun off ho => h.regs off (Bool.or_eq_false_iff.mp ho).2, ?_⟩
  rw [show v.seg.master = v.offRecord.seg.master from rfl, h.rest]
  rfl

theorem readFrame_put (s : State) {off : Nat} (w : Word) (h : blockOf off = some .dmc) : ReadFrame s (s.put off w) :=
  ⟨fun x hx => rd_put_ne s w (fun he => by simp [he, h] at hx), rfl⟩

theorem readFrame_setFld (s : State) {f : Fld} (v : Nat) (h : blockOf f.off = some .dmc) : ReadFrame s (s.setFld f v) := readFrame_put s _ h

theorem readFrame_incCnt (s : State) {f g : Fld} (hf : blockOf f.off = some .dmc) (hg : blockOf g.off = some .dmc) : ReadFrame s (s.incCnt f g) := by
  unfold State.incCnt
  dsimp only
  split
  · exact (readFrame_setFld s _ hf).trans (readFrame_setFld _ _ hg)
  · exact readFrame_setFld s _ hf

theorem readFrame_modDmc (s : State) (c : Nat) (f : DmcS → DmcS) : ReadFrame s (s.modDmc c f) := ⟨fun _ _ => rfl, rfl⟩

theorem readFrame_ddrFault (s : State) (c cause a : Nat) : ReadFrame s (s.ddrFault c cause a) := (recordFrame_fault s _ _ _ _ _ _ _).reads

/-- The registers of a channel. -/
theorem blockOf_dmcCh {c k : Nat} (hc : c < 8) (hk : k < 0x100) : blockOf (0x02801000 + k + c * 0x100) = some .dmc := by
  simp (disch := omega) only [blockOf, if_neg, if_pos]

section Channel
variable {c : Nat} (hc : c < 8)
include hc

theorem blockOf_dmcStat : blockOf (R.DMC_CH_STAT c) = some .dmc := blockOf_dmcCh (k := 0x08) hc (by decide)

theorem blockOf_dmcEccCnt : blockOf (R.DMC_CH_ECC_CNT c) = some .dmc := blockOf_dmcCh (k := 0x34) hc (by decide)

theorem blockOf_dmcUse : blockOf (R.DMC_CH_USE c) = some .dmc := blockOf_dmcCh (k := 0x4C) hc (by decide)

theorem blockOf_dmcErrLo : blockOf (R.DMC_CH_ERR_ADDR_LO c) = some .dmc := blockOf_dmcCh (k := 0x38) hc (by decide)

theorem blockOf_dmcErrHi : blockOf (R.DMC_CH_ERR_ADDR_HI c) = some .dmc := blockOf_dmcCh (k := 0x3C) hc (by decide)

theorem blockOf_dmcErrSyn : blockOf (R.DMC_CH_ERR_SYN c) = some .dmc := blockOf_dmcCh (k := 0x40) hc (by decide)

/-- A rank that fails is noted in its channel, and records it (R328). -/
theorem readFrame_rankFail (s : State) (rank a : Nat) : ReadFrame s (s.rankFail c rank a) := by
  unfold State.rankFail
  split
  · exact ReadFrame.refl s
  · extract_lets t
    have ht : ReadFrame s t := ((readFrame_modDmc s c _).trans (readFrame_setFld _ (f := F.DMC_CH_STAT_RANK_FAIL c) 1 (blockOf_dmcStat hc))).trans (readFrame_ddrFault _ _ _ _)
    split
    · exact ht.trans (readFrame_setFld t (f := F.DMC_CH_STAT_STATE c) 3 (blockOf_dmcStat hc))
    · exact ht

/-- A row that retires is noted in its channel, and records it (R327). -/
theorem readFrame_rowRetire (s : State) (ca a : Nat) : ReadFrame s (s.rowRetire c ca a) := by
  unfold State.rowRetire
  extract_lets row rank d ret t u
  split
  · exact ReadFrame.refl s
  · split
    · exact ((readFrame_setFld s (f := F.DMC_CH_STAT_SPARE_FULL c) 1 (blockOf_dmcStat hc)).trans (readFrame_ddrFault _ _ _ _)).trans
        (readFrame_rankFail hc _ _ _)
    · have ht : ReadFrame s t := readFrame_modDmc s c _
      have hu : ReadFrame s u := ((ht.trans (readFrame_setFld t (f := F.DMC_CH_USE_USED c) _ (blockOf_dmcUse hc))).trans
        (readFrame_setFld _ (f := F.DMC_CH_STAT_PG_RET c) 1 (blockOf_dmcStat hc))).trans (readFrame_ddrFault _ _ _ _)
      split
      · exact hu.trans (readFrame_rankFail hc u _ _)
      · exact hu

/-- An uncorrectable error is counted and recorded, and may retire its row and its rank. -/
theorem readFrame_ueLine (s : State) (ca a syn : Nat) : ReadFrame s (s.ueLine c ca a syn) := by
  unfold State.ueLine
  extract_lets row rank l t1 t2 e t3 t4 ue t5 hit
  have h1 : ReadFrame s t1 := ⟨fun _ _ => rfl, rfl⟩
  have h2 : ReadFrame s t2 := (h1.trans (readFrame_setFld t1 (f := F.DMC_CH_STAT_UE c) 1 (blockOf_dmcStat hc))).trans
    (readFrame_incCnt _ (f := F.DMC_CH_ECC_CNT_UE_CNT c) (g := F.DMC_CH_ECC_CNT_SAT c) (blockOf_dmcEccCnt hc) (blockOf_dmcEccCnt hc))
  have he : ReadFrame s e := (h2.trans (readFrame_put t2 _ (blockOf_dmcErrLo hc))).trans
    (readFrame_setFld _ (f := F.DMC_CH_ERR_ADDR_HI_VALUE c) _ (blockOf_dmcErrHi hc))
  have h3 : ReadFrame s t3 := by
    unfold t3
    split
    · exact h2
    · exact (he.trans (readFrame_setFld e (f := F.DMC_CH_ERR_ADDR_HI_VALID c) 1 (blockOf_dmcErrHi hc))).trans
        (readFrame_setFld _ (f := F.DMC_CH_ERR_SYN_VALUE c) _ (blockOf_dmcErrSyn hc))
  have h4 : ReadFrame s t4 := h3.trans (readFrame_ddrFault t3 _ _ _)
  have h5 : ReadFrame s t5 := (h4.trans (readFrame_modDmc t4 c _)).trans (readFrame_rowRetire hc _ _ _)
  split
  · exact h5.trans (readFrame_rankFail hc t5 _ _)
  · exact h5

end Channel

theorem readFrame_ddrReadLine (s : State) (l : Nat) : ReadFrame s (s.ddrReadLine l) := by
  unfold State.ddrReadLine
  extract_lets p
  have hp : p.1 < 8 := ddrLoc_lt _ _
  split
  · exact ReadFrame.refl s
  · split
    · exact readFrame_setFld s (f := F.DMC_CH_USE_FWD_CNT p.1) _ (blockOf_dmcUse hp)
    · split
      · have hfree : ReadFrame s s.free.2 := ⟨fun _ _ => rfl, rfl⟩
        exact hfree.trans (readFrame_ueLine hp s.free.2 _ _ _)
      · exact ReadFrame.refl s

theorem readFrame_ddrRead (s : State) (a n : Nat) : ReadFrame s (s.ddrRead a n) := by
  unfold State.ddrRead
  induction lineRange a n generalizing s with
  | nil => exact ReadFrame.refl s
  | cons l ls ih => exact (readFrame_ddrReadLine s l).trans (ih _)

theorem readFrame_tileRead (s : State) (index base tile : Nat) : ReadFrame s (s.tileRead index base tile) := by
  unfold State.tileRead
  extract_lets e a len t
  have ht : ReadFrame s t := readFrame_ddrRead s _ _
  split
  · exact ReadFrame.refl s
  · split
    · exact ht
    · exact ht.trans (readFrame_ddrRead t _ _)

/-! ### The regions that a fetch serves (R216) -/

/-- The regions of a list, one bit each. -/
def regionSet (p : Nat → Bool) : Nat := ((List.range 8).filter p).foldl (fun a n => a + 2 ^ n) 0

/-- The sum of the powers below `k` that `p` selects is below 2 ^ k, and has their bits. -/
theorem foldl_pow_filter (p : Nat → Bool) (k : Nat) : ((List.range k).filter p).foldl (fun a n => a + 2 ^ n) 0 < 2 ^ k ∧
    ∀ i < k, (((List.range k).filter p).foldl (fun a n => a + 2 ^ n) 0).testBit i = p i := by
  induction k with
  | zero => simp
  | succ k ih =>
    obtain ⟨hlt, hbits⟩ := ih
    rw [List.range_succ, List.filter_append, List.foldl_append]
    generalize ((List.range k).filter p).foldl (fun a n => a + 2 ^ n) 0 = x at hlt hbits
    cases hk : p k with
    | false =>
      simp only [List.filter_cons, hk, List.filter_nil, List.foldl_nil, Bool.false_eq_true, if_false]
      refine ⟨by omega, fun i hi => ?_⟩
      rcases Nat.lt_succ_iff_lt_or_eq.mp hi with hi | rfl
      · exact hbits i hi
      · rw [hk, Nat.testBit_lt_two_pow hlt]
    | true =>
      simp only [List.filter_cons, hk, List.filter_nil, List.foldl_cons, List.foldl_nil, if_true]
      rw [Nat.add_comm x]
      refine ⟨by omega, fun i hi => ?_⟩
      rcases Nat.lt_succ_iff_lt_or_eq.mp hi with hi | rfl
      · rw [Nat.testBit_two_pow_add_gt hi, hbits i hi]
      · rw [Nat.testBit_two_pow_add_eq, Nat.testBit_lt_two_pow hlt, hk]
        rfl

theorem bitN_regionSet (p : Nat → Bool) (rg : Fin 8) : bitN (regionSet p) rg = p rg := by
  rw [bitN_eq_testBit]
  exact (foldl_pow_filter p 8).2 rg rg.isLt

theorem regionSet_eq_zero {p : Nat → Bool} (h : ∀ rg : Fin 8, p rg = false) : regionSet p = 0 := by
  rw [regionSet, List.filter_eq_nil_iff.mpr (fun n hn => by simp [h ⟨n, List.mem_range.mp hn⟩]), List.foldl_nil]

theorem regionSet_ne_zero {p : Nat → Bool} {rg : Fin 8} (h : p rg = true) : regionSet p ≠ 0 := fun hz => by
  have hb := bitN_regionSet p rg
  rw [hz, h] at hb
  simp [bitN] at hb

/-! ### The fetch of a tile (R216, R217, R352) -/

section Fetch
variable (b : Bool) (idx : Fin 4) (tile : BitVec 24) (block : Word) (s : State) (m : MasterE)

/-- The regions that lack the tile for the block. -/
def State.tileLack : Nat := regionSet (fun n => (s.mtile n b idx tile.toNat block.toNat).isNone)

/-- The tile as the fetch keeps it. -/
def State.tileFetched : MTile :=
  { bank := b, idx := idx.val, tile := tile.toNat, block := block.toNat, data := s.tileData m tile.toNat, rgs := s.tileLack b idx tile block }

/-- The state once the tile's streams are read. -/
def State.tileStreamsRead : State :=
  let r := (s.wakeBlock 0x10).tileRead m.indexBase m.base tile.toNat
  if m.classBase = 0 then r else r.tileRead m.classBase m.classBase tile.toNat

/-- The state once the fetched tile is kept. -/
def State.tileKept : State :=
  let r := s.tileStreamsRead tile m
  { r with seg := { r.seg with master := s.tileFetched b idx tile block m :: r.seg.master } }

end Fetch

/-- A tile that failed is flagged and counted (R217). -/
def State.tileBad (s : State) : State := (s.flag F.SEG_STAT_MASTER_CRC).incCnt F.CMP_MX_CNT_BAD F.CMP_MX_CNT_SAT

/-- CMP wakes and reads; of its registers only PWR_CLASS changes, and no master tile. -/
theorem tileStreamsRead_keeps (s : State) (tile : BitVec 24) (m : MasterE) :
    (s.tileStreamsRead tile m).rd R.CMP_MX_CNT = s.rd R.CMP_MX_CNT ∧ (s.tileStreamsRead tile m).seg.master = s.seg.master := by
  have hread : ReadFrame (s.wakeBlock 0x10) (s.tileStreamsRead tile m) := by
    unfold State.tileStreamsRead
    extract_lets r
    have hr : ReadFrame (s.wakeBlock 0x10) r := readFrame_tileRead _ _ _ _
    split
    · exact hr
    · exact hr.trans (readFrame_tileRead r _ _ _)
  have hwake : (s.wakeBlock 0x10).seg = s.seg := by
    obtain ⟨l, hl⟩ := wakeBlock_eq s 0x10
    rw [hl]
  exact ⟨(hread.regs _ (by decide)).trans (rd_wakeBlock_ne s _ (by decide)), hread.master.trans (by rw [hwake])⟩

section Fetches
variable {b : Bool} {idx : Fin 4} {tile : BitVec 24} {block : Word} {s : State} {m : MasterE}

theorem exec_masterFetch (b : Bool) (idx : Fin 4) (tile : BitVec 24) (block : Word) (s : State) :
    exec (.masterFetch b idx tile block) s = execMasterFetch b idx tile block s := rfl

theorem exec_masterFetch_noMaster (h : (s.job b).bind (fun j => j.masters.find? (fun m => m.idx == idx.val)) = none) :
    exec (.masterFetch b idx tile block) s = done s s := by
  rw [exec_masterFetch, execMasterFetch, h]

theorem exec_masterFetch_beyond (hm : (s.job b).bind (fun j => j.masters.find? (fun m => m.idx == idx.val)) = some m)
    (h : ceilDiv m.width 256 * ceilDiv m.height 256 ≤ tile.toNat) : exec (.masterFetch b idx tile block) s = done s s := by
  rw [exec_masterFetch, execMasterFetch, hm]
  exact if_pos h

/-- What a fetch within its master does. -/
theorem exec_masterFetch_within (hm : (s.job b).bind (fun j => j.masters.find? (fun m => m.idx == idx.val)) = some m)
    (h : tile.toNat < ceilDiv m.width 256 * ceilDiv m.height 256) : exec (.masterFetch b idx tile block) s =
      if s.tileLack b idx tile block = 0 then done s s
      else if (s.tileData m tile.toNat).isSome then done s ((s.tileKept b idx tile block m).incWrap F.CMP_MX_CNT_TILES)
      else done s ((s.tileKept b idx tile block m).tileBad.fault 0x06 0x2 block.toNat (w5 := tile.toNat)) := by
  rw [exec_masterFetch, execMasterFetch, hm]
  exact if_neg (by omega)

/-- A tile that every region has is not fetched again. -/
theorem exec_masterFetch_delivered (h : ∀ rg : Fin 8, (s.mtile rg b idx tile.toNat block.toNat).isSome = true) :
    exec (.masterFetch b idx tile block) s = done s s := by
  have hlack : s.tileLack b idx tile block = 0 := regionSet_eq_zero (fun rg => by simpa using h rg)
  cases hm : (s.job b).bind (fun j => j.masters.find? (fun m => m.idx == idx.val)) with
  | none => exact exec_masterFetch_noMaster hm
  | some m =>
    by_cases hw : ceilDiv m.width 256 * ceilDiv m.height 256 ≤ tile.toNat
    · exact exec_masterFetch_beyond hm hw
    · rw [exec_masterFetch_within hm (by omega), if_pos hlack]

theorem tileLack_ne_zero (h : ∃ rg : Fin 8, (s.mtile rg b idx tile.toNat block.toNat).isNone = true) : s.tileLack b idx tile block ≠ 0 := by
  obtain ⟨rg, h⟩ := h
  exact regionSet_ne_zero (p := fun n => (s.mtile n b idx tile.toNat block.toNat).isNone) h

theorem rd_tileKept_cnt (b : Bool) (idx : Fin 4) (tile : BitVec 24) (block : Word) (s : State) (m : MasterE) :
    (s.tileKept b idx tile block m).rd R.CMP_MX_CNT = s.rd R.CMP_MX_CNT := (tileStreamsRead_keeps s tile m).1

end Fetches

/-- No register outside HOSTQ, SEG and TIME is one of a record. -/
theorem recordReg_of_blocks {off : Nat} (h : inBlocks [.hostq, .seg, .time] off = false) : recordReg off = false := by
  cases hr : recordReg off with
  | false => rfl
  | true => exact absurd (h.symm.trans (inBlocks_of_recordReg hr)) (by decide)

/-! ### A drained bank (R63) -/

/-- The ready bit of a bank. -/
def bankReadyBit (b : Bool) : Nat := if b then 9 else 8

/-- The job ID field of a bank. -/
def jobIdFld (b : Bool) : Fld := if b then F.CFG_JOBB_JOB_ID else F.CFG_JOBA_JOB_ID

/-- The state field of a bank. -/
def bankStateFld (b : Bool) : Fld := if b then F.CFG_BANK_B_STATE else F.CFG_BANK_A_STATE

theorem bankState_eq (s : State) (b : Bool) : s.bankState b = s.fld (bankStateFld b) := by cases b <;> rfl

/-- The bank's job is forgotten. -/
def State.dropJob (s : State) (b : Bool) : State :=
  if b then { s with cfg := { s.cfg with jobB := none } } else { s with cfg := { s.cfg with jobA := none } }

theorem emptyBank_eq (s : State) (b : Bool) :
    s.emptyBank b = (((s.setFld (bankStateFld b) 0).setReady (bankReadyBit b) false).dropJob b).setFld (jobIdFld b) 0 := by cases b <;> rfl

theorem job_dropJob (s : State) (b : Bool) : (s.dropJob b).job b = none := by cases b <;> rfl

theorem rd_dropJob (s : State) (b : Bool) (off : Nat) : (s.dropJob b).rd off = s.rd off := by cases b <;> rfl

theorem ddr_dropJob (s : State) (b : Bool) : (s.dropJob b).ddr = s.ddr := by cases b <;> rfl

/-- A bank that becomes EMPTY: its state, its job, its ready bit and its JOB_ID are gone. -/
theorem emptyBank_spec (s : State) (b : Bool) :
    (s.emptyBank b).bankState b = 0 ∧ (s.emptyBank b).job b = none ∧ (s.emptyBank b).bit (readyFld (bankReadyBit b)) = false ∧
      (s.emptyBank b).fld (jobIdFld b) = 0 ∧ FrameMem s (s.emptyBank b) s.spillByte ∧
      FrameRegs s (s.emptyBank b)
        (fun off => off == (bankStateFld b).off || off == (jobIdFld b).off || off == (readyFld (bankReadyBit b)).off || recordReg off) := by
  rw [emptyBank_eq]
  set t := s.setFld (bankStateFld b) 0 with ht
  have hr := setReady_frame t (bankReadyBit b) false
  set u := t.setReady (bankReadyBit b) false
  have hbankJob : (bankStateFld b).off ≠ (jobIdFld b).off := by cases b <;> decide
  have hreadyJob : (readyFld (bankReadyBit b)).off ≠ (jobIdFld b).off := by cases b <;> decide
  have hkeepsBank : (bankStateFld b).off ≠ (readyFld (bankReadyBit b)).off ∧ recordReg (bankStateFld b).off = false := by cases b <;> decide
  have hspill : t.spillByte = s.spillByte := spillByte_of_rd_eq (rd_setFld_ne s _ 0 (by cases b <;> decide))
  refine ⟨?_, ?_, ?_, ?_, fun a ha => ?_, fun off ho => ?_⟩
  · rw [bankState_eq, fld_setFld_ne _ _ _ _ hbankJob, fld_of_rd_eq _ (rd_dropJob u b _),
      fld_of_rd_eq _ (hr.regs _ (by simp [hkeepsBank.1, hkeepsBank.2])), ht, fld_setFld_self _ _ _ (by cases b <;> decide), Nat.zero_mod]
  · exact (by cases b <;> rfl : ((u.dropJob b).setFld (jobIdFld b) 0).job b = (u.dropJob b).job b).trans (job_dropJob u b)
  · rw [bit_of_rd_eq _ (rd_setFld_ne _ _ 0 hreadyJob), bit_of_rd_eq _ (rd_dropJob u b _)]
    exact hr.ready
  · rw [fld_setFld_self _ _ _ (by cases b <;> decide), Nat.zero_mod]
  · rw [setFld_ddr, ddr_dropJob]
    exact hr.mem a (by rw [hspill]; exact ha)
  · simp only [Bool.or_eq_false_iff, beq_eq_false_iff_ne] at ho
    obtain ⟨⟨⟨hbank, hjob⟩, hready⟩, hrec⟩ := ho
    rw [rd_setFld_ne _ _ _ hjob, rd_dropJob, hr.regs off (by simp [hready, hrec]), ht, rd_setFld_ne _ _ _ hbank]

/-! ### O34 -/

/-- Settles O34: reading a tile's streams changes no register of CMP and no tile kept, so the fetch adds one tile and one count; a bank that becomes
EMPTY loses its ready bit last but for its JOB_ID. -/
theorem masterTilesAreFetchedAndBanksDrain : Obligations.MasterTilesAreFetchedAndBanksDrain := by
  unfold Obligations.MasterTilesAreFetchedAndBanksDrain
  refine ⟨?noMaster, ?beyond, ?delivered, ?fetched, ?notDrained, ?drained⟩
  case noMaster =>
    intro b idx tile block s hm
    exact completes_of_done (exec_masterFetch_noMaster hm) rfl
  case beyond =>
    intro b idx tile block s m hm hw
    exact completes_of_done (exec_masterFetch_beyond hm hw) rfl
  case delivered =>
    intro b idx tile block s h
    exact completes_of_done (exec_masterFetch_delivered h) rfl
  case fetched =>
    intro b idx tile block s m hm hw hlack
    have hx := exec_masterFetch_within (block := block) hm hw
    rw [if_neg (tileLack_ne_zero hlack)] at hx
    have hkept := rd_tileKept_cnt b idx tile block s m
    have hmaster := (tileStreamsRead_keeps s tile m).2
    change if (s.tileData m tile.toNat).isSome then _ else _
    split
    · rename_i hd
      rw [if_pos hd] at hx
      refine completes_of_done hx ⟨⟨s.tileFetched b idx tile block m, ?_, rfl, rfl, rfl, rfl, rfl, fun rg => bitN_regionSet _ rg⟩, ?_, ?_⟩
      · exact congrArg (s.tileFetched b idx tile block m :: ·) hmaster
      · rw [incWrap_eq, fld_setFld_self _ _ _ (by decide), fld_of_rd_eq F.CMP_MX_CNT_TILES hkept]
        rfl
      · exact (Frame.refl (s.tileKept b idx tile block m) _).incWrap (by simp) (by decide)
    · rename_i hd
      rw [if_neg hd] at hx
      refine completes_of_done hx ⟨(s.tileKept b idx tile block m).tileBad, rfl, ?_, ?_, ?_, ?_⟩
      · have hnone : s.tileData m tile.toNat = none := by simpa using hd
        refine ⟨s.tileFetched b idx tile block m, ?_, rfl, rfl, rfl, rfl, hnone⟩
        simp only [State.tileBad, incCnt_seg, flag_eq, setFld_seg]
        rfl
      · simp only [State.tileBad, flag_eq]
        rw [bit_of_rd_eq _ (rd_incCnt_ne _ _ _ (by decide) (by decide)), bit_setFld_self _ _ _ (by decide) rfl]
        rfl
      · simp only [State.tileBad, flag_eq]
        rw [fld_incCnt_self _ _ _ (by decide) (by decide) (.inr (by decide)), fld_setFld_ne _ _ _ _ (by decide),
          fld_of_rd_eq F.CMP_MX_CNT_BAD hkept]
        rfl
      · simp only [State.tileBad, incCnt_seg, flag_eq, setFld_seg]
        exact ((Frame.refl (s.tileKept b idx tile block m) _).flag (by simp) (by decide)).incCnt (by simp) (by decide) (by simp) (by decide)
  case notDrained =>
    intro b s h
    have hx : exec (.bankDrainDone b) s = done s s := by
      change execBankDrainDone b s = _
      rcases h with h | h <;> simp [execBankDrainDone, h]
    exact completes_of_done hx rfl
  case drained =>
    intro b s hstate hflight
    have hx : exec (.bankDrainDone b) s = done s (s.emptyBank b) := by
      change execBankDrainDone b s = _
      simp [execBankDrainDone, hstate, hflight]
    obtain ⟨hempty, hjob, hready, hid, hmem, hregs⟩ := emptyBank_spec s b
    refine completes_of_done hx ⟨hempty, hjob, ?_, ?_, hmem, fun off ho => hregs off ?_⟩
    · cases b <;> exact hready
    · cases b <;> exact hid
    · simp only [Bool.or_eq_false_iff, beq_eq_false_iff_ne] at ho
      obtain ⟨⟨⟨⟨hbank, ha⟩, hb⟩, htop⟩, hblocks⟩ := ho
      have hrec := recordReg_of_blocks hblocks
      cases b <;> simp [bankStateFld, jobIdFld, bankReadyBit, readyFld, hrec] <;> exact ⟨⟨hbank, ‹_›⟩, htop⟩

end Sys2Proof.Machine
end

section
/-!
SUPPORT. What raising a source does while the device is in frost hold (R94, R98, R104): the consumers that drive camera triggers, lines and pulses
rest, so that beside hidden state only registers of EVT, ENC, SDF and HOSTQ change.
-/
namespace Sys2Proof.Machine

/-! ### What stays while the matrix runs in frost hold -/

/-- The registers that the event matrix may change in frost hold. -/
def matrixReg (off : Nat) : Bool := inBlocks [.evt, .enc, .sdf, .hostq] off

/-- From `s` to `v` only registers of EVT, ENC, SDF and HOSTQ change, and nothing that FLT and PWR hide. -/
structure HoldFrame (s v : State) : Prop where
  regs : FrameRegs s v matrixReg
  flt  : v.flt = s.flt
  pwr  : v.pwr = s.pwr

theorem HoldFrame.refl (s : State) : HoldFrame s s := ⟨fun _ _ => rfl, rfl, rfl⟩

theorem HoldFrame.trans {s t u : State} (h : HoldFrame s t) (k : HoldFrame t u) : HoldFrame s u :=
  ⟨fun off ho => (k.regs off ho).trans (h.regs off ho), k.flt.trans h.flt, k.pwr.trans h.pwr⟩

theorem holdFrame_put (s : State) {off : Nat} (w : Word) (h : matrixReg off = true) : HoldFrame s (s.put off w) :=
  ⟨fun x hx => rd_put_ne s w (fun he => by simp [he, h] at hx), rfl, rfl⟩

theorem holdFrame_setFld (s : State) (f : Fld) (v : Nat) (h : matrixReg f.off = true) : HoldFrame s (s.setFld f v) := holdFrame_put s _ h

theorem holdFrame_emit (s : State) (o : Out) : HoldFrame s (s.emit o) := ⟨fun off _ => emit_rd s o off, emit_flt s o, emit_pwr s o⟩

theorem HoldFrame.frost {s v : State} (h : HoldFrame s v) : v.bit F.FLT_STAT_FROST = s.bit F.FLT_STAT_FROST :=
  bit_of_rd_eq _ (h.regs _ (by decide))

/-! ### Registers of the matrix -/

theorem matrixReg_of_block {off : Nat} {b : Block} (h : blockOf off = some b) (hb : b ∈ [.evt, .enc, .sdf, .hostq]) : matrixReg off = true := by
  simpa [matrixReg, inBlocks, h] using hb

theorem matrixReg_evt {off : Nat} (h1 : 0x02500000 ≤ off) (h2 : off < 0x02600000) : matrixReg off = true :=
  matrixReg_of_block (b := .evt) (by simp (disch := omega) only [blockOf, if_neg, if_pos]) (by simp)

theorem matrixReg_hostq {off : Nat} (h1 : 0x00200000 ≤ off) (h2 : off < 0x00400000) : matrixReg off = true :=
  matrixReg_of_block (blockOf_hostq h1 h2) (by simp)

section Consumer
variable {c : Nat} (hc : c < 64)
include hc

theorem matrixReg_evtCfg : matrixReg (R.EVT_CFG c) = true := matrixReg_evt (by simp only [R.EVT_CFG]; omega) (by simp only [R.EVT_CFG]; omega)

theorem matrixReg_evtAct : matrixReg (R.EVT_ACT c) = true := matrixReg_evt (by simp only [R.EVT_ACT]; omega) (by simp only [R.EVT_ACT]; omega)

theorem matrixReg_evtLoss : matrixReg (R.EVT_LOSS c) = true := matrixReg_evt (by simp only [R.EVT_LOSS]; omega) (by simp only [R.EVT_LOSS]; omega)

end Consumer

/-! ### The actions that frost hold leaves (R104) -/

/-- A compare unit is armed by an event (R82). -/
theorem holdFrame_modCu (s : State) (u : Nat) (f : CuS → CuS) : HoldFrame s (s.modCu u f) := ⟨fun _ _ => rfl, rfl, rfl⟩

theorem holdFrame_absStart (s : State) {n : Nat} (h : n < 2) : HoldFrame s (s.absStart n) := by
  have hts : matrixReg (R.ABS_TS n) = true :=
    matrixReg_of_block (b := .enc) (by simp (disch := simp only [R.ABS_TS]; omega) only [blockOf, if_neg, if_pos]) (by simp)
  have hbusy : HoldFrame s { s with absIn := vput s.absIn n { busy := true } } := ⟨fun _ _ => rfl, rfl, rfl⟩
  unfold State.absStart
  split
  · exact HoldFrame.refl s
  · exact hbusy.trans (holdFrame_put _ _ hts)

theorem holdFrame_sdfSync (s : State) : HoldFrame s s.sdfSync := by
  have h : HoldFrame s ((s.flag F.SDF_STAT_SYNC_SEEN).incWrap F.SDF_STAT_SYNC_CNT) :=
    (holdFrame_setFld s F.SDF_STAT_SYNC_SEEN 1 (by decide)).trans (holdFrame_setFld _ F.SDF_STAT_SYNC_CNT _ (by decide))
  exact h.trans ⟨fun _ _ => rfl, rfl, rfl⟩

theorem holdFrame_foldl_put {l : List Nat} {n : Nat} (hl : ∀ k ∈ l, matrixReg (R.EVT_CAP_POS0 n + 4 * k) = true) (s : State) :
    HoldFrame s (l.foldl (fun s k => s.putN (R.EVT_CAP_POS0 n + 4 * k) (s.pos k)) s) := by
  induction l generalizing s with
  | nil => exact HoldFrame.refl s
  | cons k l ih => exact (holdFrame_put s _ (hl k (by simp))).trans (ih (fun x hx => hl x (by simp [hx])) _)

theorem holdFrame_capture (s : State) {n : Nat} (h : n < 3) : HoldFrame s (s.capture n) := by
  have hts : matrixReg (R.EVT_CAP_TS n) = true := matrixReg_evt (by simp only [R.EVT_CAP_TS]; omega) (by simp only [R.EVT_CAP_TS]; omega)
  have hpos : ∀ k ∈ List.range 4, matrixReg (R.EVT_CAP_POS0 n + 4 * k) = true := fun k hk => by
    have hk : k < 4 := List.mem_range.mp hk
    exact matrixReg_evt (by simp only [R.EVT_CAP_POS0]; omega) (by simp only [R.EVT_CAP_POS0]; omega)
  have hseq : matrixReg (R.EVT_CAP_SEQ n) = true := matrixReg_evt (by simp only [R.EVT_CAP_SEQ]; omega) (by simp only [R.EVT_CAP_SEQ]; omega)
  exact ((holdFrame_put s _ hts).trans (holdFrame_foldl_put hpos _)).trans (holdFrame_setFld _ (F.EVT_CAP_SEQ_SEQ n) _ hseq)

theorem holdFrame_msix (s : State) {vec : Nat} (h : vec < 64) : HoldFrame s (s.msix vec) := by
  have hpba : matrixReg (R.MSIX_PBA (vec / 32)) = true := matrixReg_hostq (by simp only [R.MSIX_PBA]; omega) (by simp only [R.MSIX_PBA]; omega)
  obtain ⟨l, o, he⟩ := msix_eq s vec
  exact ⟨fun off ho => rd_msix_ne s (fun hp => by simp [hp, hpba] at ho), by rw [he], by rw [he]⟩

theorem holdFrame_irqNotice (s : State) (n : Nat) : HoldFrame s (s.irqNotice n) := by
  unfold State.irqNotice
  extract_lets f
  split
  · exact HoldFrame.refl s
  · exact (holdFrame_setFld s f 1 (by decide : matrixReg R.HQ_EVT_PEND = true)).trans (holdFrame_msix _ (fld_lt s ⟨R.HQ_EVT_VEC, 8 * n, 6⟩))

theorem holdFrame_levelToggle (s : State) (n : Nat) : HoldFrame s (s.levelToggle n) := by
  have hlevel : ∀ e, HoldFrame s { s with evt := e } := fun _ => ⟨fun _ _ => rfl, rfl, rfl⟩
  unfold State.levelToggle
  split
  · exact (hlevel _).trans (holdFrame_emit _ _)
  · exact (hlevel _).trans (holdFrame_emit _ _)

/-- The action of a consumer of a kind that frost hold does not suppress. -/
theorem holdFrame_evtAct (s : State) {c : Nat} (hits : List Nat) (first : Bool) (hc : c < 64) (hk : 1 < evtKind c) : HoldFrame s (s.evtAct c hits first) := by
  have hkind : ¬ c < 32 ∧ ¬ (50 ≤ c ∧ c < 52) := by
    unfold evtKind at hk
    split_ifs at hk <;> omega
  obtain ⟨h32, h52⟩ := hkind
  unfold State.evtAct
  rw [if_neg (by omega), if_neg (by omega), if_neg h32]
  split
  · split
    · exact holdFrame_modCu s _ _
    · exact HoldFrame.refl s
  · split
    · exact holdFrame_absStart s (by omega)
    · rw [if_neg (by omega)]
      split
      · exact holdFrame_sdfSync s
      · split
        · exact holdFrame_capture s (by omega)
        · split
          · exact holdFrame_irqNotice s _
          · split
            · split
              · exact HoldFrame.refl s
              · exact holdFrame_levelToggle s _
            · exact HoldFrame.refl s

/-! ### The passes (R94, R97, R98, R100) -/

theorem holdFrame_evtConsumer {s : State} (hs : s.bit F.FLT_STAT_FROST = true) (srcs : List Nat) (bankB trigDis first : Bool) {c : Nat} (hc : c < 64) :
    HoldFrame s (s.evtConsumer srcs bankB trigDis first c).2 := by
  unfold State.evtConsumer
  extract_lets hits open_ supp merged t u w
  split
  · exact HoldFrame.refl s
  · rename_i hgo
    have hk : 1 < evtKind c := by
      have hheld : s.held = true := by simp [State.held, hs]
      simp only [supp, hheld, Bool.and_true, Bool.or_eq_true, decide_eq_true_eq, not_or] at hgo
      omega
    have ht : HoldFrame s t := holdFrame_setFld s (F.EVT_CFG_COINC c) _ (matrixReg_evtCfg hc)
    have hu : HoldFrame s u := by
      unfold u
      split
      · exact ht.trans (holdFrame_setFld t (F.EVT_LOSS_COINC_CNT c) _ (matrixReg_evtLoss hc))
      · exact ht
    split
    · exact (hu.trans (holdFrame_setFld u (F.EVT_CFG_OVR c) 1 (matrixReg_evtCfg hc))).trans
        (holdFrame_setFld _ (F.EVT_LOSS_OVR_CNT c) _ (matrixReg_evtLoss hc))
    · have hw : HoldFrame s w := (hu.trans (holdFrame_setFld u (F.EVT_CFG_OVR c) 0 (matrixReg_evtCfg hc))).trans
        (holdFrame_setFld _ (F.EVT_ACT_CNT c) _ (matrixReg_evtAct hc))
      exact hw.trans (holdFrame_evtAct w hits first hc hk)

/-- The consumers of a list, one after another. -/
theorem holdFrame_consumers (srcs : List Nat) (bankB trigDis first : Bool) (l : List Nat) (hl : ∀ c ∈ l, c < 64) (acc : List Nat × State)
    (hs : acc.2.bit F.FLT_STAT_FROST = true) :
    HoldFrame acc.2 (l.foldl (fun acc c =>
      let r := acc.2.evtConsumer srcs bankB trigDis first c
      (if r.1 then acc.1 ++ [c + 31] else acc.1, r.2)) acc).2 := by
  induction l generalizing acc with
  | nil => exact HoldFrame.refl _
  | cons c l ih =>
    have h1 : HoldFrame acc.2 (acc.2.evtConsumer srcs bankB trigDis first c).2 := holdFrame_evtConsumer hs srcs bankB trigDis first (hl c (by simp))
    exact h1.trans (ih (fun x hx => hl x (by simp [hx])) (_, _) (h1.frost.trans hs))

theorem holdFrame_evtPass {s : State} (hs : s.bit F.FLT_STAT_FROST = true) (srcs : List Nat) (bankB first : Bool) :
    HoldFrame s (s.evtPass srcs bankB first).2 :=
  holdFrame_consumers srcs bankB s.cfg.trigDis first (List.range 64) (fun _ hc => List.mem_range.mp hc) ([], s) hs

theorem holdFrame_evtPasses (bankB first : Bool) (k : Nat) (srcs : List Nat) {s : State} (hs : s.bit F.FLT_STAT_FROST = true) :
    HoldFrame s (evtPasses bankB first k srcs s) := by
  induction k generalizing bankB first srcs s with
  | zero => exact HoldFrame.refl s
  | succ k ih =>
    unfold evtPasses
    split
    · exact HoldFrame.refl s
    · have h := holdFrame_evtPass hs srcs bankB first
      exact h.trans (ih _ _ _ (h.frost.trans hs))

/-- The identities of hits are forgotten at the end (R257). -/
theorem holdFrame_forgetHits (l : List Nat) (s : State) :
    HoldFrame s (l.foldl (fun s n => if (s.prtS n).hitId.isSome then s.modPrt n (fun p => { p with hitId := none }) else s) s) := by
  induction l generalizing s with
  | nil => exact HoldFrame.refl s
  | cons n l ih =>
    have h1 : HoldFrame s (if (s.prtS n).hitId.isSome then s.modPrt n (fun p => { p with hitId := none }) else s) := by
      split
      · exact ⟨fun _ _ => rfl, rfl, rfl⟩
      · exact HoldFrame.refl s
    exact h1.trans (ih _)

theorem holdFrame_raise {s : State} (hs : s.bit F.FLT_STAT_FROST = true) (srcs : List Nat) : HoldFrame s (s.raise srcs) := by
  unfold State.raise State.raiseG
  extract_lets t
  have ht : HoldFrame s t := by
    unfold t
    split
    · exact HoldFrame.refl s
    · exact holdFrame_evtPasses s.bankBRuns true 3 srcs hs
  exact ht.trans (holdFrame_forgetHits (List.range 8) t)

end Sys2Proof.Machine
end

section
/-!
PROOFS. Fatal faults (R427, R435, R446): what they set, what frost hold and the FATAL record leave of the registers that show it, the loss of a PLL
and of a die, and the RELEASE.
-/
namespace Sys2Proof.Machine

/-! ### A record leaves TIME_STAT

Of TIME a record changes the registers of the launch queues only (R240, R295). -/

theorem timeStat_emits (s : State) (l : List Out) : (l.foldl State.emit s).rd R.TIME_STAT = s.rd R.TIME_STAT := by
  induction l generalizing s with
  | nil => rfl
  | cons o l ih => exact (ih _).trans (emit_rd s o _)

theorem timeStat_setFld_below (s : State) {f : Fld} (v : Nat) (h : f.off < 0x02600000) : (s.setFld f v).rd R.TIME_STAT = s.rd R.TIME_STAT :=
  rd_setFld_ne s f v (by simp only [R.TIME_STAT]; omega)

theorem timeStat_msix (s : State) {vec : Nat} (h : vec < 64) : (s.msix vec).rd R.TIME_STAT = s.rd R.TIME_STAT :=
  rd_msix_ne s (by simp only [R.TIME_STAT, R.MSIX_PBA]; omega)

theorem timeStat_signalQ (s : State) (c : Nat) : (s.signalQ c).rd R.TIME_STAT = s.rd R.TIME_STAT := by
  unfold State.signalQ
  split
  · rfl
  · extract_lets src s1
    exact timeStat_msix s1 (fld_lt s1 (F.HQ_CFG_VEC (32 + c)))

theorem timeStat_writeBack (s : State) (n v : Nat) : (s.writeBack n v).rd R.TIME_STAT = s.rd R.TIME_STAT := by
  unfold State.writeBack
  extract_lets a
  split
  · rfl
  · exact emit_rd s _ _

theorem timeStat_pushEntry (s : State) {c : Nat} (e : HostEntry) (irq : Bool) (h : c < 32) : (s.pushEntry c e irq).rd R.TIME_STAT = s.rd R.TIME_STAT := by
  unfold State.pushEntry
  split
  · rfl
  · extract_lets n t0 t bs s1 s2 u src s3 s4 ith
    have h2 : s2.rd R.TIME_STAT = s.rd R.TIME_STAT :=
      (timeStat_setFld_below s1 t (by simp only [F.HQ_TAIL_OFS, R.HQ_TAIL]; omega)).trans (timeStat_emits s _)
    have h4 : s4.rd R.TIME_STAT = s.rd R.TIME_STAT :=
      ((timeStat_writeBack _ n t).trans (timeStat_setFld_below s3 _ (by simp only [F.HQ_STAT_FULL, R.HQ_STAT]; omega))).trans h2
    split
    · exact (timeStat_signalQ s4 c).trans h4
    · exact h4

theorem rd_memWrite (s : State) (a : Nat) (bs : List Byte) (off : Nat) : (s.memWrite a bs).rd off = s.rd off := by
  unfold State.memWrite
  split <;> rfl

theorem timeStat_postRecQ (s : State) (r : Nat) (ws : List Nat) : (s.postRecQ r ws).rd R.TIME_STAT = s.rd R.TIME_STAT := by
  unfold State.postRecQ
  extract_lets c a s1 src q d
  split
  · exact (timeStat_setFld_below _ (f := F.SEG_REC_CNT_CNT) _ (by decide)).trans (timeStat_pushEntry s _ _ (fld_lt s (F.SEG_ROUTE_QID r)))
  · split
    · exact (timeStat_setFld_below _ (f := F.SEG_STAT_SPILL_ACT) 1 (by decide)).trans (rd_memWrite s _ _ _)
    · exact (rd_incCnt_ne _ F.SEG_LOSS_CNT_DROP_CNT F.SEG_LOSS_CNT_SAT (by decide) (by decide)).trans
        (timeStat_setFld_below _ (f := F.SEG_STAT_REC_DROP) 1 (by decide))

section Launch
variable {p : Nat} (hp : p < 2)
include hp

theorem timeStat_launchDrop (s : State) : (s.launchDrop p).rd R.TIME_STAT = s.rd R.TIME_STAT := by
  have hcnt : R.TIME_STAT ≠ R.TIME_EP_LCNT p := by simp only [R.TIME_STAT, R.TIME_EP_LCNT]; omega
  have hstat : R.TIME_STAT ≠ R.TIME_EP_LSTAT p := by simp only [R.TIME_STAT, R.TIME_EP_LSTAT]; omega
  exact (rd_incCnt_ne _ (F.TIME_EP_LCNT_DROP_CNT p) (F.TIME_EP_LCNT_SAT p) hcnt hcnt).trans (rd_setFld_ne s (F.TIME_EP_LSTAT_FULL p) 1 hstat)

theorem timeStat_launchSeg (s : State) (frame : List Byte) (l : Nat) : (s.launchSeg p frame l).rd R.TIME_STAT = s.rd R.TIME_STAT := by
  have hstat : R.TIME_STAT ≠ R.TIME_EP_LSTAT p := by simp only [R.TIME_STAT, R.TIME_EP_LSTAT]; omega
  unfold State.launchSeg
  extract_lets q
  split
  · exact (rd_incCnt_ne _ F.SEG_LOSS_CNT_DROP_CNT F.SEG_LOSS_CNT_SAT (by decide) (by decide)).trans (timeStat_launchDrop hp s)
  · exact rd_setFld_ne { s with time := _ } (F.TIME_EP_LSTAT_DEPTH p) _ hstat

theorem timeStat_closeGather (s : State) : (s.closeGather p).rd R.TIME_STAT = s.rd R.TIME_STAT := by
  unfold State.closeGather
  extract_lets recs f l src s1
  split
  · rfl
  · exact timeStat_launchSeg hp s1 f l

theorem timeStat_gatherRec (s : State) (ws : List Nat) : (s.gatherRec p ws).rd R.TIME_STAT = s.rd R.TIME_STAT := by
  unfold State.gatherRec
  extract_lets old t src s1
  split
  · exact timeStat_closeGather hp s1
  · rfl

end Launch

theorem timeStat_record (s : State) (r : Nat) (ws : List Nat) : (s.record r ws).rd R.TIME_STAT = s.rd R.TIME_STAT := by
  unfold State.record
  extract_lets ws' s1 s2 sevOk s3
  have h1 : s1.rd R.TIME_STAT = s.rd R.TIME_STAT := by
    unfold s1 State.shadowKeep
    split <;> rfl
  have h2 : s2.rd R.TIME_STAT = s.rd R.TIME_STAT := by
    unfold s2
    split
    · exact (timeStat_postRecQ s1 r ws').trans h1
    · exact h1
  have h3 : s3.rd R.TIME_STAT = s.rd R.TIME_STAT := by
    unfold s3
    split
    · exact (timeStat_gatherRec (by decide) s2 ws').trans h2
    · exact h2
  split
  · exact (timeStat_gatherRec (by decide) s3 ws').trans h3
  · exact h3

theorem timeStat_fault (s : State) (src cause inst w5 w6 w7 : Nat) (fatal : Bool) :
    (s.fault src cause inst w5 w6 w7 fatal).rd R.TIME_STAT = s.rd R.TIME_STAT := timeStat_record s 4 _

/-! ### What a record leaves of FLT and PWR -/

theorem RecordFrame.plls {s v : State} (h : RecordFrame s v) : v.flt.plls = s.flt.plls := by
  rw [show v.flt.plls = v.offRecord.flt.plls from rfl, h.rest]
  rfl

theorem RecordFrame.pwr {s v : State} (h : RecordFrame s v) : v.pwr = s.pwr := by
  rw [show v.pwr = v.offRecord.pwr from rfl, h.rest]
  rfl

/-! ### Ready bits -/

theorem readyFld_fits (k : Nat) : (readyFld k).lo + (readyFld k).w ≤ 32 := by
  simp only [readyFld]
  omega

/-- A ready bit leaves every field apart from it, but those of records. -/
theorem fld_setReady_apart (s : State) {k : Nat} {f : Fld} (b : Bool) (ha : (readyFld k).Apart f) (hr : recordReg f.off = false) :
    (s.setReady k b).fld f = s.fld f := by
  obtain ⟨u, hu, -, hrec⟩ := setReady_eq s k b
  rw [fld_of_rd_eq f (hrec.regs f.off hr)]
  rcases hu with rfl | ⟨x, rfl⟩
  · rfl
  · exact fld_setFld_apart s x (readyFld_fits k) ha

/-- Another ready bit of the same register. -/
theorem bit_setReady_ne (s : State) {j k : Nat} (b : Bool) (h : j ≠ k) (hj : j < 32) (hk : k < 32) :
    (s.setReady k b).bit (readyFld j) = s.bit (readyFld j) := by
  have ha : (readyFld k).Apart (readyFld j) := .inr (by simp only [readyFld]; omega)
  rw [State.bit, fld_setReady_apart s b ha (recordReg_readyFld j), State.bit]

theorem timeStat_setReady (s : State) (k : Nat) (b : Bool) : (s.setReady k b).rd R.TIME_STAT = s.rd R.TIME_STAT := by
  have hne : R.TIME_STAT ≠ (readyFld k).off := by simp only [readyFld]; split <;> decide
  cases b with
  | true => exact rd_setFld_ne s (readyFld k) 1 hne
  | false =>
    rw [setReady_false]
    split
    · exact (timeStat_fault _ _ _ _ _ _ _ _).trans (rd_setFld_ne s _ 0 hne)
    · rfl

theorem ReadyFrame.plls {s v : State} {k : Nat} {b : Bool} (h : ReadyFrame s v k b) : v.flt.plls = s.flt.plls := by
  rw [show v.flt.plls = v.offRecord.flt.plls from rfl, h.rest]
  rfl

theorem ReadyFrame.pwr {s v : State} {k : Nat} {b : Bool} (h : ReadyFrame s v k b) : v.pwr = s.pwr := by
  rw [show v.pwr = v.offRecord.pwr from rfl, h.rest]
  rfl

/-! ### Frost hold (R435) -/

theorem frostOn_held {s : State} (h : s.bit F.FLT_STAT_FROST = true) : s.frostOn = s := by simp [State.frostOn, h]

/-- The gates formed outside EVT_CLK reach it (R95). -/
def State.slowGates (s : State) : State := { s with evt := { s.evt with slow := s.slowNow } }

theorem holdFrame_slowGates (s : State) : HoldFrame s s.slowGates := ⟨fun _ _ => rfl, rfl, rfl⟩

theorem frostOn_rises {s : State} (h : s.bit F.FLT_STAT_FROST = false) : s.frostOn = (s.flag F.FLT_STAT_FROST).slowGates.raise [89] := by
  rw [State.frostOn, h]
  rfl

/-- From `s` to `v` frost hold is entered or stays: FROST is set, and beside it only registers of the matrix change. -/
structure FrostFrame (s v : State) : Prop where
  frost : v.bit F.FLT_STAT_FROST = true
  flags : ∀ f : Fld, f.off = R.FLT_STAT → F.FLT_STAT_FROST.Apart f → v.fld f = s.fld f
  regs  : FrameRegs s v (fun off => off == R.FLT_STAT || matrixReg off)
  flt   : v.flt = s.flt
  pwr   : v.pwr = s.pwr

theorem frostOn_frame (s : State) : FrostFrame s s.frostOn := by
  cases h : s.bit F.FLT_STAT_FROST with
  | true =>
    rw [frostOn_held h]
    exact ⟨h, fun _ _ _ => rfl, fun _ _ => rfl, rfl, rfl⟩
  | false =>
    have hset : (s.flag F.FLT_STAT_FROST).bit F.FLT_STAT_FROST = true := bit_setFld_self s _ 1 (by decide) rfl
    have hgates := holdFrame_slowGates (s.flag F.FLT_STAT_FROST)
    have hhold := hgates.trans (holdFrame_raise (hgates.frost.trans hset) [89])
    rw [frostOn_rises h]
    refine ⟨hhold.frost.trans hset, fun f hf ha => ?_, fun off ho => ?_, hhold.flt, hhold.pwr⟩
    · rw [fld_of_rd_eq f (hhold.regs f.off (by rw [hf]; decide)), flag_eq, fld_setFld_apart s 1 (by decide) ha]
    · obtain ⟨hstat, hmatrix⟩ := Bool.or_eq_false_iff.mp ho
      have hne : off ≠ F.FLT_STAT_FROST.off := by simpa [F.FLT_STAT_FROST] using hstat
      rw [hhold.regs off hmatrix, flag_eq, rd_setFld_ne s _ 1 hne]

/-! ### A fatal fault (R427) -/

theorem fatal_held {s : State} {cause : Nat} (h : s.bit F.FLT_STAT_FATAL = true) : s.fatal cause = s := by simp [State.fatal, h]

/-- FATAL and its cause are set, and the claim line rests. -/
def State.fatalMarks (s : State) (cause : Nat) : State := ((s.flag F.FLT_STAT_FATAL).setFld F.FLT_STAT_FATAL_CAUSE cause).claimLine

/-- The FATAL record. -/
def State.fatalRecord (s : State) (cause : Nat) : State := s.fault 0x0B cause 0 (fatal := true)

theorem fatal_new {s : State} {cause : Nat} (h : s.bit F.FLT_STAT_FATAL = false) :
    s.fatal cause = ((s.fatalMarks cause).frostOn).fatalRecord cause := by
  rw [State.fatal, h]
  rfl

/-- The marks of a fatal fault change FLT_STAT alone. -/
theorem fatalMarks_spec (s : State) {cause : Nat} (hc : cause < 8) : (s.fatalMarks cause).bit F.FLT_STAT_FATAL = true ∧
    (s.fatalMarks cause).fld F.FLT_STAT_FATAL_CAUSE = cause ∧ (s.fatalMarks cause).bit F.FLT_STAT_FROST = s.bit F.FLT_STAT_FROST ∧
    (∀ off, off ≠ R.FLT_STAT → (s.fatalMarks cause).rd off = s.rd off) ∧
    (s.fatalMarks cause).flt = s.flt ∧ (s.fatalMarks cause).pwr = s.pwr ∧ (s.fatalMarks cause).ddr = s.ddr := by
  simp only [State.fatalMarks, State.claimLine, flag_eq, emit_bit, emit_fld, emit_rd, emit_flt, emit_pwr, emit_ddr, setFld_flt, setFld_pwr, setFld_ddr,
    and_self, and_true]
  refine ⟨?_, ?_, ?_, fun off ho => ?_⟩
  · rw [bit_setFld_apart _ _ (by decide) (.inr (by decide)), bit_setFld_self _ _ _ (by decide) rfl]
    rfl
  · rw [fld_setFld_self _ _ _ (by decide)]
    exact Nat.mod_eq_of_lt hc
  · rw [bit_setFld_apart _ _ (by decide) (.inr (by decide)), bit_setFld_apart _ _ (by decide) (.inr (by decide))]
  · rw [rd_setFld_ne _ F.FLT_STAT_FATAL_CAUSE _ ho, rd_setFld_ne _ F.FLT_STAT_FATAL _ ho]

theorem recordFrame_fatalRecord (s : State) (cause : Nat) : RecordFrame s (s.fatalRecord cause) := recordFrame_fault s _ _ _ _ _ _ _

/-- The registers that a fatal fault may change on a device not yet in frost hold. -/
def fatalReg (off : Nat) : Bool := off == R.FLT_STAT || matrixReg off || (off != R.TIME_STAT && recordReg off)

/-- From `s` to `v` a fatal fault has come, or held the device already. -/
structure FatalFrame (s v : State) (cause : Nat) : Prop where
  fatal : v.bit F.FLT_STAT_FATAL = true
  fresh : s.bit F.FLT_STAT_FATAL = false → v.fld F.FLT_STAT_FATAL_CAUSE = cause ∧ v.bit F.FLT_STAT_FROST = true
  regs  : FrameRegs s v fatalReg
  plls  : v.flt.plls = s.flt.plls
  pwr   : v.pwr = s.pwr

theorem fatal_frame (s : State) {cause : Nat} (hc : cause < 8) : FatalFrame s (s.fatal cause) cause := by
  cases h : s.bit F.FLT_STAT_FATAL with
  | true =>
    rw [fatal_held h]
    exact ⟨h, fun hf => absurd (h.symm.trans hf) (by decide), fun _ _ => rfl, rfl, rfl⟩
  | false =>
    obtain ⟨hset, hcause, -, hregs, hflt, hpwr, -⟩ := fatalMarks_spec s hc
    have hfrost := frostOn_frame (s.fatalMarks cause)
    have hrec := recordFrame_fatalRecord (s.fatalMarks cause).frostOn cause
    have hstat : ((s.fatalMarks cause).frostOn.fatalRecord cause).rd R.FLT_STAT = (s.fatalMarks cause).frostOn.rd R.FLT_STAT := hrec.regs _ (by decide)
    rw [fatal_new h]
    refine ⟨?_, fun _ => ⟨?_, ?_⟩, fun off ho => ?_, ?_, ?_⟩
    · rw [bit_of_rd_eq F.FLT_STAT_FATAL hstat, State.bit, hfrost.flags F.FLT_STAT_FATAL rfl (.inr (by decide))]
      exact hset
    · rw [fld_of_rd_eq F.FLT_STAT_FATAL_CAUSE hstat, hfrost.flags F.FLT_STAT_FATAL_CAUSE rfl (.inr (by decide))]
      exact hcause
    · rw [bit_of_rd_eq F.FLT_STAT_FROST hstat]
      exact hfrost.frost
    · simp only [fatalReg, Bool.or_eq_false_iff, beq_eq_false_iff_ne, Bool.and_eq_false_iff, bne_eq_false_iff_eq] at ho
      obtain ⟨⟨hne, hmatrix⟩, hrecord⟩ := ho
      have hkept : ((s.fatalMarks cause).frostOn.fatalRecord cause).rd off = (s.fatalMarks cause).frostOn.rd off := by
        rcases hrecord with rfl | hrecord
        · exact timeStat_fault _ _ _ _ _ _ _ _
        · exact hrec.regs off hrecord
      rw [hkept, hfrost.regs off (by simp [hne, hmatrix]), hregs off hne]
    · rw [hrec.plls, hfrost.flt, hflt]
    · rw [hrec.pwr, hfrost.pwr, hpwr]

/-- On a device in frost hold a fatal fault changes FLT_STAT and what a record changes. -/
theorem fatal_frozen {s : State} {cause : Nat} (hc : cause < 8) (h : s.bit F.FLT_STAT_FROST = true) :
    (s.fatal cause).bit F.FLT_STAT_FROST = true ∧ FrameMem s (s.fatal cause) s.spillByte ∧
      FrameRegs s (s.fatal cause) (fun off => off == R.FLT_STAT || recordReg off) := by
  cases hf : s.bit F.FLT_STAT_FATAL with
  | true =>
    rw [fatal_held hf]
    exact ⟨h, fun _ _ => rfl, fun _ _ => rfl⟩
  | false =>
    obtain ⟨-, -, hfrost, hregs, -, -, hddr⟩ := fatalMarks_spec s hc
    have hrec := recordFrame_fatalRecord (s.fatalMarks cause) cause
    rw [fatal_new hf, frostOn_held (hfrost.trans h)]
    refine ⟨?_, fun a ha => ?_, fun off ho => ?_⟩
    · rw [bit_of_rd_eq F.FLT_STAT_FROST (hrec.regs R.FLT_STAT (by decide))]
      exact hfrost.trans h
    · rw [hrec.mem a (by rw [spillByte_of_rd_eq (hregs _ (by decide))]; exact ha), hddr]
    · obtain ⟨hne, hrecord⟩ := Bool.or_eq_false_iff.mp ho
      rw [hrec.regs off hrecord, hregs off (by simpa using hne)]

/-! ### The loss of a PLL (R427, R446) -/

/-- The PLL is noted as lost. -/
def State.notePll (s : State) (k : Nat) : State := s.modFlt (fun x => { x with plls := k :: x.plls.filter (· != k) })

/-- The bits of a clock fall: EVT and, with it, ENC; TIME and its lock. -/
def State.clockLost (s : State) (k : Nat) : State :=
  if k = 0 then (s.setReady 5 false).encReady
  else if k = 2 then (s.setFld F.TIME_STAT_PLL_LOCK 0).setReady 4 false else s

theorem exec_fatalFault_pll {k : Fin 7} (h : k.val < 3) (s : State) :
    exec (.fatalFault k) s = done s (((s.notePll k).clockLost k).fatal 1) := by
  change execFatalFault k s = _
  rw [execFatalFault, if_pos h]
  rfl

/-- The loss of a clock leaves FLT_STAT and what FLT hides of PLLs. -/
structure ClockFrame (s v : State) : Prop where
  regs : FrameRegs s v (fun off => off == R.TOP_READY || recordReg off)
  mem  : FrameMem s v s.spillByte
  plls : v.flt.plls = s.flt.plls

theorem ClockFrame.refl (s : State) : ClockFrame s s := ⟨fun _ _ => rfl, fun _ _ => rfl, rfl⟩

theorem ClockFrame.trans {s t u : State} (h : ClockFrame s t) (k : ClockFrame t u) : ClockFrame s u :=
  ⟨fun off ho => (k.regs off ho).trans (h.regs off ho),
    fun a ha => (k.mem a (by rw [spillByte_of_rd_eq (h.regs _ (by decide))]; exact ha)).trans (h.mem a ha), k.plls.trans h.plls⟩

theorem clockFrame_setReady (s : State) {k : Nat} (b : Bool) (hk : k < 32) : ClockFrame s (s.setReady k b) := by
  have hr := setReady_frame s k b
  have hoff : (readyFld k).off = R.TOP_READY := by simp [readyFld, hk]
  exact ⟨fun off ho => hr.regs off (by rw [hoff]; exact ho), hr.mem, hr.plls⟩

theorem clockFrame_clockLost (s : State) (k : Nat) : ClockFrame s (s.clockLost k) := by
  unfold State.clockLost
  split
  · exact (clockFrame_setReady s false (by decide)).trans (clockFrame_setReady _ _ (by decide))
  · split
    · have hlock : ClockFrame s (s.setFld F.TIME_STAT_PLL_LOCK 0) :=
        ⟨fun off ho => rd_setFld_ne s _ 0 (fun he => absurd ho (by rw [he]; decide)), fun _ _ => rfl, rfl⟩
      exact hlock.trans (clockFrame_setReady _ false (by decide))
    · exact ClockFrame.refl s

/-- EVT_CLK is lost: EVT is not ready, whatever ENC is. -/
theorem evtReady_clockLost (s : State) : (s.clockLost 0).bit (readyFld 5) = false :=
  (bit_setReady_ne _ _ (by decide) (by decide) (by decide)).trans (setReady_frame s 5 false).ready

/-- TS_CLK is lost: TIME is not ready, and its lock is gone. -/
theorem timeReady_clockLost (s : State) : (s.clockLost 2).bit (readyFld 4) = false ∧ (s.clockLost 2).bit F.TIME_STAT_PLL_LOCK = false := by
  refine ⟨(setReady_frame (s.setFld F.TIME_STAT_PLL_LOCK 0) 4 false).ready, ?_⟩
  have hlock : (s.setFld F.TIME_STAT_PLL_LOCK 0).bit F.TIME_STAT_PLL_LOCK = false := bit_setFld_self s _ 0 (by decide) rfl
  exact (bit_of_rd_eq F.TIME_STAT_PLL_LOCK (timeStat_setReady (s.setFld F.TIME_STAT_PLL_LOCK 0) 4 false)).trans hlock

/-! ### The loss of a die (R427) -/

/-- The die is without power, and its ready bits and its temperatures are gone. -/
def State.dieGone (s : State) (d : Nat) : State :=
  let s := { s with pwr := { s.pwr with powered := s.pwr.powered.filter (· != d) } }
  let s := [2 * d, 2 * d + 1].foldl (fun s n => s.setReady (24 + n) false) (s.setReady (20 + d) false)
  (List.range 4).foldl (fun s k => s.setFld (F.CAL_TEMP_VALID (4 * d + k)) 0) s

theorem dieLost_eq (s : State) (d : Nat) : s.dieLost d = (s.dieGone d).fatal 2 := rfl

/-- The die's ready bit falls; FLT_STAT stays. -/
theorem dieGone_spec (s : State) (d : Fin 4) : (s.dieGone d).bit (readyFld (20 + d)) = false ∧ (s.dieGone d).rd R.FLT_STAT = s.rd R.FLT_STAT ∧
    (s.dieGone d).pwr.powered = s.pwr.powered.filter (· != d.val) := by
  let t := { s with pwr := { s.pwr with powered := s.pwr.powered.filter (· != d.val) } }
  let u0 := t.setReady (20 + d) false
  let u1 := u0.setReady (24 + 2 * d) false
  let u2 := u1.setReady (24 + (2 * d + 1)) false
  have h0 : ReadyFrame t u0 (20 + d) false := setReady_frame t _ _
  have h1 : ReadyFrame u0 u1 (24 + 2 * d) false := setReady_frame u0 _ _
  have h2 : ReadyFrame u1 u2 (24 + (2 * d + 1)) false := setReady_frame u1 _ _
  have hkeep : ∀ off, (off = R.FLT_STAT ∨ off = R.TOP_READY) → (s.dieGone d).rd off = u2.rd off := fun off ho => by
    have hne : ∀ k, k < 4 → off ≠ R.CAL_TEMP (4 * d + k) := fun k hk => by
      rcases ho with rfl | rfl <;> simp only [R.FLT_STAT, R.TOP_READY, R.CAL_TEMP] <;> omega
    change ((((u2.setFld (F.CAL_TEMP_VALID (4 * d + 0)) 0).setFld (F.CAL_TEMP_VALID (4 * d + 1)) 0).setFld (F.CAL_TEMP_VALID (4 * d + 2)) 0).setFld
      (F.CAL_TEMP_VALID (4 * d + 3)) 0).rd off = _
    rw [rd_setFld_ne _ _ _ (hne 3 (by decide)), rd_setFld_ne _ _ _ (hne 2 (by decide)), rd_setFld_ne _ _ _ (hne 1 (by decide)),
      rd_setFld_ne _ _ _ (hne 0 (by decide))]
  have hready : ∀ k, k < 32 → (readyFld k).off = R.TOP_READY := fun k hk => by simp [readyFld, hk]
  have hstat : ∀ k, k < 32 → (R.FLT_STAT == (readyFld k).off || recordReg R.FLT_STAT) = false := fun k hk => by rw [hready k hk]; decide
  refine ⟨?_, ?_, ?_⟩
  · rw [bit_of_rd_eq _ (hkeep _ (.inr (hready (20 + d) (by omega))))]
    exact ((bit_setReady_ne u1 false (by omega) (by omega) (by omega)).trans (bit_setReady_ne u0 false (by omega) (by omega) (by omega))).trans h0.ready
  · exact (((hkeep _ (.inl rfl)).trans (h2.regs _ (hstat _ (by omega)))).trans (h1.regs _ (hstat _ (by omega)))).trans (h0.regs _ (hstat _ (by omega)))
  · exact congrArg (·.powered) ((h2.pwr.trans h1.pwr).trans h0.pwr)

/-- The die that FATAL_FAULT 3 + d names. -/
theorem val_dieFault (d : Fin 4) : (Fin.ofNat 7 (3 + d.val)).val = 3 + d.val := by
  simp only [Fin.ofNat]
  omega

theorem exec_fatalFault_die (d : Fin 4) (s : State) : exec (.fatalFault (Fin.ofNat 7 (3 + d.val))) s =
    if s.has .die d && s.fld F.PWR_STAT_STATE != 2 && bitN (s.fld F.TOP_READY_CD) d then done s (s.dieLost d) else done s s := by
  change execFatalFault _ s = _
  rw [execFatalFault, val_dieFault, if_neg (by omega), Nat.add_sub_cancel_left]

/-! ### RELEASE (R427) -/

theorem release_refused {s : State} (h : s.bit F.FLT_STAT_FATAL = false ∨ s.bit F.FLT_PAIR_CFG_PAIR_EN = true ∨ s.causeGone = false) :
    s.release = s.status 0 := by
  rcases h with h | h | h <;> simp [State.release, h]

theorem release_allowed {s : State} (hf : s.bit F.FLT_STAT_FATAL = true) (hp : s.bit F.FLT_PAIR_CFG_PAIR_EN = false) (hc : s.causeGone = true) :
    s.release = ((s.setFld F.FLT_STAT_FATAL 0).setFld F.FLT_STAT_FROST 0).status 0 := by simp [State.release, hf, hp, hc]

/-- The cause is gone where each cause that can be shown no longer holds. -/
theorem causeGone_of {s : State} (h1 : s.fld F.FLT_STAT_FATAL_CAUSE = 1 → s.flt.plls = [])
    (h2 : s.fld F.FLT_STAT_FATAL_CAUSE = 2 → ∀ d : Fin 4, s.has .die d = true → bitN (s.fld F.TOP_READY_CD) d = true)
    (h3 : s.fld F.FLT_STAT_FATAL_CAUSE = 3 → s.bit F.FLT_STAT_DEGRADED = false)
    (h4 : s.fld F.FLT_STAT_FATAL_CAUSE = 4 → s.bit F.CAL_STAT_HOT = false) : s.causeGone = true := by
  unfold State.causeGone
  extract_lets c
  split
  · rename_i hc
    simp [h1 hc]
  · split
    · rename_i hc
      rw [List.all_eq_true]
      intro d hd
      have hready := h2 hc ⟨d, List.mem_range.mp hd⟩
      cases hh : s.has .die d with
      | true => simpa [hh] using hready hh
      | false => rfl
    · split
      · rename_i hc
        simp [h3 hc]
      · split
        · rename_i hc
          simp [h4 hc]
        · rfl

/-! ### O58 -/

/-- Settles O58: the order in `fatal` is what it turns on. FROST is set before the source FROST is raised, so the matrix runs in frost hold and
leaves FLT_STAT, TOP_READY and TIME_STAT. -/
theorem fatalFaultsHoldTheDevice : Obligations.FatalFaultsHoldTheDevice := by
  unfold Obligations.FatalFaultsHoldTheDevice
  refine ⟨?held, ?frozen, ?forced, ?pll, ?pllFrozen, ?noDie, ?die, ?refused, ?released⟩
  case held =>
    intro s hf
    have hx : exec .forceFatal s = done s (s.status 0) := by
      change done s ((s.fatal 5).status 0) = _
      rw [fatal_held hf]
    exact completes_of_done hx rfl
  case frozen =>
    intro s hf hfrost
    have hfatal := fatal_frame s (cause := 5) (by decide)
    obtain ⟨hstays, hmem, hregs⟩ := fatal_frozen (cause := 5) (by decide) hfrost
    refine completes_of_done (v := (s.fatal 5).status 0) rfl ⟨hfatal.fatal, (hfatal.fresh hf).1, hstays, rfl, hmem, fun off ho => hregs off ?_⟩
    obtain ⟨hne, hblocks⟩ := Bool.or_eq_false_iff.mp ho
    exact Bool.or_eq_false_iff.mpr ⟨hne, recordReg_of_blocks hblocks⟩
  case forced =>
    intro s hf
    have hfatal := fatal_frame s (cause := 5) (by decide)
    exact completes_of_done (v := (s.fatal 5).status 0) rfl ⟨hfatal.fatal, (hfatal.fresh hf).1, (hfatal.fresh hf).2, rfl⟩
  case pll =>
    intro k s hk
    have hclock := clockFrame_clockLost (s.notePll k) k
    have hfatal := fatal_frame ((s.notePll k).clockLost k) (cause := 1) (by decide)
    have hstat : ((s.notePll k).clockLost k).bit F.FLT_STAT_FATAL = s.bit F.FLT_STAT_FATAL := bit_of_rd_eq _ (hclock.regs _ (by decide))
    refine completes_of_done (exec_fatalFault_pll hk s) ⟨?_, hfatal.fatal, fun hf => hfatal.fresh (hstat.trans hf), ?_, ?_⟩
    · rw [hfatal.plls, hclock.plls]
      exact List.mem_cons_self
    · rintro rfl
      exact (bit_of_rd_eq (readyFld 5) (hfatal.regs R.TOP_READY (by decide))).trans (evtReady_clockLost _)
    · rintro rfl
      obtain ⟨hready, hlock⟩ := timeReady_clockLost (s.notePll 2)
      exact ⟨(bit_of_rd_eq (readyFld 4) (hfatal.regs R.TOP_READY (by decide))).trans hready,
        (bit_of_rd_eq F.TIME_STAT_PLL_LOCK (hfatal.regs R.TIME_STAT (by decide))).trans hlock⟩
  case pllFrozen =>
    intro k s hk hfrost
    have hclock := clockFrame_clockLost (s.notePll k) k
    have hstat : ((s.notePll k).clockLost k).bit F.FLT_STAT_FROST = s.bit F.FLT_STAT_FROST := bit_of_rd_eq _ (hclock.regs _ (by decide))
    obtain ⟨-, hmem, hregs⟩ := fatal_frozen (cause := 1) (by decide) (hstat.trans hfrost)
    have hspill : ((s.notePll k).clockLost k).spillByte = s.spillByte := spillByte_of_rd_eq (hclock.regs _ (by decide))
    refine completes_of_done (exec_fatalFault_pll hk s) ⟨fun a ha => ?_, fun off ho => ?_⟩
    · exact (hmem a (by rw [hspill]; exact ha)).trans (hclock.mem a ha)
    · simp only [Bool.or_eq_false_iff] at ho
      obtain ⟨⟨hne, htop⟩, hblocks⟩ := ho
      have hrec := recordReg_of_blocks hblocks
      exact (hregs off (by simp [hne, hrec])).trans (hclock.regs off (by simp [htop, hrec]))
  case noDie =>
    intro d s h
    have hx : exec (.fatalFault (Fin.ofNat 7 (3 + d.val))) s = done s s := by
      rw [exec_fatalFault_die]
      rcases h with h | h | h <;> simp [h]
    exact completes_of_done hx rfl
  case die =>
    intro d s hh hs hb
    have hx : exec (.fatalFault (Fin.ofNat 7 (3 + d.val))) s = done s ((s.dieGone d).fatal 2) := by
      rw [exec_fatalFault_die, ← dieLost_eq]
      simp [hh, hs, hb]
    obtain ⟨hready, hstat, hpowered⟩ := dieGone_spec s d
    have hfatal := fatal_frame (s.dieGone d) (cause := 2) (by decide)
    have htop : (readyFld (20 + d)).off = R.TOP_READY := by simp [readyFld]; omega
    have hfld : readyFld (20 + d) = ⟨R.TOP_READY, 20 + d, 1⟩ := by simp [readyFld]; omega
    refine completes_of_done hx ⟨?_, hfatal.fatal, fun hf => hfatal.fresh ((bit_of_rd_eq _ hstat).trans hf), ?_⟩
    · rw [← hfld, bit_of_rd_eq _ (hfatal.regs _ (by rw [htop]; decide))]
      exact hready
    · rw [hfatal.pwr, hpowered]
      simp
  case refused =>
    intro s h
    exact completes_of_done (congrArg (done s) (release_refused h)) rfl
  case released =>
    intro s hf hp c h1 h2 h3 h4
    refine completes_of_done (congrArg (done s) (release_allowed hf hp (causeGone_of h1 h2 h3 h4))) ⟨?_, ?_, ?_⟩
    · rw [status_bit, bit_setFld_apart _ _ (by decide) (.inr (by decide)), bit_setFld_self _ _ _ (by decide) rfl]
      rfl
    · rw [status_bit, bit_setFld_self _ _ _ (by decide) rfl]
      rfl
    · exact (((Frame.refl s _).setFld 0 (by simp) (by decide)).setFld 0 (by simp) (by decide)).withStatus 0

end Sys2Proof.Machine
end

section
/-!
PROOFS. A boot script may wait for the fatal fault and then release it: the poll is what an idle device does (R471), so a clock period with no command
waiting writes FLT_CTL.RELEASE (R427). What else the clock period brings reaches no register of FLT.
-/
namespace Sys2Proof.Machine

/-! ### What reaches an idle device -/

/-- No lane and no Nimeb port is in use, and no line waits in the stitch memory. -/
structure Dormant (s : State) : Prop where
  lanes : ∀ i < 114, s.lst i = lsOff
  ports : ∀ p < 4, s.npSt p = 0
  store : ∀ c : Fin 12, s.sti.store[c] = [] ∧ s.sti.stag[c] = { lines := [] }
  lines : s.vg.lines = []

section Dormant

variable {s : State} (h : Dormant s)
include h

theorem Dormant.aligned (i : Fin 114) : s.aligned i = false := by simp [State.aligned, h.lanes i i.isLt, lsOff, lsLock, lsServ, lsSpare]

theorem Dormant.hiBer (p : Fin 2) (on : Bool) : s.hiBer p on = s := by
  have hoff : s.lst (112 + p) = lsOff := h.lanes _ (by omega)
  simp [State.hiBer, hoff, lsOff, lsServ]

theorem Dormant.fecCount (p : Fin 2) (corr uncorr : Nat) : s.fecCount p corr uncorr = s := by
  have hoff : s.lst (112 + p) = lsOff := h.lanes _ (by omega)
  simp [State.fecCount, hoff, lsOff, lsServ]

theorem Dormant.adapts (i : Fin 114) (w : Word) : s.adapts i w = s := by simp [State.adapts, h.aligned i]

theorem Dormant.prbsCount (i : Fin 114) (errors : Nat) : s.prbsCount i errors = s := by
  simp [State.prbsCount, h.lanes i i.isLt, lsOff, lsTest]

/-- A port that does not train keeps its lanes' skew beside the registers. -/
theorem Dormant.rd_laneSkew (i : Fin 16) (blocks off : Nat) : (s.laneSkew (96 + i) blocks).rd off = s.rd off := by
  have hst : s.fld (F.NP_STAT_STATE ((96 + i - 96) / 4)) = 0 := h.ports _ (by omega)
  unfold State.laneSkew
  extract_lets p src t
  have hp : t.npSt p = 0 := hst
  rw [if_neg (by simp [hp]), if_neg (by simp [hp])]
  rfl

theorem Dormant.stitchEccCam (c : Fin 12) (k : Nat) : s.stitchEccCam c k = s := by
  obtain ⟨hstore, hstag⟩ := h.store c
  simp [State.stitchEccCam, hstore, hstag]

theorem Dormant.stitchEccOut (k : Nat) : s.stitchEccOut k = s := by simp [State.stitchEccOut, h.lines]

/-- What reaches a dormant device of itself changes RTC_STAT and TW0_PMB_STAT at most. -/
theorem Dormant.rd_ambient {off : Nat} (h1 : off ≠ R.RTC_STAT) (h2 : off ≠ R.TW0_PMB_STAT) : s.ambient.rd off = s.rd off := by
  unfold State.ambient
  extract_lets a t
  have ht : Dormant t := ⟨h.lanes, h.ports, h.store, h.lines⟩
  have hrd : t.rd off = s.rd off := rfl
  have same : ∀ {u : State}, u = t → u.rd off = s.rd off := fun hu => hu ▸ hrd
  cases a with
  | quiet => rfl
  | laneErrors i code disp => exact same (if_neg (by simp [ht.aligned i]))
  | hiBer p on => exact same (ht.hiBer p on)
  | fec p corr uncorr => exact same (ht.fecCount p _ _)
  | taps i w => exact same (ht.adapts i w)
  | prbs i errors => exact same (ht.prbsCount i _)
  | skew i blocks => exact ht.rd_laneSkew i _ off
  | badFrame p fcrcOk => exact same (if_neg (by simp [ht.ports p p.isLt, npIdent, npStUp]))
  | stitchEcc c k =>
    cases c with
    | none => exact same (ht.stitchEccOut _)
    | some c => exact same (ht.stitchEccCam c _)
  | vbat low => exact rd_setFld_ne t F.RTC_STAT_VBAT_LOW _ h1
  | pmbAlert low => exact rd_setFld_ne t F.TW0_PMB_STAT_ALERT _ h2

end Dormant

/-! ### The counterexample to O6 -/

/-- A boot script that waits for FLT_STAT.FATAL and then writes FLT_CTL.RELEASE. -/
def releaseScript : List (Nat × Nat) := [(2 ^ 31 + R.FLT_STAT, 1), (R.FLT_CTL, 8)]

/-- The script runs as BOOT_IMAGE_READ starts it (R470 to R472), and waits in its poll; then FLT_CTL.FORCE_FATAL is written (R427). -/
def fatalInBootPoll : State :=
  (bootRun ({ State.reset with boot := { State.reset.boot with image := true } }.setReady 0 true) 0 releaseScript).fatal 5

theorem fatalInBootPoll_fatal : fatalInBootPoll.bit F.FLT_STAT_FATAL = true := by decide +kernel

theorem fatalInBootPoll_pending : fatalInBootPoll.pending = [] := by decide +kernel

/-- The device after the engines of one idle clock period, the boot script's poll the last of them. -/
def State.polled (s : State) : State := s.tick.nimTick.dmcDrain.twSample.fltTick.shadowStep.bootPoll

theorem idle_eq (s : State) : s.idle = s.polled.ambient.settle s := rfl

theorem fatal_polled : fatalInBootPoll.polled.bit F.FLT_STAT_FATAL = false := by decide +kernel

theorem dormant_polled : Dormant fatalInBootPoll.polled where
  lanes := by decide +kernel
  ports := by decide +kernel
  store := by decide +kernel
  lines := by decide +kernel

/-- Refutes O6: with no command waiting no premise on the command bears on the step, and the boot script's poll ends the fatal fault. -/
theorem not_stepsKeepTheMachineInOrder : ¬ Obligations.StepsKeepTheMachineInOrder := by
  unfold Obligations.StepsKeepTheMachineInOrder
  rintro ⟨-, hstays, -⟩
  have hidle : step fatalInBootPoll = .next fatalInBootPoll.idle := step_idle fatalInBootPoll_pending
  have hkept : fatalInBootPoll.idle.bit F.FLT_STAT_FATAL = true :=
    hstays _ _ fatalInBootPoll_fatal (by simp [fatalInBootPoll_pending]) hidle
  have hsame : fatalInBootPoll.idle.rd R.FLT_STAT = fatalInBootPoll.polled.rd R.FLT_STAT := by
    rw [idle_eq, rd_settle_ne _ _ (by decide), dormant_polled.rd_ambient (by decide) (by decide)]
  rw [bit_of_rd_eq F.FLT_STAT_FATAL hsame, fatal_polled] at hkept
  exact absurd hkept (by decide)

end Sys2Proof.Machine
end

section
/-!
PROOFS. The pipeline starts on a device whose TOP_READY.VG bit of region 0 stands although the pipeline is stopped (R30 has it 0): the bit follows its
region and falls, and the fall posts a FAULT record (R446), which the statement's clause of RUN does not allow. The statement speaks of every state.
-/
namespace Sys2Proof.Machine

/-- After reset, but bank A runs, region 0 shows ready, and FAULT records are routed to a queue, which is not in use. -/
def readyWhileStopped : State :=
  ((State.reset.setFld F.CFG_BANK_A_STATE 4).flag ⟨R.TOP_READY, 24, 1⟩).flag (F.SEG_ROUTE_Q_EN 4)

/-- RUN may rise at once: what the clause of a bank RUNNING supposes. -/
theorem readyWhileStopped_mayRun :
    readyWhileStopped.bit F.CFG_CTL_RUN = false ∧ readyWhileStopped.bit F.CFG_STAT_LOADING = false ∧
      readyWhileStopped.bit F.CFG_STAT_APPLYING = false ∧ readyWhileStopped.bit F.CFG_STAT_PIPE_STOPPED = true ∧
      readyWhileStopped.bit F.PWR_STAT_BUSY = false ∧ readyWhileStopped.runningBank = some false := by decide +kernel

theorem segStat_readyWhileStopped : readyWhileStopped.rd R.SEG_STAT = 0 := by decide +kernel

/-- The record of the fall is dropped. -/
theorem segStat_runOne : readyWhileStopped.runOne.rd R.SEG_STAT = 2 := by decide +kernel

/-- Refutes O12: SEG_STAT notes that the record of region 0's fall was dropped, and it lies in none of the four blocks that the clause of
`PIPELINE_RUN` with a bank RUNNING allows. -/
theorem not_pipelineStopAndRun : ¬ Obligations.PipelineStopAndRun := by
  unfold Obligations.PipelineStopAndRun
  rintro ⟨-, -, -, -, -, -, -, hruns, -⟩
  obtain ⟨hrun, hloading, happlying, hstopped, hbusy, hbank⟩ := readyWhileStopped_mayRun
  obtain ⟨v, hexec, -, -, -, -, -, hregs⟩ := hruns readyWhileStopped false hrun hloading happlying hstopped hbusy hbank
  have hkept : v.rd R.SEG_STAT = 0 := (hregs _ (by decide)).trans segStat_readyWhileStopped
  have hsame : v.rd R.SEG_STAT = readyWhileStopped.runOne.rd R.SEG_STAT := rd_of_completed hexec rfl (by decide)
  rw [hkept, segStat_runOne] at hsame
  exact absurd hsame (by decide)

end Sys2Proof.Machine
end

section
/-!
PROOFS. A swap by NOW while the spill holds a record whose route number is none of the routes: SEG_ROUTE of that number is the offset of HP0_LBL, which the
swap sets to 0 (R252), and the spilled record then goes before the JOB_SWAP record (R239). The statement speaks of every state.
-/
namespace Sys2Proof.Machine

/-- The end of a command leaves what HOSTQ hides. -/
theorem settle_hq (s old : State) : (s.settle old).hq = s.hq := by
  obtain ⟨l, o, h⟩ := settle_eq s old
  rw [h]

/-- As `rd_of_completed`, for what HOSTQ hides. -/
theorem hq_of_completed {c : Instr} {s v t : State} (hv : exec c s = .next (v.settle s)) (ht : exec c s = done s t) : v.hq = t.hq := by
  have hsettled : t.settle s = v.settle s := Host.Outcome.next.inj (ht.symm.trans hv)
  rw [← settle_hq v s, ← hsettled, settle_hq]

/-- The number whose SEG_ROUTE stands at the offset of HP0_LBL. -/
def routeAtLabel : Nat := (R.HP_LBL 0 - R.SEG_ROUTE 0) / 4

/-- Bank A is READY with a JOB; JOB_SWAP records are routed to Q32, which is in use and empty. -/
def readyBankA : State :=
  let s := (State.reset.setFld F.CFG_BANK_A_STATE 2).flag (F.SEG_ROUTE_Q_EN 3)
  let s := (s.flag (F.HQ_CFG_EN 32)).setFld (F.HQ_CFG_SIZE 32) 17
  { s with cfg := { s.cfg with jobA := some { jobId := 1 } } }

/-- The spill holds a record of the stray route, and HP0_LBL is 1, so that the record is one of Q33. -/
def strayRouteSpilled : State :=
  let s := readyBankA.putN (R.HP_LBL 0) 1
  { s with seg := { s.seg with spill := [(routeAtLabel, 0)] } }

/-- The record of a swap has credit, and nothing stands against the swap: what the clause of the JOB_SWAP record supposes. -/
theorem strayRouteSpilled_maySwap :
    (strayRouteSpilled.swapCrossing = false ∧ strayRouteSpilled.armedBank = none ∧ strayRouteSpilled.bit F.CFG_STAT_PIPE_STOPPED = true ∧
      strayRouteSpilled.bit F.CFG_STAT_LOADING = false ∧ strayRouteSpilled.bit F.CFG_STAT_APPLYING = false) ∧
    strayRouteSpilled.bankState false = 2 ∧ strayRouteSpilled.bankState true ≠ 2 ∧ strayRouteSpilled.runningBank = none ∧
      strayRouteSpilled.bit (F.SEG_ROUTE_Q_EN 3) = true ∧ strayRouteSpilled.recCredit 3 = true := by decide +kernel

/-- A write of NOW with channel 0. -/
theorem exec_swapNow (s : State) : exec (.swapNow 0) s = done s (s.swapCtl 0x400) := rfl

/-- The swap posts no record. -/
theorem posted_swapNow : (strayRouteSpilled.swapCtl 0x400).hq.posted = [] := by decide +kernel

/-- Refutes O13: with HP0_LBL at 0 the spilled record is one of Q32, so the JOB_SWAP record, which had credit before the swap, is not posted. -/
theorem not_swapIsArmedDisarmedAndTaken : ¬ Obligations.SwapIsArmedDisarmedAndTaken := by
  unfold Obligations.SwapIsArmedDisarmedAndTaken
  rintro ⟨-, -, -, -, -, -, -, -, -, hrecord⟩
  obtain ⟨⟨hcross, harmed, hstopped, hloading, happlying⟩, hready, hother, hrunning, hroute, hcredit⟩ := strayRouteSpilled_maySwap
  obtain ⟨v, hexec, hposted⟩ :=
    hrecord 0 false strayRouteSpilled hcross harmed hstopped hloading happlying hready hother hrunning hroute hcredit
  have hnone : v.hq.posted = [] := (congrArg HostqS.posted (hq_of_completed hexec (exec_swapNow _))).trans posted_swapNow
  simp [hnone] at hposted

end Sys2Proof.Machine
end

section
/-!
PROOFS. A load whose staging area overlaps the spill area: reading the staged stream finds a poisoned line, and the error's FAULT record is spilled over the
stream's header before the checks read it (R239, R325, R428).
-/
namespace Sys2Proof.Machine

/-- DDR-4 is installed; the staging area and the spill area both begin at address 0, and FAULT records are routed to a queue that is not in use. -/
def stagingInSpill : State :=
  let s := (State.reset.setFld F.DMC_INSTALLED_VALID 1).setFld F.DMC_INSTALLED_MIB 1024
  ((s.flag F.CFG_STAGE_BASE_HI_EN).flag F.SEG_SPILL_CTL_EN).flag (F.SEG_ROUTE_Q_EN 4)

/-- The LAST chunk of a load of 128 bytes has come: the magic number and zeros. The second line is poisoned, and channel 0, where it lies, has captured an
error before. -/
def stagedOverSpill : State :=
  let s := (stagingInSpill.flag F.CFG_STAT_LOADING).flag (F.DMC_CH_ERR_ADDR_HI_VALID 0)
  { s with cfg := { s.cfg with load := { active := true, bytes := 128, last := some (0, 0, 0) } },
           ddr := memSetAll [] 0 (leBytes 4 0x4D574253), poison := [1] }

theorem stagedOverSpill_validates : stagedOverSpill.cfg.load.last.isSome = true ∧ stagedOverSpill.bit F.CFG_STAT_APPLYING = false := by decide +kernel

/-- As staged, the header's CRC is bad (0x23). -/
theorem streamCheck_stagedOverSpill : stagedOverSpill.streamCheck = some { code := 0x23, sec := 0, ofs := some 28 } := by decide +kernel

theorem exec_loadValidate {s : State} (hlast : s.cfg.load.last.isSome = true) (happlying : s.bit F.CFG_STAT_APPLYING = false) :
    exec .loadValidate s = done s s.validate := by
  change execLoadValidate s = _
  simp [execLoadValidate, hlast, happlying]

/-- As read, its magic number is (0x20). -/
theorem lastErr_validate : stagedOverSpill.validate.fld F.CFG_STAT_LAST_ERR = 0x20 := by decide +kernel

/-- Refutes O14: `LOAD_VALIDATE` reads the stream before it checks it, and what the read posts may change the stream; LAST_ERR then shows another code than
the checks of the stream as staged give. -/
theorem not_loadsAreCountedRejectedAndApplied : ¬ Obligations.LoadsAreCountedRejectedAndApplied := by
  unfold Obligations.LoadsAreCountedRejectedAndApplied
  rintro ⟨-, -, -, -, -, hrejects, -⟩
  obtain ⟨hlast, happlying⟩ := stagedOverSpill_validates
  obtain ⟨v, hexec, herr, -⟩ := hrejects stagedOverSpill hlast happlying _ streamCheck_stagedOverSpill
  have hsame : v.rd R.CFG_STAT = stagedOverSpill.validate.rd R.CFG_STAT := rd_of_completed hexec (exec_loadValidate hlast happlying) (by decide)
  rw [fld_of_rd_eq F.CFG_STAT_LAST_ERR hsame, lastErr_validate] at herr
  exact absurd herr (by decide)

end Sys2Proof.Machine
end

section
/-!
PROOFS. A cold reset of a device with a time to be set in RTC_SET_LO: the register is one of the calendar clock's, and yet takes its reset value 0 (R303; only
RTC_SEC, RTC_CTL and RTC_STAT are retained).
-/
set_option Elab.async false

namespace Sys2Proof.Machine

/-- After reset, but a time to set the calendar to has been written. -/
def calendarSetWaits : State := State.reset.putN R.RTC_SET_LO 1

theorem rtcSetLo_calendarSetWaits : calendarSetWaits.rd R.RTC_SET_LO = 1 := by decide +kernel

/-- A cold reset clears it. -/
theorem rtcSetLo_coldReset : ∃ t, exec (.coldReset false false 0) calendarSetWaits = done calendarSetWaits t ∧ t.rd R.RTC_SET_LO = 0 :=
  ⟨_, rfl, by decide +kernel⟩

/-- Refutes O59: the first clause has every register of the calendar clock read after a cold reset as before, RTC_SET_LO among them. -/
theorem not_resetsKeepWhatTheyMust : ¬ Obligations.ResetsKeepWhatTheyMust := by
  unfold Obligations.ResetsKeepWhatTheyMust
  rintro ⟨hcold, -⟩
  obtain ⟨v, hexec, hrd, -⟩ := hcold false false 0 R.RTC_SET_LO calendarSetWaits
  obtain ⟨t, ht, hclear⟩ := rtcSetLo_coldReset
  have hkept : v.rd R.RTC_SET_LO = 1 := (hrd.trans (if_pos (by decide))).trans rtcSetLo_calendarSetWaits
  have hsame : v.rd R.RTC_SET_LO = t.rd R.RTC_SET_LO := rd_of_completed hexec ht (by decide)
  rw [hkept, hclear] at hsame
  exact absurd hsame (by decide)

end Sys2Proof.Machine
end

section
/-!
PROOFS. A rising edge of Z raises ENCn_INDEX, and what it activates may change the channel's own registers: it triggers a camera whose tag store is full, so
the oldest tag receives a substitute line (R141, R144), which brings a table set into use (R157); the set holds a word that is none of the camera's but stands
at the offset of ENC0_STAT. The direction is read after the activations, so the edge counts as one of a forward run. The statements speak of every state.
-/
set_option Elab.async false

namespace Sys2Proof.Machine

/-- A tag that no line has taken. -/
def waitingTag : Tag := { seq := 0, encPos := 0, frac := 0, ts := 0, bank := false, cu := none }

/-- Camera 0 has 64 tags and a flip to come, to a set that holds ENC0_STAT = 0. -/
def straySetToCome : IngS := { IngS.init with tags := List.replicate 64 waitingTag, act := [(R.ENC_STAT 0, 0)] }

/-- Channel 0 runs backward and watches its index; ENC0_INDEX (source 44) triggers camera 0. -/
def indexTriggersCamera : State :=
  let s := (State.reset.flag (F.ENC_CTL_EN 0)).flag (F.ENC_CTL_IDX_EN 0)
  let s := (s.flag (F.ENC_STAT_DIR 0)).putN (R.EVT_SRC1 0) (2 ^ 12)
  let s := (s.flag (F.ING_CTL_EN 0)).flag (F.ING_STAT_FLIP_PEND 0)
  { s with cfg := { s.cfg with trigDis := false }, ing := s.ing.set 0 straySetToCome }

/-- The same, with a rise of Z sampled in Z's dead time. -/
def riseWaits : State :=
  { indexTriggersCamera with enc := indexTriggersCamera.enc.set 0 { EncS.init with sz := true, deadZ := true } }

theorem indexTriggersCamera_watches :
    indexTriggersCamera.bit (F.ENC_CTL_EN 0) = true ∧ indexTriggersCamera.bit (F.ENC_CTL_IDX_EN 0) = true ∧
      indexTriggersCamera.bit (F.ENC_STAT_DIR 0) = true ∧ (indexTriggersCamera.encSt 0).deadZ = false ∧
      (indexTriggersCamera.encSt 0).z = false := by decide +kernel

theorem riseWaits_watches :
    (riseWaits.encSt 0).deadZ = true ∧ (riseWaits.encSt 0).sz = true ∧ (riseWaits.encSt 0).z = false ∧
      riseWaits.bit (F.ENC_CTL_EN 0) = true ∧ riseWaits.bit (F.ENC_CTL_IDX_EN 0) = true ∧ riseWaits.bit (F.ENC_STAT_DIR 0) = true := by
  decide +kernel

/-- The activations clear ENC0_STAT, and with it the direction. -/
theorem encStat_raise_index : ((indexTriggersCamera.zRisen 0).raise [44]).rd (R.ENC_STAT 0) = 0 := by decide +kernel

theorem encStat_raise_index_riseWaits : ((riseWaits.zRisen 0).raise [44]).rd (R.ENC_STAT 0) = 0 := by decide +kernel

/-- The edge is then taken as a reference (IDX_REF). -/
theorem encStat_indexEdge : ∃ t, exec (.indexEdge 0 true) indexTriggersCamera = done indexTriggersCamera t ∧ t.rd (R.ENC_STAT 0) = 0x20 :=
  ⟨_, rfl, by decide +kernel⟩

theorem encStat_deadTimeEnd : ∃ t, exec (.deadTimeEnd 0 2) riseWaits = done riseWaits t ∧ t.rd (R.ENC_STAT 0) = 0x20 := by
  refine ⟨(riseWaits.modEnc 0 (fun g => { g with deadZ := false })).zAccept 0 true, ?_, by decide +kernel⟩
  change execDeadTimeEnd 0 2 riseWaits = _
  simp [execDeadTimeEnd, riseWaits_watches]

/-- Refutes O15: the clause of a rise of Z on a channel that runs backward ends with what ENC0_INDEX activates, but the edge is taken as a reference. -/
theorem not_encoderStepMovesPosition : ¬ Obligations.EncoderStepMovesPosition := by
  unfold Obligations.EncoderStepMovesPosition
  rintro ⟨-, -, -, -, -, -, -, -, hrise⟩
  obtain ⟨hdead, hsz, hz, hen, hidx, hdir⟩ := riseWaits_watches
  obtain ⟨v, hexec, hv⟩ := hrise 0 riseWaits hdead hsz hz hen hidx hdir
  obtain ⟨t, ht, href⟩ := encStat_deadTimeEnd
  have hsame : v.rd (R.ENC_STAT 0) = t.rd (R.ENC_STAT 0) := rd_of_completed hexec ht (by decide)
  rw [hv, href] at hsame
  exact absurd (encStat_raise_index_riseWaits.symm.trans hsame) (by decide)

/-- Refutes O17: the clause of a backward edge ends with what ENC0_INDEX activates, but the edge is taken as a reference. -/
theorem not_standstillAndIndexReference : ¬ Obligations.StandstillAndIndexReference := by
  unfold Obligations.StandstillAndIndexReference
  rintro ⟨-, -, hedge, -⟩
  obtain ⟨hen, hidx, hdir, hdead, hz⟩ := indexTriggersCamera_watches
  obtain ⟨v, hexec, hv⟩ := hedge 0 indexTriggersCamera hen hidx hdir hdead hz
  obtain ⟨t, ht, href⟩ := encStat_indexEdge
  have hsame : v.rd (R.ENC_STAT 0) = t.rd (R.ENC_STAT 0) := rd_of_completed hexec ht (by decide)
  rw [hv, href] at hsame
  exact absurd (encStat_raise_index.symm.trans hsame) (by decide)

end Sys2Proof.Machine
end

section
/-!
SUPPORT. Facts the statements of web position share: what registers and counters read, frames of what a block hides, folds over the ports, and the levels of an
encoder channel.
-/
set_option Elab.async false

namespace Sys2Proof.Machine

/-! ### Registers and counters -/

theorem rdN_lt (s : State) (off : Nat) : s.rdN off < 2 ^ 32 := (s.rd off).isLt

theorem rdN_of_rd_eq {s t : State} {off : Nat} (h : t.rd off = s.rd off) : t.rdN off = s.rdN off := by rw [State.rdN, h, State.rdN]

/-- A register reads what it was set to, modulo 2^32. -/
theorem rdN_put_self (s : State) (off v : Nat) : (s.put off (BitVec.ofNat 32 v)).rdN off = v % 2 ^ 32 := by
  rw [State.rdN, rd_put_self, BitVec.toNat_ofNat]

theorem satInc_eq_min {w x : Nat} (h : x < 2 ^ w) : satInc w x = min (x + 1) (2 ^ w - 1) := by
  unfold satInc
  split <;> omega

/-- A counter without a SAT bit counts up to its largest value (R9). -/
theorem fld_incSat_self (s : State) (f : Fld) (h : f.lo + f.w ≤ 32) : (s.incSat f).fld f = min (s.fld f + 1) (2 ^ f.w - 1) := by
  have hlt := fld_lt s f
  rw [incSat_eq, fld_setFld_self s f _ h, satInc_eq_min hlt, Nat.mod_eq_of_lt (by omega)]

/-- The SAT bit of a counter is set as the counter reaches its largest value (R9). -/
theorem bit_incCnt_sat (s : State) (f g : Fld) (hf : f.lo + f.w ≤ 32) (hg : g.lo + g.w ≤ 32) (hw : g.w = 1) (hd : f.Apart g) :
    (s.incCnt f g).bit g = (s.bit g || decide (2 ^ f.w ≤ s.fld f + 2)) := by
  have hlt := fld_lt s f
  unfold State.incCnt
  dsimp only
  rw [satInc_eq_min hlt]
  split
  · rw [flag_eq, bit_setFld_self _ g 1 hg hw, decide_eq_true (by omega : 2 ^ f.w ≤ s.fld f + 2), Bool.or_true]
    rfl
  · rw [bit_setFld_apart s _ hf hd, decide_eq_false (by omega : ¬ 2 ^ f.w ≤ s.fld f + 2), Bool.or_false]

/-! ### Frames -/

theorem getLsbD_fieldBits (fs : List Fld) (off i : Nat) :
    (fieldBits fs off).getLsbD i = fs.any (fun f => f.off == off && f.mask.getLsbD i) := by
  induction fs with
  | nil => simp [fieldBits]
  | cons f fs ih =>
    rw [fieldBits, BitVec.getLsbD_or, ih, List.any_cons]
    by_cases h : f.off = off <;> simp [h]

/-- A frame may list more fields, in another order. -/
theorem Frame.mono {s v : State} {fs gs : List Fld} (h : Frame s v fs) (hsub : ∀ f ∈ fs, f ∈ gs) : Frame s v gs := by
  have hcover : ∀ off, ~~~fieldBits gs off = ~~~fieldBits fs off &&& ~~~fieldBits gs off := fun off => by
    apply BitVec.eq_of_getLsbD_eq
    intro i hi
    have hmore : (fieldBits fs off).getLsbD i = true → (fieldBits gs off).getLsbD i = true := by
      simp only [getLsbD_fieldBits, List.any_eq_true]
      exact fun ⟨f, hf, hb⟩ => ⟨f, hsub f hf, hb⟩
    rw [BitVec.getLsbD_and, BitVec.getLsbD_not, BitVec.getLsbD_not]
    cases hf : (fieldBits fs off).getLsbD i with
    | true => simp [hmore hf]
    | false => simp [hi]
  refine ⟨fun off => ?_, h.mem, h.rest⟩
  rw [hcover off, ← BitVec.and_assoc, h.regs off, BitVec.and_assoc]

/-- What the print ports hide moves at both ends of a frame. -/
theorem Frame.withPrt {s v : State} {fs : List Fld} (h : Frame s v fs) (x : Vector PrtS 8) : Frame { s with prt := x } { v with prt := x } fs :=
  h.of_eq rfl rfl rfl rfl rfl rfl (congrArg (fun y : State => { y with prt := x }) h.rest)

/-- What the compare units hide moves at both ends of a frame. -/
theorem Frame.withCu {s v : State} {fs : List Fld} (h : Frame s v fs) (x : Vector CuS 32) : Frame { s with cu := x } { v with cu := x } fs :=
  h.of_eq rfl rfl rfl rfl rfl rfl (congrArg (fun y : State => { y with cu := x }) h.rest)

/-! ### Every print port -/

theorem prtS_modPrt (s : State) (m : Nat) (f : PrtS → PrtS) (q : Fin 8) :
    (s.modPrt m f).prtS q = if q.val = m then f (s.prtS q) else s.prtS q := by
  by_cases hm : m < 8
  · simp only [State.modPrt, State.prtS, vput, dif_pos hm, vget_fin]
    by_cases hq : q.val = m
    · subst hq
      simp [vget]
    · simp [hq, Vector.getElem_set_ne, Ne.symm hq]
  · have hq : q.val ≠ m := by omega
    simp [State.modPrt, State.prtS, vput, hm, hq]

/-- A change of the ports of a list, one after another, changes nothing but what the ports hide. -/
theorem foldl_modPrt_eq (f : PrtS → PrtS) (l : List Nat) (s : State) : ∃ x, l.foldl (fun s p => s.modPrt p f) s = { s with prt := x } := by
  induction l generalizing s with
  | nil => exact ⟨s.prt, rfl⟩
  | cons p l ih =>
    obtain ⟨x, h⟩ := ih (s.modPrt p f)
    exact ⟨x, h⟩

theorem prtS_foldl_modPrt (f : PrtS → PrtS) {l : List Nat} (hl : l.Nodup) (s : State) (q : Fin 8) :
    (l.foldl (fun s p => s.modPrt p f) s).prtS q = if q.val ∈ l then f (s.prtS q) else s.prtS q := by
  induction l generalizing s with
  | nil => simp
  | cons p l ih =>
    obtain ⟨hp, hl⟩ := List.nodup_cons.mp hl
    rw [List.foldl_cons, ih hl, prtS_modPrt]
    by_cases hq : q.val = p
    · simp [hq, hp]
    · simp [hq]

/-! ### The levels of an encoder channel -/

theorem encSt_fin (s : State) (n : Fin 4) : s.encSt n = s.enc[n] := vget_fin _ _ _

theorem modEnc_fin (s : State) (n : Fin 4) (f : EncS → EncS) : s.modEnc n f = { s with enc := s.enc.set n (f s.enc[n]) } := by
  simp [State.modEnc, State.encSt]

theorem encSt_modEnc (s : State) (n : Fin 4) (f : EncS → EncS) : (s.modEnc n f).encSt n = f (s.encSt n) := by
  simp [modEnc_fin, encSt_fin]

theorem modEnc_modEnc (s : State) (n : Fin 4) (f g : EncS → EncS) : (s.modEnc n f).modEnc n g = s.modEnc n (fun e => g (f e)) := by
  simp [modEnc_fin]

/-- A state that differs by what channel `n` hides is the one that holds the channel's new state. -/
theorem with_encSt_modEnc (s : State) (n : Fin 4) (f : EncS → EncS) :
    { s with enc := vput s.enc n ((s.modEnc n f).encSt n) } = s.modEnc n f := by
  rw [encSt_modEnc]
  rfl

end Sys2Proof.Machine
end

section
/-!
PROOFS. Quadrature errors (R69).
-/
set_option Elab.async false

namespace Sys2Proof.Machine

/-- Both lines are accepted: the levels change, and the dead times start (R68). -/
def EncS.bothAccepted (dead : Bool) (g : EncS) : EncS := { g with a := !g.a, b := !g.b, deadA := dead, deadB := dead }

/-- What QUADRATURE_ERROR makes of the levels of channel `n`. -/
def State.bothChanged (s : State) (n : Fin 4) : State :=
  s.modEnc n (fun g => EncS.bothAccepted (s.fld (F.ENC_CTL_DEAD n) != 0) { g with sa := !g.a, sb := !g.b })

/-- The error is counted and flagged (R69). -/
def State.quadErr (s : State) (n : Fin 4) : State := (s.incCnt (F.ENC_QERR_CNT_CNT n) (F.ENC_QERR_CNT_SAT n)).flag (F.ENC_STAT_QERR n)

theorem encAccept_both (s : State) (n : Fin 4) : s.encAccept n true true =
    if s.bit (F.ENC_CTL_EN n) then ((s.modEnc n (EncS.bothAccepted (s.fld (F.ENC_CTL_DEAD n) != 0))).quadErr n).raise [32 + n.val]
    else s.modEnc n (EncS.bothAccepted (s.fld (F.ENC_CTL_DEAD n) != 0)) := by
  unfold State.encAccept
  extract_lets dead t g fwd
  have hlevels : t = s.modEnc n (EncS.bothAccepted dead) := by
    simp only [t, Bool.bne_true, if_true]
    rfl
  rw [hlevels, modEnc_bit]
  cases hen : s.bit (F.ENC_CTL_EN n) with
  | false => rfl
  | true => rfl

theorem exec_quadratureError (n : Fin 4) (s : State) : exec (.quadratureError n) s =
    done s (if s.bit (F.ENC_CTL_EN n) then ((s.bothChanged n).quadErr n).raise [32 + n.val] else s.bothChanged n) := by
  change done s ((s.modEnc n _).encAccept n true true) = _
  rw [encAccept_both, modEnc_bit, modEnc_fld, modEnc_modEnc]
  rfl

/-- The bits that tell of quadrature errors. -/
def qerrBits (n : Fin 4) : List Fld := [F.ENC_QERR_CNT_CNT n, F.ENC_QERR_CNT_SAT n, F.ENC_STAT_QERR n]

theorem encPos_outside_qerrBits (n : Fin 4) : fieldBits (qerrBits n) (R.ENC_POS n) = 0 := by
  apply fieldBits_eq_zero
  simp only [qerrBits, List.forall_mem_cons, F.ENC_QERR_CNT_CNT, F.ENC_QERR_CNT_SAT, F.ENC_STAT_QERR, R.ENC_QERR_CNT, R.ENC_STAT, R.ENC_POS]
  refine ⟨?_, ?_, ?_, by simp⟩ <;> omega

theorem quadErr_frame (s : State) (n : Fin 4) : Frame s (s.quadErr n) (qerrBits n) :=
  ((Frame.refl s _).incCnt (by simp [qerrBits]) (by decide : 0 + 16 ≤ 32) (by simp [qerrBits]) (by decide : 31 + 1 ≤ 32)).flag (by simp [qerrBits])
    (by decide : 0 + 1 ≤ 32)

theorem encQerrCnt_ne_stat (n : Nat) : R.ENC_QERR_CNT n ≠ R.ENC_STAT n := by simp only [R.ENC_QERR_CNT, R.ENC_STAT]; omega

/-- The count stops at its largest value, where SAT is set; QERR is set (R9, R69). -/
theorem quadErr_counts (s : State) (n : Fin 4) :
    (s.quadErr n).fld (F.ENC_QERR_CNT_CNT n) = min (s.fld (F.ENC_QERR_CNT_CNT n) + 1) (2 ^ (F.ENC_QERR_CNT_CNT n).w - 1) ∧
      (s.quadErr n).bit (F.ENC_QERR_CNT_SAT n) =
        (s.bit (F.ENC_QERR_CNT_SAT n) || decide (2 ^ (F.ENC_QERR_CNT_CNT n).w ≤ s.fld (F.ENC_QERR_CNT_CNT n) + 2)) ∧
      (s.quadErr n).bit (F.ENC_STAT_QERR n) = true := by
  have hcnt : (F.ENC_QERR_CNT_CNT n).lo + (F.ENC_QERR_CNT_CNT n).w ≤ 32 := (by decide : 0 + 16 ≤ 32)
  have hsat : (F.ENC_QERR_CNT_SAT n).lo + (F.ENC_QERR_CNT_SAT n).w ≤ 32 := (by decide : 31 + 1 ≤ 32)
  have hflag : (F.ENC_STAT_QERR n).lo + (F.ENC_STAT_QERR n).w ≤ 32 := (by decide : 0 + 1 ≤ 32)
  have hbelow : (F.ENC_QERR_CNT_CNT n).lo + (F.ENC_QERR_CNT_CNT n).w ≤ (F.ENC_QERR_CNT_SAT n).lo := (by decide : 0 + 16 ≤ 31)
  have hapart : ∀ {f : Fld}, f.off = R.ENC_QERR_CNT n → (F.ENC_STAT_QERR n).Apart f := fun h => .inl (h ▸ (encQerrCnt_ne_stat n).symm)
  refine ⟨?_, ?_, bit_setFld_self _ _ 1 hflag rfl⟩
  · exact (fld_setFld_apart _ 1 hflag (hapart rfl)).trans (fld_incCnt_self s _ _ hcnt hsat (.inr (.inl hbelow)))
  · exact (bit_setFld_apart _ 1 hflag (hapart rfl)).trans (bit_incCnt_sat s _ _ hcnt hsat rfl (.inr (.inr hbelow)))

/-- Settles O16: both levels change, and on an enabled channel the error is counted and flagged before its source is raised. -/
theorem quadratureErrorCounts : Obligations.QuadratureErrorCounts := by
  unfold Obligations.QuadratureErrorCounts
  refine ⟨fun n s hen => ?_, fun n s hen => ?_⟩
  · refine completes_of_done (by rw [exec_quadratureError, if_pos hen]) ⟨_, rfl, ?_⟩
    have hframe : Frame (s.bothChanged n) ((s.bothChanged n).quadErr n) (qerrBits n) := quadErr_frame _ n
    obtain ⟨hcnt, hsat, hflag⟩ := quadErr_counts (s.bothChanged n) n
    have henc : ((s.bothChanged n).quadErr n).encSt n = (s.bothChanged n).encSt n := by simp [State.quadErr, State.encSt]
    have hlevels : (s.bothChanged n).encSt n = _ := encSt_modEnc s n _
    refine ⟨?_, hcnt, hsat, hflag, ?_, ?_, ?_⟩
    · exact rdN_of_rd_eq (hframe.rd (encPos_outside_qerrBits n))
    · rw [henc, hlevels]
      rfl
    · rw [henc, hlevels]
      rfl
    · rw [henc, State.bothChanged, with_encSt_modEnc]
      exact hframe
  · refine completes_of_done (by rw [exec_quadratureError, if_neg (by simp [hen])]) ?_
    rw [State.bothChanged, with_encSt_modEnc]
    exact Frame.refl _ _

end Sys2Proof.Machine
end

section
/-!
PROOFS. Absolute inputs (R85, R86, R98).
-/
set_option Elab.async false

namespace Sys2Proof.Machine

/-- Whether a cycle of input `n` is under way. -/
def State.withBusy (s : State) (n : Fin 2) (b : Bool) : State := { s with absIn := s.absIn.set n { busy := b } }

theorem absEnd_eq (s : State) (n : Fin 2) : s.absEnd n = s.withBusy n false := by
  simp [State.absEnd, State.withBusy]

/-! ### What the commands of a cycle hand over -/

section Meaning
variable {n : Fin 2} {s : State}

theorem exec_absTimerStart_free (ht : s.fld (F.ABS_CTL_TIMER n) ≠ 0) (hp : s.fld (F.ABS_CTL_PROTO n) ≠ 0) (hb : s.absIn[n].busy = false) :
    exec (.absTimerStart n) s = done s ((s.withBusy n true).putN (R.ABS_TS n) s.tsNs) := by
  change execAbsTimerStart n s = _
  simp only [execAbsTimerStart, vget_fin, hb, ht, hp, or_self, if_false, State.absStart, vput_fin]
  rfl

theorem exec_absTimerStart_busy (ht : s.fld (F.ABS_CTL_TIMER n) ≠ 0) (hp : s.fld (F.ABS_CTL_PROTO n) ≠ 0) (hb : s.absIn[n].busy = true) :
    exec (.absTimerStart n) s = done s ((s.flag (F.EVT_CFG_OVR (48 + n))).incWrap (F.EVT_LOSS_OVR_CNT (48 + n))) := by
  change execAbsTimerStart n s = _
  simp only [execAbsTimerStart, vget_fin, hb, ht, hp, or_self, if_false, if_true]

theorem exec_absCycleDone_busy (raw : Word) (e w : Bool) (crc : BitVec 6) (hb : s.absIn[n].busy = true) :
    exec (.absCycleDone n raw e w crc) s = done s (s.absCycle n raw.toNat e w crc.toNat) := by
  change execAbsCycleDone n raw e w crc s = _
  simp only [execAbsCycleDone, vget_fin, hb, if_true]

theorem exec_absStartTimeout_busy (hb : s.absIn[n].busy = true) :
    exec (.absStartTimeout n) s = done s (((s.absEnd n).flag (F.ABS_STAT_TIMEOUT n)).absFail n) := by
  change execAbsStartTimeout n s = _
  simp only [execAbsStartTimeout, vget_fin, hb, if_true]

theorem exec_absCycleDone_free (raw : Word) (e w : Bool) (crc : BitVec 6) (hb : s.absIn[n].busy = false) :
    exec (.absCycleDone n raw e w crc) s = done s s := by
  change execAbsCycleDone n raw e w crc s = _
  simp only [execAbsCycleDone, vget_fin, hb, Bool.false_eq_true, if_false]

theorem exec_absStartTimeout_free (hb : s.absIn[n].busy = false) : exec (.absStartTimeout n) s = done s s := by
  change execAbsStartTimeout n s = _
  simp only [execAbsStartTimeout, vget_fin, hb, Bool.false_eq_true, if_false]

end Meaning

/-! ### A cycle that ends -/

/-- The position of a cycle that ends well: Gray code is converted for PROTO 2 (R86). -/
def State.absPosition (s : State) (n : Fin 2) (raw : Nat) : Nat :=
  if s.fld (F.ABS_CTL_PROTO n) = 2 then grayToBin (s.fld (F.ABS_CTL_BITS n)) (raw % 2 ^ s.fld (F.ABS_CTL_BITS n))
  else raw % 2 ^ s.fld (F.ABS_CTL_BITS n)

/-- The ports note that input `n` has been read (R263). -/
def State.absNoted (s : State) (n : Fin 2) : State :=
  (List.range 8).foldl (fun s p => s.modPrt p (fun g => { g with absSeen := vput g.absSeen n true })) s

theorem absCycle_plain {s : State} {n : Fin 2} (raw : Nat) (e w : Bool) (crc : Nat) (hp : s.fld (F.ABS_CTL_PROTO n) ≠ 3) :
    s.absCycle n raw e w crc = (((s.withBusy n false).putN (R.ABS_POS n) (s.absPosition n raw)).absNoted n).raise [64 + n.val] := by
  have hfld : ∀ f, (s.withBusy n false).fld f = s.fld f := fun _ => rfl
  simp only [State.absCycle, absEnd_eq, hfld, if_neg hp]
  rfl

/-- A BiSS-C cycle whose CRC does not match fails. -/
theorem absCycle_badCrc {s : State} {n : Fin 2} {raw : Nat} {e w : Bool} {crc : Nat} (hp : s.fld (F.ABS_CTL_PROTO n) = 3)
    (hc : crc ≠ bissCrc (s.fld (F.ABS_CTL_BITS n)) (raw % 2 ^ s.fld (F.ABS_CTL_BITS n)) e w) :
    s.absCycle n raw e w crc = ((s.withBusy n false).flag (F.ABS_STAT_CRC_ERR n)).absFail n := by
  have hfld : ∀ f, (s.withBusy n false).fld f = s.fld f := fun _ => rfl
  simp only [State.absCycle, absEnd_eq, hfld, if_pos hp, bne_iff_ne.mpr hc, if_true]

/-- A flag of ABSn_STAT below FAIL_CNT. -/
structure AbsFlag (n : Fin 2) (f : Fld) : Prop where
  off : f.off = R.ABS_STAT n
  bit : f.w = 1
  low : f.lo < 16

/-- A cycle that fails sets its flag and is counted, and then raises ABSn_FAIL (R86). -/
theorem absFail_after (s : State) {n : Fin 2} {f : Fld} (h : AbsFlag n f) :
    After (fun u => u.raise [66 + n.val]) (fun u =>
      u.bit f = true ∧ u.fld (F.ABS_STAT_FAIL_CNT n) = min (s.fld (F.ABS_STAT_FAIL_CNT n) + 1) 65535 ∧
      Frame (s.withBusy n false) u [f, F.ABS_STAT_FAIL_CNT n]) (((s.withBusy n false).flag f).absFail n) := by
  obtain ⟨-, hw, hlow⟩ := h
  have hfit : f.lo + f.w ≤ 32 := by omega
  have hcnt : (F.ABS_STAT_FAIL_CNT n).lo + (F.ABS_STAT_FAIL_CNT n).w ≤ 32 := (by decide : 16 + 16 ≤ 32)
  have hbelow : f.lo + f.w ≤ (F.ABS_STAT_FAIL_CNT n).lo := (by omega : f.lo + f.w ≤ 16)
  refine ⟨_, rfl, ?_, ?_, ((Frame.refl _ _).flag (by simp) hfit).incSat (by simp) hcnt⟩
  · rw [incSat_eq, bit_setFld_apart _ _ hcnt (.inr (.inl hbelow))]
    exact bit_setFld_self _ f 1 hfit hw
  · rw [fld_incSat_self _ _ hcnt, flag_eq, fld_setFld_apart _ 1 hfit (.inr (.inr hbelow))]
    rfl

/-- The position is written, the ports note it, and then ABSn_DONE is raised (R86, R263). -/
theorem absNoted_spec (s : State) (n : Fin 2) (raw : Nat) :
    let u := ((s.withBusy n false).putN (R.ABS_POS n) (s.absPosition n raw)).absNoted n
    u.rdN (R.ABS_POS n) = s.absPosition n raw % 2 ^ 32 ∧ (∀ p : Fin 8, (u.prtS p).absSeen = (s.prtS p).absSeen.set n true) ∧
      Frame { s.withBusy n false with prt := u.prt } u [whole (R.ABS_POS n)] := by
  intro u
  obtain ⟨x, hx⟩ := foldl_modPrt_eq (fun g => { g with absSeen := vput g.absSeen n true }) (List.range 8)
    ((s.withBusy n false).putN (R.ABS_POS n) (s.absPosition n raw))
  have hu : u = { (s.withBusy n false).putN (R.ABS_POS n) (s.absPosition n raw) with prt := x } := hx
  refine ⟨?_, fun p => ?_, ?_⟩
  · rw [hu]
    exact rdN_put_self (s.withBusy n false) _ _
  · have hp : u.prtS p = _ := prtS_foldl_modPrt _ List.nodup_range _ p
    rw [hp, if_pos (List.mem_range.mpr p.isLt), vput_fin]
    rfl
  · rw [hu]
    exact ((Frame.refl (s.withBusy n false) _).putN _ (by simp)).withPrt x

/-- Settles O19, command by command. -/
theorem absoluteInputCycles : Obligations.AbsoluteInputCycles := by
  unfold Obligations.AbsoluteInputCycles
  refine ⟨fun n s ht hp hb => ?_, fun n s ht hp hb => ?_, fun n raw e w crc s hb hp => ?_, fun n raw e w crc s hb hp hc => ?_,
    fun n s hb => ?_, fun n raw e w crc s hb => ?_⟩
  · refine completes_of_done (exec_absTimerStart_free ht hp hb) ⟨?_, (Frame.refl (s.withBusy n true) _).putN _ (by simp)⟩
    exact (rdN_put_self (s.withBusy n true) _ _).trans (Nat.mod_eq_of_lt (Nat.mod_lt _ (by decide)))
  · have hovr : (F.EVT_CFG_OVR (48 + n)).lo + (F.EVT_CFG_OVR (48 + n)).w ≤ 32 := (by decide : 18 + 1 ≤ 32)
    have hcnt : (F.EVT_LOSS_OVR_CNT (48 + n)).lo + (F.EVT_LOSS_OVR_CNT (48 + n)).w ≤ 32 := (by decide : 16 + 16 ≤ 32)
    have hne : (F.EVT_CFG_OVR (48 + n)).off ≠ (F.EVT_LOSS_OVR_CNT (48 + n)).off := by
      simp only [F.EVT_CFG_OVR, F.EVT_LOSS_OVR_CNT, R.EVT_CFG, R.EVT_LOSS]
      omega
    refine completes_of_done (exec_absTimerStart_busy ht hp hb) ⟨?_, ?_, ((Frame.refl s _).flag (by simp) hovr).incWrap (by simp) hcnt⟩
    · rw [incWrap_eq, bit_setFld_apart _ _ hcnt (.inl hne.symm)]
      exact bit_setFld_self s _ 1 hovr rfl
    · rw [incWrap_eq, fld_setFld_self _ _ _ hcnt, flag_eq, fld_setFld_apart s 1 hovr (.inl hne)]
  · exact completes_of_done ((exec_absCycleDone_busy raw e w crc hb).trans (by rw [absCycle_plain _ _ _ _ hp])) ⟨_, rfl, absNoted_spec s n raw.toNat⟩
  · exact completes_of_done ((exec_absCycleDone_busy raw e w crc hb).trans (by rw [absCycle_badCrc hp hc]))
      (absFail_after s ⟨rfl, rfl, (by decide : 0 < 16)⟩)
  · exact completes_of_done ((exec_absStartTimeout_busy hb).trans (by rw [absEnd_eq])) (absFail_after s ⟨rfl, rfl, (by decide : 1 < 16)⟩)
  · exact ⟨completes_of_done (exec_absCycleDone_free raw e w crc hb) rfl, completes_of_done (exec_absStartTimeout_free hb) rfl⟩

end Sys2Proof.Machine
end

section
/-!
SUPPORT. The event matrix where one consumer alone selects what is raised (R94, R97): the others stay as they are, and no relay is activated.
-/
set_option Elab.async false

namespace Sys2Proof.Machine

/-- A fold whose steps all leave the start as it is. -/
theorem foldl_unmoved {α β : Type} {f : β → α → β} {b : β} {l : List α} (h : ∀ x ∈ l, f b x = b) : l.foldl f b = b := by
  induction l with
  | nil => rfl
  | cons x l ih => rw [List.foldl_cons, h x (by simp), ih (fun y hy => h y (by simp [hy]))]

/-- A fold of which one element alone moves anything, and moves it once. -/
theorem foldl_moved_once {α β : Type} {f : β → α → β} {b : β} {l : List α} {a : α} (hl : l.Nodup) (ha : a ∈ l)
    (before : ∀ x ∈ l, x ≠ a → f b x = b) (after : ∀ x ∈ l, x ≠ a → f (f b a) x = f b a) : l.foldl f b = f b a := by
  obtain ⟨l1, l2, rfl⟩ := List.append_of_mem ha
  have hne : (∀ x ∈ l1, x ≠ a) ∧ ∀ x ∈ l2, x ≠ a := by
    have hnd := List.nodup_middle.mp hl
    have hnot : a ∉ l1 ++ l2 := (List.nodup_cons.mp hnd).1
    exact ⟨fun x hx he => hnot (by simp [← he, hx]), fun x hx he => hnot (by simp [← he, hx])⟩
  have hhead : l1.foldl f b = b := foldl_unmoved (fun x hx => before x (by simp [hx]) (hne.1 x hx))
  have htail : l2.foldl f (f b a) = f b a := foldl_unmoved (fun x hx => after x (by simp [hx]) (hne.2 x hx))
  rw [List.foldl_append, List.foldl_cons, hhead, htail]

/-- A consumer that selects none of the sources stays as it is. -/
theorem evtConsumer_unselected {s : State} {srcs : List Nat} {c : Nat} (h : s.evtHits srcs c = []) (bankB trigDis first : Bool) :
    s.evtConsumer srcs bankB trigDis first c = (false, s) := by
  simp [State.evtConsumer, h]

/-- What a consumer selects follows from its three words of enables. -/
theorem evtHits_of_rd_eq {s t : State} {srcs : List Nat} {c : Nat} (hs : ∀ k ∈ srcs, k < 96)
    (h : ∀ i < 3, t.rd (R.EVT_SRC0 c + 4 * i) = s.rd (R.EVT_SRC0 c + 4 * i)) : t.evtHits srcs c = s.evtHits srcs c := by
  apply List.filter_congr
  intro k hk
  rw [rdN_of_rd_eq (h (k / 32) (by have := hs k hk; omega))]

/-- A consumer outside the relays that alone selects the sources: the pass is its activation. -/
theorem evtPass_one {s : State} {srcs : List Nat} {bankB first : Bool} {c : Nat} (hc : c < 62)
    (hother : ∀ x < 64, x ≠ c → s.evtHits srcs x = [])
    (hkeep : ∀ x < 64, x ≠ c → (s.evtConsumer srcs bankB s.cfg.trigDis first c).2.evtHits srcs x = s.evtHits srcs x)
    (hrelay : (s.evtConsumer srcs bankB s.cfg.trigDis first c).1 = false) :
    s.evtPass srcs bankB first = ([], (s.evtConsumer srcs bankB s.cfg.trigDis first c).2) := by
  unfold State.evtPass
  dsimp only
  rw [foldl_moved_once List.nodup_range (List.mem_range.mpr (by omega : c < 64))]
  · simp [hrelay]
  · intro x hx hne
    simp [evtConsumer_unselected (hother x (List.mem_range.mp hx) hne)]
  · intro x hx hne
    have hnone := (hkeep x (List.mem_range.mp hx) hne).trans (hother x (List.mem_range.mp hx) hne)
    simp [hrelay, evtConsumer_unselected hnone]

/-- The identities of hits that are forgotten at the end are hidden in the ports (R257). -/
theorem foldl_forgetHits_eq (l : List Nat) (s : State) :
    ∃ x, l.foldl (fun s n => if (s.prtS n).hitId.isSome then s.modPrt n (fun p => { p with hitId := none }) else s) s = { s with prt := x } := by
  induction l generalizing s with
  | nil => exact ⟨s.prt, rfl⟩
  | cons n l ih =>
    rw [List.foldl_cons]
    split
    · obtain ⟨x, h⟩ := ih (s.modPrt n (fun p => { p with hitId := none }))
      exact ⟨x, h⟩
    · exact ih s

/-- Where no relay is activated, raising sources is one pass of the matrix. -/
theorem raise_one_pass {s t : State} {srcs : List Nat} (hne : srcs ≠ []) (h : s.evtPass srcs s.bankBRuns true = ([], t)) :
    ∃ x, s.raise srcs = { t with prt := x } := by
  have hpasses : evtPasses s.bankBRuns true 3 srcs s = t := by
    rw [evtPasses]
    simp [hne, h, evtPasses]
  have hempty : srcs.isEmpty = false := by simpa using hne
  unfold State.raise State.raiseG
  dsimp only
  rw [hempty, if_neg Bool.false_ne_true, hpasses]
  exact foldl_forgetHits_eq (List.range 8) t

end Sys2Proof.Machine
end

section
/-!
PROOFS. Switch inputs (R87), and a capture consumer that selects the source of one (R94, R97, R98, R101).
-/
set_option Elab.async false

namespace Sys2Proof.Machine

/-! ### A level is accepted -/

/-- The source of an accepted rise or fall of input `n` (R90). -/
def switchSource (n : Fin 8) (lv : Bool) : Nat := if lv then 48 + n else 56 + n

theorem switchSource_bounds (n : Fin 8) (lv : Bool) : 48 ≤ switchSource n lv ∧ switchSource n lv < 64 := by
  unfold switchSource
  split <;> omega

/-- Input `n` without a run. -/
def State.switchIdle (s : State) (n : Fin 8) : State := { s with sw := s.sw.set n { run := none } }

/-- The level of a run is accepted: captured, shown and flagged (R87). -/
def State.switchTaken (s : State) (n : Fin 8) (lv : Bool) (pos : Nat) : State :=
  (((s.switchIdle n).putN (R.SW_CAP n) pos).setBit ⟨R.SW_STAT, n, 1⟩ lv).flag ⟨R.SW_STAT, 8 + n, 1⟩

/-- The bits that an accepted level may change. -/
def switchBits (n : Fin 8) : List Fld := [whole (R.SW_CAP n), ⟨R.SW_STAT, n, 1⟩, ⟨R.SW_STAT, 8 + n, 1⟩]

theorem swAccept_run {s : State} {n : Fin 8} {lv : Bool} {pos : Nat} (h : s.sw[n] = { run := some (lv, pos) }) :
    s.swAccept n = (s.switchTaken n lv pos).raise [switchSource n lv] := by
  simp only [State.swAccept, vget_fin, h, vput_fin]
  rfl

theorem swAccept_idle {s : State} {n : Fin 8} (h : s.sw[n].run = none) : s.swAccept n = s := by
  simp only [State.swAccept, vget_fin, h]

theorem switchTaken_frame (s : State) (n : Fin 8) (lv : Bool) (pos : Nat) : Frame (s.switchIdle n) (s.switchTaken n lv pos) (switchBits n) := by
  have hcap : Frame (s.switchIdle n) ((s.switchIdle n).putN (R.SW_CAP n) pos) (switchBits n) := (Frame.refl _ _).putN pos (by simp [switchBits])
  refine (hcap.setBit lv (by simp [switchBits]) ?_).flag (by simp [switchBits]) ?_
  · exact (by omega : n.val + 1 ≤ 32)
  · exact (by omega : 8 + n.val + 1 ≤ 32)

/-- Bit `i` of a field is the one-bit field at its place. -/
theorem bitN_fld (s : State) (f : Fld) {i : Nat} (h : i < f.w) : bitN (s.fld f) i = s.bit ⟨f.off, f.lo + i, 1⟩ := by
  have hbit : s.bit ⟨f.off, f.lo + i, 1⟩ = (s.fld ⟨f.off, f.lo + i, 1⟩).testBit 0 := by
    have hlt : s.fld ⟨f.off, f.lo + i, 1⟩ < 2 := fld_lt s ⟨f.off, f.lo + i, 1⟩
    unfold State.bit
    interval_cases s.fld ⟨f.off, f.lo + i, 1⟩ <;> rfl
  rw [hbit, bitN_eq_testBit, State.fld, State.fld, testBit_fieldN, testBit_fieldN]
  simp [h]

theorem switchTaken_shows (s : State) (n : Fin 8) (lv : Bool) (pos : Nat) :
    (s.switchTaken n lv pos).rdN (R.SW_CAP n) = pos % 2 ^ 32 ∧ bitN ((s.switchTaken n lv pos).fld F.SW_STAT_LEVEL) n = lv ∧
      bitN ((s.switchTaken n lv pos).fld F.SW_STAT_CHG) n = true := by
  have hlv : (⟨R.SW_STAT, n, 1⟩ : Fld).lo + (⟨R.SW_STAT, n, 1⟩ : Fld).w ≤ 32 := (by omega : n.val + 1 ≤ 32)
  have hchg : (⟨R.SW_STAT, 8 + n, 1⟩ : Fld).lo + (⟨R.SW_STAT, 8 + n, 1⟩ : Fld).w ≤ 32 := (by omega : 8 + n.val + 1 ≤ 32)
  have hcap : R.SW_CAP n ≠ R.SW_STAT := by simp only [R.SW_CAP, R.SW_STAT]; omega
  refine ⟨?_, ?_, ?_⟩
  · exact (rdN_of_rd_eq ((rd_setFld_ne _ _ _ hcap).trans (rd_setFld_ne _ _ _ hcap))).trans (rdN_put_self _ _ _)
  · have hshown : (s.switchTaken n lv pos).bit ⟨R.SW_STAT, n, 1⟩ = lv := by
      rw [State.switchTaken, flag_eq, bit_setFld_apart _ _ hchg (.inr (.inl (by omega : n.val + 1 ≤ 8 + n.val))), setBit_eq,
        bit_setFld_self _ _ _ hlv rfl]
      cases lv <;> rfl
    rw [bitN_fld _ F.SW_STAT_LEVEL n.isLt]
    simpa [F.SW_STAT_LEVEL] using hshown
  · rw [bitN_fld _ F.SW_STAT_CHG n.isLt]
    exact bit_setFld_self _ ⟨R.SW_STAT, 8 + n, 1⟩ 1 hchg rfl

/-! ### What the commands hand over -/

theorem exec_switchAccept (n : Fin 8) (s : State) : exec (.switchAccept n) s = done s (s.swAccept n) := rfl

section Change
variable {n : Fin 8} {pin : Bool} {s : State}

theorem exec_switchInputChange_same (h : (pin != bitN (s.fld F.SW_CTL_INV) n) = bitN (s.fld F.SW_STAT_LEVEL) n) :
    exec (.switchInputChange n pin) s = done s (s.switchIdle n) := by
  change done s (s.swSample n _) = _
  simp only [State.swSample, h, if_true, vput_fin]
  rfl

/-- Input `n` with a run that begins. -/
def State.switchRuns (s : State) (n : Fin 8) (lv : Bool) : State := { s with sw := s.sw.set n { run := some (lv, s.pos (s.fld F.SW_CTL_CHAN)) } }

theorem exec_switchInputChange_other (h : (pin != bitN (s.fld F.SW_CTL_INV) n) ≠ bitN (s.fld F.SW_STAT_LEVEL) n) (hrun : s.sw[n].run = none) :
    exec (.switchInputChange n pin) s = done s (if s.fld F.SW_CTL_DEB = 0
      then (s.switchRuns n (pin != bitN (s.fld F.SW_CTL_INV) n)).swAccept n else s.switchRuns n (pin != bitN (s.fld F.SW_CTL_INV) n)) := by
  change done s (s.swSample n _) = _
  simp only [State.swSample, h, if_false, vget_fin, hrun, Option.isSome_none, Bool.false_eq_true, vput_fin]
  rfl

end Change

/-! ### A capture (R101) -/

/-- The positions of the channels of a list are written, one after another. -/
def State.putPositions (s : State) (j : Fin 3) (l : List Nat) : State := l.foldl (fun s k => s.putN (R.EVT_CAP_POS0 j + 4 * k) (s.pos k)) s

theorem capture_eq (s : State) (j : Fin 3) :
    s.capture j = ((s.putN (R.EVT_CAP_TS j) s.tsNs).putPositions j (List.range 4)).incWrap (F.EVT_CAP_SEQ_SEQ j) := rfl

/-- The registers of positions of capture `j`. -/
def positionBits (j : Fin 3) : List Fld := (List.range 4).map (fun k => whole (R.EVT_CAP_POS0 j + 4 * k))

theorem putPositions_frame (j : Fin 3) {l : List Nat} (hl : ∀ k ∈ l, k < 4) (s : State) : Frame s (s.putPositions j l) (positionBits j) := by
  induction l generalizing s with
  | nil => exact Frame.refl s _
  | cons k l ih =>
    have hk : whole (R.EVT_CAP_POS0 j + 4 * k) ∈ positionBits j := List.mem_map.mpr ⟨k, List.mem_range.mpr (hl k (by simp)), rfl⟩
    exact ((Frame.refl s _).putN _ hk).trans (ih (fun x hx => hl x (by simp [hx])) _)

/-- A register outside the positions is none of theirs. -/
theorem positionBits_outside {j : Fin 3} {off : Nat} (h : off < R.EVT_CAP_POS0 j ∨ R.EVT_CAP_POS0 j + 16 ≤ off) : fieldBits (positionBits j) off = 0 := by
  apply fieldBits_eq_zero
  intro f hf
  obtain ⟨k, hk, rfl⟩ := List.mem_map.mp hf
  have hk : k < 4 := List.mem_range.mp hk
  simp only [whole]
  omega

theorem encPos_outside_captures (j : Fin 3) {k : Nat} (hk : k < 4) : R.ENC_POS k < R.EVT_CAP_POS0 j := by
  simp only [R.ENC_POS, R.EVT_CAP_POS0]
  omega

theorem pos_lt (s : State) (n : Nat) : s.pos n < 2 ^ 32 := rdN_lt s _

theorem rdN_putPositions (j : Fin 3) {l : List Nat} (hl : ∀ k ∈ l, k < 4) (s : State) {k : Nat} (hk : k < 4) :
    (s.putPositions j l).rdN (R.EVT_CAP_POS0 j + 4 * k) = if k ∈ l then s.pos k else s.rdN (R.EVT_CAP_POS0 j + 4 * k) := by
  induction l generalizing s with
  | nil => rfl
  | cons x l ih =>
    have hx : x < 4 := hl x (by simp)
    have hpos : ∀ y < 4, (s.putN (R.EVT_CAP_POS0 j + 4 * x) (s.pos x)).pos y = s.pos y := fun y hy =>
      rdN_of_rd_eq (rd_put_ne s _ (by have := encPos_outside_captures j hy; omega))
    rw [State.putPositions, List.foldl_cons]
    refine (ih (fun y hy => hl y (by simp [hy])) _).trans ?_
    rw [hpos k hk]
    by_cases hkx : k = x
    · subst hkx
      have hself := rdN_put_self s (R.EVT_CAP_POS0 j + 4 * k) (s.pos k)
      rw [Nat.mod_eq_of_lt (pos_lt s k)] at hself
      simp [hself]
    · have hother : (s.put (R.EVT_CAP_POS0 j + 4 * x) (BitVec.ofNat 32 (s.pos x))).rdN (R.EVT_CAP_POS0 j + 4 * k) =
          s.rdN (R.EVT_CAP_POS0 j + 4 * k) := rdN_of_rd_eq (rd_put_ne s _ (by omega))
      simp [hkx, hother]

/-- The registers of capture `j`. -/
def captureBits (j : Fin 3) : List Fld := whole (R.EVT_CAP_TS j) :: F.EVT_CAP_SEQ_SEQ j :: positionBits j

theorem captureSeq_fits (j : Fin 3) : (F.EVT_CAP_SEQ_SEQ j).lo + (F.EVT_CAP_SEQ_SEQ j).w ≤ 32 := (by decide : 0 + 16 ≤ 32)

theorem capture_frame (s : State) (j : Fin 3) : Frame s (s.capture j) (captureBits j) := by
  have hts : Frame s (s.putN (R.EVT_CAP_TS j) s.tsNs) (captureBits j) := (Frame.refl s _).putN _ (by simp [captureBits])
  have hpos : Frame (s.putN (R.EVT_CAP_TS j) s.tsNs) _ (captureBits j) :=
    (putPositions_frame j (fun k hk => List.mem_range.mp hk) _).mono (fun f hf => by simp [captureBits, hf])
  exact (hts.trans hpos).incWrap (by simp [captureBits]) (captureSeq_fits j)

theorem captureBits_off (j : Fin 3) : ∀ f ∈ captureBits j, R.EVT_CAP_TS 0 ≤ f.off := by
  simp only [captureBits, positionBits, List.forall_mem_cons, List.forall_mem_map, whole, F.EVT_CAP_SEQ_SEQ, R.EVT_CAP_TS, R.EVT_CAP_SEQ,
    R.EVT_CAP_POS0]
  exact ⟨by omega, by omega, fun k _ => by omega⟩

/-- Time, positions and number of a capture (R101). -/
theorem capture_holds (s : State) (j : Fin 3) :
    (s.capture j).rdN (R.EVT_CAP_TS j) = s.tsNs ∧ (∀ k : Fin 4, (s.capture j).rdN (R.EVT_CAP_POS0 j + 4 * k) = s.pos k) ∧
      (s.capture j).fld (F.EVT_CAP_SEQ_SEQ j) = (s.fld (F.EVT_CAP_SEQ_SEQ j) + 1) % 2 ^ (F.EVT_CAP_SEQ_SEQ j).w := by
  have hl : ∀ k ∈ List.range 4, k < 4 := fun k hk => List.mem_range.mp hk
  have hseq : R.EVT_CAP_SEQ j = R.EVT_CAP_POS0 j + 16 := by simp only [R.EVT_CAP_SEQ, R.EVT_CAP_POS0]; omega
  have hts : R.EVT_CAP_TS j < R.EVT_CAP_POS0 j := by simp only [R.EVT_CAP_TS, R.EVT_CAP_POS0]; omega
  set t := s.putN (R.EVT_CAP_TS j) s.tsNs with ht
  have hframe : Frame t (t.putPositions j (List.range 4)) (positionBits j) := putPositions_frame j hl t
  rw [capture_eq, incWrap_eq]
  refine ⟨?_, fun k => ?_, ?_⟩
  · rw [rdN_of_rd_eq ((rd_setFld_ne _ (F.EVT_CAP_SEQ_SEQ j) _ (by simp only [F.EVT_CAP_SEQ_SEQ]; omega)).trans
      (hframe.rd (positionBits_outside (.inl hts)))), ht, putN_eq, rdN_put_self]
    exact Nat.mod_eq_of_lt (Nat.mod_lt _ (by decide))
  · have hk := k.isLt
    rw [rdN_of_rd_eq (rd_setFld_ne _ (F.EVT_CAP_SEQ_SEQ j) _ (by simp only [F.EVT_CAP_SEQ_SEQ]; omega)), rdN_putPositions j hl t hk,
      if_pos (List.mem_range.mpr hk)]
    exact rdN_of_rd_eq (rd_put_ne s _ (by have := encPos_outside_captures j hk; simp only [R.ENC_POS, R.EVT_CAP_TS]; omega))
  · have hkept : (t.putPositions j (List.range 4)).fld (F.EVT_CAP_SEQ_SEQ j) = s.fld (F.EVT_CAP_SEQ_SEQ j) :=
      fld_of_rd_eq _ ((hframe.rd (positionBits_outside (.inr hseq.ge))).trans (rd_put_ne s _ (by omega)))
    rw [fld_setFld_self _ _ _ (captureSeq_fits j), hkept]

/-! ### The activation of a capture consumer -/

/-- Consumer 53 + j is activated once, without coincidence, and captures (R94, R98, R101). -/
def State.captureActivates (s : State) (j : Fin 3) : State :=
  (((s.setBit (F.EVT_CFG_COINC (53 + j)) false).setFld (F.EVT_CFG_OVR (53 + j)) 0).incWrap (F.EVT_ACT_CNT (53 + j))).capture j

theorem evtConsumer_capture {s : State} {k : Nat} {j : Fin 3} (hgate : s.bit (F.EVT_CFG_GATE_EN (53 + j)) = false)
    (hsel : s.evtHits [k] (53 + j) ≠ []) (bankB trigDis first : Bool) :
    s.evtConsumer [k] bankB trigDis first (53 + j) = (false, s.captureActivates j) := by
  have hhits : s.evtHits [k] (53 + j) = [k] := by
    unfold State.evtHits at hsel ⊢
    rw [List.filter_singleton] at hsel ⊢
    cases hb : bitN (s.rdN (R.EVT_SRC0 (53 + j) + 4 * (k / 32))) (k % 32) with
    | true => rfl
    | false => exact absurd (by rw [hb]; rfl) hsel
  have hkind : evtKind (53 + j) = 4 := by
    have := j.isLt
    unfold evtKind
    repeat' split
    all_goals omega
  have hact : ∀ t : State, t.evtAct (53 + j) [k] first = t.capture j := fun t => by
    have := j.isLt
    simp (disch := omega) only [State.evtAct, if_neg, if_pos, Nat.add_sub_cancel_left]
  have hlow : ¬ (53 + j.val < 12) := by omega
  have hrelay : ¬ (62 ≤ 53 + j.val) := by omega
  have hbusy : ∀ t : State, t.evtBusy (53 + j) = false := fun t => by simp [State.evtBusy, hkind]
  simp [State.evtConsumer, hhits, hgate, hkind, hact, hlow, hrelay, hbusy, State.captureActivates]

/-- The bits that the activation may change, but for the positions. -/
def activationBits (j : Fin 3) : List Fld :=
  [F.EVT_ACT_CNT (53 + j), F.EVT_CFG_OVR (53 + j), F.EVT_CFG_COINC (53 + j), whole (R.EVT_CAP_TS j), F.EVT_CAP_SEQ_SEQ j]

/-- The bits that the activation may change. -/
def captureConsumerBits (j : Fin 3) : List Fld := activationBits j ++ positionBits j

theorem captureConsumerBits_eq (j : Fin 3) :
    captureConsumerBits j = F.EVT_ACT_CNT (53 + j) :: F.EVT_CFG_OVR (53 + j) :: F.EVT_CFG_COINC (53 + j) :: captureBits j := rfl

theorem captureActivates_frame (s : State) (j : Fin 3) : Frame s (s.captureActivates j) (captureConsumerBits j) := by
  have h1 : Frame s (s.setBit (F.EVT_CFG_COINC (53 + j)) false) (captureConsumerBits j) :=
    (Frame.refl s _).setBit false (by simp [captureConsumerBits_eq]) (by decide : 17 + 1 ≤ 32)
  have h2 := (h1.setFld (f := F.EVT_CFG_OVR (53 + j)) 0 (by simp [captureConsumerBits_eq]) (by decide : 18 + 1 ≤ 32)).incWrap
    (f := F.EVT_ACT_CNT (53 + j)) (by simp [captureConsumerBits_eq]) (by decide : 0 + 32 ≤ 32)
  exact h2.trans ((capture_frame _ j).mono (fun f hf => by simp [captureConsumerBits_eq, hf]))

/-- What the activation leaves in the registers of consumer 53 + j (R98, R101). -/
theorem captureActivates_holds (s : State) (j : Fin 3) :
    (s.captureActivates j).fld (F.EVT_ACT_CNT (53 + j)) = (s.fld (F.EVT_ACT_CNT (53 + j)) + 1) % 2 ^ (F.EVT_ACT_CNT (53 + j)).w ∧
      (s.captureActivates j).fld (F.EVT_CFG_OVR (53 + j)) = 0 ∧ (s.captureActivates j).fld (F.EVT_CFG_COINC (53 + j)) = 0 ∧
      (s.captureActivates j).rdN (R.EVT_CAP_TS j) = s.tsNs ∧ (∀ k : Fin 4, (s.captureActivates j).rdN (R.EVT_CAP_POS0 j + 4 * k) = s.pos k) ∧
      (s.captureActivates j).fld (F.EVT_CAP_SEQ_SEQ j) = (s.fld (F.EVT_CAP_SEQ_SEQ j) + 1) % 2 ^ (F.EVT_CAP_SEQ_SEQ j).w := by
  have hcoinc : (F.EVT_CFG_COINC (53 + j)).lo + (F.EVT_CFG_COINC (53 + j)).w ≤ 32 := (by decide : 17 + 1 ≤ 32)
  have hovr : (F.EVT_CFG_OVR (53 + j)).lo + (F.EVT_CFG_OVR (53 + j)).w ≤ 32 := (by decide : 18 + 1 ≤ 32)
  have hact : (F.EVT_ACT_CNT (53 + j)).lo + (F.EVT_ACT_CNT (53 + j)).w ≤ 32 := (by decide : 0 + 32 ≤ 32)
  have hbits : (F.EVT_CFG_OVR (53 + j)).Apart (F.EVT_CFG_COINC (53 + j)) := .inr (.inl (by decide : 17 + 1 ≤ 18))
  have hcfg : R.EVT_CFG (53 + j) ≠ R.EVT_ACT (53 + j) := by simp only [R.EVT_CFG, R.EVT_ACT]; omega
  set t := s.setBit (F.EVT_CFG_COINC (53 + j)) false with ht
  set u := t.setFld (F.EVT_CFG_OVR (53 + j)) 0 with hu
  have hbefore : ∀ off, off ≠ R.EVT_CFG (53 + j) → off ≠ R.EVT_ACT (53 + j) → (u.incWrap (F.EVT_ACT_CNT (53 + j))).rd off = s.rd off :=
    fun off h1 h2 => ((rd_setFld_ne u _ _ h2).trans (rd_setFld_ne t _ _ h1)).trans (rd_setFld_ne s _ _ h1)
  have hafter : ∀ f : Fld, f.off < R.EVT_CAP_TS 0 → (s.captureActivates j).fld f = (u.incWrap (F.EVT_ACT_CNT (53 + j))).fld f := fun f hf =>
    (capture_frame _ j).fld f (fun g hg => (hf.trans_le (captureBits_off j g hg)).ne')
  obtain ⟨hts, hpos, hseq⟩ := capture_holds (u.incWrap (F.EVT_ACT_CNT (53 + j))) j
  refine ⟨?_, ?_, ?_, hts, fun k => (hpos k).trans (rdN_of_rd_eq (hbefore _ ?_ ?_)), hseq.trans ?_⟩
  · rw [hafter _ (by simp only [F.EVT_ACT_CNT, R.EVT_ACT, R.EVT_CAP_TS]; omega), incWrap_eq, fld_setFld_self _ _ _ hact]
    rw [hu, fld_setFld_ne _ _ _ _ hcfg.symm, ht, setBit_eq, fld_setFld_ne _ _ _ _ hcfg.symm]
  · rw [hafter _ (by simp only [F.EVT_CFG_OVR, R.EVT_CFG, R.EVT_CAP_TS]; omega), incWrap_eq, fld_setFld_ne _ _ _ _ hcfg, hu, fld_setFld_self _ _ _ hovr]
    rfl
  · rw [hafter _ (by simp only [F.EVT_CFG_COINC, R.EVT_CFG, R.EVT_CAP_TS]; omega), incWrap_eq, fld_setFld_ne _ _ _ _ hcfg, hu, fld_setFld_apart _ _ hovr hbits,
      ht, setBit_eq, fld_setFld_self _ _ _ hcoinc]
    rfl
  · simp only [R.ENC_POS, R.EVT_CFG]; omega
  · simp only [R.ENC_POS, R.EVT_ACT]; omega
  · rw [fld_of_rd_eq _ (hbefore _ ?_ ?_)]
    · simp only [F.EVT_CAP_SEQ_SEQ, R.EVT_CAP_SEQ, R.EVT_CFG]; omega
    · simp only [F.EVT_CAP_SEQ_SEQ, R.EVT_CAP_SEQ, R.EVT_ACT]; omega

/-! ### The source of a switch, selected by one capture consumer -/

/-- Below SW_CTL, and in EVT, an accepted level changes no register. -/
theorem rd_switchBits {s t : State} {n : Fin 8} (h : Frame s t (switchBits n)) {off : Nat} (ho : off < R.SW_CTL ∨ R.EVT_SRC0 0 ≤ off) :
    t.rd off = s.rd off := by
  refine h.rd (fieldBits_eq_zero ?_)
  simp only [switchBits, List.forall_mem_cons, whole, R.SW_CAP, R.SW_STAT, R.SW_CTL, R.EVT_SRC0] at ho ⊢
  exact ⟨by omega, by omega, by omega, by simp⟩

/-- The enables of sources are not among the bits that the activation changes. -/
theorem evtHits_captureActivates (s : State) (j : Fin 3) {srcs : List Nat} (hs : ∀ k ∈ srcs, k < 96) {c : Nat} (hc : c < 64) :
    (s.captureActivates j).evtHits srcs c = s.evtHits srcs c := by
  refine evtHits_of_rd_eq hs (fun i hi => (captureActivates_frame s j).rd (fieldBits_eq_zero ?_))
  simp only [captureConsumerBits_eq, List.forall_mem_cons, F.EVT_ACT_CNT, F.EVT_CFG_OVR, F.EVT_CFG_COINC]
  refine ⟨by simp only [R.EVT_ACT, R.EVT_SRC0]; omega, by simp only [R.EVT_CFG, R.EVT_SRC0]; omega, by simp only [R.EVT_CFG, R.EVT_SRC0]; omega,
    fun f hf => ?_⟩
  have hoff := captureBits_off j f hf
  simp only [R.EVT_CAP_TS, R.EVT_SRC0] at hoff ⊢
  omega

theorem raise_selected_by_capture {s : State} {k : Nat} {j : Fin 3} (hk : k < 96) (hgate : s.bit (F.EVT_CFG_GATE_EN (53 + j)) = false)
    (hsel : ∀ c : Fin 64, s.evtHits [k] c = [] ↔ c.val ≠ 53 + j.val) : ∃ x, s.raise [k] = { s.captureActivates j with prt := x } := by
  have hj := j.isLt
  have hown : s.evtHits [k] (53 + j) ≠ [] := fun h => (hsel ⟨53 + j, by omega⟩).mp h rfl
  have hone : s.evtConsumer [k] s.bankBRuns s.cfg.trigDis true (53 + j) = (false, s.captureActivates j) := evtConsumer_capture hgate hown _ _ _
  refine raise_one_pass (by simp) ?_
  rw [evtPass_one (c := 53 + j) (by omega) (fun x hx hne => (hsel ⟨x, hx⟩).mpr hne) (fun x hx _ => ?_) (by rw [hone]), hone]
  rw [hone]
  exact evtHits_captureActivates s j (by simpa using hk) hx

theorem switchCapture_frame {s t w : State} {n : Fin 8} {j : Fin 3} (h : Frame s t (switchBits n)) (k : Frame t w (captureConsumerBits j)) :
    Frame s w (activationBits j ++ switchBits n ++ positionBits j) := by
  refine (h.mono (fun f hf => by simp [hf])).trans (k.mono (fun f hf => ?_))
  simp only [captureConsumerBits, List.mem_append] at hf ⊢
  tauto

/-- What the print ports hide is no register. -/
theorem fld_withPrt (s : State) (x : Vector PrtS 8) (f : Fld) : State.fld { s with prt := x } f = s.fld f := rfl

theorem rdN_withPrt (s : State) (x : Vector PrtS 8) (off : Nat) : State.rdN { s with prt := x } off = s.rdN off := rfl

/-- What a raised source of a switch does where capture consumer 53 + j alone selects it. -/
theorem raise_captures {s t : State} {n : Fin 8} {j : Fin 3} {k : Nat} (htaken : Frame s t (switchBits n)) (hts : t.tsNs = s.tsNs) (hk : k < 96)
    (hgate : s.bit (F.EVT_CFG_GATE_EN (53 + j)) = false) (hsel : ∀ c : Fin 64, s.evtHits [k] c = [] ↔ c.val ≠ 53 + j.val) :
    ∃ v, t.raise [k] = v ∧ v.fld (F.EVT_ACT_CNT (53 + j)) = (s.fld (F.EVT_ACT_CNT (53 + j)) + 1) % 2 ^ (F.EVT_ACT_CNT (53 + j)).w ∧
      v.fld (F.EVT_CFG_OVR (53 + j)) = 0 ∧ v.fld (F.EVT_CFG_COINC (53 + j)) = 0 ∧ v.rdN (R.EVT_CAP_TS j) = s.tsNs ∧
      (∀ k : Fin 4, v.rdN (R.EVT_CAP_POS0 j + 4 * k) = s.pos k) ∧
      v.fld (F.EVT_CAP_SEQ_SEQ j) = (s.fld (F.EVT_CAP_SEQ_SEQ j) + 1) % 2 ^ (F.EVT_CAP_SEQ_SEQ j).w ∧
      Frame { s with prt := v.prt } v (activationBits j ++ switchBits n ++ positionBits j) := by
  have hevt : ∀ {off}, R.EVT_SRC0 0 ≤ off → t.rd off = s.rd off := fun h => rd_switchBits htaken (.inr h)
  have hgate' : t.bit (F.EVT_CFG_GATE_EN (53 + j)) = false :=
    (bit_of_rd_eq _ (hevt (by simp only [F.EVT_CFG_GATE_EN, R.EVT_CFG, R.EVT_SRC0]; omega))).trans hgate
  have hsel' : ∀ c : Fin 64, t.evtHits [k] c = [] ↔ c.val ≠ 53 + j.val := fun c => by
    rw [evtHits_of_rd_eq (by simpa using hk) (fun i _ => hevt (by simp only [R.EVT_SRC0]; omega))]
    exact hsel c
  obtain ⟨x, hx⟩ := raise_selected_by_capture hk hgate' hsel'
  obtain ⟨hact, hovr, hcoinc, hcap, hpos, hseq⟩ := captureActivates_holds t j
  have hframe := switchCapture_frame htaken (captureActivates_frame t j)
  refine ⟨_, hx, (fld_withPrt _ x _).trans (hact.trans ?_), (fld_withPrt _ x _).trans hovr, (fld_withPrt _ x _).trans hcoinc,
    (rdN_withPrt _ x _).trans (hcap.trans hts), fun i => (rdN_withPrt _ x _).trans ((hpos i).trans ?_), (fld_withPrt _ x _).trans (hseq.trans ?_),
    hframe.withPrt x⟩
  · rw [fld_of_rd_eq _ (hevt (by simp only [F.EVT_ACT_CNT, R.EVT_ACT, R.EVT_SRC0]; omega))]
  · exact rdN_of_rd_eq (rd_switchBits htaken (.inl (by simp only [R.ENC_POS, R.SW_CTL]; omega)))
  · rw [fld_of_rd_eq _ (hevt (by simp only [F.EVT_CAP_SEQ_SEQ, R.EVT_CAP_SEQ, R.EVT_SRC0]; omega))]

/-- Settles O20: the acceptance of a run says what a switch input shows; the matrix then runs one capture consumer. -/
theorem switchLevelsAndTheirEvents : Obligations.SwitchLevelsAndTheirEvents := by
  unfold Obligations.SwitchLevelsAndTheirEvents
  refine ⟨fun n lv pos s hrun => ?_, fun n s hrun => ?_, fun n pin s hsame => ?_, ?_, ?_, fun n j lv pos s hrun hgate hsel => ?_⟩
  · obtain ⟨hcap, hlevel, hchg⟩ := switchTaken_shows s n lv pos
    exact completes_of_done ((exec_switchAccept n s).trans (congrArg (done s) (swAccept_run hrun)))
      ⟨_, rfl, hcap, hlevel, hchg, switchTaken_frame s n lv pos⟩
  · exact completes_of_done ((exec_switchAccept n s).trans (congrArg (done s) (swAccept_idle hrun))) rfl
  · exact completes_of_done (exec_switchInputChange_same hsame) rfl
  · intro n pin s lv hlv hrun hdeb
    exact completes_of_done ((exec_switchInputChange_other hlv hrun).trans (congrArg (done s) (if_neg hdeb))) rfl
  · intro n pin s lv hlv hrun hdeb
    have hruns : (s.switchRuns n lv).sw[n] = { run := some (lv, s.pos (s.fld F.SW_CTL_CHAN)) } := by simp [State.switchRuns]
    obtain ⟨hcap, hlevel, hchg⟩ := switchTaken_shows (s.switchRuns n lv) n lv (s.pos (s.fld F.SW_CTL_CHAN))
    have hframe := switchTaken_frame (s.switchRuns n lv) n lv (s.pos (s.fld F.SW_CTL_CHAN))
    have hidle : (s.switchRuns n lv).switchIdle n = s.switchIdle n := by simp [State.switchRuns, State.switchIdle]
    rw [hidle] at hframe
    exact completes_of_done ((exec_switchInputChange_other hlv hrun).trans (congrArg (done s) ((if_pos hdeb).trans (swAccept_run hruns))))
      ⟨_, rfl, hcap.trans (Nat.mod_eq_of_lt (pos_lt s _)), hlevel, hchg, hframe⟩
  · have hk : switchSource n lv < 96 := by have := switchSource_bounds n lv; omega
    obtain ⟨v, hraise, hv⟩ := raise_captures (switchTaken_frame s n lv pos) rfl hk hgate hsel
    exact completes_of_done ((exec_switchAccept n s).trans (congrArg (done s) ((swAccept_run hrun).trans hraise))) hv

end Sys2Proof.Machine
end

section
/-!
SUPPORT. Compare units (R78 to R82): the point and the spacing of a unit, points that are skipped, and a hit of a unit that drives no print port.
-/
set_option Elab.async false

namespace Sys2Proof.Machine

/-! ### What a compare unit hides -/

theorem cuSt_fin (s : State) (w : Fin 32) : s.cuSt w = s.cu[w] := vget_fin _ _ _

theorem modCu_fin (s : State) (w : Fin 32) (f : CuS → CuS) : s.modCu w f = { s with cu := s.cu.set w (f s.cu[w]) } := by
  simp [State.modCu, State.cuSt]

theorem cuSt_modCu_self (s : State) (w : Fin 32) (f : CuS → CuS) : (s.modCu w f).cuSt w = f (s.cuSt w) := by
  simp [modCu_fin, cuSt_fin]

theorem cuSt_modCu_ne (s : State) {w x : Fin 32} (f : CuS → CuS) (h : x ≠ w) : (s.modCu w f).cuSt x = s.cuSt x := by
  have hne : w.val ≠ x.val := fun he => h (Fin.ext he.symm)
  simp [modCu_fin, cuSt_fin, Vector.getElem_set_ne, hne]

theorem with_cuSt_modCu (s : State) (w : Fin 32) (f : CuS → CuS) : { s with cu := vput s.cu w ((s.modCu w f).cuSt w) } = s.modCu w f := by
  rw [cuSt_modCu_self]
  rfl

theorem modCu_modCu (s : State) (w : Fin 32) (f g : CuS → CuS) : (s.modCu w f).modCu w g = s.modCu w (fun c => g (f c)) := by
  simp [modCu_fin]

/-! ### The registers of a unit -/

/-- The bits of a unit that a hit may change. -/
def cuHitBits (w : Fin 32) : List Fld :=
  [whole (R.CU_HIT_POS w), whole (R.CU_HIT_TS w), F.CU_HIT_FRAC_FRAC w, whole (R.CU_NEXT_INT w), F.CU_NEXT_FRAC_N w, F.CU_STAT_SKIP w,
    F.CU_STAT_SKIP_CNT w]

/-- The bits of a unit that a skip may change. -/
def cuSkipBits (w : Fin 32) : List Fld := [whole (R.CU_NEXT_INT w), F.CU_NEXT_FRAC_N w, F.CU_STAT_SKIP w, F.CU_STAT_SKIP_CNT w]

/-- They lie in the unit's own 64 bytes. -/
theorem cuHitBits_off (w : Fin 32) : ∀ f ∈ cuHitBits w, R.CU_CTL w < f.off ∧ f.off < R.CU_CTL w + 0x40 := by
  simp only [cuHitBits, List.forall_mem_cons, whole, F.CU_HIT_FRAC_FRAC, F.CU_NEXT_FRAC_N, F.CU_STAT_SKIP, F.CU_STAT_SKIP_CNT, R.CU_CTL, R.CU_HIT_POS,
    R.CU_HIT_TS, R.CU_HIT_FRAC, R.CU_NEXT_INT, R.CU_NEXT_FRAC, R.CU_STAT]
  exact ⟨by omega, by omega, by omega, by omega, by omega, by omega, by omega, by simp⟩

theorem cuSkipBits_off (w : Fin 32) : ∀ f ∈ cuSkipBits w, f.off ∈ [R.CU_NEXT_INT w, R.CU_NEXT_FRAC w, R.CU_STAT w] := by
  simp [cuSkipBits, whole, F.CU_NEXT_FRAC_N, F.CU_STAT_SKIP, F.CU_STAT_SKIP_CNT]

section Fits
variable (u : Nat)

theorem cuNextInt_fits : (F.CU_NEXT_INT_N u).lo + (F.CU_NEXT_INT_N u).w ≤ 32 := (by decide : 0 + 32 ≤ 32)

theorem cuNextFrac_fits : (F.CU_NEXT_FRAC_N u).lo + (F.CU_NEXT_FRAC_N u).w ≤ 32 := (by decide : 0 + 16 ≤ 32)

theorem cuSkip_fits : (F.CU_STAT_SKIP u).lo + (F.CU_STAT_SKIP u).w ≤ 32 := (by decide : 1 + 1 ≤ 32)

theorem cuSkipCnt_fits : (F.CU_STAT_SKIP_CNT u).lo + (F.CU_STAT_SKIP_CNT u).w ≤ 32 := (by decide : 16 + 16 ≤ 32)

theorem cuSkip_apart_cnt : (F.CU_STAT_SKIP u).Apart (F.CU_STAT_SKIP_CNT u) := .inr (.inr (by decide : 1 + 1 ≤ 16))

theorem cuNextInt_ne_frac : R.CU_NEXT_INT u ≠ R.CU_NEXT_FRAC u := by simp only [R.CU_NEXT_INT, R.CU_NEXT_FRAC]; omega

theorem cuStat_ne_next : R.CU_STAT u ≠ R.CU_NEXT_INT u ∧ R.CU_STAT u ≠ R.CU_NEXT_FRAC u := by
  simp only [R.CU_STAT, R.CU_NEXT_INT, R.CU_NEXT_FRAC]
  omega

end Fits

/-! ### Point and spacing (R78) -/

theorem cuN_lt (s : State) (u : Nat) : s.cuN u < 2 ^ 48 := by
  have h1 : s.fld (F.CU_NEXT_INT_N u) < 2 ^ 32 := fld_lt s _
  have h2 : s.fld (F.CU_NEXT_FRAC_N u) < 2 ^ 16 := fld_lt s _
  unfold State.cuN
  omega

theorem cuN_of_rd_eq {s t : State} {u : Nat} (h1 : t.rd (R.CU_NEXT_INT u) = s.rd (R.CU_NEXT_INT u))
    (h2 : t.rd (R.CU_NEXT_FRAC u) = s.rd (R.CU_NEXT_FRAC u)) : t.cuN u = s.cuN u := by
  unfold State.cuN
  rw [fld_of_rd_eq (F.CU_NEXT_INT_N u) h1, fld_of_rd_eq (F.CU_NEXT_FRAC_N u) h2]

theorem cuS_of_rd_eq {s t : State} {u : Nat} (h1 : t.rd (R.CU_SPACING u) = s.rd (R.CU_SPACING u))
    (h2 : t.rd (R.CU_SPACING_HI u) = s.rd (R.CU_SPACING_HI u)) : t.cuS u = s.cuS u := by
  unfold State.cuS
  rw [fld_of_rd_eq (F.CU_SPACING_S u) h1, fld_of_rd_eq (F.CU_SPACING_HI_S_HI u) h2]

/-- A unit's point reads what it was set to, modulo 2^48. -/
theorem cuN_setCuN (s : State) (u n : Nat) : (s.setCuN u n).cuN u = n % 2 ^ 48 := by
  have hint : (s.setCuN u n).fld (F.CU_NEXT_INT_N u) = n / 65536 % 2 ^ 32 :=
    (fld_setFld_ne _ (F.CU_NEXT_FRAC_N u) _ _ (cuNextInt_ne_frac u)).trans (fld_setFld_self s _ _ (cuNextInt_fits u))
  have hfrac : (s.setCuN u n).fld (F.CU_NEXT_FRAC_N u) = n % 2 ^ 16 := fld_setFld_self _ _ _ (cuNextFrac_fits u)
  rw [State.cuN, hint, hfrac]
  omega

theorem setCuN_frame (s : State) (w : Fin 32) (n : Nat) : Frame s (s.setCuN w n) (cuSkipBits w) :=
  ((Frame.refl s _).setFld (f := F.CU_NEXT_INT_N w) _ (by simp [cuSkipBits, F.CU_NEXT_INT_N, whole]) (cuNextInt_fits w)).setFld
    (f := F.CU_NEXT_FRAC_N w) _ (by simp [cuSkipBits]) (cuNextFrac_fits w)

/-! ### Skips (R81) -/

theorem cuSkip_frame (s : State) (w : Fin 32) (k : Nat) : Frame s (s.cuSkip w k) (cuSkipBits w) := by
  unfold State.cuSkip
  split
  · exact Frame.refl s _
  · exact (((Frame.refl s _).flag (by simp [cuSkipBits]) (cuSkip_fits w)).setFld (f := F.CU_STAT_SKIP_CNT w) _ (by simp [cuSkipBits])
      (cuSkipCnt_fits w)).trans (setCuN_frame _ w _)

/-- `k` skipped points move the point on by `k` spacings, and are counted and flagged (R81). -/
theorem cuSkip_counts (s : State) (w : Fin 32) (k : Nat) :
    (s.cuSkip w k).cuN w = (s.cuN w + k * s.cuS w) % 2 ^ 48 ∧ (s.cuSkip w k).bit (F.CU_STAT_SKIP w) = (s.bit (F.CU_STAT_SKIP w) || decide (0 < k)) ∧
      (s.cuSkip w k).fld (F.CU_STAT_SKIP_CNT w) = min (s.fld (F.CU_STAT_SKIP_CNT w) + k) 65535 := by
  have hcnt : s.fld (F.CU_STAT_SKIP_CNT w) < 2 ^ 16 := fld_lt s _
  by_cases hk : k = 0
  · have hsame : s.cuSkip w k = s := by simp [State.cuSkip, hk]
    rw [hsame, hk, Nat.zero_mul, Nat.add_zero, Nat.mod_eq_of_lt (cuN_lt s w)]
    exact ⟨rfl, by simp, by omega⟩
  · set t := s.flag (F.CU_STAT_SKIP w) with ht
    set u := t.setFld (F.CU_STAT_SKIP_CNT w) (min (t.fld (F.CU_STAT_SKIP_CNT w) + k) 65535) with hu
    have hskip : s.cuSkip w k = u.setCuN w (s.cuN w + k * s.cuS w) := by simp [State.cuSkip, hk, hu, ht]
    have hstat : (u.setCuN w (s.cuN w + k * s.cuS w)).rd (R.CU_STAT w) = u.rd (R.CU_STAT w) :=
      (rd_setFld_ne _ _ _ (cuStat_ne_next w).2).trans (rd_setFld_ne _ _ _ (cuStat_ne_next w).1)
    have hold : t.fld (F.CU_STAT_SKIP_CNT w) = s.fld (F.CU_STAT_SKIP_CNT w) := fld_setFld_apart s 1 (cuSkip_fits w) (cuSkip_apart_cnt w)
    rw [hskip]
    refine ⟨cuN_setCuN _ _ _, ?_, ?_⟩
    · rw [bit_of_rd_eq (F.CU_STAT_SKIP w) hstat, hu, bit_setFld_apart _ _ (cuSkipCnt_fits w) (.inr (.inl (by decide : 1 + 1 ≤ 16))), ht, flag_eq,
        bit_setFld_self s _ 1 (cuSkip_fits w) rfl, decide_eq_true (by omega : 0 < k), Bool.or_true]
      rfl
    · rw [fld_of_rd_eq (F.CU_STAT_SKIP_CNT w) hstat, hu, fld_setFld_self _ _ _ (cuSkipCnt_fits w), hold]
      exact Nat.mod_eq_of_lt (by omega : min (s.fld (F.CU_STAT_SKIP_CNT w) + k) 65535 < 2 ^ 16)

/-! ### A hit of a unit that drives no print port (R81, R84) -/

/-- What a hit leaves of a unit's hidden state: no hit waits, and the event arm is used in mode 1. -/
def CuS.hit (mode : Bool) (c : CuS) : CuS := { c with delayed := false, deferred := false, evArm := c.evArm && !mode }

/-- Position, time and fraction of the hit are captured. -/
def State.cuCapture (s : State) (w : Fin 32) (pos : Nat) : State :=
  ((s.putN (R.CU_HIT_POS w) pos).putN (R.CU_HIT_TS w) s.tsNs).setFld (F.CU_HIT_FRAC_FRAC w) (s.cuN w)

/-- The capture, and the first spacing. -/
def State.cuAdvance (s : State) (w : Fin 32) (pos : Nat) : State :=
  ((s.cuCapture w pos).modCu w (CuS.hit (s.bit (F.CU_CTL_MODE w)))).setCuN w (s.cuN w + s.cuS w)

/-- The points beyond the next one that a position `pos` has reached (R80, R81). -/
def State.cuBeyond (s : State) (w : Fin 32) (pos : Nat) : Nat := ptReached ((s.cuN w + s.cuS w) % 2 ^ 48) (s.cuLim w pos) (s.cuS w)

/-- The capture leaves what lies outside its three registers. -/
theorem rd_cuCapture_ne (s : State) (w : Fin 32) (pos : Nat) {off : Nat} (h : off < R.CU_HIT_POS w ∨ R.CU_HIT_FRAC w < off) :
    (s.cuCapture w pos).rd off = s.rd off := by
  simp only [R.CU_HIT_POS, R.CU_HIT_FRAC] at h
  refine ((rd_setFld_ne _ (F.CU_HIT_FRAC_FRAC w) _ ?_).trans (rd_put_ne _ _ ?_)).trans (rd_put_ne _ _ ?_)
  · simp only [F.CU_HIT_FRAC_FRAC, R.CU_HIT_FRAC]; omega
  · simp only [R.CU_HIT_TS]; omega
  · simp only [R.CU_HIT_POS]; omega

theorem cuS_cuCapture (s : State) (w : Fin 32) (pos : Nat) : (s.cuCapture w pos).cuS w = s.cuS w :=
  cuS_of_rd_eq (rd_cuCapture_ne s w pos (.inl (by simp only [R.CU_SPACING, R.CU_HIT_POS]; omega)))
    (rd_cuCapture_ne s w pos (.inr (by simp only [R.CU_SPACING_HI, R.CU_HIT_FRAC]; omega)))

/-- A point that moves leaves what lies outside its two registers. -/
theorem rd_setCuN_ne (s : State) (u n : Nat) {off : Nat} (h1 : off ≠ R.CU_NEXT_INT u) (h2 : off ≠ R.CU_NEXT_FRAC u) : (s.setCuN u n).rd off = s.rd off :=
  (rd_setFld_ne _ (F.CU_NEXT_FRAC_N u) _ h2).trans (rd_setFld_ne _ (F.CU_NEXT_INT_N u) _ h1)

theorem rd_cuAdvance_ne (s : State) (w : Fin 32) (pos : Nat) {off : Nat} (h1 : off ≠ R.CU_NEXT_INT w) (h2 : off ≠ R.CU_NEXT_FRAC w) :
    (s.cuAdvance w pos).rd off = (s.cuCapture w pos).rd off := rd_setCuN_ne _ _ _ h1 h2

theorem cuS_cuAdvance (s : State) (w : Fin 32) (pos : Nat) : (s.cuAdvance w pos).cuS w = s.cuS w := by
  refine (cuS_of_rd_eq (rd_cuAdvance_ne s w pos ?_ ?_) (rd_cuAdvance_ne s w pos ?_ ?_)).trans (cuS_cuCapture s w pos)
  all_goals
    simp only [R.CU_SPACING, R.CU_SPACING_HI, R.CU_NEXT_INT, R.CU_NEXT_FRAC]
    omega

theorem cuN_cuAdvance (s : State) (w : Fin 32) (pos : Nat) : (s.cuAdvance w pos).cuN w = (s.cuN w + s.cuS w) % 2 ^ 48 := cuN_setCuN _ _ _

theorem cuHit_eq {s : State} {w : Fin 32} (hp : s.portsOf w = []) (pos : Nat) :
    s.cuHit w pos (s.cuLim w pos) false = (s.cuAdvance w pos).cuSkip w (s.cuBeyond w pos) := by
  have hmode : (s.cuCapture w pos).bit (F.CU_CTL_MODE w) = s.bit (F.CU_CTL_MODE w) :=
    bit_of_rd_eq _ (rd_cuCapture_ne s w pos (.inl (by simp only [F.CU_CTL_MODE, R.CU_CTL, R.CU_HIT_POS]; omega)))
  have hspacing : ((s.cuCapture w pos).modCu w (CuS.hit (s.bit (F.CU_CTL_MODE w)))).cuS w = s.cuS w := cuS_cuCapture s w pos
  have hadvance : (((s.cuCapture w pos).modCu w (CuS.hit ((s.cuCapture w pos).bit (F.CU_CTL_MODE w)))).setCuN w
      (s.cuN w + ((s.cuCapture w pos).modCu w (CuS.hit ((s.cuCapture w pos).bit (F.CU_CTL_MODE w)))).cuS w)) = s.cuAdvance w pos := by
    rw [hmode, hspacing]
    rfl
  have hunfold : s.cuHit w pos (s.cuLim w pos) false =
      (let t := ((s.cuCapture w pos).modCu w (CuS.hit ((s.cuCapture w pos).bit (F.CU_CTL_MODE w)))).setCuN w
        (s.cuN w + ((s.cuCapture w pos).modCu w (CuS.hit ((s.cuCapture w pos).bit (F.CU_CTL_MODE w)))).cuS w)
       t.cuSkip w (ptReached (t.cuN w) (s.cuLim w pos) (t.cuS w))) := by
    unfold State.cuHit
    rw [hp]
    rfl
  rw [hunfold, hadvance]
  dsimp only
  rw [cuN_cuAdvance, cuS_cuAdvance]
  rfl

end Sys2Proof.Machine
end

section
/-!
SUPPORT. What one unit's hit says and leaves (R81), and hits of several units in one cycle.
-/
set_option Elab.async false

namespace Sys2Proof.Machine

/-! ### One hit -/

/-- The position a unit compares. -/
def State.cuPos (s : State) (w : Fin 32) : Nat := s.pos (s.fld (F.CU_CTL_CHAN w))

/-- The state after a waiting hit of a unit that drives no print port. -/
def State.cuTaken (s : State) (w : Fin 32) : State := (s.cuAdvance w (s.cuPos w)).cuSkip w (s.cuBeyond w (s.cuPos w))

/-- Unit `w` of `u` is what its waiting hit in `s` makes of it. -/
def CuTakes (s u : State) (w : Fin 32) : Prop :=
  let pos := s.pos (s.fld (F.CU_CTL_CHAN w))
  let k := ptReached ((s.cuN w + s.cuS w) % 2 ^ 48) (s.cuLim w pos) (s.cuS w)
  u.rdN (R.CU_HIT_POS w) = pos ∧ u.rdN (R.CU_HIT_TS w) = s.tsNs ∧ u.fld (F.CU_HIT_FRAC_FRAC w) = s.cuN w % 65536 ∧
  u.cuN w = (s.cuN w + (1 + k) * s.cuS w) % 2 ^ 48 ∧
  u.bit (F.CU_STAT_SKIP w) = (s.bit (F.CU_STAT_SKIP w) || 0 < k) ∧
  u.fld (F.CU_STAT_SKIP_CNT w) = min (s.fld (F.CU_STAT_SKIP_CNT w) + k) 65535 ∧
  (u.cuSt w).delayed = false ∧ (u.cuSt w).deferred = false ∧
  (u.cuSt w).evArm = ((s.cuSt w).evArm && !s.bit (F.CU_CTL_MODE w))

theorem cuHitFrac_fits (u : Nat) : (F.CU_HIT_FRAC_FRAC u).lo + (F.CU_HIT_FRAC_FRAC u).w ≤ 32 := (by decide : 0 + 16 ≤ 32)

/-- A register of the capture is no later written by the hit. -/
theorem rd_cuTaken_hit (s : State) (w : Fin 32) {off : Nat} (h : off ∈ [R.CU_HIT_POS w, R.CU_HIT_TS w, R.CU_HIT_FRAC w]) :
    (s.cuTaken w).rd off = (s.cuCapture w (s.cuPos w)).rd off := by
  have hne : off ≠ R.CU_NEXT_INT w ∧ off ≠ R.CU_NEXT_FRAC w ∧ off ≠ R.CU_STAT w := by
    simp only [R.CU_HIT_POS, R.CU_HIT_TS, R.CU_HIT_FRAC, R.CU_NEXT_INT, R.CU_NEXT_FRAC, R.CU_STAT, List.mem_cons, List.not_mem_nil, or_false] at h ⊢
    omega
  obtain ⟨hint, hfrac, hstat⟩ := hne
  refine ((cuSkip_frame (s.cuAdvance w (s.cuPos w)) w _).rd (fieldBits_eq_zero fun f hf ho => ?_)).trans (rd_cuAdvance_ne s w _ hint hfrac)
  have hin := cuSkipBits_off w f hf
  simp only [ho, List.mem_cons, List.not_mem_nil, or_false] at hin
  exact hin.elim hint fun h => h.elim hfrac hstat

theorem cuCapture_reads (s : State) (w : Fin 32) (pos : Nat) :
    (s.cuCapture w pos).rdN (R.CU_HIT_POS w) = pos % 2 ^ 32 ∧ (s.cuCapture w pos).rdN (R.CU_HIT_TS w) = s.tsNs ∧
      (s.cuCapture w pos).fld (F.CU_HIT_FRAC_FRAC w) = s.cuN w % 65536 := by
  have hpos : R.CU_HIT_POS w ≠ R.CU_HIT_TS w ∧ R.CU_HIT_POS w ≠ R.CU_HIT_FRAC w := by
    simp only [R.CU_HIT_POS, R.CU_HIT_TS, R.CU_HIT_FRAC]; omega
  have hts : R.CU_HIT_TS w ≠ R.CU_HIT_FRAC w := by simp only [R.CU_HIT_TS, R.CU_HIT_FRAC]; omega
  refine ⟨?_, ?_, fld_setFld_self _ (F.CU_HIT_FRAC_FRAC w) _ (cuHitFrac_fits w)⟩
  · exact (rdN_of_rd_eq ((rd_setFld_ne _ (F.CU_HIT_FRAC_FRAC w) _ hpos.2).trans (rd_put_ne _ _ hpos.1))).trans (rdN_put_self s _ _)
  · exact ((rdN_of_rd_eq (rd_setFld_ne _ (F.CU_HIT_FRAC_FRAC w) _ hts)).trans (rdN_put_self _ _ _)).trans (Nat.mod_eq_of_lt (Nat.mod_lt _ (by decide)))

/-- A frame whose list of compare units is the same at both ends keeps what they hide. -/
theorem Frame.cu_eq {s v : State} {fs : List Fld} (h : Frame s v fs) : v.cu = s.cu := (congrArg State.cu h.rest :)

theorem cuSt_of_cu_eq {s t : State} (h : t.cu = s.cu) (w : Fin 32) : t.cuSt w = s.cuSt w := by rw [State.cuSt, h, State.cuSt]

theorem modCu_cu_of_eq {s t : State} (h : t.cu = s.cu) (w : Fin 32) (f : CuS → CuS) : (t.modCu w f).cu = (s.modCu w f).cu := by
  rw [modCu_fin, modCu_fin, h]

theorem cu_setCuN (s : State) (u n : Nat) : (s.setCuN u n).cu = s.cu := rfl

theorem cu_cuCapture (s : State) (w : Fin 32) (pos : Nat) : (s.cuCapture w pos).cu = s.cu := rfl

theorem cu_cuAdvance (s : State) (w : Fin 32) (pos : Nat) : (s.cuAdvance w pos).cu = (s.modCu w (CuS.hit (s.bit (F.CU_CTL_MODE w)))).cu :=
  (cu_setCuN _ _ _).trans (modCu_cu_of_eq (cu_cuCapture s w pos) w _)

theorem cu_cuTaken (s : State) (w : Fin 32) : (s.cuTaken w).cu = (s.modCu w (CuS.hit (s.bit (F.CU_CTL_MODE w)))).cu :=
  (cuSkip_frame _ w _).cu_eq.trans (cu_cuAdvance s w _)

theorem cuSt_cuTaken (s : State) (w : Fin 32) : (s.cuTaken w).cuSt w = (s.cuSt w).hit (s.bit (F.CU_CTL_MODE w)) :=
  (cuSt_of_cu_eq (cu_cuTaken s w) w).trans (cuSt_modCu_self s w _)

theorem cuTakes_cuTaken (s : State) (w : Fin 32) : CuTakes s (s.cuTaken w) w := by
  have hpos : s.cuPos w % 2 ^ 32 = s.cuPos w := Nat.mod_eq_of_lt (pos_lt s _)
  obtain ⟨hcpos, hcts, hcfrac⟩ := cuCapture_reads s w (s.cuPos w)
  obtain ⟨hn, hskip, hcnt⟩ := cuSkip_counts (s.cuAdvance w (s.cuPos w)) w (s.cuBeyond w (s.cuPos w))
  have hstat : (s.cuAdvance w (s.cuPos w)).rd (R.CU_STAT w) = s.rd (R.CU_STAT w) :=
    (rd_cuAdvance_ne s w _ (cuStat_ne_next w).1 (cuStat_ne_next w).2).trans
      (rd_cuCapture_ne s w _ (.inr (by simp only [R.CU_STAT, R.CU_HIT_FRAC]; omega)))
  have hhidden := cuSt_cuTaken s w
  refine ⟨?_, ?_, ?_, ?_, ?_, ?_, ?_, ?_, ?_⟩
  · exact (rdN_of_rd_eq (rd_cuTaken_hit s w (by simp))).trans (hcpos.trans hpos)
  · exact (rdN_of_rd_eq (rd_cuTaken_hit s w (by simp))).trans hcts
  · exact (fld_of_rd_eq (F.CU_HIT_FRAC_FRAC w) (rd_cuTaken_hit s w (by simp [F.CU_HIT_FRAC_FRAC]))).trans hcfrac
  · refine hn.trans ?_
    rw [cuN_cuAdvance, cuS_cuAdvance, Nat.mod_add_mod, Nat.add_assoc, Nat.add_mul, Nat.one_mul]
    rfl
  · exact hskip.trans (by rw [bit_of_rd_eq (F.CU_STAT_SKIP w) hstat]; rfl)
  · exact hcnt.trans (by rw [fld_of_rd_eq (F.CU_STAT_SKIP_CNT w) hstat]; rfl)
  · rw [hhidden]; rfl
  · rw [hhidden]; rfl
  · rw [hhidden]; rfl

/-! ### What hits leave -/

/-- From `s` to `u` only the hits of the units `us` have come. -/
structure CuHits (s u : State) (us : List (Fin 32)) : Prop where
  frame : Frame { s with cu := u.cu } u (us.flatMap fun w => cuHitBits w)
  others : ∀ w, w ∉ us → u.cuSt w = s.cuSt w

theorem CuHits.nil (s : State) : CuHits s s [] := ⟨Frame.refl s _, fun _ _ => rfl⟩

theorem cuHits_cuTaken (s : State) (w : Fin 32) : CuHits s (s.cuTaken w) [w] := by
  have hcapture : Frame s (s.cuCapture w (s.cuPos w)) (cuHitBits w) :=
    (((Frame.refl s _).putN _ (by simp [cuHitBits])).putN _ (by simp [cuHitBits])).setFld (f := F.CU_HIT_FRAC_FRAC w) _ (by simp [cuHitBits])
      (cuHitFrac_fits w)
  have hsub : ∀ f ∈ cuSkipBits w, f ∈ cuHitBits w := by simp [cuSkipBits, cuHitBits]
  have hadvance : Frame { s with cu := (s.cuAdvance w (s.cuPos w)).cu } (s.cuAdvance w (s.cuPos w)) (cuHitBits w) :=
    (hcapture.withCu _).trans ((setCuN_frame _ w (s.cuN w + s.cuS w)).mono hsub)
  have hskip := (cuSkip_frame (s.cuAdvance w (s.cuPos w)) w (s.cuBeyond w (s.cuPos w))).mono hsub
  refine ⟨?_, fun x hx => ?_⟩
  · rw [(cu_cuTaken s w).trans (cu_cuAdvance s w (s.cuPos w)).symm]
    exact (hadvance.trans hskip).mono (by simp)
  · exact (cuSt_of_cu_eq (cu_cuTaken s w) x).trans (cuSt_modCu_ne s _ (by simpa using hx))

theorem CuHits.trans {s t u : State} {us vs : List (Fin 32)} (h : CuHits s t us) (k : CuHits t u vs) : CuHits s u (us ++ vs) := by
  refine ⟨?_, fun w hw => ?_⟩
  · rw [List.flatMap_append]
    exact ((h.frame.withCu u.cu).mono fun _ => List.mem_append_left _).trans (k.frame.append _)
  · rw [List.mem_append, not_or] at hw
    exact (k.others w hw.2).trans (h.others w hw.1)

/-- What a unit reads is the same in both states. -/
structure SameUnit (s t : State) (w : Fin 32) : Prop where
  regs : ∀ off, R.CU_CTL w ≤ off ∧ off < R.CU_CTL w + 0x40 → t.rd off = s.rd off
  pos : ∀ n, n < 4 → t.pos n = s.pos n
  ts : t.tsNs = s.tsNs
  hidden : t.cuSt w = s.cuSt w
  ports : t.portsOf w = s.portsOf w

/-- A register outside the 64 bytes of each unit hit keeps its value. -/
theorem CuHits.rd {s u : State} {us : List (Fin 32)} (h : CuHits s u us) {off : Nat}
    (ho : ∀ w ∈ us, off < R.CU_CTL w ∨ R.CU_CTL w + 0x40 ≤ off) : u.rd off = s.rd off := by
  refine h.frame.rd (fieldBits_eq_zero fun f hf heq => ?_)
  obtain ⟨w, hw, hfw⟩ := List.mem_flatMap.mp hf
  have hin := cuHitBits_off w f hfw
  have hout := ho w hw
  omega

theorem CuHits.sameUnit {s u : State} {us : List (Fin 32)} (h : CuHits s u us) {w : Fin 32} (hw : w ∉ us) : SameUnit s u w := by
  have hrest : u.rest = State.rest { s with cu := u.cu } := h.frame.rest
  have hcfg : u.cfg = s.cfg := (congrArg State.cfg hrest :)
  have htime : u.time = s.time := (congrArg State.time hrest :)
  have hbank : u.rd R.CFG_BANK = s.rd R.CFG_BANK := h.rd fun x _ => .inl (by simp only [R.CFG_BANK, R.CU_CTL]; omega)
  refine ⟨fun off ⟨hlo, hhi⟩ => h.rd fun x hx => ?_, fun n hn => rdN_of_rd_eq (h.rd fun x _ => .inl ?_), ?_, h.others w hw, ?_⟩
  · have hne : x.val ≠ w.val := fun he => hw (Fin.ext he ▸ hx)
    simp only [R.CU_CTL] at hlo hhi ⊢
    omega
  · simp only [R.ENC_POS, R.CU_CTL]; omega
  · rw [State.tsNs, State.ns, htime]; rfl
  · simp only [State.portsOf, runEntry_of_eq _ hbank hcfg]

section Same
variable {s t u : State} {w : Fin 32}

theorem SameUnit.fld (h : SameUnit s t w) (f : Fld) (hf : R.CU_CTL w ≤ f.off ∧ f.off < R.CU_CTL w + 0x40) : t.fld f = s.fld f :=
  fld_of_rd_eq f (h.regs _ hf)

theorem SameUnit.bit (h : SameUnit s t w) (f : Fld) (hf : R.CU_CTL w ≤ f.off ∧ f.off < R.CU_CTL w + 0x40) : t.bit f = s.bit f :=
  bit_of_rd_eq f (h.regs _ hf)

/-- The control register and the status register lie in the unit's 64 bytes. -/
theorem cuCtl_near (w : Fin 32) : R.CU_CTL w ≤ R.CU_CTL w ∧ R.CU_CTL w < R.CU_CTL w + 0x40 := by omega

theorem cuStat_near (w : Fin 32) : R.CU_CTL w ≤ R.CU_STAT w ∧ R.CU_STAT w < R.CU_CTL w + 0x40 := by simp only [R.CU_CTL, R.CU_STAT]; omega

theorem SameUnit.cuN (h : SameUnit s t w) : t.cuN w = s.cuN w :=
  cuN_of_rd_eq (h.regs _ (by simp only [R.CU_CTL, R.CU_NEXT_INT]; omega))
    (h.regs _ (by simp only [R.CU_CTL, R.CU_NEXT_FRAC]; omega))

theorem SameUnit.cuS (h : SameUnit s t w) : t.cuS w = s.cuS w :=
  cuS_of_rd_eq (h.regs _ (by simp only [R.CU_CTL, R.CU_SPACING]; omega))
    (h.regs _ (by simp only [R.CU_CTL, R.CU_SPACING_HI]; omega))

theorem SameUnit.cuPos (h : SameUnit s t w) : t.pos (t.fld (F.CU_CTL_CHAN w)) = s.pos (s.fld (F.CU_CTL_CHAN w)) := by
  rw [h.fld (F.CU_CTL_CHAN w) (cuCtl_near w)]
  exact h.pos _ (fld_lt s (F.CU_CTL_CHAN w))

theorem SameUnit.cuLim (h : SameUnit s t w) (pos : Nat) : t.cuLim w pos = s.cuLim w pos := by
  rw [State.cuLim, h.bit (F.CU_CTL_INTERP w) (cuCtl_near w), State.cuLim]

/-- What a hit says of its unit depends on the unit's own state before it. -/
theorem CuTakes.of_sameBefore (h : SameUnit s t w) (k : CuTakes t u w) : CuTakes s u w := by
  simpa only [CuTakes, h.cuPos, h.cuN, h.cuS, h.cuLim, h.ts, h.hidden, h.bit (F.CU_CTL_MODE w) (cuCtl_near w),
    h.bit (F.CU_STAT_SKIP w) (cuStat_near w), h.fld (F.CU_STAT_SKIP_CNT w) (cuStat_near w)] using k

/-- What a hit says of its unit is kept by what leaves the unit alone. -/
theorem CuTakes.of_sameAfter (h : SameUnit t u w) (k : CuTakes s t w) : CuTakes s u w := by
  have hpos : u.rdN (R.CU_HIT_POS w) = t.rdN (R.CU_HIT_POS w) :=
    rdN_of_rd_eq (h.regs _ (by simp only [R.CU_CTL, R.CU_HIT_POS]; omega))
  have hts : u.rdN (R.CU_HIT_TS w) = t.rdN (R.CU_HIT_TS w) :=
    rdN_of_rd_eq (h.regs _ (by simp only [R.CU_CTL, R.CU_HIT_TS]; omega))
  have hfrac : u.fld (F.CU_HIT_FRAC_FRAC w) = t.fld (F.CU_HIT_FRAC_FRAC w) :=
    h.fld _ (by simp only [R.CU_CTL, F.CU_HIT_FRAC_FRAC, R.CU_HIT_FRAC]; omega)
  simpa only [CuTakes, hpos, hts, hfrac, h.cuN, h.hidden, h.bit (F.CU_STAT_SKIP w) (cuStat_near w),
    h.fld (F.CU_STAT_SKIP_CNT w) (cuStat_near w)] using k

end Same

end Sys2Proof.Machine
end

section
/-!
PROOFS. 03_web_position.md: the compare points (R78 to R81). It settles O18.
-/
set_option Elab.async false

namespace Sys2Proof.Machine

/-! ### Hits that wait -/

/-- The hit that INTERPOLATED_HIT or DEFERRED_HIT takes of one unit. -/
def cuWaiting (defer : Bool) : State → Nat → Bool × State := if defer then State.cuDeferred else State.cuExpire

/-- Unit `w` is enabled, drives no print port and has a hit waiting, of the kind that `defer` says. -/
def CuReady (defer : Bool) (s : State) (w : Fin 32) : Prop :=
  s.bit (F.CU_CTL_EN w) = true ∧ s.portsOf w = [] ∧
    if defer then (s.cuSt w).deferred = true ∧ s.bit (F.CU_CTL_MODE w) = false else (s.cuSt w).delayed = true

theorem CuReady.of_same {defer : Bool} {s t : State} {w : Fin 32} (h : SameUnit s t w) (k : CuReady defer s w) : CuReady defer t w := by
  simpa only [CuReady, h.bit (F.CU_CTL_EN w) (cuCtl_near w), h.ports, h.hidden, h.bit (F.CU_CTL_MODE w) (cuCtl_near w)] using k

/-- A hit drops both waits of its unit, so it does not matter that one was dropped before. -/
theorem cuAdvance_undeferred (s : State) (w : Fin 32) (pos : Nat) :
    (s.modCu w (fun c => { c with deferred := false })).cuAdvance w pos = s.cuAdvance w pos := by
  have hcapture : (s.modCu w (fun c => { c with deferred := false })).cuCapture w pos =
      (s.cuCapture w pos).modCu w (fun c => { c with deferred := false }) := rfl
  rw [State.cuAdvance, hcapture, modCu_modCu]
  rfl

theorem cuWaiting_ready {defer : Bool} {s : State} {w : Fin 32} (h : CuReady defer s w) : cuWaiting defer s w = (true, s.cuTaken w) := by
  obtain ⟨hen, hports, hwait⟩ := h
  cases defer with
  | false =>
    have hdelayed : (s.cuSt w).delayed = true := hwait
    have hstep : cuWaiting false s w = (true, s.cuHit w (s.cuPos w) (s.cuLim w (s.cuPos w)) false) := by
      simp only [cuWaiting, Bool.false_eq_true, if_false, State.cuExpire, hdelayed, hen, Bool.and_true, if_true]
      rfl
    rw [hstep, cuHit_eq hports]
    rfl
  | true =>
    obtain ⟨hdeferred, hmode⟩ := hwait
    set t := s.modCu w (fun c => { c with deferred := false }) with ht
    have hstep : cuWaiting true s w = (true, t.cuHit w (s.cuPos w) (t.cuLim w (s.cuPos w)) false) := by
      simp only [cuWaiting, if_true, State.cuDeferred, hdeferred, hen, hmode, Bool.and_true, Bool.false_and, if_true]
      rfl
    have hports' : t.portsOf w = [] := hports
    rw [hstep, cuHit_eq hports', ht, cuAdvance_undeferred]
    rfl

/-- The units with a waiting hit take it one after the other, each as if it were alone. -/
theorem foldl_cuWaiting {defer : Bool} {us : List (Fin 32)} (hnd : us.Nodup) {s : State} (hready : ∀ w ∈ us, CuReady defer s w) (l : List Nat) :
    ∃ u, (us.map (·.val)).foldl (fun acc w => let e := cuWaiting defer acc.2 w; (if e.1 then acc.1 ++ [w] else acc.1, e.2)) (l, s) =
        (l ++ us.map (·.val), u) ∧ CuHits s u us ∧ ∀ w ∈ us, CuTakes s u w := by
  induction us generalizing s l with
  | nil => exact ⟨s, by simp, .nil s, by simp⟩
  | cons w us ih =>
    obtain ⟨hw, hnd⟩ := List.nodup_cons.mp hnd
    have hone := cuHits_cuTaken s w
    have hsame : ∀ x ∈ us, SameUnit s (s.cuTaken w) x := fun x hx => hone.sameUnit (by rw [List.mem_singleton]; rintro rfl; exact hw hx)
    obtain ⟨u, hfold, hrest, htakes⟩ := ih hnd (fun x hx => (hready x (List.mem_cons_of_mem _ hx)).of_same (hsame x hx)) (l ++ [w.val])
    refine ⟨u, ?_, hone.trans hrest, fun x hx => ?_⟩
    · rw [List.map_cons, List.foldl_cons]
      simp only [cuWaiting_ready (hready w List.mem_cons_self), if_true]
      rw [hfold, List.append_assoc]
      rfl
    · rcases List.mem_cons.mp hx with rfl | hin
      · exact (cuTakes_cuTaken s x).of_sameAfter (hrest.sameUnit hw)
      · exact (htakes x hin).of_sameBefore (hsame x hin)

theorem cuTogether_ready {defer : Bool} {us : List (Fin 32)} (hnd : us.Nodup) {s : State} (hready : ∀ w ∈ us, CuReady defer s w) :
    ∃ u, s.cuTogether (cuWaiting defer) (us.map (·.val)) = u.raise (us.map (·.val)) ∧ CuHits s u us ∧ ∀ w ∈ us, CuTakes s u w := by
  obtain ⟨u, hfold, hhits, htakes⟩ := foldl_cuWaiting hnd hready []
  exact ⟨u, by rw [State.cuTogether, hfold]; rfl, hhits, htakes⟩

theorem exec_waitingHits (defer : Bool) (us : List (Fin 32)) (s : State) :
    exec (if defer then .deferredHit us else .interpolatedHit us) s = done s (s.cuTogether (cuWaiting defer) (us.map (·.val))) := by
  cases defer <;> rfl

/-! ### No hit waits -/

theorem cuTogether_idle {s : State} {f : State → Nat → Bool × State} {us : List Nat} (h : ∀ w ∈ us, f s w = (false, s)) :
    s.cuTogether f us = s.raise [] := by
  have hfold : us.foldl (fun acc w => let e := f acc.2 w; (if e.1 then acc.1 ++ [w] else acc.1, e.2)) ([], s) = ([], s) :=
    foldl_unmoved fun w hw => by simp [h w hw]
  rw [State.cuTogether, hfold]

theorem cuWaiting_idle {defer : Bool} {us : List (Fin 32)} {s : State}
    (h : ∀ w ∈ us, (if defer then (s.cuSt w).deferred else (s.cuSt w).delayed) = false) : ∀ w ∈ us.map (·.val), cuWaiting defer s w = (false, s) := by
  intro w hw
  obtain ⟨x, hx, rfl⟩ := List.mem_map.mp hw
  have hx := h x hx
  cases defer with
  | false =>
    have hdelayed : (s.cuSt x).delayed = false := hx
    simp [cuWaiting, State.cuExpire, hdelayed]
  | true =>
    have hdeferred : (s.cuSt x).deferred = false := hx
    simp [cuWaiting, State.cuDeferred, hdeferred]

/-! ### Writes of the spacing (R78, R79) -/

/-- The high half that a write of the low word completes. -/
def State.cuHigh (s : State) (w : Fin 32) : Nat := (s.cuSt w).hiHold.getD (s.fld (F.CU_SPACING_HI_S_HI w))

/-- Both halves of the spacing are written. -/
def State.putSpacing (s : State) (w : Fin 32) (hi v : Nat) : State := (s.putN (R.CU_SPACING w) v).setFld (F.CU_SPACING_HI_S_HI w) hi

theorem cuSpacingHi_fits (u : Nat) : (F.CU_SPACING_HI_S_HI u).lo + (F.CU_SPACING_HI_S_HI u).w ≤ 32 := (by decide : 0 + 15 ≤ 32)

theorem cuSpacing_taken {s : State} {w : Fin 32} {v : Nat} (hjob : s.bit (F.CU_CTL_JOB w) = false) (h : 65536 ≤ s.cuHigh w * 2 ^ 32 + v) :
    s.cuSpacing w v = ((s.putSpacing w (s.cuHigh w) v).modCu w (fun c => { c with hiHold := none })).status 0 := by
  have hlarge : ¬(s.cuHigh w = 0 ∧ v < 65536) := by omega
  have hcond : (s.bit (F.CU_CTL_JOB w) || (decide (s.cuHigh w = 0) && decide (v < 65536))) = false := by
    rw [hjob, Bool.false_or, ← Bool.decide_and, decide_eq_false hlarge]
  exact if_neg (by rw [← Bool.not_eq_true] at hcond; exact hcond)

theorem cuSpacing_refused {s : State} {w : Fin 32} {v : Nat} (h : s.bit (F.CU_CTL_JOB w) = true ∨ s.cuHigh w * 2 ^ 32 + v < 65536) :
    s.cuSpacing w v = s.status 0x40 := by
  have hcond : (s.bit (F.CU_CTL_JOB w) || (decide (s.cuHigh w = 0) && decide (v < 65536))) = true := by
    rcases h with hjob | hsmall
    · rw [hjob, Bool.true_or]
    · rw [← Bool.decide_and, decide_eq_true (by omega : s.cuHigh w = 0 ∧ v < 65536), Bool.or_true]
  exact if_pos hcond

/-- A field of 32 bits is its register. -/
theorem fld_word (s : State) (off : Nat) : s.fld ⟨off, 0, 32⟩ = s.rdN off := by
  rw [State.fld, fieldN, pow_zero, Nat.div_one, Nat.mod_eq_of_lt (rdN_lt s off)]

theorem cuS_putSpacing (s : State) (w : Fin 32) (hi : Nat) (val : Word) : (s.putSpacing w hi val.toNat).cuS w = hi % 2 ^ 15 * 2 ^ 32 + val.toNat := by
  have hne : R.CU_SPACING w ≠ R.CU_SPACING_HI w := by simp only [R.CU_SPACING, R.CU_SPACING_HI]; omega
  have hhigh : (s.putSpacing w hi val.toNat).fld (F.CU_SPACING_HI_S_HI w) = hi % 2 ^ 15 := fld_setFld_self _ _ _ (cuSpacingHi_fits w)
  have hlow : (s.putSpacing w hi val.toNat).fld (F.CU_SPACING_S w) = val.toNat := by
    rw [F.CU_SPACING_S, fld_word, State.putSpacing, rdN_of_rd_eq (rd_setFld_ne _ (F.CU_SPACING_HI_S_HI w) _ hne), putN_eq, rdN_put_self,
      Nat.mod_eq_of_lt val.isLt]
  rw [State.cuS, hhigh, hlow]

theorem putSpacing_frame (s : State) (w : Fin 32) (hi v : Nat) : Frame s (s.putSpacing w hi v) [whole (R.CU_SPACING w), F.CU_SPACING_HI_S_HI w] :=
  ((Frame.refl s _).putN _ (by simp)).setFld (f := F.CU_SPACING_HI_S_HI w) _ (by simp) (cuSpacingHi_fits w)

theorem cuS_held (s : State) (w : Fin 32) (f : CuS → CuS) (st : Nat) : ((s.modCu w f).status st).cuS w = s.cuS w := cuS_of_rd_eq rfl rfl

theorem cuSt_held (s : State) (w : Fin 32) (f : CuS → CuS) (st : Nat) : ((s.modCu w f).status st).cuSt w = f (s.cuSt w) := cuSt_modCu_self s w f

/-- Registers and what the unit holds change, and the write is answered. -/
theorem frame_held {s t : State} {fs : List Fld} (h : Frame s t fs) (w : Fin 32) (f : CuS → CuS) :
    Frame { s with cu := vput s.cu w (((t.modCu w f).status 0).cuSt w), lastStatus := 0 } ((t.modCu w f).status 0) fs := by
  have hcu : Frame { s with cu := vput t.cu w ((t.modCu w f).cuSt w) } (t.modCu w f) fs := by
    have hboth := h.withCu (vput t.cu w ((t.modCu w f).cuSt w))
    rwa [with_cuSt_modCu] at hboth
  rw [h.cu_eq] at hcu
  exact hcu.withStatus 0

/-- Settles O18: a unit's registers lie in its own 64 bytes and a hit leaves the rest, so each waiting hit of a cycle sees its unit as it was. -/
theorem comparePointsAdvanceBySpacings : Obligations.ComparePointsAdvanceBySpacings := by
  unfold Obligations.ComparePointsAdvanceBySpacings
  refine ⟨fun us defer s hnd hready => ?_, fun us s h => ?_, fun us s h => ?_, fun w val s hjob => ?_, fun w val s hjob => ?_,
    fun w val s h => ?_, fun w val s hjob => ?_⟩
  · obtain ⟨u, htogether, hhits, htakes⟩ := cuTogether_ready hnd hready
    exact completes_of_done ((exec_waitingHits defer us s).trans (congrArg (done s) htogether)) ⟨u, rfl, htakes, hhits.frame, hhits.others⟩
  · exact completes_of_done ((exec_waitingHits false us s).trans (congrArg (done s) (cuTogether_idle (cuWaiting_idle (defer := false) h)))) rfl
  · exact completes_of_done ((exec_waitingHits true us s).trans (congrArg (done s) (cuTogether_idle (cuWaiting_idle (defer := true) h)))) rfl
  · exact completes_of_done (congrArg (done s) (if_neg (by simp [hjob])))
      ⟨congrArg CuS.hiHold (cuSt_held s w _ 0), frame_held (Frame.refl s []) w _⟩
  · intro hi hlarge
    exact completes_of_done (congrArg (done s) (cuSpacing_taken hjob hlarge))
      ⟨(cuS_held _ w _ 0).trans (cuS_putSpacing s w _ val), congrArg CuS.hiHold (cuSt_held _ w _ 0), frame_held (putSpacing_frame s w _ _) w _⟩
  · exact completes_of_done (congrArg (done s) (cuSpacing_refused h)) rfl
  · exact completes_of_done (congrArg (done s) (if_pos hjob)) rfl

end Sys2Proof.Machine
end

section
/-!
PROOFS. Pulse pins and the busy time of their consumers (R92, R98), with the second trigger packet of a camera's uplink (R115).
-/
set_option Elab.async false

namespace Sys2Proof.Machine

/-- The pin of consumer `c` is inactive and driven so. -/
def State.pulsePinInactive (s : State) (c : Fin 64) : State :=
  ({ s with evt := { s.evt with pin := s.evt.pin.set c false } }).emit (.pulse c false)

section PulsePin
variable {c : Fin 64} {s : State}

theorem exec_pulsePinEnd_active (h : s.evt.pin[c] = true) :
    exec (.pulsePinEnd c) s = done s (if c.val < 12 ∧ s.bit (F.CAM_LINK_TRIG_BOTH c) = true
      then (s.pulsePinInactive c).camTrigger c false else s.pulsePinInactive c) := by
  change execPulsePinEnd c s = _
  simp only [execPulsePinEnd, vget_fin, vput_fin, h, if_true, Bool.and_eq_true, decide_eq_true_eq]
  rfl

theorem exec_pulsePinEnd_inactive (h : s.evt.pin[c] = false) : exec (.pulsePinEnd c) s = done s s := by
  change execPulsePinEnd c s = _
  simp [execPulsePinEnd, h]

theorem exec_consumerBusyEnd_busy (hbusy : s.evt.busy[c] = true) (hpin : s.evt.pin[c] = false) :
    exec (.consumerBusyEnd c) s = done s { s with evt := { s.evt with busy := s.evt.busy.set c false } } := by
  change execConsumerBusyEnd c s = _
  simp [execConsumerBusyEnd, hbusy, hpin]

theorem exec_consumerBusyEnd_unmoved (h : s.evt.busy[c] = false ∨ s.evt.pin[c] = true) : exec (.consumerBusyEnd c) s = done s s := by
  change execConsumerBusyEnd c s = _
  rcases h with hfree | hactive
  · simp [execConsumerBusyEnd, hfree]
  · simp [execConsumerBusyEnd, hactive]

end PulsePin

/-- Settles O21, by whether the pin is active, and whether the consumer is busy with its pin inactive. -/
theorem pulsePinsEndAndConsumersFree : Obligations.PulsePinsEndAndConsumersFree := by
  unfold Obligations.PulsePinsEndAndConsumersFree
  refine ⟨fun c s h => ?_, fun c s h => ?_, fun c s hbusy hpin => ?_, fun c s h => ?_⟩
  · exact completes_of_done (exec_pulsePinEnd_active h) rfl
  · exact completes_of_done (exec_pulsePinEnd_inactive h) rfl
  · exact completes_of_done (exec_consumerBusyEnd_busy hbusy hpin) rfl
  · exact completes_of_done (exec_consumerBusyEnd_unmoved h) rfl

end Sys2Proof.Machine
end

section
/-!
PROOFS. The network counter (R284), the wraps and whole seconds it meets (R97, R286), and the commands that let its edges pass.
-/
set_option Elab.async false

namespace Sys2Proof.Machine

/-! ### Registers that edges leave -/

theorem rd_seedEdge (s : State) {off : Nat} (h : off ≠ R.TIME_STAT) : s.seedEdge.rd off = s.rd off := by
  unfold State.seedEdge
  split
  · rfl
  · dsimp only
    rw [flag_eq, rd_setFld_ne _ _ _ h]
    split
    · exact rd_setFld_ne _ _ _ h
    · rfl

theorem evt5_seedEdge (s : State) : s.seedEdge.time.evt5 = s.time.evt5 := by
  unfold State.seedEdge
  split
  · rfl
  · dsimp only
    split <;> rfl

theorem adjTicks_ne_timeStat : R.TIME_ADJ_TICKS ≠ R.TIME_STAT := by decide

theorem rd_tsEdges (s : State) (k : Nat) {off : Nat} (ht : off ≠ R.TIME_ADJ_TICKS) (hs : off ≠ R.TIME_STAT) :
    (s.tsEdges k).rd off = s.rd off := (rd_setFld_ne _ _ _ hs).trans (rd_put_ne _ _ ht)

/-- The adjustment's edges count down. -/
theorem adjTicks_tsEdges (s : State) (k : Nat) : (s.tsEdges k).rdN R.TIME_ADJ_TICKS = s.rdN R.TIME_ADJ_TICKS - k := by
  have hlt := rdN_lt s R.TIME_ADJ_TICKS
  refine (rdN_of_rd_eq (rd_setFld_ne _ F.TIME_STAT_ADJ_BUSY _ adjTicks_ne_timeStat)).trans ((rdN_put_self _ _ _).trans ?_)
  rw [Nat.mod_eq_of_lt (by omega)]
  omega

theorem adjBusy_tsEdges (s : State) (k : Nat) : (s.tsEdges k).bit F.TIME_STAT_ADJ_BUSY = decide (k < s.rdN R.TIME_ADJ_TICKS) := by
  refine (bit_setFld_self _ F.TIME_STAT_ADJ_BUSY _ (by decide) rfl).trans ?_
  by_cases h : k < s.rdN R.TIME_ADJ_TICKS
  · have hne : s.rdN R.TIME_ADJ_TICKS - min k (s.rdN R.TIME_ADJ_TICKS) ≠ 0 := by omega
    simp [h, hne, b2n]
  · have hz : s.rdN R.TIME_ADJ_TICKS - min k (s.rdN R.TIME_ADJ_TICKS) = 0 := by omega
    simp [h, hz, b2n]

/-! ### What edges add (R284) -/

/-- What `k` edges add to the counter, in 2^-32 ns: the adjustment counts on the first ones. -/
def State.tsAdvance (s : State) (k : Nat) : Nat :=
  min k (s.rdN R.TIME_ADJ_TICKS) * s.tsIncAdj + (k - min k (s.rdN R.TIME_ADJ_TICKS)) * s.tsInc

theorem ts_tsEdges (s : State) (k : Nat) : (s.tsEdges k).time.ts = (s.time.ts + s.tsAdvance k) % 2 ^ 96 := by
  rw [State.tsAdvance, ← Nat.add_assoc]
  rfl

theorem tsAdvance_of_le (s : State) {k : Nat} (h : k ≤ s.rdN R.TIME_ADJ_TICKS) : s.tsAdvance k = k * s.tsIncAdj := by
  simp [State.tsAdvance, min_eq_left h]

theorem tsAdvance_of_ge (s : State) {k : Nat} (h : s.rdN R.TIME_ADJ_TICKS ≤ k) :
    s.tsAdvance k = s.rdN R.TIME_ADJ_TICKS * s.tsIncAdj + (k - s.rdN R.TIME_ADJ_TICKS) * s.tsInc := by
  simp [State.tsAdvance, min_eq_right h]

theorem toSigned_word_bounds (x : Nat) : -2 ^ 31 ≤ toSigned 32 x ∧ toSigned 32 x < 2 ^ 31 := by
  unfold toSigned
  dsimp only
  split <;> omega

theorem sfld_rate_bounds (s : State) : -2 ^ 31 ≤ s.sfld F.TIME_RATE_VALUE ∧ s.sfld F.TIME_RATE_VALUE < 2 ^ 31 := toSigned_word_bounds _

theorem sfld_adjRate_bounds (s : State) : -2 ^ 31 ≤ s.sfld F.TIME_ADJ_RATE_VALUE ∧ s.sfld F.TIME_ADJ_RATE_VALUE < 2 ^ 31 :=
  toSigned_word_bounds _

/-- No rate stops the counter or makes an edge add 5 ns. -/
theorem tsInc_bounds (s : State) : 0 < s.tsInc ∧ s.tsInc < 5 * 2 ^ 32 := by
  have hr := sfld_rate_bounds s
  unfold State.tsInc
  omega

theorem tsIncAdj_bounds (s : State) : 0 < s.tsIncAdj ∧ s.tsIncAdj < 5 * 2 ^ 32 := by
  have hr := sfld_rate_bounds s
  have ha := sfld_adjRate_bounds s
  unfold State.tsIncAdj
  omega

theorem tsAdvance_succ_lt (s : State) (k : Nat) : s.tsAdvance (k + 1) < s.tsAdvance k + 5 * 2 ^ 32 := by
  have hi := (tsInc_bounds s).2
  have ha := (tsIncAdj_bounds s).2
  by_cases h : k < s.rdN R.TIME_ADJ_TICKS
  · rw [tsAdvance_of_le s h, tsAdvance_of_le s (by omega), Nat.succ_mul]
    omega
  · rw [tsAdvance_of_ge s (by omega), tsAdvance_of_ge s (by omega : s.rdN R.TIME_ADJ_TICKS ≤ k), Nat.sub_add_comm (by omega), Nat.succ_mul]
    omega

/-! ### Edges until the counter has advanced -/

theorem ceilDiv_le_iff {a b c : Nat} (hb : 0 < b) : Machine.ceilDiv a b ≤ c ↔ a ≤ c * b := by
  rw [Machine.ceilDiv, ← Nat.lt_succ_iff, Nat.div_lt_iff_lt_mul hb, Nat.succ_mul]
  omega

/-- The edges counted for an advance are the fewest that make it. -/
theorem edgesFor_le_iff (s : State) (d k : Nat) : s.edgesFor d ≤ k ↔ d ≤ s.tsAdvance k := by
  have hi := tsInc_bounds s
  have ha := tsIncAdj_bounds s
  have hfirst (c : Nat) := ceilDiv_le_iff (a := d) (c := c) ha.1
  have hrest (c : Nat) := ceilDiv_le_iff (a := d - s.rdN R.TIME_ADJ_TICKS * s.tsIncAdj) (c := c) hi.1
  simp only [State.edgesFor, max_eq_right (show 1 ≤ s.tsIncAdj from ha.1), max_eq_right (show 1 ≤ s.tsInc from hi.1)]
  have hall := hfirst (s.rdN R.TIME_ADJ_TICKS)
  have hnone := hrest 0
  rw [Nat.zero_mul] at hnone
  by_cases hk : k ≤ s.rdN R.TIME_ADJ_TICKS
  · rw [tsAdvance_of_le s hk, ← hfirst k]
    split <;> omega
  · have hlast := hrest (k - s.rdN R.TIME_ADJ_TICKS)
    rw [tsAdvance_of_ge s (by omega)]
    split <;> omega

theorem le_tsAdvance_edgesFor (s : State) (d : Nat) : d ≤ s.tsAdvance (s.edgesFor d) := (edgesFor_le_iff s d _).mp le_rfl

theorem tsAdvance_lt_of_lt_edgesFor {s : State} {d k : Nat} (h : k < s.edgesFor d) : s.tsAdvance k < d := by
  by_contra hge
  exact absurd ((edgesFor_le_iff s d k).mpr (by omega)) (by omega)

theorem tsAdvance_edgesFor_lt (s : State) (d : Nat) : s.tsAdvance (s.edgesFor d) < d + 5 * 2 ^ 32 := by
  cases hk : s.edgesFor d with
  | zero => simp [State.tsAdvance]
  | succ k =>
    have hstep := tsAdvance_succ_lt s k
    have hbefore := tsAdvance_lt_of_lt_edgesFor (s := s) (d := d) (k := k) (by omega)
    omega

/-! ### The count after edges -/

/-- The count of ns after `k` edges, before it wraps. -/
def State.nsAfter (s : State) (k : Nat) : Nat := (s.time.ts % 2 ^ 96 + s.tsAdvance k) / 2 ^ 32

/-- The next multiple of `u` ns; 2^64, where the count wraps, stands for those past it. -/
def State.nextMultiple (s : State) (u : Nat) : Nat := min ((s.ns / u + 1) * u) (2 ^ 64)

theorem ns_tsEdges (s : State) (k : Nat) : (s.tsEdges k).ns = s.nsAfter k % 2 ^ 64 := by
  rw [State.ns, ts_tsEdges, State.nsAfter]
  omega

theorem ns_lt (s : State) : s.ns < 2 ^ 64 := Nat.mod_lt _ (by decide)

theorem ns_le_nsAfter (s : State) (k : Nat) : s.ns ≤ s.nsAfter k := by
  unfold State.ns State.nsAfter
  omega

theorem ns_lt_nextMultiple (s : State) {u : Nat} (hu : 0 < u) : s.ns < s.nextMultiple u :=
  lt_min (Nat.lt_mul_of_div_lt (Nat.lt_succ_self _) hu) (ns_lt s)

theorem nsAfter_lt_of_lt_edgesTo {s : State} {u k : Nat} (h : k < s.edgesTo u) : s.nsAfter k < s.nextMultiple u := by
  have hless := tsAdvance_lt_of_lt_edgesFor h
  change _ < s.nextMultiple u * 2 ^ 32 - _ at hless
  unfold State.nsAfter
  omega

theorem nsAfter_edgesTo (s : State) {u : Nat} (hu : 0 < u) :
    s.nextMultiple u ≤ s.nsAfter (s.edgesTo u) ∧ s.nsAfter (s.edgesTo u) < s.nextMultiple u + 5 := by
  have hle : _ ≤ s.tsAdvance (s.edgesTo u) := le_tsAdvance_edgesFor s (s.nextMultiple u * 2 ^ 32 - s.time.ts % 2 ^ 96)
  have hlt : s.tsAdvance (s.edgesTo u) < _ := tsAdvance_edgesFor_lt s (s.nextMultiple u * 2 ^ 32 - s.time.ts % 2 ^ 96)
  have hns := ns_lt_nextMultiple s hu
  unfold State.ns at hns
  unfold State.nsAfter
  omega

/-! ### Multiples that edges meet, and that they do not -/

/-- The first edge at or past the next multiple of 2^32 ns stands within 5 ns of it. -/
theorem word_at_edgesTo (s : State) : (s.tsEdges (s.edgesTo (2 ^ 32))).ns / 2 ^ 32 = (s.ns / 2 ^ 32 + 1) % 2 ^ 32 ∧
    (s.tsEdges (s.edgesTo (2 ^ 32))).tsNs ≤ 5 := by
  have hbound := ns_lt s
  have hat := nsAfter_edgesTo s (u := 2 ^ 32) (by decide)
  unfold State.nextMultiple at hat
  rw [State.tsNs, ns_tsEdges]
  omega

/-- The first edge at or past the next whole second stands within 5 ns of it; past 2^64 ns that is 0. -/
theorem second_at_edgesTo (s : State) : (s.tsEdges (s.edgesTo (10 ^ 9))).ns / 10 ^ 9 =
      (if (s.ns / 10 ^ 9 + 1) * 10 ^ 9 < 2 ^ 64 then s.ns / 10 ^ 9 + 1 else 0) ∧ (s.tsEdges (s.edgesTo (10 ^ 9))).ns % 10 ^ 9 ≤ 5 := by
  obtain ⟨hge, hlt⟩ := nsAfter_edgesTo s (u := 10 ^ 9) (by decide)
  rw [ns_tsEdges]
  split
  · next h =>
    rw [State.nextMultiple, min_eq_left h.le] at hge hlt
    rw [Nat.mod_eq_of_lt (by omega)]
    omega
  · next h =>
    rw [State.nextMultiple, min_eq_right (not_lt.mp h)] at hge hlt
    rw [Nat.mod_eq_sub_mod hge, Nat.mod_eq_of_lt (by omega)]
    omega

/-- Edges that stay short of the next multiple of `u` ns leave the count of multiples. -/
theorem quotient_before {s : State} {u k : Nat} (h : k < s.edgesTo u) : (s.tsEdges k).ns / u = s.ns / u := by
  have hfrom := ns_le_nsAfter s k
  have hbefore := lt_min_iff.mp (nsAfter_lt_of_lt_edgesTo h)
  rw [ns_tsEdges, Nat.mod_eq_of_lt hbefore.2]
  exact le_antisymm (Nat.lt_succ_iff.mp (Nat.div_lt_of_lt_mul (by simpa [Nat.mul_comm] using hbefore.1))) (Nat.div_le_div_right hfrom)

/-- A whole second that comes before the next multiple of 2^32 ns is not the one past 2^64. -/
theorem second_at_edgesTo_of_lt {s : State} (h : s.edgesTo (10 ^ 9) < s.edgesTo (2 ^ 32)) :
    (s.tsEdges (s.edgesTo (10 ^ 9))).ns / 10 ^ 9 = s.ns / 10 ^ 9 + 1 := by
  have hat := (nsAfter_edgesTo s (u := 10 ^ 9) (by decide)).1
  have hbefore := (lt_min_iff.mp (nsAfter_lt_of_lt_edgesTo h)).2
  have hcomes : (s.ns / 10 ^ 9 + 1) * 10 ^ 9 < 2 ^ 64 := (min_lt_iff.mp (hat.trans_lt hbefore)).resolve_right (lt_irrefl _)
  rw [(second_at_edgesTo s).1, if_pos hcomes]

theorem word_changes (s : State) : s.ns / 2 ^ 32 ≠ (s.tsEdges (s.edgesTo (2 ^ 32))).ns / 2 ^ 32 := by
  have hbound := ns_lt s
  rw [(word_at_edgesTo s).1]
  omega

theorem second_changes (s : State) : s.ns / 10 ^ 9 ≠ (s.tsEdges (s.edgesTo (10 ^ 9))).ns / 10 ^ 9 := by
  rw [(second_at_edgesTo s).1]
  split <;> omega

/-! ### What the edge at a multiple does (R97, R286) -/

theorem edgeEffects_wrap {s : State} {ns : Nat} (hw : ns / 2 ^ 32 ≠ s.ns / 2 ^ 32) (hp : ns / 10 ^ 9 = s.ns / 10 ^ 9) :
    s.edgeEffects ns = s.wrapRec.raise [84] := by
  simp only [State.edgeEffects, show (1000000000 : Nat) = 10 ^ 9 from rfl, hw, hp, decide_true, decide_false, ne_eq, not_true, not_false_iff]
  rfl

theorem edgeEffects_pps {s : State} {ns : Nat} (hw : ns / 2 ^ 32 = s.ns / 2 ^ 32) (hp : ns / 10 ^ 9 ≠ s.ns / 10 ^ 9) :
    s.edgeEffects ns = s.ppsLoad.raise [85] := by
  simp only [State.edgeEffects, show (1000000000 : Nat) = 10 ^ 9 from rfl, hw, hp, decide_true, decide_false, ne_eq, not_true, not_false_iff]
  rfl

theorem edgeEffects_both {s : State} {ns : Nat} (hw : ns / 2 ^ 32 ≠ s.ns / 2 ^ 32) (hp : ns / 10 ^ 9 ≠ s.ns / 10 ^ 9) :
    s.edgeEffects ns = s.wrapRec.ppsLoad.raise [84, 85] := by
  simp only [State.edgeEffects, show (1000000000 : Nat) = 10 ^ 9 from rfl, hw, hp, decide_true, ne_eq, not_false_iff]
  rfl

/-! ### A run of edges -/

/-- Edges that meet no multiple only count. -/
theorem runEdges_before (f : Nat) {k : Nat} {s : State} (hw : k < s.edgesTo (2 ^ 32)) (hp : k < s.edgesTo (10 ^ 9)) :
    runEdges (f + 1) k s = s.tsEdges k := if_pos (lt_min hw hp)

/-- Edges up to the first multiple count, and the last one acts. -/
theorem runEdges_first (f : Nat) {k : Nat} {s : State} (h : k = min (s.edgesTo (2 ^ 32)) (s.edgesTo (10 ^ 9))) :
    runEdges (f + 1) k s = (s.tsEdges k).edgeEffects s.ns := by
  subst h
  exact (if_neg (lt_irrefl _)).trans (if_pos rfl)

theorem runEdges_to_wrap {s : State} (h : s.edgesTo (2 ^ 32) < s.edgesTo (10 ^ 9)) :
    runEdges 64 (s.edgesTo (2 ^ 32)) s = (s.tsEdges (s.edgesTo (2 ^ 32))).wrapRec.raise [84] :=
  (runEdges_first 63 (min_eq_left h.le).symm).trans (edgeEffects_wrap (word_changes s) (quotient_before h).symm)

theorem runEdges_to_pps {s : State} (h : s.edgesTo (10 ^ 9) < s.edgesTo (2 ^ 32)) :
    runEdges 64 (s.edgesTo (10 ^ 9)) s = (s.tsEdges (s.edgesTo (10 ^ 9))).ppsLoad.raise [85] :=
  (runEdges_first 63 (min_eq_right h.le).symm).trans (edgeEffects_pps (quotient_before h).symm (second_changes s))

theorem runEdges_to_both {s : State} (h : s.edgesTo (10 ^ 9) = s.edgesTo (2 ^ 32)) :
    runEdges 64 (s.edgesTo (10 ^ 9)) s = (s.tsEdges (s.edgesTo (10 ^ 9))).wrapRec.ppsLoad.raise [84, 85] := by
  have hword := word_changes s
  rw [← h] at hword
  exact (runEdges_first 63 (min_eq_right h.le).symm).trans (edgeEffects_both hword (second_changes s))

/-! ### What the commands hand over -/

theorem exec_tsWrap {s : State} (h : s.bit F.TIME_STAT_PLL_LOCK = true) :
    exec .tsWrap s = done s (runEdges 64 (s.seedEdge.edgesTo (2 ^ 32)) s.seedEdge) := if_pos h

theorem exec_tsPps {s : State} (h : s.bit F.TIME_STAT_PLL_LOCK = true) :
    exec .tsPps s = done s (runEdges 64 (s.seedEdge.edgesTo (10 ^ 9)) s.seedEdge) := if_pos h

theorem exec_timeAdjEnd {s : State} (h : s.bit F.TIME_STAT_PLL_LOCK = true) :
    exec .timeAdjEnd s = done s (runEdges 64 (s.rdN R.TIME_ADJ_TICKS) s.seedEdge) := if_pos h

/-- Without lock the counter stands still. -/
theorem completes_unlocked {s : State} (h : s.bit F.TIME_STAT_PLL_LOCK = false) :
    Completes .tsWrap s (fun v => v = s) ∧ Completes .tsPps s (fun v => v = s) ∧ Completes .timeAdjEnd s (fun v => v = s) := by
  have hlock : ¬ s.bit F.TIME_STAT_PLL_LOCK = true := by simp [h]
  exact ⟨completes_of_done (if_neg hlock) rfl, completes_of_done (if_neg hlock) rfl, completes_of_done (if_neg hlock) rfl⟩

/-! ### The calendar at a whole second (R301) -/

theorem bit_rtcSync_tsEdges_seedEdge (s : State) (k : Nat) : (s.seedEdge.tsEdges k).bit F.RTC_CTL_SYNC = s.bit F.RTC_CTL_SYNC :=
  bit_of_rd_eq F.RTC_CTL_SYNC ((rd_tsEdges _ _ (by decide) (by decide)).trans (rd_seedEdge s (by decide)))

/-- A whole second loads the calendar where SYNC is pending. -/
theorem ppsLoad_tsEdges_seedEdge (s : State) (k : Nat) : (s.seedEdge.tsEdges k).ppsLoad = if s.bit F.RTC_CTL_SYNC = false then s.seedEdge.tsEdges k
    else (((s.seedEdge.tsEdges k).rtcLoad ((s.seedEdge.tsEdges k).ns / 10 ^ 9 * 32768)).setFld F.RTC_CTL_SYNC 0).setFld F.RTC_CTL_SET 0 := by
  rw [State.ppsLoad, bit_rtcSync_tsEdges_seedEdge]
  cases s.bit F.RTC_CTL_SYNC <;> rfl

/-! ### The end of an adjustment (R284) -/

theorem adjTicks_seedEdge (s : State) : s.seedEdge.rdN R.TIME_ADJ_TICKS = s.rdN R.TIME_ADJ_TICKS := rdN_of_rd_eq (rd_seedEdge s adjTicks_ne_timeStat)

theorem sfld_of_rd_eq {s t : State} (f : Fld) (h : t.rd f.off = s.rd f.off) : t.sfld f = s.sfld f := by
  rw [State.sfld, fld_of_rd_eq f h, State.sfld]

theorem tsIncAdj_seedEdge (s : State) : s.seedEdge.tsIncAdj = (4 * 2 ^ 32 + s.sfld F.TIME_RATE_VALUE + s.sfld F.TIME_ADJ_RATE_VALUE).toNat := by
  rw [State.tsIncAdj, sfld_of_rd_eq (s := s) F.TIME_RATE_VALUE (rd_seedEdge s (by decide)),
    sfld_of_rd_eq (s := s) F.TIME_ADJ_RATE_VALUE (rd_seedEdge s (by decide))]

theorem tsEdges_frame (s : State) (k : Nat) :
    Frame { s with time := (s.tsEdges k).time } (s.tsEdges k) [whole R.TIME_ADJ_TICKS, F.TIME_STAT_ADJ_BUSY] :=
  ((Frame.refl _ _).putN _ (by simp)).setBit _ (by simp) (by decide)

/-- As many edges as the adjustment has left add its share and end it. -/
theorem tsEdges_adjustment_over (s : State) :
    let k := s.rdN R.TIME_ADJ_TICKS
    let v := s.seedEdge.tsEdges k
    v.time.ts = (s.seedEdge.time.ts + k * (4 * 2 ^ 32 + s.sfld F.TIME_RATE_VALUE + s.sfld F.TIME_ADJ_RATE_VALUE).toNat) % 2 ^ 96 ∧
      v.rdN R.TIME_ADJ_TICKS = 0 ∧ v.bit F.TIME_STAT_ADJ_BUSY = false ∧
      Frame { s.seedEdge with time := { s.seedEdge.time with ts := v.time.ts, evt5 := s.time.evt5 + 16 * k, rtcAcc := v.time.rtcAcc } } v
        [whole R.TIME_ADJ_TICKS, F.TIME_STAT_ADJ_BUSY] := by
  intro k v
  have hk : s.seedEdge.rdN R.TIME_ADJ_TICKS = k := adjTicks_seedEdge s
  refine ⟨?_, ?_, ?_, ?_⟩
  · rw [ts_tsEdges, tsAdvance_of_le _ hk.ge, tsIncAdj_seedEdge]
  · rw [adjTicks_tsEdges, hk, Nat.sub_self]
  · rw [adjBusy_tsEdges, hk]
    simp
  · rw [← evt5_seedEdge s]
    exact tsEdges_frame _ _

/-! ### One edge (R284) -/

theorem ts_tsEdges_one (s : State) : ((s.tsEdges 1).time.ts : Int) = (s.time.ts + (4 * 2 ^ 32 + s.sfld F.TIME_RATE_VALUE +
    if s.rdN R.TIME_ADJ_TICKS = 0 then 0 else s.sfld F.TIME_ADJ_RATE_VALUE)) % 2 ^ 96 := by
  have hr := sfld_rate_bounds s
  have ha := sfld_adjRate_bounds s
  rw [ts_tsEdges]
  split
  · next h =>
    rw [tsAdvance_of_ge s (by omega), h, State.tsInc]
    omega
  · next h =>
    rw [tsAdvance_of_le s (by omega), State.tsIncAdj]
    omega

/-- Settles O40: an edge adds between 0 and 5 ns, so the first one at or past a multiple stands within 5 ns of it, and passes the other multiple only
where both fall on one edge. -/
theorem networkTimeRunsAndWraps : Obligations.NetworkTimeRunsAndWraps := by
  unfold Obligations.NetworkTimeRunsAndWraps
  refine ⟨fun s h => completes_unlocked h, ?_, ?_, ?_, ?_, ?_, fun s => ⟨ts_tsEdges_one s, adjTicks_tsEdges s 1, adjBusy_tsEdges s 1⟩⟩
  · intro s hlock e k u h
    obtain ⟨hword, hns⟩ := word_at_edgesTo e
    exact ⟨hword, hns, completes_of_done ((exec_tsWrap hlock).trans (congrArg (done s) (runEdges_to_wrap h))) rfl⟩
  · intro s hlock e k u h
    refine ⟨second_at_edgesTo_of_lt h, (second_at_edgesTo e).2,
      completes_of_done ((exec_tsPps hlock).trans (congrArg (done s) (runEdges_to_pps h))) ?_⟩
    have hload := ppsLoad_tsEdges_seedEdge s k
    split
    · next hnone => exact congrArg (·.raise [85]) (hload.trans (if_pos hnone))
    · next hpending => exact congrArg (·.raise [85]) (hload.trans (if_neg hpending))
  · intro s hlock e k u h
    have hrun : runEdges 64 k e = u.wrapRec.ppsLoad.raise [84, 85] := runEdges_to_both h
    have hword : u.ns / 2 ^ 32 = (e.ns / 2 ^ 32 + 1) % 2 ^ 32 := by
      simpa only [u, h] using (word_at_edgesTo e).1
    refine ⟨(second_at_edgesTo e).1, hword, completes_of_done ((exec_tsPps hlock).trans (congrArg (done s) hrun)) rfl,
      completes_of_done ((exec_tsWrap hlock).trans (congrArg (done s) ?_)) rfl⟩
    rw [← hrun, h]
  · intro s hlock e k hp hw
    exact completes_of_done ((exec_timeAdjEnd hlock).trans (congrArg (done s) (runEdges_before 63 hw hp))) (tsEdges_adjustment_over s)
  · intro s hlock e k hw hp
    refine completes_of_done ((exec_timeAdjEnd hlock).trans (congrArg (done s) ?_)) rfl
    have hfirst : e.edgesTo (2 ^ 32) < e.edgesTo (10 ^ 9) := lt_of_eq_of_lt hw.symm hp
    have hrun := runEdges_to_wrap hfirst
    rwa [← hw] at hrun

end Sys2Proof.Machine
end

section
/-!
SUPPORT. Facts the statements of the serial lanes share: the bits of fields written down as literals, counters, sparse lists by lane, the hidden state a
command leaves, and frames up to what lanes hide.
-/
namespace Sys2Proof.Machine

/-! ### Fields whose bits are literals -/

theorem Fld.fits {f : Fld} (h : (f.lo + f.w).ble 32 = true := by rfl) : f.lo + f.w ≤ 32 := Nat.le_of_ble_eq_true h

/-- Fields of one register whose bits do not meet are apart, whatever the register. -/
theorem Fld.apart {f g : Fld} (h : ((f.lo + f.w).ble g.lo || (g.lo + g.w).ble f.lo) = true := by rfl) : f.Apart g := by
  rcases Bool.or_eq_true _ _ ▸ h with h | h
  · exact .inr (.inr (Nat.le_of_ble_eq_true h))
  · exact .inr (.inl (Nat.le_of_ble_eq_true h))

/-- A field of a register that a frame lists whole may be set. -/
theorem Frame.setFld_whole {s v : State} {fs : List Fld} (h : Frame s v fs) {f : Fld} (x : Nat) (hf : whole f.off ∈ fs) : Frame s (v.setFld f x) fs :=
  h.putWord _ hf

theorem Frame.addCnt_whole {s v : State} {fs : List Fld} (h : Frame s v fs) {f g : Fld} (k : Nat) (hf : whole f.off ∈ fs) (hg : whole g.off ∈ fs) :
    Frame s (v.addCnt f g k) fs := by
  unfold State.addCnt
  dsimp only
  split
  · exact (h.setFld_whole _ hf).setFld_whole 1 hg
  · exact h.setFld_whole _ hf

/-! ### Counters that take several counts (R9) -/

theorem fld_addCnt_self (s : State) {f g : Fld} (k : Nat) (hf : f.lo + f.w ≤ 32) (hg : g.lo + g.w ≤ 32) (hd : g.Apart f) :
    (s.addCnt f g k).fld f = min (s.fld f + k) (2 ^ f.w - 1) := by
  have hset : (s.setFld f (min (s.fld f + k) (2 ^ f.w - 1))).fld f = min (s.fld f + k) (2 ^ f.w - 1) := by
    rw [fld_setFld_self s f _ hf, Nat.mod_eq_of_lt]
    have := Nat.two_pow_pos f.w
    omega
  unfold State.addCnt
  dsimp only
  split
  · rw [flag_eq, fld_setFld_apart _ _ hg hd, hset]
  · exact hset

theorem fld_addCnt_apart (s : State) {f g x : Fld} (k : Nat) (hf : f.lo + f.w ≤ 32) (hg : g.lo + g.w ≤ 32) (hfx : f.Apart x) (hgx : g.Apart x) :
    (s.addCnt f g k).fld x = s.fld x := by
  unfold State.addCnt
  dsimp only
  split
  · rw [flag_eq, fld_setFld_apart _ _ hg hgx, fld_setFld_apart _ _ hf hfx]
  · exact fld_setFld_apart _ _ hf hfx

theorem rd_addCnt_ne (s : State) (f g : Fld) (k : Nat) {off : Nat} (hf : off ≠ f.off) (hg : off ≠ g.off) : (s.addCnt f g k).rd off = s.rd off := by
  unfold State.addCnt
  dsimp only
  split
  · rw [flag_eq, rd_setFld_ne _ _ _ hg, rd_setFld_ne _ _ _ hf]
  · exact rd_setFld_ne _ _ _ hf

/-! ### Sparse lists by lane -/

theorem laneGet_lanePut {α : Type} (l : List (Nat × α)) (i : Nat) (v : Option α) : laneGet (lanePut l i v) i = v := by
  have hnone : (l.filter (fun e => e.1 != i)).find? (fun e => e.1 == i) = none := by simp [List.find?_eq_none]
  unfold laneGet lanePut
  rw [List.find?_append, hnone, Option.none_or]
  cases v <;> simp

/-! ### What the end of a command leaves -/

/-- Whatever state a completed command is described by, what its lanes hide is as in the state that the command's meaning hands over. -/
theorem lane_of_completed {c : Instr} {s v t : State} (hv : exec c s = .next (v.settle s)) (ht : exec c s = done s t) : v.lane = t.lane := by
  have hsettled : t.settle s = v.settle s := Host.Outcome.next.inj (ht.symm.trans hv)
  obtain ⟨_, _, h1⟩ := settle_eq v s
  obtain ⟨_, _, h2⟩ := settle_eq t s
  have hlane := congrArg State.lane (h1.symm.trans (hsettled.symm.trans h2))
  exact hlane

end Sys2Proof.Machine
end

section
/-!
PROOFS. A lane that has lost LOCK in service hunts, and is noted as lost (R132). A write of its LANE_CTL that starts a test takes the note away (R121), which
the statement's clause of an idle lane does not allow.
-/
namespace Sys2Proof.Machine

/-- Lane 0 was IN_SERVICE and has lost LOCK. -/
def huntsAfterLoss : State := (State.reset.setFld (F.LANE_STAT_STATE 0) lsServ).lockLoss 0 0 0

theorem huntsAfterLoss_idle : huntsAfterLoss.has .lane 0 = true ∧ huntsAfterLoss.lst 0 ∈ [lsOff, lsHunt, lsSpare, lsRetired] ∧
    huntsAfterLoss.lane.lost = [0] := by decide +kernel

theorem lost_laneCtl_huntsAfterLoss : (huntsAfterLoss.laneCtl 0 1).lane.lost = [] := by decide +kernel

theorem exec_laneCtlWrite {i : Fin 114} {s : State} (val : Word) (h : s.has .lane i = true) : exec (.laneCtlWrite i val) s = done s (s.laneCtl i val) := by
  change execLaneCtlWrite i val s = _
  simp [execLaneCtlWrite, h]

/-- Refutes O25: LOOP = 1 on the lane starts its test, and the lane is no longer noted as lost; the clause of an idle lane frames the write by the lane's
`tests` alone. -/
theorem not_laneControlsAndEyeScans : ¬ Obligations.LaneControlsAndEyeScans := by
  unfold Obligations.LaneControlsAndEyeScans
  rintro ⟨-, -, -, htest, -⟩
  obtain ⟨hhas, hidle, hlost⟩ := huntsAfterLoss_idle
  obtain ⟨v, hexec, -, -, -, -, -, hframe⟩ := htest 0 1 huntsAfterLoss hhas hidle (by decide) (by decide)
  have hkept : v.lane.lost = [0] := (congrArg (fun x : State => x.lane.lost) hframe.rest).trans hlost
  have htaken : v.lane = (huntsAfterLoss.laneCtl 0 1).lane := lane_of_completed hexec (exec_laneCtlWrite (i := 0) 1 hhas)
  rw [htaken, lost_laneCtl_huntsAfterLoss] at hkept
  exact absurd hkept (by decide)

end Sys2Proof.Machine
end

section
/-!
SUPPORT. The lanes of a camera as a mask (R134, R135), the end of an eye scan (R123), and a lane that hunts (R112).
-/
namespace Sys2Proof.Machine

/-! ### Registers of lanes and cameras -/

/-- The registers of lanes stand below those of cameras. -/
theorem laneReg_lt_camLink {i k : Nat} (n : Nat) (hi : i < 114) (hk : k < 0x100) : 0x00400000 + k + i * 0x100 < R.CAM_LINK n := by
  simp only [R.CAM_LINK]
  omega

theorem laneStat_ne_camLink {i : Nat} (n : Nat) (hi : i < 114) : R.LANE_STAT i ≠ R.CAM_LINK n := (laneReg_lt_camLink (k := 4) n hi (by decide)).ne

theorem laneErr_ne_camLink {i : Nat} (n : Nat) (hi : i < 114) : R.LANE_ERR i ≠ R.CAM_LINK n := (laneReg_lt_camLink (k := 8) n hi (by decide)).ne

theorem laneEyeRes_ne_camLink {i : Nat} (n : Nat) (hi : i < 114) : R.LANE_EYE_RES i ≠ R.CAM_LINK n :=
  (laneReg_lt_camLink (k := 0x14) n hi (by decide)).ne

theorem laneStat_ne_laneErr (i j : Nat) : R.LANE_STAT i ≠ R.LANE_ERR j := by simp only [R.LANE_STAT, R.LANE_ERR]; omega

theorem laneStat_ne_laneEyeRes (i j : Nat) : R.LANE_STAT i ≠ R.LANE_EYE_RES j := by simp only [R.LANE_STAT, R.LANE_EYE_RES]; omega

theorem laneErr_ne_laneEyeRes (i j : Nat) : R.LANE_ERR i ≠ R.LANE_EYE_RES j := by simp only [R.LANE_ERR, R.LANE_EYE_RES]; omega

theorem lst_of_rd_eq {s t : State} {i : Nat} (h : t.rd (R.LANE_STAT i) = s.rd (R.LANE_STAT i)) : t.lst i = s.lst i := fld_of_rd_eq _ h

/-! ### The lanes of a camera that are IN_SERVICE -/

theorem foldl_pow_filter_eq (p : Nat → Bool) (l : List Nat) (a : Nat) :
    (l.filter p).foldl (fun a k => a + 2 ^ k) a = a + (l.map (fun k => if p k then 2 ^ k else 0)).sum := by
  induction l generalizing a with
  | nil => rfl
  | cons k l ih => cases hk : p k <;> simp [hk, ih, Nat.add_assoc]

theorem camMask_eq (s : State) (n : Nat) : s.camMask n = regionSet (fun k => s.lst (8 * n + k) == lsServ) := by
  simp [State.camMask, regionSet, foldl_pow_filter_eq]

theorem camMask_lt (s : State) (n : Nat) : s.camMask n < 2 ^ 8 := by
  rw [camMask_eq]
  exact (foldl_pow_filter _ 8).1

theorem bitN_camMask (s : State) (n : Nat) (k : Fin 8) : bitN (s.camMask n) k = (s.lst (8 * n + k) == lsServ) := by
  rw [camMask_eq]
  exact bitN_regionSet _ k

theorem camMask_congr {s t : State} {n : Nat} (h : ∀ k < 8, t.lst (8 * n + k) = s.lst (8 * n + k)) : t.camMask n = s.camMask n := by
  unfold State.camMask
  congr 1
  exact List.map_congr_left (fun k hk => by rw [h k (List.mem_range.mp hk)])

theorem popcount_le (n x : Nat) : popcount n x ≤ n := by
  unfold popcount
  simpa using List.length_filter_le (bitN x) (List.range n)

theorem rd_camCount_ne (s : State) (n : Nat) {off : Nat} (h : off ≠ R.CAM_LINK n) : (s.camCount n).rd off = s.rd off :=
  (rd_setFld_ne _ _ _ h).trans (rd_setFld_ne s _ _ h)

theorem lst_camCount (s : State) (n : Nat) {i : Nat} (hi : i < 114) : (s.camCount n).lst i = s.lst i :=
  lst_of_rd_eq (rd_camCount_ne s n (laneStat_ne_camLink n hi))

/-- ACT_LINKS and LANE_MASK show the lanes IN_SERVICE. -/
theorem camCount_shows (s : State) (n : Nat) : (s.camCount n).fld (F.CAM_LINK_LANE_MASK n) = s.camMask n ∧
    (s.camCount n).fld (F.CAM_LINK_ACT_LINKS n) = popcount 8 (s.camMask n) := by
  have hmask := camMask_lt s n
  have hones := popcount_le 8 (s.camMask n)
  unfold State.camCount
  constructor
  · rw [fld_setFld_apart _ _ Fld.fits Fld.apart, fld_setFld_self _ _ _ Fld.fits]
    exact Nat.mod_eq_of_lt hmask
  · rw [fld_setFld_self _ _ _ Fld.fits]
    exact Nat.mod_eq_of_lt (lt_of_le_of_lt hones (by decide : 8 < 2 ^ 4))

theorem Frame.camCount {s v : State} {fs : List Fld} (h : Frame s v fs) {n : Nat} (h1 : F.CAM_LINK_LANE_MASK n ∈ fs) (h2 : F.CAM_LINK_ACT_LINKS n ∈ fs) :
    Frame s (v.camCount n) fs :=
  (h.setFld _ h1 Fld.fits).setFld _ h2 Fld.fits

/-! ### Frames up to what lanes hide -/

theorem Frame.lane_eq {s v : State} {fs : List Fld} (h : Frame s v fs) : v.lane = s.lane := (congrArg State.lane h.rest :)

theorem Frame.freeCtr_eq {s v : State} {fs : List Fld} (h : Frame s v fs) : v.freeCtr = s.freeCtr := (congrArg State.freeCtr h.rest :)

/-- From `s` to `v` nothing changes but the listed fields, what lanes hide and the free values drawn. -/
def LaneFrame (s v : State) (fs : List Fld) : Prop := Frame { s with lane := v.lane, freeCtr := v.freeCtr } v fs

theorem Frame.toLane {s v : State} {fs : List Fld} (h : Frame s v fs) : LaneFrame s v fs :=
  h.of_eq rfl rfl rfl rfl rfl rfl (by
    rw [h.lane_eq, h.freeCtr_eq]
    exact h.rest)

theorem LaneFrame.trans {s t v : State} {fs : List Fld} (h : LaneFrame s t fs) (k : LaneFrame t v fs) : LaneFrame s v fs :=
  ⟨fun off => (k.regs off).trans (h.regs off), fun a => (k.mem a).trans (h.mem a),
    k.rest.trans (congrArg (fun x : State => { x with lane := v.lane, freeCtr := v.freeCtr }) h.rest)⟩

theorem LaneFrame.refl (s : State) (fs : List Fld) : LaneFrame s s fs := (Frame.refl s fs).toLane

theorem LaneFrame.mono {s v : State} {fs gs : List Fld} (h : LaneFrame s v fs) (hsub : ∀ f ∈ fs, f ∈ gs) : LaneFrame s v gs := Frame.mono h hsub

/-- What lanes hide may change. -/
theorem LaneFrame.withLane {s v : State} {fs : List Fld} (h : LaneFrame s v fs) (x : LaneS) : LaneFrame s { v with lane := x } fs :=
  Frame.of_eq h rfl rfl rfl rfl rfl rfl (congrArg (fun y : State => { y with lane := x }) (Frame.rest h))

theorem LaneFrame.rd {s v : State} {fs : List Fld} (h : LaneFrame s v fs) {off : Nat} (hz : ∀ f ∈ fs, f.off ≠ off) : v.rd off = s.rd off :=
  Frame.rd h (fieldBits_eq_zero hz)

/-! ### Errors of a lane (R110, R117) -/

theorem laneErrs_frame (s : State) (i code disp : Nat) {fs : List Fld} (h : whole (R.LANE_ERR i) ∈ fs) : Frame s (s.laneErrs i code disp) fs :=
  ((Frame.refl s fs).addCnt_whole _ h h).addCnt_whole _ h h

theorem rd_laneErrs_ne (s : State) (i code disp : Nat) {off : Nat} (h : off ≠ R.LANE_ERR i) : (s.laneErrs i code disp).rd off = s.rd off :=
  (rd_addCnt_ne _ _ _ _ h h).trans (rd_addCnt_ne _ _ _ _ h h)

theorem laneErrs_code (s : State) (i code disp : Nat) :
    (s.laneErrs i code disp).fld (F.LANE_ERR_CODE_CNT i) = min (s.fld (F.LANE_ERR_CODE_CNT i) + code) 65535 :=
  (fld_addCnt_apart _ _ Fld.fits Fld.fits Fld.apart Fld.apart).trans (fld_addCnt_self s _ Fld.fits Fld.fits Fld.apart)

theorem laneErrs_disp (s : State) {i : Nat} (code disp : Nat) (hi : i < 96) :
    (s.laneErrs i code disp).fld (F.LANE_ERR_DISP_CNT i) = min (s.fld (F.LANE_ERR_DISP_CNT i) + disp) 32767 := by
  unfold State.laneErrs
  rw [if_pos hi, fld_addCnt_self _ _ Fld.fits Fld.fits Fld.apart, fld_addCnt_apart _ _ Fld.fits Fld.fits Fld.apart Fld.apart]
  rfl

/-! ### The end of an eye scan (R123) -/

theorem eyeCount_frame (s : State) (i errors : Nat) {fs : List Fld} (h1 : F.LANE_STAT_EYE_BUSY i ∈ fs) (h2 : whole (R.LANE_EYE_RES i) ∈ fs) :
    Frame s (s.eyeCount i errors) fs := by
  have hcount : Frame s ((s.setFld (F.LANE_STAT_EYE_BUSY i) 0).setFld (F.LANE_EYE_RES_ERR_CNT i) (min errors (2 ^ 24 - 1))) fs :=
    ((Frame.refl s fs).setFld 0 h1 Fld.fits).setFld_whole _ h2
  unfold State.eyeCount
  dsimp only
  split
  · exact hcount.setFld_whole 1 h2
  · exact hcount

theorem fld_eyeCount_apart (s : State) (i errors : Nat) {f : Fld} (h1 : (F.LANE_STAT_EYE_BUSY i).Apart f) (h2 : (F.LANE_EYE_RES_ERR_CNT i).Apart f)
    (h3 : (F.LANE_EYE_RES_SAT i).Apart f) : (s.eyeCount i errors).fld f = s.fld f := by
  unfold State.eyeCount
  dsimp only
  split
  · rw [flag_eq, fld_setFld_apart _ _ Fld.fits h3, fld_setFld_apart _ _ Fld.fits h2, fld_setFld_apart _ _ Fld.fits h1]
  · rw [fld_setFld_apart _ _ Fld.fits h2, fld_setFld_apart _ _ Fld.fits h1]

theorem busy_eyeCount (s : State) (i errors : Nat) : (s.eyeCount i errors).bit (F.LANE_STAT_EYE_BUSY i) = false := by
  have hne : (F.LANE_STAT_EYE_BUSY i).off ≠ R.LANE_EYE_RES i := laneStat_ne_laneEyeRes i i
  have hset : (s.setFld (F.LANE_STAT_EYE_BUSY i) 0).bit (F.LANE_STAT_EYE_BUSY i) = false := bit_setFld_self s _ 0 Fld.fits rfl
  unfold State.eyeCount
  dsimp only
  split
  · exact (bit_of_rd_eq _ ((rd_setFld_ne _ _ _ hne).trans (rd_setFld_ne _ _ _ hne))).trans hset
  · exact (bit_of_rd_eq _ (rd_setFld_ne _ _ _ hne)).trans hset

/-- An eye scan that runs ends with ABORT; one that does not run is as it was. -/
structure EyeEnds (s v : State) (i : Nat) : Prop where
  busy  : v.bit (F.LANE_STAT_EYE_BUSY i) = false
  abort : v.bit (F.LANE_EYE_RES_ABORT i) = (s.bit (F.LANE_EYE_RES_ABORT i) || s.bit (F.LANE_STAT_EYE_BUSY i))
  lane  : v.lane = s.lane
  frame : LaneFrame s v [F.LANE_STAT_EYE_BUSY i, whole (R.LANE_EYE_RES i)]
  stat  : ∀ f : Fld, f.off = R.LANE_STAT i → (F.LANE_STAT_EYE_BUSY i).Apart f → v.fld f = s.fld f

theorem eyeAbort_ends (s : State) (i : Nat) : EyeEnds s (s.eyeAbort i) i := by
  cases hb : s.bit (F.LANE_STAT_EYE_BUSY i) with
  | false =>
    have hsame : s.eyeAbort i = s := by simp [State.eyeAbort, hb]
    rw [hsame]
    exact ⟨hb, by rw [hb, Bool.or_false], rfl, LaneFrame.refl s _, fun _ _ _ => rfl⟩
  | true =>
    have hends : s.eyeAbort i = (s.free.2.eyeCount i s.free.1.toNat).flag (F.LANE_EYE_RES_ABORT i) := by simp [State.eyeAbort, hb]
    have hne : (F.LANE_STAT_EYE_BUSY i).off ≠ R.LANE_EYE_RES i := laneStat_ne_laneEyeRes i i
    have hframe := eyeCount_frame s.free.2 i s.free.1.toNat (fs := [F.LANE_STAT_EYE_BUSY i, whole (R.LANE_EYE_RES i)]) (by simp) (by simp)
    have hflag := hframe.setFld_whole (f := F.LANE_EYE_RES_ABORT i) 1 (by simp [F.LANE_EYE_RES_ABORT])
    rw [hends]
    refine ⟨?_, ?_, ?_, ?_, fun f hf ha => ?_⟩
    · exact (bit_of_rd_eq _ (rd_setFld_ne _ (F.LANE_EYE_RES_ABORT i) 1 hne)).trans (busy_eyeCount _ i _)
    · rw [hb, Bool.or_true]
      exact bit_setFld_self _ _ 1 Fld.fits rfl
    · exact hflag.lane_eq
    · exact hflag.toLane
    · have hfe : f.off ≠ R.LANE_EYE_RES i := by rw [hf]; exact laneStat_ne_laneEyeRes i i
      rw [flag_eq, fld_setFld_ne _ _ _ _ hfe, fld_eyeCount_apart _ _ _ ha (.inl hfe.symm) (.inl hfe.symm)]
      rfl

/-! ### A lane takes a state without a rate -/

/-- Lane `i` goes to state `x` and shows no rate. -/
def State.laneLeaves (s : State) (i x : Nat) : State := (s.setFld (F.LANE_STAT_STATE i) x).setFld (F.LANE_STAT_RATE i) 0

theorem lst_laneLeaves (s : State) (i : Nat) {x : Nat} (hx : x < 8) : (s.laneLeaves i x).lst i = x := by
  unfold State.laneLeaves State.lst
  rw [fld_setFld_apart _ _ Fld.fits Fld.apart, fld_setFld_self _ _ _ Fld.fits]
  exact Nat.mod_eq_of_lt hx

theorem rate_laneLeaves (s : State) (i x : Nat) : (s.laneLeaves i x).fld (F.LANE_STAT_RATE i) = 0 := by
  rw [State.laneLeaves, fld_setFld_self _ _ _ Fld.fits, Nat.zero_mod]

theorem fld_laneLeaves_apart (s : State) {i : Nat} (x : Nat) {f : Fld} (h1 : (F.LANE_STAT_STATE i).Apart f) (h2 : (F.LANE_STAT_RATE i).Apart f) :
    (s.laneLeaves i x).fld f = s.fld f := by
  rw [State.laneLeaves, fld_setFld_apart _ _ Fld.fits h2, fld_setFld_apart _ _ Fld.fits h1]

theorem rd_laneLeaves_ne (s : State) (i x : Nat) {off : Nat} (h : off ≠ R.LANE_STAT i) : (s.laneLeaves i x).rd off = s.rd off :=
  (rd_setFld_ne _ _ _ h).trans (rd_setFld_ne s _ _ h)

theorem laneLeaves_frame (s : State) (i x : Nat) {fs : List Fld} (h1 : F.LANE_STAT_STATE i ∈ fs) (h2 : F.LANE_STAT_RATE i ∈ fs) :
    Frame s (s.laneLeaves i x) fs :=
  ((Frame.refl s fs).setFld _ h1 Fld.fits).setFld _ h2 Fld.fits

/-- Lane `i` has gone to state `x`: its eye scan has ended, it shows no rate, and the other fields of its LANE_STAT are as they were. -/
structure LaneLeft (s v : State) (i x : Nat) (fs : List Fld) : Prop where
  lst   : v.lst i = x
  rate  : v.fld (F.LANE_STAT_RATE i) = 0
  busy  : v.bit (F.LANE_STAT_EYE_BUSY i) = false
  abort : v.bit (F.LANE_EYE_RES_ABORT i) = (s.bit (F.LANE_EYE_RES_ABORT i) || s.bit (F.LANE_STAT_EYE_BUSY i))
  lost  : v.bit (F.LANE_STAT_LOCK_LOST i) = s.bit (F.LANE_STAT_LOCK_LOST i)
  frame : LaneFrame s v fs

theorem LaneLeft.mono {s v : State} {i x : Nat} {fs gs : List Fld} (h : LaneLeft s v i x fs) (hsub : ∀ f ∈ fs, f ∈ gs) : LaneLeft s v i x gs :=
  ⟨h.lst, h.rate, h.busy, h.abort, h.lost, h.frame.mono hsub⟩

theorem LaneLeft.withLane {s v : State} {i x : Nat} {fs : List Fld} (h : LaneLeft s v i x fs) (l : LaneS) : LaneLeft s { v with lane := l } i x fs :=
  ⟨h.lst, h.rate, h.busy, h.abort, h.lost, h.frame.withLane l⟩

/-- What changes where a lane goes to a state without a rate. -/
def leaveFields (i : Nat) : List Fld := [F.LANE_STAT_STATE i, F.LANE_STAT_RATE i, F.LANE_STAT_EYE_BUSY i, whole (R.LANE_EYE_RES i)]

theorem eyeAbort_laneLeaves (s : State) (i : Nat) {x : Nat} (hx : x < 8) : LaneLeft s ((s.eyeAbort i).laneLeaves i x) i x (leaveFields i) := by
  obtain ⟨hbusy, habort, -, hframe, hstat⟩ := eyeAbort_ends s i
  have hlost : (s.eyeAbort i).fld (F.LANE_STAT_LOCK_LOST i) = s.fld (F.LANE_STAT_LOCK_LOST i) := hstat _ rfl Fld.apart
  refine ⟨lst_laneLeaves _ i hx, rate_laneLeaves _ i x, ?_, ?_, ?_, ?_⟩
  · exact (congrArg (· != 0) (fld_laneLeaves_apart (f := F.LANE_STAT_EYE_BUSY i) _ x Fld.apart Fld.apart)).trans hbusy
  · exact (bit_of_rd_eq _ (rd_laneLeaves_ne _ i x (laneStat_ne_laneEyeRes i i).symm)).trans habort
  · exact congrArg (· != 0) ((fld_laneLeaves_apart _ x Fld.apart Fld.apart).trans hlost)
  · exact (hframe.mono (by simp [leaveFields])).trans (laneLeaves_frame _ i x (by simp [leaveFields]) (by simp [leaveFields])).toLane

/-! ### A camera lane enters HUNT (R112, R120) -/

/-- Lane `i` hunts from the first rate on; the equaliser then takes the seed. -/
def State.huntBegins (s : State) (i : Nat) : State :=
  let t := (s.eyeAbort i).laneLeaves i lsHunt
  { t with lane := { t.lane with tries := lanePut t.lane.tries i none } }

theorem toHunt_camera (s : State) {i : Nat} (hi : i < 112) :
    s.toHunt i = s.huntBegins i ∨ ∃ w, s.toHunt i = (s.huntBegins i).put (R.LANE_EQ i) w := by
  have hnot : ¬ 112 ≤ i := by omega
  unfold State.toHunt
  simp only [if_neg hnot]
  split
  · exact .inr ⟨_, rfl⟩
  · exact .inl rfl

/-- What changes where a camera lane enters HUNT. -/
def huntFields (i : Nat) : List Fld := whole (R.LANE_EQ i) :: leaveFields i

theorem huntFields_ne_laneErr (i j : Nat) : ∀ f ∈ huntFields i, f.off ≠ R.LANE_ERR j := by
  have heq : R.LANE_EQ i ≠ R.LANE_ERR j := by simp only [R.LANE_EQ, R.LANE_ERR]; omega
  simp [huntFields, leaveFields, whole, F.LANE_STAT_STATE, F.LANE_STAT_RATE, F.LANE_STAT_EYE_BUSY, heq, laneStat_ne_laneErr i j,
    (laneErr_ne_laneEyeRes j i).symm]

theorem huntBegins_left (s : State) (i : Nat) : LaneLeft s (s.huntBegins i) i lsHunt (huntFields i) :=
  ((eyeAbort_laneLeaves s i (by decide)).mono (fun _ hf => List.mem_cons_of_mem _ hf)).withLane _

theorem toHunt_left (s : State) {i : Nat} (hi : i < 112) : LaneLeft s (s.toHunt i) i lsHunt (huntFields i) := by
  have hstat : R.LANE_STAT i ≠ R.LANE_EQ i := by simp only [R.LANE_STAT, R.LANE_EQ]; omega
  have hres : R.LANE_EYE_RES i ≠ R.LANE_EQ i := by simp only [R.LANE_EYE_RES, R.LANE_EQ]; omega
  have h := huntBegins_left s i
  rcases toHunt_camera s hi with heq | ⟨w, heq⟩ <;> rw [heq]
  · exact h
  · exact ⟨(fld_put_ne _ _ w _ hstat).trans h.lst, (fld_put_ne _ _ w _ hstat).trans h.rate, (bit_of_rd_eq _ (rd_put_ne _ w hstat)).trans h.busy,
      (bit_of_rd_eq _ (rd_put_ne _ w hres)).trans h.abort, (bit_of_rd_eq _ (rd_put_ne _ w hstat)).trans h.lost,
      h.frame.trans ((Frame.refl _ _).putWord w (by simp [huntFields])).toLane⟩

end Sys2Proof.Machine
end

section
/-!
PROOFS. Lanes that lock and lanes that lose lock (R110, R112, R117, R118, R123, R125, R134).
-/
namespace Sys2Proof.Machine

/-! ### What LANE_LOCK hands over -/

/-- Lane `i` is no longer noted as one that was in service and lost LOCK (R132). -/
def State.lossForgotten (s : State) (i : Nat) : State := { s with lane := { s.lane with lost := s.lane.lost.filter (· != i) } }

/-- The markers of a Nimeb lane show its skew (R125). -/
def State.skewShown (s : State) (i blocks : Nat) : State := { s with lane := { s.lane with skew := lanePut s.lane.skew i (some blocks) } }

section Lock
variable {i : Fin 114} (skew : BitVec 8) {s : State}

theorem exec_laneLock_unmoved (h : s.lst i ≠ lsHunt) : exec (.laneLock i skew) s = done s s := by
  change execLaneLock i skew s = _
  simp [execLaneLock, h]

theorem exec_laneLock_camera (h : s.lst i = lsHunt) (hi : i.val < 96) : exec (.laneLock i skew) s = done s ((s.lossForgotten i).cxLock i) := by
  change execLaneLock i skew s = _
  simp [execLaneLock, h, hi, State.lossForgotten]

theorem exec_laneLock_nimeb (h : s.lst i = lsHunt) (h1 : 96 ≤ i.val) (h2 : i.val < 112) :
    exec (.laneLock i skew) s = done s (((s.lossForgotten i).skewShown i skew.toNat).nlLock i) := by
  change execLaneLock i skew s = _
  simp [execLaneLock, h, h1.not_gt, h2, State.lossForgotten, State.skewShown]

theorem exec_laneLock_ethernet (h : s.lst i = lsHunt) (h1 : 112 ≤ i.val) : exec (.laneLock i skew) s = done s ((s.lossForgotten i).epLock i) := by
  change execLaneLock i skew s = _
  have hcam : ¬ i.val < 96 := by omega
  simp [execLaneLock, h, hcam, h1.not_gt, State.lossForgotten]

end Lock

/-! ### A camera lane locks (R110, R112, R134) -/

/-- The rate that lane `i` tries. -/
def State.huntRate (s : State) (i : Nat) : Nat := huntRates.getD ((laneGet s.lane.tries i).getD 0) 12

theorem huntRate_lt (s : State) (i : Nat) : s.huntRate i < 2 ^ 4 := by
  have hall : ∀ r ∈ huntRates, r < 2 ^ 4 := by decide
  unfold State.huntRate
  rw [List.getD_eq_getElem?_getD]
  cases h : huntRates[(laneGet s.lane.tries i).getD 0]? with
  | none => decide
  | some r => exact hall r (List.mem_of_getElem? h)

/-- Lane `i` shows the rate `r` and the state `x`. -/
def State.laneShows (s : State) (i r x : Nat) : State := (s.setFld (F.LANE_STAT_RATE i) r).setFld (F.LANE_STAT_STATE i) x

theorem laneShows_frame (s : State) (i r x : Nat) {fs : List Fld} (h1 : F.LANE_STAT_STATE i ∈ fs) (h2 : F.LANE_STAT_RATE i ∈ fs) :
    Frame s (s.laneShows i r x) fs :=
  ((Frame.refl s fs).setFld _ h2 Fld.fits).setFld _ h1 Fld.fits

theorem lst_laneShows (s : State) (i r : Nat) {x : Nat} (hx : x < 8) : (s.laneShows i r x).lst i = x :=
  (fld_setFld_self _ (F.LANE_STAT_STATE i) x Fld.fits).trans (Nat.mod_eq_of_lt hx)

theorem rate_laneShows (s : State) (i x : Nat) {r : Nat} (hr : r < 2 ^ 4) : (s.laneShows i r x).fld (F.LANE_STAT_RATE i) = r := by
  unfold State.laneShows
  rw [fld_setFld_apart _ _ Fld.fits Fld.apart, fld_setFld_self _ _ _ Fld.fits]
  exact Nat.mod_eq_of_lt hr

theorem rd_laneShows_ne (s : State) (i r x : Nat) {off : Nat} (h : off ≠ R.LANE_STAT i) : (s.laneShows i r x).rd off = s.rd off :=
  (rd_setFld_ne _ _ _ h).trans (rd_setFld_ne s _ _ h)

/-- A lane that aligned at another rate than its camera's waits in LOCK. -/
theorem cxLock_waits {s : State} {i : Nat} (hi : i < 96) (h : s.huntRate i ≠ s.fld (F.CAM_LINK_RATE (i / 8))) :
    s.cxLock i = s.laneShows i (s.huntRate i) lsLock := by
  have hcam : (s.setFld (F.LANE_STAT_RATE i) (s.huntRate i)).fld (F.CAM_LINK_RATE (i / 8)) = s.fld (F.CAM_LINK_RATE (i / 8)) :=
    fld_setFld_ne s _ _ _ (laneStat_ne_camLink _ (by omega)).symm
  unfold State.huntRate at h hcam
  simp only [State.cxLock, hcam, beq_eq_false_iff_ne.mpr h, Bool.false_and, Bool.false_eq_true, if_false]
  rfl

/-- A lane of its camera's links that aligned at its rate, of a camera that is up, joins it. -/
theorem cxLock_joins {s : State} {i : Nat} (hi : i < 96) (hrate : s.huntRate i = s.fld (F.CAM_LINK_RATE (i / 8)))
    (hlinks : i % 8 < s.fld (F.CAM_LINK_CFG_LINKS (i / 8))) (hset : vget s.lane.set (i / 8) 0 = 0 ∨ bitN (vget s.lane.set (i / 8) 0) (i % 8) = true)
    (hup : s.bit ⟨R.TOP_READY_IO, i / 8, 1⟩ = true) : s.cxLock i = (s.laneShows i (s.huntRate i) lsServ).camCount (i / 8) := by
  have hne : R.CAM_LINK (i / 8) ≠ R.LANE_STAT i := (laneStat_ne_camLink _ (by omega)).symm
  have hready : R.TOP_READY_IO ≠ R.LANE_STAT i ∧ R.TOP_READY_IO ≠ R.CAM_LINK (i / 8) := by
    simp only [R.TOP_READY_IO, R.LANE_STAT, R.CAM_LINK]
    omega
  have hstays : ((s.laneShows i (s.huntRate i) lsServ).camCount (i / 8)).bit ⟨R.TOP_READY_IO, i / 8, 1⟩ = true :=
    (bit_of_rd_eq _ ((rd_camCount_ne _ _ hready.2).trans (rd_laneShows_ne s _ _ _ hready.1))).trans hup
  have hcamRate := fld_setFld_ne s (F.LANE_STAT_RATE i) (F.CAM_LINK_RATE (i / 8)) (s.huntRate i) hne
  have hcamLinks := fld_setFld_ne s (F.LANE_STAT_RATE i) (F.CAM_LINK_CFG_LINKS (i / 8)) (s.huntRate i) hne
  have hjoins : (s.huntRate i == (s.setFld (F.LANE_STAT_RATE i) (s.huntRate i)).fld (F.CAM_LINK_RATE (i / 8)) &&
      decide (i % 8 < (s.setFld (F.LANE_STAT_RATE i) (s.huntRate i)).fld (F.CAM_LINK_CFG_LINKS (i / 8))) &&
      (vget s.lane.set (i / 8) 0 == 0 || bitN (vget s.lane.set (i / 8) 0) (i % 8))) = true := by
    rw [hcamRate, hcamLinks]
    simpa [hrate, hlinks] using hset
  unfold State.cxLock
  extract_lets n rate t links joins u
  have hu : u = (s.laneShows i (s.huntRate i) lsServ).camCount (i / 8) := rfl
  have hj : joins = true := hjoins
  rw [if_pos hj, hu]
  split
  · simp [State.camUp, n, hstays]
  · rfl

/-! ### A Nimeb spare and an Ethernet lane lock (R117, R118, R125) -/

theorem nlLock_spare {s : State} {i : Nat} (h : s.npLogical i = 3) : s.nlLock i = s.laneShows i 0xF lsSpare := by
  have hspare : (s.setFld (F.LANE_STAT_RATE i) 0xF).npLogical i = 3 := h
  simp only [State.nlLock, hspare, if_true]
  rfl

theorem readyFld_ethernet {p : Nat} (h : p < 2) : readyFld (12 + p) = ⟨R.TOP_READY, 12 + p, 1⟩ := by
  rw [readyFld, if_pos (by omega), Nat.mod_eq_of_lt (by omega)]

/-- An Ethernet lane without high BER carries traffic, and its port is ready. -/
theorem epLock_serves {s : State} {i : Nat} (h1 : 112 ≤ i) (h2 : i < 114) (hber : s.bit (F.LANE_STAT_HI_BER i) = false) :
    s.epLock i = (s.laneShows i (if s.ep25 (i - 112) then 0xF else 0xA) lsServ).flag ⟨R.TOP_READY, 12 + (i - 112), 1⟩ := by
  have hlane : 112 + (i - 112) = i := by omega
  have hshown := lst_laneShows s i (if s.ep25 (i - 112) then 0xF else 0xA) (x := lsServ) (by decide)
  have hclear : (s.laneShows i (if s.ep25 (i - 112) then 0xF else 0xA) lsServ).bit (F.LANE_STAT_HI_BER i) = false :=
    ((bit_setFld_apart _ _ Fld.fits Fld.apart).trans (bit_setFld_apart _ _ Fld.fits Fld.apart)).trans hber
  rw [← readyFld_ethernet (by omega)]
  change (s.laneShows i (if s.ep25 (i - 112) then 0xF else 0xA) lsServ).epReady (i - 112) = _
  rw [State.epReady, hlane, hshown, hclear]
  rfl

/-! ### A camera lane loses LOCK (R110, R112, R123) -/

section Loss
variable {i : Fin 114} {code disp : BitVec 16} {s : State}

theorem exec_laneLockLoss_aligned (h : s.aligned i = true) : exec (.laneLockLoss i code disp) s = done s (s.lockLoss i code.toNat disp.toNat) := by
  change execLaneLockLoss i code disp s = _
  simp [execLaneLockLoss, h]

theorem exec_laneLockLoss_unmoved (h : s.lst i ∉ [lsLock, lsServ, lsSpare]) : exec (.laneLockLoss i code disp) s = done s s := by
  change execLaneLockLoss i code disp s = _
  simp only [List.mem_cons, List.not_mem_nil, or_false, not_or] at h
  simp [execLaneLockLoss, State.aligned, h]

end Loss

/-- The lane's errors are counted, LOCK_LOST is set, and it hunts. -/
def State.lossCounted (s : State) (i code disp : Nat) : State := (s.laneErrs i code disp).flag (F.LANE_STAT_LOCK_LOST i)

theorem lockLoss_camera (s : State) {i : Nat} (code disp : Nat) (hi : i < 96) :
    ∃ x, s.lockLoss i code disp = State.camCount { (s.lossCounted i code disp).toHunt i with lane := x } (i / 8) := by
  unfold State.lockLoss
  simp only [if_pos hi]
  split
  · exact ⟨_, rfl⟩
  · exact ⟨_, rfl⟩

/-- What LANE_LOCK_LOSS of a camera lane may change. -/
def lossFields (i : Nat) : List Fld :=
  [F.LANE_STAT_STATE i, F.LANE_STAT_RATE i, F.LANE_STAT_LOCK_LOST i, F.LANE_STAT_EYE_BUSY i, whole (R.LANE_EYE_RES i),
   whole (R.LANE_EQ i), whole (R.LANE_ERR i), F.CAM_LINK_LANE_MASK (i / 8), F.CAM_LINK_ACT_LINKS (i / 8)]

theorem lossCounted_frame (s : State) (i code disp : Nat) : Frame s (s.lossCounted i code disp) (lossFields i) :=
  (laneErrs_frame s i code disp (by simp [lossFields])).flag (by simp [lossFields]) Fld.fits

theorem fld_lossCounted_err (s : State) (i code disp : Nat) {f : Fld} (h : f.off = R.LANE_ERR i) :
    (s.lossCounted i code disp).fld f = (s.laneErrs i code disp).fld f :=
  fld_setFld_ne _ _ _ _ (by rw [h]; exact (laneStat_ne_laneErr i i).symm)

/-- A camera lane that loses LOCK hunts again, with its errors counted and its eye scan ended. -/
theorem lockLoss_spec (s : State) {i : Nat} (code disp : Nat) (hi : i < 96) :
    let v := s.lockLoss i code disp
    v.lst i = lsHunt ∧ v.fld (F.LANE_STAT_RATE i) = 0 ∧ v.bit (F.LANE_STAT_LOCK_LOST i) = true ∧ v.bit (F.LANE_STAT_EYE_BUSY i) = false ∧
      v.bit (F.LANE_EYE_RES_ABORT i) = (s.bit (F.LANE_EYE_RES_ABORT i) || s.bit (F.LANE_STAT_EYE_BUSY i)) ∧
      v.fld (F.LANE_ERR_CODE_CNT i) = min (s.fld (F.LANE_ERR_CODE_CNT i) + code) 65535 ∧
      v.fld (F.LANE_ERR_DISP_CNT i) = min (s.fld (F.LANE_ERR_DISP_CNT i) + disp) 32767 ∧ LaneFrame s v (lossFields i) := by
  obtain ⟨x, hv⟩ := lockLoss_camera s code disp hi
  have hunts := toHunt_left (s.lossCounted i code disp) (show i < 112 by omega)
  have hstat : ∀ f : Fld, f.off = R.LANE_STAT i → (s.lockLoss i code disp).fld f = ((s.lossCounted i code disp).toHunt i).fld f := fun f hf => by
    rw [hv]
    exact fld_of_rd_eq f (rd_camCount_ne _ _ (by rw [hf]; exact laneStat_ne_camLink _ (by omega)))
  have hres : (s.lockLoss i code disp).rd (R.LANE_EYE_RES i) = ((s.lossCounted i code disp).toHunt i).rd (R.LANE_EYE_RES i) := by
    rw [hv]
    exact rd_camCount_ne _ _ (laneEyeRes_ne_camLink _ (by omega))
  have herr : ∀ f : Fld, f.off = R.LANE_ERR i → (s.lockLoss i code disp).fld f = (s.laneErrs i code disp).fld f := fun f hf => by
    rw [hv, ← fld_lossCounted_err s i code disp hf]
    exact fld_of_rd_eq f (by rw [hf]; exact (rd_camCount_ne _ _ (laneErr_ne_camLink _ (by omega))).trans (hunts.frame.rd (huntFields_ne_laneErr i i)))
  have hcounted : (s.lossCounted i code disp).bit (F.LANE_EYE_RES_ABORT i) = s.bit (F.LANE_EYE_RES_ABORT i) ∧
      (s.lossCounted i code disp).bit (F.LANE_STAT_EYE_BUSY i) = s.bit (F.LANE_STAT_EYE_BUSY i) := by
    constructor
    · exact bit_of_rd_eq _ ((rd_setFld_ne _ _ _ (laneStat_ne_laneEyeRes i i).symm).trans (rd_laneErrs_ne _ _ _ _ (laneErr_ne_laneEyeRes i i).symm))
    · exact (bit_setFld_apart _ _ Fld.fits Fld.apart).trans (bit_of_rd_eq _ (rd_laneErrs_ne _ _ _ _ (laneStat_ne_laneErr i i)))
  refine ⟨(hstat _ rfl).trans hunts.lst, (hstat _ rfl).trans hunts.rate, ?_, (congrArg (· != 0) (hstat _ rfl)).trans hunts.busy, ?_,
    (herr _ rfl).trans (laneErrs_code s i code disp), (herr _ rfl).trans (laneErrs_disp s code disp hi), ?_⟩
  · exact ((congrArg (· != 0) (hstat _ rfl)).trans hunts.lost).trans (bit_setFld_self _ _ 1 Fld.fits rfl)
  · rw [bit_of_rd_eq _ hres, hunts.abort, hcounted.1, hcounted.2]
  · have hcount : LaneFrame s ((s.lossCounted i code disp).toHunt i) (lossFields i) :=
      (lossCounted_frame s i code disp).toLane.trans (hunts.frame.mono (by simp [huntFields, leaveFields, lossFields]))
    rw [hv]
    exact (hcount.withLane x).trans ((Frame.refl _ _).camCount (by simp [lossFields]) (by simp [lossFields])).toLane

/-! ### The next rate (R112) -/

/-- The rate that lane `i` tries next. -/
def State.nextRate (s : State) (i : Nat) : State :=
  let k := ((laneGet s.lane.tries i).getD 0 + 1) % 7
  { s with lane := { s.lane with tries := lanePut s.lane.tries i (if k = 0 then none else some k) } }

theorem exec_rateHuntDwell {i : Fin 114} {s : State} (hi : i.val < 96) (h : s.lst i = lsHunt) : exec (.rateHuntDwell i) s = done s (s.nextRate i) := by
  change execRateHuntDwell i s = _
  simp [execRateHuntDwell, hi, h, State.nextRate]

theorem tries_nextRate (s : State) (i : Nat) : (laneGet (s.nextRate i).lane.tries i).getD 0 = ((laneGet s.lane.tries i).getD 0 + 1) % 7 := by
  simp only [State.nextRate, laneGet_lanePut]
  split
  · next h => exact h.symm
  · rfl

/-! ### O22 -/

/-- Settles O22: each kind of lane that locks shows its rate and its state, and what counts or follows it; a camera lane that loses LOCK hunts. -/
theorem lanesLockAndAreLost : Obligations.LanesLockAndAreLost := by
  unfold Obligations.LanesLockAndAreLost
  refine ⟨?waits, ?joins, ?spare, ?ethernet, fun i skew s h => completes_of_done (exec_laneLock_unmoved skew h) rfl, ?loss,
    fun i code disp s h => completes_of_done (exec_laneLockLoss_unmoved h) rfl, ?dwell⟩
  case waits =>
    intro i skew s hunts hi rate hrate
    refine completes_of_done ((exec_laneLock_camera skew hunts hi).trans (congrArg (done s) (cxLock_waits (s := s.lossForgotten i) hi hrate))) ⟨?_, ?_, ?_⟩
    · exact lst_laneShows _ i _ (by decide)
    · exact rate_laneShows _ i _ (huntRate_lt s i)
    · exact laneShows_frame _ i _ _ (by simp) (by simp)
  case joins =>
    intro i skew s hunts hi hrate hlinks hset hup
    have hset' : vget s.lane.set (i / 8) 0 = 0 ∨ bitN (vget s.lane.set (i / 8) 0) (i % 8) = true := by
      have hn := hset ⟨i / 8, by omega⟩ rfl
      rwa [← vget_fin (d := 0)] at hn
    have hserv := lst_laneShows (s.lossForgotten i) i (s.huntRate i) (x := lsServ) (by decide)
    obtain ⟨hmask, hact⟩ := camCount_shows ((s.lossForgotten i).laneShows i (s.huntRate i) lsServ) (i / 8)
    refine completes_of_done ((exec_laneLock_camera skew hunts hi).trans
      (congrArg (done s) (cxLock_joins (s := s.lossForgotten i) hi hrate hlinks hset' hup))) ⟨?_, ?_, ?_, ?_⟩
    · exact (lst_camCount _ _ i.isLt).trans hserv
    · have hlane : 8 * (i.val / 8) + i.val % 8 = i.val := Nat.div_add_mod i.val 8
      exact (congrArg (bitN · (i % 8)) hmask).trans ((bitN_camMask _ (i / 8) ⟨i % 8, Nat.mod_lt _ (by decide)⟩).trans (by simp [hlane, hserv]))
    · exact hact.trans (congrArg (popcount 8) hmask.symm)
    · exact (laneShows_frame _ i _ _ (by simp) (by simp)).camCount (by simp) (by simp)
  case spare =>
    intro i skew s hunts h1 h2 hlog
    refine completes_of_done ((exec_laneLock_nimeb skew hunts h1 h2).trans
      (congrArg (done s) (nlLock_spare (s := (s.lossForgotten i).skewShown i skew.toNat) hlog))) ⟨?_, ?_, ?_⟩
    · exact lst_laneShows _ i _ (by decide)
    · exact (laneGet_lanePut s.lane.skew i (some skew.toNat) :)
    · exact laneShows_frame _ i _ _ (by simp) (by simp)
  case ethernet =>
    intro i skew s hunts h1 hber
    have hready : (⟨R.TOP_READY, 12 + (i.val - 112), 1⟩ : Fld).lo + (⟨R.TOP_READY, 12 + (i.val - 112), 1⟩ : Fld).w ≤ 32 :=
      (by omega : 12 + (i.val - 112) + 1 ≤ 32)
    have hne : R.LANE_STAT i ≠ R.TOP_READY := by simp only [R.LANE_STAT, R.TOP_READY]; omega
    refine completes_of_done ((exec_laneLock_ethernet skew hunts h1).trans
      (congrArg (done s) (epLock_serves (s := s.lossForgotten i) h1 i.isLt hber))) ⟨?_, ?_, ?_, ?_⟩
    · exact (fld_setFld_ne _ _ _ _ hne).trans (lst_laneShows _ i _ (by decide))
    · exact bit_setFld_self _ _ 1 hready rfl
    · exact (fld_setFld_ne _ _ _ _ hne).trans (rate_laneShows _ i _ (by split <;> decide))
    · exact (laneShows_frame _ i _ _ (by simp) (by simp)).flag (by simp) hready
  case loss =>
    intro i code disp s hi h
    have haligned : s.aligned i = true := by rcases h with h | h <;> simp [State.aligned, h]
    exact completes_of_done (exec_laneLockLoss_aligned haligned) (lockLoss_spec s code.toNat disp.toNat hi)
  case dwell =>
    intro i s hi h
    exact completes_of_done (exec_rateHuntDwell hi h) ⟨tries_nextRate s i, Frame.refl _ _⟩

end Sys2Proof.Machine
end

section
/-!
SUPPORT. An entry posted to a device-to-host queue that has room (R356, R357, R376): what it changes, bit by bit.
-/
namespace Sys2Proof.Machine

/-! ### Frames up to what queues hide -/

/-- From `s` to `v` nothing changes but the listed fields, what queues hide and what is sent. -/
def QueueFrame (s v : State) (fs : List Fld) : Prop := Frame { s with hq := v.hq, out := v.out } v fs

theorem Frame.toQueue {s v : State} {fs : List Fld} (h : Frame s v fs) : QueueFrame s v fs := by
  have hhq : v.hq = s.hq := (congrArg State.hq h.rest :)
  have hout : v.out = s.out := (congrArg State.out h.rest :)
  refine h.of_eq rfl rfl rfl rfl rfl rfl ?_
  rw [hhq, hout]
  exact h.rest

theorem QueueFrame.trans {s t v : State} {fs : List Fld} (h : QueueFrame s t fs) (k : QueueFrame t v fs) : QueueFrame s v fs :=
  ⟨fun off => (k.regs off).trans (h.regs off), fun a => (k.mem a).trans (h.mem a),
    k.rest.trans (congrArg (fun x : State => { x with hq := v.hq, out := v.out }) h.rest)⟩

theorem QueueFrame.refl (s : State) (fs : List Fld) : QueueFrame s s fs := (Frame.refl s fs).toQueue

theorem queueFrame_withHq (s : State) (x : HostqS) (fs : List Fld) : QueueFrame s { s with hq := x } fs := Frame.refl _ fs

theorem queueFrame_emit (s : State) (o : Out) (fs : List Fld) : QueueFrame s (s.emit o) fs := by
  rw [emit_eq]
  exact Frame.refl _ fs

theorem queueFrame_emits (s : State) (l : List Out) (fs : List Fld) : QueueFrame s (l.foldl State.emit s) fs := by
  induction l generalizing s with
  | nil => exact QueueFrame.refl s fs
  | cons o l ih => exact (queueFrame_emit s o fs).trans (ih _)

theorem hq_emits (s : State) (l : List Out) : (l.foldl State.emit s).hq = s.hq := by
  induction l generalizing s with
  | nil => rfl
  | cons o l ih => exact (ih _).trans (emit_hq s o)

/-! ### Interrupts and write-backs (R357, R376) -/

theorem queueFrame_msix (s : State) {vec : Nat} {fs : List Fld} (h : whole (R.MSIX_PBA (vec / 32)) ∈ fs) : QueueFrame s (s.msix vec) fs := by
  unfold State.msix
  split
  · exact QueueFrame.refl s fs
  · split
    · exact QueueFrame.refl s fs
    · split
      · exact ((Frame.refl s fs).putWord _ h).toQueue
      · exact queueFrame_emit s _ fs

theorem queueFrame_signalQ (s : State) (c : Nat) {fs : List Fld} (h : ∀ k < 2, whole (R.MSIX_PBA k) ∈ fs) : QueueFrame s (s.signalQ c) fs := by
  unfold State.signalQ
  split
  · exact QueueFrame.refl s fs
  · extract_lets src s1
    have hvec : s1.fld (F.HQ_CFG_VEC (32 + c)) < 64 := fld_lt s1 (F.HQ_CFG_VEC (32 + c))
    exact (queueFrame_withHq s _ fs).trans (queueFrame_msix s1 (h _ (by omega)))

theorem queueFrame_writeBack (s : State) (n v : Nat) (fs : List Fld) : QueueFrame s (s.writeBack n v) fs := by
  unfold State.writeBack
  extract_lets a
  split
  · exact QueueFrame.refl s fs
  · exact queueFrame_emit s _ fs

theorem hq_msix (s : State) (vec : Nat) : (s.msix vec).hq = s.hq := by
  obtain ⟨_, _, h⟩ := msix_eq s vec
  rw [h]

theorem posted_signalQ (s : State) (c : Nat) : (s.signalQ c).hq.posted = s.hq.posted := by
  unfold State.signalQ
  split
  · rfl
  · extract_lets src s1
    exact (congrArg HostqS.posted (hq_msix s1 _)).trans rfl

theorem hq_writeBack (s : State) (n v : Nat) : (s.writeBack n v).hq = s.hq := by
  unfold State.writeBack
  extract_lets a
  split
  · rfl
  · exact emit_hq s _

/-! ### An entry is posted (R356) -/

/-- The registers' bits that posting an entry to Q(32 + c) may change. -/
def postFields (c : Nat) : List Fld := [F.HQ_TAIL_OFS (32 + c), F.HQ_STAT_FULL (32 + c), whole (R.MSIX_PBA 0), whole (R.MSIX_PBA 1)]

theorem mem_postFields_msix (c : Nat) : ∀ k < 2, whole (R.MSIX_PBA k) ∈ postFields c := by
  intro k hk
  interval_cases k <;> simp [postFields]

/-- An entry posted to a queue in use stands at the end of what was posted. -/
theorem pushEntry_posts {s : State} {c : Nat} (e : HostEntry) (irq : Bool) (h : s.bit (F.HQ_CFG_EN (32 + c)) = true) :
    (s.pushEntry c e irq).hq.posted = s.hq.posted ++ [(c, e)] ∧ QueueFrame s (s.pushEntry c e irq) (postFields c) := by
  have hused : ¬ (!s.bit (F.HQ_CFG_EN (32 + c))) = true := by simp [h]
  unfold State.pushEntry
  rw [if_neg hused]
  extract_lets n t0 t bs s1 s2 u src s3 s4 ith
  have h1 : QueueFrame s s1 (postFields c) := queueFrame_emits s _ _
  have h2 : QueueFrame s s2 (postFields c) := h1.trans ((Frame.refl s1 _).setFld (f := F.HQ_TAIL_OFS n) t (by simp [postFields, n]) Fld.fits).toQueue
  have h3 : QueueFrame s s3 (postFields c) := h2.trans (queueFrame_withHq s2 _ _)
  have hfull : QueueFrame s3 (s3.updFull c) (postFields c) :=
    ((Frame.refl s3 _).setBit (f := F.HQ_STAT_FULL (32 + c)) _ (by simp [postFields]) Fld.fits).toQueue
  have h4 : QueueFrame s s4 (postFields c) := (h3.trans hfull).trans (queueFrame_writeBack _ n t _)
  have hposted : s4.hq.posted = s.hq.posted ++ [(c, e)] := by
    have hold : s2.hq = s.hq := hq_emits s _
    exact (congrArg HostqS.posted (hq_writeBack (s3.updFull c) n t)).trans (congrArg (fun x : HostqS => x.posted ++ [(c, e)]) hold)
  split
  · exact ⟨(posted_signalQ s4 c).trans hposted, h4.trans (queueFrame_signalQ s4 c (mem_postFields_msix c))⟩
  · exact ⟨hposted, h4⟩

/-- A queue that has room for an entry takes it. -/
theorem postOrDrop_posts {s : State} {c : Nat} {e : HostEntry} (h : s.hasRoom c e.ringBytes = true) :
    (s.postOrDrop c e).hq.posted = s.hq.posted ++ [(c, e)] ∧ QueueFrame s (s.postOrDrop c e) (postFields c) := by
  have hen : s.bit (F.HQ_CFG_EN (32 + c)) = true := by
    unfold State.hasRoom at h
    simp only [Bool.and_eq_true] at h
    exact h.1
  rw [State.postOrDrop, if_pos h]
  exact pushEntry_posts e false hen

end Sys2Proof.Machine
end

section
/-!
PROOFS. Camera packets: their checks, their order by tag, the triggers and control packets of a camera, and a lost master (R111 to R113, R116, R136, R137,
R370).
-/
namespace Sys2Proof.Machine

/-! ### Tag order (R113) -/

theorem tagAhead_self (t : Nat) : tagAhead t t = 0 := by
  unfold tagAhead
  omega

/-- With no packet held back, the packet that is next joins the line under way, and one that is ahead is held back. -/
theorem order_alone {g : IngS} {k : HeldPkt} (h : g.ahead = []) :
    g.order k = takeAhead 1 { g with nextTag := some (g.nextTag.getD k.tag), ahead := [k] } := by
  simp [IngS.order, h]

/-- The next packet in tag order joins, unless it opens a line while one is under way. -/
theorem order_next {g : IngS} {k : HeldPkt} (h : g.ahead = []) (hnext : g.nextTag = none ∨ g.nextTag = some k.tag)
    (hline : k.opens = none ∨ g.lineOpen = false) : g.order k = g.takePkt k := by
  have htag : g.nextTag.getD k.tag = k.tag := by rcases hnext with hn | hn <;> simp [hn]
  have hopen : ¬ (k.opens.isSome = true ∧ g.lineOpen = true) := by rcases hline with hl | hl <;> simp [hl]
  have hjoins : ¬ (some k.tag ≠ some k.tag ∨ (k.opens.isSome = true ∧
      IngS.lineOpen { g with nextTag := some k.tag, ahead := [k] } = true)) := by
    rintro (hne | hop)
    · exact hne rfl
    · exact hopen hop
  rw [order_alone h, htag]
  simp only [takeAhead, if_neg hjoins]
  simp [IngS.takePkt, h]

/-- A packet ahead of its turn is held back. -/
theorem order_ahead {g : IngS} {k : HeldPkt} {x : Nat} (h : g.ahead = []) (hx : g.nextTag = some x) (hne : k.tag ≠ x) :
    g.order k = { g with ahead := [k] } := by
  rw [order_alone h]
  simp [takeAhead, hx, hne]

/-! ### What CXP_PACKET hands over (R136) -/

/-- The tag that camera `n` takes next, `t` where it has taken none. -/
def State.tagDue (s : State) (n : Fin 12) (t : Nat) : Nat := s.ing[n].nextTag.getD t

theorem tagDue_of_next {s : State} {n : Fin 12} {t : Nat} (h : s.ing[n].nextTag = none ∨ s.ing[n].nextTag = some t) : s.tagDue n t = t := by
  rcases h with h | h <;> rw [State.tagDue, h] <;> rfl

theorem ingS_fin (s : State) (n : Fin 12) : s.ingS n = s.ing[n] := vget_fin _ _ _

theorem modIng_fin (s : State) (n : Fin 12) (f : IngS → IngS) : s.modIng n f = { s with ing := s.ing.set n (f s.ing[n]) } := by
  simp [State.modIng, State.ingS]

/-- A packet as the camera's line takes it; of one that fails a check only its place in the order is left. -/
def heldPkt (tag : BitVec 8) (bad first : Bool) (line ofs : BitVec 16) (pix : List (List Nat)) : HeldPkt :=
  { tag := tag.toNat, opens := if first && !bad then some line.toNat else none, ofs := if bad then 0 else ofs.toNat, pix := if bad then [] else pix }

/-- Waking ING changes no flag, so that it does not tell at the end of a command (R376). -/
theorem done_wake_ing (s v : State) : done (s.wakeBlock 0x06) v = done s v := by
  rw [done_eq, done_eq, State.settle, State.settle, faultSum_wake_ing]

section Packet
variable {n : Fin 12} {link fmt : Fin 8} {late crcOk first : Bool} {tag stream : BitVec 8} {line ofs : BitVec 16} {pix : List (List Nat)} {s : State}

theorem exec_cxpPacket_unmoved (h : s.lst (8 * n + link) ≠ lsServ ∨ s.camUsed n = false) :
    exec (.cxpPacket n link late tag stream crcOk first fmt line ofs pix) s = done s s := by
  change execCxpPacket n link late tag stream crcOk first fmt line ofs pix s = _
  rcases h with h | h <;> simp [execCxpPacket, h]

variable (hserv : s.lst (8 * n + link) = lsServ) (hused : s.camUsed n = true)
include hserv hused

theorem exec_cxpPacket_late (h : late = true ∨ 128 ≤ tagAhead tag.toNat (s.tagDue n tag.toNat)) :
    exec (.cxpPacket n link late tag stream crcOk first fmt line ofs pix) s =
      done s ((s.flag (F.CAM_LINK_SKEW n)).modIng n (fun g => g.passTag tag.toNat)) := by
  have hgo : (late || decide (128 ≤ tagAhead tag.toNat ((s.ingS n).nextTag.getD tag.toNat))) = true := by
    rw [ingS_fin]
    simpa [State.tagDue] using h
  change execCxpPacket n link late tag stream crcOk first fmt line ofs pix s = _
  simp only [execCxpPacket, hserv, hused, bne_self_eq_false, Bool.not_true, Bool.or_false, Bool.false_eq_true, if_false, hgo, if_true]

theorem exec_cxpPacket_otherStream (h : tagAhead tag.toNat (s.tagDue n tag.toNat) < 128) (hstream : stream.toNat ≠ s.fld (F.ING_FMT_STREAM_ID n)) :
    exec (.cxpPacket n link false tag stream crcOk first fmt line ofs pix) s = done s ((s.wakeBlock 0x06).pktDrop n (F.ING_STAT_STREAM_ERR n)) := by
  have hgo : ¬ 128 ≤ tagAhead tag.toNat ((s.ingS n).nextTag.getD tag.toNat) := by
    rw [ingS_fin]
    exact not_le_of_gt h
  change execCxpPacket n link false tag stream crcOk first fmt line ofs pix s = _
  simp [execCxpPacket, hserv, hused, hgo, hstream]

theorem exec_cxpPacket_ownStream (h : tagAhead tag.toNat (s.tagDue n tag.toNat) < 128) (hstream : stream.toNat = s.fld (F.ING_FMT_STREAM_ID n)) :
    let bad := !crcOk || (first && fmt.val != s.fld (F.ING_FMT_FMT n))
    let t := s.wakeBlock 0x06
    exec (.cxpPacket n link false tag stream crcOk first fmt line ofs pix) s =
      done s ((if bad then t.pktDrop n (if crcOk then F.ING_STAT_STREAM_ERR n else F.ING_STAT_CRC_ERR n) else t).modIng n
        (fun g => g.order (heldPkt tag bad first line ofs pix))) := by
  intro bad t
  have hgo : ¬ 128 ≤ tagAhead tag.toNat ((s.ingS n).nextTag.getD tag.toNat) := by
    rw [ingS_fin]
    exact not_le_of_gt h
  change execCxpPacket n link false tag stream crcOk first fmt line ofs pix s = _
  simp only [execCxpPacket, hserv, hused, hgo, hstream, bne_self_eq_false, Bool.not_true, Bool.or_false, Bool.false_eq_true, if_false, decide_false,
    ne_eq, not_true_eq_false]
  rw [done_wake_ing]
  cases crcOk <;> rfl

/-- A packet that fails its CRC or has another pixel format is discarded, and leaves its place in the order empty. -/
theorem exec_cxpPacket_faulty (h : tagAhead tag.toNat (s.tagDue n tag.toNat) < 128) (hstream : stream.toNat = s.fld (F.ING_FMT_STREAM_ID n))
    (hbad : crcOk = false ∨ (first = true ∧ fmt.val ≠ s.fld (F.ING_FMT_FMT n))) :
    exec (.cxpPacket n link false tag stream crcOk first fmt line ofs pix) s =
      done s (((s.wakeBlock 0x06).pktDrop n (if crcOk then F.ING_STAT_STREAM_ERR n else F.ING_STAT_CRC_ERR n)).modIng n
        (fun g => g.order { tag := tag.toNat, opens := none, ofs := 0, pix := [] })) := by
  have hb : (!crcOk || (first && fmt.val != s.fld (F.ING_FMT_FMT n))) = true := by
    rcases hbad with h | ⟨h1, h2⟩
    · simp [h]
    · simp [h1, h2]
  have hexec := exec_cxpPacket_ownStream (link := link) (fmt := fmt) (crcOk := crcOk) (first := first) (line := line) (ofs := ofs) (pix := pix)
    hserv hused h hstream
  simpa only [hb, if_true, heldPkt, Bool.not_true, Bool.and_false, Bool.false_eq_true, if_false] using hexec

/-- A packet that passes its checks goes to its place in the order. -/
theorem exec_cxpPacket_good (h : tagAhead tag.toNat (s.tagDue n tag.toNat) < 128) (hstream : stream.toNat = s.fld (F.ING_FMT_STREAM_ID n))
    (hgood : first = false ∨ fmt.val = s.fld (F.ING_FMT_FMT n)) :
    exec (.cxpPacket n link false tag stream true first fmt line ofs pix) s =
      done s ((s.wakeBlock 0x06).modIng n (fun g => g.order (heldPkt tag false first line ofs pix))) := by
  have hb : (!true || (first && fmt.val != s.fld (F.ING_FMT_FMT n))) = false := by rcases hgood with h | h <;> simp [h]
  have hexec := exec_cxpPacket_ownStream (link := link) (fmt := fmt) (crcOk := true) (first := first) (line := line) (ofs := ofs) (pix := pix)
    hserv hused h hstream
  simpa only [hb, Bool.false_eq_true, if_false] using hexec

end Packet

/-! ### A packet that is discarded (R136) -/

theorem ingStat_ne_cnt2 (n m : Nat) : R.ING_STAT n ≠ R.ING_CNT2 m := by simp only [R.ING_STAT, R.ING_CNT2]; omega

theorem ingCnt2_ne_class (n : Fin 12) : (F.ING_CNT2_A n).off ≠ R.PWR_CLASS 0x06 := by
  simp only [F.ING_CNT2_A, R.ING_CNT2, R.PWR_CLASS]
  omega

/-- A flag of ING_STAT and one count of discarded packets. -/
theorem pktDrop_spec (s : State) (n : Nat) {f : Fld} (hoff : f.off = R.ING_STAT n) (hfits : f.lo + f.w ≤ 32) (hw : f.w = 1) :
    (s.pktDrop n f).bit f = true ∧ (s.pktDrop n f).fld (F.ING_CNT2_A n) = min (s.fld (F.ING_CNT2_A n) + 1) (2 ^ (F.ING_CNT2_A n).w - 1) ∧
      Frame s (s.pktDrop n f) [f, F.ING_CNT2_A n, F.ING_CNT2_SAT n] := by
  have hne : f.off ≠ R.ING_CNT2 n := by rw [hoff]; exact ingStat_ne_cnt2 n n
  unfold State.pktDrop
  refine ⟨?_, ?_, ?_⟩
  · exact (bit_of_rd_eq f (rd_incCnt_ne _ _ _ hne hne)).trans (bit_setFld_self s f 1 hfits hw)
  · rw [fld_incCnt_self _ _ _ Fld.fits Fld.fits Fld.apart, flag_eq, fld_setFld_ne s f _ 1 hne.symm]
  · exact ((Frame.refl s _).flag (by simp) hfits).incCnt (by simp) Fld.fits (by simp) Fld.fits

theorem ing_pktDrop (s : State) (n : Nat) (f : Fld) : (s.pktDrop n f).ing = s.ing := incCnt_ing _ _ _

theorem ing_wakeBlock (s : State) (b : Nat) : (s.wakeBlock b).ing = s.ing := by
  obtain ⟨_, h⟩ := wakeBlock_eq s b
  rw [h]

theorem modIng_woken (s : State) (n : Fin 12) (f : IngS → IngS) :
    (s.wakeBlock 0x06).modIng n f = { s.wakeBlock 0x06 with ing := s.ing.set n (f s.ing[n]) } := by
  rw [modIng_fin, ing_wakeBlock]

/-- What cameras hide moves at both ends of a frame. -/
theorem Frame.withIng {s v : State} {fs : List Fld} (h : Frame s v fs) (x : Vector IngS 12) : Frame { s with ing := x } { v with ing := x } fs :=
  h.of_eq rfl rfl rfl rfl rfl rfl (congrArg (fun y : State => { y with ing := x }) h.rest)

/-- A packet is discarded: its flag, one count, and what is left of the camera's order. -/
theorem pktDrop_discards (s : State) (n : Fin 12) (g : IngS → IngS) {f : Fld} (hoff : f.off = R.ING_STAT n) (hfits : f.lo + f.w ≤ 32) (hw : f.w = 1) :
    let v := ((s.wakeBlock 0x06).pktDrop n f).modIng n g
    v.bit f = true ∧ v.fld (F.ING_CNT2_A n) = min (s.fld (F.ING_CNT2_A n) + 1) (2 ^ (F.ING_CNT2_A n).w - 1) ∧
      Frame { s.wakeBlock 0x06 with ing := s.ing.set n (g s.ing[n]) } v [f, F.ING_CNT2_A n, F.ING_CNT2_SAT n] := by
  obtain ⟨hbit, hcnt, hframe⟩ := pktDrop_spec (s.wakeBlock 0x06) n hoff hfits hw
  refine ⟨hbit, hcnt.trans (by rw [fld_wakeBlock_ne s _ _ (ingCnt2_ne_class n)]), ?_⟩
  rw [modIng_fin, ing_pktDrop, ing_wakeBlock]
  exact hframe.withIng _

theorem modIng_self (s : State) (n : Fin 12) : s.modIng n (fun g => g) = s := by
  rw [modIng_fin, Fin.getElem_fin, Vector.set_getElem_self]

/-! ### Triggers, control packets and the master of a camera (R112, R116, R136, R370) -/

theorem exec_downlinkTrigger_present {n : Fin 12} {s : State} (h : s.has .cam n = true) :
    exec (.downlinkTrigger n) s = done s ((s.flag (F.ING_STAT_DL_TRIG n)).incCnt (F.ING_CNT2_B n) (F.ING_CNT2_SAT n)) := by
  change execDownlinkTrigger n s = _
  simp [execDownlinkTrigger, h]

theorem exec_downlinkTrigger_absent {n : Fin 12} {s : State} (h : s.has .cam n = false) : exec (.downlinkTrigger n) s = done s s := by
  change execDownlinkTrigger n s = _
  simp [execDownlinkTrigger, h]

theorem exec_cxpCtrlReceived_taken {n : Fin 12} {hb : Bool} {bs : List Byte} {s : State} (h : s.masterUp n = true) (hen : s.bit F.HQ_CXP_CFG_EN = true) :
    exec (.cxpCtrlReceived n hb bs) s =
      done s (s.postOrDrop (s.fld F.HQ_CXP_CFG_QID) (.pkt { opc := 0x8050, param0 := n + 256 * b2n hb, data := bs })) := by
  change execCxpCtrlReceived n hb bs s = _
  simp [execCxpCtrlReceived, h, hen]

theorem exec_cxpCtrlReceived_unmoved {n : Fin 12} {hb : Bool} {bs : List Byte} {s : State} (h : s.masterUp n = false ∨ s.bit F.HQ_CXP_CFG_EN = false) :
    exec (.cxpCtrlReceived n hb bs) s = done s s := by
  change execCxpCtrlReceived n hb bs s = _
  rcases h with h | h <;> simp [execCxpCtrlReceived, h]

theorem readyFld_camera {n : Nat} (h : n < 12) : readyFld (32 + n) = ⟨R.TOP_READY_IO, n, 1⟩ := by
  rw [readyFld, if_neg (by omega), Nat.add_mod_left, Nat.mod_eq_of_lt (by omega)]

/-- The record of a lost master of camera `n` (R446). -/
def State.masterFault (s : State) (n : Fin 12) : State := s.fault 0x04 0x4 (8 * n) (w5 := n) (w6 := s.fld (F.CAM_LINK_ACT_LINKS n))

/-- The ready bit of a camera that is up falls, and a record names it. -/
theorem exec_masterLossTimeout_falls {n : Fin 12} {s : State} (hup : s.bit ⟨R.TOP_READY_IO, n, 1⟩ = true) (h : s.lst (8 * n) ≠ lsServ) :
    exec (.masterLossTimeout n) s = done s (((s.masterFault n).setFld ⟨R.TOP_READY_IO, n, 1⟩ 0).fault 0x07 0x1 (32 + n)) := by
  have hstays : (s.masterFault n).bit ⟨R.TOP_READY_IO, n, 1⟩ = true :=
    (bit_of_rd_eq _ ((recordFrame_fault s _ _ _ _ _ _ _).regs R.TOP_READY_IO (by decide))).trans hup
  have hfall := setReady_false (s.masterFault n) (32 + n)
  rw [readyFld_camera n.isLt, hstays, if_pos rfl] at hfall
  change execMasterLossTimeout n s = _
  simp only [execMasterLossTimeout, hup, bne_iff_ne.mpr h, Bool.and_self, if_true]
  exact congrArg (done s) hfall

theorem exec_masterLossTimeout_unmoved {n : Fin 12} {s : State} (h : s.bit ⟨R.TOP_READY_IO, n, 1⟩ = false ∨ s.lst (8 * n) = lsServ) :
    exec (.masterLossTimeout n) s = done s s := by
  change execMasterLossTimeout n s = _
  rcases h with h | h <;> simp [execMasterLossTimeout, h]

/-! ### O23 -/

/-- Settles O23: each check turns a packet away before the next one is made; a packet that passes all of them joins or waits by its tag. -/
theorem cameraPacketsAreCheckedAndKept : Obligations.CameraPacketsAreCheckedAndKept := by
  unfold Obligations.CameraPacketsAreCheckedAndKept
  refine ⟨?late, ?faulty, ?joins, ?waits, fun n link fmt late tag stream crcOk first line ofs pix s h => completes_of_done (exec_cxpPacket_unmoved h) rfl,
    ?trigger, fun n s h => completes_of_done (exec_downlinkTrigger_absent h) rfl, ?control,
    fun n hb bs s h => completes_of_done (exec_cxpCtrlReceived_unmoved h) rfl, ?master,
    fun n s h => completes_of_done (exec_masterLossTimeout_unmoved h) rfl⟩
  case late =>
    intro n link fmt late tag stream crcOk first line ofs pix s hserv hused hlate
    refine completes_of_done (exec_cxpPacket_late hserv hused hlate) ⟨bit_setFld_self s _ 1 Fld.fits rfl, ?_⟩
    rw [modIng_fin]
    exact ((Frame.refl s _).flag (by simp) Fld.fits).withIng _
  case faulty =>
    intro n link fmt tag stream crcOk first line ofs pix s hserv hused hdue wrong hfault flag g
    by_cases hwrong : wrong
    · have hdrop := pktDrop_discards s n (fun g => g) (f := F.ING_STAT_STREAM_ERR n) rfl Fld.fits rfl
      rw [modIng_self] at hdrop
      have hflag : flag = F.ING_STAT_STREAM_ERR n := by simp [flag, hwrong]
      have hg : g = s.ing[n] := by simp [g, hwrong]
      rw [hflag, hg]
      exact completes_of_done (exec_cxpPacket_otherStream hserv hused hdue hwrong) hdrop
    · have hbad : crcOk = false ∨ (first = true ∧ fmt.val ≠ s.fld (F.ING_FMT_FMT n)) := hfault.resolve_left hwrong
      have hflag : flag = if crcOk then F.ING_STAT_STREAM_ERR n else F.ING_STAT_CRC_ERR n := by cases crcOk <;> simp [flag, hwrong]
      have hg : g = s.ing[n].order { tag := tag.toNat, opens := none, ofs := 0, pix := [] } := by simp [g, hwrong]
      rw [hflag, hg]
      refine completes_of_done (exec_cxpPacket_faulty hserv hused hdue (not_not.mp hwrong) hbad) ?_
      cases crcOk
      · exact pktDrop_discards s n _ rfl Fld.fits rfl
      · exact pktDrop_discards s n _ rfl Fld.fits rfl
  case joins =>
    intro n link fmt tag stream first line ofs pix s hserv hused hstream hfmt g hahead hnext hline
    have hdue : tagAhead tag.toNat (s.tagDue n tag.toNat) < 128 := by
      rw [tagDue_of_next hnext, tagAhead_self]
      decide
    refine completes_of_done (exec_cxpPacket_good hserv hused hdue hstream hfmt) ?_
    have horder : g.order (heldPkt tag false first line ofs pix) = g.takePkt (heldPkt tag false first line ofs pix) := by
      refine order_next hahead hnext ?_
      rcases hline with h | ⟨h1, h2⟩
      · exact .inl (by simp [heldPkt, h])
      · exact .inr (by simp [IngS.lineOpen, h1, h2])
    rw [modIng_woken, show s.ing[n] = g from rfl, horder]
    cases first <;> rfl
  case waits =>
    intro n link fmt tag stream first line ofs pix s hserv hused hstream hfmt g hahead hplace hsome
    obtain ⟨x, hx⟩ := Option.isSome_iff_exists.mp hsome
    obtain ⟨hpos, hlt⟩ := hplace x hx
    have hdue : tagAhead tag.toNat (s.tagDue n tag.toNat) < 128 := by
      rw [State.tagDue, show s.ing[n].nextTag = some x from hx]
      exact hlt
    have hne : tag.toNat ≠ x := by
      rintro rfl
      rw [tagAhead_self] at hpos
      exact lt_irrefl 0 hpos
    refine completes_of_done (exec_cxpPacket_good hserv hused hdue hstream hfmt) ?_
    have horder : g.order (heldPkt tag false first line ofs pix) = { g with ahead := [heldPkt tag false first line ofs pix] } := order_ahead hahead hx hne
    rw [modIng_woken, show s.ing[n] = g from rfl, horder]
    cases first <;> rfl
  case trigger =>
    intro n s h
    have hne : (F.ING_STAT_DL_TRIG n).off ≠ R.ING_CNT2 n := ingStat_ne_cnt2 n n
    refine completes_of_done (exec_downlinkTrigger_present h) ⟨?_, ?_, ?_⟩
    · exact (bit_of_rd_eq _ (rd_incCnt_ne _ _ _ hne hne)).trans (bit_setFld_self s _ 1 Fld.fits rfl)
    · rw [fld_incCnt_self _ _ _ Fld.fits Fld.fits Fld.apart, flag_eq, fld_setFld_ne s _ _ 1 hne.symm]
    · exact ((Frame.refl s _).flag (by simp) Fld.fits).incCnt (by simp) Fld.fits (by simp) Fld.fits
  case control =>
    intro n hb bs s hup hen c e hroom
    exact completes_of_done (exec_cxpCtrlReceived_taken hup hen) (postOrDrop_posts hroom)
  case master =>
    intro n s hup h
    have hfits : (⟨R.TOP_READY_IO, n, 1⟩ : Fld).lo + (⟨R.TOP_READY_IO, n, 1⟩ : Fld).w ≤ 32 := (by omega : n.val + 1 ≤ 32)
    exact completes_of_done (exec_masterLossTimeout_falls hup h) ⟨_, rfl, bit_setFld_self _ _ 0 hfits rfl, (Frame.refl _ _).setFld 0 (by simp) hfits⟩

end Sys2Proof.Machine
end

section
/-!
PROOFS. Lanes that are retired (R132 to R134), and cameras that go on with fewer links (R134).
-/
namespace Sys2Proof.Machine

/-! ### What the retirement of a lane is followed by -/

/-- The registers that may change after lane `i` of camera or port `n` has been retired: the ready bits, NO_REDUCE, the port's state, and those of records. -/
def followReg (n off : Nat) : Bool :=
  off == R.CAM_LINK n || off == R.NP_STAT n || off == R.TOP_READY || off == R.TOP_READY_IO || recordReg off

/-- From `s` to `v` only those registers change, and the lanes noted as lost are the same. -/
structure FollowFrame (s v : State) (n : Nat) : Prop where
  regs : FrameRegs s v (followReg n)
  lost : v.lane.lost = s.lane.lost

theorem FollowFrame.refl (s : State) (n : Nat) : FollowFrame s s n := ⟨fun _ _ => rfl, rfl⟩

theorem FollowFrame.trans {s t v : State} {n : Nat} (h : FollowFrame s t n) (k : FollowFrame t v n) : FollowFrame s v n :=
  ⟨fun off ho => (k.regs off ho).trans (h.regs off ho), k.lost.trans h.lost⟩

theorem lane_of_offRecord {s v : State} (h : v.offRecord = s.offRecord) : v.lane = s.lane := by
  rw [show v.lane = v.offRecord.lane from rfl, h]
  rfl

theorem followFrame_fault (s : State) (n src cause inst w5 w6 w7 : Nat) (fatal : Bool) : FollowFrame s (s.fault src cause inst w5 w6 w7 fatal) n := by
  have h := recordFrame_fault s src cause inst w5 w6 w7 fatal
  refine ⟨fun off ho => h.regs off ?_, congrArg LaneS.lost (lane_of_offRecord h.rest)⟩
  simp only [followReg, Bool.or_eq_false_iff] at ho
  exact ho.2

theorem followFrame_setReady (s : State) (n k : Nat) (b : Bool) : FollowFrame s (s.setReady k b) n := by
  have h := setReady_frame s k b
  refine ⟨fun off ho => h.regs off ?_, congrArg LaneS.lost (lane_of_offRecord h.rest)⟩
  simp only [followReg, Bool.or_eq_false_iff] at ho
  obtain ⟨⟨⟨-, hready⟩, hio⟩, hrec⟩ := ho
  change (off == (readyFld k).off || recordReg off) = false
  rw [hrec, Bool.or_false, readyFld]
  split
  · exact hready
  · exact hio

theorem followFrame_setFld (s : State) {n : Nat} {f : Fld} (v : Nat) (h : f.off = R.CAM_LINK n ∨ f.off = R.NP_STAT n) : FollowFrame s (s.setFld f v) n := by
  refine ⟨fun off ho => rd_setFld_ne s f v ?_, rfl⟩
  simp only [followReg, Bool.or_eq_false_iff, beq_eq_false_iff_ne] at ho
  obtain ⟨⟨⟨⟨hcam, hport⟩, -⟩, -⟩, -⟩ := ho
  rcases h with h | h <;> rw [h] <;> assumption

theorem followFrame_nimCtrl (s : State) (n p ty : Nat) (payload : List Byte) : FollowFrame s (s.nimCtrl p ty payload) n :=
  ⟨fun off _ => emit_rd _ _ off, congrArg LaneS.lost (emit_lane _ _)⟩

/-- A connection of a camera other than its master is retired: a smaller set of links is asked for, or there is none. -/
theorem followFrame_reduce (s : State) (n i : Nat) : FollowFrame s (s.reduce n i) n := by
  unfold State.reduce
  extract_lets left k m
  split
  · exact ⟨fun off _ => emit_rd _ _ off, by rw [emit_lane]⟩
  · exact (followFrame_setFld s (f := F.CAM_LINK_NO_REDUCE n) 1 (.inl rfl)).trans (followFrame_fault _ n _ _ _ _ _ _ _)

theorem followFrame_npDown (s : State) (p : Nat) : FollowFrame s (s.npDown p false) p := by
  unfold State.npDown
  extract_lets t u
  have ht : FollowFrame s (if s.fld (F.NP_STAT_STATE p) = 4 then s else s.setFld (F.NP_STAT_STATE p) 1) p := by
    split
    · exact FollowFrame.refl s p
    · exact followFrame_setFld s 1 (.inr rfl)
  exact (ht.trans (followFrame_setReady _ p (16 + p) false)).trans (followFrame_setFld _ _ (.inr rfl))

/-- A data lane of port `p` is retired: the spare takes its place, or the port goes on with fewer lanes, or drops. -/
theorem followFrame_npRetire (s : State) (p j : Nat) : FollowFrame s (s.npRetire p j) p := by
  unfold State.npRetire
  extract_lets spare k t m l
  have ht : FollowFrame s t p := followFrame_setFld s (f := F.NP_STAT_LANES p) k (.inr rfl)
  split
  · have hsent : FollowFrame s (t.nimCtrl p 0x07 (leBytes 1 j ++ leBytes 1 l ++ leBytes 2 m ++ zeros 4)) p := ht.trans (followFrame_nimCtrl t p p _ _)
    exact ⟨hsent.regs, hsent.lost⟩
  · split
    · exact ht.trans (followFrame_npDown t p)
    · exact ht

/-! ### A lane is retired (R132) -/

/-- The camera or port of lane `i`. -/
def laneUnit (i : Nat) : Nat := if i < 96 then i / 8 else (i - 96) / 4

/-- The links in use of lane `i`'s camera, or the data lanes in service of its port. -/
def State.linksInUse (u : State) (i : Nat) : Nat :=
  if i < 96 then u.fld (F.CAM_LINK_ACT_LINKS (laneUnit i)) else (u.npDataIn (laneUnit i) [lsServ]).length

/-- What follows the retirement of lane `i`, logical lane `j` of its port: nothing for a spare, a swap or fewer lanes for a data lane, the loss of a camera's
master, or a reduction. -/
def State.retireFollows (u : State) (i j : Nat) : State :=
  if 96 ≤ i then (if j = 3 then u else u.npRetire (laneUnit i) j)
  else if i % 8 = 0 then (u.fault 0x04 0x4 i (w5 := laneUnit i) (w6 := u.linksInUse i)).setReady (32 + laneUnit i) false
  else u.reduce (laneUnit i) i

theorem followFrame_retireFollows (u : State) (i j : Nat) : FollowFrame u (u.retireFollows i j) (laneUnit i) := by
  unfold State.retireFollows
  split
  · split
    · exact FollowFrame.refl u _
    · exact followFrame_npRetire u _ j
  · split
    · exact (followFrame_fault u _ _ _ _ _ _ _ _).trans (followFrame_setReady _ _ _ false)
    · exact followFrame_reduce u _ i

/-- Lane `i` takes state RETIRED, its eye scan ended; nothing tells of it yet. -/
def State.laneRetires (s : State) (i : Nat) : State :=
  let t := ((s.eyeAbort i).laneLeaves i lsRetired).lossForgotten i
  if i < 96 then t.camCount (laneUnit i) else t

/-- The same with the lane's errors counted. -/
def State.laneRetired (s : State) (i code disp : Nat) : State := (s.laneErrs i code disp).laneRetires i

/-- What the retirement itself changes. -/
def retireFields (i : Nat) : List Fld :=
  [F.LANE_STAT_STATE i, F.LANE_STAT_RATE i, F.LANE_STAT_EYE_BUSY i, whole (R.LANE_EYE_RES i), whole (R.LANE_ERR i)] ++
    if i < 96 then [F.CAM_LINK_LANE_MASK (laneUnit i), F.CAM_LINK_ACT_LINKS (laneUnit i)] else []

/-- Lane `i` of `v` is retired, and from `s` nothing else has changed but what goes with it. -/
structure Retired (s v : State) (i code : Nat) : Prop where
  lst   : v.lst i = lsRetired
  rate  : v.fld (F.LANE_STAT_RATE i) = 0
  busy  : v.bit (F.LANE_STAT_EYE_BUSY i) = false
  code  : v.fld (F.LANE_ERR_CODE_CNT i) = min (s.fld (F.LANE_ERR_CODE_CNT i) + code) 65535
  lane  : v.lane = { s.lane with lost := s.lane.lost.filter (· != i) }
  frame : LaneFrame s v (retireFields i)

theorem leaveFields_ne_laneErr (i j : Nat) : ∀ f ∈ leaveFields i, f.off ≠ R.LANE_ERR j :=
  fun f hf => huntFields_ne_laneErr i j f (List.mem_cons_of_mem _ hf)

/-- A lane that has gone to RETIRED, with its errors counted, is retired once it is no longer noted as lost. -/
theorem LaneLeft.retired {s e v : State} {i code : Nat} (h : LaneLeft e v i lsRetired (leaveFields i)) (hlane : v.lane = s.lane)
    (hcode : v.fld (F.LANE_ERR_CODE_CNT i) = min (s.fld (F.LANE_ERR_CODE_CNT i) + code) 65535) (hframe : LaneFrame s v (retireFields i)) :
    Retired s (v.lossForgotten i) i code :=
  ⟨h.lst, h.rate, h.busy, hcode, by rw [State.lossForgotten, hlane], hframe.withLane _⟩

theorem lane_laneLeaves (s : State) (i x : Nat) : (s.laneLeaves i x).lane = s.lane := rfl

/-- Before the camera's count follows. -/
theorem laneLeaves_retired (s : State) (i code disp : Nat) :
    Retired s ((((s.laneErrs i code disp).eyeAbort i).laneLeaves i lsRetired).lossForgotten i) i code := by
  have herr := laneErrs_frame s i code disp (fs := retireFields i) (by simp [retireFields])
  have hleft := eyeAbort_laneLeaves (s.laneErrs i code disp) i (x := lsRetired) (by decide)
  refine hleft.retired ?_ ?_ (herr.toLane.trans (hleft.frame.mono (by simp +contextual [leaveFields, retireFields])))
  · exact ((lane_laneLeaves _ i _).trans (eyeAbort_ends (s.laneErrs i code disp) i).lane).trans herr.lane_eq
  · exact (fld_of_rd_eq _ (hleft.frame.rd (leaveFields_ne_laneErr i i))).trans (laneErrs_code s i code disp)

theorem Retired.camCount {s v : State} {i code : Nat} (h : Retired s v i code) (hi : i < 96) : Retired s (v.camCount (laneUnit i)) i code := by
  have hstat : R.LANE_STAT i ≠ R.CAM_LINK (laneUnit i) := laneStat_ne_camLink _ (by omega)
  have herr : R.LANE_ERR i ≠ R.CAM_LINK (laneUnit i) := laneErr_ne_camLink _ (by omega)
  exact ⟨(lst_camCount v _ (by omega)).trans h.lst, (fld_of_rd_eq _ (rd_camCount_ne v _ hstat)).trans h.rate,
    (bit_of_rd_eq _ (rd_camCount_ne v _ hstat)).trans h.busy, (fld_of_rd_eq _ (rd_camCount_ne v _ herr)).trans h.code, h.lane,
    h.frame.trans ((Frame.refl v _).camCount (by simp [retireFields, hi]) (by simp [retireFields, hi])).toLane⟩

theorem laneRetired_retired (s : State) (i code disp : Nat) : Retired s (s.laneRetired i code disp) i code := by
  unfold State.laneRetired State.laneRetires
  extract_lets t
  split
  · next hi => exact (laneLeaves_retired s i code disp).camCount hi
  · exact laneLeaves_retired s i code disp

/-- The fault that names the retirement (R446). -/
def State.retireFault (u : State) (i : Nat) : State := u.fault 0x04 0x1 i (w5 := laneUnit i) (w6 := u.linksInUse i)

theorem npLogical_of_np_eq {s t : State} (h : t.np = s.np) (i : Nat) : t.npLogical i = s.npLogical i := by
  simp only [State.npLogical, State.npLane, State.npS, h]

theorem np_of_laneFrame {s v : State} {fs : List Fld} (h : LaneFrame s v fs) : v.np = s.np := (congrArg State.np (Frame.rest h) :)

/-- The retirement of a lane in one form for cameras and ports. -/
theorem retire_eq (s : State) (i : Nat) :
    s.retire i = ((s.laneRetires i).retireFault i).retireFollows i ((s.laneRetires i).npLogical i) := by
  by_cases hi : i < 96
  · have hport : ¬ 96 ≤ i := by omega
    simp only [State.retire, State.laneRetires, State.retireFault, State.retireFollows, State.linksInUse, laneUnit, hi, hport, if_true, if_false]
    rfl
  · have hport : 96 ≤ i := by omega
    simp only [State.retire, State.laneRetires, State.retireFault, State.retireFollows, State.linksInUse, laneUnit, hi, hport, if_true, if_false]
    rfl

/-- A retirement with its errors: the lane takes its state, a fault names it, and the rest follows. -/
theorem retire_laneErrs (s : State) (i code disp : Nat) :
    (s.laneErrs i code disp).retire i = ((s.laneRetired i code disp).retireFault i).retireFollows i (s.npLogical i) := by
  rw [retire_eq, ← npLogical_of_np_eq (np_of_laneFrame (laneRetired_retired s i code disp).frame)]
  rfl

section Retire
variable {i : Fin 114} {code disp : BitVec 16} {s : State}

theorem exec_laneRetire_retires (hi : i.val < 112) (hen : s.bit (F.LANE_CTL_RET_EN i) = true)
    (hserv : s.lst i = lsServ ∨ s.lst i = lsSpare ∨ (i.val ∈ s.lane.lost ∧ s.lst i ≠ lsTest)) (hpwr : s.fld F.PWR_STAT_STATE ≠ 2 ∨ 96 ≤ i.val) :
    exec (.laneRetire i code disp) s =
      done s (((s.laneRetired i code.toNat disp.toNat).retireFault i).retireFollows i (s.npLogical i)) := by
  have hin : (s.lst i == lsServ || s.lst i == lsSpare || s.lane.lost.contains i.val) = true := by
    rcases hserv with h | h | ⟨h, -⟩ <;> simp [h]
  have htest : (s.lst i == lsTest) = false := by
    rcases hserv with h | h | ⟨-, h⟩
    · rw [h]; rfl
    · rw [h]; rfl
    · exact beq_eq_false_iff_ne.mpr h
  have hawake : (decide (i.val < 96) && s.fld F.PWR_STAT_STATE == 2) = false := by
    rcases hpwr with h | h
    · simp [h]
    · simp [h.not_gt]
  have hlane : ¬ 112 ≤ i.val := by omega
  change execLaneRetire i code disp s = _
  rw [← retire_laneErrs]
  simp only [execLaneRetire, hlane, hen, hin, htest, hawake, decide_false, Bool.not_true, Bool.or_false, Bool.false_eq_true, if_false]

theorem exec_laneRetire_unmoved (h : 112 ≤ i.val ∨ s.bit (F.LANE_CTL_RET_EN i) = false ∨ (s.fld F.PWR_STAT_STATE = 2 ∧ i.val < 96) ∨
    (s.lst i ≠ lsServ ∧ s.lst i ≠ lsSpare ∧ (i.val ∉ s.lane.lost ∨ s.lst i = lsTest))) : exec (.laneRetire i code disp) s = done s s := by
  change execLaneRetire i code disp s = _
  rcases h with h | h | ⟨h1, h2⟩ | ⟨h1, h2, h3 | h3⟩
  · simp [execLaneRetire, h]
  · simp [execLaneRetire, h]
  · simp [execLaneRetire, h1, h2]
  · simp [execLaneRetire, h1, h2, h3]
  · simp [execLaneRetire, h3]

end Retire

theorem laneUnit_lt {i : Nat} (h : i < 112) : laneUnit i < 12 := by
  unfold laneUnit
  split <;> omega

theorem blockOf_laneReg {i k : Nat} (hi : i < 114) (hk : k < 0x100) : blockOf (0x00400000 + k + i * 0x100) = some .lane := by
  simp (disch := omega) only [blockOf, if_neg, if_pos]

/-- The registers that follow a retirement are none of a lane's own. -/
theorem followReg_lane {n i k : Nat} (hi : i < 114) (hk : k < 0x100) (hn : n < 12) : followReg n (0x00400000 + k + i * 0x100) = false := by
  have hcam := (laneReg_lt_camLink n hi hk).ne
  have hrest : 0x00400000 + k + i * 0x100 ≠ R.NP_STAT n ∧ 0x00400000 + k + i * 0x100 ≠ R.TOP_READY ∧
      0x00400000 + k + i * 0x100 ≠ R.TOP_READY_IO := by
    simp only [R.NP_STAT, R.TOP_READY, R.TOP_READY_IO]
    omega
  obtain ⟨hport, hready, hio⟩ := hrest
  simp [followReg, beq_eq_false_iff_ne.mpr hcam, beq_eq_false_iff_ne.mpr hport, beq_eq_false_iff_ne.mpr hready, beq_eq_false_iff_ne.mpr hio,
    recordReg_of_block (blockOf_laneReg hi hk) (by decide)]

theorem blockOf_camLink {n : Nat} (h : n < 12) : blockOf (R.CAM_LINK n) = some .lane := by
  simp (disch := simp only [R.CAM_LINK]; omega) only [blockOf, if_neg, if_pos]

theorem blockOf_npStat {n : Nat} (h : n < 12) : blockOf (R.NP_STAT n) = some .nim := by
  simp (disch := simp only [R.NP_STAT]; omega) only [blockOf, if_neg, if_pos]

/-- The blocks whose registers a retirement may change. -/
def retireBlocks : List Block := [.lane, .nim, .top, .hostq, .seg, .time]

theorem inBlocks_of_followReg {n off : Nat} (hn : n < 12) (h : followReg n off = true) : inBlocks retireBlocks off = true := by
  simp only [followReg, Bool.or_eq_true, beq_iff_eq] at h
  rcases h with (((rfl | rfl) | rfl) | rfl) | h
  · simp [inBlocks, blockOf_camLink hn, retireBlocks]
  · simp [inBlocks, blockOf_npStat hn, retireBlocks]
  · decide
  · decide
  · have hin := inBlocks_of_recordReg h
    unfold inBlocks at hin ⊢
    cases hb : blockOf off with
    | none => simp [hb] at hin
    | some b =>
      simp only [hb, retireBlocks, List.contains_cons, List.contains_nil, Bool.or_false, Bool.or_eq_true] at hin ⊢
      tauto

theorem blockOf_retireFields {i : Nat} (hi : i < 112) : ∀ f ∈ retireFields i, blockOf f.off = some .lane := by
  have hunit := laneUnit_lt hi
  have hstat : blockOf (R.LANE_STAT i) = some .lane := blockOf_laneReg (k := 4) (by omega) (by decide)
  have herr : blockOf (R.LANE_ERR i) = some .lane := blockOf_laneReg (k := 8) (by omega) (by decide)
  have hres : blockOf (R.LANE_EYE_RES i) = some .lane := blockOf_laneReg (k := 0x14) (by omega) (by decide)
  have hcam := blockOf_camLink hunit
  intro f hf
  simp only [retireFields, List.mem_append, List.mem_cons, List.not_mem_nil, or_false] at hf
  rcases hf with (rfl | rfl | rfl | rfl | rfl) | hf
  · exact hstat
  · exact hstat
  · exact hstat
  · exact hres
  · exact herr
  · split at hf
    · simp only [List.mem_cons, List.not_mem_nil, or_false] at hf
      rcases hf with rfl | rfl
      · exact hcam
      · exact hcam
    · exact absurd hf List.not_mem_nil

/-- A retired lane and what follows: the lane stays as it was left, and only registers of the blocks named change. -/
theorem retired_follows (s : State) {i : Nat} (code disp j : Nat) (hi : i < 112) :
    let v := ((s.laneRetired i code disp).retireFault i).retireFollows i j
    v.lst i = lsRetired ∧ i ∉ v.lane.lost ∧ v.fld (F.LANE_ERR_CODE_CNT i) = min (s.fld (F.LANE_ERR_CODE_CNT i) + code) 65535 ∧
      FrameRegs s v (fun off => inBlocks retireBlocks off) := by
  intro v
  have hretired := laneRetired_retired s i code disp
  have hunit := laneUnit_lt hi
  have hfollow : FollowFrame (s.laneRetired i code disp) v (laneUnit i) :=
    (followFrame_fault _ _ _ _ _ _ _ _ _).trans (followFrame_retireFollows _ i j)
  refine ⟨?_, ?_, ?_, fun off ho => ?_⟩
  · exact (lst_of_rd_eq (hfollow.regs _ (followReg_lane (k := 4) (by omega) (by decide) hunit))).trans hretired.lst
  · rw [hfollow.lost, hretired.lane]
    simp
  · exact (fld_of_rd_eq _ (hfollow.regs _ (followReg_lane (k := 8) (by omega) (by decide) hunit))).trans hretired.code
  · have hnot : followReg (laneUnit i) off = false := by
      cases h : followReg (laneUnit i) off with
      | false => rfl
      | true => exact absurd (ho.symm.trans (inBlocks_of_followReg hunit h)) (by decide)
    refine (hfollow.regs off hnot).trans (hretired.frame.rd (fun f hf he => ?_))
    have hlane := blockOf_retireFields hi f hf
    rw [he] at hlane
    simp [inBlocks, hlane, retireBlocks] at ho

/-! ### Aggregation uses a new lane set (R134) -/

/-- The state of lane `j` of camera `n` once the camera uses the set `m`. -/
def State.lstInSet (s : State) (n m j : Nat) : Nat :=
  if bitN m j = true
  then (if s.lst (8 * n + j) = lsLock ∧ s.fld (F.LANE_STAT_RATE (8 * n + j)) = s.fld (F.CAM_LINK_RATE n) then lsServ else s.lst (8 * n + j))
  else if s.lst (8 * n + j) = lsServ then lsLock else s.lst (8 * n + j)

/-- Lane `j` of camera `n` goes by the set `m`. -/
def State.laneBySet (n m : Nat) (s : State) (j : Nat) : State :=
  let i := 8 * n + j
  if s.lst i = lsServ ∧ !bitN m j then s.setFld (F.LANE_STAT_STATE i) lsLock
  else if s.lst i = lsLock ∧ bitN m j ∧ s.fld (F.LANE_STAT_RATE i) = s.fld (F.CAM_LINK_RATE n) then s.setFld (F.LANE_STAT_STATE i) lsServ
  else s

/-- The lane takes its state by the set, or has it. -/
theorem laneBySet_eq (n m : Nat) (s : State) (j : Nat) :
    s.laneBySet n m j = s.setFld (F.LANE_STAT_STATE (8 * n + j)) (s.lstInSet n m j) ∨ (s.laneBySet n m j = s ∧ s.lstInSet n m j = s.lst (8 * n + j)) := by
  unfold State.laneBySet State.lstInSet
  cases hm : bitN m j with
  | true =>
    by_cases hjoin : s.lst (8 * n + j) = lsLock ∧ s.fld (F.LANE_STAT_RATE (8 * n + j)) = s.fld (F.CAM_LINK_RATE n)
    · exact .inl (by simp [hjoin])
    · exact .inr (by simp [hjoin])
  | false =>
    by_cases hserv : s.lst (8 * n + j) = lsServ
    · exact .inl (by simp [hserv])
    · exact .inr (by simp [hserv])

theorem lstInSet_lt (s : State) (n m j : Nat) : s.lstInSet n m j < 8 := by
  have hlst : s.lst (8 * n + j) < 8 := fld_lt s (F.LANE_STAT_STATE (8 * n + j))
  have hserv : lsServ < 8 := by decide
  have hlock : lsLock < 8 := by decide
  unfold State.lstInSet
  split <;> split <;> assumption

theorem lst_laneBySet (n m : Nat) (s : State) (j : Nat) : (s.laneBySet n m j).lst (8 * n + j) = s.lstInSet n m j := by
  rcases laneBySet_eq n m s j with h | ⟨h1, h2⟩
  · rw [h, State.lst, fld_setFld_self _ _ _ Fld.fits]
    exact Nat.mod_eq_of_lt (lstInSet_lt s n m j)
  · rw [h1, h2]

theorem rd_laneBySet_ne (n m : Nat) (s : State) (j : Nat) {off : Nat} (h : off ≠ R.LANE_STAT (8 * n + j)) : (s.laneBySet n m j).rd off = s.rd off := by
  rcases laneBySet_eq n m s j with heq | ⟨heq, -⟩ <;> rw [heq]
  exact rd_setFld_ne s _ _ h

theorem Frame.laneBySet {s v : State} {fs : List Fld} (h : Frame s v fs) {n m j : Nat} (hf : F.LANE_STAT_STATE (8 * n + j) ∈ fs) :
    Frame s (v.laneBySet n m j) fs := by
  rcases laneBySet_eq n m v j with heq | ⟨heq, -⟩ <;> rw [heq]
  · exact h.setFld _ hf Fld.fits
  · exact h

theorem laneStat_inj {i j : Nat} (h : i ≠ j) : R.LANE_STAT i ≠ R.LANE_STAT j := by simp only [R.LANE_STAT]; omega

/-- One lane's change does not tell for another. -/
theorem lstInSet_laneBySet {n m j k : Nat} (s : State) (hn : n < 12) (hk : k < 8) (h : j ≠ k) : (s.laneBySet n m k).lstInSet n m j = s.lstInSet n m j := by
  have hstat := rd_laneBySet_ne n m s k (laneStat_inj (show 8 * n + j ≠ 8 * n + k by omega))
  have hcam := rd_laneBySet_ne n m s k (laneStat_ne_camLink n (show 8 * n + k < 114 by omega)).symm
  rw [State.lstInSet, lst_of_rd_eq hstat, fld_of_rd_eq (F.LANE_STAT_RATE (8 * n + j)) hstat, fld_of_rd_eq (F.CAM_LINK_RATE n) hcam, State.lstInSet]

/-- The lanes of a list go by the set, one after another. -/
theorem foldl_laneBySet {n : Nat} (m : Nat) (hn : n < 12) {l : List Nat} (hnd : l.Nodup) (hl : ∀ j ∈ l, j < 8) (s : State) :
    (∀ j, (l.foldl (State.laneBySet n m) s).lst (8 * n + j) = if j ∈ l then s.lstInSet n m j else s.lst (8 * n + j)) ∧
      Frame s (l.foldl (State.laneBySet n m) s) (l.map (fun j => F.LANE_STAT_STATE (8 * n + j))) := by
  induction l generalizing s with
  | nil => exact ⟨fun j => by simp, Frame.refl s _⟩
  | cons k l ih =>
    obtain ⟨hk, hnd⟩ := List.nodup_cons.mp hnd
    obtain ⟨hk8, hl⟩ := List.forall_mem_cons.mp hl
    obtain ⟨hlst, hframe⟩ := ih hnd hl (s.laneBySet n m k)
    rw [List.foldl_cons]
    refine ⟨fun j => ?_, ((Frame.refl s _).laneBySet (by simp)).trans (hframe.mono (by simp +contextual))⟩
    rw [hlst j]
    by_cases hj : j = k
    · simp [hj, hk, lst_laneBySet]
    · simp [hj, lstInSet_laneBySet s hn hk8 hj, lst_of_rd_eq (rd_laneBySet_ne n m s k (laneStat_inj (show 8 * n + j ≠ 8 * n + k by omega)))]

/-- Camera `n` uses the lane set `m`; nothing tells of it yet. -/
def State.setInUse (s : State) (n m : Nat) : State :=
  (((List.range 8).foldl (State.laneBySet n m) { s with lane := { s.lane with set := vput s.lane.set n m } }).camCount n).flag (F.CAM_LINK_REDUCED n)

theorem camReduce_eq (s : State) (n m : Nat) :
    s.camReduce n m = (s.setInUse n m).fault 0x04 0x2 (8 * n) (w5 := n) (w6 := (s.setInUse n m).fld (F.CAM_LINK_ACT_LINKS n)) := rfl

/-- The camera shows the set in use: REDUCED, the lanes that joined or wait, and their count. -/
theorem setInUse_spec (s : State) (n : Fin 12) (m : Nat) :
    let u := s.setInUse n m
    u.bit (F.CAM_LINK_REDUCED n) = true ∧ u.fld (F.CAM_LINK_LANE_MASK n) = u.camMask n ∧
      u.fld (F.CAM_LINK_ACT_LINKS n) = popcount 8 (u.camMask n) ∧ (∀ j : Fin 8, u.lst (8 * n + j) = s.lstInSet n m j) ∧
      Frame { s with lane := { s.lane with set := s.lane.set.set n m } } u
        ([F.CAM_LINK_REDUCED n, F.CAM_LINK_LANE_MASK n, F.CAM_LINK_ACT_LINKS n] ++ (List.range 8).map (fun j => F.LANE_STAT_STATE (8 * n + j))) := by
  intro u
  have hset : vput s.lane.set n m = s.lane.set.set n m := vput_fin _ _ _
  obtain ⟨hlst, hframe⟩ := foldl_laneBySet m n.isLt List.nodup_range (fun j hj => List.mem_range.mp hj)
    { s with lane := { s.lane with set := vput s.lane.set n m } }
  have hu : u = (((List.range 8).foldl (State.laneBySet n m) { s with lane := { s.lane with set := vput s.lane.set n m } }).camCount n).flag
      (F.CAM_LINK_REDUCED n) := rfl
  generalize (List.range 8).foldl (State.laneBySet n m) { s with lane := { s.lane with set := vput s.lane.set n m } } = t at hlst hframe hu
  have hlanes : ∀ j < 8, u.lst (8 * n + j) = t.lst (8 * n + j) := fun j hj => by
    have hne : R.LANE_STAT (8 * n + j) ≠ R.CAM_LINK n := laneStat_ne_camLink n (by omega)
    rw [hu, flag_eq]
    exact lst_of_rd_eq ((rd_setFld_ne _ _ _ hne).trans (rd_camCount_ne t n hne))
  obtain ⟨hmask, hact⟩ := camCount_shows t n
  have hkeeps : u.fld (F.CAM_LINK_LANE_MASK n) = (t.camCount n).fld (F.CAM_LINK_LANE_MASK n) ∧
      u.fld (F.CAM_LINK_ACT_LINKS n) = (t.camCount n).fld (F.CAM_LINK_ACT_LINKS n) := by
    rw [hu, flag_eq]
    exact ⟨fld_setFld_apart _ _ Fld.fits Fld.apart, fld_setFld_apart _ _ Fld.fits Fld.apart⟩
  have hsame : u.camMask n = t.camMask n := camMask_congr hlanes
  refine ⟨?_, ?_, ?_, fun j => ?_, ?_⟩
  · rw [hu]
    exact bit_setFld_self _ _ 1 Fld.fits rfl
  · rw [hkeeps.1, hmask, hsame]
  · rw [hkeeps.2, hact, hsame]
  · rw [hlanes j j.isLt, hlst j, if_pos (List.mem_range.mpr j.isLt)]
    rfl
  · rw [hu, ← hset]
    exact ((hframe.append _).camCount (by simp) (by simp)).flag (by simp) Fld.fits

/-! ### A camera answers a reduction (R116, R134) -/

/-- The oldest reduction of camera `n` is answered; `rest` are under way still. -/
def State.answerTaken (s : State) (n : Nat) (rest : List Nat) : State := { s with lane := { s.lane with red := vput s.lane.red n rest } }

/-- NO_REDUCE of a camera, and the record that names it. -/
def State.reductionRefused (s : State) (n : Nat) : State :=
  (s.flag (F.CAM_LINK_NO_REDUCE n)).fault 0x04 0x3 (8 * n) (w5 := n) (w6 := s.fld (F.CAM_LINK_ACT_LINKS n))

/-- No control packet waits for camera `n`. -/
def State.noCtrl (s : State) (n : Fin 12) : State := { s with lane := { s.lane with ctrl := s.lane.ctrl.set n [] } }

/-- With no packet waiting, their release changes nothing. -/
theorem ctrlRelease_none {s : State} {n : Fin 12} (h : s.lane.ctrl[n] = []) (rest : List Nat) :
    (if rest.isEmpty then s.ctrlRelease n else s) = s.noCtrl n := by
  have hsame : s.lane.ctrl.set n [] = s.lane.ctrl := by
    rw [← h, Fin.getElem_fin, Vector.set_getElem_self]
  split
  · simp only [State.ctrlRelease, vget_fin, h, List.foldl_nil, vput_fin]
    rfl
  · rw [State.noCtrl, hsame]

theorem exec_cameraLinkAck_answered {n : Fin 12} {s : State} {m : Nat} {rest : List Nat} (hred : s.lane.red[n] = m :: rest) (hctrl : s.lane.ctrl[n] = [])
    (ok : Bool) : exec (.cameraLinkAck n ok) s =
      done s ((if ok then (s.answerTaken n rest).camReduce n m else (s.answerTaken n rest).reductionRefused n).noCtrl n) := by
  have hlane : (if ok then (s.answerTaken n rest).camReduce n m else (s.answerTaken n rest).reductionRefused n).lane.ctrl = s.lane.ctrl := by
    cases ok with
    | true =>
      obtain ⟨-, -, -, -, hframe⟩ := setInUse_spec (s.answerTaken n rest) n m
      rw [if_pos rfl, camReduce_eq, lane_of_offRecord (recordFrame_fault _ _ _ _ _ _ _ _).rest, hframe.lane_eq]
      rfl
    | false =>
      rw [if_neg (by decide), State.reductionRefused, lane_of_offRecord (recordFrame_fault _ _ _ _ _ _ _ _).rest]
      rfl
  rw [← ctrlRelease_none (by rw [hlane]; exact hctrl) rest]
  change execCameraLinkAck n ok s = _
  unfold execCameraLinkAck
  rw [vget_fin, hred]
  rfl

theorem exec_cameraLinkAck_unmoved {n : Fin 12} {s : State} (h : s.lane.red[n] = []) (ok : Bool) : exec (.cameraLinkAck n ok) s = done s s := by
  change execCameraLinkAck n ok s = _
  unfold execCameraLinkAck
  rw [vget_fin, h]

/-! ### O24 -/

theorem LaneFrame.frame {s v : State} {fs : List Fld} (h : LaneFrame s v fs) {x : LaneS} (hx : v.lane = x) :
    Frame { s with lane := x, freeCtr := v.freeCtr } v fs := by
  subst hx
  exact h

/-- Settles O24: a retired lane is left as it is by all that follows its retirement; a camera's answer puts the set of the oldest reduction in use, or sets
NO_REDUCE. -/
theorem laneRetirementAndReduction : Obligations.LaneRetirementAndReduction := by
  unfold Obligations.LaneRetirementAndReduction
  refine ⟨?registers, ?retired, fun i code disp s h => completes_of_done (exec_laneRetire_unmoved h) rfl, ?acknowledged, ?refused,
    fun n ok s h => completes_of_done (exec_cameraLinkAck_unmoved h ok) rfl⟩
  case registers =>
    intro i code disp s hi hen hserv hpwr
    exact completes_of_done (exec_laneRetire_retires hi hen hserv hpwr) (retired_follows s code.toNat disp.toNat (s.npLogical i) hi)
  case retired =>
    intro i code disp s hi hen hserv hpwr n links next
    have hnext : ∀ u : State, next (u.fault 0x04 0x1 i (w5 := n) (w6 := links u)) = (u.retireFault i).retireFollows i (s.npLogical i) := fun _ => rfl
    obtain ⟨hlst, hrate, hbusy, -, hlane, hframe⟩ := laneRetired_retired s i code.toNat disp.toNat
    exact completes_of_done (exec_laneRetire_retires hi hen hserv hpwr)
      ⟨s.laneRetired i code.toNat disp.toNat, (hnext _).symm, hlst, hrate, hbusy, hframe.frame hlane⟩
  case acknowledged =>
    intro n s hctrl m rest hred
    have hrest : vput s.lane.red n rest = s.lane.red.set n rest := vput_fin _ _ _
    have hexec := exec_cameraLinkAck_answered hred hctrl true
    obtain ⟨hreduced, hmask, hact, hlst, hframe⟩ := setInUse_spec (s.answerTaken n rest) n m
    rw [if_pos rfl, camReduce_eq] at hexec
    refine completes_of_done hexec ⟨_, rfl, (s.answerTaken n rest).setInUse n m, rfl, hreduced, hmask, hact, hlst, ?_⟩
    rw [← hrest]
    exact hframe
  case refused =>
    intro n s hctrl m rest hred
    have hrest : vput s.lane.red n rest = s.lane.red.set n rest := vput_fin _ _ _
    have hexec := exec_cameraLinkAck_answered hred hctrl false
    have hframe : Frame (s.answerTaken n rest) ((s.answerTaken n rest).flag (F.CAM_LINK_NO_REDUCE n)) [F.CAM_LINK_NO_REDUCE n] :=
      (Frame.refl _ _).flag (by simp) Fld.fits
    rw [if_neg (by decide), State.reductionRefused] at hexec
    refine completes_of_done hexec ⟨_, rfl, (s.answerTaken n rest).flag (F.CAM_LINK_NO_REDUCE n), rfl, bit_setFld_self _ _ 1 Fld.fits rfl, ?_⟩
    rw [← hrest]
    exact hframe

end Sys2Proof.Machine
end

section
/-!
PROOFS. A substitute line is counted before it brings the table set that waits into use (R144, R157); the set holds a word of none of a set's registers, but
of INGn_CNT1, and the word takes the place of the count. The statement speaks of every state; the sets that a flip makes hold no such word.
-/
set_option Elab.async false

namespace Sys2Proof.Machine

/-- After reset, but camera 0 is in use and is to take a table set that holds ING0_CNT1 = 5. -/
def strayCountToCome : State :=
  let s := (State.reset.flag (F.ING_CTL_EN 0)).flag (F.ING_STAT_FLIP_PEND 0)
  { s with ing := s.ing.set 0 { IngS.init with act := [(R.ING_CNT1 0, 5)] } }

/-- The same, with a tag that no line has taken. -/
def strayCountWaits : State :=
  { strayCountToCome with ing := strayCountToCome.ing.set 0 { strayCountToCome.ing[0] with tags := [waitingTag] } }

/-- No substitute has been counted. -/
theorem cnt1_strayCountWaits : strayCountWaits.fld (F.ING_CNT1_A 0) = 0 := by decide +kernel

/-- The substitute line leaves the word of the set, not its own count of 1. -/
theorem cnt1_substOldest : (strayCountWaits.substOldest 0 false).fld (F.ING_CNT1_A 0) = 5 := by decide +kernel

theorem exec_tagTimeout (n : Fin 12) (full : Bool) (s : State) : exec (.tagTimeout n full) s = done s (s.substOldest n full) := rfl

/-- Refutes O27: the clause of a timed-out tag has one more substitute counted, but the flip that the substitute line applies overwrites the count. -/
theorem not_cameraLinesTakeTheirTags : ¬ Obligations.CameraLinesTakeTheirTags := by
  unfold Obligations.CameraLinesTakeTheirTags
  rintro ⟨-, -, -, -, htimeout, -⟩
  obtain ⟨v, hexec, -, -, hcount, -⟩ := htimeout 0 false waitingTag [] strayCountToCome
  change exec (.tagTimeout 0 false) strayCountWaits = .next (v.settle strayCountWaits) at hexec
  change v.fld (F.ING_CNT1_A 0) = min (strayCountWaits.fld (F.ING_CNT1_A 0) + 1) (2 ^ 16 - 1) at hcount
  have hsame : v.rd (R.ING_CNT1 0) = (strayCountWaits.substOldest 0 false).rd (R.ING_CNT1 0) :=
    rd_of_completed hexec (exec_tagTimeout 0 false strayCountWaits) (by decide)
  rw [cnt1_strayCountWaits, fld_of_rd_eq (F.ING_CNT1_A 0) hsame, cnt1_substOldest] at hcount
  exact absurd hcount (by decide)

end Sys2Proof.Machine
end

section
/-!
PROOFS. The return of a staggered line reads its slot from DDR-4 as any block does (R166, R322, R325): a header that comes with POISON counts as an
uncorrectable error in its DDR-4 channel. The statement's clause of a line that is lost leaves every register of DMC as it was.
-/
set_option Elab.async false

namespace Sys2Proof.Machine

/-- The oldest staggered line of camera `n` is taken up; `rest` are under way still. -/
def State.stagTaken (s : State) (n : Nat) (rest : List (Nat × Bool)) : State :=
  { s with sti := { s.sti with stag := vput s.sti.stag n { lines := rest } } }

theorem exec_staggerReadReturn_poisonedHeader {n : Fin 12} {s : State} {q : Nat} {rest : List (Nat × Bool)} (hlines : s.sti.stag[n].lines = (q, false) :: rest)
    (hdue : s.fld (F.STI_CAM_GEOM_STAG n) ≤ rest.length) (hpoison : s.poisoned (s.slotAddr n q) 64 = true) :
    exec (.staggerReadReturn n) s =
      done s ((((s.stagTaken n rest).ddrRead (s.slotAddr n q) 64).flag F.STI_STAT_STAG_CRC).storeLoss n) := by
  have hlen : ¬ ((q, false) :: rest).length ≤ s.fld (F.STI_CAM_GEOM_STAG n) := by simp only [List.length_cons]; omega
  change execStaggerReadReturn n s = _
  unfold execStaggerReadReturn
  simp only [vget_fin, hlines, if_neg hlen, Bool.false_eq_true, if_false, hpoison, if_true]
  rfl

/-- After reset, but DDR-4 is installed and holds POISON in its first line, whose error stands captured (R325), and camera 0 leads by one line. -/
def poisonedSlotToCome : State :=
  let s := ((State.reset.flag F.DMC_INSTALLED_VALID).setFld F.DMC_INSTALLED_MIB 1).flag (F.DMC_CH_ERR_ADDR_HI_VALID 0)
  { (s.flag (F.STI_CAM_GEOM_ROW 0)).setFld (F.STI_CAM_GEOM_STAG 0) 1 with poison := [0] }

/-- The same, with line 0 of camera 0 in its slot, at the poisoned line, and line 1 arrived after it. -/
def poisonedSlotDue : State :=
  { poisonedSlotToCome with sti := { poisonedSlotToCome.sti with stag := poisonedSlotToCome.sti.stag.set 0 { lines := [(0, false), (1, false)] } } }

/-- Line 0 is due: as many lines arrived after it as the camera leads by. -/
theorem stag_poisonedSlotDue : poisonedSlotDue.fld (F.STI_CAM_GEOM_STAG 0) = 1 := by decide +kernel

theorem poisoned_poisonedSlotDue : poisonedSlotDue.poisoned (poisonedSlotDue.slotAddr 0 0) 64 = true := by decide +kernel

/-- No uncorrectable error has been flagged since UE was cleared. -/
theorem ue_poisonedSlotDue : poisonedSlotDue.bit (F.DMC_CH_STAT_UE 0) = false := by decide +kernel

/-- The read of the header is an uncorrectable error of DDR-4 channel 0 (R325). -/
theorem ue_poisonedSlotRead :
    ((((poisonedSlotDue.stagTaken 0 [(1, false)]).ddrRead (poisonedSlotDue.slotAddr 0 0) 64).flag F.STI_STAT_STAG_CRC).storeLoss 0).bit
      (F.DMC_CH_STAT_UE 0) = true := by decide +kernel

/-- Refutes O29: the clause of a line that is lost allows no change outside STI, but where DDR-4 is installed and the slot's header is poisoned, the read of
the header sets UE of its DDR-4 channel. -/
theorem not_staggeredLinesReturn : ¬ Obligations.StaggeredLinesReturn := by
  unfold Obligations.StaggeredLinesReturn
  rintro ⟨-, hlost, -⟩
  have hdue : poisonedSlotDue.fld (F.STI_CAM_GEOM_STAG 0) ≤ [(1, false)].length := stag_poisonedSlotDue.le
  obtain ⟨v, hexec, -, -, -, -, -, hframe⟩ := hlost 0 0 [(1, false)] poisonedSlotToCome hdue (.inl poisoned_poisonedSlotDue)
  change exec (.staggerReadReturn 0) poisonedSlotDue = .next (v.settle poisonedSlotDue) at hexec
  have hkept : v.bit (F.DMC_CH_STAT_UE 0) = poisonedSlotDue.bit (F.DMC_CH_STAT_UE 0) :=
    bit_of_rd_eq _ (hframe.rd (fieldBits_eq_zero (List.forall_mem_cons.mpr ⟨by split <;> decide, by decide⟩)))
  have hread := bit_of_rd_eq (F.DMC_CH_STAT_UE 0)
    (rd_of_completed hexec (exec_staggerReadReturn_poisonedHeader rfl hdue poisoned_poisonedSlotDue) (by decide))
  rw [hkept, ue_poisonedSlotDue] at hread
  exact Bool.false_ne_true (hread.trans ue_poisonedSlotRead)

end Sys2Proof.Machine
end

section
/-!
PROOFS. A loaded spare is reported by a FAULT record (R423, R445), and where the record goes, or that it is lost, stands in registers of SEG (R238,
R239). The statement's clause of a spare whose region has another load waiting allows no change in SEG; the clause of the last load does.
-/
set_option Elab.async false

namespace Sys2Proof.Machine

/-- SPARE_LOAD_DONE does what a loaded unit does to its region (R423, R424). -/
theorem exec_spareLoadDone (n : Fin 8) (s : State) : exec (.spareLoadDone n) s = done s (s.spareLoaded n) := rfl

/-- The load that waits: the first spare of cluster 1 for logical unit 16. -/
def secondLoad : LoadVu := { logical := 16, phys := 34, slack := false }

/-- After reset, but region 0 loads the first spare of cluster 0 for logical unit 0, and the load of cluster 1 waits. -/
def twoSparesLoading : State :=
  State.reset.modRegion 0 (fun r => { r with loading := some { logical := 0, phys := 16, slack := false }, loadNext := [secondLoad] })

theorem segStat_twoSparesLoading : twoSparesLoading.rd R.SEG_STAT = 0 := by decide +kernel

/-- The queue of FAULT records is not in use, nor is the spill: SEG_STAT.REC_DROP is set. -/
theorem segStat_spareLoaded : (twoSparesLoading.spareLoaded 0).rd R.SEG_STAT = 2 := by decide +kernel

/-- Refutes O32: the FAULT record of the spare loaded first is dropped, and SEG_STAT, a register of SEG, notes it, while the second load starts. -/
theorem not_unitFaultsReplayOrRetire : ¬ Obligations.UnitFaultsReplayOrRetire := by
  unfold Obligations.UnitFaultsReplayOrRetire
  rintro ⟨-, -, -, -, -, -, -, -, hnext, -⟩
  obtain ⟨v, hexec, -, -, -, -, -, -, hregs⟩ := hnext 0 0 16 secondLoad [] State.reset
  change exec (.spareLoadDone 0) twoSparesLoading = .next (v.settle twoSparesLoading) at hexec
  have hkept : v.rd R.SEG_STAT = 0 := (hregs _ (by decide)).trans segStat_twoSparesLoading
  have hsame : v.rd R.SEG_STAT = (twoSparesLoading.spareLoaded 0).rd R.SEG_STAT :=
    rd_of_completed hexec (exec_spareLoadDone 0 twoSparesLoading) (by decide)
  rw [hkept, segStat_spareLoaded] at hsame
  exact absurd hsame (by decide)

end Sys2Proof.Machine
end

section
/-!
PROOFS. SEG_RESOLVE updates the tile offsets before it posts the records of the objects that close (R219, R225, R232), so that an MREG table whose tile has the
place of an event matrix's source set makes a consumer take REJECT within the same resolution. The statement speaks of every state, and allows the register
of any tile to change; the tables of a run name tiles 0 to 767, whose registers all lie in SEG.
-/
set_option Elab.async false

namespace Sys2Proof.Machine

/-- SEG_RESOLVE resolves the next block, once every region has committed it (R225). -/
theorem exec_segResolve_committed {s : State} (hen : s.bit F.SEG_CTL_EN = true) (hin : s.blockIn s.seg.nextBlk = true)
    (hcommit : s.seg.commits.any (fun c => c.block == s.seg.nextBlk) = true) : exec .segResolve s = done s (s.segResolve s.seg.nextBlk) := by
  change execSegResolve s = _
  simp only [execSegResolve, hen, hin, hcommit, Bool.and_true, if_true]

/-- The tile number at which SEG_TILEt has the offset of EVT_SRC2 of consumer 53 (CAP0). -/
def strayTile : Nat := (R.EVT_SRC2 53 - R.SEG_TILE 0) / 4

/-- Its MREG tables: no sample of the fine grid, 16 cells of the coarse one, which match best 8 cells to the left and 8 above (R205, R219). -/
def strayTab : TileTab :=
  { tile := strayTile, nc := 16, nf := 0, sadc := 0 :: List.replicate 288 1, sadf := List.replicate 25 0 }

/-- A rule that rejects every object (R230, R232). -/
def rejectAll : RuleE := { action := 9 }

/-- An object of one pixel on the last line of block 0. -/
def lastLinePixel : Obj :=
  { id := 1, bank := false, tag := {}, rep := 0, row := none, openRuns := [(0, 0)], lastBlk := 0, lastVus := [0], isOpen := true, cut := false,
    running := 0, posted := false, rejected := false, lblOvf := false, noMaster := false, prov := false, pixFlag := false, short := 0, long := 0,
    provBlks := [], crop := false,
    acc := { label := 1, area := 1, xmin := 0, xmax := 0, ymin := 255, ymax := 255, sx := 0, sy := 255, sd := 0, peak := 0, peakNeg := false,
             cls := 0, dark := 0, runs := [(3, 0, 0)], live := true } }

/-- After reset, but SEG is enabled, the job of bank A rejects every object, the pixel is live, and block 1 is committed without a partial, with the tables
of the stray tile. -/
def strayTileCommitted : State :=
  let s := State.reset.flag F.SEG_CTL_EN
  { s with
    cfg := { s.cfg with jobA := some { rules := [rejectAll] } },
    seg := { s.seg with nextBlk := 1, objs := [lastLinePixel],
                        commits := [{ block := 1, region := 0, parts := [], tabs := [.mreg 0 0 [strayTab]], lost := false }] } }

/-- The block is due. -/
theorem due_strayTileCommitted : strayTileCommitted.bit F.SEG_CTL_EN = true ∧ strayTileCommitted.blockIn 1 = true := by decide +kernel

/-- No consumer takes REJECT. -/
theorem evtHits_strayTileCommitted : (List.range 64).all (fun c => (strayTileCommitted.evtHits [90] c).isEmpty) = true := by decide +kernel

/-- CAP0 has never been activated. -/
theorem act_strayTileCommitted : strayTileCommitted.rd (R.EVT_ACT 53) = 0 := by decide +kernel

/-- The offset of the stray tile is AY = -4096, whose bit 12 is the enable of source 90: the REJECT of the pixel's object activates CAP0. -/
theorem act_strayTileResolved : (strayTileCommitted.segResolve 1).rd (R.EVT_ACT 53) = 1 := by decide +kernel

/-- Refutes O33: no consumer takes REJECT before the resolution, but its update of the tile offsets enables CAP0's source 90, and the object that closes
without a partial raises it; EVT_ACT53 counts the activation, and is no register of a tile, nor of a block that the clause allows to change. -/
theorem not_blocksResolveAndRecordsDrain : ¬ Obligations.BlocksResolveAndRecordsDrain := by
  unfold Obligations.BlocksResolveAndRecordsDrain
  rintro ⟨-, hresolve, -⟩
  obtain ⟨hen, hin⟩ := due_strayTileCommitted
  obtain ⟨v, hexec, -, -, -, -, -, hregs⟩ := hresolve strayTileCommitted hen hin rfl evtHits_strayTileCommitted
  have hkept : v.rd (R.EVT_ACT 53) = 0 := (hregs _ (by decide)).trans act_strayTileCommitted
  have hsame : v.rd (R.EVT_ACT 53) = (strayTileCommitted.segResolve 1).rd (R.EVT_ACT 53) :=
    rd_of_completed hexec (exec_segResolve_committed hen hin rfl) (by decide)
  rw [hkept, act_strayTileResolved] at hsame
  exact absurd hsame (by decide)

end Sys2Proof.Machine
end

section
/-!
PROOFS. A line fetched from poisoned DDR-4 for a port whose PRINT entry names a compare unit that does not exist: the CU_NEXT_INT of that number stands at the
offset of a DDR-4 channel's DMC_CH_STAT, so the error that the read flags (R325) moves the points to come, and the fetched line leaves the buffer with the
port's next look at them (R255). The statement speaks of every state, and bounds the unit of a PRINT entry by nothing; in a JOB it is one byte (R251).
-/
namespace Sys2Proof.Machine

/-! ### PRINT_FETCH_DONE of a line (R254, R255) -/

/-- The line that a fetch of the next line `x` of port `n` brings into the buffer (R254). -/
def State.fetchedLine (s : State) (n : Nat) (x : Nat × LineId × PrtE) : PLine :=
  let len := (s.fld (F.HP_CTL_NOZ n) * s.bpn n + 7) / 8
  let a := lineAddr x.2.1 x.2.2
  { id := x.2.1, pt := x.1, vals := nozzleVals (s.memReadZ a len) (s.fld (F.HP_CTL_NOZ n)) (s.bpn n), ws := x.2.2.wsel % 16, hot := false,
    err := s.poisoned a len }

/-- The next line `x` of port `n` is read and joins the buffer, and the shift goes on (R254, R255). -/
def State.lineFetched (s : State) (n : Nat) (x : Nat × LineId × PrtE) : State :=
  let len := (s.fld (F.HP_CTL_NOZ n) * s.bpn n + 7) / 8
  (((s.prune n).ddrRead (lineAddr x.2.1 x.2.2) len).modPrt n (fun p => { p with prefetch := p.prefetch ++ [s.fetchedLine n x] })).startShift n

theorem exec_printFetchDone_line {n : Fin 8} {s : State} {x : Nat × LineId × PrtE} (hen : s.bit (F.HP_CTL_EN n) = true)
    (hx : (s.prune n).nextFetch n = some x) : exec (.printFetchDone n) s = done s (s.lineFetched n x) := by
  change execPrintFetchDone n s = _
  unfold execPrintFetchDone
  extract_lets s'
  rw [if_pos hen, show s'.nextFetch n = some x from hx]
  rfl

/-- As `rd_of_completed`, for what the print ports hide. -/
theorem prt_of_completed {c : Instr} {s v t : State} (hv : exec c s = .next (v.settle s)) (ht : exec c s = done s t) : v.prt = t.prt := by
  have hsettled : t.settle s = v.settle s := Host.Outcome.next.inj (ht.symm.trans hv)
  obtain ⟨_, _, h1⟩ := settle_eq v s
  obtain ⟨_, _, h2⟩ := settle_eq t s
  have hprt := congrArg State.prt (h1.symm.trans (hsettled.symm.trans h2))
  exact hprt

/-! ### The counterexample to O36 -/

/-- The number of a compare unit whose CU_NEXT_INT is DMC_CH_STAT of channel 0. -/
def unitAtChannelStat : Nat := (R.DMC_CH_STAT 0 - R.CU_NEXT_INT 0) / 64

/-- The PRINT entry of port 0, whose lines lie from the first line of DDR-4 on. -/
def strayUnitPrint : PrtE := { port := 0, cu := unitAtChannelStat, bpn := 1, wsel := 0, base := 0, stride := 64, lpr := 100, nrep := 1 }

/-- A line in the shift register, ahead of the first label. -/
def lineAhead : PLine := { id := .before, pt := 0, vals := [], ws := 0, hot := false, err := false }

/-- Port 0 prints 8 nozzles under bank A, with its shift register occupied; DDR-4 is installed and holds POISON in its first line, and its channel 0 has
an error captured (R325). -/
def poisonedLineToFetch : State :=
  let s := (State.reset.setFld F.CFG_BANK_A_STATE 4).flag F.DMC_INSTALLED_VALID
  let s := s.flag (F.DMC_CH_ERR_ADDR_HI_VALID 0)
  let s := (s.flag (F.HP_CTL_EN 0)).setFld (F.HP_CTL_NOZ 0) 8
  { s with poison := [0], cfg := { s.cfg with jobA := some { repeatLen := 100, prints := [strayUnitPrint] } },
           prt := s.prt.set 0 { s.prt[0] with shifting := some lineAhead } }

/-- The line at the first point, which is to be fetched. -/
def firstLine : Nat × LineId × PrtE := (0, .line false 0 0, strayUnitPrint)

theorem enabled_poisonedLineToFetch : poisonedLineToFetch.bit (F.HP_CTL_EN 0) = true := by decide +kernel

theorem nextFetch_poisonedLineToFetch : (poisonedLineToFetch.prune 0).nextFetch 0 = some firstLine := by decide +kernel

/-- The read sets UE, bit 4 of the register that holds the unit's next point: the line's point no longer comes, and the buffer is left empty. -/
theorem prefetch_lineFetched_poisoned : (poisonedLineToFetch.lineFetched 0 firstLine).prt[0].prefetch = [] := by decide +kernel

/-- Refutes O36: the fetched line does not stand in the buffer, because the read of its poisoned bytes flags an error in DMC_CH_STAT of channel 0, where the
entry's unit, 65,536, has its next compare point. -/
theorem not_printLinesAreFetchedAndShifted : ¬ Obligations.PrintLinesAreFetchedAndShifted := by
  unfold Obligations.PrintLinesAreFetchedAndShifted
  rintro ⟨-, -, hfetch, -⟩
  obtain ⟨v, hexec, hjoined, -⟩ :=
    hfetch 0 poisonedLineToFetch enabled_poisonedLineToFetch (.inl rfl) firstLine nextFetch_poisonedLineToFetch
  have hprt := prt_of_completed hexec (exec_printFetchDone_line enabled_poisonedLineToFetch nextFetch_poisonedLineToFetch)
  have hempty : v.prt[0].prefetch = [] := by rw [hprt]; exact prefetch_lineFetched_poisoned
  exact List.append_ne_nil_of_right_ne_nil _ (List.cons_ne_nil _ _) (hjoined.symm.trans hempty)

end Sys2Proof.Machine
end
section
/-!
PROOFS. The TS counter's rate, its step and its latched reading (R284, R288, R291).
-/
namespace Sys2Proof.Machine

theorem bit_setBit_self (s : State) (f : Fld) (b : Bool) (h : f.lo + f.w ≤ 32) (hw : f.w = 1) : (s.setBit f b).bit f = b := by
  rw [setBit_eq, bit_setFld_self s f _ h hw]
  cases b <;> rfl

/-! ### Rates -/

theorem rateOk_iff (val : Word) : rateOk val.toNat = true ↔ val.toInt.natAbs ≤ 17179869 := by
  have hsigned : toSigned 32 val.toNat = val.toInt := by
    have hlt := val.isLt
    unfold toSigned
    rw [BitVec.toInt_eq_toNat_cond]
    dsimp only
    split <;> split <;> omega
  rw [rateOk, hsigned, decide_eq_true_iff]

/-! ### Steps (R291) -/

theorem wrapTo_lt (w : Nat) (x : Int) : wrapTo w x < 2 ^ w := by
  have h1 := Int.emod_nonneg x (b := ((2 ^ w : Nat) : Int)) (by simp)
  have h2 := Int.emod_lt_of_pos x (b := ((2 ^ w : Nat) : Int)) (by simp)
  unfold wrapTo
  omega

theorem wrapTo_cast (w : Nat) (x : Int) : (wrapTo w x : Int) = x % ((2 ^ w : Nat) : Int) :=
  Int.toNat_of_nonneg (Int.emod_nonneg x (by simp))

/-- The counter after a step of `d` ns: its nanoseconds move, its fraction stays. -/
def State.steppedTs (s : State) (d : Int) : Nat := wrapTo 64 ((s.ns : Int) + d) * 2 ^ 32 + s.time.ts % 2 ^ 32

theorem steppedTs_ns (s : State) (d : Int) : s.steppedTs d / 2 ^ 32 % 2 ^ 64 = wrapTo 64 ((s.ns : Int) + d) := by
  have h := wrapTo_lt 64 ((s.ns : Int) + d)
  unfold State.steppedTs
  omega

theorem steppedTs_frac (s : State) (d : Int) : s.steppedTs d % 2 ^ 32 = s.time.ts % 2 ^ 32 := by
  unfold State.steppedTs
  omega

/-- The counter has taken its one step of `d` ns. -/
def State.stepped (s : State) (d : Int) : State :=
  ({ s with time := { s.time with ts := s.steppedTs d, txEnd := Vector.replicate 2 0 } }).flag F.TIME_STAT_STEP_LOCKED

theorem timeStep_allowed {s : State} (d : Int) (hseed : s.bit F.TIME_STAT_SEED_DONE = true) (hstop : s.bit F.CFG_STAT_PIPE_STOPPED = true)
    (hfree : s.bit F.TIME_STAT_STEP_LOCKED = false) : s.timeStep d = (0, s.stepped d) := by
  simp [State.timeStep, hseed, hstop, hfree, State.stepped, State.steppedTs]

theorem timeStep_refused {s : State} (d : Int) (h : s.bit F.TIME_STAT_SEED_DONE = false ∨ s.bit F.CFG_STAT_PIPE_STOPPED = false) :
    s.timeStep d = (0x40, s) := by
  rcases h with h | h <;> simp [State.timeStep, h]

theorem timeStep_locked {s : State} (d : Int) (hseed : s.bit F.TIME_STAT_SEED_DONE = true) (hstop : s.bit F.CFG_STAT_PIPE_STOPPED = true)
    (hlocked : s.bit F.TIME_STAT_STEP_LOCKED = true) : s.timeStep d = (0x41, s) := by
  simp [State.timeStep, hseed, hstop, hlocked]

theorem ns_stepped (s : State) (d : Int) : ((s.stepped d).ns : Int) = ((s.ns : Int) + d) % 2 ^ 64 := by
  rw [show (s.stepped d).ns = wrapTo 64 ((s.ns : Int) + d) from steppedTs_ns s d, wrapTo_cast]
  rfl

theorem locked_stepped (s : State) (d : Int) : (s.stepped d).bit F.TIME_STAT_STEP_LOCKED = true := bit_setFld_self _ _ 1 (Fld.fits (by rfl)) rfl

theorem frame_stepped (s : State) (d : Int) {fs : List Fld} (h : F.TIME_STAT_STEP_LOCKED ∈ fs) :
    Frame { s with time := { s.time with ts := s.steppedTs d, txEnd := Vector.replicate 2 0 } } (s.stepped d) fs :=
  (Frame.refl _ fs).flag h (Fld.fits (by rfl))

/-! ### The counter in two words (R288) -/

theorem toNat_ofNat_tsNs (s : State) : (BitVec.ofNat 32 s.tsNs).toNat = s.ns % 2 ^ 32 := by
  rw [BitVec.toNat_ofNat, State.tsNs, Nat.mod_mod]

theorem toNat_ofNat_nsHi (s : State) : (BitVec.ofNat 32 (s.ns / 2 ^ 32)).toNat = s.ns / 2 ^ 32 := by
  have h : s.ns < 2 ^ 64 := Nat.mod_lt _ (by decide)
  rw [BitVec.toNat_ofNat]
  omega

/-- Settles O41: a step is `State.timeStep`, whose three refusals and one effect are its lemmas; the other commands set registers. -/
theorem timeIsSetAndRead : Obligations.TimeIsSetAndRead := by
  unfold Obligations.TimeIsSetAndRead
  refine ⟨?rate, ?rateRefused, ?adjust, ?now, ?step, ?fromUp, ?refused, ?locked⟩
  case rate =>
    intro val s h
    have hx : s.rateWrite val.toNat = (s.put R.TIME_RATE val).status 0 := by
      rw [State.rateWrite, if_pos ((rateOk_iff val).mpr h), putN_eq, BitVec.ofNat_toNat, BitVec.setWidth_eq]
    exact completes_of_done (congrArg (done s) hx) ⟨rd_put_self s _ val, ((Frame.refl s _).putWord val (by simp)).withStatus 0⟩
  case rateRefused =>
    intro val s h
    have hx : s.rateWrite val.toNat = s.status 0x40 := if_neg (fun hok => absurd ((rateOk_iff val).mp hok) (Nat.not_le.mpr h))
    exact completes_of_done (congrArg (done s) hx) rfl
  case adjust =>
    intro val s
    have hbusy : (val.toNat % 2 ^ 32 != 0) = (val != 0) := by
      rw [Nat.mod_eq_of_lt val.isLt]
      simp [bne, ← BitVec.toNat_inj]
    have hx : s.adjTicksWrite val.toNat = ((s.put R.TIME_ADJ_TICKS val).setBit F.TIME_STAT_ADJ_BUSY (val != 0)).status 0 := by
      rw [State.adjTicksWrite, hbusy, putN_eq, BitVec.ofNat_toNat, BitVec.setWidth_eq]
    refine completes_of_done (congrArg (done s) hx) ⟨?_, ?_, ?_⟩
    · exact (status_rd _ _ _).trans ((rd_setFld_ne _ _ _ (by decide)).trans (rd_put_self s _ val))
    · exact (status_bit _ _ _).trans (bit_setBit_self _ _ _ (Fld.fits (by rfl)) rfl)
    · exact (((Frame.refl s _).putWord val (by simp)).setBit _ (by simp) (Fld.fits (by rfl))).withStatus 0
  case now =>
    intro s
    refine completes_of_done rfl ⟨?_, ?_, ?_, ?_⟩
    · exact (congrArg BitVec.toNat ((rd_setFld_ne _ _ _ (by decide)).trans ((rd_put_ne _ _ (by decide)).trans (rd_put_self s _ _)))).trans
        (toNat_ofNat_tsNs s)
    · exact (congrArg BitVec.toNat ((rd_setFld_ne _ _ _ (by decide)).trans (rd_put_self _ _ _))).trans (toNat_ofNat_nsHi s)
    · exact fld_setFld_self _ _ _ (Fld.fits (by rfl))
    · exact (((Frame.refl s _).putN _ (by simp)).putN _ (by simp)).setFld _ (by simp) (Fld.fits (by rfl))
  case step =>
    intro hi s hseed hstop hfree
    have hx : s.stepHiWrite hi.toNat = ((s.stepped (toSigned 64 (hi.toNat * 2 ^ 32 + s.rdN R.TIME_STEP_LO))).put R.TIME_STEP_HI hi).status 0 := by
      simp only [State.stepHiWrite, timeStep_allowed _ hseed hstop hfree, if_pos, putN_eq, BitVec.ofNat_toNat, BitVec.setWidth_eq]
    refine completes_of_done (congrArg (done s) hx) ⟨ns_stepped s _, steppedTs_frac s _, ?_, rd_put_self _ _ hi, ?_⟩
    · exact (status_bit _ _ _).trans ((bit_of_rd_eq _ (rd_put_ne _ _ (by decide))).trans (locked_stepped s _))
    · exact ((frame_stepped s _ (by simp)).putWord hi (by simp)).withStatus 0
  case fromUp =>
    intro s hseed hstop hfree
    have hx : s.stepFromUp = (s.stepped (toSigned 64 (s.rdN R.TIME_UP_OFS_HI * 2 ^ 32 + s.rdN R.TIME_UP_OFS_LO))).status 0 := by
      simp only [State.stepFromUp, timeStep_allowed _ hseed hstop hfree]
    exact completes_of_done (congrArg (done s) hx) ⟨ns_stepped s _, steppedTs_frac s _, locked_stepped s _, (frame_stepped s _ (by simp)).withStatus 0⟩
  case refused =>
    intro hi s h
    have hx : s.stepHiWrite hi.toNat = s.status 0x40 := by simp [State.stepHiWrite, timeStep_refused _ h]
    have hy : s.stepFromUp = s.status 0x40 := by simp [State.stepFromUp, timeStep_refused _ h]
    exact ⟨completes_of_done (congrArg (done s) hx) rfl, completes_of_done (congrArg (done s) hy) rfl⟩
  case locked =>
    intro hi s hseed hstop hlocked
    have hx : s.stepHiWrite hi.toNat = s.status 0x41 := by simp [State.stepHiWrite, timeStep_locked _ hseed hstop hlocked]
    have hy : s.stepFromUp = s.status 0x41 := by simp [State.stepFromUp, timeStep_locked _ hseed hstop hlocked]
    exact ⟨completes_of_done (congrArg (done s) hx) rfl, completes_of_done (congrArg (done s) hy) rfl⟩

end Sys2Proof.Machine
end
section
/-!
PROOFS. The calendar's tick, what sets, trims and stops it, and the seed of the TS counter (R290, R300 to R303).
-/
namespace Sys2Proof.Machine

/-! ### One tick (R301, R302) -/

/-- What a tick adds to the count: 1, and the trim at the end of its period (R302). -/
def State.rtcAdds (s : State) : Int := 1 + if s.time.rtcTrim + 1 = 2 ^ 20 then s.sfld F.RTC_CTL_TRIM else 0

/-- The count goes on. -/
def State.rtcCounted (s : State) : State :=
  { s with time := { s.time with rtc := wrapTo 55 (s.time.rtc + s.rtcAdds), rtcTrim := (s.time.rtcTrim + 1) % 2 ^ 20 } }

/-- The count that RTC_SET_LO and RTC_SET_HI hold (R301). -/
def State.rtcSetCount (s : State) : Nat := (s.rdN R.RTC_SET_LO + 2 ^ 32 * s.fld F.RTC_SET_HI_SEC) * 32768 + s.fld F.RTC_SET_HI_SUB

/-- The count of a SET is taken. -/
def State.rtcWasSet (s : State) : State :=
  (({ s with time := { s.time with rtcTrim := (s.time.rtcTrim + 1) % 2 ^ 20 } }).rtcLoad s.rtcSetCount).setFld F.RTC_CTL_SET 0

/-- What a tick does after the count: the calendar is ready, the first tick is noted, a later one seeds. -/
def State.rtcAfter (s : State) : State :=
  if s.time.rtcRose then (s.flag F.TOP_READY_RTC).seed else ({ s with time := { s.time with rtcRose := true } }).flag F.TOP_READY_RTC

theorem rtcTick_eq (s : State) :
    s.rtcTick = (if s.bit F.RTC_CTL_SET && !s.bit F.RTC_CTL_SYNC then s.rtcWasSet else s.rtcCounted).rtcAfter := by
  unfold State.rtcTick State.rtcAfter State.rtcCounted State.rtcAdds
  rw [← Int.add_assoc]
  rfl

theorem rtcTick_counts {s : State} (h : s.bit F.RTC_CTL_SET = false ∨ s.bit F.RTC_CTL_SYNC = true) : s.rtcTick = s.rtcCounted.rtcAfter := by
  rw [rtcTick_eq, if_neg (by rcases h with h | h <;> simp [h])]

theorem rtcTick_loads {s : State} (h1 : s.bit F.RTC_CTL_SET = true) (h2 : s.bit F.RTC_CTL_SYNC = false) : s.rtcTick = s.rtcWasSet.rtcAfter := by
  rw [rtcTick_eq, if_pos (by simp [h1, h2])]

theorem rtcSetCount_lt (s : State) : s.rtcSetCount < 2 ^ 55 := by
  have h1 : s.rdN R.RTC_SET_LO < 2 ^ 32 := (s.rd R.RTC_SET_LO).isLt
  have h2 : s.fld F.RTC_SET_HI_SEC < 2 ^ 8 := fld_lt s _
  have h3 : s.fld F.RTC_SET_HI_SUB < 2 ^ 15 := fld_lt s _
  unfold State.rtcSetCount
  omega

theorem rtc_rtcWasSet (s : State) : s.rtcWasSet.time.rtc = s.rtcSetCount := Nat.mod_eq_of_lt (rtcSetCount_lt s)

/-! ### The seed (R290) -/

theorem seed_done {s : State} (h : s.bit F.TIME_STAT_SEED_DONE = true) : s.seed = s := by simp [State.seed, h]

theorem seedDone_flag_ready (s : State) : (s.flag F.TOP_READY_RTC).bit F.TIME_STAT_SEED_DONE = s.bit F.TIME_STAT_SEED_DONE :=
  bit_setFld_apart s 1 (Fld.fits (by rfl)) (.inl (by decide))

/-- Once the seed is done, a tick leaves the calendar ready and noted. -/
theorem rtcAfter_seeded {s : State} (h : s.bit F.TIME_STAT_SEED_DONE = true) :
    s.rtcAfter = ({ s with time := { s.time with rtcRose := true } }).flag F.TOP_READY_RTC := by
  unfold State.rtcAfter
  split
  · rename_i hrose
    rw [seed_done ((seedDone_flag_ready s).trans h), ← hrose]
  · rfl

/-- The nanoseconds that a calendar count stands for. -/
def rtcNs (r : Nat) : Nat := (r / 32768 * 1000000000 + r % 32768 * 1000000000 / 32768) % 2 ^ 64

/-- The seed that waits for a TS_CLK edge. -/
def State.seedWaiting (s : State) : State :=
  { s with time := { s.time with seedWait := some (if s.bit F.RTC_STAT_VALID then some (rtcNs s.time.rtc) else none) } }

theorem seed_first {s : State} (h1 : s.bit F.TIME_STAT_SEED_DONE = false) (h2 : s.time.seedWait = none) :
    s.seed = if s.bit F.TIME_STAT_PLL_LOCK then s.seedWaiting.seedEdge else s.seedWaiting := by
  unfold State.seed
  rw [if_neg (by simp [h1, h2])]
  rfl

/-- The counter is `ts`, and no seed waits. -/
def State.tsLoaded (s : State) (ts : Nat) : State :=
  { s with time := { s.time with seedWait := none, ts := ts, txEnd := Vector.replicate 2 0 } }

theorem bit_tsLoaded (s : State) (ts : Nat) (f : Fld) : (s.tsLoaded ts).bit f = s.bit f := rfl

theorem bit_seedWaiting (s : State) (f : Fld) : s.seedWaiting.bit f = s.bit f := rfl

theorem seedEdge_some {s : State} {n : Nat} (h : s.time.seedWait = some (some n)) :
    s.seedEdge = ((s.tsLoaded (n * 2 ^ 32)).flag F.TIME_STAT_SEEDED).flag F.TIME_STAT_SEED_DONE := by
  unfold State.seedEdge
  rw [h]
  rfl

theorem seedEdge_none {s : State} (h : s.time.seedWait = some none) : s.seedEdge = (s.tsLoaded s.time.ts).flag F.TIME_STAT_SEED_DONE := by
  unfold State.seedEdge
  rw [h]
  rfl

/-! ### The oscillator stops (R302) -/

/-- The oscillator has stopped, but for the ready bit. -/
def State.oscStopped (s : State) : State := (s.flag F.RTC_STAT_OSC_STOP).setFld F.RTC_STAT_VALID 0

theorem osc_oscStopped (s : State) : s.oscStopped.bit F.RTC_STAT_OSC_STOP = true :=
  (bit_setFld_apart _ 0 (Fld.fits (by rfl)) (Fld.apart (by rfl))).trans (bit_setFld_self s _ 1 (Fld.fits (by rfl)) rfl)

theorem valid_oscStopped (s : State) : s.oscStopped.bit F.RTC_STAT_VALID = false := bit_setFld_self _ _ 0 (Fld.fits (by rfl)) rfl

theorem ready_oscStopped (s : State) : s.oscStopped.bit F.TOP_READY_RTC = s.bit F.TOP_READY_RTC :=
  (bit_setFld_apart _ 0 (Fld.fits (by rfl)) (.inl (by decide))).trans (bit_setFld_apart s 1 (Fld.fits (by rfl)) (.inl (by decide)))

theorem frame_oscStopped (s : State) {fs : List Fld} (h1 : F.RTC_STAT_OSC_STOP ∈ fs) (h2 : F.RTC_STAT_VALID ∈ fs) : Frame s s.oscStopped fs :=
  ((Frame.refl s fs).flag h1 (Fld.fits (by rfl))).setFld 0 h2 (Fld.fits (by rfl))

/-! ### O42 -/

/-- What TIME hides moves at both ends of a frame. -/
theorem Frame.withTime {s v : State} {fs : List Fld} (h : Frame s v fs) (x : TimeS) : Frame { s with time := x } { v with time := x } fs :=
  h.of_eq rfl rfl rfl rfl rfl rfl (congrArg (fun y : State => { y with time := x }) h.rest)

theorem bit_withTime (s : State) (x : TimeS) (f : Fld) : ({ s with time := x } : State).bit f = s.bit f := rfl

theorem rtcCounted_plain {s : State} (h1 : s.time.rtc + 1 < 2 ^ 55) (h2 : s.time.rtcTrim + 1 < 2 ^ 20) :
    s.rtcCounted = { s with time := { s.time with rtc := s.time.rtc + 1, rtcTrim := s.time.rtcTrim + 1 } } := by
  have hadds : s.rtcAdds = 1 := by rw [State.rtcAdds, if_neg h2.ne]; rfl
  have hrtc : wrapTo 55 (s.time.rtc + s.rtcAdds) = s.time.rtc + 1 := by
    have := wrapTo_cast 55 (s.time.rtc + s.rtcAdds)
    rw [hadds] at this ⊢
    omega
  rw [State.rtcCounted, hrtc, Nat.mod_eq_of_lt h2]

/-- The tick that completes the trim period (R302). -/
theorem rtcTick_trims {s : State} (h : s.time.rtcTrim = 2 ^ 20 - 1) (hset : s.bit F.RTC_CTL_SET = false ∨ s.bit F.RTC_CTL_SYNC = true)
    (hseeded : s.bit F.TIME_STAT_SEED_DONE = true) :
    s.rtcTick = ({ s with time := { s.time with
      rtc := wrapTo 55 (s.time.rtc + 1 + s.sfld F.RTC_CTL_TRIM), rtcTrim := 0, rtcRose := true } }).flag F.TOP_READY_RTC := by
  have hseeded' : s.rtcCounted.bit F.TIME_STAT_SEED_DONE = true := hseeded
  have hadds : s.rtcAdds = 1 + s.sfld F.RTC_CTL_TRIM := by rw [State.rtcAdds, if_pos (by omega)]
  have hnext : (s.time.rtcTrim + 1) % 2 ^ 20 = 0 := by omega
  rw [rtcTick_counts hset, rtcAfter_seeded hseeded', State.rtcCounted, hadds, ← Int.add_assoc, hnext]

/-- The calendar has lost its supply (R300). -/
def State.vbatLost (s : State) : State :=
  (({ s with time := { s.time with rtc := 0, rtcAcc := 0, rtcTrim := 0 } }.put R.RTC_SEC_LO 0).put R.RTC_SEC_HI 0 |>.put R.RTC_CTL 0
    |>.put R.RTC_SET_LO 0 |>.put R.RTC_SET_HI 0 |>.put R.RTC_STAT 0).flag F.RTC_STAT_VBAT_LOW

theorem exec_vbatLoss (s : State) : exec .vbatLoss s = done s s.vbatLost := rfl

/-- From `u`, whose calendar has just ticked, to `v`, which has noted the tick, the counter is loaded. -/
theorem frame_tsLoaded {u : State} (ts : Nat) (hwait : u.time.seedWait = none) {fs : List Fld} (h : F.TOP_READY_RTC ∈ fs) :
    Frame { u with time := { u.time with ts := ts, txEnd := Vector.replicate 2 0 } } ((u.flag F.TOP_READY_RTC).seedWaiting.tsLoaded ts) fs := by
  rw [State.tsLoaded, ← hwait]
  exact ((Frame.refl u fs).flag h (Fld.fits (by rfl))).withTime _

/-- The first seed of a state whose calendar has just ticked. -/
theorem firstSeed_shows {u : State} (hwait : u.time.seedWait = none) (hfirst : u.bit F.TIME_STAT_SEED_DONE = false) :
    let v := (u.flag F.TOP_READY_RTC).seed
    v.bit F.TOP_READY_RTC = true ∧
      (u.bit F.TIME_STAT_PLL_LOCK = true → v.bit F.TIME_STAT_SEED_DONE = true ∧
        v.bit F.TIME_STAT_SEEDED = (u.bit F.TIME_STAT_SEEDED || u.bit F.RTC_STAT_VALID) ∧
        v.time.ts = (if u.bit F.RTC_STAT_VALID then rtcNs u.time.rtc * 2 ^ 32 else u.time.ts) ∧
        Frame { u with time := { u.time with ts := v.time.ts, txEnd := Vector.replicate 2 0 } } v
          [F.TIME_STAT_SEEDED, F.TIME_STAT_SEED_DONE, F.TOP_READY_RTC]) ∧
      (u.bit F.TIME_STAT_PLL_LOCK = false →
        Frame { u with time := { u.time with seedWait := some (if u.bit F.RTC_STAT_VALID then some (rtcNs u.time.rtc) else none) } } v
          [F.TOP_READY_RTC]) := by
  intro v
  have hready : (u.flag F.TOP_READY_RTC).seedWaiting.bit F.TOP_READY_RTC = true :=
    (bit_seedWaiting _ _).trans (bit_setFld_self u _ 1 (Fld.fits (by rfl)) rfl)
  have hseeded : (u.flag F.TOP_READY_RTC).seedWaiting.bit F.TIME_STAT_SEEDED = u.bit F.TIME_STAT_SEEDED :=
    (bit_seedWaiting _ _).trans (bit_setFld_apart u 1 (Fld.fits (by rfl)) (.inl (by decide)))
  have hvalid : (u.flag F.TOP_READY_RTC).bit F.RTC_STAT_VALID = u.bit F.RTC_STAT_VALID := bit_setFld_apart u 1 (Fld.fits (by rfl)) (.inl (by decide))
  have hwaits : (u.flag F.TOP_READY_RTC).seedWaiting.time.seedWait = some (if u.bit F.RTC_STAT_VALID then some (rtcNs u.time.rtc) else none) := by
    rw [State.seedWaiting, hvalid]
    rfl
  have hv : v = if u.bit F.TIME_STAT_PLL_LOCK then (u.flag F.TOP_READY_RTC).seedWaiting.seedEdge else (u.flag F.TOP_READY_RTC).seedWaiting := by
    rw [show v = (u.flag F.TOP_READY_RTC).seed from rfl, seed_first ((seedDone_flag_ready u).trans hfirst) hwait,
      show (u.flag F.TOP_READY_RTC).bit F.TIME_STAT_PLL_LOCK = u.bit F.TIME_STAT_PLL_LOCK from bit_setFld_apart u 1 (Fld.fits (by rfl)) (.inl (by decide))]
  clear_value v
  cases hlock : u.bit F.TIME_STAT_PLL_LOCK with
  | false =>
    rw [hlock, if_neg (by decide)] at hv
    subst hv
    refine ⟨hready, fun h => absurd h (by decide), fun _ => ?_⟩
    rw [← hvalid]
    exact ((Frame.refl u _).flag (by simp) (Fld.fits (by rfl))).withTime _
  | true =>
    rw [hlock, if_pos rfl] at hv
    cases hval : u.bit F.RTC_STAT_VALID with
    | true =>
      rw [hval, if_pos rfl] at hwaits
      rw [seedEdge_some hwaits] at hv
      subst hv
      refine ⟨?_, fun _ => ⟨bit_setFld_self _ _ 1 (Fld.fits (by rfl)) rfl, ?_, (if_pos rfl).symm, ?_⟩, fun h => absurd h (by decide)⟩
      · exact (bit_setFld_apart _ _ (Fld.fits (by rfl)) (.inl (by decide))).trans ((bit_setFld_apart _ _ (Fld.fits (by rfl)) (.inl (by decide))).trans ((bit_tsLoaded _ _ _).trans hready))
      · rw [Bool.or_true]
        exact (bit_setFld_apart _ _ (Fld.fits (by rfl)) (Fld.apart (by rfl))).trans (bit_setFld_self _ _ 1 (Fld.fits (by rfl)) rfl)
      · exact ((frame_tsLoaded _ hwait (by simp)).flag (by simp) (Fld.fits (by rfl))).flag (by simp) (Fld.fits (by rfl))
    | false =>
      rw [hval, if_neg (by decide)] at hwaits
      rw [seedEdge_none hwaits] at hv
      subst hv
      refine ⟨(bit_setFld_apart _ _ (Fld.fits (by rfl)) (.inl (by decide))).trans ((bit_tsLoaded _ _ _).trans hready),
        fun _ => ⟨bit_setFld_self _ _ 1 (Fld.fits (by rfl)) rfl, ?_, (if_neg (by decide)).symm, ?_⟩, fun h => absurd h (by decide)⟩
      · rw [Bool.or_false]
        exact (bit_setFld_apart _ _ (Fld.fits (by rfl)) (Fld.apart (by rfl))).trans ((bit_tsLoaded _ _ _).trans hseeded)
      · exact (frame_tsLoaded _ hwait (by simp)).flag (by simp) (Fld.fits (by rfl))

/-- Settles O42: each command is a tick of the calendar, whose lemmas say what it counts or loads and what it seeds, or sets registers of it. -/
theorem calendarCountsAndSeeds : Obligations.CalendarCountsAndSeeds := by
  unfold Obligations.CalendarCountsAndSeeds
  refine ⟨?seed, ?noSeed, ?pending, ?set, ?noSet, ?trim, ?stopReady, ?stop, ?vbat, ?read⟩
  case seed =>
    intro s hrose hwait hfirst hset hrtc htrim
    have hx : exec .tsSeed s = done s ((s.rtcCounted.flag F.TOP_READY_RTC).seed) := by
      change execTsSeed s = _
      rw [execTsSeed, if_pos (by simp [hrose, hwait, hfirst]), rtcTick_counts (.inl hset), State.rtcAfter, if_pos]
      exact hrose
    rw [rtcCounted_plain hrtc htrim] at hx
    exact completes_of_done hx (firstSeed_shows hwait hfirst)
  case noSeed =>
    intro s h
    have hno : (s.time.rtcRose && s.time.seedWait.isNone && !s.bit F.TIME_STAT_SEED_DONE) = false := by
      rcases h with h | h | h
      · simp [h]
      · cases hw : s.time.seedWait <;> simp_all
      · simp [h]
    have hx : exec .tsSeed s = done s s := by
      change execTsSeed s = _
      rw [execTsSeed, if_neg (by simp [hno])]
    exact completes_of_done hx rfl
  case pending =>
    intro s
    refine ⟨completes_of_done rfl ⟨(status_bit _ _ _).trans (bit_setFld_self s _ 1 (Fld.fits (by rfl)) rfl), ?_⟩,
      completes_of_done rfl ⟨(status_bit _ _ _).trans (bit_setFld_self s _ 1 (Fld.fits (by rfl)) rfl), ?_⟩⟩
    · exact ((Frame.refl s _).flag (by simp) (Fld.fits (by rfl))).withStatus 0
    · exact ((Frame.refl s _).flag (by simp) (Fld.fits (by rfl))).withStatus 0
  case set =>
    intro s hset hsync hseeded
    have hseeded' : s.rtcWasSet.bit F.TIME_STAT_SEED_DONE = true :=
      ((bit_setFld_apart _ 0 (Fld.fits (by rfl)) (.inl (by decide))).trans (bit_setFld_apart _ 1 (Fld.fits (by rfl)) (.inl (by decide)))).trans hseeded
    have hvalid : s.rtcWasSet.bit F.RTC_STAT_VALID = true :=
      (bit_setFld_apart _ 0 (Fld.fits (by rfl)) (.inl (by decide))).trans (bit_setFld_self _ _ 1 (Fld.fits (by rfl)) rfl)
    have hclear : s.rtcWasSet.bit F.RTC_CTL_SET = false := bit_setFld_self _ _ 0 (Fld.fits (by rfl)) rfl
    have hx : exec .rtcSetApply s = done s (({ s.rtcWasSet with time := { s.rtcWasSet.time with rtcRose := true } }).flag F.TOP_READY_RTC) := by
      change execRtcSetApply s = _
      rw [execRtcSetApply, if_pos (by simp [hset, hsync]), rtcTick_loads hset hsync, rtcAfter_seeded hseeded']
    refine completes_of_done hx ⟨rtc_rtcWasSet s, ?_, ?_, bit_setFld_self _ _ 1 (Fld.fits (by rfl)) rfl, ?_⟩
    · rw [flag_eq, bit_setFld_apart _ 1 (Fld.fits (by rfl)) (.inl (by decide)), bit_withTime, hvalid]
    · rw [flag_eq, bit_setFld_apart _ 1 (Fld.fits (by rfl)) (.inl (by decide)), bit_withTime, hclear]
    · exact ((((Frame.refl _ _).flag (by simp) (Fld.fits (by rfl))).setFld 0 (by simp) (Fld.fits (by rfl))).withTime _).flag (by simp) (Fld.fits (by rfl))
  case noSet =>
    intro s h
    have hx : exec .rtcSetApply s = done s s := by
      change execRtcSetApply s = _
      rw [execRtcSetApply, if_neg (by rcases h with h | h <;> simp [h])]
    exact completes_of_done hx rfl
  case trim =>
    intro s hset hseeded
    exact completes_of_done (congrArg (done s) (rtcTick_trims (s := { s with time := { s.time with rtcTrim := 2 ^ 20 - 1 } }) rfl hset hseeded))
      ⟨wrapTo_cast 55 _, bit_setFld_self _ _ 1 (Fld.fits (by rfl)) rfl, (Frame.refl _ _).flag (by simp) (Fld.fits (by rfl))⟩
  case stopReady =>
    intro s hready
    have hx : exec .oscStop s = done s ((s.oscStopped.setFld F.TOP_READY_RTC 0).fault 0x07 0x1 3) :=
      congrArg (done s) ((setReady_false s.oscStopped 3).trans (if_pos ((ready_oscStopped s).trans hready)))
    refine completes_of_done hx ⟨_, rfl, ?_, ?_, ?_, ?_⟩
    · rw [bit_setFld_apart _ _ (Fld.fits (by rfl)) (.inl (by decide)), osc_oscStopped]
    · rw [bit_setFld_apart _ _ (Fld.fits (by rfl)) (.inl (by decide)), valid_oscStopped]
    · exact bit_setFld_self _ _ 0 (Fld.fits (by rfl)) rfl
    · exact (frame_oscStopped s (by simp) (by simp)).setFld 0 (by simp) (Fld.fits (by rfl))
  case stop =>
    intro s hready
    have hlow : ¬ s.oscStopped.bit (readyFld 3) = true := by
      rw [show s.oscStopped.bit (readyFld 3) = false from (ready_oscStopped s).trans hready]
      decide
    have hx : exec .oscStop s = done s s.oscStopped := congrArg (done s) ((setReady_false s.oscStopped 3).trans (if_neg hlow))
    exact completes_of_done hx ⟨osc_oscStopped s, valid_oscStopped s, frame_oscStopped s (by simp) (by simp)⟩
  case vbat =>
    intro s
    refine completes_of_done (exec_vbatLoss s) ⟨?_, ?_, ?_, ?_, ?_, rfl, ?_⟩
    · exact bit_setFld_self _ _ 1 (Fld.fits (by rfl)) rfl
    · rw [State.vbatLost, flag_eq, bit_setFld_apart _ _ (Fld.fits (by rfl)) (Fld.apart (by rfl))]
      simp [State.bit, State.fld, State.rdN, F.RTC_STAT_VALID, fieldN]
    · simp (disch := decide) only [State.vbatLost, flag_eq, rd_setFld_ne, rd_put_self, rd_put_ne]
    · simp (disch := decide) only [State.vbatLost, flag_eq, rd_setFld_ne, rd_put_self, rd_put_ne]
    · simp (disch := decide) only [State.vbatLost, flag_eq, rd_setFld_ne, rd_put_self, rd_put_ne]
    · exact ((((((Frame.refl _ _).putWord 0 (by simp)).putWord 0 (by simp)).putWord 0 (by simp)).putWord 0 (by simp)).putWord 0 (by simp)).putWord 0
        (by simp) |>.setFld_whole 1 (by simp [F.RTC_STAT_VBAT_LOW])
  case read =>
    intro s
    refine completes_of_done rfl ⟨?_, ?_, ?_, ?_⟩
    · rw [State.rdN, State.rtcRead]
      simp (disch := decide) only [rd_setFld_ne, putN_eq, rd_put_self, BitVec.toNat_ofNat]
    · exact fld_setFld_self _ _ _ (Fld.fits (by rfl))
    · refine (fld_setFld_apart _ _ (Fld.fits (by rfl)) (Fld.apart (by rfl))).trans ((fld_setFld_self _ _ _ (Fld.fits (by rfl))).trans ?_)
      rw [Nat.div_div_eq_div_mul, show 32768 * 2 ^ 32 = 2 ^ 47 from rfl]
    · exact (((Frame.refl s _).putN _ (by simp)).setFld _ (by simp) (Fld.fits (by rfl))).setFld _ (by simp) (Fld.fits (by rfl))

end Sys2Proof.Machine
end
section
/-!
PROOFS. A sensor channel's bits: what each stage of its chain keeps, and the sample that completes a decimation (R305 to R310).
-/
namespace Sys2Proof.Machine

/-! ### What a stage keeps -/

/-- The fields of SDF_CHn_STAT in which a stage notes a limited value. -/
def sdfSatFields (n : Nat) : List Fld := [F.SDF_CH_STAT_SAT0_SAT3 n, F.SDF_CH_STAT_SAT_CNT n, F.SDF_CH_STAT_SAT n]

/-- From `s` to `v` stages of channel `n` have run without a sample. -/
structure SdfStage (s v : State) (n : Fin 16) : Prop where
  samples : v.sdf.ch[n].samples = s.sdf.ch[n].samples
  sdf     : v.sdf = { s.sdf with ch := s.sdf.ch.set n v.sdf.ch[n] }
  frame   : Frame { s with sdf := v.sdf } v (sdfSatFields n)

theorem ch_set_self (v : Vector SdfCh 16) (n : Fin 16) : v.set n v[n] = v := by simp

theorem ch_set_set (v : Vector SdfCh 16) (n : Fin 16) (c d : SdfCh) : (v.set n c).set n d = v.set n d := by
  ext i hi
  simp only [Vector.getElem_set]
  split <;> rfl

theorem SdfStage.refl (s : State) (n : Fin 16) : SdfStage s s n :=
  ⟨rfl, by rw [ch_set_self], Frame.refl s _⟩

theorem SdfStage.trans {s t v : State} {n : Fin 16} (h : SdfStage s t n) (k : SdfStage t v n) : SdfStage s v n := by
  refine ⟨k.samples.trans h.samples, ?_, (h.frame.withSdf v.sdf).trans k.frame⟩
  have hk := k.sdf
  rw [h.sdf] at hk
  simp only [ch_set_set] at hk
  exact hk

/-- A register other than the channel's SDF_CHn_STAT reads as before. -/
theorem SdfStage.rd {s v : State} {n : Fin 16} (h : SdfStage s v n) {off : Nat} (ho : off ≠ R.SDF_CH_STAT n) : v.rd off = s.rd off := by
  refine h.frame.rd (fieldBits_eq_zero (fun f hf => ?_))
  simp only [sdfSatFields, List.mem_cons, List.not_mem_nil, or_false] at hf
  rcases hf with rfl | rfl | rfl <;> exact ho.symm

/-- A change of the chain that keeps its samples. -/
theorem setSdfCh_stage (s : State) (n : Fin 16) {c : SdfCh} (h : c.samples = s.sdf.ch[n].samples) : SdfStage s (s.setSdfCh n c) n := by
  have hch : (s.setSdfCh n c).sdf.ch[n] = c := by
    rw [setSdfCh_fin]
    simp
  refine ⟨by rw [hch, h], ?_, ?_⟩
  · rw [hch, setSdfCh_fin]
  · rw [setSdfCh_fin]
    exact Frame.refl _ _

theorem stageOut_value (s : State) (n i sh : Nat) (v : Int) : (s.stageOut n i sh v).1 = clampI (rshift v sh) (-8388608) 8388607 := by
  unfold State.stageOut
  dsimp only
  split <;> rfl

theorem stageOut_sdf (s : State) (n i sh : Nat) (v : Int) : (s.stageOut n i sh v).2.sdf = s.sdf := by
  unfold State.stageOut
  dsimp only
  split
  · rfl
  · rw [incCnt_sdf, setFld_sdf]

theorem stageOut_stage (s : State) (n : Fin 16) (i sh : Nat) (v : Int) : SdfStage s (s.stageOut n i sh v).2 n := by
  unfold State.stageOut
  dsimp only
  split
  · exact SdfStage.refl s n
  · refine ⟨?_, ?_, ?_⟩
    · rw [incCnt_sdf, setFld_sdf]
    · rw [incCnt_sdf, setFld_sdf, ch_set_self]
    · rw [incCnt_sdf, setFld_sdf]
      exact ((Frame.refl s _).setFld _ (by simp [sdfSatFields]) (Fld.fits (by rfl))).incCnt (by simp [sdfSatFields]) (Fld.fits (by rfl)) (by simp [sdfSatFields]) (Fld.fits (by rfl))

/-! ### No sample without a period (R310) -/

theorem sdfPeriod_ne_chStat (n : Fin 16) : R.SDF_GRP_PER (n / 4) ≠ R.SDF_CH_STAT n := by
  simp only [R.SDF_GRP_PER, R.SDF_CH_STAT]
  omega

theorem sdfEmit_no_period {s : State} {n : Fin 16} (h : s.rd (R.SDF_GRP_PER (n / 4)) = 0) (y : Int) (t : Nat) : s.sdfEmit n y t = s := by
  unfold State.sdfEmit
  dsimp only
  rw [if_pos (by simp [State.rdN, sdfGroup, h])]

section
variable {s : State} {n : Fin 16}

theorem SdfStage.period {v : State} (h : SdfStage s v n) (hper : s.rd (R.SDF_GRP_PER (n / 4)) = 0) : v.rd (R.SDF_GRP_PER (n / 4)) = 0 :=
  (h.rd (sdfPeriod_ne_chStat n)).trans hper

theorem firStage_stage (hper : s.rd (R.SDF_GRP_PER (n / 4)) = 0) (x : Int × Bool) (t : Nat) : SdfStage s (s.firStage n x t) n := by
  unfold State.firStage
  dsimp only
  split
  · exact setSdfCh_stage s n (by rw [sdfCh_fin])
  · have hset := setSdfCh_stage s n (c := { s.sdfCh n with h3 := (x :: (s.sdfCh n).h3).take 64, c3 := 0 }) (by rw [sdfCh_fin])
    have hout := fun sh y => hset.trans (stageOut_stage _ n 3 sh y)
    split
    · rw [sdfEmit_no_period ((hout _ _).period hper)]
      exact hout _ _
    · exact hout _ _

theorem afterHalf_stage (hper : s.rd (R.SDF_GRP_PER (n / 4)) = 0) (x : Int × Bool) (t : Nat) : SdfStage s (s.afterHalf n x t) n := by
  unfold State.afterHalf
  split
  · exact firStage_stage hper x t
  · split
    · rw [sdfEmit_no_period hper]
      exact SdfStage.refl s n
    · exact SdfStage.refl s n

theorem half2_stage (hper : s.rd (R.SDF_GRP_PER (n / 4)) = 0) (x : Int × Bool) (t : Nat) : SdfStage s (s.half2 n x t) n := by
  unfold State.half2
  dsimp only
  split
  · exact afterHalf_stage hper x t
  · split
    · exact setSdfCh_stage s n (by rw [sdfCh_fin])
    · have hset := setSdfCh_stage s n (c := { s.sdfCh n with h2 := (x :: (s.sdfCh n).h2).take 11, c2 := 0 }) (by rw [sdfCh_fin])
      refine (hset.trans (stageOut_stage _ n 2 _ _)).trans (afterHalf_stage ?_ _ t)
      exact (hset.trans (stageOut_stage _ n 2 _ _)).period hper

theorem half1_stage (hper : s.rd (R.SDF_GRP_PER (n / 4)) = 0) (x : Int × Bool) (t : Nat) : SdfStage s (s.half1 n x t) n := by
  unfold State.half1
  dsimp only
  split
  · exact afterHalf_stage hper x t
  · split
    · exact setSdfCh_stage s n (by rw [sdfCh_fin])
    · have hset := setSdfCh_stage s n (c := { s.sdfCh n with h1 := (x :: (s.sdfCh n).h1).take 11, c1 := 0 }) (by rw [sdfCh_fin])
      refine (hset.trans (stageOut_stage _ n 1 _ _)).trans (half2_stage ?_ _ t)
      exact (hset.trans (stageOut_stage _ n 1 _ _)).period hper

theorem sdfBit_stage (hper : s.rd (R.SDF_GRP_PER (n / 4)) = 0) (x : Bool) (t : Nat) : SdfStage s (s.sdfBit n x t) n := by
  unfold State.sdfBit
  dsimp only
  split
  · exact setSdfCh_stage s n (by rw [sdfCh_fin])
  · generalize hh : (List.take _ _) = h
    have hset := setSdfCh_stage s n (c := { s.sdfCh n with h0 := h, c0 := 0 }) (by rw [sdfCh_fin])
    refine (hset.trans (stageOut_stage _ n 0 _ _)).trans (half1_stage ?_ _ t)
    exact (hset.trans (stageOut_stage _ n 0 _ _)).period hper

end

/-! ### The sample that completes a decimation -/

/-- The bit as the sinc takes it (R306). -/
def State.sdfIn (s : State) (n : Nat) (x : Bool) : Int := if x != s.bit (F.SDF_CH_CTL_INV n) then 1 else -1

/-- The sinc history with a new bit (R306). -/
def State.sdfHistory (s : State) (n : Fin 16) (x : Bool) : List Int :=
  (s.sdfIn n x :: s.sdf.ch[n].h0).take ((s.fld (F.SDF_CH_CTL_K n) + 1) * (s.fld (F.SDF_CH_CTL_M n) - 1) + 1)

/-- The sinc sum (R306). -/
def State.sdfSum (s : State) (n : Fin 16) (x : Bool) : Int :=
  dot (sincTaps (s.fld (F.SDF_CH_CTL_M n)) (s.fld (F.SDF_CH_CTL_K n) + 1)) (s.sdfHistory n x)

/-- The chain has decimated. -/
def State.sdfDecimated (s : State) (n : Fin 16) (x : Bool) : State :=
  { s with sdf := { s.sdf with ch := s.sdf.ch.set n { s.sdf.ch[n] with h0 := s.sdfHistory n x, c0 := 0 } } }

theorem sdfBit_short {s : State} {n : Fin 16} (x : Bool) (t : Nat) (h : s.sdf.ch[n].c0 + 1 < s.fld (F.SDF_CH_CTL_M n)) :
    s.sdfBit n x t =
      { s with sdf := { s.sdf with ch := s.sdf.ch.set n { s.sdf.ch[n] with h0 := s.sdfHistory n x, c0 := s.sdf.ch[n].c0 + 1 } } } := by
  unfold State.sdfBit
  simp only [sdfCh_fin, setSdfCh_fin, if_pos h]
  rfl

/-- The sinc stage's result is the sample where nothing follows it and its history is full. -/
theorem sdfBit_sample {s : State} {n : Fin 16} (x : Bool) (t : Nat) (h : s.fld (F.SDF_CH_CTL_M n) ≤ s.sdf.ch[n].c0 + 1)
    (hhb : s.fld (F.SDF_CH_CTL_NHB n) = 0) (hfir : s.bit (F.SDF_CH_CTL_FIR_EN n) = false)
    (hfull : (s.fld (F.SDF_CH_CTL_K n) + 1) * (s.fld (F.SDF_CH_CTL_M n) - 1) ≤ s.sdf.ch[n].h0.length) :
    let r := (s.sdfDecimated n x).stageOut n 0 (s.fld (F.SDF_CH_SH_SH0 n)) (s.sdfSum n x)
    s.sdfBit n x t = r.2.sdfEmit n r.1 t := by
  intro r
  have hstage : SdfStage (s.sdfDecimated n x) r.2 n := stageOut_stage _ n 0 _ _
  have hctl : r.2.rd (R.SDF_CH_CTL n) = s.rd (R.SDF_CH_CTL n) := hstage.rd (by simp only [R.SDF_CH_CTL, R.SDF_CH_STAT]; omega)
  have hhb' : r.2.fld (F.SDF_CH_CTL_NHB n) = 0 := (fld_of_rd_eq _ hctl).trans hhb
  have hfir' : r.2.bit (F.SDF_CH_CTL_FIR_EN n) = false := (bit_of_rd_eq _ hctl).trans hfir
  have hlen : (s.sdfHistory n x).length = (s.fld (F.SDF_CH_CTL_K n) + 1) * (s.fld (F.SDF_CH_CTL_M n) - 1) + 1 := by
    rw [State.sdfHistory, List.length_take, List.length_cons]
    omega
  have hbit : s.sdfBit n x t =
      r.2.half1 n (r.1, (s.sdfHistory n x).length == (s.fld (F.SDF_CH_CTL_K n) + 1) * (s.fld (F.SDF_CH_CTL_M n) - 1) + 1) t := by
    unfold State.sdfBit
    simp only [sdfCh_fin, setSdfCh_fin, if_neg (Nat.not_lt.mpr h)]
    rfl
  rw [hbit, hlen, beq_self_eq_true]
  simp [State.half1, State.afterHalf, hhb', hfir']

theorem sdfBits_one (s : State) (n : Fin 16) (x : Bool) : sdfBits s n [x] = s.sdfBit n x s.tsNs := by
  have ht : wrapTo 32 (s.tsNs : Int) = s.tsNs := by
    have h1 := wrapTo_cast 32 s.tsNs
    have h2 : s.tsNs < 2 ^ 32 := Nat.mod_lt _ (by decide)
    omega
  simp [sdfBits, ht]

theorem execSdfSample_on {s : State} {n : Fin 16} (bits : List Bool) (hen : s.bit (F.SDF_CH_CTL_EN n) = true)
    (hmode : s.fld (F.SDF_GRP_CTL_MODE (n / 4)) ≠ 0) (hgone : s.sdfGone (n / 4) = false) (hgate : s.bit (F.PWR_CLASS_GATED 0x0D) = false) :
    exec (.sdfSample n bits) s = done s (sdfBits s n bits) := by
  change execSdfSample n bits s = _
  rw [execSdfSample, if_pos (by simp [sdfGroup, hen, hmode, hgone, hgate])]

theorem execSdfSample_off {s : State} {n : Fin 16} (bits : List Bool) (h : s.bit (F.SDF_CH_CTL_EN n) = false ∨ s.fld (F.SDF_GRP_CTL_MODE (n / 4)) = 0 ∨
    s.sdfGone (n / 4) = true ∨ s.bit (F.PWR_CLASS_GATED 0x0D) = true) : exec (.sdfSample n bits) s = done s s := by
  change execSdfSample n bits s = _
  rw [execSdfSample, if_neg (by rcases h with h | h | h | h <;> simp [sdfGroup, h])]

/-! ### What a limited value leaves in SDF_CHn_STAT (R306) -/

theorem stageOut_fits {s : State} {n i sh : Nat} {v : Int} (h : sat24 (rshift v sh) = rshift v sh) : (s.stageOut n i sh v).2 = s := by
  unfold State.stageOut
  dsimp only
  rw [if_pos h]

theorem stageOut_limited {s : State} {n i sh : Nat} {v : Int} (h : sat24 (rshift v sh) ≠ rshift v sh) :
    (s.stageOut n i sh v).2 = (s.setFld (F.SDF_CH_STAT_SAT0_SAT3 n) (Nat.lor (s.fld (F.SDF_CH_STAT_SAT0_SAT3 n)) (2 ^ i))).incCnt
      (F.SDF_CH_STAT_SAT_CNT n) (F.SDF_CH_STAT_SAT n) := by
  unfold State.stageOut
  dsimp only
  rw [if_neg h]

theorem stageOut_sat0 (s : State) (n sh : Nat) (v : Int) :
    let r := rshift v sh
    let y := clampI r (-8388608) 8388607
    let w := (s.stageOut n 0 sh v).2
    bitN (w.fld (F.SDF_CH_STAT_SAT0_SAT3 n)) 0 = (bitN (s.fld (F.SDF_CH_STAT_SAT0_SAT3 n)) 0 || decide (y ≠ r)) ∧
      w.fld (F.SDF_CH_STAT_SAT0_SAT3 n) / 2 = s.fld (F.SDF_CH_STAT_SAT0_SAT3 n) / 2 ∧
      w.fld (F.SDF_CH_STAT_SAT_CNT n) = min (s.fld (F.SDF_CH_STAT_SAT_CNT n) + b2n (decide (y ≠ r))) 32767 := by
  intro r y w
  have hsat : s.fld (F.SDF_CH_STAT_SAT0_SAT3 n) < 2 ^ 4 := fld_lt s _
  have hcnt : s.fld (F.SDF_CH_STAT_SAT_CNT n) < 32768 := fld_lt s _
  by_cases hy : y = r
  · have hw : w = s := stageOut_fits hy
    rw [hw]
    simp [hy, b2n]
    omega
  · have hw := stageOut_limited (s := s) (n := n) (i := 0) hy
    have hor : w.fld (F.SDF_CH_STAT_SAT0_SAT3 n) = s.fld (F.SDF_CH_STAT_SAT0_SAT3 n) ||| 1 := by
      rw [show w = _ from hw, fld_incCnt_apart _ (Fld.fits (by rfl)) (Fld.fits (by rfl)) (Fld.apart (by rfl)) (Fld.apart (by rfl)), fld_setFld_self _ _ _ (Fld.fits (by rfl))]
      exact Nat.mod_eq_of_lt (Nat.or_lt_two_pow hsat (show 2 ^ 0 < 2 ^ 4 by decide))
    rw [hor]
    refine ⟨?_, by simp [Nat.or_div_two], ?_⟩
    · simp [bitN, hy]
    · rw [show w = _ from hw, fld_incCnt_self _ _ _ (Fld.fits (by rfl)) (Fld.fits (by rfl)) (Fld.apart (by rfl)), fld_setFld_apart _ _ (Fld.fits (by rfl)) (Fld.apart (by rfl))]
      simp [hy, b2n, F.SDF_CH_STAT_SAT_CNT]

/-! ### The sample (R309, R310) -/

/-- The stamp of a sample whose last bit came at `t`: the group delay is taken off (R309). -/
def State.sdfStamp (s : State) (n t : Nat) : Nat :=
  wrapTo 32 ((t : Int) - ((s.groupDelay n * s.rdN (R.SDF_GRP_PER (n / 4)) + 2 ^ 16) / 2 ^ 17 : Nat))

/-- The chain has a sample `y` more. -/
def State.sdfSampled (s : State) (n : Fin 16) (y : Int) (t : Nat) : State :=
  { s with sdf := { s.sdf with ch := s.sdf.ch.set n { s.sdf.ch[n] with samples := ((s.sdfStamp n t, y) :: s.sdf.ch[n].samples).take 16 } } }

theorem sdfEmit_eq {s : State} {n : Fin 16} (h : s.rd (R.SDF_GRP_PER (n / 4)) ≠ 0) (y : Int) (t : Nat) :
    s.sdfEmit n y t = ((((s.sdfSampled n y t).putN (R.SDF_CH_DATA n) (wrapTo 32 y)).putN (R.SDF_CH_TS n) (s.sdfStamp n t)).incWrap
      (F.SDF_CH_SEQ_SEQ n)).setFld (F.SDF_CH_STAT_SETTLING n) 0 := by
  have hper : s.rdN (R.SDF_GRP_PER (sdfGroup n)) ≠ 0 := fun he => h (BitVec.eq_of_toNat_eq he)
  unfold State.sdfEmit
  dsimp only
  rw [if_neg hper, sdfCh_fin, setSdfCh_fin]
  rfl

theorem toNat_ofNat_wrapTo (x : Int) : (BitVec.ofNat 32 (wrapTo 32 x)).toNat = wrapTo 32 x := by
  rw [BitVec.toNat_ofNat, Nat.mod_eq_of_lt (wrapTo_lt 32 x)]

/-- What a sample of channel `n` leaves. -/
structure SdfShown (s v : State) (n : Fin 16) (y : Int) (t : Nat) : Prop where
  data     : v.rdN (R.SDF_CH_DATA n) = wrapTo 32 y
  ts       : v.rdN (R.SDF_CH_TS n) = s.sdfStamp n t
  seq      : v.fld (F.SDF_CH_SEQ_SEQ n) = (s.fld (F.SDF_CH_SEQ_SEQ n) + 1) % 65536
  settling : v.bit (F.SDF_CH_STAT_SETTLING n) = false
  sat      : v.fld (F.SDF_CH_STAT_SAT0_SAT3 n) = s.fld (F.SDF_CH_STAT_SAT0_SAT3 n)
  satCnt   : v.fld (F.SDF_CH_STAT_SAT_CNT n) = s.fld (F.SDF_CH_STAT_SAT_CNT n)
  sdf      : v.sdf = (s.sdfSampled n y t).sdf
  frame    : Frame { s with sdf := v.sdf } v
    [whole (R.SDF_CH_DATA n), whole (R.SDF_CH_TS n), F.SDF_CH_SEQ_SEQ n, F.SDF_CH_STAT_SETTLING n]

theorem sdfEmit_shows {s : State} {n : Fin 16} (h : s.rd (R.SDF_GRP_PER (n / 4)) ≠ 0) (y : Int) (t : Nat) :
    SdfShown s (s.sdfEmit n y t) n y t := by
  rw [sdfEmit_eq h]
  have hdt : R.SDF_CH_DATA n ≠ R.SDF_CH_TS n := by simp only [R.SDF_CH_DATA, R.SDF_CH_TS]; omega
  have hds : R.SDF_CH_DATA n ≠ R.SDF_CH_SEQ n := by simp only [R.SDF_CH_DATA, R.SDF_CH_SEQ]; omega
  have hdx : R.SDF_CH_DATA n ≠ R.SDF_CH_STAT n := by simp only [R.SDF_CH_DATA, R.SDF_CH_STAT]; omega
  have hts : R.SDF_CH_TS n ≠ R.SDF_CH_SEQ n := by simp only [R.SDF_CH_TS, R.SDF_CH_SEQ]; omega
  have htx : R.SDF_CH_TS n ≠ R.SDF_CH_STAT n := by simp only [R.SDF_CH_TS, R.SDF_CH_STAT]; omega
  have hsx : R.SDF_CH_SEQ n ≠ R.SDF_CH_STAT n := by simp only [R.SDF_CH_SEQ, R.SDF_CH_STAT]; omega
  have hstat : ∀ f : Fld, f.off = R.SDF_CH_STAT n → f.Apart (F.SDF_CH_STAT_SETTLING n) → (F.SDF_CH_STAT_SETTLING n).Apart f →
      (((((s.sdfSampled n y t).putN (R.SDF_CH_DATA n) (wrapTo 32 y)).putN (R.SDF_CH_TS n) (s.sdfStamp n t)).incWrap
        (F.SDF_CH_SEQ_SEQ n)).setFld (F.SDF_CH_STAT_SETTLING n) 0).fld f = s.fld f := by
    intro f hf _ ha
    rw [fld_setFld_apart _ _ (Fld.fits (by rfl)) ha, incWrap_eq, fld_setFld_ne _ _ _ _ (by rw [hf]; exact hsx.symm), putN_eq, putN_eq,
      fld_put_ne _ _ _ _ (by rw [hf]; exact htx.symm), fld_put_ne _ _ _ _ (by rw [hf]; exact hdx.symm)]
    rfl
  refine ⟨?_, ?_, ?_, bit_setFld_self _ _ 0 (Fld.fits (by rfl)) rfl, hstat _ rfl (Fld.apart (by rfl)) (Fld.apart (by rfl)), hstat _ rfl (Fld.apart (by rfl)) (Fld.apart (by rfl)), rfl, ?_⟩
  · rw [State.rdN, rd_setFld_ne _ _ _ hdx, incWrap_eq, rd_setFld_ne _ _ _ hds, putN_eq, rd_put_ne _ _ hdt, putN_eq, rd_put_self, toNat_ofNat_wrapTo]
  · rw [State.rdN, rd_setFld_ne _ _ _ htx, incWrap_eq, rd_setFld_ne _ _ _ hts, putN_eq, rd_put_self]
    exact toNat_ofNat_wrapTo _
  · rw [fld_setFld_ne _ _ _ _ hsx, incWrap_eq, fld_setFld_self _ _ _ (Fld.fits (by rfl)), putN_eq, putN_eq, fld_put_ne _ _ _ _ hts.symm,
      fld_put_ne _ _ _ _ hds.symm]
    rfl
  · exact ((((Frame.refl _ _).putN _ (by simp)).putN _ (by simp)).incWrap (by simp) (Fld.fits (by rfl))).setFld 0 (by simp) (Fld.fits (by rfl))

theorem sdfStamp_cast (s : State) (n t : Nat) : (s.sdfStamp n t : Int) =
    ((t : Int) - ((s.groupDelay n * s.rdN (R.SDF_GRP_PER (n / 4)) + 2 ^ 16) / 2 ^ 17 : Nat)) % 2 ^ 32 := wrapTo_cast 32 _

/-- Stages change nothing that the stamp is made of. -/
theorem SdfStage.stamp {s v : State} {n : Fin 16} (h : SdfStage s v n) (t : Nat) : v.sdfStamp n t = s.sdfStamp n t := by
  have hctl : v.rd (R.SDF_CH_CTL n) = s.rd (R.SDF_CH_CTL n) := h.rd (by simp only [R.SDF_CH_CTL, R.SDF_CH_STAT]; omega)
  have hfir : v.rd (R.SDF_CH_FIR n) = s.rd (R.SDF_CH_FIR n) := h.rd (by simp only [R.SDF_CH_FIR, R.SDF_CH_STAT]; omega)
  have hper := h.rd (sdfPeriod_ne_chStat n)
  have hgd : v.groupDelay n = s.groupDelay n := by
    unfold State.groupDelay
    rw [fld_of_rd_eq (F.SDF_CH_CTL_M n) hctl, fld_of_rd_eq (F.SDF_CH_CTL_NHB n) hctl, fld_of_rd_eq (F.SDF_CH_CTL_K n) hctl,
      bit_of_rd_eq (F.SDF_CH_CTL_FIR_EN n) hctl, fld_of_rd_eq (F.SDF_CH_FIR_GD n) hfir]
  rw [State.sdfStamp, hgd, State.rdN, hper]
  rfl

/-- The fields that the sample which completes a decimation sets. -/
def sdfSampleFields (n : Nat) : List Fld :=
  [whole (R.SDF_CH_DATA n), whole (R.SDF_CH_TS n), F.SDF_CH_SEQ_SEQ n, F.SDF_CH_STAT_SETTLING n, F.SDF_CH_STAT_SAT0_SAT3 n,
    F.SDF_CH_STAT_SAT_CNT n, F.SDF_CH_STAT_SAT n]

/-- Settles O45: each stage of the chain keeps the samples and all registers but its saturation flags; the sample is `State.sdfEmit`. -/
theorem sensorFilterDecimates : Obligations.SensorFilterDecimates := by
  unfold Obligations.SensorFilterDecimates
  refine ⟨?off, ?short, ?sample, ?noPeriod⟩
  case off =>
    intro n bits s h
    exact completes_of_done (execSdfSample_off bits h) rfl
  case short =>
    intro n x s hen hmode hgone hgate hshort
    refine completes_of_done (execSdfSample_on [x] hen hmode hgone hgate) ?_
    rw [sdfBits_one, sdfBit_short x _ hshort]
    rfl
  case sample =>
    intro n x s hen hmode hgone hgate hdec _ hhb hfir hper k m hfull b h r y corr
    have hstage := stageOut_stage (s.sdfDecimated n x) n 0 (s.fld (F.SDF_CH_SH_SH0 n)) (s.sdfSum n x)
    obtain ⟨hsat, hrest, hcnt⟩ := stageOut_sat0 (s.sdfDecimated n x) n (s.fld (F.SDF_CH_SH_SH0 n)) (s.sdfSum n x)
    have hsdf := stageOut_sdf (s.sdfDecimated n x) n 0 (s.fld (F.SDF_CH_SH_SH0 n)) (s.sdfSum n x)
    have hval := stageOut_value (s.sdfDecimated n x) n 0 (s.fld (F.SDF_CH_SH_SH0 n)) (s.sdfSum n x)
    have hsample := sdfBit_sample x s.tsNs hdec hhb hfir hfull
    have hx := execSdfSample_on [x] hen hmode hgone hgate
    rw [sdfBits_one, hsample, hval] at hx
    generalize ((s.sdfDecimated n x).stageOut n 0 (s.fld (F.SDF_CH_SH_SH0 n)) (s.sdfSum n x)).2 = u at *
    have hshow := sdfEmit_shows (fun he => hper ((hstage.rd (sdfPeriod_ne_chStat n)).symm.trans he)) y s.tsNs
    generalize hv : u.sdfEmit n y s.tsNs = v at hshow
    have hstamp : u.sdfStamp n s.tsNs = s.sdfStamp n s.tsNs := hstage.stamp s.tsNs
    have hch : v.sdf.ch[n] = { s.sdf.ch[n] with h0 := h, c0 := 0, samples := ((s.sdfStamp n s.tsNs, y) :: s.sdf.ch[n].samples).take 16 } := by
      rw [hshow.sdf, State.sdfSampled, hsdf, hstamp]
      simp [State.sdfDecimated]
      rfl
    have hnew : v.sdf = { s.sdf with ch := s.sdf.ch.set n v.sdf.ch[n] } := by
      rw [hch, hshow.sdf, State.sdfSampled, hsdf, hstamp]
      simp only [State.sdfDecimated, ch_set_set]
      simp
      rfl
    refine completes_of_done (hx.trans (congrArg (done s) hv)) ⟨hshow.data, ?_, ?_, hshow.settling, ?_, ?_, ?_, ?_, ?_, ?_, ?_⟩
    · rw [hshow.ts, hstamp]
      exact sdfStamp_cast s n s.tsNs
    · rw [hshow.seq, fld_of_rd_eq _ (hstage.rd (by simp only [R.SDF_CH_SEQ, F.SDF_CH_SEQ_SEQ, R.SDF_CH_STAT]; omega))]
      rfl
    · rw [hshow.sat]
      exact hsat
    · rw [hshow.sat]
      exact hrest
    · rw [hshow.satCnt]
      exact hcnt
    · rw [hch]
    · rw [hch]
    · rw [hch, hshow.ts, hstamp]
    · have hbefore : Frame (s.sdfDecimated n x) { u with sdf := (s.sdfDecimated n x).sdf } (sdfSampleFields n) := by
        have hf := hstage.frame
        rw [hsdf] at hf
        exact (hf.withSdf _).mono (by simp [sdfSatFields, sdfSampleFields])
      rw [← hnew]
      exact (hbefore.withSdf v.sdf).trans (hshow.frame.mono (by simp [sdfSampleFields]))
  case noPeriod =>
    intro n x s hen hmode hgone hgate hper
    have hstage := sdfBit_stage hper x s.tsNs
    refine completes_of_done (execSdfSample_on [x] hen hmode hgone hgate) ?_
    rw [sdfBits_one]
    refine ⟨hstage.samples, hstage.rd (by simp only [R.SDF_CH_DATA, R.SDF_CH_STAT]; omega),
      fld_of_rd_eq _ (hstage.rd (by simp only [R.SDF_CH_SEQ, F.SDF_CH_SEQ_SEQ, R.SDF_CH_STAT]; omega)), ?_⟩
    have hframe := hstage.frame
    rw [hstage.sdf] at hframe
    exact hframe

end Sys2Proof.Machine
end
section
/-!
SUPPORT. Control frames to the neighbour of a Nimeb port, and what an acknowledgement on one leaves (R127, R128, R130).
-/
namespace Sys2Proof.Machine

theorem npS_fin (s : State) (p : Fin 4) : s.npS p = s.np[p] := vget_fin _ _ _

theorem np_set (v : Vector NpS 4) (p : Fin 4) (x : NpS) : (v.set p x)[p] = x := by simp

theorem b2n_false : b2n false = 0 := rfl

/-- A control frame leaves: the port's place among its lanes moves and its count goes on (R125, R127). -/
theorem nimCtrl_eq (s : State) (p : Fin 4) (ty : Nat) (pl : List Byte) : ∃ k, s.nimCtrl p ty pl =
    { s with np := s.np.set p { s.np[p] with next := k, count := s.np[p].count + 1 },
             out := s.out ++ [sentFrame s p ty (4 * b2n (s.npSt p == npStUp)) 0x3FFFF s.devId 0 (if s.npSt p = npStUp then s.np[p].rxSeq else 0) pl] } := by
  rw [State.nimCtrl, State.nimSend, emit_eq]
  simp only [scanned, Bool.and_false, Bool.false_eq_true, if_false, State.modNp, vput_fin, npS_fin, sentFrame, beq_iff_eq, Nat.zero_add,
    Nat.mul_zero, Nat.add_zero, b2n_false]
  exact ⟨_, rfl⟩

/-- From `s` to `v` port `p` has sent what its credits allow. -/
structure NpSends (s v : State) (p : Nat) : Prop where
  regs  : ∀ off, off ≠ R.NP_CREDIT p → v.rd off = s.rd off
  rest  : v = { s with regs := v.regs, np := v.np, out := v.out }
  rxSeq : (v.npS p).rxSeq = (s.npS p).rxSeq

theorem NpSends.refl (s : State) (p : Nat) : NpSends s s p := ⟨fun _ _ => rfl, rfl, rfl⟩

theorem NpSends.trans {s t v : State} {p : Nat} (h : NpSends s t p) (k : NpSends t v p) : NpSends s v p := by
  refine ⟨fun off ho => (k.regs off ho).trans (h.regs off ho), ?_, k.rxSeq.trans h.rxSeq⟩
  rw [k.rest, h.rest]

theorem npS_modNp (s : State) {p : Nat} (f : NpS → NpS) (h : (f (s.npS p)).rxSeq = (s.npS p).rxSeq) :
    ((s.modNp p f).npS p).rxSeq = (s.npS p).rxSeq := by
  by_cases hp : p < 4
  · have hget : (s.modNp p f).npS p = f (s.npS p) := by
      simp only [State.npS, State.modNp, vget, vput, dif_pos hp]
      simp
    rw [hget, h]
  · rw [show s.modNp p f = s by rw [State.modNp, vput, dif_neg hp]]

theorem npSends_modNp (s : State) {p : Nat} (f : NpS → NpS) (h : (f (s.npS p)).rxSeq = (s.npS p).rxSeq) : NpSends s (s.modNp p f) p :=
  ⟨fun _ _ => rfl, rfl, npS_modNp s f h⟩

theorem npSends_credit (s : State) (p v x : Nat) : NpSends s (s.setFld (creditF p v) x) p :=
  ⟨fun _ ho => rd_setFld_ne s _ x ho, rfl, rfl⟩

theorem npSends_nimSend (s : State) (p ty vc : Nat) (nak : Bool) (dst src seq : Nat) (pl : List Byte) : NpSends s (s.nimSend p ty vc nak dst src seq pl) p := by
  unfold State.nimSend
  extract_lets x up bytes lanes idle blocks
  refine (npSends_modNp s _ rfl).trans ⟨fun off _ => emit_rd _ _ off, ?_, ?_⟩
  · rw [emit_eq]
  · rw [emit_eq]
    rfl

theorem npSends_npPump (p : Nat) (l : List NFrame) (stuck : List Nat) (s : State) : NpSends s (npPump p l stuck s) p := by
  induction l generalizing stuck s with
  | nil => exact NpSends.refl s p
  | cons f fs ih =>
    unfold npPump
    extract_lets need credits x t
    split
    · exact (npSends_modNp s _ rfl).trans (ih _ _)
    · exact (((npSends_modNp s _ rfl).trans (npSends_credit t p _ _)).trans (npSends_nimSend _ p _ _ _ _ _ _ _)).trans (ih _ _)

/-- An acknowledgement takes frames off what is kept and may let others leave (R130). -/
theorem npSends_npAck (s : State) (p : Nat) (ack : Option (BitVec 12)) : NpSends s (s.npAck p ack) p := by
  cases ack with
  | none => exact NpSends.refl s p
  | some a => exact (npSends_modNp s _ rfl).trans ((npSends_modNp _ _ rfl).trans (npSends_npPump p _ _ _))

section
variable {s v : State} {p : Nat} (h : NpSends s v p)
include h

theorem NpSends.fld (f : Fld) (ho : f.off ≠ R.NP_CREDIT p) : v.fld f = s.fld f := fld_of_rd_eq f (h.regs _ ho)

theorem NpSends.bit (f : Fld) (ho : f.off ≠ R.NP_CREDIT p) : v.bit f = s.bit f := bit_of_rd_eq f (h.regs _ ho)

theorem NpSends.time : v.time = s.time := by rw [h.rest]

theorem NpSends.npSt (q : Nat) : v.npSt q = s.npSt q := by
  refine h.fld _ ?_
  simp only [F.NP_STAT_STATE, R.NP_STAT, R.NP_CREDIT]
  omega

end

end Sys2Proof.Machine
end
section
/-!
PROOFS. The time exchange with the upstream device: requests sent, requests answered, responses taken and exchanges lost (R297 to R299).
-/
namespace Sys2Proof.Machine

/-! ### The bytes of a TIME frame (R297) -/

theorem leVal_leBytes (k x : Nat) : leVal (leBytes k x) = x % 256 ^ k := by
  induction k generalizing x with
  | zero => simp [leBytes, leVal, Nat.mod_one]
  | succ k ih =>
    have hpow : 256 ^ (k + 1) = 256 * 256 ^ k := Nat.pow_succ'
    rw [leBytes, leVal, ih, BitVec.toNat_ofNat, hpow, Nat.mod_mul (a := 256)]

theorem toSigned_eq_toInt (w x : Nat) : toSigned w x = (BitVec.ofNat w x).toInt := by
  unfold toSigned
  rw [BitVec.toInt_eq_toNat_cond, BitVec.toNat_ofNat]
  have hlt : x % 2 ^ w < 2 ^ w := Nat.mod_lt _ (Nat.two_pow_pos w)
  cases w with
  | zero => simp [Nat.mod_one]
  | succ w =>
    dsimp only
    rw [Nat.add_sub_cancel, Nat.pow_succ]
    split <;> split <;> omega

/-- The bytes of a TIME frame of kind `kind`. -/
def timeBytes (kind : Nat) (seq : BitVec 8) (t1 t2 t3 : BitVec 64) : List Byte :=
  leBytes 1 kind ++ leBytes 1 seq.toNat ++ zeros 6 ++ leBytes 8 t1.toNat ++ leBytes 8 t2.toNat ++ leBytes 8 t3.toNat

theorem length_timeBytes (kind : Nat) (seq : BitVec 8) (t1 t2 t3 : BitVec 64) : (timeBytes kind seq t1 t2 t3).length = 32 := rfl

theorem timeBytes_kind (kind : Nat) (seq : BitVec 8) (t1 t2 t3 : BitVec 64) : leVal ((timeBytes kind seq t1 t2 t3).take 1) = kind % 256 :=
  leVal_leBytes 1 kind

theorem timeBytes_seq (kind : Nat) (seq : BitVec 8) (t1 t2 t3 : BitVec 64) : leVal (slice (timeBytes kind seq t1 t2 t3) 1 1) = seq.toNat :=
  (leVal_leBytes 1 seq.toNat).trans (Nat.mod_eq_of_lt seq.isLt)

theorem timeBytes_t1 (kind : Nat) (seq : BitVec 8) (t1 t2 t3 : BitVec 64) : slice (timeBytes kind seq t1 t2 t3) 8 8 = leBytes 8 t1.toNat := rfl

theorem timeBytes_t2 (kind : Nat) (seq : BitVec 8) (t1 t2 t3 : BitVec 64) : slice (timeBytes kind seq t1 t2 t3) 16 8 = leBytes 8 t2.toNat := rfl

theorem timeBytes_t3 (kind : Nat) (seq : BitVec 8) (t1 t2 t3 : BitVec 64) : slice (timeBytes kind seq t1 t2 t3) 24 8 = leBytes 8 t3.toNat := rfl

theorem toSigned_leVal (t : BitVec 64) : toSigned 64 (leVal (leBytes 8 t.toNat)) = t.toInt := by
  rw [leVal_leBytes, toSigned_eq_toInt, Nat.mod_eq_of_lt (show t.toNat < 256 ^ 8 from t.isLt), BitVec.ofNat_toNat, BitVec.setWidth_eq]

/-! ### Lost exchanges (R298) -/

theorem upLost_shows (s : State) :
    s.upLost.bit F.TIME_STAT_UP_LOST = true ∧
      s.upLost.fld F.TIME_UP_CNT_LOST_CNT = min (s.fld F.TIME_UP_CNT_LOST_CNT + 1) (2 ^ F.TIME_UP_CNT_LOST_CNT.w - 1) ∧
      Frame s s.upLost [F.TIME_STAT_UP_LOST, F.TIME_UP_CNT_LOST_CNT, F.TIME_UP_CNT_SAT] := by
  refine ⟨?_, ?_, ?_⟩
  · rw [State.upLost, State.bit, fld_incCnt_apart _ (Fld.fits (by rfl)) (Fld.fits (by rfl)) (.inl (by decide)) (.inl (by decide)), ← State.bit]
    exact bit_setFld_self s _ 1 (Fld.fits (by rfl)) rfl
  · rw [State.upLost, fld_incCnt_self _ _ _ (Fld.fits (by rfl)) (Fld.fits (by rfl)) (Fld.apart (by rfl)), flag_eq, fld_setFld_ne _ _ _ _ (by decide)]
  · exact ((Frame.refl s _).flag (by simp) (Fld.fits (by rfl))).incCnt (by simp) (Fld.fits (by rfl)) (by simp) (Fld.fits (by rfl))

/-! ### Responses (R298) -/

/-- The registers after a response with this offset and delay. -/
def State.upTaken (s : State) (ofs dly : Nat) : State :=
  ((((s.putN R.TIME_UP_OFS_LO ofs).putN R.TIME_UP_OFS_HI (ofs / 2 ^ 32)).putN R.TIME_UP_DLY dly).incWrap F.TIME_UP_CNT_OK_CNT).flag
    F.TIME_STAT_UP_VALID

theorem upTaken_shows (s : State) {ofs dly : Nat} (h1 : ofs < 2 ^ 64) (h2 : dly < 2 ^ 32) :
    (s.upTaken ofs dly).rdN R.TIME_UP_OFS_LO + 2 ^ 32 * (s.upTaken ofs dly).rdN R.TIME_UP_OFS_HI = ofs ∧
      (s.upTaken ofs dly).rdN R.TIME_UP_DLY = dly ∧ (s.upTaken ofs dly).bit F.TIME_STAT_UP_VALID = true ∧
      (s.upTaken ofs dly).fld F.TIME_UP_CNT_OK_CNT = (s.fld F.TIME_UP_CNT_OK_CNT + 1) % 2 ^ F.TIME_UP_CNT_OK_CNT.w ∧
      Frame s (s.upTaken ofs dly) [whole R.TIME_UP_OFS_LO, whole R.TIME_UP_OFS_HI, whole R.TIME_UP_DLY, F.TIME_STAT_UP_VALID, F.TIME_UP_CNT_OK_CNT] := by
  have hlo : (s.upTaken ofs dly).rdN R.TIME_UP_OFS_LO = ofs % 2 ^ 32 := by
    simp (disch := decide) only [State.rdN, State.upTaken, flag_eq, incWrap_eq, putN_eq, rd_setFld_ne, rd_put_ne, rd_put_self, BitVec.toNat_ofNat]
  have hhi : (s.upTaken ofs dly).rdN R.TIME_UP_OFS_HI = ofs / 2 ^ 32 % 2 ^ 32 := by
    simp (disch := decide) only [State.rdN, State.upTaken, flag_eq, incWrap_eq, putN_eq, rd_setFld_ne, rd_put_ne, rd_put_self, BitVec.toNat_ofNat]
  have hdly : (s.upTaken ofs dly).rdN R.TIME_UP_DLY = dly % 2 ^ 32 := by
    simp (disch := decide) only [State.rdN, State.upTaken, flag_eq, incWrap_eq, putN_eq, rd_setFld_ne, rd_put_self, BitVec.toNat_ofNat]
  refine ⟨by omega, hdly.trans (Nat.mod_eq_of_lt h2), bit_setFld_self _ _ 1 (Fld.fits (by rfl)) rfl, ?_, ?_⟩
  · rw [State.upTaken, flag_eq, fld_setFld_ne _ _ _ _ (by decide), incWrap_eq, fld_setFld_self _ _ _ (Fld.fits (by rfl))]
    simp (disch := decide) only [putN_eq, fld_put_ne]
  · exact ((((Frame.refl s _).putN _ (by simp)).putN _ (by simp)).putN _ (by simp)).incWrap (by simp) (Fld.fits (by rfl)) |>.flag (by simp) (Fld.fits (by rfl))

/-- A response whose exchange no lane swap came into (R298). -/
theorem upResp_clean {s : State} (h : s.time.reqSpoil = false) (kind : Nat) (seq : BitVec 8) (t1 t2 t3 : BitVec 64) :
    s.upResp (timeBytes kind seq t1 t2 t3) =
      ({ s with time := { s.time with reqWait := false, reqOut := s.time.reqOut - 1, upAge := 0 } }).upTaken
        (wrapTo 64 (asr ((t2.toInt - t1.toInt) - ((BitVec.ofNat 64 s.ns).toInt - t3.toInt)) 1))
        (wrapTo 32 (asr (((BitVec.ofNat 64 s.ns).toInt - t1.toInt) - (t3.toInt - t2.toInt)) 1)) := by
  unfold State.upResp
  rw [timeBytes_t1, timeBytes_t2, timeBytes_t3, toSigned_leVal, toSigned_leVal, toSigned_leVal, toSigned_eq_toInt, h]
  rfl

/-- A response whose exchange a lane swap came into is lost (R298). -/
theorem upResp_spoilt {s : State} (h : s.time.reqSpoil = true) (pl : List Byte) :
    s.upResp pl = ({ s with time := { s.time with reqWait := false, reqOut := s.time.reqOut - 1 } }).upLost := by
  unfold State.upResp
  rw [h]
  rfl

/-! ### Frames that arrive (R297) -/

theorem execTimeFrame_down {s : State} {p : Fin 4} (h : s.npUp p = false) (pl : List Byte) (ack : Option (BitVec 12)) :
    exec (.timeFrame p pl ack) s = done s s := by
  change execTimeFrame p pl ack s = _
  unfold execTimeFrame
  simp [h]

theorem NpSends.npUp {s v : State} {p : Nat} (h : NpSends s v p) (hp : p < 4) (q : Nat) : v.npUp q = s.npUp q := by
  rw [State.npUp, h.fld F.TOP_READY_NP (by simp only [F.TOP_READY_NP, R.TOP_READY, R.NP_CREDIT]; omega), State.npUp]

section
variable {s : State} {p : Fin 4} (hup : s.npUp p = true) (pl : List Byte) (ack : Option (BitVec 12))
include hup

theorem execTimeFrame_length (hlen : pl.length ≠ 32) : exec (.timeFrame p pl ack) s = done s (s.npAck p ack) := by
  change execTimeFrame p pl ack s = _
  unfold execTimeFrame
  simp [hup, hlen]

theorem execTimeFrame_request (hlen : pl.length = 32) (hkind : leVal (pl.take 1) = 1) :
    exec (.timeFrame p pl ack) s = done s ((s.npAck p ack).nimCtrl p 0x05
      (leBytes 1 2 ++ leBytes 1 (leVal (slice pl 1 1)) ++ zeros 6 ++ slice pl 8 8 ++ leBytes 8 s.ns ++ leBytes 8 s.ns)) := by
  have hns : (s.npAck p ack).ns = s.ns := by rw [State.ns, (npSends_npAck s p ack).time, State.ns]
  change execTimeFrame p pl ack s = _
  unfold execTimeFrame
  simp [hup, (npSends_npAck s p ack).npUp p.isLt, hlen, hkind, hns]

/-- Is a TIME frame on port `p` the response that is waited for? -/
def State.upAnswers (s : State) (p : Nat) (pl : List Byte) : Bool :=
  leVal (pl.take 1) = 2 && p = s.fld F.TIME_CTL_UP_PORT && s.bit F.TIME_CTL_UP_EN && s.time.reqWait && leVal (slice pl 1 1) = s.time.reqSeq

omit hup in
theorem upAnswers_npAck : (s.npAck p ack).upAnswers p pl = s.upAnswers p pl := by
  have hsend := npSends_npAck s p ack
  have hctl : R.TIME_CTL ≠ R.NP_CREDIT p := by simp only [R.TIME_CTL, R.NP_CREDIT]; omega
  rw [State.upAnswers, hsend.fld F.TIME_CTL_UP_PORT hctl, hsend.bit F.TIME_CTL_UP_EN hctl, hsend.time]
  rfl

theorem execTimeFrame_rest (hlen : pl.length = 32) (hkind : leVal (pl.take 1) ≠ 1) :
    exec (.timeFrame p pl ack) s = done s (if s.upAnswers p pl then (s.npAck p ack).upResp pl else s.npAck p ack) := by
  change execTimeFrame p pl ack s = _
  rw [← upAnswers_npAck pl ack]
  unfold execTimeFrame
  simp only [hup, (npSends_npAck s p ack).npUp p.isLt, hlen, hkind, if_true, if_false, bne_self_eq_false, Bool.not_true, Bool.or_false,
    Bool.false_eq_true]
  change (if (s.npAck p ack).upAnswers p pl then _ else _) = _
  split <;> rfl

end

/-! ### O43 -/

/-- UP_VALID after a period that has made the last response `age` periods old (R298). -/
def State.upAged (s : State) (age : Nat) : State :=
  if 4 < age then ({ s with time := { s.time with upAge := age } }).setFld F.TIME_STAT_UP_VALID 0 else { s with time := { s.time with upAge := age } }

theorem upAged_shows (s : State) (age : Nat) :
    (s.upAged age).bit F.TIME_STAT_UP_VALID = (s.bit F.TIME_STAT_UP_VALID && decide (age ≤ 4)) ∧
      Frame { s with time := { s.time with upAge := age } } (s.upAged age) [F.TIME_STAT_UP_VALID] := by
  unfold State.upAged
  split
  · rename_i h
    rw [decide_eq_false (Nat.not_le.mpr h), Bool.and_false]
    exact ⟨bit_setFld_self _ _ 0 (Fld.fits (by rfl)) rfl, (Frame.refl _ _).setFld 0 (by simp) (Fld.fits (by rfl))⟩
  · rename_i h
    rw [decide_eq_true (Nat.not_lt.mp h), Bool.and_true]
    exact ⟨rfl, Frame.refl _ _⟩

theorem upAged_fld (s : State) (age : Nat) {f : Fld} (h : F.TIME_STAT_UP_VALID.Apart f) : (s.upAged age).fld f = s.fld f := by
  unfold State.upAged
  split
  · exact fld_setFld_apart _ _ (Fld.fits (by rfl)) h
  · rfl

theorem upAged_time (s : State) (age : Nat) : (s.upAged age).time = { s.time with upAge := age } := by
  unfold State.upAged
  split <;> rfl

theorem upAged_np (s : State) (age : Nat) : (s.upAged age).np = s.np := by
  unfold State.upAged
  split <;> rfl

theorem upAged_out (s : State) (age : Nat) : (s.upAged age).out = s.out := by
  unfold State.upAged
  split <;> rfl

/-- A frame that leaves is the same where the port's own state and the states of the lanes are (R125). -/
theorem sentFrame_congr {s t : State} (hnp : t.np = s.np) (hlane : ∀ l, t.fld (F.LANE_STAT_STATE l) = s.fld (F.LANE_STAT_STATE l)) (p : Fin 4)
    (ty flags dst src seq ack : Nat) (pl : List Byte) : sentFrame t p ty flags dst src seq ack pl = sentFrame s p ty flags dst src seq ack pl := by
  have hgone : ∀ l, t.laneGone p l = s.laneGone p l := fun l => by simp only [State.laneGone, State.npS, hnp, hlane]
  simp only [sentFrame, State.txLanes, State.npS, hnp, hgone]

/-- What the Nimeb ports hide, and what was sent, move at both ends of a frame. -/
theorem Frame.withNpOut {s v : State} {fs : List Fld} (h : Frame s v fs) (x : Vector NpS 4) (o : List Out) :
    Frame { s with np := x, out := o } { v with np := x, out := o } fs :=
  h.of_eq rfl rfl rfl rfl rfl rfl (congrArg (fun y : State => { y with np := x, out := o }) h.rest)

/-- Settles O43: a request and its answer are `State.nimCtrl`, a response is `State.upResp`, and whatever else arrives only acknowledges. -/
theorem upstreamTimeExchange : Obligations.UpstreamTimeExchange := by
  unfold Obligations.UpstreamTimeExchange
  refine ⟨?send, ?noSend, ?request, ?response, ?spoilt, ?down, ?other, ?length, ?timeout, ?noTimeout⟩
  case send =>
    intro s hen hup q age
    obtain ⟨hvalid, hframe⟩ := upAged_shows s age
    let x : TimeS := { s.time with reqSeq := q, reqWait := true, reqSpoil := false, reqOut := s.time.reqOut + 1, upAge := age }
    let w : State := { s.upAged age with time := x }
    let p : Fin 4 := ⟨s.fld F.TIME_CTL_UP_PORT, fld_lt s _⟩
    let pl := leBytes 1 1 ++ leBytes 1 q ++ zeros 6 ++ leBytes 8 s.ns ++ zeros 16
    have hx : exec .timeReqSend s = done s (w.nimCtrl p 5 pl) := by
      change execTimeReqSend s = _
      unfold execTimeReqSend
      dsimp only
      rw [if_neg (by simp [hup, hen])]
      refine congrArg (fun y : State => done s (y.nimCtrl p 5 pl)) ?_
      change { s.upAged age with time := { (s.upAged age).time with reqSeq := q, reqWait := true, reqSpoil := false, reqOut := s.time.reqOut + 1 } } = _
      rw [upAged_time]
    have hnp : w.np = s.np := upAged_np s age
    have hout : w.out = s.out := upAged_out s age
    have hlane : ∀ l, w.fld (F.LANE_STAT_STATE l) = s.fld (F.LANE_STAT_STATE l) := fun l => upAged_fld s age (Fld.apart (by rfl))
    have hst : w.npSt p = s.npSt p := upAged_fld s age (Fld.apart (by rfl))
    have hdev : w.devId = s.devId := upAged_fld s age (.inl (by decide))
    obtain ⟨k, hk⟩ := nimCtrl_eq w p 5 pl
    rw [hnp, hout, hst, hdev, sentFrame_congr hnp hlane] at hk
    refine completes_of_done (hx.trans (congrArg (done s) hk)) ⟨hvalid, ?_, fun p' hp' => ?_⟩
    · exact (hframe.withTime x).withNpOut _ _
    · obtain rfl : p' = p := Fin.ext hp'
      exact ⟨rfl, by simp⟩
  case noSend =>
    intro s h age
    have hx : exec .timeReqSend s = done s (s.upAged age) := by
      change execTimeReqSend s = _
      unfold execTimeReqSend
      dsimp only
      rw [if_pos (by rcases h with h | h <;> simp [h])]
      rfl
    exact completes_of_done hx (upAged_shows s age)
  case request =>
    intro p seq t1 t2 t3 ack s hup t
    have hsend : NpSends s t p := npSends_npAck s p ack
    have hx := execTimeFrame_request hup (timeBytes 1 seq t1 t2 t3) ack rfl rfl
    rw [timeBytes_seq, timeBytes_t1] at hx
    obtain ⟨k, hk⟩ := nimCtrl_eq t p 5 (leBytes 1 2 ++ leBytes 1 seq.toNat ++ zeros 6 ++ leBytes 8 t1.toNat ++ leBytes 8 s.ns ++ leBytes 8 s.ns)
    have hdev : t.devId = s.devId := hsend.fld _ (by simp only [F.TOP_DEVID_DEV_ID, R.TOP_DEVID, R.NP_CREDIT]; omega)
    have hseq : t.np[p].rxSeq = s.np[p].rxSeq := by simpa only [npS_fin] using hsend.rxSeq
    rw [hsend.npSt, hdev, hseq] at hk
    refine completes_of_done (hx.trans (congrArg (done s) hk)) ⟨rfl, ?_, rfl⟩
    simp
  case response =>
    intro p seq t1 t2 t3 ack s0 s hup hport hen t4 ofs dly
    have hsend : NpSends s (s.npAck p ack) p := npSends_npAck s p ack
    have hx := execTimeFrame_rest hup (timeBytes 2 seq t1 t2 t3) ack rfl (by rw [timeBytes_kind]; decide)
    have hans : s.upAnswers p (timeBytes 2 seq t1 t2 t3) = true := by
      rw [State.upAnswers, timeBytes_kind, timeBytes_seq, hport, hen]
      simp [s]
    have hns : (s.npAck p ack).ns = s.ns := by rw [State.ns, hsend.time, State.ns]
    rw [if_pos hans, upResp_clean (by rw [hsend.time]), hns, hsend.time] at hx
    obtain ⟨hofs, hdly, hvalid, hcnt, hframe⟩ := upTaken_shows
      { s.npAck p ack with time := { s.time with reqWait := false, reqOut := s.time.reqOut - 1, upAge := 0 } }
      (wrapTo_lt 64 (asr ((t2.toInt - t1.toInt) - (t4.toInt - t3.toInt)) 1)) (wrapTo_lt 32 (asr ((t4.toInt - t1.toInt) - (t3.toInt - t2.toInt)) 1))
    refine completes_of_done hx ⟨?_, ?_, hvalid, ?_, hframe⟩
    · exact (congrArg Int.ofNat hofs).trans (wrapTo_cast 64 _)
    · exact (congrArg Int.ofNat hdly).trans (wrapTo_cast 32 _)
    · refine hcnt.trans ?_
      rw [show s.fld F.TIME_UP_CNT_OK_CNT = (s.npAck p ack).fld F.TIME_UP_CNT_OK_CNT from
        (hsend.fld _ (by simp only [F.TIME_UP_CNT_OK_CNT, R.TIME_UP_CNT, R.NP_CREDIT]; omega)).symm]
      rfl
  case spoilt =>
    intro p seq body s0 s hup hport hen
    have hlen : (leBytes 1 2 ++ leBytes 1 seq.toNat ++ body.toList).length = 32 := by simp [length_leBytes]
    have hkind : leVal ((leBytes 1 2 ++ leBytes 1 seq.toNat ++ body.toList).take 1) = 2 := rfl
    have hseq : leVal (slice (leBytes 1 2 ++ leBytes 1 seq.toNat ++ body.toList) 1 1) = seq.toNat :=
      (leVal_leBytes 1 seq.toNat).trans (Nat.mod_eq_of_lt seq.isLt)
    have hans : s.upAnswers p (leBytes 1 2 ++ leBytes 1 seq.toNat ++ body.toList) = true := by
      rw [State.upAnswers, hkind, hseq, hport, hen]
      simp [s]
    have hx := execTimeFrame_rest hup (leBytes 1 2 ++ leBytes 1 seq.toNat ++ body.toList) none hlen (by rw [hkind]; decide)
    rw [if_pos hans, upResp_spoilt rfl] at hx
    exact completes_of_done hx (upLost_shows _)
  case down =>
    intro p pl ack s h
    exact completes_of_done (execTimeFrame_down h pl ack) rfl
  case other =>
    intro p kind seq body ack s hup hkind h
    have hlen : (kind :: seq :: body.toList).length = 32 := by simp
    have hk : leVal ((kind :: seq :: body.toList).take 1) = kind.toNat := by simp [leVal]
    have hs : leVal (slice (kind :: seq :: body.toList) 1 1) = seq.toNat := by simp [slice, leVal]
    have hans : s.upAnswers p (kind :: seq :: body.toList) = false := by
      rw [State.upAnswers, hk, hs]
      rcases h with h | h | h | h | h
      · simp [h]
      · simp [h]
      · simp [h]
      · simp [Ne.symm h]
      · simp [h]
    have hx := execTimeFrame_rest hup (kind :: seq :: body.toList) ack hlen (by rw [hk]; exact hkind)
    rw [hans] at hx
    exact completes_of_done hx rfl
  case length =>
    intro p pl ack s hup hlen
    exact completes_of_done (execTimeFrame_length hup pl ack hlen) rfl
  case timeout =>
    intro s h
    have hx : exec .timeExchangeTimeout s =
        done s ({ s with time := { s.time with reqOut := s.time.reqOut - 1, reqWait := s.time.reqWait && s.time.reqOut != 1 } }).upLost := by
      change execTimeExchangeTimeout s = _
      unfold execTimeExchangeTimeout
      rw [if_neg h]
    exact completes_of_done hx (upLost_shows _)
  case noTimeout =>
    intro s h
    have hx : exec .timeExchangeTimeout s = done s s := by
      change execTimeExchangeTimeout s = _
      unfold execTimeExchangeTimeout
      rw [if_pos h]
    exact completes_of_done hx rfl

end Sys2Proof.Machine
end
section
/-!
SUPPORT. Commands that write registers and post records: what lies outside those registers and outside what posting changes stays.
-/
namespace Sys2Proof.Machine

/-- From `s` to `v` nothing changes but the registers for which `w` holds and what posting records changes. -/
structure WriteFrame (s v : State) (w : Nat → Bool) : Prop where
  regs : FrameRegs s v (fun off => w off || recordReg off)
  mem  : FrameMem s v s.spillByte
  rest : v.offRecord = s.offRecord

theorem WriteFrame.refl (s : State) (w : Nat → Bool) : WriteFrame s s w := ⟨fun _ _ => rfl, fun _ _ => rfl, rfl⟩

section
variable {s t v : State} {w : Nat → Bool}

theorem WriteFrame.rd (h : WriteFrame s v w) {off : Nat} (hw : w off = false) (hr : recordReg off = false) : v.rd off = s.rd off :=
  h.regs off (Bool.or_eq_false_iff.mpr ⟨hw, hr⟩)

theorem WriteFrame.trans (h : WriteFrame s t w) (k : WriteFrame t v w) (hw : w R.SEG_SPILL_CTL = false) : WriteFrame s v w := by
  have hspill : t.spillByte = s.spillByte := spillByte_of_rd_eq (h.rd hw (by decide))
  refine ⟨fun off ho => (k.regs off ho).trans (h.regs off ho), fun a ha => ?_, k.rest.trans h.rest⟩
  rw [k.mem a (by rw [hspill]; exact ha), h.mem a ha]

theorem WriteFrame.of_record (h : RecordFrame s v) : WriteFrame s v w :=
  ⟨fun off ho => h.regs off (by simp only [Bool.or_eq_false_iff] at ho; exact ho.2), h.mem, h.rest⟩

theorem writeFrame_put (s : State) {off : Nat} (x : Word) (h : w off = true) : WriteFrame s (s.put off x) w := by
  refine ⟨fun o ho => rd_put_ne s x ?_, fun _ _ => rfl, rfl⟩
  rintro rfl
  simp [h] at ho

theorem writeFrame_setFld (s : State) {f : Fld} (x : Nat) (h : w f.off = true) : WriteFrame s (s.setFld f x) w := writeFrame_put s _ h

theorem writeFrame_incCnt (s : State) {f g : Fld} (hf : w f.off = true) (hg : w g.off = true) : WriteFrame s (s.incCnt f g) w := by
  refine ⟨fun o ho => rd_incCnt_ne s f g ?_ ?_, fun a _ => ?_, ?_⟩
  · rintro rfl
    simp [hf] at ho
  · rintro rfl
    simp [hg] at ho
  · rw [incCnt_ddr]
  · obtain ⟨_, h⟩ := incCnt_eq s f g
    rw [h]
    rfl

end

/-- A register of the map's blocks other than HOSTQ, SEG and TIME is none that records change. -/
theorem recordReg_cal {off : Nat} (h1 : 0x02E00000 ≤ off) (h2 : off < 0x02F00000) : recordReg off = false := by
  refine recordReg_of_block (b := .cal) ?_ (by decide)
  simp (disch := omega) only [blockOf, if_neg, if_pos]

theorem WriteFrame.lastStatus {s v : State} {w : Nat → Bool} (h : WriteFrame s v w) : v.lastStatus = s.lastStatus := by
  rw [show v.lastStatus = v.offRecord.lastStatus from rfl, h.rest]
  rfl

theorem WriteFrame.mono {s v : State} {w x : Nat → Bool} (h : WriteFrame s v w) (hx : ∀ off, w off = true → x off = true) : WriteFrame s v x := by
  refine ⟨fun off ho => h.rd ?_ ?_, h.mem, h.rest⟩
  · rw [Bool.or_eq_false_iff] at ho
    exact Bool.eq_false_iff.mpr (fun hw => by rw [hx off hw] at ho; exact absurd ho.1 (by decide))
  · exact (Bool.or_eq_false_iff.mp ho).2

theorem WriteFrame.frameRegs {s v : State} {w x : Nat → Bool} (h : WriteFrame s v w) (hx : ∀ off, w off = true → x off = true) :
    FrameRegs s v (fun off => x off || inBlocks [.hostq, .seg, .time] off) := by
  intro off ho
  rw [Bool.or_eq_false_iff] at ho
  refine h.rd ?_ ?_
  · cases hw : w off with
    | false => rfl
    | true => rw [hx off hw] at ho; exact absurd ho.1 (by decide)
  · cases hr : recordReg off with
    | false => rfl
    | true => rw [inBlocks_of_recordReg hr] at ho; exact absurd ho.2 (by decide)

end Sys2Proof.Machine
end

section
/-!
PROOFS. Temperature samples and calibration runs (R412 to R416).
-/
namespace Sys2Proof.Machine

/-! ### A sensor's reading (R412) -/

theorem wrapTo_eq_toNat (w : Nat) (x : Int) : wrapTo w x = (BitVec.ofInt w x).toNat := (BitVec.toNat_ofInt x).symm

theorem reading_eq (raw : BitVec 16) (o : Int) : wrapTo 16 (toSigned 16 raw.toNat + o) = (raw + BitVec.ofInt 16 o).toNat := by
  rw [wrapTo_eq_toNat, BitVec.ofInt_add, toSigned_eq_toInt, BitVec.ofNat_toNat, BitVec.setWidth_eq, BitVec.ofInt_toInt]

/-- A sensor's reading is taken. -/
def State.tempTaken (s : State) (k : Nat) (t : BitVec 16) : State := (s.setFld (F.CAL_TEMP_TEMP k) t.toNat).flag (F.CAL_TEMP_VALID k)

/-- The HOT bit follows a reading `t` (R412). -/
def State.hotNoted (s : State) (t : BitVec 16) : State :=
  if decide (1680 < t.toInt) && !s.bit F.CAL_STAT_HOT then s.flag F.CAL_STAT_HOT else s

theorem fld_tempTaken (s : State) (k : Nat) (t : BitVec 16) : (s.tempTaken k t).fld (F.CAL_TEMP_TEMP k) = t.toNat := by
  rw [State.tempTaken, flag_eq, fld_setFld_apart _ _ (Fld.fits (by rfl)) (Fld.apart (by rfl)), fld_setFld_self _ _ _ (Fld.fits (by rfl))]
  exact Nat.mod_eq_of_lt t.isLt

theorem valid_tempTaken (s : State) (k : Nat) (t : BitVec 16) : (s.tempTaken k t).bit (F.CAL_TEMP_VALID k) = true := bit_setFld_self _ _ 1 (Fld.fits (by rfl)) rfl

theorem rd_tempTaken (s : State) (k : Nat) (t : BitVec 16) {off : Nat} (h : off ≠ R.CAL_TEMP k) : (s.tempTaken k t).rd off = s.rd off :=
  (rd_setFld_ne _ _ _ h).trans (rd_setFld_ne _ _ _ h)

theorem frame_tempTaken (s : State) (k : Nat) (t : BitVec 16) {fs : List Fld} (h1 : F.CAL_TEMP_TEMP k ∈ fs) (h2 : F.CAL_TEMP_VALID k ∈ fs) :
    Frame s (s.tempTaken k t) fs := ((Frame.refl s fs).setFld _ h1 (Fld.fits (by rfl))).flag h2 (Fld.fits (by rfl))

theorem bit_hotNoted (s : State) (t : BitVec 16) : (s.hotNoted t).bit F.CAL_STAT_HOT = (decide (1680 < t.toInt) || s.bit F.CAL_STAT_HOT) := by
  unfold State.hotNoted
  have hset : (s.flag F.CAL_STAT_HOT).bit F.CAL_STAT_HOT = true := bit_setFld_self s _ 1 (Fld.fits (by rfl)) rfl
  cases decide (1680 < t.toInt) with
  | false => rfl
  | true =>
    cases hb : s.bit F.CAL_STAT_HOT with
    | false => exact hset
    | true => exact hb

theorem rd_hotNoted (s : State) (t : BitVec 16) {off : Nat} (h : off ≠ R.CAL_STAT) : (s.hotNoted t).rd off = s.rd off := by
  unfold State.hotNoted
  split
  · exact rd_setFld_ne _ _ _ h
  · rfl

theorem hotNoted_mild (s : State) {t : BitVec 16} (h : t.toInt ≤ 1680) : s.hotNoted t = s := by
  rw [State.hotNoted, decide_eq_false (Int.not_lt.mpr h)]
  rfl

/-- The reading of a powered sensor asks for a run where its reference is not valid or further off than CAL_CTL.DT (R413). -/
theorem execTempSample_powered {s : State} {k : Fin 20} {raw : BitVec 16} (hhas : s.has .sensor k = true) (hpow : s.diePowered (k / 4) = true)
    (hmild : (raw + BitVec.ofInt 16 (s.sfld (F.CAL_SOFS_VALUE k))).toInt ≤ 1680 ∨ s.bit F.FLT_CTL_HOT_FATAL = false) :
    let t := raw + BitVec.ofInt 16 (s.sfld (F.CAL_SOFS_VALUE k))
    let u := (s.tempTaken k t).hotNoted t
    exec (.tempSample k raw) s = done s (if s.bit (F.CAL_REF_VALID k) = true ∧ (t.toInt - s.sfld (F.CAL_REF_TEMP k)).natAbs ≤ s.fld F.CAL_CTL_DT then u
      else u.calAsk (k / 4) k) := by
  intro t u
  have hread : (s.tempTaken k t).sfld (F.CAL_TEMP_TEMP k) = t.toInt := by
    rw [State.sfld, fld_tempTaken, toSigned_eq_toInt]
    exact congrArg BitVec.toInt (BitVec.ofNat_toNat ..)
  have htaken : (s.setSfld (F.CAL_TEMP_TEMP k) (toSigned 16 raw.toNat + s.sfld (F.CAL_SOFS_VALUE k))).flag (F.CAL_TEMP_VALID k) = s.tempTaken k t := by
    rw [setSfld_eq, show wrapTo (F.CAL_TEMP_TEMP k).w _ = t.toNat from reading_eq raw _]
    rfl
  have hfatal : (s.tempTaken k t).bit F.FLT_CTL_HOT_FATAL = s.bit F.FLT_CTL_HOT_FATAL :=
    bit_of_rd_eq _ (rd_tempTaken s k t (by simp only [F.FLT_CTL_HOT_FATAL, R.FLT_CTL, R.CAL_TEMP]; omega))
  have hquiet : (decide (1680 < t.toInt) && !(s.tempTaken k t).bit F.CAL_STAT_HOT && u.bit F.FLT_CTL_HOT_FATAL) = false := by
    rcases hmild with h | h
    · rw [decide_eq_false (Int.not_lt.mpr h)]
      rfl
    · rw [bit_of_rd_eq F.FLT_CTL_HOT_FATAL (rd_hotNoted (s.tempTaken k t) t (by decide)), hfatal, h, Bool.and_false]
  change execTempSample k raw s = _
  unfold execTempSample
  simp only [hhas, sensorDie, hpow, htaken, hread, Bool.not_true, Bool.false_eq_true, if_false]
  congr 1
  change (if (!s.bit (F.CAL_REF_VALID k) || decide ((t.toInt - s.sfld (F.CAL_REF_TEMP k)).natAbs > s.fld F.CAL_CTL_DT)) = true then
    (if (decide (1680 < t.toInt) && !(s.tempTaken k t).bit F.CAL_STAT_HOT && u.bit F.FLT_CTL_HOT_FATAL) = true then u.fatal 4 else u).calAsk (k / 4) k else
    (if (decide (1680 < t.toInt) && !(s.tempTaken k t).bit F.CAL_STAT_HOT && u.bit F.FLT_CTL_HOT_FATAL) = true then u.fatal 4 else u)) = _
  rw [hquiet]
  by_cases hv : s.bit (F.CAL_REF_VALID k) = true <;> by_cases hd : (t.toInt - s.sfld (F.CAL_REF_TEMP k)).natAbs ≤ s.fld F.CAL_CTL_DT <;>
    simp [hv, hd]

/-! ### A run starts (R413) -/

theorem calAsk_off {s : State} (h : s.bit F.CAL_CTL_EN = false) (hbusy : s.bit F.PWR_STAT_BUSY = false) (d k : Nat) : s.calAsk d k = s := by
  simp [State.calAsk, State.calTrigger, h, hbusy]

theorem calAsk_unpowered {s : State} {d : Nat} (h : s.diePowered d = false) (hbusy : s.bit F.PWR_STAT_BUSY = false) (k : Nat) : s.calAsk d k = s := by
  simp [State.calAsk, State.calTrigger, h, hbusy]

theorem calAsk_first {s : State} {d : Nat} (hen : s.bit F.CAL_CTL_EN = true) (hpow : s.diePowered d = true) (hbusy : s.bit F.PWR_STAT_BUSY = false)
    (hruns : s.cal.runs = []) (k : Nat) : s.calAsk d k = { s with cal := { s.cal with runs := [(d, k)] } }.calBegin := by
  simp [State.calAsk, State.calTrigger, hen, hpow, hbusy, hruns]

/-- The references of die `d` take its present readings. -/
def State.calRefs (s : State) (d : Nat) : State :=
  (List.range 4).foldl (fun s j => s.put (R.CAL_REF (4 * d + j)) (s.rd (R.CAL_TEMP (4 * d + j)))) s

/-- A register of CAL_REF. -/
def isRef (d off : Nat) : Bool := (List.range 4).any (fun j => off == R.CAL_REF (4 * d + j))

theorem calRefs_eq (s : State) (d : Nat) : s.calRefs d =
    ((((s.put (R.CAL_REF (4 * d + 0)) (s.rd (R.CAL_TEMP (4 * d + 0)))).put (R.CAL_REF (4 * d + 1)) (s.rd (R.CAL_TEMP (4 * d + 1)))).put
      (R.CAL_REF (4 * d + 2)) (s.rd (R.CAL_TEMP (4 * d + 2)))).put (R.CAL_REF (4 * d + 3)) (s.rd (R.CAL_TEMP (4 * d + 3)))) := by
  have hne : ∀ i j, i < 4 → R.CAL_TEMP (4 * d + i) ≠ R.CAL_REF (4 * d + j) := fun i j hi => by simp only [R.CAL_TEMP, R.CAL_REF]; omega
  simp only [State.calRefs, List.range, List.range.loop, List.foldl_cons, List.foldl_nil]
  simp (disch := omega) only [rd_put_ne _ _ (hne _ _ _)]

theorem rd_calRefs_self (s : State) (d : Nat) (j : Fin 4) : (s.calRefs d).rd (R.CAL_REF (4 * d + j)) = s.rd (R.CAL_TEMP (4 * d + j)) := by
  have hinj : ∀ a b : Nat, R.CAL_REF (4 * d + a) = R.CAL_REF (4 * d + b) ↔ a = b := fun a b => by simp only [R.CAL_REF]; omega
  rw [calRefs_eq s d]
  simp only [rd_put, hinj]
  fin_cases j <;> rfl

theorem rd_calRefs_ne (s : State) (d : Nat) {off : Nat} (h : isRef d off = false) : (s.calRefs d).rd off = s.rd off := by
  have hfold : ∀ (l : List Nat) (s : State), l.any (fun j => off == R.CAL_REF (4 * d + j)) = false →
      (l.foldl (fun s j => s.put (R.CAL_REF (4 * d + j)) (s.rd (R.CAL_TEMP (4 * d + j)))) s).rd off = s.rd off := by
    intro l
    induction l with
    | nil => exact fun s _ => rfl
    | cons j l ih =>
      intro s hl
      rw [List.any_cons, Bool.or_eq_false_iff, beq_eq_false_iff_ne] at hl
      exact (ih _ hl.2).trans (rd_put_ne s _ hl.1)
  exact hfold _ s h

/-- A run of die `d` begins with its references (R413). -/
theorem calBegin_die {s : State} {d k : Nat} {rest : List (Nat × Nat)} (hruns : s.cal.runs = (d, k) :: rest) (hd : d ≠ 4) : s.calBegin =
    (({ s with cal := { s.cal with trig := if k = 255 then 0 else s.fld (F.CAL_TEMP_TEMP k) } }).setFld F.CAL_STAT_RUNNING (2 ^ d)).calRefs d := by
  unfold State.calBegin
  rw [hruns]
  exact if_neg hd

/-- Channel `c` notes a run of XD as its thermal trigger where it serves (R332). -/
def State.thermNoted (s : State) (c : Nat) : State :=
  if s.fld (F.DMC_CH_STAT_STATE c) = 2 ∨ s.fld (F.DMC_CH_STAT_STATE c) = 3 then s.flag (F.DMC_CH_STAT_THERM c) else s

/-- A run of XD begins with its references, its trigger and its record (R332, R416). -/
theorem calBegin_xd {s : State} {k : Nat} {rest : List (Nat × Nat)} (hruns : s.cal.runs = (4, k) :: rest) :
    let u := (List.range 8).foldl State.thermNoted
      ((({ s with cal := { s.cal with trig := if k = 255 then 0 else s.fld (F.CAL_TEMP_TEMP k) } }).setFld F.CAL_STAT_RUNNING 16).calRefs 4)
    s.calBegin = u.calRec 0x410 0 0 u.calTrig := by
  unfold State.calBegin
  rw [hruns]
  rfl

theorem chStat_inj {c e : Nat} (h : R.DMC_CH_STAT c = R.DMC_CH_STAT e) : c = e := by
  simp only [R.DMC_CH_STAT] at h
  omega

theorem state_thermNoted (s : State) (c e : Nat) : (s.thermNoted c).fld (F.DMC_CH_STAT_STATE e) = s.fld (F.DMC_CH_STAT_STATE e) := by
  unfold State.thermNoted
  split
  · exact fld_setFld_apart _ _ (Fld.fits (by rfl)) (Fld.apart (by rfl))
  · rfl

theorem therm_thermNoted (s : State) (c e : Nat) (h : s.bit (F.DMC_CH_STAT_THERM e) = true ∨ c = e ∧ s.fld (F.DMC_CH_STAT_STATE c) = 2) :
    (s.thermNoted c).bit (F.DMC_CH_STAT_THERM e) = true := by
  unfold State.thermNoted
  by_cases hce : c = e
  · subst hce
    split
    · exact bit_setFld_self _ _ 1 (Fld.fits (by rfl)) rfl
    · rename_i hst
      exact h.resolve_right (fun hc => hst (.inl hc.2))
  · have hkeep : s.bit (F.DMC_CH_STAT_THERM e) = true := h.resolve_right (fun hc => hce hc.1)
    split
    · exact (bit_setFld_apart _ _ (Fld.fits (by rfl)) (.inl (fun ho => hce (chStat_inj ho)))).trans hkeep
    · exact hkeep

theorem foldl_thermNoted (l : List Nat) (s : State) (e : Nat) (h : s.bit (F.DMC_CH_STAT_THERM e) = true ∨ e ∈ l ∧ s.fld (F.DMC_CH_STAT_STATE e) = 2) :
    (l.foldl State.thermNoted s).bit (F.DMC_CH_STAT_THERM e) = true := by
  induction l generalizing s with
  | nil => exact h.resolve_right (by simp)
  | cons c l ih =>
    refine ih (s.thermNoted c) ?_
    rcases h with h | ⟨hm, hst⟩
    · exact .inl (therm_thermNoted s c e (.inl h))
    · rcases List.mem_cons.mp hm with rfl | hm
      · exact .inl (therm_thermNoted s _ _ (.inr ⟨rfl, hst⟩))
      · exact .inr ⟨hm, (state_thermNoted s c e).trans hst⟩

/-- A register of DMC_CHc_STAT. -/
def isChStat (off : Nat) : Bool := (List.range 8).any (fun c => off == R.DMC_CH_STAT c)

theorem foldl_thermNoted_frame (l : List Nat) (h : ∀ c ∈ l, c < 8) (s : State) : WriteFrame s (l.foldl State.thermNoted s) isChStat := by
  induction l generalizing s with
  | nil => exact WriteFrame.refl s _
  | cons c l ih =>
    refine WriteFrame.trans ?_ (ih (fun x hx => h x (by simp [hx])) _) (by decide)
    unfold State.thermNoted
    split
    · have hc : (List.range 8).any (fun x => R.DMC_CH_STAT c == R.DMC_CH_STAT x) = true :=
        List.any_eq_true.mpr ⟨c, List.mem_range.mpr (h c (by simp)), beq_self_eq_true _⟩
      exact writeFrame_setFld s 1 hc
    · exact WriteFrame.refl s _

theorem calRefs_frame {w : Nat → Bool} (s : State) (d : Nat) (h : ∀ j < 4, w (R.CAL_REF (4 * d + j)) = true) (hw : w R.SEG_SPILL_CTL = false) :
    WriteFrame s (s.calRefs d) w := by
  rw [calRefs_eq]
  exact (((writeFrame_put s _ (h 0 (by decide))).trans (writeFrame_put _ _ (h 1 (by decide))) hw).trans (writeFrame_put _ _ (h 2 (by decide))) hw).trans
    (writeFrame_put _ _ (h 3 (by decide))) hw

theorem recordFrame_calRec (s : State) (w4 cur prop w7 : Nat) : RecordFrame s (s.calRec w4 cur prop w7) := recordFrame_record s 5 (by simp [State.sysRec])

theorem cal_of_offRecord {s v : State} (h : v.offRecord = s.offRecord) : v.cal = s.cal := by
  rw [show v.cal = v.offRecord.cal from rfl, h]
  rfl

/-- RUN_NOW with only XD powered and no run under way (R413). -/
theorem runNow_xd {s : State} (hen : s.bit F.CAL_CTL_EN = true) (hbusy : s.bit F.PWR_STAT_BUSY = false) (hpow : s.pwr.powered = [])
    (hruns : s.cal.runs = []) : s.runNow = { s with cal := { s.cal with runs := [(4, 255)] } }.calBegin := by
  have hdie : ∀ d, d ≠ 4 → (if s.has .die d || d == 4 then s.calAsk d 255 else s) = s := by
    intro d hd
    rw [calAsk_unpowered (by simp [State.diePowered, hd, hpow]) hbusy, ite_self]
  simp only [State.runNow, List.range, List.range.loop, List.foldl_cons, List.foldl_nil]
  rw [hdie 0 (by decide), hdie 1 (by decide), hdie 2 (by decide), hdie 3 (by decide), if_pos (by simp)]
  exact calAsk_first hen rfl hbusy hruns 255

theorem runNow_off {s : State} (h : s.bit F.CAL_CTL_EN = false) (hbusy : s.bit F.PWR_STAT_BUSY = false) : s.runNow = s := by
  have hdie : ∀ d, (if s.has .die d || d == 4 then s.calAsk d 255 else s) = s := fun d => by rw [calAsk_off h hbusy, ite_self]
  simp only [State.runNow, List.range, List.range.loop, List.foldl_cons, List.foldl_nil, hdie]

/-! ### A run ends (R414 to R417) -/

/-- The runs that wait are `l`. -/
def State.withRuns (s : State) (l : List (Nat × Nat)) : State := { s with cal := { s.cal with runs := l } }

/-- What a run leaves after its items: the DONE record, its count, and the runs that wait (R416). -/
def State.calEnded (s : State) (c applied rejected w7 : Nat) (st : BitVec 8) : State :=
  ({ s.calRec (0x11 + 256 * c) applied rejected w7 with lastStatus := st }.incWrap F.CAL_CNT_RUN_CNT).setFld F.CAL_STAT_RUNNING 0

theorem execCalRunDone_last {d : Fin 5} {s : State} {k : Nat} (hruns : s.cal.runs = [(d.val, k)]) (trim : BitVec 8) (ofs : Vector (BitVec 8) 4)
    (won : List (Fin 4 × Fin 114)) :
    let r := (s.calItems d trim.toNat (ofs.toList.map (·.toNat))).foldl
      (fun a i => State.calItem a d (won.any (fun w => w.1.val == i.kind && w.2.val == i.inst)) i) (0, 0, s)
    exec (.calRunDone d trim ofs won) s = done s ((r.2.2.calEnded d r.1 r.2.1 s.calTrig s.lastStatus).withRuns []) := by
  intro r
  change execCalRunDone d trim ofs won s = _
  unfold execCalRunDone
  rw [hruns]
  simp only [ne_eq, not_true_eq_false, if_false]
  have hwait : ∀ u : State, u.calWaiting [] = [] := fun u => by simp [State.calWaiting]
  rw [hwait]
  rfl

theorem WriteFrame.cal {s v : State} {w : Nat → Bool} (h : WriteFrame s v w) {off : Nat} (hw : w off = false) (h1 : 0x02E00000 ≤ off)
    (h2 : off < 0x02F00000) : v.rd off = s.rd off := h.rd hw (recordReg_cal h1 h2)

theorem calRec_rd (s : State) (w4 cur prop w7 : Nat) {off : Nat} (h1 : 0x02E00000 ≤ off) (h2 : off < 0x02F00000) :
    (s.calRec w4 cur prop w7).rd off = s.rd off := (recordFrame_calRec s w4 cur prop w7).regs off (recordReg_cal h1 h2)

section
variable (s : State) (c applied rejected w7 : Nat) (st : BitVec 8)

theorem calEnded_running : (s.calEnded c applied rejected w7 st).fld F.CAL_STAT_RUNNING = 0 := fld_setFld_self _ _ 0 (Fld.fits (by rfl))

theorem calEnded_count : (s.calEnded c applied rejected w7 st).fld F.CAL_CNT_RUN_CNT = (s.fld F.CAL_CNT_RUN_CNT + 1) % 2 ^ F.CAL_CNT_RUN_CNT.w := by
  rw [State.calEnded, fld_setFld_ne _ _ _ _ (by decide), incWrap_eq, fld_setFld_self _ _ _ (Fld.fits (by rfl))]
  exact congrArg (fun x => (x + 1) % 2 ^ F.CAL_CNT_RUN_CNT.w) (fld_of_rd_eq F.CAL_CNT_RUN_CNT (calRec_rd s _ _ _ _ (by decide) (by decide)))

/-- A field of CAL beside the count and RUNNING. -/
theorem calEnded_fld {f : Fld} (h1 : 0x02E00000 ≤ f.off) (h2 : f.off < 0x02F00000) (hc : F.CAL_CNT_RUN_CNT.Apart f) (hr : F.CAL_STAT_RUNNING.Apart f) :
    (s.calEnded c applied rejected w7 st).fld f = s.fld f := by
  rw [State.calEnded, fld_setFld_apart _ _ (Fld.fits (by rfl)) hr, incWrap_eq, fld_setFld_apart _ _ (Fld.fits (by rfl)) hc]
  exact fld_of_rd_eq f (calRec_rd s _ _ _ _ h1 h2)

theorem calEnded_frame {w : Nat → Bool} (hst : st = s.lastStatus) (h1 : w R.CAL_STAT = true) (h2 : w R.CAL_CNT = true) (hw : w R.SEG_SPILL_CTL = false) :
    WriteFrame s (s.calEnded c applied rejected w7 st) w := by
  have hrec := recordFrame_calRec s (0x11 + 256 * c) applied rejected w7
  have hst' : { s.calRec (0x11 + 256 * c) applied rejected w7 with lastStatus := st } = s.calRec (0x11 + 256 * c) applied rejected w7 := by
    rw [hst, show s.lastStatus = (s.calRec (0x11 + 256 * c) applied rejected w7).lastStatus from
      (congrArg State.lastStatus hrec.rest).symm]
  rw [State.calEnded, hst']
  exact ((WriteFrame.of_record hrec).trans (writeFrame_setFld _ _ h2) hw).trans (writeFrame_setFld _ _ h1) hw

end

/-- The trim that a run of die `d` proposes (R414). -/
def State.trimItem (s : State) (d : Nat) (trim : BitVec 8) : CalItem :=
  { kind := 2, inst := d, cur := s.fld (F.CAL_TRIM_VALUE d), prop := trim.toNat, pairs := [(s.sfld (F.CAL_TRIM_VALUE d), trim.toInt)] }

theorem calItems_none {s : State} (h : s.fld F.CAL_CTL_ITEM_EN = 0) (d trim : Nat) (ofs : List Nat) : s.calItems d trim ofs = [] := by
  simp [State.calItems, h, bitN]

theorem calItems_trim {s : State} (h : s.fld F.CAL_CTL_ITEM_EN = 4) (d : Nat) (trim : BitVec 8) (ofs : List Nat) :
    s.calItems d trim.toNat ofs = [s.trimItem d trim] := by
  have ht : toSigned 8 trim.toNat = trim.toInt := by
    rw [toSigned_eq_toInt, BitVec.ofNat_toNat, BitVec.setWidth_eq]
  simp [State.calItems, h, bitN, ht, State.trimItem]

/-- Is the trim within its bounds and its step (R415)? -/
def State.trimOk (s : State) (d : Nat) (trim : BitVec 8) : Bool :=
  decide (s.sfld (F.CAL_BND_LO 2) ≤ trim.toInt ∧ trim.toInt ≤ s.sfld (F.CAL_BND_HI 2) ∧
    (trim.toInt - s.sfld (F.CAL_TRIM_VALUE d)).natAbs ≤ s.fld (F.CAL_STEP_STEP 2))

theorem calTest_trim (s : State) (d : Nat) (trim : BitVec 8) :
    ((s.calTest (s.trimItem d trim)).1 && (s.calTest (s.trimItem d trim)).2) = s.trimOk d trim := by
  simp only [State.calTest, State.trimItem, State.trimOk, List.all_cons, List.all_nil, Bool.and_true, Bool.decide_and, Bool.and_assoc]
  rfl

/-- A rejected item is flagged, counted and recorded (R415, R416). -/
def State.trimRejected (s : State) (w4 cur prop w7 : Nat) : State :=
  ((s.flag F.CAL_STAT_CAL_REJECT).incCnt F.CAL_CNT_REJ_CNT F.CAL_CNT_SAT).calRec w4 cur prop w7

theorem calItem_applied {s : State} {d : Nat} {trim : BitVec 8} (h : s.trimOk d trim = true) :
    State.calItem (0, 0, s) d false (s.trimItem d trim) = (1, 0, s.setFld (F.CAL_TRIM_VALUE d) trim.toNat) := by
  rw [State.calItem, calTest_trim, if_pos h]
  rfl

theorem calItem_won {s : State} {d : Nat} {trim : BitVec 8} (h : s.trimOk d trim = true) :
    State.calItem (0, 0, s) d true (s.trimItem d trim) = (0, 0, s) := by
  rw [State.calItem, calTest_trim, if_pos h]
  rfl

theorem calItem_rejected {s : State} {d : Nat} {trim : BitVec 8} (h : s.trimOk d trim = false) :
    ∃ w4 w7, State.calItem (0, 0, s) d false (s.trimItem d trim) = (0, 1, s.trimRejected w4 (s.fld (F.CAL_TRIM_VALUE d)) trim.toNat w7) := by
  rw [State.calItem, calTest_trim, if_neg (by simp [h])]
  exact ⟨_, _, rfl⟩

/-- CAL's registers as a run with the trim alone leaves them. -/
def calTrimReg (d off : Nat) : Bool := off == R.CAL_TRIM d || off == R.CAL_STAT || off == R.CAL_CNT

theorem calTrimReg_spill (d : Nat) : calTrimReg d R.SEG_SPILL_CTL = false := by
  have h : R.SEG_SPILL_CTL ≠ R.CAL_TRIM d := by simp only [R.SEG_SPILL_CTL, R.CAL_TRIM]; omega
  simp [calTrimReg, h]
  decide

theorem trimRejected_frame (s : State) (w4 cur prop w7 : Nat) :
    WriteFrame s (s.trimRejected w4 cur prop w7) (fun off => off == R.CAL_STAT || off == R.CAL_CNT) :=
  ((writeFrame_setFld s 1 (by simp [F.CAL_STAT_CAL_REJECT])).trans (writeFrame_incCnt _ (by simp [F.CAL_CNT_REJ_CNT]) (by simp [F.CAL_CNT_SAT]))
    (by decide)).trans (WriteFrame.of_record (recordFrame_calRec _ _ _ _ _)) (by decide)

theorem trimRejected_shows (s : State) (w4 cur prop w7 : Nat) :
    (s.trimRejected w4 cur prop w7).bit F.CAL_STAT_CAL_REJECT = true ∧
      (s.trimRejected w4 cur prop w7).fld F.CAL_CNT_REJ_CNT = min (s.fld F.CAL_CNT_REJ_CNT + 1) (2 ^ F.CAL_CNT_REJ_CNT.w - 1) := by
  refine ⟨?_, ?_⟩
  · rw [State.trimRejected, bit_of_rd_eq _ (calRec_rd _ _ _ _ _ (by decide) (by decide)), State.bit,
      fld_incCnt_apart _ (Fld.fits (by rfl)) (Fld.fits (by rfl)) (.inl (by decide)) (.inl (by decide)), ← State.bit]
    exact bit_setFld_self s _ 1 (Fld.fits (by rfl)) rfl
  · rw [State.trimRejected, fld_of_rd_eq _ (calRec_rd _ _ _ _ _ (by decide) (by decide)), fld_incCnt_self _ _ _ (Fld.fits (by rfl)) (Fld.fits (by rfl)) (Fld.apart (by rfl)), flag_eq,
      fld_setFld_ne _ _ _ _ (by decide)]

/-- A run of a die that sensor `k` has asked for begins with its reading `t` as the trigger. -/
def State.calStarted (s : State) (k : Nat) (t : BitVec 16) : State :=
  (({ s with cal := { s.cal with runs := [(k / 4, k)], trig := t.toNat } }).setFld F.CAL_STAT_RUNNING (2 ^ (k / 4))).calRefs (k / 4)

theorem calAsk_starts {s : State} {k : Nat} {t : BitVec 16} (hk : k < 16) (hen : s.bit F.CAL_CTL_EN = true) (hpow : s.diePowered (k / 4) = true)
    (hbusy : s.bit F.PWR_STAT_BUSY = false) (hruns : s.cal.runs = []) (ht : s.fld (F.CAL_TEMP_TEMP k) = t.toNat) :
    s.calAsk (k / 4) k = s.calStarted k t := by
  rw [State.calStarted, ← ht, calAsk_first hen hpow hbusy hruns, calBegin_die (d := k / 4) (k := k) (rest := []) rfl (by omega), if_neg (by omega)]
  rfl

theorem cal_tempTaken (s : State) (k : Nat) (t : BitVec 16) : (s.tempTaken k t).cal = s.cal := rfl

theorem pwr_tempTaken (s : State) (k : Nat) (t : BitVec 16) : (s.tempTaken k t).pwr = s.pwr := rfl

/-- A reading too far off its reference starts a run where none is under way (R413). -/
theorem execTempSample_starts {s : State} {k : Fin 20} {raw : BitVec 16} (hk : k.val < 16) (hhas : s.has .sensor k = true)
    (hpow : s.diePowered (k / 4) = true) (hmild : (raw + BitVec.ofInt 16 (s.sfld (F.CAL_SOFS_VALUE k))).toInt ≤ 1680) (hen : s.bit F.CAL_CTL_EN = true)
    (hbusy : s.bit F.PWR_STAT_BUSY = false) (hruns : s.cal.runs = []) :
    let t := raw + BitVec.ofInt 16 (s.sfld (F.CAL_SOFS_VALUE k))
    (s.bit (F.CAL_REF_VALID k) = false ∨ s.fld F.CAL_CTL_DT < (t.toInt - s.sfld (F.CAL_REF_TEMP k)).natAbs) →
    exec (.tempSample k raw) s = done s ((s.tempTaken k t).calStarted k t) := by
  intro t hfar
  have hkeep : ∀ f : Fld, f.off ≠ R.CAL_TEMP k → (s.tempTaken k t).bit f = s.bit f := fun f h => bit_of_rd_eq f (rd_tempTaken s k t h)
  have hfar' : ¬ (s.bit (F.CAL_REF_VALID k) = true ∧ (t.toInt - s.sfld (F.CAL_REF_TEMP k)).natAbs ≤ s.fld F.CAL_CTL_DT) := by
    rintro ⟨h1, h2⟩
    rcases hfar with h | h
    · rw [h] at h1
      exact absurd h1 (by decide)
    · exact absurd h (Nat.not_lt.mpr h2)
  have hask : (s.tempTaken k t).calAsk (k / 4) k = (s.tempTaken k t).calStarted k t := by
    refine calAsk_starts hk ?_ hpow ?_ hruns (fld_tempTaken s k t)
    · exact (hkeep F.CAL_CTL_EN (by simp only [F.CAL_CTL_EN, R.CAL_CTL, R.CAL_TEMP]; omega)).trans hen
    · exact (hkeep F.PWR_STAT_BUSY (by simp only [F.PWR_STAT_BUSY, R.PWR_STAT, R.CAL_TEMP]; omega)).trans hbusy
  rw [execTempSample_powered hhas hpow (.inl hmild), if_neg hfar', hotNoted_mild _ hmild]
  exact congrArg (done s) hask

/-- What CAL hides moves at both ends of a frame. -/
theorem Frame.withCal {s v : State} {fs : List Fld} (h : Frame s v fs) (x : CalS) : Frame { s with cal := x } { v with cal := x } fs :=
  h.of_eq rfl rfl rfl rfl rfl rfl (congrArg (fun y : State => { y with cal := x }) h.rest)

theorem isRef_temp (d : Nat) {j : Nat} (h : j < 32) : isRef d (R.CAL_TEMP j) = false := by
  simp only [isRef, List.any_eq_false, beq_iff_eq, R.CAL_TEMP, R.CAL_REF]
  intro x _
  omega

theorem calStarted_shows (s : State) {k : Nat} (hk : k < 16) (t : BitVec 16) :
    (s.calStarted k t).rd (R.CAL_TEMP k) = s.rd (R.CAL_TEMP k) ∧ (s.calStarted k t).fld F.CAL_STAT_RUNNING = 2 ^ (k / 4) ∧
      (∀ j : Fin 4, (s.calStarted k t).rd (R.CAL_REF (4 * (k / 4) + j)) = (s.calStarted k t).rd (R.CAL_TEMP (4 * (k / 4) + j))) := by
  have hstat : ∀ j, R.CAL_TEMP j ≠ R.CAL_STAT := fun j => by simp only [R.CAL_TEMP, R.CAL_STAT]; omega
  have hrun : isRef (k / 4) R.CAL_STAT = false := by
    simp only [isRef, List.any_eq_false, beq_iff_eq, R.CAL_STAT, R.CAL_REF]
    intro x _
    omega
  have hpow : 2 ^ (k / 4) < 2 ^ 5 := Nat.pow_lt_pow_right (by decide) (by omega)
  refine ⟨?_, ?_, fun j => ?_⟩
  · rw [State.calStarted, rd_calRefs_ne _ _ (isRef_temp _ (by omega)), rd_setFld_ne _ _ _ (hstat k)]
    rfl
  · rw [State.calStarted, fld_of_rd_eq _ (rd_calRefs_ne _ _ hrun), fld_setFld_self _ _ _ (Fld.fits (by rfl))]
    exact Nat.mod_eq_of_lt hpow
  · rw [State.calStarted, rd_calRefs_self, rd_calRefs_ne _ _ (isRef_temp _ (by omega))]

theorem frame_calStarted (s : State) (k : Nat) (t : BitVec 16) :
    Frame { s with cal := { s.cal with runs := [(k / 4, k)], trig := t.toNat } } (s.calStarted k t)
      (F.CAL_STAT_RUNNING :: (List.range 4).map (fun j => whole (R.CAL_REF (4 * (k / 4) + j)))) := by
  have href : ∀ j, j < 4 → whole (R.CAL_REF (4 * (k / 4) + j)) ∈
      F.CAL_STAT_RUNNING :: (List.range 4).map (fun j => whole (R.CAL_REF (4 * (k / 4) + j))) :=
    fun j hj => List.mem_cons_of_mem _ (List.mem_map.mpr ⟨j, List.mem_range.mpr hj, rfl⟩)
  rw [State.calStarted, calRefs_eq]
  exact (((((Frame.refl _ _).setFld _ (by simp) (Fld.fits (by rfl))).putWord _ (href 0 (by decide))).putWord _ (href 1 (by decide))).putWord _ (href 2 (by decide))).putWord _
    (href 3 (by decide))

/-- XD's run has begun, but for its record. -/
def State.xdStarted (s : State) : State :=
  (List.range 8).foldl State.thermNoted ((({ s with cal := { s.cal with runs := [(4, 255)], trig := 0 } }).setFld F.CAL_STAT_RUNNING 16).calRefs 4)

theorem execRunNow_xd {s : State} (hen : s.bit F.CAL_CTL_EN = true) (hbusy : s.bit F.PWR_STAT_BUSY = false) (hpow : s.pwr.powered = [])
    (hruns : s.cal.runs = []) : exec .runNow s = done s ((s.xdStarted.calRec 0x410 0 0 s.xdStarted.calTrig).status 0) := by
  refine congrArg (fun v : State => done s (v.status 0)) ?_
  rw [runNow_xd hen hbusy hpow hruns, calBegin_xd (k := 255) (rest := []) rfl]
  rfl

/-- The registers that a run of XD writes as it starts. -/
def calXdReg (off : Nat) : Bool := off == R.CAL_STAT || isRef 4 off || isChStat off

theorem xdBase_frame (s : State) : WriteFrame s ((s.setFld F.CAL_STAT_RUNNING 16).calRefs 4) (fun off => off == R.CAL_STAT || isRef 4 off) := by
  refine (writeFrame_setFld s 16 (by simp [F.CAL_STAT_RUNNING])).trans (calRefs_frame _ 4 (fun j hj => ?_) (by decide)) (by decide)
  have h : isRef 4 (R.CAL_REF (4 * 4 + j)) = true := List.any_eq_true.mpr ⟨j, List.mem_range.mpr hj, beq_self_eq_true _⟩
  rw [h, Bool.or_true]

theorem foldl_thermNoted_range (s : State) : WriteFrame s ((List.range 8).foldl State.thermNoted s) isChStat :=
  foldl_thermNoted_frame _ (fun _ h => List.mem_range.mp h) s

theorem xdStarted_frame (s : State) : WriteFrame { s with cal := { s.cal with runs := [(4, 255)], trig := 0 } } s.xdStarted calXdReg :=
  ((xdBase_frame _).mono (fun off h => by rw [calXdReg, h]; rfl)).trans
    ((foldl_thermNoted_range _).mono (fun off h => by rw [calXdReg, h, Bool.or_true])) (by decide)

theorem recordReg_chStat {c : Nat} (hc : c < 8) : recordReg (R.DMC_CH_STAT c) = false := recordReg_of_block (blockOf_dmcStat hc) (by decide)

theorem isChStat_cal {off : Nat} (h : 0x02E00000 ≤ off) : isChStat off = false := by
  simp only [isChStat, List.any_eq_false, beq_iff_eq, R.DMC_CH_STAT, List.mem_range]
  intro x _
  omega

theorem xdStarted_shows (s : State) :
    s.xdStarted.fld F.CAL_STAT_RUNNING = 16 ∧ (∀ j : Fin 4, s.xdStarted.rd (R.CAL_REF (16 + j)) = s.rd (R.CAL_TEMP (16 + j))) ∧
      (∀ c : Fin 8, s.fld (F.DMC_CH_STAT_STATE c) = 2 → s.xdStarted.bit (F.DMC_CH_STAT_THERM c) = true) := by
  let u : State := { s with cal := { s.cal with runs := [(4, 255)], trig := 0 } }
  have hcal : ∀ off, 0x02E00000 ≤ off → off < 0x02F00000 → s.xdStarted.rd off = ((u.setFld F.CAL_STAT_RUNNING 16).calRefs 4).rd off :=
    fun off h1 h2 => (foldl_thermNoted_range _).rd (isChStat_cal h1) (recordReg_cal h1 h2)
  refine ⟨?_, fun j => ?_, fun c hc => ?_⟩
  · rw [fld_of_rd_eq F.CAL_STAT_RUNNING ((hcal _ (by decide) (by decide)).trans (rd_calRefs_ne _ 4 (by decide))), fld_setFld_self _ _ _ (Fld.fits (by rfl))]
    rfl
  · rw [hcal _ (by simp only [R.CAL_REF]; omega) (by simp only [R.CAL_REF]; omega), show 16 + j.val = 4 * 4 + j.val from rfl, rd_calRefs_self,
      rd_setFld_ne _ _ _ (by simp only [R.CAL_TEMP, F.CAL_STAT_RUNNING, R.CAL_STAT]; omega)]
    rfl
  · refine foldl_thermNoted _ _ c (.inr ⟨List.mem_range.mpr c.isLt, ?_⟩)
    refine (fld_of_rd_eq _ ((xdBase_frame u).rd ?_ (recordReg_chStat c.isLt))).trans hc
    have h1 : R.DMC_CH_STAT c ≠ R.CAL_STAT := by simp only [R.DMC_CH_STAT, R.CAL_STAT]; omega
    have h2 : isRef 4 (R.DMC_CH_STAT c) = false := by
      simp only [isRef, List.any_eq_false, beq_iff_eq, R.DMC_CH_STAT, R.CAL_REF]
      intro x _
      omega
    simp only [F.DMC_CH_STAT_STATE, h2, Bool.or_false, beq_eq_false_iff_ne]
    exact h1

/-! ### O55 -/

section
variable (s : State) (d : Fin 5) (applied rejected w7 : Nat) (st : BitVec 8)

theorem trim_calEnded : (s.calEnded d applied rejected w7 st).fld (F.CAL_TRIM_VALUE d) = s.fld (F.CAL_TRIM_VALUE d) := by
  refine calEnded_fld s d applied rejected w7 st ?_ ?_ (.inl ?_) (.inl ?_)
  · simp only [F.CAL_TRIM_VALUE, R.CAL_TRIM]; omega
  · simp only [F.CAL_TRIM_VALUE, R.CAL_TRIM]; omega
  · simp only [F.CAL_TRIM_VALUE, R.CAL_TRIM, F.CAL_CNT_RUN_CNT, R.CAL_CNT]; omega
  · simp only [F.CAL_TRIM_VALUE, R.CAL_TRIM, F.CAL_STAT_RUNNING, R.CAL_STAT]; omega

theorem reject_calEnded : (s.calEnded d applied rejected w7 st).bit F.CAL_STAT_CAL_REJECT = s.bit F.CAL_STAT_CAL_REJECT := by
  rw [State.bit, calEnded_fld s d applied rejected w7 st (by decide) (by decide) (.inl (by decide)) (Fld.apart (by rfl)), State.bit]

theorem rejCnt_calEnded : (s.calEnded d applied rejected w7 st).fld F.CAL_CNT_REJ_CNT = s.fld F.CAL_CNT_REJ_CNT :=
  calEnded_fld s d applied rejected w7 st (by decide) (by decide) (Fld.apart (by rfl)) (.inl (by decide))

end

theorem trimApplied_ends (s : State) (d : Fin 5) (trim : BitVec 8) :
    let v := ((s.setFld (F.CAL_TRIM_VALUE d) trim.toNat).calEnded d 1 0 s.calTrig s.lastStatus).withRuns []
    v.fld (F.CAL_TRIM_VALUE d) = trim.toNat ∧ v.bit F.CAL_STAT_CAL_REJECT = s.bit F.CAL_STAT_CAL_REJECT ∧
      v.fld F.CAL_CNT_REJ_CNT = s.fld F.CAL_CNT_REJ_CNT ∧ v.fld F.CAL_STAT_RUNNING = 0 ∧ FrameMem s v s.spillByte ∧
      FrameRegs s v (fun off => calTrimReg d off || inBlocks [.hostq, .seg, .time] off) := by
  intro v
  have hstat : R.CAL_TRIM d ≠ R.CAL_STAT := by simp only [R.CAL_TRIM, R.CAL_STAT]; omega
  have hcnt : R.CAL_TRIM d ≠ R.CAL_CNT := by simp only [R.CAL_TRIM, R.CAL_CNT]; omega
  have hset : WriteFrame s (s.setFld (F.CAL_TRIM_VALUE d) trim.toNat) (calTrimReg d) := writeFrame_setFld s _ (by simp [calTrimReg, F.CAL_TRIM_VALUE])
  have hframe := hset.trans (calEnded_frame _ d 1 0 s.calTrig s.lastStatus rfl (by simp [calTrimReg]) (by simp [calTrimReg]) (calTrimReg_spill d))
    (calTrimReg_spill d)
  refine ⟨?_, ?_, ?_, calEnded_running _ d 1 0 s.calTrig s.lastStatus, hframe.mem, hframe.frameRegs (fun _ h => h)⟩
  · exact (trim_calEnded _ d 1 0 s.calTrig s.lastStatus).trans ((fld_setFld_self _ _ _ (Fld.fits (by rfl))).trans (Nat.mod_eq_of_lt trim.isLt))
  · exact (reject_calEnded _ d 1 0 s.calTrig s.lastStatus).trans (bit_setFld_apart _ _ (Fld.fits (by rfl)) (.inl hstat))
  · exact (rejCnt_calEnded _ d 1 0 s.calTrig s.lastStatus).trans (fld_setFld_ne _ _ _ _ hcnt.symm)

theorem trimRejected_ends (s : State) (d : Fin 5) (w4 cur prop w7 : Nat) :
    let v := ((s.trimRejected w4 cur prop w7).calEnded d 0 1 s.calTrig s.lastStatus).withRuns []
    v.fld (F.CAL_TRIM_VALUE d) = s.fld (F.CAL_TRIM_VALUE d) ∧ v.bit F.CAL_STAT_CAL_REJECT = true ∧
      v.fld F.CAL_CNT_REJ_CNT = min (s.fld F.CAL_CNT_REJ_CNT + 1) (2 ^ F.CAL_CNT_REJ_CNT.w - 1) ∧ v.fld F.CAL_STAT_RUNNING = 0 ∧
      FrameMem s v s.spillByte ∧ FrameRegs s v (fun off => calTrimReg d off || inBlocks [.hostq, .seg, .time] off) := by
  intro v
  have hrej := trimRejected_frame s w4 cur prop w7
  obtain ⟨hflag, hcount⟩ := trimRejected_shows s w4 cur prop w7
  have htrim : (s.trimRejected w4 cur prop w7).rd (R.CAL_TRIM d) = s.rd (R.CAL_TRIM d) := by
    refine hrej.rd ?_ (recordReg_cal (by simp only [R.CAL_TRIM]; omega) (by simp only [R.CAL_TRIM]; omega))
    simp only [Bool.or_eq_false_iff, beq_eq_false_iff_ne, R.CAL_TRIM, R.CAL_STAT, R.CAL_CNT]
    omega
  have hframe := (hrej.mono (x := calTrimReg d) (fun off h => by rw [calTrimReg, Bool.or_assoc, h, Bool.or_true])).trans
    (calEnded_frame _ d 0 1 s.calTrig s.lastStatus hrej.lastStatus.symm (by simp [calTrimReg]) (by simp [calTrimReg]) (calTrimReg_spill d)) (calTrimReg_spill d)
  refine ⟨?_, ?_, ?_, calEnded_running _ d 0 1 s.calTrig s.lastStatus, hframe.mem, hframe.frameRegs (fun _ h => h)⟩
  · exact (trim_calEnded _ d 0 1 s.calTrig s.lastStatus).trans (fld_of_rd_eq (F.CAL_TRIM_VALUE d) htrim)
  · exact (reject_calEnded _ d 0 1 s.calTrig s.lastStatus).trans hflag
  · exact (rejCnt_calEnded _ d 0 1 s.calTrig s.lastStatus).trans hcount

/-- Settles O55: a sample is the sensor's reading and, further off, `State.calAsk`; a run treats its items one by one and then ends. -/
theorem calibrationKeepsGoodValues : Obligations.CalibrationKeepsGoodValues := by
  unfold Obligations.CalibrationKeepsGoodValues
  refine ⟨?absent, ?unpowered, ?near, ?far, ?nowOff, ?nowXd, ?idle, ?noItems, ?trim, ?won⟩
  case absent =>
    intro k raw s h
    have hx : exec (.tempSample k raw) s = done s s := by
      change execTempSample k raw s = _
      simp [execTempSample, h]
    exact completes_of_done hx rfl
  case unpowered =>
    intro k raw s hhas hpow
    have hx : exec (.tempSample k raw) s = done s (s.setFld (F.CAL_TEMP_VALID k) 0) := by
      change execTempSample k raw s = _
      simp [execTempSample, hhas, sensorDie, hpow]
    exact completes_of_done hx ⟨bit_setFld_self _ _ 0 (Fld.fits (by rfl)) rfl, (Frame.refl s _).setFld 0 (by simp) (Fld.fits (by rfl))⟩
  case near =>
    intro k raw s hhas hpow t hmild hnear hbusy
    have hen : ∀ f : Fld, f.off ≠ R.CAL_TEMP k → f.off ≠ R.CAL_STAT → ((s.tempTaken k t).hotNoted t).bit f = s.bit f := fun f h1 h2 =>
      bit_of_rd_eq f ((rd_hotNoted _ t h2).trans (rd_tempTaken s k t h1))
    have hx : exec (.tempSample k raw) s = done s ((s.tempTaken k t).hotNoted t) := by
      rw [execTempSample_powered hhas hpow (.inr hmild)]
      split
      · rfl
      · rename_i hfar
        have hoff := hnear.resolve_right hfar
        rw [calAsk_off]
        · exact (hen F.CAL_CTL_EN (by simp only [F.CAL_CTL_EN, R.CAL_CTL, R.CAL_TEMP]; omega) (by decide)).trans hoff
        · exact (hen F.PWR_STAT_BUSY (by simp only [F.PWR_STAT_BUSY, R.PWR_STAT, R.CAL_TEMP]; omega) (by decide)).trans hbusy
    have hstat : R.CAL_TEMP k ≠ R.CAL_STAT := by simp only [R.CAL_TEMP, R.CAL_STAT]; omega
    refine completes_of_done hx ⟨?_, ?_, ?_, ?_⟩
    · rw [fld_of_rd_eq _ (rd_hotNoted _ t hstat), fld_tempTaken]
    · rw [bit_of_rd_eq _ (rd_hotNoted _ t hstat), valid_tempTaken]
    · rw [bit_hotNoted, bit_of_rd_eq _ (rd_tempTaken s k t hstat.symm)]
    · unfold State.hotNoted
      exact (frame_tempTaken s k t (by simp) (by simp)).ite_flag _ (by simp) (Fld.fits (by rfl))
  case far =>
    intro k raw s0 s hk hhas hpow t hmild hen hbusy hfar
    obtain ⟨htemp, hrun, href⟩ := calStarted_shows (s.tempTaken k t) hk t
    refine completes_of_done (execTempSample_starts hk hhas hpow hmild hen hbusy rfl hfar) ⟨?_, ?_, hrun, href, ?_⟩
    · exact (fld_of_rd_eq (F.CAL_TEMP_TEMP k) htemp).trans (fld_tempTaken s k t)
    · exact (bit_of_rd_eq (F.CAL_TEMP_VALID k) htemp).trans (valid_tempTaken s k t)
    · exact ((frame_tempTaken s k t (by simp) (by simp)).withCal _).trans ((frame_calStarted (s.tempTaken k t) k t).append [F.CAL_TEMP_TEMP k, F.CAL_TEMP_VALID k])
  case nowOff =>
    intro s h hbusy
    exact completes_of_done (congrArg (fun v : State => done s (v.status 0)) (runNow_off h hbusy)) rfl
  case nowXd =>
    intro s0 s hen hbusy
    have hrec := recordFrame_calRec s.xdStarted 0x410 0 0 s.xdStarted.calTrig
    have hall := (xdStarted_frame s).trans (WriteFrame.of_record hrec) (by decide)
    obtain ⟨hrun, href, htherm⟩ := xdStarted_shows s
    refine completes_of_done (execRunNow_xd hen hbusy rfl rfl) ⟨?_, ?_, fun j => ?_, hall.mem, rfl, fun c hc => ?_, hall.frameRegs (fun _ h => h)⟩
    · exact (fld_of_rd_eq F.CAL_STAT_RUNNING (calRec_rd _ _ _ _ _ (by decide) (by decide))).trans hrun
    · exact cal_of_offRecord hall.rest
    · exact (calRec_rd _ _ _ _ _ (by simp only [R.CAL_REF]; omega) (by simp only [R.CAL_REF]; omega)).trans (href j)
    · exact (bit_of_rd_eq (F.DMC_CH_STAT_THERM c) (hrec.regs _ (recordReg_chStat c.isLt))).trans (htherm c hc)
  case idle =>
    intro d trim ofs won s h
    have hx : exec (.calRunDone d trim ofs won) s = done s s := by
      change execCalRunDone d trim ofs won s = _
      unfold execCalRunDone
      cases hr : s.cal.runs with
      | nil => rfl
      | cons x rest =>
        have hne : x.1 ≠ d.val := h x (by rw [hr]; rfl)
        exact if_pos hne
    exact completes_of_done hx rfl
  case noItems =>
    intro d k trim ofs won s0 s hitems
    have hx := execCalRunDone_last (s := s) (d := d) (k := k) rfl trim ofs won
    rw [calItems_none hitems] at hx
    have hframe := calEnded_frame (w := fun off => off == R.CAL_STAT || off == R.CAL_CNT) s d 0 0 s.calTrig s.lastStatus rfl rfl rfl (by decide)
    exact completes_of_done hx ⟨calEnded_count s d 0 0 s.calTrig s.lastStatus, calEnded_running s d 0 0 s.calTrig s.lastStatus, rfl, hframe.mem,
      hframe.lastStatus, hframe.frameRegs (fun _ h => h)⟩
  case trim =>
    intro d k trim ofs s0 s hitems cur ok
    have hx := execCalRunDone_last (s := s) (d := d) (k := k) rfl trim ofs []
    rw [calItems_trim hitems, List.foldl_cons, List.foldl_nil, List.any_nil] at hx
    have hok : s.trimOk d trim = ok := rfl
    clear_value ok
    cases ok with
    | true =>
      rw [calItem_applied hok] at hx
      obtain ⟨htrim, hrej, hcnt, hrun, hmem, hregs⟩ := trimApplied_ends s d trim
      exact completes_of_done hx ⟨htrim.trans (if_pos rfl).symm, fun h => absurd h (by decide), fun _ => ⟨hrej, hcnt⟩, hrun, rfl, hmem, hregs⟩
    | false =>
      obtain ⟨w4, w7, hitem⟩ := calItem_rejected hok
      rw [hitem] at hx
      obtain ⟨htrim, hrej, hcnt, hrun, hmem, hregs⟩ := trimRejected_ends s d w4 (s.fld (F.CAL_TRIM_VALUE d)) trim.toNat w7
      exact completes_of_done hx ⟨htrim.trans (if_neg (by decide)).symm, fun _ => ⟨hrej, hcnt⟩, fun h => absurd h (by decide), hrun, rfl, hmem, hregs⟩
  case won =>
    intro d k trim ofs s0 s hitems hlo hhi hstep
    have hx := execCalRunDone_last (s := s) (d := d) (k := k) rfl trim ofs [(2, Fin.ofNat 114 d.val)]
    have hwon : ([((2 : Fin 4), Fin.ofNat 114 d.val)].any (fun w => w.1.val == (s.trimItem d trim).kind && w.2.val == (s.trimItem d trim).inst)) = true := by
      simp only [List.any_cons, List.any_nil, Bool.or_false, State.trimItem, Fin.val_ofNat]
      rw [Nat.mod_eq_of_lt (by omega)]
      simp
    have hok : s.trimOk d trim = true := decide_eq_true ⟨hlo, hhi, hstep⟩
    rw [calItems_trim hitems, List.foldl_cons, List.foldl_nil, hwon, calItem_won hok] at hx
    have hframe := calEnded_frame (w := calTrimReg d) s d 0 0 s.calTrig s.lastStatus rfl (by simp [calTrimReg]) (by simp [calTrimReg]) (calTrimReg_spill d)
    refine completes_of_done hx ⟨?_, ?_, ?_, calEnded_running s d 0 0 s.calTrig s.lastStatus, rfl, hframe.mem⟩
    · exact trim_calEnded s d 0 0 s.calTrig s.lastStatus
    · exact reject_calEnded s d 0 0 s.calTrig s.lastStatus
    · exact rejCnt_calEnded s d 0 0 s.calTrig s.lastStatus

end Sys2Proof.Machine
end
section
/-!
PROOFS. A DDR-4 channel: its configuration, initialisation, refresh, power-down, scrubbing and copies (R318 to R332).
-/
namespace Sys2Proof.Machine

/-! ### The hidden state of a channel -/

theorem dmcS_fin (s : State) (c : Fin 8) : s.dmcS c = s.dmc[c] := vget_fin _ _ _

theorem modDmc_fin (s : State) (c : Fin 8) (f : DmcS → DmcS) : s.modDmc c f = { s with dmc := s.dmc.set c (f s.dmc[c]) } := by
  rw [State.modDmc, vput_fin, dmcS_fin]

theorem dmc_modDmc_self (s : State) (c : Fin 8) (f : DmcS → DmcS) : (s.modDmc c f).dmc[c] = f s.dmc[c] := by
  rw [modDmc_fin]
  simp

/-- What DMC hides moves at both ends of a frame. -/
theorem Frame.withDmc {s v : State} {fs : List Fld} (h : Frame s v fs) (x : Vector DmcS 8) : Frame { s with dmc := x } { v with dmc := x } fs :=
  h.of_eq rfl rfl rfl rfl rfl rfl (congrArg (fun y : State => { y with dmc := x }) h.rest)

theorem modDmc_modDmc (s : State) (c : Fin 8) (f g : DmcS → DmcS) : (s.modDmc c f).modDmc c g = s.modDmc c (fun d => g (f d)) := by
  rw [modDmc_fin, modDmc_fin, modDmc_fin]
  simp

/-! ### Counts per rank -/

theorem cntGet_cntInc (l : List (Nat × Nat)) (k : Nat) : cntGet (cntInc l k) k = cntGet l k + 1 := by
  simp [cntInc, cntGet]

theorem cntGet_filter_ne (l : List (Nat × Nat)) (k : Nat) : cntGet (l.filter (fun e => e.1 != k)) k = 0 := by
  have h : (l.filter (fun e => e.1 != k)).find? (fun e => e.1 == k) = none := by
    rw [List.find?_eq_none]
    intro e he
    have := (List.mem_filter.mp he).2
    simpa using this
  rw [cntGet, h]
  rfl

/-! ### The configuration (R318) -/

theorem execDmcConfigDone_refused {s : State} {n8 : Bool} (h : s.bit F.DMC_CFG_DONE = true ∨ (n8 = true ∧ s.board.variant = .w0648) ∨
    (List.range (if n8 then 8 else 4)).all (fun c => s.rd (R.DMC_CH_CFG c) == s.rd (R.DMC_CH_CFG 0)) = false) :
    exec (.dmcConfigDone n8) s = done s (s.status 0x40) := by
  change execDmcConfigDone n8 s = _
  unfold execDmcConfigDone State.dmcCfgWrite
  congr 1
  cases n8 <;> rcases h with h | h | h <;> simp_all [bitN]

theorem execDmcConfigDone_done {s : State} {n8 : Bool} (hfree : s.bit F.DMC_CFG_DONE = false) (hpart : n8 = false ∨ s.board.variant ≠ .w0648)
    (hall : (List.range (if n8 then 8 else 4)).all (fun c => s.rd (R.DMC_CH_CFG c) == s.rd (R.DMC_CH_CFG 0)) = true) :
    let n := if n8 then 8 else 4
    let spare := (List.range n).foldl (fun m c => max m (s.spareMib c)) 0
    exec (.dmcConfigDone n8) s =
      done s ((((s.put R.DMC_CFG (if n8 then 3 else 2)).setFld F.DMC_INSTALLED_MIB (n * (s.chanMib 0 - spare))).dmcValid).status 0) := by
  change execDmcConfigDone n8 s = _
  unfold execDmcConfigDone State.dmcCfgWrite
  congr 1
  cases n8
  · simp_all [bitN]
  · simp_all [bitN]

/-- The state after DONE, but for the status. -/
def State.dmcConfigured (s : State) (n8 : Bool) (mib : Nat) : State :=
  (s.put R.DMC_CFG (if n8 then 3 else 2)).setFld F.DMC_INSTALLED_MIB mib

theorem rd_dmcConfigured (s : State) (n8 : Bool) (mib : Nat) : (s.dmcConfigured n8 mib).rd R.DMC_CFG = if n8 then 3 else 2 :=
  (rd_setFld_ne _ _ _ (by decide)).trans (rd_put_self s _ _)

theorem rd_dmcConfigured_ne (s : State) (n8 : Bool) (mib : Nat) {off : Nat} (h1 : off ≠ R.DMC_CFG) (h2 : off ≠ R.DMC_INSTALLED) :
    (s.dmcConfigured n8 mib).rd off = s.rd off := (rd_setFld_ne _ _ _ h2).trans (rd_put_ne s _ h1)

theorem bit_of_dmcCfg {s : State} {n8 : Bool} (h : s.rd R.DMC_CFG = if n8 then 3 else 2) : s.bit F.DMC_CFG_DONE = true ∧ s.bit F.DMC_CFG_NCH = n8 := by
  simp only [State.bit, State.fld, State.rdN, F.DMC_CFG_DONE, F.DMC_CFG_NCH, h]
  cases n8 <;> decide

theorem chanServes_of_rd_eq {s t : State} {c : Nat} (h : t.rd (R.DMC_CH_STAT c) = s.rd (R.DMC_CH_STAT c)) : t.chanServes c = s.chanServes c := by
  rw [State.chanServes, State.chanServes, fld_of_rd_eq (F.DMC_CH_STAT_STATE c) h]

theorem dmcConfigured_serves (s : State) (n8 : Bool) (mib : Nat) :
    ((s.dmcConfigured n8 mib).bit F.DMC_CFG_DONE && !(s.dmcConfigured n8 mib).selfRefresh &&
      (List.range (s.dmcConfigured n8 mib).nch).all (s.dmcConfigured n8 mib).chanServes) =
    (!s.selfRefresh && (List.range (if n8 then 8 else 4)).all s.chanServes) := by
  obtain ⟨hdone, hnch⟩ := bit_of_dmcCfg (rd_dmcConfigured s n8 mib)
  have hself : (s.dmcConfigured n8 mib).selfRefresh = s.selfRefresh := by
    rw [State.selfRefresh, fld_of_rd_eq F.PWR_STAT_STATE (rd_dmcConfigured_ne s n8 mib (by decide) (by decide))]
    rfl
  have hserve : (s.dmcConfigured n8 mib).chanServes = s.chanServes := funext fun c =>
    chanServes_of_rd_eq (rd_dmcConfigured_ne s n8 mib (by simp only [R.DMC_CH_STAT, R.DMC_CFG]; omega) (by simp only [R.DMC_CH_STAT, R.DMC_INSTALLED]; omega))
  rw [hdone, hself, hserve, State.nch, hnch, Bool.true_and]

theorem dmcValid_eq (s : State) :
    s.dmcValid = s.setBit F.DMC_INSTALLED_VALID (s.bit F.DMC_CFG_DONE && !s.selfRefresh && (List.range s.nch).all s.chanServes) := rfl

theorem rd_dmcValid (s : State) {off : Nat} (h : off ≠ R.DMC_INSTALLED) : s.dmcValid.rd off = s.rd off := rd_setFld_ne _ _ _ h

theorem dmcConfigured_shows (s : State) (n8 : Bool) (mib : Nat) :
    let v := (s.dmcConfigured n8 mib).dmcValid
    v.bit F.DMC_CFG_DONE = true ∧ v.bit F.DMC_CFG_NCH = n8 ∧ v.fld F.DMC_INSTALLED_MIB = mib % 2 ^ F.DMC_INSTALLED_MIB.w ∧
      v.bit F.DMC_INSTALLED_VALID = (!s.selfRefresh && (List.range (if n8 then 8 else 4)).all s.chanServes) ∧
      Frame s v [whole R.DMC_CFG, F.DMC_INSTALLED_MIB, F.DMC_INSTALLED_VALID] := by
  intro v
  obtain ⟨hdone, hnch⟩ := bit_of_dmcCfg (s := v) (n8 := n8) ((rd_dmcValid _ (by decide)).trans (rd_dmcConfigured s n8 mib))
  refine ⟨hdone, hnch, ?_, ?_, (((Frame.refl s _).putWord _ (by simp)).setFld mib (by simp) (Fld.fits (by rfl))).setBit _ (by simp) (Fld.fits (by rfl))⟩
  · rw [show v = _ from dmcValid_eq _, setBit_eq, fld_setFld_apart _ _ (Fld.fits (by rfl)) (Fld.apart (by rfl)), State.dmcConfigured, fld_setFld_self _ _ _ (Fld.fits (by rfl))]
  · rw [show v = _ from dmcValid_eq _, bit_setBit_self _ _ _ (Fld.fits (by rfl)) rfl, dmcConfigured_serves]

/-- Channels that were all written with the same word match. -/
theorem rd_channelCfg (l : List Nat) (cfg : Word) (s : State) (c : Nat) (h : c ∈ l ∨ s.rd (R.DMC_CH_CFG c) = cfg) :
    (l.foldl (fun (s : State) c => s.put (R.DMC_CH_CFG c) cfg) s).rd (R.DMC_CH_CFG c) = cfg := by
  induction l generalizing s with
  | nil => exact h.resolve_left (by simp)
  | cons x l ih =>
    refine ih _ ?_
    by_cases hx : c = x
    · subst hx
      exact .inr (rd_put_self s _ _)
    · refine h.imp (fun hm => (List.mem_cons.mp hm).resolve_left hx) (fun hs => ?_)
      exact (rd_put_ne s _ (fun he => hx (by simp only [R.DMC_CH_CFG] at he; omega))).trans hs

/-! ### Initialisation (R331) -/

/-- A mode register's number and its word. -/
def modeRegs (c : Nat) : List (Nat × Fld) :=
  [(3, F.DMC_CH_MR3_VALUE c), (6, F.DMC_CH_MR6_VALUE c), (5, F.DMC_CH_MR5_VALUE c), (4, F.DMC_CH_MR4_VALUE c), (2, F.DMC_CH_MR2_VALUE c),
    (1, F.DMC_CH_MR1_VALUE c), (0, F.DMC_CH_MR0_VALUE c)]

/-- What the controller sends at INIT. -/
def State.initOuts (s : State) (c : Nat) : List Out :=
  [.ddrReset c] ++ (if s.bit (F.DMC_CH_CFG_RDIMM c) then [.ddrRcw c (s.fld (F.DMC_CH_MR6_RCW c))] else []) ++
    (modeRegs c).map (fun e => .ddrMode c e.1 (s.fld e.2)) ++ [.ddrZq c]

theorem emits_eq (s : State) (l : List Out) (h : s.scanDrives = false) : l.foldl State.emit s = { s with out := s.out ++ l } := by
  induction l generalizing s with
  | nil => simp
  | cons o l ih =>
    have hs : (s.emit o).scanDrives = false := by rw [State.scanDrives, emit_jtag, ← State.scanDrives, h]
    rw [List.foldl_cons, ih _ hs, emit_eq, h]
    simp

theorem initSeq_emits (s : State) (c : Nat) : s.initSeq c = (s.initOuts c).foldl State.emit s := by
  have hmode : ∀ (l : List (Nat × Fld)) (u : State), (∀ f, u.fld f = s.fld f) →
      l.foldl (fun s e => s.emit (.ddrMode c e.1 (s.fld e.2))) u = (l.map (fun e => Out.ddrMode c e.1 (s.fld e.2))).foldl State.emit u := by
    intro l
    induction l with
    | nil => exact fun u _ => rfl
    | cons e l ih =>
      intro u hu
      rw [List.foldl_cons, List.map_cons, List.foldl_cons, hu]
      exact ih _ (fun f => (emit_fld u _ f).trans (hu f))
  rw [State.initOuts, List.foldl_append, List.foldl_append, List.foldl_append]
  unfold State.initSeq
  extract_lets mr t u
  have hbit : t.bit (F.DMC_CH_CFG_RDIMM c) = s.bit (F.DMC_CH_CFG_RDIMM c) := emit_bit _ _ _
  have hrcw : t.fld (F.DMC_CH_MR6_RCW c) = s.fld (F.DMC_CH_MR6_RCW c) := emit_fld _ _ _
  have hu : u = (if s.bit (F.DMC_CH_CFG_RDIMM c) then [Out.ddrRcw c (s.fld (F.DMC_CH_MR6_RCW c))] else []).foldl State.emit t := by
    unfold u
    rw [hbit, hrcw]
    split <;> rfl
  have hfld : ∀ f, u.fld f = s.fld f := by
    intro f
    unfold u
    split
    · exact (emit_fld _ _ _).trans (emit_fld _ _ _)
    · exact emit_fld _ _ _
  change ((modeRegs c).foldl (fun s e => s.emit (.ddrMode c e.1 (s.fld e.2))) u).emit (.ddrZq c) = _
  rw [hmode _ u hfld, hu]
  simp only [List.foldl_cons, List.foldl_nil, t]

/-- The state after INIT is accepted, but for what is sent. -/
def State.dmcInitialising (s : State) (c : Nat) (val : Word) : State :=
  ((s.put (R.DMC_CH_CTL c) (val &&& 0xFFFFFC)).setFld (F.DMC_CH_STAT_STATE c) 1).dmcValid

theorem or_and_setting (val b : Word) (h : b &&& 0xFFFFFC = 0) : (val ||| b) &&& 0xFFFFFC = val &&& 0xFFFFFC := by
  rw [BitVec.and_comm, BitVec.and_or_distrib_left, BitVec.and_comm, BitVec.and_comm _ b, h]
  simp

theorem bitN_or (val b : Word) (k : Nat) : bitN (val ||| b).toNat k = (bitN val.toNat k || bitN b.toNat k) := by
  have h : ∀ x, bitN x k = x.testBit k := fun x => by
    rw [bitN, Nat.testBit_eq_decide_div_mod_eq]
    rfl
  rw [h, h, h, BitVec.toNat_or, Nat.testBit_or]

theorem execDmcInit_refused {s : State} {c : Fin 8} (val : Word) (hhas : s.has .ddr c = true) (h : s.timingsSet c = false ∨ s.chanServes c = true) :
    exec (.dmcInit c val) s = done s (s.status 0x40) := by
  have hinit : bitN (val ||| 1).toNat 0 = true := by rw [bitN_or]; exact Bool.or_true _
  change execDmcInit c val s = _
  unfold execDmcInit State.dmcCtl
  rw [if_pos hhas]
  dsimp only
  rw [if_pos (by rw [hinit]; rcases h with h | h <;> simp [h])]

theorem execDmcInit_accepted {s : State} {c : Fin 8} {val : Word} (hhas : s.has .ddr c = true) (htim : s.timingsSet c = true)
    (hserve : s.chanServes c = false) (hdly : bitN val.toNat 1 = false) :
    exec (.dmcInit c val) s = done s (((s.dmcInitialising c val).initSeq c).status 0) := by
  have hinit : bitN (val ||| 1).toNat 0 = true := by rw [bitN_or]; exact Bool.or_true _
  have hdly' : bitN (val ||| 1).toNat 1 = false := by rw [bitN_or, hdly]; rfl
  change execDmcInit c val s = _
  unfold execDmcInit State.dmcCtl
  rw [if_pos hhas]
  dsimp only
  rw [if_neg (by simp [htim, hserve]), if_pos hinit, if_neg (by rw [hdly']; decide), or_and_setting val 1 (by decide)]
  rfl

theorem foldl_emit_eq (l : List Out) (s : State) : ∃ o, l.foldl State.emit s = { s with out := o } := by
  induction l generalizing s with
  | nil => exact ⟨s.out, rfl⟩
  | cons o l ih =>
    obtain ⟨o', h⟩ := ih (s.emit o)
    exact ⟨o', by rw [List.foldl_cons, h, emit_eq]⟩

theorem initSeq_eq (s : State) (c : Nat) : ∃ o, s.initSeq c = { s with out := o } := by
  rw [initSeq_emits]
  exact foldl_emit_eq _ s

theorem rd_dmcInitialising (s : State) (c : Nat) (val : Word) {off : Nat} (h1 : off ≠ R.DMC_CH_CTL c) (h2 : off ≠ R.DMC_CH_STAT c)
    (h3 : off ≠ R.DMC_INSTALLED) : (s.dmcInitialising c val).rd off = s.rd off :=
  (rd_dmcValid _ h3).trans ((rd_setFld_ne _ _ _ h2).trans (rd_put_ne s _ h1))

theorem initOuts_dmcInitialising (s : State) (c : Nat) (val : Word) : (s.dmcInitialising c val).initOuts c = s.initOuts c := by
  have hfld : ∀ f : Fld, (∃ k, f.off = 0x02801000 + k + c * 0x100 ∧ k < 0x100 ∧ k ≠ 4 ∧ k ≠ 8) → (s.dmcInitialising c val).fld f = s.fld f := by
    rintro f ⟨k, hk, h1, h2, h3⟩
    refine fld_of_rd_eq f (rd_dmcInitialising s c val ?_ ?_ ?_) <;> simp only [hk, R.DMC_CH_CTL, R.DMC_CH_STAT, R.DMC_INSTALLED] <;> omega
  have hmr : ∀ e ∈ modeRegs c, (s.dmcInitialising c val).fld e.2 = s.fld e.2 := by
    intro e he
    simp only [modeRegs, List.mem_cons, List.not_mem_nil, or_false] at he
    rcases he with rfl | rfl | rfl | rfl | rfl | rfl | rfl
    · exact hfld _ ⟨0x24, rfl, by decide⟩
    · exact hfld _ ⟨0x30, rfl, by decide⟩
    · exact hfld _ ⟨0x2C, rfl, by decide⟩
    · exact hfld _ ⟨0x28, rfl, by decide⟩
    · exact hfld _ ⟨0x20, rfl, by decide⟩
    · exact hfld _ ⟨0x1C, rfl, by decide⟩
    · exact hfld _ ⟨0x18, rfl, by decide⟩
  have hdimm : (s.dmcInitialising c val).bit (F.DMC_CH_CFG_RDIMM c) = s.bit (F.DMC_CH_CFG_RDIMM c) := by
    rw [State.bit, hfld _ ⟨0, rfl, by decide⟩, State.bit]
  rw [State.initOuts, State.initOuts, hdimm, hfld (F.DMC_CH_MR6_RCW c) ⟨0x30, rfl, by decide⟩]
  congr 2
  exact List.map_congr_left (fun e he => by rw [hmr e he])

theorem dmcInitialising_shows (s : State) (c : Fin 8) (val : Word) :
    (s.dmcInitialising c val).fld (F.DMC_CH_STAT_STATE c) = 1 ∧ (s.dmcInitialising c val).rd (R.DMC_CH_CTL c) = val &&& 0xFFFFFC ∧
      Frame s (s.dmcInitialising c val) [F.DMC_CH_STAT_STATE c, whole (R.DMC_CH_CTL c), F.DMC_INSTALLED_VALID] := by
  have hstat : R.DMC_CH_STAT c ≠ R.DMC_INSTALLED := by simp only [R.DMC_CH_STAT, R.DMC_INSTALLED]; omega
  have hctl : R.DMC_CH_CTL c ≠ R.DMC_INSTALLED := by simp only [R.DMC_CH_CTL, R.DMC_INSTALLED]; omega
  have hctl' : R.DMC_CH_CTL c ≠ R.DMC_CH_STAT c := by simp only [R.DMC_CH_CTL, R.DMC_CH_STAT]; omega
  refine ⟨?_, ?_, (((Frame.refl s _).putWord _ (by simp)).setFld 1 (by simp) (Fld.fits (by rfl))).setBit _ (by simp) (Fld.fits (by rfl))⟩
  · rw [State.dmcInitialising, fld_of_rd_eq _ (rd_dmcValid _ hstat), fld_setFld_self _ _ _ (Fld.fits (by rfl))]
    rfl
  · rw [State.dmcInitialising, rd_dmcValid _ hctl, rd_setFld_ne _ _ _ hctl', rd_put_self]

theorem out_dmcInitialising (s : State) (c : Nat) (val : Word) : (s.dmcInitialising c val).out = s.out := by
  rw [State.dmcInitialising, dmcValid_eq, setBit_eq, setFld_out, setFld_out, put_out]

theorem scanDrives_dmcInitialising (s : State) (c : Nat) (val : Word) : (s.dmcInitialising c val).scanDrives = s.scanDrives := by
  rw [State.scanDrives, State.dmcInitialising, dmcValid_eq, setBit_eq, setFld_jtag, setFld_jtag, put_jtag, State.scanDrives]

theorem initSeq_out (s : State) (c : Nat) (h : s.scanDrives = false) : (s.initSeq c).out = s.out ++ s.initOuts c := by
  rw [initSeq_emits, emits_eq _ _ h]

/-- What was sent moves at both ends of a frame. -/
theorem Frame.withOut {s v : State} {fs : List Fld} (h : Frame s v fs) (o : List Out) : Frame { s with out := o } { v with out := o } fs :=
  h.of_eq rfl rfl rfl rfl rfl rfl (congrArg (fun x : State => { x with out := o }) h.rest)

theorem Frame.initSeq {s v : State} {fs : List Fld} (h : Frame s v fs) (c : Nat) : Frame { s with out := (v.initSeq c).out } (v.initSeq c) fs := by
  obtain ⟨o, hseq⟩ := initSeq_eq v c
  rw [hseq]
  exact h.withOut o

theorem rd_initSeq (s : State) (c off : Nat) : (s.initSeq c).rd off = s.rd off := by
  obtain ⟨o, hseq⟩ := initSeq_eq s c
  rw [hseq]
  rfl

/-! ### Delays (R332) -/

/-- The state after DLY_APPLY, but for the status. -/
def State.dlyAsked (s : State) (c : Nat) (val : Word) : State :=
  ((s.put (R.DMC_CH_CTL c) ((val ||| 2) &&& 0xFFFFFC)).flag (F.DMC_CH_STAT_DLY_PEND c)).modDmc c
    (fun d => { d with take := if s.bit (F.DMC_CH_CFG_RANKS2 c) then [0, 1] else [0] })

theorem execDlyApply_accepted {s : State} {c : Fin 8} {val : Word} (hhas : s.has .ddr c = true) (hinit : bitN val.toNat 0 = false) :
    exec (.dlyApply c val) s = done s ((s.dlyAsked c val).status 0) := by
  have hinit' : bitN (val ||| 2).toNat 0 = false := by rw [bitN_or, hinit]; rfl
  have hdly' : bitN (val ||| 2).toNat 1 = true := by rw [bitN_or]; exact Bool.or_true _
  have hranks : ∀ x, (s.put (R.DMC_CH_CTL c) x).bit (F.DMC_CH_CFG_RANKS2 c) = s.bit (F.DMC_CH_CFG_RANKS2 c) := fun x =>
    bit_of_rd_eq _ (rd_put_ne s x (by simp only [F.DMC_CH_CFG_RANKS2, R.DMC_CH_CFG, R.DMC_CH_CTL]; omega))
  change execDlyApply c val s = _
  unfold execDlyApply State.dmcCtl
  rw [if_pos hhas]
  congr 1
  simp only [hinit', hdly', Bool.false_and, Bool.false_eq_true, if_false, if_true, hranks]
  rfl

theorem dlyAsked_shows (s : State) (c : Fin 8) (val : Word) :
    (s.dlyAsked c val).bit (F.DMC_CH_STAT_DLY_PEND c) = true ∧ (s.dlyAsked c val).rd (R.DMC_CH_CTL c) = (val ||| 2) &&& 0xFFFFFC ∧
      (s.dlyAsked c val).dmc[c] = { s.dmc[c] with take := if s.bit (F.DMC_CH_CFG_RANKS2 c) then [0, 1] else [0] } ∧
      Frame { s with dmc := s.dmc.set c (s.dlyAsked c val).dmc[c] } (s.dlyAsked c val) [F.DMC_CH_STAT_DLY_PEND c, whole (R.DMC_CH_CTL c)] := by
  have hctl : R.DMC_CH_CTL c ≠ R.DMC_CH_STAT c := by simp only [R.DMC_CH_CTL, R.DMC_CH_STAT]; omega
  have hdmc : (s.dlyAsked c val).dmc[c] = { s.dmc[c] with take := if s.bit (F.DMC_CH_CFG_RANKS2 c) then [0, 1] else [0] } := by
    rw [State.dlyAsked, dmc_modDmc_self]
    rfl
  refine ⟨?_, ?_, hdmc, ?_⟩
  · rw [State.dlyAsked, modDmc_bit]
    exact bit_setFld_self _ _ 1 (Fld.fits (by rfl)) rfl
  · rw [State.dlyAsked, modDmc_rd, flag_eq, rd_setFld_ne _ _ _ hctl, rd_put_self]
  · rw [hdmc, State.dlyAsked, modDmc_fin]
    exact (((Frame.refl s _).putWord _ (by simp)).flag (by simp) (Fld.fits (by rfl))).withDmc _

/-! ### The end of initialisation (R331) -/

/-- The bytes `bs` stand at each address of a list. -/
def State.putAll (s : State) (bs : List Byte) (l : List Nat) : State := l.foldl (fun s a => s.memPut a bs) s

theorem putAll_eq (bs : List Byte) (l : List Nat) (s : State) : ∃ d p, s.putAll bs l = { s with ddr := d, poison := p } := by
  induction l generalizing s with
  | nil => exact ⟨_, _, rfl⟩
  | cons a l ih =>
    obtain ⟨d, p, h⟩ := ih (s.memPut a bs)
    exact ⟨d, p, h⟩

theorem zeros_getD (k i : Nat) : (zeros k).getD i 0 = 0 := by
  rw [zeros, List.getD_eq_getElem?_getD, List.getElem?_replicate]
  split <;> rfl

theorem memGet_putZeros (k : Nat) (l : List Nat) (s : State) (x : Nat) :
    memGet (s.putAll (zeros k) l).ddr x = if l.any (fun a => decide (a ≤ x) && decide (x < a + k)) then 0 else memGet s.ddr x := by
  induction l generalizing s with
  | nil => rfl
  | cons a l ih =>
    have hput : memGet (s.memPut a (zeros k)).ddr x = if a ≤ x ∧ x < a + k then 0 else memGet s.ddr x := by
      rw [State.memPut, memGet_memSetAll, zeros_getD, zeros, List.length_replicate]
    rw [State.putAll, List.foldl_cons]
    refine (ih (s.memPut a (zeros k))).trans ?_
    rw [hput, List.any_cons]
    by_cases ha : a ≤ x ∧ x < a + k
    · simp [ha]
    · rw [if_neg ha, show (decide (a ≤ x) && decide (x < a + k)) = false by simpa using ha, Bool.false_or]

theorem memRead_putZeros (k : Nat) {l : List Nat} {a : Nat} (h : a ∈ l) (s : State) : (s.putAll (zeros k) l).memRead a k = zeros k := by
  rw [State.memRead, memRange_eq, zeros]
  refine List.eq_replicate_iff.mpr ⟨by simp, fun b hb => ?_⟩
  obtain ⟨i, hi, rfl⟩ := List.mem_map.mp hb
  have hany : l.any (fun b => decide (b ≤ a + i) && decide (a + i < b + k)) = true :=
    List.any_eq_true.mpr ⟨a, h, by simpa using hi⟩
  rw [← zeros, memGet_putZeros, if_pos hany]

/-- The channel addresses of the check lines of a channel's ranks. -/
def checkLines (ranks : List Nat) : List Nat := ranks.flatMap (fun r => (List.range 64).map (fun i => r * 2 ^ 17 + 64 * i))

theorem foldl_clear (bs : List Byte) (c : Nat) (l : List Nat) (s : State) :
    l.foldl (fun (s : State) ca => s.memPut (ddrAddr s.nch c ca) bs) s = s.putAll bs (l.map (ddrAddr s.nch c)) := by
  induction l generalizing s with
  | nil => rfl
  | cons ca l ih => exact ih (s.memPut (ddrAddr s.nch c ca) bs)

theorem foldl_clearRanks (bs : List Byte) (c : Nat) (ranks : List Nat) (s : State) :
    ranks.foldl (fun s r => (List.range 64).foldl (fun (s : State) i => s.memPut (ddrAddr s.nch c (r * 2 ^ 17 + 64 * i)) bs) s) s =
      s.putAll bs ((checkLines ranks).map (ddrAddr s.nch c)) := by
  rw [← foldl_clear, checkLines, List.foldl_flatMap]
  simp only [List.foldl_map]

/-- Both ranks have taken the delays of the window, and the channel's queues are empty. -/
def State.dmcTaken (s : State) (c : Nat) : State :=
  (((s.takeDly c 0).takeDly c 1).setFld (F.DMC_CH_STAT_DLY_PEND c) 0).modDmc c (fun d => { d with wq := [], rows := [], down := [], post := [] })

/-- The check lines of channel `c`, by device address. -/
def State.checkAddrs (s : State) (c : Nat) : List Nat := (checkLines (if s.twoRanks c then [0, 1] else [0])).map (ddrAddr s.nch c)

theorem nch_dmcTaken (s : State) (c : Nat) : (s.dmcTaken c).nch = s.nch := by
  have h : (s.dmcTaken c).bit F.DMC_CFG_NCH = s.bit F.DMC_CFG_NCH :=
    bit_of_rd_eq _ (rd_setFld_ne ((s.takeDly c 0).takeDly c 1) _ 0 (by simp only [F.DMC_CFG_NCH, F.DMC_CH_STAT_DLY_PEND, R.DMC_CFG, R.DMC_CH_STAT]; omega))
  rw [State.nch, h, State.nch]

theorem execDmcInitDone_ends {s : State} {c : Fin 8} (h : s.fld (F.DMC_CH_STAT_STATE c) = 1) (ok : Bool) :
    let u := (s.dmcTaken c).putAll (zeros 64) (s.checkAddrs c)
    exec (.dmcInitDone c ok) s = done s (if ok then ((u.setFld (F.DMC_CH_STAT_STATE c) 2).dmcValid).setReady (32 + 16 + c) true
      else (u.setFld (F.DMC_CH_STAT_STATE c) 4).flag (F.DMC_CH_STAT_CHK_FAIL c)) := by
  intro u
  change execDmcInitDone c ok s = _
  unfold execDmcInitDone
  dsimp only
  rw [if_neg (by simp [h])]
  have hu : (if s.twoRanks c then [0, 1] else [0]).foldl (fun s r => (List.range 64).foldl
      (fun (s : State) i => s.memPut (ddrAddr s.nch c (r * 2 ^ 17 + 64 * i)) (zeros 64)) s) (s.dmcTaken c) = u := by
    rw [foldl_clearRanks, nch_dmcTaken]
    rfl
  rw [State.dmcTaken] at hu
  rw [hu]
  split <;> rfl

theorem dmc_dmcTaken (s : State) (c : Fin 8) : ((s.dmcTaken c).dmc[c]).wq = [] ∧ ((s.dmcTaken c).dmc[c]).rows = [] ∧
    ((s.dmcTaken c).dmc[c]).take.all (fun r => decide (2 ≤ r)) = true := by
  have h : (s.dmcTaken c).dmc[c] = { ((s.takeDly c 0).takeDly c 1).dmc[c] with wq := [], rows := [], down := [], post := [] } := dmc_modDmc_self _ c _
  rw [h]
  refine ⟨rfl, rfl, ?_⟩
  have htake : ((s.takeDly c 0).takeDly c 1).dmc[c].take = (s.dmc[c].take.filter (· != 0)).filter (· != 1) := by
    rw [State.takeDly, dmc_modDmc_self, State.takeDly, dmc_modDmc_self]
  change List.all ((s.takeDly c 0).takeDly c 1).dmc[c].take _ = true
  rw [htake]
  simp only [List.all_eq_true, List.mem_filter, bne_iff_ne, decide_eq_true_eq]
  rintro x ⟨⟨-, h0⟩, h1⟩
  omega

theorem rd_dmcTaken (s : State) (c : Nat) {off : Nat} (h : off ≠ R.DMC_CH_STAT c) : (s.dmcTaken c).rd off = s.rd off :=
  rd_setFld_ne ((s.takeDly c 0).takeDly c 1) _ 0 h

theorem pend_dmcTaken (s : State) (c : Nat) : (s.dmcTaken c).bit (F.DMC_CH_STAT_DLY_PEND c) = false :=
  bit_setFld_self ((s.takeDly c 0).takeDly c 1) _ 0 (Fld.fits (by rfl)) rfl

/-- The check lines are cleared. -/
def State.dmcCleared (s : State) (c : Nat) : State := (s.dmcTaken c).putAll (zeros 64) (s.checkAddrs c)

theorem dmcCleared_eq (s : State) (c : Nat) : ∃ d p, s.dmcCleared c = { s.dmcTaken c with ddr := d, poison := p } := putAll_eq _ _ _

theorem rd_dmcCleared (s : State) (c off : Nat) : (s.dmcCleared c).rd off = (s.dmcTaken c).rd off := by
  obtain ⟨d, p, h⟩ := dmcCleared_eq s c
  rw [h]
  rfl

theorem dmc_dmcCleared (s : State) (c : Nat) : (s.dmcCleared c).dmc = (s.dmcTaken c).dmc := by
  obtain ⟨d, p, h⟩ := dmcCleared_eq s c
  rw [h]

theorem ddr_dmcTaken (s : State) (c : Nat) : (s.dmcTaken c).ddr = s.ddr := rfl

theorem readyFld_channel (c : Nat) (h : c < 8) : readyFld (32 + 16 + c) = ⟨R.TOP_READY_IO, 16 + c, 1⟩ := by
  rw [readyFld, if_neg (by omega), show (32 + 16 + c) % 32 = 16 + c by omega]

/-- What the end of an initialisation leaves, `v` having passed or failed. -/
structure InitEnded (s v : State) (c : Fin 8) (ok : Bool) : Prop where
  state : v.fld (F.DMC_CH_STAT_STATE c) = if ok then 2 else 4
  pend  : v.bit (F.DMC_CH_STAT_DLY_PEND c) = false
  dmc   : v.dmc = (s.dmcTaken c).dmc
  ddr   : v.ddr = (s.dmcCleared c).ddr
  ready : ok = true → v.bit ⟨R.TOP_READY_IO, 16 + c, 1⟩ = true
  fail  : ok = false → v.bit (F.DMC_CH_STAT_CHK_FAIL c) = true
  regs  : FrameRegs s v (fun off => off == R.DMC_CH_STAT c || (ok && (off == R.DMC_INSTALLED || off == R.TOP_READY_IO)))

theorem initPassed (s : State) (c : Fin 8) :
    InitEnded s ((((s.dmcCleared c).setFld (F.DMC_CH_STAT_STATE c) 2).dmcValid).setReady (32 + 16 + c) true) c true := by
  have hready : (((s.dmcCleared c).setFld (F.DMC_CH_STAT_STATE c) 2).dmcValid).setReady (32 + 16 + c) true =
      (((s.dmcCleared c).setFld (F.DMC_CH_STAT_STATE c) 2).dmcValid).flag ⟨R.TOP_READY_IO, 16 + c, 1⟩ :=
    congrArg (fun f => (((s.dmcCleared c).setFld (F.DMC_CH_STAT_STATE c) 2).dmcValid).flag f) (readyFld_channel c c.isLt)
  have hstat : R.DMC_CH_STAT c ≠ R.TOP_READY_IO := by simp only [R.DMC_CH_STAT, R.TOP_READY_IO]; omega
  have hinst : R.DMC_CH_STAT c ≠ R.DMC_INSTALLED := by simp only [R.DMC_CH_STAT, R.DMC_INSTALLED]; omega
  have hrd : ((((s.dmcCleared c).setFld (F.DMC_CH_STAT_STATE c) 2).dmcValid).flag ⟨R.TOP_READY_IO, 16 + c, 1⟩).rd (R.DMC_CH_STAT c) =
      ((s.dmcCleared c).setFld (F.DMC_CH_STAT_STATE c) 2).rd (R.DMC_CH_STAT c) := (rd_setFld_ne _ _ _ hstat).trans (rd_dmcValid _ hinst)
  rw [hready]
  refine ⟨?_, ?_, dmc_dmcCleared s c, rfl, fun _ => bit_setFld_self _ _ 1 ?_ rfl, fun h => absurd h (by decide), fun off ho => ?_⟩
  · rw [fld_of_rd_eq _ hrd, fld_setFld_self _ _ _ (Fld.fits (by rfl))]
    rfl
  · rw [bit_of_rd_eq _ hrd, bit_setFld_apart _ _ (Fld.fits (by rfl)) (Fld.apart (by rfl)), bit_of_rd_eq _ (rd_dmcCleared s c _), pend_dmcTaken]
  · change 16 + c.val + 1 ≤ 32
    omega
  · simp only [Bool.true_and, Bool.or_eq_false_iff, beq_eq_false_iff_ne] at ho
    obtain ⟨h1, h2, h3⟩ := ho
    exact (rd_setFld_ne _ _ _ h3).trans ((rd_dmcValid _ h2).trans ((rd_setFld_ne _ _ _ h1).trans ((rd_dmcCleared s c off).trans (rd_dmcTaken s c h1))))

theorem initFailed (s : State) (c : Fin 8) :
    InitEnded s (((s.dmcCleared c).setFld (F.DMC_CH_STAT_STATE c) 4).flag (F.DMC_CH_STAT_CHK_FAIL c)) c false := by
  refine ⟨?_, ?_, dmc_dmcCleared s c, rfl, fun h => absurd h (by decide), fun _ => bit_setFld_self _ _ 1 (Fld.fits (by rfl)) rfl, fun off ho => ?_⟩
  · rw [flag_eq, fld_setFld_apart _ _ (Fld.fits (by rfl)) (Fld.apart (by rfl)), fld_setFld_self _ _ _ (Fld.fits (by rfl))]
    rfl
  · rw [flag_eq, bit_setFld_apart _ _ (Fld.fits (by rfl)) (Fld.apart (by rfl)), bit_setFld_apart _ _ (Fld.fits (by rfl)) (Fld.apart (by rfl)), bit_of_rd_eq _ (rd_dmcCleared s c _), pend_dmcTaken]
  · simp only [Bool.false_and, Bool.or_false, beq_eq_false_iff_ne] at ho
    exact (rd_setFld_ne _ _ _ ho).trans ((rd_setFld_ne _ _ _ ho).trans ((rd_dmcCleared s c off).trans (rd_dmcTaken s c ho)))

theorem execDmcInitDone_ended {s : State} {c : Fin 8} (h : s.fld (F.DMC_CH_STAT_STATE c) = 1) (ok : Bool) :
    ∃ v, exec (.dmcInitDone c ok) s = done s v ∧ InitEnded s v c ok := by
  have hx := execDmcInitDone_ends h ok
  dsimp only at hx
  cases ok with
  | true =>
    rw [if_pos rfl] at hx
    exact ⟨_, hx, initPassed s c⟩
  | false =>
    rw [if_neg (by decide)] at hx
    exact ⟨_, hx, initFailed s c⟩

/-- The check lines read 0, no other byte changes, and the channel's queues are empty. -/
theorem InitEnded.cleared {s v : State} {c : Fin 8} {ok : Bool} (h : InitEnded s v c ok) :
    (∀ a ∈ s.checkAddrs c, v.memRead a 64 = zeros 64) ∧
      FrameMem s v (fun x => (s.checkAddrs c).any (fun a => decide (a ≤ x) && decide (x < a + 64))) ∧
      v.dmc[c].wq = [] ∧ v.dmc[c].rows = [] ∧ v.dmc[c].take.all (fun r => decide (2 ≤ r)) = true := by
  obtain ⟨hwq, hrows, htake⟩ := dmc_dmcTaken s c
  refine ⟨fun a ha => ?_, fun x hx => ?_, by rw [h.dmc]; exact hwq, by rw [h.dmc]; exact hrows, by rw [h.dmc]; exact htake⟩
  · rw [State.memRead, h.ddr]
    exact memRead_putZeros 64 ha _
  · rw [h.ddr, State.dmcCleared, memGet_putZeros, if_neg (by simpa using hx)]
    rfl

/-! ### Refresh (R330, R332) -/

section
variable {s : State} {c : Fin 8} {r : Fin 2}

theorem execRefresh_idle (h : s.chanServes c = false ∨ s.selfRefresh = true) : exec (.refresh c r) s = done s s := by
  change execRefresh c r s = _
  unfold execRefresh
  dsimp only
  rw [if_pos (by rcases h with h | h <;> simp [h])]

theorem execRefresh_late (hserve : s.chanServes c = true) (hself : s.selfRefresh = false) (hpanic : s.panic2 = true)
    (hlate : cntGet s.dmc[c].post r < 8) : exec (.refresh c r) s = done s (s.modDmc c (fun d => { d with post := cntInc d.post r })) := by
  change execRefresh c r s = _
  unfold execRefresh
  dsimp only
  rw [if_neg (by simp [hserve, hself]), if_pos (by rw [dmcS_fin, hpanic, Bool.true_and]; exact decide_eq_true hlate)]

/-- The rank's rows close and it has no refresh postponed. -/
def DmcS.refreshed (d : DmcS) (r : Nat) : DmcS :=
  { d with rows := d.rows.filter (fun e => e.1 / 16 != r), post := d.post.filter (fun e => e.1 != r) }

theorem execRefresh_now (hserve : s.chanServes c = true) (hself : s.selfRefresh = false) (hpanic : s.panic2 = false) :
    let u := s.modDmc c (fun d => d.refreshed r)
    exec (.refresh c r) s = done s (if r.val ∈ s.dmc[c].take then
      (if ((u.takeDly c r).dmcS c).take.isEmpty then (u.takeDly c r).setFld (F.DMC_CH_STAT_DLY_PEND c) 0 else u.takeDly c r) else u) := by
  intro u
  change execRefresh c r s = _
  unfold execRefresh
  dsimp only
  rw [if_neg (by simp [hserve, hself]), if_neg (by simp [hpanic]), hpanic, dmcS_fin]
  simp only [List.contains_iff_mem, Bool.false_eq_true, if_false]
  split <;> rfl

/-- What a refresh that comes through leaves. -/
structure Refreshed (s v : State) (c : Fin 8) (r : Nat) : Prop where
  rows  : v.dmc[c].rows = s.dmc[c].rows.filter (fun e => e.1 / 16 != r)
  post  : v.dmc[c].post = s.dmc[c].post.filter (fun e => e.1 != r)
  take  : r ∉ v.dmc[c].take
  frame : Frame { s with dmc := s.dmc.set c v.dmc[c] } v [F.DMC_CH_STAT_DLY_PEND c]

theorem refreshed_plain (h : r.val ∉ s.dmc[c].take) : Refreshed s (s.modDmc c (fun d => d.refreshed r)) c r := by
  have hd := dmc_modDmc_self s c (fun d => d.refreshed r)
  refine ⟨by rw [hd]; rfl, by rw [hd]; rfl, by rw [hd]; exact h, ?_⟩
  rw [hd, modDmc_fin]
  exact Frame.refl _ _

theorem refreshed_delays : Refreshed s ((s.modDmc c (fun d => d.refreshed r)).takeDly c r) c r := by
  have hd : ((s.modDmc c (fun d => d.refreshed r)).takeDly c r).dmc[c] = { s.dmc[c].refreshed r with
      dly := (s.dmc[c].refreshed r).dly.filter (fun e => !dlyOf r e.1) ++ (s.modDmc c (fun d => d.refreshed r)).dlyWindow c r,
      take := (s.dmc[c].refreshed r).take.filter (· != r.val) } := by
    rw [State.takeDly, dmc_modDmc_self, dmc_modDmc_self]
  refine ⟨by rw [hd]; rfl, by rw [hd]; rfl, by rw [hd]; simp, ?_⟩
  have hv : ((s.modDmc c (fun d => d.refreshed r)).takeDly c r) =
      { s with dmc := s.dmc.set c ((s.modDmc c (fun d => d.refreshed r)).takeDly c r).dmc[c] } := by
    rw [hd, State.takeDly, modDmc_modDmc, modDmc_fin]
  rw [← hv]
  exact Frame.refl _ _

theorem Refreshed.pend {v : State} (h : Refreshed s v c r) : Refreshed s (v.setFld (F.DMC_CH_STAT_DLY_PEND c) 0) c r :=
  ⟨h.rows, h.post, h.take, h.frame.setFld 0 (by simp) (Fld.fits (by rfl))⟩

end

/-! ### Scrubbing (R326) -/

/-- Changes of channel `c`'s hidden state and of listed fields. -/
def ChannelFrame (s v : State) (c : Fin 8) (fs : List Fld) : Prop := Frame { s with dmc := s.dmc.set c v.dmc[c] } v fs

theorem ChannelFrame.refl (s : State) (c : Fin 8) (fs : List Fld) : ChannelFrame s s c fs := by
  unfold ChannelFrame
  simp only [Fin.getElem_fin, Vector.set_getElem_self]
  exact Frame.refl s fs

theorem ChannelFrame.setFld {s v : State} {c : Fin 8} {fs : List Fld} (h : ChannelFrame s v c fs) {f : Fld} (x : Nat) (hf : f ∈ fs)
    (hw : f.lo + f.w ≤ 32) : ChannelFrame s (v.setFld f x) c fs := Frame.setFld h x hf hw

theorem ChannelFrame.modDmc {s v : State} {c : Fin 8} {fs : List Fld} (h : ChannelFrame s v c fs) (f : DmcS → DmcS) : ChannelFrame s (v.modDmc c f) c fs := by
  have hdmc : v.dmc = s.dmc.set c v.dmc[c] := congrArg State.dmc h.rest
  have hset : v.dmc.set c (f v.dmc[c]) = s.dmc.set c (f v.dmc[c]) := by
    rw [hdmc]
    simp
  unfold ChannelFrame
  rw [dmc_modDmc_self, modDmc_fin, hset]
  exact Frame.withDmc h _

theorem execPatrolScrub_idle {s : State} {c : Fin 8} (err : Fin 3) (syn : BitVec 8) (h : s.chanServes c = false ∨ s.selfRefresh = true ∨
    s.fld (F.DMC_CH_SCRUB_HOURS c) = 0 ∨ s.panic2 = true) : exec (.patrolScrub c err syn) s = done s s := by
  change execPatrolScrub c err syn s = _
  unfold execPatrolScrub
  dsimp only
  rw [if_pos (by rcases h with h | h | h | h <;> simp [h])]

/-- The line is read, from the write queue or from DRAM, and its place shown. -/
def State.scrubRead (s : State) (c : Fin 8) : State :=
  let ca := 64 * s.dmc[c].scrub
  let t := s.setFld (F.DMC_CH_SCRUB_POS c) ((s.ddrRow c ca).2 % 2 ^ 23 + 2 ^ 23 * (s.ddrRow c ca).1)
  if s.dmc[c].wq.any (fun e => e.1 == ca) then t.incWrap (F.DMC_CH_USE_FWD_CNT c) else t.ddrAccess c ca false

/-- The next line, or the first one of a new pass. -/
def DmcS.scrubbed (d : DmcS) (k lines : Nat) : DmcS :=
  if lines ≤ k + 1 then { d with scrub := 0, ce := [], ue := [], ret := [] } else { d with scrub := k + 1 }

theorem execPatrolScrub_clean {s : State} {c : Fin 8} (syn : BitVec 8) (hserve : s.chanServes c = true) (hself : s.selfRefresh = false)
    (hhours : s.fld (F.DMC_CH_SCRUB_HOURS c) ≠ 0) (hpanic : s.panic2 = false) (hgood : ddrAddr s.nch c (64 * s.dmc[c].scrub) / 64 ∉ s.poison) :
    exec (.patrolScrub c 0 syn) s = done s ((s.scrubRead c).modDmc c (fun d => d.scrubbed s.dmc[c].scrub (s.chanMib c * 2 ^ 14))) := by
  have hecc : ∀ t : State, t.poison = s.poison → ∀ wb o, t.eccRead c (64 * s.dmc[c].scrub) (ddrAddr s.nch c (64 * s.dmc[c].scrub)) 0 syn.toNat wb o = t := by
    intro t ht wb o
    unfold State.eccRead
    rw [if_neg (fun h => h.elim (by decide) (fun hp => hgood (ht ▸ hp))), if_neg (by decide)]
  change execPatrolScrub c 0 syn s = _
  unfold execPatrolScrub
  dsimp only
  rw [if_neg (by simp [hserve, hself, hhours, hpanic]), dmcS_fin, show ((0 : Fin 3) : Nat) = 0 from rfl, hecc]
  · rfl
  · rfl

theorem scrubRead_pos (s : State) (c : Fin 8) : (s.scrubRead c).fld (F.DMC_CH_SCRUB_POS c) =
    ((s.ddrRow c (64 * s.dmc[c].scrub)).2 % 2 ^ 23 + 2 ^ 23 * (s.ddrRow c (64 * s.dmc[c].scrub)).1) % 2 ^ 24 := by
  have hne : R.DMC_CH_SCRUB c ≠ R.DMC_CH_USE c := by simp only [R.DMC_CH_SCRUB, R.DMC_CH_USE]; omega
  unfold State.scrubRead
  dsimp only
  split
  · rw [incWrap_eq, fld_setFld_ne _ _ _ _ hne, fld_setFld_self _ _ _ (Fld.fits (by rfl))]
    rfl
  · rw [State.ddrAccess, modDmc_fld, fld_setFld_self _ _ _ (Fld.fits (by rfl))]
    rfl

theorem scrubRead_frame (s : State) (c : Fin 8) : ChannelFrame s (s.scrubRead c) c [F.DMC_CH_SCRUB_POS c, F.DMC_CH_USE_FWD_CNT c] := by
  unfold State.scrubRead
  dsimp only
  have h := (ChannelFrame.refl s c [F.DMC_CH_SCRUB_POS c, F.DMC_CH_USE_FWD_CNT c]).setFld (f := F.DMC_CH_SCRUB_POS c)
  split
  · exact (h _ (by simp) (Fld.fits (by rfl))).setFld _ (by simp) (Fld.fits (by rfl))
  · exact (h _ (by simp) (Fld.fits (by rfl))).modDmc _

/-! ### O48 -/

/-- Settles O48: each command is refused or idle under its conditions, and otherwise writes its channel's registers and hidden state as the lemmas above say. -/
theorem memoryChannelsStartAndStay : Obligations.MemoryChannelsStartAndStay := by
  unfold Obligations.MemoryChannelsStartAndStay
  refine ⟨?cfgRefused, ?cfg, ?absent, ?initRefused, ?init, ?dly, ?noInit, ?initDone, ?refreshIdle, ?refreshLate, ?refresh, ?down, ?noDown, ?close,
    ?scrubIdle, ?scrub, ?rowCopy, ?rankCopy, ?noRankCopy⟩
  case cfgRefused =>
    intro n8 s h
    exact completes_of_done (execDmcConfigDone_refused h) rfl
  case cfg =>
    intro n8 cfg s0 s hfree hpart n spare
    have hcfg : ∀ c, c < 8 → s.rd (R.DMC_CH_CFG c) = cfg := fun c hc => rd_channelCfg _ cfg s0 c (.inl (List.mem_range.mpr hc))
    have hn : n ≤ 8 := by
      unfold n
      split <;> decide
    have hall : (List.range n).all (fun c => s.rd (R.DMC_CH_CFG c) == s.rd (R.DMC_CH_CFG 0)) = true := by
      rw [List.all_eq_true]
      intro c hc
      rw [hcfg c (by have := List.mem_range.mp hc; omega), hcfg 0 (by decide)]
      exact beq_self_eq_true cfg
    obtain ⟨hdone, hnch, hmib, hvalid, hframe⟩ := dmcConfigured_shows s n8 (n * (s.chanMib 0 - spare))
    exact completes_of_done (execDmcConfigDone_done hfree hpart hall) ⟨(status_bit _ _ _).trans hdone, (status_bit _ _ _).trans hnch,
      (status_fld _ _ _).trans hmib, (status_bit _ _ _).trans hvalid, hframe.withStatus 0⟩
  case absent =>
    intro c val s h
    have h1 : exec (.dmcInit c val) s = done s s := by
      change execDmcInit c val s = _
      rw [execDmcInit, if_neg (by simp [h])]
    have h2 : exec (.dlyApply c val) s = done s s := by
      change execDlyApply c val s = _
      rw [execDlyApply, if_neg (by simp [h])]
    exact ⟨completes_of_done h1 rfl, completes_of_done h2 rfl⟩
  case initRefused =>
    intro c val s hhas h
    exact completes_of_done (execDmcInit_refused val hhas h) rfl
  case init =>
    intro c val s hhas htim hserve hdly
    obtain ⟨hstate, hctl, hframe⟩ := dmcInitialising_shows s c val
    refine completes_of_done (execDmcInit_accepted hhas htim hserve hdly) ⟨(status_fld _ _ _).trans ((fld_of_rd_eq _ (rd_initSeq _ _ _)).trans hstate),
      (status_rd _ _ _).trans ((rd_initSeq _ _ _).trans hctl), fun hscan => ?_, (hframe.initSeq c).withStatus 0⟩
    rw [status_out, initSeq_out _ _ ((scanDrives_dmcInitialising s c val).trans hscan), initOuts_dmcInitialising, out_dmcInitialising]
    simp [State.initOuts, modeRegs]
  case dly =>
    intro c val s hhas hinit
    obtain ⟨hpend, hctl, hdmc, hframe⟩ := dlyAsked_shows s c val
    have htake : ((s.dlyAsked c val).status 0).dmc[c].take = (s.dlyAsked c val).dmc[c].take := by rw [status_dmc]
    refine completes_of_done (execDlyApply_accepted hhas hinit) ⟨(status_bit _ _ _).trans hpend, htake.trans (congrArg DmcS.take hdmc),
      (status_rd _ _ _).trans hctl, ?_⟩
    rw [htake, hdmc] at *
    exact hframe.withStatus 0
  case noInit =>
    intro c ok s h
    have hx : exec (.dmcInitDone c ok) s = done s s := by
      change execDmcInitDone c ok s = _
      unfold execDmcInitDone
      rw [if_pos h]
    exact completes_of_done hx rfl
  case initDone =>
    intro c ok s h check
    obtain ⟨v, hx, hv⟩ := execDmcInitDone_ended h ok
    obtain ⟨hread, hmem, hwq, hrows, htake⟩ := hv.cleared
    have hcheck : check = s.checkAddrs c := by
      rw [State.checkAddrs, checkLines, List.map_flatMap]
      simp only [List.map_map]
      rfl
    rw [hcheck]
    exact completes_of_done hx ⟨hv.state, hv.pend, hv.ready, hv.fail, hread, hmem, hwq, hrows, htake, hv.regs⟩
  case refreshIdle =>
    intro c r s h
    exact completes_of_done (execRefresh_idle h) rfl
  case refreshLate =>
    intro c r s hserve hself hpanic hlate
    have hd := dmc_modDmc_self s c (fun d => { d with post := cntInc d.post r })
    refine completes_of_done (execRefresh_late hserve hself hpanic hlate) ⟨?_, ?_⟩
    · rw [hd]
      exact cntGet_cntInc _ _
    · rw [hd]
      exact modDmc_fin s c _
  case refresh =>
    intro c r s hserve hself hpanic
    have hx := execRefresh_now (r := r) hserve hself hpanic
    suffices h : Refreshed s _ c r by
      refine completes_of_done hx ⟨fun e he => ?_, ?_, h.take, h.frame⟩
      · rw [h.rows] at he
        simpa using (List.mem_filter.mp he).2
      · rw [h.post]
        exact cntGet_filter_ne _ _
    split
    · split
      · exact refreshed_delays.pend
      · exact refreshed_delays
    · rename_i hno
      exact refreshed_plain hno
  case down =>
    intro c r s hserve hself htimer
    have hx : exec (.powerDownEntry c r) s = done s (s.modDmc c (fun d => { d with rows := d.rows.filter (fun e => e.1 / 16 != r.val),
                                                                                   down := r.val :: d.down.filter (· != r.val) })) := by
      change execPowerDownEntry c r s = _
      unfold execPowerDownEntry
      dsimp only
      rw [if_neg (by simp [hserve, hself, htimer])]
    refine completes_of_done hx ⟨?_, ?_⟩
    · rw [dmc_modDmc_self]
      exact List.mem_cons_self
    · rw [dmc_modDmc_self]
      exact modDmc_fin s c _
  case noDown =>
    intro c r s h
    have hx : exec (.powerDownEntry c r) s = done s s := by
      change execPowerDownEntry c r s = _
      unfold execPowerDownEntry
      dsimp only
      rw [if_pos (by rcases h with h | h | h <;> simp [h])]
    exact completes_of_done hx rfl
  case close =>
    intro c b s
    exact completes_of_done rfl (modDmc_fin s c _)
  case scrubIdle =>
    intro c err syn s h
    exact completes_of_done (execPatrolScrub_idle err syn h) rfl
  case scrub =>
    intro c syn s hserve hself hhours hpanic ca hgood
    refine completes_of_done (execPatrolScrub_clean syn hserve hself hhours hpanic hgood) ⟨?_, scrubRead_pos s c, (scrubRead_frame s c).modDmc _⟩
    rw [dmc_modDmc_self, DmcS.scrubbed]
    split <;> rfl
  case rowCopy =>
    intro c row rest s0 s
    have hcopies : (s.dmcS c).copies = row :: rest := by
      rw [dmcS_fin, dmc_modDmc_self]
    have hx : exec (.rowCopyDone c) s =
        done s (if s.panic2 || s.selfRefresh then s else s.modDmc c (fun d => { d with copies := rest, remap := d.remap ++ [row] })) := by
      change execRowCopyDone c s = _
      unfold execRowCopyDone
      rw [hcopies]
      dsimp only
      split <;> rfl
    exact completes_of_done hx rfl
  case rankCopy =>
    intro c s hst hpanic hself
    have hx : exec (.rankCopyDone c) s = done s ((((s.setFld (F.DMC_CH_STAT_STATE c) 2).flag (F.DMC_CH_STAT_RANK_RET c)).modDmc c
        (fun d => { d with rows := [], rank1 := true })).ddrFault c 5 0) := by
      change execRankCopyDone c s = _
      unfold execRankCopyDone
      dsimp only
      rw [if_neg (by simp [hst, hpanic, hself])]
    refine completes_of_done hx ⟨_, rfl, ?_, ?_, ?_⟩
    · rw [modDmc_fld, flag_eq, fld_setFld_apart _ _ (Fld.fits (by rfl)) (Fld.apart (by rfl)), fld_setFld_self _ _ _ (Fld.fits (by rfl))]
      rfl
    · rw [modDmc_bit, flag_eq]
      exact bit_setFld_self _ _ 1 (Fld.fits (by rfl)) rfl
    · rw [modDmc_fin]
      exact (((Frame.refl s _).setFld 2 (by simp) (Fld.fits (by rfl))).flag (by simp) (Fld.fits (by rfl))).withDmc _
  case noRankCopy =>
    intro c s h
    have hx : exec (.rankCopyDone c) s = done s s := by
      change execRankCopyDone c s = _
      unfold execRankCopyDone
      dsimp only
      rw [if_pos h]
    exact completes_of_done hx rfl

end Sys2Proof.Machine
end
section
/-!
PROOFS. Boot (R470 to R472): what the check says of a copy with a good header, of one that is too short, and how the script's entries run.
-/
namespace Sys2Proof.Machine

/-! ### CRC-32C is a 32-bit value -/

theorem crcStep_lt {poly c : Nat} (hp : poly < 2 ^ 32) (hc : c < 2 ^ 32) : crcStep poly c < 2 ^ 32 := by
  unfold crcStep
  split
  · exact Nat.xor_lt_two_pow (by omega) hp
  · omega

theorem crcByte_lt {poly c : Nat} (hp : poly < 2 ^ 32) (hc : c < 2 ^ 32) : crcByte poly c < 2 ^ 32 := by
  have hstep : ∀ x, x < 2 ^ 32 → crcStep poly x < 2 ^ 32 := fun _ => crcStep_lt hp
  unfold crcByte
  iterate 8 apply hstep
  exact hc

theorem crcBytes_cons (poly : Nat) (b : Byte) (bs : List Byte) (c : Nat) :
    crcBytes poly (b :: bs) c = crcBytes poly bs (crcByte poly (Nat.xor c b.toNat)) := by
  have hmatch : ∀ x, (match x with | 0 => crcBytes poly bs 0 | n + 1 => crcBytes poly bs (n + 1)) = crcBytes poly bs x := by
    intro x
    cases x with
    | zero => rfl
    | succ n => rfl
  exact hmatch (crcByte poly (Nat.xor c b.toNat))

theorem crcBytes_lt {poly : Nat} (hp : poly < 2 ^ 32) (bs : List Byte) {c : Nat} (hc : c < 2 ^ 32) : crcBytes poly bs c < 2 ^ 32 := by
  induction bs generalizing c with
  | nil => exact hc
  | cons b bs ih =>
    have hb : b.toNat < 2 ^ 32 := by have := b.isLt; omega
    rw [crcBytes_cons]
    exact ih (crcByte_lt hp (Nat.xor_lt_two_pow hc hb))

theorem crc32c_lt (bs : List Byte) : crc32c bs < 256 ^ 4 :=
  Nat.xor_lt_two_pow (n := 32) (crcBytes_lt (by decide) bs (by decide)) (by decide)

theorem leVal_leBytes_of_lt {k x : Nat} (h : x < 256 ^ k) : leVal (leBytes k x) = x := by
  rw [leVal_leBytes, Nat.mod_eq_of_lt h]

/-! ### A copy of the image (R471) -/

/-- The header of a copy without its CRC, as the statement writes it. -/
def bootHeader (var ssv ss n : Nat) : List Byte :=
  leBytes 4 0x4D57424F ++ leBytes 2 1 ++ leBytes 2 var ++ leBytes 2 ssv ++ leBytes 2 ss ++ leBytes 4 n ++ zeros 12

section Copy
variable (var ssv ss n c : Nat) (t : List Byte)

theorem bootHeader_take : (bootHeader var ssv ss n ++ leBytes 4 c ++ t).take 28 = bootHeader var ssv ss n := rfl

theorem bootHeader_magic : leVal ((bootHeader var ssv ss n ++ leBytes 4 c ++ t).take 4) = 0x4D57424F :=
  leVal_leBytes_of_lt (k := 4) (by decide)

theorem bootHeader_crc : slice (bootHeader var ssv ss n ++ leBytes 4 c ++ t) 28 4 = leBytes 4 c := rfl

theorem bootHeader_var : slice (bootHeader var ssv ss n ++ leBytes 4 c ++ t) 6 2 = leBytes 2 var := rfl

theorem bootHeader_ssvid : slice (bootHeader var ssv ss n ++ leBytes 4 c ++ t) 8 2 = leBytes 2 ssv := rfl

theorem bootHeader_ssid : slice (bootHeader var ssv ss n ++ leBytes 4 c ++ t) 10 2 = leBytes 2 ss := rfl

theorem bootHeader_nent : slice (bootHeader var ssv ss n ++ leBytes 4 c ++ t) 12 4 = leBytes 4 n := rfl

theorem bootHeader_drop : (bootHeader var ssv ss n ++ leBytes 4 c ++ t).drop 32 = t := rfl

theorem bootHeader_length : (bootHeader var ssv ss n ++ leBytes 4 c ++ t).length = 32 + t.length := by
  simp [bootHeader, length_leBytes, zeros]
  omega

theorem slice_behindHeader (i k : Nat) : slice (bootHeader var ssv ss n ++ leBytes 4 c ++ t) (32 + i) k = slice t i k := by
  rw [slice, ← List.drop_drop, bootHeader_drop, slice]

end Copy

/-- A copy with its header, its entries, their CRC and what follows is accepted where the variant fits. -/
theorem bootCheck_image {part var ssv ss n : Nat} (ent tl : List Byte) (hn : n ≤ 16384) (he : ent.length = 8 * n)
    (hvar : var < 256 ^ 2) (hss : ss < 256 ^ 2) (hssv : ssv < 256 ^ 2) :
    bootCheck part (bootHeader var ssv ss n ++ leBytes 4 (crc32c (bootHeader var ssv ss n)) ++
        (ent ++ (leBytes 4 (if n = 0 then 0 else crc32c ent) ++ tl))) =
      if var != 0 && var != part then (3, none) else (0, some ⟨ssv, ss, bootEntries ent n⟩) := by
  have hent : slice (ent ++ (leBytes 4 (if n = 0 then 0 else crc32c ent) ++ tl)) 0 (8 * n) = ent := by
    rw [slice, List.drop_zero, List.take_append_of_le_length (by omega), ← he, List.take_length]
  have hecrc : slice (ent ++ (leBytes 4 (if n = 0 then 0 else crc32c ent) ++ tl)) (8 * n) 4 = leBytes 4 (if n = 0 then 0 else crc32c ent) := by
    rw [slice, ← he, List.drop_left, List.take_append_of_le_length (by simp [length_leBytes]), List.take_of_length_le (by simp [length_leBytes])]
  have hcrc : (if n = 0 then 0 else crc32c ent) < 256 ^ 4 := by
    split
    · decide
    · exact crc32c_lt ent
  have hn4 : n < 256 ^ 4 := lt_of_le_of_lt hn (by decide)
  unfold bootCheck
  simp only [bootHeader_take, bootHeader_magic, bootHeader_crc, bootHeader_var, bootHeader_ssvid, bootHeader_ssid, bootHeader_nent,
    bootHeader_length, leVal_leBytes_of_lt hn4, leVal_leBytes_of_lt hvar, leVal_leBytes_of_lt hss, leVal_leBytes_of_lt hssv,
    leVal_leBytes_of_lt (crc32c_lt _)]
  rw [slice_behindHeader, hecrc, leVal_leBytes_of_lt hcrc]
  rw [show slice _ 32 (8 * n) = ent from (slice_behindHeader _ _ _ _ _ _ 0 _).trans hent]
  rw [if_neg (by simp), if_neg]
  simp [length_leBytes, he]
  omega

/-- Fewer than 32 bytes hold no header. -/
theorem bootCheck_short (part : Nat) (bs : List Byte) (h : bs.length < 32) : bootCheck part bs = (1, none) := by
  unfold bootCheck
  dsimp only
  rw [if_pos (by simp [h])]


/-! ### What boot keeps -/

/-- Between `s` and `v` only the listed fields, what boot holds and the outputs change. -/
def BootFrame (s v : State) (fs : List Fld) : Prop := Frame { s with boot := v.boot, out := v.out } v fs

section Frames
variable {s v : State} {fs : List Fld}

theorem BootFrame.refl (s : State) (fs : List Fld) : BootFrame s s fs := Frame.refl s fs

theorem BootFrame.setFld (h : BootFrame s v fs) {f : Fld} (x : Nat) (hf : f ∈ fs) (hw : f.lo + f.w ≤ 32) : BootFrame s (v.setFld f x) fs :=
  Frame.setFld h x hf hw

theorem BootFrame.withBoot (h : BootFrame s v fs) (b : BootS) : BootFrame s { v with boot := b } fs :=
  Frame.of_eq h rfl rfl rfl rfl rfl rfl (congrArg (fun (r : State) => { r with boot := b }) h.rest)

theorem BootFrame.withOut (h : BootFrame s v fs) (o : List Out) : BootFrame s { v with out := o } fs :=
  Frame.of_eq h rfl rfl rfl rfl rfl rfl (congrArg (fun (r : State) => { r with out := o }) h.rest)

/-- Where nothing was sent, the outputs are those of before. -/
theorem BootFrame.silent (h : BootFrame s v fs) (ho : v.out = s.out) : Frame { s with boot := v.boot } v fs := by
  have hf : Frame { s with boot := v.boot, out := v.out } v fs := h
  rw [ho] at hf
  exact hf

theorem bit_withBoot (s : State) (b : BootS) (f : Fld) : ({ s with boot := b } : State).bit f = s.bit f := rfl

theorem fld_withBoot (s : State) (b : BootS) (f : Fld) : ({ s with boot := b } : State).fld f = s.fld f := rfl

end Frames

/-! ### The end of the script (R472) -/

/-- What boot holds once the script has ended. -/
def BootS.ended (b : BootS) : BootS := { b with image := true, script := [], idx := 0, wait := .run, training := true }

theorem bootEnd_eq (s : State) (e : Nat) :
    s.bootEnd e = { (s.setFld F.TOP_BOOT_DONE 1).setFld F.TOP_BOOT_ENTRY e with boot := s.boot.ended } := rfl

theorem bootEnd_boot (s : State) (e : Nat) : (s.bootEnd e).boot = s.boot.ended := rfl

theorem bootEnd_out (s : State) (e : Nat) : (s.bootEnd e).out = s.out := rfl

theorem bootEnd_done (s : State) (e : Nat) : (s.bootEnd e).bit F.TOP_BOOT_DONE = true := by
  rw [bootEnd_eq, bit_withBoot, bit_setFld_apart _ _ (by decide) (.inr (by decide)), bit_setFld_self _ _ _ (by decide) rfl]
  rfl

theorem bootEnd_entry (s : State) (e : Nat) : (s.bootEnd e).fld F.TOP_BOOT_ENTRY = e % 2 ^ 14 := by
  rw [bootEnd_eq, fld_withBoot, fld_setFld_self _ _ _ (by decide)]
  rfl

theorem bootEnd_fld (s : State) (e : Nat) {f : Fld} (h1 : F.TOP_BOOT_DONE.Apart f) (h2 : F.TOP_BOOT_ENTRY.Apart f) :
    (s.bootEnd e).fld f = s.fld f := by
  rw [bootEnd_eq, fld_withBoot, fld_setFld_apart _ _ (by decide) h2, fld_setFld_apart _ _ (by decide) h1]

theorem bootEnd_bit (s : State) (e : Nat) {f : Fld} (h1 : F.TOP_BOOT_DONE.Apart f) (h2 : F.TOP_BOOT_ENTRY.Apart f) :
    (s.bootEnd e).bit f = s.bit f := by
  rw [State.bit, bootEnd_fld s e h1 h2, State.bit]

theorem BootFrame.bootEnd {s v : State} {fs : List Fld} (h : BootFrame s v fs) (e : Nat) (hd : F.TOP_BOOT_DONE ∈ fs) (he : F.TOP_BOOT_ENTRY ∈ fs) :
    BootFrame s (v.bootEnd e) fs :=
  ((h.setFld 1 hd (by decide)).setFld e he (by decide)).withBoot _

/-! ### What BOOT_IMAGE_READ reads and takes (R470, R472) -/

/-- A read of the flash, as the straps select it. -/
def State.flashRead (s : State) (a n : Nat) : Out :=
  .qspi (if s.board.boot = 0 then 0x03 else 0x6B) a (if s.board.boot = 0 then 0 else 8) (if s.board.boot = 0 then 25 else 50 * s.board.boot) n

/-- The reads of one copy: its header and, behind a good one, its entries with their CRC. -/
def State.copyReads (s : State) (base : Nat) (bs : List Byte) : List Out :=
  s.flashRead base 32 :: if (bootCheck 0 bs).1 = 1 then [] else [s.flashRead (base + 32) (8 * leVal (slice bs 12 4) + 4)]

/-- Outputs on balls the scan chain may hold. -/
def State.scannedOut (s : State) (l : List Out) : State := { s with out := s.out ++ if s.scanDrives then [] else l }

theorem scannedOut_scannedOut (s : State) (l m : List Out) : (s.scannedOut l).scannedOut m = s.scannedOut (l ++ m) := by
  have hs : (s.scannedOut l).scanDrives = s.scanDrives := rfl
  unfold State.scannedOut at hs ⊢
  rw [hs]
  cases s.scanDrives <;> simp

theorem emit_qspi (s : State) (c a d m n : Nat) : s.emit (.qspi c a d m n) = s.scannedOut [.qspi c a d m n] := by
  rw [emit_eq, State.scannedOut]
  cases s.scanDrives <;> rfl

theorem bootReads_eq (s : State) (base : Nat) (bs : List Byte) : s.bootReads base bs = s.scannedOut (s.copyReads base bs) := by
  unfold State.bootReads State.copyReads State.flashRead
  dsimp only
  rw [emit_qspi]
  simp only [ne_eq, ite_not, emit_qspi, scannedOut_scannedOut]
  split <;> rfl

theorem copyReads_scannedOut (s : State) (l : List Out) (base : Nat) (bs : List Byte) : (s.scannedOut l).copyReads base bs = s.copyReads base bs := rfl

/-- An accepted image: the subsystem IDs, and TOP_READY.BOOT. -/
def State.bootTake (s : State) (m : BootImg) : State :=
  { s with boot := { s.boot with image := true, ssvid := m.ssvid, ssid := m.ssid } }.setFld ⟨R.TOP_READY, 0, 1⟩ 1

theorem exec_bootImageRead_done {a b : List Byte} {s : State} (h : s.boot.image = true) : exec (.bootImageRead a b) s = done s s := by
  change execBootImageRead a b s = _
  rw [execBootImageRead, if_pos h]

/-- The first copy is accepted. -/
theorem exec_bootImageRead_first {a b : List Byte} {s : State} {m : BootImg} (h : s.boot.image = false)
    (ha : bootCheck (partNo s.board.variant) a = (0, some m)) :
    exec (.bootImageRead a b) s = done s (bootRun (((s.scannedOut (s.copyReads 0 a)).setFld F.TOP_BOOT_FAIL_A 0).bootTake m) 0 m.ents) := by
  change execBootImageRead a b s = _
  unfold execBootImageRead
  rw [if_neg (by simp [h])]
  dsimp only
  simp only [ha, Option.isSome_some, if_true, bootReads_eq]
  rfl

/-- The first copy fails and the second one is accepted. -/
theorem exec_bootImageRead_second {a b : List Byte} {s : State} {m : BootImg} {k : Nat} (h : s.boot.image = false)
    (ha : bootCheck (partNo s.board.variant) a = (k, none)) (hb : bootCheck (partNo s.board.variant) b = (0, some m)) :
    exec (.bootImageRead a b) s =
      done s (bootRun ((((s.scannedOut (s.copyReads 0 a ++ s.copyReads 0x100000 b)).setFld F.TOP_BOOT_FAIL_A k).setFld F.TOP_BOOT_COPY 1).bootTake m) 0 m.ents) := by
  change execBootImageRead a b s = _
  unfold execBootImageRead
  rw [if_neg (by simp [h])]
  dsimp only
  simp only [ha, hb, Option.isSome_none, Bool.false_eq_true, if_false, bootReads_eq, copyReads_scannedOut, scannedOut_scannedOut]
  rfl

/-- Neither copy is accepted. -/
theorem exec_bootImageRead_neither {a b : List Byte} {s : State} {k l : Nat} (h : s.boot.image = false)
    (ha : bootCheck (partNo s.board.variant) a = (k, none)) (hb : bootCheck (partNo s.board.variant) b = (l, none)) :
    exec (.bootImageRead a b) s =
      done s ((((s.scannedOut (s.copyReads 0 a ++ s.copyReads 0x100000 b)).setFld F.TOP_BOOT_FAIL_A k).setFld F.TOP_BOOT_FAIL_B l).bootEnd 0) := by
  change execBootImageRead a b s = _
  unfold execBootImageRead
  rw [if_neg (by simp [h])]
  dsimp only
  simp only [ha, hb, Option.isSome_none, Bool.false_eq_true, if_false, bootReads_eq, copyReads_scannedOut, scannedOut_scannedOut]
  rfl

/-! ### Entries -/

theorem bootRun_nil (s : State) (i : Nat) : bootRun s i [] = s.bootEnd 0 := by rw [bootRun]

theorem bootRun_wait (s : State) (i a w : Nat) (rest : List (Nat × Nat)) (h : a / 2 ^ 30 % 4 = 1) :
    bootRun s i ((a, w) :: rest) = { s with boot := { s.boot with script := rest, idx := i + 1, wait := .wait } } := by
  rw [bootRun]
  dsimp only
  rw [if_neg (by omega), if_pos h]

theorem bootRun_unaligned (s : State) (i a w : Nat) (rest : List (Nat × Nat)) (h : a / 2 ^ 30 % 4 = 0) (ho : a % 2 ^ 26 % 4 ≠ 0) :
    bootRun s i ((a, w) :: rest) = s.bootRefused i 0x05 := by
  rw [bootRun]
  dsimp only
  rw [if_pos h, if_pos ho]

theorem bootEntries_one (a w : Nat) (ha : a < 256 ^ 4) (hw : w < 256 ^ 4) : bootEntries (leBytes 4 a ++ leBytes 4 w) 1 = [(a, w)] := by
  have h1 : (leBytes 4 a ++ leBytes 4 w).take 4 = leBytes 4 a := rfl
  have h2 : slice (leBytes 4 a ++ leBytes 4 w) 4 4 = leBytes 4 w := rfl
  rw [bootEntries, h1, h2, leVal_leBytes_of_lt ha, leVal_leBytes_of_lt hw, bootEntries]

theorem bootRefused_eq (s : State) (e st : Nat) :
    s.bootRefused e st = ((s.setFld F.TOP_BOOT_REFUSED 1).setFld F.TOP_BOOT_STATUS st).bootEnd e := rfl

/-! ### An image without entries -/

/-- The variant an image names: any, or the one at hand. -/
def bootVar (anyVar : Bool) (v : Variant) : Nat := if anyVar then 0 else if v = .w1296 then 0x1296 else 0x0648

theorem bootVar_fits (anyVar : Bool) (v : Variant) : (bootVar anyVar v != 0 && bootVar anyVar v != partNo v) = false := by
  cases anyVar <;> cases v <;> rfl

theorem bootVar_lt (anyVar : Bool) (v : Variant) : bootVar anyVar v < 256 ^ 2 := by
  cases anyVar <;> cases v <;> decide

/-- A copy with the given header, CRCs and entries, and what follows it. -/
def bootImage (var ssv ss n : Nat) (ent tl : List Byte) : List Byte :=
  bootHeader var ssv ss n ++ leBytes 4 (crc32c (bootHeader var ssv ss n)) ++ (ent ++ (leBytes 4 (if n = 0 then 0 else crc32c ent) ++ tl))

/-- An image without entries, as the statement writes it. -/
theorem bootImage_nil (var ssv ss : Nat) (tl : List Byte) :
    bootHeader var ssv ss 0 ++ leBytes 4 (crc32c (bootHeader var ssv ss 0)) ++ leBytes 4 0 ++ tl = bootImage var ssv ss 0 [] tl := by
  rw [bootImage, if_pos rfl, List.nil_append, List.append_assoc]

/-- An image with one entry, as the statement writes it. -/
theorem bootImage_one (var ssv ss : Nat) (ent : List Byte) :
    bootHeader var ssv ss 1 ++ leBytes 4 (crc32c (bootHeader var ssv ss 1)) ++ ent ++ leBytes 4 (crc32c ent) = bootImage var ssv ss 1 ent [] := by
  rw [bootImage, if_neg (by decide), List.append_nil, List.append_assoc]

theorem copyReads_short (s : State) (base : Nat) (bs : List Byte) (h : bs.length < 32) : s.copyReads base bs = [s.flashRead base 32] := by
  rw [State.copyReads, bootCheck_short 0 bs h, if_pos rfl]

theorem copyReads_image (s : State) (base : Nat) {var ssv ss n : Nat} (ent tl : List Byte) (hn : n ≤ 16384) (he : ent.length = 8 * n)
    (hvar : var < 256 ^ 2) (hss : ss < 256 ^ 2) (hssv : ssv < 256 ^ 2) :
    s.copyReads base (bootImage var ssv ss n ent tl) = [s.flashRead base 32, s.flashRead (base + 32) (8 * n + 4)] := by
  have hc : (bootCheck 0 (bootImage var ssv ss n ent tl)).1 ≠ 1 := by
    rw [bootImage, bootCheck_image ent tl hn he hvar hss hssv]
    split <;> simp
  have hnent : leVal (slice (bootImage var ssv ss n ent tl) 12 4) = n := by
    rw [bootImage, bootHeader_nent, leVal_leBytes_of_lt (lt_of_le_of_lt hn (by decide))]
  rw [State.copyReads, if_neg hc, hnent]

/-- The device after an accepted copy without entries: `u` holds what was noted of the copies. -/
theorem bootTake_end {s u : State} {m : BootImg} {fs : List Fld} (h : BootFrame s u fs) (hr : (⟨R.TOP_READY, 0, 1⟩ : Fld) ∈ fs)
    (hd : F.TOP_BOOT_DONE ∈ fs) (he : F.TOP_BOOT_ENTRY ∈ fs) : BootFrame s ((u.bootTake m).bootEnd 0) fs :=
  BootFrame.bootEnd ((h.withBoot _).setFld 1 hr (by decide)) 0 hd he

theorem bootTake_ready (u : State) (m : BootImg) : (u.bootTake m).bit ⟨R.TOP_READY, 0, 1⟩ = true := by
  rw [State.bootTake, bit_setFld_self _ _ _ (by decide) rfl]
  rfl

theorem bootTake_fld (u : State) (m : BootImg) {f : Fld} (h : f.off ≠ R.TOP_READY) : (u.bootTake m).fld f = u.fld f := by
  rw [State.bootTake, fld_setFld_ne _ _ _ _ h, fld_withBoot]

theorem bootTake_bit (u : State) (m : BootImg) {f : Fld} (h : f.off ≠ R.TOP_READY) : (u.bootTake m).bit f = u.bit f := by
  rw [State.bit, bootTake_fld u m h, State.bit]

theorem bootTake_boot (u : State) (m : BootImg) : (u.bootTake m).boot = { u.boot with image := true, ssvid := m.ssvid, ssid := m.ssid } := rfl

theorem bootTake_out (u : State) (m : BootImg) : (u.bootTake m).out = u.out := rfl


/-! ### The outcomes of BOOT_IMAGE_READ -/

section Read
variable (s : State) (ssv ss : BitVec 16)

/-- The first copy is good and has no entries (R470, R472). -/
theorem bootImageRead_first (anyVar : Bool) (tl b : List Byte) (h : s.boot.image = false) :
    Completes (.bootImageRead (bootHeader (bootVar anyVar s.board.variant) ssv.toNat ss.toNat 0 ++
        leBytes 4 (crc32c (bootHeader (bootVar anyVar s.board.variant) ssv.toNat ss.toNat 0)) ++ leBytes 4 0 ++ tl) b) s (fun v =>
      v.boot = { s.boot with image := true, ssvid := ssv.toNat, ssid := ss.toNat, script := [], idx := 0, wait := .run, training := true } ∧
      v.bit ⟨R.TOP_READY, 0, 1⟩ = true ∧ v.bit F.TOP_BOOT_DONE = true ∧ v.fld F.TOP_BOOT_ENTRY = 0 ∧ v.fld F.TOP_BOOT_FAIL_A = 0 ∧
      v.out = s.out ++ (if s.scanDrives then [] else [s.flashRead 0 32, s.flashRead 32 4]) ∧
      BootFrame s v [⟨R.TOP_READY, 0, 1⟩, F.TOP_BOOT_DONE, F.TOP_BOOT_ENTRY, F.TOP_BOOT_FAIL_A]) := by
  rw [bootImage_nil]
  have hcheck : bootCheck (partNo s.board.variant) (bootImage (bootVar anyVar s.board.variant) ssv.toNat ss.toNat 0 [] tl) =
      (0, some ⟨ssv.toNat, ss.toNat, []⟩) := by
    rw [bootImage, bootCheck_image [] tl (by decide) rfl (bootVar_lt _ _) ss.isLt ssv.isLt, if_neg (by simp [bootVar_fits])]
    rfl
  have hx := exec_bootImageRead_first (b := b) h hcheck
  rw [bootRun_nil, copyReads_image s 0 [] tl (by decide) rfl (bootVar_lt _ _) ss.isLt ssv.isLt] at hx
  refine completes_of_done hx ⟨rfl, ?ready, bootEnd_done _ _, bootEnd_entry _ _, ?failA, rfl, ?frame⟩
  case ready => rw [bootEnd_bit _ _ (.inl (by decide)) (.inl (by decide)), bootTake_ready]
  case failA =>
    rw [bootEnd_fld _ _ (.inr (by decide)) (.inr (by decide)), bootTake_fld _ _ (by decide), fld_setFld_self _ _ _ (by decide)]
    rfl
  case frame =>
    exact bootTake_end (((BootFrame.refl s _).withOut _).setFld 0 (by simp) (by decide)) (by simp) (by simp) (by simp)

/-- The first copy is too short, the second one is good and has no entries. -/
theorem bootImageRead_second (anyVar : Bool) (short tl : List Byte) (hs : short.length < 32) (h : s.boot.image = false) :
    Completes (.bootImageRead short (bootHeader (bootVar anyVar s.board.variant) ssv.toNat ss.toNat 0 ++
        leBytes 4 (crc32c (bootHeader (bootVar anyVar s.board.variant) ssv.toNat ss.toNat 0)) ++ leBytes 4 0 ++ tl)) s (fun v =>
      v.boot = { s.boot with image := true, ssvid := ssv.toNat, ssid := ss.toNat, script := [], idx := 0, wait := .run, training := true } ∧
      v.bit ⟨R.TOP_READY, 0, 1⟩ = true ∧ v.bit F.TOP_BOOT_DONE = true ∧ v.fld F.TOP_BOOT_ENTRY = 0 ∧ v.fld F.TOP_BOOT_FAIL_A = 1 ∧
      v.bit F.TOP_BOOT_COPY = true ∧
      v.out = s.out ++ (if s.scanDrives then [] else [s.flashRead 0 32, s.flashRead 0x100000 32, s.flashRead 0x100020 4]) ∧
      BootFrame s v [⟨R.TOP_READY, 0, 1⟩, F.TOP_BOOT_DONE, F.TOP_BOOT_ENTRY, F.TOP_BOOT_FAIL_A, F.TOP_BOOT_COPY]) := by
  rw [bootImage_nil]
  have hcheck : bootCheck (partNo s.board.variant) (bootImage (bootVar anyVar s.board.variant) ssv.toNat ss.toNat 0 [] tl) =
      (0, some ⟨ssv.toNat, ss.toNat, []⟩) := by
    rw [bootImage, bootCheck_image [] tl (by decide) rfl (bootVar_lt _ _) ss.isLt ssv.isLt, if_neg (by simp [bootVar_fits])]
    rfl
  have hx := exec_bootImageRead_second h (bootCheck_short _ _ hs) hcheck
  rw [bootRun_nil, copyReads_short s 0 short hs, copyReads_image s 0x100000 [] tl (by decide) rfl (bootVar_lt _ _) ss.isLt ssv.isLt] at hx
  refine completes_of_done hx ⟨rfl, ?ready, bootEnd_done _ _, bootEnd_entry _ _, ?failA, ?copy, rfl, ?frame⟩
  case ready => rw [bootEnd_bit _ _ (.inl (by decide)) (.inl (by decide)), bootTake_ready]
  case failA =>
    rw [bootEnd_fld _ _ (.inr (by decide)) (.inr (by decide)), bootTake_fld _ _ (by decide),
      fld_setFld_apart _ _ (by decide) (.inr (by decide)), fld_setFld_self _ _ _ (by decide)]
    rfl
  case copy =>
    rw [bootEnd_bit _ _ (.inr (by decide)) (.inr (by decide)), bootTake_bit _ _ (by decide), bit_setFld_self _ _ _ (by decide) rfl]
    rfl
  case frame =>
    exact bootTake_end ((((BootFrame.refl s _).withOut _).setFld 1 (by simp) (by decide)).setFld 1 (by simp) (by decide)) (by simp) (by simp) (by simp)

/-- Both copies are too short. -/
theorem bootImageRead_neither (a b : List Byte) (ha : a.length < 32) (hb : b.length < 32) (h : s.boot.image = false) :
    Completes (.bootImageRead a b) s (fun v =>
      v.boot = { s.boot with image := true, script := [], idx := 0, wait := .run, training := true } ∧
      v.bit F.TOP_BOOT_DONE = true ∧ v.fld F.TOP_BOOT_ENTRY = 0 ∧ v.fld F.TOP_BOOT_FAIL_A = 1 ∧ v.fld F.TOP_BOOT_FAIL_B = 1 ∧
      v.out = s.out ++ (if s.scanDrives then [] else [s.flashRead 0 32, s.flashRead 0x100000 32]) ∧
      BootFrame s v [F.TOP_BOOT_DONE, F.TOP_BOOT_ENTRY, F.TOP_BOOT_FAIL_A, F.TOP_BOOT_FAIL_B]) := by
  have hx := exec_bootImageRead_neither h (bootCheck_short _ _ ha) (bootCheck_short _ _ hb)
  rw [copyReads_short s 0 a ha, copyReads_short s 0x100000 b hb] at hx
  refine completes_of_done hx ⟨rfl, bootEnd_done _ _, bootEnd_entry _ _, ?failA, ?failB, rfl, ?frame⟩
  case failA =>
    rw [bootEnd_fld _ _ (.inr (by decide)) (.inr (by decide)), fld_setFld_apart _ _ (by decide) (.inr (by decide)),
      fld_setFld_self _ _ _ (by decide)]
    rfl
  case failB =>
    rw [bootEnd_fld _ _ (.inr (by decide)) (.inr (by decide)), fld_setFld_self _ _ _ (by decide)]
    rfl
  case frame =>
    exact ((((BootFrame.refl s _).withOut _).setFld 1 (by simp) (by decide)).setFld 1 (by simp) (by decide)).bootEnd 0 (by simp) (by simp)

/-- A copy with the one entry `(a, w)` is accepted. -/
theorem bootCheck_oneEntry (part a w : Nat) (ha : a < 256 ^ 4) (hw : w < 256 ^ 4) :
    bootCheck part (bootImage 0 ssv.toNat ss.toNat 1 (leBytes 4 a ++ leBytes 4 w) []) = (0, some ⟨ssv.toNat, ss.toNat, [(a, w)]⟩) := by
  rw [bootImage, bootCheck_image _ [] (by decide) rfl (by decide) ss.isLt ssv.isLt, if_neg (by simp), bootEntries_one a w ha hw]

/-- A copy whose one entry is a wait stops there. -/
theorem bootImageRead_wait (a w : Nat) (b : List Byte) (ha : a < 256 ^ 4) (hw : w < 256 ^ 4) (hop : a / 2 ^ 30 % 4 = 1) (h : s.boot.image = false) :
    Completes (.bootImageRead (bootHeader 0 ssv.toNat ss.toNat 1 ++ leBytes 4 (crc32c (bootHeader 0 ssv.toNat ss.toNat 1)) ++
        (leBytes 4 a ++ leBytes 4 w) ++ leBytes 4 (crc32c (leBytes 4 a ++ leBytes 4 w))) b) s (fun v =>
      v.boot = { s.boot with image := true, ssvid := ssv.toNat, ssid := ss.toNat, script := [], idx := 1, wait := .wait } ∧
      v.bit ⟨R.TOP_READY, 0, 1⟩ = true ∧ v.fld F.TOP_BOOT_FAIL_A = 0 ∧ BootFrame s v [⟨R.TOP_READY, 0, 1⟩, F.TOP_BOOT_FAIL_A]) := by
  rw [bootImage_one]
  have hx := exec_bootImageRead_first (b := b) h (bootCheck_oneEntry ssv ss _ a w ha hw)
  rw [bootRun_wait _ _ _ _ _ hop] at hx
  refine completes_of_done hx ⟨rfl, ?ready, ?failA, ?frame⟩
  case ready => rw [bit_withBoot, bootTake_ready]
  case failA =>
    rw [fld_withBoot, bootTake_fld _ _ (by decide), fld_setFld_self _ _ _ (by decide)]
    rfl
  case frame =>
    exact (BootFrame.setFld (BootFrame.withBoot (((BootFrame.refl s _).withOut _).setFld 0 (by simp) (by decide)) _) 1 (by simp) (by decide)).withBoot _

/-- A copy whose one entry is an unaligned write ends there. -/
theorem bootImageRead_unaligned (a w : Nat) (b : List Byte) (ha : a < 2 ^ 26) (hw : w < 256 ^ 4) (ho : a % 4 ≠ 0) (h : s.boot.image = false) :
    Completes (.bootImageRead (bootHeader 0 ssv.toNat ss.toNat 1 ++ leBytes 4 (crc32c (bootHeader 0 ssv.toNat ss.toNat 1)) ++
        (leBytes 4 a ++ leBytes 4 w) ++ leBytes 4 (crc32c (leBytes 4 a ++ leBytes 4 w))) b) s (fun v =>
      v.boot = { s.boot with image := true, ssvid := ssv.toNat, ssid := ss.toNat, script := [], idx := 0, wait := .run, training := true } ∧
      v.bit F.TOP_BOOT_REFUSED = true ∧ v.fld F.TOP_BOOT_STATUS = 5 ∧ v.fld F.TOP_BOOT_ENTRY = 0 ∧ v.bit F.TOP_BOOT_DONE = true ∧
      BootFrame s v [⟨R.TOP_READY, 0, 1⟩, F.TOP_BOOT_FAIL_A, F.TOP_BOOT_REFUSED, F.TOP_BOOT_STATUS, F.TOP_BOOT_ENTRY, F.TOP_BOOT_DONE]) := by
  rw [bootImage_one]
  have ha4 : a < 256 ^ 4 := lt_trans ha (by decide)
  have hx := exec_bootImageRead_first (b := b) h (bootCheck_oneEntry ssv ss _ a w ha4 hw)
  rw [bootRun_unaligned _ _ _ _ _ (by omega) (by omega), bootRefused_eq] at hx
  refine completes_of_done hx ⟨rfl, ?refused, ?status, bootEnd_entry _ _, bootEnd_done _ _, ?frame⟩
  case refused =>
    rw [bootEnd_bit _ _ (.inr (by decide)) (.inr (by decide)), bit_setFld_apart _ _ (by decide) (.inr (by decide)),
      bit_setFld_self _ _ _ (by decide) rfl]
    rfl
  case status =>
    rw [bootEnd_fld _ _ (.inr (by decide)) (.inr (by decide)), fld_setFld_self _ _ _ (by decide)]
    rfl
  case frame =>
    have htake : BootFrame s (((s.scannedOut (s.copyReads 0 (bootImage 0 ssv.toNat ss.toNat 1 (leBytes 4 a ++ leBytes 4 w) []))).setFld
        F.TOP_BOOT_FAIL_A 0).bootTake ⟨ssv.toNat, ss.toNat, [(a, w)]⟩)
        [⟨R.TOP_READY, 0, 1⟩, F.TOP_BOOT_FAIL_A, F.TOP_BOOT_REFUSED, F.TOP_BOOT_STATUS, F.TOP_BOOT_ENTRY, F.TOP_BOOT_DONE] :=
      (BootFrame.withBoot (((BootFrame.refl s _).withOut _).setFld 0 (by simp) (by decide)) _).setFld 1 (by simp) (by decide)
    exact ((htake.setFld 1 (by simp) (by decide)).setFld 5 (by simp) (by decide)).bootEnd 0 (by simp) (by simp)

end Read

/-! ### The waits of the script -/

theorem exec_bootWaitEnd (s : State) :
    exec .bootWaitEnd s = done s (if s.boot.wait = .wait then bootRun { s with boot := { s.boot with wait := .run } } s.boot.idx s.boot.script else s) := rfl

theorem exec_bootPollTimeout (s : State) :
    exec .bootPollTimeout s = done s (if s.boot.wait = .poll then (s.setFld F.TOP_BOOT_POLL_TO 1).bootEnd s.boot.idx else s) := rfl

/-- The wait that was the script's last entry ends. -/
theorem bootWaitEnd_last (s : State) (hw : s.boot.wait = .wait) (hsc : s.boot.script = []) :
    Completes .bootWaitEnd s (fun v => v.boot = { s.boot with image := true, script := [], idx := 0, wait := .run, training := true } ∧
      v.bit F.TOP_BOOT_DONE = true ∧ v.fld F.TOP_BOOT_ENTRY = 0 ∧ Frame { s with boot := v.boot } v [F.TOP_BOOT_DONE, F.TOP_BOOT_ENTRY]) := by
  have hx := exec_bootWaitEnd s
  rw [if_pos hw, hsc, bootRun_nil] at hx
  exact completes_of_done hx ⟨rfl, bootEnd_done _ _, bootEnd_entry _ _,
    (((BootFrame.refl s _).withBoot _).bootEnd 0 (by simp) (by simp)).silent rfl⟩

/-- A poll that does not come true in time ends the script. -/
theorem bootPollTimeout_ends (s : State) (hw : s.boot.wait = .poll) :
    Completes .bootPollTimeout s (fun v => v.boot = { s.boot with image := true, script := [], idx := 0, wait := .run, training := true } ∧
      v.bit F.TOP_BOOT_POLL_TO = true ∧ v.bit F.TOP_BOOT_DONE = true ∧ v.fld F.TOP_BOOT_ENTRY = s.boot.idx % 2 ^ F.TOP_BOOT_ENTRY.w ∧
      Frame { s with boot := v.boot } v [F.TOP_BOOT_POLL_TO, F.TOP_BOOT_DONE, F.TOP_BOOT_ENTRY]) := by
  have hx := exec_bootPollTimeout s
  rw [if_pos hw] at hx
  refine completes_of_done hx ⟨rfl, ?pollTo, bootEnd_done _ _, bootEnd_entry _ _, ?frame⟩
  case pollTo =>
    rw [bootEnd_bit _ _ (.inr (by decide)) (.inr (by decide)), bit_setFld_self _ _ _ (by decide) rfl]
    rfl
  case frame =>
    exact (((BootFrame.refl s _).setFld 1 (by simp) (by decide)).bootEnd _ (by simp) (by simp)).silent rfl

/-- Settles O60: the copies' checks decide what is read and taken, and each script ends as its entry says. -/
theorem bootRunsTheFirstGoodCopy : Obligations.BootRunsTheFirstGoodCopy := by
  unfold Obligations.BootRunsTheFirstGoodCopy
  refine ⟨?again, ?copies, ?neither, ?wait, ?unaligned, ?noWait, ?waitEnd, ?noPoll, ?pollEnd⟩
  case again => exact fun a b s h => completes_of_done (exec_bootImageRead_done h) rfl
  case copies =>
    intro anyVar ssv ss short ones tl b s h
    cases ones with
    | true =>
      obtain ⟨v, hx, hboot, hready, hdone, hentry, hfailA, hout, hframe⟩ := bootImageRead_first s ssv ss anyVar tl b h
      exact ⟨v, hx, hboot, hready, hdone, hentry, hfailA, nofun, hout, hframe⟩
    | false =>
      obtain ⟨v, hx, hboot, hready, hdone, hentry, hfailA, hcopy, hout, hframe⟩ := bootImageRead_second s ssv ss anyVar short.toList tl (by simp) h
      exact ⟨v, hx, hboot, hready, hdone, hentry, hfailA, fun _ => hcopy, hout, hframe⟩
  case neither => exact fun a b s h => bootImageRead_neither s a.toList b.toList (by simp) (by simp) h
  case wait =>
    intro e0 e1 ssv ss s h
    exact bootImageRead_wait s ssv ss (e0.toNat % 2 ^ 26 / 4 * 4 + 2 ^ 30) e1.toNat [] (by omega) e1.isLt (by omega) h
  case unaligned =>
    intro e0 e1 ssv ss s h ho
    exact bootImageRead_unaligned s ssv ss (e0.toNat % 2 ^ 26) e1.toNat [] (by omega) e1.isLt (by omega) h
  case noWait => exact fun s h => completes_of_done ((exec_bootWaitEnd s).trans (by rw [if_neg h])) rfl
  case waitEnd => exact fun s0 => bootWaitEnd_last _ rfl rfl
  case noPoll => exact fun s h => completes_of_done ((exec_bootPollTimeout s).trans (by rw [if_neg h])) rfl
  case pollEnd => exact fun s h => bootPollTimeout_ends s h

end Sys2Proof.Machine
end
section
/-!
PROOFS. The TW3 target (R387 to R391): the bytes it takes and stores, and how a Host Notify ends.
-/
namespace Sys2Proof.Machine

/-! ### What a two-wire port keeps -/

theorem twS_three (s : State) : s.twS 3 = s.tw[3] := by simp [State.twS, vget]

theorem modTw_three (s : State) (f : TwS → TwS) : s.modTw 3 f = { s with tw := s.tw.set 3 (f s.tw[3]) } := by
  rw [State.modTw, twS_three]
  simp [vput]

theorem tw_setThree (v : Vector TwS 4) (x : TwS) : (v.set 3 x)[3] = x := by simp

theorem tw_setSame (v : Vector TwS 4) : v.set 3 v[3] = v := by simp

theorem tw_setThree_setThree (v : Vector TwS 4) (x y : TwS) : (v.set 3 x).set 3 y = v.set 3 y := by simp

/-- Between `s` and `v` only the listed fields, what the ports hide and the outputs change. -/
def TwFrame (s v : State) (fs : List Fld) : Prop := Frame { s with tw := v.tw, out := v.out } v fs

section Frames
variable {s v : State} {fs : List Fld}

theorem TwFrame.refl (s : State) (fs : List Fld) : TwFrame s s fs := Frame.refl s fs

theorem TwFrame.setFld (h : TwFrame s v fs) {f : Fld} (x : Nat) (hf : f ∈ fs) (hw : f.lo + f.w ≤ 32) : TwFrame s (v.setFld f x) fs :=
  Frame.setFld h x hf hw

theorem TwFrame.withTw (h : TwFrame s v fs) (x : Vector TwS 4) : TwFrame s { v with tw := x } fs :=
  Frame.of_eq h rfl rfl rfl rfl rfl rfl (congrArg (fun (r : State) => { r with tw := x }) h.rest)

theorem TwFrame.withOut (h : TwFrame s v fs) (o : List Out) : TwFrame s { v with out := o } fs :=
  Frame.of_eq h rfl rfl rfl rfl rfl rfl (congrArg (fun (r : State) => { r with out := o }) h.rest)

theorem TwFrame.modTw (h : TwFrame s v fs) (f : TwS → TwS) : TwFrame s (v.modTw 3 f) fs := h.withTw _

theorem TwFrame.emit (h : TwFrame s v fs) (o : Out) : TwFrame s (v.emit o) fs := by
  rw [emit_eq]
  exact h.withOut _

theorem TwFrame.incCnt (h : TwFrame s v fs) {f g : Fld} (hf : f ∈ fs) (hw : f.lo + f.w ≤ 32) (hg : g ∈ fs) (hv : g.lo + g.w ≤ 32) :
    TwFrame s (v.incCnt f g) fs := by
  have hi : Frame { s with tw := v.tw, out := v.out } (v.incCnt f g) fs := Frame.incCnt h hf hw hg hv
  unfold TwFrame
  rw [incCnt_tw, incCnt_out]
  exact hi

/-- The frame of the statement, once the ports' hidden state and the outputs are known. -/
theorem TwFrame.known (h : TwFrame s v fs) {x : Vector TwS 4} {o : List Out} (hx : v.tw = x) (ho : v.out = o) :
    Frame { s with tw := x, out := o } v fs := by
  subst hx ho
  exact h

end Frames

/-! ### The target file (R387) -/

/-- Byte `a` of the target file, as a field. -/
def fileFld (a : Nat) : Fld := ⟨R.TW3_FILE (a / 4), 8 * (a % 4), 8⟩

theorem fileFld_fits (a : Nat) : (fileFld a).lo + (fileFld a).w ≤ 32 := by
  change 8 * (a % 4) + 8 ≤ 32
  omega

theorem fileFld_apart {a b : Nat} (h : a ≠ b) : (fileFld a).Apart (fileFld b) := by
  change 0x02C01100 + a / 4 * 4 ≠ 0x02C01100 + b / 4 * 4 ∨ 8 * (b % 4) + 8 ≤ 8 * (a % 4) ∨ 8 * (a % 4) + 8 ≤ 8 * (b % 4)
  omega

theorem twByte_file (s : State) (a : Nat) : s.twByte (R.TW3_FILE 0) a = BitVec.ofNat 8 (s.fld (fileFld a)) := by
  have hoff : R.TW3_FILE 0 + 4 * (a / 4) = R.TW3_FILE (a / 4) := by
    change 0x02C01100 + 0 * 4 + 4 * (a / 4) = 0x02C01100 + a / 4 * 4
    omega
  apply BitVec.eq_of_toNat_eq
  rw [State.twByte, hoff]
  simp [State.fld, fileFld, fieldN]

/-- Bytes stored one after the other. -/
def State.fileStore (s : State) (es : List (Nat × Byte)) : State := es.foldl (fun s e => s.setFld (fileFld e.1) e.2.toNat) s

theorem fileStore_append (s : State) (es : List (Nat × Byte)) (e : Nat × Byte) :
    s.fileStore (es ++ [e]) = (s.fileStore es).setFld (fileFld e.1) e.2.toNat := by
  simp [State.fileStore]

/-- Of the bytes stored at one address the last one stands (R389). -/
theorem twByte_fileStore (s : State) (es : List (Nat × Byte)) (a : Nat) :
    (s.fileStore es).twByte (R.TW3_FILE 0) a = ((es.reverse.find? (fun e => e.1 == a)).map (·.2)).getD (s.twByte (R.TW3_FILE 0) a) := by
  induction es using List.reverseRecOn with
  | nil => rfl
  | append_singleton es e ih =>
    rw [fileStore_append, List.reverse_append, List.reverse_singleton, List.singleton_append, List.find?_cons, twByte_file]
    by_cases he : e.1 = a
    · subst he
      rw [fld_setFld_self _ _ _ (fileFld_fits _), beq_self_eq_true]
      simp [fileFld, Nat.mod_eq_of_lt e.2.isLt]
    · rw [fld_setFld_apart _ _ (fileFld_fits _) (fileFld_apart he), ← twByte_file, ih, beq_false_of_ne he]

theorem fld_fileStore (s : State) (es : List (Nat × Byte)) (f : Fld) (hf : ∀ k, R.TW3_FILE k ≠ f.off) : (s.fileStore es).fld f = s.fld f := by
  induction es using List.reverseRecOn with
  | nil => rfl
  | append_singleton es e ih => rw [fileStore_append, fld_setFld_apart _ _ (fileFld_fits _) (.inl (hf _)), ih]

theorem TwFrame.fileStore {s v : State} {fs : List Fld} (h : TwFrame s v fs) (es : List (Nat × Byte)) (hfs : ∀ e ∈ es, fileFld e.1 ∈ fs) :
    TwFrame s (v.fileStore es) fs := by
  induction es using List.reverseRecOn with
  | nil => exact h
  | append_singleton es e ih =>
    rw [fileStore_append]
    exact (ih (fun x hx => hfs x (by simp [hx]))).setFld _ (hfs e (by simp)) (fileFld_fits _)

theorem fileStore_hidden (s : State) (es : List (Nat × Byte)) : (s.fileStore es).tw = s.tw ∧ (s.fileStore es).out = s.out := by
  induction es using List.reverseRecOn with
  | nil => exact ⟨rfl, rfl⟩
  | append_singleton es e ih => rw [fileStore_append]; exact ih

/-- A register of the target file is none of the others. -/
theorem file_ne {off : Nat} (h : off < 0x02C01100) (k : Nat) : R.TW3_FILE k ≠ off := by
  change 0x02C01100 + k * 4 ≠ off
  omega

/-! ### Staged bytes reach the file (R389) -/

theorem tgtCommit_eq (s : State) :
    s.tgtCommit = (if s.tw[3].staged.isEmpty then s.fileStore s.tw[3].staged
      else (s.fileStore s.tw[3].staged).setFld (F.TW_STAT_TGT_WR 3) 1).modTw 3 (fun t => { t with tgt := none, staged := [] }) := by
  rw [State.tgtCommit, twS_three]
  rfl

section Commit
variable (s : State)

theorem tgtCommit_fld (f : Fld) (hf : ∀ k, R.TW3_FILE k ≠ f.off) (hg : (F.TW_STAT_TGT_WR 3).Apart f) : s.tgtCommit.fld f = s.fld f := by
  rw [tgtCommit_eq, modTw_fld]
  split
  · exact fld_fileStore s _ f hf
  · rw [fld_setFld_apart _ _ (by decide) hg, fld_fileStore s _ f hf]

theorem tgtCommit_written (h : s.tw[3].staged ≠ []) : s.tgtCommit.bit (F.TW_STAT_TGT_WR 3) = true := by
  rw [tgtCommit_eq, modTw_bit, if_neg (by simpa using h), bit_setFld_self _ _ _ (by decide) rfl]
  rfl

theorem tgtCommit_twByte (a : Nat) :
    s.tgtCommit.twByte (R.TW3_FILE 0) a = ((s.tw[3].staged.reverse.find? (fun e => e.1 == a)).map (·.2)).getD (s.twByte (R.TW3_FILE 0) a) := by
  have hflag : ∀ v : State, (v.setFld (F.TW_STAT_TGT_WR 3) 1).twByte (R.TW3_FILE 0) a = v.twByte (R.TW3_FILE 0) a := fun v => by
    rw [twByte_file, twByte_file, fld_setFld_apart _ _ (by decide) (.inl (file_ne (by decide) _).symm)]
  have hmod : ∀ (v : State) (f : TwS → TwS), (v.modTw 3 f).twByte (R.TW3_FILE 0) a = v.twByte (R.TW3_FILE 0) a := fun v f => by
    rw [twByte_file, twByte_file, modTw_fld]
  rw [tgtCommit_eq, hmod]
  split
  · exact twByte_fileStore s _ a
  · rw [hflag, twByte_fileStore]

theorem tgtCommit_tw : s.tgtCommit.tw = s.tw.set 3 { s.tw[3] with tgt := none, staged := [] } := by
  have htw : (if s.tw[3].staged.isEmpty then s.fileStore s.tw[3].staged
      else (s.fileStore s.tw[3].staged).setFld (F.TW_STAT_TGT_WR 3) 1).tw = s.tw := by
    split
    · exact (fileStore_hidden s _).1
    · exact (fileStore_hidden s _).1
  rw [tgtCommit_eq, modTw_three]
  simp only [htw]

theorem tgtCommit_out : s.tgtCommit.out = s.out := by
  rw [tgtCommit_eq, modTw_out]
  split
  · exact (fileStore_hidden s _).2
  · exact (fileStore_hidden s _).2

end Commit

theorem TwFrame.tgtCommit {s v : State} {fs : List Fld} (h : TwFrame s v fs) (hst : ∀ e ∈ v.tw[3].staged, fileFld e.1 ∈ fs)
    (hwr : v.tw[3].staged ≠ [] → F.TW_STAT_TGT_WR 3 ∈ fs) : TwFrame s v.tgtCommit fs := by
  rw [tgtCommit_eq]
  refine TwFrame.modTw ?_ _
  split
  · exact h.fileStore _ hst
  · next hne => exact (h.fileStore _ hst).setFld 1 (hwr (by simpa using hne)) (by decide)

/-! ### Bytes a controller writes (R388) -/

/-- The written bytes with the places the pointer gives them. -/
def tgtEntries (p : Nat) (bs : List Byte) : List (Nat × Byte) := bs.zipIdx.map (fun e => ((p + e.2) % 256, e.1))

theorem tgtEntries_cons (p : Nat) (b : Byte) (bs : List Byte) : tgtEntries p (b :: bs) = (p % 256, b) :: tgtEntries ((p + 1) % 256) bs := by
  unfold tgtEntries
  rw [List.zipIdx_cons, List.map_cons, List.zipIdx_succ, List.map_map]
  refine congrArg _ (List.map_congr_left fun e _ => ?_)
  simp only [Function.comp_apply, Nat.mod_add_mod]
  rw [show p + (e.2 + 1) = p + 1 + e.2 by omega]

/-- The bytes outside the IN area. -/
def tgtLost (p : Nat) (bs : List Byte) : Nat := ((tgtEntries p bs).filter (fun e => e.1 < 0x80)).length

/-- The bytes that are staged. -/
def tgtStaged (p : Nat) (bs : List Byte) : List (Nat × Byte) := (tgtEntries p bs).filter (fun e => 0x80 ≤ e.1)

/-- One byte behind the pointer byte: its place, and the pointer moves on. -/
theorem tgtBytes_cons (b : Byte) (bs : List Byte) (s : State) :
    tgtBytes (b :: bs) false s = tgtBytes bs false
      (if s.tw[3].ptr < 0x80 then (s.modTw 3 (fun t => { t with ptr := (s.tw[3].ptr + 1) % 256 })).incCnt F.TW3_TGT_CNT_DISC_CNT F.TW3_TGT_CNT_SAT
       else s.modTw 3 (fun t => { t with ptr := (s.tw[3].ptr + 1) % 256, staged := t.staged ++ [(s.tw[3].ptr, b)] })) := by
  rw [tgtBytes, twS_three, modTw_three, modTw_three, modTw_three, tw_setThree, tw_setThree_setThree]

theorem tgtBytes_tw (bs : List Byte) (s : State) (h : s.tw[3].ptr < 256) :
    (tgtBytes bs false s).tw = s.tw.set 3 { s.tw[3] with ptr := (s.tw[3].ptr + bs.length) % 256, staged := s.tw[3].staged ++ tgtStaged s.tw[3].ptr bs } := by
  induction bs generalizing s with
  | nil =>
    rw [List.length_nil, Nat.add_zero, Nat.mod_eq_of_lt h, tgtStaged, tgtEntries]
    simp only [tgtBytes, List.zipIdx_nil, List.map_nil, List.filter_nil, List.append_nil]
    exact (tw_setSame _).symm
  | cons b bs ih =>
    have hlen : ((s.tw[3].ptr + 1) % 256 + bs.length) % 256 = (s.tw[3].ptr + (bs.length + 1)) % 256 := by omega
    have hptr : (s.tw[3].ptr + 1) % 256 < 256 := Nat.mod_lt _ (by decide)
    rw [tgtBytes_cons, tgtStaged, tgtEntries_cons, Nat.mod_eq_of_lt h, List.length_cons]
    split
    · next hlow =>
      have htw : ((s.modTw 3 (fun t => { t with ptr := (s.tw[3].ptr + 1) % 256 })).incCnt F.TW3_TGT_CNT_DISC_CNT F.TW3_TGT_CNT_SAT).tw =
          s.tw.set 3 { s.tw[3] with ptr := (s.tw[3].ptr + 1) % 256 } := by rw [incCnt_tw, modTw_three]
      rw [ih _ (by rw [htw, tw_setThree]; exact hptr), htw, tw_setThree, tw_setThree_setThree, List.filter_cons_of_neg (by simpa using hlow), hlen]
      rfl
    · next hhigh =>
      rw [modTw_three, ih _ (by rw [tw_setThree]; exact hptr)]
      dsimp only
      rw [tw_setThree, tw_setThree_setThree, List.filter_cons_of_pos (by simpa using hhigh), hlen, List.append_assoc]
      rfl

theorem tgtBytes_out (bs : List Byte) (s : State) : (tgtBytes bs false s).out = s.out := by
  induction bs generalizing s with
  | nil => rfl
  | cons b bs ih =>
    rw [tgtBytes_cons, ih]
    split
    · rw [incCnt_out, modTw_out]
    · rfl

theorem tgtBytes_discarded (bs : List Byte) (s : State) (h : s.tw[3].ptr < 256) :
    (tgtBytes bs false s).fld F.TW3_TGT_CNT_DISC_CNT = min (s.fld F.TW3_TGT_CNT_DISC_CNT + tgtLost s.tw[3].ptr bs) (2 ^ F.TW3_TGT_CNT_DISC_CNT.w - 1) := by
  induction bs generalizing s with
  | nil =>
    have := fld_lt s F.TW3_TGT_CNT_DISC_CNT
    simp only [tgtBytes, tgtLost, tgtEntries, List.zipIdx_nil, List.map_nil, List.filter_nil, List.length_nil]
    omega
  | cons b bs ih =>
    have hptr : (s.tw[3].ptr + 1) % 256 < 256 := Nat.mod_lt _ (by decide)
    rw [tgtBytes_cons, tgtLost, tgtEntries_cons, Nat.mod_eq_of_lt h]
    split
    · next hlow =>
      have htw : ((s.modTw 3 (fun t => { t with ptr := (s.tw[3].ptr + 1) % 256 })).incCnt F.TW3_TGT_CNT_DISC_CNT F.TW3_TGT_CNT_SAT).tw =
          s.tw.set 3 { s.tw[3] with ptr := (s.tw[3].ptr + 1) % 256 } := by rw [incCnt_tw, modTw_three]
      rw [ih _ (by rw [htw, tw_setThree]; exact hptr), htw, tw_setThree, fld_incCnt_self _ _ _ (by decide) (by decide) (.inr (by decide)),
        modTw_fld, List.filter_cons_of_pos (by simpa using hlow), List.length_cons, tgtLost]
      dsimp only
      omega
    · next hhigh =>
      rw [ih _ (by rw [modTw_three, tw_setThree]; exact hptr), modTw_fld, List.filter_cons_of_neg (by simpa using hhigh), modTw_three, tw_setThree, tgtLost]

theorem TwFrame.tgtBytes {s v : State} {fs : List Fld} (h : TwFrame s v fs) (bs : List Byte) (hp : v.tw[3].ptr < 256)
    (hfs : tgtLost v.tw[3].ptr bs ≠ 0 → F.TW3_TGT_CNT_DISC_CNT ∈ fs ∧ F.TW3_TGT_CNT_SAT ∈ fs) : TwFrame s (tgtBytes bs false v) fs := by
  induction bs generalizing v with
  | nil => exact h
  | cons b bs ih =>
    have hptr : (v.tw[3].ptr + 1) % 256 < 256 := Nat.mod_lt _ (by decide)
    rw [tgtLost, tgtEntries_cons, Nat.mod_eq_of_lt hp] at hfs
    rw [tgtBytes_cons]
    split
    · next hlow =>
      rw [List.filter_cons_of_pos (by simpa using hlow)] at hfs
      obtain ⟨hdisc, hsat⟩ := hfs (by simp)
      have htw : ((v.modTw 3 (fun t => { t with ptr := (v.tw[3].ptr + 1) % 256 })).incCnt F.TW3_TGT_CNT_DISC_CNT F.TW3_TGT_CNT_SAT).tw =
          v.tw.set 3 { v.tw[3] with ptr := (v.tw[3].ptr + 1) % 256 } := by rw [incCnt_tw, modTw_three]
      exact ih ((h.modTw _).incCnt hdisc (by decide) hsat (by decide)) (by rw [htw, tw_setThree]; exact hptr) (fun _ => ⟨hdisc, hsat⟩)
    · next hhigh =>
      rw [List.filter_cons_of_neg (by simpa using hhigh)] at hfs
      refine ih (h.modTw _) (by rw [modTw_three, tw_setThree]; exact hptr) ?_
      rw [modTw_three, tw_setThree]
      exact hfs

/-- A write's first byte has set the pointer. -/
def State.tgtPointed (s : State) (p : Nat) : State := { s with tw := s.tw.set 3 { s.tw[3] with tgt := some false, ptr := p } }

theorem tgtPointed_three (s : State) (p : Nat) : (s.tgtPointed p).tw[3] = { s.tw[3] with tgt := some false, ptr := p } := tw_setThree _ _

theorem tgtPointed_set (s : State) (p : Nat) (x : TwS) : (s.tgtPointed p).tw.set 3 x = s.tw.set 3 x := tw_setThree_setThree _ _ _

theorem tgtServe_write (s : State) (p : Byte) (ds : List Byte) (n : Nat) : s.tgtServe false (p :: ds) n = tgtBytes ds false (s.tgtPointed p.toNat) := by
  rw [State.tgtServe, if_neg (by decide), tgtBytes, modTw_three, modTw_three]
  dsimp only
  rw [tw_setThree, tw_setThree_setThree]
  rfl

/-- A read: the bytes of the file from the pointer (R387). -/
theorem tgtServe_read (s : State) (bs : List Byte) (n : Nat) :
    s.tgtServe true bs n =
      { s.emit (.twData 3 ((List.range n).map (fun i => s.tgtFile.getD ((s.tw[3].ptr + i) % 256) 0))) with
        tw := s.tw.set 3 { s.tw[3] with tgt := some true, snap := s.tgtFile, ptr := (s.tw[3].ptr + n) % 256 } } := by
  rw [State.tgtServe, if_pos rfl]
  dsimp only
  rw [twS_three, modTw_three, emit_eq, emit_eq]
  rfl

/-! ### What ends a transfer (R382) -/

theorem twBusy_three (s : State) : s.twBusy 3 = s.setFld (F.TW_STAT_BUSY 3) (b2n (s.tw[3].op != 0 || s.tw[3].clear)) := by
  rw [State.twBusy, twS_three]
  rfl

/-- What shows that the port has done with what it did: a Host Notify, or a transfer. -/
def twDoneFld (op : Nat) : Fld := if op = 2 then F.TW_STAT_NOTIFY_DONE 3 else F.TW_STAT_DONE 3

/-- A failure is counted (R382). -/
def State.twFailed (s : State) (r : Nat) : State :=
  if (1 ≤ r ∧ r ≤ 6) ∨ r = 8 then s.incCnt (F.TW_CNT_ERR_CNT 3) (F.TW_CNT_SAT 3) else s

theorem twEnd_three (s : State) (r : Nat) :
    s.twEnd 3 r = ((((s.setFld (F.TW_STAT_RESULT 3) r).setFld (twDoneFld s.tw[3].op) 1).twFailed r).modTw 3 (fun t => { t with op := 0, losses := 0 })).setFld
      (F.TW_STAT_BUSY 3) (b2n s.tw[3].clear) := by
  have htw : (((s.setFld (F.TW_STAT_RESULT 3) r).setFld (twDoneFld s.tw[3].op) 1).twFailed r).tw = s.tw := by
    unfold State.twFailed
    split
    · rw [incCnt_tw]; rfl
    · rfl
  have hbusy : ((((s.setFld (F.TW_STAT_RESULT 3) r).setFld (twDoneFld s.tw[3].op) 1).twFailed r).modTw 3
      (fun t => { t with op := 0, losses := 0 })).tw[3] = { s.tw[3] with op := 0, losses := 0 } := by
    rw [modTw_three, tw_setThree]
    simp only [htw]
  have hend : s.twEnd 3 r = ((((s.setFld (F.TW_STAT_RESULT 3) r).setFld (twDoneFld s.tw[3].op) 1).twFailed r).modTw 3
      (fun t => { t with op := 0, losses := 0 })).twBusy 3 := by
    rw [State.twEnd, twS_three]
    rfl
  rw [hend, twBusy_three, hbusy]
  rfl

section End
variable (s : State) (r : Nat)

theorem twDoneFld_off (op : Nat) : (twDoneFld op).off = R.TW_STAT 3 := by
  unfold twDoneFld
  split <;> rfl

theorem twDoneFld_cases {P : Fld → Prop} (op : Nat) (h1 : P (F.TW_STAT_NOTIFY_DONE 3)) (h2 : P (F.TW_STAT_DONE 3)) : P (twDoneFld op) := by
  unfold twDoneFld
  split
  · exact h1
  · exact h2

theorem twDoneFld_fits (op : Nat) : (twDoneFld op).lo + (twDoneFld op).w ≤ 32 :=
  twDoneFld_cases (P := fun f => f.lo + f.w ≤ 32) op (by decide) (by decide)

theorem twFailed_fld {f : Fld} (h : f.off ≠ R.TW_CNT 3) : (s.twFailed r).fld f = s.fld f := by
  unfold State.twFailed
  split
  · exact fld_incCnt_apart s (by decide) (by decide) (.inl h.symm) (.inl h.symm)
  · rfl

theorem twFailed_bit {f : Fld} (h : f.off ≠ R.TW_CNT 3) : (s.twFailed r).bit f = s.bit f := by
  rw [State.bit, twFailed_fld s r h, State.bit]

theorem twEnd_fld {f : Fld} (h : f.off ≠ R.TW_CNT 3) (h1 : (F.TW_STAT_RESULT 3).Apart f) (h2 : ∀ op, (twDoneFld op).Apart f)
    (h3 : (F.TW_STAT_BUSY 3).Apart f) : (s.twEnd 3 r).fld f = s.fld f := by
  rw [twEnd_three, fld_setFld_apart _ _ (by decide) h3, modTw_fld, twFailed_fld _ _ h, fld_setFld_apart _ _ (twDoneFld_fits _) (h2 _),
    fld_setFld_apart _ _ (by decide) h1]

theorem twEnd_result (hr : r < 16) : (s.twEnd 3 r).fld (F.TW_STAT_RESULT 3) = r := by
  have hd : ∀ op, (twDoneFld op).Apart (F.TW_STAT_RESULT 3) := fun op => twDoneFld_cases (P := fun f => f.Apart (F.TW_STAT_RESULT 3)) op (.inr (by decide)) (.inr (by decide))
  rw [twEnd_three, fld_setFld_apart _ _ (by decide) (.inr (by decide)), modTw_fld, twFailed_fld _ _ (by decide),
    fld_setFld_apart _ _ (twDoneFld_fits _) (hd _), fld_setFld_self _ _ _ (by decide)]
  exact Nat.mod_eq_of_lt hr

theorem twEnd_done : (s.twEnd 3 r).bit (twDoneFld s.tw[3].op) = true := by
  have hb : ∀ op, (F.TW_STAT_BUSY 3).Apart (twDoneFld op) := fun op => twDoneFld_cases (P := fun f => (F.TW_STAT_BUSY 3).Apart f) op (.inr (by decide)) (.inr (by decide))
  have hne : (twDoneFld s.tw[3].op).off ≠ R.TW_CNT 3 := by rw [twDoneFld_off]; decide
  rw [twEnd_three, bit_setFld_apart _ _ (by decide) (hb _), modTw_bit, twFailed_bit _ _ hne,
    bit_setFld_self _ _ _ (twDoneFld_fits _) (twDoneFld_cases (P := fun f => f.w = 1) _ rfl rfl)]
  rfl

theorem twEnd_busy : (s.twEnd 3 r).bit (F.TW_STAT_BUSY 3) = s.tw[3].clear := by
  rw [twEnd_three, bit_setFld_self _ _ _ (by decide) rfl]
  cases s.tw[3].clear <;> rfl

theorem twEnd_errors (hr : (1 ≤ r ∧ r ≤ 6) ∨ r = 8) :
    (s.twEnd 3 r).fld (F.TW_CNT_ERR_CNT 3) = min (s.fld (F.TW_CNT_ERR_CNT 3) + 1) (2 ^ (F.TW_CNT_ERR_CNT 3).w - 1) := by
  have hd : ∀ op, (twDoneFld op).Apart (F.TW_CNT_ERR_CNT 3) := fun op => .inl (by rw [twDoneFld_off]; decide)
  rw [twEnd_three, fld_setFld_apart _ _ (by decide) (.inl (by decide)), modTw_fld, State.twFailed, if_pos hr,
    fld_incCnt_self _ _ _ (by decide) (by decide) (.inr (by decide)), fld_setFld_apart _ _ (twDoneFld_fits _) (hd _),
    fld_setFld_apart _ _ (by decide) (.inl (by decide))]

theorem twFailed_tw : (s.twFailed r).tw = s.tw := by
  unfold State.twFailed
  split
  · rw [incCnt_tw]
  · rfl

theorem twFailed_out : (s.twFailed r).out = s.out := by
  unfold State.twFailed
  split
  · rw [incCnt_out]
  · rfl

theorem twEnd_tw : (s.twEnd 3 r).tw = s.tw.set 3 { s.tw[3] with op := 0, losses := 0 } := by
  rw [twEnd_three, setFld_tw, modTw_three]
  simp only [twFailed_tw, setFld_tw]

theorem twEnd_out : (s.twEnd 3 r).out = s.out := by
  rw [twEnd_three, setFld_out, modTw_out, twFailed_out, setFld_out, setFld_out]

end End

theorem TwFrame.twEnd {s v : State} {fs : List Fld} (h : TwFrame s v fs) (r : Nat) (h1 : F.TW_STAT_RESULT 3 ∈ fs) (h2 : twDoneFld v.tw[3].op ∈ fs)
    (h3 : F.TW_STAT_BUSY 3 ∈ fs) (h4 : (1 ≤ r ∧ r ≤ 6) ∨ r = 8 → F.TW_CNT_ERR_CNT 3 ∈ fs ∧ F.TW_CNT_SAT 3 ∈ fs) : TwFrame s (v.twEnd 3 r) fs := by
  have hset := (h.setFld r h1 (by decide)).setFld 1 h2 (twDoneFld_fits _)
  rw [twEnd_three]
  refine TwFrame.setFld (TwFrame.modTw ?_ _) _ h3 (by decide)
  unfold State.twFailed
  split
  · next hr => exact hset.incCnt (h4 hr).1 (by decide) (h4 hr).2 (by decide)
  · exact hset

/-! ### The target's commands -/

theorem exec_targetAddressMatch (addr : BitVec 7) (read : Bool) (bs : List Byte) (count : BitVec 12) (s : State) :
    exec (.targetAddressMatch addr read bs count) s =
      if s.bit F.TW3_TGT_CFG_TGT_EN && addr.toNat == s.fld F.TW3_TGT_CFG_TGT_ADDR && s.tw[3].tgt.isNone && !s.bit (F.TW_STAT_STUCK_SDA 3) then
        done s (s.tgtServe read bs count.toNat)
      else done s s := by
  change execTargetAddressMatch addr read bs count s = _
  rw [execTargetAddressMatch, twS_three]

/-- The target's own address, as a command names it. -/
theorem tgtAddr_toNat (s : State) : (BitVec.ofNat 7 (s.fld F.TW3_TGT_CFG_TGT_ADDR)).toNat = s.fld F.TW3_TGT_CFG_TGT_ADDR := by
  rw [BitVec.toNat_ofNat]
  exact Nat.mod_eq_of_lt (fld_lt s F.TW3_TGT_CFG_TGT_ADDR)

theorem exec_targetAddressMatch_own {s : State} (read : Bool) (bs : List Byte) (count : BitVec 12) (hen : s.bit F.TW3_TGT_CFG_TGT_EN = true)
    (htgt : s.tw[3].tgt = none) (hsda : s.bit (F.TW_STAT_STUCK_SDA 3) = false) :
    exec (.targetAddressMatch (BitVec.ofNat 7 (s.fld F.TW3_TGT_CFG_TGT_ADDR)) read bs count) s = done s (s.tgtServe read bs count.toNat) := by
  rw [exec_targetAddressMatch, tgtAddr_toNat, if_pos (by simp [hen, htgt, hsda])]

/-- A write to the target: what is staged and what is discarded (R388). -/
theorem targetAddressMatch_write {s : State} (p : Byte) (ds : List Byte) (count : BitVec 12) (hen : s.bit F.TW3_TGT_CFG_TGT_EN = true)
    (htgt : s.tw[3].tgt = none) (hsda : s.bit (F.TW_STAT_STUCK_SDA 3) = false) :
    Completes (.targetAddressMatch (BitVec.ofNat 7 (s.fld F.TW3_TGT_CFG_TGT_ADDR)) false (p :: ds) count) s (fun v =>
      v.fld F.TW3_TGT_CNT_DISC_CNT = min (s.fld F.TW3_TGT_CNT_DISC_CNT + tgtLost p.toNat ds) (2 ^ F.TW3_TGT_CNT_DISC_CNT.w - 1) ∧
      Frame { s with tw := s.tw.set 3 { s.tw[3] with tgt := some false, ptr := (p.toNat + ds.length) % 256, staged := s.tw[3].staged ++ tgtStaged p.toNat ds } } v
        (if tgtLost p.toNat ds = 0 then [] else [F.TW3_TGT_CNT_DISC_CNT, F.TW3_TGT_CNT_SAT])) := by
  have hx := exec_targetAddressMatch_own false (p :: ds) count hen htgt hsda
  rw [tgtServe_write] at hx
  have hptr : (s.tgtPointed p.toNat).tw[3].ptr = p.toNat := by rw [tgtPointed_three]
  have hlt : (s.tgtPointed p.toNat).tw[3].ptr < 256 := hptr.trans_lt p.isLt
  refine completes_of_done hx ⟨?lost, ?frame⟩
  case lost =>
    rw [tgtBytes_discarded ds _ hlt, hptr]
    rfl
  case frame =>
    refine TwFrame.known (TwFrame.tgtBytes (v := s.tgtPointed p.toNat) ((TwFrame.refl s _).withTw _) ds hlt ?_) ?_ (tgtBytes_out ds _)
    · rw [hptr]
      intro hne
      rw [if_neg hne]
      simp
    · rw [tgtBytes_tw ds _ hlt, tgtPointed_set, tgtPointed_three]

theorem exec_targetStop (s : State) : exec .targetStop s = if s.tw[3].tgt.isSome then done s s.tgtCommit else done s s := by
  change execTargetStop s = _
  rw [execTargetStop, twS_three]

theorem exec_srInAck (stop : Bool) (s : State) :
    exec (.srInAck stop) s =
      if s.tw[3].tgt.isNone then done s s
      else done s (if stop then s.incCnt F.TW3_TGT_CNT_DISC_CNT F.TW3_TGT_CNT_SAT
        else ((s.incCnt F.TW3_TGT_CNT_DISC_CNT F.TW3_TGT_CNT_SAT).setFld (F.TW_STAT_SR_IN_ACK 3) 1).incCnt F.TW3_TGT_CNT_SR_CNT F.TW3_TGT_CNT_SAT).tgtCommit := by
  change execSrInAck stop s = _
  rw [execSrInAck, twS_three]
  rfl

/-- The fields of the staged bytes. -/
def stagedFlds (es : List (Nat × Byte)) : List Fld := es.map (fun e => ⟨R.TW3_FILE (e.1 / 4), 8 * (e.1 % 4), 8⟩)

theorem fileFld_mem_stagedFlds {es : List (Nat × Byte)} {e : Nat × Byte} (h : e ∈ es) : fileFld e.1 ∈ stagedFlds es :=
  List.mem_map.mpr ⟨e, h, rfl⟩

/-- TARGET_STOP with a transfer under way (R389). -/
theorem targetStop_commits {s : State} {es : List (Nat × Byte)} (htgt : s.tw[3].tgt.isSome = true) (hst : s.tw[3].staged = es) :
    Completes .targetStop s (fun v => (es ≠ [] → v.bit (F.TW_STAT_TGT_WR 3) = true) ∧
      (∀ a : Fin 256, v.twByte (R.TW3_FILE 0) a = ((es.reverse.find? (fun e => e.1 == a.val)).map (·.2)).getD (s.twByte (R.TW3_FILE 0) a)) ∧
      Frame { s with tw := s.tw.set 3 { s.tw[3] with tgt := none, staged := [] } } v
        ((if es = [] then [] else [F.TW_STAT_TGT_WR 3]) ++ stagedFlds es)) := by
  have hx := exec_targetStop s
  rw [if_pos htgt] at hx
  subst hst
  refine completes_of_done hx ⟨tgtCommit_written s, fun a => tgtCommit_twByte s a, ?_⟩
  refine TwFrame.known ((TwFrame.refl s _).tgtCommit (fun e he => ?_) (fun hne => ?_)) (tgtCommit_tw s) (tgtCommit_out s)
  · exact List.mem_append_right _ (fileFld_mem_stagedFlds he)
  · rw [if_neg hne]
    simp

/-- What SR_IN_ACK counts before the staged bytes are stored (R390). -/
def State.srCounted (s : State) (stop : Bool) : State :=
  if stop then s.incCnt F.TW3_TGT_CNT_DISC_CNT F.TW3_TGT_CNT_SAT
  else ((s.incCnt F.TW3_TGT_CNT_DISC_CNT F.TW3_TGT_CNT_SAT).setFld (F.TW_STAT_SR_IN_ACK 3) 1).incCnt F.TW3_TGT_CNT_SR_CNT F.TW3_TGT_CNT_SAT

section Counted
variable (s : State)

theorem srCounted_tw (stop : Bool) : (s.srCounted stop).tw = s.tw := by
  cases stop with
  | true => exact incCnt_tw s _ _
  | false => exact (incCnt_tw _ _ _).trans (incCnt_tw s _ _)

theorem srCounted_out (stop : Bool) : (s.srCounted stop).out = s.out := by
  cases stop with
  | true => exact incCnt_out s _ _
  | false => exact (incCnt_out _ _ _).trans (incCnt_out s _ _)

theorem srCounted_discarded (stop : Bool) :
    (s.srCounted stop).fld F.TW3_TGT_CNT_DISC_CNT = min (s.fld F.TW3_TGT_CNT_DISC_CNT + 1) (2 ^ F.TW3_TGT_CNT_DISC_CNT.w - 1) := by
  have hdisc := fld_incCnt_self s F.TW3_TGT_CNT_DISC_CNT F.TW3_TGT_CNT_SAT (by decide) (by decide) (.inr (by decide))
  cases stop with
  | true => exact hdisc
  | false =>
    rw [State.srCounted, if_neg (by decide), fld_incCnt_apart _ (by decide) (by decide) (.inr (by decide)) (.inr (by decide)),
      fld_setFld_apart _ _ (by decide) (.inl (by decide)), hdisc]

theorem srCounted_starts :
    (s.srCounted false).bit (F.TW_STAT_SR_IN_ACK 3) = true ∧
      (s.srCounted false).fld F.TW3_TGT_CNT_SR_CNT = min (s.fld F.TW3_TGT_CNT_SR_CNT + 1) (2 ^ F.TW3_TGT_CNT_SR_CNT.w - 1) := by
  rw [State.srCounted, if_neg (by decide)]
  constructor
  · rw [State.bit, fld_incCnt_apart _ (by decide) (by decide) (.inl (by decide)) (.inl (by decide)), fld_setFld_self _ _ _ (by decide)]
    rfl
  · rw [fld_incCnt_self _ _ _ (by decide) (by decide) (.inr (by decide)), fld_setFld_apart _ _ (by decide) (.inl (by decide)),
      fld_incCnt_apart _ (by decide) (by decide) (.inr (by decide)) (.inr (by decide))]

theorem srCounted_twByte (stop : Bool) (a : Nat) : (s.srCounted stop).twByte (R.TW3_FILE 0) a = s.twByte (R.TW3_FILE 0) a := by
  have hfile : ∀ off < 0x02C01100, off ≠ (fileFld a).off := fun off h => (file_ne h _).symm
  have hdisc : (s.incCnt F.TW3_TGT_CNT_DISC_CNT F.TW3_TGT_CNT_SAT).fld (fileFld a) = s.fld (fileFld a) :=
    fld_incCnt_apart s (by decide) (by decide) (.inl (hfile _ (by decide))) (.inl (hfile _ (by decide)))
  rw [twByte_file, twByte_file]
  cases stop with
  | true => exact congrArg _ hdisc
  | false =>
    rw [State.srCounted, if_neg (by decide), fld_incCnt_apart _ (by decide) (by decide) (.inl (hfile _ (by decide))) (.inl (hfile _ (by decide))),
      fld_setFld_apart _ _ (by decide) (.inl (hfile _ (by decide))), hdisc]

theorem TwFrame.srCounted {fs : List Fld} {s v : State} (h : TwFrame s v fs) (stop : Bool) (hd : F.TW3_TGT_CNT_DISC_CNT ∈ fs) (hsat : F.TW3_TGT_CNT_SAT ∈ fs)
    (hst : stop = false → F.TW3_TGT_CNT_SR_CNT ∈ fs ∧ F.TW_STAT_SR_IN_ACK 3 ∈ fs) : TwFrame s (v.srCounted stop) fs := by
  have hdisc := h.incCnt hd (by decide) hsat (by decide)
  cases stop with
  | true => exact hdisc
  | false =>
    obtain ⟨hsr, hack⟩ := hst rfl
    exact (hdisc.setFld 1 hack (by decide)).incCnt hsr (by decide) hsat (by decide)

end Counted

/-- SR_IN_ACK with a transfer under way (R390). -/
theorem srInAck_commits {s : State} {es : List (Nat × Byte)} (stop : Bool) (htgt : s.tw[3].tgt.isSome = true) (hst : s.tw[3].staged = es) :
    Completes (.srInAck stop) s (fun v =>
      v.fld F.TW3_TGT_CNT_DISC_CNT = min (s.fld F.TW3_TGT_CNT_DISC_CNT + 1) (2 ^ F.TW3_TGT_CNT_DISC_CNT.w - 1) ∧
      (stop = false → v.bit (F.TW_STAT_SR_IN_ACK 3) = true ∧
        v.fld F.TW3_TGT_CNT_SR_CNT = min (s.fld F.TW3_TGT_CNT_SR_CNT + 1) (2 ^ F.TW3_TGT_CNT_SR_CNT.w - 1)) ∧
      (∀ a : Fin 256, v.twByte (R.TW3_FILE 0) a = ((es.reverse.find? (fun e => e.1 == a.val)).map (·.2)).getD (s.twByte (R.TW3_FILE 0) a)) ∧
      Frame { s with tw := s.tw.set 3 { s.tw[3] with tgt := none, staged := [] } } v
        ([F.TW3_TGT_CNT_DISC_CNT, F.TW3_TGT_CNT_SAT] ++ (if stop then [] else [F.TW3_TGT_CNT_SR_CNT, F.TW_STAT_SR_IN_ACK 3]) ++
          (if es = [] then [] else [F.TW_STAT_TGT_WR 3]) ++ stagedFlds es)) := by
  have hx := exec_srInAck stop s
  rw [if_neg (by simpa using Option.isSome_iff_ne_none.mp htgt)] at hx
  subst hst
  have htw := srCounted_tw s stop
  refine completes_of_done (v := (s.srCounted stop).tgtCommit) hx ⟨?disc, ?start, ?bytes, ?frame⟩
  case disc => rw [tgtCommit_fld _ _ (file_ne (by decide)) (.inl (by decide)), srCounted_discarded]
  case start =>
    rintro rfl
    obtain ⟨hack, hsr⟩ := srCounted_starts s
    rw [State.bit, tgtCommit_fld _ _ (file_ne (by decide)) (.inr (by decide)), tgtCommit_fld _ _ (file_ne (by decide)) (.inl (by decide))]
    exact ⟨hack, hsr⟩
  case bytes =>
    intro a
    rw [tgtCommit_twByte, srCounted_twByte, htw]
  case frame =>
    refine TwFrame.known (TwFrame.tgtCommit ((TwFrame.refl s _).srCounted stop (by simp) (by simp) ?_) ?_ ?_) ?_ ?_
    · rintro rfl
      simp
    · rw [htw]
      exact fun e he => List.mem_append_right _ (fileFld_mem_stagedFlds he)
    · rw [htw]
      intro hne
      rw [if_neg hne]
      simp
    · rw [tgtCommit_tw, htw]
    · rw [tgtCommit_out, srCounted_out]

/-! ### A lost arbitration, and the target at once (R384) -/

section Serve
variable (s : State) (read : Bool) (p : Byte) (n : Nat)

theorem tgtServe_one_fld (f : Fld) : (s.tgtServe read [p] n).fld f = s.fld f := by
  cases read with
  | true => rw [tgtServe_read]; exact emit_fld s _ f
  | false => rw [tgtServe_write]; rfl

theorem tgtServe_one_tgt : (s.tgtServe read [p] n).tw[3].tgt = some read := by
  cases read with
  | true => rw [tgtServe_read, tw_setThree]
  | false => rw [tgtServe_write, tgtBytes, tgtPointed_three]

theorem tgtServe_one_ptr : (s.tgtServe read [p] n).tw[3].ptr = if read then (s.tw[3].ptr + n) % 256 else p.toNat := by
  cases read with
  | true => rw [tgtServe_read, tw_setThree, if_pos rfl]
  | false => rw [tgtServe_write, tgtBytes, tgtPointed_three, if_neg (by decide)]

theorem TwFrame.tgtServe_one {s v : State} {fs : List Fld} (h : TwFrame s v fs) (read : Bool) (p : Byte) (n : Nat) :
    TwFrame s (v.tgtServe read [p] n) fs := by
  cases read with
  | true => rw [tgtServe_read]; exact (h.emit _).withTw _
  | false => rw [tgtServe_write]; exact h.withTw _

end Serve

/-- The own transfer has lost arbitration and ended. -/
def State.arbEnded (s : State) : State := ((s.setFld (F.TW_STAT_ARB_LOST 3) 1).modTw 3 (fun t => { t with held := false })).twEnd 3 3

theorem exec_arbLost_served {s : State} (read : Bool) (bs : List Byte) (count : BitVec 12) (hop : s.tw[3].op = 1) (hmc : s.bit (F.TW_CTL_MC 3) = true)
    (hen : s.bit F.TW3_TGT_CFG_TGT_EN = true) (htgt : s.tw[3].tgt = none) :
    exec (.arbLost 3 (BitVec.ofNat 7 (s.fld F.TW3_TGT_CFG_TGT_ADDR)) read bs count) s = done s (s.arbEnded.tgtServe read bs count.toNat) := by
  change execArbLost 3 _ read bs count s = _
  unfold execArbLost
  dsimp only
  have hserve : (3 : Nat) = 3 ∧ s.bit (F.TW_CTL_MC 3) = true ∧ s.bit F.TW3_TGT_CFG_TGT_EN = true ∧
      (BitVec.ofNat 7 (s.fld F.TW3_TGT_CFG_TGT_ADDR)).toNat = s.fld F.TW3_TGT_CFG_TGT_ADDR ∧ s.tw[3].tgt.isNone = true :=
    ⟨rfl, hmc, hen, tgtAddr_toNat s, by simp [htgt]⟩
  rw [show ((3 : Fin 4) : Nat) = 3 from rfl, twS_three, if_neg (by simp [hop]), if_pos hserve, if_neg (by simp [hop])]
  rfl

theorem arbEnded_op {s : State} (hop : s.tw[3].op = 1) :
    ((s.setFld (F.TW_STAT_ARB_LOST 3) 1).modTw 3 (fun t => { t with held := false })).tw[3].op = 1 := by
  rw [modTw_three, tw_setThree]
  exact hop

theorem arbLost_served {s : State} (read : Bool) (ptr : Byte) (count : BitVec 12) (hop : s.tw[3].op = 1) (hmc : s.bit (F.TW_CTL_MC 3) = true)
    (hen : s.bit F.TW3_TGT_CFG_TGT_EN = true) (htgt : s.tw[3].tgt = none) :
    Completes (.arbLost 3 (BitVec.ofNat 7 (s.fld F.TW3_TGT_CFG_TGT_ADDR)) read [ptr] count) s (fun v => v.bit (F.TW_STAT_ARB_LOST 3) = true ∧
      v.fld (F.TW_STAT_RESULT 3) = 3 ∧ v.bit (F.TW_STAT_DONE 3) = true ∧ v.tw[3].tgt = some read ∧
      v.tw[3].ptr = (if read then (s.tw[3].ptr + count.toNat) % 256 else ptr.toNat) ∧
      Frame { s with tw := v.tw, out := v.out } v
        [F.TW_STAT_ARB_LOST 3, F.TW_STAT_RESULT 3, F.TW_STAT_DONE 3, F.TW_STAT_BUSY 3, F.TW_CNT_ERR_CNT 3, F.TW_CNT_SAT 3]) := by
  have hdone : twDoneFld 1 = F.TW_STAT_DONE 3 := rfl
  have hapart : ∀ op, (twDoneFld op).Apart (F.TW_STAT_ARB_LOST 3) := fun op =>
    twDoneFld_cases (P := fun f => f.Apart (F.TW_STAT_ARB_LOST 3)) op (.inr (by decide)) (.inr (by decide))
  refine completes_of_done (exec_arbLost_served read [ptr] count hop hmc hen htgt) ⟨?lost, ?result, ?done, tgtServe_one_tgt _ _ _ _, ?ptr, ?frame⟩
  case lost =>
    rw [State.bit, tgtServe_one_fld, State.arbEnded, twEnd_fld _ _ (by decide) (.inr (by decide)) hapart (.inr (by decide)), modTw_fld,
      fld_setFld_self _ _ _ (by decide)]
    rfl
  case result =>
    rw [tgtServe_one_fld, State.arbEnded, twEnd_result _ _ (by decide)]
  case done =>
    have h := twEnd_done ((s.setFld (F.TW_STAT_ARB_LOST 3) 1).modTw 3 (fun t => { t with held := false })) 3
    rw [arbEnded_op hop, hdone] at h
    rw [State.bit, tgtServe_one_fld]
    exact h
  case ptr =>
    rw [tgtServe_one_ptr, State.arbEnded, twEnd_tw, tw_setThree, modTw_three, tw_setThree]
    rfl
  case frame =>
    refine TwFrame.tgtServe_one (TwFrame.twEnd (((TwFrame.refl s _).setFld 1 (by simp) (by decide)).modTw _) 3 (by simp) ?_ (by simp)
      (fun _ => ⟨by simp, by simp⟩)) read ptr count.toNat
    rw [arbEnded_op hop, hdone]
    simp

/-! ### Host Notify (R391) -/

theorem exec_hostNotify (data : BitVec 16) (s : State) :
    exec (.hostNotify data) s = done s (if s.bit (F.TW_STAT_BUSY 3) then s.status 0x40
      else (((s.put R.TW3_NOTIFY (data.zeroExtend 32)).modTw 3 (fun t => { t with op := 2, losses := 0 })).setFld (F.TW_STAT_BUSY 3) 1).status 0) := by
  have hgo : bitN (BitVec.ofNat 32 (data.toNat + 2 ^ 31)).toNat 31 = true := by
    have := data.isLt
    simp only [bitN, BitVec.toNat_ofNat, beq_iff_eq]
    omega
  have hval : BitVec.ofNat 32 (data.toNat + 2 ^ 31) &&& 0xFFFF = data.zeroExtend 32 := by
    have := data.isLt
    apply BitVec.eq_of_toNat_eq
    rw [BitVec.toNat_and, BitVec.toNat_ofNat, BitVec.toNat_setWidth]
    change (data.toNat + 2 ^ 31) % 2 ^ 32 &&& 2 ^ 16 - 1 = _
    rw [Nat.and_two_pow_sub_one_eq_mod]
    omega
  change done s (s.notifyWrite _) = _
  rw [State.notifyWrite, hgo, hval]
  simp only [Bool.not_true, Bool.false_eq_true, if_false]
  rw [twBusy_three, modTw_three, tw_setThree]
  rfl

theorem hostNotify_completes (data : BitVec 16) (s : State) :
    Completes (.hostNotify data) s (fun v => if s.bit (F.TW_STAT_BUSY 3) then v = { s with lastStatus := 0x40 }
      else v.bit (F.TW_STAT_BUSY 3) = true ∧ v.rd R.TW3_NOTIFY = data.zeroExtend 32 ∧
        Frame { s with lastStatus := 0, tw := s.tw.set 3 { s.tw[3] with op := 2, losses := 0 } } v [F.TW_STAT_BUSY 3, whole R.TW3_NOTIFY]) := by
  have hx := exec_hostNotify data s
  by_cases hbusy : s.bit (F.TW_STAT_BUSY 3) = true
  · rw [if_pos hbusy] at hx
    refine completes_of_done hx ?_
    rw [if_pos hbusy]
    rfl
  · rw [if_neg hbusy] at hx
    refine completes_of_done hx ?_
    rw [if_neg hbusy]
    refine ⟨?busy, ?data, ?frame⟩
    case busy =>
      rw [status_bit, bit_setFld_self _ _ _ (by decide) rfl]
      rfl
    case data => rw [status_rd, rd_setFld_ne _ _ _ (by decide), modTw_rd, rd_put_self]
    case frame =>
      have hput : TwFrame s (s.put R.TW3_NOTIFY (data.zeroExtend 32)) [F.TW_STAT_BUSY 3, whole R.TW3_NOTIFY] := Frame.putWord (Frame.refl s _) _ (by simp)
      have hset := (hput.modTw (fun t => { t with op := 2, losses := 0 })).setFld 1 (f := F.TW_STAT_BUSY 3) (by simp) (by decide)
      exact (hset.known (by rw [setFld_tw, modTw_three]) rfl).withStatus 0

/-- The emission of a frame does not depend on what the ports hide. -/
theorem emit_withTw (s : State) (x : Vector TwS 4) (o : Out) : ({ s with tw := x } : State).emit o = { s.emit o with tw := x } := by
  rw [emit_eq, emit_eq]
  rfl

theorem emits_withTw (s : State) (x : Vector TwS 4) (a b c : Out) :
    ((({ s with tw := x } : State).emit a).emit b).emit c = { ((s.emit a).emit b).emit c with tw := x } :=
  (congrArg (fun (t : State) => (t.emit b).emit c) (emit_withTw s x a)).trans
    ((congrArg (fun (t : State) => t.emit c) (emit_withTw (s.emit a) x b)).trans (emit_withTw ((s.emit a).emit b) x c))

/-- The bytes of a Host Notify. -/
def State.notifyBytes (s : State) : List Byte := leBytes 1 (2 * s.fld F.TW3_TGT_CFG_TGT_ADDR) ++ leBytes 2 (s.fld F.TW3_NOTIFY_DATA)

/-- The frame has been sent, as far as it was acknowledged. -/
def State.notifySent (s : State) (put : List Byte) : State :=
  ((s.emit (.twStart 3 (2 * s.fld F.TW3_TGT_CFG_NOTIFY_ADDR) s.tw[3].held)).emit (.twData 3 put)).emit (.twStop 3)

/-- What the acknowledges say of a Host Notify (R382). -/
def notifyResult (ack : Bool) (acked : Fin 4) : Nat := if ack = false then 1 else if acked < 3 then 2 else 0

/-- The byte that was not acknowledged, where there is one. -/
def State.notifyNack (s : State) (ack : Bool) (acked : Fin 4) : State :=
  if notifyResult ack acked = 2 then s.setFld (F.TW_STAT_NACK_IDX 3) acked.val else s

theorem exec_notifyDone_idle {s : State} (ack : Bool) (acked : Fin 4) (h : s.tw[3].op ≠ 2 ∨ s.tw[3].clear = true ∨ s.bit (F.TW_STAT_STUCK_SDA 3) = true) :
    exec (.notifyDone ack acked) s = done s s := by
  change execNotifyDone ack acked s = _
  rw [execNotifyDone, twS_three, if_pos (by rcases h with h | h | h <;> simp [h])]

/-- The frame has been sent, and the bus is free. -/
def State.notifyDriven (s : State) (put : List Byte) : State :=
  { s.notifySent put with tw := s.tw.set 3 { s.tw[3] with after := false, held := false } }

theorem notifyDriven_fld (s : State) (put : List Byte) (f : Fld) : (s.notifyDriven put).fld f = s.fld f :=
  (emit_fld _ _ f).trans ((emit_fld _ _ f).trans (emit_fld s _ f))

theorem notifyDriven_eq (s : State) (put : List Byte) :
    (((s.modTw 3 (fun t => { t with after := false, held := false })).emit (.twStart 3 (2 * s.fld F.TW3_TGT_CFG_NOTIFY_ADDR) s.tw[3].held)).emit
      (.twData 3 put)).emit (.twStop 3) = s.notifyDriven put := by
  rw [modTw_three]
  exact emits_withTw s _ _ _ _

theorem notifyResult_refused {acked : Fin 4} (h : acked.val < 3) : notifyResult true acked = 2 := if_pos h

theorem notifyResult_whole {acked : Fin 4} (h : ¬ acked.val < 3) : notifyResult true acked = 0 := if_neg h

theorem exec_notifyDone {s : State} (ack : Bool) (acked : Fin 4) (hop : s.tw[3].op = 2) (hclear : s.tw[3].clear = false)
    (hsda : s.bit (F.TW_STAT_STUCK_SDA 3) = false) :
    exec (.notifyDone ack acked) s =
      done s (((s.notifyDriven (if ack = false then [] else s.notifyBytes.take (acked + 1))).notifyNack ack acked).twEnd 3 (notifyResult ack acked)) := by
  change execNotifyDone ack acked s = _
  rw [execNotifyDone, twS_three, if_neg (by simp [hop, hclear, hsda])]
  dsimp only
  rw [notifyDriven_eq]
  cases ack with
  | false => rfl
  | true =>
    by_cases h : acked.val < 3
    · rw [if_neg (by decide), if_pos h, State.notifyNack, notifyResult_refused h, if_pos rfl, if_neg (by decide)]
      rfl
    · rw [if_neg (by decide), if_neg h, State.notifyNack, notifyResult_whole h, if_neg (by decide), if_neg (by decide)]
      rfl

theorem notifyNack_tw (s : State) (ack : Bool) (acked : Fin 4) : (s.notifyNack ack acked).tw = s.tw := by
  unfold State.notifyNack
  split
  · rfl
  · rfl

theorem notifyNack_out (s : State) (ack : Bool) (acked : Fin 4) : (s.notifyNack ack acked).out = s.out := by
  unfold State.notifyNack
  split
  · rfl
  · rfl

theorem notifyNack_fld (s : State) (ack : Bool) (acked : Fin 4) {f : Fld} (h : (F.TW_STAT_NACK_IDX 3).Apart f) : (s.notifyNack ack acked).fld f = s.fld f := by
  unfold State.notifyNack
  split
  · exact fld_setFld_apart _ _ (by decide) h
  · rfl

theorem notifyResult_cases (ack : Bool) (acked : Fin 4) : notifyResult ack acked ≤ 2 := by
  unfold notifyResult
  split
  · decide
  · split <;> decide

theorem notifyDone_completes {s : State} (ack : Bool) (acked : Fin 4) (hop : s.tw[3].op = 2) (hclear : s.tw[3].clear = false)
    (hsda : s.bit (F.TW_STAT_STUCK_SDA 3) = false) :
    Completes (.notifyDone ack acked) s (fun v => v.fld (F.TW_STAT_RESULT 3) = notifyResult ack acked ∧ v.bit (F.TW_STAT_NOTIFY_DONE 3) = true ∧
      v.bit (F.TW_STAT_BUSY 3) = false ∧ (notifyResult ack acked = 2 → v.fld (F.TW_STAT_NACK_IDX 3) = acked) ∧
      (notifyResult ack acked ≠ 0 → v.fld (F.TW_CNT_ERR_CNT 3) = min (s.fld (F.TW_CNT_ERR_CNT 3) + 1) (2 ^ (F.TW_CNT_ERR_CNT 3).w - 1)) ∧
      Frame { s.notifySent (if ack = false then [] else s.notifyBytes.take (acked + 1)) with
          tw := s.tw.set 3 { s.tw[3] with op := 0, losses := 0, held := false, after := false } } v
        ([F.TW_STAT_RESULT 3, F.TW_STAT_NOTIFY_DONE 3, F.TW_STAT_BUSY 3] ++
          (if notifyResult ack acked = 2 then [F.TW_STAT_NACK_IDX 3] else []) ++
          if notifyResult ack acked = 0 then [] else [F.TW_CNT_ERR_CNT 3, F.TW_CNT_SAT 3])) := by
  have hx := exec_notifyDone ack acked hop hclear hsda
  generalize hputs : (if ack = false then [] else s.notifyBytes.take (acked + 1)) = puts at hx ⊢
  have hle := notifyResult_cases ack acked
  have hthree : ((s.notifyDriven puts).notifyNack ack acked).tw[3] =
      { s.tw[3] with after := false, held := false } := by
    simp only [notifyNack_tw, State.notifyDriven, tw_setThree]
  refine completes_of_done hx ⟨twEnd_result _ _ (by omega), ?done, ?busy, ?nack, ?errors, ?frame⟩
  case done =>
    have h := twEnd_done ((s.notifyDriven puts).notifyNack ack acked) (notifyResult ack acked)
    rw [hthree] at h
    exact (congrArg (State.bit _) (if_pos hop).symm).trans h
  case busy =>
    rw [twEnd_busy, hthree]
    exact hclear
  case nack =>
    intro h2
    have hapart : ∀ op, (twDoneFld op).Apart (F.TW_STAT_NACK_IDX 3) := fun op =>
      twDoneFld_cases (P := fun f => f.Apart (F.TW_STAT_NACK_IDX 3)) op (.inr (by decide)) (.inr (by decide))
    rw [twEnd_fld _ _ (by decide) (.inr (by decide)) hapart (.inr (by decide)), State.notifyNack, if_pos h2, fld_setFld_self _ _ _ (by decide)]
    exact Nat.mod_eq_of_lt (lt_trans acked.isLt (by decide))
  case errors =>
    intro h0
    rw [twEnd_errors _ _ (by omega), notifyNack_fld _ _ _ (.inl (by decide)), notifyDriven_fld]
  case frame =>
    have hnack : TwFrame (s.notifySent puts) ((s.notifyDriven puts).notifyNack ack acked)
        ([F.TW_STAT_RESULT 3, F.TW_STAT_NOTIFY_DONE 3, F.TW_STAT_BUSY 3] ++ (if notifyResult ack acked = 2 then [F.TW_STAT_NACK_IDX 3] else []) ++
          if notifyResult ack acked = 0 then [] else [F.TW_CNT_ERR_CNT 3, F.TW_CNT_SAT 3]) := by
      unfold State.notifyNack
      split
      · next h2 => exact ((TwFrame.refl _ _).withTw _).setFld _ (by simp) (by decide)
      · exact (TwFrame.refl _ _).withTw _
    refine TwFrame.known (s := s.notifySent puts) (hnack.twEnd _ (by simp) ?_ (by simp) ?_) ?_ ?_
    · rw [hthree, show twDoneFld ({ s.tw[3] with after := false, held := false } : TwS).op = F.TW_STAT_NOTIFY_DONE 3 from if_pos hop]
      simp
    · intro hr
      rw [if_neg (show notifyResult ack acked ≠ 0 by omega)]
      simp
    · rw [twEnd_tw, hthree, notifyNack_tw]
      exact tw_setThree_setThree _ _ _
    · rw [twEnd_out, notifyNack_out]
      rfl

/-- Settles O52: the target serves its own address, its staged bytes reach the file together, and a Host Notify ends with what it met. -/
theorem twoWireTarget : Obligations.TwoWireTarget := by
  unfold Obligations.TwoWireTarget
  refine ⟨?other, ?read, ?write, ?noTgt, ?stop, ?srIn, ?arb, ?notify, ?notifyIdle, ?notifyDone⟩
  case other =>
    intro addr read bs count s h
    refine completes_of_done ((exec_targetAddressMatch addr read bs count s).trans (if_neg ?_)) rfl
    rcases h with h | h | h | h
    · simp [h]
    · simp [h]
    · simp [Option.isSome_iff_ne_none.mp h]
    · simp [h]
  case read =>
    intro bs count s hen htgt hsda
    exact completes_of_done (exec_targetAddressMatch_own true bs count hen htgt hsda) (tgtServe_read s bs count.toNat)
  case write => exact fun p ds count s hen htgt hsda => targetAddressMatch_write p ds count hen htgt hsda
  case noTgt =>
    intro stop s h
    exact ⟨completes_of_done ((exec_targetStop s).trans (if_neg (by simp [h]))) rfl,
      completes_of_done ((exec_srInAck stop s).trans (if_pos (by simp [h]))) rfl⟩
  case stop =>
    intro k es s0
    dsimp only
    have h := targetStop_commits (s := { s0 with tw := s0.tw.set 3 { s0.tw[3] with tgt := some k, staged := es.map (fun e => (e.1.toNat, e.2)) } })
      (es := es.map (fun e => (e.1.toNat, e.2))) (by simp) (by simp)
    exact h
  case srIn =>
    intro k stop es s0
    exact srInAck_commits (s := { s0 with tw := s0.tw.set 3 { s0.tw[3] with tgt := some k, staged := es.map (fun e => (e.1.toNat, e.2)) } })
      (es := es.map (fun e => (e.1.toNat, e.2))) stop (by simp) (by simp)
  case arb => exact fun read ptr count s hop hmc hen htgt => arbLost_served read ptr count hop hmc hen htgt
  case notify => exact fun data s => hostNotify_completes data s
  case notifyIdle => exact fun ack acked s h => completes_of_done (exec_notifyDone_idle ack acked h) rfl
  case notifyDone => exact fun ack acked s hop hclear hsda => notifyDone_completes ack acked hop hclear hsda

end Sys2Proof.Machine
end
section
/-!
SUPPORT. Packets taken in from a host-to-device queue (R356 to R358, R362, R373): what taking one in changes, and what its end posts.
-/
namespace Sys2Proof.Machine

/-! ### Outputs only grow -/

theorem out_emit (s : State) (o : Out) : s.out <+: (s.emit o).out := by
  rw [emit_eq]
  exact ⟨_, rfl⟩

theorem out_emits (s : State) (l : List Out) : s.out <+: (l.foldl State.emit s).out := by
  induction l generalizing s with
  | nil => exact List.prefix_refl _
  | cons o l ih => exact (out_emit s o).trans (ih _)

theorem out_writeBack (s : State) (n v : Nat) : s.out <+: (s.writeBack n v).out := by
  unfold State.writeBack
  extract_lets a
  split
  · exact List.prefix_refl _
  · exact out_emit s _

theorem out_msix (s : State) (vec : Nat) : s.out <+: (s.msix vec).out := by
  obtain ⟨_, _, h⟩ := msix_eq s vec
  rw [h]
  exact ⟨_, rfl⟩

theorem out_signalQ (s : State) (c : Nat) : s.out <+: (s.signalQ c).out := by
  unfold State.signalQ
  split
  · exact List.prefix_refl _
  · extract_lets src s1
    exact (show s.out <+: s1.out from List.prefix_refl _).trans (out_msix s1 _)

/-! ### Registers of a queue -/

/-- A register of queue `n` that posting to Q(32 + c) leaves alone. -/
theorem fieldBits_postFields {c off : Nat} (h1 : R.HQ_TAIL (32 + c) ≠ off) (h2 : R.HQ_STAT (32 + c) ≠ off) (h3 : off < 0x00301000) :
    fieldBits (postFields c) off = 0 := by
  refine fieldBits_eq_zero fun f hf => ?_
  simp only [postFields, List.mem_cons, List.not_mem_nil, or_false] at hf
  rcases hf with rfl | rfl | rfl | rfl
  · exact h1
  · exact h2
  · exact fun h => absurd (show (0x00301000 : Nat) = off from h) (by omega)
  · exact fun h => absurd (show (0x00301004 : Nat) = off from h) (by omega)

theorem QueueFrame.rd {s v : State} {fs : List Fld} (h : QueueFrame s v fs) {off : Nat} (hz : fieldBits fs off = 0) : v.rd off = s.rd off :=
  Frame.rd h hz

theorem QueueFrame.mono {s v : State} {fs gs : List Fld} (h : QueueFrame s v fs) (hsub : ∀ f ∈ fs, f ∈ gs) : QueueFrame s v gs := Frame.mono h hsub

/-- CFG of a queue is not among what posting changes. -/
theorem rd_cfg_post {s v : State} {c : Nat} (h : QueueFrame s v (postFields c)) (n : Nat) (hn : n < 64) :
    v.rd (R.HQ_CFG n) = s.rd (R.HQ_CFG n) :=
  h.rd (fieldBits_postFields (by simp only [R.HQ_TAIL, R.HQ_CFG]; omega) (by simp only [R.HQ_STAT, R.HQ_CFG]; omega) (by simp only [R.HQ_CFG]; omega))

/-! ### An entry is posted -/

section Push
variable {s : State} {c : Nat} (e : HostEntry) (irq : Bool)

theorem slots_signalQ (s : State) (c : Nat) : (s.signalQ c).hq.slots = s.hq.slots := by
  unfold State.signalQ
  split
  · rfl
  · extract_lets src s1
    exact (congrArg HostqS.slots (hq_msix s1 _)).trans rfl

theorem fld_msix (s : State) (vec : Nat) {f : Fld} (h : f.off ≠ R.MSIX_PBA (vec / 32)) : (s.msix vec).fld f = s.fld f := fld_of_rd_eq f (rd_msix_ne s h)

theorem fld_signalQ (s : State) (c : Nat) {f : Fld} (h : f.off < 0x00301000) : (s.signalQ c).fld f = s.fld f := by
  unfold State.signalQ
  split
  · rfl
  · refine (fld_msix _ _ ?_).trans rfl
    simp only [R.MSIX_PBA]
    omega

theorem fld_writeBack (s : State) (n v : Nat) (f : Fld) : (s.writeBack n v).fld f = s.fld f := by
  unfold State.writeBack
  extract_lets a
  split
  · rfl
  · exact emit_fld s _ f

theorem fld_emits (s : State) (l : List Out) (f : Fld) : (l.foldl State.emit s).fld f = s.fld f := by
  induction l generalizing s with
  | nil => rfl
  | cons o l ih => exact (ih _).trans (emit_fld s o f)

/-- An entry posted to a queue in use: TAIL passes it, the bytes of the slots stay, and what was sent stays sent. -/
theorem pushEntry_tail (h : s.bit (F.HQ_CFG_EN (32 + c)) = true) (hc : c < 32) :
    (s.pushEntry c e irq).fld (F.HQ_TAIL_OFS (32 + c)) = (s.fld (F.HQ_TAIL_OFS (32 + c)) + e.ringBytes) % s.ringSize (32 + c) % 2 ^ 26 ∧
      (s.pushEntry c e irq).hq.slots = s.hq.slots ∧
      ((ringWrites (s.ringBase (32 + c)) (s.ringSize (32 + c)) (s.fld (F.HQ_TAIL_OFS (32 + c)))
        (e.toBytes c ++ zeros (e.ringBytes - (e.toBytes c).length))).foldl State.emit s).out <+: (s.pushEntry c e irq).out := by
  have hused : ¬ (!s.bit (F.HQ_CFG_EN (32 + c))) = true := by simp [h]
  have hoff : (F.HQ_TAIL_OFS (32 + c)).off ≠ (F.HQ_STAT_FULL (32 + c)).off := by
    change R.HQ_TAIL (32 + c) ≠ R.HQ_STAT (32 + c)
    simp only [R.HQ_TAIL, R.HQ_STAT]
    omega
  unfold State.pushEntry
  rw [if_neg hused]
  extract_lets n t0 t bs s1 s2 u src s3 s4 ith
  have hself : s2.fld (F.HQ_TAIL_OFS (32 + c)) = t % 2 ^ 26 := fld_setFld_self s1 (F.HQ_TAIL_OFS n) t (Fld.fits (by rfl))
  have hfull : (s3.updFull c).fld (F.HQ_TAIL_OFS (32 + c)) = s3.fld (F.HQ_TAIL_OFS (32 + c)) := fld_setFld_ne s3 (F.HQ_STAT_FULL (32 + c)) _ _ hoff
  have htail : s4.fld (F.HQ_TAIL_OFS (32 + c)) = t % 2 ^ 26 := (fld_writeBack _ n t _).trans (hfull.trans hself)
  have hslots : s4.hq.slots = s.hq.slots := by
    have hold : s2.hq = s.hq := hq_emits s _
    have hslots3 : (s3.updFull c).hq.slots = s.hq.slots := (congrArg (fun x : HostqS => x.slots) hold :)
    exact (congrArg HostqS.slots (hq_writeBack (s3.updFull c) n t)).trans hslots3
  have hout : s1.out <+: s4.out := out_writeBack (s3.updFull c) n t
  split
  · refine ⟨(fld_signalQ s4 c ?_).trans htail, (slots_signalQ s4 c).trans hslots, hout.trans (out_signalQ s4 c)⟩
    change R.HQ_TAIL (32 + c) < _
    simp only [R.HQ_TAIL]
    omega
  · exact ⟨htail, hslots, hout⟩

end Push

/-! ### Entries of one packet are posted -/

/-- The entries `es` have been posted to Q(32 + c): they stand at the end of what was posted, TAIL passes them, and the slots stay. -/
structure Posted (s v : State) (c : Nat) (es : List HostEntry) : Prop where
  frame  : QueueFrame s v (postFields c)
  posted : v.hq.posted = s.hq.posted ++ es.map (fun e => (c, e))
  tailMod : s.fld (F.HQ_CFG_SIZE (32 + c)) ≤ 26 →
    v.fld (F.HQ_TAIL_OFS (32 + c)) % s.ringSize (32 + c) = (s.fld (F.HQ_TAIL_OFS (32 + c)) + (es.map HostEntry.ringBytes).sum) % s.ringSize (32 + c)
  tailLt : es ≠ [] → s.fld (F.HQ_CFG_SIZE (32 + c)) ≤ 26 → v.fld (F.HQ_TAIL_OFS (32 + c)) < s.ringSize (32 + c)
  slots  : v.hq.slots = s.hq.slots
  sent   : s.out <+: v.out

theorem ringSize_le (s : State) {n : Nat} (h : s.fld (F.HQ_CFG_SIZE n) ≤ 26) : s.ringSize n ≤ 2 ^ 26 := Nat.pow_le_pow_right (by decide) h

theorem ringSize_pos (s : State) (n : Nat) : 0 < s.ringSize n := Nat.pow_pos (by decide)

theorem ringSize_of_rd {s v : State} {n : Nat} (h : v.rd (R.HQ_CFG n) = s.rd (R.HQ_CFG n)) : v.ringSize n = s.ringSize n := by
  rw [State.ringSize, State.ringSize, fld_of_rd_eq (F.HQ_CFG_SIZE n) h]

theorem Posted.one {s : State} {c : Nat} (e : HostEntry) (irq : Bool) (h : s.bit (F.HQ_CFG_EN (32 + c)) = true) (hc : c < 32) :
    Posted s (s.pushEntry c e irq) c [e] := by
  obtain ⟨hposted, hframe⟩ := pushEntry_posts e irq h
  obtain ⟨htail, hslots, hout⟩ := pushEntry_tail e irq h hc
  have hmod : s.fld (F.HQ_CFG_SIZE (32 + c)) ≤ 26 → (s.pushEntry c e irq).fld (F.HQ_TAIL_OFS (32 + c)) =
      (s.fld (F.HQ_TAIL_OFS (32 + c)) + e.ringBytes) % s.ringSize (32 + c) := fun hsize =>
    htail.trans (Nat.mod_eq_of_lt (lt_of_lt_of_le (Nat.mod_lt _ (ringSize_pos s _)) (ringSize_le s hsize)))
  refine ⟨hframe, hposted, fun hsize => ?_, fun _ hsize => ?_, hslots, (out_emits s _).trans hout⟩
  · rw [hmod hsize, Nat.mod_mod, List.map_singleton, List.sum_singleton]
  · rw [hmod hsize]
    exact Nat.mod_lt _ (ringSize_pos s _)

theorem Posted.snoc {s t v : State} {c : Nat} {es : List HostEntry} {e : HostEntry} (hc : c < 32) (h : Posted s t c es) (k : Posted t v c [e]) :
    Posted s v c (es ++ [e]) := by
  have hcfg := rd_cfg_post h.frame (32 + c) (by omega)
  have hring := ringSize_of_rd hcfg
  have hsize : s.fld (F.HQ_CFG_SIZE (32 + c)) ≤ 26 → t.fld (F.HQ_CFG_SIZE (32 + c)) ≤ 26 := fun h26 => (fld_of_rd_eq _ hcfg).trans_le h26
  refine ⟨h.frame.trans k.frame, ?_, fun h26 => ?_, fun _ h26 => hring ▸ k.tailLt (by simp) (hsize h26), k.slots.trans h.slots, h.sent.trans k.sent⟩
  · rw [k.posted, h.posted, List.append_assoc, List.map_append]
  · have hk := k.tailMod (hsize h26)
    rw [hring] at hk
    rw [hk, Nat.add_mod, h.tailMod h26, ← Nat.add_mod, List.map_append, List.sum_append, Nat.add_assoc]

theorem Posted.all {s : State} {c : Nat} (es : List HostEntry) (irq : HostEntry → Bool) (h : s.bit (F.HQ_CFG_EN (32 + c)) = true) (hc : c < 32) :
    Posted s (es.foldl (fun s e => s.pushEntry c e (irq e)) s) c es := by
  induction es using List.reverseRecOn with
  | nil => exact ⟨QueueFrame.refl s _, by simp, fun _ => by simp, fun hne => absurd rfl hne, rfl, List.prefix_refl _⟩
  | append_singleton es e ih =>
    rw [List.foldl_append]
    have hen : (es.foldl (fun s e => s.pushEntry c e (irq e)) s).bit (F.HQ_CFG_EN (32 + c)) = true :=
      (bit_of_rd_eq (F.HQ_CFG_EN (32 + c)) (rd_cfg_post ih.frame (32 + c) (by omega))).trans h
    exact ih.snoc hc (Posted.one e (irq e) hen hc)

/-! ### The end of a packet (R367, R371, R373) -/

/-- The entries a packet's end posts. -/
def endEntries (q : Nat) (h : PktHdr) (st result : Nat) (data : List OutPkt) : List HostEntry :=
  if hNoComp h && st = 0 then [] else data.map HostEntry.pkt ++ [.comp { src := q, status := st, tag := h.tag, flags := 0, result := result }]

/-- Other slots. -/
def State.withSlots (s : State) (x : Vector (List Slot) 32) : State := { s with hq := { s.hq with slots := x } }

theorem QueueFrame.withSlots {s v : State} {fs : List Fld} (h : QueueFrame s v fs) (x y : Vector (List Slot) 32) :
    QueueFrame (s.withSlots x) (v.withSlots y) fs :=
  Frame.of_eq h rfl rfl rfl rfl rfl rfl (congrArg (fun r : State => { r with hq := { v.hq with slots := y } }) h.rest)

/-- A queue whose only packet under way is complete posts its entries, and has none under way. -/
theorem flushSlots_one {s : State} {q : Fin 32} {t : Slot} {es : List HostEntry} (hslot : s.hq.slots[q] = [t]) (hes : t.entries = some es) :
    let u := es.foldl (fun s e => s.pushEntry t.cq e (t.irq && e.isComp)) s
    s.flushSlots q = u.withSlots (u.hq.slots.set q []) := by
  intro u
  have hflush : flushList s [t] = (u, []) := by
    rw [flushList, hes]
    rfl
  rw [State.flushSlots, vget_fin, hslot, hflush]
  dsimp only
  rw [vput_fin]
  rfl

/-- The end of the only packet under way: its entries are posted, then its slot is gone. -/
theorem finish_one {s : State} {q : Fin 32} {h : PktHdr} {t : Slot} (st result : Nat) (data : List OutPkt) (hslot : s.hq.slots[q] = [t]) :
    let es := endEntries q h st result data
    let u := es.foldl (fun s e => s.pushEntry t.cq e (t.irq && e.isComp)) (s.withSlots (s.hq.slots.set q [{ t with entries := some es }]))
    s.finish q h t.key st result data = { u.withSlots (u.hq.slots.set q []) with lastStatus := BitVec.ofNat 8 st } := by
  intro es u
  have hmap : [t].map (fun x => if x.key = t.key then { x with entries := some es } else x) = [{ t with entries := some es }] := by
    rw [List.map_singleton, if_pos rfl]
  have hclose : s.closeSlot q t.key es = u.withSlots (u.hq.slots.set q []) := by
    rw [State.closeSlot, vget_fin, hslot]
    dsimp only
    rw [hmap, vput_fin]
    exact flushSlots_one (s := s.withSlots _) (t := { t with entries := some es }) (Vector.getElem_set_self _) rfl
  exact congrArg (fun r : State => r.status st) hclose

theorem Posted.emptied {s u : State} {c : Nat} {es : List HostEntry} {x : Vector (List Slot) 32} {q : Fin 32} (h : Posted (s.withSlots x) u c es)
    (hx : x.set q [] = s.hq.slots.set q []) : Posted (s.withSlots (s.hq.slots.set q [])) (u.withSlots (u.hq.slots.set q [])) c es := by
  refine ⟨h.frame.withSlots _ _, h.posted, h.tailMod, h.tailLt, ?_, h.sent⟩
  change u.hq.slots.set q [] = s.hq.slots.set q []
  rw [h.slots]
  exact hx

/-- The end of the only packet under way of queue `q` posts its entries, and leaves no slot. -/
theorem finish_posted {s : State} {q : Fin 32} {h : PktHdr} {t : Slot} (st result : Nat) (data : List OutPkt) (hslot : s.hq.slots[q] = [t])
    (hc : t.cq < 32) (hen : s.bit (F.HQ_CFG_EN (32 + t.cq)) = true) :
    ∃ v, s.finish q h t.key st result data = { v with lastStatus := BitVec.ofNat 8 st } ∧
      Posted (s.withSlots (s.hq.slots.set q [])) v t.cq (endEntries q h st result data) := by
  have hall := Posted.all (s := s.withSlots (s.hq.slots.set q [{ t with entries := some (endEntries q h st result data) }]))
    (endEntries q h st result data) (fun e => t.irq && e.isComp) hen hc
  exact ⟨_, finish_one st result data hslot, hall.emptied (by rw [Vector.set_set])⟩

/-! ### A packet is taken in (R357, R358) -/

/-- The slot of the packet at HEAD of queue `q`. -/
def State.newSlot (s : State) (q : Nat) (h : PktHdr) (room : Nat) : Slot :=
  { key := s.hq.slotCtr, bell := match s.bellOf q with | some b => b.no | none => 0, room := room, entries := none, irq := hIrq h,
    cq := s.fld (F.HQ_CFG_CQ q) }

/-- The fields of a queue that taking in a packet changes. -/
def takeFields (q : Nat) : List Fld := [F.HQ_HEAD_OFS q, F.HQ_STAT_CQ_WAIT q]

/-- From `s` to `u` the packet at HEAD of queue `q` has been taken in. -/
structure Taken (s u : State) (q : Fin 32) (len : Nat) (t : Slot) : Prop where
  frame  : QueueFrame s u (takeFields q)
  head   : s.fld (F.HQ_CFG_SIZE q) ≤ 26 → u.fld (F.HQ_HEAD_OFS q) = (s.fld (F.HQ_HEAD_OFS q) + pktBytes len) % 2 ^ s.fld (F.HQ_CFG_SIZE q)
  slots  : u.hq.slots = s.hq.slots.set q [t]
  posted : u.hq.posted = s.hq.posted
  sent   : s.out <+: u.out

theorem rd_cfg_take {s v : State} {q : Nat} (h : QueueFrame s v (takeFields q)) (n : Nat) : v.rd (R.HQ_CFG n) = s.rd (R.HQ_CFG n) := by
  refine h.rd (fieldBits_eq_zero fun f hf => ?_)
  simp only [takeFields, List.mem_cons, List.not_mem_nil, or_false] at hf
  rcases hf with rfl | rfl
  · change R.HQ_HEAD q ≠ R.HQ_CFG n
    simp only [R.HQ_HEAD, R.HQ_CFG]
    omega
  · change R.HQ_STAT q ≠ R.HQ_CFG n
    simp only [R.HQ_STAT, R.HQ_CFG]
    omega

/-- HEAD has passed a packet of `len` data bytes, and the doorbells `b` are still open. -/
def State.headPast (s : State) (q len : Nat) (b : List Bell) : State :=
  { s.setFld (F.HQ_HEAD_OFS q) ((s.fld (F.HQ_HEAD_OFS q) + pktBytes len) % s.ringSize q) with hq := { s.hq with bells := b } }

theorem advance_eq (s : State) (q len : Nat) :
    ∃ b, s.advance q len = (s.headPast q len b).writeBack q ((s.fld (F.HQ_HEAD_OFS q) + pktBytes len) % s.ringSize q) := ⟨_, rfl⟩

theorem advance_taken {s : State} (q : Fin 32) (len : Nat) :
    QueueFrame s (s.advance q len) (takeFields q) ∧
      (s.advance q len).fld (F.HQ_HEAD_OFS q) = (s.fld (F.HQ_HEAD_OFS q) + pktBytes len) % s.ringSize q % 2 ^ 26 ∧
      (∃ b, (s.advance q len).hq = { s.hq with bells := b }) ∧ s.out <+: (s.advance q len).out := by
  obtain ⟨b, h⟩ := advance_eq s q len
  rw [h]
  have hset : QueueFrame s (s.setFld (F.HQ_HEAD_OFS q) ((s.fld (F.HQ_HEAD_OFS q) + pktBytes len) % s.ringSize q)) (takeFields q) :=
    ((Frame.refl s _).setFld (f := F.HQ_HEAD_OFS q) _ (by simp [takeFields]) (Fld.fits (by rfl))).toQueue
  have hpast : QueueFrame s (s.headPast q len b) (takeFields q) := hset.trans (queueFrame_withHq _ _ _)
  refine ⟨hpast.trans (queueFrame_writeBack _ _ _ _), (fld_writeBack _ _ _ _).trans ?_, ⟨b, hq_writeBack _ _ _⟩, out_writeBack (s.headPast q len b) _ _⟩
  exact fld_setFld_self s (F.HQ_HEAD_OFS q) _ (Fld.fits (by rfl))

theorem takeIn_key (s : State) (q : Fin 32) (h : PktHdr) (room : Nat) : (s.takeIn q h room).1 = s.hq.slotCtr := by
  obtain ⟨b, hb⟩ := (advance_taken (s := s.setFld (F.HQ_STAT_CQ_WAIT q) 0) q h.len).2.2.1
  exact (congrArg HostqS.slotCtr hb).trans rfl

theorem takeIn_taken {s : State} {q : Fin 32} (h : PktHdr) (room : Nat) (hfirst : s.hq.slots[q] = []) :
    Taken s (s.takeIn q h room).2 q h.len (s.newSlot q h room) := by
  obtain ⟨hframe, hhead, ⟨b, hhq⟩, hout⟩ := advance_taken (s := s.setFld (F.HQ_STAT_CQ_WAIT q) 0) q h.len
  have hwait : QueueFrame s (s.setFld (F.HQ_STAT_CQ_WAIT q) 0) (takeFields q) :=
    ((Frame.refl s _).setFld (f := F.HQ_STAT_CQ_WAIT q) 0 (by simp [takeFields]) (Fld.fits (by rfl))).toQueue
  have hboth := hwait.trans hframe
  have hold : (s.setFld (F.HQ_STAT_CQ_WAIT q) 0).fld (F.HQ_HEAD_OFS q) = s.fld (F.HQ_HEAD_OFS q) := by
    refine fld_setFld_ne s _ _ _ ?_
    change R.HQ_HEAD q ≠ R.HQ_STAT q
    simp only [R.HQ_HEAD, R.HQ_STAT]
    omega
  have hring : (s.setFld (F.HQ_STAT_CQ_WAIT q) 0).ringSize q = s.ringSize q := ringSize_of_rd (rd_cfg_take hwait q)
  refine ⟨hboth.trans (queueFrame_withHq _ _ _), fun hsize => ?_, ?_, ?_, hout⟩
  · refine hhead.trans ?_
    rw [hold, hring]
    exact Nat.mod_eq_of_lt (lt_of_lt_of_le (Nat.mod_lt _ (ringSize_pos s q)) (ringSize_le s hsize))
  · have hslots : ((s.setFld (F.HQ_STAT_CQ_WAIT q) 0).advance q h.len).hq.slots = s.hq.slots := (congrArg HostqS.slots hhq).trans rfl
    have hcq : ((s.setFld (F.HQ_STAT_CQ_WAIT q) 0).advance q h.len).fld (F.HQ_CFG_CQ q) = s.fld (F.HQ_CFG_CQ q) :=
      fld_of_rd_eq _ (rd_cfg_take hboth q)
    have hctr : ((s.setFld (F.HQ_STAT_CQ_WAIT q) 0).advance q h.len).hq.slotCtr = s.hq.slotCtr := (congrArg HostqS.slotCtr hhq).trans rfl
    rw [State.takeIn]
    dsimp only [State.openSlot]
    rw [vget_fin, vput_fin, hslots, hfirst, List.nil_append, hcq, hctr]
    rfl
  · exact (congrArg HostqS.posted hhq).trans rfl

end Sys2Proof.Machine
end
section
/-!
SUPPORT. How a packet ends in the queue's own order (R358, R362, R371, R373): the branches of `State.packet`, and the completion of the packet taken in.
-/
namespace Sys2Proof.Machine

/-! ### Room (R356) -/

theorem hasRoom_mono {s : State} {c n m : Nat} (h : s.hasRoom c m = true) (hnm : n ≤ m) : s.hasRoom c n = true := by
  unfold State.hasRoom at h ⊢
  simp only [Bool.and_eq_true, decide_eq_true_eq] at h ⊢
  exact ⟨h.1, by omega⟩

theorem enabled_of_hasRoom {s : State} {c n : Nat} (h : s.hasRoom c n = true) : s.bit (F.HQ_CFG_EN (32 + c)) = true := by
  unfold State.hasRoom at h
  simp only [Bool.and_eq_true] at h
  exact h.1

theorem cq_lt (s : State) (q : Nat) : s.fld (F.HQ_CFG_CQ q) < 32 := fld_lt s (F.HQ_CFG_CQ q)

/-! ### The branches of `State.packet` -/

section Packet
variable {s : State} {q : Fin 32} (opc : Nat) (h : PktHdr) (may : Bool) (extra : Nat) (lt pa : State → Nat) (body : State → Nat → State)

theorem packet_unoffered (ho : s.offers q = false) : s.packet q opc h may extra lt pa body = s := by
  rw [State.packet, if_pos (by simp [ho])]

theorem packet_badHeader (ho : s.offers q = true) (hcrc : h.hcrcOk = false) : s.packet q opc h may extra lt pa body = s.hcrcFail q := by
  rw [State.packet, if_neg (by simp [ho]), if_pos (by simp [hcrc])]

theorem hcrcFail_waits (hroom : s.hasRoom (s.fld (F.HQ_CFG_CQ q)) 16 = false) : s.hcrcFail q = s.setFld (F.HQ_STAT_CQ_WAIT q) 1 := by
  rw [State.hcrcFail, State.haltQueue, if_pos (by simp [hroom]), flag_eq]

/-- Without room for its completion a packet only waits (R358). -/
theorem packet_waits (ho : s.offers q = true) (hfence : hFence h = false) (hroom : s.hasRoom (s.fld (F.HQ_CFG_CQ q)) 16 = false) :
    s.packet q opc h may extra lt pa body = s.setFld (F.HQ_STAT_CQ_WAIT q) 1 := by
  cases hcrc : h.hcrcOk with
  | false => rw [packet_badHeader opc h may extra lt pa body ho hcrc, hcrcFail_waits hroom]
  | true =>
    have hmore : s.hasRoom (s.fld (F.HQ_CFG_CQ q)) (16 + extra) = false := by
      rw [Bool.eq_false_iff] at hroom ⊢
      exact fun hm => hroom (hasRoom_mono hm (by omega))
    rw [State.packet, if_neg (by simp [ho]), if_neg (by simp [hcrc]), if_neg (by simp [hfence]), if_pos (by simp [hmore]), flag_eq]

/-- A packet that is taken in: its checks decide between its effect and an error. -/
theorem packet_taken (ho : Offered s q (16 + extra)) (hcrc : h.hcrcOk = true) (hfence : hFence h = false) :
    s.packet q opc h may extra lt pa body =
      (let u := (s.takeIn q h (16 + extra)).2
       if hdrStatus q opc h may (lt u) (pa u) = 0 then body u s.hq.slotCtr
       else u.finish q h s.hq.slotCtr (hdrStatus q opc h may (lt u) (pa u)) 0) := by
  rw [State.packet, if_neg (by simp [ho.offers]), if_neg (by simp [hcrc]), if_neg (by simp [hfence]), if_neg (by simp [ho.room])]
  dsimp only
  rw [takeIn_key]

end Packet

/-! ### The completion of the packet taken in -/

/-- From `u` to `w` a packet's effect leaves HOSTQ's registers, what was posted and what is owed alone. -/
structure Worked (u w : State) : Prop where
  regs   : ∀ off, 0x00200000 ≤ off → off < 0x00302000 → w.rd off = u.rd off
  slots  : w.hq.slots = u.hq.slots
  posted : w.hq.posted = u.hq.posted
  sent   : u.out <+: w.out

theorem Worked.refl (u : State) : Worked u u := ⟨fun _ _ _ => rfl, rfl, rfl, List.prefix_refl _⟩

theorem Worked.rd_cfg {u w : State} (h : Worked u w) {n : Nat} (hn : n < 64) : w.rd (R.HQ_CFG n) = u.rd (R.HQ_CFG n) :=
  h.regs _ (by simp only [R.HQ_CFG]; omega) (by simp only [R.HQ_CFG]; omega)

theorem Worked.tail {u w : State} (h : Worked u w) {n : Nat} (hn : n < 64) : w.fld (F.HQ_TAIL_OFS n) = u.fld (F.HQ_TAIL_OFS n) :=
  fld_of_rd_eq (F.HQ_TAIL_OFS n) (h.regs (R.HQ_TAIL n) (by simp only [R.HQ_TAIL]; omega) (by simp only [R.HQ_TAIL]; omega))

theorem Worked.head {u w : State} (h : Worked u w) {n : Nat} (hn : n < 64) : w.fld (F.HQ_HEAD_OFS n) = u.fld (F.HQ_HEAD_OFS n) :=
  fld_of_rd_eq (F.HQ_HEAD_OFS n) (h.regs (R.HQ_HEAD n) (by simp only [R.HQ_HEAD]; omega) (by simp only [R.HQ_HEAD]; omega))

theorem tail_take {s u : State} {q : Nat} (h : QueueFrame s u (takeFields q)) (n : Nat) : u.fld (F.HQ_TAIL_OFS n) = s.fld (F.HQ_TAIL_OFS n) := by
  refine fld_of_rd_eq (F.HQ_TAIL_OFS n) (h.rd (off := R.HQ_TAIL n) (fieldBits_eq_zero fun f hf => ?_))
  simp only [takeFields, List.mem_cons, List.not_mem_nil, or_false] at hf
  rcases hf with rfl | rfl
  · change R.HQ_HEAD q ≠ R.HQ_TAIL n
    simp only [R.HQ_HEAD, R.HQ_TAIL]
    omega
  · change R.HQ_STAT q ≠ R.HQ_TAIL n
    simp only [R.HQ_STAT, R.HQ_TAIL]
    omega

theorem head_post {s v : State} {c : Nat} (h : QueueFrame s v (postFields c)) {n : Nat} (hn : n < 64) : v.fld (F.HQ_HEAD_OFS n) = s.fld (F.HQ_HEAD_OFS n) :=
  fld_of_rd_eq (F.HQ_HEAD_OFS n) (h.rd (off := R.HQ_HEAD n) (fieldBits_postFields (by simp only [R.HQ_HEAD, R.HQ_TAIL]; omega)
    (by simp only [R.HQ_HEAD, R.HQ_STAT]; omega) (by simp only [R.HQ_HEAD]; omega)))

theorem slots_setEmpty {x : Vector (List Slot) 32} {q : Fin 32} (h : x[q] = []) : x.set q [] = x := by
  rw [← h]
  exact Vector.set_getElem_self _

/-- The end of the packet taken in from `s`, after its effect. -/
theorem finish_answered {s u w : State} {q : Fin 32} {h : PktHdr} {n room : Nat} (st result : Nat) (data : List OutPkt) (ho : Offered s q n)
    (ht : Taken s u q h.len (s.newSlot q h room)) (hw : Worked u w) :
    ∃ v, w.finish q h s.hq.slotCtr st result data = { v with lastStatus := BitVec.ofNat 8 st } ∧
      Answered s { v with lastStatus := BitVec.ofNat 8 st } q h.len st (endEntries q h st result data) ∧
      QueueFrame w v (postFields (s.fld (F.HQ_CFG_CQ q))) := by
  have hc := cq_lt s q
  have hslot : w.hq.slots[q] = [s.newSlot q h room] := by
    rw [hw.slots, ht.slots]
    exact Vector.getElem_set_self _
  have hcfg : w.rd (R.HQ_CFG (32 + s.fld (F.HQ_CFG_CQ q))) = s.rd (R.HQ_CFG (32 + s.fld (F.HQ_CFG_CQ q))) :=
    (hw.rd_cfg (by omega)).trans (rd_cfg_take ht.frame _)
  have hen : w.bit (F.HQ_CFG_EN (32 + s.fld (F.HQ_CFG_CQ q))) = true := (bit_of_rd_eq _ hcfg).trans (enabled_of_hasRoom ho.room)
  obtain ⟨v, hv, hp⟩ : ∃ v, w.finish q h s.hq.slotCtr st result data = { v with lastStatus := BitVec.ofNat 8 st } ∧
      Posted (w.withSlots (w.hq.slots.set q [])) v (s.fld (F.HQ_CFG_CQ q)) (endEntries q h st result data) :=
    finish_posted st result data hslot hc hen
  generalize hes : endEntries q h st result data = es at hp
  generalize hcq : s.fld (F.HQ_CFG_CQ q) = c at *
  have hring : w.ringSize (32 + c) = s.ringSize (32 + c) := ringSize_of_rd hcfg
  have hsize : w.fld (F.HQ_CFG_SIZE (32 + c)) = s.fld (F.HQ_CFG_SIZE (32 + c)) := fld_of_rd_eq _ hcfg
  have htail : w.fld (F.HQ_TAIL_OFS (32 + c)) = s.fld (F.HQ_TAIL_OFS (32 + c)) := (hw.tail (by omega)).trans (tail_take ht.frame _)
  have hhead : v.fld (F.HQ_HEAD_OFS q) = u.fld (F.HQ_HEAD_OFS q) := (head_post hp.frame (by omega)).trans (hw.head (by omega))
  have hposted : v.hq.posted = s.hq.posted ++ es.map (fun e => (c, e)) :=
    hp.posted.trans (congrArg (fun l => l ++ es.map (fun e => (c, e))) (hw.posted.trans ht.posted))
  have htails : es ≠ [] → s.fld (F.HQ_CFG_SIZE (32 + c)) ≤ 26 →
      v.fld (F.HQ_TAIL_OFS (32 + c)) = (s.fld (F.HQ_TAIL_OFS (32 + c)) + (es.map HostEntry.ringBytes).sum) % s.ringSize (32 + c) := by
    intro hne h26
    have hlt : v.fld (F.HQ_TAIL_OFS (32 + c)) < w.ringSize (32 + c) := hp.tailLt hne (hsize.trans_le h26)
    have hmod : v.fld (F.HQ_TAIL_OFS (32 + c)) % w.ringSize (32 + c) = (w.fld (F.HQ_TAIL_OFS (32 + c)) + (es.map HostEntry.ringBytes).sum) % w.ringSize (32 + c) :=
      hp.tailMod (hsize.trans_le h26)
    rw [Nat.mod_eq_of_lt hlt, htail, hring] at hmod
    exact hmod
  have hslots : v.hq.slots = s.hq.slots := by
    have hset : v.hq.slots = w.hq.slots.set q [] := hp.slots
    rw [hset, hw.slots, ht.slots, Vector.set_set, slots_setEmpty ho.first]
  refine ⟨v, hv, ⟨fun h26 => hhead.trans (ht.head h26), ?_, ?_, hslots, rfl, ht.sent.trans (hw.sent.trans hp.sent)⟩, (queueFrame_withHq w _ _).trans hp.frame⟩
  · rw [hcq]
    exact hposted
  · rw [hcq]
    exact htails

end Sys2Proof.Machine
end
section
/-!
PROOFS. The checks that come before a packet's own: without an offer, without room, with a bad header (R358, R361, R362, R373).
-/
namespace Sys2Proof.Machine

/-! ### Every packet command is `State.packet` -/

/-- The opcodes of packets to the device (R363). -/
def packetOpcodes : List Nat := [0, 1, 2, 3, 0x10, 0x11, 0x20, 0x30, 0x40, 0x50]

theorem dataRoom_le (n : Nat) : dataRoom n 65532 ≤ 65584 := by
  unfold dataRoom pktBytes
  split
  · split <;> omega
  · omega

/-- A command that takes in a packet of queue `q`, with an opcode of its own. -/
structure TakesPacket (c : Instr) (q : Fin 32) (pkt : List Byte) (opc : Nat) (may : Bool) (extra : Nat) (lt pa : State → Nat)
    (body : State → Nat → State) : Prop where
  known : opc ∈ packetOpcodes
  room  : extra ≤ 65584
  runs  : ∀ s, exec c s = done s (s.packet q opc (pktHdr pkt) may extra lt pa body)

theorem takesPacket_of_mem {c : Instr} {q : Fin 32} {pkt : List Byte} (h : c ∈ packetCommands q pkt) :
    ∃ opc may extra lt pa body, TakesPacket c q pkt opc may extra lt pa body := by
  simp only [packetCommands, List.mem_cons, List.not_mem_nil, or_false] at h
  rcases h with rfl | rfl | rfl | rfl | rfl | rfl | rfl | rfl | rfl | rfl
  · exact ⟨0, true, 0, _, _, _, by decide, by decide, fun _ => rfl⟩
  · exact ⟨0x30, true, 0, _, _, _, by decide, by decide, fun _ => rfl⟩
  · exact ⟨2, false, dataRoom (4 * (pktHdr pkt).param0) 65532, _, _, _, by decide, dataRoom_le _, fun _ => rfl⟩
  · exact ⟨3, true, 0, _, _, _, by decide, by decide, fun _ => rfl⟩
  · exact ⟨1, true, 0, _, _, _, by decide, by decide, fun _ => rfl⟩
  · exact ⟨0x11, false, dataRoom (pktHdr pkt).param0 65532, _, _, _, by decide, dataRoom_le _, fun _ => rfl⟩
  · exact ⟨0x10, true, 0, _, _, _, by decide, by decide, fun _ => rfl⟩
  · exact ⟨0x20, _, 0, _, _, _, by decide, by decide, fun _ => rfl⟩
  · exact ⟨0x50, true, 0, _, _, _, by decide, by decide, fun _ => rfl⟩
  · exact ⟨0x40, false, if bitN (pktHdr pkt).param0 1 then 32 else 0, _, _, _, by decide, by split <;> decide, fun _ => rfl⟩

/-! ### The checks in their order (R362) -/

section Checks
variable {q opc : Nat} {h : PktHdr} {may : Bool} {lt pa : Nat}

theorem hdrStatus_qid (h1 : h.qid ≠ q) : hdrStatus q opc h may lt pa = 7 := by rw [hdrStatus, if_pos h1]

theorem hdrStatus_rsvd (h1 : h.qid = q) (h2 : h.rsvd ≠ 0) : hdrStatus q opc h may lt pa = 8 := by
  rw [hdrStatus, if_neg (by simp [h1]), if_pos h2]

theorem hdrStatus_pcrc (h1 : h.qid = q) (h2 : h.rsvd = 0) (h3 : h.len ≠ 0) (h4 : h.pcrcOk = false) : hdrStatus q opc h may lt pa = 2 := by
  rw [hdrStatus, if_neg (by simp [h1]), if_neg (by simp [h2]), if_pos (by simp [h3, h4])]

theorem hdrStatus_opc (h1 : h.qid = q) (h2 : h.rsvd = 0) (h3 : h.len ≠ 0 → h.pcrcOk = true) (h4 : h.opc ≠ opc) : hdrStatus q opc h may lt pa = 3 := by
  have hcrc : ¬ (decide (h.len ≠ 0) && !h.pcrcOk) = true := by
    by_cases hl : h.len = 0
    · simp [hl]
    · simp [h3 hl]
  rw [hdrStatus, if_neg (by simp [h1]), if_neg (by simp [h2]), if_neg hcrc, if_pos h4]

end Checks

/-! ### A packet that fails a check -/

/-- The frame of a packet whose effect was nothing. -/
theorem answered_frame {s u v : State} {q : Fin 32} (hu : QueueFrame s u (takeFields q)) (hv : QueueFrame u v (postFields (s.fld (F.HQ_CFG_CQ q))))
    (st : Nat) : Frame { s with hq := v.hq, out := v.out, lastStatus := BitVec.ofNat 8 st } { v with lastStatus := BitVec.ofNat 8 st } (packetFields s q) := by
  have hboth : QueueFrame s v (packetFields s q) := by
    refine (hu.mono ?_).trans (hv.mono ?_)
    · intro f hf
      simp only [takeFields, List.mem_cons, List.not_mem_nil, or_false] at hf
      rcases hf with rfl | rfl <;> simp [packetFields]
    · intro f hf
      simp only [postFields, List.mem_cons, List.not_mem_nil, or_false] at hf
      rcases hf with rfl | rfl | rfl | rfl <;> simp [packetFields]
  exact Frame.withStatus hboth _

theorem endEntries_error (q : Nat) (h : PktHdr) {st : Nat} (hne : st ≠ 0) :
    endEntries q h st 0 [] = [.comp { src := q, status := st, tag := h.tag, result := 0 }] := by
  rw [endEntries, if_neg (by simp [hne])]
  rfl

/-- A packet that fails a check is completed with its status and does nothing. -/
theorem packet_fails {c : Instr} {s : State} {q : Fin 32} {pkt : List Byte} {opc : Nat} {may : Bool} {extra : Nat} {lt pa : State → Nat}
    {body : State → Nat → State} (hc : TakesPacket c q pkt opc may extra lt pa body) (ho : Offered s q 65600) (hfence : hFence (pktHdr pkt) = false)
    (hcrc : (pktHdr pkt).hcrcOk = true) {st : Nat} (hst : ∀ a b, hdrStatus q opc (pktHdr pkt) may a b = st) (hne : st ≠ 0) :
    Completes c s (fun v => Answered s v q (pktHdr pkt).len st [compOf q pkt st 0] ∧
      Frame { s with hq := v.hq, out := v.out, lastStatus := BitVec.ofNat 8 st } v (packetFields s q)) := by
  have hextra := hc.room
  have hoff : Offered s q (16 + extra) := ⟨ho.offers, hasRoom_mono ho.room (by omega), ho.first⟩
  have ht := takeIn_taken (q := q) (pktHdr pkt) (16 + extra) ho.first
  obtain ⟨v, hv, hans, hframe⟩ := finish_answered st 0 [] hoff ht (Worked.refl _)
  rw [endEntries_error q (pktHdr pkt) hne] at hans
  have hx := hc.runs s
  rw [packet_taken opc _ may extra lt pa body hoff hcrc hfence] at hx
  dsimp only at hx
  rw [hst, if_neg hne, hv] at hx
  exact completes_of_done hx ⟨hans, answered_frame ht.frame hframe st⟩

/-! ### A bad header halts the queue (R361, R373) -/

/-- What the halt of queue `q` sets before it posts. -/
def State.headerBad (s : State) (q : Nat) : State :=
  ((s.setFld (F.HQ_STAT_CQ_WAIT q) 0).setFld (F.HQ_STAT_HALT q) 1).setFld (F.HQ_STAT_HDR_ERR q) 1

/-- The fields of a queue that its halt sets. -/
def haltFields (q : Nat) : List Fld := [F.HQ_STAT_HALT q, F.HQ_STAT_HDR_ERR q, F.HQ_STAT_CQ_WAIT q]

section Halt
variable (s : State) (q : Fin 32)

theorem headerBad_frame : Frame s (s.headerBad q) (haltFields q) :=
  (((Frame.refl s _).setFld (f := F.HQ_STAT_CQ_WAIT q) 0 (by simp [haltFields]) (Fld.fits (by rfl))).setFld (f := F.HQ_STAT_HALT q) 1 (by simp [haltFields]) (Fld.fits (by rfl))).setFld
    (f := F.HQ_STAT_HDR_ERR q) 1 (by simp [haltFields]) (Fld.fits (by rfl))

theorem haltFields_off {f : Fld} (h : f ∈ haltFields q) : f.off = R.HQ_STAT q := by
  simp only [haltFields, List.mem_cons, List.not_mem_nil, or_false] at h
  rcases h with rfl | rfl | rfl <;> rfl

theorem headerBad_rd {off : Nat} (h : off ≠ R.HQ_STAT q) : (s.headerBad q).rd off = s.rd off :=
  (headerBad_frame s q).rd (fieldBits_eq_zero fun f hf => by rw [haltFields_off q hf]; exact h.symm)

theorem halt_apart : (F.HQ_STAT_HDR_ERR q).Apart (F.HQ_STAT_HALT q) := .inr (.inl (Nat.le_refl 1))

theorem headerBad_halt : (s.headerBad q).bit (F.HQ_STAT_HALT q) = true := by
  rw [State.headerBad, bit_setFld_apart _ _ (Fld.fits (by rfl)) (halt_apart q), bit_setFld_self _ _ _ (Fld.fits (by rfl)) rfl]
  rfl

theorem headerBad_err : (s.headerBad q).bit (F.HQ_STAT_HDR_ERR q) = true := by
  rw [State.headerBad, bit_setFld_self _ _ _ (Fld.fits (by rfl)) rfl]
  rfl

theorem openSlot_rd (room bell : Nat) (irq : Bool) (off : Nat) : (s.openSlot q room bell irq).2.rd off = s.rd off := rfl

theorem openSlot_frame (room bell : Nat) (irq : Bool) (fs : List Fld) : QueueFrame s (s.openSlot q room bell irq).2 fs := queueFrame_withHq s _ fs

theorem openSlot_posted (room bell : Nat) (irq : Bool) : (s.openSlot q room bell irq).2.hq.posted = s.hq.posted := rfl

theorem openSlot_slots (room bell : Nat) (irq : Bool) (h : s.hq.slots[q] = []) :
    (s.openSlot q room bell irq).2.hq.slots[q] =
      [{ key := s.hq.slotCtr, bell := bell, room := room, entries := none, irq := irq, cq := s.fld (F.HQ_CFG_CQ q) }] := by
  rw [State.openSlot]
  dsimp only
  rw [vget_fin, vput_fin, h]
  exact Vector.getElem_set_self _

theorem headerBad_hq : (s.headerBad q).hq = s.hq := rfl

/-- The halted queue, its completion's place reserved. -/
theorem hcrcFail_eq (hroom : s.hasRoom (s.fld (F.HQ_CFG_CQ q)) 16 = true) :
    s.hcrcFail q = ((s.headerBad q).openSlot q 16 0 false).2.finish q { tag := 0xFFFF } s.hq.slotCtr 1 0 := by
  rw [State.hcrcFail, State.haltQueue, if_neg (by simp [hroom])]
  rfl

end Halt

/-- The packet whose header cannot be read: its queue halts at it, and one completion says so. -/
theorem hcrcFail_halts {c : Instr} {s : State} {q : Fin 32} (hx : exec c s = done s (s.hcrcFail q)) (ho : Offered s q 16) :
    Completes c s (fun v => v.bit (F.HQ_STAT_HALT q) = true ∧ v.bit (F.HQ_STAT_HDR_ERR q) = true ∧
      v.hq.posted = s.hq.posted ++ [(s.fld (F.HQ_CFG_CQ q), .comp { src := q, status := 1, tag := 0xFFFF })] ∧
      v.fld (F.HQ_HEAD_OFS q) = s.fld (F.HQ_HEAD_OFS q) ∧
      Frame { s with hq := v.hq, out := v.out, lastStatus := 1 } v (F.HQ_STAT_HALT q :: F.HQ_STAT_HDR_ERR q :: packetFields s q)) := by
  have hc := cq_lt s q
  have hcfg : ∀ n, (s.headerBad q).rd (R.HQ_CFG n) = s.rd (R.HQ_CFG n) := fun n => headerBad_rd s q (by simp only [R.HQ_CFG, R.HQ_STAT]; omega)
  have hcq : (s.headerBad q).fld (F.HQ_CFG_CQ q) = s.fld (F.HQ_CFG_CQ q) := fld_of_rd_eq _ (hcfg q)
  have hslot := openSlot_slots (s.headerBad q) q 16 0 false (by rw [headerBad_hq]; exact ho.first)
  rw [hcq, headerBad_hq] at hslot
  have hen : ((s.headerBad q).openSlot q 16 0 false).2.bit (F.HQ_CFG_EN (32 + s.fld (F.HQ_CFG_CQ q))) = true :=
    (bit_of_rd_eq (F.HQ_CFG_EN (32 + s.fld (F.HQ_CFG_CQ q))) ((openSlot_rd _ q 16 0 false _).trans (hcfg _))).trans (enabled_of_hasRoom ho.room)
  obtain ⟨v, hv, hp⟩ := finish_posted (h := { tag := 0xFFFF }) 1 0 [] hslot hc hen
  have hopen : QueueFrame (s.headerBad q) v (postFields (s.fld (F.HQ_CFG_CQ q))) :=
    ((openSlot_frame (s.headerBad q) q 16 0 false _).trans (queueFrame_withHq _ _ _)).trans hp.frame
  have hposted : v.hq.posted = s.hq.posted ++ [(s.fld (F.HQ_CFG_CQ q), .comp { src := q, status := 1, tag := 0xFFFF })] := by
    have h := hp.posted
    rw [endEntries_error q _ (by decide)] at h
    exact h.trans (congrArg (fun l => l ++ _) ((openSlot_posted (s.headerBad q) q 16 0 false).trans (congrArg HostqS.posted (headerBad_hq s q))))
  have hkeep : ∀ n, n < 32 → v.rd (R.HQ_STAT n) = (s.headerBad q).rd (R.HQ_STAT n) := fun n hn =>
    hopen.rd (fieldBits_postFields (by simp only [R.HQ_TAIL, R.HQ_STAT]; omega) (by simp only [R.HQ_STAT]; omega) (by simp only [R.HQ_STAT]; omega))
  have hx' := hx
  rw [hcrcFail_eq s q ho.room] at hx'
  dsimp only at hv
  rw [hv] at hx'
  refine completes_of_done hx' ⟨?halt, ?err, hposted, ?head, ?frame⟩
  case halt => exact (bit_of_rd_eq (F.HQ_STAT_HALT q) (hkeep q q.isLt)).trans (headerBad_halt s q)
  case err => exact (bit_of_rd_eq (F.HQ_STAT_HDR_ERR q) (hkeep q q.isLt)).trans (headerBad_err s q)
  case head =>
    refine (head_post hopen (by omega)).trans (fld_of_rd_eq (F.HQ_HEAD_OFS q) (headerBad_rd s q ?_))
    change R.HQ_HEAD q ≠ R.HQ_STAT q
    simp only [R.HQ_HEAD, R.HQ_STAT]
    omega
  case frame =>
    have hboth : QueueFrame s v (F.HQ_STAT_HALT q :: F.HQ_STAT_HDR_ERR q :: packetFields s q) := by
      refine ((headerBad_frame s q).toQueue.mono ?_).trans (hopen.mono ?_)
      · intro f hf
        simp only [haltFields, List.mem_cons, List.not_mem_nil, or_false] at hf
        rcases hf with rfl | rfl | rfl <;> simp [packetFields]
      · intro f hf
        simp only [postFields, List.mem_cons, List.not_mem_nil, or_false] at hf
        rcases hf with rfl | rfl | rfl | rfl <;> simp [packetFields]
    exact Frame.withStatus hboth _

theorem exec_packetHcrcFail (q : Fin 32) (s : State) :
    exec (.packetHcrcFail q) s = done s (if s.offers q then s.hcrcFail q else s) := by
  change execPacketHcrcFail q s = _
  rw [execPacketHcrcFail]
  split <;> rfl

/-- Settles O11: each packet command is `State.packet`, whose checks come in R362's order. -/
theorem packetsAreCheckedInOrder : Obligations.PacketsAreCheckedInOrder := by
  unfold Obligations.PacketsAreCheckedInOrder
  refine ⟨?unoffered, ?noRoom, ?checks, ?badHeader⟩
  case unoffered =>
    intro q pkt s ho c hc
    rcases List.mem_cons.mp hc with rfl | hc
    · exact completes_of_done (exec_packetHcrcFail q s) (by rw [if_neg (by simp [ho])])
    · obtain ⟨opc, may, extra, lt, pa, body, h⟩ := takesPacket_of_mem hc
      exact completes_of_done (h.runs s) (packet_unoffered opc _ may extra lt pa body ho)
  case noRoom =>
    intro q pkt s ho hfence hroom c hc
    have hwaits : exec c s = done s (s.setFld (F.HQ_STAT_CQ_WAIT q) 1) := by
      rcases List.mem_cons.mp hc with rfl | hc
      · rw [exec_packetHcrcFail, if_pos ho, hcrcFail_waits hroom]
      · obtain ⟨opc, may, extra, lt, pa, body, h⟩ := takesPacket_of_mem hc
        rw [h.runs s, packet_waits opc _ may extra lt pa body ho hfence hroom]
    refine completes_of_done hwaits ⟨?_, (Frame.refl s _).setFld 1 (by simp) (Fld.fits (by rfl))⟩
    rw [bit_setFld_self _ _ _ (Fld.fits (by rfl)) rfl]
    rfl
  case checks =>
    intro q pkt s ho hfence hcrc c hc
    obtain ⟨opc, may, extra, lt, pa, body, h⟩ := takesPacket_of_mem hc
    refine ⟨fun h1 => ?qid, fun h1 h2 => ?rsvd, fun h1 h2 h3 h4 => ?pcrc, fun h1 h2 h3 h4 => ?opc⟩
    case qid => exact packet_fails h ho hfence hcrc (fun _ _ => hdrStatus_qid h1) (by decide)
    case rsvd => exact packet_fails h ho hfence hcrc (fun _ _ => hdrStatus_rsvd h1 h2) (by decide)
    case pcrc => exact packet_fails h ho hfence hcrc (fun _ _ => hdrStatus_pcrc h1 h2 h3 h4) (by decide)
    case opc => exact packet_fails h ho hfence hcrc (fun _ _ => hdrStatus_opc h1 h2 h3 (fun heq => h4 (heq ▸ h.known))) (by decide)
  case badHeader =>
    intro q pkt s ho hcrc c hc
    have hfail : exec c s = done s (s.hcrcFail q) := by
      rcases List.mem_cons.mp hc with rfl | hc
      · rw [exec_packetHcrcFail, if_pos ho.offers]
      · obtain ⟨opc, may, extra, lt, pa, body, h⟩ := takesPacket_of_mem hc
        rw [h.runs s, packet_badHeader opc _ may extra lt pa body ho.offers hcrc]
    exact hcrcFail_halts hfail ho

end Sys2Proof.Machine
end
section
/-!
PROOFS. Queue control (R356, R357, R359, R362, R376): enabling and disabling a queue, its doorbell, its interrupt and a late credit.
-/
namespace Sys2Proof.Machine

/-! ### CFG of a queue -/

/-- The word a write of HQn_CFG stores. -/
def cfgWord (size : Nat) (en : Bool) (vec cq ithr : Nat) : Nat := size + 32 * b2n en + 64 * vec + 4096 * cq + 2 ^ 17 * ithr

theorem b2n_le (b : Bool) : b2n b ≤ 1 := by cases b <;> decide

/-- A field of a register that was set from a number. -/
theorem fld_putN_self (s : State) (f : Fld) (x : Nat) (h : x < 2 ^ 32) : (s.putN f.off x).fld f = x / 2 ^ f.lo % 2 ^ f.w := by
  rw [State.fld, State.rdN, State.putN, rd_put_self, BitVec.toNat_ofNat, Nat.mod_eq_of_lt h]
  rfl

section CfgWord
variable {size vec cq ithr : Nat} {en : Bool} (h1 : size < 32) (h2 : vec < 64) (h3 : cq < 32) (h4 : ithr < 256) (s : State) (n : Nat)
include h1 h2 h3 h4

theorem cfgWord_lt : cfgWord size en vec cq ithr < 2 ^ 32 := by
  have := b2n_le en
  unfold cfgWord
  omega

theorem cfgWord_size : (s.putN (R.HQ_CFG n) (cfgWord size en vec cq ithr)).fld (F.HQ_CFG_SIZE n) = size := by
  have := b2n_le en
  refine (fld_putN_self s (F.HQ_CFG_SIZE n) _ (cfgWord_lt h1 h2 h3 h4)).trans ?_
  change cfgWord size en vec cq ithr / 2 ^ 0 % 2 ^ 5 = size
  unfold cfgWord
  omega

theorem cfgWord_vec : (s.putN (R.HQ_CFG n) (cfgWord size en vec cq ithr)).fld (F.HQ_CFG_VEC n) = vec := by
  have := b2n_le en
  refine (fld_putN_self s (F.HQ_CFG_VEC n) _ (cfgWord_lt h1 h2 h3 h4)).trans ?_
  change cfgWord size en vec cq ithr / 2 ^ 6 % 2 ^ 6 = vec
  unfold cfgWord
  omega

theorem cfgWord_cq : (s.putN (R.HQ_CFG n) (cfgWord size en vec cq ithr)).fld (F.HQ_CFG_CQ n) = cq := by
  have := b2n_le en
  refine (fld_putN_self s (F.HQ_CFG_CQ n) _ (cfgWord_lt h1 h2 h3 h4)).trans ?_
  change cfgWord size en vec cq ithr / 2 ^ 12 % 2 ^ 5 = cq
  unfold cfgWord
  omega

theorem cfgWord_ithr : (s.putN (R.HQ_CFG n) (cfgWord size en vec cq ithr)).fld (F.HQ_CFG_ITHR n) = ithr := by
  have := b2n_le en
  refine (fld_putN_self s (F.HQ_CFG_ITHR n) _ (cfgWord_lt h1 h2 h3 h4)).trans ?_
  change cfgWord size en vec cq ithr / 2 ^ 17 % 2 ^ 8 = ithr
  unfold cfgWord
  omega

theorem cfgWord_en : (s.putN (R.HQ_CFG n) (cfgWord size en vec cq ithr)).bit (F.HQ_CFG_EN n) = en := by
  have hen : (s.putN (R.HQ_CFG n) (cfgWord size en vec cq ithr)).fld (F.HQ_CFG_EN n) = b2n en := by
    have := b2n_le en
    refine (fld_putN_self s (F.HQ_CFG_EN n) _ (cfgWord_lt h1 h2 h3 h4)).trans ?_
    change cfgWord size en vec cq ithr / 2 ^ 5 % 2 ^ 1 = b2n en
    unfold cfgWord
    omega
  rw [State.bit, hen]
  cases en <;> rfl

end CfgWord

/-! ### What a write of CFG with EN set or cleared stores -/

/-- The word CFG takes where EN becomes `en`, and the other fields stay. -/
def State.cfgWith (s : State) (n : Nat) (en : Bool) : Nat :=
  cfgWord (s.fld (F.HQ_CFG_SIZE n)) en (s.fld (F.HQ_CFG_VEC n)) (if n < 32 then s.fld (F.HQ_CFG_CQ n) else 0) (s.fld (F.HQ_CFG_ITHR n))

/-- CFG has been written with EN as `en`. -/
def State.cfgSet (s : State) (n : Nat) (en : Bool) : State := s.putN (R.HQ_CFG n) (s.cfgWith n en)

section CfgSet
variable (s : State) (n : Nat) (en : Bool)

theorem cfgCq_lt : (if n < 32 then s.fld (F.HQ_CFG_CQ n) else 0) < 32 := by
  split
  · exact cq_lt s n
  · decide

theorem cfgSet_en : (s.cfgSet n en).bit (F.HQ_CFG_EN n) = en :=
  cfgWord_en (fld_lt s (F.HQ_CFG_SIZE n)) (fld_lt s (F.HQ_CFG_VEC n)) (cfgCq_lt s n) (fld_lt s (F.HQ_CFG_ITHR n)) s n

theorem cfgSet_size : (s.cfgSet n en).fld (F.HQ_CFG_SIZE n) = s.fld (F.HQ_CFG_SIZE n) :=
  cfgWord_size (fld_lt s (F.HQ_CFG_SIZE n)) (fld_lt s (F.HQ_CFG_VEC n)) (cfgCq_lt s n) (fld_lt s (F.HQ_CFG_ITHR n)) s n

theorem cfgSet_vec : (s.cfgSet n en).fld (F.HQ_CFG_VEC n) = s.fld (F.HQ_CFG_VEC n) :=
  cfgWord_vec (fld_lt s (F.HQ_CFG_SIZE n)) (fld_lt s (F.HQ_CFG_VEC n)) (cfgCq_lt s n) (fld_lt s (F.HQ_CFG_ITHR n)) s n

theorem cfgSet_ithr : (s.cfgSet n en).fld (F.HQ_CFG_ITHR n) = s.fld (F.HQ_CFG_ITHR n) :=
  cfgWord_ithr (fld_lt s (F.HQ_CFG_SIZE n)) (fld_lt s (F.HQ_CFG_VEC n)) (cfgCq_lt s n) (fld_lt s (F.HQ_CFG_ITHR n)) s n

theorem cfgSet_cq (h : n < 32) : (s.cfgSet n en).fld (F.HQ_CFG_CQ n) = s.fld (F.HQ_CFG_CQ n) :=
  (cfgWord_cq (fld_lt s (F.HQ_CFG_SIZE n)) (fld_lt s (F.HQ_CFG_VEC n)) (cfgCq_lt s n) (fld_lt s (F.HQ_CFG_ITHR n)) s n).trans (if_pos h)

theorem cfgSet_frame {fs : List Fld} (h : whole (R.HQ_CFG n) ∈ fs) : Frame s (s.cfgSet n en) fs := (Frame.refl s fs).putN _ h

theorem cfgSet_rd {off : Nat} (h : off ≠ R.HQ_CFG n) : (s.cfgSet n en).rd off = s.rd off := rd_put_ne s _ h

end CfgSet

theorem fieldN_or (a m lo w : Nat) : fieldN (a ||| m) lo w = fieldN a lo w ||| fieldN m lo w := by
  rw [fieldN, Nat.or_div_two_pow, Nat.or_mod_two_pow]
  rfl

theorem fieldN_and (a m lo w : Nat) : fieldN (a &&& m) lo w = fieldN a lo w &&& fieldN m lo w := by
  rw [fieldN, Nat.and_div_two_pow, Nat.and_mod_two_pow]
  rfl

theorem bitN_eq_fieldN (x k : Nat) : bitN x k = (fieldN x k 1 == 1) := rfl

/-- A field that the mask of an AND holds whole. -/
theorem fieldN_and_ones (a m lo w : Nat) (h : fieldN m lo w = 2 ^ w - 1) : fieldN (a &&& m) lo w = fieldN a lo w := by
  rw [fieldN_and, h, Nat.and_two_pow_sub_one_eq_mod]
  exact Nat.mod_mod _ _

theorem fieldN_or_zero (a m lo w : Nat) (h : fieldN m lo w = 0) : fieldN (a ||| m) lo w = fieldN a lo w := by rw [fieldN_or, h, Nat.or_zero]

/-- A value written to CFG whose fields but EN are those the register holds. -/
structure CfgVal (s : State) (n v : Nat) (en : Bool) : Prop where
  size : fieldN v 0 5 = s.fld (F.HQ_CFG_SIZE n)
  en   : bitN v 5 = en
  vec  : fieldN v 6 6 = s.fld (F.HQ_CFG_VEC n)
  cq   : fieldN v 12 5 = s.fld (F.HQ_CFG_CQ n)
  ithr : fieldN v 17 8 = s.fld (F.HQ_CFG_ITHR n)

theorem enableVal (s : State) (n : Nat) : CfgVal s n (s.rd (R.HQ_CFG n) ||| 0x20).toNat true := by
  rw [BitVec.toNat_or]
  refine ⟨fieldN_or_zero _ _ _ _ (by decide), ?_, fieldN_or_zero _ _ _ _ (by decide), fieldN_or_zero _ _ _ _ (by decide), fieldN_or_zero _ _ _ _ (by decide)⟩
  have hbit : ∀ x : Nat, x < 2 → (x ||| 1 == 1) = true := by decide
  rw [bitN_eq_fieldN, fieldN_or]
  exact hbit _ (Nat.mod_lt _ (by decide))

theorem disableVal (s : State) (n : Nat) : CfgVal s n (s.rd (R.HQ_CFG n) &&& ~~~0x20).toNat false := by
  rw [BitVec.toNat_and]
  refine ⟨fieldN_and_ones _ _ _ _ (by decide), ?_, fieldN_and_ones _ _ _ _ (by decide), fieldN_and_ones _ _ _ _ (by decide), fieldN_and_ones _ _ _ _ (by decide)⟩
  rw [bitN_eq_fieldN, fieldN_and]
  exact beq_false_of_ne (by rw [show fieldN (~~~(0x20 : Word)).toNat 5 1 = 0 by decide, Nat.and_zero]; decide)

/-- A queue in use whose ring is empty. -/
def State.hqEmptied (s : State) (n : Nat) : State :=
  (((s.cfgSet n true).setFld (F.HQ_HEAD_OFS n) 0).setFld (F.HQ_TAIL_OFS n) 0).setFld (F.HQ_STAT_HALT n) 0

/-- The index of the device that a queue shows the host: HEAD of one to the device, else TAIL. -/
def State.devIndex (s : State) (n : Nat) : Nat := if n < 32 then s.fld (F.HQ_HEAD_OFS n) else s.fld (F.HQ_TAIL_OFS n)

/-- The write-back where the device's index changed (R357). -/
def State.hqShown (s : State) (n : Nat) : State := if s.devIndex n ≠ 0 then (s.hqEmptied n).writeBack n 0 else s.hqEmptied n

section HqCfg
variable {s : State} {n v : Nat}

theorem hqCfg_enable (h : CfgVal s n v true) (hwas : s.bit (F.HQ_CFG_EN n) = false) (h17 : 17 ≤ s.fld (F.HQ_CFG_SIZE n)) (h26 : s.fld (F.HQ_CFG_SIZE n) ≤ 26) :
    s.hqCfg n v = (if n < 32 then s.hqShown n
      else ({ s.hqShown n with hq := { (s.hqShown n).hq with unsig := vput (s.hqShown n).hq.unsig (n - 32) 0 } }).credit (n - 32)).status 0 := by
  have hsize : v % 32 = s.fld (F.HQ_CFG_SIZE n) := (by rw [← h.size, fieldN, pow_zero, Nat.div_one]; rfl)
  have hindex : (if n < 32 then (s.cfgSet n true).fld (F.HQ_HEAD_OFS n) else (s.cfgSet n true).fld (F.HQ_TAIL_OFS n)) = s.devIndex n := by
    have hh : (s.cfgSet n true).fld (F.HQ_HEAD_OFS n) = s.fld (F.HQ_HEAD_OFS n) :=
      fld_of_rd_eq _ (cfgSet_rd s n true (off := R.HQ_HEAD n) (by simp only [R.HQ_HEAD, R.HQ_CFG]; omega))
    have ht : (s.cfgSet n true).fld (F.HQ_TAIL_OFS n) = s.fld (F.HQ_TAIL_OFS n) :=
      fld_of_rd_eq _ (cfgSet_rd s n true (off := R.HQ_TAIL n) (by simp only [R.HQ_TAIL, R.HQ_CFG]; omega))
    rw [hh, ht]
    rfl
  unfold State.hqCfg
  simp only [hwas, hsize, h.en, h.vec, h.cq, h.ithr, h17, h26, decide_true, Bool.and_true, Bool.not_false, if_true, Bool.false_eq_true, if_false]
  have hset : s.putN (R.HQ_CFG n) (s.fld (F.HQ_CFG_SIZE n) + 32 * b2n true + 64 * s.fld (F.HQ_CFG_VEC n) +
      4096 * (if n < 32 then s.fld (F.HQ_CFG_CQ n) else 0) + 2 ^ 17 * s.fld (F.HQ_CFG_ITHR n)) = s.cfgSet n true := rfl
  simp only [hset, hindex, State.hqShown, State.hqEmptied, bne_iff_ne]

theorem hqCfg_outOfRange (h : CfgVal s n v true) (hwas : s.bit (F.HQ_CFG_EN n) = false)
    (hsize : s.fld (F.HQ_CFG_SIZE n) < 17 ∨ 26 < s.fld (F.HQ_CFG_SIZE n)) : s.hqCfg n v = (s.cfgSet n false).status 0 := by
  have hmod : v % 32 = s.fld (F.HQ_CFG_SIZE n) := (by rw [← h.size, fieldN, pow_zero, Nat.div_one]; rfl)
  have hout : (decide (17 ≤ s.fld (F.HQ_CFG_SIZE n)) && decide (s.fld (F.HQ_CFG_SIZE n) ≤ 26)) = false := by
    simp only [Bool.and_eq_false_iff, decide_eq_false_iff_not]
    omega
  unfold State.hqCfg
  simp only [hwas, hmod, h.en, h.vec, h.cq, h.ithr, hout, Bool.true_and, Bool.false_and, Bool.and_false, Bool.false_eq_true, if_false]
  rfl

/-- A queue out of use: nothing waits, and its doorbells are forgotten. -/
def State.hqQuiet (s : State) (n : Nat) : State := ((s.cfgSet n false).setFld (F.HQ_STAT_CQ_WAIT n) 0).setFld (F.HQ_STAT_FULL n) 0

/-- Other doorbells. -/
def State.withBells (s : State) (x : List Bell) : State := { s with hq := { s.hq with bells := x } }

/-- The queue's doorbells are forgotten. -/
def State.hqIdled (s : State) (n : Nat) : State := (s.hqQuiet n).withBells (s.hq.bells.filter (fun b => b.q != n))

theorem hqCfg_disable (h : CfgVal s n v false) (hwas : s.bit (F.HQ_CFG_EN n) = true) : s.hqCfg n v = (s.hqIdled n).status 0 := by
  unfold State.hqCfg
  simp only [hwas, h.en, h.vec, h.cq, h.ithr, if_true, Bool.false_and, Bool.false_eq_true, if_false, Bool.not_false, Bool.and_true]
  rfl

end HqCfg

/-! ### The emptied ring -/

/-- The fields that enabling a queue sets. -/
def enableFields (n : Nat) : List Fld := [whole (R.HQ_CFG n), F.HQ_HEAD_OFS n, F.HQ_TAIL_OFS n, F.HQ_STAT_HALT n]

theorem writeBack_eq (s : State) (n v : Nat) :
    s.writeBack n v = { s with out := s.out ++ if s.rdN (R.HQ_WB_LO n) + 2 ^ 32 * s.rdN (R.HQ_WB_HI n) = 0 then []
      else [.writeBack (s.rdN (R.HQ_WB_LO n) + 2 ^ 32 * s.rdN (R.HQ_WB_HI n)) v] } := by
  unfold State.writeBack
  extract_lets a
  split
  · simp
  · rw [emit_eq, show scanned (.writeBack a v) = false from rfl, Bool.and_false, if_neg Bool.false_ne_true]

section Emptied
variable (s : State) (n : Nat)

theorem hqEmptied_frame : Frame s (s.hqEmptied n) (enableFields n) :=
  (((cfgSet_frame s n true (by simp [enableFields])).setFld (f := F.HQ_HEAD_OFS n) 0 (by simp [enableFields]) (Fld.fits (by rfl))).setFld (f := F.HQ_TAIL_OFS n) 0
    (by simp [enableFields]) (Fld.fits (by rfl))).setFld (f := F.HQ_STAT_HALT n) 0 (by simp [enableFields]) (Fld.fits (by rfl))

theorem head_ne_tail : (F.HQ_HEAD_OFS n).off ≠ (F.HQ_TAIL_OFS n).off := by
  change R.HQ_HEAD n ≠ R.HQ_TAIL n
  simp only [R.HQ_HEAD, R.HQ_TAIL]
  omega

theorem head_ne_stat : (F.HQ_HEAD_OFS n).off ≠ (F.HQ_STAT_HALT n).off := by
  change R.HQ_HEAD n ≠ R.HQ_STAT n
  simp only [R.HQ_HEAD, R.HQ_STAT]
  omega

theorem tail_ne_stat : (F.HQ_TAIL_OFS n).off ≠ (F.HQ_STAT_HALT n).off := by
  change R.HQ_TAIL n ≠ R.HQ_STAT n
  simp only [R.HQ_TAIL, R.HQ_STAT]
  omega

theorem hqEmptied_out : (s.hqEmptied n).out = s.out := rfl

theorem hqEmptied_head : (s.hqEmptied n).fld (F.HQ_HEAD_OFS n) = 0 := by
  rw [State.hqEmptied, fld_setFld_ne _ _ _ _ (head_ne_stat n), fld_setFld_ne _ _ _ _ (head_ne_tail n), fld_setFld_self _ _ _ (Fld.fits (by rfl)), Nat.zero_mod]

theorem hqEmptied_tail : (s.hqEmptied n).fld (F.HQ_TAIL_OFS n) = 0 := by
  rw [State.hqEmptied, fld_setFld_ne _ _ _ _ (tail_ne_stat n), fld_setFld_self _ _ _ (Fld.fits (by rfl)), Nat.zero_mod]

theorem hqEmptied_halt : (s.hqEmptied n).bit (F.HQ_STAT_HALT n) = false := by
  rw [State.hqEmptied, bit_setFld_self _ _ _ (Fld.fits (by rfl)) rfl]
  rfl

theorem hqEmptied_rd_cfg (m : Nat) : (s.hqEmptied n).rd (R.HQ_CFG m) = (s.cfgSet n true).rd (R.HQ_CFG m) := by
  have hhead : R.HQ_CFG m ≠ R.HQ_HEAD n := by simp only [R.HQ_CFG, R.HQ_HEAD]; omega
  have htail : R.HQ_CFG m ≠ R.HQ_TAIL n := by simp only [R.HQ_CFG, R.HQ_TAIL]; omega
  have hstat : R.HQ_CFG m ≠ R.HQ_STAT n := by simp only [R.HQ_CFG, R.HQ_STAT]; omega
  rw [State.hqEmptied, rd_setFld_ne _ _ _ hstat, rd_setFld_ne _ _ _ htail, rd_setFld_ne _ _ _ hhead]

theorem hqEmptied_rd_wb : (s.hqEmptied n).rd (R.HQ_WB_LO n) = s.rd (R.HQ_WB_LO n) ∧ (s.hqEmptied n).rd (R.HQ_WB_HI n) = s.rd (R.HQ_WB_HI n) := by
  have h : ∀ off, off = R.HQ_WB_LO n ∨ off = R.HQ_WB_HI n → (s.hqEmptied n).rd off = s.rd off := by
    intro off ho
    refine (hqEmptied_frame s n).rd (fieldBits_eq_zero fun f hf => ?_)
    have hlow : R.HQ_WB_LO n ≤ off ∧ off ≤ R.HQ_WB_HI n := by
      simp only [R.HQ_WB_LO, R.HQ_WB_HI] at ho ⊢
      omega
    simp only [enableFields, List.mem_cons, List.not_mem_nil, or_false] at hf
    rcases hf with rfl | rfl | rfl | rfl
    · change R.HQ_CFG n ≠ off
      simp only [R.HQ_CFG, R.HQ_WB_LO, R.HQ_WB_HI] at hlow ⊢
      omega
    · change R.HQ_HEAD n ≠ off
      simp only [R.HQ_HEAD, R.HQ_WB_LO, R.HQ_WB_HI] at hlow ⊢
      omega
    · change R.HQ_TAIL n ≠ off
      simp only [R.HQ_TAIL, R.HQ_WB_LO, R.HQ_WB_HI] at hlow ⊢
      omega
    · change R.HQ_STAT n ≠ off
      simp only [R.HQ_STAT, R.HQ_WB_LO, R.HQ_WB_HI] at hlow ⊢
      omega
  exact ⟨h _ (.inl rfl), h _ (.inr rfl)⟩

/-- What is written back when a queue comes into use. -/
def State.enableOut (s : State) (n : Nat) : List Out :=
  let wb := s.rdN (R.HQ_WB_LO n) + 2 ^ 32 * s.rdN (R.HQ_WB_HI n)
  if s.devIndex n = 0 ∨ wb = 0 then [] else [.writeBack wb 0]

theorem withOut_self {u : State} {o : List Out} (h : u.out = o) : { u with out := o ++ [] } = u := by
  subst h
  rw [List.append_nil]

theorem hqShown_eq : s.hqShown n = { s.hqEmptied n with out := s.out ++ s.enableOut n } := by
  obtain ⟨hlo, hhi⟩ := hqEmptied_rd_wb s n
  have hlo' : (s.hqEmptied n).rdN (R.HQ_WB_LO n) = s.rdN (R.HQ_WB_LO n) := congrArg BitVec.toNat hlo
  have hhi' : (s.hqEmptied n).rdN (R.HQ_WB_HI n) = s.rdN (R.HQ_WB_HI n) := congrArg BitVec.toNat hhi
  unfold State.hqShown State.enableOut
  by_cases hi : s.devIndex n = 0
  · rw [if_neg (not_not.mpr hi), if_pos (.inl hi)]
    exact (withOut_self (hqEmptied_out s n)).symm
  · rw [if_pos hi, writeBack_eq, hlo', hhi', hqEmptied_out]
    simp only [hi, false_or]

end Emptied

/-! ### QUEUE_ENABLE and QUEUE_DISABLE -/

theorem rd_withOut (s : State) (o : List Out) (off : Nat) : ({ s with out := o } : State).rd off = s.rd off := rfl

theorem hqShown_rd (s : State) (n off : Nat) : (s.hqShown n).rd off = (s.hqEmptied n).rd off := by
  rw [hqShown_eq]
  exact rd_withOut _ _ off

theorem hqShown_fld (s : State) (n : Nat) (f : Fld) : (s.hqShown n).fld f = (s.hqEmptied n).fld f := fld_of_rd_eq f (hqShown_rd s n _)

theorem hqShown_bit (s : State) (n : Nat) (f : Fld) : (s.hqShown n).bit f = (s.hqEmptied n).bit f := bit_of_rd_eq f (hqShown_rd s n _)

/-- CFG once the queue is in use. -/
theorem hqShown_rd_cfg (s : State) (n : Nat) : (s.hqShown n).rd (R.HQ_CFG n) = (s.cfgSet n true).rd (R.HQ_CFG n) :=
  (hqShown_rd s n _).trans (hqEmptied_rd_cfg s n n)

theorem hqShown_frame (s : State) (n : Nat) : Frame { s with out := s.out ++ s.enableOut n } (s.hqShown n) (enableFields n) := by
  rw [hqShown_eq]
  exact (hqEmptied_frame s n).withOut _

theorem exec_queueEnable (q : Fin 64) (s : State) : exec (.queueEnable q) s = done s (s.hqCfg q (s.rd (R.HQ_CFG q) ||| 0x20).toNat) := rfl

theorem exec_queueDisable (q : Fin 64) (s : State) : exec (.queueDisable q) s = done s (s.hqCfg q (s.rd (R.HQ_CFG q) &&& ~~~0x20).toNat) := rfl

/-- A queue to the device comes into use. -/
theorem queueEnable_toDevice {q : Fin 64} {s : State} (hq : q.val < 32) (hwas : s.bit (F.HQ_CFG_EN q) = false) (h17 : 17 ≤ s.fld (F.HQ_CFG_SIZE q))
    (h26 : s.fld (F.HQ_CFG_SIZE q) ≤ 26) :
    Completes (.queueEnable q) s (fun v => v.bit (F.HQ_CFG_EN q) = true ∧ v.fld (F.HQ_HEAD_OFS q) = 0 ∧
      v.fld (F.HQ_TAIL_OFS q) = 0 ∧ v.bit (F.HQ_STAT_HALT q) = false ∧
      v.fld (F.HQ_CFG_SIZE q) = s.fld (F.HQ_CFG_SIZE q) ∧ v.fld (F.HQ_CFG_CQ q) = s.fld (F.HQ_CFG_CQ q) ∧
      Frame { s with lastStatus := 0, out := s.out ++ s.enableOut q } v (enableFields q)) := by
  have hx := exec_queueEnable q s
  rw [hqCfg_enable (enableVal s q) hwas h17 h26, if_pos hq] at hx
  have hcfg := hqShown_rd_cfg s q
  refine completes_of_done hx ⟨?en, ?head, ?tail, ?halt, ?size, ?cq, (hqShown_frame s q).withStatus 0⟩
  case en => exact (status_bit _ _ _).trans ((bit_of_rd_eq (F.HQ_CFG_EN q) hcfg).trans (cfgSet_en s q true))
  case head => exact (status_fld _ _ _).trans ((hqShown_fld s q _).trans (hqEmptied_head s q))
  case tail => exact (status_fld _ _ _).trans ((hqShown_fld s q _).trans (hqEmptied_tail s q))
  case halt => exact (status_bit _ _ _).trans ((hqShown_bit s q _).trans (hqEmptied_halt s q))
  case size => exact (status_fld _ _ _).trans ((fld_of_rd_eq (F.HQ_CFG_SIZE q) hcfg).trans (cfgSet_size s q true))
  case cq => exact (status_fld _ _ _).trans ((fld_of_rd_eq (F.HQ_CFG_CQ q) hcfg).trans (cfgSet_cq s q true hq))

/-- Nothing waits for credit: no record is spilled or noted as dropped, and no DMA channel waits to post. -/
structure NoWaiters (s : State) : Prop where
  spill   : s.seg.spill = []
  dropped : s.seg.dropped = []
  fin     : ∀ n : Fin 32, s.dma[n].fin = none

theorem drainSpill_idle {s : State} (h : NoWaiters s) : s.drainSpill = s.setFld F.SEG_STAT_SPILL_ACT 0 := by
  have hgo : drainGo s.seg.spill.length s = s := by rw [h.spill]; rfl
  rw [State.drainSpill, hgo, h.spill]
  have hdropped : (s.setFld F.SEG_STAT_SPILL_ACT 0).seg.dropped = [] := h.dropped
  change (s.setFld F.SEG_STAT_SPILL_ACT 0).dropNotices = _
  rw [State.dropNotices]
  dsimp only
  rw [hdropped, List.foldl_nil]

theorem dmaPostAll_idle {s : State} (h : ∀ n : Fin 32, s.dma[n].fin = none) : s.dmaPostAll = s := by
  have hpost : ∀ l : List Nat, (∀ n ∈ l, n < 32) → l.foldl State.dmaPost s = s := by
    intro l
    induction l with
    | nil => exact fun _ => rfl
    | cons n l ih =>
      intro hl
      have hfin : (s.dmaS n).fin = none := by
        have := h ⟨n, hl n (by simp)⟩
        rw [State.dmaS, show vget s.dma n DmaS.init = s.dma[(⟨n, hl n (by simp)⟩ : Fin 32)] from vget_fin s.dma ⟨n, hl n (by simp)⟩ _]
        exact this
      have hone : s.dmaPost n = s := by rw [State.dmaPost, hfin]
      rw [List.foldl_cons, hone]
      exact ih (fun m hm => hl m (by simp [hm]))
  exact hpost _ (fun n hn => List.mem_range.mp hn)

theorem credit_idle {s : State} (h : NoWaiters s) (c : Nat) : s.credit c = (s.updFull c).setFld F.SEG_STAT_SPILL_ACT 0 := by
  have hfull : NoWaiters (s.updFull c) := ⟨h.spill, h.dropped, h.fin⟩
  rw [State.credit, drainSpill_idle hfull, dmaPostAll_idle (s := (s.updFull c).setFld F.SEG_STAT_SPILL_ACT 0) h.fin]

/-- The entries not yet signalled of Q(32 + c) are forgotten. -/
def State.unsigned (s : State) (c : Nat) : State := { s with hq := { s.hq with unsig := vput s.hq.unsig c 0 } }

theorem unsigned_rd (s : State) (c off : Nat) : (s.unsigned c).rd off = s.rd off := rfl

/-- An empty ring is not full (R356). -/
theorem updFull_empty {s : State} {c : Nat} (hhead : s.fld (F.HQ_HEAD_OFS (32 + c)) = 0) (htail : s.fld (F.HQ_TAIL_OFS (32 + c)) = 0)
    (h17 : 17 ≤ s.fld (F.HQ_CFG_SIZE (32 + c))) : s.updFull c = s.setFld (F.HQ_STAT_FULL (32 + c)) 0 := by
  have hring : 2 ^ 17 ≤ s.ringSize (32 + c) := Nat.pow_le_pow_right (by decide) h17
  have hused : s.ringUsed (32 + c) = 0 := by
    rw [State.ringUsed, hhead, htail, Nat.zero_add, Nat.sub_zero, Nat.mod_self]
  have hfull : (s.bit (F.HQ_CFG_EN (32 + c)) && decide (s.ringSize (32 + c) < s.ringUsed (32 + c) + 32)) = false := by
    rw [hused, decide_eq_false (by omega), Bool.and_false]
  rw [State.updFull, hfull, setBit_eq]
  rfl

/-- Credit for an emptied queue from the host. -/
def State.creditShown (s : State) (c : Nat) : State :=
  (((s.hqShown (32 + c)).unsigned c).setFld (F.HQ_STAT_FULL (32 + c)) 0).setFld F.SEG_STAT_SPILL_ACT 0

section Credit
variable (s : State) (c : Fin 32)

theorem spill_ne (n : Nat) (_hn : n < 64) {f : Fld} (hf : R.HQ_CFG n ≤ f.off) (hf' : f.off ≤ R.HQ_STAT n) : f.off ≠ F.SEG_STAT_SPILL_ACT.off := by
  change f.off ≠ R.SEG_STAT
  simp only [R.HQ_CFG, R.HQ_STAT, R.SEG_STAT] at *
  omega

/-- A register of the queue but its STAT. -/
theorem creditShown_fld {f : Fld} (hf : R.HQ_CFG (32 + c) ≤ f.off) (hf' : f.off < R.HQ_STAT (32 + c)) :
    (s.creditShown c).fld f = (s.hqShown (32 + c)).fld f := by
  have hn : 32 + c.val < 64 := by omega
  rw [State.creditShown, fld_setFld_ne _ _ _ _ (spill_ne (32 + c) hn hf hf'.le), fld_setFld_ne _ _ _ _ (by exact hf'.ne)]
  exact fld_of_rd_eq f (unsigned_rd _ _ _)

theorem creditShown_rd_cfg : (s.creditShown c).rd (R.HQ_CFG (32 + c)) = (s.cfgSet (32 + c) true).rd (R.HQ_CFG (32 + c)) := by
  have h1 : R.HQ_CFG (32 + c) ≠ F.SEG_STAT_SPILL_ACT.off :=
    spill_ne (32 + c) (by omega) (f := F.HQ_CFG_EN (32 + c)) (Nat.le_refl _) (by change R.HQ_CFG _ ≤ _; simp only [R.HQ_CFG, R.HQ_STAT]; omega)
  have h2 : R.HQ_CFG (32 + c) ≠ (F.HQ_STAT_FULL (32 + c)).off := by
    change R.HQ_CFG (32 + c) ≠ R.HQ_STAT (32 + c)
    simp only [R.HQ_CFG, R.HQ_STAT]
    omega
  rw [State.creditShown, rd_setFld_ne _ _ _ h1, rd_setFld_ne _ _ _ h2, unsigned_rd, hqShown_rd_cfg]

theorem creditShown_full : (s.creditShown c).bit (F.HQ_STAT_FULL (32 + c)) = false := by
  rw [State.creditShown, State.bit, fld_setFld_ne _ _ _ _ (spill_ne (32 + c) (by omega) (f := F.HQ_STAT_FULL (32 + c)) ?_ (Nat.le_refl _)),
    fld_setFld_self _ _ _ (Fld.fits (by rfl))]
  · rfl
  · change R.HQ_CFG _ ≤ R.HQ_STAT _
    simp only [R.HQ_CFG, R.HQ_STAT]
    omega

theorem full_apart_halt (n : Nat) : (F.HQ_STAT_FULL n).Apart (F.HQ_STAT_HALT n) := .inr (.inl (by decide : 0 + 1 ≤ 3))

theorem creditShown_halt : (s.creditShown c).bit (F.HQ_STAT_HALT (32 + c)) = false := by
  rw [State.creditShown, State.bit, fld_setFld_ne _ _ _ _ (spill_ne (32 + c) (by omega) (f := F.HQ_STAT_HALT (32 + c)) ?_ (Nat.le_refl _)),
    fld_setFld_apart _ _ (Fld.fits (by rfl)) (full_apart_halt _), ← State.bit]
  · exact (bit_of_rd_eq (F.HQ_STAT_HALT (32 + c)) (unsigned_rd _ _ _)).trans ((hqShown_bit s (32 + c) _).trans (hqEmptied_halt s (32 + c)))
  · change R.HQ_CFG _ ≤ R.HQ_STAT _
    simp only [R.HQ_CFG, R.HQ_STAT]
    omega

theorem creditShown_spill : (s.creditShown c).bit F.SEG_STAT_SPILL_ACT = false := by
  rw [State.creditShown, bit_setFld_self _ _ _ (by decide) rfl]
  rfl

/-- The fields that enabling a queue from the device sets. -/
def creditFields (n : Nat) : List Fld :=
  [whole (R.HQ_CFG n), F.HQ_HEAD_OFS n, F.HQ_TAIL_OFS n, F.HQ_STAT_FULL n, F.HQ_STAT_HALT n, F.SEG_STAT_SPILL_ACT]

theorem Frame.withUnsig {s v : State} {fs : List Fld} (h : Frame s v fs) (x : Vector Nat 32) :
    Frame { s with hq := { s.hq with unsig := x } } { v with hq := { v.hq with unsig := x } } fs :=
  h.of_eq rfl rfl rfl rfl rfl rfl (congrArg (fun r : State => { r with hq := { r.hq with unsig := x } }) h.rest)

theorem hqShown_hq (n : Nat) : (s.hqShown n).hq = s.hq := by
  rw [hqShown_eq]
  rfl

theorem creditShown_frame : Frame { s with hq := { s.hq with unsig := s.hq.unsig.set c 0 }, out := s.out ++ s.enableOut (32 + c) } (s.creditShown c)
    (creditFields (32 + c)) := by
  have hshown : Frame { s with out := s.out ++ s.enableOut (32 + c) } (s.hqShown (32 + c)) (creditFields (32 + c)) := by
    refine (hqShown_frame s (32 + c)).mono fun f hf => ?_
    simp only [enableFields, List.mem_cons, List.not_mem_nil, or_false] at hf
    rcases hf with rfl | rfl | rfl | rfl <;> simp [creditFields]
  have hunsig : (s.hqShown (32 + c)).unsigned c = { s.hqShown (32 + c) with hq := { (s.hqShown (32 + c)).hq with unsig := s.hq.unsig.set c 0 } } := by
    rw [State.unsigned, hqShown_hq, vput_fin]
  unfold State.creditShown
  rw [hunsig]
  exact ((hshown.withUnsig _).setFld (f := F.HQ_STAT_FULL (32 + c)) 0 (by simp [creditFields]) (Fld.fits (by rfl))).setFld (f := F.SEG_STAT_SPILL_ACT) 0
    (by simp [creditFields]) (by decide)

end Credit

/-- A queue from the device comes into use, with nothing waiting for credit. -/
theorem queueEnable_fromDevice {c : Fin 32} {s : State} (hw : NoWaiters s) (hwas : s.bit (F.HQ_CFG_EN (32 + c)) = false)
    (h17 : 17 ≤ s.fld (F.HQ_CFG_SIZE (32 + c))) (h26 : s.fld (F.HQ_CFG_SIZE (32 + c)) ≤ 26) :
    Completes (.queueEnable (Fin.ofNat 64 (32 + c))) s (fun v => v.bit (F.HQ_CFG_EN (32 + c)) = true ∧ v.fld (F.HQ_HEAD_OFS (32 + c)) = 0 ∧
      v.fld (F.HQ_TAIL_OFS (32 + c)) = 0 ∧ v.bit (F.HQ_STAT_FULL (32 + c)) = false ∧ v.bit (F.HQ_STAT_HALT (32 + c)) = false ∧
      v.bit F.SEG_STAT_SPILL_ACT = false ∧ v.fld (F.HQ_CFG_SIZE (32 + c)) = s.fld (F.HQ_CFG_SIZE (32 + c)) ∧
      v.fld (F.HQ_CFG_VEC (32 + c)) = s.fld (F.HQ_CFG_VEC (32 + c)) ∧ v.fld (F.HQ_CFG_ITHR (32 + c)) = s.fld (F.HQ_CFG_ITHR (32 + c)) ∧
      Frame { s with lastStatus := 0, hq := { s.hq with unsig := s.hq.unsig.set c 0 }, out := s.out ++ s.enableOut (32 + c) } v (creditFields (32 + c))) := by
  have hval : ((Fin.ofNat 64 (32 + c) : Fin 64) : Nat) = 32 + c := Nat.mod_eq_of_lt (by omega)
  have hx := exec_queueEnable (Fin.ofNat 64 (32 + c)) s
  rw [hval, hqCfg_enable (enableVal s (32 + c)) hwas h17 h26, if_neg (by omega), Nat.add_sub_cancel_left] at hx
  have hwait : NoWaiters ((s.hqShown (32 + c)).unsigned c) := by
    rw [hqShown_eq]
    exact ⟨hw.spill, hw.dropped, hw.fin⟩
  have hhead : ((s.hqShown (32 + c)).unsigned c).fld (F.HQ_HEAD_OFS (32 + c)) = 0 :=
    (fld_of_rd_eq _ (unsigned_rd _ _ _)).trans ((hqShown_fld s (32 + c) _).trans (hqEmptied_head s (32 + c)))
  have htail : ((s.hqShown (32 + c)).unsigned c).fld (F.HQ_TAIL_OFS (32 + c)) = 0 :=
    (fld_of_rd_eq _ (unsigned_rd _ _ _)).trans ((hqShown_fld s (32 + c) _).trans (hqEmptied_tail s (32 + c)))
  have hsize : ((s.hqShown (32 + c)).unsigned c).fld (F.HQ_CFG_SIZE (32 + c)) = s.fld (F.HQ_CFG_SIZE (32 + c)) :=
    (fld_of_rd_eq (F.HQ_CFG_SIZE (32 + c)) ((unsigned_rd _ _ _).trans (hqShown_rd_cfg s (32 + c)))).trans (cfgSet_size s (32 + c) true)
  have hcredit : ((s.hqShown (32 + c)).unsigned c).credit c = s.creditShown c := by
    rw [credit_idle hwait, updFull_empty hhead htail (hsize.symm ▸ h17)]
    rfl
  change exec _ s = done s ((((s.hqShown (32 + c)).unsigned c).credit c).status 0) at hx
  rw [hcredit] at hx
  have hcfg := creditShown_rd_cfg s c
  have hlow : ∀ f : Fld, f.off = R.HQ_HEAD (32 + c) ∨ f.off = R.HQ_TAIL (32 + c) → R.HQ_CFG (32 + c) ≤ f.off ∧ f.off < R.HQ_STAT (32 + c) := by
    intro f hf
    simp only [R.HQ_HEAD, R.HQ_TAIL, R.HQ_CFG, R.HQ_STAT] at hf ⊢
    omega
  refine completes_of_done hx ⟨?en, ?head, ?tail, ?full, ?halt, ?spill, ?size, ?vec, ?ithr, (creditShown_frame s c).withStatus 0⟩
  case en => exact (status_bit _ _ _).trans ((bit_of_rd_eq (F.HQ_CFG_EN (32 + c)) hcfg).trans (cfgSet_en s (32 + c) true))
  case head =>
    obtain ⟨h1, h2⟩ := hlow (F.HQ_HEAD_OFS (32 + c)) (.inl rfl)
    exact (status_fld _ _ _).trans ((creditShown_fld s c h1 h2).trans ((hqShown_fld s (32 + c) _).trans (hqEmptied_head s (32 + c))))
  case tail =>
    obtain ⟨h1, h2⟩ := hlow (F.HQ_TAIL_OFS (32 + c)) (.inr rfl)
    exact (status_fld _ _ _).trans ((creditShown_fld s c h1 h2).trans ((hqShown_fld s (32 + c) _).trans (hqEmptied_tail s (32 + c))))
  case full => exact (status_bit _ _ _).trans (creditShown_full s c)
  case halt => exact (status_bit _ _ _).trans (creditShown_halt s c)
  case spill => exact (status_bit _ _ _).trans (creditShown_spill s c)
  case size => exact (status_fld _ _ _).trans ((fld_of_rd_eq (F.HQ_CFG_SIZE (32 + c)) hcfg).trans (cfgSet_size s (32 + c) true))
  case vec => exact (status_fld _ _ _).trans ((fld_of_rd_eq (F.HQ_CFG_VEC (32 + c)) hcfg).trans (cfgSet_vec s (32 + c) true))
  case ithr => exact (status_fld _ _ _).trans ((fld_of_rd_eq (F.HQ_CFG_ITHR (32 + c)) hcfg).trans (cfgSet_ithr s (32 + c) true))

/-- A queue whose SIZE is out of range stays out of use. -/
theorem queueEnable_outOfRange {q : Fin 64} {s : State} (hwas : s.bit (F.HQ_CFG_EN q) = false)
    (hsize : s.fld (F.HQ_CFG_SIZE q) < 17 ∨ 26 < s.fld (F.HQ_CFG_SIZE q)) :
    Completes (.queueEnable q) s (fun v => v.bit (F.HQ_CFG_EN q) = false ∧ Frame { s with lastStatus := 0 } v [whole (R.HQ_CFG q)]) := by
  have hx := exec_queueEnable q s
  rw [hqCfg_outOfRange (enableVal s q) hwas hsize] at hx
  exact completes_of_done hx ⟨(status_bit _ _ _).trans (cfgSet_en s q false), (cfgSet_frame s q false (by simp)).withStatus 0⟩

theorem cqWait_apart_full (n : Nat) : (F.HQ_STAT_FULL n).Apart (F.HQ_STAT_CQ_WAIT n) := .inr (.inl (by decide : 2 + 1 ≤ 3))

theorem Frame.withBells {s v : State} {fs : List Fld} (h : Frame s v fs) (x : List Bell) : Frame (s.withBells x) (v.withBells x) fs :=
  h.of_eq rfl rfl rfl rfl rfl rfl (congrArg (fun r : State => r.withBells x) h.rest)

theorem withBells_rd (s : State) (x : List Bell) (off : Nat) : (s.withBells x).rd off = s.rd off := rfl

theorem withBells_bit (s : State) (x : List Bell) (f : Fld) : (s.withBells x).bit f = s.bit f := rfl

theorem hqIdled_rd_cfg (s : State) (n : Nat) : (s.hqIdled n).rd (R.HQ_CFG n) = (s.cfgSet n false).rd (R.HQ_CFG n) := by
  have hne : R.HQ_CFG n ≠ R.HQ_STAT n := by simp only [R.HQ_CFG, R.HQ_STAT]; omega
  rw [State.hqIdled, withBells_rd, State.hqQuiet, rd_setFld_ne _ (F.HQ_STAT_FULL n) 0 hne, rd_setFld_ne _ (F.HQ_STAT_CQ_WAIT n) 0 hne]

/-- The fields that disabling a queue sets. -/
def disableFields (n : Nat) : List Fld := [whole (R.HQ_CFG n), F.HQ_STAT_CQ_WAIT n, F.HQ_STAT_FULL n]

theorem hqQuiet_frame (s : State) (n : Nat) : Frame s (s.hqQuiet n) (disableFields n) :=
  ((cfgSet_frame s n false (by simp [disableFields])).setFld (f := F.HQ_STAT_CQ_WAIT n) 0 (by simp [disableFields]) (Fld.fits (by rfl))).setFld
    (f := F.HQ_STAT_FULL n) 0 (by simp [disableFields]) (Fld.fits (by rfl))

theorem hqQuiet_wait (s : State) (n : Nat) : (s.hqQuiet n).bit (F.HQ_STAT_CQ_WAIT n) = false := by
  rw [State.hqQuiet, bit_setFld_apart _ _ (Fld.fits (by rfl)) (cqWait_apart_full n), bit_setFld_self _ _ _ (Fld.fits (by rfl)) rfl]
  rfl

theorem hqQuiet_full (s : State) (n : Nat) : (s.hqQuiet n).bit (F.HQ_STAT_FULL n) = false := by
  rw [State.hqQuiet, bit_setFld_self _ _ _ (Fld.fits (by rfl)) rfl]
  rfl

theorem hqIdled_bells (s : State) (n : Nat) : (s.hqIdled n).hq.bells = s.hq.bells.filter (fun b => b.q != n) := rfl

/-- A queue goes out of use. -/
theorem queueDisable_done {q : Fin 64} {s : State} (hwas : s.bit (F.HQ_CFG_EN q) = true) :
    Completes (.queueDisable q) s (fun v => v.bit (F.HQ_CFG_EN q) = false ∧ v.bit (F.HQ_STAT_CQ_WAIT q) = false ∧
      v.bit (F.HQ_STAT_FULL q) = false ∧ v.hq.bells = s.hq.bells.filter (fun b => b.q != q.val) ∧
      Frame { s with lastStatus := 0, hq := { s.hq with bells := v.hq.bells } } v
        [whole (R.HQ_CFG q), F.HQ_STAT_CQ_WAIT q, F.HQ_STAT_FULL q]) := by
  have hx := exec_queueDisable q s
  rw [hqCfg_disable (disableVal s q) hwas] at hx
  refine completes_of_done hx ⟨?en, ?wait, ?full, hqIdled_bells s q, ?frame⟩
  case en => exact (status_bit _ _ _).trans ((bit_of_rd_eq (F.HQ_CFG_EN q) (hqIdled_rd_cfg s q)).trans (cfgSet_en s q false))
  case wait => exact (status_bit _ _ _).trans ((withBells_bit _ _ _).trans (hqQuiet_wait s q))
  case full => exact (status_bit _ _ _).trans ((withBells_bit _ _ _).trans (hqQuiet_full s q))
  case frame => exact ((hqQuiet_frame s q).withBells (s.hq.bells.filter (fun b => b.q != q.val))).withStatus 0

/-! ### The doorbell (R357) -/

theorem exec_queueDoorbell (q : Fin 32) (tail : BitVec 26) (s : State) : exec (.queueDoorbell q tail) s = done s (s.doorbell q tail.toNat) := rfl

/-- The doorbell's offset is in the ring: TAIL takes it. -/
def State.rung (s : State) (q t : Nat) : State := (s.setFld (F.HQ_TAIL_OFS q) t).status 0

theorem doorbell_inside {s : State} {q : Nat} {tail : BitVec 26} (h : tail.toNat / 16 * 16 < s.ringSize q) :
    s.doorbell q tail.toNat = if (s.bit (F.HQ_CFG_EN q) && tail.toNat / 16 * 16 != s.fld (F.HQ_TAIL_OFS q)) = true then
      { s.rung q (tail.toNat / 16 * 16) with
        hq := { s.hq with bells := s.hq.bells ++ [{ q := q, tail := tail.toNat / 16 * 16, no := s.hq.bellCtr }], bellCtr := s.hq.bellCtr + 1 } }
    else s.rung q (tail.toNat / 16 * 16) := by
  rw [State.doorbell, Nat.mod_eq_of_lt tail.isLt, if_neg (by omega)]
  rfl

theorem doorbell_outside {s : State} {q : Nat} {tail : BitVec 26} (h : s.ringSize q ≤ tail.toNat / 16 * 16) : s.doorbell q tail.toNat = s.status 0 := by
  rw [State.doorbell, Nat.mod_eq_of_lt tail.isLt, if_pos h]

theorem fld_withHq (s : State) (x : HostqS) (f : Fld) : ({ s with hq := x } : State).fld f = s.fld f := rfl

theorem Frame.withHq {s v : State} {fs : List Fld} (h : Frame s v fs) (x : HostqS) : Frame { s with hq := x } { v with hq := x } fs :=
  h.of_eq rfl rfl rfl rfl rfl rfl (congrArg (fun r : State => { r with hq := x }) h.rest)

theorem rung_frame (s : State) (q t : Nat) : Frame { s with lastStatus := 0 } (s.rung q t) [F.HQ_TAIL_OFS q] :=
  ((Frame.refl s _).setFld (f := F.HQ_TAIL_OFS q) t (by simp) (Fld.fits (by rfl))).withStatus 0

theorem rung_tail (s : State) (q : Nat) {t : Nat} (h : t < 2 ^ 26) : (s.rung q t).fld (F.HQ_TAIL_OFS q) = t :=
  (status_fld _ _ _).trans ((fld_setFld_self s (F.HQ_TAIL_OFS q) t (Fld.fits (by rfl))).trans (Nat.mod_eq_of_lt h))

theorem queueDoorbell_inside {q : Fin 32} {tail : BitVec 26} {s : State} (ht : tail.toNat / 16 * 16 < s.ringSize q) :
    Completes (.queueDoorbell q tail) s (fun v => v.fld (F.HQ_TAIL_OFS q) = tail.toNat / 16 * 16 ∧
      v.hq.bells = s.hq.bells ++ (if s.bit (F.HQ_CFG_EN q) = true ∧ tail.toNat / 16 * 16 ≠ s.fld (F.HQ_TAIL_OFS q)
        then [{ q := q, tail := tail.toNat / 16 * 16, no := s.hq.bellCtr }] else []) ∧
      Frame { s with lastStatus := 0, hq := { s.hq with bells := v.hq.bells, bellCtr := v.hq.bellCtr } } v [F.HQ_TAIL_OFS q]) := by
  have hx := exec_queueDoorbell q tail s
  have hlt : tail.toNat / 16 * 16 < 2 ^ 26 := by have := tail.isLt; omega
  rw [doorbell_inside ht] at hx
  by_cases hnew : s.bit (F.HQ_CFG_EN q) = true ∧ tail.toNat / 16 * 16 ≠ s.fld (F.HQ_TAIL_OFS q)
  · rw [if_pos (by simpa using hnew)] at hx
    refine completes_of_done hx ⟨(fld_withHq _ _ _).trans (rung_tail s q hlt), ?_, (rung_frame s q _).withHq _⟩
    rw [if_pos hnew]
  · rw [if_neg (by simpa using hnew)] at hx
    refine completes_of_done hx ⟨rung_tail s q hlt, ?_, rung_frame s q _⟩
    rw [if_neg hnew, List.append_nil]
    rfl

/-! ### Interrupts (R359, R376) -/

theorem exec_irqHoldoffTimer (q : Fin 32) (s : State) :
    exec (.irqHoldoffTimer q) s = done s (if s.rdN (R.HQ_ITIME (32 + q)) % 65536 = 0 then s else s.signalQ q) := rfl

theorem signalQ_none {s : State} {q : Fin 32} (h : s.hq.unsig[q] = 0) : s.signalQ q = s := by
  rw [State.signalQ, vget_fin, if_pos h]

/-- The queue signals its entries. -/
theorem signalQ_some {s : State} {q : Fin 32} (h : s.hq.unsig[q] ≠ 0) :
    s.signalQ q = (s.unsigned q).msix (s.fld (F.HQ_CFG_VEC (32 + q))) := by
  rw [State.signalQ, vget_fin, if_neg h]
  rfl

theorem unsigned_eq (s : State) (q : Fin 32) : s.unsigned q = { s with hq := { s.hq with unsig := s.hq.unsig.set q 0 } } := by
  rw [State.unsigned, vput_fin]

section Msix
variable {s : State} {vec : Nat} {c : PcieCfg}

theorem msix_noLink (h : s.hq.pcie = none) : s.msix vec = s := by rw [State.msix, h]

theorem msix_disabled (h : s.hq.pcie = some c) (hen : c.msixEn = false) : s.msix vec = s := by
  rw [State.msix, h]
  simp only [hen, Bool.not_false, if_true]

theorem msix_sent (h : s.hq.pcie = some c) (hen : c.msixEn = true) (hmask : c.msixMask = false) (htbl : s.rdN (R.MSIX_TBL vec 3) % 2 = 0) :
    s.msix vec = { s with out := s.out ++ [.msix vec] } := by
  have hne : ¬ (c.msixMask = true ∨ s.rdN (R.MSIX_TBL vec 3) % 2 = 1) := by
    rintro (h1 | h1)
    · simp [hmask] at h1
    · omega
  rw [State.msix, h]
  simp only [hen, Bool.not_true, Bool.false_eq_true, if_false, Bool.or_eq_true, decide_eq_true_eq, if_neg hne]
  rw [emit_eq, show scanned (.msix vec) = false from rfl, Bool.and_false, if_neg Bool.false_ne_true]

theorem msix_pending (h : s.hq.pcie = some c) (hen : c.msixEn = true) (hmask : c.msixMask = true ∨ s.rdN (R.MSIX_TBL vec 3) % 2 = 1) :
    s.msix vec = s.put (R.MSIX_PBA (vec / 32)) (s.rd (R.MSIX_PBA (vec / 32)) ||| BitVec.ofNat 32 (2 ^ (vec % 32))) := by
  rw [State.msix, h]
  simp only [hen, Bool.not_true, Bool.false_eq_true, if_false, Bool.or_eq_true, decide_eq_true_eq, if_pos hmask]

/-- The pending bit of a vector. -/
def pbaFld (vec : Nat) : Fld := ⟨R.MSIX_PBA (vec / 32), vec % 32, 1⟩

theorem toNat_bit {k : Nat} (h : k < 32) : (BitVec.ofNat 32 (2 ^ k)).toNat = 2 ^ k := by
  rw [BitVec.toNat_ofNat]
  exact Nat.mod_eq_of_lt (Nat.pow_lt_pow_right (by decide) h)

theorem bitN_orBit (w : Word) {k : Nat} (h : k < 32) : bitN (w ||| BitVec.ofNat 32 (2 ^ k)).toNat k = true := by
  have hone : (2 ^ k / 2 ^ k % 2 ^ 1) = 1 := by rw [Nat.div_self (Nat.two_pow_pos k), pow_one]
  have hor : ∀ x : Nat, x < 2 → (x ||| 1 == 1) = true := by decide
  rw [BitVec.toNat_or, toNat_bit h, bitN_eq_fieldN, fieldN_or, show fieldN (2 ^ k) k 1 = 1 from hone]
  exact hor _ (Nat.mod_lt _ (by decide))

theorem pbaFld_mask (vec : Nat) : (pbaFld vec).mask = BitVec.ofNat 32 (2 ^ (vec % 32)) := by
  change BitVec.ofNat 32 ((2 ^ 1 - 1) * 2 ^ (vec % 32)) = _
  rw [show (2 : Nat) ^ 1 - 1 = 1 from rfl, Nat.one_mul]

theorem pending_frame (s : State) (vec : Nat) :
    Frame s (s.put (R.MSIX_PBA (vec / 32)) (s.rd (R.MSIX_PBA (vec / 32)) ||| BitVec.ofNat 32 (2 ^ (vec % 32)))) [pbaFld vec] := by
  refine (Frame.refl s _).put _ ?_
  have hbits : fieldBits [pbaFld vec] (R.MSIX_PBA (vec / 32)) = BitVec.ofNat 32 (2 ^ (vec % 32)) := by
    have hoff : (pbaFld vec).off = R.MSIX_PBA (vec / 32) := rfl
    rw [fieldBits, if_pos hoff, pbaFld_mask, fieldBits]
    simp
  rw [hbits]
  ext i hi
  simp only [BitVec.getElem_and, BitVec.getElem_or, BitVec.getElem_not]
  cases (BitVec.ofNat 32 (2 ^ (vec % 32)))[i] <;> simp

end Msix

theorem fin_cleared (v : Vector DmaS 32) (n : Fin 32) : (v.map (fun (d : DmaS) => { d with fin := none }))[n].fin = none := by simp

/-- Settles O9: CFG, the doorbell and the interrupt of a queue, each by its own case. -/
theorem queueControl : Obligations.QueueControl := by
  unfold Obligations.QueueControl
  refine ⟨?toDevice, ?fromDevice, ?outOfRange, ?disable, ?bell, ?bellOutside, ?noIrq, ?irq, ?late⟩
  case toDevice =>
    intro q s hq hwas h17 h26
    have h := queueEnable_toDevice hq hwas h17 h26
    rw [State.enableOut, State.devIndex, if_pos hq] at h
    exact h
  case fromDevice =>
    intro c s0 s q hwas h17 h26
    have h := queueEnable_fromDevice (s := s) ⟨rfl, rfl, fin_cleared s0.dma⟩ hwas h17 h26
    have hindex : s.devIndex (32 + c) = s.fld (F.HQ_TAIL_OFS (32 + c)) := if_neg (by omega)
    rw [State.enableOut, hindex] at h
    exact h
  case outOfRange => exact fun q s hwas hsize => queueEnable_outOfRange hwas hsize
  case disable => exact fun q s hwas => queueDisable_done hwas
  case bell => exact fun q tail s _ ht => queueDoorbell_inside ht
  case bellOutside => exact fun q tail s h => completes_of_done ((exec_queueDoorbell q tail s).trans (congrArg (done s) (doorbell_outside h))) rfl
  case noIrq =>
    intro q s h
    refine completes_of_done (exec_irqHoldoffTimer q s) ?_
    rcases h with h | h
    · rw [signalQ_none h, ite_self]
    · rw [if_pos h]
  case irq =>
    intro q s hunsig htime vec u
    have hx : exec (.irqHoldoffTimer q) s = done s (u.msix vec) := by
      rw [exec_irqHoldoffTimer, if_neg htime, signalQ_some hunsig, unsigned_eq]
    refine ⟨fun hnone => ?noLink, fun c hc => ⟨fun hen => ?disabled, fun hen hmask htbl => ?sent, fun hen hmask => ?pending⟩⟩
    case noLink => exact completes_of_done hx (msix_noLink (s := u) hnone)
    case disabled => exact completes_of_done hx (msix_disabled (s := u) hc hen)
    case sent => exact completes_of_done hx (msix_sent (s := u) hc hen hmask htbl)
    case pending =>
      rw [msix_pending (s := u) hc hen hmask] at hx
      refine completes_of_done hx ⟨?_, pending_frame u vec⟩
      rw [State.rdN, rd_put_self]
      exact bitN_orBit _ (Nat.mod_lt _ (by decide))
  case late =>
    intro q s
    have hx : exec (.creditLateTimeout q) s =
        done s (if s.bit (F.HQ_STAT_FULL (32 + q)) then s.setFld (F.HQ_STAT_CRED_LATE (32 + q)) 1 else s) := rfl
    cases hfull : s.bit (F.HQ_STAT_FULL (32 + q)) with
    | true =>
      rw [hfull, if_pos rfl] at hx
      refine completes_of_done hx ⟨?_, (Frame.refl s _).setFld 1 (by simp) (Fld.fits (by rfl))⟩
      rw [bit_setFld_self _ _ _ (Fld.fits (by rfl)) rfl, Bool.or_true]
      rfl
    | false =>
      rw [hfull, if_neg (by decide)] at hx
      exact completes_of_done hx ⟨(Bool.or_false _).symm, Frame.refl s _⟩

end Sys2Proof.Machine
end
section
/-!
PROOFS. Packets that pass their checks (R362 to R371): what each does to the state taken in, and its completion.
-/
namespace Sys2Proof.Machine

/-! ### Where a register stands in the map -/

/-- A row's addresses are whole words, in the row's own block. -/
def rowPlaced (b : Block) (r : RegRow) : Bool := r.base % 4 == 0 && r.s1 % 4 == 0 && r.s2 % 4 == 0 && blockOf r.base == some b

theorem rows_placed (b : Block) : (blockRows b).all (rowPlaced b) = true := by
  cases b <;> decide +kernel

theorem locate_eq {r : RegRow} {off i j : Nat} (h : r.locate off = some (i, j)) : off = r.base + i * r.s1 + j * r.s2 := by
  simp only [RegRow.locate, Option.ite_none_left_eq_some, Option.ite_none_right_eq_some, Option.some.injEq, Prod.mk.injEq] at h
  obtain ⟨hbase, ⟨-, -, he⟩, hi, hj⟩ := h
  rw [hi] at he hj
  rw [hj] at he
  have hle : i * r.s1 ≤ off - r.base := by
    rw [← hi]
    split
    · omega
    · exact Nat.div_mul_le_self _ _
  omega

theorem locateIn_mem {off : Nat} {r : RegRef} {l : List RegRow} (h : locateIn off l = some r) : r.row ∈ l ∧ r.row.locate off = some (r.i, r.j) := by
  induction l with
  | nil => cases h
  | cons x xs ih =>
    rw [locateIn] at h
    split at h
    · next i j hx =>
      cases h
      exact ⟨by simp, hx⟩
    · obtain ⟨hm, hl⟩ := ih h
      exact ⟨by simp [hm], hl⟩

/-- A register's offset is a multiple of 4, and its row lies in its block. -/
theorem findReg_placed {off : Nat} {r : RegRef} {b : Block} (hr : findReg off = some r) (hb : blockOf off = some b) :
    off % 4 = 0 ∧ blockOf r.row.base = some b := by
  rw [findReg, hb] at hr
  obtain ⟨hm, hl⟩ := locateIn_mem hr
  have hrow := List.all_eq_true.mp (rows_placed b) r.row hm
  simp only [rowPlaced, Bool.and_eq_true, beq_iff_eq] at hrow
  obtain ⟨⟨⟨h1, h2⟩, h3⟩, h4⟩ := hrow
  refine ⟨?_, h4⟩
  rw [locate_eq hl, Nat.add_mod, Nat.add_mod r.row.base, Nat.mul_mod, h1, h2, Nat.mul_mod r.j, h3, Nat.mul_zero, Nat.mul_zero]

/-- The rows of a register of another block. -/
theorem base_ne_of_block {off x : Nat} {r : RegRef} {b : Block} (hr : findReg off = some r) (hb : blockOf off = some b) (hx : blockOf x ≠ some b) :
    r.row.base ≠ x := fun he => hx (he ▸ (findReg_placed hr hb).2)

theorem blockOf_lt {off : Nat} {b : Block} (h : blockOf off = some b) : off < 0x03100000 := by
  by_contra hn
  have hnone : blockOf off = none := by simp (disch := omega) only [blockOf, if_neg]
  simp [hnone] at h

theorem barTarget_word {off : Nat} {r : RegRef} {b : Block} (hr : findReg off = some r) (hb : blockOf off = some b) : barTarget off 4 = 0 := by
  have h4 := (findReg_placed hr hb).1
  have hlt := blockOf_lt hb
  rw [barTarget, if_neg (by omega), if_neg (by simp only [barBytes]; omega)]

/-! ### The packet passes its checks -/

section Plain
variable {q : Fin 32} {opc : Nat} {pkt : List Byte}

theorem Plain.noFence (h : Plain q opc pkt) : hFence (pktHdr pkt) = false := by
  rw [hFence]
  rcases h.flags with hf | hf <;> rw [hf] <;> rfl

theorem Plain.answers (h : Plain q opc pkt) : hNoComp (pktHdr pkt) = false := by
  rw [hNoComp]
  rcases h.flags with hf | hf <;> rw [hf] <;> rfl

theorem Plain.passes (h : Plain q opc pkt) (hlen : (pktHdr pkt).len ≤ 65532) (may : Bool) {lt pa : Nat} (hlt : lt = 0) (hpa : pa = 0) :
    hdrStatus q opc (pktHdr pkt) may lt pa = 0 := by
  have hcrc : ¬ (decide ((pktHdr pkt).len ≠ 0) && !(pktHdr pkt).pcrcOk) = true := by
    by_cases hl : (pktHdr pkt).len = 0
    · simp [hl]
    · simp [h.pcrc hl]
  have hflags : ¬ (decide (8 ≤ (pktHdr pkt).flags) || hNoComp (pktHdr pkt) && !may) = true := by
    have h8 : ¬ 8 ≤ (pktHdr pkt).flags := by rcases h.flags with hf | hf <;> rw [hf] <;> decide
    simp [h8, h.answers]
  rw [hdrStatus, if_neg (by simp [h.qid]), if_neg (by simp [h.rsvd]), if_neg hcrc, if_neg (by simp [h.opc]), if_neg (by omega), if_neg (by simp [hlt]),
    if_neg hflags, hpa]

/-- A packet that passes its checks takes effect on the state that took it in. -/
theorem Plain.runs {c : Instr} {s : State} {may : Bool} {extra : Nat} {lt pa : State → Nat} {body : State → Nat → State} (h : Plain q opc pkt)
    (hx : exec c s = done s (s.packet q opc (pktHdr pkt) may extra lt pa body)) (ho : Offered s q (16 + extra)) (hlen : (pktHdr pkt).len ≤ 65532)
    (hlt : lt (s.takeIn q (pktHdr pkt) (16 + extra)).2 = 0) (hpa : pa (s.takeIn q (pktHdr pkt) (16 + extra)).2 = 0) :
    exec c s = done s (body (s.takeIn q (pktHdr pkt) (16 + extra)).2 s.hq.slotCtr) := by
  rw [hx, packet_taken opc _ may extra lt pa body ho h.hcrc h.noFence]
  dsimp only
  rw [if_pos (h.passes hlen may hlt hpa)]

theorem Plain.entries (h : Plain q opc pkt) (st result : Nat) (data : List OutPkt) :
    endEntries q (pktHdr pkt) st result data = data.map HostEntry.pkt ++ [compOf q pkt st result] := by
  rw [endEntries, if_neg (by simp [h.answers])]
  rfl

end Plain

/-- The frame of a packet whose effect changed the fields `fs`. -/
theorem effect_frame {s u w v : State} {q : Fin 32} {fs : List Fld} (hu : QueueFrame s u (takeFields q)) (hw : QueueFrame u w fs)
    (hv : QueueFrame w v (postFields (s.fld (F.HQ_CFG_CQ q)))) : QueueFrame s v (packetFields s q ++ fs) := by
  refine ((hu.mono ?_).trans (hw.mono ?_)).trans (hv.mono ?_)
  · intro f hf
    simp only [takeFields, List.mem_cons, List.not_mem_nil, or_false] at hf
    rcases hf with rfl | rfl <;> simp [packetFields]
  · exact fun f hf => List.mem_append_right _ hf
  · intro f hf
    simp only [postFields, List.mem_cons, List.not_mem_nil, or_false] at hf
    rcases hf with rfl | rfl | rfl | rfl <;> simp [packetFields]

/-- From `s` to `v` entries were posted and outputs sent, and none was taken back; the packets under way stay. -/
structure Grown (s v : State) : Prop where
  slots  : v.hq.slots = s.hq.slots
  posted : s.hq.posted <+: v.hq.posted
  sent   : s.out <+: v.out

theorem Grown.refl (s : State) : Grown s s := ⟨rfl, List.prefix_refl _, List.prefix_refl _⟩

theorem Grown.trans {s t v : State} (h : Grown s t) (k : Grown t v) : Grown s v :=
  ⟨k.slots.trans h.slots, h.posted.trans k.posted, h.sent.trans k.sent⟩

theorem pushEntry_grown (s : State) {c : Nat} (e : HostEntry) (irq : Bool) (hc : c < 32) : Grown s (s.pushEntry c e irq) := by
  cases hen : s.bit (F.HQ_CFG_EN (32 + c)) with
  | false =>
    rw [State.pushEntry, if_pos (by simp [hen])]
    exact Grown.refl s
  | true =>
    have h := Posted.one e irq hen hc
    exact ⟨h.slots, ⟨_, h.posted.symm⟩, h.sent⟩

theorem foldl_pushEntry_grown (s : State) {c : Nat} (es : List HostEntry) (irq : HostEntry → Bool) (hc : c < 32) :
    Grown s (es.foldl (fun s e => s.pushEntry c e (irq e)) s) := by
  induction es generalizing s with
  | nil => exact Grown.refl s
  | cons e es ih => exact (pushEntry_grown s e (irq e) hc).trans (ih _)

theorem out_finish {s : State} {q : Fin 32} {h : PktHdr} {t : Slot} (st result : Nat) (data : List OutPkt) (hslot : s.hq.slots[q] = [t])
    (hc : t.cq < 32) : s.out <+: (s.finish q h t.key st result data).out := by
  have hone := finish_one (h := h) st result data hslot
  dsimp only at hone
  rw [hone]
  exact (foldl_pushEntry_grown (s.withSlots (s.hq.slots.set q [{ t with entries := some (endEntries q h st result data) }]))
    (endEntries q h st result data) (fun e => t.irq && e.isComp) hc).sent

/-- A register outside HOSTQ reads as before the completion. -/
theorem rd_post_other {s v : State} {c : Nat} (h : QueueFrame s v (postFields c)) {off : Nat} (hc : c < 32) (ho : blockOf off ≠ some .hostq) :
    v.rd off = s.rd off := by
  have hhq : ∀ x, 0x00200000 ≤ x → x < 0x00400000 → x ≠ off := fun x h1 h2 he => ho (he ▸ blockOf_hostq h1 h2)
  refine h.rd (fieldBits_eq_zero fun f hf => ?_)
  simp only [postFields, List.mem_cons, List.not_mem_nil, or_false] at hf
  rcases hf with rfl | rfl | rfl | rfl
  · exact hhq (R.HQ_TAIL (32 + c)) (by simp only [R.HQ_TAIL]; omega) (by simp only [R.HQ_TAIL]; omega)
  · exact hhq (R.HQ_STAT (32 + c)) (by simp only [R.HQ_STAT]; omega) (by simp only [R.HQ_STAT]; omega)
  · exact hhq (R.MSIX_PBA 0) (by decide) (by decide)
  · exact hhq (R.MSIX_PBA 1) (by decide) (by decide)

theorem QueueFrame.withStatus {s v : State} {fs : List Fld} (h : QueueFrame s v fs) (x : BitVec 8) :
    QueueFrame { s with lastStatus := x } { v with lastStatus := x } fs := Frame.withStatus h x

/-- The packet taken in, its effect and its completion, put together. -/
theorem packet_answers {s w : State} {q : Fin 32} {opc extra : Nat} {pkt : List Byte} {st result : Nat} {data : List OutPkt} {fs : List Fld}
    (h : Plain q opc pkt) (ho : Offered s q (16 + extra)) (hw : Worked (s.takeIn q (pktHdr pkt) (16 + extra)).2 w)
    {x : BitVec 8} (hf : QueueFrame { (s.takeIn q (pktHdr pkt) (16 + extra)).2 with lastStatus := x } w fs) :
    ∃ v, w.finish q (pktHdr pkt) s.hq.slotCtr st result data = v ∧
      Answered s v q (pktHdr pkt).len st (data.map HostEntry.pkt ++ [compOf q pkt st result]) ∧
      Frame { s with hq := v.hq, out := v.out, lastStatus := BitVec.ofNat 8 st } v (packetFields s q ++ fs) ∧
      w.out <+: v.out ∧ ∀ off, blockOf off ≠ some .hostq → v.rd off = w.rd off := by
  have ht := takeIn_taken (q := q) (pktHdr pkt) (16 + extra) ho.first
  obtain ⟨v, hv, hans, hframe⟩ := finish_answered st result data ho ht hw
  rw [h.entries] at hans
  have hslot : w.hq.slots[q] = [s.newSlot q (pktHdr pkt) (16 + extra)] := by
    rw [hw.slots, ht.slots]
    exact Vector.getElem_set_self _
  have hout := out_finish (h := pktHdr pkt) st result data hslot (cq_lt s q)
  exact ⟨_, hv, hans, Frame.withStatus (effect_frame (ht.frame.withStatus x) hf hframe) _, hv ▸ hout, fun off hoff => rd_post_other hframe (cq_lt s q) hoff⟩

/-! ### NOP -/

theorem length_toBytes_comp (q : Nat) (c : Completion) : (HostEntry.toBytes q (.comp c)).length = 16 := by
  simp [HostEntry.toBytes, length_leBytes]

/-- What no scan chain holds back is in the trace. -/
theorem mem_out_emits (s : State) {l : List Out} {o : Out} (h : o ∈ l) (ho : scanned o = false) : o ∈ (l.foldl State.emit s).out := by
  induction l generalizing s with
  | nil => cases h
  | cons x xs ih =>
    rcases List.mem_cons.mp h with rfl | hx
    · refine (out_emits (s.emit o) xs).subset ?_
      rw [emit_eq, ho, Bool.and_false, if_neg Bool.false_ne_true]
      simp
    · exact ih _ hx

/-- A completion that does not reach the ring's end is written whole at TAIL (R356). -/
theorem ringWrites_comp {base size t q : Nat} (c : Completion) (h : t + 32 ≤ size) :
    ringWrites base size t (HostEntry.toBytes q (.comp c) ++ zeros ((HostEntry.comp c).ringBytes - (HostEntry.toBytes q (.comp c)).length)) =
      [.hostWrite (base + t) (HostEntry.toBytes q (.comp c))] := by
  have hpad : (HostEntry.comp c).ringBytes - (HostEntry.toBytes q (.comp c)).length = 0 := by rw [length_toBytes_comp]; rfl
  have hlen := length_toBytes_comp q c
  rw [hpad, zeros, List.replicate_zero, List.append_nil, ringWrites, List.take_of_length_le (by omega), List.drop_eq_nil_of_le (by omega)]
  rfl

/-- The end of a packet without data writes its completion to the ring. -/
theorem finish_written {s : State} {q : Fin 32} {h : PktHdr} {t : Slot} (st result : Nat) (hslot : s.hq.slots[q] = [t]) (hno : hNoComp h = false)
    (hc : t.cq < 32) (hen : s.bit (F.HQ_CFG_EN (32 + t.cq)) = true) (hroom : s.fld (F.HQ_TAIL_OFS (32 + t.cq)) + 32 ≤ s.ringSize (32 + t.cq)) :
    .hostWrite (s.ringBase (32 + t.cq) + s.fld (F.HQ_TAIL_OFS (32 + t.cq)))
      (HostEntry.toBytes t.cq (.comp { src := q, status := st, tag := h.tag, result := result })) ∈ (s.finish q h t.key st result []).out := by
  have hes : endEntries q h st result [] = [.comp { src := q, status := st, tag := h.tag, result := result }] := by
    rw [endEntries, if_neg (by simp [hno])]
    rfl
  have hone := finish_one (h := h) st result [] hslot
  dsimp only at hone
  rw [hes] at hone
  rw [hone]
  obtain ⟨-, -, hout⟩ := pushEntry_tail
    (s := s.withSlots (s.hq.slots.set q [{ t with entries := some [.comp { src := q, status := st, tag := h.tag, result := result }] }]))
    (.comp { src := q, status := st, tag := h.tag, result := result }) (t.irq && HostEntry.isComp _) hen hc
  refine hout.subset ?_
  refine mem_out_emits _ ?_ rfl
  exact (ringWrites_comp _ hroom).symm ▸ List.mem_singleton_self _

theorem rd_queue_take {s u : State} {q : Nat} (h : QueueFrame s u (takeFields q)) {off : Nat} (h1 : off ≠ R.HQ_HEAD q) (h2 : off ≠ R.HQ_STAT q) :
    u.rd off = s.rd off := by
  refine h.rd (fieldBits_eq_zero fun f hf => ?_)
  simp only [takeFields, List.mem_cons, List.not_mem_nil, or_false] at hf
  rcases hf with rfl | rfl
  · exact h1.symm
  · exact h2.symm

theorem ringBase_take {s u : State} {q : Nat} (h : QueueFrame s u (takeFields q)) (n : Nat) : u.ringBase n = s.ringBase n := by
  have hlo : u.rdN (R.HQ_BASE_LO n) = s.rdN (R.HQ_BASE_LO n) :=
    congrArg BitVec.toNat (rd_queue_take h (by simp only [R.HQ_BASE_LO, R.HQ_HEAD]; omega) (by simp only [R.HQ_BASE_LO, R.HQ_STAT]; omega))
  have hhi : u.rdN (R.HQ_BASE_HI n) = s.rdN (R.HQ_BASE_HI n) :=
    congrArg BitVec.toNat (rd_queue_take h (by simp only [R.HQ_BASE_HI, R.HQ_HEAD]; omega) (by simp only [R.HQ_BASE_HI, R.HQ_STAT]; omega))
  rw [State.ringBase, State.ringBase, hlo, hhi]

section Nop
variable {q : Fin 32} {pkt : List Byte} {s : State}

theorem exec_nop (h : Plain q 0 pkt) (ho : Offered s q 16) (hl : (pktHdr pkt).len = 0) (ht : (pktHdr pkt).target = 0) (h0 : (pktHdr pkt).param0 = 0)
    (h1 : (pktHdr pkt).param1 = 0) : exec (.nop q pkt) s = done s ((s.takeIn q (pktHdr pkt) 16).2.finish q (pktHdr pkt) s.hq.slotCtr 0 0) :=
  h.runs (c := .nop q pkt) (may := true) (extra := 0) (lt := fun _ => if (pktHdr pkt).len ≠ 0 then 0x04 else if (pktHdr pkt).target ≠ 0 then 0x08 else 0)
    (pa := fun _ => if (pktHdr pkt).param0 ≠ 0 ∨ (pktHdr pkt).param1 ≠ 0 then 0x08 else 0)
    (body := fun s k => s.finish q (pktHdr pkt) k 0 0) rfl ho (by omega) (by rw [if_neg (by simp [hl]), if_neg (by simp [ht])])
    (by rw [if_neg (by simp [h0, h1])])

theorem nop_completes (h : Plain q 0 pkt) (ho : Offered s q 16) (hl : (pktHdr pkt).len = 0) (ht : (pktHdr pkt).target = 0) (h0 : (pktHdr pkt).param0 = 0)
    (h1 : (pktHdr pkt).param1 = 0) :
    Completes (.nop q pkt) s (fun v => Answered s v q 0 0 [compOf q pkt 0 0] ∧
      (s.fld (F.HQ_TAIL_OFS (32 + s.fld (F.HQ_CFG_CQ q))) + 32 ≤ s.ringSize (32 + s.fld (F.HQ_CFG_CQ q)) →
        .hostWrite (s.rdN (R.HQ_BASE_LO (32 + s.fld (F.HQ_CFG_CQ q))) + 2 ^ 32 * s.rdN (R.HQ_BASE_HI (32 + s.fld (F.HQ_CFG_CQ q))) +
          s.fld (F.HQ_TAIL_OFS (32 + s.fld (F.HQ_CFG_CQ q)))) ((compOf q pkt 0 0).toBytes (s.fld (F.HQ_CFG_CQ q))) ∈ v.out) ∧
      Frame { s with hq := v.hq, out := v.out, lastStatus := 0 } v (packetFields s q)) := by
  have htake := takeIn_taken (q := q) (pktHdr pkt) 16 ho.first
  obtain ⟨v, hv, hans, hframe, -, -⟩ := packet_answers (st := 0) (result := 0) (data := []) h (extra := 0) ho (Worked.refl _) (QueueFrame.refl _ [])
  rw [hl] at hans
  rw [List.append_nil] at hframe
  refine completes_of_done ((exec_nop h ho hl ht h0 h1).trans (congrArg (done s) hv)) ⟨hans, fun hroom => ?_, hframe⟩
  have hcfg := rd_cfg_take htake.frame (32 + s.fld (F.HQ_CFG_CQ q))
  have hslot : (s.takeIn q (pktHdr pkt) 16).2.hq.slots[q] = [s.newSlot q (pktHdr pkt) 16] := by
    rw [htake.slots]
    exact Vector.getElem_set_self _
  have hen : (s.takeIn q (pktHdr pkt) 16).2.bit (F.HQ_CFG_EN (32 + s.fld (F.HQ_CFG_CQ q))) = true :=
    (bit_of_rd_eq _ hcfg).trans (enabled_of_hasRoom ho.room)
  have hring := ringSize_of_rd hcfg
  have htail := tail_take htake.frame (32 + s.fld (F.HQ_CFG_CQ q))
  have hw := finish_written (s := (s.takeIn q (pktHdr pkt) 16).2) (h := pktHdr pkt) (t := s.newSlot q (pktHdr pkt) 16) 0 0 hslot h.answers
    (cq_lt s q) hen (by
      change (s.takeIn q (pktHdr pkt) 16).2.fld (F.HQ_TAIL_OFS (32 + s.fld (F.HQ_CFG_CQ q))) + 32 ≤
        (s.takeIn q (pktHdr pkt) 16).2.ringSize (32 + s.fld (F.HQ_CFG_CQ q))
      rw [htail, hring]
      exact hroom)
  change Out.hostWrite ((s.takeIn q (pktHdr pkt) 16).2.ringBase (32 + s.fld (F.HQ_CFG_CQ q)) +
    (s.takeIn q (pktHdr pkt) 16).2.fld (F.HQ_TAIL_OFS (32 + s.fld (F.HQ_CFG_CQ q)))) _ ∈ _ at hw
  rw [ringBase_take htake.frame, htail] at hw
  rw [← hv]
  exact hw

end Nop

/-! ### MEM_WRITE and MEM_READ without POISON (R322, R364) -/

/-- A register outside HOSTQ reads as before the packet was taken in. -/
theorem rd_take_other {s u : State} {q : Fin 32} (h : QueueFrame s u (takeFields q)) {off : Nat} (ho : blockOf off ≠ some .hostq) : u.rd off = s.rd off := by
  have hhq : ∀ x, 0x00200000 ≤ x → x < 0x00400000 → off ≠ x := fun x h1 h2 he => ho (he ▸ blockOf_hostq h1 h2)
  exact rd_queue_take h (hhq _ (by simp only [R.HQ_HEAD]; omega) (by simp only [R.HQ_HEAD]; omega))
    (hhq _ (by simp only [R.HQ_STAT]; omega) (by simp only [R.HQ_STAT]; omega))

section Memory
variable {s u : State} {q : Fin 32} (h : QueueFrame s u (takeFields q))
include h

theorem take_ddr (a : Nat) : memGet u.ddr a = memGet s.ddr a := h.mem a

theorem take_poison : u.poison = s.poison := (congrArg State.poison h.rest :)

theorem take_board : u.board = s.board := (congrArg State.board h.rest :)

theorem take_valid : u.bit F.DMC_INSTALLED_VALID = s.bit F.DMC_INSTALLED_VALID := bit_of_rd_eq F.DMC_INSTALLED_VALID (rd_take_other h (by decide))

theorem take_inDdr (a n : Nat) : u.inDdr a n = s.inDdr a n := by
  have hmib : u.fld F.DMC_INSTALLED_MIB = s.fld F.DMC_INSTALLED_MIB := fld_of_rd_eq F.DMC_INSTALLED_MIB (rd_take_other h (by decide))
  rw [State.inDdr, State.inDdr, take_valid h, hmib]

theorem take_badLine (l : Nat) : u.badLine l = s.badLine l := by
  rw [State.badLine, State.badLine, take_valid h, take_poison h]

theorem take_poisoned (a n : Nat) : u.poisoned a n = s.poisoned a n := by
  rw [State.poisoned, State.poisoned, funext (take_badLine h)]

theorem take_memReadZ (a n : Nat) : u.memReadZ a n = s.memReadZ a n := by
  rw [State.memReadZ, State.memReadZ]
  exact List.map_congr_left fun i _ => by rw [take_badLine h, take_ddr h]

theorem take_memTarget {a n : Nat} (hin : s.inDdr a n = true) : u.memTarget a n = 0 := by
  rw [State.memTarget, take_inDdr h, hin, Bool.not_true, Bool.and_false, if_neg Bool.false_ne_true]

end Memory

/-- A line that is not read with POISON does not hold it. -/
theorem contains_of_unpoisoned {s : State} {a n : Nat} (h : s.poisoned a n = false) {l : Nat} (hl : l ∈ lineRange a n) : s.poison.contains l = false := by
  rw [State.poisoned, List.any_eq_false] at h
  have := h l hl
  simp only [State.badLine, Bool.or_eq_true, not_or, Bool.not_eq_true] at this
  exact this.2

theorem mem_lineRange_byte {a n i : Nat} (hi : i < n) : (a + i) / 64 ∈ lineRange a n := by
  rw [lineRange, if_neg (by omega), List.mem_map]
  exact ⟨(a + i) / 64 - a / 64, List.mem_range.mpr (by omega), by omega⟩

/-- Bytes without POISON are read as they stand. -/
theorem memReadZ_unpoisoned {s : State} {a n : Nat} (h : s.poisoned a n = false) : s.memReadZ a n = s.memRead a n := by
  rw [State.memReadZ, State.memRead, memRange_eq]
  refine List.map_congr_left fun i hi => ?_
  have hbad : s.badLine ((a + i) / 64) = false := by
    rw [State.poisoned, List.any_eq_false] at h
    simpa using h _ (mem_lineRange_byte (List.mem_range.mp hi))
  rw [hbad, if_neg Bool.false_ne_true]

theorem fwdCounts_worked {u : State} {r : List (Nat × Word)} {d : List Host.Cell} (hf : Frame u { u with regs := r } fwdCounts) :
    Worked u { u with regs := r, ddr := d } := by
  refine ⟨fun off h1 h2 => ?_, rfl, rfl, List.prefix_refl _⟩
  have hrd : ({ u with regs := r } : State).rd off = u.rd off := by
    refine hf.rd (fieldBits_eq_zero fun f hmem he => ?_)
    have hblock := (fwdCounts_fits hmem).2
    rw [he, blockOf_hostq h1 (by omega)] at hblock
    cases hblock
  exact hrd

/-- The state with other bytes in DDR-4. -/
def State.withDdr (s : State) (d : List Host.Cell) : State := { s with ddr := d }

theorem QueueFrame.withDdr {s v : State} {fs : List Fld} (h : QueueFrame s v fs) (d : List Host.Cell) : QueueFrame (s.withDdr d) (v.withDdr d) fs :=
  Frame.withDdr h d

theorem memRange_congr {m m' : List Host.Cell} (h : ∀ x, memGet m x = memGet m' x) (a n : Nat) : memRange m a n = memRange m' a n := by
  rw [memRange_eq, memRange_eq]
  exact List.map_congr_left fun i _ => h _

section MemWrite
variable {q : Fin 32} {pkt : List Byte} {s : State}

theorem exec_memWrite (h : Plain q 0x10 pkt) (ho : Offered s q 16) (hv : s.bit F.DMC_INSTALLED_VALID = true)
    (hin : s.inDdr (pktHdr pkt).target (pktHdr pkt).len = true) (hl : (pktHdr pkt).len ≤ 65532) (h0 : (pktHdr pkt).param0 = 0)
    (h1 : (pktHdr pkt).param1 = 0) :
    exec (.memWrite q pkt) s = done s (((s.takeIn q (pktHdr pkt) 16).2.memStore (pktHdr pkt).target (pktData pkt)).finish q (pktHdr pkt) s.hq.slotCtr 0
      (pktHdr pkt).len) := by
  have htake := (takeIn_taken (q := q) (pktHdr pkt) 16 ho.first).frame
  have hruns := h.runs (c := .memWrite q pkt) (may := true) (extra := 0) (lt := fun s => s.memTarget (pktHdr pkt).target (pktHdr pkt).len)
    (pa := fun _ => if (pktHdr pkt).param0 ≠ 0 ∨ (pktHdr pkt).param1 ≠ 0 then 0x08 else 0)
    (body := fun s k => if !s.bit F.DMC_INSTALLED_VALID then s.finish q (pktHdr pkt) k 0x65 0
      else (s.memStore (pktHdr pkt).target (pktData pkt)).finish q (pktHdr pkt) k 0 (pktData pkt).length) rfl ho hl (take_memTarget htake hin)
    (by rw [if_neg (by simp [h0, h1])])
  rw [Nat.add_zero, take_valid htake, hv, Bool.not_true, if_neg Bool.false_ne_true, h.data] at hruns
  exact hruns

theorem memWrite_completes (h : Plain q 0x10 pkt) (ho : Offered s q 16) (hv : s.bit F.DMC_INSTALLED_VALID = true)
    (hin : s.inDdr (pktHdr pkt).target (pktHdr pkt).len = true) (hl : (pktHdr pkt).len ≤ 65532) (h0 : (pktHdr pkt).param0 = 0)
    (h1 : (pktHdr pkt).param1 = 0) (hpois : s.poisoned (pktHdr pkt).target (pktHdr pkt).len = false) :
    Completes (.memWrite q pkt) s (fun v => Answered s v q (pktHdr pkt).len 0 [compOf q pkt 0 (pktHdr pkt).len] ∧
      v.memRead (pktHdr pkt).target (pktHdr pkt).len = pktData pkt ∧
      FrameStore { s with hq := v.hq, out := v.out, lastStatus := 0 } v (pktHdr pkt).target (pktHdr pkt).len (packetFields s q ++ fwdCounts)) := by
  have htake := takeIn_taken (q := q) (pktHdr pkt) 16 ho.first
  have hpu : ∀ l ∈ lineRange (pktHdr pkt).target (pktData pkt).length, (s.takeIn q (pktHdr pkt) 16).2.poison.contains l = false := by
    rw [h.data, take_poison htake.frame]
    exact fun l hl => contains_of_unpoisoned hpois hl
  obtain ⟨r, hf, hstore⟩ := memStore_unpoisoned ((take_valid htake.frame).trans hv) hpu
  have hx := exec_memWrite h ho hv hin hl h0 h1
  rw [hstore] at hx
  obtain ⟨v, hv', hans, hframe⟩ := finish_answered 0 (pktHdr pkt).len [] ho htake
    (fwdCounts_worked (d := memSetAll (s.takeIn q (pktHdr pkt) 16).2.ddr (pktHdr pkt).target (pktData pkt)) hf)
  rw [h.entries] at hans
  have hstored : QueueFrame (s.withDdr (memSetAll (s.takeIn q (pktHdr pkt) 16).2.ddr (pktHdr pkt).target (pktData pkt))) v
      (packetFields s q ++ fwdCounts) := effect_frame (htake.frame.withDdr _) (Frame.toQueue (Frame.withDdr hf _)) hframe
  have hmem : ∀ x, memGet v.ddr x = memGet (memSetAll (s.takeIn q (pktHdr pkt) 16).2.ddr (pktHdr pkt).target (pktData pkt)) x := hstored.mem
  refine completes_of_done (hx.trans (congrArg (done s) hv')) ⟨hans, ?_, hstored.regs, fun x hout => ?_, (Frame.withStatus hstored 0).rest⟩
  · change memRange v.ddr _ _ = _
    rw [memRange_congr hmem, ← h.data, memRange_memSetAll]
  · refine (hmem x).trans ?_
    rw [memGet_memSetAll, h.data, if_neg (by omega), take_ddr htake.frame]

end MemWrite

end Sys2Proof.Machine
end
section
/-!
PROOFS. The packets that read DDR-4 and registers (R322, R363, R364).
-/
namespace Sys2Proof.Machine

section MemRead
variable {q : Fin 32} {pkt : List Byte} {s : State}

theorem exec_memRead (h : Plain q 0x11 pkt) (ho : Offered s q (16 + dataRoom (pktHdr pkt).param0 65532)) (hv : s.bit F.DMC_INSTALLED_VALID = true)
    (hin : s.inDdr (pktHdr pkt).target (pktHdr pkt).param0 = true) (hlo : 1 ≤ (pktHdr pkt).param0) (hhi : (pktHdr pkt).param0 ≤ 65532)
    (hl : (pktHdr pkt).len = 0) (h1 : (pktHdr pkt).param1 = 0) :
    exec (.memRead q pkt) s = done s (((s.takeIn q (pktHdr pkt) (16 + dataRoom (pktHdr pkt).param0 65532)).2.ddrRead (pktHdr pkt).target
      (pktHdr pkt).param0).finish q (pktHdr pkt) s.hq.slotCtr (if s.poisoned (pktHdr pkt).target (pktHdr pkt).param0 then 0x60 else 0)
      (pktHdr pkt).param0 [answer (pktHdr pkt) 0x8011 (b2n (s.poisoned (pktHdr pkt).target (pktHdr pkt).param0))
        (s.memReadZ (pktHdr pkt).target (pktHdr pkt).param0)]) := by
  have htake := (takeIn_taken (q := q) (pktHdr pkt) (16 + dataRoom (pktHdr pkt).param0 65532) ho.first).frame
  have hruns := h.runs (c := .memRead q pkt) (may := false) (extra := dataRoom (pktHdr pkt).param0 65532)
    (lt := fun s => if (pktHdr pkt).len ≠ 0 then 0x04 else s.memTarget (pktHdr pkt).target (pktHdr pkt).param0)
    (pa := fun _ => if (pktHdr pkt).param0 = 0 ∨ 65532 < (pktHdr pkt).param0 then 0x04 else if (pktHdr pkt).param1 ≠ 0 then 0x08 else 0)
    (body := fun s k =>
      if !s.bit F.DMC_INSTALLED_VALID then s.finish q (pktHdr pkt) k 0x65 0
      else (s.ddrRead (pktHdr pkt).target (pktHdr pkt).param0).finish q (pktHdr pkt) k
        (if s.poisoned (pktHdr pkt).target (pktHdr pkt).param0 then 0x60 else 0) (pktHdr pkt).param0
        [answer (pktHdr pkt) 0x8011 (b2n (s.poisoned (pktHdr pkt).target (pktHdr pkt).param0))
          (s.memReadZ (pktHdr pkt).target (pktHdr pkt).param0)]) rfl ho (by omega)
    (by rw [if_neg (by simp [hl]), take_memTarget htake hin]) (by rw [if_neg (by omega), if_neg (by simp [h1])])
  rw [take_valid htake, hv, Bool.not_true, if_neg Bool.false_ne_true, take_poisoned htake, take_memReadZ htake] at hruns
  exact hruns

/-- A read that meets no POISON only counts answers of the write queues. -/
theorem ddrRead_unpoisoned {u : State} {a n : Nat} (h : u.poisoned a n = false) :
    ∃ r, u.ddrRead a n = { u with regs := r } ∧ Frame u { u with regs := r } fwdCounts := by
  obtain ⟨r, hr, hf⟩ := foldl_ddrReadLine (lineRange a n) u fun l hl => contains_of_unpoisoned h hl
  exact ⟨r, hr, hr ▸ hf⟩

theorem memRead_completes (h : Plain q 0x11 pkt) (ho : Offered s q (16 + dataRoom (pktHdr pkt).param0 65532))
    (hv : s.bit F.DMC_INSTALLED_VALID = true) (hin : s.inDdr (pktHdr pkt).target (pktHdr pkt).param0 = true) (hlo : 1 ≤ (pktHdr pkt).param0)
    (hhi : (pktHdr pkt).param0 ≤ 65532) (hl : (pktHdr pkt).len = 0) (h1 : (pktHdr pkt).param1 = 0)
    (hpois : s.poisoned (pktHdr pkt).target (pktHdr pkt).param0 = false) :
    Completes (.memRead q pkt) s (fun v =>
      Answered s v q 0 0 [.pkt (answer (pktHdr pkt) 0x8011 0 (s.memRead (pktHdr pkt).target (pktHdr pkt).param0)), compOf q pkt 0 (pktHdr pkt).param0] ∧
      Frame { s with hq := v.hq, out := v.out, lastStatus := 0 } v (packetFields s q ++ fwdCounts)) := by
  have htake := takeIn_taken (q := q) (pktHdr pkt) (16 + dataRoom (pktHdr pkt).param0 65532) ho.first
  obtain ⟨r, hr, hf⟩ := ddrRead_unpoisoned ((take_poisoned htake.frame _ _).trans hpois)
  have hx := exec_memRead h ho hv hin hlo hhi hl h1
  rw [hr, hpois, memReadZ_unpoisoned hpois] at hx
  obtain ⟨v, hv', hans, hframe, -, -⟩ := packet_answers (st := 0) (result := (pktHdr pkt).param0)
    (data := [answer (pktHdr pkt) 0x8011 0 (s.memRead (pktHdr pkt).target (pktHdr pkt).param0)]) h ho (fwdCounts_worked (d := _) hf) (Frame.toQueue hf)
  rw [hl] at hans
  exact completes_of_done (hx.trans (congrArg (done s) hv')) ⟨hans, hframe⟩

end MemRead

/-! ### Registers that read as stored, and those a packet's write only stores (R5, R364) -/

theorem regHere_of_board {s u : State} (h : u.board = s.board) (off : Nat) (r : RegRef) : u.regHere off r = s.regHere off r := by
  have hhas : ∀ k i, u.has k i = s.has k i := fun k i => by rw [State.has, State.has, h]
  simp only [State.regHere, absentCons, hhas]

/-- The blocks of the registers whose packet writes are stated here. -/
def storeBlocks : List Block := [.top, .nim, .eth, .enc, .evt, .time, .flt]

theorem storeBlocks_ungated {b : Block} (h : b ∈ storeBlocks) : gateId b 0 = none ∧ b ≠ .vg ∧ b ≠ .hostq ∧ b ≠ .tw := by
  revert h b
  decide

/-- A write of a register of these blocks without an effect of its own stores. -/
theorem regWrite_stores {off : Nat} {r : RegRef} {b : Block} (hr : findReg off = some r) (hb : blockOf off = some b) (hm : b ∈ storeBlocks)
    (hown : r.row.base ∉ ownWrites) (u : State) (w : Word) : u.regWrite b r off w = u.pkStore r off w := by
  simp only [ownWrites, List.mem_cons, List.not_mem_nil, or_false, not_or] at hown
  obtain ⟨hnp, hroute, henc, hidx, hcu, hsp, hsph, hni, hnf, hcus, habs, habss, hsw, htc, hts, htr, htar, htat, hrtc, hflt, hpair, hcmd, hdev⟩ := hown
  simp only [storeBlocks, List.mem_cons, List.not_mem_nil, or_false] at hm
  rcases hm with rfl | rfl | rfl | rfl | rfl | rfl | rfl
  · change u.topWrite r off w = _
    rw [State.topWrite, if_neg hdev]
  · change u.nimWrite r off w = _
    simp only [State.nimWrite, hnp, hroute, false_and, if_false]
  · rfl
  · change u.encWrite r off w = _
    simp only [State.encWrite, henc, hidx, hcu, hsp, hsph, hni, hnf, habs, hsw, false_and, if_false]
  · rfl
  · change u.timeWrite r off w = _
    simp only [State.timeWrite, htc, hts, htr, htar, htat, hrtc, false_and, if_false]
  · have hne : ∀ x, blockOf x ≠ some .flt → r.row.base ≠ x := fun x => base_ne_of_block hr hb
    change u.pwrWrite r off w = _
    simp only [State.pwrWrite, hflt, hpair, hcmd, hne R.PWR_CMD (by decide), hne R.PWR_RESTORE_LO (by decide), hne R.PWR_RESTORE_HI (by decide),
      hne (R.PWR_RET_MASK_LO 0) (by decide), hne (R.PWR_RET_MASK_HI 0) (by decide), hne (R.PWR_DVFS 0) (by decide), hne R.CAL_CTL (by decide),
      false_and, or_self, if_false]

theorem pkWrite_stores {off : Nat} {r : RegRef} {b : Block} (hr : findReg off = some r) (hb : blockOf off = some b) (hm : b ∈ storeBlocks)
    (hown : r.row.base ∉ ownWrites) {u : State} (hh : u.regHere off r = true) (w : Word) :
    u.pkWrite off w = u.store r off w (Nat.lor r.row.rw r.row.pk) := by
  obtain ⟨hg, hvg, -, htw⟩ := storeBlocks_ungated hm
  have hclears : r.row.base ∉ clearsMore := by
    have hcu : r.row.base ≠ R.CU_STAT 0 := fun he => hown (by simp [ownWrites, he])
    have habs : r.row.base ≠ R.ABS_STAT 0 := fun he => hown (by simp [ownWrites, he])
    have htwb : r.row.base ≠ R.TW_STAT 0 := base_ne_of_block hr hb fun he => htw (Option.some.inj (he.symm.trans (by decide)))
    simp [clearsMore, hcu, habs, htwb]
  have hdev : r.row.base ≠ R.TOP_DEVID := fun he => hown (by simp [ownWrites, he])
  simp only [State.pkWrite, reach_present hr hb hg hvg hh true, hb]
  rw [regWrite_stores hr hb hm hown, State.pkStore, cleared_self _ hclears fun he => absurd he hdev]

/-- A register outside HOSTQ that takes a value leaves the packet's queues alone. -/
theorem store_worked (u : State) (r : RegRef) {off : Nat} {b : Block} (hb : blockOf off = some b) (hne : b ≠ .hostq) (w : Word) (m : Nat) :
    Worked u (u.store r off w m) := by
  refine ⟨fun x h1 h2 => ?_, rfl, rfl, List.prefix_refl _⟩
  have hx : x ≠ off := fun he => hne (Option.some.inj (hb.symm.trans (he ▸ blockOf_hostq h1 (by omega))))
  exact rd_put_ne u _ hx

section Registers
variable {q : Fin 32} {pkt : List Byte} {off : Nat} {r : RegRef} {b : Block} {s : State}

theorem take_regHere {u : State} (h : QueueFrame s u (takeFields q)) (off : Nat) (r : RegRef) : u.regHere off r = s.regHere off r :=
  regHere_of_board (take_board h) off r

/-- A packet's write of a register, and its completion. -/
theorem store_answers {opc : Nat} (h : Plain q opc pkt) (ho : Offered s q 16) (hb : blockOf off = some b) (hhq : b ≠ .hostq) (w : Word) (m result : Nat) :
    ∃ v, ((s.takeIn q (pktHdr pkt) 16).2.store r off w m).finish q (pktHdr pkt) s.hq.slotCtr 0 result = v ∧
      Answered s v q (pktHdr pkt).len 0 [compOf q pkt 0 result] ∧
      v.rd off = ((s.rd off &&& ~~~(BitVec.ofNat 32 m)) ||| (w &&& BitVec.ofNat 32 m)) &&& ~~~(w &&& BitVec.ofNat 32 r.row.w1c) &&&
        ~~~(if w &&& BitVec.ofNat 32 r.row.sat = 0 then 0 else BitVec.ofNat 32 r.row.cnt) ∧
      Frame { s with hq := v.hq, out := v.out, lastStatus := 0 } v (whole off :: packetFields s q) := by
  have hno : blockOf off ≠ some .hostq := fun he => hhq (Option.some.inj (hb.symm.trans he))
  have htake := (takeIn_taken (q := q) (pktHdr pkt) 16 ho.first).frame
  have hstore := frame_store (s := (s.takeIn q (pktHdr pkt) 16).2) r off w m (fs := [whole off]) (by simp)
  obtain ⟨v, hv, hans, hframe, -, hrd⟩ := packet_answers (st := 0) (result := result) (data := []) (extra := 0) h ho
    (store_worked _ r hb hhq w m) (Frame.toQueue hstore)
  refine ⟨v, hv, hans, ?_, hframe.mono fun f hf => (List.mem_append.mp hf).elim (List.mem_cons_of_mem _) (fun h => by simp_all)⟩
  rw [hrd off hno, ← rd_take_other htake hno]
  exact rd_put_self _ off _

theorem pktWords_one (h : (pktData pkt).length = 4) : pktWords pkt = [BitVec.ofNat 32 (leVal (pktData pkt))] := by
  rw [pktWords, h]
  change [BitVec.ofNat 32 (leVal (slice (pktData pkt) 0 4))] = _
  rw [slice, List.drop_zero, List.take_of_length_le (by omega)]

theorem regWrite_completes (h : Plain q 1 pkt) (hr : findReg (pktHdr pkt).target = some r) (hb : blockOf (pktHdr pkt).target = some b)
    (hm : b ∈ storeBlocks) (hown : r.row.base ∉ ownWrites) (ho : Offered s q 16) (hh : s.regHere (pktHdr pkt).target r = true)
    (hl : (pktHdr pkt).len = 4) (h0 : (pktHdr pkt).param0 = 0) (h1 : (pktHdr pkt).param1 = 0) :
    let val := BitVec.ofNat 32 (leVal (pktData pkt))
    Completes (.regWrite q pkt) s (fun v =>
      Answered s v q 4 0 [compOf q pkt 0 1] ∧
      (let m := BitVec.ofNat 32 (Nat.lor r.row.rw r.row.pk)
       v.rd (pktHdr pkt).target = ((s.rd (pktHdr pkt).target &&& ~~~m) ||| (val &&& m)) &&& ~~~(val &&& BitVec.ofNat 32 r.row.w1c) &&&
        ~~~(if val &&& BitVec.ofNat 32 r.row.sat = 0 then 0 else BitVec.ofNat 32 r.row.cnt)) ∧
      Frame { s with hq := v.hq, out := v.out, lastStatus := 0 } v (whole (pktHdr pkt).target :: packetFields s q)) := by
  intro val
  have htake := (takeIn_taken (q := q) (pktHdr pkt) 16 ho.first).frame
  obtain ⟨-, -, hhq, -⟩ := storeBlocks_ungated hm
  have hx := h.runs (c := .regWrite q pkt) (may := true) (extra := 0)
    (lt := fun _ => if (pktHdr pkt).len % 4 ≠ 0 then 0x04 else barTarget (pktHdr pkt).target (pktHdr pkt).len)
    (pa := fun _ => if (pktHdr pkt).param0 ≠ 0 ∨ (pktHdr pkt).param1 ≠ 0 then 0x08 else 0)
    (body := fun s k =>
      let r := s.writeWords (pktHdr pkt).target 0 (pktWords pkt)
      r.1.finish q (pktHdr pkt) k r.2.1 r.2.2) rfl ho (by omega)
    (by rw [hl, if_neg (by decide), barTarget_word hr hb]) (by rw [if_neg (by simp [h0, h1])])
  have hwords : (s.takeIn q (pktHdr pkt) 16).2.writeWords (pktHdr pkt).target 0 (pktWords pkt) =
      ((s.takeIn q (pktHdr pkt) 16).2.store r (pktHdr pkt).target val (Nat.lor r.row.rw r.row.pk), 0, 1) := by
    rw [pktWords_one (h.data.trans hl), State.writeWords, pkWrite_stores hr hb hm hown ((take_regHere htake _ r).trans hh)]
    rfl
  rw [Nat.add_zero] at hx
  dsimp only at hx
  rw [hwords] at hx
  obtain ⟨v, hv, hans, hrd, hframe⟩ := store_answers (r := r) h ho hb hhq val (Nat.lor r.row.rw r.row.pk) 1
  rw [hl] at hans
  exact completes_of_done (hx.trans (congrArg (done s) hv)) ⟨hans, hrd, hframe⟩

theorem regRead_completes (h : Plain q 2 pkt) (hr : findReg (pktHdr pkt).target = some r) (hb : blockOf (pktHdr pkt).target = some b)
    (ho : Offered s q (16 + dataRoom 4 65532)) (hl : (pktHdr pkt).len = 0) (h0 : (pktHdr pkt).param0 = 1) (h1 : (pktHdr pkt).param1 = 0)
    (hg : gateId b 0 = none) (hvg : b ≠ .vg) (hhq : b ≠ .hostq) (hh : s.regHere (pktHdr pkt).target r = true) (hbase : r.row.base ∉ computedReads) :
    Completes (.regRead q pkt) s (fun v =>
      Answered s v q 0 0 [.pkt (answer (pktHdr pkt) 0x8002 0
        (leBytes 4 (s.rd (pktHdr pkt).target &&& ~~~(BitVec.ofNat 32 r.row.wo)).toNat)), compOf q pkt 0 1] ∧
      Frame { s with hq := v.hq, out := v.out, lastStatus := 0 } v (packetFields s q)) := by
  have htake := (takeIn_taken (q := q) (pktHdr pkt) (16 + dataRoom 4 65532) ho.first).frame
  have hno : blockOf (pktHdr pkt).target ≠ some .hostq := fun he => hhq (Option.some.inj (hb.symm.trans he))
  have hx := h.runs (c := .regRead q pkt) (may := false) (extra := dataRoom 4 65532)
    (lt := fun _ => if (pktHdr pkt).len ≠ 0 then 0x04 else barTarget (pktHdr pkt).target 4)
    (pa := fun _ => if 1 = 0 ∨ 16383 < 1 then 0x04 else if (pktHdr pkt).param1 ≠ 0 then 0x08 else 0)
    (body := fun s k =>
      let r := s.readWords (pktHdr pkt).target 1
      r.2.finish q (pktHdr pkt) k 0 1 [answer (pktHdr pkt) 0x8002 0 r.1])
    (by change execRegRead q pkt s = _
        simp only [execRegRead, h0, Nat.mul_one]) ho (by omega)
    (by rw [hl, if_neg (by decide), barTarget_word hr hb]) (by rw [if_neg (by decide), if_neg (by simp [h1])])
  have hread := readReg_stored (reach_present hr hb hg hvg ((take_regHere htake _ r).trans hh) false) hbase
  have hwords : (s.takeIn q (pktHdr pkt) (16 + dataRoom 4 65532)).2.readWords (pktHdr pkt).target 1 =
      (leBytes 4 (s.rd (pktHdr pkt).target &&& ~~~(BitVec.ofNat 32 r.row.wo)).toNat, (s.takeIn q (pktHdr pkt) (16 + dataRoom 4 65532)).2) := by
    simp only [State.readWords, hread, List.append_nil, rd_take_other htake hno]
  dsimp only at hx
  rw [hwords] at hx
  obtain ⟨v, hv, hans, hframe, -, -⟩ := packet_answers (st := 0) (result := 1) (data := [answer (pktHdr pkt) 0x8002 0
    (leBytes 4 (s.rd (pktHdr pkt).target &&& ~~~(BitVec.ofNat 32 r.row.wo)).toNat)]) h ho (Worked.refl _) (QueueFrame.refl _ [])
  rw [hl] at hans
  rw [List.append_nil] at hframe
  exact completes_of_done (hx.trans (congrArg (done s) hv)) ⟨hans, hframe⟩

theorem and_not_zero (w : Word) : w &&& ~~~(BitVec.ofNat 32 0) = w := by
  rw [BitVec.not_zero, BitVec.and_allOnes]

/-- A read-modify-write stores the masked bits that a packet may write (R364). -/
theorem rmw_bits (old mask val m : Word) : (old &&& ~~~m) ||| (rmwVal old mask val &&& m) = (old &&& ~~~(m &&& mask)) ||| (val &&& (m &&& mask)) := by
  ext i hi
  simp only [rmwVal, BitVec.getElem_or, BitVec.getElem_and, BitVec.getElem_not]
  cases old[i] <;> cases mask[i] <;> cases val[i] <;> cases m[i] <;> rfl

theorem regRmw_completes (h : Plain q 3 pkt) (hr : findReg (pktHdr pkt).target = some r) (hb : blockOf (pktHdr pkt).target = some b)
    (hm : b ∈ storeBlocks) (hown : r.row.base ∉ ownWrites) (ho : Offered s q 16) (hh : s.regHere (pktHdr pkt).target r = true)
    (hbase : r.row.base ∉ [R.TOP_FAULT_SUM, R.EVT_CFG 0, R.EVT_GATE, R.FLT_COND, R.TIME_NOW_LO, R.RTC_SEC_LO]) (hw1c : r.row.w1c = 0)
    (hwo : r.row.wo = 0) (hl : (pktHdr pkt).len = 0) :
    let mask := BitVec.ofNat 32 (pktHdr pkt).param0
    let val := BitVec.ofNat 32 (pktHdr pkt).param1
    Completes (.regRmw q pkt) s (fun v =>
      Answered s v q 0 0 [compOf q pkt 0 (s.rd (pktHdr pkt).target).toNat] ∧
      (let m := BitVec.ofNat 32 (Nat.lor r.row.rw r.row.pk) &&& mask
       v.rd (pktHdr pkt).target &&& ~~~(if r.row.sat = 0 then 0 else BitVec.allOnes 32) =
        ((s.rd (pktHdr pkt).target &&& ~~~m) ||| (val &&& m)) &&& ~~~(if r.row.sat = 0 then 0 else BitVec.allOnes 32)) ∧
      Frame { s with hq := v.hq, out := v.out, lastStatus := 0 } v (whole (pktHdr pkt).target :: packetFields s q)) := by
  intro mask val
  have htake := (takeIn_taken (q := q) (pktHdr pkt) 16 ho.first).frame
  obtain ⟨hg, hvg, hhq, htw⟩ := storeBlocks_ungated hm
  have hno : blockOf (pktHdr pkt).target ≠ some .hostq := fun he => hhq (Option.some.inj (hb.symm.trans he))
  have hcomputed : r.row.base ∉ computedReads := by
    have hcu : r.row.base ≠ R.CU_CTL 0 := fun he => hown (by simp [ownWrites, he])
    have hother : ∀ x, x ≠ b → ∀ o, blockOf o = some x → r.row.base ≠ o := fun x hx o hox =>
      base_ne_of_block hr hb fun he => hx (Option.some.inj (hox.symm.trans he))
    have hprt : b ≠ .prt := fun he => absurd (he ▸ hm) (by decide)
    have htk := hother .prt hprt.symm (R.HP_TK 0 0) (by decide)
    have hfile := hother .tw htw.symm (R.TW3_FILE 0) (by decide)
    simp only [List.mem_cons, List.not_mem_nil, or_false, not_or] at hbase
    simp only [computedReads, List.mem_cons, List.not_mem_nil, or_false, not_or]
    obtain ⟨hsum, hcfg, hgate, hcond, hnow, hrtc⟩ := hbase
    exact ⟨hsum, hcfg, hgate, hcu, hcond, htk, hfile, hnow, hrtc⟩
  have hthere := (take_regHere htake (pktHdr pkt).target r).trans hh
  have hread : (s.takeIn q (pktHdr pkt) 16).2.readReg (pktHdr pkt).target = (s.rd (pktHdr pkt).target, (s.takeIn q (pktHdr pkt) 16).2) := by
    rw [readReg_stored (reach_present hr hb hg hvg hthere false) hcomputed, hwo, rd_take_other htake hno, and_not_zero]
  have hx := h.runs (c := .regRmw q pkt) (may := true) (extra := 0)
    (lt := fun _ => if (pktHdr pkt).len ≠ 0 then 0x04 else barTarget (pktHdr pkt).target 4) (pa := fun _ => 0)
    (body := fun s k =>
      let o := s.readReg (pktHdr pkt).target
      let s := o.2.pkWrite (pktHdr pkt).target (rmwVal o.1 mask val)
      s.finish q (pktHdr pkt) k s.lastStatus.toNat o.1.toNat) rfl ho (by omega) (by rw [hl, if_neg (by decide), barTarget_word hr hb]) rfl
  rw [Nat.add_zero] at hx
  dsimp only at hx
  rw [hread] at hx
  dsimp only at hx
  rw [pkWrite_stores hr hb hm hown hthere] at hx
  obtain ⟨v, hv, hans, hrd, hframe⟩ := store_answers (r := r) h ho hb hhq (rmwVal (s.rd (pktHdr pkt).target) mask val)
    (Nat.lor r.row.rw r.row.pk) (s.rd (pktHdr pkt).target).toNat
  rw [hl] at hans
  refine completes_of_done (hx.trans (congrArg (done s) hv)) ⟨hans, ?_, hframe⟩
  dsimp only
  rw [hrd, hw1c, rmw_bits]
  by_cases hsat : r.row.sat = 0
  · rw [if_pos hsat, hsat]
    simp only [BitVec.ofNat_eq_ofNat, BitVec.and_zero, if_true, and_not_zero]
  · rw [if_neg hsat, BitVec.not_allOnes]
    simp only [BitVec.and_zero]

end Registers

/-! ### EVENT and CXP_CTRL (R366, R370) -/

section Others
variable {q : Fin 32} {pkt : List Byte} {s : State}

theorem event_completes (h : Plain q 0x30 pkt) (ho : Offered s q 16) (hl : (pktHdr pkt).len = 0) (ht : (pktHdr pkt).target = 0)
    (h0 : (pktHdr pkt).param0 < 4) (h1 : (pktHdr pkt).param1 = 0) :
    Completes (.event q pkt) s (fun v => v = ((s.takeIn q (pktHdr pkt) 16).2.raise ((if bitN (pktHdr pkt).param0 0 then [91] else []) ++
      if bitN (pktHdr pkt).param0 1 then [92] else [])).finish q (pktHdr pkt) s.hq.slotCtr 0 0) := by
  have hx := h.runs (c := .event q pkt) (may := true) (extra := 0)
    (lt := fun _ => if (pktHdr pkt).len ≠ 0 then 0x04 else if (pktHdr pkt).target ≠ 0 then 0x08 else 0)
    (pa := fun _ => if 4 ≤ (pktHdr pkt).param0 ∨ (pktHdr pkt).param1 ≠ 0 then 0x08 else 0)
    (body := fun s k => (s.raise ((if bitN (pktHdr pkt).param0 0 then [91] else []) ++ if bitN (pktHdr pkt).param0 1 then [92] else [])).finish q
      (pktHdr pkt) k 0 0) rfl ho (by omega) (by rw [if_neg (by simp [hl]), if_neg (by simp [ht])])
    (by rw [if_neg (by omega)])
  exact completes_of_done hx rfl

/-- The packet taken in stands alone in its queue's order, without entries. -/
theorem taken_slots {u : State} {len room : Nat} (h : Taken s u q len (s.newSlot q (pktHdr pkt) room)) :
    ∀ t ∈ u.hq.slots[q], t.key = s.hq.slotCtr ∧ t.entries = none := by
  rw [h.slots]
  intro t ht
  rw [show (s.hq.slots.set q [s.newSlot q (pktHdr pkt) room])[q] = [s.newSlot q (pktHdr pkt) room] from Vector.getElem_set_self _,
    List.mem_singleton] at ht
  subst ht
  exact ⟨rfl, rfl⟩

theorem take_masterUp {u : State} (h : QueueFrame s u (takeFields q)) (n : Fin 12) : u.masterUp n = s.masterUp n := by
  have hst : u.fld (F.LANE_STAT_STATE (8 * n)) = s.fld (F.LANE_STAT_STATE (8 * n)) :=
    fld_of_rd_eq (F.LANE_STAT_STATE (8 * n)) (rd_queue_take h (off := R.LANE_STAT (8 * n)) (by simp only [R.LANE_STAT, R.HQ_HEAD]; omega)
      (by simp only [R.LANE_STAT, R.HQ_STAT]; omega))
  rw [State.masterUp, State.masterUp, State.lst, State.lst, hst]

theorem out_mem_emit {u : State} {o : Out} (h : u.scanDrives = false) : o ∈ (u.emit o).out := by
  rw [State.emit, h, Bool.false_and, if_neg Bool.false_ne_true]
  simp

theorem emit_worked (u : State) (o : Out) : Worked u (u.emit o) :=
  ⟨fun off _ _ => emit_rd u o off, congrArg HostqS.slots (emit_hq u o), congrArg HostqS.posted (emit_hq u o), out_emit u o⟩

theorem cxpCtrl_completes {n : Fin 12} (h : Plain q 0x50 pkt) (ho : Offered s q 16) (hl : (pktHdr pkt).len ≤ 65532) (ht : (pktHdr pkt).target = 0)
    (h0 : (pktHdr pkt).param0 = n) (h1 : (pktHdr pkt).param1 = 0) (hup : s.masterUp n = true) (hred : s.lane.red[n] = []) :
    Completes (.cxpCtrl q pkt) s (fun v =>
      Answered s v q (pktHdr pkt).len 0 [compOf q pkt 0 0] ∧ (s.scanDrives = false → .camCtrl n (pktData pkt) ∈ v.out) ∧
      Frame { s with hq := v.hq, out := v.out, lastStatus := 0 } v (packetFields s q)) := by
  have htake := (takeIn_taken (q := q) (pktHdr pkt) 16 ho.first).frame
  have hrest := htake.rest
  have hlane : (s.takeIn q (pktHdr pkt) 16).2.lane = s.lane := (congrArg State.lane hrest :)
  have hjtag : (s.takeIn q (pktHdr pkt) 16).2.jtag = s.jtag := (congrArg State.jtag hrest :)
  have hx := h.runs (c := .cxpCtrl q pkt) (may := true) (extra := 0) (lt := fun _ => if (pktHdr pkt).target ≠ 0 then 0x08 else 0)
    (pa := fun _ => if 12 ≤ (pktHdr pkt).param0 ∨ (pktHdr pkt).param1 ≠ 0 then 0x08 else 0)
    (body := fun s k =>
      let e : CtrlPkt := { q := q, key := k, tag := (pktHdr pkt).tag, flags := (pktHdr pkt).flags, bytes := pktData pkt }
      if s.masterUp (pktHdr pkt).param0 && !(vget s.lane.red (pktHdr pkt).param0 []).isEmpty then
        { s with lane := { s.lane with ctrl := vput s.lane.ctrl (pktHdr pkt).param0 (vget s.lane.ctrl (pktHdr pkt).param0 [] ++ [e]) } }
      else s.ctrlSend (pktHdr pkt).param0 e) rfl ho hl (by rw [if_neg (by simp [ht])]) (by rw [if_neg (by omega)])
  rw [Nat.add_zero] at hx
  dsimp only at hx
  rw [h0, take_masterUp htake, hlane, vget_fin, hred, hup, List.isEmpty_nil, Bool.not_true, Bool.and_false, if_neg Bool.false_ne_true, State.ctrlSend,
    take_masterUp htake, hup, if_pos rfl] at hx
  obtain ⟨v, hv, hans, hframe, hout, -⟩ := packet_answers (st := 0) (result := 0) (data := []) (extra := 0) h ho
    (emit_worked _ (.camCtrl n (pktData pkt))) (queueFrame_emit _ _ [])
  rw [List.append_nil] at hframe
  refine completes_of_done (hx.trans (congrArg (done s) hv)) ⟨hans, fun hscan => ?_, hframe⟩
  refine hout.subset (out_mem_emit ?_)
  rw [State.scanDrives, hjtag]
  exact hscan

end Others



end Sys2Proof.Machine
end
section
/-!
PROOFS. MEM_READ of poisoned lines (R325, R364): what the records of the error leave of the queues, and the packet's end behind them.
-/
namespace Sys2Proof.Machine

/-! ### What leaves the queues alone -/

/-- From `s` to `v` no queue's HEAD or CFG changes, nothing is posted, the packets under way stay, and no line takes POISON. -/
structure QueuesKept (s v : State) : Prop where
  slots  : v.hq.slots = s.hq.slots
  posted : v.hq.posted = s.hq.posted
  head   : ∀ n < 64, v.rd (R.HQ_HEAD n) = s.rd (R.HQ_HEAD n)
  cfg    : ∀ n < 64, v.rd (R.HQ_CFG n) = s.rd (R.HQ_CFG n)
  clean  : ∀ l ∈ v.poison, l ∈ s.poison

theorem QueuesKept.refl (s : State) : QueuesKept s s := ⟨rfl, rfl, fun _ _ => rfl, fun _ _ => rfl, fun _ h => h⟩

theorem QueuesKept.trans {s t v : State} (h : QueuesKept s t) (k : QueuesKept t v) : QueuesKept s v :=
  ⟨k.slots.trans h.slots, k.posted.trans h.posted, fun n hn => (k.head n hn).trans (h.head n hn), fun n hn => (k.cfg n hn).trans (h.cfg n hn),
    fun l hl => h.clean l (k.clean l hl)⟩

theorem queuesKept_put (s : State) {off : Nat} (w : Word) (h : blockOf off ≠ some .hostq) : QueuesKept s (s.put off w) := by
  have hhq : ∀ x, 0x00200000 ≤ x → x < 0x00400000 → x ≠ off := fun x h1 h2 he => h (he ▸ blockOf_hostq h1 h2)
  exact ⟨rfl, rfl, fun n hn => rd_put_ne s w (hhq _ (by simp only [R.HQ_HEAD]; omega) (by simp only [R.HQ_HEAD]; omega)),
    fun n hn => rd_put_ne s w (hhq _ (by simp only [R.HQ_CFG]; omega) (by simp only [R.HQ_CFG]; omega)), fun _ h => h⟩

theorem queuesKept_setFld (s : State) {f : Fld} (v : Nat) (h : blockOf f.off ≠ some .hostq) : QueuesKept s (s.setFld f v) := queuesKept_put s _ h

theorem queuesKept_incCnt (s : State) {f g : Fld} (hf : blockOf f.off ≠ some .hostq) (hg : blockOf g.off ≠ some .hostq) : QueuesKept s (s.incCnt f g) := by
  unfold State.incCnt
  dsimp only
  split
  · exact (queuesKept_setFld s _ hf).trans (queuesKept_setFld _ _ hg)
  · exact queuesKept_setFld s _ hf

/-! ### Ethernet record frames (R240, R295) -/

section Gather
variable {p : Nat} (hp : p < 2)
include hp

theorem launchStat_other : blockOf (R.TIME_EP_LSTAT p) ≠ some .hostq := by
  rw [blockOf_time (by simp only [R.TIME_EP_LSTAT]; omega) (by simp only [R.TIME_EP_LSTAT]; omega)]
  decide

theorem launchCnt_other : blockOf (R.TIME_EP_LCNT p) ≠ some .hostq := by
  rw [blockOf_time (by simp only [R.TIME_EP_LCNT]; omega) (by simp only [R.TIME_EP_LCNT]; omega)]
  decide

theorem queuesKept_setLaunch (s : State) (l : List LaunchE) : QueuesKept s (s.setLaunch p l) := by
  have h1 : QueuesKept s { s with time := { s.time with launch := vput s.time.launch p l } } := ⟨rfl, rfl, fun _ _ => rfl, fun _ _ => rfl, fun _ h => h⟩
  exact h1.trans (queuesKept_setFld _ (f := F.TIME_EP_LSTAT_DEPTH p) l.length (launchStat_other hp))

theorem queuesKept_launchSeg (s : State) (frame : List Byte) (l : Nat) : QueuesKept s (s.launchSeg p frame l) := by
  unfold State.launchSeg
  extract_lets q
  split
  · exact ((queuesKept_setFld s (f := F.TIME_EP_LSTAT_FULL p) 1 (launchStat_other hp)).trans
      (queuesKept_incCnt _ (f := F.TIME_EP_LCNT_DROP_CNT p) (g := F.TIME_EP_LCNT_SAT p) (launchCnt_other hp) (launchCnt_other hp))).trans
      (queuesKept_incCnt _ (f := F.SEG_LOSS_CNT_DROP_CNT) (g := F.SEG_LOSS_CNT_SAT) (by decide) (by decide))
  · exact queuesKept_setLaunch hp s _

theorem queuesKept_gatherRec (s : State) (ws : List Nat) : QueuesKept s (s.gatherRec p ws) := by
  unfold State.gatherRec
  extract_lets old t src s1
  have h1 : QueuesKept s s1 := ⟨rfl, rfl, fun _ _ => rfl, fun _ _ => rfl, fun _ h => h⟩
  split
  · refine h1.trans ?_
    unfold State.closeGather
    extract_lets recs f l src2 s2
    split
    · exact QueuesKept.refl s1
    · have h2 : QueuesKept s1 s2 := ⟨rfl, rfl, fun _ _ => rfl, fun _ _ => rfl, fun _ h => h⟩
      exact h2.trans (queuesKept_launchSeg hp s2 f l)
  · exact h1

end Gather

/-! ### What reading poisoned lines does to the queues -/

/-- From `s` to `v` lines of DDR-4 were read, and records of their errors were posted (R325, R428). -/
structure LinesRead (s v : State) : Prop where
  slots  : v.hq.slots = s.hq.slots
  posted : s.hq.posted <+: v.hq.posted
  quiet  : s.bit (F.SEG_ROUTE_Q_EN 4) = false → v.hq.posted = s.hq.posted
  head   : ∀ n < 64, v.rd (R.HQ_HEAD n) = s.rd (R.HQ_HEAD n)
  cfg    : ∀ n < 64, v.rd (R.HQ_CFG n) = s.rd (R.HQ_CFG n)
  regs   : FrameRegs s v (fun off => blockOf off == some .dmc || recordReg off)
  size   : v.rd R.DMC_INSTALLED = s.rd R.DMC_INSTALLED
  mem    : FrameMem s v s.spillByte
  clean  : ∀ l ∈ v.poison, l ∈ s.poison

theorem LinesRead.refl (s : State) : LinesRead s s :=
  ⟨rfl, List.prefix_refl _, fun _ => rfl, fun _ _ => rfl, fun _ _ => rfl, fun _ _ => rfl, rfl, fun _ _ => rfl, fun _ h => h⟩

/-- An update of what no register and no queue shows, without new POISON, only reads. -/
theorem LinesRead.of_hidden {s v : State} (hr : v.regs = s.regs) (hb : v.board = s.board) (hd : v.ddr = s.ddr) (hq : v.hq = s.hq)
    (hp : ∀ l ∈ v.poison, l ∈ s.poison) : LinesRead s v := by
  have hrd : ∀ off, v.rd off = s.rd off := fun off => by rw [State.rd, State.rd, hr, hb]
  exact ⟨by rw [hq], by rw [hq], fun _ => by rw [hq], fun _ _ => hrd _, fun _ _ => hrd _, fun _ _ => hrd _, hrd _, fun _ _ => by rw [hd], hp⟩

theorem LinesRead.trans {s t v : State} (h : LinesRead s t) (k : LinesRead t v) : LinesRead s v := by
  have hroute : t.bit (F.SEG_ROUTE_Q_EN 4) = s.bit (F.SEG_ROUTE_Q_EN 4) := bit_of_rd_eq (F.SEG_ROUTE_Q_EN 4) (h.regs (R.SEG_ROUTE 4) (by decide))
  have hspill : t.spillByte = s.spillByte := spillByte_of_rd_eq (h.regs R.SEG_SPILL_CTL (by decide))
  exact ⟨k.slots.trans h.slots, h.posted.trans k.posted, fun hq => (k.quiet (hroute.trans hq)).trans (h.quiet hq),
    fun n hn => (k.head n hn).trans (h.head n hn), fun n hn => (k.cfg n hn).trans (h.cfg n hn), fun off ho => (k.regs off ho).trans (h.regs off ho),
    k.size.trans h.size, fun a ha => (k.mem a (by rw [hspill]; exact ha)).trans (h.mem a ha), fun l hl => h.clean l (k.clean l hl)⟩

/-- A register of a memory channel. -/
def ChanReg (off : Nat) : Prop := 0x02801000 ≤ off ∧ off < 0x02801800

theorem ChanReg.block {off : Nat} (h : ChanReg off) : blockOf off = some .dmc := by
  obtain ⟨h1, h2⟩ := h
  simp (disch := omega) only [blockOf, if_neg, if_pos]

theorem chanReg {c k : Nat} (hc : c < 8) (hk : k < 0x100) : ChanReg (0x02801000 + k + c * 0x100) := by
  unfold ChanReg
  omega

theorem linesRead_put (s : State) {off : Nat} (w : Word) (h : ChanReg off) : LinesRead s (s.put off w) := by
  have hk := queuesKept_put s w (off := off) (by rw [h.block]; decide)
  have hne : R.DMC_INSTALLED ≠ off := by
    obtain ⟨h1, h2⟩ := h
    simp only [R.DMC_INSTALLED]
    omega
  exact ⟨rfl, List.prefix_refl _, fun _ => rfl, hk.head, hk.cfg, (readFrame_put s w h.block).regs, rd_put_ne s w hne, fun _ _ => rfl, hk.clean⟩

theorem linesRead_setFld (s : State) {f : Fld} (v : Nat) (h : ChanReg f.off) : LinesRead s (s.setFld f v) := linesRead_put s _ h

theorem linesRead_incCnt (s : State) {f g : Fld} (hf : ChanReg f.off) (hg : ChanReg g.off) : LinesRead s (s.incCnt f g) := by
  unfold State.incCnt
  dsimp only
  split
  · exact (linesRead_setFld s _ hf).trans (linesRead_setFld _ _ hg)
  · exact linesRead_setFld s _ hf

theorem linesRead_modDmc (s : State) (c : Nat) (f : DmcS → DmcS) : LinesRead s (s.modDmc c f) := LinesRead.of_hidden rfl rfl rfl rfl fun _ h => h

theorem spillWrite_kept (s : State) (a : Nat) (bs : List Byte) : QueuesKept s (s.memWrite a bs) := by
  unfold State.memWrite
  split
  · exact QueuesKept.refl s
  · exact ⟨rfl, rfl, fun _ _ => rfl, fun _ _ => rfl, fun _ h => List.mem_of_mem_filter h⟩

/-- A record posted to its queue, to the spill or dropped takes nothing back, and changes no HEAD and no CFG (R238, R239). -/
theorem postRecQ_queues (s : State) (r : Nat) (ws : List Nat) :
    (s.postRecQ r ws).hq.slots = s.hq.slots ∧ s.hq.posted <+: (s.postRecQ r ws).hq.posted ∧
      (∀ n < 64, (s.postRecQ r ws).rd (R.HQ_HEAD n) = s.rd (R.HQ_HEAD n) ∧ (s.postRecQ r ws).rd (R.HQ_CFG n) = s.rd (R.HQ_CFG n)) ∧
      ∀ l ∈ (s.postRecQ r ws).poison, l ∈ s.poison := by
  have kept : ∀ {v : State}, QueuesKept s v → v.hq.slots = s.hq.slots ∧ s.hq.posted <+: v.hq.posted ∧
      (∀ n < 64, v.rd (R.HQ_HEAD n) = s.rd (R.HQ_HEAD n) ∧ v.rd (R.HQ_CFG n) = s.rd (R.HQ_CFG n)) ∧ ∀ l ∈ v.poison, l ∈ s.poison := fun h =>
    ⟨h.slots, h.posted ▸ List.prefix_refl _, fun n hn => ⟨h.head n hn, h.cfg n hn⟩, h.clean⟩
  unfold State.postRecQ
  extract_lets c a s1 src q d
  split
  · next hcredit =>
    have hroom : s.bit (F.HQ_CFG_EN (32 + c)) = true := by
      simp only [State.recCredit, Bool.and_eq_true] at hcredit
      exact enabled_of_hasRoom hcredit.1
    have hpost := Posted.one (recordsPkt ws) false hroom (fld_lt s (F.SEG_ROUTE_QID r))
    have hcnt := queuesKept_setFld (s.pushEntry c (recordsPkt ws) false) (f := F.SEG_REC_CNT_CNT)
      ((s.pushEntry c (recordsPkt ws) false).fld F.SEG_REC_CNT_CNT + 1) (by decide)
    have hc : c < 32 := fld_lt s (F.SEG_ROUTE_QID r)
    have hclean : (s.pushEntry c (recordsPkt ws) false).poison = s.poison := (congrArg State.poison hpost.frame.rest :)
    refine ⟨hpost.slots, ⟨_, hpost.posted.symm⟩, fun n hn => ⟨(hcnt.head n hn).trans ?_, (hcnt.cfg n hn).trans (rd_cfg_post hpost.frame n hn)⟩,
      fun l hl => hclean ▸ hl⟩
    exact hpost.frame.rd (fieldBits_postFields (by simp only [R.HQ_HEAD, R.HQ_TAIL]; omega) (by simp only [R.HQ_HEAD, R.HQ_STAT]; omega)
      (by simp only [R.HQ_HEAD]; omega))
  · split
    · have h1 : QueuesKept s s1 := spillWrite_kept s a _
      have h2 : QueuesKept s { s1 with seg := q } := h1.trans ⟨rfl, rfl, fun _ _ => rfl, fun _ _ => rfl, fun _ h => h⟩
      exact kept (h2.trans (queuesKept_setFld _ (f := F.SEG_STAT_SPILL_ACT) 1 (by decide)))
    · have h1 : QueuesKept s { s with seg := { s.seg with dropped := d } } := ⟨rfl, rfl, fun _ _ => rfl, fun _ _ => rfl, fun _ h => h⟩
      exact kept ((h1.trans (queuesKept_setFld _ (f := F.SEG_STAT_REC_DROP) 1 (by decide))).trans
        (queuesKept_incCnt _ (f := F.SEG_LOSS_CNT_DROP_CNT) (g := F.SEG_LOSS_CNT_SAT) (by decide) (by decide)))

theorem QueuesKept.when {s : State} {c : Prop} [Decidable c] {v : State} (h : QueuesKept s v) : QueuesKept s (if c then v else s) := by
  split
  · exact h
  · exact QueuesKept.refl s

/-- A fault record takes nothing back from the queues, and is posted only where route 4 goes to a queue (R238, R446). -/
theorem linesRead_ddrFault (s : State) (c cause a : Nat) : LinesRead s (s.ddrFault c cause a) := by
  have hframe : RecordFrame s (s.ddrFault c cause a) := recordFrame_fault s _ _ _ _ _ _ _
  suffices h : (s.ddrFault c cause a).hq.slots = s.hq.slots ∧ s.hq.posted <+: (s.ddrFault c cause a).hq.posted ∧
      (s.bit (F.SEG_ROUTE_Q_EN 4) = false → (s.ddrFault c cause a).hq.posted = s.hq.posted) ∧
      (∀ n < 64, (s.ddrFault c cause a).rd (R.HQ_HEAD n) = s.rd (R.HQ_HEAD n) ∧ (s.ddrFault c cause a).rd (R.HQ_CFG n) = s.rd (R.HQ_CFG n)) ∧
      ∀ l ∈ (s.ddrFault c cause a).poison, l ∈ s.poison by
    obtain ⟨hslots, hposted, hquiet, hqueues, hclean⟩ := h
    exact ⟨hslots, hposted, hquiet, fun n hn => (hqueues n hn).1, fun n hn => (hqueues n hn).2, hframe.reads.regs,
      hframe.regs R.DMC_INSTALLED (by decide), hframe.mem, hclean⟩
  unfold State.ddrFault State.fault State.record
  extract_lets w4 ws s1 s2 sevOk s3
  have h1 : QueuesKept s s1 := by
    unfold s1 State.shadowKeep
    exact QueuesKept.when ⟨rfl, rfl, fun _ _ => rfl, fun _ _ => rfl, fun _ h => h⟩
  have hbit : s1.bit (F.SEG_ROUTE_Q_EN 4) = s.bit (F.SEG_ROUTE_Q_EN 4) := by
    unfold s1 State.shadowKeep
    split <;> rfl
  have h3 : QueuesKept s2 s3 := (queuesKept_gatherRec (p := 0) (by decide) s2 ws).when
  have h4 : QueuesKept s2 (if s3.bit (F.SEG_ROUTE_EP1_EN 4) && sevOk then s3.gatherRec 1 ws else s3) :=
    h3.trans (queuesKept_gatherRec (p := 1) (by decide) s3 ws).when
  have h2 : s2.hq.slots = s.hq.slots ∧ s.hq.posted <+: s2.hq.posted ∧ (s.bit (F.SEG_ROUTE_Q_EN 4) = false → s2.hq.posted = s.hq.posted) ∧
      (∀ n < 64, s2.rd (R.HQ_HEAD n) = s.rd (R.HQ_HEAD n) ∧ s2.rd (R.HQ_CFG n) = s.rd (R.HQ_CFG n)) ∧ ∀ l ∈ s2.poison, l ∈ s.poison := by
    unfold s2
    rw [hbit]
    split
    · next hq =>
      obtain ⟨hslots, hposted, hqueues, hclean⟩ := postRecQ_queues s1 4 ws
      exact ⟨hslots.trans h1.slots, h1.posted ▸ hposted, fun hn => absurd (hn.symm.trans hq) Bool.false_ne_true,
        fun n hn => ⟨(hqueues n hn).1.trans (h1.head n hn), (hqueues n hn).2.trans (h1.cfg n hn)⟩,
        fun l hl => h1.clean l (hclean l hl)⟩
    · exact ⟨h1.slots, h1.posted ▸ List.prefix_refl _, fun _ => h1.posted, fun n hn => ⟨h1.head n hn, h1.cfg n hn⟩, h1.clean⟩
  obtain ⟨hslots, hposted, hquiet, hqueues, hclean⟩ := h2
  exact ⟨h4.slots.trans hslots, h4.posted.symm ▸ hposted, fun hq => h4.posted.trans (hquiet hq),
    fun n hn => ⟨(h4.head n hn).trans (hqueues n hn).1, (h4.cfg n hn).trans (hqueues n hn).2⟩,
    fun l hl => hclean l (h4.clean l hl)⟩

section Channel
variable {c : Nat} (hc : c < 8)
include hc

theorem linesRead_rankFail (s : State) (rank a : Nat) : LinesRead s (s.rankFail c rank a) := by
  unfold State.rankFail
  split
  · exact LinesRead.refl s
  · extract_lets t
    have ht : LinesRead s t := ((linesRead_modDmc s c _).trans (linesRead_setFld _ (f := F.DMC_CH_STAT_RANK_FAIL c) 1 (chanReg (k := 0x08) hc (by decide)))).trans
      (linesRead_ddrFault _ _ _ _)
    split
    · exact ht.trans (linesRead_setFld t (f := F.DMC_CH_STAT_STATE c) 3 (chanReg (k := 0x08) hc (by decide)))
    · exact ht

theorem linesRead_rowRetire (s : State) (ca a : Nat) : LinesRead s (s.rowRetire c ca a) := by
  unfold State.rowRetire
  extract_lets row rank d ret t u
  split
  · exact LinesRead.refl s
  · split
    · exact ((linesRead_setFld s (f := F.DMC_CH_STAT_SPARE_FULL c) 1 (chanReg (k := 0x08) hc (by decide))).trans (linesRead_ddrFault _ _ _ _)).trans
        (linesRead_rankFail hc _ _ _)
    · have ht : LinesRead s t := linesRead_modDmc s c _
      have hu : LinesRead s u := ((ht.trans (linesRead_setFld t (f := F.DMC_CH_USE_USED c) _ (chanReg (k := 0x4C) hc (by decide)))).trans
        (linesRead_setFld _ (f := F.DMC_CH_STAT_PG_RET c) 1 (chanReg (k := 0x08) hc (by decide)))).trans (linesRead_ddrFault _ _ _ _)
      split
      · exact hu.trans (linesRead_rankFail hc u _ _)
      · exact hu

theorem linesRead_ueLine (s : State) (ca syn : Nat) {a : Nat} (ha : a / 64 ∈ s.poison) : LinesRead s (s.ueLine c ca a syn) := by
  unfold State.ueLine
  extract_lets row rank l t1 t2 e t3 t4 ue t5 hit
  have h1 : LinesRead s t1 := by
    refine LinesRead.of_hidden rfl rfl rfl rfl fun x hx => ?_
    rcases List.mem_append.mp hx with hx | hx
    · exact List.mem_of_mem_filter hx
    · rcases List.mem_cons.mp hx with rfl | hx
      · exact ha
      · exact List.mem_of_mem_filter hx
  have h2 : LinesRead s t2 := (h1.trans (linesRead_setFld t1 (f := F.DMC_CH_STAT_UE c) 1 (chanReg (k := 0x08) hc (by decide)))).trans
    (linesRead_incCnt _ (f := F.DMC_CH_ECC_CNT_UE_CNT c) (g := F.DMC_CH_ECC_CNT_SAT c) (chanReg (k := 0x34) hc (by decide)) (chanReg (k := 0x34) hc (by decide)))
  have he : LinesRead s e := (h2.trans (linesRead_put t2 _ (chanReg (k := 0x38) hc (by decide)))).trans
    (linesRead_setFld _ (f := F.DMC_CH_ERR_ADDR_HI_VALUE c) _ (chanReg (k := 0x3C) hc (by decide)))
  have h3 : LinesRead s t3 := by
    unfold t3
    split
    · exact h2
    · exact (he.trans (linesRead_setFld e (f := F.DMC_CH_ERR_ADDR_HI_VALID c) 1 (chanReg (k := 0x3C) hc (by decide)))).trans
        (linesRead_setFld _ (f := F.DMC_CH_ERR_SYN_VALUE c) _ (chanReg (k := 0x40) hc (by decide)))
  have h4 : LinesRead s t4 := h3.trans (linesRead_ddrFault t3 _ _ _)
  have h5 : LinesRead s t5 := (h4.trans (linesRead_modDmc t4 c _)).trans (linesRead_rowRetire hc _ _ _)
  split
  · exact h5.trans (linesRead_rankFail hc t5 _ _)
  · exact h5

end Channel

theorem linesRead_ddrReadLine (s : State) (l : Nat) : LinesRead s (s.ddrReadLine l) := by
  unfold State.ddrReadLine
  extract_lets p
  have hp : p.1 < 8 := ddrLoc_lt _ _
  split
  · exact LinesRead.refl s
  · split
    · exact linesRead_setFld s (f := F.DMC_CH_USE_FWD_CNT p.1) _ (chanReg (k := 0x4C) hp (by decide))
    · split
      · next hpoison =>
        have hfree : LinesRead s s.free.2 := LinesRead.of_hidden rfl rfl rfl rfl fun _ h => h
        refine hfree.trans (linesRead_ueLine hp s.free.2 _ _ ?_)
        rw [Nat.mul_div_cancel_left _ (by decide)]
        exact List.contains_iff_mem.mp hpoison
      · exact LinesRead.refl s

theorem linesRead_ddrRead (s : State) (a n : Nat) : LinesRead s (s.ddrRead a n) := by
  unfold State.ddrRead
  induction lineRange a n generalizing s with
  | nil => exact LinesRead.refl s
  | cons l ls ih => exact (linesRead_ddrReadLine s l).trans (ih _)

/-! ### The packet's end -/

section Poisoned
variable {q : Fin 32} {pkt : List Byte} {s : State}

theorem memRead_poisoned (h : Plain q 0x11 pkt) (ho : Offered s q (16 + dataRoom (pktHdr pkt).param0 65532))
    (hv : s.bit F.DMC_INSTALLED_VALID = true) (hin : s.inDdr (pktHdr pkt).target (pktHdr pkt).param0 = true) (hlo : 1 ≤ (pktHdr pkt).param0)
    (hhi : (pktHdr pkt).param0 ≤ 65532) (hl : (pktHdr pkt).len = 0) (h1 : (pktHdr pkt).param1 = 0)
    (hpois : s.poisoned (pktHdr pkt).target (pktHdr pkt).param0 = true) :
    let es : List (Nat × HostEntry) := [(s.fld (F.HQ_CFG_CQ q), .pkt (answer (pktHdr pkt) 0x8011 1 (s.memReadZ (pktHdr pkt).target (pktHdr pkt).param0))),
      (s.fld (F.HQ_CFG_CQ q), compOf q pkt 0x60 (pktHdr pkt).param0)]
    Completes (.memRead q pkt) s (fun v =>
      s.hq.posted <+: v.hq.posted ∧ es <:+ v.hq.posted ∧ (s.bit (F.SEG_ROUTE_Q_EN 4) = false → v.hq.posted = s.hq.posted ++ es) ∧ v.lastStatus = 0x60 ∧
      (s.fld (F.HQ_CFG_SIZE q) ≤ 26 → v.fld (F.HQ_HEAD_OFS q) = (s.fld (F.HQ_HEAD_OFS q) + 32) % 2 ^ s.fld (F.HQ_CFG_SIZE q)) ∧
      FrameMem s v s.spillByte ∧ FrameRegs s v (fun off => inBlocks [.hostq, .dmc, .seg, .time] off)) := by
  intro es
  have hcq := cq_lt s q
  have htake := takeIn_taken (q := q) (pktHdr pkt) (16 + dataRoom (pktHdr pkt).param0 65532) ho.first
  have hx := exec_memRead h ho hv hin hlo hhi hl h1
  rw [hpois, if_pos rfl] at hx
  have hread := linesRead_ddrRead (s.takeIn q (pktHdr pkt) (16 + dataRoom (pktHdr pkt).param0 65532)).2 (pktHdr pkt).target (pktHdr pkt).param0
  generalize (s.takeIn q (pktHdr pkt) (16 + dataRoom (pktHdr pkt).param0 65532)).2 = u at htake hread hx
  generalize u.ddrRead (pktHdr pkt).target (pktHdr pkt).param0 = w at hread hx
  have hslot : w.hq.slots[q] = [s.newSlot q (pktHdr pkt) (16 + dataRoom (pktHdr pkt).param0 65532)] := by
    rw [hread.slots, htake.slots]
    exact Vector.getElem_set_self _
  have hcfg : w.rd (R.HQ_CFG (32 + s.fld (F.HQ_CFG_CQ q))) = s.rd (R.HQ_CFG (32 + s.fld (F.HQ_CFG_CQ q))) :=
    (hread.cfg _ (by omega)).trans (rd_cfg_take htake.frame _)
  have hen : w.bit (F.HQ_CFG_EN (32 + s.fld (F.HQ_CFG_CQ q))) = true := (bit_of_rd_eq _ hcfg).trans (enabled_of_hasRoom ho.room)
  obtain ⟨v, hv', hp⟩ := finish_posted (h := pktHdr pkt) 0x60 (pktHdr pkt).param0 [answer (pktHdr pkt) 0x8011 (b2n true)
    (s.memReadZ (pktHdr pkt).target (pktHdr pkt).param0)] hslot hcq hen
  have hposted : v.hq.posted = w.hq.posted ++ es := by
    have hes := hp.posted
    rw [h.entries] at hes
    exact hes
  have hframe : QueueFrame w v (postFields (s.fld (F.HQ_CFG_CQ q))) := (queueFrame_withHq w _ _).trans hp.frame
  have hroute : u.bit (F.SEG_ROUTE_Q_EN 4) = s.bit (F.SEG_ROUTE_Q_EN 4) := bit_of_rd_eq (F.SEG_ROUTE_Q_EN 4) (rd_take_other htake.frame (by decide))
  have hspill : u.spillByte = s.spillByte := spillByte_of_rd_eq (rd_take_other htake.frame (by decide))
  have hhead : v.fld (F.HQ_HEAD_OFS q) = u.fld (F.HQ_HEAD_OFS q) :=
    (head_post hframe (by omega)).trans (fld_of_rd_eq (F.HQ_HEAD_OFS q) (hread.head q (by omega)))
  refine completes_of_done (hx.trans (congrArg (done s) hv')) ⟨?_, ⟨_, hposted.symm⟩, fun hq => ?_, rfl, fun h26 => ?_, fun a ha => ?_, fun off hoff => ?_⟩
  · exact (htake.posted ▸ hread.posted).trans ⟨_, hposted.symm⟩
  · exact hposted.trans (congrArg (· ++ es) ((hread.quiet (hroute.trans hq)).trans htake.posted))
  · refine hhead.trans ((htake.head h26).trans ?_)
    rw [hl]
    rfl
  · exact (hframe.mem a).trans ((hread.mem a (by rw [hspill]; exact ha)).trans (take_ddr htake.frame a))
  · have hno : blockOf off ≠ some .hostq := by
      intro he
      simp [inBlocks, he] at hoff
    have hother : (blockOf off == some .dmc || recordReg off) = false := by
      rw [Bool.or_eq_false_iff]
      constructor
      · cases hb : blockOf off with
        | none => rfl
        | some b =>
          simp only [inBlocks, hb] at hoff
          cases b <;> simp_all
      · rw [Bool.eq_false_iff]
        intro hrec
        have := inBlocks_of_recordReg hrec
        unfold inBlocks at this hoff
        cases hb : blockOf off with
        | none => simp [hb] at this
        | some b =>
          simp only [hb] at this hoff
          cases b <;> simp_all
    exact (rd_post_other hframe hcq hno).trans ((hread.regs off hother).trans (rd_take_other htake.frame hno))

end Poisoned

/-- Settles O10: each packet is taken in, takes effect and is completed; what the effect leaves of the queues carries the completion. -/
theorem packetsCompleteInOrder : Obligations.PacketsCompleteInOrder := by
  unfold Obligations.PacketsCompleteInOrder
  refine ⟨?nop, ?write, ?read, ?poisoned, ?regRead, ?regWrite, ?regRmw, ?event, ?ctrl⟩
  case nop => exact fun q pkt h s ho hl ht h0 h1 => nop_completes h ho hl ht h0 h1
  case write => exact fun q pkt h s ho hv hin hl h0 h1 hpois => memWrite_completes h ho hv hin hl h0 h1 hpois
  case read => exact fun q pkt h s ho hv hin hlo hhi hl h1 hpois => memRead_completes h ho hv hin hlo hhi hl h1 hpois
  case poisoned => exact fun q pkt h s ho hv hin hlo hhi hl h1 hpois => memRead_poisoned h ho hv hin hlo hhi hl h1 hpois
  case regRead =>
    exact fun q pkt h r hr b hb s ho hl h0 h1 hg hvg hhq hh hbase => regRead_completes h hr hb ho hl h0 h1 hg hvg hhq hh hbase
  case regWrite => exact fun q pkt h r hr b hb hm hown s ho hh hl h0 h1 => regWrite_completes h hr hb hm hown ho hh hl h0 h1
  case regRmw => exact fun q pkt h r hr b hb hm hown s ho hh hbase hw1c hwo hl => regRmw_completes h hr hb hm hown ho hh hbase hw1c hwo hl
  case event =>
    intro q pkt h s ho hdr hl ht h0 h1
    have htake := takeIn_taken (q := q) (pktHdr pkt) 16 ho.first
    refine ⟨fun h26 => (htake.head h26).trans ?_, taken_slots htake, htake.posted, htake.frame, event_completes h ho hl ht h0 h1⟩
    change _ = (s.fld (F.HQ_HEAD_OFS q) + pktBytes 0) % 2 ^ s.fld (F.HQ_CFG_SIZE q)
    rw [← hl]
  case ctrl => exact fun q pkt h n s ho hl ht h0 h1 hup hred => cxpCtrl_completes h ho hl ht h0 h1 hup hred

end Sys2Proof.Machine
end
section
/-!
PROOFS. Ethernet frames received, sent and launched (R292, R293, R295, R296, R368, R369, R377).
-/
namespace Sys2Proof.Machine

/-! ### A packet's end, framed from another state -/

/-- The end of a packet whose effect on the packet taken in is framed from `s0`. -/
theorem packet_ends {s s0 w : State} {q : Fin 32} {opc extra : Nat} {pkt : List Byte} {st result : Nat} {data : List OutPkt} {fs : List Fld}
    (h : Plain q opc pkt) (ho : Offered s q (16 + extra)) (hw : Worked (s.takeIn q (pktHdr pkt) (16 + extra)).2 w) (hf : QueueFrame s0 w fs) :
    ∃ v, w.finish q (pktHdr pkt) s.hq.slotCtr st result data = v ∧
      Answered s v q (pktHdr pkt).len st (data.map HostEntry.pkt ++ [compOf q pkt st result]) ∧
      Frame { s0 with hq := v.hq, out := v.out, lastStatus := BitVec.ofNat 8 st } v (fs ++ postFields (s.fld (F.HQ_CFG_CQ q))) ∧
      w.out <+: v.out ∧ ∀ off, blockOf off ≠ some .hostq → v.rd off = w.rd off := by
  have ht := takeIn_taken (q := q) (pktHdr pkt) (16 + extra) ho.first
  obtain ⟨v, hv, hans, hframe⟩ := finish_answered st result data ho ht hw
  rw [h.entries] at hans
  have hslot : w.hq.slots[q] = [s.newSlot q (pktHdr pkt) (16 + extra)] := by
    rw [hw.slots, ht.slots]
    exact Vector.getElem_set_self _
  have hout := out_finish (h := pktHdr pkt) st result data hslot (cq_lt s q)
  have hall : QueueFrame s0 v (fs ++ postFields (s.fld (F.HQ_CFG_CQ q))) :=
    (hf.mono fun f hm => List.mem_append_left _ hm).trans (hframe.mono fun f hm => List.mem_append_right _ hm)
  exact ⟨_, hv, hans, Frame.withStatus hall _, hv ▸ hout, fun off hoff => rd_post_other hframe (cq_lt s q) hoff⟩

theorem takeFields_packet (s : State) (q : Fin 32) : ∀ f ∈ takeFields q, f ∈ packetFields s q := by
  intro f hf
  simp only [takeFields, List.mem_cons, List.not_mem_nil, or_false] at hf
  rcases hf with rfl | rfl <;> simp [packetFields]

theorem postFields_packet (s : State) (q : Fin 32) : ∀ f ∈ postFields (s.fld (F.HQ_CFG_CQ q)), f ∈ packetFields s q := by
  intro f hf
  simp only [postFields, List.mem_cons, List.not_mem_nil, or_false] at hf
  rcases hf with rfl | rfl | rfl | rfl <;> simp [packetFields]

/-! ### What leaves the packet's queues alone -/

theorem Worked.trans {u w x : State} (h : Worked u w) (k : Worked w x) : Worked u x :=
  ⟨fun off h1 h2 => (k.regs off h1 h2).trans (h.regs off h1 h2), k.slots.trans h.slots, k.posted.trans h.posted, h.sent.trans k.sent⟩

theorem worked_setFld (u : State) {f : Fld} (v : Nat) (h : blockOf f.off ≠ some .hostq) : Worked u (u.setFld f v) :=
  ⟨fun off h1 h2 => rd_setFld_ne u f v fun he => h (he ▸ blockOf_hostq h1 (by omega)), rfl, rfl, List.prefix_refl _⟩

theorem worked_incCnt (u : State) {f g : Fld} (hf : blockOf f.off ≠ some .hostq) (hg : blockOf g.off ≠ some .hostq) : Worked u (u.incCnt f g) := by
  unfold State.incCnt
  dsimp only
  split
  · exact (worked_setFld u _ hf).trans (worked_setFld _ _ hg)
  · exact worked_setFld u _ hf

theorem worked_time (u : State) (x : TimeS) : Worked u { u with time := x } := ⟨fun _ _ _ => rfl, rfl, rfl, List.prefix_refl _⟩

/-! ### ETH_RX (R293, R369) -/

section Receive
variable {p : Fin 2} {f : List Byte} {s : State}

theorem ethRx_down (hdown : s.epUp p = false) (ok : Bool) : Completes (.ethRx p f ok) s (fun v => v = s) := by
  refine completes_of_done (v := s) ?_ rfl
  change execEthRx p f ok s = _
  unfold execEthRx
  extract_lets p' d multi acc ev st
  rw [if_pos (by simp [p', hdown])]

theorem ethRx_badFcs (hup : s.epUp p = true) :
    Completes (.ethRx p f false) s (fun v => v.fld (F.ETH_EP_RXCNT_FCS_CNT p) = min (s.fld (F.ETH_EP_RXCNT_FCS_CNT p) + 1) (2 ^ (F.ETH_EP_RXCNT_FCS_CNT p).w - 1) ∧
      Frame s v [F.ETH_EP_RXCNT_FCS_CNT p, F.ETH_EP_RXCNT_SAT p]) := by
  refine completes_of_done (v := s.incCnt (F.ETH_EP_RXCNT_FCS_CNT p) (F.ETH_EP_RXCNT_SAT p)) ?_
    ⟨fld_incCnt_self s _ _ (Fld.fits (by rfl)) (Fld.fits (by rfl)) (.inr (.inl (Nat.le_of_ble_eq_true rfl))), (Frame.refl s _).incCnt (by simp) (Fld.fits (by rfl)) (by simp) (Fld.fits (by rfl))⟩
  change execEthRx p f false s = _
  unfold execEthRx
  extract_lets p' d multi acc ev st
  rw [if_neg (by simp [p', hup]), if_pos (by simp)]

/-- A frame for this port goes on; another one is counted (R369). -/
theorem ethRx_filtered (hup : s.epUp p = true) (hown : f.take 6 ≠ s.macBytes p) (hall : f.take 6 ≠ List.replicate 6 0xFF)
    (hprom : s.bit (F.ETH_EP_RX_PROMISC p) = false) (hmc : s.bit (F.ETH_EP_RX_MC_ALL p) = false ∨ bitN (f.headD 0).toNat 0 = false) :
    Completes (.ethRx p f true) s (fun v => v.fld (F.ETH_EP_RXCNT_FILT_CNT p) = min (s.fld (F.ETH_EP_RXCNT_FILT_CNT p) + 1) (2 ^ (F.ETH_EP_RXCNT_FILT_CNT p).w - 1) ∧
      Frame s v [F.ETH_EP_RXCNT_FILT_CNT p, F.ETH_EP_RXCNT_SAT p]) := by
  refine completes_of_done (v := s.incCnt (F.ETH_EP_RXCNT_FILT_CNT p) (F.ETH_EP_RXCNT_SAT p)) ?_
    ⟨fld_incCnt_self s _ _ (Fld.fits (by rfl)) (Fld.fits (by rfl)) (.inr (.inl (Nat.le_of_ble_eq_true rfl))), (Frame.refl s _).incCnt (by simp) (Fld.fits (by rfl)) (by simp) (Fld.fits (by rfl))⟩
  have hhead : (f.take 6).getD 0 0 = f.headD 0 := by cases f <;> rfl
  have hmulti : (bitN ((f.take 6).getD 0 0).toNat 0 && s.bit (F.ETH_EP_RX_MC_ALL p)) = false := by
    rw [hhead]
    rcases hmc with h | h
    · rw [h, Bool.and_false]
    · rw [h, Bool.false_and]
  change execEthRx p f true s = _
  unfold execEthRx
  extract_lets p' d multi acc ev st
  have hacc : acc = false := by
    change (decide (f.take 6 = s.macBytes p) || decide (f.take 6 = List.replicate 6 0xFF) ||
      (bitN ((f.take 6).getD 0 0).toNat 0 && s.bit (F.ETH_EP_RX_MC_ALL p)) || s.bit (F.ETH_EP_RX_PROMISC p)) = false
    rw [decide_eq_false hown, decide_eq_false hall, hmulti, hprom]
    rfl
  rw [if_neg (by simp [p', hup]), if_neg (by simp), if_pos (by simp [hacc])]

theorem length_macBytes (s : State) (p : Nat) : (s.macBytes p).length = 6 := by
  rw [State.macBytes, List.length_append, length_leBytes, length_leBytes]

theorem ethRx_off (hup : s.epUp p = true) (hen : s.bit (F.ETH_EP_RX_EN p) = false) (src : List Byte) :
    Completes (.ethRx p (s.macBytes p ++ src) true) s (fun v => v = s) := by
  refine completes_of_done (v := s) ?_ rfl
  have hown : (s.macBytes p ++ src).take 6 = s.macBytes p := List.take_left' (length_macBytes s p)
  change execEthRx p (s.macBytes p ++ src) true s = _
  unfold execEthRx
  extract_lets p' d multi acc ev st
  have hacc : acc = true := by simp [acc, p', d, hown]
  rw [if_neg (by simp [p', hup]), if_neg (by simp), if_neg (by simp [hacc]), if_pos (by simp [p', hen])]

theorem ethRx_event (hup : s.epUp p = true) (hen : s.bit (F.ETH_EP_RX_EN p) = true) (hcast : f.take 6 = List.replicate 6 0xFF)
    (hev : s.isEvent p f = true) :
    let c := s.fld (F.ETH_EP_RX_QID p)
    let t := (s.time.ts / 2 ^ 16 + 2 ^ 80 - s.fld (F.TIME_EP_LAT_RX_LAT p) * 65536) % 2 ^ 80
    let e : HostEntry := .pkt { opc := 0x8040, target := t / 65536, param0 := t % 65536 + 65536 * p + 131072, data := f }
    s.hasRoom c e.ringBytes = true →
    Completes (.ethRx p f true) s (fun v => v.hq.posted = s.hq.posted ++ [(c, e)] ∧
      Frame { s with hq := v.hq, out := v.out } v
        [F.HQ_TAIL_OFS (32 + c), F.HQ_STAT_FULL (32 + c), whole (R.MSIX_PBA 0), whole (R.MSIX_PBA 1)]) := by
  intro c t e hroom
  obtain ⟨hposted, hframe⟩ := postOrDrop_posts hroom
  refine completes_of_done (v := s.postOrDrop c e) ?_ ⟨hposted, hframe⟩
  have ht : t / 65536 % 2 ^ 64 = t / 65536 := by
    have : t < 2 ^ 80 := Nat.mod_lt _ (by decide)
    exact Nat.mod_eq_of_lt (by omega)
  change execEthRx p f true s = _
  unfold execEthRx
  extract_lets p' d multi acc ev st
  have hacc : acc = true := by simp [acc, d, hcast]
  have hst : st = (t, s) := if_pos hev
  have hevt : ev = true := hev
  rw [if_neg (by simp [p', hup]), if_neg (by simp), if_neg (by simp [hacc]), if_neg (by simp [p', hen]), hst, hevt]
  dsimp only
  rw [ht]
  rfl

end Receive

/-! ### Frames that leave (R296, R368, R377) -/

theorem finish_congr (s : State) (q : Nat) {h h' : PktHdr} (htag : h.tag = h'.tag) (hno : hNoComp h = hNoComp h') (key st result : Nat) :
    s.finish q h key st result = s.finish q h' key st result := by
  simp only [State.finish, htag, hno]

/-- What a frame looks like on the wire: the port's own address as its source, padded (R377). -/
def State.wire (s : State) (p : Nat) (f : List Byte) : List Byte :=
  f.take 6 ++ s.macBytes p ++ f.drop 12 ++ zeros (60 - (f.take 6 ++ s.macBytes p ++ f.drop 12).length)

/-- The end of the frame that the port sends is known. -/
def State.sending (s : State) (p t n : Nat) : State :=
  { s with time := { s.time with txEnd := vput s.time.txEnd p (t / 65536 + s.frameNs p n) } }

theorem macBytes_sending (s : State) (p t n k : Nat) : (s.sending p t n).macBytes k = s.macBytes k := rfl

theorem wire_sending (s : State) (p t n k : Nat) (f : List Byte) : (s.sending p t n).wire k f = s.wire k f := rfl

/-- A frame without a one-step insertion leaves. -/
def State.frameOut (s : State) (p t : Nat) (f : List Byte) : State :=
  (s.sending p t f.length).emit (.eth p (s.wire p f ++ leBytes 4 (crc32e (s.wire p f))) (t / 65536))

theorem sendFrame_plain (s : State) (p t l tag t2 : Nat) (f : List Byte) (owner : Option (Nat × Nat)) :
    s.sendFrame p { launch := l, frame := f, owner := owner, tag := tag, stamp := false, oneStep := false, t2 := t2 } t false =
      match owner with
      | none => s.frameOut p t f
      | some (q, key) => (s.frameOut p t f).finish q { tag := tag } key 0 0 := by
  cases owner <;> rfl

theorem frameOut_eq (s : State) (p t : Nat) (f : List Byte) :
    s.frameOut p t f = { s.sending p t f.length with out := s.out ++ [.eth p (s.wire p f ++ leBytes 4 (crc32e (s.wire p f))) (t / 65536)] } := by
  rw [State.frameOut, emit_eq, show scanned (.eth p (s.wire p f ++ leBytes 4 (crc32e (s.wire p f))) (t / 65536)) = false from rfl, Bool.and_false,
    if_neg Bool.false_ne_true]
  rfl

theorem sendNow_free (s : State) {p : Fin 2} {l tag q key : Nat} {f : List Byte} (h : s.time.txEnd[p] ≤ s.ns) :
    s.sendNow p { launch := l, frame := f, owner := some (q, key), tag := tag, stamp := false, oneStep := false, t2 := 0 } false =
      (s.frameOut p (s.now16 + s.fld (F.TIME_EP_LAT_TX_LAT p) * 65536) f).finish q { tag := tag } key 0 0 := by
  have hle : s.time.txEnd[p] * 65536 ≤ s.now16 := by
    simp only [State.ns] at h
    simp only [State.now16]
    omega
  rw [State.sendNow, sendFrame_plain, vget_fin, max_eq_left hle]

/-- The state of the frames being sent, once a frame of `n` bytes that leaves at `t` is. -/
def State.sendingTime (s : State) (p t n : Nat) : TimeS := { s.time with txEnd := vput s.time.txEnd p (t / 65536 + s.frameNs p n) }

theorem frameOut_queue {s u : State} {fs : List Fld} (h : QueueFrame s u fs) (p t : Nat) (f : List Byte) :
    QueueFrame { s with time := u.sendingTime p t f.length } (u.frameOut p t f) fs :=
  QueueFrame.trans (t := u.sending p t f.length) (Frame.withTime h _) (queueFrame_emit _ _ fs)

theorem frameOut_worked (s : State) (p t : Nat) (f : List Byte) : Worked s (s.frameOut p t f) :=
  (worked_time s (s.sendingTime p t f.length)).trans (emit_worked _ _)

theorem out_frameOut (s : State) (p t : Nat) (f : List Byte) :
    .eth p (s.wire p f ++ leBytes 4 (crc32e (s.wire p f))) (t / 65536) ∈ (s.frameOut p t f).out := by
  rw [frameOut_eq]
  simp

theorem wire_of_rd {s u : State} {p : Nat} (hlo : u.rd (R.ETH_EP_MAC_LO p) = s.rd (R.ETH_EP_MAC_LO p)) (hhi : u.rd (R.ETH_EP_MAC_HI p) = s.rd (R.ETH_EP_MAC_HI p))
    (f : List Byte) : u.wire p f = s.wire p f := by
  rw [State.wire, State.wire, State.macBytes, State.macBytes, fld_of_rd_eq (F.ETH_EP_MAC_LO_MAC p) hlo, fld_of_rd_eq (F.ETH_EP_MAC_HI_MAC p) hhi]

/-- The padding of a frame that is at least its header long. -/
theorem wire_eq (s : State) (p : Nat) {f : List Byte} (h : 14 ≤ f.length) :
    s.wire p f = f.take 6 ++ s.macBytes p ++ f.drop 12 ++ zeros (60 - f.length) := by
  have hlen : (f.take 6 ++ s.macBytes p ++ f.drop 12).length = f.length := by
    simp only [List.length_append, List.length_take, List.length_drop, length_macBytes]
    omega
  rw [State.wire, hlen]

theorem frameNs_of_cfg {s u : State} (h : u.cfg = s.cfg) (p n : Nat) : u.frameNs p n = s.frameNs p n := by
  rw [State.frameNs, State.frameNs, State.ep25, State.ep25, h]

/-! ### ETH_TX (R295, R296, R368) -/

section Send
variable {q : Fin 32} {pkt : List Byte} {p : Fin 2} {s : State}

/-- The launch-queue entry of an ETH_TX packet without flags. -/
def txEntry (s : State) (q : Fin 32) (pkt : List Byte) : LaunchE :=
  { launch := (pktHdr pkt).target, frame := pktData pkt, owner := some (q.val, s.hq.slotCtr), tag := (pktHdr pkt).tag, stamp := false, oneStep := false, t2 := 0 }

theorem bitN_port (p : Fin 2) : bitN p 1 = false ∧ bitN p 2 = false := by
  revert p
  decide

theorem exec_ethTx (h : Plain q 0x40 pkt) (ho : Offered s q 16) (hlo : 14 ≤ (pktHdr pkt).len) (hhi : (pktHdr pkt).len ≤ 1514)
    (h0 : (pktHdr pkt).param0 = p) (h1 : (pktHdr pkt).param1 = 0) :
    exec (.ethTx q pkt) s = done s ((s.takeIn q (pktHdr pkt) 16).2.ethTx q (pktHdr pkt) s.hq.slotCtr (pktData pkt)) := by
  have hp : (pktHdr pkt).param0 < 2 := by omega
  obtain ⟨hb1, hb2⟩ : bitN (pktHdr pkt).param0 1 = false ∧ bitN (pktHdr pkt).param0 2 = false := h0 ▸ bitN_port p
  have hx := h.runs (c := .ethTx q pkt) (may := false) (extra := 0)
    (lt := fun _ => if (pktHdr pkt).len < 14 ∨ 1514 < (pktHdr pkt).len then 0x04 else 0)
    (pa := fun _ => if 8 ≤ (pktHdr pkt).param0 ∨ (pktHdr pkt).param1 ≠ 0 then 0x08 else 0)
    (body := fun s k => s.ethTx q (pktHdr pkt) k (pktData pkt)) (by
      change execEthTx q pkt s = _
      simp only [execEthTx, hb1, hb2, Bool.false_eq_true, if_false, Nat.add_zero]) ho (by omega)
    (by rw [if_neg (by omega)]) (by rw [if_neg (by omega)])
  exact hx

/-- What an ETH_TX packet without flags does on the state that took it in. -/
theorem ethTx_eq (u : State) (key : Nat) (h0 : (pktHdr pkt).param0 = p) :
    let e : LaunchE := { launch := (pktHdr pkt).target, frame := pktData pkt, owner := some (q.val, key), tag := (pktHdr pkt).tag, stamp := false, oneStep := false, t2 := 0 }
    u.ethTx q (pktHdr pkt) key (pktData pkt) =
      if (pktHdr pkt).target = 2 ^ 64 - 1 then
        if !u.epUp p then u.finish q (pktHdr pkt) key 0x42 0
        else if u.ordinaryOk p (pktData pkt).length && u.time.heldTx[p].isEmpty then u.sendNow p e false
        else { u with time := { u.time with heldTx := u.time.heldTx.set p (u.time.heldTx[p] ++ [e]) } }
      else if 64 ≤ u.time.launch[p].length then (u.launchDrop p).finish q (pktHdr pkt) key 0x43 0
      else if u.ns + 2 ^ 32 < (pktHdr pkt).target then (u.launchDrop p).finish q (pktHdr pkt) key 0x44 0
      else u.setLaunch p (launchInsert e u.time.launch[p]) := by
  intro e
  have hp : (pktHdr pkt).param0 < 2 := by omega
  obtain ⟨hb1, hb2⟩ : bitN (pktHdr pkt).param0 1 = false ∧ bitN (pktHdr pkt).param0 2 = false := h0 ▸ bitN_port p
  have hmod : (pktHdr pkt).param0 % 2 = p := by omega
  unfold State.ethTx
  extract_lets p' one e' l
  have hp' : p' = p := hmod
  have hone : one = false := hb2
  have he : e' = e := by
    simp only [e', e, hone, hb1, Bool.false_eq_true, if_false]
  rw [he, hp']
  simp only [l, hp', vget_fin, vput_fin]
  rfl

theorem ns_of_time {u : State} (h : u.time = s.time) : u.ns = s.ns := by rw [State.ns, State.ns, h]

section Taken
variable {u : State} (h : QueueFrame s u (takeFields q))
include h

theorem take_time : u.time = s.time := (congrArg State.time h.rest :)

theorem take_cfg : u.cfg = s.cfg := (congrArg State.cfg h.rest :)

theorem take_epUp (k : Nat) : u.epUp k = s.epUp k := by
  have h0 : u.bit F.TOP_READY_EP0 = s.bit F.TOP_READY_EP0 := bit_of_rd_eq F.TOP_READY_EP0 (rd_take_other h (by decide))
  have h1 : u.bit F.TOP_READY_EP1 = s.bit F.TOP_READY_EP1 := bit_of_rd_eq F.TOP_READY_EP1 (rd_take_other h (by decide))
  rw [State.epUp, State.epUp, h0, h1]

theorem take_wire (f : List Byte) : u.wire p f = s.wire p f := by
  have hmac : ∀ x, 0x00700000 ≤ x → x < 0x00700080 → u.rd x = s.rd x := fun x h1 h2 =>
    rd_queue_take h (by simp only [R.HQ_HEAD]; omega) (by simp only [R.HQ_STAT]; omega)
  exact wire_of_rd (hmac _ (by simp only [R.ETH_EP_MAC_LO]; omega) (by simp only [R.ETH_EP_MAC_LO]; omega))
    (hmac _ (by simp only [R.ETH_EP_MAC_HI]; omega) (by simp only [R.ETH_EP_MAC_HI]; omega)) f

theorem take_txLat : u.fld (F.TIME_EP_LAT_TX_LAT p) = s.fld (F.TIME_EP_LAT_TX_LAT p) :=
  fld_of_rd_eq (F.TIME_EP_LAT_TX_LAT p) (rd_queue_take h (off := R.TIME_EP_LAT p) (by simp only [R.TIME_EP_LAT, R.HQ_HEAD]; omega)
    (by simp only [R.TIME_EP_LAT, R.HQ_STAT]; omega))

theorem take_ordinaryOk (n : Nat) : u.ordinaryOk p n = s.ordinaryOk p n := by
  simp only [State.ordinaryOk, State.ns, take_time h, take_txLat h, frameNs_of_cfg (take_cfg h)]
  rfl

end Taken

theorem ethTx_down (h : Plain q 0x40 pkt) (ho : Offered s q 16) (hlo : 14 ≤ (pktHdr pkt).len) (hhi : (pktHdr pkt).len ≤ 1514)
    (h0 : (pktHdr pkt).param0 = p) (h1 : (pktHdr pkt).param1 = 0) (hnow : (pktHdr pkt).target = 2 ^ 64 - 1) (hdown : s.epUp p = false) :
    Completes (.ethTx q pkt) s (fun v => Answered s v q (pktHdr pkt).len 0x42 [compOf q pkt 0x42 0] ∧
      Frame { s with hq := v.hq, out := v.out, lastStatus := 0x42 } v (packetFields s q)) := by
  have htake := (takeIn_taken (q := q) (pktHdr pkt) 16 ho.first).frame
  have hx := exec_ethTx h ho hlo hhi h0 h1
  rw [ethTx_eq _ _ h0, if_pos hnow, if_pos (by simp [take_epUp htake, hdown])] at hx
  obtain ⟨v, hv, hans, hframe, -, -⟩ := packet_answers (st := 0x42) (result := 0) (data := []) (extra := 0) h ho (Worked.refl _) (QueueFrame.refl _ [])
  rw [List.append_nil] at hframe
  exact completes_of_done (hx.trans (congrArg (done s) hv)) ⟨hans, hframe⟩

theorem ethTx_sent (h : Plain q 0x40 pkt) (ho : Offered s q 16) (hlo : 14 ≤ (pktHdr pkt).len) (hhi : (pktHdr pkt).len ≤ 1514)
    (h0 : (pktHdr pkt).param0 = p) (h1 : (pktHdr pkt).param1 = 0) (hnow : (pktHdr pkt).target = 2 ^ 64 - 1) (hup : s.epUp p = true)
    (hlaunch : s.time.launch[p] = []) (hheld : s.time.heldTx[p] = []) (hfree : s.time.txEnd[p] ≤ s.ns) :
    let t := s.time.ts / 2 ^ 16 + s.fld (F.TIME_EP_LAT_TX_LAT p) * 65536
    let g := (pktData pkt).take 6 ++ s.macBytes p ++ (pktData pkt).drop 12 ++ zeros (60 - (pktHdr pkt).len)
    Completes (.ethTx q pkt) s (fun v => Answered s v q (pktHdr pkt).len 0 [compOf q pkt 0 0] ∧
      .eth p (g ++ leBytes 4 (crc32e g)) (t / 65536) ∈ v.out ∧ v.time.txEnd[p] = t / 65536 + s.frameNs p (pktHdr pkt).len ∧
      Frame { s with hq := v.hq, out := v.out, lastStatus := 0, time := { s.time with txEnd := s.time.txEnd.set p v.time.txEnd[p] } } v
        (packetFields s q)) := by
  intro t g
  have htake := (takeIn_taken (q := q) (pktHdr pkt) 16 ho.first).frame
  have hx := exec_ethTx h ho hlo hhi h0 h1
  have hok : s.ordinaryOk p (pktData pkt).length = true := by
    rw [State.ordinaryOk, vget_fin, vget_fin, hlaunch, Bool.and_true]
    exact decide_eq_true hfree
  rw [ethTx_eq _ _ h0, if_pos hnow, if_neg (by simp [take_epUp htake, hup]), take_ordinaryOk htake, hok, take_time htake, hheld,
    if_pos (by rfl)] at hx
  have hg : (s.takeIn q (pktHdr pkt) 16).2.wire p (pktData pkt) = g := by
    rw [take_wire htake, wire_eq s p (by rw [h.data]; exact hlo), h.data]
  have hnow16 : (s.takeIn q (pktHdr pkt) 16).2.time.txEnd[p] ≤ (s.takeIn q (pktHdr pkt) 16).2.ns := by
    rw [State.ns, take_time htake]
    exact hfree
  have ht : (s.takeIn q (pktHdr pkt) 16).2.now16 + (s.takeIn q (pktHdr pkt) 16).2.fld (F.TIME_EP_LAT_TX_LAT p) * 65536 = t := by
    rw [take_txLat htake, State.now16, take_time htake]
  rw [sendNow_free _ hnow16, ht, finish_congr (h := { tag := (pktHdr pkt).tag }) (h' := pktHdr pkt) _ _ rfl ((show bitN 0 1 = false by decide).trans h.answers.symm)] at hx
  obtain ⟨v, hv, hans, hframe, hout, -⟩ := packet_ends (st := 0) (result := 0) (data := []) (extra := 0) h ho
    (frameOut_worked _ p t (pktData pkt)) (frameOut_queue htake p t (pktData pkt))
  have hend : v.time = (s.takeIn q (pktHdr pkt) 16).2.sendingTime p t (pktData pkt).length := (congrArg State.time hframe.rest :)
  have hset : (s.takeIn q (pktHdr pkt) 16).2.sendingTime p t (pktData pkt).length =
      { s.time with txEnd := s.time.txEnd.set p (t / 65536 + s.frameNs p (pktHdr pkt).len) } := by
    rw [State.sendingTime, take_time htake, frameNs_of_cfg (take_cfg htake), vput_fin, h.data]
  have htx : v.time.txEnd[p] = t / 65536 + s.frameNs p (pktHdr pkt).len := by
    rw [hend, hset]
    exact Vector.getElem_set_self _
  have hmem := hout.subset (out_frameOut (s.takeIn q (pktHdr pkt) 16).2 p t (pktData pkt))
  rw [hg] at hmem
  rw [hset] at hframe
  refine completes_of_done (hx.trans (congrArg (done s) hv)) ⟨hans, hmem, htx, ?_⟩
  rw [htx]
  exact hframe.mono fun f hf => (List.mem_append.mp hf).elim (takeFields_packet s q f) (postFields_packet s q f)

/-- The packet taken in and owed its completion: it stands alone in its queue's order. -/
theorem taken_keys {u : State} {len room : Nat} (h : Taken s u q len (s.newSlot q (pktHdr pkt) room)) :
    u.hq.slots[q].map (fun t => (t.key, t.entries)) = [(s.hq.slotCtr, none)] := by
  have hslot : u.hq.slots[q] = [s.newSlot q (pktHdr pkt) room] := by
    rw [h.slots]
    exact Vector.getElem_set_self _
  rw [hslot]
  rfl

/-- A frame sent now that would run into a queued launch time does not start (R296). -/
theorem ordinaryOk_blocked {n : Nat} (hany : s.time.launch[p].any (fun e => e.launch < s.ns + s.frameNs p n) = true)
    (hsorted : (s.time.launch[p].map (·.launch)).Pairwise (· ≤ ·)) : s.ordinaryOk p n = false := by
  rw [State.ordinaryOk, vget_fin, vget_fin, Bool.and_eq_false_iff]
  refine .inr ?_
  generalize s.time.launch[p] = l at hany hsorted
  cases l with
  | nil => cases hany
  | cons x xs =>
    obtain ⟨e, he, hlt⟩ := List.any_eq_true.mp hany
    have hlt := of_decide_eq_true hlt
    have hle : x.launch ≤ e.launch := by
      rcases List.mem_cons.mp he with rfl | hxs
      · exact Nat.le_refl _
      · exact (List.pairwise_cons.mp hsorted).1 _ (List.mem_map_of_mem hxs)
    exact decide_eq_false (by omega)

theorem frame_heldTx {v : State} {fs : List Fld} {l : List LaunchE} (hl : v.time.heldTx[p] = l)
    (h : QueueFrame { s with time := { s.time with heldTx := s.time.heldTx.set p l } } v fs) :
    Frame { s with hq := v.hq, out := v.out, time := { s.time with heldTx := s.time.heldTx.set p v.time.heldTx[p] } } v fs := by
  subst hl
  exact h

theorem frame_launch {v : State} {fs : List Fld} {l : List LaunchE} (hl : v.time.launch[p] = l)
    (h : QueueFrame { s with time := { s.time with launch := s.time.launch.set p l } } v fs) :
    Frame { s with hq := v.hq, out := v.out, time := { s.time with launch := s.time.launch.set p v.time.launch[p] } } v fs := by
  subst hl
  exact h

theorem ethTx_waits (h : Plain q 0x40 pkt) (ho : Offered s q 16) (hlo : 14 ≤ (pktHdr pkt).len) (hhi : (pktHdr pkt).len ≤ 1514)
    (h0 : (pktHdr pkt).param0 = p) (h1 : (pktHdr pkt).param1 = 0) (hnow : (pktHdr pkt).target = 2 ^ 64 - 1) (hup : s.epUp p = true)
    (hbusy : s.ns < s.time.txEnd[p] ∨ s.time.heldTx[p] ≠ [] ∨ s.time.launch[p].any (fun e => e.launch < s.ns + s.frameNs p (pktHdr pkt).len) = true ∧
      (s.time.launch[p].map (·.launch)).Pairwise (· ≤ ·)) :
    Completes (.ethTx q pkt) s (fun v =>
      v.time.heldTx[p] = s.time.heldTx[p] ++ [txEntry s q pkt] ∧ v.hq.posted = s.hq.posted ∧
      v.hq.slots[q].map (fun t => (t.key, t.entries)) = [(s.hq.slotCtr, none)] ∧
      Frame { s with hq := v.hq, out := v.out, time := { s.time with heldTx := s.time.heldTx.set p v.time.heldTx[p] } } v (packetFields s q)) := by
  have htaken := takeIn_taken (q := q) (pktHdr pkt) 16 ho.first
  have htake := htaken.frame
  have hx := exec_ethTx h ho hlo hhi h0 h1
  have hno : (s.ordinaryOk p (pktData pkt).length && s.time.heldTx[p].isEmpty) = false := by
    rw [h.data]
    rcases hbusy with hend | hheld | ⟨hany, hsorted⟩
    · have hok : s.ordinaryOk p (pktHdr pkt).len = false := by
        rw [State.ordinaryOk, vget_fin, decide_eq_false (by omega), Bool.false_and]
      rw [hok, Bool.false_and]
    · rw [Bool.and_eq_false_iff]
      exact .inr (by rw [List.isEmpty_eq_false_iff]; exact hheld)
    · rw [ordinaryOk_blocked hany hsorted, Bool.false_and]
  rw [ethTx_eq _ _ h0, if_pos hnow, if_neg (by simp [take_epUp htake, hup]), take_ordinaryOk htake, take_time htake, hno,
    if_neg Bool.false_ne_true] at hx
  have hheld : (s.time.heldTx.set p (s.time.heldTx[p] ++ [txEntry s q pkt]))[p] = s.time.heldTx[p] ++ [txEntry s q pkt] := Vector.getElem_set_self _
  refine completes_of_done hx ⟨hheld, htaken.posted, (taken_keys htaken :), ?_⟩
  have hframe : QueueFrame { s with time := { s.time with heldTx := s.time.heldTx.set p (s.time.heldTx[p] ++ [txEntry s q pkt]) } }
      { (s.takeIn q (pktHdr pkt) 16).2 with time := { s.time with heldTx := s.time.heldTx.set p (s.time.heldTx[p] ++ [txEntry s q pkt]) } }
      (packetFields s q) := Frame.withTime (htake.mono (takeFields_packet s q)) _
  exact frame_heldTx hheld hframe

theorem length_launchInsert (e : LaunchE) (l : List LaunchE) : (launchInsert e l).length = l.length + 1 := by
  induction l with
  | nil => rfl
  | cons x xs ih =>
    rw [launchInsert]
    split
    · rfl
    · rw [List.length_cons, ih, List.length_cons]

theorem ethTx_queued (h : Plain q 0x40 pkt) (ho : Offered s q 16) (hlo : 14 ≤ (pktHdr pkt).len) (hhi : (pktHdr pkt).len ≤ 1514)
    (h0 : (pktHdr pkt).param0 = p) (h1 : (pktHdr pkt).param1 = 0) (hlater : (pktHdr pkt).target ≠ 2 ^ 64 - 1) (hroom : s.time.launch[p].length < 64)
    (hsoon : (pktHdr pkt).target ≤ s.ns + 2 ^ 32) :
    Completes (.ethTx q pkt) s (fun v =>
      v.time.launch[p] = launchInsert (txEntry s q pkt) s.time.launch[p] ∧ v.fld (F.TIME_EP_LSTAT_DEPTH p) = s.time.launch[p].length + 1 ∧
      v.hq.posted = s.hq.posted ∧ v.hq.slots[q].map (fun t => (t.key, t.entries)) = [(s.hq.slotCtr, none)] ∧
      Frame { s with hq := v.hq, out := v.out, time := { s.time with launch := s.time.launch.set p v.time.launch[p] } } v
        (F.TIME_EP_LSTAT_DEPTH p :: packetFields s q)) := by
  have htaken := takeIn_taken (q := q) (pktHdr pkt) 16 ho.first
  have htake := htaken.frame
  have hx := exec_ethTx h ho hlo hhi h0 h1
  rw [ethTx_eq _ _ h0, if_neg hlater, take_time htake, if_neg (by omega), ns_of_time (take_time htake), if_neg (by omega)] at hx
  have hl : (s.time.launch.set p (launchInsert (txEntry s q pkt) s.time.launch[p]))[p] = launchInsert (txEntry s q pkt) s.time.launch[p] :=
    Vector.getElem_set_self _
  have hset : (s.takeIn q (pktHdr pkt) 16).2.setLaunch p (launchInsert (txEntry s q pkt) s.time.launch[p]) =
      ({ (s.takeIn q (pktHdr pkt) 16).2 with time := { s.time with launch := s.time.launch.set p (launchInsert (txEntry s q pkt) s.time.launch[p]) } } :
        State).setFld (F.TIME_EP_LSTAT_DEPTH p) (s.time.launch[p].length + 1) := by
    rw [State.setLaunch, vput_fin, take_time htake, length_launchInsert]
  have hdone : exec (.ethTx q pkt) s = done s ((s.takeIn q (pktHdr pkt) 16).2.setLaunch p (launchInsert (txEntry s q pkt) s.time.launch[p])) := hx
  rw [hset] at hdone
  refine completes_of_done hdone ⟨hl, ?_, htaken.posted, (taken_keys htaken :), ?_⟩
  · rw [fld_setFld_self _ _ _ (Fld.fits (by rfl))]
    exact Nat.mod_eq_of_lt (show s.time.launch[p].length + 1 < 2 ^ 7 by omega)
  · have hframe : QueueFrame { s with time := { s.time with launch := s.time.launch.set p (launchInsert (txEntry s q pkt) s.time.launch[p]) } }
        { (s.takeIn q (pktHdr pkt) 16).2 with time := { s.time with launch := s.time.launch.set p (launchInsert (txEntry s q pkt) s.time.launch[p]) } }
        (F.TIME_EP_LSTAT_DEPTH p :: packetFields s q) :=
      Frame.withTime (htake.mono fun f hf => List.mem_cons_of_mem _ (takeFields_packet s q f hf)) _
    exact frame_launch hl (Frame.setFld hframe _ List.mem_cons_self (Fld.fits (by rfl)))

/-- FULL of the port and the count of frames dropped (R295). -/
theorem launchDrop_fields (u : State) (p : Fin 2) : (u.launchDrop p).bit (F.TIME_EP_LSTAT_FULL p) = true ∧
    (u.launchDrop p).fld (F.TIME_EP_LCNT_DROP_CNT p) = min (u.fld (F.TIME_EP_LCNT_DROP_CNT p) + 1) (2 ^ (F.TIME_EP_LCNT_DROP_CNT p).w - 1) ∧
    Worked u (u.launchDrop p) ∧
    Frame u (u.launchDrop p) [F.TIME_EP_LSTAT_FULL p, F.TIME_EP_LCNT_DROP_CNT p, F.TIME_EP_LCNT_SAT p] := by
  have hne : R.TIME_EP_LSTAT p ≠ R.TIME_EP_LCNT p := by simp only [R.TIME_EP_LSTAT, R.TIME_EP_LCNT]; omega
  have hstat := launchStat_other p.isLt
  have hcnt := launchCnt_other p.isLt
  refine ⟨?_, ?_, (worked_setFld u 1 hstat).trans (worked_incCnt _ hcnt hcnt),
    ((Frame.refl u _).setFld 1 (by simp) (Fld.fits (by rfl))).incCnt (by simp) (Fld.fits (by rfl)) (by simp) (Fld.fits (by rfl))⟩
  · rw [State.launchDrop, bit_of_rd_eq (F.TIME_EP_LSTAT_FULL p) (rd_incCnt_ne _ (F.TIME_EP_LCNT_DROP_CNT p) (F.TIME_EP_LCNT_SAT p) hne hne), State.flag]
    exact bit_setFld_self u _ 1 (Fld.fits (by rfl)) rfl
  · rw [State.launchDrop, fld_incCnt_self _ _ _ (Fld.fits (by rfl)) (Fld.fits (by rfl)) (.inr (.inl (Nat.le_of_ble_eq_true rfl))), State.flag,
      fld_setFld_ne u (F.TIME_EP_LSTAT_FULL p) (F.TIME_EP_LCNT_DROP_CNT p) 1 hne.symm]

theorem ethTx_dropped (h : Plain q 0x40 pkt) (ho : Offered s q 16) (hlo : 14 ≤ (pktHdr pkt).len) (hhi : (pktHdr pkt).len ≤ 1514)
    (h0 : (pktHdr pkt).param0 = p) (h1 : (pktHdr pkt).param1 = 0) (hlater : (pktHdr pkt).target ≠ 2 ^ 64 - 1)
    (hdrop : 64 ≤ s.time.launch[p].length ∨ s.ns + 2 ^ 32 < (pktHdr pkt).target) :
    let st := if 64 ≤ s.time.launch[p].length then 0x43 else 0x44
    Completes (.ethTx q pkt) s (fun v =>
      Answered s v q (pktHdr pkt).len st [compOf q pkt st 0] ∧ v.bit (F.TIME_EP_LSTAT_FULL p) = true ∧
      v.fld (F.TIME_EP_LCNT_DROP_CNT p) = min (s.fld (F.TIME_EP_LCNT_DROP_CNT p) + 1) (2 ^ (F.TIME_EP_LCNT_DROP_CNT p).w - 1) ∧
      Frame { s with hq := v.hq, out := v.out, lastStatus := BitVec.ofNat 8 st } v
        ([F.TIME_EP_LSTAT_FULL p, F.TIME_EP_LCNT_DROP_CNT p, F.TIME_EP_LCNT_SAT p] ++ packetFields s q)) := by
  intro st
  have htake := (takeIn_taken (q := q) (pktHdr pkt) 16 ho.first).frame
  have hx : exec (.ethTx q pkt) s = done s (((s.takeIn q (pktHdr pkt) 16).2.launchDrop p).finish q (pktHdr pkt) s.hq.slotCtr st 0) := by
    rw [exec_ethTx h ho hlo hhi h0 h1, ethTx_eq _ _ h0, if_neg hlater, take_time htake, ns_of_time (take_time htake)]
    by_cases hfull : 64 ≤ s.time.launch[p].length
    · rw [if_pos hfull, show st = 0x43 from if_pos hfull]
    · rw [if_neg hfull, if_pos (hdrop.resolve_left hfull), show st = 0x44 from if_neg hfull]
  obtain ⟨hfull, hcount, hworked, hfields⟩ := launchDrop_fields (s.takeIn q (pktHdr pkt) 16).2 p
  obtain ⟨v, hv, hans, hframe, -, hrd⟩ := packet_answers (st := st) (result := 0) (data := []) (extra := 0) h ho hworked (Frame.toQueue hfields)
  have hcnt : (s.takeIn q (pktHdr pkt) 16).2.fld (F.TIME_EP_LCNT_DROP_CNT p) = s.fld (F.TIME_EP_LCNT_DROP_CNT p) :=
    fld_of_rd_eq (F.TIME_EP_LCNT_DROP_CNT p) (rd_take_other htake (launchCnt_other p.isLt))
  refine completes_of_done (hx.trans (congrArg (done s) hv)) ⟨hans, ?_, ?_, hframe.mono fun f hf => ?_⟩
  · exact (bit_of_rd_eq (F.TIME_EP_LSTAT_FULL p) (hrd _ (launchStat_other p.isLt))).trans hfull
  · rw [← hcnt]
    exact (fld_of_rd_eq (F.TIME_EP_LCNT_DROP_CNT p) (hrd _ (launchCnt_other p.isLt))).trans hcount
  · exact (List.mem_append.mp hf).elim (List.mem_append_right _) (List.mem_append_left _)

end Send

/-! ### LAUNCH (R296) -/

section Launch
variable {p : Fin 2} {s : State}

theorem exec_launch (hheld : s.time.heldTx[p] = []) : exec (.launch p) s = done s (s.launch p) := by
  change execLaunch p s = _
  rw [execLaunch, vget_fin, hheld]
  rfl

theorem launch_empty (hheld : s.time.heldTx[p] = []) (hempty : s.time.launch[p] = []) : Completes (.launch p) s (fun v => v = s) := by
  refine completes_of_done (exec_launch hheld) ?_
  rw [State.launch, vget_fin, hempty]

theorem launch_early {e : LaunchE} {rest : List LaunchE} (hheld : s.time.heldTx[p] = []) (hq : s.time.launch[p] = e :: rest) (hns : s.ns < e.launch) :
    Completes (.launch p) s (fun v => v = s) := by
  refine completes_of_done (exec_launch hheld) ?_
  rw [State.launch, vget_fin, hq]
  exact if_pos hns

/-- A port's launch queue after its head has left. -/
def State.launchRest (s : State) (p : Fin 2) (rest : List LaunchE) : State :=
  { s with time := { s.time with launch := s.time.launch.set p rest } }

theorem setLaunch_eq (s : State) (rest : List LaunchE) :
    s.setLaunch p rest = (s.launchRest p rest).setFld (F.TIME_EP_LSTAT_DEPTH p) rest.length := by
  rw [State.setLaunch, vput_fin]
  rfl

theorem fld_setLaunch_other (s : State) (rest : List LaunchE) {f : Fld} (h : f.off ≠ R.TIME_EP_LSTAT p) : (s.setLaunch p rest).fld f = s.fld f := by
  rw [setLaunch_eq]
  exact fld_setFld_ne (s.launchRest p rest) (F.TIME_EP_LSTAT_DEPTH p) f _ h

theorem wire_setLaunch (s : State) (rest : List LaunchE) (f : List Byte) : (s.setLaunch p rest).wire p f = s.wire p f := by
  rw [setLaunch_eq]
  exact wire_of_rd (s := s.launchRest p rest)
    (rd_setFld_ne _ _ _ (by change R.ETH_EP_MAC_LO p ≠ R.TIME_EP_LSTAT p; simp only [R.ETH_EP_MAC_LO, R.TIME_EP_LSTAT]; omega))
    (rd_setFld_ne _ _ _ (by change R.ETH_EP_MAC_HI p ≠ R.TIME_EP_LSTAT p; simp only [R.ETH_EP_MAC_HI, R.TIME_EP_LSTAT]; omega)) f

/-- The state after a free value was drawn. -/
def State.drawn (s : State) : State := { s with freeCtr := s.freeCtr + 1 }

theorem Frame.drawn {s v : State} {fs : List Fld} (h : Frame s v fs) : Frame s.drawn v.drawn fs := by
  have hctr : v.freeCtr = s.freeCtr := (congrArg State.freeCtr h.rest :)
  refine h.of_eq rfl rfl rfl rfl rfl rfl ?_
  have hrest := congrArg (fun x : State => { x with freeCtr := s.freeCtr + 1 }) h.rest
  simp only [State.drawn, hctr]
  exact hrest

/-- When the head of the launch queue leaves at its time (R296). -/
theorem launch_atTime {l : Nat} {f : List Byte} {rest : List LaunchE} (hheld : s.time.heldTx[p] = [])
    (hq : s.time.launch[p] = { launch := l, frame := f, owner := none, tag := 0, stamp := false, oneStep := false, t2 := 0 } :: rest)
    (hup : s.epUp p = true) (hns : l ≤ s.ns) (htol : s.ns ≤ l + s.fld (F.TIME_EP_LCTL_LATE_TOL p)) (hfree : s.time.txEnd[p] ≤ l) :
    exec (.launch p) s = done s ((s.setLaunch p rest).drawn.frameOut p
      (l * 65536 + (Config.freeWord s.freeCtr).toNat % (if s.ep25 p then 167773 else 419431)) f) := by
  rw [exec_launch hheld]
  congr 1
  rw [State.launch, vget_fin, hq]
  dsimp only
  rw [vget_fin]
  have hlate : decide (l + s.fld (F.TIME_EP_LCTL_LATE_TOL p) < max s.ns s.time.txEnd[p]) = false := decide_eq_false (by omega)
  rw [if_neg (by omega), hup, Bool.not_true, if_neg Bool.false_ne_true, hlate, Bool.false_and, if_neg Bool.false_ne_true, if_neg (by omega),
    if_neg (by omega), if_neg (by omega), sendFrame_plain]
  rfl

theorem launch_leaves {l : Nat} {f : List Byte} {rest : List LaunchE} (hheld : s.time.heldTx[p] = [])
    (hq : s.time.launch[p] = { launch := l, frame := f, owner := none, tag := 0, stamp := false, oneStep := false, t2 := 0 } :: rest)
    (hup : s.epUp p = true) (hns : l ≤ s.ns) (htol : s.ns ≤ l + s.fld (F.TIME_EP_LCTL_LATE_TOL p)) (hfree : s.time.txEnd[p] ≤ l) :
    let t := l * 65536 + (Config.freeWord s.freeCtr).toNat % (if s.ep25 p then 167773 else 419431)
    Completes (.launch p) s (fun v => v.fld (F.TIME_EP_LSTAT_DEPTH p) = rest.length % 2 ^ (F.TIME_EP_LSTAT_DEPTH p).w ∧
      Frame { s with freeCtr := s.freeCtr + 1, out := s.out ++ [.eth p (s.wire p f ++ leBytes 4 (crc32e (s.wire p f))) (t / 65536)], time := { s.time with launch := s.time.launch.set p rest, txEnd := s.time.txEnd.set p (t / 65536 + s.frameNs p f.length) } }
        v [F.TIME_EP_LSTAT_DEPTH p]) := by
  intro t
  refine completes_of_done (launch_atTime hheld hq hup hns htol hfree) ⟨?_, ?_⟩
  · rw [frameOut_eq]
    change (s.setLaunch p rest).fld (F.TIME_EP_LSTAT_DEPTH p) = _
    rw [setLaunch_eq]
    exact fld_setFld_self _ _ _ (Fld.fits (by rfl))
  · have hwire : (s.setLaunch p rest).drawn.wire p f = s.wire p f := wire_setLaunch s rest f
    have hns : (s.setLaunch p rest).drawn.frameNs p f.length = s.frameNs p f.length := frameNs_of_cfg (by rw [setLaunch_eq]; rfl) p f.length
    have hframe : Frame (s.launchRest p rest) (s.setLaunch p rest) [F.TIME_EP_LSTAT_DEPTH p] := by
      rw [setLaunch_eq]
      exact (Frame.refl _ _).setFld _ (by simp) (Fld.fits (by rfl))
    have hall := (hframe.drawn.withTime { s.time with launch := s.time.launch.set p rest, txEnd := s.time.txEnd.set p (t / 65536 + s.frameNs p f.length) }).withOut
      (s.out ++ [.eth p (s.wire p f ++ leBytes 4 (crc32e (s.wire p f))) (t / 65536)])
    rw [frameOut_eq, hwire, State.sending, hns, vput_fin, setLaunch_eq]
    rw [setLaunch_eq] at hall
    exact hall

/-- A late head of the launch queue is dropped and counted (R296). -/
theorem launch_late {l : Nat} {f : List Byte} {rest : List LaunchE} (hheld : s.time.heldTx[p] = [])
    (hq : s.time.launch[p] = { launch := l, frame := f, owner := none, tag := 0, stamp := false, oneStep := false, t2 := 0 } :: rest)
    (hns : l ≤ s.ns) (hlate : l + s.fld (F.TIME_EP_LCTL_LATE_TOL p) < max s.ns s.time.txEnd[p]) (hdrop : s.bit (F.TIME_EP_LCTL_DROP_LATE p) = true) :
    Completes (.launch p) s (fun v => v.bit (F.TIME_EP_LSTAT_LATE_DROP p) = true ∧ v.fld (F.TIME_EP_LSTAT_DEPTH p) = rest.length % 2 ^ (F.TIME_EP_LSTAT_DEPTH p).w ∧
      v.fld (F.TIME_EP_LCNT_DROP_CNT p) = min (s.fld (F.TIME_EP_LCNT_DROP_CNT p) + 1) (2 ^ (F.TIME_EP_LCNT_DROP_CNT p).w - 1) ∧
      Frame (s.launchRest p rest) v [F.TIME_EP_LSTAT_LATE_DROP p, F.TIME_EP_LSTAT_DEPTH p, F.TIME_EP_LCNT_DROP_CNT p, F.TIME_EP_LCNT_SAT p]) := by
  have hne : R.TIME_EP_LSTAT p ≠ R.TIME_EP_LCNT p := by simp only [R.TIME_EP_LSTAT, R.TIME_EP_LCNT]; omega
  have hctl : R.TIME_EP_LCTL p ≠ R.TIME_EP_LSTAT p := by simp only [R.TIME_EP_LSTAT, R.TIME_EP_LCTL]; omega
  have hdrop' : (s.setLaunch p rest).bit (F.TIME_EP_LCTL_DROP_LATE p) = true := by
    rw [setLaunch_eq]
    exact (bit_of_rd_eq (F.TIME_EP_LCTL_DROP_LATE p) (rd_setFld_ne (s.launchRest p rest) (F.TIME_EP_LSTAT_DEPTH p) _ hctl)).trans hdrop
  have hx : exec (.launch p) s = done s (((s.setLaunch p rest).setFld (F.TIME_EP_LSTAT_LATE_DROP p) 1).incCnt (F.TIME_EP_LCNT_DROP_CNT p) (F.TIME_EP_LCNT_SAT p)) := by
    rw [exec_launch hheld]
    congr 1
    rw [State.launch, vget_fin, hq]
    dsimp only
    rw [vget_fin, if_neg (by omega), decide_eq_true hlate, hdrop, Bool.and_self, if_pos rfl, if_pos rfl, ite_self, State.lateFrame, hdrop', if_pos rfl]
    rfl
  refine completes_of_done hx ⟨?_, ?_, ?_, ?_⟩
  · rw [bit_of_rd_eq (F.TIME_EP_LSTAT_LATE_DROP p) (rd_incCnt_ne _ (F.TIME_EP_LCNT_DROP_CNT p) (F.TIME_EP_LCNT_SAT p) hne hne)]
    exact bit_setFld_self _ _ 1 (Fld.fits (by rfl)) rfl
  · rw [fld_of_rd_eq (F.TIME_EP_LSTAT_DEPTH p) (rd_incCnt_ne _ (F.TIME_EP_LCNT_DROP_CNT p) (F.TIME_EP_LCNT_SAT p) hne hne), setLaunch_eq,
      fld_setFld_apart (f := F.TIME_EP_LSTAT_LATE_DROP p) (g := F.TIME_EP_LSTAT_DEPTH p) _ 1 (Fld.fits (by rfl)) (.inr (.inl (Nat.le_of_ble_eq_true rfl)))]
    exact fld_setFld_self _ _ _ (Fld.fits (by rfl))
  · rw [fld_incCnt_self _ _ _ (Fld.fits (by rfl)) (Fld.fits (by rfl)) (.inr (.inl (Nat.le_of_ble_eq_true rfl))),
      fld_setFld_ne _ (F.TIME_EP_LSTAT_LATE_DROP p) (F.TIME_EP_LCNT_DROP_CNT p) 1 hne.symm, fld_setLaunch_other s rest hne.symm]
  · rw [setLaunch_eq]
    exact (((Frame.refl _ _).setFld _ (by simp) (Fld.fits (by rfl))).setFld 1 (by simp) (Fld.fits (by rfl))).incCnt (by simp) (Fld.fits (by rfl)) (by simp) (Fld.fits (by rfl))

end Launch

/-- Settles O44: reception by the checks in their order, ETH_TX by the packet rules, LAUNCH by the cases of the queue's head. -/
theorem ethernetFramesComeAndGo : Obligations.EthernetFramesComeAndGo := by
  unfold Obligations.EthernetFramesComeAndGo
  refine ⟨?rxDown, ?rxFcs, ?rxFiltered, ?rxOff, ?rxEvent, ?txDown, ?txSent, ?txWaits, ?txQueued, ?txDropped, ?empty, ?early, ?leaves, ?late⟩
  case rxDown => exact fun p f ok s hdown => ethRx_down hdown ok
  case rxFcs => exact fun p f s hup => ethRx_badFcs hup
  case rxFiltered => exact fun p f s hup hown hall hprom hmc => ethRx_filtered hup hown hall hprom hmc
  case rxOff => exact fun p src s hup hen => ethRx_off hup hen src
  case rxEvent =>
    intro p src ptp rest s hup hen f hev
    exact ethRx_event hup hen (by simp [f]) hev
  case txDown => exact fun q pkt h p s ho hlo hhi h0 h1 hnow hdown => ethTx_down h ho hlo hhi h0 h1 hnow hdown
  case txSent => exact fun q pkt h p s ho hlo hhi h0 h1 hnow hup hl hh hf => ethTx_sent h ho hlo hhi h0 h1 hnow hup hl hh hf
  case txWaits => exact fun q pkt h p s ho hlo hhi h0 h1 hnow hup hbusy => ethTx_waits h ho hlo hhi h0 h1 hnow hup hbusy
  case txQueued => exact fun q pkt h p s ho hlo hhi h0 h1 hlater hroom hsoon => ethTx_queued h ho hlo hhi h0 h1 hlater hroom hsoon
  case txDropped => exact fun q pkt h p s ho hlo hhi h0 h1 hlater hdrop => ethTx_dropped h ho hlo hhi h0 h1 hlater hdrop
  case empty => exact fun p s hheld hempty => launch_empty hheld hempty
  case early =>
    intro p e rest s0 s hns
    exact launch_early (s := s) (Vector.getElem_set_self _) (Vector.getElem_set_self _) hns
  case leaves =>
    intro p f past rest s0 s hup hpast htol hend
    exact launch_leaves (s := s) (l := s.ns - past) (Vector.getElem_set_self _) (Vector.getElem_set_self _) hup (by omega) (by omega) hend
  case late =>
    intro p f past rest s0 s hpast hlate hdrop
    exact launch_late (s := s) (l := s.ns - past) (Vector.getElem_set_self _) (Vector.getElem_set_self _) (by omega)
      (by rcases hlate with h | h <;> omega) hdrop

end Sys2Proof.Machine
end
section
/-!
PROOFS. The image pipeline: windows, take-up and the end of a frame (R276 to R282).
-/
namespace Sys2Proof.Machine

/-! ### Windows (R279, R281) -/

theorem frame_ispSlot (s : State) (c : Nat) (bayer : Bool) {fs : List Fld} (h : whole (R.ISP_CTX_SLOT c) ∈ fs) : Frame s (s.ispSlot c bayer) fs :=
  (Frame.refl s fs).putN _ h

theorem rd_ispSlot_ne (s : State) (c : Nat) (bayer : Bool) {off : Nat} (h : off ≠ R.ISP_CTX_SLOT c) : (s.ispSlot c bayer).rd off = s.rd off :=
  rd_put_ne s _ h

theorem isp_ispSlot (s : State) (c : Nat) (bayer : Bool) : (s.ispSlot c bayer).isp = s.isp := rfl

/-- The register of a write to a window. -/
def cropReg (c : Nat) (second : Bool) : Nat := if second then R.ISP_CTX_CROP1 c else R.ISP_CTX_CROP0 c

/-- The window that a write leaves: both registers as they then read. -/
def State.windowFits (s : State) (c : Nat) (second : Bool) (val : Word) : Bool :=
  let a := (if second then s.rd (R.ISP_CTX_CROP0 c) else val).toNat
  let b := (if second then val else s.rd (R.ISP_CTX_CROP1 c)).toNat
  s.cropOk c (a % 8192) (a / 65536 % 8192) (b % 8192) (b / 65536 % 8192) (2 ^ s.fld (F.ISP_CTX_CTL_DS c))

/-- A window that is taken. -/
def State.cropTaken (s : State) (c : Nat) (second : Bool) (val : Word) : State :=
  (((s.put (cropReg c second) (val &&& 0x1FFF1FFF)).ispAgain c).ispSlot c).status 0

theorem ispCrop_eq (s : State) (c : Nat) (second : Bool) (val : Word) :
    s.ispCrop c second val = if s.windowFits c second val then s.cropTaken c second val else s.status 0x40 := by
  have hlo : ∀ x : Nat, fieldN x 0 13 = x % 8192 := fun x => by simp [fieldN]
  have hhi : ∀ x : Nat, fieldN x 16 13 = x / 65536 % 8192 := fun x => by simp [fieldN]
  have hval : val.toNat % 2 ^ 29 % 8192 = val.toNat % 8192 ∧ val.toNat % 2 ^ 29 / 65536 % 8192 = val.toNat / 65536 % 8192 := by omega
  unfold State.ispCrop State.windowFits State.cropTaken cropReg
  cases second <;> simp only [hlo, hhi, hval, State.rdN, if_true, Bool.false_eq_true, if_false]

/-- Registers of the image pipeline and its ports read the same in a block that wakes. -/
theorem rd_wake_isp (s : State) {off : Nat} (h : 0x03000000 ≤ off) : (s.wakeBlock 0x15).rd off = s.rd off :=
  rd_wakeBlock_ne s 0x15 (by simp only [R.PWR_CLASS]; omega)

theorem windowFits_wake (s : State) (c : Nat) (second : Bool) (val : Word) : (s.wakeBlock 0x15).windowFits c second val = s.windowFits c second val := by
  have hhas : ∀ k i, (s.wakeBlock 0x15).has k i = s.has k i := fun k i => by
    obtain ⟨l, hl⟩ := wakeBlock_eq s 0x15
    rw [hl]
    rfl
  have hctl : ∀ p, (s.wakeBlock 0x15).bit (F.PP_CTL_EN p) = s.bit (F.PP_CTL_EN p) := fun p =>
    bit_of_rd_eq (F.PP_CTL_EN p) (rd_wake_isp s (show _ ≤ R.PP_CTL p by simp only [R.PP_CTL]; omega))
  have hctx : ∀ p, (s.wakeBlock 0x15).fld (F.PP_CTL_CTX p) = s.fld (F.PP_CTL_CTX p) := fun p =>
    fld_of_rd_eq (F.PP_CTL_CTX p) (rd_wake_isp s (show _ ≤ R.PP_CTL p by simp only [R.PP_CTL]; omega))
  have hw : ∀ p, (s.wakeBlock 0x15).fld (F.PP_GEOM_WIDTH p) = s.fld (F.PP_GEOM_WIDTH p) := fun p =>
    fld_of_rd_eq (F.PP_GEOM_WIDTH p) (rd_wake_isp s (show _ ≤ R.PP_GEOM p by simp only [R.PP_GEOM]; omega))
  have hh : ∀ p, (s.wakeBlock 0x15).fld (F.PP_GEOM_HEIGHT p) = s.fld (F.PP_GEOM_HEIGHT p) := fun p =>
    fld_of_rd_eq (F.PP_GEOM_HEIGHT p) (rd_wake_isp s (show _ ≤ R.PP_GEOM p by simp only [R.PP_GEOM]; omega))
  have hds : (s.wakeBlock 0x15).fld (F.ISP_CTX_CTL_DS c) = s.fld (F.ISP_CTX_CTL_DS c) :=
    fld_of_rd_eq (F.ISP_CTX_CTL_DS c) (rd_wake_isp s (show _ ≤ R.ISP_CTX_CTL c by simp only [R.ISP_CTX_CTL]; omega))
  simp only [State.windowFits, State.cropOk, hhas, hctl, hctx, hw, hh, hds, rd_wake_isp s (show _ ≤ R.ISP_CTX_CROP0 c by simp only [R.ISP_CTX_CROP0]; omega),
    rd_wake_isp s (show _ ≤ R.ISP_CTX_CROP1 c by simp only [R.ISP_CTX_CROP1]; omega)]

theorem exec_ispCropWrite (c : Fin 4) (second : Bool) (val : Word) (s : State) :
    exec (.ispCropWrite c second val) s = done s (if s.windowFits c second val then (s.wakeBlock 0x15).cropTaken c second val
      else (s.wakeBlock 0x15).status 0x40) := by
  change done s ((s.wakeBlock 0x15).ispCrop c second val) = _
  rw [ispCrop_eq, windowFits_wake]

theorem cropReg_ne_slot (c : Nat) (second : Bool) : cropReg c second ≠ R.ISP_CTX_SLOT c := by
  cases second <;> simp only [cropReg, if_true, Bool.false_eq_true, if_false, R.ISP_CTX_CROP0, R.ISP_CTX_CROP1, R.ISP_CTX_SLOT] <;> omega

theorem isp_wakeBlock (s : State) (b : Nat) : (s.wakeBlock b).isp = s.isp := by
  obtain ⟨l, hl⟩ := wakeBlock_eq s b
  rw [hl]

theorem ispCropWrite_taken {c : Fin 4} {second : Bool} {val : Word} {s : State} (h : s.windowFits c second val = true) :
    Completes (.ispCropWrite c second val) s (fun v => v.rd (cropReg c second) = val &&& 0x1FFF1FFF ∧ v.isp.again[c] = true ∧
      Frame { s.wakeBlock 0x15 with lastStatus := 0, isp := { s.isp with again := s.isp.again.set c true } } v
        [whole (cropReg c second), whole (R.ISP_CTX_SLOT c)]) := by
  have hx := exec_ispCropWrite c second val s
  rw [h, if_pos rfl] at hx
  refine completes_of_done hx ⟨?_, ?_, ?_⟩
  · exact (rd_ispSlot_ne _ c false (cropReg_ne_slot c second)).trans (rd_put_self _ _ _)
  · change (vput (s.wakeBlock 0x15).isp.again c true)[c] = true
    rw [vput_fin]
    exact Vector.getElem_set_self _
  · have hput : Frame (s.wakeBlock 0x15) ((s.wakeBlock 0x15).put (cropReg c second) (val &&& 0x1FFF1FFF))
        [whole (cropReg c second), whole (R.ISP_CTX_SLOT c)] := (Frame.refl _ _).putWord _ (by simp)
    have hagain : Frame { s.wakeBlock 0x15 with isp := { s.isp with again := s.isp.again.set c true } }
        (((s.wakeBlock 0x15).put (cropReg c second) (val &&& 0x1FFF1FFF)).ispAgain c) [whole (cropReg c second), whole (R.ISP_CTX_SLOT c)] := by
      have := hput.withIsp { s.isp with again := s.isp.again.set c true }
      rw [State.ispAgain, put_isp, isp_wakeBlock, vput_fin]
      exact this
    exact (hagain.trans (frame_ispSlot _ c false (by simp))).withStatus 0

/-! ### ISP_FRAME_TAKEUP (R276, R277, R281) -/

theorem takeup_idle {s : State} (h : s.bit F.ISP_CTL_EN = false ∨ s.bit F.ISP_STAT_BUSY = true ∨ s.isp.frames = []) :
    Completes .ispFrameTakeup s (fun v => v = s) := by
  refine completes_of_done (v := s) ?_ rfl
  change execIspFrameTakeup s = _
  unfold execIspFrameTakeup
  split
  · rfl
  · next hrun =>
    have hempty : s.isp.frames = [] := by
      rcases h with h | h | h
      · simp [h] at hrun
      · simp [h] at hrun
      · exact h
    rw [hempty]

/-- The ring of a context whose settings changed starts afresh (R281). -/
def State.ringStart (s : State) (c : Nat) : State :=
  if vget s.isp.again c false then (s.setFld (F.ISP_CTX_WR_SLOT c) 0).setFld (F.ISP_CTX_RD_SLOT c) 0 else s

/-- The context that a frame runs with. -/
def State.ctxCopied (s : State) (c : Nat) (full : Bool) : State :=
  { s with isp := { s.isp with work := s.regs.filter (fun e => inCtx c e.1), skip := full, slot := s.rdN (R.ISP_CTX_SLOT c),
                               again := vput s.isp.again c false } }

/-- Has the slot ring of a context no slot left? -/
def State.ringFull (s : State) (c : Nat) : Bool := ringCount (s.fld (F.ISP_CTX_WR_SLOT c)) (s.fld (F.ISP_CTX_RD_SLOT c)) (s.nslot c) == s.nslot c

/-- ISP_STAT while a frame runs. -/
def State.ispRuns (s : State) (full : Bool) (port : Nat) : State :=
  ((if full then s.setFld F.ISP_STAT_OUT_SKIP 1 else s).setFld F.ISP_STAT_BUSY 1).setFld F.ISP_STAT_PORT port

section Takeup
variable {s : State} {fr : PpFrame}

theorem exec_takeup (hhead : s.isp.frames.head? = some fr) (hen : s.bit F.ISP_CTL_EN = true) (hidle : s.bit F.ISP_STAT_BUSY = false) :
    exec .ispFrameTakeup s = done s
      ((((s.ringStart fr.ctx).ispSlot fr.ctx (ppBayer fr.fmt)).ctxCopied fr.ctx (((s.ringStart fr.ctx).ispSlot fr.ctx (ppBayer fr.fmt)).ringFull fr.ctx)).ispRuns
        (((s.ringStart fr.ctx).ispSlot fr.ctx (ppBayer fr.fmt)).ringFull fr.ctx) fr.port) := by
  obtain ⟨rest, hframes⟩ : ∃ rest, s.isp.frames = fr :: rest := by
    cases hl : s.isp.frames with
    | nil => simp [hl] at hhead
    | cons x xs => exact ⟨xs, by simpa [hl] using hhead⟩
  change execIspFrameTakeup s = _
  unfold execIspFrameTakeup
  rw [if_neg (by simp [hen, hidle]), hframes]
  rfl

theorem ispStat_ne (c k : Nat) : 0x03002000 + k + c * 0x100 ≠ R.ISP_STAT := by simp only [R.ISP_STAT]; omega

theorem rd_ispRuns_ne (s : State) (full : Bool) (port : Nat) {off : Nat} (h : off ≠ R.ISP_STAT) : (s.ispRuns full port).rd off = s.rd off := by
  rw [State.ispRuns, rd_setFld_ne _ F.ISP_STAT_PORT _ h, rd_setFld_ne _ F.ISP_STAT_BUSY _ h]
  split
  · exact rd_setFld_ne s F.ISP_STAT_OUT_SKIP _ h
  · rfl

theorem ispRuns_fields (s : State) (full : Bool) (port : Nat) :
    (s.ispRuns full port).bit F.ISP_STAT_BUSY = true ∧ (s.ispRuns full port).fld F.ISP_STAT_PORT = port % 2 ∧
      (s.ispRuns full port).bit F.ISP_STAT_OUT_SKIP = (s.bit F.ISP_STAT_OUT_SKIP || full) ∧ (s.ispRuns full port).isp = s.isp ∧
      Frame s (s.ispRuns full port) [F.ISP_STAT_BUSY, F.ISP_STAT_PORT, F.ISP_STAT_OUT_SKIP] := by
  have hskip : Frame s (if full then s.setFld F.ISP_STAT_OUT_SKIP 1 else s) [F.ISP_STAT_BUSY, F.ISP_STAT_PORT, F.ISP_STAT_OUT_SKIP] := by
    split
    · exact (Frame.refl s _).setFld 1 (by simp) (Fld.fits (by rfl))
    · exact Frame.refl s _
  refine ⟨?_, fld_setFld_self _ _ _ (Fld.fits (by rfl)), ?_, ?_, (hskip.setFld 1 (by simp) (Fld.fits (by rfl))).setFld port (by simp) (Fld.fits (by rfl))⟩
  · rw [State.ispRuns, bit_setFld_apart _ _ (Fld.fits (by rfl)) (.inr (by decide))]
    exact bit_setFld_self _ _ 1 (Fld.fits (by rfl)) rfl
  · rw [State.ispRuns, bit_setFld_apart _ _ (Fld.fits (by rfl)) (.inr (by decide)), bit_setFld_apart _ _ (Fld.fits (by rfl)) (.inr (by decide))]
    cases full with
    | false => rw [if_neg Bool.false_ne_true, Bool.or_false]
    | true =>
      rw [if_pos rfl, Bool.or_true]
      exact bit_setFld_self _ _ 1 (Fld.fits (by rfl)) rfl
  · unfold State.ispRuns
    split <;> rfl

theorem isp_ringStart (s : State) (c : Nat) : (s.ringStart c).isp = s.isp := by
  unfold State.ringStart
  split <;> rfl

theorem frame_ringStart (s : State) (c : Nat) {fs : List Fld} (hw : F.ISP_CTX_WR_SLOT c ∈ fs) (hr : F.ISP_CTX_RD_SLOT c ∈ fs) : Frame s (s.ringStart c) fs := by
  unfold State.ringStart
  split
  · exact ((Frame.refl s fs).setFld 0 hw (Fld.fits (by rfl))).setFld 0 hr (Fld.fits (by rfl))
  · exact Frame.refl s fs

theorem ringStart_cleared (s : State) (c : Nat) (h : vget s.isp.again c false = true) :
    (s.ringStart c).fld (F.ISP_CTX_WR_SLOT c) = 0 ∧ (s.ringStart c).fld (F.ISP_CTX_RD_SLOT c) = 0 := by
  have hne : R.ISP_CTX_WR c ≠ R.ISP_CTX_RD c := by simp only [R.ISP_CTX_WR, R.ISP_CTX_RD]; omega
  rw [State.ringStart, if_pos h, fld_setFld_ne _ (F.ISP_CTX_RD_SLOT c) (F.ISP_CTX_WR_SLOT c) 0 hne, fld_setFld_self _ _ _ (Fld.fits (by rfl)),
    fld_setFld_self _ _ _ (Fld.fits (by rfl))]
  exact ⟨rfl, rfl⟩

theorem rd_ringStart_ne (s : State) (c : Nat) {off : Nat} (hw : off ≠ R.ISP_CTX_WR c) (hr : off ≠ R.ISP_CTX_RD c) : (s.ringStart c).rd off = s.rd off := by
  unfold State.ringStart
  split
  · exact (rd_setFld_ne _ (F.ISP_CTX_RD_SLOT c) _ hr).trans (rd_setFld_ne s (F.ISP_CTX_WR_SLOT c) _ hw)
  · rfl

theorem isp_of_eq {v : State} {fs : List Fld} {x y : IspS} (h : x = y) (hf : Frame { s with isp := y } v fs) : Frame { s with isp := x } v fs := h ▸ hf

theorem takeup_runs {c : Fin 4} (hhead : s.isp.frames.head? = some fr) (hen : s.bit F.ISP_CTL_EN = true) (hidle : s.bit F.ISP_STAT_BUSY = false)
    (hc : (c : Nat) = fr.ctx) :
    Completes .ispFrameTakeup s (fun v => v.bit F.ISP_STAT_BUSY = true ∧ v.fld F.ISP_STAT_PORT = fr.port % 2 ∧ v.isp.again[c] = false ∧
      (s.isp.again[c] = true → v.fld (F.ISP_CTX_WR_SLOT c) = 0 ∧ v.fld (F.ISP_CTX_RD_SLOT c) = 0) ∧
      v.bit F.ISP_STAT_OUT_SKIP = (s.bit F.ISP_STAT_OUT_SKIP || v.isp.skip) ∧
      v.isp.skip = (ringCount (v.fld (F.ISP_CTX_WR_SLOT c)) (v.fld (F.ISP_CTX_RD_SLOT c)) (s.nslot c) == s.nslot c) ∧
      Frame { s with isp := { s.isp with work := v.isp.work, skip := v.isp.skip, slot := v.rdN (R.ISP_CTX_SLOT c), again := s.isp.again.set c false } } v
        [F.ISP_STAT_BUSY, F.ISP_STAT_PORT, F.ISP_STAT_OUT_SKIP, F.ISP_CTX_WR_SLOT c, F.ISP_CTX_RD_SLOT c, whole (R.ISP_CTX_SLOT c)]) := by
  have hx := exec_takeup hhead hen hidle
  rw [← hc] at hx
  generalize hr : s.ringStart c = r at hx
  generalize hu : r.ispSlot c (ppBayer fr.fmt) = u at hx
  generalize hfull : u.ringFull c = full at hx
  obtain ⟨hbusy, hport, hskip, hisp, hframe⟩ := ispRuns_fields (u.ctxCopied c full) full fr.port
  have hwr : ∀ off, off ≠ R.ISP_STAT → ((u.ctxCopied c full).ispRuns full fr.port).rd off = u.rd off := fun off ho => rd_ispRuns_ne _ full fr.port ho
  have hslot : ∀ off, off ≠ R.ISP_CTX_SLOT c → u.rd off = r.rd off := fun off ho => by rw [← hu]; exact rd_ispSlot_ne r c _ ho
  have hfld : ∀ {f : Fld}, f.off ≠ R.ISP_STAT → f.off ≠ R.ISP_CTX_SLOT c → ((u.ctxCopied c full).ispRuns full fr.port).fld f = r.fld f :=
    fun h1 h2 => fld_of_rd_eq _ ((hwr _ h1).trans (hslot _ h2))
  have hispu : u.isp = s.isp := by rw [← hu, isp_ispSlot, ← hr, isp_ringStart]
  have hw1 : R.ISP_CTX_WR c ≠ R.ISP_CTX_SLOT c := by simp only [R.ISP_CTX_WR, R.ISP_CTX_SLOT]; omega
  have hr1 : R.ISP_CTX_RD c ≠ R.ISP_CTX_SLOT c := by simp only [R.ISP_CTX_RD, R.ISP_CTX_SLOT]; omega
  refine completes_of_done hx ⟨hbusy, hport, ?_, fun hagain => ?_, ?_, ?_, ?_⟩
  · rw [hisp]
    change (vput u.isp.again c false)[c] = false
    rw [vput_fin]
    exact Vector.getElem_set_self _
  · obtain ⟨h1, h2⟩ := ringStart_cleared s c (by rw [vget_fin]; exact hagain)
    rw [hr] at h1 h2
    exact ⟨(hfld (ispStat_ne c 0x34) hw1).trans h1, (hfld (ispStat_ne c 0x38) hr1).trans h2⟩
  · rw [hskip, hisp]
    have hold : u.bit F.ISP_STAT_OUT_SKIP = s.bit F.ISP_STAT_OUT_SKIP := by
      refine bit_of_rd_eq F.ISP_STAT_OUT_SKIP ((hslot _ (ispStat_ne c 0x30).symm).trans ?_)
      rw [← hr]
      exact rd_ringStart_ne s c (ispStat_ne c 0x34).symm (ispStat_ne c 0x38).symm
    exact congrArg (· || full) hold
  · have hn : u.nslot c = s.nslot c := by
      have hctl : u.fld (F.ISP_CTX_CTL_NSLOT c) = s.fld (F.ISP_CTX_CTL_NSLOT c) := by
        refine fld_of_rd_eq (F.ISP_CTX_CTL_NSLOT c) ((hslot (R.ISP_CTX_CTL c) (by simp only [R.ISP_CTX_CTL, R.ISP_CTX_SLOT]; omega)).trans ?_)
        rw [← hr]
        exact rd_ringStart_ne s c (by simp only [R.ISP_CTX_CTL, R.ISP_CTX_WR]; omega) (by simp only [R.ISP_CTX_CTL, R.ISP_CTX_RD]; omega)
      rw [State.nslot, State.nslot, hctl]
    have hskipped : ((u.ctxCopied c full).ispRuns full fr.port).isp.skip = full := congrArg IspS.skip hisp
    rw [hskipped, fld_of_rd_eq (F.ISP_CTX_WR_SLOT c) (hwr (R.ISP_CTX_WR c) (ispStat_ne c 0x34)),
      fld_of_rd_eq (F.ISP_CTX_RD_SLOT c) (hwr (R.ISP_CTX_RD c) (ispStat_ne c 0x38)), ← hn]
    exact hfull.symm
  · have hX : { s.isp with
        work := ((u.ctxCopied c full).ispRuns full fr.port).isp.work
        skip := ((u.ctxCopied c full).ispRuns full fr.port).isp.skip
        slot := ((u.ctxCopied c full).ispRuns full fr.port).rdN (R.ISP_CTX_SLOT c)
        again := s.isp.again.set c false } = (u.ctxCopied c full).isp := by
      rw [hisp, State.rdN, hwr (R.ISP_CTX_SLOT c) (ispStat_ne c 0x30), State.ctxCopied, hispu, vput_fin]
      rfl
    have hru : Frame s u [F.ISP_STAT_BUSY, F.ISP_STAT_PORT, F.ISP_STAT_OUT_SKIP, F.ISP_CTX_WR_SLOT c, F.ISP_CTX_RD_SLOT c, whole (R.ISP_CTX_SLOT c)] := by
      rw [← hu]
      refine Frame.trans ?_ (frame_ispSlot r c _ (by simp))
      rw [← hr]
      exact frame_ringStart s c (by simp) (by simp)
    exact isp_of_eq hX ((hru.withIsp _).trans (hframe.mono (by simp +contextual)))

end Takeup

end Sys2Proof.Machine
end
section
/-!
PROOFS. The end of a frame: the parts of its slot, and the notice (R279 to R282).
-/
namespace Sys2Proof.Machine

/-! ### Byte strings stored one after the other -/

theorem memRange_congr_on {m m' : List Host.Cell} {a n : Nat} (h : ∀ x, a ≤ x → x < a + n → memGet m x = memGet m' x) : memRange m a n = memRange m' a n := by
  rw [memRange_eq, memRange_eq]
  exact List.map_congr_left fun i hi => h _ (by omega) (by have := List.mem_range.mp hi; omega)

theorem lineRange_sub {a n b k l : Nat} (hb : a ≤ b) (hk : b + k ≤ a + n) (h : l ∈ lineRange b k) : l ∈ lineRange a n := by
  by_cases h0 : k = 0
  · simp [lineRange, h0] at h
  · rw [lineRange, if_neg h0, List.mem_map] at h
    obtain ⟨i, hi, rfl⟩ := h
    have := List.mem_range.mp hi
    rw [lineRange, if_neg (by omega), List.mem_map]
    exact ⟨i + b / 64 - a / 64, List.mem_range.mpr (by omega), by omega⟩

/-- A part of a slot is stored where DDR-4 is installed. -/
def State.slotPut (base : Nat) (s : State) (p : Nat × List Byte) : State :=
  if s.inDdr (base + p.1) p.2.length then s.memStore (base + p.1) p.2 else s

/-- From `s` to `v` bytes of DDR-4 were stored; beside them only answers of the write queues were counted. -/
def StoresFrame (s v : State) : Prop := Frame { s with ddr := v.ddr } v fwdCounts

theorem StoresFrame.refl (s : State) : StoresFrame s s := Frame.refl s _

theorem StoresFrame.trans {s t v : State} (h : StoresFrame s t) (k : StoresFrame t v) : StoresFrame s v :=
  (Frame.withDdr h v.ddr).trans k

theorem StoresFrame.poison_eq {s v : State} (h : StoresFrame s v) : v.poison = s.poison := (congrArg State.poison h.rest :)

theorem StoresFrame.inDdr_eq {s v : State} (h : StoresFrame s v) (a n : Nat) : v.inDdr a n = s.inDdr a n := by
  have hrd : v.rd R.DMC_INSTALLED = s.rd R.DMC_INSTALLED := Frame.rd h (fieldBits_eq_zero fwdCounts_off)
  rw [State.inDdr, State.inDdr, bit_of_rd_eq F.DMC_INSTALLED_VALID hrd, fld_of_rd_eq F.DMC_INSTALLED_MIB hrd]

/-- A part is stored where nothing is poisoned: its bytes stand there, and no other byte changes. -/
theorem slotPut_stores {base : Nat} {s : State} {p : Nat × List Byte} (hclean : ∀ l ∈ lineRange (base + p.1) p.2.length, s.poison.contains l = false) :
    StoresFrame s (s.slotPut base p) ∧
      (∀ x, x < base + p.1 ∨ base + p.1 + p.2.length ≤ x → memGet (s.slotPut base p).ddr x = memGet s.ddr x) ∧
      (s.inDdr (base + p.1) p.2.length = true → memRange (s.slotPut base p).ddr (base + p.1) p.2.length = p.2) := by
  by_cases hin : s.inDdr (base + p.1) p.2.length = true
  · have hv : s.bit F.DMC_INSTALLED_VALID = true := by
      rw [State.inDdr, Bool.and_eq_true] at hin
      exact hin.1
    obtain ⟨r, hf, hstore⟩ := memStore_unpoisoned hv hclean
    rw [State.slotPut, if_pos hin, hstore]
    refine ⟨Frame.withDdr hf _, fun x hx => ?_, fun _ => memRange_memSetAll _ _ _⟩
    exact (memGet_memSetAll _ _ _ _).trans (if_neg (by omega))
  · rw [State.slotPut, if_neg hin]
    exact ⟨StoresFrame.refl s, fun _ _ => rfl, fun h => absurd h hin⟩

/-- Parts that lie one after the other between two places of a slot. -/
structure PartsIn (lo hi : Nat) (ps : List (Nat × List Byte)) : Prop where
  inside : ∀ p ∈ ps, lo ≤ p.1 ∧ p.1 + p.2.length ≤ hi
  apart  : ps.Pairwise (fun p q => p.1 + p.2.length ≤ q.1)

theorem PartsIn.one {o hi : Nat} {bs : List Byte} (h : o + bs.length ≤ hi) : PartsIn o hi [(o, bs)] :=
  ⟨fun p hp => by rw [List.mem_singleton.mp hp]; exact ⟨Nat.le_refl _, h⟩, List.pairwise_singleton _ _⟩

/-- A part that is written where it is enabled. -/
theorem PartsIn.when {o hi : Nat} {bs : List Byte} {e : Bool} (h : e = true → o + bs.length ≤ hi) :
    PartsIn o hi (if e then [(o, bs)] else []) := by
  cases e with
  | true => exact PartsIn.one (h rfl)
  | false => exact ⟨fun p hp => absurd hp List.not_mem_nil, List.Pairwise.nil⟩

theorem PartsIn.append {lo mid hi : Nat} {ps qs : List (Nat × List Byte)} (h : PartsIn lo mid ps) (k : PartsIn mid hi qs) (hlo : lo ≤ mid) (hhi : mid ≤ hi) :
    PartsIn lo hi (ps ++ qs) := by
  refine ⟨fun p hp => ?_, List.pairwise_append.mpr ⟨h.apart, k.apart, fun p hp q hq => (h.inside p hp).2.trans (k.inside q hq).1⟩⟩
  rcases List.mem_append.mp hp with hp | hp
  · exact ⟨(h.inside p hp).1, (h.inside p hp).2.trans hhi⟩
  · exact ⟨hlo.trans (k.inside p hp).1, (k.inside p hp).2⟩

theorem foldl_slotPut {base lo size : Nat} {ps : List (Nat × List Byte)} (hps : PartsIn lo size ps) {s : State}
    (hclean : ∀ l ∈ lineRange base size, s.poison.contains l = false) :
    StoresFrame s (ps.foldl (State.slotPut base) s) ∧
      (∀ x, (∀ p ∈ ps, x < base + p.1 ∨ base + p.1 + p.2.length ≤ x) → memGet (ps.foldl (State.slotPut base) s).ddr x = memGet s.ddr x) ∧
      (∀ p ∈ ps, s.inDdr (base + p.1) p.2.length = true → memRange (ps.foldl (State.slotPut base) s).ddr (base + p.1) p.2.length = p.2) := by
  induction ps generalizing s with
  | nil => exact ⟨StoresFrame.refl s, fun _ _ => rfl, fun _ h => absurd h List.not_mem_nil⟩
  | cons p ps ih =>
    obtain ⟨hinside, hapart⟩ := hps
    rw [List.pairwise_cons] at hapart
    obtain ⟨hfirst, hrest⟩ := hapart
    obtain ⟨hf, hout, hat⟩ := slotPut_stores (base := base) (s := s) (p := p)
      (fun l hl => hclean l (lineRange_sub (by omega) (by have := (hinside p (by simp)).2; omega) hl))
    obtain ⟨kf, kout, kat⟩ := ih ⟨fun q hq => hinside q (by simp [hq]), hrest⟩ (s := s.slotPut base p) (fun l hl => hf.poison_eq ▸ hclean l hl)
    rw [List.foldl_cons]
    refine ⟨hf.trans kf, fun x hx => (kout x fun q hq => hx q (by simp [hq])).trans (hout x (hx p (by simp))), fun q hq hin => ?_⟩
    rcases List.mem_cons.mp hq with rfl | hq
    · rw [memRange_congr_on (m' := (s.slotPut base q).ddr) fun x h1 h2 => kout x fun q' hq' => .inl (by have := hfirst q' hq'; omega)]
      exact hat hin
    · exact kat q hq ((hf.inDdr_eq _ _).trans hin)

/-! ### The parts of a slot (R281) -/

/-- A list of rows of at most `k` bytes each takes at most as many times `k`. -/
theorem length_flatMap_const {α β : Type} {f : α → List β} {k : Nat} (l : List α) (h : ∀ x ∈ l, (f x).length = k) : (l.flatMap f).length = l.length * k := by
  rw [List.length_flatMap, List.map_congr_left h, List.map_const', List.sum_replicate, smul_eq_mul]

theorem length_ispPixel (s : State) (fr : PpFrame) (v : Nat → Nat → Nat) (x y : Nat) : (s.ispPixel fr v x y).length = if ppBayer fr.fmt then 3 else 1 := by
  unfold State.ispPixel
  cases ppBayer fr.fmt <;> rfl

theorem le_pad (n : Nat) : n ≤ 64 * ceilDiv n 64 := by
  unfold ceilDiv
  omega

section Grid
variable {α : Type} (f : Nat → Nat → α) (rows w : Nat)

theorem length_grid : (((List.range rows).map fun y => (List.range w).map fun x => f x y).flatten).length = rows * w := by
  rw [← List.flatMap_def, length_flatMap_const (k := w) _ (fun y _ => by rw [List.length_map, List.length_range]), List.length_range]

theorem mem_grid {p : α} (h : p ∈ ((List.range rows).map fun y => (List.range w).map fun x => f x y).flatten) : ∃ x y, p = f x y := by
  obtain ⟨l, hl, hp⟩ := List.mem_flatten.mp h
  obtain ⟨y, -, rfl⟩ := List.mem_map.mp hl
  obtain ⟨x, -, rfl⟩ := List.mem_map.mp hp
  exact ⟨x, y, rfl⟩

end Grid

/-- The parts that a frame writes after its header, and what they take of the slot. -/
theorem ispOutputs_eq (s : State) (fr : PpFrame) (w h : Nat) :
    ∃ hist zone mv code disp : List Byte,
      hist.length = 1024 ∧ zone.length = 512 ∧ mv.length ≤ 2 * (if ppBayer fr.fmt then 3 else 1) * w * h ∧ code.length ≤ w * h ∧
      disp.length ≤ (if ppBayer fr.fmt then 3 else 1) * (w / 2 ^ s.ispF (F.ISP_CTX_CTL_DS fr.ctx)) * (h / 2 ^ s.ispF (F.ISP_CTX_CTL_DS fr.ctx)) ∧
      s.ispOutputs fr w h =
        let out := s.ispF (F.ISP_CTX_CTL_OUT_EN fr.ctx)
        let ofs := fun k => ((slotParts (if ppBayer fr.fmt then 3 else 1) w h (2 ^ s.ispF (F.ISP_CTX_CTL_DS fr.ctx)) out).take k).sum
        [(ofs 1, hist), (ofs 2, zone)] ++ (if bitN out 0 then [(ofs 3, mv)] else []) ++ (if bitN out 1 then [(ofs 4, code)] else []) ++
          (if bitN out 2 then [(ofs 5, disp)] else []) := by
  refine ⟨_, _, _, _, _, ?hist, ?zone, ?mv, ?code, ?disp, rfl⟩
  case hist => rw [length_flatMap_const (k := 4) _ (fun _ _ => length_leBytes _ _), List.length_range]
  case zone => rw [length_flatMap_const (k := 2) _ (fun _ _ => length_leBytes _ _), List.length_range]
  case mv =>
    rw [length_flatMap_const (k := (if ppBayer fr.fmt then 3 else 1) * 2), length_grid]
    · calc min h (fr.lines - s.ispF (F.ISP_CTX_CROP0_Y0 fr.ctx)) * w * ((if ppBayer fr.fmt then 3 else 1) * 2)
          ≤ h * w * ((if ppBayer fr.fmt then 3 else 1) * 2) := Nat.mul_le_mul_right _ (Nat.mul_le_mul_right _ (Nat.min_le_left _ _))
        _ = 2 * (if ppBayer fr.fmt then 3 else 1) * w * h := by ring
    · intro p hp
      obtain ⟨x, y, rfl⟩ := mem_grid _ _ _ hp
      rw [length_flatMap_const (k := 2) _ (fun _ _ => length_leBytes _ _), length_ispPixel]
  case code =>
    rw [length_flatMap_const (k := 1) _ (fun _ _ => length_leBytes _ _), length_grid, Nat.mul_one, Nat.mul_comm w h]
    exact Nat.mul_le_mul_right _ (Nat.min_le_left _ _)
  case disp =>
    rw [length_flatMap_const (k := w / 2 ^ s.ispF (F.ISP_CTX_CTL_DS fr.ctx) * (if ppBayer fr.fmt then 3 else 1)), List.length_range]
    · rw [Nat.mul_comm, Nat.mul_comm (w / _)]
      exact Nat.mul_le_mul_left _ (Nat.div_le_div_right (Nat.min_le_left _ _))
    · intro y _
      rw [length_flatMap_const (k := if ppBayer fr.fmt then 3 else 1), List.length_range]
      intro x _
      rw [length_flatMap_const (k := 1) _ (fun _ _ => length_leBytes _ _), List.length_range, Nat.mul_one]

/-- The parts of a slot lie one after the other inside it. -/
theorem partsIn_slot (s : State) (fr : PpFrame) (w h : Nat) {hdr : List Byte} (hhdr : hdr.length = 64) :
    PartsIn 0 (slotParts (if ppBayer fr.fmt then 3 else 1) w h (2 ^ s.ispF (F.ISP_CTX_CTL_DS fr.ctx)) (s.ispF (F.ISP_CTX_CTL_OUT_EN fr.ctx))).sum
      ((0, hdr) :: s.ispOutputs fr w h) := by
  obtain ⟨hist, zone, mv, code, disp, hhist, hzone, hmv, hcode, hdisp, he⟩ := ispOutputs_eq s fr w h
  have hmv := hmv.trans (le_pad _)
  have hcode := hcode.trans (le_pad _)
  have hdisp := hdisp.trans (le_pad _)
  rw [he]
  generalize s.ispF (F.ISP_CTX_CTL_OUT_EN fr.ctx) = out
  obtain ⟨a, b, c, hsum, ha, hb, hc⟩ : ∃ a b c, slotParts (if ppBayer fr.fmt then 3 else 1) w h (2 ^ s.ispF (F.ISP_CTX_CTL_DS fr.ctx)) out = [64, 1024, 512, a, b, c] ∧
      (bitN out 0 = true → mv.length ≤ a) ∧ (bitN out 1 = true → code.length ≤ b) ∧ (bitN out 2 = true → disp.length ≤ c) :=
    ⟨_, _, _, rfl, fun e => by rw [if_pos e]; exact hmv, fun e => by rw [if_pos e]; exact hcode, fun e => by rw [if_pos e]; exact hdisp⟩
  simp only [hsum, List.take_succ_cons, List.take_zero, List.sum_cons, List.sum_nil, Nat.add_zero]
  have hhead : PartsIn 0 64 [(0, hdr)] := .one (by omega)
  have hstats : PartsIn 64 (64 + (1024 + 512)) [(64, hist), (64 + 1024, zone)] :=
    .append (ps := [_]) (mid := 64 + 1024) (.one (by omega)) (.one (by omega)) (by omega) (by omega)
  have hmv : PartsIn (64 + (1024 + 512)) (64 + (1024 + (512 + a))) (if bitN out 0 then [(64 + (1024 + 512), mv)] else []) :=
    .when fun e => by have := ha e; omega
  have hcode : PartsIn (64 + (1024 + (512 + a))) (64 + (1024 + (512 + (a + b)))) (if bitN out 1 then [(64 + (1024 + (512 + a)), code)] else []) :=
    .when fun e => by have := hb e; omega
  have hdisp : PartsIn (64 + (1024 + (512 + (a + b)))) (64 + (1024 + (512 + (a + (b + c))))) (if bitN out 2 then [(64 + (1024 + (512 + (a + b))), disp)] else []) :=
    .when fun e => by have := hc e; omega
  exact hhead.append (((hstats.append hmv (by omega) (by omega)).append hcode (by omega) (by omega)).append hdisp (by omega) (by omega)) (by omega) (by omega)

/-! ### The notice of a frame (R282, R359) -/

/-- What an entry that may be dropped changes. -/
def dropFields (c : Nat) : List Fld :=
  [F.HQ_TAIL_OFS (32 + c), F.HQ_STAT_FULL (32 + c), F.HQ_STAT_DROP (32 + c), F.HQ_STAT_DROP_CNT (32 + c), F.HQ_STAT_SAT (32 + c), whole (R.MSIX_PBA 0),
    whole (R.MSIX_PBA 1)]

theorem fieldBits_dropFields {c off : Nat} (hc : c < 32) (h : 0x03000000 ≤ off) : fieldBits (dropFields c) off = 0 := by
  refine fieldBits_eq_zero fun f hf => ?_
  simp only [dropFields, List.mem_cons, List.not_mem_nil, or_false] at hf
  have htail : R.HQ_TAIL (32 + c) ≠ off := by simp only [R.HQ_TAIL]; omega
  have hstat : R.HQ_STAT (32 + c) ≠ off := by simp only [R.HQ_STAT]; omega
  have hpba : ∀ k < 2, R.MSIX_PBA k ≠ off := fun k hk => by simp only [R.MSIX_PBA]; omega
  rcases hf with rfl | rfl | rfl | rfl | rfl | rfl | rfl
  · exact htail
  · exact hstat
  · exact hstat
  · exact hstat
  · exact hstat
  · exact hpba 0 (by decide)
  · exact hpba 1 (by decide)

/-- An entry is posted where its queue has room, and else counted as dropped. -/
theorem postOrDrop_fields (s : State) (c : Nat) (e : HostEntry) :
    (s.postOrDrop c e).hq.posted = s.hq.posted ++ (if s.hasRoom c e.ringBytes then [(c, e)] else []) ∧ QueueFrame s (s.postOrDrop c e) (dropFields c) := by
  by_cases hroom : s.hasRoom c e.ringBytes = true
  · obtain ⟨hposted, hframe⟩ := postOrDrop_posts hroom
    rw [if_pos hroom]
    exact ⟨hposted, hframe.mono (by simp +contextual [postFields, dropFields])⟩
  · rw [if_neg hroom, List.append_nil, State.postOrDrop, if_neg hroom]
    refine ⟨congrArg HostqS.posted (incCnt_hq _ _ _), ?_⟩
    exact (((Frame.refl s _).setFld (f := F.HQ_STAT_DROP (32 + c)) 1 (by simp [dropFields]) (Fld.fits (by rfl))).incCnt (f := F.HQ_STAT_DROP_CNT (32 + c))
      (g := F.HQ_STAT_SAT (32 + c)) (by simp [dropFields]) (Fld.fits (by rfl)) (by simp [dropFields]) (Fld.fits (by rfl))).toQueue

theorem hasRoom_congr {s v : State} {c : Nat} (hc : c < 32) (hslots : v.hq.slots = s.hq.slots) (hrd : ∀ off, 0x00200000 ≤ off → off < 0x00300000 → v.rd off = s.rd off)
    (n : Nat) : v.hasRoom c n = s.hasRoom c n := by
  have hreg : ∀ k, 4 * k < 64 → v.rd (0x00200000 + 4 * k + (32 + c) * 0x40) = s.rd (0x00200000 + 4 * k + (32 + c) * 0x40) := fun k hk =>
    hrd _ (by omega) (by omega)
  have hen : v.bit (F.HQ_CFG_EN (32 + c)) = s.bit (F.HQ_CFG_EN (32 + c)) := bit_of_rd_eq (F.HQ_CFG_EN (32 + c)) (hreg 2 (by decide))
  have hsize : v.fld (F.HQ_CFG_SIZE (32 + c)) = s.fld (F.HQ_CFG_SIZE (32 + c)) := fld_of_rd_eq (F.HQ_CFG_SIZE (32 + c)) (hreg 2 (by decide))
  have hhead : v.fld (F.HQ_HEAD_OFS (32 + c)) = s.fld (F.HQ_HEAD_OFS (32 + c)) := fld_of_rd_eq (F.HQ_HEAD_OFS (32 + c)) (hreg 3 (by decide))
  have htail : v.fld (F.HQ_TAIL_OFS (32 + c)) = s.fld (F.HQ_TAIL_OFS (32 + c)) := fld_of_rd_eq (F.HQ_TAIL_OFS (32 + c)) (hreg 4 (by decide))
  have hused : v.ringUsed (32 + c) = s.ringUsed (32 + c) := by rw [State.ringUsed, State.ringUsed, State.ringSize, State.ringSize, hsize, hhead, htail]
  rw [State.hasRoom, State.hasRoom, hen, hused, State.ringSize, State.ringSize, hsize, State.reserved, State.reserved, hslots]

/-- What ISP hides when a frame leaves the list, with the free values its pixels drew. -/
def State.frameLeft (s : State) (rest : List PpFrame) (n : Nat) : State :=
  { s with
    isp := { s.isp with frames := rest, work := [], skip := false }
    freeCtr := s.freeCtr + n }

theorem Frame.frameLeft {s v : State} {fs : List Fld} (h : Frame s v fs) (rest : List PpFrame) (n : Nat) : Frame (s.frameLeft rest n) (v.frameLeft rest n) fs :=
  h.of_eq rfl rfl rfl rfl rfl rfl (congrArg (fun x : State => x.frameLeft rest n) h.rest)

/-- The flags of the pipeline when a frame ends. -/
def State.frameFlagged (s : State) (fr : PpFrame) (clip : Bool) : State :=
  ((if clip then s.flag F.ISP_STAT_CROP_CLIP else s).setFld F.ISP_STAT_BUSY 0).setFld (heldFld fr.port fr.buf) 0

theorem heldFld_ne_stat (p b : Nat) : R.ISP_STAT ≠ (heldFld p b).off := by
  rw [heldFld_off]
  simp only [R.ISP_STAT, R.PP_STAT]
  omega

theorem frameFlagged_fields (s : State) (fr : PpFrame) (clip : Bool) :
    (s.frameFlagged fr clip).bit F.ISP_STAT_BUSY = false ∧ (s.frameFlagged fr clip).bit (heldFld fr.port fr.buf) = false ∧
      (s.frameFlagged fr clip).bit F.ISP_STAT_CROP_CLIP = (s.bit F.ISP_STAT_CROP_CLIP || clip) ∧
      Frame s (s.frameFlagged fr clip) [F.ISP_STAT_BUSY, heldFld fr.port fr.buf, F.ISP_STAT_CROP_CLIP] := by
  have hheld := heldFld_fits fr.port fr.buf
  refine ⟨?_, ?_, ?_, (((Frame.refl s _).ite_flag clip (by simp) (Fld.fits (by rfl))).setFld 0 (by simp) (Fld.fits (by rfl))).setFld 0 (by simp) hheld.1⟩
  · rw [State.frameFlagged, bit_of_rd_eq F.ISP_STAT_BUSY (rd_setFld_ne _ (heldFld fr.port fr.buf) 0 (heldFld_ne_stat _ _))]
    exact bit_setFld_self _ F.ISP_STAT_BUSY 0 (Fld.fits (by rfl)) rfl
  · exact bit_setFld_self _ (heldFld fr.port fr.buf) 0 hheld.1 hheld.2
  · rw [State.frameFlagged, bit_of_rd_eq F.ISP_STAT_CROP_CLIP (rd_setFld_ne _ (heldFld fr.port fr.buf) 0 (heldFld_ne_stat _ _)),
      bit_setFld_apart _ _ (Fld.fits (by rfl)) (.inr (by decide))]
    cases clip with
    | false => rw [if_neg Bool.false_ne_true, Bool.or_false]
    | true =>
      rw [if_pos rfl, Bool.or_true]
      exact bit_setFld_self s F.ISP_STAT_CROP_CLIP 1 (Fld.fits (by rfl)) rfl

/-! ### ISP_FRAME_DONE (R276, R279 to R282) -/

/-- The window of a frame as it is cut (R279). -/
def State.ispWin (s : State) (fr : PpFrame) : Nat × Nat :=
  clipTo (s.ispF (F.ISP_CTX_CROP0_X0 fr.ctx)) (s.ispF (F.ISP_CTX_CROP0_Y0 fr.ctx)) (s.ispF (F.ISP_CTX_CROP1_W fr.ctx)) (s.ispF (F.ISP_CTX_CROP1_H fr.ctx))
    fr.w fr.h (2 ^ s.ispF (F.ISP_CTX_CTL_DS fr.ctx))

/-- Is the window of a frame cut, or below 16 by 16? -/
def State.ispClip (s : State) (fr : PpFrame) (w h : Nat) : Bool :=
  w != s.ispF (F.ISP_CTX_CROP1_W fr.ctx) || h != s.ispF (F.ISP_CTX_CROP1_H fr.ctx) || w < 16 || h < 16

/-- Is a frame skipped? -/
def State.ispSkip (s : State) (w h : Nat) : Bool := s.isp.skip || w < 16 || h < 16

/-- Slots of the context of a frame. -/
def State.ispSlots (s : State) (fr : PpFrame) : Nat := s.ispF (F.ISP_CTX_CTL_NSLOT fr.ctx) + 1

/-- Address of the slot of a frame. -/
def State.slotBase (s : State) (fr : PpFrame) : Nat :=
  64 * s.ispW (R.ISP_CTX_OUTB fr.ctx) + s.fld (F.ISP_CTX_WR_SLOT fr.ctx) % s.ispSlots fr * (64 * s.isp.slot)

/-- Header of the slot of a frame. -/
def State.slotHdr (s : State) (fr : PpFrame) (w h : Nat) : List Byte :=
  frameHdr fr (frameFlags fr (s.ispSkip w h) (s.ispClip fr w h)) w h (2 ^ s.ispF (F.ISP_CTX_CTL_DS fr.ctx))
    (if s.ispSkip w h then 0xFFFFFFFF else s.fld (F.ISP_CTX_WR_SLOT fr.ctx) % s.ispSlots fr)

/-- The notice of a frame. -/
def State.frameNotice (s : State) (fr : PpFrame) (w h : Nat) : HostEntry := .pkt { opc := 0x8060, data := s.slotHdr fr w h }

/-- The state after the capture buffer of a frame was read. -/
def State.ispRead (s : State) (fr : PpFrame) (w h : Nat) : State :=
  if s.ispSkip w h then s else s.ddrRead (s.ppBuf fr.port fr.buf) (fr.w * fr.lines * ppBytes fr.fmt)

/-- The state after the slot of a frame was written. -/
def State.slotWritten (s r : State) (fr : PpFrame) (w h : Nat) : State :=
  if s.ispSkip w h then r
  else (((0, s.slotHdr fr w h ++ zeros 32) :: s.ispOutputs fr w h).foldl (State.slotPut (s.slotBase fr)) r).setFld (F.ISP_CTX_WR_SLOT fr.ctx)
    ((s.fld (F.ISP_CTX_WR_SLOT fr.ctx) + 1) % (2 * s.ispSlots fr))

/-- The fields that a slot's writing may change. -/
def slotFields (fr : PpFrame) (skip : Bool) : List Fld := if skip then [] else F.ISP_CTX_WR_SLOT fr.ctx :: fwdCounts

section FrameDone
variable {s : State} {fr : PpFrame}

theorem frameDone_idle (h : s.isp.frames = [] ∨ s.bit F.ISP_STAT_BUSY = false ∨ s.isp.frames.head?.any (fun fr => fr.ended) = false) :
    Completes .ispFrameDone s (fun v => v = s) := by
  refine completes_of_done (v := s) ?_ rfl
  change execIspFrameDone s = _
  unfold execIspFrameDone
  cases hl : s.isp.frames with
  | nil => rfl
  | cons fr rest =>
    rw [hl] at h
    refine if_pos ?_
    rcases h with h | h | h
    · cases h
    · rw [h]
      rfl
    · rw [show fr.ended = false from h, Bool.not_false, Bool.or_true]

theorem exec_frameDone {w h : Nat} (hwin : s.ispWin fr = (w, h)) (hhead : s.isp.frames.head? = some fr) (hbusy : s.bit F.ISP_STAT_BUSY = true)
    (hend : fr.ended = true) :
    exec .ispFrameDone s = done s ((((s.slotWritten (s.ispRead fr w h) fr w h).frameFlagged fr (s.ispClip fr w h)).frameLeft s.isp.frames.tail
      (fr.w * fr.lines * ppBytes fr.fmt)).postOrDrop (s.fld F.ISP_CTL_QID) (s.frameNotice fr w h)) := by
  obtain ⟨rest, hframes⟩ : ∃ rest, s.isp.frames = fr :: rest := by
    cases hl : s.isp.frames with
    | nil => simp [hl] at hhead
    | cons x xs => exact ⟨xs, by simpa [hl] using hhead⟩
  have hclip : s.ispClip fr w h = (w != s.ispF (F.ISP_CTX_CROP1_W fr.ctx) || h != s.ispF (F.ISP_CTX_CROP1_H fr.ctx) || (w < 16 || h < 16)) := Bool.or_assoc _ _ _
  have hskip : s.ispSkip w h = (s.isp.skip || (w < 16 || h < 16)) := Bool.or_assoc _ _ _
  unfold State.ispWin at hwin
  unfold State.frameNotice
  change execIspFrameDone s = _
  unfold execIspFrameDone
  rw [hframes]
  dsimp only
  rw [if_neg (by rw [hbusy, hend]; decide), hwin]
  dsimp only
  rw [← hclip, ← hskip]
  unfold State.slotWritten State.ispRead
  by_cases hs : s.ispSkip w h = true
  · simp only [hs, if_true, State.slotHdr]
    rfl
  · simp only [hs, Bool.false_eq_true, if_false, State.slotHdr, List.foldl_cons]
    rfl

theorem length_frameHdr (fr : PpFrame) (flags w h ds slot : Nat) : (frameHdr fr flags w h ds slot).length = 32 := by
  simp only [frameHdr, List.length_append, length_leBytes, zeros, List.length_replicate]

theorem length_slotHdr (s : State) (fr : PpFrame) (w h : Nat) : (s.slotHdr fr w h ++ zeros 32).length = 64 := by
  rw [List.length_append, State.slotHdr, length_frameHdr]
  rfl

theorem ispRead_lines (s : State) (fr : PpFrame) (w h : Nat) : LinesRead s (s.ispRead fr w h) := by
  unfold State.ispRead
  split
  · exact LinesRead.refl s
  · exact linesRead_ddrRead s _ _

theorem LinesRead.inDdr_eq {r : State} (h : LinesRead s r) (a n : Nat) : r.inDdr a n = s.inDdr a n := by
  rw [State.inDdr, State.inDdr, bit_of_rd_eq F.DMC_INSTALLED_VALID h.size, fld_of_rd_eq F.DMC_INSTALLED_MIB h.size]

theorem LinesRead.contains {r : State} (h : LinesRead s r) {l : Nat} (hl : s.poison.contains l = false) : r.poison.contains l = false := by
  rw [Bool.eq_false_iff] at hl ⊢
  exact fun hc => hl (List.contains_iff_mem.mpr (h.clean l (List.contains_iff_mem.mp hc)))

/-- Bytes that a slot takes. -/
def State.slotBytes (s : State) (fr : PpFrame) (w h : Nat) : Nat :=
  (slotParts (if ppBayer fr.fmt then 3 else 1) w h (2 ^ s.ispF (F.ISP_CTX_CTL_DS fr.ctx)) (s.ispF (F.ISP_CTX_CTL_OUT_EN fr.ctx))).sum

theorem slotWritten_stores {w h : Nat} {r : State} (hr : LinesRead s r)
    (hclean : (lineRange (s.slotBase fr) (s.slotBytes fr w h)).all (fun l => !s.poison.contains l) = true) :
    Frame { r with ddr := (s.slotWritten r fr w h).ddr } (s.slotWritten r fr w h) (slotFields fr (s.ispSkip w h)) ∧
      (∀ x, x < s.slotBase fr ∨ s.slotBase fr + (if s.ispSkip w h then 0 else s.slotBytes fr w h) ≤ x →
        memGet (s.slotWritten r fr w h).ddr x = memGet r.ddr x) ∧
      (s.ispSkip w h = false → ∀ p ∈ (0, s.slotHdr fr w h ++ zeros 32) :: s.ispOutputs fr w h, s.inDdr (s.slotBase fr + p.1) p.2.length = true →
        memRange (s.slotWritten r fr w h).ddr (s.slotBase fr + p.1) p.2.length = p.2) ∧
      (s.ispSkip w h = false → (s.slotWritten r fr w h).fld (F.ISP_CTX_WR_SLOT fr.ctx) =
        (s.fld (F.ISP_CTX_WR_SLOT fr.ctx) + 1) % (2 * s.ispSlots fr) % 2 ^ (F.ISP_CTX_WR_SLOT fr.ctx).w) := by
  cases hs : s.ispSkip w h with
  | true =>
    simp only [State.slotWritten, hs, if_true]
    exact ⟨Frame.refl _ _, fun _ _ => trivial, fun hf => (Bool.noConfusion hf), fun hf => (Bool.noConfusion hf)⟩
  | false =>
    have hparts := partsIn_slot s fr w h (length_slotHdr s fr w h)
    have hpoison : ∀ l ∈ lineRange (s.slotBase fr) (s.slotBytes fr w h), r.poison.contains l = false := fun l hl =>
      hr.contains (by simpa using List.all_eq_true.mp hclean l hl)
    obtain ⟨hf, hout, hat⟩ := foldl_slotPut (base := s.slotBase fr) hparts hpoison
    simp only [State.slotWritten, hs, Bool.false_eq_true, if_false]
    generalize hx : ((0, s.slotHdr fr w h ++ zeros 32) :: s.ispOutputs fr w h).foldl (State.slotPut (s.slotBase fr)) r = x at *
    refine ⟨?_, fun y hy => hout y fun p hp => ?_, fun _ p hp hin => hat p hp ((hr.inDdr_eq _ _).trans hin), fun _ => fld_setFld_self _ _ _ (Fld.fits (by rfl))⟩
    · exact (Frame.append hf [F.ISP_CTX_WR_SLOT fr.ctx]).setFld (f := F.ISP_CTX_WR_SLOT fr.ctx) _ (by simp) (Fld.fits (by rfl))
    · have hin := (hparts.inside p hp).2
      rcases hy with hy | hy
      · exact .inl (by omega)
      · exact .inr (by unfold State.slotBytes at hy; omega)

/-- Registers that the writing of a slot leaves alone. -/
theorem fieldBits_slotFields {fr : PpFrame} {skip : Bool} {off : Nat} (h1 : off ≠ R.ISP_CTX_WR fr.ctx) (h2 : blockOf off ≠ some .dmc) :
    fieldBits (slotFields fr skip) off = 0 := by
  refine fieldBits_eq_zero fun f hf he => ?_
  cases skip with
  | true => exact absurd hf List.not_mem_nil
  | false =>
    rcases List.mem_cons.mp hf with rfl | hf
    · exact h1 he.symm
    · exact h2 (he ▸ (fwdCounts_fits hf).2)

/-- The fields that the end of a frame may change. -/
def State.doneFields (s : State) (fr : PpFrame) (skip : Bool) : List Fld :=
  [F.HQ_TAIL_OFS (32 + s.fld F.ISP_CTL_QID), F.HQ_STAT_FULL (32 + s.fld F.ISP_CTL_QID), F.HQ_STAT_DROP (32 + s.fld F.ISP_CTL_QID),
    F.HQ_STAT_DROP_CNT (32 + s.fld F.ISP_CTL_QID), F.HQ_STAT_SAT (32 + s.fld F.ISP_CTL_QID), whole (R.MSIX_PBA 0), whole (R.MSIX_PBA 1), F.ISP_STAT_BUSY,
    heldFld fr.port fr.buf, F.ISP_STAT_CROP_CLIP] ++ slotFields fr skip

/-- A frame from a state whose frame has left the list is one of the store into its slot. -/
theorem frameStore_of_left {r u : State} {d : List Host.Cell} {l : List PpFrame} {k a n : Nat} {fs : List Fld}
    (hf : QueueFrame ((r.withDdr d).frameLeft l k) u fs) (hm : ∀ x, x < a ∨ a + n ≤ x → memGet u.ddr x = memGet r.ddr x) :
    u.isp.frames = l ∧ FrameStore { r with freeCtr := u.freeCtr, isp := { r.isp with frames := u.isp.frames, work := [], skip := false }, hq := u.hq, out := u.out }
      u a n fs := by
  have hctr : u.freeCtr = r.freeCtr + k := (congrArg State.freeCtr hf.rest :)
  have hl : u.isp.frames = l := (congrArg (fun x : State => x.isp.frames) hf.rest :)
  rw [hctr, hl]
  exact ⟨rfl, hf.regs, hm, hf.rest⟩

theorem frameDone_ends {w h : Nat} (hwin : s.ispWin fr = (w, h)) (hhead : s.isp.frames.head? = some fr) (hbusy : s.bit F.ISP_STAT_BUSY = true)
    (hend : fr.ended = true) (hclean : (lineRange (s.slotBase fr) (s.slotBytes fr w h)).all (fun l => !s.poison.contains l) = true) :
    Completes .ispFrameDone s (fun u => u.hq.posted = (s.ispRead fr w h).hq.posted ++
        (if (s.ispRead fr w h).hasRoom (s.fld F.ISP_CTL_QID) (s.frameNotice fr w h).ringBytes then [(s.fld F.ISP_CTL_QID, s.frameNotice fr w h)] else []) ∧
      u.bit F.ISP_STAT_BUSY = false ∧ u.bit (heldFld fr.port fr.buf) = false ∧ u.isp.frames = s.isp.frames.tail ∧
      u.bit F.ISP_STAT_CROP_CLIP = (s.bit F.ISP_STAT_CROP_CLIP || s.ispClip fr w h) ∧
      (s.ispSkip w h = false → ∀ p ∈ (0, s.slotHdr fr w h ++ zeros 32) :: s.ispOutputs fr w h, s.inDdr (s.slotBase fr + p.1) p.2.length = true →
        u.memRead (s.slotBase fr + p.1) p.2.length = p.2) ∧
      (s.ispSkip w h = false → u.fld (F.ISP_CTX_WR_SLOT fr.ctx) =
        (s.fld (F.ISP_CTX_WR_SLOT fr.ctx) + 1) % (2 * s.ispSlots fr) % 2 ^ (F.ISP_CTX_WR_SLOT fr.ctx).w) ∧
      FrameStore { s.ispRead fr w h with
          freeCtr := u.freeCtr
          isp := { (s.ispRead fr w h).isp with frames := u.isp.frames, work := [], skip := false }
          hq := u.hq
          out := u.out }
        u (s.slotBase fr) (if s.ispSkip w h then 0 else s.slotBytes fr w h) (s.doneFields fr (s.ispSkip w h))) := by
  have hx := exec_frameDone hwin hhead hbusy hend
  have hr := ispRead_lines s fr w h
  obtain ⟨hxf, hout, hat, hwr⟩ := slotWritten_stores hr hclean
  generalize hrg : s.ispRead fr w h = r at *
  generalize hxg : s.slotWritten r fr w h = x at *
  obtain ⟨hb, hheld, hclip, hyf⟩ := frameFlagged_fields x fr (s.ispClip fr w h)
  generalize hyg : x.frameFlagged fr (s.ispClip fr w h) = y at *
  have hq : s.fld F.ISP_CTL_QID < 32 := fld_lt s F.ISP_CTL_QID
  obtain ⟨hposted, hu⟩ := postOrDrop_fields (y.frameLeft s.isp.frames.tail (fr.w * fr.lines * ppBytes fr.fmt)) (s.fld F.ISP_CTL_QID) (s.frameNotice fr w h)
  refine completes_of_done hx ?_
  generalize (y.frameLeft s.isp.frames.tail (fr.w * fr.lines * ppBytes fr.fmt)).postOrDrop (s.fld F.ISP_CTL_QID) (s.frameNotice fr w h) = u at *
  have hrdu : ∀ off, 0x03000000 ≤ off → u.rd off = y.rd off := fun off ho => hu.rd (fieldBits_dropFields hq ho)
  have hrdy : ∀ off, off ≠ R.ISP_STAT → off ≠ R.PP_STAT fr.port → y.rd off = x.rd off := fun off h1 h2 => hyf.rd (fieldBits_eq_zero fun f hf he => by
    simp only [List.mem_cons, List.not_mem_nil, or_false] at hf
    rcases hf with rfl | rfl | rfl
    · exact h1 he.symm
    · exact h2 (he ▸ heldFld_off _ _)
    · exact h1 he.symm)
  have hrdx : ∀ off, off ≠ R.ISP_CTX_WR fr.ctx → blockOf off ≠ some .dmc → x.rd off = r.rd off := fun off h1 h2 => hxf.rd (fieldBits_slotFields h1 h2)
  have hheldoff : 0x03000000 ≤ (heldFld fr.port fr.buf).off := by
    rw [heldFld_off, R.PP_STAT]
    omega
  have hstore : QueueFrame ((r.withDdr x.ddr).frameLeft s.isp.frames.tail (fr.w * fr.lines * ppBytes fr.fmt)) u (s.doneFields fr (s.ispSkip w h)) := by
    have hxy : Frame (r.withDdr x.ddr) y (s.doneFields fr (s.ispSkip w h)) :=
      (Frame.mono hxf (by simp +contextual [State.doneFields])).trans (hyf.mono (by simp [State.doneFields]))
    exact (hxy.frameLeft _ _).toQueue.trans (hu.mono (by simp +contextual [dropFields, State.doneFields]))
  have hmem : ∀ a, memGet u.ddr a = memGet x.ddr a := hstore.mem
  obtain ⟨hframes, hframe⟩ := frameStore_of_left hstore (fun a ha => (hmem a).trans (hout a ha))
  refine ⟨?posted, ?busy, ?held, hframes, ?clip, fun hs p hp hin => ?_, fun hs => ?_, hframe⟩
  case posted =>
    have hhq : y.hq = r.hq := (congrArg State.hq hyf.rest :).trans (congrArg State.hq hxf.rest :)
    have hroom : (y.frameLeft s.isp.frames.tail (fr.w * fr.lines * ppBytes fr.fmt)).hasRoom (s.fld F.ISP_CTL_QID) (s.frameNotice fr w h).ringBytes =
        r.hasRoom (s.fld F.ISP_CTL_QID) (s.frameNotice fr w h).ringBytes := by
      refine hasRoom_congr hq (congrArg HostqS.slots hhq) (fun off hlo hhi => ?_) _
      have hbelow : ∀ o, 0x00300000 ≤ o → off ≠ o := fun o ho => by omega
      exact (hrdy off (hbelow _ (by decide)) (hbelow _ (by simp only [R.PP_STAT]; omega))).trans
        (hrdx off (hbelow _ (by simp only [R.ISP_CTX_WR]; omega)) (by rw [blockOf_hostq hlo (by omega)]; decide))
    rw [hroom] at hposted
    exact hposted.trans (congrArg (· ++ _) (congrArg HostqS.posted hhq))
  case busy => exact (bit_of_rd_eq F.ISP_STAT_BUSY (hrdu _ (by decide))).trans hb
  case held => exact (bit_of_rd_eq (heldFld fr.port fr.buf) (hrdu _ hheldoff)).trans hheld
  case clip =>
    rw [bit_of_rd_eq F.ISP_STAT_CROP_CLIP (hrdu R.ISP_STAT (by decide)), hclip]
    have hrd : x.rd R.ISP_STAT = s.rd R.ISP_STAT :=
      (hrdx R.ISP_STAT (ispStat_ne fr.ctx 0x34).symm (by decide)).trans (hr.regs R.ISP_STAT (by decide))
    rw [bit_of_rd_eq F.ISP_STAT_CROP_CLIP hrd]
  · rw [State.memRead, memRange_congr hmem]
    exact hat hs p hp hin
  · refine (fld_of_rd_eq (F.ISP_CTX_WR_SLOT fr.ctx) ((hrdu (R.ISP_CTX_WR fr.ctx) ?_).trans (hrdy _ ?_ ?_))).trans (hwr hs)
    · simp only [R.ISP_CTX_WR]
      omega
    · exact ispStat_ne fr.ctx 0x34
    · simp only [R.ISP_CTX_WR, R.PP_STAT]
      omega

end FrameDone

/-- Settles O39, from the window writes, the take-up, and the parts that the end of a frame stores one after the other in its slot. -/
theorem imagePipelineTakesFrames : Obligations.ImagePipelineTakesFrames := by
  unfold Obligations.ImagePipelineTakesFrames
  refine ⟨?taken, ?refused, fun s h => takeup_idle h, fun s fr hhead hen hidle c hc => takeup_runs hhead hen hidle hc, fun s h => frameDone_idle h, ?ends⟩
  case taken =>
    intro c second val s a b h
    exact ispCropWrite_taken (second := second) h
  case refused =>
    intro c second val s a b h
    have hx := exec_ispCropWrite c second val s
    rw [show s.windowFits c second val = false from h, if_neg Bool.false_ne_true] at hx
    exact completes_of_done hx rfl
  case ends =>
    intro s fr hhead hbusy hend c ds x0 y0 w0 h0 fits w h clip skip ns wr base size hdr q e r hclean
    have hwin : s.ispWin fr = (w, h) := by
      by_cases hf : fits
      · simp only [w, h, if_pos hf]
        exact if_pos hf
      · simp only [w, h, if_neg hf]
        exact if_neg hf
    obtain ⟨u, hx, hposted, hb, hheld, hframes, hclip, hat, hwr, hframe⟩ := frameDone_ends hwin hhead hbusy hend hclean
    refine ⟨u, hx, hposted, hb, hheld, hframes, hclip, fun hs hin => ?_, fun hs p hp => hat hs p (List.mem_cons_of_mem _ hp), hwr, hframe⟩
    have hhdr := hat hs _ List.mem_cons_self
    rw [length_slotHdr, Nat.add_zero] at hhdr
    exact hhdr hin

end Sys2Proof.Machine
end
section
/-!
PROOFS. The pair protocol: heartbeats, claims, demotion and handover (R429 to R437).
-/
namespace Sys2Proof.Machine

/-! ### The claim line (R431, R432) -/

/-- What FLT and the trace hold after GEN changed. -/
def State.genTold (s : State) (gen : Nat) : State :=
  { s with
    flt := { s.flt with gen := gen }
    out := s.out ++ claimOut s (s.claimOf gen) }

theorem claimOf_lt (s : State) {gen : Nat} (h : gen ≤ 127) : s.claimOf gen < 256 := by
  have hrank : s.fld F.FLT_PAIR_CFG_RANK < 2 := fld_lt s F.FLT_PAIR_CFG_RANK
  unfold State.claimOf
  omega

/-- GEN changes: the own claim number shows it, and the claim line tells it. -/
theorem setGen_eq (s : State) {gen : Nat} (h : gen ≤ 127) : s.setGen gen = (s.genTold gen).setFld F.FLT_PAIR_STAT_OWN_C (s.claimOf gen) := by
  have hown : (s.setFld F.FLT_PAIR_STAT_OWN_C (s.claimOf gen)).fld F.FLT_PAIR_STAT_OWN_C = s.claimOf gen := by
    rw [fld_setFld_self _ _ _ (Fld.fits (by rfl))]
    exact Nat.mod_eq_of_lt (claimOf_lt s h)
  have hpair : (s.setFld F.FLT_PAIR_STAT_OWN_C (s.claimOf gen)).bit F.FLT_PAIR_CFG_PAIR_EN = s.bit F.FLT_PAIR_CFG_PAIR_EN :=
    bit_setFld_apart _ _ (Fld.fits (by rfl)) (.inl (by decide))
  have hfatal : (s.setFld F.FLT_PAIR_STAT_OWN_C (s.claimOf gen)).bit F.FLT_STAT_FATAL = s.bit F.FLT_STAT_FATAL :=
    bit_setFld_apart _ _ (Fld.fits (by rfl)) (.inl (by decide))
  change ((s.modFlt _).setFld F.FLT_PAIR_STAT_OWN_C (s.claimOf gen)).emit (.claim (if
    (s.setFld F.FLT_PAIR_STAT_OWN_C (s.claimOf gen)).bit F.FLT_PAIR_CFG_PAIR_EN && !(s.setFld F.FLT_PAIR_STAT_OWN_C (s.claimOf gen)).bit F.FLT_STAT_FATAL then
    some (claimBits ((s.setFld F.FLT_PAIR_STAT_OWN_C (s.claimOf gen)).fld F.FLT_PAIR_STAT_OWN_C)) else none)) = _
  rw [hown, hpair, hfatal, emit_eq]
  change { s with flt := _, regs := _, out := s.out ++ (if s.scanDrives && true then [] else _) } = _
  rw [Bool.and_true]
  rfl

theorem setGen_own (s : State) {gen : Nat} (h : gen ≤ 127) : (s.setGen gen).fld F.FLT_PAIR_STAT_OWN_C = s.claimOf gen := by
  rw [setGen_eq s h, fld_setFld_self _ _ _ (Fld.fits (by rfl))]
  exact Nat.mod_eq_of_lt (claimOf_lt s h)

theorem setGen_frame (s : State) {gen : Nat} (h : gen ≤ 127) {fs : List Fld} (hf : F.FLT_PAIR_STAT_OWN_C ∈ fs) : Frame (s.genTold gen) (s.setGen gen) fs := by
  rw [setGen_eq s h]
  exact (Frame.refl _ fs).setFld _ hf (Fld.fits (by rfl))

/-! ### Commands that the pair's state decides (R431, R435 to R437) -/

theorem genLower_completes (s : State) : Completes .genLower s (fun v =>
    if s.primary = true ∧ 1 < s.flt.gen ∧ s.bit F.FLT_PAIR_STAT_PEER_VALID = true ∧ s.fld F.FLT_PAIR_STAT_PEER_C < 2
    then v.fld F.FLT_PAIR_STAT_OWN_C = 2 + s.fld F.FLT_PAIR_CFG_RANK ∧
      Frame { s with out := s.out ++ claimOut s (2 + s.fld F.FLT_PAIR_CFG_RANK), flt := { s.flt with gen := 1 } } v [F.FLT_PAIR_STAT_OWN_C] else v = s) := by
  have hiff : (s.primary && 1 < s.flt.gen && s.bit F.FLT_PAIR_STAT_PEER_VALID && s.fld F.FLT_PAIR_STAT_PEER_C < 2) = true ↔
      s.primary = true ∧ 1 < s.flt.gen ∧ s.bit F.FLT_PAIR_STAT_PEER_VALID = true ∧ s.fld F.FLT_PAIR_STAT_PEER_C < 2 := by
    simp only [Bool.and_eq_true, decide_eq_true_eq, and_assoc]
  by_cases h : s.primary = true ∧ 1 < s.flt.gen ∧ s.bit F.FLT_PAIR_STAT_PEER_VALID = true ∧ s.fld F.FLT_PAIR_STAT_PEER_C < 2
  · refine completes_of_done (v := s.setGen 1) (if_pos (hiff.mpr h)) ?_
    rw [if_pos h]
    exact ⟨setGen_own s (by decide), setGen_frame s (by decide) List.mem_cons_self⟩
  · refine completes_of_done (v := s) (if_neg (hiff.not.mpr h)) ?_
    rw [if_neg h]

theorem promote_completes (s : State) : Completes .promote s (fun v =>
    if s.primary = true ∨ (s.bit F.FLT_PAIR_STAT_PEER_VALID = true ∧ 2 ≤ s.fld F.FLT_PAIR_STAT_PEER_C) then v = { s with lastStatus := 0x40 }
    else v.fld F.FLT_PAIR_STAT_OWN_C = 2 + s.fld F.FLT_PAIR_CFG_RANK ∧ v.primary = true ∧
      Frame { s with lastStatus := 0, out := s.out ++ claimOut s (2 + s.fld F.FLT_PAIR_CFG_RANK), flt := { s.flt with gen := 1 } } v
        [F.FLT_PAIR_STAT_OWN_C, F.FLT_PAIR_STAT_ROLE]) := by
  have hiff : (!s.primary && !(s.bit F.FLT_PAIR_STAT_PEER_VALID && 2 ≤ s.fld F.FLT_PAIR_STAT_PEER_C)) = true ↔
      ¬ (s.primary = true ∨ (s.bit F.FLT_PAIR_STAT_PEER_VALID = true ∧ 2 ≤ s.fld F.FLT_PAIR_STAT_PEER_C)) := by
    simp only [Bool.and_eq_true, Bool.not_eq_true', Bool.and_eq_false_iff, decide_eq_false_iff_not, not_or, not_and_or, Bool.not_eq_true]
  refine completes_of_done (v := s.promote) rfl ?_
  by_cases h : s.primary = true ∨ (s.bit F.FLT_PAIR_STAT_PEER_VALID = true ∧ 2 ≤ s.fld F.FLT_PAIR_STAT_PEER_C)
  · rw [if_pos h]
    exact if_neg (hiff.not.mpr (not_not.mpr h))
  · rw [if_neg h, show s.promote = ((s.setGen 1).flag F.FLT_PAIR_STAT_ROLE).status 0 from if_pos (hiff.mpr h)]
    refine ⟨?_, bit_setFld_self (s.setGen 1) F.FLT_PAIR_STAT_ROLE 1 (Fld.fits (by rfl)) rfl, ?_⟩
    · exact (fld_setFld_apart (s.setGen 1) (f := F.FLT_PAIR_STAT_ROLE) 1 (Fld.fits (by rfl)) (.inr (by decide))).trans (setGen_own s (by decide))
    · exact ((setGen_frame s (gen := 1) (by decide) (by simp)).flag (by simp) (Fld.fits (by rfl))).withStatus 0

theorem handover_completes (s : State) : Completes .handover s (fun v =>
    v = if s.primary = true ∧ bitN s.flt.peerFl 1 = true then { s with lastStatus := 0, flt := { s.flt with handover := true } } else { s with lastStatus := 0x40 }) := by
  refine completes_of_done (v := s.handover) rfl ?_
  rw [State.handover]
  simp only [Bool.and_eq_true]
  rfl

theorem frostEnd_completes (s : State) : Completes .frostEnd s (fun v => if s.bit F.FLT_STAT_FATAL then v = s
    else v.bit F.FLT_STAT_FROST = false ∧ Frame s v [F.FLT_STAT_FROST]) := by
  cases h : s.bit F.FLT_STAT_FATAL with
  | true => exact completes_of_done (v := s) (if_pos h) rfl
  | false =>
    exact completes_of_done (v := s.setFld F.FLT_STAT_FROST 0) (if_neg (by rw [h]; decide))
      ⟨bit_setFld_self s F.FLT_STAT_FROST 0 (Fld.fits (by rfl)) rfl, (Frame.refl s _).setFld 0 (by simp) (Fld.fits (by rfl))⟩

theorem demote_idle {s : State} (h : s.primary = false ∨ s.bit F.FLT_PAIR_STAT_PEER_VALID = false ∨ s.fld F.FLT_PAIR_STAT_PEER_C < 2 ∨
    s.fld F.FLT_PAIR_STAT_PEER_C ≤ s.fld F.FLT_PAIR_STAT_OWN_C) : Completes .demote s (fun v => v = s) := by
  refine completes_of_done (v := s) (if_neg ?_) rfl
  simp only [Bool.and_eq_true, decide_eq_true_eq]
  rintro ⟨⟨⟨h1, h2⟩, h3⟩, h4⟩
  rcases h with h | h | h | h
  · exact Bool.noConfusion (h.symm.trans h1)
  · exact Bool.noConfusion (h.symm.trans h2)
  · omega
  · omega

/-- The state of a primary that gave its role up, before the record of it. -/
def State.demoted (s : State) : State :=
  ((((s.setGen 0).setFld F.FLT_PAIR_STAT_ROLE 0).setFld F.FLT_PAIR_STAT_SYNC 0).cmpOff).modFlt
    (fun x => { x with demoted := true, handover := false, resync := ResyncS.none })

theorem Frame.withFlt {s v : State} {fs : List Fld} (h : Frame s v fs) (x : FltS) : Frame { s with flt := x } { v with flt := x } fs :=
  h.of_eq rfl rfl rfl rfl rfl rfl (congrArg (fun y : State => { y with flt := x }) h.rest)

theorem demote_completes {s : State} (h1 : s.primary = true) (h2 : s.bit F.FLT_PAIR_STAT_PEER_VALID = true) (h3 : 2 ≤ s.fld F.FLT_PAIR_STAT_PEER_C)
    (h4 : s.fld F.FLT_PAIR_STAT_OWN_C < s.fld F.FLT_PAIR_STAT_PEER_C) :
    Completes .demote s (After (fun u => u.pairFault 0x03) (fun u => u.fld F.FLT_PAIR_STAT_ROLE = 0 ∧ u.fld F.FLT_PAIR_STAT_SYNC = 0 ∧
      u.fld F.FLT_PAIR_STAT_OWN_C = s.fld F.FLT_PAIR_CFG_RANK ∧
      Frame { s with out := s.out ++ claimOut s (s.fld F.FLT_PAIR_CFG_RANK), flt := { s.flt with gen := 0, demoted := true, handover := false, resync := ResyncS.none, cmpOn := false, own := [], peer := [] } } u
        [F.FLT_PAIR_STAT_ROLE, F.FLT_PAIR_STAT_SYNC, F.FLT_PAIR_STAT_OWN_C])) := by
  have hrank : s.claimOf 0 = s.fld F.FLT_PAIR_CFG_RANK := by rw [State.claimOf, Nat.mul_zero, Nat.zero_add]
  refine completes_of_done (v := s.demoted.pairFault 0x03) (if_pos (by simp [h1, h2, h3, h4])) ⟨_, rfl, ?_, ?_, ?_, ?_⟩
  · refine (fld_setFld_apart _ (f := F.FLT_PAIR_STAT_SYNC) 0 (Fld.fits (by rfl)) (.inr (by decide))).trans ?_
    rw [fld_setFld_self _ _ _ (Fld.fits (by rfl))]
    rfl
  · refine (fld_setFld_self _ F.FLT_PAIR_STAT_SYNC 0 (Fld.fits (by rfl))).trans rfl
  · refine (fld_setFld_apart _ (f := F.FLT_PAIR_STAT_SYNC) 0 (Fld.fits (by rfl)) (.inr (by decide))).trans ?_
    rw [fld_setFld_apart _ _ (Fld.fits (by rfl)) (.inr (by decide)), setGen_own s (by decide), hrank]
  · have hf := (((setGen_frame s (gen := 0) (fs := [F.FLT_PAIR_STAT_ROLE, F.FLT_PAIR_STAT_SYNC, F.FLT_PAIR_STAT_OWN_C]) (by decide) (by simp)).setFld
      (f := F.FLT_PAIR_STAT_ROLE) 0 (by simp) (Fld.fits (by rfl))).setFld (f := F.FLT_PAIR_STAT_SYNC) 0 (by simp) (Fld.fits (by rfl))).withFlt
      { s.flt with gen := 0, demoted := true, handover := false, resync := ResyncS.none, cmpOn := false, own := [], peer := [] }
    have hflt : (s.setGen 0).flt = { s.flt with gen := 0 } := congrArg State.flt (setGen_eq s (by decide))
    have hlast : s.demoted = { ((s.setGen 0).setFld F.FLT_PAIR_STAT_ROLE 0).setFld F.FLT_PAIR_STAT_SYNC 0 with
        flt := { (s.setGen 0).flt with demoted := true, handover := false, resync := ResyncS.none, cmpOn := false, own := [], peer := [] } } := rfl
    rw [← hrank, hlast, hflt]
    exact hf

/-! ### Claim words (R432, R434) -/

theorem claimFrame_completes (a b : BitVec 8) (ack : Option (BitVec 12)) (s : State) :
    Completes (.claimFrame a b ack) s (fun v => v = s.npAck (s.fld F.FLT_PAIR_CFG_PORT) ack) :=
  completes_of_done (v := s.npAck (s.fld F.FLT_PAIR_CFG_PORT) ack) rfl rfl

theorem fieldN_extract (w : BitVec 16) (lo n : Nat) : fieldN w.toNat lo n = (w.extractLsb' lo n).toNat := by
  rw [BitVec.extractLsb'_toNat, Nat.shiftRight_eq_div_pow]
  rfl

/-- The check of a claim word, as bit strings have it. -/
theorem claimCheck_eq (c : BitVec 8) : Nat.xor (Nat.xor (c.toNat / 16) (c.toNat % 16)) 5 = (c.extractLsb' 4 4 ^^^ c.extractLsb' 0 4 ^^^ 5#4).toNat := by
  have hc := c.isLt
  rw [BitVec.toNat_xor, BitVec.toNat_xor, BitVec.extractLsb'_toNat, BitVec.extractLsb'_toNat, Nat.shiftRight_eq_div_pow, Nat.shiftRight_eq_div_pow,
    Nat.mod_eq_of_lt (show c.toNat / 2 ^ 4 < 2 ^ 4 by omega), pow_zero, Nat.div_one]
  rfl

/-- A word is a claim word where its sync and its check hold. -/
theorem claimWord_eq (w : BitVec 16) : claimWord w.toNat =
    if w.extractLsb' 12 4 = 0xA#4 ∧ w.extractLsb' 0 4 = (w.extractLsb' 4 8).extractLsb' 4 4 ^^^ (w.extractLsb' 4 8).extractLsb' 0 4 ^^^ 5#4 then
      some (w.extractLsb' 4 8).toNat else none := by
  unfold claimWord
  simp only [fieldN_extract, claimCheck_eq, ← BitVec.toNat_inj]
  rfl

theorem dclRdWord_valid (c : BitVec 8) (s : State) : Completes (.dclRdWord (some (0xA#4 ++ c ++ (c.extractLsb' 4 4 ^^^ c.extractLsb' 0 4 ^^^ 5#4)))) s (fun v =>
    v.bit F.FLT_PAIR_STAT_PEER_VALID = true ∧ v.fld F.FLT_PAIR_STAT_PEER_C = c.toNat ∧
    Frame s v [F.FLT_PAIR_STAT_PEER_VALID, F.FLT_PAIR_STAT_PEER_C]) := by
  have hword : ∀ k : BitVec 4, (0xA#4 ++ c ++ k).extractLsb' 12 4 = 0xA#4 ∧ (0xA#4 ++ c ++ k).extractLsb' 0 4 = k ∧ (0xA#4 ++ c ++ k).extractLsb' 4 8 = c := by
    intro k
    have hbit : ∀ i, (0xA#4 ++ c ++ k).getLsbD i = if i < 4 then k.getLsbD i else if i - 4 < 8 then c.getLsbD (i - 4) else (0xA#4).getLsbD (i - 4 - 8) := fun i =>
      (BitVec.getLsbD_append (x := 0xA#4 ++ c) (y := k)).trans (by rw [BitVec.getLsbD_append])
    refine ⟨BitVec.eq_of_getLsbD_eq fun i hi => ?_, BitVec.eq_of_getLsbD_eq fun i hi => ?_, BitVec.eq_of_getLsbD_eq fun i hi => ?_⟩ <;>
      rw [BitVec.getLsbD_extractLsb', decide_eq_true hi, Bool.true_and, hbit]
    · rw [if_neg (by omega), if_neg (by omega), show 12 + i - 4 - 8 = i by omega]
    · rw [Nat.zero_add, if_pos hi]
    · rw [if_neg (by omega), Nat.add_sub_cancel_left, if_pos hi]
  obtain ⟨h1, h2, h3⟩ := hword (c.extractLsb' 4 4 ^^^ c.extractLsb' 0 4 ^^^ 5#4)
  have hclaim : claimWord (0xA#4 ++ c ++ (c.extractLsb' 4 4 ^^^ c.extractLsb' 0 4 ^^^ 5#4)).toNat = some c.toNat := by
    rw [claimWord_eq, h1, h2, h3, if_pos ⟨rfl, rfl⟩]
  refine completes_of_done (v := (s.flag F.FLT_PAIR_STAT_PEER_VALID).setFld F.FLT_PAIR_STAT_PEER_C c.toNat) ?_ ⟨?_, ?_, ?_⟩
  · change execDclRdWord _ s = _
    unfold execDclRdWord
    rw [Option.bind_some, hclaim]
  · rw [bit_setFld_apart _ _ (Fld.fits (by rfl)) (.inr (by decide))]
    exact bit_setFld_self s F.FLT_PAIR_STAT_PEER_VALID 1 (Fld.fits (by rfl)) rfl
  · rw [fld_setFld_self _ _ _ (Fld.fits (by rfl))]
    exact Nat.mod_eq_of_lt c.isLt
  · exact ((Frame.refl s _).flag (by simp) (Fld.fits (by rfl))).setFld _ (by simp) (Fld.fits (by rfl))

theorem dclRdWord_invalid (w : BitVec 16) (b : Bool) (s : State)
    (h : w.extractLsb' 12 4 ≠ 0xA#4 ∨ w.extractLsb' 0 4 ≠ w.extractLsb' 8 4 ^^^ w.extractLsb' 4 4 ^^^ 5#4) :
    Completes (.dclRdWord (if b then some w else none)) s (fun v => v.bit F.FLT_PAIR_STAT_PEER_VALID = false ∧ Frame s v [F.FLT_PAIR_STAT_PEER_VALID]) := by
  have hhi : (w.extractLsb' 4 8).extractLsb' 4 4 = w.extractLsb' 8 4 := BitVec.eq_of_getLsbD_eq fun i hi => by
    simp [hi, show 4 + i < 8 by omega, show 4 + (4 + i) = 8 + i by omega]
  have hlo : (w.extractLsb' 4 8).extractLsb' 0 4 = w.extractLsb' 4 4 := BitVec.eq_of_getLsbD_eq fun i hi => by
    simp [hi, show i < 8 by omega]
  have hclaim : claimWord w.toNat = none := by
    rw [claimWord_eq, hhi, hlo, if_neg (by rwa [not_and_or])]
  refine completes_of_done (v := s.setFld F.FLT_PAIR_STAT_PEER_VALID 0) ?_
    ⟨bit_setFld_self s F.FLT_PAIR_STAT_PEER_VALID 0 (Fld.fits (by rfl)) rfl, (Frame.refl s _).setFld 0 (by simp) (Fld.fits (by rfl))⟩
  change execDclRdWord _ s = _
  unfold execDclRdWord
  cases b with
  | true => rw [if_pos rfl, Option.bind_some, hclaim]
  | false => rfl

/-! ### HEARTBEAT_SEND (R429) -/

/-- A device that hands its role over after a heartbeat that says so. -/
def State.handedOver (t : State) : State := ((t.setGen 0).setFld F.FLT_PAIR_STAT_ROLE 0).setFld F.FLT_PAIR_STAT_SYNC 2

theorem claimOf_zero (s : State) : s.claimOf 0 = s.fld F.FLT_PAIR_CFG_RANK := by rw [State.claimOf, Nat.mul_zero, Nat.zero_add]

theorem handedOver_eq (t : State) : t.handedOver =
    (((t.genTold 0).setFld F.FLT_PAIR_STAT_OWN_C (t.fld F.FLT_PAIR_CFG_RANK)).setFld F.FLT_PAIR_STAT_ROLE 0).setFld F.FLT_PAIR_STAT_SYNC 2 := by
  rw [State.handedOver, setGen_eq t (by decide), claimOf_zero]

theorem handedOver_fields (t : State) : t.handedOver.fld F.FLT_PAIR_STAT_ROLE = 0 ∧ t.handedOver.fld F.FLT_PAIR_STAT_OWN_C = t.fld F.FLT_PAIR_CFG_RANK ∧
    t.handedOver.fld F.FLT_PAIR_STAT_SYNC = 2 := by
  refine ⟨?_, ?_, ?_⟩
  · rw [State.handedOver, fld_setFld_apart _ _ (Fld.fits (by rfl)) (.inr (by decide)), fld_setFld_self _ _ _ (Fld.fits (by rfl))]
    rfl
  · rw [State.handedOver, fld_setFld_apart _ _ (Fld.fits (by rfl)) (.inr (by decide)), fld_setFld_apart _ _ (Fld.fits (by rfl)) (.inr (by decide)), setGen_own t (by decide), claimOf_zero]
  · rw [State.handedOver, fld_setFld_self _ _ _ (Fld.fits (by rfl))]
    rfl

theorem handedOver_hidden (t : State) : t.handedOver.flt = { t.flt with gen := 0 } ∧ t.handedOver.np = t.np ∧
    t.handedOver.out = t.out ++ claimOut t (t.fld F.FLT_PAIR_CFG_RANK) := by
  rw [handedOver_eq, ← claimOf_zero]
  exact ⟨rfl, rfl, rfl⟩

theorem handedOver_frame (t : State) : Frame (t.genTold 0) t.handedOver [F.FLT_PAIR_STAT_ROLE, F.FLT_PAIR_STAT_OWN_C, F.FLT_PAIR_STAT_SYNC] := by
  rw [handedOver_eq]
  exact (((Frame.refl _ _).setFld _ (by simp) (Fld.fits (by rfl))).setFld 0 (by simp) (Fld.fits (by rfl))).setFld 2 (by simp) (Fld.fits (by rfl))

theorem b2n_bit (s : State) {f : Fld} (hw : f.w = 1) : b2n (s.bit f) = s.fld f := by
  have hlt := fld_lt s f
  rw [hw] at hlt
  unfold State.bit b2n
  interval_cases s.fld f <;> rfl

/-- A control frame of the pair moves the port's place and goes at the end of the trace; nothing is sent while the port is not up. -/
theorem pairCtrl_eq (s : State) (ty : Nat) (pl : List Byte) : ∃ n o, s.pairCtrl ty pl = { s with np := n, out := o } ∧
    (s.npUp s.pairPort = false → n = s.np ∧ o = s.out) ∧
    (∀ p : Fin 4, p.val = s.pairPort → s.npUp p = true → ∃ k, n = s.np.set p { s.np[p] with next := k, count := s.np[p].count + 1 } ∧
      o = s.out ++ [sentFrame s p ty (4 * b2n (s.npSt p == npStUp)) 0x3FFFF s.devId 0 (if s.npSt p = npStUp then s.np[p].rxSeq else 0) pl]) := by
  cases hup : s.npUp s.pairPort with
  | false =>
    refine ⟨s.np, s.out, ?_, fun _ => ⟨rfl, rfl⟩, fun p hp hp' => ?_⟩
    · rw [State.pairCtrl, hup, if_neg Bool.false_ne_true]
    · rw [hp, hup] at hp'
      cases hp'
  | true =>
    have hlt : s.pairPort < 4 := fld_lt s F.FLT_PAIR_CFG_PORT
    obtain ⟨k, hk⟩ := nimCtrl_eq s ⟨s.pairPort, hlt⟩ ty pl
    refine ⟨(s.nimCtrl s.pairPort ty pl).np, (s.nimCtrl s.pairPort ty pl).out, ?_, fun h => Bool.noConfusion h, fun p hp _ => ?_⟩
    · rw [State.pairCtrl, hup, if_pos rfl]
      exact hk.trans (congrArg (fun x : State => { s with np := x.np, out := x.out }) hk.symm)
    · obtain rfl : p = ⟨s.pairPort, hlt⟩ := Fin.ext hp
      exact ⟨k, congrArg State.np hk, congrArg State.out hk⟩

theorem heartbeatSend_idle {s : State} (h : s.bit F.FLT_PAIR_CFG_PAIR_EN = false ∨ s.bit F.FLT_STAT_FATAL = true) :
    Completes .heartbeatSend s (fun v => v = s) := by
  refine completes_of_done (v := s) (if_pos ?_) rfl
  rcases h with h | h
  · rw [h]
    rfl
  · rw [h, Bool.or_true]

/-- The state after a heartbeat left, before a handover. -/
def State.beaten (s : State) : State :=
  ((s.emit .heartbeat).pairCtrl 0x03 s.heartbeatBytes).modFlt (fun x => { x with hbSeq := (x.hbSeq + 1) % 256, handover := false })

theorem exec_heartbeatSend {s : State} (hp : s.bit F.FLT_PAIR_CFG_PAIR_EN = true) (hf : s.bit F.FLT_STAT_FATAL = false) :
    exec .heartbeatSend s = done s (if s.flt.handover then s.beaten.handedOver else s.beaten) := by
  change execHeartbeatSend s = _
  unfold execHeartbeatSend
  rw [if_neg (by rw [hp, hf]; decide)]
  rfl

theorem length_heartbeatBytes (s : State) : s.heartbeatBytes.length = 32 := by
  simp only [State.heartbeatBytes, List.length_append, length_leBytes, zeros, List.length_replicate]

/-- What a heartbeat puts at the end of the trace, and what it moves of the port. -/
theorem beaten_eq (s : State) : ∃ n o, s.beaten = { s with np := n, out := o, flt := { s.flt with hbSeq := (s.flt.hbSeq + 1) % 256, handover := false } } ∧
    (s.npUp s.pairPort = false → n = s.np ∧ o = (s.emit .heartbeat).out) ∧
    (∀ p : Fin 4, p.val = s.pairPort → s.npUp p = true → ∃ k, n = s.np.set p { s.np[p] with next := k, count := s.np[p].count + 1 } ∧
      o = (s.emit .heartbeat).out ++
        [sentFrame s p 3 (4 * b2n (s.npSt p == npStUp)) 0x3FFFF s.devId 0 (if s.npSt p = npStUp then s.np[p].rxSeq else 0) s.heartbeatBytes]) := by
  obtain ⟨n, o, h, hdown, hup⟩ := pairCtrl_eq (s.emit .heartbeat) 0x03 s.heartbeatBytes
  refine ⟨n, o, ?_, ?_, ?_⟩
  · rw [State.beaten, h, emit_eq]
    rfl
  · rw [emit_eq] at hdown ⊢
    exact hdown
  · rw [emit_eq] at hup ⊢
    exact hup

theorem heartbeatSend_completes {s : State} (hp : s.bit F.FLT_PAIR_CFG_PAIR_EN = true) (hf : s.bit F.FLT_STAT_FATAL = false) :
    let claim := if s.flt.handover then claimOut s (s.fld F.FLT_PAIR_CFG_RANK) else []
    Completes .heartbeatSend s (fun v => v.flt.hbSeq = (s.flt.hbSeq + 1) % 256 ∧
      (s.flt.handover = true → v.fld F.FLT_PAIR_STAT_ROLE = 0 ∧ v.flt.gen = 0 ∧ v.fld F.FLT_PAIR_STAT_OWN_C = s.fld F.FLT_PAIR_CFG_RANK ∧
        v.fld F.FLT_PAIR_STAT_SYNC = 2) ∧
      (s.npUp s.pairPort = false → v.out = (s.emit .heartbeat).out ++ claim ∧ v.np = s.np) ∧
      (∀ p : Fin 4, p.val = s.pairPort → s.npUp p = true →
        v.out = (s.emit .heartbeat).out ++ [sentFrame s p 3 (4 * b2n (s.npSt p == npStUp)) 0x3FFFF s.devId 0
          (if s.npSt p == npStUp then s.np[p].rxSeq else 0) s.heartbeatBytes] ++ claim ∧
        v.np = s.np.set p { s.np[p] with next := v.np[p].next, count := s.np[p].count + 1 }) ∧
      Frame { s with np := v.np, out := v.out, flt := { s.flt with hbSeq := v.flt.hbSeq, handover := false, gen := if s.flt.handover then 0 else s.flt.gen } } v
        (if s.flt.handover then [F.FLT_PAIR_STAT_ROLE, F.FLT_PAIR_STAT_OWN_C, F.FLT_PAIR_STAT_SYNC] else [])) := by
  intro claim
  have hx := exec_heartbeatSend hp hf
  obtain ⟨n, o, hb, hdown, hup⟩ := beaten_eq s
  have hplace : ∀ p : Fin 4, ∀ k, n = s.np.set p { s.np[p] with next := k, count := s.np[p].count + 1 } →
      n = s.np.set p { s.np[p] with next := n[p].next, count := s.np[p].count + 1 } := by
    intro p k hn
    rw [hn, np_set]
  cases hh : s.flt.handover with
  | false =>
    rw [hh, if_neg Bool.false_ne_true, hb] at hx
    have hclaim : claim = [] := if_neg (by rw [hh]; decide)
    refine completes_of_done hx ⟨rfl, fun h => Bool.noConfusion h, fun hd => ?_, fun p hpp hpu => ?_, Frame.refl _ _⟩
    · rw [hclaim, List.append_nil]
      exact ⟨(hdown hd).2, (hdown hd).1⟩
    · obtain ⟨k, hn, ho⟩ := hup p hpp hpu
      rw [hclaim, List.append_nil]
      simp only [beq_iff_eq]
      exact ⟨ho, hplace p k hn⟩
  | true =>
    rw [hh, if_pos rfl, hb] at hx
    have hclaim : claim = claimOut s (s.fld F.FLT_PAIR_CFG_RANK) := if_pos hh
    generalize hg : { s with np := n, out := o, flt := { s.flt with hbSeq := (s.flt.hbSeq + 1) % 256, handover := false } } = t at hx
    obtain ⟨hrole, hown, hsync⟩ := handedOver_fields t
    obtain ⟨hflt, hnp, hout⟩ := handedOver_hidden t
    have hframe := handedOver_frame t
    generalize t.handedOver = v at *
    subst hg
    refine completes_of_done hx ⟨by rw [hflt], fun _ => ⟨hrole, by rw [hflt], hown, hsync⟩, fun hd => ?_, fun p hpp hpu => ?_, ?_⟩
    · rw [hclaim, hout, hnp]
      exact ⟨congrArg (· ++ _) (hdown hd).2, (hdown hd).1⟩
    · obtain ⟨k, hn, ho⟩ := hup p hpp hpu
      rw [hclaim, hout, hnp]
      simp only [beq_iff_eq]
      exact ⟨congrArg (· ++ _) ho, hplace p k hn⟩
    · rw [hnp, hout, hflt, if_pos rfl, if_pos rfl]
      rw [State.genTold, claimOf_zero] at hframe
      exact hframe

/-! ### Heartbeats and claim frames that arrive (R428, R430) -/

/-- An acknowledgement where nothing waits takes frames off what is kept, and nothing else (R130). -/
theorem npAck_quiet {s : State} {p : Fin 4} (h : (s.npS p).wait = []) (k : BitVec 12) : s.npAck p (some k) =
    { s with np := s.np.set p { s.np[p] with kept := (s.npS p).kept.filter (fun e => 2048 ≤ (k.toNat + 4096 - e.1) % 4096) } } := by
  have hw : s.np[p].wait = [] := by rw [← npS_fin]; exact h
  simp only [State.npAck, State.npSend, State.modNp, vput_fin, npS_fin, np_set, hw, npPump, Vector.set_set]

theorem heartbeat_unpaired {a b : BitVec 8} {bs : List Byte} {s : State} (h : s.bit F.FLT_PAIR_CFG_PAIR_EN = false) (ack : Option (BitVec 12)) {i : Instr}
    (hi : i ∈ [Instr.heartbeatReceived (some (bs, ack)), .claimFrame a b ack]) : exec i s = done s (s.npAck s.pairPort ack) := by
  simp only [List.mem_cons, List.not_mem_nil, or_false] at hi
  rcases hi with rfl | rfl
  · exact if_pos (by rw [h]; rfl)
  · rfl

theorem heartbeatPulse_completes {s : State} (h : s.bit F.FLT_PAIR_CFG_PAIR_EN = true) : Completes (.heartbeatReceived none) s (fun v =>
    v.fld F.FLT_PAIR_STAT_MISSED = 0 ∧ Frame { s with flt := { s.flt with heard := true, hbT := s.evtNow } } v [F.FLT_PAIR_STAT_MISSED]) := by
  refine completes_of_done (v := (s.setFld F.FLT_PAIR_STAT_MISSED 0).modFlt (fun x => { x with heard := true, hbT := s.evtNow })) ?_ ⟨?_, ?_⟩
  · exact if_neg (by rw [h]; decide)
  · exact (fld_setFld_self s F.FLT_PAIR_STAT_MISSED 0 (Fld.fits (by rfl))).trans rfl
  · exact ((Frame.refl s _).setFld 0 (by simp) (Fld.fits (by rfl))).withFlt _

/-! ### PARTNER_LOST (R430, R434, R436) -/

/-- What a record leaves of FLT. -/
theorem RecordFrame.flt {s v : State} (h : RecordFrame s v) : { v.flt with own := [] } = { s.flt with own := [] } := (congrArg State.flt h.rest :)

theorem recordFrame_pairFault (s : State) (cause w5 w6 : Nat) : RecordFrame s (s.pairFault cause w5 w6) := recordFrame_fault s _ _ _ _ _ _ _

theorem RecordFrame.primary {s v : State} (h : RecordFrame s v) : v.primary = s.primary := bit_of_rd_eq F.FLT_PAIR_STAT_ROLE (h.regs R.FLT_PAIR_STAT (by decide))

/-- The registers of the pair's state. -/
def pairReg (off : Nat) : Bool := off == R.FLT_PAIR_STAT || off == R.FLT_HB_CNT

/-- What FLT hides once the partner is lost. -/
def FltS.lost (x : FltS) : FltS := { x with heard := false, peerSeq := none, cmpOn := false, own := [], peer := [] }

/-- The partner's loss is shown and counted. -/
def State.lostNoted (s : State) : State :=
  ({ s.setFld F.FLT_PAIR_STAT_MISSED 5 with flt := s.flt.lost } : State).incCnt F.FLT_HB_CNT_LOST_CNT F.FLT_HB_CNT_SAT

theorem lostNoted_writes (s : State) : WriteFrame { s with flt := s.flt.lost } s.lostNoted pairReg :=
  (writeFrame_setFld { s with flt := s.flt.lost } (f := F.FLT_PAIR_STAT_MISSED) 5 rfl).trans (writeFrame_incCnt _ rfl rfl) (by decide)

/-- Fields of the pair's state once its loss is noted. -/
theorem lostNoted_pairStat (s : State) {f : Fld} (hf : f.off = R.FLT_PAIR_STAT) :
    s.lostNoted.fld f = (s.setFld F.FLT_PAIR_STAT_MISSED 5).fld f :=
  fld_of_rd_eq f (rd_incCnt_ne ({ s.setFld F.FLT_PAIR_STAT_MISSED 5 with flt := s.flt.lost } : State) F.FLT_HB_CNT_LOST_CNT F.FLT_HB_CNT_SAT
    (by rw [hf]; decide) (by rw [hf]; decide))

theorem lostNoted_missed (s : State) : s.lostNoted.fld F.FLT_PAIR_STAT_MISSED = 5 := by
  rw [lostNoted_pairStat s rfl, fld_setFld_self _ _ _ (Fld.fits (by rfl))]
  rfl

theorem lostNoted_apart (s : State) {f : Fld} (hf : f.off = R.FLT_PAIR_STAT) (ha : F.FLT_PAIR_STAT_MISSED.Apart f) : s.lostNoted.fld f = s.fld f := by
  rw [lostNoted_pairStat s hf, fld_setFld_apart _ _ (Fld.fits (by rfl)) ha]

theorem lostNoted_counts (s : State) :
    s.lostNoted.fld F.FLT_HB_CNT_LOST_CNT = min (s.fld F.FLT_HB_CNT_LOST_CNT + 1) (2 ^ F.FLT_HB_CNT_LOST_CNT.w - 1) ∧
      s.lostNoted.fld F.FLT_HB_CNT_CLAIM_CNT = s.fld F.FLT_HB_CNT_CLAIM_CNT := by
  have hmissed : ∀ f : Fld, f.off = R.FLT_HB_CNT → (s.setFld F.FLT_PAIR_STAT_MISSED 5).fld f = s.fld f := fun f hf =>
    fld_setFld_ne s F.FLT_PAIR_STAT_MISSED f 5 (by rw [hf]; decide)
  refine ⟨(fld_incCnt_self _ _ _ (Fld.fits (by rfl)) (Fld.fits (by rfl)) (.inr (by decide))).trans ?_, (fld_incCnt_apart _ (Fld.fits (by rfl)) (Fld.fits (by rfl)) (.inr (by decide)) (.inr (by decide))).trans ?_⟩
  · exact congrArg (fun x => min (x + 1) _) (hmissed F.FLT_HB_CNT_LOST_CNT rfl)
  · exact hmissed F.FLT_HB_CNT_CLAIM_CNT rfl

theorem resyncFail_idle {s : State} (h : s.flt.resync.phase = 0) : s.resyncFail = s := if_pos h

/-- The partner's loss before a claim. -/
def State.partnerGone (s : State) : State := s.lostNoted.pairFault 0x01

theorem partnerGone_flt (s : State) : { s.partnerGone.flt with own := [] } = s.flt.lost := by
  have hflt : s.lostNoted.flt = s.flt.lost := incCnt_flt _ _ _
  rw [State.partnerGone, (recordFrame_pairFault s.lostNoted 0x01 0 0).flt, hflt]
  rfl

theorem exec_partnerLost {s : State} (hp : s.bit F.FLT_PAIR_CFG_PAIR_EN = true) (hm : s.fld F.FLT_PAIR_STAT_MISSED ≠ 5) (hr : s.flt.resync.phase = 0) :
    exec .partnerLost s = done s (if s.primary then s.partnerGone else s.partnerGone.claim) := by
  have hphase : s.partnerGone.flt.resync.phase = 0 := (congrArg (fun x : FltS => x.resync.phase) (partnerGone_flt s)).trans hr
  change execPartnerLost s = _
  unfold execPartnerLost
  rw [if_neg (by rw [hp]; simp [hm])]
  change done s (if s.primary then s.partnerGone.resyncFail else s.partnerGone.resyncFail.claim) = _
  rw [resyncFail_idle hphase]

theorem partnerLost_idle {s : State} (h : s.bit F.FLT_PAIR_CFG_PAIR_EN = false ∨ s.fld F.FLT_PAIR_STAT_MISSED = 5) : Completes .partnerLost s (fun v => v = s) := by
  refine completes_of_done (v := s) (if_pos ?_) rfl
  rcases h with h | h
  · rw [h]
    rfl
  · rw [h]
    exact Bool.or_true _

/-- From `s` to `v` the partner was lost, and nothing was claimed. -/
theorem partnerGone_writes (s : State) : WriteFrame { s with flt := s.flt.lost } s.partnerGone pairReg :=
  (lostNoted_writes s).trans (.of_record (recordFrame_pairFault _ _ _ _)) (by decide)

theorem partnerGone_pairRegs (s : State) : s.partnerGone.rd R.FLT_PAIR_STAT = s.lostNoted.rd R.FLT_PAIR_STAT ∧
    s.partnerGone.rd R.FLT_HB_CNT = s.lostNoted.rd R.FLT_HB_CNT :=
  ⟨(recordFrame_pairFault s.lostNoted 0x01 0 0).regs _ (by decide), (recordFrame_pairFault s.lostNoted 0x01 0 0).regs _ (by decide)⟩

theorem partnerGone_primary (s : State) : s.partnerGone.primary = s.primary := by
  refine (bit_of_rd_eq F.FLT_PAIR_STAT_ROLE (partnerGone_pairRegs s).1).trans ?_
  rw [State.bit, lostNoted_apart s rfl (.inr (by decide))]
  rfl

/-- A standby that may not claim, as it is once its partner is lost. -/
theorem claim_withheld {s : State} (h : s.flt.demoted = true ∨ (s.synced = false ∧ s.bit F.FLT_PAIR_CFG_CLAIM_UNSYNC = false)) :
    s.partnerGone.claim = s.partnerGone.pairFault 0x07 := by
  have hdemoted : s.partnerGone.flt.demoted = s.flt.demoted := (congrArg FltS.demoted (partnerGone_flt s) :)
  have hsync : s.partnerGone.synced = s.synced := by
    rw [State.synced, fld_of_rd_eq F.FLT_PAIR_STAT_SYNC (partnerGone_pairRegs s).1, lostNoted_apart s rfl (.inr (by decide))]
    rfl
  have hunsync : s.partnerGone.bit F.FLT_PAIR_CFG_CLAIM_UNSYNC = s.bit F.FLT_PAIR_CFG_CLAIM_UNSYNC :=
    bit_of_rd_eq F.FLT_PAIR_CFG_CLAIM_UNSYNC ((partnerGone_writes s).rd (off := R.FLT_PAIR_CFG) (by decide) (by decide))
  refine if_pos ?_
  rw [hdemoted, hsync, hunsync]
  rcases h with h | ⟨h1, h2⟩
  · rw [h]
    rfl
  · rw [h1, h2]
    exact Bool.or_true _

theorem partnerLost_stays {s : State} (hp : s.bit F.FLT_PAIR_CFG_PAIR_EN = true) (hm : s.fld F.FLT_PAIR_STAT_MISSED ≠ 5) (hr : s.flt.resync.phase = 0)
    (h : s.primary = true ∨ s.flt.demoted = true ∨ (s.synced = false ∧ s.bit F.FLT_PAIR_CFG_CLAIM_UNSYNC = false)) :
    Completes .partnerLost s (fun v => v.fld F.FLT_PAIR_STAT_MISSED = 5 ∧ v.flt.heard = false ∧ v.flt.peerSeq = none ∧ v.flt.cmpOn = false ∧ v.flt.gen = s.flt.gen ∧
      v.primary = s.primary ∧ v.fld F.FLT_HB_CNT_LOST_CNT = min (s.fld F.FLT_HB_CNT_LOST_CNT + 1) (2 ^ F.FLT_HB_CNT_LOST_CNT.w - 1) ∧
      v.fld F.FLT_HB_CNT_CLAIM_CNT = s.fld F.FLT_HB_CNT_CLAIM_CNT ∧ FrameMem s v s.spillByte ∧
      FrameRegs s v (fun off => off == R.FLT_PAIR_STAT || off == R.FLT_HB_CNT || inBlocks [.hostq, .seg, .time] off)) := by
  obtain ⟨v, hv, hrec⟩ : ∃ v, exec .partnerLost s = done s v ∧ RecordFrame s.partnerGone v := by
    have hx := exec_partnerLost hp hm hr
    cases hprim : s.primary with
    | true =>
      rw [hprim, if_pos rfl] at hx
      exact ⟨_, hx, RecordFrame.refl _⟩
    | false =>
      rw [hprim, if_neg Bool.false_ne_true, claim_withheld (h.resolve_left (by simp [hprim]))] at hx
      exact ⟨_, hx, recordFrame_pairFault _ _ _ _⟩
  have hw := (partnerGone_writes s).trans (.of_record hrec) (by decide)
  have hflt : { v.flt with own := [] } = s.flt.lost := hrec.flt.trans (partnerGone_flt s)
  have hstat : v.rd R.FLT_PAIR_STAT = s.lostNoted.rd R.FLT_PAIR_STAT := (hrec.regs _ (by decide)).trans (partnerGone_pairRegs s).1
  have hcnt : v.rd R.FLT_HB_CNT = s.lostNoted.rd R.FLT_HB_CNT := (hrec.regs _ (by decide)).trans (partnerGone_pairRegs s).2
  obtain ⟨hlost, hclaims⟩ := lostNoted_counts s
  refine completes_of_done hv ⟨?_, (congrArg FltS.heard hflt :), (congrArg FltS.peerSeq hflt :), (congrArg FltS.cmpOn hflt :), (congrArg FltS.gen hflt :),
    hrec.primary.trans (partnerGone_primary s), ?_, ?_, hw.mem, hw.frameRegs fun _ h => h⟩
  · exact (fld_of_rd_eq F.FLT_PAIR_STAT_MISSED hstat).trans (lostNoted_missed s)
  · exact (fld_of_rd_eq F.FLT_HB_CNT_LOST_CNT hcnt).trans hlost
  · exact (fld_of_rd_eq F.FLT_HB_CNT_CLAIM_CNT hcnt).trans hclaims

/-! ### A claim (R434, R435) -/

/-- A standby takes its new claim number and the role. -/
def State.claimTaken (s : State) (gen : Nat) : State := (s.setGen gen).flag F.FLT_PAIR_STAT_ROLE

/-- The claim number that a lost partner leaves to claim. -/
def State.lostGen (s : State) : Nat := min 127 (1 + s.flt.peerGen)

theorem lostGen_le (s : State) : s.lostGen ≤ 127 := Nat.min_le_left _ _

/-- A claim frame to the partner, frost hold, and the count of claims. -/
def State.claimSent (s : State) (pl : List Byte) : State := (s.pairCtrl 0x04 pl).frostOn.incCnt F.FLT_HB_CNT_CLAIM_CNT F.FLT_HB_CNT_SAT

/-- The record of a claim. -/
def State.claimNoted (s : State) : State := (s.modFlt (fun x => { x with own := [], peer := [] })).pairFault 0x02

theorem claim_eq {s : State} (h : s.flt.demoted = false) (hs : s.synced = true ∨ s.bit F.FLT_PAIR_CFG_CLAIM_UNSYNC = true) :
    ∃ pl, s.claim = (((s.claimTaken s.lostGen).claimSent pl).claimNoted) := by
  refine ⟨leBytes 1 ((s.claimTaken s.lostGen).fld F.FLT_PAIR_STAT_OWN_C) ++ leBytes 1 (s.fld F.FLT_PAIR_STAT_OWN_C) ++ zeros 6, if_neg ?_⟩
  rw [h]
  rcases hs with hs | hs
  · rw [hs, Bool.true_or]
    decide
  · rw [hs, Bool.or_true]
    decide

theorem claimTaken_fields (s : State) {gen : Nat} (h : gen ≤ 127) : (s.claimTaken gen).fld F.FLT_PAIR_STAT_OWN_C = s.claimOf gen ∧
    (s.claimTaken gen).primary = true ∧ (s.claimTaken gen).fld F.FLT_PAIR_STAT_MISSED = s.fld F.FLT_PAIR_STAT_MISSED ∧
    (s.claimTaken gen).flt = { s.flt with gen := gen } := by
  refine ⟨?_, bit_setFld_self (s.setGen gen) F.FLT_PAIR_STAT_ROLE 1 (Fld.fits (by rfl)) rfl, ?_, ?_⟩
  · exact (fld_setFld_apart (s.setGen gen) (f := F.FLT_PAIR_STAT_ROLE) 1 (Fld.fits (by rfl)) (.inr (by decide))).trans (setGen_own s h)
  · refine (fld_setFld_apart (s.setGen gen) (f := F.FLT_PAIR_STAT_ROLE) 1 (Fld.fits (by rfl)) (.inr (by decide))).trans ?_
    rw [setGen_eq s h, fld_setFld_apart _ _ (Fld.fits (by rfl)) (.inr (by decide))]
    rfl
  · exact (congrArg State.flt (setGen_eq s h) :)

theorem claimTaken_rd (s : State) {gen off : Nat} (h : gen ≤ 127) (ho : off ≠ R.FLT_PAIR_STAT) : (s.claimTaken gen).rd off = s.rd off := by
  refine (rd_setFld_ne (s.setGen gen) F.FLT_PAIR_STAT_ROLE 1 ho).trans ?_
  rw [setGen_eq s h]
  exact rd_setFld_ne (s.genTold gen) F.FLT_PAIR_STAT_OWN_C _ ho

theorem claimTaken_ddr (s : State) {gen : Nat} (h : gen ≤ 127) : (s.claimTaken gen).ddr = s.ddr := (congrArg State.ddr (setGen_eq s h) :)

section ClaimSent
variable (s : State) (pl : List Byte)

/-- A frame that leaves shows in no register. -/
theorem pairCtrl_rd (ty off : Nat) : (s.pairCtrl ty pl).rd off = s.rd off := by
  obtain ⟨n, o, h, -, -⟩ := pairCtrl_eq s ty pl
  rw [h]
  rfl

theorem pairCtrl_flt (ty : Nat) : (s.pairCtrl ty pl).flt = s.flt := by
  obtain ⟨n, o, h, -, -⟩ := pairCtrl_eq s ty pl
  rw [h]

theorem pairCtrl_ddr (ty : Nat) : (s.pairCtrl ty pl).ddr = s.ddr := by
  obtain ⟨n, o, h, -, -⟩ := pairCtrl_eq s ty pl
  rw [h]

theorem claimSent_frost : (s.claimSent pl).bit F.FLT_STAT_FROST = true :=
  (bit_of_rd_eq F.FLT_STAT_FROST (rd_incCnt_ne _ F.FLT_HB_CNT_CLAIM_CNT F.FLT_HB_CNT_SAT (by decide) (by decide))).trans (frostOn_frame (s.pairCtrl 0x04 pl)).frost

theorem claimSent_flt : (s.claimSent pl).flt = s.flt :=
  (incCnt_flt _ _ _).trans ((frostOn_frame (s.pairCtrl 0x04 pl)).flt.trans (pairCtrl_flt s pl 0x04))

theorem claimSent_pairStat : (s.claimSent pl).rd R.FLT_PAIR_STAT = s.rd R.FLT_PAIR_STAT :=
  (rd_incCnt_ne _ F.FLT_HB_CNT_CLAIM_CNT F.FLT_HB_CNT_SAT (by decide) (by decide)).trans
    (((frostOn_frame (s.pairCtrl 0x04 pl)).regs _ (by decide)).trans (pairCtrl_rd s pl 0x04 _))

theorem claimSent_counts :
    (s.claimSent pl).fld F.FLT_HB_CNT_CLAIM_CNT = min (s.fld F.FLT_HB_CNT_CLAIM_CNT + 1) (2 ^ F.FLT_HB_CNT_CLAIM_CNT.w - 1) ∧
      (s.claimSent pl).fld F.FLT_HB_CNT_LOST_CNT = s.fld F.FLT_HB_CNT_LOST_CNT := by
  have hcnt : (s.pairCtrl 0x04 pl).frostOn.rd R.FLT_HB_CNT = s.rd R.FLT_HB_CNT :=
    ((frostOn_frame (s.pairCtrl 0x04 pl)).regs _ (by decide)).trans (pairCtrl_rd s pl 0x04 _)
  refine ⟨(fld_incCnt_self _ _ _ (Fld.fits (by rfl)) (Fld.fits (by rfl)) (.inr (by decide))).trans ?_, (fld_incCnt_apart _ (Fld.fits (by rfl)) (Fld.fits (by rfl)) (.inr (by decide)) (.inr (by decide))).trans ?_⟩
  · rw [fld_of_rd_eq F.FLT_HB_CNT_CLAIM_CNT hcnt]
  · exact fld_of_rd_eq F.FLT_HB_CNT_LOST_CNT hcnt

/-- In frost hold a claim frame and its count change one register and no memory. -/
theorem claimSent_held (h : s.bit F.FLT_STAT_FROST = true) : (s.claimSent pl).ddr = s.ddr ∧ ∀ off, off ≠ R.FLT_HB_CNT → (s.claimSent pl).rd off = s.rd off := by
  have hfrost : (s.pairCtrl 0x04 pl).bit F.FLT_STAT_FROST = true := (bit_of_rd_eq F.FLT_STAT_FROST (pairCtrl_rd s pl 0x04 _)).trans h
  rw [State.claimSent, frostOn_held hfrost]
  exact ⟨(incCnt_ddr _ _ _).trans (pairCtrl_ddr s pl 0x04), fun off ho => (rd_incCnt_ne _ _ _ ho ho).trans (pairCtrl_rd s pl 0x04 off)⟩

end ClaimSent

section Claimed
variable {s : State} (hp : s.bit F.FLT_PAIR_CFG_PAIR_EN = true) (hm : s.fld F.FLT_PAIR_STAT_MISSED ≠ 5) (hr : s.flt.resync.phase = 0)
  (hprim : s.primary = false) (hdem : s.flt.demoted = false) (hsync : s.synced = true ∨ s.bit F.FLT_PAIR_CFG_CLAIM_UNSYNC = true)
include hp hm hr hprim hdem hsync

/-- A standby whose partner is lost claims. -/
theorem exec_partnerLost_claims : ∃ pl, exec .partnerLost s = done s (((s.partnerGone.claimTaken s.lostGen).claimSent pl).claimNoted) := by
  have hx := exec_partnerLost hp hm hr
  rw [hprim, if_neg Bool.false_ne_true] at hx
  have hdemoted : s.partnerGone.flt.demoted = false := (congrArg FltS.demoted (partnerGone_flt s) :).trans hdem
  have hgen : s.partnerGone.lostGen = s.lostGen := (congrArg (fun x : FltS => min 127 (1 + x.peerGen)) (partnerGone_flt s) :)
  have hstill : s.partnerGone.synced = true ∨ s.partnerGone.bit F.FLT_PAIR_CFG_CLAIM_UNSYNC = true := by
    refine hsync.imp (fun h => ?_) (fun h => ?_)
    · rw [State.synced, fld_of_rd_eq F.FLT_PAIR_STAT_SYNC (partnerGone_pairRegs s).1, lostNoted_apart s rfl (.inr (by decide))]
      exact h
    · exact (bit_of_rd_eq F.FLT_PAIR_CFG_CLAIM_UNSYNC ((partnerGone_writes s).rd (off := R.FLT_PAIR_CFG) (by decide) (by decide))).trans h
  obtain ⟨pl, hpl⟩ := claim_eq hdemoted hstill
  rw [hpl, hgen] at hx
  exact ⟨pl, hx⟩

theorem partnerLost_claims : Completes .partnerLost s (fun v => v.fld F.FLT_PAIR_STAT_MISSED = 5 ∧ v.flt.gen = s.lostGen ∧ v.primary = true ∧
    v.fld F.FLT_PAIR_STAT_OWN_C = 2 * s.lostGen + s.fld F.FLT_PAIR_CFG_RANK ∧ v.bit F.FLT_STAT_FROST = true ∧
    v.fld F.FLT_HB_CNT_LOST_CNT = min (s.fld F.FLT_HB_CNT_LOST_CNT + 1) (2 ^ F.FLT_HB_CNT_LOST_CNT.w - 1) ∧
    v.fld F.FLT_HB_CNT_CLAIM_CNT = min (s.fld F.FLT_HB_CNT_CLAIM_CNT + 1) (2 ^ F.FLT_HB_CNT_CLAIM_CNT.w - 1) ∧
    (s.bit F.FLT_STAT_FROST = true → FrameMem s v s.spillByte ∧
      FrameRegs s v (fun off => off == R.FLT_PAIR_STAT || off == R.FLT_HB_CNT || inBlocks [.hostq, .seg, .time] off))) := by
  obtain ⟨pl, hx⟩ := exec_partnerLost_claims hp hm hr hprim hdem hsync
  obtain ⟨hown, hrole, hmissed, hflt⟩ := claimTaken_fields s.partnerGone (lostGen_le s)
  have htaken : ∀ off, off ≠ R.FLT_PAIR_STAT → (s.partnerGone.claimTaken s.lostGen).rd off = s.partnerGone.rd off := fun off ho =>
    claimTaken_rd _ (lostGen_le s) ho
  have hddr := claimTaken_ddr s.partnerGone (lostGen_le s)
  generalize s.partnerGone.claimTaken s.lostGen = t at *
  obtain ⟨hclaims, hlost⟩ := claimSent_counts t pl
  have hfrost := claimSent_frost t pl
  have hsflt := (claimSent_flt t pl).trans hflt
  have hsstat := claimSent_pairStat t pl
  have hheld := claimSent_held t pl
  generalize t.claimSent pl = c at *
  have hrec : RecordFrame (c.modFlt (fun x => { x with own := [], peer := [] })) c.claimNoted := recordFrame_pairFault _ _ _ _
  have hrd : ∀ off, recordReg off = false → c.claimNoted.rd off = c.rd off := hrec.regs
  have hmem : FrameMem c c.claimNoted c.spillByte := hrec.mem
  have hgen : c.claimNoted.flt.gen = c.flt.gen := (congrArg FltS.gen hrec.flt :)
  generalize c.claimNoted = v at *
  have hstat : v.rd R.FLT_PAIR_STAT = t.rd R.FLT_PAIR_STAT := (hrd _ (by decide)).trans hsstat
  have hcnt : t.rd R.FLT_HB_CNT = s.lostNoted.rd R.FLT_HB_CNT := (htaken _ (by decide)).trans (partnerGone_pairRegs s).2
  have hgone := partnerGone_writes s
  have hrank : s.partnerGone.fld F.FLT_PAIR_CFG_RANK = s.fld F.FLT_PAIR_CFG_RANK := fld_of_rd_eq F.FLT_PAIR_CFG_RANK (hgone.rd (off := R.FLT_PAIR_CFG) (by decide) (by decide))
  refine completes_of_done hx ⟨?_, hgen.trans (congrArg FltS.gen hsflt), (bit_of_rd_eq F.FLT_PAIR_STAT_ROLE hstat).trans hrole, ?_,
    (bit_of_rd_eq F.FLT_STAT_FROST (hrd R.FLT_STAT (by decide))).trans hfrost, ?_, ?_, fun hf => ?_⟩
  · exact (fld_of_rd_eq F.FLT_PAIR_STAT_MISSED hstat).trans (hmissed.trans ((fld_of_rd_eq F.FLT_PAIR_STAT_MISSED (partnerGone_pairRegs s).1).trans (lostNoted_missed s)))
  · rw [fld_of_rd_eq F.FLT_PAIR_STAT_OWN_C hstat, hown, State.claimOf, hrank]
  · rw [fld_of_rd_eq F.FLT_HB_CNT_LOST_CNT (hrd R.FLT_HB_CNT (by decide)), hlost, fld_of_rd_eq F.FLT_HB_CNT_LOST_CNT hcnt, (lostNoted_counts s).1]
  · rw [fld_of_rd_eq F.FLT_HB_CNT_CLAIM_CNT (hrd R.FLT_HB_CNT (by decide)), hclaims, fld_of_rd_eq F.FLT_HB_CNT_CLAIM_CNT hcnt, (lostNoted_counts s).2]
  · have ht : t.bit F.FLT_STAT_FROST = true :=
      (bit_of_rd_eq F.FLT_STAT_FROST ((htaken R.FLT_STAT (by decide)).trans (hgone.rd (off := R.FLT_STAT) (by decide) (by decide)))).trans hf
    obtain ⟨hsddr, hsrd⟩ := hheld ht
    have hspill : c.spillByte = s.spillByte :=
      spillByte_of_rd_eq ((hsrd _ (by decide)).trans ((htaken _ (by decide)).trans (hgone.rd (off := R.SEG_SPILL_CTL) (by decide) (by decide))))
    refine ⟨fun a ha => ?_, fun off ho => ?_⟩
    · rw [hmem a (by rw [hspill]; exact ha), hsddr, hddr]
      exact hgone.mem a ha
    · simp only [Bool.or_eq_false_iff, beq_eq_false_iff_ne] at ho
      obtain ⟨⟨h1, h2⟩, h3⟩ := ho
      have hnorec : recordReg off = false := Bool.eq_false_iff.mpr fun h => by rw [inBlocks_of_recordReg h] at h3; cases h3
      rw [hrd off hnorec, hsrd off h2, htaken off h1]
      exact hgone.rd (by simp [pairReg, h1, h2]) hnorec

end Claimed

/-! ### Heartbeat frames (R430, R434, R438, R440) -/

/-- What a heartbeat frame tells of its sender. -/
def State.beatNoted (s : State) (c fl seq : Nat) : State :=
  (if s.primary && bitN s.flt.peerFl 1 && !bitN fl 1 then s.cmpOff else s).modFlt (fun x => { x with peerGen := c / 2, peerFl := fl, peerSeq := some seq })

/-- Is a heartbeat missing before number `seq`? -/
def State.beatGap (s : State) (seq : Nat) : Bool := s.flt.peerSeq.any (fun q => seq != (q + 1) % 256)

/-- A missing heartbeat fails a resynchronisation. -/
def State.gapTaken (s : State) (gap : Bool) : State := if gap then s.resyncFail else s

/-- A standby's structure and job are compared with its partner's. -/
def State.idsTaken (s : State) (id job : Nat) : State :=
  if !s.primary && (id != s.rdN R.CFG_STRUCT_ID || job != s.jobId s.runBank) then
    if s.fld F.FLT_PAIR_STAT_SYNC = 1 then (s.pairFault 0x06).resyncFail else (s.cmpOff.setFld F.FLT_PAIR_STAT_SYNC 0).pairFault 0x06
  else s

/-- A primary takes its partner's request for resynchronisation. -/
def State.requestTaken (s : State) (fl t : Nat) : State :=
  if s.primary && bitN fl 2 && (s.flt.resync.phase == 0 || s.flt.resync.tcap != t) then s.modResync (fun _ => { ResyncS.none with phase := 5, tcap := t }) else s

/-- A standby claims where its partner hands over. -/
def State.handoverTaken (s : State) (fl : Nat) : State := if bitN fl 0 && !s.primary then s.claim else s

theorem heartbeatFrame_eq (s : State) (f : List Byte) : s.heartbeatFrame f =
    ((((s.beatNoted (leVal (slice f 2 1)) (leVal (slice f 1 1)) (leVal (slice f 3 1))).gapTaken (s.beatGap (leVal (slice f 3 1)))).idsTaken
      (leVal (slice f 4 4)) (leVal (slice f 8 2))).requestTaken (leVal (slice f 1 1)) (leVal (slice f 16 8))).handoverTaken (leVal (slice f 1 1)) := rfl

theorem gapTaken_idle {s : State} {gap : Bool} (h : s.flt.resync.phase = 0 ∨ gap = false) : s.gapTaken gap = s := by
  rw [State.gapTaken]
  split
  · next hg =>
    exact resyncFail_idle (h.resolve_right (by simp [hg]))
  · rfl

theorem idsTaken_same {s : State} {id job : Nat} (h : s.primary = true ∨ (id = s.rdN R.CFG_STRUCT_ID ∧ job = s.jobId s.runBank)) : s.idsTaken id job = s := by
  refine if_neg ?_
  rcases h with h | ⟨h1, h2⟩
  · rw [h]
    exact Bool.false_ne_true
  · rw [h1, h2]
    simp

theorem requestTaken_idle {s : State} {fl t : Nat} (h : s.primary = false ∨ bitN fl 2 = false) : s.requestTaken fl t = s := by
  refine if_neg ?_
  rcases h with h | h <;> simp [h]

theorem handoverTaken_idle {s : State} {fl : Nat} (h : s.primary = true ∨ bitN fl 0 = false) : s.handoverTaken fl = s := by
  refine if_neg ?_
  rcases h with h | h <;> simp [h]

/-- What FLT hides after a heartbeat frame told of its sender. -/
def FltS.noted (x : FltS) (ends : Bool) (c fl seq : Nat) : FltS :=
  let x := if ends then { x with cmpOn := false, own := [], peer := [] } else x
  { x with peerGen := c / 2, peerFl := fl, peerSeq := some seq }

theorem beatNoted_eq (s : State) (c fl seq : Nat) :
    s.beatNoted c fl seq = { s with flt := s.flt.noted (s.primary && bitN s.flt.peerFl 1 && !bitN fl 1) c fl seq } := by
  unfold State.beatNoted FltS.noted
  split <;> rfl

theorem noted_resync (x : FltS) (ends : Bool) (c fl seq : Nat) : (x.noted ends c fl seq).resync = x.resync := by
  unfold FltS.noted
  split <;> rfl

section Frames
variable {s : State} (role fl c seq : Byte) (id : Vector Byte 4) (job : Vector Byte 2) (rest : Vector Byte 22)

/-- The bytes of a heartbeat frame. -/
def beatBytes : List Byte := [role, fl, c, seq] ++ id.toList ++ job.toList ++ rest.toList

theorem beatBytes_slices : leVal (slice (beatBytes role fl c seq id job rest) 1 1) = fl.toNat ∧ leVal (slice (beatBytes role fl c seq id job rest) 2 1) = c.toNat ∧
    leVal (slice (beatBytes role fl c seq id job rest) 3 1) = seq.toNat ∧ slice (beatBytes role fl c seq id job rest) 4 4 = id.toList ∧
    slice (beatBytes role fl c seq id job rest) 8 2 = job.toList := by
  have hid : id.toList.length = 4 := id.length_toList
  have hjob : job.toList.length = 2 := job.length_toList
  refine ⟨rfl, rfl, rfl, ?_, ?_⟩
  · simp [beatBytes, slice, hid]
  · simp [beatBytes, slice, hid, hjob]

/-- The state that a heartbeat frame finds: the acknowledgement is taken, and the heartbeat noted. -/
def State.beatHeard (s : State) (ack : Option (BitVec 12)) : State :=
  ((s.npAck s.pairPort ack).setFld F.FLT_PAIR_STAT_MISSED 0).modFlt (fun x => { x with heard := true, hbT := s.evtNow })

theorem exec_heartbeatFrame (h : s.bit F.FLT_PAIR_CFG_PAIR_EN = true) (f : List Byte) (ack : Option (BitVec 12)) :
    exec (.heartbeatReceived (some (f, ack))) s = done s ((s.beatHeard ack).heartbeatFrame f) := if_neg (by rw [h]; decide)

/-- An acknowledgement leaves FLT, the memory and the registers outside the Nimeb block alone. -/
theorem beatHeard_spec (s : State) (ack : Option (BitVec 12)) :
    (s.beatHeard ack).flt = { s.flt with heard := true, hbT := s.evtNow } ∧ (s.beatHeard ack).fld F.FLT_PAIR_STAT_MISSED = 0 ∧
      (∀ off, off ≠ R.FLT_PAIR_STAT → (off < 0x00600000 ∨ 0x00700000 ≤ off) → (s.beatHeard ack).rd off = s.rd off) ∧
      (∀ f : Fld, f.off = R.FLT_PAIR_STAT → F.FLT_PAIR_STAT_MISSED.Apart f → (s.beatHeard ack).fld f = s.fld f) ∧
      Frame { s.npAck s.pairPort ack with flt := { s.flt with heard := true, hbT := s.evtNow } } (s.beatHeard ack) [F.FLT_PAIR_STAT_MISSED] := by
  have hsend := npSends_npAck s s.pairPort ack
  have hport : s.pairPort < 4 := fld_lt s F.FLT_PAIR_CFG_PORT
  have hflt : (s.npAck s.pairPort ack).flt = s.flt := by rw [hsend.rest]
  have hcredit : ∀ off, (off < 0x00600000 ∨ 0x00700000 ≤ off) → off ≠ R.NP_CREDIT s.pairPort := fun off ho => by
    simp only [R.NP_CREDIT]
    omega
  have hnow : s.beatHeard ack = { (s.npAck s.pairPort ack).setFld F.FLT_PAIR_STAT_MISSED 0 with flt := { s.flt with heard := true, hbT := s.evtNow } } := by
    exact congrArg (fun x : FltS => { (s.npAck s.pairPort ack).setFld F.FLT_PAIR_STAT_MISSED 0 with flt := { x with heard := true, hbT := s.evtNow } }) hflt
  rw [hnow]
  refine ⟨rfl, (fld_setFld_self (s.npAck s.pairPort ack) F.FLT_PAIR_STAT_MISSED 0 (Fld.fits (by rfl))).trans rfl, fun off h1 h2 => ?_, fun f hf ha => ?_,
    ((Frame.refl (s.npAck s.pairPort ack) _).setFld 0 (by simp) (Fld.fits (by rfl))).withFlt _⟩
  · exact (rd_setFld_ne (s.npAck s.pairPort ack) F.FLT_PAIR_STAT_MISSED 0 h1).trans (hsend.regs off (hcredit off h2))
  · exact (fld_setFld_apart (s.npAck s.pairPort ack) (f := F.FLT_PAIR_STAT_MISSED) 0 (Fld.fits (by rfl)) ha).trans (hsend.fld f (by rw [hf]; exact hcredit _ (by decide)))

/-- Structure and job of a state whose registers of CFG read the same. -/
theorem ids_of_rd {u v : State} (h : ∀ off, 0x00100000 ≤ off → off < 0x00200000 → v.rd off = u.rd off) :
    v.rdN R.CFG_STRUCT_ID = u.rdN R.CFG_STRUCT_ID ∧ v.jobId v.runBank = u.jobId u.runBank := by
  have hbank : v.runBank = u.runBank := bit_of_rd_eq F.CFG_BANK_RUN_BANK (h R.CFG_BANK (by decide) (by decide))
  have ha : v.fld F.CFG_JOBA_JOB_ID = u.fld F.CFG_JOBA_JOB_ID := fld_of_rd_eq F.CFG_JOBA_JOB_ID (h R.CFG_JOBA (by decide) (by decide))
  have hb : v.fld F.CFG_JOBB_JOB_ID = u.fld F.CFG_JOBB_JOB_ID := fld_of_rd_eq F.CFG_JOBB_JOB_ID (h R.CFG_JOBB (by decide) (by decide))
  refine ⟨congrArg BitVec.toNat (h R.CFG_STRUCT_ID (by decide) (by decide)), ?_⟩
  rw [hbank, State.jobId, State.jobId, ha, hb]

theorem recordReg_cfg {off : Nat} (h1 : 0x00100000 ≤ off) (h2 : off < 0x00200000) : recordReg off = false := by
  refine recordReg_of_block (b := .cfg) ?_ (by decide)
  simp (disch := omega) only [blockOf, if_neg, if_pos]

/-- The state once a heartbeat frame told of its sender. -/
def State.beatTold (s : State) (ack : Option (BitVec 12)) (c fl seq : Byte) : State := (s.beatHeard ack).beatNoted c.toNat fl.toNat seq.toNat

theorem beatTold_primary (s : State) (ack : Option (BitVec 12)) : (s.beatTold ack c fl seq).primary = s.primary := by
  rw [State.beatTold, beatNoted_eq]
  exact congrArg (· != 0) ((beatHeard_spec s ack).2.2.2.1 F.FLT_PAIR_STAT_ROLE rfl (.inr (by decide)))

theorem beatTold_flt (s : State) (ack : Option (BitVec 12)) : (s.beatTold ack c fl seq).flt =
    FltS.noted { s.flt with heard := true, hbT := s.evtNow } (s.primary && bitN s.flt.peerFl 1 && !bitN fl.toNat 1) c.toNat fl.toNat seq.toNat := by
  obtain ⟨hflt, -, -, hstat, -⟩ := beatHeard_spec s ack
  have hprim : (s.beatHeard ack).primary = s.primary := congrArg (· != 0) (hstat F.FLT_PAIR_STAT_ROLE rfl (.inr (by decide)))
  rw [State.beatTold, beatNoted_eq, hflt, hprim]

theorem beatTold_rd (s : State) (ack : Option (BitVec 12)) (off : Nat) : (s.beatTold ack c fl seq).rd off = (s.beatHeard ack).rd off := by
  rw [State.beatTold, beatNoted_eq]
  rfl

theorem beatTold_frame (s : State) (ack : Option (BitVec 12)) :
    Frame { s.npAck s.pairPort ack with flt := (s.beatTold ack c fl seq).flt } (s.beatTold ack c fl seq) [F.FLT_PAIR_STAT_MISSED] := by
  obtain ⟨-, -, -, -, hframe⟩ := beatHeard_spec s ack
  rw [State.beatTold, beatNoted_eq]
  exact hframe.withFlt _

theorem beatTold_ids (s : State) (ack : Option (BitVec 12)) : (s.beatTold ack c fl seq).rdN R.CFG_STRUCT_ID = s.rdN R.CFG_STRUCT_ID ∧
    (s.beatTold ack c fl seq).jobId (s.beatTold ack c fl seq).runBank = s.jobId s.runBank := by
  obtain ⟨-, -, hrd, -, -⟩ := beatHeard_spec s ack
  exact ids_of_rd fun off h1 h2 => (beatTold_rd fl c seq s ack off).trans (hrd off (by simp only [R.FLT_PAIR_STAT]; omega) (by omega))

theorem beatTold_missed (s : State) (ack : Option (BitVec 12)) : (s.beatTold ack c fl seq).fld F.FLT_PAIR_STAT_MISSED = 0 :=
  (fld_of_rd_eq F.FLT_PAIR_STAT_MISSED (beatTold_rd fl c seq s ack _)).trans (beatHeard_spec s ack).2.1

/-- A heartbeat frame, step by step. -/
theorem exec_beat (h : s.bit F.FLT_PAIR_CFG_PAIR_EN = true) (ack : Option (BitVec 12)) :
    ∃ t, exec (.heartbeatReceived (some ([role, fl, c, seq] ++ id.toList ++ job.toList ++ rest.toList, ack))) s = done s
      (((((s.beatTold ack c fl seq).gapTaken (s.beatGap seq.toNat)).idsTaken (leVal id.toList) (leVal job.toList)).requestTaken fl.toNat t).handoverTaken fl.toNat) := by
  obtain ⟨h1, h2, h3, h4, h5⟩ := beatBytes_slices role fl c seq id job rest
  have hx := exec_heartbeatFrame h (beatBytes role fl c seq id job rest) ack
  rw [heartbeatFrame_eq, h1, h2, h3, h4, h5] at hx
  have hgap : (s.beatHeard ack).beatGap seq.toNat = s.beatGap seq.toNat := by
    rw [State.beatGap, (beatHeard_spec s ack).1]
    rfl
  rw [hgap] at hx
  exact ⟨_, hx⟩

theorem noted_false (x : FltS) (c fl seq : Nat) : x.noted false c fl seq = { x with peerGen := c / 2, peerFl := fl, peerSeq := some seq } := rfl

theorem heartbeat_told (hp : s.bit F.FLT_PAIR_CFG_PAIR_EN = true) (hreq : bitN fl.toNat 2 = false)
    (hgap : s.flt.resync.phase = 0 ∨ (∀ q, s.flt.peerSeq = some q → seq.toNat = (q + 1) % 256))
    (hids : s.primary = true ∨ (bitN fl.toNat 0 = false ∧ leVal id.toList = s.rdN R.CFG_STRUCT_ID ∧ leVal job.toList = s.jobId s.runBank))
    (ack : Option (BitVec 12)) :
    let f := { s.flt with heard := true, hbT := s.evtNow, peerGen := c.toNat / 2, peerFl := fl.toNat, peerSeq := some seq.toNat }
    Completes (.heartbeatReceived (some ([role, fl, c, seq] ++ id.toList ++ job.toList ++ rest.toList, ack))) s (fun v => v.fld F.FLT_PAIR_STAT_MISSED = 0 ∧
      Frame { s.npAck s.pairPort ack with
        flt := if s.primary = true ∧ bitN s.flt.peerFl 1 = true ∧ bitN fl.toNat 1 = false then { f with cmpOn := false, own := [], peer := [] } else f } v
        [F.FLT_PAIR_STAT_MISSED]) := by
  intro f
  obtain ⟨t, hx⟩ := exec_beat role fl c seq id job rest hp ack
  have hprim := beatTold_primary fl c seq s ack
  have hphase : (s.beatTold ack c fl seq).flt.resync = s.flt.resync := by rw [beatTold_flt, noted_resync]
  obtain ⟨hid, hjob⟩ := beatTold_ids fl c seq s ack
  have hnogap : (s.beatTold ack c fl seq).gapTaken (s.beatGap seq.toNat) = s.beatTold ack c fl seq := by
    refine gapTaken_idle (hgap.imp (fun h => by rw [hphase]; exact h) fun h => ?_)
    rw [State.beatGap]
    cases hq : s.flt.peerSeq with
    | none => rfl
    | some q => simp [h q hq]
  rw [hnogap, idsTaken_same (hids.imp (fun h => hprim.trans h) fun h => ⟨h.2.1.trans hid.symm, h.2.2.trans hjob.symm⟩), requestTaken_idle (.inr hreq),
    handoverTaken_idle (hids.imp (fun h => hprim.trans h) fun h => h.1)] at hx
  have hflt : (if s.primary = true ∧ bitN s.flt.peerFl 1 = true ∧ bitN fl.toNat 1 = false then { f with cmpOn := false, own := [], peer := [] } else f) =
      (s.beatTold ack c fl seq).flt := by
    rw [beatTold_flt, FltS.noted]
    cases s.primary <;> cases bitN s.flt.peerFl 1 <;> cases bitN fl.toNat 1 <;> rfl
  refine completes_of_done hx ⟨beatTold_missed fl c seq s ack, ?_⟩
  rw [hflt]
  exact beatTold_frame fl c seq s ack

section Standby
variable (hp : s.bit F.FLT_PAIR_CFG_PAIR_EN = true) (hho : bitN fl.toNat 0 = false) (hprim : s.primary = false)
include hp hho hprim

theorem heartbeat_unsync (hphase : s.flt.resync.phase = 0) (hsync : s.fld F.FLT_PAIR_STAT_SYNC ≠ 1)
    (hids : leVal id.toList ≠ s.rdN R.CFG_STRUCT_ID ∨ leVal job.toList ≠ s.jobId s.runBank) (ack : Option (BitVec 12)) :
    Completes (.heartbeatReceived (some ([role, fl, c, seq] ++ id.toList ++ job.toList ++ rest.toList, ack))) s (After (fun u => u.pairFault 0x06) (fun u =>
      u.fld F.FLT_PAIR_STAT_MISSED = 0 ∧ u.fld F.FLT_PAIR_STAT_SYNC = 0 ∧
      Frame { s.npAck s.pairPort ack with
          flt := { s.flt with heard := true, hbT := s.evtNow, peerGen := c.toNat / 2, peerFl := fl.toNat, peerSeq := some seq.toNat, cmpOn := false, own := [], peer := [] } } u
        [F.FLT_PAIR_STAT_MISSED, F.FLT_PAIR_STAT_SYNC])) := by
  obtain ⟨t, hx⟩ := exec_beat role fl c seq id job rest hp ack
  have hstill := (beatTold_primary fl c seq s ack).trans hprim
  obtain ⟨hid, hjob⟩ := beatTold_ids fl c seq s ack
  have hflt := beatTold_flt fl c seq s ack
  rw [hprim, Bool.false_and, Bool.false_and, noted_false] at hflt
  have hframe := beatTold_frame fl c seq s ack
  have hmissed := beatTold_missed fl c seq s ack
  have hrsync : (s.beatTold ack c fl seq).fld F.FLT_PAIR_STAT_SYNC = s.fld F.FLT_PAIR_STAT_SYNC :=
    (fld_of_rd_eq F.FLT_PAIR_STAT_SYNC (beatTold_rd fl c seq s ack _)).trans ((beatHeard_spec s ack).2.2.2.1 _ rfl (.inr (by decide)))
  generalize s.beatTold ack c fl seq = n at *
  have hnogap : n.gapTaken (s.beatGap seq.toNat) = n := gapTaken_idle (.inl (by rw [hflt]; exact hphase))
  have hdiffers : n.idsTaken (leVal id.toList) (leVal job.toList) = (n.cmpOff.setFld F.FLT_PAIR_STAT_SYNC 0).pairFault 0x06 := by
    rw [State.idsTaken, if_pos, if_neg (by rw [hrsync]; exact hsync)]
    rw [hstill, hid, hjob]
    simpa using hids
  have hrec : RecordFrame (n.cmpOff.setFld F.FLT_PAIR_STAT_SYNC 0) ((n.cmpOff.setFld F.FLT_PAIR_STAT_SYNC 0).pairFault 0x06) := recordFrame_pairFault _ _ _ _
  have hlater : ((n.cmpOff.setFld F.FLT_PAIR_STAT_SYNC 0).pairFault 0x06).primary = false :=
    hrec.primary.trans ((bit_setFld_apart n.cmpOff (f := F.FLT_PAIR_STAT_SYNC) 0 (Fld.fits (by rfl)) (.inr (by decide))).trans hstill)
  rw [hnogap, hdiffers, requestTaken_idle (.inl hlater), handoverTaken_idle (.inr hho)] at hx
  refine completes_of_done hx ⟨_, rfl, ?_, ?_, ?_⟩
  · exact (fld_setFld_apart n.cmpOff (f := F.FLT_PAIR_STAT_SYNC) 0 (Fld.fits (by rfl)) (.inr (by decide))).trans hmissed
  · exact (fld_setFld_self n.cmpOff F.FLT_PAIR_STAT_SYNC 0 (Fld.fits (by rfl))).trans rfl
  · have hoff : Frame { s.npAck s.pairPort ack with flt := { n.flt with cmpOn := false, own := [], peer := [] } } n.cmpOff [F.FLT_PAIR_STAT_MISSED, F.FLT_PAIR_STAT_SYNC] :=
      (hframe.mono (by simp)).withFlt { n.flt with cmpOn := false, own := [], peer := [] }
    rw [hflt] at hoff
    exact hoff.setFld 0 (by simp) (Fld.fits (by rfl))

theorem heartbeat_gap {q : Nat} (hphase : s.flt.resync.phase ≠ 0) (hrun : s.bit F.CFG_CTL_RUN = false) (hq : s.flt.peerSeq = some q) (hseq : seq.toNat ≠ (q + 1) % 256)
    (hid' : leVal id.toList = s.rdN R.CFG_STRUCT_ID) (hjob' : leVal job.toList = s.jobId s.runBank) :
    Completes (.heartbeatReceived (some ([role, fl, c, seq] ++ id.toList ++ job.toList ++ rest.toList, none))) s (After (fun u => u.pairFault 0x08) (fun u =>
      u.fld F.FLT_PAIR_STAT_MISSED = 0 ∧ u.fld F.FLT_PAIR_STAT_SYNC = 3 ∧
      Frame { s with flt := { s.flt with heard := true, hbT := s.evtNow, peerGen := c.toNat / 2, peerFl := fl.toNat, peerSeq := some seq.toNat, resync := ResyncS.none } } u
        [F.FLT_PAIR_STAT_MISSED, F.FLT_PAIR_STAT_SYNC])) := by
  obtain ⟨t, hx⟩ := exec_beat role fl c seq id job rest hp none
  have hstill := (beatTold_primary fl c seq s none).trans hprim
  obtain ⟨hid, hjob⟩ := beatTold_ids fl c seq s none
  have hflt := beatTold_flt fl c seq s none
  rw [hprim, Bool.false_and, Bool.false_and, noted_false] at hflt
  have hframe := beatTold_frame fl c seq s none
  have hmissed := beatTold_missed fl c seq s none
  have hrrun : (s.beatTold none c fl seq).bit F.CFG_CTL_RUN = false :=
    (bit_of_rd_eq F.CFG_CTL_RUN ((beatTold_rd fl c seq s none _).trans ((beatHeard_spec s none).2.2.1 R.CFG_CTL (by decide) (by decide)))).trans hrun
  generalize s.beatTold none c fl seq = n at *
  have hgapped : n.gapTaken (s.beatGap seq.toNat) = ((n.modResync (fun _ => ResyncS.none)).setFld F.FLT_PAIR_STAT_SYNC 3).pairFault 0x08 := by
    have hgap : s.beatGap seq.toNat = true := by simp [State.beatGap, hq, hseq]
    have hstopped : ((n.modResync (fun _ => ResyncS.none)).setFld F.FLT_PAIR_STAT_SYNC 3).runZero = (n.modResync (fun _ => ResyncS.none)).setFld F.FLT_PAIR_STAT_SYNC 3 := by
      refine if_pos ?_
      rw [bit_setFld_apart _ _ (Fld.fits (by rfl)) (.inl (by decide))]
      exact congrArg (!·) hrrun
    rw [State.gapTaken, hgap, if_pos rfl, State.resyncFail, if_neg (by rw [hflt]; exact hphase), hstill, if_neg Bool.false_ne_true]
    exact congrArg (fun x : State => x.pairFault 0x08) hstopped
  have hrec : RecordFrame ((n.modResync (fun _ => ResyncS.none)).setFld F.FLT_PAIR_STAT_SYNC 3)
      (((n.modResync (fun _ => ResyncS.none)).setFld F.FLT_PAIR_STAT_SYNC 3).pairFault 0x08) := recordFrame_pairFault _ _ _ _
  have hlater : (((n.modResync (fun _ => ResyncS.none)).setFld F.FLT_PAIR_STAT_SYNC 3).pairFault 0x08).primary = false :=
    hrec.primary.trans ((bit_setFld_apart (n.modResync (fun _ => ResyncS.none)) (f := F.FLT_PAIR_STAT_SYNC) 3 (Fld.fits (by rfl)) (.inr (by decide))).trans hstill)
  obtain ⟨hids, hjobs⟩ := ids_of_rd (u := n) (v := (((n.modResync (fun _ => ResyncS.none)).setFld F.FLT_PAIR_STAT_SYNC 3).pairFault 0x08)) fun off h1 h2 =>
    (hrec.regs off (recordReg_cfg h1 h2)).trans (rd_setFld_ne (n.modResync (fun _ => ResyncS.none)) F.FLT_PAIR_STAT_SYNC 3 (by
      change off ≠ R.FLT_PAIR_STAT
      simp only [R.FLT_PAIR_STAT]
      omega))
  rw [hgapped, idsTaken_same (.inr ⟨hid'.trans (hids.trans hid).symm, hjob'.trans (hjobs.trans hjob).symm⟩), requestTaken_idle (.inl hlater),
    handoverTaken_idle (.inr hho)] at hx
  refine completes_of_done hx ⟨_, rfl, ?_, ?_, ?_⟩
  · exact (fld_setFld_apart (n.modResync (fun _ => ResyncS.none)) (f := F.FLT_PAIR_STAT_SYNC) 3 (Fld.fits (by rfl)) (.inr (by decide))).trans hmissed
  · exact (fld_setFld_self (n.modResync (fun _ => ResyncS.none)) F.FLT_PAIR_STAT_SYNC 3 (Fld.fits (by rfl))).trans rfl
  · have hoff : Frame { s with flt := { n.flt with resync := ResyncS.none } } (n.modResync (fun _ => ResyncS.none)) [F.FLT_PAIR_STAT_MISSED, F.FLT_PAIR_STAT_SYNC] :=
      (hframe.mono (by simp)).withFlt { n.flt with resync := ResyncS.none }
    rw [hflt] at hoff
    exact hoff.setFld 3 (by simp) (Fld.fits (by rfl))

end Standby

end Frames

/-! ### O56 -/

/-- Settles O56: a heartbeat frame is taken step by step, and a claim is withheld or sets the role, the claim line and frost hold. -/
theorem pairsBeatClaimAndDemote : Obligations.PairsBeatClaimAndDemote := by
  unfold Obligations.PairsBeatClaimAndDemote
  refine ⟨fun s h => heartbeatSend_idle h, fun s hp hf => ?send, fun a b bs s h i hi => ?alone, fun a b bs k p s h hport hw i hi => ?acks,
    fun s h => heartbeatPulse_completes h, fun role fl c seq id job rest ack s hp hreq hgap hids => heartbeat_told role fl c seq id job rest hp hreq hgap hids ack,
    fun role fl c seq id job rest ack s hp hho hprim hphase hsync hids => heartbeat_unsync role fl c seq id job rest hp hho hprim hphase hsync hids ack,
    fun role fl c seq id job rest q s hp hho hprim hphase hrun hq hseq hid hjob => heartbeat_gap role fl c seq id job rest hp hho hprim hphase hrun hq hseq hid hjob,
    fun s h => partnerLost_idle h, fun s hp hm hr h => partnerLost_stays hp hm hr h, fun s hp hm hr hprim hdem hsync => ?claims,
    fun s hp hm hr hprim hdem hsync hfrost => ?held, claimFrame_completes, dclRdWord_valid, dclRdWord_invalid, fun s h => demote_idle h,
    fun s h1 h2 h3 h4 => demote_completes h1 h2 h3 h4, genLower_completes, promote_completes, handover_completes, frostEnd_completes⟩
  case send =>
    intro flags job payload u claim up
    have hpayload : payload = s.heartbeatBytes := by
      have hrole : s.fld F.FLT_PAIR_STAT_ROLE = b2n s.primary := (b2n_bit s (f := F.FLT_PAIR_STAT_ROLE) rfl).symm
      simp only [payload, flags, job, hrole, State.heartbeatBytes, State.synced, State.jobId, beq_iff_eq]
    rw [hpayload]
    obtain ⟨v, hx, hseq, hhand, hdown, hup, hframe⟩ := heartbeatSend_completes hp hf
    exact ⟨v, hx, length_heartbeatBytes s, hseq, hhand, hdown, hup, hframe⟩
  case alone =>
    simp only [List.mem_cons, List.not_mem_nil, or_false] at hi
    rcases hi with rfl | hi
    · exact completes_of_done (v := s) (if_pos (by rw [h]; rfl)) rfl
    · exact completes_of_done (heartbeat_unpaired (a := a) (b := b) (bs := bs) h none (by simpa using hi)) rfl
  case acks =>
    have hx := heartbeat_unpaired (a := a) (b := b) (bs := bs) h (some k) hi
    rw [State.pairPort, ← hport, npAck_quiet hw k] at hx
    exact completes_of_done hx rfl
  case claims =>
    intro gen
    obtain ⟨v, hx, h1, h2, h3, h4, h5, h6, h7, -⟩ := partnerLost_claims hp hm hr hprim hdem hsync
    exact ⟨v, hx, h1, h2, h3, h4, h5, h6, h7⟩
  case held =>
    intro gen
    obtain ⟨v, hx, h1, h2, h3, h4, h5, h6, h7, h8⟩ := partnerLost_claims hp hm hr hprim hdem hsync
    exact ⟨v, hx, h1, h2, h3, h4, h5, h6, h7, h8 hfrost⟩

end Sys2Proof.Machine
end

section
/-!
PROOFS. Operating points and the PMBus engine: targets, moves, and what the engine sends (R392, R406 to R411).
-/
namespace Sys2Proof.Machine

/-! ### What leaves on TW0, and what PWR hides -/

/-- An output moves both ends of a frame. -/
theorem Frame.emit {s v : State} {fs : List Fld} (h : Frame s v fs) (o : Out) : Frame (s.emit o) (v.emit o) fs := by
  have hjtag : v.scanDrives = s.scanDrives := (congrArg State.scanDrives h.rest :)
  have hout : v.out = s.out := (congrArg State.out h.rest :)
  rw [emit_eq, emit_eq, hjtag, hout]
  exact h.withOut _

/-- What PWR hides moves at both ends of a frame. -/
theorem Frame.withPwr {s v : State} {fs : List Fld} (h : Frame s v fs) (x : PwrS) : Frame { s with pwr := x } { v with pwr := x } fs :=
  h.of_eq rfl rfl rfl rfl rfl rfl (congrArg (fun y : State => { y with pwr := x }) h.rest)

theorem Frame.pmbWrite {s v : State} {fs : List Fld} (h : Frame s v fs) (a : Nat) (bs : List Byte) :
    Frame (((s.emit (.twStart 0 a false)).emit (.twData 0 bs)).emit (.twStop 0)) (((v.emit (.twStart 0 a false)).emit (.twData 0 bs)).emit (.twStop 0)) fs :=
  ((h.emit _).emit _).emit _

/-! ### DVFS_TARGET_WRITE (R406, R408, R409) -/

theorem exec_targetWrite {d : Fin 4} {s : State} (h : s.has .die d = true) (x : BitVec 3) : exec (.dvfsTargetWrite d x) s = done s (s.targetWrite d x.toNat) :=
  if_pos h

theorem targetWrite_absent {d : Fin 4} {s : State} (h : s.has .die d = false) (x : BitVec 3) : Completes (.dvfsTargetWrite d x) s (fun v => v = s) :=
  completes_of_done (v := s) (if_neg (by rw [h]; exact Bool.false_ne_true)) rfl

theorem targetWrite_held {d : Fin 4} {s : State} (h : s.has .die d = true) (hb : s.bit F.PWR_STAT_BUSY = true) (x : BitVec 3) :
    Completes (.dvfsTargetWrite d x) s (fun v => v = { s with lastStatus := 0, pwr := { s.pwr with held := s.pwr.held ++ [.target d x.toNat] } }) := by
  refine completes_of_done (exec_targetWrite h x) ?_
  rw [State.targetWrite, if_pos hb]
  rfl

/-- A target that is taken, before the sequencer looks at it. -/
def State.targetPut (s : State) (d v : Nat) : State := (s.setFld (F.PWR_DVFS_TARGET d) v).status 0

theorem targetWrite_eq {s : State} {d v : Nat} (hb : s.bit F.PWR_STAT_BUSY = false) : s.targetWrite d v = match s.moveOf d with
    | some m => (s.targetPut d v).setMove d (some { m with again := true })
    | none => (s.targetPut d v).dvfsGo d := by
  rw [State.targetWrite, if_neg (by rw [hb]; exact Bool.false_ne_true)]
  rfl

theorem targetPut_target (s : State) (d : Nat) (x : BitVec 3) : (s.targetPut d x.toNat).fld (F.PWR_DVFS_TARGET d) = x.toNat :=
  (fld_setFld_self s (F.PWR_DVFS_TARGET d) x.toNat (Fld.fits (by rfl))).trans (Nat.mod_eq_of_lt x.isLt)

theorem targetPut_apart (s : State) (d : Nat) (x : BitVec 3) {f : Fld} (h : (F.PWR_DVFS_TARGET d).Apart f) : (s.targetPut d x.toNat).fld f = s.fld f :=
  fld_setFld_apart s (f := F.PWR_DVFS_TARGET d) x.toNat (Fld.fits (by rfl)) h

theorem targetPut_frame (s : State) (d : Nat) (x : BitVec 3) {fs : List Fld} (h : F.PWR_DVFS_TARGET d ∈ fs) : Frame { s with lastStatus := 0 } (s.targetPut d x.toNat) fs :=
  ((Frame.refl s fs).setFld _ h (Fld.fits (by rfl))).withStatus 0

/-- The effective target that a write of TARGET makes (R408). -/
def State.goalFor (s : State) (d v : Nat) : Nat := min (max v (s.fld (F.PWR_DVFS_FLOOR d))) (s.fld (F.PWR_DVFS_OP_MAX d))

theorem targetPut_goal (s : State) (d : Nat) (x : BitVec 3) : (s.targetPut d x.toNat).dvfsGoal d = s.goalFor d x.toNat := by
  rw [State.dvfsGoal, targetPut_target, targetPut_apart s d x (.inr (.inr (Nat.le_of_ble_eq_true rfl))), targetPut_apart s d x (.inr (.inr (Nat.le_of_ble_eq_true rfl)))]
  rfl

theorem targetPut_cur (s : State) (d : Nat) (x : BitVec 3) : (s.targetPut d x.toNat).fld (F.PWR_DVFS_CUR d) = s.fld (F.PWR_DVFS_CUR d) :=
  targetPut_apart s d x (.inr (.inr (Nat.le_of_ble_eq_true rfl)))

theorem targetWrite_moving {d : Fin 4} {s : State} (h : s.has .die d = true) (hb : s.bit F.PWR_STAT_BUSY = false) {m : Move} (hm : s.moveOf d = some m) (x : BitVec 3) :
    Completes (.dvfsTargetWrite d x) s (fun v => v.fld (F.PWR_DVFS_TARGET d) = x.toNat ∧
      v.pwr.moves = s.pwr.moves.filter (fun y => y.die != d.val) ++ [{ m with again := true }] ∧
      Frame { s with lastStatus := 0, pwr := { s.pwr with moves := v.pwr.moves } } v [F.PWR_DVFS_TARGET d]) := by
  have hx := exec_targetWrite h x
  rw [targetWrite_eq hb, hm] at hx
  exact completes_of_done hx ⟨targetPut_target s d x, rfl, (targetPut_frame s d x (by simp)).withPwr _⟩

theorem dvfsGo_stays {s : State} {d : Nat} (h : (s.moveOf d).isSome = true ∨ s.pwr.powered.contains d = false ∨ s.dvfsGoal d = s.fld (F.PWR_DVFS_CUR d)) :
    s.dvfsGo d = s := by
  refine if_pos ?_
  simp only [Bool.or_eq_true, decide_eq_true_eq]
  rcases h with h | h | h
  · exact .inl (.inl h)
  · exact .inl (.inr (by rw [h]; rfl))
  · exact .inr h

/-- The sequencer marks a die that moves. -/
def State.moveMarked (s : State) (d goal phase : Nat) : State :=
  (s.flag (F.PWR_DVFS_MOVING d)).setMove d (some { die := d, goal := goal, phase := phase, again := false })

theorem dvfsGo_moves {s : State} {d : Nat} (hm : s.moveOf d = none) (hp : s.pwr.powered.contains d = true) (ht : s.dvfsGoal d ≠ s.fld (F.PWR_DVFS_CUR d)) :
    s.dvfsGo d = if s.fld (F.PWR_DVFS_CUR d) < s.dvfsGoal d && s.bit (F.TW0_PMB_EN d) then (s.moveMarked d (s.dvfsGoal d) 0).pmbAsk d (opMv (s.dvfsGoal d))
      else s.moveMarked d (s.dvfsGoal d) 1 := by
  have hgo : ¬ ((s.moveOf d).isSome || !s.pwr.powered.contains d || decide (s.dvfsGoal d = s.fld (F.PWR_DVFS_CUR d))) = true := by
    rw [hm, hp, decide_eq_false ht]
    decide
  have hen : (s.flag (F.PWR_DVFS_MOVING d)).bit (F.TW0_PMB_EN d) = s.bit (F.TW0_PMB_EN d) :=
    bit_of_rd_eq (F.TW0_PMB_EN d) (rd_setFld_ne s (F.PWR_DVFS_MOVING d) 1 (by change R.TW0_PMB d ≠ R.PWR_DVFS d; simp only [R.TW0_PMB, R.PWR_DVFS]; omega))
  refine (if_neg hgo).trans ?_
  rw [hen]
  rfl

theorem targetWrite_same {d : Fin 4} {s : State} (h : s.has .die d = true) (hb : s.bit F.PWR_STAT_BUSY = false) (hm : s.moveOf d = none) (x : BitVec 3)
    (hgo : s.pwr.powered.contains d.val = false ∨ s.goalFor d x.toNat = s.fld (F.PWR_DVFS_CUR d)) :
    Completes (.dvfsTargetWrite d x) s (fun v => v.fld (F.PWR_DVFS_TARGET d) = x.toNat ∧ Frame { s with lastStatus := 0 } v [F.PWR_DVFS_TARGET d]) := by
  have hx := exec_targetWrite h x
  rw [targetWrite_eq hb, hm] at hx
  dsimp only at hx
  rw [dvfsGo_stays (s := s.targetPut d x.toNat) (.inr (hgo.imp id fun h => by rw [targetPut_goal, targetPut_cur]; exact h))] at hx
  exact completes_of_done hx ⟨targetPut_target s d x, targetPut_frame s d x (by simp)⟩

theorem moveOf_setMove (s : State) (d : Nat) (m : Move) (hd : m.die = d) : (s.setMove d (some m)).moveOf d = some m := by
  have hnone : (s.pwr.moves.filter (fun x => x.die != d)).find? (fun x => x.die == d) = none :=
    List.find?_eq_none.mpr fun x hx => by simpa using (List.mem_filter.mp hx).2
  change ((s.pwr.moves.filter (fun x => x.die != d)) ++ [m]).find? (fun x => x.die == d) = some m
  rw [List.find?_append, hnone, List.find?_cons_of_pos (by simpa using hd)]
  rfl

theorem moveMarked_frame (s : State) (d goal phase : Nat) {fs : List Fld} (h : F.PWR_DVFS_MOVING d ∈ fs) :
    Frame { s with pwr := (s.moveMarked d goal phase).pwr } (s.moveMarked d goal phase) fs := ((Frame.refl s fs).flag h (Fld.fits (by rfl))).withPwr _

theorem moveMarked_moving (s : State) (d goal phase : Nat) : (s.moveMarked d goal phase).bit (F.PWR_DVFS_MOVING d) = true :=
  bit_setFld_self s (F.PWR_DVFS_MOVING d) 1 (Fld.fits (by rfl)) rfl

theorem moveMarked_apart (s : State) (d goal phase : Nat) {f : Fld} (h : (F.PWR_DVFS_MOVING d).Apart f) : (s.moveMarked d goal phase).fld f = s.fld f :=
  fld_setFld_apart s (f := F.PWR_DVFS_MOVING d) 1 (Fld.fits (by rfl)) h

theorem targetWrite_falls {d : Fin 4} {s : State} (h : s.has .die d = true) (hb : s.bit F.PWR_STAT_BUSY = false) (hm : s.moveOf d = none)
    (hp : s.pwr.powered.contains d.val = true) (x : BitVec 3)
    (hgo : s.goalFor d x.toNat < s.fld (F.PWR_DVFS_CUR d) ∨ (s.goalFor d x.toNat ≠ s.fld (F.PWR_DVFS_CUR d) ∧ s.bit (F.TW0_PMB_EN d) = false)) :
    Completes (.dvfsTargetWrite d x) s (fun v => v.fld (F.PWR_DVFS_TARGET d) = x.toNat ∧ v.bit (F.PWR_DVFS_MOVING d) = true ∧
      v.moveOf d = some { die := d, goal := s.goalFor d x.toNat, phase := 1, again := false } ∧
      Frame { s with lastStatus := 0, pwr := { s.pwr with moves := v.pwr.moves } } v [F.PWR_DVFS_TARGET d, F.PWR_DVFS_MOVING d]) := by
  have hx := exec_targetWrite h x
  have hne : (s.targetPut d x.toNat).dvfsGoal d ≠ (s.targetPut d x.toNat).fld (F.PWR_DVFS_CUR d) := by
    rw [targetPut_goal, targetPut_cur]
    rcases hgo with h | h
    · omega
    · exact h.1
  have hen : (s.targetPut d x.toNat).bit (F.TW0_PMB_EN d) = s.bit (F.TW0_PMB_EN d) :=
    congrArg (· != 0) (targetPut_apart s d x (.inl (by simp only [F.PWR_DVFS_TARGET, F.TW0_PMB_EN, R.TW0_PMB, R.PWR_DVFS]; omega)))
  rw [targetWrite_eq hb, hm] at hx
  dsimp only at hx
  rw [dvfsGo_moves (s := s.targetPut d x.toNat) hm hp hne, targetPut_goal, targetPut_cur, hen, if_neg] at hx
  · refine completes_of_done hx ⟨?_, moveMarked_moving _ _ _ _, moveOf_setMove _ _ _ rfl, ?_⟩
    · exact (moveMarked_apart _ _ _ _ (.inr (.inl (Nat.le_of_ble_eq_true rfl)))).trans (targetPut_target s d x)
    · exact ((targetPut_frame s d x (by simp)).withPwr _).trans (moveMarked_frame (s.targetPut d x.toNat) d _ 1 (by simp))
  · simp only [Bool.and_eq_true, decide_eq_true_eq, not_and_or, Bool.not_eq_true]
    rcases hgo with h | h
    · exact .inl (by omega)
    · exact .inr h.2

/-! ### The engine (R386, R392) -/

/-- The engine takes up a voltage, before it sends. -/
def State.pmbBegun (s : State) (d : Nat) : State :=
  { (s.flag F.TW0_PMB_STAT_BUSY).setFld F.TW0_PMB_STAT_DIE d with pwr := { s.pwr with inRange := false, wrote := false } }

/-- A voltage is put to the engine. -/
def State.voltAsked (s : State) (d mv : Nat) : State := { s with pwr := { s.pwr with volts := s.pwr.volts ++ [(d, mv)] } }

theorem pmbAsk_if (s : State) (d mv : Nat) :
    s.pmbAsk d mv = if s.pwr.volts.isEmpty then (s.voltAsked d mv).pmbBegin else s.voltAsked d mv := rfl

theorem pmbAsk_idle {s : State} (h : s.pwr.volts = []) (d mv : Nat) : s.pmbAsk d mv = ((s.voltAsked d mv).pmbBegun d).pmbSend := by
  have hvolts : (s.voltAsked d mv).pwr.volts = [(d, mv)] := by rw [State.voltAsked, h, List.nil_append]
  have hbegin : (s.voltAsked d mv).pmbBegin = ((s.voltAsked d mv).pmbBegun d).pmbSend := by
    rw [State.pmbBegin, hvolts]
    rfl
  rw [pmbAsk_if, h, if_pos List.isEmpty_nil, hbegin]

theorem pmbAsk_busy {s : State} (h : s.pwr.volts ≠ []) (d mv : Nat) : s.pmbAsk d mv = s.voltAsked d mv := by
  rw [pmbAsk_if, List.isEmpty_eq_false_iff.mpr h, if_neg Bool.false_ne_true]

theorem pmbSend_rests {s : State} (h : s.pwr.volts = [] ∨ s.pwr.wrote = true ∨ s.pmbFree = false) : s.pmbSend = s := by
  unfold State.pmbSend
  split
  · rfl
  · next hv =>
    refine if_pos ?_
    rcases h with h | h | h
    · rw [h] at hv
      cases hv
    · rw [h]
      rfl
    · rw [h]
      exact Bool.or_true _

/-- What the engine writes to a rail: its voltage, as one transfer on TW0. -/
def State.voltSent (s : State) (a : Nat) (bs : List Byte) : State := ((s.emit (.twStart 0 a false)).emit (.twData 0 bs)).emit (.twStop 0)

theorem pmbSend_plain {s : State} {d mv : Nat} {rest : List (Nat × Nat)} (hv : s.pwr.volts = (d, mv) :: rest) (hw : s.pwr.wrote = false) (hf : s.pmbFree = true)
    (hpage : s.fld (F.TW0_PMB_PAGE d) = 0xFF) (hpec : s.bit (F.TW0_PMB_PEC d) = false) :
    s.pmbSend = { s.voltSent (2 * s.fld (F.TW0_PMB_ADDR d)) ((0x21 : Byte) :: leBytes 2 (voutWord mv (s.sfld (F.TW0_PMB_EXP d)) % 65536)) with
      pwr := { s.pwr with wrote := true } } := by
  have hcmd : s.pmbCmd = voutWord mv (s.sfld (F.TW0_PMB_EXP d)) % 65536 := by rw [State.pmbCmd, hv]
  rw [State.pmbSend, hv]
  dsimp only
  rw [hw, hf, if_neg (by decide), if_pos hpage, hcmd, State.pmbWrite, hpec, if_neg Bool.false_ne_true]
  simp only [emit_eq, State.voltSent]

/-- The engine sends what it may; only the trace and its own note change. -/
theorem pmbSend_eq (s : State) : ∃ o w, s.pmbSend = { s with out := o, pwr := { s.pwr with wrote := w } } := by
  unfold State.pmbSend
  split
  · exact ⟨s.out, s.pwr.wrote, rfl⟩
  · split
    · exact ⟨s.out, s.pwr.wrote, rfl⟩
    · dsimp only
      split <;> simp only [State.pmbWrite, emit_eq] <;> exact ⟨_, _, rfl⟩

/-- A voltage put to an idle engine is at once the one under way. -/
theorem pmbAsk_eq {s : State} (h : s.pwr.volts = []) (d mv : Nat) :
    ∃ o w, s.pmbAsk d mv = { (s.flag F.TW0_PMB_STAT_BUSY).setFld F.TW0_PMB_STAT_DIE d with
      out := o
      pwr := { s.pwr with volts := [(d, mv)], inRange := false, wrote := w } } := by
  obtain ⟨o, w, hs⟩ := pmbSend_eq ((s.voltAsked d mv).pmbBegun d)
  refine ⟨o, w, ?_⟩
  rw [pmbAsk_idle h, hs, State.pmbBegun, State.voltAsked, h]
  rfl

theorem pmbBegun_frame (s : State) (d : Nat) {fs : List Fld} (hb : F.TW0_PMB_STAT_BUSY ∈ fs) (hd : F.TW0_PMB_STAT_DIE ∈ fs) :
    Frame { s with pwr := (s.pmbBegun d).pwr } (s.pmbBegun d) fs :=
  (((Frame.refl s fs).flag hb (Fld.fits (by rfl))).setFld d hd (Fld.fits (by rfl))).withPwr _

theorem pmbBegun_fields (s : State) (d : Fin 4) : (s.pmbBegun d).bit F.TW0_PMB_STAT_BUSY = true ∧ (s.pmbBegun d).fld F.TW0_PMB_STAT_DIE = d := by
  refine ⟨?_, (fld_setFld_self (s.flag F.TW0_PMB_STAT_BUSY) F.TW0_PMB_STAT_DIE d (Fld.fits (by rfl))).trans (Nat.mod_eq_of_lt d.isLt)⟩
  change ((s.flag F.TW0_PMB_STAT_BUSY).setFld F.TW0_PMB_STAT_DIE d).bit F.TW0_PMB_STAT_BUSY = true
  rw [bit_setFld_apart _ _ (Fld.fits (by rfl)) (.inr (by decide))]
  exact bit_setFld_self s F.TW0_PMB_STAT_BUSY 1 (Fld.fits (by rfl)) rfl

theorem rd_pmbBegun (s : State) (d : Nat) {off : Nat} (h : off ≠ R.TW0_PMB_STAT) : (s.pmbBegun d).rd off = s.rd off :=
  (rd_setFld_ne _ F.TW0_PMB_STAT_DIE d h).trans (rd_setFld_ne s F.TW0_PMB_STAT_BUSY 1 h)

theorem voltSent_pwr (s : State) (x : BitVec 8) (p : PwrS) (a : Nat) (bs : List Byte) :
    ({ s with lastStatus := x, pwr := p } : State).voltSent a bs = { s.voltSent a bs with lastStatus := x, pwr := p } := by
  simp only [State.voltSent, emit_eq]
  rfl

theorem rd_voltSent (s : State) (a : Nat) (bs : List Byte) (off : Nat) : (s.voltSent a bs).rd off = s.rd off := by
  simp only [State.voltSent, emit_rd]

theorem Frame.voltSent {s v : State} {fs : List Fld} (h : Frame s v fs) (a : Nat) (bs : List Byte) : Frame (s.voltSent a bs) (v.voltSent a bs) fs :=
  ((h.emit _).emit _).emit _

/-- What an idle engine does with a voltage where it may send. -/
def State.voltBegun (s : State) (d mv : Nat) : State :=
  { ((s.flag F.TW0_PMB_STAT_BUSY).setFld F.TW0_PMB_STAT_DIE d).voltSent (2 * s.fld (F.TW0_PMB_ADDR d))
      ((0x21 : Byte) :: leBytes 2 (voutWord mv (s.sfld (F.TW0_PMB_EXP d)) % 65536)) with
    pwr := { s.pwr with volts := [(d, mv)], inRange := false, wrote := true } }

theorem pmbAsk_sends {s : State} {d : Fin 4} (mv : Nat) (hv : s.pwr.volts = []) (hf : s.pmbFree = true) (hpage : s.fld (F.TW0_PMB_PAGE d) = 0xFF)
    (hpec : s.bit (F.TW0_PMB_PEC d) = false) : s.pmbAsk d mv = s.voltBegun d mv := by
  have hpwr : ((s.voltAsked d mv).pmbBegun d).pwr = { s.pwr with volts := [(d, mv)], inRange := false, wrote := false } := by
    rw [State.pmbBegun, State.voltAsked, hv]
    rfl
  have hbrd : ∀ off, off ≠ R.TW0_PMB_STAT → ((s.voltAsked d mv).pmbBegun d).rd off = s.rd off := fun off ho => rd_pmbBegun (s.voltAsked d mv) d ho
  have hreg : ((s.voltAsked d mv).pmbBegun d).rd (R.TW0_PMB d) = s.rd (R.TW0_PMB d) := hbrd _ (by simp only [R.TW0_PMB, R.TW0_PMB_STAT]; omega)
  have hfree : ((s.voltAsked d mv).pmbBegun d).pmbFree = true := by
    rw [State.pmbFree, bit_of_rd_eq (F.TW_STAT_STUCK_SDA 0) (hbrd (R.TW_STAT 0) (by decide))]
    exact hf
  have hsent := pmbSend_plain (s := (s.voltAsked d mv).pmbBegun d) (rest := []) (congrArg PwrS.volts hpwr) (congrArg PwrS.wrote hpwr) hfree
    ((fld_of_rd_eq (F.TW0_PMB_PAGE d) hreg).trans hpage) ((bit_of_rd_eq (F.TW0_PMB_PEC d) hreg).trans hpec)
  rw [fld_of_rd_eq (F.TW0_PMB_ADDR d) hreg, State.sfld, fld_of_rd_eq (F.TW0_PMB_EXP d) hreg, hpwr] at hsent
  rw [pmbAsk_idle hv, hsent]
  simp only [State.voltBegun, State.voltSent, emit_eq]
  rfl

theorem voltBegun_fields (s : State) (d : Fin 4) (mv : Nat) : (s.voltBegun d mv).bit F.TW0_PMB_STAT_BUSY = true ∧ (s.voltBegun d mv).fld F.TW0_PMB_STAT_DIE = d := by
  obtain ⟨hb, hd⟩ := pmbBegun_fields s d
  have hrd : (s.voltBegun d mv).rd R.TW0_PMB_STAT = (s.pmbBegun d).rd R.TW0_PMB_STAT := rd_voltSent ((s.flag F.TW0_PMB_STAT_BUSY).setFld F.TW0_PMB_STAT_DIE d) _ _ _
  exact ⟨(bit_of_rd_eq F.TW0_PMB_STAT_BUSY hrd).trans hb, (fld_of_rd_eq F.TW0_PMB_STAT_DIE hrd).trans hd⟩

theorem rd_voltBegun (s : State) (d mv : Nat) {off : Nat} (h : off ≠ R.TW0_PMB_STAT) : (s.voltBegun d mv).rd off = s.rd off :=
  (rd_voltSent ((s.flag F.TW0_PMB_STAT_BUSY).setFld F.TW0_PMB_STAT_DIE d) _ _ off).trans (rd_pmbBegun s d h)

theorem voltBegun_frame (s : State) (d mv : Nat) {fs : List Fld} (hb : F.TW0_PMB_STAT_BUSY ∈ fs) (hd : F.TW0_PMB_STAT_DIE ∈ fs) :
    Frame { s.voltSent (2 * s.fld (F.TW0_PMB_ADDR d)) ((0x21 : Byte) :: leBytes 2 (voutWord mv (s.sfld (F.TW0_PMB_EXP d)) % 65536)) with
      pwr := (s.voltBegun d mv).pwr } (s.voltBegun d mv) fs :=
  ((((Frame.refl s fs).flag hb (Fld.fits (by rfl))).setFld d hd (Fld.fits (by rfl))).voltSent _ _).withPwr _

/-- A rise: the engine is asked for the voltage of the new point (R409). -/
theorem targetWrite_rises {d : Fin 4} {s : State} (h : s.has .die d = true) (hb : s.bit F.PWR_STAT_BUSY = false) (hm : s.moveOf d = none)
    (hp : s.pwr.powered.contains d.val = true) (x : BitVec 3) (hgo : s.fld (F.PWR_DVFS_CUR d) < s.goalFor d x.toNat) (hen : s.bit (F.TW0_PMB_EN d) = true)
    (hv : s.pwr.volts = []) (hf : s.pmbFree = true) (hpage : s.fld (F.TW0_PMB_PAGE d) = 0xFF) (hpec : s.bit (F.TW0_PMB_PEC d) = false) :
    let cmd := voutWord (opMv (s.goalFor d x.toNat)) (s.sfld (F.TW0_PMB_EXP d)) % 65536
    let u := s.voltSent (2 * s.fld (F.TW0_PMB_ADDR d)) ((0x21 : Byte) :: leBytes 2 cmd)
    Completes (.dvfsTargetWrite d x) s (fun v => v.fld (F.PWR_DVFS_TARGET d) = x.toNat ∧ v.bit (F.PWR_DVFS_MOVING d) = true ∧
      v.moveOf d = some { die := d, goal := s.goalFor d x.toNat, phase := 0, again := false } ∧ v.pwr.volts = [(d.val, opMv (s.goalFor d x.toNat))] ∧
      v.pwr.inRange = false ∧ v.pwr.wrote = true ∧ v.bit F.TW0_PMB_STAT_BUSY = true ∧ v.fld F.TW0_PMB_STAT_DIE = d ∧
      Frame { u with lastStatus := 0, pwr := { s.pwr with moves := v.pwr.moves, volts := v.pwr.volts, inRange := false, wrote := true } } v
        [F.PWR_DVFS_TARGET d, F.PWR_DVFS_MOVING d, F.TW0_PMB_STAT_BUSY, F.TW0_PMB_STAT_DIE]) := by
  intro cmd u
  have hx := exec_targetWrite h x
  have hlow : ∀ off, off < 0x02D00000 → off ≠ R.PWR_DVFS d := fun off ho => by simp only [R.PWR_DVFS]; omega
  have hpmb : ∀ off, off < 0x02D00000 → (s.targetPut d x.toNat).rd off = s.rd off := fun off ho => rd_setFld_ne s (F.PWR_DVFS_TARGET d) x.toNat (hlow off ho)
  have hreg : R.TW0_PMB d < 0x02D00000 := by
    simp only [R.TW0_PMB]
    omega
  have hput : (s.targetPut d x.toNat).bit (F.TW0_PMB_EN d) = true := (bit_of_rd_eq (F.TW0_PMB_EN d) (hpmb _ hreg)).trans hen
  rw [targetWrite_eq hb, hm] at hx
  dsimp only at hx
  rw [dvfsGo_moves (s := s.targetPut d x.toNat) hm hp (by rw [targetPut_goal, targetPut_cur]; omega), targetPut_goal, targetPut_cur, hput,
    if_pos (by simpa using hgo)] at hx
  have htarget := (moveMarked_apart (s.targetPut d x.toNat) d (s.goalFor d x.toNat) 0 (f := F.PWR_DVFS_TARGET d) (.inr (.inl (Nat.le_of_ble_eq_true rfl)))).trans
    (targetPut_target s d x)
  have hmoving := moveMarked_moving (s.targetPut d x.toNat) d (s.goalFor d x.toNat) 0
  have hmove : ((s.targetPut d x.toNat).moveMarked d (s.goalFor d x.toNat) 0).moveOf d = some { die := d, goal := s.goalFor d x.toNat, phase := 0, again := false } :=
    moveOf_setMove _ _ _ rfl
  have hmarked : Frame { s with lastStatus := 0, pwr := ((s.targetPut d x.toNat).moveMarked d (s.goalFor d x.toNat) 0).pwr }
      ((s.targetPut d x.toNat).moveMarked d (s.goalFor d x.toNat) 0) [F.PWR_DVFS_TARGET d, F.PWR_DVFS_MOVING d, F.TW0_PMB_STAT_BUSY, F.TW0_PMB_STAT_DIE] :=
    ((targetPut_frame s d x (by simp)).withPwr _).trans (moveMarked_frame (s.targetPut d x.toNat) d _ 0 (by simp))
  have hpwr : ((s.targetPut d x.toNat).moveMarked d (s.goalFor d x.toNat) 0).pwr =
    { s.pwr with moves := ((s.targetPut d x.toNat).moveMarked d (s.goalFor d x.toNat) 0).pwr.moves } := rfl
  have hrd : ∀ off, off < 0x02D00000 → ((s.targetPut d x.toNat).moveMarked d (s.goalFor d x.toNat) 0).rd off = s.rd off := fun off ho =>
    (rd_setFld_ne (s.targetPut d x.toNat) (F.PWR_DVFS_MOVING d) 1 (hlow off ho)).trans (hpmb off ho)
  have htw : ((s.targetPut d x.toNat).moveMarked d (s.goalFor d x.toNat) 0).tw = s.tw := rfl
  generalize (s.targetPut d x.toNat).moveMarked d (s.goalFor d x.toNat) 0 = w at *
  have hwreg := hrd _ hreg
  have hfree : w.pmbFree = true := by
    rw [State.pmbFree, bit_of_rd_eq (F.TW_STAT_STUCK_SDA 0) (hrd (R.TW_STAT 0) (by decide)), State.twS, htw]
    exact hf
  rw [pmbAsk_sends (opMv (s.goalFor d x.toNat)) (by rw [hpwr]; exact hv) hfree ((fld_of_rd_eq (F.TW0_PMB_PAGE d) hwreg).trans hpage)
    ((bit_of_rd_eq (F.TW0_PMB_PEC d) hwreg).trans hpec)] at hx
  obtain ⟨hbusy, hdie⟩ := voltBegun_fields w d (opMv (s.goalFor d x.toNat))
  have hdvfs : (w.voltBegun d (opMv (s.goalFor d x.toNat))).rd (R.PWR_DVFS d) = w.rd (R.PWR_DVFS d) :=
    rd_voltBegun w d _ (by simp only [R.PWR_DVFS, R.TW0_PMB_STAT]; omega)
  have hqpwr : (w.voltBegun d (opMv (s.goalFor d x.toNat))).pwr =
      { s.pwr with moves := w.pwr.moves, volts := [(d.val, opMv (s.goalFor d x.toNat))], inRange := false, wrote := true } :=
    congrArg (fun p : PwrS => { p with volts := [(d.val, opMv (s.goalFor d x.toNat))], inRange := false, wrote := true }) hpwr
  have hbegun := voltBegun_frame w d (opMv (s.goalFor d x.toNat)) (fs := [F.PWR_DVFS_TARGET d, F.PWR_DVFS_MOVING d, F.TW0_PMB_STAT_BUSY, F.TW0_PMB_STAT_DIE])
    (by simp) (by simp)
  rw [fld_of_rd_eq (F.TW0_PMB_ADDR d) hwreg, State.sfld, fld_of_rd_eq (F.TW0_PMB_EXP d) hwreg] at hbegun
  have hsent := (hmarked.voltSent (2 * s.fld (F.TW0_PMB_ADDR d)) ((0x21 : Byte) :: leBytes 2 cmd)).withPwr (w.voltBegun d (opMv (s.goalFor d x.toNat))).pwr
  rw [voltSent_pwr] at hsent
  refine completes_of_done hx ⟨?_, ?_, ?_, congrArg PwrS.volts hqpwr, congrArg PwrS.inRange hqpwr, congrArg PwrS.wrote hqpwr, hbusy, hdie, ?_⟩
  · exact (fld_of_rd_eq (F.PWR_DVFS_TARGET d) hdvfs).trans htarget
  · exact (bit_of_rd_eq (F.PWR_DVFS_MOVING d) hdvfs).trans hmoving
  · refine Eq.trans ?_ hmove
    rw [State.moveOf, hqpwr]
    rfl
  · refine Eq.mp ?_ (hsent.trans hbegun)
    rw [hqpwr]

/-! ### Commands with nothing to do -/

theorem freqSwitch_idle {d : Fin 4} {s : State} (h : ∀ m : Move, s.moveOf d = some m → m.phase ≠ 1) : Completes (.dvfsFreqSwitch d) s (fun v => v = s) := by
  refine completes_of_done (v := s) ?_ rfl
  change execDvfsFreqSwitch d s = _
  unfold execDvfsFreqSwitch
  cases hm : s.moveOf d with
  | none => rfl
  | some m => exact if_pos (h m hm)

theorem pmbus_idle {s : State} (h : s.pwr.volts = []) (x : BitVec 16) (ok : Bool) : Completes (.pmbusPoll x ok) s (fun v => v = s) ∧
    Completes .pmbusTimeout s (fun v => v = s) ∧ Completes (.pmbusSetDone x ok) s (fun v => v = s) := by
  refine ⟨completes_of_done (v := s) ?_ rfl, completes_of_done (v := s) (if_pos (by rw [h]; rfl)) rfl, completes_of_done (v := s) ?_ rfl⟩
  · change execPmbusPoll x ok s = _
    rw [execPmbusPoll, h]
  · change execPmbusSetDone x ok s = _
    rw [execPmbusSetDone, h]

theorem setDone_waits {s : State} {ok : Bool} (h : s.pwr.wrote = false ∨ s.pmbFree = false ∨ (s.pwr.inRange = false ∧ ok = true)) (x : BitVec 16) :
    Completes (.pmbusSetDone x ok) s (fun v => v = s) := by
  refine completes_of_done (v := s) ?_ rfl
  change execPmbusSetDone x ok s = _
  unfold execPmbusSetDone
  split
  · rfl
  · split
    · rfl
    · next hgo =>
      simp only [Bool.or_eq_true, Bool.not_eq_true', not_or, Bool.not_eq_false] at hgo
      obtain ⟨hrange, hok⟩ := (h.resolve_left (by simp [hgo.2])).resolve_left (by simp [hgo.1])
      rw [hrange, hok]
      rfl

theorem poll_waits {s : State} (h : s.pmbFree = false ∨ s.pwr.inRange = true) (x : BitVec 16) : Completes (.pmbusPoll x true) s (fun v => v = s) := by
  refine completes_of_done (v := s) ?_ rfl
  change execPmbusPoll x true s = _
  unfold execPmbusPoll
  split
  · rfl
  · refine if_pos ?_
    rcases h with h | h
    · rw [h]
      exact Bool.or_true _
    · rw [h]
      rfl

theorem dieRailUp_idle {d : Fin 4} {s : State} (h : s.has .die d = false ∨ s.pwr.powered.contains d.val = true ∨ s.fld F.PWR_STAT_STATE = 2) :
    Completes (.dieRailUp d) s (fun v => v = s) := by
  refine completes_of_done (v := s) (if_pos ?_) rfl
  simp only [Bool.or_eq_true, Bool.not_eq_true', decide_eq_true_eq]
  rcases h with h | h | h
  · exact .inl (.inl h)
  · exact .inl (.inr h)
  · exact .inr h

theorem dieRestore_idle {d : Fin 4} {s : State} (h : s.pwr.dies.head? ≠ some d.val ∨ s.pwr.leaving = none ∨ s.pwr.volts.any (fun v => v.1 == d.val) = true)
    (ok : Bool) : Completes (.dieRestoreDone d ok) s (fun v => v = s) := by
  refine completes_of_done (v := s) ?_ rfl
  change execDieRestoreDone d ok s = _
  unfold execDieRestoreDone
  split
  · rfl
  · next c rest hd =>
    refine if_pos ?_
    rw [hd, List.head?_cons] at h
    by_cases hc : c = d.val
    · subst hc
      rcases h with h | h | h
      · exact absurd rfl h
      · rw [h]
        simp
      · rw [h]
        exact Bool.or_true _
    · simp [hc]

/-! ### DVFS_FREQ_SWITCH of a fall, DIE_RAIL_UP with the engine (R409, R459) -/

theorem freqSwitch_asks {d : Fin 4} {s : State} {m : Move} (hm : s.moveOf d = some m) (hphase : m.phase = 1) (hfall : m.goal < s.fld (F.PWR_DVFS_CUR d))
    (hen : s.bit (F.TW0_PMB_EN d) = true) (hv : s.pwr.volts ≠ []) :
    Completes (.dvfsFreqSwitch d) s (fun v => v.fld (F.PWR_DVFS_CUR d) = s.fld (F.PWR_DVFS_CUR d) ∧
      v = { s with pwr := { s.pwr with moves := s.pwr.moves.filter (fun y => y.die != d.val) ++ [{ m with phase := 2 }], volts := s.pwr.volts ++ [(d.val, opMv m.goal)] } }) := by
  have hx : exec (.dvfsFreqSwitch d) s = done s ((s.setMove d (some { m with phase := 2 })).pmbAsk d (opMv m.goal)) := by
    change execDvfsFreqSwitch d s = _
    unfold execDvfsFreqSwitch
    rw [hm]
    dsimp only
    rw [if_neg (not_not.mpr hphase), if_pos (by simp [hfall, hen])]
  rw [pmbAsk_busy (s := s.setMove d (some { m with phase := 2 })) hv] at hx
  exact completes_of_done hx ⟨rfl, rfl⟩

/-- A die whose rail is up waits for its floor. -/
def State.railMove (s : State) (d : Nat) : State :=
  { s with
    pwr := { s.pwr with
      powered := s.pwr.powered ++ [d]
      moves := s.pwr.moves.filter (fun y => y.die != d) ++ [{ die := d, goal := s.fld (F.PWR_DVFS_FLOOR d), phase := 0, again := false }] } }

theorem exec_dieRailUp {d : Fin 4} {s : State} (h : s.has .die d = true) (hp : s.pwr.powered.contains d.val = false) (hst : s.fld F.PWR_STAT_STATE ≠ 2) :
    exec (.dieRailUp d) s = done s (if s.bit (F.TW0_PMB_EN d) then ((s.railMove d).flag (F.PWR_DVFS_MOVING d)).pmbAsk d (opMv (s.fld (F.PWR_DVFS_FLOOR d)))
      else ((({ s with pwr := { s.pwr with powered := s.pwr.powered ++ [d.val] } } : State).setFld (F.PWR_DVFS_CUR d) (s.fld (F.PWR_DVFS_FLOOR d))).dieReady d).dvfsGo d) := by
  change execDieRailUp d s = _
  unfold execDieRailUp
  dsimp only
  rw [if_neg (by rw [h, hp, decide_eq_false hst]; decide)]
  split <;> rfl

theorem dieRailUp_asks {d : Fin 4} {s : State} (h : s.has .die d = true) (hp : s.pwr.powered.contains d.val = false) (hst : s.fld F.PWR_STAT_STATE ≠ 2)
    (hen : s.bit (F.TW0_PMB_EN d) = true) (hv : s.pwr.volts ≠ []) :
    Completes (.dieRailUp d) s (fun v => v.bit (F.PWR_DVFS_MOVING d) = true ∧
      Frame { s with pwr := { s.pwr with powered := s.pwr.powered ++ [d.val], volts := s.pwr.volts ++ [(d.val, opMv (s.fld (F.PWR_DVFS_FLOOR d)))], moves := s.pwr.moves.filter (fun y => y.die != d.val) ++ [{ die := d, goal := s.fld (F.PWR_DVFS_FLOOR d), phase := 0, again := false }] } } v
        [F.PWR_DVFS_MOVING d]) := by
  have hx := exec_dieRailUp h hp hst
  rw [hen, if_pos rfl, pmbAsk_busy (s := (s.railMove d).flag (F.PWR_DVFS_MOVING d)) hv] at hx
  refine completes_of_done hx ⟨bit_setFld_self (s.railMove d) (F.PWR_DVFS_MOVING d) 1 (Fld.fits (by rfl)) rfl, ?_⟩
  exact ((Frame.refl (s.railMove d) [F.PWR_DVFS_MOVING d]).flag (by simp) (Fld.fits (by rfl))).withPwr _

/-! ### PMBUS_POLL and PMBUS_SET_DONE that go well (R392) -/

/-- A Read Word of the engine. -/
def State.wordRead (s : State) (d : Nat) (cmd : Byte) : State :=
  (((s.emit (.twStart 0 (2 * s.fld (F.TW0_PMB_ADDR d)) false)).emit (.twData 0 [cmd])).emit (.twStart 0 (2 * s.fld (F.TW0_PMB_ADDR d) + 1) true)).emit (.twStop 0)

theorem wordRead_eq (s : State) (d : Nat) (cmd : Byte) : ∃ o, s.wordRead d cmd = { s with out := o } := by
  simp only [State.wordRead, emit_eq]
  exact ⟨_, rfl⟩

theorem exec_poll {s : State} {d mv : Nat} {rest : List (Nat × Nat)} (hv : s.pwr.volts = (d, mv) :: rest) (hr : s.pwr.inRange = false) (hw : s.pwr.wrote = true)
    (hf : s.pmbFree = true) (x : BitVec 16) (ok : Bool) : exec (.pmbusPoll x ok) s = done s (if ok then
      (if voutNear x.toNat (voutWord mv (s.sfld (F.TW0_PMB_EXP d)) % 65536) (s.sfld (F.TW0_PMB_EXP d)) (s.fld F.TW0_PMB_CFG_VTOL)
        then { s.wordRead d 0x8B with pwr := { s.pwr with inRange := true } } else s.wordRead d 0x8B) else (s.wordRead d 0x8B).pmbEnd false) := by
  have hcmd : s.pmbCmd = voutWord mv (s.sfld (F.TW0_PMB_EXP d)) % 65536 := by rw [State.pmbCmd, hv]
  have hpwr : (s.wordRead d 0x8B).pwr = s.pwr := by
    obtain ⟨o, ho⟩ := wordRead_eq s d 0x8B
    rw [ho]
  change execPmbusPoll x ok s = _
  unfold execPmbusPoll
  rw [hv]
  dsimp only
  rw [hr, hf, if_neg (by decide), pmbSend_rests (.inr (.inl hw)), show s.pmbRead d 0x8B = s.wordRead d 0x8B from rfl, hcmd, hpwr]
  cases ok with
  | false => rfl
  | true =>
    rw [Bool.not_true, if_neg Bool.false_ne_true, if_pos rfl]
    split <;> rfl

theorem exec_setDone {s : State} {d mv : Nat} {rest : List (Nat × Nat)} (hv : s.pwr.volts = (d, mv) :: rest) (hw : s.pwr.wrote = true) (hf : s.pmbFree = true)
    (x : BitVec 16) (ok : Bool) : exec (.pmbusSetDone x ok) s = done s (if s.pwr.inRange then (s.wordRead d 0x79).pmbEnd (ok && fieldN x.toNat 1 6 == 0)
      else if ok then s else s.pmbEnd false) := by
  change execPmbusSetDone x ok s = _
  unfold execPmbusSetDone
  rw [hv]
  dsimp only
  rw [hw, hf, if_neg (by decide)]
  cases s.pwr.inRange <;> rfl

/-! ### A voltage ends (R392, R409, R410) -/

/-- The engine is done with its voltage, the last one asked. -/
def State.voltIdle (s : State) : State := ({ s with pwr := { s.pwr with volts := [], inRange := false } } : State).setFld F.TW0_PMB_STAT_BUSY 0

/-- A failure is noted by the sequencer. -/
def State.railFailed (s : State) (d : Nat) : State := (s.flag F.PWR_STAT_DVFS_FAIL).fault 0x09 0x3 d

theorem pmbEnd_last {s : State} {d mv : Nat} (hv : s.pwr.volts = [(d, mv)]) (hl : s.pwr.leaving = none) (ok : Bool) :
    s.pmbEnd ok = (if ok then s.voltIdle else s.voltIdle.flag F.TW0_PMB_STAT_FAIL).voltDone d ok := by
  have hrest : ∀ u : State, u.pwr = s.voltIdle.pwr → u.pmbBegin = u ∧ u.pwr.leaving = none := by
    intro u hu
    rw [State.pmbBegin, hu]
    exact ⟨rfl, hl⟩
  unfold State.pmbEnd
  rw [hv]
  cases ok with
  | true =>
    obtain ⟨h1, h2⟩ := hrest s.voltIdle rfl
    change (if s.voltIdle.pmbBegin.pwr.leaving.isSome && s.voltIdle.pmbBegin.pwr.dies.head? == some d then s.voltIdle.pmbBegin else s.voltIdle.pmbBegin.voltDone d true) = _
    rw [h1, h2, Option.isSome_none, Bool.false_and, if_neg Bool.false_ne_true]
    rfl
  | false =>
    obtain ⟨h1, h2⟩ := hrest (s.voltIdle.flag F.TW0_PMB_STAT_FAIL) rfl
    change (if (s.voltIdle.flag F.TW0_PMB_STAT_FAIL).pmbBegin.pwr.leaving.isSome && (s.voltIdle.flag F.TW0_PMB_STAT_FAIL).pmbBegin.pwr.dies.head? == some d then
      (s.voltIdle.flag F.TW0_PMB_STAT_FAIL).pmbBegin.dieDone d false else (s.voltIdle.flag F.TW0_PMB_STAT_FAIL).pmbBegin.voltDone d false) = _
    rw [h1, h2, Option.isSome_none, Bool.false_and, if_neg Bool.false_ne_true]
    rfl

theorem voltDone_rises {s : State} {d : Nat} {m : Move} (hm : s.moveOf d = some m) (hphase : m.phase = 0) :
    s.voltDone d true = s.setMove d (some { m with phase := 1 }) := by
  rw [State.voltDone, hm]
  exact if_pos hphase

theorem voltDone_fails {s : State} {d : Nat} {m : Move} (hm : s.moveOf d = some m) (hphase : m.phase = 0) :
    s.voltDone d false = ((s.railFailed d).setMove d (some { m with phase := 3 })).pmbAsk d (opMv (s.fld (F.PWR_DVFS_CUR d))) := by
  rw [State.voltDone, hm]
  exact if_pos hphase

/-- The one move under way of a die. -/
theorem moveOf_one {s : State} {d : Nat} {m : Move} (h : s.pwr.moves = [m]) (hd : m.die = d) : s.moveOf d = some m ∧ s.pwr.moves.filter (fun x => x.die != d) = [] := by
  rw [State.moveOf, h, List.find?_cons_of_pos (by simpa using hd), List.filter_cons_of_neg (by simpa using hd)]
  exact ⟨rfl, rfl⟩

theorem setDone_good {s : State} {d : Fin 4} {mv : Nat} {m : Move} (hv : s.pwr.volts = [(d.val, mv)]) (hl : s.pwr.leaving = none) (hr : s.pwr.inRange = true)
    (hw : s.pwr.wrote = true) (hmoves : s.pwr.moves = [m]) (hd : m.die = d) (hphase : m.phase = 0) (hf : s.pmbFree = true) {x : BitVec 16}
    (hx : fieldN x.toNat 1 6 = 0) :
    Completes (.pmbusSetDone x true) s (fun v => v.bit F.TW0_PMB_STAT_BUSY = false ∧
      Frame { s.wordRead d 0x79 with pwr := { s.pwr with inRange := false, volts := [], moves := [{ m with phase := 1 }] } } v [F.TW0_PMB_STAT_BUSY]) := by
  have hexec := exec_setDone hv hw hf x true
  obtain ⟨o, ho⟩ := wordRead_eq s d 0x79
  have hpwr : (s.wordRead d 0x79).pwr = s.pwr := by rw [ho]
  obtain ⟨hmove, hnone⟩ := moveOf_one hmoves hd
  rw [hr, if_pos rfl, hx, pmbEnd_last (hpwr ▸ hv) (hpwr ▸ hl)] at hexec
  generalize s.wordRead d 0x79 = t at *
  have hidle : t.voltIdle.moveOf d = some m := by
    rw [State.moveOf, show t.voltIdle.pwr.moves = t.pwr.moves from rfl, hpwr]
    exact hmove
  rw [show (true && (0 : Nat) == 0) = true from rfl, if_pos rfl, voltDone_rises hidle hphase] at hexec
  refine completes_of_done hexec ⟨?_, ?_⟩
  · exact bit_setFld_self ({ t with pwr := { t.pwr with volts := [], inRange := false } } : State) F.TW0_PMB_STAT_BUSY 0 (Fld.fits (by rfl)) rfl
  · have hlast : (t.voltIdle.setMove d (some { m with phase := 1 })).pwr = { s.pwr with inRange := false, volts := [], moves := [{ m with phase := 1 }] } := by
      change { t.pwr with volts := [], inRange := false, moves := t.pwr.moves.filter (fun x : Move => x.die != d.val) ++ [{ m with phase := 1 }] } = _
      rw [hpwr, hnone]
      rfl
    rw [← hlast]
    exact ((Frame.refl ({ t with pwr := { t.pwr with volts := [], inRange := false } } : State) _).setFld 0 (by simp) (Fld.fits (by rfl))).withPwr _

/-- From `s` to `v` the voltage of a rise of die `d` failed: the sequencer notes it, and asks for the voltage of the die's point again. -/
structure VoltFails (s v : State) (d : Nat) (m : Move) : Prop where
  fail  : v.bit F.TW0_PMB_STAT_FAIL = true
  dvfs  : v.bit F.PWR_STAT_DVFS_FAIL = true
  point : v.rd (R.PWR_DVFS d) = s.rd (R.PWR_DVFS d)
  volts : v.pwr.volts = [(d, opMv (s.fld (F.PWR_DVFS_CUR d)))]
  moves : v.pwr.moves = [{ m with phase := 3 }]
  mem   : FrameMem s v s.spillByte
  regs  : FrameRegs s v (fun off => off == R.PWR_STAT || off == R.TW0_PMB_STAT || inBlocks [.hostq, .seg, .time] off)

theorem pmbEnd_fails {s : State} {d : Fin 4} {mv : Nat} {m : Move} (hv : s.pwr.volts = [(d.val, mv)]) (hl : s.pwr.leaving = none)
    (hmoves : s.pwr.moves = [m]) (hd : m.die = d) (hphase : m.phase = 0) : VoltFails s (s.pmbEnd false) d m := by
  obtain ⟨hmove, hnone⟩ := moveOf_one hmoves hd
  have hgone : (s.voltIdle.flag F.TW0_PMB_STAT_FAIL).moveOf d = some m := hmove
  rw [pmbEnd_last hv hl, if_neg Bool.false_ne_true, voltDone_fails hgone hphase]
  have hfail : (s.voltIdle.flag F.TW0_PMB_STAT_FAIL).bit F.TW0_PMB_STAT_FAIL = true := bit_setFld_self s.voltIdle F.TW0_PMB_STAT_FAIL 1 (Fld.fits (by rfl)) rfl
  have hrd : ∀ off, off ≠ R.TW0_PMB_STAT → (s.voltIdle.flag F.TW0_PMB_STAT_FAIL).rd off = s.rd off := fun off ho =>
    (rd_setFld_ne s.voltIdle F.TW0_PMB_STAT_FAIL 1 ho).trans
      (rd_setFld_ne ({ s with pwr := { s.pwr with volts := [], inRange := false } } : State) F.TW0_PMB_STAT_BUSY 0 ho)
  have hpwr : (s.voltIdle.flag F.TW0_PMB_STAT_FAIL).pwr = { s.pwr with volts := [], inRange := false } := rfl
  have hddr : (s.voltIdle.flag F.TW0_PMB_STAT_FAIL).ddr = s.ddr := rfl
  generalize s.voltIdle.flag F.TW0_PMB_STAT_FAIL = i at *
  have hcur : i.fld (F.PWR_DVFS_CUR d) = s.fld (F.PWR_DVFS_CUR d) :=
    fld_of_rd_eq (F.PWR_DVFS_CUR d) (hrd (R.PWR_DVFS d) (by simp only [R.PWR_DVFS, R.TW0_PMB_STAT]; omega))
  have hrec : RecordFrame (i.flag F.PWR_STAT_DVFS_FAIL) (i.railFailed d) := recordFrame_fault _ _ _ _ _ _ _ _
  have hnoted : (i.flag F.PWR_STAT_DVFS_FAIL).bit F.PWR_STAT_DVFS_FAIL = true := bit_setFld_self i F.PWR_STAT_DVFS_FAIL 1 (Fld.fits (by rfl)) rfl
  have hird : ∀ off, off ≠ R.PWR_STAT → (i.flag F.PWR_STAT_DVFS_FAIL).rd off = i.rd off := fun off ho => rd_setFld_ne i F.PWR_STAT_DVFS_FAIL 1 ho
  have hiddr : (i.flag F.PWR_STAT_DVFS_FAIL).ddr = i.ddr := rfl
  have hnpwr : (i.railFailed d).pwr = i.pwr := hrec.pwr
  generalize i.railFailed d = n at *
  generalize i.flag F.PWR_STAT_DVFS_FAIL = f at *
  obtain ⟨o, w, hask⟩ := pmbAsk_eq (s := n.setMove d (some { m with phase := 3 })) ((congrArg PwrS.volts (hnpwr.trans hpwr) :)) d (opMv (i.fld (F.PWR_DVFS_CUR d)))
  rw [hask]
  have hlast : ∀ off, off ≠ R.TW0_PMB_STAT → (((n.setMove d (some { m with phase := 3 })).flag F.TW0_PMB_STAT_BUSY).setFld F.TW0_PMB_STAT_DIE d).rd off = n.rd off :=
    fun off ho => rd_pmbBegun (n.setMove d (some { m with phase := 3 })) d ho
  have hpoint : ∀ k < 4, R.PWR_DVFS d ≠ R.PWR_STAT + 4 * k := fun k hk => by
    simp only [R.PWR_DVFS, R.PWR_STAT]
    omega
  have hother : R.PWR_DVFS d ≠ R.TW0_PMB_STAT := by
    simp only [R.PWR_DVFS, R.TW0_PMB_STAT]
    omega
  have hnorec : recordReg (R.PWR_DVFS d) = false := by
    refine recordReg_of_block (b := .pwr) ?_ (by decide)
    exact blockOf_pwr (by simp only [R.PWR_DVFS]; omega) (by simp only [R.PWR_DVFS]; omega)
  constructor
  case fail =>
    change (((n.setMove d (some { m with phase := 3 })).flag F.TW0_PMB_STAT_BUSY).setFld F.TW0_PMB_STAT_DIE d).bit F.TW0_PMB_STAT_FAIL = true
    rw [bit_setFld_apart _ _ (Fld.fits (by rfl)) (.inr (by decide)), flag_eq, bit_setFld_apart _ _ (Fld.fits (by rfl)) (.inr (by decide))]
    exact (bit_of_rd_eq F.TW0_PMB_STAT_FAIL ((hrec.regs R.TW0_PMB_STAT (by decide)).trans (hird R.TW0_PMB_STAT (by decide)))).trans hfail
  case dvfs => exact (bit_of_rd_eq F.PWR_STAT_DVFS_FAIL ((hlast R.PWR_STAT (by decide)).trans (hrec.regs R.PWR_STAT (by decide)))).trans hnoted
  case point => exact (hlast _ hother).trans ((hrec.regs _ hnorec).trans ((hird _ (hpoint 0 (by decide))).trans (hrd _ hother)))
  case volts => rw [hcur]
  case moves =>
    change n.pwr.moves.filter (fun x : Move => x.die != d.val) ++ [{ m with phase := 3 }] = _
    rw [hnpwr, hpwr]
    exact congrArg (· ++ _) hnone
  case mem =>
    intro a ha
    refine (hrec.mem a ?_).trans (by rw [hiddr, hddr])
    rw [spillByte_of_rd_eq ((hird R.SEG_SPILL_CTL (by decide)).trans (hrd R.SEG_SPILL_CTL (by decide)))]
    exact ha
  case regs =>
    intro off ho
    simp only [Bool.or_eq_false_iff, beq_eq_false_iff_ne] at ho
    obtain ⟨⟨h1, h2⟩, h3⟩ := ho
    have hr : recordReg off = false := Bool.eq_false_iff.mpr fun h => by rw [inBlocks_of_recordReg h] at h3; cases h3
    exact (hlast off h2).trans ((hrec.regs off hr).trans ((hird off h1).trans (hrd off h2)))

theorem VoltFails.of_out {s v : State} {d : Nat} {m : Move} (o : List Out) (h : VoltFails { s with out := o } v d m) : VoltFails s v d m :=
  ⟨h.fail, h.dvfs, h.point, h.volts, h.moves, h.mem, h.regs⟩

theorem wordRead_fails {s : State} {d : Fin 4} {mv : Nat} {m : Move} (hv : s.pwr.volts = [(d.val, mv)]) (hl : s.pwr.leaving = none)
    (hmoves : s.pwr.moves = [m]) (hd : m.die = d) (hphase : m.phase = 0) (cmd : Byte) : VoltFails s ((s.wordRead d cmd).pmbEnd false) d m := by
  obtain ⟨o, ho⟩ := wordRead_eq s d cmd
  rw [ho]
  exact (pmbEnd_fails (s := { s with out := o }) hv hl hmoves hd hphase).of_out o

/-! ### Ready bits of the regions (R30) -/

/-- A field inside a listed one may be set. -/
theorem Frame.setFld_inside {s v : State} {fs : List Fld} (h : Frame s v fs) {f g : Fld} (x : Nat) (hg : g ∈ fs) (hoff : f.off = g.off) (hw : f.lo + f.w ≤ 32)
    (hgw : g.lo + g.w ≤ 32) (hlo : g.lo ≤ f.lo) (hhi : f.lo + f.w ≤ g.lo + g.w) : Frame s (v.setFld f x) fs := by
  refine h.put _ (ins_outside f _ _ _ hw ?_)
  apply BitVec.eq_of_getLsbD_eq
  intro i hi
  have hcover := congrArg (fun x : Word => x.getLsbD i) (fieldBits_covers hg)
  have hf := testBit_mask f hw i
  have hgm := testBit_mask g hgw i
  rw [BitVec.testBit_toNat] at hf hgm
  simp only [BitVec.getLsbD_and, hf, hgm, hoff] at hcover ⊢
  by_cases hin : f.lo ≤ i ∧ i < f.lo + f.w
  · have hgin : g.lo ≤ i ∧ i < g.lo + g.w := by omega
    simpa [hin.1, hin.2, hgin.1, hgin.2] using hcover
  · simp [hin]

/-- The ready bits of all regions. -/
def vgBits : Fld := ⟨R.TOP_READY, 24, 8⟩

/-- The ready bit of a region. -/
def vgBit (n : Nat) : Fld := ⟨R.TOP_READY, 24 + n, 1⟩

theorem readyFld_vg {n : Nat} (h : n < 8) : readyFld (24 + n) = vgBit n := by
  rw [readyFld, if_pos (by omega), Nat.mod_eq_of_lt (by omega)]
  rfl

theorem any_range_congr {f g : Nat → Bool} {n : Nat} (h : ∀ j < n, f j = g j) : (List.range n).any f = (List.range n).any g := by
  rw [Bool.eq_iff_iff]
  simp only [List.any_eq_true, List.mem_range]
  exact exists_congr fun j => and_congr_right fun hj => by rw [h j hj]

/-- Whether a region is up hangs on registers other than its ready bits. -/
theorem vgUp_congr (s v : State) {n : Nat} (hvg : v.vg = s.vg) (hstop : v.rd R.CFG_STAT = s.rd R.CFG_STAT)
    (hmap : ∀ j < 64, v.rd (R.VG_VU_MAP n j) = s.rd (R.VG_VU_MAP n j))
    (hdie : v.bit ⟨R.TOP_READY, 20 + n / 2, 1⟩ = s.bit ⟨R.TOP_READY, 20 + n / 2, 1⟩) : v.vgUp n = s.vgUp n := by
  rw [State.vgUp, State.vgUp, hvg, bit_of_rd_eq F.CFG_STAT_PIPE_STOPPED hstop, hdie,
    any_range_congr fun j hj => bit_of_rd_eq (F.VG_VU_MAP_ASSIGNED n j) (hmap j hj)]

theorem vgMap_ne (n j : Nat) : R.VG_VU_MAP n j ≠ R.TOP_READY := by
  simp only [R.VG_VU_MAP, R.TOP_READY]
  omega

theorem vgUp_setVg (s : State) (k x : Nat) {n : Nat} (hn : n < 8) (hk : k < 8) : (s.setFld (vgBit k) x).vgUp n = s.vgUp n := by
  have hfit : (vgBit k).lo + (vgBit k).w ≤ 32 := by
    simp only [vgBit]
    omega
  refine vgUp_congr s (s.setFld (vgBit k) x) rfl (rd_setFld_ne s (vgBit k) x (show R.CFG_STAT ≠ R.TOP_READY by decide))
    (fun j _ => rd_setFld_ne s (vgBit k) x (vgMap_ne n j)) ?_
  exact bit_setFld_apart _ _ hfit (.inr (by simp only [vgBit]; omega))

/-- From `s` to `v` the ready bits of the regions `l` follow, and none falls. -/
structure VgFollow (s v : State) (l : List Nat) : Prop where
  frame : Frame s v [vgBits]
  bits  : ∀ n ∈ l, v.bit (vgBit n) = s.vgUp n
  kept  : ∀ n, n < 8 → n ∉ l → v.bit (vgBit n) = s.bit (vgBit n)
  up    : ∀ n, n < 8 → v.vgUp n = s.vgUp n
  apart : ∀ f : Fld, vgBits.Apart f → v.fld f = s.fld f

theorem vgFollow_one {s : State} {n : Nat} (hn : n < 8) (h : s.bit (vgBit n) = true → s.vgUp n = true) : VgFollow s (s.setReady (24 + n) (s.vgUp n)) [n] := by
  have hfit : (vgBit n).lo + (vgBit n).w ≤ 32 := by
    simp only [vgBit]
    omega
  cases hup : s.vgUp n with
  | true =>
    have hflag : s.setReady (24 + n) true = s.setFld (vgBit n) 1 := by
      rw [← readyFld_vg hn]
      rfl
    rw [hflag]
    refine ⟨?_, fun m hm => ?_, fun m hm hne => ?_, fun m hm => vgUp_setVg s n 1 hm hn, fun f hf => ?_⟩
    · exact (Frame.refl s _).setFld_inside (g := vgBits) 1 (by simp) rfl hfit (by decide) (by simp only [vgBit, vgBits]; omega) (by simp only [vgBit, vgBits]; omega)
    · rw [List.mem_singleton.mp hm, hup]
      exact bit_setFld_self s (vgBit n) 1 hfit rfl
    · have hmn : m ≠ n := fun he => hne (List.mem_singleton.mpr he)
      exact bit_setFld_apart _ _ hfit (.inr (by simp only [vgBit]; omega))
    · refine fld_setFld_apart _ _ hfit (hf.imp id fun h => ?_)
      simp only [vgBits, vgBit] at h ⊢
      omega
  | false =>
    have hlow : s.bit (vgBit n) = false := by
      cases hb : s.bit (vgBit n) with
      | false => rfl
      | true => exact absurd ((h hb).symm.trans hup) (by decide)
    have hsame : s.setReady (24 + n) false = s := by
      rw [setReady_false, readyFld_vg hn, hlow, if_neg Bool.false_ne_true]
    rw [hsame]
    exact ⟨Frame.refl s _, fun m hm => by rw [List.mem_singleton.mp hm, hup]; exact hlow, fun _ _ _ => rfl, fun _ _ => rfl, fun _ _ => rfl⟩

theorem vgFollow_foldl {l : List Nat} (hl : ∀ n ∈ l, n < 8) (hnd : l.Nodup) {s : State} (h : ∀ n ∈ l, s.bit (vgBit n) = true → s.vgUp n = true) :
    VgFollow s (l.foldl (fun s n => s.setReady (24 + n) (s.vgUp n)) s) l := by
  induction l generalizing s with
  | nil => exact ⟨Frame.refl s _, fun _ hn => absurd hn List.not_mem_nil, fun _ _ _ => rfl, fun _ _ => rfl, fun _ _ => rfl⟩
  | cons k l ih =>
    rw [List.nodup_cons] at hnd
    have hk : k < 8 := hl k (by simp)
    have hone := vgFollow_one hk (h k (by simp))
    have hother : ∀ n ∈ l, n ∉ [k] := fun n hn he => hnd.1 (List.mem_singleton.mp he ▸ hn)
    have hrest := ih (fun n hn => hl n (by simp [hn])) hnd.2 (s := s.setReady (24 + k) (s.vgUp k)) (fun n hn hb => by
      rw [hone.up n (hl n (by simp [hn]))]
      exact h n (by simp [hn]) ((hone.kept n (hl n (by simp [hn])) (hother n hn)).symm.trans hb))
    rw [List.foldl_cons]
    refine ⟨hone.frame.trans hrest.frame, fun n hn => ?_, fun n hn hne => ?_, fun n hn => (hrest.up n hn).trans (hone.up n hn),
      fun f hf => (hrest.apart f hf).trans (hone.apart f hf)⟩
    · rcases List.mem_cons.mp hn with rfl | hn
      · exact (hrest.kept n hk hnd.1).trans (hone.bits n (by simp))
      · exact (hrest.bits n hn).trans (hone.up n (hl n (by simp [hn])))
    · exact (hrest.kept n hn fun hm => hne (by simp [hm])).trans (hone.kept n hn fun hm => hne (by simp [List.mem_singleton.mp hm]))

theorem vgReady_follows {s : State} (h : ∀ n < 8, s.bit (vgBit n) = true → s.vgUp n = true) : VgFollow s s.vgReady (List.range 8) :=
  vgFollow_foldl (fun _ hn => List.mem_range.mp hn) List.nodup_range fun n hn => h n (List.mem_range.mp hn)

/-! ### A die is ready (R30, R410) -/

/-- The ready bit of a die. -/
def dieBit (d : Nat) : Fld := ⟨R.TOP_READY, 20 + d, 1⟩

theorem dieBit_fits (d : Fin 4) : (dieBit d).lo + (dieBit d).w ≤ 32 := by
  simp only [dieBit]
  omega

theorem dieReady_up {s : State} {d : Fin 4} (hp : s.pwr.powered.contains d.val = true) (hf : s.fld (F.PWR_DVFS_FLOOR d) ≤ s.fld (F.PWR_DVFS_CUR d)) :
    s.dieReady d = (s.setFld (dieBit d) 1).vgReady := by
  have hready : s.setReady (20 + d) true = s.setFld (dieBit d) 1 := by
    have hfld : readyFld (20 + d) = dieBit d := by
      rw [readyFld, if_pos (by omega), Nat.mod_eq_of_lt (by omega)]
      rfl
    rw [← hfld]
    rfl
  unfold State.dieReady
  extract_lets up fell s1
  have hup : up = true := by simp only [up, hp, decide_eq_true hf, Bool.and_true]
  rw [if_neg (by simp only [fell, hup]; exact Bool.false_ne_true)]
  simp only [s1, hup, hready]

theorem vgUp_mono (s v : State) {n : Nat} (hvg : v.vg = s.vg) (hstop : v.rd R.CFG_STAT = s.rd R.CFG_STAT)
    (hmap : ∀ j < 64, v.rd (R.VG_VU_MAP n j) = s.rd (R.VG_VU_MAP n j))
    (hdie : s.bit ⟨R.TOP_READY, 20 + n / 2, 1⟩ = true → v.bit ⟨R.TOP_READY, 20 + n / 2, 1⟩ = true) (h : s.vgUp n = true) : v.vgUp n = true := by
  rw [State.vgUp] at h ⊢
  simp only [Bool.and_eq_true] at h ⊢
  obtain ⟨⟨⟨h1, h2⟩, h3⟩, h4⟩ := h
  rw [hvg, bit_of_rd_eq F.CFG_STAT_PIPE_STOPPED hstop, any_range_congr fun j hj => bit_of_rd_eq (F.VG_VU_MAP_ASSIGNED n j) (hmap j hj)]
  exact ⟨⟨⟨h1, h2⟩, hdie h3⟩, h4⟩

/-- From `s` to `v` a die became ready, and its regions follow. -/
structure DieUp (s v : State) (d : Nat) : Prop where
  frame : Frame s v [dieBit d, vgBits]
  ready : v.bit (dieBit d) = true
  vg    : ∀ n, n < 8 → v.bit (vgBit n) = v.vgUp n
  rd    : ∀ off, off ≠ R.TOP_READY → v.rd off = s.rd off
  pwr   : v.pwr = s.pwr

theorem dieReady_rises {s : State} {d : Fin 4} (hp : s.pwr.powered.contains d.val = true) (hf : s.fld (F.PWR_DVFS_FLOOR d) ≤ s.fld (F.PWR_DVFS_CUR d))
    (h : ∀ n < 8, s.bit (vgBit n) = true → s.vgUp n = true) : DieUp s (s.dieReady d) d := by
  rw [dieReady_up hp hf]
  have hset : (s.setFld (dieBit d) 1).bit (dieBit d) = true := bit_setFld_self s (dieBit d) 1 (dieBit_fits d) rfl
  have hne : ∀ off, off ≠ R.TOP_READY → (s.setFld (dieBit d) 1).rd off = s.rd off := fun off ho => rd_setFld_ne s (dieBit d) 1 ho
  have hmono : ∀ n < 8, (s.setFld (dieBit d) 1).bit (vgBit n) = true → (s.setFld (dieBit d) 1).vgUp n = true := by
    intro n hn hb
    have hold : s.bit (vgBit n) = true := by
      rw [← hb]
      exact (bit_setFld_apart _ _ (dieBit_fits d) (.inr (by simp only [dieBit, vgBit]; omega))).symm
    refine vgUp_mono s (s.setFld (dieBit d) 1) rfl (hne R.CFG_STAT (by decide)) (fun j _ => hne _ (vgMap_ne n j)) (fun hdie => ?_) (h n hn hold)
    by_cases hsame : n / 2 = d
    · rw [hsame]
      exact hset
    · rw [← hdie]
      exact bit_setFld_apart _ _ (dieBit_fits d) (.inr (by simp only [dieBit]; omega))
  have hfollow := vgReady_follows hmono
  refine ⟨?_, ?_, fun n hn => ?_, fun off ho => ?_, (congrArg State.pwr hfollow.frame.rest :)⟩
  · exact ((Frame.refl s _).setFld 1 (by simp) (dieBit_fits d)).trans (hfollow.frame.mono (by simp))
  · refine Eq.trans (congrArg (· != 0) (hfollow.apart (dieBit d) (.inr ?_))) hset
    simp only [vgBits, dieBit]
    omega
  · rw [hfollow.bits n (List.mem_range.mpr hn), hfollow.up n hn]
  · exact (hfollow.frame.rd (fieldBits_eq_zero fun f hf => by rw [List.mem_singleton.mp hf]; exact ho.symm)).trans (hne off ho)

/-! ### DVFS_FREQ_SWITCH that ends a move, DIE_RAIL_UP without the engine (R409, R410, R459) -/

/-- A move is over, its die at the new frequency. -/
def State.moveOver (s : State) (d goal : Nat) : State := ((s.setFld (F.PWR_DVFS_CUR d) goal).setMove d none).setFld (F.PWR_DVFS_MOVING d) 0

theorem moveEnd_eq (s : State) (d : Nat) (m : Move) (goal : Nat) :
    (s.setFld (F.PWR_DVFS_CUR d) goal).moveEnd d m false = (((s.moveOver d goal).dieReady d).dvfsGo d).cfgReady := rfl

/-- The ready bit of CFG. -/
def cfgBit : Fld := ⟨R.TOP_READY, 7, 1⟩

/-- The ready bit of CFG leaves those of dies and regions. -/
theorem cfgBit_spec (s : State) : (∀ off, off ≠ R.TOP_READY → (s.setFld cfgBit 1).rd off = s.rd off) ∧
    (∀ k, 20 ≤ k → (s.setFld cfgBit 1).bit ⟨R.TOP_READY, k, 1⟩ = s.bit ⟨R.TOP_READY, k, 1⟩) ∧ (∀ n < 8, (s.setFld cfgBit 1).vgUp n = s.vgUp n) := by
  have hrd : ∀ off, off ≠ R.TOP_READY → (s.setFld cfgBit 1).rd off = s.rd off := fun off ho => rd_setFld_ne s cfgBit 1 ho
  have hbit : ∀ k, 20 ≤ k → (s.setFld cfgBit 1).bit ⟨R.TOP_READY, k, 1⟩ = s.bit ⟨R.TOP_READY, k, 1⟩ := fun k hk =>
    bit_setFld_apart _ _ (by decide) (.inr (by simp only [cfgBit]; omega))
  exact ⟨hrd, hbit, fun n hn => vgUp_congr s (s.setFld cfgBit 1) rfl (hrd R.CFG_STAT (by decide)) (fun j _ => hrd _ (vgMap_ne n j)) (hbit _ (by omega))⟩

theorem cfgReady_cases (s : State) : s.cfgReady = s ∨ s.cfgReady = s.setFld cfgBit 1 := by
  unfold State.cfgReady
  split
  · exact .inr rfl
  · exact .inl rfl

theorem moveOf_removed (s : State) (d : Nat) : (s.setMove d none).moveOf d = none :=
  List.find?_eq_none.mpr fun x hx => by simpa using (List.mem_filter.mp hx).2

theorem moveOver_gone (s : State) (d g : Nat) : (s.moveOver d g).moveOf d = none := by
  have hpwr : (s.moveOver d g).pwr = ((s.setFld (F.PWR_DVFS_CUR d) g).setMove d none).pwr := rfl
  rw [State.moveOf, hpwr]
  exact moveOf_removed (s.setFld (F.PWR_DVFS_CUR d) g) d

theorem goal_lt (s : State) (d : Nat) : s.dvfsGoal d < 8 := by
  have hmax : s.fld (F.PWR_DVFS_OP_MAX d) < 8 := fld_lt s (F.PWR_DVFS_OP_MAX d)
  unfold State.dvfsGoal
  omega

/-- Fields of a die's point once a move is over. -/
theorem moveOver_fields (s : State) (d : Nat) {goal : Nat} (hg : goal < 8) : (s.moveOver d goal).fld (F.PWR_DVFS_CUR d) = goal ∧
    (s.moveOver d goal).bit (F.PWR_DVFS_MOVING d) = false ∧
    (∀ f : Fld, (F.PWR_DVFS_CUR d).Apart f → (F.PWR_DVFS_MOVING d).Apart f → (s.moveOver d goal).fld f = s.fld f) := by
  refine ⟨?_, bit_setFld_self ((s.setFld (F.PWR_DVFS_CUR d) goal).setMove d none) (F.PWR_DVFS_MOVING d) 0 (Fld.fits (by rfl)) rfl, fun f h1 h2 => ?_⟩
  · refine (fld_setFld_apart ((s.setFld (F.PWR_DVFS_CUR d) goal).setMove d none) (f := F.PWR_DVFS_MOVING d) 0 (Fld.fits (by rfl)) (.inr (.inl (Nat.le_of_ble_eq_true rfl)))).trans ?_
    exact (fld_setFld_self s (F.PWR_DVFS_CUR d) goal (Fld.fits (by rfl))).trans (Nat.mod_eq_of_lt hg)
  · exact (fld_setFld_apart ((s.setFld (F.PWR_DVFS_CUR d) goal).setMove d none) (f := F.PWR_DVFS_MOVING d) 0 (Fld.fits (by rfl)) h2).trans
      (fld_setFld_apart s (f := F.PWR_DVFS_CUR d) goal (Fld.fits (by rfl)) h1)

theorem dvfs_ne_ready (d : Nat) : R.PWR_DVFS d ≠ R.TOP_READY := by
  simp only [R.PWR_DVFS, R.TOP_READY]
  omega

/-- The points of a die read the same where its register does. -/
theorem dvfsGoal_of_rd {s v : State} {d : Nat} (h : v.rd (R.PWR_DVFS d) = s.rd (R.PWR_DVFS d)) :
    v.dvfsGoal d = s.dvfsGoal d ∧ v.fld (F.PWR_DVFS_CUR d) = s.fld (F.PWR_DVFS_CUR d) := by
  refine ⟨?_, fld_of_rd_eq (F.PWR_DVFS_CUR d) h⟩
  rw [State.dvfsGoal, fld_of_rd_eq (F.PWR_DVFS_TARGET d) h, fld_of_rd_eq (F.PWR_DVFS_FLOOR d) h, fld_of_rd_eq (F.PWR_DVFS_OP_MAX d) h]
  rfl

/-- `o` is `s` with the clock of die `d` at point `c`, whose voltage is there. -/
structure AtPoint (s o : State) (d c : Nat) : Prop where
  rd      : ∀ off, off ≠ R.PWR_DVFS d → o.rd off = s.rd off
  cur     : o.fld (F.PWR_DVFS_CUR d) = c
  floor   : o.fld (F.PWR_DVFS_FLOOR d) ≤ c
  powered : o.pwr.powered.contains d = true
  vg      : o.vg = s.vg

theorem AtPoint.ready {s o : State} {d : Fin 4} {c : Nat} (h : AtPoint s o d c) (hvg : ∀ n : Fin 8, s.bit (vgBit n) = true → s.vgUp n = true) :
    DieUp o (o.dieReady d) d := by
  obtain ⟨hrd, hcur, hfloor, hp, hsame⟩ := h
  have hready : o.rd R.TOP_READY = s.rd R.TOP_READY := hrd _ (dvfs_ne_ready d).symm
  have hstop : o.rd R.CFG_STAT = s.rd R.CFG_STAT := hrd _ (by simp only [R.CFG_STAT, R.PWR_DVFS]; omega)
  have hmap : ∀ n < 8, ∀ j < 64, o.rd (R.VG_VU_MAP n j) = s.rd (R.VG_VU_MAP n j) := fun n hn j hj => hrd _ (by simp only [R.VG_VU_MAP, R.PWR_DVFS]; omega)
  refine dieReady_rises hp (hcur.symm ▸ hfloor) fun n hn hb => ?_
  rw [vgUp_congr s o hsame hstop (fun j hj => hmap n hn j hj) (bit_of_rd_eq ⟨R.TOP_READY, 20 + n / 2, 1⟩ hready)]
  exact hvg ⟨n, hn⟩ ((bit_of_rd_eq (vgBit n) hready).symm.trans hb)

/-- A die whose move is over stands at its effective target. -/
theorem moveOver_atPoint {s : State} {d : Fin 4} {g : Nat} (hg : g = s.dvfsGoal d) (hfloor : s.fld (F.PWR_DVFS_FLOOR d) ≤ g)
    (hp : s.pwr.powered.contains d.val = true) : AtPoint s (s.moveOver d g) d g ∧ (s.moveOver d g).dvfsGoal d = g := by
  obtain ⟨hcur, hmoving, hkept⟩ := moveOver_fields s d (hg ▸ goal_lt s d)
  have h1 := hkept (F.PWR_DVFS_FLOOR d) (.inr (.inr (Nat.le_of_ble_eq_true rfl))) (.inr (.inl (Nat.le_of_ble_eq_true rfl)))
  have h2 := hkept (F.PWR_DVFS_TARGET d) (.inr (.inl (Nat.le_of_ble_eq_true rfl))) (.inr (.inl (Nat.le_of_ble_eq_true rfl)))
  have h3 := hkept (F.PWR_DVFS_OP_MAX d) (.inr (.inr (Nat.le_of_ble_eq_true rfl))) (.inr (.inl (Nat.le_of_ble_eq_true rfl)))
  refine ⟨⟨fun off ho => ?_, hcur, h1 ▸ hfloor, hp, rfl⟩, ?_⟩
  · exact (rd_setFld_ne ((s.setFld (F.PWR_DVFS_CUR d) g).setMove d none) (F.PWR_DVFS_MOVING d) 0 ho).trans (rd_setFld_ne s (F.PWR_DVFS_CUR d) g ho)
  · rw [State.dvfsGoal, h1, h2, h3]
    exact hg.symm

theorem exec_freqSwitch {d : Fin 4} {s : State} {m : Move} (hm : s.moveOf d = some m) (hphase : m.phase = 1)
    (hdir : s.fld (F.PWR_DVFS_CUR d) ≤ m.goal ∨ s.bit (F.TW0_PMB_EN d) = false) :
    exec (.dvfsFreqSwitch d) s = done s ((((s.moveOver d m.goal).dieReady d).dvfsGo d).cfgReady) := by
  rw [← moveEnd_eq s d m]
  change execDvfsFreqSwitch d s = _
  unfold execDvfsFreqSwitch
  rw [hm]
  dsimp only
  rw [if_neg (not_not.mpr hphase), if_neg]
  rcases hdir with h | h
  · simp [Nat.not_lt.mpr h]
  · simp [h]

/-- What a die that ended its move shows. -/
structure MoveEnded (b v : State) (d : Fin 4) (c : Nat) : Prop where
  cur    : v.fld (F.PWR_DVFS_CUR d) = c
  moving : v.bit (F.PWR_DVFS_MOVING d) = false
  move   : v.moveOf d = none
  ready  : v.bit (dieBit d) = true
  vg     : ∀ n : Fin 8, v.bit (vgBit n) = v.vgUp n
  frame  : Frame b v [F.PWR_DVFS_CUR d, F.PWR_DVFS_MOVING d, dieBit d, cfgBit, vgBits]

theorem MoveEnded.cfg {b v : State} {d : Fin 4} {c : Nat} (h : MoveEnded b v d c) : MoveEnded b v.cfgReady d c := by
  rcases cfgReady_cases v with hc | hc
  · exact hc.symm ▸ h
  · rw [hc]
    obtain ⟨hrd, hbit, hup⟩ := cfgBit_spec v
    have hframe := h.frame.setFld (f := cfgBit) 1 (by simp) (by decide)
    have hmove : (v.setFld cfgBit 1).moveOf d = none := h.move
    have hpoint := hrd _ (dvfs_ne_ready d)
    refine ⟨(fld_of_rd_eq (F.PWR_DVFS_CUR d) hpoint).trans h.cur, (bit_of_rd_eq (F.PWR_DVFS_MOVING d) hpoint).trans h.moving, hmove,
      (hbit (20 + d) (by omega)).trans h.ready, fun n => ?_, hframe⟩
    exact (hbit (24 + n) (by omega)).trans ((h.vg n).trans (hup n n.isLt).symm)

/-- A die at its target stays there. -/
theorem DieUp.ended {b o u : State} {d : Fin 4} {c : Nat} (h : DieUp o u d) (hframe : Frame b o [F.PWR_DVFS_CUR d, F.PWR_DVFS_MOVING d, dieBit d, cfgBit, vgBits])
    (hcur : o.fld (F.PWR_DVFS_CUR d) = c) (hgoal : o.dvfsGoal d = c) (hmoving : o.bit (F.PWR_DVFS_MOVING d) = false) (hmove : o.moveOf d = none) :
    u.dvfsGo d = u ∧ MoveEnded b u d c := by
  have hpoint := h.rd _ (dvfs_ne_ready d)
  obtain ⟨hugoal, hucur⟩ := dvfsGoal_of_rd hpoint
  have humove : u.moveOf d = none := by
    rw [State.moveOf, h.pwr]
    exact hmove
  exact ⟨dvfsGo_stays (.inr (.inr (by rw [hugoal, hucur, hgoal, hcur]))), hucur.trans hcur, (bit_of_rd_eq (F.PWR_DVFS_MOVING d) hpoint).trans hmoving, humove, h.ready,
    fun n => h.vg n n.isLt, hframe.trans (h.frame.mono (by simp +contextual))⟩

theorem moveOver_frame (s : State) (d g : Nat) : Frame { s with pwr := { s.pwr with moves := s.pwr.moves.filter (fun y => y.die != d) } } (s.moveOver d g)
    [F.PWR_DVFS_CUR d, F.PWR_DVFS_MOVING d, dieBit d, cfgBit, vgBits] :=
  (((Frame.refl s _).setFld g (by simp) (Fld.fits (by rfl))).withPwr _).setFld 0 (by simp) (Fld.fits (by rfl))

theorem freqSwitch_ends {d : Fin 4} {s : State} {m : Move} (hm : s.moveOf d = some m) (hphase : m.phase = 1) (hgoal : m.goal = s.dvfsGoal d)
    (hfloor : s.fld (F.PWR_DVFS_FLOOR d) ≤ m.goal) (hvg : ∀ n : Fin 8, s.bit (vgBit n) = true → s.vgUp n = true)
    (hp : s.pwr.powered.contains d.val = true) (hdir : s.fld (F.PWR_DVFS_CUR d) ≤ m.goal ∨ s.bit (F.TW0_PMB_EN d) = false) :
    Completes (.dvfsFreqSwitch d) s (fun v => MoveEnded { s with pwr := { s.pwr with moves := s.pwr.moves.filter (fun y => y.die != d.val) } } v d m.goal) := by
  have hx := exec_freqSwitch hm hphase hdir
  have hframe := moveOver_frame s d m.goal
  have hlt : m.goal < 8 := by
    rw [hgoal]
    exact goal_lt s d
  obtain ⟨-, hmoving, -⟩ := moveOver_fields s d hlt
  have hmove := moveOver_gone s d m.goal
  obtain ⟨hat, htarget⟩ := moveOver_atPoint hgoal hfloor hp
  generalize s.moveOver d m.goal = o at hx hframe hmoving hmove hat htarget
  obtain ⟨hstay, hended⟩ := (hat.ready hvg).ended hframe hat.cur htarget hmoving hmove
  rw [hstay] at hx
  exact completes_of_done hx hended.cfg

/-! ### DIE_RAIL_UP without the engine (R408, R459) -/

/-- A die whose rail came up, at its floor point. -/
def State.railFloor (s : State) (d : Nat) : State :=
  ({ s with pwr := { s.pwr with powered := s.pwr.powered ++ [d] } } : State).setFld (F.PWR_DVFS_CUR d) (s.fld (F.PWR_DVFS_FLOOR d))

theorem railFloor_fld (s : State) (d : Nat) {f : Fld} (h : (F.PWR_DVFS_CUR d).Apart f) : (s.railFloor d).fld f = s.fld f :=
  fld_setFld_apart ({ s with pwr := { s.pwr with powered := s.pwr.powered ++ [d] } } : State) (f := F.PWR_DVFS_CUR d) _ (Fld.fits (by rfl)) h

theorem railFloor_atPoint (s : State) (d : Fin 4) : AtPoint s (s.railFloor d) d (s.fld (F.PWR_DVFS_FLOOR d)) where
  rd _ ho := rd_setFld_ne ({ s with pwr := { s.pwr with powered := s.pwr.powered ++ [d.val] } } : State) (F.PWR_DVFS_CUR d) _ ho
  cur := (fld_setFld_self ({ s with pwr := { s.pwr with powered := s.pwr.powered ++ [d.val] } } : State) (F.PWR_DVFS_CUR d) _ (Fld.fits (by rfl))).trans
    (Nat.mod_eq_of_lt (fld_lt s (F.PWR_DVFS_FLOOR d)))
  floor := Nat.le_of_eq (railFloor_fld s d (.inr (.inr (Nat.le_of_ble_eq_true rfl))))
  powered := by
    have hpwr : (s.railFloor d).pwr.powered = s.pwr.powered ++ [d.val] := rfl
    rw [hpwr]
    simp
  vg := rfl

theorem railFloor_goal (s : State) (d : Nat) : (s.railFloor d).dvfsGoal d = s.dvfsGoal d := by
  rw [State.dvfsGoal, railFloor_fld s d (f := F.PWR_DVFS_TARGET d) (.inr (.inl (Nat.le_of_ble_eq_true rfl))),
    railFloor_fld s d (f := F.PWR_DVFS_FLOOR d) (.inr (.inr (Nat.le_of_ble_eq_true rfl))), railFloor_fld s d (f := F.PWR_DVFS_OP_MAX d) (.inr (.inr (Nat.le_of_ble_eq_true rfl)))]
  rfl

/-- A die that came up goes on to its effective target. -/
structure RailUp (s v : State) (d : Fin 4) : Prop where
  cur     : v.fld (F.PWR_DVFS_CUR d) = s.fld (F.PWR_DVFS_FLOOR d)
  ready   : v.bit (dieBit d) = true
  vg      : ∀ n : Fin 8, v.bit (vgBit n) = v.vgUp n
  powered : v.pwr.powered = s.pwr.powered ++ [d.val]
  move    : v.moveOf d = if s.dvfsGoal d = s.fld (F.PWR_DVFS_FLOOR d) then none else some { die := d, goal := s.dvfsGoal d, phase := 1, again := false }
  frame   : Frame { s with pwr := { s.pwr with powered := v.pwr.powered, moves := v.pwr.moves } } v [F.PWR_DVFS_CUR d, dieBit d, F.PWR_DVFS_MOVING d, vgBits]

/-- What the mark of a move leaves. -/
theorem moveMarked_spec (u : State) (d goal phase : Nat) : (∀ off, off ≠ R.PWR_DVFS d → (u.moveMarked d goal phase).rd off = u.rd off) ∧
    (u.moveMarked d goal phase).fld (F.PWR_DVFS_CUR d) = u.fld (F.PWR_DVFS_CUR d) ∧
    (u.moveMarked d goal phase).pwr = { u.pwr with moves := u.pwr.moves.filter (fun x => x.die != d) ++ [{ die := d, goal := goal, phase := phase, again := false }] } :=
  ⟨fun _ ho => rd_setFld_ne u (F.PWR_DVFS_MOVING d) 1 ho,
    fld_setFld_apart u (f := F.PWR_DVFS_MOVING d) (g := F.PWR_DVFS_CUR d) 1 (Fld.fits (by rfl)) (.inr (.inl (Nat.le_of_ble_eq_true rfl))), rfl⟩

theorem moveOf_last {s : State} {d : Nat} {m : Move} {l : List Move} (h : s.pwr.moves = l.filter (fun x => x.die != d) ++ [m]) (hd : m.die = d) : s.moveOf d = some m := by
  rw [State.moveOf, h, List.find?_append, List.find?_eq_none.mpr fun x hx => by simpa using (List.mem_filter.mp hx).2,
    List.find?_cons_of_pos (by simpa using hd)]
  rfl

theorem exec_dieRailUp_floor {d : Fin 4} {s : State} (h : s.has .die d = true) (hp : s.pwr.powered.contains d.val = false) (hst : s.fld F.PWR_STAT_STATE ≠ 2)
    (hen : s.bit (F.TW0_PMB_EN d) = false) : exec (.dieRailUp d) s = done s (((s.railFloor d).dieReady d).dvfsGo d) := by
  rw [exec_dieRailUp h hp hst, hen, if_neg Bool.false_ne_true]
  rfl

theorem DieUp.railUp {s u : State} {d : Fin 4} (h : DieUp (s.railFloor d) u d) (hm : s.moveOf d = none) (hen : s.bit (F.TW0_PMB_EN d) = false) :
    RailUp s (u.dvfsGo d) d := by
  have hat := railFloor_atPoint s d
  have hgoal := railFloor_goal s d
  have hpwr : u.pwr = { s.pwr with powered := s.pwr.powered ++ [d.val] } := h.pwr
  have hframe : Frame { s with pwr := u.pwr } u [F.PWR_DVFS_CUR d, dieBit d, F.PWR_DVFS_MOVING d, vgBits] := by
    rw [hpwr]
    exact ((Frame.refl ({ s with pwr := { s.pwr with powered := s.pwr.powered ++ [d.val] } } : State) _).setFld _ (by simp) (Fld.fits (by rfl))).trans
      (h.frame.mono (by simp +contextual))
  generalize s.railFloor d = o at h hat hgoal
  obtain ⟨hugoal, hucur⟩ := dvfsGoal_of_rd (h.rd _ (dvfs_ne_ready d))
  have hmove : u.moveOf d = none := by
    rw [State.moveOf, hpwr]
    exact hm
  have hcur : u.fld (F.PWR_DVFS_CUR d) = s.fld (F.PWR_DVFS_FLOOR d) := hucur.trans hat.cur
  have htarget : u.dvfsGoal d = s.dvfsGoal d := hugoal.trans hgoal
  by_cases ht : s.dvfsGoal d = s.fld (F.PWR_DVFS_FLOOR d)
  · rw [dvfsGo_stays (.inr (.inr (by rw [htarget, hcur, ht])))]
    refine ⟨hcur, h.ready, fun n => h.vg n n.isLt, by rw [hpwr], by rw [if_pos ht]; exact hmove, ?_⟩
    have hsame : ({ s.pwr with powered := u.pwr.powered, moves := u.pwr.moves } : PwrS) = u.pwr := by rw [hpwr]
    rw [hsame]
    exact hframe
  · have hpow : u.pwr.powered.contains d.val = true := by
      rw [hpwr]
      simp
    have hne : R.TW0_PMB d ≠ R.PWR_DVFS d ∧ R.TW0_PMB d ≠ R.TOP_READY := by
      simp only [R.TW0_PMB, R.PWR_DVFS, R.TOP_READY]
      omega
    have huen : u.bit (F.TW0_PMB_EN d) = false := (bit_of_rd_eq (F.TW0_PMB_EN d) ((h.rd _ hne.2).trans (hat.rd _ hne.1))).trans hen
    rw [dvfsGo_moves hmove hpow (by rw [htarget, hcur]; exact ht), huen, Bool.and_false, if_neg Bool.false_ne_true, htarget]
    obtain ⟨hrd, hkeep, hlast⟩ := moveMarked_spec u d (s.dvfsGoal d) 1
    have hvframe : Frame { s with pwr := (u.moveMarked d (s.dvfsGoal d) 1).pwr } (u.moveMarked d (s.dvfsGoal d) 1) [F.PWR_DVFS_CUR d, dieBit d, F.PWR_DVFS_MOVING d, vgBits] :=
      ((hframe.setFld (f := F.PWR_DVFS_MOVING d) 1 (by simp) (Fld.fits (by rfl))).withPwr (u.moveMarked d (s.dvfsGoal d) 1).pwr)
    have hvvg : (u.moveMarked d (s.dvfsGoal d) 1).vg = u.vg := rfl
    generalize u.moveMarked d (s.dvfsGoal d) 1 = v at *
    have hready : v.rd R.TOP_READY = u.rd R.TOP_READY := hrd _ (dvfs_ne_ready d).symm
    refine ⟨hkeep.trans hcur, (bit_of_rd_eq (dieBit d) hready).trans h.ready, fun n => ?_, by rw [hlast, hpwr], ?_, ?_⟩
    · rw [vgUp_congr u v hvvg (hrd _ (by simp only [R.CFG_STAT, R.PWR_DVFS]; omega)) (fun j hj => hrd _ (by simp only [R.VG_VU_MAP, R.PWR_DVFS]; omega))
        (bit_of_rd_eq ⟨R.TOP_READY, 20 + n / 2, 1⟩ hready)]
      exact (bit_of_rd_eq (vgBit n) hready).trans (h.vg n n.isLt)
    · rw [if_neg ht]
      exact moveOf_last (congrArg PwrS.moves hlast :) rfl
    · have hsame : ({ s.pwr with powered := v.pwr.powered, moves := v.pwr.moves } : PwrS) = v.pwr := by rw [hlast, hpwr]
      rw [hsame]
      exact hvframe

theorem dieRailUp_floor {d : Fin 4} {s : State} (h : s.has .die d = true) (hp : s.pwr.powered.contains d.val = false) (hst : s.fld F.PWR_STAT_STATE ≠ 2)
    (hen : s.bit (F.TW0_PMB_EN d) = false) (hm : s.moveOf d = none) (hvg : ∀ n : Fin 8, s.bit (vgBit n) = true → s.vgUp n = true) :
    Completes (.dieRailUp d) s (fun v => RailUp s v d) :=
  completes_of_done (exec_dieRailUp_floor h hp hst hen) (((railFloor_atPoint s d).ready hvg).railUp hm hen)

end Sys2Proof.Machine
end

section
/-!
PROOFS. A die restored after Winter, and the state that holds then (R401, R406, R411).
-/
namespace Sys2Proof.Machine

/-! ### What the end of a restore may change -/

/-- The registers that the end of a restore may change. -/
def restoreReg (off : Nat) : Bool := inBlocks [.pwr, .tw, .cal, .hostq, .seg, .time] off || off == R.TOP_READY

theorem restoreReg_pwr {off : Nat} (h1 : 0x02D00000 ≤ off) (h2 : off < 0x02E00000) : restoreReg off = true := by
  simp [restoreReg, inBlocks, blockOf_pwr h1 h2]

theorem blockOf_cal {off : Nat} (h1 : 0x02E00000 ≤ off) (h2 : off < 0x02F00000) : blockOf off = some .cal := by
  simp (disch := omega) only [blockOf, if_neg, if_pos]

theorem restoreReg_cal {off : Nat} (h1 : 0x02E00000 ≤ off) (h2 : off < 0x02F00000) : restoreReg off = true := by
  simp [restoreReg, inBlocks, blockOf_cal h1 h2]

theorem restoreReg_of_record {off : Nat} (h : recordReg off = true) : restoreReg off = true := by
  have hin := inBlocks_of_recordReg h
  unfold restoreReg inBlocks at *
  cases hb : blockOf off with
  | none => rw [hb] at hin; cases hin
  | some b =>
    rw [hb] at hin
    simp only [List.contains_cons, List.contains_nil, Bool.or_eq_true] at hin ⊢
    rcases hin with h | h | h | h
    · simp [h]
    · simp [h]
    · simp [h]
    · cases h

/-- What a transition goes by. -/
def PwrS.plan (p : PwrS) : List Nat × List Nat × Option Nat × List PwrHeld := (p.dies, p.powered, p.leaving, p.held)

/-- From `s` to `v` the state, the ready bits, the point of die `d` and the plan stay, and so does everything outside the restore's registers. -/
structure Stays (s v : State) (d : Nat) : Prop where
  regs  : FrameRegs s v restoreReg
  ddr   : v.ddr = s.ddr
  stat  : v.rd R.PWR_STAT = s.rd R.PWR_STAT
  ready : v.rd R.TOP_READY = s.rd R.TOP_READY
  cur   : v.fld (F.PWR_DVFS_CUR d) = s.fld (F.PWR_DVFS_CUR d)
  plan  : v.pwr.plan = s.pwr.plan

theorem Stays.refl (s : State) (d : Nat) : Stays s s d := ⟨fun _ _ => rfl, rfl, rfl, rfl, rfl, rfl⟩

section
variable {s u v : State} {d : Nat}

theorem Stays.trans (h : Stays s u d) (k : Stays u v d) : Stays s v d :=
  ⟨fun off ho => (k.regs off ho).trans (h.regs off ho), k.ddr.trans h.ddr, k.stat.trans h.stat, k.ready.trans h.ready, k.cur.trans h.cur, k.plan.trans h.plan⟩

/-- A register of the restore that shows none of what stays. -/
theorem stays_put (s : State) {off : Nat} (x : Word) (d : Nat) (hr : restoreReg off = true) (h1 : R.PWR_STAT ≠ off) (h2 : R.TOP_READY ≠ off)
    (h3 : R.PWR_DVFS d ≠ off) : Stays s (s.put off x) d where
  regs o ho := rd_put_ne s x (by rintro rfl; rw [hr] at ho; cases ho)
  ddr := rfl
  stat := rd_put_ne s x h1
  ready := rd_put_ne s x h2
  cur := fld_of_rd_eq (F.PWR_DVFS_CUR d) (rd_put_ne s x h3)
  plan := rfl

theorem stays_setFld (s : State) (f : Fld) (x d : Nat) (hr : restoreReg f.off = true) (h1 : R.PWR_STAT ≠ f.off) (h2 : R.TOP_READY ≠ f.off)
    (h3 : R.PWR_DVFS d ≠ f.off) : Stays s (s.setFld f x) d := stays_put s _ d hr h1 h2 h3

theorem stays_hidden (s : State) (o : List Out) (p : PwrS) (c : CalS) (d : Nat) (hp : p.plan = s.pwr.plan) : Stays s { s with out := o, pwr := p, cal := c } d :=
  ⟨fun _ _ => rfl, rfl, rfl, rfl, rfl, hp⟩

theorem Stays.foldl {f : State → Nat → State} {l : List Nat} (h : ∀ k ∈ l, ∀ s, Stays s (f s k) d) (s : State) : Stays s (l.foldl f s) d := by
  induction l generalizing s with
  | nil => exact Stays.refl s d
  | cons k l ih => exact (h k (by simp) s).trans (ih (fun j hj => h j (by simp [hj])) _)

end

/-! ### The steps of a restore's end -/

theorem gateSet_stays (s : State) {b : Nat} (g : Bool) (d : Nat) (hb : b < 32) (hd : d < 4) : Stays s (s.gateSet b g) d := by
  refine stays_setFld s (F.PWR_CLASS_GATED b) (b2n g) d ?_ ?_ ?_ ?_
  · exact restoreReg_pwr (off := R.PWR_CLASS b) (by simp only [R.PWR_CLASS]; omega) (by simp only [R.PWR_CLASS]; omega)
  · show R.PWR_STAT ≠ R.PWR_CLASS b
    simp only [R.PWR_CLASS, R.PWR_STAT]
    omega
  · show R.TOP_READY ≠ R.PWR_CLASS b
    simp only [R.PWR_CLASS, R.TOP_READY]
    omega
  · show R.PWR_DVFS d ≠ R.PWR_CLASS b
    simp only [R.PWR_CLASS, R.PWR_DVFS]
    omega

theorem gateables_lt (s : State) : ∀ b ∈ s.gateables, b < 32 := fun _ hb => List.mem_range.mp (List.mem_filter.mp hb).1

theorem summerGate_stays (s : State) {d : Nat} (hd : d < 4) : Stays s s.summerGate d := by
  unfold State.summerGate
  split
  · exact Stays.refl s d
  · exact Stays.foldl (fun b hb s => gateSet_stays s _ d (gateables_lt _ b hb) hd) s

theorem pmbAsk_stays (s : State) (k mv : Nat) {d : Nat} (hd : d < 4) : Stays s (s.pmbAsk k mv) d := by
  have hdvfs : R.PWR_DVFS d ≠ R.TW0_PMB_STAT := by
    simp only [R.PWR_DVFS, R.TW0_PMB_STAT]
    omega
  by_cases hv : s.pwr.volts = []
  · obtain ⟨o, w, ha⟩ := pmbAsk_eq hv k mv
    rw [ha]
    have hflag : Stays s (s.flag F.TW0_PMB_STAT_BUSY) d := stays_setFld s F.TW0_PMB_STAT_BUSY 1 d (by decide) (by decide) (by decide) hdvfs
    have hset : Stays (s.flag F.TW0_PMB_STAT_BUSY) ((s.flag F.TW0_PMB_STAT_BUSY).setFld F.TW0_PMB_STAT_DIE k) d :=
      stays_setFld _ F.TW0_PMB_STAT_DIE k d (by decide) (by decide) (by decide) hdvfs
    have hpwr : ((s.flag F.TW0_PMB_STAT_BUSY).setFld F.TW0_PMB_STAT_DIE k).pwr = s.pwr := rfl
    refine (hflag.trans hset).trans ?_
    generalize (s.flag F.TW0_PMB_STAT_BUSY).setFld F.TW0_PMB_STAT_DIE k = t at *
    exact stays_hidden t o _ t.cal d (by rw [hpwr]; rfl)
  · rw [pmbAsk_busy hv]
    exact stays_hidden s s.out _ s.cal d rfl

theorem moveMarked_stays (s : State) (k goal phase : Nat) {d : Nat} (hk : k < 4) : Stays s (s.moveMarked k goal phase) d := by
  obtain ⟨hrd, -, hpwr⟩ := moveMarked_spec s k goal phase
  have hcur : (s.moveMarked k goal phase).fld (F.PWR_DVFS_CUR d) = s.fld (F.PWR_DVFS_CUR d) := by
    by_cases hkd : k = d
    · rw [← hkd]
      exact (moveMarked_spec s k goal phase).2.1
    · exact fld_of_rd_eq (F.PWR_DVFS_CUR d) (hrd (R.PWR_DVFS d) (by simp only [R.PWR_DVFS]; omega))
  refine ⟨fun off ho => hrd off ?_, rfl, hrd _ (by simp only [R.PWR_STAT, R.PWR_DVFS]; omega), hrd _ (dvfs_ne_ready k).symm, hcur, by rw [hpwr]; rfl⟩
  rintro rfl
  rw [restoreReg_pwr (by simp only [R.PWR_DVFS]; omega) (by simp only [R.PWR_DVFS]; omega)] at ho
  cases ho

theorem dvfsGo_stays_plan (s : State) {k d : Nat} (hk : k < 4) (hd : d < 4) : Stays s (s.dvfsGo k) d := by
  by_cases hrest : (s.moveOf k).isSome = true ∨ s.pwr.powered.contains k = false ∨ s.dvfsGoal k = s.fld (F.PWR_DVFS_CUR k)
  · rw [dvfsGo_stays hrest]
    exact Stays.refl s d
  · simp only [not_or, Bool.not_eq_true, Bool.not_eq_false] at hrest
    obtain ⟨hm, hp, ht⟩ := hrest
    rw [dvfsGo_moves (by simpa using hm) hp ht]
    split
    · exact (moveMarked_stays s k _ 0 hk).trans (pmbAsk_stays _ k _ hd)
    · exact moveMarked_stays s k _ 1 hk

theorem calRefs_stays (s : State) {k d : Nat} (hk : k < 4) (hd : d < 4) : Stays s (s.calRefs k) d := by
  refine Stays.foldl (fun j hj s => ?_) s
  have hj4 : j < 4 := List.mem_range.mp hj
  refine stays_put s _ d (restoreReg_cal ?_ ?_) ?_ ?_ ?_ <;> simp only [R.CAL_REF, R.PWR_STAT, R.TOP_READY, R.PWR_DVFS] <;> omega

theorem calBegin_stays {s : State} {k j d : Nat} (h : s.cal.runs = [(k, j)]) (hk : k < 4) (hd : d < 4) : Stays s s.calBegin d := by
  rw [calBegin_die h (by omega)]
  refine ((stays_hidden s s.out s.pwr _ d rfl).trans (stays_setFld _ F.CAL_STAT_RUNNING _ d (by decide) (by decide) (by decide) ?_)).trans (calRefs_stays _ hk hd)
  show R.PWR_DVFS d ≠ R.CAL_STAT
  simp only [R.PWR_DVFS, R.CAL_STAT]
  omega

theorem calTrigger_stays (s : State) {k : Nat} (j : Nat) {d : Nat} (hk : k < 4) (hd : d < 4) : Stays s (s.calTrigger k j) d := by
  unfold State.calTrigger
  split
  · exact Stays.refl s d
  · split
    · exact (stays_hidden s s.out s.pwr _ d rfl).trans (calBegin_stays rfl hk hd)
    · exact stays_hidden s s.out s.pwr _ d rfl

/-! ### A die is back (R401, R410) -/

theorem setReady_writes (s : State) {n : Nat} (hn : n < 8) (b : Bool) : WriteFrame s (s.setReady (24 + n) b) (· == R.TOP_READY) := by
  have hoff : (readyFld (24 + n)).off = R.TOP_READY := by rw [readyFld_vg hn]; rfl
  obtain ⟨-, hregs, hmem, hrest⟩ := setReady_frame s (24 + n) b
  exact ⟨by rw [hoff] at hregs; exact hregs, hmem, hrest⟩

/-- The ready bits of the regions follow; the ready bit of a die stays. -/
theorem vgReady_writes (s : State) (d : Fin 4) : WriteFrame s s.vgReady (· == R.TOP_READY) ∧ s.vgReady.fld (dieBit d) = s.fld (dieBit d) := by
  have hfold : ∀ (l : List Nat) (s : State), (∀ n ∈ l, n < 8) → let v := l.foldl (fun s n => s.setReady (24 + n) (s.vgUp n)) s
      WriteFrame s v (· == R.TOP_READY) ∧ v.fld (dieBit d) = s.fld (dieBit d) := by
    intro l
    induction l with
    | nil => exact fun s _ => ⟨WriteFrame.refl s _, rfl⟩
    | cons n l ih =>
      intro s hl
      have hn : n < 8 := hl n (by simp)
      obtain ⟨h1, h2⟩ := ih (s.setReady (24 + n) (s.vgUp n)) (fun m hm => hl m (by simp [hm]))
      refine ⟨(setReady_writes s hn _).trans h1 (by decide), h2.trans (fld_setReady_apart s _ ?_ (show recordReg R.TOP_READY = false by decide))⟩
      rw [readyFld_vg hn]
      exact .inr (by simp only [vgBit, dieBit]; omega)
  exact hfold (List.range 8) s fun _ hn => List.mem_range.mp hn

/-- From `s` to `v` a die is back with its plan `p`, at its floor where `up` says so. -/
structure DieBack (s v : State) (d : Fin 4) (up : Bool) : Prop where
  regs  : FrameRegs s v restoreReg
  mem   : FrameMem s v s.spillByte
  plan  : v.pwr.dies = [] ∧ v.pwr.powered = (if up then [d.val] else []) ∧ v.pwr.leaving = s.pwr.leaving
  held  : v.pwr.held = [] ∨ v.pwr.held = [PwrHeld.cal d 255]
  floor : up = true → v.fld (F.PWR_DVFS_CUR d) = s.fld (F.PWR_DVFS_FLOOR d) ∧ v.bit (dieBit d) = true

/-- A die back from Winter, powered at its floor point. -/
def State.dieFloor (s : State) (d : Nat) : State :=
  ({ s with pwr := { s.pwr with dies := [], powered := s.pwr.powered ++ [d] } } : State).setFld (F.PWR_DVFS_CUR d) (s.fld (F.PWR_DVFS_FLOOR d))

theorem dieFloor_ready (s : State) (d : Fin 4) : (s.dieFloor d).dieReady d = ((s.dieFloor d).setFld (dieBit d) 1).vgReady := by
  have hkeep : (s.dieFloor d).fld (F.PWR_DVFS_FLOOR d) = s.fld (F.PWR_DVFS_FLOOR d) :=
    fld_setFld_apart ({ s with pwr := { s.pwr with dies := [], powered := s.pwr.powered ++ [d.val] } } : State) (f := F.PWR_DVFS_CUR d) _ (Fld.fits (by rfl))
      (.inr (.inr (Nat.le_of_ble_eq_true rfl)))
  have hcur : (s.dieFloor d).fld (F.PWR_DVFS_CUR d) = s.fld (F.PWR_DVFS_FLOOR d) :=
    (fld_setFld_self ({ s with pwr := { s.pwr with dies := [], powered := s.pwr.powered ++ [d.val] } } : State) (F.PWR_DVFS_CUR d) _ (Fld.fits (by rfl))).trans
      (Nat.mod_eq_of_lt (fld_lt s (F.PWR_DVFS_FLOOR d)))
  have hpow : (s.dieFloor d).pwr.powered = s.pwr.powered ++ [d.val] := rfl
  exact dieReady_up (by rw [hpow]; simp) (by rw [hkeep, hcur])

theorem dieFloor_spec (s : State) (d : Fin 4) : (∀ off, off ≠ R.PWR_DVFS d → (s.dieFloor d).rd off = s.rd off) ∧
    (s.dieFloor d).fld (F.PWR_DVFS_CUR d) = s.fld (F.PWR_DVFS_FLOOR d) ∧ (s.dieFloor d).pwr = { s.pwr with dies := [], powered := s.pwr.powered ++ [d.val] } ∧ (s.dieFloor d).ddr = s.ddr :=
  ⟨fun _ ho => rd_setFld_ne ({ s with pwr := { s.pwr with dies := [], powered := s.pwr.powered ++ [d.val] } } : State) (F.PWR_DVFS_CUR d) _ ho,
    (fld_setFld_self ({ s with pwr := { s.pwr with dies := [], powered := s.pwr.powered ++ [d.val] } } : State) (F.PWR_DVFS_CUR d) _ (Fld.fits (by rfl))).trans
      (Nat.mod_eq_of_lt (fld_lt s (F.PWR_DVFS_FLOOR d))), rfl, rfl⟩

theorem dieFloor_back {s : State} {d : Fin 4} (hheld : s.pwr.held = []) (hpow : s.pwr.powered = []) : DieBack s ((s.dieFloor d).dieReady d) d true := by
  rw [dieFloor_ready]
  obtain ⟨hrd, hcur, hpwr, hddr⟩ := dieFloor_spec s d
  generalize s.dieFloor d = f at *
  have hne : ∀ off, off ≠ R.TOP_READY → (f.setFld (dieBit d) 1).rd off = f.rd off := fun off ho => rd_setFld_ne f (dieBit d) 1 ho
  have hbit : (f.setFld (dieBit d) 1).bit (dieBit d) = true := bit_setFld_self f (dieBit d) 1 (dieBit_fits d) rfl
  have hsame : (f.setFld (dieBit d) 1).pwr = f.pwr ∧ (f.setFld (dieBit d) 1).ddr = f.ddr := ⟨rfl, rfl⟩
  generalize f.setFld (dieBit d) 1 = g at *
  obtain ⟨hw, hkeep⟩ := vgReady_writes g d
  have hvpwr : g.vgReady.pwr = g.pwr := (congrArg State.pwr hw.rest :)
  generalize g.vgReady = v at *
  have hpoint : R.PWR_DVFS d ≠ R.TOP_READY := dvfs_ne_ready d
  have hnorec : recordReg (R.PWR_DVFS d) = false := by
    refine recordReg_of_block (b := .pwr) ?_ (by decide)
    exact blockOf_pwr (by simp only [R.PWR_DVFS]; omega) (by simp only [R.PWR_DVFS]; omega)
  have hvpoint : v.rd (R.PWR_DVFS d) = f.rd (R.PWR_DVFS d) := (hw.rd (beq_eq_false_iff_ne.mpr hpoint) hnorec).trans (hne _ hpoint)
  have hp : v.pwr = { s.pwr with dies := [], powered := s.pwr.powered ++ [d.val] } := by rw [hvpwr, hsame.1, hpwr]
  refine ⟨fun off ho => ?_, fun a ha => ?_, by rw [hp, hpow]; exact ⟨rfl, rfl, rfl⟩, .inl (by rw [hp]; exact hheld), fun _ => ⟨?_, ?_⟩⟩
  · have h1 : off ≠ R.TOP_READY := by
      rintro rfl
      exact absurd ho (by decide)
    have h2 : off ≠ R.PWR_DVFS d := by
      rintro rfl
      rw [restoreReg_pwr (by simp only [R.PWR_DVFS]; omega) (by simp only [R.PWR_DVFS]; omega)] at ho
      cases ho
    have h3 : recordReg off = false := Bool.eq_false_iff.mpr fun h => by rw [restoreReg_of_record h] at ho; cases ho
    exact (hw.rd (beq_eq_false_iff_ne.mpr h1) h3).trans ((hne off h1).trans (hrd off h2))
  · have hspill : g.spillByte = s.spillByte := spillByte_of_rd_eq ((hne _ (by decide)).trans (hrd _ (by simp only [R.SEG_SPILL_CTL, R.PWR_DVFS]; omega)))
    exact (hw.mem a (by rw [hspill]; exact ha)).trans (by rw [hsame.2, hddr])
  · exact (fld_of_rd_eq (F.PWR_DVFS_CUR d) hvpoint).trans hcur
  · exact (congrArg (· != 0) hkeep).trans hbit

/-- A run asked for is held, or starts. -/
theorem DieBack.calAsk {s v : State} {d : Fin 4} {up : Bool} (h : DieBack s v d up) (hheld : v.pwr.held = []) : DieBack s (v.calAsk d 255) d up := by
  unfold State.calAsk
  split
  · exact ⟨h.regs, h.mem, h.plan, .inr (by rw [hheld]; rfl), h.floor⟩
  · have hk := calTrigger_stays v 255 d.isLt d.isLt
    generalize v.calTrigger d 255 = u at *
    obtain ⟨hdies, hpow, hleft⟩ := h.plan
    obtain ⟨h1, h2, h3, h4⟩ : u.pwr.dies = v.pwr.dies ∧ u.pwr.powered = v.pwr.powered ∧ u.pwr.leaving = v.pwr.leaving ∧ u.pwr.held = v.pwr.held := by
      simpa [PwrS.plan] using hk.plan
    refine ⟨fun off ho => (hk.regs off ho).trans (h.regs off ho), fun a ha => ?_, ⟨h1.trans hdies, h2.trans hpow, h3.trans hleft⟩, .inl (h4.trans hheld), fun hup => ?_⟩
    · rw [hk.ddr]
      exact h.mem a ha
    · obtain ⟨hc, hr⟩ := h.floor hup
      exact ⟨hk.cur.trans hc, (bit_of_rd_eq (dieBit d) hk.ready).trans hr⟩

/-- A die that does not come back is recorded. -/
theorem dieLost_back {s : State} {d : Fin 4} (hheld : s.pwr.held = []) (hpow : s.pwr.powered = []) :
    DieBack s (({ s with pwr := { s.pwr with dies := [] } } : State).fault 0x09 0x1 d) d false := by
  have hrec : RecordFrame ({ s with pwr := { s.pwr with dies := [] } } : State) (({ s with pwr := { s.pwr with dies := [] } } : State).fault 0x09 0x1 d) :=
    recordFrame_fault _ _ _ _ _ _ _ _
  have hpwr := hrec.pwr
  generalize State.fault ({ s with pwr := { s.pwr with dies := [] } } : State) 0x09 0x1 d = v at *
  refine ⟨fun off ho => hrec.regs off ?_, hrec.mem, by rw [hpwr]; exact ⟨rfl, hpow, rfl⟩, .inl (by rw [hpwr]; exact hheld), fun h => by cases h⟩
  exact Bool.eq_false_iff.mpr fun h => by rw [restoreReg_of_record h] at ho; cases ho

/-! ### The state that holds (R401, R406) -/

/-- The transition is over, the state `t` shown. -/
def State.leftShown (s : State) (t : Nat) : State := (s.setFld F.PWR_STAT_STATE t).setFld F.PWR_STAT_BUSY 0

/-- Blocks of class 0 run again. -/
def State.classWake (s : State) : State :=
  s.gateables.foldl (fun s b => if s.fld (F.PWR_CLASS_CLASS b) == 0 then s.gateSet b false else s) s

/-- The transition is forgotten. -/
def State.leftDone (s : State) : State := { s with pwr := { s.pwr with leaving := none } }

theorem winterLeft_eq {s : State} {t : Nat} (h : s.pwr.leaving = some t) :
    s.winterLeft = ((List.range 4).foldl (fun s d => s.dvfsGo d) (s.leftShown t).classWake.summerGate.leftDone).pwrRelease := by
  rw [State.winterLeft, h]
  rfl

theorem classWake_stays (s : State) {d : Nat} (hd : d < 4) : Stays s s.classWake d := by
  refine Stays.foldl (fun b hb s => ?_) s
  split
  · exact gateSet_stays s false d (gateables_lt _ b hb) hd
  · exact Stays.refl s d

theorem dvfsAll_stays (s : State) {d : Nat} (hd : d < 4) : Stays s ((List.range 4).foldl (fun s k => s.dvfsGo k) s) d :=
  Stays.foldl (fun _ hk s => dvfsGo_stays_plan s (List.mem_range.mp hk) hd) s

/-- Nothing is held any more. -/
def State.heldTaken (s : State) : State := { s with pwr := { s.pwr with held := [] } }

theorem pwrRelease_cases {s : State} {d : Nat} (h : s.pwr.held = [] ∨ s.pwr.held = [PwrHeld.cal d 255]) :
    s.pwrRelease = s.heldTaken ∨ s.pwrRelease = s.heldTaken.calTrigger d 255 := by
  rcases h with h | h
  · exact .inl (by rw [State.pwrRelease, h]; rfl)
  · exact .inr (by rw [State.pwrRelease, h]; rfl)

/-- What was held is released; the state and the dies stay. -/
theorem pwrRelease_stays {s : State} {d : Fin 4} (h : s.pwr.held = [] ∨ s.pwr.held = [PwrHeld.cal d 255]) : Stays s.heldTaken s.pwrRelease d := by
  rcases pwrRelease_cases h with hr | hr
  · rw [hr]
    exact Stays.refl _ _
  · rw [hr]
    exact calTrigger_stays _ 255 d.isLt d.isLt

/-- What shows that die `d` was restored and state `t` holds. -/
structure Restored (s v : State) (d : Fin 4) (t : Nat) (up : Bool) : Prop where
  state   : v.fld F.PWR_STAT_STATE = t
  leaving : v.pwr.leaving = none
  dies    : v.pwr.dies = []
  powered : v.pwr.powered = if up then [d.val] else []
  floor   : up = true → v.fld (F.PWR_DVFS_CUR d) = s.fld (F.PWR_DVFS_FLOOR d) ∧ v.bit (dieBit d) = true
  busy    : v.bit F.PWR_STAT_BUSY = false
  mem     : FrameMem s v s.spillByte
  regs    : FrameRegs s v restoreReg

theorem leftShown_spec (s : State) {t : Nat} (ht : t < 4) : (s.leftShown t).fld F.PWR_STAT_STATE = t ∧ (s.leftShown t).bit F.PWR_STAT_BUSY = false ∧
    (∀ off, off ≠ R.PWR_STAT → (s.leftShown t).rd off = s.rd off) ∧ (s.leftShown t).pwr = s.pwr ∧ (s.leftShown t).ddr = s.ddr := by
  refine ⟨?_, bit_setFld_self (s.setFld F.PWR_STAT_STATE t) F.PWR_STAT_BUSY 0 (Fld.fits (by rfl)) rfl, fun off ho => ?_, rfl, rfl⟩
  · refine (fld_setFld_apart (s.setFld F.PWR_STAT_STATE t) (f := F.PWR_STAT_BUSY) 0 (Fld.fits (by rfl)) (.inr (by decide))).trans ?_
    exact (fld_setFld_self s F.PWR_STAT_STATE t (Fld.fits (by rfl))).trans (Nat.mod_eq_of_lt ht)
  · exact (rd_setFld_ne (s.setFld F.PWR_STAT_STATE t) F.PWR_STAT_BUSY 0 ho).trans (rd_setFld_ne s F.PWR_STAT_STATE t ho)

theorem DieBack.restored {s u : State} {d : Fin 4} {up : Bool} {t : Nat} (h : DieBack s u d up) (hl : s.pwr.leaving = some t) (ht : t < 4) :
    Restored s u.winterLeft d t up := by
  obtain ⟨hdies, hpow, hleft⟩ := h.plan
  rw [winterLeft_eq (hleft.trans hl)]
  obtain ⟨hstate, hbusy, hrd, hpwr, hddr⟩ := leftShown_spec u ht
  generalize u.leftShown t = a at *
  have hgate := (classWake_stays a d.isLt).trans (summerGate_stays a.classWake d.isLt)
  generalize a.classWake.summerGate = b at *
  obtain ⟨h1, h2, -, h4⟩ : b.pwr.dies = a.pwr.dies ∧ b.pwr.powered = a.pwr.powered ∧ b.pwr.leaving = a.pwr.leaving ∧ b.pwr.held = a.pwr.held := by
    simpa [PwrS.plan] using hgate.plan
  have hgo := dvfsAll_stays b.leftDone d.isLt
  have hbd : b.leftDone.rd = b.rd ∧ b.leftDone.ddr = b.ddr ∧ b.leftDone.pwr = { b.pwr with leaving := none } := ⟨rfl, rfl, rfl⟩
  generalize b.leftDone = c at *
  obtain ⟨hcrd, hcddr, hcpwr⟩ := hbd
  generalize (List.range 4).foldl (fun s k => s.dvfsGo k) c = e at *
  obtain ⟨h5, h6, h7, h8⟩ : e.pwr.dies = c.pwr.dies ∧ e.pwr.powered = c.pwr.powered ∧ e.pwr.leaving = c.pwr.leaving ∧ e.pwr.held = c.pwr.held := by
    simpa [PwrS.plan] using hgo.plan
  have hheld : e.pwr.held = u.pwr.held := by
    rw [h8, hcpwr]
    exact h4.trans (congrArg PwrS.held hpwr)
  have hend := pwrRelease_stays (s := e) (d := d) (by rw [hheld]; exact h.held)
  have hed : e.heldTaken.rd = e.rd ∧ e.heldTaken.ddr = e.ddr ∧ e.heldTaken.pwr = { e.pwr with held := [] } := ⟨rfl, rfl, rfl⟩
  generalize e.heldTaken = g at *
  obtain ⟨hgrd, hgddr, hgpwr⟩ := hed
  generalize e.pwrRelease = v at *
  obtain ⟨k1, k2, k3, -⟩ : v.pwr.dies = g.pwr.dies ∧ v.pwr.powered = g.pwr.powered ∧ v.pwr.leaving = g.pwr.leaving ∧ v.pwr.held = g.pwr.held := by
    simpa [PwrS.plan] using hend.plan
  have hstat : v.rd R.PWR_STAT = a.rd R.PWR_STAT := by
    rw [hend.stat, hgrd, hgo.stat, hcrd, hgate.stat]
  have hready : v.rd R.TOP_READY = u.rd R.TOP_READY := by
    rw [hend.ready, hgrd, hgo.ready, hcrd, hgate.ready]
    exact hrd _ (by decide)
  have hcur : v.fld (F.PWR_DVFS_CUR d) = u.fld (F.PWR_DVFS_CUR d) := by
    rw [hend.cur, fld_of_rd_eq (F.PWR_DVFS_CUR d) (congrFun hgrd _), hgo.cur, fld_of_rd_eq (F.PWR_DVFS_CUR d) (congrFun hcrd _), hgate.cur]
    exact fld_of_rd_eq (F.PWR_DVFS_CUR d) (hrd (R.PWR_DVFS d) (by simp only [R.PWR_DVFS, R.PWR_STAT]; omega))
  refine ⟨(fld_of_rd_eq F.PWR_STAT_STATE hstat).trans hstate, ?_, ?_, ?_, fun hup => ?_, (bit_of_rd_eq F.PWR_STAT_BUSY hstat).trans hbusy, fun x hx => ?_, fun off ho => ?_⟩
  · rw [k3, hgpwr]
    exact h7.trans (by rw [hcpwr])
  · rw [k1, hgpwr]
    exact h5.trans (by rw [hcpwr]; exact h1.trans ((congrArg PwrS.dies hpwr).trans hdies))
  · rw [k2, hgpwr]
    exact h6.trans (by rw [hcpwr]; exact h2.trans ((congrArg PwrS.powered hpwr).trans hpow))
  · obtain ⟨hc, hr⟩ := h.floor hup
    exact ⟨hcur.trans hc, (bit_of_rd_eq (dieBit d) hready).trans hr⟩
  · rw [hend.ddr, hgddr, hgo.ddr, hcddr, hgate.ddr, hddr]
    exact h.mem x hx
  · rw [hend.regs off ho, hgrd, hgo.regs off ho, hcrd, hgate.regs off ho]
    refine (hrd off ?_).trans (h.regs off ho)
    rintro rfl
    exact absurd ho (by decide)

theorem dieDone_eq {s : State} {d : Nat} (hdies : s.pwr.dies = [d]) (ok : Bool) {u : State}
    (hu : u = if ok then ((s.dieFloor d).dieReady d).calAsk d 255 else (({ s with pwr := { s.pwr with dies := [] } } : State).fault 0x09 0x1 d)) (hlast : u.pwr.dies = []) :
    s.dieDone d ok = u.winterLeft := by
  have hgone : s.pwr.dies.filter (· != d) = [] := by rw [hdies]; simp
  have hall : s.dieDone d ok = if u.pwr.dies.isEmpty then u.winterLeft else u.dieBegin := by
    rw [hu]
    unfold State.dieDone State.dieFloor
    rw [hgone]
    cases ok <;> rfl
  rw [hall, hlast]
  exact if_pos rfl

theorem dieRestore_ends {d : Fin 4} {s : State} {t : Nat} (hdies : s.pwr.dies = [d.val]) (hl : s.pwr.leaving = some t) (ht : t < 4) (hv : s.pwr.volts = [])
    (hheld : s.pwr.held = []) (hpow : s.pwr.powered = []) (ok : Bool) :
    Completes (.dieRestoreDone d ok) s (fun v => Restored s v d t (ok && s.bit F.DMC_INSTALLED_VALID && s.dieImage d)) := by
  have hx : exec (.dieRestoreDone d ok) s = done s (s.dieDone d (ok && s.bit F.DMC_INSTALLED_VALID && s.dieImage d)) := by
    change execDieRestoreDone d ok s = _
    unfold execDieRestoreDone
    rw [hdies]
    dsimp only
    rw [hl, hv]
    exact if_neg (by simp)
  generalize (ok && s.bit F.DMC_INSTALLED_VALID && s.dieImage d) = up at *
  cases up with
  | true =>
    have hback := (dieFloor_back (d := d) hheld hpow).calAsk (by
      rw [dieFloor_ready]
      obtain ⟨hw, -⟩ := vgReady_writes ((s.dieFloor d).setFld (dieBit d) 1) d
      exact (congrArg (fun u : State => u.pwr.held) hw.rest :).trans hheld)
    rw [dieDone_eq hdies true (if_pos rfl).symm hback.plan.1] at hx
    exact completes_of_done hx (hback.restored hl ht)
  | false =>
    have hback := dieLost_back (d := d) hheld hpow
    rw [dieDone_eq hdies false (if_neg Bool.false_ne_true).symm hback.plan.1] at hx
    exact completes_of_done hx (hback.restored hl ht)

theorem exec_pmbusTimeout {s : State} (h : s.pwr.volts.isEmpty = false) : exec .pmbusTimeout s = done s (s.pmbEnd false) := by
  change execPmbusTimeout s = _
  unfold execPmbusTimeout
  rw [h, if_neg Bool.false_ne_true]

/-- A voltage of a rise that fails, by a poll, by the check of the status or by a timeout (R392, R410). -/
theorem volt_fails (x : BitVec 16) (g : Bool) (d : Fin 4) (m : Move) (s0 : State) :
    let s := { s0 with pwr := { s0.pwr with leaving := none, inRange := g, wrote := true, volts := [(d.val, opMv m.goal)], moves := [{ m with die := d, phase := 0 }] } }
    let failed := fun (v : State) => v.bit F.TW0_PMB_STAT_FAIL = true ∧ v.bit F.PWR_STAT_DVFS_FAIL = true ∧
      v.rd (R.PWR_DVFS d) = s.rd (R.PWR_DVFS d) ∧ v.pwr.volts = [(d.val, opMv (s.fld (F.PWR_DVFS_CUR d)))] ∧ v.pwr.moves = [{ m with die := d, phase := 3 }] ∧
      FrameMem s v s.spillByte ∧ FrameRegs s v (fun off => off == R.PWR_STAT || off == R.TW0_PMB_STAT || inBlocks [.hostq, .seg, .time] off)
    s.pmbFree = true → (g = false → Completes (.pmbusPoll x false) s failed) ∧ Completes .pmbusTimeout s failed ∧ Completes (.pmbusSetDone x false) s failed ∧
      (g = true → fieldN x.toNat 1 6 ≠ 0 → Completes (.pmbusSetDone x true) s failed) := by
  intro s failed hf
  have hshown : ∀ v, VoltFails s v d { m with die := d, phase := 0 } → failed v := fun v h => ⟨h.fail, h.dvfs, h.point, h.volts, h.moves, h.mem, h.regs⟩
  have hend := hshown _ (pmbEnd_fails (s := s) (d := d) rfl rfl rfl rfl rfl)
  have hread : ∀ cmd, failed ((s.wordRead d cmd).pmbEnd false) := fun cmd => hshown _ (wordRead_fails (s := s) (d := d) rfl rfl rfl rfl rfl cmd)
  have hg : s.pwr.inRange = g := rfl
  have htimeout : exec .pmbusTimeout s = done s (s.pmbEnd false) := exec_pmbusTimeout (s := s) rfl
  refine ⟨fun h => ?_, completes_of_done htimeout hend, ?_, fun h hx => ?_⟩
  · exact completes_of_done (exec_poll (s := s) rfl (hg.trans h) rfl hf x false) (hread 0x8B)
  · have hx := exec_setDone (s := s) rfl rfl hf x false
    cases g with
    | true => exact completes_of_done hx (hread 0x79)
    | false => exact completes_of_done hx hend
  · have hdone := exec_setDone (s := s) rfl rfl hf x true
    rw [hg, h, if_pos rfl, beq_false_of_ne hx] at hdone
    exact completes_of_done hdone (hread 0x79)

/-- Settles O54, by what each command leaves of the die's point, its move and the engine's voltages. -/
theorem operatingPointsFollowVoltages : Obligations.OperatingPointsFollowVoltages := by
  unfold Obligations.OperatingPointsFollowVoltages
  refine ⟨?absent, ?held, ?moving, ?same, ?falls, ?rises, ?switchIdle, ?switchAsks, ?switchEnds, ?engineIdle, ?setWaits, ?pollWaits, ?polls, ?setGood, ?fails,
    ?railIdle, ?railFloor, ?railAsks, ?restoreIdle, ?restores⟩
  case absent => exact fun d x s h => ⟨targetWrite_absent h x, dieRailUp_idle (.inl h)⟩
  case held => exact fun d x s h hb => targetWrite_held h hb x
  case moving => exact fun d x s h hb m hm => targetWrite_moving h hb hm x
  case same => exact fun d x s h hb hm hgo => targetWrite_same h hb hm x hgo
  case falls => exact fun d x s h hb hm hp hgo => targetWrite_falls h hb hm hp x hgo
  case rises => exact fun d x s h hb hm hp hgo hen hv hf hpage hpec => targetWrite_rises h hb hm hp x hgo hen hv hf hpage hpec
  case switchIdle => exact fun d s h => freqSwitch_idle h
  case switchAsks => exact fun d s m hm hphase hfall hen hv => freqSwitch_asks hm hphase hfall hen hv
  case switchEnds =>
    intro d s m hm hphase hgoal hfloor hvg hp hdir
    obtain ⟨v, hx, hv⟩ := freqSwitch_ends hm hphase hgoal hfloor hvg hp hdir
    exact ⟨v, hx, hv.cur, hv.moving, hv.move, hv.ready, hv.vg, hv.frame⟩
  case engineIdle => exact fun x ok s h => pmbus_idle h x ok
  case setWaits => exact fun x ok s h => setDone_waits h x
  case pollWaits => exact fun x d mv rest s0 h => poll_waits h x
  case polls =>
    intro x d mv rest s0 s hf
    exact completes_of_done (exec_poll (s := s) rfl rfl rfl hf x true) rfl
  case setGood =>
    intro x d m s0 s hf hx
    exact setDone_good (s := s) rfl rfl rfl rfl rfl rfl rfl hf hx
  case fails => exact fun x g d m s0 => volt_fails x g d m s0
  case railIdle => exact fun d s h => dieRailUp_idle (.inr h)
  case railFloor =>
    intro d s h hp hst hen hm hvg floor t
    obtain ⟨v, hx, hv⟩ := dieRailUp_floor h hp hst hen hm hvg
    exact ⟨v, hx, hv.cur, hv.ready, hv.vg, hv.powered, hv.move, hv.frame⟩
  case railAsks => exact fun d s h hp hst hen hv => dieRailUp_asks h hp hst hen hv
  case restoreIdle => exact fun d ok s h => dieRestore_idle h ok
  case restores =>
    intro d ok st s0 s good
    have ht : st.val < 4 := by omega
    obtain ⟨v, hx, hv⟩ := dieRestore_ends (s := s) rfl rfl ht rfl rfl rfl ok
    exact ⟨v, hx, hv.state, hv.leaving, hv.dies, hv.powered, hv.floor, hv.busy, hv.mem, hv.regs⟩

end Sys2Proof.Machine
end

section
/-!
PROOFS. Canonical stores (SPEC, 01_architecture.md, 14_ddr_memory.md, 21_register_index.md): what writes them, and how a state's canonical form passes
through conditions, folds and hidden fields.
-/
set_option Elab.async false

namespace Sys2Proof.Machine

/-! ### The stores -/

/-- `Canon` speaks of the board, the registers, DDR-4 and the poisoned lines alone. -/
theorem canon_hidden {s : State} {hq time cfg enc cu absIn sw evt prt ing sti vg seg sdf flt lane np isp dmc dma tw pwr cal boot jtag scan lastStatus
      freeCtr out pending} (h : Canon s) :
    Canon ⟨s.board, s.regs, hq, time, cfg, enc, cu, absIn, sw, evt, prt, ing, sti, vg, seg, sdf, flt, lane, np, isp, dmc, dma, tw, pwr, cal, boot, jtag,
      scan, s.ddr, s.poison, lastStatus, freeCtr, out, pending⟩ := h

theorem canon_of_eq {s t : State} (e : s = t) (h : Canon s) : Canon t := e ▸ h

theorem canon_ite {c : Prop} [Decidable c] {a b : State} (ha : Canon a) (hb : Canon b) : Canon (if c then a else b) := by
  split
  · exact ha
  · exact hb

theorem canon_foldl {α : Type} {f : State → α → State} {l : List α} {s : State} (hf : ∀ s a, Canon s → Canon (f s a)) (h : Canon s) :
    Canon (l.foldl f s) := by
  induction l generalizing s with
  | nil => exact h
  | cons a l ih => exact ih (hf s a h)

/-- A fold that answers something besides the state. -/
theorem canon_foldl_snd {α β : Type} {f : β × State → α → β × State} {l : List α} {x : β × State} (hf : ∀ x a, Canon x.2 → Canon (f x a).2)
    (h : Canon x.2) : Canon (l.foldl f x).2 := by
  induction l generalizing x with
  | nil => exact h
  | cons a l ih => exact ih (hf x a h)

theorem canon_ite_snd {α : Type} {c : Prop} [Decidable c] {a b : α × State} (ha : Canon a.2) (hb : Canon b.2) : Canon (if c then a else b).2 := by
  split
  · exact ha
  · exact hb

/-- A command's outcome goes on with canonical stores. -/
def CanonOut (o : Host.Outcome State Fault Refusal) : Prop := ∀ t, o = .next t → Canon t

theorem canonOut_ite {c : Prop} [Decidable c] {a b : Host.Outcome State Fault Refusal} (ha : CanonOut a) (hb : CanonOut b) :
    CanonOut (if c then a else b) := by
  split
  · exact ha
  · exact hb

theorem canon_put {s : State} {off : Nat} {w : Word} (h : Canon s) : Canon (s.put off w) := ⟨regsWf_put off w h.1, h.2.1, h.2.2⟩

theorem canon_memPut {s : State} {a : Nat} {bs : List Byte} (h : Canon s) : Canon (s.memPut a bs) := ⟨h.1, memWf_memPut a bs h.2.1, h.2.2.filter _⟩

/-- A line takes its place among the poisoned lines. -/
theorem pairwise_insertLine {p : List Nat} (h : p.Pairwise (· < ·)) (l : Nat) :
    (p.filter (fun x => x < l) ++ l :: p.filter (fun x => l < x)).Pairwise (· < ·) := by
  rw [List.pairwise_append, List.pairwise_cons]
  refine ⟨h.filter _, ⟨fun x hx => by simpa using (List.mem_filter.mp hx).2, h.filter _⟩, fun a ha b hb => ?_⟩
  have hal : a < l := by simpa using (List.mem_filter.mp ha).2
  rcases List.mem_cons.mp hb with rfl | hb
  · exact hal
  · have hlb : l < b := by simpa using (List.mem_filter.mp hb).2
    omega

theorem canon_poisonLine {s : State} {l : Nat} (h : Canon s) : Canon (s.poisonLine l) := ⟨h.1, h.2.1, pairwise_insertLine h.2.2 l⟩

theorem regsWf_filter {b : Board} {l : List (Nat × Word)} (p : Nat × Word → Bool) (h : regsWf b l = true) : regsWf b (l.filter p) = true := by
  simp only [regsWf, Bool.and_eq_true, decide_eq_true_eq, List.all_eq_true] at h ⊢
  exact ⟨h.1.filter _, fun e he => h.2 e (List.mem_filter.mp he).1⟩

/-- Registers leave the store. -/
theorem canon_regsFilter {s : State} (p : Nat × Word → Bool) (h : Canon s) : Canon { s with regs := s.regs.filter p } :=
  ⟨regsWf_filter p h.1, h.2.1, h.2.2⟩

end Sys2Proof.Machine
end

section
/-!
PROOFS. Canonical stores: the shared operations on registers, pins, events, records, faults and banks.
-/
set_option Elab.async false

namespace Sys2Proof.Machine

theorem canon_setFld {s : State} {f : Fld} {v : Nat} (h : Canon s) : Canon (s.setFld f v) := canon_put h

theorem canon_flag {s : State} {f : Fld} (h : Canon s) : Canon (s.flag f) := canon_setFld h

theorem canon_emit {s : State} {o : Out} (h : Canon s) : Canon (s.emit o) := canon_ite h (canon_hidden h)

theorem canon_msix {s : State} {vec : Nat} (h : Canon s) : Canon (s.msix vec) := by
  unfold State.msix
  split
  · exact h
  · extract_lets o
    exact canon_ite h (canon_ite (canon_put h) (canon_emit h))

theorem canon_faultNotice {s : State} (h : Canon s) : Canon s.faultNotice := by
  unfold State.faultNotice
  extract_lets s1
  have h1 : Canon s1 := canon_flag h
  exact canon_ite h (canon_ite (canon_msix h1) h1)

theorem canon_settle {s old : State} (h : Canon s) : Canon (s.settle old) := by
  unfold State.settle
  extract_lets x s1 n
  have h1 : Canon s1 := canon_hidden h
  exact canon_ite h1 (canon_faultNotice h1)

theorem canon_addCnt {s : State} {f sat : Fld} {k : Nat} (h : Canon s) : Canon (s.addCnt f sat k) := by
  unfold State.addCnt
  extract_lets v s1
  have h1 : Canon s1 := canon_setFld h
  exact canon_ite (canon_flag h1) h1

theorem canon_laneErrs {s : State} {i code disp : Nat} (h : Canon s) : Canon (s.laneErrs i code disp) := canon_addCnt (canon_addCnt h)

theorem canon_shadowKeep {s : State} {ws : List Nat} (h : Canon s) : Canon (s.shadowKeep ws) := by
  unfold State.shadowKeep
  extract_lets x
  exact canon_ite (canon_hidden h) h

theorem canon_incWrap {s : State} {f : Fld} (h : Canon s) : Canon (s.incWrap f) := canon_setFld h

theorem canon_writeBack {s : State} {n v : Nat} (h : Canon s) : Canon (s.writeBack n v) := by
  unfold State.writeBack
  extract_lets a
  exact canon_ite h (canon_emit h)

theorem canon_setBit {s : State} {f : Fld} {b : Bool} (h : Canon s) : Canon (s.setBit f b) := canon_setFld h

theorem canon_updFull {s : State} {c : Nat} (h : Canon s) : Canon (s.updFull c) := canon_setBit h

theorem canon_signalQ {s : State} {c : Nat} (h : Canon s) : Canon (s.signalQ c) := by
  unfold State.signalQ
  extract_lets x s1
  have h1 : Canon s1 := canon_hidden h
  exact canon_ite h (canon_msix h1)

theorem canon_pushEntry {s : State} {c : Nat} {e : HostEntry} {irq : Bool} (h : Canon s) : Canon (s.pushEntry c e irq) := by
  unfold State.pushEntry
  extract_lets n t0 t bs s1 s2 u x s3 s4 ith
  have h1 : Canon s1 := canon_foldl (fun _ _ h2 => (canon_emit h2)) h
  have h3 : Canon s2 := canon_setFld h1
  have h4 : Canon s3 := canon_hidden h3
  have h5 : Canon s4 := canon_writeBack (canon_updFull h4)
  exact canon_ite h (canon_ite (canon_signalQ h5) h5)

theorem canon_memWrite {s : State} {a : Nat} {bs : List Byte} (h : Canon s) : Canon (s.memWrite a bs) := canon_ite h (canon_memPut h)

theorem canon_incCnt {s : State} {f sat : Fld} (h : Canon s) : Canon (s.incCnt f sat) := by
  unfold State.incCnt
  extract_lets v s1
  have h1 : Canon s1 := canon_setFld h
  exact canon_ite (canon_flag h1) h1

theorem canon_postRecQ {s : State} {r : Nat} {ws : List Nat} (h : Canon s) : Canon (s.postRecQ r ws) := by
  unfold State.postRecQ
  extract_lets c a s1 x q d x2
  have h1 : Canon s1 := canon_memWrite h
  exact canon_ite (canon_incWrap (canon_pushEntry h)) (canon_ite (canon_flag (canon_hidden h1)) (canon_incCnt (canon_flag (canon_hidden h))))

theorem canon_launchDrop {s : State} {p : Nat} (h : Canon s) : Canon (s.launchDrop p) := canon_incCnt (canon_flag h)

theorem canon_setLaunch {s : State} {p : Nat} {l : List LaunchE} (h : Canon s) : Canon (s.setLaunch p l) := by
  unfold State.setLaunch
  extract_lets x
  exact canon_setFld (canon_hidden h)

theorem canon_launchSeg {s : State} {p : Nat} {frame : List Byte} {l : Nat} (h : Canon s) : Canon (s.launchSeg p frame l) := by
  unfold State.launchSeg
  extract_lets q
  exact canon_ite (canon_incCnt (canon_launchDrop h)) (canon_setLaunch h)

theorem canon_closeGather {s : State} {p : Nat} (h : Canon s) : Canon (s.closeGather p) := by
  unfold State.closeGather
  extract_lets recs f l x s1
  have h1 : Canon s1 := canon_hidden h
  exact canon_ite h (canon_launchSeg h1)

theorem canon_gatherRec {s : State} {p : Nat} {ws : List Nat} (h : Canon s) : Canon (s.gatherRec p ws) := by
  unfold State.gatherRec
  extract_lets old t x s1
  have h1 : Canon s1 := canon_hidden h
  exact canon_ite (canon_closeGather h1) h1

theorem canon_record {s : State} {r : Nat} {ws : List Nat} (h : Canon s) : Canon (s.record r ws) := by
  unfold State.record
  extract_lets ws2 s1 s2 sevOk s3
  have h1 : Canon s1 := canon_shadowKeep h
  have h2 : Canon s2 := canon_ite (canon_postRecQ h1) h1
  have h3 : Canon s3 := canon_ite (canon_gatherRec h2) h2
  exact canon_ite (canon_gatherRec h3) h3

theorem canon_fault {s : State} {src cause x w5 w6 w7 : Nat} {fatal : Bool} (h : Canon s) : Canon (s.fault src cause x w5 w6 w7 fatal) := by
  unfold State.fault
  extract_lets w4
  exact canon_record h

theorem canon_setReady {s : State} {k : Nat} {b : Bool} (h : Canon s) : Canon (s.setReady k b) := by
  unfold State.setReady
  extract_lets f
  exact canon_ite (canon_flag h) (canon_ite (canon_fault (canon_setFld h)) h)

theorem canon_epReady {s : State} {p : Nat} (h : Canon s) : Canon (s.epReady p) := canon_setReady h

theorem canon_hiBer {s : State} {p : Nat} {on : Bool} (h : Canon s) : Canon (s.hiBer p on) := canon_ite (canon_epReady (canon_setBit h)) h

theorem canon_fecCount {s : State} {p corr uncorr : Nat} (h : Canon s) : Canon (s.fecCount p corr uncorr) := by
  unfold State.fecCount
  extract_lets on
  exact canon_ite (canon_addCnt (canon_addCnt h)) h

theorem canon_adapts {s : State} {i : Nat} {w : Word} (h : Canon s) : Canon (s.adapts i w) := canon_ite h (canon_put h)

theorem canon_prbsCount {s : State} {i errors : Nat} (h : Canon s) : Canon (s.prbsCount i errors) := canon_ite (canon_addCnt h) h

theorem canon_free {s : State} (h : Canon s) : Canon s.free.2 := canon_hidden h

theorem canon_modNp {s : State} {p : Nat} {f : NpS → NpS} (h : Canon s) : Canon (s.modNp p f) := canon_hidden h

theorem canon_npTrained {s : State} {p : Nat} (h : Canon s) : Canon (s.npTrained p) := by
  unfold State.npTrained
  extract_lets live s1 s2 f
  have h1 : Canon s1 := canon_foldl (fun _ _ h2 => (canon_setFld h2)) h
  have h3 : Canon s2 := canon_setFld (canon_setFld h1)
  refine canon_ite ?_ ?_
  · exact canon_modNp (canon_free h3)
  · exact h

theorem canon_eyeCount {s : State} {i errors : Nat} (h : Canon s) : Canon (s.eyeCount i errors) := by
  unfold State.eyeCount
  extract_lets e s1
  have h1 : Canon s1 := canon_setFld (canon_setFld h)
  exact canon_ite (canon_flag h1) h1

theorem canon_eyeAbort {s : State} {i : Nat} (h : Canon s) : Canon (s.eyeAbort i) := by
  unfold State.eyeAbort
  extract_lets f
  refine canon_ite ?_ ?_
  · refine canon_flag ?_
    exact canon_eyeCount (canon_free h)
  · exact h

theorem canon_toHunt {s : State} {i : Nat} (h : Canon s) : Canon (s.toHunt i) := by
  unfold State.toHunt
  extract_lets s1 s2 s3 x s4
  have h1 : Canon s1 := canon_setFld (canon_eyeAbort h)
  have h2 : Canon s2 := canon_setFld h1
  have h3 : Canon s3 := canon_ite (canon_setFld h2) h2
  have h4 : Canon s4 := canon_hidden h3
  split
  · exact canon_put h4
  · exact h4

theorem canon_npDown {s : State} {p : Nat} {hunt : Bool} (h : Canon s) : Canon (s.npDown p hunt) := by
  unfold State.npDown
  extract_lets s1 s2
  have h1 : Canon s1 := canon_setReady (canon_ite h (canon_setFld h))
  have h2 : Canon s2 := canon_ite (canon_foldl (fun _ _ h3 => (canon_toHunt h3)) h1) h1
  exact canon_setFld h2

theorem canon_laneSkew {s : State} {i blocks : Nat} (h : Canon s) : Canon (s.laneSkew i blocks) := by
  unfold State.laneSkew
  extract_lets p x s1
  have h1 : Canon s1 := canon_hidden h
  exact canon_ite (canon_npTrained h1) (canon_ite (canon_npDown h1) h1)

theorem canon_stitchEccNote {s : State} {k c : Nat} (h : Canon s) : Canon (s.stitchEccNote k c) := canon_fault (canon_flag h)

theorem canon_stitchEccCam {s : State} {c k : Nat} (h : Canon s) : Canon (s.stitchEccCam c k) := by
  unfold State.stitchEccCam
  extract_lets l g x s1 s2
  have h1 : Canon s1 := canon_hidden h
  have h2 : Canon s2 := canon_hidden h
  exact canon_ite (canon_stitchEccNote h1) (canon_ite (canon_stitchEccNote h2) h)

theorem canon_stitchEccOut {s : State} {k : Nat} (h : Canon s) : Canon (s.stitchEccOut k) := by
  unfold State.stitchEccOut
  extract_lets fill all mark x x2 s1
  have h1 : Canon s1 := canon_hidden h
  exact canon_ite (canon_stitchEccNote h1) h

theorem canon_nimSend {s : State} {p ty vc : Nat} {nak : Bool} {dst src seq : Nat} {payload : List Byte} (h : Canon s) : Canon (s.nimSend p ty vc nak dst
    src seq payload) := by
  unfold State.nimSend
  extract_lets x up bytes lanes idle blocks
  exact canon_emit (canon_modNp h)

theorem canon_nimNak {s : State} {p : Nat} (h : Canon s) : Canon (s.nimNak p) := canon_nimSend h

theorem canon_nimBad {s : State} {p : Nat} {nak : Bool} (h : Canon s) : Canon (s.nimBad p nak) := by
  unfold State.nimBad
  extract_lets s1
  have h1 : Canon s1 := canon_incCnt h
  exact canon_ite (canon_nimNak h1) h1

theorem canon_ambient {s : State} (h : Canon s) : Canon s.ambient := by
  unfold State.ambient
  extract_lets a x
  have h1 : Canon x := canon_hidden h
  clear_value a x
  cases a with
  | quiet => exact h1
  | laneErrors => exact canon_ite (canon_laneErrs h1) h1
  | hiBer => exact canon_hiBer h1
  | fec => exact canon_fecCount h1
  | taps => exact canon_adapts h1
  | prbs => exact canon_prbsCount h1
  | skew => exact canon_laneSkew h1
  | stitchEcc c k =>
    cases c with
    | some c => exact canon_stitchEccCam h1
    | none => exact canon_stitchEccOut h1
  | vbat => exact canon_setBit h1
  | pmbAlert => exact canon_setBit h1
  | badFrame => exact canon_ite (canon_nimBad h1) h1

theorem canon_bootEnd {s : State} {entry : Nat} (h : Canon s) : Canon (s.bootEnd entry) := by
  unfold State.bootEnd
  extract_lets s1 x
  have h1 : Canon s1 := canon_setFld (canon_flag h)
  exact canon_hidden h1

theorem canon_bootRefused {s : State} {entry st : Nat} (h : Canon s) : Canon (s.bootRefused entry st) := canon_bootEnd (canon_setFld (canon_flag h))

theorem canon_accErr {s : State} {off : Nat} {write offDom : Bool} (h : Canon s) : Canon (s.accErr off write offDom) :=
  canon_ite h (canon_flag (canon_setBit (canon_setBit (canon_setFld h))))

theorem canon_gateSet {s : State} {b : Nat} {g : Bool} (h : Canon s) : Canon (s.gateSet b g) := canon_setBit h

theorem canon_wakeBlock {s : State} {b : Nat} (h : Canon s) : Canon (s.wakeBlock b) := canon_ite (canon_gateSet h) h

theorem canon_reach {s : State} {off : Nat} {write : Bool} (h : Canon s) : Canon (s.reach off write).2 := by
  unfold State.reach
  extract_lets vg
  refine canon_ite_snd ?_ ?_
  · exact canon_accErr h
  · split
    · extract_lets i
      refine canon_ite_snd ?_ ?_
      · exact h
      · split
        · exact canon_wakeBlock h
        · exact h
    · exact canon_accErr h

theorem canon_status {s : State} {st : Nat} (h : Canon s) : Canon (s.status st) := canon_hidden h

theorem canon_npStart {s : State} {p : Nat} (h : Canon s) : Canon (s.npStart p) := by
  unfold State.npStart
  extract_lets s1 s2
  have h1 : Canon s1 := canon_ite (canon_modNp h) h
  have h2 : Canon s2 := canon_setFld h1
  exact canon_foldl (fun _ _ h3 => (canon_ite h3 (canon_toHunt h3))) (canon_setFld h2)

theorem canon_npReady {s : State} (h : Canon s) : Canon s.npReady := canon_ite h (canon_foldl (fun _ _ h1 => (canon_ite (canon_npStart h1) h1)) h)

theorem canon_devIdWrite {s : State} {id : Nat} (h : Canon s) : Canon (s.devIdWrite id) := by
  unfold State.devIdWrite
  extract_lets s1 s2
  have h1 : Canon s1 := canon_flag (canon_setFld h)
  have h2 : Canon s2 := canon_foldl (fun _ _ h3 => (canon_ite (canon_modNp h3) h3)) h1
  exact canon_ite (canon_status h) (canon_status (canon_npReady h2))

theorem canon_store {s : State} {r : RegRef} {off : Nat} {v : Word} {m : Nat} (h : Canon s) : Canon (s.store r off v m) := by
  unfold State.store
  extract_lets keep clr cnt
  exact canon_status (canon_put h)

theorem canon_twReady {s : State} (h : Canon s) : Canon s.twReady := canon_setReady h

theorem canon_cleared {s : State} {r : RegRef} {v : Nat} (h : Canon s) : Canon (s.cleared r v) := by
  unfold State.cleared
  extract_lets b
  exact canon_ite (canon_ite (canon_setFld h) h) (canon_ite (canon_ite (canon_setFld h) h) (canon_ite (canon_ite (canon_npReady h) h) (canon_ite (canon_ite
      (canon_twReady (canon_flag h)) h) h)))

theorem canon_pkStore {s : State} {r : RegRef} {off : Nat} {v : Word} (h : Canon s) : Canon (s.pkStore r off v) := canon_cleared (canon_store h)

theorem canon_topWrite {s : State} {r : RegRef} {off : Nat} {v : Word} (h : Canon s) : Canon (s.topWrite r off v) :=
  canon_ite (canon_ite (canon_status h) (canon_devIdWrite (canon_store h))) (canon_pkStore h)

theorem canon_vgReady {s : State} (h : Canon s) : Canon s.vgReady := canon_foldl (fun _ _ h1 => (canon_setReady h1)) h

theorem canon_storeLine {s : State} {n : Nat} {l : Option CamLine} (h : Canon s) : Canon (s.storeLine n l) := by
  unfold State.storeLine
  extract_lets k x
  exact canon_hidden h

theorem canon_showPriming {s : State} (h : Canon s) : Canon s.showPriming := canon_setBit h

theorem canon_prime {s : State} {n : Nat} (h : Canon s) : Canon (s.prime n) := by
  unfold State.prime
  extract_lets x s1 stag now s2
  have h1 : Canon s1 := canon_hidden h
  have h2 : Canon s2 := canon_foldl (fun _ _ h3 => (canon_storeLine h3)) h1
  exact canon_ite (canon_showPriming (canon_setBit (canon_setFld h2))) h

theorem canon_runRise {s : State} (h : Canon s) : Canon s.runRise := by
  unfold State.runRise
  extract_lets s1 s2 x s3 wait s4 x2
  have h1 : Canon s1 := canon_vgReady (canon_setFld (canon_flag h))
  have h2 : Canon s2 := canon_foldl (fun _ _ h3 => (canon_prime h3)) h1
  have h4 : Canon s3 := canon_hidden h2
  have h5 : Canon s4 := canon_ite (canon_flag h4) h4
  exact canon_hidden h5

theorem canon_setBank {s : State} {b : Bool} {v : Nat} (h : Canon s) : Canon (s.setBank b v) := canon_ite (canon_setFld h) (canon_setFld h)

theorem canon_emptyBank {s : State} {b : Bool} (h : Canon s) : Canon (s.emptyBank b) := by
  unfold State.emptyBank
  extract_lets s1 x
  have h1 : Canon s1 := canon_setReady (canon_setBank h)
  exact canon_ite (canon_setFld (canon_hidden h1)) (canon_setFld (canon_hidden h1))

theorem canon_putN {s : State} {off v : Nat} (h : Canon s) : Canon (s.putN off v) := canon_put h

theorem canon_modCu {s : State} {u : Nat} {f : CuS → CuS} (h : Canon s) : Canon (s.modCu u f) := canon_hidden h

theorem canon_setCuN {s : State} {u n : Nat} (h : Canon s) : Canon (s.setCuN u n) := canon_setFld (canon_setFld h)

theorem canon_loadUnit {s : State} {p : Nat} {c : CmpE} (h : Canon s) : Canon (s.loadUnit p c) := by
  unfold State.loadUnit
  extract_lets s1
  have h1 : Canon s1 := canon_setFld (canon_putN h)
  exact canon_modCu (canon_setCuN h1)

theorem canon_jobBits {s : State} {b : Bool} (h : Canon s) : Canon (s.jobBits b) := canon_foldl (fun _ _ h1 => (canon_setBit h1)) h

theorem canon_modPrt {s : State} {n : Nat} {f : PrtS → PrtS} (h : Canon s) : Canon (s.modPrt n f) := canon_hidden h

theorem canon_setTk {s : State} {n : Nat} {l : List TkS} (h : Canon s) : Canon (s.setTk n l) := canon_setFld (canon_modPrt h)

theorem canon_prtSwap {s : State} {b : Bool} {pos n : Nat} (h : Canon s) : Canon (s.prtSwap b pos n) := by
  unfold State.prtSwap
  extract_lets seeds keep all s1 s2 s3
  have h1 : Canon s1 := canon_modPrt (canon_setTk h)
  have h2 : Canon s2 := canon_ite h1 (canon_flag h1)
  have h3 : Canon s3 := by
    unfold s3
    split
    · exact canon_putN h2
    · exact h2
  exact canon_putN (canon_putN h3)

theorem canon_setOrg {s : State} {b : Bool} {v : Nat} (h : Canon s) : Canon (s.setOrg b v) := by
  unfold State.setOrg
  extract_lets s1 x
  have h1 : Canon s1 := canon_putN h
  exact canon_hidden h1

theorem canon_clearTiles {s : State} (h : Canon s) : Canon s.clearTiles := canon_regsFilter _ h

theorem canon_prtPoint {s : State} {n pt : Nat} (h : Canon s) : Canon (s.prtPoint n pt) := by
  unfold State.prtPoint
  split
  · exact h
  · extract_lets p rep shut r s1 adj
    have h1 : Canon s1 := canon_modPrt (canon_putN h)
    exact canon_ite h1 (canon_putN (canon_putN h1))

theorem canon_cuSkip {s : State} {u k : Nat} (h : Canon s) : Canon (s.cuSkip u k) := by
  unfold State.cuSkip
  extract_lets n sp s1 s2
  have h1 : Canon s1 := canon_flag h
  have h2 : Canon s2 := canon_setFld h1
  exact canon_ite h (canon_setCuN h2)

theorem canon_cuHit {s : State} {u pos lim : Nat} {late : Bool} (h : Canon s) : Canon (s.cuHit u pos lim late) := by
  unfold State.cuHit
  extract_lets n s1 s2 s3 arm s4 s5
  have h1 : Canon s1 := canon_foldl (fun _ _ h2 => (canon_prtPoint h2)) h
  have h3 : Canon s2 := canon_setFld (canon_putN (canon_putN h1))
  have h4 : Canon s3 := canon_ite (canon_flag h3) h3
  have h5 : Canon s4 := canon_modCu h4
  have h6 : Canon s5 := canon_setCuN h5
  exact canon_cuSkip h6

theorem canon_cuEval {s : State} {u pos lim : Nat} {late : Bool} (h : Canon s) : Canon (s.cuEval u pos lim late).2 := by
  unfold State.cuEval
  extract_lets r
  exact canon_ite_snd h (canon_ite_snd (canon_cuHit h) (canon_ite_snd h (canon_ite_snd (canon_cuSkip h) (canon_ite_snd (canon_cuHit h) (canon_modCu h)))))

theorem canon_cuLoaded {s : State} {u : Nat} {hitNow late : Bool} (h : Canon s) : Canon (s.cuLoaded u hitNow late).2 := by
  unfold State.cuLoaded
  extract_lets pos
  exact canon_ite_snd h (canon_ite_snd (canon_ite_snd (canon_modCu h) h) (canon_cuEval h))

theorem canon_prune {s : State} {n : Nat} (h : Canon s) : Canon (s.prune n) := by
  unfold State.prune
  extract_lets up
  exact canon_modPrt h

theorem canon_pruneAll {s : State} (h : Canon s) : Canon s.pruneAll := canon_foldl (fun _ _ h1 => (canon_prune h1)) h

theorem canon_updHp {s : State} {n : Nat} (h : Canon s) : Canon (s.updHp n) := canon_setReady h

theorem canon_takeBank {s : State} {b : Bool} {p pos : Nat} {now : Bool} {old : Nat} {hit late : List Nat} (h : Canon s) : Canon (s.takeBank b p pos now
    old hit late).2 := by
  unfold State.takeBank
  extract_lets s1 s2 s3 s4 x s5 s6 s7 r
  have h1 : Canon s1 := canon_setBit (canon_setBank h)
  have h2 : Canon s2 := canon_incWrap (canon_putN (canon_putN h1))
  have h3 : Canon s3 := canon_foldl (fun _ _ h4 => (canon_loadUnit h4)) (canon_jobBits h2)
  have h5 : Canon s4 := canon_foldl (fun _ _ h6 => (canon_prtSwap h6)) h3
  have h7 : Canon s5 := canon_ite (canon_hidden h5) (canon_setOrg h5)
  have h8 : Canon s6 := canon_ite h7 (canon_clearTiles h7)
  have h9 : Canon s7 := canon_record h8
  have h10 : Canon r.2 := canon_foldl_snd (fun _ _ h11 => (canon_cuLoaded h11)) h9
  exact canon_pruneAll (canon_foldl (fun _ _ h12 => (canon_updHp h12)) h10)

theorem canon_setSfld {s : State} {f : Fld} {v : Int} (h : Canon s) : Canon (s.setSfld f v) := canon_setFld h

theorem canon_darkMeas {s : State} {n : Nat} {scaled : Pix} (h : Canon s) : Canon (s.darkMeas n scaled) := by
  unfold State.darkMeas
  extract_lets l r
  exact canon_ite h (canon_foldl (fun _ _ h1 => (canon_setSfld h1)) h)

theorem canon_darkTrack {s : State} {n seq : Nat} (h : Canon s) : Canon (s.darkTrack n seq) := canon_ite (canon_foldl (fun _ _ h1 => (canon_setSfld h1)) h) h

theorem canon_modIng {s : State} {n : Nat} {f : IngS → IngS} (h : Canon s) : Canon (s.modIng n f) := canon_hidden h

theorem canon_ingSwapSets {s : State} {n : Nat} (h : Canon s) : Canon (s.ingSwapSets n) :=
  canon_modIng (canon_foldl (fun _ _ h1 => canon_put h1) (canon_regsFilter _ h))

theorem canon_ingFlipApply {s : State} {n : Nat} (h : Canon s) : Canon (s.ingFlipApply n) := by
  unfold State.ingFlipApply
  extract_lets s1
  have h1 : Canon s1 := canon_setFld (canon_ingSwapSets h)
  exact canon_ite (canon_setFld h1) h

theorem canon_stagWrite {s : State} {n : Nat} {l : CamLine} {full : Bool} (h : Canon s) : Canon (s.stagWrite n l full) := by
  unfold State.stagWrite
  extract_lets g x s1 s2 w px r coded raw useRaw body s3 s4
  have h1 : Canon s1 := canon_hidden h
  have h2 : Canon s2 := canon_wakeBlock h1
  have h3 : Canon s3 := canon_setFld (canon_setFld h2)
  have h4 : Canon s4 := canon_ite (canon_incCnt h3) h3
  exact canon_ite (canon_flag h1) (canon_memWrite h4)

theorem canon_storeLoss {s : State} {n : Nat} (h : Canon s) : Canon (s.storeLoss n) := canon_incCnt (canon_storeLine h)

theorem canon_pairGo {n : Nat} {l : CamLine} {f : Nat} {s : State} (h : Canon s) : Canon (pairGo n l f s) := by
  induction f generalizing s with
  | zero => exact canon_incCnt (canon_flag h)
  | succ f ih =>
    unfold pairGo
    split
    · exact canon_incCnt (canon_flag h)
    · exact canon_ite (canon_storeLine h) (canon_ite (canon_incCnt (canon_flag h)) (ih (canon_storeLoss h)))

theorem canon_pairLine {s : State} {n : Nat} {l : CamLine} (h : Canon s) : Canon (s.pairLine n l) := canon_pairGo h

theorem canon_releaseLine {s : State} {n : Nat} {l : CamLine} {full : Bool} (h : Canon s) : Canon (s.releaseLine n l full) := by
  unfold State.releaseLine
  extract_lets s1
  have h1 : Canon s1 := canon_putN h
  exact canon_ite (canon_stagWrite h1) (canon_pairLine h1)

theorem canon_correct {s : State} {n : Nat} {t : Tag} {raw : Pix} {fl : LFlags} {subst full : Bool} (h : Canon s) :
    Canon (s.correct n t raw fl subst full) := by
  unfold State.correct
  extract_lets b fill scaled s1 l act s2 v fx v2 s3 s4 s5 df repl s6 wp fl2 al s7 col out s8
  have h1 : Canon s1 := canon_ite h (canon_darkMeas h)
  have h2 : Canon s2 := canon_darkTrack (canon_ingFlipApply h1)
  have h3 : Canon s3 := canon_ite (canon_setFld h2) h2
  have h4 : Canon s4 := canon_ite (canon_flag h3) h3
  have h5 : Canon s5 := canon_ite (canon_flag h4) h4
  have h6 : Canon s6 := canon_ite (canon_addCnt (canon_flag h5)) h5
  have h7 : Canon s7 := canon_modIng h6
  have h8 : Canon s8 := canon_ite (canon_flag h7) h7
  exact canon_releaseLine h8

theorem canon_substLine {s : State} {n : Nat} {t : Tag} {full : Bool} (h : Canon s) : Canon (s.substLine n t full) := by
  unfold State.substLine
  extract_lets s1 raw
  have h1 : Canon s1 := canon_incCnt (canon_flag h)
  exact canon_correct h1

theorem canon_substOldest {s : State} {n : Nat} {full : Bool} (h : Canon s) : Canon (s.substOldest n full) := by
  unfold State.substOldest
  split
  · exact h
  · exact canon_substLine (canon_modIng h)

theorem canon_pushRef {s : State} {t : Tag} (h : Canon s) : Canon (s.pushRef t) := by
  unfold State.pushRef
  extract_lets k x s1 s2
  have h1 : Canon s1 := canon_hidden h
  have h2 : Canon s2 := canon_foldl (fun _ _ h3 => (canon_ite (canon_ite (canon_setFld (canon_setFld (canon_storeLine h3))) (canon_setFld (canon_storeLine
      h3))) h3)) h1
  exact canon_setBit h2

theorem canon_pushTag {s : State} {n : Nat} {cu : Option Nat} (h : Canon s) : Canon (s.pushTag n cu) := by
  unfold State.pushTag
  extract_lets g t r s1 fast s2 now s3
  have h2 : Canon s1 := by
    unfold s1
    refine canon_ite ?_ ?_
    · refine canon_substOldest ?_
      exact canon_flag (canon_ite_snd (canon_free h) h)
    · exact h
  have h3 : Canon s2 := canon_ite (canon_incCnt (canon_flag h2)) h2
  have h4 : Canon s3 := canon_modIng h3
  exact canon_ite h (canon_ite (canon_pushRef h4) h4)

theorem canon_camTrigger {s : State} {n : Nat} {rising : Bool} (h : Canon s) : Canon (s.camTrigger n rising) := by
  unfold State.camTrigger
  extract_lets f
  exact canon_emit (canon_free h)

theorem canon_pulse {s : State} {c : Nat} (h : Canon s) : Canon (s.pulse c) := by
  unfold State.pulse
  extract_lets x
  exact canon_emit (canon_hidden h)

theorem canon_trigger {s : State} {n : Nat} {hits : List Nat} (h : Canon s) : Canon (s.trigger n hits) := by
  unfold State.trigger
  extract_lets k cu s1 x
  have h1 : Canon s1 := canon_pushTag (canon_camTrigger (canon_pulse h))
  exact canon_ite (canon_hidden h1) h1

theorem canon_lateLine {s : State} {n cause : Nat} (h : Canon s) : Canon (s.lateLine n cause) := canon_incCnt (canon_setFld (canon_flag h))

theorem canon_decideLine {s : State} {n : Nat} {own : Option LineId} (h : Canon s) : Canon (s.decideLine n own) := by
  unfold State.decideLine
  extract_lets p
  split
  · exact canon_flag h
  · exact h
  · split
    · exact h
    · extract_lets id mine started hot
      refine canon_ite ?_ ?_
      · exact canon_flag h
      · refine canon_ite ?_ ?_
        · exact canon_incCnt h
        · refine canon_ite ?_ ?_
          · exact canon_lateLine h
          · refine canon_ite ?_ ?_
            · exact canon_lateLine h
            · split
              · exact canon_lateLine h
              · exact canon_ite (canon_lateLine h) (canon_ite (canon_lateLine h) (canon_ite h (canon_emit (canon_modPrt (canon_incWrap h)))))

theorem canon_startLine {s : State} {n : Nat} {own : Option LineId} (h : Canon s) : Canon (s.startLine n own) := by
  unfold State.startLine
  extract_lets s1 s2 p
  have h1 : Canon s1 := by
    unfold s1
    split
    · rename_i s3 s4 p2
      exact canon_setFld h
    · exact h
  have h2 : Canon s2 := canon_decideLine h1
  exact canon_modPrt h2

theorem canon_absStart {s : State} {n : Nat} (h : Canon s) : Canon (s.absStart n) := canon_ite h (canon_putN (canon_hidden h))

theorem canon_sdfSync {s : State} (h : Canon s) : Canon s.sdfSync := by
  unfold State.sdfSync
  extract_lets s1 x
  have h1 : Canon s1 := canon_incWrap (canon_flag h)
  exact canon_hidden h1

theorem canon_capture {s : State} {n : Nat} (h : Canon s) : Canon (s.capture n) := by
  unfold State.capture
  extract_lets s1 s2
  have h1 : Canon s1 := canon_putN h
  have h2 : Canon s2 := canon_foldl (fun _ _ h3 => (canon_putN h3)) h1
  exact canon_incWrap h2

theorem canon_irqNotice {s : State} {n : Nat} (h : Canon s) : Canon (s.irqNotice n) := by
  unfold State.irqNotice
  extract_lets f
  exact canon_ite h (canon_msix (canon_flag h))

theorem canon_levelToggle {s : State} {n : Nat} (h : Canon s) : Canon (s.levelToggle n) := by
  unfold State.levelToggle
  extract_lets x
  exact canon_ite (canon_emit (canon_hidden h)) (canon_emit (canon_hidden h))

theorem canon_evtAct {s : State} {c : Nat} {hits : List Nat} {first : Bool} (h : Canon s) : Canon (s.evtAct c hits first) :=
  canon_ite (canon_trigger h) (canon_ite (canon_startLine h) (canon_ite (canon_pulse h) (canon_ite (canon_ite (canon_modCu h) h) (canon_ite (canon_absStart
      h) (canon_ite (canon_pulse h) (canon_ite (canon_sdfSync h) (canon_ite (canon_capture h) (canon_ite (canon_irqNotice h) (canon_ite (canon_ite h
      (canon_levelToggle h)) h)))))))))

theorem canon_evtConsumer {s : State} {srcs : List Nat} {bankB trigDis first : Bool} {c : Nat} (h : Canon s) : Canon (s.evtConsumer srcs bankB trigDis first
    c).2 := by
  unfold State.evtConsumer
  extract_lets hits open_ supp merged s1 s2 s3
  have h1 : Canon s1 := canon_setBit h
  have h2 : Canon s2 := canon_ite (canon_incWrap h1) h1
  have h3 : Canon s3 := canon_incWrap (canon_setFld h2)
  exact canon_ite_snd h (canon_ite_snd (canon_incWrap (canon_flag h2)) (canon_evtAct h3))

theorem canon_evtPass {s : State} {srcs : List Nat} {bankB first : Bool} (h : Canon s) : Canon (s.evtPass srcs bankB first).2 := by
  unfold State.evtPass
  extract_lets td
  exact canon_foldl_snd (fun _ _ h1 => (canon_evtConsumer h1)) h

theorem canon_evtPasses {bankB first : Bool} {f : Nat} {srcs : List Nat} {s : State} (h : Canon s) : Canon (evtPasses bankB first f srcs s) := by
  induction f generalizing bankB first srcs s with
  | zero => exact h
  | succ f ih =>
    unfold evtPasses
    extract_lets r
    exact canon_ite h (ih (canon_evtPass h))

theorem canon_raiseG {s : State} {srcs : List Nat} {bankB : Bool} (h : Canon s) : Canon (s.raiseG srcs bankB) := by
  unfold State.raiseG
  extract_lets s1
  have h1 : Canon s1 := canon_ite h (canon_evtPasses h)
  exact canon_foldl (fun _ _ h2 => (canon_ite (canon_modPrt h2) h2)) h1

theorem canon_raise {s : State} {srcs : List Nat} (h : Canon s) : Canon (s.raise srcs) := canon_raiseG h

theorem canon_swapNow {s : State} {b : Bool} (h : Canon s) : Canon (s.swapNow b) := by
  unfold State.swapNow
  extract_lets old s1 p r
  have h1 : Canon s1 := by
    unfold s1
    split
    · exact canon_emptyBank h
    · exact h
  exact canon_raise (canon_takeBank h1)

theorem canon_runStart {s : State} (h : Canon s) : Canon s.runStart := by
  unfold State.runStart
  split
  · exact canon_status (canon_runRise h)
  · split
    · exact canon_status (canon_runRise (canon_swapNow h))
    · exact canon_status h

theorem canon_runOne {s : State} (h : Canon s) : Canon s.runOne := by
  unfold State.runOne
  extract_lets x
  exact canon_ite (canon_status h) (canon_ite (canon_status h) (canon_ite (canon_status (canon_hidden h)) (canon_runStart h)))

theorem canon_startShift {s : State} {n : Nat} (h : Canon s) : Canon (s.startShift n) := by
  unfold State.startShift
  extract_lets s1 p noz
  have h1 : Canon s1 := canon_prune h
  split
  · extract_lets masked g r l' s2
    have h2 : Canon s2 := canon_modPrt h1
    exact canon_emit h2
  · exact h1

theorem canon_unpredict {s : State} {b : Bool} {n : Nat} (h : Canon s) : Canon (s.unpredict b n) := by
  unfold State.unpredict
  extract_lets keep
  exact canon_startShift (canon_modPrt h)

theorem canon_runZero {s : State} (h : Canon s) : Canon s.runZero := by
  unfold State.runZero
  extract_lets s1 s2 now x
  have h1 : Canon s1 := canon_setFld h
  have h2 : Canon s2 := by
    unfold s2
    split
    · exact canon_foldl (fun _ _ h3 => (canon_unpredict h3)) (canon_flag (canon_setFld (canon_setBank h1)))
    · exact h1
  exact canon_ite h (canon_hidden h2)

theorem canon_endLoading {s : State} (h : Canon s) : Canon s.endLoading := by
  unfold State.endLoading
  split
  · exact canon_emptyBank h
  · exact h

theorem canon_setLoad {s : State} {l : LoadS} (h : Canon s) : Canon (s.setLoad l) := by
  unfold State.setLoad
  extract_lets x
  exact canon_hidden h

theorem canon_flushList {s : State} {l : List Slot} (h : Canon s) : Canon (flushList s l).1 := by
  induction l generalizing s with
  | nil => exact h
  | cons t rest ih =>
    unfold flushList
    split
    · exact h
    · exact ih (canon_foldl (fun _ _ h1 => canon_pushEntry h1) h)

theorem canon_flushSlots {s : State} {q : Nat} (h : Canon s) : Canon (s.flushSlots q) := by
  unfold State.flushSlots
  split
  · rename_i s1 rest heq
    have h1 : Canon s1 := canon_of_eq (congrArg (·.1) heq) (canon_flushList h)
    extract_lets x
    exact canon_hidden h1

theorem canon_closeSlot {s : State} {q key : Nat} {es : List HostEntry} (h : Canon s) : Canon (s.closeSlot q key es) := by
  unfold State.closeSlot
  extract_lets l x
  exact canon_flushSlots (canon_hidden h)

theorem canon_loadEnd {s : State} {st : Nat} (h : Canon s) : Canon (s.loadEnd st) := by
  unfold State.loadEnd
  extract_lets res l s1
  have h1 : Canon s1 := canon_setFld (canon_setLoad h)
  split
  · exact h1
  · exact canon_closeSlot h1

theorem canon_reject {s : State} {e : LoadErr} (h : Canon s) : Canon (s.reject e) := by
  unfold State.reject
  extract_lets s1
  have h1 : Canon s1 := canon_incCnt (canon_flag (canon_setFld (canon_setFld (canon_endLoading h))))
  refine canon_loadEnd ?_
  split
  · exact canon_setFld h1
  · exact h1

theorem canon_loadAbort {s : State} (h : Canon s) : Canon s.loadAbort := canon_ite (canon_reject h) h

theorem canon_cfgCtl {s : State} {val : Word} (h : Canon s) : Canon (s.cfgCtl val) := by
  unfold State.cfgCtl
  extract_lets r
  have h1 : Canon r := canon_ite (canon_runOne h) (canon_status (canon_runZero h))
  exact canon_ite h1 (canon_ite (canon_status (canon_loadAbort h1)) h1)

theorem canon_swapStat {s : State} {st : Nat} (h : Canon s) : Canon (s.swapStat st) := canon_status (canon_setFld h)

theorem canon_swapDisarm {s : State} (h : Canon s) : Canon s.swapDisarm := by
  unfold State.swapDisarm
  split
  · exact canon_swapStat h
  · extract_lets s1 s2 x
    have h1 : Canon s1 := canon_setFld (canon_setBank h)
    have h2 : Canon s2 := canon_foldl (fun _ _ h3 => (canon_unpredict h3)) h1
    exact canon_swapStat (canon_hidden h2)

theorem canon_swapChan {s : State} {c : Nat} (h : Canon s) : Canon (s.swapChan c) := by
  unfold State.swapChan
  extract_lets x x2
  have h1 : Canon x := canon_setFld h
  exact canon_ite h (canon_hidden h1)

theorem canon_swapArm {s : State} {c : Nat} (h : Canon s) : Canon (s.swapArm c) := by
  unfold State.swapArm
  extract_lets a b dist s1 x
  have h1 : Canon s1 := canon_flag (canon_setBank (canon_swapChan h))
  exact canon_ite (canon_swapStat h) (canon_ite (canon_swapStat h) (canon_ite (canon_swapStat h) (canon_swapStat (canon_hidden h1))))

theorem canon_swapAtOnce {s : State} {c : Nat} (h : Canon s) : Canon (s.swapAtOnce c) := by
  unfold State.swapAtOnce
  refine canon_ite ?_ ?_
  · exact canon_status h
  · split
    · exact canon_status h
    · exact canon_status (canon_swapNow (canon_swapChan h))

theorem canon_swapCtl {s : State} {val : Word} (h : Canon s) : Canon (s.swapCtl val) := by
  unfold State.swapCtl
  extract_lets v c arm dis now
  exact canon_ite (canon_status h) (canon_ite (canon_ite (canon_swapDisarm h) (canon_status h)) (canon_ite (canon_swapArm h) (canon_ite (canon_swapDisarm h)
      (canon_ite (canon_swapAtOnce h) (canon_status (canon_swapChan h))))))

theorem canon_swapPos {s : State} {val : Word} (h : Canon s) : Canon (s.swapPos val) := canon_ite (canon_status h) (canon_status (canon_put h))

theorem canon_cfgWrite {s : State} {r : RegRef} {off : Nat} {v : Word} (h : Canon s) : Canon (s.cfgWrite r off v) := by
  unfold State.cfgWrite
  extract_lets b
  exact canon_ite (canon_cfgCtl h) (canon_ite (canon_swapCtl h) (canon_ite (canon_swapPos h) (canon_ite (canon_status h) (canon_ite (canon_status h)
      (canon_pkStore h)))))

theorem canon_updShare {s : State} (h : Canon s) : Canon s.updShare := canon_setFld h

theorem canon_modDma {s : State} {n : Nat} {f : DmaS → DmaS} (h : Canon s) : Canon (s.modDma n f) := canon_hidden h

theorem canon_dmaPost {s : State} {n : Nat} (h : Canon s) : Canon (s.dmaPost n) := by
  unfold State.dmaPost
  split
  · exact h
  · extract_lets q e s1 s2 x
    have h1 : Canon s1 := canon_setFld (canon_pushEntry h)
    have h2 : Canon s2 := canon_ite h1 (canon_setFld h1)
    exact canon_ite h (canon_updShare (canon_modDma h2))

theorem canon_dmaPostAll {s : State} (h : Canon s) : Canon s.dmaPostAll := canon_foldl (fun _ _ h1 => (canon_dmaPost h1)) h

theorem canon_ddrFault {s : State} {c cause a : Nat} (h : Canon s) : Canon (s.ddrFault c cause a) := canon_fault h

theorem canon_modDmc {s : State} {c : Nat} {f : DmcS → DmcS} (h : Canon s) : Canon (s.modDmc c f) := canon_hidden h

theorem canon_rankFail {s : State} {c rank a : Nat} (h : Canon s) : Canon (s.rankFail c rank a) := by
  unfold State.rankFail
  extract_lets s1
  have h1 : Canon s1 := canon_ddrFault (canon_flag (canon_modDmc h))
  exact canon_ite h (canon_ite (canon_setFld h1) h1)

theorem canon_rowRetire {s : State} {c ca a : Nat} (h : Canon s) : Canon (s.rowRetire c ca a) := by
  unfold State.rowRetire
  extract_lets row rank d ret s1 s2
  have h1 : Canon s1 := canon_modDmc h
  have h2 : Canon s2 := canon_ddrFault (canon_flag (canon_setFld h1))
  exact canon_ite h (canon_ite (canon_rankFail (canon_ddrFault (canon_flag h))) (canon_ite (canon_rankFail h2) h2))

theorem canon_ueLine {s : State} {c ca a syn : Nat} (h : Canon s) : Canon (s.ueLine c ca a syn) := by
  have hline : Canon (s.poisonLine (a / 64)) := canon_poisonLine h
  unfold State.poisonLine at hline
  unfold State.ueLine
  extract_lets row rank l s1 s2 s3 s4 s5 ue s6 hit
  have h1 : Canon s1 := hline
  have h2 : Canon s2 := canon_incCnt (canon_flag h1)
  have h3 : Canon s3 := canon_setFld (canon_putN h2)
  have h4 : Canon s4 := canon_ite h2 (canon_setFld (canon_flag h3))
  have h5 : Canon s5 := canon_ddrFault h4
  have h6 : Canon s6 := canon_rowRetire (canon_modDmc h5)
  exact canon_ite (canon_rankFail h6) h6

theorem canon_ddrReadLine {s : State} {l : Nat} (h : Canon s) : Canon (s.ddrReadLine l) := by
  unfold State.ddrReadLine
  extract_lets p
  refine canon_ite ?_ ?_
  · exact h
  · refine canon_ite ?_ ?_
    · exact canon_incWrap h
    · refine canon_ite ?_ ?_
      · exact canon_ueLine (canon_free h)
      · exact h

theorem canon_ddrRead {s : State} {a n : Nat} (h : Canon s) : Canon (s.ddrRead a n) := canon_foldl (fun _ _ h1 => (canon_ddrReadLine h1)) h

theorem canon_drainGo {k : Nat} {s : State} (h : Canon s) : Canon (drainGo k s) := by
  induction k generalizing s with
  | zero => exact h
  | succ k ih =>
    unfold drainGo
    split
    · exact h
    · exact canon_ite (ih (canon_incWrap (canon_pushEntry (canon_ddrRead (canon_hidden h))))) h

theorem canon_dropNotices {s : State} (h : Canon s) : Canon s.dropNotices := by
  unfold State.dropNotices
  extract_lets space
  exact canon_foldl (fun _ _ h1 => (canon_ite (canon_fault (canon_hidden h1)) h1)) h

theorem canon_drainSpill {s : State} (h : Canon s) : Canon s.drainSpill := by
  unfold State.drainSpill
  extract_lets s1 s2
  have h1 : Canon s1 := canon_drainGo h
  have h2 : Canon s2 := canon_setBit h1
  exact canon_dropNotices h2

theorem canon_credit {s : State} {c : Nat} (h : Canon s) : Canon (s.credit c) := canon_dmaPostAll (canon_drainSpill (canon_updFull h))

theorem canon_hqCfg {s : State} {n v : Nat} (h : Canon s) : Canon (s.hqCfg n v) := by
  unfold State.hqCfg
  extract_lets was size en cq s1 moved s2 s3 x s4 x2 s5
  have h1 : Canon s1 := canon_putN h
  have h2 : Canon s2 := canon_setFld (canon_setFld (canon_setFld h1))
  have h3 : Canon s3 := canon_ite (canon_writeBack h2) h2
  have h4 : Canon s4 := canon_setFld (canon_setFld h1)
  have h5 : Canon s5 := canon_ite (canon_ite h3 (canon_credit (canon_hidden h3))) (canon_ite (canon_hidden h4) h1)
  exact canon_status h5

theorem canon_doorbell {s : State} {q v : Nat} (h : Canon s) : Canon (s.doorbell q v) := by
  unfold State.doorbell
  extract_lets t new s1 x
  have h1 : Canon s1 := canon_status (canon_setFld h)
  exact canon_ite (canon_status h) (canon_ite (canon_hidden h1) h1)

theorem canon_headWrite {s : State} {c v : Nat} (h : Canon s) : Canon (s.headWrite c v) := by
  unfold State.headWrite
  extract_lets h2
  exact canon_ite (canon_status h) (canon_status (canon_credit (canon_setFld h)))

theorem canon_msixUnmask {s : State} {vec : Nat} (h : Canon s) : Canon (s.msixUnmask vec) := by
  unfold State.msixUnmask
  extract_lets o
  exact canon_ite (canon_emit (canon_putN h)) h

theorem canon_msixWrite {s : State} {vec k : Nat} {v : Word} (h : Canon s) : Canon (s.msixWrite vec k v) := canon_msixUnmask (canon_status (canon_put h))

theorem canon_hostqWrite {s : State} {r : RegRef} {off : Nat} {v : Word} (h : Canon s) : Canon (s.hostqWrite r off v) := by
  unfold State.hostqWrite
  extract_lets b
  exact canon_ite (canon_hqCfg h) (canon_ite (canon_ite (canon_doorbell h) (canon_status h)) (canon_ite (canon_ite (canon_headWrite h) (canon_status h))
      (canon_ite (canon_status h) (canon_ite (canon_msixWrite h) (canon_pkStore h)))))

theorem canon_toOff {s : State} {i : Nat} (h : Canon s) : Canon (s.toOff i) := by
  unfold State.toOff
  extract_lets s1
  have h1 : Canon s1 := canon_setFld (canon_setFld (canon_eyeAbort h))
  exact canon_ite (canon_setFld h1) h1

theorem canon_laneCtl {s : State} {i : Nat} {val : Word} (h : Canon s) : Canon (s.laneCtl i val) := by
  unfold State.laneCtl
  extract_lets loop prbs on set s1 x s2 p s3
  have h1 : Canon s1 := canon_status (canon_put h)
  have h2 : Canon s2 := canon_hidden h1
  have h3 : Canon s3 := canon_hidden h1
  exact canon_ite (canon_status h) (canon_ite (canon_setFld h2) (canon_ite (canon_ite (canon_setFld (canon_eyeAbort h3)) (canon_ite (canon_toOff h3)
      (canon_toHunt h3))) h1))

theorem canon_eqSeed {s : State} {i : Nat} {val : Word} (h : Canon s) : Canon (s.eqSeed i val) := by
  unfold State.eqSeed
  extract_lets x
  exact canon_status (canon_hidden h)

theorem canon_eyeCtl {s : State} {i : Nat} {val : Word} (h : Canon s) : Canon (s.eyeCtl i val) := by
  unfold State.eyeCtl
  extract_lets s1 s2
  have h1 : Canon s1 := canon_status (canon_put h)
  have h2 : Canon s2 := canon_setFld (canon_setFld h1)
  exact canon_ite (canon_status h) (canon_ite h1 (canon_ite (canon_flag h2) (canon_flag (canon_setFld h2))))

theorem canon_laneWrite {s : State} {r : RegRef} {off : Nat} {v : Word} (h : Canon s) : Canon (s.laneWrite r off v) := by
  unfold State.laneWrite
  extract_lets b
  exact canon_ite (canon_laneCtl h) (canon_ite (canon_eqSeed h) (canon_ite (canon_eyeCtl h) (canon_pkStore h)))

theorem canon_npRetrain {s : State} {p : Nat} (h : Canon s) : Canon (s.npRetrain p) := canon_ite h (canon_npDown h)

theorem canon_nimWrite {s : State} {r : RegRef} {off : Nat} {v : Word} (h : Canon s) : Canon (s.nimWrite r off v) := by
  unfold State.nimWrite
  extract_lets b
  exact canon_ite (canon_status (canon_ite (canon_npRetrain h) h)) (canon_ite (canon_status h) (canon_pkStore h))

theorem canon_ingFlip {s : State} {n : Nat} (h : Canon s) : Canon (s.ingFlip n) :=
  canon_ite (canon_status h) (canon_ite (canon_status (canon_flag h)) (canon_status (canon_flag h)))

theorem canon_pkStoreBut {s : State} {r : RegRef} {off : Nat} {v : Word} {strobes : Nat} (h : Canon s) : Canon (s.pkStoreBut r off v strobes) :=
  canon_pkStore h

theorem canon_darkCapt {s : State} {n : Nat} (h : Canon s) : Canon (s.darkCapt n) := canon_put (canon_put h)

theorem canon_ingCtl {s : State} {r : RegRef} {off : Nat} {v : Word} (h : Canon s) : Canon (s.ingCtl r off v) := by
  unfold State.ingCtl
  extract_lets n w mt s' s'2
  have h1 : Canon s' := canon_ite (canon_ingFlip h) (canon_status h)
  have h2 : Canon s'2 := canon_pkStoreBut h1
  exact canon_ite (canon_status h) (canon_ite h1 (canon_ite (canon_darkCapt h2) h2))

theorem canon_ingWrite {s : State} {r : RegRef} {off : Nat} {v : Word} (h : Canon s) : Canon (s.ingWrite r off v) := by
  unfold State.ingWrite
  extract_lets b w stopped dly
  exact canon_ite (canon_ingCtl h) (canon_ite (canon_status h) (canon_ite (canon_status h) (canon_ite (canon_status h) (canon_ite (canon_status h)
      (canon_ite (canon_status h) (canon_pkStore h))))))

theorem canon_modSeam {s : State} {k : Nat} {f : SeamS → SeamS} (h : Canon s) : Canon (s.modSeam k f) := by
  unfold State.modSeam
  extract_lets x
  exact canon_hidden h

theorem canon_seedWrite {s : State} {k v : Nat} (h : Canon s) : Canon (s.seedWrite k v) := canon_status (canon_modSeam h)

theorem canon_umapFlip {s : State} (h : Canon s) : Canon s.umapFlip := canon_ite (canon_status h) (canon_status (canon_flag h))

theorem canon_stiWrite {s : State} {r : RegRef} {off : Nat} {v : Word} (h : Canon s) : Canon (s.stiWrite r off v) := by
  unfold State.stiWrite
  extract_lets b w cw bad
  exact canon_ite (canon_status h) (canon_ite (canon_seedWrite h) (canon_ite (canon_ite (canon_umapFlip h) (canon_status h)) (canon_pkStore h)))

theorem canon_cmpReserve {s : State} (h : Canon s) : Canon s.cmpReserve := canon_foldl (fun _ _ h1 => (canon_setBit h1)) h

theorem canon_segWrite {s : State} {r : RegRef} {off : Nat} {v : Word} (h : Canon s) : Canon (s.segWrite r off v) := by
  unfold State.segWrite
  extract_lets b w cc lead
  exact canon_ite (canon_status h) (canon_ite (canon_ite (canon_status h) (canon_cmpReserve (canon_pkStore h))) (canon_ite (canon_cmpReserve (canon_pkStore
      h)) (canon_ite (canon_status h) (canon_ite (canon_status h) (canon_ite (canon_status h) (canon_ite (canon_pkStoreBut h) (canon_pkStore h)))))))

theorem canon_hpCtl {s : State} {n v : Nat} (h : Canon s) : Canon (s.hpCtl n v) := by
  unfold State.hpCtl
  extract_lets old
  exact canon_ite (canon_status h) (canon_status (canon_putN h))

theorem canon_hpTim {s : State} {n : Nat} {second : Bool} {v : Nat} (h : Canon s) : Canon (s.hpTim n second v) := by
  unfold State.hpTim
  extract_lets t0 t1
  exact canon_ite (canon_status (canon_ite (canon_putN h) (canon_putN h))) (canon_status h)

theorem canon_tkAdd {s : State} {n : Nat} {t : TkS} (h : Canon s) : Canon (s.tkAdd n t).2 := by
  unfold State.tkAdd
  extract_lets l
  exact canon_ite_snd h (canon_ite_snd (canon_flag h) (canon_setTk h))

theorem canon_tkAddCmd {s : State} {n nozzle : Nat} (h : Canon s) : Canon (s.tkAddCmd n nozzle) := by
  unfold State.tkAddCmd
  refine canon_ite ?_ ?_
  · exact canon_status (canon_tkAdd h)
  · exact canon_status h

theorem canon_removedRec {s : State} {n : Nat} {t : TkS} (h : Canon s) : Canon (s.removedRec n t).2 := by
  unfold State.removedRec
  extract_lets fl w c id ws l
  exact canon_ite_snd (canon_hidden h) h

theorem canon_tkRemoveCmd {s : State} {n nozzle : Nat} (h : Canon s) : Canon (s.tkRemoveCmd n nozzle) := by
  unfold State.tkRemoveCmd
  extract_lets l s'
  have h1 : Canon s' := canon_setTk h
  split
  · extract_lets r
    refine canon_status ?_
    exact canon_record (canon_removedRec h1)
  · exact canon_status h1

theorem canon_prtWrite {s : State} {r : RegRef} {off : Nat} {v : Word} (h : Canon s) : Canon (s.prtWrite r off v) := by
  unfold State.prtWrite
  extract_lets b w
  exact canon_ite (canon_hpCtl h) (canon_ite (canon_hpTim h) (canon_ite (canon_hpTim h) (canon_ite (canon_status h) (canon_ite (canon_ite (canon_tkAddCmd h)
      (canon_ite (canon_tkRemoveCmd h) (canon_status h))) (canon_pkStore h)))))

theorem canon_encCtl {s : State} {n v : Nat} (h : Canon s) : Canon (s.encCtl n v) := by
  unfold State.encCtl
  extract_lets s1
  have h1 : Canon s1 := canon_status (canon_putN h)
  exact canon_ite (canon_status h) (canon_ite h1 (canon_setFld h1))

theorem canon_cuCtl {s : State} {u v : Nat} (h : Canon s) : Canon (s.cuCtl u v) := by
  unfold State.cuCtl
  extract_lets old en move s1
  have h1 : Canon s1 := canon_status (canon_putN h)
  exact canon_ite (canon_status h) (canon_ite h1 (canon_modCu h1))

theorem canon_cuSpacing {s : State} {u v : Nat} (h : Canon s) : Canon (s.cuSpacing u v) := by
  unfold State.cuSpacing
  extract_lets hi
  exact canon_ite (canon_status h) (canon_status (canon_modCu (canon_setFld (canon_putN h))))

theorem canon_cuSpacingHi {s : State} {u v : Nat} (h : Canon s) : Canon (s.cuSpacingHi u v) := canon_ite (canon_status h) (canon_status (canon_modCu h))

theorem canon_cuNext {s : State} {u : Nat} {frac : Bool} {v : Nat} (h : Canon s) : Canon (s.cuNext u frac v) :=
  canon_ite (canon_status h) (canon_status (canon_putN h))

theorem canon_swAccept {s : State} {n : Nat} (h : Canon s) : Canon (s.swAccept n) := by
  unfold State.swAccept
  split
  · exact h
  · extract_lets s1 s2
    have h1 : Canon s1 := canon_hidden h
    have h2 : Canon s2 := canon_setBit (canon_putN h1)
    exact canon_raise (canon_flag h2)

theorem canon_swSample {s : State} {n : Nat} {lv : Bool} (h : Canon s) : Canon (s.swSample n lv) := by
  unfold State.swSample
  extract_lets run s'
  have h1 : Canon s' := canon_hidden h
  exact canon_ite (canon_hidden h) (canon_ite h (canon_ite (canon_swAccept h1) h1))

theorem canon_swCtl {s : State} {v : Nat} (h : Canon s) : Canon (s.swCtl v) := by
  unfold State.swCtl
  extract_lets d lv s'
  have h1 : Canon s' := canon_status (canon_putN h)
  exact canon_foldl (fun _ _ h2 => (canon_ite (canon_swSample h2) h2)) h1

theorem canon_encWrite {s : State} {r : RegRef} {off : Nat} {v : Word} (h : Canon s) : Canon (s.encWrite r off v) := by
  unfold State.encWrite
  extract_lets b w n
  exact canon_ite (canon_encCtl h) (canon_ite (canon_status h) (canon_ite (canon_cuCtl h) (canon_ite (canon_cuSpacing h) (canon_ite (canon_cuSpacingHi h)
      (canon_ite (canon_cuNext h) (canon_ite (canon_cuNext h) (canon_ite (canon_status h) (canon_ite (canon_swCtl h) (canon_pkStore h)))))))))

theorem canon_timeStep {s : State} {d : Int} (h : Canon s) : Canon (s.timeStep d).2 := by
  unfold State.timeStep
  extract_lets v x
  exact canon_ite_snd h (canon_ite_snd h (canon_ite_snd h (canon_flag (canon_hidden h))))

theorem canon_stepFromUp {s : State} (h : Canon s) : Canon s.stepFromUp := by
  unfold State.stepFromUp
  extract_lets r
  exact canon_status (canon_timeStep h)

theorem canon_stepHiWrite {s : State} {hi : Nat} (h : Canon s) : Canon (s.stepHiWrite hi) := by
  unfold State.stepHiWrite
  extract_lets r
  refine canon_ite ?_ ?_
  · refine canon_status ?_
    exact canon_putN (canon_timeStep h)
  · exact canon_status h

theorem canon_rateWrite {s : State} {v : Nat} (h : Canon s) : Canon (s.rateWrite v) := canon_ite (canon_status (canon_putN h)) (canon_status h)

theorem canon_adjTicksWrite {s : State} {v : Nat} (h : Canon s) : Canon (s.adjTicksWrite v) := canon_status (canon_setBit (canon_putN h))

theorem canon_timeWrite {s : State} {r : RegRef} {off : Nat} {v : Word} (h : Canon s) : Canon (s.timeWrite r off v) := by
  unfold State.timeWrite
  extract_lets b w s'
  have h1 : Canon s' := canon_ite (canon_stepFromUp h) (canon_status h)
  exact canon_ite (canon_ite (canon_status h) (canon_ite h1 (canon_pkStoreBut h1))) (canon_ite (canon_stepHiWrite h) (canon_ite (canon_rateWrite h)
      (canon_ite (canon_status h) (canon_ite (canon_adjTicksWrite h) (canon_ite (canon_pkStore h) (canon_pkStore h))))))

theorem canon_updSdf {s : State} (h : Canon s) : Canon s.updSdf := by
  unfold State.updSdf
  extract_lets anyEn allRun
  exact canon_setReady h

theorem canon_setSdfCh {s : State} {n : Nat} {c : SdfCh} (h : Canon s) : Canon (s.setSdfCh n c) := by
  unfold State.setSdfCh
  extract_lets x
  exact canon_hidden h

theorem canon_sdfReset {s : State} {n : Nat} (h : Canon s) : Canon (s.sdfReset n) := canon_setFld (canon_setSdfCh h)

theorem canon_updGd {s : State} {n : Nat} (h : Canon s) : Canon (s.updGd n) := canon_setFld h

theorem canon_sdfCtlWrite {s : State} {n val : Nat} (h : Canon s) : Canon (s.sdfCtlWrite n val) := by
  unfold State.sdfCtlWrite
  extract_lets off old new en was g m nt s1 x
  have h1 : Canon s1 := canon_updGd (canon_putN h)
  exact canon_ite (canon_status h) (canon_ite (canon_status h) (canon_ite (canon_ite (canon_status h) (canon_status (canon_updSdf (canon_sdfReset
      (canon_updGd (canon_putN h)))))) (canon_ite (canon_status (canon_updSdf (canon_setSdfCh h1))) (canon_status (canon_updGd (canon_putN h))))))

theorem canon_sdfWrite {s : State} {r : RegRef} {off : Nat} {v : Word} (h : Canon s) : Canon (s.sdfWrite r off v) := by
  unfold State.sdfWrite
  extract_lets b n s'
  have h1 : Canon s' := canon_pkStoreBut h
  exact canon_ite (canon_ite (canon_sdfSync h1) h1) (canon_ite (canon_sdfCtlWrite h) (canon_ite (canon_status h) (canon_ite (canon_updGd (canon_pkStore h))
      (canon_pkStore h))))

theorem canon_dmcValid {s : State} (h : Canon s) : Canon s.dmcValid := canon_setBit h

theorem canon_dmcCfgWrite {s : State} {val : Word} (h : Canon s) : Canon (s.dmcCfgWrite val) := by
  unfold State.dmcCfgWrite
  extract_lets n8 s' n spare
  have h1 : Canon s' := canon_put h
  exact canon_ite (canon_status h) (canon_ite (canon_status h1) (canon_ite (canon_status h) (canon_status (canon_dmcValid (canon_setFld h1)))))

theorem canon_initSeq {s : State} {c : Nat} (h : Canon s) : Canon (s.initSeq c) := by
  unfold State.initSeq
  extract_lets mr s1 s2
  have h1 : Canon s1 := canon_emit h
  have h2 : Canon s2 := canon_ite (canon_emit h1) h1
  exact canon_emit (canon_foldl (fun _ _ h3 => (canon_emit h3)) h2)

theorem canon_dmcCtl {s : State} {c : Nat} {val : Word} (h : Canon s) : Canon (s.dmcCtl c val) := by
  unfold State.dmcCtl
  extract_lets init s1 s2 s3
  have h1 : Canon s1 := canon_put h
  have h2 : Canon s2 := canon_ite (canon_initSeq (canon_dmcValid (canon_setFld h1))) h1
  have h3 : Canon s3 := canon_ite (canon_modDmc (canon_flag h2)) h2
  exact canon_ite (canon_status h) (canon_status h3)

theorem canon_dmcWrite {s : State} {r : RegRef} {off : Nat} {v : Word} (h : Canon s) : Canon (s.dmcWrite r off v) := by
  unfold State.dmcWrite
  extract_lets b w c st
  exact canon_ite (canon_dmcCfgWrite h) (canon_ite (canon_status h) (canon_ite (canon_dmcCtl h) (canon_ite (canon_status h) (canon_ite (canon_status h)
      (canon_pkStore h)))))

theorem canon_nimCredited {s : State} {p seq : Nat} {f : NFrame} (h : Canon s) : Canon (s.nimCredited p seq f) := canon_nimSend h

theorem canon_npPump {p : Nat} {fs : List NFrame} {stuck : List Nat} {s : State} (h : Canon s) : Canon (npPump p fs stuck s) := by
  induction fs generalizing stuck s with
  | nil => exact h
  | cons f fs ih => exact canon_ite (ih (canon_modNp h)) (ih (canon_nimCredited (canon_setFld (canon_modNp h))))

theorem canon_npSend {s : State} {p : Nat} (h : Canon s) : Canon (s.npSend p) := canon_npPump (canon_modNp h)

theorem canon_sendFrameNp {s : State} {p : Nat} {f : NFrame} (h : Canon s) : Canon (s.sendFrameNp p f) := canon_npSend (canon_modNp h)

theorem canon_noRoute {s : State} (h : Canon s) : Canon s.noRoute := canon_incCnt h

theorem canon_sendRouted {s : State} {f : NFrame} (h : Canon s) : Canon (s.sendRouted f) := by
  unfold State.sendRouted
  split
  · exact canon_sendFrameNp h
  · exact canon_noRoute h

theorem canon_sendData {s : State} {vc dst : Nat} {payload : List Byte} (h : Canon s) : Canon (s.sendData vc dst payload) := canon_sendRouted h

theorem canon_remoteRead {s : State} {n : Nat} (h : Canon s) : Canon (s.remoteRead n) := by
  unfold State.remoteRead
  extract_lets d at_
  exact canon_ite h (canon_sendData h)

theorem canon_ccBad {s : State} {c n : Nat} (h : Canon s) : Canon (s.ccBad c n) := canon_fault (canon_incCnt (canon_flag h))

theorem canon_dmaCode {s : State} {n : Nat} {bs : List (Byte × Bool)} (h : Canon s) : Canon (s.dmaCode n bs).2.2 := by
  unfold State.dmaCode
  extract_lets c comp bad raw o s1 fillOut
  have h1 : Canon s1 := canon_setFld (canon_setFld h)
  split
  · exact h
  · split
    · exact h1
    · split
      · split
        · exact h
        · exact canon_ccBad h
      · exact canon_ccBad h
      · exact canon_ccBad h

theorem canon_dmaNote {s : State} {n : Nat} (h : Canon s) : Canon (s.dmaNote n) := canon_ite h (canon_ddrRead h)

theorem canon_dmaEnd {s : State} {n st cause xfer : Nat} {flags : List Fld} {late : Bool} (h : Canon s) : Canon (s.dmaEnd n st cause xfer flags late) := by
  unfold State.dmaEnd
  extract_lets s1 s2
  have h1 : Canon s1 := canon_setFld (canon_putN h)
  have h2 : Canon s2 := canon_foldl (fun _ _ h3 => (canon_flag h3)) h1
  exact canon_dmaPost (canon_modDma h2)

theorem canon_dmaOver {s : State} {n x kind : Nat} {late : Bool} (h : Canon s) : Canon (s.dmaOver n x kind late) := by
  unfold State.dmaOver
  extract_lets fl
  exact canon_ite (canon_dmaEnd h) (canon_ite (canon_dmaEnd h) (canon_dmaEnd h))

theorem canon_remoteWrites {s : State} {n kind : Nat} {bs : List (Byte × Bool)} (h : Canon s) : Canon (s.remoteWrites n kind bs) := by
  unfold State.remoteWrites
  extract_lets k s1
  have h1 : Canon s1 := canon_foldl (fun _ _ h2 => (canon_sendData h2)) h
  exact canon_modDma h1

theorem canon_memStore {s : State} {a : Nat} {bs : List Byte} (h : Canon s) : Canon (s.memStore a bs) := by
  unfold State.memStore
  extract_lets part
  exact canon_memWrite (canon_foldl (fun _ _ h1 => (canon_ddrReadLine h1)) h)

theorem canon_localWrite {s : State} {a : Nat} {bs : List (Byte × Bool)} (h : Canon s) : Canon (s.localWrite a bs) := by
  unfold State.localWrite
  extract_lets bad
  exact canon_ite h (canon_foldl (fun _ _ h1 => (canon_poisonLine h1)) (canon_memStore h))

theorem canon_dmaPut {s : State} {n : Nat} {bs : List (Byte × Bool)} (h : Canon s) : Canon (s.dmaPut n bs) :=
  canon_ite (canon_ite h (canon_emit h)) (canon_localWrite h)

theorem canon_dmaFinish {s : State} {n : Nat} {bs : List (Byte × Bool)} (h : Canon s) : Canon (s.dmaFinish n bs) := by
  unfold State.dmaFinish
  extract_lets r kind
  refine canon_ite ?_ ?_
  · refine canon_ite ?_ ?_
    · exact canon_dmaOver (canon_dmaCode (canon_dmaNote h))
    · exact canon_remoteWrites (canon_dmaCode (canon_dmaNote h))
  · refine canon_dmaOver ?_
    exact canon_dmaPut (canon_dmaCode (canon_dmaNote h))

theorem canon_dmaStart {s : State} {n : Nat} (h : Canon s) : Canon (s.dmaStart n) := by
  unfold State.dmaStart
  extract_lets s1 s2 x s3
  have h1 : Canon s1 := canon_setFld (canon_putN (canon_flag h))
  have h2 : Canon s2 := canon_ite h1 (canon_flag (canon_wakeBlock h1))
  have h3 : Canon s3 := canon_updShare (canon_modDma h2)
  exact canon_ite (canon_remoteRead h3) (canon_ite (canon_dmaFinish h3) h3)

theorem canon_dmaAbort {s : State} {n acc : Nat} {host : List Byte} (h : Canon s) : Canon (s.dmaAbort n acc host) := by
  unfold State.dmaAbort
  extract_lets stop bs s1
  have h1 : ∀ {s2 x2}, Canon s2 → Canon (stop s2 x2) := fun h2 => canon_dmaEnd h2
  have h3 : Canon s1 := canon_dmaNote h
  refine canon_ite ?_ ?_
  · exact h
  · split
    · exact canon_ite h (canon_modDma (canon_flag h))
    · refine canon_ite ?_ ?_
      · split
        · exact canon_ite (canon_dmaOver h) (h1 h)
        · exact h1 h
      · split
        · exact h1 (canon_dmaPut h)
        · extract_lets r
          refine canon_ite ?_ ?_
          · refine canon_dmaOver ?_
            exact canon_dmaPut (canon_dmaCode h3)
          · exact h1 (canon_dmaPut h3)

theorem canon_dmaCtl {s : State} {n : Nat} {val : Word} (h : Canon s) : Canon (s.dmaCtl n val) := by
  unfold State.dmaCtl
  extract_lets s'
  have h1 : Canon s' := canon_setFld h
  exact canon_ite (canon_ite (canon_status (canon_dmaStart h1)) (canon_status h)) (canon_ite (canon_status (canon_dmaAbort h1)) (canon_status h1))

theorem canon_dmaWrite {s : State} {r : RegRef} {off : Nat} {v : Word} (h : Canon s) : Canon (s.dmaWrite r off v) := by
  unfold State.dmaWrite
  extract_lets b w n
  exact canon_ite (canon_dmaCtl h) (canon_ite (canon_status h) (canon_ite (canon_status h) (canon_ite (canon_status h) (canon_ite (canon_status h)
      (canon_pkStore h)))))

theorem canon_twBusy {s : State} {n : Nat} (h : Canon s) : Canon (s.twBusy n) := canon_setBit h

theorem canon_modTw {s : State} {n : Nat} {f : TwS → TwS} (h : Canon s) : Canon (s.modTw n f) := canon_hidden h

theorem canon_twEnd {s : State} {n result : Nat} (h : Canon s) : Canon (s.twEnd n result) := by
  unfold State.twEnd
  extract_lets op s1 s2
  have h1 : Canon s1 := canon_flag (canon_setFld h)
  have h2 : Canon s2 := canon_ite (canon_incCnt h1) h1
  exact canon_twBusy (canon_modTw h2)

theorem canon_twAbort {s : State} {n : Nat} {stopBegun : Bool} (h : Canon s) : Canon (s.twAbort n stopBegun) :=
  canon_ite h (canon_twEnd (canon_modTw (canon_emit h)))

theorem canon_busClear {s : State} {n : Nat} (h : Canon s) : Canon (s.busClear n) := canon_ite h (canon_emit (canon_twBusy (canon_incCnt (canon_modTw h))))

theorem canon_twCtl {s : State} {n : Nat} {val : Word} (h : Canon s) : Canon (s.twCtl n val) := by
  unfold State.twCtl
  extract_lets s1
  have h1 : Canon s1 := canon_ite (canon_twAbort h) h
  exact canon_status (canon_ite (canon_busClear h1) h1)

theorem canon_twXfer {s : State} {n : Nat} {val : Word} (h : Canon s) : Canon (s.twXfer n val) := by
  unfold State.twXfer
  extract_lets v waits s'
  have h1 : Canon s' := canon_put h
  exact canon_ite (canon_status h) (canon_ite (canon_status h1) (canon_ite (canon_status h) (canon_ite (canon_status h) (canon_status (canon_twBusy
      (canon_modTw h1))))))

theorem canon_tgtIdle {s : State} {n : Nat} (h : Canon s) : Canon (s.tgtIdle n) := canon_modTw h

theorem canon_tgtCfg {s : State} {val : Word} (h : Canon s) : Canon (s.tgtCfg val) := by
  unfold State.tgtCfg
  extract_lets a s'
  have h1 : Canon s' := canon_status (canon_put h)
  exact canon_ite (canon_status h) (canon_ite h1 (canon_tgtIdle h1))

theorem canon_notifyWrite {s : State} {val : Word} (h : Canon s) : Canon (s.notifyWrite val) := by
  unfold State.notifyWrite
  extract_lets s'
  have h1 : Canon s' := canon_put h
  exact canon_ite (canon_status h1) (canon_ite (canon_status h) (canon_status (canon_twBusy (canon_modTw h1))))

theorem canon_twWrite {s : State} {r : RegRef} {off : Nat} {v : Word} (h : Canon s) : Canon (s.twWrite r off v) := by
  unfold State.twWrite
  extract_lets b
  exact canon_ite (canon_twCtl h) (canon_ite (canon_twXfer h) (canon_ite (canon_ite (canon_status h) (canon_pkStore h)) (canon_ite (canon_tgtCfg h)
      (canon_ite (canon_notifyWrite h) (canon_ite (canon_ite (canon_pkStore h) (canon_status h)) (canon_pkStore h))))))

theorem canon_camCount {s : State} {n : Nat} (h : Canon s) : Canon (s.camCount n) := by
  unfold State.camCount
  extract_lets m
  exact canon_setFld (canon_setFld h)

theorem canon_laneDown {s : State} {i : Nat} (h : Canon s) : Canon (s.laneDown i) := by
  unfold State.laneDown
  extract_lets x s1
  have h1 : Canon s1 := canon_hidden h
  exact canon_ite h1 (canon_toOff h1)

theorem canon_npOff {s : State} {p : Nat} (h : Canon s) : Canon (s.npOff p) := canon_setReady (canon_setFld (canon_ite h (canon_setFld h)))

theorem canon_modRegion {s : State} {n : Nat} {f : RegionS → RegionS} (h : Canon s) : Canon (s.modRegion n f) := by
  unfold State.modRegion
  extract_lets x
  exact canon_hidden h

theorem canon_regionOff {s : State} {n : Nat} (h : Canon s) : Canon (s.regionOff n) := canon_modRegion h

theorem canon_enterWinter {s : State} (h : Canon s) : Canon s.enterWinter := by
  unfold State.enterWinter
  extract_lets s1 s2 net s3 s4 s5 s6 s7 s8 s9 s10 s11 s12 x x2
  have h1 : Canon s1 := canon_setFld h
  have h2 : Canon s2 := canon_foldl (fun _ _ h3 => (canon_gateSet h3)) h1
  have h4 : Canon s3 := canon_foldl (fun _ _ h6 => (canon_camCount h6)) (canon_foldl (fun _ _ h5 => (canon_laneDown h5)) h2)
  have h7 : Canon s4 := canon_ite h4 (canon_foldl (fun _ _ h8 => (canon_setReady h8)) h4)
  have h9 : Canon s5 := canon_ite h7 (canon_foldl (fun _ _ h10 => (canon_npOff h10)) h7)
  have h11 : Canon s6 := canon_foldl (fun _ _ h12 => (canon_setReady h12)) h9
  have h13 : Canon s7 := canon_foldl (fun _ _ h14 => (canon_setReady h14)) h11
  have h15 : Canon s8 := canon_foldl (fun _ _ h16 => (canon_setReady h16)) h13
  have h17 : Canon s9 := canon_foldl (fun _ _ h18 => (canon_setFld h18)) h15
  have h19 : Canon s10 := canon_foldl (fun _ _ h20 => (canon_modDmc h20)) h17
  have h21 : Canon s11 := canon_dmcValid h19
  have h22 : Canon s12 := canon_foldl (fun _ _ h23 => (canon_regionOff h23)) h21
  exact canon_hidden h22

theorem canon_pmbWrite {s : State} {d : Nat} {bs : List Byte} (h : Canon s) : Canon (s.pmbWrite d bs) := by
  unfold State.pmbWrite
  extract_lets a out
  exact canon_emit (canon_emit (canon_emit h))

theorem canon_pmbSend {s : State} (h : Canon s) : Canon s.pmbSend := by
  unfold State.pmbSend
  split
  · exact h
  · extract_lets page s1 x x2
    have h1 : Canon s1 := canon_ite h (canon_pmbWrite h)
    have h2 : Canon x := canon_pmbWrite h1
    exact canon_ite h (canon_hidden h2)

theorem canon_pmbBegin {s : State} (h : Canon s) : Canon s.pmbBegin := by
  unfold State.pmbBegin
  split
  · exact h
  · extract_lets s1 x
    have h1 : Canon s1 := canon_setFld (canon_flag h)
    exact canon_pmbSend (canon_hidden h1)

theorem canon_pmbAsk {s : State} {d mv : Nat} (h : Canon s) : Canon (s.pmbAsk d mv) := by
  unfold State.pmbAsk
  extract_lets idle x s1
  have h1 : Canon s1 := canon_hidden h
  exact canon_ite (canon_pmbBegin h1) h1

theorem canon_dieBegin {s : State} (h : Canon s) : Canon s.dieBegin := by
  unfold State.dieBegin
  split
  · exact h
  · exact canon_ite (canon_pmbAsk h) h

theorem canon_leaveWinter {s : State} {t ddrFail : Nat} (h : Canon s) : Canon (s.leaveWinter t ddrFail) := by
  unfold State.leaveWinter
  extract_lets s1 x s2 s3 s4 s5 s6
  have h1 : Canon s1 := canon_flag h
  have h2 : Canon s2 := canon_hidden h1
  have h3 : Canon s3 := canon_foldl (fun _ _ h4 => (canon_ite (canon_setReady (canon_flag (canon_setFld h4))) h4)) h2
  have h5 : Canon s4 := canon_dmcValid h3
  have h6 : Canon s5 := canon_foldl (fun _ _ h7 => (canon_ite (canon_toHunt h7) h7)) h5
  have h8 : Canon s6 := canon_ite h6 (canon_npReady h6)
  exact canon_dieBegin h8

theorem canon_summerGate {s : State} (h : Canon s) : Canon s.summerGate := canon_ite h (canon_foldl (fun _ _ h1 => (canon_gateSet h1)) h)

theorem canon_pwrCmd {s : State} {st ddrFail : Nat} (h : Canon s) : Canon (s.pwrCmd st ddrFail) := by
  unfold State.pwrCmd
  extract_lets cur s' x
  have h1 : Canon s' := canon_status (canon_setFld h)
  refine canon_ite ?_ ?_
  · exact canon_status h
  · refine canon_ite ?_ ?_
    · refine canon_ite ?_ ?_
      · exact canon_status h
      · refine canon_ite ?_ ?_
        · split
          · exact canon_status (canon_setFld (canon_setFld (canon_setFld h)))
          · exact canon_enterWinter h1
        · exact canon_flag (canon_hidden h1)
    · exact canon_ite (canon_leaveWinter h1) (canon_ite (canon_setFld h1) (canon_summerGate (canon_setFld h1)))

theorem canon_pwrCmdWrite {s : State} {val : Word} (h : Canon s) : Canon (s.pwrCmdWrite val) :=
  canon_ite (canon_pwrCmd h) (canon_ite (canon_status h) (canon_status (canon_setFld h)))

theorem canon_setMove {s : State} {d : Nat} {m : Option Move} (h : Canon s) : Canon (s.setMove d m) := by
  unfold State.setMove
  extract_lets rest x
  exact canon_hidden h

theorem canon_dvfsGo {s : State} {d : Nat} (h : Canon s) : Canon (s.dvfsGo d) := by
  unfold State.dvfsGo
  extract_lets t c s1
  have h1 : Canon s1 := canon_flag h
  exact canon_ite h (canon_ite (canon_pmbAsk (canon_setMove h1)) (canon_setMove h1))

theorem canon_targetWrite {s : State} {d v : Nat} (h : Canon s) : Canon (s.targetWrite d v) := by
  unfold State.targetWrite
  extract_lets x s1
  have h1 : Canon s1 := canon_status (canon_setFld h)
  refine canon_ite ?_ ?_
  · exact canon_status (canon_hidden h)
  · split
    · exact canon_setMove h1
    · exact canon_dvfsGo h1

theorem canon_calRec {s : State} {w4 cur prop w7 : Nat} (h : Canon s) : Canon (s.calRec w4 cur prop w7) := canon_record h

theorem canon_calBegin {s : State} (h : Canon s) : Canon s.calBegin := by
  unfold State.calBegin
  split
  · exact h
  · extract_lets trig x s1 s2 s3 s4
    have h1 : Canon s1 := canon_hidden h
    have h2 : Canon s2 := canon_setFld h1
    have h3 : Canon s3 := canon_foldl (fun _ _ h4 => (canon_put h4)) h2
    have h5 : Canon s4 := canon_foldl (fun _ _ h6 => (canon_ite (canon_flag h6) h6)) h3
    exact canon_ite (canon_calRec h5) h3

theorem canon_calTrigger {s : State} {d k : Nat} (h : Canon s) : Canon (s.calTrigger d k) := by
  unfold State.calTrigger
  refine canon_ite ?_ ?_
  · exact h
  · split
    · extract_lets x
      exact canon_calBegin (canon_hidden h)
    · extract_lets x
      exact canon_hidden h

theorem canon_calAsk {s : State} {d k : Nat} (h : Canon s) : Canon (s.calAsk d k) := by
  unfold State.calAsk
  extract_lets x
  exact canon_ite (canon_hidden h) (canon_calTrigger h)

theorem canon_runNow {s : State} (h : Canon s) : Canon s.runNow := canon_foldl (fun _ _ h1 => (canon_ite (canon_calAsk h1) h1)) h

theorem canon_calCtl {s : State} {val : Word} (h : Canon s) : Canon (s.calCtl val) := by
  unfold State.calCtl
  extract_lets s1
  have h1 : Canon s1 := canon_status (canon_put h)
  exact canon_ite (canon_runNow h1) h1

theorem canon_frostOn {s : State} (h : Canon s) : Canon s.frostOn := by
  unfold State.frostOn
  extract_lets s1 x
  have h1 : Canon s1 := canon_flag h
  exact canon_ite h (canon_raise (canon_hidden h1))

theorem canon_claimLine {s : State} (h : Canon s) : Canon s.claimLine := canon_emit h

theorem canon_fatal {s : State} {cause : Nat} (h : Canon s) : Canon (s.fatal cause) :=
  canon_ite h (canon_fault (canon_frostOn (canon_claimLine (canon_setFld (canon_flag h)))))

theorem canon_release {s : State} (h : Canon s) : Canon s.release := canon_ite (canon_status (canon_setFld (canon_setFld h))) (canon_status h)

theorem canon_fltCtl {s : State} {v : Nat} (h : Canon s) : Canon (s.fltCtl v) := by
  unfold State.fltCtl
  extract_lets s1 s2
  have h1 : Canon s1 := canon_setFld h
  have h2 : Canon s2 := canon_ite (canon_fatal h1) h1
  exact canon_status (canon_ite (canon_release h2) h2)

theorem canon_modFlt {s : State} {f : FltS → FltS} (h : Canon s) : Canon (s.modFlt f) := canon_hidden h

theorem canon_setGen {s : State} {gen : Nat} (h : Canon s) : Canon (s.setGen gen) := canon_claimLine (canon_setFld (canon_modFlt h))

theorem canon_cmpOff {s : State} (h : Canon s) : Canon s.cmpOff := canon_modFlt h

theorem canon_pairCfg {s : State} {v : Nat} (h : Canon s) : Canon (s.pairCfg v) :=
  canon_ite (canon_status (canon_setGen (canon_setFld (canon_ite h (canon_cmpOff h))))) (canon_status h)

theorem canon_promote {s : State} (h : Canon s) : Canon s.promote := canon_ite (canon_status (canon_flag (canon_setGen h))) (canon_status h)

theorem canon_handover {s : State} (h : Canon s) : Canon s.handover := canon_ite (canon_status (canon_modFlt h)) (canon_status h)

theorem canon_modResync {s : State} {f : ResyncS → ResyncS} (h : Canon s) : Canon (s.modResync f) := canon_modFlt h

theorem canon_resyncAsk {s : State} (h : Canon s) : Canon s.resyncAsk := canon_ite (canon_status (canon_modResync (canon_setFld h))) (canon_status h)

theorem canon_pairCmd {s : State} {cmd : Nat} (h : Canon s) : Canon (s.pairCmd cmd) :=
  canon_ite (canon_promote h) (canon_ite (canon_handover h) (canon_ite (canon_resyncAsk h) (canon_status h)))

theorem canon_pwrWrite {s : State} {r : RegRef} {off : Nat} {v : Word} (h : Canon s) : Canon (s.pwrWrite r off v) := by
  unfold State.pwrWrite
  extract_lets b w
  exact canon_ite (canon_pwrCmdWrite h) (canon_ite (canon_status h) (canon_ite (canon_status h) (canon_ite (canon_status h) (canon_ite (canon_targetWrite h)
      (canon_ite (canon_calCtl h) (canon_ite (canon_fltCtl h) (canon_ite (canon_pairCfg h) (canon_ite (canon_pairCmd h) (canon_pkStore h)))))))))

theorem canon_ispSlot {s : State} {c : Nat} {frame : Bool} (h : Canon s) : Canon (s.ispSlot c frame) := by
  unfold State.ispSlot
  extract_lets bayer parts
  exact canon_putN h

theorem canon_ispReady {s : State} (h : Canon s) : Canon s.ispReady := canon_setReady h

theorem canon_ispAgain {s : State} {c : Nat} (h : Canon s) : Canon (s.ispAgain c) := by
  unfold State.ispAgain
  extract_lets x
  exact canon_hidden h

theorem canon_ispCrop {s : State} {c : Nat} {second : Bool} {val : Word} (h : Canon s) : Canon (s.ispCrop c second val) := by
  unfold State.ispCrop
  extract_lets v s' a b
  have h1 : Canon s' := canon_put h
  exact canon_ite (canon_status (canon_ispSlot (canon_ispAgain h1))) (canon_status h)

theorem canon_ispWrite {s : State} {r : RegRef} {off : Nat} {v : Word} (h : Canon s) : Canon (s.ispWrite r off v) := by
  unfold State.ispWrite
  extract_lets b w n held area slots
  have h1 : ∀ {s1}, Canon s1 → Canon (slots s1) := fun h2 => canon_foldl (fun _ _ h3 => (canon_ispSlot h3)) h2
  exact canon_ite (h1 (canon_pkStore h)) (canon_ite (canon_status h) (canon_ite (canon_status h) (canon_ite (canon_status h) (canon_ite (canon_ispReady
      (canon_pkStore h)) (canon_ite (canon_ite (canon_status h) (canon_ispSlot (canon_ispAgain (canon_pkStore h)))) (canon_ite (canon_ispCrop h) (canon_ite
      (canon_ispCrop h) (canon_ite (canon_ite (canon_ispAgain (canon_pkStore h)) (canon_status h)) (canon_ite (canon_ite (canon_status h) (canon_pkStore h))
      (canon_pkStore h))))))))))

theorem canon_regWrite {s : State} {b : Block} {r : RegRef} {off : Nat} {v : Word} (h : Canon s) : Canon (s.regWrite b r off v) := by
  unfold State.regWrite
  split
  · exact canon_topWrite h
  · exact canon_cfgWrite h
  · exact canon_hostqWrite h
  · exact canon_laneWrite h
  · exact canon_nimWrite h
  · exact canon_pkStore h
  · exact canon_ingWrite h
  · exact canon_stiWrite h
  · exact canon_pkStore h
  · exact canon_segWrite h
  · exact canon_prtWrite h
  · exact canon_encWrite h
  · exact canon_pkStore h
  · exact canon_timeWrite h
  · exact canon_sdfWrite h
  · exact canon_dmcWrite h
  · exact canon_dmaWrite h
  · exact canon_dmaWrite h
  · exact canon_twWrite h
  · exact canon_pwrWrite h
  · exact canon_pwrWrite h
  · exact canon_pwrWrite h
  · exact canon_ispWrite h

theorem canon_pkWrite {s : State} {off : Nat} {v : Word} (h : Canon s) : Canon (s.pkWrite off v) := by
  unfold State.pkWrite
  extract_lets o
  split
  · exact canon_regWrite (canon_reach h)
  · exact canon_status (canon_reach h)

theorem canon_nowRead {s : State} (h : Canon s) : Canon s.nowRead := canon_setFld (canon_putN (canon_putN h))

theorem canon_rtcRead {s : State} (h : Canon s) : Canon s.rtcRead := by
  unfold State.rtcRead
  extract_lets sec
  exact canon_setFld (canon_setFld (canon_putN h))

theorem canon_readReg {s : State} {off : Nat} (h : Canon s) : Canon (s.readReg off).2 := by
  unfold State.readReg
  extract_lets o
  split
  · exact canon_reach h
  · extract_lets s1
    have h2 : Canon s1 := by
      unfold s1
      refine canon_ite ?_ ?_
      · exact canon_nowRead (canon_reach h)
      · refine canon_ite ?_ ?_
        · exact canon_rtcRead (canon_reach h)
        · exact canon_reach h
    exact h2

theorem canon_bootRun {s : State} {i : Nat} {l : List (Nat × Nat)} (h : Canon s) : Canon (bootRun s i l) := by
  induction l generalizing s i with
  | nil => exact canon_bootEnd h
  | cons e rest ih =>
    have hwrite : ∀ {off v}, Canon (s.pkWrite off v) := canon_pkWrite h
    have hread : ∀ {off}, Canon (s.readReg off).2 := canon_readReg h
    refine canon_ite (canon_ite (canon_bootRefused h) ?_) (canon_ite (canon_hidden h) (canon_ite ?_ (canon_bootEnd h)))
    · exact canon_ite (canon_bootRefused hwrite) (ih hwrite)
    · exact canon_ite (ih hread) (canon_hidden hread)

theorem canon_bootPoll {s : State} (h : Canon s) : Canon s.bootPoll := by
  unfold State.bootPoll
  extract_lets x
  exact canon_ite (canon_bootRun (canon_hidden h)) h

theorem canon_shadowSend {s : State} {data : List Byte} (h : Canon s) : Canon (s.shadowSend data) := canon_ite (canon_sendFrameNp h) h

theorem canon_sendRecords {f : Nat} {s : State} (h : Canon s) : Canon (sendRecords f s) := by
  induction f generalizing s with
  | zero => exact h
  | succ f ih => exact canon_ite h (ih (canon_shadowSend (canon_modFlt h)))

theorem canon_pairFault {s : State} {cause w5 w6 : Nat} (h : Canon s) : Canon (s.pairFault cause w5 w6) := canon_fault h

theorem canon_comparePair {s : State} {a b : List Nat} (h : Canon s) : Canon (s.comparePair a b) := by
  unfold State.comparePair
  split
  · exact canon_incWrap h
  · exact canon_pairFault (canon_incCnt h)

theorem canon_unmatched {s : State} {k : Nat} (h : Canon s) : Canon (s.unmatched k) := canon_addCnt h

theorem canon_comparePairs {f : Nat} {own peer : List (List Nat)} {s : State} (h : Canon s) : Canon (comparePairs f own peer s) := by
  induction f generalizing own peer s with
  | zero => exact canon_modFlt h
  | succ f ih =>
    cases own with
    | nil => exact canon_modFlt h
    | cons a own =>
      cases peer with
      | nil => exact canon_modFlt h
      | cons b peer =>
        unfold comparePairs
        refine canon_ite (ih (canon_comparePair h)) ?_
        extract_lets i j skipPeer skipOwn
        have hpeer : ∀ i, Canon (skipPeer i s) := fun i => ih (canon_unmatched h)
        have hown : ∀ j, Canon (skipOwn j s) := fun j => ih (canon_unmatched h)
        clear_value i j skipPeer skipOwn
        split
        · exact canon_ite (hpeer _) (hown _)
        · exact hpeer _
        · exact hown _
        · exact canon_ite (canon_modFlt h) (ih (canon_unmatched h))

theorem canon_shadowStep {s : State} (h : Canon s) : Canon s.shadowStep :=
  canon_ite h (canon_ite (canon_sendRecords h) (canon_ite (canon_comparePairs h) (canon_modFlt h)))

theorem canon_resyncFail {s : State} (h : Canon s) : Canon s.resyncFail := by
  unfold State.resyncFail
  extract_lets s1
  have h1 : Canon s1 := canon_setFld (canon_modResync h)
  exact canon_ite h (canon_ite (canon_modResync h) (canon_pairFault (canon_runZero h1)))

theorem canon_fltTick {s : State} (h : Canon s) : Canon s.fltTick := by
  unfold State.fltTick
  extract_lets k s1
  have h1 : Canon s1 := canon_setFld h
  exact canon_ite (canon_ite (canon_resyncFail h1) h1) h

theorem canon_twSample {s : State} (h : Canon s) : Canon s.twSample := by
  unfold State.twSample
  extract_lets x
  exact canon_ite h (canon_twReady (canon_hidden h))

theorem canon_rtLevel {s : State} {p level : Nat} (h : Canon s) : Canon (s.rtLevel p level) := by
  unfold State.rtLevel
  extract_lets p1 p2 cls s'
  have h1 : Canon s' := canon_setFld (canon_setFld h)
  exact canon_ite (canon_incWrap h1) h1

theorem canon_ceLine {s : State} {c ca a : Nat} (h : Canon s) : Canon (s.ceLine c ca a) := by
  unfold State.ceLine
  extract_lets s1 ce s2 thr
  have h1 : Canon s1 := canon_incCnt h
  have h2 : Canon s2 := canon_modDmc h1
  exact canon_ite (canon_rowRetire h2) h2

theorem canon_eccRead {s : State} {c ca a err syn : Nat} {wb openRow : Bool} (h : Canon s) : Canon (s.eccRead c ca a err syn wb openRow) := by
  unfold State.eccRead
  extract_lets s1
  have h1 : Canon s1 := canon_ceLine h
  exact canon_ite (canon_ueLine h) (canon_ite (canon_ite (canon_modDmc h1) h1) h)

theorem canon_ddrAccess {s : State} {c ca : Nat} {openRow : Bool} (h : Canon s) : Canon (s.ddrAccess c ca openRow) := by
  unfold State.ddrAccess
  extract_lets b row
  exact canon_modDmc h

theorem canon_reqRead {s : State} {c : Nat} {r : DdrReq} (h : Canon s) : Canon (s.reqRead c r) :=
  canon_ite (canon_incWrap h) (canon_eccRead (canon_ddrAccess h))

theorem canon_serve {s : State} {c : Nat} {r : DdrReq} (h : Canon s) : Canon (s.serve c r) := by
  unfold State.serve
  extract_lets open_ s1
  have h1 : Canon s1 := by
    unfold s1
    split
    · exact canon_rtLevel h
    · exact h
    · exact h
    · exact h
    · exact h
  refine canon_ite ?_ ?_
  · exact h
  · split
    · exact canon_reqRead h1
    · extract_lets s2
      have h2 : Canon s2 := canon_ite h1 (canon_reqRead h1)
      exact canon_modDmc (canon_memWrite h2)

theorem canon_grant {s : State} {c : Nat} (h : Canon s) : Canon (s.grant c) := by
  unfold State.grant
  split
  · exact h
  · exact canon_serve (canon_modDmc h)

theorem canon_ddrWrite {s : State} {c ca : Nat} {openRow : Bool} (h : Canon s) : Canon (s.ddrWrite c ca openRow) := by
  unfold State.ddrWrite
  extract_lets s1 b row
  have h1 : Canon s1 := canon_ddrAccess h
  exact canon_ite h1 (canon_modDmc h1)

theorem canon_drainLine {s : State} {c : Nat} (h : Canon s) : Canon (s.drainLine c) := by
  unfold State.drainLine
  split
  · exact h
  · exact canon_modDmc (canon_ddrWrite h)

theorem canon_dmcDrain {s : State} (h : Canon s) : Canon s.dmcDrain := canon_foldl (fun _ _ h1 => (canon_ite (canon_grant h1) (canon_drainLine h1))) h

theorem canon_showMap {s : State} {p : Nat} {m : List Nat} (h : Canon s) : Canon (s.showMap p m) := canon_flag (canon_putN h)

theorem canon_swapAt {s : State} {p : Nat} {tx : Bool} (h : Canon s) : Canon (s.swapAt p tx) := by
  unfold State.swapAt
  extract_lets x
  split
  · exact h
  · extract_lets map s1 s2 i s3 s4 x2
    have h1 : Canon s1 := canon_modNp h
    have h2 : Canon s2 := canon_showMap h1
    have h3 : Canon s3 := canon_ite (canon_setFld h2) h2
    have h4 : Canon s4 := canon_ite h2 (canon_setFld h3)
    exact canon_ite (canon_hidden h4) h4

theorem canon_npAlign {s : State} {p : Nat} (h : Canon s) : Canon (s.npAlign p) := by
  unfold State.npAlign
  extract_lets s1 x s2 due s3
  have h1 : Canon s1 := canon_modNp h
  have h2 : Canon s2 := canon_emit h1
  have h3 : Canon s3 := canon_ite (canon_swapAt h2) h2
  exact canon_ite (canon_swapAt h3) h3

theorem canon_nimTick {s : State} (h : Canon s) : Canon s.nimTick :=
  canon_foldl (fun _ _ h1 => (canon_ite h1 (canon_ite (canon_modNp h1) (canon_npAlign (canon_modNp h1))))) h

theorem canon_seedEdge {s : State} (h : Canon s) : Canon s.seedEdge := by
  unfold State.seedEdge
  split
  · exact h
  · extract_lets x s1
    have h1 : Canon s1 := canon_hidden h
    exact canon_flag (canon_ite (canon_flag h1) h1)

theorem canon_rtcLoad {s : State} {v : Nat} (h : Canon s) : Canon (s.rtcLoad v) := by
  unfold State.rtcLoad
  extract_lets x
  exact canon_flag (canon_hidden h)

theorem canon_seed {s : State} (h : Canon s) : Canon s.seed := by
  unfold State.seed
  extract_lets r v x s1
  have h1 : Canon s1 := canon_hidden h
  exact canon_ite h (canon_ite (canon_seedEdge h1) h1)

theorem canon_rtcTick {s : State} (h : Canon s) : Canon s.rtcTick := by
  unfold State.rtcTick
  extract_lets n trim x s1 v x2 s2 s3 x3
  have h1 : Canon s1 := canon_hidden h
  have h2 : Canon s2 := canon_ite (canon_setFld (canon_rtcLoad h1)) (canon_hidden h1)
  have h3 : Canon s3 := canon_setReady h2
  exact canon_ite (canon_seed h3) (canon_hidden h3)

theorem canon_rtcDue {s : State} (h : Canon s) : Canon s.rtcDue := by
  unfold State.rtcDue
  extract_lets x
  exact canon_ite (canon_rtcTick (canon_hidden h)) h

theorem canon_wrapRec {s : State} (h : Canon s) : Canon s.wrapRec := canon_record h

theorem canon_ppsLoad {s : State} (h : Canon s) : Canon s.ppsLoad := canon_ite (canon_setFld (canon_setFld (canon_rtcLoad h))) h

theorem canon_edgeEffects {s : State} {ns : Nat} (h : Canon s) : Canon (s.edgeEffects ns) := by
  unfold State.edgeEffects
  extract_lets wrap pps s1 s2
  have h1 : Canon s1 := canon_ite (canon_wrapRec h) h
  have h2 : Canon s2 := canon_ite (canon_ppsLoad h1) h1
  exact canon_ite (canon_raise h2) h2

theorem canon_tsEdges {s : State} {k : Nat} (h : Canon s) : Canon (s.tsEdges k) := by
  unfold State.tsEdges
  extract_lets t a ts x s1
  have h1 : Canon s1 := canon_hidden h
  exact canon_setBit (canon_putN h1)

theorem canon_tick {s : State} (h : Canon s) : Canon s.tick := by
  unfold State.tick
  extract_lets s1 x
  have h1 : Canon s1 := canon_seedEdge h
  exact canon_ite (canon_rtcDue (canon_edgeEffects (canon_tsEdges h1))) (canon_rtcDue (canon_hidden h))

theorem canon_idle {s : State} (h : Canon s) : Canon s.idle :=
  canon_settle (canon_ambient (canon_bootPoll (canon_shadowStep (canon_fltTick (canon_twSample (canon_dmcDrain (canon_nimTick (canon_tick h))))))))

theorem canonOut_done {old s : State} (h : Canon s) : CanonOut (done old s) := by
  rintro t ⟨⟩
  exact canon_settle h

theorem canon_barWrite {s : State} {off : Nat} {v : Word} {be : Bool} (h : Canon s) : Canon (s.barWrite off v be) := by
  unfold State.barWrite
  extract_lets o s1
  have h2 : Canon s1 := by
    unfold s1
    exact canon_reach h
  split
  · extract_lets s2
    have h3 : Canon s2 := canon_ite h2 (canon_setFld (canon_incCnt h2))
    exact canon_ite (canon_status h2) (canon_ite (canon_regWrite h3) (canon_cleared (canon_store h3)))
  · exact canon_status (canon_reach h)

end Sys2Proof.Machine
end

section
/-!
PROOFS. Canonical stores: register accesses, loads, the STRUCT and the banks (SPEC, 01_architecture.md).
-/
set_option Elab.async false

namespace Sys2Proof.Machine

theorem canon_execRegisterWrite {off : BitVec 26} {val : Word} {be : Bool} {s : State} (h : Canon s) : CanonOut (execRegisterWrite off val be s) :=
  canonOut_done (canon_barWrite h)

theorem canon_execReservedAccess {off : BitVec 26} {write : Bool} {val : Word} {s : State} (h : Canon s) : CanonOut (execReservedAccess off write val s) := by
  unfold execReservedAccess
  extract_lets o r
  refine canonOut_done ?_
  refine canon_ite ?_ ?_
  · exact canon_barWrite h
  · exact canon_emit (canon_readReg h)

theorem canon_pwrRelease {s : State} (h : Canon s) : Canon s.pwrRelease := by
  unfold State.pwrRelease
  extract_lets l x
  refine canon_foldl (fun s1 k h2 => ?_) (canon_hidden h)
  split
  · extract_lets x2
    have h3 : Canon x2 := canon_targetWrite h2
    exact canon_hidden h3
  · exact canon_calTrigger h2
  · extract_lets x2
    have h4 : Canon x2 := canon_runOne h2
    exact canon_hidden h4

theorem canon_rollEnd {s : State} (h : Canon s) : Canon s.rollEnd := by
  unfold State.rollEnd
  extract_lets r s1 s2 s3 x
  have h1 : Canon s1 := canon_setFld (canon_flag h)
  have h2 : Canon s2 := canon_setFld (canon_setFld (canon_setFld h1))
  have h3 : Canon s3 := canon_fault h2
  exact canon_pwrRelease (canon_hidden h3)

theorem canon_execBlockWakeDone {b : Fin 32} {s : State} (h : Canon s) : CanonOut (execBlockWakeDone b s) := by
  unfold execBlockWakeDone
  refine canonOut_ite ?_ ?_
  · split
    · exact canonOut_done h
    · extract_lets x x2 s'
      have h1 : Canon x := canon_gateSet h
      have h2 : Canon s' := canon_hidden h1
      refine canonOut_ite ?_ ?_
      · exact canonOut_done h
      · exact canonOut_done (canon_ite (canon_rollEnd h2) h2)
  · refine canonOut_ite ?_ ?_
    · exact canonOut_done h
    · refine canonOut_ite ?_ ?_
      · exact canonOut_done (canon_gateSet h)
      · exact canonOut_done h

theorem canon_execDevIdWrite {id : BitVec 18} {s : State} (h : Canon s) : CanonOut (execDevIdWrite id s) := canonOut_done (canon_devIdWrite h)

theorem canon_openSlot {s : State} {q room bell : Nat} {irq : Bool} (h : Canon s) : Canon (s.openSlot q room bell irq).2 := by
  unfold State.openSlot
  extract_lets k t x
  exact canon_hidden h

theorem canon_finish {s : State} {q : Nat} {hd : PktHdr} {key st result : Nat} {data : List OutPkt} {late : Bool} (h : Canon s) : Canon (s.finish q hd key
    st result data late) := by
  unfold State.finish
  extract_lets c es
  exact canon_status (canon_closeSlot h)

theorem canon_haltQueue {s : State} {q st : Nat} (h : Canon s) : Canon (s.haltQueue q st) := by
  unfold State.haltQueue
  extract_lets s1 s2 o
  have h1 : Canon s1 := canon_flag (canon_setFld h)
  have h2 : Canon s2 := canon_ite (canon_flag h1) h1
  refine canon_ite ?_ ?_
  · exact canon_flag h
  · exact canon_finish (canon_openSlot h2)

theorem canon_hcrcFail {s : State} {q : Nat} (h : Canon s) : Canon (s.hcrcFail q) := canon_haltQueue h

theorem canon_advance {s : State} {q len : Nat} (h : Canon s) : Canon (s.advance q len) := by
  unfold State.advance
  extract_lets old size n s1 left x
  have h1 : Canon s1 := canon_setFld h
  exact canon_writeBack (canon_hidden h1)

theorem canon_takeIn {s : State} {q : Nat} {hd : PktHdr} {room : Nat} (h : Canon s) : Canon (s.takeIn q hd room).2 := by
  unfold State.takeIn
  extract_lets s1 bell
  have h1 : Canon s1 := canon_setFld h
  exact canon_openSlot (canon_advance h1)

theorem canon_packet {s : State} {q opc : Nat} {hd : PktHdr} {mayNoComp : Bool} {extra : Nat} {lenTarget param : State → Nat}
    {body : State → Nat → State} (hbody : ∀ s k, Canon s → Canon (body s k)) (h : Canon s) :
    Canon (s.packet q opc hd mayNoComp extra lenTarget param body) := by
  unfold State.packet
  extract_lets o st
  have h1 : Canon o.2 := canon_takeIn h
  exact canon_ite h (canon_ite (canon_hcrcFail h) (canon_ite h (canon_ite (canon_flag h) (canon_ite (hbody _ _ h1) (canon_finish h1)))))

theorem canon_chunk {s : State} {l : LoadS} {ofs : Nat} {bs : List Byte} (h : Canon s) : Canon (s.chunk l ofs bs) := by
  unfold State.chunk
  extract_lets fits s1
  have h1 : Canon s1 := canon_ite (canon_memStore h) h
  exact canon_setLoad h1

theorem canon_bankLoads {s : State} {b : Bool} (h : Canon s) : Canon (s.bankLoads b) := canon_setBank (canon_emptyBank h)

theorem canon_loadLast {s : State} {q key tag : Nat} (h : Canon s) : Canon (s.loadLast q key tag) := by
  unfold State.loadLast
  extract_lets x s1
  have h1 : Canon s1 := canon_flag (canon_setLoad h)
  refine canon_ite ?_ ?_
  · exact h1
  · split
    · exact canon_bankLoads h1
    · exact h1

theorem canon_execCfgLoad {q : Fin 32} {pkt : List Byte} {s : State} (h : Canon s) : CanonOut (execCfgLoad q pkt s) := by
  unfold execCfgLoad
  extract_lets h2 bytes start last
  refine canonOut_done (canon_packet (fun s1 k h1 => ?_) h)
  exact canon_ite (canon_finish h1) (canon_ite (canon_finish h1) (canon_ite (canon_finish h1)
    (canon_ite (canon_status (canon_loadLast (canon_chunk h1))) (canon_finish (canon_chunk h1)))))

theorem canon_accept {s : State} {st : Stream} (h : Canon s) : Canon (s.accept st) := by
  unfold State.accept
  extract_lets s1
  have h1 : Canon s1 := by
    unfold s1
    split
    · exact canon_setFld h
    · exact h
  exact canon_loadEnd (canon_setFld h1)

theorem canon_loadStruct {s : State} {st : Stream} {d : StructData} {j : Option JobData} (h : Canon s) : Canon (s.loadStruct st d j) := by
  unfold State.loadStruct
  split
  · exact canon_reject h
  · extract_lets s1 x
    have h1 : Canon s1 := canon_accept (canon_setReady (canon_flag h))
    exact canon_hidden h1

theorem canon_restoreWrite {s : State} (h : Canon s) : Canon s.restoreWrite := canon_ite h (canon_foldl (fun _ _ h1 => (canon_memWrite h1)) h)

theorem canon_putJob {s : State} {b : Bool} {j : JobData} {sid : Nat} (h : Canon s) : Canon (s.putJob b j sid) := by
  unfold State.putJob
  extract_lets x x2 s1 s2
  have h1 : Canon s1 := canon_hidden h
  have h2 : Canon s2 := canon_setBit (canon_setFld h1)
  exact canon_setReady h2

theorem canon_loadJob {s : State} {st : Stream} {j : JobData} {b : Bool} (h : Canon s) : Canon (s.loadJob st j b) := by
  unfold State.loadJob
  split
  · exact canon_reject h
  · exact canon_accept (canon_setBank (canon_restoreWrite (canon_putJob h)))

theorem canon_takeStream {s : State} {st : Stream} (h : Canon s) : Canon (s.takeStream st) := by
  unfold State.takeStream
  split
  · exact canon_loadStruct (canon_endLoading h)
  · exact canon_loadJob h
  · split
    · exact canon_loadJob (canon_bankLoads h)
    · exact canon_reject h
    · exact h
  · exact h

theorem canon_validate {s0 : State} (h : Canon s0) : Canon s0.validate := by
  unfold State.validate
  extract_lets s1
  have h1 : Canon s1 := canon_ddrRead h
  split
  · exact canon_reject h1
  · exact canon_takeStream h1

theorem canon_execLoadValidate {s : State} (h : Canon s) : CanonOut (execLoadValidate s) := by
  unfold execLoadValidate
  refine canonOut_ite ?_ ?_
  · exact canonOut_done (canon_validate h)
  · exact canonOut_done h

theorem canon_twWarm {s : State} (h : Canon s) : Canon s.twWarm := canon_foldl (fun _ _ h1 => (canon_twBusy (canon_modTw h1))) h

theorem canon_pinsOff {s : State} (h : Canon s) : Canon s.pinsOff := by
  unfold State.pinsOff
  extract_lets s1 s2
  have h1 : Canon s1 := canon_ite (canon_emit h) h
  have h2 : Canon s2 := canon_foldl (fun _ _ h3 => (canon_ite (canon_emit h3) h3)) h1
  exact canon_foldl (fun _ _ h4 => (canon_ite (canon_emit h4) h4)) h2

theorem canon_flr {s : State} (h : Canon s) : Canon s.flr := by
  unfold State.flr
  extract_lets s1 x s2 s3
  have h1 : Canon s1 := canon_foldl (fun _ _ h2 => (canon_hqCfg h2)) h
  have h3 : Canon s2 := canon_hidden h1
  have h4 : Canon s3 := canon_foldl (fun _ _ h5 => (canon_ite (canon_dmaAbort h5) h5)) h3
  exact canon_foldl (fun _ _ h6 => (canon_put h6)) h4

theorem canon_warmBanks {s : State} (h : Canon s) : Canon s.warmBanks :=
  canon_foldl (fun _ _ h1 => (canon_ite (canon_flag (canon_setBank h1)) (canon_ite (canon_emptyBank h1) h1))) h

theorem canon_warmDdr {s : State} {ddrFail : Nat} (h : Canon s) : Canon (s.warmDdr ddrFail) :=
  canon_dmcValid (canon_foldl (fun _ _ h1 => (canon_ite (canon_setReady (canon_flag (canon_setFld h1))) h1)) h)

theorem canon_ctrlSend {s : State} {n : Nat} {e : CtrlPkt} (h : Canon s) : Canon (s.ctrlSend n e) := by
  unfold State.ctrlSend
  extract_lets h2
  exact canon_ite (canon_finish (canon_emit h)) (canon_finish h)

theorem canon_ctrlRelease {s : State} {n : Nat} (h : Canon s) : Canon (s.ctrlRelease n) := by
  unfold State.ctrlRelease
  extract_lets l x
  exact canon_foldl (fun _ _ h1 => (canon_ctrlSend h1)) (canon_hidden h)

theorem canon_unretire {s : State} {i : Nat} (h : Canon s) : Canon (s.unretire i) := by
  unfold State.unretire
  extract_lets x
  exact canon_ite (canon_toOff h) (canon_ite (canon_hidden h) h)

theorem canon_applyLane {s : State} {i : Nat} {en : Bool} (h : Canon s) : Canon (s.applyLane i en) := by
  unfold State.applyLane
  extract_lets s1 st
  have h1 : Canon s1 := canon_setBit h
  exact canon_ite h (canon_ite (canon_unretire h1) (canon_ite (canon_toOff h1) (canon_ite (canon_ite (canon_toOff h1) (canon_toHunt h1)) h1)))

theorem canon_camUp {s : State} {n : Nat} (h : Canon s) : Canon (s.camUp n) := canon_ite h (canon_modIng (canon_prime (canon_setReady h)))

theorem canon_applyLinks {s : State} {d : StructData} {n : Nat} (h : Canon s) : Canon (s.applyLinks d n) := by
  unfold State.applyLinks
  extract_lets c s1 x s2 s3 s4
  have h1 : Canon s1 := canon_setFld (canon_setFld (canon_setFld h))
  have h2 : Canon s2 := canon_ctrlRelease (canon_hidden h1)
  have h3 : Canon s3 := canon_foldl (fun _ _ h4 => (canon_ite (canon_setFld (canon_applyLane h4)) (canon_applyLane h4))) h2
  have h5 : Canon s4 := canon_camCount h3
  exact canon_ite (canon_camUp h5) (canon_ite h5 (canon_setReady h5))

theorem canon_applyCam {s : State} {d : StructData} {n : Nat} (h : Canon s) : Canon (s.applyCam d n) := by
  unfold State.applyCam
  extract_lets c same s1 s2 s3
  have h1 : Canon s1 := canon_setFld (canon_setBit h)
  have h2 : Canon s2 := canon_setFld (canon_setFld (canon_setFld h1))
  have h3 : Canon s3 := canon_modIng h2
  exact canon_ite h (canon_applyLinks h3)

theorem canon_applyPlace {s : State} {d : StructData} {n : Nat} (h : Canon s) : Canon (s.applyPlace d n) := by
  unfold State.applyPlace
  extract_lets c lead masked s1 s2
  have h1 : Canon s1 := canon_setBit (canon_setFld h)
  have h2 : Canon s2 := canon_setFld (canon_setSfld (canon_setFld h1))
  exact canon_ite h (canon_setFld (canon_setFld h2))

theorem canon_showSeam {s : State} {k : Nat} (h : Canon s) : Canon (s.showSeam k) := by
  unfold State.showSeam
  extract_lets g pk
  exact canon_setBit (canon_put (canon_put h))

theorem canon_setSpans {s : State} (h : Canon s) : Canon s.setSpans := by
  unfold State.setSpans
  extract_lets g n
  exact canon_foldl (fun _ _ h1 => (canon_setFld (canon_setFld h1))) h

theorem canon_placeCam {s : State} {c : Nat} {o : Int × Int} (h : Canon s) : Canon (s.placeCam c o) := by
  unfold State.placeCam
  extract_lets y0 ox oy s1
  have h1 : Canon s1 := canon_ite h (canon_flag h)
  exact canon_setSfld (canon_setSfld h1)

theorem canon_place {s : State} (h : Canon s) : Canon s.place := by
  unfold State.place
  extract_lets g r s1 s2
  have h1 : Canon s1 := canon_placeCam h
  have h2 : Canon s2 := canon_foldl (fun _ _ h3 => (canon_placeCam h3)) h1
  exact canon_foldl (fun _ _ h4 => (canon_placeCam h4)) h2

theorem canon_applySti {s : State} {d : StructData} (h : Canon s) : Canon (s.applySti d) := by
  unfold State.applySti
  extract_lets s1 s2 s3 x s4 x2 s5 s6 s7
  have h1 : Canon s1 := canon_setFld (canon_setBit h)
  have h2 : Canon s2 := canon_setFld (canon_putN (canon_putN h1))
  have h3 : Canon s3 := canon_foldl (fun _ _ h4 => (canon_applyPlace h4)) h2
  have h5 : Canon s4 := canon_hidden h3
  have h6 : Canon s5 := canon_foldl (fun _ _ h7 => (canon_showSeam (canon_modSeam h7))) h5
  have h8 : Canon s6 := canon_foldl (fun _ _ h9 => (canon_setFld (canon_setFld h9))) h6
  have h10 : Canon s7 := canon_setFld (canon_setFld h8)
  exact canon_foldl (fun _ _ h11 => (canon_prime h11)) (canon_setSpans (canon_place h10))

theorem canon_applyCode {s : State} {d : StructData} {n : Nat} (h : Canon s) : Canon (s.applyCode d n) := by
  unfold State.applyCode
  extract_lets c crop lead s1 s2 s3
  have h1 : Canon s1 := canon_setBit h
  have h2 : Canon s2 := canon_setFld (canon_setFld h1)
  have h3 : Canon s3 := canon_setFld (canon_setBit h2)
  exact canon_ite (canon_setFld (canon_setFld h3)) h1

theorem canon_applySeg {s : State} {d : StructData} (h : Canon s) : Canon (s.applySeg d) := by
  unfold State.applySeg
  extract_lets s1 x
  have h1 : Canon s1 := canon_clearTiles (canon_setBit h)
  exact canon_hidden h1

theorem canon_enterHot {s : State} {n : Nat} (h : Canon s) : Canon (s.enterHot n) := canon_updHp (canon_modPrt (canon_flag (canon_flag h)))

theorem canon_applyPp {s : State} {d : StructData} (h : Canon s) : Canon (s.applyPp d) := by
  unfold State.applyPp
  extract_lets s1
  have h1 : Canon s1 := canon_foldl (fun _ _ h2 => (canon_ite h2 (canon_setFld (canon_setBit h2)))) h
  exact canon_ispReady (canon_foldl (fun _ _ h3 => (canon_ispSlot h3)) h1)

theorem canon_encReady {s : State} (h : Canon s) : Canon s.encReady := canon_setReady h

theorem canon_applyEnc {s : State} {d : StructData} (h : Canon s) : Canon (s.applyEnc d) := by
  unfold State.applyEnc
  extract_lets s1
  have h1 : Canon s1 := canon_foldl (fun _ _ h2 => (canon_setBit (canon_setBit (canon_setBit h2)))) h
  exact canon_encReady h1

theorem canon_dieReady {s : State} {d : Nat} (h : Canon s) : Canon (s.dieReady d) := by
  unfold State.dieReady
  extract_lets up fell s1
  have h1 : Canon s1 := canon_setReady h
  exact canon_ite (canon_fatal (canon_vgReady h1)) (canon_vgReady h1)

theorem canon_applyDvfs {s : State} {d : StructData} {n : Nat} (h : Canon s) : Canon (s.applyDvfs d n) := by
  unfold State.applyDvfs
  extract_lets v
  exact canon_ite h (canon_setFld (canon_setFld h))

theorem canon_cfgReady {s : State} (h : Canon s) : Canon s.cfgReady := canon_ite (canon_setReady h) h

theorem canon_warmStruct {s : State} {d : StructData} (h : Canon s) : Canon (s.warmStruct d) := by
  unfold State.warmStruct
  extract_lets retired s1 s2 s3 s4 x s5 s6 s7 s8 s9 s10
  have h1 : Canon s1 := canon_foldl (fun _ _ h2 => (canon_applyCam h2)) h
  have h3 : Canon s2 := canon_foldl (fun _ _ h4 => (canon_setFld h4)) h1
  have h5 : Canon s3 := canon_applySti h3
  have h6 : Canon s4 := canon_foldl (fun _ _ h7 => (canon_applyCode h7)) h5
  have h8 : Canon s5 := canon_hidden h6
  have h9 : Canon s6 := canon_applySeg h8
  have h10 : Canon s7 := canon_foldl (fun _ _ h11 => (canon_ite (canon_enterHot h11) h11)) h9
  have h12 : Canon s8 := canon_applyPp (canon_applyEnc h10)
  have h13 : Canon s9 := canon_foldl (fun _ _ h14 => (canon_applyLane h14)) h12
  have h15 : Canon s10 := canon_foldl (fun _ _ h16 => (canon_dvfsGo (canon_dieReady (canon_applyDvfs h16)))) h13
  exact canon_cfgReady (canon_npReady h15)

/-- What a warm reset keeps of a register, where it is not the reset value. -/
theorem regsWf_warmRegs {b : Board} {l : List (Nat × Word)} (h : regsWf b l = true) : regsWf b (warmRegs b l) = true := by
  simp only [regsWf, Bool.and_eq_true, decide_eq_true_eq, List.all_eq_true] at h ⊢
  refine ⟨?_, fun e he => ?_⟩
  · refine List.Pairwise.filterMap _ (fun x y hxy x' hx y' hy => ?_) h.1
    dsimp only at hx hy
    split at hx
    · cases hx
    · split at hy
      · cases hy
      · cases hx
        cases hy
        exact hxy
  · obtain ⟨x, -, hx⟩ := List.mem_filterMap.mp he
    dsimp only at hx
    split at hx
    · cases hx
    · next hne =>
      cases hx
      exact bne_iff_ne.mpr hne

/-- A state with the stores of a warm reset. -/
theorem canon_warmed {s t : State} (h : Canon s) (hb : t.board = s.board) (hr : t.regs = warmRegs s.board s.regs) (hd : t.ddr = s.ddr)
    (hp : t.poison = s.poison) :
    Canon t := by
  rw [Canon, hb, hr, hd, hp]
  exact ⟨regsWf_warmRegs h.1, h.2⟩

theorem canon_warmReset {s : State} {ddrFail : Nat} (h : Canon s) : Canon (s.warmReset ddrFail) := by
  unfold State.warmReset
  extract_lets winter s1 c _ _ _ _ _ _ _ _ _ _ s2 s3 s4 s5 s6
  have h1 : Canon s1 := canon_twWarm (canon_pinsOff (canon_flr h))
  clear_value s1
  have h2 : Canon s2 := canon_warmed h1 rfl rfl rfl rfl
  have h3 : Canon s3 := canon_warmBanks h2
  have h4 : Canon s4 := by
    unfold s4
    split
    · exact canon_jobBits h3
    · exact h3
  have h5 : Canon s5 := canon_ite (canon_warmDdr h4) h4
  refine canon_twReady ?_
  unfold s6
  split
  · exact canon_warmStruct h5
  · exact canon_foldl (fun _ _ h6 => canon_dvfsGo (canon_dieReady h6)) h5

theorem canon_applyEvt {s : State} {d : StructData} (h : Canon s) : Canon (s.applyEvt d) :=
  canon_foldl (fun _ _ h1 => (canon_ite h1 (canon_setBit (canon_setFld (canon_putN (canon_putN (canon_putN h1))))))) h

theorem canon_remapVu {s : State} {v : Nat} (h : Canon s) : Canon (s.remapVu v) := by
  unfold State.remapVu
  extract_lets pu c mapF
  refine canon_ite ?_ ?_
  · exact h
  · split
    · exact canon_setFld (canon_setFld h)
    · split
      · exact canon_setFld (canon_setFld h)
      · exact h

theorem canon_applyVu {s : State} {d : StructData} {us : List Place} {v : Nat} (h : Canon s) : Canon (s.applyVu d us v) := by
  unfold State.applyVu
  extract_lets n j a u s1 s2 s3 s4
  have h1 : Canon s1 := canon_setBit h
  have h2 : Canon s2 := canon_setFld (canon_setFld h1)
  have h3 : Canon s3 := canon_setFld (canon_setFld h2)
  have h4 : Canon s4 := canon_setFld h3
  exact canon_ite h (canon_ite (canon_remapVu h4) h4)

theorem canon_applyRegion {s : State} {d : StructData} {us : List Place} {n : Nat} (h : Canon s) : Canon (s.applyRegion d us n) := by
  unfold State.applyRegion
  extract_lets mine s1 s2 s3 s4
  have h1 : Canon s1 := canon_setFld h
  have h2 : Canon s2 := canon_setFld h1
  have h3 : Canon s3 := canon_setFld h2
  have h4 : Canon s4 := canon_setFld (canon_setFld (canon_setFld h3))
  exact canon_ite h (canon_ite (canon_setReady h4) h4)

theorem canon_applyVg {s : State} {d : StructData} (h : Canon s) : Canon (s.applyVg d) := by
  unfold State.applyVg
  extract_lets us x s1 s2 s3
  have h1 : Canon s1 := canon_hidden h
  have h2 : Canon s2 := canon_foldl (fun _ _ h3 => (canon_applyVu h3)) h1
  have h4 : Canon s3 := canon_foldl (fun _ _ h5 => (canon_applyRegion h5)) h2
  exact canon_setFld (canon_setFld h4)

theorem canon_applyPrint {s : State} {d : StructData} {n : Nat} (h : Canon s) : Canon (s.applyPrint d n) := by
  unfold State.applyPrint
  extract_lets p was s1 s2
  have h1 : Canon s1 := canon_setFld (canon_setBit (canon_setBit h))
  have h2 : Canon s2 := canon_modPrt h1
  exact canon_ite h (canon_ite (canon_enterHot h2) (canon_updHp h2))

theorem canon_applyNp {s : State} {d : StructData} {p : Nat} (h : Canon s) : Canon (s.applyNp d p) := by
  unfold State.applyNp
  extract_lets en lanes x same s1 s2 s3 s4 s5
  have h1 : Canon s1 := canon_put (canon_setBit h)
  have h2 : Canon s2 := canon_ite h1 (canon_modNp (canon_setFld h1))
  have h3 : Canon s3 := canon_foldl (fun _ _ h4 => (canon_setBit h4)) h2
  have h5 : Canon s4 := canon_foldl (fun _ _ h6 => (canon_ite (canon_unretire h6) (canon_toOff h6))) h3
  have h7 : Canon s5 := canon_foldl (fun _ _ h8 => (canon_unretire h8)) h3
  exact canon_ite h (canon_ite (canon_setReady (canon_setFld (canon_setFld h5))) (canon_ite (canon_foldl (fun _ _ h9 => (canon_unretire h9)) h3)
      (canon_npStart (canon_npDown h7))))

theorem canon_applyEth {s : State} {old : Option StructData} {d : StructData} {p : Nat} (h : Canon s) : Canon (s.applyEth old d p) := by
  unfold State.applyEth
  extract_lets e was i s1 s2 f
  have h1 : Canon s1 := canon_applyLane h
  have h2 : Canon s2 := canon_ite (canon_setReady h1) (canon_ite (canon_setReady (canon_toHunt h1)) h1)
  refine canon_ite ?_ ?_
  · exact canon_put (canon_free h2)
  · exact h2

theorem canon_sdfResetGroup {s : State} {g : Nat} (h : Canon s) : Canon (s.sdfResetGroup g) :=
  canon_foldl (fun _ _ h1 => (canon_ite (canon_sdfReset h1) h1)) h

theorem canon_setGone {s : State} {g : Nat} {b : Bool} (h : Canon s) : Canon (s.setGone g b) := by
  unfold State.setGone
  extract_lets x
  exact canon_hidden h

theorem canon_clearSync {s : State} {g : Nat} (h : Canon s) : Canon (s.clearSync g) := by
  unfold State.clearSync
  extract_lets x
  exact canon_hidden h

theorem canon_applySdg {s : State} {d : StructData} {g : Nat} (h : Canon s) : Canon (s.applySdg d g) := by
  unfold State.applySdg
  extract_lets e same s1
  have h1 : Canon s1 := canon_setFld (canon_setFld h)
  exact canon_ite h (canon_ite h (canon_sdfResetGroup (canon_setGone (canon_clearSync (canon_putN (canon_setFld h1))))))

theorem canon_applyClass {s : State} {d : StructData} {b : Nat} (h : Canon s) : Canon (s.applyClass d b) := by
  unfold State.applyClass
  extract_lets c s1
  have h1 : Canon s1 := canon_setFld h
  exact canon_ite (canon_ite (canon_gateSet h1) h1) h

theorem canon_applyTw {s : State} {d : StructData} (h : Canon s) : Canon (s.applyTw d) :=
  canon_twReady (canon_foldl (fun _ _ h1 => (canon_setBit (canon_setFld (canon_setBit h1)))) h)

theorem canon_applyRt {s : State} {d : StructData} {p : Nat} (h : Canon s) : Canon (s.applyRt d p) := by
  unfold State.applyRt
  extract_lets e s1
  have h1 : Canon s1 := canon_setFld (canon_setFld h)
  exact canon_rtLevel (canon_setFld (canon_setFld h1))

theorem canon_applyBanks {s : State} {sid : Nat} {j : Option JobData} (h : Canon s) : Canon (s.applyBanks sid j).2 := by
  unfold State.applyBanks
  extract_lets old s1 s2
  have h1 : Canon s1 := canon_foldl (fun _ _ h2 => (canon_ite h2 (canon_ite (canon_ite (canon_setBank h2) h2) (canon_emptyBank h2)))) h
  have h3 : Canon s2 := canon_foldl (fun _ _ h4 => (canon_setFld h4)) h1
  split
  · exact canon_setBit h3
  · extract_lets s3 s4 s5 p
    have h5 : Canon s3 := canon_putJob h3
    have h6 : Canon s4 := canon_setBank h5
    have h7 : Canon s5 := canon_setBit h6
    exact canon_takeBank h7

theorem canon_applyStruct {s : State} (h : Canon s) : Canon s.applyStruct := by
  unfold State.applyStruct
  split
  · exact h
  · extract_lets old x s1 s2 s3 s4 s5 s6 s7 s8 s9 s10 s11 s12 s13 s14 s15 r s16 s17
    have h1 : Canon s1 := canon_hidden h
    have h2 : Canon s2 := canon_setFld (canon_flag h1)
    have h3 : Canon s3 := canon_putN (canon_putN (canon_putN h2))
    have h4 : Canon s4 := canon_applyEvt h3
    have h5 : Canon s5 := canon_foldl (fun _ _ h6 => (canon_applyCam h6)) h4
    have h7 : Canon s6 := canon_applySti h5
    have h8 : Canon s7 := canon_foldl (fun _ _ h9 => (canon_applyCode h9)) h7
    have h10 : Canon s8 := canon_applySeg (canon_applyVg h8)
    have h11 : Canon s9 := canon_foldl (fun _ _ h12 => (canon_applyPrint h12)) (canon_applyEnc h10)
    have h13 : Canon s10 := canon_foldl (fun _ _ h14 => (canon_applyNp h14)) (canon_applyPp h11)
    have h15 : Canon s11 := canon_npReady (canon_foldl (fun _ _ h16 => (canon_applyEth h16)) h13)
    have h17 : Canon s12 := canon_updSdf (canon_foldl (fun _ _ h18 => (canon_applySdg h18)) h15)
    have h19 : Canon s13 := canon_foldl (fun _ _ h20 => (canon_applyClass h20)) (canon_applyTw h17)
    have h21 : Canon s14 := canon_foldl (fun _ _ h22 => (canon_applyDvfs h22)) h19
    have h23 : Canon s15 := canon_foldl (fun _ _ h24 => (canon_applyRt h24)) h21
    have h25 : Canon r.2 := canon_applyBanks h23
    have h26 : Canon s16 := canon_foldl (fun _ _ h27 => (canon_updHp h27)) (canon_summerGate (canon_restoreWrite h25))
    have h28 : Canon s17 := canon_foldl (fun _ _ h29 => (canon_dvfsGo h29)) h26
    exact canon_cfgReady (canon_raise h28)

theorem canon_execStructApplyDone {s : State} (h : Canon s) : CanonOut (execStructApplyDone s) := by
  unfold execStructApplyDone
  split
  · refine canonOut_ite ?_ ?_
    · exact canonOut_done (canon_warmReset (canon_applyStruct h))
    · exact canonOut_done h
  · refine canonOut_ite ?_ ?_
    · exact canonOut_done (canon_applyStruct h)
    · exact canonOut_done h

theorem canon_execLoadAbort {s : State} (h : Canon s) : CanonOut (execLoadAbort s) := canonOut_done (canon_status (canon_loadAbort h))

theorem canon_execPipelineStop {s : State} (h : Canon s) : CanonOut (execPipelineStop s) := canonOut_done (canon_status (canon_runZero h))

theorem canon_rejectOnce {s : State} {o : Obj} {v : Verdict} (h : Canon s) : Canon (s.rejectOnce o v) := canon_ite (canon_raise (canon_incWrap h)) h

theorem canon_cropCc {s : State} {cc ch d w hd coded : Nat} (h : Canon s) : Canon (s.cropCc cc ch d w hd coded) := by
  unfold State.cropCc
  extract_lets s1 s2
  have h1 : Canon s1 := canon_setFld (canon_setBit (canon_setFld (canon_wakeBlock h)))
  have h2 : Canon s2 := canon_setFld (canon_setFld h1)
  exact canon_setFld h2

theorem canon_cropWrite {s : State} {o : Nat} {bs : List Byte} (h : Canon s) : Canon (s.cropWrite o bs) := by
  unfold State.cropWrite
  extract_lets size base first
  exact canon_memStore (canon_memStore h)

theorem canon_crop {s : State} {o : Obj} (h : Canon s) : Canon (s.crop o).2 := by
  have h0 : Canon { s with seg := { s.seg with crops := s.seg.crops.filter (fun c => c.obj != o.id) } } := canon_hidden h
  unfold State.crop
  generalize s.seg.crops.filter (fun c => c.obj == o.id) = runs
  cases runs with
  | nil => exact h0
  | cons r0 rest =>
    refine canon_ite_snd ?_ ?_
    · exact canon_putN (canon_cropWrite (canon_cropCc (canon_ite (canon_flag h0) h0)))
    · exact canon_flag (canon_cropCc (canon_ite (canon_flag h0) h0))

theorem canon_objRecord {s : State} {o : Obj} {k : RecKind} (h : Canon s) : Canon (s.objRecord o k).2 := by
  unfold State.objRecord
  extract_lets v s1 o2 suppressed c s2 deg ptr ws s3 x s4
  have h1 : Canon s1 := canon_rejectOnce h
  have h3 : Canon s2 := by
    unfold s2
    exact canon_ite_snd (canon_crop h1) h1
  have h4 : Canon s3 := canon_record h3
  have h5 : Canon s4 := by
    unfold s4
    refine canon_ite ?_ ?_
    · split
      · exact canon_record h4
      · exact canon_hidden h4
    · exact h4
  exact canon_ite_snd h1 h5

theorem canon_setObjs {s : State} {os : List Obj} (h : Canon s) : Canon (s.setObjs os) := by
  unfold State.setObjs
  extract_lets x s1 s2
  have h1 : Canon s1 := canon_hidden h
  have h2 : Canon s2 := canon_setFld h1
  exact canon_setFld h2

theorem canon_cutObjs {s : State} {sel : Obj → Bool} (h : Canon s) : Canon (s.cutObjs sel) := by
  unfold State.cutObjs
  extract_lets gone s1
  have h1 : Canon s1 := by
    unfold s1
    refine canon_foldl (fun s2 k h4 => ?_) h
    exact canon_objRecord h4
  exact canon_setObjs h1

theorem canon_measure {s : State} {k k0 : Nat} (h : Canon s) : Canon (s.measure k k0).2 := by
  unfold State.measure
  extract_lets cw g cl cr xc x0 a cu cv sx sy l us vs cand raw fr sc best tops f2 pk at_ f3 frac u v fx fy n var flagged why
  have h2 : Canon f2.2 := by
    unfold f2
    exact canon_free (canon_free h)
  exact canon_ite_snd h (canon_free h2)

theorem canon_resolveSeam {s : State} {k : Nat} {ok : Bool} (h : Canon s) : Canon (s.resolveSeam k ok) := by
  unfold State.resolveSeam
  extract_lets s1
  have h1 : Canon s1 := canon_modSeam h
  exact canon_ite (canon_incCnt (canon_setFld h1)) (canon_incCnt (canon_flag (canon_setFld h1)))

theorem canon_updateSeam {s : State} {k k0 : Nat} (h : Canon s) : Canon (s.updateSeam k k0).2 := by
  unfold State.updateSeam
  extract_lets r ok mm s1 s2 s3 g tol conf bad s4 e step s5
  have h2 : Canon s1 := by
    unfold s1
    exact canon_measure h
  have h3 : Canon s2 := by
    unfold s2
    split
    · extract_lets s6
      have h4 : Canon s6 := canon_put h2
      exact canon_setFld (canon_setSfld h4)
    · exact h2
  have h5 : Canon s3 := canon_setBit h3
  have h6 : Canon s4 := canon_ite (canon_resolveSeam h5) h5
  have h7 : Canon s5 := canon_ite (canon_modSeam h6) (canon_modSeam h6)
  exact canon_showSeam (canon_modSeam h7)

theorem canon_usedFree {s : State} (h : Canon s) : Canon s.usedFree := canon_hidden h

theorem canon_postWaiting {s : State} (h : Canon s) : Canon s.postWaiting := by
  unfold State.postWaiting
  extract_lets due rest x
  exact canon_foldl (fun _ _ h1 => (canon_record h1)) (canon_hidden h)

theorem canon_outcome {s : State} {b : Nat} {rejected : Bool} (h : Canon s) : Canon (s.outcome b rejected) := by
  unfold State.outcome
  extract_lets x s1 s2
  have h1 : Canon s1 := canon_hidden h
  have h2 : Canon s2 := canon_postWaiting h1
  exact canon_setFld (canon_setFld h2)

theorem canon_markProv {s : State} (h : Canon s) : Canon s.markProv := by
  unfold State.markProv
  extract_lets tol s1 any x
  have h1 : Canon s1 := canon_foldl (fun _ _ h2 => (canon_modSeam h2)) h
  exact canon_hidden h1

theorem canon_register {s : State} (h : Canon s) : Canon s.register := by
  unfold State.register
  extract_lets k0 was r x x2 s1 s2
  have h3 : Canon x := by
    unfold x
    exact canon_usedFree (canon_foldl_snd (fun _ _ h4 => (canon_updateSeam h4)) h)
  have h5 : Canon s1 := canon_hidden h3
  have h6 : Canon s2 := canon_ite (canon_outcome h5) h5
  exact canon_ite h (canon_place (canon_markProv h6))

theorem canon_rejectSeams {s : State} (h : Canon s) : Canon s.rejectSeams := by
  unfold State.rejectSeams
  extract_lets s1 b any s2 s3
  have h1 : Canon s1 := canon_register h
  have h2 : Canon s2 := canon_foldl (fun _ _ h3 => (canon_ite (canon_showSeam (canon_resolveSeam h3)) h3)) h1
  have h4 : Canon s3 := canon_ite (canon_outcome h2) h2
  exact canon_markProv h4

theorem canon_execPipelineDrained {s : State} (h : Canon s) : CanonOut (execPipelineDrained s) := by
  unfold execPipelineDrained
  extract_lets s'
  have h1 : Canon s' := canon_cutObjs (canon_rejectSeams h)
  refine canonOut_ite ?_ ?_
  · exact canonOut_done (canon_ite (canon_vgReady (canon_flag h1)) h1)
  · exact canonOut_done h

theorem canon_execPipelineRun {s : State} (h : Canon s) : CanonOut (execPipelineRun s) := canonOut_done (canon_runOne h)

theorem canon_execSwapArm {chan : Fin 4} {s : State} (h : Canon s) : CanonOut (execSwapArm chan s) := canonOut_done (canon_swapCtl h)

theorem canon_execSwapDisarm {chan : Fin 4} {s : State} (h : Canon s) : CanonOut (execSwapDisarm chan s) := canonOut_done (canon_swapCtl h)

theorem canon_execSwapNow {chan : Fin 4} {s : State} (h : Canon s) : CanonOut (execSwapNow chan s) := canonOut_done (canon_swapCtl h)

theorem canon_execBankDrainDone {bankB : Bool} {s : State} (h : Canon s) : CanonOut (execBankDrainDone bankB s) := by
  unfold execBankDrainDone
  refine canonOut_ite ?_ ?_
  · exact canonOut_done (canon_emptyBank h)
  · exact canonOut_done h

end Sys2Proof.Machine
end

section
/-!
PROOFS. Canonical stores: encoders, inputs, the event matrix, lanes and links.
-/
set_option Elab.async false

namespace Sys2Proof.Machine

theorem canon_modEnc {s : State} {n : Nat} {f : EncS → EncS} (h : Canon s) : Canon (s.modEnc n f) := canon_hidden h

theorem canon_encSpeed {s : State} {n : Nat} {back : Bool} (h : Canon s) : Canon (s.encSpeed n back) := by
  unfold State.encSpeed
  extract_lets g now k turned hist per s1
  have h1 : Canon s1 := canon_modEnc h
  exact canon_setFld (canon_setBit (canon_putN h1))

theorem canon_encMove {s : State} {n new : Nat} {dn snap : Bool} (h : Canon s) : Canon (s.encMove n new dn snap).2 := by
  unfold State.encMove
  extract_lets old s1 h2 s2
  have h1 : Canon s1 := canon_putN h
  have h2 : Canon s2 := canon_setFld h1
  exact canon_ite_snd h1 (canon_record h2)

theorem canon_resyncStart {s : State} {n pos : Nat} (h : Canon s) : Canon (s.resyncStart n pos) := by
  unfold State.resyncStart
  extract_lets r0 k x x2 x3 x4 s1 s2 x5
  have h1 : Canon s1 := canon_hidden h
  have h2 : Canon s2 := canon_runRise h1
  exact canon_ite (canon_hidden h2) h

theorem canon_passStart {s : State} {n : Nat} (h : Canon s) : Canon (s.passStart n) := by
  unfold State.passStart
  split
  · exact h
  · extract_lets p np pass prevFeed ch adv webs feedBad ab absBad s1 s2 p0 s3 c s4
    have h1 : Canon s1 := canon_ite (canon_flag h) h
    have h2 : Canon s2 := canon_ite (canon_flag h1) h1
    have h3 : Canon s3 := canon_modPrt h2
    have h4 : Canon s4 := canon_hidden h3
    exact canon_prune (canon_setCuN h4)

theorem canon_shuttleStep {s : State} {ch : Nat} {fwd : Bool} {n : Nat} (h : Canon s) : Canon (s.shuttleStep ch fwd n) := by
  unfold State.shuttleStep
  extract_lets start back s1
  have h1 : Canon s1 := canon_ite (canon_modPrt h) h
  exact canon_ite (canon_ite (canon_passStart h1) h1) h

theorem canon_cuStep {s : State} {u pos lim : Nat} (h : Canon s) : Canon (s.cuStep u pos lim).2 := by
  unfold State.cuStep
  split
  · exact canon_cuEval h
  · extract_lets arm
    exact canon_ite_snd (canon_cuEval (canon_modCu h)) h

theorem canon_swapEdge {s : State} {b : Bool} {n : Nat} {hit late : List Nat} (h : Canon s) : Canon (s.swapEdge b n hit late).2 := by
  unfold State.swapEdge
  extract_lets ran old s1 x x2 s2
  have h1 : Canon s1 := canon_ite (canon_setBank h) h
  have h2 : Canon x := canon_setFld h1
  have h3 : Canon s2 := canon_hidden h2
  exact canon_takeBank h3

theorem canon_encForward {s : State} {n : Nat} (h : Canon s) : Canon (s.encForward n) := by
  unfold State.encForward
  extract_lets s1 bankB m s2 pos s3 s4 sw x s5 named before held r w
  have h1 : Canon s1 := canon_encSpeed h
  have h3 : Canon s2 := by
    unfold s2
    exact canon_encMove h1
  have h4 : Canon s3 := canon_resyncStart h3
  have h5 : Canon s4 := canon_foldl (fun _ _ h6 => (canon_shuttleStep h6)) h4
  have h7 : Canon s5 := canon_hidden h5
  have h10 : Canon w.2 := by
    unfold w
    split
    · extract_lets x2
      have h11 : Canon x2.2 := by
        unfold x2
        exact canon_swapEdge (canon_foldl_snd (fun _ _ h12 => (canon_cuStep h12)) h7)
      exact h11
    · exact canon_foldl_snd (fun _ _ h13 => (canon_cuStep h13)) h7
  exact canon_raiseG h10

theorem canon_encBackward {s : State} {n : Nat} (h : Canon s) : Canon (s.encBackward n) := by
  unfold State.encBackward
  extract_lets s1 v m s2 s3 x s4
  have h1 : Canon s1 := canon_encSpeed h
  have h2 : Canon m.2 := canon_encMove h1
  have h3 : Canon s2 := canon_foldl (fun _ _ h4 => (canon_shuttleStep h4)) h2
  have h5 : Canon s3 := canon_foldl (fun _ _ h6 => (canon_modCu h6)) h3
  have h7 : Canon s4 := canon_ite (canon_hidden h5) h5
  exact canon_raise h7

theorem canon_encAccept {s : State} {n : Nat} {chA chB : Bool} (h : Canon s) : Canon (s.encAccept n chA chB) := by
  unfold State.encAccept
  extract_lets dead s1 g fwd
  have h1 : Canon s1 := canon_modEnc h
  exact canon_ite h1 (canon_ite (canon_raise (canon_flag (canon_incCnt h1))) (canon_ite (canon_ite (canon_encForward h1) (canon_encBackward h1)) h1))

theorem canon_encSample {s : State} {n : Nat} {lineB : Bool} (h : Canon s) : Canon (s.encSample n lineB) := by
  unfold State.encSample
  extract_lets s1 g
  have h1 : Canon s1 := canon_modEnc h
  exact canon_encAccept h1

theorem canon_execEncoderStep {n : Fin 4} {lineB : Bool} {s : State} (h : Canon s) : CanonOut (execEncoderStep n lineB s) := canonOut_done (canon_encSample h)

theorem canon_execQuadratureError {n : Fin 4} {s : State} (h : Canon s) : CanonOut (execQuadratureError n s) :=
  canonOut_done (canon_encAccept (canon_modEnc h))

theorem canon_snapMove {s : State} {n : Nat} {e : Int} (h : Canon s) : Canon (s.snapMove n e).2 := by
  unfold State.snapMove
  extract_lets old mv m s1 s2 x s3 s4 s5 s6
  have h2 : Canon s1 := by
    unfold s1
    exact canon_encMove h
  have h3 : Canon s2 := canon_foldl (fun _ _ h4 => (canon_modCu (canon_setCuN h4))) h2
  have h5 : Canon s3 := canon_hidden h3
  have h6 : Canon s4 := canon_ite (canon_ite (canon_flag (canon_putN h5)) h5) h3
  have h7 : Canon s5 := canon_foldl (fun _ _ h8 => (canon_ite (canon_modPrt (canon_putN (canon_modPrt h8))) (canon_modPrt h8))) h6
  have h9 : Canon s6 := canon_incWrap h7
  exact canon_record h9

theorem canon_idxCheck {s : State} {n c : Nat} (h : Canon s) : Canon (s.idxCheck n c).2 := by
  unfold State.idxCheck
  extract_lets s1 p d k e s2 s3
  have h1 : Canon s1 := canon_putN h
  have h2 : Canon s2 := canon_putN (canon_modEnc h1)
  have h3 : Canon s3 := canon_flag h2
  exact canon_ite_snd (canon_flag (canon_modEnc h1)) (canon_ite_snd h1 (canon_ite_snd (canon_ite_snd (canon_ite_snd (canon_snapMove h3) (canon_flag h3)) h3)
      h2))

theorem canon_zAccept {s : State} {n : Nat} {change : Bool} (h : Canon s) : Canon (s.zAccept n change) := by
  unfold State.zAccept
  extract_lets s1 s2 r
  have h1 : Canon s1 := canon_modEnc h
  have h2 : Canon s2 := canon_raise h1
  refine canon_ite ?_ ?_
  · exact h
  · refine canon_ite ?_ ?_
    · refine canon_ite ?_ ?_
      · exact h2
      · exact canon_raise (canon_idxCheck h2)
    · exact h1

theorem canon_execDeadTimeEnd {n : Fin 4} {line : Fin 3} {s : State} (h : Canon s) : CanonOut (execDeadTimeEnd n line s) := by
  unfold execDeadTimeEnd
  extract_lets g
  refine canonOut_ite ?_ ?_
  · refine canonOut_ite ?_ ?_
    · exact canonOut_done (canon_zAccept (canon_modEnc h))
    · exact canonOut_done h
  · refine canonOut_ite ?_ ?_
    · refine canonOut_ite ?_ ?_
      · exact canonOut_done (canon_encAccept (canon_modEnc h))
      · exact canonOut_done h
    · refine canonOut_ite ?_ ?_
      · exact canonOut_done (canon_encAccept (canon_modEnc h))
      · exact canonOut_done h

theorem canon_execStandstill {n : Fin 4} {s : State} (h : Canon s) : CanonOut (execStandstill n s) := by
  unfold execStandstill
  extract_lets s'
  have h1 : Canon s' := canon_flag (canon_modEnc h)
  refine canonOut_ite ?_ ?_
  · exact canonOut_done (canon_raise (canon_putN h1))
  · exact canonOut_done h

theorem canon_execIndexEdge {n : Fin 4} {level : Bool} {s : State} (h : Canon s) : CanonOut (execIndexEdge n level s) := by
  unfold execIndexEdge
  extract_lets g
  exact canonOut_done (canon_zAccept (canon_modEnc h))

theorem canon_cuTogether {s : State} {f : State → Nat → Bool × State} {us : List Nat} (hf : ∀ s u, Canon s → Canon (f s u).2) (h : Canon s) :
    Canon (s.cuTogether f us) := canon_raise (canon_foldl_snd (fun _ _ h1 => hf _ _ h1) h)

theorem canon_cuExpire {s : State} {u : Nat} (h : Canon s) : Canon (s.cuExpire u).2 := by
  unfold State.cuExpire
  extract_lets pos
  exact canon_ite_snd (canon_cuHit h) h

theorem canon_execInterpolatedHit {us : List (Fin 32)} {s : State} (h : Canon s) : CanonOut (execInterpolatedHit us s) :=
  canonOut_done (canon_cuTogether (fun _ _ h1 => canon_cuExpire h1) h)

theorem canon_cuDeferred {s : State} {u : Nat} (h : Canon s) : Canon (s.cuDeferred u).2 := by
  unfold State.cuDeferred
  extract_lets pos s'
  have h1 : Canon s' := canon_modCu h
  exact canon_ite_snd (canon_ite_snd (canon_cuSkip h1) (canon_cuHit h1)) h

theorem canon_execDeferredHit {us : List (Fin 32)} {s : State} (h : Canon s) : CanonOut (execDeferredHit us s) :=
  canonOut_done (canon_cuTogether (fun _ _ h1 => canon_cuDeferred h1) h)

theorem canon_execCuSpacingWrite {u : Fin 32} {val : Word} {s : State} (h : Canon s) : CanonOut (execCuSpacingWrite u val s) :=
  canonOut_done (canon_cuSpacing h)

theorem canon_execCuSpacingHiWrite {u : Fin 32} {val : Word} {s : State} (h : Canon s) : CanonOut (execCuSpacingHiWrite u val s) :=
  canonOut_done (canon_cuSpacingHi h)

theorem canon_execAbsTimerStart {n : Fin 2} {s : State} (h : Canon s) : CanonOut (execAbsTimerStart n s) := by
  unfold execAbsTimerStart
  refine canonOut_ite ?_ ?_
  · exact canonOut_done h
  · refine canonOut_ite ?_ ?_
    · exact canonOut_done (canon_incWrap (canon_flag h))
    · exact canonOut_done (canon_absStart h)

theorem canon_absEnd {s : State} {n : Nat} (h : Canon s) : Canon (s.absEnd n) := canon_hidden h

theorem canon_incSat {s : State} {f : Fld} (h : Canon s) : Canon (s.incSat f) := canon_setFld h

theorem canon_absFail {s : State} {n : Nat} (h : Canon s) : Canon (s.absFail n) := canon_raise (canon_incSat h)

theorem canon_absDone {s : State} {n : Nat} (h : Canon s) : Canon (s.absDone n) := by
  unfold State.absDone
  extract_lets s1
  have h1 : Canon s1 := canon_foldl (fun _ _ h2 => (canon_modPrt h2)) h
  exact canon_raise h1

theorem canon_absCycle {s : State} {n raw : Nat} {errLow warnLow : Bool} {crc : Nat} (h : Canon s) : Canon (s.absCycle n raw errLow warnLow crc) := by
  unfold State.absCycle
  extract_lets s1 bits pos s2 s3 s4
  have h1 : Canon s1 := canon_absEnd h
  have h2 : Canon s2 := canon_putN h1
  have h3 : Canon s3 := canon_ite (canon_flag h2) h2
  have h4 : Canon s4 := canon_ite (canon_flag h3) h3
  exact canon_ite (canon_ite (canon_absFail (canon_flag h1)) (canon_ite (canon_absFail h4) (canon_absDone h4))) (canon_absDone (canon_putN h1))

theorem canon_execAbsCycleDone {n : Fin 2} {raw : Word} {errLow warnLow : Bool} {crc : BitVec 6} {s : State} (h : Canon s) : CanonOut (execAbsCycleDone n
    raw errLow warnLow crc s) := by
  unfold execAbsCycleDone
  refine canonOut_ite ?_ ?_
  · exact canonOut_done (canon_absCycle h)
  · exact canonOut_done h

theorem canon_execAbsStartTimeout {n : Fin 2} {s : State} (h : Canon s) : CanonOut (execAbsStartTimeout n s) := by
  unfold execAbsStartTimeout
  refine canonOut_ite ?_ ?_
  · exact canonOut_done (canon_absFail (canon_flag (canon_absEnd h)))
  · exact canonOut_done h

theorem canon_execSwitchInputChange {n : Fin 8} {pin : Bool} {s : State} (h : Canon s) : CanonOut (execSwitchInputChange n pin s) :=
  canonOut_done (canon_swSample h)

theorem canon_execSwitchAccept {n : Fin 8} {s : State} (h : Canon s) : CanonOut (execSwitchAccept n s) := canonOut_done (canon_swAccept h)

theorem canon_execPulsePinEnd {c : Fin 64} {s : State} (h : Canon s) : CanonOut (execPulsePinEnd c s) := by
  unfold execPulsePinEnd
  extract_lets x s'
  have h1 : Canon s' := canon_emit (canon_hidden h)
  refine canonOut_ite ?_ ?_
  · exact canonOut_done (canon_ite (canon_camTrigger h1) h1)
  · exact canonOut_done h

theorem canon_execConsumerBusyEnd {c : Fin 64} {s : State} (h : Canon s) : CanonOut (execConsumerBusyEnd c s) := by
  unfold execConsumerBusyEnd
  extract_lets x
  refine canonOut_ite ?_ ?_
  · exact canonOut_done (canon_hidden h)
  · exact canonOut_done h

theorem canon_execIrqHoldoffTimer {q : Fin 32} {s : State} (h : Canon s) : CanonOut (execIrqHoldoffTimer q s) := canonOut_done (canon_ite h (canon_signalQ h))

theorem canon_execEvent {q : Fin 32} {pkt : List Byte} {s : State} (h : Canon s) : CanonOut (execEvent q pkt s) :=
  canonOut_done (canon_packet (fun _ _ h1 => canon_finish (canon_raise h1)) h)

theorem canon_cxLock {s : State} {i : Nat} (h : Canon s) : Canon (s.cxLock i) := by
  unfold State.cxLock
  extract_lets n rate s1 links joins s2
  have h1 : Canon s1 := canon_setFld h
  have h2 : Canon s2 := canon_camCount (canon_setFld h1)
  exact canon_ite (canon_ite (canon_camUp h2) h2) (canon_setFld h1)

theorem canon_nlLock {s : State} {i : Nat} (h : Canon s) : Canon (s.nlLock i) := by
  unfold State.nlLock
  extract_lets p s1 s2
  have h1 : Canon s1 := canon_setFld h
  have h2 : Canon s2 := canon_setFld h1
  exact canon_ite (canon_setFld h1) (canon_ite (canon_npTrained (canon_setFld h1)) (canon_setFld h2))

theorem canon_epLock {s : State} {i : Nat} (h : Canon s) : Canon (s.epLock i) := by
  unfold State.epLock
  extract_lets p
  exact canon_epReady (canon_setFld (canon_setFld h))

theorem canon_execLaneLock {i : Fin 114} {skew : BitVec 8} {s : State} (h : Canon s) : CanonOut (execLaneLock i skew s) := by
  unfold execLaneLock
  extract_lets x s' x2
  have h1 : Canon s' := canon_hidden h
  refine canonOut_ite ?_ ?_
  · exact canonOut_done h
  · exact canonOut_done (canon_ite (canon_cxLock h1) (canon_ite (canon_nlLock (canon_hidden h1)) (canon_epLock h1)))

theorem canon_lockLoss {s : State} {i code disp : Nat} (h : Canon s) : Canon (s.lockLoss i code disp) := by
  unfold State.lockLoss
  extract_lets serv s1 x s2 p k s3
  have h1 : Canon s1 := canon_toHunt (canon_flag (canon_laneErrs h))
  have h2 : Canon s2 := canon_ite (canon_hidden h1) h1
  have h3 : Canon s3 := canon_setFld h2
  exact canon_ite (canon_camCount h2) (canon_ite (canon_ite (canon_npDown h3) h3) (canon_epReady h2))

theorem canon_execLaneLockLoss {i : Fin 114} {code disp : BitVec 16} {s : State} (h : Canon s) : CanonOut (execLaneLockLoss i code disp s) := by
  unfold execLaneLockLoss
  refine canonOut_ite ?_ ?_
  · exact canonOut_done (canon_lockLoss h)
  · exact canonOut_done h

theorem canon_execRateHuntDwell {i : Fin 114} {s : State} (h : Canon s) : CanonOut (execRateHuntDwell i s) := by
  unfold execRateHuntDwell
  extract_lets k x
  refine canonOut_ite ?_ ?_
  · exact canonOut_done (canon_hidden h)
  · exact canonOut_done h

theorem canon_pktDrop {s : State} {n : Nat} {f : Fld} (h : Canon s) : Canon (s.pktDrop n f) := canon_incCnt (canon_flag h)

theorem canon_execCxpPacket {n : Fin 12} {link : Fin 8} {late : Bool} {tag stream : BitVec 8} {crcOk first : Bool} {fmt : Fin 8} {line ofs : BitVec 16} {pix
    : List (List Nat)} {s : State} (h : Canon s) : CanonOut (execCxpPacket n link late tag stream crcOk first fmt line ofs pix s) := by
  unfold execCxpPacket
  extract_lets t behind bad s1 s' k
  have h1 : Canon s1 := canon_wakeBlock h
  have h2 : Canon s' := canon_ite (canon_pktDrop h1) (canon_ite (canon_pktDrop h1) h1)
  refine canonOut_ite ?_ ?_
  · exact canonOut_done h
  · refine canonOut_ite ?_ ?_
    · exact canonOut_done (canon_modIng (canon_flag h))
    · refine canonOut_ite ?_ ?_
      · exact canonOut_done (canon_pktDrop (canon_wakeBlock h))
      · exact canonOut_done (canon_modIng h2)

theorem canon_execDownlinkTrigger {n : Fin 12} {s : State} (h : Canon s) : CanonOut (execDownlinkTrigger n s) := by
  unfold execDownlinkTrigger
  refine canonOut_ite ?_ ?_
  · exact canonOut_done (canon_incCnt (canon_flag h))
  · exact canonOut_done h

theorem canon_postOrDrop {s : State} {c : Nat} {e : HostEntry} (h : Canon s) : Canon (s.postOrDrop c e) :=
  canon_ite (canon_pushEntry h) (canon_incCnt (canon_flag h))

theorem canon_execCxpCtrlReceived {n : Fin 12} {heartbeat : Bool} {bytes : List Byte} {s : State} (h : Canon s) : CanonOut (execCxpCtrlReceived n heartbeat
    bytes s) := by
  unfold execCxpCtrlReceived
  refine canonOut_ite ?_ ?_
  · exact canonOut_done (canon_postOrDrop h)
  · exact canonOut_done h

theorem canon_execMasterLossTimeout {n : Fin 12} {s : State} (h : Canon s) : CanonOut (execMasterLossTimeout n s) := by
  unfold execMasterLossTimeout
  refine canonOut_ite ?_ ?_
  · exact canonOut_done (canon_setReady (canon_fault h))
  · exact canonOut_done h

theorem canon_reduce {s : State} {n i : Nat} (h : Canon s) : Canon (s.reduce n i) := by
  unfold State.reduce
  extract_lets left k m x
  exact canon_ite (canon_emit (canon_hidden h)) (canon_fault (canon_flag h))

theorem canon_nimCtrl {s : State} {p ty : Nat} {payload : List Byte} (h : Canon s) : Canon (s.nimCtrl p ty payload) := canon_nimSend h

theorem canon_npRetire {s : State} {p j : Nat} (h : Canon s) : Canon (s.npRetire p j) := by
  unfold State.npRetire
  extract_lets spare k s1 m l
  have h1 : Canon s1 := canon_setFld h
  exact canon_ite (canon_modNp (canon_nimCtrl h1)) (canon_ite (canon_npDown h1) h1)

theorem canon_retire {s : State} {i : Nat} (h : Canon s) : Canon (s.retire i) := by
  unfold State.retire
  extract_lets s1 x s2 n s3 s4 p j s5
  have h1 : Canon s1 := canon_setFld (canon_setFld (canon_eyeAbort h))
  have h2 : Canon s2 := canon_hidden h1
  have h3 : Canon s3 := canon_camCount h2
  have h4 : Canon s4 := canon_fault h3
  have h5 : Canon s5 := canon_fault h2
  exact canon_ite (canon_ite (canon_setReady (canon_fault h4)) (canon_reduce h4)) (canon_ite h5 (canon_npRetire h5))

theorem canon_execLaneRetire {i : Fin 114} {code disp : BitVec 16} {s : State} (h : Canon s) : CanonOut (execLaneRetire i code disp s) := by
  unfold execLaneRetire
  extract_lets serv
  refine canonOut_ite ?_ ?_
  · exact canonOut_done h
  · exact canonOut_done (canon_retire (canon_laneErrs h))

theorem canon_camReduce {s : State} {n m : Nat} (h : Canon s) : Canon (s.camReduce n m) := by
  unfold State.camReduce
  extract_lets x s1 s2 s3
  have h1 : Canon s1 := canon_hidden h
  have h2 : Canon s2 := canon_foldl (fun _ _ h3 => (canon_ite (canon_setFld h3) (canon_ite (canon_setFld h3) h3))) h1
  have h4 : Canon s3 := canon_flag (canon_camCount h2)
  exact canon_fault h4

theorem canon_execCameraLinkAck {n : Fin 12} {ok : Bool} {s : State} (h : Canon s) : CanonOut (execCameraLinkAck n ok s) := by
  unfold execCameraLinkAck
  split
  · exact canonOut_done h
  · extract_lets x s' s'2
    have h1 : Canon s' := canon_hidden h
    have h2 : Canon s'2 := canon_ite (canon_camReduce h1) (canon_fault (canon_flag h1))
    exact canonOut_done (canon_ite (canon_ctrlRelease h2) h2)

theorem canon_execLaneEqSeedWrite {i : Fin 114} {val : Word} {s : State} (h : Canon s) : CanonOut (execLaneEqSeedWrite i val s) := by
  unfold execLaneEqSeedWrite
  refine canonOut_ite ?_ ?_
  · exact canonOut_done (canon_eqSeed h)
  · exact canonOut_done h

theorem canon_execLaneCtlWrite {i : Fin 114} {val : Word} {s : State} (h : Canon s) : CanonOut (execLaneCtlWrite i val s) := by
  unfold execLaneCtlWrite
  refine canonOut_ite ?_ ?_
  · exact canonOut_done (canon_laneCtl h)
  · exact canonOut_done h

theorem canon_execEyeScanStart {i : Fin 114} {val : Word} {s : State} (h : Canon s) : CanonOut (execEyeScanStart i val s) := by
  unfold execEyeScanStart
  refine canonOut_ite ?_ ?_
  · exact canonOut_done (canon_eyeCtl h)
  · exact canonOut_done h

theorem canon_execEyeScanDone {i : Fin 114} {errors : Word} {s : State} (h : Canon s) : CanonOut (execEyeScanDone i errors s) := by
  unfold execEyeScanDone
  refine canonOut_ite ?_ ?_
  · exact canonOut_done (canon_flag (canon_eyeCount h))
  · exact canonOut_done h

theorem canon_execIdentTimer {p : Fin 4} {s : State} (h : Canon s) : CanonOut (execIdentTimer p s) := by
  unfold execIdentTimer
  refine canonOut_ite ?_ ?_
  · exact canonOut_done (canon_nimCtrl h)
  · exact canonOut_done h

theorem canon_npAck {s : State} {p : Nat} {ack : Option (BitVec 12)} (h : Canon s) : Canon (s.npAck p ack) := by
  unfold State.npAck
  split
  · exact h
  · exact canon_npSend (canon_modNp h)

theorem canon_execIdentFrame {p : Fin 4} {devId : BitVec 18} {ack : Option (BitVec 12)} {s : State} (h : Canon s) :
    CanonOut (execIdentFrame p devId ack s) := by
  unfold execIdentFrame
  extract_lets s'
  have h1 : Canon s' := canon_modNp (canon_npAck h)
  refine canonOut_ite ?_ ?_
  · exact canonOut_done (canon_npAck h)
  · refine canonOut_ite ?_ ?_
    · exact canonOut_done (canon_flag (canon_setFld h1))
    · exact canonOut_done (canon_npSend (canon_setReady (canon_setFld (canon_setFld h1))))

theorem canon_execNpRetrain {p : Fin 4} {s : State} (h : Canon s) : CanonOut (execNpRetrain p s) := by
  unfold execNpRetrain
  refine canonOut_ite ?_ ?_
  · exact canonOut_done (canon_status (canon_npRetrain h))
  · exact canonOut_done h

theorem canon_npAccept {s : State} {p vc seq : Nat} {ack : Option (BitVec 12)} {fcrcOk : Bool} {len : Nat} (h : Canon s) : Canon (s.npAccept p vc seq ack
    fcrcOk len).2 := by
  unfold State.npAccept
  extract_lets s1
  have h1 : Canon s1 := canon_npAck h
  exact canon_ite_snd h (canon_ite_snd (canon_nimBad h) (canon_ite_snd (canon_nimNak h1) (canon_modNp h1)))

theorem canon_remoteStop {s : State} {n st cause : Nat} (h : Canon s) : Canon (s.remoteStop n st cause) := by
  unfold State.remoteStop
  extract_lets bs
  exact canon_ite (canon_dmaEnd (canon_dmaPut h)) h

theorem canon_remoteFrame {s : State} {src : Nat} {pl : List Byte} (h : Canon s) : Canon (s.remoteFrame src pl) := by
  unfold State.remoteFrame
  extract_lets b op dlen tag chan addr data answer st resp s1 d more
  have h1 : ∀ {s2 op2 st2 dlen2 flags2 d2}, Canon s2 → Canon (answer s2 op2 st2 dlen2 flags2 d2) := fun h2 => canon_sendData h2
  have h3 : Canon s1 := canon_localWrite h
  exact canon_ite (canon_ite (h1 (canon_incCnt h)) (canon_ite (canon_ite (h1 h3) h3) (h1 (canon_ddrRead h)))) (canon_ite h (canon_ite (canon_ite
      (canon_remoteStop h) (canon_remoteRead (canon_modDma h))) (canon_ite (canon_ite (canon_remoteStop h) (canon_modDma h)) h)))

theorem canon_forward {s : State} {inPort : Nat} {f : NFrame} (h : Canon s) : Canon (s.forward inPort f) := by
  unfold State.forward
  split
  · exact canon_ite (canon_noRoute h) (canon_sendFrameNp h)
  · exact canon_noRoute h

theorem canon_execNimebDataFrame {p vc : Fin 4} {dst src : BitVec 18} {seq : BitVec 12} {ack : Option (BitVec 12)} {fcrcOk : Bool} {payload : List Byte} {s
    : State} (h : Canon s) : CanonOut (execNimebDataFrame p vc dst src seq ack fcrcOk payload s) := by
  unfold execNimebDataFrame
  extract_lets r
  refine canonOut_ite ?_ ?_
  · exact canonOut_done (canon_npAccept h)
  · refine canonOut_ite ?_ ?_
    · refine canonOut_done ?_
      exact canon_remoteFrame (canon_npAccept h)
    · refine canonOut_done ?_
      exact canon_forward (canon_npAccept h)

theorem canon_execNakReceived {p : Fin 4} {ackSeq : BitVec 12} {s : State} (h : Canon s) : CanonOut (execNakReceived p ackSeq s) := by
  unfold execNakReceived
  extract_lets s' s'2
  have h1 : Canon s' := canon_npAck h
  have h2 : Canon s'2 := canon_foldl (fun _ _ h3 => (canon_ite (canon_nimCredited h3) h3)) h1
  refine canonOut_ite ?_ ?_
  · exact canonOut_done h
  · exact canonOut_done (canon_incCnt h2)

theorem canon_execCreditFrame {p : Fin 4} {c0 c1 c2 c3 : BitVec 8} {ack : Option (BitVec 12)} {s : State} (h : Canon s) : CanonOut (execCreditFrame p c0 c1
    c2 c3 ack s) := by
  unfold execCreditFrame
  extract_lets s'
  have h1 : Canon s' := canon_foldl (fun _ _ h2 => (canon_setFld h2)) h
  refine canonOut_ite ?_ ?_
  · exact canonOut_done h
  · exact canonOut_done (canon_npSend (canon_npAck h1))

theorem canon_execCreditReturnTimer {p : Fin 4} {s : State} (h : Canon s) : CanonOut (execCreditReturnTimer p s) := by
  unfold execCreditReturnTimer
  extract_lets o
  refine canonOut_ite ?_ ?_
  · exact canonOut_done (canon_modNp (canon_nimCtrl h))
  · exact canonOut_done h

theorem canon_execLaneSwapFrame {p : Fin 4} {logical : Fin 3} {lane : Fin 4} {marker : BitVec 16} {ack : Option (BitVec 12)} {s : State} (h : Canon s) :
    CanonOut (execLaneSwapFrame p logical lane marker ack s) := by
  unfold execLaneSwapFrame
  refine canonOut_ite ?_ ?_
  · exact canonOut_done (canon_modNp (canon_npAck h))
  · exact canonOut_done h

theorem canon_execLaneSwapApply {p : Fin 4} {tx : Bool} {s : State} (h : Canon s) : CanonOut (execLaneSwapApply p tx s) := canonOut_done (canon_swapAt h)

end Sys2Proof.Machine
end

section
/-!
PROOFS. Canonical stores: ingest, stitching, the vision units and the segments.
-/
set_option Elab.async false

namespace Sys2Proof.Machine

theorem canon_orphan {s : State} {n : Nat} (h : Canon s) : Canon (s.orphan n) := canon_incCnt (canon_flag h)

theorem canon_takeTag {s : State} {n : Nat} {raw : Pix} {fl : LFlags} {full : Bool} (h : Canon s) : Canon (s.takeTag n raw fl full) := by
  unfold State.takeTag
  split
  · exact h
  · exact canon_correct (canon_modIng h)

theorem canon_substMany {n : Nat} {full : Bool} {k : Nat} {s : State} (h : Canon s) : Canon (substMany n full k s) := by
  induction k generalizing s with
  | zero => exact h
  | succ k ih => exact ih (canon_substOldest h)

theorem canon_matchLine {s : State} {n nr : Nat} {raw : Pix} {fl : LFlags} {full : Bool} (h : Canon s) : Canon (s.matchLine n nr raw fl full) := by
  unfold State.matchLine
  extract_lets g q setE e d
  have h1 : ∀ {s1 e2}, Canon s1 → Canon (setE s1 e2) := fun h2 => canon_modIng h2
  exact canon_ite (canon_ite (canon_orphan h) (canon_takeTag h)) (canon_ite (canon_orphan (h1 h)) (canon_ite (canon_incCnt (canon_flag (h1 h))) (canon_ite
      (canon_takeTag (h1 (canon_substMany h))) (canon_takeTag (canon_flag (h1 h))))))

theorem canon_execLineEnd {n : Fin 12} {stagFull : Bool} {s : State} (h : Canon s) : CanonOut (execLineEnd n stagFull s) := by
  unfold execLineEnd
  extract_lets s1 g ppl r short fillPx raw s' s'2 s'3 nrs
  have h1 : Canon s1 := canon_wakeBlock h
  have h2 : Canon s' := canon_modIng h1
  have h3 : Canon s'2 := canon_ite (canon_incCnt (canon_flag h2)) h2
  have h4 : Canon s'3 := canon_ite (canon_incCnt (canon_flag h3)) h3
  have h5 : Canon nrs.2 := by
    unfold nrs
    split
    · exact h4
    · exact canon_free h4
  refine canonOut_ite ?_ ?_
  · exact canonOut_done h
  · exact canonOut_done (canon_matchLine h5)

theorem canon_execTagTimeout {n : Fin 12} {stagFull : Bool} {s : State} (h : Canon s) : CanonOut (execTagTimeout n stagFull s) :=
  canonOut_done (canon_substOldest h)

theorem canon_execDarkCapt {n : Fin 12} {s : State} (h : Canon s) : CanonOut (execDarkCapt n s) := by
  unfold execDarkCapt
  refine canonOut_ite ?_ ?_
  · exact canonOut_done (canon_status (canon_darkCapt (canon_wakeBlock h)))
  · exact canonOut_done h

theorem canon_execIngFlip {n : Fin 12} {s : State} (h : Canon s) : CanonOut (execIngFlip n s) := by
  unfold execIngFlip
  refine canonOut_ite ?_ ?_
  · exact canonOut_done (canon_ingFlip (canon_wakeBlock h))
  · exact canonOut_done h

theorem canon_execIngFlipApply {n : Fin 12} {s : State} (h : Canon s) : CanonOut (execIngFlipApply n s) := canonOut_done (canon_ingFlipApply h)

theorem canon_decodeFault {s : State} {n : Nat} (h : Canon s) : Canon (s.decodeFault n) := canon_fault (canon_incCnt (canon_flag h))

theorem canon_execStaggerReadReturn {n : Fin 12} {s : State} (h : Canon s) : CanonOut (execStaggerReadReturn n s) := by
  unfold execStaggerReadReturn
  extract_lets g x
  split
  · exact canonOut_done h
  · extract_lets s' a h2 s'2 blen body s'3 f t fl raw px
    have h1 : Canon s' := canon_hidden h
    have h2 : Canon s'2 := canon_ddrRead h1
    have h3 : Canon s'3 := canon_ddrRead h2
    refine canonOut_ite ?_ ?_
    · exact canonOut_done h
    · refine canonOut_ite ?_ ?_
      · exact canonOut_done (canon_storeLine h2)
      · refine canonOut_ite ?_ ?_
        · exact canonOut_done (canon_storeLoss (canon_flag h2))
        · refine canonOut_ite ?_ ?_
          · exact canonOut_done (canon_storeLoss (canon_flag h2))
          · refine canonOut_ite ?_ ?_
            · exact canonOut_done (canon_storeLoss (canon_flag h3))
            · refine canonOut_ite ?_ ?_
              · refine canonOut_ite ?_ ?_
                · exact canonOut_done (canon_storeLoss (canon_flag h3))
                · exact canonOut_done (canon_pairLine h3)
              · split
                · exact canonOut_done (canon_pairLine h3)
                · exact canonOut_done (canon_storeLoss (canon_flag (canon_decodeFault h3)))

theorem canon_fillTo {c lim f : Nat} {s : State} (h : Canon s) : Canon (fillTo c lim f s) := by
  induction f generalizing s with
  | zero => exact h
  | succ f ih => exact canon_ite (ih (canon_storeLoss (canon_flag (canon_ite (canon_hidden (canon_flag h)) h)))) h

theorem canon_formLine {s : State} (h : Canon s) : Canon s.formLine := by
  unfold State.formLine
  extract_lets s1 k s2 t x x2 s3 st s4 s5 rr d s6 x3 x4 x5 s7
  have h1 : Canon s1 := canon_wakeBlock (canon_wakeBlock h)
  have h2 : Canon s2 := canon_foldl (fun _ _ h3 => (canon_ite h3 (canon_fillTo h3))) h1
  have h4 : Canon x := canon_setOrg h2
  have h5 : Canon s3 := canon_ite (canon_hidden h4) h2
  have h6 : Canon s4 := canon_usedFree h5
  have h7 : Canon s5 := canon_ite (canon_flag h6) h6
  have h8 : Canon s6 := canon_ite (canon_flag h7) h7
  have h9 : Canon s7 := canon_hidden h8
  exact canon_putN h9

theorem canon_setNz {s : State} {n i : Nat} {e : Option NzS} (h : Canon s) : Canon (s.setNz n i e) := canon_modPrt h

theorem canon_reseedNozzle {s : State} {n blk : Nat} {e : NzS} (h : Canon s) : Canon (s.reseedNozzle n blk e) := by
  unfold State.reseedNozzle
  extract_lets a b w c ws
  have h2 : Canon b.2 := by
    unfold b
    exact canon_free (canon_free h)
  exact canon_record (canon_setNz h2)

theorem canon_reseedEnd {s : State} {r : Reseed} {blk : Nat} (h : Canon s) : Canon (s.reseedEnd r blk) := by
  unfold State.reseedEnd
  extract_lets s1 s2 s3
  have h1 : Canon s1 := canon_foldl (fun _ _ h2 => (canon_foldl (fun _ _ h3 => (canon_reseedNozzle h3)) h2)) h
  have h4 : Canon s2 := canon_modFlt h1
  have h5 : Canon s3 := canon_ite h4 (canon_setFld h4)
  exact canon_pairFault h5

theorem canon_applySeeds {s : State} (h : Canon s) : Canon s.applySeeds := by
  unfold State.applySeeds
  refine canon_foldl (fun s1 k h2 => ?_) h
  split
  · exact h2
  · extract_lets s2
    have h3 : Canon s2 := canon_ite (canon_resolveSeam h2) h2
    exact canon_showSeam (canon_modSeam h3)

theorem canon_applyAdj {s : State} (h : Canon s) : Canon s.applyAdj := by
  unfold State.applyAdj
  extract_lets a
  exact canon_ite h (canon_putN (canon_setOrg h))

theorem canon_umapApply {s : State} (h : Canon s) : Canon s.umapApply := by
  unfold State.umapApply
  extract_lets inWin shown used x s1 s2
  have h1 : Canon s1 := canon_hidden (canon_regsFilter _ h)
  have h2 : Canon s2 := canon_foldl (fun _ _ h3 => canon_put h3) h1
  exact canon_ite (canon_setFld (canon_setFld h2)) h

theorem canon_stiBoundary {s : State} (h : Canon s) : Canon s.stiBoundary := by
  unfold State.stiBoundary
  extract_lets s1 s2 s3 x s4
  have h1 : Canon s1 := canon_applySeeds (canon_register h)
  have h2 : Canon s2 := canon_foldl (fun _ _ h3 => (canon_modSeam h3)) h1
  have h4 : Canon s3 := canon_setSpans (canon_place (canon_markProv h2))
  have h5 : Canon s4 := canon_hidden h4
  exact canon_applyAdj (canon_umapApply (canon_setBit h5))

theorem canon_setObjNext {s : State} {n : Nat} (h : Canon s) : Canon (s.setObjNext n) := canon_setFld (canon_putN h)

theorem canon_reseedObjs {s : State} {v blk : Nat} (h : Canon s) : Canon (s.reseedObjs v blk) := by
  unfold State.reseedObjs
  extract_lets old s1 x s2 x2 x3
  have h1 : Canon s1 := canon_setObjNext h
  have h2 : Canon s2 := by
    unfold s2
    refine canon_foldl (fun s3 k h5 => ?_) h1
    extract_lets x4
    exact canon_objRecord h5
  have h6 : Canon x2 := canon_setObjs h2
  exact canon_ite (canon_hidden h1) (canon_hidden h6)

theorem canon_reseed {s : State} {r : Reseed} {blk : Nat} (h : Canon s) : Canon (s.reseed r blk) := by
  unfold State.reseed
  extract_lets s1 s2 s3
  have h1 : Canon s1 := canon_reseedObjs h
  have h2 : Canon s2 := canon_foldl (fun _ _ h3 => (canon_modSeam h3)) h1
  have h4 : Canon s3 := canon_foldl (fun _ _ h5 => (canon_put h5)) (canon_clearTiles h2)
  exact canon_foldl (fun _ _ h6 => (canon_setTk h6)) h4

theorem canon_shadowUnit {s : State} {kind : Nat} {bytes : List Byte} (h : Canon s) : Canon (s.shadowUnit kind bytes) :=
  canon_foldl (fun _ _ h1 => (canon_shadowSend h1)) h

theorem canon_sendSeed {s : State} (h : Canon s) : Canon s.sendSeed := by
  unfold State.sendSeed
  extract_lets r v
  exact canon_ite (canon_shadowUnit (canon_modResync h)) h

theorem canon_execStitchLineForm {s : State} (h : Canon s) : CanonOut (execStitchLineForm s) := by
  unfold execStitchLineForm
  extract_lets blk
  refine canonOut_ite ?_ ?_
  · exact canonOut_done h
  · refine canonOut_ite ?_ ?_
    · exact canonOut_done (canon_formLine h)
    · split
      · exact canonOut_done (canon_raise (canon_reseedEnd (canon_formLine (canon_stiBoundary (canon_reseed h)))))
      · exact canonOut_done (canon_raise (canon_formLine (canon_stiBoundary (canon_sendSeed h))))

theorem canon_execSeamRegistration {s : State} (h : Canon s) : CanonOut (execSeamRegistration s) := canonOut_done (canon_register h)

theorem canon_execSeamSeedWrite {k : Fin 11} {val : Word} {s : State} (h : Canon s) : CanonOut (execSeamSeedWrite k val s) := by
  unfold execSeamSeedWrite
  refine canonOut_ite ?_ ?_
  · exact canonOut_done (canon_seedWrite (canon_wakeBlock h))
  · exact canonOut_done h

theorem canon_execUmapFlip {s : State} (h : Canon s) : CanonOut (execUmapFlip s) := canonOut_done (canon_umapFlip (canon_wakeBlock h))

theorem canon_restart {s : State} {n blk : Nat} (h : Canon s) : Canon (s.restart n blk) := by
  unfold State.restart
  extract_lets us master crops x x2
  exact canon_modRegion (canon_hidden h)

theorem canon_newObjId {s : State} {b : Nat} (h : Canon s) : Canon (s.newObjId b).2 := by
  unfold State.newObjId
  split
  · extract_lets x
    exact canon_hidden h
  · exact canon_setObjNext h

theorem canon_nozConfirm {s : State} {recd : State → Nat → Nat → Nat → Nat → List Nat} {n i cnt id : Nat} (h : Canon s) :
    Canon (s.nozConfirm recd n i cnt id) := by
  unfold State.nozConfirm
  extract_lets fl full ws r
  refine canon_record ?_
  refine canon_incWrap ?_
  exact canon_setNz (canon_tkAdd h)

theorem canon_nozEval {s : State} {tabs : List BlkTab} {blk n i : Nat} (h : Canon s) : Canon (s.nozEval tabs blk n i) := by
  unfold State.nozEval
  extract_lets c nbr w minn col m old o
  split
  · extract_lets con var cand recd s1
    have h1 : Canon s1 := canon_record (canon_setNz (canon_newObjId h))
    clear_value cand old
    cases cand with
    | false =>
      cases old with
      | none => exact h
      | some e => exact canon_record (canon_setNz h)
    | true =>
      cases old with
      | none => exact canon_ite (canon_flag h) (canon_ite (canon_nozConfirm h1) h1)
      | some e => exact canon_ite (canon_setNz h) (canon_nozConfirm h)
  · exact h

theorem canon_nozMonitor {s : State} {tabs : List BlkTab} {blk : Nat} (h : Canon s) : Canon (s.nozMonitor tabs blk) :=
  canon_foldl (fun _ _ h1 => (canon_ite (canon_foldl (fun _ _ h2 => (canon_ite h2 (canon_nozEval h2))) h1) h1)) h

theorem canon_commitEnd {s : State} {b : Nat} (h : Canon s) : Canon (s.commitEnd b) := canon_ite (canon_nozMonitor h) h

theorem canon_nextBlock {s : State} {n : Nat} (h : Canon s) : Canon (s.nextBlock n) := by
  unfold State.nextBlock
  extract_lets r s1 s2
  have h1 : Canon s1 := canon_modRegion h
  have h2 : Canon s2 := canon_setFld h1
  exact canon_ite (canon_setReady h2) h2

theorem canon_commit {s : State} {n : Nat} {lost : Bool} (h : Canon s) : Canon (s.commit n lost) := by
  unfold State.commit
  extract_lets r c s1 pus x x2
  have h1 : Canon s1 := canon_setFld (canon_setFld h)
  exact canon_commitEnd (canon_nextBlock (canon_hidden h1))

theorem canon_loseBlock {s : State} {n cause : Nat} (h : Canon s) : Canon (s.loseBlock n cause) := by
  unfold State.loseBlock
  extract_lets b s1
  have h1 : Canon s1 := canon_fault (canon_incCnt (canon_flag h))
  exact canon_restart (canon_commit h1)

theorem canon_takeOffs {s : State} {n blk : Nat} (h : Canon s) : Canon (s.takeOffs n blk) := canon_ite h (canon_modRegion h)

theorem canon_modVu {s : State} {v : Nat} {f : VuS → VuS} (h : Canon s) : Canon (s.modVu v f) := by
  unfold State.modVu
  extract_lets x
  exact canon_hidden h

theorem canon_labelStep {s : State} {u : Place} {k lim : Nat} (h : Canon s) : Canon (s.labelStep u k lim) := by
  unfold State.labelStep
  split
  · extract_lets ps mask runs prev r s1
    have h1 : Canon s1 := canon_modVu h
    exact canon_ite h (canon_ite h1 (canon_addCnt (canon_flag h1)))
  · exact h

theorem canon_labelAhead {u : Place} {k lim f : Nat} {s : State} (h : Canon s) : Canon (labelAhead u k lim f s) := by
  induction f generalizing s with
  | zero => exact h
  | succ f ih => exact ih (canon_labelStep h)

theorem canon_cropRuns {s : State} {u : Place} {k y : Nat} {ws : List CropWin} (h : Canon s) : Canon (s.cropRuns u k y ws) := by
  unfold State.cropRuns
  extract_lets px runs x
  exact canon_hidden h

theorem canon_cropSend {s : State} {u : Place} {k y : Nat} {ws : List CropWin} (h : Canon s) : Canon (s.cropSend u k y ws) := by
  unfold State.cropSend
  extract_lets r l s1
  have h1 : Canon s1 := canon_ite (canon_modVu h) h
  exact canon_ite (canon_cropRuns h1) h1

theorem canon_cropStep {s : State} {u : Place} {k y : Nat} (h : Canon s) : Canon (s.cropStep u k y) := by
  unfold State.cropStep
  extract_lets w s1 s2
  have h1 : Canon s1 := canon_modVu h
  have h2 : Canon s2 := canon_ite (canon_ite (canon_flag h1) h1) h
  exact canon_ite h (canon_ite h2 (canon_cropSend h2))

theorem canon_outStep {s : State} {u : Place} {k y : Nat} (h : Canon s) : Canon (s.outStep u k y) := by
  unfold State.outStep
  extract_lets r send
  have h1 : ∀ {s1 l2}, Canon s1 → Canon (send s1 l2) := fun h2 => canon_modVu h2
  refine canon_ite ?_ ?_
  · exact canon_cropStep h
  · refine canon_ite ?_ ?_
    · split
      · exact canon_ite (h1 h) h
      · exact h
    · exact canon_ite (h1 h) h

theorem canon_addPartials {s : State} {rg : Nat} {ps : List Partial} (h : Canon s) : Canon (s.addPartials rg ps) := canon_modRegion h

theorem canon_accumStep {s : State} {u : Place} {k y : Nat} {accs : List Acc} (h : Canon s) : Canon (s.accumStep u k y accs) := by
  unfold State.accumStep
  extract_lets rg r att bank turn f0 labs de devs masks unions accs2 f1
  exact canon_modVu (canon_addPartials h)

theorem canon_addTable {s : State} {rg : Nat} {t : BlkTab} (h : Canon s) : Canon (s.addTable rg t) := canon_modRegion h

theorem canon_slotStep {s : State} {u : Place} {k y : Nat} (h : Canon s) : Canon (s.slotStep u k y) := by
  unfold State.slotStep
  split
  · exact h
  · extract_lets r rg last att a keep sh
    have h1 : ∀ {s1 x2}, Canon s1 → Canon (keep s1 x2) := fun h2 => canon_modVu h2
    split
    · exact h
    · exact h
    · exact canon_accumStep h
    · extract_lets n
      exact canon_ite (canon_addTable (h1 h)) (h1 h)
    · extract_lets n
      exact canon_ite (canon_addTable (h1 h)) (h1 h)
    · extract_lets n
      exact canon_ite (canon_addTable (h1 h)) (h1 h)
    · extract_lets n
      exact canon_ite (canon_addTable (h1 h)) (h1 h)

theorem canon_takeLine {s : State} {u : Place} {y : Nat} (h : Canon s) : Canon (s.takeLine u y) := by
  unfold State.takeLine
  extract_lets n k s1 s2 from_ s3 s4
  have h1 : Canon s1 := canon_takeOffs h
  have h2 : Canon s2 := canon_ite h1 (canon_takeOffs h1)
  have h3 : Canon s3 := canon_ite (canon_modVu h2) h2
  have h4 : Canon s4 := canon_ite h3 (canon_foldl (fun _ _ h5 => (canon_outStep (canon_slotStep (canon_ite (canon_labelAhead h5) h5)))) h3)
  exact canon_setFld (canon_modVu h4)

theorem canon_execVuLineProcess {vu : Fin 512} {ce : BitVec 8} {s : State} (h : Canon s) : CanonOut (execVuLineProcess vu ce s) := by
  unfold execVuLineProcess
  split
  · extract_lets n r s'
    have h1 : Canon s' := canon_ite h (canon_addCnt (canon_flag h))
    refine canonOut_ite ?_ ?_
    · exact canonOut_done h
    · refine canonOut_ite ?_ ?_
      · exact canonOut_done (canon_loseBlock h)
      · refine canonOut_ite ?_ ?_
        · exact canonOut_done h
        · exact canonOut_done (canon_takeLine (canon_wakeBlock h1))
  · exact canonOut_done h

theorem canon_setPuS {s : State} {p : PuS} (h : Canon s) : Canon (s.setPuS p) := by
  unfold State.setPuS
  extract_lets x
  exact canon_hidden h

theorem canon_setLoads {s : State} {n : Nat} {l : List LoadVu} (h : Canon s) : Canon (s.setLoads n l) := canon_modRegion h

theorem canon_degrade {s : State} {n v : Nat} (h : Canon s) : Canon (s.degrade n v) := by
  unfold State.degrade
  extract_lets fb s1 s2 s3
  have h1 : Canon s1 := canon_setFld (canon_setBit h)
  have h2 : Canon s2 := canon_fault (canon_flag h1)
  have h3 : Canon s3 := canon_modRegion h2
  exact canon_ite (canon_fatal h3) h3

theorem canon_replay {s : State} {n : Nat} (h : Canon s) : Canon (s.replay n) := by
  unfold State.replay
  extract_lets a s1
  have h1 : Canon s1 := canon_setBit (canon_flag (canon_setFld h))
  exact canon_ite (canon_loseBlock h) (canon_ite (canon_loseBlock h) (canon_restart (canon_incCnt h1)))

theorem canon_retireVu {s : State} {pu : Nat} {v : Option Nat} {cause : Nat} (h : Canon s) : Canon (s.retireVu pu v cause) := by
  unfold State.retireVu
  extract_lets n blk s1 v2 ls next s2 s3
  have h1 : Canon s1 := canon_incCnt (canon_flag (canon_setFld h))
  have h2 : Canon s2 := canon_ite (canon_flag h1) h1
  have h3 : Canon s3 := canon_fault h2
  clear_value v2 next
  split
  · exact h3
  · exact canon_setLoads h3
  · exact canon_ite (canon_replay (canon_degrade (canon_setLoads h3))) (canon_degrade (canon_setLoads h3))

theorem canon_vuFault {s : State} {pu cause : Nat} {word : Option Nat} (h : Canon s) : Canon (s.vuFault pu cause word) := by
  unfold State.vuFault
  extract_lets n v blk att s1 st s2 p p2 same p3 f s3
  have h1 : Canon s1 := canon_ite (canon_incCnt (canon_flag h)) (canon_ite (canon_flag h) (canon_ite (canon_incCnt (canon_flag h)) h))
  have h2 : Canon s2 := canon_setFld h1
  have h3 : Canon s3 := canon_setPuS (canon_setFld h2)
  exact canon_ite h (canon_ite (canon_retireVu h3) (canon_replay (canon_fault h3)))

theorem canon_execVuFault {pu : Fin 576} {kind : Fin 3} {word : BitVec 14} {s : State} (h : Canon s) : CanonOut (execVuFault pu kind word s) := by
  unfold execVuFault
  refine canonOut_ite ?_ ?_
  · exact canonOut_done (canon_vuFault h)
  · exact canonOut_done h

theorem canon_execVuWatchdog {vu : Fin 512} {s : State} (h : Canon s) : CanonOut (execVuWatchdog vu s) := by
  unfold execVuWatchdog
  refine canonOut_ite ?_ ?_
  · exact canonOut_done (canon_vuFault h)
  · exact canonOut_done h

theorem canon_spareLoaded {s : State} {n : Nat} (h : Canon s) : Canon (s.spareLoaded n) := by
  unfold State.spareLoaded
  split
  · exact h
  · extract_lets j old blk cause s1 s2 s3
    have h1 : Canon s1 := by
      unfold s1
      refine canon_ite ?_ ?_
      · split
        · exact canon_setFld h
        · exact h
      · exact canon_setFld (canon_setFld h)
    have h2 : Canon s2 := canon_setLoads (canon_setFld h1)
    have h3 : Canon s3 := canon_fault h2
    exact canon_ite h3 (canon_replay h3)

theorem canon_execSpareLoadDone {n : Fin 8} {s : State} (h : Canon s) : CanonOut (execSpareLoadDone n s) := canonOut_done (canon_spareLoaded h)

theorem canon_execRetireWindowClose {pu : Fin 576} {s : State} (h : Canon s) : CanonOut (execRetireWindowClose pu s) := by
  unfold execRetireWindowClose
  extract_lets p
  refine canonOut_ite ?_ ?_
  · exact canonOut_done (canon_setPuS (canon_setFld h))
  · exact canonOut_done h

theorem canon_execReplayCaughtUp {n : Fin 8} {s : State} (h : Canon s) : CanonOut (execReplayCaughtUp n s) := by
  unfold execReplayCaughtUp
  refine canonOut_ite ?_ ?_
  · exact canonOut_done (canon_setBit h)
  · exact canonOut_done h

theorem canon_execBlockCommit {n : Fin 8} {s : State} (h : Canon s) : CanonOut (execBlockCommit n s) := by
  unfold execBlockCommit
  extract_lets b us
  refine canonOut_ite ?_ ?_
  · exact canonOut_done h
  · exact canonOut_done (canon_commit (canon_wakeBlock h))

theorem canon_tileUpdate {s : State} {t : TileTab} (h : Canon s) : Canon (s.tileUpdate t) := by
  unfold State.tileUpdate
  extract_lets fx fy ax ay minN step k lim put f at_ axis u v c
  have h1 : ∀ {s1 x2 y2 st2}, Canon s1 → Canon (put s1 x2 y2 st2) := fun h2 => canon_setFld (canon_setSfld (canon_setSfld h2))
  exact canon_ite (h1 h) (canon_ite (canon_flag (h1 h)) (canon_flag (h1 h)))

theorem canon_tilesResolve {s : State} {b : Nat} {cs : List Commit} (h : Canon s) : Canon (s.tilesResolve b cs) := by
  unfold State.tilesResolve
  extract_lets banks tabs ids
  refine canon_ite ?_ ?_
  · exact h
  · refine canon_foldl (fun s1 k h3 => ?_) h
    split
    · exact h3
    · exact canon_tileUpdate h3

theorem canon_newObjs {s : State} {live b : Nat} {cs : List Comp} (h : Canon s) : Canon (s.newObjs live b cs).2 := by
  unfold State.newObjs
  extract_lets os sorted
  exact canon_foldl_snd (fun _ _ h1 => (canon_ite_snd (canon_incCnt (canon_flag h1)) (canon_newObjId h1))) h

theorem canon_cropInto {s : State} {l : List (Nat × Nat)} (h : Canon s) : Canon (s.cropInto l) := by
  unfold State.cropInto
  extract_lets x
  exact canon_hidden h

theorem canon_lateCrops {s : State} {n : Nat} {p : Place × Nat → State → State} (hp : ∀ e s, Canon s → Canon (p e s)) (h : Canon s) :
    Canon (s.lateCrops n p) := by
  refine canon_foldl (fun s1 v h1 => ?_) h
  split
  · exact h1
  · exact canon_foldl (fun _ _ h2 => canon_ite (hp _ _ h2) h2) h1

theorem canon_cropBlock {s : State} {b : Nat} {l : List (Nat × Nat × Nat × Nat × Nat)} (h : Canon s) : Canon (s.cropBlock b l) := by
  refine canon_foldl (fun s1 n h1 => canon_ite h1 (canon_lateCrops (fun e s2 h2 => ?_) h1)) h
  exact canon_foldl (fun _ _ h3 => canon_ite (canon_cropSend h3) h3) (canon_ite (canon_flag h2) h2)

theorem canon_cropResolve {s : State} {b : Nat} {l : List (Obj × Acc)} (h : Canon s) : Canon (s.cropResolve b l) := by
  unfold State.cropResolve
  extract_lets want s1 quiet
  have h1 : Canon s1 := canon_cropBlock h
  exact canon_ite h (canon_ite (canon_flag h1) h1)

theorem canon_objPost {s : State} {o : Obj} (h : Canon s) : Canon (s.objPost o).2 := by
  unfold State.objPost
  extract_lets r x
  exact canon_ite_snd (canon_objRecord h) (canon_ite_snd (canon_objRecord h) h)

theorem canon_segResolve {s : State} {b : Nat} (h : Canon s) : Canon (s.segResolve b) := by
  unfold State.segResolve
  extract_lets cs gone live x s1 s2 comps old fresh s3 uni merged s4 boxes s5 todo r s6 x2
  have h1 : Canon s1 := canon_hidden h
  have h2 : Canon s2 := canon_tilesResolve h1
  have h3 : Canon fresh.2 := canon_newObjs h2
  have h4 : Canon s3 := canon_setFld h3
  have h5 : Canon s4 := canon_cropInto h4
  have h6 : Canon s5 := canon_cropResolve h5
  have h7 : Canon r.2 := by
    unfold r
    refine canon_foldl_snd (fun s7 k h10 => ?_) h6
    split
    · exact canon_objRecord h10
    · refine canon_ite ?_ ?_
      · exact canon_objRecord h10
      · exact h10
    · extract_lets p
      exact canon_objPost h10
  have h12 : Canon s6 := canon_setObjs h7
  exact canon_hidden h12

theorem canon_execSegResolve {s : State} (h : Canon s) : CanonOut (execSegResolve s) := by
  unfold execSegResolve
  extract_lets b
  refine canonOut_ite ?_ ?_
  · exact canonOut_done (canon_segResolve h)
  · exact canonOut_done h

theorem canon_execSpillDrain {s : State} (h : Canon s) : CanonOut (execSpillDrain s) := canonOut_done (canon_drainSpill h)

theorem canon_execEthGatherTimer {port : Fin 2} {s : State} (h : Canon s) : CanonOut (execEthGatherTimer port s) := canonOut_done (canon_closeGather h)

theorem canon_tileRead {s : State} {index base tile : Nat} (h : Canon s) : Canon (s.tileRead index base tile) := by
  unfold State.tileRead
  extract_lets e a len s'
  have h1 : Canon s' := canon_ddrRead h
  exact canon_ite h (canon_ite h1 (canon_ddrRead h1))

theorem canon_execMasterFetch {bankB : Bool} {idx : Fin 4} {tile : BitVec 24} {block : BitVec 32} {s : State} (h : Canon s) : CanonOut (execMasterFetch
    bankB idx tile block s) := by
  unfold execMasterFetch
  split
  · exact canonOut_done h
  · extract_lets t d lack e s' s'2 x s'3
    have h1 : Canon s' := canon_tileRead (canon_wakeBlock h)
    have h2 : Canon s'2 := canon_ite h1 (canon_tileRead h1)
    have h3 : Canon s'3 := canon_hidden h2
    refine canonOut_ite ?_ ?_
    · exact canonOut_done h
    · refine canonOut_ite ?_ ?_
      · exact canonOut_done h
      · refine canonOut_ite ?_ ?_
        · exact canonOut_done (canon_incWrap h3)
        · exact canonOut_done (canon_fault (canon_incCnt (canon_flag h3)))

end Sys2Proof.Machine
end

section
/-!
PROOFS. Canonical stores: the print ports, the takeover tables and the area cameras (SPEC, 11_area_cameras.md).
-/
set_option Elab.async false

namespace Sys2Proof.Machine

theorem canon_execFirePulseEnd {n : Fin 8} {s : State} (h : Canon s) : CanonOut (execFirePulseEnd n s) := by
  unfold execFirePulseEnd
  refine canonOut_ite ?_ ?_
  · exact canonOut_done (canon_emit (canon_modPrt h))
  · exact canonOut_done h

theorem canon_execWaveWindowEnd {n : Fin 8} {s : State} (h : Canon s) : CanonOut (execWaveWindowEnd n s) := canonOut_done (canon_modPrt h)

theorem canon_execLatchPulse {n : Fin 8} {s : State} (h : Canon s) : CanonOut (execLatchPulse n s) := by
  unfold execLatchPulse
  extract_lets p
  split
  · extract_lets ws s'
    have h1 : Canon s' := canon_modPrt h
    refine canonOut_ite ?_ ?_
    · exact canonOut_done (canon_emit (canon_setFld h1))
    · exact canonOut_done h
  · exact canonOut_done h

theorem canon_execLatchPulseEnd {n : Fin 8} {s : State} (h : Canon s) : CanonOut (execLatchPulseEnd n s) := canonOut_done (canon_startShift (canon_modPrt h))

theorem canon_execShiftDone {n : Fin 8} {s : State} (h : Canon s) : CanonOut (execShiftDone n s) := by
  unfold execShiftDone
  extract_lets p
  split
  · exact canonOut_done (canon_modPrt h)
  · exact canonOut_done h

theorem canon_leaveHot {s : State} {n : Nat} (h : Canon s) : Canon (s.leaveHot n) := canon_updHp (canon_modPrt (canon_setFld h))

theorem canon_endLine {s : State} {n : Nat} (h : Canon s) : Canon (s.endLine n) := by
  unfold State.endLine
  extract_lets p s1
  have h1 : Canon s1 := canon_modPrt h
  split
  · exact canon_ite (canon_ite (canon_leaveHot h1) (canon_modPrt h1)) h1
  · exact h1

theorem canon_execLineCycleEnd {n : Fin 8} {s : State} (h : Canon s) : CanonOut (execLineCycleEnd n s) := by
  unfold execLineCycleEnd
  refine canonOut_ite ?_ ?_
  · exact canonOut_done (canon_raise (canon_endLine h))
  · exact canonOut_done h

theorem canon_execPrintFetchDone {n : Fin 8} {s : State} (h : Canon s) : CanonOut (execPrintFetchDone n s) := by
  unfold execPrintFetchDone
  extract_lets s' noz len
  have h1 : Canon s' := canon_prune h
  refine canonOut_ite ?_ ?_
  · split
    · extract_lets a l
      exact canonOut_done (canon_startShift (canon_modPrt (canon_ddrRead h1)))
    · exact canonOut_done h1
  · exact canonOut_done h

theorem canon_execHeatOkAccept {n : Fin 8} {level : Bool} {s : State} (h : Canon s) : CanonOut (execHeatOkAccept n level s) := by
  unfold execHeatOkAccept
  extract_lets s' h2
  have h1 : Canon s' := canon_modPrt h
  refine canonOut_ite ?_ ?_
  · exact canonOut_done h
  · refine canonOut_ite ?_ ?_
    · refine canonOut_ite ?_ ?_
      · exact canonOut_done (canon_ite (canon_leaveHot h1) (canon_modPrt h1))
      · exact canonOut_done h1
    · exact canonOut_done (canon_raise (canon_ite (canon_enterHot h1) h1))

theorem canon_execTakeoverAdd {n : Fin 8} {nozzle : BitVec 12} {s : State} (h : Canon s) : CanonOut (execTakeoverAdd n nozzle s) := by
  unfold execTakeoverAdd
  refine canonOut_ite ?_ ?_
  · exact canonOut_done (canon_tkAddCmd h)
  · exact canonOut_done h

theorem canon_execTakeoverRemove {n : Fin 8} {nozzle : BitVec 12} {s : State} (h : Canon s) : CanonOut (execTakeoverRemove n nozzle s) := by
  unfold execTakeoverRemove
  refine canonOut_ite ?_ ?_
  · exact canonOut_done (canon_tkRemoveCmd h)
  · exact canonOut_done h

theorem canon_setPpVs {s : State} {p : Nat} {v : Option Bool} (h : Canon s) : Canon (s.setPpVs p v) := by
  unfold State.setPpVs
  extract_lets x
  exact canon_hidden h

theorem canon_execFrameStart {p : Fin 2} {s : State} (h : Canon s) : CanonOut (execFrameStart p s) := by
  unfold execFrameStart
  extract_lets n s' seq s'2 buf
  have h1 : Canon s' := canon_raise h
  have h2 : Canon s'2 := canon_incWrap h1
  refine canonOut_ite ?_ ?_
  · exact canonOut_done h
  · clear_value buf
    split
    · exact canonOut_done (canon_incCnt (canon_flag (canon_setPpVs h2)))
    · extract_lets fr s'3 x
      have h3 : Canon s'3 := canon_flag (canon_setPpVs h2)
      exact canonOut_done (canon_hidden h3)

theorem canon_execPpLineEnd {p : Fin 2} {pix : List (BitVec 16)} {qFull : Bool} {s : State} (h : Canon s) : CanonOut (execPpLineEnd p pix qFull s) := by
  unfold execPpLineEnd
  extract_lets n x
  split
  · exact canonOut_done h
  · extract_lets bad px bpp a s' upd x2 s'2 s'3
    have h1 : Canon s' := canon_ite (canon_memStore h) h
    have h2 : Canon s'2 := canon_hidden h1
    have h3 : Canon s'3 := canon_ite (canon_flag h2) h2
    refine canonOut_ite ?_ ?_
    · exact canonOut_done (canon_flag (canon_hidden h))
    · exact canonOut_done (canon_ite (canon_flag h3) h3)

theorem canon_execFrameEnd {p : Fin 2} {s : State} (h : Canon s) : CanonOut (execFrameEnd p s) := by
  unfold execFrameEnd
  extract_lets n s' x
  have h1 : Canon s' := canon_setPpVs h
  split
  · exact canonOut_done h1
  · extract_lets short s'2 s'3
    have h2 : Canon s'2 := canon_hidden h1
    have h3 : Canon s'3 := canon_ite (canon_flag h2) h2
    exact canonOut_done (canon_ite (canon_incCnt h3) h3)

theorem canon_execIspFrameTakeup {s : State} (h : Canon s) : CanonOut (execIspFrameTakeup s) := by
  unfold execIspFrameTakeup
  refine canonOut_ite ?_ ?_
  · exact canonOut_done h
  · split
    · exact canonOut_done h
    · extract_lets c s' s'2 full x s'3 s'4
      have h1 : Canon s' := canon_ite (canon_setFld (canon_setFld h)) h
      have h2 : Canon s'2 := canon_ispSlot h1
      have h3 : Canon s'3 := canon_hidden h2
      have h4 : Canon s'4 := canon_ite (canon_flag h3) h3
      exact canonOut_done (canon_setFld (canon_flag h4))

theorem canon_execIspFrameDone {s : State} (h : Canon s) : CanonOut (execIspFrameDone s) := by
  unfold execIspFrameDone
  split
  · exact canonOut_done h
  · extract_lets c ds w0 h0 e w h2 tiny clip skip ns wr slot hdr base rd put s' s'2 s'3 x s'4
    have h1 : Canon rd := canon_ddrRead h
    have h2 : ∀ {st2 p2}, Canon st2 → Canon (put st2 p2) := fun h3 => canon_ite (canon_memStore h3) h3
    have h4 : Canon s' := canon_ite h (canon_setFld (canon_foldl (fun _ _ h5 => (h2 h5)) (h2 h1)))
    have h6 : Canon s'2 := canon_ite (canon_flag h4) h4
    have h7 : Canon s'3 := canon_setFld (canon_setFld h6)
    have h8 : Canon s'4 := canon_hidden h7
    refine canonOut_ite ?_ ?_
    · exact canonOut_done h
    · exact canonOut_done (canon_postOrDrop h8)

theorem canon_execIspCropWrite {c : Fin 4} {second : Bool} {val : Word} {s : State} (h : Canon s) : CanonOut (execIspCropWrite c second val s) :=
  canonOut_done (canon_ispCrop (canon_wakeBlock h))

end Sys2Proof.Machine
end

section
/-!
PROOFS. Canonical stores: time, the calendar and the sensor filters (SPEC, 12_time_and_calendar.md, 13_sensor_filter_chain.md).
-/
set_option Elab.async false

namespace Sys2Proof.Machine

theorem canon_runEdges {f k : Nat} {s : State} (h : Canon s) : Canon (runEdges f k s) := by
  induction f generalizing s k with
  | zero => exact canon_edgeEffects (canon_tsEdges h)
  | succ f ih =>
    have hedge : ∀ {d}, Canon ((s.tsEdges d).edgeEffects s.ns) := canon_edgeEffects (canon_tsEdges h)
    exact canon_ite (canon_tsEdges h) (canon_ite hedge (ih hedge))

theorem canon_toMultiple {s : State} {u : Nat} (h : Canon s) : Canon (s.toMultiple u) := by
  unfold State.toMultiple
  extract_lets s1
  have h1 : Canon s1 := canon_seedEdge h
  exact canon_runEdges h1

theorem canon_execTsWrap {s : State} (h : Canon s) : CanonOut (execTsWrap s) := by
  unfold execTsWrap
  refine canonOut_ite ?_ ?_
  · exact canonOut_done (canon_toMultiple h)
  · exact canonOut_done h

theorem canon_execTsPps {s : State} (h : Canon s) : CanonOut (execTsPps s) := by
  unfold execTsPps
  refine canonOut_ite ?_ ?_
  · exact canonOut_done (canon_toMultiple h)
  · exact canonOut_done h

theorem canon_execTimeAdjEnd {s : State} (h : Canon s) : CanonOut (execTimeAdjEnd s) := by
  unfold execTimeAdjEnd
  refine canonOut_ite ?_ ?_
  · exact canonOut_done (canon_runEdges (canon_seedEdge h))
  · exact canonOut_done h

theorem canon_execTimeRateWrite {val : Word} {s : State} (h : Canon s) : CanonOut (execTimeRateWrite val s) := canonOut_done (canon_rateWrite h)

theorem canon_execTimeAdjTicksWrite {val : Word} {s : State} (h : Canon s) : CanonOut (execTimeAdjTicksWrite val s) := canonOut_done (canon_adjTicksWrite h)

theorem canon_execTimeNowRead {s : State} (h : Canon s) : CanonOut (execTimeNowRead s) := canonOut_done (canon_nowRead h)

theorem canon_execTsSeed {s : State} (h : Canon s) : CanonOut (execTsSeed s) := by
  unfold execTsSeed
  refine canonOut_ite ?_ ?_
  · exact canonOut_done (canon_rtcTick h)
  · exact canonOut_done h

theorem canon_execTimeStep {hi : Word} {s : State} (h : Canon s) : CanonOut (execTimeStep hi s) := canonOut_done (canon_stepHiWrite h)

theorem canon_execTimeStepFromUp {s : State} (h : Canon s) : CanonOut (execTimeStepFromUp s) := canonOut_done (canon_stepFromUp h)

theorem canon_freeStamp {s : State} (h : Canon s) : Canon s.freeStamp.2 := by
  unfold State.freeStamp
  extract_lets a b c
  have h2 : Canon b.2 := by
    unfold b
    exact canon_free (canon_free h)
  exact canon_free h2

theorem canon_execEthRx {port : Fin 2} {frame : List Byte} {fcsOk : Bool} {s : State} (h : Canon s) : CanonOut (execEthRx port frame fcsOk s) := by
  unfold execEthRx
  extract_lets p d multi ok ev st
  refine canonOut_ite ?_ ?_
  · exact canonOut_done h
  · refine canonOut_ite ?_ ?_
    · exact canonOut_done (canon_incCnt h)
    · refine canonOut_ite ?_ ?_
      · exact canonOut_done (canon_incCnt h)
      · refine canonOut_ite ?_ ?_
        · exact canonOut_done h
        · refine canonOut_done ?_
          exact canon_postOrDrop (canon_ite_snd h (canon_freeStamp h))

theorem canon_sendFrame {s : State} {p : Nat} {e : LaunchE} {t : Nat} {late : Bool} (h : Canon s) : Canon (s.sendFrame p e t late) := by
  unfold State.sendFrame
  extract_lets x s1 f f2 f3 s2 st
  have h1 : Canon s1 := canon_hidden h
  have h2 : Canon s2 := canon_emit h1
  split
  · exact h2
  · exact canon_finish h2

theorem canon_sendNow {s : State} {p : Nat} {e : LaunchE} {late : Bool} (h : Canon s) : Canon (s.sendNow p e late) := canon_sendFrame h

theorem canon_ethTx {s : State} {q : Nat} {hd : PktHdr} {key : Nat} {bytes : List Byte} (h : Canon s) : Canon (s.ethTx q hd key bytes) := by
  unfold State.ethTx
  extract_lets p one e l x
  exact canon_ite (canon_ite (canon_finish h) (canon_ite (canon_sendNow h) (canon_hidden h))) (canon_ite (canon_finish (canon_launchDrop h)) (canon_ite
      (canon_finish (canon_launchDrop h)) (canon_setLaunch h)))

theorem canon_execEthTx {q : Fin 32} {pkt : List Byte} {s : State} (h : Canon s) : CanonOut (execEthTx q pkt s) :=
  canonOut_done (canon_packet (fun _ _ h1 => canon_ethTx h1) h)

theorem canon_releaseHeld {p k : Nat} {s : State} (h : Canon s) : Canon (releaseHeld p k s) := by
  induction k generalizing s with
  | zero => exact h
  | succ k ih =>
    unfold releaseHeld
    split
    · exact h
    · exact canon_ite (ih (canon_sendNow (canon_hidden h))) h

theorem canon_lateFrame {s : State} {p : Nat} {e : LaunchE} (h : Canon s) : Canon (s.lateFrame p e) := by
  unfold State.lateFrame
  extract_lets s1 s2
  have h1 : Canon s1 := canon_incCnt (canon_flag h)
  have h2 : Canon s2 := canon_incCnt (canon_flag h)
  refine canon_ite ?_ ?_
  · split
    · exact canon_finish h1
    · exact h1
  · exact canon_sendNow h2

theorem canon_launch {s : State} {p : Nat} (h : Canon s) : Canon (s.launch p) := by
  unfold State.launch
  split
  · exact h
  · extract_lets free late drop s' r
    have h1 : Canon s' := canon_setLaunch h
    refine canon_ite ?_ ?_
    · exact h
    · refine canon_ite ?_ ?_
      · exact canon_ite (canon_lateFrame h1) h
      · refine canon_ite ?_ ?_
        · exact canon_lateFrame h1
        · refine canon_ite ?_ ?_
          · exact h
          · refine canon_ite ?_ ?_
            · exact canon_lateFrame h1
            · refine canon_ite ?_ ?_
              · exact canon_sendNow h1
              · exact canon_sendFrame (canon_free h1)

theorem canon_execLaunch {port : Fin 2} {s : State} (h : Canon s) : CanonOut (execLaunch port s) := canonOut_done (canon_releaseHeld (canon_launch h))

theorem canon_execTimeReqSend {s : State} (h : Canon s) : CanonOut (execTimeReqSend s) := by
  unfold execTimeReqSend
  extract_lets age x s' s'2 p q x2 s'3
  have h1 : Canon s' := canon_hidden h
  have h2 : Canon s'2 := canon_ite (canon_setFld h1) h1
  have h3 : Canon s'3 := canon_hidden h2
  refine canonOut_ite ?_ ?_
  · exact canonOut_done h2
  · exact canonOut_done (canon_nimCtrl h3)

theorem canon_upLost {s : State} (h : Canon s) : Canon s.upLost := canon_incCnt (canon_flag h)

theorem canon_upResp {s : State} {pl : List Byte} (h : Canon s) : Canon (s.upResp pl) := by
  unfold State.upResp
  extract_lets t1 t2 t3 t4 spoil x s1 ofs dly s2
  have h1 : Canon s1 := canon_hidden h
  have h2 : Canon s2 := canon_putN (canon_putN (canon_putN h1))
  exact canon_ite (canon_upLost h1) (canon_flag (canon_incWrap h2))

theorem canon_execTimeFrame {port : Fin 4} {payload : List Byte} {ack : Option (BitVec 12)} {old : State} (h : Canon old) : CanonOut (execTimeFrame port
    payload ack old) := by
  unfold execTimeFrame
  extract_lets p s1 kind seq
  have h1 : Canon s1 := canon_ite (canon_npAck h) h
  refine canonOut_ite ?_ ?_
  · exact canonOut_done h1
  · refine canonOut_ite ?_ ?_
    · exact canonOut_done (canon_nimCtrl h1)
    · refine canonOut_ite ?_ ?_
      · exact canonOut_done (canon_upResp h1)
      · exact canonOut_done h1

theorem canon_execTimeExchangeTimeout {s : State} (h : Canon s) : CanonOut (execTimeExchangeTimeout s) := by
  unfold execTimeExchangeTimeout
  extract_lets w x
  refine canonOut_ite ?_ ?_
  · exact canonOut_done h
  · exact canonOut_done (canon_upLost (canon_hidden h))

theorem canon_execRtcSet {s : State} (h : Canon s) : CanonOut (execRtcSet s) := canonOut_done (canon_status (canon_flag h))

theorem canon_execRtcSetApply {s : State} (h : Canon s) : CanonOut (execRtcSetApply s) := by
  unfold execRtcSetApply
  refine canonOut_ite ?_ ?_
  · exact canonOut_done (canon_rtcTick h)
  · exact canonOut_done h

theorem canon_execRtcSync {s : State} (h : Canon s) : CanonOut (execRtcSync s) := canonOut_done (canon_status (canon_flag h))

theorem canon_execRtcTrim {s : State} (h : Canon s) : CanonOut (execRtcTrim s) := by
  unfold execRtcTrim
  extract_lets x
  exact canonOut_done (canon_rtcTick (canon_hidden h))

theorem canon_execOscStop {s : State} (h : Canon s) : CanonOut (execOscStop s) := canonOut_done (canon_setReady (canon_setFld (canon_flag h)))

theorem canon_execVbatLoss {s : State} (h : Canon s) : CanonOut (execVbatLoss s) := by
  unfold execVbatLoss
  extract_lets s' x
  have h1 : Canon s' := canon_flag (canon_foldl (fun _ _ h2 => (canon_putN h2)) h)
  exact canonOut_done (canon_hidden h1)

theorem canon_stageOut {s : State} {n i sh : Nat} {v : Int} (h : Canon s) : Canon (s.stageOut n i sh v).2 := by
  unfold State.stageOut
  extract_lets r y f
  exact canon_ite_snd h (canon_incCnt (canon_setFld h))

theorem canon_sdfEmit {s : State} {n : Nat} {v : Int} {tLast : Nat} (h : Canon s) : Canon (s.sdfEmit n v tLast) := by
  unfold State.sdfEmit
  extract_lets per corr st c s1 s2
  have h1 : Canon s1 := canon_setSdfCh h
  have h2 : Canon s2 := canon_putN (canon_putN h1)
  exact canon_ite h (canon_setFld (canon_incWrap h2))

theorem canon_firStage {s : State} {n : Nat} {x : Int × Bool} {tLast : Nat} (h : Canon s) : Canon (s.firStage n x tLast) := by
  unfold State.firStage
  extract_lets c nt h2 fd s1 taps y r
  have h1 : Canon s1 := canon_setSdfCh h
  refine canon_ite ?_ ?_
  · exact canon_setSdfCh h
  · refine canon_ite ?_ ?_
    · exact canon_sdfEmit (canon_stageOut h1)
    · exact canon_stageOut h1

theorem canon_afterHalf {s : State} {n : Nat} {x : Int × Bool} {tLast : Nat} (h : Canon s) : Canon (s.afterHalf n x tLast) :=
  canon_ite (canon_firStage h) (canon_ite (canon_sdfEmit h) h)

theorem canon_half2 {s : State} {n : Nat} {x : Int × Bool} {tLast : Nat} (h : Canon s) : Canon (s.half2 n x tLast) := by
  unfold State.half2
  extract_lets c h2 s1 r
  have h1 : Canon s1 := canon_setSdfCh h
  refine canon_ite ?_ ?_
  · exact canon_afterHalf h
  · refine canon_ite ?_ ?_
    · exact canon_setSdfCh h
    · exact canon_afterHalf (canon_stageOut h1)

theorem canon_half1 {s : State} {n : Nat} {x : Int × Bool} {tLast : Nat} (h : Canon s) : Canon (s.half1 n x tLast) := by
  unfold State.half1
  extract_lets c h2 s1 r
  have h1 : Canon s1 := canon_setSdfCh h
  refine canon_ite ?_ ?_
  · exact canon_afterHalf h
  · refine canon_ite ?_ ?_
    · exact canon_setSdfCh h
    · exact canon_half2 (canon_stageOut h1)

theorem canon_sdfBit {s : State} {n : Nat} {x : Bool} {tLast : Nat} (h : Canon s) : Canon (s.sdfBit n x tLast) := by
  unfold State.sdfBit
  extract_lets c v k m h2 s1 r
  have h1 : Canon s1 := canon_setSdfCh h
  refine canon_ite ?_ ?_
  · exact canon_setSdfCh h
  · exact canon_half1 (canon_stageOut h1)

theorem canon_sdfBits {s : State} {n : Nat} {l : List Bool} (h : Canon s) : Canon (sdfBits s n l) := by
  induction l generalizing s with
  | nil => exact h
  | cons x xs ih => exact ih (canon_sdfBit h)

theorem canon_execSdfSample {n : Fin 16} {bits : List Bool} {s : State} (h : Canon s) : CanonOut (execSdfSample n bits s) := by
  unfold execSdfSample
  extract_lets g
  refine canonOut_ite ?_ ?_
  · exact canonOut_done (canon_sdfBits h)
  · exact canonOut_done h

theorem canon_execSdfPeriodUpdate {g : Fin 4} {per : Word} {s : State} (h : Canon s) : CanonOut (execSdfPeriodUpdate g per s) := by
  unfold execSdfPeriodUpdate
  extract_lets s' s'2
  have h1 : Canon s' := canon_flag (canon_put h)
  have h2 : Canon s'2 := canon_ite (canon_flag h1) h1
  refine canonOut_ite ?_ ?_
  · exact canonOut_done h
  · exact canonOut_done (canon_updSdf h2)

theorem canon_execSdfClockLost {g : Fin 4} {s : State} (h : Canon s) : CanonOut (execSdfClockLost g s) := by
  unfold execSdfClockLost
  extract_lets s' s'2
  have h1 : Canon s' := canon_putN (canon_flag (canon_setFld h))
  have h2 : Canon s'2 := canon_foldl (fun _ _ h3 => (canon_setFld h3)) h1
  refine canonOut_ite ?_ ?_
  · exact canonOut_done h
  · exact canonOut_done (canon_updSdf (canon_setGone h2))

theorem canon_execSdfClockReturn {g : Fin 4} {s : State} (h : Canon s) : CanonOut (execSdfClockReturn g s) := by
  unfold execSdfClockReturn
  refine canonOut_ite ?_ ?_
  · exact canonOut_done h
  · exact canonOut_done (canon_setGone (canon_clearSync (canon_sdfResetGroup (canon_putN h))))

theorem canon_execSdfFsync {rising joined : Bool} {s : State} (h : Canon s) : CanonOut (execSdfFsync rising joined s) := by
  unfold execSdfFsync
  refine canonOut_ite ?_ ?_
  · exact canonOut_done (canon_sdfSync h)
  · exact canonOut_done h

theorem canon_execSwSync {joined : Bool} {s : State} (h : Canon s) : CanonOut (execSwSync joined s) := by
  unfold execSwSync
  extract_lets s'
  have h1 : Canon s' := canon_wakeBlock h
  exact canonOut_done (canon_status (canon_ite h1 (canon_sdfSync h1)))

theorem canon_execSdfSyncApply {g : Fin 4} {s : State} (h : Canon s) : CanonOut (execSdfSyncApply g s) := by
  unfold execSdfSyncApply
  refine canonOut_ite ?_ ?_
  · exact canonOut_done (canon_sdfResetGroup (canon_clearSync h))
  · exact canonOut_done h

theorem canon_execSdfChannelEnable {n : Fin 16} {val : BitVec 18} {s : State} (h : Canon s) : CanonOut (execSdfChannelEnable n val s) := by
  unfold execSdfChannelEnable
  refine canonOut_ite ?_ ?_
  · exact canonOut_done (canon_sdfCtlWrite (canon_wakeBlock h))
  · exact canonOut_done h

theorem canon_execSdfChannelDisable {n : Fin 16} {val : BitVec 18} {s : State} (h : Canon s) : CanonOut (execSdfChannelDisable n val s) := by
  unfold execSdfChannelDisable
  refine canonOut_ite ?_ ?_
  · exact canonOut_done (canon_sdfCtlWrite (canon_wakeBlock h))
  · exact canonOut_done h

end Sys2Proof.Machine
end

section
/-!
PROOFS. Canonical stores: DDR-4, DMA and the host's packets (SPEC, 14_ddr_memory.md, 15_dma_compression.md, 16_host_packets.md).
-/
set_option Elab.async false

namespace Sys2Proof.Machine

theorem canon_execDdrRequest {a : BitVec 38} {wr : Option (List Byte)} {ofs : Fin 64} {who : DdrWho} {err : Fin 3} {syn : BitVec 8} {s : State} (h : Canon
    s) : CanonOut (execDdrRequest a wr ofs who err syn s) := by
  unfold execDdrRequest
  extract_lets line s' l r
  have h1 : Canon s' := by
    unfold s'
    split
    · extract_lets o
      exact canon_ite h (canon_rtLevel h)
    · exact h
    · exact h
    · exact h
    · exact h
  refine canonOut_ite ?_ ?_
  · exact canonOut_done h1
  · exact canonOut_done (canon_modDmc h1)

theorem canon_execRowCopyDone {c : Fin 8} {s : State} (h : Canon s) : CanonOut (execRowCopyDone c s) := by
  unfold execRowCopyDone
  split
  · exact canonOut_done h
  · refine canonOut_ite ?_ ?_
    · exact canonOut_done h
    · exact canonOut_done (canon_modDmc h)

theorem canon_execRankCopyDone {c : Fin 8} {s : State} (h : Canon s) : CanonOut (execRankCopyDone c s) := by
  unfold execRankCopyDone
  extract_lets n
  refine canonOut_ite ?_ ?_
  · exact canonOut_done h
  · exact canonOut_done (canon_ddrFault (canon_modDmc (canon_flag (canon_setFld h))))

theorem canon_execDmcConfigDone {nch8 : Bool} {s : State} (h : Canon s) : CanonOut (execDmcConfigDone nch8 s) := canonOut_done (canon_dmcCfgWrite h)

theorem canon_execDmcInit {c : Fin 8} {val : Word} {s : State} (h : Canon s) : CanonOut (execDmcInit c val s) := by
  unfold execDmcInit
  refine canonOut_ite ?_ ?_
  · exact canonOut_done (canon_dmcCtl h)
  · exact canonOut_done h

theorem canon_takeDly {s : State} {c rank : Nat} (h : Canon s) : Canon (s.takeDly c rank) := canon_modDmc h

theorem canon_execDmcInitDone {c : Fin 8} {ok : Bool} {s : State} (h : Canon s) : CanonOut (execDmcInitDone c ok s) := by
  unfold execDmcInitDone
  extract_lets n s' s'2 clear ranks s'3
  have h1 : Canon s' := canon_setFld (canon_takeDly (canon_takeDly h))
  have h2 : Canon s'2 := canon_modDmc h1
  have h3 : ∀ {s1 ca2}, Canon s1 → Canon (clear s1 ca2) := fun h4 => canon_memPut h4
  have h5 : Canon s'3 := canon_foldl (fun _ _ h6 => (canon_foldl (fun _ _ h7 => (h3 h7)) h6)) h2
  refine canonOut_ite ?_ ?_
  · exact canonOut_done h
  · refine canonOut_ite ?_ ?_
    · exact canonOut_done (canon_setReady (canon_dmcValid (canon_setFld h5)))
    · exact canonOut_done (canon_flag (canon_setFld h5))

theorem canon_execDlyApply {c : Fin 8} {val : Word} {s : State} (h : Canon s) : CanonOut (execDlyApply c val s) := by
  unfold execDlyApply
  refine canonOut_ite ?_ ?_
  · exact canonOut_done (canon_dmcCtl h)
  · exact canonOut_done h

theorem canon_execRefresh {c : Fin 8} {rank : Fin 2} {s : State} (h : Canon s) : CanonOut (execRefresh c rank s) := by
  unfold execRefresh
  extract_lets n d r late s' s'2
  have h1 : Canon s' := canon_modDmc h
  have h2 : Canon s'2 := canon_takeDly h1
  refine canonOut_ite ?_ ?_
  · exact canonOut_done h
  · refine canonOut_ite ?_ ?_
    · exact canonOut_done (canon_modDmc h)
    · refine canonOut_ite ?_ ?_
      · exact canonOut_done (canon_ite (canon_setFld h2) h2)
      · exact canonOut_done h1

theorem canon_execPowerDownEntry {c : Fin 8} {rank : Fin 2} {s : State} (h : Canon s) : CanonOut (execPowerDownEntry c rank s) := by
  unfold execPowerDownEntry
  extract_lets n
  refine canonOut_ite ?_ ?_
  · exact canonOut_done h
  · exact canonOut_done (canon_modDmc h)

theorem canon_execPatrolScrub {c : Fin 8} {err : Fin 3} {syn : BitVec 8} {s : State} (h : Canon s) : CanonOut (execPatrolScrub c err syn s) := by
  unfold execPatrolScrub
  extract_lets n ca r s' s'2 next
  have h1 : Canon s' := canon_setFld h
  have h2 : Canon s'2 := canon_ite (canon_incWrap h1) (canon_eccRead (canon_ddrAccess h1))
  refine canonOut_ite ?_ ?_
  · exact canonOut_done h
  · exact canonOut_done (canon_modDmc h2)

theorem canon_execDmaStart {n : Fin 32} {val : Word} {s : State} (h : Canon s) : CanonOut (execDmaStart n val s) :=
  canonOut_done (canon_dmaCtl (canon_wakeBlock h))

theorem canon_execDmaAbort {n : Fin 32} {acc : Word} {host : List Byte} {s : State} (h : Canon s) : CanonOut (execDmaAbort n acc host s) :=
  canonOut_done (canon_status (canon_dmaAbort (canon_wakeBlock h)))

theorem canon_execDmaComplete {n : Fin 32} {host : List Byte} {s : State} (h : Canon s) : CanonOut (execDmaComplete n host s) := by
  unfold execDmaComplete
  refine canonOut_ite ?_ ?_
  · exact canonOut_done h
  · refine canonOut_ite ?_ ?_
    · exact canonOut_done (canon_dmaPost h)
    · split
      · exact canonOut_done (canon_ite (canon_dmaOver h) h)
      · split
        · exact canonOut_done h
        · exact canonOut_done (canon_dmaFinish h)

theorem canon_execRemoteTimeout {n : Fin 32} {s : State} (h : Canon s) : CanonOut (execRemoteTimeout n s) := by
  unfold execRemoteTimeout
  extract_lets d out
  exact canonOut_done (canon_ite (canon_remoteStop h) h)

theorem canon_execFunctionLevelReset {s : State} (h : Canon s) : CanonOut (execFunctionLevelReset s) := canonOut_done (canon_status (canon_flr h))

theorem canon_linkDown {s : State} (h : Canon s) : Canon s.linkDown := by
  unfold State.linkDown
  extract_lets x x2
  have h1 : Canon x := canon_putN h
  exact canon_setReady (canon_hidden h1)

theorem canon_execPerst {s : State} (h : Canon s) : CanonOut (execPerst s) := by
  unfold execPerst
  extract_lets s' x
  have h1 : Canon s' := canon_linkDown (canon_flr h)
  exact canonOut_done (canon_status (canon_hidden h1))

theorem canon_execQueueEnable {q : Fin 64} {s : State} (h : Canon s) : CanonOut (execQueueEnable q s) := canonOut_done (canon_hqCfg h)

theorem canon_execQueueDisable {q : Fin 64} {s : State} (h : Canon s) : CanonOut (execQueueDisable q s) := canonOut_done (canon_hqCfg h)

theorem canon_execQueueDoorbell {q : Fin 32} {tail : BitVec 26} {s : State} (h : Canon s) : CanonOut (execQueueDoorbell q tail s) :=
  canonOut_done (canon_doorbell h)

theorem canon_execQueueHeadWrite {q : Fin 32} {head : BitVec 26} {s : State} (h : Canon s) : CanonOut (execQueueHeadWrite q head s) :=
  canonOut_done (canon_headWrite h)

theorem canon_execCreditLateTimeout {q : Fin 32} {s : State} (h : Canon s) : CanonOut (execCreditLateTimeout q s) :=
  canonOut_done (canon_ite (canon_flag h) h)

theorem canon_execPacketHcrcFail {q : Fin 32} {s : State} (h : Canon s) : CanonOut (execPacketHcrcFail q s) := by
  unfold execPacketHcrcFail
  refine canonOut_ite ?_ ?_
  · exact canonOut_done (canon_hcrcFail h)
  · exact canonOut_done h

theorem canon_execNop {q : Fin 32} {pkt : List Byte} {s : State} (h : Canon s) : CanonOut (execNop q pkt s) :=
  canonOut_done (canon_packet (fun _ _ h1 => canon_finish h1) h)

theorem canon_writeWords {s : State} {off n : Nat} {l : List Word} (h : Canon s) : Canon (s.writeWords off n l).1 := by
  induction l generalizing s off n with
  | nil => exact h
  | cons w ws ih =>
    unfold State.writeWords
    extract_lets s1
    have h1 : Canon s1 := canon_pkWrite h
    split
    · exact ih h1
    · exact h1

theorem canon_execRegWrite {q : Fin 32} {pkt : List Byte} {s : State} (h : Canon s) : CanonOut (execRegWrite q pkt s) :=
  canonOut_done (canon_packet (fun _ _ h1 => canon_finish (canon_writeWords h1)) h)

theorem canon_readWords {s : State} {off n : Nat} (h : Canon s) : Canon (s.readWords off n).2 := by
  induction n generalizing s off with
  | zero => exact h
  | succ n ih => exact ih (canon_readReg h)

theorem canon_execRegRead {q : Fin 32} {pkt : List Byte} {s : State} (h : Canon s) : CanonOut (execRegRead q pkt s) :=
  canonOut_done (canon_packet (fun _ _ h1 => canon_finish (canon_readWords h1)) h)

theorem canon_execRegRmw {q : Fin 32} {pkt : List Byte} {s : State} (h : Canon s) : CanonOut (execRegRmw q pkt s) :=
  canonOut_done (canon_packet (fun _ _ h1 => canon_finish (canon_pkWrite (canon_readReg h1))) h)

theorem canon_execMemWrite {q : Fin 32} {pkt : List Byte} {s : State} (h : Canon s) : CanonOut (execMemWrite q pkt s) :=
  canonOut_done (canon_packet (fun _ _ h1 => canon_ite (canon_finish h1) (canon_finish (canon_memStore h1))) h)

theorem canon_execMemRead {q : Fin 32} {pkt : List Byte} {s : State} (h : Canon s) : CanonOut (execMemRead q pkt s) :=
  canonOut_done (canon_packet (fun _ _ h1 => canon_ite (canon_finish h1) (canon_finish (canon_ddrRead h1))) h)

theorem canon_execCxpCtrl {q : Fin 32} {pkt : List Byte} {s : State} (h : Canon s) : CanonOut (execCxpCtrl q pkt s) :=
  canonOut_done (canon_packet (fun _ _ h1 => canon_ite (canon_hidden h1) (canon_ctrlSend h1)) h)

end Sys2Proof.Machine
end

section
/-!
PROOFS. Canonical stores: the two-wire ports, power and calibration (SPEC, 17_two_wire.md, 18_power_calibration.md).
-/
set_option Elab.async false

namespace Sys2Proof.Machine

theorem canon_execTwGo {n : Fin 4} {val : Word} {s : State} (h : Canon s) : CanonOut (execTwGo n val s) := canonOut_done (canon_twXfer h)

theorem canon_twStore {s : State} {n : Nat} {bs : List Byte} (h : Canon s) : Canon (s.twStore n bs) := canon_foldl (fun _ _ h1 => (canon_setFld h1)) h

theorem canon_execTwTransferDone {n : Fin 4} {addrAck rdAck : Bool} {acked : Fin 34} {rd : List Byte} {s : State} (h : Canon s) : CanonOut
    (execTwTransferDone n addrAck rdAck acked rd s) := by
  unfold execTwTransferDone
  extract_lets p t a wlen rlen block pec reads wr wAddr rAddr head out s0 s' stop s'2 r
  have h1 : Canon s0 := canon_modTw h
  have h2 : Canon s' := canon_ite (canon_emit (canon_emit h1)) h1
  have h3 : ∀ {s1 r2}, Canon s1 → Canon (stop s1 r2) := fun h4 => canon_twEnd (canon_modTw (canon_ite h4 (canon_emit h4)))
  have h5 : Canon s'2 := canon_emit h2
  refine canonOut_ite ?_ ?_
  · exact canonOut_done h
  · refine canonOut_ite ?_ ?_
    · exact canonOut_done (h3 h2)
    · refine canonOut_ite ?_ ?_
      · exact canonOut_done (h3 (canon_setFld h2))
      · refine canonOut_ite ?_ ?_
        · exact canonOut_done (h3 h2)
        · refine canonOut_ite ?_ ?_
          · exact canonOut_done (h3 h5)
          · exact canonOut_done (h3 (canon_twStore h5))

theorem canon_execTwAbort {n : Fin 4} {stopBegun : Bool} {s : State} (h : Canon s) : CanonOut (execTwAbort n stopBegun s) :=
  canonOut_done (canon_status (canon_twAbort h))

theorem canon_tgtBytes {l : List Byte} {first : Bool} {s : State} (h : Canon s) : Canon (tgtBytes l first s) := by
  induction l generalizing first s with
  | nil => exact h
  | cons b bs ih =>
    cases first with
    | true => exact ih (canon_modTw h)
    | false => exact ih (canon_ite (canon_incCnt (canon_modTw h)) (canon_modTw (canon_modTw h)))

theorem canon_tgtServe {s : State} {read : Bool} {bytes : List Byte} {count : Nat} (h : Canon s) : Canon (s.tgtServe read bytes count) := by
  unfold State.tgtServe
  extract_lets f p out
  exact canon_ite (canon_emit (canon_modTw h)) (canon_tgtBytes (canon_modTw h))

theorem canon_execArbLost {n : Fin 4} {addr : BitVec 7} {read : Bool} {bytes : List Byte} {count : BitVec 12} {s : State} (h : Canon s) : CanonOut
    (execArbLost n addr read bytes count s) := by
  unfold execArbLost
  extract_lets p t s' s'2
  have h1 : Canon s' := canon_modTw (canon_flag h)
  have h2 : Canon s'2 := canon_ite (canon_modTw h1) (canon_twEnd h1)
  refine canonOut_ite ?_ ?_
  · exact canonOut_done h
  · refine canonOut_ite ?_ ?_
    · exact canonOut_done (canon_tgtServe h2)
    · exact canonOut_done h2

theorem canon_execSclTo {n : Fin 4} {s : State} (h : Canon s) : CanonOut (execSclTo n s) := by
  unfold execSclTo
  extract_lets s'
  have h1 : Canon s' := canon_modTw (canon_tgtIdle (canon_flag h))
  exact canonOut_done (canon_ite h1 (canon_twEnd h1))

theorem canon_execSdaTo {n : Fin 4} {began : Bool} {s : State} (h : Canon s) : CanonOut (execSdaTo n began s) := by
  unfold execSdaTo
  extract_lets op was s' s'2
  have h1 : Canon s' := canon_modTw (canon_tgtIdle (canon_flag h))
  have h2 : Canon s'2 := canon_ite h1 (canon_twEnd h1)
  exact canonOut_done (canon_ite (canon_busClear h2) h2)

theorem canon_execBusclr {n : Fin 4} {s : State} (h : Canon s) : CanonOut (execBusclr n s) := canonOut_done (canon_twCtl h)

theorem canon_execBusClearDone {n : Fin 4} {freed : Bool} {s : State} (h : Canon s) : CanonOut (execBusClearDone n freed s) := by
  unfold execBusClearDone
  extract_lets s'
  have h1 : Canon s' := canon_twBusy (canon_modTw h)
  refine canonOut_ite ?_ ?_
  · exact canonOut_done h
  · refine canonOut_ite ?_ ?_
    · exact canonOut_done (canon_flag (canon_emit h1))
    · exact canonOut_done (canon_twReady (canon_setFld (canon_flag h1)))

theorem canon_execTargetAddressMatch {addr : BitVec 7} {read : Bool} {bytes : List Byte} {count : BitVec 12} {s : State} (h : Canon s) : CanonOut
    (execTargetAddressMatch addr read bytes count s) := by
  unfold execTargetAddressMatch
  refine canonOut_ite ?_ ?_
  · exact canonOut_done (canon_tgtServe h)
  · exact canonOut_done h

theorem canon_tgtCommit {s : State} (h : Canon s) : Canon s.tgtCommit := by
  unfold State.tgtCommit
  extract_lets t s1 s2
  have h1 : Canon s1 := canon_foldl (fun _ _ h2 => (canon_setFld h2)) h
  have h3 : Canon s2 := canon_ite h1 (canon_flag h1)
  exact canon_tgtIdle h3

theorem canon_execTargetStop {s : State} (h : Canon s) : CanonOut (execTargetStop s) := by
  unfold execTargetStop
  refine canonOut_ite ?_ ?_
  · exact canonOut_done (canon_tgtCommit h)
  · exact canonOut_done h

theorem canon_execSrInAck {stop : Bool} {s : State} (h : Canon s) : CanonOut (execSrInAck stop s) := by
  unfold execSrInAck
  extract_lets s' s'2
  have h1 : Canon s' := canon_incCnt h
  have h2 : Canon s'2 := canon_ite h1 (canon_incCnt (canon_flag h1))
  refine canonOut_ite ?_ ?_
  · exact canonOut_done h
  · exact canonOut_done (canon_tgtCommit h2)

theorem canon_execHostNotify {data : BitVec 16} {s : State} (h : Canon s) : CanonOut (execHostNotify data s) := canonOut_done (canon_notifyWrite h)

theorem canon_execNotifyDone {addrAck : Bool} {acked : Fin 4} {s : State} (h : Canon s) : CanonOut (execNotifyDone addrAck acked s) := by
  unfold execNotifyDone
  extract_lets bytes s0 s'
  have h1 : Canon s0 := canon_modTw h
  have h2 : Canon s' := canon_emit (canon_emit (canon_emit h1))
  refine canonOut_ite ?_ ?_
  · exact canonOut_done h
  · refine canonOut_ite ?_ ?_
    · exact canonOut_done (canon_twEnd h2)
    · refine canonOut_ite ?_ ?_
      · exact canonOut_done (canon_twEnd (canon_setFld h2))
      · exact canonOut_done (canon_twEnd h2)

theorem canon_pmbRead {s : State} {d : Nat} {cmd : Byte} (h : Canon s) : Canon (s.pmbRead d cmd) := by
  unfold State.pmbRead
  extract_lets a
  exact canon_emit (canon_emit (canon_emit (canon_emit h)))

theorem canon_winterLeft {s : State} (h : Canon s) : Canon s.winterLeft := by
  unfold State.winterLeft
  split
  · exact h
  · extract_lets s1 s2 x s3
    have h1 : Canon s1 := canon_setFld (canon_setFld h)
    have h2 : Canon s2 := canon_summerGate (canon_foldl (fun _ _ h3 => (canon_ite (canon_gateSet h3) h3)) h1)
    have h4 : Canon s3 := canon_hidden h2
    exact canon_pwrRelease (canon_foldl (fun _ _ h5 => (canon_dvfsGo h5)) h4)

theorem canon_dieDone {s : State} {d : Nat} {ok : Bool} (h : Canon s) : Canon (s.dieDone d ok) := by
  unfold State.dieDone
  extract_lets x s1 x2 s2 s3 s4
  have h1 : Canon s1 := canon_hidden h
  have h2 : Canon s2 := canon_hidden h1
  have h3 : Canon s3 := canon_dieReady (canon_setFld h2)
  have h4 : Canon s4 := canon_ite (canon_calAsk h3) (canon_fault h1)
  exact canon_ite (canon_winterLeft h4) (canon_dieBegin h4)

theorem canon_moveEnd {s : State} {d : Nat} {m : Move} {failed : Bool} (h : Canon s) : Canon (s.moveEnd d m failed) := by
  unfold State.moveEnd
  extract_lets s1
  have h1 : Canon s1 := canon_dieReady (canon_setFld (canon_setMove h))
  exact canon_cfgReady (canon_ite h1 (canon_dvfsGo h1))

theorem canon_voltDone {s : State} {d : Nat} {ok : Bool} (h : Canon s) : Canon (s.voltDone d ok) := by
  unfold State.voltDone
  extract_lets note
  have h1 : ∀ {s1}, Canon s1 → Canon (note s1) := fun h2 => canon_fault (canon_flag h2)
  split
  · exact h
  · extract_lets s1
    have h3 : Canon s1 := canon_setFld h
    exact canon_ite (canon_ite (canon_setMove h) (canon_pmbAsk (canon_setMove (h1 h)))) (canon_ite (canon_moveEnd (canon_ite h3 (h1 h3))) (canon_moveEnd h))

theorem canon_pmbEnd {s : State} {ok : Bool} (h : Canon s) : Canon (s.pmbEnd ok) := by
  unfold State.pmbEnd
  split
  · exact h
  · extract_lets x s1 s2 s3
    have h1 : Canon s1 := canon_setFld (canon_hidden h)
    have h2 : Canon s2 := canon_ite h1 (canon_flag h1)
    have h3 : Canon s3 := canon_pmbBegin h2
    exact canon_ite (canon_ite h3 (canon_dieDone h3)) (canon_voltDone h3)

theorem canon_execPmbusPoll {vout : BitVec 16} {ok : Bool} {s : State} (h : Canon s) : CanonOut (execPmbusPoll vout ok s) := by
  unfold execPmbusPoll
  split
  · exact canonOut_done h
  · extract_lets s' x
    have h1 : Canon s' := canon_pmbRead (canon_pmbSend h)
    refine canonOut_ite ?_ ?_
    · exact canonOut_done h
    · refine canonOut_ite ?_ ?_
      · exact canonOut_done (canon_pmbEnd h1)
      · refine canonOut_ite ?_ ?_
        · exact canonOut_done (canon_hidden h1)
        · exact canonOut_done h1

theorem canon_execPmbusSetDone {status : BitVec 16} {ok : Bool} {s : State} (h : Canon s) : CanonOut (execPmbusSetDone status ok s) := by
  unfold execPmbusSetDone
  split
  · exact canonOut_done h
  · refine canonOut_ite ?_ ?_
    · exact canonOut_done h
    · refine canonOut_ite ?_ ?_
      · exact canonOut_done (canon_ite h (canon_pmbEnd h))
      · exact canonOut_done (canon_pmbEnd (canon_pmbRead h))

theorem canon_execPmbusTimeout {s : State} (h : Canon s) : CanonOut (execPmbusTimeout s) := by
  unfold execPmbusTimeout
  refine canonOut_ite ?_ ?_
  · exact canonOut_done h
  · exact canonOut_done (canon_pmbEnd h)

theorem canon_execPwrSummer {ddrFail : BitVec 8} {s : State} (h : Canon s) : CanonOut (execPwrSummer ddrFail s) := canonOut_done (canon_pwrCmd h)

theorem canon_execPwrAutumn {ddrFail : BitVec 8} {s : State} (h : Canon s) : CanonOut (execPwrAutumn ddrFail s) := canonOut_done (canon_pwrCmd h)

theorem canon_execPwrWinter {s : State} (h : Canon s) : CanonOut (execPwrWinter s) := canonOut_done (canon_pwrCmd h)

theorem canon_refuse {s : State} {b code : Nat} (h : Canon s) : Canon (s.refuse b code) := by
  unfold State.refuse
  extract_lets x s1
  have h1 : Canon s1 := canon_hidden h
  exact canon_ite (canon_rollEnd h1) h1

theorem canon_execBlockAnswer {answer : Fin 3} {code : Fin 4} {s : State} (h : Canon s) : CanonOut (execBlockAnswer answer code s) := by
  unfold execBlockAnswer
  refine canonOut_ite ?_ ?_
  · exact canonOut_done h
  · split
    · exact canonOut_done h
    · extract_lets x s' x2 s'2 x3 s'3
      have h1 : Canon s' := canon_gateSet h
      have h2 : Canon s'2 := canon_hidden h1
      have h3 : Canon s'3 := canon_hidden h2
      refine canonOut_ite ?_ ?_
      · exact canonOut_done (canon_refuse h)
      · refine canonOut_ite ?_ ?_
        · refine canonOut_ite ?_ ?_
          · exact canonOut_done (canon_refuse h)
          · exact canonOut_done (canon_hidden h)
        · refine canonOut_ite ?_ ?_
          · exact canonOut_done (canon_pwrRelease (canon_setFld (canon_enterWinter h3)))
          · exact canonOut_done h2

theorem canon_execDelayRetry {s : State} (h : Canon s) : CanonOut (execDelayRetry s) := by
  unfold execDelayRetry
  extract_lets x
  refine canonOut_ite ?_ ?_
  · exact canonOut_done (canon_hidden h)
  · exact canonOut_done h

theorem canon_execBlockGate {b : Fin 32} {s : State} (h : Canon s) : CanonOut (execBlockGate b s) := by
  unfold execBlockGate
  extract_lets cls autumn summer
  refine canonOut_ite ?_ ?_
  · exact canonOut_done (canon_gateSet h)
  · exact canonOut_done h

theorem canon_execTableWakeStep {s : State} (h : Canon s) : CanonOut (execTableWakeStep s) := by
  unfold execTableWakeStep
  extract_lets s' s'2 x
  have h1 : Canon s' := by
    unfold s'
    split
    · exact h
    · exact canon_gateSet h
  have h2 : Canon s'2 := canon_setFld h1
  refine canonOut_ite ?_ ?_
  · exact canonOut_done h
  · refine canonOut_ite ?_ ?_
    · exact canonOut_done (canon_ite (canon_hidden h2) h2)
    · exact canonOut_done h1

theorem canon_execDieRestoreDone {d : Fin 4} {crcOk : Bool} {s : State} (h : Canon s) : CanonOut (execDieRestoreDone d crcOk s) := by
  unfold execDieRestoreDone
  split
  · exact canonOut_done h
  · refine canonOut_ite ?_ ?_
    · exact canonOut_done h
    · exact canonOut_done (canon_dieDone h)

theorem canon_execDvfsTargetWrite {d : Fin 4} {v : BitVec 3} {s : State} (h : Canon s) : CanonOut (execDvfsTargetWrite d v s) := by
  unfold execDvfsTargetWrite
  refine canonOut_ite ?_ ?_
  · exact canonOut_done (canon_targetWrite h)
  · exact canonOut_done h

theorem canon_execDvfsFreqSwitch {d : Fin 4} {s : State} (h : Canon s) : CanonOut (execDvfsFreqSwitch d s) := by
  unfold execDvfsFreqSwitch
  split
  · exact canonOut_done h
  · refine canonOut_ite ?_ ?_
    · exact canonOut_done h
    · refine canonOut_ite ?_ ?_
      · exact canonOut_done (canon_pmbAsk (canon_setMove h))
      · exact canonOut_done (canon_moveEnd (canon_setFld h))

theorem canon_execTempSample {k : Fin 20} {raw : BitVec 16} {s : State} (h : Canon s) : CanonOut (execTempSample k raw s) := by
  unfold execTempSample
  extract_lets n d v s' v2 hot s'2 s'3 far
  have h1 : Canon s' := canon_flag (canon_setSfld h)
  have h2 : Canon s'2 := canon_ite (canon_flag h1) h1
  have h3 : Canon s'3 := canon_ite (canon_fatal h2) h2
  refine canonOut_ite ?_ ?_
  · exact canonOut_done h
  · refine canonOut_ite ?_ ?_
    · exact canonOut_done (canon_setFld h)
    · exact canonOut_done (canon_ite (canon_calAsk h3) h3)

theorem canon_execRunNow {s : State} (h : Canon s) : CanonOut (execRunNow s) := canonOut_done (canon_status (canon_runNow h))

theorem canon_calApply {s : State} {i : CalItem} (h : Canon s) : Canon (s.calApply i) :=
  canon_ite (canon_eqSeed h) (canon_ite (canon_setFld h) (canon_ite (canon_setFld h) (canon_setFld h)))

theorem canon_calItem {acc : Nat × Nat × State} {d : Nat} {won : Bool} {i : CalItem} (h : Canon acc.2.2) : Canon (State.calItem acc d won i).2.2 := by
  unfold State.calItem
  extract_lets s t s1 w4
  split
  · split
    · exact h
    · exact canon_calApply h
  · exact canon_calRec (canon_incCnt (canon_flag h))

theorem canon_calItems {l : List CalItem} {f : CalItem → Bool} {d : Nat} {acc : Nat × Nat × State} (h : Canon acc.2.2) :
    Canon (l.foldl (fun a i => State.calItem a d (f i) i) acc).2.2 := by
  induction l generalizing acc with
  | nil => exact h
  | cons i l ih => exact ih (canon_calItem h)

theorem canon_execCalRunDone {d : Fin 5} {trim : BitVec 8} {ofs : Vector (BitVec 8) 4} {won : List (Fin 4 × Fin 114)} {s : State} (h : Canon s) :
    CanonOut (execCalRunDone d trim ofs won s) := by
  unfold execCalRunDone
  split
  · exact canonOut_done h
  · refine canonOut_ite (canonOut_done h) (canonOut_done (canon_calBegin (canon_hidden (canon_setFld (canon_incWrap (canon_hidden (canon_calRec ?_)))))))
    exact canon_calItems h

end Sys2Proof.Machine
end

section
/-!
PROOFS. Canonical stores: pairs, faults, boot and the resets (SPEC, 19_fault_tolerance.md, 20_pins_electrical_bringup.md).
-/
set_option Elab.async false

namespace Sys2Proof.Machine

theorem canon_pairCtrl {s : State} {ty : Nat} {payload : List Byte} (h : Canon s) : Canon (s.pairCtrl ty payload) := canon_ite (canon_nimCtrl h) h

theorem canon_execHeartbeatSend {s : State} (h : Canon s) : CanonOut (execHeartbeatSend s) := by
  unfold execHeartbeatSend
  extract_lets s' s'2
  have h1 : Canon s' := canon_pairCtrl (canon_emit h)
  have h2 : Canon s'2 := canon_modFlt h1
  refine canonOut_ite ?_ ?_
  · exact canonOut_done h
  · exact canonOut_done (canon_ite (canon_setFld (canon_setFld (canon_setGen h2))) h2)

theorem canon_claim {s : State} (h : Canon s) : Canon s.claim := by
  unfold State.claim
  extract_lets old s1 s2 s3
  have h1 : Canon s1 := canon_flag (canon_setGen h)
  have h2 : Canon s2 := canon_pairCtrl h1
  have h3 : Canon s3 := canon_incCnt (canon_frostOn h2)
  exact canon_ite (canon_pairFault h) (canon_pairFault (canon_modFlt h3))

theorem canon_heartbeatFrame {s : State} {f : List Byte} (h : Canon s) : Canon (s.heartbeatFrame f) := by
  unfold State.heartbeatFrame
  extract_lets fl seq gap s1 s2 s3 differs s4 t x s5
  have h1 : Canon s1 := canon_ite (canon_cmpOff h) h
  have h2 : Canon s2 := canon_modFlt h1
  have h3 : Canon s3 := canon_ite (canon_resyncFail h2) h2
  have h4 : Canon s4 := canon_ite (canon_ite (canon_resyncFail (canon_pairFault h3)) (canon_pairFault (canon_setFld (canon_cmpOff h3)))) h3
  have h5 : Canon s5 := canon_ite (canon_modResync h4) h4
  exact canon_ite (canon_claim h5) h5

theorem canon_execHeartbeatReceived {frame : Option (List Byte × Option (BitVec 12))} {s : State} (h : Canon s) :
    CanonOut (execHeartbeatReceived frame s) := by
  unfold execHeartbeatReceived
  extract_lets s' s'2
  have h1 : Canon s' := by
    unfold s'
    split
    · exact canon_npAck h
    · exact h
  have h2 : Canon s'2 := canon_modFlt (canon_setFld h1)
  refine canonOut_ite ?_ ?_
  · exact canonOut_done h1
  · split
    · exact canonOut_done h2
    · exact canonOut_done (canon_heartbeatFrame h2)

theorem canon_execPartnerLost {s : State} (h : Canon s) : CanonOut (execPartnerLost s) := by
  unfold execPartnerLost
  extract_lets s' s'2 s'3
  have h1 : Canon s' := canon_modFlt (canon_setFld (canon_cmpOff h))
  have h2 : Canon s'2 := canon_pairFault (canon_incCnt h1)
  have h3 : Canon s'3 := canon_resyncFail h2
  refine canonOut_ite ?_ ?_
  · exact canonOut_done h
  · exact canonOut_done (canon_ite h3 (canon_claim h3))

theorem canon_execClaimFrame {x x2 : BitVec 8} {ack : Option (BitVec 12)} {s : State} (h : Canon s) : CanonOut (execClaimFrame x x2 ack s) :=
  canonOut_done (canon_npAck h)

theorem canon_execFrostEnd {s : State} (h : Canon s) : CanonOut (execFrostEnd s) := by
  unfold execFrostEnd
  refine canonOut_ite ?_ ?_
  · exact canonOut_done h
  · exact canonOut_done (canon_setFld h)

theorem canon_execDemote {s : State} (h : Canon s) : CanonOut (execDemote s) := by
  unfold execDemote
  extract_lets c s'
  have h1 : Canon s' := canon_setFld (canon_setFld (canon_setGen h))
  refine canonOut_ite ?_ ?_
  · exact canonOut_done (canon_pairFault (canon_modFlt (canon_cmpOff h1)))
  · exact canonOut_done h

theorem canon_execGenLower {s : State} (h : Canon s) : CanonOut (execGenLower s) := by
  unfold execGenLower
  refine canonOut_ite ?_ ?_
  · exact canonOut_done (canon_setGen h)
  · exact canonOut_done h

theorem canon_execPromote {s : State} (h : Canon s) : CanonOut (execPromote s) := canonOut_done (canon_promote h)

theorem canon_execHandover {s : State} (h : Canon s) : CanonOut (execHandover s) := canonOut_done (canon_handover h)

theorem canon_execResync {s : State} (h : Canon s) : CanonOut (execResync s) := canonOut_done (canon_resyncAsk h)

theorem canon_showBlk {s : State} {blk : Nat} (h : Canon s) : Canon (s.showBlk blk) := canon_setFld h

theorem canon_execResyncCapture {b0 : BitVec 24} {s : State} (h : Canon s) : CanonOut (execResyncCapture b0 s) := by
  unfold execResyncCapture
  extract_lets r u b pt r2
  refine canonOut_ite ?_ ?_
  · exact canonOut_done h
  · refine canonOut_ite ?_ ?_
    · exact canonOut_done (canon_modResync h)
    · refine canonOut_ite ?_ ?_
      · exact canonOut_done (canon_shadowUnit (canon_showBlk (canon_modResync h)))
      · exact canonOut_done h

theorem canon_alignEnc {s : State} {n : Nat} {d : Int} {half : Nat} (h : Canon s) : Canon (s.alignEnc n d half).2 := by
  unfold State.alignEnc
  extract_lets r
  exact canon_setFld (canon_snapMove h)

theorem canon_alignUnit {s : State} {u pt : Nat} (h : Canon s) : Canon (s.alignUnit u pt) := by
  unfold State.alignUnit
  extract_lets k
  exact canon_ite h (canon_modCu (canon_setCuN h))

theorem canon_alignPort {s : State} {n ls lbl : Nat} (h : Canon s) : Canon (s.alignPort n ls lbl) := by
  unfold State.alignPort
  extract_lets rep
  split
  · exact canon_updHp (canon_modPrt (canon_putN h))
  · extract_lets i
    exact canon_updHp (canon_modPrt (canon_putN h))

theorem canon_execResyncAlign {c : Captures} {s : State} (h : Canon s) : CanonOut (execResyncAlign c s) := by
  unfold execResyncAlign
  extract_lets q r s' s'2 s'3 b s'4
  have h1 : Canon r.2 := canon_foldl_snd (fun _ _ h2 => (canon_alignEnc h2)) h
  have h3 : Canon s' := canon_foldl (fun _ _ h4 => (canon_alignUnit h4)) h1
  have h5 : Canon s'2 := canon_foldl (fun _ _ h6 => (canon_alignPort h6)) h3
  have h7 : Canon s'3 := canon_pruneAll (canon_setOrg h5)
  have h8 : Canon s'4 := canon_modResync h7
  refine canonOut_ite ?_ ?_
  · exact canonOut_done h
  · exact canonOut_done (canon_raise (canon_showBlk h8))

theorem canon_execResyncTimeout {s : State} (h : Canon s) : CanonOut (execResyncTimeout s) := by
  unfold execResyncTimeout
  extract_lets r
  refine canonOut_ite ?_ ?_
  · exact canonOut_done (canon_resyncFail h)
  · exact canonOut_done h

theorem canon_shadowTake {s : State} {rs : List (List Nat)} (h : Canon s) : Canon (s.shadowTake rs) := by
  unfold State.shadowTake
  extract_lets all excess s1
  have h1 : Canon s1 := canon_unmatched (canon_modFlt h)
  exact canon_ite h (canon_comparePairs h1)

theorem canon_shadowBody {s : State} {a : Shadow} (h : Canon s) : Canon (s.shadowBody a) := by
  unfold State.shadowBody
  split
  · exact canon_shadowTake h
  · exact canon_ite (canon_modResync h) h

theorem canon_execShadowFrame {p : Fin 4} {dst src : BitVec 18} {seq : BitVec 12} {ack : Option (BitVec 12)} {fcrcOk : Bool} {body : Shadow} {s : State} (h
    : Canon s) : CanonOut (execShadowFrame p dst src seq ack fcrcOk body s) := by
  unfold execShadowFrame
  extract_lets bs r
  refine canonOut_ite ?_ ?_
  · exact canonOut_done (canon_npAccept h)
  · refine canonOut_ite ?_ ?_
    · refine canonOut_done ?_
      refine canon_ite ?_ ?_
      · exact canon_shadowBody (canon_npAccept h)
      · exact canon_npAccept h
    · refine canonOut_done ?_
      exact canon_forward (canon_npAccept h)

theorem canon_execShadowUnmatchedTimeout {own : Bool} {s : State} (h : Canon s) : CanonOut (execShadowUnmatchedTimeout own s) := by
  unfold execShadowUnmatchedTimeout
  extract_lets l s'
  have h1 : Canon s' := canon_modFlt h
  refine canonOut_ite ?_ ?_
  · exact canonOut_done h
  · exact canonOut_done (canon_unmatched h1)

theorem canon_dieLost {s : State} {d : Nat} (h : Canon s) : Canon (s.dieLost d) := by
  unfold State.dieLost
  extract_lets x s1 s2
  have h1 : Canon s1 := canon_hidden h
  have h2 : Canon s2 := canon_foldl (fun _ _ h3 => (canon_setReady h3)) (canon_setReady h1)
  exact canon_fatal (canon_foldl (fun _ _ h4 => (canon_setFld h4)) h2)

theorem canon_execFatalFault {what : Fin 7} {s : State} (h : Canon s) : CanonOut (execFatalFault what s) := by
  unfold execFatalFault
  extract_lets s' s'2 d
  have h1 : Canon s' := canon_modFlt h
  have h2 : Canon s'2 := canon_ite (canon_encReady (canon_setReady h1)) (canon_ite (canon_setReady (canon_setFld h1)) h1)
  refine canonOut_ite ?_ ?_
  · exact canonOut_done (canon_fatal h2)
  · refine canonOut_ite ?_ ?_
    · exact canonOut_done (canon_dieLost h)
    · exact canonOut_done h

theorem canon_execForceFatal {s : State} (h : Canon s) : CanonOut (execForceFatal s) := canonOut_done (canon_status (canon_fatal h))

theorem canon_execRelease {s : State} (h : Canon s) : CanonOut (execRelease s) := canonOut_done (canon_release h)

theorem canon_levelsOff {s : State} (h : Canon s) : Canon s.levelsOff := by
  unfold State.levelsOff
  extract_lets s1
  have h1 : Canon s1 := canon_ite (canon_emit h) h
  exact canon_ite (canon_emit h1) h1

/-- The rows whose reset value a strap gives: TOP_STRAPS, TIME_STAT and FLT_STAT. -/
def strapRows : List Nat := [0x00000018, 0x02600004, 0x02F00100]

theorem resetNat_straps {b : Board} {r : RegRef} (h : r.row.base ∉ strapRows) (tsSrc pairRank : Bool) (boot : Nat) :
    resetNat { b with tsSrc := tsSrc, pairRank := pairRank, boot := boot } r = resetNat b r := by
  simp only [strapRows, List.mem_cons, List.not_mem_nil, or_false, not_or] at h
  obtain ⟨hstraps, htime, hflt⟩ := h
  simp only [resetNat, if_neg hstraps, if_neg htime, if_neg hflt]

/-- No register of the calendar clock takes its reset value from a strap. -/
theorem rtcRows_apart_strapRows : ∀ k : Fin 24, (findReg (R.RTC_SEC_LO + k)).all (fun r => decide (r.row.base ∉ strapRows)) = true := by
  decide +kernel

theorem resetVal_rtcReg {b : Board} {off : Nat} (h : rtcReg off = true) (tsSrc pairRank : Bool) (boot : Nat) :
    resetVal { b with tsSrc := tsSrc, pairRank := pairRank, boot := boot } off = resetVal b off := by
  simp only [rtcReg, Bool.and_eq_true, decide_eq_true_eq] at h
  obtain ⟨hlo, hhi⟩ := h
  have hk : off - R.RTC_SEC_LO < 24 := by
    simp only [R.RTC_SEC_LO, R.RTC_STAT] at hlo hhi ⊢
    omega
  have hrow := rtcRows_apart_strapRows ⟨off - R.RTC_SEC_LO, hk⟩
  simp only [Nat.add_sub_cancel' hlo] at hrow
  unfold resetVal
  cases hr : findReg off with
  | none => rfl
  | some r =>
    simp only [hr, Option.all_some, decide_eq_true_eq] at hrow
    simp only [resetNat_straps hrow]

/-- What the calendar clock keeps over a cold reset is canonical under the straps sampled. -/
theorem regsWf_coldKept {b : Board} {l : List (Nat × Word)} (h : regsWf b l = true) (tsSrc pairRank : Bool) (boot : Nat) :
    regsWf { b with tsSrc := tsSrc, pairRank := pairRank, boot := boot }
      (l.filter (fun e => rtcReg e.1 && e.1 != R.RTC_SET_LO && e.1 != R.RTC_SET_HI)) = true := by
  have hb := regsWf_filter (fun e => rtcReg e.1 && e.1 != R.RTC_SET_LO && e.1 != R.RTC_SET_HI) h
  simp only [regsWf, Bool.and_eq_true, decide_eq_true_eq, List.all_eq_true] at hb ⊢
  refine ⟨hb.1, fun e he => ?_⟩
  have hrtc : rtcReg e.1 = true := by
    have hp := (List.mem_filter.mp he).2
    simp only [Bool.and_eq_true] at hp
    exact hp.1.1
  rw [resetVal_rtcReg hrtc]
  exact hb.2 e he

theorem canon_execColdReset {tsSrc pairRank : Bool} {boot : Fin 4} {s : State} (h : Canon s) : CanonOut (execColdReset tsSrc pairRank boot s) := by
  unfold execColdReset
  extract_lets s' c none _ _ _ _ c'
  have hc : Canon c' := ⟨regsWf_coldKept h.1 tsSrc pairRank boot.val, rfl, List.Pairwise.nil⟩
  exact canonOut_done (canon_setBit hc)

theorem canon_execWarmReset {ddrFail : BitVec 8} {s : State} (h : Canon s) : CanonOut (execWarmReset ddrFail s) := by
  unfold execWarmReset
  extract_lets x
  refine canonOut_ite ?_ ?_
  · exact canonOut_done (canon_hidden h)
  · exact canonOut_done (canon_warmReset h)

theorem canon_bootReads {s : State} {base : Nat} {bs : List Byte} (h : Canon s) : Canon (s.bootReads base bs) := by
  unfold State.bootReads
  extract_lets quad mhz rd s1
  have h1 : ∀ {s2 a2 n2}, Canon s2 → Canon (rd s2 a2 n2) := fun h2 => canon_emit h2
  have h3 : Canon s1 := h1 h
  exact canon_ite h3 (h1 h3)

theorem canon_execBootImageRead {copyA copyB : List Byte} {s : State} (h : Canon s) : CanonOut (execBootImageRead copyA copyB s) := by
  unfold execBootImageRead
  extract_lets part a b s1 s2 s' go
  have h1 : Canon s1 := canon_bootReads h
  have h2 : Canon s2 := canon_ite h1 (canon_bootReads h1)
  have h3 : Canon s' := canon_setFld h2
  have h4 : ∀ {s3 m2}, Canon s3 → Canon (go s3 m2) := fun h5 => canon_bootRun (canon_setReady (canon_hidden h5))
  refine canonOut_ite ?_ ?_
  · exact canonOut_done h
  · split
    · exact canonOut_done (h4 h3)
    · exact canonOut_done (h4 (canon_flag h3))
    · exact canonOut_done (canon_bootEnd (canon_setFld h3))

theorem canon_execBootWaitEnd {s : State} (h : Canon s) : CanonOut (execBootWaitEnd s) := by
  unfold execBootWaitEnd
  extract_lets x
  exact canonOut_done (canon_ite (canon_bootRun (canon_hidden h)) h)

theorem canon_execBootPollTimeout {s : State} (h : Canon s) : CanonOut (execBootPollTimeout s) := canonOut_done (canon_ite (canon_bootEnd (canon_flag h)) h)

theorem canon_execPcieTrainStart {s : State} (h : Canon s) : CanonOut (execPcieTrainStart s) := by
  unfold execPcieTrainStart
  extract_lets x
  exact canonOut_done (canon_hidden h)

theorem canon_execDieRailUp {d : Fin 4} {s : State} (h : Canon s) : CanonOut (execDieRailUp d s) := by
  unfold execDieRailUp
  extract_lets n x s' floor
  have h1 : Canon s' := canon_hidden h
  refine canonOut_ite ?_ ?_
  · exact canonOut_done h
  · refine canonOut_ite ?_ ?_
    · exact canonOut_done (canon_pmbAsk (canon_flag (canon_setMove h1)))
    · exact canonOut_done (canon_dvfsGo (canon_dieReady (canon_setFld h1)))

theorem canon_scanOut {s : State} (h : Canon s) : Canon s.scanOut := canon_emit h

theorem canon_scanShift {s : State} {tdi : List Bool} (h : Canon s) : Canon (s.scanShift tdi) := by
  unfold State.scanShift
  extract_lets all s1
  have h1 : Canon s1 := canon_emit h
  exact canon_ite h (canon_ite (canon_hidden h1) h1)

theorem canon_execJtagInstruction {code : Option (BitVec 6)} {tdi : List Bool} {s : State} (h : Canon s) : CanonOut (execJtagInstruction code tdi s) := by
  unfold execJtagInstruction
  extract_lets s'
  have h1 : Canon s' := canon_hidden h
  exact canonOut_done (canon_scanOut (canon_scanShift h1))

theorem canon_execPllLock {k : Fin 3} {s : State} (h : Canon s) : CanonOut (execPllLock k s) := by
  unfold execPllLock
  extract_lets s'
  have h1 : Canon s' := canon_modFlt h
  exact canonOut_done (canon_ite (canon_encReady (canon_setReady h1)) (canon_ite (canon_setReady (canon_flag h1)) h1))

theorem canon_execPcieLinkUp {up : Bool} {speed : Fin 6} {width : Fin 17} {bme : Bool} {space : PcieCfg} {s : State} (h : Canon s) : CanonOut
    (execPcieLinkUp up speed width bme space s) := by
  unfold execPcieLinkUp
  extract_lets s' x s'2 s'3
  have h1 : Canon s' := canon_putN h
  have h2 : Canon s'2 := canon_hidden h1
  have h3 : Canon s'3 := canon_emit h2
  refine canonOut_ite ?_ ?_
  · exact canonOut_done (canon_linkDown h)
  · refine canonOut_ite ?_ ?_
    · exact canonOut_done h
    · exact canonOut_done (canon_foldl (fun _ _ h4 => (canon_msixUnmask h4)) (canon_setReady h3))

theorem canon_execCompletionTimeout {n : Fin 32} {queue : Bool} {s : State} (h : Canon s) : CanonOut (execCompletionTimeout n queue s) := by
  unfold execCompletionTimeout
  refine canonOut_ite ?_ ?_
  · exact canonOut_done (canon_ite (canon_haltQueue h) h)
  · exact canonOut_done (canon_ite (canon_remoteStop h) h)

theorem canon_execRtcSecRead {s : State} (h : Canon s) : CanonOut (execRtcSecRead s) := canonOut_done (canon_rtcRead h)

theorem canon_execOpenPageIdleClose {c : Fin 8} {bank : Fin 32} {s : State} (h : Canon s) : CanonOut (execOpenPageIdleClose c bank s) :=
  canonOut_done (canon_modDmc h)

theorem canon_execBusClearAfterTbuf {n : Fin 4} {s : State} (h : Canon s) : CanonOut (execBusClearAfterTbuf n s) :=
  canonOut_done (canon_ite (canon_busClear h) h)

theorem canon_execDclRdWord {w : Option (BitVec 16)} {s : State} (h : Canon s) : CanonOut (execDclRdWord w s) := by
  unfold execDclRdWord
  split
  · exact canonOut_done (canon_setFld (canon_flag h))
  · exact canonOut_done (canon_setFld h)

end Sys2Proof.Machine
end

section
/-!
PROOFS. Canonical stores: every command, and every step.
-/
set_option Elab.async false

namespace Sys2Proof.Machine

theorem canon_exec {i : Instr} {s : State} (h : Canon s) : CanonOut (exec i s) := by
  unfold exec
  split
  · exact canon_execRegisterWrite h
  · exact canon_execReservedAccess h
  · exact canon_execBlockWakeDone h
  · exact canon_execDevIdWrite h
  · exact canon_execCfgLoad h
  · exact canon_execLoadValidate h
  · exact canon_execStructApplyDone h
  · exact canon_execLoadAbort h
  · exact canon_execPipelineStop h
  · exact canon_execPipelineDrained h
  · exact canon_execPipelineRun h
  · exact canon_execSwapArm h
  · exact canon_execSwapDisarm h
  · exact canon_execSwapNow h
  · exact canon_execBankDrainDone h
  · exact canon_execEncoderStep h
  · exact canon_execQuadratureError h
  · exact canon_execDeadTimeEnd h
  · exact canon_execStandstill h
  · exact canon_execIndexEdge h
  · exact canon_execInterpolatedHit h
  · exact canon_execDeferredHit h
  · exact canon_execCuSpacingWrite h
  · exact canon_execCuSpacingHiWrite h
  · exact canon_execAbsTimerStart h
  · exact canon_execAbsCycleDone h
  · exact canon_execAbsStartTimeout h
  · exact canon_execSwitchInputChange h
  · exact canon_execSwitchAccept h
  · exact canon_execPulsePinEnd h
  · exact canon_execConsumerBusyEnd h
  · exact canon_execIrqHoldoffTimer h
  · exact canon_execEvent h
  · exact canon_execLaneLock h
  · exact canon_execLaneLockLoss h
  · exact canon_execRateHuntDwell h
  · exact canon_execCxpPacket h
  · exact canon_execDownlinkTrigger h
  · exact canon_execCxpCtrlReceived h
  · exact canon_execMasterLossTimeout h
  · exact canon_execLaneRetire h
  · exact canon_execCameraLinkAck h
  · exact canon_execLaneEqSeedWrite h
  · exact canon_execLaneCtlWrite h
  · exact canon_execEyeScanStart h
  · exact canon_execEyeScanDone h
  · exact canon_execIdentTimer h
  · exact canon_execIdentFrame h
  · exact canon_execNpRetrain h
  · exact canon_execNimebDataFrame h
  · exact canon_execNakReceived h
  · exact canon_execCreditFrame h
  · exact canon_execCreditReturnTimer h
  · exact canon_execLaneSwapFrame h
  · exact canon_execLaneSwapApply h
  · exact canon_execLineEnd h
  · exact canon_execTagTimeout h
  · exact canon_execDarkCapt h
  · exact canon_execIngFlip h
  · exact canon_execIngFlipApply h
  · exact canon_execStaggerReadReturn h
  · exact canon_execStitchLineForm h
  · exact canon_execSeamRegistration h
  · exact canon_execSeamSeedWrite h
  · exact canon_execUmapFlip h
  · exact canon_execVuLineProcess h
  · exact canon_execVuFault h
  · exact canon_execVuWatchdog h
  · exact canon_execSpareLoadDone h
  · exact canon_execRetireWindowClose h
  · exact canon_execReplayCaughtUp h
  · exact canon_execBlockCommit h
  · exact canon_execSegResolve h
  · exact canon_execSpillDrain h
  · exact canon_execEthGatherTimer h
  · exact canon_execMasterFetch h
  · exact canon_execFirePulseEnd h
  · exact canon_execWaveWindowEnd h
  · exact canon_execLatchPulse h
  · exact canon_execLatchPulseEnd h
  · exact canon_execShiftDone h
  · exact canon_execLineCycleEnd h
  · exact canon_execPrintFetchDone h
  · exact canon_execHeatOkAccept h
  · exact canon_execTakeoverAdd h
  · exact canon_execTakeoverRemove h
  · exact canon_execFrameStart h
  · exact canon_execPpLineEnd h
  · exact canon_execFrameEnd h
  · exact canon_execIspFrameTakeup h
  · exact canon_execIspFrameDone h
  · exact canon_execIspCropWrite h
  · exact canon_execTsWrap h
  · exact canon_execTsPps h
  · exact canon_execTimeAdjEnd h
  · exact canon_execTimeRateWrite h
  · exact canon_execTimeAdjTicksWrite h
  · exact canon_execTimeNowRead h
  · exact canon_execTsSeed h
  · exact canon_execTimeStep h
  · exact canon_execTimeStepFromUp h
  · exact canon_execEthRx h
  · exact canon_execEthTx h
  · exact canon_execLaunch h
  · exact canon_execTimeReqSend h
  · exact canon_execTimeFrame h
  · exact canon_execTimeExchangeTimeout h
  · exact canon_execRtcSet h
  · exact canon_execRtcSetApply h
  · exact canon_execRtcSync h
  · exact canon_execRtcTrim h
  · exact canon_execOscStop h
  · exact canon_execVbatLoss h
  · exact canon_execSdfSample h
  · exact canon_execSdfPeriodUpdate h
  · exact canon_execSdfClockLost h
  · exact canon_execSdfClockReturn h
  · exact canon_execSdfFsync h
  · exact canon_execSwSync h
  · exact canon_execSdfSyncApply h
  · exact canon_execSdfChannelEnable h
  · exact canon_execSdfChannelDisable h
  · exact canon_execDdrRequest h
  · exact canon_execRowCopyDone h
  · exact canon_execRankCopyDone h
  · exact canon_execDmcConfigDone h
  · exact canon_execDmcInit h
  · exact canon_execDmcInitDone h
  · exact canon_execDlyApply h
  · exact canon_execRefresh h
  · exact canon_execPowerDownEntry h
  · exact canon_execPatrolScrub h
  · exact canon_execDmaStart h
  · exact canon_execDmaAbort h
  · exact canon_execDmaComplete h
  · exact canon_execRemoteTimeout h
  · exact canon_execFunctionLevelReset h
  · exact canon_execPerst h
  · exact canon_execQueueEnable h
  · exact canon_execQueueDisable h
  · exact canon_execQueueDoorbell h
  · exact canon_execQueueHeadWrite h
  · exact canon_execCreditLateTimeout h
  · exact canon_execPacketHcrcFail h
  · exact canon_execNop h
  · exact canon_execRegWrite h
  · exact canon_execRegRead h
  · exact canon_execRegRmw h
  · exact canon_execMemWrite h
  · exact canon_execMemRead h
  · exact canon_execCxpCtrl h
  · exact canon_execTwGo h
  · exact canon_execTwTransferDone h
  · exact canon_execTwAbort h
  · exact canon_execArbLost h
  · exact canon_execSclTo h
  · exact canon_execSdaTo h
  · exact canon_execBusclr h
  · exact canon_execBusClearDone h
  · exact canon_execTargetAddressMatch h
  · exact canon_execTargetStop h
  · exact canon_execSrInAck h
  · exact canon_execHostNotify h
  · exact canon_execNotifyDone h
  · exact canon_execPmbusPoll h
  · exact canon_execPmbusSetDone h
  · exact canon_execPmbusTimeout h
  · exact canon_execPwrSummer h
  · exact canon_execPwrAutumn h
  · exact canon_execPwrWinter h
  · exact canon_execBlockAnswer h
  · exact canon_execDelayRetry h
  · exact canon_execBlockGate h
  · exact canon_execTableWakeStep h
  · exact canon_execDieRestoreDone h
  · exact canon_execDvfsTargetWrite h
  · exact canon_execDvfsFreqSwitch h
  · exact canon_execTempSample h
  · exact canon_execRunNow h
  · exact canon_execCalRunDone h
  · exact canon_execHeartbeatSend h
  · exact canon_execHeartbeatReceived h
  · exact canon_execPartnerLost h
  · exact canon_execClaimFrame h
  · exact canon_execFrostEnd h
  · exact canon_execDemote h
  · exact canon_execGenLower h
  · exact canon_execPromote h
  · exact canon_execHandover h
  · exact canon_execResync h
  · exact canon_execResyncCapture h
  · exact canon_execResyncAlign h
  · exact canon_execResyncTimeout h
  · exact canon_execShadowFrame h
  · exact canon_execShadowUnmatchedTimeout h
  · exact canon_execFatalFault h
  · exact canon_execForceFatal h
  · exact canon_execRelease h
  · exact canon_execColdReset h
  · exact canon_execWarmReset h
  · exact canon_execBootImageRead h
  · exact canon_execBootWaitEnd h
  · exact canon_execBootPollTimeout h
  · exact canon_execPcieTrainStart h
  · exact canon_execDieRailUp h
  · exact canon_execJtagInstruction h
  · exact canon_execPllLock h
  · exact canon_execPcieLinkUp h
  · exact canon_execCompletionTimeout h
  · exact canon_execRtcSecRead h
  · exact canon_execOpenPageIdleClose h
  · exact canon_execBusClearAfterTbuf h
  · exact canon_execDclRdWord h

theorem canon_step {s : State} (h : Canon s) : CanonOut (step s) := by
  unfold step
  split
  · rintro t ⟨⟩
    exact canon_idle h
  · exact canon_exec (canon_hidden h)

/-- Settles O4, by one lemma for each operation of the model: it keeps the stores canonical. -/
theorem stepsKeepTheStoresCanonical : Obligations.StepsKeepTheStoresCanonical := by
  unfold Obligations.StepsKeepTheStoresCanonical
  exact fun s t h hstep => canon_step h t hstep

end Sys2Proof.Machine
end

section
/-!
PROOFS. How a step runs a command, that it goes on, and the machine right after reset (R460).
-/
namespace Sys2Proof.Machine

/-- Settles O1: a step takes the front of the queue, and an empty queue leaves it to the idle edge. -/
theorem stepTakesTheFrontCommand : Obligations.StepTakesTheFrontCommand := by
  unfold Obligations.StepTakesTheFrontCommand
  exact ⟨fun c rest s => rfl, fun s => step_idle rfl⟩

/-- Every command ends in `done`, and so in a next state. -/
theorem exec_goesOn (c : Instr) (s : State) : ∃ t, exec c s = .next t := by
  obtain ⟨old, v, h, -⟩ := exec_endsFrom c s
  exact ⟨v.settle old, h⟩

/-- Settles O2: every command's meaning ends in `done`; an idle step goes on too. -/
theorem noCommandStops : Obligations.NoCommandStops := by
  unfold Obligations.NoCommandStops
  refine ⟨exec_goesOn, fun s => ?_⟩
  unfold GoesOn step
  split
  · exact ⟨_, rfl⟩
  · exact exec_goesOn _ _

theorem canon_reset : Canon State.reset := ⟨rfl, rfl, List.Pairwise.nil⟩

theorem bankState_reset (b : Bool) : State.reset.bankState b = 0 := by cases b <;> decide +kernel

theorem fatal_reset : State.reset.bit F.FLT_STAT_FATAL = false := by decide +kernel

theorem inOrder_reset : InOrder State.reset where
  armed := by simp [bankState_reset]
  running := by simp [bankState_reset]
  loaded := fun b h => by simp [bankState_reset] at h
  launches := fun p => by
    rw [show State.reset.time.launch[p] = [] from by simp [State.reset, State.cold]]
    exact List.Pairwise.nil
  nozzles := fun n => by
    rw [show State.reset.prt[n].tk = [] from by simp [State.reset, State.cold, PrtS.init]]
    exact List.Pairwise.nil
  frost := fun h => by simp [fatal_reset] at h

/-- Settles O3: nothing is listed after reset, so every register reads its reset value and the stores are canonical. -/
theorem resetIsCanonical : Obligations.ResetIsCanonical := by
  unfold Obligations.ResetIsCanonical
  exact ⟨canon_reset, inOrder_reset, fun _ => rfl, fun _ => rfl, rfl, rfl, rfl⟩

end Sys2Proof.Machine
end

section
/-!
PROOFS. Winter is entered from a state whose exit from Winter was under way: DDR-4 is not in self-refresh then (R401), so DMC_INSTALLED.VALID rises (R318),
which the statement's clause of the large part does not allow. The statement speaks of every state, and says nothing of the exit.
-/
namespace Sys2Proof.Machine

/-- After reset, but Winter has a restore area, DDR-4 is configured with its channels in service, and an exit from Winter is under way. -/
def winterLeftHalfway : State :=
  let s := (State.reset.flag F.PWR_RESTORE_HI_EN).flag F.DMC_CFG_DONE
  let s := (List.range 4).foldl (fun s c => s.setFld (F.DMC_CH_STAT_STATE c) 2) s
  { s with pwr := { s.pwr with leaving := some 0 } }

theorem mayEnter_winterLeftHalfway :
    winterLeftHalfway.bit F.PWR_STAT_BUSY = false ∧ winterLeftHalfway.pwr.hold ≤ winterLeftHalfway.evtNow ∧
      winterLeftHalfway.fld F.PWR_STAT_STATE < 2 ∧ winterLeftHalfway.bit F.CFG_STAT_PIPE_STOPPED = true ∧
      winterLeftHalfway.bit F.PWR_RESTORE_HI_EN = true ∧ winterLeftHalfway.gateables.all winterLeftHalfway.blockIdle = true := by
  decide +kernel

theorem installed_winterLeftHalfway : (winterLeftHalfway.pwrCmd 2 0).bit F.DMC_INSTALLED_VALID = true := by decide +kernel

/-- Refutes O53: with an exit from Winter under way the entry sets DMC_INSTALLED.VALID, as every channel is in service and none counts as in
self-refresh. -/
theorem not_powerStatesAreEntered : ¬ Obligations.PowerStatesAreEntered := by
  unfold Obligations.PowerStatesAreEntered
  rintro ⟨-, -, -, -, hwinter, -⟩
  obtain ⟨hbusy, hhold, hstate, hstopped, harea, hidle⟩ := mayEnter_winterLeftHalfway
  obtain ⟨v, hexec, -, -, -, -, -, hvalid, -⟩ := hwinter winterLeftHalfway hbusy hhold hstate hstopped harea rfl hidle
  have hsame : v.rd R.DMC_INSTALLED = (winterLeftHalfway.pwrCmd 2 0).rd R.DMC_INSTALLED :=
    rd_of_completed hexec (t := winterLeftHalfway.pwrCmd 2 0) rfl (by decide)
  rw [bit_of_rd_eq F.DMC_INSTALLED_VALID hsame, installed_winterLeftHalfway] at hvalid
  exact absurd hvalid (by decide)

end Sys2Proof.Machine
end

section
/-!
PROOFS. A remote source that has delivered more bytes than XFER can count: the model's list of the bytes received has no bound of its own, and DM_XFER is one
register of 32 bits (R334, R343). The statement speaks of every state.
-/
namespace Sys2Proof.Machine

/-- Channel 0 is BUSY with a remote source and local DDR-4 of 8 GiB as its destination; its completion queue is in use. -/
def remoteStalled : State :=
  let s := (State.reset.flag F.DMC_INSTALLED_VALID).setFld F.DMC_INSTALLED_MIB 0x2000
  let s := ((s.flag (F.DM_STAT_BUSY 0)).setFld (F.DM_CFG_SRC_SPACE 0) 1).flag (F.HQ_CFG_EN 32)
  s.setFld (F.HQ_CFG_SIZE 32) 17

/-- As `remoteStalled`, with the bytes `l` received, and WRITE frames sent that nothing acknowledges. -/
def remoteReceived (l : List (Byte × Bool)) : State :=
  { remoteStalled with dma := remoteStalled.dma.set 0 { DmaS.init with got := l, sent := some (0, 0) } }

/-! What DMA hides is not read by these. -/

theorem fld_withDma (s : State) (d : Vector DmaS 32) (f : Fld) : ({ s with dma := d } : State).fld f = s.fld f := rfl

theorem bit_withDma (s : State) (d : Vector DmaS 32) (f : Fld) : ({ s with dma := d } : State).bit f = s.bit f := rfl

theorem hasRoom_withDma (s : State) (d : Vector DmaS 32) (q n : Nat) : ({ s with dma := d } : State).hasRoom q n = s.hasRoom q n := rfl

theorem inDdr_withDma (s : State) (d : Vector DmaS 32) (a n : Nat) : ({ s with dma := d } : State).inDdr a n = s.inDdr a n := rfl

theorem dmaDst_withDma (s : State) (d : Vector DmaS 32) (n : Nat) : ({ s with dma := d } : State).dmaDst n = s.dmaDst n := rfl

theorem dma_remoteReceived (l : List (Byte × Bool)) : (remoteReceived l).dma[(0 : Fin 32)] = { DmaS.init with got := l, sent := some (0, 0) } := by
  simp [remoteReceived]

theorem exists_bytes (n : Nat) : ∃ l : List (Byte × Bool), l.length = n ∧ l.any (·.2) = false :=
  ⟨List.replicate n (0, false), List.length_replicate, by simp⟩

theorem channel_remoteStalled :
    remoteStalled.bit (F.DM_STAT_BUSY 0) = true ∧ remoteStalled.fld (F.DM_CFG_SRC_SPACE 0) = 1 ∧ remoteStalled.fld (F.DM_CFG_COMP 0) = 0 ∧
      remoteStalled.fld (F.DM_CFG_DST_SPACE 0) = 0 ∧ remoteStalled.hasRoom (remoteStalled.fld (F.DM_CTL_QID 0)) 16 = true ∧
      remoteStalled.inDdr (remoteStalled.dmaDst 0) (2 ^ 32) = true ∧ remoteStalled.poison = [] := by
  decide +kernel

theorem channel_remoteReceived (l : List (Byte × Bool)) (h : l.length = 2 ^ 32) :
    let s := remoteReceived l
    s.bit (F.DM_STAT_BUSY (0 : Fin 32)) = true ∧ s.fld (F.DM_CFG_SRC_SPACE (0 : Fin 32)) = 1 ∧ s.fld (F.DM_CFG_COMP (0 : Fin 32)) = 0 ∧
      s.fld (F.DM_CFG_DST_SPACE (0 : Fin 32)) = 0 ∧ s.hasRoom (s.fld (F.DM_CTL_QID (0 : Fin 32))) 16 = true ∧
      s.inDdr (s.dmaDst (0 : Fin 32)) l.length = true ∧ s.poison = [] := by
  rw [h]
  simp only [remoteReceived, fld_withDma, bit_withDma, hasRoom_withDma, inDdr_withDma, dmaDst_withDma]
  exact channel_remoteStalled

/-- A channel that has ended shows fewer bytes in XFER than a register can hold. -/
theorem Ended.xfer_lt {s v : State} {n : Fin 32} {st cause x : Nat} {late : Bool} (h : Ended s v n st cause x late) : x < 2 ^ 32 :=
  h.xfer ▸ (v.rd (R.DM_XFER n)).isLt

/-- Refutes O49: a remote timeout keeps the bytes received, and where they are 2^32 the XFER of 32 bits does not show their number. -/
theorem not_dmaTransfersStartAndEnd : ¬ Obligations.DmaTransfersStartAndEnd := by
  unfold Obligations.DmaTransfersStartAndEnd
  rintro ⟨-, -, -, -, -, -, -, -, -, -, -, htimeout, -⟩
  obtain ⟨l, hlength, hclean⟩ := exists_bytes (2 ^ 32)
  obtain ⟨hbusy, hsrc, hcomp, hdst, hroom, hin, hpoison⟩ := channel_remoteReceived l hlength
  have hdma := dma_remoteReceived l
  -- Of the state only these facts count; nothing unfolds its list.
  revert hbusy hsrc hcomp hdst hroom hin hpoison hdma
  generalize remoteReceived l = s
  intro hbusy hsrc hcomp hdst hroom hin hpoison hdma
  have h := htimeout 0 s hbusy (by rw [hdma]; rfl)
  rw [if_pos ⟨hsrc, hcomp⟩, hdma] at h
  obtain ⟨v, -, -, hended, -⟩ := (h hroom (by rw [hdst]; decide) hin hclean (by simp [hpoison])).1 (.inr ⟨rfl, rfl⟩)
  have hlt : l.length < 2 ^ 32 := hended.xfer_lt
  omega

end Sys2Proof.Machine
end

section
/-!
PROOFS. A bus clear fails on an enabled port: TOP_READY.TW falls, and its fall posts a FAULT record (R30, R446), which the statement's clause of
BUS_CLEAR_DONE does not allow.
-/
namespace Sys2Proof.Machine

/-- After reset, but port 0 is enabled, TOP_READY.TW is 1 and a bus clear of port 0 runs. -/
def twClearing : State :=
  let s := (State.reset.flag (F.TW_CTL_EN 0)).flag ⟨R.TOP_READY, 1, 1⟩
  { s with tw := s.tw.set 0 { TwS.init with clear := true } }

/-- The bus clear of port 0 ends with SDA stuck (R386). -/
def State.twStuck (s : State) : State :=
  (((((s.modTw 0 (fun t => { t with clear := false })).twBusy 0).flag (F.TW_STAT_STUCK_SDA 0)).setFld (F.TW_STAT_READY 0) 0).twReady)

theorem clear_twClearing : twClearing.tw[(0 : Fin 4)].clear = true := by simp [twClearing]

theorem exec_busClearDone_stuck {s : State} (h : s.tw[(0 : Fin 4)].clear = true) : exec (.busClearDone 0 false) s = done s s.twStuck := by
  have hclear : (s.twS 0).clear = true := h
  change execBusClearDone 0 false s = _
  simp [execBusClearDone, hclear, State.twStuck]

theorem segStat_twClearing : twClearing.rd R.SEG_STAT = 0 := by decide +kernel

/-- The record of the fall goes to a queue that is not in use, and so is dropped. -/
theorem segStat_twStuck : twClearing.twStuck.rd R.SEG_STAT = 2 := by decide +kernel

/-- Refutes O51: a bus clear that ends with SDA stuck takes TOP_READY.TW down, a FAULT record names the fall, and SEG_STAT notes that the record was
dropped. The clause frames the command by fields of the port and the ready bit alone. -/
theorem not_twoWireControllers : ¬ Obligations.TwoWireControllers := by
  unfold Obligations.TwoWireControllers
  rintro ⟨-, -, -, -, -, -, -, -, -, -, -, -, -, hstuck, -⟩
  obtain ⟨v, hexec, -, -, -, -, hframe⟩ := hstuck 0 twClearing clear_twClearing
  have hkept : v.rd R.SEG_STAT = 0 := (hframe.rd (by decide)).trans segStat_twClearing
  have hsame : v.rd R.SEG_STAT = twClearing.twStuck.rd R.SEG_STAT := rd_of_completed hexec (exec_busClearDone_stuck clear_twClearing) (by decide)
  rw [hkept, segStat_twStuck] at hsame
  exact absurd hsame (by decide)

end Sys2Proof.Machine
end
